-- ==== Sys2Proof/Word.lean ====
section
/-! DEFINITION. The words of the machine (R5): bytes, the 32-bit words of cores and registers, the 64-bit TNET count. -/
namespace Sys2Proof

/-- One octet of memory, of a frame or of an object (R5: multi-byte values are little-endian). -/
abbrev Byte := BitVec 8

/-- A 32-bit word of a core, of the system SRAM or of a register block. -/
abbrev Word := BitVec 32

end Sys2Proof
end

