-- ==== Sys2Proof/Machine/Bits.lean ====
section
/-! DEFINITION. Bit fields, two's complement values, little-endian byte strings and the counting idioms of the
manual (saturating and wrapping counters, truncation towards zero). -/
namespace Sys2Proof.Machine

/-- The `w` bits of `v` from bit `lo` upwards. -/
def slice (v lo w : Nat) : Nat := v / 2 ^ lo % 2 ^ w

/-- `v` with its `w` bits from `lo` upwards replaced by the low `w` bits of `x`. -/
def splice (v lo w x : Nat) : Nat :=
  v - slice v lo w * 2 ^ lo + (x % 2 ^ w) * 2 ^ lo

/-- Bit `n` of `v`. -/
def bit (v n : Nat) : Bool := v / 2 ^ n % 2 == 1

/-- `b` as the number 0 or 1. -/
def ofBool (b : Bool) : Nat := if b then 1 else 0

/-- The two's complement reading of the low `w` bits of `v`. -/
def signed (w v : Nat) : Int :=
  let u := v % 2 ^ w
  if 2 * u < 2 ^ w then (u : Int) else (u : Int) - (2 ^ w : Nat)

/-- The `w`-bit two's complement pattern of `i`, wrapping. -/
def unsigned (w : Nat) (i : Int) : Nat := (i % ((2 ^ w : Nat) : Int)).toNat

/-- `v` with bit `n` set. -/
def setBit (v n : Nat) : Nat := if bit v n then v else v + 2 ^ n

/-- `v` with bit `n` cleared. -/
def clearBit (v n : Nat) : Nat := if bit v n then v - 2 ^ n else v

/-- Division rounded up. -/
def divUp (a b : Nat) : Nat := (a + b - 1) / b

/-- A `w`-bit counter that saturates: one more, never past all ones. -/
def satInc (w v : Nat) : Nat := if v + 1 < 2 ^ w then v + 1 else 2 ^ w - 1

/-- `i` held within `[-m, m]`. -/
def clampInt (m i : Int) : Int := if i < -m then -m else if m < i then m else i

/-- The number that a little-endian byte string spells (R5). -/
def leNat : List Byte → Nat
  | [] => 0
  | b :: bs => b.toNat + 256 * leNat bs

/-- The `n` bytes of `v`, least significant first (R5). -/
def leBytes : Nat → Nat → List Byte
  | 0, _ => []
  | n + 1, v => BitVec.ofNat 8 v :: leBytes n (v / 256)

/-- `n` bytes of `bs` from index `off`, padded with zeros past its end. -/
def bytesAt (bs : List Byte) (off n : Nat) : List Byte :=
  let t := (bs.drop off).take n
  t ++ List.replicate (n - t.length) 0

/-- The little-endian number in `n` bytes of `bs` from index `off`. -/
def leAt (bs : List Byte) (off n : Nat) : Nat := leNat (bytesAt bs off n)

/-- `bs` with its element `i` replaced by `x`; unchanged where it has none. -/
def setAt {α : Type} (bs : List α) (i : Nat) (x : α) : List α := bs.set i x

/-- The number of ones among the low `w` bits of `v`. -/
def popCount : Nat → Nat → Nat
  | 0, _ => 0
  | w + 1, v => v % 2 + popCount w (v / 2)

/-- The lowest `n < w` with bit `n` of `v` set. -/
def lowestBit : Nat → Nat → Option Nat
  | 0, _ => none
  | w + 1, v => if v % 2 = 1 then some 0 else (lowestBit w (v / 2)).map (· + 1)

end Sys2Proof.Machine
end

