-- ==== Sys2Proof/Machine/Sparse.lean ====
section
/-! DEFINITION. Sparse maps as sorted association lists: the one form in which register fields, memory bytes, tags
and dictionary values are held. A key that is not listed holds its default, and no entry lists a default value, so
equal maps are equal lists. -/
namespace Sys2Proof.Machine

/-- A map from Nat keys; unlisted keys hold a default given by the reader. -/
abbrev Sparse (α : Type) := List (Nat × α)

/-- The value under key `k`, `d` where the map lists none. -/
def Sparse.read {α : Type} (d : α) : Sparse α → Nat → α
  | [], _ => d
  | (j, v) :: m, k => if j = k then v else Sparse.read d m k

/-- The map without key `k`. -/
def Sparse.erase {α : Type} (m : Sparse α) (k : Nat) : Sparse α := m.filter (fun e => e.1 != k)

/-- `m` with the entry `(k, v)` put in front of the first larger key. -/
def Sparse.place {α : Type} : Sparse α → Nat → α → Sparse α
  | [], k, v => [(k, v)]
  | (j, w) :: m, k, v => if k < j then (k, v) :: (j, w) :: m else (j, w) :: Sparse.place m k v

/-- The map in which key `k` holds `v`, where an unlisted `k` would hold `d`. -/
def Sparse.write {α : Type} [DecidableEq α] (d : α) (m : Sparse α) (k : Nat) (v : α) : Sparse α :=
  if v = d then m.erase k else (m.erase k).place k v

/-- The entries whose keys lie outside `[lo, hi)`. -/
def Sparse.dropRange {α : Type} (m : Sparse α) (lo hi : Nat) : Sparse α :=
  m.filter (fun e => decide (e.1 < lo) || decide (hi ≤ e.1))

/-- Keys strictly rising from above `b`. -/
def Sparse.sortedFrom {α : Type} : Nat → Sparse α → Bool
  | _, [] => true
  | b, (k, _) :: m => decide (b ≤ k) && Sparse.sortedFrom (k + 1) m

/-- The canonical form: keys strictly rising and no listed value equal to its key's default. -/
def Sparse.wf {α : Type} [DecidableEq α] (d : Nat → α) (m : Sparse α) : Bool :=
  Sparse.sortedFrom 0 m && m.all (fun e => decide (e.2 ≠ d e.1))

end Sys2Proof.Machine
end

