-- ==== Sys2Proof/Machine/RegField.lean ====
section
/-! DEFINITION. What a register map says of a field: where it stands, its width and reset value, its access code (R6)
and the values it accepts. -/
namespace Sys2Proof.Machine

/-- A register field: the address of its register, its lowest bit, its width and its reset value. -/
structure RegField where
  addr : Nat
  lsb : Nat
  width : Nat
  reset : Nat
deriving DecidableEq, Repr

/-- The key under which State holds the field: its register's address and its lowest bit. -/
def RegField.key (f : RegField) : Nat := f.addr * 32 + f.lsb

/-- `v` lies in a field's legal range. -/
def within (lo hi v : Nat) : Bool := decide (lo ≤ v) && decide (v ≤ hi)

/-- The two's complement value of `v` lies in a field's legal range. -/
def signedIn (w : Nat) (lo hi : Int) (v : Nat) : Bool := decide (lo ≤ signed w v) && decide (signed w v ≤ hi)

/-- The access codes of R6. -/
inductive Access | ro | rw | wo | w1c | w1s | rwl
deriving DecidableEq, Repr

/-- A field in its register's row: its access code, the written values it accepts (the field table's last sentence),
and whether it controls receive half B or its lanes (R3). -/
structure FieldRow where
  field : RegField
  access : Access
  legal : Nat → Bool := fun _ => true
  halfB : Bool := false

/-- A register, or `count` registers `stride` bytes apart; `whole` says that one illegal field value makes the device
ignore the whole write. -/
structure RegRow where
  base : Nat
  count : Nat
  stride : Nat
  whole : Bool := false
  rows : Nat → List FieldRow

/-- The rows of the register at address `a`, if this row holds it. -/
def RegRow.find? (r : RegRow) (a : Nat) : Option (List FieldRow × Bool) :=
  if r.base ≤ a ∧ (a - r.base) % r.stride = 0 ∧ (a - r.base) / r.stride < r.count then
    some (r.rows ((a - r.base) / r.stride), r.whole)
  else none

/-- The rows of the register at address `a` in a block's map; none at an unassigned offset. -/
def findReg : List RegRow → Nat → Option (List FieldRow × Bool)
  | [], _ => none
  | r :: rs, a => match r.find? a with
    | some x => some x
    | none => findReg rs a

end Sys2Proof.Machine
end

