-- ==== Sys2Proof/Machine/StateTag.lean ====
section
/-! DEFINITION. The state of the contactless tag port (spec/17_contactless_tag.md). -/
namespace Sys2Proof.Machine

/-- The states of ISO/IEC 15693-3 (R402). -/
inductive TagState | ready | quiet | selected
deriving DecidableEq, Repr

/-- Core side and field side of the tag port. -/
inductive TagSide | core | field
deriving DecidableEq, Repr

/-- What a protected write is for: plain data, a password attempt with what PRESENT_PASSWORD still has to do, the clearing
of the attempts that a right password earns, CLEAR_ATTEMPTS. -/
inductive TagPurpose
  | data
  | attempt (area kind : Nat) (password : Nat)
  | opened (area kind : Nat)
  | clear
deriving DecidableEq, Repr

/-- The protected write that runs (R412). -/
structure TagWrite where
  side : TagSide
  block : Nat
  data : Nat
  purpose : TagPurpose := .data
deriving DecidableEq, Repr

structure TagPort where
  ready : Bool := false
  field : Bool := false
  /-- Rectified voltage in 25 mV units. -/
  vrec : Nat := 0
  state : TagState := .ready
  readSessions : Nat := 0
  writeSessions : Nat := 0
  write : Option TagWrite := none
  /-- The side that was refused during the present hold, and the side the semaphore is reserved for (R416, R417). -/
  refused : Option TagSide := none
  reserved : Option TagSide := none
  recovered : Bool := false
  /-- Areas whose lockout has not been reported yet (R410). -/
  lockouts : List Nat := []
  /-- The answer to the last request: none where there is none, else its flags byte and data (R404). -/
  answer : Option (List Byte) := none
  /-- Response slot of the last Inventory. -/
  slot : Nat := 0
  /-- E120 follows the wake that the field asked for (R419). -/
  event : Bool := false
deriving DecidableEq, Repr

/-- How a request is addressed (R402): to any tag, to this tag by its UID, to another tag, to the selected tag. -/
inductive TagAddr | any | own | other | selected
deriving DecidableEq, Repr

/-- What surrounds a field request: its addressing, Sub-carrier_flag and Option_flag, a core-side request in the same
cycle, and VREC in 25 mV units. -/
structure TagReq where
  addr : TagAddr := .any
  sub : Bool := false
  option : Bool := false
  tie : Bool := false
  vrec : Fin 256 := 0
deriving DecidableEq, Repr

end Sys2Proof.Machine
end

