-- ==== Sys2Proof/Machine/HostTypes.lean ====
section
/-! DEFINITION. Operand types of the commands of the host ports: who sends a request, and what it finds beside the state. -/
namespace Sys2Proof.Machine

/-- A master (R359): its transport, 0 SPI, 1 CAN FD, 2 Ethernet, 3 UART, 4 mesh, and its 8-byte address field read as a
little-endian number. -/
structure HostId where
  transport : Nat
  addr : Nat := 0
deriving DecidableEq, Repr

/-- What an access to an object finds beside the state: the store in flash fails (R369), OTP or flash programming fails, the
previous package chunk is still being written (R438), and what the tag's field side does meanwhile (R420). -/
structure DictEnv where
  storeFail : Bool := false
  otpFail : Bool := false
  flashFail : Bool := false
  writing : Bool := false
  busyAfter : Nat := 1024
  badAt : Option Nat := none
deriving DecidableEq, Repr

/-- Who sends a Recovery request (R440): a master of a host port with the TID of its frame, or a reader in the tag field. -/
inductive Peer
  | host (id : HostId) (tid : Nat)
  | field (req : TagReq)
deriving DecidableEq, Repr

/-- What a request finds: the requests queued before it (R373), and what its access finds. -/
structure HostEnv where
  load : Nat := 0
  dict : DictEnv := {}
deriving DecidableEq, Repr

end Sys2Proof.Machine
end

