-- ==== Sys2Proof/Machine/StateMem.lean ====
section
/-! DEFINITION. The state of the memories and of the flash controller that no register shows
(spec/13_memories_error_codes.md, spec/14_flash_controller.md). -/
namespace Sys2Proof.Machine

/-- The tags of R272. -/
inductive Tag | int | frac | ptr | code | bool | raw | handle | empty
deriving DecidableEq, Repr

/-- A merge buffer entry (R326): its place among the four, the bus address of its page, the bytes stored into its image
(0xFF elsewhere); whether a flush of it has been triggered, and whether it is the last of that flush. -/
structure MergeEntry where
  slot : Nat
  page : Nat
  image : Sparse Byte := []
  flushing : Bool := false
  lastOf : Bool := false
deriving DecidableEq, Repr

/-- A queued descriptor (R343), or the program of a merge entry (R344). -/
structure FlashDesc where
  op : Nat
  flags : Nat := 0
  tag : Nat := 0
  faddr : Nat := 0
  buf : Nat := 0
  rsv : Nat := 0
  core1 : Bool := false
  merge : Bool := false
deriving DecidableEq, Repr

/-- A descriptor that runs (R344, R345): its final status once known, what its record says, the bytes read or to be
programmed, the SE cycle of its start, and the merge pages a FLUSH_MERGE waits for. -/
structure FlashRun where
  desc : FlashDesc
  status : Option Nat := none
  result : Nat := 0
  bits : Nat := 0
  value : Nat := 0
  data : List Byte := []
  start : Nat := 0
  pages : List Nat := []
deriving DecidableEq, Repr

/-- A decoded page in a page buffer (R341), by physical page number. -/
structure PageBuf where
  page : Nat
  data : List Byte
  poisoned : Bool := false
deriving DecidableEq, Repr

/-- One bank: the descriptor that runs, a read that runs beside a suspended operation, the suspensions of the operation
(R346), the page buffers, most recently used first, and the journal's next sequence number. -/
structure FlashBank where
  run : Option FlashRun := none
  side : Option FlashRun := none
  susp : Nat := 0
  bufs : List PageBuf := []
  seq : Nat := 0
deriving DecidableEq, Repr

structure Flash where
  /-- Descriptors queued or running, in push order (R344). -/
  queue : List FlashDesc := []
  /-- Completion records, oldest first (R346). -/
  done : List (List Byte) := []
  bank0 : FlashBank := {}
  bank1 : FlashBank := {}
  /-- A FLUSH_MERGE that runs. -/
  mergeRun : Option FlashRun := none
  /-- Merge entries in the order in which they were taken (R327). -/
  merge : List MergeEntry := []
  /-- Spare bytes of the pages (R320), by 64 × physical page + offset; erased ones read 0xFF. -/
  spare : Sparse Byte := []
  /-- Pages left undefined by a loss of power (R349). -/
  undef : Sparse Bool := []
deriving DecidableEq, Repr

/-- The system SRAM's tags and the patrol's next words (R314, R319). -/
structure MemCtl where
  tags : Sparse Tag := []
  patrolSys : Nat := 0x20000000
  patrolPkt : Nat := 0x24000000
deriving DecidableEq, Repr

end Sys2Proof.Machine
end

