-- ==== Sys2Proof/Machine/SloeTypes.lean ====
section
/-! DEFINITION. Operand types of the commands of a Sloe core: a repeat count, and what a debug port does. -/
namespace Sys2Proof.Machine

/-- The count of REP (R308): immediate (R = 0), or in a register (R = 1). -/
inductive RepCount
  | imm (n : Fin 65536)
  | reg (ga : Fin 16)
deriving DecidableEq, Repr

/-- What the debug port asks of a core (R296): a halt, or while the core is halted an access to a G register, a system
register or memory; `boundary` is no request of the port: a pending HALT_REQ halts. -/
inductive DebugOp
  | boundary
  | halt
  | readG (n : Fin 16)
  | writeG (n : Fin 16) (tag : Fin 8) (data : Word)
  | readSys (arg : Fin 256)
  | writeSys (arg : Fin 256) (tag : Fin 8) (data : Word)
  | load (ptr : Word)
  | store (ptr : Word) (tag : Fin 8) (data : Word)
deriving DecidableEq, Repr

end Sys2Proof.Machine
end

