-- ==== Sys2Proof/Machine/StateRadio.lean ====
section
/-! DEFINITION. The state of the RF island and of the channelizer island that no register shows: calibrations,
regulatory profile and duty accounts, test operations, lanes, the channel map, the leakage canceller and the crossing
that carries detection records to the slot engine. -/
namespace Sys2Proof.Machine

/-- What a path keeps of its calibrations (R41 to R46): die temperature at its last synthesiser calibration (none: it
holds no calibration), whether TEMP_DELTA marked it, and its last result words. -/
structure PathCal where
  calTemp : Option Int := none
  marked : Bool := false
  vco : Nat := 0
  imr : Nat := 0
  chbw : Nat := 0
  dciq : Nat := 0
  /-- State that a command or return state asked for and the path has not reached. -/
  goal : Option Nat := none
deriving DecidableEq, Repr

/-- A calibration that runs or is held (R46): its TYPE, its target path, for how many slots it has been held, and whether
a CALIBRATION cell of the background policy started it (R45). -/
structure Calibration where
  type : Nat
  target : Nat
  slots : Nat
  background : Bool
deriving DecidableEq, Repr

/-- One duty group's rolling-hour account (R58, R59): one-second buckets in 100 µs units, their sum, the seconds left
until the last pre-charged bucket leaves the window, and the SE cycle at which the group's last transmission ended. -/
structure DutyGroup where
  buckets : Sparse Nat := []
  sum : Nat := 0
  precharged : Nat := 0
  lastEnd : Option Nat := none
deriving DecidableEq, Repr

/-- The running test operation (R60, R61). -/
structure TestOp where
  op : Nat := 0
  running : Bool := false
  framesLeft : Nat := 0
  lane : Nat := 0
  savedProfile : Nat := 0
  startCycle : Nat := 0
  rssiSum : Int := 0
  offsetSum : Int := 0
  record : List Byte := []
deriving DecidableEq, Repr

/-- A coefficient set of a half's leakage canceller (R93). -/
structure LeakSet where
  carrier : Nat
  antCfg : Nat
  converged : Bool
deriving DecidableEq, Repr

/-- The parameters from which the 1024-entry channel map of R69 follows: the map itself is `mapChannel` of these. -/
structure MapParams where
  f0 : Nat := 463700000
  spacing : Nat := 200000
  count : Nat := 64
  centreA : Nat := 470000000
  centreB : Nat := 470000000
  planA : Nat := 0
  planB : Nat := 0
  twin : Bool := false
deriving DecidableEq, Repr

/-- The sync that a lane matched (R80): native uncoded, native coded or legacy. -/
inductive SyncKind | nativeUncoded | nativeCoded | legacy
deriving DecidableEq, Repr

/-- A detection record (R80). -/
structure DetRec where
  place : Nat          -- bit 6 the half, bits 5 to 0 the lane
  profile : Nat
  sync : SyncKind
  errs : Nat
  tSfd : Nat
  rssi : Int
  offset : Int
  dgain : Nat
  fdx : Bool
  profWord : Nat       -- the receive profile in force for the frame
  scan : Bool
  /-- First frame detected in its window, with the window's context and effective guard; `ackWin` for a
  frame of an acknowledgement window. -/
  first : Bool := true
  winCtx : Option Nat := none
  /-- Context and guard of the further cells of the window, its channel offset and its channel's frequency. -/
  peers : List (Nat × Nat) := []
  choff : Nat := 0
  freq : Nat := 0
  gEff : Nat := 0
  ackWin : Bool := false
  followUp : Bool := false
  /-- The frame's end status word has followed (R80). -/
  ended : Bool := false
deriving DecidableEq, Repr

/-- What a lane keeps beside its registers (R76, R79): whether its window is open and how many frames it still
accepts, the profile word in force, the reasons it is blanked, and the frame it is receiving. -/
structure Lane where
  window : Bool := false
  framesLeft : Nat := 0
  prof : Nat := 0x7FF70800
  profStale : Bool := false
  blankTx : Bool := false
  blankCal : Bool := false
  blankRetune : Bool := false
  offPending : Bool := false
  frameFdx : Bool := false
  clamped : Bool := false
  refused : Bool := false
deriving DecidableEq, Repr

/-- The RF and channelizer islands' own state. -/
structure Radio where
  pathA : PathCal := {}
  pathB : PathCal := {}
  pathT : PathCal := {}
  /-- The calibration in progress, and the explicit one held for its CALIBRATION cell (R46). -/
  calib : Option Calibration := none
  calHeld : Option Calibration := none
  /-- Calibrations of the slot's CALIBRATION cells that wait for the one in progress (R45). -/
  calWait : List Calibration := []
  rotA : Nat := 0
  rotB : Nat := 0
  /-- Regulatory profile image in force (R52) and the accepted one that waits for its boundary (R56). -/
  profile : List Byte := []
  waiting : Option (List Byte) := none
  duty : Sparse DutyGroup := []
  second : Nat := 0
  test : TestOp := {}
  /-- A transmission's blanking window is active (R50). -/
  txWindow : Bool := false
  /-- Half A frequency, half B frequency staged for the next boundary (R40). -/
  stagedA : Option Nat := none
  stagedB : Option Nat := none
  /-- PLAN of each half in force (R67). -/
  planA : Nat := 0
  planB : Nat := 0
  /-- Last VSUP sample in mV (R34, R456). -/
  vsup : Nat := 3300
  /-- The lines of R48, asserted or not (before polarity). -/
  extTr : Bool := false
  extLnaA : Bool := false
  extLnaB : Bool := false
  extPaEn : Bool := false
  leakA : List LeakSet := []
  leakB : List LeakSet := []
  /-- E39 was raised for the present transmission, by half. -/
  leakCheckedA : Bool := false
  leakCheckedB : Bool := false
  lanes : Sparse Lane := []
  mapCur : MapParams := {}
  mapNext : Option MapParams := none
  twinStaged : Option Bool := none
  detFifo : List DetRec := []
  /-- Carrier of the present or last transmission in Hz, as requested and after pre-correction. -/
  carrier : Nat := 470000000
deriving DecidableEq, Repr

end Sys2Proof.Machine
end

