-- ==== Sys2Proof/Machine/StateSlot.lean ====
section
/-! DEFINITION. The state of the slot engine and of the medium access functions: program buffers, units of work, receive
windows, the transmission on the air, drop log, queues, indirect store, staged contexts and synchronisation. -/
namespace Sys2Proof.Machine

/-- An address of a MAC frame. -/
inductive MacAddr | none | short (a : Nat) | ext (a : Nat)
deriving DecidableEq, Repr

/-- The header fields of a received frame that PARSE reads. -/
structure MacHeader where
  frameType : Nat := 0
  version : Nat := 0
  secured : Bool := false
  pending : Bool := false
  ar : Bool := false
  seq : Option Nat := Option.none
  destPan : Option Nat := Option.none
  dest : MacAddr := MacAddr.none
  srcPan : Option Nat := Option.none
  src : MacAddr := MacAddr.none
  /-- Security level, key identifier mode, frame counter and key index of the auxiliary security header. -/
  level : Nat := 0
  kidm : Nat := 0
  fc : Option Nat := Option.none
  keyIndex : Nat := 0
  /-- Octets from the frame's start to the MAC payload, payload IEs excluded. -/
  headerLen : Nat := 0
  iesBad : Bool := false
  /-- Time Correction IE's time sync information, if one is carried. -/
  timeCorr : Option Nat := Option.none
  /-- ASN of a TSCH Synchronization IE, if one is carried. -/
  asn : Option Nat := Option.none
deriving DecidableEq, Repr

/-- The outcomes of R158; `noContext` for a frame of R157. -/
inductive Outcome158 | undecided | deliver | duplicate | replay | authFail | noContext
deriving DecidableEq, Repr

/-- Where a twin-receive copy stands (R91). -/
inductive TwinCopy | single | waiting | lost
deriving DecidableEq, Repr

/-- One received frame in stages 0 to 8. -/
structure RxUnit where
  id : Nat
  stage : Nat := 0
  asn : Nat := 0
  boundary : Nat := 0           -- TNET of the owning slot's boundary
  det : DetRec
  ended : Bool := false         -- last soft symbol has arrived
  blanked : Bool := false
  length : Nat := 0             -- octets of the PHR length; 0 until PHR
  fcsLen : Nat := 4
  dw : Bool := false
  psdu : List Byte := []
  decodeFail : Bool := false
  crcDone : Bool := false       -- CRC is over and the unit waits for its twin copy
  fcsOk : Bool := false
  hdr : MacHeader := {}
  ctx : Option Nat := none
  stale : Bool := false
  key : Option Nat := none      -- key slot that SECURE used
  authFail : Bool := false
  verified : Bool := false
  unchecked : Bool := false
  outcome : Outcome158 := .undecided
  ackGranted : Bool := false
  straddled : Bool := false
  twin : TwinCopy := .single
  twinKept : Option Nat := none -- kept half of a resolved pair
deriving DecidableEq, Repr

/-- What a transmission is. -/
inductive TxKind | data | followUp | poll | beacon | ack | test | legacy
deriving DecidableEq, Repr

/-- How far a transmission's radio activity has come. -/
inductive TxPhase | pipeline | locked | ramp | tx | rampDown | ackWait
deriving DecidableEq, Repr

/-- What a transmission of the compatibility engine is (R395); an orphan belongs to no frame of the engine any more and
only ends its time on the air (R390, R391, R399). -/
inductive LegacyAir | data | beacon | ack | orphan
deriving DecidableEq, Repr

/-- One transmission in stages 9 to 15. -/
structure TxUnit where
  id : Nat
  stage : Nat := 10
  kind : TxKind
  phase : TxPhase := .pipeline
  asn : Nat := 0
  desc : Option Nat := none
  queue : Nat := 0
  ctx : Option Nat := none
  extended : Bool := false
  shared : Bool := false        -- sent in a SHARED cell
  cellAck : Bool := false
  channel : Nat := 0
  choff : Nat := 0
  freq : Nat := 0
  lenLimit : Nat := 2047
  profile : Nat := 0
  profWord : Nat := 0
  rupWord : Nat := 0            -- TXP_RAMP word copied by ENCODE
  power : Int := 0
  ackReq : Bool := false
  secure : Bool := false
  seq : Nat := 0
  octets : List Byte := []      -- MHR and payload, then with MIC
  hdrLen : Nat := 0
  length : Nat := 0             -- PSDU octets, FCS included
  bits : List Bool := []
  preBits : Nat := 0            -- raw bits of preamble and SFD among them
  fir : List Int := []          -- shaping taps copied by ENCODE
  rtab : List Nat := []         -- custom ramp table copied by ENCODE
  mask : List (Nat × Nat) := [] -- valid mask table copied by ENCODE: offset in kHz, limit in −0.5 dBc
  maskErr : Bool := false
  ordinal : Nat := 1            -- TX_UNITS unit that it takes in its slot
  noAr : Bool := true           -- no acknowledgement is expected
  devs : List Int := []
  carrier : Nat := 0
  planned : Nat := 0            -- planned on-air time in SE cycles
  used : Nat := 0               -- SE cycle at which TX_RAMP was entered
  group : Option Nat := none
  rampSecond : Nat := 0
  aborted : Bool := false
  status : Nat := 1             -- status with which it will complete
  ackFor : Option Nat := none   -- receive unit that an acknowledgement answers
  ackKey : Option Nat := none   -- key that verified the acknowledged frame
  level : Nat := 0              -- security level of the frame
  tc : Int := 0                 -- time correction that an acknowledgement carries, µs
  ackDest : MacAddr := MacAddr.none   -- source of an acknowledged frame
  released : Bool := true       -- acknowledged frame committed (R139)
  tTx : Nat := 0
  air : LegacyAir := .data
  dlen : Nat := 0               -- data octets that a legacy frame declares
  fresh : Bool := false         -- a legacy frame whose octets still come from the transmit FIFO
  backToCell : Nat := 0
deriving DecidableEq, Repr

/-- A further cell that a window serves. -/
structure WinPeer where
  ctx : Option Nat
  timekeep : Bool
  gEff : Nat
  valid : Bool := false
deriving DecidableEq, Repr

/-- A receive window of the present slot (R127, R149). -/
structure RxWindow where
  lane : Nat
  asn : Nat := 0
  ctx : Option Nat
  timekeep : Bool
  kind : Nat
  gEff : Nat
  isOpen : Bool := false
  closed : Bool := false
  /-- The other cells that the window serves (R70: two cells that map to one lane share it). -/
  peers : List WinPeer := []
  /-- Channel offset of the cell and frequency of its channel. -/
  choff : Nat := 0
  freq : Nat := 0
  detected : Nat := 0
  valid : Bool := false
  ackOf : Option Nat := none    -- transmission whose acknowledgement it awaits
  followUp : Bool := false
deriving DecidableEq, Repr

/-- A drop record (R146). -/
structure DropRec where
  asn : Nat
  stage : Nat
  boundary : Bool
  twin : Bool
  transmit : Bool
  ctx : Option Nat
  place : Nat
  length : Nat
deriving DecidableEq, Repr

/-- Who gives a program command or writes an image (R126). -/
inductive Master | core0 | core1 | host
deriving DecidableEq, Repr

/-- The slot engine's own state. -/
structure SlotEngine where
  buf0 : Sparse Byte := []
  buf1 : Sparse Byte := []
  /-- SWAP_ASN and NEW_ASN taken by an accepted ARM_SWAP. -/
  armed : Option (Nat × Nat) := none
  /-- Path of the LOAD being verified. -/
  loadBy : Master := .host
  rx : List RxUnit := []
  tx : List TxUnit := []
  nextId : Nat := 0
  slotUnits : List Nat := List.replicate 16 0
  txUsed : Nat := 0
  windows : List RxWindow := []
  calCells : List Nat := []
  dropLog : List DropRec := []
  mismatches : List Nat := []
  twinTest : Option (Nat × Nat) := none
  /-- Identity of the unit whose transmission is on the air or awaits its acknowledgement. -/
  onAir : Option Nat := none
  boundary : Nat := 0
  slotAsn : Nat := 0
  /-- Calibration policy in force: that of the last LOAD (RFC_CALCFG, R144). -/
  policy : Nat := 0
  /-- Coarse TNET step that FORCE applies at the next boundary (R225), and the slot that follows it is partial. -/
  coarse : Option Int := none
  partialSlot : Bool := false
  /-- Native mode that a requested transition enters (R28). -/
  modeReq : Option Nat := none
deriving DecidableEq, Repr

/-- A waiting entry of a transmit queue (R171 to R173). -/
structure QEntry where
  desc : Nat
  ctx : Nat
  queue : Nat
  cls : Nat
  age : Nat := 0
  classAge : Nat := 0
  backoff : Nat := 0
  attempts : Nat := 0
  seq : Option Nat := none
  fc : Option Nat := none
  /-- An attempt is under way: the entry is not waiting. -/
  busy : Bool := false
  /-- The SHARED cell that took the transmitter passed the entry over and decremented its backoff count (R173). -/
  skip : Bool := false
deriving DecidableEq, Repr

/-- A frame of the indirect store (R170). -/
structure PendEntry where
  desc : Nat
  ctx : Nat
  since : Nat
  attempts : Nat := 0
  seq : Option Nat := none
  fc : Option Nat := none
  busy : Bool := false
deriving DecidableEq, Repr

/-- A context image or deletion staged for the next boundary (R155). -/
structure CtxStage where
  index : Nat
  delete : Bool
  image : List Byte
deriving DecidableEq, Repr

/-- The MAC island's own state. -/
structure Mac where
  staged : Option CtxStage := none
  queue : List QEntry := []
  pending : List PendEntry := []
  txDone : List Nat := []
  beaconSeq : Nat := 0
  dataSeq : Nat := 0
  rateAcc : Int := 0
  /-- Rate that the accumulator adds every SE cycle, in 1/16 ppb (R163, R223). -/
  rate : Int := 0
  /-- The backoff generator's LFSR (R442). -/
  lfsr : Nat := 0
  pendCorr : Int := 0
  scanK : Nat := 0
  /-- MAC_CTXBUF. -/
  ctxBuf : List Byte := List.replicate 64 0
  pollWanted : Bool := false
  /-- Follow-up of the next slot: the context and whether this device sends it (parent) or receives it (child). -/
  followUp : Option (Nat × Bool) := none
  followChan : Nat := 0
  evictWanted : Bool := false
  rxBlock : Nat := 0
  /-- First block and block count of every occupied delivery entry, oldest first. -/
  dqBlocks : List (Nat × Nat) := []

  /-- Half of the last running program (R166). -/
  nodeHalf : Nat := 0
deriving DecidableEq, Repr

end Sys2Proof.Machine
end

