-- ==== Sys2Proof/Syntax.lean ====
section
/-! DEFINITION. The commands of the block: one constructor per row of spec/opcode_table.json, in the table's order,
with the operands that the rule of the row gives the step (a register's written value, a frame's octets, what the
analog parts and the outside world supply). -/
namespace Sys2Proof

open Machine (SyncKind Master TagReq RepCount DebugOp HostId HostEnv DictEnv Peer)

/-- The three sub-GHz paths (R37): receive halves A and B, transmitter. -/
inductive Path | a | b | t
deriving DecidableEq, Repr

/-- The two receive halves. -/
inductive Half | a | b
deriving DecidableEq, Repr

inductive Instr where
  /-- R6. A write to a register field that has no row of its own sets the field under its access code, or is ignored as R7 and the field tables state. -/
  | registerWrite (addr : Fin 0x140000) (value : Word) (core1 : Bool) (rom : Bool)
  /-- R12. A detection record leaves the channelizer to slot engine FIFO once the CAPTURE input queue has room for the unit it starts. -/
  | detectionRecordDequeue (parityErr : Bool)
  /-- R28. The owner writes object 0x1011.00; the write is refused for 0x0, while PENDING, or out of range, or else a transition is started. -/
  | modeWrite (value : Nat)
  /-- R28. A requested native mode transition takes effect, at the slot boundary or within 1 ms with no program, stopping the program and completing unlaunched descriptors with MODE_CHANGE. -/
  | modeTransition
  /-- R37. A write to RFC_CMD requests a state change of an unowned path, or is ignored with CMD_REJ on an owned path. -/
  | radioStateCommand (value : Word)
  /-- R37. A path completes a state transition after its settling or lock time and raises E16, and E17 when the synthesiser locks. -/
  | radioStateReached (path : Path)
  /-- R42. A synthesiser loses lock, raises E18 and recalibrates at once. -/
  | synthUnlock (path : Path)
  /-- R40. A write to RFC_FREQ_A, B or T is range-checked, refused on an owned path, or in Concentrator mode staged for the next boundary with RETUNE blanking. -/
  | freqWrite (path : Path) (value : Word)
  /-- R42. The die temperature moves by more than DELTA_T since a path's calibration, raising E21 and marking the paths for recalibration. -/
  | tempDelta (temp : Int)
  /-- R46. A write to RFC_CALCMD or 0x2020.00 starts, holds or refuses an explicit calibration. -/
  | calibrationStart (value : Word)
  /-- R44. A calibration completes, stores its result or keeps old coefficients with RANGE, and raises E19 or E20. -/
  | calibrationDone (inRange : Bool) (result : Word)
  /-- R46. A held calibration finds no CALIBRATION cell within 65 535 slots and ends ABORTED. -/
  | calHoldExpired
  /-- R47. An ADC sample at full scale raises E28 or E29, increments SAT_COUNT and during a blanking window blanks the whole half. -/
  | adcSaturation (half : Half)
  /-- R55. A write of regulatory profile object 0x2010.01 is accepted under R53 or refused with RANGE or ACCESS. -/
  | profileWrite (image : List Byte)
  /-- R55. Writing 1 to 0x2010.02 sets REGLOCK in OTP, anchors the profile hash and serial and raises E30. -/
  | reglockSet (value : Nat)
  /-- R55. A regulatory certificate written to 0x2010.04 is verified and its profile accepted or refused. -/
  | regCertWrite (cert : List Byte)
  /-- R58. Each reference second the bucket leaving every group's rolling-hour window is subtracted and cleared. -/
  | dutySecondTick
  /-- R118. SLE_CMD STOP ends the running program at the next slot boundary after applying the boundary rules. -/
  | programStop
  /-- R60. Test operation STOP ends the running test operation with a ramp-down to IDLE. -/
  | testStop
  /-- R60. Test operation CW sends an unmodulated carrier for RFC_TESTDUR after the regulatory checks. -/
  | testCw
  /-- R60. Test operation MODCARRIER sends a PN9-modulated carrier for RFC_TESTDUR after the checks. -/
  | modcarrier
  /-- R61. Test operation PER_TX sends the PER frame count, each checked and charged, counting into 0x2030.02. -/
  | perTx
  /-- R61. Test operation PER_RX opens a window on the mapped lane and counts good and bad frames until STOP. -/
  | perRx
  /-- R61. Test operation CALREAD copies all calibration results and the temperature into 0x2030.02. -/
  | calread
  /-- R60. The RFC_TESTDUR duration of a CW or MODCARRIER run expires and the carrier ramps down. -/
  | testDurationEnd
  /-- R76. A write of CHZ_PROFn is applied or ignored whole with PROF_ERR, taking effect per lane when it is next idle. -/
  | rxProfileWrite (index : Fin 4) (value : Word)
  /-- R90. A write of TWIN_EN is accepted for the next boundary or ignored with TWIN_REJ. -/
  | twinEnWrite (en : Bool)
  /-- R69. A change of plan, half centre, PLAN or TWIN_EN rebuilds the 1024-entry lane map, taking effect at the boundary. -/
  | channelMapRebuild
  /-- R79. At the window opening time the slot engine opens the lane's search window and the lane enters SEARCH. -/
  | rxWindowOpen (lane : Fin 128)
  /-- R149. A receive window closes; a searching lane goes IDLE and an empty window updates MISS and may raise E59. -/
  | rxWindowClose (lane : Fin 128)
  /-- R78. A lane correlator matches a native SFD or legacy sync word, the lane enters FRAME and emits a detection record. -/
  | syncMatch (lane : Fin 128) (sync : SyncKind) (errs : Fin 7) (rssi : Int) (offset : Int) (dgain : Fin 43)
  /-- R79. A lane's frame ends and it sends its end status word, returning to SEARCH or IDLE. -/
  | laneFrameEnd (lane : Fin 128) (gain : Fin 16)
  /-- R50. The blanking window ends 2 000 SE cycles after ramp-down and blanked lanes return to SEARCH or IDLE. -/
  | blankingEnd
  /-- R91. The twin pairing time ends with one copy only, which is then processed as a single copy. -/
  | twinPairTimeout (unit : Nat)
  /-- R93. A canceller coefficient set first reaches LEAK_TARGET, is marked converged and raises E38. -/
  | leakConverged (half : Half) (suppr : Nat)
  /-- R93. After 20 000 SE cycles of transmission a converged set below LEAK_MIN raises E39 and is marked unconverged. -/
  | leakResidualCheck (half : Half) (suppr : Nat)
  /-- R98. A write of TXP_PROFn is applied or ignored whole with PROF_ERR. -/
  | txProfileWrite (index : Fin 4) (value : Word)
  /-- R129. Stage 0 timestamps a received frame and records lane, RSSI and offset. -/
  | captureStage (unit : Nat) (charge : Nat)
  /-- R82. Stage 1 decodes and tests the PHY header, refusing bad headers with E35. -/
  | phrStage (unit : Nat) (charge : Nat) (ms : Bool) (fcsT : Bool) (dw : Bool) (length : Nat)
  /-- R81. Stage 2 combines repetitions, de-interleaves, FEC-decodes and de-whitens, marking DECODE_FAIL on a bad termination. -/
  | decodeStage (unit : Nat) (charge : Nat) (soft : List Int)
  /-- R81. Stage 3 checks the FCS of the frame. -/
  | crcCheck (unit : Nat) (charge : Nat)
  /-- R156. Stage 4 parses addressing and IEs and discards malformed or foreign frames into MAC_RXDISC. -/
  | parseStage (unit : Nat) (charge : Nat)
  /-- R156. Stage 5 finds the sender's context by address, or marks the frame NO_CONTEXT. -/
  | lookupStage (unit : Nat) (charge : Nat)
  /-- R494. Stage 6 selects the key, checks usability, level and usage, and runs CCM* on a cipher lane. -/
  | secureRxStage (unit : Nat) (charge : Nat)
  /-- R158. Stage 7 classifies the frame as DELIVER, DUPLICATE, REPLAY or AUTH_FAIL and decides the acknowledgement. -/
  | admitStage (unit : Nat) (charge : Nat)
  /-- R175. Stage 8 commits the frame to the delivery queue and writes the context updates in the same cycle. -/
  | deliverStage (unit : Nat) (charge : Nat)
  /-- R171. Stage 9 selects the eligible transmit queue entry for the cell. -/
  | dequeueStage (charge : Nat)
  /-- R177. Stage 10 forms the header, IEs, security header and time correction of a transmission. -/
  | buildStage (unit : Nat) (charge : Nat)
  /-- R191. Stage 11 secures a transmission with KEY0 of its context on a cipher lane. -/
  | secureTxStage (unit : Nat) (charge : Nat)
  /-- R99. Stage 12 appends the FCS, whitens, encodes, interleaves, adds preamble and SFD and repeats. -/
  | encodeStage (unit : Nat) (charge : Nat)
  /-- R102. Stage 13 maps bits to deviations and shapes them with the Gaussian filter and FIR. -/
  | modulateStage (unit : Nat) (charge : Nat)
  /-- R106. Stage 14 reads the offset estimate and sets the pre-corrected carrier. -/
  | maskStage (unit : Nat) (charge : Nat)
  /-- R57. Stage 15 samples VSUP and runs the channel, power and duty checks, refusing or proceeding with the lock. -/
  | launchStage (unit : Nat) (charge : Nat) (vsup : Nat)
  /-- R131. A unit's charged count reaches its budget and the stage drops it with LATE, E52 and a drop record. -/
  | lateDrop (unit : Nat)
  /-- R114. At TX offset minus R_up the transmitter enters TX_RAMP, the ramp shape is checked and the duty account is charged. -/
  | txRampStart
  /-- R39. The ramp completes and the first symbol leaves at the TX offset, raising E22. -/
  | txFirstSymbol
  /-- R37. The last symbol ends and the ramp-down starts. -/
  | txEnd
  /-- R37. The ramp-down ends, E23 is raised, external lines move and the transmitter goes to its return state. -/
  | rampDownEnd
  /-- R110. Every 40 µs the mask monitor forms and averages a periodogram and aborts the ramp if a bin exceeds its limit. -/
  | maskPeriodogram (levels : List Int)
  /-- R118. A write into STANDBY through SLE_IMAGE or 0x4001.00 stores bytes or is ignored with WR_REJ. -/
  | imageWrite (offset : Nat) (bytes : List Byte)
  /-- R118. SLE_CMD LOAD starts signature verification and LOAD_CHECK of a WRITTEN STANDBY. -/
  | loadProgram (who : Master)
  /-- R132. Verification and LOAD_CHECK finish; STANDBY becomes CHECKED with E49 or REFUSED with E50 and a code. -/
  | loadCheckDone
  /-- R143. SLE_CMD ARM_SWAP arms a checked program for the first-program start or a swap at SWAP_ASN, or is refused. -/
  | armSwap
  /-- R118. SLE_CMD CANCEL disarms an ARMED STANDBY back to CHECKED. -/
  | programCancel
  /-- R118. SLE_CMD CLEAR empties STANDBY unless it is CHECKING. -/
  | programClear
  /-- R143. With no program running an armed STANDBY becomes ACTIVE at the first aligned TNET, raising E51. -/
  | firstProgramStart
  /-- R137. slot_tick returns to 0, ASN advances, boundary rules apply to the ended slot's units, pending changes take effect, E48 is raised and cells are selected. -/
  | slotBoundary (gainA : Fin 16) (gainB : Fin 16)
  /-- R141. The lockstep comparator finds the two copies disagree and discards or aborts the unit, raising E53. -/
  | twinMismatch (unit : Nat)
  /-- R141. A third unit mismatch within W slots or a sequencer mismatch stops radio commands and requests a lock-up reset with E54. -/
  | twinLockup
  /-- R142. A write of SLE_TWINTEST in Test mode inverts one bit of copy B at a stage or in the sequencer. -/
  | twintestInject (value : Word)
  /-- R146. SLE_DROPPOP removes the oldest drop record. -/
  | dropPop
  /-- R146. A read of SLE_ASN_L latches ASN bits 39:32 into SLE_ASN_H. -/
  | asnLRead
  /-- R163. The drift or steering rate accumulator reaches ±16 000 000 000 and TNET skips or doubles a tick. -/
  | rateAccumulatorOverflow
  /-- R155. MAC_CTXCMD WRITE stages the MAC_CTXBUF image for a context, or is ignored with REJ while BUSY. -/
  | contextWrite (index : Fin 1024)
  /-- R180. MAC_CTXCMD READ copies a context into MAC_CTXBUF at once. -/
  | contextRead (index : Fin 1024)
  /-- R155. MAC_CTXCMD DELETE stages clearing VALID of a context. -/
  | contextDelete (index : Fin 1024)
  /-- R493. An acknowledgement received in an acknowledgement window ends the attempt as acknowledged and yields a time sample. -/
  | ackReceived (lane : Fin 128) (frame : List Byte) (fcsOk : Bool) (tSfd : Nat) (rssi : Int) (offset : Int)
  /-- R173. An acknowledgement window closes empty; the attempt is retried with backoff or completes NO_ACK. -/
  | ackWindowClose (lane : Fin 128)
  /-- R165. MISS of the active time parent reaches 3 and the node enters ADRIFT, raising E60. -/
  | adriftEntry
  /-- R165. ADRIFT_TO seconds pass in ADRIFT and the node enters SCAN, raising E61. -/
  | adriftTimeout
  /-- R166. The SCAN dwell on a centre expires and the half retunes to the next centre. -/
  | scanDwellEnd
  /-- R165. MAC_SYNCCMD SCAN puts a Node into SCAN and raises E61. -/
  | syncScan
  /-- R165. MAC_SYNCCMD STOP puts a Node into UNSYNCED. -/
  | syncStop
  /-- R167. MAC_SYNCCMD POLL, or a return to Run with AUTO_POLL, schedules a Data Request poll to the time parent. -/
  | syncPoll
  /-- R177. A write of MAC_TXPUSH submits a transmit descriptor to its queue or indirect store, or completes it INVALID. -/
  | txPush (index : Fin 4096)
  /-- R180. MAC_TXDONEPOP removes the oldest completion from the MAC_TXDONE FIFO. -/
  | txDonePop
  /-- R180. MAC_QCMD FLUSH completes the waiting entries of a queue with FLUSHED. -/
  | queueFlush (queue : Fin 16)
  /-- R170. MAC_QCMD FLUSH_PENDING completes every pending indirect frame with FLUSHED. -/
  | flushPending
  /-- R175. A write of RD in MAC_DQ releases delivery entries and their blocks, or is ignored if outside the occupied entries. -/
  | dqRelease (rd : Nat)
  /-- R174. A write of MAC_FBCFG is accepted only when idle and resets the ring pointers, else ignored with CFG_REJ. -/
  | fbcfgWrite (value : Word)
  /-- R193. Key command LOAD writes an owned slot's key and parameters, or is refused or held with LOAD_PEND. -/
  | keyLoad (page : Fin 8)
  /-- R193. Key command CLEAR zeroises an owned slot to EMPTY, or is refused or held. -/
  | keyClear (page : Fin 8)
  /-- R193. A held LOAD or CLEAR takes effect when the operations using the old key end. -/
  | keyCommandApply (slot : Fin 256)
  /-- R193. A write of a new value to SEC_KOWNER changes a slot's owner and zeroises it. -/
  | keyOwnerWrite (value : Word)
  /-- R194. A key's COUNT reaches LIMIT, or a transmit meets TXFC 0xFFFF_FFFF, and the slot becomes EXHAUSTED with E66. -/
  | keyExhausted (slot : Fin 256) (blocks : Nat) (transmit : Bool)
  /-- R197. A write of SEC_Pp_SUBMIT queues a general request on the page, or is ignored with SUB_REJ. -/
  | cipherSubmit (page : Fin 8) (addr : Word)
  /-- R185. A general request finishes a 16-block chunk and returns to the arbiter. -/
  | cipherChunkEnd (page : Fin 8)
  /-- R197. A general request completes with its status, sets DONE and raises E64. -/
  | cipherDone (page : Fin 8)
  /-- R198. SEC_Pp_DONE ABORT completes every queued and running request of the page with ABORTED. -/
  | pageAbort (page : Fin 8)
  /-- R200. A lane finds a parity error in its state or a key word, ends with FAULT, raises E67 and logs UNCORRECTED. -/
  | cipherFault (lane : Fin 16) (keyWord : Bool)
  /-- R201. A write of object 0x5003.00 runs a host CCM* request on page 3. -/
  | cipherRequestObject (image : List Byte)
  /-- R208. GNS_ACQPUSH PUSH queues the staged acquisition command, or is ignored with ACQ_REJ. -/
  | acqPush
  /-- R208. GNS_ACQPUSH ABORT ends the running and queued commands with ABORTED. -/
  | acqAbort
  /-- R208. An acquisition command completes, reports its result, may hand off to a channel and raises E72. -/
  | acqDone (code : Nat) (dopp : Int) (ratio : Nat) (tRef : Nat) (codeNow : Nat)
  /-- R208. GNS_ACQPOP removes the oldest acquisition result. -/
  | acqPop
  /-- R210. A tracking channel reaches a block boundary, latches its correlator outputs, applies NCO writes and may raise E83. -/
  | blockBoundary (chan : Fin 96) (outs : List Int)
  /-- R216. A 20-block window closes and the lock monitor may mark the channel LOST with E73 or clear LOST. -/
  | lockMonitorWindow (chan : Fin 96)
  /-- R217. Each 1 ms the spectral monitor updates notch candidates, and auto notches lock with E81 or release. -/
  | spectrumUpdate (levels : List Int) (tracks : List Int)
  /-- R218. Every 100 ms J is updated and E80 raised on threshold crossings. -/
  | jammingUpdate (p8 : Int)
  /-- R205. Every millisecond the L1 AGC adjusts the gain by at most 1 dB. -/
  | gnssAgcStep (rms : Nat)
  /-- R224. A whole GTIME second produces a mark that the slot engine stamps and uses for one steering step. -/
  | secondMark (latePs : Fin 13021)
  /-- R220. A time pulse leading edge is output on TP_OUT and E75 raised. -/
  | timePulse (latePs : Fin 13021)
  /-- R221. At a measurement epoch all enabled channels are latched into a buffer and E74 raised. -/
  | measLatch (phases : List (Nat × Int × Nat))
  /-- R219. GNS_GTCTRL SET loads GTIME from GNS_GTSEC and GNS_GTNS. -/
  | gtimeSet
  /-- R219. A write of GNS_GTPHASE trims GTIME phase after the next second mark. -/
  | gtphaseTrim (value : Word)
  /-- R219. Firmware writes TIME_VALID, raising E76 or E77, and a fall starts holdover. -/
  | timeValidWrite (valid : Bool)
  /-- R225. Steering command FORCE applies a held coarse step at the next slot boundary. -/
  | steerForce
  /-- R225. Steering command RESET_I sets I and RATE to 0. -/
  | steerResetI
  /-- R242. A sleep-oscillator cycle advances the trim accumulator and the corrected calendar. -/
  | rtcTick
  /-- R240. At a second tick matching all unmasked fields an alarm sets its flag, raises E88 and a one-shot disarms. -/
  | alarmFire
  /-- R235. No oscillator edge for 1 ms holds the calendar, sets OSC_STOP and raises E94. -/
  | oscStop
  /-- R235. The oscillator returns and counting resumes from the held time. -/
  | oscReturn
  /-- R238. RTC_CMD SET checks the staged time and date and rejects it with E95 or schedules its load. -/
  | rtcSet
  /-- R238. RTC_CMD SET_AT checks and holds the staged time until the RTC_SET task. -/
  | rtcSetAt
  /-- R238. RTC_CMD CANCEL discards a held SET_AT value. -/
  | rtcSetCancel
  /-- R241. A valid SET is loaded at the next oscillator edge, clears OSC_STOP and resolves armed alarms. -/
  | rtcSetApply
  /-- R239. Object 0x7001.02 sets the calendar from TNET, leap seconds and offset through SET_AT. -/
  | setFromNetworkTime (value : Nat)
  /-- R243. RTC_CMD MEASURE starts counting oscillator cycles against the chosen reference for WINDOW seconds. -/
  | rtcMeasure
  /-- R243. RTC_CMD MEAS_ABORT ends a measurement with ABORTED. -/
  | measAbort
  /-- R243. A measurement window ends, RESULT is computed and applied to RTC_TRIM when OK with AUTO. -/
  | measureDone (count : Nat)
  /-- R237. A core read of a calendar register freezes or uses its shadow, and a read of RTC_YEAR releases it. -/
  | timeRegisterRead (core1 : Bool) (reg : Fin 7)
  /-- R237. A shadow frozen for 1 s is released and SHADOW_TO set. -/
  | shadowTimeout (core1 : Bool)
  /-- R240. Writing an alarm EN = 1 arms and checks it, refusing impossible combinations or firing at once if past. -/
  | alarmArm (alarmB : Bool) (oneshot : Bool)
  /-- R242. A write of RTC_TRIM takes effect at the next oscillator cycle and clears the accumulator. -/
  | rtcTrimWrite (value : Word)
  /-- R234. VSUP falls below 1.60 V and the backup domain switches to VBAK, stamping the first switch and raising E93. -/
  | supplySwitch
  /-- R234. VSUP rises above 1.65 V and the backup domain returns to VSUP. -/
  | supplyReturn
  /-- R233. The backup domain powers up, clears backup RAM and starts the calendar at 2000-01-01 with OSC_STOP and BKP_LOST. -/
  | backupPowerOn
  /-- R244. A comparator samples its input at RATE, debounces and on its condition sets HIT, raises E89 to E92 and may erase backup RAM. -/
  | comparatorSample (n : Fin 4) (high : Bool)
  /-- R250. A prescaled tick of an enabled timer increments COUNT and tests the compare. -/
  | timerTick (n : Fin 8)
  /-- R250. COUNT + 1 reaches PERIOD, the timer reloads, sets PER_F and raises its event, stopping if one-shot. -/
  | timerReload (n : Fin 8)
  /-- R253. EN, TMR_START or a START task starts timers, loading COUNT from PHASE and clearing the prescaler. -/
  | timerStart (mask : Fin 256) (core1 : Bool)
  /-- R253. TMR_STOP or a STOP task clears EN and keeps COUNT. -/
  | timerStop (mask : Fin 256) (core1 : Bool)
  /-- R252. A write of TMR_CMPn re-arms the compare for the current period. -/
  | cmpWrite (n : Fin 8) (value : Word) (core1 : Bool)
  /-- R252. After a compare write below the count the compare fires at the next clock edge before prescaling. -/
  | compareImmediateFire (n : Fin 8)
  /-- R256. Software reads TNET as high, low, high words and retries on a carry. -/
  | tnetRead
  /-- R257. An event channel fires from an event, pin edge or software fire, passes the rate limiter, stamps TNET and forks to its tasks. -/
  | channelPulse (chan : Fin 32)
  /-- R260. A write of EVR_FIRE fires the named channels the writer may fire. -/
  | evrFire (value : Word) (core1 : Bool)
  /-- R268. A write of EVR_SWEV raises E124 to E127. -/
  | softwareEvent (value : Word)
  /-- R262. A pin level stable for MINPULSE is accepted as an edge of the selected polarity. -/
  | pinEdge (chan : Fin 32) (high : Bool) (age : Nat)
  /-- R263. A pin input held active for STUCK_T units is masked and STUCK set. -/
  | stuckDetect (chan : Fin 32)
  /-- R263. Writing 1 to STUCK unmasks the pin and restarts the stuck timing. -/
  | stuckClear (chan : Fin 32)
  /-- R261. A rate limiter window of RWIN units ends and the pulse allowance restarts. -/
  | rateWindowEnd (chan : Fin 32)
  /-- R264. A read of EVR_TSLc latches the stamp high word into EVR_TSHc. -/
  | stampRead (chan : Fin 32)
  /-- R283. ALU ADD writes Ga + Gb and sets C and V. -/
  | add (core1 : Bool) (gd : Fin 16) (ga : Fin 16) (gb : Fin 16)
  /-- R283. ALU SUB writes Ga − Gb and sets C and V. -/
  | sub (core1 : Bool) (gd : Fin 16) (ga : Fin 16) (gb : Fin 16)
  /-- R283. ALU ADDC adds with carry. -/
  | addc (core1 : Bool) (gd : Fin 16) (ga : Fin 16) (gb : Fin 16)
  /-- R283. ALU SUBC subtracts with borrow. -/
  | subc (core1 : Bool) (gd : Fin 16) (ga : Fin 16) (gb : Fin 16)
  /-- R283. ALU AND. -/
  | and (core1 : Bool) (gd : Fin 16) (ga : Fin 16) (gb : Fin 16)
  /-- R283. ALU OR. -/
  | or (core1 : Bool) (gd : Fin 16) (ga : Fin 16) (gb : Fin 16)
  /-- R283. ALU XOR. -/
  | xor (core1 : Bool) (gd : Fin 16) (ga : Fin 16) (gb : Fin 16)
  /-- R283. ALU AND NOT. -/
  | andn (core1 : Bool) (gd : Fin 16) (ga : Fin 16) (gb : Fin 16)
  /-- R283. ALU shift left by Gb. -/
  | shl (core1 : Bool) (gd : Fin 16) (ga : Fin 16) (gb : Fin 16)
  /-- R283. ALU logical shift right by Gb. -/
  | shr (core1 : Bool) (gd : Fin 16) (ga : Fin 16) (gb : Fin 16)
  /-- R283. ALU arithmetic shift right by Gb. -/
  | sar (core1 : Bool) (gd : Fin 16) (ga : Fin 16) (gb : Fin 16)
  /-- R283. ALU rotate left by Gb. -/
  | rol (core1 : Bool) (gd : Fin 16) (ga : Fin 16) (gb : Fin 16)
  /-- R283. ALU low 32 bits of the product. -/
  | mul (core1 : Bool) (gd : Fin 16) (ga : Fin 16) (gb : Fin 16)
  /-- R283. ALU signed high product word. -/
  | mulhs (core1 : Bool) (gd : Fin 16) (ga : Fin 16) (gb : Fin 16)
  /-- R283. ALU unsigned high product word. -/
  | mulhu (core1 : Bool) (gd : Fin 16) (ga : Fin 16) (gb : Fin 16)
  /-- R283. ALU signed division, ARITH on a zero divisor. -/
  | divs (core1 : Bool) (gd : Fin 16) (ga : Fin 16) (gb : Fin 16)
  /-- R283. ALU unsigned division, ARITH on a zero divisor. -/
  | divu (core1 : Bool) (gd : Fin 16) (ga : Fin 16) (gb : Fin 16)
  /-- R283. ALU signed remainder. -/
  | rems (core1 : Bool) (gd : Fin 16) (ga : Fin 16) (gb : Fin 16)
  /-- R283. ALU unsigned remainder. -/
  | remu (core1 : Bool) (gd : Fin 16) (ga : Fin 16) (gb : Fin 16)
  /-- R283. ALU signed minimum. -/
  | mins (core1 : Bool) (gd : Fin 16) (ga : Fin 16) (gb : Fin 16)
  /-- R283. ALU signed maximum. -/
  | maxs (core1 : Bool) (gd : Fin 16) (ga : Fin 16) (gb : Fin 16)
  /-- R282. Adds a sign-extended immediate and sets C and V. -/
  | addi (core1 : Bool) (gd : Fin 16) (ga : Fin 16) (imm : Fin 262144)
  /-- R282. ANDs a zero-extended immediate. -/
  | andi (core1 : Bool) (gd : Fin 16) (ga : Fin 16) (imm : Fin 262144)
  /-- R282. ORs a zero-extended immediate. -/
  | ori (core1 : Bool) (gd : Fin 16) (ga : Fin 16) (imm : Fin 262144)
  /-- R282. XORs a zero-extended immediate. -/
  | xori (core1 : Bool) (gd : Fin 16) (ga : Fin 16) (imm : Fin 262144)
  /-- R284. Shifts or rotates by a constant of the TYPE field. -/
  | shi (core1 : Bool) (gd : Fin 16) (ga : Fin 16) (kind : Fin 4) (amt : Fin 32)
  /-- R282. Loads IMM18 shifted left by 14 as INT. -/
  | lui (core1 : Bool) (gd : Fin 16) (imm : Fin 262144)
  /-- R284. Compares two registers under COND into a BOOL. -/
  | cmp (core1 : Bool) (gd : Fin 16) (ga : Fin 16) (gb : Fin 16) (cond : Fin 8)
  /-- R284. Compares a register with an immediate under COND into a BOOL. -/
  | cmpi (core1 : Bool) (gd : Fin 16) (ga : Fin 16) (cond : Fin 8) (imm : Fin 32768)
  /-- R284. Copies a register with its tag. -/
  | mov (core1 : Bool) (gd : Fin 16) (ga : Fin 16)
  /-- R284. Writes the tag of Ga as an INT. -/
  | tagof (core1 : Bool) (gd : Fin 16) (ga : Fin 16)
  /-- R275. Copies a register with a new tag under the conversion rules. -/
  | retag (core1 : Bool) (gd : Fin 16) (ga : Fin 16) (tag : Fin 8)
  /-- R284. Raises TAG_TRAP unless Ga has the given tag. -/
  | chktag (core1 : Bool) (ga : Fin 16) (tag : Fin 8)
  /-- R279. Loads a word through segment checks with the tag policy of the segment. -/
  | ldw (core1 : Bool) (gd : Fin 16) (ga : Fin 16) (imm : Fin 262144) (parity : Fin 32)
  /-- R285. Loads a sign-extended halfword. -/
  | ldh (core1 : Bool) (gd : Fin 16) (ga : Fin 16) (imm : Fin 262144) (parity : Fin 32)
  /-- R285. Loads a zero-extended halfword. -/
  | ldhu (core1 : Bool) (gd : Fin 16) (ga : Fin 16) (imm : Fin 262144) (parity : Fin 32)
  /-- R285. Loads a sign-extended byte. -/
  | ldb (core1 : Bool) (gd : Fin 16) (ga : Fin 16) (imm : Fin 262144) (parity : Fin 32)
  /-- R285. Loads a zero-extended byte. -/
  | ldbu (core1 : Bool) (gd : Fin 16) (ga : Fin 16) (imm : Fin 262144) (parity : Fin 32)
  /-- R279. Stores a word, buffered, under the segment's tag policy. -/
  | stw (core1 : Bool) (gd : Fin 16) (ga : Fin 16) (imm : Fin 262144)
  /-- R279. Stores a halfword by read-merge-write. -/
  | sth (core1 : Bool) (gd : Fin 16) (ga : Fin 16) (imm : Fin 262144) (parity : Fin 32)
  /-- R279. Stores a byte by read-merge-write. -/
  | stb (core1 : Bool) (gd : Fin 16) (ga : Fin 16) (imm : Fin 262144) (parity : Fin 32)
  /-- R278. Adds an INT register to a pointer offset. -/
  | addp (core1 : Bool) (gd : Fin 16) (ga : Fin 16) (gb : Fin 16)
  /-- R278. Adds an immediate to a pointer offset. -/
  | addpi (core1 : Bool) (gd : Fin 16) (ga : Fin 16) (imm : Fin 262144)
  /-- R274. Writes the difference of two pointer offsets in one segment. -/
  | subp (core1 : Bool) (gd : Fin 16) (ga : Fin 16) (gb : Fin 16)
  /-- R286. Forms a PTR from a segment number and offset. -/
  | lea (core1 : Bool) (gd : Fin 16) (seg : Fin 16) (imm : Fin 262144)
  /-- R286. Forms a CODE word relative to PC. -/
  | leac (core1 : Bool) (gd : Fin 16) (off : Fin 4194304)
  /-- R287. Pushes the masked registers on the G15 stack, whole or not at all. -/
  | pushm (core1 : Bool) (mask : Fin 32768)
  /-- R287. Pops the masked registers from the G15 stack. -/
  | popm (core1 : Bool) (mask : Fin 32768) (parity : List Nat)
  /-- R285. Atomically compares data and tag and swaps a system SRAM word. -/
  | cas (core1 : Bool) (gd : Fin 16) (ga : Fin 16) (gb : Fin 16) (parity : Fin 32)
  /-- R286. Branches by a word offset. -/
  | br (core1 : Bool) (off : Fin 67108864)
  /-- R286. Branches if a BOOL is 1. -/
  | bt (core1 : Bool) (ga : Fin 16) (off : Fin 4194304)
  /-- R286. Branches if a BOOL is 0. -/
  | bf (core1 : Bool) (ga : Fin 16) (off : Fin 4194304)
  /-- R286. Jumps to a CODE word, possibly in another segment. -/
  | jmp (core1 : Bool) (ga : Fin 16)
  /-- R287. Pushes return address, masked registers and a HANDLE frame word, then jumps. -/
  | call (core1 : Bool) (gt : Fin 16) (mask : Fin 32768)
  /-- R287. Checks the frame word, pops the saved registers and returns. -/
  | ret (core1 : Bool) (parity : List Nat)
  /-- R284. Raises SYSCALL with the service number. -/
  | trap (core1 : Bool) (arg : Fin 256)
  /-- R296. Halts in debug or raises BKPT. -/
  | bkpt (core1 : Bool)
  /-- R284. Stops the core's clock until an enabled interrupt is pending. -/
  | wait (core1 : Bool)
  /-- R284. An enabled IPEND bit ends WAIT, with an interrupt entry or continuation when IE = 0. -/
  | waitWake (core1 : Bool)
  /-- R284. Retires once every earlier store has completed or raised BUS. -/
  | fence (core1 : Bool)
  /-- R292. Restores PC from EPC and ST from EST. -/
  | eret (core1 : Bool)
  /-- R289. Reads a system register, latching CYCLE_H on a CYCLE_L read. -/
  | mfs (core1 : Bool) (gd : Fin 16) (arg : Fin 256)
  /-- R289. Writes a system register after its tag check. -/
  | mts (core1 : Bool) (ga : Fin 16) (arg : Fin 256)
  /-- R280. Writes a segment descriptor after its validity and grant checks, serialising. -/
  | segw (core1 : Bool) (gd : Fin 16) (ga : Fin 16) (gb : Fin 16) (seg : Fin 16)
  /-- R284. Reads one word of a segment descriptor. -/
  | segr (core1 : Bool) (gd : Fin 16) (seg : Fin 16) (part : Fin 3)
  /-- R284. Sets ST.IE. -/
  | iena (core1 : Bool)
  /-- R284. Clears ST.IE. -/
  | idis (core1 : Bool)
  /-- R282. An undefined opcode, field or code raises ILLEGAL. -/
  | illegal (core1 : Bool)
  /-- R294. At an instruction boundary the highest eligible interrupt line is taken and its IPEND bit cleared. -/
  | interruptEntry (core1 : Bool)
  /-- R285. A buffered store completes with a bus error reported at the next boundary or FENCE. -/
  | impreciseBusError (core1 : Bool)
  /-- R296. A debug condition or HALT_REQ halts the core with E13 and records DSTAT. -/
  | debugHalt (core1 : Bool) (op : DebugOp)
  /-- R296. DCTRL RESUME restarts a halted core. -/
  | debugResume (core1 : Bool)
  /-- R298. C1_CTRL RUN starts core 1 at C1_ENTRY in system mode with its initial descriptors. -/
  | core1Run
  /-- R298. C1_CTRL STOP halts core 1 at the next boundary. -/
  | core1Stop
  /-- R298. A grant window write clears VALID in every core 1 descriptor no longer inside a window. -/
  | grantWindowWrite (reg : Fin 24) (value : Word)
  /-- R299. In core lockstep a core 1 checker output differs from core 0, a FATAL fault requesting the lock-up reset. -/
  | checkerMismatch
  /-- R304. Sets An to the rounded fractional product. -/
  | mpy (core1 : Bool) (an : Fin 4) (ga : Fin 16) (gb : Fin 16)
  /-- R304. Adds the product to An with sat40. -/
  | mac (core1 : Bool) (an : Fin 4) (ga : Fin 16) (gb : Fin 16)
  /-- R304. Subtracts the product from An with sat40. -/
  | msu (core1 : Bool) (an : Fin 4) (ga : Fin 16) (gb : Fin 16)
  /-- R304. Saturating fractional addition into a G register. -/
  | fadds (core1 : Bool) (gd : Fin 16) (ga : Fin 16) (gb : Fin 16)
  /-- R304. Saturating fractional subtraction into a G register. -/
  | fsubs (core1 : Bool) (gd : Fin 16) (ga : Fin 16) (gb : Fin 16)
  /-- R304. Saturating rounded fractional product into a G register. -/
  | fmulr (core1 : Bool) (gd : Fin 16) (ga : Fin 16) (gb : Fin 16)
  /-- R304. Clears an accumulator. -/
  | aclr (core1 : Bool) (an : Fin 4)
  /-- R304. Copies an accumulator. -/
  | amov (core1 : Bool) (an : Fin 4) (am : Fin 4)
  /-- R304. Adds accumulators with sat40. -/
  | aadd (core1 : Bool) (an : Fin 4) (am : Fin 4)
  /-- R304. Subtracts accumulators with sat40. -/
  | asub (core1 : Bool) (an : Fin 4) (am : Fin 4)
  /-- R304. Negates an accumulator with sat40. -/
  | aneg (core1 : Bool) (an : Fin 4) (am : Fin 4)
  /-- R304. Takes an accumulator's absolute value with sat40. -/
  | aabs (core1 : Bool) (an : Fin 4) (am : Fin 4)
  /-- R304. Shifts an accumulator left with sat40. -/
  | ashl (core1 : Bool) (an : Fin 4) (am : Fin 4) (k : Fin 32)
  /-- R304. Shifts an accumulator right with rounding. -/
  | ashr (core1 : Bool) (an : Fin 4) (am : Fin 4) (k : Fin 32)
  /-- R304. Moves a rounded, saturated accumulator to a FRAC register. -/
  | mvaf (core1 : Bool) (gd : Fin 16) (am : Fin 4) (k : Fin 32)
  /-- R304. Loads an accumulator from a FRAC register. -/
  | mvfa (core1 : Bool) (an : Fin 4) (ga : Fin 16)
  /-- R304. Moves accumulator bits 39:32 to an INT register. -/
  | mvah (core1 : Bool) (gd : Fin 16) (am : Fin 4)
  /-- R304. Moves accumulator bits 31:0 to a RAW register. -/
  | mval (core1 : Bool) (gd : Fin 16) (am : Fin 4)
  /-- R304. Loads an accumulator exactly from two registers. -/
  | mvga (core1 : Bool) (an : Fin 4) (ga : Fin 16) (gb : Fin 16)
  /-- R304. Sets RND, SAT and OVTRAP and optionally clears AOV and SOV. -/
  | sxset (core1 : Bool) (arg : Fin 32)
  /-- R306. Multiplies X and Y words into An, moves the delay line and post-modifies both pointers. -/
  | tap (core1 : Bool) (an : Fin 4) (gx : Fin 16) (gy : Fin 16) (xmod : Fin 5) (ymod : Fin 5) (sub : Bool) (move : Bool) (parX : Fin 32) (parY : Fin 32)
  /-- R308. Opens a block repeat, pushing START, END and COUNT on the repeat stack. -/
  | rep (core1 : Bool) (len : Fin 32) (count : RepCount)
  /-- R308. Marks the end of a repeat body; issues on the first pass. -/
  | endrep (core1 : Bool)
  /-- R309. Stores the repeat stack as 13 words and empties it. -/
  | rsave (core1 : Bool) (ga : Fin 16)
  /-- R309. Restores the repeat stack from 13 words after tag checks. -/
  | rrest (core1 : Bool) (ga : Fin 16) (parity : List Nat)
  /-- R319. Every SCRUB_DIV µs the patrol reads one word of each SRAM and poisons and logs a failing word as INFO. -/
  | patrolRead (sysErr : Fin 32) (pktErr : Fin 16)
  /-- R325. A write of ARM in Test mode arms the flip mask for the next page program. -/
  | flipArm
  /-- R327. MEM_MERGE FLUSH programs every merge entry in order and raises E110. -/
  | mergeFlush
  /-- R327. After 100 µs without a store the merge buffer flushes every entry. -/
  | mergeIdleFlush
  /-- R332. A detector's report reaches the fault collector and is logged, escalated, lost or causes a double-fault reset. -/
  | faultReport (cls : Fin 4) (src : Fin 64) (addr : Word) (detail : Fin 256)
  /-- R331. ERR_CLOSE closes open reports of a source or all FATAL reports. -/
  | faultClose (src : Fin 256) (srcEn : Bool) (fatal : Bool)
  /-- R334. ERR_POP removes entry 0 unless it is OPEN. -/
  | faultPop
  /-- R332. ERR_INJECT in Test mode sends a report of the given class from source 0x20. -/
  | faultInject (cls : Fin 4)
  /-- R345. Flash descriptor READ_PAGE decodes a page into a buffer. -/
  | readPage (tag : Fin 65536) (faddr : Word) (buf : Word) (raw : Bool) (core1 : Bool) (rom : Bool)
  /-- R345. Flash descriptor PROGRAM_PAGE programs a page at the region strength. -/
  | programPage (tag : Fin 65536) (faddr : Word) (buf : Word) (core1 : Bool) (rom : Bool)
  /-- R351. Flash descriptor ERASE_BLOCK journals and erases a block. -/
  | eraseBlock (tag : Fin 65536) (faddr : Word) (core1 : Bool) (rom : Bool)
  /-- R345. Flash descriptor READ_COUNTER returns a block's erase count. -/
  | readCounter (tag : Fin 65536) (faddr : Word) (core1 : Bool) (rom : Bool)
  /-- R348. Flash descriptor SUSPEND explicitly suspends the bank's program or erase. -/
  | flashSuspend (tag : Fin 65536) (faddr : Word) (core1 : Bool) (rom : Bool)
  /-- R348. Flash descriptor RESUME resumes a suspended operation. -/
  | resumeFlash (tag : Fin 65536) (faddr : Word) (core1 : Bool) (rom : Bool)
  /-- R344. Flash descriptor FLUSH_MERGE pushes programs for every merge entry. -/
  | flushMerge (tag : Fin 65536) (core1 : Bool) (rom : Bool)
  /-- R340. A program or erase pulse ends and the array checks for completion or PROGRAM_FAIL or ERASE_FAIL. -/
  | flashPulseEnd (bankB : Bool) (complete : Bool)
  /-- R346. A flash descriptor completes, places a record in the completion FIFO and raises E104, and E105 on error. -/
  | flashDone (who : Fin 3)
  /-- R346. FLC_DONEPOP removes the oldest completion record. -/
  | flashDonePop
  /-- R341. A load or fetch misses the page buffers, auto-suspends a busy bank or stalls, and reads and decodes the page. -/
  | flashPageMiss (addr : Word)
  /-- R348. RESUME_IDLE µs without a miss resumes an auto-suspended operation. -/
  | autoResume (bankB : Bool)
  /-- R348. An operation's SUSPENDS reaches STARVE_N, setting STARVED and raising E106. -/
  | eraseStarve (bankB : Bool)
  /-- R342. A write of ROM_OWN or SWAP from ROM code changes flash ownership or bank mapping. -/
  | flashOwnerWrite (romOwn : Bool) (swap : Bool) (rom : Bool)
  /-- R361. A native SPI transaction exchanges headers and stream bytes on the dictionary or data plane channel. -/
  | spiTransaction (mosi : List Byte) (partialByte : Bool) (ready : Bool) (env : HostEnv)
  /-- R362. A CAN FD frame carries one ODP segment into per-master reassembly. -/
  | canSegment (m : Fin 16) (data : List Byte) (env : HostEnv)
  /-- R362. The CAN FD controller enters bus-off and raises E117. -/
  | canBusoff
  /-- R363. A UDP datagram to ODP_PORT or PLANE_PORT delivers one ODP or plane frame. -/
  | udpDatagram (ip : Word) (src : Fin 65536) (dst : Fin 65536) (data : List Byte) (env : HostEnv)
  /-- R363. The Ethernet link state changes and E116 is raised. -/
  | ethLink (link : Bool) (m100 : Bool) (fdx : Bool)
  /-- R364. A 0x7E-delimited UART frame is unescaped and delivered. -/
  | uartFrame (data : List Byte) (env : HostEnv)
  /-- R365. Core 0 passes a request for 0xC000 to 0xCFFF to core 1 as a KIND 1 mailbox record. -/
  | objectRequest
  /-- R365. Core 1 answers an object request with a KIND 2 record. -/
  | objectResponse
  /-- R365. Core 1 passes an ODP frame received from the mesh as a KIND 3 record. -/
  | meshRequest (env : HostEnv)
  /-- R365. Core 0 answers a mesh request with a KIND 4 record. -/
  | meshReply
  /-- R365. Core 1 does not answer a mailbox object request within 100 ms and core 0 answers APP_TIMEOUT. -/
  | appTimeout
  /-- R372. ODP READ takes a snapshot of an object and returns its first segment. -/
  | odpRead (who : HostId) (tid : Fin 65536) (index : Fin 65536) (sub : Fin 256) (env : HostEnv)
  /-- R368. ODP WRITE checks access, size and range and writes an object, persisting it if required. -/
  | odpWrite (who : HostId) (tid : Fin 65536) (index : Fin 65536) (sub : Fin 256) (value : List Byte) (env : HostEnv)
  /-- R372. ODP READ_SEG returns a segment of the snapshot from OFFSET. -/
  | odpReadSeg (who : HostId) (tid : Fin 65536) (index : Fin 65536) (sub : Fin 256) (offset : Word) (env : HostEnv)
  /-- R371. ODP WRITE_SEG stages a segment and writes the object when the last byte arrives. -/
  | odpWriteSeg (who : HostId) (tid : Fin 65536) (index : Fin 65536) (sub : Fin 256) (sflags : Fin 256) (offset : Word) (total : Word) (data : List Byte) (env : HostEnv)
  /-- R366. ODP INFO returns an object's type, access, persistence and size. -/
  | odpInfo (who : HostId) (tid : Fin 65536) (index : Fin 65536) (sub : Fin 256) (env : HostEnv)
  /-- R375. ODP CLAIM opens or joins a claim window, re-prioritises the owner, or is refused. -/
  | odpClaim (who : HostId) (tid : Fin 65536) (prio : Fin 256) (nonce : Word) (env : HostEnv)
  /-- R375. ODP KEEPALIVE from the owner restarts the loss timer. -/
  | odpKeepalive (who : HostId) (tid : Fin 65536) (nonce : Word) (env : HostEnv)
  /-- R375. ODP RELEASE from the owner frees ownership. -/
  | odpRelease (who : HostId) (tid : Fin 65536) (nonce : Word) (env : HostEnv)
  /-- R375. ODP HANDOVER names a successor who may claim within 3 s. -/
  | odpHandover (who : HostId) (tid : Fin 65536) (nonce : Word) (next : HostId) (snonce : Word) (env : HostEnv)
  /-- R366. ODP OWNER returns the ownership state. -/
  | odpOwner (who : HostId) (tid : Fin 65536) (env : HostEnv)
  /-- R366. ODP RECOVERY answers and then makes a warm reset into ROM Recovery. -/
  | odpRecovery (who : HostId) (tid : Fin 65536) (env : HostEnv)
  /-- R375. The 100 ms claim window closes and the candidate becomes owner with E112. -/
  | claimWindowClose
  /-- R375. 3 × KA pass without a keep-alive; ownership becomes FREE with E113 and E112. -/
  | ownerLost
  /-- R375. 3 s pass in HANDOVER without the successor's claim and the old owner keeps ownership. -/
  | handoverTimeout
  /-- R371. 3 s without a segment discards a segmented write staging. -/
  | stagingTimeout (who : HostId) (index : Fin 65536) (sub : Fin 256)
  /-- R372. 3 s without a READ_SEG releases a snapshot buffer. -/
  | snapshotTimeout (who : HostId) (index : Fin 65536) (sub : Fin 256)
  /-- R374. A 1 s utilisation window ends and the shedding level may change with E12. -/
  | loadLevel (util : Fin 101)
  /-- R379. Object 0x1003.00 returns persistent objects to their defaults at the next reset. -/
  | restoreDefaults (value : Nat)
  /-- R376. Core 0 streams a delivery queue entry to the plane sink when the sink has room, else raises E118. -/
  | delivery
  /-- R377. A plane TX_SUBMIT from the owner is placed in a plane descriptor and pushed, or answered PLANE_ERROR. -/
  | txSubmit (who : HostId) (body : List Byte)
  /-- R377. A plane descriptor completes and its TX_COMPLETE is streamed to the submitter. -/
  | txComplete
  /-- R384. An ER-418 SPI transaction reads or writes map registers with address increment and STATUS on MISO. -/
  | legacySpiTransaction (mosi : List Byte) (cut : Bool) (fast : Bool) (early : Bool)
  /-- R389. A read of LGY_STATUS returns IRQ and RXOVF and clears every flag and RXOVF in the same edge. -/
  | lgyStatusRead
  /-- R387. A read of LGY_RXFIFO pops one byte. -/
  | rxfifoRead
  /-- R387. A write of LGY_TXFIFO adds a byte or discards it with TXOVF when full. -/
  | txfifoWrite (value : Fin 256)
  /-- R387. A read of LGY_RXLEV_L latches LGY_RXLEV_H. -/
  | rxlevLRead
  /-- R387. A read of LGY_TXLEV_L latches LGY_TXLEV_H. -/
  | txlevLRead
  /-- R387. A read of LGY_SLOTCNT_L latches LGY_SLOTCNT_H. -/
  | slotcntLRead
  /-- R389. A W1C write of LGY_IRQFn clears flags and nIRQ rises when no enabled flag remains. -/
  | irqFlagClear (n : Fin 8) (value : Fin 256)
  /-- R389. 4 µs after a flag makes IRQ = 1 nIRQ falls and E119 is raised. -/
  | nirqAssert
  /-- R387. A write of LGY_BASEF2 applies the staged base frequency if in range. -/
  | basef2Write (value : Fin 256)
  /-- R391. Legacy command FLUSH_RX empties the receive FIFO. -/
  | flushRx
  /-- R391. Legacy command FLUSH_TX empties the transmit FIFO. -/
  | flushTx
  /-- R391. Legacy command TX_START arms the frame for the first slot at least 0.5 ms away. -/
  | txStart
  /-- R391. Legacy command TX_ABORT drops an armed frame. -/
  | txAbort
  /-- R391. Legacy command CTX_WRITE writes a context from LGY_CTXDAT0 to 4. -/
  | ctxWrite
  /-- R391. Legacy command CTX_READ copies a context into LGY_CTXDAT0 to 7. -/
  | ctxRead
  /-- R391. Legacy command CTX_DELETE clears VALID of a context. -/
  | ctxDelete
  /-- R391. Legacy command HOP_WRITE writes a hop table entry and increments the index. -/
  | hopWrite
  /-- R391. Legacy command HOP_READ reads a hop table entry and increments the index. -/
  | hopRead
  /-- R391. Legacy command CAL calibrates half A and the transmitter. -/
  | lgyCal
  /-- R391. Legacy command SOFT_RESET returns the map, FIFOs, contexts, hop table and schedule to reset. -/
  | softReset
  /-- R391. A legacy command's duration ends, CMDBUSY clears and CMDDONE is raised. -/
  | cmddone
  /-- R392. A 20 ms legacy boundary advances the slot counter, sets channel frequencies and schedules transmission and beacons. -/
  | legacySlotBoundary
  /-- R395. A received legacy frame matching NETID and DST is stored as a receive FIFO record or dropped as duplicate. -/
  | legacyFrameStored (unit : Nat)
  /-- R393. A beacon with the NETID on channel 0 in slave timing sets the slot counter and boundary and raises SYNCED. -/
  | legacyBeaconRx (unit : Nat)
  /-- R393. A beacon period ends without a beacon while SYNCED and raises BCNMISS. -/
  | bcnmiss
  /-- R393. Eight consecutive missed beacon periods raise SYNCLOST and clear SYNCED. -/
  | synclost
  /-- R394. A legacy acknowledgement window closes empty; the frame is resent next slot or TXNOACK is raised. -/
  | legacyAckWindowClose
  /-- R390. A payload octet is absent when ENCODE needs it and the frame is ended with its CRC and TXUNF. -/
  | txUnderrun
  /-- R398. A single-byte write to 0x7E advances or resets the unlock matcher. -/
  | unlockWrite (value : Fin 256)
  /-- R398. 1 ms passes after 0x4B without acceptance and the matcher returns to IDLE. -/
  | unlockTimeout
  /-- R399. After cleanup the SPI port takes native framing, MODE becomes 0x1 with UNLOCKED and E7. -/
  | nativeSwitchover
  /-- R404. Field command Inventory answers with the UID. -/
  | tagInventory (sub : Bool) (sixteen : Bool) (afi : Option (Fin 256)) (maskLen : Fin 65) (mask : Nat)
  /-- R404. Field command Stay quiet enters Quiet. -/
  | tagStayQuiet (req : TagReq)
  /-- R404. Field command Read single block returns one block after protection checks. -/
  | readSingleBlock (req : TagReq) (block : Fin 256)
  /-- R404. Field command Read multiple blocks returns up to 32 blocks. -/
  | readMultipleBlocks (req : TagReq) (block : Fin 256) (count : Fin 256)
  /-- R411. Field command Write single block checks and starts a protected write. -/
  | writeSingleBlock (req : TagReq) (block : Fin 256) (data : Word)
  /-- R404. Field command Select enters Selected. -/
  | tagSelect (req : TagReq)
  /-- R404. Field command Reset to ready enters Ready. -/
  | resetToReady (req : TagReq)
  /-- R404. Field command Write AFI is a protected write of block 2008. -/
  | writeAfi (req : TagReq) (value : Fin 256)
  /-- R404. Field command Lock AFI sets AFI_LOCK with a protected write. -/
  | lockAfi (req : TagReq)
  /-- R404. Field command Write DSFID is a protected write of block 2008. -/
  | writeDsfid (req : TagReq) (value : Fin 256)
  /-- R404. Field command Lock DSFID sets DSFID_LOCK with a protected write. -/
  | lockDsfid (req : TagReq)
  /-- R404. Field command Get system information answers without memory size. -/
  | getSystemInformation (req : TagReq)
  /-- R404. Field command returns whether blocks 0 to 255 are writable in the session. -/
  | getMultipleBlockSecurityStatus (req : TagReq) (block : Fin 256) (count : Fin 256)
  /-- R404. Field command reads one block of 0 to 1983. -/
  | extendedReadSingleBlock (req : TagReq) (block : Fin 65536)
  /-- R411. Field command checks and starts a protected write of a block of 0 to 1983. -/
  | extendedWriteSingleBlock (req : TagReq) (block : Fin 65536) (data : Word)
  /-- R404. Field command reads up to 32 blocks of 0 to 1983. -/
  | extendedReadMultipleBlocks (req : TagReq) (block : Fin 65536) (count : Fin 65536)
  /-- R404. Field command reports 1 984 blocks of 4 bytes. -/
  | extendedGetSystemInformation (req : TagReq)
  /-- R404. Field command returns the security status of blocks 0 to 1983. -/
  | extGetMultipleBlockSecurityStatus (req : TagReq) (block : Fin 65536) (count : Fin 65536)
  /-- R409. Custom field command returns VREC, lockouts and session bitmaps. -/
  | getStatus (req : TagReq)
  /-- R409. Custom field command counts an attempt, compares the password and opens a session on a match. -/
  | presentPassword (req : TagReq) (area : Fin 256) (kind : Fin 256) (password : Word)
  /-- R409. Custom field command writes a new password within an open session. -/
  | changePassword (req : TagReq) (area : Fin 256) (kind : Fin 256) (new : Word)
  /-- R402. An unsupported field command answers error 0x01 when addressed or selected, else nothing. -/
  | unsupportedCommand (req : TagReq)
  /-- R410. ATTEMPTS of an area reaches 8 and the area locks out, raising E123 when powered. -/
  | tagLockout (area : Fin 8)
  /-- R418. TAG_WCMD START begins a core-side protected write of one block, or is refused BUSY or RANGE. -/
  | tagBlockWrite (value : Word) (tie : Bool)
  /-- R418. TAG_ACMD CLEAR_ATTEMPTS clears an area's attempt counter with a protected write. -/
  | clearAttempts (area : Fin 8) (tie : Bool)
  /-- R412. A protected write completes its copy home, clears COMMIT, releases the semaphore and reports status, raising E122 for field writes. -/
  | tagWriteDone (good : Bool)
  /-- R415. The tag island powers up and completes any valid COMMIT record before becoming READY. -/
  | tagPowerUp
  /-- R419. VREC above 1.8 V for 50 µs detects the field, raising E120 or requesting a wake. -/
  | fieldOn (vrec : Fin 256)
  /-- R419. VREC below 1.5 V for 50 µs loses the field, closes sessions and raises E121. -/
  | fieldOff (step : Fin 6)
  /-- R417. A 5 ms semaphore reservation for a refused side ends. -/
  | reservationEnd
  /-- R420. Object 0xB006.01 writes whole blocks one by one, stopping on BUSY. -/
  | tagMemoryDataWrite (data : List Byte) (busyAfter : Nat) (badAt : Option Nat)
  /-- R430. After reset the ROM loads OTP, scans journals, verifies CORE0 and the profile, clears ROM_OWN and jumps to firmware, which applies persistent objects and starts core 1. -/
  | bootRom (otpFail : Bool)
  /-- R438. Update command BEGIN discards any staging and starts receiving a package. -/
  | updBegin (env : DictEnv)
  /-- R438. A write of 0xA030.01 appends a package chunk and checks the package once complete. -/
  | updateData (offset : Word) (data : List Byte) (env : DictEnv)
  /-- R438. All package entries are staged into the inactive bank and the TRIAL marker is written. -/
  | updateStaged
  /-- R438. Update command COMMIT in STAGED sets REQ and makes a software reset. -/
  | updCommit (env : DictEnv)
  /-- R438. Update command ABORT stops staging and leaves the inactive bank invalid. -/
  | updateAbort (env : DictEnv)
  /-- R433. Update command CONFIRM in TRIAL writes the CONFIRM marker and raises the rollback counters. -/
  | updConfirm (env : DictEnv)
  /-- R433. The trial time expires without confirmation and a software reset reverts the bank. -/
  | trialTimeout
  /-- R433. A W1S write of BTU_SWAP REQ requests entry of the staged bank at the next reset. -/
  | swapRequest
  /-- R439. A write of a nonce to 0xA011.00 builds and signs an attestation report. -/
  | attestationNonce (nonce : List Byte)
  /-- R445. A write of 0xA012.00 programs the customer root key into OTP once. -/
  | customerRootKeyWrite (key : List Byte) (env : DictEnv)
  /-- R440. Recovery opcode R_INFO returns boot status, counters, INSTALLED and serial. -/
  | rInfo (who : Peer) (env : HostEnv)
  /-- R440. Recovery opcode R_BEGIN opens a download session for a package. -/
  | rBegin (who : Peer) (total : Word) (env : HostEnv)
  /-- R440. Recovery opcode R_DATA appends package data. -/
  | rData (who : Peer) (offset : Word) (data : List Byte) (env : HostEnv)
  /-- R440. Recovery opcode R_END checks and stages the package and sets REQ. -/
  | rEnd (who : Peer) (env : HostEnv)
  /-- R440. Recovery opcode R_BOOT makes a warm reset. -/
  | rBoot (who : Peer) (env : HostEnv)
  /-- R440. 10 s without a request ends the Recovery session. -/
  | recoverySessionTimeout
  /-- R441. PKE operation SM3 hashes a range, continuing or finishing the digest. -/
  | pkeSm3 (cont : Bool) (fin : Bool)
  /-- R441. PKE operation SM2_VERIFY verifies a signature. -/
  | pkeSm2Verify
  /-- R441. PKE operation SM2_SIGN signs with the device key. -/
  | pkeSm2Sign
  /-- R441. A PKE operation ends with its result and raises E68. -/
  | pkeDone
  /-- R442. PKE_CMD RNG_RESTART clears HEALTH_FAIL and reruns the start-up test. -/
  | rngRestart
  /-- R442. A read of PKE_RNG waits for and returns a fresh random word. -/
  | rngRead
  /-- R442. Every 4 µs a fresh random word is produced and reseeds the backoff LFSR. -/
  | rngWord
  /-- R442. A health test fails, HEALTH_FAIL is set, E69 raised and UNCORRECTED logged. -/
  | trngHealth
  /-- R452. Power command SLEEP starts entry to Sleep after the R453 checks. -/
  | sleepEnter
  /-- R452. Power command DEEP starts entry to Deep after the checks. -/
  | deepSleep
  /-- R452. Power command STANDBY starts entry to Standby after the checks. -/
  | standbyEnter
  /-- R452. Power command OFF starts entry to Off after the checks. -/
  | powerOff
  /-- R452. The entry conditions are met, TNET is saved, islands are isolated and the low-power settings applied. -/
  | powerEntryComplete
  /-- R453. Entry steps do not complete within ENTRY_TO and the entry ends with TIMEOUT. -/
  | entryTimeout
  /-- R451. A pending interrupt or halt request of a waiting core ends Doze within 0.1 µs. -/
  | dozeExit
  /-- R454. An enabled wake source fires in Sleep, Deep or Standby, records PRC_WAKESRC and starts the return. -/
  | powerWake (source : Fin 10)
  /-- R455. The return steps reach LOGIC_RDY, restore TNET after Deep and raise E1. -/
  | returnToRun (calTicks : Nat) (refTicks : Nat)
  /-- R455. A return step misses its timeout and a CLOCK_FAIL or WAKE_TIMEOUT reset follows. -/
  | wakeStepTimeout (step : Fin 5)
  /-- R450. TNET reaches PRC_SLPWAKE during Sleep and requests a SLOT wake. -/
  | sleepTimer
  /-- R456. A periodic VSUP sample tests brown-out and the supply warning level. -/
  | vsupSample (mv : Fin 4096)
  /-- R457. TEMP rises above THERM, sets THERM_HOT and raises E6. -/
  | thermalWarn (temp : Int)
  /-- R458. Each 125 ms reference count yields DEV_LAST and raises E3 with CLK_DEV above the limit. -/
  | clkDeviate (count : Nat)
  /-- R459. A missing reference or PLL unlock switches clocks to the RCO, cuts the PA and starts a CLOCK_FAIL reset. -/
  | clockFail
  /-- R459. After a clock failure the reference stays valid for 10 ms, REF_OK is set and E3 raised. -/
  | refOk
  /-- R460. A 1 ms tick decrements a running watchdog and raises the early warning at WARN. -/
  | watchdogTick (core1 : Bool)
  /-- R460. A watchdog count expires and resets the device or core 1. -/
  | watchdogExpiry (core1 : Bool)
  /-- R460. A write of KICK completes a kick, or expires the watchdog on a wrong value or window violation. -/
  | watchdogKick (core1 : Bool) (value : Word)
  /-- R460. Setting EN starts a watchdog count at TIMEOUT. -/
  | watchdogEnable (core1 : Bool)
  /-- R461. PRC_RSTCMD SCOPE DEVICE with CONFIRM starts a SOFTWARE reset. -/
  | deviceResetCommand (confirm : Fin 65536)
  /-- R461. PRC_RSTCMD SCOPE CORE1 with CONFIRM resets core 1 alone. -/
  | core1ResetCommand (confirm : Fin 65536)
  /-- R461. nRST held low for 32 RCO cycles starts a pin reset of warm or cold reach. -/
  | pinReset (cycles : Nat)
  /-- R461. VSUP rises with the alive latch clear, or Standby exits, starting a COLD reset. -/
  | powerOn
  /-- R462. A reset of COLD, WARM or CORE1 reach is applied, stretched and logged with its cause. -/
  | deviceReset
  /-- R466. After the stretch and nRST rise the islands leave reset in order and core 0 starts in ROM. -/
  | resetRelease (held : Bool)
  /-- R464. A write of HOLD_REL ends the ball hold for all balls. -/
  | holdRelease
  /-- R467. A write of PRC_BLKRST isolates one block, ends its accesses and resets it. -/
  | blockReset (mask : Fin 512)
  /-- R467. After 64 cycles of its clock the reset block is released and its bit reads 0. -/
  | blockResetRelease (block : Fin 9)
  /-- R227. Object 0x6008.00 forces a hot, warm or cold start, COLD deleting stored data. -/
  | gnssRestart (start : Nat)
  /-- R40. The 5 500 SE cycle RETUNE blanking of a half after a retune, plan change or twin change ends and its lanes return to SEARCH or IDLE. -/
  | retuneBlankEnd (half : Half)
  /-- R457. The die temperature falls 5 °C below THERM, THERM_HOT clears and E6 is re-armed. -/
  | thermHotClear (temp : Int)
  /-- R388. In Compatibility mode the die temperature rises above 85 °C and the legacy TEMPHI flag is raised. -/
  | temphi (temp : Int)
  /-- R234. VSUP is below 1.60 V and VBAK falls below 1.50 V, so the backup domain loses power and all its state. -/
  | backupDomainLost
  /-- R456. VIO falls below 1.60 V and every output goes to high impedance without a reset. -/
  | vioLow
  /-- R456. VIO rises back to 1.60 V or more and the outputs are driven again. -/
  | vioRestored
  /-- R362. The CAN FD controller leaves bus-off as ISO 11898-1 sets out and returns to error active. -/
  | busOffRecovery
  /-- R359. An ARP request for the device's IPv4 address arrives on Ethernet and is answered. -/
  | arpRequest (senderMac : Nat) (senderIp : Word) (target : Word)
  /-- R359. An ICMP echo request arrives on Ethernet and the device sends an echo reply. -/
  | icmpEchoRequest (ip : Word) (data : List Byte)
  /-- R461. The debug port requests a reset of device or core 1 scope, giving reset code DEBUG. -/
  | debugResetRequest (core1 : Bool)
  /-- R220. WIDTH after a leading edge the time pulse on TP_OUT returns to its inactive level. -/
  | timePulseTrailingEdge
  /-- R243. With SRC = 1 no mains pulse arrives for 100 ms and the trim measurement ends with NOREF. -/
  | measureNoref
deriving DecidableEq, Repr

end Sys2Proof
end

