-- ==== Sys2Proof/Decode.lean ====
section
/-! DEFINITION. The command that a word spells by the bits of spec/opcode_table.json: the table gives no row any bits, so
no word spells a command. -/
namespace Sys2Proof

/-- The command spelt by an instruction of `nbits` bits whose bits are `w`: none, for the table gives no bits. -/
def decodeTableWord (_nbits _w : Nat) : Option Instr := none

end Sys2Proof
end

