-- ==== Sys2Proof/Config.lean ====
section
/-! DEFINITION. What the spec leaves to a standard outside it or leaves open: constants without a body, so that nothing
can be proved of their values and every claim holds whatever they are. -/
namespace Sys2Proof

/-- The free values of the model: the `n`-th value drawn (log entry 2). -/
opaque Config.freeValue : Nat → Nat

/-- Whether page `p`, left undefined by a loss of power, reads as erased at the `n`-th choice (R349). -/
opaque Config.undefPage (n p : Nat) : Bool

/-- The block cipher of a key's algorithm (R182): AES-128 (`false`) or SM4 (`true`), key and block of 16 octets. -/
opaque Config.blockCipherOctets (sm4 : Bool) (key block : List Byte) : Vector Byte 16

def Config.blockCipher (sm4 : Bool) (key block : List Byte) : List Byte := (Config.blockCipherOctets sm4 key block).toList

/-- The inverse of the block cipher (CBC decryption). -/
opaque Config.blockDecipherOctets (sm4 : Bool) (key block : List Byte) : Vector Byte 16

def Config.blockDecipher (sm4 : Bool) (key block : List Byte) : List Byte := (Config.blockDecipherOctets sm4 key block).toList

/-- The SM3 hash of GB/T 32905, 32 octets. -/
opaque Config.sm3Octets (message : List Byte) : Vector Byte 32

def Config.sm3 (message : List Byte) : List Byte := (Config.sm3Octets message).toList

/-- ZA of GB/T 32918.2 for a public key and the default user identity of GM/T 0009 (R424). -/
opaque Config.sm2ZaOctets (key : List Byte) : Vector Byte 32

def Config.sm2Za (key : List Byte) : List Byte := (Config.sm2ZaOctets key).toList

/-- Whether a 64-octet SM2 signature over a 32-octet hash verifies under a 64-octet public key. -/
opaque Config.sm2Verify (key hash signature : List Byte) : Bool

/-- The SM2 signature over a hash by a private key with a drawn nonce. -/
opaque Config.sm2SignOctets (key hash nonce : List Byte) : Vector Byte 64

def Config.sm2Sign (key hash nonce : List Byte) : List Byte := (Config.sm2SignOctets key hash nonce).toList

/-- The SM2 public key of a private key. -/
opaque Config.sm2PublicOctets (key : List Byte) : Vector Byte 64

def Config.sm2Public (key : List Byte) : List Byte := (Config.sm2PublicOctets key).toList

/-- The Viterbi decision of R83 on the soft values of a coded frame: bits, and whether the final state is the one that
the termination of IEEE 802.15.4-2020 produces. `rsc` selects the code, `ilv` the interleaver. -/
opaque Config.fecDecode (soft : List Int) : List Bool × Bool

/-- The convolutional code of IEEE 802.15.4-2020 with its termination and padding (R99 step 4). -/
opaque Config.fecEncode (rsc : Bool) (bits : List Bool) : List Bool

/-- The interleaver of IEEE 802.15.4-2020 (R99 step 5). -/
opaque Config.interleave (bits : List Bool) : List Bool

/-- The preamble of IEEE 802.15.4-2020: its first `bits` bits (R99 step 6, R168). -/
opaque Config.preamble (bits : Nat) : List Bool

/-- The SFD of a group (phySunFskSfd), coded or uncoded (R99 step 6). -/
opaque Config.sfd (group : Nat) (coded : Bool) : List Bool

/-- How a backoff draw of `be` bits takes its bits from the generator's register (R442). -/
opaque Config.backoffDraw (lfsr be : Nat) : Nat

/-- The deviation sequence after the Gaussian filter of R103, 16 samples per symbol; `bt1` selects BT = 1.0. -/
opaque Config.gaussian (bt1 : Bool) (devs : List Int) : List Int

/-- The IC manufacturer code of R403. -/
opaque Config.tagMaker : Byte

/-- P8_REF of R218: the noise floor measured at manufacture, in 1/8 dB. -/
opaque Config.p8Ref : Int

/-- A byte of the boot ROM, whose contents the spec does not give. -/
opaque Config.romByte (a : Nat) : Byte

end Sys2Proof
end

