-- ==== Sys2Proof/Machine/RegBtu.lean ====
section
/-! DEFINITION. The register fields of the BTU block (base 0x40110000), from the block map and field tables of
spec/18_boot_identity_update.md: address, lowest bit, width and reset value of each field, then each register's row of fields with
their access codes (R6) and the values a field accepts. -/
namespace Sys2Proof.Machine

def BTU_BOOTSTAT_ALT_BANK : RegField := ⟨0x40110000, 0, 1, 0⟩
def BTU_BOOTSTAT_TRIAL : RegField := ⟨0x40110000, 1, 1, 0⟩
def BTU_BOOTSTAT_REVERTED : RegField := ⟨0x40110000, 2, 1, 0⟩
def BTU_BOOTSTAT_REVERT_FAIL : RegField := ⟨0x40110000, 3, 1, 0⟩
def BTU_BOOTSTAT_OTP_FAULT : RegField := ⟨0x40110000, 4, 1, 0⟩
def BTU_BOOTSTAT_REASON_A : RegField := ⟨0x40110000, 8, 8, 0⟩
def BTU_SWAP_REQ : RegField := ⟨0x40110004, 0, 1, 0⟩
def BTU_SWAP_FIRST : RegField := ⟨0x40110004, 1, 1, 0⟩
def BTU_CNT0_C1 : RegField := ⟨0x40110008, 0, 8, 0⟩
def BTU_CNT0_C2 : RegField := ⟨0x40110008, 8, 8, 0⟩
def BTU_CNT0_C3 : RegField := ⟨0x40110008, 16, 8, 0⟩
def BTU_CNT0_C4 : RegField := ⟨0x40110008, 24, 8, 0⟩
def BTU_CNT1_CNT : RegField := ⟨0x4011000C, 0, 8, 0⟩
def BTU_LOCK_LOCK : RegField := ⟨0x40110010, 0, 1, 0⟩

def BTU_BOOTSTAT_reg : RegRow :=
  { base := 0x40110000, count := 1, stride := 4,
    rows := fun _ => [
      ⟨BTU_BOOTSTAT_ALT_BANK, .ro, fun _ => true, false⟩,
      ⟨BTU_BOOTSTAT_TRIAL, .ro, fun _ => true, false⟩,
      ⟨BTU_BOOTSTAT_REVERTED, .ro, fun _ => true, false⟩,
      ⟨BTU_BOOTSTAT_REVERT_FAIL, .ro, fun _ => true, false⟩,
      ⟨BTU_BOOTSTAT_OTP_FAULT, .ro, fun _ => true, false⟩,
      ⟨BTU_BOOTSTAT_REASON_A, .ro, fun _ => true, false⟩] }

def BTU_SWAP_reg : RegRow :=
  { base := 0x40110004, count := 1, stride := 4,
    rows := fun _ => [
      ⟨BTU_SWAP_REQ, .w1s, fun _ => true, false⟩,
      ⟨BTU_SWAP_FIRST, .ro, fun _ => true, false⟩] }

def BTU_CNT0_reg : RegRow :=
  { base := 0x40110008, count := 1, stride := 4,
    rows := fun _ => [
      ⟨BTU_CNT0_C1, .ro, fun _ => true, false⟩,
      ⟨BTU_CNT0_C2, .ro, fun _ => true, false⟩,
      ⟨BTU_CNT0_C3, .ro, fun _ => true, false⟩,
      ⟨BTU_CNT0_C4, .ro, fun _ => true, false⟩] }

def BTU_CNT1_reg : RegRow :=
  { base := 0x4011000C, count := 1, stride := 4,
    rows := fun _ => [
      ⟨BTU_CNT1_CNT, .ro, fun _ => true, false⟩] }

def BTU_LOCK_reg : RegRow :=
  { base := 0x40110010, count := 1, stride := 4,
    rows := fun _ => [
      ⟨BTU_LOCK_LOCK, .w1s, fun _ => true, false⟩] }

/-- Every register of the BTU block, by address. -/
def btuRegs : List RegRow :=
  [BTU_BOOTSTAT_reg, BTU_SWAP_reg, BTU_CNT0_reg, BTU_CNT1_reg, BTU_LOCK_reg]

end Sys2Proof.Machine
end

