-- ==== Sys2Proof/Machine/RegChz.lean ====
section
/-! DEFINITION. The register fields of the CHZ block (base 0x40020000), from the block map and field tables of
spec/03_channelizer_demodulation.md: address, lowest bit, width and reset value of each field, then each register's row of fields with
their access codes (R6) and the values a field accepts. -/
namespace Sys2Proof.Machine

def CHZ_CTRL_PLAN_A : RegField := ⟨0x40020000, 0, 1, 0⟩
def CHZ_CTRL_PLAN_B : RegField := ⟨0x40020000, 1, 1, 0⟩
def CHZ_CTRL_TWIN_EN : RegField := ⟨0x40020000, 2, 1, 0⟩
def CHZ_CTRL_LEAK_EN : RegField := ⟨0x40020000, 3, 1, 1⟩
def CHZ_STATUS_TWIN_ACTIVE : RegField := ⟨0x40020004, 0, 1, 0⟩
def CHZ_STATUS_TWIN_REJ : RegField := ⟨0x40020004, 1, 1, 0⟩
def CHZ_STATUS_PROF_ERR : RegField := ⟨0x40020004, 2, 1, 0⟩
def CHZ_STATUS_MAP_BUSY : RegField := ⟨0x40020004, 3, 1, 0⟩
def CHZ_STATUS_UNMAPPED : RegField := ⟨0x40020004, 16, 16, 0⟩
def CHZ_CHF0_F0 : RegField := ⟨0x40020008, 0, 30, 463700000⟩
def CHZ_CHSPACE_S : RegField := ⟨0x4002000C, 0, 21, 200000⟩
def CHZ_CHCOUNT_N : RegField := ⟨0x40020010, 0, 11, 64⟩
def CHZ_MAPQ_CHAN : RegField := ⟨0x40020014, 0, 10, 0⟩
def CHZ_MAPQ_LANE : RegField := ⟨0x40020014, 16, 6, 0⟩
def CHZ_MAPQ_HALF : RegField := ⟨0x40020014, 22, 1, 0⟩
def CHZ_MAPQ_VALID : RegField := ⟨0x40020014, 31, 1, 0⟩
def CHZ_SYNC_SFD_ERR : RegField := ⟨0x40020018, 0, 2, 1⟩
def CHZ_SYNC_LEG_ERR : RegField := ⟨0x40020018, 4, 3, 2⟩
def CHZ_LEGSYNC_WORD : RegField := ⟨0x4002001C, 0, 32, 0x2dd493c6⟩
def CHZ_PROF_MOD (i : Nat) : RegField := ⟨0x40020020 + 0x4 * (i % 4), 0, 1, 0⟩
def CHZ_PROF_RATE (i : Nat) : RegField := ⟨0x40020020 + 0x4 * (i % 4), 1, 3, 0⟩
def CHZ_PROF_BT (i : Nat) : RegField := ⟨0x40020020 + 0x4 * (i % 4), 4, 1, 0⟩
def CHZ_PROF_HIDX (i : Nat) : RegField := ⟨0x40020020 + 0x4 * (i % 4), 5, 8, 64⟩
def CHZ_PROF_REP (i : Nat) : RegField := ⟨0x40020020 + 0x4 * (i % 4), 13, 2, 0⟩
def CHZ_PROF_SFDG (i : Nat) : RegField := ⟨0x40020020 + 0x4 * (i % 4), 15, 1, 0⟩
def CHZ_PROF_FEC_EN (i : Nat) : RegField := ⟨0x40020020 + 0x4 * (i % 4), 16, 1, 1⟩
def CHZ_PROF_LEG_EN (i : Nat) : RegField := ⟨0x40020020 + 0x4 * (i % 4), 17, 1, 1⟩
def CHZ_PROF_NAT_EN (i : Nat) : RegField := ⟨0x40020020 + 0x4 * (i % 4), 18, 1, 1⟩
def CHZ_PROF_MAXLEN (i : Nat) : RegField := ⟨0x40020020 + 0x4 * (i % 4), 20, 11, 2047⟩
def CHZ_OFFCFG_ALPHA : RegField := ⟨0x40020030, 0, 3, 2⟩
def CHZ_OFFCFG_OFF_LIM : RegField := ⟨0x40020030, 16, 13, 2000⟩
def CHZ_LEAKCFG_TARGET : RegField := ⟨0x40020034, 0, 6, 35⟩
def CHZ_LEAKCFG_MIN : RegField := ⟨0x40020034, 8, 6, 25⟩
def CHZ_LEAK_A_SUPPR : RegField := ⟨0x40020038, 0, 8, 0⟩
def CHZ_LEAK_A_ACTIVE : RegField := ⟨0x40020038, 8, 1, 0⟩
def CHZ_LEAK_A_CONV : RegField := ⟨0x40020038, 9, 1, 0⟩
def CHZ_LEAK_A_SETS : RegField := ⟨0x40020038, 16, 4, 0⟩
def CHZ_LEAK_B_SUPPR : RegField := ⟨0x4002003C, 0, 8, 0⟩
def CHZ_LEAK_B_ACTIVE : RegField := ⟨0x4002003C, 8, 1, 0⟩
def CHZ_LEAK_B_CONV : RegField := ⟨0x4002003C, 9, 1, 0⟩
def CHZ_LEAK_B_SETS : RegField := ⟨0x4002003C, 16, 4, 0⟩
def CHZ_LOCK_LOCK : RegField := ⟨0x40020040, 0, 1, 0⟩
def CHZ_LCFG_EN (i : Nat) : RegField := ⟨0x40021000 + 0x10 * (i % 128), 0, 1, 1⟩
def CHZ_LCFG_PROFILE (i : Nat) : RegField := ⟨0x40021000 + 0x10 * (i % 128), 1, 2, 0⟩
def CHZ_LSTAT_STATE (i : Nat) : RegField := ⟨0x40021004 + 0x10 * (i % 128), 0, 3, 0⟩
def CHZ_LSTAT_DGAIN (i : Nat) : RegField := ⟨0x40021004 + 0x10 * (i % 128), 4, 6, 0⟩
def CHZ_LNCO_LNCO (i : Nat) : RegField := ⟨0x40021008 + 0x10 * (i % 128), 0, 24, 0⟩
def CHZ_LCNT_DETECT (i : Nat) : RegField := ⟨0x4002100C + 0x10 * (i % 128), 0, 16, 0⟩
def CHZ_LCNT_BLANKED (i : Nat) : RegField := ⟨0x4002100C + 0x10 * (i % 128), 16, 8, 0⟩
def CHZ_LCNT_OVF (i : Nat) : RegField := ⟨0x4002100C + 0x10 * (i % 128), 24, 8, 0⟩

def CHZ_CTRL_reg : RegRow :=
  { base := 0x40020000, count := 1, stride := 4,
    rows := fun _ => [
      ⟨CHZ_CTRL_PLAN_A, .rwl, fun _ => true, false⟩,
      { field := CHZ_CTRL_PLAN_B, access := .rwl, halfB := true },
      ⟨CHZ_CTRL_TWIN_EN, .rw, fun _ => true, false⟩,
      ⟨CHZ_CTRL_LEAK_EN, .rwl, fun _ => true, false⟩] }

def CHZ_STATUS_reg : RegRow :=
  { base := 0x40020004, count := 1, stride := 4,
    rows := fun _ => [
      ⟨CHZ_STATUS_TWIN_ACTIVE, .ro, fun _ => true, false⟩,
      ⟨CHZ_STATUS_TWIN_REJ, .ro, fun _ => true, false⟩,
      ⟨CHZ_STATUS_PROF_ERR, .ro, fun _ => true, false⟩,
      ⟨CHZ_STATUS_MAP_BUSY, .ro, fun _ => true, false⟩,
      ⟨CHZ_STATUS_UNMAPPED, .ro, fun _ => true, false⟩] }

def CHZ_CHF0_reg : RegRow :=
  { base := 0x40020008, count := 1, stride := 4,
    rows := fun _ => [
      { field := CHZ_CHF0_F0, access := .rw, legal := fun v => within 410000000 960000000 v }] }

def CHZ_CHSPACE_reg : RegRow :=
  { base := 0x4002000C, count := 1, stride := 4,
    rows := fun _ => [
      { field := CHZ_CHSPACE_S, access := .rw, legal := fun v => within 1000 2000000 v }] }

def CHZ_CHCOUNT_reg : RegRow :=
  { base := 0x40020010, count := 1, stride := 4,
    rows := fun _ => [
      { field := CHZ_CHCOUNT_N, access := .rw, legal := fun v => within 1 1024 v }] }

def CHZ_MAPQ_reg : RegRow :=
  { base := 0x40020014, count := 1, stride := 4,
    rows := fun _ => [
      ⟨CHZ_MAPQ_CHAN, .rw, fun _ => true, false⟩,
      ⟨CHZ_MAPQ_LANE, .ro, fun _ => true, false⟩,
      ⟨CHZ_MAPQ_HALF, .ro, fun _ => true, false⟩,
      ⟨CHZ_MAPQ_VALID, .ro, fun _ => true, false⟩] }

def CHZ_SYNC_reg : RegRow :=
  { base := 0x40020018, count := 1, stride := 4,
    rows := fun _ => [
      ⟨CHZ_SYNC_SFD_ERR, .rw, fun _ => true, false⟩,
      { field := CHZ_SYNC_LEG_ERR, access := .rw, legal := fun v => v != 7 }] }

def CHZ_LEGSYNC_reg : RegRow :=
  { base := 0x4002001C, count := 1, stride := 4,
    rows := fun _ => [
      ⟨CHZ_LEGSYNC_WORD, .rw, fun _ => true, false⟩] }

def CHZ_PROF_reg : RegRow :=
  { base := 0x40020020, count := 4, stride := 4,
    rows := fun i => [
      ⟨CHZ_PROF_MOD i, .rw, fun _ => true, false⟩,
      ⟨CHZ_PROF_RATE i, .rw, fun _ => true, false⟩,
      ⟨CHZ_PROF_BT i, .rw, fun _ => true, false⟩,
      ⟨CHZ_PROF_HIDX i, .rw, fun _ => true, false⟩,
      ⟨CHZ_PROF_REP i, .rw, fun _ => true, false⟩,
      ⟨CHZ_PROF_SFDG i, .rw, fun _ => true, false⟩,
      ⟨CHZ_PROF_FEC_EN i, .rw, fun _ => true, false⟩,
      ⟨CHZ_PROF_LEG_EN i, .rw, fun _ => true, false⟩,
      ⟨CHZ_PROF_NAT_EN i, .rw, fun _ => true, false⟩,
      ⟨CHZ_PROF_MAXLEN i, .rw, fun _ => true, false⟩] }

def CHZ_OFFCFG_reg : RegRow :=
  { base := 0x40020030, count := 1, stride := 4,
    rows := fun _ => [
      ⟨CHZ_OFFCFG_ALPHA, .rw, fun _ => true, false⟩,
      { field := CHZ_OFFCFG_OFF_LIM, access := .rw, legal := fun v => v ≤ 5000 }] }

def CHZ_LEAKCFG_reg : RegRow :=
  { base := 0x40020034, count := 1, stride := 4,
    rows := fun _ => [
      { field := CHZ_LEAKCFG_TARGET, access := .rwl, legal := fun v => within 20 50 v },
      { field := CHZ_LEAKCFG_MIN, access := .rwl, legal := fun v => within 10 40 v }] }

def CHZ_LEAK_A_reg : RegRow :=
  { base := 0x40020038, count := 1, stride := 4,
    rows := fun _ => [
      ⟨CHZ_LEAK_A_SUPPR, .ro, fun _ => true, false⟩,
      ⟨CHZ_LEAK_A_ACTIVE, .ro, fun _ => true, false⟩,
      ⟨CHZ_LEAK_A_CONV, .ro, fun _ => true, false⟩,
      ⟨CHZ_LEAK_A_SETS, .ro, fun _ => true, false⟩] }

def CHZ_LEAK_B_reg : RegRow :=
  { base := 0x4002003C, count := 1, stride := 4,
    rows := fun _ => [
      ⟨CHZ_LEAK_B_SUPPR, .ro, fun _ => true, false⟩,
      ⟨CHZ_LEAK_B_ACTIVE, .ro, fun _ => true, false⟩,
      ⟨CHZ_LEAK_B_CONV, .ro, fun _ => true, false⟩,
      ⟨CHZ_LEAK_B_SETS, .ro, fun _ => true, false⟩] }

def CHZ_LOCK_reg : RegRow :=
  { base := 0x40020040, count := 1, stride := 4,
    rows := fun _ => [
      ⟨CHZ_LOCK_LOCK, .w1s, fun _ => true, false⟩] }

def CHZ_LCFG_reg : RegRow :=
  { base := 0x40021000, count := 128, stride := 16,
    rows := fun i => [
      ⟨CHZ_LCFG_EN i, .rw, fun _ => true, false⟩,
      ⟨CHZ_LCFG_PROFILE i, .rw, fun _ => true, false⟩] }

def CHZ_LSTAT_reg : RegRow :=
  { base := 0x40021004, count := 128, stride := 16,
    rows := fun i => [
      ⟨CHZ_LSTAT_STATE i, .ro, fun _ => true, false⟩,
      ⟨CHZ_LSTAT_DGAIN i, .ro, fun _ => true, false⟩] }

def CHZ_LNCO_reg : RegRow :=
  { base := 0x40021008, count := 128, stride := 16,
    rows := fun i => [
      ⟨CHZ_LNCO_LNCO i, .ro, fun _ => true, false⟩] }

def CHZ_LCNT_reg : RegRow :=
  { base := 0x4002100C, count := 128, stride := 16,
    rows := fun i => [
      ⟨CHZ_LCNT_DETECT i, .ro, fun _ => true, false⟩,
      ⟨CHZ_LCNT_BLANKED i, .ro, fun _ => true, false⟩,
      ⟨CHZ_LCNT_OVF i, .ro, fun _ => true, false⟩] }

/-- Every register of the CHZ block, by address. -/
def chzRegs : List RegRow :=
  [CHZ_CTRL_reg, CHZ_STATUS_reg, CHZ_CHF0_reg, CHZ_CHSPACE_reg, CHZ_CHCOUNT_reg, CHZ_MAPQ_reg, CHZ_SYNC_reg, CHZ_LEGSYNC_reg, CHZ_PROF_reg, CHZ_OFFCFG_reg, CHZ_LEAKCFG_reg, CHZ_LEAK_A_reg, CHZ_LEAK_B_reg, CHZ_LOCK_reg, CHZ_LCFG_reg, CHZ_LSTAT_reg, CHZ_LNCO_reg, CHZ_LCNT_reg]

end Sys2Proof.Machine
end

