-- ==== Sys2Proof/Machine/RegErr.lean ====
section
/-! DEFINITION. The register fields of the ERR block (base 0x40120000), from the block map and field tables of
spec/13_memories_error_codes.md: address, lowest bit, width and reset value of each field, then each register's row of fields with
their access codes (R6) and the values a field accepts. -/
namespace Sys2Proof.Machine

def ERR_STATUS_LEVEL : RegField := ⟨0x40120000, 0, 5, 0⟩
def ERR_STATUS_FATAL_OPEN : RegField := ⟨0x40120000, 5, 1, 0⟩
def ERR_STATUS_LOG_LOST : RegField := ⟨0x40120000, 6, 1, 0⟩
def ERR_STATUS_DOUBLE : RegField := ⟨0x40120000, 7, 1, 0⟩
def ERR_STATUS_POP_REJ : RegField := ⟨0x40120000, 8, 1, 0⟩
def ERR_STATUS_DEPTH : RegField := ⟨0x40120000, 9, 7, 0⟩
def ERR_STATUS_LOST : RegField := ⟨0x40120000, 16, 16, 0⟩
def ERR_OPEN0_OPEN : RegField := ⟨0x40120004, 0, 32, 0⟩
def ERR_OPEN1_OPEN : RegField := ⟨0x40120008, 0, 32, 0⟩
def ERR_CLOSE_SRC : RegField := ⟨0x4012000C, 0, 8, 0⟩
def ERR_CLOSE_SRC_EN : RegField := ⟨0x4012000C, 8, 1, 0⟩
def ERR_CLOSE_FATAL : RegField := ⟨0x4012000C, 9, 1, 0⟩
def ERR_POP_POP : RegField := ⟨0x40120010, 0, 1, 0⟩
def ERR_INJECT_CLASS : RegField := ⟨0x40120014, 0, 2, 0⟩
def ERR_LOG_A_CLASS (i : Nat) : RegField := ⟨0x40120100 + 0x10 * (i % 16), 0, 2, 0⟩
def ERR_LOG_A_SOURCE (i : Nat) : RegField := ⟨0x40120100 + 0x10 * (i % 16), 8, 8, 0⟩
def ERR_LOG_A_OPEN (i : Nat) : RegField := ⟨0x40120100 + 0x10 * (i % 16), 16, 1, 0⟩
def ERR_LOG_A_ESCALATED (i : Nat) : RegField := ⟨0x40120100 + 0x10 * (i % 16), 17, 1, 0⟩
def ERR_LOG_A_RESET (i : Nat) : RegField := ⟨0x40120100 + 0x10 * (i % 16), 18, 1, 0⟩
def ERR_LOG_A_SCRUB (i : Nat) : RegField := ⟨0x40120100 + 0x10 * (i % 16), 19, 1, 0⟩
def ERR_LOG_A_DOUBLE (i : Nat) : RegField := ⟨0x40120100 + 0x10 * (i % 16), 20, 1, 0⟩
def ERR_LOG_A_DETAIL (i : Nat) : RegField := ⟨0x40120100 + 0x10 * (i % 16), 24, 8, 0⟩
def ERR_LOG_B_ADDRESS (i : Nat) : RegField := ⟨0x40120104 + 0x10 * (i % 16), 0, 32, 0⟩
def ERR_LOG_C_TNET (i : Nat) : RegField := ⟨0x40120108 + 0x10 * (i % 16), 0, 32, 0⟩
def ERR_LOG_D_TNET (i : Nat) : RegField := ⟨0x4012010C + 0x10 * (i % 16), 0, 32, 0⟩

def ERR_STATUS_reg : RegRow :=
  { base := 0x40120000, count := 1, stride := 4,
    rows := fun _ => [
      ⟨ERR_STATUS_LEVEL, .ro, fun _ => true, false⟩,
      ⟨ERR_STATUS_FATAL_OPEN, .ro, fun _ => true, false⟩,
      ⟨ERR_STATUS_LOG_LOST, .w1c, fun _ => true, false⟩,
      ⟨ERR_STATUS_DOUBLE, .w1c, fun _ => true, false⟩,
      ⟨ERR_STATUS_POP_REJ, .ro, fun _ => true, false⟩,
      ⟨ERR_STATUS_DEPTH, .ro, fun _ => true, false⟩,
      ⟨ERR_STATUS_LOST, .ro, fun _ => true, false⟩] }

def ERR_OPEN0_reg : RegRow :=
  { base := 0x40120004, count := 1, stride := 4,
    rows := fun _ => [
      ⟨ERR_OPEN0_OPEN, .ro, fun _ => true, false⟩] }

def ERR_OPEN1_reg : RegRow :=
  { base := 0x40120008, count := 1, stride := 4,
    rows := fun _ => [
      ⟨ERR_OPEN1_OPEN, .ro, fun _ => true, false⟩] }

def ERR_CLOSE_reg : RegRow :=
  { base := 0x4012000C, count := 1, stride := 4,
    rows := fun _ => [
      ⟨ERR_CLOSE_SRC, .wo, fun _ => true, false⟩,
      ⟨ERR_CLOSE_SRC_EN, .wo, fun _ => true, false⟩,
      ⟨ERR_CLOSE_FATAL, .wo, fun _ => true, false⟩] }

def ERR_POP_reg : RegRow :=
  { base := 0x40120010, count := 1, stride := 4,
    rows := fun _ => [
      ⟨ERR_POP_POP, .wo, fun _ => true, false⟩] }

def ERR_INJECT_reg : RegRow :=
  { base := 0x40120014, count := 1, stride := 4,
    rows := fun _ => [
      ⟨ERR_INJECT_CLASS, .wo, fun _ => true, false⟩] }

def ERR_LOG_A_reg : RegRow :=
  { base := 0x40120100, count := 16, stride := 16,
    rows := fun i => [
      ⟨ERR_LOG_A_CLASS i, .ro, fun _ => true, false⟩,
      ⟨ERR_LOG_A_SOURCE i, .ro, fun _ => true, false⟩,
      ⟨ERR_LOG_A_OPEN i, .ro, fun _ => true, false⟩,
      ⟨ERR_LOG_A_ESCALATED i, .ro, fun _ => true, false⟩,
      ⟨ERR_LOG_A_RESET i, .ro, fun _ => true, false⟩,
      ⟨ERR_LOG_A_SCRUB i, .ro, fun _ => true, false⟩,
      ⟨ERR_LOG_A_DOUBLE i, .ro, fun _ => true, false⟩,
      ⟨ERR_LOG_A_DETAIL i, .ro, fun _ => true, false⟩] }

def ERR_LOG_B_reg : RegRow :=
  { base := 0x40120104, count := 16, stride := 16,
    rows := fun i => [
      ⟨ERR_LOG_B_ADDRESS i, .ro, fun _ => true, false⟩] }

def ERR_LOG_C_reg : RegRow :=
  { base := 0x40120108, count := 16, stride := 16,
    rows := fun i => [
      ⟨ERR_LOG_C_TNET i, .ro, fun _ => true, false⟩] }

def ERR_LOG_D_reg : RegRow :=
  { base := 0x4012010C, count := 16, stride := 16,
    rows := fun i => [
      ⟨ERR_LOG_D_TNET i, .ro, fun _ => true, false⟩] }

/-- Every register of the ERR block, by address. -/
def errRegs : List RegRow :=
  [ERR_STATUS_reg, ERR_OPEN0_reg, ERR_OPEN1_reg, ERR_CLOSE_reg, ERR_POP_reg, ERR_INJECT_reg, ERR_LOG_A_reg, ERR_LOG_B_reg, ERR_LOG_C_reg, ERR_LOG_D_reg]

end Sys2Proof.Machine
end

