-- ==== Sys2Proof/Machine/RegEvr.lean ====
section
/-! DEFINITION. The register fields of the EVR block (base 0x400B0000), from the block map and field tables of
spec/10_timers_event_routing.md: address, lowest bit, width and reset value of each field, then each register's row of fields with
their access codes (R6) and the values a field accepts. -/
namespace Sys2Proof.Machine

def EVR_ESTAT_STAT (i : Nat) : RegField := ⟨0x400B0000 + 0x4 * (i % 4), 0, 32, 0⟩
def EVR_SWEV_SW : RegField := ⟨0x400B0010, 0, 4, 0⟩
def EVR_FIRE_FIRE : RegField := ⟨0x400B0014, 0, 32, 0⟩
def EVR_STATUS_ACC_REJ : RegField := ⟨0x400B0018, 0, 1, 0⟩
def EVR_STUCKSUM_STUCK : RegField := ⟨0x400B001C, 0, 32, 0⟩
def EVR_GPO_PIN (i : Nat) : RegField := ⟨0x400B0020 + 0x4 * (i % 8), 0, 6, 0⟩
def EVR_GPO_ACTION (i : Nat) : RegField := ⟨0x400B0020 + 0x4 * (i % 8), 6, 2, 0⟩
def EVR_GPO_EN (i : Nat) : RegField := ⟨0x400B0020 + 0x4 * (i % 8), 8, 1, 0⟩
def EVR_LOCK_LOCK : RegField := ⟨0x400B0040, 0, 1, 0⟩
def EVR_CFG_EN (i : Nat) : RegField := ⟨0x400B0100 + 0x40 * (i % 32), 0, 1, 0⟩
def EVR_CFG_OWNER (i : Nat) : RegField := ⟨0x400B0100 + 0x40 * (i % 32), 1, 2, 0⟩
def EVR_CFG_SEC (i : Nat) : RegField := ⟨0x400B0100 + 0x40 * (i % 32), 3, 1, 0⟩
def EVR_CFG_PIN_EN (i : Nat) : RegField := ⟨0x400B0100 + 0x40 * (i % 32), 4, 1, 0⟩
def EVR_CFG_PIN (i : Nat) : RegField := ⟨0x400B0100 + 0x40 * (i % 32), 5, 6, 0⟩
def EVR_CFG_EDGE (i : Nat) : RegField := ⟨0x400B0100 + 0x40 * (i % 32), 11, 2, 0⟩
def EVR_CFG_STAMP (i : Nat) : RegField := ⟨0x400B0100 + 0x40 * (i % 32), 13, 1, 0⟩
def EVR_PM0_MASK (i : Nat) : RegField := ⟨0x400B0104 + 0x40 * (i % 32), 0, 32, 0⟩
def EVR_PM1_MASK (i : Nat) : RegField := ⟨0x400B0108 + 0x40 * (i % 32), 0, 32, 0⟩
def EVR_PM2_MASK (i : Nat) : RegField := ⟨0x400B010C + 0x40 * (i % 32), 0, 32, 0⟩
def EVR_PM3_MASK (i : Nat) : RegField := ⟨0x400B0110 + 0x40 * (i % 32), 0, 32, 0⟩
def EVR_TM0_MASK (i : Nat) : RegField := ⟨0x400B0114 + 0x40 * (i % 32), 0, 32, 0⟩
def EVR_TM1_MASK (i : Nat) : RegField := ⟨0x400B0118 + 0x40 * (i % 32), 0, 32, 0⟩
def EVR_TM2_MASK (i : Nat) : RegField := ⟨0x400B011C + 0x40 * (i % 32), 0, 32, 0⟩
def EVR_COND_MINPULSE (i : Nat) : RegField := ⟨0x400B0120 + 0x40 * (i % 32), 0, 8, 1⟩
def EVR_COND_RMAX (i : Nat) : RegField := ⟨0x400B0120 + 0x40 * (i % 32), 8, 8, 0⟩
def EVR_COND_RWIN (i : Nat) : RegField := ⟨0x400B0120 + 0x40 * (i % 32), 16, 8, 0⟩
def EVR_COND_STUCK_T (i : Nat) : RegField := ⟨0x400B0120 + 0x40 * (i % 32), 24, 8, 0⟩
def EVR_STAT_STUCK (i : Nat) : RegField := ⟨0x400B0124 + 0x40 * (i % 32), 0, 1, 0⟩
def EVR_STAT_TS_VALID (i : Nat) : RegField := ⟨0x400B0124 + 0x40 * (i % 32), 1, 1, 0⟩
def EVR_STAT_LEVEL (i : Nat) : RegField := ⟨0x400B0124 + 0x40 * (i % 32), 2, 1, 0⟩
def EVR_STAT_DROPPED (i : Nat) : RegField := ⟨0x400B0124 + 0x40 * (i % 32), 16, 16, 0⟩
def EVR_TSL_TS_L (i : Nat) : RegField := ⟨0x400B0128 + 0x40 * (i % 32), 0, 32, 0⟩
def EVR_TSH_TS_H (i : Nat) : RegField := ⟨0x400B012C + 0x40 * (i % 32), 0, 32, 0⟩

def EVR_ESTAT_reg : RegRow :=
  { base := 0x400B0000, count := 4, stride := 4,
    rows := fun i => [
      ⟨EVR_ESTAT_STAT i, .w1c, fun _ => true, false⟩] }

def EVR_SWEV_reg : RegRow :=
  { base := 0x400B0010, count := 1, stride := 4,
    rows := fun _ => [
      ⟨EVR_SWEV_SW, .wo, fun _ => true, false⟩] }

def EVR_FIRE_reg : RegRow :=
  { base := 0x400B0014, count := 1, stride := 4,
    rows := fun _ => [
      ⟨EVR_FIRE_FIRE, .wo, fun _ => true, false⟩] }

def EVR_STATUS_reg : RegRow :=
  { base := 0x400B0018, count := 1, stride := 4,
    rows := fun _ => [
      ⟨EVR_STATUS_ACC_REJ, .ro, fun _ => true, false⟩] }

def EVR_STUCKSUM_reg : RegRow :=
  { base := 0x400B001C, count := 1, stride := 4,
    rows := fun _ => [
      ⟨EVR_STUCKSUM_STUCK, .ro, fun _ => true, false⟩] }

def EVR_GPO_reg : RegRow :=
  { base := 0x400B0020, count := 8, stride := 4, whole := true,
    rows := fun i => [
      { field := EVR_GPO_PIN i, access := .rw, legal := fun v => v ≤ 39 },
      { field := EVR_GPO_ACTION i, access := .rw, legal := fun v => v != 3 },
      ⟨EVR_GPO_EN i, .rw, fun _ => true, false⟩] }

def EVR_LOCK_reg : RegRow :=
  { base := 0x400B0040, count := 1, stride := 4,
    rows := fun _ => [
      ⟨EVR_LOCK_LOCK, .w1s, fun _ => true, false⟩] }

def EVR_CFG_reg : RegRow :=
  { base := 0x400B0100, count := 32, stride := 64, whole := true,
    rows := fun i => [
      ⟨EVR_CFG_EN i, .rw, fun _ => true, false⟩,
      ⟨EVR_CFG_OWNER i, .rwl, fun _ => true, false⟩,
      ⟨EVR_CFG_SEC i, .rwl, fun _ => true, false⟩,
      ⟨EVR_CFG_PIN_EN i, .rw, fun _ => true, false⟩,
      { field := EVR_CFG_PIN i, access := .rw, legal := fun v => v ≤ 39 },
      { field := EVR_CFG_EDGE i, access := .rw, legal := fun v => v != 3 },
      ⟨EVR_CFG_STAMP i, .rw, fun _ => true, false⟩] }

def EVR_PM0_reg : RegRow :=
  { base := 0x400B0104, count := 32, stride := 64,
    rows := fun i => [
      ⟨EVR_PM0_MASK i, .rw, fun _ => true, false⟩] }

def EVR_PM1_reg : RegRow :=
  { base := 0x400B0108, count := 32, stride := 64,
    rows := fun i => [
      ⟨EVR_PM1_MASK i, .rw, fun _ => true, false⟩] }

def EVR_PM2_reg : RegRow :=
  { base := 0x400B010C, count := 32, stride := 64,
    rows := fun i => [
      ⟨EVR_PM2_MASK i, .rw, fun _ => true, false⟩] }

def EVR_PM3_reg : RegRow :=
  { base := 0x400B0110, count := 32, stride := 64,
    rows := fun i => [
      ⟨EVR_PM3_MASK i, .rw, fun _ => true, false⟩] }

def EVR_TM0_reg : RegRow :=
  { base := 0x400B0114, count := 32, stride := 64,
    rows := fun i => [
      ⟨EVR_TM0_MASK i, .rw, fun _ => true, false⟩] }

def EVR_TM1_reg : RegRow :=
  { base := 0x400B0118, count := 32, stride := 64,
    rows := fun i => [
      ⟨EVR_TM1_MASK i, .rw, fun _ => true, false⟩] }

def EVR_TM2_reg : RegRow :=
  { base := 0x400B011C, count := 32, stride := 64,
    rows := fun i => [
      ⟨EVR_TM2_MASK i, .rw, fun _ => true, false⟩] }

def EVR_COND_reg : RegRow :=
  { base := 0x400B0120, count := 32, stride := 64,
    rows := fun i => [
      { field := EVR_COND_MINPULSE i, access := .rw, legal := fun v => v != 0 },
      ⟨EVR_COND_RMAX i, .rw, fun _ => true, false⟩,
      ⟨EVR_COND_RWIN i, .rw, fun _ => true, false⟩,
      ⟨EVR_COND_STUCK_T i, .rw, fun _ => true, false⟩] }

def EVR_STAT_reg : RegRow :=
  { base := 0x400B0124, count := 32, stride := 64,
    rows := fun i => [
      ⟨EVR_STAT_STUCK i, .w1c, fun _ => true, false⟩,
      ⟨EVR_STAT_TS_VALID i, .ro, fun _ => true, false⟩,
      ⟨EVR_STAT_LEVEL i, .ro, fun _ => true, false⟩,
      ⟨EVR_STAT_DROPPED i, .ro, fun _ => true, false⟩] }

def EVR_TSL_reg : RegRow :=
  { base := 0x400B0128, count := 32, stride := 64,
    rows := fun i => [
      ⟨EVR_TSL_TS_L i, .ro, fun _ => true, false⟩] }

def EVR_TSH_reg : RegRow :=
  { base := 0x400B012C, count := 32, stride := 64,
    rows := fun i => [
      ⟨EVR_TSH_TS_H i, .ro, fun _ => true, false⟩] }

/-- Every register of the EVR block, by address. -/
def evrRegs : List RegRow :=
  [EVR_ESTAT_reg, EVR_SWEV_reg, EVR_FIRE_reg, EVR_STATUS_reg, EVR_STUCKSUM_reg, EVR_GPO_reg, EVR_LOCK_reg, EVR_CFG_reg, EVR_PM0_reg, EVR_PM1_reg, EVR_PM2_reg, EVR_PM3_reg, EVR_TM0_reg, EVR_TM1_reg, EVR_TM2_reg, EVR_COND_reg, EVR_STAT_reg, EVR_TSL_reg, EVR_TSH_reg]

end Sys2Proof.Machine
end

