-- ==== Sys2Proof/Machine/RegFlc.lean ====
section
/-! DEFINITION. The register fields of the FLC block (base 0x400D0000), from the block map and field tables of
spec/14_flash_controller.md: address, lowest bit, width and reset value of each field, then each register's row of fields with
their access codes (R6) and the values a field accepts. -/
namespace Sys2Proof.Machine

def FLC_CTRL_STALL_FETCH : RegField := ⟨0x400D0000, 0, 1, 0⟩
def FLC_CTRL_RESUME_IDLE : RegField := ⟨0x400D0000, 8, 8, 20⟩
def FLC_CTRL_STARVE_N : RegField := ⟨0x400D0000, 16, 8, 16⟩
def FLC_STATUS_LEVEL : RegField := ⟨0x400D0004, 0, 5, 0⟩
def FLC_STATUS_PUSH_REJ : RegField := ⟨0x400D0004, 5, 1, 0⟩
def FLC_STATUS_ROM_OWN : RegField := ⟨0x400D0004, 6, 1, 1⟩
def FLC_STATUS_DONE_STALL : RegField := ⟨0x400D0004, 7, 1, 0⟩
def FLC_STATUS_JNL_RESET : RegField := ⟨0x400D0004, 8, 1, 0⟩
def FLC_OWNER_ROM_OWN : RegField := ⟨0x400D0008, 0, 1, 1⟩
def FLC_OWNER_SWAP : RegField := ⟨0x400D0008, 1, 1, 0⟩
def FLC_BANK_STAT_OP (i : Nat) : RegField := ⟨0x400D000C + 0x4 * (i % 2), 0, 2, 0⟩
def FLC_BANK_STAT_STATE (i : Nat) : RegField := ⟨0x400D000C + 0x4 * (i % 2), 2, 2, 0⟩
def FLC_BANK_STAT_BLOCK (i : Nat) : RegField := ⟨0x400D000C + 0x4 * (i % 2), 4, 6, 0⟩
def FLC_BANK_STAT_PULSES (i : Nat) : RegField := ⟨0x400D000C + 0x4 * (i % 2), 10, 8, 0⟩
def FLC_BANK_STAT_SUSPENDS (i : Nat) : RegField := ⟨0x400D000C + 0x4 * (i % 2), 18, 13, 0⟩
def FLC_BANK_STAT_STARVED (i : Nat) : RegField := ⟨0x400D000C + 0x4 * (i % 2), 31, 1, 0⟩
def FLC_DESC_BYTES (i : Nat) : RegField := ⟨0x400D0014 + 0x4 * (i % 4), 0, 32, 0⟩
def FLC_PUSH_PUSH : RegField := ⟨0x400D0024, 0, 1, 0⟩
def FLC_DONE_BYTES (i : Nat) : RegField := ⟨0x400D0028 + 0x4 * (i % 4), 0, 32, 0⟩
def FLC_DONEPOP_POP : RegField := ⟨0x400D0038, 0, 1, 0⟩
def FLC_DONESTAT_LEVEL : RegField := ⟨0x400D003C, 0, 5, 0⟩
def FLC_SUSP_L_SUSPECT (i : Nat) : RegField := ⟨0x400D0040 + 0x8 * (i % 2), 0, 32, 0⟩
def FLC_SUSP_H_SUSPECT (i : Nat) : RegField := ⟨0x400D0044 + 0x8 * (i % 2), 0, 32, 0⟩
def FLC_JNL_FREE_A : RegField := ⟨0x400D0050, 0, 11, 0⟩
def FLC_JNL_HALF_A : RegField := ⟨0x400D0050, 11, 1, 0⟩
def FLC_JNL_FREE_B : RegField := ⟨0x400D0050, 16, 11, 0⟩
def FLC_JNL_HALF_B : RegField := ⟨0x400D0050, 27, 1, 0⟩
def FLC_LOCK_LOCK : RegField := ⟨0x400D0054, 0, 1, 0⟩
def FLC_ECNT_COUNT (i : Nat) : RegField := ⟨0x400D0100 + 0x4 * (i % 128), 0, 32, 0⟩

def FLC_CTRL_reg : RegRow :=
  { base := 0x400D0000, count := 1, stride := 4,
    rows := fun _ => [
      ⟨FLC_CTRL_STALL_FETCH, .rwl, fun _ => true, false⟩,
      { field := FLC_CTRL_RESUME_IDLE, access := .rwl, legal := fun v => v != 0 },
      { field := FLC_CTRL_STARVE_N, access := .rwl, legal := fun v => v != 0 }] }

def FLC_STATUS_reg : RegRow :=
  { base := 0x400D0004, count := 1, stride := 4,
    rows := fun _ => [
      ⟨FLC_STATUS_LEVEL, .ro, fun _ => true, false⟩,
      ⟨FLC_STATUS_PUSH_REJ, .ro, fun _ => true, false⟩,
      ⟨FLC_STATUS_ROM_OWN, .ro, fun _ => true, false⟩,
      ⟨FLC_STATUS_DONE_STALL, .ro, fun _ => true, false⟩,
      ⟨FLC_STATUS_JNL_RESET, .ro, fun _ => true, false⟩] }

def FLC_OWNER_reg : RegRow :=
  { base := 0x400D0008, count := 1, stride := 4,
    rows := fun _ => [
      ⟨FLC_OWNER_ROM_OWN, .rw, fun _ => true, false⟩,
      ⟨FLC_OWNER_SWAP, .rw, fun _ => true, false⟩] }

def FLC_BANK_STAT_reg : RegRow :=
  { base := 0x400D000C, count := 2, stride := 4,
    rows := fun i => [
      ⟨FLC_BANK_STAT_OP i, .ro, fun _ => true, false⟩,
      ⟨FLC_BANK_STAT_STATE i, .ro, fun _ => true, false⟩,
      ⟨FLC_BANK_STAT_BLOCK i, .ro, fun _ => true, false⟩,
      ⟨FLC_BANK_STAT_PULSES i, .ro, fun _ => true, false⟩,
      ⟨FLC_BANK_STAT_SUSPENDS i, .ro, fun _ => true, false⟩,
      ⟨FLC_BANK_STAT_STARVED i, .ro, fun _ => true, false⟩] }

def FLC_DESC_reg : RegRow :=
  { base := 0x400D0014, count := 4, stride := 4,
    rows := fun i => [
      ⟨FLC_DESC_BYTES i, .rw, fun _ => true, false⟩] }

def FLC_PUSH_reg : RegRow :=
  { base := 0x400D0024, count := 1, stride := 4,
    rows := fun _ => [
      ⟨FLC_PUSH_PUSH, .wo, fun _ => true, false⟩] }

def FLC_DONE_reg : RegRow :=
  { base := 0x400D0028, count := 4, stride := 4,
    rows := fun i => [
      ⟨FLC_DONE_BYTES i, .ro, fun _ => true, false⟩] }

def FLC_DONEPOP_reg : RegRow :=
  { base := 0x400D0038, count := 1, stride := 4,
    rows := fun _ => [
      ⟨FLC_DONEPOP_POP, .wo, fun _ => true, false⟩] }

def FLC_DONESTAT_reg : RegRow :=
  { base := 0x400D003C, count := 1, stride := 4,
    rows := fun _ => [
      ⟨FLC_DONESTAT_LEVEL, .ro, fun _ => true, false⟩] }

def FLC_SUSP_L_reg : RegRow :=
  { base := 0x400D0040, count := 2, stride := 8,
    rows := fun i => [
      ⟨FLC_SUSP_L_SUSPECT i, .ro, fun _ => true, false⟩] }

def FLC_SUSP_H_reg : RegRow :=
  { base := 0x400D0044, count := 2, stride := 8,
    rows := fun i => [
      ⟨FLC_SUSP_H_SUSPECT i, .ro, fun _ => true, false⟩] }

def FLC_JNL_reg : RegRow :=
  { base := 0x400D0050, count := 1, stride := 4,
    rows := fun _ => [
      ⟨FLC_JNL_FREE_A, .ro, fun _ => true, false⟩,
      ⟨FLC_JNL_HALF_A, .ro, fun _ => true, false⟩,
      ⟨FLC_JNL_FREE_B, .ro, fun _ => true, false⟩,
      ⟨FLC_JNL_HALF_B, .ro, fun _ => true, false⟩] }

def FLC_LOCK_reg : RegRow :=
  { base := 0x400D0054, count := 1, stride := 4,
    rows := fun _ => [
      ⟨FLC_LOCK_LOCK, .w1s, fun _ => true, false⟩] }

def FLC_ECNT_reg : RegRow :=
  { base := 0x400D0100, count := 128, stride := 4,
    rows := fun i => [
      ⟨FLC_ECNT_COUNT i, .ro, fun _ => true, false⟩] }

/-- Every register of the FLC block, by address. -/
def flcRegs : List RegRow :=
  [FLC_CTRL_reg, FLC_STATUS_reg, FLC_OWNER_reg, FLC_BANK_STAT_reg, FLC_DESC_reg, FLC_PUSH_reg, FLC_DONE_reg, FLC_DONEPOP_reg, FLC_DONESTAT_reg, FLC_SUSP_L_reg, FLC_SUSP_H_reg, FLC_JNL_reg, FLC_LOCK_reg, FLC_ECNT_reg]

end Sys2Proof.Machine
end

