-- ==== Sys2Proof/Machine/RegHdp.lean ====
section
/-! DEFINITION. The register fields of the HDP block (base 0x400E0000), from the block map and field tables of
spec/15_host_dictionary.md: address, lowest bit, width and reset value of each field, then each register's row of fields with
their access codes (R6) and the values a field accepts. -/
namespace Sys2Proof.Machine

def HDP_CTRL_SPI_EN : RegField := ⟨0x400E0000, 0, 1, 1⟩
def HDP_CTRL_CAN_EN : RegField := ⟨0x400E0000, 1, 1, 1⟩
def HDP_CTRL_ETH_EN : RegField := ⟨0x400E0000, 2, 1, 1⟩
def HDP_CTRL_UART_EN : RegField := ⟨0x400E0000, 3, 1, 1⟩
def HDP_CTRL_MESH_EN : RegField := ⟨0x400E0000, 4, 1, 1⟩
def HDP_STATUS_ETH_LINK : RegField := ⟨0x400E0004, 0, 1, 0⟩
def HDP_STATUS_ETH_100 : RegField := ⟨0x400E0004, 1, 1, 0⟩
def HDP_STATUS_ETH_FDX : RegField := ⟨0x400E0004, 2, 1, 0⟩
def HDP_STATUS_CAN_STATE : RegField := ⟨0x400E0004, 3, 2, 0⟩
def HDP_STATUS_OWN_STATE : RegField := ⟨0x400E0004, 5, 2, 0⟩
def HDP_STATUS_OWN_TRANSPORT : RegField := ⟨0x400E0004, 7, 3, 0⟩
def HDP_STATUS_OWN_PRIO : RegField := ⟨0x400E0004, 10, 8, 0⟩
def HDP_STATUS_QLEVEL : RegField := ⟨0x400E0004, 18, 6, 0⟩
def HDP_STATUS_LOAD : RegField := ⟨0x400E0004, 24, 2, 0⟩
def HDP_SPICFG_MODE3 : RegField := ⟨0x400E0008, 0, 1, 0⟩
def HDP_CANCFG_NOM : RegField := ⟨0x400E000C, 0, 2, 2⟩
def HDP_CANCFG_DATA : RegField := ⟨0x400E000C, 2, 2, 1⟩
def HDP_CANCFG_FD_EN : RegField := ⟨0x400E000C, 4, 1, 1⟩
def HDP_CANCFG_BASE : RegField := ⟨0x400E000C, 16, 11, 0x500⟩
def HDP_UARTCFG_BAUD : RegField := ⟨0x400E0010, 0, 22, 115200⟩
def HDP_IPADDR_ADDR : RegField := ⟨0x400E0014, 0, 32, 0x0A000002⟩
def HDP_IPMASK_ADDR : RegField := ⟨0x400E0018, 0, 32, 0xFFFFFF00⟩
def HDP_IPGW_ADDR : RegField := ⟨0x400E001C, 0, 32, 0⟩
def HDP_MAC_L_MAC : RegField := ⟨0x400E0020, 0, 32, 0⟩
def HDP_MAC_H_MAC : RegField := ⟨0x400E0024, 0, 16, 0⟩
def HDP_UDPPORT_ODP_PORT : RegField := ⟨0x400E0028, 0, 16, 47250⟩
def HDP_UDPPORT_PLANE_PORT : RegField := ⟨0x400E0028, 16, 16, 47251⟩
def HDP_KA_KA : RegField := ⟨0x400E002C, 0, 16, 1000⟩
def HDP_CNT0_ACCEPTED : RegField := ⟨0x400E0030, 0, 16, 0⟩
def HDP_CNT0_CRC_ERR : RegField := ⟨0x400E0030, 16, 16, 0⟩
def HDP_CNT1_BUSY : RegField := ⟨0x400E0034, 0, 16, 0⟩
def HDP_CNT1_DISCARD : RegField := ⟨0x400E0034, 16, 16, 0⟩
def HDP_LOCK_LOCK : RegField := ⟨0x400E0038, 0, 1, 0⟩

def HDP_CTRL_reg : RegRow :=
  { base := 0x400E0000, count := 1, stride := 4,
    rows := fun _ => [
      ⟨HDP_CTRL_SPI_EN, .rwl, fun _ => true, false⟩,
      ⟨HDP_CTRL_CAN_EN, .rwl, fun _ => true, false⟩,
      ⟨HDP_CTRL_ETH_EN, .rwl, fun _ => true, false⟩,
      ⟨HDP_CTRL_UART_EN, .rwl, fun _ => true, false⟩,
      ⟨HDP_CTRL_MESH_EN, .rwl, fun _ => true, false⟩] }

def HDP_STATUS_reg : RegRow :=
  { base := 0x400E0004, count := 1, stride := 4,
    rows := fun _ => [
      ⟨HDP_STATUS_ETH_LINK, .ro, fun _ => true, false⟩,
      ⟨HDP_STATUS_ETH_100, .ro, fun _ => true, false⟩,
      ⟨HDP_STATUS_ETH_FDX, .ro, fun _ => true, false⟩,
      ⟨HDP_STATUS_CAN_STATE, .ro, fun _ => true, false⟩,
      ⟨HDP_STATUS_OWN_STATE, .ro, fun _ => true, false⟩,
      ⟨HDP_STATUS_OWN_TRANSPORT, .ro, fun _ => true, false⟩,
      ⟨HDP_STATUS_OWN_PRIO, .ro, fun _ => true, false⟩,
      ⟨HDP_STATUS_QLEVEL, .ro, fun _ => true, false⟩,
      ⟨HDP_STATUS_LOAD, .ro, fun _ => true, false⟩] }

def HDP_SPICFG_reg : RegRow :=
  { base := 0x400E0008, count := 1, stride := 4,
    rows := fun _ => [
      ⟨HDP_SPICFG_MODE3, .rwl, fun _ => true, false⟩] }

def HDP_CANCFG_reg : RegRow :=
  { base := 0x400E000C, count := 1, stride := 4, whole := true,
    rows := fun _ => [
      ⟨HDP_CANCFG_NOM, .rwl, fun _ => true, false⟩,
      ⟨HDP_CANCFG_DATA, .rwl, fun _ => true, false⟩,
      ⟨HDP_CANCFG_FD_EN, .rwl, fun _ => true, false⟩,
      { field := HDP_CANCFG_BASE, access := .rwl, legal := fun v => v % 32 == 0 }] }

def HDP_UARTCFG_reg : RegRow :=
  { base := 0x400E0010, count := 1, stride := 4,
    rows := fun _ => [
      { field := HDP_UARTCFG_BAUD, access := .rwl, legal := fun v => within 9600 3000000 v }] }

def HDP_IPADDR_reg : RegRow :=
  { base := 0x400E0014, count := 1, stride := 4,
    rows := fun _ => [
      ⟨HDP_IPADDR_ADDR, .rwl, fun _ => true, false⟩] }

def HDP_IPMASK_reg : RegRow :=
  { base := 0x400E0018, count := 1, stride := 4,
    rows := fun _ => [
      ⟨HDP_IPMASK_ADDR, .rwl, fun _ => true, false⟩] }

def HDP_IPGW_reg : RegRow :=
  { base := 0x400E001C, count := 1, stride := 4,
    rows := fun _ => [
      ⟨HDP_IPGW_ADDR, .rwl, fun _ => true, false⟩] }

def HDP_MAC_L_reg : RegRow :=
  { base := 0x400E0020, count := 1, stride := 4,
    rows := fun _ => [
      ⟨HDP_MAC_L_MAC, .rwl, fun _ => true, false⟩] }

def HDP_MAC_H_reg : RegRow :=
  { base := 0x400E0024, count := 1, stride := 4,
    rows := fun _ => [
      ⟨HDP_MAC_H_MAC, .rwl, fun _ => true, false⟩] }

def HDP_UDPPORT_reg : RegRow :=
  { base := 0x400E0028, count := 1, stride := 4,
    rows := fun _ => [
      ⟨HDP_UDPPORT_ODP_PORT, .rwl, fun _ => true, false⟩,
      ⟨HDP_UDPPORT_PLANE_PORT, .rwl, fun _ => true, false⟩] }

def HDP_KA_reg : RegRow :=
  { base := 0x400E002C, count := 1, stride := 4,
    rows := fun _ => [
      { field := HDP_KA_KA, access := .rwl, legal := fun v => within 100 10000 v }] }

def HDP_CNT0_reg : RegRow :=
  { base := 0x400E0030, count := 1, stride := 4,
    rows := fun _ => [
      ⟨HDP_CNT0_ACCEPTED, .ro, fun _ => true, false⟩,
      ⟨HDP_CNT0_CRC_ERR, .ro, fun _ => true, false⟩] }

def HDP_CNT1_reg : RegRow :=
  { base := 0x400E0034, count := 1, stride := 4,
    rows := fun _ => [
      ⟨HDP_CNT1_BUSY, .ro, fun _ => true, false⟩,
      ⟨HDP_CNT1_DISCARD, .ro, fun _ => true, false⟩] }

def HDP_LOCK_reg : RegRow :=
  { base := 0x400E0038, count := 1, stride := 4,
    rows := fun _ => [
      ⟨HDP_LOCK_LOCK, .w1s, fun _ => true, false⟩] }

/-- Every register of the HDP block, by address. -/
def hdpRegs : List RegRow :=
  [HDP_CTRL_reg, HDP_STATUS_reg, HDP_SPICFG_reg, HDP_CANCFG_reg, HDP_UARTCFG_reg, HDP_IPADDR_reg, HDP_IPMASK_reg, HDP_IPGW_reg, HDP_MAC_L_reg, HDP_MAC_H_reg, HDP_UDPPORT_reg, HDP_KA_reg, HDP_CNT0_reg, HDP_CNT1_reg, HDP_LOCK_reg]

end Sys2Proof.Machine
end

