-- ==== Sys2Proof/Machine/RegLgy.lean ====
section
/-! DEFINITION. The register fields of the LGY block (base 0x400F0000), from the block map and field tables of
spec/16_er418_compatibility.md: address, lowest bit, width and reset value of each field, then each register's row of fields with
their access codes (R6) and the values a field accepts. -/
namespace Sys2Proof.Machine

def LGY_STATUS_IRQ : RegField := ⟨0x400F0000, 0, 1, 0⟩
def LGY_STATUS_RXAVAIL : RegField := ⟨0x400F0000, 1, 1, 0⟩
def LGY_STATUS_TXEMPTY : RegField := ⟨0x400F0000, 2, 1, 1⟩
def LGY_STATUS_SYNCED : RegField := ⟨0x400F0000, 3, 1, 0⟩
def LGY_STATUS_TXBUSY : RegField := ⟨0x400F0000, 4, 1, 0⟩
def LGY_STATUS_CMDBUSY : RegField := ⟨0x400F0000, 5, 1, 0⟩
def LGY_STATUS_RUNNING : RegField := ⟨0x400F0000, 6, 1, 0⟩
def LGY_STATUS_RXOVF : RegField := ⟨0x400F0000, 7, 1, 0⟩
def LGY_IRQF_FLAGS (i : Nat) : RegField := ⟨0x400F0004 + 0x4 * (i % 8), 0, 8, (if i = 5 then 0x10 else 0)⟩
def LGY_IRQEN_EN (i : Nat) : RegField := ⟨0x400F0024 + 0x4 * (i % 8), 0, 8, 0⟩
def LGY_CMD_CMD : RegField := ⟨0x400F0044, 0, 8, 0⟩
def LGY_STATE_STATE : RegField := ⟨0x400F0048, 0, 3, 0⟩
def LGY_RXFIFO_DATA : RegField := ⟨0x400F004C, 0, 8, 0⟩
def LGY_RXLEV_L_LEVEL : RegField := ⟨0x400F0050, 0, 8, 0⟩
def LGY_RXLEV_H_LEVEL : RegField := ⟨0x400F0054, 0, 5, 0⟩
def LGY_RXTHR_THR : RegField := ⟨0x400F0058, 0, 8, 16⟩
def LGY_TXFIFO_DATA : RegField := ⟨0x400F005C, 0, 8, 0⟩
def LGY_TXLEV_L_LEVEL : RegField := ⟨0x400F0060, 0, 8, 0⟩
def LGY_TXLEV_H_LEVEL : RegField := ⟨0x400F0064, 0, 3, 0⟩
def LGY_TXTHR_THR : RegField := ⟨0x400F0068, 0, 6, 4⟩
def LGY_RSSI_RSSI : RegField := ⟨0x400F006C, 0, 8, 0⟩
def LGY_RXINFO_CH : RegField := ⟨0x400F0070, 0, 3, 0⟩
def LGY_RXINFO_ACKSENT : RegField := ⟨0x400F0070, 3, 1, 0⟩
def LGY_RXINFO_NOCTX : RegField := ⟨0x400F0070, 4, 1, 0⟩
def LGY_FOFF_FOFF : RegField := ⟨0x400F0074, 0, 8, 0⟩
def LGY_RSSITHR_RSSI : RegField := ⟨0x400F0078, 0, 8, 180⟩
def LGY_CHCFG_CHOFF (i : Nat) : RegField := ⟨0x400F0080 + 0x4 * (i % 8), 0, 6, 0⟩
def LGY_CHCFG_EN (i : Nat) : RegField := ⟨0x400F0080 + 0x4 * (i % 8), 7, 1, 0⟩
def LGY_HOPLEN_LEN : RegField := ⟨0x400F00A0, 0, 7, 1⟩
def LGY_HOPIDX_IDX : RegField := ⟨0x400F00A4, 0, 6, 0⟩
def LGY_HOPDAT_N : RegField := ⟨0x400F00A8, 0, 8, 0⟩
def LGY_BASEF0_F : RegField := ⟨0x400F00AC, 0, 8, 24⟩
def LGY_BASEF1_F : RegField := ⟨0x400F00B0, 0, 8, 43⟩
def LGY_BASEF2_F : RegField := ⟨0x400F00B4, 0, 8, 13⟩
def LGY_SPACING_SP : RegField := ⟨0x400F00B8, 0, 8, 16⟩
def LGY_PHYCFG_RATE : RegField := ⟨0x400F00BC, 0, 1, 0⟩
def LGY_SLOTCNT_L_COUNT : RegField := ⟨0x400F00C0, 0, 8, 1⟩
def LGY_SLOTCNT_H_COUNT : RegField := ⟨0x400F00C4, 0, 8, 0⟩
def LGY_SLOTCTL_RUN : RegField := ⟨0x400F00C8, 0, 1, 0⟩
def LGY_SLOTCTL_MASTER : RegField := ⟨0x400F00C8, 1, 1, 0⟩
def LGY_TXOFF_T : RegField := ⟨0x400F00CC, 0, 8, 20⟩
def LGY_ACKDLY_T : RegField := ⟨0x400F00D0, 0, 8, 10⟩
def LGY_BCNPER_PER : RegField := ⟨0x400F00D4, 0, 8, 0⟩
def LGY_TXCFG_ACKREQ : RegField := ⟨0x400F00D8, 0, 1, 0⟩
def LGY_TXCFG_RETRIES : RegField := ⟨0x400F00D8, 1, 3, 0⟩
def LGY_TXCFG_CH : RegField := ⟨0x400F00D8, 4, 3, 0⟩
def LGY_TXPWR_PWR : RegField := ⟨0x400F00DC, 0, 8, 0⟩
def LGY_TXDST_CTX : RegField := ⟨0x400F00E0, 0, 8, 255⟩
def LGY_CTXIDX_IDX : RegField := ⟨0x400F00E4, 0, 8, 0⟩
def LGY_CTXDAT_VALUE (i : Nat) : RegField := ⟨0x400F00E8 + 0x4 * (i % 8), 0, 8, 0⟩
def LGY_CTXCNT_VALUE : RegField := ⟨0x400F0108, 0, 8, 0⟩
def LGY_LASTCTX_VALUE : RegField := ⟨0x400F010C, 0, 8, 255⟩
def LGY_LASTSEQ_VALUE : RegField := ⟨0x400F0110, 0, 8, 0⟩
def LGY_OWNADDR_VALUE (i : Nat) : RegField := ⟨0x400F0114 + 0x4 * (i % 4), 0, 8, 0⟩
def LGY_NETID_VALUE (i : Nat) : RegField := ⟨0x400F0124 + 0x4 * (i % 2), 0, 8, 0⟩
def LGY_SYNCW_WORD (i : Nat) : RegField := ⟨0x400F012C + 0x4 * (i % 4), 0, 8, ([0xC6, 0x93, 0xD4, 0x2D].getD i 0)⟩
def LGY_TEMP_TEMP : RegField := ⟨0x400F013C, 0, 8, 0⟩
def LGY_CHIPID_ID : RegField := ⟨0x400F01F0, 0, 8, 65⟩
def LGY_VERSION_ID : RegField := ⟨0x400F01F4, 0, 8, 35⟩
def LGY_UNLOCK_KEY : RegField := ⟨0x400F01F8, 0, 8, 0⟩

def LGY_STATUS_reg : RegRow :=
  { base := 0x400F0000, count := 1, stride := 4,
    rows := fun _ => [
      ⟨LGY_STATUS_IRQ, .ro, fun _ => true, false⟩,
      ⟨LGY_STATUS_RXAVAIL, .ro, fun _ => true, false⟩,
      ⟨LGY_STATUS_TXEMPTY, .ro, fun _ => true, false⟩,
      ⟨LGY_STATUS_SYNCED, .ro, fun _ => true, false⟩,
      ⟨LGY_STATUS_TXBUSY, .ro, fun _ => true, false⟩,
      ⟨LGY_STATUS_CMDBUSY, .ro, fun _ => true, false⟩,
      ⟨LGY_STATUS_RUNNING, .ro, fun _ => true, false⟩,
      ⟨LGY_STATUS_RXOVF, .ro, fun _ => true, false⟩] }

def LGY_IRQF_reg : RegRow :=
  { base := 0x400F0004, count := 8, stride := 4,
    rows := fun i => [
      ⟨LGY_IRQF_FLAGS i, .w1c, fun _ => true, false⟩] }

def LGY_IRQEN_reg : RegRow :=
  { base := 0x400F0024, count := 8, stride := 4,
    rows := fun i => [
      ⟨LGY_IRQEN_EN i, .rw, fun _ => true, false⟩] }

def LGY_CMD_reg : RegRow :=
  { base := 0x400F0044, count := 1, stride := 4,
    rows := fun _ => [
      ⟨LGY_CMD_CMD, .wo, fun _ => true, false⟩] }

def LGY_STATE_reg : RegRow :=
  { base := 0x400F0048, count := 1, stride := 4,
    rows := fun _ => [
      ⟨LGY_STATE_STATE, .ro, fun _ => true, false⟩] }

def LGY_RXFIFO_reg : RegRow :=
  { base := 0x400F004C, count := 1, stride := 4,
    rows := fun _ => [
      ⟨LGY_RXFIFO_DATA, .ro, fun _ => true, false⟩] }

def LGY_RXLEV_L_reg : RegRow :=
  { base := 0x400F0050, count := 1, stride := 4,
    rows := fun _ => [
      ⟨LGY_RXLEV_L_LEVEL, .ro, fun _ => true, false⟩] }

def LGY_RXLEV_H_reg : RegRow :=
  { base := 0x400F0054, count := 1, stride := 4,
    rows := fun _ => [
      ⟨LGY_RXLEV_H_LEVEL, .ro, fun _ => true, false⟩] }

def LGY_RXTHR_reg : RegRow :=
  { base := 0x400F0058, count := 1, stride := 4,
    rows := fun _ => [
      ⟨LGY_RXTHR_THR, .rw, fun _ => true, false⟩] }

def LGY_TXFIFO_reg : RegRow :=
  { base := 0x400F005C, count := 1, stride := 4,
    rows := fun _ => [
      ⟨LGY_TXFIFO_DATA, .wo, fun _ => true, false⟩] }

def LGY_TXLEV_L_reg : RegRow :=
  { base := 0x400F0060, count := 1, stride := 4,
    rows := fun _ => [
      ⟨LGY_TXLEV_L_LEVEL, .ro, fun _ => true, false⟩] }

def LGY_TXLEV_H_reg : RegRow :=
  { base := 0x400F0064, count := 1, stride := 4,
    rows := fun _ => [
      ⟨LGY_TXLEV_H_LEVEL, .ro, fun _ => true, false⟩] }

def LGY_TXTHR_reg : RegRow :=
  { base := 0x400F0068, count := 1, stride := 4,
    rows := fun _ => [
      ⟨LGY_TXTHR_THR, .rw, fun _ => true, false⟩] }

def LGY_RSSI_reg : RegRow :=
  { base := 0x400F006C, count := 1, stride := 4,
    rows := fun _ => [
      ⟨LGY_RSSI_RSSI, .ro, fun _ => true, false⟩] }

def LGY_RXINFO_reg : RegRow :=
  { base := 0x400F0070, count := 1, stride := 4,
    rows := fun _ => [
      ⟨LGY_RXINFO_CH, .ro, fun _ => true, false⟩,
      ⟨LGY_RXINFO_ACKSENT, .ro, fun _ => true, false⟩,
      ⟨LGY_RXINFO_NOCTX, .ro, fun _ => true, false⟩] }

def LGY_FOFF_reg : RegRow :=
  { base := 0x400F0074, count := 1, stride := 4,
    rows := fun _ => [
      ⟨LGY_FOFF_FOFF, .ro, fun _ => true, false⟩] }

def LGY_RSSITHR_reg : RegRow :=
  { base := 0x400F0078, count := 1, stride := 4,
    rows := fun _ => [
      ⟨LGY_RSSITHR_RSSI, .rw, fun _ => true, false⟩] }

def LGY_CHCFG_reg : RegRow :=
  { base := 0x400F0080, count := 8, stride := 4,
    rows := fun i => [
      ⟨LGY_CHCFG_CHOFF i, .rw, fun _ => true, false⟩,
      ⟨LGY_CHCFG_EN i, .rw, fun _ => true, false⟩] }

def LGY_HOPLEN_reg : RegRow :=
  { base := 0x400F00A0, count := 1, stride := 4,
    rows := fun _ => [
      ⟨LGY_HOPLEN_LEN, .rw, fun _ => true, false⟩] }

def LGY_HOPIDX_reg : RegRow :=
  { base := 0x400F00A4, count := 1, stride := 4,
    rows := fun _ => [
      ⟨LGY_HOPIDX_IDX, .rw, fun _ => true, false⟩] }

def LGY_HOPDAT_reg : RegRow :=
  { base := 0x400F00A8, count := 1, stride := 4,
    rows := fun _ => [
      ⟨LGY_HOPDAT_N, .rw, fun _ => true, false⟩] }

def LGY_BASEF0_reg : RegRow :=
  { base := 0x400F00AC, count := 1, stride := 4,
    rows := fun _ => [
      ⟨LGY_BASEF0_F, .rw, fun _ => true, false⟩] }

def LGY_BASEF1_reg : RegRow :=
  { base := 0x400F00B0, count := 1, stride := 4,
    rows := fun _ => [
      ⟨LGY_BASEF1_F, .rw, fun _ => true, false⟩] }

def LGY_BASEF2_reg : RegRow :=
  { base := 0x400F00B4, count := 1, stride := 4,
    rows := fun _ => [
      ⟨LGY_BASEF2_F, .rw, fun _ => true, false⟩] }

def LGY_SPACING_reg : RegRow :=
  { base := 0x400F00B8, count := 1, stride := 4,
    rows := fun _ => [
      ⟨LGY_SPACING_SP, .rw, fun _ => true, false⟩] }

def LGY_PHYCFG_reg : RegRow :=
  { base := 0x400F00BC, count := 1, stride := 4,
    rows := fun _ => [
      ⟨LGY_PHYCFG_RATE, .rw, fun _ => true, false⟩] }

def LGY_SLOTCNT_L_reg : RegRow :=
  { base := 0x400F00C0, count := 1, stride := 4,
    rows := fun _ => [
      ⟨LGY_SLOTCNT_L_COUNT, .ro, fun _ => true, false⟩] }

def LGY_SLOTCNT_H_reg : RegRow :=
  { base := 0x400F00C4, count := 1, stride := 4,
    rows := fun _ => [
      ⟨LGY_SLOTCNT_H_COUNT, .ro, fun _ => true, false⟩] }

def LGY_SLOTCTL_reg : RegRow :=
  { base := 0x400F00C8, count := 1, stride := 4,
    rows := fun _ => [
      ⟨LGY_SLOTCTL_RUN, .rw, fun _ => true, false⟩,
      ⟨LGY_SLOTCTL_MASTER, .rw, fun _ => true, false⟩] }

def LGY_TXOFF_reg : RegRow :=
  { base := 0x400F00CC, count := 1, stride := 4,
    rows := fun _ => [
      ⟨LGY_TXOFF_T, .rw, fun _ => true, false⟩] }

def LGY_ACKDLY_reg : RegRow :=
  { base := 0x400F00D0, count := 1, stride := 4,
    rows := fun _ => [
      ⟨LGY_ACKDLY_T, .rw, fun _ => true, false⟩] }

def LGY_BCNPER_reg : RegRow :=
  { base := 0x400F00D4, count := 1, stride := 4,
    rows := fun _ => [
      ⟨LGY_BCNPER_PER, .rw, fun _ => true, false⟩] }

def LGY_TXCFG_reg : RegRow :=
  { base := 0x400F00D8, count := 1, stride := 4,
    rows := fun _ => [
      ⟨LGY_TXCFG_ACKREQ, .rw, fun _ => true, false⟩,
      ⟨LGY_TXCFG_RETRIES, .rw, fun _ => true, false⟩,
      ⟨LGY_TXCFG_CH, .rw, fun _ => true, false⟩] }

def LGY_TXPWR_reg : RegRow :=
  { base := 0x400F00DC, count := 1, stride := 4,
    rows := fun _ => [
      ⟨LGY_TXPWR_PWR, .rw, fun _ => true, false⟩] }

def LGY_TXDST_reg : RegRow :=
  { base := 0x400F00E0, count := 1, stride := 4,
    rows := fun _ => [
      ⟨LGY_TXDST_CTX, .rw, fun _ => true, false⟩] }

def LGY_CTXIDX_reg : RegRow :=
  { base := 0x400F00E4, count := 1, stride := 4,
    rows := fun _ => [
      ⟨LGY_CTXIDX_IDX, .rw, fun _ => true, false⟩] }

def LGY_CTXDAT_reg : RegRow :=
  { base := 0x400F00E8, count := 8, stride := 4,
    rows := fun i => [
      ⟨LGY_CTXDAT_VALUE i, .rw, fun _ => true, false⟩] }

def LGY_CTXCNT_reg : RegRow :=
  { base := 0x400F0108, count := 1, stride := 4,
    rows := fun _ => [
      ⟨LGY_CTXCNT_VALUE, .ro, fun _ => true, false⟩] }

def LGY_LASTCTX_reg : RegRow :=
  { base := 0x400F010C, count := 1, stride := 4,
    rows := fun _ => [
      ⟨LGY_LASTCTX_VALUE, .ro, fun _ => true, false⟩] }

def LGY_LASTSEQ_reg : RegRow :=
  { base := 0x400F0110, count := 1, stride := 4,
    rows := fun _ => [
      ⟨LGY_LASTSEQ_VALUE, .ro, fun _ => true, false⟩] }

def LGY_OWNADDR_reg : RegRow :=
  { base := 0x400F0114, count := 4, stride := 4,
    rows := fun i => [
      ⟨LGY_OWNADDR_VALUE i, .rw, fun _ => true, false⟩] }

def LGY_NETID_reg : RegRow :=
  { base := 0x400F0124, count := 2, stride := 4,
    rows := fun i => [
      ⟨LGY_NETID_VALUE i, .rw, fun _ => true, false⟩] }

def LGY_SYNCW_reg : RegRow :=
  { base := 0x400F012C, count := 4, stride := 4,
    rows := fun i => [
      ⟨LGY_SYNCW_WORD i, .rw, fun _ => true, false⟩] }

def LGY_TEMP_reg : RegRow :=
  { base := 0x400F013C, count := 1, stride := 4,
    rows := fun _ => [
      ⟨LGY_TEMP_TEMP, .ro, fun _ => true, false⟩] }

def LGY_CHIPID_reg : RegRow :=
  { base := 0x400F01F0, count := 1, stride := 4,
    rows := fun _ => [
      ⟨LGY_CHIPID_ID, .ro, fun _ => true, false⟩] }

def LGY_VERSION_reg : RegRow :=
  { base := 0x400F01F4, count := 1, stride := 4,
    rows := fun _ => [
      ⟨LGY_VERSION_ID, .ro, fun _ => true, false⟩] }

def LGY_UNLOCK_reg : RegRow :=
  { base := 0x400F01F8, count := 1, stride := 4,
    rows := fun _ => [
      ⟨LGY_UNLOCK_KEY, .wo, fun _ => true, false⟩] }

/-- Every register of the LGY block, by address. -/
def lgyRegs : List RegRow :=
  [LGY_STATUS_reg, LGY_IRQF_reg, LGY_IRQEN_reg, LGY_CMD_reg, LGY_STATE_reg, LGY_RXFIFO_reg, LGY_RXLEV_L_reg, LGY_RXLEV_H_reg, LGY_RXTHR_reg, LGY_TXFIFO_reg, LGY_TXLEV_L_reg, LGY_TXLEV_H_reg, LGY_TXTHR_reg, LGY_RSSI_reg, LGY_RXINFO_reg, LGY_FOFF_reg, LGY_RSSITHR_reg, LGY_CHCFG_reg, LGY_HOPLEN_reg, LGY_HOPIDX_reg, LGY_HOPDAT_reg, LGY_BASEF0_reg, LGY_BASEF1_reg, LGY_BASEF2_reg] ++
  [LGY_SPACING_reg, LGY_PHYCFG_reg, LGY_SLOTCNT_L_reg, LGY_SLOTCNT_H_reg, LGY_SLOTCTL_reg, LGY_TXOFF_reg, LGY_ACKDLY_reg, LGY_BCNPER_reg, LGY_TXCFG_reg, LGY_TXPWR_reg, LGY_TXDST_reg, LGY_CTXIDX_reg, LGY_CTXDAT_reg, LGY_CTXCNT_reg, LGY_LASTCTX_reg, LGY_LASTSEQ_reg, LGY_OWNADDR_reg, LGY_NETID_reg, LGY_SYNCW_reg, LGY_TEMP_reg, LGY_CHIPID_reg, LGY_VERSION_reg, LGY_UNLOCK_reg]

end Sys2Proof.Machine
end

