-- ==== Sys2Proof/Machine/RegMac.lean ====
section
/-! DEFINITION. The register fields of the MAC block (base 0x40050000), from the block map and field tables of
spec/06_medium_access.md: address, lowest bit, width and reset value of each field, then each register's row of fields with
their access codes (R6) and the values a field accepts. -/
namespace Sys2Proof.Machine

def MAC_CTRL_DELIVER_TO : RegField := ⟨0x40050000, 0, 1, 0⟩
def MAC_CTRL_ACK_NOCTX : RegField := ⟨0x40050000, 1, 1, 0⟩
def MAC_CTRL_PROMISC : RegField := ⟨0x40050000, 2, 1, 0⟩
def MAC_CTRL_AUTO_POLL : RegField := ⟨0x40050000, 3, 1, 0⟩
def MAC_CTRL_TSRC : RegField := ⟨0x40050000, 4, 1, 0⟩
def MAC_CTRL_DELIVER_DUP : RegField := ⟨0x40050000, 5, 1, 0⟩
def MAC_CTRL_POLL_PROF : RegField := ⟨0x40050000, 6, 2, 0⟩
def MAC_CTRL_XPROF : RegField := ⟨0x40050000, 8, 2, 0⟩
def MAC_CTRL_DQ_THRESH : RegField := ⟨0x40050000, 12, 12, 1⟩
def MAC_STATUS_SYNC : RegField := ⟨0x40050004, 0, 2, 0⟩
def MAC_STATUS_POLL_EXT : RegField := ⟨0x40050004, 2, 1, 0⟩
def MAC_STATUS_PARENT_VALID : RegField := ⟨0x40050004, 3, 1, 0⟩
def MAC_STATUS_MISS : RegField := ⟨0x40050004, 4, 5, 0⟩
def MAC_STATUS_PARENT : RegField := ⟨0x40050004, 16, 10, 0⟩
def MAC_PANID_PANID : RegField := ⟨0x40050008, 0, 16, 0xffff⟩
def MAC_PANID_SHORT : RegField := ⟨0x40050008, 16, 16, 0xfffe⟩
def MAC_EXT_L_EXT : RegField := ⟨0x4005000C, 0, 32, 0⟩
def MAC_EXT_H_EXT : RegField := ⟨0x40050010, 0, 32, 0⟩
def MAC_SYNCCFG_CEIL : RegField := ⟨0x40050014, 0, 13, 4000⟩
def MAC_SYNCCFG_ADRIFT_TO : RegField := ⟨0x40050014, 16, 8, 60⟩
def MAC_SYNCCFG_BETA : RegField := ⟨0x40050014, 24, 3, 3⟩
def MAC_SCANCFG_DWELL : RegField := ⟨0x40050018, 0, 16, 2000⟩
def MAC_SYNCCMD_CMD : RegField := ⟨0x4005001C, 0, 2, 0⟩
def MAC_CORR_LAST : RegField := ⟨0x40050020, 0, 32, 0⟩
def MAC_SYNCAIR_SYNCAIR (i : Nat) : RegField := ⟨0x40050024 + 0x4 * (i % 4), 0, 23, 160000⟩
def MAC_AGE_L_TH1 : RegField := ⟨0x40050034, 0, 16, 100⟩
def MAC_AGE_L_TH2 : RegField := ⟨0x40050034, 16, 16, 500⟩
def MAC_AGE_H_TH3 : RegField := ⟨0x40050038, 0, 16, 2000⟩
def MAC_CSMA_MIN_BE : RegField := ⟨0x4005003C, 0, 3, 1⟩
def MAC_CSMA_MAX_BE : RegField := ⟨0x4005003C, 4, 3, 5⟩
def MAC_FBCFG_DQ_SIZE : RegField := ⟨0x40050040, 0, 13, 2048⟩
def MAC_FBCFG_CFG_REJ : RegField := ⟨0x40050040, 13, 3, 0⟩
def MAC_FBCFG_RX_BLOCKS : RegField := ⟨0x40050040, 16, 13, 4096⟩
def MAC_DQ_RD : RegField := ⟨0x40050044, 0, 12, 0⟩
def MAC_DQ_WR : RegField := ⟨0x40050044, 16, 12, 0⟩
def MAC_DQSTAT_LEVEL : RegField := ⟨0x40050048, 0, 13, 0⟩
def MAC_DQSTAT_FULL : RegField := ⟨0x40050048, 16, 16, 0⟩
def MAC_TXPUSH_INDEX : RegField := ⟨0x4005004C, 0, 12, 0⟩
def MAC_TXDONE_INDEX : RegField := ⟨0x40050050, 0, 12, 0⟩
def MAC_TXDONE_LEVEL : RegField := ⟨0x40050050, 16, 7, 0⟩
def MAC_TXDONE_LOST : RegField := ⟨0x40050050, 23, 7, 0⟩
def MAC_TXDONE_EMPTY : RegField := ⟨0x40050050, 31, 1, 1⟩
def MAC_TXDONEPOP_POP : RegField := ⟨0x40050054, 0, 1, 0⟩
def MAC_QCMD_QUEUE : RegField := ⟨0x40050058, 0, 4, 0⟩
def MAC_QCMD_CMD : RegField := ⟨0x40050058, 4, 2, 0⟩
def MAC_PEND_TIMEOUT : RegField := ⟨0x4005005C, 0, 16, 30⟩
def MAC_PEND_TOTAL : RegField := ⟨0x4005005C, 16, 12, 0⟩
def MAC_CTXCMD_INDEX : RegField := ⟨0x40050060, 0, 10, 0⟩
def MAC_CTXCMD_CMD : RegField := ⟨0x40050060, 12, 2, 0⟩
def MAC_CTXSTAT_BUSY : RegField := ⟨0x40050064, 0, 1, 0⟩
def MAC_CTXSTAT_REJ : RegField := ⟨0x40050064, 1, 1, 0⟩
def MAC_CTXSTAT_FREE : RegField := ⟨0x40050064, 2, 11, 1024⟩
def MAC_CTXSTAT_EVICT_LOW : RegField := ⟨0x40050064, 16, 11, 8⟩
def MAC_EVICT0_CAND_A : RegField := ⟨0x40050068, 0, 10, 0⟩
def MAC_EVICT0_VALID_A : RegField := ⟨0x40050068, 10, 1, 0⟩
def MAC_EVICT0_CAND_B : RegField := ⟨0x40050068, 16, 10, 0⟩
def MAC_EVICT0_VALID_B : RegField := ⟨0x40050068, 26, 1, 0⟩
def MAC_EVICT1_CAND_A : RegField := ⟨0x4005006C, 0, 10, 0⟩
def MAC_EVICT1_VALID_A : RegField := ⟨0x4005006C, 10, 1, 0⟩
def MAC_EVICT1_CAND_B : RegField := ⟨0x4005006C, 16, 10, 0⟩
def MAC_EVICT1_VALID_B : RegField := ⟨0x4005006C, 26, 1, 0⟩
def MAC_RXDISC_NOT_MINE : RegField := ⟨0x40050070, 0, 16, 0⟩
def MAC_RXDISC_BAD_FRAME : RegField := ⟨0x40050070, 16, 16, 0⟩
def MAC_EBCFG_JOIN_METRIC : RegField := ⟨0x40050074, 0, 8, 0⟩
def MAC_EBCFG_EB_LEN : RegField := ⟨0x40050074, 8, 7, 0⟩
def MAC_EBCFG_EB_BLOCK : RegField := ⟨0x40050074, 16, 13, 0⟩
def MAC_EBCFG_EB_PROF : RegField := ⟨0x40050074, 29, 2, 0⟩
def MAC_LOCK_LOCK : RegField := ⟨0x40050078, 0, 1, 0⟩
def MAC_CTXBUF_IMAGE (i : Nat) : RegField := ⟨0x40050100 + 0x4 * (i % 16), 0, 32, 0⟩

def MAC_CTRL_reg : RegRow :=
  { base := 0x40050000, count := 1, stride := 4,
    rows := fun _ => [
      ⟨MAC_CTRL_DELIVER_TO, .rw, fun _ => true, false⟩,
      ⟨MAC_CTRL_ACK_NOCTX, .rw, fun _ => true, false⟩,
      ⟨MAC_CTRL_PROMISC, .rw, fun _ => true, false⟩,
      ⟨MAC_CTRL_AUTO_POLL, .rw, fun _ => true, false⟩,
      ⟨MAC_CTRL_TSRC, .rw, fun _ => true, false⟩,
      ⟨MAC_CTRL_DELIVER_DUP, .rw, fun _ => true, false⟩,
      ⟨MAC_CTRL_POLL_PROF, .rw, fun _ => true, false⟩,
      ⟨MAC_CTRL_XPROF, .rw, fun _ => true, false⟩,
      ⟨MAC_CTRL_DQ_THRESH, .rw, fun _ => true, false⟩] }

def MAC_STATUS_reg : RegRow :=
  { base := 0x40050004, count := 1, stride := 4,
    rows := fun _ => [
      ⟨MAC_STATUS_SYNC, .ro, fun _ => true, false⟩,
      ⟨MAC_STATUS_POLL_EXT, .ro, fun _ => true, false⟩,
      ⟨MAC_STATUS_PARENT_VALID, .ro, fun _ => true, false⟩,
      ⟨MAC_STATUS_MISS, .ro, fun _ => true, false⟩,
      ⟨MAC_STATUS_PARENT, .ro, fun _ => true, false⟩] }

def MAC_PANID_reg : RegRow :=
  { base := 0x40050008, count := 1, stride := 4,
    rows := fun _ => [
      ⟨MAC_PANID_PANID, .rw, fun _ => true, false⟩,
      ⟨MAC_PANID_SHORT, .rw, fun _ => true, false⟩] }

def MAC_EXT_L_reg : RegRow :=
  { base := 0x4005000C, count := 1, stride := 4,
    rows := fun _ => [
      ⟨MAC_EXT_L_EXT, .rw, fun _ => true, false⟩] }

def MAC_EXT_H_reg : RegRow :=
  { base := 0x40050010, count := 1, stride := 4,
    rows := fun _ => [
      ⟨MAC_EXT_H_EXT, .rw, fun _ => true, false⟩] }

def MAC_SYNCCFG_reg : RegRow :=
  { base := 0x40050014, count := 1, stride := 4,
    rows := fun _ => [
      { field := MAC_SYNCCFG_CEIL, access := .rwl, legal := fun v => within 100 8000 v },
      { field := MAC_SYNCCFG_ADRIFT_TO, access := .rwl, legal := fun v => v != 0 },
      ⟨MAC_SYNCCFG_BETA, .rwl, fun _ => true, false⟩] }

def MAC_SCANCFG_reg : RegRow :=
  { base := 0x40050018, count := 1, stride := 4,
    rows := fun _ => [
      { field := MAC_SCANCFG_DWELL, access := .rw, legal := fun v => within 10 60000 v }] }

def MAC_SYNCCMD_reg : RegRow :=
  { base := 0x4005001C, count := 1, stride := 4,
    rows := fun _ => [
      ⟨MAC_SYNCCMD_CMD, .wo, fun _ => true, false⟩] }

def MAC_CORR_reg : RegRow :=
  { base := 0x40050020, count := 1, stride := 4,
    rows := fun _ => [
      ⟨MAC_CORR_LAST, .ro, fun _ => true, false⟩] }

def MAC_SYNCAIR_reg : RegRow :=
  { base := 0x40050024, count := 4, stride := 4,
    rows := fun i => [
      { field := MAC_SYNCAIR_SYNCAIR i, access := .rw, legal := fun v => v ≤ 5000000 }] }

def MAC_AGE_L_reg : RegRow :=
  { base := 0x40050034, count := 1, stride := 4,
    rows := fun _ => [
      ⟨MAC_AGE_L_TH1, .rw, fun _ => true, false⟩,
      ⟨MAC_AGE_L_TH2, .rw, fun _ => true, false⟩] }

def MAC_AGE_H_reg : RegRow :=
  { base := 0x40050038, count := 1, stride := 4,
    rows := fun _ => [
      ⟨MAC_AGE_H_TH3, .rw, fun _ => true, false⟩] }

def MAC_CSMA_reg : RegRow :=
  { base := 0x4005003C, count := 1, stride := 4,
    rows := fun _ => [
      ⟨MAC_CSMA_MIN_BE, .rw, fun _ => true, false⟩,
      ⟨MAC_CSMA_MAX_BE, .rw, fun _ => true, false⟩] }

def MAC_FBCFG_reg : RegRow :=
  { base := 0x40050040, count := 1, stride := 4,
    rows := fun _ => [
      ⟨MAC_FBCFG_DQ_SIZE, .rwl, fun _ => true, false⟩,
      ⟨MAC_FBCFG_CFG_REJ, .ro, fun _ => true, false⟩,
      ⟨MAC_FBCFG_RX_BLOCKS, .rwl, fun _ => true, false⟩] }

def MAC_DQ_reg : RegRow :=
  { base := 0x40050044, count := 1, stride := 4,
    rows := fun _ => [
      ⟨MAC_DQ_RD, .rw, fun _ => true, false⟩,
      ⟨MAC_DQ_WR, .ro, fun _ => true, false⟩] }

def MAC_DQSTAT_reg : RegRow :=
  { base := 0x40050048, count := 1, stride := 4,
    rows := fun _ => [
      ⟨MAC_DQSTAT_LEVEL, .ro, fun _ => true, false⟩,
      ⟨MAC_DQSTAT_FULL, .ro, fun _ => true, false⟩] }

def MAC_TXPUSH_reg : RegRow :=
  { base := 0x4005004C, count := 1, stride := 4,
    rows := fun _ => [
      ⟨MAC_TXPUSH_INDEX, .wo, fun _ => true, false⟩] }

def MAC_TXDONE_reg : RegRow :=
  { base := 0x40050050, count := 1, stride := 4,
    rows := fun _ => [
      ⟨MAC_TXDONE_INDEX, .ro, fun _ => true, false⟩,
      ⟨MAC_TXDONE_LEVEL, .ro, fun _ => true, false⟩,
      ⟨MAC_TXDONE_LOST, .ro, fun _ => true, false⟩,
      ⟨MAC_TXDONE_EMPTY, .ro, fun _ => true, false⟩] }

def MAC_TXDONEPOP_reg : RegRow :=
  { base := 0x40050054, count := 1, stride := 4,
    rows := fun _ => [
      ⟨MAC_TXDONEPOP_POP, .wo, fun _ => true, false⟩] }

def MAC_QCMD_reg : RegRow :=
  { base := 0x40050058, count := 1, stride := 4,
    rows := fun _ => [
      ⟨MAC_QCMD_QUEUE, .wo, fun _ => true, false⟩,
      ⟨MAC_QCMD_CMD, .wo, fun _ => true, false⟩] }

def MAC_PEND_reg : RegRow :=
  { base := 0x4005005C, count := 1, stride := 4,
    rows := fun _ => [
      { field := MAC_PEND_TIMEOUT, access := .rw, legal := fun v => within 1 3600 v },
      ⟨MAC_PEND_TOTAL, .ro, fun _ => true, false⟩] }

def MAC_CTXCMD_reg : RegRow :=
  { base := 0x40050060, count := 1, stride := 4,
    rows := fun _ => [
      ⟨MAC_CTXCMD_INDEX, .wo, fun _ => true, false⟩,
      ⟨MAC_CTXCMD_CMD, .wo, fun _ => true, false⟩] }

def MAC_CTXSTAT_reg : RegRow :=
  { base := 0x40050064, count := 1, stride := 4,
    rows := fun _ => [
      ⟨MAC_CTXSTAT_BUSY, .ro, fun _ => true, false⟩,
      ⟨MAC_CTXSTAT_REJ, .ro, fun _ => true, false⟩,
      ⟨MAC_CTXSTAT_FREE, .ro, fun _ => true, false⟩,
      { field := MAC_CTXSTAT_EVICT_LOW, access := .rw, legal := fun v => v ≤ 1024 }] }

def MAC_EVICT0_reg : RegRow :=
  { base := 0x40050068, count := 1, stride := 4,
    rows := fun _ => [
      ⟨MAC_EVICT0_CAND_A, .ro, fun _ => true, false⟩,
      ⟨MAC_EVICT0_VALID_A, .ro, fun _ => true, false⟩,
      ⟨MAC_EVICT0_CAND_B, .ro, fun _ => true, false⟩,
      ⟨MAC_EVICT0_VALID_B, .ro, fun _ => true, false⟩] }

def MAC_EVICT1_reg : RegRow :=
  { base := 0x4005006C, count := 1, stride := 4,
    rows := fun _ => [
      ⟨MAC_EVICT1_CAND_A, .ro, fun _ => true, false⟩,
      ⟨MAC_EVICT1_VALID_A, .ro, fun _ => true, false⟩,
      ⟨MAC_EVICT1_CAND_B, .ro, fun _ => true, false⟩,
      ⟨MAC_EVICT1_VALID_B, .ro, fun _ => true, false⟩] }

def MAC_RXDISC_reg : RegRow :=
  { base := 0x40050070, count := 1, stride := 4,
    rows := fun _ => [
      ⟨MAC_RXDISC_NOT_MINE, .ro, fun _ => true, false⟩,
      ⟨MAC_RXDISC_BAD_FRAME, .ro, fun _ => true, false⟩] }

def MAC_EBCFG_reg : RegRow :=
  { base := 0x40050074, count := 1, stride := 4,
    rows := fun _ => [
      ⟨MAC_EBCFG_JOIN_METRIC, .rw, fun _ => true, false⟩,
      ⟨MAC_EBCFG_EB_LEN, .rw, fun _ => true, false⟩,
      ⟨MAC_EBCFG_EB_BLOCK, .rw, fun _ => true, false⟩,
      ⟨MAC_EBCFG_EB_PROF, .rw, fun _ => true, false⟩] }

def MAC_LOCK_reg : RegRow :=
  { base := 0x40050078, count := 1, stride := 4,
    rows := fun _ => [
      ⟨MAC_LOCK_LOCK, .w1s, fun _ => true, false⟩] }

def MAC_CTXBUF_reg : RegRow :=
  { base := 0x40050100, count := 16, stride := 4,
    rows := fun i => [
      ⟨MAC_CTXBUF_IMAGE i, .rw, fun _ => true, false⟩] }

/-- Every register of the MAC block, by address. -/
def macRegs : List RegRow :=
  [MAC_CTRL_reg, MAC_STATUS_reg, MAC_PANID_reg, MAC_EXT_L_reg, MAC_EXT_H_reg, MAC_SYNCCFG_reg, MAC_SCANCFG_reg, MAC_SYNCCMD_reg, MAC_CORR_reg, MAC_SYNCAIR_reg, MAC_AGE_L_reg, MAC_AGE_H_reg, MAC_CSMA_reg, MAC_FBCFG_reg, MAC_DQ_reg, MAC_DQSTAT_reg, MAC_TXPUSH_reg, MAC_TXDONE_reg, MAC_TXDONEPOP_reg, MAC_QCMD_reg, MAC_PEND_reg, MAC_CTXCMD_reg, MAC_CTXSTAT_reg, MAC_EVICT0_reg] ++
  [MAC_EVICT1_reg, MAC_RXDISC_reg, MAC_EBCFG_reg, MAC_LOCK_reg, MAC_CTXBUF_reg]

end Sys2Proof.Machine
end

