-- ==== Sys2Proof/Machine/RegMem.lean ====
section
/-! DEFINITION. The register fields of the MEM block (base 0x400C0000), from the block map and field tables of
spec/13_memories_error_codes.md: address, lowest bit, width and reset value of each field, then each register's row of fields with
their access codes (R6) and the values a field accepts. -/
namespace Sys2Proof.Machine

def MEM_CTRL_SCRUB_EN : RegField := ⟨0x400C0000, 0, 1, 1⟩
def MEM_CTRL_SCRUB_DIV : RegField := ⟨0x400C0000, 4, 8, 10⟩
def MEM_STATUS_POISON_CNT : RegField := ⟨0x400C0004, 0, 16, 0⟩
def MEM_STATUS_SCRUB_FOUND : RegField := ⟨0x400C0004, 16, 16, 0⟩
def MEM_RSTR0_S0 : RegField := ⟨0x400C0008, 0, 2, 1⟩
def MEM_RSTR0_S1 : RegField := ⟨0x400C0008, 2, 2, 1⟩
def MEM_RSTR0_S2 : RegField := ⟨0x400C0008, 4, 2, 1⟩
def MEM_RSTR0_S3 : RegField := ⟨0x400C0008, 6, 2, 1⟩
def MEM_RSTR0_S4 : RegField := ⟨0x400C0008, 8, 2, 1⟩
def MEM_RSTR0_S5 : RegField := ⟨0x400C0008, 10, 2, 1⟩
def MEM_RSTR0_S6 : RegField := ⟨0x400C0008, 12, 2, 1⟩
def MEM_RSTR0_S7 : RegField := ⟨0x400C0008, 14, 2, 1⟩
def MEM_RSTR0_S8 : RegField := ⟨0x400C0008, 16, 2, 1⟩
def MEM_RSTR0_S9 : RegField := ⟨0x400C0008, 18, 2, 1⟩
def MEM_RSTR0_S10 : RegField := ⟨0x400C0008, 20, 2, 1⟩
def MEM_RSTR0_S11 : RegField := ⟨0x400C0008, 22, 2, 1⟩
def MEM_RSTR0_S12 : RegField := ⟨0x400C0008, 24, 2, 1⟩
def MEM_RSTR0_S13 : RegField := ⟨0x400C0008, 26, 2, 1⟩
def MEM_RSTR0_S14 : RegField := ⟨0x400C0008, 28, 2, 1⟩
def MEM_RSTR0_S15 : RegField := ⟨0x400C0008, 30, 2, 1⟩
def MEM_RSTR1_S16 : RegField := ⟨0x400C000C, 0, 2, 1⟩
def MEM_RSTR1_S17 : RegField := ⟨0x400C000C, 2, 2, 1⟩
def MEM_RSTR1_S18 : RegField := ⟨0x400C000C, 4, 2, 1⟩
def MEM_RSTR1_S19 : RegField := ⟨0x400C000C, 6, 2, 1⟩
def MEM_RSTR1_S20 : RegField := ⟨0x400C000C, 8, 2, 1⟩
def MEM_RSTR1_S21 : RegField := ⟨0x400C000C, 10, 2, 1⟩
def MEM_RSTR1_S22 : RegField := ⟨0x400C000C, 12, 2, 1⟩
def MEM_RSTR1_S23 : RegField := ⟨0x400C000C, 14, 2, 1⟩
def MEM_RSTR1_S24 : RegField := ⟨0x400C000C, 16, 2, 1⟩
def MEM_RSTR1_S25 : RegField := ⟨0x400C000C, 18, 2, 1⟩
def MEM_RSTR1_S26 : RegField := ⟨0x400C000C, 20, 2, 1⟩
def MEM_RSTR1_S27 : RegField := ⟨0x400C000C, 22, 2, 1⟩
def MEM_RSTR1_S28 : RegField := ⟨0x400C000C, 24, 2, 1⟩
def MEM_RSTR1_S29 : RegField := ⟨0x400C000C, 26, 2, 1⟩
def MEM_RSTR1_S30 : RegField := ⟨0x400C000C, 28, 2, 1⟩
def MEM_RSTR1_S31 : RegField := ⟨0x400C000C, 30, 2, 1⟩
def MEM_ECCCFG_CORR_THR : RegField := ⟨0x400C0010, 0, 5, 4⟩
def MEM_ECCSTAT_RESULT : RegField := ⟨0x400C0014, 0, 2, 0⟩
def MEM_ECCSTAT_BITS : RegField := ⟨0x400C0014, 2, 5, 0⟩
def MEM_ECCSTAT_REASON : RegField := ⟨0x400C0014, 7, 1, 0⟩
def MEM_ECCSTAT_PAGE : RegField := ⟨0x400C0014, 8, 12, 0⟩
def MEM_ECCCNT_ECC_CORR : RegField := ⟨0x400C0018, 0, 16, 0⟩
def MEM_ECCCNT_ECC_UNCORR : RegField := ⟨0x400C0018, 16, 16, 0⟩
def MEM_FLIP_L_MASK : RegField := ⟨0x400C001C, 0, 32, 0⟩
def MEM_FLIP_H_MASK : RegField := ⟨0x400C0020, 0, 32, 0⟩
def MEM_FLIPCFG_OFFSET : RegField := ⟨0x400C0024, 0, 15, 0⟩
def MEM_FLIPCFG_ARM : RegField := ⟨0x400C0024, 16, 1, 0⟩
def MEM_FLIPCFG_USED : RegField := ⟨0x400C0024, 17, 1, 0⟩
def MEM_MERGE_FLUSH : RegField := ⟨0x400C0028, 0, 1, 0⟩
def MEM_MERGE_VALID : RegField := ⟨0x400C0028, 1, 4, 0⟩
def MEM_MERGE_BUSY : RegField := ⟨0x400C0028, 5, 1, 0⟩
def MEM_MERGE_LAST_FAIL : RegField := ⟨0x400C0028, 6, 1, 0⟩
def MEM_LOCK_LOCK : RegField := ⟨0x400C002C, 0, 1, 0⟩

def MEM_CTRL_reg : RegRow :=
  { base := 0x400C0000, count := 1, stride := 4,
    rows := fun _ => [
      ⟨MEM_CTRL_SCRUB_EN, .rw, fun _ => true, false⟩,
      { field := MEM_CTRL_SCRUB_DIV, access := .rw, legal := fun v => v != 0 }] }

def MEM_STATUS_reg : RegRow :=
  { base := 0x400C0004, count := 1, stride := 4,
    rows := fun _ => [
      ⟨MEM_STATUS_POISON_CNT, .ro, fun _ => true, false⟩,
      ⟨MEM_STATUS_SCRUB_FOUND, .ro, fun _ => true, false⟩] }

def MEM_RSTR0_reg : RegRow :=
  { base := 0x400C0008, count := 1, stride := 4,
    rows := fun _ => [
      ⟨MEM_RSTR0_S0, .rwl, fun _ => true, false⟩,
      ⟨MEM_RSTR0_S1, .rwl, fun _ => true, false⟩,
      ⟨MEM_RSTR0_S2, .rwl, fun _ => true, false⟩,
      ⟨MEM_RSTR0_S3, .rwl, fun _ => true, false⟩,
      ⟨MEM_RSTR0_S4, .rwl, fun _ => true, false⟩,
      ⟨MEM_RSTR0_S5, .rwl, fun _ => true, false⟩,
      ⟨MEM_RSTR0_S6, .rwl, fun _ => true, false⟩,
      ⟨MEM_RSTR0_S7, .rwl, fun _ => true, false⟩,
      ⟨MEM_RSTR0_S8, .rwl, fun _ => true, false⟩,
      ⟨MEM_RSTR0_S9, .rwl, fun _ => true, false⟩,
      ⟨MEM_RSTR0_S10, .rwl, fun _ => true, false⟩,
      ⟨MEM_RSTR0_S11, .rwl, fun _ => true, false⟩,
      ⟨MEM_RSTR0_S12, .rwl, fun _ => true, false⟩,
      ⟨MEM_RSTR0_S13, .rwl, fun _ => true, false⟩,
      ⟨MEM_RSTR0_S14, .rwl, fun _ => true, false⟩,
      ⟨MEM_RSTR0_S15, .rwl, fun _ => true, false⟩] }

def MEM_RSTR1_reg : RegRow :=
  { base := 0x400C000C, count := 1, stride := 4,
    rows := fun _ => [
      ⟨MEM_RSTR1_S16, .rwl, fun _ => true, false⟩,
      ⟨MEM_RSTR1_S17, .rwl, fun _ => true, false⟩,
      ⟨MEM_RSTR1_S18, .rwl, fun _ => true, false⟩,
      ⟨MEM_RSTR1_S19, .rwl, fun _ => true, false⟩,
      ⟨MEM_RSTR1_S20, .rwl, fun _ => true, false⟩,
      ⟨MEM_RSTR1_S21, .rwl, fun _ => true, false⟩,
      ⟨MEM_RSTR1_S22, .rwl, fun _ => true, false⟩,
      ⟨MEM_RSTR1_S23, .rwl, fun _ => true, false⟩,
      ⟨MEM_RSTR1_S24, .rwl, fun _ => true, false⟩,
      ⟨MEM_RSTR1_S25, .rwl, fun _ => true, false⟩,
      ⟨MEM_RSTR1_S26, .rwl, fun _ => true, false⟩,
      ⟨MEM_RSTR1_S27, .rwl, fun _ => true, false⟩,
      ⟨MEM_RSTR1_S28, .rwl, fun _ => true, false⟩,
      ⟨MEM_RSTR1_S29, .rwl, fun _ => true, false⟩,
      ⟨MEM_RSTR1_S30, .rwl, fun _ => true, false⟩,
      ⟨MEM_RSTR1_S31, .rwl, fun _ => true, false⟩] }

def MEM_ECCCFG_reg : RegRow :=
  { base := 0x400C0010, count := 1, stride := 4,
    rows := fun _ => [
      { field := MEM_ECCCFG_CORR_THR, access := .rw, legal := fun v => within 1 24 v }] }

def MEM_ECCSTAT_reg : RegRow :=
  { base := 0x400C0014, count := 1, stride := 4,
    rows := fun _ => [
      ⟨MEM_ECCSTAT_RESULT, .ro, fun _ => true, false⟩,
      ⟨MEM_ECCSTAT_BITS, .ro, fun _ => true, false⟩,
      ⟨MEM_ECCSTAT_REASON, .ro, fun _ => true, false⟩,
      ⟨MEM_ECCSTAT_PAGE, .ro, fun _ => true, false⟩] }

def MEM_ECCCNT_reg : RegRow :=
  { base := 0x400C0018, count := 1, stride := 4,
    rows := fun _ => [
      ⟨MEM_ECCCNT_ECC_CORR, .ro, fun _ => true, false⟩,
      ⟨MEM_ECCCNT_ECC_UNCORR, .ro, fun _ => true, false⟩] }

def MEM_FLIP_L_reg : RegRow :=
  { base := 0x400C001C, count := 1, stride := 4,
    rows := fun _ => [
      ⟨MEM_FLIP_L_MASK, .rw, fun _ => true, false⟩] }

def MEM_FLIP_H_reg : RegRow :=
  { base := 0x400C0020, count := 1, stride := 4,
    rows := fun _ => [
      ⟨MEM_FLIP_H_MASK, .rw, fun _ => true, false⟩] }

def MEM_FLIPCFG_reg : RegRow :=
  { base := 0x400C0024, count := 1, stride := 4, whole := true,
    rows := fun _ => [
      { field := MEM_FLIPCFG_OFFSET, access := .rw, legal := fun v => v ≤ 16775 },
      ⟨MEM_FLIPCFG_ARM, .rw, fun _ => true, false⟩,
      ⟨MEM_FLIPCFG_USED, .ro, fun _ => true, false⟩] }

def MEM_MERGE_reg : RegRow :=
  { base := 0x400C0028, count := 1, stride := 4,
    rows := fun _ => [
      ⟨MEM_MERGE_FLUSH, .wo, fun _ => true, false⟩,
      ⟨MEM_MERGE_VALID, .ro, fun _ => true, false⟩,
      ⟨MEM_MERGE_BUSY, .ro, fun _ => true, false⟩,
      ⟨MEM_MERGE_LAST_FAIL, .ro, fun _ => true, false⟩] }

def MEM_LOCK_reg : RegRow :=
  { base := 0x400C002C, count := 1, stride := 4,
    rows := fun _ => [
      ⟨MEM_LOCK_LOCK, .w1s, fun _ => true, false⟩] }

/-- Every register of the MEM block, by address. -/
def memRegs : List RegRow :=
  [MEM_CTRL_reg, MEM_STATUS_reg, MEM_RSTR0_reg, MEM_RSTR1_reg, MEM_ECCCFG_reg, MEM_ECCSTAT_reg, MEM_ECCCNT_reg, MEM_FLIP_L_reg, MEM_FLIP_H_reg, MEM_FLIPCFG_reg, MEM_MERGE_reg, MEM_LOCK_reg]

end Sys2Proof.Machine
end

