-- ==== Sys2Proof/Machine/RegPin.lean ====
section
/-! DEFINITION. The register fields of the PIN block (base 0x40130000), from the block map and field tables of
spec/20_electrical_package.md: address, lowest bit, width and reset value of each field, then each register's row of fields with
their access codes (R6) and the values a field accepts. -/
namespace Sys2Proof.Machine

def PIN_CFG_FUNC (i : Nat) : RegField := ⟨0x40130000 + 0x4 * (i % 40), 0, 2, 0⟩
def PIN_CFG_DIR (i : Nat) : RegField := ⟨0x40130000 + 0x4 * (i % 40), 2, 1, 0⟩
def PIN_CFG_PULL (i : Nat) : RegField := ⟨0x40130000 + 0x4 * (i % 40), 3, 2, 1⟩
def PIN_CFG_DRIVE (i : Nat) : RegField := ⟨0x40130000 + 0x4 * (i % 40), 5, 2, 0⟩
def PIN_CFG_OD (i : Nat) : RegField := ⟨0x40130000 + 0x4 * (i % 40), 7, 1, 0⟩
def PIN_OUT_L_LEVEL : RegField := ⟨0x401300A0, 0, 32, 0⟩
def PIN_OUT_H_LEVEL : RegField := ⟨0x401300A4, 0, 8, 0⟩
def PIN_IN_L_LEVEL : RegField := ⟨0x401300A8, 0, 32, 0⟩
def PIN_IN_H_LEVEL : RegField := ⟨0x401300AC, 0, 8, 0⟩
def PIN_LOCK_LOCK : RegField := ⟨0x401300B0, 0, 1, 0⟩

def PIN_CFG_reg : RegRow :=
  { base := 0x40130000, count := 40, stride := 4, whole := true,
    rows := fun i => [
      ⟨PIN_CFG_FUNC i, .rwl, fun _ => true, false⟩,
      ⟨PIN_CFG_DIR i, .rwl, fun _ => true, false⟩,
      { field := PIN_CFG_PULL i, access := .rwl, legal := fun v => v != 3 },
      ⟨PIN_CFG_DRIVE i, .rwl, fun _ => true, false⟩,
      ⟨PIN_CFG_OD i, .rwl, fun _ => true, false⟩] }

def PIN_OUT_L_reg : RegRow :=
  { base := 0x401300A0, count := 1, stride := 4,
    rows := fun _ => [
      ⟨PIN_OUT_L_LEVEL, .rw, fun _ => true, false⟩] }

def PIN_OUT_H_reg : RegRow :=
  { base := 0x401300A4, count := 1, stride := 4,
    rows := fun _ => [
      ⟨PIN_OUT_H_LEVEL, .rw, fun _ => true, false⟩] }

def PIN_IN_L_reg : RegRow :=
  { base := 0x401300A8, count := 1, stride := 4,
    rows := fun _ => [
      ⟨PIN_IN_L_LEVEL, .ro, fun _ => true, false⟩] }

def PIN_IN_H_reg : RegRow :=
  { base := 0x401300AC, count := 1, stride := 4,
    rows := fun _ => [
      ⟨PIN_IN_H_LEVEL, .ro, fun _ => true, false⟩] }

def PIN_LOCK_reg : RegRow :=
  { base := 0x401300B0, count := 1, stride := 4,
    rows := fun _ => [
      ⟨PIN_LOCK_LOCK, .w1s, fun _ => true, false⟩] }

/-- Every register of the PIN block, by address. -/
def pinRegs : List RegRow :=
  [PIN_CFG_reg, PIN_OUT_L_reg, PIN_OUT_H_reg, PIN_IN_L_reg, PIN_IN_H_reg, PIN_LOCK_reg]

end Sys2Proof.Machine
end

