-- ==== Sys2Proof/Machine/RegPke.lean ====
section
/-! DEFINITION. The register fields of the PKE block (base 0x40070000), from the block map and field tables of
spec/18_boot_identity_update.md: address, lowest bit, width and reset value of each field, then each register's row of fields with
their access codes (R6) and the values a field accepts. -/
namespace Sys2Proof.Machine

def PKE_CMD_OP : RegField := ⟨0x40070000, 0, 4, 0⟩
def PKE_CMD_CONT : RegField := ⟨0x40070000, 4, 1, 0⟩
def PKE_CMD_FIN : RegField := ⟨0x40070000, 5, 1, 0⟩
def PKE_CMD_RNG_RESTART : RegField := ⟨0x40070000, 8, 1, 0⟩
def PKE_STATUS_BUSY : RegField := ⟨0x40070004, 0, 1, 0⟩
def PKE_STATUS_RESULT : RegField := ⟨0x40070004, 1, 3, 0⟩
def PKE_STATUS_COUNT : RegField := ⟨0x40070004, 16, 16, 0⟩
def PKE_SRC_ADDR : RegField := ⟨0x40070008, 0, 32, 0⟩
def PKE_LEN_LEN : RegField := ⟨0x4007000C, 0, 24, 0⟩
def PKE_OPADDR_ADDR : RegField := ⟨0x40070010, 0, 32, 0⟩
def PKE_LOCK_LOCK : RegField := ⟨0x40070014, 0, 1, 0⟩
def PKE_RNG_VALUE : RegField := ⟨0x40070100, 0, 32, 0⟩
def PKE_RNGSTAT_VALID : RegField := ⟨0x40070104, 0, 1, 0⟩
def PKE_RNGSTAT_HEALTH_FAIL : RegField := ⟨0x40070104, 1, 1, 0⟩
def PKE_RNGSTAT_STARTUP : RegField := ⟨0x40070104, 2, 1, 1⟩
def PKE_RNGSTAT_FAILS : RegField := ⟨0x40070104, 8, 8, 0⟩

def PKE_CMD_reg : RegRow :=
  { base := 0x40070000, count := 1, stride := 4,
    rows := fun _ => [
      ⟨PKE_CMD_OP, .wo, fun _ => true, false⟩,
      ⟨PKE_CMD_CONT, .wo, fun _ => true, false⟩,
      ⟨PKE_CMD_FIN, .wo, fun _ => true, false⟩,
      ⟨PKE_CMD_RNG_RESTART, .wo, fun _ => true, false⟩] }

def PKE_STATUS_reg : RegRow :=
  { base := 0x40070004, count := 1, stride := 4,
    rows := fun _ => [
      ⟨PKE_STATUS_BUSY, .ro, fun _ => true, false⟩,
      ⟨PKE_STATUS_RESULT, .ro, fun _ => true, false⟩,
      ⟨PKE_STATUS_COUNT, .ro, fun _ => true, false⟩] }

def PKE_SRC_reg : RegRow :=
  { base := 0x40070008, count := 1, stride := 4,
    rows := fun _ => [
      ⟨PKE_SRC_ADDR, .rwl, fun _ => true, false⟩] }

def PKE_LEN_reg : RegRow :=
  { base := 0x4007000C, count := 1, stride := 4,
    rows := fun _ => [
      ⟨PKE_LEN_LEN, .rwl, fun _ => true, false⟩] }

def PKE_OPADDR_reg : RegRow :=
  { base := 0x40070010, count := 1, stride := 4,
    rows := fun _ => [
      ⟨PKE_OPADDR_ADDR, .rwl, fun _ => true, false⟩] }

def PKE_LOCK_reg : RegRow :=
  { base := 0x40070014, count := 1, stride := 4,
    rows := fun _ => [
      ⟨PKE_LOCK_LOCK, .w1s, fun _ => true, false⟩] }

def PKE_RNG_reg : RegRow :=
  { base := 0x40070100, count := 1, stride := 4,
    rows := fun _ => [
      ⟨PKE_RNG_VALUE, .ro, fun _ => true, false⟩] }

def PKE_RNGSTAT_reg : RegRow :=
  { base := 0x40070104, count := 1, stride := 4,
    rows := fun _ => [
      ⟨PKE_RNGSTAT_VALID, .ro, fun _ => true, false⟩,
      ⟨PKE_RNGSTAT_HEALTH_FAIL, .ro, fun _ => true, false⟩,
      ⟨PKE_RNGSTAT_STARTUP, .ro, fun _ => true, false⟩,
      ⟨PKE_RNGSTAT_FAILS, .ro, fun _ => true, false⟩] }

/-- Every register of the PKE block, by address. -/
def pkeRegs : List RegRow :=
  [PKE_CMD_reg, PKE_STATUS_reg, PKE_SRC_reg, PKE_LEN_reg, PKE_OPADDR_reg, PKE_LOCK_reg, PKE_RNG_reg, PKE_RNGSTAT_reg]

end Sys2Proof.Machine
end

