-- ==== Sys2Proof/Machine/RegPrc.lean ====
section
/-! DEFINITION. The register fields of the PRC block (base 0x40000000), from the block map and field tables of
spec/19_power_reset_clocks.md: address, lowest bit, width and reset value of each field, then each register's row of fields with
their access codes (R6) and the values a field accepts. -/
namespace Sys2Proof.Machine

def PRC_CTRL_DOZE_EN : RegField := ⟨0x40000000, 0, 1, 1⟩
def PRC_CTRL_CORE_CLK : RegField := ⟨0x40000000, 1, 2, 0⟩
def PRC_CTRL_PIN_HOLD : RegField := ⟨0x40000000, 8, 1, 0⟩
def PRC_CTRL_HOLD_REL : RegField := ⟨0x40000000, 9, 1, 0⟩
def PRC_CTRL_ENTRY_TO : RegField := ⟨0x40000000, 16, 8, 100⟩
def PRC_STATUS_VSUP_LOW : RegField := ⟨0x40000004, 0, 1, 0⟩
def PRC_STATUS_THERM_HOT : RegField := ⟨0x40000004, 1, 1, 0⟩
def PRC_STATUS_CLK_DEV : RegField := ⟨0x40000004, 2, 1, 0⟩
def PRC_STATUS_REF_FAIL : RegField := ⟨0x40000004, 3, 1, 0⟩
def PRC_STATUS_REF_OK : RegField := ⟨0x40000004, 4, 1, 0⟩
def PRC_RSTCAUSE_CAUSE : RegField := ⟨0x40000008, 0, 8, 0⟩
def PRC_RSTCAUSE_C1_CAUSE : RegField := ⟨0x40000008, 8, 8, 0⟩
def PRC_RSTCAUSE_FROM_STANDBY : RegField := ⟨0x40000008, 16, 1, 0⟩
def PRC_RSTCAUSE_PIN_HELD : RegField := ⟨0x40000008, 17, 1, 0⟩
def PRC_RSTCAUSE_STEP : RegField := ⟨0x40000008, 18, 2, 0⟩
def PRC_RSTCMD_SCOPE : RegField := ⟨0x4000000C, 0, 2, 0⟩
def PRC_RSTCMD_CONFIRM : RegField := ⟨0x4000000C, 16, 16, 0⟩
def PRC_MODE_MODE : RegField := ⟨0x40000010, 0, 4, 0⟩
def PRC_MODE_PREV : RegField := ⟨0x40000010, 4, 4, 0⟩
def PRC_MODE_UNLOCKED : RegField := ⟨0x40000010, 8, 1, 0⟩
def PRC_MODE_PENDING : RegField := ⟨0x40000010, 9, 1, 0⟩
def PRC_PWRCMD_STATE : RegField := ⟨0x40000014, 0, 3, 0⟩
def PRC_PWRSTAT_LAST : RegField := ⟨0x40000018, 0, 3, 0⟩
def PRC_PWRSTAT_PENDING : RegField := ⟨0x40000018, 3, 1, 0⟩
def PRC_PWRSTAT_RESULT : RegField := ⟨0x40000018, 4, 3, 0⟩
def PRC_PWRSTAT_CMD_REJ : RegField := ⟨0x40000018, 7, 1, 0⟩
def PRC_PWRSTAT_TNET_RESTORED : RegField := ⟨0x40000018, 8, 1, 0⟩
def PRC_PWRSTAT_ENTRIES : RegField := ⟨0x40000018, 16, 16, 0⟩
def PRC_WAKEEN_EN : RegField := ⟨0x4000001C, 0, 9, 0x1f⟩
def PRC_WAKESRC_SRC : RegField := ⟨0x40000020, 0, 10, 0⟩
def PRC_WAKESRC_FIRST : RegField := ⟨0x40000020, 12, 4, 0⟩
def PRC_DEEPRET_GRANULE0 (i : Nat) : RegField := ⟨0x40000024 + 0x4 * (i % 2), 0, 7, 0⟩
def PRC_DEEPRET_EN0 (i : Nat) : RegField := ⟨0x40000024 + 0x4 * (i % 2), 7, 1, 0⟩
def PRC_DEEPRET_GRANULE1 (i : Nat) : RegField := ⟨0x40000024 + 0x4 * (i % 2), 8, 7, 0⟩
def PRC_DEEPRET_EN1 (i : Nat) : RegField := ⟨0x40000024 + 0x4 * (i % 2), 15, 1, 0⟩
def PRC_DEEPRET_GRANULE2 (i : Nat) : RegField := ⟨0x40000024 + 0x4 * (i % 2), 16, 7, 0⟩
def PRC_DEEPRET_EN2 (i : Nat) : RegField := ⟨0x40000024 + 0x4 * (i % 2), 23, 1, 0⟩
def PRC_DEEPRET_GRANULE3 (i : Nat) : RegField := ⟨0x40000024 + 0x4 * (i % 2), 24, 7, 0⟩
def PRC_DEEPRET_EN3 (i : Nat) : RegField := ⟨0x40000024 + 0x4 * (i % 2), 31, 1, 0⟩
def PRC_SLPWAKE_L_TNET : RegField := ⟨0x4000002C, 0, 32, 0xffffffff⟩
def PRC_SLPWAKE_H_TNET : RegField := ⟨0x40000030, 0, 32, 0xffffffff⟩
def PRC_SUPCFG_WARN : RegField := ⟨0x40000034, 0, 4, 9⟩
def PRC_SUPCFG_THERM : RegField := ⟨0x40000034, 8, 8, 110⟩
def PRC_SUPCFG_DEV : RegField := ⟨0x40000034, 16, 8, 20⟩
def PRC_SUPMEAS_VSUP : RegField := ⟨0x40000038, 0, 12, 0⟩
def PRC_SUPMEAS_DEV_LAST : RegField := ⟨0x40000038, 16, 16, 0⟩
def PRC_BLKRST_BLOCK : RegField := ⟨0x4000003C, 0, 9, 0⟩
def PRC_WDT_CFG_TIMEOUT (i : Nat) : RegField := ⟨0x40000040 + 0xfc0 * (i % 2), 0, 16, 1000⟩
def PRC_WDT_CFG_WARN (i : Nat) : RegField := ⟨0x40000040 + 0xfc0 * (i % 2), 16, 8, 100⟩
def PRC_WDT_CFG_WINDOW (i : Nat) : RegField := ⟨0x40000040 + 0xfc0 * (i % 2), 24, 7, 0⟩
def PRC_WDT_CFG_EN (i : Nat) : RegField := ⟨0x40000040 + 0xfc0 * (i % 2), 31, 1, 0⟩
def PRC_WDT_KICK_VALUE (i : Nat) : RegField := ⟨0x40000044 + 0xfc0 * (i % 2), 0, 32, 0⟩
def PRC_WDT_STAT_REMAIN (i : Nat) : RegField := ⟨0x40000048 + 0xfc0 * (i % 2), 0, 16, 0⟩
def PRC_WDT_STAT_RUNNING (i : Nat) : RegField := ⟨0x40000048 + 0xfc0 * (i % 2), 16, 1, 0⟩
def PRC_WDT_STAT_WARNED (i : Nat) : RegField := ⟨0x40000048 + 0xfc0 * (i % 2), 17, 1, 0⟩
def PRC_WDT_STAT_PAUSED (i : Nat) : RegField := ⟨0x40000048 + 0xfc0 * (i % 2), 18, 1, 0⟩
def PRC_LOCK_LOCK : RegField := ⟨0x4000004C, 0, 1, 0⟩
def PRC_RSTSRC_SOURCES : RegField := ⟨0x40000050, 0, 14, 0⟩

def PRC_CTRL_reg : RegRow :=
  { base := 0x40000000, count := 1, stride := 4,
    rows := fun _ => [
      ⟨PRC_CTRL_DOZE_EN, .rw, fun _ => true, false⟩,
      { field := PRC_CTRL_CORE_CLK, access := .rw, legal := fun v => v != 3 },
      ⟨PRC_CTRL_PIN_HOLD, .ro, fun _ => true, false⟩,
      ⟨PRC_CTRL_HOLD_REL, .wo, fun _ => true, false⟩,
      { field := PRC_CTRL_ENTRY_TO, access := .rwl, legal := fun v => v != 0 }] }

def PRC_STATUS_reg : RegRow :=
  { base := 0x40000004, count := 1, stride := 4,
    rows := fun _ => [
      ⟨PRC_STATUS_VSUP_LOW, .ro, fun _ => true, false⟩,
      ⟨PRC_STATUS_THERM_HOT, .ro, fun _ => true, false⟩,
      ⟨PRC_STATUS_CLK_DEV, .w1c, fun _ => true, false⟩,
      ⟨PRC_STATUS_REF_FAIL, .ro, fun _ => true, false⟩,
      ⟨PRC_STATUS_REF_OK, .ro, fun _ => true, false⟩] }

def PRC_RSTCAUSE_reg : RegRow :=
  { base := 0x40000008, count := 1, stride := 4,
    rows := fun _ => [
      ⟨PRC_RSTCAUSE_CAUSE, .ro, fun _ => true, false⟩,
      ⟨PRC_RSTCAUSE_C1_CAUSE, .ro, fun _ => true, false⟩,
      ⟨PRC_RSTCAUSE_FROM_STANDBY, .ro, fun _ => true, false⟩,
      ⟨PRC_RSTCAUSE_PIN_HELD, .ro, fun _ => true, false⟩,
      ⟨PRC_RSTCAUSE_STEP, .ro, fun _ => true, false⟩] }

def PRC_RSTCMD_reg : RegRow :=
  { base := 0x4000000C, count := 1, stride := 4,
    rows := fun _ => [
      ⟨PRC_RSTCMD_SCOPE, .wo, fun _ => true, false⟩,
      ⟨PRC_RSTCMD_CONFIRM, .wo, fun _ => true, false⟩] }

def PRC_MODE_reg : RegRow :=
  { base := 0x40000010, count := 1, stride := 4,
    rows := fun _ => [
      ⟨PRC_MODE_MODE, .ro, fun _ => true, false⟩,
      ⟨PRC_MODE_PREV, .ro, fun _ => true, false⟩,
      ⟨PRC_MODE_UNLOCKED, .ro, fun _ => true, false⟩,
      ⟨PRC_MODE_PENDING, .ro, fun _ => true, false⟩] }

def PRC_PWRCMD_reg : RegRow :=
  { base := 0x40000014, count := 1, stride := 4,
    rows := fun _ => [
      ⟨PRC_PWRCMD_STATE, .wo, fun _ => true, false⟩] }

def PRC_PWRSTAT_reg : RegRow :=
  { base := 0x40000018, count := 1, stride := 4,
    rows := fun _ => [
      ⟨PRC_PWRSTAT_LAST, .ro, fun _ => true, false⟩,
      ⟨PRC_PWRSTAT_PENDING, .ro, fun _ => true, false⟩,
      ⟨PRC_PWRSTAT_RESULT, .ro, fun _ => true, false⟩,
      ⟨PRC_PWRSTAT_CMD_REJ, .ro, fun _ => true, false⟩,
      ⟨PRC_PWRSTAT_TNET_RESTORED, .ro, fun _ => true, false⟩,
      ⟨PRC_PWRSTAT_ENTRIES, .ro, fun _ => true, false⟩] }

def PRC_WAKEEN_reg : RegRow :=
  { base := 0x4000001C, count := 1, stride := 4,
    rows := fun _ => [
      ⟨PRC_WAKEEN_EN, .rw, fun _ => true, false⟩] }

def PRC_WAKESRC_reg : RegRow :=
  { base := 0x40000020, count := 1, stride := 4,
    rows := fun _ => [
      ⟨PRC_WAKESRC_SRC, .w1c, fun _ => true, false⟩,
      ⟨PRC_WAKESRC_FIRST, .ro, fun _ => true, false⟩] }

def PRC_DEEPRET_reg : RegRow :=
  { base := 0x40000024, count := 2, stride := 4,
    rows := fun i => [
      ⟨PRC_DEEPRET_GRANULE0 i, .rw, fun _ => true, false⟩,
      ⟨PRC_DEEPRET_EN0 i, .rw, fun _ => true, false⟩,
      ⟨PRC_DEEPRET_GRANULE1 i, .rw, fun _ => true, false⟩,
      ⟨PRC_DEEPRET_EN1 i, .rw, fun _ => true, false⟩,
      ⟨PRC_DEEPRET_GRANULE2 i, .rw, fun _ => true, false⟩,
      ⟨PRC_DEEPRET_EN2 i, .rw, fun _ => true, false⟩,
      ⟨PRC_DEEPRET_GRANULE3 i, .rw, fun _ => true, false⟩,
      ⟨PRC_DEEPRET_EN3 i, .rw, fun _ => true, false⟩] }

def PRC_SLPWAKE_L_reg : RegRow :=
  { base := 0x4000002C, count := 1, stride := 4,
    rows := fun _ => [
      ⟨PRC_SLPWAKE_L_TNET, .rw, fun _ => true, false⟩] }

def PRC_SLPWAKE_H_reg : RegRow :=
  { base := 0x40000030, count := 1, stride := 4,
    rows := fun _ => [
      ⟨PRC_SLPWAKE_H_TNET, .rw, fun _ => true, false⟩] }

def PRC_SUPCFG_reg : RegRow :=
  { base := 0x40000034, count := 1, stride := 4,
    rows := fun _ => [
      ⟨PRC_SUPCFG_WARN, .rwl, fun _ => true, false⟩,
      { field := PRC_SUPCFG_THERM, access := .rwl, legal := fun v => within 70 125 v },
      { field := PRC_SUPCFG_DEV, access := .rwl, legal := fun v => v != 0 }] }

def PRC_SUPMEAS_reg : RegRow :=
  { base := 0x40000038, count := 1, stride := 4,
    rows := fun _ => [
      ⟨PRC_SUPMEAS_VSUP, .ro, fun _ => true, false⟩,
      ⟨PRC_SUPMEAS_DEV_LAST, .ro, fun _ => true, false⟩] }

def PRC_BLKRST_reg : RegRow :=
  { base := 0x4000003C, count := 1, stride := 4,
    rows := fun _ => [
      ⟨PRC_BLKRST_BLOCK, .w1s, fun _ => true, false⟩] }

def PRC_WDT_CFG_reg : RegRow :=
  { base := 0x40000040, count := 2, stride := 4032,
    rows := fun i => [
      { field := PRC_WDT_CFG_TIMEOUT i, access := .rwl, legal := fun v => v != 0 },
      ⟨PRC_WDT_CFG_WARN i, .rwl, fun _ => true, false⟩,
      ⟨PRC_WDT_CFG_WINDOW i, .rwl, fun _ => true, false⟩,
      ⟨PRC_WDT_CFG_EN i, .w1s, fun _ => true, false⟩] }

def PRC_WDT_KICK_reg : RegRow :=
  { base := 0x40000044, count := 2, stride := 4032,
    rows := fun i => [
      ⟨PRC_WDT_KICK_VALUE i, .wo, fun _ => true, false⟩] }

def PRC_WDT_STAT_reg : RegRow :=
  { base := 0x40000048, count := 2, stride := 4032,
    rows := fun i => [
      ⟨PRC_WDT_STAT_REMAIN i, .ro, fun _ => true, false⟩,
      ⟨PRC_WDT_STAT_RUNNING i, .ro, fun _ => true, false⟩,
      ⟨PRC_WDT_STAT_WARNED i, .ro, fun _ => true, false⟩,
      ⟨PRC_WDT_STAT_PAUSED i, .ro, fun _ => true, false⟩] }

def PRC_LOCK_reg : RegRow :=
  { base := 0x4000004C, count := 1, stride := 4,
    rows := fun _ => [
      ⟨PRC_LOCK_LOCK, .w1s, fun _ => true, false⟩] }

def PRC_RSTSRC_reg : RegRow :=
  { base := 0x40000050, count := 1, stride := 4,
    rows := fun _ => [
      ⟨PRC_RSTSRC_SOURCES, .ro, fun _ => true, false⟩] }

/-- Every register of the PRC block, by address. -/
def prcRegs : List RegRow :=
  [PRC_CTRL_reg, PRC_STATUS_reg, PRC_RSTCAUSE_reg, PRC_RSTCMD_reg, PRC_MODE_reg, PRC_PWRCMD_reg, PRC_PWRSTAT_reg, PRC_WAKEEN_reg, PRC_WAKESRC_reg, PRC_DEEPRET_reg, PRC_SLPWAKE_L_reg, PRC_SLPWAKE_H_reg, PRC_SUPCFG_reg, PRC_SUPMEAS_reg, PRC_BLKRST_reg, PRC_WDT_CFG_reg, PRC_WDT_KICK_reg, PRC_WDT_STAT_reg, PRC_LOCK_reg, PRC_RSTSRC_reg]

end Sys2Proof.Machine
end

