-- ==== Sys2Proof/Machine/RegRfc.lean ====
section
/-! DEFINITION. The register fields of the RFC block (base 0x40010000), from the block map and field tables of
spec/02_radio_front_end.md: address, lowest bit, width and reset value of each field, then each register's row of fields with
their access codes (R6) and the values a field accepts. -/
namespace Sys2Proof.Machine

def RFC_CTRL_ANT_CFG : RegField := ⟨0x40010000, 0, 1, 0⟩
def RFC_CTRL_FDX_EN : RegField := ⟨0x40010000, 1, 1, 0⟩
def RFC_CTRL_RET_T : RegField := ⟨0x40010000, 2, 2, 1⟩
def RFC_CTRL_RET_A : RegField := ⟨0x40010000, 4, 2, 1⟩
def RFC_CTRL_RET_B : RegField := ⟨0x40010000, 6, 2, 1⟩
def RFC_STATE_STATE_A : RegField := ⟨0x40010004, 0, 3, 0⟩
def RFC_STATE_STATE_B : RegField := ⟨0x40010004, 4, 3, 0⟩
def RFC_STATE_STATE_T : RegField := ⟨0x40010004, 8, 3, 0⟩
def RFC_STATE_TRSW : RegField := ⟨0x40010004, 12, 1, 0⟩
def RFC_STATE_VSUP_HI : RegField := ⟨0x40010004, 13, 1, 0⟩
def RFC_STATE_FREQ_ERR : RegField := ⟨0x40010004, 14, 1, 0⟩
def RFC_STATE_CMD_REJ : RegField := ⟨0x40010004, 15, 1, 0⟩
def RFC_CMD_PATH : RegField := ⟨0x40010008, 0, 2, 0⟩
def RFC_CMD_TARGET : RegField := ⟨0x40010008, 4, 3, 0⟩
def RFC_FREQ_A_FREQ : RegField := ⟨0x4001000C, 0, 30, 470000000⟩
def RFC_FREQ_B_FREQ : RegField := ⟨0x40010010, 0, 30, 470000000⟩
def RFC_FREQ_T_FREQ : RegField := ⟨0x40010014, 0, 30, 470000000⟩
def RFC_CALCFG_POLICY : RegField := ⟨0x40010018, 0, 1, 0⟩
def RFC_CALCFG_BG_EN : RegField := ⟨0x40010018, 1, 1, 1⟩
def RFC_CALCFG_DELTA_T : RegField := ⟨0x40010018, 2, 5, 5⟩
def RFC_CALCFG_RESSEL : RegField := ⟨0x40010018, 8, 2, 0⟩
def RFC_CALCMD_TYPE : RegField := ⟨0x4001001C, 0, 3, 0⟩
def RFC_CALCMD_TARGET : RegField := ⟨0x4001001C, 4, 2, 0⟩
def RFC_CALSTAT_BUSY : RegField := ⟨0x40010020, 0, 1, 0⟩
def RFC_CALSTAT_LAST_TYPE : RegField := ⟨0x40010020, 1, 3, 0⟩
def RFC_CALSTAT_LAST_TARGET : RegField := ⟨0x40010020, 4, 2, 0⟩
def RFC_CALSTAT_RESULT : RegField := ⟨0x40010020, 6, 3, 0⟩
def RFC_CALSTAT_COUNT : RegField := ⟨0x40010020, 16, 16, 0⟩
def RFC_CALRES_VCO_BAND : RegField := ⟨0x40010024, 0, 6, 0⟩
def RFC_CALRES_VCO_CAPTRIM : RegField := ⟨0x40010024, 8, 6, 0⟩
def RFC_CALRES_VCO_LOCK_TIME : RegField := ⟨0x40010024, 16, 16, 0⟩
def RFC_CALRES_IMR_GAIN_CORR : RegField := ⟨0x40010028, 0, 10, 0⟩
def RFC_CALRES_IMR_PHASE_CORR : RegField := ⟨0x40010028, 10, 10, 0⟩
def RFC_CALRES_IMR_IMR_DB : RegField := ⟨0x40010028, 20, 8, 0⟩
def RFC_CALRES_CHBW_BW : RegField := ⟨0x4001002C, 0, 16, 0⟩
def RFC_CALRES_CHBW_TRIM : RegField := ⟨0x4001002C, 16, 8, 0⟩
def RFC_CALRES_XTAL_ERR_PPB : RegField := ⟨0x40010030, 0, 32, 0⟩
def RFC_CALRES_DCIQ_DC_I : RegField := ⟨0x40010034, 0, 8, 0⟩
def RFC_CALRES_DCIQ_DC_Q : RegField := ⟨0x40010034, 8, 8, 0⟩
def RFC_CALRES_DCIQ_IQ_GAIN : RegField := ⟨0x40010034, 16, 8, 0⟩
def RFC_CALRES_DCIQ_IQ_PHASE : RegField := ⟨0x40010034, 24, 8, 0⟩
def RFC_TEMP_TEMP : RegField := ⟨0x40010038, 0, 12, 0⟩
def RFC_TEMP_TEMP_CAL_T : RegField := ⟨0x40010038, 16, 12, 0⟩
def RFC_GAIN_A_AGC_AUTO : RegField := ⟨0x4001003C, 0, 1, 1⟩
def RFC_GAIN_A_GAIN : RegField := ⟨0x4001003C, 1, 4, 0⟩
def RFC_GAIN_A_SAT_COUNT : RegField := ⟨0x4001003C, 8, 16, 0⟩
def RFC_GAIN_B_AGC_AUTO : RegField := ⟨0x40010040, 0, 1, 1⟩
def RFC_GAIN_B_GAIN : RegField := ⟨0x40010040, 1, 4, 0⟩
def RFC_GAIN_B_SAT_COUNT : RegField := ⟨0x40010040, 8, 16, 0⟩
def RFC_EXTCTL_PA_EN_EN : RegField := ⟨0x40010044, 0, 1, 0⟩
def RFC_EXTCTL_PA_POL : RegField := ⟨0x40010044, 1, 1, 0⟩
def RFC_EXTCTL_LNA_A_EN : RegField := ⟨0x40010044, 2, 1, 0⟩
def RFC_EXTCTL_LNA_A_POL : RegField := ⟨0x40010044, 3, 1, 0⟩
def RFC_EXTCTL_LNA_B_EN : RegField := ⟨0x40010044, 4, 1, 0⟩
def RFC_EXTCTL_LNA_B_POL : RegField := ⟨0x40010044, 5, 1, 0⟩
def RFC_EXTCTL_TR_EN : RegField := ⟨0x40010044, 6, 1, 0⟩
def RFC_EXTCTL_TR_POL : RegField := ⟨0x40010044, 7, 1, 0⟩
def RFC_EXTCTL_EXT_LNA_GAIN : RegField := ⟨0x40010044, 8, 8, 0⟩
def RFC_REGSTAT_REGLOCK : RegField := ⟨0x40010048, 0, 1, 0⟩
def RFC_REGSTAT_PROFILE_VALID : RegField := ⟨0x40010048, 1, 1, 0⟩
def RFC_REGSTAT_LAST_REASON : RegField := ⟨0x40010048, 2, 2, 0⟩
def RFC_REGSTAT_SUPPLY : RegField := ⟨0x40010048, 4, 1, 0⟩
def RFC_REGSTAT_LAST_BAND : RegField := ⟨0x40010048, 8, 3, 0⟩
def RFC_REGSTAT_NO_BAND : RegField := ⟨0x40010048, 11, 1, 0⟩
def RFC_REGSTAT_REFUSALS : RegField := ⟨0x40010048, 16, 16, 0⟩
def RFC_DUTYSEL_GROUP : RegField := ⟨0x4001004C, 0, 3, 0⟩
def RFC_DUTYUSE_USED : RegField := ⟨0x40010050, 0, 26, 0⟩
def RFC_DUTYUSE_PRECHARGED : RegField := ⟨0x40010050, 26, 1, 0⟩
def RFC_BLANK_A0_LANES : RegField := ⟨0x40010054, 0, 32, 0⟩
def RFC_BLANK_A1_LANES : RegField := ⟨0x40010058, 0, 32, 0⟩
def RFC_BLANK_B0_LANES : RegField := ⟨0x4001005C, 0, 32, 0⟩
def RFC_BLANK_B1_LANES : RegField := ⟨0x40010060, 0, 32, 0⟩
def RFC_TESTCMD_OP : RegField := ⟨0x40010064, 0, 4, 0⟩
def RFC_TESTDUR_DURATION : RegField := ⟨0x40010068, 0, 32, 1000⟩
def RFC_LOCK_LOCK : RegField := ⟨0x4001006C, 0, 1, 0⟩
def RFC_TESTRX_HALF : RegField := ⟨0x40010070, 0, 1, 0⟩
def RFC_TESTRX_PROFILE : RegField := ⟨0x40010070, 1, 2, 0⟩
def RFC_TESTRX_CHANNEL : RegField := ⟨0x40010070, 4, 10, 0⟩

def RFC_CTRL_reg : RegRow :=
  { base := 0x40010000, count := 1, stride := 4,
    rows := fun _ => [
      ⟨RFC_CTRL_ANT_CFG, .rwl, fun _ => true, false⟩,
      ⟨RFC_CTRL_FDX_EN, .rwl, fun _ => true, false⟩,
      { field := RFC_CTRL_RET_T, access := .rw, legal := fun v => v != 3 },
      ⟨RFC_CTRL_RET_A, .rw, fun _ => true, false⟩,
      { field := RFC_CTRL_RET_B, access := .rw, halfB := true }] }

def RFC_STATE_reg : RegRow :=
  { base := 0x40010004, count := 1, stride := 4,
    rows := fun _ => [
      ⟨RFC_STATE_STATE_A, .ro, fun _ => true, false⟩,
      ⟨RFC_STATE_STATE_B, .ro, fun _ => true, false⟩,
      ⟨RFC_STATE_STATE_T, .ro, fun _ => true, false⟩,
      ⟨RFC_STATE_TRSW, .ro, fun _ => true, false⟩,
      ⟨RFC_STATE_VSUP_HI, .ro, fun _ => true, false⟩,
      ⟨RFC_STATE_FREQ_ERR, .ro, fun _ => true, false⟩,
      ⟨RFC_STATE_CMD_REJ, .ro, fun _ => true, false⟩] }

def RFC_CMD_reg : RegRow :=
  { base := 0x40010008, count := 1, stride := 4,
    rows := fun _ => [
      ⟨RFC_CMD_PATH, .wo, fun _ => true, false⟩,
      ⟨RFC_CMD_TARGET, .wo, fun _ => true, false⟩] }

def RFC_FREQ_A_reg : RegRow :=
  { base := 0x4001000C, count := 1, stride := 4,
    rows := fun _ => [
      ⟨RFC_FREQ_A_FREQ, .rw, fun _ => true, false⟩] }

def RFC_FREQ_B_reg : RegRow :=
  { base := 0x40010010, count := 1, stride := 4,
    rows := fun _ => [
      ⟨RFC_FREQ_B_FREQ, .rw, fun _ => true, false⟩] }

def RFC_FREQ_T_reg : RegRow :=
  { base := 0x40010014, count := 1, stride := 4,
    rows := fun _ => [
      ⟨RFC_FREQ_T_FREQ, .rw, fun _ => true, false⟩] }

def RFC_CALCFG_reg : RegRow :=
  { base := 0x40010018, count := 1, stride := 4,
    rows := fun _ => [
      ⟨RFC_CALCFG_POLICY, .rw, fun _ => true, false⟩,
      ⟨RFC_CALCFG_BG_EN, .rw, fun _ => true, false⟩,
      { field := RFC_CALCFG_DELTA_T, access := .rw, legal := fun v => v != 0 },
      { field := RFC_CALCFG_RESSEL, access := .rw, legal := fun v => v != 3 }] }

def RFC_CALCMD_reg : RegRow :=
  { base := 0x4001001C, count := 1, stride := 4,
    rows := fun _ => [
      ⟨RFC_CALCMD_TYPE, .wo, fun _ => true, false⟩,
      ⟨RFC_CALCMD_TARGET, .wo, fun _ => true, false⟩] }

def RFC_CALSTAT_reg : RegRow :=
  { base := 0x40010020, count := 1, stride := 4,
    rows := fun _ => [
      ⟨RFC_CALSTAT_BUSY, .ro, fun _ => true, false⟩,
      ⟨RFC_CALSTAT_LAST_TYPE, .ro, fun _ => true, false⟩,
      ⟨RFC_CALSTAT_LAST_TARGET, .ro, fun _ => true, false⟩,
      ⟨RFC_CALSTAT_RESULT, .ro, fun _ => true, false⟩,
      ⟨RFC_CALSTAT_COUNT, .ro, fun _ => true, false⟩] }

def RFC_CALRES_VCO_reg : RegRow :=
  { base := 0x40010024, count := 1, stride := 4,
    rows := fun _ => [
      ⟨RFC_CALRES_VCO_BAND, .ro, fun _ => true, false⟩,
      ⟨RFC_CALRES_VCO_CAPTRIM, .ro, fun _ => true, false⟩,
      ⟨RFC_CALRES_VCO_LOCK_TIME, .ro, fun _ => true, false⟩] }

def RFC_CALRES_IMR_reg : RegRow :=
  { base := 0x40010028, count := 1, stride := 4,
    rows := fun _ => [
      ⟨RFC_CALRES_IMR_GAIN_CORR, .ro, fun _ => true, false⟩,
      ⟨RFC_CALRES_IMR_PHASE_CORR, .ro, fun _ => true, false⟩,
      ⟨RFC_CALRES_IMR_IMR_DB, .ro, fun _ => true, false⟩] }

def RFC_CALRES_CHBW_reg : RegRow :=
  { base := 0x4001002C, count := 1, stride := 4,
    rows := fun _ => [
      ⟨RFC_CALRES_CHBW_BW, .ro, fun _ => true, false⟩,
      ⟨RFC_CALRES_CHBW_TRIM, .ro, fun _ => true, false⟩] }

def RFC_CALRES_XTAL_reg : RegRow :=
  { base := 0x40010030, count := 1, stride := 4,
    rows := fun _ => [
      ⟨RFC_CALRES_XTAL_ERR_PPB, .ro, fun _ => true, false⟩] }

def RFC_CALRES_DCIQ_reg : RegRow :=
  { base := 0x40010034, count := 1, stride := 4,
    rows := fun _ => [
      ⟨RFC_CALRES_DCIQ_DC_I, .ro, fun _ => true, false⟩,
      ⟨RFC_CALRES_DCIQ_DC_Q, .ro, fun _ => true, false⟩,
      ⟨RFC_CALRES_DCIQ_IQ_GAIN, .ro, fun _ => true, false⟩,
      ⟨RFC_CALRES_DCIQ_IQ_PHASE, .ro, fun _ => true, false⟩] }

def RFC_TEMP_reg : RegRow :=
  { base := 0x40010038, count := 1, stride := 4,
    rows := fun _ => [
      ⟨RFC_TEMP_TEMP, .ro, fun _ => true, false⟩,
      ⟨RFC_TEMP_TEMP_CAL_T, .ro, fun _ => true, false⟩] }

def RFC_GAIN_A_reg : RegRow :=
  { base := 0x4001003C, count := 1, stride := 4,
    rows := fun _ => [
      ⟨RFC_GAIN_A_AGC_AUTO, .rw, fun _ => true, false⟩,
      ⟨RFC_GAIN_A_GAIN, .rw, fun _ => true, false⟩,
      ⟨RFC_GAIN_A_SAT_COUNT, .ro, fun _ => true, false⟩] }

def RFC_GAIN_B_reg : RegRow :=
  { base := 0x40010040, count := 1, stride := 4,
    rows := fun _ => [
      { field := RFC_GAIN_B_AGC_AUTO, access := .rw, halfB := true },
      { field := RFC_GAIN_B_GAIN, access := .rw, halfB := true },
      ⟨RFC_GAIN_B_SAT_COUNT, .ro, fun _ => true, false⟩] }

def RFC_EXTCTL_reg : RegRow :=
  { base := 0x40010044, count := 1, stride := 4,
    rows := fun _ => [
      ⟨RFC_EXTCTL_PA_EN_EN, .rwl, fun _ => true, false⟩,
      ⟨RFC_EXTCTL_PA_POL, .rwl, fun _ => true, false⟩,
      ⟨RFC_EXTCTL_LNA_A_EN, .rwl, fun _ => true, false⟩,
      ⟨RFC_EXTCTL_LNA_A_POL, .rwl, fun _ => true, false⟩,
      { field := RFC_EXTCTL_LNA_B_EN, access := .rwl, halfB := true },
      { field := RFC_EXTCTL_LNA_B_POL, access := .rwl, halfB := true },
      ⟨RFC_EXTCTL_TR_EN, .rwl, fun _ => true, false⟩,
      ⟨RFC_EXTCTL_TR_POL, .rwl, fun _ => true, false⟩,
      ⟨RFC_EXTCTL_EXT_LNA_GAIN, .rwl, fun _ => true, false⟩] }

def RFC_REGSTAT_reg : RegRow :=
  { base := 0x40010048, count := 1, stride := 4,
    rows := fun _ => [
      ⟨RFC_REGSTAT_REGLOCK, .ro, fun _ => true, false⟩,
      ⟨RFC_REGSTAT_PROFILE_VALID, .ro, fun _ => true, false⟩,
      ⟨RFC_REGSTAT_LAST_REASON, .ro, fun _ => true, false⟩,
      ⟨RFC_REGSTAT_SUPPLY, .ro, fun _ => true, false⟩,
      ⟨RFC_REGSTAT_LAST_BAND, .ro, fun _ => true, false⟩,
      ⟨RFC_REGSTAT_NO_BAND, .ro, fun _ => true, false⟩,
      ⟨RFC_REGSTAT_REFUSALS, .ro, fun _ => true, false⟩] }

def RFC_DUTYSEL_reg : RegRow :=
  { base := 0x4001004C, count := 1, stride := 4,
    rows := fun _ => [
      ⟨RFC_DUTYSEL_GROUP, .rw, fun _ => true, false⟩] }

def RFC_DUTYUSE_reg : RegRow :=
  { base := 0x40010050, count := 1, stride := 4,
    rows := fun _ => [
      ⟨RFC_DUTYUSE_USED, .ro, fun _ => true, false⟩,
      ⟨RFC_DUTYUSE_PRECHARGED, .ro, fun _ => true, false⟩] }

def RFC_BLANK_A0_reg : RegRow :=
  { base := 0x40010054, count := 1, stride := 4,
    rows := fun _ => [
      ⟨RFC_BLANK_A0_LANES, .ro, fun _ => true, false⟩] }

def RFC_BLANK_A1_reg : RegRow :=
  { base := 0x40010058, count := 1, stride := 4,
    rows := fun _ => [
      ⟨RFC_BLANK_A1_LANES, .ro, fun _ => true, false⟩] }

def RFC_BLANK_B0_reg : RegRow :=
  { base := 0x4001005C, count := 1, stride := 4,
    rows := fun _ => [
      ⟨RFC_BLANK_B0_LANES, .ro, fun _ => true, false⟩] }

def RFC_BLANK_B1_reg : RegRow :=
  { base := 0x40010060, count := 1, stride := 4,
    rows := fun _ => [
      ⟨RFC_BLANK_B1_LANES, .ro, fun _ => true, false⟩] }

def RFC_TESTCMD_reg : RegRow :=
  { base := 0x40010064, count := 1, stride := 4,
    rows := fun _ => [
      ⟨RFC_TESTCMD_OP, .wo, fun _ => true, false⟩] }

def RFC_TESTDUR_reg : RegRow :=
  { base := 0x40010068, count := 1, stride := 4,
    rows := fun _ => [
      { field := RFC_TESTDUR_DURATION, access := .rw, legal := fun v => within 1 3600000 v }] }

def RFC_LOCK_reg : RegRow :=
  { base := 0x4001006C, count := 1, stride := 4,
    rows := fun _ => [
      ⟨RFC_LOCK_LOCK, .w1s, fun _ => true, false⟩] }

def RFC_TESTRX_reg : RegRow :=
  { base := 0x40010070, count := 1, stride := 4,
    rows := fun _ => [
      { field := RFC_TESTRX_HALF, access := .rw, halfB := true },
      ⟨RFC_TESTRX_PROFILE, .rw, fun _ => true, false⟩,
      ⟨RFC_TESTRX_CHANNEL, .rw, fun _ => true, false⟩] }

/-- Every register of the RFC block, by address. -/
def rfcRegs : List RegRow :=
  [RFC_CTRL_reg, RFC_STATE_reg, RFC_CMD_reg, RFC_FREQ_A_reg, RFC_FREQ_B_reg, RFC_FREQ_T_reg, RFC_CALCFG_reg, RFC_CALCMD_reg, RFC_CALSTAT_reg, RFC_CALRES_VCO_reg, RFC_CALRES_IMR_reg, RFC_CALRES_CHBW_reg, RFC_CALRES_XTAL_reg, RFC_CALRES_DCIQ_reg, RFC_TEMP_reg, RFC_GAIN_A_reg, RFC_GAIN_B_reg, RFC_EXTCTL_reg, RFC_REGSTAT_reg, RFC_DUTYSEL_reg, RFC_DUTYUSE_reg, RFC_BLANK_A0_reg, RFC_BLANK_A1_reg, RFC_BLANK_B0_reg] ++
  [RFC_BLANK_B1_reg, RFC_TESTCMD_reg, RFC_TESTDUR_reg, RFC_LOCK_reg, RFC_TESTRX_reg]

end Sys2Proof.Machine
end

