-- ==== Sys2Proof/Machine/RegSle.lean ====
section
/-! DEFINITION. The register fields of the SLE block (base 0x40040000), from the block map and field tables of
spec/05_slot_engine.md: address, lowest bit, width and reset value of each field, then each register's row of fields with
their access codes (R6) and the values a field accepts. -/
namespace Sys2Proof.Machine

def SLE_CMD_CMD : RegField := ⟨0x40040000, 0, 4, 0⟩
def SLE_STATUS_RUNNING : RegField := ⟨0x40040004, 0, 1, 0⟩
def SLE_STATUS_ACTIVE_BUF : RegField := ⟨0x40040004, 1, 1, 0⟩
def SLE_STATUS_STANDBY : RegField := ⟨0x40040004, 2, 3, 0⟩
def SLE_STATUS_STOP_PEND : RegField := ⟨0x40040004, 5, 1, 0⟩
def SLE_STATUS_WR_REJ : RegField := ⟨0x40040004, 6, 1, 0⟩
def SLE_STATUS_CMD_REJ : RegField := ⟨0x40040004, 7, 1, 0⟩
def SLE_LOADCHK_RESULT : RegField := ⟨0x40040008, 0, 8, 0⟩
def SLE_LOADCHK_STAGE : RegField := ⟨0x40040008, 8, 4, 0⟩
def SLE_LOADCHK_DETAIL : RegField := ⟨0x40040008, 12, 20, 0⟩
def SLE_SWAPASN_L_SWAP_ASN_L : RegField := ⟨0x4004000C, 0, 32, 0⟩
def SLE_SWAPASN_H_SWAP_ASN_H : RegField := ⟨0x40040010, 0, 8, 0⟩
def SLE_NEWASN_L_NEW_ASN_L : RegField := ⟨0x40040014, 0, 32, 0⟩
def SLE_NEWASN_H_NEW_ASN_H : RegField := ⟨0x40040018, 0, 8, 0⟩
def SLE_ASN_L_ASN_L : RegField := ⟨0x4004001C, 0, 32, 0⟩
def SLE_ASN_H_ASN_H : RegField := ⟨0x40040020, 0, 8, 0⟩
def SLE_SLOTTICK_TICK : RegField := ⟨0x40040024, 0, 23, 0⟩
def SLE_TNET_L_TNET_L : RegField := ⟨0x40040028, 0, 32, 0⟩
def SLE_TNET_H_TNET_H : RegField := ⟨0x4004002C, 0, 32, 0⟩
def SLE_IMGPAGE_PAGE : RegField := ⟨0x40040030, 0, 2, 0⟩
def SLE_TWINSTAT_COUNT : RegField := ⟨0x40040034, 0, 8, 0⟩
def SLE_TWINSTAT_LAST_STAGE : RegField := ⟨0x40040034, 8, 4, 0⟩
def SLE_TWINSTAT_LAST_ASN : RegField := ⟨0x40040034, 16, 16, 0⟩
def SLE_TWINTEST_STAGE : RegField := ⟨0x40040038, 0, 4, 0⟩
def SLE_TWINTEST_BIT : RegField := ⟨0x40040038, 4, 5, 0⟩
def SLE_TWINTEST_SEQ : RegField := ⟨0x40040038, 9, 1, 0⟩
def SLE_DROPA_ASN_L : RegField := ⟨0x4004003C, 0, 32, 0⟩
def SLE_DROPB_ASN_H : RegField := ⟨0x40040040, 0, 8, 0⟩
def SLE_DROPB_STAGE : RegField := ⟨0x40040040, 8, 4, 0⟩
def SLE_DROPB_BOUNDARY : RegField := ⟨0x40040040, 12, 1, 0⟩
def SLE_DROPB_TWIN : RegField := ⟨0x40040040, 13, 1, 0⟩
def SLE_DROPB_DIR : RegField := ⟨0x40040040, 14, 1, 0⟩
def SLE_DROPB_NOCTX : RegField := ⟨0x40040040, 15, 1, 0⟩
def SLE_DROPB_CONTEXT : RegField := ⟨0x40040040, 16, 10, 0⟩
def SLE_DROPC_WHERE : RegField := ⟨0x40040044, 0, 7, 0⟩
def SLE_DROPC_LENGTH : RegField := ⟨0x40040044, 16, 11, 0⟩
def SLE_DROPPOP_POP : RegField := ⟨0x40040048, 0, 1, 0⟩
def SLE_DROPSTAT_LEVEL : RegField := ⟨0x4004004C, 0, 5, 0⟩
def SLE_DROPSTAT_LOST : RegField := ⟨0x4004004C, 8, 8, 0⟩
def SLE_PROGINFO_U_RX : RegField := ⟨0x40040050, 0, 16, 0⟩
def SLE_PROGINFO_U_TX : RegField := ⟨0x40040050, 16, 3, 0⟩
def SLE_PROGINFO_CIPHER : RegField := ⟨0x40040050, 20, 5, 0⟩
def SLE_ACKMISS_COUNT : RegField := ⟨0x40040054, 0, 32, 0⟩
def SLE_SDONE_DONE (i : Nat) : RegField := ⟨0x40040100 + 0x10 * (i % 16), 0, 32, 0⟩
def SLE_SLATE_LATE (i : Nat) : RegField := ⟨0x40040104 + 0x10 * (i % 16), 0, 32, 0⟩
def SLE_STWIN_TWIN (i : Nat) : RegField := ⟨0x40040108 + 0x10 * (i % 16), 0, 32, 0⟩
def SLE_SPEAK_PEAK_CHARGE (i : Nat) : RegField := ⟨0x4004010C + 0x10 * (i % 16), 0, 16, 0⟩
def SLE_SPEAK_PEAK_UNITS (i : Nat) : RegField := ⟨0x4004010C + 0x10 * (i % 16), 16, 16, 0⟩

def SLE_CMD_reg : RegRow :=
  { base := 0x40040000, count := 1, stride := 4,
    rows := fun _ => [
      ⟨SLE_CMD_CMD, .wo, fun _ => true, false⟩] }

def SLE_STATUS_reg : RegRow :=
  { base := 0x40040004, count := 1, stride := 4,
    rows := fun _ => [
      ⟨SLE_STATUS_RUNNING, .ro, fun _ => true, false⟩,
      ⟨SLE_STATUS_ACTIVE_BUF, .ro, fun _ => true, false⟩,
      ⟨SLE_STATUS_STANDBY, .ro, fun _ => true, false⟩,
      ⟨SLE_STATUS_STOP_PEND, .ro, fun _ => true, false⟩,
      ⟨SLE_STATUS_WR_REJ, .ro, fun _ => true, false⟩,
      ⟨SLE_STATUS_CMD_REJ, .ro, fun _ => true, false⟩] }

def SLE_LOADCHK_reg : RegRow :=
  { base := 0x40040008, count := 1, stride := 4,
    rows := fun _ => [
      ⟨SLE_LOADCHK_RESULT, .ro, fun _ => true, false⟩,
      ⟨SLE_LOADCHK_STAGE, .ro, fun _ => true, false⟩,
      ⟨SLE_LOADCHK_DETAIL, .ro, fun _ => true, false⟩] }

def SLE_SWAPASN_L_reg : RegRow :=
  { base := 0x4004000C, count := 1, stride := 4,
    rows := fun _ => [
      ⟨SLE_SWAPASN_L_SWAP_ASN_L, .rw, fun _ => true, false⟩] }

def SLE_SWAPASN_H_reg : RegRow :=
  { base := 0x40040010, count := 1, stride := 4,
    rows := fun _ => [
      ⟨SLE_SWAPASN_H_SWAP_ASN_H, .rw, fun _ => true, false⟩] }

def SLE_NEWASN_L_reg : RegRow :=
  { base := 0x40040014, count := 1, stride := 4,
    rows := fun _ => [
      ⟨SLE_NEWASN_L_NEW_ASN_L, .rw, fun _ => true, false⟩] }

def SLE_NEWASN_H_reg : RegRow :=
  { base := 0x40040018, count := 1, stride := 4,
    rows := fun _ => [
      ⟨SLE_NEWASN_H_NEW_ASN_H, .rw, fun _ => true, false⟩] }

def SLE_ASN_L_reg : RegRow :=
  { base := 0x4004001C, count := 1, stride := 4,
    rows := fun _ => [
      ⟨SLE_ASN_L_ASN_L, .ro, fun _ => true, false⟩] }

def SLE_ASN_H_reg : RegRow :=
  { base := 0x40040020, count := 1, stride := 4,
    rows := fun _ => [
      ⟨SLE_ASN_H_ASN_H, .ro, fun _ => true, false⟩] }

def SLE_SLOTTICK_reg : RegRow :=
  { base := 0x40040024, count := 1, stride := 4,
    rows := fun _ => [
      ⟨SLE_SLOTTICK_TICK, .ro, fun _ => true, false⟩] }

def SLE_TNET_L_reg : RegRow :=
  { base := 0x40040028, count := 1, stride := 4,
    rows := fun _ => [
      ⟨SLE_TNET_L_TNET_L, .ro, fun _ => true, false⟩] }

def SLE_TNET_H_reg : RegRow :=
  { base := 0x4004002C, count := 1, stride := 4,
    rows := fun _ => [
      ⟨SLE_TNET_H_TNET_H, .ro, fun _ => true, false⟩] }

def SLE_IMGPAGE_reg : RegRow :=
  { base := 0x40040030, count := 1, stride := 4,
    rows := fun _ => [
      { field := SLE_IMGPAGE_PAGE, access := .rw, legal := fun v => v != 3 }] }

def SLE_TWINSTAT_reg : RegRow :=
  { base := 0x40040034, count := 1, stride := 4,
    rows := fun _ => [
      ⟨SLE_TWINSTAT_COUNT, .ro, fun _ => true, false⟩,
      ⟨SLE_TWINSTAT_LAST_STAGE, .ro, fun _ => true, false⟩,
      ⟨SLE_TWINSTAT_LAST_ASN, .ro, fun _ => true, false⟩] }

def SLE_TWINTEST_reg : RegRow :=
  { base := 0x40040038, count := 1, stride := 4,
    rows := fun _ => [
      ⟨SLE_TWINTEST_STAGE, .wo, fun _ => true, false⟩,
      ⟨SLE_TWINTEST_BIT, .wo, fun _ => true, false⟩,
      ⟨SLE_TWINTEST_SEQ, .wo, fun _ => true, false⟩] }

def SLE_DROPA_reg : RegRow :=
  { base := 0x4004003C, count := 1, stride := 4,
    rows := fun _ => [
      ⟨SLE_DROPA_ASN_L, .ro, fun _ => true, false⟩] }

def SLE_DROPB_reg : RegRow :=
  { base := 0x40040040, count := 1, stride := 4,
    rows := fun _ => [
      ⟨SLE_DROPB_ASN_H, .ro, fun _ => true, false⟩,
      ⟨SLE_DROPB_STAGE, .ro, fun _ => true, false⟩,
      ⟨SLE_DROPB_BOUNDARY, .ro, fun _ => true, false⟩,
      ⟨SLE_DROPB_TWIN, .ro, fun _ => true, false⟩,
      ⟨SLE_DROPB_DIR, .ro, fun _ => true, false⟩,
      ⟨SLE_DROPB_NOCTX, .ro, fun _ => true, false⟩,
      ⟨SLE_DROPB_CONTEXT, .ro, fun _ => true, false⟩] }

def SLE_DROPC_reg : RegRow :=
  { base := 0x40040044, count := 1, stride := 4,
    rows := fun _ => [
      ⟨SLE_DROPC_WHERE, .ro, fun _ => true, false⟩,
      ⟨SLE_DROPC_LENGTH, .ro, fun _ => true, false⟩] }

def SLE_DROPPOP_reg : RegRow :=
  { base := 0x40040048, count := 1, stride := 4,
    rows := fun _ => [
      ⟨SLE_DROPPOP_POP, .wo, fun _ => true, false⟩] }

def SLE_DROPSTAT_reg : RegRow :=
  { base := 0x4004004C, count := 1, stride := 4,
    rows := fun _ => [
      ⟨SLE_DROPSTAT_LEVEL, .ro, fun _ => true, false⟩,
      ⟨SLE_DROPSTAT_LOST, .ro, fun _ => true, false⟩] }

def SLE_PROGINFO_reg : RegRow :=
  { base := 0x40040050, count := 1, stride := 4,
    rows := fun _ => [
      ⟨SLE_PROGINFO_U_RX, .ro, fun _ => true, false⟩,
      ⟨SLE_PROGINFO_U_TX, .ro, fun _ => true, false⟩,
      ⟨SLE_PROGINFO_CIPHER, .ro, fun _ => true, false⟩] }

def SLE_ACKMISS_reg : RegRow :=
  { base := 0x40040054, count := 1, stride := 4,
    rows := fun _ => [
      ⟨SLE_ACKMISS_COUNT, .ro, fun _ => true, false⟩] }

def SLE_SDONE_reg : RegRow :=
  { base := 0x40040100, count := 16, stride := 16,
    rows := fun i => [
      ⟨SLE_SDONE_DONE i, .ro, fun _ => true, false⟩] }

def SLE_SLATE_reg : RegRow :=
  { base := 0x40040104, count := 16, stride := 16,
    rows := fun i => [
      ⟨SLE_SLATE_LATE i, .ro, fun _ => true, false⟩] }

def SLE_STWIN_reg : RegRow :=
  { base := 0x40040108, count := 16, stride := 16,
    rows := fun i => [
      ⟨SLE_STWIN_TWIN i, .ro, fun _ => true, false⟩] }

def SLE_SPEAK_reg : RegRow :=
  { base := 0x4004010C, count := 16, stride := 16,
    rows := fun i => [
      ⟨SLE_SPEAK_PEAK_CHARGE i, .ro, fun _ => true, false⟩,
      ⟨SLE_SPEAK_PEAK_UNITS i, .ro, fun _ => true, false⟩] }

/-- Every register of the SLE block, by address. -/
def sleRegs : List RegRow :=
  [SLE_CMD_reg, SLE_STATUS_reg, SLE_LOADCHK_reg, SLE_SWAPASN_L_reg, SLE_SWAPASN_H_reg, SLE_NEWASN_L_reg, SLE_NEWASN_H_reg, SLE_ASN_L_reg, SLE_ASN_H_reg, SLE_SLOTTICK_reg, SLE_TNET_L_reg, SLE_TNET_H_reg, SLE_IMGPAGE_reg, SLE_TWINSTAT_reg, SLE_TWINTEST_reg, SLE_DROPA_reg, SLE_DROPB_reg, SLE_DROPC_reg, SLE_DROPPOP_reg, SLE_DROPSTAT_reg, SLE_PROGINFO_reg, SLE_ACKMISS_reg, SLE_SDONE_reg, SLE_SLATE_reg] ++
  [SLE_STWIN_reg, SLE_SPEAK_reg]

end Sys2Proof.Machine
end

