-- ==== Sys2Proof/Machine/RegTag.lean ====
section
/-! DEFINITION. The register fields of the TAG block (base 0x40100000), from the block map and field tables of
spec/17_contactless_tag.md: address, lowest bit, width and reset value of each field, then each register's row of fields with
their access codes (R6) and the values a field accepts. -/
namespace Sys2Proof.Machine

def TAG_CTRL_FIELD_PRIORITY : RegField := ⟨0x40100000, 0, 1, 0⟩
def TAG_CTRL_WAKE_EN : RegField := ⟨0x40100000, 1, 1, 1⟩
def TAG_STATUS_READY : RegField := ⟨0x40100004, 0, 1, 0⟩
def TAG_STATUS_FIELD : RegField := ⟨0x40100004, 1, 1, 0⟩
def TAG_STATUS_FIELD_OK : RegField := ⟨0x40100004, 2, 1, 0⟩
def TAG_STATUS_SEM : RegField := ⟨0x40100004, 3, 2, 0⟩
def TAG_STATUS_OWNER : RegField := ⟨0x40100004, 5, 1, 0⟩
def TAG_STATUS_RECOVERED : RegField := ⟨0x40100004, 6, 1, 0⟩
def TAG_STATUS_VREC : RegField := ⟨0x40100004, 8, 8, 0⟩
def TAG_WCMD_BLOCK : RegField := ⟨0x40100008, 0, 11, 0⟩
def TAG_WCMD_START : RegField := ⟨0x40100008, 16, 1, 0⟩
def TAG_WDATA_DATA : RegField := ⟨0x4010000C, 0, 32, 0⟩
def TAG_WSTAT_RUN : RegField := ⟨0x40100010, 0, 1, 0⟩
def TAG_WSTAT_STATUS : RegField := ⟨0x40100010, 1, 3, 0⟩
def TAG_WSTAT_COUNT : RegField := ⟨0x40100010, 16, 16, 0⟩
def TAG_ACMD_AREA : RegField := ⟨0x40100014, 0, 3, 0⟩
def TAG_ACMD_CMD : RegField := ⟨0x40100014, 4, 2, 0⟩
def TAG_AREASTAT_LOCKOUT : RegField := ⟨0x40100018, 0, 8, 0⟩
def TAG_AREASTAT_RP : RegField := ⟨0x40100018, 8, 8, 0⟩
def TAG_AREASTAT_WP : RegField := ⟨0x40100018, 16, 8, 0⟩
def TAG_LOCK_LOCK : RegField := ⟨0x4010001C, 0, 1, 0⟩

def TAG_CTRL_reg : RegRow :=
  { base := 0x40100000, count := 1, stride := 4,
    rows := fun _ => [
      ⟨TAG_CTRL_FIELD_PRIORITY, .rwl, fun _ => true, false⟩,
      ⟨TAG_CTRL_WAKE_EN, .rwl, fun _ => true, false⟩] }

def TAG_STATUS_reg : RegRow :=
  { base := 0x40100004, count := 1, stride := 4,
    rows := fun _ => [
      ⟨TAG_STATUS_READY, .ro, fun _ => true, false⟩,
      ⟨TAG_STATUS_FIELD, .ro, fun _ => true, false⟩,
      ⟨TAG_STATUS_FIELD_OK, .ro, fun _ => true, false⟩,
      ⟨TAG_STATUS_SEM, .ro, fun _ => true, false⟩,
      ⟨TAG_STATUS_OWNER, .ro, fun _ => true, false⟩,
      ⟨TAG_STATUS_RECOVERED, .w1c, fun _ => true, false⟩,
      ⟨TAG_STATUS_VREC, .ro, fun _ => true, false⟩] }

def TAG_WCMD_reg : RegRow :=
  { base := 0x40100008, count := 1, stride := 4,
    rows := fun _ => [
      ⟨TAG_WCMD_BLOCK, .wo, fun _ => true, false⟩,
      ⟨TAG_WCMD_START, .wo, fun _ => true, false⟩] }

def TAG_WDATA_reg : RegRow :=
  { base := 0x4010000C, count := 1, stride := 4,
    rows := fun _ => [
      ⟨TAG_WDATA_DATA, .rw, fun _ => true, false⟩] }

def TAG_WSTAT_reg : RegRow :=
  { base := 0x40100010, count := 1, stride := 4,
    rows := fun _ => [
      ⟨TAG_WSTAT_RUN, .ro, fun _ => true, false⟩,
      ⟨TAG_WSTAT_STATUS, .ro, fun _ => true, false⟩,
      ⟨TAG_WSTAT_COUNT, .ro, fun _ => true, false⟩] }

def TAG_ACMD_reg : RegRow :=
  { base := 0x40100014, count := 1, stride := 4,
    rows := fun _ => [
      ⟨TAG_ACMD_AREA, .wo, fun _ => true, false⟩,
      ⟨TAG_ACMD_CMD, .wo, fun _ => true, false⟩] }

def TAG_AREASTAT_reg : RegRow :=
  { base := 0x40100018, count := 1, stride := 4,
    rows := fun _ => [
      ⟨TAG_AREASTAT_LOCKOUT, .ro, fun _ => true, false⟩,
      ⟨TAG_AREASTAT_RP, .ro, fun _ => true, false⟩,
      ⟨TAG_AREASTAT_WP, .ro, fun _ => true, false⟩] }

def TAG_LOCK_reg : RegRow :=
  { base := 0x4010001C, count := 1, stride := 4,
    rows := fun _ => [
      ⟨TAG_LOCK_LOCK, .w1s, fun _ => true, false⟩] }

/-- Every register of the TAG block, by address. -/
def tagRegs : List RegRow :=
  [TAG_CTRL_reg, TAG_STATUS_reg, TAG_WCMD_reg, TAG_WDATA_reg, TAG_WSTAT_reg, TAG_ACMD_reg, TAG_AREASTAT_reg, TAG_LOCK_reg]

end Sys2Proof.Machine
end

