-- ==== Sys2Proof/Machine/RegTxp.lean ====
section
/-! DEFINITION. The register fields of the TXP block (base 0x40030000), from the block map and field tables of
spec/04_transmit_path.md: address, lowest bit, width and reset value of each field, then each register's row of fields with
their access codes (R6) and the values a field accepts. -/
namespace Sys2Proof.Machine

def TXP_CTRL_MASK_EN : RegField := ⟨0x40030000, 0, 1, 0⟩
def TXP_CTRL_PRECOR_EN : RegField := ⟨0x40030000, 1, 1, 1⟩
def TXP_CTRL_TEST_PROF : RegField := ⟨0x40030000, 2, 2, 0⟩
def TXP_CTRL_FIR_DELAY : RegField := ⟨0x40030000, 4, 5, 0⟩
def TXP_STATUS_TABLE_ERR : RegField := ⟨0x40030004, 0, 1, 0⟩
def TXP_STATUS_PROF_ERR : RegField := ⟨0x40030004, 1, 1, 0⟩
def TXP_STATUS_RAMP_ERR : RegField := ⟨0x40030004, 2, 1, 0⟩
def TXP_STATUS_LAST_MASK : RegField := ⟨0x40030004, 3, 1, 0⟩
def TXP_STATUS_LAST_CLAMP : RegField := ⟨0x40030004, 4, 1, 0⟩
def TXP_STATUS_ABORTS : RegField := ⟨0x40030004, 8, 8, 0⟩
def TXP_STATUS_TXCOUNT : RegField := ⟨0x40030004, 16, 16, 0⟩
def TXP_POWER_POWER : RegField := ⟨0x40030008, 0, 8, 0⟩
def TXP_RAMP_RUP : RegField := ⟨0x4003000C, 0, 8, 80⟩
def TXP_RAMP_RDOWN : RegField := ⟨0x4003000C, 8, 8, 80⟩
def TXP_RAMP_SHAPE : RegField := ⟨0x4003000C, 16, 2, 0⟩
def TXP_PATIME_PA_LEAD : RegField := ⟨0x40030010, 0, 11, 100⟩
def TXP_PATIME_PA_LAG : RegField := ⟨0x40030010, 16, 8, 50⟩
def TXP_PRECOR_PRECOR_MAX : RegField := ⟨0x40030014, 0, 13, 2000⟩
def TXP_PROF_MOD (i : Nat) : RegField := ⟨0x40030020 + 0x4 * (i % 4), 0, 1, 0⟩
def TXP_PROF_RATE (i : Nat) : RegField := ⟨0x40030020 + 0x4 * (i % 4), 1, 3, 0⟩
def TXP_PROF_BT (i : Nat) : RegField := ⟨0x40030020 + 0x4 * (i % 4), 4, 1, 0⟩
def TXP_PROF_HIDX (i : Nat) : RegField := ⟨0x40030020 + 0x4 * (i % 4), 5, 8, 64⟩
def TXP_PROF_REP (i : Nat) : RegField := ⟨0x40030020 + 0x4 * (i % 4), 13, 2, 0⟩
def TXP_PROF_SFDG (i : Nat) : RegField := ⟨0x40030020 + 0x4 * (i % 4), 15, 1, 0⟩
def TXP_PROF_FEC (i : Nat) : RegField := ⟨0x40030020 + 0x4 * (i % 4), 16, 2, 0⟩
def TXP_PROF_ILV (i : Nat) : RegField := ⟨0x40030020 + 0x4 * (i % 4), 18, 1, 0⟩
def TXP_PROF_DW (i : Nat) : RegField := ⟨0x40030020 + 0x4 * (i % 4), 19, 1, 1⟩
def TXP_PROF_FCS_T (i : Nat) : RegField := ⟨0x40030020 + 0x4 * (i % 4), 20, 1, 0⟩
def TXP_PROF_LEGACY (i : Nat) : RegField := ⟨0x40030020 + 0x4 * (i % 4), 21, 1, 0⟩
def TXP_PROF_FIR_EN (i : Nat) : RegField := ⟨0x40030020 + 0x4 * (i % 4), 22, 1, 0⟩
def TXP_PROF_PREAMBLE (i : Nat) : RegField := ⟨0x40030020 + 0x4 * (i % 4), 23, 9, 8⟩
def TXP_RTAB_ENTRY0 (i : Nat) : RegField := ⟨0x40030030 + 0x4 * (i % 4), 0, 8, ([0x10, 0x50, 0x8F, 0xCF].getD i 0)⟩
def TXP_RTAB_ENTRY1 (i : Nat) : RegField := ⟨0x40030030 + 0x4 * (i % 4), 8, 8, ([0x20, 0x60, 0x9F, 0xDF].getD i 0)⟩
def TXP_RTAB_ENTRY2 (i : Nat) : RegField := ⟨0x40030030 + 0x4 * (i % 4), 16, 8, ([0x30, 0x70, 0xAF, 0xEF].getD i 0)⟩
def TXP_RTAB_ENTRY3 (i : Nat) : RegField := ⟨0x40030030 + 0x4 * (i % 4), 24, 8, ([0x40, 0x80, 0xBF, 0xFF].getD i 0)⟩
def TXP_FIR_TAP_LO (i : Nat) : RegField := ⟨0x40030040 + 0x4 * (i % 16), 0, 16, (if i = 0 then 0x4000 else 0)⟩
def TXP_FIR_TAP_HI (i : Nat) : RegField := ⟨0x40030040 + 0x4 * (i % 16), 16, 16, 0⟩
def TXP_MASK_OFFSET (i : Nat) : RegField := ⟨0x40030080 + 0x4 * (i % 16), 0, 16, 0⟩
def TXP_MASK_LIMIT (i : Nat) : RegField := ⟨0x40030080 + 0x4 * (i % 16), 16, 8, 0⟩
def TXP_MASK_VALID (i : Nat) : RegField := ⟨0x40030080 + 0x4 * (i % 16), 31, 1, 0⟩
def TXP_LOCK_LOCK : RegField := ⟨0x400300C0, 0, 1, 0⟩

def TXP_CTRL_reg : RegRow :=
  { base := 0x40030000, count := 1, stride := 4,
    rows := fun _ => [
      ⟨TXP_CTRL_MASK_EN, .rwl, fun _ => true, false⟩,
      ⟨TXP_CTRL_PRECOR_EN, .rw, fun _ => true, false⟩,
      ⟨TXP_CTRL_TEST_PROF, .rw, fun _ => true, false⟩,
      ⟨TXP_CTRL_FIR_DELAY, .rw, fun _ => true, false⟩] }

def TXP_STATUS_reg : RegRow :=
  { base := 0x40030004, count := 1, stride := 4,
    rows := fun _ => [
      ⟨TXP_STATUS_TABLE_ERR, .ro, fun _ => true, false⟩,
      ⟨TXP_STATUS_PROF_ERR, .ro, fun _ => true, false⟩,
      ⟨TXP_STATUS_RAMP_ERR, .ro, fun _ => true, false⟩,
      ⟨TXP_STATUS_LAST_MASK, .ro, fun _ => true, false⟩,
      ⟨TXP_STATUS_LAST_CLAMP, .ro, fun _ => true, false⟩,
      ⟨TXP_STATUS_ABORTS, .ro, fun _ => true, false⟩,
      ⟨TXP_STATUS_TXCOUNT, .ro, fun _ => true, false⟩] }

def TXP_POWER_reg : RegRow :=
  { base := 0x40030008, count := 1, stride := 4,
    rows := fun _ => [
      { field := TXP_POWER_POWER, access := .rw, legal := fun v => signedIn 8 (-80) 80 v }] }

def TXP_RAMP_reg : RegRow :=
  { base := 0x4003000C, count := 1, stride := 4,
    rows := fun _ => [
      { field := TXP_RAMP_RUP, access := .rw, legal := fun v => within 20 160 v },
      { field := TXP_RAMP_RDOWN, access := .rw, legal := fun v => within 20 160 v },
      { field := TXP_RAMP_SHAPE, access := .rw, legal := fun v => v != 3 }] }

def TXP_PATIME_reg : RegRow :=
  { base := 0x40030010, count := 1, stride := 4,
    rows := fun _ => [
      { field := TXP_PATIME_PA_LEAD, access := .rwl, legal := fun v => v ≤ 1200 },
      { field := TXP_PATIME_PA_LAG, access := .rwl, legal := fun v => v ≤ 200 }] }

def TXP_PRECOR_reg : RegRow :=
  { base := 0x40030014, count := 1, stride := 4,
    rows := fun _ => [
      { field := TXP_PRECOR_PRECOR_MAX, access := .rw, legal := fun v => v ≤ 5000 }] }

def TXP_PROF_reg : RegRow :=
  { base := 0x40030020, count := 4, stride := 4,
    rows := fun i => [
      ⟨TXP_PROF_MOD i, .rw, fun _ => true, false⟩,
      ⟨TXP_PROF_RATE i, .rw, fun _ => true, false⟩,
      ⟨TXP_PROF_BT i, .rw, fun _ => true, false⟩,
      ⟨TXP_PROF_HIDX i, .rw, fun _ => true, false⟩,
      ⟨TXP_PROF_REP i, .rw, fun _ => true, false⟩,
      ⟨TXP_PROF_SFDG i, .rw, fun _ => true, false⟩,
      ⟨TXP_PROF_FEC i, .rw, fun _ => true, false⟩,
      ⟨TXP_PROF_ILV i, .rw, fun _ => true, false⟩,
      ⟨TXP_PROF_DW i, .rw, fun _ => true, false⟩,
      ⟨TXP_PROF_FCS_T i, .rw, fun _ => true, false⟩,
      ⟨TXP_PROF_LEGACY i, .rw, fun _ => true, false⟩,
      ⟨TXP_PROF_FIR_EN i, .rw, fun _ => true, false⟩,
      ⟨TXP_PROF_PREAMBLE i, .rw, fun _ => true, false⟩] }

def TXP_RTAB_reg : RegRow :=
  { base := 0x40030030, count := 4, stride := 4,
    rows := fun i => [
      ⟨TXP_RTAB_ENTRY0 i, .rw, fun _ => true, false⟩,
      ⟨TXP_RTAB_ENTRY1 i, .rw, fun _ => true, false⟩,
      ⟨TXP_RTAB_ENTRY2 i, .rw, fun _ => true, false⟩,
      ⟨TXP_RTAB_ENTRY3 i, .rw, fun _ => true, false⟩] }

def TXP_FIR_reg : RegRow :=
  { base := 0x40030040, count := 16, stride := 4,
    rows := fun i => [
      ⟨TXP_FIR_TAP_LO i, .rw, fun _ => true, false⟩,
      ⟨TXP_FIR_TAP_HI i, .rw, fun _ => true, false⟩] }

def TXP_MASK_reg : RegRow :=
  { base := 0x40030080, count := 16, stride := 4,
    rows := fun i => [
      ⟨TXP_MASK_OFFSET i, .rwl, fun _ => true, false⟩,
      ⟨TXP_MASK_LIMIT i, .rwl, fun _ => true, false⟩,
      ⟨TXP_MASK_VALID i, .rwl, fun _ => true, false⟩] }

def TXP_LOCK_reg : RegRow :=
  { base := 0x400300C0, count := 1, stride := 4,
    rows := fun _ => [
      ⟨TXP_LOCK_LOCK, .w1s, fun _ => true, false⟩] }

/-- Every register of the TXP block, by address. -/
def txpRegs : List RegRow :=
  [TXP_CTRL_reg, TXP_STATUS_reg, TXP_POWER_reg, TXP_RAMP_reg, TXP_PATIME_reg, TXP_PRECOR_reg, TXP_PROF_reg, TXP_RTAB_reg, TXP_FIR_reg, TXP_MASK_reg, TXP_LOCK_reg]

end Sys2Proof.Machine
end

