-- ==== Sys2Proof/Machine/StateSys.lean ====
section
/-! DEFINITION. The fault collector's log and what the power and reset island keeps beside its registers. -/
namespace Sys2Proof.Machine

/-- One entry of the fault log (R330, R331). -/
structure FaultEntry where
  cls : Nat
  src : Nat
  addr : Nat
  detail : Nat
  tnet : Nat
  isOpen : Bool := false
  escalated : Bool := false
  byReset : Bool := false
  scrub : Bool := false
  double : Bool := false
deriving DecidableEq, Repr

/-- The fault collector (R331 to R334): entries oldest first, the OPEN bits of the sources as one number, the open
FATAL reports, and a double fault whose lock-up reset has been requested. -/
structure FaultLog where
  entries : List FaultEntry := []
  openMask : Nat := 0
  fatals : Nat := 0
  doubled : Bool := false
deriving DecidableEq, Repr

/-- The power states of R447. -/
inductive PowerState | run | doze | sleep | deep | standby | off
deriving DecidableEq, Repr

end Sys2Proof.Machine
end

