-- ==== Sys2Proof/Machine/StateBoot.lean ====
section
/-! DEFINITION. The state of boot, update, attestation, Recovery and the PKE block (spec/18_boot_identity_update.md) and of
the power, reset and clock controller and the pins (spec/19_power_reset_clocks.md, spec/20_electrical_package.md) that no
register shows. -/
namespace Sys2Proof.Machine

/-- The update agent (R438). STATE: 0 IDLE, 1 RECEIVING, 2 STAGING, 3 STAGED, 4 TRIAL, 5 REFUSED. -/
structure Update where
  state : Nat := 0
  reason : Nat := 0
  /-- The package bytes received so far. -/
  bytes : List Byte := []
  /-- Bodies staged. -/
  staged : Nat := 0
  /-- Data writes of system firmware are repeated in the inactive bank. -/
  mirror : Bool := false
deriving DecidableEq, Repr

/-- A Recovery session (R440): its holder (none: a reader in the tag field), TOTAL_LEN and the bytes received. -/
structure RecSession where
  holder : Option HostId
  total : Nat
  bytes : List Byte := []
deriving DecidableEq, Repr

structure Boot where
  /-- The reset has been released and the ROM has not yet booted (R466). -/
  due : Bool := true
  /-- The last device reset was of COLD reach (R434). -/
  cold : Bool := true
  /-- System firmware runs on core 0 (R391, R430). -/
  firmware : Bool := false
  /-- A Start mode target that waits for the end of a native unlock under way (R31). -/
  startMode : Option Nat := none
  /-- Object 0x1003.00 has been written: the next boot erases the stored values (R379). -/
  restore : Bool := false
  /-- A request for ROM Recovery is pending (R28). -/
  recoveryReq : Bool := false
  /-- C1_REASON and GL_REASON of object 0xA001.00. -/
  c1Reason : Nat := 0
  glReason : Nat := 0
  /-- The measured SM3 hashes of components 1 to 5; none where absent (R439). -/
  measured : List (Option (List Byte)) := List.replicate 5 none
  upd : Update := {}
  /-- The attestation report of object 0xA011.01. -/
  report : List Byte := []
  session : Option RecSession := none
  /-- The stored values of the persistent objects in the dictionary stores of banks A and B (R369, R427), by
  256 × index + sub-index. -/
  store0 : Sparse (List Byte) := []
  store1 : Sparse (List Byte) := []
deriving DecidableEq, Repr

/-- A PKE operation that runs (R441). -/
structure PkeRun where
  op : Nat
  cont : Bool := false
  fin : Bool := false
  src : Nat := 0
  len : Nat := 0
  opaddr : Nat := 0
deriving DecidableEq, Repr

structure Pke where
  run : Option PkeRun := none
  /-- The message hashed so far by an SM3 that has not finished. -/
  chain : Option (List Byte) := none
deriving DecidableEq, Repr

/-- A watchdog beside its registers (R460): the first half of a kick has been written; milliseconds since the last
completed kick. -/
structure Watchdog where
  half : Bool := false
  since : Option Nat := none
deriving DecidableEq, Repr

/-- The power, reset and clock island beside its registers. -/
structure Power where
  state : PowerState := .run
  /-- Codes of R461 whose reset has been requested and not yet applied. -/
  resetReq : List Nat := []
  /-- Codes of the device reset whose stretch runs; empty outside a reset (R463, R465). -/
  stretch : List Nat := []
  /-- TNET counts (it stands still in reset and in Deep, Standby and Off). -/
  tnetRuns : Bool := true
  /-- The state that a pending entry heads for (R452). -/
  target : PowerState := .run
  /-- The present slot is the one at whose boundary a pending entry to Sleep takes effect (R450). -/
  atBoundary : Bool := false
  /-- T_e of R449. -/
  savedTnet : Nat := 0
  /-- Wake requests of R454 not yet served, by their bit of PRC_WAKESRC, oldest first. -/
  wakes : List Nat := []
  /-- Copies of the wake enables held by the backup domain in Standby (R452). -/
  standbyWake : Nat := 0
  /-- VSUP is present (R447). -/
  supply : Bool := true
  /-- VIO is at 1.60 V or more (R456). -/
  vio : Bool := true
  wdt0 : Watchdog := {}
  wdt1 : Watchdog := {}
deriving DecidableEq, Repr

structure Pins where
  /-- The levels at the 40 pins (R478). -/
  level : Nat := 0
  /-- The pin configurations and outputs that a WARM reset holds at the balls (R464). -/
  held : Option (Sparse Nat) := none
deriving DecidableEq, Repr

end Sys2Proof.Machine
end

