-- ==== Sys2Proof/Machine/StateCore.lean ====
section
/-! DEFINITION. The state of one Sloe core (R270, R288, R289, R308): tagged registers, segment descriptors, accumulators,
system registers, the repeat stack, and whether the core runs. -/
namespace Sys2Proof.Machine

/-- A tagged word (R270). -/
structure TWord where
  tag : Tag := .empty
  data : Word := 0
deriving DecidableEq, Repr

/-- A segment descriptor (R277): BASE, LIMIT and ATTR. -/
structure Desc where
  base : Nat := 0
  limit : Nat := 0
  attr : Nat := 0
deriving DecidableEq, Repr

/-- An entry of the repeat stack (R308): START, END and COUNT, and whether ENDREP has issued. -/
structure RepEntry where
  start : Word
  stop : Word
  count : Nat
  issued : Bool := false
deriving DecidableEq, Repr

/-- What a core does (R284, R293, R298, object 0x8030.01). -/
inductive CoreRun | stopped | running | waiting | lockedUp
deriving DecidableEq, Repr

structure CoreState where
  run : CoreRun := .stopped
  /-- Debug halt (R296). -/
  halted : Bool := false
  g : List TWord := List.replicate 16 {}
  pc : Word := 0
  segs : List Desc := List.replicate 16 {}
  /-- A0 to A3 as 40-bit two's complement integers (R301). -/
  acc : List Int := [0, 0, 0, 0]
  st : Nat := 1
  epc : TWord := {}
  est : Nat := 0
  ecause : Nat := 0
  eaddr : Nat := 0
  vtab : TWord := {}
  cycleH : Word := 0
  scratch : List TWord := [{}, {}]
  /-- Bit n: line n enabled, and pending (R294). -/
  ien : Nat := 0
  ipend : Nat := 0
  /-- Bits 2n+1:2n: priority of line n. -/
  iprio : Nat := 0
  bp : List TWord := List.replicate 4 {}
  wp : List TWord := List.replicate 2 {}
  dctrl : Nat := 0
  dstat : Nat := 0
  /-- The grant windows of core 1 (R289): BASE, LIMIT and ATTR. -/
  gw : List (Nat × Nat × Nat) := List.replicate 8 (0, 0, 0)
  /-- C1_ENTRY (held with core 1's state). -/
  entry : TWord := {}
  /-- C1_CTRL as last written (held with core 1's state). -/
  ctrl : Nat := 0
  /-- Core 1 runs as the checker of core 0 (R299). -/
  checker : Bool := false
  /-- The repeat stack, outermost first. -/
  reps : List RepEntry := []
  /-- The physical address of a buffered store that ended with a bus error not yet reported (R285). -/
  storeErr : Option Nat := none
  /-- Exception and interrupt entries since start, saturating, and the CAUSE of the last (object 0x8030.01). -/
  entries : Nat := 0
  lastCause : Nat := 0
deriving DecidableEq, Repr

/-- Core 0 as a reset leaves it (R271): system mode, S0 the ROM, S1 system SRAM, running from the first ROM word. -/
def CoreState.boot : CoreState :=
  { run := .running,
    segs := [⟨0x00000000, 0x0003FFFF, 0x3B⟩, ⟨0x20000000, 0x001FFFFF, 0x17⟩] ++ List.replicate 14 {} }

end Sys2Proof.Machine
end

