-- ==== Sys2Proof/Machine/StateGnss.lean ====
section
/-! DEFINITION. The state of the GNSS island that no register shows (spec/08_gnss_baseband.md). -/
namespace Sys2Proof.Machine

/-- A tracking channel beside its registers: NCO words in force (R211), the block within its primary code period, the
secondary chip written for the next period (R214), blocks since EN (R222) and the lock monitor's window (R216). -/
structure GnsChan where
  code : Nat := 114420613
  carr : Nat := 718064845
  sub : Nat := 0
  stagedSec : Option Nat := none
  blocks : Nat := 0
  windowSum : Nat := 0
  windowBlocks : Nat := 0
  losses : Nat := 0
deriving DecidableEq, Repr

/-- An auto notch: the frequency (kHz) at which its lock began to count, the milliseconds it has stayed there, and those
for which its interferer has been no candidate (R217). -/
structure Notch where
  holds : Bool := false
  anchor : Int := 0
  steady : Nat := 0
  absent : Nat := 0
deriving DecidableEq, Repr

/-- The time pulse settings in force since the last second mark (R220). -/
structure PulseCfg where
  mode : Nat := 1
  period : Nat := 1000000
  width : Nat := 100000
  offset : Int := 0
deriving DecidableEq, Repr

structure Gnss where
  /-- Acquisition commands, the running one first, and results, oldest first (R208). -/
  acqCmds : List (List Byte) := []
  acqResults : List (List Byte) := []
  chans : Sparse GnsChan := []
  /-- Millisecond of the island clock in which E83 was last raised (R210). -/
  accumMs : Option Nat := none
  notches : List Notch := List.replicate 4 {}
  /-- GTIME (R219): seconds, and the fraction in 76.8 MHz cycles; the phase trim that waits for the next second mark. -/
  gtSec : Nat := 0
  gtCycles : Int := 0
  gtTrim : Option Int := none
  pulse : PulseCfg := {}
  /-- A time pulse is in progress on TP_OUT. -/
  pulseOn : Bool := false
  /-- Steering (R224 to R226): the integrator, consecutive samples within 1 µs, TNET set since reset, and the coarse step
  held for FORCE in ticks. -/
  integ : Int := 0
  goodRun : Nat := 0
  tnetSet : Bool := false
  heldStep : Int := 0
  /-- Last epoch latched (R221) and a TNET step since. -/
  lastEpoch : Option Nat := none
  stepped : Bool := false
  /-- Start class of the last restart: 1 hot, 2 warm, 3 cold, and the navigation data stored for a restart (R227). -/
  startClass : Nat := 0
  stored : List Byte := []
deriving DecidableEq, Repr

end Sys2Proof.Machine
end

