-- ==== Sys2Proof/Machine/StateHost.lean ====
section
/-! DEFINITION. The state of the host ports, the dictionary service, the ownership election and the data plane that no
register shows (spec/15_host_dictionary.md). -/
namespace Sys2Proof.Machine

/-- The dictionary status of an answer (R370). -/
inductive OdpStatus
  | ok | busy | noObject | access | range | length | absent | segment | opcode | persistFail | dataError
  | claimLost | notSuccessor | appTimeout | mode
deriving DecidableEq, Repr

/-- A claim of ownership (R375), and the TID that its answer echoes. -/
structure Claim where
  who : HostId
  prio : Nat
  nonce : Nat
  tid : Nat := 0
deriving DecidableEq, Repr

/-- The ownership states of R375; a handover names the successor and its nonce. -/
inductive Ownership
  | free
  | claiming (candidate : Claim)
  | owned (owner : Claim)
  | handover (owner : Claim) (next : HostId) (nonce : Nat)
deriving DecidableEq, Repr

/-- An open segmented write (R371): the bytes so far, and OFFSET and length of the last segment. -/
structure Staging where
  who : HostId
  key : Nat
  total : Nat
  data : List Byte
  last : Nat × Nat
deriving DecidableEq, Repr

/-- A snapshot buffer in use (R372). -/
structure Snapshot where
  who : HostId
  key : Nat
  data : List Byte
deriving DecidableEq, Repr

/-- A frame under reassembly from a CAN master (R362): the next SEQ and the bytes so far. -/
structure CanPart where
  next : Nat
  bytes : List Byte
deriving DecidableEq, Repr

/-- A request for an application object that waits for core 1 (R365): its master and its frame. -/
structure AppRequest where
  who : HostId
  tid : Nat
  opc : Nat
  frame : List Byte
deriving DecidableEq, Repr

structure HostPorts where
  /-- Answer of the last object access or request. -/
  result : OdpStatus := .ok
  /-- What the last register read returned. -/
  readData : Nat := 0
  /-- The bytes that the last transaction or request put on its port's output. -/
  output : List Byte := []
  /-- Frames that the last command sent on a port that has no stream, with their receivers. -/
  sent : List (HostId × List Byte) := []
  owner : Ownership := .free
  /-- SE cycle of the ingress of the owner's last claim or keep-alive. -/
  alive : Nat := 0
  stagings : List Staging := []
  snapshots : List Snapshot := []
  /-- BUSY answers since reset, saturating (object 0x8020.00). -/
  busy : Nat := 0
  /-- Ten consecutive windows of low utilisation are counted here (R374). -/
  quiet : Nat := 0
  /-- Input and output streams of the SPI channels (R361): dictionary and data plane. -/
  dictIn : List Byte := []
  dictOut : List Byte := []
  planeIn : List Byte := []
  planeOut : List Byte := []
  lastDiscard : Bool := false
  can : Sparse CanPart := []
  /-- Requests for application objects; the first is with core 1 once `asked`. -/
  apps : List AppRequest := []
  asked : Bool := false
  /-- Replies to mesh requests that wait for the mailbox: context and frame. -/
  replies : List (Nat × List Byte) := []
  /-- Sequence number of the next plane frame (R378). -/
  planeSeq : Nat := 0
  /-- Plane descriptors in use and their submitters (R377). -/
  submits : Sparse (Option HostId) := []
  /-- The plane sink had no room and E118 was raised (R376). -/
  stalled : Bool := false
deriving DecidableEq, Repr

/-- Streams and partial frames are lost; the ownership stays (R467). -/
def HostPorts.flushed (h : HostPorts) : HostPorts :=
  { h with dictIn := [], dictOut := [], planeIn := [], planeOut := [], lastDiscard := false, can := [] }

end Sys2Proof.Machine
end

