-- ==== Sys2Proof/Machine/StateIo.lean ====
section
/-! DEFINITION. The state of the backup domain, the timers and the event router that no register shows
(spec/09_rtc_backup_domain.md, spec/10_timers_event_routing.md). -/
namespace Sys2Proof.Machine

/-- A calendar time to the second (R236). -/
structure CalTime where
  year : Nat := 2000
  month : Nat := 1
  day : Nat := 1
  hour : Nat := 0
  min : Nat := 0
  sec : Nat := 0
deriving DecidableEq, Repr

/-- A core's shadow of the seven time registers (R237). -/
structure Shadow where
  time : CalTime := {}
  wday : Nat := 6
  subsec : Nat := 0
deriving DecidableEq, Repr

/-- A value held by SET_AT (R238): the time, whether the RTC_SET task has arrived, and the TNET from which object
0x7001.02 lets it load (R239). -/
structure HeldSet where
  time : CalTime
  task : Bool := false
  due : Option Nat := none
deriving DecidableEq, Repr

structure Rtc where
  /-- The sleep oscillator has edges (R235). -/
  oscRuns : Bool := true
  /-- The trim accumulator (R242). -/
  acc : Int := 0
  /-- The last oscillator cycle was a second tick whose alarms have not been served (R240). -/
  secondTick : Bool := false
  /-- A SET that loads at the next oscillator edge, and a held SET_AT (R238). -/
  dueSet : Option CalTime := none
  heldSet : Option HeldSet := none
  shadow0 : Shadow := {}
  shadow1 : Shadow := {}
  /-- Per comparator: equal samples in a row that differ from its level (R244). -/
  cmpRuns : List Nat := [0, 0, 0, 0]
deriving DecidableEq, Repr

/-- The timers and the event router. -/
structure Evr where
  /-- Bit n: cmp_done of timer n (R250), and a compare of timer n that fires at the next clock edge (R252). -/
  cmpDone : Nat := 0
  cmpDue : Nat := 0
  /-- Channel pulses on their way, by channel: TNET at which each refers to its cause (R257, R264). -/
  pulses : Sparse (Option Nat) := []
  /-- Pulses passed in the present rate window, by channel (R261). -/
  passed : Sparse Nat := []
  /-- High words of the stamps, by channel, as stamped (R264). -/
  stampHigh : Sparse Nat := []
deriving DecidableEq, Repr

end Sys2Proof.Machine
end

