-- ==== Sys2Proof/Machine/StateLgy.lean ====
section
/-! DEFINITION. The state of the compatibility engine beside its registers (spec/16_er418_compatibility.md). -/
namespace Sys2Proof.Machine

/-- The frame between TX_START and its last outcome (R390, R394): when it was armed, and from its first attempt on its
octets, its context, whether it asks for an acknowledgement, attempts made, and whether TX_ABORT ended its retries. -/
structure LgyFrame where
  armedAt : Nat
  started : Bool := false
  seq : Option Nat := none
  octets : List Byte := []
  dlen : Nat := 0
  ctx : Option Nat := none
  ackReq : Bool := false
  tries : Nat := 0
  aborted : Bool := false
deriving DecidableEq, Repr

/-- The unlock matcher of R398. -/
inductive Unlock | idle | step1 | step2
deriving DecidableEq, Repr

/-- The compatibility engine. -/
structure Lgy where
  rx : List Byte := []
  tx : List Byte := []
  hop : List Nat := List.replicate 64 0
  /-- Base frequency in force, kHz. -/
  base : Nat := 863000
  /-- The slot counter of R392. -/
  count : Nat := 1
  /-- The schedule runs, and the TNET of its present boundary. -/
  run : Bool := false
  boundary : Nat := 0
  /-- Slave timing (R393): SYNCED, boundaries since the last beacon, and beacon periods that ended without one. -/
  synced : Bool := false
  since : Option Nat := none
  missed : Nat := 0
  rxOvf : Bool := false
  frame : Option LgyFrame := none
  /-- The SEQ that the next new data frame or beacon takes. -/
  seq : Nat := 0
  /-- Frequency in Hz and lane of every channel in the present slot. -/
  freqs : List Nat := List.replicate 8 0
  lanes : List (Option Nat) := List.replicate 8 none
  /-- The running command, and whether it waits for system firmware (R391). -/
  cmd : Option Nat := none
  held : Bool := false
  unlock : Unlock := .idle
  unlockAt : Nat := 0
  /-- The native unlock was accepted and the engine has stopped (R399). -/
  gone : Bool := false
  /-- nIRQ is low (R389). -/
  nirq : Bool := false
deriving DecidableEq, Repr

end Sys2Proof.Machine
end

