-- ==== Sys2Proof/Machine/StateSec.lean ====
section
/-! DEFINITION. The state of the cipher island: the key table (R192), commands that wait on a key (R193) and the
requests of the eight pages (R185, R197). -/
namespace Sys2Proof.Machine

/-- Key states of R192. -/
inductive KeyState | empty | ready | exhausted | fault
deriving DecidableEq, Repr

/-- The values that a LOAD writes, as staged when it was given. -/
structure KeyImage where
  key : List Byte := []
  sm4 : Bool := false
  txlvl : Nat := 0
  minlvl : Nat := 0
  kidm : Nat := 0
  useSe : Bool := false
  useGen : Bool := false
  usePriv : Bool := false
  keyIndex : Nat := 0
  limit : Nat := 0xFFFFFFFF
  txfc : Nat := 0
deriving DecidableEq, Repr

/-- A LOAD (with its image) or CLEAR that waits for the running operations of its slot to end: the units and pages
that it waits for. -/
structure KeyPend where
  image : Option KeyImage
  units : List Nat
  pages : List Nat
deriving DecidableEq, Repr

/-- One slot of the key table. -/
structure KeySlot where
  state : KeyState := .empty
  owner : Nat := 0
  image : KeyImage := {}
  count : Nat := 0
  txfc : Nat := 0
  pend : Option KeyPend := none
deriving DecidableEq, Repr

/-- A general request (R197): its descriptor, whether it has started, the status that its checks gave, its blocks, the
chunks it has finished, and whether the host's object 0x5003.00 submitted it. -/
structure GenReq where
  addr : Nat
  started : Bool := false
  verdict : Nat := 0
  blocks : Nat := 0
  chunks : Nat := 0
  slot : Nat := 0
  host : Bool := false
deriving DecidableEq, Repr

/-- One page: its requests, oldest first, and the general lane that its first request holds. -/
structure CipherPage where
  reqs : List GenReq := []
  lane : Option Nat := none
deriving DecidableEq, Repr

/-- The cipher island's own state. -/
structure Sec where
  keys : Sparse KeySlot := []
  pages : Sparse CipherPage := []
  lastPage : Nat := 7
  /-- Reserve in force (R186) and the lanes of stages 6 and 11 under it. -/
  reserve : Nat := 0
  /-- Object 0x5001.00 as last written, key bytes as 0, and the result object 0x5003.01. -/
  loadImage : List Byte := []
  result : List Byte := []
  /-- The host request of object 0x5003.00 as it was written. -/
  hostReq : List Byte := []
deriving DecidableEq, Repr

end Sys2Proof.Machine
end

