-- ==== Sys2Proof/Machine/State.lean ====
section
/-! DEFINITION. The state of the block: plain data holding every register field, every memory and every engine's state
that the spec gives the device, the queue of waiting commands, and the state right after power-on reset. -/
namespace Sys2Proof.Machine

/-- Why a command stops the machine with a fault. Every command of the spec has an effect in every state, if only to be
ignored, so nothing ever stops. -/
inductive Fault
  /-- Raised by no command. Safe. -/
  | none
deriving DecidableEq, Repr

/-- Why a command has no meaning. -/
inductive Refusal
  /-- A command whose meaning is not written; no command of the table is one. Safe: nothing would be claimed of it. -/
  | notModelled (mnemonic : String)
deriving DecidableEq, Repr

structure State where
  /-- The part is a KW-7250-T (R2): receive half B is fused off. -/
  partT : Bool := false
  /-- TNET (R8), modulo 2^64. -/
  tnet : Nat := 0
  /-- SE cycles of the reference clock since power-on; no steering moves it (R58). -/
  clock : Nat := 0
  /-- Every register field that does not hold its reset value (R6), by `RegField.key`. -/
  fields : Sparse Nat := []
  /-- Every byte of memory that does not read as its region's initial value. -/
  mem : Sparse Byte := []
  /-- Poisoned SRAM words, by word address (R316). -/
  poison : Sparse Bool := []
  faults : FaultLog := {}
  power : Power := {}
  radio : Radio := {}
  slot : SlotEngine := {}
  mac : Mac := {}
  sec : Sec := {}
  gnss : Gnss := {}
  rtc : Rtc := {}
  evr : Evr := {}
  memctl : MemCtl := {}
  flash : Flash := {}
  core0 : CoreState := CoreState.boot
  core1 : CoreState := {}
  lgy : Lgy := {}
  tag : TagPort := {}
  host : HostPorts := {}
  boot : Boot := {}
  pke : Pke := {}
  pins : Pins := {}
  objs : Sparse (List Byte) := []
  /-- The model's own counter of free values drawn. -/
  free : Nat := 0
  /-- The commands that are waiting, first in, first out. -/
  pending : List Instr := []
deriving DecidableEq, Repr

/-- The block right after a power-on reset, before the boot ROM runs: every register at its reset value, PRC_RSTCAUSE and
PRC_RSTSRC telling of POWER_ON (R461, R469), and the INFO entry of that reset in the fault log. -/
def State.reset : State :=
  { fields := [(PRC_RSTCAUSE_CAUSE.key, 1), (PRC_RSTSRC_SOURCES.key, 1)]
    faults := { entries := [{ cls := 0, src := 0x1E, addr := 0, detail := 1, tnet := 0 }] } }

end Sys2Proof.Machine
end

