-- ==== Sys2Proof/Machine/Ops.lean ====
section
/-! DEFINITION. The named operations over State that the meanings share: register fields, memory bytes, events, modes,
time. -/
namespace Sys2Proof.Machine

/-- The value of a register field. -/
def State.get (s : State) (f : RegField) : Nat := Sparse.read f.reset s.fields f.key

/-- `s` with register field `f` holding the low bits of `v`. -/
def State.put (s : State) (f : RegField) (v : Nat) : State :=
  { s with fields := Sparse.write f.reset s.fields f.key (v % 2 ^ f.width) }

/-- The field is not 0. -/
def State.on (s : State) (f : RegField) : Bool := s.get f != 0

/-- `s` with a one-bit field set or cleared. -/
def State.flag (s : State) (f : RegField) (b : Bool) : State := s.put f (ofBool b)

/-- A saturating counter field one higher. -/
def State.bump (s : State) (f : RegField) : State := s.put f (satInc f.width (s.get f))

/-- A wrapping counter field one higher. -/
def State.bumpWrap (s : State) (f : RegField) : State := s.put f (s.get f + 1)

/-- What a byte that State does not list reads as: an erased flash byte 0xFF (R339), elsewhere 0 (R462; log entry 3). -/
def memDefault (a : Nat) : Byte := if 0x08000000 ≤ a ∧ a < 0x08800000 then 0xFF else 0

/-- A byte of memory as stored. Flash bytes stand under their physical bank's address: bank A from 0x0800_0000, bank B
from 0x0840_0000, whatever SWAP maps. -/
def State.byte (s : State) (a : Nat) : Byte := Sparse.read (memDefault a) s.mem a

/-- `s` with the byte at `a` stored. -/
def State.setByte (s : State) (a : Nat) (b : Byte) : State := { s with mem := Sparse.write (memDefault a) s.mem a b }

/-- The physical flash address behind a bus address: SWAP exchanges the banks (R434, FLC_OWNER). -/
def State.flashPhys (s : State) (a : Nat) : Nat :=
  if s.on FLC_OWNER_SWAP then (if a < 0x08400000 then a + 0x400000 else a - 0x400000) else a

/-- `n` bytes from address `a`. -/
def State.bytes (s : State) (a n : Nat) : List Byte := (List.range n).map fun k => s.byte (a + k)

/-- `s` with the bytes `bs` stored from address `a`. -/
def State.setBytes (s : State) (a : Nat) : List Byte → State
  | [] => s
  | b :: bs => State.setBytes (s.setByte a b) (a + 1) bs

/-- The little-endian number in `n` bytes at `a` (R5). -/
def State.num (s : State) (a n : Nat) : Nat := leNat (s.bytes a n)

/-- `s` with the number `v` stored in `n` bytes at `a`, least significant first (R5). -/
def State.setNum (s : State) (a n v : Nat) : State := s.setBytes a (leBytes n v)

/-- The reference has failed: the RF, channelizer, transmit path, slot engine, cipher and GNSS islands, the CAN FD and the
UART stay in reset (R459). -/
def State.refFailed (s : State) : Bool := s.on PRC_STATUS_REF_FAIL

/-- Channel `c` can fire in the present power state (R265): in Standby only channels 0 to 3. -/
def State.chanLive (s : State) (c : Nat) : Bool :=
  s.on (EVR_CFG_EN c) && (s.power.state != .off) && (s.power.state != .standby || decide (c < 4))

/-- Event En is a live producer in the present power state (R265). -/
def State.producerLive (s : State) (n : Nat) : Bool :=
  match s.power.state with
  | .deep => (decide (88 ≤ n) && decide (n ≤ 103)) || n == 115 || n == 120
  | .standby => decide (88 ≤ n) && decide (n ≤ 95)
  | .off => false
  | _ => true

/-- A pulse that refers to TNET `at_` arrives at channel `c` (R257); pulses of one cycle make one. -/
def State.pulse (s : State) (c at_ : Nat) : State :=
  if s.chanLive c ∧ Sparse.read none s.evr.pulses c = none then
    { s with evr := { s.evr with pulses := Sparse.write none s.evr.pulses c (some at_) } }
  else s

/-- The producer mask word `i` of channel `c`. -/
def evrPm (c i : Nat) : RegField := [EVR_PM0_MASK c, EVR_PM1_MASK c, EVR_PM2_MASK c, EVR_PM3_MASK c].getD i (EVR_PM0_MASK c)

/-- The wake source with bit `n` of PRC_WAKEEN is enabled (R454): in Standby by the copies of R452, the tag field by
WAKE_EN. -/
def State.wakeEnabled (s : State) (n : Nat) : Bool :=
  if n = 9 then s.on TAG_CTRL_WAKE_EN
  else if s.power.state = .standby then bit s.power.standbyWake n else bit (s.get PRC_WAKEEN_EN) n

/-- The sources that are live in a power state (R454). -/
def wakeLive : PowerState → Nat → Bool
  | .sleep, n => n ≤ 9
  | .deep, n => n ≤ 7 || n == 9
  | .standby, n => n == 4 || n == 5 || n == 7 || n == 9
  | _, _ => false

/-- The wake condition of source `n` (R453, R454): it sets its bit in PRC_WAKESRC and asks for the return; while an entry is
pending it abandons it; in Run it has no effect. -/
def State.wakeRequest (s : State) (n : Nat) : State :=
  if !s.wakeEnabled n then s
  else if s.on PRC_PWRSTAT_PENDING then
    ((s.flag PRC_PWRSTAT_PENDING false).put PRC_PWRSTAT_RESULT 1).put PRC_WAKESRC_SRC (setBit (s.get PRC_WAKESRC_SRC) n)
  else if wakeLive s.power.state n then
    let s := s.put PRC_WAKESRC_SRC (setBit (s.get PRC_WAKESRC_SRC) n)
    if s.power.wakes.contains n then s else { s with power := { s.power with wakes := s.power.wakes ++ [n] } }
  else s

/-- The wake source that event En is, if any. -/
def eventWake (n : Nat) : Option Nat :=
  if n = 88 then some 4 else if 89 ≤ n ∧ n ≤ 92 then some 5 else if 96 ≤ n ∧ n ≤ 103 then some 6 else none

/-- Event En occurs (R22, R23, R257): its sticky status bit is set, interrupt line n of each core becomes pending, and the
channels that take it get a pulse. -/
def State.raise (s : State) (n : Nat) : State :=
  let s := s.put (EVR_ESTAT_STAT (n / 32)) (setBit (s.get (EVR_ESTAT_STAT (n / 32))) (n % 32))
  let s := { s with core0 := { s.core0 with ipend := setBit s.core0.ipend n },
                    core1 := { s.core1 with ipend := setBit s.core1.ipend n } }
  let s := match eventWake n with
    | some w => s.wakeRequest w
    | none => s
  if s.producerLive n then
    (List.range 32).foldl (fun (s : State) c => if bit (s.get (evrPm c (n / 32))) (n % 32) then s.pulse c s.tnet else s) s
  else s

/-- Event En occurs if `b` holds. -/
def State.raiseIf (s : State) (b : Bool) (n : Nat) : State := if b then s.raise n else s

/-- The mode codes of R25. -/
def modeCompat : Nat := 0
def modeConc : Nat := 1
def modeNode : Nat := 2
def modeTiming : Nat := 3
def modeRecovery : Nat := 4
def modeTest : Nat := 5

/-- The current mode (R26). -/
def State.mode (s : State) : Nat := s.get PRC_MODE_MODE

/-- A slot program runs. -/
def State.running (s : State) : Bool := s.on SLE_STATUS_RUNNING

/-- A legacy source sets its flag, whatever its enable (R388); flag `n` is bit n mod 8 of LGY_IRQF(n / 8). The flags
are those of the compatibility engine and set only in Compatibility mode. -/
def State.lgyFlag (s : State) (n : Nat) : State :=
  if s.mode = modeCompat then s.put (LGY_IRQF_FLAGS (n / 8)) (setBit (s.get (LGY_IRQF_FLAGS (n / 8))) (n % 8)) else s

/-- The dictionary answer of an object access. -/
def State.answer (s : State) (r : OdpStatus) : State := { s with host := { s.host with result := r } }

/-- An object without a register holds `v` (keys are 256 × index + sub-index). -/
def State.setObj (s : State) (key : Nat) (v : List Byte) : State := { s with objs := Sparse.write [] s.objs key v }

/-- A value stored in the dictionary store of physical bank `k` (R369, R427). -/
def State.storeIn (s : State) (k key : Nat) (v : List Byte) : State :=
  if k = 0 then { s with boot := { s.boot with store0 := Sparse.write [] s.boot.store0 key v } }
  else { s with boot := { s.boot with store1 := Sparse.write [] s.boot.store1 key v } }

/-- The physical bank at 0x0800_0000. -/
def State.mappedBank (s : State) : Nat := s.get FLC_OWNER_SWAP

/-- The component whose partition holds a persistent object: SLOTPROG, REGCERT, else none (R427). -/
def objComponent (key : Nat) : Nat := if key = 0x400100 then 4 else if key = 0x201001 then 5 else 0

/-- A persistent object is stored in the mapped bank, and while a staging runs in the inactive bank as well, unless the
package replaces its partition (R369, R438). -/
def State.persist (s : State) (key : Nat) (v : List Byte) : State :=
  let k := s.mappedBank
  let n := leAt s.boot.upd.bytes 6 1
  let replaced := (List.range n).any fun i => leAt s.boot.upd.bytes (16 + 468 * i) 1 == objComponent key
  let s := s.storeIn k key v
  if s.boot.upd.mirror ∧ !(objComponent key ≠ 0 ∧ replaced) then s.storeIn (1 - k) key v else s

/-- `s` with each of the fields `fs` of one register taken from the written word `w`. -/
def State.loadFields (s : State) (fs : List RegField) (w : Nat) : State :=
  fs.foldl (fun (s : State) f => s.put f (slice w f.lsb f.width)) s

/-- The word that the fields `fs` of one register make. -/
def State.fieldsWord (s : State) (fs : List RegField) : Nat :=
  fs.foldl (fun w f => w + s.get f * 2 ^ f.lsb) 0

/-- `s` with byte `a` and the `n - 1` after it set to 0. -/
def State.zeroBytes (s : State) (a n : Nat) : State := { s with mem := Sparse.dropRange s.mem a (a + n) }

/-! The fault collector (R329 to R334) and reset requests. -/

/-- A reset with a code of R461 is requested; DEVICE_RESET applies it. -/
def State.requestReset (s : State) (code : Nat) : State :=
  if s.power.resetReq.contains code then s
  else { s with power := { s.power with resetReq := s.power.resetReq ++ [code] } }

/-- A warm reset into ROM Recovery is requested (R28). -/
def State.requestRecovery (s : State) : State :=
  ({ s with boot := { s.boot with recoveryReq := true } }).requestReset 0x06

/-- An entry joins the log: in a full log it replaces the oldest INFO or CORRECTED entry, and without one it is lost
with E11 (R333). -/
def State.logEntry (s : State) (e : FaultEntry) : State :=
  let e := { e with tnet := if s.power.tnetRuns then s.tnet else 0 }
  let es := s.faults.entries
  if es.length < 16 then { s with faults := { s.faults with entries := es ++ [e] } }
  else match es.findIdx? (fun x => decide (x.cls < 2)) with
  | some k => { s with faults := { s.faults with entries := es.eraseIdx k ++ [e] } }
  | none => ((s.flag ERR_STATUS_LOG_LOST true).bump ERR_STATUS_LOST).raise 11

/-- A FATAL report or an escalation (R332): the first opens FATAL with E10; a further one while FATAL_OPEN = 1 is the
double fault, which requests the lock-up reset. -/
def State.fatal (s : State) (src addr detail : Nat) (escalated : Bool) : State :=
  let e : FaultEntry := { cls := 3, src := src, addr := addr, detail := detail, tnet := 0, isOpen := true,
                          escalated := escalated, double := s.faults.fatals != 0 }
  let f := s.faults.fatals
  let s := s.logEntry e
  let s := { s with faults := { s.faults with fatals := f + 1 } }
  if f = 0 then s.raise 10
  else ({ s with faults := { s.faults with doubled := true } }).requestReset 0x0B

/-- A detector reports a class, a source, an address and a detail byte to the fault collector (R332). -/
def State.report (s : State) (cls src addr detail : Nat) (scrub : Bool := false) : State :=
  let e : FaultEntry := { cls := cls, src := src, addr := addr, detail := detail, tnet := 0, scrub := scrub }
  match cls with
  | 0 => s.logEntry e
  | 1 => (s.logEntry e).raise 8
  | 2 =>
    if bit s.faults.openMask src then s.fatal src addr detail true
    else
      let s := { s with faults := { s.faults with openMask := setBit s.faults.openMask src } }
      (s.logEntry { e with isOpen := true }).raise 9
  | _ => s.fatal src addr detail false

/-- A bus error: an INFO entry of source 0x06 with the address (R19). -/
def State.busInfo (s : State) (a : Nat) : State := s.report 0 6 a 0

/-- The word at `a` is poisoned (R316). -/
def State.poisoned (s : State) (a : Nat) : Bool := Sparse.read false s.poison (a - a % 4)

/-- Some word of the `n` bytes from the word address `a` is poisoned. -/
def State.poisonedIn (s : State) (a n : Nat) : Bool :=
  s.poison.any fun e => decide (a - a % 4 ≤ e.1) && decide (e.1 < a + n) && e.2

/-- A device's write to SRAM (R317): a fully written word ends its poison, a partly written poisoned word keeps its
bytes. -/
def State.devWrite (s : State) (a : Nat) (bs : List Byte) : State :=
  let n := bs.length
  let cut := s.poison.filter fun e => decide (a < e.1 + 4) && decide (e.1 < a + n) && !(decide (a ≤ e.1) && decide (e.1 + 4 ≤ a + n))
  let s := { s with poison := s.poison.filter fun e => !(decide (a ≤ e.1) && decide (e.1 + 4 ≤ a + n)) }
  if cut.isEmpty then s.setBytes a bs
  else (bs.zipIdx).foldl (fun (s : State) x =>
    if cut.any fun e => decide (e.1 ≤ a + x.2) && decide (a + x.2 < e.1 + 4) then s else s.setByte (a + x.2) x.1) s

/-- Replace one element of a list of a structure's entries found by `p`. -/
def updateFirst {α : Type} (p : α → Bool) (f : α → α) : List α → List α
  | [] => []
  | x :: xs => if p x then f x :: xs else x :: updateFirst p f xs

/-- A meaning that always goes on. -/
def goOn (s : State) : Host.Outcome State Fault Refusal := .next s

end Sys2Proof.Machine
end

