-- ==== Sys2Proof/Machine/RadioOps.lean ====
section
/-! DEFINITION. Operations shared by the radio, channelizer and slot engine meanings: the running program, paths and
their lines, lanes and blanking, the channel map, the regulatory profile and its checks. -/
namespace Sys2Proof.Machine

/-! The slot program in force (R120, R121). -/

/-- The ACTIVE program buffer. -/
def State.activeBuf (s : State) : Sparse Byte :=
  if s.on SLE_STATUS_ACTIVE_BUF then s.slot.buf1 else s.slot.buf0

/-- The STANDBY program buffer. -/
def State.standbyBuf (s : State) : Sparse Byte :=
  if s.on SLE_STATUS_ACTIVE_BUF then s.slot.buf0 else s.slot.buf1

/-- `s` with the STANDBY buffer replaced. -/
def State.setStandby (s : State) (b : Sparse Byte) : State :=
  if s.on SLE_STATUS_ACTIVE_BUF then { s with slot := { s.slot with buf0 := b } }
  else { s with slot := { s.slot with buf1 := b } }

/-- The little-endian number in `n` bytes at offset `off` of a program buffer. -/
def bufNum (b : Sparse Byte) (off n : Nat) : Nat :=
  leNat ((List.range n).map fun k => Sparse.read 0 b (off + k))

/-- A number of the ACTIVE image. -/
def State.prog (s : State) (off n : Nat) : Nat := bufNum s.activeBuf off n

/-- L, the slot length of the running program. -/
def State.slotLen (s : State) : Nat := s.prog 16 4

/-- A value of a dictionary object held in State, 0 bytes where it holds its default. -/
def State.objNum (s : State) (key : Nat) : Nat := leNat (Sparse.read [] s.objs key)

/-- The ASN origin O, object 0x4010.00 (R17). -/
def State.origin (s : State) : Nat := s.objNum 0x401000

/-- The present ASN (R17); 0 while no program runs or TNET is earlier than O. -/
def State.asn (s : State) : Nat :=
  if s.slotLen = 0 ∨ s.tnet < s.origin then 0 else (s.tnet - s.origin) / s.slotLen % 2 ^ 40

/-- slot_tick of R17; 0 while no program runs (SLE_SLOTTICK). -/
def State.slotTick (s : State) : Nat :=
  if s.running ∧ s.slotLen ≠ 0 ∧ s.origin ≤ s.tnet then (s.tnet - s.origin) % s.slotLen else 0

/-- The half that Node mode uses (R121 NODE_HALF): 0 A, 1 B. -/
def State.nodeHalf (s : State) : Nat := slice (s.prog 21 1) 1 1

/-! Paths (R37 to R42). -/

/-- The state field of a path in RFC_STATE. -/
def pathField : Path → RegField
  | .a => RFC_STATE_STATE_A
  | .b => RFC_STATE_STATE_B
  | .t => RFC_STATE_STATE_T

/-- What a path keeps of its calibrations. -/
def State.path (s : State) : Path → PathCal
  | .a => s.radio.pathA
  | .b => s.radio.pathB
  | .t => s.radio.pathT

def State.setPath (s : State) (p : Path) (c : PathCal) : State :=
  match p with
  | .a => { s with radio := { s.radio with pathA := c } }
  | .b => { s with radio := { s.radio with pathB := c } }
  | .t => { s with radio := { s.radio with pathT := c } }

/-- The part has the path (R2), and the RF island is not held in reset without the reference (R459). -/
def State.hasPath (s : State) (p : Path) : Bool := !(s.partT && p == .b) && !s.refFailed

/-- The path that codes 0, 1 and 2 name. -/
def pathOf : Nat → Option Path
  | 0 => some .a
  | 1 => some .b
  | 2 => some .t
  | _ => none

def pathCode : Path → Nat
  | .a => 0
  | .b => 1
  | .t => 2

def halfPath : Half → Path
  | .a => .a
  | .b => .b

/-- R40: the slot engine owns the path (in Compatibility mode while the legacy schedule runs, entry 14). -/
def State.owned (s : State) (p : Path) : Bool :=
  let m := s.mode
  if m = modeConc then s.running && p == .t
  else if m = modeNode then s.running && (p == .t || pathCode p == s.nodeHalf)
  else if m = modeCompat then s.lgy.run && p != .b
  else false

/-- The path changes to state `st`, raising E16 if that is a change (R37); the low-noise amplifier line of a half
follows (R48). -/
def State.enter (s : State) (p : Path) (st : Nat) : State :=
  let s' := (s.put (pathField p) st).raiseIf (s.get (pathField p) != st) 16
  match p with
  | .a => { s' with radio := { s'.radio with extLnaA := st == 3 && !s'.on RFC_STATE_TRSW } }
  | .b => { s' with radio := { s'.radio with extLnaB := st == 3 } }
  | .t => s'

/-- The path's synthesiser is calibrated at the present die temperature. -/
def State.calibrated (s : State) (p : Path) : State :=
  let t := signed 12 (s.get RFC_TEMP_TEMP)
  let s := s.setPath p { s.path p with calTemp := some t, marked := false }
  if p = .t then s.put RFC_TEMP_TEMP_CAL_T (s.get RFC_TEMP_TEMP) else s

/-- The synthesiser locks (E17), calibrating first where the path holds no calibration or, under policy CHANGE, is marked
(R41, R42). -/
def State.lock (s : State) (p : Path) : State :=
  let c := s.path p
  let s := if c.calTemp.isNone || (c.marked && s.slot.policy != 1) then s.calibrated p else s
  s.raise 17

/-! Lanes (R79) and blanking (R50). -/

/-- Lane `i` (0 to 63 half A, 64 to 127 half B). -/
def State.lane (s : State) (i : Nat) : Lane := Sparse.read {} s.radio.lanes i

def State.setLane (s : State) (i : Nat) (l : Lane) : State :=
  { s with radio := { s.radio with lanes := Sparse.write {} s.radio.lanes i l } }

def laneOff : Nat := 0
def laneIdle : Nat := 1
def laneSearch : Nat := 2
def laneFrame : Nat := 3
def laneBlanked : Nat := 4

def State.laneState (s : State) (i : Nat) : Nat := s.get (CHZ_LSTAT_STATE i)

/-- The RFC_BLANK register that shows lane `i`. -/
def blankField (i : Nat) : RegField :=
  [RFC_BLANK_A0_LANES, RFC_BLANK_A1_LANES, RFC_BLANK_B0_LANES, RFC_BLANK_B1_LANES].getD (i / 32) RFC_BLANK_A0_LANES

/-- Why lanes are blanked. -/
inductive BlankReason | tx | cal | retune
deriving DecidableEq, Repr

def Lane.blanked (l : Lane) : Bool := l.blankTx || l.blankCal || l.blankRetune

def Lane.setBlank (l : Lane) (r : BlankReason) (b : Bool) : Lane :=
  match r with
  | .tx => { l with blankTx := b }
  | .cal => { l with blankCal := b }
  | .retune => { l with blankRetune := b }

/-- Twin receive is in force: lane Bj takes the EN and PROFILE of lane Aj (R90). -/
def State.laneSrc (s : State) (i : Nat) : Nat := if s.on CHZ_STATUS_TWIN_ACTIVE && 64 ≤ i then i - 64 else i

/-- The plan in force on a half (R90). -/
def State.plan (s : State) (h : Nat) : Nat :=
  if h = 0 ∨ s.on CHZ_STATUS_TWIN_ACTIVE then s.radio.planA else s.radio.planB

/-- The lane is available: EN = 1, and in PLAN 1 one of the lanes 0 to 31 (R66). -/
def State.laneEn (s : State) (i : Nat) : Bool :=
  s.on (CHZ_LCFG_EN (s.laneSrc i)) && !(s.plan (i / 64) == 1 && 32 ≤ i % 64)

/-- Node mode in SCAN: every lane of the half searches without windows (R166). -/
def State.scanning (s : State) (i : Nat) : Bool :=
  s.mode == modeNode && s.get MAC_STATUS_SYNC == 3 && i / 64 == s.mac.nodeHalf

/-- The state a lane falls back to when nothing keeps it: SEARCH with an open window or in SCAN, else IDLE; OFF with
EN = 0. -/
def State.restState (s : State) (i : Nat) : Nat :=
  let l := s.lane i
  if !s.laneEn i then laneOff
  else if (l.window && l.framesLeft > 0) || s.scanning i then laneSearch else laneIdle

/-- The word of receive profile `p` (CHZ_PROFn). -/
def State.rxProfWord (s : State) (p : Nat) : Nat :=
  s.get (CHZ_PROF_MOD p) + 2 * s.get (CHZ_PROF_RATE p) + 0x10 * s.get (CHZ_PROF_BT p) + 0x20 * s.get (CHZ_PROF_HIDX p)
    + 0x2000 * s.get (CHZ_PROF_REP p) + 0x8000 * s.get (CHZ_PROF_SFDG p) + 0x10000 * s.get (CHZ_PROF_FEC_EN p)
    + 0x20000 * s.get (CHZ_PROF_LEG_EN p) + 0x40000 * s.get (CHZ_PROF_NAT_EN p)
    + 0x100000 * s.get (CHZ_PROF_MAXLEN p)

/-- A profile change takes effect for a lane that is next in IDLE or SEARCH (R76). -/
def State.refreshProfile (s : State) (i : Nat) : State :=
  s.setLane i { s.lane i with prof := s.rxProfWord (s.get (CHZ_LCFG_PROFILE (s.laneSrc i))), profStale := false }

/-- The lane leaves what held it and rests (R79). -/
def State.restLane (s : State) (i : Nat) : State :=
  let s := s.put (CHZ_LSTAT_STATE i) (if (s.lane i).blanked then laneBlanked else s.restState i)
  if (s.lane i).profStale then s.refreshProfile i else s

/-- A frame in progress on lane `i` ends undelivered (R50): BLANKED counts, and the unit it started is marked. -/
def State.cutFrame (s : State) (i : Nat) : State :=
  let s := s.bump (CHZ_LCNT_BLANKED i)
  { s with
    radio := { s.radio with detFifo := s.radio.detFifo.filter (fun d => d.place != i) }
    slot := { s.slot with rx := s.slot.rx.map fun u =>
      if u.det.place = i ∧ !u.ended then { u with ended := true, blanked := true } else u } }

/-- Blanking of lane `i` for reason `r` begins. -/
def State.blankLane (r : BlankReason) (s : State) (i : Nat) : State :=
  let st := s.laneState i
  let s := if st = laneFrame then s.cutFrame i else s
  let s := s.setLane i ((s.lane i).setBlank r true)
  let s := s.put (blankField i) (setBit (s.get (blankField i)) (i % 32))
  if st = laneOff then s else s.put (CHZ_LSTAT_STATE i) laneBlanked

/-- Blanking of lane `i` for reason `r` ends; the lane rests once no reason is left. -/
def State.unblankLane (r : BlankReason) (s : State) (i : Nat) : State :=
  let s := s.setLane i ((s.lane i).setBlank r false)
  if (s.lane i).blanked then s
  else
    let s := s.put (blankField i) (clearBit (s.get (blankField i)) (i % 32))
    if s.laneState i = laneBlanked then s.restLane i else s

/-- The lane numbers of a half; none of half B on the KW-7250-T (R2). -/
def State.halfLanes (s : State) (h : Nat) : List Nat :=
  if h = 0 then List.range 64 else if s.partT then [] else (List.range 64).map (· + 64)

def State.blankHalf (r : BlankReason) (s : State) (h : Nat) : State :=
  (s.halfLanes h).foldl (State.blankLane r) s

def State.unblankHalf (r : BlankReason) (s : State) (h : Nat) : State :=
  (s.halfLanes h).foldl (State.unblankLane r) s

/-! The channel map (R66, R68, R69). -/

/-- Twice the lane position offset and the channel width of a plan (R69): half_count × 2, w in Hz, lanes. -/
def planParams (plan : Nat) : Nat × Nat × Nat := if plan = 0 then (63, 200000, 64) else (31, 400000, 32)

/-- The lane of a half, by its centre and plan, that frequency `f` falls on, with the residual in Hz (R69). -/
def mapHalf (centre plan : Nat) (f : Int) : Option (Nat × Int) :=
  let (hc2, w, lanes) := planParams plan
  let d : Int := f - (centre : Int)
  -- x + 1/2 = d / w + (hc2 + 1) / 2, floored
  let j : Int := (2 * d + ((hc2 + 1) * w : Nat)) / (2 * w : Nat)
  let resid2 : Int := 2 * d - (2 * j - (hc2 : Int)) * (w : Int)
  if 0 ≤ j ∧ j < (lanes : Int) ∧ -2000 ≤ resid2 ∧ resid2 ≤ 2000 then some (j.toNat, resid2 / 2) else none

/-- The map of R69 for a channel number: half, lane and residual; none is UNMAPPED. -/
def mapChannel (partT : Bool) (m : MapParams) (n : Nat) : Option (Nat × Nat × Int) :=
  if m.count ≤ n then none
  else
    let f : Int := ((m.f0 + n * m.spacing : Nat) : Int)
    match mapHalf m.centreA m.planA f with
    | some (j, r) => some (0, j, r)
    | none =>
      if m.twin || partT then none
      else (mapHalf m.centreB m.planB f).map fun (j, r) => (1, j, r)

/-- The frequency of network channel `n` in Hz (R68). -/
def channelFreq (m : MapParams) (n : Nat) : Nat := m.f0 + n * m.spacing

/-- The parameters of the map as the registers now give them. -/
def State.mapParams (s : State) (twin : Bool) : MapParams :=
  { f0 := s.get CHZ_CHF0_F0, spacing := s.get CHZ_CHSPACE_S, count := s.get CHZ_CHCOUNT_N,
    centreA := s.get RFC_FREQ_A_FREQ, centreB := s.get RFC_FREQ_B_FREQ,
    planA := s.get CHZ_CTRL_PLAN_A, planB := s.get CHZ_CTRL_PLAN_B, twin := twin }

/-- A change of the plan, of a centre, of PLAN or of TWIN_EN starts a rebuild of the map (R69). -/
def State.mapChanged (s : State) : State := s.flag CHZ_STATUS_MAP_BUSY true

/-- LNCO of R71 in units of 800 000 / 2^24 Hz, nearest: the synthesised centre (nearest multiple of 38.4 MHz / 2^22)
minus the centre `c` in Hz, minus the residual in Hz. -/
def ncoValue (c : Nat) (resid : Int) : Int :=
  let step := (c * 4194304 + 19200000) / 38400000
  let e : Int := ((step * 38400000 : Nat) : Int) - ((c * 4194304 : Nat) : Int)   -- rounding error × 2^22
  (2 * 4 * (e - resid * 4194304) + 800000) / (2 * 800000)

/-- LNCO of every mapped lane under map `m`; a lane with no mapping keeps 0 (R71). -/
def State.setNcos (s : State) (m : MapParams) : State :=
  let s := (List.range 128).foldl (fun s i => s.put (CHZ_LNCO_LNCO i) 0) s
  (List.range 1024).foldl (fun s n => match mapChannel s.partT m n with
    | some (h, j, r) =>
      s.put (CHZ_LNCO_LNCO (64 * h + j)) (unsigned 24 (ncoValue (if h = 0 then m.centreA else m.centreB) r))
    | none => s) s

/-- The lane centre in Hz by the half's centre and plan in force (R66). -/
def State.laneCentre (s : State) (i : Nat) : Int :=
  let h := i / 64
  let c : Int := if h = 0 ∨ s.on CHZ_STATUS_TWIN_ACTIVE then
      (if s.radio.stagedA.isSome then s.radio.mapCur.centreA else s.get RFC_FREQ_A_FREQ)
    else (if s.radio.stagedB.isSome then s.radio.mapCur.centreB else s.get RFC_FREQ_B_FREQ)
  if s.plan h = 0 then c + (2 * (i % 64 : Nat) - 63) * 100000 else c + (2 * (i % 64 : Nat) - 31) * 200000

/-! The regulatory profile (R52 to R59). -/

def profNum (img : List Byte) (off n : Nat) : Nat := leAt img off n
def profBands (img : List Byte) : Nat := profNum img 6 1
/-- A number of band record `b` of a profile image. -/
def bandNum (img : List Byte) (b off n : Nat) : Nat := profNum img (32 + 48 * b + off) n

/-- Every byte of `img` at the given offsets is 0. -/
def zeros (img : List Byte) (off n : Nat) : Bool := (bytesAt img off n).all (· == 0)

/-- A band record is within the ranges of R52 and R53. -/
def bandOk (img : List Byte) (b : Nat) : Bool :=
  let f := bandNum img b 0 4
  let sp := bandNum img b 4 4
  let n := bandNum img b 8 2
  let mp := signed 16 (bandNum img b 10 2)
  let dl := bandNum img b 12 4
  1000 ≤ sp && sp ≤ 2000000 && 1 ≤ n && decide (-80 ≤ mp) && decide (mp ≤ 144) && 1 ≤ dl && dl ≤ 3600000 &&
  bandNum img b 20 1 < 2 && bandNum img b 21 1 ≤ 7 && bandNum img b 22 2 == 0 && zeros img (32 + 48 * b + 40) 8 &&
  410000000 ≤ f && f + (n - 1) * sp ≤ 960000000

/-- The conditions of R53 on a profile image, given the serial that it must exceed. -/
def profileOk (img : List Byte) (serialInForce : Nat) : Bool :=
  let n := profBands img
  let pg := signed 16 (profNum img 14 2)
  profNum img 0 4 == 0xA55A7250 && profNum img 4 2 == 1 && 1 ≤ n && n ≤ 8 && zeros img 7 1 && zeros img 20 12 &&
  img.length == 64 + 48 * n && profNum img 16 4 == 64 + 48 * n && decide (-80 ≤ pg) && decide (pg ≤ 80) &&
  (List.range n).all (bandOk img) &&
  (List.range n).all (fun i => (List.range n).all fun j =>
    bandNum img i 21 1 != bandNum img j 21 1 || bandNum img i 12 4 == bandNum img j 12 4) &&
  serialInForce < profNum img 8 4 &&
  decide (Config.sm3 (img.take (32 + 48 * n)) = img.drop (32 + 48 * n))

/-- The factory profile of R54 without its hash. -/
def factoryBody : List Byte :=
  leBytes 4 0xA55A7250 ++ leBytes 2 1 ++ leBytes 1 1 ++ leBytes 1 0 ++ leBytes 4 0 ++ leBytes 2 0 ++ leBytes 2 0 ++
  leBytes 4 112 ++ leBytes 12 0 ++
  leBytes 4 410000000 ++ leBytes 4 12500 ++ leBytes 2 44001 ++ leBytes 2 80 ++ leBytes 4 3600000 ++ leBytes 2 0 ++
  leBytes 2 0 ++ leBytes 1 1 ++ leBytes 1 0 ++ leBytes 2 0 ++ List.replicate 16 0xFF ++ leBytes 8 0

/-- The factory profile of R54. -/
def factoryProfile : List Byte := factoryBody ++ Config.sm3 factoryBody

/-- The grid of band `b` contains carrier `c` (R57). -/
def inGrid (img : List Byte) (b c : Nat) : Bool :=
  let f := bandNum img b 0 4
  let sp := bandNum img b 4 4
  let n := bandNum img b 8 2
  let k0 := (c + sp - 1000 - f) / sp - 1
  (List.range 5).any fun d =>
    let k := k0 + d
    k < n && (f + k * sp ≤ c + 1000) && (c ≤ f + k * sp + 1000) &&
    !((List.range 8).any fun e => bandNum img b (24 + 2 * e) 2 == k)

/-- The band that applies to carrier `c`: the lowest-numbered one whose grid contains it. -/
def bandOf (img : List Byte) (c : Nat) : Option Nat :=
  (List.range (profBands img)).find? fun b => inGrid img b c

/-- An account of a duty group. -/
def State.duty (s : State) (g : Nat) : DutyGroup := Sparse.read {} s.radio.duty g

def State.setDuty (s : State) (g : Nat) (d : DutyGroup) : State :=
  { s with radio := { s.radio with duty := Sparse.write {} s.radio.duty g d } }

/-- The result of the checks of R57. -/
inductive RegVerdict
  | pass (group : Nat)
  | channel (band : Option Nat)
  | power (band : Nat) (supply : Bool)
  | duty (band : Nat)
deriving DecidableEq, Repr

/-- The checks of R57 in their order, for a carrier in Hz, a power in 0.25 dB units and a planned time in SE cycles. -/
def State.regCheck (s : State) (carrier : Nat) (power : Int) (planned : Nat) : RegVerdict :=
  let img := s.radio.profile
  if !s.on RFC_REGSTAT_PROFILE_VALID then .channel none
  else match bandOf img carrier with
  | none => .channel none
  | some b =>
    if bandNum img b 20 1 % 2 = 0 then .channel (some b)
    else
      let supply := decide (56 < power) && decide (s.radio.vsup < 2700)
      if supply || decide (signed 16 (bandNum img b 10 2) < power + signed 16 (profNum img 14 2)) then .power b supply
      else
        let g := bandNum img b 21 1
        let d := s.duty g
        let maxOn := bandNum img b 16 2
        let minOff := bandNum img b 18 2
        let early := match d.lastEnd with
          | none => false
          | some e => decide (s.clock < e + minOff * 100000)
        if (maxOn != 0 && maxOn * 100000 < planned) || early ||
            decide (bandNum img b 12 4 * 10 < d.sum + divUp planned 10000) then .duty b
        else .pass g

/-- RFC_REGSTAT and the event of a refusal (R57). -/
def State.regRefused (s : State) (v : RegVerdict) : State :=
  match v with
  | .pass _ => s
  | .channel b =>
    ((((s.bump RFC_REGSTAT_REFUSALS).put RFC_REGSTAT_LAST_REASON 1).flag RFC_REGSTAT_NO_BAND b.isNone).put
      RFC_REGSTAT_LAST_BAND (b.getD 0)).raise 26
  | .power b sup =>
    ((((s.bump RFC_REGSTAT_REFUSALS).put RFC_REGSTAT_LAST_REASON 2).flag RFC_REGSTAT_SUPPLY sup).put
      RFC_REGSTAT_LAST_BAND b).raise 25
  | .duty b => (((s.bump RFC_REGSTAT_REFUSALS).put RFC_REGSTAT_LAST_REASON 3).put RFC_REGSTAT_LAST_BAND b).raise 24

/-- The transmit status code of a refusal (R178). -/
def verdictStatus : RegVerdict → Nat
  | .pass _ => 1
  | .channel _ => 4
  | .power _ _ => 5
  | .duty _ => 6

/-- `units` of 100 µs are charged to group `g` in the bucket of second `sec` (R58). -/
def State.charge (s : State) (g sec units : Nat) : State :=
  let d := s.duty g
  let k := sec % 3600
  s.setDuty g { d with buckets := Sparse.write 0 d.buckets k (Sparse.read 0 d.buckets k + units), sum := d.sum + units }

/-- `units` charged at the start are taken back: an aborted transmission pays for the time spent (R58). -/
def State.refund (s : State) (g sec units : Nat) : State :=
  let d := s.duty g
  let k := sec % 3600
  s.setDuty g { d with buckets := Sparse.write 0 d.buckets k (Sparse.read 0 d.buckets k - units), sum := d.sum - units }

/-- The profile in force becomes `img` (R56). -/
def State.installProfile (s : State) (img : List Byte) : State :=
  ({ s with radio := { s.radio with profile := img, waiting := none } }).flag RFC_REGSTAT_PROFILE_VALID true

/-- The serial that a new image must exceed: of the waiting profile, else of the one in force (R56). -/
def State.serialInForce (s : State) : Nat :=
  match s.radio.waiting with
  | some w => profNum w 8 4
  | none => profNum s.radio.profile 8 4

/-- An accepted profile: stored (R427), in force at once with no program running, else at the boundary (R56); E30. -/
def State.acceptProfile (s : State) (img : List Byte) : State :=
  let s := (s.raise 30).persist 0x201001 img
  if s.running then { s with radio := { s.radio with waiting := some img } } else s.installProfile img

end Sys2Proof.Machine
end

