-- ==== Sys2Proof/Machine/RegGns.lean ====
section
/-! DEFINITION. The register fields of the GNS block (base 0x40080000), from the block map and field tables of
spec/08_gnss_baseband.md: address, lowest bit, width and reset value of each field, then each register's row of fields with
their access codes (R6) and the values a field accepts. -/
namespace Sys2Proof.Machine

def GNS_CTRL_EN : RegField := ⟨0x40080000, 0, 1, 0⟩
def GNS_CTRL_AGC_AUTO : RegField := ⟨0x40080000, 1, 1, 1⟩
def GNS_CTRL_STEER_EN : RegField := ⟨0x40080000, 2, 1, 0⟩
def GNS_STATUS_TIME_VALID : RegField := ⟨0x40080004, 0, 1, 0⟩
def GNS_STATUS_STEER_LOCK : RegField := ⟨0x40080004, 1, 1, 0⟩
def GNS_STATUS_HOLDOVER : RegField := ⟨0x40080004, 2, 1, 0⟩
def GNS_STATUS_COARSE_HOLD : RegField := ⟨0x40080004, 3, 1, 0⟩
def GNS_STATUS_STEER_ACTIVE : RegField := ⟨0x40080004, 4, 1, 0⟩
def GNS_STATUS_JAM : RegField := ⟨0x40080004, 5, 1, 0⟩
def GNS_STATUS_TP_VALID : RegField := ⟨0x40080004, 6, 1, 0⟩
def GNS_GAIN_GAIN : RegField := ⟨0x40080008, 0, 6, 0⟩
def GNS_ACQW_BYTES (i : Nat) : RegField := ⟨0x4008000C + 0x4 * (i % 4), 0, 32, 0⟩
def GNS_ACQPUSH_PUSH : RegField := ⟨0x4008001C, 0, 1, 0⟩
def GNS_ACQPUSH_ABORT : RegField := ⟨0x4008001C, 1, 1, 0⟩
def GNS_ACQR_BYTES (i : Nat) : RegField := ⟨0x40080020 + 0x4 * (i % 4), 0, 32, 0⟩
def GNS_ACQPOP_POP : RegField := ⟨0x40080030, 0, 1, 0⟩
def GNS_ACQSTAT_CMDS : RegField := ⟨0x40080034, 0, 4, 0⟩
def GNS_ACQSTAT_RESULTS : RegField := ⟨0x40080034, 4, 4, 0⟩
def GNS_ACQSTAT_ACQ_REJ : RegField := ⟨0x40080034, 8, 1, 0⟩
def GNS_ACQSTAT_ACQ_STALL : RegField := ⟨0x40080034, 9, 1, 0⟩
def GNS_NOTCH_EN (i : Nat) : RegField := ⟨0x40080038 + 0x4 * (i % 4), 0, 1, 0⟩
def GNS_NOTCH_AUTO (i : Nat) : RegField := ⟨0x40080038 + 0x4 * (i % 4), 1, 1, 0⟩
def GNS_NOTCH_WIDTH (i : Nat) : RegField := ⟨0x40080038 + 0x4 * (i % 4), 2, 2, 0⟩
def GNS_NOTCH_LOCKED (i : Nat) : RegField := ⟨0x40080038 + 0x4 * (i % 4), 4, 1, 0⟩
def GNS_NOTCH_FREQ (i : Nat) : RegField := ⟨0x40080038 + 0x4 * (i % 4), 8, 16, 0⟩
def GNS_NOTCH_NOTCH_THR (i : Nat) : RegField := ⟨0x40080038 + 0x4 * (i % 4), 24, 5, 0⟩
def GNS_JAM_JAM_THR : RegField := ⟨0x40080048, 0, 8, 0x80⟩
def GNS_JAM_JAM_HYST : RegField := ⟨0x40080048, 8, 8, 0x10⟩
def GNS_JAM_J : RegField := ⟨0x40080048, 16, 8, 0⟩
def GNS_MEASCFG_PERIOD : RegField := ⟨0x4008004C, 0, 7, 10⟩
def GNS_MEASSTAT_BUF : RegField := ⟨0x40080050, 0, 1, 0⟩
def GNS_MEASSTAT_EPOCH : RegField := ⟨0x40080050, 1, 31, 0⟩
def GNS_TPCFG_TP_MODE : RegField := ⟨0x40080054, 0, 2, 1⟩
def GNS_TPCFG_POL : RegField := ⟨0x40080054, 2, 1, 0⟩
def GNS_TPPER_VALUE : RegField := ⟨0x40080058, 0, 26, 0xF4240⟩
def GNS_TPWID_VALUE : RegField := ⟨0x4008005C, 0, 26, 0x186A0⟩
def GNS_TPOFF_OFFSET : RegField := ⟨0x40080060, 0, 32, 0⟩
def GNS_TPQERR_LATE_PS : RegField := ⟨0x40080064, 0, 14, 0⟩
def GNS_STEERCFG_KP_SH : RegField := ⟨0x40080068, 0, 4, 1⟩
def GNS_STEERCFG_KI_SH : RegField := ⟨0x40080068, 4, 4, 5⟩
def GNS_STEERCFG_SLEW_LIM : RegField := ⟨0x40080068, 16, 16, 10000⟩
def GNS_STEERE_VALUE : RegField := ⟨0x4008006C, 0, 32, 0⟩
def GNS_STEERR_VALUE : RegField := ⟨0x40080070, 0, 32, 0⟩
def GNS_STEERCMD_CMD : RegField := ⟨0x40080074, 0, 2, 0⟩
def GNS_GTCTRL_TIME_VALID : RegField := ⟨0x40080078, 0, 1, 0⟩
def GNS_GTCTRL_SET : RegField := ⟨0x40080078, 1, 1, 0⟩
def GNS_GTSEC_SEC : RegField := ⟨0x4008007C, 0, 32, 0⟩
def GNS_GTNS_NS : RegField := ⟨0x40080080, 0, 30, 0⟩
def GNS_GTPHASE_PHASE : RegField := ⟨0x40080084, 0, 32, 0⟩
def GNS_GTRATE_RATE : RegField := ⟨0x40080088, 0, 32, 0⟩
def GNS_LOCKCFG_LOSS_THR : RegField := ⟨0x4008008C, 0, 16, 64⟩
def GNS_LOCKCFG_LOSS_N : RegField := ⟨0x4008008C, 16, 4, 3⟩
def GNS_LOCK_LOCK : RegField := ⟨0x40080090, 0, 1, 0⟩
def GNS_CCFG_EN (i : Nat) : RegField := ⟨0x40081000 + 0x80 * (i % 96), 0, 1, 0⟩
def GNS_CCFG_SYS (i : Nat) : RegField := ⟨0x40081000 + 0x80 * (i % 96), 1, 3, 0⟩
def GNS_CCFG_PRN (i : Nat) : RegField := ⟨0x40081000 + 0x80 * (i % 96), 4, 8, 0⟩
def GNS_CCFG_SLAVE (i : Nat) : RegField := ⟨0x40081000 + 0x80 * (i % 96), 12, 1, 0⟩
def GNS_CCFG_SEC_EN (i : Nat) : RegField := ⟨0x40081000 + 0x80 * (i % 96), 13, 1, 0⟩
def GNS_CCFG_LOST (i : Nat) : RegField := ⟨0x40081000 + 0x80 * (i % 96), 14, 1, 0⟩
def GNS_CCODE_CODE (i : Nat) : RegField := ⟨0x40081004 + 0x80 * (i % 96), 0, 32, 114420613⟩
def GNS_CCARR_CARR (i : Nat) : RegField := ⟨0x40081008 + 0x80 * (i % 96), 0, 32, 718064845⟩
def GNS_CSPC_NARROW (i : Nat) : RegField := ⟨0x4008100C + 0x80 * (i % 96), 0, 5, 4⟩
def GNS_CSPC_EL (i : Nat) : RegField := ⟨0x4008100C + 0x80 * (i % 96), 8, 6, 20⟩
def GNS_CSPC_VEVL (i : Nat) : RegField := ⟨0x4008100C + 0x80 * (i % 96), 16, 7, 40⟩
def GNS_CSPC_SPC_REJ (i : Nat) : RegField := ⟨0x4008100C + 0x80 * (i % 96), 31, 1, 0⟩
def GNS_CPH_PHASE (i : Nat) : RegField := ⟨0x40081010 + 0x80 * (i % 96), 0, 32, 0⟩
def GNS_CSTAT_SEQ (i : Nat) : RegField := ⟨0x40081014 + 0x80 * (i % 96), 0, 8, 0⟩
def GNS_CSTAT_BLOCK_READY (i : Nat) : RegField := ⟨0x40081014 + 0x80 * (i % 96), 8, 1, 0⟩
def GNS_CSTAT_OVR (i : Nat) : RegField := ⟨0x40081014 + 0x80 * (i % 96), 9, 1, 0⟩
def GNS_CHIST_HIST (i : Nat) : RegField := ⟨0x40081018 + 0x80 * (i % 96), 0, 32, 0⟩
def GNS_CDD_DD (i : Nat) : RegField := ⟨0x4008101C + 0x80 * (i % 96), 0, 32, 0⟩
def GNS_CCORR0_VALUE (i : Nat) : RegField := ⟨0x40081020 + 0x80 * (i % 96), 0, 32, 0⟩
def GNS_CCORR1_VALUE (i : Nat) : RegField := ⟨0x40081024 + 0x80 * (i % 96), 0, 32, 0⟩
def GNS_CCORR2_VALUE (i : Nat) : RegField := ⟨0x40081028 + 0x80 * (i % 96), 0, 32, 0⟩
def GNS_CCORR3_VALUE (i : Nat) : RegField := ⟨0x4008102C + 0x80 * (i % 96), 0, 32, 0⟩
def GNS_CCORR4_VALUE (i : Nat) : RegField := ⟨0x40081030 + 0x80 * (i % 96), 0, 32, 0⟩
def GNS_CCORR5_VALUE (i : Nat) : RegField := ⟨0x40081034 + 0x80 * (i % 96), 0, 32, 0⟩
def GNS_CCORR6_VALUE (i : Nat) : RegField := ⟨0x40081038 + 0x80 * (i % 96), 0, 32, 0⟩
def GNS_CCORR7_VALUE (i : Nat) : RegField := ⟨0x4008103C + 0x80 * (i % 96), 0, 32, 0⟩
def GNS_CCORR8_VALUE (i : Nat) : RegField := ⟨0x40081040 + 0x80 * (i % 96), 0, 32, 0⟩
def GNS_CCORR9_VALUE (i : Nat) : RegField := ⟨0x40081044 + 0x80 * (i % 96), 0, 32, 0⟩
def GNS_CCORR10_VALUE (i : Nat) : RegField := ⟨0x40081048 + 0x80 * (i % 96), 0, 32, 0⟩
def GNS_CCORR11_VALUE (i : Nat) : RegField := ⟨0x4008104C + 0x80 * (i % 96), 0, 32, 0⟩
def GNS_CCORR12_VALUE (i : Nat) : RegField := ⟨0x40081050 + 0x80 * (i % 96), 0, 32, 0⟩
def GNS_CCORR13_VALUE (i : Nat) : RegField := ⟨0x40081054 + 0x80 * (i % 96), 0, 32, 0⟩
def GNS_CSEC_SECPH (i : Nat) : RegField := ⟨0x40081058 + 0x80 * (i % 96), 0, 11, 0⟩
def GNS_CPOW_POW (i : Nat) : RegField := ⟨0x4008105C + 0x80 * (i % 96), 0, 32, 0⟩

def GNS_CTRL_reg : RegRow :=
  { base := 0x40080000, count := 1, stride := 4,
    rows := fun _ => [
      ⟨GNS_CTRL_EN, .rw, fun _ => true, false⟩,
      ⟨GNS_CTRL_AGC_AUTO, .rw, fun _ => true, false⟩,
      ⟨GNS_CTRL_STEER_EN, .rw, fun _ => true, false⟩] }

def GNS_STATUS_reg : RegRow :=
  { base := 0x40080004, count := 1, stride := 4,
    rows := fun _ => [
      ⟨GNS_STATUS_TIME_VALID, .ro, fun _ => true, false⟩,
      ⟨GNS_STATUS_STEER_LOCK, .ro, fun _ => true, false⟩,
      ⟨GNS_STATUS_HOLDOVER, .ro, fun _ => true, false⟩,
      ⟨GNS_STATUS_COARSE_HOLD, .ro, fun _ => true, false⟩,
      ⟨GNS_STATUS_STEER_ACTIVE, .ro, fun _ => true, false⟩,
      ⟨GNS_STATUS_JAM, .ro, fun _ => true, false⟩,
      ⟨GNS_STATUS_TP_VALID, .ro, fun _ => true, false⟩] }

def GNS_GAIN_reg : RegRow :=
  { base := 0x40080008, count := 1, stride := 4,
    rows := fun _ => [
      ⟨GNS_GAIN_GAIN, .rw, fun _ => true, false⟩] }

def GNS_ACQW_reg : RegRow :=
  { base := 0x4008000C, count := 4, stride := 4,
    rows := fun i => [
      ⟨GNS_ACQW_BYTES i, .rw, fun _ => true, false⟩] }

def GNS_ACQPUSH_reg : RegRow :=
  { base := 0x4008001C, count := 1, stride := 4,
    rows := fun _ => [
      ⟨GNS_ACQPUSH_PUSH, .wo, fun _ => true, false⟩,
      ⟨GNS_ACQPUSH_ABORT, .wo, fun _ => true, false⟩] }

def GNS_ACQR_reg : RegRow :=
  { base := 0x40080020, count := 4, stride := 4,
    rows := fun i => [
      ⟨GNS_ACQR_BYTES i, .ro, fun _ => true, false⟩] }

def GNS_ACQPOP_reg : RegRow :=
  { base := 0x40080030, count := 1, stride := 4,
    rows := fun _ => [
      ⟨GNS_ACQPOP_POP, .wo, fun _ => true, false⟩] }

def GNS_ACQSTAT_reg : RegRow :=
  { base := 0x40080034, count := 1, stride := 4,
    rows := fun _ => [
      ⟨GNS_ACQSTAT_CMDS, .ro, fun _ => true, false⟩,
      ⟨GNS_ACQSTAT_RESULTS, .ro, fun _ => true, false⟩,
      ⟨GNS_ACQSTAT_ACQ_REJ, .ro, fun _ => true, false⟩,
      ⟨GNS_ACQSTAT_ACQ_STALL, .ro, fun _ => true, false⟩] }

def GNS_NOTCH_reg : RegRow :=
  { base := 0x40080038, count := 4, stride := 4,
    rows := fun i => [
      ⟨GNS_NOTCH_EN i, .rw, fun _ => true, false⟩,
      ⟨GNS_NOTCH_AUTO i, .rw, fun _ => true, false⟩,
      ⟨GNS_NOTCH_WIDTH i, .rw, fun _ => true, false⟩,
      ⟨GNS_NOTCH_LOCKED i, .ro, fun _ => true, false⟩,
      { field := GNS_NOTCH_FREQ i, access := .rw, legal := fun v => signedIn 16 (-19200) 19200 v },
      { field := GNS_NOTCH_NOTCH_THR i, access := .rw, legal := fun v => within 6 31 v }] }

def GNS_JAM_reg : RegRow :=
  { base := 0x40080048, count := 1, stride := 4,
    rows := fun _ => [
      ⟨GNS_JAM_JAM_THR, .rw, fun _ => true, false⟩,
      ⟨GNS_JAM_JAM_HYST, .rw, fun _ => true, false⟩,
      ⟨GNS_JAM_J, .ro, fun _ => true, false⟩] }

def GNS_MEASCFG_reg : RegRow :=
  { base := 0x4008004C, count := 1, stride := 4,
    rows := fun _ => [
      { field := GNS_MEASCFG_PERIOD, access := .rw, legal := fun v => within 1 100 v }] }

def GNS_MEASSTAT_reg : RegRow :=
  { base := 0x40080050, count := 1, stride := 4,
    rows := fun _ => [
      ⟨GNS_MEASSTAT_BUF, .ro, fun _ => true, false⟩,
      ⟨GNS_MEASSTAT_EPOCH, .ro, fun _ => true, false⟩] }

def GNS_TPCFG_reg : RegRow :=
  { base := 0x40080054, count := 1, stride := 4,
    rows := fun _ => [
      { field := GNS_TPCFG_TP_MODE, access := .rw, legal := fun v => v != 3 },
      ⟨GNS_TPCFG_POL, .rw, fun _ => true, false⟩] }

def GNS_TPPER_reg : RegRow :=
  { base := 0x40080058, count := 1, stride := 4,
    rows := fun _ => [
      ⟨GNS_TPPER_VALUE, .rw, fun _ => true, false⟩] }

def GNS_TPWID_reg : RegRow :=
  { base := 0x4008005C, count := 1, stride := 4,
    rows := fun _ => [
      ⟨GNS_TPWID_VALUE, .rw, fun _ => true, false⟩] }

def GNS_TPOFF_reg : RegRow :=
  { base := 0x40080060, count := 1, stride := 4,
    rows := fun _ => [
      { field := GNS_TPOFF_OFFSET, access := .rw, legal := fun v => signedIn 32 (-999999999) 999999999 v }] }

def GNS_TPQERR_reg : RegRow :=
  { base := 0x40080064, count := 1, stride := 4,
    rows := fun _ => [
      ⟨GNS_TPQERR_LATE_PS, .ro, fun _ => true, false⟩] }

def GNS_STEERCFG_reg : RegRow :=
  { base := 0x40080068, count := 1, stride := 4,
    rows := fun _ => [
      ⟨GNS_STEERCFG_KP_SH, .rw, fun _ => true, false⟩,
      ⟨GNS_STEERCFG_KI_SH, .rw, fun _ => true, false⟩,
      { field := GNS_STEERCFG_SLEW_LIM, access := .rw, legal := fun v => 1000 ≤ v }] }

def GNS_STEERE_reg : RegRow :=
  { base := 0x4008006C, count := 1, stride := 4,
    rows := fun _ => [
      ⟨GNS_STEERE_VALUE, .ro, fun _ => true, false⟩] }

def GNS_STEERR_reg : RegRow :=
  { base := 0x40080070, count := 1, stride := 4,
    rows := fun _ => [
      ⟨GNS_STEERR_VALUE, .ro, fun _ => true, false⟩] }

def GNS_STEERCMD_reg : RegRow :=
  { base := 0x40080074, count := 1, stride := 4,
    rows := fun _ => [
      ⟨GNS_STEERCMD_CMD, .wo, fun _ => true, false⟩] }

def GNS_GTCTRL_reg : RegRow :=
  { base := 0x40080078, count := 1, stride := 4,
    rows := fun _ => [
      ⟨GNS_GTCTRL_TIME_VALID, .rw, fun _ => true, false⟩,
      ⟨GNS_GTCTRL_SET, .wo, fun _ => true, false⟩] }

def GNS_GTSEC_reg : RegRow :=
  { base := 0x4008007C, count := 1, stride := 4,
    rows := fun _ => [
      ⟨GNS_GTSEC_SEC, .rw, fun _ => true, false⟩] }

def GNS_GTNS_reg : RegRow :=
  { base := 0x40080080, count := 1, stride := 4,
    rows := fun _ => [
      { field := GNS_GTNS_NS, access := .rw, legal := fun v => v ≤ 999999999 }] }

def GNS_GTPHASE_reg : RegRow :=
  { base := 0x40080084, count := 1, stride := 4,
    rows := fun _ => [
      ⟨GNS_GTPHASE_PHASE, .wo, fun _ => true, false⟩] }

def GNS_GTRATE_reg : RegRow :=
  { base := 0x40080088, count := 1, stride := 4,
    rows := fun _ => [
      { field := GNS_GTRATE_RATE, access := .rw, legal := fun v => signedIn 32 (-160000) 160000 v }] }

def GNS_LOCKCFG_reg : RegRow :=
  { base := 0x4008008C, count := 1, stride := 4,
    rows := fun _ => [
      ⟨GNS_LOCKCFG_LOSS_THR, .rw, fun _ => true, false⟩,
      { field := GNS_LOCKCFG_LOSS_N, access := .rw, legal := fun v => v != 0 }] }

def GNS_LOCK_reg : RegRow :=
  { base := 0x40080090, count := 1, stride := 4,
    rows := fun _ => [
      ⟨GNS_LOCK_LOCK, .w1s, fun _ => true, false⟩] }

def GNS_CCFG_reg : RegRow :=
  { base := 0x40081000, count := 96, stride := 128, whole := true,
    rows := fun i => [
      ⟨GNS_CCFG_EN i, .rw, fun _ => true, false⟩,
      { field := GNS_CCFG_SYS i, access := .rw, legal := fun v => v != 7 },
      ⟨GNS_CCFG_PRN i, .rw, fun _ => true, false⟩,
      ⟨GNS_CCFG_SLAVE i, .rw, fun _ => true, false⟩,
      ⟨GNS_CCFG_SEC_EN i, .rw, fun _ => true, false⟩,
      ⟨GNS_CCFG_LOST i, .ro, fun _ => true, false⟩] }

def GNS_CCODE_reg : RegRow :=
  { base := 0x40081004, count := 96, stride := 128,
    rows := fun i => [
      ⟨GNS_CCODE_CODE i, .rw, fun _ => true, false⟩] }

def GNS_CCARR_reg : RegRow :=
  { base := 0x40081008, count := 96, stride := 128,
    rows := fun i => [
      ⟨GNS_CCARR_CARR i, .rw, fun _ => true, false⟩] }

def GNS_CSPC_reg : RegRow :=
  { base := 0x4008100C, count := 96, stride := 128,
    rows := fun i => [
      ⟨GNS_CSPC_NARROW i, .rw, fun _ => true, false⟩,
      ⟨GNS_CSPC_EL i, .rw, fun _ => true, false⟩,
      ⟨GNS_CSPC_VEVL i, .rw, fun _ => true, false⟩,
      ⟨GNS_CSPC_SPC_REJ i, .ro, fun _ => true, false⟩] }

def GNS_CPH_reg : RegRow :=
  { base := 0x40081010, count := 96, stride := 128,
    rows := fun i => [
      ⟨GNS_CPH_PHASE i, .rw, fun _ => true, false⟩] }

def GNS_CSTAT_reg : RegRow :=
  { base := 0x40081014, count := 96, stride := 128,
    rows := fun i => [
      ⟨GNS_CSTAT_SEQ i, .ro, fun _ => true, false⟩,
      ⟨GNS_CSTAT_BLOCK_READY i, .w1c, fun _ => true, false⟩,
      ⟨GNS_CSTAT_OVR i, .w1c, fun _ => true, false⟩] }

def GNS_CHIST_reg : RegRow :=
  { base := 0x40081018, count := 96, stride := 128,
    rows := fun i => [
      ⟨GNS_CHIST_HIST i, .ro, fun _ => true, false⟩] }

def GNS_CDD_reg : RegRow :=
  { base := 0x4008101C, count := 96, stride := 128,
    rows := fun i => [
      ⟨GNS_CDD_DD i, .ro, fun _ => true, false⟩] }

def GNS_CCORR0_reg : RegRow :=
  { base := 0x40081020, count := 96, stride := 128,
    rows := fun i => [
      ⟨GNS_CCORR0_VALUE i, .ro, fun _ => true, false⟩] }

def GNS_CCORR1_reg : RegRow :=
  { base := 0x40081024, count := 96, stride := 128,
    rows := fun i => [
      ⟨GNS_CCORR1_VALUE i, .ro, fun _ => true, false⟩] }

def GNS_CCORR2_reg : RegRow :=
  { base := 0x40081028, count := 96, stride := 128,
    rows := fun i => [
      ⟨GNS_CCORR2_VALUE i, .ro, fun _ => true, false⟩] }

def GNS_CCORR3_reg : RegRow :=
  { base := 0x4008102C, count := 96, stride := 128,
    rows := fun i => [
      ⟨GNS_CCORR3_VALUE i, .ro, fun _ => true, false⟩] }

def GNS_CCORR4_reg : RegRow :=
  { base := 0x40081030, count := 96, stride := 128,
    rows := fun i => [
      ⟨GNS_CCORR4_VALUE i, .ro, fun _ => true, false⟩] }

def GNS_CCORR5_reg : RegRow :=
  { base := 0x40081034, count := 96, stride := 128,
    rows := fun i => [
      ⟨GNS_CCORR5_VALUE i, .ro, fun _ => true, false⟩] }

def GNS_CCORR6_reg : RegRow :=
  { base := 0x40081038, count := 96, stride := 128,
    rows := fun i => [
      ⟨GNS_CCORR6_VALUE i, .ro, fun _ => true, false⟩] }

def GNS_CCORR7_reg : RegRow :=
  { base := 0x4008103C, count := 96, stride := 128,
    rows := fun i => [
      ⟨GNS_CCORR7_VALUE i, .ro, fun _ => true, false⟩] }

def GNS_CCORR8_reg : RegRow :=
  { base := 0x40081040, count := 96, stride := 128,
    rows := fun i => [
      ⟨GNS_CCORR8_VALUE i, .ro, fun _ => true, false⟩] }

def GNS_CCORR9_reg : RegRow :=
  { base := 0x40081044, count := 96, stride := 128,
    rows := fun i => [
      ⟨GNS_CCORR9_VALUE i, .ro, fun _ => true, false⟩] }

def GNS_CCORR10_reg : RegRow :=
  { base := 0x40081048, count := 96, stride := 128,
    rows := fun i => [
      ⟨GNS_CCORR10_VALUE i, .ro, fun _ => true, false⟩] }

def GNS_CCORR11_reg : RegRow :=
  { base := 0x4008104C, count := 96, stride := 128,
    rows := fun i => [
      ⟨GNS_CCORR11_VALUE i, .ro, fun _ => true, false⟩] }

def GNS_CCORR12_reg : RegRow :=
  { base := 0x40081050, count := 96, stride := 128,
    rows := fun i => [
      ⟨GNS_CCORR12_VALUE i, .ro, fun _ => true, false⟩] }

def GNS_CCORR13_reg : RegRow :=
  { base := 0x40081054, count := 96, stride := 128,
    rows := fun i => [
      ⟨GNS_CCORR13_VALUE i, .ro, fun _ => true, false⟩] }

def GNS_CSEC_reg : RegRow :=
  { base := 0x40081058, count := 96, stride := 128,
    rows := fun i => [
      ⟨GNS_CSEC_SECPH i, .rw, fun _ => true, false⟩] }

def GNS_CPOW_reg : RegRow :=
  { base := 0x4008105C, count := 96, stride := 128,
    rows := fun i => [
      ⟨GNS_CPOW_POW i, .ro, fun _ => true, false⟩] }

/-- Every register of the GNS block, by address. -/
def gnsRegs : List RegRow :=
  [GNS_CTRL_reg, GNS_STATUS_reg, GNS_GAIN_reg, GNS_ACQW_reg, GNS_ACQPUSH_reg, GNS_ACQR_reg, GNS_ACQPOP_reg, GNS_ACQSTAT_reg, GNS_NOTCH_reg, GNS_JAM_reg, GNS_MEASCFG_reg, GNS_MEASSTAT_reg, GNS_TPCFG_reg, GNS_TPPER_reg, GNS_TPWID_reg, GNS_TPOFF_reg, GNS_TPQERR_reg, GNS_STEERCFG_reg, GNS_STEERE_reg, GNS_STEERR_reg, GNS_STEERCMD_reg, GNS_GTCTRL_reg, GNS_GTSEC_reg, GNS_GTNS_reg] ++
  [GNS_GTPHASE_reg, GNS_GTRATE_reg, GNS_LOCKCFG_reg, GNS_LOCK_reg, GNS_CCFG_reg, GNS_CCODE_reg, GNS_CCARR_reg, GNS_CSPC_reg, GNS_CPH_reg, GNS_CSTAT_reg, GNS_CHIST_reg, GNS_CDD_reg, GNS_CCORR0_reg, GNS_CCORR1_reg, GNS_CCORR2_reg, GNS_CCORR3_reg, GNS_CCORR4_reg, GNS_CCORR5_reg, GNS_CCORR6_reg, GNS_CCORR7_reg, GNS_CCORR8_reg, GNS_CCORR9_reg, GNS_CCORR10_reg, GNS_CCORR11_reg] ++
  [GNS_CCORR12_reg, GNS_CCORR13_reg, GNS_CSEC_reg, GNS_CPOW_reg]

end Sys2Proof.Machine
end

