-- ==== Sys2Proof/Machine/Radio.lean ====
section
/-! DEFINITION. The commands of the radio front end (spec/02_radio_front_end.md): path states, frequencies,
calibrations, saturation, the regulatory profile and the duty accounts. -/
namespace Sys2Proof.Machine

/-- R37: the state that a path takes next on its way from `cur` to the commanded `goal`. -/
def nextPathState (cur goal : Nat) : Nat :=
  if cur = goal then cur
  else if goal = 0 then (if cur = 1 then 0 else 1)
  else if goal = 1 then 1
  else if cur = 0 then 1
  else if cur = 1 then 2
  else if cur = 2 ∧ goal = 3 then 3
  else 1

/-- R37, R40, RFC_CMD: a write requests a state change of an unowned path; on an owned path it is ignored and sets
CMD_REJ. PATH 3, an illegal TARGET, and path B of the KW-7250-T (R3) ignore the whole write. A transmitter on the air is
ramped down first. -/
def execRadioStateCommand (value : Word) (s : State) : Host.Outcome State Fault Refusal :=
  let target := slice value.toNat 4 3
  match pathOf (slice value.toNat 0 2) with
  | none => goOn s
  | some p =>
    if !s.hasPath p || 3 < target || (target == 3 && p == .t) then goOn s
    else if s.owned p then goOn (s.flag RFC_STATE_CMD_REJ true)
    else
      let s := s.flag RFC_STATE_CMD_REJ false
      let s := s.setPath p { s.path p with goal := some target }
      let cur := s.get (pathField p)
      goOn (if p = .t ∧ (cur = 4 ∨ cur = 5) then s.enter .t 6 else s)

/-- R37: a path completes the transition it was in: it takes the next state towards its goal, raising E16, and E17 where
its synthesiser locks. A path with no goal makes no transition. -/
def execRadioStateReached (path : Path) (s : State) : Host.Outcome State Fault Refusal :=
  if s.refFailed then goOn s
  else match (s.path path).goal with
  | none => goOn s
  | some g =>
    let cur := s.get (pathField path)
    let nx := nextPathState cur g
    let s := if nx = g then s.setPath path { s.path path with goal := none } else s
    let s := s.enter path nx
    goOn (if nx = 2 ∨ (cur = g ∧ 2 ≤ cur) then s.lock path else s)

/-- R42, R388: a synthesiser that is up loses lock: E18, PLLUNLOCK in Compatibility mode, and it recalibrates at once and locks again. -/
def execSynthUnlock (path : Path) (s : State) : Host.Outcome State Fault Refusal :=
  let cur := s.get (pathField path)
  if cur < 2 then goOn s
  else
    let s := ((s.raise 18).lgyFlag 42).calibrated path
    goOn (s.setPath path { s.path path with goal := some (if path = .t then (if cur = 2 then 2 else (s.path path).goal.getD cur) else cur) })

/-- The FREQ field of a path. -/
def freqField : Path → RegField
  | .a => RFC_FREQ_A_FREQ
  | .b => RFC_FREQ_B_FREQ
  | .t => RFC_FREQ_T_FREQ

/-- The frequency range of a path (R33, R34). -/
def freqOk (p : Path) (f : Nat) : Bool :=
  match p with
  | .t => 410000000 ≤ f && f ≤ 960000000
  | _ => 416400000 ≤ f && f ≤ 953600000

/-- R40 and RFC_FREQ_x: on an owned path the write is ignored with CMD_REJ; out of range it is ignored with FREQ_ERR;
with a program running in Concentrator mode a half's frequency is staged for the next boundary. The change marks the
map for rebuilding (R69) and, under policy CHANGE, the transmitter for recalibration (R41). -/
def execFreqWrite (path : Path) (value : Word) (s : State) : Host.Outcome State Fault Refusal :=
  let f := slice value.toNat 0 30
  if !s.hasPath path then goOn s
  else if s.owned path then goOn (s.flag RFC_STATE_CMD_REJ true)
  else if !freqOk path f then goOn (s.flag RFC_STATE_FREQ_ERR true)
  else
    let changed := s.get (freqField path) != f
    let s := ((s.flag RFC_STATE_FREQ_ERR false).flag RFC_STATE_CMD_REJ false).put (freqField path) f
    match path with
    | .t => goOn (if changed && s.slot.policy != 1 then s.setPath .t { s.path .t with marked := true } else s)
    | .a =>
      let s := if changed then s.mapChanged else s
      goOn (if s.running && s.mode == modeConc then { s with radio := { s.radio with stagedA := some f } } else s)
    | .b =>
      let s := if changed then s.mapChanged else s
      goOn (if s.running && s.mode == modeConc then { s with radio := { s.radio with stagedB := some f } } else s)

/-- The die has moved from a path's calibration temperature by more than `dt` quarter degrees. -/
def movedBeyond (dt : Nat) (temp : Int) (c : PathCal) : Bool :=
  match c.calTemp with
  | none => false
  | some t => decide ((dt : Int) < (temp - t).natAbs)

/-- R42: the die temperature is now `temp` (0.25 °C units); each path that it has left by more than DELTA_T is marked to
recalibrate, and E21 is raised if there is one. -/
def execTempDelta (temp : Int) (s : State) : Host.Outcome State Fault Refusal :=
  let s := s.put RFC_TEMP_TEMP (unsigned 12 temp)
  let dt := 4 * s.get RFC_CALCFG_DELTA_T
  let hit := [Path.a, .b, .t].filter fun p => s.hasPath p && movedBeyond dt temp (s.path p)
  let s := hit.foldl (fun s p => s.setPath p { s.path p with marked := true }) s
  goOn (s.raiseIf (!hit.isEmpty) 21)

/-- The calibration TYPE can run on the path (R44). -/
def calTypeOk (type : Nat) (p : Path) : Bool := type == 1 || (p != .t && (type == 2 || type == 3 || type == 5))

/-- The RESULT codes of RFC_CALSTAT. -/
def State.calResult (s : State) (r : Nat) : State := s.put RFC_CALSTAT_RESULT r

/-- A calibration begins: BUSY, and a half's lanes are blanked with reason CAL (R45). -/
def State.beginCal (s : State) (c : Calibration) : State :=
  let s := ({ s with radio := { s.radio with calib := some c } }).flag RFC_CALSTAT_BUSY true
  if c.type != 4 && c.target < 2 then s.blankHalf .cal c.target else s

/-- An explicit calibration waits for a CALIBRATION cell of its path: BUSY (R46). -/
def State.holdCal (s : State) (c : Calibration) : State :=
  ({ s with radio := { s.radio with calHeld := some c } }).flag RFC_CALSTAT_BUSY true

/-- R46: an explicit calibration. TYPE 0, 6, 7 and TARGET 3 ignore the whole write; a TYPE that the path cannot run ends
INVALID; with another calibration in progress, or with the path receiving or transmitting, it is refused with BUSY; on an
owned path it is held for the next CALIBRATION cell; otherwise it starts. -/
def execCalibrationStart (value : Word) (s : State) : Host.Outcome State Fault Refusal :=
  let type := slice value.toNat 0 3
  let target := slice value.toNat 4 2
  if type = 0 ∨ 6 ≤ type then goOn s
  else if type = 4 then
    if s.on RFC_CALSTAT_BUSY then goOn (s.calResult 5)
    else goOn (s.beginCal { type := 4, target := 0, slots := 0, background := false })
  else match pathOf target with
  | none => goOn s
  | some p =>
    if !s.hasPath p then goOn s
    else if !calTypeOk type p then goOn (s.calResult 4)
    else if s.on RFC_CALSTAT_BUSY then goOn (s.calResult 5)
    else
      let c : Calibration := { type := type, target := target, slots := 0, background := false }
      if s.owned p then goOn (s.holdCal c)
      else if 3 ≤ s.get (pathField p) then goOn (s.calResult 5)
      else goOn (s.beginCal c)

/-- The calibration in progress ends: BUSY clears unless another is held, the CAL blanking of its half ends, a background
rotation of the half moves on (R45). -/
def State.endCal (s : State) (c : Calibration) : State :=
  let s := ({ s with radio := { s.radio with calib := none } }).flag RFC_CALSTAT_BUSY s.radio.calHeld.isSome
  let s := if c.background && c.target == 0 then { s with radio := { s.radio with rotA := (s.radio.rotA + 1) % 4 } }
    else if c.background && c.target == 1 then { s with radio := { s.radio with rotB := (s.radio.rotB + 1) % 4 } } else s
  if c.type != 4 && c.target < 2 then s.unblankHalf .cal c.target else s

/-- The next calibration of the slot's CALIBRATION cells starts once none is in progress (R45). -/
def State.nextCal (s : State) : State :=
  match s.radio.calib, s.radio.calWait with
  | none, c :: cs => ({ s with radio := { s.radio with calWait := cs } }).beginCal c
  | _, _ => s

/-- The result word of a completed calibration is kept for its path (R44). -/
def State.storeCal (s : State) (c : Calibration) (w : Nat) : State :=
  if c.type = 4 then s.put RFC_CALRES_XTAL_ERR_PPB w
  else match pathOf c.target with
  | none => s
  | some p =>
    let q := s.path p
    match c.type with
    | 1 => (s.setPath p { q with vco := w }).calibrated p
    | 2 => s.setPath p { q with imr := w }
    | 3 => s.setPath p { q with chbw := w }
    | _ => s.setPath p { q with dciq := w }

/-- R44, R46: the running calibration completes with the measured result word. Outside its valid range the previous
coefficients stay, RESULT = RANGE and E20 is raised; crystal trim without a valid time solution ends NOREF; otherwise the
result is stored, COUNT increments and E19 is raised. -/
def execCalibrationDone (inRange : Bool) (result : Word) (s : State) : Host.Outcome State Fault Refusal :=
  match s.radio.calib with
  | none => goOn s
  | some c =>
    let s := ((s.endCal c).put RFC_CALSTAT_LAST_TYPE c.type).put RFC_CALSTAT_LAST_TARGET c.target
    let s := if c.type = 4 ∧ !s.on GNS_GTCTRL_TIME_VALID then s.calResult 2
      else if !inRange then (s.calResult 1).raise 20
      else (((s.storeCal c result.toNat).calResult 0).bumpWrap RFC_CALSTAT_COUNT).raise 19
    goOn s.nextCal

/-- A held calibration ends ABORTED (R46). -/
def State.abortHeld (s : State) : State :=
  match s.radio.calHeld with
  | none => s
  | some c =>
    let s := ({ s with radio := { s.radio with calHeld := none } }).flag RFC_CALSTAT_BUSY s.radio.calib.isSome
    ((s.put RFC_CALSTAT_LAST_TYPE c.type).put RFC_CALSTAT_LAST_TARGET c.target).calResult 3

/-- The calibration in progress and a held one are stopped and keep the previous coefficients (R46 last row). -/
def State.abortCal (s : State) : State :=
  let s := { s with radio := { s.radio with calWait := [] } }
  let s := match s.radio.calib with
    | none => s
    | some c => (((s.endCal { c with background := false }).put RFC_CALSTAT_LAST_TYPE c.type).put
        RFC_CALSTAT_LAST_TARGET c.target).calResult 3
  s.abortHeld

/-- R46: a held calibration that has met no CALIBRATION cell for its path within 65 535 slots ends ABORTED. -/
def execCalHoldExpired (s : State) : Host.Outcome State Fault Refusal :=
  match s.radio.calHeld with
  | none => goOn s
  | some c => if 65535 ≤ c.slots then goOn s.abortHeld else goOn s

def satField : Half → RegField
  | .a => RFC_GAIN_A_SAT_COUNT
  | .b => RFC_GAIN_B_SAT_COUNT

def halfNo : Half → Nat
  | .a => 0
  | .b => 1

/-- R47, R50: a half's ADC saturates: E28 or E29, SAT_COUNT, and within a blanking window the whole half is blanked. -/
def execAdcSaturation (half : Half) (s : State) : Host.Outcome State Fault Refusal :=
  if !s.hasPath (halfPath half) then goOn s
  else
    let s := (s.bump (satField half)).raise (28 + halfNo half)
    goOn (if s.radio.txWindow then s.blankHalf .tx (halfNo half) else s)

/-- R55, R53: the owner writes the regulatory profile object 0x2010.01. -/
def execProfileWrite (image : List Byte) (s : State) : Host.Outcome State Fault Refusal :=
  if s.on RFC_REGSTAT_REGLOCK then goOn (s.answer .access)
  else if !profileOk image s.serialInForce then goOn (s.answer .range)
  else goOn ((s.acceptProfile image).answer .ok)

/-- R55: writing 1 to 0x2010.02 sets REGLOCK in OTP, anchors the hash and the serial of the profile in force and raises
E30. REGLOCK cannot be cleared, and a second setting changes nothing. -/
def execReglockSet (value : Nat) (s : State) : Host.Outcome State Fault Refusal :=
  if value ≠ 1 then goOn (s.answer .range)
  else if s.on RFC_REGSTAT_REGLOCK then goOn (s.answer .ok)
  else
    let img := s.radio.profile
    let s := s.setBytes 0x28000234 (leBytes 4 0x5A5A5A5A ++ leBytes 4 (profNum img 8 4) ++ img.drop (32 + 48 * profBands img))
    goOn (((s.flag RFC_REGSTAT_REGLOCK true).raise 30).answer .ok)

/-- One group's account at a second tick: the bucket leaving the window is subtracted and cleared (R58). -/
def dutyTick (second : Nat) (d : DutyGroup) : DutyGroup :=
  let k := second % 3600
  { d with sum := d.sum - Sparse.read 0 d.buckets k, buckets := Sparse.write 0 d.buckets k 0,
           precharged := d.precharged - 1 }

/-- R58, R59: a second of the reference clock passes for every duty group. -/
def execDutySecondTick (s : State) : Host.Outcome State Fault Refusal :=
  let s := { s with radio := { s.radio with second := s.radio.second + 1 } }
  goOn ((List.range 8).foldl (fun (s : State) g => s.setDuty g (dutyTick s.radio.second (s.duty g))) s)

end Sys2Proof.Machine
end

