-- ==== Sys2Proof/Machine/FlashCode.lean ====
section
/-! DEFINITION. The page code of the flash (R320 to R323): a binary BCH code over GF(2^15), systematic and shortened. -/
namespace Sys2Proof.Machine

/-! The field GF(2^15) with x^15 + x + 1 (R321); an element is the number of its coefficient bits. -/

/-- Bitwise exclusive or. -/
def gfAdd (a b : Nat) : Nat := Nat.xor a b

/-- α · a. -/
def gfTwice (a : Nat) : Nat := if 2 * a < 32768 then 2 * a else gfAdd (2 * a) 0x8003

def gfMulGo : Nat → Nat → Nat → Nat
  | 0, _, _ => 0
  | n + 1, a, b => gfAdd (if b % 2 = 1 then a else 0) (gfMulGo n (gfTwice a) (b / 2))

def gfMul (a b : Nat) : Nat := gfMulGo 15 a b

/-- a^n for n < 2^15. -/
def gfPowGo : Nat → Nat → Nat → Nat
  | 0, _, _ => 1
  | k + 1, a, n => gfMul (if n % 2 = 1 then a else 1) (gfPowGo k (gfMul a a) (n / 2))

def gfPow (a n : Nat) : Nat := gfPowGo 15 a n

/-- α^n; α has order 2^15 − 1. -/
def gfAlpha (n : Nat) : Nat := gfPow 2 (n % 32767)

def gfInv (a : Nat) : Nat := gfPow a 32766

/-- A polynomial over the field, lowest coefficient first, times (x + r). -/
def polyTimesRoot (p : List Nat) (r : Nat) : List Nat :=
  List.zipWith gfAdd (0 :: p) ((p.map (gfMul r)) ++ [0])

/-- t of strength code `s` (R320). -/
def bchT (s : Nat) : Nat := [4, 8, 16, 24].getD s 4

/-- Parity bits and codeword bits. -/
def bchR (s : Nat) : Nat := 15 * bchT s
def bchN (s : Nat) : Nat := 16416 + bchR s

/-- The generator g(x): the minimal polynomials of α^j, j odd below 2t, multiplied; the conjugates of α^j are its powers by
2^k. Even powers share the minimal polynomial of an odd one. -/
def bchGen (s : Nat) : Nat :=
  let roots := (List.range (bchT s)).flatMap fun i => (List.range 15).map fun k => gfAlpha ((2 * i + 1) * 2 ^ k)
  (roots.foldl polyTimesRoot [1]).foldr (fun c n => 2 * n + c % 2) 0

/-- The bits of the bytes, least significant first in each byte, as the code numbers them. -/
def byteBits (bs : List Byte) : List Bool := bs.flatMap fun b => (List.range 8).map fun k => bit b.toNat k

/-- Bytes of bits, least significant first. -/
def bitsByte : Nat → List Bool → List Byte
  | 0, _ => []
  | n + 1, l => BitVec.ofNat 8 ((l.take 8).foldr (fun b v => 2 * v + ofBool b) 0) :: bitsByte n (l.drop 8)

/-- The parity bits p = 0 … of a message: the remainder of the message polynomial times x^(15t) modulo g(x). -/
def bchParity (s : Nat) (msg : List Bool) : List Bool :=
  let r := bchR s
  let g := bchGen s % 2 ^ r
  let rem := msg.foldl (fun v m =>
    let fb := bit v (r - 1) != m
    let v := v * 2 % 2 ^ r
    if fb then gfAdd v g else v) 0
  (List.range r).map fun p => bit rem (r - 1 - p)

/-- Spare bytes 0 to 3 (R320). -/
def spareHead (s : Nat) : List Byte := [BitVec.ofNat 8 (0x50 + s), BitVec.ofNat 8 (0x50 + s), BitVec.ofNat 8 (0x50 + s), 0]

/-- The 2 112 bytes stored for a page of 2 048 data bytes at strength `s`, with the codeword bits of `flips` inverted. -/
def encodePage (s : Nat) (data : List Byte) (flips : List Nat) : List Byte :=
  let msg := byteBits (data ++ spareHead s)
  let word := msg ++ bchParity s msg
  let word := (word.zipIdx).map fun x => x.1 != flips.contains x.2
  let p := divUp (bchR s) 8
  let bs := bitsByte (2052 + p) (word ++ List.replicate (8 * p - bchR s) true)
  bs ++ List.replicate (60 - p) 0xFF

/-- Syndromes S_1 to S_2t of the codeword bits. -/
def bchSyndromes (t : Nat) (word : List Bool) : List Nat :=
  (List.range (2 * t)).map fun j =>
    let a := gfAlpha (j + 1)
    word.foldl (fun v b => gfAdd (gfMul v a) (ofBool b)) 0

/-- One step of the Berlekamp–Massey algorithm: locator, previous locator, length, gap, previous discrepancy. -/
structure BmState where
  c : List Nat := [1]
  b : List Nat := [1]
  l : Nat := 0
  m : Nat := 1
  d : Nat := 1

def polyAdd : List Nat → List Nat → List Nat
  | [], q => q
  | p, [] => p
  | a :: p, b :: q => gfAdd a b :: polyAdd p q

def bmStep (syn : List Nat) (st : BmState) (n : Nat) : BmState :=
  let d := (List.range (st.l + 1)).foldl (fun v i => gfAdd v (gfMul (st.c.getD i 0) (syn.getD (n - i) 0))) 0
  if d = 0 then { st with m := st.m + 1 }
  else
    let c := polyAdd st.c (List.replicate st.m 0 ++ st.b.map (gfMul (gfMul d (gfInv st.d))))
    if 2 * st.l ≤ n then { c := c, b := st.c, l := n + 1 - st.l, m := 1, d := d }
    else { st with c := c, m := st.m + 1 }

/-- The error positions of a word within distance t of a codeword, none where there is no such codeword. -/
def bchErrors (t : Nat) (word : List Bool) : Option (List Nat) :=
  let syn := bchSyndromes t word
  if syn.all (· == 0) then some []
  else
    let st := (List.range (2 * t)).foldl (bmStep syn) {}
    let n := word.length
    let isRoot (i : Nat) : Bool :=
      let x := gfInv (gfAlpha (n - 1 - i))
      st.c.foldr (fun c v => gfAdd (gfMul v x) c) 0 == 0
    let pos := (List.range n).filter isRoot
    if st.l ≤ t ∧ pos.length = st.l then some pos else none

/-- The result of decoding a page (R323, R324): RESULT, bits corrected, REASON = STRENGTH, data. -/
structure PageDecode where
  result : Nat
  bits : Nat := 0
  strength : Bool := false
  data : List Byte := []
deriving DecidableEq, Repr

def zeroBits (bs : List Byte) : Nat := bs.foldl (fun n b => n + (8 - popCount 8 b.toNat)) 0

/-- Bitwise majority of three. -/
def majority (a b c : Nat) : Nat := Nat.lor (Nat.land a b) (Nat.lor (Nat.land a c) (Nat.land b c))

/-- R323: the 2 112 stored bytes of a page decoded. -/
def decodePage (raw : List Byte) : PageDecode :=
  if zeroBits raw ≤ 8 then { result := 2, data := List.replicate 2048 0xFF }
  else
    let k := majority (leAt raw 2048 1) (leAt raw 2049 1) (leAt raw 2050 1)
    if k < 0x50 ∨ 0x53 < k then { result := 3, strength := true }
    else
      let s := k - 0x50
      match bchErrors (bchT s) ((byteBits raw).take (bchN s)) with
      | none => { result := 3 }
      | some pos =>
        let fixed := ((byteBits (raw.take 2048)).zipIdx).map fun x => x.1 != pos.contains x.2
        { result := if pos.isEmpty then 0 else 1, bits := pos.length, data := bitsByte 2048 fixed }

end Sys2Proof.Machine
end

