-- ==== Sys2Proof/Machine/MemOps.lean ====
section
/-! DEFINITION. Poisoning, flash pages, the merge buffer and the fault collector's commands as named operations
(spec/13_memories_error_codes.md). -/
namespace Sys2Proof.Machine

def State.setFlash (s : State) (f : Flash) : State := { s with flash := f }

/-- A free value is drawn (log entry 2). -/
def State.drawFree (s : State) : Nat × State := (Config.freeValue s.free, { s with free := s.free + 1 })

/-- `n` free bytes. -/
def State.freeBytes (s : State) (n : Nat) : List Byte × State :=
  ((List.range n).map fun k => BitVec.ofNat 8 (Config.freeValue (s.free + k)), { s with free := s.free + n })

/-! SRAM (R314 to R319). -/

def inSys (a : Nat) : Bool := 0x20000000 ≤ a && a < 0x20200000
def inPacket (a : Nat) : Bool := 0x24000000 ≤ a && a < 0x24090000

/-- The tag of the word at `a` of system SRAM. -/
def State.tagOf (s : State) (a : Nat) : Tag := Sparse.read .empty s.memctl.tags (a - a % 4)

def State.setTag (s : State) (a : Nat) (t : Tag) : State :=
  { s with memctl := { s.memctl with tags := Sparse.write .empty s.memctl.tags (a - a % 4) t } }

/-- The word at `a` becomes poisoned with the failing parity bits `mask`: marker, log entry, E109, POISON_CNT. -/
def State.poisonWord (s : State) (a mask : Nat) (scrub : Bool) : State :=
  let w := a - a % 4
  let s := (s.setBytes w [0, 0, 0, 0])
  let s := if inSys w then s.setTag w .empty else s
  let s := { s with poison := Sparse.write false s.poison w true }
  let s := (s.bump MEM_STATUS_POISON_CNT).report (if scrub then 0 else 2) (if inSys w then 3 else 4) w mask scrub
  s.raise 109

/-- A read of the word at `a` finds the parity bits of `mask` wrong (R316). -/
def State.parityCheck (s : State) (a mask : Nat) : State :=
  if mask = 0 ∨ s.poisoned a then s else s.poisonWord a mask false

/-! Flash pages. Physical page P holds the bytes from 0x0800_0000 + 2048 P. -/

def physPage (phys : Nat) : Nat := (phys - 0x08000000) / 2048
def pageBank (p : Nat) : Nat := p / 2048
def pageBlock (p : Nat) : Nat := p % 2048 / 32

def State.bank (s : State) (k : Nat) : FlashBank := if k = 0 then s.flash.bank0 else s.flash.bank1

def State.setBank (s : State) (k : Nat) (b : FlashBank) : State :=
  s.setFlash (if k = 0 then { s.flash with bank0 := b } else { s.flash with bank1 := b })

/-- The 2 112 stored bytes of a page. -/
def State.pageRaw (s : State) (p : Nat) : List Byte :=
  s.bytes (0x08000000 + 2048 * p) 2048 ++ (List.range 64).map fun k => Sparse.read 0xFF s.flash.spare (64 * p + k)

/-- `s` with the 2 112 bytes of a page stored. -/
def State.setPageRaw (s : State) (p : Nat) (raw : List Byte) : State :=
  let s := s.setBytes (0x08000000 + 2048 * p) (raw.take 2048)
  let sp := ((raw.drop 2048).zipIdx).foldl (fun m x => Sparse.write 0xFF m (64 * p + x.2) x.1) s.flash.spare
  s.setFlash { s.flash with spare := sp, undef := s.flash.undef.erase p }

/-- A page as the decoder reads it; a page left undefined by a loss of power reads RESULT 2 or 3, a free choice (R349);
the journal block is returned as stored (R341). -/
def State.readPage (s : State) (p : Nat) : PageDecode :=
  if pageBlock p = 63 then { result := 0, data := s.bytes (0x08000000 + 2048 * p) 2048 }
  else if Sparse.read false s.flash.undef p then
    (if Config.undefPage s.free p then { result := 2, data := List.replicate 2048 0xFF } else { result := 3 })
  else decodePage (s.pageRaw p)

/-- The decode result of a page read at bus address `a` is reported (R324). -/
def State.reportDecode (s : State) (a : Nat) (d : PageDecode) : State :=
  let page := a / 2048 * 2048
  let s := ((s.put MEM_ECCSTAT_RESULT d.result).put MEM_ECCSTAT_BITS d.bits).flag MEM_ECCSTAT_REASON d.strength
  let s := s.put MEM_ECCSTAT_PAGE (physPage page)
  match d.result with
  | 1 =>
    let s := (s.bump MEM_ECCCNT_ECC_CORR).raise 108
    if s.get MEM_ECCCFG_CORR_THR ≤ d.bits then s.report 1 5 page d.bits else s
  | 3 => (s.bump MEM_ECCCNT_ECC_UNCORR).report 2 5 page 0xFF
  | _ => s

/-- The merge entry of the page that holds bus address `a`. -/
def State.mergeAt (s : State) (a : Nat) : Option MergeEntry := s.flash.merge.find? fun e => e.page == a / 2048 * 2048

/-- The image of a merge entry (R326). -/
def MergeEntry.bytes (e : MergeEntry) : List Byte := (List.range 2048).map fun k => Sparse.read 0xFF e.image k

/-- The 2 048 bytes of the page at bus address `a` as a load would see them, none where it reads poisoned. -/
def State.pageView (s : State) (a : Nat) : Option (List Byte) :=
  match s.mergeAt a with
  | some e => some e.bytes
  | none =>
    let d := s.readPage (physPage (s.flashPhys a))
    if d.result = 3 then none else some d.data

/-- `n` bytes of flash from bus address `a`; none where a page of them reads poisoned. -/
def State.flashView (s : State) (a n : Nat) : Option (List Byte) :=
  let base := a / 2048 * 2048
  let pages := (List.range (divUp (a - base + n) 2048)).map fun k => s.pageView (base + 2048 * k)
  if pages.any Option.isNone then none else some (bytesAt ((pages.map fun p => p.getD []).flatten) (a - base) n)

end Sys2Proof.Machine
end

