-- ==== Sys2Proof/Machine/CertOps.lean ====
section
/-! DEFINITION. OTP records, SM2 signatures and certificates (R423 to R426). -/
namespace Sys2Proof.Machine

/-- A signature over a message (R424): e = SM3(ZA ‖ M). -/
def sm2Signed (key msg sig : List Byte) : Bool := Config.sm2Verify key (Config.sm3 (Config.sm2Za key ++ msg)) sig

/-- The usage bits of R425. -/
def usageCore0 : Nat := 2
def usageGnsslib : Nat := 3
def usageApp : Nat := 4
def usageSlotprog : Nat := 5
def usageRegcert : Nat := 6

/-- A certificate is valid under an issuing key for a use (R425, R426). -/
def certValid (cert issuer : List Byte) (usage : Nat) : Bool :=
  cert.length == 152 && leAt cert 0 4 == 0x72504345 && leAt cert 4 2 == 1 && bit (leAt cert 6 2) usage &&
  decide (bytesAt cert 16 8 = (Config.sm3 issuer).take 8) && sm2Signed issuer (cert.take 88) (bytesAt cert 88 64)

/-- The public key that a certificate certifies. -/
def certKey (cert : List Byte) : List Byte := bytesAt cert 24 64

/-- Bytes of OTP (R423). -/
def State.otp (s : State) (off n : Nat) : List Byte := s.bytes (0x28000000 + off) n

def State.otpNum (s : State) (off n : Nat) : Nat := leNat (s.otp off n)

/-- The Auqueren root public key. -/
def State.auquerenRoot (s : State) : List Byte := s.otp 0x1B0 64

/-- The customer root public key, once INSTALLED is set. -/
def State.customerRoot (s : State) : Option (List Byte) :=
  if s.otpNum 0x230 4 = 0x5A5A5A5A then some (s.otp 0x1F0 64) else none

/-- The root under which component `c` is signed (R426). -/
def State.componentRoot (s : State) (c : Nat) : Option (List Byte) :=
  if c = 3 ∨ c = 4 then s.customerRoot else some s.auquerenRoot

/-- The usage bit of component `c`: its signer needs the bit of the component. -/
def componentUsage (c : Nat) : Nat := c + 1

/-- `n` bytes of flash from a mapped address (R427); none of them where a page reads poisoned. -/
def State.flashBytes (s : State) (a n : Nat) : List Byte := (s.flashView a n).getD []

/-- First block of a component's partition, and its blocks (R427). -/
def partition (c : Nat) : Nat × Nat :=
  match c with
  | 1 => (0, 16)
  | 2 => (16, 8)
  | 3 => (24, 22)
  | 4 => (46, 2)
  | _ => (48, 1)

/-- The mapped address of a component's partition. -/
def partAddr (c : Nat) : Nat := 0x08000000 + 65536 * (partition c).1

/-- The key that checks a slot program's signature (R126, R426): of the certificate in object 0xA020.00, or of the
SIGNER_CERT of the APP manifest. -/
def State.programKey (s : State) (signer : Nat) : Option (List Byte) :=
  match s.customerRoot with
  | none => none
  | some root =>
    let cert := if signer = 0 then Sparse.read [] s.objs 0xA02000 else s.flashBytes (partAddr 3 + 208) 152
    if signer < 2 && certValid cert root usageSlotprog then some (certKey cert) else none

end Sys2Proof.Machine
end

