-- ==== Sys2Proof/Machine/LgyOps.lean ====
section
/-! DEFINITION. Operations of the compatibility engine that the radio and slot meanings share: its flags and nIRQ, the
transmit FIFO on the air and the outcome of a frame (spec/16_er418_compatibility.md). -/
namespace Sys2Proof.Machine

/-- The compatibility engine works: Compatibility mode, and no native unlock accepted (R383, R399). -/
def State.lgyLive (s : State) : Bool := s.mode == modeCompat && !s.lgy.gone

/-- LGY_STATUS IRQ: a flag and its enable are both 1. -/
def State.lgyIrq (s : State) : Bool :=
  (List.range 8).any fun n => s.get (LGY_IRQF_FLAGS n) &&& s.get (LGY_IRQEN_EN n) != 0

/-- nIRQ rises once LGY_STATUS IRQ is 0 (R389); its fall is NIRQ_ASSERT. -/
def State.settleNirq (s : State) : State :=
  if s.lgyIrq then s else { s with lgy := { s.lgy with nirq := false } }

/-- SYNCED of LGY_STATUS (R393): with MASTER = 1 while the schedule runs, else by beacons. -/
def State.lgySynced (s : State) : Bool := if s.on LGY_SLOTCTL_MASTER then s.lgy.run else s.lgy.synced

/-- A transmission of the engine. -/
def State.lgyUnit (s : State) (air : LegacyAir) : Option TxUnit := s.slot.tx.find? fun u => u.kind == .legacy && u.air == air

/-- The transmission is on the air: from its first ramp to the end of its ramp-down. -/
def TxUnit.onAir (u : TxUnit) : Bool := u.phase == .ramp || u.phase == .tx || u.phase == .rampDown

/-- R390: ENCODE takes `n` bytes from the transmit FIFO; TXTHR and TXEMPTY while a frame is on the air. -/
def State.lgyTake (s : State) (n : Nat) : State :=
  let old := s.lgy.tx.length
  let t := s.lgy.tx.drop n
  let s := { s with lgy := { s.lgy with tx := t } }
  let thr := 16 * s.get LGY_TXTHR_THR
  let s := if thr ≤ old ∧ t.length < thr then s.lgyFlag 35 else s
  if 0 < old ∧ t.length = 0 then s.lgyFlag 36 else s

/-- Data octets that a legacy frame still takes from the transmit FIFO (R390). -/
def TxUnit.owed (u : TxUnit) : Nat := if u.kind = .legacy ∧ u.fresh then u.dlen + 12 - u.octets.length else 0

/-- The payload of a received legacy frame: FCTL, SEQ, NETID, DST, SRC, and the octets that follow. -/
structure LgyPayload where
  type : Nat
  ackReq : Bool
  seq : Nat
  netid : Nat
  dst : Nat
  src : Nat
  data : List Byte
deriving DecidableEq, Repr

/-- A payload of at least the 12 octets of its header. -/
def parseLegacy (p : List Byte) : Option LgyPayload :=
  if p.length < 12 then none
  else some { type := leAt p 0 1 % 4, ackReq := bit (leAt p 0 1) 2, seq := leAt p 1 1, netid := leAt p 2 2, dst := leAt p 4 4,
              src := leAt p 8 4, data := p.drop 12 }

def State.lgyNetid (s : State) : Nat := s.get (LGY_NETID_VALUE 0) + 256 * s.get (LGY_NETID_VALUE 1)

def State.lgyOwn (s : State) : Nat :=
  leNat ((List.range 4).map fun i => BitVec.ofNat 8 (s.get (LGY_OWNADDR_VALUE i)))

/-- The frame of TX_START has its last outcome: TXBUSY clears. -/
def State.lgyDrop (s : State) : State := { s with lgy := { s.lgy with frame := none } }

/-- An attempt that never reached the air: the frame stays armed, with its SEQ; a first attempt begins anew. -/
def State.lgyBack (s : State) (u : TxUnit) : State :=
  match s.lgy.frame with
  | some f => if u.fresh then { s with lgy := { s.lgy with frame := some { f with started := false } } } else s
  | none => s

/-- The outcome of a legacy transmission (R388, R390): completed, refused under R57, late (the frame stays armed), or ended
in another way, which drops the frame. -/
def State.lgyEnded (s : State) (u : TxUnit) (status : Nat) : State :=
  match u.air with
  | .orphan => s
  | .beacon => if status = 1 then s.lgyFlag 22 else if 4 ≤ status ∧ status ≤ 6 then s.lgyFlag 19 else s
  | .ack => if status = 1 then s.lgyFlag 21 else if 4 ≤ status ∧ status ≤ 6 then s.lgyFlag 19 else s
  | .data =>
    if status = 3 then s.lgyBack u
    else if status = 1 then (s.lgyFlag 16).lgyDrop
    else if 4 ≤ status ∧ status ≤ 6 then (s.lgyFlag 19).lgyDrop
    else s.lgyDrop

end Sys2Proof.Machine
end

