-- ==== Sys2Proof/Machine/SlotOps.lean ====
section
/-! DEFINITION. Operations shared by the slot engine and medium access meanings: neighbour contexts, transmit
descriptors and their completion, the drop log, stage counters, units of work and receive windows. -/
namespace Sys2Proof.Machine

/-! Neighbour contexts (R154). -/

def ctxAddr (i : Nat) : Nat := 0x24000000 + 64 * i

/-- A number of context `i`, at an offset of R154. -/
def State.ctx (s : State) (i off n : Nat) : Nat := s.num (ctxAddr i + off) n

def State.setCtx (s : State) (i off n v : Nat) : State := s.setNum (ctxAddr i + off) n v

/-- Bit `b` of the FLAGS of context `i`. -/
def State.ctxFlag (s : State) (i b : Nat) : Bool := bit (s.ctx i 10 2) b

def State.setCtxFlag (s : State) (i b : Nat) : State := s.setCtx i 10 2 (setBit (s.ctx i 10 2) b)

/-- A context that LOOKUP and ADMIT may use: VALID, and none of its words poisoned (R317). -/
def State.ctxOk (s : State) (i : Nat) : Bool := s.ctxFlag i 0 && !s.poisonedIn (ctxAddr i) 64

/-- A saturating one-octet counter of a context one higher. -/
def State.ctxBump (s : State) (i off : Nat) : State := s.setCtx i off 1 (satInc 8 (s.ctx i off 1))

/-- MISS of a context (R154). -/
def State.ctxMiss (s : State) (i : Nat) : Nat := slice (s.ctx i 59 1) 0 5

def State.setMiss (s : State) (i v : Nat) : State := s.setCtx i 59 1 (splice (s.ctx i 59 1) 0 5 v)

/-- MISS counts one more, to at most 31 (R164). -/
def State.missMore (s : State) (i : Nat) : State := s.setMiss i (satInc 5 (s.ctxMiss i))

/-- The active time parent (R161): the lowest-indexed valid context with TIME_PARENT = 1. -/
def State.parent (s : State) : Option Nat := (List.range 1024).find? fun i => s.ctxFlag i 0 && s.ctxFlag i 1

/-- TNET follows the active time parent (R161). -/
def State.follows (s : State) : Bool := s.mode == modeNode && !s.on MAC_CTRL_TSRC

/-- Synchronisation states of R165. -/
def syncUnsynced : Nat := 0
def syncSynced : Nat := 1
def syncAdrift : Nat := 2
def syncScan : Nat := 3

/-- Contexts with VALID = 0. -/
def State.freeContexts (s : State) : Nat := ((List.range 1024).filter fun i => !s.ctxFlag i 0).length

/-! Transmit descriptors (R177). -/

def descAddr (i : Nat) : Nat := 0x24010000 + 32 * i

/-- A number of descriptor `i`, at an offset of R177. -/
def State.desc (s : State) (i off n : Nat) : Nat := s.num (descAddr i + off) n

/-- `s` with bytes of descriptor `i` stored, unless the word there is poisoned: a narrow write into a poisoned word
writes nothing (R317). -/
def State.setDesc (s : State) (i off n v : Nat) : State :=
  if s.poisoned (descAddr i + off) && n < 4 then s else s.setNum (descAddr i + off) n v

/-- R177, R178: a descriptor completes: STATUS, the completion FIFO of 64 entries, E56. -/
def State.txDone (s : State) (i status : Nat) : State :=
  let s := s.setDesc i 16 1 status
  let s := if s.mac.txDone.length < 64 then { s with mac := { s.mac with txDone := s.mac.txDone ++ [i] } }
    else s.bump MAC_TXDONE_LOST
  s.raise 56

/-- The queue entry of a descriptor leaves its queue. -/
def State.dequeueEntry (s : State) (i : Nat) : State :=
  { s with mac := { s.mac with queue := s.mac.queue.filter (fun e => e.desc != i) } }

/-- Pending frames of a context: PENDING of R154. -/
def State.setPending (s : State) (c n : Nat) : State := s.setCtx c 45 1 (splice (s.ctx c 45 1) 0 3 n)

/-- A frame leaves the indirect store, PENDING of its context following. -/
def State.dropPending (s : State) (i : Nat) : State :=
  match s.mac.pending.find? (fun e => e.desc == i) with
  | none => s
  | some e =>
    let s := { s with mac := { s.mac with pending := s.mac.pending.filter (fun e => e.desc != i) } }
    s.setPending e.ctx (slice (s.ctx e.ctx 45 1) 0 3 - 1)

/-- A descriptor completes with a status wherever it waits: queue or indirect store. -/
def State.finishDesc (s : State) (i status : Nat) : State := ((s.dequeueEntry i).dropPending i).txDone i status

/-! The drop log and stage counters (R131, R146). -/

/-- A drop record is written; a full log counts it as lost. -/
def State.drop (s : State) (r : DropRec) : State :=
  if s.slot.dropLog.length < 16 then { s with slot := { s.slot with dropLog := s.slot.dropLog ++ [r] } }
  else s.bump SLE_DROPSTAT_LOST

/-- PAR maxima of R129: the units a stage serves where no program limits it (Compatibility mode). -/
def parMax : List Nat := [16, 16, 16, 16, 8, 4, 16, 4, 4, 1, 1, 4, 1, 1, 1, 1]

/-- Units that stage `st` serves at once (R122). -/
def State.stagePar (s : State) (st : Nat) : Nat :=
  if s.slotLen = 0 then parMax.getD st 1 else s.prog (128 + 8 * st + 4) 1

/-- The budget c_s(n) of R129. -/
def State.budget (s : State) (st n : Nat) : Nat :=
  s.prog (128 + 8 * st) 2 + divUp (s.prog (128 + 8 * st + 2) 2 * n) 16

/-- The units at a stage, receive or transmit, by identity in order of arrival there. -/
def State.atStage (s : State) (st : Nat) : List Nat :=
  (s.slot.rx.filterMap fun u => if u.stage = st then some u.id else none) ++
  (s.slot.tx.filterMap fun u => if u.stage = st ∧ u.phase = .pipeline then some u.id else none)

/-- The stage can take a hand-off: its queue of 16 and its processing slots are not all taken (R130). -/
def State.roomAt (s : State) (st : Nat) : Bool := (s.atStage st).length < 16 + s.stagePar st

/-- Unit `id` is in a processing slot of stage `st`: among the first PAR units there. -/
def State.served (s : State) (st id : Nat) : Bool := ((s.atStage st).take (s.stagePar st)).contains id

/-- A unit of length `n` that stage `st` completes with this charge has kept its budget (R131); Compatibility mode has
no budgets. -/
def State.inBudget (s : State) (st n charge : Nat) : Bool := s.slotLen == 0 || charge ≤ s.budget st n

/-- The stage accepts a unit: PEAK_UNITS. -/
def State.accepted (s : State) (st : Nat) : State :=
  let n := s.slot.slotUnits.getD st 0 + 1
  let s := { s with slot := { s.slot with slotUnits := setAt s.slot.slotUnits st n } }
  if s.get (SLE_SPEAK_PEAK_UNITS st) < n then s.put (SLE_SPEAK_PEAK_UNITS st) n else s

/-- The stage hands a unit on: SDONE and PEAK_CHARGE. -/
def State.handedOn (s : State) (st charge : Nat) : State :=
  let s := s.bumpWrap (SLE_SDONE_DONE st)
  if s.get (SLE_SPEAK_PEAK_CHARGE st) < charge then s.put (SLE_SPEAK_PEAK_CHARGE st) charge else s

def State.rxUnit (s : State) (id : Nat) : Option RxUnit := s.slot.rx.find? fun u => u.id == id
def State.txUnit (s : State) (id : Nat) : Option TxUnit := s.slot.tx.find? fun u => u.id == id

def State.setRx (s : State) (u : RxUnit) : State :=
  { s with slot := { s.slot with rx := s.slot.rx.map fun v => if v.id = u.id then u else v } }

def State.setTx (s : State) (u : TxUnit) : State :=
  { s with slot := { s.slot with tx := s.slot.tx.map fun v => if v.id = u.id then u else v } }

def State.removeRx (s : State) (id : Nat) : State :=
  { s with slot := { s.slot with rx := s.slot.rx.filter fun u => u.id != id } }

def State.removeTx (s : State) (id : Nat) : State :=
  { s with slot := { s.slot with tx := s.slot.tx.filter fun u => u.id != id } }

/-- A unit moves to its next stage: it goes to the end of the arrival order. -/
def State.moveRx (s : State) (u : RxUnit) : State :=
  let s := s.removeRx u.id
  { s with slot := { s.slot with rx := s.slot.rx ++ [u] } }

def State.moveTx (s : State) (u : TxUnit) : State :=
  let s := s.removeTx u.id
  { s with slot := { s.slot with tx := s.slot.tx ++ [u] } }

/-- The acknowledgement that answers a dropped receive unit is dropped with it (R139). -/
def State.dropAckOf (s : State) (id : Nat) : State :=
  { s with slot := { s.slot with tx := s.slot.tx.filter fun u => !(u.ackFor == some id && !u.released) } }

/-- A receive unit leaves the pipeline without a commit; its acknowledgement and its twin pairing end with it. -/
def State.endRx (s : State) (u : RxUnit) : State :=
  let s := (s.removeRx u.id).dropAckOf u.id
  { s with slot := { s.slot with rx := s.slot.rx.map fun v =>
      if v.twin = .waiting ∧ v.det.place = (u.det.place + 64) % 128 then { v with twin := .single } else v } }

/-- R131: a receive unit is dropped LATE, by its stage or at a boundary (R138). -/
def State.lateRx (s : State) (u : RxUnit) (boundary : Bool) : State :=
  let s := s.bump (SLE_SLATE_LATE u.stage)
  let s := match u.ctx with
    | some c => if 5 ≤ u.stage then s.ctxBump c 55 else s
    | none => s
  let s := s.drop { asn := u.asn, stage := u.stage, boundary := boundary, twin := false, transmit := false,
                    ctx := u.ctx, place := u.det.place, length := u.length }
  (s.raise 52).endRx u

/-- WHERE of a transmission's drop record (R146). -/
def TxUnit.place (u : TxUnit) : Nat :=
  match u.kind with
  | .data => u.queue
  | .followUp => 0x7C
  | .poll => 0x7D
  | .beacon => 0x7E
  | .ack => 0x7F
  | .test => 0x7D
  | .legacy => u.queue

/-- A transmission ends with a status of R178 and no retry (R169, R173): its descriptor completes, except that a
follow-up ended LATE or NO_ACK stays pending with ATTEMPTS incremented. -/
def State.endTx (s : State) (u : TxUnit) (status : Nat) : State :=
  let s := s.removeTx u.id
  match u.kind, u.desc with
  | .data, some d => s.finishDesc d status
  | .followUp, some d =>
    if status = 2 ∨ status = 3 then
      let n := s.desc d 17 1
      let s := s.setDesc d 17 1 (if status = 3 then satInc 8 n else n)
      { s with mac := { s.mac with
          pending := s.mac.pending.map fun e => if e.desc = d then { e with busy := false, attempts := e.attempts + 1 } else e } }
    else s.finishDesc d status
  | .legacy, _ => s.lgyEnded u status
  | _, _ => s

/-- R131: a transmission is dropped LATE, by its stage or at a boundary (R138). -/
def State.lateTx (s : State) (u : TxUnit) (boundary : Bool) : State :=
  let s := s.bump (SLE_SLATE_LATE u.stage)
  let s := match u.ctx with
    | some c => s.ctxBump c 55
    | none => s
  let s := s.drop { asn := u.asn, stage := u.stage, boundary := boundary, twin := false, transmit := true,
                    ctx := u.ctx, place := u.place, length := u.length }
  (s.raise 52).endTx u 3

/-! Timing (R39, R149, R164). -/

/-- A template field of the running program (R121). -/
def State.tmplTO (s : State) : Nat := s.prog 44 4
def State.tmplG (s : State) : Nat := s.prog 48 4
def State.tmplAD (s : State) : Nat := s.prog 52 4
def State.tmplAW (s : State) : Nat := s.prog 56 4

def State.rUp (s : State) : Nat := 10 * s.get TXP_RAMP_RUP
def State.rDown (s : State) : Nat := 10 * s.get TXP_RAMP_RDOWN

/-- The transmitter lead time of R39, with the latest figures of R37 and calibration policy `policy`. -/
def State.leadTime (s : State) (policy : Nat) : Nat :=
  (if policy = 0 then 5500 else 1500) + (if s.on RFC_CTRL_ANT_CFG then 0 else 200) + 100 + s.rUp

/-- CEIL in SE cycles. -/
def State.ceilGuard (s : State) : Nat := 100 * s.get MAC_SYNCCFG_CEIL

/-- G_eff of a window for a context (R164); `robust` for a SHARED cell on a lane whose profile repeats eight times. -/
def State.effGuard (s : State) (ctx : Option Nat) (robust : Bool) : Nat :=
  if robust then s.ceilGuard
  else match ctx with
  | none => s.tmplG
  | some c => min (s.tmplG * 2 ^ (s.ctxMiss c - 2)) s.ceilGuard

/-- The lane that a network channel maps to now, with the residual (R69). -/
def State.laneOfChannel (s : State) (n : Nat) : Option Nat :=
  (mapChannel s.partT s.radio.mapCur n).map fun (h, j, _) => 64 * h + j

/-- The network channel of a cell in slot `asn` (R17). -/
def State.hop (s : State) (asn choff : Nat) : Nat :=
  let n := s.prog 23 1
  if n = 0 then 0 else s.prog (256 + 2 * ((asn + choff) % n)) 2

/-- The window that a lane of the present slot serves: lane Bj shares the window of Aj in twin receive (R90). -/
def State.windowOf (s : State) (lane : Nat) : Option RxWindow :=
  s.slot.windows.find? fun w => w.lane == s.laneSrc lane && w.isOpen

def State.setWindow (s : State) (w : RxWindow) : State :=
  { s with slot := { s.slot with windows := s.slot.windows.map fun v =>
      if v.lane = w.lane ∧ v.ackOf = w.ackOf ∧ v.asn = w.asn then w else v } }

end Sys2Proof.Machine
end

