-- ==== Sys2Proof/Machine/Chan.lean ====
section
/-! DEFINITION. The commands of the channelizer (spec/03_channelizer_demodulation.md): profiles, twin receive, the
channel map, windows, sync, frame ends, blanking ends and the leakage canceller; and the crossing that hands detection
records to the slot engine (R12). -/
namespace Sys2Proof.Machine

/-- Rates, modulation index and repetition that R76 and R98 allow: MOD, RATE, HIDX and REP of a profile word. -/
def rateOk (w : Nat) : Bool :=
  let rate := slice w 1 3
  let hidx := slice w 5 8
  (if slice w 0 1 = 0 then rate ≤ 3 else 3 ≤ rate && rate ≤ 5) && 16 ≤ hidx && hidx ≤ 128

/-- A receive profile that breaks no restriction of R76. -/
def rxProfOk (w : Nat) : Bool :=
  let fsk2 := slice w 0 1 == 0
  let rate := slice w 1 3
  let rep := slice w 13 2
  let leg := bit w 17
  rateOk w && (rep == 0 || (fsk2 && rate == 0 && !bit w 16 && !leg)) &&
  (!leg || (fsk2 && rate ≤ 1 && rep == 0)) && (leg || bit w 18) && slice w 20 11 != 0

/-- The fields of CHZ_PROFn. -/
def rxProfFields (p : Nat) : List RegField :=
  [CHZ_PROF_MOD p, CHZ_PROF_RATE p, CHZ_PROF_BT p, CHZ_PROF_HIDX p, CHZ_PROF_REP p, CHZ_PROF_SFDG p, CHZ_PROF_FEC_EN p,
   CHZ_PROF_LEG_EN p, CHZ_PROF_NAT_EN p, CHZ_PROF_MAXLEN p]

/-- A lane's profile or its number has changed: it takes effect now in IDLE or SEARCH, else when the lane is next
there (R76). -/
def State.laneProfChanged (s : State) (i : Nat) : State :=
  let st := s.laneState i
  if st = laneIdle ∨ st = laneSearch then s.refreshProfile i
  else s.setLane i { s.lane i with profStale := true }

/-- R76, R96: a write of CHZ_PROFn; core writes are ignored in Compatibility mode (R72). -/
def execRxProfileWrite (index : Fin 4) (value : Word) (s : State) : Host.Outcome State Fault Refusal :=
  if s.mode = modeCompat then goOn s
  else if !rxProfOk value.toNat then goOn (s.flag CHZ_STATUS_PROF_ERR true)
  else
    let s := (s.flag CHZ_STATUS_PROF_ERR false).loadFields (rxProfFields index) value.toNat
    goOn ((List.range 128).foldl (fun (s : State) i =>
      if s.get (CHZ_LCFG_PROFILE (s.laneSrc i)) = index then s.laneProfChanged i else s) s)

/-- A half is blanked with reason RETUNE (R40, R67, R90); RETUNE_BLANK_END ends it. -/
def State.retune (s : State) (h : Nat) : State := s.blankHalf .retune h

/-- Twin receive comes into force or ends (R90): half B retunes, and its lanes follow the other set of settings. -/
def State.takeTwin (s : State) (b : Bool) : State :=
  if s.on CHZ_STATUS_TWIN_ACTIVE = b then s
  else
    let s := (s.flag CHZ_STATUS_TWIN_ACTIVE b).retune 1
    let s := (s.halfLanes 1).foldl State.laneProfChanged s
    s.mapChanged

/-- TWIN_EN is written (R90, R144): accepted for the next boundary, or at once with no program running; a write of 1
outside Concentrator and Test modes, or under a program without TWIN, is ignored with TWIN_REJ. The KW-7250-T and
Compatibility mode ignore every write (R3, R72). -/
def State.writeTwin (s : State) (en : Bool) : State :=
  if s.partT || s.mode == modeCompat then s
  else if en && (!(s.mode == modeConc || s.mode == modeTest) || (s.running && !bit (s.prog 21 1) 0)) then
    s.flag CHZ_STATUS_TWIN_REJ true
  else
    let s := (s.flag CHZ_STATUS_TWIN_REJ false).flag CHZ_CTRL_TWIN_EN en
    if s.running then { s with radio := { s.radio with twinStaged := some en } } else s.takeTwin en

def execTwinEnWrite (en : Bool) (s : State) : Host.Outcome State Fault Refusal := goOn (s.writeTwin en)

/-- The map of R69 takes effect with the parameters now in force, and LNCO follows (R71). -/
def State.installMap (s : State) : State :=
  let m := s.mapParams (s.on CHZ_STATUS_TWIN_ACTIVE)
  let s := { s with radio := { s.radio with mapCur := m, mapNext := none } }
  s.setNcos m

/-- R69: the rebuild of the map ends. With no program running the new map is in force; else it waits for the boundary
of the change. -/
def execChannelMapRebuild (s : State) : Host.Outcome State Fault Refusal :=
  if !s.on CHZ_STATUS_MAP_BUSY then goOn s
  else
    let s := s.flag CHZ_STATUS_MAP_BUSY false
    goOn (if s.running then
        { s with radio := { s.radio with mapNext := some (s.mapParams (s.radio.twinStaged.getD (s.on CHZ_STATUS_TWIN_ACTIVE))) } }
      else s.installMap)

/-- WIN_FRAMES of the program (R121); a legacy window accepts frames until it closes (R394). -/
def State.winFrames (s : State) : Nat := if s.mode = modeCompat then 65535 else max 1 (s.prog 26 1)

/-- The lane and, in twin receive, its partner on half B (R90). -/
def State.windowLanes (s : State) (i : Nat) : List Nat :=
  if s.on CHZ_STATUS_TWIN_ACTIVE && i < 64 then [i, i + 64] else [i]

/-- A lane's search window opens: SEARCH, unless it is blanked or still in a frame. -/
def State.openLane (frames : Nat) (s : State) (i : Nat) : State :=
  let s := s.setLane i { s.lane i with window := true, framesLeft := frames }
  let st := s.laneState i
  if st = laneFrame then s
  else if (s.lane i).blanked then s.put (CHZ_LSTAT_STATE i) laneBlanked
  else (s.put (CHZ_LSTAT_STATE i) laneSearch).refreshProfile i

/-- R79, R149: a window of the present slot opens on its lane. A lane with EN = 0 opens none and counts UNMAPPED once
for each of the window's cells (R70). -/
def execRxWindowOpen (lane : Fin 128) (s : State) : Host.Outcome State Fault Refusal :=
  match s.slot.windows.find? (fun w => w.lane == lane.val && !w.isOpen && !w.closed) with
  | none => goOn s
  | some w =>
    if !s.laneEn lane then
      let s := { s with slot := { s.slot with windows := s.slot.windows.filter fun v => v != w } }
      goOn ((List.range (w.peers.length + 1)).foldl (fun (s : State) _ => s.bump CHZ_STATUS_UNMAPPED) s)
    else
      let s := s.setWindow { w with isOpen := true }
      goOn ((s.windowLanes lane).foldl (State.openLane s.winFrames) s)

/-- A lane's search window closes: a searching lane abandons its preamble and goes IDLE (R79). -/
def State.closeLane (s : State) (i : Nat) : State :=
  let s := s.setLane i { s.lane i with window := false, framesLeft := 0 }
  if s.laneState i = laneSearch then s.restLane i else s

/-- No lane of half `h` is in a frame and none has an open window. -/
def State.halfQuiet (s : State) (h : Nat) : Bool :=
  (s.halfLanes h).all fun i => s.laneState i != laneFrame && !(s.lane i).window

/-- R38: after a packet a half goes to its return state, in Node, Compatibility and Test modes. -/
def State.halfReturn (s : State) (h : Nat) : State :=
  let m := s.mode
  if (m = modeNode ∨ m = modeCompat ∨ m = modeTest) ∧ s.halfQuiet h then
    if h = 0 then s.setPath .a { s.path .a with goal := some (s.get RFC_CTRL_RET_A) }
    else if s.partT then s
    else s.setPath .b { s.path .b with goal := some (s.get RFC_CTRL_RET_B) }
  else s

/-- A window's cell for a context has closed without a valid frame (R164): MISS, and E59 for a TIMEKEEP window on the active
time parent in SYNCED or ADRIFT of Node mode (R165). -/
def State.emptyCell (s : State) (ctx : Option Nat) (timekeep : Bool) : State :=
  match ctx with
  | none => s
  | some c =>
    if !s.ctxFlag c 0 then s
    else
      let e59 := s.follows && timekeep && s.parent == some c &&
        (s.get MAC_STATUS_SYNC == syncSynced || s.get MAC_STATUS_SYNC == syncAdrift)
      (s.missMore c).raiseIf e59 59

/-- A window is judged: each of its cells that no valid frame served has closed empty. -/
def State.emptyWindow (s : State) (w : RxWindow) : State :=
  let s := if w.valid then s else s.emptyCell w.ctx w.timekeep
  w.peers.foldl (fun (s : State) p => if p.valid then s else s.emptyCell p.ctx p.timekeep) s

/-- The window as judged. -/
def RxWindow.judged (w : RxWindow) : RxWindow :=
  { w with valid := true, peers := w.peers.map fun p => { p with valid := true } }

/-- A unit of the window's lane and owning slot is still on its way to DELIVER. -/
def State.windowBusy (s : State) (w : RxWindow) : Bool :=
  (s.slot.rx.any fun u => s.laneSrc u.det.place == w.lane && u.asn == w.asn && !u.det.ackWin) ||
  (s.radio.detFifo.any fun d => s.laneSrc d.place == w.lane && w.asn == s.slot.slotAsn)

/-- R149, R79, R164: a receive window closes. A window that saw no frame ends empty at once; one whose frames are still
in the pipeline is judged at the slot boundary. -/
def execRxWindowClose (lane : Fin 128) (s : State) : Host.Outcome State Fault Refusal :=
  match s.slot.windows.find? (fun w => w.lane == lane.val && w.isOpen && !w.closed && w.ackOf.isNone) with
  | none => goOn s
  | some w =>
    let s := (s.windowLanes lane).foldl State.closeLane s
    let busy := s.windowBusy w
    let s := s.setWindow { w with isOpen := false, closed := true }
    let s := if busy then s else (s.emptyWindow w).setWindow { w.judged with isOpen := false, closed := true }
    goOn (if w.detected = 0 then s.halfReturn (lane.val / 64) else s)

/-- The profile word in force on a lane lets the correlator of this sync kind match with so many errors (R76, R77). -/
def State.syncLive (s : State) (i : Nat) (sync : SyncKind) (errs : Nat) : Bool :=
  let w := (s.lane i).prof
  match sync with
  | .nativeUncoded => bit w 18 && errs ≤ s.get CHZ_SYNC_SFD_ERR
  | .nativeCoded => bit w 18 && bit w 16 && errs ≤ s.get CHZ_SYNC_SFD_ERR
  | .legacy => bit w 17 && errs ≤ s.get CHZ_SYNC_LEG_ERR

/-- Bytes of the test record of object 0x2030.02 (R61) as a little-endian counter one higher. -/
def recBump (r : List Byte) (off : Nat) : List Byte :=
  r.take off ++ leBytes 4 (leAt r off 4 + 1) ++ r.drop (off + 4)

/-- A PER_RX run on this lane counts (R61). -/
def State.perCount (s : State) (lane off : Nat) : State :=
  if s.radio.test.running ∧ s.radio.test.op = 4 ∧ s.radio.test.lane = lane then
    { s with radio := { s.radio with test := { s.radio.test with record := recBump s.radio.test.record off } } }
  else s

/-- R78, R80: a correlator matches on a searching lane: FRAME, E32 or E33, E34 for a legacy match, E41 for a large
offset, and a detection record; a full crossing discards the record with OVF and E40 (R12). -/
def execSyncMatch (lane : Fin 128) (sync : SyncKind) (errs : Fin 7) (rssi offset : Int) (dgain : Fin 43) (s : State) :
    Host.Outcome State Fault Refusal :=
  let i := lane.val
  let h := i / 64
  if s.laneState i ≠ laneSearch ∨ !s.syncLive i sync errs ∨ (if s.plan h = 0 then 2500 else 5000) < offset.natAbs then
    goOn s
  else
    let s := (((s.bump (CHZ_LCNT_DETECT i)).raise (32 + h)).raiseIf (sync == .legacy) 34).raiseIf
      (decide (s.get CHZ_OFFCFG_OFF_LIM < offset.natAbs)) 41
    let s := s.perCount i 16
    if 64 ≤ s.radio.detFifo.length then goOn ((s.bump (CHZ_LCNT_OVF i)).raise 40)
    else
      let w := s.windowOf i
      let l := s.lane i
      let d : DetRec := {
        place := i, profile := s.get (CHZ_LCFG_PROFILE (s.laneSrc i)), sync := sync, errs := errs, tSfd := s.tnet,
        rssi := if rssi < -640 then -640 else if 80 < rssi then 80 else rssi, offset := offset, dgain := dgain,
        fdx := s.radio.txWindow, profWord := l.prof, scan := s.mode == modeNode && s.get MAC_STATUS_SYNC == syncScan,
        first := match w with
          | some w => w.detected == 0
          | none => true
        winCtx := w.bind (fun w => w.ctx), choff := (w.map (fun w => w.choff)).getD 0,
        freq := (w.map (fun w => w.freq)).getD (s.laneCentre i).toNat
        peers := (w.map (fun w => w.peers.filterMap fun p => p.ctx.map fun c => (c, p.gEff))).getD []
        gEff := (w.map (fun w => w.gEff)).getD 0, ackWin := (w.map (fun w => w.ackOf.isSome)).getD false,
        followUp := (w.map (fun w => w.followUp)).getD false }
      let s := match w with
        | some w => s.setWindow { w with detected := w.detected + 1 }
        | none => s
      let s := s.lgyFlag (48 + d.choff % 8)
      let s := s.setLane i { l with framesLeft := l.framesLeft - 1, frameFdx := s.radio.txWindow, clamped := false }
      let s := (s.put (CHZ_LSTAT_STATE i) laneFrame).put (CHZ_LSTAT_DGAIN i) dgain
      goOn { s with radio := { s.radio with detFifo := s.radio.detFifo ++ [d] } }

/-- The frame on a lane is over for the lane: it searches again with an open window, else rests (R79). -/
def State.leaveFrame (s : State) (i : Nat) : State :=
  if s.laneState i = laneFrame then s.restLane i else s

/-- The analog AGC sets a half's gain where AGC_AUTO = 1 (R47). -/
def State.agc (s : State) (h gain : Nat) : State :=
  if h = 0 then (if s.on RFC_GAIN_A_AGC_AUTO then s.put RFC_GAIN_A_GAIN gain else s)
  else if s.partT then s else if s.on RFC_GAIN_B_AGC_AUTO then s.put RFC_GAIN_B_GAIN gain else s

/-- The end status word of a lane's frame (R80): FDX at any point of the frame, BLANKED if it was cut or clamped. -/
def State.endStatus (s : State) (i : Nat) (blanked : Bool) : State :=
  let fdx := (s.lane i).frameFdx
  { s with
    radio := { s.radio with detFifo := s.radio.detFifo.map fun d =>
      if d.place = i then { d with ended := true, fdx := fdx } else d }
    slot := { s.slot with rx := s.slot.rx.map fun u =>
      if u.det.place = i ∧ !u.ended then
        { u with ended := true, blanked := u.blanked || blanked, det := { u.det with fdx := fdx } } else u } }

/-- R79, R74, R80: a lane's frame ends. A frame whose gain was clamped counts BLANKED. In Node, Compatibility and Test
modes the half may then change its gain (R47) and goes to its return state (R38). -/
def execLaneFrameEnd (lane : Fin 128) (gain : Fin 16) (s : State) : Host.Outcome State Fault Refusal :=
  let i := lane.val
  if s.laneState i ≠ laneFrame then goOn s
  else
    let clamped := (s.lane i).clamped
    let s := (if clamped then s.bump (CHZ_LCNT_BLANKED i) else s).endStatus i clamped
    let s := s.leaveFrame i
    let between := s.mode == modeNode || s.mode == modeCompat || s.mode == modeTest
    let s := if between && s.halfQuiet (i / 64) then s.agc (i / 64) gain else s
    goOn (s.halfReturn (i / 64))

/-- R50: the blanking window ends and the lanes that it blanked return to SEARCH or IDLE. -/
def execBlankingEnd (s : State) : Host.Outcome State Fault Refusal :=
  let st := s.get RFC_STATE_STATE_T
  if !s.radio.txWindow ∨ 4 ≤ st then goOn s
  else
    let s := { s with radio := { s.radio with txWindow := false } }
    goOn ((s.unblankHalf .tx 0).unblankHalf .tx 1)

/-- R40: the RETUNE blanking of a half ends. -/
def execRetuneBlankEnd (half : Half) (s : State) : Host.Outcome State Fault Refusal :=
  goOn (s.unblankHalf .retune (match half with
    | .a => 0
    | .b => 1))

/-! Twin receive in the pipeline (R91). -/

/-- The symbol period of a profile word in SE cycles, times three (R76, R102). -/
def symbol3 (w : Nat) : Nat :=
  match slice w 0 1, slice w 1 3 with
  | 0, 0 => 6000
  | 0, 1 => 3000
  | 0, 2 => 2000
  | 0, _ => 1500
  | _, 3 => 3000
  | _, 4 => 2000
  | _, _ => 1500

/-- Two units are the copies of one frame (R91). -/
def twinPair (u v : RxUnit) : Bool :=
  v.det.place == (u.det.place + 64) % 128 && v.twin == .waiting &&
  decide (((u.det.tSfd : Int) - (v.det.tSfd : Int)).natAbs ≤ 2 * symbol3 u.det.profWord / 3 + 100) &&
  u.det.sync == v.det.sync && (u.length == v.length || u.length == 0 || v.length == 0) && !v.blanked

/-- A unit leaves CRC with its FCS result: a good frame goes on to PARSE, a bad one ends there. -/
def State.afterCrc (s : State) (u : RxUnit) : State :=
  if u.fcsOk then s.moveRx { u with stage := 4 } else s.endRx u

/-- R91: the pairing time of a copy whose partner never came ends: it is processed as a single copy. -/
def execTwinPairTimeout (unit : Nat) (s : State) : Host.Outcome State Fault Refusal :=
  match s.rxUnit unit with
  | none => goOn s
  | some u =>
    if u.twin ≠ .waiting ∨ s.slot.rx.any (twinPair u) then goOn s
    else
      let u := { u with twin := TwinCopy.single }
      goOn (if u.crcDone ∧ u.stage = 3 then (if u.fcsOk && !s.roomAt 4 then s else s.afterCrc u) else s.setRx u)

/-! The leakage canceller (R92, R93). -/

def State.leakSets (s : State) (h : Nat) : List LeakSet := if h = 0 then s.radio.leakA else s.radio.leakB

def State.setLeak (s : State) (h : Nat) (l : List LeakSet) : State :=
  if h = 0 then { s with radio := { s.radio with leakA := l } } else { s with radio := { s.radio with leakB := l } }

/-- The canceller of a half runs (R92). -/
def State.leakActive (s : State) (h : Nat) : Bool :=
  let c : Int := s.get (if h = 0 then RFC_FREQ_A_FREQ else RFC_FREQ_B_FREQ)
  s.on CHZ_CTRL_LEAK_EN && 4 ≤ s.get RFC_STATE_STATE_T && (h == 1 || s.on RFC_CTRL_ANT_CFG) && !(s.partT && h == 1) &&
  decide (((s.radio.carrier : Int) - c).natAbs ≤ 9600000)

/-- The set of a carrier within ±1 kHz and of the present antenna arrangement. -/
def LeakSet.serves (carrier ant : Nat) (l : LeakSet) : Bool :=
  decide (((l.carrier : Int) - (carrier : Int)).natAbs ≤ 1000) && l.antCfg == ant

/-- A transmission takes its coefficient set to the front: the stored one, or a fresh one in place of the least recently
used of eight (R93). -/
def State.leakStart (s : State) (h : Nat) : State :=
  let a := s.get RFC_CTRL_ANT_CFG
  let l := s.leakSets h
  let f := match l.find? (LeakSet.serves s.radio.carrier a) with
    | some x => x
    | none => { carrier := s.radio.carrier, antCfg := a, converged := false }
  s.setLeak h ((f :: l.filter (fun x => !x.serves s.radio.carrier a)).take 8)

def leakSuppr (h : Nat) : RegField := if h = 0 then CHZ_LEAK_A_SUPPR else CHZ_LEAK_B_SUPPR

/-- The set in use is marked converged or not. -/
def State.markLeak (s : State) (h : Nat) (b : Bool) : State :=
  match s.leakSets h with
  | [] => s
  | x :: xs => s.setLeak h ({ x with converged := b } :: xs)

/-- R93: the set in use first reaches LEAK_TARGET: E38, and it is converged. -/
def execLeakConverged (half : Half) (suppr : Nat) (s : State) : Host.Outcome State Fault Refusal :=
  let h := match half with
    | .a => 0
    | .b => 1
  if !s.leakActive h ∨ suppr < s.get CHZ_LEAKCFG_TARGET ∨ ((s.leakSets h).head?.map (·.converged)) ≠ some false then goOn s
  else goOn (((s.put (leakSuppr h) (min suppr 255)).markLeak h true).raise 38)

/-- R93: 20 000 SE cycles into a transmission on a converged set the suppression is below LEAK_MIN: E39 once for the
transmission, and the set is unconverged. -/
def execLeakResidualCheck (half : Half) (suppr : Nat) (s : State) : Host.Outcome State Fault Refusal :=
  let h := match half with
    | .a => 0
    | .b => 1
  if !s.leakActive h ∨ ((s.leakSets h).head?.map (·.converged)) ≠ some true then goOn s
  else
    let s := s.put (leakSuppr h) (min suppr 255)
    if s.get CHZ_LEAKCFG_MIN ≤ suppr then goOn s
    else
      let s := s.markLeak h false
      let done := if h = 0 then s.radio.leakCheckedA else s.radio.leakCheckedB
      let s := s.raiseIf (!done) 39
      goOn (if h = 0 then { s with radio := { s.radio with leakCheckedA := true } }
        else { s with radio := { s.radio with leakCheckedB := true } })

/-! The crossing to the slot engine (R12, R13). -/

/-- R12: the oldest detection record leaves the crossing and starts a unit of CAPTURE, whose input queue has room for
it. A record with a parity error is discarded: UNCORRECTED, and the frame ends BLANKED (R318). -/
def execDetectionRecordDequeue (parityErr : Bool) (s : State) : Host.Outcome State Fault Refusal :=
  match s.radio.detFifo with
  | [] => goOn s
  | d :: ds =>
    if 16 ≤ (s.atStage 0).length - s.stagePar 0 then goOn s
    else
      let s := { s with radio := { s.radio with detFifo := ds } }
      if parityErr then goOn ((s.report 2 6 3 0).bump (CHZ_LCNT_BLANKED d.place))
      else
        let u : RxUnit := {
          id := s.slot.nextId, asn := s.slot.slotAsn, boundary := s.slot.boundary, det := d, ended := d.ended,
          twin := if s.on CHZ_STATUS_TWIN_ACTIVE then .waiting else .single }
        goOn { s with slot := { s.slot with rx := s.slot.rx ++ [u], nextId := s.slot.nextId + 1 } }

end Sys2Proof.Machine
end

