-- ==== Sys2Proof/Machine/MacFrame.lean ====
section
/-! DEFINITION. Frames as octets and bits: the FCS and CRC of R86 and R99, the whitening sequence of R85, the general MAC
frame of IEEE 802.15.4-2020 as PARSE reads it and BUILD forms it (log entry 6), and CCM* (R187 to R189). -/
namespace Sys2Proof.Machine

/-! Bits and octets. -/

def octetBitsLsb (b : Byte) : List Bool := (List.range 8).map fun k => bit b.toNat k
def octetBitsMsb (b : Byte) : List Bool := (octetBitsLsb b).reverse

/-- The number that bits spell, first bit lowest. -/
def bitsNat : List Bool → Nat
  | [] => 0
  | b :: bs => ofBool b + 2 * bitsNat bs

/-- `n` octets from a bit sequence, least significant bit first in each octet. -/
def octetsLsb : Nat → List Bool → List Byte
  | 0, _ => []
  | n + 1, bs => BitVec.ofNat 8 (bitsNat (bs.take 8)) :: octetsLsb n (bs.drop 8)

/-- `n` octets from a bit sequence, most significant bit first in each octet (R86). -/
def octetsMsb : Nat → List Bool → List Byte
  | 0, _ => []
  | n + 1, bs => BitVec.ofNat 8 (bitsNat (bs.take 8).reverse) :: octetsMsb n (bs.drop 8)

/-- One step of PN9, x^9 + x^5 + 1 (R85): the output bit and the next register. -/
def pn9Step (r : Nat) : Bool × Nat :=
  let out := bit r 0
  (out, r / 2 + 256 * ofBool (bit r 0 != bit r 5))

/-- Bits whitened, or de-whitened, from register value `r`. -/
def pn9 : Nat → List Bool → List Bool
  | _, [] => []
  | r, b :: bs => (b != (pn9Step r).1) :: pn9 (pn9Step r).2 bs

/-- Whitening of a PSDU: the register starts at all ones (R85). -/
def whiten (bs : List Bool) : List Bool := pn9 511 bs

/-! Frame checks. -/

def crcStepMsb (poly w c : Nat) (b : Bool) : Nat :=
  let top := bit c (w - 1) != b
  let c := 2 * c % 2 ^ w
  if top then (BitVec.ofNat 32 c ^^^ BitVec.ofNat 32 poly).toNat else c

/-- CRC-16 of R86: x^16 + x^12 + x^5 + 1, initial value 0xFFFF, most significant bit first, no inversion. -/
def crc16 (bs : List Byte) : Nat := ((bs.map octetBitsMsb).flatten).foldl (crcStepMsb 0x1021 16) 0xFFFF

def crcStepLsb (poly c : Nat) (b : Bool) : Nat :=
  let low := bit c 0 != b
  let c := c / 2
  if low then (BitVec.ofNat 32 c ^^^ BitVec.ofNat 32 poly).toNat else c

/-- The 2-octet FCS of IEEE 802.15.4-2020. -/
def fcs16 (bs : List Byte) : List Byte := leBytes 2 (((bs.map octetBitsLsb).flatten).foldl (crcStepLsb 0x8408) 0)

/-- The 4-octet FCS of IEEE 802.15.4-2020; a shorter frame is extended with zeros to 4 octets. -/
def fcs32 (bs : List Byte) : List Byte :=
  let bs := bs ++ List.replicate (4 - bs.length) 0
  leBytes 4 (0xFFFFFFFF - ((bs.map octetBitsLsb).flatten).foldl (crcStepLsb 0xEDB88320) 0xFFFFFFFF)

/-! The MAC header (R156). -/

/-- Octets of an address of addressing mode `m`. -/
def addrLen (m : Nat) : Nat := if m = 2 then 2 else if m = 3 then 8 else 0

/-- The address of mode `m` at offset `o`. -/
def addrAt (f : List Byte) (m o : Nat) : MacAddr :=
  if m = 2 then .short (leAt f o 2) else if m = 3 then .ext (leAt f o 8) else .none

/-- Whether destination and source PAN identifiers are present, by frame version, PAN ID compression and modes. -/
def panPresent (ver : Nat) (comp : Bool) (dm sm : Nat) : Bool × Bool :=
  if ver < 2 then (dm != 0, sm != 0 && !(comp && dm != 0))
  else if dm = 0 ∧ sm = 0 then (comp, false)
  else if sm = 0 then (!comp, false)
  else if dm = 0 then (false, !comp)
  else if dm = 3 ∧ sm = 3 then (!comp, false)
  else (true, !comp)

/-- What the header IE list gives: its end, whether payload IEs follow, whether it is malformed, and the time sync
information of a Time Correction IE. -/
structure IeScan where
  stop : Nat
  payload : Bool := false
  bad : Bool := false
  timeCorr : Option Nat := none

/-- Header IEs from offset `o`; `fuel` bounds their number. -/
def scanHeaderIes (f : List Byte) : Nat → Nat → Option Nat → IeScan
  | 0, o, t => { stop := o, bad := true, timeCorr := t }
  | fuel + 1, o, t =>
    if f.length ≤ o then { stop := o, timeCorr := t }
    else if f.length < o + 2 then { stop := o, bad := true, timeCorr := t }
    else
      let d := leAt f o 2
      let len := slice d 0 7
      let id := slice d 7 8
      if bit d 15 ∨ f.length < o + 2 + len then { stop := o, bad := true, timeCorr := t }
      else if id = 0x7E then { stop := o + 2, payload := true, timeCorr := t }
      else if id = 0x7F then { stop := o + 2, timeCorr := t }
      else scanHeaderIes f fuel (o + 2 + len) (if id = 0x1E ∧ len = 2 then some (leAt f (o + 2) 2) else t)

/-- The TSCH Synchronization IE among the nested IEs of an MLME IE. -/
def scanNested (f : List Byte) : Nat → Nat → Nat → Option Nat
  | 0, _, _ => none
  | fuel + 1, o, stop =>
    if stop < o + 2 then none
    else
      let d := leAt f o 2
      if bit d 15 then scanNested f fuel (o + 2 + slice d 0 11) stop
      else if slice d 8 7 = 0x1A ∧ slice d 0 8 = 6 then some (leAt f (o + 2) 5)
      else scanNested f fuel (o + 2 + slice d 0 8) stop

/-- Payload IEs from offset `o`: malformed or not, and the ASN of a TSCH Synchronization IE. -/
def scanPayloadIes (f : List Byte) : Nat → Nat → Option Nat → Bool × Option Nat
  | 0, _, a => (true, a)
  | fuel + 1, o, a =>
    if f.length ≤ o then (false, a)
    else if f.length < o + 2 then (true, a)
    else
      let d := leAt f o 2
      let len := slice d 0 11
      let g := slice d 11 4
      if !bit d 15 ∨ f.length < o + 2 + len then (true, a)
      else if g = 0xF then (false, a)
      else scanPayloadIes f fuel (o + 2 + len)
        (if g = 1 then (match a with
          | some x => some x
          | none => scanNested f 1024 (o + 2) (o + 2 + len)) else a)

/-- Length of the auxiliary security header at its first octet `c`. -/
def ashLen (c : Nat) : Nat :=
  1 + (if bit c 5 then 0 else 4) + [0, 1, 5, 9].getD (slice c 3 2) 0

/-- The header of a frame without its FCS; none where the octets end inside the addressing fields or the auxiliary
security header. A frame at security level 0 is an unsecured one (R187). -/
def parseHeader (f : List Byte) : Option MacHeader :=
  let fc := leAt f 0 2
  let ver := slice fc 12 2
  let dm := slice fc 10 2
  let sm := slice fc 14 2
  let sec := bit fc 3
  let noSeq := ver == 2 && bit fc 8
  let o1 := if noSeq then 2 else 3
  let (dp, sp) := panPresent ver (bit fc 6) dm sm
  let o2 := o1 + (if dp then 2 else 0)
  let o3 := o2 + addrLen dm
  let o4 := o3 + (if sp then 2 else 0)
  let o5 := o4 + addrLen sm
  let sc := leAt f o5 1
  let o6 := o5 + (if sec then ashLen sc else 0)
  if f.length < o6 then none
  else
    let kim := slice sc 3 2
    let ies := if ver = 2 ∧ bit fc 9 then scanHeaderIes f 64 o6 none else { stop := o6 }
    let safe := sec && slice sc 0 3 != 0
    let pay := if ies.payload ∧ !safe then scanPayloadIes f 64 ies.stop none else (false, none)
    some {
      frameType := slice fc 0 3, version := ver, secured := safe, pending := bit fc 4, ar := bit fc 5,
      seq := if noSeq then none else some (leAt f 2 1),
      destPan := if dp then some (leAt f o1 2) else none, dest := addrAt f dm o2,
      srcPan := if sp then some (leAt f o3 2) else none, src := addrAt f sm o4,
      level := if sec then slice sc 0 3 else 0, kidm := if safe then kim else 0,
      fc := if safe ∧ !bit sc 5 then some (leAt f (o5 + 1) 4) else none,
      keyIndex := if safe ∧ kim ≠ 0 then leAt f (o6 - 1) 1 else 0,
      headerLen := ies.stop, iesBad := ies.bad || pay.1, timeCorr := ies.timeCorr, asn := pay.2 }

/-- Octets before the auxiliary security header: where BUILD inserts it (R177). -/
def addressEnd (f : List Byte) : Nat :=
  let fc := leAt f 0 2
  let ver := slice fc 12 2
  let (dp, sp) := panPresent ver (bit fc 6) (slice fc 10 2) (slice fc 14 2)
  (if ver = 2 ∧ bit fc 8 then 2 else 3) + (if dp then 2 else 0) + addrLen (slice fc 10 2) +
    (if sp then 2 else 0) + addrLen (slice fc 14 2)

/-! CCM* (R187, R189). -/

def xorBytes (a b : List Byte) : List Byte := List.zipWith (· ^^^ ·) a b

/-- Octets cut into blocks of 16, the last padded with zeros. -/
def blocks16 : Nat → List Byte → List (List Byte)
  | 0, _ => []
  | fuel + 1, bs => if bs.isEmpty then [] else
    (bs.take 16 ++ List.replicate (16 - (bs.take 16).length) 0) :: blocks16 fuel (bs.drop 16)

/-- MIC length of a security level. -/
def micLen (level : Nat) : Nat := [0, 4, 8, 16].getD (level % 4) 0

/-- The CBC-MAC over the B0 block, the encoded length and authenticated data, and the message. -/
def ccmTag (sm4 : Bool) (key nonce a m : List Byte) (mic : Nat) : List Byte :=
  let flags := (if a.isEmpty then 0 else 64) + 8 * ((mic - 2) / 2) + 1
  let b0 := BitVec.ofNat 8 flags :: nonce ++ (leBytes 2 m.length).reverse
  let aBlocks := if a.isEmpty then [] else blocks16 (a.length + 2) ((leBytes 2 a.length).reverse ++ a)
  (b0 :: aBlocks ++ blocks16 (m.length + 1) m).foldl (fun x b => Config.blockCipher sm4 key (xorBytes x b))
    (List.replicate 16 0)

/-- The key stream block of counter `i`. -/
def ccmStream (sm4 : Bool) (key nonce : List Byte) (i : Nat) : List Byte :=
  Config.blockCipher sm4 key (1 :: nonce ++ (leBytes 2 i).reverse)

/-- A message encrypted or decrypted with the counter blocks A_1, A_2, … -/
def ccmCrypt (sm4 : Bool) (key nonce m : List Byte) : List Byte :=
  ((List.range (divUp m.length 16)).map fun i =>
    xorBytes ((m.drop (16 * i)).take 16) (ccmStream sm4 key nonce (i + 1))).flatten

/-- The MIC: the tag encrypted with A_0, cut to its length. -/
def ccmMic (sm4 : Bool) (key nonce a m : List Byte) (mic : Nat) : List Byte :=
  (xorBytes (ccmTag sm4 key nonce a m mic) (ccmStream sm4 key nonce 0)).take mic

/-- Block invocations of a CCM* operation (R183): `a` authenticated and `m` message octets. -/
def ccmBlocks (enc : Bool) (a m : Nat) : Nat :=
  if enc then 2 + divUp (a + 2) 16 + 2 * divUp m 16 else 2 + divUp (a + m + 2) 16

/-- The nonce of R188 from an extended address as a number, a frame counter and a level. -/
def ccmNonce (ext fc level : Nat) : List Byte :=
  (leBytes 8 ext).reverse ++ (leBytes 4 fc).reverse ++ [BitVec.ofNat 8 level]

end Sys2Proof.Machine
end

