-- ==== Sys2Proof/Machine/RegSec.lean ====
section
/-! DEFINITION. The register fields of the SEC block (base 0x40060000), from the block map and field tables of
spec/07_frame_security.md: address, lowest bit, width and reset value of each field, then each register's row of fields with
their access codes (R6) and the values a field accepts. -/
namespace Sys2Proof.Machine

def SEC_STATUS_RESERVE : RegField := ⟨0x40060000, 0, 5, 0⟩
def SEC_STATUS_GENERAL : RegField := ⟨0x40060000, 8, 5, 16⟩
def SEC_LANEBUSY_BUSY : RegField := ⟨0x40060004, 0, 16, 0⟩
def SEC_LANEBUSY_RSV : RegField := ⟨0x40060004, 16, 16, 0⟩
def SEC_COUNT0_SE_AUTHF : RegField := ⟨0x40060008, 0, 16, 0⟩
def SEC_COUNT0_SE_KEYLIM : RegField := ⟨0x40060008, 16, 16, 0⟩
def SEC_COUNT1_SE_FAULT : RegField := ⟨0x4006000C, 0, 16, 0⟩
def SEC_COUNT1_SE_PAGEV : RegField := ⟨0x4006000C, 16, 16, 0⟩
def SEC_KSEL_SLOT : RegField := ⟨0x40060010, 0, 8, 0⟩
def SEC_KOWNER_OWNER : RegField := ⟨0x40060014, 0, 3, 0⟩
def SEC_KINFO_STATE : RegField := ⟨0x40060018, 0, 2, 0⟩
def SEC_KINFO_ALG : RegField := ⟨0x40060018, 2, 1, 0⟩
def SEC_KINFO_LOAD_PEND : RegField := ⟨0x40060018, 3, 1, 0⟩
def SEC_WIN_BASE_ADDR (i : Nat) : RegField := ⟨0x40060020 + 0x8 * (i % 8), 0, 32, 0⟩
def SEC_WIN_LIMIT_ADDR (i : Nat) : RegField := ⟨0x40060024 + 0x8 * (i % 8), 0, 32, 0⟩
def SEC_LOCK_LOCK : RegField := ⟨0x40060060, 0, 1, 0⟩
def SEC_P_SUBMIT_ADDR (i : Nat) : RegField := ⟨0x40061000 + 0x1000 * (i % 8), 0, 32, 0⟩
def SEC_P_STAT_LEVEL (i : Nat) : RegField := ⟨0x40061004 + 0x1000 * (i % 8), 0, 3, 0⟩
def SEC_P_STAT_RUNNING (i : Nat) : RegField := ⟨0x40061004 + 0x1000 * (i % 8), 3, 1, 0⟩
def SEC_P_STAT_SUB_REJ (i : Nat) : RegField := ⟨0x40061004 + 0x1000 * (i % 8), 4, 1, 0⟩
def SEC_P_STAT_LAST (i : Nat) : RegField := ⟨0x40061004 + 0x1000 * (i % 8), 8, 8, 0⟩
def SEC_P_STAT_COMPLETED (i : Nat) : RegField := ⟨0x40061004 + 0x1000 * (i % 8), 16, 16, 0⟩
def SEC_P_DONE_DONE (i : Nat) : RegField := ⟨0x40061008 + 0x1000 * (i % 8), 0, 1, 0⟩
def SEC_P_DONE_ABORT (i : Nat) : RegField := ⟨0x40061008 + 0x1000 * (i % 8), 1, 1, 0⟩
def SEC_P_KSEL_SLOT (i : Nat) : RegField := ⟨0x4006100C + 0x1000 * (i % 8), 0, 8, 0⟩
def SEC_P_KCFG_ALG (i : Nat) : RegField := ⟨0x40061010 + 0x1000 * (i % 8), 0, 1, 0⟩
def SEC_P_KCFG_TXLVL (i : Nat) : RegField := ⟨0x40061010 + 0x1000 * (i % 8), 1, 3, 0⟩
def SEC_P_KCFG_MINLVL (i : Nat) : RegField := ⟨0x40061010 + 0x1000 * (i % 8), 4, 3, 0⟩
def SEC_P_KCFG_KIDM (i : Nat) : RegField := ⟨0x40061010 + 0x1000 * (i % 8), 7, 2, 0⟩
def SEC_P_KCFG_USE_SE (i : Nat) : RegField := ⟨0x40061010 + 0x1000 * (i % 8), 9, 1, 0⟩
def SEC_P_KCFG_USE_GEN (i : Nat) : RegField := ⟨0x40061010 + 0x1000 * (i % 8), 10, 1, 0⟩
def SEC_P_KCFG_USE_PRIV (i : Nat) : RegField := ⟨0x40061010 + 0x1000 * (i % 8), 11, 1, 0⟩
def SEC_P_KCFG_KEY_INDEX (i : Nat) : RegField := ⟨0x40061010 + 0x1000 * (i % 8), 16, 8, 0⟩
def SEC_P_KLIMIT_LIMIT (i : Nat) : RegField := ⟨0x40061014 + 0x1000 * (i % 8), 0, 32, 0xffffffff⟩
def SEC_P_KTXFC_TXFC (i : Nat) : RegField := ⟨0x40061018 + 0x1000 * (i % 8), 0, 32, 0⟩
def SEC_P_KDATA0_KEY (i : Nat) : RegField := ⟨0x4006101C + 0x1000 * (i % 8), 0, 32, 0⟩
def SEC_P_KDATA1_KEY (i : Nat) : RegField := ⟨0x40061020 + 0x1000 * (i % 8), 0, 32, 0⟩
def SEC_P_KDATA2_KEY (i : Nat) : RegField := ⟨0x40061024 + 0x1000 * (i % 8), 0, 32, 0⟩
def SEC_P_KDATA3_KEY (i : Nat) : RegField := ⟨0x40061028 + 0x1000 * (i % 8), 0, 32, 0⟩
def SEC_P_KCMD_CMD (i : Nat) : RegField := ⟨0x4006102C + 0x1000 * (i % 8), 0, 2, 0⟩
def SEC_P_KSTAT_STATE (i : Nat) : RegField := ⟨0x40061030 + 0x1000 * (i % 8), 0, 2, 0⟩
def SEC_P_KSTAT_OWNED (i : Nat) : RegField := ⟨0x40061030 + 0x1000 * (i % 8), 2, 1, 0⟩
def SEC_P_KSTAT_KCMD_REJ (i : Nat) : RegField := ⟨0x40061030 + 0x1000 * (i % 8), 3, 1, 0⟩
def SEC_P_KSTAT_LOAD_PEND (i : Nat) : RegField := ⟨0x40061030 + 0x1000 * (i % 8), 4, 1, 0⟩
def SEC_P_KCOUNT_VALUE (i : Nat) : RegField := ⟨0x40061034 + 0x1000 * (i % 8), 0, 32, 0⟩
def SEC_P_KTXFCR_VALUE (i : Nat) : RegField := ⟨0x40061038 + 0x1000 * (i % 8), 0, 32, 0⟩

def SEC_STATUS_reg : RegRow :=
  { base := 0x40060000, count := 1, stride := 4,
    rows := fun _ => [
      ⟨SEC_STATUS_RESERVE, .ro, fun _ => true, false⟩,
      ⟨SEC_STATUS_GENERAL, .ro, fun _ => true, false⟩] }

def SEC_LANEBUSY_reg : RegRow :=
  { base := 0x40060004, count := 1, stride := 4,
    rows := fun _ => [
      ⟨SEC_LANEBUSY_BUSY, .ro, fun _ => true, false⟩,
      ⟨SEC_LANEBUSY_RSV, .ro, fun _ => true, false⟩] }

def SEC_COUNT0_reg : RegRow :=
  { base := 0x40060008, count := 1, stride := 4,
    rows := fun _ => [
      ⟨SEC_COUNT0_SE_AUTHF, .ro, fun _ => true, false⟩,
      ⟨SEC_COUNT0_SE_KEYLIM, .ro, fun _ => true, false⟩] }

def SEC_COUNT1_reg : RegRow :=
  { base := 0x4006000C, count := 1, stride := 4,
    rows := fun _ => [
      ⟨SEC_COUNT1_SE_FAULT, .ro, fun _ => true, false⟩,
      ⟨SEC_COUNT1_SE_PAGEV, .ro, fun _ => true, false⟩] }

def SEC_KSEL_reg : RegRow :=
  { base := 0x40060010, count := 1, stride := 4,
    rows := fun _ => [
      ⟨SEC_KSEL_SLOT, .rw, fun _ => true, false⟩] }

def SEC_KOWNER_reg : RegRow :=
  { base := 0x40060014, count := 1, stride := 4,
    rows := fun _ => [
      ⟨SEC_KOWNER_OWNER, .rw, fun _ => true, false⟩] }

def SEC_KINFO_reg : RegRow :=
  { base := 0x40060018, count := 1, stride := 4,
    rows := fun _ => [
      ⟨SEC_KINFO_STATE, .ro, fun _ => true, false⟩,
      ⟨SEC_KINFO_ALG, .ro, fun _ => true, false⟩,
      ⟨SEC_KINFO_LOAD_PEND, .ro, fun _ => true, false⟩] }

def SEC_WIN_BASE_reg : RegRow :=
  { base := 0x40060020, count := 8, stride := 8,
    rows := fun i => [
      ⟨SEC_WIN_BASE_ADDR i, .rwl, fun _ => true, false⟩] }

def SEC_WIN_LIMIT_reg : RegRow :=
  { base := 0x40060024, count := 8, stride := 8,
    rows := fun i => [
      ⟨SEC_WIN_LIMIT_ADDR i, .rwl, fun _ => true, false⟩] }

def SEC_LOCK_reg : RegRow :=
  { base := 0x40060060, count := 1, stride := 4,
    rows := fun _ => [
      ⟨SEC_LOCK_LOCK, .w1s, fun _ => true, false⟩] }

def SEC_P_SUBMIT_reg : RegRow :=
  { base := 0x40061000, count := 8, stride := 4096,
    rows := fun i => [
      ⟨SEC_P_SUBMIT_ADDR i, .wo, fun _ => true, false⟩] }

def SEC_P_STAT_reg : RegRow :=
  { base := 0x40061004, count := 8, stride := 4096,
    rows := fun i => [
      ⟨SEC_P_STAT_LEVEL i, .ro, fun _ => true, false⟩,
      ⟨SEC_P_STAT_RUNNING i, .ro, fun _ => true, false⟩,
      ⟨SEC_P_STAT_SUB_REJ i, .ro, fun _ => true, false⟩,
      ⟨SEC_P_STAT_LAST i, .ro, fun _ => true, false⟩,
      ⟨SEC_P_STAT_COMPLETED i, .ro, fun _ => true, false⟩] }

def SEC_P_DONE_reg : RegRow :=
  { base := 0x40061008, count := 8, stride := 4096,
    rows := fun i => [
      ⟨SEC_P_DONE_DONE i, .w1c, fun _ => true, false⟩,
      ⟨SEC_P_DONE_ABORT i, .wo, fun _ => true, false⟩] }

def SEC_P_KSEL_reg : RegRow :=
  { base := 0x4006100C, count := 8, stride := 4096,
    rows := fun i => [
      ⟨SEC_P_KSEL_SLOT i, .rw, fun _ => true, false⟩] }

def SEC_P_KCFG_reg : RegRow :=
  { base := 0x40061010, count := 8, stride := 4096,
    rows := fun i => [
      ⟨SEC_P_KCFG_ALG i, .rw, fun _ => true, false⟩,
      ⟨SEC_P_KCFG_TXLVL i, .rw, fun _ => true, false⟩,
      ⟨SEC_P_KCFG_MINLVL i, .rw, fun _ => true, false⟩,
      ⟨SEC_P_KCFG_KIDM i, .rw, fun _ => true, false⟩,
      ⟨SEC_P_KCFG_USE_SE i, .rw, fun _ => true, false⟩,
      ⟨SEC_P_KCFG_USE_GEN i, .rw, fun _ => true, false⟩,
      ⟨SEC_P_KCFG_USE_PRIV i, .rw, fun _ => true, false⟩,
      ⟨SEC_P_KCFG_KEY_INDEX i, .rw, fun _ => true, false⟩] }

def SEC_P_KLIMIT_reg : RegRow :=
  { base := 0x40061014, count := 8, stride := 4096,
    rows := fun i => [
      ⟨SEC_P_KLIMIT_LIMIT i, .rw, fun _ => true, false⟩] }

def SEC_P_KTXFC_reg : RegRow :=
  { base := 0x40061018, count := 8, stride := 4096,
    rows := fun i => [
      ⟨SEC_P_KTXFC_TXFC i, .rw, fun _ => true, false⟩] }

def SEC_P_KDATA0_reg : RegRow :=
  { base := 0x4006101C, count := 8, stride := 4096,
    rows := fun i => [
      ⟨SEC_P_KDATA0_KEY i, .wo, fun _ => true, false⟩] }

def SEC_P_KDATA1_reg : RegRow :=
  { base := 0x40061020, count := 8, stride := 4096,
    rows := fun i => [
      ⟨SEC_P_KDATA1_KEY i, .wo, fun _ => true, false⟩] }

def SEC_P_KDATA2_reg : RegRow :=
  { base := 0x40061024, count := 8, stride := 4096,
    rows := fun i => [
      ⟨SEC_P_KDATA2_KEY i, .wo, fun _ => true, false⟩] }

def SEC_P_KDATA3_reg : RegRow :=
  { base := 0x40061028, count := 8, stride := 4096,
    rows := fun i => [
      ⟨SEC_P_KDATA3_KEY i, .wo, fun _ => true, false⟩] }

def SEC_P_KCMD_reg : RegRow :=
  { base := 0x4006102C, count := 8, stride := 4096,
    rows := fun i => [
      ⟨SEC_P_KCMD_CMD i, .wo, fun _ => true, false⟩] }

def SEC_P_KSTAT_reg : RegRow :=
  { base := 0x40061030, count := 8, stride := 4096,
    rows := fun i => [
      ⟨SEC_P_KSTAT_STATE i, .ro, fun _ => true, false⟩,
      ⟨SEC_P_KSTAT_OWNED i, .ro, fun _ => true, false⟩,
      ⟨SEC_P_KSTAT_KCMD_REJ i, .ro, fun _ => true, false⟩,
      ⟨SEC_P_KSTAT_LOAD_PEND i, .ro, fun _ => true, false⟩] }

def SEC_P_KCOUNT_reg : RegRow :=
  { base := 0x40061034, count := 8, stride := 4096,
    rows := fun i => [
      ⟨SEC_P_KCOUNT_VALUE i, .ro, fun _ => true, false⟩] }

def SEC_P_KTXFCR_reg : RegRow :=
  { base := 0x40061038, count := 8, stride := 4096,
    rows := fun i => [
      ⟨SEC_P_KTXFCR_VALUE i, .ro, fun _ => true, false⟩] }

/-- Every register of the SEC block, by address. -/
def secRegs : List RegRow :=
  [SEC_STATUS_reg, SEC_LANEBUSY_reg, SEC_COUNT0_reg, SEC_COUNT1_reg, SEC_KSEL_reg, SEC_KOWNER_reg, SEC_KINFO_reg, SEC_WIN_BASE_reg, SEC_WIN_LIMIT_reg, SEC_LOCK_reg, SEC_P_SUBMIT_reg, SEC_P_STAT_reg, SEC_P_DONE_reg, SEC_P_KSEL_reg, SEC_P_KCFG_reg, SEC_P_KLIMIT_reg, SEC_P_KTXFC_reg, SEC_P_KDATA0_reg, SEC_P_KDATA1_reg, SEC_P_KDATA2_reg, SEC_P_KDATA3_reg, SEC_P_KCMD_reg, SEC_P_KSTAT_reg, SEC_P_KCOUNT_reg] ++
  [SEC_P_KTXFCR_reg]

end Sys2Proof.Machine
end

