-- ==== Sys2Proof/Machine/CipherOps.lean ====
section
/-! DEFINITION. Operations of the cipher island: key slots, usage limits, the requests of the pages and their lanes. -/
namespace Sys2Proof.Machine

def State.key (s : State) (i : Nat) : KeySlot := Sparse.read {} s.sec.keys i

def State.setKey (s : State) (i : Nat) (k : KeySlot) : State :=
  { s with sec := { s.sec with keys := Sparse.write {} s.sec.keys i k } }

def State.page (s : State) (p : Nat) : CipherPage := Sparse.read {} s.sec.pages p

def State.setPage (s : State) (p : Nat) (g : CipherPage) : State :=
  { s with sec := { s.sec with pages := Sparse.write {} s.sec.pages p g } }

/-- Status codes of R198. -/
def cipherOk : Nat := 1
def cipherAuthFail : Nat := 2
def cipherKeyLimit : Nat := 3
def cipherFault : Nat := 4
def cipherPageViolation : Nat := 5
def cipherKeyEmpty : Nat := 6
def cipherMode : Nat := 7
def cipherLength : Nat := 8
def cipherAccess : Nat := 9
def cipherAborted : Nat := 10
def cipherUse : Nat := 11

/-- R194: a slot that cannot carry `b` more blocks becomes EXHAUSTED with E66. -/
def State.exhaust (s : State) (i : Nat) : State := (s.setKey i { s.key i with state := .exhausted }).raise 66

/-- R194: the usage check of a slot for `b` blocks; on a pass the blocks are charged. -/
def State.charged (s : State) (i b : Nat) (transmit : Bool) : Nat × State :=
  let k := s.key i
  match k.state with
  | .empty => (cipherKeyEmpty, s)
  | .exhausted => (cipherKeyLimit, s)
  | .fault => (cipherFault, s)
  | .ready =>
    if k.image.limit < k.count + b ∨ (transmit ∧ k.txfc = 0xFFFFFFFF) then (cipherKeyLimit, s.exhaust i)
    else
      let s := s.setKey i { k with count := k.count + b }
      (cipherOk, if k.count + b = k.image.limit then s.exhaust i else s)

/-- R196: the slot engine may use a slot for a context. -/
def State.seUsable (s : State) (c i : Nat) : Bool :=
  let k := s.key i
  k.owner == slice (s.ctx c 14 1) 0 3 && k.image.useSe && k.state == .ready

/-- R199: the events and counts of a unit whose key fails R196. -/
def State.seRefused (s : State) (c i : Nat) : State :=
  let k := s.key i
  if k.owner = slice (s.ctx c 14 1) 0 3 ∧ k.image.useSe ∧ k.state = .exhausted then (s.bump SEC_COUNT0_SE_KEYLIM).raise 66
  else if k.owner = slice (s.ctx c 14 1) 0 3 ∧ k.image.useSe ∧ k.state = .fault then (s.bump SEC_COUNT1_SE_FAULT).raise 67
  else (s.bump SEC_COUNT1_SE_PAGEV).raise 70

/-- The descriptor status of a transmission whose key fails R196 (R199). -/
def State.seTxStatus (s : State) (c i : Nat) : Nat :=
  let k := s.key i
  if k.owner = slice (s.ctx c 14 1) 0 3 ∧ k.image.useSe ∧ k.state = .exhausted then 0xD
  else if k.owner = slice (s.ctx c 14 1) 0 3 ∧ k.image.useSe ∧ k.state = .fault then 0xE else 0xF

/-- R190: the key slot that SECURE selects for a received frame of context `c`. -/
def State.selectKey (s : State) (c : Nat) (h : MacHeader) : Option Nat :=
  let k0 := s.ctx c 12 1
  let k1 := s.ctx c 13 1
  if h.kidm = 0 then some k0
  else if (s.key k0).image.keyIndex = h.keyIndex then some k0
  else if s.ctxFlag c 7 ∧ (s.key k1).image.keyIndex = h.keyIndex then some k1
  else none

/-- The key slot that secures a transmission: KEY0 of its context, or the key that verified the acknowledged frame. -/
def State.txKey (s : State) (u : TxUnit) : Option Nat :=
  if u.kind = .ack then u.ackKey else u.ctx.map fun c => s.ctx c 12 1

/-- Octets of the message m of a received frame (R189): the rest of the PSDU before MIC and FCS. -/
def RxUnit.msgLen (u : RxUnit) : Nat := u.psdu.length - u.fcsLen - micLen u.hdr.level - u.hdr.headerLen

/-- Block invocations of a received frame. -/
def RxUnit.blocks (u : RxUnit) : Nat := ccmBlocks (decide (4 < u.hdr.level)) u.hdr.headerLen u.msgLen

/-- Units that run a CCM* operation under slot `i` now: those in a processing slot of stage 6 or 11. -/
def State.keyUnits (s : State) (i : Nat) : List Nat :=
  (s.slot.rx.filterMap fun u =>
    if u.stage = 6 ∧ u.hdr.secured ∧ s.served 6 u.id ∧ (u.ctx.bind fun c => s.selectKey c u.hdr) = some i then some u.id
    else none) ++
  (s.slot.tx.filterMap fun u =>
    if u.stage = 11 ∧ u.secure ∧ s.served 11 u.id ∧ s.txKey u = some i then some u.id else none)

/-- Pages whose running request uses slot `i`. -/
def State.keyPages (s : State) (i : Nat) : List Nat :=
  (List.range 8).filter fun p => match (s.page p).reqs with
    | r :: _ => r.started && r.verdict == cipherOk && r.slot == i
    | [] => false

/-- A command that waits on the slot holds this user back: it did not run when the command came (R193). -/
def State.keyWaits (s : State) (i : Nat) (unit : Option Nat) (page : Option Nat) : Bool :=
  match (s.key i).pend with
  | none => false
  | some w => !(match unit, page with
    | some u, _ => w.units.contains u
    | none, some p => w.pages.contains p
    | none, none => false)

/-- A LOAD or CLEAR takes effect (R193). -/
def State.keyApply (s : State) (i : Nat) (image : Option KeyImage) : State :=
  let k := s.key i
  match image with
  | some g => s.setKey i { k with state := .ready, image := g, count := 0, txfc := g.txfc, pend := none }
  | none => s.setKey i { k with state := .empty, image := { k.image with key := [] }, count := 0, txfc := 0, pend := none }

/-- A key command on slot `i`: at once, or after the operations that run under it (LOAD_PEND). -/
def State.keyCommand (s : State) (i : Nat) (image : Option KeyImage) : State :=
  let us := s.keyUnits i
  let ps := s.keyPages i
  if us.isEmpty ∧ ps.isEmpty ∧ (s.key i).pend.isNone then s.keyApply i image
  else s.setKey i { s.key i with pend := some { image := image, units := us, pages := ps } }

/-- Parameters that LOAD accepts on page `p` (R193). -/
def keyLegal (g : KeyImage) (p : Nat) : Bool :=
  g.txlvl != 0 && g.txlvl != 4 && g.minlvl != 4 && g.kidm ≤ 1 && !(g.usePriv && 2 ≤ p)

/-- The image staged in a page's key registers. -/
def State.stagedKey (s : State) (p : Nat) : KeyImage :=
  { key := leBytes 4 (s.get (SEC_P_KDATA0_KEY p)) ++ leBytes 4 (s.get (SEC_P_KDATA1_KEY p)) ++
      leBytes 4 (s.get (SEC_P_KDATA2_KEY p)) ++ leBytes 4 (s.get (SEC_P_KDATA3_KEY p))
    sm4 := s.on (SEC_P_KCFG_ALG p), txlvl := s.get (SEC_P_KCFG_TXLVL p), minlvl := s.get (SEC_P_KCFG_MINLVL p)
    kidm := s.get (SEC_P_KCFG_KIDM p), useSe := s.on (SEC_P_KCFG_USE_SE p), useGen := s.on (SEC_P_KCFG_USE_GEN p)
    usePriv := s.on (SEC_P_KCFG_USE_PRIV p), keyIndex := s.get (SEC_P_KCFG_KEY_INDEX p)
    limit := s.get (SEC_P_KLIMIT_LIMIT p), txfc := s.get (SEC_P_KTXFC_TXFC p) }

/-! General requests (R197, R198). -/

/-- The descriptor of a request: 40 octets of memory, or the host's image. -/
def State.reqImage (s : State) (r : GenReq) : List Byte :=
  if r.host then s.sec.hostReq.take 40 else s.bytes r.addr 40

def reqOp (d : List Byte) : Nat := leAt d 0 1
def reqMic (d : List Byte) : Nat := micLen (slice (leAt d 2 1) 0 2)
def reqEnc (d : List Byte) : Bool := bit (leAt d 2 1) 2
def reqA (d : List Byte) : Nat := leAt d 4 2
def reqP (d : List Byte) : Nat := leAt d 6 2
def reqIsCcm (d : List Byte) : Bool := reqOp d == 1 || reqOp d == 2

/-- Octets read from SRC and written to DST. -/
def reqSrcLen (d : List Byte) : Nat := reqA d + reqP d + (if reqOp d = 2 then reqMic d else 0)
def reqDstLen (d : List Byte) : Nat := reqA d + reqP d + (if reqOp d = 1 then reqMic d else 0)

/-- Lengths, operation and reserved fields are within R197. -/
def reqLengthOk (d : List Byte) : Bool :=
  let op := reqOp d
  let legal := op == 1 || op == 2 || op == 4 || op == 5 || op == 6 || op == 7 || op == 8
  legal && leAt d 3 1 == 0 && leAt d 34 2 == 0 &&
  (if reqIsCcm d then slice (leAt d 2 1) 0 2 != 0 && slice (leAt d 2 1) 3 5 == 0 && reqA d ≤ 2047 && reqP d ≤ 4096 &&
      leAt d 29 3 == 0
    else reqA d == 0 && 16 ≤ reqP d && reqP d ≤ 65520 && (op ≥ 6 || reqP d % 16 == 0))

/-- A range inside a page's window. -/
def State.inWindow (s : State) (p a n : Nat) : Bool :=
  let b := s.get (SEC_WIN_BASE_ADDR p)
  let l := s.get (SEC_WIN_LIMIT_ADDR p)
  b ≤ l && b ≤ a && a + n ≤ l + 1

/-- Block invocations of a request (R183). -/
def reqBlocks (d : List Byte) : Nat :=
  if reqIsCcm d then ccmBlocks (reqEnc d) (reqA d) (reqP d) else divUp (reqP d) 16

/-- The checks of R198 in their order; a pass charges the key (R194). -/
def State.reqCheck (s : State) (p : Nat) (r : GenReq) : Nat × State :=
  let d := s.reqImage r
  let slot := leAt d 1 1
  let k := s.key slot
  if !r.host && (r.addr % 8 != 0 || !s.inWindow p (leAt d 8 4) (reqSrcLen d) || !s.inWindow p (leAt d 12 4) (reqDstLen d)) then
    (cipherAccess, s)
  else if !reqLengthOk d then (cipherLength, s)
  else if !reqIsCcm d && 2 ≤ p then (cipherMode, s)
  else if k.owner ≠ p then (cipherPageViolation, s.raise 70)
  else if k.state = .empty then (cipherKeyEmpty, s)
  else if (if reqIsCcm d then !k.image.useGen else !k.image.usePriv) then (cipherUse, s)
  else s.charged slot (reqBlocks d) false

/-- General lanes that no page holds (R184). -/
def State.freeLane (s : State) : Option Nat :=
  (List.range 16).find? fun l => s.sec.reserve ≤ l && (List.range 8).all fun p => (s.page p).lane != some l

/-- A page's first request takes a free general lane and, at its start, meets the checks (R185, R198). -/
def State.serve (s : State) (p : Nat) : State :=
  let g := s.page p
  match g.reqs, g.lane, s.freeLane with
  | r :: rs, none, some l =>
    let d := s.reqImage r
    if !r.started && s.keyWaits (leAt d 1 1) none (some p) then s
    else if r.started then ({ s with sec := { s.sec with lastPage := p } }).setPage p { g with lane := some l }
    else
      let (v, s) := s.reqCheck p r
      let r := { r with started := true, verdict := v, blocks := reqBlocks d, slot := leAt d 1 1 }
      ({ s with sec := { s.sec with lastPage := p } }).setPage p { reqs := r :: rs, lane := some l }
  | _, _, _ => s

/-- The arbiter serves the pages in turn from the one after the page served last (R185). -/
def State.arbitrate (s : State) : State :=
  let p0 := s.sec.lastPage
  (List.range 8).foldl (fun (s : State) k => s.serve ((p0 + 1 + k) % 8)) s

/-- The first request of a page leaves it with a status: SEC_Pp_STAT, DONE, E64 (R197). -/
def State.reqFinished (s : State) (p status : Nat) : State :=
  let g := s.page p
  let s := s.setPage p { reqs := g.reqs.drop 1, lane := none }
  (((s.put (SEC_P_STAT_LAST p) status).bumpWrap (SEC_P_STAT_COMPLETED p)).flag (SEC_P_DONE_DONE p) true).raise 64

/-- STATUS, RESULT and USED of a request's descriptor, in memory or in the host's result image. -/
def State.reqStatus (s : State) (r : GenReq) (status used : Nat) (out : List Byte) : State :=
  if r.host then
    let d := s.sec.hostReq.take 32 ++ leBytes 1 status ++ leBytes 1 (2 + ofBool (status == cipherAuthFail)) ++ leBytes 2 0 ++ leBytes 4 used
    { s with sec := { s.sec with result := d ++ out } }
  else
    let s := s.devWrite (r.addr + 32) (leBytes 1 status)
    let s := s.devWrite (r.addr + 33) (leBytes 1 (2 + ofBool (status == cipherAuthFail)))
    s.devWrite (r.addr + 36) (leBytes 4 used)

/-- 128-bit counter blocks, most significant octet first. -/
def incBlock (b : List Byte) : List Byte := (leBytes 16 (leNat b.reverse + 1)).reverse

/-- Output and next chaining value of CBC, CTR and CFB over blocks of data. -/
def chain (sm4 : Bool) (op : Nat) (key : List Byte) : List Byte → List (List Byte) → List Byte × List Byte
  | iv, [] => ([], iv)
  | iv, b :: bs =>
    let (o, nx) := match op with
      | 4 => let c := Config.blockCipher sm4 key (xorBytes b iv); (c, c)
      | 5 => (xorBytes (Config.blockDecipher sm4 key b) iv, b)
      | 6 => (xorBytes b (Config.blockCipher sm4 key iv), incBlock iv)
      | 7 => let c := xorBytes b (Config.blockCipher sm4 key iv); (c, c)
      | _ => (xorBytes b (Config.blockCipher sm4 key iv), b)
    let (rest, iv') := chain sm4 op key nx bs
    (o ++ rest, iv')

/-- What a request computes on its source octets: output octets, next chaining value, MIC mismatch. -/
def reqCompute (k : KeyImage) (d src : List Byte) : List Byte × List Byte × Bool :=
  let op := reqOp d
  let nonce := bytesAt d 16 13
  let mic := reqMic d
  let a := src.take (reqA d)
  let p := (src.drop (reqA d)).take (reqP d)
  if op = 1 then
    if reqEnc d then (a ++ ccmCrypt k.sm4 k.key nonce p ++ ccmMic k.sm4 k.key nonce a p mic, bytesAt d 16 16, false)
    else (a ++ p ++ ccmMic k.sm4 k.key nonce (a ++ p) [] mic, bytesAt d 16 16, false)
  else if op = 2 then
    let t := (src.drop (reqA d + reqP d)).take mic
    if reqEnc d then
      let m := ccmCrypt k.sm4 k.key nonce p
      (a ++ m, bytesAt d 16 16, decide (ccmMic k.sm4 k.key nonce a m mic ≠ t))
    else (a ++ p, bytesAt d 16 16, decide (ccmMic k.sm4 k.key nonce (a ++ p) [] mic ≠ t))
  else
    let (o, iv) := chain k.sm4 op k.key (bytesAt d 16 16) (blocks16 (p.length + 1) p)
    (o.take p.length, iv, false)

/-- A request runs to its end and completes (R197, R199); a poisoned source word ends it as a lane fault (R317). -/
def State.reqComplete (s : State) (p : Nat) (r : GenReq) : State :=
  let d := s.reqImage r
  if r.verdict ≠ cipherOk then (s.reqStatus r r.verdict 0 []).reqFinished p r.verdict
  else
    let src := if r.host then (s.sec.hostReq.drop 40).take (reqSrcLen d) else s.bytes (leAt d 8 4) (reqSrcLen d)
    if !r.host && s.poisonedIn (leAt d 8 4) (reqSrcLen d) then
      let lane := (s.page p).lane.getD 0
      let s := s.devWrite (leAt d 12 4) (List.replicate (reqDstLen d) 0)
      (((s.report 2 (8 + lane) 0 0).raise 67).reqStatus r cipherFault r.blocks []).reqFinished p cipherFault
    else
      let (out, iv, bad) := reqCompute (s.key r.slot).image d src
      let s := if r.host then s else (s.devWrite (leAt d 12 4) out).devWrite (r.addr + 16) iv
      let st := if bad then cipherAuthFail else cipherOk
      ((s.reqStatus r st r.blocks out).raiseIf bad 65).reqFinished p st

end Sys2Proof.Machine
end

