-- ==== Sys2Proof/Machine/TxOps.lean ====
section
/-! DEFINITION. Operations of the transmit path and of transmissions: profiles, frames as bits, lines around a
transmission, duty charges, attempts and their outcomes. -/
namespace Sys2Proof.Machine

/-- A transmit profile that breaks no restriction of R98. -/
def txProfOk (w : Nat) : Bool :=
  let fsk2 := slice w 0 1 == 0
  let rate := slice w 1 3
  let rep := slice w 13 2
  let fec := slice w 16 2
  let leg := bit w 21
  let pre := slice w 23 9
  rateOk w && (rep == 0 || (fsk2 && rate == 0 && fec == 0 && !leg)) &&
  (!leg || (fsk2 && rate ≤ 1 && rep == 0 && fec == 0)) && fec != 3 &&
  (if leg then 3 ≤ pre else if fsk2 then 4 ≤ pre else 6 ≤ pre)

/-- The fields of TXP_PROFn. -/
def txProfFields (p : Nat) : List RegField :=
  [TXP_PROF_MOD p, TXP_PROF_RATE p, TXP_PROF_BT p, TXP_PROF_HIDX p, TXP_PROF_REP p, TXP_PROF_SFDG p, TXP_PROF_FEC p,
   TXP_PROF_ILV p, TXP_PROF_DW p, TXP_PROF_FCS_T p, TXP_PROF_LEGACY p, TXP_PROF_FIR_EN p, TXP_PROF_PREAMBLE p]

def State.txProfWord (s : State) (p : Nat) : Nat := s.fieldsWord (txProfFields p)

/-- Octets of the FCS that a profile appends. -/
def profFcs (w : Nat) : Nat := if bit w 20 then 2 else 4

/-- Every bit repeated `m` times (R99 step 7). -/
def repeatBits (m : Nat) (bs : List Bool) : List Bool := (bs.map fun b => List.replicate m b).flatten

/-- The PHR of R99 step 3 as it is sent: MS, reserved bits, FCS type, DW and the length, most significant bit first. -/
def phrBits (fcsT dw : Bool) (length : Nat) : List Bool :=
  [false, false, false, fcsT, dw] ++ ((List.range 11).map fun k => bit length (10 - k))

/-- The native frame of R99: bits of preamble and SFD, then the bits of PHR and PSDU. `extended` is the preamble of an
extended poll (R168). -/
def nativeBits (w : Nat) (extended : Bool) (octets : List Byte) : List Bool × List Bool :=
  let fcsT := bit w 20
  let dw := bit w 19
  let fec := slice w 16 2
  let psdu := octets ++ (if fcsT then fcs16 octets else fcs32 octets)
  let pbits := (psdu.map octetBitsLsb).flatten
  let body := phrBits fcsT dw psdu.length ++ (if dw then whiten pbits else pbits)
  let coded := if fec = 0 then body else Config.fecEncode (fec == 2) body
  let body := if fec ≠ 0 ∧ bit w 18 then Config.interleave coded else coded
  let m := 2 ^ slice w 13 2
  let pre := Config.preamble (if extended then 25 else 8 * slice w 23 9) ++ Config.sfd (slice w 15 1) (fec != 0)
  (repeatBits m pre, repeatBits m body)

/-- The legacy frame of R100: preamble octets 0xAA and the sync word, then LEN, payload and CRC. -/
def legacyBits (w sync : Nat) (payload : List Byte) : List Bool × List Bool :=
  let len : List Byte := [BitVec.ofNat 8 (payload.length + 2)]
  let body := len ++ payload
  let crc := (leBytes 2 (crc16 body)).reverse
  let msb (bs : List Byte) : List Bool := (bs.map octetBitsMsb).flatten
  (msb (List.replicate (slice w 23 9) 0xAA ++ (leBytes 4 sync).reverse), msb (body ++ crc))

/-- The bits after the sync word of a legacy frame that an underrun cut: the declared LEN, the octets sent and the inverted
CRC over both (R390). -/
def cutBits (declared : Nat) (payload : List Byte) : List Bool :=
  let body : List Byte := BitVec.ofNat 8 declared :: payload
  let crc := (leBytes 2 (65535 - crc16 body)).reverse
  ((body ++ crc).map octetBitsMsb).flatten

/-- Symbols of a frame under a profile word: preamble and SFD take one bit per symbol, the rest two under 4-FSK. -/
def symbolCount (w pre body : Nat) : Nat := if bit w 0 then pre + divUp body 2 else pre + body

/-- SE cycles of a number of symbols. -/
def symbolTime (w symbols : Nat) : Nat := divUp (symbols * symbol3 w) 3

/-- Deviations of R102 in units of 1/128 of the symbol rate's Hz, before shaping. -/
def deviations (w : Nat) (pre body : List Bool) : List Int :=
  let rs : Int := 300000000 / (symbol3 w : Int)
  let scale (d : Int) : Int := d * (slice w 5 8 : Nat) * rs
  if !bit w 0 then (pre ++ body).map fun b => scale (if b then 1 else -1)
  else
    let rec pairs : List Bool → List Int
      | a :: b :: r => scale (if a then (if b then 3 else 1) else (if b then -3 else -1)) :: pairs r
      | [a] => [scale (if a then 1 else -1)]
      | [] => []
    (pre.map fun b => scale (if b then 3 else -3)) ++ pairs body

/-- Sample `n` of the shaping FIR (R105): the sum over the taps, 14 fractional bits rounded half up, saturated. -/
def firSample (taps x : List Int) (lim : Int) (n : Nat) : Int :=
  let acc := (List.range 32).foldl (fun (a : Int) k => if k ≤ n then a + taps.getD k 0 * x.getD (n - k) 0 else a) 0
  clampInt lim ((acc + 8192) / 16384)

/-- The taps c0 to c31. -/
def State.firTaps (s : State) : List Int :=
  ((List.range 16).map fun i => [signed 16 (s.get (TXP_FIR_TAP_LO i)), signed 16 (s.get (TXP_FIR_TAP_HI i))]).flatten

def State.rampTable (s : State) : List Nat :=
  ((List.range 4).map fun i => [s.get (TXP_RTAB_ENTRY0 i), s.get (TXP_RTAB_ENTRY1 i), s.get (TXP_RTAB_ENTRY2 i), s.get (TXP_RTAB_ENTRY3 i)]).flatten

/-- Entries that do not decrease, the last of them 255 (R109). -/
def rampTableOk : List Nat → Bool
  | [] => false
  | [x] => x == 255
  | x :: y :: r => x ≤ y && rampTableOk (y :: r)

/-- Offsets that strictly increase. -/
def rising : List (Nat × Nat) → Bool
  | [] => true
  | [_] => true
  | a :: b :: r => a.1 < b.1 && rising (b :: r)

/-- The mask entries in use: those with VALID = 1 and a legal offset, from TXP_MASK0 on. -/
def State.maskRun (s : State) : List (Nat × Nat) :=
  ((List.range 16).takeWhile fun i => s.on (TXP_MASK_VALID i)).map fun i => (s.get (TXP_MASK_OFFSET i), s.get (TXP_MASK_LIMIT i))

/-- The mask table is valid (R111). -/
def State.maskTableOk (s : State) : Bool :=
  let run := s.maskRun
  2 ≤ run.length && rising run && run.all (fun e => 1 ≤ e.1 && e.1 ≤ 3200) &&
  ((List.range 16).filter fun i => s.on (TXP_MASK_VALID i)).length == run.length

/-- The limit at an offset in kHz, in −0.5 dBc units times the distance of its breakpoints: as a fraction (R111). -/
def maskLimit : List (Nat × Nat) → Nat → Nat × Nat
  | [], _ => (0, 1)
  | [a], _ => (a.2, 1)
  | a :: b :: r, o =>
    if o ≤ a.1 then (a.2, 1)
    else if o ≤ b.1 then
      -- a.2 + (b.2 − a.2)(o − a.1)/(b.1 − a.1)
      ((((a.2 * (b.1 - a.1) : Nat) : Int) + ((b.2 : Int) - (a.2 : Int)) * ((o - a.1 : Nat) : Int)).toNat, b.1 - a.1)
    else maskLimit (b :: r) o

/-! Queue entries, attempts and their outcomes. -/

/-- The next value of the backoff generator's LFSR, x^32 + x^22 + x^2 + x + 1 (R442). -/
def lfsrNext (r : Nat) : Nat :=
  (2 * r + ofBool ((bit r 31 != bit r 21) != (bit r 1 != bit r 0))) % 2 ^ 32

/-- A uniform draw from 0 to 2^be − 1 (R173). -/
def State.draw (s : State) (be : Nat) : Nat × State :=
  (Config.backoffDraw s.mac.lfsr be % 2 ^ be, { s with mac := { s.mac with lfsr := lfsrNext s.mac.lfsr } })

/-! Where a cell's channel is heard (R69, R73). -/

/-- The lane centre's offset from its half's centre in Hz (R66). -/
def laneOffset (plan j : Nat) : Int :=
  if plan = 0 then (2 * (j : Int) - 63) * 100000 else (2 * (j : Int) - 31) * 200000

/-- R73: the lane of a half that places channel frequency `f` with the half's centre in range: the home lane (31 or 15),
else the nearest to it. -/
def homeLane (plan : Nat) (f : Int) : Option Nat :=
  let home := if plan = 0 then 31 else 15
  let lanes := if plan = 0 then 64 else 32
  let good (j : Nat) : Bool := let c := f - laneOffset plan j; decide (416400000 ≤ c) && decide (c ≤ 953600000)
  (((List.range 64).map fun d => [home + d, home - d]).flatten).find? fun j => j < lanes && good j

/-- The offset estimate of a context in Hz where it is valid (R88), else 0. -/
def State.offsetHz (s : State) (c : Option Nat) : Int :=
  match c with
  | none => 0
  | some c => if s.ctxFlag c 0 && s.ctxFlag c 3 then 10 * signed 16 (s.ctx c 46 2) else 0

/-- A half's centre becomes `c` Hz: its synthesiser locks again, calibrating under policy CHANGE (R41). -/
def State.tuneHalf (s : State) (h : Nat) (c : Int) : State :=
  let f := if h = 0 then RFC_FREQ_A_FREQ else RFC_FREQ_B_FREQ
  let p := if h = 0 then Path.a else Path.b
  let c := (if c < 416400000 then 416400000 else if 953600000 < c then 953600000 else c).toNat
  if s.get f = c then s
  else
    let s := s.put f c
    let s := if s.slot.policy = 1 then s else s.setPath p { s.path p with marked := true }
    s.lock p

/-- The centre c_k of R166 for the plan of the half, in Hz. -/
def State.scanCentre (s : State) (k : Nat) : Int :=
  ((s.radio.mapCur.f0 + (if s.plan s.mac.nodeHalf = 0 then 6300000 else 6200000) + k * 12800000 : Nat) : Int)

/-- The last k of R166. -/
def State.scanLast (s : State) : Nat := (s.radio.mapCur.count - 1) * s.radio.mapCur.spacing / 12800000

/-- The half of the last running program retunes to centre c_k with RETUNE blanking; its lanes then search (R166). -/
def State.scanStep (s : State) (k : Nat) : State :=
  let s := { s with mac := { s.mac with scanK := k } }
  let h := s.mac.nodeHalf
  let s := (s.halfLanes h).foldl (fun (s : State) i => if s.laneState i = laneIdle then s.restLane i else s) s
  (s.tuneHalf h (s.scanCentre k)).retune h

/-- Node mode enters SCAN (R165): E61. The half searches on all its lanes from the first centre (R166). -/
def State.enterScan (s : State) : State :=
  let s := { s with mac := { s.mac with pollWanted := false } }
  (((s.put MAC_STATUS_SYNC syncScan).flag MAC_STATUS_POLL_EXT false).raise 61).scanStep 0

/-- The state SCAN is left for `sync`: lanes that searched without a window rest (R79). -/
def State.leaveScan (s : State) (sync : Nat) : State :=
  let s := s.put MAC_STATUS_SYNC sync
  (s.halfLanes s.mac.nodeHalf).foldl (fun (s : State) i => if s.laneState i = laneSearch then s.restLane i else s) s

/-- A poll has ended unanswered (R168). -/
def State.pollUnanswered (s : State) (extended : Bool) : State :=
  if extended then s.enterScan
  else match s.parent with
  | none => { s with mac := { s.mac with pollWanted := false } }
  | some c => if s.ceilGuard ≤ s.effGuard (some c) false then s.flag MAC_STATUS_POLL_EXT true else s

/-- An attempt ends without acknowledgement (R173): NOACK and MISS of the context; retry with backoff while ATTEMPTS ≤
RETRIES, else NO_ACK. A poll is followed as R168 says, a follow-up stays pending (R169). -/
def State.noAck (s : State) (u : TxUnit) : State :=
  let s := match u.ctx with
    | some c => (s.ctxBump c 54).missMore c
    | none => s
  match u.kind, u.desc with
  | .poll, _ => (s.removeTx u.id).pollUnanswered u.extended
  | .data, some d =>
    let att := s.desc d 17 1
    if slice (s.desc d 10 1) 0 3 < att then s.endTx u 2
    else
      let be := min (s.get MAC_CSMA_MIN_BE + att - 1) (s.get MAC_CSMA_MAX_BE)
      let (n, s) := if u.shared then s.draw be else (0, s)
      let s := s.removeTx u.id
      { s with mac := { s.mac with queue := s.mac.queue.map fun e =>
          if e.desc = d then { e with busy := false, attempts := att, backoff := n } else e } }
  | .followUp, _ => s.endTx u 2
  | _, _ => s.removeTx u.id

/-- The unit whose transmission is locked or on the air. -/
def State.airUnit (s : State) : Option TxUnit :=
  s.slot.tx.find? fun u => u.phase == .locked || u.phase == .ramp || u.phase == .tx || u.phase == .rampDown

/-- The planned on-air time of R58: ramp up, symbols, ramp down. -/
def TxUnit.plan (u : TxUnit) : Nat :=
  10 * slice u.rupWord 0 8 + symbolTime u.profWord (symbolCount u.profWord u.preBits (u.bits.length - u.preBits)) +
  10 * slice u.rupWord 8 8

/-- A lane nearer than 2.0 MHz to the carrier (R50). -/
def State.nearCarrier (s : State) (i : Nat) : Bool :=
  decide ((s.laneCentre i - (s.radio.carrier : Int)).natAbs < 2000000)

/-- The lanes that a transmission's blanking window blanks (R50). -/
def State.blankSet (s : State) : List Nat :=
  let all := s.halfLanes 0 ++ s.halfLanes 1
  if !s.on RFC_CTRL_FDX_EN then all
  else if !s.on RFC_CTRL_ANT_CFG then s.halfLanes 0 ++ (s.halfLanes 1).filter s.nearCarrier
  else
    let near := all.filter s.nearCarrier
    if s.on CHZ_STATUS_TWIN_ACTIVE then (near ++ near.map (fun i => (i + 64) % 128)).eraseDups else near

/-- R50: the blanking window opens; E37 where it blanks a lane, and the frames that go on carry FDX. -/
def State.openTxWindow (s : State) : State :=
  let set := s.blankSet
  let s := { s with radio := { s.radio with txWindow := true } }
  let s := set.foldl (State.blankLane .tx) s
  let s := (List.range 128).foldl (fun (s : State) i =>
    if s.laneState i = laneFrame then s.setLane i { s.lane i with frameFdx := true } else s) s
  s.raiseIf (!set.isEmpty) 37

/-- The transmitter's radio activity ends (R37, R38, R48): lines and T/R switch back, the return state. -/
def State.txReturn (s : State) : State :=
  let s := s.flag RFC_STATE_TRSW false
  let s := { s with radio := { s.radio with extPaEn := false, extTr := false,
                                            extLnaA := s.get RFC_STATE_STATE_A == 3, leakCheckedA := false, leakCheckedB := false } }
  s.enter .t (s.get RFC_CTRL_RET_T)

/-- The time on the air so far in 100 µs units, and the charge of an aborted transmission brought down to it (R58). -/
def State.chargeActual (s : State) (u : TxUnit) : State :=
  match u.group with
  | none => s
  | some g => s.refund g u.rampSecond (divUp u.planned 10000 - divUp (s.clock - u.used) 10000)

/-- R112, R141, R318: a forced ramp-down of the transmission on the air, which will complete with `status`. -/
def State.forceRampDown (s : State) (status : Nat) : State :=
  match s.airUnit with
  | some u =>
    if u.phase = .ramp ∨ u.phase = .tx then (s.enter .t 6).setTx { u with phase := .rampDown, aborted := true, status := status }
    else s
  | none => s

/-! Where a Node hears a cell's channel (R73). -/

/-- R73, R89: in Node mode the half retunes so that network channel `n` falls on its home lane, its centre raised by the
context's offset estimate; the lane's LNCO keeps the synthesiser rounding alone. In the other modes the map of R69
answers. None is UNMAPPED. -/
def State.placeChannel (s : State) (n : Nat) (ctx : Option Nat) : Option Nat × State :=
  if s.mode ≠ modeNode then (s.laneOfChannel n, s)
  else if s.radio.mapCur.count ≤ n then (none, s)
  else
    let h := s.nodeHalf
    let f : Int := ((channelFreq s.radio.mapCur n : Nat) : Int)
    match homeLane (s.plan h) f with
    | none => (none, s)
    | some j =>
      let c := f - laneOffset (s.plan h) j
      let s := s.tuneHalf h (c + s.offsetHz ctx)
      let m := if h = 0 then { s.radio.mapCur with centreA := c.toNat } else { s.radio.mapCur with centreB := c.toNat }
      let s := { s with radio := { s.radio with mapCur := m } }
      let lane := 64 * h + j
      (some lane, s.put (CHZ_LNCO_LNCO lane) (unsigned 24 (ncoValue (s.get (if h = 0 then RFC_FREQ_A_FREQ else RFC_FREQ_B_FREQ)) 0)))

/-! Test transmissions (R60, R61). -/

/-- A number of a dictionary object held in State, `d` where none was written. -/
def State.objNumD (s : State) (key d : Nat) : Nat :=
  match Sparse.read [] s.objs key with
  | [] => d
  | bs => leNat bs

def State.setTest (s : State) (t : TestOp) : State := { s with radio := { s.radio with test := t } }

/-- The signed power of TXP_POWER in 0.25 dB units. -/
def State.txPower (s : State) : Int := signed 8 (s.get TXP_POWER_POWER)

/-- The word of TXP_RAMP. -/
def State.rampWord (s : State) : Nat := s.fieldsWord [TXP_RAMP_RUP, TXP_RAMP_RDOWN, TXP_RAMP_SHAPE]

/-- The mask table that a transmission is checked against: the registers' where the monitor runs (R110). -/
def State.maskInForce (s : State) : List (Nat × Nat) := if s.on TXP_CTRL_MASK_EN && s.maskTableOk then s.maskRun else []

/-- The carrier of a transmission is set and the transmitter locks on it (R41, R42, R63). -/
def State.lockOn (s : State) (carrier : Nat) : State :=
  let changed := s.get RFC_FREQ_T_FREQ != carrier
  let s := if changed && s.slot.policy != 1 then s.setPath .t { s.path .t with marked := true } else s
  let s := (s.put RFC_FREQ_T_FREQ carrier).enter .t 2
  ({ s with radio := { s.radio with carrier := carrier } }).lock .t

/-- A test transmission passes the checks of R57 and locks, or is refused. -/
def State.testLaunch (s : State) (planned : Nat) : Bool × State :=
  let f := s.get RFC_FREQ_T_FREQ
  match s.regCheck f s.txPower planned with
  | .pass g =>
    let u : TxUnit := { id := s.slot.nextId, stage := 15, kind := .test, phase := .locked, freq := f, carrier := f,
                        planned := planned, group := some g, power := s.txPower, rupWord := s.rampWord,
                        rtab := s.rampTable, mask := s.maskInForce }
    let s := { s with slot := { s.slot with tx := s.slot.tx ++ [u], nextId := s.slot.nextId + 1 } }
    (true, (s.lockOn f).openTxWindow)
  | v => (false, s.regRefused v)

/-- PER_TX sends its next frame, counting and skipping the refused ones (R60, R61). The frame's on-air time is a free
value: the spec does not say what a test frame holds. -/
def State.perNext : Nat → State → State
  | 0, s => s.setTest { s.radio.test with running := false, framesLeft := 0, record := setAt s.radio.test.record 1 1 }
  | n + 1, s =>
    let planned := s.rUp + Config.freeValue s.free + s.rDown
    let (ok, s) := ({ s with free := s.free + 1 }).testLaunch planned
    if ok then s.setTest { s.radio.test with framesLeft := n }
    else
      let r := setAt (recBump s.radio.test.record 8) 12 (BitVec.ofNat 8 (s.get RFC_REGSTAT_LAST_REASON))
      State.perNext n (s.setTest { s.radio.test with record := r })

/-- A test transmission has ramped down: CW and MODCARRIER are over; PER_TX counts a masked frame and goes on to its
next. -/
def State.testFrameEnded (s : State) (u : TxUnit) : State :=
  let t := s.radio.test
  if t.op = 3 ∧ t.running then
    let s := if u.aborted ∧ u.status = 7 then s.setTest { t with record := recBump t.record 16 } else s
    State.perNext s.radio.test.framesLeft (s.removeTx u.id)
  else s.setTest { t with running := false }

end Sys2Proof.Machine
end

