-- ==== Sys2Proof/Machine/SlotProg.lean ====
section
/-! DEFINITION. The compiled slot program (spec/05_slot_engine.md): what an image says, the checks of LOAD_CHECK and the
bounds of R133. -/
namespace Sys2Proof.Machine

/-! What an image says (R120 to R125). -/

/-- P of R120. -/
def bufPad (b : Sparse Byte) : Nat := 4 * divUp (2 * bufNum b 23 1) 4
def bufSfCount (b : Sparse Byte) : Nat := bufNum b 22 1
def bufCellCount (b : Sparse Byte) : Nat := bufNum b 60 2
def bufLen (b : Sparse Byte) : Nat := bufNum b 12 4

/-- Offset of slotframe entry `f` and of cell `c`. -/
def sfOff (b : Sparse Byte) (f : Nat) : Nat := 256 + bufPad b + 16 * f
def cellOff (b : Sparse Byte) (c : Nat) : Nat := 256 + bufPad b + 16 * bufSfCount b + 8 * c

/-- A slotframe entry of R124. -/
structure SlotFrame where
  index : Nat
  length : Nat
  first : Nat
  count : Nat
  priority : Nat
  active : Bool
deriving DecidableEq, Repr

def slotFrame (b : Sparse Byte) (f : Nat) : SlotFrame :=
  let o := sfOff b f
  { index := f, length := bufNum b o 2, first := bufNum b (o + 2) 2, count := bufNum b (o + 4) 2,
    priority := bufNum b (o + 6) 1, active := bit (bufNum b (o + 7) 1) 0 }

def slotFrames (b : Sparse Byte) : List SlotFrame := (List.range (bufSfCount b)).map (slotFrame b)

/-- A cell of R125. -/
structure Cell where
  index : Nat
  offset : Nat
  choff : Nat
  type : Nat
  context : Nat
  queue : Nat
deriving DecidableEq, Repr

def cellOf (b : Sparse Byte) (c : Nat) : Cell :=
  let o := cellOff b c
  { index := c, offset := bufNum b o 2, choff := bufNum b (o + 2) 1, type := bufNum b (o + 3) 1,
    context := bufNum b (o + 4) 2, queue := bufNum b (o + 6) 1 }

def Cell.kind (c : Cell) : Nat := slice c.type 0 3
def Cell.ack (c : Cell) : Bool := bit c.type 3
def Cell.timekeep (c : Cell) : Bool := bit c.type 4
def Cell.beaconTx (c : Cell) : Bool := bit c.type 5
def Cell.lenClass (c : Cell) : Nat := slice c.type 6 2

/-- The neighbour context that a cell names; broadcast names none. -/
def Cell.ctx (c : Cell) : Option Nat := if c.context = 0xFFFF then none else some c.context

/-- A cell of kind RX, a listening BEACON cell or a SHARED cell. -/
def Cell.receives (c : Cell) : Bool := c.kind == 2 || c.kind == 3 || (c.kind == 4 && !c.beaconTx)

/-- The cells of a slotframe. -/
def frameCells (b : Sparse Byte) (f : SlotFrame) : List Cell := (List.range f.count).map fun k => cellOf b (f.first + k)

/-! LOAD_CHECK (R132 to R136). -/

/-- The fixed, per-octet and parallel floors of R129. -/
def stageFloors : List (Nat × Nat × Nat) :=
  [(24, 0, 16), (96, 0, 16), (48, 128, 16), (16, 16, 16), (64, 8, 8), (48, 0, 4), (520, 229, 16), (64, 0, 4), (32, 4, 4),
   (32, 0, 1), (120, 4, 1), (520, 229, 4), (40, 128, 1), (200, 0, 1), (100, 0, 1), (20, 0, 1)]

/-- c_s(n) of R129 for an image; stages 0 and 1 use n = 0. -/
def bufBudget (b : Sparse Byte) (st n : Nat) : Nat :=
  bufNum b (128 + 8 * st) 2 + divUp (bufNum b (128 + 8 * st + 2) 2 * (if st < 2 then 0 else n)) 16

def bufPar (b : Sparse Byte) (st : Nat) : Nat := bufNum b (128 + 8 * st + 4) 1

/-- u_f(o) of R133. -/
def unitsAt (b : Sparse Byte) (cells : List Cell) (o : Nat) : Nat :=
  let here := cells.filter fun c => c.offset == o
  bufNum b 26 1 * (here.filter Cell.receives).length +
    ofBool (here.any fun c => c.ack && (c.kind == 1 || c.kind == 3 || c.kind == 4))

/-- U_RX of R133. -/
def unitsRx (b : Sparse Byte) : Nat :=
  (((slotFrames b).filter (·.active)).map fun f =>
    let cells := frameCells b f
    (cells.map fun c => unitsAt b cells c.offset).foldl max 0).foldl (· + ·) (bufNum b 27 1)

/-- NMAX of R133. -/
def unitsMax (b : Sparse Byte) : Nat :=
  let n := bufCellCount b
  if n = 0 then bufNum b 28 2
  else ((List.range n).map fun c => bufNum b (28 + 2 * (cellOf b c).lenClass) 2).foldl max 0

/-- U_s of R133. -/
def unitsOf (b : Sparse Byte) (st : Nat) : Nat :=
  if 9 ≤ st then bufNum b 25 1
  else if st < 4 ∧ bit (bufNum b 21 1) 0 then 2 * unitsRx b else unitsRx b

/-- load_s of R133. -/
def stageLoad (b : Sparse Byte) (st : Nat) : Nat :=
  divUp (unitsOf b st * bufBudget b st (unitsMax b)) (bufPar b st)

/-- A result of LOAD_CHECK: code, STAGE and DETAIL of SLE_LOADCHK. -/
structure LoadResult where
  code : Nat
  stage : Nat := 0
  detail : Nat := 0
deriving DecidableEq, Repr

/-- A check on fields: it fails at the first listed offset whose field is bad. -/
def fieldCheck (code : Nat) (fields : List (Nat × Bool)) : Option LoadResult :=
  (fields.find? fun f => !f.2).map fun f => { code := code, detail := f.1 }

/-- A check of times: `need` at most `have_`. -/
def excessCheck (code stage lim mark need have_ : Nat) : Option LoadResult :=
  if need ≤ have_ then none else some { code := code, stage := stage, detail := min lim (need - have_) + mark }

/-- Bytes of an image. -/
def bufBytes (b : Sparse Byte) (off n : Nat) : List Byte := (List.range n).map fun k => Sparse.read 0 b (off + k)

def maskedZero (b : Sparse Byte) (off mask : Nat) : Nat × Bool := (off, bufNum b off 1 &&& mask == 0)

/-- Reserved bytes and bits in ascending order. -/
def reservedFields (b : Sparse Byte) : List (Nat × Bool) :=
  [maskedZero b 21 0xFC, maskedZero b 62 0xFF, maskedZero b 63 0xFF] ++
  ((List.range 60).map fun k => maskedZero b (68 + k) 0xFF) ++
  ((List.range 16).map fun s => (List.range 3).map fun k => maskedZero b (128 + 8 * s + 5 + k) 0xFF).flatten ++
  ((List.range (bufPad b - 2 * bufNum b 23 1)).map fun k => maskedZero b (256 + 2 * bufNum b 23 1 + k) 0xFF) ++
  ((List.range (bufSfCount b)).map fun f => maskedZero b (sfOff b f + 7) 0xFE ::
    (List.range 8).map fun k => maskedZero b (sfOff b f + 8 + k) 0xFF).flatten ++
  ((List.range (bufCellCount b)).map fun c => maskedZero b (cellOff b c + 7) 0xFF)

def modeOk (mode m : Nat) : Bool := m == mode && (m == 1 || m == 2 || m == 3 || m == 5)

/-- R3: what the KW-7250-T refuses, and TWIN outside Concentrator and Test modes. -/
def halfFields (b : Sparse Byte) (partT : Bool) : List (Nat × Bool) :=
  let m := bufNum b 20 1
  let fl := bufNum b 21 1
  (21, !(bit fl 0 && (partT || !(m == modeConc || m == modeTest))) && !(partT && bit fl 1)) ::
  (List.range (bufCellCount b)).map fun c =>
    let x := cellOf b c
    (cellOff b c + 4, !(partT && x.kind == 5 && x.context == 1))

def floorCheck (b : Sparse Byte) : Option LoadResult :=
  ((List.range 16).zip stageFloors).findSome? fun (s, fx, pb, par) =>
    let o := 128 + 8 * s
    let p := bufPar b s
    (fieldCheck 8 [(o, fx ≤ bufNum b o 2), (o + 2, pb ≤ bufNum b (o + 2) 2), (o + 4, 1 ≤ p && p ≤ par)]).map
      fun r => { r with stage := s }

/-- CELL_FIRST, CELL_N and the other fields of the slotframe table in ascending order of their offsets. -/
def frameFields (b : Sparse Byte) : List (Nat × Bool) :=
  let n := bufSfCount b
  let fs := slotFrames b
  let sum := (fs.map (·.count)).foldl (· + ·) 0
  (22, 1 ≤ n && n ≤ 8) :: (60, sum == bufCellCount b) ::
  (fs.map fun f =>
    let o := sfOff b f.index
    let want := ((fs.take f.index).map (·.count)).foldl (· + ·) 0
    [(o, f.length != 0), (o + 2, f.first == want), (o + 4, f.count ≤ 1024), (o + 6, f.priority ≤ 7),
     (o + 7, f.index != 0 || fs.any (·.active))]).flatten

def cellFields (b : Sparse Byte) : List (Nat × Bool) :=
  ((slotFrames b).map fun f =>
    let cs := frameCells b f
    ((cs.zip (0 :: cs.map (·.offset))).map fun (c, prev) =>
      let o := cellOff b c.index
      [(o, c.offset < f.length && prev ≤ c.offset), (o + 3, c.kind ≤ 5 && (c.kind == 4 || !c.beaconTx)),
       (o + 4, if c.kind = 5 then c.context ≤ 2 else c.context < 1024 || c.context == 0xFFFF),
       (o + 6, c.queue ≤ 15 || c.queue == 0xFF)]).flatten).flatten

def headerFields (b : Sparse Byte) : List (Nat × Bool) :=
  let cr := bufNum b 24 1
  let wf := bufNum b 26 1
  [(24, 1 ≤ cr && cr ≤ 16), (25, bufNum b 25 1 ≤ 4), (26, 1 ≤ wf && wf ≤ 4), (27, bufNum b 27 1 ≤ 128)] ++
  (List.range 4).map fun i => (28 + 2 * i, 1 ≤ bufNum b (28 + 2 * i) 2 && bufNum b (28 + 2 * i) 2 ≤ 2047)

/-- The sum over stages `lo` to `hi` of load and budget (R135). -/
def loadSum (b : Sparse Byte) (lo hi : Nat) : Nat :=
  ((List.range (hi + 1 - lo)).map fun k => stageLoad b (lo + k) + bufBudget b (lo + k) (unitsMax b)).foldl (· + ·) 0

def budgetSum (b : Sparse Byte) (lo hi n : Nat) : Nat :=
  ((List.range (hi + 1 - lo)).map fun k => bufBudget b (lo + k) n).foldl (· + ·) 0

/-- R134 to R136 in their order, with the transmitter lead time. -/
def timeChecks (b : Sparse Byte) (lead : Nat) : Option LoadResult :=
  let l := bufNum b 16 4 - 2000
  let air := bufNum b 36 4
  let ackAir := bufNum b 40 4
  let off := bufNum b 44 4
  let g := bufNum b 48 4
  let ad := bufNum b 52 4
  let aw := bufNum b 56 4
  let tx := bufNum b 25 1
  (excessCheck 0xE 0 0xFFFFF 0 (g + 1000) off) <|>
  (excessCheck 0xE 0 0xFFFFF 0 aw ad) <|>
  (excessCheck 0xE 0 0xFFFFF 0 (off + g + air + ad + aw + ackAir) l) <|>
  (if tx = 0 then none else excessCheck 0xF 0 0xFFFFF 0 lead off) <|>
  ((List.range 16).findSome? fun s => excessCheck 0x10 s 0x7FFFF 0 (stageLoad b s) l) <|>
  (if unitsRx b = 0 then none else excessCheck 0x10 8 0x7FFFF 0x80000 (off + g + air + loadSum b 2 8) l) <|>
  (if tx = 0 then none else excessCheck 0x10 14 0x7FFFF 0x80000 (loadSum b 9 14 + lead) off) <|>
  (if tx = 0 then none
    else excessCheck 0x11 0 0xFFFFF 0 (budgetSum b 2 8 (unitsMax b) + budgetSum b 10 14 32 + lead) ad)

/-- SIGNER values that a LOAD by a master accepts (R126). -/
def signerOk (who : Master) (signer : Nat) : Bool :=
  match who with
  | .host => signer == 0
  | .core1 => signer == 1
  | .core0 => signer ≤ 1

/-- R126: hash and signature of the trailer. -/
def State.signatureCheck (s : State) (b : Sparse Byte) : Option LoadResult :=
  let n := bufLen b
  let signer := bufNum b (n - 100) 4
  let hash := Config.sm3 (bufBytes b 0 (n - 100))
  match (if signerOk s.slot.loadBy signer then s.programKey signer else none) with
  | none => some { code := 3, detail := n - 100 }
  | some k => fieldCheck 3 [(n - 96, decide (bufBytes b (n - 96) 32 = hash)), (n - 64, sm2Signed k hash (bufBytes b (n - 64) 64))]

/-- R132: the checks of LOAD_CHECK in the order of their codes; none is OK. -/
def State.loadCheck (s : State) (b : Sparse Byte) : Option LoadResult :=
  let n := bufLen b
  let sl := bufNum b 16 4
  (fieldCheck 1 [(0, bufNum b 0 4 == 0x72505350), (4, bufNum b 4 2 == 1), (6, bufNum b 6 2 == 128)]) <|>
  (fieldCheck 2 [(12, n ≤ 66276 && n == cellOff b (bufCellCount b) + 100)]) <|>
  (s.signatureCheck b) <|>
  (fieldCheck 4 (reservedFields b)) <|>
  (fieldCheck 5 [(16, 500000 ≤ sl && sl ≤ 5000000 && sl % 1000 == 0)]) <|>
  (fieldCheck 6 [(20, modeOk s.mode (bufNum b 20 1))]) <|>
  (fieldCheck 7 (halfFields b s.partT)) <|>
  (floorCheck b) <|>
  (fieldCheck 9 [(24, bufNum b 24 1 ≤ 16 && bufPar b 6 + bufPar b 11 ≤ bufNum b 24 1)]) <|>
  (fieldCheck 10 ((23, 1 ≤ bufNum b 23 1 && bufNum b 23 1 ≤ 128) ::
    (List.range (bufNum b 23 1)).map fun i => (256 + 2 * i, bufNum b (256 + 2 * i) 2 < 1024))) <|>
  (fieldCheck 11 (frameFields b)) <|>
  (fieldCheck 12 (cellFields b)) <|>
  (fieldCheck 13 (headerFields b)) <|>
  (timeChecks b (s.leadTime s.slot.policy))

/-! The states of STANDBY (R118). -/
def sbEmpty : Nat := 0
def sbWritten : Nat := 1
def sbChecking : Nat := 2
def sbChecked : Nat := 3
def sbArmed : Nat := 4
def sbRefused : Nat := 5

def State.standby (s : State) : Nat := s.get SLE_STATUS_STANDBY
def State.setStandbyState (s : State) (x : Nat) : State := s.put SLE_STATUS_STANDBY x

/-- A program command is accepted or not: CMD_REJ (R118). -/
def State.cmdOk (s : State) : State := s.flag SLE_STATUS_CMD_REJ false
def State.cmdRej (s : State) : State := s.flag SLE_STATUS_CMD_REJ true

/-- SWAP_ASN and NEW_ASN as the registers hold them. -/
def State.swapAsn (s : State) : Nat := s.get SLE_SWAPASN_L_SWAP_ASN_L + 2 ^ 32 * s.get SLE_SWAPASN_H_SWAP_ASN_H
def State.newAsn (s : State) : Nat := s.get SLE_NEWASN_L_NEW_ASN_L + 2 ^ 32 * s.get SLE_NEWASN_H_NEW_ASN_H

/-! Time (R163, R223). -/

/-- R223: TNET steering is active. -/
def State.steering (s : State) : Bool :=
  let m := s.mode
  let en := s.on GNS_CTRL_STEER_EN
  (m == modeConc && en) || m == modeTiming || (m == modeNode && s.on MAC_CTRL_TSRC && en) || (m == modeTest && en)

/-- The rate that the accumulator adds (R163, R223): the active time parent's DRIFT, which stays in use without a parent
(R165), or RATE of the steering. -/
def State.tnetRate (s : State) : Int :=
  if s.follows then
    match s.parent with
    | some c => signed 32 (s.ctx c 28 4)
    | none => s.mac.rate
  else if s.steering then signed 32 (s.get GNS_STEERR_VALUE) else 0

/-- `n` SE cycles of the reference clock pass: TNET counts, and the rate accumulator adds its rate in each (R163). -/
def State.advance (s : State) (n : Nat) : State :=
  if s.power.tnetRuns then
    let r := s.tnetRate
    { s with tnet := (s.tnet + n) % 2 ^ 64, clock := s.clock + n,
             mac := { s.mac with rate := r, rateAcc := s.mac.rateAcc + r * (n : Int) } }
  else { s with clock := s.clock + n }

/-- Time passes until TNET reads `t`; it does not run backwards. -/
def State.advanceTo (s : State) (t : Nat) : State := if s.tnet < t then s.advance (t - s.tnet) else s

/-! Lockstep (R140 to R142). -/

/-- W of R141: the largest LENGTH among the active slotframes. -/
def State.widest (s : State) : Nat := (((slotFrames s.activeBuf).filter (·.active)).map (·.length)).foldl max 0

/-- The lock-up condition (R141): E54, a FATAL report, the transmission on the air ramps down, and the lock-up reset. -/
def State.lockUp (s : State) : State :=
  (((s.raise 54).report 3 7 0 0).forceRampDown 8).requestReset 0x0A

/-- What every mismatch of a unit records (R141): E53, STWIN of the stage, TWINSTAT, a drop record, a CORRECTED report, and
the lock-up of a third mismatch within W slots. -/
def State.mismatched (s : State) (st : Nat) (r : DropRec) : State :=
  let s := ((s.bump (SLE_STWIN_TWIN st)).bump SLE_TWINSTAT_COUNT).put SLE_TWINSTAT_LAST_STAGE st
  let s := ((s.put SLE_TWINSTAT_LAST_ASN (r.asn % 65536)).drop r).report 1 7 (r.asn % 2 ^ 32) st
  let s := s.raise 53
  let now := s.slot.slotAsn
  let old := s.slot.mismatches
  let s := { s with slot := { s.slot with mismatches := (now :: old).take 2 } }
  match old with
  | _ :: b :: _ => if now < b + s.widest then s.lockUp else s
  | _ => s

/-- A mismatch on a receive unit at its stage's output discards it. -/
def State.mismatchRx (s : State) (u : RxUnit) : State :=
  let r : DropRec := { asn := u.asn, stage := u.stage, boundary := false, twin := true, transmit := false, ctx := u.ctx,
                       place := u.det.place, length := u.length }
  (s.endRx u).mismatched u.stage r

/-- A mismatch on a transmission: before TX_RAMP it is discarded, on the air it is ramped down; its descriptor completes
with TWIN. -/
def State.mismatchTx (s : State) (u : TxUnit) : State :=
  let r : DropRec := { asn := u.asn, stage := u.stage, boundary := false, twin := true, transmit := true, ctx := u.ctx,
                       place := u.place, length := u.length }
  let s := match u.phase with
    | .pipeline => s.endTx u 8
    | .locked => s.txReturn.endTx u 8
    | .ramp => s.forceRampDown 8
    | .tx => s.forceRampDown 8
    | _ => s
  s.mismatched u.stage r

/-- SLE_TWINTEST corrupts the output of stage `st` for this unit (R142): the injection is used up. -/
def State.injected (s : State) (st : Nat) : Bool :=
  match s.slot.twinTest with
  | some (t, _) => t == st && s.mode == modeTest
  | none => false

def State.injectionDone (s : State) : State := { s with slot := { s.slot with twinTest := none } }

end Sys2Proof.Machine
end

