-- ==== Sys2Proof/Machine/RxOps.lean ====
section
/-! DEFINITION. Operations that the receive stages and the acknowledgement path share: when a frame ends, admission and
its updates, time samples, synchronisation states and the security checks of a received frame. -/
namespace Sys2Proof.Machine

/-- A unit at stage `st` that the stage can complete now. -/
def State.rxReady (s : State) (st unit charge : Nat) : Option RxUnit :=
  match s.rxUnit unit with
  | none => none
  | some u => if u.stage = st ∧ s.served st unit ∧ s.inBudget st (if st < 2 then 0 else u.length) charge ∧
      (st = 8 ∨ s.roomAt (st + 1)) then some u else none

/-- The stage hands the unit on to the next one; a corrupted output is a mismatch instead (R142). -/
def State.passRx (s : State) (u : RxUnit) (charge : Nat) : State :=
  if s.injected u.stage then s.injectionDone.mismatchRx u
  else ((s.handedOn u.stage charge).moveRx { u with stage := u.stage + 1 }).accepted (u.stage + 1)

/-- The frame is a legacy one (R86). -/
def RxUnit.legacy (u : RxUnit) : Bool := u.det.sync == .legacy

/-- Raw symbols of a frame after its SFD or sync word (R82, R86, R99, R102). -/
def RxUnit.tailSymbols (u : RxUnit) : Nat :=
  let w := u.det.profWord
  if u.legacy then 8 * (1 + u.length)
  else
    let body := 16 + 8 * u.length
    let coded := if u.det.sync = .nativeCoded then (Config.fecEncode false (List.replicate body false)).length else body
    let raw := coded * 2 ^ slice w 13 2
    if bit w 0 then divUp raw 2 else raw

/-- E of R149: the end of the frame's last symbol. -/
def RxUnit.endTime (u : RxUnit) : Nat := u.det.tSfd + symbolTime u.det.profWord u.tailSymbols

/-- T_exp of R150. -/
def State.expected (s : State) (u : RxUnit) : Int :=
  ((u.boundary + s.tmplTO + s.get (MAC_SYNCAIR_SYNCAIR u.det.profile) : Nat) : Int)

/-- The guard of the window's cell that names context `c`. -/
def RxUnit.guardFor (u : RxUnit) (c : Option Nat) : Nat :=
  if u.det.winCtx = c then u.det.gEff
  else match c with
  | none => u.det.gEff
  | some c => match u.det.peers.find? fun p => p.1 == c with
    | some p => p.2
    | none => u.det.gEff

/-- The time sample of R150, T_SFD − T_exp: of the first frame of its window, in an ordinary window, within the guard. -/
def State.arrival (s : State) (u : RxUnit) : Option Int :=
  let m := (u.det.tSfd : Int) - s.expected u
  if u.det.first && !u.det.ackWin && !u.det.scan && s.slotLen != 0 && decide (m.natAbs ≤ u.guardFor u.ctx) then some m else none

/-- Rounding to the nearest, halves away from zero. -/
def roundAway (a b : Int) : Int := if 0 ≤ a then (2 * a + b) / (2 * b) else -((-2 * a + b) / (2 * b))

/-- TC of R151 in µs. -/
def State.timeCorrection (s : State) (u : RxUnit) : Int :=
  match s.arrival u with
  | none => 0
  | some m => clampInt 2047 (roundAway (-m) 100)

/-! Admission (R158). -/

/-- The outcome that ADMIT decides for a frame of context `c`. -/
def State.classify (s : State) (c : Nat) (u : RxUnit) : Outcome158 :=
  let fc := u.hdr.fc.getD 0
  let fc0 := s.ctx c 16 4
  if u.authFail then .authFail
  else if !u.hdr.secured then
    if s.ctxFlag c 9 then .replay
    else if s.ctxFlag c 5 && u.hdr.seq == some (s.ctx c 15 1) then .duplicate else .deliver
  else if u.key = some (s.ctx c 12 1) then
    if !s.ctxFlag c 6 || fc0 < fc then .deliver
    else if fc = fc0 || (fc0 - fc < 32 && bit (s.ctx c 20 4) (fc0 - fc)) then .duplicate
    else if fc0 - fc < 32 then .deliver else .replay
  else if s.ctxFlag c 7 && u.key == some (s.ctx c 13 1) then
    if !s.ctxFlag c 8 || s.ctx c 24 4 < fc then .deliver
    else if fc = s.ctx c 24 4 then .duplicate else .replay
  else .replay

/-- The updates of R158 for an outcome DELIVER, against the context as it now stands. -/
def State.admitUpdates (s : State) (c : Nat) (u : RxUnit) : State :=
  let fc := u.hdr.fc.getD 0
  let fc0 := s.ctx c 16 4
  let s :=
    if u.hdr.secured && u.key == some (s.ctx c 12 1) then
      if !s.ctxFlag c 6 then ((s.setCtx c 20 4 1).setCtx c 16 4 fc).setCtxFlag c 6
      else if fc0 < fc then
        let b := if fc - fc0 < 32 then setBit (s.ctx c 20 4 * 2 ^ (fc - fc0) % 2 ^ 32) 0 else 1
        (s.setCtx c 20 4 b).setCtx c 16 4 fc
      else if fc0 - fc < 32 then s.setCtx c 20 4 (setBit (s.ctx c 20 4) (fc0 - fc))
      else s
    else s
  let s :=
    if u.hdr.secured && u.key == some (s.ctx c 13 1) && (!s.ctxFlag c 8 || s.ctx c 24 4 < fc) then
      (s.setCtx c 24 4 fc).setCtxFlag c 8
    else s
  match u.hdr.seq with
  | some q => (s.setCtx c 15 1 q).setCtxFlag c 5
  | none => s

/-- R88: the measured offset is folded into the context's estimate. -/
def State.foldOffset (s : State) (c : Nat) (m : Int) : State :=
  if !s.ctxFlag c 3 then (s.setCtx c 46 2 (unsigned 16 m)).setCtxFlag c 3
  else
    let est := signed 16 (s.ctx c 46 2)
    s.setCtx c 46 2 (unsigned 16 (est + Int.tdiv (m - est) (2 ^ s.get CHZ_OFFCFG_ALPHA)))

/-- RSSI_AVG of R154. -/
def State.foldRssi (s : State) (c : Nat) (r : Int) : State :=
  if !s.ctxFlag c 12 then (s.setCtx c 48 2 (unsigned 16 r)).setCtxFlag c 12
  else
    let a := signed 16 (s.ctx c 48 2)
    s.setCtx c 48 2 (unsigned 16 (a + Int.tdiv (r - a) 8))

/-! Time (R160 to R163). -/

/-- Context `c` is the active time parent and TNET follows it. -/
def State.isParent (s : State) (c : Nat) : Bool := s.follows && s.parent == some c

/-- R162: a time sample `m` at TNET `t` updates its context; `phase` says that TNET is still to be corrected by it. -/
def State.timeSample (s : State) (c t : Nat) (m : Int) (resync phase : Bool) : State :=
  let par := s.isParent c
  let dt := ((t : Int) - ((s.ctx c 36 4 * 65536 : Nat) : Int)) % (2 ^ 48 : Nat)
  let tref := signed 32 (s.ctx c 60 4)
  let drift := signed 32 (s.ctx c 28 4)
  let restart (s : State) : State :=
    (s.setCtx c 36 4 (t / 65536)).setCtx c 60 4 (if par then 0 else unsigned 32 m)
  let s :=
    if !s.ctxFlag c 11 || resync then restart s
    else if 100000000 ≤ dt then
      let x := if par then tref + m else m - tref
      let r := Int.tdiv (x * 16000000000) dt
      let beta : Int := 2 ^ s.get MAC_SYNCCFG_BETA
      let d := if par then drift + Int.tdiv r beta else if !s.ctxFlag c 4 then r else drift + Int.tdiv (r - drift) beta
      restart ((s.setCtx c 28 4 (unsigned 32 d)).setCtxFlag c 4)
    else if par then s.setCtx c 60 4 (unsigned 32 (tref + m))
    else s
  let s := (s.setCtx c 32 4 (unsigned 32 m)).setCtxFlag c 11
  if par && phase then { s with mac := { s.mac with pendCorr := -m } } else s

/-- SYNCED by a resync sample (R165): E62. -/
def State.synced (s : State) : State := (s.leaveScan syncSynced).raise 62

/-- R165: an enhanced beacon of the parent ends SCAN: TNET is set so that it read O + ASN × L + TO + SYNCAIR at the
beacon's T_SFD. -/
def State.scanResync (s : State) (c asn tSfd profile : Nat) : State :=
  let target := s.origin + asn * s.slotLen + s.tmplTO + s.get (MAC_SYNCAIR_SYNCAIR profile)
  let m : Int := (tSfd : Int) - (target : Int)
  let t := ((s.tnet : Int) - m).toNat % 2 ^ 64
  let b := if s.origin ≤ t then s.origin + (t - s.origin) / s.slotLen * s.slotLen else t
  let s := { s with tnet := t, slot := { s.slot with boundary := b } }
  let s := { s with slot := { s.slot with slotAsn := s.asn } }
  ((s.timeSample c target m true false).setMiss c 0).synced

/-! Security of a received frame (R494, R199). -/

/-- What SECURE makes of a received frame. -/
inductive SecureResult
  | drop                       -- the unit ends (R199)
  | pass (u : RxUnit)
deriving DecidableEq, Repr

/-- The payload IEs follow the header: its last IE is the HT1 terminator. -/
def endsHt1 (f : List Byte) (h : Nat) : Bool := 2 ≤ h && leAt f (h - 2) 2 == 0x3F00

/-- A frame marked AUTH_FAIL: E65 and SE_AUTHF (R199). -/
def State.authFailed (s : State) : State := (s.bump SEC_COUNT0_SE_AUTHF).raise 65

/-- The frame with its MIC checked and its payload decrypted (R187 to R189): whether the MIC matched, and the octets. -/
def State.openFrame (s : State) (c k : Nat) (u : RxUnit) : Bool × List Byte :=
  let key := (s.key k).image
  let h := u.hdr
  let body := u.psdu.take (u.psdu.length - u.fcsLen)
  let mic := micLen h.level
  let a := body.take h.headerLen
  let m := (body.drop h.headerLen).take u.msgLen
  let tag := body.drop (h.headerLen + u.msgLen)
  let ext := match h.src with
    | .ext e => e
    | _ => s.ctx c 0 8
  let nonce := ccmNonce ext (h.fc.getD 0) h.level
  let rest := u.psdu.drop (u.psdu.length - u.fcsLen)
  if 4 < h.level then
    let p := ccmCrypt key.sm4 key.key nonce m
    (decide (ccmMic key.sm4 key.key nonce a p mic = tag), a ++ p ++ tag ++ rest)
  else (decide (ccmMic key.sm4 key.key nonce (a ++ m) [] mic = tag), u.psdu)

/-- R494: the steps of SECURE for a secured frame of context `c`. -/
def State.secureRx (s : State) (c : Nat) (u : RxUnit) : SecureResult × State :=
  match s.selectKey c u.hdr with
  | none => (.pass { u with key := none }, s)
  | some k =>
    if !s.seUsable c k then (.drop, s.seRefused c k)
    else
      let u := { u with key := some k }
      if u.hdr.level = 4 ∨ u.hdr.fc.isNone ∨ u.hdr.level < (s.key k).image.minlvl then
        (.pass { u with authFail := true }, s.authFailed)
      else
        let (st, s) := s.charged k u.blocks false
        if st ≠ cipherOk then (.drop, s.bump SEC_COUNT0_SE_KEYLIM)
        else
          let (good, f) := s.openFrame c k u
          let n := f.length - u.fcsLen - micLen u.hdr.level
          let pay := if endsHt1 f u.hdr.headerLen then (scanPayloadIes (f.take n) 64 u.hdr.headerLen none).2 else none
          let u := { u with psdu := f, verified := good, authFail := !good, hdr := { u.hdr with asn := pay } }
          (.pass u, if good then s else s.authFailed)

/-! Follow-ups (R169). -/

/-- A follow-up is due in the next slot on the channel offset of the poll's cell: sent by this device to context `c`
(parent), or listened for (child). -/
def State.scheduleFollowUp (s : State) (c : Nat) (send : Bool) (choff : Nat) : State :=
  { s with mac := { s.mac with followUp := some (c, send), followChan := choff } }

/-- The Data Request command: MAC command 0x04 (R167). -/
def RxUnit.isPoll (u : RxUnit) : Bool := u.hdr.frameType == 3 && leAt u.psdu u.hdr.headerLen 1 == 4

/-- A window's cells for context `c` have a valid frame (R164). -/
def State.markValid (s : State) (place c asn : Nat) : State :=
  let lane := s.laneSrc place
  { s with slot := { s.slot with windows := s.slot.windows.map fun w =>
      if w.lane = lane ∧ w.ackOf.isNone ∧ w.asn = asn then
        { w with valid := w.valid || w.ctx == some c, peers := w.peers.map fun p => { p with valid := p.valid || p.ctx == some c } }
      else w } }

end Sys2Proof.Machine
end

