-- ==== Sys2Proof/Machine/SlotTx.lean ====
section
/-! DEFINITION. Stages 9 to 15 of the slot engine (spec/04, 05, 06 and 07): DEQUEUE, BUILD, SECURE, ENCODE, MODULATE, MASK
and LAUNCH of one transmission. A stage acts on a unit that it serves, within its budget, once the next stage has room;
LATE_DROP is what happens to the others. -/
namespace Sys2Proof.Machine

/-- A unit at stage `st` that the stage can complete now. -/
def State.txReady (s : State) (st unit charge : Nat) : Option TxUnit :=
  match s.txUnit unit with
  | none => none
  | some u => if u.stage = st ∧ u.phase = .pipeline ∧ s.served st unit ∧ s.inBudget st u.length charge ∧
      (st = 15 ∨ s.roomAt (st + 1)) then some u else none

/-- The stage hands the unit on to the next one; a corrupted output is a mismatch instead (R142). -/
def State.passTx (s : State) (u : TxUnit) (charge : Nat) : State :=
  if s.injected u.stage then s.injectionDone.mismatchTx u
  else ((s.handedOn u.stage charge).moveTx { u with stage := u.stage + 1 }).accepted (u.stage + 1)

/-! DEQUEUE (R171). -/

/-- A waiting entry that belongs to a cell's queue and context; a cell without context takes any. -/
def QEntry.fits (queue : Nat) (ctx : Option Nat) (e : QEntry) : Bool :=
  !e.busy && e.queue == queue && (match ctx with
    | none => true
    | some c => e.ctx == c)

/-- The entry may go now: in a TX cell always, in a SHARED cell with its backoff at 0 (R171, R173). -/
def QEntry.ready (shared : Bool) (e : QEntry) : Bool := !shared || (e.backoff == 0 && !e.skip)

/-- The eligible entry of the lowest class and, within a class, the one enqueued first. -/
def bestEntry (queue : Nat) (ctx : Option Nat) (shared : Bool) (q : List QEntry) : Option QEntry :=
  (q.filter fun e => e.fits queue ctx && e.ready shared).foldl (fun b e => match b with
    | none => some e
    | some x => if e.cls < x.cls then some e else some x) none

/-- Octets that a descriptor's frame has on the air: header and payload, auxiliary security header, MIC and FCS (R177). -/
def State.descPsdu (s : State) (d : Nat) : Nat :=
  let ctrl := s.desc d 9 1
  let k := (s.key (s.ctx (s.desc d 2 2) 12 1)).image
  s.desc d 0 2 + profFcs (s.txProfWord (slice ctrl 2 2)) +
    (if bit ctrl 4 then (if k.kidm = 0 then 5 else 6) + micLen k.txlvl else 0)

/-- The unit with the fields that its descriptor gives (R177). -/
def State.withDesc (s : State) (u : TxUnit) (d : Nat) : TxUnit :=
  let ctrl := s.desc d 9 1
  let p := signed 8 (s.desc d 11 1)
  let c := s.desc d 2 2
  let ar := u.kind == .followUp || bit ctrl 5
  { u with desc := some d, ctx := if c = 0xFFFF then none else some c, profile := slice ctrl 2 2, ackReq := ar,
           noAr := !ar || c == 0xFFFF, secure := bit ctrl 4, power := if p = -128 then s.txPower else p,
           length := s.descPsdu d }

/-- The descriptor or a word of the frame in memory is poisoned (R317). -/
def State.descPoisoned (s : State) (d : Nat) : Bool :=
  s.poisonedIn (descAddr d) 32 || s.poisonedIn (s.desc d 4 4) (s.desc d 0 2)

/-- R171, R317: stage 9 takes the slot's frame: the eligible entry of the cell's queue, the oldest pending frame of a
follow-up, or the beacon or poll that the cell gives. -/
def execDequeueStage (charge : Nat) (s : State) : Host.Outcome State Fault Refusal :=
  match (s.atStage 9).head?.bind fun id => s.txReady 9 id charge with
  | none => goOn s
  | some u =>
    match u.kind with
    | .data =>
      match bestEntry u.queue u.ctx u.shared s.mac.queue with
      | none => goOn (s.removeTx u.id)
      | some e =>
        if s.poisonedIn (descAddr e.desc) 32 then goOn ((s.removeTx u.id).finishDesc e.desc 0xF)
        else
          let s := { s with mac := { s.mac with queue := updateFirst (fun x => x.desc == e.desc) (fun x => { x with busy := true }) s.mac.queue } }
          goOn (s.passTx (s.withDesc u e.desc) charge)
    | .followUp =>
      match s.mac.pending.find? fun e => some e.ctx == u.ctx && !e.busy with
      | none => goOn (s.removeTx u.id)
      | some e =>
        if s.poisonedIn (descAddr e.desc) 32 then goOn ((s.removeTx u.id).finishDesc e.desc 0xF)
        else
          let s := { s with mac := { s.mac with pending := updateFirst (fun x => x.desc == e.desc) (fun x => { x with busy := true }) s.mac.pending } }
          goOn (s.passTx (s.withDesc u e.desc) charge)
    | _ => goOn (s.passTx u charge)

/-! BUILD (R151 to R153, R167, R177). -/

/-- The device's extended address. -/
def State.ownExt (s : State) : Nat := s.get MAC_EXT_L_EXT + 2 ^ 32 * s.get MAC_EXT_H_EXT

/-- The source address of R153. -/
def State.ownAddr (s : State) : MacAddr :=
  if s.get MAC_PANID_SHORT = 0xFFFE then .ext s.ownExt else .short (s.get MAC_PANID_SHORT)

/-- The destination address of R153 for a context. -/
def State.ctxDest (s : State) (c : Nat) : MacAddr :=
  if s.ctx c 8 2 = 0xFFFE then .ext (s.ctx c 0 8) else .short (s.ctx c 8 2)

def addrMode : MacAddr → Nat
  | .none => 0
  | .short _ => 2
  | .ext _ => 3

def addrBytes : MacAddr → List Byte
  | .none => []
  | .short a => leBytes 2 a
  | .ext a => leBytes 8 a

/-- An auxiliary security header with its frame counter still 0 (R177). -/
def ashBytes (k : KeyImage) (level : Nat) : List Byte :=
  leBytes 1 (level + 8 * k.kidm) ++ leBytes 4 0 ++ (if k.kidm = 0 then [] else leBytes 1 k.keyIndex)

/-- The MHR of a frame that BUILD originates, frame version 0b10 (R153): PAN ID compression leaves the destination PAN
identifier alone in place. -/
def State.originHeader (s : State) (type seq : Nat) (dest : MacAddr) (fp ar ie : Bool) (ash : List Byte) : List Byte :=
  let src := s.ownAddr
  let dm := addrMode dest
  let sm := addrMode src
  let fc := type + 8 * ofBool (!ash.isEmpty) + 16 * ofBool fp + 32 * ofBool ar + 64 * ofBool (dm != 3 || sm != 3) +
    512 * ofBool ie + 1024 * dm + 0x2000 + 0x4000 * sm
  leBytes 2 fc ++ leBytes 1 seq ++ leBytes 2 (s.get MAC_PANID_PANID) ++ addrBytes dest ++ addrBytes src ++ ash

/-- PENDING of a unit's context. -/
def State.pendingOf (s : State) (c : Option Nat) : Nat :=
  match c with
  | none => 0
  | some c => slice (s.ctx c 45 1) 0 3

/-- A data frame of a descriptor (R177): sequence number, AR, Frame Pending and Security Enabled bits set in the
submitter's MHR, and the auxiliary security header inserted after the addressing fields. -/
def State.buildData (s : State) (u : TxUnit) (d seq : Nat) : List Byte :=
  let f := s.bytes (s.desc d 4 4) (s.desc d 0 2)
  let more := if u.kind = .followUp then 1 < s.pendingOf u.ctx else 0 < s.pendingOf u.ctx
  let fc := leAt f 0 2
  let fc := splice (splice (splice fc 3 1 (ofBool u.secure)) 4 1 (ofBool more)) 5 1 (ofBool u.ackReq)
  let noSeq := slice fc 12 2 = 2 ∧ bit fc 8
  let f := leBytes 2 fc ++ (if noSeq then f.drop 2 else leBytes 1 seq ++ f.drop 3)
  if !u.secure then f
  else
    let k := (s.key (s.ctx (u.ctx.getD 0) 12 1)).image
    let plain := splice fc 3 1 0
    let at_ := addressEnd (leBytes 2 plain ++ f.drop 2)
    f.take at_ ++ ashBytes k k.txlvl ++ f.drop at_

/-- The acknowledgement of R151: enhanced, with a Time Correction IE. -/
def State.buildAck (s : State) (u : TxUnit) : List Byte :=
  let dest := match u.ctx with
    | some c => s.ctxDest c
    | none => u.ackDest
  let ash := match u.ackKey with
    | some k => if u.secure then ashBytes (s.key k).image u.level else []
    | none => []
  s.originHeader 2 u.seq dest (0 < s.pendingOf u.ctx) false true ash ++ leBytes 2 0x0F02 ++ leBytes 2 (unsigned 12 u.tc)

/-- The enhanced beacon of R152: header IEs terminated, the TSCH Synchronization IE with the slot's ASN and JOIN_METRIC,
then the EB_LEN octets at data block EB_BLOCK. -/
def State.buildBeacon (s : State) (u : TxUnit) (seq : Nat) : List Byte :=
  s.originHeader 0 seq (.short 0xFFFF) false false true [] ++ leBytes 2 0x3F00 ++ leBytes 2 0x8808 ++ leBytes 2 0x1A06 ++
    leBytes 5 u.asn ++ leBytes 1 (s.get MAC_EBCFG_JOIN_METRIC) ++
    s.bytes (0x24030000 + 64 * s.get MAC_EBCFG_EB_BLOCK) (s.get MAC_EBCFG_EB_LEN)

/-- The Data Request of R167, AR = 1, secured with KEY0 when the parent has SEC_REQUIRED. -/
def State.buildPoll (s : State) (u : TxUnit) (seq : Nat) : List Byte :=
  let c := u.ctx.getD 0
  let k := (s.key (s.ctx c 12 1)).image
  s.originHeader 3 seq (s.ctxDest c) (0 < s.pendingOf u.ctx) true false (if u.secure then ashBytes k k.txlvl else []) ++ [0x04]

/-- The sequence number of a frame: the kept one of its descriptor, else the next of the data counter (R177). -/
def State.takeSeq (s : State) (kept : Option Nat) : Nat × State :=
  match kept with
  | some q => (q, s)
  | none => (s.mac.dataSeq, { s with mac := { s.mac with dataSeq := (s.mac.dataSeq + 1) % 256 } })

/-- The sequence number kept for a unit's descriptor. -/
def State.keptSeq (s : State) (u : TxUnit) : Option Nat :=
  match u.kind, u.desc with
  | .data, some d => (s.mac.queue.find? fun e => e.desc == d).bind (·.seq)
  | .followUp, some d => (s.mac.pending.find? fun e => e.desc == d).bind (·.seq)
  | _, _ => none

/-- The frame counter kept for a unit's descriptor (R191). -/
def State.keptFc (s : State) (u : TxUnit) : Option Nat :=
  match u.kind, u.desc with
  | .data, some d => (s.mac.queue.find? fun e => e.desc == d).bind (·.fc)
  | .followUp, some d => (s.mac.pending.find? fun e => e.desc == d).bind (·.fc)
  | _, _ => none

def State.keepSeq (s : State) (u : TxUnit) (q : Nat) : State :=
  { s with mac := { s.mac with
    queue := s.mac.queue.map fun e => if u.kind == .data && some e.desc == u.desc then { e with seq := some q } else e
    pending := s.mac.pending.map fun e => if u.kind == .followUp && some e.desc == u.desc then { e with seq := some q } else e } }

def State.keepFc (s : State) (u : TxUnit) (q : Nat) : State :=
  { s with mac := { s.mac with
    queue := s.mac.queue.map fun e => if u.kind == .data && some e.desc == u.desc then { e with fc := some q } else e
    pending := s.mac.pending.map fun e => if u.kind == .followUp && some e.desc == u.desc then { e with fc := some q } else e } }

/-- The unit with its octets: the header's length as CCM* counts it (R189), the level and the PSDU length. -/
def State.withOctets (s : State) (u : TxUnit) (seq : Nat) (f : List Byte) (level : Nat) : TxUnit :=
  let h := match parseHeader f with
    | some h => h.headerLen
    | none => f.length
  { u with seq := seq, octets := f, hdrLen := h, level := level,
           length := f.length + (if u.secure then micLen level else 0) + profFcs (s.txProfWord u.profile) }

/-- Stage 10 forms the frame. -/
def State.built (s : State) (u : TxUnit) : TxUnit × State :=
  match u.kind, u.desc with
  | .ack, _ => (s.withOctets u u.seq (s.buildAck u) u.level, s)
  | .beacon, _ =>
    let q := s.mac.beaconSeq
    let s := { s with mac := { s.mac with beaconSeq := (q + 1) % 256 } }
    (s.withOctets u q (s.buildBeacon u q) 0, s)
  | .poll, _ =>
    let (q, s) := s.takeSeq none
    (s.withOctets u q (s.buildPoll u q) (s.key (s.ctx (u.ctx.getD 0) 12 1)).image.txlvl, s)
  | .legacy, _ => (u, s)
  | _, some d =>
    let (q, s) := s.takeSeq (s.keptSeq u)
    ((s.keepSeq u q).withOctets u q (s.buildData u d q) (s.key (s.ctx (u.ctx.getD 0) 12 1)).image.txlvl, s.keepSeq u q)
  | _, none => (u, s)

/-- R177, R152, R151, R317: stage 10 forms a transmission's frame; a poisoned descriptor or data word ends it INVALID. -/
def execBuildStage (unit charge : Nat) (s : State) : Host.Outcome State Fault Refusal :=
  match s.txReady 10 unit charge with
  | none => goOn s
  | some u =>
    if (match u.desc with
      | some d => s.descPoisoned d
      | none => false) then goOn (s.endTx u 0xF)
    else
      let (u, s) := s.built u
      goOn (s.passTx u charge)

/-! SECURE (R187 to R196, R494). -/

/-- The frame as sent: its frame counter in place, encrypted at levels 5 to 7, with its MIC (R188, R189). -/
def secureOctets (k : KeyImage) (ext : Nat) (u : TxUnit) (fc : Nat) : List Byte :=
  let at_ := addressEnd u.octets
  let f := u.octets.take (at_ + 1) ++ leBytes 4 fc ++ u.octets.drop (at_ + 5)
  let a := f.take u.hdrLen
  let m := f.drop u.hdrLen
  let nonce := ccmNonce ext fc u.level
  if 4 < u.level then a ++ ccmCrypt k.sm4 k.key nonce m ++ ccmMic k.sm4 k.key nonce a m (micLen u.level)
  else f ++ ccmMic k.sm4 k.key nonce f [] (micLen u.level)

/-- R191: the frame counter of a transmission: the one kept for its descriptor, else TXFC, which then increments. -/
def State.takeFc (s : State) (u : TxUnit) (k : Nat) : Nat × State :=
  match s.keptFc u with
  | some fc => (fc, s)
  | none =>
    let fc := (s.key k).txfc
    (fc, (s.setKey k { s.key k with txfc := fc + 1 }).keepFc u fc)

/-- A transmission ends at SECURE without being sent: its descriptor completes with the status; an acknowledgement is
just not sent (R199). -/
def State.txSecureEnd (s : State) (u : TxUnit) (status : Nat) : State := s.endTx u status

/-- The checks and the charge of stage 11 for a secured transmission (R494, R194): the frame counter on a pass. -/
def State.txSecureStart (s : State) (u : TxUnit) : Option (Nat × Nat) × State :=
  match u.ctx, s.txKey u with
  | some c, some k =>
    if !s.ctxFlag c 0 then (none, s.txSecureEnd u 0xF)
    else if !s.seUsable c k then (none, (s.seRefused c k).txSecureEnd u (s.seTxStatus c k))
    else
      let (st, s) := s.charged k (ccmBlocks (decide (4 < u.level)) u.hdrLen (u.octets.length - u.hdrLen)) true
      if st ≠ cipherOk then (none, (s.bump SEC_COUNT0_SE_KEYLIM).txSecureEnd u 0xD)
      else
        let (fc, s) := s.takeFc u k
        (some (k, fc), s)
  | _, _ => (none, s.txSecureEnd u 0xF)

/-- R191, R494, R199: stage 11 secures a transmission, or passes an unsecured one. A unit that a waiting key command
holds back stays. -/
def execSecureTxStage (unit charge : Nat) (s : State) : Host.Outcome State Fault Refusal :=
  match s.txReady 11 unit charge with
  | none => goOn s
  | some u =>
    if !u.secure then goOn (s.passTx u charge)
    else if (match s.txKey u with
      | some k => s.keyWaits k (some unit) none
      | none => false) then goOn s
    else match s.txSecureStart u with
    | (none, s) => goOn s
    | (some (k, fc), s) => goOn (s.passTx { u with octets := secureOctets (s.key k).image s.ownExt u fc } charge)

/-! ENCODE, MODULATE and MASK (R97 to R107). -/

/-- The frame's bits under a profile word, and the length that ENCODE checks; data octets that a legacy frame still owes
stand as zeros until the transmit FIFO gives them. -/
def State.encoded (s : State) (u : TxUnit) : TxUnit :=
  let w := s.txProfWord u.profile
  let octets := u.octets ++ List.replicate u.owed 0
  let (pre, body) := if bit w 21 then legacyBits w (s.get CHZ_LEGSYNC_WORD) octets else nativeBits w u.extended octets
  { u with profWord := w, rupWord := s.rampWord, fir := s.firTaps, rtab := s.rampTable, mask := s.maskInForce,
           maskErr := s.on TXP_CTRL_MASK_EN && !s.maskTableOk, bits := pre ++ body, preBits := pre.length,
           length := octets.length + (if bit w 21 then 2 else profFcs w) }

/-- The length breaks R100 or R101. -/
def TxUnit.tooLong (u : TxUnit) : Bool :=
  if bit u.profWord 21 then 255 < u.length else 2047 < u.length || (u.kind != .ack && u.lenLimit < u.length)

/-- The header of a legacy frame (R395). -/
def State.lgyHeader (s : State) (fctl seq dst : Nat) : List Byte :=
  leBytes 1 fctl ++ leBytes 1 seq ++ leBytes 1 (s.get (LGY_NETID_VALUE 0)) ++ leBytes 1 (s.get (LGY_NETID_VALUE 1)) ++ leBytes 4 dst ++
  ((List.range 4).map fun i => leBytes 1 (s.get (LGY_OWNADDR_VALUE i))).flatten

/-- The octet of a legacy frame on the air that ENCODE now needs leaves the transmit FIFO (R390); with the last one the
frame's bits are complete. -/
def State.lgyOctet (s : State) (u : TxUnit) : State :=
  match s.lgy.tx with
  | [] => s
  | b :: _ =>
    let u := { u with octets := u.octets ++ [b] }
    let s := s.lgyTake 1
    if u.owed ≠ 0 then s.setTx u
    else
      let s : State := match s.lgy.frame with
        | some f => { s with lgy := { s.lgy with frame := some { f with octets := u.octets } } }
        | none => s
      s.setTx (s.encoded u)

/-- The first attempt of the frame of TX_START (R390, R395): without its DLEN byte the unit waits; a DLEN above 241 ends the
frame with LENERR and discards it; else its header, SEQ and destination are settled. -/
def State.lgyOpenFrame (s : State) (u : TxUnit) : Option TxUnit × State :=
  match s.lgy.frame, s.lgy.tx with
  | some f, d :: _ =>
    if f.started then (some u, s)
    else if 241 < d.toNat then
      let s := (s.removeTx u.id).lgyFlag 45
      (none, { s with lgy := { s.lgy with tx := s.lgy.tx.drop (1 + d.toNat), frame := none } })
    else
      let c := s.get LGY_TXDST_CTX
      let ctx := if c = 0xFF then none else some c
      let ar := s.on LGY_TXCFG_ACKREQ
      let dst := if c = 0xFF then 0xFFFFFFFF else s.ctx c 0 4
      let seq := f.seq.getD s.lgy.seq
      let h := s.lgyHeader (4 * ofBool ar) seq dst
      let next := if f.seq.isSome then s.lgy.seq else (s.lgy.seq + 1) % 256
      let f := { f with started := true, seq := some seq, octets := h, dlen := d.toNat, ctx := ctx, ackReq := ar }
      (some { u with seq := seq, octets := h, dlen := d.toNat, fresh := true, ctx := ctx, ackReq := ar, noAr := !ar },
        { s with lgy := { s.lgy with frame := some f, seq := next } })
  | some f, [] => if f.started then (some u, s) else (none, s)
  | none, _ => (none, s)

/-- R97, R99 to R101: stage 12 copies the profile, ramp, taps and mask and forms the frame's bits; a frame that is too long
completes LENGTH. An extended poll needs a profile that repeats eight times (MAC_CTRL XPROF). On a legacy frame
that is on the air it takes the next octet from the transmit FIFO (R390). -/
def execEncodeStage (unit charge : Nat) (s : State) : Host.Outcome State Fault Refusal :=
  match s.txReady 12 unit charge with
  | none => match s.txUnit unit with
    | some u => if u.owed ≠ 0 ∧ u.phase = .tx then goOn (s.lgyOctet u) else goOn s
    | none => goOn s
  | some u =>
    match (if u.kind = .legacy ∧ u.air = .data then s.lgyOpenFrame u else (some u, s)) with
    | (none, s) => goOn s
    | (some u, s) =>
    let u := s.encoded u
    if u.tooLong then goOn (s.endTx u 9)
    else if u.extended && slice u.profWord 13 2 != 3 then
      goOn ({ s with mac := { s.mac with pollWanted := false } }.endTx u 0xF)
    else goOn (s.passTx u charge)

/-- The largest deviation of a profile, doubled: where the shaping FIR saturates (R105). -/
def deviationLimit (w : Nat) : Int :=
  2 * (if bit w 0 then 3 else 1) * (slice w 5 8 : Nat) * (300000000 / (symbol3 w : Int))

/-- R102, R103, R105: stage 13 maps bits to deviations, shapes them and passes the FIR where the profile enables it. -/
def execModulateStage (unit charge : Nat) (s : State) : Host.Outcome State Fault Refusal :=
  match s.txReady 13 unit charge with
  | none => goOn s
  | some u =>
    let w := u.profWord
    let x := Config.gaussian (bit w 4) (deviations w (u.bits.take u.preBits) (u.bits.drop u.preBits))
    let y := if bit w 22 then (List.range x.length).map (firSample u.fir x (deviationLimit w)) else x
    goOn (s.passTx { u with devs := y } charge)

/-- R106, R107: stage 14 reads the context's offset estimate once and corrects the carrier. -/
def execMaskStage (unit charge : Nat) (s : State) : Host.Outcome State Fault Refusal :=
  match s.txReady 14 unit charge with
  | none => goOn s
  | some u =>
    let lim : Int := s.get TXP_PRECOR_PRECOR_MAX
    let est : Int := if s.on TXP_CTRL_PRECOR_EN && u.kind != .beacon && u.kind != .test then s.offsetHz u.ctx / 10 else 0
    let c := clampInt lim est
    let s := s.flag TXP_STATUS_LAST_CLAMP (c != est)
    goOn (s.passTx { u with carrier := ((u.freq : Int) + 10 * c).toNat } charge)

/-! LAUNCH (R57, R114, R131, R42). -/

/-- LAUNCH samples VSUP (R34). -/
def State.sampleVsup (s : State) (mv : Nat) : State :=
  ({ s with radio := { s.radio with vsup := mv } }).flag RFC_STATE_VSUP_HI (decide (2700 ≤ mv))

/-- A transmission passed its checks: the transmitter locks on its carrier and the blanking window opens. -/
def State.launched (s : State) (u : TxUnit) (g charge : Nat) : State :=
  let s := (s.handedOn 15 charge).setTx { u with phase := .locked, group := some g, planned := u.plan }
  (s.lockOn u.carrier).openTxWindow

/-- R57, R114, R131: stage 15 launches a transmission. One beyond TX_UNITS, and one that a synthesiser without calibration
delays under policy COMMAND_TEMP (R42), drops LATE; a refused one completes with the status of its check; an
acknowledgement waits for the commit of the frame it answers (R139), and in SCAN nothing is sent (R166). -/
def execLaunchStage (unit charge vsup : Nat) (s : State) : Host.Outcome State Fault Refusal :=
  match s.txReady 15 unit charge with
  | none => goOn s
  | some u =>
    if s.injected 15 then goOn (s.injectionDone.mismatchTx u)
    else if !u.released ∨ s.airUnit.isSome ∨ (s.mode = modeNode ∧ s.get MAC_STATUS_SYNC = syncScan) then goOn s
    else
      let s := s.sampleVsup vsup
      if s.slotLen ≠ 0 ∧ s.prog 25 1 < u.ordinal then goOn (s.lateTx u false)
      else match s.regCheck u.freq u.power u.plan with
      | .pass g =>
        if s.slot.policy = 1 ∧ (s.path .t).calTemp.isNone then goOn (((s.lock .t).txReturn).lateTx u false)
        else goOn (s.launched u g charge)
      | v => goOn (((s.regRefused v).txReturn).endTx u (verdictStatus v))

end Sys2Proof.Machine
end

