-- ==== Sys2Proof/Machine/SlotRx.lean ====
section
/-! DEFINITION. Stages 0 to 8 of the slot engine (spec/03, 05, 06 and 07): CAPTURE, PHR, DECODE, CRC, PARSE, LOOKUP, SECURE,
ADMIT and DELIVER of one received frame, and the LATE drop of any unit. -/
namespace Sys2Proof.Machine

/-- A stage completes a received unit; one whose frame ended BLANKED ends here without a trace (R79). -/
def State.rxStage (s : State) (st unit charge : Nat) (f : RxUnit → State) : State :=
  match s.rxReady st unit charge with
  | none => s
  | some u => if u.blanked then s.endRx u else f u

/-- R80: stage 0 takes the record and the first soft symbols. -/
def execCaptureStage (unit charge : Nat) (s : State) : Host.Outcome State Fault Refusal :=
  goOn (s.rxStage 0 unit charge fun u => s.passRx u charge)

/-- The header of a frame is refused (R82, R86). -/
def RxUnit.headerBad (u : RxUnit) (ms : Bool) (fcsLen length : Nat) : Bool :=
  let maxLen := slice u.det.profWord 20 11
  if u.legacy then length < 3 || maxLen < length else ms || length ≤ fcsLen || maxLen < length

/-- R82, R86: stage 1 tests the header that the frame carries: mode switch bit, FCS type, DW and length (LEN of a legacy
frame). A refused header ends the unit and the lane's frame with E35. -/
def execPhrStage (unit charge : Nat) (ms fcsT dw : Bool) (length : Nat) (s : State) : Host.Outcome State Fault Refusal :=
  goOn (s.rxStage 1 unit charge fun u =>
    let fcs := if u.legacy || fcsT then 2 else 4
    let len := if u.legacy then length % 256 else length % 2048
    if u.headerBad ms fcs len then
      let s := if u.legacy then s.lgyFlag 45 else s
      (((s.endRx u).leaveFrame u.det.place).raise 35).perCount u.det.place 12
    else s.passRx { u with length := len, fcsLen := fcs, dw := dw && !u.legacy } charge)

/-- Soft values combined by repetition (R84). -/
def combine (m : Nat) : Nat → List Int → List Bool
  | 0, _ => []
  | n + 1, soft => decide (0 < clampInt 63 ((soft.take m).foldl (· + ·) 0)) :: combine m n (soft.drop m)

/-- The PSDU that the soft values of a frame spell, and whether the decoder's final state was right (R81 to R86). -/
def RxUnit.decoded (u : RxUnit) (soft : List Int) : List Byte × Bool :=
  let n := 8 * u.length
  if u.legacy then (octetsMsb u.length (combine 1 n soft), true)
  else
    let (bits, ok) := if u.det.sync = .nativeCoded then Config.fecDecode soft
      else (combine (2 ^ slice u.det.profWord 13 2) n soft, true)
    (octetsLsb u.length (if u.dw then whiten (bits.take n) else bits.take n), ok)

/-- R81, R83, R84, R85: stage 2 decodes the PSDU once the last soft symbol has arrived; a wrong final state marks the frame
DECODE_FAIL with E36. -/
def execDecodeStage (unit charge : Nat) (soft : List Int) (s : State) : Host.Outcome State Fault Refusal :=
  goOn (s.rxStage 2 unit charge fun u =>
    if !u.ended then s
    else
      let (p, ok) := u.decoded soft
      (s.raiseIf (!ok) 36).passRx { u with psdu := p, decodeFail := !ok } charge)

/-- The FCS (native) or CRC (legacy) of the PSDU is right (R86, R99). -/
def RxUnit.checkOk (u : RxUnit) : Bool :=
  let n := u.psdu.length - u.fcsLen
  let body := u.psdu.take n
  let tail := u.psdu.drop n
  if u.legacy then tail == (leBytes 2 (crc16 (leBytes 1 u.length ++ body))).reverse
  else tail == (if u.fcsLen = 2 then fcs16 body else fcs32 body)

/-- The record of a PER_RX run: a frame with good or bad check, and the mean RSSI and offset of the good ones (R61). -/
def State.perFrame (s : State) (u : RxUnit) (good : Bool) : State :=
  let t := s.radio.test
  if t.running ∧ t.op = 4 ∧ t.lane = u.det.place then
    if good then
      let r := recBump t.record 4
      let n : Int := leAt r 4 4
      let rs := t.rssiSum + u.det.rssi
      let os := t.offsetSum + u.det.offset
      let r := r.take 20 ++ leBytes 2 (unsigned 16 (Int.tdiv rs n)) ++ leBytes 2 (unsigned 16 (Int.tdiv os n)) ++ r.drop 24
      s.setTest { t with record := r, rssiSum := rs, offsetSum := os }
    else s.setTest { t with record := recBump t.record 8 }
  else s

/-- R91: of two copies the one that stays: the one that passes its FCS, of two the one with the higher RSSI, on equal RSSI
half A's. -/
def twinKeeps (u v : RxUnit) : Bool :=
  if u.fcsOk = v.fcsOk then decide (v.det.rssi < u.det.rssi) || (u.det.rssi == v.det.rssi && u.det.place < 64) else u.fcsOk

/-- R81, R91: stage 3 checks the FCS; a frame that fails ends here. A copy of a twin pair waits for its partner, and at the
end of CRC only the kept copy goes on. -/
def execCrcCheck (unit charge : Nat) (s : State) : Host.Outcome State Fault Refusal :=
  goOn (s.rxStage 3 unit charge fun u =>
    if u.crcDone then s
    else
      let u := { u with fcsOk := u.checkOk, crcDone := true }
      let s := s.perFrame u u.fcsOk
      let s := if u.legacy && !u.fcsOk then s.lgyFlag (8 + u.det.choff % 8) else s
      match u.twin with
      | .lost => s.endRx u
      | .single => if u.fcsOk then s.passRx u charge else s.endRx u
      | .waiting =>
        match s.slot.rx.find? (twinPair u) with
        | none => s.setRx u
        | some v =>
          if !v.crcDone then s.setRx u
          else
            let keep := if twinKeeps u v then u else v
            let gone := if twinKeeps u v then v else u
            let s := s.removeRx gone.id
            if keep.fcsOk then s.passRx { keep with twin := .single, twinKept := some (keep.det.place / 64) } charge
            else s.removeRx keep.id)

/-! PARSE and LOOKUP (R156, R157). -/

/-- The destination passes the tests of R156. -/
def State.isMine (s : State) (h : MacHeader) : Bool :=
  let pan := s.get MAC_PANID_PANID
  let short := s.get MAC_PANID_SHORT
  let panOk := match (match h.destPan with
      | some p => some p
      | none => if h.dest = .none then h.srcPan else none) with
    | some p => p == pan || p == 0xFFFF
    | none => true
  let addrOk := match h.dest with
    | .none => true
    | .short a => a == 0xFFFF || (a == short && short != 0xFFFE)
    | .ext e => e == s.ownExt
  panOk && addrOk

/-- The destination is this device's own address, not a broadcast one (R151). -/
def State.toMe (s : State) (h : MacHeader) : Bool :=
  match h.dest with
  | .none => false
  | .short a => a == s.get MAC_PANID_SHORT && a != 0xFFFE && a != 0xFFFF
  | .ext e => e == s.ownExt

/-- A frame in SCAN that is no enhanced beacon is discarded (R165). -/
def RxUnit.scanReject (u : RxUnit) (h : MacHeader) : Bool :=
  u.det.scan && (u.legacy || h.frameType != 0 || h.version != 2)

/-- R156, R165: stage 4 parses the header and discards what is malformed or not for this device. Acknowledgements in an
acknowledgement window end here: ACK_RECEIVED is their handling (R493). A legacy frame has no MAC header;
in Compatibility mode the compatibility engine takes the frames that pass CRC (LEGACY_FRAME_STORED). -/
def execParseStage (unit charge : Nat) (s : State) : Host.Outcome State Fault Refusal :=
  goOn (s.rxStage 4 unit charge fun u =>
    if s.mode = modeCompat then s
    else if u.legacy then
      if u.scanReject {} then (s.bump MAC_RXDISC_NOT_MINE).endRx u else s.passRx u charge
    else match parseHeader (u.psdu.take (u.psdu.length - u.fcsLen)) with
    | none => (s.bump MAC_RXDISC_BAD_FRAME).endRx u
    | some h =>
      if h.version = 3 ∨ 3 < h.frameType ∨ h.iesBad then (s.bump MAC_RXDISC_BAD_FRAME).endRx u
      else if u.scanReject h then (s.bump MAC_RXDISC_NOT_MINE).endRx u
      else if !s.on MAC_CTRL_PROMISC && !s.isMine h then (s.bump MAC_RXDISC_NOT_MINE).endRx u
      else if h.frameType = 2 ∧ u.det.ackWin then s.endRx u
      else s.passRx { u with hdr := h } charge)

/-- The context of a source address (R156): by short address, else by extended address. -/
def State.lookup (s : State) (a : MacAddr) : Option Nat :=
  match a with
  | .none => none
  | .short x => (List.range 1024).find? fun i => s.ctxOk i && s.ctx i 8 2 == x && x != 0xFFFE
  | .ext x => (List.range 1024).find? fun i => s.ctxOk i && s.ctx i 0 8 == x

/-- R156, R317: stage 5 finds the sender's context; a context with a poisoned word is as none. -/
def execLookupStage (unit charge : Nat) (s : State) : Host.Outcome State Fault Refusal :=
  goOn (s.rxStage 5 unit charge fun u =>
    s.passRx { u with ctx := if u.legacy then none else s.lookup u.hdr.src } charge)

/-- R187 to R199, R494: stage 6 checks and decrypts a secured frame of a known context; without a context it passes the
frame UNCHECKED (R157). A waiting key command holds the unit (R193). -/
def execSecureRxStage (unit charge : Nat) (s : State) : Host.Outcome State Fault Refusal :=
  goOn (s.rxStage 6 unit charge fun u =>
    match u.ctx with
    | none => s.passRx { u with unchecked := u.hdr.secured } charge
    | some c =>
      if !u.hdr.secured then s.passRx u charge
      else if (match s.selectKey c u.hdr with
        | some k => s.keyWaits k (some unit) none
        | none => false) then s
      else match s.secureRx c u with
      | (.drop, s) => s.endRx u
      | (.pass u, s) => s.passRx u charge)

/-! ADMIT (R151, R158, R139). -/

/-- A unit's frame asks for an acknowledgement and may have one (R151). -/
def State.wantsAck (s : State) (u : RxUnit) : Bool :=
  !u.legacy && u.hdr.ar && s.toMe u.hdr && (u.outcome == .deliver || u.outcome == .duplicate ||
    (u.outcome == .noContext && s.on MAC_CTRL_ACK_NOCTX)) && s.get MAC_STATUS_SYNC != syncScan

/-- R139: a TX_UNITS unit and the transmitter are free, and the unit reached ADMIT in time. -/
def State.ackGrant (s : State) (u : RxUnit) : Bool :=
  let need := s.leadTime s.slot.policy + s.budget 8 u.length +
    ([10, 11, 12, 13, 14].map fun st => s.budget st 32).foldl (· + ·) 0
  decide (s.slot.txUsed < s.prog 25 1) && s.slot.tx.all (fun t => t.phase == .ackWait) && !s.slot.calCells.contains 2 &&
  s.running && decide (s.tnet + need ≤ u.endTime + s.tmplAD)

/-- The acknowledgement of a unit enters stage 10 (R151, R139). -/
def State.grantAck (s : State) (u : RxUnit) : State :=
  let lvl := if 4 < u.hdr.level then u.hdr.level - 4 else u.hdr.level
  let t : TxUnit := {
    id := s.slot.nextId, kind := .ack, asn := u.asn, ctx := u.ctx, freq := u.det.freq, profile := u.det.profile,
    power := s.txPower, secure := u.verified, seq := u.hdr.seq.getD 0, ackFor := some u.id, ackKey := u.key, level := lvl,
    tc := s.timeCorrection u, ackDest := u.hdr.src, released := false, ordinal := s.slot.txUsed + 1, choff := u.det.choff }
  let t := { t with length := (s.buildAck t).length + (if t.secure then micLen lvl else 0) + profFcs (s.txProfWord t.profile) }
  let s := { s with slot := { s.slot with tx := s.slot.tx ++ [t], nextId := s.slot.nextId + 1, txUsed := s.slot.txUsed + 1 } }
  s.accepted 10

/-- R158, R151, R139, R317: stage 7 classifies the frame and grants its acknowledgement, or counts SLE_ACKMISS. A context
that has become poisoned is as none. -/
def execAdmitStage (unit charge : Nat) (s : State) : Host.Outcome State Fault Refusal :=
  goOn (s.rxStage 7 unit charge fun u =>
    let u := match u.ctx with
      | some c => if s.poisonedIn (ctxAddr c) 64 then { u with ctx := none, outcome := .noContext, verified := false }
        else { u with outcome := s.classify c u }
      | none => { u with outcome := .noContext }
    if !s.wantsAck u then s.passRx u charge
    else if s.ackGrant u then (s.grantAck u).passRx { u with ackGranted := true } charge
    else (s.bump SLE_ACKMISS_COUNT).passRx u charge)

/-! DELIVER (R175, R176, R139, R159). -/

/-- Entries of the delivery ring. -/
def State.dqLevel (s : State) : Nat :=
  let n := s.get MAC_FBCFG_DQ_SIZE
  (s.get MAC_DQ_WR + n - s.get MAC_DQ_RD) % n

/-- The first of `k` free consecutive receive blocks that follow the previous frame, or that start at block 0 where they
would pass the end of the area (R175). -/
def State.freeBlocks (s : State) (k : Nat) : Option Nat :=
  let area := s.get MAC_FBCFG_RX_BLOCKS
  let b := if area < s.mac.rxBlock + k then 0 else s.mac.rxBlock
  if k ≤ area && s.mac.dqBlocks.all (fun e => decide (b + k ≤ e.1) || decide (e.1 + e.2 ≤ b)) then some b else none

/-- FLAGS of R176. -/
def RxUnit.flags (u : RxUnit) : Nat :=
  let secured := u.hdr.secured
  ofBool u.ctx.isNone + 2 * ofBool u.det.fdx + 4 * ofBool u.twinKept.isSome + 8 * u.twinKept.getD 0 +
  0x10 * ofBool u.verified + 0x20 * ofBool (u.ctx.isNone && secured) + 0x40 * ofBool u.decodeFail +
  0x80 * ofBool u.ackGranted + 0x100 * ofBool u.legacy + 0x200 * ofBool u.det.scan +
  0x400 * ofBool (u.outcome == .duplicate) + 0x800 * ofBool u.straddled + 0x1000 * ofBool u.stale +
  0x2000 * ofBool (!u.legacy && u.hdr.frameType == 0) + 0x4000 * ofBool u.hdr.pending

def syncCode : SyncKind → Nat
  | .nativeUncoded => 0
  | .nativeCoded => 1
  | .legacy => 2

/-- The delivery descriptor of R176. -/
def RxUnit.descriptor (u : RxUnit) (data : Nat) : List Byte :=
  leBytes 2 (u.length - u.fcsLen) ++ leBytes 2 (u.ctx.getD 0xFFFF) ++ leBytes 4 data ++ leBytes 8 u.det.tSfd ++
  leBytes 5 u.asn ++ leBytes 1 u.det.place ++ leBytes 2 (unsigned 16 u.det.rssi) ++ leBytes 2 (unsigned 16 u.det.offset) ++
  leBytes 2 u.flags ++ leBytes 1 (syncCode u.det.sync + 4 * u.det.profile) ++ leBytes 1 (u.hdr.seq.getD 0) ++ leBytes 2 0

/-- The unit's outcome puts an entry into the delivery queue (R159). -/
def State.hasEntry (s : State) (u : RxUnit) : Bool :=
  match u.outcome with
  | .deliver => true
  | .noContext => true
  | .duplicate => s.on MAC_CTRL_DELIVER_DUP
  | _ => false

/-- The entry is written at WR with its frame in blocks from `b` (R175, R176); E55 at the threshold. -/
def State.enqueue (s : State) (u : RxUnit) (b : Nat) : State :=
  let f := u.psdu.take (u.psdu.length - u.fcsLen)
  let data := 0x24030000 + 64 * b
  let wr := s.get MAC_DQ_WR
  let s := (s.devWrite data f).devWrite (descAddr wr) (u.descriptor data)
  let k := max 1 (divUp f.length 64)
  let s := { s with mac := { s.mac with rxBlock := b + k, dqBlocks := s.mac.dqBlocks ++ [(b, k)] } }
  let s := s.put MAC_DQ_WR ((wr + 1) % s.get MAC_FBCFG_DQ_SIZE)
  s.raiseIf (decide (s.get MAC_CTRL_DQ_THRESH ≤ s.dqLevel)) 55

/-- The context updates of a committed frame (R159, R162, R165). -/
def State.commitCtx (s : State) (c : Nat) (u : RxUnit) : State :=
  match u.outcome with
  | .replay => s.ctxBump c 57
  | .authFail => s.ctxBump c 58
  | .deliver | .duplicate =>
    let adrift := s.isParent c && s.get MAC_STATUS_SYNC == syncAdrift
    let scan := s.isParent c && s.get MAC_STATUS_SYNC == syncScan && u.det.scan
    let s := if u.outcome = .deliver then
        let s := (s.admitUpdates c u).foldRssi c u.det.rssi
        s.setCtx c 50 2 (s.ctx c 50 2 + 1)
      else s.ctxBump c 56
    let s := (((s.setCtx c 40 5 u.asn).setMiss c 0).foldOffset c u.det.offset).markValid u.det.place c u.asn
    match scan, u.hdr.asn with
    | true, some a => if s.slotLen = 0 then s else s.scanResync c a u.det.tSfd u.det.profile
    | _, _ =>
      let s := match s.arrival u with
        | some m => s.timeSample c u.det.tSfd m adrift true
        | none => s
      if adrift then s.synced else s
  | _ => s

/-- The context of a committed frame is written; a sender without one raises E57 and may ask for an eviction. -/
def State.commitSender (s : State) (u : RxUnit) : State :=
  match u.ctx with
  | none =>
    let s := s.raise 57
    if s.freeContexts < s.get MAC_CTXSTAT_EVICT_LOW then { s with mac := { s.mac with evictWanted := true } } else s
  | some c => if u.stale || s.poisonedIn (ctxAddr c) 64 then s else s.commitCtx c u

/-- A granted poll with frames pending, or a follow-up with more of them, gets a follow-up window. -/
def State.askFollowUp (s : State) (u : RxUnit) : State :=
  match u.ctx with
  | some c =>
    if u.isPoll && u.ackGranted && 0 < s.pendingOf u.ctx then s.scheduleFollowUp c true u.det.choff
    else if u.det.followUp && u.hdr.pending && u.outcome == .deliver then s.scheduleFollowUp c false u.det.choff else s
  | none => s

/-- The acknowledgement of a frame may leave. -/
def State.releaseAck (s : State) (id : Nat) : State :=
  { s with slot := { s.slot with tx := s.slot.tx.map fun t => if t.ackFor = some id then { t with released := true } else t } }

/-- What the commit of a unit does beside the delivery queue: its context, E57 without one, its acknowledgement released,
and a granted poll's follow-up. -/
def State.commit (s : State) (u : RxUnit) : State := ((s.commitSender u).askFollowUp u).releaseAck u.id

/-- R175, R139, R159: stage 8 commits the frame and writes its context updates. A full ring or too few blocks drop it
before commit with FULL, its acknowledgement with it. -/
def execDeliverStage (unit charge : Nat) (s : State) : Host.Outcome State Fault Refusal :=
  goOn (s.rxStage 8 unit charge fun u =>
    if s.injected 8 then s.injectionDone.mismatchRx u
    else if s.hasEntry u then
      let k := max 1 (divUp (u.length - u.fcsLen) 64)
      match (if s.dqLevel + 1 = s.get MAC_FBCFG_DQ_SIZE then none else s.freeBlocks k) with
      | none => (s.bump MAC_DQSTAT_FULL).endRx u
      | some b => ((((s.handedOn 8 charge).enqueue u b).commit u)).removeRx u.id
    else (((s.handedOn 8 charge).commit u)).removeRx u.id)

/-- The key charge of a unit that a drop interrupts in SECURE: it stays charged, and a transmission's frame counter stays
used (R194, R191). -/
def State.abandonSecure (s : State) (id : Nat) : State :=
  match s.rxUnit id, s.txUnit id with
  | some u, _ =>
    match u.ctx.bind fun c => s.selectKey c u.hdr with
    | some k => if u.stage = 6 ∧ u.hdr.secured ∧ s.served 6 id ∧ !s.keyWaits k (some id) none then (s.charged k u.blocks false).2 else s
    | none => s
  | none, some u =>
    match s.txKey u with
    | some k =>
      if u.stage = 11 ∧ u.secure ∧ s.served 11 id ∧ !s.keyWaits k (some id) none then
        let (st, s) := s.charged k (ccmBlocks (decide (4 < u.level)) u.hdrLen (u.octets.length - u.hdrLen)) true
        if st = cipherOk then (s.takeFc u k).2 else s
      else s
    | none => s
  | none, none => s

/-- R131, R42: a stage drops a unit whose charge has reached its budget, with reason LATE; LAUNCH so drops a transmission
whose synthesiser has not locked in time. With no program there are no budgets. -/
def execLateDrop (unit : Nat) (s : State) : Host.Outcome State Fault Refusal :=
  if s.slotLen = 0 then goOn s
  else match s.rxUnit unit, s.txUnit unit with
  | some u, _ => if s.served u.stage unit then goOn ((s.abandonSecure unit).lateRx u false) else goOn s
  | none, some u =>
    if u.phase = .pipeline ∧ s.served u.stage unit then goOn ((s.abandonSecure unit).lateTx u false)
    else if u.phase = .locked ∧ (s.path .t).goal.isSome then goOn ((s.txReturn).lateTx u false)
    else goOn s
  | none, none => goOn s

end Sys2Proof.Machine
end

