-- ==== Sys2Proof/Machine/SlotBoundary.lean ====
section
/-! DEFINITION. What a slot boundary does (R137, R138, R143, R144): the units of the slot just ended, the swap, the staged
settings, contexts, queues and the cells of the new slot (R127). -/
namespace Sys2Proof.Machine

/-! Contexts, queues and the indirect store at a boundary (R155, R157, R170, R172). -/

/-- A context image with its reserved bits 0 (R155). -/
def contextImage (img : List Byte) : List Byte :=
  let b (k : Nat) (m : Byte) (xs : List Byte) : List Byte := setAt xs k ((xs.getD k 0) &&& m)
  b 11 0x1F (b 14 0x07 (b 45 0x07 (b 59 0x1F (bytesAt img 0 64))))

/-- In Node mode following a parent, the deletion of the active time parent ends in UNSYNCED (R165). -/
def State.parentLost (s : State) (was : Option Nat) : State :=
  match was with
  | none => s
  | some p => if s.follows && !(s.ctxFlag p 0 && s.ctxFlag p 1) then s.leaveScan syncUnsynced else s

/-- Every waiting descriptor of context `i` completes with FLUSHED (R155). -/
def State.flushContext (s : State) (i : Nat) : State :=
  let ds := (s.mac.queue.filterMap fun e => if e.ctx = i ∧ !e.busy then some e.desc else none) ++
    (s.mac.pending.filterMap fun e => if e.ctx = i ∧ !e.busy then some e.desc else none)
  ds.foldl (fun (s : State) d => s.finishDesc d 0x10) s

/-- R155: the staged context image or deletion takes effect: units that looked the context up before are stale. -/
def State.applyContext (s : State) : State :=
  match s.mac.staged with
  | none => s
  | some c =>
    let was := s.parent
    let s : State := { s with mac := { s.mac with staged := none, rate := s.tnetRate } }
    let s : State := s.flag MAC_CTXSTAT_BUSY false
    let s : State := { s with slot := { s.slot with rx := s.slot.rx.map fun u => if u.ctx = some c.index then { u with stale := true } else u } }
    let s := if c.delete then (s.setCtx c.index 10 2 (clearBit (s.ctx c.index 10 2) 0)).flushContext c.index
      else s.devWrite (ctxAddr c.index) (contextImage c.image)
    s.parentLost was

/-- The valid unpinned contexts with the oldest HEARD_ASN, up to `n` of them, ties to the lower index (R157). -/
def State.oldest (s : State) : Nat → List Nat → List Nat
  | 0, _ => []
  | n + 1, cs =>
    match cs.foldl (fun (b : Option Nat) i => match b with
      | none => some i
      | some j => if s.ctx i 40 5 < s.ctx j 40 5 then some i else some j) none with
    | none => []
    | some i => i :: State.oldest s n (cs.filter (· != i))

/-- R157: eviction candidates are reported: MAC_EVICT0, MAC_EVICT1 and E58. -/
def State.reportEvict (s : State) : State :=
  if !s.mac.evictWanted then s
  else
    let c := s.oldest 4 ((List.range 1024).filter fun i => s.ctxFlag i 0 && !s.ctxFlag i 10)
    let s := { s with mac := { s.mac with evictWanted := false } }
    let cand (k : Nat) (ci vi : RegField) (s : State) : State := (s.put ci (c.getD k 0)).flag vi (k < c.length)
    (cand 3 MAC_EVICT1_CAND_B MAC_EVICT1_VALID_B (cand 2 MAC_EVICT1_CAND_A MAC_EVICT1_VALID_A
      (cand 1 MAC_EVICT0_CAND_B MAC_EVICT0_VALID_B (cand 0 MAC_EVICT0_CAND_A MAC_EVICT0_VALID_A s)))).raise 58

/-- R170: pending frames older than TIMEOUT complete with EXPIRED, E63. -/
def State.expirePending (s : State) : State :=
  let lim := s.get MAC_PEND_TIMEOUT * 100000000
  let old := s.mac.pending.filter fun e => !e.busy && decide (e.since + lim < s.clock)
  old.foldl (fun (s : State) e => (s.finishDesc e.desc 0xB).raise 63) s

/-- R172: one boundary's aging of a waiting entry. -/
def QEntry.aged (th : Nat → Nat) (e : QEntry) : QEntry :=
  if e.busy then e
  else
    let a := e.classAge + 1
    if 0 < e.cls ∧ 0 < th e.cls ∧ th e.cls < a then { e with age := e.age + 1, cls := e.cls - 1, classAge := 0 }
    else { e with age := e.age + 1, classAge := a }

def State.ageThreshold (s : State) (c : Nat) : Nat :=
  if c = 1 then s.get MAC_AGE_L_TH1 else if c = 2 then s.get MAC_AGE_L_TH2 else s.get MAC_AGE_H_TH3

def State.ageQueues (s : State) : State :=
  { s with mac := { s.mac with queue := s.mac.queue.map (QEntry.aged s.ageThreshold) } }

/-! The units of the slot just ended (R138). -/

/-- The receive units in the order of their CAPTURE. -/
def insertId (x : Nat) : List Nat → List Nat
  | [] => [x]
  | y :: ys => if x ≤ y then x :: y :: ys else y :: insertId x ys

def State.rxOrder (s : State) : List Nat := (s.slot.rx.map (·.id)).foldl (fun l x => insertId x l) []

/-- Receive units at the boundary: up to `room` of those still on the air straddle it, every other one is dropped. -/
def State.endRxUnits : Nat → List Nat → State → State
  | _, [], s => s
  | room, id :: ids, s =>
    match s.rxUnit id with
    | none => State.endRxUnits room ids s
    | some u =>
      if u.blanked then State.endRxUnits room ids (s.endRx u)
      else if !u.ended ∧ 0 < room then State.endRxUnits (room - 1) ids (s.setRx { u with straddled := true })
      else State.endRxUnits room ids ((s.abandonSecure id).lateRx u true)

/-- A transmission at the boundary; `toMode` says that the boundary is a mode transition's. -/
def State.endTxUnit (toMode : Bool) (s : State) (id : Nat) : State :=
  match s.txUnit id with
  | none => s
  | some u =>
    if u.kind = .test then s
    else match u.phase with
    | .pipeline => (s.abandonSecure id).lateTx u true
    | .locked => s.txReturn.lateTx u true
    | .ackWait => if toMode then s.endTx u 0xA else s.noAck u
    | _ => s

/-- A window of the slot just ended: its lanes stop searching; an ordinary one is judged unless a frame of it goes on. -/
def State.endWindow (s : State) (w : RxWindow) : State :=
  let s := if w.isOpen then (s.windowLanes w.lane).foldl State.closeLane s else s
  if w.ackOf.isSome ∨ (!w.isOpen ∧ !w.closed) then s
  else if s.windowBusy w then
    { s with slot := { s.slot with windows := s.slot.windows ++ [{ w with isOpen := false, closed := true }] } }
  else s.emptyWindow w

def State.endWindows (s : State) : State :=
  let ws := s.slot.windows
  ws.foldl State.endWindow { s with slot := { s.slot with windows := [] } }

/-- Step 1 of R137 for the units of the slot just ended, with `straddle` frames allowed to go on. -/
def State.endUnits (s : State) (straddle : Nat) (toMode : Bool) : State :=
  let s := State.endRxUnits straddle s.rxOrder s
  ((s.slot.tx.map (·.id)).foldl (State.endTxUnit toMode) s).endWindows

/-! The swap and the staged settings (R143, R144, R56, R67, R69, R90). -/

/-- The cipher reserve in force changes (R186): general chunks on lanes that it takes are abandoned. -/
def State.takeReserve (s : State) (n : Nat) : State :=
  let s := { s with sec := { s.sec with reserve := n } }
  ((List.range 8).foldl (fun (s : State) p => match (s.page p).lane with
    | some l => if l < n then s.setPage p { s.page p with lane := none } else s
    | none => s) s).arbitrate

/-- STANDBY becomes ACTIVE and the old ACTIVE becomes STANDBY in state `st`: E51, and the image is the stored one. -/
def State.swapBuffers (s : State) (st : Nat) : State :=
  let s := (s.flag SLE_STATUS_ACTIVE_BUF (!s.on SLE_STATUS_ACTIVE_BUF)).setStandbyState st
  let b := s.activeBuf
  let img := bufBytes b 0 (bufLen b)
  let s := ({ s with slot := { s.slot with armed := none, mismatches := [] } }.setObj 0x400100 img).persist 0x400100 img
  let s := s.takeReserve (s.prog 24 1)
  let s := if !bit (s.prog 21 1) 0 && s.on CHZ_CTRL_TWIN_EN then
      let s := (s.flag CHZ_CTRL_TWIN_EN false).takeTwin false
      { s with radio := { s.radio with twinStaged := none } }
    else s
  s.raise 51

/-- A half's PLAN in force follows its register, with RETUNE blanking (R67). -/
def State.takePlan (s : State) (h : Nat) : State :=
  let v := s.get (if h = 0 then CHZ_CTRL_PLAN_A else CHZ_CTRL_PLAN_B)
  if (if h = 0 then s.radio.planA else s.radio.planB) = v then s
  else
    let s := if h = 0 then { s with radio := { s.radio with planA := v } } else { s with radio := { s.radio with planB := v } }
    let s := s.retune h
    if h = 0 ∧ s.on CHZ_STATUS_TWIN_ACTIVE then s.retune 1 else s

/-- Step 2 of R137: a waiting profile, staged centres, plans, twin receive and channel map take effect. -/
def State.takeStaged (s : State) : State :=
  let s := match s.radio.waiting with
    | some img => s.installProfile img
    | none => s
  let s := if s.radio.stagedA.isSome then ({ s with radio := { s.radio with stagedA := none } }).retune 0 else s
  let s := if s.radio.stagedB.isSome then ({ s with radio := { s.radio with stagedB := none } }).retune 1 else s
  let s := (s.takePlan 0).takePlan 1
  let s := match s.radio.twinStaged with
    | some b => ({ s with radio := { s.radio with twinStaged := none } }).takeTwin b
    | none => s
  match s.radio.mapNext with
  | some m => ({ s with radio := { s.radio with mapCur := m, mapNext := none } }).setNcos m
  | none => s

/-- Step 3 of R137 and what the medium access functions do at a boundary: budgets and counts reset, E48, staged context,
expiry, eviction, aging. -/
def State.stepThree (s : State) : State :=
  let s := { s with slot := { s.slot with slotUnits := List.replicate 16 0, txUsed := 0 } }
  (s.applyContext.expirePending.reportEvict.ageQueues).raise 48

/-- The phase step of R163 at this boundary: at most a quarter slot of the pending correction. -/
def State.phaseStep (s : State) : Int :=
  let lim : Int := ((s.slotLen / 4 : Nat) : Int)
  clampInt lim s.mac.pendCorr

/-- Time passes to the boundary; TNET steps by the phase correction in that cycle (R163), and by a FORCE of the steering
(R225). -/
def State.reachBoundary (s : State) : State :=
  let c := s.phaseStep
  let tb := s.slot.boundary + s.slotLen
  let s := s.advanceTo (((tb : Int) - c).toNat)
  let s := { s with tnet := tb % 2 ^ 64, mac := { s.mac with pendCorr := s.mac.pendCorr - c } }
  if c = 0 then s else s.put MAC_CORR_LAST (unsigned 32 c)

/-- The slot that begins at the present TNET. -/
def State.beginSlot (s : State) (asn : Nat) : State :=
  { s with slot := { s.slot with boundary := s.tnet, slotAsn := asn % 2 ^ 40, partialSlot := false } }

/-- R225: a forced coarse step is applied whole at the boundary: the slot in which TNET then stands is partial. -/
def State.takeCoarse (s : State) : State :=
  match s.slot.coarse with
  | none => s
  | some d =>
    let t := ((s.tnet : Int) + d).toNat % 2 ^ 64
    let s := { s with tnet := t, slot := { s.slot with coarse := none } }
    let s : State := s.flag GNS_STATUS_COARSE_HOLD false
    let l := s.slotLen
    { s with slot := { s.slot with boundary := if s.origin ≤ t ∧ l ≠ 0 then s.origin + (t - s.origin) / l * l else t,
                                   slotAsn := s.asn, partialSlot := true } }

/-! Cell selection (R127, R128). -/

/-- The cells of the slot in order of precedence. -/
def State.slotCells (s : State) : List Cell :=
  let b := s.activeBuf
  let fs := (slotFrames b).filter (·.active)
  (((List.range 8).map fun p => fs.filter fun f => f.priority == p).flatten.map fun f =>
    (frameCells b f).filter fun c => f.length != 0 && c.offset == s.slot.slotAsn % f.length).flatten

/-- The rotation of R45 for a half: DC and IQ, image rejection, bandwidth, synthesiser. -/
def rotation : List Nat := [5, 2, 3, 1]

/-- The background calibration of a path's cell (R45). -/
def State.backgroundCal (s : State) (path : Nat) : State :=
  if !s.on RFC_CALCFG_BG_EN then s
  else
    let t := if path = 0 then rotation.getD (s.radio.rotA % 4) 1 else if path = 1 then rotation.getD (s.radio.rotB % 4) 1 else 1
    let c : Calibration := { type := t, target := path, slots := 0, background := true }
    ({ s with radio := { s.radio with calWait := s.radio.calWait ++ [c] } }).nextCal

/-- A CALIBRATION cell of a path (R45, R46): the held calibration of the path, or the background one; under policy
COMMAND_TEMP a marked path recalibrates (R42). -/
def State.calCell (s : State) (path : Nat) : State :=
  let s := match pathOf path with
    | some p => if s.slot.policy = 1 ∧ (s.path p).marked then s.calibrated p else s
    | none => s
  match s.radio.calHeld with
  | some c =>
    if c.target = path then
      ({ s with radio := { s.radio with calHeld := none, calWait := s.radio.calWait ++ [c] } }).nextCal
    else s.backgroundCal path
  | none => s.backgroundCal path

/-- An entry that a SHARED cell passes over: it would be eligible but for its backoff count (R173). -/
def QEntry.passOver (queue : Nat) (ctx : Option Nat) (e : QEntry) : QEntry :=
  if e.fits queue ctx && 0 < e.backoff then { e with backoff := e.backoff - 1, skip := true } else e

/-- A SHARED cell decrements the backoff counts of its entries; while the transmitter is free the entries passed over by
an earlier cell may go again. -/
def State.sharedCell (s : State) (c : Cell) (free : Bool) : State :=
  { s with mac := { s.mac with queue := s.mac.queue.map fun e =>
      (if free then { e with skip := false } else e).passOver c.queue c.ctx } }

/-- A transmission of the present slot on a channel offset, as stage 9 takes it. -/
def State.newTx (s : State) (kind : TxKind) (ctx : Option Nat) (choff : Nat) : TxUnit :=
  let n := s.hop s.slot.slotAsn choff
  { id := s.slot.nextId, stage := 9, kind := kind, asn := s.slot.slotAsn, ctx := ctx, channel := n, choff := choff,
    freq := channelFreq s.radio.mapCur n, ordinal := s.slot.txUsed + 1, power := s.txPower }

/-- The transmission joins stage 9 and takes a TX_UNITS unit. -/
def State.startTx (s : State) (u : TxUnit) : State :=
  ({ s with slot := { s.slot with tx := s.slot.tx ++ [u], nextId := s.slot.nextId + 1, txUsed := s.slot.txUsed + 1 } }).accepted 9

/-- What a cell gives the transmitter (R127 step 2, R167, R171). -/
def State.cellWork (s : State) (c : Cell) : Option TxUnit :=
  let lim := s.prog (28 + 2 * c.lenClass) 2
  let poll := s.mode == modeNode && c.kind == 3 && s.mac.pollWanted && s.parent.isSome &&
    (c.ctx.isNone || c.ctx == s.parent) && !s.slot.tx.any fun u => u.kind == .poll
  if c.kind = 4 ∧ c.beaconTx then
    some { s.newTx .beacon none c.choff with profile := s.get MAC_EBCFG_EB_PROF, lenLimit := lim }
  else if poll then
    let x := s.on MAC_STATUS_POLL_EXT
    some { s.newTx .poll s.parent c.choff with
      profile := s.get (if x then MAC_CTRL_XPROF else MAC_CTRL_POLL_PROF), extended := x, ackReq := true, noAr := false,
      secure := s.ctxFlag (s.parent.getD 0) 9, shared := true, cellAck := c.ack, lenLimit := lim }
  else if (c.kind = 1 ∨ c.kind = 3) ∧ (bestEntry c.queue c.ctx (c.kind == 3) s.mac.queue).isSome then
    some { s.newTx .data c.ctx c.choff with queue := c.queue, shared := c.kind == 3, cellAck := c.ack, lenLimit := lim }
  else none

/-- R127 step 2: the first cell with something to send takes the transmitter, unless it is `busy`; the index of that
cell. -/
def State.selectTx : Bool → Option Nat → List Cell → State → Option Nat × State
  | _, which, [], s => (which, s)
  | busy, which, c :: cs, s =>
    let s := if c.kind = 3 then s.sharedCell c (!busy) else s
    match (if busy then none else s.cellWork c) with
    | some u => State.selectTx true (some c.index) cs (s.startTx u)
    | none => State.selectTx busy which cs s

/-- A receive window for a cell of the slot (R127, R69, R70, R73, R164). -/
def State.addWindow (s : State) (ctx : Option Nat) (timekeep : Bool) (kind choff : Nat) (followUp : Bool) : State :=
  if s.mode = modeNode ∧ s.slot.calCells.contains s.nodeHalf then s
  else
    let n := s.hop s.slot.slotAsn choff
    match s.placeChannel n ctx with
    | (none, s) => s.bump CHZ_STATUS_UNMAPPED
    | (some lane, s) =>
      if s.slot.calCells.contains (lane / 64) then s
      else
        let rep := slice (s.rxProfWord (s.get (CHZ_LCFG_PROFILE (s.laneSrc lane)))) 13 2
        let g := s.effGuard ctx (kind == 3 && rep == 3)
        let here (w : RxWindow) : Bool := w.lane == lane && w.asn == s.slot.slotAsn && w.ackOf.isNone && !w.closed
        if s.slot.windows.any here then
          let peer : WinPeer := { ctx := ctx, timekeep := timekeep, gEff := g }
          let ws := updateFirst here (fun w => { w with peers := w.peers ++ [peer] }) s.slot.windows
          { s with slot := { s.slot with windows := ws } }
        else
          let w : RxWindow := { lane := lane, asn := s.slot.slotAsn, ctx := ctx, timekeep := timekeep, kind := kind, gEff := g,
                                choff := choff, freq := channelFreq s.radio.mapCur n, followUp := followUp }
          { s with slot := { s.slot with windows := s.slot.windows ++ [w] } }

/-- R42: under policy COMMAND_TEMP a marked path that has no cell in the slot recalibrates at its start. -/
def State.idleRecal (s : State) (cells : List Cell) : State :=
  if s.slot.policy ≠ 1 then s
  else
    let usesT := s.slot.calCells.contains 2 || cells.any fun c => c.kind == 1 || c.kind == 3 || (c.kind == 4 && c.beaconTx)
    let uses (h : Nat) : Bool := s.slot.calCells.contains h || s.slot.windows.any fun w => w.lane / 64 == h && !w.closed
    [(Path.a, uses 0), (.b, uses 1), (.t, usesT)].foldl (fun (s : State) x =>
      if (s.path x.1).marked && !x.2 && s.hasPath x.1 then s.calibrated x.1 else s) s

/-- Analog gain of a half at a boundary in Concentrator mode (R47), with the lanes in a frame making up for the step
(R74). -/
def State.boundaryGain (s : State) (h gain : Nat) : State :=
  let old := s.get (if h = 0 then RFC_GAIN_A_GAIN else RFC_GAIN_B_GAIN)
  let s := s.agc h gain
  let new := s.get (if h = 0 then RFC_GAIN_A_GAIN else RFC_GAIN_B_GAIN)
  if old = new then s
  else (s.halfLanes h).foldl (fun (s : State) i =>
    if s.laneState i = laneFrame then
      let d : Int := (s.get (CHZ_LSTAT_DGAIN i) : Int) - 6 * ((new : Int) - (old : Int))
      let c := if d < 0 then 0 else if 42 < d then 42 else d
      let s := s.put (CHZ_LSTAT_DGAIN i) c.toNat
      if c = d then s else s.setLane i { s.lane i with clamped := true }
    else s) s

/-- Cells are served in this slot: not in SCAN (R165), not in the partial slot after a coarse step (R225). -/
def State.serving (s : State) : Bool :=
  !(s.mode == modeNode && s.get MAC_STATUS_SYNC == syncScan) && !s.slot.partialSlot && s.running

/-- A follow-up of this device as parent (R169). -/
def State.followUpTx (s : State) : Option TxUnit :=
  match s.mac.followUp with
  | some (c, true) =>
    if s.mac.pending.any fun e => e.ctx == c && !e.busy then
      some { s.newTx .followUp (some c) s.mac.followChan with cellAck := true, ackReq := true, noAr := false }
    else none
  | _ => none

/-- The calibration cells of the slot. -/
def State.calCellsOf (s : State) (cells : List Cell) : List Nat := ((cells.filter fun c => c.kind == 5).map (·.context)).eraseDups

/-- The calibration cells start, and no other is left over. -/
def State.startCalCells (s : State) (cal : List Nat) : State :=
  cal.foldl State.calCell { s with slot := { s.slot with calCells := cal } }

/-- The windows of the slot: of a follow-up, else of the receive cells, one of them in Node mode. -/
def State.openWindows (s : State) (child : Option Nat) (rx : List Cell) : State :=
  match child with
  | some c => s.addWindow (some c) false 7 s.mac.followChan true
  | none =>
    (if s.mode = modeNode then rx.take 1 else rx).foldl (fun (s : State) c =>
      s.addWindow c.ctx c.timekeep c.kind c.choff false) s

/-- The cells of the slot are served: calibration, then one transmission, then the windows. -/
def State.serveCells (s : State) : State :=
  let cells := s.slotCells
  let cal := s.calCellsOf cells
  let s : State := s.startCalCells cal
  let fu := if cal.contains 2 then none else s.followUpTx
  let child := match s.mac.followUp with
    | some (c, false) => some c
    | _ => none
  let s : State := match fu with
    | some u => s.startTx u
    | none => s
  let (which, s) := State.selectTx (fu.isSome || cal.contains 2) none cells s
  let rx := cells.filter fun c => c.receives && some c.index != which
  (s.openWindows child rx).idleRecal cells

/-- R127, R128: the cells of the slot that begins are selected. -/
def State.selectCells (s : State) : State :=
  let held := s.radio.calHeld
  let s : State := { s with radio := { s.radio with calWait := [] }, slot := { s.slot with calCells := [] },
                            mac := { s.mac with nodeHalf := s.nodeHalf } }
  let s : State := if !s.serving then s else s.serveCells
  let s : State := { s with mac := { s.mac with followUp := none } }
  match held, s.radio.calHeld with
  | some _, some c => { s with radio := { s.radio with calHeld := some { c with slots := c.slots + 1 } } }
  | _, _ => s

/-! Stopping and mode transitions (R118, R144, R28). -/

/-- An armed STANDBY returns to CHECKED. -/
def State.disarm (s : State) : State :=
  if s.standby = sbArmed then ({ s with slot := { s.slot with armed := none } }).setStandbyState sbChecked else s

/-- A path goes to its return state (R38). -/
def State.pathReturn (s : State) (p : Path) : State :=
  match p with
  | .t => if s.airUnit.isSome then s else s.setPath .t { s.path .t with goal := some (s.get RFC_CTRL_RET_T) }
  | .a => s.setPath .a { s.path .a with goal := some (s.get RFC_CTRL_RET_A) }
  | .b => s.setPath .b { s.path .b with goal := some (s.get RFC_CTRL_RET_B) }

/-- The program ends (R118): owned paths return, ACTIVE is emptied, an armed STANDBY is CHECKED again. -/
def State.stopProgram (s : State) : State :=
  let owned := [Path.a, .b, .t].filter s.owned
  let s := { s with mac := { s.mac with nodeHalf := s.nodeHalf, followUp := none } }
  let s := owned.foldl State.pathReturn s
  let s := if s.on SLE_STATUS_ACTIVE_BUF then { s with slot := { s.slot with buf1 := [] } }
    else { s with slot := { s.slot with buf0 := [] } }
  let s := (s.flag SLE_STATUS_RUNNING false).flag SLE_STATUS_STOP_PEND false
  (({ s with slot := { s.slot with calCells := [], partialSlot := false } }).disarm).takeReserve 0

/-- Steering is no longer active: a lock is lost (R225, R226). -/
def State.steerOff (s : State) : State :=
  if s.steering then s
  else (s.flag GNS_STATUS_STEER_LOCK false).raiseIf (s.on GNS_STATUS_STEER_LOCK) 79

/-- R161, R165: TNET follows no parent any more: UNSYNCED, and what is left of the phase correction is not applied. -/
def State.unfollow (s : State) : State :=
  { s with mac := { s.mac with pendCorr := 0 } }.leaveScan syncUnsynced

/-- R28, R46, R144, R165: the mode becomes `m`: unlaunched descriptors return MODE_CHANGE, calibrations end, E7. -/
def State.enterMode (s : State) (m : Nat) : State :=
  let ds := (s.mac.queue.map (·.desc)) ++ (s.mac.pending.map (·.desc))
  let s := ds.foldl (fun (s : State) d => s.finishDesc d 0xA) s
  let s := s.abortCal
  let s := { s with slot := { s.slot with modeReq := none },
                    mac := { s.mac with pollWanted := false, followUp := none } }
  let s := s.flag MAC_STATUS_POLL_EXT false
  let s := if s.follows then s.unfollow else s.leaveScan syncUnsynced
  let s := ((s.put PRC_MODE_PREV s.mode).put PRC_MODE_MODE m).flag PRC_MODE_PENDING false
  let s := if s.follows && s.parent.isSome then s.enterScan else s
  (s.disarm.steerOff).raise 7

/-- A core-side tag write runs (R417). -/
def State.tagCoreBusy (s : State) : Bool :=
  match s.tag.write with
  | some w => decide (w.side = .core)
  | none => false

/-- The transmitter is in its return state and no lane is in FRAME (R450). -/
def State.radioQuiet (s : State) : Bool :=
  s.airUnit.isNone && decide (s.get RFC_STATE_STATE_T = s.get RFC_CTRL_RET_T) &&
  (List.range 128).all fun i => decide (s.laneState i ≠ laneFrame)

/-- R450, R452: a pending entry to Sleep takes effect at this boundary. -/
def State.sleepReady (s : State) : Bool :=
  s.on PRC_PWRSTAT_PENDING && decide (s.power.target = .sleep) && s.radioQuiet && !s.tagCoreBusy

/-- Whether the slot that begins is the one at whose boundary a pending entry to Sleep takes effect. -/
def State.markBoundary (s : State) (b : Bool) : State := { s with power := { s.power with atBoundary := b } }

/-- NEW_ASN of an armed swap that is due at the boundary into slot `asn` (R143); a STOP goes before it. -/
def State.dueSwap (s : State) (asn : Nat) (stop : Bool) : Option Nat :=
  match s.slot.armed with
  | some (at_, new) => if at_ = asn ∧ s.standby = sbArmed ∧ !stop then some new else none
  | none => none

/-- The swap takes place: the new ASN origin, the buffers exchanged, the first slot of the new program (R143). -/
def State.swapIn (s : State) (new : Nat) : State :=
  let o := s.tnet - new * bufNum s.standbyBuf 16 4
  (((s.setObj 0x401000 (leBytes 8 o)).persist 0x401000 (leBytes 8 o)).swapBuffers sbChecked).beginSlot new

/-- Steps 1 to 3 of R137: the units of the ended slot, the next slot or program, staged changes. -/
def State.turnSlot (s : State) (stop toMode : Bool) : State :=
  let s := s.reachBoundary
  let asn := (s.slot.slotAsn + 1) % 2 ^ 40
  let swap := s.dueSwap asn stop
  let straddle := if stop then 0 else if swap.isSome then bufNum s.standbyBuf 27 1 else s.prog 27 1
  let s := s.endUnits straddle toMode
  let s := match swap with
    | some new => s.swapIn new
    | none => s.beginSlot asn
  (s.takeCoarse).takeStaged.stepThree

/-- The stop of R118, and the mode transition that asked for it (R28). -/
def State.stopAt (s : State) : State :=
  match s.slot.modeReq with
  | some m => s.stopProgram.enterMode m
  | none => s.stopProgram

/-- The slot's cells are selected (R127). -/
def State.fillSlot (s : State) (gainA gainB : Nat) : State :=
  (if s.mode = modeConc then (s.boundaryGain 0 gainA).boundaryGain 1 gainB else s).selectCells

/-- R137: a slot boundary of the running program. In Sleep, and where Sleep begins, the slot has no cells (R450). -/
def State.boundary (s : State) (gainA gainB : Nat) : State :=
  let stop := s.on SLE_STATUS_STOP_PEND
  let s := s.turnSlot stop (s.slot.modeReq.isSome && stop)
  if stop then s.stopAt
  else if s.power.state = .sleep then s
  else if s.sleepReady then s.markBoundary true
  else (s.markBoundary false).fillSlot gainA gainB

end Sys2Proof.Machine
end

