-- ==== Sys2Proof/Machine/Mac.lean ====
section
/-! DEFINITION. The commands of the medium access functions (spec/06_medium_access.md): contexts, acknowledgements,
synchronisation states, queues, the delivery ring. -/
namespace Sys2Proof.Machine

/-! Contexts (R155). -/

/-- A context WRITE or DELETE is staged: BUSY until the next boundary, or it applies at once with no program. -/
def State.stageContext (s : State) (c : CtxStage) : State :=
  if s.on MAC_CTXSTAT_BUSY then s.flag MAC_CTXSTAT_REJ true
  else
    let s := { s with mac := { s.mac with staged := some c } }
    let s := (s.flag MAC_CTXSTAT_REJ false).flag MAC_CTXSTAT_BUSY true
    if s.running then s else s.applyContext

def execContextWrite (index : Fin 1024) (s : State) : Host.Outcome State Fault Refusal :=
  goOn (s.stageContext { index := index, delete := false, image := s.mac.ctxBuf })

/-- R180: READ copies a context into MAC_CTXBUF at once. -/
def execContextRead (index : Fin 1024) (s : State) : Host.Outcome State Fault Refusal :=
  if s.on MAC_CTXSTAT_BUSY then goOn (s.flag MAC_CTXSTAT_REJ true)
  else goOn ({ s with mac := { s.mac with ctxBuf := s.bytes (ctxAddr index) 64 } }.flag MAC_CTXSTAT_REJ false)

def execContextDelete (index : Fin 1024) (s : State) : Host.Outcome State Fault Refusal :=
  goOn (s.stageContext { index := index, delete := true, image := [] })

/-! Acknowledgements (R493, R173, R169). -/

/-- The acknowledgement window that awaits an answer on a lane. -/
def State.ackWindow (s : State) (lane : Nat) : Option (RxWindow × TxUnit) :=
  match s.slot.windows.find? fun w => w.lane == s.laneSrc lane && w.isOpen && w.ackOf.isSome with
  | none => none
  | some w => (w.ackOf.bind s.txUnit).map fun u => (w, u)

/-- The window closes and its lanes rest. -/
def State.dropAckWindow (s : State) (w : RxWindow) : State :=
  let s := { s with slot := { s.slot with windows := s.slot.windows.filter (· != w), onAir := none } }
  (s.windowLanes w.lane).foldl State.closeLane s

/-- The received acknowledgement as a unit of its context, and what it is on the security checks of R199. -/
def ackUnit (u : TxUnit) (lane : Nat) (h : MacHeader) (frame : List Byte) (tSfd : Nat) (rssi offset : Int) : RxUnit :=
  { id := u.id, stage := 6, asn := u.asn, ctx := u.ctx, psdu := frame, fcsLen := 0, length := frame.length, hdr := h,
    det := { place := lane, profile := 0, sync := .nativeUncoded, errs := 0, tSfd := tSfd, rssi := rssi, offset := offset,
             dgain := 0, fdx := false, profWord := 0, scan := false, ackWin := true } }

/-- The context's updates by an acknowledgement (R493): MISS, HEARD_ASN, offset, and the time sample of R160. -/
def State.ackUpdates (s : State) (c : Nat) (r : RxUnit) : State :=
  let adrift := s.isParent c && s.get MAC_STATUS_SYNC == syncAdrift
  let s := ((s.setMiss c 0).setCtx c 40 5 r.asn).foldOffset c r.det.offset
  let s := match r.hdr.timeCorr with
    | some v => s.timeSample c r.det.tSfd (signed 12 v * 100) adrift true
    | none => s
  if adrift then s.synced else s

/-- The attempt ends acknowledged: a poll may open the child's follow-up window, a follow-up may be followed by the next
(R169). -/
def State.acked (s : State) (u : TxUnit) (h : MacHeader) : State :=
  let s := match u.desc, h.timeCorr with
    | some d, some v => s.setDesc d 14 2 (unsigned 16 (signed 12 v))
    | _, _ => s
  match u.kind with
  | .poll =>
    let s := ({ s.removeTx u.id with mac := { s.mac with pollWanted := false } }).flag MAC_STATUS_POLL_EXT false
    match u.ctx with
    | some c => if h.pending then s.scheduleFollowUp c false u.choff else s
    | none => s
  | .followUp =>
    let more := bit (leAt u.octets 0 2) 4
    let s := s.endTx u 1
    match u.ctx with
    | some c => if more then s.scheduleFollowUp c true u.choff else s
    | none => s
  | _ => s.endTx u 1

/-- The acknowledgement of the frame that awaits one: ACKRX, TXDONE (R394, R395). -/
def State.lgyAcked (s : State) (p : LgyPayload) : State :=
  match s.lgyUnit .data with
  | none => s
  | some u =>
    if u.phase ≠ .ackWait ∨ p.seq ≠ u.seq ∨ p.dst ≠ s.lgyOwn then s
    else
      let ws := s.slot.windows.filter fun w => w.ackOf == some u.id
      let s := ws.foldl (fun (s : State) w => s.dropAckWindow w) s
      (s.lgyFlag 20).endTx u 1

/-- R493: an acknowledgement arrives in an acknowledgement window. One with another sequence number, a failed FCS or a
failed MIC is as not received: the window runs on. In Compatibility mode the frame is the payload of a legacy one (R394). -/
def execAckReceived (lane : Fin 128) (frame : List Byte) (fcsOk : Bool) (tSfd : Nat) (rssi offset : Int) (s : State) :
    Host.Outcome State Fault Refusal :=
  if s.mode = modeCompat then goOn (match parseLegacy frame with
    | some p => if fcsOk ∧ p.type = 1 ∧ p.netid = s.lgyNetid then s.lgyAcked p else s
    | none => s)
  else match s.ackWindow lane, parseHeader frame with
  | some (w, u), some h =>
    if !fcsOk ∨ h.frameType ≠ 2 ∨ h.iesBad ∨ h.seq ≠ some (u.seq) then goOn s
    else
      let r := ackUnit u lane h frame tSfd rssi offset
      let (good, s) := match u.ctx with
        | some c =>
          if !h.secured then (true, s)
          else match s.secureRx c r with
          | (.pass q, s) => (q.verified, s)
          | (.drop, s) => (false, s)
        | none => (!h.secured, s)
      if !good then goOn s
      else
        let s := s.dropAckWindow w
        let s := match u.ctx with
          | some c => s.ackUpdates c r
          | none => s
        goOn (s.acked u h)
  | _, _ => goOn s

/-- R173: an acknowledgement window closes empty: the attempt ends without acknowledgement. -/
def execAckWindowClose (lane : Fin 128) (s : State) : Host.Outcome State Fault Refusal :=
  match s.ackWindow lane with
  | none => goOn s
  | some (w, u) => goOn ((s.dropAckWindow w).noAck u)

/-! Synchronisation states (R165, R166, R167). -/

/-- R165: MISS of the active time parent has reached 3 in SYNCED: ADRIFT, E60. -/
def execAdriftEntry (s : State) : Host.Outcome State Fault Refusal :=
  match s.parent with
  | none => goOn s
  | some c =>
    if s.follows ∧ s.get MAC_STATUS_SYNC = syncSynced ∧ 3 ≤ s.ctxMiss c then goOn ((s.put MAC_STATUS_SYNC syncAdrift).raise 60)
    else goOn s

/-- R165: ADRIFT_TO seconds have passed in ADRIFT: SCAN. -/
def execAdriftTimeout (s : State) : Host.Outcome State Fault Refusal :=
  if s.follows ∧ s.get MAC_STATUS_SYNC = syncAdrift then goOn s.enterScan else goOn s

/-- R166: the dwell on a centre ends and the half retunes to the next one. -/
def execScanDwellEnd (s : State) : Host.Outcome State Fault Refusal :=
  if s.mode ≠ modeNode ∨ s.get MAC_STATUS_SYNC ≠ syncScan then goOn s
  else goOn (s.scanStep (if s.mac.scanK < s.scanLast then s.mac.scanK + 1 else 0))

/-- R165: the SCAN command. Outside Node mode a command is ignored (MAC_SYNCCMD); with TSRC = 1 no transition is made. -/
def execSyncScan (s : State) : Host.Outcome State Fault Refusal := if s.follows then goOn s.enterScan else goOn s

/-- R165: the STOP command enters UNSYNCED. -/
def execSyncStop (s : State) : Host.Outcome State Fault Refusal :=
  if s.follows then goOn (s.leaveScan syncUnsynced) else goOn s

/-- R167: a poll of the active time parent is wanted in Node mode; one that is outstanding makes the command ignored. -/
def State.wantPoll (s : State) : State :=
  if s.mode = modeNode ∧ s.parent.isSome then { s with mac := { s.mac with pollWanted := true } } else s

def execSyncPoll (s : State) : Host.Outcome State Fault Refusal := goOn s.wantPoll

/-! Queues and the completion FIFO (R170, R171, R177). -/

/-- The reasons for which a push is refused with INVALID (R177). -/
def State.pushInvalid (s : State) (i : Nat) : Bool :=
  let ctx := s.desc i 2 2
  let ctrl := s.desc i 9 1
  let q := s.desc i 8 1
  let data := s.desc i 4 4
  i < s.get MAC_FBCFG_DQ_SIZE || data < 0x24030000 + 64 * s.get MAC_FBCFG_RX_BLOCKS || 0x24090000 < data + s.desc i 0 2 ||
  64 ≤ ctrl || 8 ≤ s.desc i 10 1 || (15 < q && q != 0xFE) || (1023 < ctx && ctx != 0xFFFF) || (bit ctrl 4 && ctx == 0xFFFF)

/-- R177, R170: a transmit descriptor is submitted: to its queue, or to the indirect store of its context. -/
def execTxPush (index : Fin 4096) (s : State) : Host.Outcome State Fault Refusal :=
  let i := index.val
  let ctx := s.desc i 2 2
  if s.pushInvalid i then goOn (s.txDone i 0xF)
  else
    let s := ((s.setDesc i 16 1 0).setDesc i 17 1 0).setDesc i 14 2 0x8000
    if s.desc i 8 1 = 0xFE then
      if ctx = 0xFFFF ∨ !s.ctxFlag ctx 2 then goOn (s.txDone i 0xF)
      else
        let mine := (s.mac.pending.filter fun e => e.ctx == ctx).length
        if 4 ≤ mine ∨ 2048 ≤ s.mac.pending.length then goOn (s.txDone i 0xC)
        else
          let e : PendEntry := { desc := i, ctx := ctx, since := s.clock }
          goOn (({ s with mac := { s.mac with pending := s.mac.pending ++ [e] } }).setPending ctx (mine + 1))
    else
      let e : QEntry := { desc := i, ctx := ctx, queue := s.desc i 8 1, cls := slice (s.desc i 9 1) 0 2 }
      goOn { s with mac := { s.mac with queue := s.mac.queue ++ [e] } }

/-- R180: MAC_TXDONEPOP removes the oldest completion. -/
def execTxDonePop (s : State) : Host.Outcome State Fault Refusal :=
  goOn { s with mac := { s.mac with txDone := s.mac.txDone.drop 1 } }

/-- R180: FLUSH completes the waiting entries of a queue with FLUSHED. -/
def execQueueFlush (queue : Fin 16) (s : State) : Host.Outcome State Fault Refusal :=
  let ds := s.mac.queue.filterMap fun e => if e.queue = queue.val ∧ !e.busy then some e.desc else none
  goOn (ds.foldl (fun (s : State) d => s.finishDesc d 0x10) s)

/-- R170: FLUSH_PENDING completes every pending frame with FLUSHED. -/
def execFlushPending (s : State) : Host.Outcome State Fault Refusal :=
  let ds := s.mac.pending.filterMap fun e => if e.busy then none else some e.desc
  goOn (ds.foldl (fun (s : State) d => s.finishDesc d 0x10) s)

/-! The delivery ring (R174, R175). -/

/-- R175: a write of RD releases the entries before it with their blocks; outside the occupied entries it is ignored. -/
def execDqRelease (rd : Nat) (s : State) : Host.Outcome State Fault Refusal :=
  let n := s.get MAC_FBCFG_DQ_SIZE
  let k := (rd + n - s.get MAC_DQ_RD) % n
  if n ≤ rd ∨ s.dqLevel < k then goOn s
  else goOn ({ s with mac := { s.mac with dqBlocks := s.mac.dqBlocks.drop k } }.put MAC_DQ_RD rd)

/-- R174: a write of MAC_FBCFG is accepted with no program running, the ring empty and no descriptor waiting, pending or on
the air; else it is ignored with CFG_REJ. A locked block ignores it. -/
def execFbcfgWrite (value : Word) (s : State) : Host.Outcome State Fault Refusal :=
  let dq := slice value.toNat 0 13
  let rx := slice value.toNat 16 13
  if s.on MAC_LOCK_LOCK then goOn s
  else if s.running ∨ s.dqLevel ≠ 0 ∨ !s.mac.queue.isEmpty ∨ !s.mac.pending.isEmpty ∨ s.slot.tx.any (fun u => u.desc.isSome) then
    goOn (s.put MAC_FBCFG_CFG_REJ 1)
  else
    let s := if 64 ≤ dq ∧ dq ≤ 4032 then s.put MAC_FBCFG_DQ_SIZE dq else s
    let s := if 512 ≤ rx ∧ rx ≤ 5632 then s.put MAC_FBCFG_RX_BLOCKS rx else s
    let s := { s with mac := { s.mac with rxBlock := 0, dqBlocks := [] } }
    goOn (((s.put MAC_FBCFG_CFG_REJ 0).put MAC_DQ_RD 0).put MAC_DQ_WR 0)

end Sys2Proof.Machine
end

