-- ==== Sys2Proof/Machine/TxPath.lean ====
section
/-! DEFINITION. The commands of the transmit path (spec/04_transmit_path.md): profiles, the ramp, the first symbol, the
end of a transmission and the spectral mask monitor. -/
namespace Sys2Proof.Machine

/-- R98: a write of TXP_PROFn; one that breaks a restriction is ignored whole and sets PROF_ERR. Core writes are ignored in
Compatibility mode. -/
def execTxProfileWrite (index : Fin 4) (value : Word) (s : State) : Host.Outcome State Fault Refusal :=
  if s.mode = modeCompat then goOn s
  else if !txProfOk value.toNat then goOn (s.flag TXP_STATUS_PROF_ERR true)
  else goOn ((s.flag TXP_STATUS_PROF_ERR false).loadFields (txProfFields index) value.toNat)

/-- SHARED_A arrangement: the T/R switch moves with each transmission (R37). -/
def State.sharedA (s : State) : Bool := !s.on RFC_CTRL_ANT_CFG

/-- The lines of R113 move to their transmit positions. -/
def State.linesOut (s : State) : State :=
  let s := { s with radio := { s.radio with extPaEn := true } }
  if s.sharedA then (({ s with radio := { s.radio with extTr := true, extLnaA := false } }).flag RFC_STATE_TRSW true).enter .t 6 else s

/-- Counts of a transmission that enters TX_RAMP: TXCOUNT and LAST_MASK, TX_COUNT of its context, ATTEMPTS of its
descriptor (R116, R154, R177). -/
def State.rampCounts (s : State) (u : TxUnit) : State :=
  let s : State := (s.bumpWrap TXP_STATUS_TXCOUNT).put TXP_STATUS_LAST_MASK 0
  let s : State := match u.ctx with
    | some c => s.setCtx c 52 2 (s.ctx c 52 2 + 1)
    | none => s
  let s : State := match u.desc with
    | some d => s.setDesc d 17 1 (satInc 8 (s.desc d 17 1))
    | none => s
  if u.kind = .test ∧ s.radio.test.op = 3 then
    { s with radio := { s.radio with test := { s.radio.test with record := recBump s.radio.test.record 4 } } }
  else s

/-- R114, R113, R109, R58, R92: a locked transmission enters TX_RAMP: the lines move, a custom ramp's table is checked,
the duty account is charged and the leakage cancellers take their coefficient sets. -/
def execTxRampStart (s : State) : Host.Outcome State Fault Refusal :=
  match s.airUnit with
  | none => goOn s
  | some u =>
    if u.phase ≠ .locked then goOn s
    else
      let s := s.linesOut
      let s := s.enter .t 4
      let s := if slice u.rupWord 16 2 = 2 then s.flag TXP_STATUS_RAMP_ERR (!rampTableOk u.rtab) else s
      let s := match u.group with
        | some g => s.charge g s.radio.second (divUp u.planned 10000)
        | none => s
      let s := s.rampCounts u
      let s := s.setTx { u with phase := .ramp, used := s.clock, rampSecond := s.radio.second }
      goOn ((s.leakStart 0).leakStart 1)

/-- R104, R37: the ramp is complete and the first symbol leaves: E22; T_TX and the ASN go to the descriptor (R177). -/
def execTxFirstSymbol (s : State) : Host.Outcome State Fault Refusal :=
  match s.airUnit with
  | none => goOn s
  | some u =>
    if u.phase ≠ .ramp then goOn s
    else
      let s := (s.enter .t 5).raise 22
      let s := match u.desc with
        | some d => ((s.setDesc d 20 8 s.tnet).setDesc d 18 1 (u.asn / 2 ^ 32)).setDesc d 28 4 (u.asn % 2 ^ 32)
        | none => s
      let s := if u.kind = .legacy ∧ u.fresh then s.lgyTake 1 else s
      goOn (s.setTx { u with phase := .tx, tTx := s.tnet })

/-- R37: the last symbol ends and the ramp-down starts. A legacy frame has no last symbol while data octets are owed. -/
def execTxEnd (s : State) : Host.Outcome State Fault Refusal :=
  match s.airUnit with
  | none => goOn s
  | some u => if u.phase ≠ .tx ∨ u.owed ≠ 0 then goOn s else goOn ((s.enter .t 6).setTx { u with phase := .rampDown })

/-- R127 step 5, R149: the acknowledgement window of a transmission opens on the lane of its own channel; where none can
open (R70, R127 step 1) the attempt ends without acknowledgement. -/
def State.awaitAck (s : State) (u : TxUnit) : State :=
  match s.placeChannel u.channel u.ctx with
  | (none, s) => (s.bump CHZ_STATUS_UNMAPPED).noAck u
  | (some lane, s) =>
    if s.slot.calCells.contains (lane / 64) then s.noAck u
    else if !s.laneEn lane then (s.bump CHZ_STATUS_UNMAPPED).noAck u
    else
      let w : RxWindow := { lane := lane, asn := u.asn, ctx := u.ctx, timekeep := false, kind := 6, gEff := s.tmplAW, isOpen := true,
                            ackOf := some u.id }
      let s := { s with slot := { s.slot with windows := s.slot.windows ++ [w], onAir := some u.id } }
      let s := s.setTx { u with phase := .ackWait }
      (s.windowLanes lane).foldl (State.openLane s.winFrames) s

/-- R394: a legacy frame awaits its acknowledgement on the lane of its channel, which searches until the window closes. -/
def State.lgyAwaitAck (s : State) (u : TxUnit) : State :=
  let s := s.setTx { u with phase := .ackWait }
  match s.lgy.lanes.getD u.choff none with
  | none => s
  | some j =>
    if (s.windowOf j).isSome then s
    else
      let w : RxWindow := { lane := j, ctx := u.ctx, timekeep := false, kind := 6, gEff := 0, isOpen := true, ackOf := some u.id,
                            choff := u.choff, freq := u.freq }
      ({ s with slot := { s.slot with windows := s.slot.windows ++ [w] } }).openLane s.winFrames j

/-- What follows a transmission that ended as it should: a wait for its acknowledgement, an attempt without one, or
completion OK (R127, R173). -/
def State.afterAir (s : State) (u : TxUnit) : State :=
  match u.kind with
  | .test => s.removeTx u.id
  | .legacy => if u.noAr then s.endTx u 1 else s.lgyAwaitAck u
  | _ =>
    if u.noAr then s.endTx u 1
    else if u.cellAck then s.awaitAck u else s.noAck u

/-- R108, R37, R48, R58: the ramp-down ends: E23, lines and switch return, the group's MIN_OFF time starts, and an aborted
transmission pays for the time spent and completes with its status. -/
def execRampDownEnd (s : State) : Host.Outcome State Fault Refusal :=
  match s.airUnit with
  | none =>
    if s.get RFC_STATE_STATE_T = 6 then goOn ((s.raise 23).txReturn) else goOn s
  | some u =>
    if u.phase ≠ .rampDown then goOn s
    else
      let s := (s.raise 23).txReturn
      let s := match u.group with
        | some g => s.setDuty g { s.duty g with lastEnd := some s.clock }
        | none => s
      let s := if u.aborted then s.chargeActual u else s
      goOn (if u.kind = .test then ((s.removeTx u.id).enter .t 1).testFrameEnded u
        else if u.aborted then s.endTx u u.status else s.afterAir u)

/-- Some averaged bin beyond the first breakpoint exceeds the limit at its offset (R110, R111). `levels` are the 256 bins
relative to the reference power in units of −0.5 dB, bin i at (i − 128) × 25 kHz from the carrier. -/
def maskExceeded (mask : List (Nat × Nat)) (levels : List Int) : Bool :=
  (List.range 256).any fun i =>
    let off := 25 * ((i : Int) - 128).natAbs
    match mask, levels[i]? with
    | (o, _) :: _, some l =>
      let (num, den) := maskLimit mask off
      decide (o < off) && decide (l * (den : Int) < (num : Int))
    | _, _ => false

/-- R110, R112: a periodogram of the transmission on the air ends. An averaged bin above its limit forces the ramp-down:
E27, ABORTS, LAST_MASK; the frame completes with MASK. -/
def execMaskPeriodogram (levels : List Int) (s : State) : Host.Outcome State Fault Refusal :=
  match s.airUnit with
  | none => goOn s
  | some u =>
    if (u.phase ≠ .ramp ∧ u.phase ≠ .tx ∧ u.phase ≠ .rampDown) ∨ u.aborted ∨ !maskExceeded u.mask levels then goOn s
    else
      let s := ((s.raise 27).put TXP_STATUS_LAST_MASK 1).bump TXP_STATUS_ABORTS
      if u.phase = .rampDown then goOn (s.setTx { u with aborted := true, status := 7 })
      else goOn (s.forceRampDown 7)

end Sys2Proof.Machine
end

