-- ==== Sys2Proof/Machine/Legacy.lean ====
section
/-! DEFINITION. The compatibility engine (spec/16_er418_compatibility.md): the ER-418 register map, its commands, the
legacy slot, frames and beacons, and the native unlock. -/
namespace Sys2Proof.Machine

/-! The register map as it reads (R383, R386, R387). -/

/-- Contexts 0 to 249 with VALID = 1. -/
def State.lgyContexts (s : State) : Nat := ((List.range 250).filter fun i => s.ctxFlag i 0).length

/-- LGY_STATUS. -/
def State.lgyStatus (s : State) : Nat :=
  ofBool s.lgyIrq + 2 * ofBool (!s.lgy.rx.isEmpty) + 4 * ofBool s.lgy.tx.isEmpty + 8 * ofBool s.lgySynced +
  16 * ofBool s.lgy.frame.isSome + 32 * ofBool s.lgy.cmd.isSome + 64 * ofBool s.lgy.run + 128 * ofBool s.lgy.rxOvf

/-- LGY_STATE: CAL, TX, ACKWAIT, RETUNE, RX, IDLE, in this order of precedence (log entry 60). -/
def State.lgyState (s : State) : Nat :=
  if s.radio.calib.isSome then 4
  else if s.slot.tx.any TxUnit.onAir then 2
  else if s.slot.tx.any (fun u => u.phase == .ackWait) then 3
  else if (s.halfLanes 0).any (fun i => (s.lane i).blankRetune) then 5
  else if (s.halfLanes 0).any (fun i => (s.lane i).window) then 1
  else 0

/-- The map addresses that show one register's fields. -/
def lgyTable : List (Nat × List RegField) :=
  [(0x15, [LGY_RXLEV_H_LEVEL]),
   (0x16, [LGY_RXTHR_THR]),
   (0x19, [LGY_TXLEV_H_LEVEL]),
   (0x1A, [LGY_TXTHR_THR]),
   (0x1B, [LGY_RSSI_RSSI]),
   (0x1C, [LGY_RXINFO_CH, LGY_RXINFO_ACKSENT, LGY_RXINFO_NOCTX]),
   (0x1D, [LGY_FOFF_FOFF]),
   (0x1E, [LGY_RSSITHR_RSSI]),
   (0x28, [LGY_HOPLEN_LEN]),
   (0x29, [LGY_HOPIDX_IDX]),
   (0x2A, [LGY_HOPDAT_N]),
   (0x2B, [LGY_BASEF0_F]),
   (0x2C, [LGY_BASEF1_F]),
   (0x2D, [LGY_BASEF2_F]),
   (0x2E, [LGY_SPACING_SP]),
   (0x2F, [LGY_PHYCFG_RATE]),
   (0x31, [LGY_SLOTCNT_H_COUNT]),
   (0x32, [LGY_SLOTCTL_RUN, LGY_SLOTCTL_MASTER]),
   (0x33, [LGY_TXOFF_T]),
   (0x34, [LGY_ACKDLY_T]),
   (0x35, [LGY_BCNPER_PER]),
   (0x36, [LGY_TXCFG_ACKREQ, LGY_TXCFG_RETRIES, LGY_TXCFG_CH]),
   (0x37, [LGY_TXPWR_PWR]),
   (0x38, [LGY_TXDST_CTX]),
   (0x39, [LGY_CTXIDX_IDX]),
   (0x43, [LGY_LASTCTX_VALUE]),
   (0x44, [LGY_LASTSEQ_VALUE])]

/-- The fields of a plain register at a map address, in whose bits it reads. -/
def lgyPlain (a : Nat) : List RegField :=
  if 0x01 ≤ a ∧ a ≤ 0x08 then [LGY_IRQF_FLAGS (a - 1)]
  else if 0x09 ≤ a ∧ a ≤ 0x10 then [LGY_IRQEN_EN (a - 9)]
  else if 0x20 ≤ a ∧ a ≤ 0x27 then [LGY_CHCFG_CHOFF (a - 0x20), LGY_CHCFG_EN (a - 0x20)]
  else if 0x3A ≤ a ∧ a ≤ 0x41 then [LGY_CTXDAT_VALUE (a - 0x3A)]
  else if 0x45 ≤ a ∧ a ≤ 0x48 then [LGY_OWNADDR_VALUE (a - 0x45)]
  else if 0x49 ≤ a ∧ a ≤ 0x4A then [LGY_NETID_VALUE (a - 0x49)]
  else if 0x4B ≤ a ∧ a ≤ 0x4E then [LGY_SYNCW_WORD (a - 0x4B)]
  else match lgyTable.find? fun e => e.1 == a with
  | some e => e.2
  | none => []

/-- The value of the register at map address `a`, without side effects: as core 0 reads it (R383). After the native unlock
the block reads 0. -/
def State.lgyView (s : State) (a : Nat) : Nat :=
  if !s.lgyLive then 0
  else match a with
  | 0x00 => s.lgyStatus
  | 0x12 => s.lgyState
  | 0x13 => (s.lgy.rx.head?.map BitVec.toNat).getD 0
  | 0x14 => s.lgy.rx.length % 256
  | 0x18 => s.lgy.tx.length % 256
  | 0x2B => s.lgy.base % 256
  | 0x2C => s.lgy.base / 256 % 256
  | 0x2D => s.lgy.base / 65536
  | 0x30 => s.lgy.count % 256
  | 0x42 => s.lgyContexts
  | 0x4F => unsigned 8 (Int.tdiv (signed 12 (s.get RFC_TEMP_TEMP)) 4)
  | 0x7C => 0x41
  | 0x7D => 0x23
  | _ => s.fieldsWord (lgyPlain a)

/-! Reads with their side effects (R387, R389). -/

/-- A read of LGY_STATUS clears all 64 flags and RXOVF (R389). -/
def State.lgyClearAll (s : State) : State :=
  let s := (List.range 8).foldl (fun (s : State) n => s.put (LGY_IRQF_FLAGS n) 0) s
  ({ s with lgy := { s.lgy with rxOvf := false } }).settleNirq

/-- What reading the register at `a` over SPI changes. -/
def State.lgyReadEffect (s : State) (a : Nat) : State :=
  match a with
  | 0x00 => s.lgyClearAll
  | 0x13 => { s with lgy := { s.lgy with rx := s.lgy.rx.drop 1 } }
  | 0x14 => s.put LGY_RXLEV_H_LEVEL (s.lgy.rx.length / 256)
  | 0x18 => s.put LGY_TXLEV_H_LEVEL (s.lgy.tx.length / 256)
  | 0x30 => s.put LGY_SLOTCNT_H_COUNT (s.lgy.count / 256)
  | _ => s

/-- An SPI read of the register at `a`: its value and the state after it. -/
def State.lgyRead (s : State) (a : Nat) : Nat × State :=
  if s.lgyLive then (s.lgyView a, s.lgyReadEffect a) else (0, s)

/-- An SPI read as a command of its own: the value goes to the host. -/
def State.lgyReadOut (s : State) (a : Nat) : State :=
  let (v, s) := s.lgyRead a
  { s with host := { s.host with readData := v, output := leBytes 1 v } }

def execLgyStatusRead (s : State) : Host.Outcome State Fault Refusal := goOn (s.lgyReadOut 0x00)
def execRxfifoRead (s : State) : Host.Outcome State Fault Refusal := goOn (s.lgyReadOut 0x13)
def execRxlevLRead (s : State) : Host.Outcome State Fault Refusal := goOn (s.lgyReadOut 0x14)
def execTxlevLRead (s : State) : Host.Outcome State Fault Refusal := goOn (s.lgyReadOut 0x18)
def execSlotcntLRead (s : State) : Host.Outcome State Fault Refusal := goOn (s.lgyReadOut 0x30)

/-! Commands (R391). -/

/-- A unit of the engine that has not reached the air leaves the pipeline; one that has locked gives the transmitter back. -/
def State.lgyUnlaunch (s : State) (u : TxUnit) : State :=
  match u.phase with
  | .pipeline => s.removeTx u.id
  | .locked => s.txReturn.removeTx u.id
  | _ => s

/-- The frame's first attempt, still before its air time, ends: its DLEN byte is gone. -/
def State.lgyRecall (s : State) : State :=
  match s.lgyUnit .data with
  | some u => if u.phase = .pipeline ∨ u.phase = .locked then (s.lgyUnlaunch u).lgyBack u else s
  | none => s

/-- The frame of TX_START is on the air. -/
def State.lgyFrameOnAir (s : State) : Bool := (s.lgyUnit .data).any TxUnit.onAir

/-- TX_START arms the frame (R391). A frame that waits for its first attempt is armed anew. -/
def State.lgyArm (s : State) : State :=
  match s.lgy.frame with
  | none => { s with lgy := { s.lgy with frame := some { armedAt := s.tnet } } }
  | some f => if f.started then s else { s with lgy := { s.lgy with frame := some { f with armedAt := s.tnet } } }

/-- TX_ABORT drops an armed frame; one on the air, or whose acknowledgement is awaited, makes no further attempt. -/
def State.lgyAbort (s : State) : State :=
  match s.lgy.frame with
  | none => s
  | some f =>
    if (s.lgyUnit .data).any fun u => u.onAir || u.phase == .ackWait then
      { s with lgy := { s.lgy with frame := some { f with aborted := true } } }
    else s.lgyRecall.lgyDrop

/-- LGY_RSSI of a level in 0.25 dB units (R389). -/
def lgyRssi (q : Int) : Nat := let v := (q + 592) / 2; if v < 0 then 0 else if 255 < v then 255 else v.toNat

/-- LGY_FOFF of an offset in 10 Hz units (R387). -/
def lgyFoff (o : Int) : Nat := unsigned 8 (clampInt 127 (Int.tdiv o 100))

/-- CTX_WRITE (R391, R387): the context takes ADDR and VALID, everything else of it is 0. CTXFULL where all 250 are valid. -/
def State.lgyCtxWrite (s : State) : State :=
  let i := s.get LGY_CTXIDX_IDX
  let s := if s.lgyContexts = 250 then s.lgyFlag 40 else s
  let addr := (List.range 4).map fun k => BitVec.ofNat 8 (s.get (LGY_CTXDAT_VALUE k))
  let s := (((s.zeroBytes (ctxAddr i) 64).setBytes (ctxAddr i) addr)).setCtx i 10 2 (s.get (LGY_CTXDAT_VALUE 4) % 2)
  [5, 6, 7].foldl (fun (s : State) k => s.put (LGY_CTXDAT_VALUE k) 0) s

/-- CTX_READ (R391, R387): ADDR, VALID, LASTSEQ, and RSSI average and offset in the units of LGY_RSSI and LGY_FOFF. -/
def State.lgyCtxRead (s : State) : State :=
  let i := s.get LGY_CTXIDX_IDX
  let s := (List.range 4).foldl (fun (s : State) k => s.put (LGY_CTXDAT_VALUE k) (s.ctx i k 1)) s
  let s := (s.put (LGY_CTXDAT_VALUE 4) (ofBool (s.ctxFlag i 0))).put (LGY_CTXDAT_VALUE 5) (s.ctx i 15 1)
  let s := s.put (LGY_CTXDAT_VALUE 6) (if s.ctxFlag i 12 then lgyRssi (signed 16 (s.ctx i 48 2)) else 0)
  s.put (LGY_CTXDAT_VALUE 7) (if s.ctxFlag i 3 then lgyFoff (signed 16 (s.ctx i 46 2)) else 0)

/-- LGY_HOPIDX moves on, wrapping at 63 to 0. -/
def State.lgyNextHop (s : State) : State := s.put LGY_HOPIDX_IDX ((s.get LGY_HOPIDX_IDX + 1) % 64)

def State.lgyHopWrite (s : State) : State :=
  let h := setAt s.lgy.hop (s.get LGY_HOPIDX_IDX) (s.get LGY_HOPDAT_N)
  ({ s with lgy := { s.lgy with hop := h } }).lgyNextHop

def State.lgyHopRead (s : State) : State :=
  (s.put LGY_HOPDAT_N (s.lgy.hop.getD (s.get LGY_HOPIDX_IDX) 0)).lgyNextHop

/-- CAL: synthesiser, DC and IQ calibration of half A and the synthesiser of the transmitter (R44, R391). -/
def State.lgyCal (s : State) : State :=
  let c (type target : Nat) : Calibration := { type := type, target := target, slots := 0, background := false }
  ({ s with radio := { s.radio with calWait := s.radio.calWait ++ [c 1 0, c 5 0, c 1 2] } }).nextCal

/-- The transmissions of the engine lose their frame: those before the air end, one on the air completes by itself. -/
def State.lgyOrphans (s : State) : State :=
  let us := s.slot.tx.filter fun u => u.kind == .legacy
  us.foldl (fun (s : State) u =>
    if u.onAir then s.setTx { u with air := .orphan, fresh := false, noAr := true }
    else if u.phase = .ackWait then s.removeTx u.id else s.lgyUnlaunch u) s

/-- The windows of the legacy slot close and its lanes rest. -/
def State.lgyCloseWindows (s : State) : State :=
  let ws := s.slot.windows
  let s := { s with slot := { s.slot with windows := [] } }
  ws.foldl (fun (s : State) w => s.closeLane w.lane) s

/-- SOFT_RESET (R391): every register, FIFO, context, hop table entry and all schedule state at reset. -/
def State.lgySoftReset (s : State) : State :=
  let s := s.lgyOrphans.lgyCloseWindows
  let s := { s with fields := Sparse.dropRange s.fields (0x400F0000 * 32) (0x400F0200 * 32) }
  let s := (s.zeroBytes (ctxAddr 0) (64 * 250)).put CHZ_LEGSYNC_WORD CHZ_LEGSYNC_WORD.reset
  let old := s.lgy
  let new : Lgy := { seq := old.seq, cmd := old.cmd, unlock := old.unlock, unlockAt := old.unlockAt, nirq := old.nirq }
  ({ s with lgy := new }).settleNirq

/-- The action of command `code`. -/
def State.lgyAction (s : State) (code : Nat) : State :=
  match code with
  | 0x01 => { s with lgy := { s.lgy with rx := [] } }
  | 0x02 => let s := s.lgyRecall; { s with lgy := { s.lgy with tx := [] } }
  | 0x03 => s.lgyArm
  | 0x04 => s.lgyAbort
  | 0x05 => s.lgyCtxWrite
  | 0x06 => s.lgyCtxRead
  | 0x07 => let i := s.get LGY_CTXIDX_IDX; s.setCtx i 10 2 (clearBit (s.ctx i 10 2) 0)
  | 0x08 => s.lgyHopWrite
  | 0x09 => s.lgyHopRead
  | 0x0A => s.lgyCal
  | 0x0B => s.lgySoftReset
  | _ => s

/-- R391: a command is written. One while CMDBUSY = 1, an unlisted code, FLUSH_TX with the frame on the air and CAL with
RUN = 1 raise CMDERR; commands 0x05 to 0x0A wait for system firmware. -/
def State.lgyCommand (s : State) (code : Nat) : State :=
  if !s.lgyLive then s
  else if s.lgy.cmd.isSome ∨ code = 0 ∨ 0x0B < code ∨ (code = 0x02 ∧ s.lgyFrameOnAir) ∨ (code = 0x0A ∧ s.on LGY_SLOTCTL_RUN) then s.lgyFlag 30
  else
    let hold := 5 ≤ code && code ≤ 0x0A && !s.boot.firmware
    let s := { s with lgy := { s.lgy with cmd := some code, held := hold } }
    if hold then s else s.lgyAction code

/-- System firmware now runs: a held command runs (R391). -/
def State.lgyRelease (s : State) : State :=
  match s.lgy.cmd with
  | some c => if s.lgy.held then ({ s with lgy := { s.lgy with held := false } }).lgyAction c else s
  | none => s

def execFlushRx (s : State) : Host.Outcome State Fault Refusal := goOn (s.lgyCommand 0x01)
def execFlushTx (s : State) : Host.Outcome State Fault Refusal := goOn (s.lgyCommand 0x02)
def execTxStart (s : State) : Host.Outcome State Fault Refusal := goOn (s.lgyCommand 0x03)
def execTxAbort (s : State) : Host.Outcome State Fault Refusal := goOn (s.lgyCommand 0x04)
def execCtxWrite (s : State) : Host.Outcome State Fault Refusal := goOn (s.lgyCommand 0x05)
def execCtxRead (s : State) : Host.Outcome State Fault Refusal := goOn (s.lgyCommand 0x06)
def execCtxDelete (s : State) : Host.Outcome State Fault Refusal := goOn (s.lgyCommand 0x07)
def execHopWrite (s : State) : Host.Outcome State Fault Refusal := goOn (s.lgyCommand 0x08)
def execHopRead (s : State) : Host.Outcome State Fault Refusal := goOn (s.lgyCommand 0x09)
def execLgyCal (s : State) : Host.Outcome State Fault Refusal := goOn (s.lgyCommand 0x0A)
def execSoftReset (s : State) : Host.Outcome State Fault Refusal := goOn (s.lgyCommand 0x0B)

/-- R391: the running command's duration ends: CMDBUSY clears, CMDDONE, and CALDONE after CAL. -/
def execCmddone (s : State) : Host.Outcome State Fault Refusal :=
  match s.lgy.cmd with
  | none => goOn s
  | some c =>
    if !s.lgyLive ∨ s.lgy.held then goOn s
    else
      let s := ({ s with lgy := { s.lgy with cmd := none } }).lgyFlag 29
      goOn (if c = 0x0A then s.lgyFlag 31 else s)

/-! Writes (R387). -/

/-- W1C of LGY_IRQFn; nIRQ rises where no enabled flag remains (R389). -/
def State.lgyClear (s : State) (n v : Nat) : State :=
  let f := LGY_IRQF_FLAGS n
  ((List.range 8).foldl (fun (s : State) k => if bit v k then s.put f (clearBit (s.get f) k) else s) s).settleNirq

/-- A byte joins the transmit FIFO; a full one discards it with TXOVF. -/
def State.lgyPushTx (s : State) (v : Nat) : State :=
  if 1024 ≤ s.lgy.tx.length then s.lgyFlag 37
  else { s with lgy := { s.lgy with tx := s.lgy.tx ++ [BitVec.ofNat 8 v] } }

/-- LGY_BASEF2 applies the three bytes where they lie within 410 000 to 960 000 kHz. -/
def State.lgyBase (s : State) (v : Nat) : State :=
  let s := s.put LGY_BASEF2_F v
  let f := s.get LGY_BASEF0_F + 256 * s.get LGY_BASEF1_F + 65536 * v
  if 410000 ≤ f ∧ f ≤ 960000 then { s with lgy := { s.lgy with base := f } } else s

/-- A field value that LGY_TXTHR and the like accept at map address `a` (R387). -/
def lgyLegal (a v : Nat) : Bool :=
  match a with
  | 0x16 => v != 0
  | 0x1A => v % 64 != 0
  | 0x28 => 1 ≤ v % 128 && v % 128 ≤ 64
  | 0x2E => v != 0
  | 0x33 => 10 ≤ v && v ≤ 150
  | 0x34 => 5 ≤ v && v ≤ 50
  | 0x37 => v ≤ 14 || 236 ≤ v
  | 0x38 => v ≤ 249 || v == 255
  | 0x39 => v ≤ 249
  | _ => true

/-- The map addresses that SPI can write and that hold plain values. -/
def lgyWritable (a : Nat) : Bool :=
  (0x09 ≤ a && a ≤ 0x10) || a == 0x16 || a == 0x1A || a == 0x1E || (0x20 ≤ a && a ≤ 0x2C) ||
  (a == 0x2E) || a == 0x2F || (0x32 ≤ a && a ≤ 0x41) || (0x45 ≤ a && a ≤ 0x4E)

/-- An SPI write of `v` to the register at `a` (R387). -/
def State.lgyWrite (s : State) (a v : Nat) : State :=
  if !s.lgyLive then s
  else if 0x01 ≤ a ∧ a ≤ 0x08 then s.lgyClear (a - 1) v
  else if a = 0x11 then s.lgyCommand v
  else if a = 0x17 then s.lgyPushTx v
  else if a = 0x2D then s.lgyBase v
  else if lgyWritable a ∧ lgyLegal a v then
    let v := if a = 0x3E then v % 2 else v
    let s := s.loadFields (lgyPlain a) v
    if 0x09 ≤ a ∧ a ≤ 0x10 then s.settleNirq
    else if 0x4B ≤ a ∧ a ≤ 0x4E then
      s.put CHZ_LEGSYNC_WORD (splice (s.get CHZ_LEGSYNC_WORD) (8 * (a - 0x4B)) 8 v)
    else s
  else s

def execTxfifoWrite (value : Fin 256) (s : State) : Host.Outcome State Fault Refusal := goOn (s.lgyWrite 0x17 value)
def execIrqFlagClear (n : Fin 8) (value : Fin 256) (s : State) : Host.Outcome State Fault Refusal :=
  goOn (s.lgyWrite (0x01 + n) value)
def execBasef2Write (value : Fin 256) (s : State) : Host.Outcome State Fault Refusal := goOn (s.lgyWrite 0x2D value)

/-- R389: 4 µs after a flag makes IRQ = 1, nIRQ falls: E119. -/
def execNirqAssert (s : State) : Host.Outcome State Fault Refusal :=
  if !s.lgyLive ∨ !s.lgyIrq ∨ s.lgy.nirq then goOn s
  else goOn (({ s with lgy := { s.lgy with nirq := true } }).raise 119)

/-! The native unlock (R398, R399). -/

/-- R399 steps 1 to 3: the map is saved to object 0x1030.00, the engine stops, a frame on the air completes by itself,
armed frames, receptions and FIFOs are discarded, all flags cleared, nIRQ rises. -/
def State.lgyAccept (s : State) : State :=
  let img := (List.range 128).map fun a => BitVec.ofNat 8 (s.lgyView a)
  let s := { s with objs := Sparse.write [] s.objs 0x103000 img }
  let s := s.lgyOrphans.lgyCloseWindows
  let s := { s with radio := { s.radio with detFifo := [] }, slot := { s.slot with rx := [] } }
  let s := s.lgyClearAll
  let new : Lgy := { hop := s.lgy.hop, base := s.lgy.base, gone := true }
  { s with lgy := new }

def State.setUnlock (s : State) (u : Unlock) : State := { s with lgy := { s.lgy with unlock := u } }

/-- The unlock matcher takes an unlock write (R398). -/
def State.unlockStep (s : State) (v : Nat) : State :=
  if !s.lgyLive then s
  else if v = 0x4B then { s with lgy := { s.lgy with unlock := .step1, unlockAt := s.clock } }
  else match s.lgy.unlock with
  | .step1 => if v = 0x57 then s.setUnlock .step2 else s.setUnlock .idle
  | .step2 => if v = 0x72 ∧ s.clock ≤ s.lgy.unlockAt + 100000 then s.lgyAccept else s.setUnlock .idle
  | .idle => s.setUnlock .idle

def execUnlockWrite (value : Fin 256) (s : State) : Host.Outcome State Fault Refusal := goOn (s.unlockStep value)

/-- R398: 1 ms passes before acceptance: IDLE. -/
def execUnlockTimeout (s : State) : Host.Outcome State Fault Refusal :=
  goOn { s with lgy := { s.lgy with unlock := .idle } }

/-- Settings of a block at their reset values: every RW and RWL field of its registers. -/
def State.resetSettings (s : State) (regs : List RegRow) : State :=
  regs.foldl (fun (s : State) r => (List.range r.count).foldl (fun (s : State) i =>
    (r.rows i).foldl (fun (s : State) f => match f.access with
      | .rw => s.put f.field f.field.reset
      | .rwl => s.put f.field f.field.reset
      | _ => s) s) s) s

/-- R399 step 4: contexts 0 to 249 invalid, hop table discarded, CHZ and RFC settings at reset, radios IDLE. -/
def State.lgyCleanup (s : State) : State :=
  let s := (List.range 250).foldl (fun (s : State) i => s.setCtx i 10 2 (clearBit (s.ctx i 10 2) 0)) s
  let s := { s with lgy := { s.lgy with hop := List.replicate 64 0 } }
  let s := (s.resetSettings chzRegs).resetSettings rfcRegs
  let s := { s with radio := { s.radio with planA := 0, planB := 0 } }
  let s := (List.range 128).foldl State.restLane s.installMap
  [Path.a, .b, .t].foldl (fun (s : State) p =>
    let s := s.setPath p { s.path p with goal := none }
    if s.hasPath p && 1 < s.get (pathField p) then s.enter p 1 else s) s

/-- R399 steps 4 to 6, R28, R31: the frame on the air is over; the port takes native framing, MODE = 0x1, UNLOCKED, E7; a
Start mode target that waited follows. -/
def execNativeSwitchover (s : State) : Host.Outcome State Fault Refusal :=
  if s.mode ≠ modeCompat ∨ !s.lgy.gone ∨ s.airUnit.isSome then goOn s
  else
    let s := (s.lgyCleanup.enterMode modeConc).flag PRC_MODE_UNLOCKED true
    let s := { s with lgy := { s.lgy with gone := false } }
    match s.boot.startMode with
    | some m =>
      let s := { s with boot := { s.boot with startMode := none } }
      goOn (if m = modeConc then s else s.enterMode m)
    | none => goOn s

/-! SPI transactions (R384, R385). -/

/-- The address after `a` in a burst. -/
def lgyNext (a : Nat) : Nat := if a = 0x13 ∨ a = 0x17 then a else (a + 1) % 128

/-- The data bytes of a write. -/
def State.lgyWrites (s : State) : Nat → List Byte → State
  | _, [] => s
  | a, b :: bs => (s.lgyWrite a b.toNat).lgyWrites (lgyNext a) bs

/-- `n` data bytes of a read. -/
def State.lgyReads (s : State) : Nat → Nat → List Byte × State
  | 0, _ => ([], s)
  | n + 1, a =>
    let (v, s) := s.lgyRead a
    let (bs, s) := s.lgyReads n (lgyNext a)
    (BitVec.ofNat 8 v :: bs, s)

/-- R385: at an SCK above 10 MHz direction and data of the transaction are open: those of some legal transaction of the
same length and address. -/
def State.lgyFast (s : State) (mosi : List Byte) : List Byte × State :=
  match mosi with
  | [] => ([], s)
  | a :: ds =>
    let (d, s) := s.freeBytes 1
    let (bs, s) := s.freeBytes ds.length
    (((a &&& 0x7F) ||| (d.getD 0 0 &&& 0x80)) :: bs, s)

/-- What the device drives on MISO. -/
def State.spiOut (s : State) (bs : List Byte) : State := { s with host := { s.host with output := bs } }

/-- The bytes after the address byte `a`: written from its address on, or read from it. -/
def State.lgyBytes (s : State) (a : Byte) (ds : List Byte) : State :=
  let status := BitVec.ofNat 8 s.lgyStatus
  let addr := a.toNat % 128
  if 128 ≤ a.toNat then (s.lgyWrites addr ds).spiOut (status :: List.replicate ds.length 0)
  else
    let (bs, s) := s.lgyReads ds.length addr
    s.spiOut (status :: bs)

/-- R384, R385, R398: an SPI transaction from the fall to the rise of nCS: `mosi` its whole bytes, `cut` an nCS rise within
a further byte, `fast` an SCK above 10 MHz, `early` before the port's first valid transaction. -/
def execLegacySpiTransaction (mosi : List Byte) (cut fast early : Bool) (s : State) : Host.Outcome State Fault Refusal :=
  if !s.lgyLive ∨ early then goOn (s.spiOut (List.replicate mosi.length 0))
  else
    let (mosi, s) := if fast then s.lgyFast mosi else (mosi, s)
    match mosi with
    | [] => goOn (if cut then ((s.spiOut []).setUnlock .idle).lgyFlag 47 else (s.spiOut []).setUnlock .idle)
    | a :: ds =>
      let s := s.lgyBytes a ds
      let s := if cut then s.lgyFlag 47 else s
      goOn (if a = 0xFE ∧ ds.length = 1 ∧ !cut then s.unlockStep (ds.headD 0).toNat else s.setUnlock .idle)

/-! The legacy slot (R392 to R394). -/

/-- The legacy slot in SE cycles. -/
def lgySlot : Nat := 2000000

/-- TNET of the next boundary: 20 ms after the present one while the schedule runs, else the next on its grid. -/
def State.lgyNextBoundary (s : State) : Nat :=
  let b := s.lgy.boundary
  if s.lgy.run ∨ s.tnet < b then b + lgySlot else b + ((s.tnet - b) / lgySlot + 1) * lgySlot

/-- The frequency of channel `c` in slot `n` (R392). -/
def State.lgyFreq (s : State) (n c : Nat) : Nat :=
  let h := s.lgy.hop.getD ((n + s.get (LGY_CHCFG_CHOFF c)) % s.get LGY_HOPLEN_LEN) 0
  1000 * s.lgy.base + h * s.get LGY_SPACING_SP * 12500

/-- The lane of R69 for an offset from the half's centre: the nearest, exact halves up, within 6.3 MHz (R393). -/
def lgyNearest (d : Int) : Option Nat :=
  if 6300000 < d.natAbs then none else some ((d + 6400000) / 200000).toNat

/-- R393: the free lane for a channel at offset `d` of the centre: its nearest lane, else the nearest free one within
400 kHz, the lower of two. -/
def lgyPick (taken : List Nat) (d : Int) : Option Nat :=
  match lgyNearest d with
  | none => none
  | some j =>
    let free (k : Nat) : Bool := k < 64 && !taken.contains k
    if free j then some j
    else
      let dist (k : Nat) : Nat := (d - ((2 * (k : Int) - 63) * 100000)).natAbs
      ((List.range 64).filter fun k => free k && dist k ≤ 400000).foldl (fun (b : Option Nat) k => match b with
        | none => some k
        | some x => if dist k < dist x then some k else some x) none

/-- The lanes of the channels `cs` in order; `offs` are the channels' offsets from the centre. -/
def lgyAssign (offs : List Int) : List Nat → List (Option Nat) → List (Option Nat)
  | [], acc => acc
  | c :: cs, acc => lgyAssign offs cs (setAt acc c (lgyPick (acc.filterMap id) (offs.getD c 0)))

/-- Channels that receive. -/
def State.lgyEnabled (s : State) : List Nat := (List.range 8).filter fun c => s.on (LGY_CHCFG_EN c)

/-- The engine's profile for its legacy frames (R98, R393): 2-FSK at the rate of LGY_PHYCFG, MAXLEN 255. -/
def State.lgyProfiles (s : State) : State :=
  let r := s.get LGY_PHYCFG_RATE
  let s := ((s.flag (CHZ_PROF_LEG_EN 0) true).flag (CHZ_PROF_NAT_EN 0) false).put (CHZ_PROF_RATE 0) r
  let s := (s.put (CHZ_PROF_MOD 0) 0).put (CHZ_PROF_MAXLEN 0) 255
  ((s.flag (TXP_PROF_LEGACY 0) true).put (TXP_PROF_RATE 0) r).put (TXP_PROF_MOD 0) 0

/-- A legacy receive window on the lane of channel `c`. -/
def State.lgyWindow (s : State) (c : Nat) : State :=
  match s.lgy.lanes.getD c none with
  | none => s
  | some j =>
    let w : RxWindow := { lane := j, asn := s.lgy.count, ctx := none, timekeep := false, kind := 2, gEff := 0, choff := c,
                          freq := s.lgy.freqs.getD c 0 }
    { s with slot := { s.slot with windows := s.slot.windows ++ [w] } }

/-- R392, R393, R89: frequencies, centre of half A, lanes and their NCOs for the slot. The correction of the context of
LGY_TXDST raises the centre; the lane of channel TXCFG CH keeps it, the others are lowered by it. -/
def State.lgyTune (s : State) : State :=
  let freqs := (List.range 8).map (s.lgyFreq s.lgy.count)
  let ch := s.get LGY_TXCFG_CH
  let en := s.lgyEnabled
  let fs := en.map fun c => freqs.getD c 0
  let mid := (fs.foldl min (fs.headD 0) + fs.foldl max 0) / 2
  let offs := freqs.map fun (f : Nat) => ((f : Nat) : Int) - ((mid : Nat) : Int)
  let order := if en.contains ch || en.isEmpty then en else en ++ [ch]
  let lanes := lgyAssign offs order (List.replicate 8 none)
  let s := { s with lgy := { s.lgy with freqs := freqs, lanes := lanes } }
  let s := s.lgyProfiles
  let s := (List.range 64).foldl (fun (s : State) j =>
    (s.flag (CHZ_LCFG_EN j) (lanes.contains (some j))).put (CHZ_LCFG_PROFILE j) 0) s
  if en.isEmpty then s
  else
    let dst := s.get LGY_TXDST_CTX
    let est := s.offsetHz (if dst = 0xFF then none else some dst)
    let centre := (mid : Int) + est
    let s := if (s.get RFC_FREQ_A_FREQ : Int) = centre then s else (s.tuneHalf 0 centre).retune 0
    order.foldl (fun (s : State) c => match lanes.getD c none with
      | none => s
      | some j =>
        let resid := offs.getD c 0 - (2 * (j : Int) - 63) * 100000
        let corr := if c = ch then 0 else est
        s.put (CHZ_LNCO_LNCO j) (unsigned 24 (ncoValue (s.get RFC_FREQ_A_FREQ) (resid + corr)))) s

/-- A legacy transmission on channel TXCFG CH. -/
def State.lgyNewTx (s : State) (air : LegacyAir) (freq : Nat) : TxUnit :=
  { id := s.slot.nextId, stage := 12, kind := .legacy, air := air, freq := freq, channel := s.get LGY_TXCFG_CH, choff := s.get LGY_TXCFG_CH,
    profile := 0, power := 4 * signed 8 (s.get LGY_TXPWR_PWR) }

def State.lgyLaunch (s : State) (u : TxUnit) : State :=
  { s with slot := { s.slot with tx := s.slot.tx ++ [u], nextId := s.slot.nextId + 1 } }

/-- R393, R394: what the slot sends at TXOFF: its beacon, else the armed frame or its retry. -/
def State.lgySend (s : State) : State :=
  let per := s.get LGY_BCNPER_PER
  let f := s.lgy.freqs.getD (s.get LGY_TXCFG_CH) 0
  if s.on LGY_SLOTCTL_MASTER ∧ per ≠ 0 ∧ s.lgy.count % per = 0 then
    let o := s.lgyHeader 2 s.lgy.seq 0xFFFFFFFF ++ leBytes 2 s.lgy.count
    let u := { s.lgyNewTx .beacon f with octets := o, seq := s.lgy.seq, dlen := 2 }
    ({ s with lgy := { s.lgy with seq := (s.lgy.seq + 1) % 256 } }).lgyLaunch u
  else match s.lgy.frame with
  | none => s
  | some fr =>
    if s.tnet < fr.armedAt + 50000 ∨ (s.lgyUnit .data).isSome then s
    else if fr.started then
      s.lgyLaunch { s.lgyNewTx .data f with octets := fr.octets, seq := fr.seq.getD 0, dlen := fr.dlen, ctx := fr.ctx,
                                            ackReq := fr.ackReq, noAr := !fr.ackReq }
    else s.lgyLaunch (s.lgyNewTx .data f)

/-- The slot just ended: its windows close, and a frame or beacon that has not reached the air leaves the pipeline, the
frame staying armed (R390). -/
def State.lgyEndSlot (s : State) : State :=
  let us := s.slot.tx.filter fun u => u.kind == .legacy && (u.air == .data || u.air == .beacon) && (u.phase == .pipeline || u.phase == .locked)
  let s := us.foldl (fun (s : State) u => let s := s.lgyUnlaunch u; if u.air = .data then s.lgyBack u else s) s
  let keep := s.slot.windows.filter (·.ackOf.isSome)
  let s := s.lgyCloseWindows
  { s with slot := { s.slot with windows := keep } }

/-- The counter and flags of a boundary with RUN = 1 (R392, R393). -/
def State.lgyCount (s : State) : State :=
  let first := !s.lgy.run
  let wrap := !first && s.lgy.count == 65535
  let n := if first then s.lgy.count else if wrap then 1 else s.lgy.count + 1
  let master := s.on LGY_SLOTCTL_MASTER
  let s := { s with lgy := { s.lgy with count := n, run := true } }
  let s := s.lgyFlag 24
  let s := if wrap then s.lgyFlag 25 else s
  let s := if n % s.get LGY_HOPLEN_LEN = 0 then s.lgyFlag 26 else s
  if master then
    let s := if first then s.lgyFlag 27 else s
    { s with lgy := { s.lgy with synced := false, since := none, missed := 0 } }
  else { s with lgy := { s.lgy with since := s.lgy.since.map (· + 1) } }

/-- R392 to R394: a 20 ms boundary. With RUN = 0 it stops a running schedule. -/
def execLegacySlotBoundary (s : State) : Host.Outcome State Fault Refusal :=
  if !s.lgyLive ∨ (!s.lgy.run ∧ !s.on LGY_SLOTCTL_RUN) then goOn s
  else
    let b := s.lgyNextBoundary
    let s := s.advanceTo b
    let s := ({ s with lgy := { s.lgy with boundary := b } }).lgyEndSlot
    if !s.on LGY_SLOTCTL_RUN then goOn { s with lgy := { s.lgy with run := false } }
    else
      let s := s.lgyCount.lgyTune
      let s := s.lgyEnabled.foldl State.lgyWindow s
      goOn (if s.boot.firmware then s.lgySend else s)

/-! Received legacy frames (R390, R393, R395). -/

/-- The context whose ADDR is the source. -/
def State.lgyCtxOf (s : State) (src : Nat) : Option Nat := (List.range 250).find? fun i => s.ctxOk i && s.ctx i 0 4 == src

/-- A frame asks for its acknowledgement: it enters the pipeline, on the frame's channel (R394, R395). -/
def State.lgySendAck (s : State) (p : LgyPayload) (c : Option Nat) (freq choff : Nat) : State :=
  let o := s.lgyHeader 1 p.seq p.src
  s.lgyLaunch { s.lgyNewTx .ack freq with octets := o, seq := p.seq, ctx := c, choff := choff }

/-- The frame's record joins the receive FIFO, or is lost whole with RXOVF (R390). -/
def State.lgyRecord (s : State) (rec : List Byte) : Option State :=
  let old := s.lgy.rx.length
  if 4096 < old + rec.length then none
  else
    let s := { s with lgy := { s.lgy with rx := s.lgy.rx ++ rec } }
    let thr := 16 * s.get LGY_RXTHR_THR
    let s := if old < thr ∧ thr ≤ old + rec.length then s.lgyFlag 32 else s
    some (if old + rec.length = 4096 then s.lgyFlag 33 else s)

/-- What the context of a stored frame keeps: LASTSEQ, RSSI average, offset, count (R154, R395). -/
def State.lgyHeard (s : State) (c : Nat) (p : LgyPayload) (rssi offset : Int) : State :=
  let s := ((s.setCtx c 15 1 p.seq).setCtxFlag c 5).foldRssi c rssi
  (s.foldOffset c offset).setCtx c 50 2 (s.ctx c 50 2 + 1)

/-- R395, R390, R388: a frame for this device is stored, or is a duplicate. -/
def State.lgyStore (s : State) (p : LgyPayload) (body : List Byte) (d : DetRec) : State :=
  let ch := d.choff % 8
  let c := s.lgyCtxOf p.src
  let dup := match c with
    | some c => s.ctx c 15 1 == p.seq
    | none => false
  if dup then
    let s := s.lgyFlag 38
    if p.ackReq then s.lgySendAck p c d.freq ch else s
  else
    let s := match c with
      | some c => if p.seq = (s.ctx c 15 1 + 1) % 256 then s else s.lgyFlag 39
      | none => s
    let rssi := lgyRssi d.rssi
    let info := ch + 8 * ofBool p.ackReq + 16 * ofBool c.isNone
    let record := leBytes 1 body.length ++ leBytes 1 (info + 32 * ofBool (p.type == 2)) ++ leBytes 1 rssi ++ leBytes 1 (c.getD 0xFF) ++ body
    match s.lgyRecord record with
    | none => ({ s with lgy := { s.lgy with rxOvf := true } }).lgyFlag 34
    | some s =>
      let s := s.lgyFlag ch
      let s := if c.isNone then s.lgyFlag (56 + ch) else s
      let s := if s.get LGY_RSSITHR_RSSI ≤ rssi then s.lgyFlag 41 else s
      let s := (s.put LGY_RSSI_RSSI rssi).put LGY_FOFF_FOFF (lgyFoff d.offset)
      let s := ((s.put LGY_RXINFO_CH ch).flag LGY_RXINFO_ACKSENT p.ackReq).flag LGY_RXINFO_NOCTX c.isNone
      let s := (s.put LGY_LASTCTX_VALUE (c.getD 0xFF)).put LGY_LASTSEQ_VALUE p.seq
      let s := match c with
        | some c => s.lgyHeard c p d.rssi d.offset
        | none => s
      if p.ackReq then s.lgySendAck p c d.freq ch else s

/-- The sync air time of the engine's frames: preamble and sync word. -/
def State.lgySyncAir (s : State) : Nat := symbolTime (s.txProfWord 0) (8 * s.get (TXP_PROF_PREAMBLE 0) + 32)

/-- R393, R388: a beacon of this network is received: BCNRX; in slave timing and on channel 0 it sets the slot counter,
places the boundary TXOFF and the sync air time before its T_SFD, and raises SYNCED. -/
def State.lgyBeacon (s : State) (p : LgyPayload) (d : DetRec) : State :=
  let s := s.lgyFlag 23
  let n := leAt p.data 0 2
  if s.on LGY_SLOTCTL_MASTER ∨ d.choff % 8 ≠ 0 ∨ p.data.length < 2 ∨ n = 0 then s
  else
    let b := d.tSfd - (10000 * s.get LGY_TXOFF_T + s.lgySyncAir)
    ({ s with lgy := { s.lgy with count := n, boundary := b, synced := true, since := some 0, missed := 0 } }).lgyFlag 27

/-- A unit that waits for the engine behind CRC. -/
def State.lgyUnitAt (s : State) (unit : Nat) : Option RxUnit :=
  match s.rxUnit unit with
  | some u => if s.lgyLive ∧ u.stage = 4 ∧ u.legacy then some u else none
  | none => none

/-- The payload of a received unit: its PSDU without the CRC. -/
def RxUnit.payload (u : RxUnit) : List Byte := u.psdu.take (u.psdu.length - u.fcsLen)

/-- R393: a beacon of this network that waits behind CRC takes its effect on timing. -/
def execLegacyBeaconRx (unit : Nat) (s : State) : Host.Outcome State Fault Refusal :=
  match s.lgyUnitAt unit with
  | none => goOn s
  | some u => match parseLegacy u.payload with
    | some p =>
      if p.type = 2 ∧ p.netid = s.lgyNetid ∧ !u.stale then goOn ((s.setRx { u with stale := true }).lgyBeacon p u.det)
      else goOn s
    | none => goOn s

/-- R395: a frame behind CRC is stored, acknowledged, taken as an acknowledgement, or discarded; a beacon whose timing has
not been taken yet takes its effect first. -/
def execLegacyFrameStored (unit : Nat) (s : State) : Host.Outcome State Fault Refusal :=
  match s.lgyUnitAt unit with
  | none => goOn s
  | some u =>
    let s := s.removeRx u.id
    match parseLegacy u.payload with
    | none => goOn s
    | some p =>
      if p.netid ≠ s.lgyNetid ∨ p.type = 3 then goOn s
      else
        let s := if p.type = 2 ∧ !u.stale then s.lgyBeacon p u.det else s
        if p.dst ≠ s.lgyOwn ∧ p.dst ≠ 0xFFFFFFFF then goOn s
        else if p.type = 1 then goOn (s.lgyAcked p)
        else goOn (s.lgyStore p u.payload u.det)

/-- R393: a beacon period has ended without a beacon. -/
def State.lgyMissDue (s : State) : Bool :=
  match s.lgy.since with
  | some n => !s.on LGY_SLOTCTL_MASTER && s.lgy.synced && s.on LGY_BCNPER_PER && decide ((s.lgy.missed + 1) * s.get LGY_BCNPER_PER < n)
  | none => false

def execBcnmiss (s : State) : Host.Outcome State Fault Refusal :=
  if s.lgyLive ∧ s.lgyMissDue then goOn (({ s with lgy := { s.lgy with missed := s.lgy.missed + 1 } }).lgyFlag 46) else goOn s

/-- R393: after 8 consecutive such periods SYNCLOST is raised and SYNCED clears. -/
def execSynclost (s : State) : Host.Outcome State Fault Refusal :=
  if s.lgyLive ∧ s.lgy.synced ∧ 8 ≤ s.lgy.missed then
    goOn (({ s with lgy := { s.lgy with synced := false, since := none, missed := 0 } }).lgyFlag 28)
  else goOn s

/-- R394: the acknowledgement window closes empty: another attempt in the next slot, or TXNOACK and the frame is
discarded. -/
def execLegacyAckWindowClose (s : State) : Host.Outcome State Fault Refusal :=
  match s.lgyUnit .data, s.lgy.frame with
  | some u, some f =>
    if u.phase ≠ .ackWait ∨ !s.lgyLive then goOn s
    else
      let ws := s.slot.windows.filter fun w => w.ackOf == some u.id
      let s := (ws.foldl (fun (s : State) w => s.dropAckWindow w) s).removeTx u.id
      if f.aborted then goOn s.lgyDrop
      else if s.get LGY_TXCFG_RETRIES < f.tries + 1 then goOn (s.lgyFlag 17).lgyDrop
      else goOn { s with lgy := { s.lgy with frame := some { f with tries := f.tries + 1 } } }
  | _, _ => goOn s

/-- R390: ENCODE needs a data octet that the FIFO does not hold: the payload ends, the inverted CRC follows, TXUNF and
TXDONE; the frame is not retried and stays charged with its planned time. -/
def execTxUnderrun (s : State) : Host.Outcome State Fault Refusal :=
  match s.lgyUnit .data with
  | none => goOn s
  | some u =>
    if u.phase ≠ .tx ∨ u.owed = 0 ∨ !s.lgy.tx.isEmpty then goOn s
    else
      let bits := u.bits.take u.preBits ++ cutBits (14 + u.dlen) u.octets
      let s := s.setTx { u with air := .orphan, fresh := false, noAr := true, bits := bits }
      goOn ((s.lgyFlag 18).lgyFlag 16).lgyDrop

/-- R388: in Compatibility mode the die temperature, in 0.25 °C units, rises above 85 °C. -/
def execTemphi (temp : Int) (s : State) : Host.Outcome State Fault Refusal :=
  let s := s.put RFC_TEMP_TEMP (unsigned 12 temp)
  if 340 < temp then goOn (s.lgyFlag 43) else goOn s

end Sys2Proof.Machine
end

