-- ==== Sys2Proof/Machine/FlashOps.lean ====
section
/-! DEFINITION. The descriptor queue, the array operations, the erase journal and the merge buffer of the flash controller
as named operations (spec/14_flash_controller.md, R326 to R328). -/
namespace Sys2Proof.Machine

/-! Counters, SUSPECT flags and the journal (R350 to R354). `k` is a physical bank. -/

def State.suspect (s : State) (k b : Nat) : Bool :=
  if b < 32 then bit (s.get (FLC_SUSP_L_SUSPECT k)) b else bit (s.get (FLC_SUSP_H_SUSPECT k)) (b - 32)

def State.setSuspect (s : State) (k b : Nat) (v : Bool) : State :=
  let f := if b < 32 then FLC_SUSP_L_SUSPECT k else FLC_SUSP_H_SUSPECT k
  if b = 63 then s else s.put f (if v then setBit (s.get f) (b % 32) else clearBit (s.get f) (b % 32))

def State.anySuspect (s : State) : Bool :=
  (List.range 2).any fun k => s.on (FLC_SUSP_L_SUSPECT k) || s.on (FLC_SUSP_H_SUSPECT k)

def ecnt (k b : Nat) : RegField := FLC_ECNT_COUNT (64 * k + b)

def jnlFree (k : Nat) : RegField := if k = 0 then FLC_JNL_FREE_A else FLC_JNL_FREE_B
def jnlHalf (k : Nat) : RegField := if k = 0 then FLC_JNL_HALF_A else FLC_JNL_HALF_B

/-- The address of record `slot` in half `h` of bank `k`. -/
def jnlAddr (k h slot : Nat) : Nat := 0x08000000 + 0x400000 * k + 0x3F0000 + 0x8000 * h + 16 * slot

/-- A record of R350 with its CRC. -/
def jnlRecord (type block flags count seq : Nat) : List Byte :=
  let b := leBytes 2 type ++ leBytes 1 block ++ leBytes 1 flags ++ leBytes 4 count ++ leBytes 4 seq
  b ++ fcs32 b

/-- A record is written to the next free slot of the active half. -/
def State.jnlAppend (s : State) (k type block count : Nat) : State :=
  let free := s.get (jnlFree k)
  let seq := (s.bank k).seq
  let s := s.setBytes (jnlAddr k (s.get (jnlHalf k)) (2048 - free)) (jnlRecord type block 0 count seq)
  (s.put (jnlFree k) (free - 1)).setBank k { s.bank k with seq := seq + 1 }

/-- A snapshot into half `h` of bank `k`, which becomes the active half (R350, R351 step 2). -/
def State.jnlSnapshot (s : State) (k h : Nat) : State :=
  let seq := (s.bank k).seq
  let recs := (List.range 64).map fun b => jnlRecord 0x5A03 b (ofBool (s.suspect k b)) (s.get (ecnt k b)) (seq + b)
  let s := s.setBytes (jnlAddr k h 0) (recs.flatten ++ jnlRecord 0x5A04 0xFF 0 64 (seq + 64))
  ((s.put (jnlHalf k) h).put (jnlFree k) 1983).setBank k { s.bank k with seq := seq + 65 }

/-- A half of bank `k` is erased. -/
def State.jnlErase (s : State) (k h : Nat) : State := s.zeroBytes (jnlAddr k h 0) 0x8000

/-! The merge buffer (R326 to R328). -/

/-- The merge entries for which `p` holds are to be flushed; the last of them ends this flush. -/
def State.mergeTrigger (s : State) (p : MergeEntry → Bool) : State :=
  let want (e : MergeEntry) : Bool := p e && !e.flushing
  let pages := (s.flash.merge.filter want).map fun e => e.page
  let es := s.flash.merge.map fun e => if want e then { e with flushing := true, lastOf := pages.getLast? == some e.page } else e
  s.setFlash { s.flash with merge := es }

/-- The pages whose flush has been triggered and whose program is not yet in the queue. -/
def State.mergeWaiting (s : State) : List Nat :=
  ((s.flash.merge.filter fun e => e.flushing).map fun e => e.page).filter fun a => !(s.flash.queue.any fun d => d.merge && d.faddr == a)

/-- Programs of flushing entries take queue places as there are any (R344). -/
def State.mergePump (s : State) : State :=
  let add := s.mergeWaiting.take (16 - s.flash.queue.length)
  s.setFlash { s.flash with queue := s.flash.queue ++ add.map fun a => { op := 2, faddr := a, merge := true } }

/-- What became of a store to flash. -/
inductive StoreResult
  | done (s : State)
  | stall (s : State)
  | busError (s : State)

/-- R326: bytes stored to flash by a core from bus address `a`, all in one page. -/
def State.mergeStore (s : State) (a : Nat) (bs : List Byte) (rom : Bool) : StoreResult :=
  if s.on FLC_OWNER_ROM_OWN ∧ !rom then .busError (s.busInfo a)
  else
    let put (e : MergeEntry) : MergeEntry :=
      { e with image := (bs.zipIdx).foldl (fun m x => Sparse.write 0xFF m (a % 2048 + x.2) x.1) e.image }
    match s.mergeAt a with
    | some e =>
      if e.flushing then .stall s
      else .done (s.setFlash { s.flash with merge := updateFirst (fun x => x.page == e.page) put s.flash.merge })
    | none =>
      match (List.range 4).find? fun i => !(s.flash.merge.any fun e => e.slot == i) with
      | some i => .done (s.setFlash { s.flash with merge := s.flash.merge ++ [put { slot := i, page := a / 2048 * 2048 }] })
      | none =>
        let oldest := (s.flash.merge.head?.map fun e => e.page).getD 0
        .stall ((s.mergeTrigger fun e => e.page == oldest).mergePump)

/-! Checks of R345. -/

/-- Grant window `k` of core 1 holds the `n` bytes at `a` with the rights of `need` (R298): 2 RD, 4 WR, 8 EX. -/
def State.grantHolds (s : State) (a n need k : Nat) : Bool :=
  let (base, limit, attr) := s.core1.gw.getD k (0, 0, 0)
  bit attr 0 && decide (base ≤ a) && decide (a + n ≤ base + limit + 1) && Nat.land attr need == need

def State.granted (s : State) (a n need : Nat) : Bool := (List.range 8).any (s.grantHolds a n need)

def inFlash (a : Nat) : Bool := 0x08000000 ≤ a && a < 0x08800000

/-- The physical bank on which a descriptor acts. -/
def State.descBank (s : State) (d : FlashDesc) : Nat :=
  if inFlash d.faddr then pageBank (physPage (s.flashPhys d.faddr)) else 0

def FlashDesc.bufLen (d : FlashDesc) : Nat := if bit d.flags 0 then 2112 else 2048

/-- The first check that fails, with its status. -/
def State.flashCheck (s : State) (d : FlashDesc) : Option Nat :=
  let p := physPage (s.flashPhys d.faddr)
  let k := pageBank p
  let b := pageBlock p
  let unit := if d.op = 1 ∨ d.op = 2 then 2048 else if d.op = 3 ∨ d.op = 4 then 65536 else 1
  let bk := s.bank k
  let sus := s.get (FLC_BANK_STAT_STATE k) == 3
  let held : Bool := match bk.run with
    | some r =>
      let q := physPage (s.flashPhys r.desc.faddr)
      (r.desc.op == 2 && q == p) || (r.desc.op == 3 && pageBlock q == b && pageBank q == k)
    | none => false
  if d.op = 0 ∨ 7 < d.op ∨ 1 < d.flags ∨ d.rsv ≠ 0 ∨ (d.op ≠ 7 ∧ (!inFlash d.faddr ∨ d.faddr % unit ≠ 0)) ∨
     (d.op ≤ 2 ∧ d.merge = false ∧ d.buf % 4 ≠ 0) ∨ (bit d.flags 0 = true ∧ s.mode ≠ modeTest) then some 1
  else if d.merge = false ∧ d.op ≤ 2 ∧ !((inSys d.buf && inSys (d.buf + d.bufLen - 1)) || (inPacket d.buf && inPacket (d.buf + d.bufLen - 1))) then some 2
  else if d.core1 ∧ d.op ≤ 2 ∧ !s.granted d.buf d.bufLen (if d.op = 1 then 4 else 2) then some 2
  else if d.core1 ∧ d.op ≤ 4 ∧ !s.granted d.faddr unit (if d.op = 1 ∨ d.op = 4 then 2 else 4) then some 2
  else if (d.op = 2 ∨ d.op = 3) ∧ b = 63 then some 3
  else if d.op ≤ 2 ∧ s.suspect k b then some 4
  else if d.op = 1 ∧ sus = true ∧ held = true then some 0x0A
  else none

/-! Running descriptors (R344, R351). -/

/-- An array operation starts on bank `k`: OP, RUNNING, its block, its counters cleared (R348). -/
def State.startOp (s : State) (k op block : Nat) : State :=
  let s := ((s.put (FLC_BANK_STAT_OP k) op).put (FLC_BANK_STAT_STATE k) 1).put (FLC_BANK_STAT_BLOCK k) block
  let s := ((s.put (FLC_BANK_STAT_PULSES k) 0).put (FLC_BANK_STAT_SUSPENDS k) 0).put (FLC_BANK_STAT_STARVED k) 0
  s.setBank k { s.bank k with susp := 0 }

/-- The bank is idle. -/
def State.endOp (s : State) (k : Nat) : State :=
  ((s.put (FLC_BANK_STAT_OP k) 0).put (FLC_BANK_STAT_STATE k) 0).put (FLC_BANK_STAT_BLOCK k) 0

/-- The strength of the region of bus address `a` (R322). -/
def State.strengthAt (s : State) (a : Nat) : Nat :=
  let r := (a - 0x08000000) / 0x40000
  slice (s.fieldsWord (strengthFields (r / 16))) (2 * (r % 16)) 2
where
  strengthFields (i : Nat) : List RegField :=
    if i = 0 then [MEM_RSTR0_S0, MEM_RSTR0_S1, MEM_RSTR0_S2, MEM_RSTR0_S3, MEM_RSTR0_S4, MEM_RSTR0_S5, MEM_RSTR0_S6,
      MEM_RSTR0_S7, MEM_RSTR0_S8, MEM_RSTR0_S9, MEM_RSTR0_S10, MEM_RSTR0_S11, MEM_RSTR0_S12, MEM_RSTR0_S13,
      MEM_RSTR0_S14, MEM_RSTR0_S15]
    else [MEM_RSTR1_S16, MEM_RSTR1_S17, MEM_RSTR1_S18, MEM_RSTR1_S19, MEM_RSTR1_S20, MEM_RSTR1_S21, MEM_RSTR1_S22,
      MEM_RSTR1_S23, MEM_RSTR1_S24, MEM_RSTR1_S25, MEM_RSTR1_S26, MEM_RSTR1_S27, MEM_RSTR1_S28, MEM_RSTR1_S29,
      MEM_RSTR1_S30, MEM_RSTR1_S31]

/-- The flip mask applies to a program that starts (R325): the codeword bits to invert. -/
def State.takeFlips (s : State) : List Nat × State :=
  if s.on MEM_FLIPCFG_ARM then
    let m := s.get MEM_FLIP_L_MASK + s.get MEM_FLIP_H_MASK * 2 ^ 32
    (((List.range 64).filter fun j => bit m j).map fun j => s.get MEM_FLIPCFG_OFFSET + j,
     (s.flag MEM_FLIPCFG_ARM false).flag MEM_FLIPCFG_USED true)
  else ([], s)

/-- A run in place on bank `k`. -/
def State.setRun (s : State) (k : Nat) (r : Option FlashRun) : State := s.setBank k { s.bank k with run := r }

/-- A page program starts: its source, its strength and the flips are taken (R322, R325). -/
def State.startProgram (s : State) (k : Nat) (r : FlashRun) : State :=
  let d := r.desc
  if !d.merge ∧ s.poisonedIn d.buf 2048 then s.setRun k (some { r with status := some 6 })
  else
    let src : List Byte := if d.merge then ((s.mergeAt d.faddr).map MergeEntry.bytes).getD [] else s.bytes d.buf 2048
    let (flips, s) := s.takeFlips
    let s := s.setRun k (some { r with data := encodePage (s.strengthAt d.faddr) src flips })
    s.startOp k 1 (pageBlock (physPage (s.flashPhys d.faddr)))

/-- The START record of an erase, and its pulses (R351 steps 3, 4). -/
def State.startErase (s : State) (k : Nat) (r : FlashRun) : State :=
  let b := pageBlock (physPage (s.flashPhys r.desc.faddr))
  let c := min (s.get (ecnt k b) + 1) 0xFFFFFFFF
  let s := (s.jnlAppend k 0x5A01 b c).put (ecnt k b) c
  (s.setRun k (some { r with value := c })).startOp k 2 b

/-- A descriptor whose checks have passed begins on bank `k`. -/
def State.beginDesc (s : State) (k : Nat) (r : FlashRun) : State :=
  let d := r.desc
  let phys := s.flashPhys d.faddr
  match d.op with
  | 1 =>
    if bit d.flags 0 then s.setRun k (some { r with status := some 0, data := s.pageRaw (physPage phys) })
    else
      let dec := s.readPage (physPage phys)
      let s := if pageBlock (physPage phys) = 63 then s else s.reportDecode d.faddr dec
      let r := { r with result := dec.result, bits := dec.bits }
      s.setRun k (some (if dec.result = 3 then { r with status := some 5 } else { r with status := some 0, data := dec.data }))
  | 2 => s.startProgram k r
  | 3 => if s.get (jnlFree k) < 2 then (s.setRun k (some r)).startOp k 3 63 else s.startErase k r
  | 4 => s.setRun k (some { r with status := some 0, value := s.get (ecnt k (pageBlock (physPage phys))) })
  | _ => s.setRun k (some { r with status := some 1 })

/-- The merge programs that must go before descriptor `d` (R327): the pages of `d` that have an entry. -/
def State.mergeBefore (s : State) (d : FlashDesc) : List Nat :=
  if d.merge then []
  else
    let unit := if d.op = 2 then 2048 else if d.op = 3 then 65536 else 0
    (s.flash.merge.filter fun e => decide (d.faddr ≤ e.page) && decide (e.page < d.faddr + unit)).map fun e => e.page

/-- A descriptor of bank `k` is running or done: it is not started again. -/
def State.startedDescs (s : State) : List FlashDesc :=
  (([s.flash.bank0.run, s.flash.bank0.side, s.flash.bank1.run, s.flash.bank1.side, s.flash.mergeRun].filterMap id).map fun r => r.desc)

/-- The waiting descriptors of bank `k` in push order. -/
def State.waiting (s : State) (k : Nat) : List FlashDesc :=
  ((s.startedDescs).foldl (fun q d => q.erase d) s.flash.queue).filter fun d => d.op != 7 && s.descBank d == k

/-- Bank `k` takes its next descriptor if it can (R344): while the completion FIFO is full none starts. -/
def State.kickBank (s : State) (k : Nat) : State :=
  if 16 ≤ s.flash.done.length then s
  else
    match (s.bank k).run with
    | none =>
      match s.waiting k with
      | [] => s
      | d :: _ =>
        let r : FlashRun := { desc := d, start := s.clock }
        match s.flashCheck d with
        | some st => s.setRun k (some { r with status := some st })
        | none =>
          match s.mergeBefore d with
          | [] => s.beginDesc k r
          | pages =>
            let s := s.mergeTrigger fun e => pages.contains e.page
            let md := pages.map fun a => ({ op := 2, faddr := a, merge := true } : FlashDesc)
            let rest := md.foldl (fun q x => q.erase x) s.flash.queue
            let i := rest.findIdx (· == d)
            let s := s.setFlash { s.flash with queue := rest.take i ++ md ++ rest.drop i }
            match md with
            | [] => s
            | m :: _ =>
              let r : FlashRun := { desc := m, start := s.clock }
              match s.flashCheck m with
              | some st => s.setRun k (some { r with status := some st })
              | none => s.beginDesc k r
    | some r =>
      if s.get (FLC_BANK_STAT_STATE k) = 3 ∧ (s.bank k).side = none then
        match (s.waiting k).find? fun d => d.op == 1 || d.op == 4 with
        | none => s
        | some d =>
          let side : FlashRun := { desc := d, start := s.clock }
          let t := match s.flashCheck d with
            | some st => s.setRun k (some { side with status := some st })
            | none => s.beginDesc k side
          t.setBank k { t.bank k with side := (t.bank k).run, run := some r }
      else s

/-- A FLUSH_MERGE at work: it is done once its pages are flushed. -/
def State.kickMerge (s : State) : State :=
  match s.flash.mergeRun with
  | some _ => s
  | none =>
    match s.flash.queue.find? fun d => d.op == 7 with
    | none => s
    | some d =>
      if 16 ≤ s.flash.done.length then s
      else
        let pages := s.flash.merge.map fun e => e.page
        let st := s.flashCheck d
        let s := if st.isSome then s else s.mergeTrigger fun _ => true
        s.setFlash { s.flash with mergeRun := some { desc := d, start := s.clock, status := st, pages := pages } }

/-- Everything that can start starts. -/
def State.kick (s : State) : State := (((s.kickMerge).mergePump).kickBank 0).kickBank 1

/-! Suspension (R348, R349). -/

/-- The operation of bank `k` is suspended: state `st`, one suspension more. -/
def State.suspendOp (s : State) (k st : Nat) : State :=
  let s := (s.put (FLC_BANK_STAT_STATE k) st).bump (FLC_BANK_STAT_SUSPENDS k)
  s.setBank k { s.bank k with susp := min ((s.bank k).susp + 1) 65535 }

/-! Completion (R346). -/

/-- A completion record; E104, and E105 for a status other than OK and NOT_ACTIVE. -/
def State.flashRecord (s : State) (r : FlashRun) (st susp : Nat) : State :=
  let d := r.desc
  let b := leBytes 1 st ++ leBytes 1 r.result ++ leBytes 1 r.bits ++ leBytes 1 d.op ++ leBytes 2 d.tag ++ leBytes 2 susp ++
    leBytes 4 r.value ++ leBytes 4 (min ((s.clock - r.start) / 100) 0xFFFFFFFF)
  let s := s.setFlash { s.flash with done := s.flash.done ++ [b] }
  (s.raise 104).raiseIf (st != 0 && st != 9) 105

/-- SUSPEND and RESUME act and complete at once (R344, R349). -/
def State.suspendDesc (s : State) (d : FlashDesc) : State :=
  let r : FlashRun := { desc := d, start := s.clock }
  match s.flashCheck d with
  | some st => s.flashRecord r st 0
  | none =>
    let k := s.descBank d
    let st := s.get (FLC_BANK_STAT_STATE k)
    if d.op = 5 then
      if st = 1 then (s.suspendOp k 3).flashRecord r 0 0
      else if st = 2 then (s.put (FLC_BANK_STAT_STATE k) 3).flashRecord r 0 0
      else s.flashRecord r 9 0
    else if st = 2 ∨ st = 3 then (s.put (FLC_BANK_STAT_STATE k) 1).flashRecord r 0 0
    else s.flashRecord r 9 0

/-- A descriptor is pushed (R344): a full queue ignores it with PUSH_REJ. -/
def State.flashPush (s : State) (d : FlashDesc) : State :=
  if 16 ≤ s.flash.queue.length then s.flag FLC_STATUS_PUSH_REJ true
  else
    let s := s.flag FLC_STATUS_PUSH_REJ false
    if (d.op = 5 ∨ d.op = 6) ∧ s.flash.done.length < 16 then (s.suspendDesc d).kick
    else (s.setFlash { s.flash with queue := s.flash.queue ++ [d] }).kick

/-- A push by code: while ROM_OWN = 1 one from other code than the ROM's ends with a bus error (R342). -/
def State.flashSubmit (s : State) (d : FlashDesc) (rom : Bool) : State :=
  if s.on FLC_OWNER_ROM_OWN ∧ !rom then s.busInfo 0x400D0024 else s.flashPush d

/-- The page buffers of bank `k` that hold one of the pages `ps` are invalidated (R341). -/
def State.dropBufs (s : State) (k : Nat) (hit : Nat → Bool) : State :=
  s.setBank k { s.bank k with bufs := (s.bank k).bufs.filter fun b => !hit b.page }

/-- A write by the controller to its buffer; contexts are written by no direct write (R155). -/
def State.bufWrite (s : State) (a : Nat) (bs : List Byte) : State :=
  if a < 0x24010000 ∧ 0x24000000 < a + bs.length then s.busInfo a else s.devWrite a bs

/-- The bits of a program that failed: each byte stored is a free value between the old one and the intended one. -/
def State.halfPage (s : State) (old raw : List Byte) : List Byte × State :=
  ((old.zip raw).zipIdx.map fun x => x.1.1 &&& (x.1.2 ||| BitVec.ofNat 8 (Config.freeValue (s.free + x.2))),
   { s with free := s.free + 2112 })

/-- A merge program ends: its entry is gone, and with the last of its flush E110 (R327, R328). -/
def State.mergeEnd (s : State) (page : Nat) (failed : Bool) : State :=
  let e := s.flash.merge.find? fun x => x.page == page
  let s := s.setFlash { s.flash with merge := s.flash.merge.filter fun x => x.page != page }
  let s := s.flag MEM_MERGE_LAST_FAIL failed
  match e with
  | some x => s.raiseIf x.lastOf 110
  | none => s

/-- The effect of a run that ends on bank `k` with status `st`. -/
def State.finishRun (s : State) (k : Nat) (r : FlashRun) (st : Nat) : State :=
  let d := r.desc
  let p := physPage (s.flashPhys d.faddr)
  match d.op with
  | 1 => if st = 0 then s.bufWrite d.buf r.data else s
  | 2 =>
    let ran := s.get (FLC_BANK_STAT_OP k) == 1
    let old := s.pageRaw p
    let s : State :=
      if !ran then s
      else if st = 0 then (s.setPageRaw p ((old.zip r.data).map fun x => x.1 &&& x.2)).dropBufs k (· == p)
      else
        let (raw, s) := s.halfPage old r.data
        (s.setPageRaw p raw).dropBufs k (· == p)
    let s := if ran then s.endOp k else s
    if d.merge then s.mergeEnd d.faddr (st != 0) else s
  | 3 =>
    let ran := s.get (FLC_BANK_STAT_OP k)
    let b := pageBlock p
    let s : State :=
      if ran = 2 ∧ st = 0 then
        let s := (s.jnlAppend k 0x5A02 b r.value).setSuspect k b false
        let base := 0x08000000 + 0x400000 * k + 65536 * b
        let q := 2048 * k + 32 * b
        let s := s.zeroBytes base 65536
        let s := s.setFlash { s.flash with spare := s.flash.spare.dropRange (64 * q) (64 * (q + 32)),
                                           undef := s.flash.undef.dropRange q (q + 32) }
        s.dropBufs k fun x => pageBlock x == b
      else if ran = 2 then s.setSuspect k b true
      else s
    if ran = 0 then s else s.endOp k
  | _ => s

/-- The descriptor that has ended on bank `k` completes: its record, and what waits may start. -/
def State.completeRun (s : State) (k : Nat) (r : FlashRun) (st : Nat) (isSide : Bool) : State :=
  let susp := if isSide then 0 else (s.bank k).susp
  let s := s.finishRun k r st
  let s := s.setFlash { s.flash with queue := s.flash.queue.erase r.desc }
  let s := if isSide then s.setBank k { s.bank k with side := none } else s.setRun k none
  let s := if r.desc.merge then s else s.flashRecord r st (if r.desc.op = 2 ∨ r.desc.op = 3 then susp else 0)
  s.kick

/-! Loads and fetches (R341, R349, R354). -/

/-- What became of a load or fetch of flash. -/
inductive FlashLoad
  | data (bs : List Byte) (s : State)
  | poison (s : State)
  | busError (s : State)
  | stall (s : State)

/-- The page at bus address `a` is being programmed, or its block erased. -/
def State.inOperation (s : State) (p : Nat) : Bool :=
  match (s.bank (pageBank p)).run with
  | none => false
  | some r =>
    let q := physPage (s.flashPhys r.desc.faddr)
    match s.get (FLC_BANK_STAT_OP (pageBank p)) with
    | 1 => q == p
    | 2 => pageBlock q == pageBlock p
    | 3 => pageBlock p == 63
    | _ => false

/-- A page read for a miss (R341): decoded into the least recently used buffer, its result reported. -/
def State.fillBuffer (s : State) (a p : Nat) : State :=
  let k := pageBank p
  let dec := s.readPage p
  let s := if pageBlock p = 63 then s else s.reportDecode a dec
  let b : PageBuf := { page := p, data := dec.data, poisoned := dec.result == 3 }
  s.setBank k { s.bank k with bufs := b :: ((s.bank k).bufs.take 3) }

/-- R341, R349: a miss on the page at bus address `a` suspends a running operation or, with STALL_FETCH, waits; then the
page is read into a buffer. -/
def State.pageMiss (s : State) (a : Nat) : Option State :=
  let p := physPage (s.flashPhys a)
  let k := pageBank p
  let st := s.get (FLC_BANK_STAT_STATE k)
  if st = 1 ∧ s.on FLC_CTRL_STALL_FETCH then none
  else some ((if st = 1 then s.suspendOp k 2 else s).fillBuffer a p)

/-- The buffered page `p` becomes the most recently used. -/
def State.touchBuf (s : State) (p : Nat) : State :=
  let k := pageBank p
  let bs := (s.bank k).bufs
  s.setBank k { s.bank k with bufs := bs.filter (fun b => b.page == p) ++ bs.filter fun b => b.page != p }

/-- After a miss: what `serve` answers, or the load waits. -/
def State.afterMiss (s : State) (miss : Option State) (serve : State → FlashLoad) : FlashLoad :=
  match miss with
  | none => .stall s
  | some t => serve t

/-- A load or fetch of `n` bytes within a page at bus address `a`. -/
def State.flashLoad (s : State) (a n : Nat) : FlashLoad :=
  match s.mergeAt a with
  | some e => .data (bytesAt e.bytes (a % 2048) n) s
  | none =>
    let p := physPage (s.flashPhys a)
    let k := pageBank p
    let page := a / 2048 * 2048
    let serve (s : State) : FlashLoad :=
      match (s.bank k).bufs.find? fun b => b.page == p with
      | some b => if b.poisoned then .poison s else .data (bytesAt b.data (a % 2048) n) (s.touchBuf p)
      | none => .stall s
    if s.inOperation p then .busError (s.report 0 5 a 0)
    else if s.suspect k (pageBlock p) then .busError (s.report 0 5 page 0)
    else if (s.bank k).bufs.any fun b => b.page == p then serve s
    else s.afterMiss (s.pageMiss a) serve

end Sys2Proof.Machine
end

