-- ==== Sys2Proof/Machine/Pke.lean ====
section
/-! DEFINITION. The commands of the public key, hash and random engine (R441 to R443). -/
namespace Sys2Proof.Machine

/-- `n` bytes of flash read by a device from bus address `a`, page by page (R341); none where a page is poisoned or answers
with an error. -/
def State.readFlash (s : State) (a n : Nat) : Option (List Byte) × State :=
  let base := a / 2048 * 2048
  let r := (List.range (divUp (a - base + n) 2048)).foldl (fun (r : Option (List Byte) × State) k =>
    match r.1 with
    | none => r
    | some acc => match r.2.flashLoad (base + 2048 * k) 2048 with
      | .data bs s => (some (acc ++ bs), s)
      | .poison s => (none, s)
      | .busError s => (none, s)
      | .stall s => (none, s)) (some [], s)
  (r.1.map fun bs => bytesAt bs (a - base) n, r.2)

/-- `n` bytes at `a` lie in system SRAM, and in flash. -/
def spanSys (a n : Nat) : Bool := inSys a && decide (a + n ≤ 0x20200000)
def spanFlash (a n : Nat) : Bool := inFlash a && decide (a + n ≤ 0x08800000)

/-- What the PKE reads at `a`: the bytes, or RESULT 2 ACCESS or 4 FAULT. -/
def State.pkeRead (s : State) (a n : Nat) : Except Nat (List Byte) × State :=
  if spanSys a n then (if s.poisonedIn a n then (.error 4, s) else (.ok (s.bytes a n), s))
  else if spanFlash a n then
    match s.readFlash a n with
    | (some bs, s) => (.ok bs, s)
    | (none, s) => (.error 4, s)
  else (.error 2, s)

/-- PKE_CMD starts an operation, unless one runs (R443). -/
def State.pkeStart (s : State) (op : Nat) (cont fin : Bool) : State :=
  if s.on PKE_STATUS_BUSY then s
  else
    let r : PkeRun := { op := op, cont := cont, fin := fin, src := s.get PKE_SRC_ADDR, len := s.get PKE_LEN_LEN,
                        opaddr := s.get PKE_OPADDR_ADDR }
    ({ s with pke := { s.pke with run := some r } }).flag PKE_STATUS_BUSY true

/-- RNG_RESTART clears HEALTH_FAIL and reruns the start-up test (R442). -/
def State.rngRestart (s : State) : State :=
  ((s.flag PKE_RNGSTAT_HEALTH_FAIL false).flag PKE_RNGSTAT_STARTUP true).flag PKE_RNGSTAT_VALID false

/-- A write of PKE_CMD (R443). -/
def State.pkeCommand (s : State) (op : Nat) (cont fin restart : Bool) : State :=
  if s.on PKE_STATUS_BUSY then s
  else
    let s := if restart then s.rngRestart else s
    if 1 ≤ op ∧ op ≤ 3 then s.pkeStart op cont fin else s

/-- R441: PKE operation SM3. -/
def execPkeSm3 (cont fin : Bool) (s : State) : Host.Outcome State Fault Refusal := goOn (s.pkeCommand 1 cont fin false)

/-- R441: PKE operation SM2_VERIFY. -/
def execPkeSm2Verify (s : State) : Host.Outcome State Fault Refusal := goOn (s.pkeCommand 2 false false false)

/-- R441: PKE operation SM2_SIGN. -/
def execPkeSm2Sign (s : State) : Host.Outcome State Fault Refusal := goOn (s.pkeCommand 3 false false false)

/-- The operand block lies word-aligned in system SRAM, and may also lie in flash where the operation only reads it. -/
def opBlockOk (a : Nat) (writes : Bool) : Bool := a % 4 == 0 && (spanSys a 160 || (!writes && spanFlash a 160))

/-- The result of an SM3 operation (R441), and what it leaves: the digest in E, or the chain. -/
def State.sm3Run (s : State) (r : PkeRun) : Nat × State :=
  if (r.cont = true ∧ s.pke.chain = none) ∨ (r.fin = false ∧ r.len % 64 ≠ 0) then (5, s)
  else if r.fin && !opBlockOk r.opaddr true then (2, s)
  else
    match s.pkeRead r.src r.len with
    | (.error e, s) => (e, s)
    | (.ok bs, s) =>
      let msg := (if r.cont then s.pke.chain.getD [] else []) ++ bs
      let s := { s with pke := { s.pke with chain := if r.fin then none else some msg } }
      (0, if r.fin then s.devWrite r.opaddr (Config.sm3 msg) else s)

/-- The result of SM2_VERIFY: SIG over E with PUBKEY. -/
def State.verifyRun (s : State) (r : PkeRun) : Nat × State :=
  if !opBlockOk r.opaddr false then (2, s)
  else
    match s.pkeRead r.opaddr 160 with
    | (.error e, s) => (e, s)
    | (.ok b, s) => (if Config.sm2Verify (bytesAt b 32 64) (bytesAt b 0 32) (bytesAt b 96 64) then 0 else 1, s)

/-- The result of SM2_SIGN: E signed with the device key and a drawn nonce into SIG (R441, R442). -/
def State.signRun (s : State) (r : PkeRun) : Nat × State :=
  if s.on PKE_RNGSTAT_HEALTH_FAIL then (3, s)
  else if !opBlockOk r.opaddr true then (2, s)
  else
    match s.pkeRead r.opaddr 32 with
    | (.error e, s) => (e, s)
    | (.ok e, s) =>
      let (nonce, s) := s.freeBytes 32
      (0, s.devWrite (r.opaddr + 96) (Config.sm2Sign (s.otp 0x060 32) e nonce))

/-- R441: the operation ends with its result and E68. A signature waits for the end of the start-up test. -/
def execPkeDone (s : State) : Host.Outcome State Fault Refusal :=
  match s.pke.run with
  | none => goOn s
  | some r =>
    if r.op = 3 ∧ s.on PKE_RNGSTAT_STARTUP then goOn s
    else
      let (res, s) := if r.op = 1 then s.sm3Run r else if r.op = 2 then s.verifyRun r else s.signRun r
      let s := { s with pke := { s.pke with run := none } }
      goOn ((((s.flag PKE_STATUS_BUSY false).put PKE_STATUS_RESULT res).bumpWrap PKE_STATUS_COUNT).raise 68)

/-- R442: PKE_CMD RNG_RESTART. -/
def execRngRestart (s : State) : Host.Outcome State Fault Refusal := goOn (s.pkeCommand 0 false false true)

/-- A fresh word (R442): it is what PKE_RNG shows, it ends the start-up test, and it reseeds the backoff generator. -/
def State.rngFresh (s : State) : State :=
  let (w, s) := s.drawFree
  let s := ((s.flag PKE_RNGSTAT_STARTUP false).flag PKE_RNGSTAT_VALID true).put PKE_RNG_VALUE w
  { s with mac := { s.mac with lfsr := w % 2 ^ 32 } }

/-- R442: a fresh random word every 4 µs, unless a health test has failed. -/
def execRngWord (s : State) : Host.Outcome State Fault Refusal :=
  goOn (if s.on PKE_RNGSTAT_HEALTH_FAIL then s else s.rngFresh)

/-- A read of PKE_RNG waits for a fresh word; during a failure it reads 0 (R442). -/
def State.rngRead (s : State) : Nat × State :=
  if s.on PKE_RNGSTAT_HEALTH_FAIL then (0, s)
  else
    let s := s.rngFresh
    (s.get PKE_RNG_VALUE, s)

/-- R442: a read of PKE_RNG. -/
def execRngRead (s : State) : Host.Outcome State Fault Refusal :=
  let (w, s) := s.rngRead
  goOn { s with host := { s.host with readData := w } }

/-- R442: a health test fails. -/
def execTrngHealth (s : State) : Host.Outcome State Fault Refusal :=
  let s := ((s.flag PKE_RNGSTAT_HEALTH_FAIL true).flag PKE_RNGSTAT_VALID false).flag PKE_RNGSTAT_STARTUP false
  goOn ((((s.put PKE_RNG_VALUE 0).bump PKE_RNGSTAT_FAILS).raise 69).report 2 0x19 0 0)

end Sys2Proof.Machine
end

