-- ==== Sys2Proof/Machine/Cipher.lean ====
section
/-! DEFINITION. The commands of the cipher island (spec/07_frame_security.md): key commands, owners, exhaustion, general
requests, faults and the host's cipher request. -/
namespace Sys2Proof.Machine

/-- A key command of page `p` (R193): refused with KCMD_REJ, and with E70 where the page does not own the slot. -/
def State.pageKeyCommand (s : State) (p : Nat) (image : Option KeyImage) : State :=
  let i := s.get (SEC_P_KSEL_SLOT p)
  if (s.key i).owner ≠ p then (s.flag (SEC_P_KSTAT_KCMD_REJ p) true).raise 70
  else if !(match image with
    | some g => keyLegal g p
    | none => true) then s.flag (SEC_P_KSTAT_KCMD_REJ p) true
  else
    let s := (s.flag (SEC_P_KSTAT_KCMD_REJ p) false).keyCommand i image
    if image.isNone then s
    else (((s.put (SEC_P_KDATA0_KEY p) 0).put (SEC_P_KDATA1_KEY p) 0).put (SEC_P_KDATA2_KEY p) 0).put (SEC_P_KDATA3_KEY p) 0

/-- R193: LOAD on the slot that the page selects. -/
def execKeyLoad (page : Fin 8) (s : State) : Host.Outcome State Fault Refusal :=
  goOn (if s.refFailed then s else s.pageKeyCommand page (some (s.stagedKey page)))

/-- R193: CLEAR on the slot that the page selects. -/
def execKeyClear (page : Fin 8) (s : State) : Host.Outcome State Fault Refusal :=
  goOn (if s.refFailed then s else s.pageKeyCommand page none)

/-- R193: a held command takes effect once none of the operations that it waits for runs. -/
def execKeyCommandApply (slot : Fin 256) (s : State) : Host.Outcome State Fault Refusal :=
  match (s.key slot).pend with
  | none => goOn s
  | some w =>
    if (s.keyUnits slot).any w.units.contains ∨ (s.keyPages slot).any w.pages.contains then goOn s
    else goOn ((s.keyApply slot w.image).arbitrate)

/-- R193: a new OWNER of the slot that SEC_KSEL selects zeroises it; the present value changes nothing. -/
def State.setOwner (s : State) (i owner : Nat) : State :=
  if (s.key i).owner = owner then s else s.setKey i { owner := owner }

def execKeyOwnerWrite (value : Word) (s : State) : Host.Outcome State Fault Refusal :=
  goOn (s.setOwner (s.get SEC_KSEL_SLOT) (slice value.toNat 0 3))

/-- R194: a READY slot meets an operation that its LIMIT or its outgoing counter cannot carry, or its COUNT has reached
LIMIT: EXHAUSTED, E66. -/
def execKeyExhausted (slot : Fin 256) (blocks : Nat) (transmit : Bool) (s : State) : Host.Outcome State Fault Refusal :=
  let k := s.key slot
  if k.state = .ready ∧ (k.image.limit < k.count + blocks ∨ k.count = k.image.limit ∨ (transmit ∧ k.txfc = 0xFFFFFFFF)) then
    goOn (s.exhaust slot)
  else goOn s

/-- A request joins its page's queue of four, or is ignored with SUB_REJ (R198); the arbiter then serves the pages. -/
def State.submit (s : State) (p : Nat) (r : GenReq) : State :=
  let g := s.page p
  if 4 ≤ g.reqs.length then s.flag (SEC_P_STAT_SUB_REJ p) true
  else ((s.flag (SEC_P_STAT_SUB_REJ p) false).setPage p { g with reqs := g.reqs ++ [r] }).arbitrate

/-- R197: a write of SEC_Pp_SUBMIT. -/
def execCipherSubmit (page : Fin 8) (addr : Word) (s : State) : Host.Outcome State Fault Refusal :=
  goOn (if s.refFailed then s else s.submit page { addr := addr.toNat })

/-- R185: the running request of a page ends a chunk and returns to the arbiter. A request whose last chunk this is
ends through CIPHER_DONE instead. -/
def execCipherChunkEnd (page : Fin 8) (s : State) : Host.Outcome State Fault Refusal :=
  let g := s.page page
  match g.reqs, g.lane with
  | r :: rs, some _ =>
    if r.verdict = cipherOk ∧ 16 * (r.chunks + 1) < r.blocks then
      goOn ((s.setPage page { reqs := { r with chunks := r.chunks + 1 } :: rs, lane := none }).arbitrate)
    else goOn s
  | _, _ => goOn s

/-- R197: the running request of a page completes. -/
def execCipherDone (page : Fin 8) (s : State) : Host.Outcome State Fault Refusal :=
  let g := s.page page
  match g.reqs, g.lane with
  | r :: _, some _ =>
    if r.verdict = cipherOk ∧ 16 * (r.chunks + 1) < r.blocks then goOn s
    else goOn ((s.reqComplete page r).arbitrate)
  | _, _ => goOn s

/-- Every request of a page completes with ABORTED (R198). -/
def State.abortPage (s : State) (p : Nat) : State :=
  (s.page p).reqs.foldl (fun (s : State) r => (s.reqStatus r cipherAborted (if r.started then r.blocks else 0) []).reqFinished p cipherAborted) s

/-- R198: SEC_Pp_DONE ABORT. -/
def execPageAbort (page : Fin 8) (s : State) : Host.Outcome State Fault Refusal := goOn ((s.abortPage page).arbitrate)

/-- The receive or transmit unit that runs on a reserved lane (R184): lanes 0 to PAR_6 − 1 serve stage 6, the next
PAR_11 stage 11. -/
def State.laneUnit (s : State) (lane : Nat) : Option Nat :=
  let p6 := s.stagePar 6
  let busy (st : Nat) := (s.atStage st).take (s.stagePar st)
  if s.sec.reserve ≤ lane then none
  else if lane < p6 then (busy 6)[lane]? else (busy 11)[lane - p6]?

/-- R200: a lane finds a parity error in its state, or in a word of the key slot in use. The operation ends with FAULT:
a general request with its DST zeroed, a slot engine unit as R199 says; E67 and an UNCORRECTED entry of the lane or of
the key table. -/
def execCipherFault (lane : Fin 16) (keyWord : Bool) (s : State) : Host.Outcome State Fault Refusal :=
  let note (s : State) (slot : Nat) : State :=
    if keyWord then ((s.setKey slot { s.key slot with state := .fault }).report 2 0x18 slot 0).raise 67
    else (s.report 2 (8 + lane.val) 0 0).raise 67
  match s.laneUnit lane with
  | some id =>
    match s.rxUnit id, s.txUnit id with
    | some u, _ =>
      match u.ctx.bind fun c => s.selectKey c u.hdr with
      | some k => if u.hdr.secured then goOn (((note (s.charged k u.blocks false).2 k).bump SEC_COUNT1_SE_FAULT).endRx u) else goOn s
      | none => goOn s
    | none, some u =>
      match s.txKey u with
      | some k => if u.secure then
          let b := ccmBlocks (decide (4 < u.level)) u.hdrLen (u.octets.length - u.hdrLen)
          goOn (((note (s.charged k b true).2 k).bump SEC_COUNT1_SE_FAULT).endTx u 0xE) else goOn s
      | none => goOn s
    | none, none => goOn s
  | none =>
    match (List.range 8).find? (fun p => (s.page p).lane == some lane.val) with
    | none => goOn s
    | some p =>
      match (s.page p).reqs with
      | [] => goOn s
      | r :: _ =>
        let d := s.reqImage r
        let s := if r.host then s else s.devWrite (leAt d 12 4) (List.replicate (reqDstLen d) 0)
        goOn (((((note s r.slot)).reqStatus r cipherFault r.blocks (List.replicate (if r.host then reqDstLen d else 0) 0)).reqFinished
          p cipherFault).arbitrate)

/-- R201: the owner writes object 0x5003.00: a CCM* request of the host on page 3. Another operation, or octets that do
not match the lengths it declares, is out of range; a full page queue answers BUSY. -/
def execCipherRequestObject (image : List Byte) (s : State) : Host.Outcome State Fault Refusal :=
  if image.length < 40 ∨ !reqIsCcm image ∨ leAt image 8 8 ≠ 0 ∨ image.length ≠ 40 + reqSrcLen image then goOn (s.answer .range)
  else if s.refFailed ∨ 4 ≤ (s.page 3).reqs.length ∨ (s.page 3).reqs.any (·.host) then goOn (s.answer .busy)
  else
    let s := { s with sec := { s.sec with hostReq := image } }
    goOn ((s.submit 3 { addr := 0, host := true }).answer .ok)

end Sys2Proof.Machine
end

