-- ==== Sys2Proof/Machine/ModeFam.lean ====
section
/-! DEFINITION. The modes of R25 to R32 (spec/01_architecture.md): the owner's write of object 0x1011.00 and the
transition it asks for. -/
namespace Sys2Proof.Machine

/-- R27 to R32: the owner writes object 0x1011.00. During a transition the write is refused as busy (R32); 0x0, a code
without a mode, and any write in Compatibility mode are refused with the range or mode error (R29); 0x4 makes a warm
reset into Recovery; another native mode is entered at the next boundary. -/
def execModeWrite (value : Nat) (s : State) : Host.Outcome State Fault Refusal :=
  let m := s.mode
  if s.on PRC_MODE_PENDING then goOn (s.answer .busy)
  else if value = 0 ∨ 5 < value then goOn (s.answer .range)
  else if m = modeCompat ∨ m = modeRecovery then goOn (s.answer .mode)
  else if value = modeRecovery then goOn ((s.requestRecovery).answer .ok)
  else
    let s := (s.flag PRC_MODE_PENDING true).answer .ok
    let s := { s with slot := { s.slot with modeReq := some value } }
    goOn (if s.running then s.flag SLE_STATUS_STOP_PEND true else s)

/-- R28: the transition takes effect: at the boundary of the running program, which it stops, or within 1 ms of the write
with none running. -/
def execModeTransition (s : State) : Host.Outcome State Fault Refusal :=
  match s.slot.modeReq with
  | none => goOn s
  | some m => goOn (if s.running ∧ s.slotLen ≠ 0 then s.boundary 0 0 else s.enterMode m)

end Sys2Proof.Machine
end

