-- ==== Sys2Proof/Machine/CoreOps.lean ====
section
/-! DEFINITION. The cores as named operations: which core, its start and stop, its reset state, its grant windows and its
lock-up (R271, R280, R289, R293, R298). -/
namespace Sys2Proof.Machine

def State.core (s : State) (c1 : Bool) : CoreState := if c1 then s.core1 else s.core0

def State.setCore (s : State) (c1 : Bool) (c : CoreState) : State :=
  if c1 then { s with core1 := c } else { s with core0 := c }

/-- The state of core 1 after a reset that reaches it (R271): stopped; the grant windows and C1_ENTRY are kept by a reset of
core 1 alone (R462). -/
def CoreState.resetOwn (c : CoreState) : CoreState := { gw := c.gw, entry := c.entry }

/-- `n` bytes at `a` lie inside grant window `w`. -/
def inWindow (w : Nat × Nat × Nat) (a n : Nat) : Bool :=
  bit w.2.2 0 && decide (w.1 ≤ a) && decide (a + n ≤ w.1 + w.2.1 + 1)

/-- The rights RD, WR and EX of an ATTR of a window or a descriptor (bits 1 to 3). -/
def rights (attr : Nat) : Nat := slice attr 1 3

/-- Descriptor `d` lies, range and rights, inside one grant window (R280). -/
def CoreState.granted (c : CoreState) (d : Desc) : Bool :=
  c.gw.any fun w => inWindow w d.base (d.limit + 1) && Nat.land (rights d.attr) (rights w.2.2) == rights d.attr

/-- The descriptor of R298 over the first window that has right `r`: rights `mask` of the window's; system SRAM is
TAGGED, other memory INT (log entry 71). -/
def CoreState.firstDesc (c : CoreState) (r mask tpol : Nat) : Desc :=
  match c.gw.find? fun w => bit w.2.2 0 && bit w.2.2 r with
  | none => {}
  | some w => { base := w.1, limit := min w.2.1 (2 ^ 28 - 1), attr := 1 + 2 * Nat.land (rights w.2.2) mask + 32 * (if tpol = 0 ∧ !(inSys w.1 ∧ inSys (w.1 + w.2.1)) then 1 else tpol) }

/-- Core 1 starts (R298): system mode, all G registers EMPTY, S0 the first window with EX, S1 the first with WR. -/
def CoreState.started (c : CoreState) : CoreState :=
  { c.resetOwn with
    run := .running, pc := c.entry.data, ipend := c.ipend
    segs := [c.firstDesc 3 5 1, c.firstDesc 2 3 0] ++ List.replicate 14 {} }

/-- C1_CTRL RUN = 1 starts a stopped core 1 whose entry is CODE. -/
def State.core1Start (s : State) : State :=
  if s.core1.run = .stopped ∧ s.core1.entry.tag = .code then { s with core1 := s.core1.started } else s

/-- C1_CTRL STOP = 1 halts core 1 at the next boundary; its state stays readable (R298). -/
def State.core1Stop (s : State) : State :=
  if s.core1.run = .running ∨ s.core1.run = .waiting then { s with core1 := { s.core1 with run := .stopped } } else s

/-- Window `k` of core 1 is written: every core 1 descriptor that no longer lies inside a window is invalid (R298). -/
def State.writeWindow (s : State) (k : Nat) (w : Nat × Nat × Nat) : State :=
  let c := { s.core1 with gw := s.core1.gw.set k w }
  let keep (d : Desc) : Desc := if bit d.attr 0 ∧ !c.granted d then { d with attr := d.attr - 1 } else d
  { s with core1 := { c with segs := c.segs.map keep } }

/-- R293: the core locks up: it stops and abandons its store buffer, the FATAL entry is logged, and the lock-up reset is
requested. -/
def State.coreLockUp (s : State) (c1 : Bool) (cause : Nat) : State :=
  let c := s.core c1
  let s := s.setCore c1 { c with run := .lockedUp, storeErr := none }
  (s.fatal (if c1 then 2 else 1) c.pc.toNat cause false).requestReset (if c1 then 0x0D else 0x0C)

end Sys2Proof.Machine
end

