-- ==== Sys2Proof/Machine/RegRtc.lean ====
section
/-! DEFINITION. The register fields of the RTC block (base 0x40090000), from the block map and field tables of
spec/09_rtc_backup_domain.md: address, lowest bit, width and reset value of each field, then each register's row of fields with
their access codes (R6) and the values a field accepts. -/
namespace Sys2Proof.Machine

def RTC_STATUS_OSC_STOP : RegField := ⟨0x40090000, 0, 1, 1⟩
def RTC_STATUS_CENTURY_WRAP : RegField := ⟨0x40090000, 1, 1, 0⟩
def RTC_STATUS_DATE_INVALID : RegField := ⟨0x40090000, 2, 1, 0⟩
def RTC_STATUS_ALMA_F : RegField := ⟨0x40090000, 3, 1, 0⟩
def RTC_STATUS_ALMB_F : RegField := ⟨0x40090000, 4, 1, 0⟩
def RTC_STATUS_SKIPPED_A : RegField := ⟨0x40090000, 5, 1, 0⟩
def RTC_STATUS_SKIPPED_B : RegField := ⟨0x40090000, 6, 1, 0⟩
def RTC_STATUS_SHADOW_TO : RegField := ⟨0x40090000, 7, 1, 0⟩
def RTC_STATUS_BKP_LOST : RegField := ⟨0x40090000, 8, 1, 1⟩
def RTC_STATUS_SET_PEND : RegField := ⟨0x40090000, 9, 1, 0⟩
def RTC_STATUS_MEAS_BUSY : RegField := ⟨0x40090000, 10, 1, 0⟩
def RTC_STATUS_FROZEN0 : RegField := ⟨0x40090000, 11, 1, 0⟩
def RTC_STATUS_FROZEN1 : RegField := ⟨0x40090000, 12, 1, 0⟩
def RTC_SUBSEC_SUBSEC : RegField := ⟨0x40090004, 0, 15, 0⟩
def RTC_SEC_VALUE : RegField := ⟨0x40090008, 0, 6, 0⟩
def RTC_MIN_VALUE : RegField := ⟨0x4009000C, 0, 6, 0⟩
def RTC_HOUR_HOUR : RegField := ⟨0x40090010, 0, 5, 0⟩
def RTC_DAY_DAY : RegField := ⟨0x40090014, 0, 5, 1⟩
def RTC_DAY_WDAY : RegField := ⟨0x40090014, 8, 3, 6⟩
def RTC_MONTH_MONTH : RegField := ⟨0x40090018, 0, 4, 1⟩
/-- The calendar's year counter: R236 counts to 2199, and the register shows its bits 10:0 (DEDUCED: log entry 110). -/
def RTC_YEAR_YEAR : RegField := ⟨0x4009001C, 0, 12, 2000⟩
def RTC_SETTIME_SEC : RegField := ⟨0x40090020, 0, 6, 0⟩
def RTC_SETTIME_MIN : RegField := ⟨0x40090020, 8, 6, 0⟩
def RTC_SETTIME_HOUR : RegField := ⟨0x40090020, 16, 5, 0⟩
def RTC_SETDATE_DAY : RegField := ⟨0x40090024, 0, 5, 1⟩
def RTC_SETDATE_MONTH : RegField := ⟨0x40090024, 8, 4, 1⟩
def RTC_SETDATE_YEAR : RegField := ⟨0x40090024, 16, 11, 2000⟩
def RTC_CMD_CMD : RegField := ⟨0x40090028, 0, 3, 0⟩
def RTC_UTCOFF_OFFSET : RegField := ⟨0x4009002C, 0, 8, 0⟩
def RTC_UTCOFF_LEAP : RegField := ⟨0x4009002C, 8, 8, 18⟩
def RTC_ALM_T_SEC (i : Nat) : RegField := ⟨0x40090030 + 0x8 * (i % 2), 0, 6, 0⟩
def RTC_ALM_T_MIN (i : Nat) : RegField := ⟨0x40090030 + 0x8 * (i % 2), 8, 6, 0⟩
def RTC_ALM_T_HOUR (i : Nat) : RegField := ⟨0x40090030 + 0x8 * (i % 2), 16, 5, 0⟩
def RTC_ALM_T_M_SEC (i : Nat) : RegField := ⟨0x40090030 + 0x8 * (i % 2), 24, 1, 0⟩
def RTC_ALM_T_M_MIN (i : Nat) : RegField := ⟨0x40090030 + 0x8 * (i % 2), 25, 1, 0⟩
def RTC_ALM_T_M_HOUR (i : Nat) : RegField := ⟨0x40090030 + 0x8 * (i % 2), 26, 1, 0⟩
def RTC_ALM_D_DAY (i : Nat) : RegField := ⟨0x40090034 + 0x8 * (i % 2), 0, 5, 1⟩
def RTC_ALM_D_MONTH (i : Nat) : RegField := ⟨0x40090034 + 0x8 * (i % 2), 8, 4, 1⟩
def RTC_ALM_D_YEAR (i : Nat) : RegField := ⟨0x40090034 + 0x8 * (i % 2), 16, 11, 2000⟩
def RTC_ALM_D_M_DAY (i : Nat) : RegField := ⟨0x40090034 + 0x8 * (i % 2), 28, 1, 0⟩
def RTC_ALM_D_M_MONTH (i : Nat) : RegField := ⟨0x40090034 + 0x8 * (i % 2), 29, 1, 0⟩
def RTC_ALM_D_M_YEAR (i : Nat) : RegField := ⟨0x40090034 + 0x8 * (i % 2), 30, 1, 0⟩
def RTC_ALMCTRL_A_EN : RegField := ⟨0x40090040, 0, 1, 0⟩
def RTC_ALMCTRL_B_EN : RegField := ⟨0x40090040, 4, 1, 0⟩
def RTC_ALMCTRL_A_ONESHOT : RegField := ⟨0x40090040, 1, 1, 0⟩
def RTC_ALMCTRL_B_ONESHOT : RegField := ⟨0x40090040, 5, 1, 0⟩
def RTC_TRIM_E : RegField := ⟨0x40090044, 0, 20, 0⟩
def RTC_TRIMCFG_SRC : RegField := ⟨0x40090048, 0, 2, 0⟩
def RTC_TRIMCFG_MAINS_60 : RegField := ⟨0x40090048, 2, 1, 0⟩
def RTC_TRIMCFG_AUTO : RegField := ⟨0x40090048, 3, 1, 0⟩
def RTC_TRIMCFG_PIN : RegField := ⟨0x40090048, 8, 6, 0⟩
def RTC_TRIMCFG_WINDOW : RegField := ⟨0x40090048, 16, 12, 600⟩
def RTC_TRIMRES_RESULT : RegField := ⟨0x4009004C, 0, 20, 0⟩
def RTC_TRIMRES_STATUS : RegField := ⟨0x4009004C, 20, 2, 0⟩
def RTC_SUPPLY_ON_VBAK : RegField := ⟨0x40090050, 0, 1, 0⟩
def RTC_SUPPLY_STAMP_VALID : RegField := ⟨0x40090050, 1, 1, 0⟩
def RTC_SUPPLY_SWCOUNT : RegField := ⟨0x40090050, 8, 8, 0⟩
def RTC_SWSTAMP_T_TIME : RegField := ⟨0x40090054, 0, 21, 0⟩
def RTC_SWSTAMP_T_SUBSEC_H : RegField := ⟨0x40090054, 24, 8, 0⟩
def RTC_SWSTAMP_D_DATE : RegField := ⟨0x40090058, 0, 27, 0⟩
def RTC_CMP_COND (i : Nat) : RegField := ⟨0x4009005C + 0x4 * (i % 4), 0, 2, 0⟩
def RTC_CMP_RATE (i : Nat) : RegField := ⟨0x4009005C + 0x4 * (i % 4), 2, 2, 0⟩
def RTC_CMP_DEBOUNCE (i : Nat) : RegField := ⟨0x4009005C + 0x4 * (i % 4), 4, 2, 0⟩
def RTC_CMP_ERASE (i : Nat) : RegField := ⟨0x4009005C + 0x4 * (i % 4), 6, 1, 0⟩
def RTC_CMP_THR (i : Nat) : RegField := ⟨0x4009005C + 0x4 * (i % 4), 8, 4, 0⟩
def RTC_CMPSTAT_LEVEL : RegField := ⟨0x4009006C, 0, 4, 0⟩
def RTC_CMPSTAT_HIT : RegField := ⟨0x4009006C, 4, 4, 0⟩
def RTC_CMPSTAT_ERASED : RegField := ⟨0x4009006C, 8, 1, 0⟩
def RTC_LOCK_LOCK : RegField := ⟨0x40090070, 0, 1, 0⟩

def RTC_STATUS_reg : RegRow :=
  { base := 0x40090000, count := 1, stride := 4,
    rows := fun _ => [
      ⟨RTC_STATUS_OSC_STOP, .ro, fun _ => true, false⟩,
      ⟨RTC_STATUS_CENTURY_WRAP, .w1c, fun _ => true, false⟩,
      ⟨RTC_STATUS_DATE_INVALID, .w1c, fun _ => true, false⟩,
      ⟨RTC_STATUS_ALMA_F, .w1c, fun _ => true, false⟩,
      ⟨RTC_STATUS_ALMB_F, .w1c, fun _ => true, false⟩,
      ⟨RTC_STATUS_SKIPPED_A, .w1c, fun _ => true, false⟩,
      ⟨RTC_STATUS_SKIPPED_B, .w1c, fun _ => true, false⟩,
      ⟨RTC_STATUS_SHADOW_TO, .w1c, fun _ => true, false⟩,
      ⟨RTC_STATUS_BKP_LOST, .w1c, fun _ => true, false⟩,
      ⟨RTC_STATUS_SET_PEND, .ro, fun _ => true, false⟩,
      ⟨RTC_STATUS_MEAS_BUSY, .ro, fun _ => true, false⟩,
      ⟨RTC_STATUS_FROZEN0, .ro, fun _ => true, false⟩,
      ⟨RTC_STATUS_FROZEN1, .ro, fun _ => true, false⟩] }

def RTC_SUBSEC_reg : RegRow :=
  { base := 0x40090004, count := 1, stride := 4,
    rows := fun _ => [
      ⟨RTC_SUBSEC_SUBSEC, .ro, fun _ => true, false⟩] }

def RTC_SEC_reg : RegRow :=
  { base := 0x40090008, count := 1, stride := 4,
    rows := fun _ => [
      ⟨RTC_SEC_VALUE, .ro, fun _ => true, false⟩] }

def RTC_MIN_reg : RegRow :=
  { base := 0x4009000C, count := 1, stride := 4,
    rows := fun _ => [
      ⟨RTC_MIN_VALUE, .ro, fun _ => true, false⟩] }

def RTC_HOUR_reg : RegRow :=
  { base := 0x40090010, count := 1, stride := 4,
    rows := fun _ => [
      ⟨RTC_HOUR_HOUR, .ro, fun _ => true, false⟩] }

def RTC_DAY_reg : RegRow :=
  { base := 0x40090014, count := 1, stride := 4,
    rows := fun _ => [
      ⟨RTC_DAY_DAY, .ro, fun _ => true, false⟩,
      ⟨RTC_DAY_WDAY, .ro, fun _ => true, false⟩] }

def RTC_MONTH_reg : RegRow :=
  { base := 0x40090018, count := 1, stride := 4,
    rows := fun _ => [
      ⟨RTC_MONTH_MONTH, .ro, fun _ => true, false⟩] }

def RTC_YEAR_reg : RegRow :=
  { base := 0x4009001C, count := 1, stride := 4,
    rows := fun _ => [
      ⟨RTC_YEAR_YEAR, .ro, fun _ => true, false⟩] }

def RTC_SETTIME_reg : RegRow :=
  { base := 0x40090020, count := 1, stride := 4,
    rows := fun _ => [
      ⟨RTC_SETTIME_SEC, .rw, fun _ => true, false⟩,
      ⟨RTC_SETTIME_MIN, .rw, fun _ => true, false⟩,
      ⟨RTC_SETTIME_HOUR, .rw, fun _ => true, false⟩] }

def RTC_SETDATE_reg : RegRow :=
  { base := 0x40090024, count := 1, stride := 4,
    rows := fun _ => [
      ⟨RTC_SETDATE_DAY, .rw, fun _ => true, false⟩,
      ⟨RTC_SETDATE_MONTH, .rw, fun _ => true, false⟩,
      ⟨RTC_SETDATE_YEAR, .rw, fun _ => true, false⟩] }

def RTC_CMD_reg : RegRow :=
  { base := 0x40090028, count := 1, stride := 4,
    rows := fun _ => [
      ⟨RTC_CMD_CMD, .wo, fun _ => true, false⟩] }

def RTC_UTCOFF_reg : RegRow :=
  { base := 0x4009002C, count := 1, stride := 4, whole := true,
    rows := fun _ => [
      { field := RTC_UTCOFF_OFFSET, access := .rwl, legal := fun v => signedIn 8 (-48) 56 v },
      ⟨RTC_UTCOFF_LEAP, .rwl, fun _ => true, false⟩] }

def RTC_ALM_T_reg : RegRow :=
  { base := 0x40090030, count := 2, stride := 8,
    rows := fun i => [
      ⟨RTC_ALM_T_SEC i, .rw, fun _ => true, false⟩,
      ⟨RTC_ALM_T_MIN i, .rw, fun _ => true, false⟩,
      ⟨RTC_ALM_T_HOUR i, .rw, fun _ => true, false⟩,
      ⟨RTC_ALM_T_M_SEC i, .rw, fun _ => true, false⟩,
      ⟨RTC_ALM_T_M_MIN i, .rw, fun _ => true, false⟩,
      ⟨RTC_ALM_T_M_HOUR i, .rw, fun _ => true, false⟩] }

def RTC_ALM_D_reg : RegRow :=
  { base := 0x40090034, count := 2, stride := 8,
    rows := fun i => [
      ⟨RTC_ALM_D_DAY i, .rw, fun _ => true, false⟩,
      ⟨RTC_ALM_D_MONTH i, .rw, fun _ => true, false⟩,
      ⟨RTC_ALM_D_YEAR i, .rw, fun _ => true, false⟩,
      ⟨RTC_ALM_D_M_DAY i, .rw, fun _ => true, false⟩,
      ⟨RTC_ALM_D_M_MONTH i, .rw, fun _ => true, false⟩,
      ⟨RTC_ALM_D_M_YEAR i, .rw, fun _ => true, false⟩] }

def RTC_ALMCTRL_reg : RegRow :=
  { base := 0x40090040, count := 1, stride := 4,
    rows := fun _ => [
      ⟨RTC_ALMCTRL_A_EN, .rw, fun _ => true, false⟩,
      ⟨RTC_ALMCTRL_B_EN, .rw, fun _ => true, false⟩,
      ⟨RTC_ALMCTRL_A_ONESHOT, .rw, fun _ => true, false⟩,
      ⟨RTC_ALMCTRL_B_ONESHOT, .rw, fun _ => true, false⟩] }

def RTC_TRIM_reg : RegRow :=
  { base := 0x40090044, count := 1, stride := 4,
    rows := fun _ => [
      ⟨RTC_TRIM_E, .rwl, fun _ => true, false⟩] }

def RTC_TRIMCFG_reg : RegRow :=
  { base := 0x40090048, count := 1, stride := 4,
    rows := fun _ => [
      { field := RTC_TRIMCFG_SRC, access := .rwl, legal := fun v => v != 3 },
      ⟨RTC_TRIMCFG_MAINS_60, .rwl, fun _ => true, false⟩,
      ⟨RTC_TRIMCFG_AUTO, .rwl, fun _ => true, false⟩,
      { field := RTC_TRIMCFG_PIN, access := .rwl, legal := fun v => v ≤ 39 },
      { field := RTC_TRIMCFG_WINDOW, access := .rwl, legal := fun v => v != 0 }] }

def RTC_TRIMRES_reg : RegRow :=
  { base := 0x4009004C, count := 1, stride := 4,
    rows := fun _ => [
      ⟨RTC_TRIMRES_RESULT, .ro, fun _ => true, false⟩,
      ⟨RTC_TRIMRES_STATUS, .ro, fun _ => true, false⟩] }

def RTC_SUPPLY_reg : RegRow :=
  { base := 0x40090050, count := 1, stride := 4,
    rows := fun _ => [
      ⟨RTC_SUPPLY_ON_VBAK, .ro, fun _ => true, false⟩,
      ⟨RTC_SUPPLY_STAMP_VALID, .w1c, fun _ => true, false⟩,
      ⟨RTC_SUPPLY_SWCOUNT, .ro, fun _ => true, false⟩] }

def RTC_SWSTAMP_T_reg : RegRow :=
  { base := 0x40090054, count := 1, stride := 4,
    rows := fun _ => [
      ⟨RTC_SWSTAMP_T_TIME, .ro, fun _ => true, false⟩,
      ⟨RTC_SWSTAMP_T_SUBSEC_H, .ro, fun _ => true, false⟩] }

def RTC_SWSTAMP_D_reg : RegRow :=
  { base := 0x40090058, count := 1, stride := 4,
    rows := fun _ => [
      ⟨RTC_SWSTAMP_D_DATE, .ro, fun _ => true, false⟩] }

def RTC_CMP_reg : RegRow :=
  { base := 0x4009005C, count := 4, stride := 4,
    rows := fun i => [
      ⟨RTC_CMP_COND i, .rwl, fun _ => true, false⟩,
      ⟨RTC_CMP_RATE i, .rwl, fun _ => true, false⟩,
      ⟨RTC_CMP_DEBOUNCE i, .rwl, fun _ => true, false⟩,
      ⟨RTC_CMP_ERASE i, .rwl, fun _ => true, false⟩,
      ⟨RTC_CMP_THR i, .rwl, fun _ => true, false⟩] }

def RTC_CMPSTAT_reg : RegRow :=
  { base := 0x4009006C, count := 1, stride := 4,
    rows := fun _ => [
      ⟨RTC_CMPSTAT_LEVEL, .ro, fun _ => true, false⟩,
      ⟨RTC_CMPSTAT_HIT, .w1c, fun _ => true, false⟩,
      ⟨RTC_CMPSTAT_ERASED, .w1c, fun _ => true, false⟩] }

def RTC_LOCK_reg : RegRow :=
  { base := 0x40090070, count := 1, stride := 4,
    rows := fun _ => [
      ⟨RTC_LOCK_LOCK, .w1s, fun _ => true, false⟩] }

/-- Every register of the RTC block, by address. -/
def rtcRegs : List RegRow :=
  [RTC_STATUS_reg, RTC_SUBSEC_reg, RTC_SEC_reg, RTC_MIN_reg, RTC_HOUR_reg, RTC_DAY_reg, RTC_MONTH_reg, RTC_YEAR_reg, RTC_SETTIME_reg, RTC_SETDATE_reg, RTC_CMD_reg, RTC_UTCOFF_reg, RTC_ALM_T_reg, RTC_ALM_D_reg, RTC_ALMCTRL_reg, RTC_TRIM_reg, RTC_TRIMCFG_reg, RTC_TRIMRES_reg, RTC_SUPPLY_reg, RTC_SWSTAMP_T_reg, RTC_SWSTAMP_D_reg, RTC_CMP_reg, RTC_CMPSTAT_reg, RTC_LOCK_reg]

end Sys2Proof.Machine
end

