-- ==== Sys2Proof/Machine/RtcOps.lean ====
section
/-! DEFINITION. The calendar, alarms, trim and comparators of the backup domain as named operations
(spec/09_rtc_backup_domain.md). -/
namespace Sys2Proof.Machine

def State.setRtc (s : State) (r : Rtc) : State := { s with rtc := r }

/-! The calendar (R236). -/

def leapYear (y : Nat) : Bool := y % 4 == 0 && y != 2100

def monthDays (y m : Nat) : Nat :=
  if m = 2 then (if leapYear y then 29 else 28) else if m = 4 ∨ m = 6 ∨ m = 9 ∨ m = 11 then 30 else 31

/-- The date exists (R238). -/
def dateOk (y m d : Nat) : Bool :=
  2000 ≤ y && y ≤ 2199 && 1 ≤ m && m ≤ 12 && 1 ≤ d && d ≤ monthDays y m

def CalTime.ok (t : CalTime) : Bool :=
  dateOk t.year t.month t.day && t.hour ≤ 23 && t.min ≤ 59 && t.sec ≤ 59

/-- Days from 2000-01-01 to the first day of year `y`. -/
def yearStart (y : Nat) : Nat := 365 * (y - 2000) + (y - 2000 + 3) / 4 - (if 2100 < y then 1 else 0)

/-- Days from 2000-01-01 to a date. -/
def dayNumber (y m d : Nat) : Nat :=
  yearStart y + ((List.range (m - 1)).map fun k => monthDays y (k + 1)).foldl (· + ·) 0 + (d - 1)

/-- The weekday, 1 Monday to 7 Sunday; 2000-01-01 was a Saturday. -/
def weekday (y m d : Nat) : Nat := (5 + dayNumber y m d) % 7 + 1

/-- The second after `t`, and whether the century wraps. -/
def CalTime.next (t : CalTime) : CalTime × Bool :=
  if t.sec < 59 then ({ t with sec := t.sec + 1 }, false)
  else if t.min < 59 then ({ t with sec := 0, min := t.min + 1 }, false)
  else if t.hour < 23 then ({ t with sec := 0, min := 0, hour := t.hour + 1 }, false)
  else if t.day < monthDays t.year t.month then ({ t with sec := 0, min := 0, hour := 0, day := t.day + 1 }, false)
  else if t.month < 12 then ({ t with sec := 0, min := 0, hour := 0, day := 1, month := t.month + 1 }, false)
  else if t.year < 2199 then ({ year := t.year + 1 }, false)
  else ({}, true)

/-- The date and the time of day as numbers in calendar order. -/
def CalTime.dateKey (t : CalTime) : Nat := (t.year * 16 + t.month) * 32 + t.day
def CalTime.todKey (t : CalTime) : Nat := (t.hour * 64 + t.min) * 64 + t.sec
def CalTime.before (a b : CalTime) : Bool := a.dateKey * 131072 + a.todKey < b.dateKey * 131072 + b.todKey

/-- The calendar's counters. -/
def State.calTime (s : State) : CalTime :=
  { year := s.get RTC_YEAR_YEAR, month := s.get RTC_MONTH_MONTH, day := s.get RTC_DAY_DAY,
    hour := s.get RTC_HOUR_HOUR, min := s.get RTC_MIN_VALUE, sec := s.get RTC_SEC_VALUE }

/-- `s` with the calendar at `t`, its weekday computed. -/
def State.setCal (s : State) (t : CalTime) : State :=
  let s := ((s.put RTC_YEAR_YEAR t.year).put RTC_MONTH_MONTH t.month).put RTC_DAY_DAY t.day
  let s := s.put RTC_DAY_WDAY (weekday t.year t.month t.day)
  ((s.put RTC_HOUR_HOUR t.hour).put RTC_MIN_VALUE t.min).put RTC_SEC_VALUE t.sec

/-- One corrected tick of the calendar (R236, R242). -/
def State.calTick (s : State) : State :=
  let n := s.get RTC_SUBSEC_SUBSEC + 1
  if n < 32768 then s.put RTC_SUBSEC_SUBSEC n
  else
    let (t, wrap) := s.calTime.next
    let s := ((s.put RTC_SUBSEC_SUBSEC 0).setCal t).setRtc { s.rtc with secondTick := true }
    if wrap then s.flag RTC_STATUS_CENTURY_WRAP true else s

/-! Alarms (R240, R241). `i` is 0 for alarm A, 1 for alarm B. -/

def almEn (i : Nat) : RegField := if i = 0 then RTC_ALMCTRL_A_EN else RTC_ALMCTRL_B_EN
def almOneshot (i : Nat) : RegField := if i = 0 then RTC_ALMCTRL_A_ONESHOT else RTC_ALMCTRL_B_ONESHOT
def almFlag (i : Nat) : RegField := if i = 0 then RTC_STATUS_ALMA_F else RTC_STATUS_ALMB_F
def almSkipped (i : Nat) : RegField := if i = 0 then RTC_STATUS_SKIPPED_A else RTC_STATUS_SKIPPED_B

/-- The values that a masked or unmasked alarm field admits among `all`. -/
def admitted (masked : Bool) (v : Nat) (all : List Nat) : List Nat := if masked then all else all.filter (· == v)

/-- The dates, and the times of day, at which alarm `i` matches. -/
def State.almDates (s : State) (i : Nat) : List CalTime :=
  let ys := admitted (s.on (RTC_ALM_D_M_YEAR i)) (s.get (RTC_ALM_D_YEAR i)) ((List.range 200).map (· + 2000))
  let ms := admitted (s.on (RTC_ALM_D_M_MONTH i)) (s.get (RTC_ALM_D_MONTH i)) ((List.range 12).map (· + 1))
  let ds := admitted (s.on (RTC_ALM_D_M_DAY i)) (s.get (RTC_ALM_D_DAY i)) ((List.range 31).map (· + 1))
  ys.flatMap fun y => ms.flatMap fun m => (ds.filter (dateOk y m)).map fun d => { year := y, month := m, day := d }

def State.almTimes (s : State) (i : Nat) : List CalTime :=
  let hs := admitted (s.on (RTC_ALM_T_M_HOUR i)) (s.get (RTC_ALM_T_HOUR i)) (List.range 24)
  let ms := admitted (s.on (RTC_ALM_T_M_MIN i)) (s.get (RTC_ALM_T_MIN i)) (List.range 60)
  let ss := admitted (s.on (RTC_ALM_T_M_SEC i)) (s.get (RTC_ALM_T_SEC i)) (List.range 60)
  hs.flatMap fun h => ms.flatMap fun m => ss.map fun x => { hour := h, min := m, sec := x }

/-- An unmasked field equals the calendar's. -/
def fieldHit (masked : Bool) (v w : Nat) : Bool := masked || v == w

/-- All unmasked fields of alarm `i` match `t`. -/
def State.almHit (s : State) (i : Nat) (t : CalTime) : Bool :=
  fieldHit (s.on (RTC_ALM_D_M_YEAR i)) (s.get (RTC_ALM_D_YEAR i)) t.year &&
  fieldHit (s.on (RTC_ALM_D_M_MONTH i)) (s.get (RTC_ALM_D_MONTH i)) t.month &&
  fieldHit (s.on (RTC_ALM_D_M_DAY i)) (s.get (RTC_ALM_D_DAY i)) t.day &&
  fieldHit (s.on (RTC_ALM_T_M_HOUR i)) (s.get (RTC_ALM_T_HOUR i)) t.hour &&
  fieldHit (s.on (RTC_ALM_T_M_MIN i)) (s.get (RTC_ALM_T_MIN i)) t.min &&
  fieldHit (s.on (RTC_ALM_T_M_SEC i)) (s.get (RTC_ALM_T_SEC i)) t.sec

/-- Alarm `i` has an occurrence after `old` and, where `new` is given, not after `new`. -/
def State.almWithin (s : State) (i : Nat) (old : CalTime) (new : Option CalTime) : Bool :=
  (s.almDates i).any fun d =>
    let lo := old.dateKey
    let k := d.dateKey
    let inDay (t : CalTime) : Bool :=
      (lo < k || old.todKey < t.todKey) &&
      (match new with
       | none => true
       | some n => k < n.dateKey || (k == n.dateKey && t.todKey ≤ n.todKey))
    lo ≤ k && (s.almTimes i).any inDay

/-- Alarm `i` fires: its flag, and a one-shot disarms. -/
def State.almFire (s : State) (i : Nat) (skipped disarm : Bool) : State :=
  let s := s.flag (almFlag i) true
  let s := if skipped then s.flag (almSkipped i) true else s
  if disarm ∨ s.on (almOneshot i) then s.flag (almEn i) false else s

/-- The alarms of `is` fire: E88 once. -/
def State.almFireAll (s : State) (is : List Nat) (skipped : Bool) : State :=
  (is.foldl (fun (s : State) i => s.almFire i skipped false) s).raiseIf (!is.isEmpty) 88

/-- Alarm `i` is armed (R240, R241): an impossible combination is refused, one with no occurrence after the present fires
at once. -/
def State.almArm (s : State) (i : Nat) : State :=
  if s.on (almEn i) then s
  else if (s.almDates i).isEmpty ∨ (s.almTimes i).isEmpty then (s.flag RTC_STATUS_DATE_INVALID true).raise 95
  else if s.almWithin i s.calTime none then s.flag (almEn i) true
  else (s.almFire i true true).raise 88

/-! SET (R238). -/

/-- The staged value of RTC_SETTIME and RTC_SETDATE. -/
def State.stagedSet (s : State) : CalTime :=
  { year := s.get RTC_SETDATE_YEAR, month := s.get RTC_SETDATE_MONTH, day := s.get RTC_SETDATE_DAY,
    hour := s.get RTC_SETTIME_HOUR, min := s.get RTC_SETTIME_MIN, sec := s.get RTC_SETTIME_SEC }

/-- A value enters after its check: at the next edge, or held; a value already held is replaced (R238). -/
def State.takeSet (s : State) (t : CalTime) (at_ : Bool) (due : Option Nat) : State :=
  if !t.ok then (s.flag RTC_STATUS_DATE_INVALID true).raise 95
  else if at_ ∨ s.rtc.heldSet.isSome then
    (s.setRtc { s.rtc with heldSet := some { time := t, due := due } }).flag RTC_STATUS_SET_PEND true
  else s.setRtc { s.rtc with dueSet := some t }

/-- The held value may load: its task has arrived, or its TNET second has come. -/
def State.heldReady (s : State) : Option CalTime :=
  match s.rtc.heldSet with
  | none => none
  | some h =>
    let dueNow : Bool := match h.due with
      | some n => decide (n ≤ s.tnet)
      | none => false
    if h.task || dueNow then some h.time else none

/-- The value that the next oscillator edge loads. -/
def State.setReady (s : State) : Option CalTime :=
  match s.heldReady with
  | some t => some t
  | none => s.rtc.dueSet

/-- A valid SET is loaded (R235, R238, R241). -/
def State.loadSet (s : State) (t : CalTime) : State :=
  let old := s.calTime
  let fired := if old.before t then ([0, 1] : List Nat).filter (fun i => s.on (almEn i) && s.almWithin i old (some t)) else []
  let s := ((s.setCal t).put RTC_SUBSEC_SUBSEC 0).flag RTC_STATUS_OSC_STOP false
  let held := if s.heldReady.isSome then none else s.rtc.heldSet
  let s := s.setRtc { s.rtc with dueSet := none, heldSet := held, secondTick := false }
  (s.flag RTC_STATUS_SET_PEND held.isSome).almFireAll fired true

/-- One oscillator cycle (R242): the trim accumulator, then a load that is due, or the corrected count. -/
def State.oscCycle (s : State) : State :=
  let a := s.rtc.acc + signed 20 (s.get RTC_TRIM_E)
  let (a, n) : Int × Nat := if 1000000000 ≤ a then (a - 1000000000, 0) else if a ≤ -1000000000 then (a + 1000000000, 2) else (a, 1)
  let s := s.setRtc { s.rtc with acc := a, secondTick := false }
  match s.setReady with
  | some t => s.loadSet t
  | none => (List.range n).foldl (fun (s : State) _ => s.calTick) s

/-! Measurement (R243). -/

/-- A measurement ends with a status: 0 OK, 1 NOREF, 2 ABORTED, 3 RANGE. -/
def State.measureEnd (s : State) (status : Nat) : State :=
  if s.on RTC_STATUS_MEAS_BUSY then (s.flag RTC_STATUS_MEAS_BUSY false).put RTC_TRIMRES_STATUS status else s

/-- A measurement against the GNSS second marks has lost its reference. -/
def State.measureNoTime (s : State) : State :=
  if s.get RTC_TRIMCFG_SRC = 0 then s.measureEnd 1 else s

/-- A write of RTC_TRIM: a legal value takes effect at the next cycle and clears the accumulator (R242). -/
def State.trimWrite (s : State) (e : Int) : State :=
  if 500000 < e.natAbs then s else (s.put RTC_TRIM_E (unsigned 20 e)).setRtc { s.rtc with acc := 0 }

/-- n / d rounded to the nearest integer, halves away from zero. -/
def roundDiv (n : Int) (d : Nat) : Int :=
  if 0 ≤ n then (2 * n + d) / (2 * d) else -((-2 * n + d) / (2 * d))

/-! Comparators and backup RAM (R233, R244, R245). -/

def backupRam : Nat := 0x27000000

/-- Backup RAM is zeroised: ERASED. -/
def State.bkpErase (s : State) : State := (s.zeroBytes backupRam 64).flag RTC_CMPSTAT_ERASED true

/-- The main domain is powered. -/
def State.mainOn (s : State) : Bool := s.power.state != .standby && s.power.state != .off

end Sys2Proof.Machine
end

