-- ==== Sys2Proof/Machine/Gnss.lean ====
section
/-! DEFINITION. The commands of the GNSS island and of TNET steering (spec/08_gnss_baseband.md). -/
namespace Sys2Proof.Machine

def State.setGnss (s : State) (g : Gnss) : State := { s with gnss := g }

/-! Signals (R204). -/

/-- The PRN is accepted for the signal. -/
def prnOk (sys prn : Nat) : Bool :=
  match sys with
  | 0 => 1 ≤ prn && prn ≤ 32
  | 1 => 1 ≤ prn && prn ≤ 36
  | 2 => 1 ≤ prn && prn ≤ 36
  | 3 => 1 ≤ prn && prn ≤ 63
  | 4 => 1 ≤ prn && prn ≤ 63
  | 5 => 1 ≤ prn && prn ≤ 63
  | 6 => 193 ≤ prn && prn ≤ 202
  | _ => false

/-- Chips of the primary code. -/
def codeLength (sys : Nat) : Nat := [1023, 4092, 4092, 2046, 10230, 10230, 1023].getD sys 1023

/-- Milliseconds of the primary code, which are blocks (R210). -/
def codeMs (sys : Nat) : Nat := [1, 4, 4, 1, 10, 10, 1].getD sys 1

/-- Chips of the secondary code; 0 for none. -/
def secLength (sys : Nat) : Nat := [0, 0, 25, 20, 0, 1800, 0].getD sys 0

/-- Carrier offset from the L1 chain centre in Hz. -/
def signalIf (sys : Nat) : Int := if sys = 3 then -7902000 else 6420000

/-! Acquisition (R206 to R208). -/

/-- The staged command of GNS_ACQW0 to GNS_ACQW3. -/
def State.acqStaged (s : State) : List Byte := ((List.range 4).map fun i => leBytes 4 (s.get (GNS_ACQW_BYTES i))).flatten

/-- R208: PUSH queues the staged command, or is ignored with ACQ_REJ; the island takes none while it is off. -/
def execAcqPush (s : State) : Host.Outcome State Fault Refusal :=
  if !s.on GNS_CTRL_EN then goOn s
  else if 8 ≤ s.gnss.acqCmds.length then goOn (s.flag GNS_ACQSTAT_ACQ_REJ true)
  else goOn ((s.setGnss { s.gnss with acqCmds := s.gnss.acqCmds ++ [s.acqStaged] }).flag GNS_ACQSTAT_ACQ_REJ false)

/-- A result record (R208). -/
def acqResult (cmd : List Byte) (status hflags code : Nat) (dopp : Int) (ratio tRef : Nat) : List Byte :=
  leBytes 1 status ++ leBytes 1 (leAt cmd 0 1) ++ leBytes 1 (leAt cmd 1 1) ++ leBytes 1 hflags ++ leBytes 4 code ++
  leBytes 2 (unsigned 16 dopp) ++ leBytes 2 ratio ++ leBytes 4 tRef

/-- The running command completes with a result: E72. -/
def State.acqFinish (s : State) (r : List Byte) : State :=
  (s.setGnss { s.gnss with acqCmds := s.gnss.acqCmds.drop 1, acqResults := s.gnss.acqResults ++ [r] }).raise 72

/-- The running command and every queued one end with ABORTED. -/
def State.acqAbort (s : State) : State :=
  s.gnss.acqCmds.foldl (fun (s : State) c => s.acqFinish (acqResult c 3 0 0 0 0 0)) s

def execAcqAbort (s : State) : Host.Outcome State Fault Refusal := goOn s.acqAbort

/-- The fields of a command lie within R207. -/
def acqOk (c : List Byte) : Bool :=
  let sys := leAt c 0 1
  let coh := leAt c 2 1
  let d := signed 16 (leAt c 4 2)
  let bin := leAt c 6 2
  sys ≤ 6 && prnOk sys (leAt c 1 1) && 1 ≤ coh && coh ≤ 20 && coh % codeMs sys == 0 && 1 ≤ leAt c 3 1 &&
  decide (-50000 ≤ d) && decide (d ≤ 50000) && 25 ≤ bin && bin ≤ 2000 && leAt c 8 2 < codeLength sys &&
  leAt c 10 2 ≤ codeLength sys && leAt c 13 1 < 2 && leAt c 14 1 < 96 && leAt c 15 1 == 0

def State.chan (s : State) (c : Nat) : GnsChan := Sparse.read {} s.gnss.chans c

def State.setChan (s : State) (c : Nat) (x : GnsChan) : State :=
  s.setGnss { s.gnss with chans := Sparse.write {} s.gnss.chans c x }

/-- A channel starts at the phase in GNS_CPH_c (GNS_CCFG_c). -/
def State.startChan (s : State) (c : Nat) : State :=
  (s.setChan c { code := s.get (GNS_CCODE_CODE c), carr := s.get (GNS_CCARR_CARR c) }).flag (GNS_CCFG_EN c) true

def corrField (c i : Nat) : RegField :=
  [GNS_CCORR0_VALUE c, GNS_CCORR1_VALUE c, GNS_CCORR2_VALUE c, GNS_CCORR3_VALUE c, GNS_CCORR4_VALUE c, GNS_CCORR5_VALUE c,
   GNS_CCORR6_VALUE c, GNS_CCORR7_VALUE c, GNS_CCORR8_VALUE c, GNS_CCORR9_VALUE c, GNS_CCORR10_VALUE c,
   GNS_CCORR11_VALUE c, GNS_CCORR12_VALUE c, GNS_CCORR13_VALUE c].getD i (GNS_CCORR0_VALUE c)

/-- A channel stops and its outputs clear (GNS_CCFG_c). -/
def State.stopChan (s : State) (c : Nat) : State :=
  let s := (List.range 14).foldl (fun (s : State) i => s.put (corrField c i) 0) (s.flag (GNS_CCFG_EN c) false)
  let s := ((s.put (GNS_CDD_DD c) 0).put (GNS_CHIST_HIST c) 0).put (GNS_CPOW_POW c) 0
  (((s.put (GNS_CSTAT_SEQ c) 0).flag (GNS_CSTAT_BLOCK_READY c) false).flag (GNS_CSTAT_OVR c) false).setChan c {}

/-- The NCO word of a carrier at `f` Hz from the chain centre (R209), nearest. -/
def carrierWord (f : Int) : Nat := unsigned 32 ((2 * f * 4294967296 + 38400000) / (2 * 38400000))

/-- R208: a FOUND command with HANDOFF = 1 loads its channel if that is free. -/
def State.handOff (s : State) (c : List Byte) (dopp : Int) (codeNow : Nat) : Nat × State :=
  let ch := leAt c 14 1
  let sys := leAt c 0 1
  if !bit (leAt c 13 1) 0 then (0, s)
  else if s.on (GNS_CCFG_EN ch) then (2, s)
  else
    let s := (s.put (GNS_CCFG_SYS ch) sys).put (GNS_CCFG_PRN ch) (leAt c 1 1)
    let s := (s.put (GNS_CPH_PHASE ch) (codeNow % (codeLength sys * 65536))).put (GNS_CCARR_CARR ch) (carrierWord (signalIf sys + dopp))
    (1, s.startChan ch)

/-- R206, R208: the running command completes with its best peak: code phase at `tRef` and now, Doppler and ratio. A
command outside R207 runs nothing; with 8 results unread none runs. -/
def execAcqDone (code : Nat) (dopp : Int) (ratio tRef codeNow : Nat) (s : State) : Host.Outcome State Fault Refusal :=
  match s.gnss.acqCmds with
  | [] => goOn s
  | c :: _ =>
    if 8 ≤ s.gnss.acqResults.length then goOn s
    else if !acqOk c then goOn (s.acqFinish (acqResult c 2 0 0 0 0 0))
    else
      let code := code % (codeLength (leAt c 0 1) * 65536)
      let found := leAt c 12 1 ≤ ratio
      let (h, s) := if found then s.handOff c dopp codeNow else (0, s)
      goOn (s.acqFinish (acqResult c (if found then 0 else 1) h code dopp (min ratio 65535) tRef))

/-- R208: the oldest result is removed. -/
def execAcqPop (s : State) : Host.Outcome State Fault Refusal :=
  goOn (s.setGnss { s.gnss with acqResults := s.gnss.acqResults.drop 1 })

/-! Tracking (R209 to R216). -/

/-- env of R213. -/
def envelope (i q : Int) : Int := ((max i.natAbs q.natAbs + min i.natAbs q.natAbs / 2 : Nat) : Int)

/-- DD of R213 from the fourteen outputs in register order. -/
def doubleDelta (o : List Int) : Int :=
  let e (k : Nat) : Int := envelope (o.getD (2 * k) 0) (o.getD (2 * k + 1) 0)
  2 * (e 2 - e 4) - (e 1 - e 5)

/-- A channel is a slave of the one before it (R215). -/
def State.isSlave (s : State) (c : Nat) : Bool := c % 2 == 1 && s.on (GNS_CCFG_SLAVE c)

/-- The secondary chip index after a block (R214). -/
def State.secondary (s : State) (c : Nat) : State :=
  let x := s.chan c
  let sys := s.get (GNS_CCFG_SYS c)
  let n := x.sub + 1
  if n < codeMs sys then s.setChan c { x with sub := n }
  else
    let len := secLength sys
    let s := if len = 0 ∨ (!s.on (GNS_CCFG_SEC_EN c) ∧ x.stagedSec.isNone) then s
      else s.put (GNS_CSEC_SECPH c) (x.stagedSec.getD ((s.get (GNS_CSEC_SECPH c) + 1) % len))
    s.setChan c { x with sub := 0, stagedSec := none }

/-- R210 to R215: a channel reaches a block boundary with these fourteen outputs. -/
def execBlockBoundary (chan : Fin 96) (outs : List Int) (s : State) : Host.Outcome State Fault Refusal :=
  let c := chan.val
  if !s.on GNS_CTRL_EN ∨ !s.on (GNS_CCFG_EN c) then goOn s
  else
    let s := (List.range 14).foldl (fun (s : State) i => s.put (corrField c i) (unsigned 32 (outs.getD i 0))) s
    let s := s.put (GNS_CDD_DD c) (unsigned 32 (doubleDelta outs))
    let s := s.bumpWrap (GNS_CSTAT_SEQ c)
    let s := s.put (GNS_CHIST_HIST c) (2 * s.get (GNS_CHIST_HIST c) + ofBool (decide (0 < outs.getD 6 0)))
    let s := if s.on (GNS_CSTAT_BLOCK_READY c) then s.flag (GNS_CSTAT_OVR c) true else s
    let s := (s.flag (GNS_CSTAT_BLOCK_READY c) true).put (GNS_CPH_PHASE c) 0
    let s := s.secondary c
    let x := s.chan c
    let p := (outs.getD 6 0).natAbs ^ 2 + (outs.getD 7 0).natAbs ^ 2
    let m := if s.isSlave c then c - 1 else c
    let x := { x with code := s.get (GNS_CCODE_CODE m), carr := s.get (GNS_CCARR_CARR m), blocks := (x.blocks + 1) % 2 ^ 32,
                      windowSum := x.windowSum + p, windowBlocks := x.windowBlocks + 1 }
    let ms := s.clock / 100000
    let s := s.setChan c x
    if s.gnss.accumMs = some ms then goOn s
    else goOn ((s.setGnss { s.gnss with accumMs := some ms }).raise 83)

/-- R216: a window of 20 blocks closes: POW, and LOST with E73 after LOSS_N windows below LOSS_THR. -/
def execLockMonitorWindow (chan : Fin 96) (s : State) : Host.Outcome State Fault Refusal :=
  let c := chan.val
  let x := s.chan c
  if !s.on (GNS_CCFG_EN c) ∨ x.windowBlocks < 20 then goOn s
  else
    let pow := x.windowSum / x.windowBlocks / 65536
    let s := s.put (GNS_CPOW_POW c) (pow % 2 ^ 32)
    let x := { x with windowSum := 0, windowBlocks := 0 }
    if s.get GNS_LOCKCFG_LOSS_THR ≤ pow then goOn ((s.setChan c { x with losses := 0 }).flag (GNS_CCFG_LOST c) false)
    else
      let n := x.losses + 1
      let s := s.setChan c { x with losses := n }
      if s.get GNS_LOCKCFG_LOSS_N ≤ n ∧ !s.on (GNS_CCFG_LOST c) then goOn ((s.flag (GNS_CCFG_LOST c) true).raise 73)
      else goOn s

/-! Notches, jamming, gain (R205, R217, R218). -/

/-- Centre of spectral bin `k` in kHz from the chain centre. -/
def binKhz (k : Nat) : Int := 75 * ((k : Int) - 256)

/-- The candidate bins of a spectrum: those that exceed the median bin by at least `thr` dB, with their levels. -/
def candidates (levels : List Int) (thr : Nat) : List (Nat × Int) :=
  let sorted := levels.foldl (fun l x => (l.filter (· ≤ x)) ++ [x] ++ (l.filter (fun y => x < y))) []
  let median := sorted.getD 256 0
  (levels.zipIdx.filter fun x => decide (median + (thr : Int) ≤ x.1)).map fun x => (x.2, x.1)

/-- An interferer at `f` kHz is a candidate. -/
def isCandidate (cs : List (Nat × Int)) (f : Int) : Bool := cs.any fun c => decide ((binKhz c.1 - f).natAbs ≤ 75)

/-- R217: one millisecond of auto notch `n`, whose gradient adaptation now stands at `track` kHz. -/
def State.notchStep (cs : List (Nat × Int)) (s : State) (n : Nat) (track : Int) : State :=
  let x := s.gnss.notches.getD n {}
  let set (s : State) (x : Notch) : State := s.setGnss { s.gnss with notches := setAt s.gnss.notches n x }
  if !s.on (GNS_NOTCH_EN n) ∨ !s.on (GNS_NOTCH_AUTO n) then set (s.flag (GNS_NOTCH_LOCKED n) false) {}
  else if !x.holds then
    let taken (f : Int) : Bool := (List.range n).any fun m => (s.gnss.notches.getD m {}).holds &&
      decide ((signed 16 (s.get (GNS_NOTCH_FREQ m)) - f).natAbs ≤ 75)
    match (cs.filter fun c => !taken (binKhz c.1)).foldl (fun (b : Option (Nat × Int)) c => match b with
        | none => some c
        | some d => if d.2 < c.2 then some c else some d) none with
    | none => s
    | some c => set (s.put (GNS_NOTCH_FREQ n) (unsigned 16 (binKhz c.1))) { holds := true, anchor := binKhz c.1 }
  else
    let s := s.put (GNS_NOTCH_FREQ n) (unsigned 16 track)
    let absent := if isCandidate cs track then 0 else x.absent + 1
    if 100 ≤ absent then set (s.flag (GNS_NOTCH_LOCKED n) false) {}
    else
      let still := decide ((track - x.anchor).natAbs ≤ 75)
      let x := { x with absent := absent, anchor := if still then x.anchor else track, steady := if still then x.steady + 1 else 0 }
      let s := set s x
      if 10 ≤ x.steady ∧ !s.on (GNS_NOTCH_LOCKED n) then (s.flag (GNS_NOTCH_LOCKED n) true).raise 81 else s

/-- R217: each millisecond the monitor's 512 bin levels (dB) give the candidates, and the notches take, track, lock and
release them. -/
def execSpectrumUpdate (levels : List Int) (tracks : List Int) (s : State) : Host.Outcome State Fault Refusal :=
  if !s.on GNS_CTRL_EN then goOn s
  else
    let cs := candidates levels (s.get (GNS_NOTCH_NOTCH_THR 0))
    goOn ((List.range 4).foldl (fun (s : State) n => s.notchStep cs n (tracks.getD n 0)) s)

/-- R218: the indicator J from the input power of the last 100 ms; E80 at each crossing. -/
def execJammingUpdate (p8 : Int) (s : State) : Host.Outcome State Fault Refusal :=
  if !s.on GNS_CTRL_EN then goOn s
  else
    let d := p8 - Config.p8Ref
    let j := if d < 0 then 0 else if 255 < d then 255 else d.toNat
    let s := s.put GNS_JAM_J j
    let thr := s.get GNS_JAM_JAM_THR
    if !s.on GNS_STATUS_JAM ∧ thr ≤ j then goOn ((s.flag GNS_STATUS_JAM true).raise 80)
    else if s.on GNS_STATUS_JAM ∧ j + s.get GNS_JAM_JAM_HYST ≤ thr then goOn ((s.flag GNS_STATUS_JAM false).raise 80)
    else goOn s

/-- R205: each millisecond the AGC moves the gain by at most 1 dB towards an RMS of 5.0 ± 0.5; `rms` in tenths. -/
def execGnssAgcStep (rms : Nat) (s : State) : Host.Outcome State Fault Refusal :=
  let g := s.get GNS_GAIN_GAIN
  if !s.on GNS_CTRL_EN ∨ !s.on GNS_CTRL_AGC_AUTO then goOn s
  else if 55 < rms then goOn (s.put GNS_GAIN_GAIN (g - 1))
  else if rms < 45 then goOn (s.put GNS_GAIN_GAIN (min 63 (g + 1)))
  else goOn s

/-! GTIME, steering and the time pulse (R219 to R226). -/

/-- Nanoseconds as 76.8 MHz cycles. -/
def nsCycles (ns : Int) : Int := Int.tdiv (ns * 768) 10000

/-- STEER_LOCK is lost: E79 if it was held. -/
def State.steerUnlock (s : State) : State :=
  ((s.setGnss { s.gnss with goodRun := 0 }).flag GNS_STATUS_STEER_LOCK false).raiseIf (s.on GNS_STATUS_STEER_LOCK) 79

/-- R226: a sample's effect on the lock. -/
def State.steerLockStep (s : State) (e : Int) : State :=
  if 1000 < e.natAbs then s.steerUnlock
  else
    let n := s.gnss.goodRun + 1
    let s := s.setGnss { s.gnss with goodRun := n }
    if 4 ≤ n ∧ !s.on GNS_STATUS_STEER_LOCK then (s.flag GNS_STATUS_STEER_LOCK true).raise 78 else s

/-- TNET steps whole by `d` ticks with no program running. -/
def State.stepTnet (s : State) (d : Int) : State :=
  ({ s with tnet := ((s.tnet : Int) + d).toNat % 2 ^ 64 }).setGnss { s.gnss with stepped := true, tnetSet := true }

def steerMax : Int := 160000

/-- R223 to R225: one steering step for the mark of second `sec`; with no program running, what is left of a pending
phase correction is applied whole. -/
def State.steerStep (s : State) (sec latePs : Nat) : State :=
  if !s.on GNS_GTCTRL_TIME_VALID ∨ !s.steering then s
  else if s.mac.pendCorr ≠ 0 then
    if s.running then s
    else ({ s with mac := { s.mac with pendCorr := 0 } }.stepTnet s.mac.pendCorr).put MAC_CORR_LAST (unsigned 32 s.mac.pendCorr)
  else
    let off : Int := (s.tnet : Int) - ((sec * 100000000 : Nat) : Int)
    let e : Int := 10 * off - (((latePs + 500) / 1000 : Nat) : Int)
    let s := s.put GNS_STEERE_VALUE (unsigned 32 (clampInt (2 ^ 31 - 1) e))
    if !s.gnss.tnetSet ∨ 1000000000 ≤ e.natAbs then
      if s.running then
        ((s.setGnss { s.gnss with heldStep := -off }).flag GNS_STATUS_COARSE_HOLD true).steerUnlock
      else ((s.steerUnlock).flag GNS_STATUS_COARSE_HOLD false).stepTnet (-off)
    else
      let s := s.flag GNS_STATUS_COARSE_HOLD false
      if s.get GNS_STEERCFG_SLEW_LIM < e.natAbs then
        let p := -(roundAway10 e)
        let s := s.steerUnlock
        if s.running then { s with mac := { s.mac with pendCorr := p } }
        else (s.stepTnet p).put MAC_CORR_LAST (unsigned 32 p)
      else
        let i := clampInt steerMax (s.gnss.integ + Int.tdiv (16 * e) (2 ^ s.get GNS_STEERCFG_KI_SH))
        let r := clampInt steerMax (i + Int.tdiv (16 * e) (2 ^ s.get GNS_STEERCFG_KP_SH))
        ((s.setGnss { s.gnss with integ := i }).put GNS_STEERR_VALUE (unsigned 32 r)).steerLockStep e
where
  /-- e / 10, halves away from zero. -/
  roundAway10 (e : Int) : Int := if 0 ≤ e then (e + 5) / 10 else -((-e + 5) / 10)

/-- The time pulse settings come into force at a second mark (R220). -/
def State.takePulse (s : State) : State :=
  s.setGnss { s.gnss with pulse := { mode := s.get GNS_TPCFG_TP_MODE, period := s.get GNS_TPPER_VALUE,
                                     width := s.get GNS_TPWID_VALUE, offset := signed 32 (s.get GNS_TPOFF_OFFSET) } }

/-- R220, R224: a whole GTIME second: the mark, its steering step, the phase trim and the pulse settings. -/
def execSecondMark (latePs : Fin 13021) (s : State) : Host.Outcome State Fault Refusal :=
  if !s.on GNS_CTRL_EN then goOn s
  else
    let sec := s.gnss.gtSec + 1
    let s := s.steerStep sec latePs
    let s := s.setGnss { s.gnss with gtSec := sec, gtCycles := s.gnss.gtTrim.getD 0, gtTrim := none }
    goOn ((s.put GNS_TPQERR_LATE_PS latePs).takePulse)

/-- R220: a leading edge on TP_OUT with E75, by TP_MODE; LATE_PS of the next edge. -/
def execTimePulse (latePs : Fin 13021) (s : State) : Host.Outcome State Fault Refusal :=
  let m := s.gnss.pulse.mode
  if !s.on GNS_CTRL_EN ∨ m = 0 ∨ (m = 1 ∧ !s.on GNS_GTCTRL_TIME_VALID) then goOn s
  else goOn (((s.setGnss { s.gnss with pulseOn := true }).put GNS_TPQERR_LATE_PS latePs).raise 75)

/-- R220: WIDTH after its leading edge the pulse ends. -/
def execTimePulseTrailingEdge (s : State) : Host.Outcome State Fault Refusal :=
  goOn (s.setGnss { s.gnss with pulseOn := false })

/-- R219: GTIME is loaded from GNS_GTSEC and GNS_GTNS. -/
def execGtimeSet (s : State) : Host.Outcome State Fault Refusal :=
  if !s.on GNS_CTRL_EN then goOn s
  else goOn (s.setGnss { s.gnss with gtSec := s.get GNS_GTSEC_SEC, gtCycles := nsCycles (s.get GNS_GTNS_NS) })

/-- R219: a phase trim of at most 50 000 ns waits for the next second mark; another value is ignored. -/
def execGtphaseTrim (value : Word) (s : State) : Host.Outcome State Fault Refusal :=
  let p := signed 32 value.toNat
  if 50000 < p.natAbs then goOn s else goOn (s.setGnss { s.gnss with gtTrim := some (nsCycles p) })

/-- R219, R225, R226: firmware writes TIME_VALID: E76, or E77 with holdover while steering is active. -/
def execTimeValidWrite (valid : Bool) (s : State) : Host.Outcome State Fault Refusal :=
  let was := s.on GNS_GTCTRL_TIME_VALID
  let s := (s.flag GNS_GTCTRL_TIME_VALID valid).flag GNS_STATUS_TIME_VALID valid
  if was = valid then goOn s
  else if valid then goOn ((s.flag GNS_STATUS_HOLDOVER false).raise 76)
  else
    let s := (s.raise 77).measureNoTime
    goOn (if s.steering then (s.flag GNS_STATUS_HOLDOVER true).steerUnlock else s)

/-- R225: FORCE applies the held coarse step at the next slot boundary; without COARSE_HOLD it is ignored. -/
def execSteerForce (s : State) : Host.Outcome State Fault Refusal :=
  if !s.on GNS_STATUS_COARSE_HOLD then goOn s
  else if s.running then goOn ({ s with slot := { s.slot with coarse := some s.gnss.heldStep } }.setGnss { s.gnss with tnetSet := true, stepped := true })
  else goOn ((s.flag GNS_STATUS_COARSE_HOLD false).stepTnet s.gnss.heldStep)

/-- R225: RESET_I sets I and RATE to 0. -/
def execSteerResetI (s : State) : Host.Outcome State Fault Refusal :=
  goOn ((s.setGnss { s.gnss with integ := 0 }).put GNS_STEERR_VALUE 0)

/-! The measurement latch (R221, R222). -/

/-- What the latch measures of a channel: code phase since the block's start, accumulated carrier cycles, their fraction. -/
structure ChanPhase where
  codePh : Nat
  cycles : Int
  frac : Nat
deriving DecidableEq, Repr

/-- The record of channel `c`; all 0 unless it is enabled and has completed a block. -/
def State.measRecord (s : State) (phases : List (Nat × Int × Nat)) (c : Nat) : List Byte :=
  let x := s.chan c
  if !s.on (GNS_CCFG_EN c) ∨ x.blocks = 0 then List.replicate 32 0
  else
    let slave := s.isSlave c
    let m := if slave then c - 1 else c
    let (ph, cyc, fr) := phases.getD m (0, 0, 0)
    let fl := 1 + 2 * s.get (GNS_CCFG_LOST c) + 4 * ofBool slave + 8 * s.get (GNS_CCFG_SEC_EN c)
    leBytes 1 fl ++ leBytes 1 (s.get (GNS_CCFG_SYS c)) ++ leBytes 1 (s.get (GNS_CCFG_PRN c)) ++ leBytes 1 (s.get (GNS_CSTAT_SEQ c)) ++
    leBytes 4 ph ++ leBytes 4 x.blocks ++ leBytes 4 (unsigned 32 cyc) ++ leBytes 2 fr ++ leBytes 2 (s.get (GNS_CSEC_SECPH c)) ++
    leBytes 4 x.carr ++ leBytes 4 x.code ++ leBytes 4 (s.get (GNS_CPOW_POW c))

/-- The header of a buffer for epoch TNET `t`. -/
def State.measHeader (s : State) (t per : Nat) : List Byte :=
  let fl := s.get GNS_GTCTRL_TIME_VALID + 2 * s.get GNS_STATUS_STEER_LOCK + 4 * s.get GNS_STATUS_HOLDOVER + 8 * ofBool s.gnss.stepped
  leBytes 8 t ++ leBytes 4 (t / per) ++ leBytes 1 fl ++ leBytes 1 (s.get GNS_JAM_J) ++ leBytes 2 0 ++
  leBytes 4 (s.get GNS_STEERR_VALUE) ++ leBytes 4 (s.get GNS_STEERE_VALUE) ++ leBytes 8 0

/-- R221, R222: the last epoch at or before the present TNET is latched once, into the buffer not written last: E74.
`phases` are the code and carrier phases of the channels at the epoch. -/
def execMeasLatch (phases : List (Nat × Int × Nat)) (s : State) : Host.Outcome State Fault Refusal :=
  let per := s.get GNS_MEASCFG_PERIOD * 10000000
  let t := s.tnet / per * per
  let again : Bool := match s.gnss.lastEpoch with
    | some e => decide (t ≤ e)
    | none => false
  if !s.on GNS_CTRL_EN ∨ per = 0 ∨ again = true then goOn s
  else
    let buf := 1 - s.get GNS_MEASSTAT_BUF
    let a := 0x40088000 + 0x1000 * buf
    let s := s.setBytes a (s.measHeader t per ++ ((List.range 96).map (s.measRecord phases)).flatten)
    let s := (s.put GNS_MEASSTAT_BUF buf).put GNS_MEASSTAT_EPOCH (t / per)
    goOn ((s.setGnss { s.gnss with lastEpoch := some t, stepped := false }).raise 74)

/-- R227: object 0x6008.00 forces a start class, 1 hot, 2 warm, 3 cold; COLD deletes the stored data. -/
def execGnssRestart (start : Nat) (s : State) : Host.Outcome State Fault Refusal :=
  if start = 0 ∨ 3 < start then goOn (s.answer .range)
  else goOn ((s.setGnss { s.gnss with startClass := start, stored := if start = 3 then [] else s.gnss.stored }).answer .ok)

end Sys2Proof.Machine
end

