-- ==== Sys2Proof/Machine/Memory.lean ====
section
/-! DEFINITION. The commands of the memories and the fault collector (spec/13_memories_error_codes.md). -/
namespace Sys2Proof.Machine

/-- The next word of the patrol in a memory. -/
def patrolNext (a base size : Nat) : Nat := if a + 4 < base + size then a + 4 else base

/-- R319: the patrol reads one word of each SRAM; `sysErr` and `pktErr` are the parity bits it finds wrong. -/
def execPatrolRead (sysErr : Fin 32) (pktErr : Fin 16) (s : State) : Host.Outcome State Fault Refusal :=
  if !s.on MEM_CTRL_SCRUB_EN then goOn s
  else
    let check (s : State) (a mask : Nat) : State :=
      if mask = 0 ∨ s.poisoned a then s else (s.poisonWord a mask true).bump MEM_STATUS_SCRUB_FOUND
    let s := check (check s s.memctl.patrolSys sysErr) s.memctl.patrolPkt pktErr
    goOn { s with memctl := { s.memctl with patrolSys := patrolNext s.memctl.patrolSys 0x20000000 0x200000,
                                            patrolPkt := patrolNext s.memctl.patrolPkt 0x24000000 0x90000 } }

/-- R325: ARM is written 1; outside Test mode it is ignored. -/
def execFlipArm (s : State) : Host.Outcome State Fault Refusal :=
  if s.mode ≠ modeTest then goOn s else goOn ((s.flag MEM_FLIPCFG_ARM true).flag MEM_FLIPCFG_USED false)

/-- Every merge entry is to be flushed. -/
def State.flushAll (s : State) : State := (s.mergeTrigger fun _ => true).kick

/-- R327: FLUSH is written to MEM_MERGE. -/
def execMergeFlush (s : State) : Host.Outcome State Fault Refusal := goOn s.flushAll

/-- R327: 100 µs without a store to the buffer. -/
def execMergeIdleFlush (s : State) : Host.Outcome State Fault Refusal := goOn s.flushAll

/-- R332: a report reaches the collector. -/
def execFaultReport (cls : Fin 4) (src : Fin 64) (addr : Word) (detail : Fin 256) (s : State) : Host.Outcome State Fault Refusal :=
  goOn (s.report cls src addr.toNat detail)

/-- Every open UNCORRECTED entry of a source is closed (R331). -/
def State.closeSource (s : State) (src : Nat) : State :=
  { s with faults := { s.faults with
      openMask := clearBit s.faults.openMask src,
      entries := s.faults.entries.map fun e => if e.cls = 2 ∧ e.src = src then { e with isOpen := false } else e } }

/-- Every open FATAL entry is closed (R331). -/
def State.closeFatal (s : State) : State :=
  { s with faults := { s.faults with
      fatals := 0,
      entries := s.faults.entries.map fun e => if e.cls = 3 then { e with isOpen := false } else e } }

/-- R331: ERR_CLOSE. -/
def execFaultClose (src : Fin 256) (srcEn fatal : Bool) (s : State) : Host.Outcome State Fault Refusal :=
  let s := if srcEn then s.closeSource src else s
  goOn (if fatal then s.closeFatal else s)

/-- R334: ERR_POP removes entry 0 unless it is OPEN. -/
def execFaultPop (s : State) : Host.Outcome State Fault Refusal :=
  match s.faults.entries with
  | e :: es =>
    if e.isOpen then goOn (s.flag ERR_STATUS_POP_REJ true)
    else goOn (({ s with faults := { s.faults with entries := es } }).flag ERR_STATUS_POP_REJ false)
  | [] => goOn (s.flag ERR_STATUS_POP_REJ false)

/-- R332: ERR_INJECT; ignored outside Test mode. -/
def execFaultInject (cls : Fin 4) (s : State) : Host.Outcome State Fault Refusal :=
  if s.mode ≠ modeTest then goOn s else goOn (s.report cls 0x20 0 0)

end Sys2Proof.Machine
end

