-- ==== Sys2Proof/Machine/Rtc.lean ====
section
/-! DEFINITION. The commands of the backup domain (spec/09_rtc_backup_domain.md). -/
namespace Sys2Proof.Machine

/-- R242, R236: a cycle of the sleep oscillator. -/
def execRtcTick (s : State) : Host.Outcome State Fault Refusal :=
  if !s.rtc.oscRuns then goOn s else goOn s.oscCycle

/-- R240: the second tick just counted is matched against the armed alarms. -/
def execAlarmFire (s : State) : Host.Outcome State Fault Refusal :=
  if !s.rtc.secondTick then goOn s
  else
    let hit := ([0, 1] : List Nat).filter fun i => s.on (almEn i) && s.almHit i s.calTime
    goOn ((s.setRtc { s.rtc with secondTick := false }).almFireAll hit false)

/-- R235, R243: 1 ms without an edge. -/
def execOscStop (s : State) : Host.Outcome State Fault Refusal :=
  if !s.rtc.oscRuns then goOn s
  else
    let s := ((s.setRtc { s.rtc with oscRuns := false }).flag RTC_STATUS_OSC_STOP true).measureEnd 2
    let s := s.raise 94
    goOn (if s.mainOn then s.report 0 0x1D 0 0x14 else s)

/-- R235: counting resumes from the held time. -/
def execOscReturn (s : State) : Host.Outcome State Fault Refusal := goOn (s.setRtc { s.rtc with oscRuns := true })

/-- R238: RTC_CMD SET. -/
def execRtcSet (s : State) : Host.Outcome State Fault Refusal := goOn (s.takeSet s.stagedSet false none)

/-- R238: RTC_CMD SET_AT. -/
def execRtcSetAt (s : State) : Host.Outcome State Fault Refusal := goOn (s.takeSet s.stagedSet true none)

/-- R238: RTC_CMD CANCEL. -/
def execRtcSetCancel (s : State) : Host.Outcome State Fault Refusal :=
  goOn ((s.setRtc { s.rtc with heldSet := none }).flag RTC_STATUS_SET_PEND false)

/-- R238, R241: the oscillator edge that loads a SET. -/
def execRtcSetApply (s : State) : Host.Outcome State Fault Refusal :=
  if !s.rtc.oscRuns ∨ s.setReady.isNone then goOn s else goOn s.oscCycle

/-- The date that lies `n` days after 2000-01-01. -/
def dateOfDay (n : Nat) : CalTime :=
  let y := 2000 + ((List.range 200).filter fun k => yearStart (2000 + k) ≤ n).length - 1
  let r := n - yearStart y
  let m := ((List.range 12).filter fun k => dayNumber y (k + 1) 1 ≤ n).length
  { year := y, month := m, day := r - (dayNumber y m 1 - yearStart y) + 1 }

/-- The calendar time that object 0x7001.02 sets for TNET second `sec` (R239): 7300 days lie between the epochs of TNET
and of the calendar. Times before 2000 give year 0, which the check of R238 rejects. -/
def networkCal (sec leap : Nat) (offset : Int) : CalTime :=
  let t : Int := (sec : Int) - leap + offset * 900 - 630720000
  if t < 0 ∨ yearStart 2200 * 86400 ≤ t.toNat then { year := 0 }
  else
    let n := t.toNat
    { dateOfDay (n / 86400) with hour := n % 86400 / 3600, min := n % 3600 / 60, sec := n % 60 }

/-- R239: object 0x7001.02: the calendar is set at the next whole TNET second through SET_AT. -/
def execSetFromNetworkTime (value : Nat) (s : State) : Host.Outcome State Fault Refusal :=
  if value ≠ 1 then goOn (s.answer .range)
  else
    let sec := s.tnet / 100000000 + 1
    let t := networkCal sec (s.get RTC_UTCOFF_LEAP) (signed 8 (s.get RTC_UTCOFF_OFFSET))
    goOn ((s.takeSet t true (some (sec * 100000000))).answer .ok)

/-- R243: RTC_CMD MEASURE; a second one while MEAS_BUSY = 1 is ignored. -/
def execRtcMeasure (s : State) : Host.Outcome State Fault Refusal :=
  if s.on RTC_STATUS_MEAS_BUSY then goOn s
  else
    let s := s.flag RTC_STATUS_MEAS_BUSY true
    goOn (if s.on GNS_GTCTRL_TIME_VALID then s else s.measureNoTime)

/-- R243: RTC_CMD MEAS_ABORT. -/
def execMeasAbort (s : State) : Host.Outcome State Fault Refusal := goOn (s.measureEnd 2)

/-- R243: the window ends with `count` oscillator cycles counted. -/
def execMeasureDone (count : Nat) (s : State) : Host.Outcome State Fault Refusal :=
  if !s.on RTC_STATUS_MEAS_BUSY then goOn s
  else
    let expected := s.get RTC_TRIMCFG_WINDOW * 32768
    let r := roundDiv (((count : Int) - expected) * 1000000000) expected
    let s := s.put RTC_TRIMRES_RESULT (unsigned 20 (clampInt 500000 r))
    if 500000 < r.natAbs then goOn (s.measureEnd 3)
    else goOn (if s.on RTC_TRIMCFG_AUTO then (s.measureEnd 0).trimWrite r else s.measureEnd 0)

/-- R243: SRC = 1 and no pulse for 100 ms. -/
def execMeasureNoref (s : State) : Host.Outcome State Fault Refusal :=
  goOn (if s.get RTC_TRIMCFG_SRC = 1 then s.measureEnd 1 else s)

/-- The value of time register `i` (0 SUBSEC to 6 YEAR) in a shadow; RTC_YEAR shows 11 bits of the year. -/
def Shadow.reg (h : Shadow) (i : Nat) : Nat :=
  [h.subsec, h.time.sec, h.time.min, h.time.hour, h.time.day + 256 * h.wday, h.time.month, h.time.year % 2048].getD i 0

/-- R237: core `core1` reads time register `i`. -/
def State.timeRead (s : State) (core1 : Bool) (i : Nat) : State :=
  let frozen := if core1 then RTC_STATUS_FROZEN1 else RTC_STATUS_FROZEN0
  let old := if core1 then s.rtc.shadow1 else s.rtc.shadow0
  let h : Shadow := if s.on frozen then old
    else { time := s.calTime, wday := s.get RTC_DAY_WDAY, subsec := s.get RTC_SUBSEC_SUBSEC }
  let s := s.setRtc (if core1 then { s.rtc with shadow1 := h } else { s.rtc with shadow0 := h })
  let s := s.flag frozen (decide (i ≠ 6))
  { s with host := { s.host with readData := h.reg i } }

def execTimeRegisterRead (core1 : Bool) (reg : Fin 7) (s : State) : Host.Outcome State Fault Refusal :=
  goOn (s.timeRead core1 reg)

/-- R237: a shadow frozen for 1 s is released. -/
def execShadowTimeout (core1 : Bool) (s : State) : Host.Outcome State Fault Refusal :=
  let frozen := if core1 then RTC_STATUS_FROZEN1 else RTC_STATUS_FROZEN0
  if !s.on frozen then goOn s else goOn ((s.flag frozen false).flag RTC_STATUS_SHADOW_TO true)

/-- R240, R241: EN of alarm A or B is written 1, with its ONESHOT bit. -/
def execAlarmArm (alarmB oneshot : Bool) (s : State) : Host.Outcome State Fault Refusal :=
  let i := ofBool alarmB
  goOn ((s.flag (almOneshot i) oneshot).almArm i)

/-- R242: a write of RTC_TRIM; locked by RTC_LOCK. -/
def execRtcTrimWrite (value : Word) (s : State) : Host.Outcome State Fault Refusal :=
  if s.on RTC_LOCK_LOCK then goOn s else goOn (s.trimWrite (signed 20 value.toNat))

/-- R234: VSUP falls below 1.60 V while VBAK holds the domain. -/
def execSupplySwitch (s : State) : Host.Outcome State Fault Refusal :=
  if s.on RTC_SUPPLY_ON_VBAK then goOn s
  else
    let s := (s.flag RTC_SUPPLY_ON_VBAK true).bump RTC_SUPPLY_SWCOUNT
    let s := if s.mainOn then s.report 0 0x1D 0 0x15 else s
    if s.on RTC_SUPPLY_STAMP_VALID then goOn s
    else
      let t := s.calTime
      let s := s.put RTC_SWSTAMP_T_TIME (t.sec + 256 * t.min + 65536 * t.hour)
      let s := s.put RTC_SWSTAMP_T_SUBSEC_H (s.get RTC_SUBSEC_SUBSEC / 128)
      let s := s.put RTC_SWSTAMP_D_DATE (t.day + 256 * t.month + 65536 * t.year)
      goOn ((s.flag RTC_SUPPLY_STAMP_VALID true).raise 93)

/-- R234: VSUP rises above 1.65 V. -/
def execSupplyReturn (s : State) : Host.Outcome State Fault Refusal := goOn (s.flag RTC_SUPPLY_ON_VBAK false)

/-- The first and last key of the fields of the RTC block. -/
def rtcKeys : Nat × Nat := (0x40090000 * 32, 0x40090080 * 32)

/-- The backup domain as its own power-on leaves it (R233, R235), the router configuration it holds among it (R265). -/
def State.backupReset (s : State) : State :=
  let fs := s.fields.dropRange rtcKeys.1 rtcKeys.2
  let fs := (List.range 4).foldl (fun fs c => Sparse.dropRange fs ((0x400B0100 + 0x40 * c) * 32) ((0x400B0120 + 0x40 * c) * 32)) fs
  ({ s with fields := fs, rtc := {} }).zeroBytes backupRam 64

def execBackupPowerOn (s : State) : Host.Outcome State Fault Refusal := goOn s.backupReset

/-- R244: comparator `n` samples its input; `high` says that it stands above the threshold. -/
def execComparatorSample (n : Fin 4) (high : Bool) (s : State) : Host.Outcome State Fault Refusal :=
  let cond := s.get (RTC_CMP_COND n)
  let level := s.get RTC_CMPSTAT_LEVEL
  if cond = 0 ∨ !s.rtc.oscRuns then goOn s
  else if bit level n = high then goOn (s.setRtc { s.rtc with cmpRuns := s.rtc.cmpRuns.set n 0 })
  else
    let runs := s.rtc.cmpRuns.getD n 0 + 1
    if runs ≤ s.get (RTC_CMP_DEBOUNCE n) then goOn (s.setRtc { s.rtc with cmpRuns := s.rtc.cmpRuns.set n runs })
    else
      let s := s.setRtc { s.rtc with cmpRuns := s.rtc.cmpRuns.set n 0 }
      let s := s.put RTC_CMPSTAT_LEVEL (if high then setBit level n else clearBit level n)
      if cond = 3 ∨ (cond = 1 ∧ high = true) ∨ (cond = 2 ∧ high = false) then
        let s := (s.put RTC_CMPSTAT_HIT (setBit (s.get RTC_CMPSTAT_HIT) n)).raise (89 + n)
        goOn (if s.on (RTC_CMP_ERASE n) then s.bkpErase else s)
      else goOn s

end Sys2Proof.Machine
end

