-- ==== Sys2Proof/Machine/Tag.lean ====
section
/-! DEFINITION. The contactless tag port (spec/17_contactless_tag.md): field commands, passwords, protected writes, the
semaphore and the field. -/
namespace Sys2Proof.Machine

/-- The identity record of OTP has the right CRC-32 (R423). -/
def State.identityOk (s : State) : Bool := decide (s.otp 28 4 = fcs32 (s.otp 0 28))

/-- The serial number, object 0x1000.02: 0 where the identity CRC fails (R431). -/
def State.serial (s : State) : List Byte := if s.identityOk then s.otp 0 8 else List.replicate 8 0

/-- The fields whose reset value is an address of the OTP identity record (R180, R380, R423): MAC_EXT and HDP_MAC; 0 where
its CRC fails (R431). -/
def State.otpDefaults (s : State) : State :=
  let n (off len : Nat) : Nat := if s.identityOk then s.otpNum off len else 0
  ((((s.put MAC_EXT_L_EXT (n 8 4)).put MAC_EXT_H_EXT (n 12 4)).put HDP_MAC_L_MAC (n 16 4)).put HDP_MAC_H_MAC (n 20 2))

/-- The UID (R403), byte 0 first. -/
def State.tagUid (s : State) : List Byte := s.serial.take 6 ++ [Config.tagMaker, 0xE0]

/-- The device is powered in the sense of the tag chapter. -/
def State.tagPowered (s : State) : Bool :=
  s.power.supply && (s.power.state == .run || s.power.state == .doze || s.power.state == .sleep)

/-- Bus address of block `b` (R406). -/
def tagAddr (b : Nat) : Nat := 0x26000000 + 4 * b

def State.tagBlock (s : State) (b : Nat) : Nat := s.num (tagAddr b) 4

def State.setTagBlock (s : State) (b v : Nat) : State := s.setNum (tagAddr b) 4 v

/-- ATTEMPTS, RP and WP of area `k`. -/
def State.tagAttempts (s : State) (k : Nat) : Nat := slice (s.tagBlock (2000 + k)) 8 8
def State.tagRp (s : State) (k : Nat) : Bool := bit (s.tagBlock (2000 + k)) 0
def State.tagWp (s : State) (k : Nat) : Bool := bit (s.tagBlock (2000 + k)) 1
def State.tagLocked (s : State) (k : Nat) : Bool := 8 ≤ s.tagAttempts k

/-- Blocks `b` to `b + n - 1` span these areas. -/
def tagAreas (b n : Nat) : List Nat := (List.range 8).filter fun k => decide (248 * k < b + n) && decide (b < 248 * k + 248)

def State.setTagPort (s : State) (t : TagPort) : State := { s with tag := t }

/-! The semaphore (R416, R417). -/

/-- The side that a request of both sides in one cycle serves. -/
def State.tagOwner (s : State) : TagSide :=
  if !s.tagPowered || s.on TAG_CTRL_FIELD_PRIORITY then .field else .core

/-- A side asks for the semaphore; `tie` is a request of the other side in the same cycle. -/
def State.tagTake (s : State) (side : TagSide) (tie : Bool) : Bool × State :=
  match s.tag.write with
  | some w => (false, if w.side = side then s else s.setTagPort { s.tag with refused := some side })
  | none =>
    match s.tag.reserved with
    | some r => if r = side then (true, s.setTagPort { s.tag with reserved := none }) else (false, s)
    | none => (!(tie && s.tagPowered && s.tagOwner != side), s)

/-- The semaphore is released: a side that was refused during the hold gets its reservation. -/
def State.tagRelease (s : State) : State :=
  s.setTagPort { s.tag with write := none, reserved := s.tag.refused, refused := none }

/-! Answers (R402, R405). -/

/-- The request is for this tag in its present state. -/
def State.tagHears (s : State) (r : TagReq) : Bool :=
  s.tag.field && s.tag.ready && !r.sub && (match r.addr with
    | .any => s.tag.state != .quiet
    | .own => true
    | .other => false
    | .selected => s.tag.state == .selected)

def State.tagAnswer (s : State) (bs : List Byte) : State := s.setTagPort { s.tag with answer := some (0 :: bs) }
def State.tagError (s : State) (code : Nat) : State := s.setTagPort { s.tag with answer := some [1, BitVec.ofNat 8 code] }

/-- The answer to a write that has ended; a reader that has gone receives none. -/
def State.tagReply (s : State) (r : Except Nat (List Byte)) : State :=
  if !s.tag.field then s
  else match r with
    | .ok bs => s.tagAnswer bs
    | .error code => s.tagError code

/-- A field command runs if the tag hears it; else there is no answer. The request samples VREC. -/
def State.tagServe (s : State) (r : TagReq) (f : State → State) : State :=
  let s := s.setTagPort { s.tag with answer := none }
  if s.tagHears r then f (s.setTagPort { s.tag with vrec := r.vrec }) else s

/-! Reads (R404, R408). -/

/-- The error of a field read of blocks: range, lockout, protection (R405, R411). -/
def State.tagReadError (s : State) (limit b n : Nat) : Option Nat :=
  let areas := tagAreas b n
  if n = 0 ∨ 32 < n ∨ limit < b + n then some 0x10
  else if areas.any s.tagLocked then some 0xA2
  else if areas.any (fun k => s.tagRp k && !bit s.tag.readSessions k) then some 0xA4
  else none

/-- A block is not writable in the present session (R404, 0x2C). -/
def State.tagSecured (s : State) (b : Nat) : Bool :=
  (tagAreas b 1).any fun k => s.tagLocked k || (s.tagWp k && !bit s.tag.writeSessions k)

/-- A field read of `n` blocks from `b`; with Option_flag each block is preceded by its security status. -/
def State.tagRead (s : State) (limit b n : Nat) (r : TagReq) : State :=
  match s.tagReadError limit b n with
  | some e => s.tagError e
  | none =>
    let (ok, s) := s.tagTake .field r.tie
    if !ok then s.tagError 0xA3
    else s.tagAnswer (((List.range n).map fun k =>
      (if r.option then leBytes 1 (ofBool (s.tagSecured (b + k))) else []) ++ s.bytes (tagAddr (b + k)) 4).flatten)

def execReadSingleBlock (req : TagReq) (block : Fin 256) (s : State) : Host.Outcome State Fault Refusal :=
  goOn (s.tagServe req fun s => s.tagRead 256 block 1 req)

def execReadMultipleBlocks (req : TagReq) (block count : Fin 256) (s : State) : Host.Outcome State Fault Refusal :=
  goOn (s.tagServe req fun s => s.tagRead 256 block (count + 1) req)

def execExtendedReadSingleBlock (req : TagReq) (block : Fin 65536) (s : State) : Host.Outcome State Fault Refusal :=
  goOn (s.tagServe req fun s => s.tagRead 1984 block 1 req)

def execExtendedReadMultipleBlocks (req : TagReq) (block count : Fin 65536) (s : State) : Host.Outcome State Fault Refusal :=
  goOn (s.tagServe req fun s => s.tagRead 1984 block (count + 1) req)

/-- The security status of `n` blocks from `b` (R404). -/
def State.tagSecurity (s : State) (limit b n : Nat) : State :=
  if limit < b + n then s.tagError 0x10
  else s.tagAnswer ((List.range n).map fun k => BitVec.ofNat 8 (ofBool (s.tagSecured (b + k))))

def execGetMultipleBlockSecurityStatus (req : TagReq) (block count : Fin 256) (s : State) : Host.Outcome State Fault Refusal :=
  goOn (s.tagServe req fun s => s.tagSecurity 256 block (count + 1))

def execExtGetMultipleBlockSecurityStatus (req : TagReq) (block count : Fin 65536) (s : State) :
    Host.Outcome State Fault Refusal :=
  goOn (s.tagServe req fun s => s.tagSecurity 1984 block (count + 1))

/-! Identification and states (R402, R404). -/

def State.tagAfi (s : State) : Nat := slice (s.tagBlock 2008) 0 8
def State.tagDsfid (s : State) : Nat := slice (s.tagBlock 2008) 8 8

/-- An AFI of a request selects this tag: 0 every tag, a family with sub-family 0 the whole family, else an equal AFI. -/
def State.afiMatches (s : State) (afi : Option (Fin 256)) : Bool :=
  match afi with
  | none => true
  | some a => a.val == 0 || (a.val % 16 == 0 && s.tagAfi / 16 == a.val / 16) || s.tagAfi == a.val

/-- R404: Inventory. The tag answers with DSFID and UID in the slot that the UID bits behind the mask give; not in
Quiet. -/
def execTagInventory (sub sixteen : Bool) (afi : Option (Fin 256)) (maskLen : Fin 65) (mask : Nat) (s : State) :
    Host.Outcome State Fault Refusal :=
  let s := s.setTagPort { s.tag with answer := none }
  let uid := leNat s.tagUid
  if !s.tag.field || !s.tag.ready || sub || s.tag.state == .quiet || !s.afiMatches afi || uid % 2 ^ maskLen.val != mask % 2 ^ maskLen.val then
    goOn s
  else
    let s := s.tagAnswer (leBytes 1 s.tagDsfid ++ s.tagUid)
    goOn (s.setTagPort { s.tag with slot := if sixteen then uid / 2 ^ maskLen.val % 16 else 0 })

/-- R404: Stay quiet has no answer. -/
def execTagStayQuiet (req : TagReq) (s : State) : Host.Outcome State Fault Refusal :=
  goOn (s.tagServe req fun s => if req.addr = .own then s.setTagPort { s.tag with state := .quiet } else s)

/-- R404: Select enters Selected; a Select of another tag ends it. -/
def execTagSelect (req : TagReq) (s : State) : Host.Outcome State Fault Refusal :=
  let out := s.tag.field && s.tag.ready && !req.sub && req.addr == .other && s.tag.state == .selected
  goOn (if out then s.setTagPort { s.tag with state := .ready, answer := none }
    else s.tagServe req fun s => if req.addr = .own then (s.setTagPort { s.tag with state := .selected }).tagAnswer [] else s)

/-- R404: Reset to ready enters Ready. -/
def execResetToReady (req : TagReq) (s : State) : Host.Outcome State Fault Refusal :=
  goOn (s.tagServe req fun s => (s.setTagPort { s.tag with state := .ready }).tagAnswer [])

/-- R404: information flags, UID, DSFID and AFI; the memory size is omitted. -/
def execGetSystemInformation (req : TagReq) (s : State) : Host.Outcome State Fault Refusal :=
  goOn (s.tagServe req fun s => s.tagAnswer (3 :: s.tagUid ++ leBytes 1 s.tagDsfid ++ leBytes 1 s.tagAfi))

/-- R404: with the memory size of 1 984 blocks of 4 bytes. -/
def execExtendedGetSystemInformation (req : TagReq) (s : State) : Host.Outcome State Fault Refusal :=
  goOn (s.tagServe req fun s =>
    s.tagAnswer (7 :: s.tagUid ++ leBytes 1 s.tagDsfid ++ leBytes 1 s.tagAfi ++ leBytes 2 1983 ++ leBytes 1 3))

/-- The LOCKOUT bitmap. -/
def State.tagLockoutMap (s : State) : Nat := (List.range 8).foldl (fun n k => n + 2 ^ k * ofBool (s.tagLocked k)) 0

/-- R409: GET_STATUS. -/
def execGetStatus (req : TagReq) (s : State) : Host.Outcome State Fault Refusal :=
  goOn (s.tagServe req fun s => s.tagAnswer (leBytes 1 s.tag.vrec ++ leBytes 1 s.tagLockoutMap ++
    leBytes 1 s.tag.readSessions ++ leBytes 1 s.tag.writeSessions))

/-- R402, R404: an unsupported command, and one of 0xC0 to 0xCF outside Recovery: error 0x01 when addressed or selected. -/
def execUnsupportedCommand (req : TagReq) (s : State) : Host.Outcome State Fault Refusal :=
  goOn (s.tagServe req fun s => if req.addr = .any then s else s.tagError 0x01)

/-! Protected writes (R411, R412). -/

/-- A protected write begins and holds the semaphore. -/
def State.tagBegin (s : State) (w : TagWrite) : State := s.setTagPort { s.tag with write := some w }

/-- Steps 4 and 5 of R411 for a field write, which then begins: semaphore, then field strength of 2.4 V. -/
def State.tagFieldWrite (s : State) (r : TagReq) (w : TagWrite) : State :=
  let (ok, s) := s.tagTake .field r.tie
  if !ok then s.tagError 0xA3 else if s.tag.vrec < 96 then s.tagError 0xA1 else s.tagBegin w

/-- R411: a field write of one block of the user area. -/
def State.tagWriteBlock (s : State) (limit b data : Nat) (r : TagReq) : State :=
  let areas := tagAreas b 1
  if limit ≤ b then s.tagError 0x10
  else if areas.any s.tagLocked then s.tagError 0xA2
  else if areas.any (fun k => s.tagWp k && !bit s.tag.writeSessions k) then s.tagError 0xA4
  else s.tagFieldWrite r { side := .field, block := b, data := data }

def execWriteSingleBlock (req : TagReq) (block : Fin 256) (data : Word) (s : State) : Host.Outcome State Fault Refusal :=
  goOn (s.tagServe req fun s => s.tagWriteBlock 256 block data.toNat req)

def execExtendedWriteSingleBlock (req : TagReq) (block : Fin 65536) (data : Word) (s : State) :
    Host.Outcome State Fault Refusal :=
  goOn (s.tagServe req fun s => s.tagWriteBlock 1984 block data.toNat req)

/-- R411: a write of block 2008 that keeps its other fields; a locked AFI or DSFID answers 0x12. -/
def State.tagWriteInfo (s : State) (lo w v lockBit : Nat) (r : TagReq) : State :=
  let b := s.tagBlock 2008
  if bit b (16 + lockBit) then s.tagError 0x12
  else s.tagFieldWrite r { side := .field, block := 2008, data := splice b lo w v }

def execWriteAfi (req : TagReq) (value : Fin 256) (s : State) : Host.Outcome State Fault Refusal :=
  goOn (s.tagServe req fun s => s.tagWriteInfo 0 8 value 0 req)

def execLockAfi (req : TagReq) (s : State) : Host.Outcome State Fault Refusal :=
  goOn (s.tagServe req fun s => s.tagWriteInfo 16 1 1 0 req)

def execWriteDsfid (req : TagReq) (value : Fin 256) (s : State) : Host.Outcome State Fault Refusal :=
  goOn (s.tagServe req fun s => s.tagWriteInfo 8 8 value 1 req)

def execLockDsfid (req : TagReq) (s : State) : Host.Outcome State Fault Refusal :=
  goOn (s.tagServe req fun s => s.tagWriteInfo 17 1 1 1 req)

/-- The configuration word of area `k` with another ATTEMPTS count. -/
def State.tagCounted (s : State) (k n : Nat) : Nat := splice (s.tagBlock (2000 + k)) 8 8 n

/-- R409: PRESENT_PASSWORD counts the attempt first; the comparison follows that write. -/
def execPresentPassword (req : TagReq) (area kind : Fin 256) (password : Word) (s : State) : Host.Outcome State Fault Refusal :=
  let k := area.val
  goOn (s.tagServe req fun s =>
    if 7 < k ∨ 1 < kind.val then s.tagError 0x10
    else if s.tagLocked k then s.tagError 0xA2
    else s.tagFieldWrite req { side := .field, block := 2000 + k, data := s.tagCounted k (s.tagAttempts k + 1),
                               purpose := .attempt k kind password.toNat })

/-- R409: CHANGE_PASSWORD needs an open session of the area and kind. -/
def execChangePassword (req : TagReq) (area kind : Fin 256) (new : Word) (s : State) : Host.Outcome State Fault Refusal :=
  let k := area.val
  goOn (s.tagServe req fun s =>
    if 7 < k ∨ 1 < kind.val then s.tagError 0x10
    else if s.tagLocked k then s.tagError 0xA2
    else if !bit (if kind.val = 0 then s.tag.readSessions else s.tag.writeSessions) k then s.tagError 0xA4
    else s.tagFieldWrite req { side := .field, block := (if kind.val = 0 then 1984 else 1992) + k, data := new.toNat })

/-! The commit record (R413 to R415). -/

/-- The CRC-16 of a COMMIT record: bytes 0 and 1 of the record, then SHADOW. -/
def commitCrc (low shadow : Nat) : Nat := crc16 (leBytes 2 low ++ leBytes 4 shadow)

/-- A COMMIT record for a block and SHADOW data. -/
def commitOf (block shadow : Nat) : Nat :=
  let low := block % 2048 + 2048 * 0b10100
  low + 65536 * commitCrc low shadow

/-- The block of a valid COMMIT record (R413). -/
def State.commitBlock (s : State) : Option Nat :=
  let c := s.tagBlock 2041
  let low := c % 65536
  if slice c 11 5 = 0b10100 ∧ c / 65536 = commitCrc low (s.tagBlock 2040) then some (c % 2048) else none

/-- R415: the island powers up, completes a valid record and is ready. -/
def State.tagUp (s : State) : State :=
  if s.tag.ready then s
  else
    let s := match s.commitBlock with
      | some b => ((s.setTagBlock b (s.tagBlock 2040)).setTagBlock 2041 0).setTagPort { s.tag with recovered := true }
      | none => s
    s.setTagPort { s.tag with ready := true }

def execTagPowerUp (s : State) : Host.Outcome State Fault Refusal :=
  if s.tagPowered ∨ s.tag.field = true then goOn s.tagUp else goOn s

/-- A word of the EEPROM torn by a loss of power: its content is open. -/
def State.tagTorn (s : State) (b : Nat) : State :=
  ({ s with free := s.free + 1 }).setTagBlock b (Config.freeValue s.free % 2 ^ 32)

/-- R414: the island loses power while step `step` of R412 runs. A torn COMMIT never counts as committed in step 3; in step
5 it may still be valid. -/
def State.tagTear (s : State) (w : TagWrite) (step : Nat) : State :=
  if step = 1 then s
  else if step = 2 then s.tagTorn 2040
  else
    let s := s.setTagBlock 2040 w.data
    let full := s.setTagBlock 2041 (commitOf w.block w.data)
    if step = 3 then
      let t := s.tagTorn 2041
      if t.commitBlock.isSome then t.setTagBlock 2041 0 else t
    else if step = 4 then full.tagTorn w.block
    else
      let done := full.setTagBlock w.block w.data
      if Config.freeValue done.free % 2 = 0 then { done with free := done.free + 1 } else ({ done with free := done.free + 1 }).tagTorn 2041

/-- The island loses its power: a write is torn, sessions close. -/
def State.tagDown (s : State) (step : Nat) : State :=
  let s := match s.tag.write with
    | some w => s.tagTear w step
    | none => s
  s.setTagPort { field := s.tag.field, recovered := s.tag.recovered }

/-! The end of a write (R412, R419). -/

/-- The core side's write ends with a status: TAG_WSTAT. -/
def State.tagCoreDone (s : State) (block : Nat) (good : Bool) : State :=
  let s := ((s.flag TAG_WSTAT_RUN false).put TAG_WSTAT_STATUS (if good then 0 else 3)).bumpWrap TAG_WSTAT_COUNT
  if good then s else s.report 2 0x1C block 0

/-- An attempt has been counted: the password is compared (R409). Without the field the attempt stays counted. -/
def State.tagCompare (s : State) (area kind password : Nat) : State :=
  if s.tag.field ∧ s.tagBlock ((if kind = 0 then 1984 else 1992) + area) = password then
    s.tagBegin { side := .field, block := 2000 + area, data := s.tagCounted area 0, purpose := .opened area kind }
  else
    let s := s.tagRelease.tagReply (.error 0xA5)
    if s.tagLocked area then s.setTagPort { s.tag with lockouts := if s.tagPowered then s.tag.lockouts ++ [area] else s.tag.lockouts }
    else s

/-- A session opens (R407), if the field is still there. -/
def State.tagOpen (s : State) (area kind : Nat) : State :=
  if !s.tag.field then s else s.setTagPort (if kind = 0 then { s.tag with readSessions := setBit s.tag.readSessions area }
    else { s.tag with writeSessions := setBit s.tag.writeSessions area })

/-- R412 steps 4 to 6: copy home, COMMIT cleared, semaphore released, answer or status; `good` is the read-back's match. A
block that reads back wrong holds an open value. -/
def execTagWriteDone (good : Bool) (s : State) : Host.Outcome State Fault Refusal :=
  match s.tag.write with
  | none => goOn s
  | some w =>
    let s := (s.setTagBlock 2040 w.data).setTagBlock 2041 0
    let s := if good then s.setTagBlock w.block w.data else s.tagTorn w.block
    match w.purpose, w.side with
    | .data, .core => goOn ((s.tagRelease).tagCoreDone w.block good)
    | .clear, _ => goOn ((s.tagRelease).tagCoreDone w.block good)
    | .data, .field =>
      let s := s.tagRelease
      let s := s.tagReply (if good then .ok [] else .error 0x13)
      goOn (s.raiseIf s.tagPowered 122)
    | .attempt a k p, _ => goOn (if good then s.tagCompare a k p else s.tagRelease.tagReply (.error 0x13))
    | .opened a k, _ => goOn (if good then (s.tagRelease.tagOpen a k).tagReply (.ok []) else s.tagRelease.tagReply (.error 0x13))

/-- R410: ATTEMPTS of an area has reached 8: E123 where the main domain was powered. -/
def execTagLockout (area : Fin 8) (s : State) : Host.Outcome State Fault Refusal :=
  if s.tag.lockouts.contains area.val then
    goOn ((s.setTagPort { s.tag with lockouts := s.tag.lockouts.filter (· != area.val) }).raise 123)
  else goOn s

/-! The core side (R418). -/

/-- What a core-side write of a block stores (R406): the whole word of the user area and the passwords, byte 0 of an area's
configuration, the defined bits of block 2008; nothing elsewhere. -/
def State.tagCoreData (s : State) (b data : Nat) : Option Nat :=
  if b < 2000 then some data
  else if b < 2008 then some (splice (s.tagBlock b) 0 2 data)
  else if b = 2008 then some (data % 2 ^ 18)
  else none

/-- A core-side write of one block begins, or is refused; the status is that of TAG_WSTAT. -/
def State.tagCoreWrite (s : State) (b data : Nat) (purpose : TagPurpose) (tie : Bool) : State :=
  if s.on TAG_WSTAT_RUN then s
  else match (if purpose = .clear then some data else s.tagCoreData b data) with
  | none => s.put TAG_WSTAT_STATUS 2
  | some d =>
    let (ok, s) := s.tagTake .core tie
    if !ok || !s.tag.ready then s.put TAG_WSTAT_STATUS 1
    else (s.flag TAG_WSTAT_RUN true).tagBegin { side := .core, block := b, data := d, purpose := purpose }

/-- R418: a write of TAG_WCMD; `tie` is a field request in the same cycle. -/
def execTagBlockWrite (value : Word) (tie : Bool) (s : State) : Host.Outcome State Fault Refusal :=
  if bit value.toNat 16 then goOn (s.tagCoreWrite (slice value.toNat 0 11) (s.get TAG_WDATA_DATA) .data tie) else goOn s

/-- R418: CLEAR_ATTEMPTS sets ATTEMPTS of one area to 0 with a protected write. -/
def State.tagClear (s : State) (area : Nat) (tie : Bool) : State :=
  s.tagCoreWrite (2000 + area) (s.tagCounted area 0) .clear tie

def execClearAttempts (area : Fin 8) (tie : Bool) (s : State) : Host.Outcome State Fault Refusal := goOn (s.tagClear area tie)

/-! The field (R419). -/

/-- R419: the field is detected: E120 where powered, a wake request in Sleep, Deep and Standby with WAKE_EN = 1. -/
def execFieldOn (vrec : Fin 256) (s : State) : Host.Outcome State Fault Refusal :=
  if s.tag.field then goOn (s.setTagPort { s.tag with vrec := vrec })
  else
    let s := s.setTagPort { s.tag with field := true, vrec := vrec, state := .ready }
    let low := s.power.state = .sleep ∨ s.power.state = .deep ∨ s.power.state = .standby
    if low ∧ s.on TAG_CTRL_WAKE_EN then goOn ((s.setTagPort { s.tag with event := true }).wakeRequest 9)
    else goOn (s.raiseIf s.tagPowered 120)

/-- R419, R407: the field is lost: sessions close, E121 where powered. Where only the field powered the island, a write is
torn in step `step` of R412. -/
def execFieldOff (step : Fin 6) (s : State) : Host.Outcome State Fault Refusal :=
  if !s.tag.field then goOn s
  else
    let s := s.setTagPort { s.tag with field := false, vrec := 0, readSessions := 0, writeSessions := 0, state := .ready }
    if s.tagPowered then goOn (s.raise 121) else goOn (s.tagDown (max 1 step))

/-- R417: the reservation of 5 ms ends. -/
def execReservationEnd (s : State) : Host.Outcome State Fault Refusal :=
  goOn (s.setTagPort { s.tag with reserved := none })

/-- Object 0xB006.00. -/
def State.tagSelect (s : State) : Nat := s.objNum 0xB00600

/-- Whole blocks written one by one from block `b` (R420): `busyAfter` blocks before the field side takes the semaphore,
`badAt` a block whose read-back fails. The first block not written, if any. -/
def State.tagBlocks (s : State) (busyAfter : Nat) (badAt : Option Nat) : Nat → Nat → List Byte → Option Nat × State
  | 0, _, _ => (none, s)
  | n + 1, b, bs =>
    let (ok, s) := s.tagTake .core false
    if !ok ∨ busyAfter = 0 ∨ !s.tag.ready then (some b, s)
    else
      let good := badAt != some b
      let s := (s.setTagBlock 2040 (leAt bs 0 4)).setTagBlock 2041 0
      let s := if good then s.setTagBlock b (leAt bs 0 4) else s.tagTorn b
      (s.tagCoreDone b good).tagBlocks (busyAfter - 1) badAt n (b + 1) (bs.drop 4)

/-- R420: object 0xB006.01 writes whole blocks from the selected one; on BUSY 0xB006.00 holds the first block not written. -/
def State.tagDataWrite (s : State) (bs : List Byte) (busyAfter : Nat) (badAt : Option Nat) : State :=
  let n := bs.length / 4
  let b := s.tagSelect
  if bs.length < 4 ∨ 1024 < bs.length ∨ bs.length % 4 ≠ 0 then s.answer .length
  else if 1984 < b + n then s.answer .range
  else match s.tagBlocks busyAfter badAt n b bs with
  | (some k, s) => ({ s with objs := Sparse.write [] s.objs 0xB00600 (leBytes 2 k) }).answer .busy
  | (none, s) => s.answer .ok

def execTagMemoryDataWrite (data : List Byte) (busyAfter : Nat) (badAt : Option Nat) (s : State) :
    Host.Outcome State Fault Refusal :=
  goOn (s.tagDataWrite data busyAfter badAt)

end Sys2Proof.Machine
end

