-- ==== Sys2Proof/Machine/RegTmr.lean ====
section
/-! DEFINITION. The register fields of the TMR block (base 0x400A0000), from the block map and field tables of
spec/10_timers_event_routing.md: address, lowest bit, width and reset value of each field, then each register's row of fields with
their access codes (R6) and the values a field accepts. -/
namespace Sys2Proof.Machine

def TMR_CTRL_EN (i : Nat) : RegField := ⟨0x400A0000 + 0x20 * (i % 8), 0, 1, 0⟩
def TMR_CTRL_CLKSEL (i : Nat) : RegField := ⟨0x400A0000 + 0x20 * (i % 8), 1, 2, 0⟩
def TMR_CTRL_PRE (i : Nat) : RegField := ⟨0x400A0000 + 0x20 * (i % 8), 4, 4, 0⟩
def TMR_CTRL_ONESHOT (i : Nat) : RegField := ⟨0x400A0000 + 0x20 * (i % 8), 8, 1, 0⟩
def TMR_CTRL_CMP_EN (i : Nat) : RegField := ⟨0x400A0000 + 0x20 * (i % 8), 9, 1, 0⟩
def TMR_CTRL_DBG_FREEZE (i : Nat) : RegField := ⟨0x400A0000 + 0x20 * (i % 8), 10, 1, 0⟩
def TMR_COUNT_COUNT (i : Nat) : RegField := ⟨0x400A0004 + 0x20 * (i % 8), 0, 32, 0⟩
def TMR_PERIOD_PERIOD (i : Nat) : RegField := ⟨0x400A0008 + 0x20 * (i % 8), 0, 32, 0xffffffff⟩
def TMR_CMP_CMP (i : Nat) : RegField := ⟨0x400A000C + 0x20 * (i % 8), 0, 32, 0xffffffff⟩
def TMR_PHASE_PHASE (i : Nat) : RegField := ⟨0x400A0010 + 0x20 * (i % 8), 0, 32, 0⟩
def TMR_CAPT_CAPT (i : Nat) : RegField := ⟨0x400A0014 + 0x20 * (i % 8), 0, 32, 0⟩
def TMR_STAT_PER_F (i : Nat) : RegField := ⟨0x400A0018 + 0x20 * (i % 8), 0, 1, 0⟩
def TMR_STAT_CMP_F (i : Nat) : RegField := ⟨0x400A0018 + 0x20 * (i % 8), 1, 1, 0⟩
def TMR_STAT_RUNNING (i : Nat) : RegField := ⟨0x400A0018 + 0x20 * (i % 8), 2, 1, 0⟩
def TMR_STAT_FROZEN (i : Nat) : RegField := ⟨0x400A0018 + 0x20 * (i % 8), 3, 1, 0⟩
def TMR_START_MASK : RegField := ⟨0x400A0100, 0, 8, 0⟩
def TMR_STOP_MASK : RegField := ⟨0x400A0104, 0, 8, 0⟩
def TMR_OWNER_OWNER : RegField := ⟨0x400A0108, 0, 8, 0⟩
def TMR_LOCK_LOCK : RegField := ⟨0x400A010C, 0, 1, 0⟩

def TMR_CTRL_reg : RegRow :=
  { base := 0x400A0000, count := 8, stride := 32, whole := true,
    rows := fun i => [
      ⟨TMR_CTRL_EN i, .rw, fun _ => true, false⟩,
      { field := TMR_CTRL_CLKSEL i, access := .rw, legal := fun v => v != 3 },
      ⟨TMR_CTRL_PRE i, .rw, fun _ => true, false⟩,
      ⟨TMR_CTRL_ONESHOT i, .rw, fun _ => true, false⟩,
      ⟨TMR_CTRL_CMP_EN i, .rw, fun _ => true, false⟩,
      ⟨TMR_CTRL_DBG_FREEZE i, .rw, fun _ => true, false⟩] }

def TMR_COUNT_reg : RegRow :=
  { base := 0x400A0004, count := 8, stride := 32,
    rows := fun i => [
      ⟨TMR_COUNT_COUNT i, .rw, fun _ => true, false⟩] }

def TMR_PERIOD_reg : RegRow :=
  { base := 0x400A0008, count := 8, stride := 32,
    rows := fun i => [
      { field := TMR_PERIOD_PERIOD i, access := .rw, legal := fun v => v != 0 }] }

def TMR_CMP_reg : RegRow :=
  { base := 0x400A000C, count := 8, stride := 32,
    rows := fun i => [
      ⟨TMR_CMP_CMP i, .rw, fun _ => true, false⟩] }

def TMR_PHASE_reg : RegRow :=
  { base := 0x400A0010, count := 8, stride := 32,
    rows := fun i => [
      ⟨TMR_PHASE_PHASE i, .rw, fun _ => true, false⟩] }

def TMR_CAPT_reg : RegRow :=
  { base := 0x400A0014, count := 8, stride := 32,
    rows := fun i => [
      ⟨TMR_CAPT_CAPT i, .ro, fun _ => true, false⟩] }

def TMR_STAT_reg : RegRow :=
  { base := 0x400A0018, count := 8, stride := 32,
    rows := fun i => [
      ⟨TMR_STAT_PER_F i, .w1c, fun _ => true, false⟩,
      ⟨TMR_STAT_CMP_F i, .w1c, fun _ => true, false⟩,
      ⟨TMR_STAT_RUNNING i, .ro, fun _ => true, false⟩,
      ⟨TMR_STAT_FROZEN i, .ro, fun _ => true, false⟩] }

def TMR_START_reg : RegRow :=
  { base := 0x400A0100, count := 1, stride := 4,
    rows := fun _ => [
      ⟨TMR_START_MASK, .wo, fun _ => true, false⟩] }

def TMR_STOP_reg : RegRow :=
  { base := 0x400A0104, count := 1, stride := 4,
    rows := fun _ => [
      ⟨TMR_STOP_MASK, .wo, fun _ => true, false⟩] }

def TMR_OWNER_reg : RegRow :=
  { base := 0x400A0108, count := 1, stride := 4,
    rows := fun _ => [
      ⟨TMR_OWNER_OWNER, .rwl, fun _ => true, false⟩] }

def TMR_LOCK_reg : RegRow :=
  { base := 0x400A010C, count := 1, stride := 4,
    rows := fun _ => [
      ⟨TMR_LOCK_LOCK, .w1s, fun _ => true, false⟩] }

/-- Every register of the TMR block, by address. -/
def tmrRegs : List RegRow :=
  [TMR_CTRL_reg, TMR_COUNT_reg, TMR_PERIOD_reg, TMR_CMP_reg, TMR_PHASE_reg, TMR_CAPT_reg, TMR_STAT_reg, TMR_START_reg, TMR_STOP_reg, TMR_OWNER_reg, TMR_LOCK_reg]

end Sys2Proof.Machine
end

