-- ==== Sys2Proof/Machine/Slot.lean ====
section
/-! DEFINITION. The commands of the slot engine's program store, its boundaries and its lockstep comparison
(spec/05_slot_engine.md). -/
namespace Sys2Proof.Machine

/-- R118, R117: an image write into STANDBY. In Compatibility mode it is ignored with CMD_REJ; while STANDBY is CHECKING or
ARMED with WR_REJ; bytes beyond the buffer are ignored (SLE_IMAGE). -/
def execImageWrite (offset : Nat) (bytes : List Byte) (s : State) : Host.Outcome State Fault Refusal :=
  if s.refFailed then goOn s
  else if s.mode = modeCompat then goOn s.cmdRej
  else if s.standby = sbChecking ∨ s.standby = sbArmed then goOn (s.flag SLE_STATUS_WR_REJ true)
  else
    let b := (bytes.zipIdx).foldl (fun (b : Sparse Byte) x =>
      if offset + x.2 < 73728 then Sparse.write 0 b (offset + x.2) x.1 else b) s.standbyBuf
    goOn (((s.setStandby b).setStandbyState sbWritten).flag SLE_STATUS_WR_REJ false)

/-- R118: a program command is taken only outside Compatibility mode, and only where `ok` holds. -/
def State.programCommand (s : State) (ok : Bool) (f : State → State) : State :=
  if s.refFailed then s else if s.mode = modeCompat ∨ !ok then s.cmdRej else f s.cmdOk

/-- R118, R126, R144: LOAD of a WRITTEN image starts its verification; the calibration policy in force follows RFC_CALCFG. -/
def execLoadProgram (who : Master) (s : State) : Host.Outcome State Fault Refusal :=
  goOn (s.programCommand (s.standby == sbWritten) fun s =>
    ({ s with slot := { s.slot with loadBy := who, policy := s.get RFC_CALCFG_POLICY } }).setStandbyState sbChecking)

/-- R132, R118: verification and LOAD_CHECK finish: CHECKED with E49, or REFUSED with E50; SLE_LOADCHK holds the result. -/
def execLoadCheckDone (s : State) : Host.Outcome State Fault Refusal :=
  if s.standby ≠ sbChecking then goOn s
  else
    match s.loadCheck s.standbyBuf with
    | none =>
      let s := ((s.put SLE_LOADCHK_RESULT 0).put SLE_LOADCHK_STAGE 0).put SLE_LOADCHK_DETAIL 0
      goOn ((s.setStandbyState sbChecked).raise 49)
    | some r =>
      let s := ((s.put SLE_LOADCHK_RESULT r.code).put SLE_LOADCHK_STAGE r.stage).put SLE_LOADCHK_DETAIL r.detail
      goOn ((s.setStandbyState sbRefused).raise 50)

/-- R143: the conditions of ARM_SWAP beside STANDBY CHECKED: a STANDBY of the present mode and, with a program running,
SWAP_ASN ahead, NEW_ASN below 2^40 and a new origin not below 0. -/
def State.mayArm (s : State) : Bool :=
  let b := s.standbyBuf
  bufNum b 20 1 == s.mode &&
  (!s.running || (decide (s.slot.slotAsn < s.swapAsn) && decide (s.newAsn < 2 ^ 40) &&
    decide (s.newAsn * bufNum b 16 4 ≤ s.origin + s.swapAsn * s.slotLen)))

/-- R143: ARM_SWAP arms the checked program with the values that the registers hold now. -/
def execArmSwap (s : State) : Host.Outcome State Fault Refusal :=
  goOn (s.programCommand (s.standby == sbChecked && s.mayArm) fun s =>
    ({ s with slot := { s.slot with armed := some (s.swapAsn, s.newAsn) } }).setStandbyState sbArmed)

/-- R118: CANCEL disarms an ARMED STANDBY. -/
def execProgramCancel (s : State) : Host.Outcome State Fault Refusal :=
  goOn (s.programCommand (s.standby == sbArmed) State.disarm)

/-- R118: CLEAR empties STANDBY, unless it is CHECKING. -/
def execProgramClear (s : State) : Host.Outcome State Fault Refusal :=
  goOn (s.programCommand (s.standby != sbChecking) fun s =>
    (({ s with slot := { s.slot with armed := none } }).setStandby []).setStandbyState sbEmpty)

/-- R118: STOP ends the running program at the next slot boundary. -/
def execProgramStop (s : State) : Host.Outcome State Fault Refusal :=
  goOn (s.programCommand s.running fun s => s.flag SLE_STATUS_STOP_PEND true)

/-- The boundary at which an armed first program starts (R143): the first at or after the present TNET, not before O. -/
def State.firstBoundary (s : State) : Nat :=
  let l := bufNum s.standbyBuf 16 4
  let o := s.origin
  if s.tnet ≤ o then o else o + divUp (s.tnet - o) l * l

/-- R143, R38: with no program running, an armed STANDBY becomes ACTIVE at its boundary: E51, the halves of Concentrator
mode go to RX, and the slot begins as at any boundary. -/
def execFirstProgramStart (s : State) : Host.Outcome State Fault Refusal :=
  if s.running ∨ s.standby ≠ sbArmed then goOn s
  else
    let s := s.advanceTo s.firstBoundary
    let s := (s.swapBuffers sbEmpty).flag SLE_STATUS_RUNNING true
    let s := if s.mode = modeConc then
        let s := s.setPath .a { s.path .a with goal := some 3 }
        if s.partT then s else s.setPath .b { s.path .b with goal := some 3 }
      else s
    let s := s.beginSlot s.asn
    goOn ((s.takeStaged.stepThree).selectCells)

/-- R137: the next boundary of the running program. -/
def execSlotBoundary (gainA gainB : Fin 16) (s : State) : Host.Outcome State Fault Refusal :=
  if !s.running ∨ s.slotLen = 0 then goOn s else goOn (s.boundary gainA gainB)

/-- R141: the comparator finds the copies of a unit's output to disagree. -/
def execTwinMismatch (unit : Nat) (s : State) : Host.Outcome State Fault Refusal :=
  match s.rxUnit unit, s.txUnit unit with
  | some u, _ => goOn (s.mismatchRx u)
  | none, some u => goOn (s.mismatchTx u)
  | none, none => goOn s

/-- R141: a sequencer mismatch, a parity error of a program store among them: the lock-up condition. -/
def execTwinLockup (s : State) : Host.Outcome State Fault Refusal := goOn s.lockUp

/-- R142: SLE_TWINTEST in Test mode: with SEQ = 1 the sequencer of copy B is corrupted in the next cycle, which locks up; with
SEQ = 0 the next unit at the output of STAGE. -/
def execTwintestInject (value : Word) (s : State) : Host.Outcome State Fault Refusal :=
  if s.mode ≠ modeTest then goOn s
  else if bit value.toNat 9 then goOn s.lockUp
  else goOn { s with slot := { s.slot with twinTest := some (slice value.toNat 0 4, slice value.toNat 4 5) } }

/-- R146: SLE_DROPPOP removes the oldest drop record; LOST clears with the level at 0. -/
def execDropPop (s : State) : Host.Outcome State Fault Refusal :=
  let l := s.slot.dropLog.drop 1
  let s := { s with slot := { s.slot with dropLog := l } }
  goOn (if l.isEmpty then s.put SLE_DROPSTAT_LOST 0 else s)

/-- R146: a read of SLE_ASN_L latches ASN bits 39 to 32. -/
def execAsnLRead (s : State) : Host.Outcome State Fault Refusal := goOn (s.put SLE_ASN_H_ASN_H (s.asn / 2 ^ 32))

/-- R163: the rate accumulator has reached its limit: TNET stands still in that cycle, or advances by 2. -/
def execRateAccumulatorOverflow (s : State) : Host.Outcome State Fault Refusal :=
  let a := s.mac.rateAcc
  if 16000000000 ≤ a then
    goOn { s with tnet := (s.tnet + 2 ^ 64 - 1) % 2 ^ 64, mac := { s.mac with rateAcc := a - 16000000000 } }
  else if a ≤ -16000000000 then
    goOn { s with tnet := (s.tnet + 1) % 2 ^ 64, mac := { s.mac with rateAcc := a + 16000000000 } }
  else goOn s

end Sys2Proof.Machine
end

