-- ==== Sys2Proof/Machine/Timers.lean ====
section
/-! DEFINITION. The timers and the event router (spec/10_timers_event_routing.md). -/
namespace Sys2Proof.Machine

def State.setEvr (s : State) (e : Evr) : State := { s with evr := e }

/-! Timers (R249 to R255). -/

def State.cmpDone (s : State) (n : Nat) : Bool := bit s.evr.cmpDone n

/-- cmp_done of timer `n`; setting it ends a compare that is due, clearing it too. -/
def State.setCmpDone (s : State) (n : Nat) (b : Bool) : State :=
  s.setEvr { s.evr with cmpDone := if b then setBit s.evr.cmpDone n else clearBit s.evr.cmpDone n,
                        cmpDue := clearBit s.evr.cmpDue n }

/-- DBG_FREEZE holds timer `n` while a core is in debug halt (R255). -/
def State.timerFrozen (s : State) (n : Nat) : Bool :=
  s.on (TMR_CTRL_DBG_FREEZE n) && (s.core0.halted || s.core1.halted)

/-- Timer `n` counts in the present power state (R265). -/
def State.timerPowered (s : State) (n : Nat) : Bool :=
  match s.power.state with
  | .deep => s.get (TMR_CTRL_CLKSEL n) == 1
  | .standby => false
  | .off => false
  | _ => true

/-- The reload condition of R250; a COUNT + 1 that overflows counts as reaching PERIOD. -/
def State.reloads (s : State) (n : Nat) : Bool := decide (s.get (TMR_PERIOD_PERIOD n) ≤ s.get (TMR_COUNT_COUNT n) + 1)

/-- One tick of timer `n` (R250). -/
def State.timerTick (s : State) (n : Nat) : State :=
  let reload := s.reloads n
  let s : State :=
    if reload then
      let s := ((s.put (TMR_COUNT_COUNT n) 0).flag (TMR_STAT_PER_F n) true).setCmpDone n false
      if s.on (TMR_CTRL_ONESHOT n) then s.flag (TMR_CTRL_EN n) false else s
    else s.put (TMR_COUNT_COUNT n) (s.get (TMR_COUNT_COUNT n) + 1)
  let hit := s.on (TMR_CTRL_CMP_EN n) && !s.cmpDone n && decide (s.get (TMR_CMP_CMP n) ≤ s.get (TMR_COUNT_COUNT n))
  let s := if hit then (s.flag (TMR_STAT_CMP_F n) true).setCmpDone n true else s
  s.raiseIf (reload || hit) (96 + n)

/-- Timer `n` counts. -/
def State.timerCounts (s : State) (n : Nat) : Bool := s.on (TMR_CTRL_EN n) && !s.timerFrozen n && s.timerPowered n

def execTimerTick (n : Fin 8) (s : State) : Host.Outcome State Fault Refusal :=
  if s.timerCounts n then goOn (s.timerTick n) else goOn s

/-- R250, R251: the tick of a timer that reloads it. -/
def execTimerReload (n : Fin 8) (s : State) : Host.Outcome State Fault Refusal :=
  if s.timerCounts n ∧ s.reloads n then goOn (s.timerTick n) else goOn s

/-- Timer `n` starts (R253). -/
def State.timerStart (s : State) (n : Nat) : State :=
  ((s.flag (TMR_CTRL_EN n) true).put (TMR_COUNT_COUNT n) (s.get (TMR_PHASE_PHASE n))).setCmpDone n false

def State.timerStop (s : State) (n : Nat) : State := s.flag (TMR_CTRL_EN n) false

/-- The timers of a mask, as TMR_START and TMR_STOP name them; core 1 touches only its own (R267). -/
def State.timersOf (s : State) (mask : Nat) (core1 : Bool) : List Nat :=
  (List.range 8).filter fun n => bit mask n && (!core1 || bit (s.get TMR_OWNER_OWNER) n)

def execTimerStart (mask : Fin 256) (core1 : Bool) (s : State) : Host.Outcome State Fault Refusal :=
  goOn ((s.timersOf mask core1).foldl (fun (s : State) n => s.timerStart n) s)

def execTimerStop (mask : Fin 256) (core1 : Bool) (s : State) : Host.Outcome State Fault Refusal :=
  goOn ((s.timersOf mask core1).foldl (fun (s : State) n => s.timerStop n) s)

/-- The compare of timer `n` is re-armed; it is due at once if COUNT has reached CMP (R252). -/
def State.cmpArm (s : State) (n : Nat) : State :=
  let s := s.setCmpDone n false
  if s.on (TMR_CTRL_CMP_EN n) ∧ s.get (TMR_CMP_CMP n) ≤ s.get (TMR_COUNT_COUNT n) then
    s.setEvr { s.evr with cmpDue := setBit s.evr.cmpDue n }
  else s

/-- R252: a write of TMR_CMPn. -/
def execCmpWrite (n : Fin 8) (value : Word) (core1 : Bool) (s : State) : Host.Outcome State Fault Refusal :=
  if core1 ∧ !bit (s.get TMR_OWNER_OWNER) n then goOn s else goOn ((s.put (TMR_CMP_CMP n) value.toNat).cmpArm n)

/-- R252, R255: the next edge of the timer's clock fires a due compare. -/
def execCompareImmediateFire (n : Fin 8) (s : State) : Host.Outcome State Fault Refusal :=
  if bit s.evr.cmpDue n ∧ !s.timerFrozen n ∧ s.timerPowered n then
    goOn (((s.flag (TMR_STAT_CMP_F n) true).setCmpDone n true).raise (96 + n))
  else goOn s

/-- R256: the consistent pair of one pass of the procedure: TNET at the low-word read. -/
def execTnetRead (s : State) : Host.Outcome State Fault Refusal :=
  goOn { s with host := { s.host with readData := s.tnet } }

/-! Channels (R257 to R264). -/

/-- The rate limiter lets a pulse of channel `c` pass (R261); in Standby RMAX has no effect (R265). -/
def State.ratePasses (s : State) (c : Nat) : Bool :=
  s.power.state == .standby ||
  s.get (EVR_COND_RMAX c) == 0 || s.get (EVR_COND_RWIN c) == 0 ||
  decide (Sparse.read 0 s.evr.passed c < s.get (EVR_COND_RMAX c))

/-- The task mask of channel `c`; in Deep only T0 to T34, in Standby T32 to T34 are live (R265). -/
def State.chanTasks (s : State) (c : Nat) : Nat :=
  let m := s.get (EVR_TM0_MASK c) + s.get (EVR_TM1_MASK c) * 2 ^ 32 + s.get (EVR_TM2_MASK c) * 2 ^ 64
  match s.power.state with
  | .deep => m % 2 ^ 35
  | .standby => m % 2 ^ 35 / 2 ^ 32 * 2 ^ 32
  | _ => m

/-- A passed pulse that refers to TNET `at_` is stamped (R264). -/
def State.stamp (s : State) (c at_ : Nat) : State :=
  let t := if s.power.tnetRuns then at_ else 0
  ((s.put (EVR_TSL_TS_L c) t).flag (EVR_STAT_TS_VALID c) s.power.tnetRuns).setEvr
    { s.evr with stampHigh := Sparse.write 0 s.evr.stampHigh c (t / 2 ^ 32) }

/-- The timer tasks of mask `m` on timer `n`, in the order of R254; STOP prevails over a START. -/
def State.timerTasks (s : State) (m n : Nat) : State :=
  let s := if bit m (24 + n) then s.put (TMR_CAPT_CAPT n) (s.get (TMR_COUNT_COUNT n)) else s
  let s := if bit m (16 + n) then (s.put (TMR_COUNT_COUNT n) 0).setCmpDone n false else s
  if bit m (8 + n) then s.timerStop n else if bit m n then s.timerStart n else s

/-- The output level of GPIO `p` (PIN_OUT). -/
def State.pinOut (s : State) (p : Nat) : Bool :=
  if p < 32 then bit (s.get PIN_OUT_L_LEVEL) p else bit (s.get PIN_OUT_H_LEVEL) (p - 32)

def State.setPinOut (s : State) (p : Nat) (b : Bool) : State :=
  let f := if p < 32 then PIN_OUT_L_LEVEL else PIN_OUT_H_LEVEL
  s.put f (if b then setBit (s.get f) (p % 32) else clearBit (s.get f) (p % 32))

/-- The GPO tasks of mask `m` (R259, R476): the lowest-numbered task of a pin acts. -/
def State.gpoTasks (s : State) (m : Nat) : State :=
  let live := (List.range 8).filter fun k => bit m (36 + k) && s.on (EVR_GPO_EN k) &&
    s.get (PIN_CFG_FUNC (s.get (EVR_GPO_PIN k))) == 1 && s.on (PIN_CFG_DIR (s.get (EVR_GPO_PIN k)))
  let first := live.filter fun k => !(live.any fun j => decide (j < k) && s.get (EVR_GPO_PIN j) == s.get (EVR_GPO_PIN k))
  first.foldl (fun (s : State) k =>
    let p := s.get (EVR_GPO_PIN k)
    match s.get (EVR_GPO_ACTION k) with
    | 0 => s.setPinOut p true
    | 1 => s.setPinOut p false
    | _ => s.setPinOut p (!s.pinOut p)) s

/-- The tasks of mask `m` act (R259). -/
def State.runTasks (s : State) (m : Nat) : State :=
  let s := (List.range 8).foldl (fun (s : State) n => s.timerTasks m n) s
  let s : State := match bit m 32, s.rtc.heldSet with
    | true, some h => s.setRtc { s.rtc with heldSet := some { h with task := true } }
    | _, _ => s
  let s := if bit m 33 then s.bkpErase else s
  let s := if bit m 34 then s.wakeRequest 7 else s
  let s := if bit m 35 then s.requestReset 0x06 else s
  let s := s.gpoTasks m
  let s := if bit m 44 then s.wantPoll else s
  let s := if bit m 45 ∧ s.follows then s.enterScan else s
  if bit m 46 then s.programCommand s.running (fun s => s.flag SLE_STATUS_STOP_PEND true) else s

/-- R257 to R264: a pulse on its way through channel `c` meets the limiter, is stamped and forks to the tasks. -/
def execChannelPulse (chan : Fin 32) (s : State) : Host.Outcome State Fault Refusal :=
  let c := chan.val
  match Sparse.read none s.evr.pulses c with
  | none => goOn s
  | some at_ =>
    let s := s.setEvr { s.evr with pulses := s.evr.pulses.erase c }
    if !s.ratePasses c then goOn (s.bump (EVR_STAT_DROPPED c))
    else
      let s := s.setEvr { s.evr with passed := Sparse.write 0 s.evr.passed c (Sparse.read 0 s.evr.passed c + 1) }
      let s := if s.on (EVR_CFG_STAMP c) then s.stamp c at_ else s
      goOn (s.runTasks (s.chanTasks c))

/-- R257, R260: EVR_FIRE; core 1 fires only channels it owns. -/
def execEvrFire (value : Word) (core1 : Bool) (s : State) : Host.Outcome State Fault Refusal :=
  let named := (List.range 32).filter fun c => bit value.toNat c
  let may := named.filter fun c => !core1 || s.get (EVR_CFG_OWNER c) == 1
  let s := s.flag EVR_STATUS_ACC_REJ (may.length != named.length)
  goOn (may.foldl (fun (s : State) c => s.pulse c s.tnet) s)

/-- R268: EVR_SWEV raises E124 to E127. -/
def execSoftwareEvent (value : Word) (s : State) : Host.Outcome State Fault Refusal :=
  goOn (((List.range 4).filter fun k => bit value.toNat k).foldl (fun (s : State) k => s.raise (124 + k)) s)

/-- The pin input of channel `c` is taken, and its ball is assigned to the router as an input (R476); in Standby and Off no
pin is a producer (R265). -/
def State.pinTaken (s : State) (c : Nat) : Bool :=
  let p := s.get (EVR_CFG_PIN c)
  s.power.state != .standby && s.power.state != .off && s.on (EVR_CFG_PIN_EN c) && s.get (PIN_CFG_FUNC p) == 1 && !s.on (PIN_CFG_DIR p)

/-- R262, R264: the pin of channel `c` has held a new level for MINPULSE; the edge at the ball lay `age` ticks back. -/
def execPinEdge (chan : Fin 32) (high : Bool) (age : Nat) (s : State) : Host.Outcome State Fault Refusal :=
  let c := chan.val
  if !s.pinTaken c ∨ s.on (EVR_STAT_LEVEL c) = high then goOn s
  else
    let edge := s.get (EVR_CFG_EDGE c)
    let s := s.flag (EVR_STAT_LEVEL c) high
    if s.on (EVR_STAT_STUCK c) ∨ (edge = 0 ∧ high = false) ∨ (edge = 1 ∧ high = true) then goOn s
    else goOn (s.pulse c (s.tnet - age))

/-- STUCK of channel `c`, which EVR_STUCKSUM mirrors. -/
def State.setStuck (s : State) (c : Nat) (b : Bool) : State :=
  (s.flag (EVR_STAT_STUCK c) b).put EVR_STUCKSUM_STUCK
    (if b then setBit (s.get EVR_STUCKSUM_STUCK) c else clearBit (s.get EVR_STUCKSUM_STUCK) c)

/-- R263: the active level has been held for STUCK_T. -/
def execStuckDetect (chan : Fin 32) (s : State) : Host.Outcome State Fault Refusal :=
  let c := chan.val
  let active := s.on (EVR_STAT_LEVEL c) != (s.get (EVR_CFG_EDGE c) == 1)
  if s.get (EVR_COND_STUCK_T c) = 0 ∨ !s.pinTaken c ∨ !active then goOn s else goOn (s.setStuck c true)

/-- R263: STUCK is cleared by writing 1; no edge is generated for a held level. -/
def execStuckClear (chan : Fin 32) (s : State) : Host.Outcome State Fault Refusal := goOn (s.setStuck chan false)

/-- R261: the window of channel `c` ends. -/
def execRateWindowEnd (chan : Fin 32) (s : State) : Host.Outcome State Fault Refusal :=
  goOn (s.setEvr { s.evr with passed := s.evr.passed.erase chan })

/-- R264: a read of EVR_TSLc latches the high word. -/
def execStampRead (chan : Fin 32) (s : State) : Host.Outcome State Fault Refusal :=
  let c := chan.val
  let s := s.put (EVR_TSH_TS_H c) (Sparse.read 0 s.evr.stampHigh c)
  goOn { s with host := { s.host with readData := s.get (EVR_TSL_TS_L c) } }

end Sys2Proof.Machine
end

