-- ==== Sys2Proof/Machine/PowerOps.lean ====
section
/-! DEFINITION. Power state entry, watchdogs, block resets, the reach of the resets and the pins as named operations
(spec/19_power_reset_clocks.md, R474 to R476). -/
namespace Sys2Proof.Machine

def State.setPower (s : State) (p : Power) : State := { s with power := p }

/-- The keys of the fields of register block `n` (R20). -/
def State.resetBlock (s : State) (n : Nat) : State :=
  { s with fields := s.fields.dropRange ((0x40000000 + 0x10000 * n) * 32) ((0x40010000 + 0x10000 * n) * 32) }

/-! Entering a low-power state (R452, R453). -/

/-- STATE codes of PRC_PWRCMD. -/
def powerTarget (code : Nat) : PowerState :=
  match code with
  | 1 => .sleep
  | 2 => .deep
  | 3 => .standby
  | _ => .off

def powerCode : PowerState → Nat
  | .sleep => 1
  | .deep => 2
  | .standby => 3
  | .off => 4
  | _ => 0

/-- Some enabled wake source is live in the target (R453, R454). -/
def State.wakeable (s : State) (t : PowerState) : Bool :=
  (List.range 10).any fun n => wakeLive t n && s.wakeEnabled n &&
    (n != 6 || t != .deep || (List.range 8).any fun k => s.get (TMR_CTRL_CLKSEL k) == 1)

/-- A step 1 refusal. -/
def State.entryRefused (s : State) (result : Nat) : State := (s.flag PRC_PWRSTAT_PENDING false).put PRC_PWRSTAT_RESULT result

/-- R452, R453: a power state command with STATE `code`. For Deep the PRC stops a running program itself; for Deep, Standby
and Off the merge buffer is flushed. -/
def State.powerCommand (s : State) (code : Nat) : State :=
  if s.on PRC_PWRSTAT_PENDING ∨ code = 0 ∨ 4 < code then s.flag PRC_PWRSTAT_CMD_REJ true
  else
    let s := s.flag PRC_PWRSTAT_CMD_REJ false
    let t := powerTarget code
    if s.mode = modeCompat ∨ s.mode = modeRecovery then s.entryRefused 5
    else if s.core0.halted ∨ s.core1.halted then s.entryRefused 4
    else if t ≠ .off ∧ !s.wakeable t then s.entryRefused 3
    else
      let s := (s.flag PRC_PWRSTAT_PENDING true).setPower { s.power with target := t }
      let s := if t = .deep ∧ s.running then s.flag SLE_STATUS_STOP_PEND true else s
      if t = .sleep then s else s.flushAll

/-- No program or erase runs or is suspended, and nothing waits to be programmed. -/
def State.flashQuiet (s : State) : Bool :=
  s.flash.merge.isEmpty && (List.range 2).all fun k => s.get (FLC_BANK_STAT_STATE k) == 0

/-- What step 2 of R452 waits for is met. -/
def State.entryReady (s : State) : Bool :=
  !s.tagCoreBusy &&
  match s.power.target with
  | .sleep => !s.running || (s.power.atBoundary && s.slot.windows.isEmpty && s.slot.tx.isEmpty)
  | .deep => s.flashQuiet && !s.running
  | _ => s.flashQuiet

/-- A transmission in progress stops without a ramp; its descriptor completes FAULT (R459, R467). -/
def State.txCut (s : State) : State :=
  match s.airUnit with
  | none => s
  | some u =>
    if u.phase = .ackWait then s else
    let s := if u.phase = .ramp ∨ u.phase = .tx ∨ u.phase = .rampDown then s.chargeActual u else s
    let s := { s with slot := { s.slot with onAir := none }, radio := { s.radio with txWindow := false } }
    s.endTx u 0xE

/-- The radio, channelizer and transmit islands lose their state: frames end, calibrations are lost, the paths are OFF. -/
def State.radioDown (s : State) : State :=
  let s := s.txCut
  let s := (List.range 128).foldl (fun (s : State) i =>
    let s := if s.laneState i = laneFrame then s.cutFrame i else s
    s.put (CHZ_LSTAT_STATE i) laneOff) s
  let s := { s with radio := { s.radio with
    pathA := {}, pathB := {}, pathT := {}, calib := none, calHeld := none, calWait := [], txWindow := false, extTr := false,
    extLnaA := false, extLnaB := false, extPaEn := false, leakA := [], leakB := [], lanes := [], detFifo := [] } }
  ((s.put RFC_STATE_STATE_A 0).put RFC_STATE_STATE_B 0).put RFC_STATE_STATE_T 0

/-- The register fields and the outputs that the pads hold (R464, R476): those of the PIN block and of RFC_EXTCTL. -/
def State.padImage (s : State) : Sparse Nat :=
  s.fields.filter fun e => (decide (0x40130000 * 32 ≤ e.1) && decide (e.1 < 0x401300A8 * 32)) ||
    (decide (0x40010044 * 32 ≤ e.1) && decide (e.1 < 0x40010048 * 32))

/-- The pads hold what they are: PIN_HOLD. -/
def State.holdPads (s : State) : State :=
  let img := match s.pins.held with
    | some h => h
    | none => s.padImage
  { s with pins := { s.pins with held := some img } }

/-- Every duty group is pre-charged as if its allowance had been used evenly over the past hour (R59). -/
def State.precharge (s : State) : State :=
  let img := s.radio.profile
  let limit (g : Nat) : Nat := match (List.range (profBands img)).find? fun b => bandNum img b 21 1 == g with
    | some b => bandNum img b 12 4 * 10
    | none => 0
  let now := s.radio.second % 3600
  let account (g : Nat) : DutyGroup :=
    let l := limit g
    let q := l / 3600
    let v (k : Nat) : Nat := if k = now then q + l % 3600 else q
    { buckets := ((List.range 3600).map fun k => (k, v k)).filter (fun e => e.2 != 0), sum := l, precharged := if l = 0 then 0 else 3600 }
  { s with radio := { s.radio with duty := ((List.range 8).map fun g => (g, account g)).filter (fun e => e.2 != {}) } }

/-- The islands that are off in Deep lose their state (R447, R449): radio, channelizer, transmit path, slot engine with
MAC, cipher, PKE, GNSS, host ports, compatibility engine, and the tag port where no field powers it. -/
def State.deepLoss (s : State) : State :=
  let s := ([1, 2, 3, 4, 5, 6, 7, 8, 14, 15, 17].foldl State.resetBlock s).otpDefaults
  let s := if s.tag.field then s else s.tagDown 0
  { s with
    radio := { profile := s.radio.profile, second := s.radio.second, vsup := s.radio.vsup }
    slot := {}, mac := {}, sec := {}, gnss := { stored := s.gnss.stored }, lgy := {}, pke := {}, host := s.host.flushed }

/-- The 16 KiB granules of system SRAM that Deep retains (R449). -/
def State.granules (s : State) : List Nat :=
  ((List.range 2).map fun i => [(PRC_DEEPRET_EN0 i, PRC_DEEPRET_GRANULE0 i), (PRC_DEEPRET_EN1 i, PRC_DEEPRET_GRANULE1 i),
    (PRC_DEEPRET_EN2 i, PRC_DEEPRET_GRANULE2 i), (PRC_DEEPRET_EN3 i, PRC_DEEPRET_GRANULE3 i)].filterMap fun p =>
      if s.on p.1 then some (s.get p.2) else none).flatten

/-- The memory initialiser writes every word of the SRAMs that `keep` does not hold as 0, tag EMPTY (R449, R462). -/
def State.initSram (s : State) (keep : Nat → Bool) : State :=
  let lost (a : Nat) : Bool := (inSys a || inPacket a) && !keep a
  { s with mem := s.mem.filter (fun e => !lost e.1), poison := s.poison.filter (fun e => !lost e.1),
           memctl := { s.memctl with tags := s.memctl.tags.filter fun e => !lost e.1 } }

/-- The entry completes (R452 steps 3 to 5): ENTRIES, and what the target state loses. -/
def State.enterLow (s : State) : State :=
  let t := s.power.target
  let s := ((s.flag PRC_PWRSTAT_PENDING false).put PRC_PWRSTAT_RESULT 0).bumpWrap PRC_PWRSTAT_ENTRIES
  let s := (s.flag PRC_PWRSTAT_TNET_RESTORED false).setPower { s.power with state := t, wakes := [], atBoundary := false }
  match t with
  | .sleep => s.radioDown
  | .deep =>
    let s := s.setPower { s.power with savedTnet := s.tnet, tnetRuns := false }
    (s.radioDown.holdPads).deepLoss
  | _ =>
    let s := if t = .standby then s.setPower { s.power with standbyWake := s.get PRC_WAKEEN_EN } else s
    let s := s.setPower { s.power with tnetRuns := false }
    let s := if s.tag.field then s else s.tagDown 0
    s.radioDown.holdPads

/-! Watchdogs (R460). -/

def State.wdt (s : State) (n : Nat) : Watchdog := if n = 0 then s.power.wdt0 else s.power.wdt1

def State.setWdt (s : State) (n : Nat) (w : Watchdog) : State :=
  s.setPower (if n = 0 then { s.power with wdt0 := w } else { s.power with wdt1 := w })

/-- Watchdog `n` expires. -/
def State.wdtExpire (s : State) (n : Nat) : State := s.requestReset (if n = 0 then 0x04 else 0x05)

/-- The count of watchdog `n` holds: its core is in debug halt or stopped, or the device in Sleep or Deep. -/
def State.wdtPaused (s : State) (n : Nat) : Bool :=
  let c := s.core (n != 0)
  c.halted || c.run == .stopped || s.power.state == .sleep || s.power.state == .deep

/-- EN goes to 1: the count starts at TIMEOUT. -/
def State.wdtEnable (s : State) (n : Nat) : State :=
  if s.on (PRC_WDT_CFG_EN n) then s
  else
    let s := (s.flag (PRC_WDT_CFG_EN n) true).put (PRC_WDT_STAT_REMAIN n) (s.get (PRC_WDT_CFG_TIMEOUT n))
    (s.flag (PRC_WDT_STAT_RUNNING n) true).setWdt n { s.wdt n with since := none }

/-- A completed kick: the count reloads, unless it comes within WINDOW of the previous one. -/
def State.wdtReload (s : State) (n : Nat) : State :=
  let s' := s.setWdt n { half := false, since := some 0 }
  if !s.on (PRC_WDT_CFG_EN n) then s.setWdt n { s.wdt n with half := false }
  else match (s.wdt n).since with
    | some t => if t < s.get (PRC_WDT_CFG_WINDOW n) then s.wdtExpire n
        else (s'.put (PRC_WDT_STAT_REMAIN n) (s.get (PRC_WDT_CFG_TIMEOUT n))).flag (PRC_WDT_STAT_WARNED n) false
    | none => (s'.put (PRC_WDT_STAT_REMAIN n) (s.get (PRC_WDT_CFG_TIMEOUT n))).flag (PRC_WDT_STAT_WARNED n) false

/-- A write of KICK. A second half without a first is neither a kick nor another value (log entry 76). -/
def State.wdtKick (s : State) (n v : Nat) : State :=
  let w := s.wdt n
  if v = 0xA5A5 then s.setWdt n { w with half := true }
  else if v = 0x5A5A then (if w.half then s.wdtReload n else s)
  else
    let s := s.setWdt n { w with half := false }
    if s.on (PRC_WDT_CFG_EN n) then s.wdtExpire n else s

/-- A millisecond of watchdog `n`: the count, and the warning at WARN. -/
def State.wdtTick (s : State) (n : Nat) : State :=
  if !s.on (PRC_WDT_CFG_EN n) ∨ s.wdtPaused n then s
  else
    let r := s.get (PRC_WDT_STAT_REMAIN n) - 1
    let w := s.wdt n
    let s := (s.put (PRC_WDT_STAT_REMAIN n) r).setWdt n { w with since := w.since.map (· + 1) }
    let warn := s.get (PRC_WDT_CFG_WARN n)
    if warn ≠ 0 ∧ r = warn then (s.flag (PRC_WDT_STAT_WARNED n) true).raise (4 + n) else s

/-! Resets (R461 to R466). Codes from 0x40 up are the model's own names: 0x48 a debug port request of core 1 scope, 0x4D a
checker mismatch (R299, R461). -/

/-- The reaches of R462. -/
inductive Reach | core1 | warm | cold
deriving DecidableEq, Repr

/-- The reach of a reset code in a power state. -/
def resetReach (st : PowerState) (code : Nat) : Reach :=
  if code = 0x01 ∨ code = 0x02 ∨ code = 0x0E then .cold
  else if code = 0x03 then (if st = .standby ∨ st = .off then .cold else .warm)
  else if code = 0x05 ∨ code = 0x07 ∨ code = 0x0D ∨ code = 0x48 then .core1
  else .warm

/-- The code that the registers show. -/
def shownCode (code : Nat) : Nat := code % 0x40

/-- Bits n − 1 of the codes (PRC_RSTSRC). -/
def sourceBits (codes : List Nat) : Nat := codes.foldl (fun m c => setBit m (shownCode c - 1)) 0

def minCode (codes : List Nat) : Nat := codes.foldl (fun m c => min m (shownCode c)) 0x3F

/-- An INFO entry of source 0x1E (R461). -/
def State.prcInfo (s : State) (code : Nat) : State := s.report 0 0x1E 0 code

/-- R462: a reset of core 1 alone; with object 0x8030.00 set in Test mode it starts core 1 as the checker of core 0 (R299). -/
def State.resetCore1 (s : State) (codes : List Nat) : State :=
  let code := minCode codes
  let check := s.mode == modeTest && leNat (Sparse.read [] s.objs 0x803000) == 1
  let c := s.core1.resetOwn
  let s := { s with core1 := if check then { c with run := .running, checker := true } else c }
  let s := (s.flag (PRC_WDT_CFG_EN 1) false).flag (PRC_WDT_STAT_RUNNING 1) false
  (s.put PRC_RSTCAUSE_C1_CAUSE code).prcInfo code

/-- The fault log at a device reset (R331, R334, R462): cleared, or kept with its open entries closed. -/
def FaultLog.atReset (f : FaultLog) (clear : Bool) : FaultLog :=
  if clear then {}
  else { entries := f.entries.map fun e => if e.isOpen then { e with isOpen := false, byReset := true } else e }

/-- The fields that the backup domain holds: the RTC block but RTC_LOCK, and the limited configuration of event channels 0
to 3 (R233, R265). -/
def State.backupFields (s : State) : Sparse Nat :=
  let t : State := { s with fields := s.fields.filter fun e => decide (rtcKeys.1 ≤ e.1) && decide (e.1 < rtcKeys.2) }
  let t := t.flag RTC_LOCK_LOCK false
  ((List.range 4).foldl (fun (t : State) c =>
    let t := ((t.flag (EVR_CFG_EN c) (s.on (EVR_CFG_EN c))).put (EVR_CFG_OWNER c) (s.get (EVR_CFG_OWNER c))).flag (EVR_CFG_SEC c) (s.on (EVR_CFG_SEC c))
    let t := t.put (EVR_PM2_MASK c) (slice (s.get (EVR_PM2_MASK c)) 24 8 * 2 ^ 24)
    t.put (EVR_TM1_MASK c) (slice (s.get (EVR_TM1_MASK c)) 0 3)) t).fields

/-- The flash operations are lost with the power (R327, R349): a page under program is undefined. -/
def State.flashLost (s : State) : State :=
  let torn (k : Nat) : Option Nat := match (s.bank k).run with
    | some r => if s.get (FLC_BANK_STAT_OP k) = 1 then some (physPage (s.flashPhys r.desc.faddr)) else none
    | none => none
  let und := ([torn 0, torn 1].filterMap id).foldl (fun m p => Sparse.write false m p true) s.flash.undef
  s.setFlash { bank0 := { seq := s.flash.bank0.seq }, bank1 := { seq := s.flash.bank1.seq }, spare := s.flash.spare, undef := und }

/-- The fields that a WARM reset keeps beside those of the backup domain: SWAP, REQ and the state of flash operations. -/
def warmFields : List RegField :=
  [BTU_SWAP_REQ, FLC_OWNER_SWAP] ++ ((List.range 2).map fun k => [FLC_BANK_STAT_OP k, FLC_BANK_STAT_STATE k,
    FLC_BANK_STAT_BLOCK k, FLC_BANK_STAT_PULSES k, FLC_BANK_STAT_SUSPENDS k, FLC_BANK_STAT_STARVED k]).flatten

/-- The reset causes that clear the fault log (R334, R462). -/
def logCleared (cold : Bool) (cause : Nat) : Bool := decide (cause = 1 ∨ cause = 2 ∨ (cause = 3 ∧ cold = true))

/-- What a device reset leaves of everything beside the memories and the register fields. -/
def State.resetRest (s : State) (cold clearLog : Bool) (codes : List Nat) (held : Option (Sparse Nat)) : State :=
  { s with
    tnet := 0
    faults := s.faults.atReset clearLog
    power := { state := .run, stretch := codes, tnetRuns := false, supply := true, vio := s.power.vio }
    radio := { profile := s.radio.profile, duty := if cold then [] else s.radio.duty, second := s.radio.second, vsup := s.radio.vsup }
    slot := {}, mac := {}, sec := {}, gnss := { stored := s.gnss.stored }, lgy := {}, pke := {}, host := {}, evr := {}
    memctl := { tags := s.memctl.tags }
    core0 := CoreState.boot, core1 := {}
    objs := []
    pins := { s.pins with held := held }
    boot := { due := false, cold := cold, restore := s.boot.restore, recoveryReq := !cold && s.boot.recoveryReq, store0 := s.boot.store0, store1 := s.boot.store1 } }

/-- R462: a device reset of COLD or WARM reach by `codes`, the shown cause first among those of that reach. -/
def State.resetDevice (s : State) (cold : Bool) (cause : Nat) (codes : List Nat) : State :=
  let st := s.power.state
  let clearLog := logCleared cold cause
  let aborted := s.on PRC_PWRSTAT_PENDING
  let refFail := codes.contains 0x09 || (s.on PRC_STATUS_REF_FAIL && !s.on PRC_STATUS_REF_OK && !cold)
  let held := if cold then none else s.holdPads.pins.held
  let old := s
  let s := (s.measureEnd 2)
  let s := if s.tag.field ∨ !cold then s else s.tagDown 0
  let s := if cold then s.flashLost else s
  let s := if cold then s.initSram fun _ => false else s
  let s := { s with fields := s.backupFields }
  let s := if cold then s else warmFields.foldl (fun (s : State) f => s.put f (old.get f)) s
  let s := if clearLog then s else
    (((s.put ERR_STATUS_LOST (old.get ERR_STATUS_LOST)).put ERR_STATUS_LOG_LOST (old.get ERR_STATUS_LOG_LOST)).flag
      ERR_STATUS_DOUBLE (old.on ERR_STATUS_DOUBLE || old.faults.doubled))
  let s := ((s.put PRC_RSTCAUSE_CAUSE cause).put PRC_RSTSRC_SOURCES (sourceBits codes)).flag PRC_RSTCAUSE_FROM_STANDBY
    (st == .standby && (cause == 1 || cause == 3))
  let s := (s.put PRC_RSTCAUSE_STEP (if cause = 0x0E then old.get PRC_RSTCAUSE_STEP else 0)).flag PRC_CTRL_PIN_HOLD held.isSome
  let s := (s.put PRC_PWRSTAT_RESULT (ofBool aborted)).flag PRC_STATUS_REF_FAIL refFail
  s.resetRest cold clearLog codes held

/-! Block resets (R467). -/

/-- The contexts and the delivery queue stay; units are discarded and every waiting descriptor completes FLUSHED. -/
def State.resetSlotEngine (s : State) : State :=
  let ds := (s.mac.queue.map (·.desc)) ++ (s.mac.pending.map (·.desc)) ++ (s.slot.tx.filterMap (·.desc))
  let s := s.txCut
  let s := ds.foldl (fun (s : State) d => s.finishDesc d 0x10) s
  let dq := s.mac.dqBlocks
  let rb := s.mac.rxBlock
  let done := s.mac.txDone
  let s := ((s.resetBlock 4).resetBlock 5).otpDefaults
  { s with slot := {}, mac := { dqBlocks := dq, rxBlock := rb, txDone := done, lfsr := s.mac.lfsr }, tnet := 0 }

/-- The cipher island's reset: requests end ABORTED, every key slot is EMPTY, units at SECURE are dropped. -/
def State.resetCipher (s : State) : State :=
  let s := (List.range 8).foldl State.abortPage s
  let rx := (s.slot.rx.filter fun u => u.stage == 6).map (·.id)
  let tx := (s.slot.tx.filter fun u => u.stage == 11 && u.phase == .pipeline)
  let s := rx.foldl (fun (s : State) i => match s.rxUnit i with
    | some u => s.lateRx u false
    | none => s) s
  let s := tx.foldl (fun (s : State) u => s.lateTx u false) s
  let r := s.sec.reserve
  { s.resetBlock 6 with sec := { reserve := r } }

/-- Block `n` of R467 is reset. -/
def State.blockReset (s : State) (n : Nat) : State :=
  match n with
  | 0 =>
    let duty := s.radio
    let s := (s.radioDown).resetBlock 1
    { s with radio := { s.radio with duty := duty.duty, second := duty.second } }
  | 1 =>
    let s := (List.range 128).foldl (fun (s : State) i => if s.laneState i = laneFrame then s.cutFrame i else s) s
    let s := s.resetBlock 2
    { s with radio := { s.radio with lanes := [], detFifo := [], leakA := [], leakB := [], planA := 0, planB := 0, mapCur := {},
                                     mapNext := none, twinStaged := none } }
  | 2 => (s.txCut).resetBlock 3
  | 3 => s.resetSlotEngine
  | 4 => s.resetCipher
  | 5 => { s.resetBlock 7 with pke := {} }
  | 6 =>
    let s := (s.acqAbort.steerOff)
    let acq := s.gnss.acqResults
    let s := s.resetBlock 8
    { s with gnss := { stored := s.gnss.stored, acqResults := acq } }
  | 7 =>
    let s := (s.resetBlock 14).otpDefaults
    { s with host := s.host.flushed }
  | 8 => if s.tag.write.isSome then s else s.resetBlock 16
  | _ => s

/-- A write of PRC_BLKRST: the named blocks are reset, but RF, CHZ, TXP and SLE in Compatibility mode. -/
def State.blockResetWrite (s : State) (mask : Nat) : State :=
  (List.range 9).foldl (fun (s : State) n =>
    if bit mask n ∧ !(s.mode = modeCompat ∧ n < 4) ∧ !bit (s.get PRC_BLKRST_BLOCK) n then
      let s := s.blockReset n
      s.put PRC_BLKRST_BLOCK (setBit (s.get PRC_BLKRST_BLOCK) n)
    else s) s

/-- HOLD_REL ends the ball hold. -/
def State.holdRelease (s : State) : State := { s.flag PRC_CTRL_PIN_HOLD false with pins := { s.pins with held := none } }

end Sys2Proof.Machine
end

