-- ==== Sys2Proof/Machine/Power.lean ====
section
/-! DEFINITION. The commands of the power, reset and clock controller (spec/19_power_reset_clocks.md). -/
namespace Sys2Proof.Machine

/-! Power states. -/

/-- A power state command takes effect only while the device runs. -/
def State.powerRow (s : State) (code : Nat) : Host.Outcome State Fault Refusal :=
  goOn (if s.power.state = .run ∨ s.power.state = .doze then s.powerCommand code else s)

/-- R452: SLEEP. -/
def execSleepEnter (s : State) : Host.Outcome State Fault Refusal := s.powerRow 1
/-- R452: DEEP. -/
def execDeepSleep (s : State) : Host.Outcome State Fault Refusal := s.powerRow 2
/-- R452: STANDBY. -/
def execStandbyEnter (s : State) : Host.Outcome State Fault Refusal := s.powerRow 3
/-- R452: OFF. -/
def execPowerOff (s : State) : Host.Outcome State Fault Refusal := s.powerRow 4

/-- R452: steps 3 to 5 of a pending entry whose step 2 is over. -/
def execPowerEntryComplete (s : State) : Host.Outcome State Fault Refusal :=
  goOn (if s.on PRC_PWRSTAT_PENDING ∧ s.entryReady then s.enterLow else s)

/-- R453: step 2 does not end within ENTRY_TO. -/
def execEntryTimeout (s : State) : Host.Outcome State Fault Refusal :=
  goOn (if s.on PRC_PWRSTAT_PENDING then s.entryRefused 2 else s)

/-- A core in WAIT has a reason to go on: an enabled pending line, or a halt request (R284, R451). -/
def CoreState.wakes (c : CoreState) : Bool := c.run == .waiting && (Nat.land c.ipend c.ien != 0 || bit c.dctrl 9)

/-- A core whose WAIT has ended runs on. -/
def CoreState.leaveWait (c : CoreState) : CoreState := if c.wakes then { c with run := .running } else c

/-- R451: Doze ends with the wake condition of a waiting core. -/
def execDozeExit (s : State) : Host.Outcome State Fault Refusal :=
  if s.power.state = .doze ∧ (s.core0.wakes ∨ s.core1.wakes) then
    goOn ({ s with core0 := s.core0.leaveWait, core1 := s.core1.leaveWait }.setPower { s.power with state := .run })
  else goOn s

/-- R454: a wake source fires, by its bit of PRC_WAKESRC. -/
def execPowerWake (source : Fin 10) (s : State) : Host.Outcome State Fault Refusal := goOn (s.wakeRequest source)

/-- A return from Sleep or Deep is called for: by a wake, or by a reset request (R465). -/
def State.returning (s : State) : Bool :=
  (s.power.state == .sleep || s.power.state == .deep) && (!s.power.wakes.isEmpty || !s.power.resetReq.isEmpty)

/-- R449: what the return from Deep restores and what it finds lost; `n` and `m` are the calendar ticks and the reference
ticks counted. -/
def State.deepReturn (s : State) (n m : Nat) : State :=
  let g := s.granules
  let s := s.initSram fun a => inSys a && g.contains ((a - 0x20000000) / 0x4000)
  let s := ((s.resetBlock 16).resetBlock 19).precharge
  let t := (s.power.savedTnet + n * 390625 / 128 + m) % 2 ^ 64
  let s := (s.flag PRC_CTRL_PIN_HOLD true).flag PRC_PWRSTAT_TNET_RESTORED true
  { s with tnet := t, power := { s.power with tnetRuns := true } }

/-- R455, R454: the return to Run is complete: E1, and E115 or E120 for the port or the field that called. -/
def execReturnToRun (calTicks refTicks : Nat) (s : State) : Host.Outcome State Fault Refusal :=
  if !s.returning then goOn s
  else
    let from_ := s.power.state
    let ws := s.power.wakes
    let s := if from_ = .deep then s.deepReturn calTicks refTicks else s
    let s := s.put PRC_PWRSTAT_LAST (powerCode from_)
    let s := match ws with
      | w :: _ => s.put PRC_WAKESRC_FIRST w
      | [] => s
    let s := (s.setPower { s.power with state := .run, wakes := [] }).raise 1
    let s := s.raiseIf (ws.any fun w => decide (w < 4)) 115
    let s := (s.raiseIf s.tag.event 120).setTagPort { s.tag with event := false }
    goOn (if s.on MAC_CTRL_AUTO_POLL then s.wantPoll else s)

/-- R455: a step of the return misses its timeout. -/
def execWakeStepTimeout (step : Fin 5) (s : State) : Host.Outcome State Fault Refusal :=
  if !s.returning ∨ step = 0 then goOn s
  else if step = 2 then goOn (s.requestReset 0x09)
  else goOn ((s.put PRC_RSTCAUSE_STEP (if step = 1 then 1 else if step = 3 then 3 else 0)).requestReset 0x0E)

/-- R450: TNET reaches PRC_SLPWAKE in Sleep. -/
def execSleepTimer (s : State) : Host.Outcome State Fault Refusal :=
  let t := s.get PRC_SLPWAKE_L_TNET + s.get PRC_SLPWAKE_H_TNET * 2 ^ 32
  if s.power.state ≠ .sleep ∨ t < s.tnet then goOn s else goOn ((s.advanceTo t).wakeRequest 8)

/-! Supervision. -/

/-- VSUP is sampled in the present power state (R456). -/
def State.sampling (s : State) : Bool := s.power.state != .standby && s.power.state != .off

/-- R456: a sample of VSUP in mV: brown-out below 1.64 V, the supply warning and its end. -/
def execVsupSample (mv : Fin 4096) (s : State) : Host.Outcome State Fault Refusal :=
  if !s.sampling then goOn s
  else
    let s := s.put PRC_SUPMEAS_VSUP mv
    let level := 1800 + 100 * s.get PRC_SUPCFG_WARN
    let s : State :=
      if mv.val < level ∧ !s.on PRC_STATUS_VSUP_LOW then ((s.flag PRC_STATUS_VSUP_LOW true).raise 2).prcInfo 0x11
      else if level + 50 ≤ mv.val then s.flag PRC_STATUS_VSUP_LOW false
      else s
    goOn (if mv.val < 1640 then s.requestReset 0x02 else s)

/-- R457: the die temperature, in 0.25 °C, rises above THERM. -/
def execThermalWarn (temp : Int) (s : State) : Host.Outcome State Fault Refusal :=
  let s := s.put RFC_TEMP_TEMP (unsigned 12 temp)
  if 4 * (s.get PRC_SUPCFG_THERM : Int) < temp ∧ !s.on PRC_STATUS_THERM_HOT then
    goOn (((s.flag PRC_STATUS_THERM_HOT true).raise 6).prcInfo 0x12)
  else goOn s

/-- R457: the die temperature falls 5 °C below THERM. -/
def execThermHotClear (temp : Int) (s : State) : Host.Outcome State Fault Refusal :=
  let s := s.put RFC_TEMP_TEMP (unsigned 12 temp)
  if temp ≤ 4 * (s.get PRC_SUPCFG_THERM : Int) - 20 then goOn (s.flag PRC_STATUS_THERM_HOT false) else goOn s

/-- R458: a count of reference cycles over 4 096 sleep-oscillator cycles. DEV_LAST is d in ppm towards zero. -/
def execClkDeviate (count : Nat) (s : State) : Host.Outcome State Fault Refusal :=
  if !(s.power.state == .run || s.power.state == .doze || s.power.state == .sleep) then goOn s
  else
    let e : Int := (count : Int) - 4800000
    let s := s.put PRC_SUPMEAS_DEV_LAST (unsigned 16 (Int.tdiv (10 * e) 48))
    if s.get PRC_SUPCFG_DEV * 480 < (10 * e).natAbs then goOn (((s.raise 3).flag PRC_STATUS_CLK_DEV true).prcInfo 0x10)
    else goOn s

/-- R459: the reference is missing or a logic PLL is out of lock: the power amplifier is off at once, and a CLOCK_FAIL reset
starts. -/
def execClockFail (s : State) : Host.Outcome State Fault Refusal :=
  if s.on PRC_STATUS_REF_FAIL ∨ !s.sampling then goOn s else goOn (s.txCut.requestReset 0x09)

/-- R459: the reference has been valid for 10 ms. -/
def execRefOk (s : State) : Host.Outcome State Fault Refusal :=
  if s.on PRC_STATUS_REF_FAIL ∧ !s.on PRC_STATUS_REF_OK then goOn (((s.flag PRC_STATUS_REF_OK true).raise 3).prcInfo 0x13)
  else goOn s

/-- R456: VIO is below 1.60 V: every output is high impedance. -/
def execVioLow (s : State) : Host.Outcome State Fault Refusal := goOn (s.setPower { s.power with vio := false })

/-- R456: VIO is back. -/
def execVioRestored (s : State) : Host.Outcome State Fault Refusal := goOn (s.setPower { s.power with vio := true })

/-- R234: neither supply carries the backup domain: all its state is lost, and with VSUP the main domain's. -/
def execBackupDomainLost (s : State) : Host.Outcome State Fault Refusal :=
  let s := s.backupReset
  let s := if s.tag.field then s else s.tagDown 0
  goOn ((s.setRtc { s.rtc with oscRuns := false }).setPower { s.power with state := .off, supply := false, tnetRuns := false })

/-! Watchdogs (R460). -/

/-- R460: a millisecond of a watchdog. -/
def execWatchdogTick (core1 : Bool) (s : State) : Host.Outcome State Fault Refusal := goOn (s.wdtTick (ofBool core1))

/-- R460: a watchdog's count has run out. -/
def execWatchdogExpiry (core1 : Bool) (s : State) : Host.Outcome State Fault Refusal :=
  let n := ofBool core1
  goOn (if s.on (PRC_WDT_CFG_EN n) ∧ s.get (PRC_WDT_STAT_REMAIN n) = 0 ∧ !s.wdtPaused n then s.wdtExpire n else s)

/-- R460: a write of KICK. -/
def execWatchdogKick (core1 : Bool) (value : Word) (s : State) : Host.Outcome State Fault Refusal :=
  goOn (s.wdtKick (ofBool core1) value.toNat)

/-- R460: EN of a watchdog goes to 1. -/
def execWatchdogEnable (core1 : Bool) (s : State) : Host.Outcome State Fault Refusal := goOn (s.wdtEnable (ofBool core1))

/-! Resets. -/

/-- A write of PRC_RSTCMD: without CONFIRM, and with SCOPE 0 or 3, it is ignored. -/
def State.resetCommand (s : State) (scope confirm : Nat) : State :=
  if confirm ≠ 0x5253 then s
  else if scope = 1 then s.requestReset 0x06
  else if scope = 2 then s.requestReset 0x07
  else s

/-- R461: PRC_RSTCMD with SCOPE DEVICE. -/
def execDeviceResetCommand (confirm : Fin 65536) (s : State) : Host.Outcome State Fault Refusal := goOn (s.resetCommand 1 confirm)

/-- R461: PRC_RSTCMD with SCOPE CORE1. -/
def execCore1ResetCommand (confirm : Fin 65536) (s : State) : Host.Outcome State Fault Refusal := goOn (s.resetCommand 2 confirm)

/-- R461: the debug port requests a reset. -/
def execDebugResetRequest (core1 : Bool) (s : State) : Host.Outcome State Fault Refusal :=
  goOn (s.requestReset (if core1 then 0x48 else 0x08))

/-- R461: nRST has been low for `cycles` RCO cycles; fewer than 32 are ignored, and so is the input while the device itself
drives nRST (R463). -/
def execPinReset (cycles : Nat) (s : State) : Host.Outcome State Fault Refusal :=
  if cycles < 32 ∨ s.power.stretch.any (· != 3) then goOn s else goOn (s.requestReset 0x03)

/-- R461: VSUP rises with the alive latch clear, or a wake ends Standby. -/
def execPowerOn (s : State) : Host.Outcome State Fault Refusal :=
  if !s.power.supply ∨ s.power.state = .off then goOn ((s.setPower { s.power with supply := true }).requestReset 0x01)
  else if s.power.state = .standby ∧ !s.power.wakes.isEmpty then goOn (s.requestReset 0x01)
  else goOn s

/-- The pending codes of a reach. -/
def State.codesOf (s : State) (r : Reach) : List Nat :=
  s.power.resetReq.filter fun c => resetReach s.power.state c == r

/-- R461, R462, R465: the requested resets are applied: the widest reach, its lowest code the cause, every source recorded.
During the stretch a source of the same or a narrower reach is only recorded; a wider one starts a new reset. A request
in Sleep or Deep waits for the return, but for a reset that ends the return itself. -/
def execDeviceReset (s : State) : Host.Outcome State Fault Refusal :=
  let st := s.power.state
  let req := s.power.resetReq
  let old := s.power.stretch
  let oldCold := s.boot.cold
  if req.isEmpty then goOn s
  else if (st = .sleep ∨ st = .deep) ∧ !req.contains 0x0E ∧ !req.contains 0x09 then goOn s
  else
    let cold := s.codesOf .cold
    let warm := s.codesOf .warm
    if !cold.isEmpty ∧ (old.isEmpty ∨ !oldCold) then goOn (s.resetDevice true (minCode cold) (old ++ req))
    else if !old.isEmpty then
      goOn ((s.put PRC_RSTSRC_SOURCES (sourceBits (old ++ req))).setPower { s.power with resetReq := [], stretch := old ++ req })
    else if !warm.isEmpty then goOn (s.resetDevice false (minCode warm) req)
    else goOn ((s.resetCore1 req).setPower { s.power with resetReq := [] })

/-- R463, R466: nRST has risen and the islands leave reset: the INFO entry, TNET counts from 0, core 0 starts in ROM.
`held` says that an external driver held nRST. -/
def execResetRelease (held : Bool) (s : State) : Host.Outcome State Fault Refusal :=
  if s.power.stretch.isEmpty then goOn s
  else
    let cause := s.get PRC_RSTCAUSE_CAUSE
    let s := s.flag PRC_RSTCAUSE_PIN_HELD (held && cause != 3)
    let s := s.prcInfo cause
    goOn { s with power := { s.power with stretch := [], tnetRuns := !s.on PRC_STATUS_REF_FAIL }, boot := { s.boot with due := true } }

/-- R464: HOLD_REL. -/
def execHoldRelease (s : State) : Host.Outcome State Fault Refusal := goOn s.holdRelease

/-- R467: a write of PRC_BLKRST. -/
def execBlockReset (mask : Fin 512) (s : State) : Host.Outcome State Fault Refusal := goOn (s.blockResetWrite mask)

/-- R467, R492: the block is released; system firmware takes the paths of a released RF island to IDLE, and a tag write that
ran has completed first. -/
def execBlockResetRelease (block : Fin 9) (s : State) : Host.Outcome State Fault Refusal :=
  let b := s.get PRC_BLKRST_BLOCK
  if !bit b block ∨ (block = 8 ∧ s.tag.write.isSome) then goOn s
  else
    let s := s.put PRC_BLKRST_BLOCK (clearBit b block)
    if block = 8 then goOn (s.resetBlock 16)
    else if block = 1 then goOn ((List.range 128).foldl State.restLane s)
    else if block = 0 then
      let up (s : State) (p : Path) : State := s.setPath p { s.path p with goal := some 1 }
      let s := up (up s .t) .a
      goOn (if s.partT then s else up s .b)
    else goOn s

end Sys2Proof.Machine
end

