-- ==== Sys2Proof/Machine/RadioTest.lean ====
section
/-! DEFINITION. The test operations of R60 and R61 (spec/02_radio_front_end.md), which act only in Test mode. -/
namespace Sys2Proof.Machine

/-- An operation starts only in Test mode, with none running and no transmission on the air. -/
def State.testIdle (s : State) : Bool := s.mode == modeTest && !s.radio.test.running && s.airUnit.isNone

/-- The record of an operation that starts (R61). -/
def testRecord (op : Nat) : List Byte := BitVec.ofNat 8 op :: List.replicate 63 0

/-- R60: a carrier of RFC_TESTDUR ms, checked as one transmission of that planned time; a refused one does not start. -/
def State.startCarrier (s : State) (op : Nat) : State :=
  if !s.testIdle then s
  else
    let (ok, s) := s.testLaunch (s.get RFC_TESTDUR_DURATION * 100000)
    if ok then s.setTest { s.radio.test with op := op, running := true, startCycle := s.clock } else s

def execTestCw (s : State) : Host.Outcome State Fault Refusal := goOn (s.startCarrier 1)

def execModcarrier (s : State) : Host.Outcome State Fault Refusal := goOn (s.startCarrier 2)

/-- R60, R61: PER_TX sends the frames of object 0x2030.01. -/
def execPerTx (s : State) : Host.Outcome State Fault Refusal :=
  if !s.testIdle then goOn s
  else
    let t : TestOp := { op := 3, running := true, record := testRecord 3, startCycle := s.clock }
    goOn (State.perNext (s.objNumD 0x203001 1000) (s.setTest t))

/-- The lane of PER_RX's channel on its half alone (R61). -/
def State.perLane (s : State) : Option Nat :=
  let h := s.get RFC_TESTRX_HALF
  let n := s.get RFC_TESTRX_CHANNEL
  if s.get CHZ_CHCOUNT_N ≤ n ∨ (h = 1 ∧ s.partT) then none
  else
    let c := s.get (if h = 0 then RFC_FREQ_A_FREQ else RFC_FREQ_B_FREQ)
    let f : Int := ((s.get CHZ_CHF0_F0 + n * s.get CHZ_CHSPACE_S : Nat) : Int)
    (mapHalf c (s.plan h) f).map fun x => 64 * h + x.1

/-- R60, R61: PER_RX keeps a window open on the lane of its channel, with its receive profile, until STOP. -/
def execPerRx (s : State) : Host.Outcome State Fault Refusal :=
  match (if s.testIdle && !s.running then s.perLane else none) with
  | none => goOn s
  | some lane =>
    let t : TestOp := { op := 4, running := true, lane := lane, savedProfile := s.get (CHZ_LCFG_PROFILE lane),
                        record := testRecord 4, startCycle := s.clock }
    let s := ((s.setTest t).put (CHZ_LCFG_PROFILE lane) (s.get RFC_TESTRX_PROFILE)).laneProfChanged lane
    goOn (if s.laneEn lane then State.openLane (2 ^ 64) s lane else s)

/-- R61: CALREAD copies all calibration results, RFC_TEMP and RFC_CALSTAT; the fields of an absent path read 0. -/
def State.calRecord (s : State) : List Byte :=
  let b (f : PathCal → Nat) : Nat := if s.partT then 0 else f s.radio.pathB
  let a := s.radio.pathA
  leBytes 1 5 ++ leBytes 1 1 ++ leBytes 2 0 ++
  leBytes 4 a.vco ++ leBytes 4 (b (·.vco)) ++ leBytes 4 s.radio.pathT.vco ++
  leBytes 4 a.imr ++ leBytes 4 (b (·.imr)) ++ leBytes 4 a.chbw ++ leBytes 4 (b (·.chbw)) ++
  leBytes 4 a.dciq ++ leBytes 4 (b (·.dciq)) ++ leBytes 4 (s.get RFC_CALRES_XTAL_ERR_PPB) ++
  leBytes 4 (s.fieldsWord [RFC_TEMP_TEMP, RFC_TEMP_TEMP_CAL_T]) ++
  leBytes 4 (s.fieldsWord [RFC_CALSTAT_BUSY, RFC_CALSTAT_RESULT, RFC_CALSTAT_LAST_TYPE, RFC_CALSTAT_LAST_TARGET, RFC_CALSTAT_COUNT]) ++
  List.replicate 12 0

def execCalread (s : State) : Host.Outcome State Fault Refusal :=
  if s.mode ≠ modeTest ∨ s.radio.test.running then goOn s
  else goOn (s.setTest { s.radio.test with op := 5, record := s.calRecord })

/-- TIME of a PER_RX run: ms since the start, saturating (R61). -/
def State.perTime (s : State) : Nat := min ((s.clock - s.radio.test.startCycle) / 100000) (2 ^ 32 - 1)

/-- The record of object 0x2030.02 as it reads now (R61). -/
def State.testResults (s : State) : List Byte :=
  let t := s.radio.test
  let r := bytesAt t.record 0 64
  if t.running ∧ t.op = 4 then r.take 24 ++ leBytes 4 s.perTime ++ r.drop 28 else r

/-- A test transmission ends with ramp-down; one that has not reached its ramp is dropped. The transmitter goes to IDLE. -/
def State.stopCarrier (s : State) : State :=
  match s.airUnit with
  | none => s
  | some u =>
    if u.kind ≠ .test then s
    else if u.phase = .locked then (s.removeTx u.id).txReturn.enter .t 1
    else s.forceRampDown 1

/-- R60: STOP ends the running operation with a ramp-down; a PER_RX run restores its lane's profile. -/
def execTestStop (s : State) : Host.Outcome State Fault Refusal :=
  let t := s.radio.test
  if s.mode ≠ modeTest ∨ !t.running then goOn s
  else if t.op = 4 then
    let s := s.setTest { t with running := false, record := setAt s.testResults 1 1 }
    let s := ((s.closeLane t.lane).put (CHZ_LCFG_PROFILE t.lane) t.savedProfile).laneProfChanged t.lane
    goOn (s.halfReturn (t.lane / 64))
  else
    let s := s.setTest { t with running := false, framesLeft := 0, record := if t.op = 3 then setAt t.record 1 1 else t.record }
    goOn s.stopCarrier

/-- R60: the duration of a CW or MODCARRIER run is over: its ramp-down starts. -/
def execTestDurationEnd (s : State) : Host.Outcome State Fault Refusal :=
  let t := s.radio.test
  match s.airUnit with
  | none => goOn s
  | some u =>
    if t.running ∧ (t.op = 1 ∨ t.op = 2) ∧ u.kind = .test ∧ u.phase = .tx then
      goOn ((s.enter .t 6).setTx { u with phase := .rampDown })
    else goOn s

end Sys2Proof.Machine
end

