-- ==== Sys2Proof/Machine/RegStore.lean ====
section
/-! DEFINITION. What a store to a register does to its fields by their access codes (R6, R7): the one operation through
which every plain field of the register map is written. -/
namespace Sys2Proof.Machine

/-- A store to the register word at `addr`: the bits that it writes, and their values; bits outside `mask` keep what they
hold. -/
structure RegStore where
  addr : Nat
  value : Nat
  mask : Nat := 0xFFFFFFFF
deriving DecidableEq, Repr

/-- The written bits, the others 0: what a write-only register receives. -/
def RegStore.word (w : RegStore) : Nat := w.value &&& w.mask

/-- `old` with the bits of `mask` taken from `v`. -/
def blend (old v mask : Nat) : Nat := (old - (old &&& mask)) + (v &&& mask)

/-- A bit of the store is 1. -/
def RegStore.one (w : RegStore) (n : Nat) : Bool := bit w.word n

/-- The store reaches a bit. -/
def RegStore.hits (w : RegStore) (n : Nat) : Bool := bit w.mask n

/-- The value that field `f` would take. -/
def RegStore.fieldOf (w : RegStore) (s : State) (f : RegField) : Nat :=
  blend (s.get f) (slice w.value f.lsb f.width) (slice w.mask f.lsb f.width)

/-- The word that the fields `fs` of one register would make. -/
def RegStore.merged (w : RegStore) (s : State) (fs : List RegField) : Nat := blend (s.fieldsWord fs) w.value w.mask

/-- The store would give the field an illegal value. -/
def FieldRow.refuses (r : FieldRow) (s : State) (w : RegStore) : Bool :=
  (r.access == .rw || r.access == .rwl) && !r.legal (w.fieldOf s r.field)

/-- One field of a register takes its part of the store (R6); a field that controls half B takes none on the KW-7250-T
(R3), and a locked RWL field none. -/
def FieldRow.apply (r : FieldRow) (locked : Bool) (w : RegStore) (s : State) : State :=
  let f := r.field
  let m := slice w.mask f.lsb f.width
  let v := slice w.value f.lsb f.width &&& m
  if m = 0 ∨ (r.halfB = true ∧ s.partT = true) then s
  else match r.access with
  | .ro => s
  | .wo => s
  | .rw => if r.refuses s w then s else s.put f (w.fieldOf s f)
  | .rwl => if locked || r.refuses s w then s else s.put f (w.fieldOf s f)
  | .w1c => s.put f (s.get f - (s.get f &&& v))
  | .w1s => s.put f (s.get f ||| v)

/-- The fields of one register take the store; where the register says so, one illegal value ignores all of it. -/
def State.storeFields (s : State) (rows : List FieldRow) (whole locked : Bool) (w : RegStore) : State :=
  if whole && rows.any (fun r => r.refuses s w) then s
  else rows.foldl (fun (s : State) r => r.apply locked w s) s

/-- A store into a block's map `regs`; an unassigned offset ignores it (R7). -/
def State.storeReg (s : State) (regs : List RegRow) (locked : Bool) (w : RegStore) : State :=
  match findReg regs w.addr with
  | some (rows, whole) => s.storeFields rows whole locked w
  | none => s

/-- The state after a command's effect, for a command that another one gives. -/
def State.after (s : State) (f : State → Host.Outcome State Fault Refusal) : State :=
  match f s with
  | .next t => t
  | _ => s

/-- The element at which `a` stands in an array of `n` registers `stride` apart from `base`. -/
def arrayIndex (a base stride n : Nat) : Option Nat :=
  if base ≤ a ∧ (a - base) % stride = 0 ∧ (a - base) / stride < n then some ((a - base) / stride) else none

end Sys2Proof.Machine
end

