-- ==== Sys2Proof/Machine/RegWriteA.lean ====
section
/-! DEFINITION. Stores to the registers of the PRC, RFC, CHZ, TXP, SLE, MAC, SEC and PKE blocks: the plain fields by their
access codes, the command registers by the commands that they give, and what a field's change brings with it. -/
namespace Sys2Proof.Machine

/-- PRC (R469): core 1 reaches only the page of its watchdog. -/
def State.prcWrite (s : State) (w : RegStore) : State :=
  let a := w.addr
  let locked := s.on PRC_LOCK_LOCK
  if a = (PRC_CTRL_DOZE_EN).addr then
    let s := s.storeReg prcRegs locked w
    if w.one 9 then s.holdRelease else s
  else if a = (PRC_RSTCMD_SCOPE).addr then s.resetCommand (slice w.word 0 2) (slice w.word 16 16)
  else if a = (PRC_PWRCMD_STATE).addr then s.powerCommand (slice w.word 0 3)
  else if a = (PRC_BLKRST_BLOCK).addr then s.blockResetWrite (slice w.word 0 9)
  else match arrayIndex a (PRC_WDT_CFG_EN 0).addr 0xFC0 2, arrayIndex a (PRC_WDT_KICK_VALUE 0).addr 0xFC0 2 with
  | some n, _ =>
    let was := s.on (PRC_WDT_CFG_EN n)
    let old := s.get (PRC_WDT_CFG_WARN n)
    let s := s.storeReg prcRegs (locked && n == 0) w
    let s := if s.get (PRC_WDT_CFG_TIMEOUT n) ≤ s.get (PRC_WDT_CFG_WARN n) then s.put (PRC_WDT_CFG_WARN n) old else s
    if !was ∧ s.on (PRC_WDT_CFG_EN n) then s.wdtEnable n else s
  | _, some n => s.wdtKick n w.word
  | _, _ => s.storeReg prcRegs locked w

/-- RFC (R63). GAIN is ignored while AGC_AUTO stands at 1, and a write of the register clears SAT_COUNT; a change of
ANT_CFG empties the coefficient sets of the leakage cancellers (R93). -/
def State.rfcWrite (s : State) (w : RegStore) : State :=
  let a := w.addr
  let locked := s.on RFC_LOCK_LOCK
  let plain := s.storeReg rfcRegs locked w
  if a = (RFC_CTRL_ANT_CFG).addr then
    let old := s.get RFC_CTRL_ANT_CFG
    let s := if s.mode = modeCompat then plain.put RFC_CTRL_ANT_CFG old else plain
    if s.get RFC_CTRL_ANT_CFG = old then s else { s with radio := { s.radio with leakA := [], leakB := [] } }
  else if a = (RFC_CMD_PATH).addr then s.after (execRadioStateCommand (BitVec.ofNat 32 w.word))
  else if a = (RFC_FREQ_A_FREQ).addr then s.after (execFreqWrite .a (BitVec.ofNat 32 (w.merged s [RFC_FREQ_A_FREQ])))
  else if a = (RFC_FREQ_B_FREQ).addr then s.after (execFreqWrite .b (BitVec.ofNat 32 (w.merged s [RFC_FREQ_B_FREQ])))
  else if a = (RFC_FREQ_T_FREQ).addr then s.after (execFreqWrite .t (BitVec.ofNat 32 (w.merged s [RFC_FREQ_T_FREQ])))
  else if a = (RFC_CALCMD_TYPE).addr then s.after (execCalibrationStart (BitVec.ofNat 32 w.word))
  else if a = (RFC_GAIN_A_GAIN).addr then
    let t := plain.put RFC_GAIN_A_SAT_COUNT 0
    if s.on RFC_GAIN_A_AGC_AUTO then t.put RFC_GAIN_A_GAIN (s.get RFC_GAIN_A_GAIN) else t
  else if a = (RFC_GAIN_B_GAIN).addr then
    let t := plain.put RFC_GAIN_B_SAT_COUNT 0
    if s.on RFC_GAIN_B_AGC_AUTO then t.put RFC_GAIN_B_GAIN (s.get RFC_GAIN_B_GAIN) else t
  else if a = (RFC_TESTCMD_OP).addr then
    if w.mask % 16 = 0 then s
    else match slice w.word 0 4 with
    | 0 => s.after execTestStop
    | 1 => s.after execTestCw
    | 2 => s.after execModcarrier
    | 3 => s.after execPerTx
    | 4 => s.after execPerRx
    | 5 => s.after execCalread
    | _ => s
  else plain

/-- A lane's EN or PROFILE has been written (R76, R79): the lane, and in twin receive the one that follows its settings. A
frame in progress completes first. -/
def State.laneCfgChanged (s : State) (i : Nat) : State :=
  let lanes := (List.range 128).filter fun j => s.laneSrc j == i
  lanes.foldl (fun (s : State) j =>
    let s := if s.laneState j = laneFrame then s else s.restLane j
    s.laneProfChanged j) s

/-- CHZ (R96): core writes are ignored in Compatibility mode (R72). -/
def State.chzWrite (s : State) (w : RegStore) : State :=
  let a := w.addr
  let locked := s.on CHZ_LOCK_LOCK
  let plain := s.storeReg chzRegs locked w
  if s.mode = modeCompat then s
  else if a = (CHZ_CTRL_TWIN_EN).addr then
    let planA := s.get CHZ_CTRL_PLAN_A
    let planB := s.get CHZ_CTRL_PLAN_B
    let t := plain.put CHZ_CTRL_TWIN_EN (s.get CHZ_CTRL_TWIN_EN)
    let t := if w.hits 2 then t.writeTwin (w.one 2) else t
    if t.get CHZ_CTRL_PLAN_A = planA ∧ t.get CHZ_CTRL_PLAN_B = planB then t
    else
      let t := t.mapChanged
      if t.running then t else (t.takePlan 0).takePlan 1
  else if a = (CHZ_CHF0_F0).addr ∨ a = (CHZ_CHSPACE_S).addr ∨ a = (CHZ_CHCOUNT_N).addr then
    if plain = s then s else plain.mapChanged
  else match arrayIndex a (CHZ_PROF_MOD 0).addr 4 4, arrayIndex a (CHZ_LCFG_EN 0).addr 0x10 128,
      arrayIndex a (CHZ_LCNT_DETECT 0).addr 0x10 128 with
  | some p, _, _ =>
    if h : p < 4 then s.after (execRxProfileWrite ⟨p, h⟩ (BitVec.ofNat 32 (w.merged s (rxProfFields p)))) else s
  | _, some i, _ =>
    if (64 ≤ i ∧ s.partT = true) ∨ plain = s then s else plain.laneCfgChanged i
  | _, _, some i => ((s.put (CHZ_LCNT_DETECT i) 0).put (CHZ_LCNT_BLANKED i) 0).put (CHZ_LCNT_OVF i) 0
  | _, _, _ => plain

/-- TXP (R116): core writes of the profiles are ignored in Compatibility mode. -/
def State.txpWrite (s : State) (w : RegStore) : State :=
  match arrayIndex w.addr (TXP_PROF_MOD 0).addr 4 4 with
  | some p =>
    if h : p < 4 then s.after (execTxProfileWrite ⟨p, h⟩ (BitVec.ofNat 32 (w.merged s (txProfFields p)))) else s
  | none => s.storeReg txpRegs (s.on TXP_LOCK_LOCK) w

/-- The bytes that a store writes, and the offset of the first. -/
def RegStore.bytes (w : RegStore) : Nat × List Byte :=
  let hit := (List.range 4).filter fun k => slice w.mask (8 * k) 8 == 0xFF
  (hit.headD 0, hit.map fun k => BitVec.ofNat 8 (slice w.value (8 * k) 8))

/-- A program command of SLE_CMD (R118). -/
def State.sleCommand (s : State) (code : Nat) (who : Master) : State :=
  match code with
  | 1 => s.after (execLoadProgram who)
  | 2 => s.after execArmSwap
  | 3 => s.after execProgramCancel
  | 4 => s.after execProgramStop
  | 5 => s.after execProgramClear
  | _ => s.cmdRej

/-- SLE (R146). -/
def State.sleWrite (s : State) (who : Master) (w : RegStore) : State :=
  let a := w.addr
  let base := (SLE_CMD_CMD).addr
  if base + 0x8000 ≤ a then
    let (k, bs) := w.bytes
    if bs.isEmpty then s else s.after (execImageWrite (32768 * s.get SLE_IMGPAGE_PAGE + (a - base - 0x8000) + k) bs)
  else if a = (SLE_CMD_CMD).addr then s.sleCommand (slice w.word 0 4) who
  else if a = (SLE_TWINTEST_SEQ).addr then s.after (execTwintestInject (BitVec.ofNat 32 w.word))
  else if a = (SLE_DROPPOP_POP).addr then (if w.one 0 then s.after execDropPop else s)
  else if a = (SLE_ACKMISS_COUNT).addr then s.put SLE_ACKMISS_COUNT 0
  else if base + 0x100 ≤ a ∧ a < base + 0x200 then
    let i := (a - base - 0x100) / 0x10
    let s := (s.put (SLE_SDONE_DONE i) 0).put (SLE_SLATE_LATE i) 0
    ((s.put (SLE_STWIN_TWIN i) 0).put (SLE_SPEAK_PEAK_CHARGE i) 0).put (SLE_SPEAK_PEAK_UNITS i) 0
  else s.storeReg sleRegs false w

/-- MAC (R180). -/
def State.macWrite (s : State) (w : RegStore) : State :=
  let a := w.addr
  let plain := s.storeReg macRegs (s.on MAC_LOCK_LOCK) w
  if a = (MAC_CTRL_TSRC).addr then
    let d := plain.get MAC_CTRL_DQ_THRESH
    let t := if 1 ≤ d ∧ d < s.get MAC_FBCFG_DQ_SIZE then plain else plain.put MAC_CTRL_DQ_THRESH (s.get MAC_CTRL_DQ_THRESH)
    if t.get MAC_CTRL_TSRC = s.get MAC_CTRL_TSRC then t
    else (if t.mode = modeNode ∧ t.on MAC_CTRL_TSRC then t.unfollow else t).steerOff
  else if a = (MAC_SYNCCMD_CMD).addr then
    match slice w.word 0 2 with
    | 1 => s.after execSyncScan
    | 2 => s.after execSyncStop
    | 3 => s.after execSyncPoll
    | _ => s
  else if a = (MAC_CSMA_MIN_BE).addr then
    if plain.get MAC_CSMA_MAX_BE < plain.get MAC_CSMA_MIN_BE then s else plain
  else if a = (MAC_FBCFG_DQ_SIZE).addr then
    s.after (execFbcfgWrite (BitVec.ofNat 32 (w.merged s [MAC_FBCFG_DQ_SIZE, MAC_FBCFG_RX_BLOCKS])))
  else if a = (MAC_DQ_RD).addr then s.after (execDqRelease (w.merged s [MAC_DQ_RD] % 4096))
  else if a = (MAC_DQSTAT_FULL).addr then s.put MAC_DQSTAT_FULL 0
  else if a = (MAC_TXPUSH_INDEX).addr then s.after (execTxPush (Fin.ofNat 4096 w.word))
  else if a = (MAC_TXDONEPOP_POP).addr then (if w.one 0 then s.after execTxDonePop else s)
  else if a = (MAC_QCMD_CMD).addr then
    match slice w.word 4 2 with
    | 1 => s.after (execQueueFlush (Fin.ofNat 16 w.word))
    | 2 => s.after execFlushPending
    | _ => s
  else if a = (MAC_CTXCMD_CMD).addr then
    match slice w.word 12 2 with
    | 1 => s.after (execContextWrite (Fin.ofNat 1024 w.word))
    | 2 => s.after (execContextRead (Fin.ofNat 1024 w.word))
    | 3 => s.after (execContextDelete (Fin.ofNat 1024 w.word))
    | _ => s
  else if a = (MAC_RXDISC_NOT_MINE).addr then (s.put MAC_RXDISC_NOT_MINE 0).put MAC_RXDISC_BAD_FRAME 0
  else if a = (MAC_EBCFG_EB_BLOCK).addr then
    if plain.get MAC_EBCFG_EB_BLOCK < s.get MAC_FBCFG_RX_BLOCKS then plain.put MAC_EBCFG_EB_BLOCK (s.get MAC_EBCFG_EB_BLOCK)
    else plain
  else match arrayIndex a (MAC_CTXBUF_IMAGE 0).addr 4 16 with
  | some k =>
    let (j, bs) := w.bytes
    let buf := (bs.zipIdx).foldl (fun b x => setAt b (4 * k + j + x.2) x.1) s.mac.ctxBuf
    { s with mac := { s.mac with ctxBuf := buf } }
  | none => plain

/-- The registers of page `p` of the cipher island (R195, R202). -/
def State.secPageWrite (s : State) (p : Nat) (w : RegStore) : State :=
  let a := w.addr
  let plain := s.storeReg secRegs (s.on SEC_LOCK_LOCK) w
  let pg := Fin.ofNat 8 p
  if 8 ≤ p then s
  else if a = (SEC_P_SUBMIT_ADDR p).addr then s.after (execCipherSubmit pg (BitVec.ofNat 32 w.word))
  else if a = (SEC_P_DONE_DONE p).addr then (if w.one 1 then plain.after (execPageAbort pg) else plain)
  else if a = (SEC_P_KDATA0_KEY p).addr then s.put (SEC_P_KDATA0_KEY p) (w.fieldOf s (SEC_P_KDATA0_KEY p))
  else if a = (SEC_P_KDATA1_KEY p).addr then s.put (SEC_P_KDATA1_KEY p) (w.fieldOf s (SEC_P_KDATA1_KEY p))
  else if a = (SEC_P_KDATA2_KEY p).addr then s.put (SEC_P_KDATA2_KEY p) (w.fieldOf s (SEC_P_KDATA2_KEY p))
  else if a = (SEC_P_KDATA3_KEY p).addr then s.put (SEC_P_KDATA3_KEY p) (w.fieldOf s (SEC_P_KDATA3_KEY p))
  else if a = (SEC_P_KCMD_CMD p).addr then
    match slice w.word 0 2 with
    | 1 => s.after (execKeyLoad pg)
    | 2 => s.after (execKeyClear pg)
    | _ => s
  else plain

/-- SEC (R202): the global registers respond to core 0 only. -/
def State.secWrite (s : State) (core1 : Bool) (w : RegStore) : State :=
  let a := w.addr
  let base := (SEC_STATUS_RESERVE).addr
  if base + 0x1000 ≤ a then s.secPageWrite ((a - base) / 0x1000 - 1) w
  else if core1 then s
  else if a = (SEC_COUNT0_SE_AUTHF).addr ∨ a = (SEC_COUNT1_SE_FAULT).addr then
    (((s.put SEC_COUNT0_SE_AUTHF 0).put SEC_COUNT0_SE_KEYLIM 0).put SEC_COUNT1_SE_FAULT 0).put SEC_COUNT1_SE_PAGEV 0
  else if a = (SEC_KOWNER_OWNER).addr then
    if w.hits 0 then s.after (execKeyOwnerWrite (BitVec.ofNat 32 w.word)) else s
  else s.storeReg secRegs (s.on SEC_LOCK_LOCK) w

/-- PKE (R443). -/
def State.pkeWrite (s : State) (w : RegStore) : State :=
  if w.addr = (PKE_CMD_OP).addr then s.pkeCommand (slice w.word 0 4) (w.one 4) (w.one 5) (w.one 8)
  else s.storeReg pkeRegs (s.on PKE_LOCK_LOCK) w

end Sys2Proof.Machine
end

