-- ==== Sys2Proof/Machine/Flash.lean ====
section
/-! DEFINITION. The commands of the flash controller (spec/14_flash_controller.md). -/
namespace Sys2Proof.Machine

/-- R343, R345: a READ_PAGE descriptor is pushed, by core 1 or core 0, by ROM code or other. -/
def execReadPage (tag : Fin 65536) (faddr buf : Word) (raw core1 rom : Bool) (s : State) : Host.Outcome State Fault Refusal :=
  goOn (s.flashSubmit { op := 1, flags := ofBool raw, tag := tag, faddr := faddr.toNat, buf := buf.toNat, core1 := core1 } rom)

/-- R343, R345: a PROGRAM_PAGE descriptor is pushed. -/
def execProgramPage (tag : Fin 65536) (faddr buf : Word) (core1 rom : Bool) (s : State) : Host.Outcome State Fault Refusal :=
  goOn (s.flashSubmit { op := 2, tag := tag, faddr := faddr.toNat, buf := buf.toNat, core1 := core1 } rom)

/-- R343, R351: an ERASE_BLOCK descriptor is pushed. -/
def execEraseBlock (tag : Fin 65536) (faddr : Word) (core1 rom : Bool) (s : State) : Host.Outcome State Fault Refusal :=
  goOn (s.flashSubmit { op := 3, tag := tag, faddr := faddr.toNat, core1 := core1 } rom)

/-- R343, R345: a READ_COUNTER descriptor is pushed. -/
def execReadCounter (tag : Fin 65536) (faddr : Word) (core1 rom : Bool) (s : State) : Host.Outcome State Fault Refusal :=
  goOn (s.flashSubmit { op := 4, tag := tag, faddr := faddr.toNat, core1 := core1 } rom)

/-- R344, R348: a SUSPEND descriptor is pushed. -/
def execFlashSuspend (tag : Fin 65536) (faddr : Word) (core1 rom : Bool) (s : State) : Host.Outcome State Fault Refusal :=
  goOn (s.flashSubmit { op := 5, tag := tag, faddr := faddr.toNat, core1 := core1 } rom)

/-- R344, R348: a RESUME descriptor is pushed. -/
def execResumeFlash (tag : Fin 65536) (faddr : Word) (core1 rom : Bool) (s : State) : Host.Outcome State Fault Refusal :=
  goOn (s.flashSubmit { op := 6, tag := tag, faddr := faddr.toNat, core1 := core1 } rom)

/-- R344: a FLUSH_MERGE descriptor is pushed. -/
def execFlushMerge (tag : Fin 65536) (core1 rom : Bool) (s : State) : Host.Outcome State Fault Refusal :=
  goOn (s.flashSubmit { op := 7, tag := tag, core1 := core1 } rom)

/-- R340, R351: a pulse of bank `k` ends; `complete` says that the array's check found the operation done. A finished
journal half erase is followed by the snapshot and the erase it was for. -/
def State.pulseEnd (s : State) (k : Nat) (complete : Bool) : State :=
  match (s.bank k).run with
  | none => s
  | some r =>
    let op := s.get (FLC_BANK_STAT_OP k)
    if op = 0 ∨ s.get (FLC_BANK_STAT_STATE k) ≠ 1 ∨ r.status.isSome then s
    else
      let n := s.get (FLC_BANK_STAT_PULSES k) + 1
      let s := s.put (FLC_BANK_STAT_PULSES k) n
      if complete then
        if op = 3 then
          let h := 1 - s.get (jnlHalf k)
          let s := (s.jnlErase k h).put (ecnt k 63) (min (s.get (ecnt k 63) + 1) 0xFFFFFFFF)
          (s.jnlSnapshot k h).startErase k r
        else s.setRun k (some { r with status := some 0 })
      else if op = 1 ∧ 12 ≤ n then s.setRun k (some { r with status := some 7 })
      else if 80 ≤ n then s.setRun k (some { r with status := some 8 })
      else s

def execFlashPulseEnd (bankB complete : Bool) (s : State) : Host.Outcome State Fault Refusal :=
  goOn (s.pulseEnd (ofBool bankB) complete)

/-- R346: the descriptor that has ended completes: of bank A (0) or B (1), a read beside its suspended operation first,
or the FLUSH_MERGE (2). -/
def execFlashDone (who : Fin 3) (s : State) : Host.Outcome State Fault Refusal :=
  if who.val = 2 then
    match s.flash.mergeRun with
    | none => goOn s
    | some r =>
      let open_ := r.pages.any fun a => s.flash.merge.any fun e => e.page == a && e.flushing
      if open_ ∧ r.status = none then goOn s
      else
        let s := s.setFlash { s.flash with mergeRun := none, queue := s.flash.queue.erase r.desc }
        goOn ((s.flashRecord r (r.status.getD 0) 0).kick)
  else
    let k := who.val
    match (s.bank k).side, (s.bank k).run with
    | some r, _ =>
      match r.status with
      | some st => goOn (s.completeRun k r st true)
      | none => goOn s
    | none, some r =>
      match r.status with
      | some st => goOn (s.completeRun k r st false)
      | none => goOn s
    | none, none => goOn s

/-- R346: the oldest record is removed; descriptors that waited for room may start. -/
def execFlashDonePop (s : State) : Host.Outcome State Fault Refusal :=
  let s := s.setFlash { s.flash with done := s.flash.done.drop 1 }
  match s.flash.queue.find? fun d => d.op == 5 || d.op == 6 with
  | some d => goOn ((({ s with flash := { s.flash with queue := s.flash.queue.erase d } }).suspendDesc d).kick)
  | none => goOn s.kick

/-- R341, R348: a load or fetch of the flash address misses the page buffers. -/
def execFlashPageMiss (addr : Word) (s : State) : Host.Outcome State Fault Refusal :=
  let a := addr.toNat
  if !inFlash a then goOn s
  else match s.flashLoad a 1 with
    | .data _ t => goOn t
    | .poison t => goOn t
    | .busError t => goOn t
    | .stall t => goOn t

/-- R348: RESUME_IDLE µs without a miss. -/
def execAutoResume (bankB : Bool) (s : State) : Host.Outcome State Fault Refusal :=
  let k := ofBool bankB
  if s.get (FLC_BANK_STAT_STATE k) = 2 then goOn (s.put (FLC_BANK_STAT_STATE k) 1) else goOn s

/-- R348: SUSPENDS of the operation has reached STARVE_N: once, STARVED and E106. -/
def execEraseStarve (bankB : Bool) (s : State) : Host.Outcome State Fault Refusal :=
  let k := ofBool bankB
  if s.on (FLC_BANK_STAT_OP k) ∧ !s.on (FLC_BANK_STAT_STARVED k) ∧ s.get FLC_CTRL_STARVE_N ≤ s.get (FLC_BANK_STAT_SUSPENDS k) then
    goOn ((s.flag (FLC_BANK_STAT_STARVED k) true).raise 106)
  else goOn s

/-- No descriptor, completion or operation is at hand (R342). -/
def State.flashIdle (s : State) : Bool :=
  s.flash.queue.isEmpty && s.flash.done.isEmpty && s.get (FLC_BANK_STAT_STATE 0) == 0 && s.get (FLC_BANK_STAT_STATE 1) == 0

/-- R342: a write of ROM_OWN and SWAP by an instruction fetched from ROM; any other is ignored, with a bus error while
ROM_OWN = 1. -/
def execFlashOwnerWrite (romOwn swap rom : Bool) (s : State) : Host.Outcome State Fault Refusal :=
  if !rom then goOn (if s.on FLC_OWNER_ROM_OWN then s.busInfo 0x400D0008 else s)
  else
    let was := s.on FLC_OWNER_ROM_OWN
    let s := s.flag FLC_OWNER_SWAP swap
    if romOwn then goOn (if was || s.flashIdle then s.flag FLC_OWNER_ROM_OWN true else s)
    else goOn ((s.flag FLC_OWNER_ROM_OWN false).raiseIf (was && s.anySuspect) 107)

end Sys2Proof.Machine
end

