-- ==== Sys2Proof/Machine/RegWriteB.lean ====
section
/-! DEFINITION. Stores to the registers of the GNS, RTC, TMR, EVR, MEM, FLC, HDP, TAG, BTU, ERR and PIN blocks. -/
namespace Sys2Proof.Machine

/-- The configuration of GNSS channel `c` (R231): an impossible SYS or PRN ignores the whole write; SYS and PRN stay while the
channel runs. -/
def State.gnsChanWrite (s : State) (c : Nat) (w : RegStore) : State :=
  let sys := w.fieldOf s (GNS_CCFG_SYS c)
  let prn := w.fieldOf s (GNS_CCFG_PRN c)
  if sys = 7 ∨ !prnOk sys prn then s
  else
    let was := s.on (GNS_CCFG_EN c)
    let plain := s.storeReg gnsRegs false w
    let t := if was then (plain.put (GNS_CCFG_SYS c) (s.get (GNS_CCFG_SYS c))).put (GNS_CCFG_PRN c) (s.get (GNS_CCFG_PRN c)) else plain
    let on := t.on (GNS_CCFG_EN c)
    let t := t.flag (GNS_CCFG_EN c) was
    if on = was then t else if on then t.startChan c else t.stopChan c

/-- The correlator offsets of channel `c` (R212). -/
def State.gnsSpacing (s : State) (c : Nat) (w : RegStore) : State :=
  let n := w.fieldOf s (GNS_CSPC_NARROW c)
  let e := w.fieldOf s (GNS_CSPC_EL c)
  let v := w.fieldOf s (GNS_CSPC_VEVL c)
  if within 2 20 n && within 4 40 e && within 20 80 v && decide (n < e) && decide (e < v) then
    (s.storeReg gnsRegs false w).flag (GNS_CSPC_SPC_REJ c) false
  else s.flag (GNS_CSPC_SPC_REJ c) true

/-- The registers of GNSS channel `c` (R231). -/
def State.gnsChan (s : State) (c : Nat) (w : RegStore) : State :=
  let a := w.addr
  let plain := s.storeReg gnsRegs false w
  if a = (GNS_CCFG_EN c).addr then s.gnsChanWrite c w
  else if a = (GNS_CSPC_EL c).addr then s.gnsSpacing c w
  else if a = (GNS_CCODE_CODE c).addr ∨ a = (GNS_CCARR_CARR c).addr then (if s.isSlave c then s else plain)
  else if a = (GNS_CPH_PHASE c).addr then
    if s.isSlave c then s
    else if s.on (GNS_CCFG_EN c) then plain
    else plain.put (GNS_CPH_PHASE c) (plain.get (GNS_CPH_PHASE c) % (codeLength (s.get (GNS_CCFG_SYS c)) * 65536))
  else if a = (GNS_CSEC_SECPH c).addr then
    let v := w.fieldOf s (GNS_CSEC_SECPH c)
    if secLength (s.get (GNS_CCFG_SYS c)) ≤ v then s
    else if s.on (GNS_CCFG_EN c) then s.setChan c { s.chan c with stagedSec := some v }
    else plain
  else plain

/-- PERIOD of the time pulse: 100 µs to 60 s, dividing 60 s (R220). -/
def pulsePeriodOk (v : Nat) : Bool := within 100 60000000 v && 60000000 % v == 0

/-- GNS (R231). In Compatibility and Recovery modes the island is powered down and takes no write. -/
def State.gnsWrite (s : State) (w : RegStore) : State :=
  let a := w.addr
  let locked := s.on GNS_LOCK_LOCK
  let plain := s.storeReg gnsRegs locked w
  let base := (GNS_CTRL_EN).addr
  if s.mode = modeCompat ∨ s.mode = modeRecovery then s
  else if base + 0x1000 ≤ a ∧ a < base + 0x4000 then s.gnsChan ((a - base - 0x1000) / 0x80) w
  else if a = base then
    let t := if s.on GNS_CTRL_EN ∧ !plain.on GNS_CTRL_EN then
        (List.range 96).foldl (fun (s : State) c => if s.on (GNS_CCFG_EN c) then s.stopChan c else s) plain.acqAbort
      else plain
    if t.get GNS_CTRL_STEER_EN = s.get GNS_CTRL_STEER_EN then t else t.steerOff
  else if a = (GNS_GAIN_GAIN).addr then (if s.on GNS_CTRL_AGC_AUTO then s else plain)
  else if a = (GNS_ACQPUSH_PUSH).addr then
    let t := if w.one 1 then s.acqAbort else s
    if w.one 0 then t.after execAcqPush else t
  else if a = (GNS_ACQPOP_POP).addr then (if w.one 0 then s.after execAcqPop else s)
  else if a = (GNS_JAM_JAM_THR).addr then
    if plain.get GNS_JAM_JAM_THR < plain.get GNS_JAM_JAM_HYST then plain.put GNS_JAM_JAM_HYST (s.get GNS_JAM_JAM_HYST) else plain
  else if a = (GNS_TPCFG_TP_MODE).addr ∨ a = (GNS_TPOFF_OFFSET).addr then (if locked then s else plain)
  else if a = (GNS_TPPER_VALUE).addr then
    let v := w.fieldOf s GNS_TPPER_VALUE
    if locked || !pulsePeriodOk v || decide (v ≤ s.get GNS_TPWID_VALUE) then s else plain
  else if a = (GNS_TPWID_VALUE).addr then
    let v := w.fieldOf s GNS_TPWID_VALUE
    if locked || v == 0 || decide (s.get GNS_TPPER_VALUE ≤ v) then s else plain
  else if a = (GNS_STEERCFG_KP_SH).addr then
    if plain.get GNS_STEERCFG_KI_SH < plain.get GNS_STEERCFG_KP_SH then plain.put GNS_STEERCFG_KI_SH (s.get GNS_STEERCFG_KI_SH)
    else plain
  else if a = (GNS_STEERCMD_CMD).addr then
    match slice w.word 0 2 with
    | 1 => s.after execSteerForce
    | 2 => s.after execSteerResetI
    | _ => s
  else if a = (GNS_GTCTRL_SET).addr then
    let t := if w.hits 0 then s.after (execTimeValidWrite (w.one 0)) else s
    if w.one 1 then t.after execGtimeSet else t
  else if a = (GNS_GTPHASE_PHASE).addr then s.after (execGtphaseTrim (BitVec.ofNat 32 w.word))
  else plain

/-- RTC (R247): an armed alarm takes no write of its match registers; EN written 1 arms under R240. -/
def State.rtcWrite (s : State) (w : RegStore) : State :=
  let a := w.addr
  let plain := s.storeReg rtcRegs (s.on RTC_LOCK_LOCK) w
  if a = (RTC_CMD_CMD).addr then
    match slice w.word 0 3 with
    | 1 => s.after execRtcSet
    | 2 => s.after execRtcSetAt
    | 3 => s.after execRtcSetCancel
    | 4 => s.after execRtcMeasure
    | 5 => s.after execMeasAbort
    | _ => s
  else if a = (RTC_TRIM_E).addr then s.after (execRtcTrimWrite (BitVec.ofNat 32 (w.merged s [RTC_TRIM_E])))
  else if a = (RTC_ALMCTRL_A_EN).addr then
    [0, 1].foldl (fun (t : State) i =>
      let f := almEn i
      let t := t.flag f (s.on f)
      if !w.hits f.lsb then t
      else if w.one f.lsb then t.almArm i
      else t.flag f false) plain
  else match arrayIndex a (RTC_ALM_T_SEC 0).addr 8 2, arrayIndex a (RTC_ALM_D_DAY 0).addr 8 2 with
  | some i, _ => if s.on (almEn i) then s else plain
  | _, some i => if s.on (almEn i) then s else plain
  | _, _ => plain

/-- TMR (R267): core 1 writes only the timers that it owns, and never TMR_OWNER. -/
def State.tmrWrite (s : State) (core1 : Bool) (w : RegStore) : State :=
  let a := w.addr
  let base := (TMR_CTRL_EN 0).addr
  if a = (TMR_START_MASK).addr then s.after (execTimerStart (Fin.ofNat 256 w.word) core1)
  else if a = (TMR_STOP_MASK).addr then s.after (execTimerStop (Fin.ofNat 256 w.word) core1)
  else if a < base + 0x100 then
    let n := (a - base) / 0x20
    let plain := s.storeReg tmrRegs false w
    if core1 ∧ !bit (s.get TMR_OWNER_OWNER) n then s
    else if a = (TMR_CTRL_EN n).addr then
      if w.fieldOf s (TMR_CTRL_CLKSEL n) = 3 then s
      else
        let was := s.on (TMR_CTRL_EN n)
        let t := if was then (plain.put (TMR_CTRL_CLKSEL n) (s.get (TMR_CTRL_CLKSEL n))).put (TMR_CTRL_PRE n) (s.get (TMR_CTRL_PRE n))
          else plain
        let t := if !s.on (TMR_CTRL_CMP_EN n) ∧ t.on (TMR_CTRL_CMP_EN n) then t.cmpArm n else t
        if !was ∧ t.on (TMR_CTRL_EN n) then t.timerStart n else t
    else if a = (TMR_CMP_CMP n).addr then plain.cmpArm n
    else plain
  else if core1 then s
  else s.storeReg tmrRegs (s.on TMR_LOCK_LOCK) w

/-- The bits of producer word `i` that name no reserved event (R24). -/
def liveEvents (i : Nat) : Nat := [0x7FFF3FFF, 0xFFFF03FF, 0xFF0FFF7F, 0xFFFF7FFF].getD i 0

/-- The task bits of word `i` that a channel may hold: T0 to T46, the secure ones only with SEC = 1 (R259). -/
def liveTasks (i : Nat) (sec : Bool) : Nat := [0xFFFFFFFF, if sec then 0x7FFF else 0x3FF5, 0].getD i 0

def tmField (c i : Nat) : RegField := [EVR_TM0_MASK c, EVR_TM1_MASK c, EVR_TM2_MASK c].getD i (EVR_TM0_MASK c)

/-- EVR_CFG of channel `c`: the rate window starts with EN, and clearing SEC clears the secure tasks (R259, R261). -/
def State.evrConfig (s : State) (c : Nat) (core1 : Bool) (w : RegStore) : State :=
  let w : RegStore := if core1 then { w with mask := w.mask - (w.mask &&& 0xE) } else w
  let plain := s.storeReg evrRegs (s.on EVR_LOCK_LOCK) w
  let t := if !s.on (EVR_CFG_EN c) ∧ plain.on (EVR_CFG_EN c) then plain.setEvr { plain.evr with passed := plain.evr.passed.erase c }
    else plain
  if t.on (EVR_CFG_SEC c) then t else t.put (EVR_TM1_MASK c) (t.get (EVR_TM1_MASK c) &&& liveTasks 1 false)

/-- The registers of channel `c` (R260, R268). -/
def State.evrChan (s : State) (c : Nat) (core1 : Bool) (w : RegStore) : State :=
  let a := w.addr
  let own := !core1 || (s.get (EVR_CFG_OWNER c) == 1 && !s.on (EVR_CFG_SEC c))
  let changes := core1 && a == (EVR_CFG_EN c).addr &&
    (w.fieldOf s (EVR_CFG_OWNER c) != s.get (EVR_CFG_OWNER c) || w.fieldOf s (EVR_CFG_SEC c) != s.get (EVR_CFG_SEC c))
  if !own then s.flag EVR_STATUS_ACC_REJ true
  else
    let s := s.flag EVR_STATUS_ACC_REJ changes
    if a = (EVR_CFG_EN c).addr then s.evrConfig c core1 w
    else if a = (EVR_STAT_STUCK c).addr then
      let t := if w.one 0 then s.setStuck c false else s
      t.put (EVR_STAT_DROPPED c) 0
    else
      let plain := s.storeReg evrRegs false w
      match arrayIndex a (EVR_PM0_MASK c).addr 4 4, arrayIndex a (EVR_TM0_MASK c).addr 4 3 with
      | some i, _ => plain.put (evrPm c i) (plain.get (evrPm c i) &&& liveEvents i)
      | _, some i => plain.put (tmField c i) (plain.get (tmField c i) &&& liveTasks i (s.on (EVR_CFG_SEC c)))
      | _, _ => plain

/-- EVR (R268). -/
def State.evrWrite (s : State) (core1 : Bool) (w : RegStore) : State :=
  let a := w.addr
  let base := (EVR_ESTAT_STAT 0).addr
  if base + 0x100 ≤ a ∧ a < base + 0x900 then s.evrChan ((a - base - 0x100) / 0x40) core1 w
  else if a = (EVR_SWEV_SW).addr then s.after (execSoftwareEvent (BitVec.ofNat 32 w.word))
  else if a = (EVR_FIRE_FIRE).addr then s.after (execEvrFire (BitVec.ofNat 32 w.word) core1)
  else match arrayIndex a (EVR_GPO_EN 0).addr 4 8 with
  | some _ => if s.on EVR_LOCK_LOCK then s else s.storeReg evrRegs false w
  | none => s.storeReg evrRegs false w

/-- MEM (R336). -/
def State.memWrite (s : State) (w : RegStore) : State :=
  let a := w.addr
  let plain := s.storeReg memRegs (s.on MEM_LOCK_LOCK) w
  if a = (MEM_STATUS_POISON_CNT).addr then (s.put MEM_STATUS_POISON_CNT 0).put MEM_STATUS_SCRUB_FOUND 0
  else if a = (MEM_ECCCNT_ECC_CORR).addr then (s.put MEM_ECCCNT_ECC_CORR 0).put MEM_ECCCNT_ECC_UNCORR 0
  else if a = (MEM_FLIPCFG_ARM).addr then
    if 16775 < w.fieldOf s MEM_FLIPCFG_OFFSET then s
    else
      let t := if w.one 16 then plain.put MEM_FLIPCFG_ARM (s.get MEM_FLIPCFG_ARM) else plain
      if w.one 16 then t.after execFlipArm else t
  else if a = (MEM_MERGE_FLUSH).addr then (if w.one 0 then s.after execMergeFlush else s)
  else plain

/-- The descriptor staged in FLC_DESC0 to FLC_DESC3 (R343). -/
def State.stagedDesc (s : State) (core1 : Bool) : FlashDesc :=
  let w0 := s.get (FLC_DESC_BYTES 0)
  { op := slice w0 0 8, flags := slice w0 8 8, tag := slice w0 16 16, faddr := s.get (FLC_DESC_BYTES 1),
    buf := s.get (FLC_DESC_BYTES 2), rsv := s.get (FLC_DESC_BYTES 3), core1 := core1 }

/-- FLC (R356): while ROM_OWN = 1 a write by code not fetched from ROM is ignored with a bus error (R342). -/
def State.flcWrite (s : State) (core1 rom : Bool) (w : RegStore) : State × Bool :=
  let a := w.addr
  if s.on FLC_OWNER_ROM_OWN ∧ !rom then (s.busInfo a, true)
  else if a = (FLC_OWNER_SWAP).addr then
    let v := w.merged s [FLC_OWNER_ROM_OWN, FLC_OWNER_SWAP]
    (s.after (execFlashOwnerWrite (bit v 0) (bit v 1) rom), false)
  else if a = (FLC_PUSH_PUSH).addr then ((if w.one 0 then s.flashPush (s.stagedDesc core1) else s), false)
  else if a = (FLC_DONEPOP_POP).addr then ((if w.one 0 then s.after execFlashDonePop else s), false)
  else (s.storeReg flcRegs (s.on FLC_LOCK_LOCK) w, false)

/-- HDP (R380). The group bit of the MAC address is bit 0 of its first octet (log entry 77). -/
def State.hdpWrite (s : State) (w : RegStore) : State :=
  let a := w.addr
  let plain := s.storeReg hdpRegs (s.on HDP_LOCK_LOCK) w
  if a = (HDP_CNT0_ACCEPTED).addr ∨ a = (HDP_CNT1_BUSY).addr then
    (((s.put HDP_CNT0_ACCEPTED 0).put HDP_CNT0_CRC_ERR 0).put HDP_CNT1_BUSY 0).put HDP_CNT1_DISCARD 0
  else if a = (HDP_MAC_L_MAC).addr then (if bit (plain.get HDP_MAC_L_MAC) 0 then s else plain)
  else if a = (HDP_UDPPORT_ODP_PORT).addr then
    if plain.get HDP_UDPPORT_ODP_PORT = plain.get HDP_UDPPORT_PLANE_PORT then s else plain
  else plain

/-- TAG (R421). -/
def State.tagRegWrite (s : State) (w : RegStore) : State :=
  let a := w.addr
  if a = (TAG_WCMD_START).addr then s.after (execTagBlockWrite (BitVec.ofNat 32 w.word) false)
  else if a = (TAG_ACMD_CMD).addr then
    if slice w.word 4 2 = 1 then s.after (execClearAttempts (Fin.ofNat 8 w.word) false) else s
  else if a = (TAG_STATUS_RECOVERED).addr then
    if w.one 6 then s.setTagPort { s.tag with recovered := false } else s
  else s.storeReg tagRegs (s.on TAG_LOCK_LOCK) w

/-- R444, R433: REQ of BTU_SWAP is set unless BTU_LOCK locks it. -/
def State.swapRequest (s : State) : State := if s.on BTU_LOCK_LOCK then s else s.flag BTU_SWAP_REQ true

/-- BTU (R444). -/
def State.btuWrite (s : State) (w : RegStore) : State :=
  if w.addr = (BTU_SWAP_REQ).addr then (if w.one 0 then s.swapRequest else s) else s.storeReg btuRegs false w

/-- ERR (R337). -/
def State.errWrite (s : State) (w : RegStore) : State :=
  let a := w.addr
  let plain := s.storeReg errRegs false w
  if a = (ERR_STATUS_LOG_LOST).addr then (if w.one 6 then plain.put ERR_STATUS_LOST 0 else plain)
  else if a = (ERR_CLOSE_SRC).addr then s.after (execFaultClose (Fin.ofNat 256 w.word) (w.one 8) (w.one 9))
  else if a = (ERR_POP_POP).addr then (if w.one 0 then s.after execFaultPop else s)
  else if a = (ERR_INJECT_CLASS).addr then (if w.hits 0 then s.after (execFaultInject (Fin.ofNat 4 w.word)) else s)
  else plain

/-- The GPIOs with an alternate function (R472); on the KW-7250-T GPIO16 has none. -/
def State.hasAlternate (s : State) (n : Nat) : Bool := n < 3 || n == 14 || n == 15 || (n == 16 && !s.partT)

/-- PIN (R478). In Compatibility mode GPIO0 to GPIO15 carry their ER-418 functions whatever PIN_CFG holds (R473). -/
def State.pinWrite (s : State) (w : RegStore) : State :=
  match arrayIndex w.addr (PIN_CFG_FUNC 0).addr 4 40 with
  | some n =>
    if (s.mode = modeCompat ∧ n < 16) ∨ (w.fieldOf s (PIN_CFG_FUNC n) = 2 ∧ !s.hasAlternate n) then s
    else s.storeReg pinRegs (s.on PIN_LOCK_LOCK) w
  | none => s.storeReg pinRegs false w

end Sys2Proof.Machine
end

