-- ==== Sys2Proof/Machine/RegView.lean ====
section
/-! DEFINITION. What a read of a register returns: its fields by their access codes (R6, R7), the fields that show another
part of the state, and the reads that change something. -/
namespace Sys2Proof.Machine

/-- Register fields whose value follows from other state, with that value. -/
abbrev View := List (RegField × Nat)

def View.find (v : View) (f : RegField) : Option Nat := (v.find? fun x => x.1 == f).map (·.2)

/-- The word that a register's fields show; a write-only field reads 0. -/
def State.showFields (s : State) (rows : List FieldRow) (v : View) : Nat :=
  rows.foldl (fun n r =>
    if r.access = .wo then n
    else n + ((v.find r.field).getD (s.get r.field)) % 2 ^ r.field.width * 2 ^ r.field.lsb) 0

/-- A 32-bit word for the fields of one register. -/
def spread (fs : List RegField) (w : Nat) : View := fs.map fun f => (f, slice w f.lsb f.width)

/-- R42, R461: results of the path that RESSEL selects, and the duty group that RFC_DUTYSEL selects. -/
def State.rfcView (s : State) : View :=
  let p := s.path ((pathOf (s.get RFC_CALCFG_RESSEL)).getD .a)
  let d := s.duty (s.get RFC_DUTYSEL_GROUP)
  spread [RFC_CALRES_VCO_BAND, RFC_CALRES_VCO_CAPTRIM, RFC_CALRES_VCO_LOCK_TIME] p.vco ++
  spread [RFC_CALRES_IMR_GAIN_CORR, RFC_CALRES_IMR_PHASE_CORR, RFC_CALRES_IMR_IMR_DB] p.imr ++
  spread [RFC_CALRES_CHBW_BW, RFC_CALRES_CHBW_TRIM] p.chbw ++
  spread [RFC_CALRES_DCIQ_DC_I, RFC_CALRES_DCIQ_DC_Q, RFC_CALRES_DCIQ_IQ_GAIN, RFC_CALRES_DCIQ_IQ_PHASE] p.dciq ++
  [(RFC_DUTYUSE_USED, d.sum), (RFC_DUTYUSE_PRECHARGED, ofBool (decide (0 < d.precharged)))]

/-- R69, R92: the mapping of the channel that CHZ_MAPQ names, and the cancellers. -/
def State.chzView (s : State) : View :=
  let conv (h : Nat) : Nat := ofBool ((s.leakSets h).head?.any (·.converged))
  let m := mapChannel s.partT s.radio.mapCur (s.get CHZ_MAPQ_CHAN)
  [(CHZ_MAPQ_LANE, (m.map (·.2.1)).getD 0), (CHZ_MAPQ_HALF, (m.map (·.1)).getD 0), (CHZ_MAPQ_VALID, ofBool m.isSome),
   (CHZ_LEAK_A_ACTIVE, ofBool (s.leakActive 0)), (CHZ_LEAK_A_CONV, conv 0), (CHZ_LEAK_A_SETS, (s.leakSets 0).length),
   (CHZ_LEAK_B_ACTIVE, ofBool (s.leakActive 1)), (CHZ_LEAK_B_CONV, conv 1), (CHZ_LEAK_B_SETS, (s.leakSets 1).length)]

/-- The words of a drop record: SLE_DROPA, SLE_DROPB and SLE_DROPC (R146). -/
def DropRec.words (d : DropRec) : List Nat :=
  [d.asn % 2 ^ 32,
   d.asn / 2 ^ 32 % 256 + d.stage * 2 ^ 8 + ofBool d.boundary * 2 ^ 12 + ofBool d.twin * 2 ^ 13 + ofBool d.transmit * 2 ^ 14 +
     ofBool d.ctx.isNone * 2 ^ 15 + d.ctx.getD 0 * 2 ^ 16,
   d.place % 128 + d.length * 2 ^ 16]

/-- R146: time, the oldest drop record and the running program. -/
def State.sleView (s : State) : View :=
  let d := (s.slot.dropLog.head?.map DropRec.words).getD []
  [(SLE_ASN_L_ASN_L, s.asn), (SLE_SLOTTICK_TICK, if s.running then s.slotTick else 0), (SLE_TNET_L_TNET_L, s.tnet),
   (SLE_TNET_H_TNET_H, s.tnet / 2 ^ 32), (SLE_DROPA_ASN_L, d.getD 0 0), (SLE_DROPC_WHERE, d.getD 2 0),
   (SLE_DROPC_LENGTH, d.getD 2 0 / 2 ^ 16), (SLE_DROPSTAT_LEVEL, s.slot.dropLog.length)] ++
  spread [SLE_DROPB_ASN_H, SLE_DROPB_STAGE, SLE_DROPB_BOUNDARY, SLE_DROPB_TWIN, SLE_DROPB_DIR, SLE_DROPB_NOCTX, SLE_DROPB_CONTEXT]
    (d.getD 1 0) ++
  [(SLE_PROGINFO_U_RX, if s.running then unitsRx s.activeBuf else 0), (SLE_PROGINFO_U_TX, if s.running then s.prog 25 1 else 0),
   (SLE_PROGINFO_CIPHER, s.sec.reserve)]

/-- A byte of the SLE_IMAGE window: STANDBY at 32 768 × PAGE, 0 where it is EMPTY or ends. -/
def State.imageByte (s : State) (off : Nat) : Byte :=
  if s.standby = sbEmpty ∨ 73728 ≤ off then 0 else Sparse.read 0 s.standbyBuf off

/-- R180: parents, levels and the context buffer. -/
def State.macView (s : State) (a : Nat) : View :=
  let k := (a - (MAC_CTXBUF_IMAGE 0).addr) / 4
  if (MAC_CTXBUF_IMAGE 0).addr ≤ a then [(MAC_CTXBUF_IMAGE k, leAt s.mac.ctxBuf (4 * k) 4)]
  else if a = (MAC_STATUS_MISS).addr then
    let p := s.parent
    [(MAC_STATUS_PARENT_VALID, ofBool p.isSome), (MAC_STATUS_MISS, (p.map s.ctxMiss).getD 0), (MAC_STATUS_PARENT, p.getD 0)]
  else if a = (MAC_CTXSTAT_FREE).addr then
    [(MAC_CTXSTAT_FREE, ((List.range 1024).filter fun i => !s.ctxFlag i 0).length)]
  else [(MAC_DQSTAT_LEVEL, s.dqLevel), (MAC_TXDONE_INDEX, s.mac.txDone.headD 0), (MAC_TXDONE_LEVEL, s.mac.txDone.length),
    (MAC_TXDONE_EMPTY, ofBool s.mac.txDone.isEmpty), (MAC_PEND_TOTAL, s.mac.pending.length)]

/-- STATE of R192. -/
def KeyState.code : KeyState → Nat
  | .empty => 0
  | .ready => 1
  | .exhausted => 2
  | .fault => 3

/-- Lane `l` runs an operation. -/
def State.laneBusy (s : State) (l : Nat) : Bool := (s.laneUnit l).isSome || (List.range 8).any fun p => (s.page p).lane == some l

/-- R202: lanes, the slot that SEC_KSEL shows, and a page with the slot that it selects. -/
def State.secView (s : State) (a : Nat) : View :=
  let base := (SEC_STATUS_RESERVE).addr
  if base + 0x1000 ≤ a then
    let p := (a - base) / 0x1000 - 1
    let g := s.page p
    let k := s.key (s.get (SEC_P_KSEL_SLOT p))
    let mine := k.owner == p
    [(SEC_P_STAT_LEVEL p, g.reqs.length), (SEC_P_STAT_RUNNING p, ofBool g.lane.isSome),
     (SEC_P_KSTAT_STATE p, if mine then k.state.code else 0), (SEC_P_KSTAT_OWNED p, ofBool mine),
     (SEC_P_KSTAT_LOAD_PEND p, ofBool (mine && k.pend.isSome)), (SEC_P_KCOUNT_VALUE p, if mine then k.count else 0),
     (SEC_P_KTXFCR_VALUE p, if mine then k.txfc else 0)]
  else
    let k := s.key (s.get SEC_KSEL_SLOT)
    [(SEC_STATUS_RESERVE, s.sec.reserve), (SEC_STATUS_GENERAL, 16 - s.sec.reserve),
     (SEC_LANEBUSY_BUSY, (List.range 16).foldl (fun n l => n + 2 ^ l * ofBool (s.laneBusy l)) 0),
     (SEC_LANEBUSY_RSV, 2 ^ s.sec.reserve - 1), (SEC_KOWNER_OWNER, k.owner), (SEC_KINFO_STATE, k.state.code),
     (SEC_KINFO_ALG, ofBool k.image.sm4), (SEC_KINFO_LOAD_PEND, ofBool k.pend.isSome)]

/-- R231: the acquisition queues, steering and the time pulse. -/
def State.gnsView (s : State) : View :=
  let r := s.gnss.acqResults.headD []
  [(GNS_STATUS_STEER_ACTIVE, ofBool s.steering), (GNS_STATUS_TP_VALID, ofBool (s.on GNS_GTCTRL_TIME_VALID)),
   (GNS_ACQR_BYTES 0, leAt r 0 4), (GNS_ACQR_BYTES 1, leAt r 4 4), (GNS_ACQR_BYTES 2, leAt r 8 4), (GNS_ACQR_BYTES 3, leAt r 12 4),
   (GNS_ACQSTAT_CMDS, s.gnss.acqCmds.length), (GNS_ACQSTAT_RESULTS, min 8 s.gnss.acqResults.length),
   (GNS_ACQSTAT_ACQ_STALL, ofBool (decide (8 ≤ s.gnss.acqResults.length) && !s.gnss.acqCmds.isEmpty))]

/-- R336: the merge buffer. -/
def State.memView (s : State) : View :=
  [(MEM_MERGE_VALID, s.flash.merge.foldl (fun n e => setBit n e.slot) 0), (MEM_MERGE_BUSY, ofBool (s.flash.merge.any (·.flushing)))]

/-- R356: the descriptor queue and the oldest completion record. -/
def State.flcView (s : State) : View :=
  let d := s.flash.done.headD []
  [(FLC_STATUS_LEVEL, s.flash.queue.length), (FLC_STATUS_ROM_OWN, s.get FLC_OWNER_ROM_OWN),
   (FLC_STATUS_DONE_STALL, ofBool (decide (16 ≤ s.flash.done.length))), (FLC_DONE_BYTES 0, leAt d 0 4), (FLC_DONE_BYTES 1, leAt d 4 4),
   (FLC_DONE_BYTES 2, leAt d 8 4), (FLC_DONE_BYTES 3, leAt d 12 4), (FLC_DONESTAT_LEVEL, s.flash.done.length)]

/-- Bit k of a map over the areas of the tag EEPROM. -/
def areaMap (f : Nat → Bool) : Nat := (List.range 8).foldl (fun n k => n + 2 ^ k * ofBool (f k)) 0

/-- R421. -/
def State.tagView (s : State) : View :=
  let sem := match s.tag.write with
    | none => 0
    | some w => if w.side = .core then 1 else 2
  [(TAG_STATUS_READY, ofBool s.tag.ready), (TAG_STATUS_FIELD, ofBool s.tag.field), (TAG_STATUS_FIELD_OK, ofBool (decide (96 ≤ s.tag.vrec))),
   (TAG_STATUS_SEM, sem), (TAG_STATUS_OWNER, if s.tagOwner = .field then 1 else 0), (TAG_STATUS_RECOVERED, ofBool s.tag.recovered),
   (TAG_STATUS_VREC, s.tag.vrec), (TAG_AREASTAT_LOCKOUT, areaMap s.tagLocked), (TAG_AREASTAT_RP, areaMap s.tagRp),
   (TAG_AREASTAT_WP, areaMap s.tagWp)]

/-- The four words of a fault log entry (R331, ERR_LOGn_A to ERR_LOGn_D). -/
def FaultEntry.words (e : FaultEntry) : List Nat :=
  [e.cls + e.src * 2 ^ 8 + ofBool e.isOpen * 2 ^ 16 + ofBool e.escalated * 2 ^ 17 + ofBool e.byReset * 2 ^ 18 + ofBool e.scrub * 2 ^ 19 +
     ofBool e.double * 2 ^ 20 + e.detail * 2 ^ 24,
   e.addr, e.tnet % 2 ^ 32, e.tnet / 2 ^ 32]

/-- R337: level, open reports and the log. -/
def State.errView (s : State) (a : Nat) : View :=
  let f := s.faults
  let base := (ERR_LOG_A_CLASS 0).addr
  if base ≤ a then
    let i := (a - base) / 0x10
    let ws := (f.entries[i]?.map FaultEntry.words).getD []
    spread [ERR_LOG_A_CLASS i, ERR_LOG_A_SOURCE i, ERR_LOG_A_OPEN i, ERR_LOG_A_ESCALATED i, ERR_LOG_A_RESET i, ERR_LOG_A_SCRUB i,
      ERR_LOG_A_DOUBLE i, ERR_LOG_A_DETAIL i] (ws.getD 0 0) ++
    [(ERR_LOG_B_ADDRESS i, ws.getD 1 0), (ERR_LOG_C_TNET i, ws.getD 2 0), (ERR_LOG_D_TNET i, ws.getD 3 0)]
  else [(ERR_STATUS_LEVEL, f.entries.length), (ERR_STATUS_FATAL_OPEN, ofBool (f.fatals != 0)),
    (ERR_STATUS_DEPTH, popCount 64 f.openMask + f.fatals), (ERR_OPEN0_OPEN, f.openMask), (ERR_OPEN1_OPEN, f.openMask / 2 ^ 32)]

/-- The level at GPIO `n` as PIN_IN shows it (R476, R478): an analogue pin reads 0, a driven one what it drives, held pins
their held level, any other what is applied to it. A ball that the radio drives shows the level applied to the model. -/
def State.pinIn (s : State) (n : Nat) : Bool :=
  if s.get (PIN_CFG_FUNC n) = 3 then false
  else match s.pins.held with
    | some _ => bit s.pins.level n
    | none =>
      if s.get (PIN_CFG_FUNC n) < 2 ∧ s.on (PIN_CFG_DIR n) ∧ !s.on (PIN_CFG_OD n) then s.pinOut n
      else if s.get (PIN_CFG_FUNC n) < 2 ∧ s.on (PIN_CFG_DIR n) ∧ !s.pinOut n then false
      else bit s.pins.level n

def State.pinView (s : State) : View :=
  let w (lo n : Nat) : Nat := (List.range n).foldl (fun m k => m + 2 ^ k * ofBool (s.pinIn (lo + k))) 0
  [(PIN_IN_L_LEVEL, w 0 32), (PIN_IN_H_LEVEL, w 32 8)]

/-- R380: the ownership state; without an owner its transport and priority read 0. -/
def State.hdpView (s : State) : View :=
  let (st, c) : Nat × Option Claim := match s.host.owner with
    | .free => (0, none)
    | .claiming _ => (1, none)
    | .owned c => (2, some c)
    | .handover c _ _ => (3, some c)
  [(HDP_STATUS_OWN_STATE, st), (HDP_STATUS_OWN_TRANSPORT, (c.map fun c => c.who.transport).getD 0),
   (HDP_STATUS_OWN_PRIO, (c.map Claim.prio).getD 0)]

/-- The map of the register block with number `n` (R20). -/
def blockRegs (n : Nat) : List RegRow :=
  [prcRegs, rfcRegs, chzRegs, txpRegs, sleRegs, macRegs, secRegs, pkeRegs, gnsRegs, rtcRegs, tmrRegs, evrRegs, memRegs, flcRegs,
   hdpRegs, [], tagRegs, btuRegs, errRegs, pinRegs].getD n []

/-- The fields of block `n` that follow from other state. -/
def State.blockView (s : State) (n a : Nat) : View :=
  match n with
  | 0 => [(PRC_WDT_STAT_PAUSED 0, ofBool (s.wdtPaused 0)), (PRC_WDT_STAT_PAUSED 1, ofBool (s.wdtPaused 1))]
  | 1 => s.rfcView
  | 2 => s.chzView
  | 3 => [(TXP_STATUS_TABLE_ERR, ofBool (s.on TXP_CTRL_MASK_EN && !s.maskTableOk))]
  | 4 => s.sleView
  | 5 => s.macView a
  | 6 => s.secView a
  | 8 => s.gnsView
  | 10 =>
    let i := (a - (TMR_CTRL_EN 0).addr) / 0x20
    [(TMR_STAT_RUNNING i, s.get (TMR_CTRL_EN i)), (TMR_STAT_FROZEN i, ofBool (s.timerFrozen i))]
  | 12 => s.memView
  | 13 => s.flcView
  | 14 => s.hdpView
  | 16 => s.tagView
  | 18 => s.errView a
  | 19 => s.pinView
  | _ => []

/-- The word that the register at `a` shows. -/
def State.regWord (s : State) (a : Nat) : Nat :=
  let n := (a - 0x40000000) / 0x10000
  if n = 15 then s.lgyView (a % 0x10000 / 4)
  else if (SLE_CMD_CMD).addr + 0x8000 ≤ a ∧ n = 4 then
    leNat ((List.range 4).map fun k => s.imageByte (32768 * s.get SLE_IMGPAGE_PAGE + (a % 0x10000 - 0x8000) + k))
  else match findReg (blockRegs n) a with
    | some (rows, _) => s.showFields rows (s.blockView n a)
    | none => 0

/-- A block answers the core (R202, R231, R337, R380, R443, R444, R469, and the granted range of R443). -/
def answers (core1 : Bool) (a : Nat) : Bool :=
  let n := (a - 0x40000000) / 0x10000
  let off := a % 0x10000
  !core1 || !(n == 0 && !(off / 0x1000 == 1) || n == 7 && !(0x100 ≤ off && off < 0x108) || n == 8 || n == 14 || n == 17)

/-- The bit of PRC_BLKRST that holds block `n` (R467). -/
def resetBit : Nat → Option Nat
  | 1 => some 0
  | 2 => some 1
  | 3 => some 2
  | 4 => some 3
  | 5 => some 3
  | 6 => some 4
  | 7 => some 5
  | 8 => some 6
  | 14 => some 7
  | 16 => some 8
  | _ => none

/-- An access to the register at `a` ends with an error response: the block is held in reset (R459, R467) or does not answer
this core. -/
def State.regRefused? (s : State) (core1 : Bool) (a : Nat) : Bool :=
  !answers core1 a || (resetBit ((a - 0x40000000) / 0x10000)).any fun b =>
    bit (s.get PRC_BLKRST_BLOCK) b || (s.refFailed && b < 7 && b != 5)

/-- The registers of cipher page 1 are there for the boot ROM and Recovery alone: from anywhere else they read 0 and
ignore writes (R195). -/
def State.pageOneShut (s : State) (rom : Bool) (a : Nat) : Bool :=
  decide ((a - (SEC_STATUS_RESERVE).addr) / 0x1000 = 2) && !rom && s.mode != modeRecovery

/-- What the read of a register latches: ASN_H, and the high word of a stamp (R146, R264). -/
def State.readLatch (s : State) (a : Nat) : State :=
  if a = (SLE_ASN_L_ASN_L).addr then s.after execAsnLRead
  else match arrayIndex a (EVR_TSL_TS_L 0).addr 0x40 32 with
    | some c => s.put (EVR_TSH_TS_H c) (Sparse.read 0 s.evr.stampHigh c)
    | none => s

/-- A read of a time register, without what the last host access read. -/
def State.timeReadBy (s : State) (core1 : Bool) (i : Nat) : Nat × State :=
  let t := s.timeRead core1 i
  (t.host.readData, { t with host := { t.host with readData := s.host.readData } })

/-- A read of the register word at `a` by a core, `rom` where its instruction was fetched from ROM: its value, the state after it, and whether it ends with a bus error. -/
def State.regRead (s : State) (core1 rom : Bool) (a : Nat) : Nat × State × Bool :=
  let n := (a - 0x40000000) / 0x10000
  let off := a % 0x10000
  if s.regRefused? core1 a then (0, s.busInfo a, true)
  else if (n = 6 ∧ off < 0x1000 ∧ core1 = true) ∨ s.pageOneShut rom a then (0, s, false)
  else if n = 9 ∧ 4 ≤ off ∧ off ≤ 0x1C then
    let r := s.timeReadBy core1 ((off - 4) / 4)
    (r.1, r.2, false)
  else if a = (PKE_RNG_VALUE).addr then
    let r := s.rngRead
    (r.1, r.2, false)
  else (s.regWord a, s.readLatch a, false)

/-- A store to a register by a core, `rom` where its instruction was fetched from ROM: the state after it, and whether it
ends with a bus error. Core writes to the LGY block are ignored (R383). -/
def State.regWrite (s : State) (core1 rom : Bool) (w : RegStore) : State × Bool :=
  let n := (w.addr - 0x40000000) / 0x10000
  if s.regRefused? core1 w.addr then (s.busInfo w.addr, true)
  else match n with
    | 0 => (s.prcWrite w, false)
    | 1 => (s.rfcWrite w, false)
    | 2 => (s.chzWrite w, false)
    | 3 => (s.txpWrite w, false)
    | 4 => (s.sleWrite (if core1 then .core1 else .core0) w, false)
    | 5 => (s.macWrite w, false)
    | 6 => (if s.pageOneShut rom w.addr then s else s.secWrite core1 w, false)
    | 7 => (s.pkeWrite w, false)
    | 8 => (s.gnsWrite w, false)
    | 9 => (s.rtcWrite w, false)
    | 10 => (s.tmrWrite core1 w, false)
    | 11 => (s.evrWrite core1 w, false)
    | 12 => (s.memWrite w, false)
    | 13 => s.flcWrite core1 rom w
    | 14 => (s.hdpWrite w, false)
    | 16 => (s.tagRegWrite w, false)
    | 17 => (s.btuWrite w, false)
    | 18 => (if core1 then s else s.errWrite w, false)
    | 19 => (s.pinWrite w, false)
    | _ => (s, false)

/-- R6, R7: a register write of 32 bits by a core; the address's two low bits are not decoded. An address outside the
register blocks is no register, and the command has no effect there. -/
def execRegisterWrite (addr : Fin 0x140000) (value : Word) (core1 rom : Bool) (s : State) : Host.Outcome State Fault Refusal :=
  goOn (s.regWrite core1 rom { addr := 0x40000000 + addr.val / 4 * 4, value := value.toNat }).1

end Sys2Proof.Machine
end

