-- ==== Sys2Proof/Machine/BootOps.lean ====
section
/-! DEFINITION. Images, their manifests and checks, markers and banks, the update agent, attestation and the rollback
counters (R423 to R440). -/
namespace Sys2Proof.Machine

/-- The reason codes of R438. -/
def updFormat : Nat := 1
def updOrder : Nat := 2
def updSignature : Nat := 3
def updRollback : Nat := 4
def updDependency : Nat := 5
def updBase : Nat := 6
def updSize : Nat := 7
def updHash : Nat := 8
def updFlash : Nat := 9
def updGrant : Nat := 10
def updSequence : Nat := 11
def updAborted : Nat := 12
def updAbsent : Nat := 13

/-! Manifests (R428): lists of 424 bytes. -/

def manComponent (m : List Byte) : Nat := leAt m 6 1
def manVersion (m : List Byte) : Nat := leAt m 8 4
def manSvn (m : List Byte) : Nat := leAt m 12 1
def manImageLen (m : List Byte) : Nat := leAt m 16 4
def manEntry (m : List Byte) : Nat := leAt m 20 4
def manHash (m : List Byte) : List Byte := bytesAt m 24 32

/-- The dependencies in use: component, lowest and highest version. -/
def manDeps (m : List Byte) : List (Nat × Nat × Nat) :=
  (List.range (leAt m 13 1)).map fun i => (leAt m (56 + 12 * i) 1, leAt m (60 + 12 * i) 4, leAt m (64 + 12 * i) 4)

/-- Grant window `k` of a manifest: BASE, LIMIT and ATTR. -/
def manGrant (m : List Byte) (k : Nat) : Nat × Nat × Nat := (leAt m (104 + 12 * k) 4, leAt m (108 + 12 * k) 4, leAt m (112 + 12 * k) 4)

/-- The bytes of `m` from `off` are all 0. -/
def zeroAt (m : List Byte) (off n : Nat) : Bool := (bytesAt m off n).all (· == 0)

/-- The largest image of a component: its partition less one page, for CORE0 less three (R427). -/
def maxImage (c : Nat) : Nat := 65536 * (partition c).2 - 2048 * (if c = 1 then 3 else 1)

/-- A manifest of component `c` is well formed (R428, R429): FORMAT. -/
def manFormed (m : List Byte) (c : Nat) : Bool :=
  m.length == 424 && leAt m 0 4 == 0x72504D46 && leAt m 4 2 == 1 && manComponent m == c && 1 ≤ c && c ≤ 5 && zeroAt m 7 1 &&
  manSvn m ≤ 64 && leAt m 13 1 ≤ 4 && zeroAt m 14 2 && (c == 1 || c == 3 || manEntry m == 0) &&
  (List.range 4).all (fun i => zeroAt m (57 + 12 * i) 3) && (c == 3 || zeroAt m 104 96) && zeroAt m 200 8

/-- The ranges of which each grant window of an application must lie within one (R429). -/
def grantRanges : List (Nat × Nat) :=
  [(0x20100000, 0x201FFFFF), (0x24000000, 0x2408FFFF), (0x08180000, 0x082DFFFF), (0x08370000, 0x083EFFFF),
   (0x26000000, 0x26001FFF), (0x400A0000, 0x400AFFFF), (0x400B0000, 0x400BFFFF), (0x40050000, 0x4005FFFF),
   (0x40040000, 0x4004FFFF), (0x40090000, 0x4009FFFF), (0x40130000, 0x4013FFFF), (0x40070100, 0x40070107),
   (0x40001000, 0x40001FFF)] ++ [2, 4, 5, 6, 7].map fun p => (0x40061000 + 0x1000 * p, 0x40061FFF + 0x1000 * p)

/-- Every grant window in use lies within one of those ranges. -/
def manGranted (m : List Byte) : Bool :=
  manComponent m != 3 || (List.range 8).all fun k =>
    let (base, limit, attr) := manGrant m k
    !bit attr 0 || grantRanges.any fun r => decide (r.1 ≤ base) && decide (base + limit ≤ r.2)

/-! Rollback counters (R432). -/

/-- The counter of component `c`: the position of the lowest 0 bit of its OTP word. -/
def State.rollback (s : State) (c : Nat) : Nat :=
  let w := s.otpNum (0x25C + 8 * (c - 1)) 8
  ((List.range 64).find? fun n => !bit w n).getD 64

/-- The counter registers show the OTP words (R444). -/
def State.loadCounters (s : State) : State :=
  (((((s.put BTU_CNT0_C1 (s.rollback 1)).put BTU_CNT0_C2 (s.rollback 2)).put BTU_CNT0_C3 (s.rollback 3)).put BTU_CNT0_C4
    (s.rollback 4))).put BTU_CNT1_CNT (s.rollback 5)

/-! Images in the banks. -/

/-- The bus address of component `c` in the mapped bank, or in the other. -/
def compAddr (c : Nat) (other : Bool) : Nat := partAddr c + (if other then 0x400000 else 0)

/-- The manifest of a component; none where its page cannot be read. -/
def State.manifest (s : State) (c : Nat) (other : Bool) : Option (List Byte) := s.flashView (compAddr c other) 424

/-- The image that a manifest names. -/
def State.image (s : State) (c : Nat) (other : Bool) (m : List Byte) : Option (List Byte) :=
  s.flashView (compAddr c other + 2048) (manImageLen m)

/-- SIGNATURE of R429 on a manifest of component `c`. -/
def State.manSigned (s : State) (m : List Byte) (c : Nat) : Bool :=
  match s.componentRoot c with
  | none => false
  | some root =>
    let cert := bytesAt m 208 152
    certValid cert root (componentUsage c) && sm2Signed (certKey cert) (m.take 360) (bytesAt m 360 64)

/-- The checks of R429 on a manifest alone, in its order; `some` of the first reason. -/
def State.manCheck (s : State) (m : List Byte) (c : Nat) : Option Nat :=
  if !manFormed m c then some updFormat
  else if maxImage c < manImageLen m then some updSize
  else if !s.manSigned m c then some updSignature
  else if manSvn m < s.rollback c then some updRollback
  else none

/-- R429 on the image of component `c` in a bank: the first failing item, none where it is valid. -/
def State.imageCheck (s : State) (c : Nat) (other : Bool) : Option Nat :=
  match s.manifest c other with
  | none => some updFlash
  | some m =>
    if m.all (· == 0xFF) then some updAbsent
    else match s.manCheck m c with
      | some r => some r
      | none =>
        match s.image c other m with
        | none => some updFlash
        | some img =>
          if Config.sm3 img ≠ manHash m then some updHash
          else if !manGranted m then some updGrant
          else none

/-- The measured hash of a valid component of the mapped bank (R439). -/
def State.measure (s : State) (c : Nat) : Option (List Byte) :=
  match s.imageCheck c false with
  | some _ => none
  | none => (s.manifest c false).map manHash

/-- A component stands in the mapped bank. -/
def State.installed (s : State) (c : Nat) : Option (List Byte) :=
  match s.imageCheck c false with
  | some _ => none
  | none => s.manifest c false

/-! Writing the array, as the ROM and the update agent do through the controller (R340, R351). -/

/-- Block `b` of physical bank `k` is erased, with its journal records (R351) and E104. -/
def State.agentErase (s : State) (k b : Nat) : State :=
  let s : State :=
    if s.get (jnlFree k) < 2 then
      let h := 1 - s.get (jnlHalf k)
      ((s.jnlErase k h).put (ecnt k 63) (min (s.get (ecnt k 63) + 1) 0xFFFFFFFF)).jnlSnapshot k h
    else s
  let n := min (s.get (ecnt k b) + 1) 0xFFFFFFFF
  let s := (s.jnlAppend k 0x5A01 b n).put (ecnt k b) n
  let s := (s.jnlAppend k 0x5A02 b n).setSuspect k b false
  let q := 2048 * k + 32 * b
  let s := s.zeroBytes (0x08000000 + 2048 * q) 65536
  let s := s.setFlash { s.flash with spare := s.flash.spare.dropRange (64 * q) (64 * (q + 32)),
                                     undef := s.flash.undef.dropRange q (q + 32) }
  (s.dropBufs k fun p => pageBlock p == b).raise 104

/-- The strength at which a page is programmed: that of its region, in Recovery by the ROM 3 (R322). -/
def State.agentStrength (s : State) (a : Nat) : Nat := if s.mode = modeRecovery then 3 else s.strengthAt (s.flashPhys a)

/-- Physical page `p` is programmed with `data`, padded with 0xFF, at that strength; E104. -/
def State.agentProgram (s : State) (p : Nat) (data : List Byte) : State :=
  let a := 0x08000000 + 2048 * p
  let data := data ++ List.replicate (2048 - data.length) 0xFF
  let raw := encodePage (s.agentStrength a) data []
  ((s.setPageRaw p (((s.pageRaw p).zip raw).map fun x => x.1 &&& x.2)).dropBufs (pageBank p) (· == p)).raise 104

/-- `data` is programmed from physical page `p` on. -/
def State.agentPages (s : State) (p : Nat) (data : List Byte) : State :=
  (List.range (divUp data.length 2048)).foldl (fun (s : State) i => s.agentProgram (p + i) ((data.drop (2048 * i)).take 2048)) s

/-- The first physical page of component `c` in bank `k`. -/
def compPage (k c : Nat) : Nat := 2048 * k + 32 * (partition c).1

/-! Markers (R427, R434). -/

def markTrial : Nat := 0x72505452
def markConfirm : Nat := 0x7250434E

/-- The physical page of a marker of bank `k`. -/
def markPage (k magic : Nat) : Nat := 2048 * k + 32 * 15 + (if magic = markTrial then 30 else 31)

/-- The SEQ of a marker of physical bank `k`, where it stands. -/
def State.marker (s : State) (k magic : Nat) : Option Nat :=
  let d := s.readPage (markPage k magic)
  if d.result < 2 ∧ leAt d.data 0 16 = magic then some (leAt d.data 16 4) else none

/-- A marker with SEQ `seq` is written. -/
def State.writeMarker (s : State) (k magic seq : Nat) : State :=
  s.agentProgram (markPage k magic) (leBytes 16 magic ++ leBytes 4 seq)

/-- Bank `k` is on trial: a TRIAL marker without a CONFIRM marker of its SEQ. -/
def State.onTrial (s : State) (k : Nat) : Bool :=
  match s.marker k markTrial with
  | some n => s.marker k markConfirm != some n
  | none => false

/-- SEQ of the next staging: one above every marker. -/
def State.nextSeq (s : State) : Nat :=
  ([s.marker 0 markTrial, s.marker 0 markConfirm, s.marker 1 markTrial, s.marker 1 markConfirm].map fun m => m.getD 0).foldl max 0 + 1

/-- The bank that R434 maps after a COLD reset. -/
def State.confirmedBank (s : State) : Nat :=
  match s.marker 0 markConfirm, s.marker 1 markConfirm with
  | some a, some b => if a < b then 1 else 0
  | none, some _ => 1
  | _, _ => 0

/-! Packages (R435, R436). -/

def pkgCount (p : List Byte) : Nat := leAt p 6 1
def pkgTotal (p : List Byte) : Nat := leAt p 8 4
def pkgEntry (p : List Byte) (i : Nat) : List Byte := bytesAt p (16 + 468 * i) 468
def entComponent (e : List Byte) : Nat := leAt e 0 1
def entKind (e : List Byte) : Nat := leAt e 1 1
def entBodyLen (e : List Byte) : Nat := leAt e 4 4
def entManifest (e : List Byte) : List Byte := bytesAt e 44 424
def pkgEntries (p : List Byte) : List (List Byte) := (List.range (pkgCount p)).map (pkgEntry p)

/-- Bytes of header and entries. -/
def pkgHead (p : List Byte) : Nat := 16 + 468 * pkgCount p

/-- Offset of body `i`. -/
def pkgBody (p : List Byte) (i : Nat) : Nat := pkgHead p + (((pkgEntries p).take i).map entBodyLen).foldl (· + ·) 0

/-- The header of a package has arrived and can be followed. -/
def pkgHeaderOk (p : List Byte) : Bool :=
  leAt p 0 4 == 0x7250504B && leAt p 4 2 == 1 && 1 ≤ pkgCount p && pkgCount p ≤ 5 && zeroAt p 7 1 && zeroAt p 12 4

/-- Step 1 of R436; `full` refuses delta entries (R440). -/
def pkgFormed (p : List Byte) (full : Bool) : Bool :=
  let es := pkgEntries p
  pkgHeaderOk p && pkgTotal p == pkgBody p (pkgCount p) &&
  es.all (fun e =>
    zeroAt e 2 2 && manFormed (entManifest e) (entComponent e) &&
    (if entKind e = 0 then entBodyLen e == manImageLen (entManifest e) && zeroAt e 12 32 else entKind e == 1 && !full)) &&
  (es.map entComponent).eraseDups.length == es.length

/-- The manifests that will stand: of the package, and installed ones that it does not replace; `bank` gives those. -/
def pkgStanding (p : List Byte) (bank : Nat → Option (List Byte)) (c : Nat) : Option (List Byte) :=
  match (pkgEntries p).find? fun e => entComponent e == c with
  | some e => some (entManifest e)
  | none => bank c

/-- Step 5 of R436. -/
def pkgDepsHold (p : List Byte) (bank : Nat → Option (List Byte)) : Bool :=
  let v := pkgStanding p bank
  [1, 2, 3, 4, 5].all fun c => match v c with
    | none => true
    | some m => (manDeps m).all fun d => match v d.1 with
      | some t => 1 ≤ d.1 && d.1 ≤ 5 && d.2.1 ≤ manVersion t && manVersion t ≤ d.2.2
      | none => false

/-- R436 on the header and entries of a package: the first failure. -/
def State.pkgCheck (s : State) (p : List Byte) (full : Bool) : Option Nat :=
  let es := pkgEntries p
  let cs := es.map entComponent
  let installed := s.installed
  if !pkgFormed p full then some updFormat
  else if !((cs.zip (cs.drop 1)).all fun x => decide (x.1 < x.2)) then some updOrder
  else if es.any fun e => !s.manSigned (entManifest e) (entComponent e) then some updSignature
  else if es.any fun e => decide (manSvn (entManifest e) < s.rollback (entComponent e)) then some updRollback
  else if es.any fun e => decide (maxImage (entComponent e) < manImageLen (entManifest e)) then some updSize
  else if es.any fun e => !manGranted (entManifest e) then some updGrant
  else if es.any fun e => entKind e == 1 && !((installed (entComponent e)).any fun m =>
      manVersion m == leAt e 8 4 && decide (manHash m = bytesAt e 12 32)) then some updBase
  else if !pkgDepsHold p installed then some updDependency
  else none

/-- R437: the image that a delta makes of `base`, of `n` bytes; none where the operations are refused with FORMAT. Each
operation takes at least six bytes, so `fuel` bounds their number. -/
def deltaRun : Nat → List Byte → List Byte → Nat → List Byte → Option (List Byte)
  | 0, _, ops, n, out => if ops.isEmpty ∧ out.length = n then some out else none
  | fuel + 1, base, ops, n, out =>
    if ops.isEmpty then (if out.length = n then some out else none)
    else
      let op := leAt ops 0 1
      if op = 1 ∨ op = 2 then
        let src := leAt ops 1 4
        let len := leAt ops 5 4
        let d := if op = 2 then len else 0
        if ops.length < 9 + d ∨ base.length < src + len ∨ n < out.length + len then none
        else
          let b := (base.drop src).take len
          let b := if op = 2 then (b.zip (bytesAt ops 9 len)).map fun x => x.1 + x.2 else b
          deltaRun fuel base (ops.drop (9 + d)) n (out ++ b)
      else if op = 3 then
        let len := leAt ops 2 4
        if ops.length < 6 ∨ n < out.length + len then none
        else deltaRun fuel base (ops.drop 6) n (out ++ List.replicate len (ops.getD 1 0))
      else none

/-- The image that body `e` makes, or its reason (R437, R438). -/
def State.bodyImage (s : State) (e body : List Byte) : Except Nat (List Byte) :=
  let m := entManifest e
  let c := entComponent e
  let img : Option (List Byte) :=
    if entKind e = 0 then some body
    else match (s.manifest c false).bind (s.image c false) with
      | some base => deltaRun (body.length + 1) base body (manImageLen m) []
      | none => none
  match img with
  | none => .error updFormat
  | some img => if Config.sm3 img = manHash m then .ok img else .error updHash

/-- The trailer of a slot program (R126): hash, SIGNER and signature. -/
def State.programSigned (s : State) (img : List Byte) : Bool :=
  let n := img.length
  let hash := Config.sm3 (img.take (n - 100))
  let signer := leAt img (n - 100) 4
  100 ≤ n && signer ≤ 1 && decide (bytesAt img (n - 96) 32 = hash) &&
  (match s.programKey signer with
    | some k => sm2Signed k hash (bytesAt img (n - 64) 64)
    | none => false)

/-- The checks of R438 on a complete body: REGCERT under R53, SLOTPROG under R126. -/
def State.bodyCheck (s : State) (c : Nat) (img : List Byte) : Option Nat :=
  if c = 5 ∧ !profileOk img s.serialInForce then some updFormat
  else if c = 4 ∧ !s.programSigned img then some updSignature
  else none

/-! Staging (R438). -/

def State.setUpd (s : State) (u : Update) : State := { s with boot := { s.boot with upd := u } }

/-- The package is refused. -/
def State.updRefuse (s : State) (reason : Nat) : State := s.setUpd { s.boot.upd with state := 5, reason := reason, mirror := false }

/-- A page of the mapped bank is copied to its place in the inactive one; an erased page stays erased. `none`: it cannot be
read. -/
def State.copyPage (s : State) (k n : Nat) : Option State :=
  let d := s.readPage (2048 * k + n)
  if d.result = 3 then none else if d.result = 2 then some s else some (s.agentProgram (2048 * (1 - k) + n) d.data)

/-- The pages of a bank that staging copies: blocks 0 to 62 but the markers, the dictionary store, and what the package
replaces. -/
def copied (replaced : List Nat) (n : Nat) : Bool :=
  let b := n / 32
  b < 63 && !(n == 32 * 15 + 30 || n == 32 * 15 + 31) && !(49 ≤ b && b < 53) &&
  !(replaced.any fun c => (partition c).1 ≤ b && b < (partition c).1 + (partition c).2)

/-- Pages `ns` of bank `k` are copied to the other bank; none where a page reads poisoned. -/
def State.copyPages (s : State) (k : Nat) : List Nat → Option State
  | [] => some s
  | n :: ns => match s.copyPage k n with
    | none => none
    | some s => s.copyPages k ns

/-- The inactive bank takes the stored values of the mapped one, but those that components `cs` replace. -/
def State.mirrorStore (s : State) (k : Nat) (cs : List Nat) : State :=
  let old := if k = 0 then s.boot.store0 else s.boot.store1
  let new := old.filter fun e => !(objComponent e.1 != 0 && cs.contains (objComponent e.1))
  { s with boot := if k = 0 then { s.boot with store1 := new } else { s.boot with store0 := new } }

/-- Staging begins: blocks 0 to 62 of the inactive bank are erased, the rest of the mapped bank is copied, the stored values
with it; mirroring starts. -/
def State.stageBegin (s : State) (p : List Byte) : State :=
  let k := s.mappedBank
  let cs := (pkgEntries p).map entComponent
  let s := ((List.range 63).foldl (fun (s : State) b => s.agentErase (1 - k) b) s).mirrorStore k cs
  match s.copyPages k ((List.range 2016).filter (copied cs)) with
  | some s => s.setUpd { s.boot.upd with state := 2, mirror := true }
  | none => s.updRefuse updFlash

/-- Body `i` of package `p` is written to the inactive bank: its image, then its manifest page (R438). -/
def State.stageBody (s : State) (p : List Byte) (i : Nat) (flashFail : Bool) : State :=
  let k := 1 - s.mappedBank
  let e := pkgEntry p i
  let c := entComponent e
  match s.bodyImage e (bytesAt p (pkgBody p i) (entBodyLen e)) with
  | .error r => s.updRefuse r
  | .ok img =>
    match s.bodyCheck c img with
    | some r => s.updRefuse r
    | none =>
      if flashFail then s.updRefuse updFlash
      else
        let s := (s.agentPages (compPage k c + 1) img).agentProgram (compPage k c) (entManifest e)
        let s := if c = 4 then s.storeIn k 0x400100 img else if c = 5 then s.storeIn k 0x201001 img else s
        s.setUpd { s.boot.upd with staged := s.boot.upd.staged + 1 }

/-- Bodies that have arrived whole are staged in their order; at most `n`. -/
def State.stageBodies : Nat → State → Bool → State
  | 0, s, _ => s
  | n + 1, s, fail =>
    let u := s.boot.upd
    if u.state = 2 ∧ u.staged < pkgCount u.bytes ∧ pkgBody u.bytes (u.staged + 1) ≤ u.bytes.length then
      (s.stageBody u.bytes u.staged fail).stageBodies n fail
    else s

/-- What the received bytes make possible: the check of R436, the start of staging, complete bodies. -/
def State.pkgAdvance (s : State) (full flashFail : Bool) : State :=
  let u := s.boot.upd
  let p := u.bytes
  if u.state = 1 then
    if p.length < 16 then s
    else if !pkgHeaderOk p then s.updRefuse updFormat
    else if p.length < pkgHead p then s
    else match s.pkgCheck p full with
      | some r => s.updRefuse r
      | none =>
        let s := s.stageBegin p
        if pkgTotal p < p.length then s.updRefuse updFormat else s.stageBodies 5 flashFail
  else if u.state = 2 then
    if pkgTotal p < p.length then s.updRefuse updFormat else s.stageBodies 5 flashFail
  else s

/-- All bodies are staged: the TRIAL marker is written (R438). -/
def State.stageEnd (s : State) : State :=
  let u := s.boot.upd
  if u.state = 2 ∧ u.staged = pkgCount u.bytes then
    (s.writeMarker (1 - s.mappedBank) markTrial s.nextSeq).setUpd { u with state := 3 }
  else s

/-- Object 0xA030.00 BEGIN. -/
def State.updBegin (s : State) : State := s.setUpd { state := 1 }

/-- Object 0xA030.01: a chunk at `off`. -/
def State.updData (s : State) (off : Nat) (data : List Byte) (flashFail : Bool) : State :=
  let u := s.boot.upd
  if off ≠ u.bytes.length then s.updRefuse updSequence
  else (s.setUpd { u with bytes := u.bytes ++ data }).pkgAdvance false flashFail

/-- ABORT, or the loss of ownership before STAGED: from IDLE nothing; the staging is discarded. -/
def State.updAbort (s : State) : State :=
  let u := s.boot.upd
  if u.state = 1 ∨ u.state = 2 then s.setUpd { u with state := 5, reason := updAborted, mirror := false, bytes := [], staged := 0 }
  else if u.state = 3 ∨ u.state = 5 then s.setUpd {}
  else s

/-- One counter is raised to `v` in OTP; a failing program changes nothing and is logged (R432). -/
def State.raiseCounter (s : State) (c v : Nat) (otpFail : Bool) : State :=
  if v ≤ s.rollback c then s
  else
    let a := 0x28000000 + 0x25C + 8 * (c - 1)
    if otpFail then s.report 2 0x1F a 0 else s.setNum a 8 (2 ^ v - 1)

/-- The trial bank is confirmed: the CONFIRM marker, the counters, IDLE (R432, R433). -/
def State.confirm (s : State) (otpFail : Bool) : State :=
  let k := s.mappedBank
  let s := s.writeMarker k markConfirm ((s.marker k markTrial).getD 0)
  let s := [1, 2, 3, 4, 5].foldl (fun (s : State) c => match s.installed c with
    | some m => s.raiseCounter c (manSvn m) otpFail
    | none => s) s
  s.loadCounters.setUpd {}

/-! Attestation (R439). -/

/-- A record of the report: component `c` with its measured hash. -/
def State.attRecord (s : State) (c : Nat) : List Byte :=
  match s.boot.measured.getD (c - 1) none, s.manifest c false with
  | some h, some m => leBytes 1 c ++ leBytes 1 1 ++ leBytes 1 (manSvn m) ++ leBytes 1 0 ++ leBytes 4 (manVersion m) ++ h
  | _, _ => leBytes 1 c ++ List.replicate 39 0

/-- Bytes 0 to 303 of a report on a nonce. -/
def State.attBody (s : State) (nonce : List Byte) : List Byte :=
  let img := s.radio.profile
  let flags := ofBool (s.on RFC_REGSTAT_REGLOCK) + 2 * ofBool (s.boot.upd.state == 4) + 4 * ofBool s.customerRoot.isSome +
    8 * ofBool (s.on RFC_REGSTAT_PROFILE_VALID) + 16 * ofBool (bit s.core1.dctrl 0)
  leBytes 4 0x72504154 ++ leBytes 2 1 ++ leBytes 1 s.mode ++ leBytes 1 flags ++ s.serial ++ leBytes 8 s.tnet ++
  bytesAt nonce 0 32 ++ leBytes 4 nonce.length ++ leBytes 4 (profNum img 8 4) ++
  ([1, 2, 3, 4, 5].flatMap fun c => leBytes 1 (s.rollback c)) ++ leBytes 3 0 ++ ([1, 2, 3, 4, 5].flatMap s.attRecord) ++
  img.drop (32 + 48 * profBands img)

/-- The report is built and signed with the device key; without random words there is no signature (R442). -/
def State.attest (s : State) (nonce : List Byte) : State :=
  let body := s.attBody nonce
  let (k, s) := s.freeBytes 32
  let sig := Config.sm2Sign (s.otp 0x060 32) (Config.sm3 (Config.sm2Za (s.otp 0x020 64) ++ body)) k
  { s with boot := { s.boot with report := body ++ sig } }

/-! Regulatory certificates (R55). -/

/-- What a certificate written to object 0x2010.04 carries: a REGCERT manifest and the profile image (log entry 90). -/
def State.regCert (s : State) (bs : List Byte) : OdpStatus × State :=
  let m := bs.take 424
  let img := bs.drop 424
  if !(manFormed m 5 && s.manSigned m 5 && manImageLen m == img.length && decide (Config.sm3 img = manHash m)) then (.access, s)
  else if !profileOk img s.serialInForce then (.range, s)
  else
    let s := s.acceptProfile img
    let s := if s.on RFC_REGSTAT_REGLOCK then
        s.setBytes 0x28000238 (leBytes 4 (profNum img 8 4) ++ img.drop (32 + 48 * profBands img))
      else s
    (.ok, s)

end Sys2Proof.Machine
end

