-- ==== Sys2Proof/Machine/DictTypes.lean ====
section
/-! DEFINITION. What an object of the parameter dictionary is (R366 to R370): its key, type, access code, persistence and
value sizes, how it is read and how it is written; and the common forms: register images, single fields, values kept in the
dictionary. -/
namespace Sys2Proof.Machine

/-- The types of R367. -/
inductive ObjType | bool | u8 | u16 | u32 | u64 | i8 | i16 | i32 | i64 | q31 | time64 | string | octets
deriving DecidableEq, Repr

def ObjType.code : ObjType → Nat
  | .bool => 1 | .u8 => 2 | .u16 => 3 | .u32 => 4 | .u64 => 5 | .i8 => 6 | .i16 => 7 | .i32 => 8 | .i64 => 9 | .q31 => 10
  | .time64 => 11 | .string => 12 | .octets => 13

/-- The exact size of a value; none where the object defines it. -/
def ObjType.size : ObjType → Option Nat
  | .bool | .u8 | .i8 => some 1
  | .u16 | .i16 => some 2
  | .u32 | .i32 | .q31 => some 4
  | .u64 | .i64 | .time64 => some 8
  | .string | .octets => none

/-- The values are signed. -/
def ObjType.isSigned : ObjType → Bool
  | .i8 | .i16 | .i32 | .i64 => true
  | _ => false

/-- The access codes of R368. -/
inductive ObjAccess | const | ro | rw | wo | own
deriving DecidableEq, Repr

def ObjAccess.code : ObjAccess → Nat
  | .const => 0 | .ro => 1 | .rw => 2 | .wo => 3 | .own => 4

/-- The answer to a write, with the state after it. -/
abbrev Written := OdpStatus × State

/-- A row of the object tables: `count` sub-indices from `key` on (256 × index + sub-index) with one meaning; the number that
`read` and `write` take says which. `sizes` are the least and the largest value. -/
structure ObjRow where
  key : Nat
  count : Nat := 1
  type : ObjType
  access : ObjAccess
  persist : Bool := false
  sizes : Nat × Nat
  read : Nat → State → List Byte × State
  write : Nat → List Byte → DictEnv → State → Written

/-- A write that the access code refuses before it gets here. -/
def noWrite : Nat → List Byte → DictEnv → State → Written := fun _ _ _ s => (.access, s)

/-- A value that can be read only. -/
def roObj (key : Nat) (type : ObjType) (size : Nat) (f : State → List Byte) (access : ObjAccess := .ro) : ObjRow :=
  { key := key, type := type, access := access, sizes := (size, size), read := fun _ s => (f s, s), write := noWrite }

/-- The words of registers as a value. -/
def State.regsImage (s : State) (as : List Nat) : List Byte := as.flatMap fun a => leBytes 4 (s.regWord a)

/-- A value that shows registers and can be read only. -/
def roRegs (key : Nat) (type : ObjType) (size : Nat) (as : List Nat) : ObjRow :=
  roObj key type size fun s => (s.regsImage as).take size

/-- The bits of the register at `a` that a write changes and a read shows again (R6); fields that control half B are none of
them on the KW-7250-T. -/
def State.plainBits (s : State) (a : Nat) : Nat :=
  match findReg (blockRegs ((a - 0x40000000) / 0x10000)) a with
  | none => 0
  | some (rows, _) => (rows.filter fun r => (r.access == .rw || r.access == .rwl) && !(r.halfB && s.partT)).foldl
      (fun n r => n + (2 ^ r.field.width - 1) * 2 ^ r.field.lsb) 0

/-- Core 0 stores a value into registers: pairs of address and mask. The whole write is refused with RANGE, and nothing
changes, where a bit lies outside the masks or a register does not take its part. -/
def State.storeRegs (s : State) (regs : List (Nat × Nat)) (value : List Byte) : Written :=
  let ws := (regs.zipIdx).map fun r => (r.1.1, r.1.2, leAt value (4 * r.2) 4)
  if ws.any fun r => r.2.2 &&& r.2.1 != r.2.2 then (.range, s)
  else
    let t := ws.foldl (fun (t : State) r => (t.regWrite false false { addr := r.1, value := r.2.2, mask := r.2.1 }).1) s
    let took (r : Nat × Nat × Nat) : Bool :=
      let m := r.2.1 &&& s.plainBits r.1
      t.regWord r.1 &&& m == r.2.2 &&& m
    if ws.all took then (.ok, t) else (.range, s)

/-- The bits that a register defines. -/
def regBits (a : Nat) : Nat :=
  match findReg (blockRegs ((a - 0x40000000) / 0x10000)) a with
  | none => 0
  | some (rows, _) => rows.foldl (fun n r => n + (2 ^ r.field.width - 1) * 2 ^ r.field.lsb) 0

/-- Images of registers as `count` objects of `size` bytes. -/
def regArr (key count : Nat) (type : ObjType) (size : Nat) (regs : Nat → List Nat) (persist : Bool := true) : ObjRow :=
  let pairs (i : Nat) : List (Nat × Nat) := ((regs i).zipIdx).map fun a => (a.1, regBits a.1 &&& (2 ^ (8 * min 4 (size - 4 * a.2)) - 1))
  { key := key, count := count, type := type, access := .own, persist := persist, sizes := (size, size)
    read := fun i s => (((pairs i).flatMap fun r => leBytes 4 (s.regWord r.1 &&& r.2)).take size, s)
    write := fun i v _ s => s.storeRegs (pairs i) v }

/-- The image of registers as an object of `size` bytes. -/
def regObj (key : Nat) (type : ObjType) (size : Nat) (regs : List Nat) (persist : Bool := true) : ObjRow :=
  regArr key 1 type size (fun _ => regs) persist

/-- A signed or unsigned value of `size` bytes as an integer. -/
def objInt (type : ObjType) (v : List Byte) : Int :=
  if type.isSigned then signed (8 * v.length) (leNat v) else (leNat v : Nat)

def inRange (lo hi v : Int) : Bool := decide (lo ≤ v) && decide (v ≤ hi)

/-- The answer to a store of `n` into a field that leads to `t`: RANGE, and nothing changes, where the field did not take it. -/
def State.tookField (s t : State) (f : RegField) (n : Nat) : Written :=
  if slice (t.regWord f.addr) f.lsb f.width = n then (.ok, t) else (.range, s)

/-- Core 0 stores a value into one field. -/
def State.storeField (s : State) (f : RegField) (n : Nat) : Written :=
  s.tookField (s.regWrite false false { addr := f.addr, value := n * 2 ^ f.lsb, mask := (2 ^ f.width - 1) * 2 ^ f.lsb }).1 f n

/-- One register field as an object; `scale` is the value of one unit of the field. -/
def fieldObj (key : Nat) (type : ObjType) (f : RegField) (lo hi : Int) (persist : Bool := true) (scale : Nat := 1) : ObjRow :=
  let size := type.size.getD 4
  { key := key, type := type, access := .own, persist := persist, sizes := (size, size)
    read := fun _ s =>
      let v := slice (s.regWord f.addr) f.lsb f.width
      let i : Int := if type.isSigned then signed f.width v else (v : Nat)
      (leBytes size (unsigned (8 * size) (i * scale)), s)
    write := fun _ v _ s =>
      let i := objInt type v
      if !inRange lo hi i || i % (scale : Int) != 0 then (.range, s)
      else s.storeField f (unsigned f.width (i / (scale : Int))) }

/-- The value that State keeps of an object, or its default. -/
def State.kept (s : State) (key : Nat) (dflt : List Byte) : List Byte :=
  match Sparse.read [] s.objs key with
  | [] => dflt
  | v => v

/-- A number kept in the dictionary alone. -/
def keptObj (key : Nat) (type : ObjType) (dflt : List Byte) (lo hi : Int) (persist : Bool := true) : ObjRow :=
  let size := type.size.getD 4
  { key := key, type := type, access := .own, persist := persist, sizes := (size, size)
    read := fun _ s => (s.kept key dflt, s)
    write := fun _ v _ s => if inRange lo hi (objInt type v) then (.ok, s.setObj key v) else (.range, s) }

/-- Octets kept in the dictionary alone, where `ok` accepts them. -/
def keptOctets (key size : Nat) (dflt : List Byte) (ok : List Byte → State → Bool) (persist : Bool := true) : ObjRow :=
  { key := key, type := .octets, access := .own, persist := persist, sizes := (size, size)
    read := fun _ s => (s.kept key dflt, s)
    write := fun _ v _ s => if ok v s then (.ok, s.setObj key v) else (.range, s) }

/-- A command: each write of a value from `lo` to `hi` does `f`; a read shows 0 (log entry 96). -/
def cmdObj (key : Nat) (type : ObjType) (lo hi : Nat) (f : Nat → DictEnv → State → Written) : ObjRow :=
  let size := type.size.getD 4
  { key := key, type := type, access := .own, sizes := (size, size)
    read := fun _ s => (List.replicate size 0, s)
    write := fun _ v e s => if within lo hi (leNat v) then f (leNat v) e s else (.range, s) }

/-- A command's effect, answered with its own answer. -/
def State.answered (s : State) (f : State → Host.Outcome State Fault Refusal) : Written :=
  let t := s.after f
  (t.host.result, t.answer s.host.result)

/-- A command's effect, answered OK. -/
def State.done (s : State) (f : State → Host.Outcome State Fault Refusal) : Written := (.ok, s.after f)

end Sys2Proof.Machine
end

