-- ==== Sys2Proof/Machine/DictNet.lean ====
section
/-! DEFINITION. The objects of the slot engine, the medium access functions, the data plane and the cipher island (R17, R145,
R179, R201, R379). -/
namespace Sys2Proof.Machine

/-- Object 0x4001.00: a write goes into STANDBY, a read returns the stored image, the one last made active (log entry 96). -/
def imageRow : ObjRow :=
  { key := 0x400100, type := .octets, access := .own, persist := true, sizes := (128, 66276)
    read := fun _ s => (Sparse.read [] (if s.mappedBank = 0 then s.boot.store0 else s.boot.store1) 0x400100, s)
    write := fun _ v _ s => s.done (execImageWrite 0 v) }

/-- Object 0x4002.01: the drop records; a read removes them. -/
def dropRow : ObjRow :=
  { key := 0x400201, type := .octets, access := .ro, sizes := (0, 192)
    read := fun _ s =>
      (s.slot.dropLog.flatMap fun d => d.words.flatMap (leBytes 4),
       ({ s with slot := { s.slot with dropLog := [] } }).put SLE_DROPSTAT_LOST 0)
    write := noWrite }

def slotObjs : List ObjRow :=
  [imageRow,
   cmdObj 0x400101 .u8 1 5 fun v _ s => (.ok, s.sleCommand v .host),
   regObj 0x400102 .u64 8 [SLE_SWAPASN_L_SWAP_ASN_L.addr, SLE_SWAPASN_H_SWAP_ASN_H.addr] false,
   regObj 0x400103 .u64 8 [SLE_NEWASN_L_NEW_ASN_L.addr, SLE_NEWASN_H_NEW_ASN_H.addr] false,
   roRegs 0x400104 .u32 4 [SLE_LOADCHK_RESULT.addr],
   roRegs 0x400105 .u32 4 [SLE_STATUS_RUNNING.addr],
   roObj 0x400106 .u32 4 fun s => leBytes 4 (bufNum s.activeBuf 8 4),
   roObj 0x400107 .u32 4 fun s => leBytes 4 (if s.standby = sbEmpty then 0 else bufNum s.standbyBuf 8 4),
   roRegs 0x400200 .octets 256 ((List.range 64).map fun k => (SLE_SDONE_DONE 0).addr + 4 * k),
   dropRow,
   roRegs 0x400300 .u32 4 [SLE_TWINSTAT_COUNT.addr],
   keptOctets 0x401000 8 (List.replicate 8 0) (fun _ _ => true) |> fun r => { r with type := .time64 }]

/-- Object 0x4021.00: index and image of a context WRITE; a WRITE or DELETE that waits answers BUSY (log entry 96). -/
def contextRow : ObjRow :=
  { key := 0x402100, type := .octets, access := .own, sizes := (66, 66), read := fun _ s => ([], s)
    write := fun _ v _ s =>
      if h : leAt v 0 2 < 1024 then
        if s.on MAC_CTXSTAT_BUSY then (.busy, s)
        else ({ s with mac := { s.mac with ctxBuf := v.drop 2 } }).done (execContextWrite ⟨leAt v 0 2, h⟩)
      else (.range, s) }

def deleteRow : ObjRow :=
  { key := 0x402103, type := .u16, access := .own, sizes := (2, 2), read := fun _ s => ([0, 0], s)
    write := fun _ v _ s =>
      if h : leNat v < 1024 then
        if s.on MAC_CTXSTAT_BUSY then (.busy, s) else s.done (execContextDelete ⟨leNat v, h⟩)
      else (.range, s) }

/-- Address of the data block of the beacon IEs. -/
def State.ebAddr (s : State) : Nat := 0x24030000 + 64 * s.get MAC_EBCFG_EB_BLOCK

/-- Object 0x4025.00: the IEs of beacons, in block EB_BLOCK with EB_LEN. -/
def beaconRow : ObjRow :=
  { key := 0x402500, type := .octets, access := .own, persist := true, sizes := (0, 127)
    read := fun _ s => (s.bytes s.ebAddr (s.get MAC_EBCFG_EB_LEN), s)
    write := fun _ v _ s => (.ok, (s.devWrite s.ebAddr v).put MAC_EBCFG_EB_LEN v.length) }

/-- Object 0x4021.04: the four eviction candidates, 0xFFFF for none. -/
def State.evictImage (s : State) : List Byte :=
  [(MAC_EVICT0_VALID_A, MAC_EVICT0_CAND_A), (MAC_EVICT0_VALID_B, MAC_EVICT0_CAND_B),
   (MAC_EVICT1_VALID_A, MAC_EVICT1_CAND_A), (MAC_EVICT1_VALID_B, MAC_EVICT1_CAND_B)].flatMap fun x =>
    leBytes 2 (if s.on x.1 then s.get x.2 else 0xFFFF)

def accessObjs : List ObjRow :=
  [fieldObj 0x402000 .u16 MAC_PANID_PANID 0 0xFFFF,
   fieldObj 0x402001 .u16 MAC_PANID_SHORT 0 0xFFFF,
   regObj 0x402002 .u64 8 [MAC_EXT_L_EXT.addr, MAC_EXT_H_EXT.addr],
   regObj 0x402003 .u32 4 [MAC_CTRL_TSRC.addr],
   contextRow,
   keptObj 0x402101 .u16 [0, 0] 0 1023 false,
   roObj 0x402102 .octets 64 fun s => s.bytes (ctxAddr (s.objNum 0x402101)) 64,
   deleteRow,
   roObj 0x402104 .octets 8 State.evictImage,
   regObj 0x402200 .u32 4 [MAC_SYNCCFG_CEIL.addr],
   roRegs 0x402201 .u32 4 [MAC_STATUS_SYNC.addr],
   cmdObj 0x402202 .u8 1 3 fun v _ s =>
     (.ok, (s.regWrite false false { addr := MAC_SYNCCMD_CMD.addr, value := v }).1),
   fieldObj 0x402203 .u16 MAC_SCANCFG_DWELL 10 60000,
   regObj 0x402204 .octets 16 ((List.range 4).map fun i => (MAC_SYNCAIR_SYNCAIR i).addr),
   regObj 0x402300 .octets 6 [MAC_AGE_L_TH1.addr, MAC_AGE_H_TH3.addr],
   regObj 0x402301 .u8 1 [MAC_CSMA_MIN_BE.addr],
   fieldObj 0x402400 .u16 MAC_PEND_TIMEOUT 1 3600,
   beaconRow,
   fieldObj 0x402501 .u8 MAC_EBCFG_JOIN_METRIC 0 255,
   fieldObj 0x402502 .u8 MAC_EBCFG_EB_PROF 0 3,
   keptObj 0x403000 .u8 [0] 0 2,
   keptOctets 0x403001 8 (List.replicate 8 0) fun _ _ => true,
   { keptOctets 0x403002 1 [32] (fun v s => decide (leNat v ≤ 64) && decide (32 * leNat v + s.get MAC_FBCFG_RX_BLOCKS ≤ 6144)) with
     type := .u8 }]

/-- The key image in a value of object 0x5001.00: KCFG, LIMIT, TXFC and the key. -/
def loadKeyImage (v : List Byte) : KeyImage :=
  let c := leAt v 4 4
  { sm4 := bit c 0, txlvl := slice c 1 3, minlvl := slice c 4 3, kidm := slice c 7 2, useSe := bit c 9, useGen := bit c 10,
    usePriv := bit c 11, keyIndex := slice c 16 8, limit := leAt v 8 4, txfc := leAt v 12 4, key := bytesAt v 16 16 }

/-- R201: a key command of page 3 on slot `i`: ACCESS where another page owns it, RANGE where R193 finds the parameters
illegal, with KCMD_REJ either way. -/
def State.keyObject (s : State) (i : Nat) (g : Option KeyImage) : Written :=
  let t := ((s.put (SEC_P_KSEL_SLOT 3) i).pageKeyCommand 3 g).put (SEC_P_KSEL_SLOT 3) (s.get (SEC_P_KSEL_SLOT 3))
  let ok : Bool := match g with
    | some g => keyLegal g 3
    | none => true
  if s.refFailed then (.busy, s) else (if (s.key i).owner ≠ 3 then .access else if ok then .ok else .range, t)

def keyLoadRow : ObjRow :=
  { key := 0x500100, type := .octets, access := .own, sizes := (32, 32), read := fun _ s => (bytesAt s.sec.loadImage 0 32, s)
    write := fun _ v _ s =>
      if leAt v 1 3 ≠ 0 then (.range, s)
      else match s.keyObject (leAt v 0 1) (some (loadKeyImage v)) with
        | (.ok, t) => (.ok, { t with sec := { t.sec with loadImage := v.take 16 ++ List.replicate 16 0 } })
        | r => r }

/-- Object 0x5002.00: the owners of the key slots. -/
def keyOwnersRow : ObjRow :=
  { key := 0x500200, type := .octets, access := .own, persist := true, sizes := (256, 256)
    read := fun _ s => ((List.range 256).flatMap fun i => leBytes 1 (s.key i).owner, s)
    write := fun _ v _ s =>
      if v.any fun b => decide (7 < b.toNat) then (.range, s)
      else (.ok, (v.zipIdx).foldl (fun (s : State) b => s.setOwner b.2 b.1.toNat) s) }

def cipherObjs : List ObjRow :=
  [keyLoadRow,
   cmdObj 0x500101 .u8 0 255 fun v _ s => s.keyObject v none,
   fieldObj 0x500102 .u8 (SEC_P_KSEL_SLOT 3) 0 255 false,
   roRegs 0x500103 .u32 4 [(SEC_P_KSTAT_STATE 3).addr],
   roRegs 0x500104 .u32 4 [(SEC_P_KCOUNT_VALUE 3).addr],
   keyOwnersRow,
   { key := 0x500300, type := .octets, access := .own, sizes := (40, 66276), read := fun _ s => (s.sec.hostReq, s)
     write := fun _ v _ s => s.answered (execCipherRequestObject v) },
   { roObj 0x500301 .octets 66276 (fun s => s.sec.result) with sizes := (0, 66276) },
   roRegs 0x500400 .octets 16 [SEC_STATUS_RESERVE.addr, SEC_LANEBUSY_BUSY.addr, SEC_COUNT0_SE_AUTHF.addr, SEC_COUNT1_SE_FAULT.addr]]

end Sys2Proof.Machine
end

