-- ==== Sys2Proof/Machine/DictRadio.lean ====
section
/-! DEFINITION. The objects of the device, its modes and ports, the radio, the channelizer and the transmit path (R27, R62,
R94, R115, R379, R400). -/
namespace Sys2Proof.Machine

/-- A byte string of ASCII characters. -/
def ascii (cs : List Nat) : List Byte := cs.map fun c => BitVec.ofNat 8 c

/-- Object 0x1000.00: KW-7250 or KW-7250-T. -/
def State.deviceType (s : State) : List Byte :=
  ascii ([0x4B, 0x57, 0x2D, 0x37, 0x32, 0x35, 0x30] ++ if s.partT then [0x2D, 0x54] else [])

/-- Object 0x1001.00 (R379). -/
def State.capability (s : State) : Nat := if s.partT then 64 * 2 ^ 8 + 1024 * 2 ^ 16 else 3 + 128 * 2 ^ 8 + 1024 * 2 ^ 16

/-- The MAC address of the OTP identity record (R423); 0 where its CRC fails (R431). -/
def State.otpMac (s : State) : List Byte := if s.identityOk then s.otp 16 6 else List.replicate 6 0

/-- The default of the MAC address object 0x1023.03: the OTP value. -/
def macRow : ObjRow :=
  { key := 0x102303, type := .u64, access := .own, persist := true, sizes := (8, 8)
    read := fun _ s => (s.kept 0x102303 (s.otpMac ++ [0, 0]), s)
    write := fun _ v _ s => if leNat v < 2 ^ 48 ∧ !bit (leNat v) 0 then (.ok, s.setObj 0x102303 v) else (.range, s) }

/-- A U32 kept in the dictionary where `ok` accepts it. -/
def keptWord (key dflt : Nat) (ok : Nat → Bool) : ObjRow :=
  { keptOctets key 4 (leBytes 4 dflt) (fun v _ => ok (leNat v)) with type := .u32 }

def deviceObjs : List ObjRow :=
  [{ roObj 0x100000 .string 9 State.deviceType .const with sizes := (0, 9) },
   roObj 0x100001 .string 2 (fun _ => ascii [0x42, 0x31]) .const,
   roObj 0x100002 .octets 8 State.serial .const,
   roObj 0x100100 .u32 4 fun s => leBytes 4 s.capability,
   roObj 0x100200 .u8 1 (fun _ => [1]) .const,
   cmdObj 0x100300 .u8 1 1 fun _ _ s => (.ok, { s with boot := { s.boot with restore := true } }),
   keptObj 0x101000 .u8 [0] 0 3,
   { key := 0x101100, type := .u8, access := .own, sizes := (1, 1), read := fun _ s => (leBytes 1 s.mode, s)
     write := fun _ v _ s => s.answered (execModeWrite (leNat v)) },
   keptObj 0x102000 .u8 [0x1F] 0 0x1F,
   keptWord 0x102100 0x05000016 fun v => v &&& 0x07FF001F == v && slice v 16 5 == 0,
   keptWord 0x102200 115200 (within 9600 3000000),
   keptWord 0x102300 0x0A000002 fun _ => true,
   keptWord 0x102301 0xFFFFFF00 fun _ => true,
   keptWord 0x102302 0 fun _ => true,
   macRow,
   keptWord 0x102304 0xB893B892 fun v => slice v 0 16 != slice v 16 16,
   keptObj 0x102400 .u16 (leBytes 2 1000) 100 10000,
   roObj 0x103000 .octets 128 fun s => s.kept 0x103000 (List.replicate 128 0)]

/-- Object 0x2005.00: the return states of RFC_CTRL [7:2]. -/
def returnRow : ObjRow :=
  { key := 0x200500, type := .u8, access := .own, persist := true, sizes := (1, 1)
    read := fun _ s => (leBytes 1 (slice (s.regWord RFC_CTRL_RET_T.addr) 2 6), s)
    write := fun _ v _ s =>
      if 64 ≤ leNat v ∨ leNat v % 4 = 3 then (.range, s)
      else s.storeRegs [(RFC_CTRL_RET_T.addr, 0xFC)] (leBytes 4 (4 * leNat v)) }

/-- Object 0x2030.00: the test operations of R60, in Test mode only. -/
def testCommand (op : Nat) (s : State) : Written :=
  if s.mode ≠ modeTest then (.mode, s)
  else match op with
  | 0 => s.done execTestStop
  | 1 => s.done execTestCw
  | 2 => s.done execModcarrier
  | 3 => s.done execPerTx
  | 4 => s.done execPerRx
  | _ => s.done execCalread

/-- Object 0x2020.00: an explicit calibration; an impossible TYPE or TARGET is out of range. -/
def calCommand (v : Nat) (s : State) : Written :=
  let type := slice v 0 3
  if v &&& 0x37 ≠ v ∨ type = 0 ∨ 6 ≤ type ∨ (type ≠ 4 ∧ slice v 4 2 = 3) then (.range, s)
  else s.done (execCalibrationStart (BitVec.ofNat 32 v))

def radioObjs : List ObjRow :=
  [fieldObj 0x200101 .u32 RFC_FREQ_A_FREQ 416400000 953600000,
   fieldObj 0x200102 .u32 RFC_FREQ_B_FREQ 416400000 953600000,
   fieldObj 0x200200 .u8 RFC_CTRL_ANT_CFG 0 1,
   fieldObj 0x200300 .bool RFC_CTRL_FDX_EN 0 1,
   fieldObj 0x200400 .u8 RFC_CALCFG_POLICY 0 1,
   fieldObj 0x200401 .u8 RFC_CALCFG_DELTA_T 1 31,
   fieldObj 0x200402 .bool RFC_CALCFG_BG_EN 0 1,
   returnRow,
   regObj 0x200600 .u16 2 [RFC_EXTCTL_PA_EN_EN.addr],
   { key := 0x201001, type := .octets, access := .own, persist := true, sizes := (112, 448)
     read := fun _ s => (s.radio.profile, s)
     write := fun _ v _ s => s.answered (execProfileWrite v) },
   { key := 0x201002, type := .bool, access := .own, persist := true, sizes := (1, 1), read := fun _ s => (leBytes 1 (s.get RFC_REGSTAT_REGLOCK), s)
     write := fun _ v _ s => s.answered (execReglockSet (leNat v)) },
   { roObj 0x201003 .u32 4 (fun s => leBytes 4 (profNum s.radio.profile 8 4)) with persist := true },
   { key := 0x201004, type := .octets, access := .wo, sizes := (1, 2048), read := fun _ s => ([], s)
     write := fun _ v _ s => s.regCert v },
   roObj 0x201005 .octets 32 fun s => (List.range 8).flatMap fun g => leBytes 4 (s.duty g).sum,
   cmdObj 0x202000 .u8 0 0xFF fun v _ s => calCommand v s,
   roRegs 0x202001 .u32 4 [RFC_CALSTAT_BUSY.addr],
   cmdObj 0x203000 .u8 0 5 fun v _ s => testCommand v s,
   keptObj 0x203001 .u32 (leBytes 4 1000) 1 1000000 false,
   roObj 0x203002 .octets 64 State.testResults,
   regObj 0x203003 .u16 2 [RFC_TESTRX_HALF.addr] false]

/-- Object 0x3002.03: the mapping of channel `c` as CHZ_MAPQ [31:16] shows it. -/
def State.mapEntry (s : State) (c : Nat) : Nat := slice ((s.put CHZ_MAPQ_CHAN c).regWord CHZ_MAPQ_CHAN.addr) 16 16

/-- Object 0x3005.00: a rejected twin receive enable is answered with MODE. -/
def twinRow : ObjRow :=
  { key := 0x300500, type := .bool, access := .own, persist := true, sizes := (1, 1)
    read := fun _ s => (leBytes 1 (s.get CHZ_CTRL_TWIN_EN), s)
    write := fun _ v _ s =>
      let t := (s.regWrite false false { addr := CHZ_CTRL_TWIN_EN.addr, value := 4 * leNat v, mask := 4 }).1
      if 1 < leNat v then (.range, s)
      else if t.get CHZ_CTRL_TWIN_EN = leNat v then (.ok, t) else (.mode, t) }

/-- Object 0x3008.00: EN and PROFILE of every lane. -/
def laneRow : ObjRow :=
  { key := 0x300800, type := .octets, access := .own, persist := true, sizes := (128, 128)
    read := fun _ s => ((List.range 128).flatMap fun i => leBytes 1 (s.regWord (CHZ_LCFG_EN i).addr), s)
    write := fun _ v _ s =>
      if v.any fun b => decide (7 < b.toNat) then (.range, s)
      else (.ok, (v.zipIdx).foldl (fun (s : State) b =>
        (s.regWrite false false { addr := (CHZ_LCFG_EN b.2).addr, value := b.1.toNat }).1) s) }

/-- A value that core 0 aggregates: from shedding level 2 on it is the last aggregated one, which stays open (R374). -/
def aggregated (key size : Nat) (f : State → List Byte) : ObjRow :=
  { roObj key .octets size f with read := fun _ s => if 2 ≤ s.get HDP_STATUS_LOAD then s.freeBytes size else (f s, s) }

def channelObjs : List ObjRow :=
  [fieldObj 0x300101 .u8 CHZ_CTRL_PLAN_A 0 1,
   fieldObj 0x300102 .u8 CHZ_CTRL_PLAN_B 0 1,
   fieldObj 0x300200 .u32 CHZ_CHF0_F0 410000000 960000000,
   fieldObj 0x300201 .u32 CHZ_CHSPACE_S 1000 2000000,
   fieldObj 0x300202 .u16 CHZ_CHCOUNT_N 1 1024,
   roObj 0x300203 .octets 2048 fun s => (List.range 1024).flatMap fun c => leBytes 2 (s.mapEntry c),
   regArr 0x300300 4 .u32 4 fun i => [(CHZ_PROF_MOD i).addr],
   regObj 0x300400 .u16 2 [CHZ_SYNC_SFD_ERR.addr],
   regObj 0x300401 .u32 4 [CHZ_LEGSYNC_WORD.addr],
   twinRow,
   fieldObj 0x300600 .u8 CHZ_OFFCFG_ALPHA 0 7,
   fieldObj 0x300601 .u16 CHZ_OFFCFG_OFF_LIM 0 5000,
   fieldObj 0x300700 .bool CHZ_CTRL_LEAK_EN 0 1,
   fieldObj 0x300701 .u8 CHZ_LEAKCFG_TARGET 20 50,
   fieldObj 0x300702 .u8 CHZ_LEAKCFG_MIN 10 40,
   laneRow,
   aggregated 0x300900 512 fun s => s.regsImage ((List.range 128).map fun i => (CHZ_LCNT_DETECT i).addr)]

def transmitObjs : List ObjRow :=
  [fieldObj 0x210000 .i8 TXP_POWER_POWER (-80) 80,
   regArr 0x210100 4 .u32 4 fun i => [(TXP_PROF_MOD i).addr],
   regObj 0x210200 .octets 64 ((List.range 16).map fun i => (TXP_FIR_TAP_LO i).addr),
   fieldObj 0x210201 .u8 TXP_CTRL_FIR_DELAY 0 31,
   regObj 0x210300 .octets 64 ((List.range 16).map fun i => (TXP_MASK_OFFSET i).addr),
   fieldObj 0x210301 .bool TXP_CTRL_MASK_EN 0 1,
   regObj 0x210400 .u32 4 [TXP_RAMP_RUP.addr],
   regObj 0x210401 .octets 16 ((List.range 4).map fun i => (TXP_RTAB_ENTRY0 i).addr),
   regObj 0x210500 .u32 4 [TXP_PATIME_PA_LEAD.addr],
   fieldObj 0x210600 .bool TXP_CTRL_PRECOR_EN 0 1,
   fieldObj 0x210601 .u16 TXP_PRECOR_PRECOR_MAX 0 5000]

end Sys2Proof.Machine
end

