-- ==== Sys2Proof/Machine/DictSys.lean ====
section
/-! DEFINITION. The objects of the cores, the memories, the flash, the power controller, the pins, the tag port, and of boot,
identity and update (R299, R335, R355, R379, R420, R445, R468, R477), with the update commands that they carry. -/
namespace Sys2Proof.Machine

/-! Update, attestation and the customer root (R438, R439, R445). -/

/-- Object 0xA030.00: 1 BEGIN, 2 COMMIT, 3 ABORT, 4 CONFIRM. -/
def State.updCommand (s : State) (code : Nat) (e : DictEnv) : Written :=
  let st := s.boot.upd.state
  if code = 1 then (if st = 2 ∧ e.writing then (.busy, s) else if st = 4 then (.access, s) else (.ok, s.updBegin))
  else if code = 2 then (if st = 3 then (.ok, s.swapRequest.requestReset 0x06) else (.access, s))
  else if code = 3 then (.ok, s.updAbort)
  else if st = 4 then (.ok, s.confirm e.otpFail)
  else (.access, s)

/-- Object 0xA030.01: OFFSET and 1 to 1 020 bytes of the package. -/
def State.updChunk (s : State) (v : List Byte) (e : DictEnv) : Written :=
  let st := s.boot.upd.state
  if st ≠ 1 ∧ st ≠ 2 then (.access, s)
  else if st = 2 ∧ e.writing then (.busy, s)
  else (.ok, s.updData (leAt v 0 4) (v.drop 4) e.flashFail)

/-- Object 0xA011.00: a nonce builds a report; without random words there is none (R442). -/
def State.nonceWrite (s : State) (v : List Byte) : Written :=
  if s.on PKE_RNGSTAT_HEALTH_FAIL then (.busy, s) else (.ok, s.attest v)

/-- Object 0xA012.00: the customer root key, written once. -/
def State.rootKeyWrite (s : State) (v : List Byte) (e : DictEnv) : Written :=
  if s.customerRoot.isSome then (.access, s)
  else if e.otpFail then (.persistFail, s)
  else (.ok, s.setBytes 0x280001F0 (v ++ leBytes 4 0x5A5A5A5A))

/-- Object 0xA030.02. -/
def State.updStatus (s : State) : Nat :=
  let u := s.boot.upd
  u.state + u.reason * 2 ^ 8 + u.bytes.length / 1024 % 65536 * 2 ^ 16

/-- A component's record in object 0xA002.00. -/
def State.componentRecord (s : State) (c : Nat) : List Byte :=
  match s.installed c with
  | some m => leBytes 1 c ++ [1] ++ leBytes 1 (manSvn m) ++ [0] ++ leBytes 4 (manVersion m)
  | none => leBytes 1 c ++ List.replicate 7 0

def counterRegs : List RegField := [BTU_CNT0_C1, BTU_CNT0_C2, BTU_CNT0_C3, BTU_CNT0_C4, BTU_CNT1_CNT]

def bootObjs : List ObjRow :=
  [roObj 0xA00100 .u32 4 fun s =>
     leBytes 4 (s.regWord BTU_BOOTSTAT_TRIAL.addr % 65536 + s.boot.c1Reason * 2 ^ 16 + s.boot.glReason * 2 ^ 24),
   roObj 0xA00200 .octets 40 fun s => [1, 2, 3, 4, 5].flatMap s.componentRecord,
   roObj 0xA00300 .octets 5 fun s => counterRegs.flatMap fun f => leBytes 1 (s.get f),
   roObj 0xA01000 .octets 304 (fun s => s.otp 0x080 304) .const,
   roObj 0xA01001 .octets 64 State.auquerenRoot .const,
   { key := 0xA01100, type := .octets, access := .own, sizes := (1, 32), read := fun _ s => ([], s)
     write := fun _ v _ s => s.nonceWrite v },
   { roObj 0xA01101 .octets 368 (fun s => s.boot.report) with sizes := (0, 368) },
   { key := 0xA01200, type := .octets, access := .wo, sizes := (64, 64), read := fun _ s => ([], s)
     write := fun _ v e s => s.rootKeyWrite v e },
   keptOctets 0xA02000 152 [] fun v s => match s.customerRoot with
     | some root => certValid v root usageSlotprog
     | none => false,
   cmdObj 0xA03000 .u8 1 4 fun v e s => s.updCommand v e,
   { key := 0xA03001, type := .octets, access := .wo, sizes := (5, 1024), read := fun _ s => ([], s)
     write := fun _ v e s => s.updChunk v e },
   roObj 0xA03002 .u32 4 fun s => leBytes 4 s.updStatus,
   keptObj 0xA03003 .u16 (leBytes 2 600) 0 3600]

/-! The cores, the fault log, memories and flash. -/

/-- Object 0x8030.01 (R299). -/
def State.core1Status (s : State) : Nat :=
  let c := s.core1
  (match c.run with
    | .stopped => 0
    | .running => 1
    | .waiting => 2
    | .lockedUp => 3) + c.lastCause % 256 * 2 ^ 8 + min c.entries 0xFFFF * 2 ^ 16

/-- Object 0x9001.00: the strength codes of the 32 regions, two bits each. -/
def strengthRow : ObjRow :=
  { key := 0x900100, type := .octets, access := .own, persist := true, sizes := (32, 32)
    read := fun _ s =>
      let w := s.regWord MEM_RSTR0_S0.addr + 2 ^ 32 * s.regWord MEM_RSTR1_S16.addr
      ((List.range 32).flatMap fun i => leBytes 1 (slice w (2 * i) 2), s)
    write := fun _ v _ s =>
      if v.any fun b => decide (3 < b.toNat) then (.range, s)
      else
        let w := (v.zipIdx).foldl (fun n b => n + b.1.toNat * 4 ^ b.2) 0
        s.storeRegs [(MEM_RSTR0_S0.addr, 0xFFFFFFFF), (MEM_RSTR1_S16.addr, 0xFFFFFFFF)] (leBytes 8 w) }

/-- The entries of the fault log that the host is shown: at load level 3 not those of the patrol (R374). -/
def State.shownEntries (s : State) : List FaultEntry :=
  if s.get HDP_STATUS_LOAD = 3 then s.faults.entries.filter fun e => !e.scrub else s.faults.entries

def coreObjs : List ObjRow :=
  [{ roObj 0x801000 .octets 256 (fun s => s.shownEntries.flatMap fun e => e.words.flatMap (leBytes 4)) with sizes := (0, 256) },
   roRegs 0x801001 .u32 4 [ERR_STATUS_LEVEL.addr],
   cmdObj 0x801002 .u16 0 1023 fun v _ s => s.done (execFaultClose (Fin.ofNat 256 v) (bit v 8) (bit v 9)),
   cmdObj 0x801003 .u8 1 1 fun _ _ s => s.done execFaultPop,
   { keptObj 0x803000 .bool [0] 0 1 false with
     write := fun _ v _ s => if s.mode ≠ modeTest then (.access, s) else if 1 < leNat v then (.range, s) else (.ok, s.setObj 0x803000 v) },
   roObj 0x803001 .u32 4 fun s => leBytes 4 s.core1Status,
   strengthRow,
   fieldObj 0x900101 .u8 MEM_ECCCFG_CORR_THR 1 24,
   roRegs 0x900102 .u32 4 [MEM_ECCCNT_ECC_CORR.addr],
   regObj 0x900103 .u16 2 [MEM_CTRL_SCRUB_EN.addr],
   regObj 0x901000 .u32 4 [FLC_CTRL_STALL_FETCH.addr],
   roRegs 0x901001 .octets 512 ((List.range 128).map fun i => (FLC_ECNT_COUNT i).addr),
   roRegs 0x901002 .octets 16 [(FLC_SUSP_L_SUSPECT 0).addr, (FLC_SUSP_H_SUSPECT 0).addr, (FLC_SUSP_L_SUSPECT 1).addr,
     (FLC_SUSP_H_SUSPECT 1).addr],
   roRegs 0x901003 .octets 8 [(FLC_BANK_STAT_STATE 0).addr, (FLC_BANK_STAT_STATE 1).addr]]

/-! Power and pins. -/

/-- Object 0x8001.00: OK once the entry is pending; BUSY while another is, MODE where R453 refuses it (log entry 96). -/
def State.powerObject (s : State) (code : Nat) : Written :=
  let t := s.powerCommand code
  (if s.on PRC_PWRSTAT_PENDING then .busy else if t.on PRC_PWRSTAT_PENDING then .ok else .mode, t)

/-- Object 0x8100.01: the output levels of the 40 pins. -/
def pinOutRow : ObjRow :=
  { key := 0x810001, type := .u64, access := .own, persist := true, sizes := (8, 8)
    read := fun _ s => (s.regsImage [PIN_OUT_L_LEVEL.addr, PIN_OUT_H_LEVEL.addr], s)
    write := fun _ v _ s =>
      if 2 ^ 40 ≤ leNat v then (.range, s)
      else s.storeRegs [(PIN_OUT_L_LEVEL.addr, 0xFFFFFFFF), (PIN_OUT_H_LEVEL.addr, 0xFF)] v }

def powerObjs : List ObjRow :=
  [cmdObj 0x800100 .u8 1 4 fun v _ s => s.powerObject v,
   regObj 0x800101 .u16 2 [PRC_WAKEEN_EN.addr],
   roRegs 0x800102 .u32 4 [PRC_PWRSTAT_PENDING.addr],
   roRegs 0x800103 .u16 2 [PRC_WAKESRC_SRC.addr],
   roRegs 0x800200 .octets 8 [PRC_RSTCAUSE_CAUSE.addr, PRC_RSTSRC_SOURCES.addr],
   cmdObj 0x800201 .u8 1 2 fun v _ s => (.ok, s.requestReset (if v = 1 then 0x06 else 0x07)),
   regObj 0x800300 .u32 4 [PRC_SUPCFG_WARN.addr],
   roRegs 0x800301 .octets 8 [PRC_STATUS_VSUP_LOW.addr, PRC_SUPMEAS_VSUP.addr],
   fieldObj 0x800400 .u8 PRC_CTRL_CORE_CLK 0 2,
   roRegs 0x804000 .octets 8 [(PRC_WDT_STAT_REMAIN 0).addr, (PRC_WDT_STAT_REMAIN 1).addr],
   regObj 0x810000 .octets 160 ((List.range 40).map fun n => (PIN_CFG_FUNC n).addr),
   pinOutRow,
   roRegs 0x810002 .u64 8 [PIN_IN_L_LEVEL.addr, PIN_IN_H_LEVEL.addr]]

/-! The tag port (R420). -/

/-- Whole blocks written from block `b` by the core side: BUSY where the field side holds the semaphore. -/
def State.tagObject (s : State) (b : Nat) (v : List Byte) (e : DictEnv) : Written :=
  match s.tagBlocks e.busyAfter e.badAt (v.length / 4) b v with
  | (some _, t) => (.busy, t)
  | (none, t) => (.ok, t)

/-- Objects 0xB002.00 to 0xB002.07: RP and WP of an area. -/
def protectRow : ObjRow :=
  { key := 0xB00200, count := 8, type := .u8, access := .own, sizes := (1, 1)
    read := fun k s => (leBytes 1 (s.tagBlock (2000 + k) % 4), s)
    write := fun k v e s =>
      if 3 < leNat v then (.range, s) else s.tagObject (2000 + k) (leBytes 4 (splice (s.tagBlock (2000 + k)) 0 2 (leNat v))) e }

/-- Objects 0xB003.00 to 0xB003.07: the read and the write password of an area. -/
def passwordRow : ObjRow :=
  { key := 0xB00300, count := 8, type := .octets, access := .wo, sizes := (8, 8), read := fun _ s => ([], s)
    write := fun k v e s =>
      match s.tagObject (1984 + k) (v.take 4) e with
      | (.ok, t) => t.tagObject (1992 + k) (v.drop 4) { e with busyAfter := e.busyAfter - 1 }
      | r => r }

/-- Object 0xB006.01: up to 1 024 bytes from the selected block. -/
def tagDataRow : ObjRow :=
  { key := 0xB00601, type := .octets, access := .own, sizes := (4, 1024)
    read := fun _ s => (s.bytes (tagAddr s.tagSelect) (min 1024 (4 * (1984 - s.tagSelect))), s)
    write := fun _ v e s =>
      let t := s.tagDataWrite v e.busyAfter e.badAt
      (t.host.result, t.answer s.host.result) }

def tagObjs : List ObjRow :=
  [regObj 0xB00100 .u8 1 [TAG_CTRL_FIELD_PRIORITY.addr],
   protectRow,
   passwordRow,
   cmdObj 0xB00400 .u8 0 7 fun k e s => s.tagObject (2000 + k) (leBytes 4 (s.tagCounted k 0)) e,
   roRegs 0xB00500 .u32 4 [TAG_STATUS_RECOVERED.addr],
   roRegs 0xB00501 .u32 4 [TAG_AREASTAT_LOCKOUT.addr],
   keptObj 0xB00600 .u16 [0, 0] 0 1983 false,
   tagDataRow,
   { key := 0xB00700, type := .u16, access := .own, sizes := (2, 2)
     read := fun _ s => (leBytes 2 (s.tagBlock 2008), s)
     write := fun _ v e s => s.tagObject 2008 (leBytes 4 (splice (s.tagBlock 2008) 0 16 (leNat v))) e },
   roObj 0xB00800 .octets 8 State.tagUid .const]

end Sys2Proof.Machine
end

