-- ==== Sys2Proof/Machine/DictTime.lean ====
section
/-! DEFINITION. The objects of the GNSS island, the backup domain, the timers and the event router (R230, R246, R266). -/
namespace Sys2Proof.Machine

/-- Object 0x6001.00: with an invalid GNSSLIB the island stays off (R431). -/
def gnssRow : ObjRow :=
  let plain := fieldObj 0x600100 .bool GNS_CTRL_EN 0 1
  { plain with write := fun i v e s => if leNat v = 1 ∧ s.boot.glReason ≠ 0 then (.ok, s) else plain.write i v e s }

/-- Object 0x6004.00: the time pulse (R220). -/
def pulseRow : ObjRow :=
  { key := 0x600400, type := .octets, access := .own, persist := true, sizes := (16, 16)
    read := fun _ s =>
      (leBytes 4 (s.get GNS_TPPER_VALUE) ++ leBytes 4 (s.get GNS_TPWID_VALUE) ++ leBytes 4 (s.get GNS_TPOFF_OFFSET) ++
        leBytes 1 (s.get GNS_TPCFG_TP_MODE) ++ leBytes 1 (s.get GNS_TPCFG_POL) ++ [0, 0], s)
    write := fun _ v _ s =>
      let per := leAt v 0 4
      let wid := leAt v 4 4
      if s.on GNS_LOCK_LOCK || !pulsePeriodOk per || wid == 0 || decide (per ≤ wid) ||
          !inRange (-999999999) 999999999 (signed 32 (leAt v 8 4)) || decide (2 < leAt v 12 1) || decide (1 < leAt v 13 1) ||
          leAt v 14 2 != 0 then (.range, s)
      else (.ok, ((((s.put GNS_TPPER_VALUE per).put GNS_TPWID_VALUE wid).put GNS_TPOFF_OFFSET (leAt v 8 4)).put GNS_TPCFG_TP_MODE
        (leAt v 12 1)).put GNS_TPCFG_POL (leAt v 13 1)) }

/-- Object 0x6009.00: what firmware knows of the channels; FLAGS and C/N0 are its own estimates. From shedding level 2 on the
last aggregated values stay open (R374). -/
def channelStatus (s : State) : List Byte × State :=
  let (fs, t) := s.freeBytes 192
  if 2 ≤ s.get HDP_STATUS_LOAD then s.freeBytes 768
  else ((List.range 96).flatMap fun c => leBytes 1 (s.get (GNS_CCFG_SYS c)) ++ leBytes 1 (s.get (GNS_CCFG_PRN c)) ++
    bytesAt fs (2 * c) 2 ++ leBytes 4 (s.get (GNS_CPOW_POW c)), t)

/-- A value that the navigation firmware computes. -/
def navObj (key : Nat) (type : ObjType) (size : Nat) : ObjRow :=
  { roObj key type size (fun _ => []) with read := fun _ s => s.freeBytes size }

def gnssObjs : List ObjRow :=
  [gnssRow,
   keptObj 0x600101 .u8 [0x7F] 0 0x7F,
   keptObj 0x600200 .u8 [10] 1 10,
   navObj 0x600201 .octets 32,
   keptOctets 0x600202 12 (List.replicate 12 0) fun _ _ => true,
   fieldObj 0x600300 .u16 GNS_MEASCFG_PERIOD 100 10000 true 100,
   roObj 0x600301 .octets 3104 fun s => s.bytes (0x40088000 + 0x1000 * s.get GNS_MEASSTAT_BUF) 3104,
   pulseRow,
   roRegs 0x600401 .i32 4 [GNS_TPQERR_LATE_PS.addr],
   fieldObj 0x600500 .bool GNS_CTRL_STEER_EN 0 1,
   roRegs 0x600501 .octets 12 [GNS_STATUS_TIME_VALID.addr, GNS_STEERE_VALUE.addr, GNS_STEERR_VALUE.addr],
   cmdObj 0x600502 .u8 1 2 fun v _ s => if v = 1 then s.done execSteerForce else s.done execSteerResetI,
   roObj 0x600600 .u8 1 fun s => leBytes 1 (s.get GNS_JAM_J),
   regObj 0x600601 .u16 2 [GNS_JAM_JAM_THR.addr],
   regObj 0x600700 .octets 16 ((List.range 4).map fun i => (GNS_NOTCH_EN i).addr),
   cmdObj 0x600800 .u8 1 3 fun v _ s => s.answered (execGnssRestart v),
   navObj 0x600801 .u32 4,
   { roObj 0x600900 .octets 768 (fun _ => []) with read := fun _ s => channelStatus s }]

/-- Object 0x7001.00: the calendar; a write is a SET, its weekday ignored. -/
def calendarRow : ObjRow :=
  { key := 0x700100, type := .octets, access := .own, sizes := (8, 8)
    read := fun _ s =>
      let t := s.calTime
      (leBytes 2 t.year ++ [t.month, t.day, t.hour, t.min, t.sec, s.get RTC_DAY_WDAY].flatMap (leBytes 1), s)
    write := fun _ v _ s =>
      let t : CalTime := { year := leAt v 0 2, month := leAt v 2 1, day := leAt v 3 1, hour := leAt v 4 1, min := leAt v 5 1, sec := leAt v 6 1 }
      (if t.ok then .ok else .range, s.takeSet t false none) }

/-- Objects 0x7002.00 and 0x7002.01: an alarm's match registers, EN and ONESHOT; the alarm is disarmed, written and armed
again (log entry 96). -/
def alarmRow : ObjRow :=
  { key := 0x700200, count := 2, type := .octets, access := .own, sizes := (12, 12)
    read := fun i s =>
      (s.regsImage [(RTC_ALM_T_SEC i).addr, (RTC_ALM_D_DAY i).addr] ++ leBytes 4 (s.get (almEn i) + 2 * s.get (almOneshot i)), s)
    write := fun i v _ s =>
      let a := (RTC_ALM_T_SEC i).addr
      let d := (RTC_ALM_D_DAY i).addr
      match (s.flag (almEn i) false).storeRegs [(a, regBits a), (d, regBits d)] (v.take 8) with
      | (.ok, t) =>
        let c := leAt v 8 4
        let t := t.flag (almOneshot i) (bit c 1)
        if 3 < c then (.range, s)
        else if !bit c 0 then (.ok, t)
        else if (t.almDates i).isEmpty ∨ (t.almTimes i).isEmpty then (.range, (s.flag RTC_STATUS_DATE_INVALID true).raise 95)
        else (.ok, t.almArm i)
      | (r, _) => (r, s) }

/-- Object 0x7003.01: the measurement is configured and started. -/
def measureRow : ObjRow :=
  let plain := regObj 0x700301 .u32 4 [RTC_TRIMCFG_SRC.addr] false
  { plain with write := fun i v e s =>
      match plain.write i v e s with
      | (.ok, t) => (.ok, t.after execRtcMeasure)
      | r => r }

def clockObjs : List ObjRow :=
  [calendarRow,
   regObj 0x700101 .u16 2 [RTC_UTCOFF_OFFSET.addr],
   cmdObj 0x700102 .u8 1 1 fun v _ s => s.answered (execSetFromNetworkTime v),
   alarmRow,
   fieldObj 0x700300 .i32 RTC_TRIM_E (-500000) 500000,
   measureRow,
   roRegs 0x700302 .u32 4 [RTC_TRIMRES_STATUS.addr],
   roRegs 0x700400 .octets 12 [RTC_SUPPLY_STAMP_VALID.addr, RTC_SWSTAMP_T_TIME.addr, RTC_SWSTAMP_D_DATE.addr],
   regObj 0x700500 .octets 16 ((List.range 4).map fun i => (RTC_CMP_COND i).addr),
   { keptOctets 0x700600 64 [] (fun _ _ => true) false with
     read := fun _ s => (s.bytes backupRam 64, s), write := fun _ v _ s => (.ok, s.setBytes backupRam v) },
   roRegs 0x700700 .u32 4 [RTC_STATUS_CENTURY_WRAP.addr]]

/-- Objects 0x7011.00 to 0x7011.1F: a channel of the host (R260). A MINPULSE of 0 is ignored (R268). -/
def channelRow : ObjRow :=
  let regs (c : Nat) : List Nat := (List.range 9).map fun k => (EVR_CFG_EN c).addr + 4 * k
  { key := 0x701100, count := 32, type := .octets, access := .own, persist := true, sizes := (36, 36)
    read := fun c s => (s.regsImage (regs c), s)
    write := fun c v _ s =>
      let v := if leAt v 32 1 = 0 then setAt v 32 (BitVec.ofNat 8 (s.get (EVR_COND_MINPULSE c))) else v
      if s.get (EVR_CFG_OWNER c) ≠ 2 ∨ s.on (EVR_CFG_SEC c) then (.access, s)
      else if slice (leAt v 0 4) 1 3 ≠ 2 then (.access, s)
      else s.storeRegs ((regs c).map fun a => (a, regBits a)) v }

/-- Object 0x7012.00: one channel that the host does not own refuses the whole write (R260). -/
def fireRow : ObjRow :=
  { key := 0x701200, type := .u32, access := .own, sizes := (4, 4), read := fun _ s => (List.replicate 4 0, s)
    write := fun _ v _ s =>
      if (List.range 32).any fun c => bit (leNat v) c && s.get (EVR_CFG_OWNER c) != 2 then (.access, s)
      else s.done (execEvrFire (BitVec.ofNat 32 (leNat v)) false) }

def eventObjs : List ObjRow :=
  [roObj 0x701000 .time64 8 fun s => leBytes 8 s.tnet,
   channelRow,
   fireRow,
   roRegs 0x701300 .octets 16 ((List.range 4).map fun i => (EVR_ESTAT_STAT i).addr)]

end Sys2Proof.Machine
end

