-- ==== Sys2Proof/Machine/Dict.lean ====
section
/-! DEFINITION. The parameter dictionary (R367 to R370, R382): the table of every object, a read, a write with its checks and
its store in flash, and what system firmware applies at boot. -/
namespace Sys2Proof.Machine

/-- Objects of the service itself: the load of core 0 (R374, R379). -/
def loadObjs : List ObjRow :=
  [roObj 0x802000 .u32 4 fun s =>
     leBytes 4 (s.get HDP_STATUS_LOAD + s.get HDP_STATUS_QLEVEL * 2 ^ 8 + min s.host.busy 0xFFFF * 2 ^ 16)]

/-- Every object of the manual (R382). -/
def objTable : List ObjRow :=
  deviceObjs ++ radioObjs ++ channelObjs ++ transmitObjs ++ slotObjs ++ accessObjs ++ cipherObjs ++ gnssObjs ++ clockObjs ++
  eventObjs ++ coreObjs ++ powerObjs ++ bootObjs ++ tagObjs ++ loadObjs

/-- The row of an object, and which of its sub-indices it is. -/
def findObj (key : Nat) : Option (ObjRow × Nat) :=
  (objTable.find? fun r => decide (r.key ≤ key) && decide (key < r.key + r.count)).map fun r => (r, key - r.key)

/-- The objects that control half B alone (R3): absent on the KW-7250-T. -/
def halfBKey (key : Nat) : Bool := key == 0x200102 || key == 0x300102 || key == 0x300500

/-- The SRAM bytes that a read of an object takes: address and length. -/
def State.objSource (s : State) (key : Nat) : Option (Nat × Nat) :=
  if key = 0x402102 then some (ctxAddr (s.objNum 0x402101), 64)
  else if key = 0x402500 then some (s.ebAddr, s.get MAC_EBCFG_EB_LEN)
  else none

/-- A read: its status, the whole value, and the state after it. -/
def State.objRead (s : State) (key : Nat) : OdpStatus × List Byte × State :=
  match findObj key with
  | none => (.noObject, [], s)
  | some (r, i) =>
    if r.access = .wo then (.access, [], s)
    else if (s.objSource key).any fun x => s.poisonedIn x.1 x.2 then (.dataError, [], s)
    else
      let (v, t) := r.read i s
      (.ok, v, t)

/-- The value has a size that its object allows. -/
def ObjRow.fits (r : ObjRow) (v : List Byte) : Bool := within r.sizes.1 r.sizes.2 v.length

/-- A write by a master, `owner` where it owns the device, `free` while nobody does (R368): NO_OBJECT, ACCESS, ABSENT, LENGTH
and RANGE are tested in this order (log entry 97); a persistent value is then stored (R369). -/
def State.objWrite (s : State) (key : Nat) (v : List Byte) (owner free : Bool) (e : DictEnv) : Written :=
  match findObj key with
  | none => (.noObject, s)
  | some (r, i) =>
    let may : Bool := match r.access with
      | .const | .ro => false
      | .rw => owner || free
      | .wo | .own => owner
    if !may then (.access, s)
    else if s.partT ∧ halfBKey key then (.absent, s)
    else if !r.fits v then (.length, s)
    else if r.type = .bool ∧ 1 < leNat v then (.range, s)
    else match r.write i v e s with
    | (.ok, t) =>
      if !r.persist || key == 0x400100 then (.ok, t)
      else if e.storeFail then
        (.persistFail, { t with boot := { t.boot with store0 := s.boot.store0, store1 := s.boot.store1 } })
      else (.ok, t.persist key v)
    | x => x

/-! What firmware does with the stored values at boot (R369, R379, R430). -/

/-- The stored values of the mapped bank. -/
def State.stored (s : State) : Sparse (List Byte) := if s.mappedBank = 0 then s.boot.store0 else s.boot.store1

/-- Values stored for objects that are applied otherwise: the regulatory profile, REGLOCK and the slot program (R56, R55,
R117). -/
def storedApart (key : Nat) : Bool := key == 0x201001 || key == 0x201002 || key == 0x400100

/-- RESTORE_DEFAULTS: every stored value but the profile and REGLOCK is erased, and the objects that the backup domain holds return to
their defaults (R379). -/
def State.restoreDefaults (s : State) : State :=
  let keep (st : Sparse (List Byte)) : Sparse (List Byte) := st.filter fun e => e.1 == 0x201001 || e.1 == 0x201002
  let s : State := { s with boot := { s.boot with store0 := keep s.boot.store0, store1 := keep s.boot.store1, restore := false } }
  let s := ((s.put RTC_UTCOFF_OFFSET 0).put RTC_UTCOFF_LEAP 18).trimWrite 0
  (List.range 4).foldl (fun (s : State) i => s.loadFields [RTC_CMP_COND i, RTC_CMP_RATE i, RTC_CMP_DEBOUNCE i, RTC_CMP_ERASE i, RTC_CMP_THR i] 0) s

/-- One stored value is put in force. A channel image names its owner itself. -/
def State.applyObject (s : State) (key : Nat) (v : List Byte) : State :=
  match findObj key with
  | none => s
  | some (r, i) =>
    let s := if r.key = 0x701100 then s.put (EVR_CFG_OWNER i) 2 else s
    if r.persist ∧ r.fits v then (r.write i v {} s).2 else s

/-- The HDP registers take the values of their objects (R379). -/
def State.applyPorts (s : State) : State :=
  let word (a v : Nat) (s : State) : State := (s.regWrite false false { addr := a, value := v }).1
  let num (key d : Nat) : Nat := s.objNumD key d
  let mac := leNat (s.kept 0x102303 (s.otpMac ++ [0, 0]))
  let s := word HDP_CTRL_SPI_EN.addr (num 0x102000 0x1F) s
  let s := word HDP_CANCFG_NOM.addr (num 0x102100 0x05000016) s
  let s := word HDP_UARTCFG_BAUD.addr (num 0x102200 115200) s
  let s := word HDP_IPADDR_ADDR.addr (num 0x102300 0x0A000002) s
  let s := word HDP_IPMASK_ADDR.addr (num 0x102301 0xFFFFFF00) s
  let s := word HDP_IPGW_ADDR.addr (num 0x102302 0) s
  let s := word HDP_MAC_H_MAC.addr (mac / 2 ^ 32) (word HDP_MAC_L_MAC.addr (mac % 2 ^ 32) s)
  let s := word HDP_UDPPORT_ODP_PORT.addr (num 0x102304 0xB893B892) s
  word HDP_KA_KA.addr (num 0x102400 1000) s

/-- R369: every stored value of a persistent object comes into force, with the defaults of the objects whose registers reset
to another value; the compatibility engine does not stand in the way of the registers (log entry 98). -/
def State.applyStored (s : State) : State :=
  let mode := s.mode
  let s := s.put PRC_MODE_MODE modeConc
  let s := if s.boot.glReason = 0 then s.flag GNS_CTRL_EN true else s
  let s := s.flag GNS_CTRL_STEER_EN true
  let s := (s.stored.filter fun e => !storedApart e.1).foldl (fun (s : State) e => s.applyObject e.1 e.2) s
  let s := s.applyPorts
  (if s.boot.glReason = 0 then s else s.flag GNS_CTRL_EN false).put PRC_MODE_MODE mode

end Sys2Proof.Machine
end

