-- ==== Sys2Proof/Machine/HostOps.lean ====
section
/-! DEFINITION. Frames of the dictionary protocol, their framings, and how an answer leaves on each transport (R358 to R365,
R370). -/
namespace Sys2Proof.Machine

/-- The codes of R370. -/
def OdpStatus.code : OdpStatus → Nat
  | .ok => 0 | .busy => 1 | .noObject => 2 | .access => 3 | .range => 4 | .length => 5 | .absent => 6 | .segment => 7
  | .opcode => 8 | .persistFail => 9 | .dataError => 10 | .claimLost => 11 | .notSuccessor => 12 | .appTimeout => 13
  | .mode => 14

def State.setHost (s : State) (h : HostPorts) : State := { s with host := h }

/-- A command of the ports begins: what the one before it sent is gone. -/
def State.hostStart (s : State) : State := s.setHost { s.host with sent := [], output := [] }

/-! Frames (R360). -/

/-- A frame's octets with their CRC, low byte first. -/
def withCrc (b : List Byte) : List Byte := b ++ leBytes 2 (crc16 b)

def odpFrame (opc tid : Nat) (payload : List Byte) : List Byte :=
  withCrc (leBytes 1 1 ++ leBytes 1 opc ++ leBytes 2 tid ++ leBytes 2 payload.length ++ payload)

/-- The CRC that ends `f` is right. -/
def crcHolds (f : List Byte) : Bool := leAt f (f.length - 2) 2 == crc16 (f.take (f.length - 2))

/-- Bytes of the frame whose first six bytes are those of `f`. -/
def odpLength (f : List Byte) : Nat := 8 + leAt f 4 2

/-- A frame has the right CRC and VER. -/
def odpSound (f : List Byte) : Bool := crcHolds f && leAt f 0 1 == 1

def odpOpc (f : List Byte) : Nat := leAt f 1 1
def odpTid (f : List Byte) : Nat := leAt f 2 2
def odpPayload (f : List Byte) : List Byte := (f.drop 6).take (leAt f 4 2)

/-- The whole frames at the front of a stream, and the bytes that remain; `head` bytes give a frame's length by `len`. Every
frame takes bytes, so `fuel` bounds their number. -/
def takeFrames (head : Nat) (len : List Byte → Nat) : Nat → List Byte → List (List Byte) × List Byte
  | 0, b => ([], b)
  | fuel + 1, b =>
    if b.length < head ∨ b.length < len b then ([], b)
    else
      let r := takeFrames head len fuel (b.drop (len b))
      (b.take (len b) :: r.1, r.2)

/-! CAN FD (R362) and UART (R364). -/

/-- The next valid data length of a CAN FD frame. -/
def canLength (n : Nat) : Nat := if n ≤ 8 then n else ([12, 16, 20, 24, 32, 48, 64].find? fun l => decide (n ≤ l)).getD 64

/-- The CAN frames that carry `f`: FD with up to 64 bytes, classical with up to 8; the last is padded with 0. -/
def canSegments (fd : Bool) (f : List Byte) : List (List Byte) :=
  let room := if fd then 63 else 7
  let n := divUp f.length room
  (List.range n).map fun i =>
    let d := leBytes 1 (128 * ofBool (i == 0) + 64 * ofBool (i + 1 == n) + i % 64) ++ (f.drop (room * i)).take room
    d ++ List.replicate (canLength d.length - d.length) 0

/-- A frame on the UART: 0x7E around it, 0x7E and 0x7D escaped. -/
def uartEscape (f : List Byte) : List Byte :=
  [0x7E] ++ (f.flatMap fun b => if b = 0x7E ∨ b = 0x7D then [0x7D, b ^^^ 0x20] else [b]) ++ [0x7E]

/-- What stands between two 0x7E without its escapes; none where a 0x7D has nothing after it. -/
def uartPlain : List Byte → Option (List Byte)
  | [] => some []
  | [0x7D] => none
  | 0x7D :: b :: bs => (uartPlain bs).map fun r => (b ^^^ 0x20) :: r
  | b :: bs => (uartPlain bs).map fun r => b :: r

/-! Ports (R358). -/

/-- The ports are served: by system firmware in a native mode, or by the ROM in Recovery; not in reset. -/
def State.portsServed (s : State) : Bool :=
  s.power.stretch.isEmpty && !s.boot.due && (s.mode == modeRecovery || (s.mode != modeCompat && s.boot.firmware))

/-- GPIO14 and GPIO15 carry the UART; otherwise its receive line idles, what it sends is lost, and it wakes nothing
(R476). -/
def State.uartWired (s : State) : Bool := s.get (PIN_CFG_FUNC 14) == 2 && s.get (PIN_CFG_FUNC 15) == 2

/-- The enable bit of transport `t`, and for the UART its balls. -/
def State.portEnabled (s : State) (t : Nat) : Bool :=
  match t with
  | 0 => s.on HDP_CTRL_SPI_EN
  | 1 => s.on HDP_CTRL_CAN_EN
  | 2 => s.on HDP_CTRL_ETH_EN
  | 3 => s.on HDP_CTRL_UART_EN && s.uartWired
  | _ => s.on HDP_CTRL_MESH_EN

/-- A port is live: enabled, served, powered; in Recovery the UART and the mesh have none (R440, R358); without
the reference the SPI slave and Ethernet alone serve (R459). -/
def State.portLive (s : State) (t : Nat) : Bool :=
  s.portsServed && s.portEnabled t && (s.power.state == .run || s.power.state == .doze) && !(s.mode == modeRecovery && 2 < t) &&
  !(s.refFailed && t != 0 && t != 2)

/-- Traffic on transport `t` meets a device that sleeps: the wake source of an enabled port (R454, by its bit of
PRC_WAKESRC: SPI, CAN, UART, Ethernet); the frame is lost. -/
def State.portWake (s : State) (t : Nat) : State :=
  let n := match t with
    | 0 => 0
    | 1 => 1
    | 2 => 3
    | _ => 2
  if (s.power.state = .sleep ∨ s.power.state = .deep) ∧ s.mode ≠ modeCompat ∧ s.portEnabled t = true then s.wakeRequest n else s

/-- nIRQ is driven low (R361): a channel has output. -/
def State.nirqLow (s : State) : Bool := !s.host.dictOut.isEmpty || !s.host.planeOut.isEmpty

/-- Frame `f` leaves for master `who`: into the output of SPI channel 0, as CAN segments, as a datagram, on the UART, or to
the mailbox as a reply to a mesh request. -/
def State.sendFrame (s : State) (who : HostId) (f : List Byte) : State :=
  let h := s.host
  s.setHost (match who.transport with
    | 0 => { h with dictOut := h.dictOut ++ f }
    | 1 => { h with sent := h.sent ++ (canSegments (s.on HDP_CANCFG_FD_EN) f).map fun x => (who, x) }
    | 2 => { h with sent := h.sent ++ [(who, f)] }
    | 3 => { h with sent := h.sent ++ (if s.uartWired then [(who, uartEscape f)] else []) }
    | _ => { h with replies := h.replies ++ [(who.addr % 65536, f)] })

/-- A response: the status and the payload are noted as the answer, and the frame leaves with bit 7 of OPC set (R360). -/
def State.respond (s : State) (who : HostId) (opc tid : Nat) (st : OdpStatus) (payload : List Byte) : State :=
  (s.setHost { s.host with result := st, output := payload }).sendFrame who (odpFrame (128 + opc % 128) tid payload)

/-- A BUSY answer is counted, and its HINT is 1 to 1 000 ms, a free value (R370, log entry 2). -/
def State.busyHint (s : State) : Nat × State :=
  let (v, s) := (s.bump HDP_CNT1_BUSY).drawFree
  (1 + v % 1000, s.setHost { s.host with busy := min (s.host.busy + 1) 0xFFFF })

end Sys2Proof.Machine
end

