-- ==== Sys2Proof/Machine/BootRom.lean ====
section
/-! DEFINITION. Boot: what the ROM does after a reset, the hand-over to system firmware and what firmware does first, and the
entry into Recovery (R28, R31, R352, R430 to R434). -/
namespace Sys2Proof.Machine

def State.setBoot (s : State) (b : Boot) : State := { s with boot := b }

/-! The journal scan (R350, R352). -/

/-- Record `slot` of a half. -/
def jnlRec (half : List Byte) (slot : Nat) : List Byte := bytesAt half (16 * slot) 16

def recType (r : List Byte) : Nat := leAt r 0 2
def recBlock (r : List Byte) : Nat := leAt r 2 1
def recCount (r : List Byte) : Nat := leAt r 4 4
def recSeq (r : List Byte) : Nat := leAt r 8 4
def recSound (r : List Byte) : Bool := decide (bytesAt r 12 4 = fcs32 (r.take 12))
def recFree (r : List Byte) : Bool := r.all (· == 0xFF)

/-- A half is valid: its snapshot and its HEAD stand with correct CRC. -/
def halfValid (half : List Byte) : Bool :=
  (List.range 64).all (fun b => let r := jnlRec half b; recSound r && recType r == 0x5A03 && recBlock r == b) &&
  (let r := jnlRec half 64; recSound r && recType r == 0x5A04)

/-- The records after the HEAD, up to the first free one. -/
def halfRecords (half : List Byte) : List (List Byte) :=
  (((List.range 1983).map fun i => jnlRec half (65 + i)).takeWhile fun r => !recFree r)

/-- One record of the scan acts on the counts and the SUSPECT flags of bank `k`. -/
def State.scanRecord (s : State) (k : Nat) (r : List Byte) : State :=
  let b := recBlock r
  if !recSound r ∨ 63 < b then s
  else if recType r = 0x5A01 then (s.put (ecnt k b) (recCount r)).setSuspect k b true
  else if recType r = 0x5A02 ∧ recCount r = s.get (ecnt k b) then s.setSuspect k b false
  else s

/-- The counts, flags and the next free record of bank `k` come from half `h`. -/
def State.scanHalf (s : State) (k h : Nat) (half : List Byte) : State :=
  let s := (List.range 64).foldl (fun (s : State) b =>
    let r := jnlRec half b
    (s.put (ecnt k b) (recCount r)).setSuspect k b (bit (leAt r 3 1) 0)) s
  let rs := halfRecords half
  let s := rs.foldl (fun (s : State) r => s.scanRecord k r) s
  let last := ((jnlRec half 64 :: rs).filter recSound).foldl (fun n r => max n (recSeq r)) 0
  ((s.put (jnlHalf k) h).put (jnlFree k) (1983 - rs.length)).setBank k { s.bank k with seq := last + 1 }

/-- The scan of bank `k`: the valid half with the higher HEAD SEQ; with neither, both are erased and H0 starts anew. -/
def State.scanBank (s : State) (k : Nat) : State :=
  let h0 := s.bytes (jnlAddr k 0 0) 0x8000
  let h1 := s.bytes (jnlAddr k 1 0) 0x8000
  let use1 := halfValid h1 && !(halfValid h0 && decide (recSeq (jnlRec h1 64) < recSeq (jnlRec h0 64)))
  if use1 then s.scanHalf k 1 h1
  else if halfValid h0 then s.scanHalf k 0 h0
  else (((s.jnlErase k 0).jnlErase k 1).jnlSnapshot k 0).flag FLC_STATUS_JNL_RESET true

/-! Which bank (R433, R434). -/

/-- The other bank is mapped. -/
def State.toggleSwap (s : State) : State := s.put FLC_OWNER_SWAP (1 - s.mappedBank)

/-- CORE0 of the other bank is valid. -/
def State.otherValid (s : State) : Bool := (s.imageCheck 1 true).isNone

/-- The mapped bank is on trial and FIRST = 0: the ROM goes back to the other bank if it can. -/
def State.revert (s : State) : State :=
  if !s.onTrial s.mappedBank then s
  else if s.otherValid then s.toggleSwap.flag BTU_BOOTSTAT_REVERTED true
  else s.flag BTU_BOOTSTAT_REVERT_FAIL true

/-- The mapping before step 5 of R430. -/
def State.mapBanks (s : State) : State :=
  if s.boot.cold then
    let s := s.put FLC_OWNER_SWAP s.confirmedBank
    let s := if s.onTrial (1 - s.mappedBank) then s.flag BTU_BOOTSTAT_REVERTED true else s
    s.revert
  else if s.on BTU_SWAP_REQ then (s.toggleSwap.flag BTU_SWAP_REQ false).flag BTU_SWAP_FIRST true
  else s.revert

/-- Step 5 of R430 with R431: the bank whose CORE0 boots; none where neither is valid. -/
def State.chooseBank (s : State) : Option State :=
  match s.imageCheck 1 false with
  | none => some (s.flag BTU_BOOTSTAT_TRIAL (s.on BTU_SWAP_FIRST))
  | some r =>
    let s := s.put BTU_BOOTSTAT_REASON_A r
    if s.otherValid then
      let s := (s.toggleSwap.flag BTU_BOOTSTAT_ALT_BANK true).flag BTU_SWAP_FIRST false
      some (if s.onTrial s.mappedBank then s.flag BTU_BOOTSTAT_REVERT_FAIL true else s)
    else none

/-! The profile (R54 to R56, R430 step 6). -/

/-- The hash that ends a profile image. -/
def profHash (img : List Byte) : List Byte := img.drop (32 + 48 * profBands img)

/-- The profile that the mapped bank stores, else the factory profile. -/
def State.storedProfile (s : State) : List Byte :=
  let img := Sparse.read [] s.stored 0x201001
  if img.isEmpty then factoryProfile else img

/-- REGLOCK is set in OTP (R423). -/
def State.regLocked (s : State) : Bool := s.otpNum 0x234 4 == 0x5A5A5A5A

/-- Step 6: the profile comes into force; with REGLOCK its hash must be the anchor's. -/
def State.bootProfile (s : State) : State :=
  let img := s.storedProfile
  if s.regLocked ∧ profHash img ≠ s.otp 0x23C 32 then
    (({ s with radio := { s.radio with profile := img, waiting := none } }).flag RFC_REGSTAT_PROFILE_VALID false).report 2 0x1F 0x28000234 0
  else s.installProfile img

/-! Recovery (R28, R431). -/

/-- The ROM stays in Recovery: it serves the download protocol, and no firmware starts. -/
def State.enterRecovery (s : State) : State :=
  let s := s.setBoot { s.boot with recoveryReq := false, firmware := false }
  ((s.put PRC_MODE_PREV s.mode).put PRC_MODE_MODE modeRecovery).raise 0

/-- The Auqueren root key is all 0 or all 1. -/
def State.rootBlank (s : State) : Bool := s.auquerenRoot.all (· == 0) || s.auquerenRoot.all (· == 0xFF)

/-! Hand-over (R430 step 7) and system firmware (step 8). -/

/-- ROM_OWN is cleared; E107 tells of SUSPECT blocks (R354), E0 of the reset; watchdog 0 runs (R460); core 0 goes to ENTRY
(log entry 99). -/
def State.handOver (s : State) (m : List Byte) : State :=
  let s := (s.wdtEnable 0).flag FLC_OWNER_ROM_OWN false
  let s := (s.raiseIf s.anySuspect 107).raise 0
  let d : Desc := { base := partAddr 1 + 2048, limit := manImageLen m - 1, attr := 0x3B }
  { s with core0 := { s.core0 with pc := BitVec.ofNat 32 (manEntry m), segs := d :: s.core0.segs.drop 1 } }

/-- R56: after a swap a staged regulatory certificate's profile, newer than the anchor, is in force. -/
def State.applyRegcert (s : State) : State :=
  let img := s.storedProfile
  if s.on BTU_BOOTSTAT_TRIAL ∧ s.regLocked = true ∧ !s.on RFC_REGSTAT_PROFILE_VALID ∧ (s.installed 5).isSome = true ∧
      s.otpNum 0x238 4 < profNum img 8 4 then
    ((s.setBytes 0x28000238 (leBytes 4 (profNum img 8 4) ++ profHash img)).installProfile img).raise 30
  else s

/-- R298: core 1 starts on a valid application: its grant windows, C1_ENTRY, RUN. -/
def State.startApp (s : State) : State :=
  let r := s.imageCheck 3 false
  let s := s.setBoot { s.boot with c1Reason := r.getD 0 }
  match r, s.manifest 3 false with
  | none, some m =>
    let gw := (List.range 8).map (manGrant m)
    let base := match gw.find? fun w => bit w.2.2 0 && bit w.2.2 3 with
      | some w => w.1
      | none => 0
    let entry : TWord := { tag := .code, data := BitVec.ofNat 32 (partAddr 3 + 2048 + manEntry m - base) }
    ({ s with core1 := { s.core1 with gw := gw, entry := entry } }).core1Start
  | _, _ => s

/-- R492: the transmitter and each receive half that the part has go to IDLE; the lanes rest. -/
def State.radioUp (s : State) : State :=
  let s := [Path.t, .a, .b].foldl (fun (s : State) p => if s.hasPath p then s.setPath p { s.path p with goal := some 1 } else s) s
  (List.range 128).foldl State.restLane s

/-- R31: a stored native Start mode is entered once; it waits for the end of a native unlock under way. -/
def State.applyStartMode (s : State) : State :=
  let m := s.objNumD 0x101000 0
  if m = modeCompat then s
  else if s.lgy.gone then s.setBoot { s.boot with startMode := some m }
  else if s.mode = modeCompat then s.lgyCleanup.enterMode m
  else if s.mode = m then s
  else s.enterMode m

/-- R117: a stored slot program is loaded, checked and armed. -/
def State.loadStoredProgram (s : State) : State :=
  let img := Sparse.read [] s.stored 0x400100
  if img.isEmpty ∨ s.mode = modeCompat then s
  else
    let s := s.after (execImageWrite 0 img)
    let s := ((s.after (execLoadProgram .core0)).after execLoadCheckDone)
    s.after execArmSwap

/-- R433: a trial boot reports TRIAL, and with a trial time of 0 confirms itself. -/
def State.startTrial (s : State) (otpFail : Bool) : State :=
  if !s.on BTU_BOOTSTAT_TRIAL then s
  else
    let s := s.setUpd { state := 4 }
    if s.objNumD 0xA03003 600 = 0 then s.confirm otpFail else s

/-- Step 8 of R430. -/
def State.startFirmware (s : State) (otpFail : Bool) : State :=
  let s := if s.boot.restore then s.restoreDefaults else s
  let s := s.setBoot { s.boot with glReason := (s.imageCheck 2 false).getD 0 }
  let s := (s.applyRegcert.applyStored).startApp
  let s := s.setBoot { s.boot with measured := [1, 2, 3, 4, 5].map s.measure, firmware := true }
  let s := (s.holdRelease.radioUp).lgyRelease
  (s.applyStartMode.loadStoredProgram).startTrial otpFail

/-- Steps 2 to 4 of R430: the OTP records, the release of the compatibility engine, the journals. -/
def State.romStart (s : State) : State :=
  let s := s.setBoot { s.boot with due := false }
  let s := s.otpDefaults
  let s := if s.identityOk then s else s.report 2 0x1F 0x28000000 0
  let s := ((s.flag RFC_REGSTAT_REGLOCK s.regLocked).lgyFlag 44).loadCounters
  (s.scanBank 0).scanBank 1

/-- Steps 5 to 8 of R430 with the outcomes of R431. -/
def State.romBoot (s : State) (otpFail : Bool) : State :=
  let s := s.mapBanks
  if s.rootBlank then (s.flag BTU_BOOTSTAT_OTP_FAULT true).enterRecovery
  else match s.chooseBank with
    | none => s.enterRecovery
    | some s =>
      let s := s.bootProfile
      if s.boot.recoveryReq then s.enterRecovery
      else match s.manifest 1 false with
        | none => s.enterRecovery
        | some m => (s.handOver m).startFirmware otpFail

end Sys2Proof.Machine
end

