-- ==== Sys2Proof/Machine/HostServe.lean ====
section
/-! DEFINITION. The service of the dictionary protocol: Recovery, ownership, reads, writes and their segments, application
objects, and the arrival of frames (R365 to R375, R440). -/
namespace Sys2Proof.Machine

/-! Answers (R366, R370). -/

/-- The payload of a write that was done. -/
def okBody : List Byte := [0, 0, 0, 0]

/-- A request of `who` with opcode `opc` is answered: `body` where it was done, else the status with its HINT. -/
def State.odpAnswer (s : State) (who : HostId) (opc tid : Nat) (st : OdpStatus) (body : List Byte := okBody) : State :=
  match st with
  | .ok => s.respond who opc tid .ok body
  | .busy =>
    let (hint, s) := s.busyHint
    s.respond who opc tid .busy ([1, 0] ++ leBytes 2 hint)
  | e => s.respond who opc tid e (leBytes 1 e.code ++ [0, 0, 0])

/-! Recovery (R440). `who` is none for a reader in the tag field. -/

/-- A Recovery request's answer: STATUS, REASON, and what R_INFO adds (log entry 100). -/
structure RecAnswer where
  status : OdpStatus
  reason : Nat := 0
  extra : List Byte := []

def State.setSession (s : State) (r : Option RecSession) : State := s.setBoot { s.boot with session := r }

/-- R_END: the whole package is checked, staged, and its entry requested; the reason is 0 where it is STAGED. -/
def State.recEnd (s : State) (r : RecSession) (flashFail : Bool) : Nat × State :=
  if r.bytes.length ≠ r.total then (updFormat, s)
  else match s.pkgCheck r.bytes true with
    | some e => (e, s)
    | none =>
      if !((pkgEntries r.bytes).any fun e => entComponent e == 1) then (updAbsent, s)
      else
        let s := ((s.setUpd { state := 1, bytes := r.bytes }).pkgAdvance true flashFail).stageEnd
        if s.boot.upd.state = 3 then (0, s.swapRequest) else (s.boot.upd.reason, s)

/-- One Recovery request with payload `p`. -/
def State.recServe (s : State) (who : Option HostId) (opc : Nat) (p : List Byte) (e : HostEnv) : RecAnswer × State :=
  if s.boot.session.any fun r => decide (r.holder ≠ who) then ({ status := .busy }, s)
  else match opc with
  | 0x40 =>
    if p ≠ [] then ({ status := .opcode }, s)
    else ({ status := .ok, extra := leBytes 4 (s.regWord BTU_BOOTSTAT_TRIAL.addr) ++ (counterRegs.flatMap fun f => leBytes 1 (s.get f)) ++
              s.otp 0x230 4 ++ s.serial }, s)
  | 0x41 =>
    if p.length ≠ 4 then ({ status := .opcode }, s)
    else if s.on BTU_BOOTSTAT_OTP_FAULT then ({ status := .access, reason := updSignature }, s)
    else ({ status := .ok }, s.setSession (some { holder := who, total := leNat p }))
  | 0x42 =>
    if p.length < 5 ∨ 1024 < p.length then ({ status := .opcode }, s)
    else match s.boot.session with
      | none => ({ status := .access }, s)
      | some r =>
        if e.dict.writing then ({ status := .busy }, s)
        else if leAt p 0 4 ≠ r.bytes.length then ({ status := .range, reason := updSequence }, s)
        else if r.total < r.bytes.length + (p.length - 4) then ({ status := .range, reason := updSize }, s)
        else ({ status := .ok }, s.setSession (some { r with bytes := r.bytes ++ p.drop 4 }))
  | 0x43 =>
    if p ≠ [] then ({ status := .opcode }, s)
    else match s.boot.session with
      | none => ({ status := .access }, s)
      | some r =>
        let (reason, s) := s.recEnd r e.dict.flashFail
        ({ status := if reason = 0 then .ok else .range, reason := reason }, s)
  | 0x44 =>
    if p ≠ [] then ({ status := .opcode }, s)
    else ({ status := .ok }, (s.setSession none).requestReset 0x06)
  | _ => ({ status := .opcode }, s)

/-- The payload of a Recovery answer, with a HINT where it says BUSY. -/
def State.recPayload (s : State) (a : RecAnswer) : List Byte × State :=
  let (hint, s) := if a.status = .busy then s.busyHint else (0, s)
  (leBytes 1 a.status.code ++ leBytes 1 a.reason ++ leBytes 2 hint ++ a.extra, s)

/-- A Recovery request on a host port. -/
def State.recRequest (s : State) (who : HostId) (opc tid : Nat) (p : List Byte) (e : HostEnv) : State :=
  let (a, s) := s.recServe (some who) opc p e
  let (b, s) := s.recPayload a
  s.respond who opc tid a.status b

/-! Ownership (R375). -/

/-- The owner, where there is one. -/
def Ownership.owner? : Ownership → Option Claim
  | .owned c => some c
  | .handover c _ _ => some c
  | _ => none

/-- Master `who` owns the device (R368: its transport and address). -/
def State.owns (s : State) (who : HostId) : Bool := s.host.owner.owner?.any fun c => decide (c.who = who)

/-- Nobody owns or claims the device. -/
def State.ownerFree (s : State) : Bool := decide (s.host.owner = .free)

/-- A lower PRIORITY is better, then a lower NONCE. -/
def better (a b : Claim) : Bool := decide (a.prio < b.prio) || (decide (a.prio = b.prio) && decide (a.nonce < b.nonce))

def State.setOwnership (s : State) (o : Ownership) : State := s.setHost { s.host with owner := o }

/-- The owner's identity: its transport, address and nonce. -/
def State.isOwner (s : State) (who : HostId) (nonce : Nat) : Bool :=
  s.host.owner.owner?.any fun c => decide (c.who = who) && decide (c.nonce = nonce)

/-- The ownership passes to `c`, or to nobody: E112; the stagings of the old owner are discarded (R371); without an owner an
update that is not STAGED ends (R438). -/
def State.passOwner (s : State) (c : Option Claim) : State :=
  let old := s.host.owner.owner?.map Claim.who
  let h := { s.host with stagings := s.host.stagings.filter fun g => decide (some g.who ≠ old), alive := s.clock }
  let s := (s.setHost { h with owner := match c with
    | some c => .owned c
    | none => .free }).raise 112
  if c.isNone ∧ (s.boot.upd.state = 1 ∨ s.boot.upd.state = 2) then s.updAbort else s

/-- A CLAIM. -/
def State.claim (s : State) (c : Claim) : State :=
  match s.host.owner with
  | .free => s.setOwnership (.claiming c)
  | .claiming d =>
    if d.who = c.who then s.setOwnership (.claiming c)
    else if better c d then (s.setOwnership (.claiming c)).odpAnswer d.who 0x10 d.tid .claimLost
    else s.odpAnswer c.who 0x10 c.tid .claimLost
  | .owned d =>
    if d.who = c.who then
      (s.setHost { s.host with owner := .owned c, alive := s.clock }).odpAnswer c.who 0x10 c.tid .ok
    else s.odpAnswer c.who 0x10 c.tid .claimLost
  | .handover _ next nonce =>
    if c.who = next ∧ c.nonce = nonce then (s.passOwner (some c)).odpAnswer c.who 0x10 c.tid .ok
    else s.odpAnswer c.who 0x10 c.tid .notSuccessor

/-- The payload of OWNER. -/
def State.ownerBody (s : State) : List Byte :=
  let view := s.hdpView
  let n (f : RegField) : Nat := ((view.find? fun x => decide (x.1 = f)).map fun x => x.2).getD 0
  let addr := ((s.host.owner.owner?).map fun c => c.who.addr).getD 0
  let age := if s.host.owner.owner?.isSome then (s.clock - s.host.alive) / 100000 else 0
  [0] ++ leBytes 1 (n HDP_STATUS_OWN_STATE) ++ leBytes 1 (n HDP_STATUS_OWN_TRANSPORT) ++ leBytes 1 (n HDP_STATUS_OWN_PRIO) ++
    leBytes 8 addr ++ leBytes 4 age

/-- The opcodes 0x10 to 0x14. -/
def State.ownership (s : State) (who : HostId) (opc tid : Nat) (p : List Byte) : State :=
  let bad := s.odpAnswer who opc tid .opcode
  match opc with
  | 0x10 =>
    if p.length ≠ 8 ∨ !zeroAt p 1 3 then bad
    else s.claim { who := who, prio := leAt p 0 1, nonce := leAt p 4 4, tid := tid }
  | 0x11 =>
    if p.length ≠ 4 then bad
    else if s.isOwner who (leNat p) then (s.setHost { s.host with alive := s.clock }).odpAnswer who opc tid .ok
    else s.odpAnswer who opc tid .access
  | 0x12 =>
    if p.length ≠ 4 then bad
    else if s.isOwner who (leNat p) then (s.passOwner none).odpAnswer who opc tid .ok
    else s.odpAnswer who opc tid .access
  | 0x13 =>
    if p.length ≠ 20 ∨ !zeroAt p 5 3 then bad
    else if !s.isOwner who (leAt p 0 4) then s.odpAnswer who opc tid .access
    else if 4 < leAt p 4 1 then s.odpAnswer who opc tid .range
    else match s.host.owner.owner? with
      | some c =>
        (s.setOwnership (.handover c { transport := leAt p 4 1, addr := leAt p 8 8 } (leAt p 16 4))).odpAnswer who opc tid .ok
      | none => s.odpAnswer who opc tid .access
  | _ => if p ≠ [] then bad else s.odpAnswer who opc tid .ok s.ownerBody

/-! Objects (R366 to R372). -/

/-- MAXSEG. -/
def maxSeg (who : HostId) : Nat := if who.transport = 4 then 160 else 1024

/-- Index and sub-index of a request as an object's key. -/
def reqKey (p : List Byte) : Nat := 256 * leAt p 0 2 + leAt p 2 1

/-- The answer with the part of `data` from `off`. -/
def readBody (who : HostId) (key off : Nat) (data : List Byte) : List Byte :=
  let part := (data.drop off).take (maxSeg who)
  let type := ((findObj key).map fun r => r.1.type.code).getD 0
  [0] ++ leBytes 1 type ++ leBytes 1 (ofBool (decide (off + part.length < data.length))) ++ [0] ++ leBytes 4 data.length ++ part

/-- The snapshot of `who` for `key` is released. -/
def State.dropSnapshot (s : State) (who : HostId) (key : Nat) : State :=
  s.setHost { s.host with snapshots := s.host.snapshots.filter fun x => !(decide (x.who = who) && x.key == key) }

/-- The staging of `who` for `key` is discarded. -/
def State.dropStaging (s : State) (who : HostId) (key : Nat) : State :=
  s.setHost { s.host with stagings := s.host.stagings.filter fun x => !(decide (x.who = who) && x.key == key) }

/-- READ: a snapshot, and its first segment. -/
def State.odpReadObj (s : State) (who : HostId) (tid key : Nat) : State :=
  match s.objRead key with
  | (.ok, v, t) =>
    let s0 := s.dropSnapshot who key
    if 4 ≤ s0.host.snapshots.length then s.odpAnswer who 1 tid .busy
    else
      let t := t.dropSnapshot who key
      let keep := maxSeg who < v.length
      let t := if keep then t.setHost { t.host with snapshots := t.host.snapshots ++ [{ who := who, key := key, data := v }] } else t
      t.odpAnswer who 1 tid .ok (readBody who key 0 v)
  | (st, _, _) => s.odpAnswer who 1 tid st

/-- READ_SEG. -/
def State.odpReadSegObj (s : State) (who : HostId) (tid key off : Nat) : State :=
  match s.host.snapshots.find? fun x => decide (x.who = who) && x.key == key with
  | none => s.odpAnswer who 3 tid .segment
  | some x =>
    if x.data.length ≤ off then s.odpAnswer who 3 tid .segment
    else
      let s := if x.data.length ≤ off + maxSeg who then s.dropSnapshot who key else s
      s.odpAnswer who 3 tid .ok (readBody who key off x.data)

/-- A whole value is written, and answered under opcode `opc`. -/
def State.odpWriteObj (s : State) (who : HostId) (opc tid key : Nat) (v : List Byte) (e : HostEnv) : State :=
  let (st, t) := s.objWrite key v (s.owns who) s.ownerFree e.dict
  t.odpAnswer who opc tid st

/-- A segment out of its sequence discards the staging. -/
def State.segFail (s : State) (who : HostId) (tid key : Nat) : State := (s.dropStaging who key).odpAnswer who 4 tid .segment

/-- A segment `d` at `off` has joined its staging, which now holds `v` of `total` bytes; the last one writes the value. -/
def State.segJoined (s : State) (who : HostId) (tid key off total : Nat) (last : Bool) (d v : List Byte) (e : HostEnv) : State :=
  if total < v.length ∨ (last = true ∧ v.length ≠ total) then s.segFail who tid key
  else if last then (s.dropStaging who key).odpWriteObj who 4 tid key v e
  else
    let s := s.dropStaging who key
    (s.setHost { s.host with stagings := s.host.stagings ++
      [{ who := who, key := key, total := total, data := v, last := (off, d.length) }] }).odpAnswer who 4 tid .ok

/-- WRITE_SEG (R371). -/
def State.odpWriteSegObj (s : State) (who : HostId) (tid key sflags off total : Nat) (data : List Byte) (e : HostEnv) : State :=
  let last := bit sflags 1
  match findObj key with
  | none => s.odpAnswer who 4 tid .noObject
  | some (r, _) =>
    if bit sflags 0 then
      if off ≠ 0 then s.segFail who tid key
      else if r.sizes.2 < total then s.odpAnswer who 4 tid .length
      else s.segJoined who tid key off total last data data e
    else match s.host.stagings.find? fun x => decide (x.who = who) && x.key == key with
      | none => s.odpAnswer who 4 tid .segment
      | some g =>
        if total ≠ g.total then s.segFail who tid key
        else if off = g.data.length then s.segJoined who tid key off g.total last data (g.data ++ data) e
        else if (off, data.length) = g.last then s.odpAnswer who 4 tid .ok
        else s.segFail who tid key

/-- INFO. -/
def infoBody (r : ObjRow) : List Byte :=
  [0] ++ leBytes 1 r.type.code ++ leBytes 1 r.access.code ++ leBytes 1 (ofBool r.persist) ++ leBytes 4 r.sizes.2

/-! Application objects (R365). -/

/-- The mailbox: the start of a valid grant window 7 with room for it in SRAM. -/
def State.mailbox (s : State) : Option Nat :=
  let w := s.core1.gw.getD 7 (0, 0, 0)
  if bit w.2.2 0 && 4095 ≤ w.2.1 && ((inSys w.1 && inSys (w.1 + 4095)) || (inPacket w.1 && inPacket (w.1 + 4095))) then some w.1 else none

/-- A request for index 0xC000 to 0xCFFF waits for core 1; without a mailbox there is no such object. -/
def State.appRequest (s : State) (who : HostId) (opc tid : Nat) (f : List Byte) : State :=
  match s.mailbox with
  | none => s.odpAnswer who opc tid .noObject
  | some _ => s.setHost { s.host with apps := s.host.apps ++ [{ who := who, tid := tid, opc := opc, frame := f }] }

/-! Service (R366, R373). -/

/-- The payload of an object request is well formed. -/
def objFormed (who : HostId) (opc : Nat) (p : List Byte) : Bool :=
  match opc with
  | 1 => p.length == 4 && zeroAt p 3 1
  | 2 => 4 ≤ p.length && p.length ≤ 4 + maxSeg who && zeroAt p 3 1
  | 3 => p.length == 8 && zeroAt p 3 1
  | 4 => 12 ≤ p.length && p.length ≤ 12 + maxSeg who && leAt p 3 1 < 4
  | 5 => p.length == 4 && zeroAt p 3 1
  | 0x20 => decide (p = leBytes 4 0x5245434F)
  | _ => false

/-- A request that has left the queue. -/
def State.odpServe (s : State) (who : HostId) (opc tid : Nat) (p f : List Byte) (e : HostEnv) : State :=
  let key := reqKey p
  if !objFormed who opc p then s.odpAnswer who opc tid .opcode
  else if opc ≤ 5 ∧ 0xC00000 ≤ key ∧ key < 0xD00000 then s.appRequest who opc tid f
  else match opc with
  | 1 => s.odpReadObj who tid key
  | 2 => s.odpWriteObj who 2 tid key (p.drop 4) e
  | 3 => s.odpReadSegObj who tid key (leAt p 4 4)
  | 4 => s.odpWriteSegObj who tid key (leAt p 3 1) (leAt p 4 4) (leAt p 8 4) (p.drop 12) e
  | 5 => match findObj key with
    | none => s.odpAnswer who 5 tid .noObject
    | some (r, _) => s.odpAnswer who 5 tid .ok (infoBody r)
  | _ => (s.odpAnswer who opc tid .ok).requestRecovery

/-- A request arrives: in Recovery the ROM serves it; else ownership opcodes pass the queue, and a request that finds 32
queued is answered BUSY with E114. -/
def State.odpRequest (s : State) (who : HostId) (opc tid : Nat) (p f : List Byte) (e : HostEnv) : State :=
  if s.mode = modeRecovery then s.recRequest who opc tid p e
  else
    let s := s.put HDP_STATUS_QLEVEL (min e.load 32)
    if 0x10 ≤ opc ∧ opc ≤ 0x14 then s.ownership who opc tid p
    else if 32 ≤ e.load then (s.raise 114).odpAnswer who opc tid .busy
    else if 1400 < p.length then s.odpAnswer who opc tid .opcode
    else s.odpServe who opc tid p f e

/-- A whole frame has arrived (R360). -/
def State.frameIn (s : State) (who : HostId) (f : List Byte) (e : HostEnv) : State :=
  if !odpSound f then s.bump HDP_CNT0_CRC_ERR
  else (s.bump HDP_CNT0_ACCEPTED).odpRequest who (odpOpc f) (odpTid f) (odpPayload f) f e

/-- A request of master `who`, as a frame of its port. -/
def State.odpFrom (s : State) (who : HostId) (opc tid : Nat) (p : List Byte) (e : HostEnv) : State :=
  let s := s.hostStart
  if s.portLive who.transport then (s.bump HDP_CNT0_ACCEPTED).odpRequest who opc tid p (odpFrame opc tid p) e
  else s.portWake who.transport

end Sys2Proof.Machine
end

