-- ==== Sys2Proof/Machine/Boot.lean ====
section
/-! DEFINITION. The commands of boot, update, attestation and Recovery (spec/18_boot_identity_update.md). -/
namespace Sys2Proof.Machine

/-- R430 to R434, R352, R31: the boot that follows the release of a reset; without one nothing boots. -/
def execBootRom (otpFail : Bool) (s : State) : Host.Outcome State Fault Refusal :=
  goOn (if s.boot.due then s.romStart.romBoot otpFail else s)

/-- The answer of a write is noted. -/
def State.answerWritten (w : Written) : State := w.2.answer w.1

/-- R55: the owner writes object 0x2010.04. -/
def execRegCertWrite (cert : List Byte) (s : State) : Host.Outcome State Fault Refusal := goOn (State.answerWritten (s.regCert cert))

/-! Update (R438, R433). -/

def execUpdBegin (env : DictEnv) (s : State) : Host.Outcome State Fault Refusal := goOn (State.answerWritten (s.updCommand 1 env))

/-- R435 to R438: OFFSET and 1 to 1 020 bytes of the package. -/
def execUpdateData (offset : Word) (data : List Byte) (env : DictEnv) (s : State) : Host.Outcome State Fault Refusal :=
  goOn (if data.length = 0 ∨ 1020 < data.length then s.answer .length
    else State.answerWritten (s.updChunk (leBytes 4 offset.toNat ++ data) env))

/-- R438: with all bodies staged the TRIAL marker is written. -/
def execUpdateStaged (s : State) : Host.Outcome State Fault Refusal := goOn s.stageEnd

def execUpdCommit (env : DictEnv) (s : State) : Host.Outcome State Fault Refusal := goOn (State.answerWritten (s.updCommand 2 env))

def execUpdateAbort (env : DictEnv) (s : State) : Host.Outcome State Fault Refusal := goOn (State.answerWritten (s.updCommand 3 env))

/-- R432, R433. -/
def execUpdConfirm (env : DictEnv) (s : State) : Host.Outcome State Fault Refusal := goOn (State.answerWritten (s.updCommand 4 env))

/-- R433: the trial time expires. -/
def execTrialTimeout (s : State) : Host.Outcome State Fault Refusal :=
  goOn (if s.boot.upd.state = 4 then s.requestReset 0x06 else s)

/-- R433, R444: a write of REQ. -/
def execSwapRequest (s : State) : Host.Outcome State Fault Refusal := goOn s.swapRequest

/-- R439: a nonce of 1 to 32 bytes. -/
def execAttestationNonce (nonce : List Byte) (s : State) : Host.Outcome State Fault Refusal :=
  goOn (if nonce.length = 0 ∨ 32 < nonce.length then s.answer .length else State.answerWritten (s.nonceWrite nonce))

/-- R445: the customer root key, 64 bytes. -/
def execCustomerRootKeyWrite (key : List Byte) (env : DictEnv) (s : State) : Host.Outcome State Fault Refusal :=
  goOn (if key.length ≠ 64 then s.answer .length else State.answerWritten (s.rootKeyWrite key env))

/-! Recovery (R440). -/

/-- A Recovery request: on a host port a frame; from a reader custom command 0xC0 + opcode − 0x40, which carries at most 128
data bytes, finds a full buffer BUSY, and is known in Recovery alone (R404). -/
def State.recFrom (s : State) (who : Peer) (opc : Nat) (p : List Byte) (e : HostEnv) : State :=
  match who with
  | .host id tid => s.odpFrom id opc tid p e
  | .field req => s.tagServe req fun s =>
    if s.mode ≠ modeRecovery ∨ !s.portsServed ∨ !s.tagPowered then s.tagError 0x01
    else if opc = 0x42 ∧ 132 < p.length then s.tagError 0x02
    else if opc = 0x42 ∧ e.dict.writing = true then s.tagError 0xA3
    else
      let (a, s) := s.recServe none opc p e
      let (b, s) := s.recPayload a
      s.tagAnswer b

def execRInfo (who : Peer) (env : HostEnv) (s : State) : Host.Outcome State Fault Refusal := goOn (s.recFrom who 0x40 [] env)

def execRBegin (who : Peer) (total : Word) (env : HostEnv) (s : State) : Host.Outcome State Fault Refusal :=
  goOn (s.recFrom who 0x41 (leBytes 4 total.toNat) env)

def execRData (who : Peer) (offset : Word) (data : List Byte) (env : HostEnv) (s : State) : Host.Outcome State Fault Refusal :=
  goOn (s.recFrom who 0x42 (leBytes 4 offset.toNat ++ data) env)

def execREnd (who : Peer) (env : HostEnv) (s : State) : Host.Outcome State Fault Refusal := goOn (s.recFrom who 0x43 [] env)

def execRBoot (who : Peer) (env : HostEnv) (s : State) : Host.Outcome State Fault Refusal := goOn (s.recFrom who 0x44 [] env)

/-- R440: 10 s without a request end the session. -/
def execRecoverySessionTimeout (s : State) : Host.Outcome State Fault Refusal := goOn (s.setSession none)

end Sys2Proof.Machine
end

