-- ==== Sys2Proof/Machine/HostPlane.lean ====
section
/-! DEFINITION. The frame data plane (R376 to R378). -/
namespace Sys2Proof.Machine

/-- A plane frame (R378). -/
def planeFrame (kind flags seq : Nat) (body : List Byte) : List Byte :=
  withCrc (leBytes 1 kind ++ leBytes 1 flags ++ leBytes 2 body.length ++ leBytes 4 seq ++ body)

/-- Bytes of the plane frame whose first eight bytes are those of `f`. -/
def planeLength (f : List Byte) : Nat := 10 + leAt f 2 2

/-- An Ethernet master's address with another port. -/
def withPort (addr port : Nat) : Nat := addr % 2 ^ 32 + port * 2 ^ 32

/-- The parts of a body on Ethernet, each of a frame of at most 1 472 bytes. -/
def planeParts (body : List Byte) : List (List Byte) :=
  (List.range (max 1 (divUp body.length 1462))).map fun i => (body.drop (1462 * i)).take 1462

/-- The frames that carry a body with sequence number `seq`: one on SPI, parts with CONT and MORE on Ethernet. -/
def planeFrames (transport kind seq : Nat) (body : List Byte) : List (List Byte) :=
  if transport = 0 then [planeFrame kind 0 seq body]
  else
    let ps := planeParts body
    ps.zipIdx.map fun x => planeFrame kind (ofBool (x.2 != 0) + 2 * ofBool (x.2 + 1 != ps.length)) seq x.1

/-- Sink `who` has room for a body: output space on SPI channel 1, a link on Ethernet. -/
def State.planeRoom (s : State) (who : HostId) (body : List Byte) : Bool :=
  s.portLive who.transport &&
  (if who.transport = 0 then decide (s.host.planeOut.length + body.length + 10 ≤ 32768) else s.on HDP_STATUS_ETH_LINK)

/-- A body is streamed to `who`. -/
def State.planeSend (s : State) (who : HostId) (kind : Nat) (body : List Byte) : State :=
  let h := s.host
  let fs := planeFrames who.transport kind h.planeSeq body
  let h := { h with planeSeq := (h.planeSeq + 1) % 2 ^ 32 }
  s.setHost (if who.transport = 0 then { h with planeOut := h.planeOut ++ fs.flatten }
    else { h with sent := h.sent ++ fs.map fun f => (who, f) })

/-- PLANE_ERROR. -/
def State.planeError (s : State) (who : HostId) (handle : Nat) (st : OdpStatus) : State :=
  (s.setHost { s.host with result := st }).planeSend who 4 (leBytes 2 handle ++ leBytes 1 st.code ++ [0])

/-- The sink of object 0x4030.00; none with OWNER selected and no owner on SPI or Ethernet. -/
def State.planeSink (s : State) : Option HostId :=
  let sel := s.objNumD 0x403000 0
  let port := s.get HDP_UDPPORT_PLANE_PORT
  if sel = 1 then some { transport := 0 }
  else if sel = 2 then some { transport := 2, addr := s.objNumD 0x403001 0 }
  else match s.host.owner.owner? with
    | some c =>
      if c.who.transport = 0 then some { transport := 0 }
      else if c.who.transport = 2 then some { transport := 2, addr := withPort c.who.addr port }
      else none
    | none => none

/-- The sink has no room: E118 once until room returns. -/
def State.planeStall (s : State) : State :=
  if s.host.stalled then s else (s.setHost { s.host with stalled := true }).raise 118

/-- One entry of the delivery queue goes to the sink (R376). -/
def State.planeDeliver (s : State) : State :=
  match s.planeSink with
  | none => s
  | some who =>
    let rd := s.get MAC_DQ_RD
    let d := s.bytes (descAddr rd) 32
    let data := s.desc rd 4 4
    let len := s.desc rd 0 2
    let next := (rd + 1) % s.get MAC_FBCFG_DQ_SIZE
    let body := (d.take 4 ++ leBytes 4 0 ++ d.drop 8) ++ s.bytes data len
    if !s.planeRoom who body then s.planeStall
    else
      let s := s.setHost { s.host with stalled := false }
      if s.poisonedIn data len then (s.after (execDqRelease next)).planeError who 0xFFFF .dataError
      else (s.planeSend who 1 body).after (execDqRelease next)

/-- Core 0 consumes the delivery queue and has an entry. -/
def State.deliverable (s : State) : Bool :=
  s.portsServed && s.mode != modeRecovery && s.on MAC_CTRL_DELIVER_TO && s.dqLevel != 0

/-- The master of a plane frame owns the device: on Ethernet whatever its port. -/
def State.planeOwns (s : State) (who : HostId) : Bool :=
  s.host.owner.owner?.any fun c => c.who.transport == who.transport &&
    (who.transport == 0 || c.who.addr % 2 ^ 32 == who.addr % 2 ^ 32)

/-- Plane descriptors in use. -/
def State.planeUsed (s : State) (i : Nat) : Bool := s.host.submits.any fun e => e.1 == i

/-- The data area of plane descriptor `i`: 32 blocks at the top of the transmit blocks. -/
def planeArea (i : Nat) : Nat := 0x24090000 - 2048 * (4096 - i)

/-- TX_SUBMIT with body `b` from `who` (R377). -/
def State.planeSubmit (s : State) (who : HostId) (b : List Byte) : State :=
  let n := s.objNumD 0x403002 32
  let handle := leAt b 12 2
  if !s.planeOwns who then s.planeError who handle .access
  else if b.length < 16 ∨ b.length ≠ 16 + leAt b 0 2 ∨ 2048 < leAt b 0 2 then s.planeError who handle .length
  else match (List.range n).find? fun k => !s.planeUsed (4096 - n + k) with
    | none =>
      let (_, s) := s.busyHint
      s.planeError who handle .busy
    | some k =>
      let i := 4096 - n + k
      let s := s.setHost { s.host with submits := Sparse.write none s.host.submits i (some who) }
      let s := (s.devWrite (planeArea i) (b.drop 16)).devWrite (descAddr i)
        (b.take 4 ++ leBytes 4 (planeArea i) ++ bytesAt b 8 6 ++ List.replicate 18 0)
      s.after (execTxPush (Fin.ofNat 4096 i))

/-- The oldest completion is of a plane descriptor: TX_COMPLETE goes to its submitter, and the descriptor is free. -/
def State.planeComplete (s : State) : State :=
  match s.mac.txDone with
  | [] => s
  | i :: _ =>
    match Sparse.read none s.host.submits i with
    | none => s
    | some who =>
      let body := s.bytes (descAddr i + 12) 20
      if !s.planeRoom who body then s.planeStall
      else
        let s := s.after execTxDonePop
        let s := s.setHost { s.host with submits := s.host.submits.erase i, stalled := false }
        s.planeSend who 3 body

/-- A whole plane frame arrives from `who`. -/
def State.planeIn (s : State) (who : HostId) (f : List Byte) : State :=
  if s.mode = modeRecovery then s.bump HDP_CNT1_DISCARD
  else if !crcHolds f then s.bump HDP_CNT0_CRC_ERR
  else
    let s := s.bump HDP_CNT0_ACCEPTED
    if leAt f 0 1 = 2 ∧ leAt f 1 1 = 0 then s.planeSubmit who ((f.drop 8).take (leAt f 2 2)) else s.bump HDP_CNT1_DISCARD

end Sys2Proof.Machine
end

