-- ==== Sys2Proof/Machine/Host.lean ====
section
/-! DEFINITION. The commands of the host ports, the dictionary service, the ownership and the data plane
(spec/15_host_dictionary.md). -/
namespace Sys2Proof.Machine

/-! SPI (R361). -/

/-- AVAIL: the bytes that the output of a channel holds; what core 0 has not yet moved there waits. -/
def State.spiAvail (s : State) (plane : Bool) : Nat :=
  if plane then min 32768 s.host.planeOut.length else min 4096 s.host.dictOut.length

/-- FLAGS of the header. -/
def State.spiFlags (s : State) : Nat :=
  ofBool (s.spiAvail false != 0) + 2 * ofBool (s.spiAvail true != 0) + 4 * ofBool (decide (s.host.dictIn.length + 1408 ≤ 4096)) +
    8 * ofBool (decide (s.host.planeIn.length + 2112 ≤ 4096)) + 16 * ofBool s.host.lastDiscard

/-- `n` bytes leave the output of a channel. -/
def State.spiTake (s : State) (plane : Bool) (n : Nat) : State :=
  s.setHost (if plane then { s.host with planeOut := s.host.planeOut.drop n } else { s.host with dictOut := s.host.dictOut.drop n })

/-- The input of a channel becomes `b`. -/
def State.spiInput (s : State) (plane : Bool) (b : List Byte) : State :=
  s.setHost (if plane then { s.host with planeIn := b } else { s.host with dictIn := b })

/-- Whole frames at the front of a channel's input are served. -/
def State.spiServe (s : State) (plane : Bool) (e : HostEnv) : State :=
  let who : HostId := { transport := 0 }
  let b := if plane then s.host.planeIn else s.host.dictIn
  let (fs, rest) := if plane then takeFrames 8 planeLength b.length b else takeFrames 6 odpLength b.length b
  fs.foldl (fun (s : State) f => if plane then s.planeIn who f else s.frameIn who f e) (s.spiInput plane rest)

/-- A transaction with a whole header: `data` follows it, and `n` output bytes leave (a partial byte loses one more). -/
def State.spiStream (s : State) (plane flush : Bool) (len n : Nat) (data : List Byte) (e : HostEnv) : State :=
  let s := s.spiTake plane n
  let s := if flush then s.spiInput plane [] else s
  let held := if plane then s.host.planeIn else s.host.dictIn
  let s := s.setHost { s.host with lastDiscard := decide (4096 < held.length + len) }
  if 4096 < held.length + len then s else (s.spiInput plane (held ++ data.take len)).spiServe plane e

/-- R361: one transaction: `mosi` are its whole bytes, `partialByte` tells that nCS rose within a further one, `ready` that
the port is ready after a wake. -/
def execSpiTransaction (mosi : List Byte) (partialByte ready : Bool) (env : HostEnv) (s : State) : Host.Outcome State Fault Refusal :=
  let s := s.hostStart
  if !s.portLive 0 then goOn (s.portWake 0)
  else if !ready then goOn (s.setHost { s.host with output := List.replicate mosi.length 0 })
  else
    let plane := bit (leAt mosi 1 1) 0
    let avail := s.spiAvail plane
    let out := if plane then s.host.planeOut else s.host.dictOut
    let n := mosi.length - 4
    let head : List Byte := [0x5A] ++ leBytes 1 s.spiFlags ++ leBytes 2 avail
    let valid := decide (mosi.head? = some 0xA5)
    let miso := head ++ bytesAt (if valid then out.take avail else []) 0 n
    let s := if valid ∧ 4 ≤ mosi.length then
        s.spiStream plane (bit (leAt mosi 1 1) 7) (leAt mosi 2 2) (min avail (n + ofBool partialByte)) (mosi.drop 4) env
      else s
    goOn (s.setHost { s.host with output := miso.take mosi.length })

/-! CAN FD (R362). -/

def State.canPart (s : State) (m : Nat) : CanPart := Sparse.read ⟨0, []⟩ s.host.can m

def State.setCanPart (s : State) (m : Nat) (p : CanPart) : State :=
  s.setHost { s.host with can := Sparse.write ⟨0, []⟩ s.host.can m p }

/-- A segment of master `m`. A FIRST segment starts anew; one out of sequence discards what is held. -/
def State.canSegment (s : State) (m : Nat) (head : Nat) (data : List Byte) (e : HostEnv) : State :=
  let p := s.canPart m
  let held := p.next != 0
  let first := bit head 7
  let seq := head % 64
  let s := if held ∧ (first = true ∨ seq ≠ p.next % 64) then (s.bump HDP_CNT1_DISCARD).setCanPart m ⟨0, []⟩ else s
  let p := s.canPart m
  if (first = true ∧ seq ≠ 0) ∨ (!first ∧ p.next = 0) then s
  else
    let b := p.bytes ++ data
    if !bit head 6 then s.setCanPart m ⟨p.next + 1, b⟩
    else
      let s := s.setCanPart m ⟨0, []⟩
      if b.length < 8 ∨ b.length < odpLength b then s.bump HDP_CNT1_DISCARD
      else s.frameIn { transport := 1, addr := m } (b.take (odpLength b)) e

/-- R362: a CAN frame of master `m`; FD frames only with FD_EN, none while bus-off. -/
def execCanSegment (m : Fin 16) (data : List Byte) (env : HostEnv) (s : State) : Host.Outcome State Fault Refusal :=
  let s := s.hostStart
  if !s.portLive 1 then goOn (s.portWake 1)
  else match data with
    | [] => goOn s
    | b :: bs =>
      if s.get HDP_STATUS_CAN_STATE = 2 ∨ 64 < data.length ∨ (8 < data.length ∧ !s.on HDP_CANCFG_FD_EN) then goOn s
      else goOn (s.canSegment m b.toNat bs env)

/-- R362: bus-off, E117. -/
def execCanBusoff (s : State) : Host.Outcome State Fault Refusal :=
  goOn (if s.portLive 1 then (s.put HDP_STATUS_CAN_STATE 2).raise 117 else s)

/-- R362: the recovery of ISO 11898-1 ends: error active. -/
def execBusOffRecovery (s : State) : Host.Outcome State Fault Refusal :=
  goOn (if s.get HDP_STATUS_CAN_STATE = 2 then s.put HDP_STATUS_CAN_STATE 0 else s)

/-! Ethernet (R359, R363). -/

/-- R363: a UDP datagram from `ip`:`src` to port `dst`. -/
def execUdpDatagram (ip : Word) (src dst : Fin 65536) (data : List Byte) (env : HostEnv) (s : State) : Host.Outcome State Fault Refusal :=
  let s := s.hostStart
  let who : HostId := { transport := 2, addr := withPort ip.toNat src }
  if !s.portLive 2 then goOn (s.portWake 2)
  else if dst.val = s.get HDP_UDPPORT_ODP_PORT then
    goOn (if 8 ≤ data.length ∧ data.length = odpLength data then s.frameIn who data env else s.bump HDP_CNT1_DISCARD)
  else if dst.val = s.get HDP_UDPPORT_PLANE_PORT then
    goOn (if 10 ≤ data.length ∧ data.length = planeLength data then s.planeIn who data else s.bump HDP_CNT1_DISCARD)
  else goOn (s.bump HDP_CNT1_DISCARD)

/-- R363: the state of the link; E116 at a change. -/
def execEthLink (link m100 fdx : Bool) (s : State) : Host.Outcome State Fault Refusal :=
  if !s.portLive 2 then goOn s
  else
    let changed := s.on HDP_STATUS_ETH_LINK != link
    goOn ((((s.flag HDP_STATUS_ETH_LINK link).flag HDP_STATUS_ETH_100 (link && m100)).flag HDP_STATUS_ETH_FDX (link && fdx)).raiseIf changed 116)

/-- The `n` bytes of `v`, most significant first. -/
def beBytes (n v : Nat) : List Byte := (leBytes n v).reverse

/-- The MAC address as it stands in a frame. -/
def State.ethMac (s : State) : List Byte := leBytes 4 (s.get HDP_MAC_L_MAC) ++ leBytes 2 (s.get HDP_MAC_H_MAC)

/-- R359: an ARP request for the device's address is answered. -/
def execArpRequest (senderMac : Nat) (senderIp target : Word) (s : State) : Host.Outcome State Fault Refusal :=
  let s := s.hostStart
  if !s.portLive 2 then goOn (s.portWake 2)
  else if target.toNat ≠ s.get HDP_IPADDR_ADDR then goOn s
  else
    let reply := beBytes 2 1 ++ beBytes 2 0x0800 ++ [6, 4] ++ beBytes 2 2 ++ s.ethMac ++ beBytes 4 target.toNat ++
      leBytes 6 senderMac ++ beBytes 4 senderIp.toNat
    goOn (s.setHost { s.host with sent := [({ transport := 2, addr := senderIp.toNat }, reply)] })

/-- The sum of the 16-bit words of an internet checksum. -/
def wordSum : List Byte → Nat
  | [] => 0
  | [a] => 256 * a.toNat
  | a :: b :: bs => 256 * a.toNat + b.toNat + wordSum bs

/-- The internet checksum of `b`. -/
def inetSum (b : List Byte) : Nat :=
  let n := wordSum b
  let n := n % 65536 + n / 65536
  65535 - (n % 65536 + n / 65536)

/-- R359: an ICMP echo request, from its type on, is answered with its data; other messages are not. -/
def execIcmpEchoRequest (ip : Word) (data : List Byte) (s : State) : Host.Outcome State Fault Refusal :=
  let s := s.hostStart
  if !s.portLive 2 then goOn (s.portWake 2)
  else if data.length < 8 ∨ leAt data 0 2 ≠ 8 then goOn s
  else
    let rest := data.drop 4
    let reply := [0, 0] ++ beBytes 2 (inetSum ([0, 0, 0, 0] ++ rest)) ++ rest
    goOn (s.setHost { s.host with sent := [({ transport := 2, addr := ip.toNat }, reply)] })

/-! UART (R364). -/

/-- R364: what arrives between two 0x7E. -/
def execUartFrame (data : List Byte) (env : HostEnv) (s : State) : Host.Outcome State Fault Refusal :=
  let s := s.hostStart
  if !s.portLive 3 then goOn (s.portWake 3)
  else if data = [] then goOn s
  else match uartPlain data with
    | none => goOn s
    | some f =>
      if f.length < 8 ∨ f.length ≠ odpLength f then goOn (s.bump HDP_CNT0_CRC_ERR)
      else goOn (s.frameIn { transport := 3 } f env)

/-! The mailbox (R365). -/

/-- A record for core 1. -/
def mailRecord (kind ctx : Nat) (f : List Byte) : List Byte :=
  leBytes 2 f.length ++ leBytes 1 kind ++ [0] ++ leBytes 2 ctx ++ [0, 0] ++ f

/-- The record from core 1: KIND, CONTEXT and frame. -/
def State.mailFromCore1 (s : State) (base : Nat) : Nat × Nat × List Byte :=
  let n := min (s.num (base + 2048) 2) 2040
  (s.num (base + 2050) 1, s.num (base + 2052) 2, s.bytes (base + 2056) n)

/-- R365: core 0 passes the oldest waiting request to core 1, E126. -/
def execObjectRequest (s : State) : Host.Outcome State Fault Refusal :=
  let s := s.hostStart
  match s.host.apps, s.host.asked with
  | a :: rest, false =>
    match s.mailbox with
    | none => goOn ((s.setHost { s.host with apps := rest }).odpAnswer a.who a.opc a.tid .noObject)
    | some base => goOn (((s.devWrite base (mailRecord 1 0 a.frame)).setHost { s.host with asked := true }).raise 126)
  | _, _ => goOn s

/-- The status that a response carries. -/
def statusOf (n : Nat) : OdpStatus :=
  [OdpStatus.ok, .busy, .noObject, .access, .range, .length, .absent, .segment, .opcode, .persistFail, .dataError, .claimLost,
   .notSuccessor, .appTimeout, .mode].getD n .ok

/-- R365: core 1 answers with a KIND 2 record, E127; core 0 passes the frame to the master. -/
def execObjectResponse (s : State) : Host.Outcome State Fault Refusal :=
  let s := s.hostStart.raise 127
  match s.host.apps, s.host.asked, s.mailbox with
  | a :: rest, true, some base =>
    let (kind, _, f) := s.mailFromCore1 base
    if kind ≠ 2 then goOn s
    else
      let p := odpPayload f
      goOn ((s.setHost { s.host with apps := rest, asked := false, result := statusOf (leAt p 0 1), output := p }).sendFrame a.who f)
  | _, _, _ => goOn s

/-- R365: core 1 passes a frame from the mesh as a KIND 3 record, E125; with MESH_EN = 0 it is not answered. -/
def execMeshRequest (env : HostEnv) (s : State) : Host.Outcome State Fault Refusal :=
  let s := s.hostStart.raise 125
  match s.mailbox with
  | none => goOn s
  | some base =>
    let (kind, ctx, f) := s.mailFromCore1 base
    if kind ≠ 3 ∨ !s.portLive 4 then goOn s
    else if f.length < 8 ∨ f.length ≠ odpLength f then goOn (s.bump HDP_CNT0_CRC_ERR)
    else goOn (s.frameIn { transport := 4, addr := ctx } f env)

/-- R365: core 0 passes the oldest reply to core 1 as a KIND 4 record, E124. -/
def execMeshReply (s : State) : Host.Outcome State Fault Refusal :=
  let s := s.hostStart
  match s.host.replies, s.mailbox with
  | (ctx, f) :: rest, some base =>
    goOn (((s.devWrite base (mailRecord 4 ctx f)).setHost { s.host with replies := rest }).raise 124)
  | _, _ => goOn s

/-- R365: 100 ms without an answer of core 1. -/
def execAppTimeout (s : State) : Host.Outcome State Fault Refusal :=
  let s := s.hostStart
  match s.host.apps, s.host.asked with
  | a :: rest, true => goOn ((s.setHost { s.host with apps := rest, asked := false }).odpAnswer a.who a.opc a.tid .appTimeout)
  | _, _ => goOn s

/-! Requests (R366 to R375). -/

/-- INDEX, SUB and the byte after them. -/
def objAddress (index : Fin 65536) (sub : Fin 256) (b : Nat) : List Byte := leBytes 2 index ++ leBytes 1 sub ++ leBytes 1 b

def execOdpRead (who : HostId) (tid index : Fin 65536) (sub : Fin 256) (env : HostEnv) (s : State) : Host.Outcome State Fault Refusal :=
  goOn (s.odpFrom who 1 tid (objAddress index sub 0) env)

def execOdpWrite (who : HostId) (tid index : Fin 65536) (sub : Fin 256) (value : List Byte) (env : HostEnv) (s : State) :
    Host.Outcome State Fault Refusal :=
  goOn (s.odpFrom who 2 tid (objAddress index sub 0 ++ value) env)

def execOdpReadSeg (who : HostId) (tid index : Fin 65536) (sub : Fin 256) (offset : Word) (env : HostEnv) (s : State) :
    Host.Outcome State Fault Refusal :=
  goOn (s.odpFrom who 3 tid (objAddress index sub 0 ++ leBytes 4 offset.toNat) env)

def execOdpWriteSeg (who : HostId) (tid index : Fin 65536) (sub sflags : Fin 256) (offset total : Word) (data : List Byte)
    (env : HostEnv) (s : State) : Host.Outcome State Fault Refusal :=
  goOn (s.odpFrom who 4 tid (objAddress index sub sflags ++ leBytes 4 offset.toNat ++ leBytes 4 total.toNat ++ data) env)

def execOdpInfo (who : HostId) (tid index : Fin 65536) (sub : Fin 256) (env : HostEnv) (s : State) : Host.Outcome State Fault Refusal :=
  goOn (s.odpFrom who 5 tid (objAddress index sub 0) env)

def execOdpClaim (who : HostId) (tid : Fin 65536) (prio : Fin 256) (nonce : Word) (env : HostEnv) (s : State) :
    Host.Outcome State Fault Refusal :=
  goOn (s.odpFrom who 0x10 tid (leBytes 1 prio ++ [0, 0, 0] ++ leBytes 4 nonce.toNat) env)

def execOdpKeepalive (who : HostId) (tid : Fin 65536) (nonce : Word) (env : HostEnv) (s : State) : Host.Outcome State Fault Refusal :=
  goOn (s.odpFrom who 0x11 tid (leBytes 4 nonce.toNat) env)

def execOdpRelease (who : HostId) (tid : Fin 65536) (nonce : Word) (env : HostEnv) (s : State) : Host.Outcome State Fault Refusal :=
  goOn (s.odpFrom who 0x12 tid (leBytes 4 nonce.toNat) env)

def execOdpHandover (who : HostId) (tid : Fin 65536) (nonce : Word) (next : HostId) (snonce : Word) (env : HostEnv) (s : State) :
    Host.Outcome State Fault Refusal :=
  goOn (s.odpFrom who 0x13 tid (leBytes 4 nonce.toNat ++ leBytes 1 next.transport ++ [0, 0, 0] ++ leBytes 8 next.addr ++
    leBytes 4 snonce.toNat) env)

def execOdpOwner (who : HostId) (tid : Fin 65536) (env : HostEnv) (s : State) : Host.Outcome State Fault Refusal :=
  goOn (s.odpFrom who 0x14 tid [] env)

/-- R366, R28: the answer, then the warm reset into Recovery. -/
def execOdpRecovery (who : HostId) (tid : Fin 65536) (env : HostEnv) (s : State) : Host.Outcome State Fault Refusal :=
  goOn (s.odpFrom who 0x20 tid (leBytes 4 0x5245434F) env)

/-! Ownership in time (R375). -/

/-- The window closes: the candidate owns; OK to it, E112. -/
def execClaimWindowClose (s : State) : Host.Outcome State Fault Refusal :=
  let s := s.hostStart
  match s.host.owner with
  | .claiming c => goOn ((s.passOwner (some c)).odpAnswer c.who 0x10 c.tid .ok)
  | _ => goOn s

/-- The loss time is reached: E113, E112. -/
def execOwnerLost (s : State) : Host.Outcome State Fault Refusal :=
  goOn (if s.host.owner.owner?.isSome then (s.raise 113).passOwner none else s)

/-- 3 s without the successor's claim. -/
def execHandoverTimeout (s : State) : Host.Outcome State Fault Refusal :=
  match s.host.owner with
  | .handover c _ _ => goOn (s.setOwnership (.owned c))
  | _ => goOn s

/-- R371: 3 s without a segment. -/
def execStagingTimeout (who : HostId) (index : Fin 65536) (sub : Fin 256) (s : State) : Host.Outcome State Fault Refusal :=
  goOn (s.dropStaging who (256 * index.val + sub.val))

/-- R372: 3 s without a READ_SEG. -/
def execSnapshotTimeout (who : HostId) (index : Fin 65536) (sub : Fin 256) (s : State) : Host.Outcome State Fault Refusal :=
  goOn (s.dropSnapshot who (256 * index.val + sub.val))

/-- R374: a window of 1 s with a utilisation of `util` per cent ends. -/
def execLoadLevel (util : Fin 101) (s : State) : Host.Outcome State Fault Refusal :=
  let l := s.get HDP_STATUS_LOAD
  let quiet (n : Nat) : State := s.setHost { s.host with quiet := n }
  if !s.boot.firmware then goOn s
  else if 85 < util.val then goOn (if l < 3 then ((quiet 0).put HDP_STATUS_LOAD (l + 1)).raise 12 else quiet 0)
  else if util.val < 60 then
    (if s.host.quiet < 9 then goOn (quiet (s.host.quiet + 1))
     else goOn (if l = 0 then quiet 0 else ((quiet 0).put HDP_STATUS_LOAD (l - 1)).raise 12))
  else goOn (quiet 0)

/-- R379: the owner writes 1 to object 0x1003.00. -/
def execRestoreDefaults (value : Nat) (s : State) : Host.Outcome State Fault Refusal :=
  goOn (if value ≠ 1 then s.answer .range else ({ s with boot := { s.boot with restore := true } }).answer .ok)

/-! The data plane (R376, R377). -/

def execDelivery (s : State) : Host.Outcome State Fault Refusal := goOn (if s.deliverable then s.hostStart.planeDeliver else s)

/-- R377: a TX_SUBMIT of a master on SPI or Ethernet. -/
def execTxSubmit (who : HostId) (body : List Byte) (s : State) : Host.Outcome State Fault Refusal :=
  let s := s.hostStart
  goOn (if s.portLive who.transport && s.mode != modeRecovery && (who.transport == 0 || who.transport == 2) then s.planeSubmit who body else s)

def execTxComplete (s : State) : Host.Outcome State Fault Refusal := goOn s.hostStart.planeComplete

end Sys2Proof.Machine
end

