-- ==== Sys2Proof/Machine/SloeOps.lean ====
section
/-! DEFINITION. What every instruction of a Sloe core shares: the exceptions of R290 and their entry, the segment checks,
the accesses to memory and registers, instruction boundaries, breakpoints, the repeat stack, and the retirement of an
instruction. -/
namespace Sys2Proof.Machine

/-! Tags and words (R272, R273). -/

def Tag.num : Tag → Nat
  | .int => 0
  | .frac => 1
  | .ptr => 2
  | .code => 3
  | .bool => 4
  | .raw => 5
  | .handle => 6
  | .empty => 7

def Tag.ofCode : Nat → Tag
  | 0 => .int
  | 1 => .frac
  | 2 => .ptr
  | 3 => .code
  | 4 => .bool
  | 5 => .raw
  | 6 => .handle
  | _ => .empty

/-- Bits [31:28] of a PTR or CODE word. -/
def segOf (w : Word) : Nat := w.toNat / 2 ^ 28

/-- Bits [27:0] of a PTR or CODE word. -/
def offOf (w : Word) : Nat := w.toNat % 2 ^ 28

/-- The word of a segment and an offset, which wraps at 2^28. -/
def segWord (seg off : Nat) : Word := BitVec.ofNat 32 (seg * 2 ^ 28 + off % 2 ^ 28)

/-- `w` with its offset moved by `d` bytes. -/
def moveBy (w : Word) (d : Int) : Word := segWord (segOf w) (unsigned 28 ((offOf w : Int) + d))

def intWord (w : Word) : TWord := ⟨.int, w⟩
def intNat (n : Nat) : TWord := ⟨.int, BitVec.ofNat 32 n⟩
def boolWord (b : Bool) : TWord := ⟨.bool, BitVec.ofNat 32 (ofBool b)⟩

def CoreState.reg (c : CoreState) (n : Nat) : TWord := c.g.getD n {}
def CoreState.setReg (c : CoreState) (n : Nat) (w : TWord) : CoreState := { c with g := c.g.set n w }
def CoreState.system (c : CoreState) : Bool := bit c.st 0
def CoreState.seg (c : CoreState) (w : Word) : Desc := c.segs.getD (segOf w) {}

/-- The address that a PTR or CODE word reaches (R273). -/
def CoreState.phys (c : CoreState) (w : Word) : Nat := ((c.seg w).base + offOf w) % 2 ^ 32

/-- TPOL of the segment that a word names (R277). -/
def CoreState.policy (c : CoreState) (w : Word) : Nat := slice (c.seg w).attr 5 2

/-- The instruction was fetched from the ROM region (R342). -/
def CoreState.inRom (c : CoreState) : Bool := c.phys c.pc < 0x40000

/-! Exceptions (R290, R291). -/

/-- An exception that an instruction meets: its CAUSE, SUB, TAG_SEEN, OPERAND and EADDR. -/
structure Trap where
  cause : Nat
  sub : Nat := 0
  tag : Nat := 0
  operand : Nat := 0
  eaddr : Nat := 0
deriving DecidableEq, Repr

def trapIllegal : Trap := ⟨1, 0, 0, 0, 0⟩
def trapPriv : Trap := ⟨2, 0, 0, 0, 0⟩
def trapTag (sub : Nat) (t : Tag) (operand : Nat) : Trap := ⟨3, sub, t.num, operand, 0⟩
def trapSeg (sub : Nat) (w : Word) : Trap := ⟨4, sub, 0, 0, w.toNat⟩
def trapAlign (w : Word) : Trap := ⟨5, 0, 0, 0, w.toNat⟩
def trapDiv0 : Trap := ⟨6, 0, 0, 0, 0⟩
def trapStack (w : Word) : Trap := ⟨7, 0, 0, 0, w.toNat⟩
def trapPoison (a : Nat) : Trap := ⟨8, 0, 0, 0, a⟩
def trapBus (sub a : Nat) : Trap := ⟨9, sub, 0, 0, a⟩
def trapSyscall (arg : Nat) : Trap := ⟨0xA, 0, 0, 0, arg⟩
def trapBkpt (sub eaddr : Nat) : Trap := ⟨0xB, sub, 0, 0, eaddr⟩
def trapOverflow (sub : Nat) : Trap := ⟨0xC, sub, 0, 0, 0⟩
def trapRepeat (sub : Nat) : Trap := ⟨0xD, sub, 0, 0, 0⟩

/-- The priority number of an instruction's exception (R290, R311); fetch failures are found before any of these. -/
def Trap.priority (t : Trap) : Nat :=
  match t.cause with
  | 1 => 2
  | 2 => 3
  | 3 => 4
  | 4 => 5
  | 5 => 6
  | 8 => 7
  | 9 => 8
  | 7 => 9
  | 6 => 10
  | 0xD => 11
  | 0xC => 12
  | _ => 13

/-- The trap of lowest priority number, the first among equals (R290). -/
def reported : List Trap → Option Trap
  | [] => none
  | t :: ts => match reported ts with
    | some u => if u.priority < t.priority then some u else some t
    | none => some t

/-- The operand in position `k` (1 Ga, 2 Gb, 3 Gd) must have a tag that `p` accepts (R274, R276). -/
def checkTag (k : Nat) (x : TWord) (p : Tag → Bool) : List Trap :=
  if p x.tag then [] else [trapTag (if x.tag = .empty then 1 else 0) x.tag k]

/-- ECAUSE (R291). -/
def Trap.word (t : Trap) (imprecise : Bool) : Nat :=
  t.cause + 2 ^ 8 * t.sub + 2 ^ 16 * t.tag + 2 ^ 19 * t.operand + 2 ^ 31 * ofBool imprecise

/-- The checks of R278 on an access of `n` bytes with rights `need` (2 RD, 4 WR, 8 EX) through a PTR or CODE word. -/
def CoreState.segCheck (c : CoreState) (w : Word) (n need : Nat) : List Trap :=
  let d := c.seg w
  if !bit d.attr 0 then [trapSeg 0 w]
  else if bit d.attr 4 ∧ !c.system then [trapSeg 1 w]
  else if Nat.land d.attr need ≠ need then [trapSeg 2 w]
  else if d.limit < offOf w + n - 1 then [trapSeg 3 w]
  else []

/-- Segment checks, then alignment (R278). -/
def CoreState.access (c : CoreState) (w : Word) (n need : Nat) : List Trap :=
  c.segCheck w n need ++ (if offOf w % n = 0 then [] else [trapAlign w])

/-! Accesses by a core to what stands at a physical address. -/

inductive BusRead
  | data (bs : List Byte) (tag : Tag) (s : State)
  | poison (s : State)
  | error (s : State)
  | stall (s : State)

/-- A byte of OTP as a master reads it: the device's private key reads 0 (R423). -/
def State.otpByte (s : State) (a : Nat) : Byte := if 0x28000060 ≤ a ∧ a < 0x28000080 then 0 else s.byte a

/-- A read of `n` bytes at `a` by an instruction from ROM or not; `parity` is the mask of parity bits that an SRAM finds wrong (R316). A load from the tag
window waits for READY and for a write's release (R415, R416). -/
def State.coreRead (s : State) (core1 rom : Bool) (a n parity : Nat) : BusRead :=
  if inSys a ∨ inPacket a then
    let s := s.parityCheck a (if inSys a then parity else parity % 16)
    if s.poisoned a then .poison s else .data (s.bytes a n) (if inSys a then s.tagOf a else .raw) s
  else if inFlash a then
    match s.flashLoad a n with
    | .data bs t => .data bs .raw t
    | .poison t => .poison t
    | .busError t => .error t
    | .stall t => .stall t
  else if a < 0x40000 then .data ((List.range n).map fun k => Config.romByte (a + k)) .raw s
  else if 0x26000000 ≤ a ∧ a < 0x26002000 then
    if !s.tag.ready ∨ s.tag.write.isSome then .stall s else .data (s.bytes a n) .raw s
  else if 0x27000000 ≤ a ∧ a < 0x27000040 then .data (s.bytes a n) .raw s
  else if 0x28000000 ≤ a ∧ a < 0x28001000 then .data ((List.range n).map fun k => s.otpByte (a + k)) .raw s
  else if 0x40000000 ≤ a ∧ a < 0x40140000 then
    let (v, t, err) := s.regRead core1 rom (a / 4 * 4)
    if err then .error t else .data (bytesAt (leBytes 4 v) (a % 4) n) .raw t
  else .error (s.busInfo a)

inductive BusWrite
  | done (s : State)
  | error (s : State)
  | stall (s : State)

/-- A store of `bs` at `a` by a core, its instruction from ROM or not; `tag` goes to a word of system SRAM. Poison has been
looked at before. -/
def State.coreWrite (s : State) (core1 rom : Bool) (a : Nat) (bs : List Byte) (tag : Tag) : BusWrite :=
  if inSys a then .done ((s.devWrite a bs).setTag a tag)
  else if 0x24000000 ≤ a ∧ a < 0x24010000 then .error (s.busInfo a)
  else if inPacket a then .done (s.devWrite a bs)
  else if inFlash a then
    match s.mergeStore a bs rom with
    | .done t => .done t
    | .stall t => .stall t
    | .busError t => .error t
  else if 0x26000000 ≤ a ∧ a < 0x26002000 then .error (s.report 0 0x1C a 0)
  else if 0x27000000 ≤ a ∧ a < 0x27000040 then .done (s.setBytes a bs)
  else if 0x40000000 ≤ a ∧ a < 0x40140000 then
    let lo := a % 4
    let (t, err) := s.regWrite core1 rom { addr := a / 4 * 4, value := leNat bs * 2 ^ (8 * lo), mask := (2 ^ (8 * bs.length) - 1) * 2 ^ (8 * lo) }
    if err then .error t else .done t
  else .error (s.busInfo a)

/-! What an instruction's meaning answers. -/

/-- `done`: the state after it, the target of a transfer, and the words it touched, each with whether it was stored;
`fail`: the exceptions it meets; `wait`: it cannot complete yet and runs again. -/
inductive Res
  | done (s : State) (target : Option Word := none) (touched : List (Word × Bool) := [])
  | fail (s : State) (ts : List Trap)
  | wait (s : State)

/-- The exceptions that an answer meets. -/
def Res.failures : Res → List Trap
  | .fail _ ts => ts
  | _ => []

/-- A core's state is replaced and the instruction is complete. -/
def State.ok (s : State) (c1 : Bool) (c : CoreState) : Res := .done (s.setCore c1 c)

/-- The instruction completes with `c`, unless one of the checks `ts` fails. -/
def State.okIf (s : State) (c1 : Bool) (ts : List Trap) (c : CoreState) : Res := if ts.isEmpty then s.ok c1 c else .fail s ts

/-- A load through a PTR word: checks, access, and what the policy of R279 makes of the tag of a word; a narrow load
returns INT, extended by the caller. -/
inductive Loaded
  | data (w : TWord) (s : State)
  | fail (s : State) (ts : List Trap)
  | wait (s : State)

def State.load (s : State) (c1 : Bool) (p : Word) (n parity : Nat) : Loaded :=
  let c := s.core c1
  match c.access p n 2 with
  | [] =>
    let a := c.phys p
    (match s.coreRead c1 c.inRom a n parity with
    | .data bs t s =>
      let tag := if n < 4 ∨ c.policy p = 1 then .int else if c.policy p = 2 then .raw else t
      .data ⟨tag, BitVec.ofNat 32 (leNat bs)⟩ s
    | .poison s => .fail s [trapPoison a]
    | .error s => .fail s [trapBus 0 a]
    | .stall s => .wait s)
  | ts => .fail s ts

/-- The checks of R279 on the value of a store of `n` bytes through `p`; it stands in position `k`. -/
def CoreState.storeCheck (c : CoreState) (p : Word) (n : Nat) (v : TWord) (k : Nat) : List Trap :=
  if n < 4 then checkTag k v fun t => t == .int || t == .raw
  else if c.policy p ≠ 0 ∧ (v.tag = .ptr ∨ v.tag = .code ∨ v.tag = .handle ∨ v.tag = .empty) then [trapTag 3 v.tag k]
  else []

/-- The tag that a stored word carries in memory (R279); words stored through an INT or RAW segment carry its tag. -/
def storedTag (pol n : Nat) (old new : Tag) : Tag :=
  if pol = 1 then .int
  else if pol = 2 then .raw
  else if n = 4 then new
  else if old = .int ∧ new = .int then .int else .raw

/-- An imprecise error of a store at `a` is held until the next boundary (R285). -/
def State.holdStoreErr (s : State) (c1 : Bool) (a : Nat) : State :=
  let c := s.core c1
  s.setCore c1 { c with storeErr := if c.storeErr.isSome then c.storeErr else some a }

inductive Stored
  | done (s : State)
  | fail (s : State) (ts : List Trap)
  | wait (s : State)

/-- A store of the low `n` bytes of `v` through a PTR word, after its checks: a narrow store reads its word first (R315,
R317); a bus error is imprecise (R285). -/
def State.storeRaw (s : State) (c1 : Bool) (p : Word) (n : Nat) (v : TWord) (parity : Nat) : Stored :=
  let c := s.core c1
  let a := c.phys p
  let mem := inSys a || inPacket a
  let s := if n < 4 ∧ mem = true then s.parityCheck a (if inSys a then parity else parity % 16) else s
  if n < 4 ∧ mem = true ∧ s.poisoned a = true then .fail s [trapPoison a]
  else match s.coreWrite c1 c.inRom a (leBytes n v.data.toNat) (storedTag (c.policy p) n (s.tagOf a) v.tag) with
    | .done s => .done s
    | .error s => .done (s.holdStoreErr c1 a)
    | .stall s => .wait s

def State.store (s : State) (c1 : Bool) (p : Word) (n : Nat) (v : TWord) (k parity : Nat) : Stored :=
  let c := s.core c1
  let ts := c.access p n 4 ++ c.storeCheck p n v k
  if ts.isEmpty then s.storeRaw c1 p n v parity else .fail s ts

/-! Entry, lock-up and return (R292, R293). -/

/-- ST with value `v` written: its defined bits, and RND kept where 3 is written (R288, R303). -/
def stWrite (old v : Nat) : Nat :=
  let w := slice v 0 8 + slice v 16 6 * 2 ^ 16
  if slice v 16 2 = 3 then splice w 16 2 (slice old 16 2) else w

/-- The vector of an entry: the CODE word at VTAB + 4 × index, if it can be read as one (R292, R293). -/
def State.vector (s : State) (c1 : Bool) (index : Nat) : Option Word × State :=
  let c := s.core c1
  if c.vtab.tag ≠ .ptr ∨ 2 ^ 28 ≤ offOf c.vtab.data + 4 * index then (none, s)
  else match s.load c1 (moveBy c.vtab.data (4 * index)) 4 0 with
    | .data w s => (if w.tag = .code then some w.data else none, s)
    | .fail s _ => (none, s)
    | .wait s => (none, s)

/-- Steps 2 to 4 of R292: the saved registers, system mode, and the vector; without a vector the core locks up. -/
def State.coreEnter (s : State) (c1 : Bool) (epc : Word) (ecause eaddr index : Nat) (ipl : Option Nat) : State :=
  let c := s.core c1
  let st := setBit (clearBit (setBit c.st 0) 1) 2
  let st := match ipl with
    | some p => splice st 3 2 p
    | none => st
  let c := { c with epc := ⟨.code, epc⟩, est := c.st, ecause := ecause, eaddr := eaddr, st := st,
                    entries := satInc 16 c.entries, lastCause := ecause % 256 }
  let (v, s) := (s.setCore c1 c).vector c1 index
  match v with
  | some pc => s.setCore c1 { (s.core c1) with pc := pc }
  | none => s.coreLockUp c1 (ecause % 256)

/-- A synchronous exception: with EXL = 1 the core locks up (R293). -/
def State.trapEntry (s : State) (c1 : Bool) (epc : Word) (t : Trap) : State :=
  if bit (s.core c1).st 2 then s.coreLockUp c1 t.cause
  else s.coreEnter c1 epc (t.word false) t.eaddr t.cause none

/-! Boundaries: halt, imprecise errors and interrupts (R285, R294 to R296). -/

/-- DBG_EN; on core 0 the debug port and DBG_EN are closed. -/
def CoreState.debugs (c : CoreState) (c1 : Bool) : Bool := c1 && bit c.dctrl 0

/-- The core halts in debug (R296): E13, and the condition in DSTAT. -/
def State.coreHalt (s : State) (c1 : Bool) (condition : Option Nat) : State :=
  let c := s.core c1
  (s.setCore c1 { c with halted := true, dctrl := clearBit c.dctrl 9, dstat := condition.getD c.dstat }).raise 13

/-- The priority of interrupt line `n`. -/
def CoreState.linePrio (c : CoreState) (n : Nat) : Nat := slice c.iprio (2 * n) 2

/-- Line `n` is eligible (R294). -/
def CoreState.eligible (c : CoreState) (n : Nat) : Bool :=
  bit c.ipend n && bit c.ien n && decide (slice c.st 3 2 < c.linePrio n) && bit c.st 1 && !bit c.st 2

/-- The eligible line of highest priority, the lowest number among equals. -/
def CoreState.bestLine (c : CoreState) : Option Nat :=
  let of (p : Nat) : Option Nat := (List.range 128).find? fun n => c.eligible n && c.linePrio n == p
  match of 3 with
  | some n => some n
  | none => match of 2 with
    | some n => some n
    | none => of 1

/-- Interrupt line `n` is taken (R292, R294). -/
def State.takeLine (s : State) (c1 : Bool) (n : Nat) : State :=
  let c := s.core c1
  (s.setCore c1 { c with ipend := clearBit c.ipend n }).coreEnter c1 c.pc (0x10 + 2 ^ 8 * n) 0 (16 + n) (some (c.linePrio n))

/-- The imprecise bus error of a buffered store is reported (R285, R292). -/
def State.reportStore (s : State) (c1 : Bool) (a : Nat) : State :=
  let c := s.core c1
  (s.setCore c1 { c with storeErr := none }).coreEnter c1 c.pc ((trapBus 0 a).word true) a 9 none

/-- What the core does at an instruction boundary before it issues, if anything. -/
def State.coreBoundary (s : State) (c1 : Bool) : Option State :=
  let c := s.core c1
  if bit c.dctrl 9 then some (s.coreHalt c1 none)
  else match c.storeErr with
    | some a => some (s.reportStore c1 a)
    | none => match c.bestLine with
      | some n => some (s.takeLine c1 n)
      | none => none

/-- The core issues instructions: it runs, is not halted, and its clock is on (R447, R465). -/
def State.issues (s : State) (c1 : Bool) : Bool :=
  let c := s.core c1
  c.run == .running && !c.halted && !c.checker && s.power.state == .run && s.power.stretch.isEmpty

/-- A debug condition (R296), coded as SUB of BKPT: the core halts, or raises BKPT at the boundary it stands at. -/
def State.debugStop (s : State) (c1 : Bool) (condition eaddr : Nat) : State :=
  let c := s.core c1
  if c.debugs c1 then s.coreHalt c1 (some condition) else s.trapEntry c1 c.pc (trapBkpt condition eaddr)

/-- An enabled breakpoint stands at PC. -/
def CoreState.atBreakpoint (c : CoreState) : Bool :=
  (List.range 4).any fun k => bit c.dctrl (1 + k) && c.bp.getD k {} == ⟨.code, c.pc⟩

/-- An enabled watchpoint names the word of a touched address. -/
def CoreState.watched (c : CoreState) (touched : List (Word × Bool)) : Option Word :=
  (touched.find? fun x => (List.range 2).any fun k =>
    let w := c.wp.getD k {}
    bit c.dctrl ((if x.2 then 7 else 5) + k) && w.tag == .ptr && w.data.toNat / 4 == x.1.toNat / 4).map (·.1)

/-! Fetch (R278, R279, R308). -/

/-- PC lies in the body of a repeat entry. -/
def RepEntry.holds (e : RepEntry) (pc : Word) : Bool :=
  segOf e.start == segOf pc && decide (offOf e.start ≤ offOf pc) && decide (offOf pc ≤ offOf e.stop)

/-- The instruction comes from the repeat cache: a later pass of the outermost open block. -/
def CoreState.cached (c : CoreState) : Bool :=
  match c.reps.head? with
  | some e => e.issued && e.holds c.pc
  | none => false

inductive Fetched
  | ok (s : State)
  | fail (s : State) (t : Trap)
  | wait (s : State)

/-- The fetch of the instruction at PC. -/
def State.fetch (s : State) (c1 : Bool) : Fetched :=
  let c := s.core c1
  if c.cached then .ok s
  else match reported (c.access c.pc 4 8) with
    | some t => .fail s t
    | none =>
      let a := c.phys c.pc
      if (0x26000000 ≤ a ∧ a < 0x26002000) ∨ (0x40000000 ≤ a ∧ a < 0x40140000) then .fail (s.busInfo a) (trapBus 0 a)
      else match s.coreRead c1 c.inRom a 4 0 with
        | .data _ _ s => .ok s
        | .poison s => .fail s (trapPoison a)
        | .error s => .fail s (trapBus 0 a)
        | .stall s => .wait s

/-! Block repeat at retirement (R308, R310). -/

/-- The top entry of the repeat stack. -/
def CoreState.topRep (c : CoreState) : Option RepEntry := c.reps.getLast?

/-- Execution reaches END of the top entry: COUNT decrements; the next instruction is START, or END + 4 with the entry
popped. -/
def CoreState.loopBack (c : CoreState) : CoreState :=
  match c.topRep with
  | none => c
  | some e =>
    if e.count ≤ 1 then { c with reps := c.reps.dropLast, pc := moveBy e.stop 4 }
    else { c with reps := c.reps.dropLast ++ [{ e with count := e.count - 1, issued := true }], pc := e.start }

/-- Folded loop-backs: PC stands at END of a top entry whose ENDREP has issued; at most one for each entry. -/
def CoreState.fold : Nat → CoreState → CoreState
  | 0, c => c
  | n + 1, c => match c.topRep with
    | some e => if e.issued ∧ e.stop = c.pc then (c.loopBack).fold n else c
    | none => c

/-- What kind of instruction it is for block repeat: ENDREP, a transfer that an open body forbids, or another. -/
inductive Kind | plain | branch | endrep
deriving DecidableEq, Repr

/-- REPERR at an instruction (R310). -/
def CoreState.repeatCheck (c : CoreState) (k : Kind) : List Trap :=
  let atEnd := c.topRep.any fun e => e.stop == c.pc
  match k with
  | .endrep => if atEnd then [] else [trapRepeat 2]
  | .branch => if atEnd then [trapRepeat 2] else if c.reps.any fun e => e.holds c.pc then [trapRepeat 3] else []
  | .plain => if atEnd then [trapRepeat 2] else []

/-- The PC after a completed instruction: the target or the next word, then any loop-back. -/
def CoreState.advance (c : CoreState) (k : Kind) (target : Option Word) : CoreState :=
  let c := if k = .endrep then c.loopBack else { c with pc := target.getD (moveBy c.pc 4) }
  c.fold 5

/-- An exception is taken: EPC is the faulting instruction, or the next one for SYSCALL and BKPT; a BKPT instruction halts a
core under debug instead (R292, R296). -/
def State.takeTrap (s : State) (c1 : Bool) (t : Trap) : State :=
  let c := s.core c1
  if t.cause = 0xA then s.trapEntry c1 (moveBy c.pc 4) t
  else if t.cause = 0xB then (s.setCore c1 (c.advance .plain none)).debugStop c1 t.sub t.eaddr
  else s.trapEntry c1 c.pc t

/-- The end of an instruction that began in `s0`: its exception, or its effect, the next PC, and the debug conditions that
its completion meets (R290, R292, R296, R308). -/
def State.retire (s0 : State) (c1 : Bool) (k : Kind) (r : Res) : State :=
  let c0 := s0.core c1
  let rt := c0.repeatCheck k
  match r with
  | .wait s => s
  | .fail s ts => match reported (ts ++ rt) with
    | some t => s.takeTrap c1 t
    | none => s
  | .done s target touched => match reported rt with
    | some t => s0.takeTrap c1 t
    | none =>
      let c := (s.core c1).advance k target
      let s := s.setCore c1 c
      match c.watched touched with
      | some w => s.debugStop c1 2 w.toNat
      | none => if bit c0.st 7 then s.debugStop c1 3 0 else s

/-- One instruction of a core: nothing where the core issues none; else the boundary's halt, error or interrupt, a
breakpoint, the fetch's failure, or the instruction (R278, R290, R294, R296). -/
def State.issue (s : State) (c1 : Bool) (k : Kind) (body : State → CoreState → Res) : State :=
  if !s.issues c1 then s
  else match s.coreBoundary c1 with
    | some s => s
    | none =>
      if (s.core c1).atBreakpoint then s.debugStop c1 1 0
      else match s.fetch c1 with
        | .wait s => s
        | .fail s t => s.takeTrap c1 t
        | .ok s => s.retire c1 k (body s (s.core c1))

/-- An instruction that no repeat body forbids. -/
def State.plain (s : State) (c1 : Bool) (body : State → CoreState → Res) : Host.Outcome State Fault Refusal :=
  goOn (s.issue c1 .plain body)

/-- A transfer of control. -/
def State.branch (s : State) (c1 : Bool) (body : State → CoreState → Res) : Host.Outcome State Fault Refusal :=
  goOn (s.issue c1 .branch body)

/-- In user mode an instruction that needs system mode raises PRIV (R284). -/
def CoreState.privCheck (c : CoreState) : List Trap := if c.system then [] else [trapPriv]

end Sys2Proof.Machine
end

