-- ==== Sys2Proof/Machine/SloeAlu.lean ====
section
/-! DEFINITION. Register arithmetic of a Sloe core as named operations: results, the flags C and V, comparisons, shifts,
tag conversions and the system registers (R274, R275, R283, R284, R288, R289). -/
namespace Sys2Proof.Machine

def isInt (t : Tag) : Bool := t == .int
def isFrac (t : Tag) : Bool := t == .frac
def isPtr (t : Tag) : Bool := t == .ptr
def isCode (t : Tag) : Bool := t == .code
def isBool (t : Tag) : Bool := t == .bool
def isIntRaw (t : Tag) : Bool := t == .int || t == .raw
def isPtrCode (t : Tag) : Bool := t == .ptr || t == .code

def flagC (c : CoreState) : Bool := bit c.st 5

/-- C and V (R288). -/
def CoreState.setCV (c : CoreState) (cy v : Bool) : CoreState :=
  { c with st := splice (splice c.st 5 1 (ofBool cy)) 6 1 (ofBool v) }

/-- A signed result leaves the 32-bit range. -/
def overflows (i : Int) : Bool := decide (i < -2147483648) || decide (2147483647 < i)

/-- `a + b + cin` with C the carry out and V the signed overflow (R283). -/
def CoreState.addTo (c : CoreState) (gd : Nat) (a b : Word) (cin : Nat) : CoreState :=
  let n := a.toNat + b.toNat + cin
  (c.setReg gd (intNat n)).setCV (decide (2 ^ 32 ≤ n)) (overflows (a.toInt + b.toInt + cin))

/-- `a − b − bin` with C the borrow and V the signed overflow (R283). -/
def CoreState.subTo (c : CoreState) (gd : Nat) (a b : Word) (bin : Nat) : CoreState :=
  (c.setReg gd (intNat (a.toNat + 2 ^ 33 - b.toNat - bin))).setCV (decide (a.toNat < b.toNat + bin))
    (overflows (a.toInt - b.toInt - bin))

/-- An instruction on two INT registers, which replaces the core's state by `f`. -/
def State.intPair (s : State) (c1 : Bool) (ga gb : Nat) (f : CoreState → Word → Word → CoreState) :
    Host.Outcome State Fault Refusal :=
  s.plain c1 fun s c =>
    let x := c.reg ga
    let y := c.reg gb
    s.okIf c1 (checkTag 1 x isInt ++ checkTag 2 y isInt) (f c x.data y.data)

/-- An INT result that leaves the flags unchanged. -/
def State.intOp (s : State) (c1 : Bool) (gd ga gb : Nat) (f : Word → Word → Word) : Host.Outcome State Fault Refusal :=
  s.intPair c1 ga gb fun c a b => c.setReg gd (intWord (f a b))

/-- A division: a divisor of 0 raises ARITH (R283); `v` is the new V where the operation sets it. -/
def State.divOp (s : State) (c1 : Bool) (gd ga gb : Nat) (f : Word → Word → Word) (v : Word → Word → Bool) :
    Host.Outcome State Fault Refusal :=
  s.plain c1 fun s c =>
    let x := c.reg ga
    let y := c.reg gb
    let c' := c.setReg gd (intWord (f x.data y.data))
    s.okIf c1 (checkTag 1 x isInt ++ checkTag 2 y isInt ++ (if y.data = 0 then [trapDiv0] else []))
      (if v x.data y.data then { c' with st := setBit c'.st 6 } else c')

/-- −2^31 / −1 (R283). -/
def divOverflow (a b : Word) : Bool := a == 0x80000000#32 && b == 0xFFFFFFFF#32

/-- The result tag of a logical operation (R274). -/
def logicTag (x y : Tag) : Tag := if x = .raw ∨ y = .raw then .raw else if x = .bool ∧ y = .bool then .bool else .int

/-- A logical operation on two registers: INT or RAW in each position, or a BOOL pair, on which `mask` keeps bit 0. -/
def State.logicOp (s : State) (c1 : Bool) (gd ga gb : Nat) (mask : Bool) (f : Word → Word → Word) :
    Host.Outcome State Fault Refusal :=
  s.plain c1 fun s c =>
    let x := c.reg ga
    let y := c.reg gb
    let ts := if x.tag = .bool ∧ y.tag = .bool then [] else
      (if x.tag = .bool then [] else checkTag 1 x isIntRaw) ++ (if x.tag = .bool then checkTag 2 y isBool else checkTag 2 y isIntRaw)
    let v := f x.data y.data
    s.okIf c1 ts (c.setReg gd ⟨logicTag x.tag y.tag, if mask ∧ x.tag = .bool then v &&& 1#32 else v⟩)

/-- A logical operation with a zero-extended IMM18. -/
def State.logicImm (s : State) (c1 : Bool) (gd ga imm : Nat) (f : Word → Word → Word) : Host.Outcome State Fault Refusal :=
  s.plain c1 fun s c =>
    let x := c.reg ga
    s.okIf c1 (checkTag 1 x isIntRaw) (c.setReg gd ⟨x.tag, f x.data (BitVec.ofNat 32 imm)⟩)

/-- The four shifts: SHL, SHR, SAR and ROL by 0 to 31 (R283, R284). -/
def shifted (kind : Nat) (a : Word) (n : Nat) : Word :=
  match kind with
  | 0 => a <<< n
  | 1 => a >>> n
  | 2 => a.sshiftRight n
  | _ => a.rotateLeft n

/-- A shift by Gb [4:0]: Ga INT or RAW, Gb INT, the tag of Ga. -/
def State.shiftOp (s : State) (c1 : Bool) (gd ga gb kind : Nat) : Host.Outcome State Fault Refusal :=
  s.plain c1 fun s c =>
    let x := c.reg ga
    let y := c.reg gb
    s.okIf c1 (checkTag 1 x isIntRaw ++ checkTag 2 y isInt) (c.setReg gd ⟨x.tag, shifted kind x.data (y.data.toNat % 32)⟩)

/-- IMM18, sign-extended. -/
def simm18 (imm : Nat) : Int := signed 18 imm

/-- The truth of `a COND b` (R284): LT, GE, LE and GT signed, LTU and GEU unsigned. -/
def condHolds (cond : Nat) (a b : Word) : Bool :=
  match cond with
  | 0 => a == b
  | 1 => a != b
  | 2 => decide (a.toInt < b.toInt)
  | 3 => decide (b.toInt ≤ a.toInt)
  | 4 => decide (a.toNat < b.toNat)
  | 5 => decide (b.toNat ≤ a.toNat)
  | 6 => decide (a.toInt ≤ b.toInt)
  | _ => decide (b.toInt < a.toInt)

/-- PTR or CODE operands of one tag must name one segment (R274). -/
def sameSeg (x y : TWord) : List Trap := if segOf x.data = segOf y.data then [] else [trapTag 2 y.tag 2]

/-- The operands that a comparison accepts (R274): one tag for both. -/
def condCheck (cond : Nat) (x y : TWord) : List Trap :=
  let p (t : Tag) : Bool :=
    if cond < 2 then t != .empty
    else if cond = 4 ∨ cond = 5 then t == .int || t == .raw || t == .ptr || t == .code
    else t == .int || t == .frac
  checkTag 1 x p ++ (if y.tag = .empty ∨ p x.tag then checkTag 2 y (fun t => p t && t == x.tag) else []) ++
    (if (cond = 4 ∨ cond = 5) ∧ x.tag = y.tag ∧ isPtrCode x.tag then sameSeg x y else [])

/-- RETAG to tag `t` (R275): whether a mode may do it, and the data. -/
def retagAllowed (system : Bool) (x t : Tag) : Bool :=
  if t = .empty then true
  else if t = .ptr ∨ t = .code ∨ t = .handle ∨ x = .handle ∨ x = .empty then system
  else if x = .ptr ∨ x = .code then t == .int || t == .raw
  else true

def retagged (x : TWord) (t : Tag) : Word :=
  if t = .empty then 0
  else if t = .bool ∧ !(x.tag = .handle ∨ x.tag = .empty) then BitVec.ofNat 32 (ofBool (x.data != 0))
  else x.data

/-- ADDP and ADDPI (R274, R278): the offset moves by a signed number of bytes within 0 to 2^28 − 1. -/
def State.moveOp (s : State) (c1 : Bool) (gd ga : Nat) (ts : List Trap) (d : Int) : Res :=
  let c := s.core c1
  let x := c.reg ga
  let off := (offOf x.data : Int) + d
  s.okIf c1 (checkTag 1 x isPtrCode ++ ts ++ (if 0 ≤ off ∧ off < 2 ^ 28 then [] else [trapSeg 4 x.data]))
    (c.setReg gd ⟨x.tag, moveBy x.data d⟩)

/-! System registers (R288, R289). -/

/-- Word `i` of eight or four 32-bit parts of a wide number. -/
def part32 (v i : Nat) : Nat := slice v (32 * i) 32

/-- What MFS reads from system register `arg`; CYCLE_L is a free count that latches CYCLE_H. -/
def State.sysRead (s : State) (c1 : Bool) (arg : Nat) : TWord × State :=
  let c := s.core c1
  let v (n : Nat) : TWord × State := (intNat n, s)
  if arg = 0 then v c.st
  else if arg = 1 then (c.epc, s)
  else if arg = 2 then v c.est
  else if arg = 3 then v c.ecause
  else if arg = 4 then v c.eaddr
  else if arg = 5 then (c.vtab, s)
  else if arg = 6 then v (ofBool c1)
  else if arg = 7 then
    let (n, s) := s.drawFree
    (intNat n, s.setCore c1 { c with cycleH := BitVec.ofNat 32 (n / 2 ^ 32) })
  else if arg = 8 then (intWord c.cycleH, s)
  else if arg = 9 ∨ arg = 0xA then (c.scratch.getD (arg - 9) {}, s)
  else if 0x10 ≤ arg ∧ arg < 0x14 then v (part32 c.ien (arg - 0x10))
  else if 0x14 ≤ arg ∧ arg < 0x18 then v (part32 c.ipend (arg - 0x14))
  else if 0x18 ≤ arg ∧ arg < 0x20 then v (part32 c.iprio (arg - 0x18))
  else if 0x20 ≤ arg ∧ arg < 0x24 then (c.bp.getD (arg - 0x20) {}, s)
  else if arg = 0x24 ∨ arg = 0x25 then (c.wp.getD (arg - 0x24) {}, s)
  else if arg = 0x26 then v c.dctrl
  else if arg = 0x27 then v c.dstat
  else if 0x40 ≤ arg ∧ arg < 0x58 then
    let w := s.core1.gw.getD ((arg - 0x40) / 3) (0, 0, 0)
    v (if (arg - 0x40) % 3 = 0 then w.1 else if (arg - 0x40) % 3 = 1 then w.2.1 else w.2.2)
  else if arg = 0x58 ∧ c1 = false then v s.core1.ctrl
  else if arg = 0x59 ∧ c1 = false then (s.core1.entry, s)
  else v 0

/-- The system register exists (R289). -/
def sysExists (arg : Nat) : Bool :=
  decide (arg ≤ 0xA) || (decide (0x10 ≤ arg) && decide (arg ≤ 0x27)) || (decide (0x40 ≤ arg) && decide (arg ≤ 0x59))

/-- The tags that MTS accepts for a system register (R289). -/
def sysTag (arg : Nat) (t : Tag) : Bool :=
  if arg = 1 ∨ arg = 0x59 ∨ (0x20 ≤ arg ∧ arg < 0x24) then t == .code
  else if arg = 5 ∨ arg = 0x24 ∨ arg = 0x25 then t == .ptr
  else if arg = 9 ∨ arg = 0xA ∨ !sysExists arg then true
  else t == .int || t == .raw

/-- Register `i` of the grant windows is written (R289, R298). -/
def State.windowReg (s : State) (i v : Nat) : State :=
  let w := s.core1.gw.getD (i / 3) (0, 0, 0)
  s.writeWindow (i / 3) (if i % 3 = 0 then (v, w.2.1, w.2.2) else if i % 3 = 1 then (w.1, v, w.2.2) else (w.1, w.2.1, v % 16))

/-- C1_CTRL is written: RUN, then STOP (R298). -/
def State.coreCtrl (s : State) (v : Nat) : State :=
  let s := { s with core1 := { s.core1 with ctrl := v % 4 } }
  let s := if bit v 0 then s.core1Start else s
  if bit v 1 then s.core1Stop else s

/-- RESUME restarts a halted core (R296). -/
def CoreState.resume (c : CoreState) : CoreState := { c with halted := false }

/-- MTS writes `x` into system register `arg` (R288, R289). -/
def State.sysWrite (s : State) (c1 : Bool) (arg : Nat) (x : TWord) : State :=
  let c := s.core c1
  let v := x.data.toNat
  let set (c : CoreState) : State := s.setCore c1 c
  if arg = 0 then set { c with st := stWrite c.st v }
  else if arg = 1 then set { c with epc := x }
  else if arg = 2 then set { c with est := stWrite c.est v }
  else if arg = 5 then set { c with vtab := x }
  else if arg = 9 ∨ arg = 0xA then set { c with scratch := c.scratch.set (arg - 9) x }
  else if 0x10 ≤ arg ∧ arg < 0x14 then set { c with ien := splice c.ien (32 * (arg - 0x10)) 32 v }
  else if 0x14 ≤ arg ∧ arg < 0x18 then
    let old := part32 c.ipend (arg - 0x14)
    set { c with ipend := splice c.ipend (32 * (arg - 0x14)) 32 (old - Nat.land old v) }
  else if 0x18 ≤ arg ∧ arg < 0x20 then set { c with iprio := splice c.iprio (32 * (arg - 0x18)) 32 v }
  else if 0x20 ≤ arg ∧ arg < 0x24 then set { c with bp := c.bp.set (arg - 0x20) x }
  else if arg = 0x24 ∨ arg = 0x25 then set { c with wp := c.wp.set (arg - 0x24) x }
  else if arg = 0x26 then
    let c := { c with dctrl := v % 2 ^ 10 }
    set (if bit v 10 then c.resume else c)
  else if c1 = true then s
  else if 0x40 ≤ arg ∧ arg < 0x58 then s.windowReg (arg - 0x40) v
  else if arg = 0x58 then s.coreCtrl v
  else if arg = 0x59 then { s with core1 := { s.core1 with entry := x } }
  else s

/-- What SEGW refuses (R280). -/
def State.segwCheck (s : State) (c1 : Bool) (base limit attr : TWord) : List Trap :=
  let d : Desc := ⟨base.data.toNat, limit.data.toNat, attr.data.toNat⟩
  let empties := [(1, base), (2, limit), (3, attr)].flatMap fun x => checkTag x.1 x.2 fun t => t != .empty
  let bad := base.tag ≠ .int ∨ limit.tag ≠ .int ∨ attr.tag ≠ .int ∨ 128 ≤ d.attr ∨ slice d.attr 5 2 = 3 ∨ 2 ^ 28 ≤ d.limit ∨
    2 ^ 32 ≤ d.base + d.limit ∨ (slice d.attr 5 2 = 0 ∧ !(inSys d.base && inSys (d.base + d.limit)))
  empties ++ (if bad then [trapSeg 5 0] else if c1 = true ∧ !s.core1.granted d then [trapSeg 6 0] else [])

/-- The core waits with its clock stopped; once core 0 waits and core 1 waits or is stopped, DOZE_EN gates both clocks
(R284, R447). -/
def State.coreWait (s : State) (c1 : Bool) : State :=
  let c := s.core c1
  if Nat.land c.ipend c.ien ≠ 0 then s
  else
    let s := s.setCore c1 { c with run := .waiting }
    if s.on PRC_CTRL_DOZE_EN ∧ s.core0.run = .waiting ∧ (s.core1.run = .waiting ∨ s.core1.run = .stopped) ∧ s.power.state = .run then
      { s with power := { s.power with state := .doze } }
    else s

end Sys2Proof.Machine
end

