-- ==== Sys2Proof/Machine/Sloe.lean ====
section
/-! DEFINITION. The commands of the Sloe cores: the instructions of spec/11_sloe_core_isa.md, interrupts, debug, and the start
and stop of core 1. -/
namespace Sys2Proof.Machine

/-- `w` moved by `d` leaves the offsets 0 to 2^28 − 1: the access fails at the LIMIT check at the latest (R278). -/
def CoreState.reach (c : CoreState) (w : Word) (d : Int) (need : Nat) : List Trap :=
  let off := (offOf w : Int) + d
  if 0 ≤ off ∧ off < 2 ^ 28 then []
  else match c.segCheck w 1 need with
    | [] => [trapSeg 3 (moveBy w d)]
    | ts => ts

/-- A load (R285) from Ga + sign-extended IMM18. -/
def State.loadOp (s : State) (c1 : Bool) (gd ga imm n : Nat) (sext : Bool) (parity : Nat) : Host.Outcome State Fault Refusal :=
  s.plain c1 fun s c =>
    let x := c.reg ga
    let p := moveBy x.data (simm18 imm)
    let ts := checkTag 1 x isPtr ++ c.reach x.data (simm18 imm) 2
    if !ts.isEmpty then .fail s ts
    else match s.load c1 p n parity with
      | .fail s ts => .fail s ts
      | .wait s => .wait s
      | .data v s =>
        let v : TWord := if sext then ⟨v.tag, BitVec.ofInt 32 (signed (8 * n) v.data.toNat)⟩ else v
        .done (s.setCore c1 ((s.core c1).setReg gd v)) none [(p, false)]

/-- A store (R285) of Gd to Ga + sign-extended IMM18. -/
def State.storeOp (s : State) (c1 : Bool) (gd ga imm n : Nat) (parity : Nat) : Host.Outcome State Fault Refusal :=
  s.plain c1 fun s c =>
    let x := c.reg ga
    let v := c.reg gd
    let p := moveBy x.data (simm18 imm)
    let ts := checkTag 1 x isPtr ++ c.reach x.data (simm18 imm) 4
    if !ts.isEmpty then .fail s (ts ++ c.storeCheck p n v 3)
    else match s.store c1 p n v 3 parity with
      | .fail s ts => .fail s ts
      | .wait s => .wait s
      | .done s => .done s none [(p, true)]

/-- The registers of a MASK, ascending. -/
def maskRegs (mask : Nat) : List Nat := (List.range 15).filter (bit mask)

/-- G15 must hold a word-aligned PTR (R287). -/
def CoreState.stackCheck (c : CoreState) : List Trap :=
  let x := c.reg 15
  checkTag 0 x isPtr ++ (if x.tag = .ptr ∧ offOf x.data % 4 ≠ 0 then [trapAlign x.data] else [])

/-- Registers `ns` take the words `ws`. -/
def CoreState.setRegs (c : CoreState) (ns : List Nat) (ws : List TWord) : CoreState :=
  (ns.zip ws).foldl (fun (c : CoreState) x => c.setReg x.1 x.2) c

/-- The words of `ws` are stored downwards from below `p`, each checked as it is stored (R287). -/
def State.pushFrom (s : State) (c1 : Bool) (p : Word) : List TWord → List (Word × Bool) → (State → Word → List (Word × Bool) → Res) → Res
  | [], touched, k => k s p touched
  | w :: ws, touched, k =>
    let q := moveBy p (-4)
    match (if offOf p < 4 then .fail s ((s.core c1).reach p (-4) 4) else s.store c1 q 4 w 3 0 : Stored) with
    | .fail s ts => .fail s ts
    | .wait s => .wait s
    | .done s => s.pushFrom c1 q ws ((q, true) :: touched) k

/-- Words are pushed on the stack of G15; `k` completes the instruction with G15 moved. -/
def State.pushWords (s : State) (c1 : Bool) (ws : List TWord) (k : State → CoreState → Res) : Res :=
  let c := s.core c1
  match c.stackCheck with
  | [] => s.pushFrom c1 (c.reg 15).data ws [] fun s p touched =>
      match k s ((s.core c1).setReg 15 ⟨.ptr, p⟩) with
      | .done s target _ => .done s target touched
      | r => r
  | ts => .fail s ts

/-- `n` words are read upwards from `p`; none wraps past the last offset. -/
def State.popFrom (s : State) (c1 : Bool) : Nat → Word → List Nat → List TWord → List (Word × Bool) →
    (State → Word → List TWord → List (Word × Bool) → Res) → Res
  | 0, p, _, ws, touched, k => k s p ws touched
  | n + 1, p, parity, ws, touched, k =>
    let wraps := offOf p = 0 ∧ !ws.isEmpty
    match (if wraps then .fail s ((s.core c1).reach (moveBy p (-4)) 4 2) else s.load c1 p 4 (parity.headD 0) : Loaded) with
    | .fail s ts => .fail s ts
    | .wait s => .wait s
    | .data w s => s.popFrom c1 n (moveBy p 4) parity.tail (ws ++ [w]) (touched ++ [(p, false)]) k

/-- The words of the registers of a MASK are read from `p`. -/
def State.popRegs (s : State) (c1 : Bool) (mask : Nat) (p : Word) (parity : List Nat)
    (k : State → Word → List TWord → List (Word × Bool) → Res) : Res :=
  s.popFrom c1 (maskRegs mask).length p parity [] [] k

/-- BT and BF (R286). -/
def State.branchIf (s : State) (c1 : Bool) (ga v off : Nat) : Host.Outcome State Fault Refusal :=
  s.branch c1 fun s c =>
    let x := c.reg ga
    if x.tag ≠ .bool then .fail s (checkTag 1 x isBool)
    else .done s (if x.data.toNat = v then some (moveBy c.pc (4 * signed 22 off)) else none)

/-- What the debug port reads is shown to it. -/
def State.debugData (s : State) (w : Word) : State := { s with host := { s.host with readData := w.toNat } }

/-- R296: the debug port of core 1, open with DBG_EN; its accesses pass the core's own checks and do nothing where one fails. -/
def State.debugPort (s : State) (c1 : Bool) (op : DebugOp) : State :=
  let c := s.core c1
  let live := c.run == .running || c.run == .waiting
  let port := c.debugs c1
  let halt : State := s.setCore c1 { c with run := .running }
  let halt : State := if s.power.state = .doze then { halt with power := { s.power with state := .run } } else halt
  match op with
  | .boundary => if live && !c.halted && bit c.dctrl 9 then halt.coreHalt c1 none else s
  | .halt => if live && !c.halted && port then halt.coreHalt c1 none else s
  | op =>
    if !(c.halted && port) then s
    else match op with
      | .readG n => s.debugData (c.reg n).data
      | .writeG n t d => s.setCore c1 (c.setReg n ⟨Tag.ofCode t, d⟩)
      | .readSys n =>
        let (w, s) := s.sysRead c1 n
        s.debugData w.data
      | .writeSys n t d => if sysTag n (Tag.ofCode t) then s.sysWrite c1 n ⟨Tag.ofCode t, d⟩ else s
      | .load p => match s.load c1 p 4 0 with
        | .data w s => s.debugData w.data
        | .fail s _ => s
        | .wait s => s
      | .store p t d => match s.store c1 p 4 ⟨Tag.ofCode t, d⟩ 0 0 with
        | .done s => s
        | .fail s _ => s
        | .wait s => s
      | _ => s

/-- R283: Ga + Gb, with C and V. -/
def execAdd (core1 : Bool) (gd ga gb : Fin 16) (s : State) : Host.Outcome State Fault Refusal :=
  s.intPair core1 ga gb fun c a b => c.addTo gd a b 0

/-- R283: Ga − Gb, with C and V. -/
def execSub (core1 : Bool) (gd ga gb : Fin 16) (s : State) : Host.Outcome State Fault Refusal :=
  s.intPair core1 ga gb fun c a b => c.subTo gd a b 0

/-- R283: Ga + Gb + C, with C and V. -/
def execAddc (core1 : Bool) (gd ga gb : Fin 16) (s : State) : Host.Outcome State Fault Refusal :=
  s.intPair core1 ga gb fun c a b => c.addTo gd a b (ofBool (flagC c))

/-- R283: Ga − Gb − C, with C and V. -/
def execSubc (core1 : Bool) (gd ga gb : Fin 16) (s : State) : Host.Outcome State Fault Refusal :=
  s.intPair core1 ga gb fun c a b => c.subTo gd a b (ofBool (flagC c))

/-- R283: Ga AND Gb; on a BOOL pair on bit 0. -/
def execAnd (core1 : Bool) (gd ga gb : Fin 16) (s : State) : Host.Outcome State Fault Refusal :=
  s.logicOp core1 gd ga gb true fun a b => a &&& b

/-- R283: Ga OR Gb; on a BOOL pair on bit 0. -/
def execOr (core1 : Bool) (gd ga gb : Fin 16) (s : State) : Host.Outcome State Fault Refusal :=
  s.logicOp core1 gd ga gb true fun a b => a ||| b

/-- R283: Ga XOR Gb; on a BOOL pair on bit 0. -/
def execXor (core1 : Bool) (gd ga gb : Fin 16) (s : State) : Host.Outcome State Fault Refusal :=
  s.logicOp core1 gd ga gb true fun a b => a ^^^ b

/-- R283: Ga AND NOT Gb. -/
def execAndn (core1 : Bool) (gd ga gb : Fin 16) (s : State) : Host.Outcome State Fault Refusal :=
  s.logicOp core1 gd ga gb false fun a b => a &&& ~~~b

/-- R283: Ga << Gb [4:0]. -/
def execShl (core1 : Bool) (gd ga gb : Fin 16) (s : State) : Host.Outcome State Fault Refusal :=
  s.shiftOp core1 gd ga gb 0

/-- R283: Ga >> Gb [4:0], zero fill. -/
def execShr (core1 : Bool) (gd ga gb : Fin 16) (s : State) : Host.Outcome State Fault Refusal :=
  s.shiftOp core1 gd ga gb 1

/-- R283: Ga >> Gb [4:0], sign fill. -/
def execSar (core1 : Bool) (gd ga gb : Fin 16) (s : State) : Host.Outcome State Fault Refusal :=
  s.shiftOp core1 gd ga gb 2

/-- R283: Ga rotated left by Gb [4:0]. -/
def execRol (core1 : Bool) (gd ga gb : Fin 16) (s : State) : Host.Outcome State Fault Refusal :=
  s.shiftOp core1 gd ga gb 3

/-- R283: the low 32 bits of Ga × Gb. -/
def execMul (core1 : Bool) (gd ga gb : Fin 16) (s : State) : Host.Outcome State Fault Refusal :=
  s.intOp core1 gd ga gb fun a b => a * b

/-- R283: the high 32 bits of the signed product. -/
def execMulhs (core1 : Bool) (gd ga gb : Fin 16) (s : State) : Host.Outcome State Fault Refusal :=
  s.intOp core1 gd ga gb fun a b => BitVec.ofInt 32 (a.toInt * b.toInt / 4294967296)

/-- R283: the high 32 bits of the unsigned product. -/
def execMulhu (core1 : Bool) (gd ga gb : Fin 16) (s : State) : Host.Outcome State Fault Refusal :=
  s.intOp core1 gd ga gb fun a b => BitVec.ofNat 32 (a.toNat * b.toNat / 4294967296)

/-- R283: signed division truncated toward zero; −2^31 / −1 gives −2^31 with V. -/
def execDivs (core1 : Bool) (gd ga gb : Fin 16) (s : State) : Host.Outcome State Fault Refusal :=
  s.divOp core1 gd ga gb (fun a b => BitVec.ofInt 32 (a.toInt.tdiv b.toInt)) divOverflow

/-- R283: unsigned division. -/
def execDivu (core1 : Bool) (gd ga gb : Fin 16) (s : State) : Host.Outcome State Fault Refusal :=
  s.divOp core1 gd ga gb (fun a b => BitVec.ofNat 32 (a.toNat / b.toNat)) (fun _ _ => false)

/-- R283: the remainder with the sign of Ga. -/
def execRems (core1 : Bool) (gd ga gb : Fin 16) (s : State) : Host.Outcome State Fault Refusal :=
  s.divOp core1 gd ga gb (fun a b => BitVec.ofInt 32 (a.toInt.tmod b.toInt)) (fun _ _ => false)

/-- R283: the unsigned remainder. -/
def execRemu (core1 : Bool) (gd ga gb : Fin 16) (s : State) : Host.Outcome State Fault Refusal :=
  s.divOp core1 gd ga gb (fun a b => BitVec.ofNat 32 (a.toNat % b.toNat)) (fun _ _ => false)

/-- R283: the signed minimum. -/
def execMins (core1 : Bool) (gd ga gb : Fin 16) (s : State) : Host.Outcome State Fault Refusal :=
  s.intOp core1 gd ga gb fun a b => if b.toInt < a.toInt then b else a

/-- R283: the signed maximum. -/
def execMaxs (core1 : Bool) (gd ga gb : Fin 16) (s : State) : Host.Outcome State Fault Refusal :=
  s.intOp core1 gd ga gb fun a b => if a.toInt < b.toInt then b else a

/-- R282, R283: Ga + sign-extended IMM18, with C and V as ADD. -/
def execAddi (core1 : Bool) (gd ga : Fin 16) (imm : Fin 262144) (s : State) : Host.Outcome State Fault Refusal :=
  s.plain core1 fun s c =>
    let x := c.reg ga
    s.okIf core1 (checkTag 1 x isInt) (c.addTo gd x.data (BitVec.ofInt 32 (simm18 imm)) 0)

/-- R282: Ga and the zero-extended IMM18. -/
def execAndi (core1 : Bool) (gd ga : Fin 16) (imm : Fin 262144) (s : State) : Host.Outcome State Fault Refusal :=
  s.logicImm core1 gd ga imm fun a b => a &&& b

/-- R282: Ga and the zero-extended IMM18. -/
def execOri (core1 : Bool) (gd ga : Fin 16) (imm : Fin 262144) (s : State) : Host.Outcome State Fault Refusal :=
  s.logicImm core1 gd ga imm fun a b => a ||| b

/-- R282: Ga and the zero-extended IMM18. -/
def execXori (core1 : Bool) (gd ga : Fin 16) (imm : Fin 262144) (s : State) : Host.Outcome State Fault Refusal :=
  s.logicImm core1 gd ga imm fun a b => a ^^^ b

/-- R284: SHL, SHR, SAR or ROL by a constant. -/
def execShi (core1 : Bool) (gd ga : Fin 16) (kind : Fin 4) (amt : Fin 32) (s : State) : Host.Outcome State Fault Refusal :=
  s.plain core1 fun s c =>
    let x := c.reg ga
    s.okIf core1 (checkTag 1 x isIntRaw) (c.setReg gd ⟨x.tag, shifted kind x.data amt⟩)

/-- R282: IMM18 << 14 as INT. -/
def execLui (core1 : Bool) (gd : Fin 16) (imm : Fin 262144) (s : State) : Host.Outcome State Fault Refusal :=
  s.plain core1 fun s c => s.ok core1 (c.setReg gd (intNat (imm.val * 16384)))

/-- R284: the BOOL of Ga COND Gb. -/
def execCmp (core1 : Bool) (gd ga gb : Fin 16) (cond : Fin 8) (s : State) : Host.Outcome State Fault Refusal :=
  s.plain core1 fun s c =>
    let x := c.reg ga
    let y := c.reg gb
    s.okIf core1 (condCheck cond x y) (c.setReg gd (boolWord (condHolds cond x.data y.data)))

/-- R284: the BOOL of Ga COND sign-extended IMM15; Ga is INT. -/
def execCmpi (core1 : Bool) (gd ga : Fin 16) (cond : Fin 8) (imm : Fin 32768) (s : State) : Host.Outcome State Fault Refusal :=
  s.plain core1 fun s c =>
    let x := c.reg ga
    s.okIf core1 (checkTag 1 x isInt) (c.setReg gd (boolWord (condHolds cond x.data (BitVec.ofInt 32 (signed 15 imm)))))

/-- R284: Ga with its tag. -/
def execMov (core1 : Bool) (gd ga : Fin 16) (s : State) : Host.Outcome State Fault Refusal :=
  s.plain core1 fun s c => s.ok core1 (c.setReg gd (c.reg ga))

/-- R284: the tag of Ga as INT. -/
def execTagof (core1 : Bool) (gd ga : Fin 16) (s : State) : Host.Outcome State Fault Refusal :=
  s.plain core1 fun s c => s.ok core1 (c.setReg gd (intNat (c.reg ga).tag.num))

/-- R275: Ga with tag t; a forbidden conversion raises PRIV. -/
def execRetag (core1 : Bool) (gd ga : Fin 16) (tag : Fin 8) (s : State) : Host.Outcome State Fault Refusal :=
  s.plain core1 fun s c =>
    let x := c.reg ga
    let t := Tag.ofCode tag
    s.okIf core1 (if retagAllowed c.system x.tag t then [] else [trapPriv]) (c.setReg gd ⟨t, retagged x t⟩)

/-- R284: TAG_TRAP with SUB = CHKTAG unless Ga has tag T. -/
def execChktag (core1 : Bool) (ga : Fin 16) (tag : Fin 8) (s : State) : Host.Outcome State Fault Refusal :=
  s.plain core1 fun s c =>
    let x := c.reg ga
    s.okIf core1 (if x.tag.num = tag then [] else [trapTag 4 x.tag 1]) c

/-- R285, R279: the word at Ga + IMM18; `parity` is what the memory finds wrong (R316). -/
def execLdw (core1 : Bool) (gd ga : Fin 16) (imm : Fin 262144) (parity : Fin 32) (s : State) : Host.Outcome State Fault Refusal :=
  s.loadOp core1 gd ga imm 4 false parity

/-- R285, R279: the sign-extended halfword at Ga + IMM18; `parity` is what the memory finds wrong (R316). -/
def execLdh (core1 : Bool) (gd ga : Fin 16) (imm : Fin 262144) (parity : Fin 32) (s : State) : Host.Outcome State Fault Refusal :=
  s.loadOp core1 gd ga imm 2 true parity

/-- R285, R279: the zero-extended halfword at Ga + IMM18; `parity` is what the memory finds wrong (R316). -/
def execLdhu (core1 : Bool) (gd ga : Fin 16) (imm : Fin 262144) (parity : Fin 32) (s : State) : Host.Outcome State Fault Refusal :=
  s.loadOp core1 gd ga imm 2 false parity

/-- R285, R279: the sign-extended byte at Ga + IMM18; `parity` is what the memory finds wrong (R316). -/
def execLdb (core1 : Bool) (gd ga : Fin 16) (imm : Fin 262144) (parity : Fin 32) (s : State) : Host.Outcome State Fault Refusal :=
  s.loadOp core1 gd ga imm 1 true parity

/-- R285, R279: the zero-extended byte at Ga + IMM18; `parity` is what the memory finds wrong (R316). -/
def execLdbu (core1 : Bool) (gd ga : Fin 16) (imm : Fin 262144) (parity : Fin 32) (s : State) : Host.Outcome State Fault Refusal :=
  s.loadOp core1 gd ga imm 1 false parity

/-- R285, R279: Gd to the word at Ga + IMM18. -/
def execStw (core1 : Bool) (gd ga : Fin 16) (imm : Fin 262144) (s : State) : Host.Outcome State Fault Refusal :=
  s.storeOp core1 gd ga imm 4 0

/-- R285, R279: Gd [15:0] to the halfword at Ga + IMM18. -/
def execSth (core1 : Bool) (gd ga : Fin 16) (imm : Fin 262144) (parity : Fin 32) (s : State) : Host.Outcome State Fault Refusal :=
  s.storeOp core1 gd ga imm 2 parity

/-- R285, R279: Gd [7:0] to the byte at Ga + IMM18. -/
def execStb (core1 : Bool) (gd ga : Fin 16) (imm : Fin 262144) (parity : Fin 32) (s : State) : Host.Outcome State Fault Refusal :=
  s.storeOp core1 gd ga imm 1 parity

/-- R274, R278: Ga + Gb, offset only. -/
def execAddp (core1 : Bool) (gd ga gb : Fin 16) (s : State) : Host.Outcome State Fault Refusal :=
  s.plain core1 fun s c => s.moveOp core1 gd ga (checkTag 2 (c.reg gb) isInt) (c.reg gb).data.toInt

/-- R274, R278: Ga + sign-extended IMM18, offset only. -/
def execAddpi (core1 : Bool) (gd ga : Fin 16) (imm : Fin 262144) (s : State) : Host.Outcome State Fault Refusal :=
  s.plain core1 fun s _ => s.moveOp core1 gd ga [] (simm18 imm)

/-- R274: the difference of two offsets in one segment. -/
def execSubp (core1 : Bool) (gd ga gb : Fin 16) (s : State) : Host.Outcome State Fault Refusal :=
  s.plain core1 fun s c =>
    let x := c.reg ga
    let y := c.reg gb
    let ts := checkTag 1 x isPtrCode ++ (if isPtrCode x.tag then checkTag 2 y (fun t => t == x.tag) else []) ++
      (if isPtrCode x.tag ∧ x.tag = y.tag then sameSeg x y else [])
    s.okIf core1 ts (c.setReg gd (intNat (2 ^ 32 + offOf x.data - offOf y.data)))

/-- R286: PTR SEG:IMM18. -/
def execLea (core1 : Bool) (gd seg : Fin 16) (imm : Fin 262144) (s : State) : Host.Outcome State Fault Refusal :=
  s.plain core1 fun s c => s.ok core1 (c.setReg gd ⟨.ptr, segWord seg imm⟩)

/-- R286: CODE (PC + 4 × OFF22), in the segment of PC. -/
def execLeac (core1 : Bool) (gd : Fin 16) (off : Fin 4194304) (s : State) : Host.Outcome State Fault Refusal :=
  s.plain core1 fun s c => s.ok core1 (c.setReg gd ⟨.code, moveBy c.pc (4 * signed 22 off)⟩)

/-- R287: pushes the registers of MASK in ascending order. -/
def execPushm (core1 : Bool) (mask : Fin 32768) (s : State) : Host.Outcome State Fault Refusal :=
  s.plain core1 fun s c =>
    s.pushWords core1 ((maskRegs mask).map c.reg) fun s c => s.ok core1 c

/-- R287: pops the registers of MASK in descending order. -/
def execPopm (core1 : Bool) (mask : Fin 32768) (parity : List Nat) (s : State) : Host.Outcome State Fault Refusal :=
  s.plain core1 fun s c =>
    match c.stackCheck with
    | [] => s.popRegs core1 mask.val (c.reg 15).data parity fun s p ws touched =>
        .done (s.setCore core1 (((s.core core1).setRegs (maskRegs mask).reverse ws).setReg 15 ⟨.ptr, p⟩)) none touched
    | ts => .fail s ts

/-- R285: compares the word at Ga with Gd, data and tag, and swaps in Gb where they are equal; system SRAM only. -/
def execCas (core1 : Bool) (gd ga gb : Fin 16) (parity : Fin 32) (s : State) : Host.Outcome State Fault Refusal :=
  s.plain core1 fun s c =>
    let p := c.reg ga
    let want := c.reg gd
    let v := c.reg gb
    let a := c.phys p.data
    let ts := checkTag 3 want (fun t => t != .empty) ++ checkTag 2 v (fun t => t != .empty) ++ checkTag 1 p isPtr
    let ts := if p.tag = .ptr then ts ++ c.access p.data 4 6 else ts
    if !ts.isEmpty then .fail s ts
    else if !inSys a then .fail s [trapBus 1 a]
    else match s.load core1 p.data 4 parity with
      | .fail s ts => .fail s ts
      | .wait s => .wait s
      | .data old s =>
        if old = want then
          match s.store core1 p.data 4 v 2 0 with
          | .done s => .done (s.setCore core1 ((s.core core1).setReg gd old)) none [(p.data, false), (p.data, true)]
          | .fail s ts => .fail s ts
          | .wait s => .wait s
        else .done (s.setCore core1 ((s.core core1).setReg gd old)) none [(p.data, false)]

/-- R286: PC + 4 × OFF26. -/
def execBr (core1 : Bool) (off : Fin 67108864) (s : State) : Host.Outcome State Fault Refusal :=
  s.branch core1 fun s c => .done s (some (moveBy c.pc (4 * signed 26 off)))

/-- R286: branches if the BOOL in Ga is 1. -/
def execBt (core1 : Bool) (ga : Fin 16) (off : Fin 4194304) (s : State) : Host.Outcome State Fault Refusal :=
  s.branchIf core1 ga 1 off

/-- R286: branches if the BOOL in Ga is 0. -/
def execBf (core1 : Bool) (ga : Fin 16) (off : Fin 4194304) (s : State) : Host.Outcome State Fault Refusal :=
  s.branchIf core1 ga 0 off

/-- R286: PC = Ga, its fetch checked at the transfer. -/
def execJmp (core1 : Bool) (ga : Fin 16) (s : State) : Host.Outcome State Fault Refusal :=
  s.branch core1 fun s c =>
    let x := c.reg ga
    let ts := checkTag 1 x isCode ++ (if x.tag = .code then c.access x.data 4 8 else [])
    if ts.isEmpty then .done s (some x.data) else .fail s ts

/-- R287: pushes the return address, the registers of MASK and the frame word, and jumps to Gt. A target that fails the
segment checks of its fetch comes before every other cause (R286, R290). -/
def execCall (core1 : Bool) (gt : Fin 16) (mask : Fin 32768) (s : State) : Host.Outcome State Fault Refusal :=
  s.branch core1 fun s c =>
    let x := c.reg gt
    let ts := checkTag 3 x isCode ++ (if x.tag = .code then c.access x.data 4 8 else [])
    let words := [⟨.code, moveBy c.pc 4⟩] ++ (maskRegs mask).map c.reg ++ [⟨.handle, BitVec.ofNat 32 (0xCA110000 + mask)⟩]
    if ts.isEmpty then s.pushWords core1 words fun s c => .done (s.setCore core1 c) (some x.data)
    else if x.tag = .code ∧ !(c.segCheck x.data 4 8).isEmpty then .fail s (c.segCheck x.data 4 8)
    else .fail s (ts ++ (s.pushWords core1 words fun s _ => .done s).failures)

/-- R287: checks the frame word, pops the registers of its MASK and the return word, and jumps there. -/
def execRet (core1 : Bool) (parity : List Nat) (s : State) : Host.Outcome State Fault Refusal :=
  s.branch core1 fun s c =>
    match c.stackCheck with
    | [] =>
      let p := (c.reg 15).data
      (match s.load core1 p 4 (parity.headD 0) with
      | .fail s ts => .fail s ts
      | .wait s => .wait s
      | .data f s =>
        if f.tag ≠ .handle ∨ f.data.toNat / 65536 ≠ 0xCA11 then .fail s [trapStack p]
        else
          let mask := f.data.toNat % 32768
          s.popRegs core1 mask (moveBy p 4) parity.tail fun s q ws touched =>
            match s.load core1 q 4 (parity.getD (1 + ws.length) 0) with
            | .fail s ts => .fail s ts
            | .wait s => .wait s
            | .data r s =>
              if r.tag ≠ .code then .fail s [trapTag 0 r.tag 0]
              else .done (s.setCore core1 (((s.core core1).setRegs (maskRegs mask).reverse ws).setReg 15 ⟨.ptr, moveBy q 4⟩))
                (some r.data) ((p, false) :: (touched ++ [(q, false)])))
    | ts => .fail s ts

/-- R284: SYSCALL with EADDR = ARG. -/
def execTrap (core1 : Bool) (arg : Fin 256) (s : State) : Host.Outcome State Fault Refusal :=
  s.branch core1 fun s _ => .fail s [trapSyscall arg]

/-- R284, R296: halts in debug or raises BKPT. -/
def execBkpt (core1 : Bool) (s : State) : Host.Outcome State Fault Refusal :=
  s.plain core1 fun s _ => .fail s [trapBkpt 0 0]

/-- R284: stops the core's clock until an enabled line is pending. -/
def execWait (core1 : Bool) (s : State) : Host.Outcome State Fault Refusal :=
  s.plain core1 fun s _ => .done (s.coreWait core1)

/-- R284, R295: an enabled pending line ends WAIT, with an entry where the line is eligible; a Doze ends with it (R451). -/
def execWaitWake (core1 : Bool) (s : State) : Host.Outcome State Fault Refusal :=
  if !(s.core core1).wakes then goOn s
  else
    let s : State := if s.power.state = .doze then { s with power := { s.power with state := .run } } else s
    let s := s.setCore core1 (s.core core1).leaveWait
    goOn (if s.issues core1 then (s.coreBoundary core1).getD s else s)

/-- R284: every earlier store has completed, or has raised BUS before this instruction. -/
def execFence (core1 : Bool) (s : State) : Host.Outcome State Fault Refusal :=
  s.plain core1 fun s _ => .done s

/-- R292, R293: PC = EPC and ST = EST. -/
def execEret (core1 : Bool) (s : State) : Host.Outcome State Fault Refusal :=
  s.branch core1 fun s c =>
    let ts := c.privCheck ++ (if c.epc.tag = .code then [] else [trapTag (if c.epc.tag = .empty then 1 else 0) c.epc.tag 0])
    if ts.isEmpty then .done (s.setCore core1 { c with st := stWrite c.st c.est }) (some c.epc.data) else .fail s ts

/-- R289: Gd = system register ARG. -/
def execMfs (core1 : Bool) (gd : Fin 16) (arg : Fin 256) (s : State) : Host.Outcome State Fault Refusal :=
  s.plain core1 fun s c =>
    let ts := if arg.val = 0 ∨ arg.val = 6 ∨ arg.val = 7 ∨ arg.val = 8 then [] else c.privCheck
    if !ts.isEmpty then .fail s ts
    else
      let (v, s) := s.sysRead core1 arg
      s.ok core1 ((s.core core1).setReg gd v)

/-- R289: system register ARG = Ga, after its tag check. -/
def execMts (core1 : Bool) (ga : Fin 16) (arg : Fin 256) (s : State) : Host.Outcome State Fault Refusal :=
  s.plain core1 fun s c =>
    let x := c.reg ga
    let ts := c.privCheck ++ checkTag 1 x (sysTag arg)
    if ts.isEmpty then .done (s.sysWrite core1 arg x) else .fail s ts

/-- R280: S[seg] = BASE Ga, LIMIT Gb, ATTR Gd. -/
def execSegw (core1 : Bool) (gd ga gb seg : Fin 16) (s : State) : Host.Outcome State Fault Refusal :=
  s.plain core1 fun s c =>
    let base := c.reg ga
    let limit := c.reg gb
    let attr := c.reg gd
    s.okIf core1 (c.privCheck ++ s.segwCheck core1 base limit attr)
      { c with segs := c.segs.set seg ⟨base.data.toNat, limit.data.toNat, attr.data.toNat⟩ }

/-- R284: Gd = BASE, LIMIT or ATTR of S[seg]. -/
def execSegr (core1 : Bool) (gd seg : Fin 16) (part : Fin 3) (s : State) : Host.Outcome State Fault Refusal :=
  s.plain core1 fun s c =>
    let d := c.segs.getD seg {}
    s.okIf core1 c.privCheck (c.setReg gd (intNat ([d.base, d.limit, d.attr].getD part 0)))

/-- R284: ST.IE = 1. -/
def execIena (core1 : Bool) (s : State) : Host.Outcome State Fault Refusal :=
  s.plain core1 fun s c => s.okIf core1 c.privCheck { c with st := setBit c.st 1 }

/-- R284: ST.IE = 0. -/
def execIdis (core1 : Bool) (s : State) : Host.Outcome State Fault Refusal :=
  s.plain core1 fun s c => s.okIf core1 c.privCheck { c with st := clearBit c.st 1 }

/-- R281, R282: an undefined opcode, field or code raises ILLEGAL. -/
def execIllegal (core1 : Bool) (s : State) : Host.Outcome State Fault Refusal :=
  s.plain core1 fun s _ => .fail s [trapIllegal]

/-- R294: at an instruction boundary the eligible line of highest priority is taken; halt requests and imprecise errors come before it. -/
def execInterruptEntry (core1 : Bool) (s : State) : Host.Outcome State Fault Refusal :=
  goOn (if s.issues core1 then (s.coreBoundary core1).getD s else s)

/-- R285: the bus error of a buffered store is reported at the boundary. -/
def execImpreciseBusError (core1 : Bool) (s : State) : Host.Outcome State Fault Refusal :=
  goOn (if s.issues core1 ∧ !bit (s.core core1).dctrl 9 then
    match (s.core core1).storeErr with
    | some a => s.reportStore core1 a
    | none => s
  else s)

/-- R296: HALT_REQ, of the core or of the debug port of core 1, halts the core with E13; while it is halted the debug port reads and writes it. -/
def execDebugHalt (core1 : Bool) (op : DebugOp) (s : State) : Host.Outcome State Fault Refusal :=
  goOn (s.debugPort core1 op)

/-- R296: RESUME restarts a halted core. -/
def execDebugResume (core1 : Bool) (s : State) : Host.Outcome State Fault Refusal :=
  goOn (s.setCore core1 (s.core core1).resume)

/-- R298: C1_CTRL RUN starts core 1. -/
def execCore1Run  (s : State) : Host.Outcome State Fault Refusal :=
  goOn (s.coreCtrl 1)

/-- R298: C1_CTRL STOP halts core 1. -/
def execCore1Stop  (s : State) : Host.Outcome State Fault Refusal :=
  goOn (s.coreCtrl 2)

/-- R298: core 0 writes a register of a grant window. -/
def execGrantWindowWrite (reg : Fin 24) (value : Word) (s : State) : Host.Outcome State Fault Refusal :=
  goOn (s.windowReg reg value.toNat)

/-- R299, R461: an output of the checker differs: a FATAL fault and the lock-up reset. -/
def execCheckerMismatch  (s : State) : Host.Outcome State Fault Refusal :=
  if s.core1.checker ∧ s.core1.run = .running then goOn ((s.fatal 2 s.core0.pc.toNat 0 false).requestReset 0x4D) else goOn s

end Sys2Proof.Machine
end

