-- ==== Sys2Proof/Machine/SloeSignal.lean ====
section
/-! DEFINITION. The signal extension of the Sloe cores (spec/12_sloe_signal_extension.md): fractional arithmetic with
rounding and saturation, TAP, and block repeat. -/
namespace Sys2Proof.Machine

/-- rnd(v, s) of R302 under rounding mode RND. -/
def rounded (rnd : Nat) (v : Int) (n : Nat) : Int :=
  if n = 0 then v
  else
    let q := v / 2 ^ n
    let r := v - q * 2 ^ n
    let h : Int := 2 ^ (n - 1)
    match rnd with
    | 0 => q
    | 1 => if h ≤ r then q + 1 else q
    | _ => if h < r ∨ (r = h ∧ q % 2 ≠ 0) then q + 1 else q

/-- prod(a, b) of R302. -/
def product (rnd : Nat) (a b : Int) : Int := rounded rnd (a * b) 31

def CoreState.rounding (c : CoreState) : Nat := slice c.st 16 2
def CoreState.accum (c : CoreState) (n : Nat) : Int := c.acc.getD n 0

/-- An overflow of kind `k` (0 AOV, 1 SOV): the trap under OVTRAP, else the sticky bit (R303, R311). -/
def CoreState.overflow (c : CoreState) (k : Nat) : List Trap × CoreState :=
  if bit c.st 19 then ([trapOverflow k], c) else ([], { c with st := setBit c.st (20 + k) })

/-- sat40(v) of R302: the value for an accumulator, the trap if any, and the core with AOV. -/
def CoreState.sat40 (c : CoreState) (v : Int) : Int × List Trap × CoreState :=
  if -549755813888 ≤ v ∧ v ≤ 549755813887 then (v, [], c)
  else
    let w := if bit c.st 18 then (if v < 0 then -549755813888 else 549755813887) else signed 40 (unsigned 40 v)
    (w, c.overflow 0)

/-- sat32(v) of R302. -/
def CoreState.sat32 (c : CoreState) (v : Int) : Int × List Trap × CoreState :=
  if -2147483648 ≤ v ∧ v ≤ 2147483647 then (v, [], c)
  else ((if v < 0 then -2147483648 else 2147483647), c.overflow 1)

/-- The instruction ends with An = sat40(v), unless a check of `ts` or SXOVF stops it. -/
def State.toAcc (s : State) (c1 : Bool) (ts : List Trap) (an : Nat) (v : Int) : Res :=
  let (w, tv, c) := (s.core c1).sat40 v
  s.okIf c1 (ts ++ tv) { c with acc := c.acc.set an w }

/-- The instruction ends with Gd = sat32(v) as FRAC. -/
def State.toReg (s : State) (c1 : Bool) (ts : List Trap) (gd : Nat) (v : Int) : Res :=
  let (w, tv, c) := (s.core c1).sat32 v
  s.okIf c1 (ts ++ tv) (c.setReg gd ⟨.frac, BitVec.ofInt 32 w⟩)

/-- MPY, MAC and MSU: `f` of the old accumulator and the product. -/
def State.productOp (s : State) (c1 : Bool) (an ga gb : Nat) (f : Int → Int → Int) : Host.Outcome State Fault Refusal :=
  s.plain c1 fun s c =>
    let x := c.reg ga
    let y := c.reg gb
    s.toAcc c1 (checkTag 1 x isFrac ++ checkTag 2 y isFrac) an (f (c.accum an) (product c.rounding x.data.toInt y.data.toInt))

/-- FADDS, FSUBS and FMULR: `f` of the rounding mode and the operands. -/
def State.fracOp (s : State) (c1 : Bool) (gd ga gb : Nat) (f : Nat → Int → Int → Int) : Host.Outcome State Fault Refusal :=
  s.plain c1 fun s c =>
    let x := c.reg ga
    let y := c.reg gb
    s.toReg c1 (checkTag 1 x isFrac ++ checkTag 2 y isFrac) gd (f c.rounding x.data.toInt y.data.toInt)

/-- Opcode 0x32: `f` of the rounding mode, An and Am. -/
def State.accOp (s : State) (c1 : Bool) (an am : Nat) (f : Nat → Int → Int → Int) : Host.Outcome State Fault Refusal :=
  s.plain c1 fun s c => s.toAcc c1 [] an (f c.rounding (c.accum an) (c.accum am))

/-! TAP (R305 to R307). -/

def isFracRaw (t : Tag) : Bool := t == .frac || t == .raw

/-- Bytes by which a post-modify moves, and whether it is circular (R305). -/
def modStep (m : Nat) : Int := if m = 1 ∨ m = 3 then 4 else if m = 0 then 0 else -4
def modCircular (m : Nat) : Bool := 3 ≤ m

/-- The offset of `w` moved by `d` within 0 to LIMIT (R307). -/
def CoreState.circled (c : CoreState) (w : Word) (d : Int) : Word :=
  segWord (segOf w) (((offOf w : Int) + d) % (((c.seg w).limit + 1 : Nat) : Int)).toNat

/-- The pointer after its post-modify. -/
def CoreState.modified (c : CoreState) (w : Word) (m : Nat) : Word :=
  if modCircular m then c.circled w (modStep m) else moveBy w (modStep m)

/-- What a post-modify refuses: a linear one that leaves 0 to 2^28 − 1, a circular one in a segment that does not fit. -/
def CoreState.modCheck (c : CoreState) (w : Word) (m : Nat) : List Trap :=
  let off := (offOf w : Int) + modStep m
  if modCircular m then
    (if ((c.seg w).limit + 1) % 4 = 0 ∧ offOf w ≤ (c.seg w).limit then [] else [trapAlign w])
  else if 0 ≤ off ∧ off < 2 ^ 28 then [] else [trapSeg 4 w]

/-- The target of the delay-line move: the offset of Gx plus 4, wrapped where XMOD is circular (R306). -/
def CoreState.tapTarget (c : CoreState) (w : Word) (m : Nat) : Word := if modCircular m then c.circled w 4 else moveBy w 4

/-- A linear move target past the last offset. -/
def CoreState.targetCheck (_c : CoreState) (w : Word) (m : Nat) : List Trap :=
  if !modCircular m && decide (2 ^ 28 ≤ offOf w + 4) then [trapSeg 4 w] else []

/-! The repeat stack in memory (R309). -/

/-- The 13 words of the repeat stack. -/
def CoreState.repWords (c : CoreState) : List TWord :=
  [intNat c.reps.length] ++ (List.range 4).flatMap fun k => match c.reps[k]? with
    | some e => [⟨.code, e.start⟩, ⟨.code, e.stop⟩, intNat e.count]
    | none => [⟨.empty, 0⟩, ⟨.empty, 0⟩, ⟨.empty, 0⟩]

/-- The entry that three words make. -/
def repEntry (a b n : TWord) : Except Trap RepEntry :=
  if a.tag ≠ .code then .error (trapTag (if a.tag = .empty then 1 else 0) a.tag 0)
  else if b.tag ≠ .code then .error (trapTag (if b.tag = .empty then 1 else 0) b.tag 0)
  else if n.tag ≠ .int then .error (trapTag (if n.tag = .empty then 1 else 0) n.tag 0)
  else .ok { start := a.data, stop := b.data, count := n.data.toNat }

/-- The first `n` entries of a list of words. -/
def repEntries : Nat → List TWord → Except Trap (List RepEntry)
  | 0, _ => .ok []
  | n + 1, ws => match repEntry (ws.getD 0 {}) (ws.getD 1 {}) (ws.getD 2 {}), repEntries n (ws.drop 3) with
    | .ok e, .ok es => .ok (e :: es)
    | .error t, _ => .error t
    | _, .error t => .error t

/-- The repeat stack that 13 words make: DEPTH is an INT from 0 to 4. -/
def repStack (ws : List TWord) : Except Trap (List RepEntry) :=
  let d := ws.getD 0 {}
  if d.tag ≠ .int ∨ 4 < d.data.toNat then .error (trapTag (if d.tag = .empty then 1 else 0) d.tag 0)
  else repEntries d.data.toNat (ws.drop 1)

/-- Checked words are stored upwards from `p`. -/
def State.storeAll (s : State) (c1 : Bool) (p : Word) : List TWord → Stored
  | [] => .done s
  | w :: ws => match s.storeRaw c1 p 4 w 0 with
    | .done s => s.storeAll c1 (moveBy p 4) ws
    | r => r

/-- R304: An = prod(Ga, Gb). -/
def execMpy (core1 : Bool) (an : Fin 4) (ga gb : Fin 16) (s : State) : Host.Outcome State Fault Refusal :=
  s.productOp core1 an ga gb fun _ p => p

/-- R304: An = sat40(An + prod(Ga, Gb)). -/
def execMac (core1 : Bool) (an : Fin 4) (ga gb : Fin 16) (s : State) : Host.Outcome State Fault Refusal :=
  s.productOp core1 an ga gb fun a p => a + p

/-- R304: An = sat40(An − prod(Ga, Gb)). -/
def execMsu (core1 : Bool) (an : Fin 4) (ga gb : Fin 16) (s : State) : Host.Outcome State Fault Refusal :=
  s.productOp core1 an ga gb fun a p => a - p

/-- R304: Gd = sat32(Ga + Gb). -/
def execFadds (core1 : Bool) (gd ga gb : Fin 16) (s : State) : Host.Outcome State Fault Refusal :=
  s.fracOp core1 gd ga gb fun _ a b => a + b

/-- R304: Gd = sat32(Ga − Gb). -/
def execFsubs (core1 : Bool) (gd ga gb : Fin 16) (s : State) : Host.Outcome State Fault Refusal :=
  s.fracOp core1 gd ga gb fun _ a b => a - b

/-- R304: Gd = sat32(prod(Ga, Gb)). -/
def execFmulr (core1 : Bool) (gd ga gb : Fin 16) (s : State) : Host.Outcome State Fault Refusal :=
  s.fracOp core1 gd ga gb fun rnd a b => product rnd a b

/-- R304: An = 0. -/
def execAclr (core1 : Bool) (an : Fin 4) (s : State) : Host.Outcome State Fault Refusal :=
  s.plain core1 fun s c => s.ok core1 { c with acc := c.acc.set an 0 }

/-- R304: An = Am. -/
def execAmov (core1 : Bool) (an am : Fin 4) (s : State) : Host.Outcome State Fault Refusal :=
  s.accOp core1 an am fun _ _ m => m

/-- R304: An = sat40(An + Am). -/
def execAadd (core1 : Bool) (an am : Fin 4) (s : State) : Host.Outcome State Fault Refusal :=
  s.accOp core1 an am fun _ a m => a + m

/-- R304: An = sat40(An − Am). -/
def execAsub (core1 : Bool) (an am : Fin 4) (s : State) : Host.Outcome State Fault Refusal :=
  s.accOp core1 an am fun _ a m => a - m

/-- R304: An = sat40(−Am). -/
def execAneg (core1 : Bool) (an am : Fin 4) (s : State) : Host.Outcome State Fault Refusal :=
  s.accOp core1 an am fun _ _ m => -m

/-- R304: An = sat40(abs(Am)). -/
def execAabs (core1 : Bool) (an am : Fin 4) (s : State) : Host.Outcome State Fault Refusal :=
  s.accOp core1 an am fun _ _ m => if m < 0 then -m else m

/-- R304: An = sat40(Am × 2^k). -/
def execAshl (core1 : Bool) (an am : Fin 4) (k : Fin 32) (s : State) : Host.Outcome State Fault Refusal :=
  s.accOp core1 an am fun _ _ m => m * 2 ^ k.val

/-- R304: An = rnd(Am, k). -/
def execAshr (core1 : Bool) (an am : Fin 4) (k : Fin 32) (s : State) : Host.Outcome State Fault Refusal :=
  s.accOp core1 an am fun rnd _ m => rounded rnd m k

/-- R304: Gd = sat32(rnd(Am, k)), FRAC. -/
def execMvaf (core1 : Bool) (gd : Fin 16) (am : Fin 4) (k : Fin 32) (s : State) : Host.Outcome State Fault Refusal :=
  s.plain core1 fun s c =>
    s.toReg core1 [] gd (rounded (c.rounding) (c.accum am) k)

/-- R304: An = Ga, sign-extended. -/
def execMvfa (core1 : Bool) (an : Fin 4) (ga : Fin 16) (s : State) : Host.Outcome State Fault Refusal :=
  s.plain core1 fun s c =>
    let x := c.reg ga
    s.okIf core1 (checkTag 1 x isFrac) { c with acc := c.acc.set an x.data.toInt }

/-- R304: Gd = Am [39:32], sign-extended, INT. -/
def execMvah (core1 : Bool) (gd : Fin 16) (am : Fin 4) (s : State) : Host.Outcome State Fault Refusal :=
  s.plain core1 fun s c => s.ok core1 (c.setReg gd ⟨.int, BitVec.ofInt 32 (c.accum am / 4294967296)⟩)

/-- R304: Gd = Am [31:0], RAW. -/
def execMval (core1 : Bool) (gd : Fin 16) (am : Fin 4) (s : State) : Host.Outcome State Fault Refusal :=
  s.plain core1 fun s c => s.ok core1 (c.setReg gd ⟨.raw, BitVec.ofInt 32 (c.accum am)⟩)

/-- R304: An [39:32] = Ga [7:0]; An [31:0] = Gb. -/
def execMvga (core1 : Bool) (an : Fin 4) (ga gb : Fin 16) (s : State) : Host.Outcome State Fault Refusal :=
  s.plain core1 fun s c =>
    let x := c.reg ga
    let y := c.reg gb
    s.okIf core1 (checkTag 1 x isInt ++ checkTag 2 y isIntRaw)
      { c with acc := c.acc.set an (signed 40 (x.data.toNat % 256 * 2 ^ 32 + y.data.toNat)) }

/-- R304, R303: RND, SAT and OVTRAP of ARG; ARG [4] clears AOV and SOV; ARG [1:0] = 3 raises ILLEGAL. -/
def execSxset (core1 : Bool) (arg : Fin 32) (s : State) : Host.Outcome State Fault Refusal :=
  s.plain core1 fun s c =>
    let st := splice c.st 16 4 arg.val
    s.okIf core1 (if arg.val % 4 = 3 then [trapIllegal] else []) { c with st := if bit arg 4 then splice st 20 2 0 else st }

/-- The end of a tap: `v` saturated into the accumulator, then both pointers. -/
def State.tapFinish (s : State) (c1 : Bool) (an : Fin 4) (v : Int) (gx : Nat) (px : Word) (gy : Nat) (py : Word) : State :=
  let (a, _, c) := (s.core c1).sat40 v
  s.setCore c1 { (c.setReg gx ⟨.ptr, px⟩).setReg gy ⟨.ptr, py⟩ with acc := c.acc.set an a }

/-- R306: a tap: X and Y words multiplied into An, the delay line moved, both pointers modified. -/
def execTap (core1 : Bool) (an : Fin 4) (gx gy : Fin 16) (xmod ymod : Fin 5) (sub move : Bool) (parX parY : Fin 32) (s : State) : Host.Outcome State Fault Refusal :=
  s.plain core1 fun s c =>
    let x := c.reg gx
    let y := c.reg gy
    let ts := checkTag 1 x isPtr ++ checkTag 2 y isPtr
    if !ts.isEmpty then .fail s ts
    else
      let cx := c.setReg gx ⟨.ptr, c.modified x.data xmod⟩
      let py := (cx.reg gy).data
      let target := c.tapTarget x.data xmod
      let early := c.modCheck x.data xmod ++ c.modCheck py ymod ++
        (if move then c.targetCheck x.data xmod ++ c.access target 4 4 else [])
      match s.load core1 x.data 4 parX with
      | .wait s => .wait s
      | .fail s ts => .fail s (ts ++ c.access y.data 4 2 ++ early)
      | .data xv s =>
        let tx := checkTag 1 xv isFracRaw
        match s.load core1 y.data 4 parY with
        | .wait s => .wait s
        | .fail s ts => .fail s (tx ++ ts ++ early)
        | .data h s =>
          let p := product c.rounding xv.data.toInt h.data.toInt
          let v := if sub then c.accum an - p else c.accum an + p
          let (_, tv, _) := c.sat40 v
          let ts := tx ++ checkTag 2 h isFracRaw ++ early ++ tv
          let touched := [(x.data, false), (y.data, false)]
          if !ts.isEmpty then .fail s ts
          else
            let px := c.modified x.data xmod
            let py := c.modified py ymod
            if !move then .done (s.tapFinish core1 an v gx px gy py) none touched
            else match s.storeRaw core1 target 4 ⟨.frac, xv.data⟩ 0 with
              | .done s => .done (s.tapFinish core1 an v gx px gy py) none (touched ++ [(target, true)])
              | .fail s ts => .fail s ts
              | .wait s => .wait s

/-- R308, R310: opens a block of LEN instructions that runs COUNT times. -/
def execRep (core1 : Bool) (len : Fin 32) (count : RepCount) (s : State) : Host.Outcome State Fault Refusal :=
  s.plain core1 fun s c =>
    let stop := moveBy c.pc (4 * (len.val + 1))
    let (n, ts) : Nat × List Trap := match count with
      | .imm n => (n.val, [])
      | .reg ga => ((c.reg ga).data.toNat, checkTag 1 (c.reg ga) isInt)
    let nested := c.topRep.any fun e => e.holds c.pc && decide (offOf e.stop < offOf stop)
    let ts := ts ++ (if len.val = 0 then [trapIllegal] else []) ++ (if 4 ≤ c.reps.length then [trapRepeat 0] else []) ++
      (if n ≠ 0 ∧ nested = true then [trapRepeat 1] else [])
    if !ts.isEmpty then .fail s ts
    else if n = 0 then .done s (some (moveBy stop 4))
    else .done (s.setCore core1 { c with reps := c.reps ++ [{ start := moveBy c.pc 4, stop := stop, count := n }] })

/-- R308: the end of a repeat body: at END of the top entry it loops back; elsewhere it raises REPERR. -/
def execEndrep (core1 : Bool) (s : State) : Host.Outcome State Fault Refusal :=
  goOn (s.issue core1 .endrep fun s _ => .done s)

/-- R309: stores the repeat stack as 13 words at the PTR in Ga and empties it. -/
def execRsave (core1 : Bool) (ga : Fin 16) (s : State) : Host.Outcome State Fault Refusal :=
  s.plain core1 fun s c =>
    let x := c.reg ga
    let ws := c.repWords
    let ts := checkTag 1 x isPtr
    if !ts.isEmpty then .fail s ts
    else
      let ts := (ws.zipIdx).flatMap fun w =>
        c.reach x.data (4 * w.2) 4 ++ c.access (moveBy x.data (4 * w.2)) 4 4 ++ c.storeCheck x.data 4 w.1 0
      let ts := ts ++ (if c.policy x.data = 0 then [] else [trapTag 3 .empty 0])
      if !ts.isEmpty then .fail s ts
      else match s.storeAll core1 x.data ws with
        | .fail s ts => .fail s ts
        | .wait s => .wait s
        | .done s => .done (s.setCore core1 { s.core core1 with reps := [] }) none
            ((List.range 13).map fun k => (moveBy x.data ((4 * k : Nat) : Int), true))

/-- R309: reads 13 words from the PTR in Ga back and restores the repeat stack. -/
def execRrest (core1 : Bool) (ga : Fin 16) (parity : List Nat) (s : State) : Host.Outcome State Fault Refusal :=
  s.plain core1 fun s c =>
    let x := c.reg ga
    let ts := checkTag 1 x isPtr
    if !ts.isEmpty then .fail s ts
    else s.popFrom core1 13 x.data parity [] [] fun s _ ws touched =>
      match repStack ws with
      | .ok reps => .done (s.setCore core1 { s.core core1 with reps := reps }) none touched
      | .error t => .fail s [t]

end Sys2Proof.Machine
end

