-- ==== Sys2Proof/Machine/Dispatch.lean ====
section
/-! DEFINITION. The dispatch of a command to its meaning: one arm per constructor of Instr. -/
namespace Sys2Proof.Machine

/-- The effect of command `i` on everything but the queue. -/
def exec (i : Instr) (s : State) : Host.Outcome State Fault Refusal :=
  match i with
  | .registerWrite addr value core1 rom => Sys2Proof.Machine.execRegisterWrite addr value core1 rom s
  | .detectionRecordDequeue parityErr => Sys2Proof.Machine.execDetectionRecordDequeue parityErr s
  | .modeWrite value => Sys2Proof.Machine.execModeWrite value s
  | .modeTransition => Sys2Proof.Machine.execModeTransition s
  | .radioStateCommand value => Sys2Proof.Machine.execRadioStateCommand value s
  | .radioStateReached path => Sys2Proof.Machine.execRadioStateReached path s
  | .synthUnlock path => Sys2Proof.Machine.execSynthUnlock path s
  | .freqWrite path value => Sys2Proof.Machine.execFreqWrite path value s
  | .tempDelta temp => Sys2Proof.Machine.execTempDelta temp s
  | .calibrationStart value => Sys2Proof.Machine.execCalibrationStart value s
  | .calibrationDone inRange result => Sys2Proof.Machine.execCalibrationDone inRange result s
  | .calHoldExpired => Sys2Proof.Machine.execCalHoldExpired s
  | .adcSaturation half => Sys2Proof.Machine.execAdcSaturation half s
  | .profileWrite image => Sys2Proof.Machine.execProfileWrite image s
  | .reglockSet value => Sys2Proof.Machine.execReglockSet value s
  | .regCertWrite cert => Sys2Proof.Machine.execRegCertWrite cert s
  | .dutySecondTick => Sys2Proof.Machine.execDutySecondTick s
  | .programStop => Sys2Proof.Machine.execProgramStop s
  | .testStop => Sys2Proof.Machine.execTestStop s
  | .testCw => Sys2Proof.Machine.execTestCw s
  | .modcarrier => Sys2Proof.Machine.execModcarrier s
  | .perTx => Sys2Proof.Machine.execPerTx s
  | .perRx => Sys2Proof.Machine.execPerRx s
  | .calread => Sys2Proof.Machine.execCalread s
  | .testDurationEnd => Sys2Proof.Machine.execTestDurationEnd s
  | .rxProfileWrite index value => Sys2Proof.Machine.execRxProfileWrite index value s
  | .twinEnWrite en => Sys2Proof.Machine.execTwinEnWrite en s
  | .channelMapRebuild => Sys2Proof.Machine.execChannelMapRebuild s
  | .rxWindowOpen lane => Sys2Proof.Machine.execRxWindowOpen lane s
  | .rxWindowClose lane => Sys2Proof.Machine.execRxWindowClose lane s
  | .syncMatch lane sync errs rssi offset dgain => Sys2Proof.Machine.execSyncMatch lane sync errs rssi offset dgain s
  | .laneFrameEnd lane gain => Sys2Proof.Machine.execLaneFrameEnd lane gain s
  | .blankingEnd => Sys2Proof.Machine.execBlankingEnd s
  | .twinPairTimeout unit => Sys2Proof.Machine.execTwinPairTimeout unit s
  | .leakConverged half suppr => Sys2Proof.Machine.execLeakConverged half suppr s
  | .leakResidualCheck half suppr => Sys2Proof.Machine.execLeakResidualCheck half suppr s
  | .txProfileWrite index value => Sys2Proof.Machine.execTxProfileWrite index value s
  | .captureStage unit charge => Sys2Proof.Machine.execCaptureStage unit charge s
  | .phrStage unit charge ms fcsT dw length => Sys2Proof.Machine.execPhrStage unit charge ms fcsT dw length s
  | .decodeStage unit charge soft => Sys2Proof.Machine.execDecodeStage unit charge soft s
  | .crcCheck unit charge => Sys2Proof.Machine.execCrcCheck unit charge s
  | .parseStage unit charge => Sys2Proof.Machine.execParseStage unit charge s
  | .lookupStage unit charge => Sys2Proof.Machine.execLookupStage unit charge s
  | .secureRxStage unit charge => Sys2Proof.Machine.execSecureRxStage unit charge s
  | .admitStage unit charge => Sys2Proof.Machine.execAdmitStage unit charge s
  | .deliverStage unit charge => Sys2Proof.Machine.execDeliverStage unit charge s
  | .dequeueStage charge => Sys2Proof.Machine.execDequeueStage charge s
  | .buildStage unit charge => Sys2Proof.Machine.execBuildStage unit charge s
  | .secureTxStage unit charge => Sys2Proof.Machine.execSecureTxStage unit charge s
  | .encodeStage unit charge => Sys2Proof.Machine.execEncodeStage unit charge s
  | .modulateStage unit charge => Sys2Proof.Machine.execModulateStage unit charge s
  | .maskStage unit charge => Sys2Proof.Machine.execMaskStage unit charge s
  | .launchStage unit charge vsup => Sys2Proof.Machine.execLaunchStage unit charge vsup s
  | .lateDrop unit => Sys2Proof.Machine.execLateDrop unit s
  | .txRampStart => Sys2Proof.Machine.execTxRampStart s
  | .txFirstSymbol => Sys2Proof.Machine.execTxFirstSymbol s
  | .txEnd => Sys2Proof.Machine.execTxEnd s
  | .rampDownEnd => Sys2Proof.Machine.execRampDownEnd s
  | .maskPeriodogram levels => Sys2Proof.Machine.execMaskPeriodogram levels s
  | .imageWrite offset bytes => Sys2Proof.Machine.execImageWrite offset bytes s
  | .loadProgram who => Sys2Proof.Machine.execLoadProgram who s
  | .loadCheckDone => Sys2Proof.Machine.execLoadCheckDone s
  | .armSwap => Sys2Proof.Machine.execArmSwap s
  | .programCancel => Sys2Proof.Machine.execProgramCancel s
  | .programClear => Sys2Proof.Machine.execProgramClear s
  | .firstProgramStart => Sys2Proof.Machine.execFirstProgramStart s
  | .slotBoundary gainA gainB => Sys2Proof.Machine.execSlotBoundary gainA gainB s
  | .twinMismatch unit => Sys2Proof.Machine.execTwinMismatch unit s
  | .twinLockup => Sys2Proof.Machine.execTwinLockup s
  | .twintestInject value => Sys2Proof.Machine.execTwintestInject value s
  | .dropPop => Sys2Proof.Machine.execDropPop s
  | .asnLRead => Sys2Proof.Machine.execAsnLRead s
  | .rateAccumulatorOverflow => Sys2Proof.Machine.execRateAccumulatorOverflow s
  | .contextWrite index => Sys2Proof.Machine.execContextWrite index s
  | .contextRead index => Sys2Proof.Machine.execContextRead index s
  | .contextDelete index => Sys2Proof.Machine.execContextDelete index s
  | .ackReceived lane frame fcsOk tSfd rssi offset => Sys2Proof.Machine.execAckReceived lane frame fcsOk tSfd rssi offset s
  | .ackWindowClose lane => Sys2Proof.Machine.execAckWindowClose lane s
  | .adriftEntry => Sys2Proof.Machine.execAdriftEntry s
  | .adriftTimeout => Sys2Proof.Machine.execAdriftTimeout s
  | .scanDwellEnd => Sys2Proof.Machine.execScanDwellEnd s
  | .syncScan => Sys2Proof.Machine.execSyncScan s
  | .syncStop => Sys2Proof.Machine.execSyncStop s
  | .syncPoll => Sys2Proof.Machine.execSyncPoll s
  | .txPush index => Sys2Proof.Machine.execTxPush index s
  | .txDonePop => Sys2Proof.Machine.execTxDonePop s
  | .queueFlush queue => Sys2Proof.Machine.execQueueFlush queue s
  | .flushPending => Sys2Proof.Machine.execFlushPending s
  | .dqRelease rd => Sys2Proof.Machine.execDqRelease rd s
  | .fbcfgWrite value => Sys2Proof.Machine.execFbcfgWrite value s
  | .keyLoad page => Sys2Proof.Machine.execKeyLoad page s
  | .keyClear page => Sys2Proof.Machine.execKeyClear page s
  | .keyCommandApply slot => Sys2Proof.Machine.execKeyCommandApply slot s
  | .keyOwnerWrite value => Sys2Proof.Machine.execKeyOwnerWrite value s
  | .keyExhausted slot blocks transmit => Sys2Proof.Machine.execKeyExhausted slot blocks transmit s
  | .cipherSubmit page addr => Sys2Proof.Machine.execCipherSubmit page addr s
  | .cipherChunkEnd page => Sys2Proof.Machine.execCipherChunkEnd page s
  | .cipherDone page => Sys2Proof.Machine.execCipherDone page s
  | .pageAbort page => Sys2Proof.Machine.execPageAbort page s
  | .cipherFault lane keyWord => Sys2Proof.Machine.execCipherFault lane keyWord s
  | .cipherRequestObject image => Sys2Proof.Machine.execCipherRequestObject image s
  | .acqPush => Sys2Proof.Machine.execAcqPush s
  | .acqAbort => Sys2Proof.Machine.execAcqAbort s
  | .acqDone code dopp ratio tRef codeNow => Sys2Proof.Machine.execAcqDone code dopp ratio tRef codeNow s
  | .acqPop => Sys2Proof.Machine.execAcqPop s
  | .blockBoundary chan outs => Sys2Proof.Machine.execBlockBoundary chan outs s
  | .lockMonitorWindow chan => Sys2Proof.Machine.execLockMonitorWindow chan s
  | .spectrumUpdate levels tracks => Sys2Proof.Machine.execSpectrumUpdate levels tracks s
  | .jammingUpdate p8 => Sys2Proof.Machine.execJammingUpdate p8 s
  | .gnssAgcStep rms => Sys2Proof.Machine.execGnssAgcStep rms s
  | .secondMark latePs => Sys2Proof.Machine.execSecondMark latePs s
  | .timePulse latePs => Sys2Proof.Machine.execTimePulse latePs s
  | .measLatch phases => Sys2Proof.Machine.execMeasLatch phases s
  | .gtimeSet => Sys2Proof.Machine.execGtimeSet s
  | .gtphaseTrim value => Sys2Proof.Machine.execGtphaseTrim value s
  | .timeValidWrite valid => Sys2Proof.Machine.execTimeValidWrite valid s
  | .steerForce => Sys2Proof.Machine.execSteerForce s
  | .steerResetI => Sys2Proof.Machine.execSteerResetI s
  | .rtcTick => Sys2Proof.Machine.execRtcTick s
  | .alarmFire => Sys2Proof.Machine.execAlarmFire s
  | .oscStop => Sys2Proof.Machine.execOscStop s
  | .oscReturn => Sys2Proof.Machine.execOscReturn s
  | .rtcSet => Sys2Proof.Machine.execRtcSet s
  | .rtcSetAt => Sys2Proof.Machine.execRtcSetAt s
  | .rtcSetCancel => Sys2Proof.Machine.execRtcSetCancel s
  | .rtcSetApply => Sys2Proof.Machine.execRtcSetApply s
  | .setFromNetworkTime value => Sys2Proof.Machine.execSetFromNetworkTime value s
  | .rtcMeasure => Sys2Proof.Machine.execRtcMeasure s
  | .measAbort => Sys2Proof.Machine.execMeasAbort s
  | .measureDone count => Sys2Proof.Machine.execMeasureDone count s
  | .timeRegisterRead core1 reg => Sys2Proof.Machine.execTimeRegisterRead core1 reg s
  | .shadowTimeout core1 => Sys2Proof.Machine.execShadowTimeout core1 s
  | .alarmArm alarmB oneshot => Sys2Proof.Machine.execAlarmArm alarmB oneshot s
  | .rtcTrimWrite value => Sys2Proof.Machine.execRtcTrimWrite value s
  | .supplySwitch => Sys2Proof.Machine.execSupplySwitch s
  | .supplyReturn => Sys2Proof.Machine.execSupplyReturn s
  | .backupPowerOn => Sys2Proof.Machine.execBackupPowerOn s
  | .comparatorSample n high => Sys2Proof.Machine.execComparatorSample n high s
  | .timerTick n => Sys2Proof.Machine.execTimerTick n s
  | .timerReload n => Sys2Proof.Machine.execTimerReload n s
  | .timerStart mask core1 => Sys2Proof.Machine.execTimerStart mask core1 s
  | .timerStop mask core1 => Sys2Proof.Machine.execTimerStop mask core1 s
  | .cmpWrite n value core1 => Sys2Proof.Machine.execCmpWrite n value core1 s
  | .compareImmediateFire n => Sys2Proof.Machine.execCompareImmediateFire n s
  | .tnetRead => Sys2Proof.Machine.execTnetRead s
  | .channelPulse chan => Sys2Proof.Machine.execChannelPulse chan s
  | .evrFire value core1 => Sys2Proof.Machine.execEvrFire value core1 s
  | .softwareEvent value => Sys2Proof.Machine.execSoftwareEvent value s
  | .pinEdge chan high age => Sys2Proof.Machine.execPinEdge chan high age s
  | .stuckDetect chan => Sys2Proof.Machine.execStuckDetect chan s
  | .stuckClear chan => Sys2Proof.Machine.execStuckClear chan s
  | .rateWindowEnd chan => Sys2Proof.Machine.execRateWindowEnd chan s
  | .stampRead chan => Sys2Proof.Machine.execStampRead chan s
  | .add core1 gd ga gb => Sys2Proof.Machine.execAdd core1 gd ga gb s
  | .sub core1 gd ga gb => Sys2Proof.Machine.execSub core1 gd ga gb s
  | .addc core1 gd ga gb => Sys2Proof.Machine.execAddc core1 gd ga gb s
  | .subc core1 gd ga gb => Sys2Proof.Machine.execSubc core1 gd ga gb s
  | .and core1 gd ga gb => Sys2Proof.Machine.execAnd core1 gd ga gb s
  | .or core1 gd ga gb => Sys2Proof.Machine.execOr core1 gd ga gb s
  | .xor core1 gd ga gb => Sys2Proof.Machine.execXor core1 gd ga gb s
  | .andn core1 gd ga gb => Sys2Proof.Machine.execAndn core1 gd ga gb s
  | .shl core1 gd ga gb => Sys2Proof.Machine.execShl core1 gd ga gb s
  | .shr core1 gd ga gb => Sys2Proof.Machine.execShr core1 gd ga gb s
  | .sar core1 gd ga gb => Sys2Proof.Machine.execSar core1 gd ga gb s
  | .rol core1 gd ga gb => Sys2Proof.Machine.execRol core1 gd ga gb s
  | .mul core1 gd ga gb => Sys2Proof.Machine.execMul core1 gd ga gb s
  | .mulhs core1 gd ga gb => Sys2Proof.Machine.execMulhs core1 gd ga gb s
  | .mulhu core1 gd ga gb => Sys2Proof.Machine.execMulhu core1 gd ga gb s
  | .divs core1 gd ga gb => Sys2Proof.Machine.execDivs core1 gd ga gb s
  | .divu core1 gd ga gb => Sys2Proof.Machine.execDivu core1 gd ga gb s
  | .rems core1 gd ga gb => Sys2Proof.Machine.execRems core1 gd ga gb s
  | .remu core1 gd ga gb => Sys2Proof.Machine.execRemu core1 gd ga gb s
  | .mins core1 gd ga gb => Sys2Proof.Machine.execMins core1 gd ga gb s
  | .maxs core1 gd ga gb => Sys2Proof.Machine.execMaxs core1 gd ga gb s
  | .addi core1 gd ga imm => Sys2Proof.Machine.execAddi core1 gd ga imm s
  | .andi core1 gd ga imm => Sys2Proof.Machine.execAndi core1 gd ga imm s
  | .ori core1 gd ga imm => Sys2Proof.Machine.execOri core1 gd ga imm s
  | .xori core1 gd ga imm => Sys2Proof.Machine.execXori core1 gd ga imm s
  | .shi core1 gd ga kind amt => Sys2Proof.Machine.execShi core1 gd ga kind amt s
  | .lui core1 gd imm => Sys2Proof.Machine.execLui core1 gd imm s
  | .cmp core1 gd ga gb cond => Sys2Proof.Machine.execCmp core1 gd ga gb cond s
  | .cmpi core1 gd ga cond imm => Sys2Proof.Machine.execCmpi core1 gd ga cond imm s
  | .mov core1 gd ga => Sys2Proof.Machine.execMov core1 gd ga s
  | .tagof core1 gd ga => Sys2Proof.Machine.execTagof core1 gd ga s
  | .retag core1 gd ga tag => Sys2Proof.Machine.execRetag core1 gd ga tag s
  | .chktag core1 ga tag => Sys2Proof.Machine.execChktag core1 ga tag s
  | .ldw core1 gd ga imm parity => Sys2Proof.Machine.execLdw core1 gd ga imm parity s
  | .ldh core1 gd ga imm parity => Sys2Proof.Machine.execLdh core1 gd ga imm parity s
  | .ldhu core1 gd ga imm parity => Sys2Proof.Machine.execLdhu core1 gd ga imm parity s
  | .ldb core1 gd ga imm parity => Sys2Proof.Machine.execLdb core1 gd ga imm parity s
  | .ldbu core1 gd ga imm parity => Sys2Proof.Machine.execLdbu core1 gd ga imm parity s
  | .stw core1 gd ga imm => Sys2Proof.Machine.execStw core1 gd ga imm s
  | .sth core1 gd ga imm parity => Sys2Proof.Machine.execSth core1 gd ga imm parity s
  | .stb core1 gd ga imm parity => Sys2Proof.Machine.execStb core1 gd ga imm parity s
  | .addp core1 gd ga gb => Sys2Proof.Machine.execAddp core1 gd ga gb s
  | .addpi core1 gd ga imm => Sys2Proof.Machine.execAddpi core1 gd ga imm s
  | .subp core1 gd ga gb => Sys2Proof.Machine.execSubp core1 gd ga gb s
  | .lea core1 gd seg imm => Sys2Proof.Machine.execLea core1 gd seg imm s
  | .leac core1 gd off => Sys2Proof.Machine.execLeac core1 gd off s
  | .pushm core1 mask => Sys2Proof.Machine.execPushm core1 mask s
  | .popm core1 mask parity => Sys2Proof.Machine.execPopm core1 mask parity s
  | .cas core1 gd ga gb parity => Sys2Proof.Machine.execCas core1 gd ga gb parity s
  | .br core1 off => Sys2Proof.Machine.execBr core1 off s
  | .bt core1 ga off => Sys2Proof.Machine.execBt core1 ga off s
  | .bf core1 ga off => Sys2Proof.Machine.execBf core1 ga off s
  | .jmp core1 ga => Sys2Proof.Machine.execJmp core1 ga s
  | .call core1 gt mask => Sys2Proof.Machine.execCall core1 gt mask s
  | .ret core1 parity => Sys2Proof.Machine.execRet core1 parity s
  | .trap core1 arg => Sys2Proof.Machine.execTrap core1 arg s
  | .bkpt core1 => Sys2Proof.Machine.execBkpt core1 s
  | .wait core1 => Sys2Proof.Machine.execWait core1 s
  | .waitWake core1 => Sys2Proof.Machine.execWaitWake core1 s
  | .fence core1 => Sys2Proof.Machine.execFence core1 s
  | .eret core1 => Sys2Proof.Machine.execEret core1 s
  | .mfs core1 gd arg => Sys2Proof.Machine.execMfs core1 gd arg s
  | .mts core1 ga arg => Sys2Proof.Machine.execMts core1 ga arg s
  | .segw core1 gd ga gb seg => Sys2Proof.Machine.execSegw core1 gd ga gb seg s
  | .segr core1 gd seg part => Sys2Proof.Machine.execSegr core1 gd seg part s
  | .iena core1 => Sys2Proof.Machine.execIena core1 s
  | .idis core1 => Sys2Proof.Machine.execIdis core1 s
  | .illegal core1 => Sys2Proof.Machine.execIllegal core1 s
  | .interruptEntry core1 => Sys2Proof.Machine.execInterruptEntry core1 s
  | .impreciseBusError core1 => Sys2Proof.Machine.execImpreciseBusError core1 s
  | .debugHalt core1 op => Sys2Proof.Machine.execDebugHalt core1 op s
  | .debugResume core1 => Sys2Proof.Machine.execDebugResume core1 s
  | .core1Run => Sys2Proof.Machine.execCore1Run s
  | .core1Stop => Sys2Proof.Machine.execCore1Stop s
  | .grantWindowWrite reg value => Sys2Proof.Machine.execGrantWindowWrite reg value s
  | .checkerMismatch => Sys2Proof.Machine.execCheckerMismatch s
  | .mpy core1 an ga gb => Sys2Proof.Machine.execMpy core1 an ga gb s
  | .mac core1 an ga gb => Sys2Proof.Machine.execMac core1 an ga gb s
  | .msu core1 an ga gb => Sys2Proof.Machine.execMsu core1 an ga gb s
  | .fadds core1 gd ga gb => Sys2Proof.Machine.execFadds core1 gd ga gb s
  | .fsubs core1 gd ga gb => Sys2Proof.Machine.execFsubs core1 gd ga gb s
  | .fmulr core1 gd ga gb => Sys2Proof.Machine.execFmulr core1 gd ga gb s
  | .aclr core1 an => Sys2Proof.Machine.execAclr core1 an s
  | .amov core1 an am => Sys2Proof.Machine.execAmov core1 an am s
  | .aadd core1 an am => Sys2Proof.Machine.execAadd core1 an am s
  | .asub core1 an am => Sys2Proof.Machine.execAsub core1 an am s
  | .aneg core1 an am => Sys2Proof.Machine.execAneg core1 an am s
  | .aabs core1 an am => Sys2Proof.Machine.execAabs core1 an am s
  | .ashl core1 an am k => Sys2Proof.Machine.execAshl core1 an am k s
  | .ashr core1 an am k => Sys2Proof.Machine.execAshr core1 an am k s
  | .mvaf core1 gd am k => Sys2Proof.Machine.execMvaf core1 gd am k s
  | .mvfa core1 an ga => Sys2Proof.Machine.execMvfa core1 an ga s
  | .mvah core1 gd am => Sys2Proof.Machine.execMvah core1 gd am s
  | .mval core1 gd am => Sys2Proof.Machine.execMval core1 gd am s
  | .mvga core1 an ga gb => Sys2Proof.Machine.execMvga core1 an ga gb s
  | .sxset core1 arg => Sys2Proof.Machine.execSxset core1 arg s
  | .tap core1 an gx gy xmod ymod sub move parX parY => Sys2Proof.Machine.execTap core1 an gx gy xmod ymod sub move parX parY s
  | .rep core1 len count => Sys2Proof.Machine.execRep core1 len count s
  | .endrep core1 => Sys2Proof.Machine.execEndrep core1 s
  | .rsave core1 ga => Sys2Proof.Machine.execRsave core1 ga s
  | .rrest core1 ga parity => Sys2Proof.Machine.execRrest core1 ga parity s
  | .patrolRead sysErr pktErr => Sys2Proof.Machine.execPatrolRead sysErr pktErr s
  | .flipArm => Sys2Proof.Machine.execFlipArm s
  | .mergeFlush => Sys2Proof.Machine.execMergeFlush s
  | .mergeIdleFlush => Sys2Proof.Machine.execMergeIdleFlush s
  | .faultReport cls src addr detail => Sys2Proof.Machine.execFaultReport cls src addr detail s
  | .faultClose src srcEn fatal => Sys2Proof.Machine.execFaultClose src srcEn fatal s
  | .faultPop => Sys2Proof.Machine.execFaultPop s
  | .faultInject cls => Sys2Proof.Machine.execFaultInject cls s
  | .readPage tag faddr buf raw core1 rom => Sys2Proof.Machine.execReadPage tag faddr buf raw core1 rom s
  | .programPage tag faddr buf core1 rom => Sys2Proof.Machine.execProgramPage tag faddr buf core1 rom s
  | .eraseBlock tag faddr core1 rom => Sys2Proof.Machine.execEraseBlock tag faddr core1 rom s
  | .readCounter tag faddr core1 rom => Sys2Proof.Machine.execReadCounter tag faddr core1 rom s
  | .flashSuspend tag faddr core1 rom => Sys2Proof.Machine.execFlashSuspend tag faddr core1 rom s
  | .resumeFlash tag faddr core1 rom => Sys2Proof.Machine.execResumeFlash tag faddr core1 rom s
  | .flushMerge tag core1 rom => Sys2Proof.Machine.execFlushMerge tag core1 rom s
  | .flashPulseEnd bankB complete => Sys2Proof.Machine.execFlashPulseEnd bankB complete s
  | .flashDone who => Sys2Proof.Machine.execFlashDone who s
  | .flashDonePop => Sys2Proof.Machine.execFlashDonePop s
  | .flashPageMiss addr => Sys2Proof.Machine.execFlashPageMiss addr s
  | .autoResume bankB => Sys2Proof.Machine.execAutoResume bankB s
  | .eraseStarve bankB => Sys2Proof.Machine.execEraseStarve bankB s
  | .flashOwnerWrite romOwn swap rom => Sys2Proof.Machine.execFlashOwnerWrite romOwn swap rom s
  | .spiTransaction mosi partialByte ready env => Sys2Proof.Machine.execSpiTransaction mosi partialByte ready env s
  | .canSegment m data env => Sys2Proof.Machine.execCanSegment m data env s
  | .canBusoff => Sys2Proof.Machine.execCanBusoff s
  | .udpDatagram ip src dst data env => Sys2Proof.Machine.execUdpDatagram ip src dst data env s
  | .ethLink link m100 fdx => Sys2Proof.Machine.execEthLink link m100 fdx s
  | .uartFrame data env => Sys2Proof.Machine.execUartFrame data env s
  | .objectRequest => Sys2Proof.Machine.execObjectRequest s
  | .objectResponse => Sys2Proof.Machine.execObjectResponse s
  | .meshRequest env => Sys2Proof.Machine.execMeshRequest env s
  | .meshReply => Sys2Proof.Machine.execMeshReply s
  | .appTimeout => Sys2Proof.Machine.execAppTimeout s
  | .odpRead who tid index sub env => Sys2Proof.Machine.execOdpRead who tid index sub env s
  | .odpWrite who tid index sub value env => Sys2Proof.Machine.execOdpWrite who tid index sub value env s
  | .odpReadSeg who tid index sub offset env => Sys2Proof.Machine.execOdpReadSeg who tid index sub offset env s
  | .odpWriteSeg who tid index sub sflags offset total data env => Sys2Proof.Machine.execOdpWriteSeg who tid index sub sflags offset total data env s
  | .odpInfo who tid index sub env => Sys2Proof.Machine.execOdpInfo who tid index sub env s
  | .odpClaim who tid prio nonce env => Sys2Proof.Machine.execOdpClaim who tid prio nonce env s
  | .odpKeepalive who tid nonce env => Sys2Proof.Machine.execOdpKeepalive who tid nonce env s
  | .odpRelease who tid nonce env => Sys2Proof.Machine.execOdpRelease who tid nonce env s
  | .odpHandover who tid nonce next snonce env => Sys2Proof.Machine.execOdpHandover who tid nonce next snonce env s
  | .odpOwner who tid env => Sys2Proof.Machine.execOdpOwner who tid env s
  | .odpRecovery who tid env => Sys2Proof.Machine.execOdpRecovery who tid env s
  | .claimWindowClose => Sys2Proof.Machine.execClaimWindowClose s
  | .ownerLost => Sys2Proof.Machine.execOwnerLost s
  | .handoverTimeout => Sys2Proof.Machine.execHandoverTimeout s
  | .stagingTimeout who index sub => Sys2Proof.Machine.execStagingTimeout who index sub s
  | .snapshotTimeout who index sub => Sys2Proof.Machine.execSnapshotTimeout who index sub s
  | .loadLevel util => Sys2Proof.Machine.execLoadLevel util s
  | .restoreDefaults value => Sys2Proof.Machine.execRestoreDefaults value s
  | .delivery => Sys2Proof.Machine.execDelivery s
  | .txSubmit who body => Sys2Proof.Machine.execTxSubmit who body s
  | .txComplete => Sys2Proof.Machine.execTxComplete s
  | .legacySpiTransaction mosi cut fast early => Sys2Proof.Machine.execLegacySpiTransaction mosi cut fast early s
  | .lgyStatusRead => Sys2Proof.Machine.execLgyStatusRead s
  | .rxfifoRead => Sys2Proof.Machine.execRxfifoRead s
  | .txfifoWrite value => Sys2Proof.Machine.execTxfifoWrite value s
  | .rxlevLRead => Sys2Proof.Machine.execRxlevLRead s
  | .txlevLRead => Sys2Proof.Machine.execTxlevLRead s
  | .slotcntLRead => Sys2Proof.Machine.execSlotcntLRead s
  | .irqFlagClear n value => Sys2Proof.Machine.execIrqFlagClear n value s
  | .nirqAssert => Sys2Proof.Machine.execNirqAssert s
  | .basef2Write value => Sys2Proof.Machine.execBasef2Write value s
  | .flushRx => Sys2Proof.Machine.execFlushRx s
  | .flushTx => Sys2Proof.Machine.execFlushTx s
  | .txStart => Sys2Proof.Machine.execTxStart s
  | .txAbort => Sys2Proof.Machine.execTxAbort s
  | .ctxWrite => Sys2Proof.Machine.execCtxWrite s
  | .ctxRead => Sys2Proof.Machine.execCtxRead s
  | .ctxDelete => Sys2Proof.Machine.execCtxDelete s
  | .hopWrite => Sys2Proof.Machine.execHopWrite s
  | .hopRead => Sys2Proof.Machine.execHopRead s
  | .lgyCal => Sys2Proof.Machine.execLgyCal s
  | .softReset => Sys2Proof.Machine.execSoftReset s
  | .cmddone => Sys2Proof.Machine.execCmddone s
  | .legacySlotBoundary => Sys2Proof.Machine.execLegacySlotBoundary s
  | .legacyFrameStored unit => Sys2Proof.Machine.execLegacyFrameStored unit s
  | .legacyBeaconRx unit => Sys2Proof.Machine.execLegacyBeaconRx unit s
  | .bcnmiss => Sys2Proof.Machine.execBcnmiss s
  | .synclost => Sys2Proof.Machine.execSynclost s
  | .legacyAckWindowClose => Sys2Proof.Machine.execLegacyAckWindowClose s
  | .txUnderrun => Sys2Proof.Machine.execTxUnderrun s
  | .unlockWrite value => Sys2Proof.Machine.execUnlockWrite value s
  | .unlockTimeout => Sys2Proof.Machine.execUnlockTimeout s
  | .nativeSwitchover => Sys2Proof.Machine.execNativeSwitchover s
  | .tagInventory sub sixteen afi maskLen mask => Sys2Proof.Machine.execTagInventory sub sixteen afi maskLen mask s
  | .tagStayQuiet req => Sys2Proof.Machine.execTagStayQuiet req s
  | .readSingleBlock req block => Sys2Proof.Machine.execReadSingleBlock req block s
  | .readMultipleBlocks req block count => Sys2Proof.Machine.execReadMultipleBlocks req block count s
  | .writeSingleBlock req block data => Sys2Proof.Machine.execWriteSingleBlock req block data s
  | .tagSelect req => Sys2Proof.Machine.execTagSelect req s
  | .resetToReady req => Sys2Proof.Machine.execResetToReady req s
  | .writeAfi req value => Sys2Proof.Machine.execWriteAfi req value s
  | .lockAfi req => Sys2Proof.Machine.execLockAfi req s
  | .writeDsfid req value => Sys2Proof.Machine.execWriteDsfid req value s
  | .lockDsfid req => Sys2Proof.Machine.execLockDsfid req s
  | .getSystemInformation req => Sys2Proof.Machine.execGetSystemInformation req s
  | .getMultipleBlockSecurityStatus req block count => Sys2Proof.Machine.execGetMultipleBlockSecurityStatus req block count s
  | .extendedReadSingleBlock req block => Sys2Proof.Machine.execExtendedReadSingleBlock req block s
  | .extendedWriteSingleBlock req block data => Sys2Proof.Machine.execExtendedWriteSingleBlock req block data s
  | .extendedReadMultipleBlocks req block count => Sys2Proof.Machine.execExtendedReadMultipleBlocks req block count s
  | .extendedGetSystemInformation req => Sys2Proof.Machine.execExtendedGetSystemInformation req s
  | .extGetMultipleBlockSecurityStatus req block count => Sys2Proof.Machine.execExtGetMultipleBlockSecurityStatus req block count s
  | .getStatus req => Sys2Proof.Machine.execGetStatus req s
  | .presentPassword req area kind password => Sys2Proof.Machine.execPresentPassword req area kind password s
  | .changePassword req area kind new => Sys2Proof.Machine.execChangePassword req area kind new s
  | .unsupportedCommand req => Sys2Proof.Machine.execUnsupportedCommand req s
  | .tagLockout area => Sys2Proof.Machine.execTagLockout area s
  | .tagBlockWrite value tie => Sys2Proof.Machine.execTagBlockWrite value tie s
  | .clearAttempts area tie => Sys2Proof.Machine.execClearAttempts area tie s
  | .tagWriteDone good => Sys2Proof.Machine.execTagWriteDone good s
  | .tagPowerUp => Sys2Proof.Machine.execTagPowerUp s
  | .fieldOn vrec => Sys2Proof.Machine.execFieldOn vrec s
  | .fieldOff step => Sys2Proof.Machine.execFieldOff step s
  | .reservationEnd => Sys2Proof.Machine.execReservationEnd s
  | .tagMemoryDataWrite data busyAfter badAt => Sys2Proof.Machine.execTagMemoryDataWrite data busyAfter badAt s
  | .bootRom otpFail => Sys2Proof.Machine.execBootRom otpFail s
  | .updBegin env => Sys2Proof.Machine.execUpdBegin env s
  | .updateData offset data env => Sys2Proof.Machine.execUpdateData offset data env s
  | .updateStaged => Sys2Proof.Machine.execUpdateStaged s
  | .updCommit env => Sys2Proof.Machine.execUpdCommit env s
  | .updateAbort env => Sys2Proof.Machine.execUpdateAbort env s
  | .updConfirm env => Sys2Proof.Machine.execUpdConfirm env s
  | .trialTimeout => Sys2Proof.Machine.execTrialTimeout s
  | .swapRequest => Sys2Proof.Machine.execSwapRequest s
  | .attestationNonce nonce => Sys2Proof.Machine.execAttestationNonce nonce s
  | .customerRootKeyWrite key env => Sys2Proof.Machine.execCustomerRootKeyWrite key env s
  | .rInfo who env => Sys2Proof.Machine.execRInfo who env s
  | .rBegin who total env => Sys2Proof.Machine.execRBegin who total env s
  | .rData who offset data env => Sys2Proof.Machine.execRData who offset data env s
  | .rEnd who env => Sys2Proof.Machine.execREnd who env s
  | .rBoot who env => Sys2Proof.Machine.execRBoot who env s
  | .recoverySessionTimeout => Sys2Proof.Machine.execRecoverySessionTimeout s
  | .pkeSm3 cont fin => Sys2Proof.Machine.execPkeSm3 cont fin s
  | .pkeSm2Verify => Sys2Proof.Machine.execPkeSm2Verify s
  | .pkeSm2Sign => Sys2Proof.Machine.execPkeSm2Sign s
  | .pkeDone => Sys2Proof.Machine.execPkeDone s
  | .rngRestart => Sys2Proof.Machine.execRngRestart s
  | .rngRead => Sys2Proof.Machine.execRngRead s
  | .rngWord => Sys2Proof.Machine.execRngWord s
  | .trngHealth => Sys2Proof.Machine.execTrngHealth s
  | .sleepEnter => Sys2Proof.Machine.execSleepEnter s
  | .deepSleep => Sys2Proof.Machine.execDeepSleep s
  | .standbyEnter => Sys2Proof.Machine.execStandbyEnter s
  | .powerOff => Sys2Proof.Machine.execPowerOff s
  | .powerEntryComplete => Sys2Proof.Machine.execPowerEntryComplete s
  | .entryTimeout => Sys2Proof.Machine.execEntryTimeout s
  | .dozeExit => Sys2Proof.Machine.execDozeExit s
  | .powerWake source => Sys2Proof.Machine.execPowerWake source s
  | .returnToRun calTicks refTicks => Sys2Proof.Machine.execReturnToRun calTicks refTicks s
  | .wakeStepTimeout step => Sys2Proof.Machine.execWakeStepTimeout step s
  | .sleepTimer => Sys2Proof.Machine.execSleepTimer s
  | .vsupSample mv => Sys2Proof.Machine.execVsupSample mv s
  | .thermalWarn temp => Sys2Proof.Machine.execThermalWarn temp s
  | .clkDeviate count => Sys2Proof.Machine.execClkDeviate count s
  | .clockFail => Sys2Proof.Machine.execClockFail s
  | .refOk => Sys2Proof.Machine.execRefOk s
  | .watchdogTick core1 => Sys2Proof.Machine.execWatchdogTick core1 s
  | .watchdogExpiry core1 => Sys2Proof.Machine.execWatchdogExpiry core1 s
  | .watchdogKick core1 value => Sys2Proof.Machine.execWatchdogKick core1 value s
  | .watchdogEnable core1 => Sys2Proof.Machine.execWatchdogEnable core1 s
  | .deviceResetCommand confirm => Sys2Proof.Machine.execDeviceResetCommand confirm s
  | .core1ResetCommand confirm => Sys2Proof.Machine.execCore1ResetCommand confirm s
  | .pinReset cycles => Sys2Proof.Machine.execPinReset cycles s
  | .powerOn => Sys2Proof.Machine.execPowerOn s
  | .deviceReset => Sys2Proof.Machine.execDeviceReset s
  | .resetRelease held => Sys2Proof.Machine.execResetRelease held s
  | .holdRelease => Sys2Proof.Machine.execHoldRelease s
  | .blockReset mask => Sys2Proof.Machine.execBlockReset mask s
  | .blockResetRelease block => Sys2Proof.Machine.execBlockResetRelease block s
  | .gnssRestart start => Sys2Proof.Machine.execGnssRestart start s
  | .retuneBlankEnd half => Sys2Proof.Machine.execRetuneBlankEnd half s
  | .thermHotClear temp => Sys2Proof.Machine.execThermHotClear temp s
  | .temphi temp => Sys2Proof.Machine.execTemphi temp s
  | .backupDomainLost => Sys2Proof.Machine.execBackupDomainLost s
  | .vioLow => Sys2Proof.Machine.execVioLow s
  | .vioRestored => Sys2Proof.Machine.execVioRestored s
  | .busOffRecovery => Sys2Proof.Machine.execBusOffRecovery s
  | .arpRequest senderMac senderIp target => Sys2Proof.Machine.execArpRequest senderMac senderIp target s
  | .icmpEchoRequest ip data => Sys2Proof.Machine.execIcmpEchoRequest ip data s
  | .debugResetRequest core1 => Sys2Proof.Machine.execDebugResetRequest core1 s
  | .timePulseTrailingEdge => Sys2Proof.Machine.execTimePulseTrailingEdge s
  | .measureNoref => Sys2Proof.Machine.execMeasureNoref s

end Sys2Proof.Machine
end

