-- ==== Sys2Proof/Safety.lean ====
section
/-! DEFINITION. What a run keeps: the parts of the state, which of them a command leaves as they are, the canonical form of
the maps in State, and what it means that a command completes. -/
namespace Sys2Proof.Machine

/-- The parts of the state: a register block, 0 to 19 (R20), and each component that no register shows. -/
inductive Part
  | regs (block : Fin 20)
  | tnet | clock | mem | poison | faults | power | radio | slot | mac | sec | gnss | rtc | evr | memctl | flash | core0 | core1
  | lgy | tag | host | boot | pke | pins | objs | free | pending | partT
deriving DecidableEq, Repr

/-- `f` is a field of register block `b`. -/
def RegField.inBlock (f : RegField) (b : Nat) : Prop := f.key / 0x200000 = 0x4000 + b

/-- Part `p` is the same in `t` as in `s`: every field of a block reads alike, every byte of memory reads alike, every
component is equal. -/
def Part.same (p : Part) (s t : State) : Prop :=
  match p with
  | .regs b => ∀ f : RegField, f.inBlock b → t.get f = s.get f
  | .tnet => t.tnet = s.tnet
  | .clock => t.clock = s.clock
  | .mem => ∀ a, t.byte a = s.byte a
  | .poison => t.poison = s.poison
  | .faults => t.faults = s.faults
  | .power => t.power = s.power
  | .radio => t.radio = s.radio
  | .slot => t.slot = s.slot
  | .mac => t.mac = s.mac
  | .sec => t.sec = s.sec
  | .gnss => t.gnss = s.gnss
  | .rtc => t.rtc = s.rtc
  | .evr => t.evr = s.evr
  | .memctl => t.memctl = s.memctl
  | .flash => t.flash = s.flash
  | .core0 => t.core0 = s.core0
  | .core1 => t.core1 = s.core1
  | .lgy => t.lgy = s.lgy
  | .tag => t.tag = s.tag
  | .host => t.host = s.host
  | .boot => t.boot = s.boot
  | .pke => t.pke = s.pke
  | .pins => t.pins = s.pins
  | .objs => t.objs = s.objs
  | .free => t.free = s.free
  | .pending => t.pending = s.pending
  | .partT => t.partT = s.partT

/-- Only the parts `ps` differ between `s` and `t`. -/
def only (ps : List Part) (s t : State) : Prop := ∀ p, p ∉ ps → p.same s t

/-- Command `c` completes in `s`: exec answers a next state, and `P` holds of it. -/
def completes (c : Instr) (s : State) (P : State → Prop) : Prop := ∃ t, exec c s = .next t ∧ P t

/-- Event En has occurred since its sticky bit was last cleared (R22). -/
def State.event (s : State) (n : Nat) : Bool := bit (s.get (EVR_ESTAT_STAT (n / 32))) (n % 32)

/-! The issue of an instruction by a Sloe core. -/

/-- The state in which core `c1` executes the instruction that a command gives: the core issues, no halt, error, interrupt or
breakpoint comes first, and the fetch succeeds; none otherwise. -/
def State.begins (s : State) (c1 : Bool) : Option State :=
  if !s.issues c1 ∨ (s.coreBoundary c1).isSome ∨ (s.core c1).atBreakpoint then none
  else match s.fetch c1 with
    | .ok z => some z
    | _ => none

/-- No repeat body is open, no watchpoint is enabled and the core does not single-step. -/
def CoreState.quiet (c : CoreState) : Bool := c.reps.isEmpty && slice c.dctrl 5 4 == 0 && !bit c.st 7

/-- `z` with core `c1` replaced by `c` at the word after its PC. -/
def State.stepTo (z : State) (c1 : Bool) (c : CoreState) : State := z.setCore c1 { c with pc := moveBy (z.core c1).pc 4 }

/-- The CODE word that vector `index` of core `c1` holds in system SRAM, in a TAGGED segment that system mode may read. -/
def State.vectorWord (z : State) (c1 : Bool) (index : Nat) : Option Word :=
  let c := z.core c1
  let p := moveBy c.vtab.data (4 * index)
  let sys := { c with st := setBit c.st 0 }
  if c.vtab.tag = .ptr ∧ offOf c.vtab.data + 4 * index < 2 ^ 28 ∧ sys.access p 4 2 = [] ∧ inSys (c.phys p) ∧ c.policy p = 0 ∧
      z.poisoned (c.phys p) = false ∧ z.tagOf (c.phys p) = .code then some (BitVec.ofNat 32 (z.num (c.phys p) 4))
  else none

/-- Core state `c` after steps 2 to 4 of an exception's entry (R292). -/
def CoreState.entered (c : CoreState) (epc : Word) (ecause eaddr : Nat) (pc : Word) : CoreState :=
  { c with epc := ⟨.code, epc⟩, est := c.st, ecause := ecause, eaddr := eaddr, st := setBit (clearBit (setBit c.st 0) 1) 2,
           entries := satInc 16 c.entries, lastCause := ecause % 256, pc := pc }

/-- A memory is in canonical form: addresses strictly rising, and no byte listed that reads so unlisted. -/
def Memory.wf (m : Sparse Byte) : Bool := Sparse.wf memDefault m

/-- The map of poisoned words is in canonical form: each entry at the address of a word. -/
def Poison.wf (p : Sparse Bool) : Bool := Sparse.wf (fun _ => false) p && p.all fun e => e.1 % 4 == 0

/-- The maps of the state are in canonical form. -/
def State.wf (s : State) : Prop :=
  Memory.wf s.mem = true ∧ Sparse.sortedFrom 0 s.fields = true ∧ Poison.wf s.poison = true ∧
  Sparse.wf (fun _ => ([] : List Byte)) s.objs = true

end Sys2Proof.Machine
end

