-- ==== Sys2Proof/WellFormed.lean ====
section
/-! DEFINITION. Well-formed commands: operands within what the registers, buses and ports can carry, where their types do not
say so. A meaning takes any command; a sender sends well-formed ones. -/
namespace Sys2Proof

/-- One byte of an object's value. -/
def octet (n : Nat) : Bool := decide (n < 256)

/-- A value or a frame of `lo` to `hi` bytes. -/
def sized (bs : List Byte) (lo hi : Nat) : Bool := decide (lo ≤ bs.length) && decide (bs.length ≤ hi)

/-- A reading of RFC_TEMP: 12 bits, 0.25 °C. -/
def tempOk (t : Int) : Bool := decide (-2048 ≤ t) && decide (t ≤ 2047)

/-- A signed 16-bit quantity of a record. -/
def fits16 (v : Int) : Bool := decide (-32768 ≤ v) && decide (v ≤ 32767)

/-- The parity errors of at most `n` loaded words, one bit for each 7 bits and parity of R317. -/
def parities (ps : List Nat) (n : Nat) : Bool := decide (ps.length ≤ n) && ps.all fun p => decide (p < 32)

/-- A transport of R359 and an 8-byte address. -/
def Machine.HostId.ok (w : HostId) : Bool := decide (w.transport ≤ 4) && decide (w.addr < 2 ^ 64)

/-- The tag's field side can stop a write of a block that exists (R401). -/
def Machine.DictEnv.ok (e : DictEnv) : Bool := match e.badAt with
  | some k => decide (k < 2048)
  | none => true

/-- The queue of R373 holds at most 32 requests. -/
def Machine.HostEnv.ok (e : HostEnv) : Bool := decide (e.load ≤ 32) && e.dict.ok

/-- A master, with the 16-bit TID of its frame, or a reader. -/
def Machine.Peer.ok : Peer → Bool
  | .host w tid => w.ok && decide (tid < 65536)
  | .field _ => true

/-- The command's operands are what its sender can send. -/
def Instr.wf : Instr → Bool
  | .registerWrite _ _ _ _ => true
  | .detectionRecordDequeue _ => true
  | .modeWrite value => octet value
  | .modeTransition => true
  | .radioStateCommand _ => true
  | .radioStateReached _ => true
  | .synthUnlock _ => true
  | .freqWrite _ _ => true
  | .tempDelta temp => tempOk temp
  | .calibrationStart _ => true
  | .calibrationDone _ _ => true
  | .calHoldExpired => true
  | .adcSaturation _ => true
  | .profileWrite image => sized image 1 2048
  | .reglockSet value => octet value
  | .regCertWrite cert => sized cert 1 2048
  | .dutySecondTick => true
  | .programStop => true
  | .testStop => true
  | .testCw => true
  | .modcarrier => true
  | .perTx => true
  | .perRx => true
  | .calread => true
  | .testDurationEnd => true
  | .rxProfileWrite _ _ => true
  | .twinEnWrite _ => true
  | .channelMapRebuild => true
  | .rxWindowOpen _ => true
  | .rxWindowClose _ => true
  | .syncMatch _ _ _ rssi offset _ => fits16 rssi && fits16 offset
  | .laneFrameEnd _ _ => true
  | .blankingEnd => true
  | .twinPairTimeout _ => true
  | .leakConverged _ suppr => octet suppr
  | .leakResidualCheck _ suppr => octet suppr
  | .txProfileWrite _ _ => true
  | .captureStage _ _ => true
  | .phrStage _ _ _ _ _ length => decide (length < 2048)
  | .decodeStage _ _ soft => soft.all fits16
  | .crcCheck _ _ => true
  | .parseStage _ _ => true
  | .lookupStage _ _ => true
  | .secureRxStage _ _ => true
  | .admitStage _ _ => true
  | .deliverStage _ _ => true
  | .dequeueStage _ => true
  | .buildStage _ _ => true
  | .secureTxStage _ _ => true
  | .encodeStage _ _ => true
  | .modulateStage _ _ => true
  | .maskStage _ _ => true
  | .launchStage _ _ vsup => decide (vsup < 4096)
  | .lateDrop _ => true
  | .txRampStart => true
  | .txFirstSymbol => true
  | .txEnd => true
  | .rampDownEnd => true
  | .maskPeriodogram levels => levels.length == 256
  | .imageWrite offset bytes => !bytes.isEmpty && decide (offset + bytes.length ≤ 73728)
  | .loadProgram _ => true
  | .loadCheckDone => true
  | .armSwap => true
  | .programCancel => true
  | .programClear => true
  | .firstProgramStart => true
  | .slotBoundary _ _ => true
  | .twinMismatch _ => true
  | .twinLockup => true
  | .twintestInject _ => true
  | .dropPop => true
  | .asnLRead => true
  | .rateAccumulatorOverflow => true
  | .contextWrite _ => true
  | .contextRead _ => true
  | .contextDelete _ => true
  | .ackReceived _ frame _ tSfd rssi offset => sized frame 0 2047 && decide (tSfd < 2 ^ 64) && fits16 rssi && fits16 offset
  | .ackWindowClose _ => true
  | .adriftEntry => true
  | .adriftTimeout => true
  | .scanDwellEnd => true
  | .syncScan => true
  | .syncStop => true
  | .syncPoll => true
  | .txPush _ => true
  | .txDonePop => true
  | .queueFlush _ => true
  | .flushPending => true
  | .dqRelease rd => decide (rd < 65536)
  | .fbcfgWrite _ => true
  | .keyLoad _ => true
  | .keyClear _ => true
  | .keyCommandApply _ => true
  | .keyOwnerWrite _ => true
  | .keyExhausted _ blocks _ => decide (blocks < 65536)
  | .cipherSubmit _ _ => true
  | .cipherChunkEnd _ => true
  | .cipherDone _ => true
  | .pageAbort _ => true
  | .cipherFault _ _ => true
  | .cipherRequestObject image => sized image 1 66276
  | .acqPush => true
  | .acqAbort => true
  | .acqDone _ _ ratio tRef _ => decide (ratio < 65536) && decide (tRef < 2 ^ 64)
  | .acqPop => true
  | .blockBoundary _ outs => outs.length == 14
  | .lockMonitorWindow _ => true
  | .spectrumUpdate levels tracks => levels.length == 512 && tracks.length == 4
  | .jammingUpdate _ => true
  | .gnssAgcStep rms => decide (rms < 65536)
  | .secondMark _ => true
  | .timePulse _ => true
  | .measLatch phases => phases.length == 96
  | .gtimeSet => true
  | .gtphaseTrim _ => true
  | .timeValidWrite _ => true
  | .steerForce => true
  | .steerResetI => true
  | .rtcTick => true
  | .alarmFire => true
  | .oscStop => true
  | .oscReturn => true
  | .rtcSet => true
  | .rtcSetAt => true
  | .rtcSetCancel => true
  | .rtcSetApply => true
  | .setFromNetworkTime value => octet value
  | .rtcMeasure => true
  | .measAbort => true
  | .measureDone count => decide (count < 2 ^ 32)
  | .timeRegisterRead _ _ => true
  | .shadowTimeout _ => true
  | .alarmArm _ _ => true
  | .rtcTrimWrite _ => true
  | .supplySwitch => true
  | .supplyReturn => true
  | .backupPowerOn => true
  | .comparatorSample _ _ => true
  | .timerTick _ => true
  | .timerReload _ => true
  | .timerStart _ _ => true
  | .timerStop _ _ => true
  | .cmpWrite _ _ _ => true
  | .compareImmediateFire _ => true
  | .tnetRead => true
  | .channelPulse _ => true
  | .evrFire _ _ => true
  | .softwareEvent _ => true
  | .pinEdge _ _ age => decide (age < 2 ^ 32)
  | .stuckDetect _ => true
  | .stuckClear _ => true
  | .rateWindowEnd _ => true
  | .stampRead _ => true
  | .add _ _ _ _ => true
  | .sub _ _ _ _ => true
  | .addc _ _ _ _ => true
  | .subc _ _ _ _ => true
  | .and _ _ _ _ => true
  | .or _ _ _ _ => true
  | .xor _ _ _ _ => true
  | .andn _ _ _ _ => true
  | .shl _ _ _ _ => true
  | .shr _ _ _ _ => true
  | .sar _ _ _ _ => true
  | .rol _ _ _ _ => true
  | .mul _ _ _ _ => true
  | .mulhs _ _ _ _ => true
  | .mulhu _ _ _ _ => true
  | .divs _ _ _ _ => true
  | .divu _ _ _ _ => true
  | .rems _ _ _ _ => true
  | .remu _ _ _ _ => true
  | .mins _ _ _ _ => true
  | .maxs _ _ _ _ => true
  | .addi _ _ _ _ => true
  | .andi _ _ _ _ => true
  | .ori _ _ _ _ => true
  | .xori _ _ _ _ => true
  | .shi _ _ _ _ _ => true
  | .lui _ _ _ => true
  | .cmp _ _ _ _ _ => true
  | .cmpi _ _ _ _ _ => true
  | .mov _ _ _ => true
  | .tagof _ _ _ => true
  | .retag _ _ _ _ => true
  | .chktag _ _ _ => true
  | .ldw _ _ _ _ _ => true
  | .ldh _ _ _ _ _ => true
  | .ldhu _ _ _ _ _ => true
  | .ldb _ _ _ _ _ => true
  | .ldbu _ _ _ _ _ => true
  | .stw _ _ _ _ => true
  | .sth _ _ _ _ _ => true
  | .stb _ _ _ _ _ => true
  | .addp _ _ _ _ => true
  | .addpi _ _ _ _ => true
  | .subp _ _ _ _ => true
  | .lea _ _ _ _ => true
  | .leac _ _ _ => true
  | .pushm _ _ => true
  | .popm _ _ parity => parities parity 15
  | .cas _ _ _ _ _ => true
  | .br _ _ => true
  | .bt _ _ _ => true
  | .bf _ _ _ => true
  | .jmp _ _ => true
  | .call _ _ _ => true
  | .ret _ parity => parities parity 17
  | .trap _ _ => true
  | .bkpt _ => true
  | .wait _ => true
  | .waitWake _ => true
  | .fence _ => true
  | .eret _ => true
  | .mfs _ _ _ => true
  | .mts _ _ _ => true
  | .segw _ _ _ _ _ => true
  | .segr _ _ _ _ => true
  | .iena _ => true
  | .idis _ => true
  | .illegal _ => true
  | .interruptEntry _ => true
  | .impreciseBusError _ => true
  | .debugHalt _ _ => true
  | .debugResume _ => true
  | .core1Run => true
  | .core1Stop => true
  | .grantWindowWrite _ _ => true
  | .checkerMismatch => true
  | .mpy _ _ _ _ => true
  | .mac _ _ _ _ => true
  | .msu _ _ _ _ => true
  | .fadds _ _ _ _ => true
  | .fsubs _ _ _ _ => true
  | .fmulr _ _ _ _ => true
  | .aclr _ _ => true
  | .amov _ _ _ => true
  | .aadd _ _ _ => true
  | .asub _ _ _ => true
  | .aneg _ _ _ => true
  | .aabs _ _ _ => true
  | .ashl _ _ _ _ => true
  | .ashr _ _ _ _ => true
  | .mvaf _ _ _ _ => true
  | .mvfa _ _ _ => true
  | .mvah _ _ _ => true
  | .mval _ _ _ => true
  | .mvga _ _ _ _ => true
  | .sxset _ _ => true
  | .tap _ _ _ _ _ _ _ _ _ _ => true
  | .rep _ _ _ => true
  | .endrep _ => true
  | .rsave _ _ => true
  | .rrest _ _ parity => parities parity 13
  | .patrolRead _ _ => true
  | .flipArm => true
  | .mergeFlush => true
  | .mergeIdleFlush => true
  | .faultReport _ _ _ _ => true
  | .faultClose _ _ _ => true
  | .faultPop => true
  | .faultInject _ => true
  | .readPage _ _ _ _ _ _ => true
  | .programPage _ _ _ _ _ => true
  | .eraseBlock _ _ _ _ => true
  | .readCounter _ _ _ _ => true
  | .flashSuspend _ _ _ _ => true
  | .resumeFlash _ _ _ _ => true
  | .flushMerge _ _ _ => true
  | .flashPulseEnd _ _ => true
  | .flashDone _ => true
  | .flashDonePop => true
  | .flashPageMiss _ => true
  | .autoResume _ => true
  | .eraseStarve _ => true
  | .flashOwnerWrite _ _ _ => true
  | .spiTransaction mosi _ _ env => !mosi.isEmpty && env.ok
  | .canSegment _ data env => sized data 0 64 && env.ok
  | .canBusoff => true
  | .udpDatagram _ _ _ data env => sized data 0 1472 && env.ok
  | .ethLink _ _ _ => true
  | .uartFrame data env => sized data 0 65535 && env.ok
  | .objectRequest => true
  | .objectResponse => true
  | .meshRequest env => env.ok
  | .meshReply => true
  | .appTimeout => true
  | .odpRead who _ _ _ env => who.ok && env.ok
  | .odpWrite who _ _ _ value env => who.ok && sized value 0 1024 && env.ok
  | .odpReadSeg who _ _ _ _ env => who.ok && env.ok
  | .odpWriteSeg who _ _ _ _ _ _ data env => who.ok && sized data 0 1024 && env.ok
  | .odpInfo who _ _ _ env => who.ok && env.ok
  | .odpClaim who _ _ _ env => who.ok && env.ok
  | .odpKeepalive who _ _ env => who.ok && env.ok
  | .odpRelease who _ _ env => who.ok && env.ok
  | .odpHandover who _ _ next _ env => who.ok && next.ok && env.ok
  | .odpOwner who _ env => who.ok && env.ok
  | .odpRecovery who _ env => who.ok && env.ok
  | .claimWindowClose => true
  | .ownerLost => true
  | .handoverTimeout => true
  | .stagingTimeout who _ _ => who.ok
  | .snapshotTimeout who _ _ => who.ok
  | .loadLevel _ => true
  | .restoreDefaults value => octet value
  | .delivery => true
  | .txSubmit who body => who.ok && sized body 0 4096
  | .txComplete => true
  | .legacySpiTransaction mosi _ _ _ => !mosi.isEmpty
  | .lgyStatusRead => true
  | .rxfifoRead => true
  | .txfifoWrite _ => true
  | .rxlevLRead => true
  | .txlevLRead => true
  | .slotcntLRead => true
  | .irqFlagClear _ _ => true
  | .nirqAssert => true
  | .basef2Write _ => true
  | .flushRx => true
  | .flushTx => true
  | .txStart => true
  | .txAbort => true
  | .ctxWrite => true
  | .ctxRead => true
  | .ctxDelete => true
  | .hopWrite => true
  | .hopRead => true
  | .lgyCal => true
  | .softReset => true
  | .cmddone => true
  | .legacySlotBoundary => true
  | .legacyFrameStored _ => true
  | .legacyBeaconRx _ => true
  | .bcnmiss => true
  | .synclost => true
  | .legacyAckWindowClose => true
  | .txUnderrun => true
  | .unlockWrite _ => true
  | .unlockTimeout => true
  | .nativeSwitchover => true
  | .tagInventory _ sixteen _ maskLen mask => decide (maskLen.val ≤ if sixteen then 60 else 64) && decide (mask < 2 ^ maskLen.val)
  | .tagStayQuiet _ => true
  | .readSingleBlock _ _ => true
  | .readMultipleBlocks _ _ _ => true
  | .writeSingleBlock _ _ _ => true
  | .tagSelect _ => true
  | .resetToReady _ => true
  | .writeAfi _ _ => true
  | .lockAfi _ => true
  | .writeDsfid _ _ => true
  | .lockDsfid _ => true
  | .getSystemInformation _ => true
  | .getMultipleBlockSecurityStatus _ _ _ => true
  | .extendedReadSingleBlock _ _ => true
  | .extendedWriteSingleBlock _ _ _ => true
  | .extendedReadMultipleBlocks _ _ _ => true
  | .extendedGetSystemInformation _ => true
  | .extGetMultipleBlockSecurityStatus _ _ _ => true
  | .getStatus _ => true
  | .presentPassword _ _ _ _ => true
  | .changePassword _ _ _ _ => true
  | .unsupportedCommand _ => true
  | .tagLockout _ => true
  | .tagBlockWrite _ _ => true
  | .clearAttempts _ _ => true
  | .tagWriteDone _ => true
  | .tagPowerUp => true
  | .fieldOn _ => true
  | .fieldOff _ => true
  | .reservationEnd => true
  | .tagMemoryDataWrite data _ _ => sized data 4 1024 && data.length % 4 == 0
  | .bootRom _ => true
  | .updBegin env => env.ok
  | .updateData _ data env => sized data 1 1020 && env.ok
  | .updateStaged => true
  | .updCommit env => env.ok
  | .updateAbort _ => true
  | .updConfirm env => env.ok
  | .trialTimeout => true
  | .swapRequest => true
  | .attestationNonce nonce => sized nonce 1 32
  | .customerRootKeyWrite key env => key.length == 64 && env.ok
  | .rInfo who env => who.ok && env.ok
  | .rBegin who _ env => who.ok && env.ok
  | .rData who _ data env => who.ok && sized data 1 1020 && env.ok
  | .rEnd who env => who.ok && env.ok
  | .rBoot who env => who.ok && env.ok
  | .recoverySessionTimeout => true
  | .pkeSm3 _ _ => true
  | .pkeSm2Verify => true
  | .pkeSm2Sign => true
  | .pkeDone => true
  | .rngRestart => true
  | .rngRead => true
  | .rngWord => true
  | .trngHealth => true
  | .sleepEnter => true
  | .deepSleep => true
  | .standbyEnter => true
  | .powerOff => true
  | .powerEntryComplete => true
  | .entryTimeout => true
  | .dozeExit => true
  | .powerWake _ => true
  | .returnToRun calTicks refTicks => decide (calTicks < 2 ^ 64) && decide (refTicks < 2 ^ 64)
  | .wakeStepTimeout _ => true
  | .sleepTimer => true
  | .vsupSample _ => true
  | .thermalWarn temp => tempOk temp
  | .clkDeviate count => decide (count < 2 ^ 32)
  | .clockFail => true
  | .refOk => true
  | .watchdogTick _ => true
  | .watchdogExpiry _ => true
  | .watchdogKick _ _ => true
  | .watchdogEnable _ => true
  | .deviceResetCommand _ => true
  | .core1ResetCommand _ => true
  | .pinReset _ => true
  | .powerOn => true
  | .deviceReset => true
  | .resetRelease _ => true
  | .holdRelease => true
  | .blockReset _ => true
  | .blockResetRelease _ => true
  | .gnssRestart start => octet start
  | .retuneBlankEnd _ => true
  | .thermHotClear temp => tempOk temp
  | .temphi temp => tempOk temp
  | .backupDomainLost => true
  | .vioLow => true
  | .vioRestored => true
  | .busOffRecovery => true
  | .arpRequest senderMac _ _ => decide (senderMac < 2 ^ 48)
  | .icmpEchoRequest _ data => sized data 0 1480
  | .debugResetRequest _ => true
  | .timePulseTrailingEdge => true
  | .measureNoref => true

end Sys2Proof
end

