-- ==== Sys2Proof/Certificates/Slice0/Obligations.lean ====
section
/-! DEFINITION. The statements for the provers: what the commands do, by family, what they leave alone, and what every step
keeps. `completes c s P` says that exec answers a next state with P. -/
open Sys2Proof Sys2Proof.Machine

/-- The first check of R411 that a field write of block `b` fails, of a command that names blocks below `limit`. -/
def Sys2Proof.Machine.State.writeError (s : State) (r : TagReq) (limit b : Nat) : Option Nat :=
  if limit ≤ b then some 0x10
  else if (tagAreas b 1).any (fun k => s.tagLocked k) = true then some 0xA2
  else if (tagAreas b 1).any (fun k => s.tagWp k && !bit s.tag.writeSessions k) = true then some 0xA4
  else if (s.tagTake .field r.tie).1 = false then some 0xA3
  else if r.vrec.val < 96 then some 0xA1
  else none

/-- The same for AFI and DSFID with lock bit `k` of block 2008 (R411). -/
def Sys2Proof.Machine.State.infoError (s : State) (r : TagReq) (k : Nat) : Option Nat :=
  if bit (s.tagBlock 2008) k = true then some 0x12
  else if (s.tagTake .field r.tie).1 = false then some 0xA3
  else if r.vrec.val < 96 then some 0xA1
  else none

/-- The tag that a word loaded through pointer `p` carries (R279). -/
def Sys2Proof.Machine.loadedTag (z : State) (c : CoreState) (p : Word) : Tag :=
  if c.policy p = 1 then .int else if c.policy p = 2 then .raw else if inSys (c.phys p) then z.tagOf (c.phys p) else .raw

/-- A load of `n` bytes through `p` finds SRAM that it may read and that is not poisoned. -/
def Sys2Proof.Machine.CoreState.canLoad (c : CoreState) (z : State) (p : Word) (n : Nat) : Bool :=
  (c.access p n 2).isEmpty && (inSys (c.phys p) || inPacket (c.phys p)) && !z.poisoned (c.phys p)

/-- A store of `n` bytes through `p` finds system SRAM that it may write and that is not poisoned. -/
def Sys2Proof.Machine.CoreState.canStore (c : CoreState) (z : State) (p : Word) (n : Nat) : Bool :=
  (c.access p n 4).isEmpty && inSys (c.phys p) && c.phys p % n == 0 && !z.poisoned (c.phys p)

/-- The words that CALL pushes (R287). -/
def Sys2Proof.Machine.CoreState.callWords (c : CoreState) (mask : Nat) : List TWord :=
  [⟨.code, moveBy c.pc 4⟩] ++ (maskRegs mask).map c.reg ++ [⟨.handle, BitVec.ofNat 32 (0xCA110000 + mask)⟩]

/-- Register `j` after a pop of the registers of MASK, descending, with the words `ws` (R287). -/
def Sys2Proof.Machine.CoreState.popped (c : CoreState) (mask : Nat) (ws : List TWord) (j : Nat) : TWord :=
  if bit mask j then ws.getD ((maskRegs mask).filter fun i => decide (j < i)).length {} else c.reg j

/-- Core `c` after a result `v` of the width `n` of R302,
  with `f` what stores it: within its range as it is; out of range at
the nearest end, or wrapped where an accumulator does not saturate, and the sticky bit AOV or SOV set (R303). -/
def Sys2Proof.Machine.CoreState.fits (n : Nat) (v : Int) : Bool := decide (-(2 ^ (n - 1)) ≤ v) && decide (v < 2 ^ (n - 1))

/-- An accumulator's new value from an exact value `v`, without a trap: the core. -/
def Sys2Proof.Machine.CoreState.accumulated (c : CoreState) (an : Nat) (v : Int) : CoreState :=
  if CoreState.fits 40 v then { c with acc := c.acc.set an v }
  else { c with acc := c.acc.set an (if bit c.st 18 then (if v < 0 then -(2 ^ 39) else 2 ^ 39 - 1) else (v + 2 ^ 39) % 2 ^ 40 - 2 ^ 39),
                st := setBit c.st 20 }

/-- A fractional result from an exact value `v`, without a trap: the core. -/
def Sys2Proof.Machine.CoreState.fraction (c : CoreState) (gd : Nat) (v : Int) : CoreState :=
  if CoreState.fits 32 v then c.setReg gd ⟨.frac, BitVec.ofInt 32 v⟩
  else { c.setReg gd ⟨.frac, BitVec.ofInt 32 (if v < 0 then -(2 ^ 31) else 2 ^ 31 - 1)⟩ with st := setBit c.st 21 }

/-- `r` is `v` / 2^n rounded by mode `rnd` (R302): down; to nearest, halves up; to nearest, halves to even. -/
def roundedTo (rnd : Nat) (v r : Int) (n : Nat) : Bool :=
  if n = 0 then r == v
  else if rnd = 0 then decide (r * 2 ^ n ≤ v) && decide (v < (r + 1) * 2 ^ n)
  else if rnd = 1 then decide ((2 * r - 1) * 2 ^ (n - 1) ≤ v) && decide (v < (2 * r + 1) * 2 ^ (n - 1))
  else decide ((2 * r - 1) * 2 ^ (n - 1) ≤ v) && decide (v ≤ (2 * r + 1) * 2 ^ (n - 1)) &&
    (r % 2 == 0 || (v != (2 * r - 1) * 2 ^ (n - 1) && v != (2 * r + 1) * 2 ^ (n - 1)))

/-- Post-modify `m` of TAP can move pointer `w` (R305, R307). -/
def Sys2Proof.Machine.CoreState.moves (c : CoreState) (w : Word) (m : Nat) : Bool :=
  if m = 0 then true else if m = 1 then decide (offOf w + 4 < 2 ^ 28) else if m = 2 then decide (4 ≤ offOf w)
  else ((c.seg w).limit + 1) % 4 == 0 && decide (offOf w ≤ (c.seg w).limit)

/-- The pointer that post-modify `m` leaves (R305, R307): 0 as it is, 1 up, 2 down, 3 circular up, 4 circular down. -/
def Sys2Proof.Machine.CoreState.after (c : CoreState) (w : Word) (m : Nat) : Word :=
  let n := (c.seg w).limit + 1
  if m = 0 then w else if m = 1 then moveBy w 4 else if m = 2 then moveBy w (-4)
  else segWord (segOf w) (if m = 3 then (offOf w + 4) % n else if 4 ≤ offOf w then (offOf w - 4) % n else (offOf w + n * 4 - 4) % n)

/-- Nothing is queued, at work or waiting in the flash controller, and code may push (R342, R344). -/
def Sys2Proof.Machine.State.flashFree (s : State) (rom : Bool) : Bool :=
  (s.get FLC_OWNER_ROM_OWN == 0 || rom) && s.flash.queue.isEmpty && decide (s.flash.done.length < 16) && s.flash.merge.isEmpty &&
  s.flash.mergeRun.isNone && s.flash.bank0.run.isNone && s.flash.bank0.side.isNone && s.flash.bank1.run.isNone && s.flash.bank1.side.isNone

/-- What a request of native operation finds (R373): accepted, and counted in the queue's level. -/
def Sys2Proof.Machine.State.admitted (s : State) (n : Nat) : State :=
  (s.hostStart.bump HDP_CNT0_ACCEPTED).put HDP_STATUS_QLEVEL (min n 32)

/-- `t` is `s` after the answer with status `st` and payload `body` has left for `who`: SPI's output stream, CAN segments, a
datagram, the UART's escaped frame where its balls carry it, or a reply for the mailbox (R360 to R365). -/
def Sys2Proof.Machine.State.told (s t : State) (who : HostId) (opc tid : Nat) (st : OdpStatus) (body : List Byte) : Bool :=
  let f := odpFrame (128 + opc) tid body
  decide (t.host.result = st) && t.host.output == body &&
  match who.transport with
  | 0 => t.host.dictOut == s.host.dictOut ++ f
  | 1 => decide (t.host.sent = s.host.sent ++ (canSegments (s.on HDP_CANCFG_FD_EN) f).map fun x => (who, x))
  | 2 => decide (t.host.sent = s.host.sent ++ [(who, f)])
  | 3 => decide (t.host.sent = s.host.sent ++ (if t.uartWired then [(who, uartEscape f)] else []))
  | _ => decide (t.host.replies = s.host.replies ++ [(who.addr % 65536, f)])

/-- A request of `who` is served at once (R358, R373). -/
def Sys2Proof.Machine.State.serves (s : State) (who : HostId) (e : HostEnv) : Bool :=
  s.portLive who.transport && s.mode != modeRecovery && decide (e.load < 32)

/-- Flag `n` of the 64 of the ER-418 map is set (R388). -/
def Sys2Proof.Machine.State.lgyHas (s : State) (n : Nat) : Bool := bit (s.get (LGY_IRQF_FLAGS (n / 8))) (n % 8)

/-- A command of R391 can begin: the engine works and runs none; commands 0x05 to 0x0A have their firmware. -/
def Sys2Proof.Machine.State.lgyFree (s : State) : Bool := s.lgyLive && s.lgy.cmd.isNone && s.boot.firmware

/-- The tag has taken a field request: no answer yet, and the field strength sampled (R408). -/
def Sys2Proof.Machine.State.heard (s : State) (r : TagReq) : State := { s with tag := { s.tag with answer := none, vrec := r.vrec } }

/-- `s` answering a field request with data, and with an error code (R405). -/
def Sys2Proof.Machine.State.answers (s : State) (bs : List Byte) : State := { s with tag := { s.tag with answer := some (0 :: bs) } }
def Sys2Proof.Machine.State.refuses (s : State) (code : Byte) : State := { s with tag := { s.tag with answer := some [1, code] } }

/-- The semaphore is free for a request without a rival (R416, R417). -/
def Sys2Proof.Machine.State.tagFree (s : State) (r : TagReq) : Bool := s.tag.write.isNone && s.tag.reserved.isNone && !r.tie

/-- Recovery with a request of `who` to be served, and the state that the answer starts from (R440). -/
def Sys2Proof.Machine.State.recovers (s : State) (who : HostId) : Option State :=
  if s.mode = modeRecovery ∧ s.portLive who.transport = true then some (s.hostStart.bump HDP_CNT0_ACCEPTED) else none

/-- The parts of the state that a command may change, whatever the state and its operands. Blocks of registers bear their
numbers of R20: 0 PRC, 1 RFC, 2 CHZ, 3 TXP, 4 SLE, 5 MAC, 6 SEC, 7 PKE, 8 GNS, 9 RTC, 10 TMR, 11 EVR, 12 MEM, 13 FLC,
  14 HDP,
15 LGY, 16 TAG, 17 BTU, 18 ERR, 19 PIN. An event reaches `evr`, `core0`, `core1` and block 11,
  and `power` with block 0 where it
wakes the device. -/
def Sys2Proof.Machine.mayChange : Instr → List Part
  | .registerWrite .. =>
      [.tnet, .mem, .poison, .faults, .power, .radio, .slot, .mac, .sec, .gnss, .rtc, .evr, .flash, .core0, .core1, .lgy,
      .tag, .host, .pke, .pins, .free, .regs 0, .regs 1, .regs 2, .regs 3, .regs 4, .regs 5, .regs 6, .regs 7, .regs 8,
      .regs 9, .regs 10, .regs 11, .regs 12, .regs 13, .regs 14, .regs 15, .regs 16, .regs 17, .regs 18, .regs 19]
  | .detectionRecordDequeue .. =>
      [.faults, .power, .radio, .slot, .evr, .core0, .core1, .regs 0, .regs 2, .regs 11, .regs 18]
  | .modeWrite .. =>
      [.power, .slot, .host, .boot, .regs 0, .regs 4]
  | .modeTransition .. | .slotBoundary .. =>
      [.tnet, .clock, .mem, .poison, .power, .radio, .slot, .mac, .sec, .evr, .core0, .core1, .lgy, .boot, .objs, .regs 0,
      .regs 1, .regs 2, .regs 4, .regs 5, .regs 8, .regs 11, .regs 15]
  | .radioStateCommand .. | .radioStateReached .. | .tempDelta .. =>
      [.power, .radio, .evr, .core0, .core1, .regs 0, .regs 1, .regs 11]
  | .synthUnlock .. =>
      [.power, .radio, .evr, .core0, .core1, .regs 0, .regs 1, .regs 11, .regs 15]
  | .freqWrite .. | .blankingEnd .. | .retuneBlankEnd .. =>
      [.radio, .regs 1, .regs 2]
  | .calibrationStart .. | .twinEnWrite .. | .laneFrameEnd .. =>
      [.radio, .slot, .regs 1, .regs 2]
  | .calibrationDone .. | .adcSaturation .. | .testStop .. | .testCw .. | .modcarrier .. =>
      [.power, .radio, .slot, .evr, .core0, .core1, .regs 0, .regs 1, .regs 2, .regs 11]
  | .calHoldExpired .. =>
      [.radio, .regs 1]
  | .profileWrite .. =>
      [.power, .radio, .evr, .core0, .core1, .host, .boot, .regs 0, .regs 1, .regs 11]
  | .reglockSet .. =>
      [.mem, .power, .evr, .core0, .core1, .host, .regs 0, .regs 1, .regs 11]
  | .regCertWrite .. =>
      [.mem, .power, .radio, .evr, .core0, .core1, .host, .boot, .regs 0, .regs 1, .regs 11]
  | .dutySecondTick .. | .calread .. =>
      [.radio]
  | .programStop .. | .asnLRead .. =>
      [.regs 4]
  | .perTx .. =>
      [.power, .radio, .slot, .evr, .core0, .core1, .free, .regs 0, .regs 1, .regs 2, .regs 11]
  | .perRx .. | .rxProfileWrite .. | .channelMapRebuild .. =>
      [.radio, .regs 2]
  | .testDurationEnd .. | .txEnd .. =>
      [.power, .radio, .slot, .evr, .core0, .core1, .regs 0, .regs 1, .regs 11]
  | .rxWindowOpen .. =>
      [.radio, .slot, .regs 2]
  | .rxWindowClose .. =>
      [.mem, .power, .radio, .slot, .evr, .core0, .core1, .regs 0, .regs 2, .regs 11]
  | .syncMatch .. =>
      [.power, .radio, .slot, .evr, .core0, .core1, .regs 0, .regs 2, .regs 11, .regs 15]
  | .twinPairTimeout .. =>
      [.slot]
  | .leakConverged .. | .leakResidualCheck .. =>
      [.power, .radio, .evr, .core0, .core1, .regs 0, .regs 2, .regs 11]
  | .txProfileWrite .. =>
      [.regs 3]
  | .captureStage .. | .decodeStage .. | .lookupStage .. | .admitStage .. =>
      [.faults, .power, .radio, .slot, .evr, .core0, .core1, .regs 0, .regs 1, .regs 4, .regs 11, .regs 18]
  | .phrStage .. =>
      [.faults, .power, .radio, .slot, .evr, .core0, .core1, .regs 0, .regs 1, .regs 2, .regs 4, .regs 11, .regs 15, .regs
      18]
  | .crcCheck .. =>
      [.faults, .power, .radio, .slot, .evr, .core0, .core1, .regs 0, .regs 1, .regs 4, .regs 11, .regs 15, .regs 18]
  | .parseStage .. =>
      [.faults, .power, .radio, .slot, .evr, .core0, .core1, .regs 0, .regs 1, .regs 4, .regs 5, .regs 11, .regs 18]
  | .secureRxStage .. =>
      [.faults, .power, .radio, .slot, .sec, .evr, .core0, .core1, .regs 0, .regs 1, .regs 4, .regs 6, .regs 11, .regs 18]
  | .deliverStage .. =>
      [.tnet, .mem, .poison, .faults, .power, .radio, .slot, .mac, .evr, .core0, .core1, .regs 0, .regs 1, .regs 2, .regs
      4, .regs 5, .regs 11, .regs 18]
  | .dequeueStage .. | .buildStage .. | .encodeStage .. | .modulateStage .. | .twinMismatch .. =>
      [.mem, .faults, .power, .radio, .slot, .mac, .evr, .core0, .core1, .lgy, .regs 0, .regs 1, .regs 4, .regs 5, .regs
      11, .regs 15, .regs 18]
  | .secureTxStage .. =>
      [.mem, .faults, .power, .radio, .slot, .mac, .sec, .evr, .core0, .core1, .lgy, .regs 0, .regs 1, .regs 4, .regs 5,
      .regs 6, .regs 11, .regs 15, .regs 18]
  | .maskStage .. =>
      [.mem, .faults, .power, .radio, .slot, .mac, .evr, .core0, .core1, .lgy, .regs 0, .regs 1, .regs 3, .regs 4, .regs
      5, .regs 11, .regs 15, .regs 18]
  | .launchStage .. =>
      [.mem, .faults, .power, .radio, .slot, .mac, .evr, .core0, .core1, .lgy, .regs 0, .regs 1, .regs 2, .regs 4, .regs
      5, .regs 11, .regs 15, .regs 18]
  | .lateDrop .. =>
      [.mem, .power, .radio, .slot, .mac, .sec, .evr, .core0, .core1, .lgy, .regs 0, .regs 1, .regs 4, .regs 5, .regs 11,
      .regs 15]
  | .txRampStart .. =>
      [.mem, .power, .radio, .slot, .evr, .core0, .core1, .regs 0, .regs 1, .regs 3, .regs 11]
  | .txFirstSymbol .. =>
      [.mem, .power, .radio, .slot, .evr, .core0, .core1, .lgy, .regs 0, .regs 1, .regs 11, .regs 15]
  | .rampDownEnd .. =>
      [.mem, .power, .radio, .slot, .mac, .evr, .core0, .core1, .lgy, .free, .regs 0, .regs 1, .regs 2, .regs 5, .regs 11,
      .regs 15]
  | .maskPeriodogram .. =>
      [.power, .radio, .slot, .evr, .core0, .core1, .regs 0, .regs 1, .regs 3, .regs 11]
  | .imageWrite .. | .loadProgram .. | .armSwap .. | .programCancel .. | .programClear .. | .dropPop .. =>
      [.slot, .regs 4]
  | .loadCheckDone .. =>
      [.power, .evr, .core0, .core1, .regs 0, .regs 4, .regs 11]
  | .firstProgramStart .. =>
      [.tnet, .clock, .mem, .poison, .power, .radio, .slot, .mac, .sec, .evr, .core0, .core1, .boot, .objs, .regs 0, .regs
      1, .regs 2, .regs 4, .regs 5, .regs 11]
  | .twinLockup .. | .twintestInject .. =>
      [.faults, .power, .radio, .slot, .evr, .core0, .core1, .regs 0, .regs 1, .regs 11, .regs 18]
  | .rateAccumulatorOverflow .. =>
      [.tnet, .mac]
  | .contextWrite .. | .contextDelete .. =>
      [.mem, .poison, .power, .radio, .slot, .mac, .evr, .core0, .core1, .regs 0, .regs 2, .regs 5, .regs 11]
  | .contextRead .. | .dqRelease .. | .fbcfgWrite .. =>
      [.mac, .regs 5]
  | .ackReceived .. =>
      [.mem, .power, .radio, .slot, .mac, .sec, .evr, .core0, .core1, .lgy, .regs 0, .regs 2, .regs 5, .regs 6, .regs 11,
      .regs 15]
  | .ackWindowClose .. =>
      [.mem, .power, .radio, .slot, .mac, .evr, .core0, .core1, .lgy, .regs 0, .regs 1, .regs 2, .regs 5, .regs 11, .regs
      15]
  | .adriftEntry .. =>
      [.power, .evr, .core0, .core1, .regs 0, .regs 5, .regs 11]
  | .adriftTimeout .. | .syncScan .. =>
      [.power, .radio, .slot, .mac, .evr, .core0, .core1, .regs 0, .regs 1, .regs 2, .regs 5, .regs 11]
  | .scanDwellEnd .. =>
      [.power, .radio, .slot, .mac, .evr, .core0, .core1, .regs 0, .regs 1, .regs 2, .regs 11]
  | .syncStop .. =>
      [.radio, .regs 2, .regs 5]
  | .syncPoll .. | .txDonePop .. =>
      [.mac]
  | .txPush .. | .queueFlush .. | .flushPending .. =>
      [.mem, .power, .mac, .evr, .core0, .core1, .regs 0, .regs 5, .regs 11]
  | .keyLoad .. | .keyClear .. | .cipherSubmit .. =>
      [.power, .sec, .evr, .core0, .core1, .regs 0, .regs 6, .regs 11]
  | .keyCommandApply .. | .keyExhausted .. | .cipherChunkEnd .. =>
      [.power, .sec, .evr, .core0, .core1, .regs 0, .regs 11]
  | .keyOwnerWrite .. =>
      [.sec]
  | .cipherDone .. =>
      [.mem, .poison, .faults, .power, .sec, .evr, .core0, .core1, .regs 0, .regs 6, .regs 11, .regs 18]
  | .pageAbort .. =>
      [.mem, .poison, .power, .sec, .evr, .core0, .core1, .regs 0, .regs 6, .regs 11]
  | .cipherFault .. =>
      [.mem, .poison, .faults, .power, .slot, .mac, .sec, .evr, .core0, .core1, .lgy, .regs 0, .regs 5, .regs 6, .regs 11,
      .regs 15, .regs 18]
  | .cipherRequestObject .. =>
      [.power, .sec, .evr, .core0, .core1, .host, .regs 0, .regs 6, .regs 11]
  | .acqPush .. | .steerResetI .. =>
      [.gnss, .regs 8]
  | .acqAbort .. =>
      [.power, .gnss, .evr, .core0, .core1, .regs 0, .regs 11]
  | .acqDone .. | .blockBoundary .. | .lockMonitorWindow .. | .spectrumUpdate .. | .timePulse .. =>
      [.power, .gnss, .evr, .core0, .core1, .regs 0, .regs 8, .regs 11]
  | .acqPop .. | .gtimeSet .. | .gtphaseTrim .. | .timePulseTrailingEdge .. =>
      [.gnss]
  | .jammingUpdate .. =>
      [.power, .evr, .core0, .core1, .regs 0, .regs 8, .regs 11]
  | .gnssAgcStep .. =>
      [.regs 8]
  | .secondMark .. =>
      [.tnet, .power, .mac, .gnss, .evr, .core0, .core1, .regs 0, .regs 5, .regs 8, .regs 11]
  | .measLatch .. =>
      [.mem, .power, .gnss, .evr, .core0, .core1, .regs 0, .regs 8, .regs 11]
  | .timeValidWrite .. =>
      [.power, .gnss, .evr, .core0, .core1, .regs 0, .regs 8, .regs 9, .regs 11]
  | .steerForce .. =>
      [.tnet, .slot, .gnss, .regs 8]
  | .rtcTick .. | .alarmFire .. | .rtcSet .. | .rtcSetAt .. | .rtcSetApply .. =>
      [.power, .rtc, .evr, .core0, .core1, .regs 0, .regs 9, .regs 11]
  | .oscStop .. =>
      [.faults, .power, .rtc, .evr, .core0, .core1, .regs 0, .regs 9, .regs 11, .regs 18]
  | .oscReturn .. =>
      [.rtc]
  | .rtcSetCancel .. | .measureDone .. | .rtcTrimWrite .. =>
      [.rtc, .regs 9]
  | .setFromNetworkTime .. =>
      [.power, .rtc, .evr, .core0, .core1, .host, .regs 0, .regs 9, .regs 11]
  | .rtcMeasure .. | .measAbort .. | .shadowTimeout .. | .supplyReturn .. | .measureNoref .. =>
      [.regs 9]
  | .timeRegisterRead .. =>
      [.rtc, .host, .regs 9]
  | .alarmArm .. =>
      [.power, .evr, .core0, .core1, .regs 0, .regs 9, .regs 11]
  | .supplySwitch .. =>
      [.faults, .power, .evr, .core0, .core1, .regs 0, .regs 9, .regs 11, .regs 18]
  | .backupPowerOn .. =>
      [.mem, .rtc, .regs 9, .regs 11]
  | .comparatorSample .. =>
      [.mem, .power, .rtc, .evr, .core0, .core1, .regs 0, .regs 9, .regs 11]
  | .timerTick .. | .timerReload .. | .compareImmediateFire .. =>
      [.power, .evr, .core0, .core1, .regs 0, .regs 10, .regs 11]
  | .timerStart .. | .cmpWrite .. =>
      [.evr, .regs 10]
  | .timerStop .. =>
      [.regs 10]
  | .tnetRead .. | .handoverTimeout .. | .stagingTimeout .. | .snapshotTimeout .. =>
      [.host]
  | .channelPulse .. =>
      [.mem, .power, .radio, .slot, .mac, .rtc, .evr, .core0, .core1, .regs 0, .regs 1, .regs 2, .regs 4, .regs 5, .regs
      9, .regs 10, .regs 11, .regs 19]
  | .evrFire .. | .pinEdge .. =>
      [.evr, .regs 11]
  | .softwareEvent .. | .watchdogTick .. =>
      [.power, .evr, .core0, .core1, .regs 0, .regs 11]
  | .stuckDetect .. | .stuckClear .. =>
      [.regs 11]
  | .rateWindowEnd .. =>
      [.evr]
  | .stampRead .. =>
      [.host, .regs 11]
  | .add .. | .sub .. | .addc .. | .subc .. | .and .. | .or .. | .xor .. | .andn .. | .shl .. | .shr .. | .sar .. |
    .rol .. | .mul .. | .mulhs .. | .mulhu .. | .divs .. | .divu .. | .rems .. | .remu .. | .mins .. | .maxs .. |
    .addi .. | .andi .. | .ori .. | .xori .. | .shi .. | .lui .. | .cmp .. | .cmpi .. | .mov .. | .tagof .. | .retag ..
    | .chktag .. | .ldw .. | .ldh .. | .ldhu .. | .ldb .. | .ldbu .. | .addp .. | .addpi .. | .subp .. | .lea .. |
    .leac .. | .popm .. | .br .. | .bt .. | .bf .. | .jmp .. | .ret .. | .trap .. | .bkpt .. | .wait .. | .waitWake .. |
    .fence .. | .eret .. | .mfs .. | .mts .. | .segw .. | .segr .. | .iena .. | .idis .. | .illegal .. |
    .interruptEntry .. | .impreciseBusError .. | .mpy .. | .mac .. | .msu .. | .fadds .. | .fsubs .. | .fmulr .. |
    .aclr .. | .amov .. | .aadd .. | .asub .. | .aneg .. | .aabs .. | .ashl .. | .ashr .. | .mvaf .. | .mvfa .. |
    .mvah .. | .mval .. | .mvga .. | .sxset .. | .rep .. | .endrep .. | .rrest .. =>
      [.mem, .poison, .faults, .power, .mac, .rtc, .evr, .memctl, .flash, .core0, .core1, .host, .free, .regs 0, .regs 4,
      .regs 7, .regs 9, .regs 11, .regs 12, .regs 13, .regs 18]
  | .stw .. | .sth .. | .stb .. | .pushm .. | .cas .. | .call .. | .debugHalt .. | .tap .. | .rsave .. =>
      [.tnet, .mem, .poison, .faults, .power, .radio, .slot, .mac, .sec, .gnss, .rtc, .evr, .memctl, .flash, .core0,
      .core1, .lgy, .tag, .host, .pke, .pins, .free, .regs 0, .regs 1, .regs 2, .regs 3, .regs 4, .regs 5, .regs 6, .regs
      7, .regs 8, .regs 9, .regs 10, .regs 11, .regs 12, .regs 13, .regs 14, .regs 15, .regs 16, .regs 17, .regs 18, .regs
      19]
  | .debugResume .. =>
      [.core0, .core1]
  | .core1Run .. | .core1Stop .. | .grantWindowWrite .. =>
      [.core1]
  | .checkerMismatch .. | .faultReport .. | .faultInject .. | .vsupSample .. | .clkDeviate .. | .refOk .. =>
      [.faults, .power, .evr, .core0, .core1, .regs 0, .regs 11, .regs 18]
  | .patrolRead .. =>
      [.mem, .poison, .faults, .power, .evr, .memctl, .core0, .core1, .regs 0, .regs 11, .regs 12, .regs 18]
  | .flipArm .. =>
      [.regs 12]
  | .mergeFlush .. | .mergeIdleFlush .. | .readPage .. | .programPage .. | .eraseBlock .. | .readCounter .. |
    .flashSuspend .. | .resumeFlash .. | .flushMerge .. | .flashDonePop .. =>
      [.mem, .faults, .power, .evr, .flash, .core0, .core1, .regs 0, .regs 11, .regs 12, .regs 13, .regs 18]
  | .faultClose .. =>
      [.faults]
  | .faultPop .. =>
      [.faults, .regs 18]
  | .flashPulseEnd .. =>
      [.mem, .flash, .regs 13]
  | .flashDone .. =>
      [.mem, .poison, .faults, .power, .evr, .flash, .core0, .core1, .free, .regs 0, .regs 11, .regs 12, .regs 13, .regs
      18]
  | .flashPageMiss .. =>
      [.faults, .power, .evr, .flash, .core0, .core1, .regs 0, .regs 11, .regs 12, .regs 13, .regs 18]
  | .autoResume .. =>
      [.regs 13]
  | .eraseStarve .. =>
      [.power, .evr, .core0, .core1, .regs 0, .regs 11, .regs 13]
  | .flashOwnerWrite .. =>
      [.faults, .power, .evr, .core0, .core1, .regs 0, .regs 11, .regs 13, .regs 18]
  | .spiTransaction .. | .canSegment .. | .udpDatagram .. | .uartFrame .. | .meshRequest .. | .odpRead .. | .odpWrite ..
    | .odpReadSeg .. | .odpWriteSeg .. | .odpInfo .. | .odpClaim .. | .odpKeepalive .. | .odpRelease .. |
    .odpHandover .. | .odpOwner .. | .odpRecovery .. | .bootRom .. | .rInfo .. | .rBegin .. | .rData .. | .rEnd .. |
    .rBoot .. | .deviceReset .. =>
      [.tnet, .mem, .poison, .faults, .power, .radio, .slot, .mac, .sec, .gnss, .rtc, .evr, .memctl, .flash, .core0,
      .core1, .lgy, .tag, .host, .boot, .pke, .pins, .objs, .free, .regs 0, .regs 1, .regs 2, .regs 3, .regs 4, .regs 5,
      .regs 6, .regs 7, .regs 8, .regs 9, .regs 10, .regs 11, .regs 12, .regs 13, .regs 14, .regs 15, .regs 16, .regs 17,
      .regs 18, .regs 19]
  | .canBusoff .. | .ethLink .. =>
      [.power, .evr, .core0, .core1, .regs 0, .regs 11, .regs 14]
  | .objectRequest .. =>
      [.mem, .poison, .power, .evr, .core0, .core1, .host, .free, .regs 0, .regs 11, .regs 14]
  | .objectResponse .. =>
      [.power, .evr, .core0, .core1, .host, .regs 0, .regs 11]
  | .meshReply .. =>
      [.mem, .poison, .power, .evr, .core0, .core1, .host, .regs 0, .regs 11]
  | .appTimeout .. =>
      [.host, .free, .regs 14]
  | .claimWindowClose .. =>
      [.power, .evr, .core0, .core1, .host, .boot, .free, .regs 0, .regs 11, .regs 14]
  | .ownerLost .. =>
      [.power, .evr, .core0, .core1, .host, .boot, .regs 0, .regs 11]
  | .loadLevel .. =>
      [.power, .evr, .core0, .core1, .host, .regs 0, .regs 11, .regs 14]
  | .restoreDefaults .. =>
      [.host, .boot]
  | .delivery .. =>
      [.power, .mac, .evr, .core0, .core1, .host, .regs 0, .regs 5, .regs 11]
  | .txSubmit .. =>
      [.mem, .poison, .power, .mac, .evr, .core0, .core1, .host, .free, .regs 0, .regs 5, .regs 11, .regs 14]
  | .txComplete .. =>
      [.power, .mac, .evr, .core0, .core1, .host, .regs 0, .regs 11]
  | .legacySpiTransaction .. =>
      [.mem, .power, .radio, .slot, .evr, .core0, .core1, .lgy, .host, .objs, .free, .regs 0, .regs 1, .regs 2, .regs 11,
      .regs 15]
  | .lgyStatusRead .. | .rxfifoRead .. | .rxlevLRead .. | .txlevLRead .. | .slotcntLRead .. =>
      [.lgy, .host, .regs 15]
  | .txfifoWrite .. | .irqFlagClear .. | .basef2Write .. | .flushRx .. | .flushTx .. | .txStart .. | .txAbort .. |
    .ctxWrite .. | .ctxRead .. | .ctxDelete .. | .hopWrite .. | .hopRead .. | .lgyCal .. | .softReset .. =>
      [.mem, .power, .radio, .slot, .evr, .core0, .core1, .lgy, .regs 0, .regs 1, .regs 2, .regs 11, .regs 15]
  | .nirqAssert .. =>
      [.power, .evr, .core0, .core1, .lgy, .regs 0, .regs 11]
  | .cmddone .. | .bcnmiss .. | .synclost .. =>
      [.lgy, .regs 15]
  | .legacySlotBoundary .. =>
      [.tnet, .clock, .power, .radio, .slot, .mac, .evr, .core0, .core1, .lgy, .regs 0, .regs 1, .regs 2, .regs 3, .regs
      11, .regs 15]
  | .legacyFrameStored .. =>
      [.mem, .power, .radio, .slot, .mac, .evr, .core0, .core1, .lgy, .regs 0, .regs 2, .regs 5, .regs 11, .regs 15]
  | .legacyBeaconRx .. | .txUnderrun .. =>
      [.slot, .lgy, .regs 15]
  | .legacyAckWindowClose .. =>
      [.radio, .slot, .lgy, .regs 2, .regs 15]
  | .unlockWrite .. =>
      [.power, .radio, .slot, .evr, .core0, .core1, .lgy, .objs, .regs 0, .regs 1, .regs 2, .regs 11, .regs 15]
  | .unlockTimeout .. =>
      [.lgy]
  | .nativeSwitchover .. =>
      [.mem, .power, .radio, .slot, .mac, .evr, .core0, .core1, .lgy, .boot, .regs 0, .regs 1, .regs 2, .regs 4, .regs 5,
      .regs 8, .regs 11]
  | .tagInventory .. | .tagStayQuiet .. | .readSingleBlock .. | .readMultipleBlocks .. | .writeSingleBlock .. |
    .tagSelect .. | .resetToReady .. | .writeAfi .. | .lockAfi .. | .writeDsfid .. | .lockDsfid .. |
    .getSystemInformation .. | .getMultipleBlockSecurityStatus .. | .extendedReadSingleBlock .. |
    .extendedWriteSingleBlock .. | .extendedReadMultipleBlocks .. | .extendedGetSystemInformation .. |
    .extGetMultipleBlockSecurityStatus .. | .getStatus .. | .presentPassword .. | .changePassword .. |
    .unsupportedCommand .. | .reservationEnd .. =>
      [.tag]
  | .tagLockout .. | .fieldOn .. =>
      [.power, .evr, .core0, .core1, .tag, .regs 0, .regs 11]
  | .tagBlockWrite .. | .clearAttempts .. =>
      [.tag, .regs 16]
  | .tagWriteDone .. =>
      [.mem, .faults, .power, .evr, .core0, .core1, .tag, .free, .regs 0, .regs 11, .regs 16, .regs 18]
  | .tagPowerUp .. =>
      [.mem, .tag]
  | .fieldOff .. =>
      [.mem, .power, .evr, .core0, .core1, .tag, .free, .regs 0, .regs 11]
  | .tagMemoryDataWrite .. =>
      [.mem, .faults, .power, .evr, .core0, .core1, .tag, .host, .objs, .free, .regs 0, .regs 11, .regs 16, .regs 18]
  | .updBegin .. | .updCommit .. | .updateAbort .. | .updConfirm .. =>
      [.mem, .faults, .power, .evr, .flash, .core0, .core1, .host, .boot, .regs 0, .regs 11, .regs 17, .regs 18]
  | .updateData .. =>
      [.mem, .power, .evr, .flash, .core0, .core1, .host, .boot, .regs 0, .regs 11, .regs 13]
  | .updateStaged .. =>
      [.mem, .power, .evr, .flash, .core0, .core1, .boot, .regs 0, .regs 11]
  | .trialTimeout .. | .watchdogExpiry .. | .deviceResetCommand .. | .core1ResetCommand .. | .pinReset .. | .powerOn ..
    | .vioLow .. | .vioRestored .. | .debugResetRequest .. =>
      [.power]
  | .swapRequest .. =>
      [.regs 17]
  | .attestationNonce .. =>
      [.host, .boot, .free]
  | .customerRootKeyWrite .. =>
      [.mem, .host]
  | .recoverySessionTimeout .. =>
      [.boot]
  | .pkeSm3 .. | .pkeSm2Verify .. | .pkeSm2Sign .. | .rngRestart .. =>
      [.pke, .regs 7]
  | .pkeDone .. =>
      [.mem, .poison, .faults, .power, .evr, .flash, .core0, .core1, .pke, .free, .regs 0, .regs 7, .regs 11, .regs 12,
      .regs 13, .regs 18]
  | .rngRead .. =>
      [.mac, .host, .free, .regs 7]
  | .rngWord .. =>
      [.mac, .free, .regs 7]
  | .trngHealth .. =>
      [.faults, .power, .evr, .core0, .core1, .regs 0, .regs 7, .regs 11, .regs 18]
  | .sleepEnter .. | .deepSleep .. | .standbyEnter .. | .powerOff .. =>
      [.mem, .faults, .power, .evr, .flash, .core0, .core1, .regs 0, .regs 4, .regs 11, .regs 12, .regs 13, .regs 18]
  | .powerEntryComplete .. =>
      [.mem, .power, .radio, .slot, .mac, .sec, .gnss, .evr, .core0, .core1, .lgy, .tag, .host, .pke, .pins, .free, .regs
      0, .regs 1, .regs 2, .regs 3, .regs 4, .regs 5, .regs 6, .regs 7, .regs 8, .regs 11, .regs 14, .regs 15, .regs 17]
  | .entryTimeout .. =>
      [.regs 0]
  | .dozeExit .. =>
      [.power, .core0, .core1]
  | .powerWake .. | .wakeStepTimeout .. | .watchdogKick .. | .watchdogEnable .. =>
      [.power, .regs 0]
  | .returnToRun .. =>
      [.tnet, .mem, .poison, .power, .radio, .mac, .evr, .memctl, .core0, .core1, .tag, .regs 0, .regs 11, .regs 16, .regs
      19]
  | .sleepTimer .. =>
      [.tnet, .clock, .power, .mac, .regs 0]
  | .thermalWarn .. =>
      [.faults, .power, .evr, .core0, .core1, .regs 0, .regs 1, .regs 11, .regs 18]
  | .clockFail .. =>
      [.mem, .power, .radio, .slot, .mac, .evr, .core0, .core1, .lgy, .regs 0, .regs 5, .regs 11, .regs 15]
  | .resetRelease .. =>
      [.faults, .power, .evr, .core0, .core1, .boot, .regs 0, .regs 11, .regs 18]
  | .holdRelease .. =>
      [.pins, .regs 0]
  | .blockReset .. =>
      [.tnet, .mem, .poison, .power, .radio, .slot, .mac, .sec, .gnss, .evr, .core0, .core1, .lgy, .host, .pke, .regs 0,
      .regs 1, .regs 2, .regs 3, .regs 4, .regs 5, .regs 6, .regs 7, .regs 8, .regs 11, .regs 14, .regs 15, .regs 16]
  | .blockResetRelease .. =>
      [.radio, .regs 0, .regs 2, .regs 16]
  | .gnssRestart .. =>
      [.gnss, .host]
  | .thermHotClear .. =>
      [.regs 0, .regs 1]
  | .temphi .. =>
      [.regs 1, .regs 15]
  | .backupDomainLost .. =>
      [.mem, .power, .rtc, .tag, .free, .regs 9, .regs 11]
  | .busOffRecovery .. =>
      [.regs 14]
  | .arpRequest .. | .icmpEchoRequest .. =>
      [.power, .host, .regs 0]

/-- Every field write of the tag passes the checks of R411 in their order before anything is written (R411) -/
def Obligations.FieldWritesAreCheckedInOrder : Prop :=
  (∀ (s : State) (req : TagReq) (bk : Fin 256) (w : Word) (code : Nat), s.tagHears req = true →
  s.writeError req 256 bk = some code →
      completes (.writeSingleBlock req bk w) s fun t => t.tag.answer = some [1, BitVec.ofNat 8 code] ∧ t.mem = s.mem ∧
        t.tag.write = s.tag.write) ∧
  (∀ (s : State) (req : TagReq) (bk : Fin 256) (w : Word), s.tagHears req = true → s.writeError req 256 bk = none →
      completes (.writeSingleBlock req bk w) s fun t => t.tag.write = some { side := .field, block := bk.val, data := w.toNat } ∧
        t.tag.answer = none ∧ t.mem = s.mem) ∧
  (∀ (s : State) (req : TagReq) (bk : Fin 65536) (w : Word) (code : Nat), s.tagHears req = true →
  s.writeError req 1984 bk = some code →
      completes (.extendedWriteSingleBlock req bk w) s fun t => t.tag.answer = some [1, BitVec.ofNat 8 code] ∧
        t.mem = s.mem ∧ t.tag.write = s.tag.write) ∧
  (∀ (s : State) (req : TagReq) (bk : Fin 65536) (w : Word), s.tagHears req = true → s.writeError req 1984 bk = none →
      completes (.extendedWriteSingleBlock req bk w) s fun t => t.tag.write = some { side := .field, block := bk.val, data := w.toNat } ∧
        t.tag.answer = none ∧ t.mem = s.mem) ∧
  (∀ (s : State) (req : TagReq) (v : Fin 256) (code : Nat), s.tagHears req = true → s.infoError req 16 = some code →
      completes (.writeAfi req v) s fun t => t.tag.answer = some [1, BitVec.ofNat 8 code] ∧ t.mem = s.mem ∧
        t.tag.write = s.tag.write) ∧
  (∀ (s : State) (req : TagReq) (v : Fin 256), s.tagHears req = true → s.infoError req 16 = none →
      completes (.writeAfi req v) s fun t => t.tag.write = some { side := .field, block := 2008, data := splice (s.tagBlock 2008) 0 8 v } ∧
        t.tag.answer = none ∧ t.mem = s.mem) ∧
  (∀ (s : State) (req : TagReq) (code : Nat), s.tagHears req = true → s.infoError req 16 = some code →
      completes (.lockAfi req) s fun t => t.tag.answer = some [1, BitVec.ofNat 8 code] ∧ t.mem = s.mem ∧
        t.tag.write = s.tag.write) ∧
  (∀ (s : State) (req : TagReq), s.tagHears req = true → s.infoError req 16 = none →
      completes (.lockAfi req) s fun t => t.tag.write = some { side := .field, block := 2008, data := splice (s.tagBlock 2008) 16 1 1 } ∧
        t.tag.answer = none ∧ t.mem = s.mem) ∧
  (∀ (s : State) (req : TagReq) (v : Fin 256) (code : Nat), s.tagHears req = true → s.infoError req 17 = some code →
      completes (.writeDsfid req v) s fun t => t.tag.answer = some [1, BitVec.ofNat 8 code] ∧ t.mem = s.mem ∧
        t.tag.write = s.tag.write) ∧
  (∀ (s : State) (req : TagReq) (v : Fin 256), s.tagHears req = true → s.infoError req 17 = none →
      completes (.writeDsfid req v) s fun t => t.tag.write = some { side := .field, block := 2008, data := splice (s.tagBlock 2008) 8 8 v } ∧
        t.tag.answer = none ∧ t.mem = s.mem) ∧
  (∀ (s : State) (req : TagReq) (code : Nat), s.tagHears req = true → s.infoError req 17 = some code →
      completes (.lockDsfid req) s fun t => t.tag.answer = some [1, BitVec.ofNat 8 code] ∧ t.mem = s.mem ∧
        t.tag.write = s.tag.write) ∧
  (∀ (s : State) (req : TagReq), s.tagHears req = true → s.infoError req 17 = none →
      completes (.lockDsfid req) s fun t => t.tag.write = some { side := .field, block := 2008, data := splice (s.tagBlock 2008) 17 1 1 } ∧
        t.tag.answer = none ∧ t.mem = s.mem)

/-- The COMMIT record of the tag: its layout, when it is valid, and that any other content counts as clear (R413) -/
def Obligations.TheCommitRecord : Prop :=
  (∀ b d : Nat, b < 2048 → d < 2 ^ 32 → slice (commitOf b d) 0 11 = b ∧ slice (commitOf b d) 11 5 = 0b10100 ∧
    slice (commitOf b d) 16 16 = crc16 (leBytes 2 (commitOf b d % 2 ^ 16) ++ leBytes 4 d) ∧ commitOf b d < 2 ^ 32) ∧
  (∀ (s : State) (c : Nat), (s.tagPowered = true ∨ s.tag.field = true) → s.tag.ready = false → c = s.tagBlock 2041 →
  slice c 11 5 = 0b10100 → c / 2 ^ 16 = crc16 (leBytes 2 (c % 2 ^ 16) ++ leBytes 4 (s.tagBlock 2040)) →
  slice c 0 11 < 2040 →
      completes (.tagPowerUp) s fun t => t.tagBlock (slice c 0 11) = s.tagBlock 2040 ∧ t.tagBlock 2041 = 0 ∧
        t.tag.ready = true) ∧
  (∀ (s : State) (c : Nat), (s.tagPowered = true ∨ s.tag.field = true) → s.tag.ready = false → c = s.tagBlock 2041 →
  (slice c 11 5 ≠ 0b10100 ∨ c / 2 ^ 16 ≠ crc16 (leBytes 2 (c % 2 ^ 16) ++ leBytes 4 (s.tagBlock 2040))) →
      completes (.tagPowerUp) s fun t => t.mem = s.mem ∧ t.tag.ready = true)

/-- A mode write while a transition is pending is refused as busy, and the transition completes unchanged (R32) -/
def Obligations.ModeWriteDuringATransition : Prop :=
  (∀ (s : State) (v : Nat), s.get PRC_MODE_PENDING = 1 → exec (.modeWrite v) s = .next (s.answer .busy)) ∧
  (∀ (s : State) (m : Nat), s.get PRC_MODE_PENDING = 1 → s.slot.modeReq = some m → m < 16 → s.mode < 16 → s.running = false →
      completes (.modeTransition) s fun t => t.mode = m ∧ t.get PRC_MODE_PREV = s.mode ∧ t.get PRC_MODE_PENDING = 0 ∧
        t.event 7 = true)

/-- A path takes its commanded goal, moves towards it, recovers from an unlock, and takes a legal frequency (R37, R40, R42,
02_radio_front_end.md) -/
def Obligations.RadioPathsFollowCommandsAndFrequencies : Prop :=
  (∀ (p : Path) (v : Word) (s : State), s.hasPath p = true → slice v.toNat 0 2 = pathCode p → slice v.toNat 4 3 ≤ 3 →
  ¬(slice v.toNat 4 3 = 3 ∧ p = .t) → s.owned p = false →
      completes (.radioStateCommand v) s fun t => (t.path p).goal = some (slice v.toNat 4 3) ∧ t.get RFC_STATE_CMD_REJ = 0) ∧
  (∀ (p : Path) (v : Word) (s : State), s.hasPath p = true → slice v.toNat 0 2 = pathCode p → slice v.toNat 4 3 ≤ 3 →
  ¬(slice v.toNat 4 3 = 3 ∧ p = .t) → s.owned p = true →
      completes (.radioStateCommand v) s fun t => t.path p = s.path p ∧ t.get RFC_STATE_CMD_REJ = 1) ∧
  (∀ (p : Path) (g : Nat) (s : State), s.refFailed = false → (s.path p).goal = some g → s.get (pathField p) ≠ g →
      completes (.radioStateReached p) s fun t => t.get (pathField p) = nextPathState (s.get (pathField p)) g ∧
        t.event 16 = true) ∧
  (∀ (p : Path) (s : State), 2 ≤ s.get (pathField p) →
      completes (.synthUnlock p) s fun t => t.event 18 = true ∧
        (t.path p).calTemp = some (signed 12 (s.get RFC_TEMP_TEMP)) ∧ (t.path p).marked = false ∧
        (t.path p).goal.isSome = true) ∧
  (∀ (p : Path) (v : Word) (s : State), s.hasPath p = true → s.owned p = false → freqOk p (slice v.toNat 0 30) = true →
      completes (.freqWrite p v) s fun t => t.get (freqField p) = slice v.toNat 0 30 ∧ t.get RFC_STATE_FREQ_ERR = 0) ∧
  (∀ (p : Path) (v : Word) (s : State), s.hasPath p = true → s.owned p = false → freqOk p (slice v.toNat 0 30) = false →
      completes (.freqWrite p v) s fun t => t.get (freqField p) = s.get (freqField p) ∧ t.get RFC_STATE_FREQ_ERR = 1)

/-- Calibrations start, end with their result, are abandoned, and follow temperature; saturation is counted (R42, R44, R46,
R47, 02_radio_front_end.md) -/
def Obligations.CalibrationsRunStoreAndReport : Prop :=
  (∀ (temp : Int) (s : State),
      completes (.tempDelta temp) s fun t => t.get RFC_TEMP_TEMP = unsigned 12 temp ∧
        ∀ p, s.hasPath p = true → movedBeyond (4 * s.get RFC_CALCFG_DELTA_T) temp (s.path p) = true →
          (t.path p).marked = true ∧ t.event 21 = true) ∧
  (∀ (p : Path) (v : Word) (s : State), s.hasPath p = true → slice v.toNat 4 2 = pathCode p → slice v.toNat 0 3 ≠ 4 →
  calTypeOk (slice v.toNat 0 3) p = true → s.get RFC_CALSTAT_BUSY = 0 → s.owned p = false → s.get (pathField p) < 3 →
      completes (.calibrationStart v) s fun t => t.get RFC_CALSTAT_BUSY = 1 ∧
        t.radio.calib = some { type := slice v.toNat 0 3, target := slice v.toNat 4 2, slots := 0, background := false }) ∧
  (∀ (v : Word) (s : State), slice v.toNat 0 3 = 4 → s.get RFC_CALSTAT_BUSY = 0 →
      completes (.calibrationStart v) s fun t => t.get RFC_CALSTAT_BUSY = 1 ∧
        t.radio.calib = some { type := 4, target := 0, slots := 0, background := false }) ∧
  (∀ (c : Calibration) (w : Word) (s : State), s.radio.calib = some c → c.type < 4 →
      completes (.calibrationDone true w) s fun t => t.event 19 = true ∧ t.get RFC_CALSTAT_RESULT = 0 ∧
        t.get RFC_CALSTAT_LAST_TYPE = c.type) ∧
  (∀ (c : Calibration) (w : Word) (s : State), s.radio.calib = some c → c.type < 4 →
      completes (.calibrationDone false w) s fun t => t.event 20 = true ∧ t.get RFC_CALSTAT_RESULT = 1) ∧
  (∀ (c : Calibration) (s : State), s.radio.calHeld = some c → 65535 ≤ c.slots →
      completes (.calHoldExpired) s fun t => t.radio.calHeld = none ∧ t.get RFC_CALSTAT_RESULT = 3) ∧
  (∀ (h : Half) (s : State), s.hasPath (halfPath h) = true →
      completes (.adcSaturation h) s fun t => t.event (28 + halfNo h) = true ∧
        t.get (satField h) = satInc (satField h).width (s.get (satField h)))

/-- The regulatory profile is accepted or refused, locked and charged by the second (R53, R55, R56, R58,
02_radio_front_end.md) -/
def Obligations.RegulatoryProfileAndDutyAccounts : Prop :=
  (∀ (img : List Byte) (s : State), s.get RFC_REGSTAT_REGLOCK = 0 → profileOk img s.serialInForce = true →
      completes (.profileWrite img) s fun t => t.host.result = .ok ∧ t.event 30 = true ∧
        (s.running = false → t.radio.profile = img ∧ t.get RFC_REGSTAT_PROFILE_VALID = 1)) ∧
  (∀ (img : List Byte) (s : State), s.get RFC_REGSTAT_REGLOCK ≠ 0 →
      completes (.profileWrite img) s fun t => t.host.result = .access ∧ t.radio = s.radio) ∧
  (∀ (img : List Byte) (s : State), s.get RFC_REGSTAT_REGLOCK = 0 → profileOk img s.serialInForce = false →
      completes (.profileWrite img) s fun t => t.host.result = .range ∧ t.radio = s.radio) ∧
  (∀ (s : State), s.get RFC_REGSTAT_REGLOCK = 0 →
      completes (.reglockSet 1) s fun t => t.get RFC_REGSTAT_REGLOCK = 1 ∧ t.event 30 = true ∧
        t.num 0x28000234 4 = 0x5A5A5A5A ∧ t.host.result = .ok) ∧
  (∀ (v : Nat) (s : State), v ≠ 1 →
      completes (.reglockSet v) s fun t => t.host.result = .range ∧ t.get RFC_REGSTAT_REGLOCK = s.get RFC_REGSTAT_REGLOCK) ∧
  (∀ (cert : List Byte) (s : State),
      completes (.regCertWrite cert) s fun t => t.host.result = (s.regCert cert).1 ∧
        (t.host.result ≠ .ok → t.radio = s.radio ∧ ∀ a, t.byte a = s.byte a)) ∧
  (∀ (s : State),
      completes (.dutySecondTick) s fun t => t.radio.second = s.radio.second + 1 ∧
        ∀ g, g < 8 → t.duty g = dutyTick (s.radio.second + 1) (s.duty g))

/-- Receive profiles, twin receive, the channel map and the windows of lanes take effect (R69, R76, R79, R90, R149,
03_channelizer_demodulation.md) -/
def Obligations.ReceiveProfilesTwinMapAndWindows : Prop :=
  (∀ (i : Fin 4) (v : Word) (s : State), s.mode ≠ modeCompat → rxProfOk v.toNat = true →
      completes (.rxProfileWrite i v) s fun t => t.get CHZ_STATUS_PROF_ERR = 0 ∧ ∀ f ∈ rxProfFields i,
        t.get f = slice v.toNat f.lsb f.width) ∧
  (∀ (i : Fin 4) (v : Word) (s : State), s.mode ≠ modeCompat → rxProfOk v.toNat = false →
      completes (.rxProfileWrite i v) s fun t => t.get CHZ_STATUS_PROF_ERR = 1 ∧ ∀ f ∈ rxProfFields i, t.get f = s.get f) ∧
  (∀ (en : Bool) (s : State), s.partT = false → s.mode = modeConc → s.running = false →
      completes (.twinEnWrite en) s fun t => t.get CHZ_CTRL_TWIN_EN = ofBool en ∧ t.on CHZ_STATUS_TWIN_ACTIVE = en) ∧
  (∀ (s : State), s.partT = false → s.mode = modeNode →
      completes (.twinEnWrite true) s fun t => t.get CHZ_STATUS_TWIN_REJ = 1 ∧
        t.get CHZ_CTRL_TWIN_EN = s.get CHZ_CTRL_TWIN_EN) ∧
  (∀ (s : State), s.on CHZ_STATUS_MAP_BUSY = true → s.running = false →
      completes (.channelMapRebuild) s fun t => t.get CHZ_STATUS_MAP_BUSY = 0 ∧
        t.radio.mapCur = s.mapParams (s.on CHZ_STATUS_TWIN_ACTIVE)) ∧
  (∀ (lane : Fin 128) (w : RxWindow) (s : State),
  s.slot.windows.find? (fun v => v.lane == lane.val && !v.isOpen && !v.closed) = some w → s.laneEn lane = true →
  (s.lane lane).blanked = false → s.laneState lane ≠ laneFrame →
      completes (.rxWindowOpen lane) s fun t => t.laneState lane = laneSearch ∧ (t.lane lane).window = true) ∧
  (∀ (lane : Fin 128) (w : RxWindow) (s : State),
  s.slot.windows.find? (fun v => v.lane == lane.val && v.isOpen && !v.closed && v.ackOf.isNone) = some w →
  s.laneEn lane = true → (s.lane lane).blanked = false → s.laneState lane = laneSearch → s.scanning lane = false →
      completes (.rxWindowClose lane) s fun t => t.laneState lane = laneIdle ∧ (t.lane lane).window = false)

/-- A lane matches a sync, ends its frame, is unblanked, and its detection records reach CAPTURE (R12, R40, R50, R78, R79,
R80, R91, 03_channelizer_demodulation.md) -/
def Obligations.LanesTakeFramesAndHandThemOn : Prop :=
  (∀ (lane : Fin 128) (k : SyncKind) (errs : Fin 7) (rssi offset : Int) (g : Fin 43) (s : State),
  s.laneState lane = laneSearch → s.syncLive lane k errs = true → offset.natAbs ≤ 2500 → s.radio.detFifo.length < 64 →
      completes (.syncMatch lane k errs rssi offset g) s fun t => t.laneState lane = laneFrame ∧
        t.event (32 + lane.val / 64) = true ∧ t.radio.detFifo.dropLast = s.radio.detFifo ∧
        t.radio.detFifo.getLast?.map (fun d => (d.place, d.tSfd, d.sync, d.offset)) = some (lane.val, s.tnet, k, offset)) ∧
  (∀ (lane : Fin 128) (k : SyncKind) (errs : Fin 7) (rssi offset : Int) (g : Fin 43) (s : State),
  s.laneState lane = laneSearch → s.syncLive lane k errs = true → offset.natAbs ≤ 2500 → 64 ≤ s.radio.detFifo.length →
      completes (.syncMatch lane k errs rssi offset g) s fun t => t.event 40 = true ∧ t.radio.detFifo = s.radio.detFifo ∧
        t.get (CHZ_LCNT_OVF lane) = satInc (CHZ_LCNT_OVF lane).width (s.get (CHZ_LCNT_OVF lane))) ∧
  (∀ (lane : Fin 128) (g : Fin 16) (s : State), s.laneState lane = laneFrame →
      completes (.laneFrameEnd lane g) s fun t => t.laneState lane ≠ laneFrame ∧ ∀ d ∈ t.radio.detFifo, d.place = lane.val →
        d.ended = true) ∧
  (∀ (s : State), s.radio.txWindow = true → s.get RFC_STATE_STATE_T < 4 →
      completes (.blankingEnd) s fun t => t.radio.txWindow = false ∧ ∀ i ∈ s.halfLanes 0 ++ s.halfLanes 1,
        (t.lane i).blankTx = false) ∧
  (∀ (h : Half) (s : State),
      completes (.retuneBlankEnd h) s fun t => ∀ i ∈ s.halfLanes (halfNo h), (t.lane i).blankRetune = false) ∧
  (∀ (d : DetRec) (ds : List DetRec) (s : State), s.radio.detFifo = d :: ds → (s.atStage 0).length - s.stagePar 0 < 16 →
      completes (.detectionRecordDequeue false) s fun t => t.radio.detFifo = ds ∧ ∃ u ∈ t.slot.rx, u.det = d ∧ u.stage = 0 ∧
        u.id = s.slot.nextId) ∧
  (∀ (n : Nat) (u : RxUnit) (s : State), s.rxUnit n = some u → u.twin = .waiting → s.slot.rx.any (twinPair u) = false →
  u.crcDone = false →
      completes (.twinPairTimeout n) s fun t => t.rxUnit n = some { u with twin := .single })

/-- The leakage canceller reports convergence and loss, and the test operations start, stop and end (R60, R61, R92, R93,
02_radio_front_end.md, 03_channelizer_demodulation.md) -/
def Obligations.LeakageCancellerAndTestOperations : Prop :=
  (∀ (h : Half) (n : Nat) (s : State), s.leakActive (halfNo h) = true → s.get CHZ_LEAKCFG_TARGET ≤ n →
  (s.leakSets (halfNo h)).head?.map LeakSet.converged = some false →
      completes (.leakConverged h n) s fun t => t.event 38 = true ∧
        (t.leakSets (halfNo h)).head?.map LeakSet.converged = some true) ∧
  (∀ (h : Half) (n : Nat) (s : State), s.leakActive (halfNo h) = true → n < s.get CHZ_LEAKCFG_MIN →
  (s.leakSets (halfNo h)).head?.map LeakSet.converged = some true → s.radio.leakCheckedA = false →
  s.radio.leakCheckedB = false →
      completes (.leakResidualCheck h n) s fun t => t.event 39 = true ∧
        (t.leakSets (halfNo h)).head?.map LeakSet.converged = some false) ∧
  (∀ (g : Nat) (s : State), s.testIdle = true →
  s.regCheck (s.get RFC_FREQ_T_FREQ) s.txPower (s.get RFC_TESTDUR_DURATION * 100000) = .pass g →
      completes (.testCw) s fun t => t.radio.test.op = 1 ∧ t.radio.test.running = true ∧
        t.airUnit.map TxUnit.kind = some .test) ∧
  (∀ (g : Nat) (s : State), s.testIdle = true →
  s.regCheck (s.get RFC_FREQ_T_FREQ) s.txPower (s.get RFC_TESTDUR_DURATION * 100000) = .pass g →
      completes (.modcarrier) s fun t => t.radio.test.op = 2 ∧ t.radio.test.running = true ∧
        t.airUnit.map TxUnit.kind = some .test) ∧
  (∀ (s : State), s.testIdle = true →
      completes (.perTx) s fun t => t.radio.test.op = 3 ∧ t.radio.test.startCycle = s.clock) ∧
  (∀ (lane : Nat) (s : State), s.testIdle = true → s.running = false → s.perLane = some lane →
      completes (.perRx) s fun t => t.radio.test.op = 4 ∧ t.radio.test.running = true ∧ t.radio.test.lane = lane ∧
        t.get (CHZ_LCFG_PROFILE lane) = s.get RFC_TESTRX_PROFILE % 2 ^ (CHZ_LCFG_PROFILE lane).width) ∧
  (∀ (s : State), s.mode = modeTest → s.radio.test.running = false →
      completes (.calread) s fun t => t.radio.test.op = 5 ∧ t.radio.test.record = s.calRecord) ∧
  (∀ (s : State), s.mode = modeTest → s.radio.test.running = true →
      completes (.testStop) s fun t => t.radio.test.running = false) ∧
  (∀ (u : TxUnit) (s : State), s.radio.test.running = true → s.radio.test.op = 1 ∨ s.radio.test.op = 2 → s.airUnit = some u →
  u.kind = .test → u.phase = .tx →
      completes (.testDurationEnd) s fun t => t.get RFC_STATE_STATE_T = 6 ∧
        t.txUnit u.id = some { u with phase := .rampDown })

/-- Stages 0 to 4 of the receive pipeline complete their unit as the spec says (R80, R81, R82, R91, R156, R130,
03_channelizer_demodulation.md, 06_medium_access.md) -/
def Obligations.ReceiveStagesHandFramesOn : Prop :=
  (∀ (unit charge : Nat) (u : RxUnit) (s : State), s.rxReady 0 unit charge = some u → u.blanked = false →
  s.injected 0 = false →
      completes (.captureStage unit charge) s fun t => t.rxUnit unit = some { u with stage := 1 }) ∧
  (∀ (unit charge : Nat) (u : RxUnit) (ms f16 wh : Bool) (n : Nat) (s : State), s.rxReady 1 unit charge = some u →
  u.blanked = false → s.injected 1 = false → u.legacy = false → u.headerBad ms (if f16 then 2 else 4) (n % 2048) = false →
      completes (.phrStage unit charge ms f16 wh n) s fun t => t.rxUnit unit = some { u with length := n % 2048, fcsLen := if f16 then 2 else 4, dw := wh, stage := 2 }) ∧
  (∀ (unit charge : Nat) (u : RxUnit) (ms f16 wh : Bool) (n : Nat) (s : State), s.rxReady 1 unit charge = some u →
  u.blanked = false → u.legacy = false → u.headerBad ms (if f16 then 2 else 4) (n % 2048) = true →
      completes (.phrStage unit charge ms f16 wh n) s fun t => t.rxUnit unit = none ∧ t.event 35 = true) ∧
  (∀ (unit charge : Nat) (u : RxUnit) (soft : List Int) (s : State), s.rxReady 2 unit charge = some u → u.blanked = false →
  s.injected 2 = false → u.ended = true →
      completes (.decodeStage unit charge soft) s fun t => t.rxUnit unit = some { u with psdu := (u.decoded soft).1, decodeFail := !(u.decoded soft).2, stage := 3 } ∧
        ((u.decoded soft).2 = false → t.event 36 = true)) ∧
  (∀ (unit charge : Nat) (u : RxUnit) (s : State), s.rxReady 3 unit charge = some u → u.blanked = false →
  s.injected 3 = false → u.crcDone = false → u.twin = .single → u.checkOk = true →
      completes (.crcCheck unit charge) s fun t => t.rxUnit unit = some { u with fcsOk := true, crcDone := true, stage := 4 }) ∧
  (∀ (unit charge : Nat) (u : RxUnit) (s : State), s.rxReady 3 unit charge = some u → u.blanked = false → u.crcDone = false →
  u.twin = .single → u.checkOk = false →
      completes (.crcCheck unit charge) s fun t => t.rxUnit unit = none) ∧
  (∀ (unit charge : Nat) (u : RxUnit) (h : MacHeader) (s : State), s.rxReady 4 unit charge = some u → u.blanked = false →
  s.injected 4 = false → s.mode ≠ modeCompat → u.legacy = false →
  parseHeader (u.psdu.take (u.psdu.length - u.fcsLen)) = some h → h.version ≠ 3 → h.frameType ≤ 3 → h.frameType ≠ 2 →
  h.iesBad = false → u.scanReject h = false → s.isMine h = true →
      completes (.parseStage unit charge) s fun t => t.rxUnit unit = some { u with hdr := h, stage := 5 }) ∧
  (∀ (unit charge : Nat) (u : RxUnit) (s : State), s.rxReady 4 unit charge = some u → u.blanked = false → s.mode ≠ modeCompat →
  u.legacy = false → parseHeader (u.psdu.take (u.psdu.length - u.fcsLen)) = none →
      completes (.parseStage unit charge) s fun t => t.rxUnit unit = none ∧
        t.get MAC_RXDISC_BAD_FRAME = satInc MAC_RXDISC_BAD_FRAME.width (s.get MAC_RXDISC_BAD_FRAME)) ∧
  (∀ (unit charge : Nat) (u : RxUnit) (h : MacHeader) (s : State), s.rxReady 4 unit charge = some u → u.blanked = false →
  s.mode ≠ modeCompat → u.legacy = false → parseHeader (u.psdu.take (u.psdu.length - u.fcsLen)) = some h → h.version ≠ 3 →
  h.frameType ≤ 3 → h.iesBad = false → s.isMine h = false → s.on MAC_CTRL_PROMISC = false →
      completes (.parseStage unit charge) s fun t => t.rxUnit unit = none ∧
        t.get MAC_RXDISC_NOT_MINE = satInc MAC_RXDISC_NOT_MINE.width (s.get MAC_RXDISC_NOT_MINE))

/-- Stages 5 to 8 look up, check, admit and commit a frame, and LATE drops a unit (R131, R139, R156, R157, R158, R175, R494,
05_slot_engine.md, 06_medium_access.md) -/
def Obligations.ReceiveStagesDecideAndCommit : Prop :=
  (∀ (unit charge : Nat) (u : RxUnit) (s : State), s.rxReady 5 unit charge = some u → u.blanked = false →
  s.injected 5 = false → u.legacy = false →
      completes (.lookupStage unit charge) s fun t => t.rxUnit unit = some { u with ctx := s.lookup u.hdr.src, stage := 6 }) ∧
  (∀ (unit charge : Nat) (u : RxUnit) (s : State), s.rxReady 6 unit charge = some u → u.blanked = false →
  s.injected 6 = false → u.ctx = none →
      completes (.secureRxStage unit charge) s fun t => t.rxUnit unit = some { u with unchecked := u.hdr.secured, stage := 7 }) ∧
  (∀ (unit charge : Nat) (u : RxUnit) (c : Nat) (s : State), s.rxReady 6 unit charge = some u → u.blanked = false →
  s.injected 6 = false → u.ctx = some c → u.hdr.secured = false →
      completes (.secureRxStage unit charge) s fun t => t.rxUnit unit = some { u with stage := 7 }) ∧
  (∀ (unit charge : Nat) (u : RxUnit) (c : Nat) (v : RxUnit) (s : State), s.rxReady 6 unit charge = some u →
  u.blanked = false → s.injected 6 = false → u.ctx = some c → u.hdr.secured = true →
  (s.selectKey c u.hdr).all (fun k => !s.keyWaits k (some unit) none) = true → (s.secureRx c u).1 = .pass v →
      completes (.secureRxStage unit charge) s fun t => t.rxUnit unit = some { v with stage := 7 }) ∧
  (∀ (unit charge : Nat) (u : RxUnit) (s : State), s.rxReady 7 unit charge = some u → u.blanked = false →
  s.injected 7 = false → u.ctx = none → s.wantsAck { u with outcome := .noContext } = false →
      completes (.admitStage unit charge) s fun t => t.rxUnit unit = some { u with outcome := .noContext, stage := 8 }) ∧
  (∀ (unit charge : Nat) (u : RxUnit) (c : Nat) (s : State), s.rxReady 7 unit charge = some u → u.blanked = false →
  s.injected 7 = false → u.ctx = some c → s.poisonedIn (ctxAddr c) 64 = false →
  s.wantsAck { u with outcome := s.classify c u } = false →
      completes (.admitStage unit charge) s fun t => t.rxUnit unit = some { u with outcome := s.classify c u, stage := 8 }) ∧
  (∀ (unit charge : Nat) (u : RxUnit) (s : State), s.rxReady 7 unit charge = some u → u.blanked = false →
  s.injected 7 = false → u.ctx = none → s.wantsAck { u with outcome := .noContext } = true →
  s.ackGrant { u with outcome := .noContext } = false →
      completes (.admitStage unit charge) s fun t => t.rxUnit unit = some { u with outcome := .noContext, stage := 8 } ∧
        t.get SLE_ACKMISS_COUNT = satInc SLE_ACKMISS_COUNT.width (s.get SLE_ACKMISS_COUNT)) ∧
  (∀ (unit charge : Nat) (u : RxUnit) (b : Nat) (s : State), s.rxReady 8 unit charge = some u → u.blanked = false →
  s.injected 8 = false → s.hasEntry u = true → s.dqLevel + 1 ≠ s.get MAC_FBCFG_DQ_SIZE →
  s.freeBlocks (max 1 (divUp (u.length - u.fcsLen) 64)) = some b → u.psdu.length = u.length →
      completes (.deliverStage unit charge) s fun t => t.rxUnit unit = none ∧
        t.get MAC_DQ_WR = (s.get MAC_DQ_WR + 1) % s.get MAC_FBCFG_DQ_SIZE % 4096 ∧
        t.mac.dqBlocks = s.mac.dqBlocks ++ [(b, max 1 (divUp (u.length - u.fcsLen) 64))]) ∧
  (∀ (unit charge : Nat) (u : RxUnit) (s : State), s.rxReady 8 unit charge = some u → u.blanked = false →
  s.injected 8 = false → s.hasEntry u = true → s.dqLevel + 1 = s.get MAC_FBCFG_DQ_SIZE →
      completes (.deliverStage unit charge) s fun t => t.rxUnit unit = none ∧
        t.get MAC_DQSTAT_FULL = satInc MAC_DQSTAT_FULL.width (s.get MAC_DQSTAT_FULL)) ∧
  (∀ (unit : Nat) (u : RxUnit) (s : State), s.slotLen ≠ 0 → s.rxUnit unit = some u → s.served u.stage unit = true →
      completes (.lateDrop unit) s fun t => t.rxUnit unit = none ∧ t.event 52 = true)

/-- Stages 9 to 12 take a frame from its queue, build it, secure it and encode it (R97, R99, R101, R171, R177, R188, R191,
R317, 04_transmit_path.md, 06_medium_access.md) -/
def Obligations.TransmitStagesFormAFrame : Prop :=
  (∀ (charge : Nat) (u : TxUnit) (e : QEntry) (s : State),
  (s.atStage 9).head?.bind (fun id => s.txReady 9 id charge) = some u → u.kind = .data → s.injected 9 = false →
  bestEntry u.queue u.ctx u.shared s.mac.queue = some e → s.poisonedIn (descAddr e.desc) 32 = false →
      completes (.dequeueStage charge) s fun t => t.txUnit u.id = some { s.withDesc u e.desc with stage := 10 } ∧
        (t.mac.queue.find? (fun x => x.desc == e.desc)).map QEntry.busy = some true) ∧
  (∀ (charge : Nat) (u : TxUnit) (s : State), (s.atStage 9).head?.bind (fun id => s.txReady 9 id charge) = some u →
  u.kind = .data → bestEntry u.queue u.ctx u.shared s.mac.queue = none →
      completes (.dequeueStage charge) s fun t => t.txUnit u.id = none) ∧
  (∀ (unit charge : Nat) (u : TxUnit) (s : State), s.txReady 10 unit charge = some u → s.injected 10 = false →
  u.desc.all (fun d => !s.descPoisoned d) = true →
      completes (.buildStage unit charge) s fun t => t.txUnit unit = some { (s.built u).1 with stage := 11 }) ∧
  (∀ (unit charge : Nat) (u : TxUnit) (d : Nat) (s : State), s.txReady 10 unit charge = some u → u.kind = .data →
  u.desc = some d → s.descPoisoned d = true →
      completes (.buildStage unit charge) s fun t => t.txUnit unit = none ∧ t.event 56 = true) ∧
  (∀ (unit charge : Nat) (u : TxUnit) (s : State), s.txReady 11 unit charge = some u → s.injected 11 = false →
  u.secure = false →
      completes (.secureTxStage unit charge) s fun t => t.txUnit unit = some { u with stage := 12 }) ∧
  (∀ (unit charge : Nat) (u : TxUnit) (k fc : Nat) (s : State), s.txReady 11 unit charge = some u → s.injected 11 = false →
  u.secure = true → s.txKey u = some k → s.keyWaits k (some unit) none = false → (s.txSecureStart u).1 = some (k, fc) →
      completes (.secureTxStage unit charge) s fun t => t.txUnit unit = some { u with octets := secureOctets (s.key k).image s.ownExt u fc, stage := 12 }) ∧
  (∀ (unit charge : Nat) (u : TxUnit) (s : State), s.txReady 12 unit charge = some u → s.injected 12 = false →
  u.kind ≠ .legacy → (s.encoded u).tooLong = false → u.extended = false →
      completes (.encodeStage unit charge) s fun t => t.txUnit unit = some { s.encoded u with stage := 13 }) ∧
  (∀ (unit charge : Nat) (u : TxUnit) (s : State), s.txReady 12 unit charge = some u → u.kind ≠ .legacy →
  (s.encoded u).tooLong = true →
      completes (.encodeStage unit charge) s fun t => t.txUnit unit = none)

/-- MODULATE, MASK and LAUNCH, and a transmission on the air from ramp to ramp-down (R57, R98, R102, R105, R106, R107, R108,
R110, R112, R114, 04_transmit_path.md) -/
def Obligations.TransmissionsModulateLaunchAndRampDown : Prop :=
  (∀ (unit charge : Nat) (u : TxUnit) (s : State), s.txReady 13 unit charge = some u → s.injected 13 = false →
      completes (.modulateStage unit charge) s fun t => t.txUnit unit =
        (let x := Config.gaussian (bit u.profWord 4) (deviations u.profWord (u.bits.take u.preBits) (u.bits.drop u.preBits))
         some { u with stage := 14, devs := if bit u.profWord 22 then (List.range x.length).map (firSample u.fir x (deviationLimit u.profWord)) else x })) ∧
  (∀ (unit charge : Nat) (u : TxUnit) (e : Int) (s : State), s.txReady 14 unit charge = some u → s.injected 14 = false →
  e = (if s.on TXP_CTRL_PRECOR_EN && u.kind != .beacon && u.kind != .test then s.offsetHz u.ctx / 10 else 0) →
      completes (.maskStage unit charge) s fun t => t.txUnit unit = some { u with carrier := ((u.freq : Int) + 10 * clampInt (s.get TXP_PRECOR_PRECOR_MAX) e).toNat, stage := 15 } ∧
        t.on TXP_STATUS_LAST_CLAMP = decide (clampInt (s.get TXP_PRECOR_PRECOR_MAX) e ≠ e)) ∧
  (∀ (unit charge mv g : Nat) (u : TxUnit) (s : State), s.txReady 15 unit charge = some u → s.injected 15 = false →
  u.released = true → s.airUnit = none → s.mode ≠ modeNode ∨ s.get MAC_STATUS_SYNC ≠ syncScan → s.slotLen = 0 ∨
  u.ordinal ≤ s.prog 25 1 → s.slot.policy ≠ 1 → (s.sampleVsup mv).regCheck u.freq u.power u.plan = .pass g →
      completes (.launchStage unit charge mv) s fun t => t.txUnit unit = some { u with phase := .locked, group := some g, planned := u.plan } ∧
        t.radio.carrier = u.carrier ∧ t.radio.txWindow = true) ∧
  (∀ (unit charge mv : Nat) (u : TxUnit) (s : State), s.txReady 15 unit charge = some u → s.injected 15 = false →
  u.released = true → s.airUnit = none → s.mode ≠ modeNode ∨ s.get MAC_STATUS_SYNC ≠ syncScan → s.slotLen = 0 ∨
  u.ordinal ≤ s.prog 25 1 → (s.sampleVsup mv).regCheck u.freq u.power u.plan = .channel none →
      completes (.launchStage unit charge mv) s fun t => t.txUnit unit = none) ∧
  (∀ (i : Fin 4) (v : Word) (s : State), s.mode ≠ modeCompat → txProfOk v.toNat = true →
      completes (.txProfileWrite i v) s fun t => t.get TXP_STATUS_PROF_ERR = 0 ∧ ∀ f ∈ txProfFields i,
        t.get f = slice v.toNat f.lsb f.width) ∧
  (∀ (i : Fin 4) (v : Word) (s : State), s.mode ≠ modeCompat → txProfOk v.toNat = false →
      completes (.txProfileWrite i v) s fun t => t.get TXP_STATUS_PROF_ERR = 1 ∧ ∀ f ∈ txProfFields i, t.get f = s.get f) ∧
  (∀ (u : TxUnit) (s : State), s.airUnit = some u → u.phase = .locked →
      completes (.txRampStart) s fun t => t.get RFC_STATE_STATE_T = 4 ∧ t.radio.extPaEn = true ∧
        t.airUnit = some { u with phase := .ramp, used := s.clock, rampSecond := s.radio.second }) ∧
  (∀ (u : TxUnit) (s : State), s.airUnit = some u → u.phase = .ramp →
      completes (.txFirstSymbol) s fun t => t.get RFC_STATE_STATE_T = 5 ∧ t.event 22 = true ∧
        t.airUnit = some { u with phase := .tx, tTx := s.tnet }) ∧
  (∀ (u : TxUnit) (s : State), s.airUnit = some u → u.phase = .tx → u.owed = 0 →
      completes (.txEnd) s fun t => t.get RFC_STATE_STATE_T = 6 ∧ t.airUnit = some { u with phase := .rampDown }) ∧
  (∀ (u : TxUnit) (s : State), s.airUnit = some u → u.phase = .rampDown → u.kind = .data → u.aborted = false → u.noAr = true →
      completes (.rampDownEnd) s fun t => t.event 23 = true ∧
        t.get RFC_STATE_STATE_T = s.get RFC_CTRL_RET_T % 2 ^ RFC_STATE_STATE_T.width ∧ t.txUnit u.id = none) ∧
  (∀ (levels : List Int) (u : TxUnit) (s : State), s.airUnit = some u → u.phase = .tx → u.aborted = false →
  maskExceeded u.mask levels = true →
      completes (.maskPeriodogram levels) s fun t => t.event 27 = true ∧ t.get TXP_STATUS_LAST_MASK = 1 ∧
        t.get RFC_STATE_STATE_T = 6 ∧ t.get TXP_STATUS_ABORTS = satInc TXP_STATUS_ABORTS.width (s.get TXP_STATUS_ABORTS) ∧
        t.airUnit = some { u with phase := .rampDown, aborted := true, status := 7 })

/-- The commands of the program store: image writes, LOAD, its checks, ARM_SWAP, CANCEL, CLEAR and STOP (R118, R126, R132,
R143, R144, R146, 05_slot_engine.md) -/
def Obligations.ProgramStoreCommands : Prop :=
  (∀ (off : Nat) (bs : List Byte) (s : State), s.mode ≠ modeCompat → s.refFailed = false → s.standby ≠ sbChecking →
  s.standby ≠ sbArmed →
      completes (.imageWrite off bs) s fun t => t.standby = sbWritten ∧ t.get SLE_STATUS_WR_REJ = 0 ∧
        ∀ j : Fin 73728, Sparse.read 0 t.standbyBuf j = if off ≤ j.val ∧
          j.val < off + bs.length then bs.getD (j.val - off) 0 else Sparse.read 0 s.standbyBuf j) ∧
  (∀ (off : Nat) (bs : List Byte) (s : State), s.mode ≠ modeCompat → s.refFailed = false → s.standby = sbChecking ∨
  s.standby = sbArmed →
      completes (.imageWrite off bs) s fun t => t.get SLE_STATUS_WR_REJ = 1 ∧ t.standby = s.standby ∧
        t.standbyBuf = s.standbyBuf) ∧
  (∀ (who : Master) (s : State), s.mode ≠ modeCompat → s.refFailed = false → s.standby = sbWritten →
      completes (.loadProgram who) s fun t => t.standby = sbChecking ∧ t.get SLE_STATUS_CMD_REJ = 0 ∧ t.slot.loadBy = who ∧
        t.slot.policy = s.get RFC_CALCFG_POLICY) ∧
  (∀ (who : Master) (s : State), s.mode ≠ modeCompat → s.refFailed = false → s.standby ≠ sbWritten →
      completes (.loadProgram who) s fun t => t.get SLE_STATUS_CMD_REJ = 1 ∧ t.standby = s.standby) ∧
  (∀ (r : Option LoadResult) (s : State), s.standby = sbChecking → s.loadCheck s.standbyBuf = r →
      completes (.loadCheckDone) s fun t => t.standby = (if r.isNone then sbChecked else sbRefused) ∧
        t.event (if r.isNone then 49 else 50) = true ∧
        t.get SLE_LOADCHK_RESULT = (r.map LoadResult.code).getD 0 % 256) ∧
  (∀ (s : State), s.mode ≠ modeCompat → s.refFailed = false → s.standby = sbChecked → s.mayArm = true →
      completes (.armSwap) s fun t => t.standby = sbArmed ∧ t.slot.armed = some (s.swapAsn, s.newAsn) ∧
        t.get SLE_STATUS_CMD_REJ = 0) ∧
  (∀ (s : State), s.mode ≠ modeCompat → s.refFailed = false → s.standby ≠ sbChecked →
      completes (.armSwap) s fun t => t.get SLE_STATUS_CMD_REJ = 1 ∧ t.standby = s.standby) ∧
  (∀ (s : State), s.mode ≠ modeCompat → s.refFailed = false → s.standby = sbArmed →
      completes (.programCancel) s fun t => t.standby = sbChecked ∧ t.slot.armed = none) ∧
  (∀ (s : State), s.mode ≠ modeCompat → s.refFailed = false → s.standby ≠ sbChecking →
      completes (.programClear) s fun t => t.standby = sbEmpty ∧ t.standbyBuf = [] ∧ t.slot.armed = none) ∧
  (∀ (s : State), s.mode ≠ modeCompat → s.refFailed = false → s.running = true →
      completes (.programStop) s fun t => t.get SLE_STATUS_STOP_PEND = 1) ∧
  (∀ (s : State),
      completes (.dropPop) s fun t => t.slot.dropLog = s.slot.dropLog.drop 1 ∧ (t.slot.dropLog = [] →
        t.get SLE_DROPSTAT_LOST = 0)) ∧
  (∀ (s : State),
      completes (.asnLRead) s fun t => t.get SLE_ASN_H_ASN_H = s.asn / 2 ^ 32)

/-- Slot boundaries, lockstep mismatches and the lock-up condition, and the rate accumulator of TNET (R118, R137, R143, R163,
R141, R142, 05_slot_engine.md, 06_medium_access.md) -/
def Obligations.SlotBoundariesAndLockstep : Prop :=
  (∀ (a b : Fin 16) (s : State), s.running = true → s.slotLen ≠ 0 → s.slot.coarse = none → s.on SLE_STATUS_STOP_PEND = false →
  s.dueSwap ((s.slot.slotAsn + 1) % 2 ^ 40) false = none →
      completes (.slotBoundary a b) s fun t => t.tnet = (s.slot.boundary + s.slotLen) % 2 ^ 64 ∧
        t.slot.slotAsn = (s.slot.slotAsn + 1) % 2 ^ 40) ∧
  (∀ (a b : Fin 16) (s : State), s.running = true → s.slotLen ≠ 0 → s.on SLE_STATUS_STOP_PEND = true →
      completes (.slotBoundary a b) s fun t => t.running = false) ∧
  (∀ (s : State), s.running = false → s.standby = sbArmed →
      completes (.firstProgramStart) s fun t => t.running = true ∧ t.activeBuf = s.standbyBuf) ∧
  (∀ (n : Nat) (u : RxUnit) (s : State), s.rxUnit n = some u →
      completes (.twinMismatch n) s fun t => t.rxUnit n = none ∧ t.event 53 = true) ∧
  (∀ (n : Nat) (u : TxUnit) (s : State), s.rxUnit n = none → s.txUnit n = some u → u.phase = .pipeline → u.kind = .data →
      completes (.twinMismatch n) s fun t => t.txUnit n = none ∧ t.event 53 = true) ∧
  (∀ (s : State),
      completes (.twinLockup) s fun t => t.event 54 = true ∧ t.power.resetReq.contains 0x0A = true) ∧
  (∀ (v : Word) (s : State), s.mode = modeTest → bit v.toNat 9 = true →
      completes (.twintestInject v) s fun t => t.event 54 = true ∧ t.power.resetReq.contains 0x0A = true) ∧
  (∀ (v : Word) (s : State), s.mode = modeTest → bit v.toNat 9 = false →
      completes (.twintestInject v) s fun t => t.slot.twinTest = some (slice v.toNat 0 4, slice v.toNat 4 5)) ∧
  (∀ (s : State), (16000000000 : Int) ≤ s.mac.rateAcc →
      completes (.rateAccumulatorOverflow) s fun t => t.tnet = (s.tnet + 2 ^ 64 - 1) % 2 ^ 64 ∧
        t.mac.rateAcc = s.mac.rateAcc - 16000000000) ∧
  (∀ (s : State), s.mac.rateAcc ≤ -(16000000000 : Int) →
      completes (.rateAccumulatorOverflow) s fun t => t.tnet = (s.tnet + 1) % 2 ^ 64 ∧
        t.mac.rateAcc = s.mac.rateAcc + 16000000000)

/-- Neighbour contexts, transmit queues, the completion FIFO and the delivery ring take their commands (R154, R155, R170,
R174, R175, R177, R180, 06_medium_access.md) -/
def Obligations.ContextsQueuesAndTheDeliveryRing : Prop :=
  (∀ (i : Fin 1024) (s : State), s.on MAC_CTXSTAT_BUSY = false → s.running = true →
      completes (.contextWrite i) s fun t => t.mac.staged = some { index := i, delete := false, image := s.mac.ctxBuf } ∧
        t.get MAC_CTXSTAT_BUSY = 1 ∧ t.get MAC_CTXSTAT_REJ = 0) ∧
  (∀ (i : Fin 1024) (s : State), s.on MAC_CTXSTAT_BUSY = false → s.running = false →
      completes (.contextWrite i) s fun t => t.bytes (ctxAddr i) 64 = contextImage s.mac.ctxBuf ∧
        t.get MAC_CTXSTAT_BUSY = 0 ∧ t.get MAC_CTXSTAT_REJ = 0) ∧
  (∀ (i : Fin 1024) (s : State), s.on MAC_CTXSTAT_BUSY = true →
      completes (.contextWrite i) s fun t => t.get MAC_CTXSTAT_REJ = 1 ∧ t.mac = s.mac ∧
        t.bytes (ctxAddr i) 64 = s.bytes (ctxAddr i) 64) ∧
  (∀ (i : Fin 1024) (s : State), s.on MAC_CTXSTAT_BUSY = false →
      completes (.contextRead i) s fun t => t.mac.ctxBuf = s.bytes (ctxAddr i) 64 ∧ t.get MAC_CTXSTAT_REJ = 0) ∧
  (∀ (i : Fin 1024) (s : State), s.on MAC_CTXSTAT_BUSY = false → s.running = true →
      completes (.contextDelete i) s fun t => t.mac.staged = some { index := i, delete := true, image := [] } ∧
        t.get MAC_CTXSTAT_BUSY = 1 ∧ t.get MAC_CTXSTAT_REJ = 0) ∧
  (∀ (i : Fin 1024) (s : State), s.on MAC_CTXSTAT_BUSY = false → s.running = false →
      completes (.contextDelete i) s fun t => t.ctxFlag i 0 = false ∧ t.get MAC_CTXSTAT_BUSY = 0) ∧
  (∀ (i : Fin 4096) (s : State), s.pushInvalid i = false → s.desc i 8 1 ≠ 0xFE →
      completes (.txPush i) s fun t => t.mac.queue = s.mac.queue ++ [{ desc := i, ctx := s.desc i 2 2, queue := s.desc i 8 1, cls := slice (s.desc i 9 1) 0 2 }]) ∧
  (∀ (i : Fin 4096) (s : State), s.pushInvalid i = false → s.desc i 8 1 = 0xFE → s.desc i 2 2 < 1024 →
  s.ctxFlag (s.desc i 2 2) 2 = true → (s.mac.pending.filter (fun e => e.ctx == s.desc i 2 2)).length < 4 →
  s.mac.pending.length < 2048 →
      completes (.txPush i) s fun t => t.mac.pending = s.mac.pending ++ [{ desc := i, ctx := s.desc i 2 2, since := s.clock }]) ∧
  (∀ (i : Fin 4096) (s : State), s.pushInvalid i = true →
      completes (.txPush i) s fun t => t.event 56 = true ∧ t.mac.queue = s.mac.queue ∧ t.mac.pending = s.mac.pending) ∧
  (∀ (s : State),
      completes (.txDonePop) s fun t => t.mac.txDone = s.mac.txDone.drop 1) ∧
  (∀ (q : Fin 16) (s : State),
      completes (.queueFlush q) s fun t => ∀ e ∈ t.mac.queue, e.queue = q.val → e.busy = true) ∧
  (∀ (s : State),
      completes (.flushPending) s fun t => ∀ e ∈ t.mac.pending, e.busy = true) ∧
  (∀ (rd : Nat) (s : State), rd < s.get MAC_FBCFG_DQ_SIZE →
  (rd + s.get MAC_FBCFG_DQ_SIZE - s.get MAC_DQ_RD) % s.get MAC_FBCFG_DQ_SIZE ≤ s.dqLevel →
      completes (.dqRelease rd) s fun t => t.get MAC_DQ_RD = rd % 4096 ∧
        t.mac.dqBlocks = s.mac.dqBlocks.drop ((rd + s.get MAC_FBCFG_DQ_SIZE - s.get MAC_DQ_RD) % s.get MAC_FBCFG_DQ_SIZE)) ∧
  (∀ (v : Word) (s : State), s.on MAC_LOCK_LOCK = false → s.running = false → s.dqLevel = 0 → s.mac.queue = [] →
  s.mac.pending = [] → s.slot.tx.any (fun u => u.desc.isSome) = false →
      completes (.fbcfgWrite v) s fun t => t.get MAC_FBCFG_DQ_SIZE = (if 64 ≤ slice v.toNat 0 13 ∧
        slice v.toNat 0 13 ≤ 4032 then slice v.toNat 0 13 else s.get MAC_FBCFG_DQ_SIZE) ∧
        t.get MAC_FBCFG_RX_BLOCKS = (if 512 ≤ slice v.toNat 16 13 ∧
          slice v.toNat 16 13 ≤ 5632 then slice v.toNat 16 13 else s.get MAC_FBCFG_RX_BLOCKS) ∧
        t.get MAC_FBCFG_CFG_REJ = 0 ∧ t.get MAC_DQ_RD = 0 ∧ t.get MAC_DQ_WR = 0) ∧
  (∀ (v : Word) (s : State), s.on MAC_LOCK_LOCK = false → s.running = true →
      completes (.fbcfgWrite v) s fun t => t.get MAC_FBCFG_CFG_REJ = 1 ∧ t.get MAC_FBCFG_DQ_SIZE = s.get MAC_FBCFG_DQ_SIZE ∧
        t.get MAC_FBCFG_RX_BLOCKS = s.get MAC_FBCFG_RX_BLOCKS)

/-- Acknowledgements, the synchronisation states, polls and mode changes (R28, R29, R32, R164, R165, R166, R167, R173, R493,
01_architecture.md, 06_medium_access.md) -/
def Obligations.AcknowledgementsSynchronisationAndModes : Prop :=
  (∀ (lane : Fin 128) (frame : List Byte) (tSfd : Nat) (rssi offset : Int) (w : RxWindow) (u : TxUnit) (h : MacHeader) (d c : Nat) (s : State),
  s.mode ≠ modeCompat → s.ackWindow lane = some (w, u) → parseHeader frame = some h → h.frameType = 2 → h.iesBad = false →
  h.seq = some u.seq → h.secured = false → u.kind = .data → u.desc = some d → u.ctx = some c → c < 1024 →
      completes (.ackReceived lane frame true tSfd rssi offset) s fun t => t.txUnit u.id = none ∧ t.event 56 = true ∧
        t.ctxMiss c = 0) ∧
  (∀ (lane : Fin 128) (frame : List Byte) (tSfd : Nat) (rssi offset : Int) (s : State), s.mode ≠ modeCompat →
  exec (.ackReceived lane frame false tSfd rssi offset) s = .next (s)) ∧
  (∀ (lane : Fin 128) (w : RxWindow) (u : TxUnit) (d : Nat) (s : State), s.ackWindow lane = some (w, u) → u.kind = .data →
  u.desc = some d → u.ctx.all (fun c => decide (c < 1024)) = true →
      completes (.ackWindowClose lane) s fun t => t.txUnit u.id = none ∧ w ∉ t.slot.windows ∧
        (slice (s.desc d 10 1) 0 3 < s.desc d 17 1 → t.event 56 = true)) ∧
  (∀ (c : Nat) (s : State), s.follows = true → s.parent = some c → s.get MAC_STATUS_SYNC = syncSynced → 3 ≤ s.ctxMiss c →
      completes (.adriftEntry) s fun t => t.get MAC_STATUS_SYNC = syncAdrift ∧ t.event 60 = true) ∧
  (∀ (s : State), s.follows = true → s.get MAC_STATUS_SYNC = syncAdrift →
      completes (.adriftTimeout) s fun t => t.get MAC_STATUS_SYNC = syncScan ∧ t.event 61 = true) ∧
  (∀ (s : State), s.mode = modeNode → s.get MAC_STATUS_SYNC = syncScan →
      completes (.scanDwellEnd) s fun t => t.mac.scanK = if s.mac.scanK < s.scanLast then s.mac.scanK + 1 else 0) ∧
  (∀ (s : State), s.follows = true →
      completes (.syncScan) s fun t => t.get MAC_STATUS_SYNC = syncScan ∧ t.event 61 = true) ∧
  (∀ (s : State), s.follows = true →
      completes (.syncStop) s fun t => t.get MAC_STATUS_SYNC = syncUnsynced) ∧
  (∀ (s : State), s.mode = modeNode → s.parent.isSome = true →
      completes (.syncPoll) s fun t => t.mac.pollWanted = true) ∧
  (∀ (v : Nat) (s : State), s.on PRC_MODE_PENDING = true →
      completes (.modeWrite v) s fun t => t.host.result = .busy ∧ t.mode = s.mode) ∧
  (∀ (v : Nat) (s : State), s.on PRC_MODE_PENDING = false → v = 0 ∨ 5 < v →
      completes (.modeWrite v) s fun t => t.host.result = .range ∧ t.mode = s.mode) ∧
  (∀ (v : Nat) (s : State), s.on PRC_MODE_PENDING = false → 1 ≤ v → v ≤ 5 → s.mode = modeCompat →
      completes (.modeWrite v) s fun t => t.host.result = .mode ∧ t.mode = s.mode) ∧
  (∀ (s : State), s.on PRC_MODE_PENDING = false → s.mode ≠ modeCompat → s.mode ≠ modeRecovery →
      completes (.modeWrite modeRecovery) s fun t => t.host.result = .ok ∧ t.boot.recoveryReq = true ∧
        t.power.resetReq.contains 0x06 = true) ∧
  (∀ (v : Nat) (s : State), s.on PRC_MODE_PENDING = false → 1 ≤ v → v ≤ 5 → v ≠ modeRecovery → s.mode ≠ modeCompat →
  s.mode ≠ modeRecovery →
      completes (.modeWrite v) s fun t => t.host.result = .ok ∧ t.slot.modeReq = some v ∧ t.get PRC_MODE_PENDING = 1 ∧
        (s.running = true → t.get SLE_STATUS_STOP_PEND = 1)) ∧
  (∀ (m : Nat) (s : State), s.slot.modeReq = some m → s.running = false →
      completes (.modeTransition) s fun t => t.mode = m % 2 ^ PRC_MODE_MODE.width ∧
        t.get PRC_MODE_PREV = s.mode % 2 ^ PRC_MODE_PREV.width ∧ t.get PRC_MODE_PENDING = 0 ∧ t.event 7 = true)

/-- Key slots take their commands and the pages run, chunk, abort and fail their requests (R185, R193, R194, R197, R198, R200,
R201, 07_frame_security.md) -/
def Obligations.KeyCommandsAndGeneralRequests : Prop :=
  (∀ (p : Fin 8) (s : State), s.refFailed = false → (s.key (s.get (SEC_P_KSEL_SLOT p))).owner = p.val →
  keyLegal (s.stagedKey p) p = true → (s.keyUnits (s.get (SEC_P_KSEL_SLOT p))).isEmpty = true →
  (s.keyPages (s.get (SEC_P_KSEL_SLOT p))).isEmpty = true → (s.key (s.get (SEC_P_KSEL_SLOT p))).pend = none →
      completes (.keyLoad p) s fun t => (t.key (s.get (SEC_P_KSEL_SLOT p))).state = .ready ∧
        (t.key (s.get (SEC_P_KSEL_SLOT p))).image = s.stagedKey p ∧
        (t.key (s.get (SEC_P_KSEL_SLOT p))).count = 0 ∧ (t.key (s.get (SEC_P_KSEL_SLOT p))).txfc = (s.stagedKey p).txfc ∧
        t.get (SEC_P_KSTAT_KCMD_REJ p) = 0 ∧ t.get (SEC_P_KDATA0_KEY p) = 0) ∧
  (∀ (p : Fin 8) (s : State), s.refFailed = false → (s.key (s.get (SEC_P_KSEL_SLOT p))).owner ≠ p.val →
      completes (.keyLoad p) s fun t => t.get (SEC_P_KSTAT_KCMD_REJ p) = 1 ∧ t.event 70 = true ∧ t.sec = s.sec) ∧
  (∀ (p : Fin 8) (s : State), s.refFailed = false → (s.key (s.get (SEC_P_KSEL_SLOT p))).owner = p.val →
  (s.keyUnits (s.get (SEC_P_KSEL_SLOT p))).isEmpty = true → (s.keyPages (s.get (SEC_P_KSEL_SLOT p))).isEmpty = true →
  (s.key (s.get (SEC_P_KSEL_SLOT p))).pend = none →
      completes (.keyClear p) s fun t => (t.key (s.get (SEC_P_KSEL_SLOT p))).state = .empty ∧
        (t.key (s.get (SEC_P_KSEL_SLOT p))).image.key = [] ∧ t.get (SEC_P_KSTAT_KCMD_REJ p) = 0) ∧
  (∀ (i : Fin 256) (w : KeyPend) (s : State), (s.key i).pend = some w → w.image = none →
  (s.keyUnits i).any w.units.contains = false → (s.keyPages i).any w.pages.contains = false →
      completes (.keyCommandApply i) s fun t => (t.key i).pend = none ∧ (t.key i).state = .empty) ∧
  (∀ (v : Word) (s : State), (s.key (s.get SEC_KSEL_SLOT)).owner ≠ slice v.toNat 0 3 →
      completes (.keyOwnerWrite v) s fun t => t.key (s.get SEC_KSEL_SLOT) = { owner := slice v.toNat 0 3 }) ∧
  (∀ (i : Fin 256) (b : Nat) (tx : Bool) (s : State), (s.key i).state = .ready → (s.key i).image.limit < (s.key i).count + b ∨
  (s.key i).count = (s.key i).image.limit ∨ (tx = true ∧ (s.key i).txfc = 0xFFFFFFFF) →
      completes (.keyExhausted i b tx) s fun t => (t.key i).state = .exhausted ∧ t.event 66 = true) ∧
  (∀ (p : Fin 8) (a : Word) (s : State), s.refFailed = false → (s.page p).reqs.length < 4 →
      completes (.cipherSubmit p a) s fun t => (t.page p).reqs.map GenReq.addr = (s.page p).reqs.map GenReq.addr ++ [a.toNat] ∧
        t.get (SEC_P_STAT_SUB_REJ p) = 0) ∧
  (∀ (p : Fin 8) (a : Word) (s : State), s.refFailed = false → 4 ≤ (s.page p).reqs.length →
      completes (.cipherSubmit p a) s fun t => t.get (SEC_P_STAT_SUB_REJ p) = 1 ∧ t.sec = s.sec) ∧
  (∀ (p : Fin 8) (r : GenReq) (rs : List GenReq) (l : Nat) (s : State), (s.page p).reqs = r :: rs → (s.page p).lane = some l →
  r.started = true → r.verdict = cipherOk → 16 * (r.chunks + 1) < r.blocks →
      completes (.cipherChunkEnd p) s fun t => (t.page p).reqs = { r with chunks := r.chunks + 1 } :: rs) ∧
  (∀ (p : Fin 8) (r : GenReq) (rs : List GenReq) (l : Nat) (s : State), (s.page p).reqs = r :: rs → (s.page p).lane = some l →
  r.verdict ≠ cipherOk →
      completes (.cipherDone p) s fun t => (t.page p).reqs.map GenReq.addr = rs.map GenReq.addr ∧
        t.get (SEC_P_DONE_DONE p) = 1 ∧ t.event 64 = true ∧ t.get (SEC_P_STAT_LAST p) = r.verdict % 256) ∧
  (∀ (p : Fin 8) (r : GenReq) (rs : List GenReq) (l : Nat) (s : State), (s.page p).reqs = r :: rs → (s.page p).lane = some l →
  r.verdict = cipherOk → r.blocks ≤ 16 * (r.chunks + 1) → r.host = false →
  s.poisonedIn (leAt (s.reqImage r) 8 4) (reqSrcLen (s.reqImage r)) = false →
      completes (.cipherDone p) s fun t => (t.page p).reqs.map GenReq.addr = rs.map GenReq.addr ∧
        t.get (SEC_P_DONE_DONE p) = 1 ∧ t.event 64 = true ∧
        t.get (SEC_P_STAT_LAST p) = (if (reqCompute (s.key r.slot).image (s.reqImage r) (s.bytes (leAt (s.reqImage r) 8 4) (reqSrcLen (s.reqImage r)))).2.2 then cipherAuthFail else cipherOk)) ∧
  (∀ (p : Fin 8) (s : State), (s.page p).reqs ≠ [] →
      completes (.pageAbort p) s fun t => (t.page p).reqs = [] ∧ t.event 64 = true ∧
        t.get (SEC_P_STAT_LAST p) = cipherAborted) ∧
  (∀ (l : Fin 16) (kw : Bool) (p : Nat) (r : GenReq) (rs : List GenReq) (s : State), s.laneUnit l = none →
  (List.range 8).find? (fun q => (s.page q).lane == some l.val) = some p → (s.page p).reqs = r :: rs →
      completes (.cipherFault l kw) s fun t => (t.page p).reqs.map GenReq.addr = rs.map GenReq.addr ∧ t.event 67 = true ∧
        t.get (SEC_P_STAT_LAST p) = cipherFault) ∧
  (∀ (l : Fin 16) (kw : Bool) (id k : Nat) (u : RxUnit) (s : State), s.laneUnit l = some id → s.rxUnit id = some u →
  u.hdr.secured = true → u.ctx.bind (fun c => s.selectKey c u.hdr) = some k →
      completes (.cipherFault l kw) s fun t => t.rxUnit id = none ∧ t.event 67 = true) ∧
  (∀ (d : List Byte) (s : State), d.length < 40 ∨ reqIsCcm d = false ∨ leAt d 8 8 ≠ 0 ∨ d.length ≠ 40 + reqSrcLen d →
      completes (.cipherRequestObject d) s fun t => t.host.result = .range ∧ t.sec = s.sec) ∧
  (∀ (d : List Byte) (s : State), s.refFailed = false → 40 ≤ d.length → reqIsCcm d = true → leAt d 8 8 = 0 →
  d.length = 40 + reqSrcLen d → (s.page 3).reqs.length < 4 → (s.page 3).reqs.any GenReq.host = false →
      completes (.cipherRequestObject d) s fun t => t.host.result = .ok ∧ t.sec.hostReq = d ∧
        (t.page 3).reqs.any GenReq.host = true) ∧
  (∀ (d : List Byte) (s : State), 40 ≤ d.length → reqIsCcm d = true → leAt d 8 8 = 0 → d.length = 40 + reqSrcLen d →
  (s.page 3).reqs.any GenReq.host = true →
      completes (.cipherRequestObject d) s fun t => t.host.result = .busy ∧ t.sec = s.sec)

/-- Acquisition commands and results, tracking channels, notches, jamming, gain and the measurement latch (R205, R206, R208,
R210, R216, R217, R218, R221, R222, 08_gnss_baseband.md) -/
def Obligations.AcquisitionTrackingAndFrontEndMonitors : Prop :=
  (∀ (s : State), s.on GNS_CTRL_EN = true → s.gnss.acqCmds.length < 8 →
      completes (.acqPush) s fun t => t.gnss.acqCmds = s.gnss.acqCmds ++ [s.acqStaged] ∧ t.get GNS_ACQSTAT_ACQ_REJ = 0) ∧
  (∀ (s : State), s.on GNS_CTRL_EN = true → 8 ≤ s.gnss.acqCmds.length →
      completes (.acqPush) s fun t => t.gnss = s.gnss ∧ t.get GNS_ACQSTAT_ACQ_REJ = 1) ∧
  (∀ (s : State), s.gnss.acqCmds ≠ [] →
      completes (.acqAbort) s fun t => t.gnss.acqCmds = [] ∧ t.event 72 = true ∧
        t.gnss.acqResults = s.gnss.acqResults ++ s.gnss.acqCmds.map (fun c => acqResult c 3 0 0 0 0 0)) ∧
  (∀ (code : Nat) (dopp : Int) (ratio tRef now : Nat) (c : List Byte) (cs : List (List Byte)) (s : State),
  s.gnss.acqCmds = c :: cs → s.gnss.acqResults.length < 8 → acqOk c = false →
      completes (.acqDone code dopp ratio tRef now) s fun t => t.gnss.acqCmds = cs ∧ t.event 72 = true ∧
        t.gnss.acqResults = s.gnss.acqResults ++ [acqResult c 2 0 0 0 0 0]) ∧
  (∀ (code : Nat) (dopp : Int) (ratio tRef now : Nat) (c : List Byte) (cs : List (List Byte)) (s : State),
  s.gnss.acqCmds = c :: cs → s.gnss.acqResults.length < 8 → acqOk c = true → ratio < leAt c 12 1 →
      completes (.acqDone code dopp ratio tRef now) s fun t => t.gnss.acqCmds = cs ∧ t.event 72 = true ∧
        t.gnss.acqResults = s.gnss.acqResults ++ [acqResult c 1 0 (code % (codeLength (leAt c 0 1) * 65536)) dopp (min ratio 65535) tRef]) ∧
  (∀ (code : Nat) (dopp : Int) (ratio tRef now : Nat) (c : List Byte) (cs : List (List Byte)) (s : State),
  s.gnss.acqCmds = c :: cs → s.gnss.acqResults.length < 8 → acqOk c = true → leAt c 12 1 ≤ ratio →
  bit (leAt c 13 1) 0 = true → s.on (GNS_CCFG_EN (leAt c 14 1)) = false →
      completes (.acqDone code dopp ratio tRef now) s fun t => t.gnss.acqCmds = cs ∧ t.event 72 = true ∧
        t.on (GNS_CCFG_EN (leAt c 14 1)) = true ∧
        t.gnss.acqResults = s.gnss.acqResults ++ [acqResult c 0 1 (code % (codeLength (leAt c 0 1) * 65536)) dopp (min ratio 65535) tRef]) ∧
  (∀ (s : State),
      completes (.acqPop) s fun t => t.gnss.acqResults = s.gnss.acqResults.drop 1) ∧
  (∀ (n : Fin 96) (outs : List Int) (s : State), s.on GNS_CTRL_EN = true → s.on (GNS_CCFG_EN n) = true →
      completes (.blockBoundary n outs) s fun t => (∀ i : Fin 14, t.get (corrField n i) = unsigned 32 (outs.getD i 0)) ∧
        t.get (GNS_CSTAT_BLOCK_READY n) = 1 ∧
        (s.on (GNS_CSTAT_BLOCK_READY n) = true → t.get (GNS_CSTAT_OVR n) = 1) ∧
          t.get (GNS_CDD_DD n) = unsigned 32 (doubleDelta outs)) ∧
  (∀ (n : Fin 96) (s : State), s.on (GNS_CCFG_EN n) = true → 20 ≤ (s.chan n).windowBlocks →
  s.get GNS_LOCKCFG_LOSS_THR ≤ ((s.chan n).windowSum / (s.chan n).windowBlocks / 65536) →
      completes (.lockMonitorWindow n) s fun t => t.get (GNS_CCFG_LOST n) = 0 ∧
        t.get (GNS_CPOW_POW n) = ((s.chan n).windowSum / (s.chan n).windowBlocks / 65536) % 2 ^ 32) ∧
  (∀ (n : Fin 96) (s : State), s.on (GNS_CCFG_EN n) = true → 20 ≤ (s.chan n).windowBlocks →
  ((s.chan n).windowSum / (s.chan n).windowBlocks / 65536) < s.get GNS_LOCKCFG_LOSS_THR →
  s.get GNS_LOCKCFG_LOSS_N ≤ (s.chan n).losses + 1 → s.on (GNS_CCFG_LOST n) = false →
      completes (.lockMonitorWindow n) s fun t => t.get (GNS_CCFG_LOST n) = 1 ∧ t.event 73 = true) ∧
  (∀ (levels tracks : List Int) (s : State), s.on GNS_CTRL_EN = true →
      completes (.spectrumUpdate levels tracks) s fun t => ∀ n : Fin 4, s.on (GNS_NOTCH_EN n) = false ∨
        s.on (GNS_NOTCH_AUTO n) = false → t.get (GNS_NOTCH_LOCKED n) = 0) ∧
  (∀ (levels tracks : List Int) (c : Nat × Int) (s : State), s.on GNS_CTRL_EN = true → s.on (GNS_NOTCH_EN 0) = true →
  s.on (GNS_NOTCH_AUTO 0) = true → (s.gnss.notches.getD 0 {}).holds = false →
  candidates levels (s.get (GNS_NOTCH_NOTCH_THR 0)) = [c] →
      completes (.spectrumUpdate levels tracks) s fun t => t.get (GNS_NOTCH_FREQ 0) = unsigned 16 (binKhz c.1)) ∧
  (∀ (p8 : Int) (j : Nat) (s : State), s.on GNS_CTRL_EN = true →
  j = (if p8 - Config.p8Ref < 0 then 0 else if 255 < p8 - Config.p8Ref then 255 else (p8 - Config.p8Ref).toNat) →
      completes (.jammingUpdate p8) s fun t => t.get GNS_JAM_J = j ∧ (s.on GNS_STATUS_JAM = false →
        s.get GNS_JAM_JAM_THR ≤ j → t.on GNS_STATUS_JAM = true ∧ t.event 80 = true) ∧
        (s.on GNS_STATUS_JAM = true → j + s.get GNS_JAM_JAM_HYST < s.get GNS_JAM_JAM_THR → t.on GNS_STATUS_JAM = false ∧
          t.event 80 = true)) ∧
  (∀ (rms : Nat) (s : State), s.on GNS_CTRL_EN = true → s.on GNS_CTRL_AGC_AUTO = true → s.get GNS_GAIN_GAIN < 64 →
      completes (.gnssAgcStep rms) s fun t => t.get GNS_GAIN_GAIN = if 55 < rms then s.get GNS_GAIN_GAIN - 1 else if rms < 45 then min 63 (s.get GNS_GAIN_GAIN + 1) else s.get GNS_GAIN_GAIN) ∧
  (∀ (ph : List (Nat × Int × Nat)) (per : Nat) (s : State), s.on GNS_CTRL_EN = true →
  per = s.get GNS_MEASCFG_PERIOD * 10000000 → per ≠ 0 →
  s.gnss.lastEpoch.all (fun e => decide (e < s.tnet / per * per)) = true →
      completes (.measLatch ph) s fun t => t.get GNS_MEASSTAT_BUF = (1 - s.get GNS_MEASSTAT_BUF) ∧
        t.get GNS_MEASSTAT_EPOCH = s.tnet / per * per / per % 2 ^ 31 ∧ t.event 74 = true ∧
        t.gnss.lastEpoch = some (s.tnet / per * per) ∧
          t.bytes (0x40088000 + 0x1000 * (1 - s.get GNS_MEASSTAT_BUF)) 32 = s.measHeader (s.tnet / per * per) per)

/-- GTIME, its second marks, the steering of TNET, the time pulse and a restart (R219, R220, R224, R225, R226, R227,
08_gnss_baseband.md) -/
def Obligations.GtimeSteeringAndTheTimePulse : Prop :=
  (∀ (late : Fin 13021) (s : State), s.on GNS_CTRL_EN = true →
      completes (.secondMark late) s fun t => t.gnss.gtSec = s.gnss.gtSec + 1 ∧ t.gnss.gtCycles = s.gnss.gtTrim.getD 0 ∧
        t.gnss.gtTrim = none ∧ t.get GNS_TPQERR_LATE_PS = late.val ∧
        t.gnss.pulse = { mode := s.get GNS_TPCFG_TP_MODE, period := s.get GNS_TPPER_VALUE, width := s.get GNS_TPWID_VALUE, offset := signed 32 (s.get GNS_TPOFF_OFFSET) }) ∧
  (∀ (late : Fin 13021) (s : State), s.on GNS_CTRL_EN = true → s.on GNS_GTCTRL_TIME_VALID = true → s.mac.pendCorr = 0 →
  s.steering = true → s.gnss.tnetSet = false → s.running = false →
      completes (.secondMark late) s fun t => t.tnet = ((s.tnet : Int) + -((s.tnet : Int) - (((s.gnss.gtSec + 1) * 100000000 : Nat) : Int))).toNat % 2 ^ 64 ∧
        t.gnss.tnetSet = true) ∧
  (∀ (late : Fin 13021) (e i : Int) (s : State), s.on GNS_CTRL_EN = true → s.on GNS_GTCTRL_TIME_VALID = true →
  s.mac.pendCorr = 0 → s.steering = true → s.gnss.tnetSet = true →
  e = (10 * ((s.tnet : Int) - (((s.gnss.gtSec + 1) * 100000000 : Nat) : Int)) - (((late.val + 500) / 1000 : Nat) : Int)) →
  e.natAbs ≤ s.get GNS_STEERCFG_SLEW_LIM →
  i = clampInt steerMax (s.gnss.integ + Int.tdiv (16 * e) (2 ^ s.get GNS_STEERCFG_KI_SH)) →
      completes (.secondMark late) s fun t => t.get GNS_STEERE_VALUE = unsigned 32 e ∧ t.gnss.integ = i ∧
        t.get GNS_STEERR_VALUE = unsigned 32 (clampInt steerMax (i + Int.tdiv (16 * e) (2 ^ s.get GNS_STEERCFG_KP_SH))) ∧
          t.tnet = s.tnet) ∧
  (∀ (late : Fin 13021) (s : State), s.on GNS_CTRL_EN = true → s.gnss.pulse.mode ≠ 0 → s.gnss.pulse.mode ≠ 1 ∨
  s.on GNS_GTCTRL_TIME_VALID = true →
      completes (.timePulse late) s fun t => t.gnss.pulseOn = true ∧ t.event 75 = true ∧ t.get GNS_TPQERR_LATE_PS = late.val) ∧
  (∀ (s : State),
      completes (.timePulseTrailingEdge) s fun t => t.gnss.pulseOn = false) ∧
  (∀ (s : State), s.on GNS_CTRL_EN = true →
      completes (.gtimeSet) s fun t => t.gnss.gtSec = s.get GNS_GTSEC_SEC ∧ t.gnss.gtCycles = nsCycles (s.get GNS_GTNS_NS)) ∧
  (∀ (v : Word) (s : State), (signed 32 v.toNat).natAbs ≤ 50000 →
      completes (.gtphaseTrim v) s fun t => t.gnss.gtTrim = some (nsCycles (signed 32 v.toNat))) ∧
  (∀ (v : Word) (s : State), 50000 < (signed 32 v.toNat).natAbs → exec (.gtphaseTrim v) s = .next (s)) ∧
  (∀ (s : State), s.on GNS_GTCTRL_TIME_VALID = false →
      completes (.timeValidWrite true) s fun t => t.on GNS_GTCTRL_TIME_VALID = true ∧ t.on GNS_STATUS_TIME_VALID = true ∧
        t.on GNS_STATUS_HOLDOVER = false ∧ t.event 76 = true) ∧
  (∀ (s : State), s.on GNS_GTCTRL_TIME_VALID = true → s.steering = true →
      completes (.timeValidWrite false) s fun t => t.on GNS_GTCTRL_TIME_VALID = false ∧ t.on GNS_STATUS_TIME_VALID = false ∧
        t.on GNS_STATUS_HOLDOVER = true ∧ t.event 77 = true ∧ t.on GNS_STATUS_STEER_LOCK = false) ∧
  (∀ (s : State), s.on GNS_STATUS_COARSE_HOLD = true → s.running = false →
      completes (.steerForce) s fun t => t.tnet = ((s.tnet : Int) + s.gnss.heldStep).toNat % 2 ^ 64 ∧
        t.on GNS_STATUS_COARSE_HOLD = false) ∧
  (∀ (s : State), s.on GNS_STATUS_COARSE_HOLD = true → s.running = true →
      completes (.steerForce) s fun t => t.slot.coarse = some s.gnss.heldStep ∧ t.tnet = s.tnet) ∧
  (∀ (s : State),
      completes (.steerResetI) s fun t => t.gnss.integ = 0 ∧ t.get GNS_STEERR_VALUE = 0) ∧
  (∀ (k : Nat) (s : State), 1 ≤ k → k ≤ 3 →
      completes (.gnssRestart k) s fun t => t.host.result = .ok ∧ t.gnss.startClass = k ∧ (k = 3 → t.gnss.stored = [])) ∧
  (∀ (k : Nat) (s : State), k = 0 ∨ 3 < k →
      completes (.gnssRestart k) s fun t => t.host.result = .range ∧ t.gnss = s.gnss)

/-- The calendar counts, takes SET values, freezes for reads and fires its alarms (R235, R236, R237, R238, R239, R240, R242,
09_rtc_backup_domain.md) -/
def Obligations.TheCalendarItsSettingAndItsAlarms : Prop :=
  (∀ (s : State), s.rtc.oscRuns = true → s.setReady = none → -1000000000 < s.rtc.acc + signed 20 (s.get RTC_TRIM_E) →
  s.rtc.acc + signed 20 (s.get RTC_TRIM_E) < 1000000000 → s.get RTC_SUBSEC_SUBSEC + 1 < 32768 →
      completes (.rtcTick) s fun t => t.get RTC_SUBSEC_SUBSEC = s.get RTC_SUBSEC_SUBSEC + 1 ∧ t.calTime = s.calTime ∧
        t.rtc.acc = s.rtc.acc + signed 20 (s.get RTC_TRIM_E)) ∧
  (∀ (s : State), s.rtc.oscRuns = true → s.setReady = none → -1000000000 < s.rtc.acc + signed 20 (s.get RTC_TRIM_E) →
  s.rtc.acc + signed 20 (s.get RTC_TRIM_E) < 1000000000 → s.get RTC_SUBSEC_SUBSEC = 32767 → s.calTime.ok = true →
      completes (.rtcTick) s fun t => t.get RTC_SUBSEC_SUBSEC = 0 ∧ t.calTime = s.calTime.next.1 ∧ t.rtc.secondTick = true) ∧
  (∀ (v : CalTime) (s : State), s.rtc.oscRuns = true → s.setReady = some v → v.ok = true →
      completes (.rtcSetApply) s fun t => t.calTime = v ∧ t.get RTC_SUBSEC_SUBSEC = 0 ∧ t.on RTC_STATUS_OSC_STOP = false) ∧
  (∀ (s : State), s.stagedSet.ok = true → s.rtc.heldSet = none →
      completes (.rtcSet) s fun t => t.rtc.dueSet = some s.stagedSet) ∧
  (∀ (s : State), s.stagedSet.ok = false →
      completes (.rtcSet) s fun t => t.get RTC_STATUS_DATE_INVALID = 1 ∧ t.event 95 = true ∧ t.rtc = s.rtc ∧
        t.calTime = s.calTime) ∧
  (∀ (s : State), s.stagedSet.ok = true →
      completes (.rtcSetAt) s fun t => t.rtc.heldSet = some { time := s.stagedSet } ∧ t.get RTC_STATUS_SET_PEND = 1) ∧
  (∀ (s : State),
      completes (.rtcSetCancel) s fun t => t.rtc.heldSet = none ∧ t.get RTC_STATUS_SET_PEND = 0) ∧
  (∀ (v : Nat) (s : State), v ≠ 1 →
      completes (.setFromNetworkTime v) s fun t => t.host.result = .range ∧ t.rtc = s.rtc) ∧
  (∀ (s : State),
  (networkCal (s.tnet / 100000000 + 1) (s.get RTC_UTCOFF_LEAP) (signed 8 (s.get RTC_UTCOFF_OFFSET))).ok = true →
      completes (.setFromNetworkTime 1) s fun t => t.host.result = .ok ∧
        t.rtc.heldSet = some { time := (networkCal (s.tnet / 100000000 + 1) (s.get RTC_UTCOFF_LEAP) (signed 8 (s.get RTC_UTCOFF_OFFSET))), due := some ((s.tnet / 100000000 + 1) * 100000000) }) ∧
  (∀ (s : State), s.rtc.secondTick = true → s.on RTC_ALMCTRL_A_EN = true → s.almHit 0 s.calTime = true →
      completes (.alarmFire) s fun t => t.get RTC_STATUS_ALMA_F = 1 ∧ t.event 88 = true ∧ t.rtc.secondTick = false ∧
        (s.on RTC_ALMCTRL_A_ONESHOT = true → t.on RTC_ALMCTRL_A_EN = false)) ∧
  (∀ (one : Bool) (s : State), s.on RTC_ALMCTRL_A_EN = false → (s.almDates 0).isEmpty = false →
  (s.almTimes 0).isEmpty = false → s.almWithin 0 s.calTime none = true →
      completes (.alarmArm false one) s fun t => t.get RTC_ALMCTRL_A_EN = 1 ∧ t.on RTC_ALMCTRL_A_ONESHOT = one) ∧
  (∀ (one : Bool) (s : State), s.on RTC_ALMCTRL_B_EN = false → (s.almDates 1).isEmpty = true →
      completes (.alarmArm true one) s fun t => t.on RTC_ALMCTRL_B_EN = false ∧ t.get RTC_STATUS_DATE_INVALID = 1 ∧
        t.event 95 = true) ∧
  (∀ (c : Bool) (i : Fin 7) (s : State), s.on (if c then RTC_STATUS_FROZEN1 else RTC_STATUS_FROZEN0) = false →
      completes (.timeRegisterRead c i) s fun t => t.host.readData = ({ time := s.calTime, wday := s.get RTC_DAY_WDAY, subsec := s.get RTC_SUBSEC_SUBSEC } : Shadow).reg i ∧
        t.on (if c then RTC_STATUS_FROZEN1 else RTC_STATUS_FROZEN0) = decide (i.val ≠ 6)) ∧
  (∀ (c : Bool) (i : Fin 7) (s : State), s.on (if c then RTC_STATUS_FROZEN1 else RTC_STATUS_FROZEN0) = true →
      completes (.timeRegisterRead c i) s fun t => t.host.readData = (if c then s.rtc.shadow1 else s.rtc.shadow0).reg i ∧
        t.on (if c then RTC_STATUS_FROZEN1 else RTC_STATUS_FROZEN0) = decide (i.val ≠ 6)) ∧
  (∀ (c : Bool) (s : State), s.on (if c then RTC_STATUS_FROZEN1 else RTC_STATUS_FROZEN0) = true →
      completes (.shadowTimeout c) s fun t => t.on (if c then RTC_STATUS_FROZEN1 else RTC_STATUS_FROZEN0) = false ∧
        t.get RTC_STATUS_SHADOW_TO = 1) ∧
  (∀ (s : State), s.rtc.oscRuns = true →
      completes (.oscStop) s fun t => t.rtc.oscRuns = false ∧ t.get RTC_STATUS_OSC_STOP = 1 ∧ t.event 94 = true) ∧
  (∀ (s : State),
      completes (.oscReturn) s fun t => t.rtc.oscRuns = true)

/-- Trim measurements, the supply switch, comparators and the power-on of the backup domain (R233, R234, R242, R243, R244,
R245, 09_rtc_backup_domain.md) -/
def Obligations.TrimSupplyComparatorsAndTheBackupDomain : Prop :=
  (∀ (s : State), s.on RTC_STATUS_MEAS_BUSY = false → s.on GNS_GTCTRL_TIME_VALID = true ∨ s.get RTC_TRIMCFG_SRC ≠ 0 →
      completes (.rtcMeasure) s fun t => t.get RTC_STATUS_MEAS_BUSY = 1) ∧
  (∀ (s : State), s.on RTC_STATUS_MEAS_BUSY = false → s.on GNS_GTCTRL_TIME_VALID = false → s.get RTC_TRIMCFG_SRC = 0 →
      completes (.rtcMeasure) s fun t => t.get RTC_STATUS_MEAS_BUSY = 0 ∧ t.get RTC_TRIMRES_STATUS = 1) ∧
  (∀ (s : State), s.on RTC_STATUS_MEAS_BUSY = true →
      completes (.measAbort) s fun t => t.get RTC_STATUS_MEAS_BUSY = 0 ∧ t.get RTC_TRIMRES_STATUS = 2) ∧
  (∀ (s : State), s.on RTC_STATUS_MEAS_BUSY = true → s.get RTC_TRIMCFG_SRC = 1 →
      completes (.measureNoref) s fun t => t.get RTC_STATUS_MEAS_BUSY = 0 ∧ t.get RTC_TRIMRES_STATUS = 1) ∧
  (∀ (n : Nat) (s : State), s.on RTC_STATUS_MEAS_BUSY = true →
  500000 < (roundDiv (((n : Int) - ((s.get RTC_TRIMCFG_WINDOW * 32768 : Nat) : Int)) * 1000000000) (s.get RTC_TRIMCFG_WINDOW * 32768)).natAbs →
      completes (.measureDone n) s fun t => t.get RTC_STATUS_MEAS_BUSY = 0 ∧ t.get RTC_TRIMRES_STATUS = 3 ∧
        t.get RTC_TRIM_E = s.get RTC_TRIM_E) ∧
  (∀ (n : Nat) (s : State), s.on RTC_STATUS_MEAS_BUSY = true →
  (roundDiv (((n : Int) - ((s.get RTC_TRIMCFG_WINDOW * 32768 : Nat) : Int)) * 1000000000) (s.get RTC_TRIMCFG_WINDOW * 32768)).natAbs ≤ 500000 →
      completes (.measureDone n) s fun t => t.get RTC_STATUS_MEAS_BUSY = 0 ∧ t.get RTC_TRIMRES_STATUS = 0 ∧
        t.get RTC_TRIMRES_RESULT = unsigned 20 (roundDiv (((n : Int) - ((s.get RTC_TRIMCFG_WINDOW * 32768 : Nat) : Int)) * 1000000000) (s.get RTC_TRIMCFG_WINDOW * 32768)) ∧
        t.get RTC_TRIM_E = (if s.on RTC_TRIMCFG_AUTO then unsigned 20 (roundDiv (((n : Int) - ((s.get RTC_TRIMCFG_WINDOW * 32768 : Nat) : Int)) * 1000000000) (s.get RTC_TRIMCFG_WINDOW * 32768)) else s.get RTC_TRIM_E)) ∧
  (∀ (v : Word) (s : State), s.on RTC_LOCK_LOCK = false → (signed 20 v.toNat).natAbs ≤ 500000 →
      completes (.rtcTrimWrite v) s fun t => signed 20 (t.get RTC_TRIM_E) = signed 20 v.toNat ∧ t.rtc.acc = 0) ∧
  (∀ (s : State), s.on RTC_SUPPLY_ON_VBAK = false → s.on RTC_SUPPLY_STAMP_VALID = false →
      completes (.supplySwitch) s fun t => t.get RTC_SUPPLY_ON_VBAK = 1 ∧ t.get RTC_SUPPLY_STAMP_VALID = 1 ∧
        t.event 93 = true ∧ t.get RTC_SUPPLY_SWCOUNT = satInc 8 (s.get RTC_SUPPLY_SWCOUNT) ∧
        t.get RTC_SWSTAMP_T_TIME = (s.get RTC_SEC_VALUE + 256 * s.get RTC_MIN_VALUE + 65536 * s.get RTC_HOUR_HOUR) % 2 ^ 21) ∧
  (∀ (s : State),
      completes (.supplyReturn) s fun t => t.get RTC_SUPPLY_ON_VBAK = 0) ∧
  (∀ (f : RegField) (s : State), rtcKeys.1 ≤ f.key → f.key < rtcKeys.2 →
      completes (.backupPowerOn) s fun t => t.get f = f.reset ∧ t.rtc = {} ∧ ∀ k : Fin 64, t.byte (backupRam + k) = 0) ∧
  (∀ (n : Fin 4) (high : Bool) (s : State), s.rtc.oscRuns = true → s.get (RTC_CMP_COND n) ≠ 0 →
  bit (s.get RTC_CMPSTAT_LEVEL) n ≠ high → s.rtc.cmpRuns.length = 4 →
  s.rtc.cmpRuns.getD n 0 + 1 ≤ s.get (RTC_CMP_DEBOUNCE n) →
      completes (.comparatorSample n high) s fun t => t.rtc.cmpRuns.getD n 0 = s.rtc.cmpRuns.getD n 0 + 1 ∧
        t.get RTC_CMPSTAT_LEVEL = s.get RTC_CMPSTAT_LEVEL) ∧
  (∀ (n : Fin 4) (s : State), s.rtc.oscRuns = true → s.get (RTC_CMP_COND n) = 1 → bit (s.get RTC_CMPSTAT_LEVEL) n = false →
  s.get (RTC_CMP_DEBOUNCE n) < s.rtc.cmpRuns.getD n 0 + 1 →
      completes (.comparatorSample n true) s fun t => bit (t.get RTC_CMPSTAT_LEVEL) n = true ∧
        bit (t.get RTC_CMPSTAT_HIT) n = true ∧ t.event (89 + n) = true ∧
        (s.on (RTC_CMP_ERASE n) = true → t.get RTC_CMPSTAT_ERASED = 1 ∧ ∀ k : Fin 64, t.byte (backupRam + k) = 0))

/-- Timers tick, reload, compare, start and stop; the TNET read (R250, R252, R253, R255, R256, 10_timers_event_routing.md) -/
def Obligations.TimersCountReloadCompareStartAndStop : Prop :=
  (∀ (n : Fin 8) (s : State), s.timerCounts n = true → s.reloads n = true →
      completes (.timerTick n) s fun t => t.get (TMR_COUNT_COUNT n) = 0 ∧ t.get (TMR_STAT_PER_F n) = 1 ∧
        t.event (96 + n) = true ∧ (s.on (TMR_CTRL_ONESHOT n) = true → t.on (TMR_CTRL_EN n) = false)) ∧
  (∀ (n : Fin 8) (s : State), s.timerCounts n = true → s.reloads n = true →
      completes (.timerReload n) s fun t => t.get (TMR_COUNT_COUNT n) = 0 ∧ t.get (TMR_STAT_PER_F n) = 1 ∧
        t.event (96 + n) = true ∧ (s.on (TMR_CTRL_ONESHOT n) = true → t.on (TMR_CTRL_EN n) = false)) ∧
  (∀ (n : Fin 8) (s : State), s.timerCounts n = true → s.reloads n = false → s.get (TMR_COUNT_COUNT n) + 1 < 2 ^ 32 →
      completes (.timerTick n) s fun t => t.get (TMR_COUNT_COUNT n) = s.get (TMR_COUNT_COUNT n) + 1 ∧
        (s.on (TMR_CTRL_CMP_EN n) = true → s.cmpDone n = false → s.get (TMR_CMP_CMP n) ≤ s.get (TMR_COUNT_COUNT n) + 1 →
          t.get (TMR_STAT_CMP_F n) = 1 ∧ t.cmpDone n = true ∧ t.event (96 + n) = true)) ∧
  (∀ (m : Fin 256) (c : Bool) (s : State),
      completes (.timerStart m c) s fun t => ∀ n : Fin 8, bit m n = true → (c = true →
        bit (s.get TMR_OWNER_OWNER) n = true) →
        t.on (TMR_CTRL_EN n) = true ∧ t.get (TMR_COUNT_COUNT n) = s.get (TMR_PHASE_PHASE n) % 2 ^ 32 ∧ t.cmpDone n = false) ∧
  (∀ (m : Fin 256) (c : Bool) (s : State),
      completes (.timerStop m c) s fun t => ∀ n : Fin 8, (bit m n = true → (c = true →
        bit (s.get TMR_OWNER_OWNER) n = true) → t.on (TMR_CTRL_EN n) = false) ∧
        (bit m n = false ∨ (c = true ∧ bit (s.get TMR_OWNER_OWNER) n = false) →
          t.get (TMR_CTRL_EN n) = s.get (TMR_CTRL_EN n))) ∧
  (∀ (n : Fin 8) (v : Word) (c : Bool) (s : State), c = false ∨ bit (s.get TMR_OWNER_OWNER) n = true →
      completes (.cmpWrite n v c) s fun t => t.get (TMR_CMP_CMP n) = v.toNat ∧ t.cmpDone n = false ∧
        (s.on (TMR_CTRL_CMP_EN n) = true → v.toNat ≤ s.get (TMR_COUNT_COUNT n) → bit t.evr.cmpDue n = true)) ∧
  (∀ (n : Fin 8) (v : Word) (s : State), bit (s.get TMR_OWNER_OWNER) n = false → exec (.cmpWrite n v true) s = .next (s)) ∧
  (∀ (n : Fin 8) (s : State), bit s.evr.cmpDue n = true → s.timerFrozen n = false → s.timerPowered n = true →
      completes (.compareImmediateFire n) s fun t => t.get (TMR_STAT_CMP_F n) = 1 ∧ t.cmpDone n = true ∧
        bit t.evr.cmpDue n = false ∧ t.event (96 + n) = true) ∧
  (∀ (s : State),
      completes (.tnetRead) s fun t => t.host.readData = s.tnet ∧ t.tnet = s.tnet)

/-- Router channels: pulses, the rate limiter, tasks, stamps, firing, pins and the stuck monitor (R257, R259, R260, R261,
R262, R263, R264, R268, 10_timers_event_routing.md) -/
def Obligations.RouterChannelsPinsAndStamps : Prop :=
  (∀ (c : Fin 32) (at_ : Nat) (s : State), Sparse.read none s.evr.pulses c = some at_ → s.ratePasses c = true →
      completes (.channelPulse c) s fun t => Sparse.read 0 t.evr.passed c = Sparse.read 0 s.evr.passed c + 1 ∧
        (s.on (EVR_CFG_STAMP c) = true → s.power.tnetRuns = true → t.get (EVR_TSL_TS_L c) = at_ % 2 ^ 32 ∧
          t.get (EVR_STAT_TS_VALID c) = 1) ∧
        (bit (s.chanTasks c) 33 = true → ∀ k : Fin 64, t.byte (backupRam + k) = 0) ∧ (bit (s.chanTasks c) 35 = true →
          t.power.resetReq.contains 0x06 = true)) ∧
  (∀ (c : Fin 32) (at_ : Nat) (s : State), Sparse.read none s.evr.pulses c = some at_ → s.ratePasses c = false →
      completes (.channelPulse c) s fun t => t.get (EVR_STAT_DROPPED c) = satInc 16 (s.get (EVR_STAT_DROPPED c)) ∧
        Sparse.read none t.evr.pulses c = none ∧ t.get (EVR_TSL_TS_L c) = s.get (EVR_TSL_TS_L c)) ∧
  (∀ (v : Word) (s : State),
      completes (.evrFire v false) s fun t => t.get EVR_STATUS_ACC_REJ = 0 ∧ ∀ c : Fin 32, bit v.toNat c = true →
        s.chanLive c = true → (Sparse.read none t.evr.pulses c).isSome = true) ∧
  (∀ (v : Word) (c : Fin 32) (s : State), bit v.toNat c = true → s.get (EVR_CFG_OWNER c) ≠ 1 →
  Sparse.read none s.evr.pulses c = none →
      completes (.evrFire v true) s fun t => t.get EVR_STATUS_ACC_REJ = 1 ∧ Sparse.read none t.evr.pulses c = none) ∧
  (∀ (v : Word) (s : State),
      completes (.softwareEvent v) s fun t => ∀ k : Fin 4, bit v.toNat k = true → t.event (124 + k) = true) ∧
  (∀ (c : Fin 32) (high : Bool) (age : Nat) (s : State), s.pinTaken c = true → s.on (EVR_STAT_LEVEL c) ≠ high →
  s.on (EVR_STAT_STUCK c) = false → (if high then s.get (EVR_CFG_EDGE c) ≠ 1 else s.get (EVR_CFG_EDGE c) ≠ 0) →
  s.chanLive c = true → Sparse.read none s.evr.pulses c = none →
      completes (.pinEdge c high age) s fun t => t.on (EVR_STAT_LEVEL c) = high ∧
        Sparse.read none t.evr.pulses c = some (s.tnet - age)) ∧
  (∀ (c : Fin 32) (s : State), s.get (EVR_COND_STUCK_T c) ≠ 0 → s.pinTaken c = true → s.on (EVR_STAT_LEVEL c) = true →
  s.get (EVR_CFG_EDGE c) ≠ 1 →
      completes (.stuckDetect c) s fun t => t.get (EVR_STAT_STUCK c) = 1 ∧ bit (t.get EVR_STUCKSUM_STUCK) c = true) ∧
  (∀ (c : Fin 32) (s : State),
      completes (.stuckClear c) s fun t => t.get (EVR_STAT_STUCK c) = 0 ∧ bit (t.get EVR_STUCKSUM_STUCK) c = false) ∧
  (∀ (c : Fin 32) (s : State),
      completes (.rateWindowEnd c) s fun t => Sparse.read 0 t.evr.passed c = 0) ∧
  (∀ (c : Fin 32) (s : State),
      completes (.stampRead c) s fun t => t.host.readData = s.get (EVR_TSL_TS_L c) ∧
        t.get (EVR_TSH_TS_H c) = Sparse.read 0 s.evr.stampHigh c % 2 ^ 32)

/-- The integer instructions of a core: sums, differences, products, quotients, remainders and extremes (R283, R290, R292,
11_sloe_core_isa.md) -/
def Obligations.CoreIntegerArithmetic : Prop :=
  (∀ (k : Bool) (s z : State) (c : CoreState) (gd ga gb : Fin 16) (a b : Word), s.begins k = some z → z.core k = c →
  c.quiet = true → c.reg ga = ⟨.int, a⟩ → c.reg gb = ⟨.int, b⟩ →
      (exec (.add k gd ga gb) s = .next (z.stepTo k ((c.setReg gd ⟨.int,
        a + b⟩).setCV (decide (2 ^ 32 ≤ a.toNat + b.toNat)) (decide ((a + b).toInt ≠ a.toInt + b.toInt)))) ∧
       exec (.sub k gd ga gb) s = .next (z.stepTo k ((c.setReg gd ⟨.int,
         a - b⟩).setCV (decide (a.toNat < b.toNat)) (decide ((a - b).toInt ≠ a.toInt - b.toInt)))) ∧
       exec (.addc k gd ga gb) s = .next (z.stepTo k ((c.setReg gd ⟨.int,
         a + b + BitVec.ofNat 32 (ofBool (flagC c))⟩).setCV (decide (2 ^ 32 ≤ a.toNat + b.toNat + ofBool (flagC c))) (decide ((a + b + BitVec.ofNat 32 (ofBool (flagC c))).toInt ≠ a.toInt + b.toInt + ofBool (flagC c))))) ∧
       exec (.subc k gd ga gb) s = .next (z.stepTo k ((c.setReg gd ⟨.int,
         a - b - BitVec.ofNat 32 (ofBool (flagC c))⟩).setCV (decide (a.toNat < b.toNat + ofBool (flagC c))) (decide ((a - b - BitVec.ofNat 32 (ofBool (flagC c))).toInt ≠ a.toInt - b.toInt - ofBool (flagC c))))) ∧
       exec (.mul k gd ga gb) s = .next (z.stepTo k (c.setReg gd ⟨.int, a * b⟩)) ∧
       exec (.mulhs k gd ga gb) s = .next (z.stepTo k (c.setReg gd ⟨.int, BitVec.ofInt 32 (a.toInt * b.toInt / 2 ^ 32)⟩)) ∧
       exec (.mulhu k gd ga gb) s = .next (z.stepTo k (c.setReg gd ⟨.int, BitVec.ofNat 32 (a.toNat * b.toNat / 2 ^ 32)⟩)) ∧
       exec (.mins k gd ga gb) s = .next (z.stepTo k (c.setReg gd ⟨.int, if a.toInt ≤ b.toInt then a else b⟩)) ∧
       exec (.maxs k gd ga gb) s = .next (z.stepTo k (c.setReg gd ⟨.int, if a.toInt ≤ b.toInt then b else a⟩)))) ∧
  (∀ (k : Bool) (s z : State) (c : CoreState) (gd ga : Fin 16) (a : Word) (imm : Fin 262144), s.begins k = some z →
  z.core k = c → c.quiet = true → c.reg ga = ⟨.int, a⟩ →
      (exec (.addi k gd ga imm) s = .next (z.stepTo k ((c.setReg gd ⟨.int,
        a + BitVec.ofInt 32 (signed 18 imm)⟩).setCV (decide (2 ^ 32 ≤ a.toNat + (BitVec.ofInt 32 (signed 18 imm)).toNat)) (decide ((a + BitVec.ofInt 32 (signed 18 imm)).toInt ≠ a.toInt + signed 18 imm)))))) ∧
  (∀ (k : Bool) (s z : State) (c : CoreState) (gd ga gb : Fin 16) (a b : Word), s.begins k = some z → z.core k = c →
  c.quiet = true → c.reg ga = ⟨.int, a⟩ → c.reg gb = ⟨.int, b⟩ → b ≠ 0#32 →
      (exec (.divs k gd ga gb) s = .next (z.stepTo k (if a = 0x80000000#32 ∧
        b = 0xFFFFFFFF#32 then { c.setReg gd ⟨.int, a⟩ with st := setBit c.st 6 } else c.setReg gd ⟨.int, a.sdiv b⟩)) ∧
       exec (.divu k gd ga gb) s = .next (z.stepTo k (c.setReg gd ⟨.int, a / b⟩)) ∧
       exec (.rems k gd ga gb) s = .next (z.stepTo k (c.setReg gd ⟨.int, a.srem b⟩)) ∧
       exec (.remu k gd ga gb) s = .next (z.stepTo k (c.setReg gd ⟨.int, a % b⟩)))) ∧
  (∀ (k : Bool) (s z : State) (c : CoreState) (gd ga gb : Fin 16) (a b : Word) (v : Word), s.begins k = some z → z.core k = c →
  c.quiet = true → c.reg ga = ⟨.int, a⟩ → c.reg gb = ⟨.int, b⟩ → b = 0#32 → bit c.st 2 = false → z.vectorWord k 6 = some v →
      (exec (.divs k gd ga gb) s = .next (z.setCore k (c.entered c.pc 6 0 v)) ∧
       exec (.divu k gd ga gb) s = .next (z.setCore k (c.entered c.pc 6 0 v)) ∧
       exec (.rems k gd ga gb) s = .next (z.setCore k (c.entered c.pc 6 0 v)) ∧
       exec (.remu k gd ga gb) s = .next (z.setCore k (c.entered c.pc 6 0 v))))

/-- Logic, shifts, comparisons, moves, tag conversions and pointer arithmetic of a core (R274, R275, R276, R278, R282, R283,
R284, R286, 11_sloe_core_isa.md) -/
def Obligations.CoreLogicShiftsTagsAndPointers : Prop :=
  (∀ (k : Bool) (s z : State) (c : CoreState) (gd ga gb : Fin 16) (a b : Word) (t u : Tag), s.begins k = some z →
  z.core k = c → c.quiet = true → c.reg ga = ⟨t, a⟩ → c.reg gb = ⟨u, b⟩ → t = .int ∨ t = .raw → u = .int ∨ u = .raw →
      (exec (.and k gd ga gb) s = .next (z.stepTo k (c.setReg gd ⟨if t = .raw ∨ u = .raw then .raw else .int, a &&& b⟩)) ∧
       exec (.or k gd ga gb) s = .next (z.stepTo k (c.setReg gd ⟨if t = .raw ∨ u = .raw then .raw else .int, a ||| b⟩)) ∧
       exec (.xor k gd ga gb) s = .next (z.stepTo k (c.setReg gd ⟨if t = .raw ∨ u = .raw then .raw else .int, a ^^^ b⟩)) ∧
       exec (.andn k gd ga gb) s = .next (z.stepTo k (c.setReg gd ⟨if t = .raw ∨ u = .raw then .raw else .int,
         a &&& ~~~b⟩)))) ∧
  (∀ (k : Bool) (s z : State) (c : CoreState) (gd ga gb : Fin 16) (a b : Word), s.begins k = some z → z.core k = c →
  c.quiet = true → c.reg ga = ⟨.bool, a⟩ → c.reg gb = ⟨.bool, b⟩ →
      (exec (.and k gd ga gb) s = .next (z.stepTo k (c.setReg gd ⟨.bool, (a &&& b) &&& 1#32⟩)) ∧
       exec (.or k gd ga gb) s = .next (z.stepTo k (c.setReg gd ⟨.bool, (a ||| b) &&& 1#32⟩)) ∧
       exec (.xor k gd ga gb) s = .next (z.stepTo k (c.setReg gd ⟨.bool, (a ^^^ b) &&& 1#32⟩)))) ∧
  (∀ (k : Bool) (s z : State) (c : CoreState) (gd ga : Fin 16) (a : Word) (t : Tag) (imm : Fin 262144), s.begins k = some z →
  z.core k = c → c.quiet = true → c.reg ga = ⟨t, a⟩ → t = .int ∨ t = .raw →
      (exec (.andi k gd ga imm) s = .next (z.stepTo k (c.setReg gd ⟨t, a &&& BitVec.ofNat 32 imm⟩)) ∧
       exec (.ori k gd ga imm) s = .next (z.stepTo k (c.setReg gd ⟨t, a ||| BitVec.ofNat 32 imm⟩)) ∧
       exec (.xori k gd ga imm) s = .next (z.stepTo k (c.setReg gd ⟨t, a ^^^ BitVec.ofNat 32 imm⟩)))) ∧
  (∀ (k : Bool) (s z : State) (c : CoreState) (gd ga gb : Fin 16) (a b : Word) (t : Tag), s.begins k = some z → z.core k = c →
  c.quiet = true → c.reg ga = ⟨t, a⟩ → t = .int ∨ t = .raw → c.reg gb = ⟨.int, b⟩ →
      (exec (.shl k gd ga gb) s = .next (z.stepTo k (c.setReg gd ⟨t, a <<< (b.toNat % 32)⟩)) ∧
       exec (.shr k gd ga gb) s = .next (z.stepTo k (c.setReg gd ⟨t, a >>> (b.toNat % 32)⟩)) ∧
       exec (.sar k gd ga gb) s = .next (z.stepTo k (c.setReg gd ⟨t, a.sshiftRight (b.toNat % 32)⟩)) ∧
       exec (.rol k gd ga gb) s = .next (z.stepTo k (c.setReg gd ⟨t, a.rotateLeft (b.toNat % 32)⟩)))) ∧
  (∀ (k : Bool) (s z : State) (c : CoreState) (gd ga : Fin 16) (a : Word) (t : Tag) (q : Fin 4) (n : Fin 32),
  s.begins k = some z → z.core k = c → c.quiet = true → c.reg ga = ⟨t, a⟩ → t = .int ∨ t = .raw →
      (exec (.shi k gd ga q n) s = .next (z.stepTo k (c.setReg gd ⟨t, [a <<< n.val, a >>> n.val, a.sshiftRight n.val,
        a.rotateLeft n.val].getD q 0⟩)))) ∧
  (∀ (k : Bool) (s z : State) (c : CoreState) (gd ga : Fin 16) (imm : Fin 262144), s.begins k = some z → z.core k = c →
  c.quiet = true →
      (exec (.lui k gd imm) s = .next (z.stepTo k (c.setReg gd ⟨.int, BitVec.ofNat 32 imm <<< 14⟩)) ∧
       exec (.mov k gd ga) s = .next (z.stepTo k (c.setReg gd (c.reg ga))) ∧
       exec (.tagof k gd ga) s = .next (z.stepTo k (c.setReg gd ⟨.int, BitVec.ofNat 32 (c.reg ga).tag.num⟩)) ∧
       exec (.lea k gd ga imm) s = .next (z.stepTo k (c.setReg gd ⟨.ptr, BitVec.ofNat 32 (ga.val * 2 ^ 28 + imm.val)⟩)))) ∧
  (∀ (k : Bool) (s z : State) (c : CoreState) (gd : Fin 16) (off : Fin 4194304), s.begins k = some z → z.core k = c →
  c.quiet = true →
      (exec (.leac k gd off) s = .next (z.stepTo k (c.setReg gd ⟨.code, moveBy c.pc (4 * signed 22 off)⟩)))) ∧
  (∀ (k : Bool) (s z : State) (c : CoreState) (gd ga gb : Fin 16) (a b : Word) (q : Fin 8), s.begins k = some z →
  z.core k = c → c.quiet = true → c.reg ga = ⟨.int, a⟩ → c.reg gb = ⟨.int, b⟩ →
      (exec (.cmp k gd ga gb q) s = .next (z.stepTo k (c.setReg gd (boolWord ([a == b, a != b, a.slt b, b.sle a, a.ult b,
        b.ule a, a.sle b, b.slt a].getD q false)))))) ∧
  (∀ (k : Bool) (s z : State) (c : CoreState) (gd ga : Fin 16) (a b : Word) (q : Fin 8) (imm : Fin 32768),
  s.begins k = some z → z.core k = c → c.quiet = true → c.reg ga = ⟨.int, a⟩ → b = BitVec.ofInt 32 (signed 15 imm) →
      (exec (.cmpi k gd ga q imm) s = .next (z.stepTo k (c.setReg gd (boolWord ([a == b, a != b, a.slt b, b.sle a, a.ult b,
        b.ule a, a.sle b, b.slt a].getD q false)))))) ∧
  (∀ (k : Bool) (s z : State) (c : CoreState) (gd ga : Fin 16) (x : TWord) (t : Fin 8), s.begins k = some z → z.core k = c →
  c.quiet = true → c.reg ga = x → retagAllowed c.system x.tag (Tag.ofCode t) = true →
      (exec (.retag k gd ga t) s = .next (z.stepTo k (c.setReg gd ⟨Tag.ofCode t, retagged x (Tag.ofCode t)⟩)))) ∧
  (∀ (k : Bool) (s z : State) (c : CoreState) (ga : Fin 16) (t : Fin 8), s.begins k = some z → z.core k = c → c.quiet = true →
  (c.reg ga).tag.num = t.val →
      (exec (.chktag k ga t) s = .next (z.stepTo k c))) ∧
  (∀ (k : Bool) (s z : State) (c : CoreState) (ga : Fin 16) (t : Fin 8) (v : Word), s.begins k = some z → z.core k = c →
  c.quiet = true → (c.reg ga).tag.num ≠ t.val → bit c.st 2 = false → z.vectorWord k 3 = some v →
      (exec (.chktag k ga t) s = .next (z.setCore k (c.entered c.pc (3 + 2 ^ 8 * 4 + 2 ^ 16 * (c.reg ga).tag.num + 2 ^ 19) 0 v)))) ∧
  (∀ (k : Bool) (s z : State) (c : CoreState) (gd ga gb : Fin 16) (a b : Word) (t : Tag), s.begins k = some z → z.core k = c →
  c.quiet = true → c.reg ga = ⟨t, a⟩ → (t = .ptr ∨ t = .code) → c.reg gb = ⟨.int, b⟩ → 0 ≤ (offOf a : Int) + b.toInt →
  (offOf a : Int) + b.toInt < 2 ^ 28 →
      (exec (.addp k gd ga gb) s = .next (z.stepTo k (c.setReg gd ⟨t,
        BitVec.ofNat 32 (segOf a * 2 ^ 28 + ((offOf a : Int) + b.toInt).toNat)⟩)))) ∧
  (∀ (k : Bool) (s z : State) (c : CoreState) (gd ga : Fin 16) (a : Word) (t : Tag) (imm : Fin 262144), s.begins k = some z →
  z.core k = c → c.quiet = true → c.reg ga = ⟨t, a⟩ → (t = .ptr ∨ t = .code) → 0 ≤ (offOf a : Int) + signed 18 imm →
  (offOf a : Int) + signed 18 imm < 2 ^ 28 →
      (exec (.addpi k gd ga imm) s = .next (z.stepTo k (c.setReg gd ⟨t,
        BitVec.ofNat 32 (segOf a * 2 ^ 28 + ((offOf a : Int) + signed 18 imm).toNat)⟩)))) ∧
  (∀ (k : Bool) (s z : State) (c : CoreState) (gd ga gb : Fin 16) (a b : Word) (t : Tag), s.begins k = some z → z.core k = c →
  c.quiet = true → c.reg ga = ⟨t, a⟩ → (t = .ptr ∨ t = .code) → c.reg gb = ⟨t, b⟩ → segOf a = segOf b →
      (exec (.subp k gd ga gb) s = .next (z.stepTo k (c.setReg gd ⟨.int, BitVec.ofInt 32 ((offOf a : Int) - offOf b)⟩))))

/-- LDW, LDH, LDHU, LDB and LDBU read a word, a halfword or a byte of an SRAM through a PTR (R273, R278, R279, R285, R290,
R316, 11_sloe_core_isa.md) -/
def Obligations.CoreLoads : Prop :=
  (∀ (k : Bool) (s z : State) (c : CoreState) (gd ga : Fin 16) (imm : Fin 262144) (a p : Word), s.begins k = some z →
  z.core k = c → c.quiet = true → c.reg ga = ⟨.ptr, a⟩ → 0 ≤ (offOf a : Int) + signed 18 imm →
  (offOf a : Int) + signed 18 imm < 2 ^ 28 → moveBy a (signed 18 imm) = p → c.canLoad z p 4 = true →
      (exec (.ldw k gd ga imm 0) s = .next (z.stepTo k (c.setReg gd ⟨loadedTag z c p,
        BitVec.ofNat 32 (z.num (c.phys p) 4)⟩)))) ∧
  (∀ (k : Bool) (s z : State) (c : CoreState) (gd ga : Fin 16) (imm : Fin 262144) (a p : Word), s.begins k = some z →
  z.core k = c → c.quiet = true → c.reg ga = ⟨.ptr, a⟩ → 0 ≤ (offOf a : Int) + signed 18 imm →
  (offOf a : Int) + signed 18 imm < 2 ^ 28 → moveBy a (signed 18 imm) = p → c.canLoad z p 2 = true →
      (exec (.ldh k gd ga imm 0) s = .next (z.stepTo k (c.setReg gd ⟨Tag.int,
        BitVec.ofInt 32 (signed 16 (z.num (c.phys p) 2))⟩)) ∧
       exec (.ldhu k gd ga imm 0) s = .next (z.stepTo k (c.setReg gd ⟨Tag.int, BitVec.ofNat 32 (z.num (c.phys p) 2)⟩)))) ∧
  (∀ (k : Bool) (s z : State) (c : CoreState) (gd ga : Fin 16) (imm : Fin 262144) (a p : Word), s.begins k = some z →
  z.core k = c → c.quiet = true → c.reg ga = ⟨.ptr, a⟩ → 0 ≤ (offOf a : Int) + signed 18 imm →
  (offOf a : Int) + signed 18 imm < 2 ^ 28 → moveBy a (signed 18 imm) = p → c.canLoad z p 1 = true →
      (exec (.ldb k gd ga imm 0) s = .next (z.stepTo k (c.setReg gd ⟨Tag.int,
        BitVec.ofInt 32 (signed 8 (z.num (c.phys p) 1))⟩)) ∧
       exec (.ldbu k gd ga imm 0) s = .next (z.stepTo k (c.setReg gd ⟨Tag.int, BitVec.ofNat 32 (z.num (c.phys p) 1)⟩)))) ∧
  (∀ (k : Bool) (s z : State) (c : CoreState) (gd ga : Fin 16) (imm : Fin 262144) (a p : Word) (v : Word),
  s.begins k = some z → z.core k = c → c.quiet = true → c.reg ga = ⟨.ptr, a⟩ → 0 ≤ (offOf a : Int) + signed 18 imm →
  (offOf a : Int) + signed 18 imm < 2 ^ 28 → moveBy a (signed 18 imm) = p → c.access p 4 2 = [] → inSys (c.phys p) = true →
  z.poisoned (c.phys p) = true → bit c.st 2 = false → z.vectorWord k 8 = some v →
      (exec (.ldw k gd ga imm 0) s = .next (z.setCore k (c.entered c.pc 8 (c.phys p) v))))

/-- STW, STH, STB and CAS store through a PTR into system SRAM, with the tag of the word, and touch no other byte (R273, R278,
R279, R285, R315, 11_sloe_core_isa.md) -/
def Obligations.CoreStoresAndCompareAndSwap : Prop :=
  (∀ (k : Bool) (s z : State) (c : CoreState) (gd ga : Fin 16) (imm : Fin 262144) (a p : Word) (x : TWord) (b : Nat),
  s.begins k = some z → z.core k = c → c.quiet = true → c.reg ga = ⟨.ptr, a⟩ → c.reg gd = x →
  0 ≤ (offOf a : Int) + signed 18 imm → (offOf a : Int) + signed 18 imm < 2 ^ 28 → moveBy a (signed 18 imm) = p →
  c.canStore z p 4 = true → Poison.wf z.poison = true → b < c.phys p ∨ c.phys p + 4 ≤ b → c.policy p = 0 ∨ (x.tag ≠ .ptr ∧
  x.tag ≠ .code ∧ x.tag ≠ .handle ∧ x.tag ≠ .empty) →
      completes (.stw k gd ga imm) s fun t => t.core k = { c with pc := moveBy c.pc 4 } ∧
        t.num (c.phys p) 4 = x.data.toNat % 2 ^ 32 ∧
        t.tagOf (c.phys p) = storedTag (c.policy p) 4 (z.tagOf (c.phys p)) x.tag ∧ t.byte b = z.byte b) ∧
  (∀ (k : Bool) (s z : State) (c : CoreState) (gd ga : Fin 16) (imm : Fin 262144) (a p : Word) (x : TWord) (b : Nat),
  s.begins k = some z → z.core k = c → c.quiet = true → c.reg ga = ⟨.ptr, a⟩ → c.reg gd = x →
  0 ≤ (offOf a : Int) + signed 18 imm → (offOf a : Int) + signed 18 imm < 2 ^ 28 → moveBy a (signed 18 imm) = p →
  c.canStore z p 2 = true → Poison.wf z.poison = true → b < c.phys p ∨ c.phys p + 2 ≤ b → x.tag = .int ∨ x.tag = .raw →
      completes (.sth k gd ga imm 0) s fun t => t.core k = { c with pc := moveBy c.pc 4 } ∧
        t.num (c.phys p) 2 = x.data.toNat % 2 ^ 16 ∧
        t.tagOf (c.phys p) = storedTag (c.policy p) 2 (z.tagOf (c.phys p)) x.tag ∧ t.byte b = z.byte b) ∧
  (∀ (k : Bool) (s z : State) (c : CoreState) (gd ga : Fin 16) (imm : Fin 262144) (a p : Word) (x : TWord) (b : Nat),
  s.begins k = some z → z.core k = c → c.quiet = true → c.reg ga = ⟨.ptr, a⟩ → c.reg gd = x →
  0 ≤ (offOf a : Int) + signed 18 imm → (offOf a : Int) + signed 18 imm < 2 ^ 28 → moveBy a (signed 18 imm) = p →
  c.canStore z p 1 = true → Poison.wf z.poison = true → b < c.phys p ∨ c.phys p + 1 ≤ b → x.tag = .int ∨ x.tag = .raw →
      completes (.stb k gd ga imm 0) s fun t => t.core k = { c with pc := moveBy c.pc 4 } ∧
        t.num (c.phys p) 1 = x.data.toNat % 2 ^ 8 ∧
        t.tagOf (c.phys p) = storedTag (c.policy p) 1 (z.tagOf (c.phys p)) x.tag ∧ t.byte b = z.byte b) ∧
  (∀ (k : Bool) (s z : State) (c : CoreState) (gd ga gb : Fin 16) (p : Word) (x v old : TWord) (b : Nat), s.begins k = some z →
  z.core k = c → c.quiet = true → c.reg ga = ⟨.ptr, p⟩ → c.reg gd = x → c.reg gb = v → x.tag ≠ .empty → v.tag ≠ .empty →
  c.access p 4 6 = [] → c.canLoad z p 4 = true → inSys (c.phys p) = true → old = ⟨loadedTag z c p,
  BitVec.ofNat 32 (z.num (c.phys p) 4)⟩ → old = x → c.phys p % 4 = 0 → Poison.wf z.poison = true → b < c.phys p ∨
  c.phys p + 4 ≤ b → c.policy p = 0 ∨ (v.tag ≠ .ptr ∧ v.tag ≠ .code ∧ v.tag ≠ .handle) →
      completes (.cas k gd ga gb 0) s fun t => t.core k = { c.setReg gd old with pc := moveBy c.pc 4 } ∧
        t.num (c.phys p) 4 = v.data.toNat ∧ t.tagOf (c.phys p) = storedTag (c.policy p) 4 (z.tagOf (c.phys p)) v.tag ∧
        t.byte b = z.byte b) ∧
  (∀ (k : Bool) (s z : State) (c : CoreState) (gd ga gb : Fin 16) (p : Word) (x v old : TWord), s.begins k = some z →
  z.core k = c → c.quiet = true → c.reg ga = ⟨.ptr, p⟩ → c.reg gd = x → c.reg gb = v → x.tag ≠ .empty → v.tag ≠ .empty →
  c.access p 4 6 = [] → c.canLoad z p 4 = true → inSys (c.phys p) = true → old = ⟨loadedTag z c p,
  BitVec.ofNat 32 (z.num (c.phys p) 4)⟩ → old ≠ x → exec (.cas k gd ga gb 0) s = .next (z.stepTo k (c.setReg gd old)))

/-- PUSHM, POPM, CALL and RET save and restore registers and the return address on the stack of G15 (R273, R278, R279, R287,
11_sloe_core_isa.md) -/
def Obligations.CoreStackInstructions : Prop :=
  (∀ (k : Bool) (s z : State) (c : CoreState) (mask : Fin 32768) (p : Word) (ws : List TWord) (b : Nat), s.begins k = some z →
  z.core k = c → c.quiet = true → c.reg 15 = ⟨.ptr, p⟩ → offOf p % 4 = 0 → ws = (maskRegs mask).map c.reg →
  4 * ws.length ≤ offOf p → ∀ j : Fin 17, j < ws.length → c.canStore z (moveBy p (-4 * (j.val + 1))) 4 = true ∧
  c.policy (moveBy p (-4 * (j.val + 1))) = 0 → Poison.wf z.poison = true → ∀ j : Fin 17, j < ws.length →
  (b < c.phys (moveBy p (-4 * (j.val + 1))) ∨ c.phys (moveBy p (-4 * (j.val + 1))) + 4 ≤ b) →
      completes (.pushm k mask) s fun t => t.core k = { c.setReg 15 ⟨.ptr, moveBy p (-4 * ws.length)⟩ with pc := moveBy c.pc 4 } ∧
        (∀ j : Fin 17, j < ws.length → t.num (c.phys (moveBy p (-4 * (j.val + 1)))) 4 = (ws.getD j {}).data.toNat ∧
        t.tagOf (c.phys (moveBy p (-4 * (j.val + 1)))) = (ws.getD j {}).tag) ∧ t.byte b = z.byte b) ∧
  (∀ (k : Bool) (s z : State) (c : CoreState) (gt : Fin 16) (x : Word) (mask : Fin 32768) (p : Word) (ws : List TWord) (b : Nat),
  s.begins k = some z → z.core k = c → c.quiet = true → c.reg 15 = ⟨.ptr, p⟩ → offOf p % 4 = 0 → c.reg gt = ⟨.code, x⟩ →
  c.access x 4 8 = [] → ws = c.callWords mask → 4 * ws.length ≤ offOf p → ∀ j : Fin 17, j < ws.length →
  c.canStore z (moveBy p (-4 * (j.val + 1))) 4 = true ∧ c.policy (moveBy p (-4 * (j.val + 1))) = 0 →
  Poison.wf z.poison = true → ∀ j : Fin 17, j < ws.length → (b < c.phys (moveBy p (-4 * (j.val + 1))) ∨
  c.phys (moveBy p (-4 * (j.val + 1))) + 4 ≤ b) →
      completes (.call k gt mask) s fun t => t.core k = { c.setReg 15 ⟨.ptr, moveBy p (-4 * ws.length)⟩ with pc := x } ∧
        (∀ j : Fin 17, j < ws.length → t.num (c.phys (moveBy p (-4 * (j.val + 1)))) 4 = (ws.getD j {}).data.toNat ∧
        t.tagOf (c.phys (moveBy p (-4 * (j.val + 1)))) = (ws.getD j {}).tag) ∧ t.byte b = z.byte b) ∧
  (∀ (k : Bool) (s z : State) (c : CoreState) (mask : Fin 32768) (p : Word) (ws : List TWord) (parity : List Nat),
  s.begins k = some z → z.core k = c → c.quiet = true → c.reg 15 = ⟨.ptr, p⟩ → offOf p % 4 = 0 →
  ws.length = (maskRegs mask).length → offOf p + 4 * ws.length ≤ 2 ^ 28 → c.g.length = 16 → parity = [] → ∀ j : Fin 17,
  j < ws.length → c.canLoad z (moveBy p (4 * j.val)) 4 = true ∧ loadedTag z c (moveBy p (4 * j.val)) = (ws.getD j {}).tag ∧
  z.num (c.phys (moveBy p (4 * j.val))) 4 = (ws.getD j {}).data.toNat →
      completes (.popm k mask parity) s fun t => (∀ j : Fin 15, (t.core k).reg j = c.popped mask ws j) ∧
        (t.core k).reg 15 = ⟨.ptr, moveBy p (4 * ws.length)⟩ ∧
        t.core k = { c with g := (t.core k).g, pc := moveBy c.pc 4 } ∧ t = z.setCore k (t.core k)) ∧
  (∀ (k : Bool) (s z : State) (c : CoreState) (mask : Fin 32768) (p x : Word) (ws : List TWord) (parity : List Nat),
  s.begins k = some z → z.core k = c → c.quiet = true → c.reg 15 = ⟨.ptr, p⟩ → offOf p % 4 = 0 →
  ws.length = (maskRegs mask).length + 2 → offOf p + 4 * ws.length ≤ 2 ^ 28 → c.g.length = 16 → parity = [] →
  ws.getD 0 {} = ⟨.handle, BitVec.ofNat 32 (0xCA110000 + mask)⟩ → ws.getD (ws.length - 1) {} = ⟨.code, x⟩ → ∀ j : Fin 17,
  j < ws.length → c.canLoad z (moveBy p (4 * j.val)) 4 = true ∧ loadedTag z c (moveBy p (4 * j.val)) = (ws.getD j {}).tag ∧
  z.num (c.phys (moveBy p (4 * j.val))) 4 = (ws.getD j {}).data.toNat →
      completes (.ret k parity) s fun t => (∀ j : Fin 15, (t.core k).reg j = c.popped mask (ws.drop 1) j) ∧
        (t.core k).reg 15 = ⟨.ptr, moveBy p (4 * ws.length)⟩ ∧ t.core k = { c with g := (t.core k).g, pc := x } ∧
        t = z.setCore k (t.core k))

/-- Branches, jumps, traps, WAIT, FENCE, ERET and the interrupt enable of a core (R284, R286, R290, R292, R447,
11_sloe_core_isa.md) -/
def Obligations.CoreControlFlow : Prop :=
  (∀ (k : Bool) (s z : State) (c : CoreState) (off : Fin 67108864), s.begins k = some z → z.core k = c → c.quiet = true →
      (exec (.br k off) s = .next (z.setCore k { c with pc := moveBy c.pc (4 * signed 26 off) }))) ∧
  (∀ (k : Bool) (s z : State) (c : CoreState) (ga : Fin 16) (off : Fin 4194304) (a : Word), s.begins k = some z →
  z.core k = c → c.quiet = true → c.reg ga = ⟨.bool, a⟩ →
      (exec (.bt k ga off) s = .next (z.setCore k { c with pc := if a = 1#32 then moveBy c.pc (4 * signed 22 off) else moveBy c.pc 4 }) ∧
       exec (.bf k ga off) s = .next (z.setCore k { c with pc := if a = 0#32 then moveBy c.pc (4 * signed 22 off) else moveBy c.pc 4 }))) ∧
  (∀ (k : Bool) (s z : State) (c : CoreState) (ga : Fin 16) (a : Word), s.begins k = some z → z.core k = c → c.quiet = true →
  c.reg ga = ⟨.code, a⟩ → c.access a 4 8 = [] →
      (exec (.jmp k ga) s = .next (z.setCore k { c with pc := a }))) ∧
  (∀ (k : Bool) (s z : State) (c : CoreState) (arg : Fin 256) (v : Word), s.begins k = some z → z.core k = c → c.quiet = true →
  bit c.st 2 = false → z.vectorWord k 10 = some v →
      (exec (.trap k arg) s = .next (z.setCore k (c.entered (moveBy c.pc 4) 10 arg v)))) ∧
  (∀ (k : Bool) (s z : State) (c : CoreState) (v : Word), s.begins k = some z → z.core k = c → c.quiet = true →
  bit c.st 2 = false → z.vectorWord k 11 = some v → c.debugs k = false →
      (exec (.bkpt k) s = .next (z.setCore k (c.entered (moveBy c.pc 4) 11 0 v)))) ∧
  (∀ (k : Bool) (s z : State) (c : CoreState) (v : Word), s.begins k = some z → z.core k = c → c.quiet = true →
  bit c.st 2 = false → z.vectorWord k 1 = some v →
      (exec (.illegal k) s = .next (z.setCore k (c.entered c.pc 1 0 v)))) ∧
  (∀ (k : Bool) (s z : State) (c : CoreState) (v : Word), s.begins k = some z → z.core k = c → c.quiet = true →
  bit c.st 2 = false → z.vectorWord k 2 = some v → c.system = false →
      (exec (.eret k) s = .next (z.setCore k (c.entered c.pc 2 0 v)) ∧
       exec (.iena k) s = .next (z.setCore k (c.entered c.pc 2 0 v)) ∧
       exec (.idis k) s = .next (z.setCore k (c.entered c.pc 2 0 v)))) ∧
  (∀ (k : Bool) (s z : State) (c : CoreState), s.begins k = some z → z.core k = c → c.quiet = true →
  Nat.land c.ipend c.ien ≠ 0 →
      (exec (.wait k) s = .next (z.setCore k { c with pc := moveBy c.pc 4 }))) ∧
  (∀ (k : Bool) (s z : State) (c : CoreState), s.begins k = some z → z.core k = c → c.quiet = true →
  Nat.land c.ipend c.ien = 0 → z.get PRC_CTRL_DOZE_EN = 0 →
      (exec (.wait k) s = .next (z.setCore k { { c with run := .waiting } with pc := moveBy c.pc 4 }))) ∧
  (∀ (s z : State) (c : CoreState), s.begins false = some z → z.core0 = c → c.quiet = true → Nat.land c.ipend c.ien = 0 →
  z.get PRC_CTRL_DOZE_EN = 1 → z.core1.run = .stopped ∨ z.core1.run = .waiting → z.power.state = .run →
      (exec (.wait false) s = .next ({ z with core0 := { c with run := .waiting, pc := moveBy c.pc 4 }, power := { z.power with state := .doze } }))) ∧
  (∀ (k : Bool) (s z : State) (c : CoreState), s.begins k = some z → z.core k = c → c.quiet = true →
      (exec (.fence k) s = .next (z.setCore k { c with pc := moveBy c.pc 4 }))) ∧
  (∀ (k : Bool) (s z : State) (c : CoreState), s.begins k = some z → z.core k = c → c.quiet = true → c.system = true →
      (exec (.iena k) s = .next (z.setCore k { { c with st := setBit c.st 1 } with pc := moveBy c.pc 4 }) ∧
       exec (.idis k) s = .next (z.setCore k { { c with st := clearBit c.st 1 } with pc := moveBy c.pc 4 }))) ∧
  (∀ (k : Bool) (s z : State) (c : CoreState) (a : Word), s.begins k = some z → z.core k = c → c.quiet = true →
  c.system = true → c.epc = ⟨.code, a⟩ → c.est < 256 →
      (exec (.eret k) s = .next (z.setCore k { { c with st := c.est } with pc := a })))

/-- MFS and MTS read and write the system registers of a core, SEGW and SEGR its segment descriptors (R277, R280, R284, R288,
R289, 11_sloe_core_isa.md) -/
def Obligations.CoreSystemRegisters : Prop :=
  (∀ (k : Bool) (s z : State) (c : CoreState) (gd : Fin 16), s.begins k = some z → z.core k = c → c.quiet = true →
      (exec (.mfs k gd 0) s = .next (z.stepTo k (c.setReg gd ⟨.int, BitVec.ofNat 32 (c.st)⟩)) ∧
       exec (.mfs k gd 6) s = .next (z.stepTo k (c.setReg gd ⟨.int, BitVec.ofNat 32 (ofBool k)⟩)) ∧
       exec (.mfs k gd 8) s = .next (z.stepTo k (c.setReg gd ⟨.int, c.cycleH⟩)))) ∧
  (∀ (k : Bool) (s z : State) (c : CoreState) (gd : Fin 16), s.begins k = some z → z.core k = c → c.quiet = true →
  c.system = true →
      (exec (.mfs k gd 1) s = .next (z.stepTo k (c.setReg gd c.epc)) ∧
       exec (.mfs k gd 2) s = .next (z.stepTo k (c.setReg gd ⟨.int, BitVec.ofNat 32 (c.est)⟩)) ∧
       exec (.mfs k gd 3) s = .next (z.stepTo k (c.setReg gd ⟨.int, BitVec.ofNat 32 (c.ecause)⟩)) ∧
       exec (.mfs k gd 4) s = .next (z.stepTo k (c.setReg gd ⟨.int, BitVec.ofNat 32 (c.eaddr)⟩)) ∧
       exec (.mfs k gd 5) s = .next (z.stepTo k (c.setReg gd c.vtab)) ∧
       exec (.mfs k gd 9) s = .next (z.stepTo k (c.setReg gd (c.scratch.getD 0 {}))) ∧
       exec (.mfs k gd 10) s = .next (z.stepTo k (c.setReg gd (c.scratch.getD 1 {}))) ∧
       exec (.mfs k gd 38) s = .next (z.stepTo k (c.setReg gd ⟨.int, BitVec.ofNat 32 (c.dctrl)⟩)) ∧
       exec (.mfs k gd 39) s = .next (z.stepTo k (c.setReg gd ⟨.int, BitVec.ofNat 32 (c.dstat)⟩)))) ∧
  (∀ (k : Bool) (s z : State) (c : CoreState) (gd : Fin 16), s.begins k = some z → z.core k = c → c.quiet = true →
      completes (.mfs k gd 7) s fun t => ((t.core k).reg gd).tag = (if gd.val < c.g.length then .int else .empty) ∧
        t.core k = { c with g := (t.core k).g, cycleH := (t.core k).cycleH, pc := moveBy c.pc 4 }) ∧
  (∀ (k : Bool) (s z : State) (c : CoreState) (gd : Fin 16) (j : Fin 4) (arg : Fin 256), s.begins k = some z → z.core k = c →
  c.quiet = true → c.system = true → arg.val = 0x10 + j.val →
      (exec (.mfs k gd arg) s = .next (z.stepTo k (c.setReg gd ⟨.int, BitVec.ofNat 32 (slice c.ien (32 * j.val) 32)⟩)))) ∧
  (∀ (k : Bool) (s z : State) (c : CoreState) (gd : Fin 16) (j : Fin 4) (arg : Fin 256), s.begins k = some z → z.core k = c →
  c.quiet = true → c.system = true → arg.val = 0x14 + j.val →
      (exec (.mfs k gd arg) s = .next (z.stepTo k (c.setReg gd ⟨.int, BitVec.ofNat 32 (slice c.ipend (32 * j.val) 32)⟩)))) ∧
  (∀ (k : Bool) (s z : State) (c : CoreState) (gd : Fin 16) (j : Fin 8) (arg : Fin 256), s.begins k = some z → z.core k = c →
  c.quiet = true → c.system = true → arg.val = 0x18 + j.val →
      (exec (.mfs k gd arg) s = .next (z.stepTo k (c.setReg gd ⟨.int, BitVec.ofNat 32 (slice c.iprio (32 * j.val) 32)⟩)))) ∧
  (∀ (k : Bool) (s z : State) (c : CoreState) (gd : Fin 16) (j : Fin 4) (arg : Fin 256), s.begins k = some z → z.core k = c →
  c.quiet = true → c.system = true → arg.val = 0x20 + j.val →
      (exec (.mfs k gd arg) s = .next (z.stepTo k (c.setReg gd (c.bp.getD j.val {}))))) ∧
  (∀ (k : Bool) (s z : State) (c : CoreState) (gd : Fin 16) (j : Fin 2) (arg : Fin 256), s.begins k = some z → z.core k = c →
  c.quiet = true → c.system = true → arg.val = 0x24 + j.val →
      (exec (.mfs k gd arg) s = .next (z.stepTo k (c.setReg gd (c.wp.getD j.val {}))))) ∧
  (∀ (k : Bool) (s z : State) (c : CoreState) (gd : Fin 16) (j : Fin 24) (arg : Fin 256), s.begins k = some z → z.core k = c →
  c.quiet = true → c.system = true → arg.val = 0x40 + j.val →
      (exec (.mfs k gd arg) s = .next (z.stepTo k (c.setReg gd ⟨.int, BitVec.ofNat 32 ([(z.core1.gw.getD (j.val / 3) (0, 0,
        0)).1, (z.core1.gw.getD (j.val / 3) (0, 0, 0)).2.1, (z.core1.gw.getD (j.val / 3) (0, 0,
        0)).2.2].getD (j.val % 3) 0)⟩)))) ∧
  (∀ (k : Bool) (s z : State) (c : CoreState) (gd : Fin 16) (arg : Fin 256), s.begins k = some z → z.core k = c →
  c.quiet = true → c.system = true → (0xA < arg.val ∧ arg.val < 0x10) ∨ (0x27 < arg.val ∧ arg.val < 0x40) ∨ 0x59 < arg.val →
      (exec (.mfs k gd arg) s = .next (z.stepTo k (c.setReg gd ⟨.int, 0#32⟩)))) ∧
  (∀ (k : Bool) (s z : State) (c : CoreState) (ga : Fin 16) (a : Word) (t : Tag), s.begins k = some z → z.core k = c →
  c.quiet = true → c.system = true → c.reg ga = ⟨t, a⟩ → t = .int ∨ t = .raw →
      (exec (.mts k ga 0) s = .next (z.stepTo k { c with st := (if a.toNat / 2 ^ 16 % 4 = 3 then a.toNat % 256 + 2 ^ 16 * (c.st / 2 ^ 16 % 4) + 2 ^ 18 * (a.toNat / 2 ^ 18 % 16) else a.toNat % 256 + 2 ^ 16 * (a.toNat / 2 ^ 16 % 64)) }) ∧
       exec (.mts k ga 3) s = .next (z.stepTo k c) ∧
       exec (.mts k ga 4) s = .next (z.stepTo k c) ∧
       exec (.mts k ga 38) s = .next (z.stepTo k { c with dctrl := a.toNat % 2 ^ 10, halted := if bit a.toNat 10 then false else c.halted }))) ∧
  (∀ (k : Bool) (s z : State) (c : CoreState) (ga : Fin 16) (a : Word), s.begins k = some z → z.core k = c → c.quiet = true →
  c.system = true → c.reg ga = ⟨.code, a⟩ →
      (exec (.mts k ga 1) s = .next (z.stepTo k { c with epc := ⟨.code, a⟩ }))) ∧
  (∀ (k : Bool) (s z : State) (c : CoreState) (ga : Fin 16) (a : Word), s.begins k = some z → z.core k = c → c.quiet = true →
  c.system = true → c.reg ga = ⟨.ptr, a⟩ →
      (exec (.mts k ga 5) s = .next (z.stepTo k { c with vtab := ⟨.ptr, a⟩ }))) ∧
  (∀ (k : Bool) (s z : State) (c : CoreState) (ga : Fin 16) (x : TWord), s.begins k = some z → z.core k = c → c.quiet = true →
  c.system = true → c.reg ga = x →
      (exec (.mts k ga 9) s = .next (z.stepTo k { c with scratch := c.scratch.set 0 x }) ∧
       exec (.mts k ga 10) s = .next (z.stepTo k { c with scratch := c.scratch.set 1 x }))) ∧
  (∀ (k : Bool) (s z : State) (c : CoreState) (ga : Fin 16) (a : Word) (j : Fin 4) (arg : Fin 256), s.begins k = some z →
  z.core k = c → c.quiet = true → c.system = true → c.reg ga = ⟨.int, a⟩ → arg.val = 0x10 + j.val →
      (exec (.mts k ga arg) s = .next (z.stepTo k { c with ien := splice c.ien (32 * j.val) 32 a.toNat }))) ∧
  (∀ (k : Bool) (s z : State) (c : CoreState) (ga : Fin 16) (a : Word) (j : Fin 4) (arg : Fin 256), s.begins k = some z →
  z.core k = c → c.quiet = true → c.system = true → c.reg ga = ⟨.int, a⟩ → arg.val = 0x14 + j.val →
      (exec (.mts k ga arg) s = .next (z.stepTo k { c with ipend := splice c.ipend (32 * j.val) 32 (slice c.ipend (32 * j.val) 32 - Nat.land (slice c.ipend (32 * j.val) 32) a.toNat) }))) ∧
  (∀ (k : Bool) (s z : State) (c : CoreState) (ga : Fin 16) (a : Word) (j : Fin 8) (arg : Fin 256), s.begins k = some z →
  z.core k = c → c.quiet = true → c.system = true → c.reg ga = ⟨.int, a⟩ → arg.val = 0x18 + j.val →
      (exec (.mts k ga arg) s = .next (z.stepTo k { c with iprio := splice c.iprio (32 * j.val) 32 a.toNat }))) ∧
  (∀ (k : Bool) (s z : State) (c : CoreState) (ga : Fin 16) (a : Word) (j : Fin 4) (arg : Fin 256), s.begins k = some z →
  z.core k = c → c.quiet = true → c.system = true → c.reg ga = ⟨.code, a⟩ → arg.val = 0x20 + j.val →
      (exec (.mts k ga arg) s = .next (z.stepTo k { c with bp := c.bp.set j ⟨.code, a⟩ }))) ∧
  (∀ (k : Bool) (s z : State) (c : CoreState) (ga : Fin 16) (a : Word) (j : Fin 2) (arg : Fin 256), s.begins k = some z →
  z.core k = c → c.quiet = true → c.system = true → c.reg ga = ⟨.ptr, a⟩ → arg.val = 0x24 + j.val →
      (exec (.mts k ga arg) s = .next (z.stepTo k { c with wp := c.wp.set j ⟨.ptr, a⟩ }))) ∧
  (∀ (k : Bool) (s z : State) (c : CoreState) (gd ga : Fin 16) (a : Word) (j : Fin 24) (arg : Fin 256), s.begins k = some z →
  z.core k = c → c.quiet = true → c.system = true → k = false → c.reg ga = ⟨.int, a⟩ → arg.val = 0x40 + j.val →
      (exec (.mts k ga arg) s = .next ((z.windowReg j.val a.toNat).stepTo k c) ∧
       exec (.mfs k gd 0x58) s = .next (z.stepTo k (c.setReg gd ⟨.int, BitVec.ofNat 32 z.core1.ctrl⟩)) ∧
       exec (.mfs k gd 0x59) s = .next (z.stepTo k (c.setReg gd z.core1.entry)))) ∧
  (∀ (k : Bool) (s z : State) (c : CoreState) (ga : Fin 16) (a : Word), s.begins k = some z → z.core k = c → c.quiet = true →
  c.system = true → k = false → c.reg ga = ⟨.code, a⟩ →
      (exec (.mts k ga 0x59) s = .next (({ z with core1 := { z.core1 with entry := ⟨.code, a⟩ } } : State).stepTo k c))) ∧
  (∀ (k : Bool) (s z : State) (c : CoreState) (gd ga gb seg : Fin 16) (base lim attr : Word), s.begins k = some z →
  z.core k = c → c.quiet = true → c.system = true → c.reg ga = ⟨.int, base⟩ → c.reg gb = ⟨.int, lim⟩ → c.reg gd = ⟨.int,
  attr⟩ → attr.toNat < 128 → slice attr.toNat 5 2 ≠ 3 → lim.toNat < 2 ^ 28 → base.toNat + lim.toNat < 2 ^ 32 →
  slice attr.toNat 5 2 = 0 → inSys base.toNat = true ∧ inSys (base.toNat + lim.toNat) = true → k = true →
  z.core1.granted ⟨base.toNat, lim.toNat, attr.toNat⟩ = true →
      (exec (.segw k gd ga gb seg) s = .next (z.stepTo k { c with segs := c.segs.set seg ⟨base.toNat, lim.toNat, attr.toNat⟩ }))) ∧
  (∀ (k : Bool) (s z : State) (c : CoreState) (gd seg : Fin 16), s.begins k = some z → z.core k = c → c.quiet = true →
  c.system = true →
      (exec (.segr k gd seg 0) s = .next (z.stepTo k (c.setReg gd ⟨.int, BitVec.ofNat 32 (c.segs.getD seg {}).base⟩)) ∧
       exec (.segr k gd seg 1) s = .next (z.stepTo k (c.setReg gd ⟨.int, BitVec.ofNat 32 (c.segs.getD seg {}).limit⟩)) ∧
       exec (.segr k gd seg 2) s = .next (z.stepTo k (c.setReg gd ⟨.int, BitVec.ofNat 32 (c.segs.getD seg {}).attr⟩))))

/-- Interrupt entry, imprecise errors, the wake from WAIT, debug halt and resume, and the start and stop of core 1 (R285,
R289, R292, R294, R295, R296, R298, R299, 11_sloe_core_isa.md) -/
def Obligations.CoreInterruptsDebugAndStart : Prop :=
  (∀ (k : Bool) (s : State) (c : CoreState) (n : Fin 128) (v : Word), s.issues k = true → s.core k = c →
  bit c.dctrl 9 = false → c.storeErr = none → c.eligible n = true → ∀ m : Fin 128, c.eligible m = true →
  (c.linePrio m < c.linePrio n ∨ (c.linePrio m = c.linePrio n ∧ n.val ≤ m.val)) → s.vectorWord k (16 + n.val) = some v →
      completes (.interruptEntry k) s fun t => t = s.setCore k { (({ c with ipend := clearBit c.ipend n } : CoreState).entered c.pc (0x10 + 256 * n.val) 0 v) with st := splice (setBit (clearBit (setBit c.st 0) 1) 2) 3 2 (c.linePrio n) }) ∧
  (∀ (k : Bool) (s : State) (c : CoreState) (a : Nat) (v : Word), s.issues k = true → s.core k = c → bit c.dctrl 9 = false →
  c.storeErr = some a → s.vectorWord k 9 = some v →
      completes (.impreciseBusError k) s fun t => t = s.setCore k (({ c with storeErr := none } : CoreState).entered c.pc (9 + 2 ^ 31) a v)) ∧
  (∀ (k : Bool) (s : State) (c : CoreState), s.core k = c → c.run = .waiting → c.halted = false → Nat.land c.ipend c.ien ≠ 0 →
  c.bestLine = none → bit c.dctrl 9 = false → c.storeErr = none →
      completes (.waitWake k) s fun t => t.core k = { c with run := .running }) ∧
  (∀ (k : Bool) (s : State) (c : CoreState), s.core k = c → c.run = .running ∨ c.run = .waiting → c.halted = false →
  bit c.dctrl 9 = true →
      completes (.debugHalt k .boundary) s fun t => (t.core k).halted = true ∧ (t.core k).run = .running ∧
        (t.core k).g = c.g ∧ (t.core k).pc = c.pc ∧ t.event 13 = true) ∧
  (∀ (s : State) (n : Fin 16), s.core1.halted = true → bit s.core1.dctrl 0 = true →
      completes (.debugHalt true (.readG n)) s fun t => t = { s with host := { s.host with readData := (s.core1.reg n).data.toNat } }) ∧
  (∀ (k : Bool) (s : State) (c : CoreState), s.core k = c →
  exec (.debugResume k) s = .next (s.setCore k { c with halted := false })) ∧
  (∀ (s : State) (a : Word) (j : Fin 16), s.core1.run = .stopped → s.core1.entry = ⟨.code, a⟩ →
      completes (.core1Run) s fun t => t.core1.run = .running ∧ t.core1.pc = a ∧ t.core1.system = true ∧
        t.core1.reg j = {} ∧ t.core1.gw = s.core1.gw ∧ (2 ≤ j.val → t.core1.segs.getD j {} = {}) ∧
        t = { s with core1 := t.core1 }) ∧
  (∀ (s : State), s.core1.run = .running ∨ s.core1.run = .waiting →
      completes (.core1Stop) s fun t => t = { s with core1 := { s.core1 with run := .stopped, ctrl := 2 } }) ∧
  (∀ (s : State) (reg : Fin 24) (value : Word) (j : Fin 16) (d : Desc), s.core1.gw.length = 8 → s.core1.segs.length = 16 →
  s.core1.segs.getD j {} = d →
      completes (.grantWindowWrite reg value) s fun t => t.core1.gw.getD (reg.val / 3) (0, 0,
        0) = (if reg.val % 3 = 0 then (value.toNat, (s.core1.gw.getD (reg.val / 3) (0, 0,
        0)).2) else if reg.val % 3 = 1 then ((s.core1.gw.getD (reg.val / 3) (0, 0, 0)).1, value.toNat,
        (s.core1.gw.getD (reg.val / 3) (0, 0, 0)).2.2) else ((s.core1.gw.getD (reg.val / 3) (0, 0, 0)).1,
        (s.core1.gw.getD (reg.val / 3) (0, 0, 0)).2.1, value.toNat % 16)) ∧
        t.core1.segs.getD j {} = (if bit d.attr 0 = true ∧
        t.core1.granted d = false then { d with attr := d.attr - 1 } else d) ∧
        t = { s with core1 := { s.core1 with gw := t.core1.gw, segs := t.core1.segs } }) ∧
  (∀ (s : State), s.core1.checker = true → s.core1.run = .running → s.faults.fatals = 0 →
      completes (.checkerMismatch) s fun t => t.power.resetReq.contains 0x4D = true ∧ t.event 10 = true ∧
        t.faults.fatals = 1)

/-- MPY, MAC, MSU, FADDS, FSUBS, FMULR and the accumulator operations with their rounding and saturation (R301, R302, R303,
R304, R311, 12_sloe_signal_extension.md) -/
def Obligations.CoreMultiplyAccumulate : Prop :=
  (∀ (k : Bool) (s z : State) (c : CoreState) (an : Fin 4) (ga gb : Fin 16) (a b : Word) (m r : Int), s.begins k = some z →
  z.core k = c → c.quiet = true → c.reg ga = ⟨.frac, a⟩ → c.reg gb = ⟨.frac, b⟩ → bit c.st 19 = false →
  c.acc.getD an 0 = m → roundedTo (c.st / 2 ^ 16 % 4) (a.toInt * b.toInt) r 31 = true →
      (exec (.mpy k an ga gb) s = .next (z.stepTo k (c.accumulated an r)) ∧
       exec (.mac k an ga gb) s = .next (z.stepTo k (c.accumulated an (m + r))) ∧
       exec (.msu k an ga gb) s = .next (z.stepTo k (c.accumulated an (m - r))))) ∧
  (∀ (k : Bool) (s z : State) (c : CoreState) (gd ga gb : Fin 16) (a b : Word), s.begins k = some z → z.core k = c →
  c.quiet = true → c.reg ga = ⟨.frac, a⟩ → c.reg gb = ⟨.frac, b⟩ → bit c.st 19 = false →
      (exec (.fadds k gd ga gb) s = .next (z.stepTo k (c.fraction gd (a.toInt + b.toInt))) ∧
       exec (.fsubs k gd ga gb) s = .next (z.stepTo k (c.fraction gd (a.toInt - b.toInt))))) ∧
  (∀ (k : Bool) (s z : State) (c : CoreState) (gd ga gb : Fin 16) (a b : Word) (r : Int), s.begins k = some z → z.core k = c →
  c.quiet = true → c.reg ga = ⟨.frac, a⟩ → c.reg gb = ⟨.frac, b⟩ → bit c.st 19 = false →
  roundedTo (c.st / 2 ^ 16 % 4) (a.toInt * b.toInt) r 31 = true →
      (exec (.fmulr k gd ga gb) s = .next (z.stepTo k (c.fraction gd r)))) ∧
  (∀ (k : Bool) (s z : State) (c : CoreState) (an am : Fin 4) (a m : Int) (j : Fin 32), s.begins k = some z → z.core k = c →
  c.quiet = true → bit c.st 19 = false → c.acc.getD an 0 = a → c.acc.getD am 0 = m →
      (exec (.amov k an am) s = .next (z.stepTo k (c.accumulated an m)) ∧
       exec (.aadd k an am) s = .next (z.stepTo k (c.accumulated an (a + m))) ∧
       exec (.asub k an am) s = .next (z.stepTo k (c.accumulated an (a - m))) ∧
       exec (.aneg k an am) s = .next (z.stepTo k (c.accumulated an (-m))) ∧
       exec (.aabs k an am) s = .next (z.stepTo k (c.accumulated an m.natAbs)) ∧
       exec (.ashl k an am j) s = .next (z.stepTo k (c.accumulated an (m * 2 ^ j.val))))) ∧
  (∀ (k : Bool) (s z : State) (c : CoreState) (an am : Fin 4) (gd : Fin 16) (m r : Int) (j : Fin 32), s.begins k = some z →
  z.core k = c → c.quiet = true → bit c.st 19 = false → c.acc.getD am 0 = m → roundedTo (c.st / 2 ^ 16 % 4) m r j = true →
      (exec (.ashr k an am j) s = .next (z.stepTo k (c.accumulated an r)) ∧
       exec (.mvaf k gd am j) s = .next (z.stepTo k (c.fraction gd r)))) ∧
  (∀ (k : Bool) (s z : State) (c : CoreState) (an am : Fin 4) (gd : Fin 16), s.begins k = some z → z.core k = c →
  c.quiet = true →
      (exec (.aclr k an) s = .next (z.stepTo k { c with acc := c.acc.set an 0 }) ∧
       exec (.mvah k gd am) s = .next (z.stepTo k (c.setReg gd ⟨.int, BitVec.ofInt 32 (c.acc.getD am 0 / 2 ^ 32)⟩)) ∧
       exec (.mval k gd am) s = .next (z.stepTo k (c.setReg gd ⟨.raw, BitVec.ofInt 32 (c.acc.getD am 0)⟩)))) ∧
  (∀ (k : Bool) (s z : State) (c : CoreState) (arg : Fin 32) (n : Nat), s.begins k = some z → z.core k = c → c.quiet = true →
  arg.val % 4 ≠ 3 → n = c.st % 2 ^ 16 + 2 ^ 16 * (arg.val % 16) + 2 ^ 20 * (c.st / 2 ^ 20) →
      (exec (.sxset k arg) s = .next (z.stepTo k { c with st := if arg.val < 16 then n else n - 2 ^ 20 * (c.st / 2 ^ 20 % 4) }))) ∧
  (∀ (k : Bool) (s z : State) (c : CoreState) (an : Fin 4) (ga : Fin 16) (a : Word), s.begins k = some z → z.core k = c →
  c.quiet = true → c.reg ga = ⟨.frac, a⟩ →
      (exec (.mvfa k an ga) s = .next (z.stepTo k { c with acc := c.acc.set an a.toInt }))) ∧
  (∀ (k : Bool) (s z : State) (c : CoreState) (an : Fin 4) (ga gb : Fin 16) (a b : Word) (t : Tag), s.begins k = some z →
  z.core k = c → c.quiet = true → c.reg ga = ⟨.int, a⟩ → c.reg gb = ⟨t, b⟩ → t = .int ∨ t = .raw →
      (exec (.mvga k an ga gb) s = .next (z.stepTo k { c with acc := c.acc.set an ((a.setWidth 8 ++ b : BitVec 40).toInt) })))

/-- TAP multiplies two words of memory into an accumulator and moves its pointers; REP, ENDREP, RSAVE and RREST (R302, R305,
R306, R307, R308, R309, 12_sloe_signal_extension.md) -/
def Obligations.CoreTapsAndRepeats : Prop :=
  (∀ (k : Bool) (s z : State) (c : CoreState) (an : Fin 4) (gx gy : Fin 16) (xmod ymod : Fin 5) (p q : Word) (h x : Word) (r : Int) (neg : Bool),
  s.begins k = some z → z.core k = c → c.quiet = true → c.reg gx = ⟨.ptr, p⟩ → c.reg gy = ⟨.ptr, q⟩ → gx ≠ gy →
  bit c.st 19 = false → c.canLoad z p 4 = true → c.canLoad z q 4 = true → x = BitVec.ofNat 32 (z.num (c.phys p) 4) →
  h = BitVec.ofNat 32 (z.num (c.phys q) 4) → loadedTag z c p = .frac ∨ loadedTag z c p = .raw → loadedTag z c q = .frac ∨
  loadedTag z c q = .raw → roundedTo (c.st / 2 ^ 16 % 4) (x.toInt * h.toInt) r 31 = true → c.moves p xmod = true →
  c.moves q ymod = true →
      completes (.tap k an gx gy xmod ymod neg false 0 0) s fun t => t = z.stepTo k ((((c.accumulated an (c.acc.getD an 0 + (if neg = true then -r else r))).setReg gx ⟨.ptr,
        c.after p xmod⟩).setReg gy ⟨.ptr, c.after q ymod⟩))) ∧
  (∀ (k : Bool) (s z : State) (c : CoreState) (len : Fin 32) (n : Fin 65536), s.begins k = some z → z.core k = c →
  c.quiet = true → len.val ≠ 0 → n.val ≠ 0 →
      (exec (.rep k len (.imm n)) s = .next (z.stepTo k { c with reps := [⟨moveBy c.pc 4, moveBy c.pc (4 * (len.val + 1)), n, false⟩] }))) ∧
  (∀ (k : Bool) (s z : State) (c : CoreState) (len : Fin 32) (ga : Fin 16) (a : Word), s.begins k = some z → z.core k = c →
  c.quiet = true → len.val ≠ 0 → c.reg ga = ⟨.int, a⟩ →
      (exec (.rep k len (.reg ga)) s = .next (if a.toNat = 0 then z.setCore k { c with pc := moveBy c.pc (4 * (len.val + 2)) } else z.stepTo k { c with reps := [⟨moveBy c.pc 4, moveBy c.pc (4 * (len.val + 1)), a.toNat, false⟩] }))) ∧
  (∀ (k : Bool) (s z : State) (c : CoreState) (e : RepEntry), s.begins k = some z → z.core k = c → c.reps = [e] →
  e.stop = c.pc → slice c.dctrl 5 4 = 0 → bit c.st 7 = false → 1 < e.count → e.start ≠ c.pc →
      completes (.endrep k) s fun t => t = z.setCore k { c with reps := [{ e with count := e.count - 1, issued := true }], pc := e.start }) ∧
  (∀ (k : Bool) (s z : State) (c : CoreState) (e : RepEntry), s.begins k = some z → z.core k = c → c.reps = [e] →
  e.stop = c.pc → slice c.dctrl 5 4 = 0 → bit c.st 7 = false → e.count ≤ 1 →
      completes (.endrep k) s fun t => t = z.setCore k { c with reps := [], pc := moveBy e.stop 4 }) ∧
  (∀ (k : Bool) (s z : State) (c : CoreState) (ga : Fin 16) (p : Word) (j : Fin 12) (b : Nat), s.begins k = some z →
  z.core k = c → c.quiet = true → c.reg ga = ⟨.ptr, p⟩ → offOf p + 52 ≤ 2 ^ 28 → ∀ i : Fin 13,
  c.canStore z (moveBy p (4 * i.val)) 4 = true → c.policy p = 0 → Poison.wf z.poison = true → ∀ i : Fin 13,
  b < c.phys (moveBy p (4 * i.val)) ∨ c.phys (moveBy p (4 * i.val)) + 4 ≤ b →
      completes (.rsave k ga) s fun t => t.num (c.phys p) 4 = 0 ∧ t.tagOf (c.phys p) = .int ∧
        t.tagOf (c.phys (moveBy p (4 * (j.val + 1)))) = .empty ∧ t.num (c.phys (moveBy p (4 * (j.val + 1)))) 4 = 0 ∧
        t.byte b = z.byte b ∧ t.core k = { c with reps := [], pc := moveBy c.pc 4 }) ∧
  (∀ (k : Bool) (s z : State) (c : CoreState) (ga : Fin 16) (p lo hi n : Word), s.begins k = some z → z.core k = c →
  c.quiet = true → c.reg ga = ⟨.ptr, p⟩ → offOf p + 52 ≤ 2 ^ 28 → ∀ i : Fin 13,
  c.canLoad z (moveBy p (4 * i.val)) 4 = true → loadedTag z c p = .int → z.num (c.phys p) 4 = 1 →
  loadedTag z c (moveBy p 4) = .code → loadedTag z c (moveBy p 8) = .code → loadedTag z c (moveBy p 12) = .int →
  z.num (c.phys (moveBy p 4)) 4 = lo.toNat → z.num (c.phys (moveBy p 8)) 4 = hi.toNat →
  z.num (c.phys (moveBy p 12)) 4 = n.toNat →
      completes (.rrest k ga []) s fun t => t = z.stepTo k { c with reps := [⟨lo, hi, n.toNat, false⟩] })

/-- The patrol checks one word of each SRAM and poisons a failing one; FLIP_ARM arms in Test mode only (R316, R317, R319,
R325, 13_memories_error_codes.md) -/
def Obligations.PatrolPoisonsAndFlipsArm : Prop :=
  (∀ (s : State), s.get MEM_CTRL_SCRUB_EN ≠ 0 →
      completes (.patrolRead 0 0) s fun t => t = { s with memctl := { s.memctl with patrolSys := if s.memctl.patrolSys + 4 < 0x20200000 then s.memctl.patrolSys + 4 else 0x20000000, patrolPkt := if s.memctl.patrolPkt + 4 < 0x24090000 then s.memctl.patrolPkt + 4 else 0x24000000 } }) ∧
  (∀ (s : State) (a : Nat) (m : Fin 32), s.get MEM_CTRL_SCRUB_EN ≠ 0 → s.memctl.patrolSys = a → inSys a = true → a % 4 = 0 →
  s.poisoned a = false → m ≠ 0 →
      completes (.patrolRead m 0) s fun t => t.poisoned a = true ∧ t.num a 4 = 0 ∧ t.tagOf a = .empty ∧ t.event 109 = true ∧
        t.get MEM_STATUS_SCRUB_FOUND = satInc MEM_STATUS_SCRUB_FOUND.width (s.get MEM_STATUS_SCRUB_FOUND) % 2 ^ MEM_STATUS_SCRUB_FOUND.width) ∧
  (∀ (s : State) (m : Fin 32) (n : Fin 16), s.get MEM_CTRL_SCRUB_EN = 0 → exec (.patrolRead m n) s = .next (s)) ∧
  (∀ (s : State), s.mode = modeTest → exec (.flipArm) s = .next ((s.put MEM_FLIPCFG_ARM 1).put MEM_FLIPCFG_USED 0)) ∧
  (∀ (s : State), s.mode ≠ modeTest → exec (.flipArm) s = .next (s))

/-- The fault collector logs a report by its class, closes sources, pops entries and injects in Test mode (R329, R330, R331,
R332, R334, 13_memories_error_codes.md) -/
def Obligations.FaultCollectorReports : Prop :=
  (∀ (s : State) (q : Fin 4) (src : Fin 64) (a : Word) (d : Fin 256), s.faults.entries.length < 16 →
      completes (.faultReport q src a d) s fun t => t.faults.entries.length = s.faults.entries.length + 1 ∧
        (t.faults.entries.getLast?.map fun e => (e.src, e.addr, e.detail)) = some (src.val, a.toNat, d.val) ∧
        (t.faults.entries.getLast?.map fun e => e.cls) = some (if q = 2 ∧
        bit s.faults.openMask src = true then 3 else q.val) ∧ (q = 1 → t.event 8 = true) ∧ (q = 2 →
        bit s.faults.openMask src = false → bit t.faults.openMask src = true ∧ t.event 9 = true) ∧ (q = 3 →
        s.faults.fatals = 0 → t.event 10 = true ∧ t.power.resetReq = s.power.resetReq) ∧ (q = 3 → s.faults.fatals ≠ 0 →
        t.power.resetReq.contains 0x0B = true ∧ t.faults.doubled = true)) ∧
  (∀ (s : State) (src : Fin 256) (en fatal : Bool),
      completes (.faultClose src en fatal) s fun t => t.faults.entries = s.faults.entries.map (fun (e : FaultEntry) => if (en = true ∧
        e.cls = 2 ∧ e.src = src.val) ∨ (fatal = true ∧ e.cls = 3) then { e with isOpen := false } else e) ∧
        t.faults.openMask = (if en = true then clearBit s.faults.openMask src else s.faults.openMask) ∧
        t.faults.fatals = (if fatal = true then 0 else s.faults.fatals) ∧ t = { s with faults := t.faults }) ∧
  (∀ (s : State) (e : FaultEntry) (es : List FaultEntry), s.faults.entries = e :: es → e.isOpen = false →
      completes (.faultPop) s fun t => t.faults.entries = es ∧ t.get ERR_STATUS_POP_REJ = 0 ∧
        t = { s with faults := t.faults, fields := t.fields }) ∧
  (∀ (s : State) (e : FaultEntry) (es : List FaultEntry), s.faults.entries = e :: es → e.isOpen = true →
  exec (.faultPop) s = .next (s.put ERR_STATUS_POP_REJ 1)) ∧
  (∀ (s : State) (q : Fin 4), s.mode = modeTest → s.faults.entries.length < 16 →
      completes (.faultInject q) s fun t => (t.faults.entries.getLast?.map fun e => (e.src, e.addr, e.detail)) = some (0x20,
        0, 0) ∧ (q.val < 2 → (t.faults.entries.getLast?.map fun e => e.cls) = some q.val)) ∧
  (∀ (s : State) (q : Fin 4), s.mode ≠ modeTest → exec (.faultInject q) s = .next (s))

/-- A flash descriptor that passes its checks starts on the bank of its address (R320, R324, R343, R344, R345, R350, R351,
14_flash_controller.md) -/
def Obligations.FlashDescriptorsStart : Prop :=
  (∀ (s : State) (tg : Fin 65536) (fa bf : Word) (c1 rom : Bool) (d : FlashDesc), s.flashFree rom = true →
  d = { op := 1, tag := tg, faddr := fa.toNat, buf := bf.toNat, core1 := c1 } → s.flashCheck d = none →
      completes (.readPage tg fa bf false c1 rom) s fun t => ((t.bank (s.descBank d)).run.map fun r => (r.desc, r.result,
        r.bits, r.value)) = some (d, (s.readPage (physPage (s.flashPhys d.faddr))).result,
        (s.readPage (physPage (s.flashPhys d.faddr))).bits, 0) ∧
        ((t.bank (s.descBank d)).run.map fun r => r.status) = some (some (if (s.readPage (physPage (s.flashPhys d.faddr))).result = 3 then 5 else 0)) ∧
        ((s.readPage (physPage (s.flashPhys d.faddr))).result ≠ 3 →
        ((t.bank (s.descBank d)).run.map fun r => r.data) = some (s.readPage (physPage (s.flashPhys d.faddr))).data)) ∧
  (∀ (s : State) (tg : Fin 65536) (fa bf : Word) (c1 rom : Bool) (d : FlashDesc), s.flashFree rom = true →
  d = { op := 2, tag := tg, faddr := fa.toNat, buf := bf.toNat, core1 := c1 } → s.flashCheck d = none →
  s.poisonedIn d.buf 2048 = false → s.get MEM_FLIPCFG_ARM = 0 →
      completes (.programPage tg fa bf c1 rom) s fun t => ((t.bank (s.descBank d)).run.map fun r => (r.desc, r.status,
        r.data)) = some (d, none, encodePage (s.strengthAt d.faddr) (s.bytes d.buf 2048) []) ∧
        t.get (FLC_BANK_STAT_OP (s.descBank d)) = 1 ∧ t.get (FLC_BANK_STAT_STATE (s.descBank d)) = 1 ∧
        t.get (FLC_BANK_STAT_BLOCK (s.descBank d)) = pageBlock (physPage (s.flashPhys d.faddr))) ∧
  (∀ (s : State) (tg : Fin 65536) (fa : Word) (c1 rom : Bool) (d : FlashDesc) (n : Nat), s.flashFree rom = true →
  d = { op := 3, tag := tg, faddr := fa.toNat, core1 := c1 } → s.flashCheck d = none → 2 ≤ s.get (jnlFree (s.descBank d)) →
  n = min (s.get (ecnt (s.descBank d) (pageBlock (physPage (s.flashPhys d.faddr)))) + 1) 0xFFFFFFFF →
      completes (.eraseBlock tg fa c1 rom) s fun t => ((t.bank (s.descBank d)).run.map fun r => (r.desc, r.status,
        r.value)) = some (d, none, n) ∧ t.get (ecnt (s.descBank d) (pageBlock (physPage (s.flashPhys d.faddr)))) = n ∧
        t.get (FLC_BANK_STAT_OP (s.descBank d)) = 2 ∧ t.get (FLC_BANK_STAT_STATE (s.descBank d)) = 1 ∧
        t.get (FLC_BANK_STAT_BLOCK (s.descBank d)) = pageBlock (physPage (s.flashPhys d.faddr))) ∧
  (∀ (s : State) (tg : Fin 65536) (fa : Word) (c1 rom : Bool) (d : FlashDesc), s.flashFree rom = true →
  d = { op := 4, tag := tg, faddr := fa.toNat, core1 := c1 } → s.flashCheck d = none →
      completes (.readCounter tg fa c1 rom) s fun t => ((t.bank (s.descBank d)).run.map fun r => (r.desc, r.status,
        r.value)) = some (d, some 0, s.get (ecnt (s.descBank d) (pageBlock (physPage (s.flashPhys d.faddr)))))) ∧
  (∀ (s : State) (tg : Fin 65536) (fa : Word) (c1 rom : Bool) (d : FlashDesc) (n : Nat), s.flashFree rom = true →
  d = { op := 4, tag := tg, faddr := fa.toNat, core1 := c1 } → s.flashCheck d = some n →
      completes (.readCounter tg fa c1 rom) s fun t => ((t.bank (s.descBank d)).run.map fun r => (r.desc, r.status,
        r.value)) = some (d, some n, 0)) ∧
  (∀ (s : State) (tg : Fin 65536) (fa : Word) (c1 rom : Bool), s.get FLC_OWNER_ROM_OWN = 0 ∨ rom = true →
  16 ≤ s.flash.queue.length →
      completes (.eraseBlock tg fa c1 rom) s fun t => t = s.put FLC_STATUS_PUSH_REJ 1)

/-- Pulses, suspension, resumption, starvation, the merge buffer and page misses of the flash controller (R325, R326, R327,
R340, R341, R344, R346, R348, R351, 14_flash_controller.md) -/
def Obligations.FlashOperationsRunAndSuspend : Prop :=
  (∀ (s : State) (b : Bool) (k : Nat) (r : FlashRun) (complete : Bool) (n : Nat), k = ofBool b → (s.bank k).run = some r →
  r.status = none → s.get (FLC_BANK_STAT_STATE k) = 1 → s.get (FLC_BANK_STAT_OP k) = 1 ∨ s.get (FLC_BANK_STAT_OP k) = 2 →
  n = s.get (FLC_BANK_STAT_PULSES k) + 1 → n < 256 →
      completes (.flashPulseEnd b complete) s fun t => t.get (FLC_BANK_STAT_PULSES k) = n ∧
        (t.bank k).run = some { r with status := if complete = true then some 0 else if s.get (FLC_BANK_STAT_OP k) = 1 ∧ 12 ≤ n then some 7 else if 80 ≤ n then some 8 else none }) ∧
  (∀ (s : State) (tg : Fin 65536) (fa : Word) (c1 rom : Bool) (d : FlashDesc), d.op = 5 → (s.get FLC_OWNER_ROM_OWN = 0 ∨
  rom = true) → s.flash.queue.length < 16 → s.flash.done.length < 16 → d.tag = tg.val ∧ d.faddr = fa.toNat ∧ d.core1 = c1 →
  s.flashCheck d = none → (s.bank (s.descBank d)).run.isSome = true → s.get (FLC_BANK_STAT_STATE (s.descBank d)) = 1 →
  d = { op := 5, tag := tg, faddr := fa.toNat, core1 := c1 } →
      completes (.flashSuspend tg fa c1 rom) s fun t => t.get (FLC_BANK_STAT_STATE (s.descBank d)) = 3 ∧
        t.get (FLC_BANK_STAT_SUSPENDS (s.descBank d)) = satInc 13 (s.get (FLC_BANK_STAT_SUSPENDS (s.descBank d))) % 8192 ∧
        t.flash.done.length = s.flash.done.length + 1 ∧ t.event 104 = true) ∧
  (∀ (s : State) (tg : Fin 65536) (fa : Word) (c1 rom : Bool) (d : FlashDesc),
  d = { op := 6, tag := tg, faddr := fa.toNat, core1 := c1 } → (s.get FLC_OWNER_ROM_OWN = 0 ∨ rom = true) →
  s.flash.queue.length < 16 → s.flash.done.length < 16 → d.tag = tg.val ∧ d.faddr = fa.toNat ∧ d.core1 = c1 →
  s.flashCheck d = none → (s.bank (s.descBank d)).run.isSome = true → s.get (FLC_BANK_STAT_STATE (s.descBank d)) = 2 ∨
  s.get (FLC_BANK_STAT_STATE (s.descBank d)) = 3 →
      completes (.resumeFlash tg fa c1 rom) s fun t => t.get (FLC_BANK_STAT_STATE (s.descBank d)) = 1 ∧
        t.flash.done.length = s.flash.done.length + 1 ∧ t.event 104 = true) ∧
  (∀ (s : State) (b : Bool), s.get (FLC_BANK_STAT_STATE (ofBool b)) = 2 →
  exec (.autoResume b) s = .next (s.put (FLC_BANK_STAT_STATE (ofBool b)) 1)) ∧
  (∀ (s : State) (b : Bool) (k : Nat), k = ofBool b → s.get (FLC_BANK_STAT_OP k) ≠ 0 → s.get (FLC_BANK_STAT_STARVED k) = 0 →
  s.get FLC_CTRL_STARVE_N ≤ s.get (FLC_BANK_STAT_SUSPENDS k) →
      completes (.eraseStarve b) s fun t => t.get (FLC_BANK_STAT_STARVED k) = 1 ∧ t.event 106 = true) ∧
  (∀ (s : State),
      completes (.mergeFlush) s fun t => t.flash.merge.map (fun (e : MergeEntry) => (e.slot, e.page, e.image,
        e.flushing)) = s.flash.merge.map fun (e : MergeEntry) => (e.slot, e.page, e.image, true)) ∧
  (∀ (s : State),
      completes (.mergeIdleFlush) s fun t => t.flash.merge.map (fun (e : MergeEntry) => (e.slot, e.page, e.image,
        e.flushing)) = s.flash.merge.map fun (e : MergeEntry) => (e.slot, e.page, e.image, true)) ∧
  (∀ (s : State) (tg : Fin 65536) (c1 rom : Bool), s.get FLC_OWNER_ROM_OWN = 0 ∨ rom = true → s.flash.queue = [] →
  s.flash.done.length < 16 → s.flash.mergeRun = none →
      completes (.flushMerge tg c1 rom) s fun t => (t.flash.mergeRun.map fun r => (r.desc, r.status,
        r.pages)) = some ({ op := 7, tag := tg, core1 := c1 }, none, s.flash.merge.map fun (e : MergeEntry) => e.page) ∧
        t.flash.merge.map (fun (e : MergeEntry) => (e.slot, e.page, e.image,
        e.flushing)) = s.flash.merge.map fun (e : MergeEntry) => (e.slot, e.page, e.image, true)) ∧
  (∀ (s : State) (addr : Word) (p : Nat), inFlash addr.toNat = true → s.mergeAt addr.toNat = none →
  p = physPage (s.flashPhys addr.toNat) → s.inOperation p = false → s.suspect (pageBank p) (pageBlock p) = false →
  ((s.bank (pageBank p)).bufs.any fun b => b.page == p) = false → s.get (FLC_BANK_STAT_STATE (pageBank p)) ≠ 1 →
      completes (.flashPageMiss addr) s fun t => ((t.bank (pageBank p)).bufs.head?.map fun b => (b.page, b.data,
        b.poisoned)) = some (p, (s.readPage p).data, (s.readPage p).result == 3))

/-- A flash descriptor that has ended completes with its record, and a read or an erase has its effect (R339, R341, R342,
R344, R346, R351, 14_flash_controller.md) -/
def Obligations.FlashDescriptorsComplete : Prop :=
  (∀ (s : State) (b : Bool) (k : Nat) (r : FlashRun) (st : Nat) (i : Fin 2048) (who : Fin 3), who.val = k → k = ofBool b →
  (s.bank k).run = some r → r.status = some st → (s.bank k).side = none → r.desc.op = 1 → r.desc.merge = false → st = 0 →
  inSys r.desc.buf = true → inSys (r.desc.buf + 2047) = true → r.desc.buf % 4 = 0 → r.data.length = 2048 →
  Poison.wf s.poison = true → s.get (jnlHalf 0) ≤ 1 → s.get (jnlHalf 1) ≤ 1 →
      completes (.flashDone who) s fun t => (t.flash.done.getLast?.map fun x => (leAt x 0 1, leAt x 3 1,
        leAt x 4 2)) = some (st % 256, r.desc.op, r.desc.tag % 65536) ∧ t.event 104 = true ∧ (st ≠ 0 → st ≠ 9 →
        t.event 105 = true) ∧ t.byte (r.desc.buf + i) = r.data.getD i 0) ∧
  (∀ (s : State) (b : Bool) (k : Nat) (r : FlashRun) (st : Nat) (a p : Nat) (who : Fin 3), who.val = k → k = ofBool b →
  (s.bank k).run = some r → r.status = some st → (s.bank k).side = none → r.desc.op = 3 → r.desc.merge = false → st = 0 →
  s.get (FLC_BANK_STAT_OP k) = 2 → p = physPage (s.flashPhys r.desc.faddr) → pageBlock p < 63 →
  0x08000000 + 0x400000 * k + 65536 * pageBlock p ≤ a → a < 0x08000000 + 0x400000 * k + 65536 * (pageBlock p + 1) →
  s.get (jnlHalf 0) ≤ 1 → s.get (jnlHalf 1) ≤ 1 →
      completes (.flashDone who) s fun t => (t.flash.done.getLast?.map fun x => (leAt x 0 1, leAt x 3 1,
        leAt x 4 2)) = some (st % 256, r.desc.op, r.desc.tag % 65536) ∧ t.event 104 = true ∧ (st ≠ 0 → st ≠ 9 →
        t.event 105 = true) ∧ t.byte a = 0xFF) ∧
  (∀ (s : State) (b : Bool) (k : Nat) (r : FlashRun) (st : Nat) (i : Fin 2048) (p : Nat) (who : Fin 3), who.val = k →
  k = ofBool b → (s.bank k).run = some r → r.status = some st → (s.bank k).side = none → r.desc.op = 2 →
  r.desc.merge = false → st = 0 → s.get (FLC_BANK_STAT_OP k) = 1 → p = physPage (s.flashPhys r.desc.faddr) →
  r.data.length = 2112 → pageBlock p < 63 → s.get (jnlHalf 0) ≤ 1 → s.get (jnlHalf 1) ≤ 1 →
      completes (.flashDone who) s fun t => (t.flash.done.getLast?.map fun x => (leAt x 0 1, leAt x 3 1,
        leAt x 4 2)) = some (st % 256, r.desc.op, r.desc.tag % 65536) ∧ t.event 104 = true ∧ (st ≠ 0 → st ≠ 9 →
        t.event 105 = true) ∧ t.byte (0x08000000 + 2048 * p + i) = s.byte (0x08000000 + 2048 * p + i) &&& r.data.getD i 0) ∧
  (∀ (s : State) (r : FlashRun), s.flash.mergeRun = some r → r.status = none → s.flash.merge = [] → r.desc.op = 7 →
      completes (.flashDone 2) s fun t => (t.flash.done.getLast?.map fun x => (leAt x 0 1, leAt x 3 1,
        leAt x 4 2)) = some (0, 7, r.desc.tag % 65536) ∧ t.event 104 = true) ∧
  (∀ (s : State), s.flash.queue.all (fun d => d.op != 5 && d.op != 6) = true →
      completes (.flashDonePop) s fun t => t.flash.done = s.flash.done.drop 1) ∧
  (∀ (s : State) (swap : Bool), s.flashIdle = true ∨ s.get FLC_OWNER_ROM_OWN ≠ 0 →
  exec (.flashOwnerWrite true swap true) s = .next ((s.put FLC_OWNER_SWAP (ofBool swap)).put FLC_OWNER_ROM_OWN 1)) ∧
  (∀ (s : State) (swap : Bool),
      completes (.flashOwnerWrite false swap true) s fun t => t.get FLC_OWNER_SWAP = ofBool swap ∧
        t.get FLC_OWNER_ROM_OWN = 0 ∧ (s.get FLC_OWNER_ROM_OWN ≠ 0 → s.anySuspect = true → t.event 107 = true)) ∧
  (∀ (s : State) (own swap : Bool), s.get FLC_OWNER_ROM_OWN = 0 → exec (.flashOwnerWrite own swap false) s = .next (s))

/-- READ, READ_SEG, WRITE, WRITE_SEG and INFO of dictionary objects and their answers (R360, R366, R368, R369, R370, R371,
R372, R373, 15_host_dictionary.md) -/
def Obligations.ObjectRequestsAreServed : Prop :=
  (∀ (s z : State) (m : HostId) (ti : Fin 65536) (env : HostEnv) (index : Fin 65536) (sub : Fin 256) (key : Nat) (u : State) (v : List Byte),
  s.serves m env = true → s.admitted env.load = z → key = 256 * index.val + sub.val → index.val < 0xC000 ∨
  0xD000 ≤ index.val → (z.objRead key).1 = .ok → (z.objRead key).2.1 = v → (z.objRead key).2.2 = u → v.length ≤ maxSeg m →
  (z.dropSnapshot m key).host.snapshots.length < 4 →
      completes (.odpRead m ti index sub env) s fun t => u.told t m 1 ti .ok ([0] ++ leBytes 1 (((findObj key).map fun (r : ObjRow × Nat) => r.1.type.code).getD 0) ++ [0,
        0] ++ leBytes 4 v.length ++ v) = true) ∧
  (∀ (s z : State) (m : HostId) (ti : Fin 65536) (env : HostEnv) (index : Fin 65536) (sub : Fin 256) (key : Nat) (u : State) (v : List Byte),
  s.serves m env = true → s.admitted env.load = z → key = 256 * index.val + sub.val → index.val < 0xC000 ∨
  0xD000 ≤ index.val → (z.objRead key).1 = .ok → (z.objRead key).2.1 = v → (z.objRead key).2.2 = u → maxSeg m < v.length →
  (z.dropSnapshot m key).host.snapshots.length < 4 →
      completes (.odpRead m ti index sub env) s fun t => u.told t m 1 ti .ok ([0] ++ leBytes 1 (((findObj key).map fun (r : ObjRow × Nat) => r.1.type.code).getD 0) ++ [1,
        0] ++ leBytes 4 v.length ++ v.take (maxSeg m)) = true ∧ t.host.snapshots.getLast? = some ⟨m, key, v⟩) ∧
  (∀ (s z : State) (m : HostId) (ti : Fin 65536) (env : HostEnv) (index : Fin 65536) (sub : Fin 256) (key : Nat) (x : Snapshot) (off : Word),
  s.serves m env = true → s.admitted env.load = z → key = 256 * index.val + sub.val → index.val < 0xC000 ∨
  0xD000 ≤ index.val → (z.host.snapshots.find? fun y => decide (y.who = m) && y.key == key) = some x →
  off.toNat < x.data.length →
      completes (.odpReadSeg m ti index sub off env) s fun t => z.told t m 3 ti .ok ([0] ++ leBytes 1 (((findObj key).map fun (r : ObjRow × Nat) => r.1.type.code).getD 0) ++ leBytes 1 (ofBool (decide (off.toNat + maxSeg m < x.data.length))) ++ [0] ++ leBytes 4 x.data.length ++ (x.data.drop off.toNat).take (maxSeg m)) = true ∧
        t.host.snapshots.any (fun y => decide (y.who = m) && y.key == key) = decide (off.toNat + maxSeg m < x.data.length)) ∧
  (∀ (s z : State) (m : HostId) (ti : Fin 65536) (env : HostEnv) (index : Fin 65536) (sub : Fin 256) (key : Nat) (u : State) (v : List Byte) (st : OdpStatus),
  s.serves m env = true → s.admitted env.load = z → key = 256 * index.val + sub.val → index.val < 0xC000 ∨
  0xD000 ≤ index.val → v.length ≤ maxSeg m → (z.objWrite key v (z.owns m) z.ownerFree env.dict).1 = st →
  (z.objWrite key v (z.owns m) z.ownerFree env.dict).2 = u → st ≠ .busy →
      completes (.odpWrite m ti index sub v env) s fun t => u.told t m 2 ti st (leBytes 1 st.code ++ [0, 0, 0]) = true) ∧
  (∀ (s z : State) (m : HostId) (ti : Fin 65536) (env : HostEnv) (index : Fin 65536) (sub : Fin 256) (key : Nat) (v : List Byte) (n : Word),
  s.serves m env = true → s.admitted env.load = z → key = 256 * index.val + sub.val → index.val < 0xC000 ∨
  0xD000 ≤ index.val → ((findObj key).any fun (r : ObjRow × Nat) => decide (n.toNat ≤ r.1.sizes.2)) = true →
  v.length ≤ n.toNat → v.length ≤ maxSeg m →
      completes (.odpWriteSeg m ti index sub 1 0 n v env) s fun t => t.host.stagings.getLast? = some ⟨m, key, n.toNat, v,
        (0, v.length)⟩ ∧ t.host.result = .ok ∧ t.host.output = [0, 0, 0, 0]) ∧
  (∀ (s z : State) (m : HostId) (ti : Fin 65536) (env : HostEnv) (index : Fin 65536) (sub : Fin 256) (key : Nat) (u : State) (v w : List Byte) (n off : Word) (g : Staging) (st : OdpStatus),
  s.serves m env = true → s.admitted env.load = z → key = 256 * index.val + sub.val → index.val < 0xC000 ∨
  0xD000 ≤ index.val → (findObj key).isSome = true →
  (z.host.stagings.find? fun y => decide (y.who = m) && y.key == key) = some g → g.total = n.toNat →
  off.toNat = g.data.length → v.length ≤ maxSeg m → w = g.data ++ v → w.length = n.toNat →
  ((z.dropStaging m key).objWrite key w (z.owns m) z.ownerFree env.dict).1 = st →
  ((z.dropStaging m key).objWrite key w (z.owns m) z.ownerFree env.dict).2 = u → st ≠ .busy →
      completes (.odpWriteSeg m ti index sub 2 off n v env) s fun t => u.told t m 4 ti st (leBytes 1 st.code ++ [0, 0,
        0]) = true) ∧
  (∀ (s z : State) (m : HostId) (ti : Fin 65536) (env : HostEnv) (index : Fin 65536) (sub : Fin 256) (key : Nat),
  s.serves m env = true → s.admitted env.load = z → key = 256 * index.val + sub.val → index.val < 0xC000 ∨
  0xD000 ≤ index.val → (findObj key).isSome = true →
      completes (.odpInfo m ti index sub env) s fun t => z.told t m 5 ti .ok (((findObj key).map fun (r : ObjRow × Nat) => [0] ++ leBytes 1 r.1.type.code ++ leBytes 1 r.1.access.code ++ leBytes 1 (ofBool r.1.persist) ++ leBytes 4 r.1.sizes.2).getD []) = true) ∧
  (∀ (s z : State) (m : HostId) (ti : Fin 65536) (env : HostEnv) (index : Fin 65536) (sub : Fin 256) (key : Nat),
  s.serves m env = true → s.admitted env.load = z → key = 256 * index.val + sub.val → index.val < 0xC000 ∨
  0xD000 ≤ index.val → (findObj key).isNone = true →
      completes (.odpInfo m ti index sub env) s fun t => z.told t m 5 ti .noObject [2, 0, 0, 0] = true) ∧
  (∀ (s z : State) (m : HostId) (ti : Fin 65536) (env : HostEnv) (v : Nat), s.serves m env = true → s.admitted env.load = z →
  s.owns m = true → v < 65536 → env.dict.storeFail = false →
      completes (.odpWrite m ti 0x1024 0 (leBytes 2 v) env) s fun t => t.host.result = (if 100 ≤ v ∧
        v ≤ 10000 then .ok else .range) ∧ ((100 ≤ v ∧ v ≤ 10000) → (t.objRead 0x102400).2.1 = leBytes 2 v) ∧ (v < 100 ∨
        10000 < v → t.objs = s.objs))

/-- CLAIM, KEEPALIVE, RELEASE, HANDOVER and OWNER, and the election, loss and handover in time (R366, R368, R370, R375,
15_host_dictionary.md) -/
def Obligations.OwnershipElection : Prop :=
  (∀ (s z : State) (m : HostId) (ti : Fin 65536) (env : HostEnv) (pr : Fin 256) (nn : Word), s.serves m env = true →
  s.admitted env.load = z → s.host.owner = .free →
      completes (.odpClaim m ti pr nn env) s fun t => t = z.setOwnership (.claiming { who := m, prio := pr.val, nonce := nn.toNat, tid := ti.val })) ∧
  (∀ (s z : State) (m : HostId) (ti : Fin 65536) (env : HostEnv) (pr : Fin 256) (nn : Word) (c : Claim),
  s.serves m env = true → s.admitted env.load = z → s.host.owner = .claiming c → c.who ≠ m →
      completes (.odpClaim m ti pr nn env) s fun t => t.host.owner = (if pr.val < c.prio ∨ (pr.val = c.prio ∧
        nn.toNat < c.nonce) then .claiming { who := m, prio := pr.val, nonce := nn.toNat, tid := ti.val } else .claiming c) ∧
        z.told t (if pr.val < c.prio ∨ (pr.val = c.prio ∧ nn.toNat < c.nonce) then c.who else m) 16 (if pr.val < c.prio ∨
        (pr.val = c.prio ∧ nn.toNat < c.nonce) then c.tid else ti.val) .claimLost [11, 0, 0, 0] = true) ∧
  (∀ (s z : State) (m : HostId) (ti : Fin 65536) (env : HostEnv) (pr : Fin 256) (nn : Word) (c : Claim),
  s.serves m env = true → s.admitted env.load = z → s.host.owner = .owned c → c.who ≠ m →
      completes (.odpClaim m ti pr nn env) s fun t => t.host.owner = .owned c ∧ z.told t m 16 ti .claimLost [11, 0, 0,
        0] = true) ∧
  (∀ (s z : State) (m : HostId) (ti : Fin 65536) (env : HostEnv) (pr : Fin 256) (nn : Word) (c : Claim) (n : Nat) (next : HostId),
  s.serves m env = true → s.admitted env.load = z → s.host.owner = .handover c next n →
      completes (.odpClaim m ti pr nn env) s fun t => t.host.owner = (if m = next ∧
        nn.toNat = n then .owned { who := m, prio := pr.val, nonce := nn.toNat, tid := ti.val } else .handover c next n) ∧
        t.host.result = (if m = next ∧ nn.toNat = n then .ok else .notSuccessor) ∧ (m = next → nn.toNat = n →
        t.event 112 = true)) ∧
  (∀ (s : State) (c : Claim), s.host.owner = .claiming c →
      completes (.claimWindowClose) s fun t => t.host.owner = .owned c ∧ t.host.alive = s.clock ∧ t.event 112 = true ∧
        (s.hostStart).told t c.who 16 c.tid .ok [0, 0, 0, 0] = true) ∧
  (∀ (s z : State) (m : HostId) (ti : Fin 65536) (env : HostEnv) (nn : Word), s.serves m env = true → s.admitted env.load = z →
      completes (.odpKeepalive m ti nn env) s fun t => z.told t m 17 ti (if s.isOwner m nn.toNat = true then .ok else .access) [if s.isOwner m nn.toNat = true then 0 else 3,
        0, 0, 0] = true ∧ (s.isOwner m nn.toNat = true → t.host.alive = s.clock) ∧ t.host.owner = s.host.owner) ∧
  (∀ (s z : State) (m : HostId) (ti : Fin 65536) (env : HostEnv) (nn : Word), s.serves m env = true → s.admitted env.load = z →
  s.isOwner m nn.toNat = true → s.boot.upd.state ≠ 1 → s.boot.upd.state ≠ 2 →
      completes (.odpRelease m ti nn env) s fun t => t.host.owner = .free ∧ t.event 112 = true ∧ z.told t m 18 ti .ok [0, 0,
        0, 0] = true ∧ ((∀ x ∈ s.host.stagings, x.who = m) → t.host.stagings = [])) ∧
  (∀ (s z : State) (m : HostId) (ti : Fin 65536) (env : HostEnv) (nn : Word), s.serves m env = true → s.admitted env.load = z →
  s.isOwner m nn.toNat = false →
      completes (.odpRelease m ti nn env) s fun t => t.host.owner = s.host.owner ∧ z.told t m 18 ti .access [3, 0, 0,
        0] = true) ∧
  (∀ (s z : State) (m : HostId) (ti : Fin 65536) (env : HostEnv) (nn sn : Word) (next : HostId) (c : Claim),
  s.serves m env = true → s.admitted env.load = z → s.isOwner m nn.toNat = true → s.host.owner.owner? = some c →
  next.transport ≤ 4 → next.addr < 2 ^ 64 →
      completes (.odpHandover m ti nn next sn env) s fun t => t.host.owner = .handover c next sn.toNat ∧
        z.told t m 19 ti .ok [0, 0, 0, 0] = true) ∧
  (∀ (s z : State) (m : HostId) (ti : Fin 65536) (env : HostEnv), s.serves m env = true → s.admitted env.load = z →
      completes (.odpOwner m ti env) s fun t => z.told t m 20 ti .ok z.ownerBody = true ∧ t.host.owner = s.host.owner) ∧
  (∀ (s : State), s.host.owner.owner?.isSome = true → s.boot.upd.state ≠ 1 → s.boot.upd.state ≠ 2 →
      completes (.ownerLost) s fun t => t.host.owner = .free ∧ t.event 113 = true ∧ t.event 112 = true) ∧
  (∀ (s : State) (c : Claim) (next : HostId) (n : Nat), s.host.owner = .handover c next n →
  exec (.handoverTimeout) s = .next ({ s with host := { s.host with owner := .owned c } }))

/-- A request in a frame of its transport is served as the request itself; link and bus events (R358, R359, R360, R361, R362,
R363, R364, 15_host_dictionary.md) -/
def Obligations.HostTransportsFrameRequests : Prop :=
  (∀ (s : State) (env : HostEnv) (opc : Fin 256) (ti : Fin 65536) (p data : List Byte), s.portLive 3 = true →
  p.length < 65536 → uartPlain data = some (odpFrame opc ti p) →
      completes (.uartFrame data env) s fun t => t = s.odpFrom { transport := 3 } opc ti p env) ∧
  (∀ (s : State) (env : HostEnv) (data f : List Byte), s.portLive 3 = true → uartPlain data = some f → 8 ≤ f.length →
  f.length = odpLength f → odpSound f = false →
      completes (.uartFrame data env) s fun t => t = s.hostStart.bump HDP_CNT0_CRC_ERR) ∧
  (∀ (s : State) (ip : Word) (src dst : Fin 65536) (env : HostEnv) (opc : Fin 256) (ti : Fin 65536) (p : List Byte),
  s.portLive 2 = true → p.length < 65536 → dst.val = s.get HDP_UDPPORT_ODP_PORT →
      completes (.udpDatagram ip src dst (odpFrame opc ti p) env) s fun t => t = s.odpFrom { transport := 2, addr := ip.toNat + src.val * 2 ^ 32 } opc ti p env) ∧
  (∀ (s : State) (n : Fin 16) (env : HostEnv) (opc : Fin 256) (ti : Fin 65536) (p d : List Byte) (x : CanPart),
  s.portLive 1 = true → s.get HDP_STATUS_CAN_STATE ≠ 2 → s.get HDP_CANCFG_FD_EN ≠ 0 → p.length < 65536 → s.canPart n = x →
  x.next ≠ 0 → d.length ≤ 63 → x.bytes ++ d = odpFrame opc ti p →
      completes (.canSegment n (BitVec.ofNat 8 (64 + x.next % 64) :: d) env) s fun t => t = ((s.hostStart.setCanPart n ⟨0,
        []⟩).bump HDP_CNT0_ACCEPTED).odpRequest { transport := 1, addr := n } opc ti p (odpFrame opc ti p) env) ∧
  (∀ (s : State) (n : Fin 16) (env : HostEnv) (d : List Byte), s.portLive 1 = true → s.get HDP_STATUS_CAN_STATE ≠ 2 →
  d.length ≤ 7 ∨ (s.get HDP_CANCFG_FD_EN ≠ 0 ∧ d.length ≤ 63) → (s.canPart n).next = 0 → (s.canPart n).bytes = [] →
      completes (.canSegment n (0x80 :: d) env) s fun t => t.canPart n = ⟨1, d⟩) ∧
  (∀ (s : State) (env : HostEnv) (opc : Fin 256) (ti : Fin 65536) (p : List Byte) (u v : State), s.portLive 0 = true →
  p.length ≤ 1400 → s.host.dictIn = [] → u = s.hostStart →
  v = (({ u with host := { u.host with dictOut := u.host.dictOut.drop (min (min 4096 u.host.dictOut.length) (8 + p.length)), lastDiscard := false } } : State).bump HDP_CNT0_ACCEPTED).odpRequest { transport := 0 } opc ti p (odpFrame opc ti p) env →
      completes (.spiTransaction ([0xA5,
        0] ++ leBytes 2 (8 + p.length) ++ odpFrame opc ti p) false true env) s fun t => t = { v with host := { v.host with output := t.host.output } }) ∧
  (∀ (s : State) (n : Nat), s.portLive 0 = true → s.host.dictIn = [] → s.host.dictOut.length ≤ 4096 →
      completes (.spiTransaction ([0xA5, 0, 0,
        0] ++ List.replicate n 0) false true {}) s fun t => t.host.output.length = n + 4 ∧ t.host.output.head? = some 0x5A ∧
        leAt t.host.output 2 2 = s.host.dictOut.length ∧
        (t.host.output.drop 4).take (min n s.host.dictOut.length) = s.host.dictOut.take n ∧
        t.host.dictOut = s.host.dictOut.drop n) ∧
  (∀ (s : State), s.portLive 1 = true →
      completes (.canBusoff) s fun t => t.get HDP_STATUS_CAN_STATE = 2 ∧ t.event 117 = true) ∧
  (∀ (s : State), s.get HDP_STATUS_CAN_STATE = 2 → exec (.busOffRecovery) s = .next (s.put HDP_STATUS_CAN_STATE 0)) ∧
  (∀ (s : State) (link m100 fdx : Bool), s.portLive 2 = true →
      completes (.ethLink link m100 fdx) s fun t => t.get HDP_STATUS_ETH_LINK = ofBool link ∧
        t.get HDP_STATUS_ETH_100 = ofBool (link && m100) ∧ t.get HDP_STATUS_ETH_FDX = ofBool (link && fdx) ∧
        (s.get HDP_STATUS_ETH_LINK = 0 → link = true → t.event 116 = true)) ∧
  (∀ (s : State) (mac : Nat) (ip dst : Word), s.portLive 2 = true → dst.toNat = s.get HDP_IPADDR_ADDR →
      completes (.arpRequest mac ip dst) s fun t => t.host.sent.map (fun x => (x.1, x.2.length,
        x.2.take 8)) = [({ transport := 2, addr := ip.toNat }, 28, [0, 1, 8, 0, 6, 4, 0, 2])] ∧
        t.host.sent.map (fun x => (x.2.drop 8).take 10) = [s.ethMac ++ (leBytes 4 dst.toNat).reverse]) ∧
  (∀ (s : State) (ip : Word) (a b c d : Byte) (rest : List Byte), s.portLive 2 = true →
      completes (.icmpEchoRequest ip ([8, 0, a, b] ++ [c,
        d] ++ (0 :: 1 :: rest))) s fun t => t.host.sent.map (fun x => (x.1, x.2.take 2,
        x.2.drop 4)) = [({ transport := 2, addr := ip.toNat }, [0, 0], [c, d] ++ (0 :: 1 :: rest))]) ∧
  (∀ (s : State) (env : HostEnv) (data : List Byte), s.portLive 3 = false → s.power.state = .run →
  exec (.uartFrame data env) s = .next (s.hostStart))

/-- The mailbox of core 1, the load levels, the timeouts of segments, and the frame data plane (R365, R366, R371, R372, R374,
R376, R377, R378, R379, 15_host_dictionary.md) -/
def Obligations.HostMailboxAndPlane : Prop :=
  (∀ (s : State) (a : AppRequest) (rest : List AppRequest) (base : Nat), s.host.apps = a :: rest → s.host.asked = false →
  s.mailbox = some base → a.frame.length ≤ 2040 → s.poison = [] →
      completes (.objectRequest) s fun t => t.host.asked = true ∧ t.event 126 = true ∧ t.num base 2 = a.frame.length ∧
        t.num (base + 2) 2 = 1 ∧ t.bytes (base + 8) a.frame.length = a.frame) ∧
  (∀ (s : State) (a : AppRequest) (rest : List AppRequest) (base n : Nat) (f : List Byte), s.host.apps = a :: rest →
  s.host.asked = true → s.mailbox = some base → s.num (base + 2048) 2 = n → n ≤ 2040 → s.num (base + 2050) 1 = 2 →
  s.bytes (base + 2056) n = f → a.who.transport = 0 →
      completes (.objectResponse) s fun t => t.host.apps = rest ∧ t.host.asked = false ∧ t.event 127 = true ∧
        t.host.dictOut = s.host.dictOut ++ f) ∧
  (∀ (s : State) (a : AppRequest) (rest : List AppRequest), s.host.apps = a :: rest → s.host.asked = true →
      completes (.appTimeout) s fun t => t.host.apps = rest ∧ t.host.asked = false ∧
        s.hostStart.told t a.who (a.opc % 128) a.tid .appTimeout [13, 0, 0, 0] = true) ∧
  (∀ (s : State) (env : HostEnv) (base : Nat) (opc : Fin 256) (ti : Fin 65536) (p : List Byte), s.mailbox = some base →
  s.portLive 4 = true → p.length ≤ 1400 → s.num (base + 2048) 2 = 8 + p.length → s.num (base + 2050) 1 = 3 →
  s.bytes (base + 2056) (8 + p.length) = odpFrame opc ti p →
      completes (.meshRequest env) s fun t => t.event 125 = true ∧
        t = ((s.hostStart.raise 125).bump HDP_CNT0_ACCEPTED).odpRequest { transport := 4, addr := s.num (base + 2052) 2 } opc ti p (odpFrame opc ti p) env) ∧
  (∀ (s : State) (base ctx : Nat) (f : List Byte) (rest : List (Nat × List Byte)), s.host.replies = (ctx, f) :: rest →
  s.mailbox = some base → f.length ≤ 2040 → s.poison = [] →
      completes (.meshReply) s fun t => t.host.replies = rest ∧ t.event 124 = true ∧ t.num base 2 = f.length ∧
        t.num (base + 2) 2 = 4 ∧ t.bytes (base + 8) f.length = f) ∧
  (∀ (s : State) (n : Fin 101), s.boot.firmware = true → s.get HDP_STATUS_LOAD ≤ 3 →
      completes (.loadLevel n) s fun t => t.get HDP_STATUS_LOAD = (if 85 < n.val ∧
        s.get HDP_STATUS_LOAD < 3 then s.get HDP_STATUS_LOAD + 1 else if n.val < 60 ∧ 9 ≤ s.host.quiet ∧
        s.get HDP_STATUS_LOAD ≠ 0 then s.get HDP_STATUS_LOAD - 1 else s.get HDP_STATUS_LOAD) ∧
        (t.get HDP_STATUS_LOAD ≠ s.get HDP_STATUS_LOAD → t.event 12 = true) ∧ t.host.quiet = (if n.val < 60 ∧
        s.host.quiet < 9 then s.host.quiet + 1 else 0)) ∧
  (∀ (s : State) (m : HostId) (index : Fin 65536) (sub : Fin 256),
  exec (.stagingTimeout m index sub) s = .next ({ s with host := { s.host with stagings := s.host.stagings.filter fun x => !(decide (x.who = m) && x.key == 256 * index.val + sub.val) } })) ∧
  (∀ (s : State) (m : HostId) (index : Fin 65536) (sub : Fin 256),
  exec (.snapshotTimeout m index sub) s = .next ({ s with host := { s.host with snapshots := s.host.snapshots.filter fun x => !(decide (x.who = m) && x.key == 256 * index.val + sub.val) } })) ∧
  (∀ (s z : State) (m : HostId) (ti : Fin 65536) (env : HostEnv), s.serves m env = true → s.admitted env.load = z →
      completes (.odpRecovery m ti env) s fun t => z.told t m 0x20 ti .ok [0, 0, 0, 0] = true ∧ t.boot.recoveryReq = true ∧
        t.power.resetReq.contains 6 = true) ∧
  (∀ (s : State),
      completes (.restoreDefaults 1) s fun t => t.boot.restore = true ∧ t.host.result = .ok) ∧
  (∀ (s : State) (rd a n : Nat), s.deliverable = true → s.objNumD 0x403000 0 = 1 → rd = s.get MAC_DQ_RD → s.desc rd 4 4 = a →
  s.desc rd 0 2 = n → s.portLive 0 = true → s.host.planeOut.length + n + 42 ≤ 32768 → s.poisonedIn a n = false →
      completes (.delivery) s fun t => t.host.planeOut = s.host.planeOut ++ planeFrame 1 0 s.host.planeSeq ((s.bytes (descAddr rd) 32).take 4 ++ [0,
        0, 0, 0] ++ (s.bytes (descAddr rd) 32).drop 8 ++ s.bytes a n)) ∧
  (∀ (s : State) (m : HostId) (b : List Byte) (n k : Nat), s.portLive m.transport = true → m.transport = 0 ∨ m.transport = 2 →
  s.mode ≠ modeRecovery → s.planeOwns m = true → b.length = 16 + leAt b 0 2 → leAt b 0 2 ≤ 2048 →
  n = s.objNumD 0x403002 32 → k < n → s.planeUsed (4096 - n + k) = false → ∀ j ∈ List.range k,
  s.planeUsed (4096 - n + j) = true →
      completes (.txSubmit m b) s fun t => Sparse.read none t.host.submits (4096 - n + k) = some m) ∧
  (∀ (s : State) (i : Nat) (rest : List Nat) (m : HostId), s.mac.txDone = i :: rest →
  Sparse.read none s.host.submits i = some m → m.transport = 0 → s.portLive 0 = true → s.host.planeOut.length + 30 ≤ 32768 →
      completes (.txComplete) s fun t => t.mac.txDone = rest ∧ Sparse.read none t.host.submits i = none ∧
        t.host.planeOut = s.host.planeOut ++ planeFrame 3 0 s.host.planeSeq (s.bytes (descAddr i + 12) 20))

/-- Reads and writes of the ER-418 map that have effects of their own, and nIRQ (R383, R387, R388, R389,
16_er418_compatibility.md) -/
def Obligations.LegacyReadsAndWrites : Prop :=
  (∀ (s : State) (n : Fin 64), s.lgyLive = true →
      completes (.lgyStatusRead) s fun t => t.host.readData = s.lgyStatus ∧ t.host.output = leBytes 1 (s.lgyStatus) ∧
        t.lgyHas n = false ∧ t.lgy.rxOvf = false) ∧
  (∀ (s : State), s.lgyLive = true →
      completes (.rxfifoRead) s fun t => t.host.readData = (s.lgy.rx.head?.map BitVec.toNat).getD 0 ∧
        t.host.output = leBytes 1 ((s.lgy.rx.head?.map BitVec.toNat).getD 0) ∧
        t = { s with lgy := { s.lgy with rx := s.lgy.rx.drop 1 }, host := t.host }) ∧
  (∀ (s : State), s.lgyLive = true → s.lgy.rx.length ≤ 4096 →
      completes (.rxlevLRead) s fun t => t.host.readData = s.lgy.rx.length % 256 ∧
        t.host.output = leBytes 1 (s.lgy.rx.length % 256) ∧ t.get LGY_RXLEV_H_LEVEL = s.lgy.rx.length / 256) ∧
  (∀ (s : State), s.lgyLive = true → s.lgy.tx.length ≤ 1024 →
      completes (.txlevLRead) s fun t => t.host.readData = s.lgy.tx.length % 256 ∧
        t.host.output = leBytes 1 (s.lgy.tx.length % 256) ∧ t.get LGY_TXLEV_H_LEVEL = s.lgy.tx.length / 256) ∧
  (∀ (s : State), s.lgyLive = true → s.lgy.count < 65536 →
      completes (.slotcntLRead) s fun t => t.host.readData = s.lgy.count % 256 ∧
        t.host.output = leBytes 1 (s.lgy.count % 256) ∧ t.get LGY_SLOTCNT_H_COUNT = s.lgy.count / 256) ∧
  (∀ (s : State), s.mode = modeCompat → s.lgy.gone = true →
      completes (.rxfifoRead) s fun t => t.host.readData = 0 ∧ t.host.output = leBytes 1 (0) ∧ t = { s with host := t.host }) ∧
  (∀ (s : State) (v : Fin 256), s.lgyLive = true → s.lgy.tx.length < 1024 →
      completes (.txfifoWrite v) s fun t => t = { s with lgy := { s.lgy with tx := s.lgy.tx ++ [BitVec.ofNat 8 v] } }) ∧
  (∀ (s : State) (v : Fin 256), s.lgyLive = true → 1024 ≤ s.lgy.tx.length →
      completes (.txfifoWrite v) s fun t => t.lgyHas 37 = true ∧ t.lgy = s.lgy) ∧
  (∀ (s : State) (v : Fin 256) (k : Fin 8) (i : Fin 8), s.lgyLive = true →
      completes (.irqFlagClear i v) s fun t => bit (t.get (LGY_IRQF_FLAGS i)) k = (bit (s.get (LGY_IRQF_FLAGS i)) k && !bit v k)) ∧
  (∀ (s : State) (v : Fin 256) (f : Nat), s.lgyLive = true →
  f = s.get LGY_BASEF0_F + 256 * s.get LGY_BASEF1_F + 65536 * v.val →
      completes (.basef2Write v) s fun t => t.lgy.base = (if 410000 ≤ f ∧ f ≤ 960000 then f else s.lgy.base) ∧
        t.get LGY_BASEF2_F = v.val) ∧
  (∀ (s : State), s.lgyLive = true → s.lgyIrq = true → s.lgy.nirq = false →
      completes (.nirqAssert) s fun t => t.lgy.nirq = true ∧ t.event 119 = true)

/-- The commands 0x01 to 0x0B of the ER-418 map and their completion (R386, R387, R388, R391, 16_er418_compatibility.md) -/
def Obligations.LegacyCommands : Prop :=
  (∀ (s : State), s.lgyFree = true →
      completes (.flushRx) s fun t => t.lgy.cmd = some 1 ∧
        t = { s with lgy := { s.lgy with rx := [], cmd := some 1, held := false } }) ∧
  (∀ (s : State), s.lgyFree = true → s.lgyUnit .data = none →
      completes (.flushTx) s fun t => t.lgy.cmd = some 2 ∧
        t = { s with lgy := { s.lgy with tx := [], cmd := some 2, held := false } }) ∧
  (∀ (s : State), s.lgyFree = true → s.lgy.frame = none →
      completes (.txStart) s fun t => t.lgy.cmd = some 3 ∧
        t = { s with lgy := { s.lgy with frame := some { armedAt := s.tnet }, cmd := some 3, held := false } }) ∧
  (∀ (s : State), s.lgyFree = true → s.lgyUnit .data = none →
      completes (.txAbort) s fun t => t.lgy.cmd = some 4 ∧ t.lgy.frame = none) ∧
  (∀ (s : State) (i : Nat) (k : Fin 4) (b : Nat), s.lgyFree = true → s.get LGY_CTXIDX_IDX = i → i < 250 → b < ctxAddr i ∨
  ctxAddr i + 64 ≤ b →
      completes (.ctxWrite) s fun t => t.lgy.cmd = some 5 ∧ t.ctx i k 1 = s.get (LGY_CTXDAT_VALUE k) % 256 ∧
        t.ctxFlag i 0 = bit (s.get (LGY_CTXDAT_VALUE 4)) 0 ∧ t.byte b = s.byte b) ∧
  (∀ (s : State) (i : Nat) (k : Fin 4), s.lgyFree = true → s.get LGY_CTXIDX_IDX = i → i < 250 →
      completes (.ctxRead) s fun t => t.lgy.cmd = some 6 ∧ t.get (LGY_CTXDAT_VALUE k) = s.ctx i k 1 ∧
        t.get (LGY_CTXDAT_VALUE 4) = ofBool (s.ctxFlag i 0) ∧ t.get (LGY_CTXDAT_VALUE 5) = s.ctx i 15 1) ∧
  (∀ (s : State) (i b : Nat), s.lgyFree = true → s.get LGY_CTXIDX_IDX = i → i < 250 → b < ctxAddr i + 10 ∨ ctxAddr i + 12 ≤ b →
      completes (.ctxDelete) s fun t => t.lgy.cmd = some 7 ∧ t.ctxFlag i 0 = false ∧ t.byte b = s.byte b) ∧
  (∀ (s : State) (i : Nat), s.lgyFree = true → s.get LGY_HOPIDX_IDX = i → i < 64 → s.lgy.hop.length = 64 →
      completes (.hopWrite) s fun t => t.lgy.cmd = some 8 ∧ t.lgy.hop.getD i 0 = s.get LGY_HOPDAT_N ∧
        t.get LGY_HOPIDX_IDX = (i + 1) % 64 ∧ t.lgy.hop.length = 64) ∧
  (∀ (s : State) (i : Nat), s.lgyFree = true → s.get LGY_HOPIDX_IDX = i → i < 64 → s.lgy.hop.getD i 0 < 256 →
      completes (.hopRead) s fun t => t.lgy.cmd = some 9 ∧ t.get LGY_HOPDAT_N = s.lgy.hop.getD i 0 ∧
        t.get LGY_HOPIDX_IDX = (i + 1) % 64) ∧
  (∀ (s : State), s.lgyFree = true → s.get LGY_SLOTCTL_RUN = 0 → s.radio.calib = none → s.radio.calWait = [] →
      completes (.lgyCal) s fun t => t.lgy.cmd = some 10 ∧ (t.radio.calib.map fun c => (c.type, c.target)) = some (1, 0) ∧
        t.radio.calWait.map (fun (c : Calibration) => (c.type, c.target)) = [(5, 0), (1, 2)]) ∧
  (∀ (s : State) (i : Fin 250), s.lgyFree = true →
      completes (.softReset) s fun t => t.lgy.rx = [] ∧ t.lgy.tx = [] ∧ t.lgy.frame = none ∧ t.lgy.run = false ∧
        t.lgy.count = 1 ∧ t.lgy.hop = List.replicate 64 0 ∧ t.lgy.base = 863000 ∧ t.ctxFlag i 0 = false ∧
        t.get LGY_SLOTCTL_RUN = 0 ∧ t.get LGY_HOPLEN_LEN = 1) ∧
  (∀ (s : State) (c : Nat), s.lgyLive = true → s.lgy.cmd = some c →
      (exec (.flushRx) s = .next (s.lgyFlag 30) ∧
       exec (.flushTx) s = .next (s.lgyFlag 30) ∧
       exec (.txStart) s = .next (s.lgyFlag 30) ∧
       exec (.txAbort) s = .next (s.lgyFlag 30) ∧
       exec (.ctxWrite) s = .next (s.lgyFlag 30) ∧
       exec (.ctxRead) s = .next (s.lgyFlag 30) ∧
       exec (.ctxDelete) s = .next (s.lgyFlag 30) ∧
       exec (.hopWrite) s = .next (s.lgyFlag 30) ∧
       exec (.hopRead) s = .next (s.lgyFlag 30) ∧
       exec (.lgyCal) s = .next (s.lgyFlag 30) ∧
       exec (.softReset) s = .next (s.lgyFlag 30))) ∧
  (∀ (s : State) (c : Nat), s.lgyLive = true → s.lgy.cmd = some c → s.lgy.held = false →
      completes (.cmddone) s fun t => t.lgy.cmd = none ∧ t.lgyHas 29 = true ∧ (c = 10 → t.lgyHas 31 = true))

/-- The legacy slot, received frames and beacons, lost synchronisation and failed attempts (R388, R390, R392, R393, R394,
R395, 16_er418_compatibility.md) -/
def Obligations.LegacySlotsAndFrames : Prop :=
  (∀ (s : State), s.lgyLive = true → s.get LGY_SLOTCTL_RUN ≠ 0 → s.lgy.run = true → s.boot.firmware = false →
  s.lgy.count ≤ 65535 →
      completes (.legacySlotBoundary) s fun t => t.lgy.run = true ∧
        t.lgy.count = (if s.lgy.count = 65535 then 1 else s.lgy.count + 1) ∧ t.lgyHas 24 = true ∧ (s.lgy.count = 65535 →
        t.lgyHas 25 = true) ∧ t.lgy.boundary = s.lgy.boundary + 2000000) ∧
  (∀ (s : State), s.lgyLive = true → s.get LGY_SLOTCTL_RUN = 0 → s.lgy.run = true →
      completes (.legacySlotBoundary) s fun t => t.lgy.run = false ∧ t.lgy.count = s.lgy.count) ∧
  (∀ (s : State) (n : Nat) (u : RxUnit) (p : LgyPayload), s.lgyUnitAt n = some u → parseLegacy u.payload = some p →
  p.netid = s.lgyNetid → p.dst = 0xFFFFFFFF → p.type = 0 → s.lgyCtxOf p.src = none →
  s.lgy.rx.length + u.payload.length + 4 ≤ 4096 → u.payload.length < 256 →
      completes (.legacyFrameStored n) s fun t => t.lgy.rx = s.lgy.rx ++ (leBytes 1 u.payload.length ++ leBytes 1 (u.det.choff % 8 + 8 * ofBool p.ackReq + 16) ++ leBytes 1 (lgyRssi u.det.rssi) ++ [0xFF] ++ u.payload) ∧
        t.lgyHas (u.det.choff % 8) = true ∧ t.lgyHas (56 + u.det.choff % 8) = true ∧ t.get LGY_LASTCTX_VALUE = 0xFF ∧
        t.get LGY_LASTSEQ_VALUE = p.seq) ∧
  (∀ (s : State) (n : Nat) (u : RxUnit) (p : LgyPayload), s.lgyUnitAt n = some u → parseLegacy u.payload = some p →
  p.netid ≠ s.lgyNetid →
      completes (.legacyFrameStored n) s fun t => t = s.removeRx u.id) ∧
  (∀ (s : State) (n : Nat) (u : RxUnit) (p : LgyPayload), s.lgyUnitAt n = some u → parseLegacy u.payload = some p →
  p.netid = s.lgyNetid → p.type = 2 → u.stale = false → s.get LGY_SLOTCTL_MASTER = 0 → u.det.choff % 8 = 0 →
  2 ≤ p.data.length → leAt p.data 0 2 ≠ 0 →
      completes (.legacyBeaconRx n) s fun t => t.lgy.count = leAt p.data 0 2 ∧ t.lgy.synced = true ∧ t.lgy.missed = 0 ∧
        t.lgyHas 23 = true ∧ t.lgyHas 27 = true) ∧
  (∀ (s : State), s.lgyLive = true → s.lgyMissDue = true →
      completes (.bcnmiss) s fun t => t.lgy.missed = s.lgy.missed + 1 ∧ t.lgyHas 46 = true) ∧
  (∀ (s : State), s.lgyLive = true → s.lgy.synced = true → 8 ≤ s.lgy.missed →
      completes (.synclost) s fun t => t.lgy.synced = false ∧ t.lgy.missed = 0 ∧ t.lgyHas 28 = true) ∧
  (∀ (s : State) (u : TxUnit) (f : LgyFrame), s.lgyLive = true → s.lgyUnit .data = some u → s.lgy.frame = some f →
  u.phase = .ackWait → f.aborted = false →
      completes (.legacyAckWindowClose) s fun t => t.lgy.frame = (if s.get LGY_TXCFG_RETRIES < f.tries + 1 then none else some { f with tries := f.tries + 1 }) ∧
        (s.get LGY_TXCFG_RETRIES < f.tries + 1 → t.lgyHas 17 = true) ∧ (t.slot.tx.any fun v => v.id == u.id) = false) ∧
  (∀ (s : State) (u : TxUnit), s.mode = modeCompat → s.lgyUnit .data = some u → u.phase = .tx → u.owed ≠ 0 → s.lgy.tx = [] →
      completes (.txUnderrun) s fun t => t.lgy.frame = none ∧ t.lgyHas 18 = true ∧ t.lgyHas 16 = true) ∧
  (∀ (s : State) (v : Int), s.mode = modeCompat → 340 < v →
      completes (.temphi v) s fun t => t.lgyHas 43 = true ∧ t.get RFC_TEMP_TEMP = unsigned 12 v % 4096)

/-- SPI transactions of the ER-418 map, and the native unlock with its switch-over (R383, R384, R385, R398, R399,
16_er418_compatibility.md) -/
def Obligations.LegacyPortAndNativeUnlock : Prop :=
  (∀ (s : State) (a : Nat) (v : Byte), s.lgyLive = true → a < 0x7E → 1 ≤ a →
      completes (.legacySpiTransaction [BitVec.ofNat 8 (128 + a),
        v] false false false) s fun t => t = ((s.lgyWrite a v.toNat).spiOut [BitVec.ofNat 8 s.lgyStatus, 0]).setUnlock .idle) ∧
  (∀ (s : State) (a : Nat), s.lgyLive = true → a < 128 →
      completes (.legacySpiTransaction [BitVec.ofNat 8 a,
        0] false false false) s fun t => t.host.output = [BitVec.ofNat 8 s.lgyStatus, BitVec.ofNat 8 (s.lgyView a)] ∧
        t.lgy.unlock = .idle) ∧
  (∀ (s : State) (x y : Byte), s.lgyLive = true →
      completes (.legacySpiTransaction [0x13, x,
        y] false false false) s fun t => t.host.output = [BitVec.ofNat 8 s.lgyStatus, s.lgy.rx.getD 0 0,
        s.lgy.rx.getD 1 0] ∧ t.lgy.rx = s.lgy.rx.drop 2) ∧
  (∀ (s : State) (bs : List Byte), s.lgyLive = true → bs = [] ∨ (bs.headD 0).toNat < 128 →
      completes (.legacySpiTransaction bs true false false) s fun t => t.lgyHas 47 = true ∧ t.lgy.unlock = .idle) ∧
  (∀ (s : State) (v : Byte), s.lgyLive = true →
      completes (.legacySpiTransaction [0xFE, v] false false false) s fun t => t = (s.spiOut [BitVec.ofNat 8 s.lgyStatus,
        0]).unlockStep v.toNat) ∧
  (∀ (s : State), s.lgyLive = true →
  exec (.unlockWrite 0x4B) s = .next ({ s with lgy := { s.lgy with unlock := .step1, unlockAt := s.clock } })) ∧
  (∀ (s : State), s.lgyLive = true → s.lgy.unlock = .step1 →
  exec (.unlockWrite 0x57) s = .next ({ s with lgy := { s.lgy with unlock := .step2 } })) ∧
  (∀ (s : State) (n : Fin 64), s.lgyLive = true → s.lgy.unlock = .step2 → s.clock ≤ s.lgy.unlockAt + 100000 →
      completes (.unlockWrite 0x72) s fun t => t.lgy.gone = true ∧ t.lgy.rx = [] ∧ t.lgy.tx = [] ∧ t.lgy.frame = none ∧
        t.slot.rx = [] ∧ t.lgyHas n = false ∧ t.lgy.nirq = false ∧
        Sparse.read [] t.objs 0x103000 = (List.range 128).map (fun a => BitVec.ofNat 8 (s.lgyView a))) ∧
  (∀ (s : State) (v : Fin 256), s.lgyLive = true → v ≠ 0x4B → s.lgy.unlock = .idle ∨ (s.lgy.unlock = .step1 ∧ v ≠ 0x57) ∨
  (s.lgy.unlock = .step2 ∧ (v ≠ 0x72 ∨ s.lgy.unlockAt + 100000 < s.clock)) →
  exec (.unlockWrite v) s = .next ({ s with lgy := { s.lgy with unlock := .idle } })) ∧
  (∀ (s : State), exec (.unlockTimeout) s = .next ({ s with lgy := { s.lgy with unlock := .idle } })) ∧
  (∀ (s : State), s.mode = modeCompat → s.lgy.gone = true → s.airUnit = none → s.boot.startMode = none →
      completes (.nativeSwitchover) s fun t => t.mode = modeConc ∧ t.event 7 = true ∧ t.get PRC_MODE_UNLOCKED = 1 ∧
        t.lgy.gone = false ∧ t.lgy.hop = List.replicate 64 0)

/-- Field commands of the tag that read blocks, states, identification and security status (R402, R403, R404, R405, R407,
R408, R409, 17_contactless_tag.md) -/
def Obligations.TagReadsAndIdentification : Prop :=
  (∀ (s : State) (req : TagReq) (block : Fin 256), s.tagHears req = true → s.tagFree req = true →
  s.tagReadError 256 block (1) = none →
  exec (.readSingleBlock req block) s = .next ((s.heard req).answers (((List.range (1)).map fun k => (if req.option = true then leBytes 1 (ofBool (s.tagSecured (block.val + k))) else []) ++ s.bytes (tagAddr (block.val + k)) 4).flatten))) ∧
  (∀ (s : State) (req : TagReq) (block : Fin 256) (count : Fin 256), s.tagHears req = true → s.tagFree req = true →
  s.tagReadError 256 block (count.val + 1) = none →
  exec (.readMultipleBlocks req block count) s = .next ((s.heard req).answers (((List.range (count.val + 1)).map fun k => (if req.option = true then leBytes 1 (ofBool (s.tagSecured (block.val + k))) else []) ++ s.bytes (tagAddr (block.val + k)) 4).flatten))) ∧
  (∀ (s : State) (req : TagReq) (block : Fin 65536), s.tagHears req = true → s.tagFree req = true →
  s.tagReadError 1984 block (1) = none →
  exec (.extendedReadSingleBlock req block) s = .next ((s.heard req).answers (((List.range (1)).map fun k => (if req.option = true then leBytes 1 (ofBool (s.tagSecured (block.val + k))) else []) ++ s.bytes (tagAddr (block.val + k)) 4).flatten))) ∧
  (∀ (s : State) (req : TagReq) (block : Fin 65536) (count : Fin 65536), s.tagHears req = true → s.tagFree req = true →
  s.tagReadError 1984 block (count.val + 1) = none →
  exec (.extendedReadMultipleBlocks req block count) s = .next ((s.heard req).answers (((List.range (count.val + 1)).map fun k => (if req.option = true then leBytes 1 (ofBool (s.tagSecured (block.val + k))) else []) ++ s.bytes (tagAddr (block.val + k)) 4).flatten))) ∧
  (∀ (s : State) (req : TagReq) (block : Fin 65536) (code : Nat), s.tagHears req = true →
  s.tagReadError 1984 block 1 = some code →
      completes (.extendedReadSingleBlock req block) s fun t => t = (s.heard req).refuses (BitVec.ofNat 8 code)) ∧
  (∀ (s : State) (req : TagReq) (block count : Fin 256), s.tagHears req = true → block.val + (count.val + 1) ≤ 256 →
  exec (.getMultipleBlockSecurityStatus req block count) s = .next ((s.heard req).answers ((List.range (count.val + 1)).map fun k => BitVec.ofNat 8 (ofBool (s.tagSecured (block.val + k)))))) ∧
  (∀ (s : State) (req : TagReq) (block count : Fin 65536), s.tagHears req = true → block.val + (count.val + 1) ≤ 1984 →
  exec (.extGetMultipleBlockSecurityStatus req block count) s = .next ((s.heard req).answers ((List.range (count.val + 1)).map fun k => BitVec.ofNat 8 (ofBool (s.tagSecured (block.val + k)))))) ∧
  (∀ (s : State) (req : TagReq), s.tagHears req = true →
      (exec (.getSystemInformation req) s = .next ((s.heard req).answers (3 :: s.tagUid ++ leBytes 1 s.tagDsfid ++ leBytes 1 s.tagAfi)) ∧
       exec (.extendedGetSystemInformation req) s = .next ((s.heard req).answers (7 :: s.tagUid ++ leBytes 1 s.tagDsfid ++ leBytes 1 s.tagAfi ++ [0xBF,
         0x07, 0x03])) ∧
       exec (.getStatus req) s = .next ((s.heard req).answers (leBytes 1 req.vrec ++ leBytes 1 s.tagLockoutMap ++ leBytes 1 s.tag.readSessions ++ leBytes 1 s.tag.writeSessions)) ∧
       exec (.resetToReady req) s = .next (({ s.heard req with tag := { (s.heard req).tag with state := .ready } } : State).answers []) ∧
       exec (.unsupportedCommand req) s = .next (if req.addr = .any then s.heard req else (s.heard req).refuses 1))) ∧
  (∀ (s : State) (req : TagReq), s.tagHears req = true → req.addr = .own →
      (exec (.tagStayQuiet req) s = .next ({ s.heard req with tag := { (s.heard req).tag with state := .quiet } }) ∧
       exec (.tagSelect req) s = .next (({ s.heard req with tag := { (s.heard req).tag with state := .selected } } : State).answers []))) ∧
  (∀ (s : State) (req : TagReq), s.tag.field = true → s.tag.ready = true → req.sub = false → req.addr = .other →
  s.tag.state = .selected →
      completes (.tagSelect req) s fun t => t.tag.state = .ready ∧ t.tag.answer = none) ∧
  (∀ (s : State) (req : TagReq), s.tagHears req = false →
      (exec (.getSystemInformation req) s = .next ({ s with tag := { s.tag with answer := none } }) ∧
       exec (.getStatus req) s = .next ({ s with tag := { s.tag with answer := none } }) ∧
       exec (.resetToReady req) s = .next ({ s with tag := { s.tag with answer := none } }) ∧
       exec (.unsupportedCommand req) s = .next ({ s with tag := { s.tag with answer := none } }) ∧
       exec (.tagStayQuiet req) s = .next ({ s with tag := { s.tag with answer := none } }))) ∧
  (∀ (s : State) (sixteen : Bool) (afi : Option (Fin 256)) (n : Fin 65) (m : Nat), s.tag.field = true → s.tag.ready = true →
  s.tag.state ≠ .quiet → s.afiMatches afi = true → leNat s.tagUid % 2 ^ n.val = m % 2 ^ n.val →
      completes (.tagInventory false sixteen afi n m) s fun t => t = ({ s with tag := { s.tag with slot := if sixteen = true then leNat s.tagUid / 2 ^ n.val % 16 else 0 } } : State).answers (leBytes 1 s.tagDsfid ++ s.tagUid))

/-- Protected writes of the tag from both sides, passwords and lockout, the field, and the commit record (R406, R409, R410,
R411, R412, R413, R415, R416, R418, R419, R420, 17_contactless_tag.md) -/
def Obligations.TagProtectedWrites : Prop :=
  (∀ (s : State) (req : TagReq) (bk : Fin 256) (w : Word), s.tagHears req = true → s.tagFree req = true → 96 ≤ req.vrec.val →
  bk.val < 256 → ∀ k ∈ tagAreas bk 1, s.tagLocked k = false ∧ (s.tagWp k = false ∨ bit s.tag.writeSessions k = true) →
  exec (.writeSingleBlock req bk w) s = .next ({ s.heard req with tag := { (s.heard req).tag with write := some { side := .field, block := bk.val, data := w.toNat } } })) ∧
  (∀ (s : State) (req : TagReq) (bk : Fin 65536) (w : Word), s.tagHears req = true → s.tagFree req = true → 96 ≤ req.vrec.val →
  bk.val < 1984 → ∀ k ∈ tagAreas bk 1, s.tagLocked k = false ∧ (s.tagWp k = false ∨ bit s.tag.writeSessions k = true) →
  exec (.extendedWriteSingleBlock req bk w) s = .next ({ s.heard req with tag := { (s.heard req).tag with write := some { side := .field, block := bk.val, data := w.toNat } } })) ∧
  (∀ (s : State) (req : TagReq) (value : Fin 256), s.tagHears req = true → s.tagFree req = true → 96 ≤ req.vrec.val →
  bit (s.tagBlock 2008) 16 = false →
      (exec (.writeAfi req value) s = .next ({ s.heard req with tag := { (s.heard req).tag with write := some { side := .field, block := 2008, data := splice (s.tagBlock 2008) 0 8 value } } }) ∧
       exec (.lockAfi req) s = .next ({ s.heard req with tag := { (s.heard req).tag with write := some { side := .field, block := 2008, data := splice (s.tagBlock 2008) 16 1 1 } } }))) ∧
  (∀ (s : State) (req : TagReq) (value : Fin 256), s.tagHears req = true → s.tagFree req = true → 96 ≤ req.vrec.val →
  bit (s.tagBlock 2008) 17 = false →
      (exec (.writeDsfid req value) s = .next ({ s.heard req with tag := { (s.heard req).tag with write := some { side := .field, block := 2008, data := splice (s.tagBlock 2008) 8 8 value } } }) ∧
       exec (.lockDsfid req) s = .next ({ s.heard req with tag := { (s.heard req).tag with write := some { side := .field, block := 2008, data := splice (s.tagBlock 2008) 17 1 1 } } }))) ∧
  (∀ (s : State) (req : TagReq) (value : Fin 256), s.tagHears req = true → bit (s.tagBlock 2008) 16 = true →
      (exec (.writeAfi req value) s = .next ((s.heard req).refuses 0x12) ∧
       exec (.lockAfi req) s = .next ((s.heard req).refuses 0x12))) ∧
  (∀ (s : State) (req : TagReq) (a q : Fin 256) (w : Word), s.tagHears req = true → s.tagFree req = true → 96 ≤ req.vrec.val →
  a.val < 8 → q.val < 2 → s.tagLocked a = false →
      completes (.presentPassword req a q w) s fun t => t.tag.write = some { side := .field, block := 2000 + a.val, data := splice (s.tagBlock (2000 + a.val)) 8 8 (slice (s.tagBlock (2000 + a.val)) 8 8 + 1), purpose := .attempt a q w.toNat } ∧
        t.tag.answer = none) ∧
  (∀ (s : State) (req : TagReq) (a q : Fin 256) (w : Word), s.tagHears req = true → a.val < 8 → q.val < 2 →
  s.tagLocked a = true →
      completes (.presentPassword req a q w) s fun t => t = (s.heard req).refuses 0xA2) ∧
  (∀ (s : State) (req : TagReq) (a q : Fin 256) (w : Word), s.tagHears req = true → s.tagFree req = true → 96 ≤ req.vrec.val →
  a.val < 8 → q.val < 2 → s.tagLocked a = false →
  bit (if q.val = 0 then s.tag.readSessions else s.tag.writeSessions) a = true →
      completes (.changePassword req a q w) s fun t => t.tag.write = some { side := .field, block := (if q.val = 0 then 1984 else 1992) + a.val, data := w.toNat }) ∧
  (∀ (s : State) (w : TagWrite) (b : Nat), s.tag.write = some w → s.tag.field = true → w.purpose = .data → w.side = .field →
  w.block < 2040 → w.data < 2 ^ 32 → b < tagAddr w.block ∨ tagAddr w.block + 4 ≤ b → b < tagAddr 2040 ∨ tagAddr 2042 ≤ b →
      completes (.tagWriteDone true) s fun t => t.tagBlock w.block = w.data ∧ t.tagBlock 2041 = 0 ∧ t.tag.write = none ∧
        t.tag.reserved = s.tag.refused ∧ t.tag.answer = some [0] ∧ (s.tagPowered = true → t.event 122 = true) ∧
        t.byte b = s.byte b) ∧
  (∀ (s : State) (w : TagWrite) (a q n : Nat), s.tag.write = some w → s.tag.field = true → w.purpose = .attempt a q n → a < 8 →
  w.block = 2000 + a → w.data < 2 ^ 32 → s.tagBlock ((if q = 0 then 1984 else 1992) + a) = n →
      completes (.tagWriteDone true) s fun t => t.tag.write = some { side := .field, block := 2000 + a, data := splice w.data 8 8 0, purpose := .opened a q } ∧
        t.tag.answer = s.tag.answer) ∧
  (∀ (s : State) (w : TagWrite) (a q n : Nat), s.tag.write = some w → s.tag.field = true → w.purpose = .attempt a q n → a < 8 →
  w.block = 2000 + a → w.data < 2 ^ 32 → s.tagBlock ((if q = 0 then 1984 else 1992) + a) ≠ n →
      completes (.tagWriteDone true) s fun t => t.tag.write = none ∧ t.tag.answer = some [1, 0xA5] ∧
        t.tag.readSessions = s.tag.readSessions ∧ t.tag.writeSessions = s.tag.writeSessions) ∧
  (∀ (s : State) (w : TagWrite) (a q : Nat), s.tag.write = some w → s.tag.field = true → w.purpose = .opened a q →
      completes (.tagWriteDone true) s fun t => t.tag.write = none ∧ t.tag.answer = some [0] ∧
        bit (if q = 0 then t.tag.readSessions else t.tag.writeSessions) a = true) ∧
  (∀ (s : State) (area : Fin 8), s.tag.lockouts.contains area.val = true →
      completes (.tagLockout area) s fun t => t.event 123 = true ∧ t.tag.lockouts.contains area.val = false) ∧
  (∀ (s : State) (value : Word) (b : Nat), bit value.toNat 16 = true → b = slice value.toNat 0 11 → b < 2000 →
  s.get TAG_WSTAT_RUN = 0 → s.tag.ready = true → s.tag.write = none → s.tag.reserved = none →
      completes (.tagBlockWrite value false) s fun t => t.tag.write = some { side := .core, block := b, data := s.get TAG_WDATA_DATA } ∧
        t.get TAG_WSTAT_RUN = 1) ∧
  (∀ (s : State) (area : Fin 8), s.get TAG_WSTAT_RUN = 0 → s.tag.ready = true → s.tag.write = none → s.tag.reserved = none →
      completes (.clearAttempts area false) s fun t => t.tag.write = some { side := .core, block := 2000 + area.val, data := splice (s.tagBlock (2000 + area.val)) 8 8 0, purpose := .clear } ∧
        t.get TAG_WSTAT_RUN = 1) ∧
  (∀ (s : State), s.tagPowered = true ∨ s.tag.field = true → s.tag.ready = false →
      completes (.tagPowerUp) s fun t => t.tag.ready = true ∧ (∀ b ∈ s.commitBlock.toList, b < 2040 →
        t.tagBlock b = s.tagBlock 2040 ∧ t.tagBlock 2041 = 0 ∧ t.tag.recovered = true) ∧ (s.commitBlock = none →
        t.mem = s.mem)) ∧
  (∀ (s : State) (v : Fin 256), s.tag.field = false → s.tagPowered = true → s.power.state ≠ .sleep →
      completes (.fieldOn v) s fun t => t.tag.field = true ∧ t.tag.vrec = v.val ∧ t.tag.state = .ready ∧ t.event 120 = true) ∧
  (∀ (s : State) (n : Fin 6), s.tag.field = true → s.tagPowered = true →
      completes (.fieldOff n) s fun t => t.tag.field = false ∧ t.tag.readSessions = 0 ∧ t.tag.writeSessions = 0 ∧
        t.tag.write = s.tag.write ∧ t.event 121 = true) ∧
  (∀ (s : State), exec (.reservationEnd) s = .next ({ s with tag := { s.tag with reserved := none } })) ∧
  (∀ (s : State) (w : Word), s.tag.write = none → s.tag.reserved = none → s.tag.ready = true → s.tagSelect < 1984 →
      completes (.tagMemoryDataWrite (leBytes 4 w.toNat) 1024 none) s fun t => t.tagBlock s.tagSelect = w.toNat ∧
        t.host.result = .ok)

/-- Entry into Sleep, Deep, Standby and Off, wake-up, and the return to Run (R449, R450, R451, R452, R453, R454, R455,
19_power_reset_clocks.md) -/
def Obligations.PowerStateEntryAndReturn : Prop :=
  (∀ (s : State), (s.power.state = .run ∨ s.power.state = .doze) → s.get PRC_PWRSTAT_PENDING = 0 → s.mode ≠ modeCompat →
  s.mode ≠ modeRecovery → s.core0.halted = false → s.core1.halted = false → s.wakeable .sleep = true →
      (exec (.sleepEnter) s = .next ((((s.flag PRC_PWRSTAT_CMD_REJ false).flag PRC_PWRSTAT_PENDING true).setPower { s.power with target := .sleep })))) ∧
  (∀ (s : State), (s.power.state = .run ∨ s.power.state = .doze) → s.get PRC_PWRSTAT_PENDING = 0 → s.mode ≠ modeCompat →
  s.mode ≠ modeRecovery → s.core0.halted = false → s.core1.halted = false → s.wakeable .deep = true →
      completes (.deepSleep) s fun t => t.get PRC_PWRSTAT_PENDING = 1 ∧ t.power.target = .deep ∧ (s.running = true →
        t.get SLE_STATUS_STOP_PEND = 1)) ∧
  (∀ (s : State), (s.power.state = .run ∨ s.power.state = .doze) → s.get PRC_PWRSTAT_PENDING = 0 → s.mode ≠ modeCompat →
  s.mode ≠ modeRecovery → s.core0.halted = false → s.core1.halted = false → s.wakeable .standby = true →
      completes (.standbyEnter) s fun t => t.get PRC_PWRSTAT_PENDING = 1 ∧ t.power.target = .standby) ∧
  (∀ (s : State), (s.power.state = .run ∨ s.power.state = .doze) → s.get PRC_PWRSTAT_PENDING = 0 → s.mode ≠ modeCompat →
  s.mode ≠ modeRecovery → s.core0.halted = false → s.core1.halted = false →
      completes (.powerOff) s fun t => t.get PRC_PWRSTAT_PENDING = 1 ∧ t.power.target = .off) ∧
  (∀ (s : State), (s.power.state = .run ∨ s.power.state = .doze) → s.get PRC_PWRSTAT_PENDING = 0 → (s.mode = modeCompat ∨
  s.mode = modeRecovery) →
      (exec (.sleepEnter) s = .next ((s.flag PRC_PWRSTAT_CMD_REJ false).entryRefused 5) ∧
       exec (.deepSleep) s = .next ((s.flag PRC_PWRSTAT_CMD_REJ false).entryRefused 5) ∧
       exec (.standbyEnter) s = .next ((s.flag PRC_PWRSTAT_CMD_REJ false).entryRefused 5) ∧
       exec (.powerOff) s = .next ((s.flag PRC_PWRSTAT_CMD_REJ false).entryRefused 5))) ∧
  (∀ (s : State), (s.power.state = .run ∨ s.power.state = .doze) → s.get PRC_PWRSTAT_PENDING = 0 → s.mode ≠ modeCompat →
  s.mode ≠ modeRecovery → (s.core0.halted = true ∨ s.core1.halted = true) →
      (exec (.sleepEnter) s = .next ((s.flag PRC_PWRSTAT_CMD_REJ false).entryRefused 4) ∧
       exec (.deepSleep) s = .next ((s.flag PRC_PWRSTAT_CMD_REJ false).entryRefused 4) ∧
       exec (.standbyEnter) s = .next ((s.flag PRC_PWRSTAT_CMD_REJ false).entryRefused 4) ∧
       exec (.powerOff) s = .next ((s.flag PRC_PWRSTAT_CMD_REJ false).entryRefused 4))) ∧
  (∀ (s : State), (s.power.state = .run ∨ s.power.state = .doze) → s.get PRC_PWRSTAT_PENDING = 0 → s.mode ≠ modeCompat →
  s.mode ≠ modeRecovery → s.core0.halted = false → s.core1.halted = false → s.wakeable .sleep = false →
  s.wakeable .deep = false → s.wakeable .standby = false →
      (exec (.sleepEnter) s = .next ((s.flag PRC_PWRSTAT_CMD_REJ false).entryRefused 3) ∧
       exec (.deepSleep) s = .next ((s.flag PRC_PWRSTAT_CMD_REJ false).entryRefused 3) ∧
       exec (.standbyEnter) s = .next ((s.flag PRC_PWRSTAT_CMD_REJ false).entryRefused 3))) ∧
  (∀ (s : State), (s.power.state = .run ∨ s.power.state = .doze) → s.get PRC_PWRSTAT_PENDING = 1 →
      (exec (.sleepEnter) s = .next (s.flag PRC_PWRSTAT_CMD_REJ true) ∧
       exec (.deepSleep) s = .next (s.flag PRC_PWRSTAT_CMD_REJ true) ∧
       exec (.standbyEnter) s = .next (s.flag PRC_PWRSTAT_CMD_REJ true) ∧
       exec (.powerOff) s = .next (s.flag PRC_PWRSTAT_CMD_REJ true) ∧
       exec (.entryTimeout) s = .next (s.entryRefused 2))) ∧
  (∀ (s : State), s.get PRC_PWRSTAT_PENDING = 1 → s.entryReady = true → (s.power.target = .sleep ∨ s.power.target = .deep ∨
  s.power.target = .standby ∨ s.power.target = .off) →
      completes (.powerEntryComplete) s fun t => t.power.state = s.power.target ∧ t.get PRC_PWRSTAT_PENDING = 0 ∧
        t.get PRC_PWRSTAT_RESULT = 0 ∧ t.get PRC_PWRSTAT_ENTRIES = (s.get PRC_PWRSTAT_ENTRIES + 1) % 2 ^ 16 ∧
        t.get RFC_STATE_STATE_T = 0 ∧ t.radio.txWindow = false ∧ (s.power.target ≠ .sleep → t.power.tnetRuns = false ∧
        t.pins.held.isSome = true) ∧ (s.power.target = .deep → t.power.savedTnet = s.tnet ∧ t.mac = {} ∧ t.sec = {}) ∧
        (s.power.target = .standby → t.power.standbyWake = s.get PRC_WAKEEN_EN)) ∧
  (∀ (s : State), s.power.state = .doze → (s.core0.wakes = true ∨ s.core1.wakes = true) →
      completes (.dozeExit) s fun t => t.power.state = .run ∧
        t.core0.run = (if s.core0.wakes = true then .running else s.core0.run) ∧
        t.core1.run = (if s.core1.wakes = true then .running else s.core1.run)) ∧
  (∀ (s : State) (n : Fin 10), s.wakeEnabled n = true → s.get PRC_PWRSTAT_PENDING = 0 → wakeLive s.power.state n = true →
      completes (.powerWake n) s fun t => t.get PRC_WAKESRC_SRC = setBit (s.get PRC_WAKESRC_SRC) n % 2 ^ 10 ∧
        t.power.wakes.contains n.val = true ∧ t.power.state = s.power.state) ∧
  (∀ (s : State) (n : Fin 10), s.wakeEnabled n = true → s.get PRC_PWRSTAT_PENDING = 1 →
      completes (.powerWake n) s fun t => t.get PRC_PWRSTAT_PENDING = 0 ∧ t.get PRC_PWRSTAT_RESULT = 1 ∧ t.power = s.power) ∧
  (∀ (s : State) (n : Fin 10), s.wakeEnabled n = false ∨ (s.get PRC_PWRSTAT_PENDING = 0 ∧ wakeLive s.power.state n = false) →
      completes (.powerWake n) s fun t => t = s) ∧
  (∀ (s : State) (n m w : Nat) (ws : List Nat), s.power.state = .sleep → s.power.wakes = w :: ws → w < 10 →
      completes (.returnToRun n m) s fun t => t.power.state = .run ∧ t.power.wakes = [] ∧ t.get PRC_PWRSTAT_LAST = 1 ∧
        t.get PRC_WAKESRC_FIRST = w ∧ t.event 1 = true ∧ (w < 4 → t.event 115 = true) ∧ t.tnet = s.tnet ∧ t.mem = s.mem) ∧
  (∀ (s : State) (n m w : Nat) (ws : List Nat), s.power.state = .deep → s.power.wakes = w :: ws → w < 10 →
      completes (.returnToRun n m) s fun t => t.power.state = .run ∧ t.get PRC_PWRSTAT_LAST = 2 ∧
        t.get PRC_WAKESRC_FIRST = w ∧ t.event 1 = true ∧ t.tnet = (s.power.savedTnet + n * 390625 / 128 + m) % 2 ^ 64 ∧
        t.power.tnetRuns = true ∧ t.get PRC_PWRSTAT_TNET_RESTORED = 1 ∧ t.get PRC_CTRL_PIN_HOLD = 1) ∧
  (∀ (s : State) (st : Fin 5), (s.power.state = .sleep ∨ s.power.state = .deep) → s.power.wakes ≠ [] → st ≠ 0 →
      completes (.wakeStepTimeout st) s fun t => t.power.resetReq.contains (if st = 2 then 0x09 else 0x0E) = true ∧
        (st ≠ 2 → t.get PRC_RSTCAUSE_STEP = if st = 1 then 1 else if st = 3 then 3 else 0)) ∧
  (∀ (s : State), s.power.state = .sleep → s.get PRC_PWRSTAT_PENDING = 0 → s.wakeEnabled 8 = true →
  s.tnet ≤ s.get PRC_SLPWAKE_L_TNET + s.get PRC_SLPWAKE_H_TNET * 2 ^ 32 →
      completes (.sleepTimer) s fun t => t.power.wakes.contains 8 = true ∧ bit (t.get PRC_WAKESRC_SRC) 8 = true ∧
        t.mem = s.mem)

/-- Supply, temperature and clock supervision, and the two watchdogs (R456, R457, R458, R459, R460, R234,
19_power_reset_clocks.md) -/
def Obligations.SupplyClockAndWatchdogs : Prop :=
  (∀ (s : State) (mv : Fin 4096), s.power.state ≠ .standby → s.power.state ≠ .off →
      completes (.vsupSample mv) s fun t => t.get PRC_SUPMEAS_VSUP = mv.val ∧
        t.get PRC_STATUS_VSUP_LOW % 2 = (if mv.val < 1800 + 100 * s.get PRC_SUPCFG_WARN then (if s.get PRC_STATUS_VSUP_LOW = 0 then 1 else s.get PRC_STATUS_VSUP_LOW % 2) else if 1850 + 100 * s.get PRC_SUPCFG_WARN ≤ mv.val then 0 else s.get PRC_STATUS_VSUP_LOW % 2) ∧
        (mv.val < 1800 + 100 * s.get PRC_SUPCFG_WARN → s.get PRC_STATUS_VSUP_LOW = 0 → t.event 2 = true) ∧ (mv.val < 1640 →
        t.power.resetReq.contains 2 = true) ∧ (1640 ≤ mv.val → t.power.resetReq = s.power.resetReq)) ∧
  (∀ (s : State) (x : Int), 4 * (s.get PRC_SUPCFG_THERM : Int) < x → s.get PRC_STATUS_THERM_HOT = 0 →
      completes (.thermalWarn x) s fun t => t.get PRC_STATUS_THERM_HOT = 1 ∧ t.event 6 = true ∧
        t.get RFC_TEMP_TEMP = unsigned 12 x % 2 ^ 12) ∧
  (∀ (s : State) (x : Int), x ≤ 4 * (s.get PRC_SUPCFG_THERM : Int) - 20 →
      completes (.thermHotClear x) s fun t => t.get PRC_STATUS_THERM_HOT = 0 ∧ t.get RFC_TEMP_TEMP = unsigned 12 x % 2 ^ 12) ∧
  (∀ (s : State) (n : Nat) (d : Nat), (s.power.state = .run ∨ s.power.state = .doze ∨ s.power.state = .sleep) →
  d = (10 * ((n : Int) - 4800000)).natAbs →
      completes (.clkDeviate n) s fun t => (s.get PRC_SUPCFG_DEV * 480 < d → t.get PRC_STATUS_CLK_DEV = 1 ∧
        t.event 3 = true) ∧ (d ≤ s.get PRC_SUPCFG_DEV * 480 → t.get PRC_STATUS_CLK_DEV = s.get PRC_STATUS_CLK_DEV) ∧
        (n = 4800480 → t.get PRC_SUPMEAS_DEV_LAST = 100)) ∧
  (∀ (s : State), s.get PRC_STATUS_REF_FAIL = 0 → s.power.state ≠ .standby → s.power.state ≠ .off →
      completes (.clockFail) s fun t => t.power.resetReq.contains 9 = true ∧ (∀ u ∈ s.airUnit.toList, u.phase ≠ .ackWait →
        t.radio.txWindow = false)) ∧
  (∀ (s : State), s.get PRC_STATUS_REF_FAIL = 1 → s.get PRC_STATUS_REF_OK = 0 →
      completes (.refOk) s fun t => t.get PRC_STATUS_REF_OK = 1 ∧ t.event 3 = true) ∧
  (∀ (s : State),
      (exec (.vioLow) s = .next (s.setPower { s.power with vio := false }) ∧
       exec (.vioRestored) s = .next (s.setPower { s.power with vio := true }))) ∧
  (∀ (s : State), (∀ w ∈ s.tag.write.toList, w.block < 2048) →
      completes (.backupDomainLost) s fun t => t.power.state = .off ∧ t.power.supply = false ∧ t.power.tnetRuns = false ∧
        t.rtc.oscRuns = false ∧ t.get RTC_YEAR_YEAR = RTC_YEAR_YEAR.reset % 4096 ∧ (∀ k : Fin 64,
        t.byte (backupRam + k.val) = 0)) ∧
  (∀ (s : State) (c1 : Bool), s.get (PRC_WDT_CFG_EN (ofBool c1)) = 0 →
      completes (.watchdogEnable c1) s fun t => t.get (PRC_WDT_CFG_EN (ofBool c1)) = 1 ∧
        t.get (PRC_WDT_STAT_REMAIN (ofBool c1)) = s.get (PRC_WDT_CFG_TIMEOUT (ofBool c1)) % 2 ^ 16 ∧
        t.get (PRC_WDT_STAT_RUNNING (ofBool c1)) = 1 ∧
        t.get (PRC_WDT_CFG_EN (ofBool !c1)) = s.get (PRC_WDT_CFG_EN (ofBool !c1))) ∧
  (∀ (s : State) (c1 : Bool) (r : Nat), s.get (PRC_WDT_CFG_EN (ofBool c1)) = 1 → s.wdtPaused (ofBool c1) = false →
  r = s.get (PRC_WDT_STAT_REMAIN (ofBool c1)) - 1 → r < 65536 →
      completes (.watchdogTick c1) s fun t => t.get (PRC_WDT_STAT_REMAIN (ofBool c1)) = r ∧
        ((s.get (PRC_WDT_CFG_WARN (ofBool c1)) = r ∧ r ≠ 0) → t.get (PRC_WDT_STAT_WARNED (ofBool c1)) = 1 ∧
        t.event (4 + ofBool c1) = true)) ∧
  (∀ (s : State) (c1 : Bool), (s.get (PRC_WDT_CFG_EN (ofBool c1)) = 0 ∨ s.wdtPaused (ofBool c1) = true) →
  exec (.watchdogTick c1) s = .next (s)) ∧
  (∀ (s : State) (c1 : Bool), s.get (PRC_WDT_CFG_EN (ofBool c1)) = 1 → s.wdtPaused (ofBool c1) = false →
  s.get (PRC_WDT_STAT_REMAIN (ofBool c1)) = 0 →
      completes (.watchdogExpiry c1) s fun t => t.power.resetReq.contains (if c1 = true then 5 else 4) = true) ∧
  (∀ (s : State) (c1 : Bool) (v : Word), v.toNat = 0xA5A5 →
  exec (.watchdogKick c1 v) s = .next (s.setWdt (ofBool c1) { s.wdt (ofBool c1) with half := true })) ∧
  (∀ (s : State) (c1 : Bool) (v : Word), v.toNat = 0x5A5A → (s.wdt (ofBool c1)).half = true →
  s.get (PRC_WDT_CFG_EN (ofBool c1)) = 1 → (∀ n ∈ (s.wdt (ofBool c1)).since.toList,
  s.get (PRC_WDT_CFG_WINDOW (ofBool c1)) ≤ n) →
      completes (.watchdogKick c1 v) s fun t => t.get (PRC_WDT_STAT_REMAIN (ofBool c1)) = s.get (PRC_WDT_CFG_TIMEOUT (ofBool c1)) % 2 ^ 16 ∧
        t.get (PRC_WDT_STAT_WARNED (ofBool c1)) = 0 ∧ t.power.resetReq = s.power.resetReq ∧
        t.wdt (ofBool c1) = { half := false, since := some 0 }) ∧
  (∀ (s : State) (c1 : Bool) (v : Word) (n : Nat), v.toNat = 0x5A5A → (s.wdt (ofBool c1)).half = true →
  s.get (PRC_WDT_CFG_EN (ofBool c1)) = 1 → (s.wdt (ofBool c1)).since = some n → n < s.get (PRC_WDT_CFG_WINDOW (ofBool c1)) →
      completes (.watchdogKick c1 v) s fun t => t.power.resetReq.contains (if c1 = true then 5 else 4) = true) ∧
  (∀ (s : State) (c1 : Bool) (v : Word), v.toNat ≠ 0xA5A5 → v.toNat ≠ 0x5A5A → s.get (PRC_WDT_CFG_EN (ofBool c1)) = 1 →
      completes (.watchdogKick c1 v) s fun t => t.power.resetReq.contains (if c1 = true then 5 else 4) = true ∧
        (t.wdt (ofBool c1)).half = false)

/-- Reset requests, the device and core resets, their release, the ball hold and the block resets (R461, R462, R463, R464,
R465, R466, R467, R492, 19_power_reset_clocks.md) -/
def Obligations.ResetsAndBlockResets : Prop :=
  (∀ (s : State) (v : Fin 65536), v.val = 0x5253 → exec (.deviceResetCommand v) s = .next (s.requestReset 6)) ∧
  (∀ (s : State) (v : Fin 65536), v.val = 0x5253 → exec (.core1ResetCommand v) s = .next (s.requestReset 7)) ∧
  (∀ (s : State) (v : Fin 65536), v.val ≠ 0x5253 →
      (exec (.deviceResetCommand v) s = .next (s) ∧
       exec (.core1ResetCommand v) s = .next (s))) ∧
  (∀ (s : State) (c1 : Bool),
      completes (.debugResetRequest c1) s fun t => t.power.resetReq.contains (if c1 = true then 0x48 else 8) = true) ∧
  (∀ (s : State) (n : Nat), 32 ≤ n → (∀ c ∈ s.power.stretch, c = 3) →
      completes (.pinReset n) s fun t => t.power.resetReq.contains 3 = true) ∧
  (∀ (s : State) (n : Nat), n < 32 → exec (.pinReset n) s = .next (s)) ∧
  (∀ (s : State), (s.power.supply = false ∨ s.power.state = .off ∨ (s.power.state = .standby ∧ s.power.wakes ≠ [])) →
      completes (.powerOn) s fun t => t.power.resetReq.contains 1 = true ∧ (s.power.state ≠ .standby →
        t.power.supply = true)) ∧
  (∀ (s : State), s.power.resetReq.any (fun c => decide (resetReach s.power.state c = Reach.cold)) = true →
  s.power.stretch = [] → s.power.state ≠ .sleep → s.power.state ≠ .deep →
      completes (.deviceReset) s fun t => t.power.state = .run ∧ t.power.resetReq = [] ∧
        t.power.stretch = s.power.resetReq ∧ t.boot.cold = true ∧ t.tnet = 0 ∧ (∀ k : Fin 8,
        t.byte (0x20000000 + 512 * k.val) = 0) ∧ t.mac = {} ∧ t.core1 = {} ∧ t.radio.duty = [] ∧ t.pins.held = none ∧
        t.get PRC_RSTCAUSE_CAUSE = minCode (s.codesOf .cold) % 256 ∧
        t.get PRC_RSTSRC_SOURCES = sourceBits s.power.resetReq % 2 ^ 14) ∧
  (∀ (s : State), s.codesOf .cold = [] → s.codesOf .warm ≠ [] → s.power.stretch = [] → s.power.state ≠ .sleep →
  s.power.state ≠ .deep →
      completes (.deviceReset) s fun t => t.power.state = .run ∧ t.power.resetReq = [] ∧
        t.power.stretch = s.power.resetReq ∧ t.boot.cold = false ∧ t.tnet = 0 ∧ t.mac = {} ∧ t.core1 = {} ∧
        t.pins.held.isSome = true ∧ t.get PRC_CTRL_PIN_HOLD = 1 ∧
        t.get PRC_RSTCAUSE_CAUSE = minCode (s.codesOf .warm) % 256 ∧
        t.get PRC_RSTSRC_SOURCES = sourceBits s.power.resetReq % 2 ^ 14 ∧ t.boot.recoveryReq = s.boot.recoveryReq) ∧
  (∀ (s : State), s.power.resetReq ≠ [] → s.codesOf .cold = [] → s.codesOf .warm = [] → s.power.stretch = [] →
  s.power.state ≠ .sleep → s.power.state ≠ .deep → s.mode ≠ modeTest → s.faults.entries.length < 16 →
      completes (.deviceReset) s fun t => t.power.resetReq = [] ∧ t.core1 = s.core1.resetOwn ∧
        t.get (PRC_WDT_CFG_EN 1) = 0 ∧ t.get PRC_RSTCAUSE_C1_CAUSE = minCode s.power.resetReq % 256 ∧ t.core0 = s.core0 ∧
        t.mem = s.mem) ∧
  (∀ (s : State), s.power.resetReq ≠ [] → s.codesOf .cold = [] → s.power.stretch ≠ [] → s.power.state ≠ .sleep →
  s.power.state ≠ .deep →
      completes (.deviceReset) s fun t => t.power.resetReq = [] ∧ t.power.stretch = s.power.stretch ++ s.power.resetReq ∧
        t.get PRC_RSTCAUSE_CAUSE = s.get PRC_RSTCAUSE_CAUSE ∧ t.mem = s.mem ∧ t.core0 = s.core0) ∧
  (∀ (s : State), (s.power.resetReq = [] ∨ ((s.power.state = .sleep ∨ s.power.state = .deep) ∧
  s.power.resetReq.contains 0x0E = false ∧ s.power.resetReq.contains 9 = false)) →
      (exec (.deviceReset) s = .next (s))) ∧
  (∀ (s : State) (b : Bool), s.power.stretch ≠ [] →
      completes (.resetRelease b) s fun t => t.power.stretch = [] ∧ t.boot.due = true ∧
        t.get PRC_RSTCAUSE_PIN_HELD = (if b = true ∧ s.get PRC_RSTCAUSE_CAUSE ≠ 3 then 1 else 0) ∧
        (s.get PRC_STATUS_REF_FAIL = 0 → t.power.tnetRuns = true) ∧ t.mem = s.mem) ∧
  (∀ (s : State), exec (.holdRelease) s = .next ({ s.flag PRC_CTRL_PIN_HOLD false with pins := { s.pins with held := none } })) ∧
  (∀ (s : State) (f : RegField), f.key / 0x200000 = 0x4007 → s.get PRC_BLKRST_BLOCK = 0 →
      completes (.blockReset 32) s fun t => t.pke = {} ∧ t.get f = f.reset ∧ t.get PRC_BLKRST_BLOCK = 32 ∧ t.mem = s.mem ∧
        t.mac = s.mac) ∧
  (∀ (s : State) (f : RegField), f.key / 0x200000 = 0x4003 → s.get PRC_BLKRST_BLOCK = 0 → s.mode ≠ modeCompat →
      completes (.blockReset 4) s fun t => t.get f = f.reset ∧ t.get PRC_BLKRST_BLOCK = 4) ∧
  (∀ (s : State), s.mode = modeCompat → s.get PRC_BLKRST_BLOCK = 0 → exec (.blockReset 15) s = .next (s)) ∧
  (∀ (s : State) (n : Fin 9), bit (s.get PRC_BLKRST_BLOCK) n = true → (n = 8 → s.tag.write = none) → 1 < n.val →
      completes (.blockResetRelease n) s fun t => t.get PRC_BLKRST_BLOCK = clearBit (s.get PRC_BLKRST_BLOCK) n % 2 ^ PRC_BLKRST_BLOCK.width ∧
        t.mem = s.mem) ∧
  (∀ (s : State), bit (s.get PRC_BLKRST_BLOCK) 0 = true →
      completes (.blockResetRelease 0) s fun t => bit (t.get PRC_BLKRST_BLOCK) 0 = false ∧ (t.path .t).goal = some 1 ∧
        (t.path .a).goal = some 1)

/-- The boot after a release, the update commands, the staged package, the trial and the swap request (R430, R431, R433, R435,
R436, R438, R444, 18_boot_identity_update.md) -/
def Obligations.BootUpdateAndSwap : Prop :=
  (∀ (s : State) (o : Bool), s.boot.due = true →
      completes (.bootRom o) s fun t => t.boot.firmware = true ∨ (t.get PRC_MODE_MODE = modeRecovery ∧
        t.boot.firmware = false)) ∧
  (∀ (s : State) (o : Bool), s.boot.due = true → s.rootBlank = true →
      completes (.bootRom o) s fun t => t.mode = modeRecovery ∧ t.get BTU_BOOTSTAT_OTP_FAULT = 1 ∧ t.event 0 = true ∧
        t.boot.firmware = false ∧ t.boot.due = false) ∧
  (∀ (s : State) (o : Bool), s.boot.due = false → exec (.bootRom o) s = .next (s)) ∧
  (∀ (s : State) (env : DictEnv), s.boot.upd.state ≠ 4 → (s.boot.upd.state ≠ 2 ∨ env.writing = false) →
  exec (.updBegin env) s = .next ((s.setUpd { state := 1 }).answer .ok)) ∧
  (∀ (s : State) (env : DictEnv), s.boot.upd.state = 4 → exec (.updBegin env) s = .next (s.answer .access)) ∧
  (∀ (s : State) (env : DictEnv), s.boot.upd.state = 2 → env.writing = true → exec (.updBegin env) s = .next (s.answer .busy)) ∧
  (∀ (s : State) (off : Word) (bs : List Byte) (env : DictEnv), 0 < bs.length → bs.length ≤ 1020 → s.boot.upd.state = 1 →
  off.toNat = s.boot.upd.bytes.length → off.toNat + bs.length < 16 →
  exec (.updateData off bs env) s = .next ((s.setUpd { s.boot.upd with bytes := s.boot.upd.bytes ++ bs }).answer .ok)) ∧
  (∀ (s : State) (off : Word) (bs p : List Byte) (env : DictEnv), 0 < bs.length → bs.length ≤ 1020 → s.boot.upd.state = 1 →
  off.toNat = s.boot.upd.bytes.length → p = s.boot.upd.bytes ++ bs → 16 ≤ p.length → (pkgHeaderOk p = false ∨
  (pkgHead p ≤ p.length ∧ pkgFormed p false = false)) →
  exec (.updateData off bs env) s = .next (((s.setUpd { s.boot.upd with bytes := p }).updRefuse 1).answer .ok)) ∧
  (∀ (s : State) (off : Word) (bs p : List Byte) (r : Nat) (env : DictEnv), 0 < bs.length → bs.length ≤ 1020 →
  s.boot.upd.state = 1 → off.toNat = s.boot.upd.bytes.length → p = s.boot.upd.bytes ++ bs → pkgHeaderOk p = true →
  pkgHead p ≤ p.length → s.pkgCheck p false = some r →
  exec (.updateData off bs env) s = .next (((s.setUpd { s.boot.upd with bytes := p }).updRefuse r).answer .ok)) ∧
  (∀ (s : State) (off : Word) (bs : List Byte) (env : DictEnv), 0 < bs.length → bs.length ≤ 1020 → (s.boot.upd.state = 1 ∨
  (s.boot.upd.state = 2 ∧ env.writing = false)) → off.toNat ≠ s.boot.upd.bytes.length →
  exec (.updateData off bs env) s = .next ((s.updRefuse 11).answer .ok)) ∧
  (∀ (s : State) (off : Word) (bs : List Byte) (env : DictEnv), 0 < bs.length → bs.length ≤ 1020 → s.boot.upd.state ≠ 1 →
  s.boot.upd.state ≠ 2 → exec (.updateData off bs env) s = .next (s.answer .access)) ∧
  (∀ (s : State), s.boot.upd.state = 2 → s.boot.upd.staged = pkgCount s.boot.upd.bytes →
      completes (.updateStaged) s fun t => t.boot.upd = { s.boot.upd with state := 3 } ∧ t.event 104 = true ∧
        t.host = s.host ∧ (∀ b : Fin 2048, t.byte (0x20000000 + b.val) = s.byte (0x20000000 + b.val))) ∧
  (∀ (s : State), (s.boot.upd.state ≠ 2 ∨ s.boot.upd.staged ≠ pkgCount s.boot.upd.bytes) → exec (.updateStaged) s = .next (s)) ∧
  (∀ (s : State) (env : DictEnv), s.boot.upd.state = 3 → s.get BTU_LOCK_LOCK = 0 →
  exec (.updCommit env) s = .next (((s.flag BTU_SWAP_REQ true).requestReset 6).answer .ok)) ∧
  (∀ (s : State) (env : DictEnv), s.boot.upd.state ≠ 3 → s.boot.upd.state ≠ 4 →
      (exec (.updCommit env) s = .next (s.answer .access) ∧
       exec (.updConfirm env) s = .next (s.answer .access) ∧
       exec (.trialTimeout) s = .next (s))) ∧
  (∀ (s : State) (env : DictEnv), (s.boot.upd.state = 1 ∨ s.boot.upd.state = 2) →
  exec (.updateAbort env) s = .next ((s.setUpd { state := 5, reason := 12 }).answer .ok)) ∧
  (∀ (s : State) (env : DictEnv), (s.boot.upd.state = 3 ∨ s.boot.upd.state = 5) →
  exec (.updateAbort env) s = .next ((s.setUpd {}).answer .ok)) ∧
  (∀ (s : State) (env : DictEnv), s.boot.upd.state = 4 → env.otpFail = false →
      completes (.updConfirm env) s fun t => t.boot.upd = {} ∧ t.host.result = .ok ∧ t.event 104 = true ∧
        t.get BTU_CNT0_C1 = t.rollback 1 % 256 ∧ t.get BTU_CNT1_CNT = t.rollback 5 % 256 ∧ t.power = s.power) ∧
  (∀ (s : State), s.boot.upd.state = 4 → exec (.trialTimeout) s = .next (s.requestReset 6)) ∧
  (∀ (s : State), s.get BTU_LOCK_LOCK = 0 → exec (.swapRequest) s = .next (s.flag BTU_SWAP_REQ true)) ∧
  (∀ (s : State), s.get BTU_LOCK_LOCK ≠ 0 → exec (.swapRequest) s = .next (s))

/-- The Recovery protocol on host ports and in the tag field (R440, R404, R370, 18_boot_identity_update.md) -/
def Obligations.RecoveryProtocol : Prop :=
  (∀ (s z : State) (id : HostId) (ti : Fin 65536) (env : HostEnv), s.recovers id = some z → (∀ x ∈ s.boot.session.toList,
  x.holder = some id) →
      completes (.rInfo (.host id ti) env) s fun t => z.told t id 0x40 ti .ok ([0, 0, 0,
        0] ++ leBytes 4 (s.regWord BTU_BOOTSTAT_TRIAL.addr) ++ (counterRegs.flatMap fun (f : RegField) => leBytes 1 (s.get f)) ++ s.otp 0x230 4 ++ s.serial) = true) ∧
  (∀ (s z : State) (id : HostId) (ti : Fin 65536) (env : HostEnv) (n : Word), s.recovers id = some z →
  (∀ x ∈ s.boot.session.toList, x.holder = some id) → s.get BTU_BOOTSTAT_OTP_FAULT = 0 →
      completes (.rBegin (.host id ti) n env) s fun t => t.boot.session = some { holder := some id, total := n.toNat } ∧
        z.told t id 0x41 ti .ok [0, 0, 0, 0] = true) ∧
  (∀ (s z : State) (id : HostId) (ti : Fin 65536) (env : HostEnv) (n : Word), s.recovers id = some z →
  (∀ x ∈ s.boot.session.toList, x.holder = some id) → s.get BTU_BOOTSTAT_OTP_FAULT ≠ 0 →
      completes (.rBegin (.host id ti) n env) s fun t => t.boot = s.boot ∧ z.told t id 0x41 ti .access [3, 3, 0, 0] = true) ∧
  (∀ (s z : State) (id : HostId) (ti : Fin 65536) (env : HostEnv) (off : Word) (bs : List Byte) (r : RecSession),
  s.recovers id = some z → (∀ x ∈ s.boot.session.toList, x.holder = some id) → s.boot.session = some r → 0 < bs.length →
  bs.length ≤ 1020 → env.dict.writing = false → off.toNat = r.bytes.length → r.bytes.length + bs.length ≤ r.total →
      completes (.rData (.host id ti) off bs env) s fun t => t.boot.session = some { r with bytes := r.bytes ++ bs } ∧
        z.told t id 0x42 ti .ok [0, 0, 0, 0] = true) ∧
  (∀ (s z : State) (id : HostId) (ti : Fin 65536) (env : HostEnv) (off : Word) (bs : List Byte) (r : RecSession),
  s.recovers id = some z → (∀ x ∈ s.boot.session.toList, x.holder = some id) → s.boot.session = some r → 0 < bs.length →
  bs.length ≤ 1020 → env.dict.writing = false → (off.toNat ≠ r.bytes.length ∨ r.total < r.bytes.length + bs.length) →
      completes (.rData (.host id ti) off bs env) s fun t => t.boot = s.boot ∧
        z.told t id 0x42 ti .range [BitVec.ofNat 8 OdpStatus.range.code, if off.toNat = r.bytes.length then 7 else 11, 0,
        0] = true) ∧
  (∀ (s z : State) (id : HostId) (ti : Fin 65536) (env : HostEnv) (r : RecSession), s.recovers id = some z →
  (∀ x ∈ s.boot.session.toList, x.holder = some id) → s.boot.session = some r → r.bytes.length ≠ r.total →
      completes (.rEnd (.host id ti) env) s fun t => t.boot = s.boot ∧
        z.told t id 0x43 ti .range [BitVec.ofNat 8 OdpStatus.range.code, 1, 0, 0] = true) ∧
  (∀ (s z : State) (id : HostId) (ti : Fin 65536) (env : HostEnv), s.recovers id = some z → (∀ x ∈ s.boot.session.toList,
  x.holder = some id) → s.boot.session = none →
      completes (.rEnd (.host id ti) env) s fun t => t.boot = s.boot ∧ z.told t id 0x43 ti .access [3, 0, 0, 0] = true) ∧
  (∀ (s z : State) (id : HostId) (ti : Fin 65536) (env : HostEnv), s.recovers id = some z → (∀ x ∈ s.boot.session.toList,
  x.holder = some id) →
      completes (.rBoot (.host id ti) env) s fun t => t.boot.session = none ∧ t.power.resetReq.contains 6 = true ∧
        z.told t id 0x44 ti .ok [0, 0, 0, 0] = true) ∧
  (∀ (s z : State) (id : HostId) (ti : Fin 65536) (env : HostEnv) (off : Word) (bs : List Byte) (r : RecSession),
  s.recovers id = some z → s.boot.session = some r → r.holder ≠ some id →
      completes (.rData (.host id ti) off bs env) s fun t => t.boot = s.boot ∧ t.host.result = .busy) ∧
  (∀ (s : State) (req : TagReq) (env : HostEnv) (n : Word), s.mode = modeRecovery → s.portsServed = true →
  s.tagPowered = true → s.tagHears req = true → (∀ x ∈ s.boot.session.toList, x.holder = none) →
  s.get BTU_BOOTSTAT_OTP_FAULT = 0 →
      completes (.rBegin (.field req) n env) s fun t => t.boot.session = some { holder := none, total := n.toNat } ∧
        t.tag.answer = some [0, 0, 0, 0, 0]) ∧
  (∀ (s : State), exec (.recoverySessionTimeout) s = .next ({ s with boot := { s.boot with session := none } }))

/-- SM3, SM2 verification and signature, random words, attestation and the customer root key (R441, R442, R443, R439, R445,
18_boot_identity_update.md) -/
def Obligations.PublicKeyHashAndRandom : Prop :=
  (∀ (s : State) (ct fn : Bool), s.get PKE_STATUS_BUSY = 0 →
      (exec (.pkeSm3 ct fn) s = .next (({ s with pke := { s.pke with run := some { op := 1, cont := ct, fin := fn, src := s.get PKE_SRC_ADDR, len := s.get PKE_LEN_LEN, opaddr := s.get PKE_OPADDR_ADDR } } } : State).flag PKE_STATUS_BUSY true) ∧
       exec (.pkeSm2Verify) s = .next (({ s with pke := { s.pke with run := some { op := 2, cont := false, fin := false, src := s.get PKE_SRC_ADDR, len := s.get PKE_LEN_LEN, opaddr := s.get PKE_OPADDR_ADDR } } } : State).flag PKE_STATUS_BUSY true) ∧
       exec (.pkeSm2Sign) s = .next (({ s with pke := { s.pke with run := some { op := 3, cont := false, fin := false, src := s.get PKE_SRC_ADDR, len := s.get PKE_LEN_LEN, opaddr := s.get PKE_OPADDR_ADDR } } } : State).flag PKE_STATUS_BUSY true) ∧
       exec (.rngRestart) s = .next (((s.flag PKE_RNGSTAT_HEALTH_FAIL false).flag PKE_RNGSTAT_STARTUP true).flag PKE_RNGSTAT_VALID false))) ∧
  (∀ (s : State) (ct fn : Bool), s.get PKE_STATUS_BUSY ≠ 0 →
      (exec (.pkeSm3 ct fn) s = .next (s) ∧
       exec (.pkeSm2Verify) s = .next (s) ∧
       exec (.pkeSm2Sign) s = .next (s) ∧
       exec (.rngRestart) s = .next (s))) ∧
  (∀ (s : State) (r : PkeRun), s.pke.run = some r → r.op = 1 → r.cont = false → r.fin = true → opBlockOk r.opaddr true = true →
  spanSys r.src r.len = true → s.poisonedIn r.src r.len = false → s.poison = [] →
      completes (.pkeDone) s fun t => t.pke.run = none ∧ t.get PKE_STATUS_BUSY = 0 ∧
        t.get PKE_STATUS_COUNT = (s.get PKE_STATUS_COUNT + 1) % 2 ^ 16 ∧ t.event 68 = true ∧ t.get PKE_STATUS_RESULT = 0 ∧
        t.bytes r.opaddr 32 = Config.sm3 (s.bytes r.src r.len) ∧ t.pke.chain = none) ∧
  (∀ (s : State) (r : PkeRun) (c : List Byte), s.pke.run = some r → r.op = 1 → r.fin = false → r.len % 64 = 0 →
  (if r.cont = true then s.pke.chain = some c else c = []) → spanSys r.src r.len = true → s.poisonedIn r.src r.len = false →
      completes (.pkeDone) s fun t => t.pke.run = none ∧ t.get PKE_STATUS_BUSY = 0 ∧
        t.get PKE_STATUS_COUNT = (s.get PKE_STATUS_COUNT + 1) % 2 ^ 16 ∧ t.event 68 = true ∧ t.get PKE_STATUS_RESULT = 0 ∧
        t.pke.chain = some (c ++ s.bytes r.src r.len) ∧ t.mem = s.mem) ∧
  (∀ (s : State) (r : PkeRun), s.pke.run = some r → r.op = 1 → ((r.cont = true ∧ s.pke.chain = none) ∨ (r.fin = false ∧
  r.len % 64 ≠ 0)) →
      completes (.pkeDone) s fun t => t.pke.run = none ∧ t.get PKE_STATUS_BUSY = 0 ∧
        t.get PKE_STATUS_COUNT = (s.get PKE_STATUS_COUNT + 1) % 2 ^ 16 ∧ t.event 68 = true ∧ t.get PKE_STATUS_RESULT = 5 ∧
        t.mem = s.mem) ∧
  (∀ (s : State) (r : PkeRun), s.pke.run = some r → r.op = 1 → (r.cont = false ∨ s.pke.chain.isSome = true) → r.fin = false →
  r.len % 64 = 0 → spanSys r.src r.len = false → spanFlash r.src r.len = false →
      completes (.pkeDone) s fun t => t.pke.run = none ∧ t.get PKE_STATUS_BUSY = 0 ∧
        t.get PKE_STATUS_COUNT = (s.get PKE_STATUS_COUNT + 1) % 2 ^ 16 ∧ t.event 68 = true ∧ t.get PKE_STATUS_RESULT = 2 ∧
        t.mem = s.mem) ∧
  (∀ (s : State) (r : PkeRun), s.pke.run = some r → r.op = 1 → (r.cont = false ∨ s.pke.chain.isSome = true) → r.fin = false →
  r.len % 64 = 0 → spanSys r.src r.len = true → s.poisonedIn r.src r.len = true →
      completes (.pkeDone) s fun t => t.pke.run = none ∧ t.get PKE_STATUS_BUSY = 0 ∧
        t.get PKE_STATUS_COUNT = (s.get PKE_STATUS_COUNT + 1) % 2 ^ 16 ∧ t.event 68 = true ∧ t.get PKE_STATUS_RESULT = 4 ∧
        t.mem = s.mem) ∧
  (∀ (s : State) (r : PkeRun), s.pke.run = some r → r.op = 2 → r.opaddr % 4 = 0 → spanSys r.opaddr 160 = true →
  s.poisonedIn r.opaddr 160 = false →
      completes (.pkeDone) s fun t => t.pke.run = none ∧ t.get PKE_STATUS_BUSY = 0 ∧
        t.get PKE_STATUS_COUNT = (s.get PKE_STATUS_COUNT + 1) % 2 ^ 16 ∧ t.event 68 = true ∧
        t.get PKE_STATUS_RESULT = (if Config.sm2Verify (s.bytes (r.opaddr + 32) 64) (s.bytes r.opaddr 32) (s.bytes (r.opaddr + 96) 64) = true then 0 else 1) ∧
        t.mem = s.mem) ∧
  (∀ (s : State) (r : PkeRun), s.pke.run = some r → r.op = 3 → s.get PKE_RNGSTAT_STARTUP = 0 →
  s.get PKE_RNGSTAT_HEALTH_FAIL = 0 → opBlockOk r.opaddr true = true → s.poison = [] →
      completes (.pkeDone) s fun t => t.pke.run = none ∧ t.get PKE_STATUS_BUSY = 0 ∧
        t.get PKE_STATUS_COUNT = (s.get PKE_STATUS_COUNT + 1) % 2 ^ 16 ∧ t.event 68 = true ∧ t.get PKE_STATUS_RESULT = 0 ∧
        t.bytes (r.opaddr + 96) 64 = Config.sm2Sign (s.otp 0x060 32) (s.bytes r.opaddr 32) (s.freeBytes 32).1) ∧
  (∀ (s : State) (r : PkeRun), s.pke.run = some r → r.op = 3 → s.get PKE_RNGSTAT_STARTUP = 0 →
  s.get PKE_RNGSTAT_HEALTH_FAIL ≠ 0 →
      completes (.pkeDone) s fun t => t.pke.run = none ∧ t.get PKE_STATUS_BUSY = 0 ∧
        t.get PKE_STATUS_COUNT = (s.get PKE_STATUS_COUNT + 1) % 2 ^ 16 ∧ t.event 68 = true ∧ t.get PKE_STATUS_RESULT = 3 ∧
        t.mem = s.mem) ∧
  (∀ (s : State), s.get PKE_RNGSTAT_HEALTH_FAIL = 0 →
      completes (.rngRead) s fun t => t.host.readData = t.get PKE_RNG_VALUE ∧ t.get PKE_RNGSTAT_VALID = 1 ∧
        t.get PKE_RNGSTAT_STARTUP = 0 ∧ t.mac.lfsr = t.get PKE_RNG_VALUE ∧ t.free = s.free + 1) ∧
  (∀ (s : State), s.get PKE_RNGSTAT_HEALTH_FAIL = 0 →
      completes (.rngWord) s fun t => t.get PKE_RNGSTAT_VALID = 1 ∧ t.get PKE_RNGSTAT_STARTUP = 0 ∧
        t.mac.lfsr = t.get PKE_RNG_VALUE ∧ t.host = s.host) ∧
  (∀ (s : State), s.get PKE_RNGSTAT_HEALTH_FAIL ≠ 0 →
      (exec (.rngRead) s = .next ({ s with host := { s.host with readData := 0 } }) ∧
       exec (.rngWord) s = .next (s))) ∧
  (∀ (s : State), bit s.faults.openMask 0x19 = false →
      completes (.trngHealth) s fun t => t.get PKE_RNGSTAT_HEALTH_FAIL = 1 ∧ t.get PKE_RNGSTAT_VALID = 0 ∧
        t.get PKE_RNG_VALUE = 0 ∧ t.get PKE_RNGSTAT_FAILS = satInc 8 (s.get PKE_RNGSTAT_FAILS) % 2 ^ 8 ∧ t.event 69 = true ∧
        t.event 9 = true ∧ bit t.faults.openMask 0x19 = true) ∧
  (∀ (s : State) (n : List Byte), 0 < n.length → n.length ≤ 32 → s.get PKE_RNGSTAT_HEALTH_FAIL = 0 →
      completes (.attestationNonce n) s fun t => t.boot.report = s.attBody n ++ Config.sm2Sign (s.otp 0x060 32) (Config.sm3 (Config.sm2Za (s.otp 0x020 64) ++ s.attBody n)) (s.freeBytes 32).1 ∧
        t.host.result = .ok ∧ t.mem = s.mem) ∧
  (∀ (s : State) (n : List Byte), 0 < n.length → n.length ≤ 32 → s.get PKE_RNGSTAT_HEALTH_FAIL ≠ 0 →
  exec (.attestationNonce n) s = .next (s.answer .busy)) ∧
  (∀ (s : State) (ky : List Byte) (env : DictEnv), ky.length = 64 → s.otpNum 0x230 4 ≠ 0x5A5A5A5A → env.otpFail = false →
      completes (.customerRootKeyWrite ky env) s fun t => t.customerRoot = some ky ∧ t.host.result = .ok ∧
        t.auquerenRoot = s.auquerenRoot) ∧
  (∀ (s : State) (ky : List Byte) (env : DictEnv), ky.length = 64 → s.otpNum 0x230 4 = 0x5A5A5A5A →
  exec (.customerRootKeyWrite ky env) s = .next (s.answer .access)) ∧
  (∀ (s : State) (ky : List Byte) (env : DictEnv), ky.length = 64 → s.otpNum 0x230 4 ≠ 0x5A5A5A5A → env.otpFail = true →
  exec (.customerRootKeyWrite ky env) s = .next (s.answer .persistFail))

/-- A register write without a row of its own sets fields by their access codes or is ignored (R6, R7, R383, R443, R467, R469,
00_scope.md) -/
def Obligations.RegisterWritesByAccessCode : Prop :=
  (∀ (s : State) (v : Word) (b : Bool), bit v.toNat 9 = false → s.get PRC_CTRL_CORE_CLK < 4 → s.get PRC_CTRL_ENTRY_TO < 256 →
      completes (.registerWrite 0 v false b) s fun t => t.get PRC_CTRL_DOZE_EN = slice v.toNat 0 1 ∧
        t.get PRC_CTRL_CORE_CLK = (if slice v.toNat 1 2 = 3 then s.get PRC_CTRL_CORE_CLK else slice v.toNat 1 2) ∧
        t.get PRC_CTRL_ENTRY_TO = (if s.get PRC_LOCK_LOCK ≠ 0 ∨
        slice v.toNat 16 8 = 0 then s.get PRC_CTRL_ENTRY_TO else slice v.toNat 16 8) ∧
        t.get PRC_CTRL_PIN_HOLD = s.get PRC_CTRL_PIN_HOLD ∧ t.power = s.power) ∧
  (∀ (s : State) (v : Word) (b : Bool), s.get PRC_STATUS_CLK_DEV < 2 →
      completes (.registerWrite 4 v false b) s fun t => t.get PRC_STATUS_CLK_DEV = (if bit v.toNat 2 = true then 0 else s.get PRC_STATUS_CLK_DEV) ∧
        t.get PRC_STATUS_VSUP_LOW = s.get PRC_STATUS_VSUP_LOW ∧ t.get PRC_STATUS_THERM_HOT = s.get PRC_STATUS_THERM_HOT ∧
        t.get PRC_STATUS_REF_FAIL = s.get PRC_STATUS_REF_FAIL) ∧
  (∀ (s : State) (v : Word) (b : Bool), bit (s.get PRC_BLKRST_BLOCK) 5 = false → s.get PKE_LOCK_LOCK = 0 →
  s.get PKE_SRC_ADDR < 2 ^ 32 → s.get PKE_OPADDR_ADDR < 2 ^ 32 → s.get PKE_LEN_LEN < 2 ^ 24 →
      (exec (.registerWrite 0x70008 v false b) s = .next (s.put PKE_SRC_ADDR v.toNat) ∧
       exec (.registerWrite 0x7000C v false b) s = .next (s.put PKE_LEN_LEN (v.toNat % 2 ^ 24)) ∧
       exec (.registerWrite 0x70010 v false b) s = .next (s.put PKE_OPADDR_ADDR v.toNat))) ∧
  (∀ (s : State) (v : Word) (b : Bool), bit (s.get PRC_BLKRST_BLOCK) 5 = false → s.get PKE_LOCK_LOCK = 1 →
      (exec (.registerWrite 0x70004 v false b) s = .next (s) ∧
       exec (.registerWrite 0x70008 v false b) s = .next (s) ∧
       exec (.registerWrite 0x7000C v false b) s = .next (s) ∧
       exec (.registerWrite 0x70010 v false b) s = .next (s))) ∧
  (∀ (s : State) (v : Word) (b : Bool), bit (s.get PRC_BLKRST_BLOCK) 5 = false → s.get PKE_LOCK_LOCK < 2 →
      completes (.registerWrite 0x70014 v false b) s fun t => t.get PKE_LOCK_LOCK = (if bit v.toNat 0 = true then 1 else s.get PKE_LOCK_LOCK)) ∧
  (∀ (s : State) (a : Fin 1310720) (v : Word) (c b : Bool), a.val / 0x10000 = 15 → exec (.registerWrite a v c b) s = .next (s)) ∧
  (∀ (s : State) (a : Fin 1310720) (v : Word) (c b : Bool), a.val / 0x10000 = 19 →
  (findReg pinRegs (0x40000000 + a.val / 4 * 4)).isNone = true → exec (.registerWrite a v c b) s = .next (s)) ∧
  (∀ (s : State) (a : Fin 1310720) (v : Word) (b : Bool), answers true (0x40000000 + a.val / 4 * 4) = false →
  exec (.registerWrite a v true b) s = .next (s.busInfo (0x40000000 + a.val / 4 * 4))) ∧
  (∀ (s : State) (a : Fin 1310720) (v : Word) (c b : Bool) (k : Nat), resetBit (a.val / 0x10000) = some k →
  bit (s.get PRC_BLKRST_BLOCK) k = true → exec (.registerWrite a v c b) s = .next (s.busInfo (0x40000000 + a.val / 4 * 4)))

/-- Every command completes in every state and changes only the parts of the state that it may change (00_scope.md,
01_architecture.md, 95_what_each_step_holds.md) -/
def Obligations.EveryCommandCompletesWithinItsFrame : Prop :=
  ∀ (c : Instr) (s : State), completes c s fun t => only (mayChange c) s t ∧ t.pending = s.pending ∧ t.partT = s.partT

/-- A step carries out the command at the front of the queue with the queue's rest; on an empty queue one cycle passes
(00_scope.md, 01_architecture.md) -/
def Obligations.StepTakesTheFrontCommand : Prop :=
  (∀ (c : Instr) (cs : List Instr) (s : State), s.pending = c :: cs → step s = exec c { s with pending := cs }) ∧
  (∀ s : State, s.pending = [] → ∃ t, step s = .next t ∧ t.clock = s.clock + 1 ∧ only [.clock, .tnet, .mac] s t ∧
    t.tnet = (if s.power.tnetRuns = true then (s.tnet + 1) % 2 ^ 64 else s.tnet))

/-- The state after reset is in canonical form, with an empty queue and nothing in memory (R25, R462, 00_scope.md) -/
def Obligations.TheResetStateIsCanonical : Prop :=
  State.reset.wf ∧ State.reset.pending = [] ∧ State.reset.mem = [] ∧ State.reset.get PRC_RSTCAUSE_CAUSE = 1 ∧
    (∀ f : RegField, f.key ≠ PRC_RSTCAUSE_CAUSE.key → f.key ≠ PRC_RSTSRC_SOURCES.key → State.reset.get f = f.reset) ∧
    State.reset.mode = modeCompat ∧ State.reset.power.state = .run

/-- Every step from a canonical state gives a canonical state, takes one command off the queue and keeps the part
(00_scope.md, 01_architecture.md, 13_memories_error_codes.md) -/
def Obligations.EveryStepKeepsTheCanonicalForm : Prop :=
  ∀ s : State, s.wf → ∃ t, step s = .next t ∧ t.wf ∧ t.pending = s.pending.tail ∧ t.partT = s.partT
end

