-- ==== Sys2Proof/Laws/Moves.lean ====
section
/-! SUPPORT. Which parts of the state an operation may change, with the canonical form of the maps kept: the relation, how it
composes, and its lemmas for the operations of State that are not made of others. -/
set_option linter.all false
namespace Sys2Proof.Machine

/-- The bit of a part in a footprint. -/
def Part.code : Part → Nat
  | .tnet => 0 | .clock => 1 | .mem => 2 | .poison => 3 | .faults => 4 | .power => 5 | .radio => 6 | .slot => 7 | .mac => 8
  | .sec => 9 | .gnss => 10 | .rtc => 11 | .evr => 12 | .memctl => 13 | .flash => 14 | .core0 => 15 | .core1 => 16 | .lgy => 17
  | .tag => 18 | .host => 19 | .boot => 20 | .pke => 21 | .pins => 22 | .objs => 23 | .free => 24 | .pending => 25 | .partT => 26
  | .regs b => 27 + b.val

/-- Only the parts in footprint `m` differ between `s` and `t`, and `t` is canonical where `s` is. -/
def Moves (m : Nat) (s t : State) : Prop := (∀ p : Part, m.testBit p.code = false → p.same s t) ∧ (s.wf → t.wf)

theorem Part.same_refl (p : Part) (s : State) : p.same s s := by cases p <;> simp [Part.same]

theorem Part.same_trans {p : Part} {r s t : State} (h : p.same r s) (g : p.same s t) : p.same r t := by
  cases p with
  | regs b => exact fun f hf => (g f hf).trans (h f hf)
  | mem => exact fun a => (g a).trans (h a)
  | _ => exact Eq.trans g h

theorem Moves.refl {m : Nat} {s : State} : Moves m s s := ⟨fun p _ => p.same_refl s, id⟩

/-- Footprint `a` lies within `b`. -/
def sub (a b : Nat) : Bool := Nat.beq (Nat.land a b) a

theorem sub_testBit {a b n : Nat} (h : sub a b = true) (hb : b.testBit n = false) : a.testBit n = false := by
  have h : a &&& b = a := Nat.eq_of_beq_eq_true h
  rw [← h, Nat.testBit_and, hb, Bool.and_false]

theorem Moves.mono {a b : Nat} {s t : State} (h : Moves a s t) (hs : sub a b = true) : Moves b s t :=
  ⟨fun p hp => h.1 p (sub_testBit hs hp), h.2⟩

theorem Moves.trans {m : Nat} {r s t : State} (h : Moves m r s) (g : Moves m s t) : Moves m r t :=
  ⟨fun p hp => Part.same_trans (h.1 p hp) (g.1 p hp), g.2 ∘ h.2⟩

theorem sub_trans {a b c : Nat} (h : sub a b = true) (g : sub b c = true) : sub a c = true := by
  have h : a &&& b = a := Nat.eq_of_beq_eq_true h
  have g : b &&& c = b := Nat.eq_of_beq_eq_true g
  show Nat.beq (a &&& c) a = true
  rw [← h, Nat.and_assoc, g]
  exact Nat.beq_refl _

/-- A change with a smaller footprint after another one. -/
theorem Moves.mono' {m a : Nat} {r s t : State} (g : Moves a s t) (h : Moves m r s) (hs : sub a m = true) : Moves m r t :=
  h.trans (g.mono hs)

/-- An operation with a smaller footprint follows. -/
theorem Moves.step {m a : Nat} {r s t : State} (h : Moves m r s) (g : Moves a s t) (hs : sub a m = true) : Moves m r t :=
  h.trans (g.mono hs)

theorem Moves.by {m a : Nat} {r s t : State} (g : Moves a s t) (hs : sub a m = true) (h : Moves m r s) : Moves m r t := h.step g hs

theorem ite_moves {m : Nat} {r a b : State} {c : Prop} [Decidable c] (ha : Moves m r a) (hb : Moves m r b) :
    Moves m r (if c then a else b) := by split <;> assumption

theorem ite_snd_moves {m : Nat} {r : State} {α : Type} {a b : α × State} {c : Prop} [Decidable c] (ha : Moves m r a.2)
    (hb : Moves m r b.2) : Moves m r (if c then a else b).2 := by split <;> assumption

theorem foldl_moves {m : Nat} {r s : State} {α : Type} {l : List α} {f : State → α → State} (hs : Moves m r s)
    (hf : ∀ s x, Moves m r s → Moves m r (f s x)) : Moves m r (l.foldl f s) := by
  induction l generalizing s with
  | nil => exact hs
  | cons x l ih => exact ih (hf s x hs)

/-- A named intermediate state. -/
theorem Moves.cut {m : Nat} {z : State} {P : Prop} (x : State) (h : Moves m z x) (k : Moves m z x → P) : P := k h

theorem some_moves {m : Nat} {r s z : State} (h : Moves m r s) : Moves m r ((some s).getD z) := h

theorem none_moves {m : Nat} {z : State} : Moves m z ((none : Option State).getD z) := Moves.refl

/-- A command goes on, and changes only the footprint. -/
def Goes (m : Nat) (s : State) (o : Host.Outcome State Fault Refusal) : Prop := ∃ t, o = .next t ∧ Moves m s t

theorem goOn_goes {m : Nat} {s t : State} (h : Moves m s t) : Goes m s (goOn t) := ⟨t, rfl, h⟩

theorem ite_goes {m : Nat} {s : State} {a b : Host.Outcome State Fault Refusal} {c : Prop} [Decidable c] (ha : Goes m s a)
    (hb : Goes m s b) : Goes m s (if c then a else b) := by split <;> assumption

theorem Goes.next {m : Nat} {s t : State} {o : Host.Outcome State Fault Refusal} (h : Goes m s o) (e : o = .next t) : Moves m s t := by
  obtain ⟨u, hu, hm⟩ := h
  cases hu.symm.trans e
  exact hm

theorem Goes.step {m a : Nat} {r s : State} {o : Host.Outcome State Fault Refusal} (h : Moves m r s) (g : Goes a s o)
    (hs : sub a m = true) : Goes m r o :=
  let ⟨t, ht, hm⟩ := g
  ⟨t, ht, h.step hm hs⟩

theorem Goes.by {m a : Nat} {r s : State} {o : Host.Outcome State Fault Refusal} (g : Goes a s o) (hs : sub a m = true)
    (h : Moves m r s) : Goes m r o := Goes.step h g hs

/-! Sparse maps. -/

theorem Sparse.sortedFrom_mono {α : Type} {m : Sparse α} {a b : Nat} (h : Sparse.sortedFrom b m = true) (hab : a ≤ b) :
    Sparse.sortedFrom a m = true := by
  cases m with
  | nil => rfl
  | cons e m =>
    simp only [Sparse.sortedFrom, Bool.and_eq_true, decide_eq_true_eq] at h ⊢
    exact ⟨by omega, h.2⟩

theorem Sparse.sortedFrom_filter {α : Type} {m : Sparse α} {b : Nat} (p : Nat × α → Bool) (h : Sparse.sortedFrom b m = true) :
    Sparse.sortedFrom b (m.filter p) = true := by
  induction m generalizing b with
  | nil => rfl
  | cons e m ih =>
    simp only [Sparse.sortedFrom, Bool.and_eq_true, decide_eq_true_eq] at h
    rw [List.filter_cons]
    split
    · simp only [Sparse.sortedFrom, Bool.and_eq_true, decide_eq_true_eq]
      exact ⟨h.1, ih h.2⟩
    · exact Sparse.sortedFrom_mono (ih h.2) (by omega)

theorem Sparse.sortedFrom_place {α : Type} {m : Sparse α} {b k : Nat} (v : α) (h : Sparse.sortedFrom b m = true) (hk : b ≤ k)
    (hm : ∀ e ∈ m, e.1 ≠ k) : Sparse.sortedFrom b (m.place k v) = true := by
  induction m generalizing b with
  | nil => simp [Sparse.place, Sparse.sortedFrom, hk]
  | cons e m ih =>
    simp only [Sparse.sortedFrom, Bool.and_eq_true, decide_eq_true_eq] at h
    have hne := hm e (by simp)
    simp only [Sparse.place]
    split
    · simp only [Sparse.sortedFrom, Bool.and_eq_true, decide_eq_true_eq]
      exact ⟨hk, by omega, h.2⟩
    · simp only [Sparse.sortedFrom, Bool.and_eq_true, decide_eq_true_eq]
      exact ⟨h.1, ih h.2 (by omega) fun e he => hm e (by simp [he])⟩

theorem Sparse.sortedFrom_write {α : Type} [DecidableEq α] {m : Sparse α} (d : α) (k : Nat) (v : α)
    (h : Sparse.sortedFrom 0 m = true) : Sparse.sortedFrom 0 (Sparse.write d m k v) = true := by
  unfold Sparse.write Sparse.erase
  split
  · exact Sparse.sortedFrom_filter _ h
  · exact Sparse.sortedFrom_place v (Sparse.sortedFrom_filter _ h) (Nat.zero_le _) (by simp [List.mem_filter])

theorem Sparse.mem_place {α : Type} {m : Sparse α} {k : Nat} {v : α} {e : Nat × α} (h : e ∈ m.place k v) : e = (k, v) ∨ e ∈ m := by
  induction m with
  | nil => simpa [Sparse.place] using h
  | cons x m ih =>
    simp only [Sparse.place] at h
    split at h
    · simpa using h
    · simp only [List.mem_cons] at h ⊢
      rcases h with h | h
      · exact .inr (.inl h)
      · rcases ih h with h | h
        · exact .inl h
        · exact .inr (.inr h)

theorem Sparse.wf_write {α : Type} [DecidableEq α] {d : Nat → α} {m : Sparse α} (k : Nat) (v : α) (h : Sparse.wf d m = true) :
    Sparse.wf d (Sparse.write (d k) m k v) = true := by
  simp only [Sparse.wf, Bool.and_eq_true, List.all_eq_true, decide_eq_true_eq] at h ⊢
  refine ⟨Sparse.sortedFrom_write _ k v h.1, fun e he => ?_⟩
  unfold Sparse.write Sparse.erase at he
  split at he
  · exact h.2 e (List.mem_filter.mp he).1
  · rename_i hv
    rcases Sparse.mem_place he with rfl | he
    · exact hv
    · exact h.2 e (List.mem_filter.mp he).1

theorem Sparse.wf_filter {α : Type} [DecidableEq α] {d : Nat → α} {m : Sparse α} (p : Nat × α → Bool) (h : Sparse.wf d m = true) :
    Sparse.wf d (m.filter p) = true := by
  simp only [Sparse.wf, Bool.and_eq_true, List.all_eq_true, decide_eq_true_eq] at h ⊢
  exact ⟨Sparse.sortedFrom_filter p h.1, fun e he => h.2 e (List.mem_filter.mp he).1⟩

theorem Sparse.read_erase {α : Type} (d : α) (m : Sparse α) (k j : Nat) (h : j ≠ k) :
    Sparse.read d (m.erase k) j = Sparse.read d m j := by
  induction m with
  | nil => rfl
  | cons e m ih =>
    unfold Sparse.erase at ih ⊢
    rw [List.filter_cons]
    split
    · simp only [Sparse.read]
      rw [ih]
    · rename_i hk
      have : e.1 = k := by simpa using hk
      simp only [Sparse.read, ih]
      rw [if_neg (by omega)]

theorem Sparse.read_place {α : Type} (d : α) (m : Sparse α) (k j : Nat) (v : α) (hm : ∀ e ∈ m, e.1 ≠ k) :
    Sparse.read d (m.place k v) j = if j = k then v else Sparse.read d m j := by
  induction m with
  | nil => simp [Sparse.place, Sparse.read, eq_comm]
  | cons e m ih =>
    have hne := hm e (by simp)
    have ih := ih fun x hx => hm x (by simp [hx])
    simp only [Sparse.place]
    split
    · simp [Sparse.read, eq_comm]
    · simp only [Sparse.read, ih]
      split
      · rw [if_neg (by omega)]
      · rfl

theorem Sparse.read_erase_self {α : Type} (d : α) (m : Sparse α) (k : Nat) : Sparse.read d (m.erase k) k = d := by
  induction m with
  | nil => rfl
  | cons e m ih =>
    unfold Sparse.erase at ih ⊢
    rw [List.filter_cons]
    split
    · rename_i hk
      simp only [Sparse.read, ih]
      rw [if_neg (by simpa using hk)]
    · exact ih

/-- What a key reads after a write. -/
theorem Sparse.read_write {α : Type} [DecidableEq α] (d : α) (m : Sparse α) (k j : Nat) (v : α) :
    Sparse.read d (Sparse.write d m k v) j = if j = k then v else Sparse.read d m j := by
  unfold Sparse.write
  split
  · rename_i hv
    split
    · rename_i hj
      rw [hj, Sparse.read_erase_self, hv]
    · rename_i hj
      exact Sparse.read_erase d m k j hj
  · rw [Sparse.read_place]
    · split
      · rfl
      · rename_i hj
        exact Sparse.read_erase d m k j hj
    · intro e he
      unfold Sparse.erase at he
      simpa using (List.mem_filter.mp he).2

/-- Reading a key other than the written one, whatever the defaults. -/
theorem Sparse.read_write_ne {α : Type} [DecidableEq α] (d d' : α) (m : Sparse α) (k j : Nat) (v : α) (h : j ≠ k) :
    Sparse.read d' (Sparse.write d m k v) j = Sparse.read d' m j := by
  unfold Sparse.write
  split
  · exact Sparse.read_erase d' m k j h
  · rw [Sparse.read_place, if_neg h, Sparse.read_erase d' m k j h]
    intro e he
    unfold Sparse.erase at he
    simpa using (List.mem_filter.mp he).2

theorem Sparse.read_filter {α : Type} (d : α) (m : Sparse α) (p : Nat × α → Bool) (j : Nat) (h : ∀ v, p (j, v) = true) :
    Sparse.read d (m.filter p) j = Sparse.read d m j := by
  induction m with
  | nil => rfl
  | cons e m ih =>
    rw [List.filter_cons]
    split
    · simp only [Sparse.read, ih]
    · rename_i hp
      simp only [Sparse.read, ih]
      by_cases he : e.1 = j
      · subst he; exact absurd (h e.2) hp
      · rw [if_neg he]

/-! Register fields and memory bytes. -/

theorem State.put_moves {f : RegField} {b m : Nat} (s : State) (v : Nat) (hf : f.inBlock b) (hm : m.testBit (27 + b) = true) :
    Moves m s (s.put f v) := by
  refine ⟨fun p hp => ?_, fun h => ⟨h.1, Sparse.sortedFrom_write _ _ _ h.2.1, h.2.2⟩⟩
  cases p with
  | regs c =>
    intro g hg
    unfold State.get State.put
    refine Sparse.read_write_ne _ _ _ _ _ _ fun he => ?_
    unfold RegField.inBlock at hf hg
    rw [he, hf] at hg
    have : b = c.val := by omega
    rw [show Part.code (.regs c) = 27 + c.val from rfl, ← this, hm] at hp
    cases hp
  | mem => exact fun _ => rfl
  | _ => rfl

theorem State.flag_moves {f : RegField} {b m : Nat} (s : State) (v : Bool) (hf : f.inBlock b) (hm : m.testBit (27 + b) = true) :
    Moves m s (s.flag f v) := s.put_moves _ hf hm

theorem State.bump_moves {f : RegField} {b m : Nat} (s : State) (hf : f.inBlock b) (hm : m.testBit (27 + b) = true) :
    Moves m s (s.bump f) := s.put_moves _ hf hm

theorem State.bumpWrap_moves {f : RegField} {b m : Nat} (s : State) (hf : f.inBlock b) (hm : m.testBit (27 + b) = true) :
    Moves m s (s.bumpWrap f) := s.put_moves _ hf hm

theorem Moves.put {m b : Nat} {r s : State} {f : RegField} {v : Nat} (h : Moves m r s) (hf : f.inBlock b)
    (hm : m.testBit (27 + b) = true) : Moves m r (s.put f v) := h.trans (s.put_moves v hf hm)

theorem Moves.flag {m b : Nat} {r s : State} {f : RegField} {v : Bool} (h : Moves m r s) (hf : f.inBlock b)
    (hm : m.testBit (27 + b) = true) : Moves m r (s.flag f v) := h.trans (s.flag_moves v hf hm)

theorem Moves.bump {m b : Nat} {r s : State} {f : RegField} (h : Moves m r s) (hf : f.inBlock b)
    (hm : m.testBit (27 + b) = true) : Moves m r (s.bump f) := h.trans (s.bump_moves hf hm)

theorem Moves.bumpWrap {m b : Nat} {r s : State} {f : RegField} (h : Moves m r s) (hf : f.inBlock b)
    (hm : m.testBit (27 + b) = true) : Moves m r (s.bumpWrap f) := h.trans (s.bumpWrap_moves hf hm)

/-- Every field of a list lies in block `b`. -/
def allIn (fs : List RegField) (b : Nat) : Prop := ∀ f ∈ fs, f.inBlock b

theorem State.loadFields_moves {fs : List RegField} {b m : Nat} (s : State) (w : Nat) (hf : allIn fs b)
    (hm : m.testBit (27 + b) = true) : Moves m s (s.loadFields fs w) := by
  unfold State.loadFields
  induction fs generalizing s with
  | nil => exact Moves.refl
  | cons f fs ih =>
    exact (s.put_moves _ (hf f (by simp)) hm).trans (ih _ fun g hg => hf g (by simp [hg]))

theorem Moves.loadFields {m b : Nat} {r s : State} {fs : List RegField} {w : Nat} (hf : allIn fs b)
    (hm : m.testBit (27 + b) = true) (h : Moves m r s) : Moves m r (s.loadFields fs w) := h.trans (s.loadFields_moves w hf hm)

theorem State.zeroBytes_moves (s : State) (a n : Nat) : Moves 4 s (s.zeroBytes a n) := by
  refine ⟨fun p hp => ?_, fun h => ⟨Sparse.wf_filter _ h.1, h.2⟩⟩
  cases p with
  | mem => exact absurd hp (by decide)
  | regs c => exact fun _ _ => rfl
  | _ => rfl

theorem Poison.wf_filter {p : Sparse Bool} (f : Nat × Bool → Bool) (h : Poison.wf p = true) : Poison.wf (p.filter f) = true := by
  simp only [Poison.wf, Bool.and_eq_true, List.all_eq_true] at h ⊢
  exact ⟨Sparse.wf_filter f h.1, fun e he => h.2 e (List.mem_filter.mp he).1⟩

theorem Poison.wf_write {p : Sparse Bool} (a : Nat) (h : Poison.wf p = true) :
    Poison.wf (Sparse.write false p (a - a % 4) true) = true := by
  simp only [Poison.wf, Bool.and_eq_true, List.all_eq_true] at h ⊢
  refine ⟨Sparse.wf_write (d := fun _ => false) _ true h.1, fun e he => ?_⟩
  unfold Sparse.write Sparse.erase at he
  split at he
  · exact h.2 e (List.mem_filter.mp he).1
  · rcases Sparse.mem_place he with rfl | he
    · simp only [beq_iff_eq]
      omega
    · exact h.2 e (List.mem_filter.mp he).1

theorem State.poison_moves (s : State) (p : Sparse Bool) (h : s.wf → Poison.wf p = true) :
    Moves 8 s { s with poison := p } := by
  refine ⟨fun q hp => ?_, fun g => ⟨g.1, g.2.1, h g, g.2.2.2⟩⟩
  cases q with
  | poison => exact absurd hp (by decide)
  | regs c => exact fun _ _ => rfl
  | mem => exact fun _ => rfl
  | _ => rfl

theorem State.poisonWrite_moves (s : State) (a : Nat) : Moves 8 s { s with poison := Sparse.write false s.poison (a - a % 4) true } :=
  s.poison_moves _ fun g => Poison.wf_write a g.2.2.1

/-- A range of one block's keys returns to reset. -/
theorem State.dropBlock_moves {s : State} {b lo hi : Nat} (h0 : (0x40000000 + 0x10000 * b) * 32 ≤ lo)
    (h1 : hi ≤ (0x40000000 + 0x10000 * (b + 1)) * 32) : Moves (1 <<< (27 + b)) s { s with fields := Sparse.dropRange s.fields lo hi } := by
  refine ⟨fun p hp => ?_, fun g => ⟨g.1, Sparse.sortedFrom_filter _ g.2.1, g.2.2⟩⟩
  cases p with
  | regs c =>
    intro f hf
    refine Sparse.read_filter _ _ _ _ fun _ => ?_
    have hc : c.val ≠ b := by
      rintro rfl
      simp [Part.code, Nat.testBit_shiftLeft] at hp
    unfold RegField.inBlock at hf
    simp only [Bool.or_eq_true, decide_eq_true_eq]
    omega
  | mem => exact fun _ => rfl
  | _ => rfl

theorem Moves.dropBlock {m b lo hi : Nat} {r s : State} (h0 : (0x40000000 + 0x10000 * b) * 32 ≤ lo)
    (h1 : hi ≤ (0x40000000 + 0x10000 * (b + 1)) * 32) (hm : sub (1 <<< (27 + b)) m = true) (h : Moves m r s) :
    Moves m r { s with fields := Sparse.dropRange s.fields lo hi } := h.step (State.dropBlock_moves h0 h1) hm

/-- The footprint of everything but the clock, the queue and the part number. -/
theorem remake_moves {m : Nat} {s t : State} (hm : m = 140737387692029) (h1 : t.partT = s.partT) (h2 : t.clock = s.clock)
    (h3 : t.pending = s.pending) (hw : s.wf → t.wf) : Moves m s t := by
  subst hm
  refine ⟨fun p hp => ?_, hw⟩
  cases p with
  | clock => exact h2
  | pending => exact h3
  | partT => exact h1
  | regs c =>
    have : ∀ c : Fin 20, Nat.testBit 140737387692029 (27 + c.val) = true := by decide
    exact absurd (this c) (by rw [show 27 + c.val = Part.code (.regs c) from rfl, hp]; decide)
  | _ => exact absurd hp (by decide)

theorem State.objs_moves (s : State) (key : Nat) (v : List Byte) :
    Moves 8388608 s { s with objs := Sparse.write [] s.objs key v } := by
  refine ⟨fun q hp => ?_, fun g => ⟨g.1, g.2.1, g.2.2.1, Sparse.wf_write (d := fun _ => []) key v g.2.2.2⟩⟩
  cases q with
  | objs => exact absurd hp (by decide)
  | regs c => exact fun _ _ => rfl
  | mem => exact fun _ => rfl
  | _ => rfl

theorem State.setByte_moves (s : State) (a : Nat) (b : Byte) : Moves 4 s (s.setByte a b) := by
  refine ⟨fun p hp => ?_, fun h => ⟨Sparse.wf_write a b h.1, h.2⟩⟩
  cases p with
  | mem => exact absurd hp (by decide)
  | regs c => exact fun _ _ => rfl
  | _ => rfl

theorem State.setBytes_moves (s : State) (a : Nat) (bs : List Byte) : Moves 4 s (s.setBytes a bs) := by
  induction bs generalizing s a with
  | nil => exact Moves.refl
  | cons b bs ih => exact (s.setByte_moves a b).trans (ih _ _)

end Sys2Proof.Machine
end

