-- ==== Sys2Proof/Laws/Fields.lean ====
section
/-! SUPPORT. The register block of every field, and of every row of the register map. -/
set_option linter.all false
namespace Sys2Proof.Machine

theorem RegField.inBlock_array {a st n l w r b i : Nat} (hn : 0 < n) (h0 : 0x40000000 + 0x10000 * b ≤ a)
    (h1 : a + st * (n - 1) < 0x40000000 + 0x10000 * (b + 1)) (hl : l < 32) : (⟨a + st * (i % n), l, w, r⟩ : RegField).inBlock b := by
  have h2 : st * (i % n) ≤ st * (n - 1) := Nat.mul_le_mul_left _ (by have := Nat.mod_lt i hn; omega)
  simp only [RegField.inBlock, RegField.key]
  omega

/-- Every row of a register's fields lies in block `b`. -/
def rowsIn (b : Nat) : List FieldRow → Prop
  | [] => True
  | r :: rs => r.field.inBlock b ∧ rowsIn b rs

/-- Every register of a map lies in block `b`. -/
def regsIn (b : Nat) : List RegRow → Prop
  | [] => True
  | r :: rs => (∀ i, rowsIn b (r.rows i)) ∧ regsIn b rs

/-! Block 0, PRC. -/

theorem PRC_CTRL_DOZE_EN_block : PRC_CTRL_DOZE_EN.inBlock 0 := rfl
theorem PRC_CTRL_CORE_CLK_block : PRC_CTRL_CORE_CLK.inBlock 0 := rfl
theorem PRC_CTRL_PIN_HOLD_block : PRC_CTRL_PIN_HOLD.inBlock 0 := rfl
theorem PRC_CTRL_HOLD_REL_block : PRC_CTRL_HOLD_REL.inBlock 0 := rfl
theorem PRC_CTRL_ENTRY_TO_block : PRC_CTRL_ENTRY_TO.inBlock 0 := rfl
theorem PRC_STATUS_VSUP_LOW_block : PRC_STATUS_VSUP_LOW.inBlock 0 := rfl
theorem PRC_STATUS_THERM_HOT_block : PRC_STATUS_THERM_HOT.inBlock 0 := rfl
theorem PRC_STATUS_CLK_DEV_block : PRC_STATUS_CLK_DEV.inBlock 0 := rfl
theorem PRC_STATUS_REF_FAIL_block : PRC_STATUS_REF_FAIL.inBlock 0 := rfl
theorem PRC_STATUS_REF_OK_block : PRC_STATUS_REF_OK.inBlock 0 := rfl
theorem PRC_RSTCAUSE_CAUSE_block : PRC_RSTCAUSE_CAUSE.inBlock 0 := rfl
theorem PRC_RSTCAUSE_C1_CAUSE_block : PRC_RSTCAUSE_C1_CAUSE.inBlock 0 := rfl
theorem PRC_RSTCAUSE_FROM_STANDBY_block : PRC_RSTCAUSE_FROM_STANDBY.inBlock 0 := rfl
theorem PRC_RSTCAUSE_PIN_HELD_block : PRC_RSTCAUSE_PIN_HELD.inBlock 0 := rfl
theorem PRC_RSTCAUSE_STEP_block : PRC_RSTCAUSE_STEP.inBlock 0 := rfl
theorem PRC_RSTCMD_SCOPE_block : PRC_RSTCMD_SCOPE.inBlock 0 := rfl
theorem PRC_RSTCMD_CONFIRM_block : PRC_RSTCMD_CONFIRM.inBlock 0 := rfl
theorem PRC_MODE_MODE_block : PRC_MODE_MODE.inBlock 0 := rfl
theorem PRC_MODE_PREV_block : PRC_MODE_PREV.inBlock 0 := rfl
theorem PRC_MODE_UNLOCKED_block : PRC_MODE_UNLOCKED.inBlock 0 := rfl
theorem PRC_MODE_PENDING_block : PRC_MODE_PENDING.inBlock 0 := rfl
theorem PRC_PWRCMD_STATE_block : PRC_PWRCMD_STATE.inBlock 0 := rfl
theorem PRC_PWRSTAT_LAST_block : PRC_PWRSTAT_LAST.inBlock 0 := rfl
theorem PRC_PWRSTAT_PENDING_block : PRC_PWRSTAT_PENDING.inBlock 0 := rfl
theorem PRC_PWRSTAT_RESULT_block : PRC_PWRSTAT_RESULT.inBlock 0 := rfl
theorem PRC_PWRSTAT_CMD_REJ_block : PRC_PWRSTAT_CMD_REJ.inBlock 0 := rfl
theorem PRC_PWRSTAT_TNET_RESTORED_block : PRC_PWRSTAT_TNET_RESTORED.inBlock 0 := rfl
theorem PRC_PWRSTAT_ENTRIES_block : PRC_PWRSTAT_ENTRIES.inBlock 0 := rfl
theorem PRC_WAKEEN_EN_block : PRC_WAKEEN_EN.inBlock 0 := rfl
theorem PRC_WAKESRC_SRC_block : PRC_WAKESRC_SRC.inBlock 0 := rfl
theorem PRC_WAKESRC_FIRST_block : PRC_WAKESRC_FIRST.inBlock 0 := rfl
theorem PRC_DEEPRET_GRANULE0_block (i : Nat) : (PRC_DEEPRET_GRANULE0 i).inBlock 0 := RegField.inBlock_array (by decide) (by decide) (by decide) (by decide)
theorem PRC_DEEPRET_EN0_block (i : Nat) : (PRC_DEEPRET_EN0 i).inBlock 0 := RegField.inBlock_array (by decide) (by decide) (by decide) (by decide)
theorem PRC_DEEPRET_GRANULE1_block (i : Nat) : (PRC_DEEPRET_GRANULE1 i).inBlock 0 := RegField.inBlock_array (by decide) (by decide) (by decide) (by decide)
theorem PRC_DEEPRET_EN1_block (i : Nat) : (PRC_DEEPRET_EN1 i).inBlock 0 := RegField.inBlock_array (by decide) (by decide) (by decide) (by decide)
theorem PRC_DEEPRET_GRANULE2_block (i : Nat) : (PRC_DEEPRET_GRANULE2 i).inBlock 0 := RegField.inBlock_array (by decide) (by decide) (by decide) (by decide)
theorem PRC_DEEPRET_EN2_block (i : Nat) : (PRC_DEEPRET_EN2 i).inBlock 0 := RegField.inBlock_array (by decide) (by decide) (by decide) (by decide)
theorem PRC_DEEPRET_GRANULE3_block (i : Nat) : (PRC_DEEPRET_GRANULE3 i).inBlock 0 := RegField.inBlock_array (by decide) (by decide) (by decide) (by decide)
theorem PRC_DEEPRET_EN3_block (i : Nat) : (PRC_DEEPRET_EN3 i).inBlock 0 := RegField.inBlock_array (by decide) (by decide) (by decide) (by decide)
theorem PRC_SLPWAKE_L_TNET_block : PRC_SLPWAKE_L_TNET.inBlock 0 := rfl
theorem PRC_SLPWAKE_H_TNET_block : PRC_SLPWAKE_H_TNET.inBlock 0 := rfl
theorem PRC_SUPCFG_WARN_block : PRC_SUPCFG_WARN.inBlock 0 := rfl
theorem PRC_SUPCFG_THERM_block : PRC_SUPCFG_THERM.inBlock 0 := rfl
theorem PRC_SUPCFG_DEV_block : PRC_SUPCFG_DEV.inBlock 0 := rfl
theorem PRC_SUPMEAS_VSUP_block : PRC_SUPMEAS_VSUP.inBlock 0 := rfl
theorem PRC_SUPMEAS_DEV_LAST_block : PRC_SUPMEAS_DEV_LAST.inBlock 0 := rfl
theorem PRC_BLKRST_BLOCK_block : PRC_BLKRST_BLOCK.inBlock 0 := rfl
theorem PRC_WDT_CFG_TIMEOUT_block (i : Nat) : (PRC_WDT_CFG_TIMEOUT i).inBlock 0 := RegField.inBlock_array (by decide) (by decide) (by decide) (by decide)
theorem PRC_WDT_CFG_WARN_block (i : Nat) : (PRC_WDT_CFG_WARN i).inBlock 0 := RegField.inBlock_array (by decide) (by decide) (by decide) (by decide)
theorem PRC_WDT_CFG_WINDOW_block (i : Nat) : (PRC_WDT_CFG_WINDOW i).inBlock 0 := RegField.inBlock_array (by decide) (by decide) (by decide) (by decide)
theorem PRC_WDT_CFG_EN_block (i : Nat) : (PRC_WDT_CFG_EN i).inBlock 0 := RegField.inBlock_array (by decide) (by decide) (by decide) (by decide)
theorem PRC_WDT_KICK_VALUE_block (i : Nat) : (PRC_WDT_KICK_VALUE i).inBlock 0 := RegField.inBlock_array (by decide) (by decide) (by decide) (by decide)
theorem PRC_WDT_STAT_REMAIN_block (i : Nat) : (PRC_WDT_STAT_REMAIN i).inBlock 0 := RegField.inBlock_array (by decide) (by decide) (by decide) (by decide)
theorem PRC_WDT_STAT_RUNNING_block (i : Nat) : (PRC_WDT_STAT_RUNNING i).inBlock 0 := RegField.inBlock_array (by decide) (by decide) (by decide) (by decide)
theorem PRC_WDT_STAT_WARNED_block (i : Nat) : (PRC_WDT_STAT_WARNED i).inBlock 0 := RegField.inBlock_array (by decide) (by decide) (by decide) (by decide)
theorem PRC_WDT_STAT_PAUSED_block (i : Nat) : (PRC_WDT_STAT_PAUSED i).inBlock 0 := RegField.inBlock_array (by decide) (by decide) (by decide) (by decide)
theorem PRC_LOCK_LOCK_block : PRC_LOCK_LOCK.inBlock 0 := rfl
theorem PRC_RSTSRC_SOURCES_block : PRC_RSTSRC_SOURCES.inBlock 0 := rfl

/-! Block 1, RFC. -/

theorem RFC_CTRL_ANT_CFG_block : RFC_CTRL_ANT_CFG.inBlock 1 := rfl
theorem RFC_CTRL_FDX_EN_block : RFC_CTRL_FDX_EN.inBlock 1 := rfl
theorem RFC_CTRL_RET_T_block : RFC_CTRL_RET_T.inBlock 1 := rfl
theorem RFC_CTRL_RET_A_block : RFC_CTRL_RET_A.inBlock 1 := rfl
theorem RFC_CTRL_RET_B_block : RFC_CTRL_RET_B.inBlock 1 := rfl
theorem RFC_STATE_STATE_A_block : RFC_STATE_STATE_A.inBlock 1 := rfl
theorem RFC_STATE_STATE_B_block : RFC_STATE_STATE_B.inBlock 1 := rfl
theorem RFC_STATE_STATE_T_block : RFC_STATE_STATE_T.inBlock 1 := rfl
theorem RFC_STATE_TRSW_block : RFC_STATE_TRSW.inBlock 1 := rfl
theorem RFC_STATE_VSUP_HI_block : RFC_STATE_VSUP_HI.inBlock 1 := rfl
theorem RFC_STATE_FREQ_ERR_block : RFC_STATE_FREQ_ERR.inBlock 1 := rfl
theorem RFC_STATE_CMD_REJ_block : RFC_STATE_CMD_REJ.inBlock 1 := rfl
theorem RFC_CMD_PATH_block : RFC_CMD_PATH.inBlock 1 := rfl
theorem RFC_CMD_TARGET_block : RFC_CMD_TARGET.inBlock 1 := rfl
theorem RFC_FREQ_A_FREQ_block : RFC_FREQ_A_FREQ.inBlock 1 := rfl
theorem RFC_FREQ_B_FREQ_block : RFC_FREQ_B_FREQ.inBlock 1 := rfl
theorem RFC_FREQ_T_FREQ_block : RFC_FREQ_T_FREQ.inBlock 1 := rfl
theorem RFC_CALCFG_POLICY_block : RFC_CALCFG_POLICY.inBlock 1 := rfl
theorem RFC_CALCFG_BG_EN_block : RFC_CALCFG_BG_EN.inBlock 1 := rfl
theorem RFC_CALCFG_DELTA_T_block : RFC_CALCFG_DELTA_T.inBlock 1 := rfl
theorem RFC_CALCFG_RESSEL_block : RFC_CALCFG_RESSEL.inBlock 1 := rfl
theorem RFC_CALCMD_TYPE_block : RFC_CALCMD_TYPE.inBlock 1 := rfl
theorem RFC_CALCMD_TARGET_block : RFC_CALCMD_TARGET.inBlock 1 := rfl
theorem RFC_CALSTAT_BUSY_block : RFC_CALSTAT_BUSY.inBlock 1 := rfl
theorem RFC_CALSTAT_LAST_TYPE_block : RFC_CALSTAT_LAST_TYPE.inBlock 1 := rfl
theorem RFC_CALSTAT_LAST_TARGET_block : RFC_CALSTAT_LAST_TARGET.inBlock 1 := rfl
theorem RFC_CALSTAT_RESULT_block : RFC_CALSTAT_RESULT.inBlock 1 := rfl
theorem RFC_CALSTAT_COUNT_block : RFC_CALSTAT_COUNT.inBlock 1 := rfl
theorem RFC_CALRES_VCO_BAND_block : RFC_CALRES_VCO_BAND.inBlock 1 := rfl
theorem RFC_CALRES_VCO_CAPTRIM_block : RFC_CALRES_VCO_CAPTRIM.inBlock 1 := rfl
theorem RFC_CALRES_VCO_LOCK_TIME_block : RFC_CALRES_VCO_LOCK_TIME.inBlock 1 := rfl
theorem RFC_CALRES_IMR_GAIN_CORR_block : RFC_CALRES_IMR_GAIN_CORR.inBlock 1 := rfl
theorem RFC_CALRES_IMR_PHASE_CORR_block : RFC_CALRES_IMR_PHASE_CORR.inBlock 1 := rfl
theorem RFC_CALRES_IMR_IMR_DB_block : RFC_CALRES_IMR_IMR_DB.inBlock 1 := rfl
theorem RFC_CALRES_CHBW_BW_block : RFC_CALRES_CHBW_BW.inBlock 1 := rfl
theorem RFC_CALRES_CHBW_TRIM_block : RFC_CALRES_CHBW_TRIM.inBlock 1 := rfl
theorem RFC_CALRES_XTAL_ERR_PPB_block : RFC_CALRES_XTAL_ERR_PPB.inBlock 1 := rfl
theorem RFC_CALRES_DCIQ_DC_I_block : RFC_CALRES_DCIQ_DC_I.inBlock 1 := rfl
theorem RFC_CALRES_DCIQ_DC_Q_block : RFC_CALRES_DCIQ_DC_Q.inBlock 1 := rfl
theorem RFC_CALRES_DCIQ_IQ_GAIN_block : RFC_CALRES_DCIQ_IQ_GAIN.inBlock 1 := rfl
theorem RFC_CALRES_DCIQ_IQ_PHASE_block : RFC_CALRES_DCIQ_IQ_PHASE.inBlock 1 := rfl
theorem RFC_TEMP_TEMP_block : RFC_TEMP_TEMP.inBlock 1 := rfl
theorem RFC_TEMP_TEMP_CAL_T_block : RFC_TEMP_TEMP_CAL_T.inBlock 1 := rfl
theorem RFC_GAIN_A_AGC_AUTO_block : RFC_GAIN_A_AGC_AUTO.inBlock 1 := rfl
theorem RFC_GAIN_A_GAIN_block : RFC_GAIN_A_GAIN.inBlock 1 := rfl
theorem RFC_GAIN_A_SAT_COUNT_block : RFC_GAIN_A_SAT_COUNT.inBlock 1 := rfl
theorem RFC_GAIN_B_AGC_AUTO_block : RFC_GAIN_B_AGC_AUTO.inBlock 1 := rfl
theorem RFC_GAIN_B_GAIN_block : RFC_GAIN_B_GAIN.inBlock 1 := rfl
theorem RFC_GAIN_B_SAT_COUNT_block : RFC_GAIN_B_SAT_COUNT.inBlock 1 := rfl
theorem RFC_EXTCTL_PA_EN_EN_block : RFC_EXTCTL_PA_EN_EN.inBlock 1 := rfl
theorem RFC_EXTCTL_PA_POL_block : RFC_EXTCTL_PA_POL.inBlock 1 := rfl
theorem RFC_EXTCTL_LNA_A_EN_block : RFC_EXTCTL_LNA_A_EN.inBlock 1 := rfl
theorem RFC_EXTCTL_LNA_A_POL_block : RFC_EXTCTL_LNA_A_POL.inBlock 1 := rfl
theorem RFC_EXTCTL_LNA_B_EN_block : RFC_EXTCTL_LNA_B_EN.inBlock 1 := rfl
theorem RFC_EXTCTL_LNA_B_POL_block : RFC_EXTCTL_LNA_B_POL.inBlock 1 := rfl
theorem RFC_EXTCTL_TR_EN_block : RFC_EXTCTL_TR_EN.inBlock 1 := rfl
theorem RFC_EXTCTL_TR_POL_block : RFC_EXTCTL_TR_POL.inBlock 1 := rfl
theorem RFC_EXTCTL_EXT_LNA_GAIN_block : RFC_EXTCTL_EXT_LNA_GAIN.inBlock 1 := rfl
theorem RFC_REGSTAT_REGLOCK_block : RFC_REGSTAT_REGLOCK.inBlock 1 := rfl
theorem RFC_REGSTAT_PROFILE_VALID_block : RFC_REGSTAT_PROFILE_VALID.inBlock 1 := rfl
theorem RFC_REGSTAT_LAST_REASON_block : RFC_REGSTAT_LAST_REASON.inBlock 1 := rfl
theorem RFC_REGSTAT_SUPPLY_block : RFC_REGSTAT_SUPPLY.inBlock 1 := rfl
theorem RFC_REGSTAT_LAST_BAND_block : RFC_REGSTAT_LAST_BAND.inBlock 1 := rfl
theorem RFC_REGSTAT_NO_BAND_block : RFC_REGSTAT_NO_BAND.inBlock 1 := rfl
theorem RFC_REGSTAT_REFUSALS_block : RFC_REGSTAT_REFUSALS.inBlock 1 := rfl
theorem RFC_DUTYSEL_GROUP_block : RFC_DUTYSEL_GROUP.inBlock 1 := rfl
theorem RFC_DUTYUSE_USED_block : RFC_DUTYUSE_USED.inBlock 1 := rfl
theorem RFC_DUTYUSE_PRECHARGED_block : RFC_DUTYUSE_PRECHARGED.inBlock 1 := rfl
theorem RFC_BLANK_A0_LANES_block : RFC_BLANK_A0_LANES.inBlock 1 := rfl
theorem RFC_BLANK_A1_LANES_block : RFC_BLANK_A1_LANES.inBlock 1 := rfl
theorem RFC_BLANK_B0_LANES_block : RFC_BLANK_B0_LANES.inBlock 1 := rfl
theorem RFC_BLANK_B1_LANES_block : RFC_BLANK_B1_LANES.inBlock 1 := rfl
theorem RFC_TESTCMD_OP_block : RFC_TESTCMD_OP.inBlock 1 := rfl
theorem RFC_TESTDUR_DURATION_block : RFC_TESTDUR_DURATION.inBlock 1 := rfl
theorem RFC_LOCK_LOCK_block : RFC_LOCK_LOCK.inBlock 1 := rfl
theorem RFC_TESTRX_HALF_block : RFC_TESTRX_HALF.inBlock 1 := rfl
theorem RFC_TESTRX_PROFILE_block : RFC_TESTRX_PROFILE.inBlock 1 := rfl
theorem RFC_TESTRX_CHANNEL_block : RFC_TESTRX_CHANNEL.inBlock 1 := rfl

/-! Block 2, CHZ. -/

theorem CHZ_CTRL_PLAN_A_block : CHZ_CTRL_PLAN_A.inBlock 2 := rfl
theorem CHZ_CTRL_PLAN_B_block : CHZ_CTRL_PLAN_B.inBlock 2 := rfl
theorem CHZ_CTRL_TWIN_EN_block : CHZ_CTRL_TWIN_EN.inBlock 2 := rfl
theorem CHZ_CTRL_LEAK_EN_block : CHZ_CTRL_LEAK_EN.inBlock 2 := rfl
theorem CHZ_STATUS_TWIN_ACTIVE_block : CHZ_STATUS_TWIN_ACTIVE.inBlock 2 := rfl
theorem CHZ_STATUS_TWIN_REJ_block : CHZ_STATUS_TWIN_REJ.inBlock 2 := rfl
theorem CHZ_STATUS_PROF_ERR_block : CHZ_STATUS_PROF_ERR.inBlock 2 := rfl
theorem CHZ_STATUS_MAP_BUSY_block : CHZ_STATUS_MAP_BUSY.inBlock 2 := rfl
theorem CHZ_STATUS_UNMAPPED_block : CHZ_STATUS_UNMAPPED.inBlock 2 := rfl
theorem CHZ_CHF0_F0_block : CHZ_CHF0_F0.inBlock 2 := rfl
theorem CHZ_CHSPACE_S_block : CHZ_CHSPACE_S.inBlock 2 := rfl
theorem CHZ_CHCOUNT_N_block : CHZ_CHCOUNT_N.inBlock 2 := rfl
theorem CHZ_MAPQ_CHAN_block : CHZ_MAPQ_CHAN.inBlock 2 := rfl
theorem CHZ_MAPQ_LANE_block : CHZ_MAPQ_LANE.inBlock 2 := rfl
theorem CHZ_MAPQ_HALF_block : CHZ_MAPQ_HALF.inBlock 2 := rfl
theorem CHZ_MAPQ_VALID_block : CHZ_MAPQ_VALID.inBlock 2 := rfl
theorem CHZ_SYNC_SFD_ERR_block : CHZ_SYNC_SFD_ERR.inBlock 2 := rfl
theorem CHZ_SYNC_LEG_ERR_block : CHZ_SYNC_LEG_ERR.inBlock 2 := rfl
theorem CHZ_LEGSYNC_WORD_block : CHZ_LEGSYNC_WORD.inBlock 2 := rfl
theorem CHZ_PROF_MOD_block (i : Nat) : (CHZ_PROF_MOD i).inBlock 2 := RegField.inBlock_array (by decide) (by decide) (by decide) (by decide)
theorem CHZ_PROF_RATE_block (i : Nat) : (CHZ_PROF_RATE i).inBlock 2 := RegField.inBlock_array (by decide) (by decide) (by decide) (by decide)
theorem CHZ_PROF_BT_block (i : Nat) : (CHZ_PROF_BT i).inBlock 2 := RegField.inBlock_array (by decide) (by decide) (by decide) (by decide)
theorem CHZ_PROF_HIDX_block (i : Nat) : (CHZ_PROF_HIDX i).inBlock 2 := RegField.inBlock_array (by decide) (by decide) (by decide) (by decide)
theorem CHZ_PROF_REP_block (i : Nat) : (CHZ_PROF_REP i).inBlock 2 := RegField.inBlock_array (by decide) (by decide) (by decide) (by decide)
theorem CHZ_PROF_SFDG_block (i : Nat) : (CHZ_PROF_SFDG i).inBlock 2 := RegField.inBlock_array (by decide) (by decide) (by decide) (by decide)
theorem CHZ_PROF_FEC_EN_block (i : Nat) : (CHZ_PROF_FEC_EN i).inBlock 2 := RegField.inBlock_array (by decide) (by decide) (by decide) (by decide)
theorem CHZ_PROF_LEG_EN_block (i : Nat) : (CHZ_PROF_LEG_EN i).inBlock 2 := RegField.inBlock_array (by decide) (by decide) (by decide) (by decide)
theorem CHZ_PROF_NAT_EN_block (i : Nat) : (CHZ_PROF_NAT_EN i).inBlock 2 := RegField.inBlock_array (by decide) (by decide) (by decide) (by decide)
theorem CHZ_PROF_MAXLEN_block (i : Nat) : (CHZ_PROF_MAXLEN i).inBlock 2 := RegField.inBlock_array (by decide) (by decide) (by decide) (by decide)
theorem CHZ_OFFCFG_ALPHA_block : CHZ_OFFCFG_ALPHA.inBlock 2 := rfl
theorem CHZ_OFFCFG_OFF_LIM_block : CHZ_OFFCFG_OFF_LIM.inBlock 2 := rfl
theorem CHZ_LEAKCFG_TARGET_block : CHZ_LEAKCFG_TARGET.inBlock 2 := rfl
theorem CHZ_LEAKCFG_MIN_block : CHZ_LEAKCFG_MIN.inBlock 2 := rfl
theorem CHZ_LEAK_A_SUPPR_block : CHZ_LEAK_A_SUPPR.inBlock 2 := rfl
theorem CHZ_LEAK_A_ACTIVE_block : CHZ_LEAK_A_ACTIVE.inBlock 2 := rfl
theorem CHZ_LEAK_A_CONV_block : CHZ_LEAK_A_CONV.inBlock 2 := rfl
theorem CHZ_LEAK_A_SETS_block : CHZ_LEAK_A_SETS.inBlock 2 := rfl
theorem CHZ_LEAK_B_SUPPR_block : CHZ_LEAK_B_SUPPR.inBlock 2 := rfl
theorem CHZ_LEAK_B_ACTIVE_block : CHZ_LEAK_B_ACTIVE.inBlock 2 := rfl
theorem CHZ_LEAK_B_CONV_block : CHZ_LEAK_B_CONV.inBlock 2 := rfl
theorem CHZ_LEAK_B_SETS_block : CHZ_LEAK_B_SETS.inBlock 2 := rfl
theorem CHZ_LOCK_LOCK_block : CHZ_LOCK_LOCK.inBlock 2 := rfl
theorem CHZ_LCFG_EN_block (i : Nat) : (CHZ_LCFG_EN i).inBlock 2 := RegField.inBlock_array (by decide) (by decide) (by decide) (by decide)
theorem CHZ_LCFG_PROFILE_block (i : Nat) : (CHZ_LCFG_PROFILE i).inBlock 2 := RegField.inBlock_array (by decide) (by decide) (by decide) (by decide)
theorem CHZ_LSTAT_STATE_block (i : Nat) : (CHZ_LSTAT_STATE i).inBlock 2 := RegField.inBlock_array (by decide) (by decide) (by decide) (by decide)
theorem CHZ_LSTAT_DGAIN_block (i : Nat) : (CHZ_LSTAT_DGAIN i).inBlock 2 := RegField.inBlock_array (by decide) (by decide) (by decide) (by decide)
theorem CHZ_LNCO_LNCO_block (i : Nat) : (CHZ_LNCO_LNCO i).inBlock 2 := RegField.inBlock_array (by decide) (by decide) (by decide) (by decide)
theorem CHZ_LCNT_DETECT_block (i : Nat) : (CHZ_LCNT_DETECT i).inBlock 2 := RegField.inBlock_array (by decide) (by decide) (by decide) (by decide)
theorem CHZ_LCNT_BLANKED_block (i : Nat) : (CHZ_LCNT_BLANKED i).inBlock 2 := RegField.inBlock_array (by decide) (by decide) (by decide) (by decide)
theorem CHZ_LCNT_OVF_block (i : Nat) : (CHZ_LCNT_OVF i).inBlock 2 := RegField.inBlock_array (by decide) (by decide) (by decide) (by decide)

/-! Block 3, TXP. -/

theorem TXP_CTRL_MASK_EN_block : TXP_CTRL_MASK_EN.inBlock 3 := rfl
theorem TXP_CTRL_PRECOR_EN_block : TXP_CTRL_PRECOR_EN.inBlock 3 := rfl
theorem TXP_CTRL_TEST_PROF_block : TXP_CTRL_TEST_PROF.inBlock 3 := rfl
theorem TXP_CTRL_FIR_DELAY_block : TXP_CTRL_FIR_DELAY.inBlock 3 := rfl
theorem TXP_STATUS_TABLE_ERR_block : TXP_STATUS_TABLE_ERR.inBlock 3 := rfl
theorem TXP_STATUS_PROF_ERR_block : TXP_STATUS_PROF_ERR.inBlock 3 := rfl
theorem TXP_STATUS_RAMP_ERR_block : TXP_STATUS_RAMP_ERR.inBlock 3 := rfl
theorem TXP_STATUS_LAST_MASK_block : TXP_STATUS_LAST_MASK.inBlock 3 := rfl
theorem TXP_STATUS_LAST_CLAMP_block : TXP_STATUS_LAST_CLAMP.inBlock 3 := rfl
theorem TXP_STATUS_ABORTS_block : TXP_STATUS_ABORTS.inBlock 3 := rfl
theorem TXP_STATUS_TXCOUNT_block : TXP_STATUS_TXCOUNT.inBlock 3 := rfl
theorem TXP_POWER_POWER_block : TXP_POWER_POWER.inBlock 3 := rfl
theorem TXP_RAMP_RUP_block : TXP_RAMP_RUP.inBlock 3 := rfl
theorem TXP_RAMP_RDOWN_block : TXP_RAMP_RDOWN.inBlock 3 := rfl
theorem TXP_RAMP_SHAPE_block : TXP_RAMP_SHAPE.inBlock 3 := rfl
theorem TXP_PATIME_PA_LEAD_block : TXP_PATIME_PA_LEAD.inBlock 3 := rfl
theorem TXP_PATIME_PA_LAG_block : TXP_PATIME_PA_LAG.inBlock 3 := rfl
theorem TXP_PRECOR_PRECOR_MAX_block : TXP_PRECOR_PRECOR_MAX.inBlock 3 := rfl
theorem TXP_PROF_MOD_block (i : Nat) : (TXP_PROF_MOD i).inBlock 3 := RegField.inBlock_array (by decide) (by decide) (by decide) (by decide)
theorem TXP_PROF_RATE_block (i : Nat) : (TXP_PROF_RATE i).inBlock 3 := RegField.inBlock_array (by decide) (by decide) (by decide) (by decide)
theorem TXP_PROF_BT_block (i : Nat) : (TXP_PROF_BT i).inBlock 3 := RegField.inBlock_array (by decide) (by decide) (by decide) (by decide)
theorem TXP_PROF_HIDX_block (i : Nat) : (TXP_PROF_HIDX i).inBlock 3 := RegField.inBlock_array (by decide) (by decide) (by decide) (by decide)
theorem TXP_PROF_REP_block (i : Nat) : (TXP_PROF_REP i).inBlock 3 := RegField.inBlock_array (by decide) (by decide) (by decide) (by decide)
theorem TXP_PROF_SFDG_block (i : Nat) : (TXP_PROF_SFDG i).inBlock 3 := RegField.inBlock_array (by decide) (by decide) (by decide) (by decide)
theorem TXP_PROF_FEC_block (i : Nat) : (TXP_PROF_FEC i).inBlock 3 := RegField.inBlock_array (by decide) (by decide) (by decide) (by decide)
theorem TXP_PROF_ILV_block (i : Nat) : (TXP_PROF_ILV i).inBlock 3 := RegField.inBlock_array (by decide) (by decide) (by decide) (by decide)
theorem TXP_PROF_DW_block (i : Nat) : (TXP_PROF_DW i).inBlock 3 := RegField.inBlock_array (by decide) (by decide) (by decide) (by decide)
theorem TXP_PROF_FCS_T_block (i : Nat) : (TXP_PROF_FCS_T i).inBlock 3 := RegField.inBlock_array (by decide) (by decide) (by decide) (by decide)
theorem TXP_PROF_LEGACY_block (i : Nat) : (TXP_PROF_LEGACY i).inBlock 3 := RegField.inBlock_array (by decide) (by decide) (by decide) (by decide)
theorem TXP_PROF_FIR_EN_block (i : Nat) : (TXP_PROF_FIR_EN i).inBlock 3 := RegField.inBlock_array (by decide) (by decide) (by decide) (by decide)
theorem TXP_PROF_PREAMBLE_block (i : Nat) : (TXP_PROF_PREAMBLE i).inBlock 3 := RegField.inBlock_array (by decide) (by decide) (by decide) (by decide)
theorem TXP_RTAB_ENTRY0_block (i : Nat) : (TXP_RTAB_ENTRY0 i).inBlock 3 := RegField.inBlock_array (by decide) (by decide) (by decide) (by decide)
theorem TXP_RTAB_ENTRY1_block (i : Nat) : (TXP_RTAB_ENTRY1 i).inBlock 3 := RegField.inBlock_array (by decide) (by decide) (by decide) (by decide)
theorem TXP_RTAB_ENTRY2_block (i : Nat) : (TXP_RTAB_ENTRY2 i).inBlock 3 := RegField.inBlock_array (by decide) (by decide) (by decide) (by decide)
theorem TXP_RTAB_ENTRY3_block (i : Nat) : (TXP_RTAB_ENTRY3 i).inBlock 3 := RegField.inBlock_array (by decide) (by decide) (by decide) (by decide)
theorem TXP_FIR_TAP_LO_block (i : Nat) : (TXP_FIR_TAP_LO i).inBlock 3 := RegField.inBlock_array (by decide) (by decide) (by decide) (by decide)
theorem TXP_FIR_TAP_HI_block (i : Nat) : (TXP_FIR_TAP_HI i).inBlock 3 := RegField.inBlock_array (by decide) (by decide) (by decide) (by decide)
theorem TXP_MASK_OFFSET_block (i : Nat) : (TXP_MASK_OFFSET i).inBlock 3 := RegField.inBlock_array (by decide) (by decide) (by decide) (by decide)
theorem TXP_MASK_LIMIT_block (i : Nat) : (TXP_MASK_LIMIT i).inBlock 3 := RegField.inBlock_array (by decide) (by decide) (by decide) (by decide)
theorem TXP_MASK_VALID_block (i : Nat) : (TXP_MASK_VALID i).inBlock 3 := RegField.inBlock_array (by decide) (by decide) (by decide) (by decide)
theorem TXP_LOCK_LOCK_block : TXP_LOCK_LOCK.inBlock 3 := rfl

/-! Block 4, SLE. -/

theorem SLE_CMD_CMD_block : SLE_CMD_CMD.inBlock 4 := rfl
theorem SLE_STATUS_RUNNING_block : SLE_STATUS_RUNNING.inBlock 4 := rfl
theorem SLE_STATUS_ACTIVE_BUF_block : SLE_STATUS_ACTIVE_BUF.inBlock 4 := rfl
theorem SLE_STATUS_STANDBY_block : SLE_STATUS_STANDBY.inBlock 4 := rfl
theorem SLE_STATUS_STOP_PEND_block : SLE_STATUS_STOP_PEND.inBlock 4 := rfl
theorem SLE_STATUS_WR_REJ_block : SLE_STATUS_WR_REJ.inBlock 4 := rfl
theorem SLE_STATUS_CMD_REJ_block : SLE_STATUS_CMD_REJ.inBlock 4 := rfl
theorem SLE_LOADCHK_RESULT_block : SLE_LOADCHK_RESULT.inBlock 4 := rfl
theorem SLE_LOADCHK_STAGE_block : SLE_LOADCHK_STAGE.inBlock 4 := rfl
theorem SLE_LOADCHK_DETAIL_block : SLE_LOADCHK_DETAIL.inBlock 4 := rfl
theorem SLE_SWAPASN_L_SWAP_ASN_L_block : SLE_SWAPASN_L_SWAP_ASN_L.inBlock 4 := rfl
theorem SLE_SWAPASN_H_SWAP_ASN_H_block : SLE_SWAPASN_H_SWAP_ASN_H.inBlock 4 := rfl
theorem SLE_NEWASN_L_NEW_ASN_L_block : SLE_NEWASN_L_NEW_ASN_L.inBlock 4 := rfl
theorem SLE_NEWASN_H_NEW_ASN_H_block : SLE_NEWASN_H_NEW_ASN_H.inBlock 4 := rfl
theorem SLE_ASN_L_ASN_L_block : SLE_ASN_L_ASN_L.inBlock 4 := rfl
theorem SLE_ASN_H_ASN_H_block : SLE_ASN_H_ASN_H.inBlock 4 := rfl
theorem SLE_SLOTTICK_TICK_block : SLE_SLOTTICK_TICK.inBlock 4 := rfl
theorem SLE_TNET_L_TNET_L_block : SLE_TNET_L_TNET_L.inBlock 4 := rfl
theorem SLE_TNET_H_TNET_H_block : SLE_TNET_H_TNET_H.inBlock 4 := rfl
theorem SLE_IMGPAGE_PAGE_block : SLE_IMGPAGE_PAGE.inBlock 4 := rfl
theorem SLE_TWINSTAT_COUNT_block : SLE_TWINSTAT_COUNT.inBlock 4 := rfl
theorem SLE_TWINSTAT_LAST_STAGE_block : SLE_TWINSTAT_LAST_STAGE.inBlock 4 := rfl
theorem SLE_TWINSTAT_LAST_ASN_block : SLE_TWINSTAT_LAST_ASN.inBlock 4 := rfl
theorem SLE_TWINTEST_STAGE_block : SLE_TWINTEST_STAGE.inBlock 4 := rfl
theorem SLE_TWINTEST_BIT_block : SLE_TWINTEST_BIT.inBlock 4 := rfl
theorem SLE_TWINTEST_SEQ_block : SLE_TWINTEST_SEQ.inBlock 4 := rfl
theorem SLE_DROPA_ASN_L_block : SLE_DROPA_ASN_L.inBlock 4 := rfl
theorem SLE_DROPB_ASN_H_block : SLE_DROPB_ASN_H.inBlock 4 := rfl
theorem SLE_DROPB_STAGE_block : SLE_DROPB_STAGE.inBlock 4 := rfl
theorem SLE_DROPB_BOUNDARY_block : SLE_DROPB_BOUNDARY.inBlock 4 := rfl
theorem SLE_DROPB_TWIN_block : SLE_DROPB_TWIN.inBlock 4 := rfl
theorem SLE_DROPB_DIR_block : SLE_DROPB_DIR.inBlock 4 := rfl
theorem SLE_DROPB_NOCTX_block : SLE_DROPB_NOCTX.inBlock 4 := rfl
theorem SLE_DROPB_CONTEXT_block : SLE_DROPB_CONTEXT.inBlock 4 := rfl
theorem SLE_DROPC_WHERE_block : SLE_DROPC_WHERE.inBlock 4 := rfl
theorem SLE_DROPC_LENGTH_block : SLE_DROPC_LENGTH.inBlock 4 := rfl
theorem SLE_DROPPOP_POP_block : SLE_DROPPOP_POP.inBlock 4 := rfl
theorem SLE_DROPSTAT_LEVEL_block : SLE_DROPSTAT_LEVEL.inBlock 4 := rfl
theorem SLE_DROPSTAT_LOST_block : SLE_DROPSTAT_LOST.inBlock 4 := rfl
theorem SLE_PROGINFO_U_RX_block : SLE_PROGINFO_U_RX.inBlock 4 := rfl
theorem SLE_PROGINFO_U_TX_block : SLE_PROGINFO_U_TX.inBlock 4 := rfl
theorem SLE_PROGINFO_CIPHER_block : SLE_PROGINFO_CIPHER.inBlock 4 := rfl
theorem SLE_ACKMISS_COUNT_block : SLE_ACKMISS_COUNT.inBlock 4 := rfl
theorem SLE_SDONE_DONE_block (i : Nat) : (SLE_SDONE_DONE i).inBlock 4 := RegField.inBlock_array (by decide) (by decide) (by decide) (by decide)
theorem SLE_SLATE_LATE_block (i : Nat) : (SLE_SLATE_LATE i).inBlock 4 := RegField.inBlock_array (by decide) (by decide) (by decide) (by decide)
theorem SLE_STWIN_TWIN_block (i : Nat) : (SLE_STWIN_TWIN i).inBlock 4 := RegField.inBlock_array (by decide) (by decide) (by decide) (by decide)
theorem SLE_SPEAK_PEAK_CHARGE_block (i : Nat) : (SLE_SPEAK_PEAK_CHARGE i).inBlock 4 := RegField.inBlock_array (by decide) (by decide) (by decide) (by decide)
theorem SLE_SPEAK_PEAK_UNITS_block (i : Nat) : (SLE_SPEAK_PEAK_UNITS i).inBlock 4 := RegField.inBlock_array (by decide) (by decide) (by decide) (by decide)

/-! Block 5, MAC. -/

theorem MAC_CTRL_DELIVER_TO_block : MAC_CTRL_DELIVER_TO.inBlock 5 := rfl
theorem MAC_CTRL_ACK_NOCTX_block : MAC_CTRL_ACK_NOCTX.inBlock 5 := rfl
theorem MAC_CTRL_PROMISC_block : MAC_CTRL_PROMISC.inBlock 5 := rfl
theorem MAC_CTRL_AUTO_POLL_block : MAC_CTRL_AUTO_POLL.inBlock 5 := rfl
theorem MAC_CTRL_TSRC_block : MAC_CTRL_TSRC.inBlock 5 := rfl
theorem MAC_CTRL_DELIVER_DUP_block : MAC_CTRL_DELIVER_DUP.inBlock 5 := rfl
theorem MAC_CTRL_POLL_PROF_block : MAC_CTRL_POLL_PROF.inBlock 5 := rfl
theorem MAC_CTRL_XPROF_block : MAC_CTRL_XPROF.inBlock 5 := rfl
theorem MAC_CTRL_DQ_THRESH_block : MAC_CTRL_DQ_THRESH.inBlock 5 := rfl
theorem MAC_STATUS_SYNC_block : MAC_STATUS_SYNC.inBlock 5 := rfl
theorem MAC_STATUS_POLL_EXT_block : MAC_STATUS_POLL_EXT.inBlock 5 := rfl
theorem MAC_STATUS_PARENT_VALID_block : MAC_STATUS_PARENT_VALID.inBlock 5 := rfl
theorem MAC_STATUS_MISS_block : MAC_STATUS_MISS.inBlock 5 := rfl
theorem MAC_STATUS_PARENT_block : MAC_STATUS_PARENT.inBlock 5 := rfl
theorem MAC_PANID_PANID_block : MAC_PANID_PANID.inBlock 5 := rfl
theorem MAC_PANID_SHORT_block : MAC_PANID_SHORT.inBlock 5 := rfl
theorem MAC_EXT_L_EXT_block : MAC_EXT_L_EXT.inBlock 5 := rfl
theorem MAC_EXT_H_EXT_block : MAC_EXT_H_EXT.inBlock 5 := rfl
theorem MAC_SYNCCFG_CEIL_block : MAC_SYNCCFG_CEIL.inBlock 5 := rfl
theorem MAC_SYNCCFG_ADRIFT_TO_block : MAC_SYNCCFG_ADRIFT_TO.inBlock 5 := rfl
theorem MAC_SYNCCFG_BETA_block : MAC_SYNCCFG_BETA.inBlock 5 := rfl
theorem MAC_SCANCFG_DWELL_block : MAC_SCANCFG_DWELL.inBlock 5 := rfl
theorem MAC_SYNCCMD_CMD_block : MAC_SYNCCMD_CMD.inBlock 5 := rfl
theorem MAC_CORR_LAST_block : MAC_CORR_LAST.inBlock 5 := rfl
theorem MAC_SYNCAIR_SYNCAIR_block (i : Nat) : (MAC_SYNCAIR_SYNCAIR i).inBlock 5 := RegField.inBlock_array (by decide) (by decide) (by decide) (by decide)
theorem MAC_AGE_L_TH1_block : MAC_AGE_L_TH1.inBlock 5 := rfl
theorem MAC_AGE_L_TH2_block : MAC_AGE_L_TH2.inBlock 5 := rfl
theorem MAC_AGE_H_TH3_block : MAC_AGE_H_TH3.inBlock 5 := rfl
theorem MAC_CSMA_MIN_BE_block : MAC_CSMA_MIN_BE.inBlock 5 := rfl
theorem MAC_CSMA_MAX_BE_block : MAC_CSMA_MAX_BE.inBlock 5 := rfl
theorem MAC_FBCFG_DQ_SIZE_block : MAC_FBCFG_DQ_SIZE.inBlock 5 := rfl
theorem MAC_FBCFG_CFG_REJ_block : MAC_FBCFG_CFG_REJ.inBlock 5 := rfl
theorem MAC_FBCFG_RX_BLOCKS_block : MAC_FBCFG_RX_BLOCKS.inBlock 5 := rfl
theorem MAC_DQ_RD_block : MAC_DQ_RD.inBlock 5 := rfl
theorem MAC_DQ_WR_block : MAC_DQ_WR.inBlock 5 := rfl
theorem MAC_DQSTAT_LEVEL_block : MAC_DQSTAT_LEVEL.inBlock 5 := rfl
theorem MAC_DQSTAT_FULL_block : MAC_DQSTAT_FULL.inBlock 5 := rfl
theorem MAC_TXPUSH_INDEX_block : MAC_TXPUSH_INDEX.inBlock 5 := rfl
theorem MAC_TXDONE_INDEX_block : MAC_TXDONE_INDEX.inBlock 5 := rfl
theorem MAC_TXDONE_LEVEL_block : MAC_TXDONE_LEVEL.inBlock 5 := rfl
theorem MAC_TXDONE_LOST_block : MAC_TXDONE_LOST.inBlock 5 := rfl
theorem MAC_TXDONE_EMPTY_block : MAC_TXDONE_EMPTY.inBlock 5 := rfl
theorem MAC_TXDONEPOP_POP_block : MAC_TXDONEPOP_POP.inBlock 5 := rfl
theorem MAC_QCMD_QUEUE_block : MAC_QCMD_QUEUE.inBlock 5 := rfl
theorem MAC_QCMD_CMD_block : MAC_QCMD_CMD.inBlock 5 := rfl
theorem MAC_PEND_TIMEOUT_block : MAC_PEND_TIMEOUT.inBlock 5 := rfl
theorem MAC_PEND_TOTAL_block : MAC_PEND_TOTAL.inBlock 5 := rfl
theorem MAC_CTXCMD_INDEX_block : MAC_CTXCMD_INDEX.inBlock 5 := rfl
theorem MAC_CTXCMD_CMD_block : MAC_CTXCMD_CMD.inBlock 5 := rfl
theorem MAC_CTXSTAT_BUSY_block : MAC_CTXSTAT_BUSY.inBlock 5 := rfl
theorem MAC_CTXSTAT_REJ_block : MAC_CTXSTAT_REJ.inBlock 5 := rfl
theorem MAC_CTXSTAT_FREE_block : MAC_CTXSTAT_FREE.inBlock 5 := rfl
theorem MAC_CTXSTAT_EVICT_LOW_block : MAC_CTXSTAT_EVICT_LOW.inBlock 5 := rfl
theorem MAC_EVICT0_CAND_A_block : MAC_EVICT0_CAND_A.inBlock 5 := rfl
theorem MAC_EVICT0_VALID_A_block : MAC_EVICT0_VALID_A.inBlock 5 := rfl
theorem MAC_EVICT0_CAND_B_block : MAC_EVICT0_CAND_B.inBlock 5 := rfl
theorem MAC_EVICT0_VALID_B_block : MAC_EVICT0_VALID_B.inBlock 5 := rfl
theorem MAC_EVICT1_CAND_A_block : MAC_EVICT1_CAND_A.inBlock 5 := rfl
theorem MAC_EVICT1_VALID_A_block : MAC_EVICT1_VALID_A.inBlock 5 := rfl
theorem MAC_EVICT1_CAND_B_block : MAC_EVICT1_CAND_B.inBlock 5 := rfl
theorem MAC_EVICT1_VALID_B_block : MAC_EVICT1_VALID_B.inBlock 5 := rfl
theorem MAC_RXDISC_NOT_MINE_block : MAC_RXDISC_NOT_MINE.inBlock 5 := rfl
theorem MAC_RXDISC_BAD_FRAME_block : MAC_RXDISC_BAD_FRAME.inBlock 5 := rfl
theorem MAC_EBCFG_JOIN_METRIC_block : MAC_EBCFG_JOIN_METRIC.inBlock 5 := rfl
theorem MAC_EBCFG_EB_LEN_block : MAC_EBCFG_EB_LEN.inBlock 5 := rfl
theorem MAC_EBCFG_EB_BLOCK_block : MAC_EBCFG_EB_BLOCK.inBlock 5 := rfl
theorem MAC_EBCFG_EB_PROF_block : MAC_EBCFG_EB_PROF.inBlock 5 := rfl
theorem MAC_LOCK_LOCK_block : MAC_LOCK_LOCK.inBlock 5 := rfl
theorem MAC_CTXBUF_IMAGE_block (i : Nat) : (MAC_CTXBUF_IMAGE i).inBlock 5 := RegField.inBlock_array (by decide) (by decide) (by decide) (by decide)

/-! Block 6, SEC. -/

theorem SEC_STATUS_RESERVE_block : SEC_STATUS_RESERVE.inBlock 6 := rfl
theorem SEC_STATUS_GENERAL_block : SEC_STATUS_GENERAL.inBlock 6 := rfl
theorem SEC_LANEBUSY_BUSY_block : SEC_LANEBUSY_BUSY.inBlock 6 := rfl
theorem SEC_LANEBUSY_RSV_block : SEC_LANEBUSY_RSV.inBlock 6 := rfl
theorem SEC_COUNT0_SE_AUTHF_block : SEC_COUNT0_SE_AUTHF.inBlock 6 := rfl
theorem SEC_COUNT0_SE_KEYLIM_block : SEC_COUNT0_SE_KEYLIM.inBlock 6 := rfl
theorem SEC_COUNT1_SE_FAULT_block : SEC_COUNT1_SE_FAULT.inBlock 6 := rfl
theorem SEC_COUNT1_SE_PAGEV_block : SEC_COUNT1_SE_PAGEV.inBlock 6 := rfl
theorem SEC_KSEL_SLOT_block : SEC_KSEL_SLOT.inBlock 6 := rfl
theorem SEC_KOWNER_OWNER_block : SEC_KOWNER_OWNER.inBlock 6 := rfl
theorem SEC_KINFO_STATE_block : SEC_KINFO_STATE.inBlock 6 := rfl
theorem SEC_KINFO_ALG_block : SEC_KINFO_ALG.inBlock 6 := rfl
theorem SEC_KINFO_LOAD_PEND_block : SEC_KINFO_LOAD_PEND.inBlock 6 := rfl
theorem SEC_WIN_BASE_ADDR_block (i : Nat) : (SEC_WIN_BASE_ADDR i).inBlock 6 := RegField.inBlock_array (by decide) (by decide) (by decide) (by decide)
theorem SEC_WIN_LIMIT_ADDR_block (i : Nat) : (SEC_WIN_LIMIT_ADDR i).inBlock 6 := RegField.inBlock_array (by decide) (by decide) (by decide) (by decide)
theorem SEC_LOCK_LOCK_block : SEC_LOCK_LOCK.inBlock 6 := rfl
theorem SEC_P_SUBMIT_ADDR_block (i : Nat) : (SEC_P_SUBMIT_ADDR i).inBlock 6 := RegField.inBlock_array (by decide) (by decide) (by decide) (by decide)
theorem SEC_P_STAT_LEVEL_block (i : Nat) : (SEC_P_STAT_LEVEL i).inBlock 6 := RegField.inBlock_array (by decide) (by decide) (by decide) (by decide)
theorem SEC_P_STAT_RUNNING_block (i : Nat) : (SEC_P_STAT_RUNNING i).inBlock 6 := RegField.inBlock_array (by decide) (by decide) (by decide) (by decide)
theorem SEC_P_STAT_SUB_REJ_block (i : Nat) : (SEC_P_STAT_SUB_REJ i).inBlock 6 := RegField.inBlock_array (by decide) (by decide) (by decide) (by decide)
theorem SEC_P_STAT_LAST_block (i : Nat) : (SEC_P_STAT_LAST i).inBlock 6 := RegField.inBlock_array (by decide) (by decide) (by decide) (by decide)
theorem SEC_P_STAT_COMPLETED_block (i : Nat) : (SEC_P_STAT_COMPLETED i).inBlock 6 := RegField.inBlock_array (by decide) (by decide) (by decide) (by decide)
theorem SEC_P_DONE_DONE_block (i : Nat) : (SEC_P_DONE_DONE i).inBlock 6 := RegField.inBlock_array (by decide) (by decide) (by decide) (by decide)
theorem SEC_P_DONE_ABORT_block (i : Nat) : (SEC_P_DONE_ABORT i).inBlock 6 := RegField.inBlock_array (by decide) (by decide) (by decide) (by decide)
theorem SEC_P_KSEL_SLOT_block (i : Nat) : (SEC_P_KSEL_SLOT i).inBlock 6 := RegField.inBlock_array (by decide) (by decide) (by decide) (by decide)
theorem SEC_P_KCFG_ALG_block (i : Nat) : (SEC_P_KCFG_ALG i).inBlock 6 := RegField.inBlock_array (by decide) (by decide) (by decide) (by decide)
theorem SEC_P_KCFG_TXLVL_block (i : Nat) : (SEC_P_KCFG_TXLVL i).inBlock 6 := RegField.inBlock_array (by decide) (by decide) (by decide) (by decide)
theorem SEC_P_KCFG_MINLVL_block (i : Nat) : (SEC_P_KCFG_MINLVL i).inBlock 6 := RegField.inBlock_array (by decide) (by decide) (by decide) (by decide)
theorem SEC_P_KCFG_KIDM_block (i : Nat) : (SEC_P_KCFG_KIDM i).inBlock 6 := RegField.inBlock_array (by decide) (by decide) (by decide) (by decide)
theorem SEC_P_KCFG_USE_SE_block (i : Nat) : (SEC_P_KCFG_USE_SE i).inBlock 6 := RegField.inBlock_array (by decide) (by decide) (by decide) (by decide)
theorem SEC_P_KCFG_USE_GEN_block (i : Nat) : (SEC_P_KCFG_USE_GEN i).inBlock 6 := RegField.inBlock_array (by decide) (by decide) (by decide) (by decide)
theorem SEC_P_KCFG_USE_PRIV_block (i : Nat) : (SEC_P_KCFG_USE_PRIV i).inBlock 6 := RegField.inBlock_array (by decide) (by decide) (by decide) (by decide)
theorem SEC_P_KCFG_KEY_INDEX_block (i : Nat) : (SEC_P_KCFG_KEY_INDEX i).inBlock 6 := RegField.inBlock_array (by decide) (by decide) (by decide) (by decide)
theorem SEC_P_KLIMIT_LIMIT_block (i : Nat) : (SEC_P_KLIMIT_LIMIT i).inBlock 6 := RegField.inBlock_array (by decide) (by decide) (by decide) (by decide)
theorem SEC_P_KTXFC_TXFC_block (i : Nat) : (SEC_P_KTXFC_TXFC i).inBlock 6 := RegField.inBlock_array (by decide) (by decide) (by decide) (by decide)
theorem SEC_P_KDATA0_KEY_block (i : Nat) : (SEC_P_KDATA0_KEY i).inBlock 6 := RegField.inBlock_array (by decide) (by decide) (by decide) (by decide)
theorem SEC_P_KDATA1_KEY_block (i : Nat) : (SEC_P_KDATA1_KEY i).inBlock 6 := RegField.inBlock_array (by decide) (by decide) (by decide) (by decide)
theorem SEC_P_KDATA2_KEY_block (i : Nat) : (SEC_P_KDATA2_KEY i).inBlock 6 := RegField.inBlock_array (by decide) (by decide) (by decide) (by decide)
theorem SEC_P_KDATA3_KEY_block (i : Nat) : (SEC_P_KDATA3_KEY i).inBlock 6 := RegField.inBlock_array (by decide) (by decide) (by decide) (by decide)
theorem SEC_P_KCMD_CMD_block (i : Nat) : (SEC_P_KCMD_CMD i).inBlock 6 := RegField.inBlock_array (by decide) (by decide) (by decide) (by decide)
theorem SEC_P_KSTAT_STATE_block (i : Nat) : (SEC_P_KSTAT_STATE i).inBlock 6 := RegField.inBlock_array (by decide) (by decide) (by decide) (by decide)
theorem SEC_P_KSTAT_OWNED_block (i : Nat) : (SEC_P_KSTAT_OWNED i).inBlock 6 := RegField.inBlock_array (by decide) (by decide) (by decide) (by decide)
theorem SEC_P_KSTAT_KCMD_REJ_block (i : Nat) : (SEC_P_KSTAT_KCMD_REJ i).inBlock 6 := RegField.inBlock_array (by decide) (by decide) (by decide) (by decide)
theorem SEC_P_KSTAT_LOAD_PEND_block (i : Nat) : (SEC_P_KSTAT_LOAD_PEND i).inBlock 6 := RegField.inBlock_array (by decide) (by decide) (by decide) (by decide)
theorem SEC_P_KCOUNT_VALUE_block (i : Nat) : (SEC_P_KCOUNT_VALUE i).inBlock 6 := RegField.inBlock_array (by decide) (by decide) (by decide) (by decide)
theorem SEC_P_KTXFCR_VALUE_block (i : Nat) : (SEC_P_KTXFCR_VALUE i).inBlock 6 := RegField.inBlock_array (by decide) (by decide) (by decide) (by decide)

/-! Block 7, PKE. -/

theorem PKE_CMD_OP_block : PKE_CMD_OP.inBlock 7 := rfl
theorem PKE_CMD_CONT_block : PKE_CMD_CONT.inBlock 7 := rfl
theorem PKE_CMD_FIN_block : PKE_CMD_FIN.inBlock 7 := rfl
theorem PKE_CMD_RNG_RESTART_block : PKE_CMD_RNG_RESTART.inBlock 7 := rfl
theorem PKE_STATUS_BUSY_block : PKE_STATUS_BUSY.inBlock 7 := rfl
theorem PKE_STATUS_RESULT_block : PKE_STATUS_RESULT.inBlock 7 := rfl
theorem PKE_STATUS_COUNT_block : PKE_STATUS_COUNT.inBlock 7 := rfl
theorem PKE_SRC_ADDR_block : PKE_SRC_ADDR.inBlock 7 := rfl
theorem PKE_LEN_LEN_block : PKE_LEN_LEN.inBlock 7 := rfl
theorem PKE_OPADDR_ADDR_block : PKE_OPADDR_ADDR.inBlock 7 := rfl
theorem PKE_LOCK_LOCK_block : PKE_LOCK_LOCK.inBlock 7 := rfl
theorem PKE_RNG_VALUE_block : PKE_RNG_VALUE.inBlock 7 := rfl
theorem PKE_RNGSTAT_VALID_block : PKE_RNGSTAT_VALID.inBlock 7 := rfl
theorem PKE_RNGSTAT_HEALTH_FAIL_block : PKE_RNGSTAT_HEALTH_FAIL.inBlock 7 := rfl
theorem PKE_RNGSTAT_STARTUP_block : PKE_RNGSTAT_STARTUP.inBlock 7 := rfl
theorem PKE_RNGSTAT_FAILS_block : PKE_RNGSTAT_FAILS.inBlock 7 := rfl

/-! Block 8, GNS. -/

theorem GNS_CTRL_EN_block : GNS_CTRL_EN.inBlock 8 := rfl
theorem GNS_CTRL_AGC_AUTO_block : GNS_CTRL_AGC_AUTO.inBlock 8 := rfl
theorem GNS_CTRL_STEER_EN_block : GNS_CTRL_STEER_EN.inBlock 8 := rfl
theorem GNS_STATUS_TIME_VALID_block : GNS_STATUS_TIME_VALID.inBlock 8 := rfl
theorem GNS_STATUS_STEER_LOCK_block : GNS_STATUS_STEER_LOCK.inBlock 8 := rfl
theorem GNS_STATUS_HOLDOVER_block : GNS_STATUS_HOLDOVER.inBlock 8 := rfl
theorem GNS_STATUS_COARSE_HOLD_block : GNS_STATUS_COARSE_HOLD.inBlock 8 := rfl
theorem GNS_STATUS_STEER_ACTIVE_block : GNS_STATUS_STEER_ACTIVE.inBlock 8 := rfl
theorem GNS_STATUS_JAM_block : GNS_STATUS_JAM.inBlock 8 := rfl
theorem GNS_STATUS_TP_VALID_block : GNS_STATUS_TP_VALID.inBlock 8 := rfl
theorem GNS_GAIN_GAIN_block : GNS_GAIN_GAIN.inBlock 8 := rfl
theorem GNS_ACQW_BYTES_block (i : Nat) : (GNS_ACQW_BYTES i).inBlock 8 := RegField.inBlock_array (by decide) (by decide) (by decide) (by decide)
theorem GNS_ACQPUSH_PUSH_block : GNS_ACQPUSH_PUSH.inBlock 8 := rfl
theorem GNS_ACQPUSH_ABORT_block : GNS_ACQPUSH_ABORT.inBlock 8 := rfl
theorem GNS_ACQR_BYTES_block (i : Nat) : (GNS_ACQR_BYTES i).inBlock 8 := RegField.inBlock_array (by decide) (by decide) (by decide) (by decide)
theorem GNS_ACQPOP_POP_block : GNS_ACQPOP_POP.inBlock 8 := rfl
theorem GNS_ACQSTAT_CMDS_block : GNS_ACQSTAT_CMDS.inBlock 8 := rfl
theorem GNS_ACQSTAT_RESULTS_block : GNS_ACQSTAT_RESULTS.inBlock 8 := rfl
theorem GNS_ACQSTAT_ACQ_REJ_block : GNS_ACQSTAT_ACQ_REJ.inBlock 8 := rfl
theorem GNS_ACQSTAT_ACQ_STALL_block : GNS_ACQSTAT_ACQ_STALL.inBlock 8 := rfl
theorem GNS_NOTCH_EN_block (i : Nat) : (GNS_NOTCH_EN i).inBlock 8 := RegField.inBlock_array (by decide) (by decide) (by decide) (by decide)
theorem GNS_NOTCH_AUTO_block (i : Nat) : (GNS_NOTCH_AUTO i).inBlock 8 := RegField.inBlock_array (by decide) (by decide) (by decide) (by decide)
theorem GNS_NOTCH_WIDTH_block (i : Nat) : (GNS_NOTCH_WIDTH i).inBlock 8 := RegField.inBlock_array (by decide) (by decide) (by decide) (by decide)
theorem GNS_NOTCH_LOCKED_block (i : Nat) : (GNS_NOTCH_LOCKED i).inBlock 8 := RegField.inBlock_array (by decide) (by decide) (by decide) (by decide)
theorem GNS_NOTCH_FREQ_block (i : Nat) : (GNS_NOTCH_FREQ i).inBlock 8 := RegField.inBlock_array (by decide) (by decide) (by decide) (by decide)
theorem GNS_NOTCH_NOTCH_THR_block (i : Nat) : (GNS_NOTCH_NOTCH_THR i).inBlock 8 := RegField.inBlock_array (by decide) (by decide) (by decide) (by decide)
theorem GNS_JAM_JAM_THR_block : GNS_JAM_JAM_THR.inBlock 8 := rfl
theorem GNS_JAM_JAM_HYST_block : GNS_JAM_JAM_HYST.inBlock 8 := rfl
theorem GNS_JAM_J_block : GNS_JAM_J.inBlock 8 := rfl
theorem GNS_MEASCFG_PERIOD_block : GNS_MEASCFG_PERIOD.inBlock 8 := rfl
theorem GNS_MEASSTAT_BUF_block : GNS_MEASSTAT_BUF.inBlock 8 := rfl
theorem GNS_MEASSTAT_EPOCH_block : GNS_MEASSTAT_EPOCH.inBlock 8 := rfl
theorem GNS_TPCFG_TP_MODE_block : GNS_TPCFG_TP_MODE.inBlock 8 := rfl
theorem GNS_TPCFG_POL_block : GNS_TPCFG_POL.inBlock 8 := rfl
theorem GNS_TPPER_VALUE_block : GNS_TPPER_VALUE.inBlock 8 := rfl
theorem GNS_TPWID_VALUE_block : GNS_TPWID_VALUE.inBlock 8 := rfl
theorem GNS_TPOFF_OFFSET_block : GNS_TPOFF_OFFSET.inBlock 8 := rfl
theorem GNS_TPQERR_LATE_PS_block : GNS_TPQERR_LATE_PS.inBlock 8 := rfl
theorem GNS_STEERCFG_KP_SH_block : GNS_STEERCFG_KP_SH.inBlock 8 := rfl
theorem GNS_STEERCFG_KI_SH_block : GNS_STEERCFG_KI_SH.inBlock 8 := rfl
theorem GNS_STEERCFG_SLEW_LIM_block : GNS_STEERCFG_SLEW_LIM.inBlock 8 := rfl
theorem GNS_STEERE_VALUE_block : GNS_STEERE_VALUE.inBlock 8 := rfl
theorem GNS_STEERR_VALUE_block : GNS_STEERR_VALUE.inBlock 8 := rfl
theorem GNS_STEERCMD_CMD_block : GNS_STEERCMD_CMD.inBlock 8 := rfl
theorem GNS_GTCTRL_TIME_VALID_block : GNS_GTCTRL_TIME_VALID.inBlock 8 := rfl
theorem GNS_GTCTRL_SET_block : GNS_GTCTRL_SET.inBlock 8 := rfl
theorem GNS_GTSEC_SEC_block : GNS_GTSEC_SEC.inBlock 8 := rfl
theorem GNS_GTNS_NS_block : GNS_GTNS_NS.inBlock 8 := rfl
theorem GNS_GTPHASE_PHASE_block : GNS_GTPHASE_PHASE.inBlock 8 := rfl
theorem GNS_GTRATE_RATE_block : GNS_GTRATE_RATE.inBlock 8 := rfl
theorem GNS_LOCKCFG_LOSS_THR_block : GNS_LOCKCFG_LOSS_THR.inBlock 8 := rfl
theorem GNS_LOCKCFG_LOSS_N_block : GNS_LOCKCFG_LOSS_N.inBlock 8 := rfl
theorem GNS_LOCK_LOCK_block : GNS_LOCK_LOCK.inBlock 8 := rfl
theorem GNS_CCFG_EN_block (i : Nat) : (GNS_CCFG_EN i).inBlock 8 := RegField.inBlock_array (by decide) (by decide) (by decide) (by decide)
theorem GNS_CCFG_SYS_block (i : Nat) : (GNS_CCFG_SYS i).inBlock 8 := RegField.inBlock_array (by decide) (by decide) (by decide) (by decide)
theorem GNS_CCFG_PRN_block (i : Nat) : (GNS_CCFG_PRN i).inBlock 8 := RegField.inBlock_array (by decide) (by decide) (by decide) (by decide)
theorem GNS_CCFG_SLAVE_block (i : Nat) : (GNS_CCFG_SLAVE i).inBlock 8 := RegField.inBlock_array (by decide) (by decide) (by decide) (by decide)
theorem GNS_CCFG_SEC_EN_block (i : Nat) : (GNS_CCFG_SEC_EN i).inBlock 8 := RegField.inBlock_array (by decide) (by decide) (by decide) (by decide)
theorem GNS_CCFG_LOST_block (i : Nat) : (GNS_CCFG_LOST i).inBlock 8 := RegField.inBlock_array (by decide) (by decide) (by decide) (by decide)
theorem GNS_CCODE_CODE_block (i : Nat) : (GNS_CCODE_CODE i).inBlock 8 := RegField.inBlock_array (by decide) (by decide) (by decide) (by decide)
theorem GNS_CCARR_CARR_block (i : Nat) : (GNS_CCARR_CARR i).inBlock 8 := RegField.inBlock_array (by decide) (by decide) (by decide) (by decide)
theorem GNS_CSPC_NARROW_block (i : Nat) : (GNS_CSPC_NARROW i).inBlock 8 := RegField.inBlock_array (by decide) (by decide) (by decide) (by decide)
theorem GNS_CSPC_EL_block (i : Nat) : (GNS_CSPC_EL i).inBlock 8 := RegField.inBlock_array (by decide) (by decide) (by decide) (by decide)
theorem GNS_CSPC_VEVL_block (i : Nat) : (GNS_CSPC_VEVL i).inBlock 8 := RegField.inBlock_array (by decide) (by decide) (by decide) (by decide)
theorem GNS_CSPC_SPC_REJ_block (i : Nat) : (GNS_CSPC_SPC_REJ i).inBlock 8 := RegField.inBlock_array (by decide) (by decide) (by decide) (by decide)
theorem GNS_CPH_PHASE_block (i : Nat) : (GNS_CPH_PHASE i).inBlock 8 := RegField.inBlock_array (by decide) (by decide) (by decide) (by decide)
theorem GNS_CSTAT_SEQ_block (i : Nat) : (GNS_CSTAT_SEQ i).inBlock 8 := RegField.inBlock_array (by decide) (by decide) (by decide) (by decide)
theorem GNS_CSTAT_BLOCK_READY_block (i : Nat) : (GNS_CSTAT_BLOCK_READY i).inBlock 8 := RegField.inBlock_array (by decide) (by decide) (by decide) (by decide)
theorem GNS_CSTAT_OVR_block (i : Nat) : (GNS_CSTAT_OVR i).inBlock 8 := RegField.inBlock_array (by decide) (by decide) (by decide) (by decide)
theorem GNS_CHIST_HIST_block (i : Nat) : (GNS_CHIST_HIST i).inBlock 8 := RegField.inBlock_array (by decide) (by decide) (by decide) (by decide)
theorem GNS_CDD_DD_block (i : Nat) : (GNS_CDD_DD i).inBlock 8 := RegField.inBlock_array (by decide) (by decide) (by decide) (by decide)
theorem GNS_CCORR0_VALUE_block (i : Nat) : (GNS_CCORR0_VALUE i).inBlock 8 := RegField.inBlock_array (by decide) (by decide) (by decide) (by decide)
theorem GNS_CCORR1_VALUE_block (i : Nat) : (GNS_CCORR1_VALUE i).inBlock 8 := RegField.inBlock_array (by decide) (by decide) (by decide) (by decide)
theorem GNS_CCORR2_VALUE_block (i : Nat) : (GNS_CCORR2_VALUE i).inBlock 8 := RegField.inBlock_array (by decide) (by decide) (by decide) (by decide)
theorem GNS_CCORR3_VALUE_block (i : Nat) : (GNS_CCORR3_VALUE i).inBlock 8 := RegField.inBlock_array (by decide) (by decide) (by decide) (by decide)
theorem GNS_CCORR4_VALUE_block (i : Nat) : (GNS_CCORR4_VALUE i).inBlock 8 := RegField.inBlock_array (by decide) (by decide) (by decide) (by decide)
theorem GNS_CCORR5_VALUE_block (i : Nat) : (GNS_CCORR5_VALUE i).inBlock 8 := RegField.inBlock_array (by decide) (by decide) (by decide) (by decide)
theorem GNS_CCORR6_VALUE_block (i : Nat) : (GNS_CCORR6_VALUE i).inBlock 8 := RegField.inBlock_array (by decide) (by decide) (by decide) (by decide)
theorem GNS_CCORR7_VALUE_block (i : Nat) : (GNS_CCORR7_VALUE i).inBlock 8 := RegField.inBlock_array (by decide) (by decide) (by decide) (by decide)
theorem GNS_CCORR8_VALUE_block (i : Nat) : (GNS_CCORR8_VALUE i).inBlock 8 := RegField.inBlock_array (by decide) (by decide) (by decide) (by decide)
theorem GNS_CCORR9_VALUE_block (i : Nat) : (GNS_CCORR9_VALUE i).inBlock 8 := RegField.inBlock_array (by decide) (by decide) (by decide) (by decide)
theorem GNS_CCORR10_VALUE_block (i : Nat) : (GNS_CCORR10_VALUE i).inBlock 8 := RegField.inBlock_array (by decide) (by decide) (by decide) (by decide)
theorem GNS_CCORR11_VALUE_block (i : Nat) : (GNS_CCORR11_VALUE i).inBlock 8 := RegField.inBlock_array (by decide) (by decide) (by decide) (by decide)
theorem GNS_CCORR12_VALUE_block (i : Nat) : (GNS_CCORR12_VALUE i).inBlock 8 := RegField.inBlock_array (by decide) (by decide) (by decide) (by decide)
theorem GNS_CCORR13_VALUE_block (i : Nat) : (GNS_CCORR13_VALUE i).inBlock 8 := RegField.inBlock_array (by decide) (by decide) (by decide) (by decide)
theorem GNS_CSEC_SECPH_block (i : Nat) : (GNS_CSEC_SECPH i).inBlock 8 := RegField.inBlock_array (by decide) (by decide) (by decide) (by decide)
theorem GNS_CPOW_POW_block (i : Nat) : (GNS_CPOW_POW i).inBlock 8 := RegField.inBlock_array (by decide) (by decide) (by decide) (by decide)

/-! Block 9, RTC. -/

theorem RTC_STATUS_OSC_STOP_block : RTC_STATUS_OSC_STOP.inBlock 9 := rfl
theorem RTC_STATUS_CENTURY_WRAP_block : RTC_STATUS_CENTURY_WRAP.inBlock 9 := rfl
theorem RTC_STATUS_DATE_INVALID_block : RTC_STATUS_DATE_INVALID.inBlock 9 := rfl
theorem RTC_STATUS_ALMA_F_block : RTC_STATUS_ALMA_F.inBlock 9 := rfl
theorem RTC_STATUS_ALMB_F_block : RTC_STATUS_ALMB_F.inBlock 9 := rfl
theorem RTC_STATUS_SKIPPED_A_block : RTC_STATUS_SKIPPED_A.inBlock 9 := rfl
theorem RTC_STATUS_SKIPPED_B_block : RTC_STATUS_SKIPPED_B.inBlock 9 := rfl
theorem RTC_STATUS_SHADOW_TO_block : RTC_STATUS_SHADOW_TO.inBlock 9 := rfl
theorem RTC_STATUS_BKP_LOST_block : RTC_STATUS_BKP_LOST.inBlock 9 := rfl
theorem RTC_STATUS_SET_PEND_block : RTC_STATUS_SET_PEND.inBlock 9 := rfl
theorem RTC_STATUS_MEAS_BUSY_block : RTC_STATUS_MEAS_BUSY.inBlock 9 := rfl
theorem RTC_STATUS_FROZEN0_block : RTC_STATUS_FROZEN0.inBlock 9 := rfl
theorem RTC_STATUS_FROZEN1_block : RTC_STATUS_FROZEN1.inBlock 9 := rfl
theorem RTC_SUBSEC_SUBSEC_block : RTC_SUBSEC_SUBSEC.inBlock 9 := rfl
theorem RTC_SEC_VALUE_block : RTC_SEC_VALUE.inBlock 9 := rfl
theorem RTC_MIN_VALUE_block : RTC_MIN_VALUE.inBlock 9 := rfl
theorem RTC_HOUR_HOUR_block : RTC_HOUR_HOUR.inBlock 9 := rfl
theorem RTC_DAY_DAY_block : RTC_DAY_DAY.inBlock 9 := rfl
theorem RTC_DAY_WDAY_block : RTC_DAY_WDAY.inBlock 9 := rfl
theorem RTC_MONTH_MONTH_block : RTC_MONTH_MONTH.inBlock 9 := rfl
theorem RTC_YEAR_YEAR_block : RTC_YEAR_YEAR.inBlock 9 := rfl
theorem RTC_SETTIME_SEC_block : RTC_SETTIME_SEC.inBlock 9 := rfl
theorem RTC_SETTIME_MIN_block : RTC_SETTIME_MIN.inBlock 9 := rfl
theorem RTC_SETTIME_HOUR_block : RTC_SETTIME_HOUR.inBlock 9 := rfl
theorem RTC_SETDATE_DAY_block : RTC_SETDATE_DAY.inBlock 9 := rfl
theorem RTC_SETDATE_MONTH_block : RTC_SETDATE_MONTH.inBlock 9 := rfl
theorem RTC_SETDATE_YEAR_block : RTC_SETDATE_YEAR.inBlock 9 := rfl
theorem RTC_CMD_CMD_block : RTC_CMD_CMD.inBlock 9 := rfl
theorem RTC_UTCOFF_OFFSET_block : RTC_UTCOFF_OFFSET.inBlock 9 := rfl
theorem RTC_UTCOFF_LEAP_block : RTC_UTCOFF_LEAP.inBlock 9 := rfl
theorem RTC_ALM_T_SEC_block (i : Nat) : (RTC_ALM_T_SEC i).inBlock 9 := RegField.inBlock_array (by decide) (by decide) (by decide) (by decide)
theorem RTC_ALM_T_MIN_block (i : Nat) : (RTC_ALM_T_MIN i).inBlock 9 := RegField.inBlock_array (by decide) (by decide) (by decide) (by decide)
theorem RTC_ALM_T_HOUR_block (i : Nat) : (RTC_ALM_T_HOUR i).inBlock 9 := RegField.inBlock_array (by decide) (by decide) (by decide) (by decide)
theorem RTC_ALM_T_M_SEC_block (i : Nat) : (RTC_ALM_T_M_SEC i).inBlock 9 := RegField.inBlock_array (by decide) (by decide) (by decide) (by decide)
theorem RTC_ALM_T_M_MIN_block (i : Nat) : (RTC_ALM_T_M_MIN i).inBlock 9 := RegField.inBlock_array (by decide) (by decide) (by decide) (by decide)
theorem RTC_ALM_T_M_HOUR_block (i : Nat) : (RTC_ALM_T_M_HOUR i).inBlock 9 := RegField.inBlock_array (by decide) (by decide) (by decide) (by decide)
theorem RTC_ALM_D_DAY_block (i : Nat) : (RTC_ALM_D_DAY i).inBlock 9 := RegField.inBlock_array (by decide) (by decide) (by decide) (by decide)
theorem RTC_ALM_D_MONTH_block (i : Nat) : (RTC_ALM_D_MONTH i).inBlock 9 := RegField.inBlock_array (by decide) (by decide) (by decide) (by decide)
theorem RTC_ALM_D_YEAR_block (i : Nat) : (RTC_ALM_D_YEAR i).inBlock 9 := RegField.inBlock_array (by decide) (by decide) (by decide) (by decide)
theorem RTC_ALM_D_M_DAY_block (i : Nat) : (RTC_ALM_D_M_DAY i).inBlock 9 := RegField.inBlock_array (by decide) (by decide) (by decide) (by decide)
theorem RTC_ALM_D_M_MONTH_block (i : Nat) : (RTC_ALM_D_M_MONTH i).inBlock 9 := RegField.inBlock_array (by decide) (by decide) (by decide) (by decide)
theorem RTC_ALM_D_M_YEAR_block (i : Nat) : (RTC_ALM_D_M_YEAR i).inBlock 9 := RegField.inBlock_array (by decide) (by decide) (by decide) (by decide)
theorem RTC_ALMCTRL_A_EN_block : RTC_ALMCTRL_A_EN.inBlock 9 := rfl
theorem RTC_ALMCTRL_B_EN_block : RTC_ALMCTRL_B_EN.inBlock 9 := rfl
theorem RTC_ALMCTRL_A_ONESHOT_block : RTC_ALMCTRL_A_ONESHOT.inBlock 9 := rfl
theorem RTC_ALMCTRL_B_ONESHOT_block : RTC_ALMCTRL_B_ONESHOT.inBlock 9 := rfl
theorem RTC_TRIM_E_block : RTC_TRIM_E.inBlock 9 := rfl
theorem RTC_TRIMCFG_SRC_block : RTC_TRIMCFG_SRC.inBlock 9 := rfl
theorem RTC_TRIMCFG_MAINS_60_block : RTC_TRIMCFG_MAINS_60.inBlock 9 := rfl
theorem RTC_TRIMCFG_AUTO_block : RTC_TRIMCFG_AUTO.inBlock 9 := rfl
theorem RTC_TRIMCFG_PIN_block : RTC_TRIMCFG_PIN.inBlock 9 := rfl
theorem RTC_TRIMCFG_WINDOW_block : RTC_TRIMCFG_WINDOW.inBlock 9 := rfl
theorem RTC_TRIMRES_RESULT_block : RTC_TRIMRES_RESULT.inBlock 9 := rfl
theorem RTC_TRIMRES_STATUS_block : RTC_TRIMRES_STATUS.inBlock 9 := rfl
theorem RTC_SUPPLY_ON_VBAK_block : RTC_SUPPLY_ON_VBAK.inBlock 9 := rfl
theorem RTC_SUPPLY_STAMP_VALID_block : RTC_SUPPLY_STAMP_VALID.inBlock 9 := rfl
theorem RTC_SUPPLY_SWCOUNT_block : RTC_SUPPLY_SWCOUNT.inBlock 9 := rfl
theorem RTC_SWSTAMP_T_TIME_block : RTC_SWSTAMP_T_TIME.inBlock 9 := rfl
theorem RTC_SWSTAMP_T_SUBSEC_H_block : RTC_SWSTAMP_T_SUBSEC_H.inBlock 9 := rfl
theorem RTC_SWSTAMP_D_DATE_block : RTC_SWSTAMP_D_DATE.inBlock 9 := rfl
theorem RTC_CMP_COND_block (i : Nat) : (RTC_CMP_COND i).inBlock 9 := RegField.inBlock_array (by decide) (by decide) (by decide) (by decide)
theorem RTC_CMP_RATE_block (i : Nat) : (RTC_CMP_RATE i).inBlock 9 := RegField.inBlock_array (by decide) (by decide) (by decide) (by decide)
theorem RTC_CMP_DEBOUNCE_block (i : Nat) : (RTC_CMP_DEBOUNCE i).inBlock 9 := RegField.inBlock_array (by decide) (by decide) (by decide) (by decide)
theorem RTC_CMP_ERASE_block (i : Nat) : (RTC_CMP_ERASE i).inBlock 9 := RegField.inBlock_array (by decide) (by decide) (by decide) (by decide)
theorem RTC_CMP_THR_block (i : Nat) : (RTC_CMP_THR i).inBlock 9 := RegField.inBlock_array (by decide) (by decide) (by decide) (by decide)
theorem RTC_CMPSTAT_LEVEL_block : RTC_CMPSTAT_LEVEL.inBlock 9 := rfl
theorem RTC_CMPSTAT_HIT_block : RTC_CMPSTAT_HIT.inBlock 9 := rfl
theorem RTC_CMPSTAT_ERASED_block : RTC_CMPSTAT_ERASED.inBlock 9 := rfl
theorem RTC_LOCK_LOCK_block : RTC_LOCK_LOCK.inBlock 9 := rfl

/-! Block 10, TMR. -/

theorem TMR_CTRL_EN_block (i : Nat) : (TMR_CTRL_EN i).inBlock 10 := RegField.inBlock_array (by decide) (by decide) (by decide) (by decide)
theorem TMR_CTRL_CLKSEL_block (i : Nat) : (TMR_CTRL_CLKSEL i).inBlock 10 := RegField.inBlock_array (by decide) (by decide) (by decide) (by decide)
theorem TMR_CTRL_PRE_block (i : Nat) : (TMR_CTRL_PRE i).inBlock 10 := RegField.inBlock_array (by decide) (by decide) (by decide) (by decide)
theorem TMR_CTRL_ONESHOT_block (i : Nat) : (TMR_CTRL_ONESHOT i).inBlock 10 := RegField.inBlock_array (by decide) (by decide) (by decide) (by decide)
theorem TMR_CTRL_CMP_EN_block (i : Nat) : (TMR_CTRL_CMP_EN i).inBlock 10 := RegField.inBlock_array (by decide) (by decide) (by decide) (by decide)
theorem TMR_CTRL_DBG_FREEZE_block (i : Nat) : (TMR_CTRL_DBG_FREEZE i).inBlock 10 := RegField.inBlock_array (by decide) (by decide) (by decide) (by decide)
theorem TMR_COUNT_COUNT_block (i : Nat) : (TMR_COUNT_COUNT i).inBlock 10 := RegField.inBlock_array (by decide) (by decide) (by decide) (by decide)
theorem TMR_PERIOD_PERIOD_block (i : Nat) : (TMR_PERIOD_PERIOD i).inBlock 10 := RegField.inBlock_array (by decide) (by decide) (by decide) (by decide)
theorem TMR_CMP_CMP_block (i : Nat) : (TMR_CMP_CMP i).inBlock 10 := RegField.inBlock_array (by decide) (by decide) (by decide) (by decide)
theorem TMR_PHASE_PHASE_block (i : Nat) : (TMR_PHASE_PHASE i).inBlock 10 := RegField.inBlock_array (by decide) (by decide) (by decide) (by decide)
theorem TMR_CAPT_CAPT_block (i : Nat) : (TMR_CAPT_CAPT i).inBlock 10 := RegField.inBlock_array (by decide) (by decide) (by decide) (by decide)
theorem TMR_STAT_PER_F_block (i : Nat) : (TMR_STAT_PER_F i).inBlock 10 := RegField.inBlock_array (by decide) (by decide) (by decide) (by decide)
theorem TMR_STAT_CMP_F_block (i : Nat) : (TMR_STAT_CMP_F i).inBlock 10 := RegField.inBlock_array (by decide) (by decide) (by decide) (by decide)
theorem TMR_STAT_RUNNING_block (i : Nat) : (TMR_STAT_RUNNING i).inBlock 10 := RegField.inBlock_array (by decide) (by decide) (by decide) (by decide)
theorem TMR_STAT_FROZEN_block (i : Nat) : (TMR_STAT_FROZEN i).inBlock 10 := RegField.inBlock_array (by decide) (by decide) (by decide) (by decide)
theorem TMR_START_MASK_block : TMR_START_MASK.inBlock 10 := rfl
theorem TMR_STOP_MASK_block : TMR_STOP_MASK.inBlock 10 := rfl
theorem TMR_OWNER_OWNER_block : TMR_OWNER_OWNER.inBlock 10 := rfl
theorem TMR_LOCK_LOCK_block : TMR_LOCK_LOCK.inBlock 10 := rfl

/-! Block 11, EVR. -/

theorem EVR_ESTAT_STAT_block (i : Nat) : (EVR_ESTAT_STAT i).inBlock 11 := RegField.inBlock_array (by decide) (by decide) (by decide) (by decide)
theorem EVR_SWEV_SW_block : EVR_SWEV_SW.inBlock 11 := rfl
theorem EVR_FIRE_FIRE_block : EVR_FIRE_FIRE.inBlock 11 := rfl
theorem EVR_STATUS_ACC_REJ_block : EVR_STATUS_ACC_REJ.inBlock 11 := rfl
theorem EVR_STUCKSUM_STUCK_block : EVR_STUCKSUM_STUCK.inBlock 11 := rfl
theorem EVR_GPO_PIN_block (i : Nat) : (EVR_GPO_PIN i).inBlock 11 := RegField.inBlock_array (by decide) (by decide) (by decide) (by decide)
theorem EVR_GPO_ACTION_block (i : Nat) : (EVR_GPO_ACTION i).inBlock 11 := RegField.inBlock_array (by decide) (by decide) (by decide) (by decide)
theorem EVR_GPO_EN_block (i : Nat) : (EVR_GPO_EN i).inBlock 11 := RegField.inBlock_array (by decide) (by decide) (by decide) (by decide)
theorem EVR_LOCK_LOCK_block : EVR_LOCK_LOCK.inBlock 11 := rfl
theorem EVR_CFG_EN_block (i : Nat) : (EVR_CFG_EN i).inBlock 11 := RegField.inBlock_array (by decide) (by decide) (by decide) (by decide)
theorem EVR_CFG_OWNER_block (i : Nat) : (EVR_CFG_OWNER i).inBlock 11 := RegField.inBlock_array (by decide) (by decide) (by decide) (by decide)
theorem EVR_CFG_SEC_block (i : Nat) : (EVR_CFG_SEC i).inBlock 11 := RegField.inBlock_array (by decide) (by decide) (by decide) (by decide)
theorem EVR_CFG_PIN_EN_block (i : Nat) : (EVR_CFG_PIN_EN i).inBlock 11 := RegField.inBlock_array (by decide) (by decide) (by decide) (by decide)
theorem EVR_CFG_PIN_block (i : Nat) : (EVR_CFG_PIN i).inBlock 11 := RegField.inBlock_array (by decide) (by decide) (by decide) (by decide)
theorem EVR_CFG_EDGE_block (i : Nat) : (EVR_CFG_EDGE i).inBlock 11 := RegField.inBlock_array (by decide) (by decide) (by decide) (by decide)
theorem EVR_CFG_STAMP_block (i : Nat) : (EVR_CFG_STAMP i).inBlock 11 := RegField.inBlock_array (by decide) (by decide) (by decide) (by decide)
theorem EVR_PM0_MASK_block (i : Nat) : (EVR_PM0_MASK i).inBlock 11 := RegField.inBlock_array (by decide) (by decide) (by decide) (by decide)
theorem EVR_PM1_MASK_block (i : Nat) : (EVR_PM1_MASK i).inBlock 11 := RegField.inBlock_array (by decide) (by decide) (by decide) (by decide)
theorem EVR_PM2_MASK_block (i : Nat) : (EVR_PM2_MASK i).inBlock 11 := RegField.inBlock_array (by decide) (by decide) (by decide) (by decide)
theorem EVR_PM3_MASK_block (i : Nat) : (EVR_PM3_MASK i).inBlock 11 := RegField.inBlock_array (by decide) (by decide) (by decide) (by decide)
theorem EVR_TM0_MASK_block (i : Nat) : (EVR_TM0_MASK i).inBlock 11 := RegField.inBlock_array (by decide) (by decide) (by decide) (by decide)
theorem EVR_TM1_MASK_block (i : Nat) : (EVR_TM1_MASK i).inBlock 11 := RegField.inBlock_array (by decide) (by decide) (by decide) (by decide)
theorem EVR_TM2_MASK_block (i : Nat) : (EVR_TM2_MASK i).inBlock 11 := RegField.inBlock_array (by decide) (by decide) (by decide) (by decide)
theorem EVR_COND_MINPULSE_block (i : Nat) : (EVR_COND_MINPULSE i).inBlock 11 := RegField.inBlock_array (by decide) (by decide) (by decide) (by decide)
theorem EVR_COND_RMAX_block (i : Nat) : (EVR_COND_RMAX i).inBlock 11 := RegField.inBlock_array (by decide) (by decide) (by decide) (by decide)
theorem EVR_COND_RWIN_block (i : Nat) : (EVR_COND_RWIN i).inBlock 11 := RegField.inBlock_array (by decide) (by decide) (by decide) (by decide)
theorem EVR_COND_STUCK_T_block (i : Nat) : (EVR_COND_STUCK_T i).inBlock 11 := RegField.inBlock_array (by decide) (by decide) (by decide) (by decide)
theorem EVR_STAT_STUCK_block (i : Nat) : (EVR_STAT_STUCK i).inBlock 11 := RegField.inBlock_array (by decide) (by decide) (by decide) (by decide)
theorem EVR_STAT_TS_VALID_block (i : Nat) : (EVR_STAT_TS_VALID i).inBlock 11 := RegField.inBlock_array (by decide) (by decide) (by decide) (by decide)
theorem EVR_STAT_LEVEL_block (i : Nat) : (EVR_STAT_LEVEL i).inBlock 11 := RegField.inBlock_array (by decide) (by decide) (by decide) (by decide)
theorem EVR_STAT_DROPPED_block (i : Nat) : (EVR_STAT_DROPPED i).inBlock 11 := RegField.inBlock_array (by decide) (by decide) (by decide) (by decide)
theorem EVR_TSL_TS_L_block (i : Nat) : (EVR_TSL_TS_L i).inBlock 11 := RegField.inBlock_array (by decide) (by decide) (by decide) (by decide)
theorem EVR_TSH_TS_H_block (i : Nat) : (EVR_TSH_TS_H i).inBlock 11 := RegField.inBlock_array (by decide) (by decide) (by decide) (by decide)

/-! Block 12, MEM. -/

theorem MEM_CTRL_SCRUB_EN_block : MEM_CTRL_SCRUB_EN.inBlock 12 := rfl
theorem MEM_CTRL_SCRUB_DIV_block : MEM_CTRL_SCRUB_DIV.inBlock 12 := rfl
theorem MEM_STATUS_POISON_CNT_block : MEM_STATUS_POISON_CNT.inBlock 12 := rfl
theorem MEM_STATUS_SCRUB_FOUND_block : MEM_STATUS_SCRUB_FOUND.inBlock 12 := rfl
theorem MEM_RSTR0_S0_block : MEM_RSTR0_S0.inBlock 12 := rfl
theorem MEM_RSTR0_S1_block : MEM_RSTR0_S1.inBlock 12 := rfl
theorem MEM_RSTR0_S2_block : MEM_RSTR0_S2.inBlock 12 := rfl
theorem MEM_RSTR0_S3_block : MEM_RSTR0_S3.inBlock 12 := rfl
theorem MEM_RSTR0_S4_block : MEM_RSTR0_S4.inBlock 12 := rfl
theorem MEM_RSTR0_S5_block : MEM_RSTR0_S5.inBlock 12 := rfl
theorem MEM_RSTR0_S6_block : MEM_RSTR0_S6.inBlock 12 := rfl
theorem MEM_RSTR0_S7_block : MEM_RSTR0_S7.inBlock 12 := rfl
theorem MEM_RSTR0_S8_block : MEM_RSTR0_S8.inBlock 12 := rfl
theorem MEM_RSTR0_S9_block : MEM_RSTR0_S9.inBlock 12 := rfl
theorem MEM_RSTR0_S10_block : MEM_RSTR0_S10.inBlock 12 := rfl
theorem MEM_RSTR0_S11_block : MEM_RSTR0_S11.inBlock 12 := rfl
theorem MEM_RSTR0_S12_block : MEM_RSTR0_S12.inBlock 12 := rfl
theorem MEM_RSTR0_S13_block : MEM_RSTR0_S13.inBlock 12 := rfl
theorem MEM_RSTR0_S14_block : MEM_RSTR0_S14.inBlock 12 := rfl
theorem MEM_RSTR0_S15_block : MEM_RSTR0_S15.inBlock 12 := rfl
theorem MEM_RSTR1_S16_block : MEM_RSTR1_S16.inBlock 12 := rfl
theorem MEM_RSTR1_S17_block : MEM_RSTR1_S17.inBlock 12 := rfl
theorem MEM_RSTR1_S18_block : MEM_RSTR1_S18.inBlock 12 := rfl
theorem MEM_RSTR1_S19_block : MEM_RSTR1_S19.inBlock 12 := rfl
theorem MEM_RSTR1_S20_block : MEM_RSTR1_S20.inBlock 12 := rfl
theorem MEM_RSTR1_S21_block : MEM_RSTR1_S21.inBlock 12 := rfl
theorem MEM_RSTR1_S22_block : MEM_RSTR1_S22.inBlock 12 := rfl
theorem MEM_RSTR1_S23_block : MEM_RSTR1_S23.inBlock 12 := rfl
theorem MEM_RSTR1_S24_block : MEM_RSTR1_S24.inBlock 12 := rfl
theorem MEM_RSTR1_S25_block : MEM_RSTR1_S25.inBlock 12 := rfl
theorem MEM_RSTR1_S26_block : MEM_RSTR1_S26.inBlock 12 := rfl
theorem MEM_RSTR1_S27_block : MEM_RSTR1_S27.inBlock 12 := rfl
theorem MEM_RSTR1_S28_block : MEM_RSTR1_S28.inBlock 12 := rfl
theorem MEM_RSTR1_S29_block : MEM_RSTR1_S29.inBlock 12 := rfl
theorem MEM_RSTR1_S30_block : MEM_RSTR1_S30.inBlock 12 := rfl
theorem MEM_RSTR1_S31_block : MEM_RSTR1_S31.inBlock 12 := rfl
theorem MEM_ECCCFG_CORR_THR_block : MEM_ECCCFG_CORR_THR.inBlock 12 := rfl
theorem MEM_ECCSTAT_RESULT_block : MEM_ECCSTAT_RESULT.inBlock 12 := rfl
theorem MEM_ECCSTAT_BITS_block : MEM_ECCSTAT_BITS.inBlock 12 := rfl
theorem MEM_ECCSTAT_REASON_block : MEM_ECCSTAT_REASON.inBlock 12 := rfl
theorem MEM_ECCSTAT_PAGE_block : MEM_ECCSTAT_PAGE.inBlock 12 := rfl
theorem MEM_ECCCNT_ECC_CORR_block : MEM_ECCCNT_ECC_CORR.inBlock 12 := rfl
theorem MEM_ECCCNT_ECC_UNCORR_block : MEM_ECCCNT_ECC_UNCORR.inBlock 12 := rfl
theorem MEM_FLIP_L_MASK_block : MEM_FLIP_L_MASK.inBlock 12 := rfl
theorem MEM_FLIP_H_MASK_block : MEM_FLIP_H_MASK.inBlock 12 := rfl
theorem MEM_FLIPCFG_OFFSET_block : MEM_FLIPCFG_OFFSET.inBlock 12 := rfl
theorem MEM_FLIPCFG_ARM_block : MEM_FLIPCFG_ARM.inBlock 12 := rfl
theorem MEM_FLIPCFG_USED_block : MEM_FLIPCFG_USED.inBlock 12 := rfl
theorem MEM_MERGE_FLUSH_block : MEM_MERGE_FLUSH.inBlock 12 := rfl
theorem MEM_MERGE_VALID_block : MEM_MERGE_VALID.inBlock 12 := rfl
theorem MEM_MERGE_BUSY_block : MEM_MERGE_BUSY.inBlock 12 := rfl
theorem MEM_MERGE_LAST_FAIL_block : MEM_MERGE_LAST_FAIL.inBlock 12 := rfl
theorem MEM_LOCK_LOCK_block : MEM_LOCK_LOCK.inBlock 12 := rfl

/-! Block 13, FLC. -/

theorem FLC_CTRL_STALL_FETCH_block : FLC_CTRL_STALL_FETCH.inBlock 13 := rfl
theorem FLC_CTRL_RESUME_IDLE_block : FLC_CTRL_RESUME_IDLE.inBlock 13 := rfl
theorem FLC_CTRL_STARVE_N_block : FLC_CTRL_STARVE_N.inBlock 13 := rfl
theorem FLC_STATUS_LEVEL_block : FLC_STATUS_LEVEL.inBlock 13 := rfl
theorem FLC_STATUS_PUSH_REJ_block : FLC_STATUS_PUSH_REJ.inBlock 13 := rfl
theorem FLC_STATUS_ROM_OWN_block : FLC_STATUS_ROM_OWN.inBlock 13 := rfl
theorem FLC_STATUS_DONE_STALL_block : FLC_STATUS_DONE_STALL.inBlock 13 := rfl
theorem FLC_STATUS_JNL_RESET_block : FLC_STATUS_JNL_RESET.inBlock 13 := rfl
theorem FLC_OWNER_ROM_OWN_block : FLC_OWNER_ROM_OWN.inBlock 13 := rfl
theorem FLC_OWNER_SWAP_block : FLC_OWNER_SWAP.inBlock 13 := rfl
theorem FLC_BANK_STAT_OP_block (i : Nat) : (FLC_BANK_STAT_OP i).inBlock 13 := RegField.inBlock_array (by decide) (by decide) (by decide) (by decide)
theorem FLC_BANK_STAT_STATE_block (i : Nat) : (FLC_BANK_STAT_STATE i).inBlock 13 := RegField.inBlock_array (by decide) (by decide) (by decide) (by decide)
theorem FLC_BANK_STAT_BLOCK_block (i : Nat) : (FLC_BANK_STAT_BLOCK i).inBlock 13 := RegField.inBlock_array (by decide) (by decide) (by decide) (by decide)
theorem FLC_BANK_STAT_PULSES_block (i : Nat) : (FLC_BANK_STAT_PULSES i).inBlock 13 := RegField.inBlock_array (by decide) (by decide) (by decide) (by decide)
theorem FLC_BANK_STAT_SUSPENDS_block (i : Nat) : (FLC_BANK_STAT_SUSPENDS i).inBlock 13 := RegField.inBlock_array (by decide) (by decide) (by decide) (by decide)
theorem FLC_BANK_STAT_STARVED_block (i : Nat) : (FLC_BANK_STAT_STARVED i).inBlock 13 := RegField.inBlock_array (by decide) (by decide) (by decide) (by decide)
theorem FLC_DESC_BYTES_block (i : Nat) : (FLC_DESC_BYTES i).inBlock 13 := RegField.inBlock_array (by decide) (by decide) (by decide) (by decide)
theorem FLC_PUSH_PUSH_block : FLC_PUSH_PUSH.inBlock 13 := rfl
theorem FLC_DONE_BYTES_block (i : Nat) : (FLC_DONE_BYTES i).inBlock 13 := RegField.inBlock_array (by decide) (by decide) (by decide) (by decide)
theorem FLC_DONEPOP_POP_block : FLC_DONEPOP_POP.inBlock 13 := rfl
theorem FLC_DONESTAT_LEVEL_block : FLC_DONESTAT_LEVEL.inBlock 13 := rfl
theorem FLC_SUSP_L_SUSPECT_block (i : Nat) : (FLC_SUSP_L_SUSPECT i).inBlock 13 := RegField.inBlock_array (by decide) (by decide) (by decide) (by decide)
theorem FLC_SUSP_H_SUSPECT_block (i : Nat) : (FLC_SUSP_H_SUSPECT i).inBlock 13 := RegField.inBlock_array (by decide) (by decide) (by decide) (by decide)
theorem FLC_JNL_FREE_A_block : FLC_JNL_FREE_A.inBlock 13 := rfl
theorem FLC_JNL_HALF_A_block : FLC_JNL_HALF_A.inBlock 13 := rfl
theorem FLC_JNL_FREE_B_block : FLC_JNL_FREE_B.inBlock 13 := rfl
theorem FLC_JNL_HALF_B_block : FLC_JNL_HALF_B.inBlock 13 := rfl
theorem FLC_LOCK_LOCK_block : FLC_LOCK_LOCK.inBlock 13 := rfl
theorem FLC_ECNT_COUNT_block (i : Nat) : (FLC_ECNT_COUNT i).inBlock 13 := RegField.inBlock_array (by decide) (by decide) (by decide) (by decide)

/-! Block 14, HDP. -/

theorem HDP_CTRL_SPI_EN_block : HDP_CTRL_SPI_EN.inBlock 14 := rfl
theorem HDP_CTRL_CAN_EN_block : HDP_CTRL_CAN_EN.inBlock 14 := rfl
theorem HDP_CTRL_ETH_EN_block : HDP_CTRL_ETH_EN.inBlock 14 := rfl
theorem HDP_CTRL_UART_EN_block : HDP_CTRL_UART_EN.inBlock 14 := rfl
theorem HDP_CTRL_MESH_EN_block : HDP_CTRL_MESH_EN.inBlock 14 := rfl
theorem HDP_STATUS_ETH_LINK_block : HDP_STATUS_ETH_LINK.inBlock 14 := rfl
theorem HDP_STATUS_ETH_100_block : HDP_STATUS_ETH_100.inBlock 14 := rfl
theorem HDP_STATUS_ETH_FDX_block : HDP_STATUS_ETH_FDX.inBlock 14 := rfl
theorem HDP_STATUS_CAN_STATE_block : HDP_STATUS_CAN_STATE.inBlock 14 := rfl
theorem HDP_STATUS_OWN_STATE_block : HDP_STATUS_OWN_STATE.inBlock 14 := rfl
theorem HDP_STATUS_OWN_TRANSPORT_block : HDP_STATUS_OWN_TRANSPORT.inBlock 14 := rfl
theorem HDP_STATUS_OWN_PRIO_block : HDP_STATUS_OWN_PRIO.inBlock 14 := rfl
theorem HDP_STATUS_QLEVEL_block : HDP_STATUS_QLEVEL.inBlock 14 := rfl
theorem HDP_STATUS_LOAD_block : HDP_STATUS_LOAD.inBlock 14 := rfl
theorem HDP_SPICFG_MODE3_block : HDP_SPICFG_MODE3.inBlock 14 := rfl
theorem HDP_CANCFG_NOM_block : HDP_CANCFG_NOM.inBlock 14 := rfl
theorem HDP_CANCFG_DATA_block : HDP_CANCFG_DATA.inBlock 14 := rfl
theorem HDP_CANCFG_FD_EN_block : HDP_CANCFG_FD_EN.inBlock 14 := rfl
theorem HDP_CANCFG_BASE_block : HDP_CANCFG_BASE.inBlock 14 := rfl
theorem HDP_UARTCFG_BAUD_block : HDP_UARTCFG_BAUD.inBlock 14 := rfl
theorem HDP_IPADDR_ADDR_block : HDP_IPADDR_ADDR.inBlock 14 := rfl
theorem HDP_IPMASK_ADDR_block : HDP_IPMASK_ADDR.inBlock 14 := rfl
theorem HDP_IPGW_ADDR_block : HDP_IPGW_ADDR.inBlock 14 := rfl
theorem HDP_MAC_L_MAC_block : HDP_MAC_L_MAC.inBlock 14 := rfl
theorem HDP_MAC_H_MAC_block : HDP_MAC_H_MAC.inBlock 14 := rfl
theorem HDP_UDPPORT_ODP_PORT_block : HDP_UDPPORT_ODP_PORT.inBlock 14 := rfl
theorem HDP_UDPPORT_PLANE_PORT_block : HDP_UDPPORT_PLANE_PORT.inBlock 14 := rfl
theorem HDP_KA_KA_block : HDP_KA_KA.inBlock 14 := rfl
theorem HDP_CNT0_ACCEPTED_block : HDP_CNT0_ACCEPTED.inBlock 14 := rfl
theorem HDP_CNT0_CRC_ERR_block : HDP_CNT0_CRC_ERR.inBlock 14 := rfl
theorem HDP_CNT1_BUSY_block : HDP_CNT1_BUSY.inBlock 14 := rfl
theorem HDP_CNT1_DISCARD_block : HDP_CNT1_DISCARD.inBlock 14 := rfl
theorem HDP_LOCK_LOCK_block : HDP_LOCK_LOCK.inBlock 14 := rfl

/-! Block 15, LGY. -/

theorem LGY_STATUS_IRQ_block : LGY_STATUS_IRQ.inBlock 15 := rfl
theorem LGY_STATUS_RXAVAIL_block : LGY_STATUS_RXAVAIL.inBlock 15 := rfl
theorem LGY_STATUS_TXEMPTY_block : LGY_STATUS_TXEMPTY.inBlock 15 := rfl
theorem LGY_STATUS_SYNCED_block : LGY_STATUS_SYNCED.inBlock 15 := rfl
theorem LGY_STATUS_TXBUSY_block : LGY_STATUS_TXBUSY.inBlock 15 := rfl
theorem LGY_STATUS_CMDBUSY_block : LGY_STATUS_CMDBUSY.inBlock 15 := rfl
theorem LGY_STATUS_RUNNING_block : LGY_STATUS_RUNNING.inBlock 15 := rfl
theorem LGY_STATUS_RXOVF_block : LGY_STATUS_RXOVF.inBlock 15 := rfl
theorem LGY_IRQF_FLAGS_block (i : Nat) : (LGY_IRQF_FLAGS i).inBlock 15 := RegField.inBlock_array (by decide) (by decide) (by decide) (by decide)
theorem LGY_IRQEN_EN_block (i : Nat) : (LGY_IRQEN_EN i).inBlock 15 := RegField.inBlock_array (by decide) (by decide) (by decide) (by decide)
theorem LGY_CMD_CMD_block : LGY_CMD_CMD.inBlock 15 := rfl
theorem LGY_STATE_STATE_block : LGY_STATE_STATE.inBlock 15 := rfl
theorem LGY_RXFIFO_DATA_block : LGY_RXFIFO_DATA.inBlock 15 := rfl
theorem LGY_RXLEV_L_LEVEL_block : LGY_RXLEV_L_LEVEL.inBlock 15 := rfl
theorem LGY_RXLEV_H_LEVEL_block : LGY_RXLEV_H_LEVEL.inBlock 15 := rfl
theorem LGY_RXTHR_THR_block : LGY_RXTHR_THR.inBlock 15 := rfl
theorem LGY_TXFIFO_DATA_block : LGY_TXFIFO_DATA.inBlock 15 := rfl
theorem LGY_TXLEV_L_LEVEL_block : LGY_TXLEV_L_LEVEL.inBlock 15 := rfl
theorem LGY_TXLEV_H_LEVEL_block : LGY_TXLEV_H_LEVEL.inBlock 15 := rfl
theorem LGY_TXTHR_THR_block : LGY_TXTHR_THR.inBlock 15 := rfl
theorem LGY_RSSI_RSSI_block : LGY_RSSI_RSSI.inBlock 15 := rfl
theorem LGY_RXINFO_CH_block : LGY_RXINFO_CH.inBlock 15 := rfl
theorem LGY_RXINFO_ACKSENT_block : LGY_RXINFO_ACKSENT.inBlock 15 := rfl
theorem LGY_RXINFO_NOCTX_block : LGY_RXINFO_NOCTX.inBlock 15 := rfl
theorem LGY_FOFF_FOFF_block : LGY_FOFF_FOFF.inBlock 15 := rfl
theorem LGY_RSSITHR_RSSI_block : LGY_RSSITHR_RSSI.inBlock 15 := rfl
theorem LGY_CHCFG_CHOFF_block (i : Nat) : (LGY_CHCFG_CHOFF i).inBlock 15 := RegField.inBlock_array (by decide) (by decide) (by decide) (by decide)
theorem LGY_CHCFG_EN_block (i : Nat) : (LGY_CHCFG_EN i).inBlock 15 := RegField.inBlock_array (by decide) (by decide) (by decide) (by decide)
theorem LGY_HOPLEN_LEN_block : LGY_HOPLEN_LEN.inBlock 15 := rfl
theorem LGY_HOPIDX_IDX_block : LGY_HOPIDX_IDX.inBlock 15 := rfl
theorem LGY_HOPDAT_N_block : LGY_HOPDAT_N.inBlock 15 := rfl
theorem LGY_BASEF0_F_block : LGY_BASEF0_F.inBlock 15 := rfl
theorem LGY_BASEF1_F_block : LGY_BASEF1_F.inBlock 15 := rfl
theorem LGY_BASEF2_F_block : LGY_BASEF2_F.inBlock 15 := rfl
theorem LGY_SPACING_SP_block : LGY_SPACING_SP.inBlock 15 := rfl
theorem LGY_PHYCFG_RATE_block : LGY_PHYCFG_RATE.inBlock 15 := rfl
theorem LGY_SLOTCNT_L_COUNT_block : LGY_SLOTCNT_L_COUNT.inBlock 15 := rfl
theorem LGY_SLOTCNT_H_COUNT_block : LGY_SLOTCNT_H_COUNT.inBlock 15 := rfl
theorem LGY_SLOTCTL_RUN_block : LGY_SLOTCTL_RUN.inBlock 15 := rfl
theorem LGY_SLOTCTL_MASTER_block : LGY_SLOTCTL_MASTER.inBlock 15 := rfl
theorem LGY_TXOFF_T_block : LGY_TXOFF_T.inBlock 15 := rfl
theorem LGY_ACKDLY_T_block : LGY_ACKDLY_T.inBlock 15 := rfl
theorem LGY_BCNPER_PER_block : LGY_BCNPER_PER.inBlock 15 := rfl
theorem LGY_TXCFG_ACKREQ_block : LGY_TXCFG_ACKREQ.inBlock 15 := rfl
theorem LGY_TXCFG_RETRIES_block : LGY_TXCFG_RETRIES.inBlock 15 := rfl
theorem LGY_TXCFG_CH_block : LGY_TXCFG_CH.inBlock 15 := rfl
theorem LGY_TXPWR_PWR_block : LGY_TXPWR_PWR.inBlock 15 := rfl
theorem LGY_TXDST_CTX_block : LGY_TXDST_CTX.inBlock 15 := rfl
theorem LGY_CTXIDX_IDX_block : LGY_CTXIDX_IDX.inBlock 15 := rfl
theorem LGY_CTXDAT_VALUE_block (i : Nat) : (LGY_CTXDAT_VALUE i).inBlock 15 := RegField.inBlock_array (by decide) (by decide) (by decide) (by decide)
theorem LGY_CTXCNT_VALUE_block : LGY_CTXCNT_VALUE.inBlock 15 := rfl
theorem LGY_LASTCTX_VALUE_block : LGY_LASTCTX_VALUE.inBlock 15 := rfl
theorem LGY_LASTSEQ_VALUE_block : LGY_LASTSEQ_VALUE.inBlock 15 := rfl
theorem LGY_OWNADDR_VALUE_block (i : Nat) : (LGY_OWNADDR_VALUE i).inBlock 15 := RegField.inBlock_array (by decide) (by decide) (by decide) (by decide)
theorem LGY_NETID_VALUE_block (i : Nat) : (LGY_NETID_VALUE i).inBlock 15 := RegField.inBlock_array (by decide) (by decide) (by decide) (by decide)
theorem LGY_SYNCW_WORD_block (i : Nat) : (LGY_SYNCW_WORD i).inBlock 15 := RegField.inBlock_array (by decide) (by decide) (by decide) (by decide)
theorem LGY_TEMP_TEMP_block : LGY_TEMP_TEMP.inBlock 15 := rfl
theorem LGY_CHIPID_ID_block : LGY_CHIPID_ID.inBlock 15 := rfl
theorem LGY_VERSION_ID_block : LGY_VERSION_ID.inBlock 15 := rfl
theorem LGY_UNLOCK_KEY_block : LGY_UNLOCK_KEY.inBlock 15 := rfl

/-! Block 16, TAG. -/

theorem TAG_CTRL_FIELD_PRIORITY_block : TAG_CTRL_FIELD_PRIORITY.inBlock 16 := rfl
theorem TAG_CTRL_WAKE_EN_block : TAG_CTRL_WAKE_EN.inBlock 16 := rfl
theorem TAG_STATUS_READY_block : TAG_STATUS_READY.inBlock 16 := rfl
theorem TAG_STATUS_FIELD_block : TAG_STATUS_FIELD.inBlock 16 := rfl
theorem TAG_STATUS_FIELD_OK_block : TAG_STATUS_FIELD_OK.inBlock 16 := rfl
theorem TAG_STATUS_SEM_block : TAG_STATUS_SEM.inBlock 16 := rfl
theorem TAG_STATUS_OWNER_block : TAG_STATUS_OWNER.inBlock 16 := rfl
theorem TAG_STATUS_RECOVERED_block : TAG_STATUS_RECOVERED.inBlock 16 := rfl
theorem TAG_STATUS_VREC_block : TAG_STATUS_VREC.inBlock 16 := rfl
theorem TAG_WCMD_BLOCK_block : TAG_WCMD_BLOCK.inBlock 16 := rfl
theorem TAG_WCMD_START_block : TAG_WCMD_START.inBlock 16 := rfl
theorem TAG_WDATA_DATA_block : TAG_WDATA_DATA.inBlock 16 := rfl
theorem TAG_WSTAT_RUN_block : TAG_WSTAT_RUN.inBlock 16 := rfl
theorem TAG_WSTAT_STATUS_block : TAG_WSTAT_STATUS.inBlock 16 := rfl
theorem TAG_WSTAT_COUNT_block : TAG_WSTAT_COUNT.inBlock 16 := rfl
theorem TAG_ACMD_AREA_block : TAG_ACMD_AREA.inBlock 16 := rfl
theorem TAG_ACMD_CMD_block : TAG_ACMD_CMD.inBlock 16 := rfl
theorem TAG_AREASTAT_LOCKOUT_block : TAG_AREASTAT_LOCKOUT.inBlock 16 := rfl
theorem TAG_AREASTAT_RP_block : TAG_AREASTAT_RP.inBlock 16 := rfl
theorem TAG_AREASTAT_WP_block : TAG_AREASTAT_WP.inBlock 16 := rfl
theorem TAG_LOCK_LOCK_block : TAG_LOCK_LOCK.inBlock 16 := rfl

/-! Block 17, BTU. -/

theorem BTU_BOOTSTAT_ALT_BANK_block : BTU_BOOTSTAT_ALT_BANK.inBlock 17 := rfl
theorem BTU_BOOTSTAT_TRIAL_block : BTU_BOOTSTAT_TRIAL.inBlock 17 := rfl
theorem BTU_BOOTSTAT_REVERTED_block : BTU_BOOTSTAT_REVERTED.inBlock 17 := rfl
theorem BTU_BOOTSTAT_REVERT_FAIL_block : BTU_BOOTSTAT_REVERT_FAIL.inBlock 17 := rfl
theorem BTU_BOOTSTAT_OTP_FAULT_block : BTU_BOOTSTAT_OTP_FAULT.inBlock 17 := rfl
theorem BTU_BOOTSTAT_REASON_A_block : BTU_BOOTSTAT_REASON_A.inBlock 17 := rfl
theorem BTU_SWAP_REQ_block : BTU_SWAP_REQ.inBlock 17 := rfl
theorem BTU_SWAP_FIRST_block : BTU_SWAP_FIRST.inBlock 17 := rfl
theorem BTU_CNT0_C1_block : BTU_CNT0_C1.inBlock 17 := rfl
theorem BTU_CNT0_C2_block : BTU_CNT0_C2.inBlock 17 := rfl
theorem BTU_CNT0_C3_block : BTU_CNT0_C3.inBlock 17 := rfl
theorem BTU_CNT0_C4_block : BTU_CNT0_C4.inBlock 17 := rfl
theorem BTU_CNT1_CNT_block : BTU_CNT1_CNT.inBlock 17 := rfl
theorem BTU_LOCK_LOCK_block : BTU_LOCK_LOCK.inBlock 17 := rfl

/-! Block 18, ERR. -/

theorem ERR_STATUS_LEVEL_block : ERR_STATUS_LEVEL.inBlock 18 := rfl
theorem ERR_STATUS_FATAL_OPEN_block : ERR_STATUS_FATAL_OPEN.inBlock 18 := rfl
theorem ERR_STATUS_LOG_LOST_block : ERR_STATUS_LOG_LOST.inBlock 18 := rfl
theorem ERR_STATUS_DOUBLE_block : ERR_STATUS_DOUBLE.inBlock 18 := rfl
theorem ERR_STATUS_POP_REJ_block : ERR_STATUS_POP_REJ.inBlock 18 := rfl
theorem ERR_STATUS_DEPTH_block : ERR_STATUS_DEPTH.inBlock 18 := rfl
theorem ERR_STATUS_LOST_block : ERR_STATUS_LOST.inBlock 18 := rfl
theorem ERR_OPEN0_OPEN_block : ERR_OPEN0_OPEN.inBlock 18 := rfl
theorem ERR_OPEN1_OPEN_block : ERR_OPEN1_OPEN.inBlock 18 := rfl
theorem ERR_CLOSE_SRC_block : ERR_CLOSE_SRC.inBlock 18 := rfl
theorem ERR_CLOSE_SRC_EN_block : ERR_CLOSE_SRC_EN.inBlock 18 := rfl
theorem ERR_CLOSE_FATAL_block : ERR_CLOSE_FATAL.inBlock 18 := rfl
theorem ERR_POP_POP_block : ERR_POP_POP.inBlock 18 := rfl
theorem ERR_INJECT_CLASS_block : ERR_INJECT_CLASS.inBlock 18 := rfl
theorem ERR_LOG_A_CLASS_block (i : Nat) : (ERR_LOG_A_CLASS i).inBlock 18 := RegField.inBlock_array (by decide) (by decide) (by decide) (by decide)
theorem ERR_LOG_A_SOURCE_block (i : Nat) : (ERR_LOG_A_SOURCE i).inBlock 18 := RegField.inBlock_array (by decide) (by decide) (by decide) (by decide)
theorem ERR_LOG_A_OPEN_block (i : Nat) : (ERR_LOG_A_OPEN i).inBlock 18 := RegField.inBlock_array (by decide) (by decide) (by decide) (by decide)
theorem ERR_LOG_A_ESCALATED_block (i : Nat) : (ERR_LOG_A_ESCALATED i).inBlock 18 := RegField.inBlock_array (by decide) (by decide) (by decide) (by decide)
theorem ERR_LOG_A_RESET_block (i : Nat) : (ERR_LOG_A_RESET i).inBlock 18 := RegField.inBlock_array (by decide) (by decide) (by decide) (by decide)
theorem ERR_LOG_A_SCRUB_block (i : Nat) : (ERR_LOG_A_SCRUB i).inBlock 18 := RegField.inBlock_array (by decide) (by decide) (by decide) (by decide)
theorem ERR_LOG_A_DOUBLE_block (i : Nat) : (ERR_LOG_A_DOUBLE i).inBlock 18 := RegField.inBlock_array (by decide) (by decide) (by decide) (by decide)
theorem ERR_LOG_A_DETAIL_block (i : Nat) : (ERR_LOG_A_DETAIL i).inBlock 18 := RegField.inBlock_array (by decide) (by decide) (by decide) (by decide)
theorem ERR_LOG_B_ADDRESS_block (i : Nat) : (ERR_LOG_B_ADDRESS i).inBlock 18 := RegField.inBlock_array (by decide) (by decide) (by decide) (by decide)
theorem ERR_LOG_C_TNET_block (i : Nat) : (ERR_LOG_C_TNET i).inBlock 18 := RegField.inBlock_array (by decide) (by decide) (by decide) (by decide)
theorem ERR_LOG_D_TNET_block (i : Nat) : (ERR_LOG_D_TNET i).inBlock 18 := RegField.inBlock_array (by decide) (by decide) (by decide) (by decide)

/-! Block 19, PIN. -/

theorem PIN_CFG_FUNC_block (i : Nat) : (PIN_CFG_FUNC i).inBlock 19 := RegField.inBlock_array (by decide) (by decide) (by decide) (by decide)
theorem PIN_CFG_DIR_block (i : Nat) : (PIN_CFG_DIR i).inBlock 19 := RegField.inBlock_array (by decide) (by decide) (by decide) (by decide)
theorem PIN_CFG_PULL_block (i : Nat) : (PIN_CFG_PULL i).inBlock 19 := RegField.inBlock_array (by decide) (by decide) (by decide) (by decide)
theorem PIN_CFG_DRIVE_block (i : Nat) : (PIN_CFG_DRIVE i).inBlock 19 := RegField.inBlock_array (by decide) (by decide) (by decide) (by decide)
theorem PIN_CFG_OD_block (i : Nat) : (PIN_CFG_OD i).inBlock 19 := RegField.inBlock_array (by decide) (by decide) (by decide) (by decide)
theorem PIN_OUT_L_LEVEL_block : PIN_OUT_L_LEVEL.inBlock 19 := rfl
theorem PIN_OUT_H_LEVEL_block : PIN_OUT_H_LEVEL.inBlock 19 := rfl
theorem PIN_IN_L_LEVEL_block : PIN_IN_L_LEVEL.inBlock 19 := rfl
theorem PIN_IN_H_LEVEL_block : PIN_IN_H_LEVEL.inBlock 19 := rfl
theorem PIN_LOCK_LOCK_block : PIN_LOCK_LOCK.inBlock 19 := rfl

theorem prcRegs_in : regsIn 0 prcRegs :=
  ⟨fun _ => ⟨PRC_CTRL_DOZE_EN_block, PRC_CTRL_CORE_CLK_block, PRC_CTRL_PIN_HOLD_block, PRC_CTRL_HOLD_REL_block, PRC_CTRL_ENTRY_TO_block, trivial⟩,
    fun _ => ⟨PRC_STATUS_VSUP_LOW_block, PRC_STATUS_THERM_HOT_block, PRC_STATUS_CLK_DEV_block, PRC_STATUS_REF_FAIL_block, PRC_STATUS_REF_OK_block, trivial⟩,
    fun _ => ⟨PRC_RSTCAUSE_CAUSE_block, PRC_RSTCAUSE_C1_CAUSE_block, PRC_RSTCAUSE_FROM_STANDBY_block, PRC_RSTCAUSE_PIN_HELD_block, PRC_RSTCAUSE_STEP_block, trivial⟩,
    fun _ => ⟨PRC_RSTCMD_SCOPE_block, PRC_RSTCMD_CONFIRM_block, trivial⟩,
    fun _ => ⟨PRC_MODE_MODE_block, PRC_MODE_PREV_block, PRC_MODE_UNLOCKED_block, PRC_MODE_PENDING_block, trivial⟩,
    fun _ => ⟨PRC_PWRCMD_STATE_block, trivial⟩,
    fun _ => ⟨PRC_PWRSTAT_LAST_block, PRC_PWRSTAT_PENDING_block, PRC_PWRSTAT_RESULT_block, PRC_PWRSTAT_CMD_REJ_block, PRC_PWRSTAT_TNET_RESTORED_block, PRC_PWRSTAT_ENTRIES_block, trivial⟩,
    fun _ => ⟨PRC_WAKEEN_EN_block, trivial⟩,
    fun _ => ⟨PRC_WAKESRC_SRC_block, PRC_WAKESRC_FIRST_block, trivial⟩,
    fun i => ⟨PRC_DEEPRET_GRANULE0_block i, PRC_DEEPRET_EN0_block i, PRC_DEEPRET_GRANULE1_block i, PRC_DEEPRET_EN1_block i, PRC_DEEPRET_GRANULE2_block i, PRC_DEEPRET_EN2_block i, PRC_DEEPRET_GRANULE3_block i, PRC_DEEPRET_EN3_block i, trivial⟩,
    fun _ => ⟨PRC_SLPWAKE_L_TNET_block, trivial⟩,
    fun _ => ⟨PRC_SLPWAKE_H_TNET_block, trivial⟩,
    fun _ => ⟨PRC_SUPCFG_WARN_block, PRC_SUPCFG_THERM_block, PRC_SUPCFG_DEV_block, trivial⟩,
    fun _ => ⟨PRC_SUPMEAS_VSUP_block, PRC_SUPMEAS_DEV_LAST_block, trivial⟩,
    fun _ => ⟨PRC_BLKRST_BLOCK_block, trivial⟩,
    fun i => ⟨PRC_WDT_CFG_TIMEOUT_block i, PRC_WDT_CFG_WARN_block i, PRC_WDT_CFG_WINDOW_block i, PRC_WDT_CFG_EN_block i, trivial⟩,
    fun i => ⟨PRC_WDT_KICK_VALUE_block i, trivial⟩,
    fun i => ⟨PRC_WDT_STAT_REMAIN_block i, PRC_WDT_STAT_RUNNING_block i, PRC_WDT_STAT_WARNED_block i, PRC_WDT_STAT_PAUSED_block i, trivial⟩,
    fun _ => ⟨PRC_LOCK_LOCK_block, trivial⟩,
    fun _ => ⟨PRC_RSTSRC_SOURCES_block, trivial⟩, trivial⟩

theorem rfcRegs_in : regsIn 1 rfcRegs :=
  ⟨fun _ => ⟨RFC_CTRL_ANT_CFG_block, RFC_CTRL_FDX_EN_block, RFC_CTRL_RET_T_block, RFC_CTRL_RET_A_block, RFC_CTRL_RET_B_block, trivial⟩,
    fun _ => ⟨RFC_STATE_STATE_A_block, RFC_STATE_STATE_B_block, RFC_STATE_STATE_T_block, RFC_STATE_TRSW_block, RFC_STATE_VSUP_HI_block, RFC_STATE_FREQ_ERR_block, RFC_STATE_CMD_REJ_block, trivial⟩,
    fun _ => ⟨RFC_CMD_PATH_block, RFC_CMD_TARGET_block, trivial⟩,
    fun _ => ⟨RFC_FREQ_A_FREQ_block, trivial⟩,
    fun _ => ⟨RFC_FREQ_B_FREQ_block, trivial⟩,
    fun _ => ⟨RFC_FREQ_T_FREQ_block, trivial⟩,
    fun _ => ⟨RFC_CALCFG_POLICY_block, RFC_CALCFG_BG_EN_block, RFC_CALCFG_DELTA_T_block, RFC_CALCFG_RESSEL_block, trivial⟩,
    fun _ => ⟨RFC_CALCMD_TYPE_block, RFC_CALCMD_TARGET_block, trivial⟩,
    fun _ => ⟨RFC_CALSTAT_BUSY_block, RFC_CALSTAT_LAST_TYPE_block, RFC_CALSTAT_LAST_TARGET_block, RFC_CALSTAT_RESULT_block, RFC_CALSTAT_COUNT_block, trivial⟩,
    fun _ => ⟨RFC_CALRES_VCO_BAND_block, RFC_CALRES_VCO_CAPTRIM_block, RFC_CALRES_VCO_LOCK_TIME_block, trivial⟩,
    fun _ => ⟨RFC_CALRES_IMR_GAIN_CORR_block, RFC_CALRES_IMR_PHASE_CORR_block, RFC_CALRES_IMR_IMR_DB_block, trivial⟩,
    fun _ => ⟨RFC_CALRES_CHBW_BW_block, RFC_CALRES_CHBW_TRIM_block, trivial⟩,
    fun _ => ⟨RFC_CALRES_XTAL_ERR_PPB_block, trivial⟩,
    fun _ => ⟨RFC_CALRES_DCIQ_DC_I_block, RFC_CALRES_DCIQ_DC_Q_block, RFC_CALRES_DCIQ_IQ_GAIN_block, RFC_CALRES_DCIQ_IQ_PHASE_block, trivial⟩,
    fun _ => ⟨RFC_TEMP_TEMP_block, RFC_TEMP_TEMP_CAL_T_block, trivial⟩,
    fun _ => ⟨RFC_GAIN_A_AGC_AUTO_block, RFC_GAIN_A_GAIN_block, RFC_GAIN_A_SAT_COUNT_block, trivial⟩,
    fun _ => ⟨RFC_GAIN_B_AGC_AUTO_block, RFC_GAIN_B_GAIN_block, RFC_GAIN_B_SAT_COUNT_block, trivial⟩,
    fun _ => ⟨RFC_EXTCTL_PA_EN_EN_block, RFC_EXTCTL_PA_POL_block, RFC_EXTCTL_LNA_A_EN_block, RFC_EXTCTL_LNA_A_POL_block, RFC_EXTCTL_LNA_B_EN_block, RFC_EXTCTL_LNA_B_POL_block, RFC_EXTCTL_TR_EN_block, RFC_EXTCTL_TR_POL_block, RFC_EXTCTL_EXT_LNA_GAIN_block, trivial⟩,
    fun _ => ⟨RFC_REGSTAT_REGLOCK_block, RFC_REGSTAT_PROFILE_VALID_block, RFC_REGSTAT_LAST_REASON_block, RFC_REGSTAT_SUPPLY_block, RFC_REGSTAT_LAST_BAND_block, RFC_REGSTAT_NO_BAND_block, RFC_REGSTAT_REFUSALS_block, trivial⟩,
    fun _ => ⟨RFC_DUTYSEL_GROUP_block, trivial⟩,
    fun _ => ⟨RFC_DUTYUSE_USED_block, RFC_DUTYUSE_PRECHARGED_block, trivial⟩,
    fun _ => ⟨RFC_BLANK_A0_LANES_block, trivial⟩,
    fun _ => ⟨RFC_BLANK_A1_LANES_block, trivial⟩,
    fun _ => ⟨RFC_BLANK_B0_LANES_block, trivial⟩,
    fun _ => ⟨RFC_BLANK_B1_LANES_block, trivial⟩,
    fun _ => ⟨RFC_TESTCMD_OP_block, trivial⟩,
    fun _ => ⟨RFC_TESTDUR_DURATION_block, trivial⟩,
    fun _ => ⟨RFC_LOCK_LOCK_block, trivial⟩,
    fun _ => ⟨RFC_TESTRX_HALF_block, RFC_TESTRX_PROFILE_block, RFC_TESTRX_CHANNEL_block, trivial⟩, trivial⟩

theorem chzRegs_in : regsIn 2 chzRegs :=
  ⟨fun _ => ⟨CHZ_CTRL_PLAN_A_block, CHZ_CTRL_PLAN_B_block, CHZ_CTRL_TWIN_EN_block, CHZ_CTRL_LEAK_EN_block, trivial⟩,
    fun _ => ⟨CHZ_STATUS_TWIN_ACTIVE_block, CHZ_STATUS_TWIN_REJ_block, CHZ_STATUS_PROF_ERR_block, CHZ_STATUS_MAP_BUSY_block, CHZ_STATUS_UNMAPPED_block, trivial⟩,
    fun _ => ⟨CHZ_CHF0_F0_block, trivial⟩,
    fun _ => ⟨CHZ_CHSPACE_S_block, trivial⟩,
    fun _ => ⟨CHZ_CHCOUNT_N_block, trivial⟩,
    fun _ => ⟨CHZ_MAPQ_CHAN_block, CHZ_MAPQ_LANE_block, CHZ_MAPQ_HALF_block, CHZ_MAPQ_VALID_block, trivial⟩,
    fun _ => ⟨CHZ_SYNC_SFD_ERR_block, CHZ_SYNC_LEG_ERR_block, trivial⟩,
    fun _ => ⟨CHZ_LEGSYNC_WORD_block, trivial⟩,
    fun i => ⟨CHZ_PROF_MOD_block i, CHZ_PROF_RATE_block i, CHZ_PROF_BT_block i, CHZ_PROF_HIDX_block i, CHZ_PROF_REP_block i, CHZ_PROF_SFDG_block i, CHZ_PROF_FEC_EN_block i, CHZ_PROF_LEG_EN_block i, CHZ_PROF_NAT_EN_block i, CHZ_PROF_MAXLEN_block i, trivial⟩,
    fun _ => ⟨CHZ_OFFCFG_ALPHA_block, CHZ_OFFCFG_OFF_LIM_block, trivial⟩,
    fun _ => ⟨CHZ_LEAKCFG_TARGET_block, CHZ_LEAKCFG_MIN_block, trivial⟩,
    fun _ => ⟨CHZ_LEAK_A_SUPPR_block, CHZ_LEAK_A_ACTIVE_block, CHZ_LEAK_A_CONV_block, CHZ_LEAK_A_SETS_block, trivial⟩,
    fun _ => ⟨CHZ_LEAK_B_SUPPR_block, CHZ_LEAK_B_ACTIVE_block, CHZ_LEAK_B_CONV_block, CHZ_LEAK_B_SETS_block, trivial⟩,
    fun _ => ⟨CHZ_LOCK_LOCK_block, trivial⟩,
    fun i => ⟨CHZ_LCFG_EN_block i, CHZ_LCFG_PROFILE_block i, trivial⟩,
    fun i => ⟨CHZ_LSTAT_STATE_block i, CHZ_LSTAT_DGAIN_block i, trivial⟩,
    fun i => ⟨CHZ_LNCO_LNCO_block i, trivial⟩,
    fun i => ⟨CHZ_LCNT_DETECT_block i, CHZ_LCNT_BLANKED_block i, CHZ_LCNT_OVF_block i, trivial⟩, trivial⟩

theorem txpRegs_in : regsIn 3 txpRegs :=
  ⟨fun _ => ⟨TXP_CTRL_MASK_EN_block, TXP_CTRL_PRECOR_EN_block, TXP_CTRL_TEST_PROF_block, TXP_CTRL_FIR_DELAY_block, trivial⟩,
    fun _ => ⟨TXP_STATUS_TABLE_ERR_block, TXP_STATUS_PROF_ERR_block, TXP_STATUS_RAMP_ERR_block, TXP_STATUS_LAST_MASK_block, TXP_STATUS_LAST_CLAMP_block, TXP_STATUS_ABORTS_block, TXP_STATUS_TXCOUNT_block, trivial⟩,
    fun _ => ⟨TXP_POWER_POWER_block, trivial⟩,
    fun _ => ⟨TXP_RAMP_RUP_block, TXP_RAMP_RDOWN_block, TXP_RAMP_SHAPE_block, trivial⟩,
    fun _ => ⟨TXP_PATIME_PA_LEAD_block, TXP_PATIME_PA_LAG_block, trivial⟩,
    fun _ => ⟨TXP_PRECOR_PRECOR_MAX_block, trivial⟩,
    fun i => ⟨TXP_PROF_MOD_block i, TXP_PROF_RATE_block i, TXP_PROF_BT_block i, TXP_PROF_HIDX_block i, TXP_PROF_REP_block i, TXP_PROF_SFDG_block i, TXP_PROF_FEC_block i, TXP_PROF_ILV_block i, TXP_PROF_DW_block i, TXP_PROF_FCS_T_block i, TXP_PROF_LEGACY_block i, TXP_PROF_FIR_EN_block i, TXP_PROF_PREAMBLE_block i, trivial⟩,
    fun i => ⟨TXP_RTAB_ENTRY0_block i, TXP_RTAB_ENTRY1_block i, TXP_RTAB_ENTRY2_block i, TXP_RTAB_ENTRY3_block i, trivial⟩,
    fun i => ⟨TXP_FIR_TAP_LO_block i, TXP_FIR_TAP_HI_block i, trivial⟩,
    fun i => ⟨TXP_MASK_OFFSET_block i, TXP_MASK_LIMIT_block i, TXP_MASK_VALID_block i, trivial⟩,
    fun _ => ⟨TXP_LOCK_LOCK_block, trivial⟩, trivial⟩

theorem sleRegs_in : regsIn 4 sleRegs :=
  ⟨fun _ => ⟨SLE_CMD_CMD_block, trivial⟩,
    fun _ => ⟨SLE_STATUS_RUNNING_block, SLE_STATUS_ACTIVE_BUF_block, SLE_STATUS_STANDBY_block, SLE_STATUS_STOP_PEND_block, SLE_STATUS_WR_REJ_block, SLE_STATUS_CMD_REJ_block, trivial⟩,
    fun _ => ⟨SLE_LOADCHK_RESULT_block, SLE_LOADCHK_STAGE_block, SLE_LOADCHK_DETAIL_block, trivial⟩,
    fun _ => ⟨SLE_SWAPASN_L_SWAP_ASN_L_block, trivial⟩,
    fun _ => ⟨SLE_SWAPASN_H_SWAP_ASN_H_block, trivial⟩,
    fun _ => ⟨SLE_NEWASN_L_NEW_ASN_L_block, trivial⟩,
    fun _ => ⟨SLE_NEWASN_H_NEW_ASN_H_block, trivial⟩,
    fun _ => ⟨SLE_ASN_L_ASN_L_block, trivial⟩,
    fun _ => ⟨SLE_ASN_H_ASN_H_block, trivial⟩,
    fun _ => ⟨SLE_SLOTTICK_TICK_block, trivial⟩,
    fun _ => ⟨SLE_TNET_L_TNET_L_block, trivial⟩,
    fun _ => ⟨SLE_TNET_H_TNET_H_block, trivial⟩,
    fun _ => ⟨SLE_IMGPAGE_PAGE_block, trivial⟩,
    fun _ => ⟨SLE_TWINSTAT_COUNT_block, SLE_TWINSTAT_LAST_STAGE_block, SLE_TWINSTAT_LAST_ASN_block, trivial⟩,
    fun _ => ⟨SLE_TWINTEST_STAGE_block, SLE_TWINTEST_BIT_block, SLE_TWINTEST_SEQ_block, trivial⟩,
    fun _ => ⟨SLE_DROPA_ASN_L_block, trivial⟩,
    fun _ => ⟨SLE_DROPB_ASN_H_block, SLE_DROPB_STAGE_block, SLE_DROPB_BOUNDARY_block, SLE_DROPB_TWIN_block, SLE_DROPB_DIR_block, SLE_DROPB_NOCTX_block, SLE_DROPB_CONTEXT_block, trivial⟩,
    fun _ => ⟨SLE_DROPC_WHERE_block, SLE_DROPC_LENGTH_block, trivial⟩,
    fun _ => ⟨SLE_DROPPOP_POP_block, trivial⟩,
    fun _ => ⟨SLE_DROPSTAT_LEVEL_block, SLE_DROPSTAT_LOST_block, trivial⟩,
    fun _ => ⟨SLE_PROGINFO_U_RX_block, SLE_PROGINFO_U_TX_block, SLE_PROGINFO_CIPHER_block, trivial⟩,
    fun _ => ⟨SLE_ACKMISS_COUNT_block, trivial⟩,
    fun i => ⟨SLE_SDONE_DONE_block i, trivial⟩,
    fun i => ⟨SLE_SLATE_LATE_block i, trivial⟩,
    fun i => ⟨SLE_STWIN_TWIN_block i, trivial⟩,
    fun i => ⟨SLE_SPEAK_PEAK_CHARGE_block i, SLE_SPEAK_PEAK_UNITS_block i, trivial⟩, trivial⟩

theorem macRegs_in : regsIn 5 macRegs :=
  ⟨fun _ => ⟨MAC_CTRL_DELIVER_TO_block, MAC_CTRL_ACK_NOCTX_block, MAC_CTRL_PROMISC_block, MAC_CTRL_AUTO_POLL_block, MAC_CTRL_TSRC_block, MAC_CTRL_DELIVER_DUP_block, MAC_CTRL_POLL_PROF_block, MAC_CTRL_XPROF_block, MAC_CTRL_DQ_THRESH_block, trivial⟩,
    fun _ => ⟨MAC_STATUS_SYNC_block, MAC_STATUS_POLL_EXT_block, MAC_STATUS_PARENT_VALID_block, MAC_STATUS_MISS_block, MAC_STATUS_PARENT_block, trivial⟩,
    fun _ => ⟨MAC_PANID_PANID_block, MAC_PANID_SHORT_block, trivial⟩,
    fun _ => ⟨MAC_EXT_L_EXT_block, trivial⟩,
    fun _ => ⟨MAC_EXT_H_EXT_block, trivial⟩,
    fun _ => ⟨MAC_SYNCCFG_CEIL_block, MAC_SYNCCFG_ADRIFT_TO_block, MAC_SYNCCFG_BETA_block, trivial⟩,
    fun _ => ⟨MAC_SCANCFG_DWELL_block, trivial⟩,
    fun _ => ⟨MAC_SYNCCMD_CMD_block, trivial⟩,
    fun _ => ⟨MAC_CORR_LAST_block, trivial⟩,
    fun i => ⟨MAC_SYNCAIR_SYNCAIR_block i, trivial⟩,
    fun _ => ⟨MAC_AGE_L_TH1_block, MAC_AGE_L_TH2_block, trivial⟩,
    fun _ => ⟨MAC_AGE_H_TH3_block, trivial⟩,
    fun _ => ⟨MAC_CSMA_MIN_BE_block, MAC_CSMA_MAX_BE_block, trivial⟩,
    fun _ => ⟨MAC_FBCFG_DQ_SIZE_block, MAC_FBCFG_CFG_REJ_block, MAC_FBCFG_RX_BLOCKS_block, trivial⟩,
    fun _ => ⟨MAC_DQ_RD_block, MAC_DQ_WR_block, trivial⟩,
    fun _ => ⟨MAC_DQSTAT_LEVEL_block, MAC_DQSTAT_FULL_block, trivial⟩,
    fun _ => ⟨MAC_TXPUSH_INDEX_block, trivial⟩,
    fun _ => ⟨MAC_TXDONE_INDEX_block, MAC_TXDONE_LEVEL_block, MAC_TXDONE_LOST_block, MAC_TXDONE_EMPTY_block, trivial⟩,
    fun _ => ⟨MAC_TXDONEPOP_POP_block, trivial⟩,
    fun _ => ⟨MAC_QCMD_QUEUE_block, MAC_QCMD_CMD_block, trivial⟩,
    fun _ => ⟨MAC_PEND_TIMEOUT_block, MAC_PEND_TOTAL_block, trivial⟩,
    fun _ => ⟨MAC_CTXCMD_INDEX_block, MAC_CTXCMD_CMD_block, trivial⟩,
    fun _ => ⟨MAC_CTXSTAT_BUSY_block, MAC_CTXSTAT_REJ_block, MAC_CTXSTAT_FREE_block, MAC_CTXSTAT_EVICT_LOW_block, trivial⟩,
    fun _ => ⟨MAC_EVICT0_CAND_A_block, MAC_EVICT0_VALID_A_block, MAC_EVICT0_CAND_B_block, MAC_EVICT0_VALID_B_block, trivial⟩,
    fun _ => ⟨MAC_EVICT1_CAND_A_block, MAC_EVICT1_VALID_A_block, MAC_EVICT1_CAND_B_block, MAC_EVICT1_VALID_B_block, trivial⟩,
    fun _ => ⟨MAC_RXDISC_NOT_MINE_block, MAC_RXDISC_BAD_FRAME_block, trivial⟩,
    fun _ => ⟨MAC_EBCFG_JOIN_METRIC_block, MAC_EBCFG_EB_LEN_block, MAC_EBCFG_EB_BLOCK_block, MAC_EBCFG_EB_PROF_block, trivial⟩,
    fun _ => ⟨MAC_LOCK_LOCK_block, trivial⟩,
    fun i => ⟨MAC_CTXBUF_IMAGE_block i, trivial⟩, trivial⟩

theorem secRegs_in : regsIn 6 secRegs :=
  ⟨fun _ => ⟨SEC_STATUS_RESERVE_block, SEC_STATUS_GENERAL_block, trivial⟩,
    fun _ => ⟨SEC_LANEBUSY_BUSY_block, SEC_LANEBUSY_RSV_block, trivial⟩,
    fun _ => ⟨SEC_COUNT0_SE_AUTHF_block, SEC_COUNT0_SE_KEYLIM_block, trivial⟩,
    fun _ => ⟨SEC_COUNT1_SE_FAULT_block, SEC_COUNT1_SE_PAGEV_block, trivial⟩,
    fun _ => ⟨SEC_KSEL_SLOT_block, trivial⟩,
    fun _ => ⟨SEC_KOWNER_OWNER_block, trivial⟩,
    fun _ => ⟨SEC_KINFO_STATE_block, SEC_KINFO_ALG_block, SEC_KINFO_LOAD_PEND_block, trivial⟩,
    fun i => ⟨SEC_WIN_BASE_ADDR_block i, trivial⟩,
    fun i => ⟨SEC_WIN_LIMIT_ADDR_block i, trivial⟩,
    fun _ => ⟨SEC_LOCK_LOCK_block, trivial⟩,
    fun i => ⟨SEC_P_SUBMIT_ADDR_block i, trivial⟩,
    fun i => ⟨SEC_P_STAT_LEVEL_block i, SEC_P_STAT_RUNNING_block i, SEC_P_STAT_SUB_REJ_block i, SEC_P_STAT_LAST_block i, SEC_P_STAT_COMPLETED_block i, trivial⟩,
    fun i => ⟨SEC_P_DONE_DONE_block i, SEC_P_DONE_ABORT_block i, trivial⟩,
    fun i => ⟨SEC_P_KSEL_SLOT_block i, trivial⟩,
    fun i => ⟨SEC_P_KCFG_ALG_block i, SEC_P_KCFG_TXLVL_block i, SEC_P_KCFG_MINLVL_block i, SEC_P_KCFG_KIDM_block i, SEC_P_KCFG_USE_SE_block i, SEC_P_KCFG_USE_GEN_block i, SEC_P_KCFG_USE_PRIV_block i, SEC_P_KCFG_KEY_INDEX_block i, trivial⟩,
    fun i => ⟨SEC_P_KLIMIT_LIMIT_block i, trivial⟩,
    fun i => ⟨SEC_P_KTXFC_TXFC_block i, trivial⟩,
    fun i => ⟨SEC_P_KDATA0_KEY_block i, trivial⟩,
    fun i => ⟨SEC_P_KDATA1_KEY_block i, trivial⟩,
    fun i => ⟨SEC_P_KDATA2_KEY_block i, trivial⟩,
    fun i => ⟨SEC_P_KDATA3_KEY_block i, trivial⟩,
    fun i => ⟨SEC_P_KCMD_CMD_block i, trivial⟩,
    fun i => ⟨SEC_P_KSTAT_STATE_block i, SEC_P_KSTAT_OWNED_block i, SEC_P_KSTAT_KCMD_REJ_block i, SEC_P_KSTAT_LOAD_PEND_block i, trivial⟩,
    fun i => ⟨SEC_P_KCOUNT_VALUE_block i, trivial⟩,
    fun i => ⟨SEC_P_KTXFCR_VALUE_block i, trivial⟩, trivial⟩

theorem pkeRegs_in : regsIn 7 pkeRegs :=
  ⟨fun _ => ⟨PKE_CMD_OP_block, PKE_CMD_CONT_block, PKE_CMD_FIN_block, PKE_CMD_RNG_RESTART_block, trivial⟩,
    fun _ => ⟨PKE_STATUS_BUSY_block, PKE_STATUS_RESULT_block, PKE_STATUS_COUNT_block, trivial⟩,
    fun _ => ⟨PKE_SRC_ADDR_block, trivial⟩,
    fun _ => ⟨PKE_LEN_LEN_block, trivial⟩,
    fun _ => ⟨PKE_OPADDR_ADDR_block, trivial⟩,
    fun _ => ⟨PKE_LOCK_LOCK_block, trivial⟩,
    fun _ => ⟨PKE_RNG_VALUE_block, trivial⟩,
    fun _ => ⟨PKE_RNGSTAT_VALID_block, PKE_RNGSTAT_HEALTH_FAIL_block, PKE_RNGSTAT_STARTUP_block, PKE_RNGSTAT_FAILS_block, trivial⟩, trivial⟩

theorem gnsRegs_in : regsIn 8 gnsRegs :=
  ⟨fun _ => ⟨GNS_CTRL_EN_block, GNS_CTRL_AGC_AUTO_block, GNS_CTRL_STEER_EN_block, trivial⟩,
    fun _ => ⟨GNS_STATUS_TIME_VALID_block, GNS_STATUS_STEER_LOCK_block, GNS_STATUS_HOLDOVER_block, GNS_STATUS_COARSE_HOLD_block, GNS_STATUS_STEER_ACTIVE_block, GNS_STATUS_JAM_block, GNS_STATUS_TP_VALID_block, trivial⟩,
    fun _ => ⟨GNS_GAIN_GAIN_block, trivial⟩,
    fun i => ⟨GNS_ACQW_BYTES_block i, trivial⟩,
    fun _ => ⟨GNS_ACQPUSH_PUSH_block, GNS_ACQPUSH_ABORT_block, trivial⟩,
    fun i => ⟨GNS_ACQR_BYTES_block i, trivial⟩,
    fun _ => ⟨GNS_ACQPOP_POP_block, trivial⟩,
    fun _ => ⟨GNS_ACQSTAT_CMDS_block, GNS_ACQSTAT_RESULTS_block, GNS_ACQSTAT_ACQ_REJ_block, GNS_ACQSTAT_ACQ_STALL_block, trivial⟩,
    fun i => ⟨GNS_NOTCH_EN_block i, GNS_NOTCH_AUTO_block i, GNS_NOTCH_WIDTH_block i, GNS_NOTCH_LOCKED_block i, GNS_NOTCH_FREQ_block i, GNS_NOTCH_NOTCH_THR_block i, trivial⟩,
    fun _ => ⟨GNS_JAM_JAM_THR_block, GNS_JAM_JAM_HYST_block, GNS_JAM_J_block, trivial⟩,
    fun _ => ⟨GNS_MEASCFG_PERIOD_block, trivial⟩,
    fun _ => ⟨GNS_MEASSTAT_BUF_block, GNS_MEASSTAT_EPOCH_block, trivial⟩,
    fun _ => ⟨GNS_TPCFG_TP_MODE_block, GNS_TPCFG_POL_block, trivial⟩,
    fun _ => ⟨GNS_TPPER_VALUE_block, trivial⟩,
    fun _ => ⟨GNS_TPWID_VALUE_block, trivial⟩,
    fun _ => ⟨GNS_TPOFF_OFFSET_block, trivial⟩,
    fun _ => ⟨GNS_TPQERR_LATE_PS_block, trivial⟩,
    fun _ => ⟨GNS_STEERCFG_KP_SH_block, GNS_STEERCFG_KI_SH_block, GNS_STEERCFG_SLEW_LIM_block, trivial⟩,
    fun _ => ⟨GNS_STEERE_VALUE_block, trivial⟩,
    fun _ => ⟨GNS_STEERR_VALUE_block, trivial⟩,
    fun _ => ⟨GNS_STEERCMD_CMD_block, trivial⟩,
    fun _ => ⟨GNS_GTCTRL_TIME_VALID_block, GNS_GTCTRL_SET_block, trivial⟩,
    fun _ => ⟨GNS_GTSEC_SEC_block, trivial⟩,
    fun _ => ⟨GNS_GTNS_NS_block, trivial⟩,
    fun _ => ⟨GNS_GTPHASE_PHASE_block, trivial⟩,
    fun _ => ⟨GNS_GTRATE_RATE_block, trivial⟩,
    fun _ => ⟨GNS_LOCKCFG_LOSS_THR_block, GNS_LOCKCFG_LOSS_N_block, trivial⟩,
    fun _ => ⟨GNS_LOCK_LOCK_block, trivial⟩,
    fun i => ⟨GNS_CCFG_EN_block i, GNS_CCFG_SYS_block i, GNS_CCFG_PRN_block i, GNS_CCFG_SLAVE_block i, GNS_CCFG_SEC_EN_block i, GNS_CCFG_LOST_block i, trivial⟩,
    fun i => ⟨GNS_CCODE_CODE_block i, trivial⟩,
    fun i => ⟨GNS_CCARR_CARR_block i, trivial⟩,
    fun i => ⟨GNS_CSPC_NARROW_block i, GNS_CSPC_EL_block i, GNS_CSPC_VEVL_block i, GNS_CSPC_SPC_REJ_block i, trivial⟩,
    fun i => ⟨GNS_CPH_PHASE_block i, trivial⟩,
    fun i => ⟨GNS_CSTAT_SEQ_block i, GNS_CSTAT_BLOCK_READY_block i, GNS_CSTAT_OVR_block i, trivial⟩,
    fun i => ⟨GNS_CHIST_HIST_block i, trivial⟩,
    fun i => ⟨GNS_CDD_DD_block i, trivial⟩,
    fun i => ⟨GNS_CCORR0_VALUE_block i, trivial⟩,
    fun i => ⟨GNS_CCORR1_VALUE_block i, trivial⟩,
    fun i => ⟨GNS_CCORR2_VALUE_block i, trivial⟩,
    fun i => ⟨GNS_CCORR3_VALUE_block i, trivial⟩,
    fun i => ⟨GNS_CCORR4_VALUE_block i, trivial⟩,
    fun i => ⟨GNS_CCORR5_VALUE_block i, trivial⟩,
    fun i => ⟨GNS_CCORR6_VALUE_block i, trivial⟩,
    fun i => ⟨GNS_CCORR7_VALUE_block i, trivial⟩,
    fun i => ⟨GNS_CCORR8_VALUE_block i, trivial⟩,
    fun i => ⟨GNS_CCORR9_VALUE_block i, trivial⟩,
    fun i => ⟨GNS_CCORR10_VALUE_block i, trivial⟩,
    fun i => ⟨GNS_CCORR11_VALUE_block i, trivial⟩,
    fun i => ⟨GNS_CCORR12_VALUE_block i, trivial⟩,
    fun i => ⟨GNS_CCORR13_VALUE_block i, trivial⟩,
    fun i => ⟨GNS_CSEC_SECPH_block i, trivial⟩,
    fun i => ⟨GNS_CPOW_POW_block i, trivial⟩, trivial⟩

theorem rtcRegs_in : regsIn 9 rtcRegs :=
  ⟨fun _ => ⟨RTC_STATUS_OSC_STOP_block, RTC_STATUS_CENTURY_WRAP_block, RTC_STATUS_DATE_INVALID_block, RTC_STATUS_ALMA_F_block, RTC_STATUS_ALMB_F_block, RTC_STATUS_SKIPPED_A_block, RTC_STATUS_SKIPPED_B_block, RTC_STATUS_SHADOW_TO_block, RTC_STATUS_BKP_LOST_block, RTC_STATUS_SET_PEND_block, RTC_STATUS_MEAS_BUSY_block, RTC_STATUS_FROZEN0_block, RTC_STATUS_FROZEN1_block, trivial⟩,
    fun _ => ⟨RTC_SUBSEC_SUBSEC_block, trivial⟩,
    fun _ => ⟨RTC_SEC_VALUE_block, trivial⟩,
    fun _ => ⟨RTC_MIN_VALUE_block, trivial⟩,
    fun _ => ⟨RTC_HOUR_HOUR_block, trivial⟩,
    fun _ => ⟨RTC_DAY_DAY_block, RTC_DAY_WDAY_block, trivial⟩,
    fun _ => ⟨RTC_MONTH_MONTH_block, trivial⟩,
    fun _ => ⟨RTC_YEAR_YEAR_block, trivial⟩,
    fun _ => ⟨RTC_SETTIME_SEC_block, RTC_SETTIME_MIN_block, RTC_SETTIME_HOUR_block, trivial⟩,
    fun _ => ⟨RTC_SETDATE_DAY_block, RTC_SETDATE_MONTH_block, RTC_SETDATE_YEAR_block, trivial⟩,
    fun _ => ⟨RTC_CMD_CMD_block, trivial⟩,
    fun _ => ⟨RTC_UTCOFF_OFFSET_block, RTC_UTCOFF_LEAP_block, trivial⟩,
    fun i => ⟨RTC_ALM_T_SEC_block i, RTC_ALM_T_MIN_block i, RTC_ALM_T_HOUR_block i, RTC_ALM_T_M_SEC_block i, RTC_ALM_T_M_MIN_block i, RTC_ALM_T_M_HOUR_block i, trivial⟩,
    fun i => ⟨RTC_ALM_D_DAY_block i, RTC_ALM_D_MONTH_block i, RTC_ALM_D_YEAR_block i, RTC_ALM_D_M_DAY_block i, RTC_ALM_D_M_MONTH_block i, RTC_ALM_D_M_YEAR_block i, trivial⟩,
    fun _ => ⟨RTC_ALMCTRL_A_EN_block, RTC_ALMCTRL_B_EN_block, RTC_ALMCTRL_A_ONESHOT_block, RTC_ALMCTRL_B_ONESHOT_block, trivial⟩,
    fun _ => ⟨RTC_TRIM_E_block, trivial⟩,
    fun _ => ⟨RTC_TRIMCFG_SRC_block, RTC_TRIMCFG_MAINS_60_block, RTC_TRIMCFG_AUTO_block, RTC_TRIMCFG_PIN_block, RTC_TRIMCFG_WINDOW_block, trivial⟩,
    fun _ => ⟨RTC_TRIMRES_RESULT_block, RTC_TRIMRES_STATUS_block, trivial⟩,
    fun _ => ⟨RTC_SUPPLY_ON_VBAK_block, RTC_SUPPLY_STAMP_VALID_block, RTC_SUPPLY_SWCOUNT_block, trivial⟩,
    fun _ => ⟨RTC_SWSTAMP_T_TIME_block, RTC_SWSTAMP_T_SUBSEC_H_block, trivial⟩,
    fun _ => ⟨RTC_SWSTAMP_D_DATE_block, trivial⟩,
    fun i => ⟨RTC_CMP_COND_block i, RTC_CMP_RATE_block i, RTC_CMP_DEBOUNCE_block i, RTC_CMP_ERASE_block i, RTC_CMP_THR_block i, trivial⟩,
    fun _ => ⟨RTC_CMPSTAT_LEVEL_block, RTC_CMPSTAT_HIT_block, RTC_CMPSTAT_ERASED_block, trivial⟩,
    fun _ => ⟨RTC_LOCK_LOCK_block, trivial⟩, trivial⟩

theorem tmrRegs_in : regsIn 10 tmrRegs :=
  ⟨fun i => ⟨TMR_CTRL_EN_block i, TMR_CTRL_CLKSEL_block i, TMR_CTRL_PRE_block i, TMR_CTRL_ONESHOT_block i, TMR_CTRL_CMP_EN_block i, TMR_CTRL_DBG_FREEZE_block i, trivial⟩,
    fun i => ⟨TMR_COUNT_COUNT_block i, trivial⟩,
    fun i => ⟨TMR_PERIOD_PERIOD_block i, trivial⟩,
    fun i => ⟨TMR_CMP_CMP_block i, trivial⟩,
    fun i => ⟨TMR_PHASE_PHASE_block i, trivial⟩,
    fun i => ⟨TMR_CAPT_CAPT_block i, trivial⟩,
    fun i => ⟨TMR_STAT_PER_F_block i, TMR_STAT_CMP_F_block i, TMR_STAT_RUNNING_block i, TMR_STAT_FROZEN_block i, trivial⟩,
    fun _ => ⟨TMR_START_MASK_block, trivial⟩,
    fun _ => ⟨TMR_STOP_MASK_block, trivial⟩,
    fun _ => ⟨TMR_OWNER_OWNER_block, trivial⟩,
    fun _ => ⟨TMR_LOCK_LOCK_block, trivial⟩, trivial⟩

theorem evrRegs_in : regsIn 11 evrRegs :=
  ⟨fun i => ⟨EVR_ESTAT_STAT_block i, trivial⟩,
    fun _ => ⟨EVR_SWEV_SW_block, trivial⟩,
    fun _ => ⟨EVR_FIRE_FIRE_block, trivial⟩,
    fun _ => ⟨EVR_STATUS_ACC_REJ_block, trivial⟩,
    fun _ => ⟨EVR_STUCKSUM_STUCK_block, trivial⟩,
    fun i => ⟨EVR_GPO_PIN_block i, EVR_GPO_ACTION_block i, EVR_GPO_EN_block i, trivial⟩,
    fun _ => ⟨EVR_LOCK_LOCK_block, trivial⟩,
    fun i => ⟨EVR_CFG_EN_block i, EVR_CFG_OWNER_block i, EVR_CFG_SEC_block i, EVR_CFG_PIN_EN_block i, EVR_CFG_PIN_block i, EVR_CFG_EDGE_block i, EVR_CFG_STAMP_block i, trivial⟩,
    fun i => ⟨EVR_PM0_MASK_block i, trivial⟩,
    fun i => ⟨EVR_PM1_MASK_block i, trivial⟩,
    fun i => ⟨EVR_PM2_MASK_block i, trivial⟩,
    fun i => ⟨EVR_PM3_MASK_block i, trivial⟩,
    fun i => ⟨EVR_TM0_MASK_block i, trivial⟩,
    fun i => ⟨EVR_TM1_MASK_block i, trivial⟩,
    fun i => ⟨EVR_TM2_MASK_block i, trivial⟩,
    fun i => ⟨EVR_COND_MINPULSE_block i, EVR_COND_RMAX_block i, EVR_COND_RWIN_block i, EVR_COND_STUCK_T_block i, trivial⟩,
    fun i => ⟨EVR_STAT_STUCK_block i, EVR_STAT_TS_VALID_block i, EVR_STAT_LEVEL_block i, EVR_STAT_DROPPED_block i, trivial⟩,
    fun i => ⟨EVR_TSL_TS_L_block i, trivial⟩,
    fun i => ⟨EVR_TSH_TS_H_block i, trivial⟩, trivial⟩

theorem memRegs_in : regsIn 12 memRegs :=
  ⟨fun _ => ⟨MEM_CTRL_SCRUB_EN_block, MEM_CTRL_SCRUB_DIV_block, trivial⟩,
    fun _ => ⟨MEM_STATUS_POISON_CNT_block, MEM_STATUS_SCRUB_FOUND_block, trivial⟩,
    fun _ => ⟨MEM_RSTR0_S0_block, MEM_RSTR0_S1_block, MEM_RSTR0_S2_block, MEM_RSTR0_S3_block, MEM_RSTR0_S4_block, MEM_RSTR0_S5_block, MEM_RSTR0_S6_block, MEM_RSTR0_S7_block, MEM_RSTR0_S8_block, MEM_RSTR0_S9_block, MEM_RSTR0_S10_block, MEM_RSTR0_S11_block, MEM_RSTR0_S12_block, MEM_RSTR0_S13_block, MEM_RSTR0_S14_block, MEM_RSTR0_S15_block, trivial⟩,
    fun _ => ⟨MEM_RSTR1_S16_block, MEM_RSTR1_S17_block, MEM_RSTR1_S18_block, MEM_RSTR1_S19_block, MEM_RSTR1_S20_block, MEM_RSTR1_S21_block, MEM_RSTR1_S22_block, MEM_RSTR1_S23_block, MEM_RSTR1_S24_block, MEM_RSTR1_S25_block, MEM_RSTR1_S26_block, MEM_RSTR1_S27_block, MEM_RSTR1_S28_block, MEM_RSTR1_S29_block, MEM_RSTR1_S30_block, MEM_RSTR1_S31_block, trivial⟩,
    fun _ => ⟨MEM_ECCCFG_CORR_THR_block, trivial⟩,
    fun _ => ⟨MEM_ECCSTAT_RESULT_block, MEM_ECCSTAT_BITS_block, MEM_ECCSTAT_REASON_block, MEM_ECCSTAT_PAGE_block, trivial⟩,
    fun _ => ⟨MEM_ECCCNT_ECC_CORR_block, MEM_ECCCNT_ECC_UNCORR_block, trivial⟩,
    fun _ => ⟨MEM_FLIP_L_MASK_block, trivial⟩,
    fun _ => ⟨MEM_FLIP_H_MASK_block, trivial⟩,
    fun _ => ⟨MEM_FLIPCFG_OFFSET_block, MEM_FLIPCFG_ARM_block, MEM_FLIPCFG_USED_block, trivial⟩,
    fun _ => ⟨MEM_MERGE_FLUSH_block, MEM_MERGE_VALID_block, MEM_MERGE_BUSY_block, MEM_MERGE_LAST_FAIL_block, trivial⟩,
    fun _ => ⟨MEM_LOCK_LOCK_block, trivial⟩, trivial⟩

theorem flcRegs_in : regsIn 13 flcRegs :=
  ⟨fun _ => ⟨FLC_CTRL_STALL_FETCH_block, FLC_CTRL_RESUME_IDLE_block, FLC_CTRL_STARVE_N_block, trivial⟩,
    fun _ => ⟨FLC_STATUS_LEVEL_block, FLC_STATUS_PUSH_REJ_block, FLC_STATUS_ROM_OWN_block, FLC_STATUS_DONE_STALL_block, FLC_STATUS_JNL_RESET_block, trivial⟩,
    fun _ => ⟨FLC_OWNER_ROM_OWN_block, FLC_OWNER_SWAP_block, trivial⟩,
    fun i => ⟨FLC_BANK_STAT_OP_block i, FLC_BANK_STAT_STATE_block i, FLC_BANK_STAT_BLOCK_block i, FLC_BANK_STAT_PULSES_block i, FLC_BANK_STAT_SUSPENDS_block i, FLC_BANK_STAT_STARVED_block i, trivial⟩,
    fun i => ⟨FLC_DESC_BYTES_block i, trivial⟩,
    fun _ => ⟨FLC_PUSH_PUSH_block, trivial⟩,
    fun i => ⟨FLC_DONE_BYTES_block i, trivial⟩,
    fun _ => ⟨FLC_DONEPOP_POP_block, trivial⟩,
    fun _ => ⟨FLC_DONESTAT_LEVEL_block, trivial⟩,
    fun i => ⟨FLC_SUSP_L_SUSPECT_block i, trivial⟩,
    fun i => ⟨FLC_SUSP_H_SUSPECT_block i, trivial⟩,
    fun _ => ⟨FLC_JNL_FREE_A_block, FLC_JNL_HALF_A_block, FLC_JNL_FREE_B_block, FLC_JNL_HALF_B_block, trivial⟩,
    fun _ => ⟨FLC_LOCK_LOCK_block, trivial⟩,
    fun i => ⟨FLC_ECNT_COUNT_block i, trivial⟩, trivial⟩

theorem hdpRegs_in : regsIn 14 hdpRegs :=
  ⟨fun _ => ⟨HDP_CTRL_SPI_EN_block, HDP_CTRL_CAN_EN_block, HDP_CTRL_ETH_EN_block, HDP_CTRL_UART_EN_block, HDP_CTRL_MESH_EN_block, trivial⟩,
    fun _ => ⟨HDP_STATUS_ETH_LINK_block, HDP_STATUS_ETH_100_block, HDP_STATUS_ETH_FDX_block, HDP_STATUS_CAN_STATE_block, HDP_STATUS_OWN_STATE_block, HDP_STATUS_OWN_TRANSPORT_block, HDP_STATUS_OWN_PRIO_block, HDP_STATUS_QLEVEL_block, HDP_STATUS_LOAD_block, trivial⟩,
    fun _ => ⟨HDP_SPICFG_MODE3_block, trivial⟩,
    fun _ => ⟨HDP_CANCFG_NOM_block, HDP_CANCFG_DATA_block, HDP_CANCFG_FD_EN_block, HDP_CANCFG_BASE_block, trivial⟩,
    fun _ => ⟨HDP_UARTCFG_BAUD_block, trivial⟩,
    fun _ => ⟨HDP_IPADDR_ADDR_block, trivial⟩,
    fun _ => ⟨HDP_IPMASK_ADDR_block, trivial⟩,
    fun _ => ⟨HDP_IPGW_ADDR_block, trivial⟩,
    fun _ => ⟨HDP_MAC_L_MAC_block, trivial⟩,
    fun _ => ⟨HDP_MAC_H_MAC_block, trivial⟩,
    fun _ => ⟨HDP_UDPPORT_ODP_PORT_block, HDP_UDPPORT_PLANE_PORT_block, trivial⟩,
    fun _ => ⟨HDP_KA_KA_block, trivial⟩,
    fun _ => ⟨HDP_CNT0_ACCEPTED_block, HDP_CNT0_CRC_ERR_block, trivial⟩,
    fun _ => ⟨HDP_CNT1_BUSY_block, HDP_CNT1_DISCARD_block, trivial⟩,
    fun _ => ⟨HDP_LOCK_LOCK_block, trivial⟩, trivial⟩

theorem lgyRegs_in : regsIn 15 lgyRegs :=
  ⟨fun _ => ⟨LGY_STATUS_IRQ_block, LGY_STATUS_RXAVAIL_block, LGY_STATUS_TXEMPTY_block, LGY_STATUS_SYNCED_block, LGY_STATUS_TXBUSY_block, LGY_STATUS_CMDBUSY_block, LGY_STATUS_RUNNING_block, LGY_STATUS_RXOVF_block, trivial⟩,
    fun i => ⟨LGY_IRQF_FLAGS_block i, trivial⟩,
    fun i => ⟨LGY_IRQEN_EN_block i, trivial⟩,
    fun _ => ⟨LGY_CMD_CMD_block, trivial⟩,
    fun _ => ⟨LGY_STATE_STATE_block, trivial⟩,
    fun _ => ⟨LGY_RXFIFO_DATA_block, trivial⟩,
    fun _ => ⟨LGY_RXLEV_L_LEVEL_block, trivial⟩,
    fun _ => ⟨LGY_RXLEV_H_LEVEL_block, trivial⟩,
    fun _ => ⟨LGY_RXTHR_THR_block, trivial⟩,
    fun _ => ⟨LGY_TXFIFO_DATA_block, trivial⟩,
    fun _ => ⟨LGY_TXLEV_L_LEVEL_block, trivial⟩,
    fun _ => ⟨LGY_TXLEV_H_LEVEL_block, trivial⟩,
    fun _ => ⟨LGY_TXTHR_THR_block, trivial⟩,
    fun _ => ⟨LGY_RSSI_RSSI_block, trivial⟩,
    fun _ => ⟨LGY_RXINFO_CH_block, LGY_RXINFO_ACKSENT_block, LGY_RXINFO_NOCTX_block, trivial⟩,
    fun _ => ⟨LGY_FOFF_FOFF_block, trivial⟩,
    fun _ => ⟨LGY_RSSITHR_RSSI_block, trivial⟩,
    fun i => ⟨LGY_CHCFG_CHOFF_block i, LGY_CHCFG_EN_block i, trivial⟩,
    fun _ => ⟨LGY_HOPLEN_LEN_block, trivial⟩,
    fun _ => ⟨LGY_HOPIDX_IDX_block, trivial⟩,
    fun _ => ⟨LGY_HOPDAT_N_block, trivial⟩,
    fun _ => ⟨LGY_BASEF0_F_block, trivial⟩,
    fun _ => ⟨LGY_BASEF1_F_block, trivial⟩,
    fun _ => ⟨LGY_BASEF2_F_block, trivial⟩,
    fun _ => ⟨LGY_SPACING_SP_block, trivial⟩,
    fun _ => ⟨LGY_PHYCFG_RATE_block, trivial⟩,
    fun _ => ⟨LGY_SLOTCNT_L_COUNT_block, trivial⟩,
    fun _ => ⟨LGY_SLOTCNT_H_COUNT_block, trivial⟩,
    fun _ => ⟨LGY_SLOTCTL_RUN_block, LGY_SLOTCTL_MASTER_block, trivial⟩,
    fun _ => ⟨LGY_TXOFF_T_block, trivial⟩,
    fun _ => ⟨LGY_ACKDLY_T_block, trivial⟩,
    fun _ => ⟨LGY_BCNPER_PER_block, trivial⟩,
    fun _ => ⟨LGY_TXCFG_ACKREQ_block, LGY_TXCFG_RETRIES_block, LGY_TXCFG_CH_block, trivial⟩,
    fun _ => ⟨LGY_TXPWR_PWR_block, trivial⟩,
    fun _ => ⟨LGY_TXDST_CTX_block, trivial⟩,
    fun _ => ⟨LGY_CTXIDX_IDX_block, trivial⟩,
    fun i => ⟨LGY_CTXDAT_VALUE_block i, trivial⟩,
    fun _ => ⟨LGY_CTXCNT_VALUE_block, trivial⟩,
    fun _ => ⟨LGY_LASTCTX_VALUE_block, trivial⟩,
    fun _ => ⟨LGY_LASTSEQ_VALUE_block, trivial⟩,
    fun i => ⟨LGY_OWNADDR_VALUE_block i, trivial⟩,
    fun i => ⟨LGY_NETID_VALUE_block i, trivial⟩,
    fun i => ⟨LGY_SYNCW_WORD_block i, trivial⟩,
    fun _ => ⟨LGY_TEMP_TEMP_block, trivial⟩,
    fun _ => ⟨LGY_CHIPID_ID_block, trivial⟩,
    fun _ => ⟨LGY_VERSION_ID_block, trivial⟩,
    fun _ => ⟨LGY_UNLOCK_KEY_block, trivial⟩, trivial⟩

theorem tagRegs_in : regsIn 16 tagRegs :=
  ⟨fun _ => ⟨TAG_CTRL_FIELD_PRIORITY_block, TAG_CTRL_WAKE_EN_block, trivial⟩,
    fun _ => ⟨TAG_STATUS_READY_block, TAG_STATUS_FIELD_block, TAG_STATUS_FIELD_OK_block, TAG_STATUS_SEM_block, TAG_STATUS_OWNER_block, TAG_STATUS_RECOVERED_block, TAG_STATUS_VREC_block, trivial⟩,
    fun _ => ⟨TAG_WCMD_BLOCK_block, TAG_WCMD_START_block, trivial⟩,
    fun _ => ⟨TAG_WDATA_DATA_block, trivial⟩,
    fun _ => ⟨TAG_WSTAT_RUN_block, TAG_WSTAT_STATUS_block, TAG_WSTAT_COUNT_block, trivial⟩,
    fun _ => ⟨TAG_ACMD_AREA_block, TAG_ACMD_CMD_block, trivial⟩,
    fun _ => ⟨TAG_AREASTAT_LOCKOUT_block, TAG_AREASTAT_RP_block, TAG_AREASTAT_WP_block, trivial⟩,
    fun _ => ⟨TAG_LOCK_LOCK_block, trivial⟩, trivial⟩

theorem btuRegs_in : regsIn 17 btuRegs :=
  ⟨fun _ => ⟨BTU_BOOTSTAT_ALT_BANK_block, BTU_BOOTSTAT_TRIAL_block, BTU_BOOTSTAT_REVERTED_block, BTU_BOOTSTAT_REVERT_FAIL_block, BTU_BOOTSTAT_OTP_FAULT_block, BTU_BOOTSTAT_REASON_A_block, trivial⟩,
    fun _ => ⟨BTU_SWAP_REQ_block, BTU_SWAP_FIRST_block, trivial⟩,
    fun _ => ⟨BTU_CNT0_C1_block, BTU_CNT0_C2_block, BTU_CNT0_C3_block, BTU_CNT0_C4_block, trivial⟩,
    fun _ => ⟨BTU_CNT1_CNT_block, trivial⟩,
    fun _ => ⟨BTU_LOCK_LOCK_block, trivial⟩, trivial⟩

theorem errRegs_in : regsIn 18 errRegs :=
  ⟨fun _ => ⟨ERR_STATUS_LEVEL_block, ERR_STATUS_FATAL_OPEN_block, ERR_STATUS_LOG_LOST_block, ERR_STATUS_DOUBLE_block, ERR_STATUS_POP_REJ_block, ERR_STATUS_DEPTH_block, ERR_STATUS_LOST_block, trivial⟩,
    fun _ => ⟨ERR_OPEN0_OPEN_block, trivial⟩,
    fun _ => ⟨ERR_OPEN1_OPEN_block, trivial⟩,
    fun _ => ⟨ERR_CLOSE_SRC_block, ERR_CLOSE_SRC_EN_block, ERR_CLOSE_FATAL_block, trivial⟩,
    fun _ => ⟨ERR_POP_POP_block, trivial⟩,
    fun _ => ⟨ERR_INJECT_CLASS_block, trivial⟩,
    fun i => ⟨ERR_LOG_A_CLASS_block i, ERR_LOG_A_SOURCE_block i, ERR_LOG_A_OPEN_block i, ERR_LOG_A_ESCALATED_block i, ERR_LOG_A_RESET_block i, ERR_LOG_A_SCRUB_block i, ERR_LOG_A_DOUBLE_block i, ERR_LOG_A_DETAIL_block i, trivial⟩,
    fun i => ⟨ERR_LOG_B_ADDRESS_block i, trivial⟩,
    fun i => ⟨ERR_LOG_C_TNET_block i, trivial⟩,
    fun i => ⟨ERR_LOG_D_TNET_block i, trivial⟩, trivial⟩

theorem pinRegs_in : regsIn 19 pinRegs :=
  ⟨fun i => ⟨PIN_CFG_FUNC_block i, PIN_CFG_DIR_block i, PIN_CFG_PULL_block i, PIN_CFG_DRIVE_block i, PIN_CFG_OD_block i, trivial⟩,
    fun _ => ⟨PIN_OUT_L_LEVEL_block, trivial⟩,
    fun _ => ⟨PIN_OUT_H_LEVEL_block, trivial⟩,
    fun _ => ⟨PIN_IN_L_LEVEL_block, trivial⟩,
    fun _ => ⟨PIN_IN_H_LEVEL_block, trivial⟩,
    fun _ => ⟨PIN_LOCK_LOCK_block, trivial⟩, trivial⟩

theorem getD_block {fs : List RegField} {i b : Nat} {d : RegField} (h : allIn fs b) (hd : d.inBlock b) : (fs.getD i d).inBlock b := by
  induction fs generalizing i with
  | nil => exact hd
  | cons f fs ih =>
    cases i with
    | zero => exact h f (by simp)
    | succ i => exact ih fun g hg => h g (by simp [hg])

theorem FieldRow.apply_moves {b m : Nat} {x s : State} {r : FieldRow} {locked : Bool} {w : RegStore} (hr : r.field.inBlock b)
    (hm : m.testBit (27 + b) = true) (h : Moves m x s) : Moves m x (r.apply locked w s) := by
  unfold FieldRow.apply
  dsimp only
  split
  · exact h
  · split
    · exact h
    · exact h
    · exact ite_moves h (h.put hr hm)
    · exact ite_moves h (h.put hr hm)
    · exact h.put hr hm
    · exact h.put hr hm

theorem State.storeFields_moves {b m : Nat} {x s : State} {rows : List FieldRow} {whole locked : Bool} {w : RegStore}
    (hr : rowsIn b rows) (hm : m.testBit (27 + b) = true) (h : Moves m x s) : Moves m x (s.storeFields rows whole locked w) := by
  unfold State.storeFields
  refine ite_moves h ?_
  induction rows generalizing s with
  | nil => exact h
  | cons r rs ih => exact ih hr.2 (FieldRow.apply_moves hr.1 hm h)

theorem findReg_in {b a : Nat} {regs : List RegRow} {rows : List FieldRow} {whole : Bool} (hi : regsIn b regs)
    (h : findReg regs a = some (rows, whole)) : rowsIn b rows := by
  induction regs with
  | nil => cases h
  | cons r rs ih =>
    unfold findReg at h
    split at h
    · rename_i y hy
      cases h
      unfold RegRow.find? at hy
      split at hy
      · cases hy
        exact hi.1 _
      · cases hy
    · exact ih hi.2 h

/-- A store into a block's map changes that block's registers alone. -/
theorem Moves.storeReg {b m : Nat} {x s : State} {regs : List RegRow} {locked : Bool} {w : RegStore} (hi : regsIn b regs)
    (hm : m.testBit (27 + b) = true) (h : Moves m x s) : Moves m x (s.storeReg regs locked w) := by
  unfold State.storeReg
  split
  · rename_i heq
    exact State.storeFields_moves (findReg_in hi heq) hm h
  · exact h

end Sys2Proof.Machine
end

