-- ==== Sys2Proof/Laws/Upd.lean ====
section
/-! SUPPORT. The footprint of an update of each component, and of each group of components that some operation updates at
once. -/
set_option linter.all false
namespace Sys2Proof.Machine

def State.with_boot (s : State) (v0 : Boot) : State := { s with boot := v0 }

theorem State.with_boot_eq (s : State) (v0 : Boot) : { s with boot := v0 } = s.with_boot v0 := rfl

theorem State.with_boot_moves (s : State) (v0 : Boot) : Moves 1048576 s (s.with_boot v0) := by
  refine ⟨fun p hp => ?_, id⟩
  cases p with
  | boot => exact absurd hp (by decide)
  | mem => exact fun _ => rfl
  | regs _ => exact fun _ _ => rfl
  | _ => rfl

def State.with_clock (s : State) (v0 : Nat) : State := { s with clock := v0 }

theorem State.with_clock_eq (s : State) (v0 : Nat) : { s with clock := v0 } = s.with_clock v0 := rfl

theorem State.with_clock_moves (s : State) (v0 : Nat) : Moves 2 s (s.with_clock v0) := by
  refine ⟨fun p hp => ?_, id⟩
  cases p with
  | clock => exact absurd hp (by decide)
  | mem => exact fun _ => rfl
  | regs _ => exact fun _ _ => rfl
  | _ => rfl

def State.with_core0 (s : State) (v0 : CoreState) : State := { s with core0 := v0 }

theorem State.with_core0_eq (s : State) (v0 : CoreState) : { s with core0 := v0 } = s.with_core0 v0 := rfl

theorem State.with_core0_moves (s : State) (v0 : CoreState) : Moves 32768 s (s.with_core0 v0) := by
  refine ⟨fun p hp => ?_, id⟩
  cases p with
  | core0 => exact absurd hp (by decide)
  | mem => exact fun _ => rfl
  | regs _ => exact fun _ _ => rfl
  | _ => rfl

def State.with_core0_core1 (s : State) (v0 : CoreState) (v1 : CoreState) : State := { s with core0 := v0, core1 := v1 }

theorem State.with_core0_core1_eq (s : State) (v0 : CoreState) (v1 : CoreState) : { s with core0 := v0, core1 := v1 } = s.with_core0_core1 v0 v1 := rfl

theorem State.with_core0_core1_moves (s : State) (v0 : CoreState) (v1 : CoreState) : Moves 98304 s (s.with_core0_core1 v0 v1) := by
  refine ⟨fun p hp => ?_, id⟩
  cases p with
  | core0 => exact absurd hp (by decide)
  | core1 => exact absurd hp (by decide)
  | mem => exact fun _ => rfl
  | regs _ => exact fun _ _ => rfl
  | _ => rfl

def State.with_core1 (s : State) (v0 : CoreState) : State := { s with core1 := v0 }

theorem State.with_core1_eq (s : State) (v0 : CoreState) : { s with core1 := v0 } = s.with_core1 v0 := rfl

theorem State.with_core1_moves (s : State) (v0 : CoreState) : Moves 65536 s (s.with_core1 v0) := by
  refine ⟨fun p hp => ?_, id⟩
  cases p with
  | core1 => exact absurd hp (by decide)
  | mem => exact fun _ => rfl
  | regs _ => exact fun _ _ => rfl
  | _ => rfl

def State.with_evr (s : State) (v0 : Evr) : State := { s with evr := v0 }

theorem State.with_evr_eq (s : State) (v0 : Evr) : { s with evr := v0 } = s.with_evr v0 := rfl

theorem State.with_evr_moves (s : State) (v0 : Evr) : Moves 4096 s (s.with_evr v0) := by
  refine ⟨fun p hp => ?_, id⟩
  cases p with
  | evr => exact absurd hp (by decide)
  | mem => exact fun _ => rfl
  | regs _ => exact fun _ _ => rfl
  | _ => rfl

def State.with_faults (s : State) (v0 : FaultLog) : State := { s with faults := v0 }

theorem State.with_faults_eq (s : State) (v0 : FaultLog) : { s with faults := v0 } = s.with_faults v0 := rfl

theorem State.with_faults_moves (s : State) (v0 : FaultLog) : Moves 16 s (s.with_faults v0) := by
  refine ⟨fun p hp => ?_, id⟩
  cases p with
  | faults => exact absurd hp (by decide)
  | mem => exact fun _ => rfl
  | regs _ => exact fun _ _ => rfl
  | _ => rfl

def State.with_flash (s : State) (v0 : Flash) : State := { s with flash := v0 }

theorem State.with_flash_eq (s : State) (v0 : Flash) : { s with flash := v0 } = s.with_flash v0 := rfl

theorem State.with_flash_moves (s : State) (v0 : Flash) : Moves 16384 s (s.with_flash v0) := by
  refine ⟨fun p hp => ?_, id⟩
  cases p with
  | flash => exact absurd hp (by decide)
  | mem => exact fun _ => rfl
  | regs _ => exact fun _ _ => rfl
  | _ => rfl

def State.with_free (s : State) (v0 : Nat) : State := { s with free := v0 }

theorem State.with_free_eq (s : State) (v0 : Nat) : { s with free := v0 } = s.with_free v0 := rfl

theorem State.with_free_moves (s : State) (v0 : Nat) : Moves 16777216 s (s.with_free v0) := by
  refine ⟨fun p hp => ?_, id⟩
  cases p with
  | free => exact absurd hp (by decide)
  | mem => exact fun _ => rfl
  | regs _ => exact fun _ _ => rfl
  | _ => rfl

def State.with_gnss (s : State) (v0 : Gnss) : State := { s with gnss := v0 }

theorem State.with_gnss_eq (s : State) (v0 : Gnss) : { s with gnss := v0 } = s.with_gnss v0 := rfl

theorem State.with_gnss_moves (s : State) (v0 : Gnss) : Moves 1024 s (s.with_gnss v0) := by
  refine ⟨fun p hp => ?_, id⟩
  cases p with
  | gnss => exact absurd hp (by decide)
  | mem => exact fun _ => rfl
  | regs _ => exact fun _ _ => rfl
  | _ => rfl

def State.with_host (s : State) (v0 : HostPorts) : State := { s with host := v0 }

theorem State.with_host_eq (s : State) (v0 : HostPorts) : { s with host := v0 } = s.with_host v0 := rfl

theorem State.with_host_moves (s : State) (v0 : HostPorts) : Moves 524288 s (s.with_host v0) := by
  refine ⟨fun p hp => ?_, id⟩
  cases p with
  | host => exact absurd hp (by decide)
  | mem => exact fun _ => rfl
  | regs _ => exact fun _ _ => rfl
  | _ => rfl

def State.with_lgy (s : State) (v0 : Lgy) : State := { s with lgy := v0 }

theorem State.with_lgy_eq (s : State) (v0 : Lgy) : { s with lgy := v0 } = s.with_lgy v0 := rfl

theorem State.with_lgy_moves (s : State) (v0 : Lgy) : Moves 131072 s (s.with_lgy v0) := by
  refine ⟨fun p hp => ?_, id⟩
  cases p with
  | lgy => exact absurd hp (by decide)
  | mem => exact fun _ => rfl
  | regs _ => exact fun _ _ => rfl
  | _ => rfl

def State.with_mac (s : State) (v0 : Mac) : State := { s with mac := v0 }

theorem State.with_mac_eq (s : State) (v0 : Mac) : { s with mac := v0 } = s.with_mac v0 := rfl

theorem State.with_mac_moves (s : State) (v0 : Mac) : Moves 256 s (s.with_mac v0) := by
  refine ⟨fun p hp => ?_, id⟩
  cases p with
  | mac => exact absurd hp (by decide)
  | mem => exact fun _ => rfl
  | regs _ => exact fun _ _ => rfl
  | _ => rfl

def State.with_memctl (s : State) (v0 : MemCtl) : State := { s with memctl := v0 }

theorem State.with_memctl_eq (s : State) (v0 : MemCtl) : { s with memctl := v0 } = s.with_memctl v0 := rfl

theorem State.with_memctl_moves (s : State) (v0 : MemCtl) : Moves 8192 s (s.with_memctl v0) := by
  refine ⟨fun p hp => ?_, id⟩
  cases p with
  | memctl => exact absurd hp (by decide)
  | mem => exact fun _ => rfl
  | regs _ => exact fun _ _ => rfl
  | _ => rfl

def State.with_pending (s : State) (v0 : List Instr) : State := { s with pending := v0 }

theorem State.with_pending_eq (s : State) (v0 : List Instr) : { s with pending := v0 } = s.with_pending v0 := rfl

theorem State.with_pending_moves (s : State) (v0 : List Instr) : Moves 33554432 s (s.with_pending v0) := by
  refine ⟨fun p hp => ?_, id⟩
  cases p with
  | pending => exact absurd hp (by decide)
  | mem => exact fun _ => rfl
  | regs _ => exact fun _ _ => rfl
  | _ => rfl

def State.with_pins (s : State) (v0 : Pins) : State := { s with pins := v0 }

theorem State.with_pins_eq (s : State) (v0 : Pins) : { s with pins := v0 } = s.with_pins v0 := rfl

theorem State.with_pins_moves (s : State) (v0 : Pins) : Moves 4194304 s (s.with_pins v0) := by
  refine ⟨fun p hp => ?_, id⟩
  cases p with
  | pins => exact absurd hp (by decide)
  | mem => exact fun _ => rfl
  | regs _ => exact fun _ _ => rfl
  | _ => rfl

def State.with_pke (s : State) (v0 : Pke) : State := { s with pke := v0 }

theorem State.with_pke_eq (s : State) (v0 : Pke) : { s with pke := v0 } = s.with_pke v0 := rfl

theorem State.with_pke_moves (s : State) (v0 : Pke) : Moves 2097152 s (s.with_pke v0) := by
  refine ⟨fun p hp => ?_, id⟩
  cases p with
  | pke => exact absurd hp (by decide)
  | mem => exact fun _ => rfl
  | regs _ => exact fun _ _ => rfl
  | _ => rfl

def State.with_power (s : State) (v0 : Power) : State := { s with power := v0 }

theorem State.with_power_eq (s : State) (v0 : Power) : { s with power := v0 } = s.with_power v0 := rfl

theorem State.with_power_moves (s : State) (v0 : Power) : Moves 32 s (s.with_power v0) := by
  refine ⟨fun p hp => ?_, id⟩
  cases p with
  | power => exact absurd hp (by decide)
  | mem => exact fun _ => rfl
  | regs _ => exact fun _ _ => rfl
  | _ => rfl

def State.with_power_boot (s : State) (v0 : Power) (v1 : Boot) : State := { s with power := v0, boot := v1 }

theorem State.with_power_boot_eq (s : State) (v0 : Power) (v1 : Boot) : { s with power := v0, boot := v1 } = s.with_power_boot v0 v1 := rfl

theorem State.with_power_boot_moves (s : State) (v0 : Power) (v1 : Boot) : Moves 1048608 s (s.with_power_boot v0 v1) := by
  refine ⟨fun p hp => ?_, id⟩
  cases p with
  | power => exact absurd hp (by decide)
  | boot => exact absurd hp (by decide)
  | mem => exact fun _ => rfl
  | regs _ => exact fun _ _ => rfl
  | _ => rfl

def State.with_radio (s : State) (v0 : Radio) : State := { s with radio := v0 }

theorem State.with_radio_eq (s : State) (v0 : Radio) : { s with radio := v0 } = s.with_radio v0 := rfl

theorem State.with_radio_moves (s : State) (v0 : Radio) : Moves 64 s (s.with_radio v0) := by
  refine ⟨fun p hp => ?_, id⟩
  cases p with
  | radio => exact absurd hp (by decide)
  | mem => exact fun _ => rfl
  | regs _ => exact fun _ _ => rfl
  | _ => rfl

def State.with_radio_slot (s : State) (v0 : Radio) (v1 : SlotEngine) : State := { s with radio := v0, slot := v1 }

theorem State.with_radio_slot_eq (s : State) (v0 : Radio) (v1 : SlotEngine) : { s with radio := v0, slot := v1 } = s.with_radio_slot v0 v1 := rfl

theorem State.with_radio_slot_moves (s : State) (v0 : Radio) (v1 : SlotEngine) : Moves 192 s (s.with_radio_slot v0 v1) := by
  refine ⟨fun p hp => ?_, id⟩
  cases p with
  | radio => exact absurd hp (by decide)
  | slot => exact absurd hp (by decide)
  | mem => exact fun _ => rfl
  | regs _ => exact fun _ _ => rfl
  | _ => rfl

def State.with_radio_slot_mac (s : State) (v0 : Radio) (v1 : SlotEngine) (v2 : Mac) : State := { s with radio := v0, slot := v1, mac := v2 }

theorem State.with_radio_slot_mac_eq (s : State) (v0 : Radio) (v1 : SlotEngine) (v2 : Mac) : { s with radio := v0, slot := v1, mac := v2 } = s.with_radio_slot_mac v0 v1 v2 := rfl

theorem State.with_radio_slot_mac_moves (s : State) (v0 : Radio) (v1 : SlotEngine) (v2 : Mac) : Moves 448 s (s.with_radio_slot_mac v0 v1 v2) := by
  refine ⟨fun p hp => ?_, id⟩
  cases p with
  | radio => exact absurd hp (by decide)
  | slot => exact absurd hp (by decide)
  | mac => exact absurd hp (by decide)
  | mem => exact fun _ => rfl
  | regs _ => exact fun _ _ => rfl
  | _ => rfl

def State.with_radio_slot_mac_sec_gnss_lgy_host_pke (s : State) (v0 : Radio) (v1 : SlotEngine) (v2 : Mac) (v3 : Sec) (v4 : Gnss) (v5 : Lgy) (v6 : HostPorts) (v7 : Pke) : State := { s with radio := v0, slot := v1, mac := v2, sec := v3, gnss := v4, lgy := v5, host := v6, pke := v7 }

theorem State.with_radio_slot_mac_sec_gnss_lgy_host_pke_eq (s : State) (v0 : Radio) (v1 : SlotEngine) (v2 : Mac) (v3 : Sec) (v4 : Gnss) (v5 : Lgy) (v6 : HostPorts) (v7 : Pke) : { s with radio := v0, slot := v1, mac := v2, sec := v3, gnss := v4, lgy := v5, host := v6, pke := v7 } = s.with_radio_slot_mac_sec_gnss_lgy_host_pke v0 v1 v2 v3 v4 v5 v6 v7 := rfl

theorem State.with_radio_slot_mac_sec_gnss_lgy_host_pke_moves (s : State) (v0 : Radio) (v1 : SlotEngine) (v2 : Mac) (v3 : Sec) (v4 : Gnss) (v5 : Lgy) (v6 : HostPorts) (v7 : Pke) : Moves 2754496 s (s.with_radio_slot_mac_sec_gnss_lgy_host_pke v0 v1 v2 v3 v4 v5 v6 v7) := by
  refine ⟨fun p hp => ?_, id⟩
  cases p with
  | radio => exact absurd hp (by decide)
  | slot => exact absurd hp (by decide)
  | mac => exact absurd hp (by decide)
  | sec => exact absurd hp (by decide)
  | gnss => exact absurd hp (by decide)
  | lgy => exact absurd hp (by decide)
  | host => exact absurd hp (by decide)
  | pke => exact absurd hp (by decide)
  | mem => exact fun _ => rfl
  | regs _ => exact fun _ _ => rfl
  | _ => rfl

def State.with_rtc (s : State) (v0 : Rtc) : State := { s with rtc := v0 }

theorem State.with_rtc_eq (s : State) (v0 : Rtc) : { s with rtc := v0 } = s.with_rtc v0 := rfl

theorem State.with_rtc_moves (s : State) (v0 : Rtc) : Moves 2048 s (s.with_rtc v0) := by
  refine ⟨fun p hp => ?_, id⟩
  cases p with
  | rtc => exact absurd hp (by decide)
  | mem => exact fun _ => rfl
  | regs _ => exact fun _ _ => rfl
  | _ => rfl

def State.with_sec (s : State) (v0 : Sec) : State := { s with sec := v0 }

theorem State.with_sec_eq (s : State) (v0 : Sec) : { s with sec := v0 } = s.with_sec v0 := rfl

theorem State.with_sec_moves (s : State) (v0 : Sec) : Moves 512 s (s.with_sec v0) := by
  refine ⟨fun p hp => ?_, id⟩
  cases p with
  | sec => exact absurd hp (by decide)
  | mem => exact fun _ => rfl
  | regs _ => exact fun _ _ => rfl
  | _ => rfl

def State.with_slot (s : State) (v0 : SlotEngine) : State := { s with slot := v0 }

theorem State.with_slot_eq (s : State) (v0 : SlotEngine) : { s with slot := v0 } = s.with_slot v0 := rfl

theorem State.with_slot_moves (s : State) (v0 : SlotEngine) : Moves 128 s (s.with_slot v0) := by
  refine ⟨fun p hp => ?_, id⟩
  cases p with
  | slot => exact absurd hp (by decide)
  | mem => exact fun _ => rfl
  | regs _ => exact fun _ _ => rfl
  | _ => rfl

def State.with_slot_mac (s : State) (v0 : SlotEngine) (v1 : Mac) : State := { s with slot := v0, mac := v1 }

theorem State.with_slot_mac_eq (s : State) (v0 : SlotEngine) (v1 : Mac) : { s with slot := v0, mac := v1 } = s.with_slot_mac v0 v1 := rfl

theorem State.with_slot_mac_moves (s : State) (v0 : SlotEngine) (v1 : Mac) : Moves 384 s (s.with_slot_mac v0 v1) := by
  refine ⟨fun p hp => ?_, id⟩
  cases p with
  | slot => exact absurd hp (by decide)
  | mac => exact absurd hp (by decide)
  | mem => exact fun _ => rfl
  | regs _ => exact fun _ _ => rfl
  | _ => rfl

def State.with_tag (s : State) (v0 : TagPort) : State := { s with tag := v0 }

theorem State.with_tag_eq (s : State) (v0 : TagPort) : { s with tag := v0 } = s.with_tag v0 := rfl

theorem State.with_tag_moves (s : State) (v0 : TagPort) : Moves 262144 s (s.with_tag v0) := by
  refine ⟨fun p hp => ?_, id⟩
  cases p with
  | tag => exact absurd hp (by decide)
  | mem => exact fun _ => rfl
  | regs _ => exact fun _ _ => rfl
  | _ => rfl

def State.with_tnet (s : State) (v0 : Nat) : State := { s with tnet := v0 }

theorem State.with_tnet_eq (s : State) (v0 : Nat) : { s with tnet := v0 } = s.with_tnet v0 := rfl

theorem State.with_tnet_moves (s : State) (v0 : Nat) : Moves 1 s (s.with_tnet v0) := by
  refine ⟨fun p hp => ?_, id⟩
  cases p with
  | tnet => exact absurd hp (by decide)
  | mem => exact fun _ => rfl
  | regs _ => exact fun _ _ => rfl
  | _ => rfl

def State.with_tnet_clock_mac (s : State) (v0 : Nat) (v1 : Nat) (v2 : Mac) : State := { s with tnet := v0, clock := v1, mac := v2 }

theorem State.with_tnet_clock_mac_eq (s : State) (v0 : Nat) (v1 : Nat) (v2 : Mac) : { s with tnet := v0, clock := v1, mac := v2 } = s.with_tnet_clock_mac v0 v1 v2 := rfl

theorem State.with_tnet_clock_mac_moves (s : State) (v0 : Nat) (v1 : Nat) (v2 : Mac) : Moves 259 s (s.with_tnet_clock_mac v0 v1 v2) := by
  refine ⟨fun p hp => ?_, id⟩
  cases p with
  | tnet => exact absurd hp (by decide)
  | clock => exact absurd hp (by decide)
  | mac => exact absurd hp (by decide)
  | mem => exact fun _ => rfl
  | regs _ => exact fun _ _ => rfl
  | _ => rfl

def State.with_tnet_mac (s : State) (v0 : Nat) (v1 : Mac) : State := { s with tnet := v0, mac := v1 }

theorem State.with_tnet_mac_eq (s : State) (v0 : Nat) (v1 : Mac) : { s with tnet := v0, mac := v1 } = s.with_tnet_mac v0 v1 := rfl

theorem State.with_tnet_mac_moves (s : State) (v0 : Nat) (v1 : Mac) : Moves 257 s (s.with_tnet_mac v0 v1) := by
  refine ⟨fun p hp => ?_, id⟩
  cases p with
  | tnet => exact absurd hp (by decide)
  | mac => exact absurd hp (by decide)
  | mem => exact fun _ => rfl
  | regs _ => exact fun _ _ => rfl
  | _ => rfl

def State.with_tnet_power (s : State) (v0 : Nat) (v1 : Power) : State := { s with tnet := v0, power := v1 }

theorem State.with_tnet_power_eq (s : State) (v0 : Nat) (v1 : Power) : { s with tnet := v0, power := v1 } = s.with_tnet_power v0 v1 := rfl

theorem State.with_tnet_power_moves (s : State) (v0 : Nat) (v1 : Power) : Moves 33 s (s.with_tnet_power v0 v1) := by
  refine ⟨fun p hp => ?_, id⟩
  cases p with
  | tnet => exact absurd hp (by decide)
  | power => exact absurd hp (by decide)
  | mem => exact fun _ => rfl
  | regs _ => exact fun _ _ => rfl
  | _ => rfl

def State.with_tnet_slot (s : State) (v0 : Nat) (v1 : SlotEngine) : State := { s with tnet := v0, slot := v1 }

theorem State.with_tnet_slot_eq (s : State) (v0 : Nat) (v1 : SlotEngine) : { s with tnet := v0, slot := v1 } = s.with_tnet_slot v0 v1 := rfl

theorem State.with_tnet_slot_moves (s : State) (v0 : Nat) (v1 : SlotEngine) : Moves 129 s (s.with_tnet_slot v0 v1) := by
  refine ⟨fun p hp => ?_, id⟩
  cases p with
  | tnet => exact absurd hp (by decide)
  | slot => exact absurd hp (by decide)
  | mem => exact fun _ => rfl
  | regs _ => exact fun _ _ => rfl
  | _ => rfl

def State.with_tnet_slot_mac (s : State) (v0 : Nat) (v1 : SlotEngine) (v2 : Mac) : State := { s with tnet := v0, slot := v1, mac := v2 }

theorem State.with_tnet_slot_mac_eq (s : State) (v0 : Nat) (v1 : SlotEngine) (v2 : Mac) : { s with tnet := v0, slot := v1, mac := v2 } = s.with_tnet_slot_mac v0 v1 v2 := rfl

theorem State.with_tnet_slot_mac_moves (s : State) (v0 : Nat) (v1 : SlotEngine) (v2 : Mac) : Moves 385 s (s.with_tnet_slot_mac v0 v1 v2) := by
  refine ⟨fun p hp => ?_, id⟩
  cases p with
  | tnet => exact absurd hp (by decide)
  | slot => exact absurd hp (by decide)
  | mac => exact absurd hp (by decide)
  | mem => exact fun _ => rfl
  | regs _ => exact fun _ _ => rfl
  | _ => rfl

end Sys2Proof.Machine
end

