-- ==== Sys2Proof/Laws/Ops.lean ====
section
/-! SUPPORT. What the operations of Machine/Ops.lean may change. -/
set_option linter.all false
namespace Sys2Proof.Machine

set_option linter.tactic.unusedName false

theorem evrPm_block (c i : Nat) : (evrPm c i).inBlock 11 :=
  getD_block (by simp only [allIn, List.forall_mem_cons, EVR_PM0_MASK_block, EVR_PM1_MASK_block, EVR_PM2_MASK_block, EVR_PM3_MASK_block]; simp) (EVR_PM0_MASK_block c)

/-- May change: mem. -/
theorem State.setNum_moves (z : State) (a : Nat) (n : Nat) (v : Nat) : Moves 4 z (State.setNum z a n v) := by
  unfold State.setNum
  repeat'
    first
    | with_reducible apply Moves.refl
    | with_reducible assumption
    | intro _
    | ((with_reducible apply Moves.by (State.setBytes_moves _ _ _)); case hs => exact rfl)
    | with_reducible apply ite_moves
    | (extract_lets +onlyGivenNames x; apply Moves.cut (m := 4) (z := z) x; (case' h => unfold x); (case' k => (clear_value x; intro _)))
    | (extract_lets +onlyGivenNames x; clear_value x)
    | split
    | (rename_i hq; split at hq)
    | (rename_i hq; obtain ⟨_, rfl⟩ := Prod.mk.inj hq)

/-- May change: evr. -/
theorem State.pulse_moves (z : State) (c : Nat) (at_ : Nat) : Moves 4096 z (State.pulse z c at_) := by
  unfold State.pulse
  repeat'
    first
    | with_reducible apply Moves.refl
    | with_reducible assumption
    | intro _
    | ((with_reducible apply Moves.by (State.with_evr_moves _ _)); case hs => exact rfl)
    | rw [State.with_evr_eq]
    | with_reducible apply ite_moves
    | (extract_lets +onlyGivenNames x; apply Moves.cut (m := 4096) (z := z) x; (case' h => unfold x); (case' k => (clear_value x; intro _)))
    | (extract_lets +onlyGivenNames x; clear_value x)
    | split
    | (rename_i hq; split at hq)
    | (rename_i hq; obtain ⟨_, rfl⟩ := Prod.mk.inj hq)

/-- May change: power, registers of block 0. -/
theorem State.wakeRequest_moves (z : State) (n : Nat) : Moves 134217760 z (State.wakeRequest z n) := by
  unfold State.wakeRequest
  repeat'
    first
    | with_reducible apply Moves.refl
    | with_reducible assumption
    | intro _
    | ((with_reducible apply Moves.by (State.with_power_moves _ _)); case hs => exact rfl)
    | rw [State.with_power_eq]
    | ((with_reducible apply Moves.put); (case hf => (with_reducible first | apply PRC_PWRSTAT_PENDING_block | apply PRC_PWRSTAT_RESULT_block | apply PRC_WAKESRC_SRC_block)); case hm => exact rfl)
    | ((with_reducible apply Moves.flag); (case hf => (with_reducible first | apply PRC_PWRSTAT_PENDING_block | apply PRC_PWRSTAT_RESULT_block | apply PRC_WAKESRC_SRC_block)); case hm => exact rfl)
    | with_reducible apply ite_moves
    | (extract_lets +onlyGivenNames x; apply Moves.cut (m := 134217760) (z := z) x; (case' h => unfold x); (case' k => (clear_value x; intro _)))
    | (extract_lets +onlyGivenNames x; clear_value x)
    | split
    | (rename_i hq; split at hq)
    | (rename_i hq; obtain ⟨_, rfl⟩ := Prod.mk.inj hq)

/-- May change: power, evr, core0, core1, registers of block 0 11. -/
theorem State.raise_moves (z : State) (n : Nat) : Moves 275012227104 z (State.raise z n) := by
  unfold State.raise
  repeat'
    first
    | with_reducible apply Moves.refl
    | with_reducible assumption
    | intro _
    | ((with_reducible apply Moves.by (State.pulse_moves _ _ _)); case hs => exact rfl)
    | ((with_reducible apply Moves.by (State.wakeRequest_moves _ _)); case hs => exact rfl)
    | ((with_reducible apply Moves.by (State.with_core0_core1_moves _ _ _)); case hs => exact rfl)
    | rw [State.with_core0_core1_eq]
    | ((with_reducible apply Moves.put); (case hf => (with_reducible first | apply evrPm_block | apply EVR_ESTAT_STAT_block)); case hm => exact rfl)
    | with_reducible apply ite_moves
    | with_reducible apply foldl_moves
    | (extract_lets +onlyGivenNames x; apply Moves.cut (m := 275012227104) (z := z) x; (case' h => unfold x); (case' k => (clear_value x; intro _)))
    | (extract_lets +onlyGivenNames x; clear_value x)
    | split
    | (rename_i hq; split at hq)
    | (rename_i hq; obtain ⟨_, rfl⟩ := Prod.mk.inj hq)

/-- May change: power, evr, core0, core1, registers of block 0 11. -/
theorem State.raiseIf_moves (z : State) (b : Bool) (n : Nat) : Moves 275012227104 z (State.raiseIf z b n) := by
  unfold State.raiseIf
  repeat'
    first
    | with_reducible apply Moves.refl
    | with_reducible assumption
    | intro _
    | ((with_reducible apply Moves.by (State.raise_moves _ _)); case hs => exact rfl)
    | with_reducible apply ite_moves
    | (extract_lets +onlyGivenNames x; apply Moves.cut (m := 275012227104) (z := z) x; (case' h => unfold x); (case' k => (clear_value x; intro _)))
    | (extract_lets +onlyGivenNames x; clear_value x)
    | split
    | (rename_i hq; split at hq)
    | (rename_i hq; obtain ⟨_, rfl⟩ := Prod.mk.inj hq)

/-- May change: registers of block 15. -/
theorem State.lgyFlag_moves (z : State) (n : Nat) : Moves 4398046511104 z (State.lgyFlag z n) := by
  unfold State.lgyFlag
  repeat'
    first
    | with_reducible apply Moves.refl
    | with_reducible assumption
    | intro _
    | ((with_reducible apply Moves.put); (case hf => (with_reducible apply LGY_IRQF_FLAGS_block)); case hm => exact rfl)
    | with_reducible apply ite_moves
    | (extract_lets +onlyGivenNames x; apply Moves.cut (m := 4398046511104) (z := z) x; (case' h => unfold x); (case' k => (clear_value x; intro _)))
    | (extract_lets +onlyGivenNames x; clear_value x)
    | split
    | (rename_i hq; split at hq)
    | (rename_i hq; obtain ⟨_, rfl⟩ := Prod.mk.inj hq)

/-- May change: host. -/
theorem State.answer_moves (z : State) (r : OdpStatus) : Moves 524288 z (State.answer z r) := by
  unfold State.answer
  repeat'
    first
    | with_reducible apply Moves.refl
    | with_reducible assumption
    | intro _
    | ((with_reducible apply Moves.by (State.with_host_moves _ _)); case hs => exact rfl)
    | rw [State.with_host_eq]
    | with_reducible apply ite_moves
    | (extract_lets +onlyGivenNames x; apply Moves.cut (m := 524288) (z := z) x; (case' h => unfold x); (case' k => (clear_value x; intro _)))
    | (extract_lets +onlyGivenNames x; clear_value x)
    | split
    | (rename_i hq; split at hq)
    | (rename_i hq; obtain ⟨_, rfl⟩ := Prod.mk.inj hq)

theorem State.setObj_moves (s : State) (key : Nat) (v : List Byte) : Moves 8388608 s (s.setObj key v) := s.objs_moves key v

/-- May change: boot. -/
theorem State.storeIn_moves (z : State) (k : Nat) (key : Nat) (v : List Byte) : Moves 1048576 z (State.storeIn z k key v) := by
  unfold State.storeIn
  repeat'
    first
    | with_reducible apply Moves.refl
    | with_reducible assumption
    | intro _
    | ((with_reducible apply Moves.by (State.with_boot_moves _ _)); case hs => exact rfl)
    | rw [State.with_boot_eq]
    | with_reducible apply ite_moves
    | (extract_lets +onlyGivenNames x; apply Moves.cut (m := 1048576) (z := z) x; (case' h => unfold x); (case' k => (clear_value x; intro _)))
    | (extract_lets +onlyGivenNames x; clear_value x)
    | split
    | (rename_i hq; split at hq)
    | (rename_i hq; obtain ⟨_, rfl⟩ := Prod.mk.inj hq)

/-- May change: boot. -/
theorem State.persist_moves (z : State) (key : Nat) (v : List Byte) : Moves 1048576 z (State.persist z key v) := by
  unfold State.persist
  repeat'
    first
    | with_reducible apply Moves.refl
    | with_reducible assumption
    | intro _
    | ((with_reducible apply Moves.by (State.storeIn_moves _ _ _ _)); case hs => exact rfl)
    | with_reducible apply ite_moves
    | (extract_lets +onlyGivenNames x; apply Moves.cut (m := 1048576) (z := z) x; (case' h => unfold x); (case' k => (clear_value x; intro _)))
    | (extract_lets +onlyGivenNames x; clear_value x)
    | split
    | (rename_i hq; split at hq)
    | (rename_i hq; obtain ⟨_, rfl⟩ := Prod.mk.inj hq)

/-- May change: power. -/
theorem State.requestReset_moves (z : State) (code : Nat) : Moves 32 z (State.requestReset z code) := by
  unfold State.requestReset
  repeat'
    first
    | with_reducible apply Moves.refl
    | with_reducible assumption
    | intro _
    | ((with_reducible apply Moves.by (State.with_power_moves _ _)); case hs => exact rfl)
    | rw [State.with_power_eq]
    | with_reducible apply ite_moves
    | (extract_lets +onlyGivenNames x; apply Moves.cut (m := 32) (z := z) x; (case' h => unfold x); (case' k => (clear_value x; intro _)))
    | (extract_lets +onlyGivenNames x; clear_value x)
    | split
    | (rename_i hq; split at hq)
    | (rename_i hq; obtain ⟨_, rfl⟩ := Prod.mk.inj hq)

/-- May change: power, boot. -/
theorem State.requestRecovery_moves (z : State) : Moves 1048608 z (State.requestRecovery z) := by
  unfold State.requestRecovery
  repeat'
    first
    | with_reducible apply Moves.refl
    | with_reducible assumption
    | intro _
    | ((with_reducible apply Moves.by (State.requestReset_moves _ _)); case hs => exact rfl)
    | ((with_reducible apply Moves.by (State.with_boot_moves _ _)); case hs => exact rfl)
    | rw [State.with_boot_eq]
    | with_reducible apply ite_moves
    | (extract_lets +onlyGivenNames x; apply Moves.cut (m := 1048608) (z := z) x; (case' h => unfold x); (case' k => (clear_value x; intro _)))
    | (extract_lets +onlyGivenNames x; clear_value x)
    | split
    | (rename_i hq; split at hq)
    | (rename_i hq; obtain ⟨_, rfl⟩ := Prod.mk.inj hq)

/-- May change: faults, power, evr, core0, core1, registers of block 0 11 18. -/
theorem State.logEntry_moves (z : State) (e : FaultEntry) : Moves 35459384315952 z (State.logEntry z e) := by
  unfold State.logEntry
  repeat'
    first
    | with_reducible apply Moves.refl
    | with_reducible assumption
    | intro _
    | ((with_reducible apply Moves.by (State.raise_moves _ _)); case hs => exact rfl)
    | ((with_reducible apply Moves.by (State.with_faults_moves _ _)); case hs => exact rfl)
    | rw [State.with_faults_eq]
    | ((with_reducible apply Moves.flag); (case hf => (with_reducible first | apply ERR_STATUS_LOG_LOST_block | apply ERR_STATUS_LOST_block)); case hm => exact rfl)
    | ((with_reducible apply Moves.bump); (case hf => (with_reducible first | apply ERR_STATUS_LOG_LOST_block | apply ERR_STATUS_LOST_block)); case hm => exact rfl)
    | with_reducible apply ite_moves
    | (extract_lets +onlyGivenNames x; apply Moves.cut (m := 35459384315952) (z := z) x; (case' h => unfold x); (case' k => (clear_value x; intro _)))
    | (extract_lets +onlyGivenNames x; clear_value x)
    | split
    | (rename_i hq; split at hq)
    | (rename_i hq; obtain ⟨_, rfl⟩ := Prod.mk.inj hq)

/-- May change: faults, power, evr, core0, core1, registers of block 0 11 18. -/
theorem State.fatal_moves (z : State) (src : Nat) (addr : Nat) (detail : Nat) (escalated : Bool) : Moves 35459384315952 z (State.fatal z src addr detail escalated) := by
  unfold State.fatal
  repeat'
    first
    | with_reducible apply Moves.refl
    | with_reducible assumption
    | intro _
    | ((with_reducible apply Moves.by (State.requestReset_moves _ _)); case hs => exact rfl)
    | ((with_reducible apply Moves.by (State.raise_moves _ _)); case hs => exact rfl)
    | ((with_reducible apply Moves.by (State.logEntry_moves _ _)); case hs => exact rfl)
    | ((with_reducible apply Moves.by (State.with_faults_moves _ _)); case hs => exact rfl)
    | rw [State.with_faults_eq]
    | with_reducible apply ite_moves
    | (extract_lets +onlyGivenNames x; apply Moves.cut (m := 35459384315952) (z := z) x; (case' h => unfold x); (case' k => (clear_value x; intro _)))
    | (extract_lets +onlyGivenNames x; clear_value x)
    | split
    | (rename_i hq; split at hq)
    | (rename_i hq; obtain ⟨_, rfl⟩ := Prod.mk.inj hq)

/-- May change: faults, power, evr, core0, core1, registers of block 0 11 18. -/
theorem State.report_moves (z : State) (cls : Nat) (src : Nat) (addr : Nat) (detail : Nat) (scrub : optParam Bool Bool.false) : Moves 35459384315952 z (State.report z cls src addr detail scrub) := by
  unfold State.report
  repeat'
    first
    | with_reducible apply Moves.refl
    | with_reducible assumption
    | intro _
    | ((with_reducible apply Moves.by (State.fatal_moves _ _ _ _ _)); case hs => exact rfl)
    | ((with_reducible apply Moves.by (State.raise_moves _ _)); case hs => exact rfl)
    | ((with_reducible apply Moves.by (State.logEntry_moves _ _)); case hs => exact rfl)
    | ((with_reducible apply Moves.by (State.with_faults_moves _ _)); case hs => exact rfl)
    | rw [State.with_faults_eq]
    | with_reducible apply ite_moves
    | (extract_lets +onlyGivenNames x; apply Moves.cut (m := 35459384315952) (z := z) x; (case' h => unfold x); (case' k => (clear_value x; intro _)))
    | (extract_lets +onlyGivenNames x; clear_value x)
    | split
    | (rename_i hq; split at hq)
    | (rename_i hq; obtain ⟨_, rfl⟩ := Prod.mk.inj hq)

/-- May change: faults, power, evr, core0, core1, registers of block 0 11 18. -/
theorem State.busInfo_moves (z : State) (a : Nat) : Moves 35459384315952 z (State.busInfo z a) := by
  unfold State.busInfo
  repeat'
    first
    | with_reducible apply Moves.refl
    | with_reducible assumption
    | intro _
    | ((with_reducible apply Moves.by (State.report_moves _ _ _ _ _ _)); case hs => exact rfl)
    | with_reducible apply ite_moves
    | (extract_lets +onlyGivenNames x; apply Moves.cut (m := 35459384315952) (z := z) x; (case' h => unfold x); (case' k => (clear_value x; intro _)))
    | (extract_lets +onlyGivenNames x; clear_value x)
    | split
    | (rename_i hq; split at hq)
    | (rename_i hq; obtain ⟨_, rfl⟩ := Prod.mk.inj hq)

/-- May change: mem, poison. -/
theorem State.devWrite_moves (s : State) (a : Nat) (bs : List Byte) : Moves 12 s (s.devWrite a bs) := by
  unfold State.devWrite
  have h := State.poison_moves s (s.poison.filter fun e => !(decide (a ≤ e.1) && decide (e.1 + 4 ≤ a + bs.length)))
    fun g => Poison.wf_filter _ g.2.2.1
  dsimp only
  refine ite_moves (Moves.step (h.mono rfl) (State.setBytes_moves _ _ _) rfl) (foldl_moves (h.mono rfl) fun s x hs => ?_)
  exact ite_moves hs (hs.step (State.setByte_moves _ _ _) rfl)

end Sys2Proof.Machine
end

