-- ==== Sys2Proof/Laws/RadioOps.lean ====
section
/-! SUPPORT. What the operations of Machine/RadioOps.lean may change. -/
set_option linter.all false
namespace Sys2Proof.Machine

set_option linter.tactic.unusedName false

theorem pathField_block (p : Path) : (pathField p).inBlock 1 := by cases p <;> rfl

theorem blankField_block (i : Nat) : (blankField i).inBlock 1 :=
  getD_block (by simp only [allIn, List.forall_mem_cons, RFC_BLANK_A0_LANES_block, RFC_BLANK_A1_LANES_block, RFC_BLANK_B0_LANES_block, RFC_BLANK_B1_LANES_block]; simp) RFC_BLANK_A0_LANES_block

/-- May change: slot. -/
theorem State.setStandby_moves (z : State) (b : Sparse Byte) : Moves 128 z (State.setStandby z b) := by
  unfold State.setStandby
  repeat'
    first
    | with_reducible apply Moves.refl
    | with_reducible assumption
    | intro _
    | ((with_reducible apply Moves.by (State.with_slot_moves _ _)); case hs => exact rfl)
    | rw [State.with_slot_eq]
    | with_reducible apply ite_moves
    | (extract_lets +onlyGivenNames x; apply Moves.cut (m := 128) (z := z) x; (case' h => unfold x); (case' k => (clear_value x; intro _)))
    | (extract_lets +onlyGivenNames x; clear_value x)
    | split
    | (rename_i hq; split at hq)
    | (rename_i hq; obtain ⟨_, rfl⟩ := Prod.mk.inj hq)

/-- May change: radio. -/
theorem State.setPath_moves (z : State) (p : Path) (c : PathCal) : Moves 64 z (State.setPath z p c) := by
  unfold State.setPath
  repeat'
    first
    | with_reducible apply Moves.refl
    | with_reducible assumption
    | intro _
    | ((with_reducible apply Moves.by (State.with_radio_moves _ _)); case hs => exact rfl)
    | rw [State.with_radio_eq]
    | with_reducible apply ite_moves
    | (extract_lets +onlyGivenNames x; apply Moves.cut (m := 64) (z := z) x; (case' h => unfold x); (case' k => (clear_value x; intro _)))
    | (extract_lets +onlyGivenNames x; clear_value x)
    | split
    | (rename_i hq; split at hq)
    | (rename_i hq; obtain ⟨_, rfl⟩ := Prod.mk.inj hq)

/-- May change: power, radio, evr, core0, core1, registers of block 0 1 11. -/
theorem State.enter_moves (z : State) (p : Path) (st : Nat) : Moves 275280662624 z (State.enter z p st) := by
  unfold State.enter
  repeat'
    first
    | with_reducible apply Moves.refl
    | with_reducible assumption
    | intro _
    | ((with_reducible apply Moves.by (State.raiseIf_moves _ _ _)); case hs => exact rfl)
    | ((with_reducible apply Moves.by (State.with_radio_moves _ _)); case hs => exact rfl)
    | rw [State.with_radio_eq]
    | ((with_reducible apply Moves.put); (case hf => (with_reducible first | apply pathField_block | apply RFC_STATE_STATE_A_block | apply RFC_STATE_STATE_B_block | apply RFC_STATE_STATE_T_block)); case hm => exact rfl)
    | with_reducible apply ite_moves
    | (extract_lets +onlyGivenNames x; apply Moves.cut (m := 275280662624) (z := z) x; (case' h => unfold x); (case' k => (clear_value x; intro _)))
    | (extract_lets +onlyGivenNames x; clear_value x)
    | split
    | (rename_i hq; split at hq)
    | (rename_i hq; obtain ⟨_, rfl⟩ := Prod.mk.inj hq)

/-- May change: radio, registers of block 1. -/
theorem State.calibrated_moves (z : State) (p : Path) : Moves 268435520 z (State.calibrated z p) := by
  unfold State.calibrated
  repeat'
    first
    | with_reducible apply Moves.refl
    | with_reducible assumption
    | intro _
    | ((with_reducible apply Moves.by (State.setPath_moves _ _ _)); case hs => exact rfl)
    | ((with_reducible apply Moves.put); (case hf => (with_reducible apply RFC_TEMP_TEMP_CAL_T_block)); case hm => exact rfl)
    | with_reducible apply ite_moves
    | (extract_lets +onlyGivenNames x; apply Moves.cut (m := 268435520) (z := z) x; (case' h => unfold x); (case' k => (clear_value x; intro _)))
    | (extract_lets +onlyGivenNames x; clear_value x)
    | split
    | (rename_i hq; split at hq)
    | (rename_i hq; obtain ⟨_, rfl⟩ := Prod.mk.inj hq)

/-- May change: power, radio, evr, core0, core1, registers of block 0 1 11. -/
theorem State.lock_moves (z : State) (p : Path) : Moves 275280662624 z (State.lock z p) := by
  unfold State.lock
  repeat'
    first
    | with_reducible apply Moves.refl
    | with_reducible assumption
    | intro _
    | ((with_reducible apply Moves.by (State.raise_moves _ _)); case hs => exact rfl)
    | ((with_reducible apply Moves.by (State.calibrated_moves _ _)); case hs => exact rfl)
    | with_reducible apply ite_moves
    | (extract_lets +onlyGivenNames x; apply Moves.cut (m := 275280662624) (z := z) x; (case' h => unfold x); (case' k => (clear_value x; intro _)))
    | (extract_lets +onlyGivenNames x; clear_value x)
    | split
    | (rename_i hq; split at hq)
    | (rename_i hq; obtain ⟨_, rfl⟩ := Prod.mk.inj hq)

/-- May change: radio. -/
theorem State.setLane_moves (z : State) (i : Nat) (l : Lane) : Moves 64 z (State.setLane z i l) := by
  unfold State.setLane
  repeat'
    first
    | with_reducible apply Moves.refl
    | with_reducible assumption
    | intro _
    | ((with_reducible apply Moves.by (State.with_radio_moves _ _)); case hs => exact rfl)
    | rw [State.with_radio_eq]
    | with_reducible apply ite_moves
    | (extract_lets +onlyGivenNames x; apply Moves.cut (m := 64) (z := z) x; (case' h => unfold x); (case' k => (clear_value x; intro _)))
    | (extract_lets +onlyGivenNames x; clear_value x)
    | split
    | (rename_i hq; split at hq)
    | (rename_i hq; obtain ⟨_, rfl⟩ := Prod.mk.inj hq)

/-- May change: radio. -/
theorem State.refreshProfile_moves (z : State) (i : Nat) : Moves 64 z (State.refreshProfile z i) := by
  unfold State.refreshProfile
  repeat'
    first
    | with_reducible apply Moves.refl
    | with_reducible assumption
    | intro _
    | ((with_reducible apply Moves.by (State.setLane_moves _ _ _)); case hs => exact rfl)
    | with_reducible apply ite_moves
    | (extract_lets +onlyGivenNames x; apply Moves.cut (m := 64) (z := z) x; (case' h => unfold x); (case' k => (clear_value x; intro _)))
    | (extract_lets +onlyGivenNames x; clear_value x)
    | split
    | (rename_i hq; split at hq)
    | (rename_i hq; obtain ⟨_, rfl⟩ := Prod.mk.inj hq)

/-- May change: radio, registers of block 2. -/
theorem State.restLane_moves (z : State) (i : Nat) : Moves 536870976 z (State.restLane z i) := by
  unfold State.restLane
  repeat'
    first
    | with_reducible apply Moves.refl
    | with_reducible assumption
    | intro _
    | ((with_reducible apply Moves.by (State.refreshProfile_moves _ _)); case hs => exact rfl)
    | ((with_reducible apply Moves.put); (case hf => (with_reducible apply CHZ_LSTAT_STATE_block)); case hm => exact rfl)
    | with_reducible apply ite_moves
    | (extract_lets +onlyGivenNames x; apply Moves.cut (m := 536870976) (z := z) x; (case' h => unfold x); (case' k => (clear_value x; intro _)))
    | (extract_lets +onlyGivenNames x; clear_value x)
    | split
    | (rename_i hq; split at hq)
    | (rename_i hq; obtain ⟨_, rfl⟩ := Prod.mk.inj hq)

/-- May change: radio, slot, registers of block 2. -/
theorem State.cutFrame_moves (z : State) (i : Nat) : Moves 536871104 z (State.cutFrame z i) := by
  unfold State.cutFrame
  repeat'
    first
    | with_reducible apply Moves.refl
    | with_reducible assumption
    | intro _
    | ((with_reducible apply Moves.by (State.with_radio_slot_moves _ _ _)); case hs => exact rfl)
    | rw [State.with_radio_slot_eq]
    | ((with_reducible apply Moves.bump); (case hf => (with_reducible apply CHZ_LCNT_BLANKED_block)); case hm => exact rfl)
    | with_reducible apply ite_moves
    | (extract_lets +onlyGivenNames x; apply Moves.cut (m := 536871104) (z := z) x; (case' h => unfold x); (case' k => (clear_value x; intro _)))
    | (extract_lets +onlyGivenNames x; clear_value x)
    | split
    | (rename_i hq; split at hq)
    | (rename_i hq; obtain ⟨_, rfl⟩ := Prod.mk.inj hq)

/-- May change: radio, slot, registers of block 1 2. -/
theorem State.blankLane_moves (r : BlankReason) (z : State) (i : Nat) : Moves 805306560 z (State.blankLane r z i) := by
  unfold State.blankLane
  repeat'
    first
    | with_reducible apply Moves.refl
    | with_reducible assumption
    | intro _
    | ((with_reducible apply Moves.by (State.setLane_moves _ _ _)); case hs => exact rfl)
    | ((with_reducible apply Moves.by (State.cutFrame_moves _ _)); case hs => exact rfl)
    | ((with_reducible apply Moves.put); (case hf => (with_reducible first | apply blankField_block | apply CHZ_LSTAT_STATE_block | apply RFC_BLANK_A0_LANES_block | apply RFC_BLANK_A1_LANES_block | apply RFC_BLANK_B0_LANES_block | apply RFC_BLANK_B1_LANES_block)); case hm => exact rfl)
    | with_reducible apply ite_moves
    | (extract_lets +onlyGivenNames x; apply Moves.cut (m := 805306560) (z := z) x; (case' h => unfold x); (case' k => (clear_value x; intro _)))
    | (extract_lets +onlyGivenNames x; clear_value x)
    | split
    | (rename_i hq; split at hq)
    | (rename_i hq; obtain ⟨_, rfl⟩ := Prod.mk.inj hq)

/-- May change: radio, registers of block 1 2. -/
theorem State.unblankLane_moves (r : BlankReason) (z : State) (i : Nat) : Moves 805306432 z (State.unblankLane r z i) := by
  unfold State.unblankLane
  repeat'
    first
    | with_reducible apply Moves.refl
    | with_reducible assumption
    | intro _
    | ((with_reducible apply Moves.by (State.setLane_moves _ _ _)); case hs => exact rfl)
    | ((with_reducible apply Moves.by (State.restLane_moves _ _)); case hs => exact rfl)
    | ((with_reducible apply Moves.put); (case hf => (with_reducible first | apply blankField_block | apply RFC_BLANK_A0_LANES_block | apply RFC_BLANK_A1_LANES_block | apply RFC_BLANK_B0_LANES_block | apply RFC_BLANK_B1_LANES_block)); case hm => exact rfl)
    | with_reducible apply ite_moves
    | (extract_lets +onlyGivenNames x; apply Moves.cut (m := 805306432) (z := z) x; (case' h => unfold x); (case' k => (clear_value x; intro _)))
    | (extract_lets +onlyGivenNames x; clear_value x)
    | split
    | (rename_i hq; split at hq)
    | (rename_i hq; obtain ⟨_, rfl⟩ := Prod.mk.inj hq)

/-- May change: radio, slot, registers of block 1 2. -/
theorem State.blankHalf_moves (r : BlankReason) (z : State) (h : Nat) : Moves 805306560 z (State.blankHalf r z h) := by
  unfold State.blankHalf
  repeat'
    first
    | with_reducible apply Moves.refl
    | with_reducible assumption
    | intro _
    | ((with_reducible apply Moves.by (State.blankLane_moves _ _ _)); case hs => exact rfl)
    | with_reducible apply ite_moves
    | with_reducible apply foldl_moves
    | (extract_lets +onlyGivenNames x; apply Moves.cut (m := 805306560) (z := z) x; (case' h => unfold x); (case' k => (clear_value x; intro _)))
    | (extract_lets +onlyGivenNames x; clear_value x)
    | split
    | (rename_i hq; split at hq)
    | (rename_i hq; obtain ⟨_, rfl⟩ := Prod.mk.inj hq)

/-- May change: radio, registers of block 1 2. -/
theorem State.unblankHalf_moves (r : BlankReason) (z : State) (h : Nat) : Moves 805306432 z (State.unblankHalf r z h) := by
  unfold State.unblankHalf
  repeat'
    first
    | with_reducible apply Moves.refl
    | with_reducible assumption
    | intro _
    | ((with_reducible apply Moves.by (State.unblankLane_moves _ _ _)); case hs => exact rfl)
    | with_reducible apply ite_moves
    | with_reducible apply foldl_moves
    | (extract_lets +onlyGivenNames x; apply Moves.cut (m := 805306432) (z := z) x; (case' h => unfold x); (case' k => (clear_value x; intro _)))
    | (extract_lets +onlyGivenNames x; clear_value x)
    | split
    | (rename_i hq; split at hq)
    | (rename_i hq; obtain ⟨_, rfl⟩ := Prod.mk.inj hq)

/-- May change: registers of block 2. -/
theorem State.mapChanged_moves (z : State) : Moves 536870912 z (State.mapChanged z) := by
  unfold State.mapChanged
  repeat'
    first
    | with_reducible apply Moves.refl
    | with_reducible assumption
    | intro _
    | ((with_reducible apply Moves.flag); (case hf => (with_reducible apply CHZ_STATUS_MAP_BUSY_block)); case hm => exact rfl)
    | with_reducible apply ite_moves
    | (extract_lets +onlyGivenNames x; apply Moves.cut (m := 536870912) (z := z) x; (case' h => unfold x); (case' k => (clear_value x; intro _)))
    | (extract_lets +onlyGivenNames x; clear_value x)
    | split
    | (rename_i hq; split at hq)
    | (rename_i hq; obtain ⟨_, rfl⟩ := Prod.mk.inj hq)

/-- May change: registers of block 2. -/
theorem State.setNcos_moves (z : State) (m : MapParams) : Moves 536870912 z (State.setNcos z m) := by
  unfold State.setNcos
  repeat'
    first
    | with_reducible apply Moves.refl
    | with_reducible assumption
    | intro _
    | ((with_reducible apply Moves.put); (case hf => (with_reducible apply CHZ_LNCO_LNCO_block)); case hm => exact rfl)
    | with_reducible apply ite_moves
    | with_reducible apply foldl_moves
    | (extract_lets +onlyGivenNames x; apply Moves.cut (m := 536870912) (z := z) x; (case' h => unfold x); (case' k => (clear_value x; intro _)))
    | (extract_lets +onlyGivenNames x; clear_value x)
    | split
    | (rename_i hq; split at hq)
    | (rename_i hq; obtain ⟨_, rfl⟩ := Prod.mk.inj hq)

/-- May change: radio. -/
theorem State.setDuty_moves (z : State) (g : Nat) (d : DutyGroup) : Moves 64 z (State.setDuty z g d) := by
  unfold State.setDuty
  repeat'
    first
    | with_reducible apply Moves.refl
    | with_reducible assumption
    | intro _
    | ((with_reducible apply Moves.by (State.with_radio_moves _ _)); case hs => exact rfl)
    | rw [State.with_radio_eq]
    | with_reducible apply ite_moves
    | (extract_lets +onlyGivenNames x; apply Moves.cut (m := 64) (z := z) x; (case' h => unfold x); (case' k => (clear_value x; intro _)))
    | (extract_lets +onlyGivenNames x; clear_value x)
    | split
    | (rename_i hq; split at hq)
    | (rename_i hq; obtain ⟨_, rfl⟩ := Prod.mk.inj hq)

/-- May change: power, evr, core0, core1, registers of block 0 1 11. -/
theorem State.regRefused_moves (z : State) (v : RegVerdict) : Moves 275280662560 z (State.regRefused z v) := by
  unfold State.regRefused
  repeat'
    first
    | with_reducible apply Moves.refl
    | with_reducible assumption
    | intro _
    | ((with_reducible apply Moves.by (State.raise_moves _ _)); case hs => exact rfl)
    | ((with_reducible apply Moves.put); (case hf => (with_reducible first | apply RFC_REGSTAT_LAST_BAND_block | apply RFC_REGSTAT_LAST_REASON_block | apply RFC_REGSTAT_NO_BAND_block | apply RFC_REGSTAT_REFUSALS_block | apply RFC_REGSTAT_SUPPLY_block)); case hm => exact rfl)
    | ((with_reducible apply Moves.flag); (case hf => (with_reducible first | apply RFC_REGSTAT_LAST_BAND_block | apply RFC_REGSTAT_LAST_REASON_block | apply RFC_REGSTAT_NO_BAND_block | apply RFC_REGSTAT_REFUSALS_block | apply RFC_REGSTAT_SUPPLY_block)); case hm => exact rfl)
    | ((with_reducible apply Moves.bump); (case hf => (with_reducible first | apply RFC_REGSTAT_LAST_BAND_block | apply RFC_REGSTAT_LAST_REASON_block | apply RFC_REGSTAT_NO_BAND_block | apply RFC_REGSTAT_REFUSALS_block | apply RFC_REGSTAT_SUPPLY_block)); case hm => exact rfl)
    | with_reducible apply ite_moves
    | (extract_lets +onlyGivenNames x; apply Moves.cut (m := 275280662560) (z := z) x; (case' h => unfold x); (case' k => (clear_value x; intro _)))
    | (extract_lets +onlyGivenNames x; clear_value x)
    | split
    | (rename_i hq; split at hq)
    | (rename_i hq; obtain ⟨_, rfl⟩ := Prod.mk.inj hq)

/-- May change: radio. -/
theorem State.charge_moves (z : State) (g : Nat) (sec : Nat) (units : Nat) : Moves 64 z (State.charge z g sec units) := by
  unfold State.charge
  repeat'
    first
    | with_reducible apply Moves.refl
    | with_reducible assumption
    | intro _
    | ((with_reducible apply Moves.by (State.setDuty_moves _ _ _)); case hs => exact rfl)
    | with_reducible apply ite_moves
    | (extract_lets +onlyGivenNames x; apply Moves.cut (m := 64) (z := z) x; (case' h => unfold x); (case' k => (clear_value x; intro _)))
    | (extract_lets +onlyGivenNames x; clear_value x)
    | split
    | (rename_i hq; split at hq)
    | (rename_i hq; obtain ⟨_, rfl⟩ := Prod.mk.inj hq)

/-- May change: radio. -/
theorem State.refund_moves (z : State) (g : Nat) (sec : Nat) (units : Nat) : Moves 64 z (State.refund z g sec units) := by
  unfold State.refund
  repeat'
    first
    | with_reducible apply Moves.refl
    | with_reducible assumption
    | intro _
    | ((with_reducible apply Moves.by (State.setDuty_moves _ _ _)); case hs => exact rfl)
    | with_reducible apply ite_moves
    | (extract_lets +onlyGivenNames x; apply Moves.cut (m := 64) (z := z) x; (case' h => unfold x); (case' k => (clear_value x; intro _)))
    | (extract_lets +onlyGivenNames x; clear_value x)
    | split
    | (rename_i hq; split at hq)
    | (rename_i hq; obtain ⟨_, rfl⟩ := Prod.mk.inj hq)

/-- May change: radio, registers of block 1. -/
theorem State.installProfile_moves (z : State) (img : List Byte) : Moves 268435520 z (State.installProfile z img) := by
  unfold State.installProfile
  repeat'
    first
    | with_reducible apply Moves.refl
    | with_reducible assumption
    | intro _
    | ((with_reducible apply Moves.by (State.with_radio_moves _ _)); case hs => exact rfl)
    | rw [State.with_radio_eq]
    | ((with_reducible apply Moves.flag); (case hf => (with_reducible apply RFC_REGSTAT_PROFILE_VALID_block)); case hm => exact rfl)
    | with_reducible apply ite_moves
    | (extract_lets +onlyGivenNames x; apply Moves.cut (m := 268435520) (z := z) x; (case' h => unfold x); (case' k => (clear_value x; intro _)))
    | (extract_lets +onlyGivenNames x; clear_value x)
    | split
    | (rename_i hq; split at hq)
    | (rename_i hq; obtain ⟨_, rfl⟩ := Prod.mk.inj hq)

/-- May change: power, radio, evr, core0, core1, boot, registers of block 0 1 11. -/
theorem State.acceptProfile_moves (z : State) (img : List Byte) : Moves 275281711200 z (State.acceptProfile z img) := by
  unfold State.acceptProfile
  repeat'
    first
    | with_reducible apply Moves.refl
    | with_reducible assumption
    | intro _
    | ((with_reducible apply Moves.by (State.installProfile_moves _ _)); case hs => exact rfl)
    | ((with_reducible apply Moves.by (State.raise_moves _ _)); case hs => exact rfl)
    | ((with_reducible apply Moves.by (State.persist_moves _ _ _)); case hs => exact rfl)
    | ((with_reducible apply Moves.by (State.with_radio_moves _ _)); case hs => exact rfl)
    | rw [State.with_radio_eq]
    | with_reducible apply ite_moves
    | (extract_lets +onlyGivenNames x; apply Moves.cut (m := 275281711200) (z := z) x; (case' h => unfold x); (case' k => (clear_value x; intro _)))
    | (extract_lets +onlyGivenNames x; clear_value x)
    | split
    | (rename_i hq; split at hq)
    | (rename_i hq; obtain ⟨_, rfl⟩ := Prod.mk.inj hq)

end Sys2Proof.Machine
end

