-- ==== Sys2Proof/Laws/Radio.lean ====
section
/-! SUPPORT. What the operations of Machine/Radio.lean may change. -/
set_option linter.all false
namespace Sys2Proof.Machine

set_option linter.tactic.unusedName false

theorem freqField_block (p : Path) : (freqField p).inBlock 1 := by cases p <;> rfl

theorem satField_block (h : Half) : (satField h).inBlock 1 := by cases h <;> rfl

/-- May change: power, radio, evr, core0, core1, registers of block 0 1 11. -/
theorem execRadioStateCommand_goes (value : Word) (z : State) : Goes 275280662624 z (execRadioStateCommand value z) := by
  unfold execRadioStateCommand
  repeat'
    first
    | with_reducible apply Moves.refl
    | with_reducible assumption
    | intro _
    | with_reducible apply goOn_goes
    | with_reducible apply ite_goes
    | ((with_reducible apply Moves.by (State.enter_moves _ _ _)); case hs => exact rfl)
    | ((with_reducible apply Moves.by (State.setPath_moves _ _ _)); case hs => exact rfl)
    | ((with_reducible apply Moves.flag); (case hf => (with_reducible first | apply pathField_block | apply RFC_STATE_CMD_REJ_block)); case hm => exact rfl)
    | with_reducible apply ite_moves
    | (extract_lets +onlyGivenNames x; apply Moves.cut (m := 275280662624) (z := z) x; (case' h => unfold x); (case' k => (clear_value x; intro _)))
    | (extract_lets +onlyGivenNames x; clear_value x)
    | split
    | (rename_i hq; split at hq)
    | (rename_i hq; obtain ⟨_, rfl⟩ := Prod.mk.inj hq)

/-- May change: power, radio, evr, core0, core1, registers of block 0 1 11. -/
theorem execRadioStateReached_goes (path : Path) (z : State) : Goes 275280662624 z (execRadioStateReached path z) := by
  unfold execRadioStateReached
  repeat'
    first
    | with_reducible apply Moves.refl
    | with_reducible assumption
    | intro _
    | with_reducible apply goOn_goes
    | with_reducible apply ite_goes
    | ((with_reducible apply Moves.by (State.lock_moves _ _)); case hs => exact rfl)
    | ((with_reducible apply Moves.by (State.enter_moves _ _ _)); case hs => exact rfl)
    | ((with_reducible apply Moves.by (State.setPath_moves _ _ _)); case hs => exact rfl)
    | with_reducible apply ite_moves
    | (extract_lets +onlyGivenNames x; apply Moves.cut (m := 275280662624) (z := z) x; (case' h => unfold x); (case' k => (clear_value x; intro _)))
    | (extract_lets +onlyGivenNames x; clear_value x)
    | split
    | (rename_i hq; split at hq)
    | (rename_i hq; obtain ⟨_, rfl⟩ := Prod.mk.inj hq)

/-- May change: power, radio, evr, core0, core1, registers of block 0 1 11 15. -/
theorem execSynthUnlock_goes (path : Path) (z : State) : Goes 4673327173728 z (execSynthUnlock path z) := by
  unfold execSynthUnlock
  repeat'
    first
    | with_reducible apply Moves.refl
    | with_reducible assumption
    | intro _
    | with_reducible apply goOn_goes
    | with_reducible apply ite_goes
    | ((with_reducible apply Moves.by (State.lgyFlag_moves _ _)); case hs => exact rfl)
    | ((with_reducible apply Moves.by (State.raise_moves _ _)); case hs => exact rfl)
    | ((with_reducible apply Moves.by (State.calibrated_moves _ _)); case hs => exact rfl)
    | ((with_reducible apply Moves.by (State.setPath_moves _ _ _)); case hs => exact rfl)
    | with_reducible apply ite_moves
    | (extract_lets +onlyGivenNames x; apply Moves.cut (m := 4673327173728) (z := z) x; (case' h => unfold x); (case' k => (clear_value x; intro _)))
    | (extract_lets +onlyGivenNames x; clear_value x)
    | split
    | (rename_i hq; split at hq)
    | (rename_i hq; obtain ⟨_, rfl⟩ := Prod.mk.inj hq)

/-- May change: radio, registers of block 1 2. -/
theorem execFreqWrite_goes (path : Path) (value : Word) (z : State) : Goes 805306432 z (execFreqWrite path value z) := by
  unfold execFreqWrite
  repeat'
    first
    | with_reducible apply Moves.refl
    | with_reducible assumption
    | intro _
    | with_reducible apply goOn_goes
    | with_reducible apply ite_goes
    | ((with_reducible apply Moves.by (State.mapChanged_moves _)); case hs => exact rfl)
    | ((with_reducible apply Moves.by (State.setPath_moves _ _ _)); case hs => exact rfl)
    | ((with_reducible apply Moves.by (State.with_radio_moves _ _)); case hs => exact rfl)
    | rw [State.with_radio_eq]
    | ((with_reducible apply Moves.put); (case hf => (with_reducible first | apply freqField_block | apply RFC_FREQ_A_FREQ_block | apply RFC_FREQ_B_FREQ_block | apply RFC_FREQ_T_FREQ_block | apply RFC_STATE_CMD_REJ_block | apply RFC_STATE_FREQ_ERR_block)); case hm => exact rfl)
    | ((with_reducible apply Moves.flag); (case hf => (with_reducible first | apply freqField_block | apply RFC_FREQ_A_FREQ_block | apply RFC_FREQ_B_FREQ_block | apply RFC_FREQ_T_FREQ_block | apply RFC_STATE_CMD_REJ_block | apply RFC_STATE_FREQ_ERR_block)); case hm => exact rfl)
    | with_reducible apply ite_moves
    | (extract_lets +onlyGivenNames x; apply Moves.cut (m := 805306432) (z := z) x; (case' h => unfold x); (case' k => (clear_value x; intro _)))
    | (extract_lets +onlyGivenNames x; clear_value x)
    | split
    | (rename_i hq; split at hq)
    | (rename_i hq; obtain ⟨_, rfl⟩ := Prod.mk.inj hq)

/-- May change: power, radio, evr, core0, core1, registers of block 0 1 11. -/
theorem execTempDelta_goes (temp : Int) (z : State) : Goes 275280662624 z (execTempDelta temp z) := by
  unfold execTempDelta
  repeat'
    first
    | with_reducible apply Moves.refl
    | with_reducible assumption
    | intro _
    | with_reducible apply goOn_goes
    | with_reducible apply ite_goes
    | ((with_reducible apply Moves.by (State.raiseIf_moves _ _ _)); case hs => exact rfl)
    | ((with_reducible apply Moves.by (State.setPath_moves _ _ _)); case hs => exact rfl)
    | ((with_reducible apply Moves.put); (case hf => (with_reducible apply RFC_TEMP_TEMP_block)); case hm => exact rfl)
    | with_reducible apply ite_moves
    | with_reducible apply foldl_moves
    | (extract_lets +onlyGivenNames x; apply Moves.cut (m := 275280662624) (z := z) x; (case' h => unfold x); (case' k => (clear_value x; intro _)))
    | (extract_lets +onlyGivenNames x; clear_value x)
    | split
    | (rename_i hq; split at hq)
    | (rename_i hq; obtain ⟨_, rfl⟩ := Prod.mk.inj hq)

/-- May change: registers of block 1. -/
theorem State.calResult_moves (z : State) (r : Nat) : Moves 268435456 z (State.calResult z r) := by
  unfold State.calResult
  repeat'
    first
    | with_reducible apply Moves.refl
    | with_reducible assumption
    | intro _
    | ((with_reducible apply Moves.put); (case hf => (with_reducible apply RFC_CALSTAT_RESULT_block)); case hm => exact rfl)
    | with_reducible apply ite_moves
    | (extract_lets +onlyGivenNames x; apply Moves.cut (m := 268435456) (z := z) x; (case' h => unfold x); (case' k => (clear_value x; intro _)))
    | (extract_lets +onlyGivenNames x; clear_value x)
    | split
    | (rename_i hq; split at hq)
    | (rename_i hq; obtain ⟨_, rfl⟩ := Prod.mk.inj hq)

/-- May change: radio, slot, registers of block 1 2. -/
theorem State.beginCal_moves (z : State) (c : Calibration) : Moves 805306560 z (State.beginCal z c) := by
  unfold State.beginCal
  repeat'
    first
    | with_reducible apply Moves.refl
    | with_reducible assumption
    | intro _
    | ((with_reducible apply Moves.by (State.blankHalf_moves _ _ _)); case hs => exact rfl)
    | ((with_reducible apply Moves.by (State.with_radio_moves _ _)); case hs => exact rfl)
    | rw [State.with_radio_eq]
    | ((with_reducible apply Moves.flag); (case hf => (with_reducible apply RFC_CALSTAT_BUSY_block)); case hm => exact rfl)
    | with_reducible apply ite_moves
    | (extract_lets +onlyGivenNames x; apply Moves.cut (m := 805306560) (z := z) x; (case' h => unfold x); (case' k => (clear_value x; intro _)))
    | (extract_lets +onlyGivenNames x; clear_value x)
    | split
    | (rename_i hq; split at hq)
    | (rename_i hq; obtain ⟨_, rfl⟩ := Prod.mk.inj hq)

/-- May change: radio, registers of block 1. -/
theorem State.holdCal_moves (z : State) (c : Calibration) : Moves 268435520 z (State.holdCal z c) := by
  unfold State.holdCal
  repeat'
    first
    | with_reducible apply Moves.refl
    | with_reducible assumption
    | intro _
    | ((with_reducible apply Moves.by (State.with_radio_moves _ _)); case hs => exact rfl)
    | rw [State.with_radio_eq]
    | ((with_reducible apply Moves.flag); (case hf => (with_reducible apply RFC_CALSTAT_BUSY_block)); case hm => exact rfl)
    | with_reducible apply ite_moves
    | (extract_lets +onlyGivenNames x; apply Moves.cut (m := 268435520) (z := z) x; (case' h => unfold x); (case' k => (clear_value x; intro _)))
    | (extract_lets +onlyGivenNames x; clear_value x)
    | split
    | (rename_i hq; split at hq)
    | (rename_i hq; obtain ⟨_, rfl⟩ := Prod.mk.inj hq)

/-- May change: radio, slot, registers of block 1 2. -/
theorem execCalibrationStart_goes (value : Word) (z : State) : Goes 805306560 z (execCalibrationStart value z) := by
  unfold execCalibrationStart
  repeat'
    first
    | with_reducible apply Moves.refl
    | with_reducible assumption
    | intro _
    | with_reducible apply goOn_goes
    | with_reducible apply ite_goes
    | ((with_reducible apply Moves.by (State.calResult_moves _ _)); case hs => exact rfl)
    | ((with_reducible apply Moves.by (State.beginCal_moves _ _)); case hs => exact rfl)
    | ((with_reducible apply Moves.by (State.holdCal_moves _ _)); case hs => exact rfl)
    | with_reducible apply ite_moves
    | (extract_lets +onlyGivenNames x; apply Moves.cut (m := 805306560) (z := z) x; (case' h => unfold x); (case' k => (clear_value x; intro _)))
    | (extract_lets +onlyGivenNames x; clear_value x)
    | split
    | (rename_i hq; split at hq)
    | (rename_i hq; obtain ⟨_, rfl⟩ := Prod.mk.inj hq)

/-- May change: radio, registers of block 1 2. -/
theorem State.endCal_moves (z : State) (c : Calibration) : Moves 805306432 z (State.endCal z c) := by
  unfold State.endCal
  repeat'
    first
    | with_reducible apply Moves.refl
    | with_reducible assumption
    | intro _
    | ((with_reducible apply Moves.by (State.unblankHalf_moves _ _ _)); case hs => exact rfl)
    | ((with_reducible apply Moves.by (State.with_radio_moves _ _)); case hs => exact rfl)
    | rw [State.with_radio_eq]
    | ((with_reducible apply Moves.flag); (case hf => (with_reducible apply RFC_CALSTAT_BUSY_block)); case hm => exact rfl)
    | with_reducible apply ite_moves
    | (extract_lets +onlyGivenNames x; apply Moves.cut (m := 805306432) (z := z) x; (case' h => unfold x); (case' k => (clear_value x; intro _)))
    | (extract_lets +onlyGivenNames x; clear_value x)
    | split
    | (rename_i hq; split at hq)
    | (rename_i hq; obtain ⟨_, rfl⟩ := Prod.mk.inj hq)

/-- May change: radio, slot, registers of block 1 2. -/
theorem State.nextCal_moves (z : State) : Moves 805306560 z (State.nextCal z) := by
  unfold State.nextCal
  repeat'
    first
    | with_reducible apply Moves.refl
    | with_reducible assumption
    | intro _
    | ((with_reducible apply Moves.by (State.beginCal_moves _ _)); case hs => exact rfl)
    | ((with_reducible apply Moves.by (State.with_radio_moves _ _)); case hs => exact rfl)
    | rw [State.with_radio_eq]
    | with_reducible apply ite_moves
    | (extract_lets +onlyGivenNames x; apply Moves.cut (m := 805306560) (z := z) x; (case' h => unfold x); (case' k => (clear_value x; intro _)))
    | (extract_lets +onlyGivenNames x; clear_value x)
    | split
    | (rename_i hq; split at hq)
    | (rename_i hq; obtain ⟨_, rfl⟩ := Prod.mk.inj hq)

/-- May change: radio, registers of block 1. -/
theorem State.storeCal_moves (z : State) (c : Calibration) (w : Nat) : Moves 268435520 z (State.storeCal z c w) := by
  unfold State.storeCal
  repeat'
    first
    | with_reducible apply Moves.refl
    | with_reducible assumption
    | intro _
    | ((with_reducible apply Moves.by (State.calibrated_moves _ _)); case hs => exact rfl)
    | ((with_reducible apply Moves.by (State.setPath_moves _ _ _)); case hs => exact rfl)
    | ((with_reducible apply Moves.put); (case hf => (with_reducible apply RFC_CALRES_XTAL_ERR_PPB_block)); case hm => exact rfl)
    | with_reducible apply ite_moves
    | (extract_lets +onlyGivenNames x; apply Moves.cut (m := 268435520) (z := z) x; (case' h => unfold x); (case' k => (clear_value x; intro _)))
    | (extract_lets +onlyGivenNames x; clear_value x)
    | split
    | (rename_i hq; split at hq)
    | (rename_i hq; obtain ⟨_, rfl⟩ := Prod.mk.inj hq)

/-- May change: power, radio, slot, evr, core0, core1, registers of block 0 1 2 11. -/
theorem execCalibrationDone_goes (inRange : Bool) (result : Word) (z : State) : Goes 275817533664 z (execCalibrationDone inRange result z) := by
  unfold execCalibrationDone
  repeat'
    first
    | with_reducible apply Moves.refl
    | with_reducible assumption
    | intro _
    | with_reducible apply goOn_goes
    | with_reducible apply ite_goes
    | ((with_reducible apply Moves.by (State.calResult_moves _ _)); case hs => exact rfl)
    | ((with_reducible apply Moves.by (State.storeCal_moves _ _ _)); case hs => exact rfl)
    | ((with_reducible apply Moves.by (State.nextCal_moves _)); case hs => exact rfl)
    | ((with_reducible apply Moves.by (State.endCal_moves _ _)); case hs => exact rfl)
    | ((with_reducible apply Moves.by (State.raise_moves _ _)); case hs => exact rfl)
    | ((with_reducible apply Moves.put); (case hf => (with_reducible first | apply RFC_CALSTAT_COUNT_block | apply RFC_CALSTAT_LAST_TARGET_block | apply RFC_CALSTAT_LAST_TYPE_block)); case hm => exact rfl)
    | ((with_reducible apply Moves.bumpWrap); (case hf => (with_reducible first | apply RFC_CALSTAT_COUNT_block | apply RFC_CALSTAT_LAST_TARGET_block | apply RFC_CALSTAT_LAST_TYPE_block)); case hm => exact rfl)
    | with_reducible apply ite_moves
    | (extract_lets +onlyGivenNames x; apply Moves.cut (m := 275817533664) (z := z) x; (case' h => unfold x); (case' k => (clear_value x; intro _)))
    | (extract_lets +onlyGivenNames x; clear_value x)
    | split
    | (rename_i hq; split at hq)
    | (rename_i hq; obtain ⟨_, rfl⟩ := Prod.mk.inj hq)

/-- May change: radio, registers of block 1. -/
theorem State.abortHeld_moves (z : State) : Moves 268435520 z (State.abortHeld z) := by
  unfold State.abortHeld
  repeat'
    first
    | with_reducible apply Moves.refl
    | with_reducible assumption
    | intro _
    | ((with_reducible apply Moves.by (State.calResult_moves _ _)); case hs => exact rfl)
    | ((with_reducible apply Moves.by (State.with_radio_moves _ _)); case hs => exact rfl)
    | rw [State.with_radio_eq]
    | ((with_reducible apply Moves.put); (case hf => (with_reducible first | apply RFC_CALSTAT_BUSY_block | apply RFC_CALSTAT_LAST_TARGET_block | apply RFC_CALSTAT_LAST_TYPE_block)); case hm => exact rfl)
    | ((with_reducible apply Moves.flag); (case hf => (with_reducible first | apply RFC_CALSTAT_BUSY_block | apply RFC_CALSTAT_LAST_TARGET_block | apply RFC_CALSTAT_LAST_TYPE_block)); case hm => exact rfl)
    | with_reducible apply ite_moves
    | (extract_lets +onlyGivenNames x; apply Moves.cut (m := 268435520) (z := z) x; (case' h => unfold x); (case' k => (clear_value x; intro _)))
    | (extract_lets +onlyGivenNames x; clear_value x)
    | split
    | (rename_i hq; split at hq)
    | (rename_i hq; obtain ⟨_, rfl⟩ := Prod.mk.inj hq)

/-- May change: radio, registers of block 1 2. -/
theorem State.abortCal_moves (z : State) : Moves 805306432 z (State.abortCal z) := by
  unfold State.abortCal
  repeat'
    first
    | with_reducible apply Moves.refl
    | with_reducible assumption
    | intro _
    | ((with_reducible apply Moves.by (State.abortHeld_moves _)); case hs => exact rfl)
    | ((with_reducible apply Moves.by (State.calResult_moves _ _)); case hs => exact rfl)
    | ((with_reducible apply Moves.by (State.endCal_moves _ _)); case hs => exact rfl)
    | ((with_reducible apply Moves.by (State.with_radio_moves _ _)); case hs => exact rfl)
    | rw [State.with_radio_eq]
    | ((with_reducible apply Moves.put); (case hf => (with_reducible first | apply RFC_CALSTAT_LAST_TARGET_block | apply RFC_CALSTAT_LAST_TYPE_block)); case hm => exact rfl)
    | with_reducible apply ite_moves
    | (extract_lets +onlyGivenNames x; apply Moves.cut (m := 805306432) (z := z) x; (case' h => unfold x); (case' k => (clear_value x; intro _)))
    | (extract_lets +onlyGivenNames x; clear_value x)
    | split
    | (rename_i hq; split at hq)
    | (rename_i hq; obtain ⟨_, rfl⟩ := Prod.mk.inj hq)

/-- May change: radio, registers of block 1. -/
theorem execCalHoldExpired_goes (z : State) : Goes 268435520 z (execCalHoldExpired z) := by
  unfold execCalHoldExpired
  repeat'
    first
    | with_reducible apply Moves.refl
    | with_reducible assumption
    | intro _
    | with_reducible apply goOn_goes
    | with_reducible apply ite_goes
    | ((with_reducible apply Moves.by (State.abortHeld_moves _)); case hs => exact rfl)
    | with_reducible apply ite_moves
    | (extract_lets +onlyGivenNames x; apply Moves.cut (m := 268435520) (z := z) x; (case' h => unfold x); (case' k => (clear_value x; intro _)))
    | (extract_lets +onlyGivenNames x; clear_value x)
    | split
    | (rename_i hq; split at hq)
    | (rename_i hq; obtain ⟨_, rfl⟩ := Prod.mk.inj hq)

/-- May change: power, radio, slot, evr, core0, core1, registers of block 0 1 2 11. -/
theorem execAdcSaturation_goes (half : Half) (z : State) : Goes 275817533664 z (execAdcSaturation half z) := by
  unfold execAdcSaturation
  repeat'
    first
    | with_reducible apply Moves.refl
    | with_reducible assumption
    | intro _
    | with_reducible apply goOn_goes
    | with_reducible apply ite_goes
    | ((with_reducible apply Moves.by (State.blankHalf_moves _ _ _)); case hs => exact rfl)
    | ((with_reducible apply Moves.by (State.raise_moves _ _)); case hs => exact rfl)
    | ((with_reducible apply Moves.bump); (case hf => (with_reducible first | apply satField_block | apply RFC_GAIN_A_SAT_COUNT_block | apply RFC_GAIN_B_SAT_COUNT_block)); case hm => exact rfl)
    | with_reducible apply ite_moves
    | (extract_lets +onlyGivenNames x; apply Moves.cut (m := 275817533664) (z := z) x; (case' h => unfold x); (case' k => (clear_value x; intro _)))
    | (extract_lets +onlyGivenNames x; clear_value x)
    | split
    | (rename_i hq; split at hq)
    | (rename_i hq; obtain ⟨_, rfl⟩ := Prod.mk.inj hq)

/-- May change: power, radio, evr, core0, core1, host, boot, registers of block 0 1 11. -/
theorem execProfileWrite_goes (image : List Byte) (z : State) : Goes 275282235488 z (execProfileWrite image z) := by
  unfold execProfileWrite
  repeat'
    first
    | with_reducible apply Moves.refl
    | with_reducible assumption
    | intro _
    | with_reducible apply goOn_goes
    | with_reducible apply ite_goes
    | ((with_reducible apply Moves.by (State.answer_moves _ _)); case hs => exact rfl)
    | ((with_reducible apply Moves.by (State.acceptProfile_moves _ _)); case hs => exact rfl)
    | with_reducible apply ite_moves
    | (extract_lets +onlyGivenNames x; apply Moves.cut (m := 275282235488) (z := z) x; (case' h => unfold x); (case' k => (clear_value x; intro _)))
    | (extract_lets +onlyGivenNames x; clear_value x)
    | split
    | (rename_i hq; split at hq)
    | (rename_i hq; obtain ⟨_, rfl⟩ := Prod.mk.inj hq)

/-- May change: mem, power, evr, core0, core1, host, registers of block 0 1 11. -/
theorem execReglockSet_goes (value : Nat) (z : State) : Goes 275281186852 z (execReglockSet value z) := by
  unfold execReglockSet
  repeat'
    first
    | with_reducible apply Moves.refl
    | with_reducible assumption
    | intro _
    | with_reducible apply goOn_goes
    | with_reducible apply ite_goes
    | ((with_reducible apply Moves.by (State.answer_moves _ _)); case hs => exact rfl)
    | ((with_reducible apply Moves.by (State.raise_moves _ _)); case hs => exact rfl)
    | ((with_reducible apply Moves.by (State.setBytes_moves _ _ _)); case hs => exact rfl)
    | ((with_reducible apply Moves.flag); (case hf => (with_reducible apply RFC_REGSTAT_REGLOCK_block)); case hm => exact rfl)
    | with_reducible apply ite_moves
    | (extract_lets +onlyGivenNames x; apply Moves.cut (m := 275281186852) (z := z) x; (case' h => unfold x); (case' k => (clear_value x; intro _)))
    | (extract_lets +onlyGivenNames x; clear_value x)
    | split
    | (rename_i hq; split at hq)
    | (rename_i hq; obtain ⟨_, rfl⟩ := Prod.mk.inj hq)

/-- May change: radio. -/
theorem execDutySecondTick_goes (z : State) : Goes 64 z (execDutySecondTick z) := by
  unfold execDutySecondTick
  repeat'
    first
    | with_reducible apply Moves.refl
    | with_reducible assumption
    | intro _
    | with_reducible apply goOn_goes
    | with_reducible apply ite_goes
    | ((with_reducible apply Moves.by (State.setDuty_moves _ _ _)); case hs => exact rfl)
    | ((with_reducible apply Moves.by (State.with_radio_moves _ _)); case hs => exact rfl)
    | rw [State.with_radio_eq]
    | with_reducible apply foldl_moves
    | (extract_lets +onlyGivenNames x; apply Moves.cut (m := 64) (z := z) x; (case' h => unfold x); (case' k => (clear_value x; intro _)))
    | (extract_lets +onlyGivenNames x; clear_value x)
    | split
    | (rename_i hq; split at hq)
    | (rename_i hq; obtain ⟨_, rfl⟩ := Prod.mk.inj hq)

end Sys2Proof.Machine
end

