-- ==== Sys2Proof/Laws/MemOps.lean ====
section
/-! SUPPORT. What the operations of Machine/MemOps.lean may change. -/
set_option linter.all false
namespace Sys2Proof.Machine

set_option linter.tactic.unusedName false

/-- May change: flash. -/
theorem State.setFlash_moves (z : State) (f : Flash) : Moves 16384 z (State.setFlash z f) := by
  unfold State.setFlash
  repeat'
    first
    | with_reducible apply Moves.refl
    | with_reducible assumption
    | intro _
    | ((with_reducible apply Moves.by (State.with_flash_moves _ _)); case hs => exact rfl)
    | rw [State.with_flash_eq]
    | with_reducible apply ite_moves
    | (extract_lets +onlyGivenNames x; apply Moves.cut (m := 16384) (z := z) x; (case' h => unfold x); (case' k => (clear_value x; intro _)))
    | (extract_lets +onlyGivenNames x; clear_value x)
    | split
    | (rename_i hq; split at hq)
    | (rename_i hq; obtain ⟨_, rfl⟩ := Prod.mk.inj hq)

/-- May change: free. -/
theorem State.drawFree_moves (z : State) : Moves 16777216 z (State.drawFree z).2 := by
  unfold State.drawFree
  repeat'
    first
    | with_reducible apply Moves.refl
    | with_reducible assumption
    | intro _
    | ((with_reducible apply Moves.by (State.with_free_moves _ _)); case hs => exact rfl)
    | rw [State.with_free_eq]
    | with_reducible apply ite_moves
    | with_reducible apply ite_snd_moves
    | (extract_lets +onlyGivenNames x; apply Moves.cut (m := 16777216) (z := z) x; (case' h => unfold x); (case' k => (clear_value x; intro _)))
    | (extract_lets +onlyGivenNames x; clear_value x)
    | split
    | (rename_i hq; split at hq)
    | (rename_i hq; obtain ⟨_, rfl⟩ := Prod.mk.inj hq)

theorem State.drawFree_pair {z : State} {b1 : Nat} {u0 : State} {m0 : Nat} {r0 : State} (hp : State.drawFree z = (b1, u0)) (hs : sub 16777216 m0 = true) (h : Moves m0 r0 z) : Moves m0 r0 u0 := by
  have g := State.drawFree_moves z
  rw [hp] at g
  exact h.step g hs

/-- May change: free. -/
theorem State.freeBytes_moves (z : State) (n : Nat) : Moves 16777216 z (State.freeBytes z n).2 := by
  unfold State.freeBytes
  repeat'
    first
    | with_reducible apply Moves.refl
    | with_reducible assumption
    | intro _
    | ((with_reducible apply Moves.by (State.with_free_moves _ _)); case hs => exact rfl)
    | rw [State.with_free_eq]
    | with_reducible apply ite_moves
    | with_reducible apply ite_snd_moves
    | (extract_lets +onlyGivenNames x; apply Moves.cut (m := 16777216) (z := z) x; (case' h => unfold x); (case' k => (clear_value x; intro _)))
    | (extract_lets +onlyGivenNames x; clear_value x)
    | split
    | (rename_i hq; split at hq)
    | (rename_i hq; obtain ⟨_, rfl⟩ := Prod.mk.inj hq)

theorem State.freeBytes_pair {z : State} {n : Nat} {b1 : List Byte} {u0 : State} {m0 : Nat} {r0 : State} (hp : State.freeBytes z n = (b1, u0)) (hs : sub 16777216 m0 = true) (h : Moves m0 r0 z) : Moves m0 r0 u0 := by
  have g := State.freeBytes_moves z n
  rw [hp] at g
  exact h.step g hs

/-- May change: memctl. -/
theorem State.setTag_moves (z : State) (a : Nat) (t : Tag) : Moves 8192 z (State.setTag z a t) := by
  unfold State.setTag
  repeat'
    first
    | with_reducible apply Moves.refl
    | with_reducible assumption
    | intro _
    | ((with_reducible apply Moves.by (State.with_memctl_moves _ _)); case hs => exact rfl)
    | rw [State.with_memctl_eq]
    | with_reducible apply ite_moves
    | (extract_lets +onlyGivenNames x; apply Moves.cut (m := 8192) (z := z) x; (case' h => unfold x); (case' k => (clear_value x; intro _)))
    | (extract_lets +onlyGivenNames x; clear_value x)
    | split
    | (rename_i hq; split at hq)
    | (rename_i hq; obtain ⟨_, rfl⟩ := Prod.mk.inj hq)

/-- May change: mem, poison, faults, power, evr, memctl, core0, core1, registers of block 0 11 12 18. -/
theorem State.poisonWord_moves (z : State) (a : Nat) (mask : Nat) (scrub : Bool) : Moves 36009140138044 z (State.poisonWord z a mask scrub) := by
  unfold State.poisonWord
  repeat'
    first
    | with_reducible apply Moves.refl
    | with_reducible assumption
    | intro _
    | ((with_reducible apply Moves.by (State.poisonWrite_moves _ _)); case hs => exact rfl)
    | ((with_reducible apply Moves.by (State.setTag_moves _ _ _)); case hs => exact rfl)
    | ((with_reducible apply Moves.by (State.report_moves _ _ _ _ _ _)); case hs => exact rfl)
    | ((with_reducible apply Moves.by (State.raise_moves _ _)); case hs => exact rfl)
    | ((with_reducible apply Moves.by (State.setBytes_moves _ _ _)); case hs => exact rfl)
    | ((with_reducible apply Moves.bump); (case hf => (with_reducible apply MEM_STATUS_POISON_CNT_block)); case hm => exact rfl)
    | with_reducible apply ite_moves
    | (extract_lets +onlyGivenNames x; apply Moves.cut (m := 36009140138044) (z := z) x; (case' h => unfold x); (case' k => (clear_value x; intro _)))
    | (extract_lets +onlyGivenNames x; clear_value x)
    | split
    | (rename_i hq; split at hq)
    | (rename_i hq; obtain ⟨_, rfl⟩ := Prod.mk.inj hq)

/-- May change: mem, poison, faults, power, evr, memctl, core0, core1, registers of block 0 11 12 18. -/
theorem State.parityCheck_moves (z : State) (a : Nat) (mask : Nat) : Moves 36009140138044 z (State.parityCheck z a mask) := by
  unfold State.parityCheck
  repeat'
    first
    | with_reducible apply Moves.refl
    | with_reducible assumption
    | intro _
    | ((with_reducible apply Moves.by (State.poisonWord_moves _ _ _ _)); case hs => exact rfl)
    | with_reducible apply ite_moves
    | (extract_lets +onlyGivenNames x; apply Moves.cut (m := 36009140138044) (z := z) x; (case' h => unfold x); (case' k => (clear_value x; intro _)))
    | (extract_lets +onlyGivenNames x; clear_value x)
    | split
    | (rename_i hq; split at hq)
    | (rename_i hq; obtain ⟨_, rfl⟩ := Prod.mk.inj hq)

/-- May change: flash. -/
theorem State.setBank_moves (z : State) (k : Nat) (b : FlashBank) : Moves 16384 z (State.setBank z k b) := by
  unfold State.setBank
  repeat'
    first
    | with_reducible apply Moves.refl
    | with_reducible assumption
    | intro _
    | ((with_reducible apply Moves.by (State.setFlash_moves _ _)); case hs => exact rfl)
    | with_reducible apply ite_moves
    | (extract_lets +onlyGivenNames x; apply Moves.cut (m := 16384) (z := z) x; (case' h => unfold x); (case' k => (clear_value x; intro _)))
    | (extract_lets +onlyGivenNames x; clear_value x)
    | split
    | (rename_i hq; split at hq)
    | (rename_i hq; obtain ⟨_, rfl⟩ := Prod.mk.inj hq)

/-- May change: mem, flash. -/
theorem State.setPageRaw_moves (z : State) (p : Nat) (raw : List Byte) : Moves 16388 z (State.setPageRaw z p raw) := by
  unfold State.setPageRaw
  repeat'
    first
    | with_reducible apply Moves.refl
    | with_reducible assumption
    | intro _
    | ((with_reducible apply Moves.by (State.setBytes_moves _ _ _)); case hs => exact rfl)
    | ((with_reducible apply Moves.by (State.setFlash_moves _ _)); case hs => exact rfl)
    | with_reducible apply ite_moves
    | with_reducible apply foldl_moves
    | (extract_lets +onlyGivenNames x; apply Moves.cut (m := 16388) (z := z) x; (case' h => unfold x); (case' k => (clear_value x; intro _)))
    | (extract_lets +onlyGivenNames x; clear_value x)
    | split
    | (rename_i hq; split at hq)
    | (rename_i hq; obtain ⟨_, rfl⟩ := Prod.mk.inj hq)

/-- May change: faults, power, evr, core0, core1, registers of block 0 11 12 18. -/
theorem State.reportDecode_moves (z : State) (a : Nat) (d : PageDecode) : Moves 36009140129840 z (State.reportDecode z a d) := by
  unfold State.reportDecode
  repeat'
    first
    | with_reducible apply Moves.refl
    | with_reducible assumption
    | intro _
    | ((with_reducible apply Moves.by (State.report_moves _ _ _ _ _ _)); case hs => exact rfl)
    | ((with_reducible apply Moves.by (State.raise_moves _ _)); case hs => exact rfl)
    | ((with_reducible apply Moves.put); (case hf => (with_reducible first | apply MEM_ECCCNT_ECC_CORR_block | apply MEM_ECCCNT_ECC_UNCORR_block | apply MEM_ECCSTAT_BITS_block | apply MEM_ECCSTAT_PAGE_block | apply MEM_ECCSTAT_REASON_block | apply MEM_ECCSTAT_RESULT_block)); case hm => exact rfl)
    | ((with_reducible apply Moves.flag); (case hf => (with_reducible first | apply MEM_ECCCNT_ECC_CORR_block | apply MEM_ECCCNT_ECC_UNCORR_block | apply MEM_ECCSTAT_BITS_block | apply MEM_ECCSTAT_PAGE_block | apply MEM_ECCSTAT_REASON_block | apply MEM_ECCSTAT_RESULT_block)); case hm => exact rfl)
    | ((with_reducible apply Moves.bump); (case hf => (with_reducible first | apply MEM_ECCCNT_ECC_CORR_block | apply MEM_ECCCNT_ECC_UNCORR_block | apply MEM_ECCSTAT_BITS_block | apply MEM_ECCSTAT_PAGE_block | apply MEM_ECCSTAT_REASON_block | apply MEM_ECCSTAT_RESULT_block)); case hm => exact rfl)
    | with_reducible apply ite_moves
    | (extract_lets +onlyGivenNames x; apply Moves.cut (m := 36009140129840) (z := z) x; (case' h => unfold x); (case' k => (clear_value x; intro _)))
    | (extract_lets +onlyGivenNames x; clear_value x)
    | split
    | (rename_i hq; split at hq)
    | (rename_i hq; obtain ⟨_, rfl⟩ := Prod.mk.inj hq)

end Sys2Proof.Machine
end

