-- ==== Sys2Proof/Laws/LgyOps.lean ====
section
/-! SUPPORT. What the operations of Machine/LgyOps.lean may change. -/
set_option linter.all false
namespace Sys2Proof.Machine

set_option linter.tactic.unusedName false

/-- May change: lgy. -/
theorem State.settleNirq_moves (z : State) : Moves 131072 z (State.settleNirq z) := by
  unfold State.settleNirq
  repeat'
    first
    | with_reducible apply Moves.refl
    | with_reducible assumption
    | intro _
    | ((with_reducible apply Moves.by (State.with_lgy_moves _ _)); case hs => exact rfl)
    | rw [State.with_lgy_eq]
    | with_reducible apply ite_moves
    | (extract_lets +onlyGivenNames x; apply Moves.cut (m := 131072) (z := z) x; (case' h => unfold x); (case' k => (clear_value x; intro _)))
    | (extract_lets +onlyGivenNames x; clear_value x)
    | split
    | (rename_i hq; split at hq)
    | (rename_i hq; obtain ⟨_, rfl⟩ := Prod.mk.inj hq)

/-- May change: lgy, registers of block 15. -/
theorem State.lgyTake_moves (z : State) (n : Nat) : Moves 4398046642176 z (State.lgyTake z n) := by
  unfold State.lgyTake
  repeat'
    first
    | with_reducible apply Moves.refl
    | with_reducible assumption
    | intro _
    | ((with_reducible apply Moves.by (State.lgyFlag_moves _ _)); case hs => exact rfl)
    | ((with_reducible apply Moves.by (State.with_lgy_moves _ _)); case hs => exact rfl)
    | rw [State.with_lgy_eq]
    | with_reducible apply ite_moves
    | (extract_lets +onlyGivenNames x; apply Moves.cut (m := 4398046642176) (z := z) x; (case' h => unfold x); (case' k => (clear_value x; intro _)))
    | (extract_lets +onlyGivenNames x; clear_value x)
    | split
    | (rename_i hq; split at hq)
    | (rename_i hq; obtain ⟨_, rfl⟩ := Prod.mk.inj hq)

/-- May change: lgy. -/
theorem State.lgyDrop_moves (z : State) : Moves 131072 z (State.lgyDrop z) := by
  unfold State.lgyDrop
  repeat'
    first
    | with_reducible apply Moves.refl
    | with_reducible assumption
    | intro _
    | ((with_reducible apply Moves.by (State.with_lgy_moves _ _)); case hs => exact rfl)
    | rw [State.with_lgy_eq]
    | with_reducible apply ite_moves
    | (extract_lets +onlyGivenNames x; apply Moves.cut (m := 131072) (z := z) x; (case' h => unfold x); (case' k => (clear_value x; intro _)))
    | (extract_lets +onlyGivenNames x; clear_value x)
    | split
    | (rename_i hq; split at hq)
    | (rename_i hq; obtain ⟨_, rfl⟩ := Prod.mk.inj hq)

/-- May change: lgy. -/
theorem State.lgyBack_moves (z : State) (u : TxUnit) : Moves 131072 z (State.lgyBack z u) := by
  unfold State.lgyBack
  repeat'
    first
    | with_reducible apply Moves.refl
    | with_reducible assumption
    | intro _
    | ((with_reducible apply Moves.by (State.with_lgy_moves _ _)); case hs => exact rfl)
    | rw [State.with_lgy_eq]
    | with_reducible apply ite_moves
    | (extract_lets +onlyGivenNames x; apply Moves.cut (m := 131072) (z := z) x; (case' h => unfold x); (case' k => (clear_value x; intro _)))
    | (extract_lets +onlyGivenNames x; clear_value x)
    | split
    | (rename_i hq; split at hq)
    | (rename_i hq; obtain ⟨_, rfl⟩ := Prod.mk.inj hq)

/-- May change: lgy, registers of block 15. -/
theorem State.lgyEnded_moves (z : State) (u : TxUnit) (status : Nat) : Moves 4398046642176 z (State.lgyEnded z u status) := by
  unfold State.lgyEnded
  repeat'
    first
    | with_reducible apply Moves.refl
    | with_reducible assumption
    | intro _
    | ((with_reducible apply Moves.by (State.lgyDrop_moves _)); case hs => exact rfl)
    | ((with_reducible apply Moves.by (State.lgyBack_moves _ _)); case hs => exact rfl)
    | ((with_reducible apply Moves.by (State.lgyFlag_moves _ _)); case hs => exact rfl)
    | with_reducible apply ite_moves
    | (extract_lets +onlyGivenNames x; apply Moves.cut (m := 4398046642176) (z := z) x; (case' h => unfold x); (case' k => (clear_value x; intro _)))
    | (extract_lets +onlyGivenNames x; clear_value x)
    | split
    | (rename_i hq; split at hq)
    | (rename_i hq; obtain ⟨_, rfl⟩ := Prod.mk.inj hq)

end Sys2Proof.Machine
end

