-- ==== Sys2Proof/Laws/SlotOps.lean ====
section
/-! SUPPORT. What the operations of Machine/SlotOps.lean may change. -/
set_option linter.all false
namespace Sys2Proof.Machine

set_option linter.tactic.unusedName false

/-- May change: mem. -/
theorem State.setCtx_moves (z : State) (i : Nat) (off : Nat) (n : Nat) (v : Nat) : Moves 4 z (State.setCtx z i off n v) := by
  unfold State.setCtx
  repeat'
    first
    | with_reducible apply Moves.refl
    | with_reducible assumption
    | intro _
    | ((with_reducible apply Moves.by (State.setNum_moves _ _ _ _)); case hs => exact rfl)
    | with_reducible apply ite_moves
    | (extract_lets +onlyGivenNames x; apply Moves.cut (m := 4) (z := z) x; (case' h => unfold x); (case' k => (clear_value x; intro _)))
    | (extract_lets +onlyGivenNames x; clear_value x)
    | split
    | (rename_i hq; split at hq)
    | (rename_i hq; obtain ⟨_, rfl⟩ := Prod.mk.inj hq)

/-- May change: mem. -/
theorem State.setCtxFlag_moves (z : State) (i : Nat) (b : Nat) : Moves 4 z (State.setCtxFlag z i b) := by
  unfold State.setCtxFlag
  repeat'
    first
    | with_reducible apply Moves.refl
    | with_reducible assumption
    | intro _
    | ((with_reducible apply Moves.by (State.setCtx_moves _ _ _ _ _)); case hs => exact rfl)
    | with_reducible apply ite_moves
    | (extract_lets +onlyGivenNames x; apply Moves.cut (m := 4) (z := z) x; (case' h => unfold x); (case' k => (clear_value x; intro _)))
    | (extract_lets +onlyGivenNames x; clear_value x)
    | split
    | (rename_i hq; split at hq)
    | (rename_i hq; obtain ⟨_, rfl⟩ := Prod.mk.inj hq)

/-- May change: mem. -/
theorem State.ctxBump_moves (z : State) (i : Nat) (off : Nat) : Moves 4 z (State.ctxBump z i off) := by
  unfold State.ctxBump
  repeat'
    first
    | with_reducible apply Moves.refl
    | with_reducible assumption
    | intro _
    | ((with_reducible apply Moves.by (State.setCtx_moves _ _ _ _ _)); case hs => exact rfl)
    | with_reducible apply ite_moves
    | (extract_lets +onlyGivenNames x; apply Moves.cut (m := 4) (z := z) x; (case' h => unfold x); (case' k => (clear_value x; intro _)))
    | (extract_lets +onlyGivenNames x; clear_value x)
    | split
    | (rename_i hq; split at hq)
    | (rename_i hq; obtain ⟨_, rfl⟩ := Prod.mk.inj hq)

/-- May change: mem. -/
theorem State.setMiss_moves (z : State) (i : Nat) (v : Nat) : Moves 4 z (State.setMiss z i v) := by
  unfold State.setMiss
  repeat'
    first
    | with_reducible apply Moves.refl
    | with_reducible assumption
    | intro _
    | ((with_reducible apply Moves.by (State.setCtx_moves _ _ _ _ _)); case hs => exact rfl)
    | with_reducible apply ite_moves
    | (extract_lets +onlyGivenNames x; apply Moves.cut (m := 4) (z := z) x; (case' h => unfold x); (case' k => (clear_value x; intro _)))
    | (extract_lets +onlyGivenNames x; clear_value x)
    | split
    | (rename_i hq; split at hq)
    | (rename_i hq; obtain ⟨_, rfl⟩ := Prod.mk.inj hq)

/-- May change: mem. -/
theorem State.missMore_moves (z : State) (i : Nat) : Moves 4 z (State.missMore z i) := by
  unfold State.missMore
  repeat'
    first
    | with_reducible apply Moves.refl
    | with_reducible assumption
    | intro _
    | ((with_reducible apply Moves.by (State.setMiss_moves _ _ _)); case hs => exact rfl)
    | with_reducible apply ite_moves
    | (extract_lets +onlyGivenNames x; apply Moves.cut (m := 4) (z := z) x; (case' h => unfold x); (case' k => (clear_value x; intro _)))
    | (extract_lets +onlyGivenNames x; clear_value x)
    | split
    | (rename_i hq; split at hq)
    | (rename_i hq; obtain ⟨_, rfl⟩ := Prod.mk.inj hq)

/-- May change: mem. -/
theorem State.setDesc_moves (z : State) (i : Nat) (off : Nat) (n : Nat) (v : Nat) : Moves 4 z (State.setDesc z i off n v) := by
  unfold State.setDesc
  repeat'
    first
    | with_reducible apply Moves.refl
    | with_reducible assumption
    | intro _
    | ((with_reducible apply Moves.by (State.setNum_moves _ _ _ _)); case hs => exact rfl)
    | with_reducible apply ite_moves
    | (extract_lets +onlyGivenNames x; apply Moves.cut (m := 4) (z := z) x; (case' h => unfold x); (case' k => (clear_value x; intro _)))
    | (extract_lets +onlyGivenNames x; clear_value x)
    | split
    | (rename_i hq; split at hq)
    | (rename_i hq; obtain ⟨_, rfl⟩ := Prod.mk.inj hq)

/-- May change: mem, power, mac, evr, core0, core1, registers of block 0 5 11. -/
theorem State.txDone_moves (z : State) (i : Nat) (status : Nat) : Moves 279307194660 z (State.txDone z i status) := by
  unfold State.txDone
  repeat'
    first
    | with_reducible apply Moves.refl
    | with_reducible assumption
    | intro _
    | ((with_reducible apply Moves.by (State.setDesc_moves _ _ _ _ _)); case hs => exact rfl)
    | ((with_reducible apply Moves.by (State.raise_moves _ _)); case hs => exact rfl)
    | ((with_reducible apply Moves.by (State.with_mac_moves _ _)); case hs => exact rfl)
    | rw [State.with_mac_eq]
    | ((with_reducible apply Moves.bump); (case hf => (with_reducible apply MAC_TXDONE_LOST_block)); case hm => exact rfl)
    | with_reducible apply ite_moves
    | (extract_lets +onlyGivenNames x; apply Moves.cut (m := 279307194660) (z := z) x; (case' h => unfold x); (case' k => (clear_value x; intro _)))
    | (extract_lets +onlyGivenNames x; clear_value x)
    | split
    | (rename_i hq; split at hq)
    | (rename_i hq; obtain ⟨_, rfl⟩ := Prod.mk.inj hq)

/-- May change: mac. -/
theorem State.dequeueEntry_moves (z : State) (i : Nat) : Moves 256 z (State.dequeueEntry z i) := by
  unfold State.dequeueEntry
  repeat'
    first
    | with_reducible apply Moves.refl
    | with_reducible assumption
    | intro _
    | ((with_reducible apply Moves.by (State.with_mac_moves _ _)); case hs => exact rfl)
    | rw [State.with_mac_eq]
    | with_reducible apply ite_moves
    | (extract_lets +onlyGivenNames x; apply Moves.cut (m := 256) (z := z) x; (case' h => unfold x); (case' k => (clear_value x; intro _)))
    | (extract_lets +onlyGivenNames x; clear_value x)
    | split
    | (rename_i hq; split at hq)
    | (rename_i hq; obtain ⟨_, rfl⟩ := Prod.mk.inj hq)

/-- May change: mem. -/
theorem State.setPending_moves (z : State) (c : Nat) (n : Nat) : Moves 4 z (State.setPending z c n) := by
  unfold State.setPending
  repeat'
    first
    | with_reducible apply Moves.refl
    | with_reducible assumption
    | intro _
    | ((with_reducible apply Moves.by (State.setCtx_moves _ _ _ _ _)); case hs => exact rfl)
    | with_reducible apply ite_moves
    | (extract_lets +onlyGivenNames x; apply Moves.cut (m := 4) (z := z) x; (case' h => unfold x); (case' k => (clear_value x; intro _)))
    | (extract_lets +onlyGivenNames x; clear_value x)
    | split
    | (rename_i hq; split at hq)
    | (rename_i hq; obtain ⟨_, rfl⟩ := Prod.mk.inj hq)

/-- May change: mem, mac. -/
theorem State.dropPending_moves (z : State) (i : Nat) : Moves 260 z (State.dropPending z i) := by
  unfold State.dropPending
  repeat'
    first
    | with_reducible apply Moves.refl
    | with_reducible assumption
    | intro _
    | ((with_reducible apply Moves.by (State.setPending_moves _ _ _)); case hs => exact rfl)
    | ((with_reducible apply Moves.by (State.with_mac_moves _ _)); case hs => exact rfl)
    | rw [State.with_mac_eq]
    | with_reducible apply ite_moves
    | (extract_lets +onlyGivenNames x; apply Moves.cut (m := 260) (z := z) x; (case' h => unfold x); (case' k => (clear_value x; intro _)))
    | (extract_lets +onlyGivenNames x; clear_value x)
    | split
    | (rename_i hq; split at hq)
    | (rename_i hq; obtain ⟨_, rfl⟩ := Prod.mk.inj hq)

/-- May change: mem, power, mac, evr, core0, core1, registers of block 0 5 11. -/
theorem State.finishDesc_moves (z : State) (i : Nat) (status : Nat) : Moves 279307194660 z (State.finishDesc z i status) := by
  unfold State.finishDesc
  repeat'
    first
    | with_reducible apply Moves.refl
    | with_reducible assumption
    | intro _
    | ((with_reducible apply Moves.by (State.dropPending_moves _ _)); case hs => exact rfl)
    | ((with_reducible apply Moves.by (State.dequeueEntry_moves _ _)); case hs => exact rfl)
    | ((with_reducible apply Moves.by (State.txDone_moves _ _ _)); case hs => exact rfl)
    | with_reducible apply ite_moves
    | (extract_lets +onlyGivenNames x; apply Moves.cut (m := 279307194660) (z := z) x; (case' h => unfold x); (case' k => (clear_value x; intro _)))
    | (extract_lets +onlyGivenNames x; clear_value x)
    | split
    | (rename_i hq; split at hq)
    | (rename_i hq; obtain ⟨_, rfl⟩ := Prod.mk.inj hq)

/-- May change: slot, registers of block 4. -/
theorem State.drop_moves (z : State) (r : DropRec) : Moves 2147483776 z (State.drop z r) := by
  unfold State.drop
  repeat'
    first
    | with_reducible apply Moves.refl
    | with_reducible assumption
    | intro _
    | ((with_reducible apply Moves.by (State.with_slot_moves _ _)); case hs => exact rfl)
    | rw [State.with_slot_eq]
    | ((with_reducible apply Moves.bump); (case hf => (with_reducible apply SLE_DROPSTAT_LOST_block)); case hm => exact rfl)
    | with_reducible apply ite_moves
    | (extract_lets +onlyGivenNames x; apply Moves.cut (m := 2147483776) (z := z) x; (case' h => unfold x); (case' k => (clear_value x; intro _)))
    | (extract_lets +onlyGivenNames x; clear_value x)
    | split
    | (rename_i hq; split at hq)
    | (rename_i hq; obtain ⟨_, rfl⟩ := Prod.mk.inj hq)

/-- May change: slot, registers of block 4. -/
theorem State.accepted_moves (z : State) (st : Nat) : Moves 2147483776 z (State.accepted z st) := by
  unfold State.accepted
  repeat'
    first
    | with_reducible apply Moves.refl
    | with_reducible assumption
    | intro _
    | ((with_reducible apply Moves.by (State.with_slot_moves _ _)); case hs => exact rfl)
    | rw [State.with_slot_eq]
    | ((with_reducible apply Moves.put); (case hf => (with_reducible apply SLE_SPEAK_PEAK_UNITS_block)); case hm => exact rfl)
    | with_reducible apply ite_moves
    | (extract_lets +onlyGivenNames x; apply Moves.cut (m := 2147483776) (z := z) x; (case' h => unfold x); (case' k => (clear_value x; intro _)))
    | (extract_lets +onlyGivenNames x; clear_value x)
    | split
    | (rename_i hq; split at hq)
    | (rename_i hq; obtain ⟨_, rfl⟩ := Prod.mk.inj hq)

/-- May change: registers of block 4. -/
theorem State.handedOn_moves (z : State) (st : Nat) (charge : Nat) : Moves 2147483648 z (State.handedOn z st charge) := by
  unfold State.handedOn
  repeat'
    first
    | with_reducible apply Moves.refl
    | with_reducible assumption
    | intro _
    | ((with_reducible apply Moves.put); (case hf => (with_reducible first | apply SLE_SDONE_DONE_block | apply SLE_SPEAK_PEAK_CHARGE_block)); case hm => exact rfl)
    | ((with_reducible apply Moves.bumpWrap); (case hf => (with_reducible first | apply SLE_SDONE_DONE_block | apply SLE_SPEAK_PEAK_CHARGE_block)); case hm => exact rfl)
    | with_reducible apply ite_moves
    | (extract_lets +onlyGivenNames x; apply Moves.cut (m := 2147483648) (z := z) x; (case' h => unfold x); (case' k => (clear_value x; intro _)))
    | (extract_lets +onlyGivenNames x; clear_value x)
    | split
    | (rename_i hq; split at hq)
    | (rename_i hq; obtain ⟨_, rfl⟩ := Prod.mk.inj hq)

/-- May change: slot. -/
theorem State.setRx_moves (z : State) (u : RxUnit) : Moves 128 z (State.setRx z u) := by
  unfold State.setRx
  repeat'
    first
    | with_reducible apply Moves.refl
    | with_reducible assumption
    | intro _
    | ((with_reducible apply Moves.by (State.with_slot_moves _ _)); case hs => exact rfl)
    | rw [State.with_slot_eq]
    | with_reducible apply ite_moves
    | (extract_lets +onlyGivenNames x; apply Moves.cut (m := 128) (z := z) x; (case' h => unfold x); (case' k => (clear_value x; intro _)))
    | (extract_lets +onlyGivenNames x; clear_value x)
    | split
    | (rename_i hq; split at hq)
    | (rename_i hq; obtain ⟨_, rfl⟩ := Prod.mk.inj hq)

/-- May change: slot. -/
theorem State.setTx_moves (z : State) (u : TxUnit) : Moves 128 z (State.setTx z u) := by
  unfold State.setTx
  repeat'
    first
    | with_reducible apply Moves.refl
    | with_reducible assumption
    | intro _
    | ((with_reducible apply Moves.by (State.with_slot_moves _ _)); case hs => exact rfl)
    | rw [State.with_slot_eq]
    | with_reducible apply ite_moves
    | (extract_lets +onlyGivenNames x; apply Moves.cut (m := 128) (z := z) x; (case' h => unfold x); (case' k => (clear_value x; intro _)))
    | (extract_lets +onlyGivenNames x; clear_value x)
    | split
    | (rename_i hq; split at hq)
    | (rename_i hq; obtain ⟨_, rfl⟩ := Prod.mk.inj hq)

/-- May change: slot. -/
theorem State.removeRx_moves (z : State) (id : Nat) : Moves 128 z (State.removeRx z id) := by
  unfold State.removeRx
  repeat'
    first
    | with_reducible apply Moves.refl
    | with_reducible assumption
    | intro _
    | ((with_reducible apply Moves.by (State.with_slot_moves _ _)); case hs => exact rfl)
    | rw [State.with_slot_eq]
    | with_reducible apply ite_moves
    | (extract_lets +onlyGivenNames x; apply Moves.cut (m := 128) (z := z) x; (case' h => unfold x); (case' k => (clear_value x; intro _)))
    | (extract_lets +onlyGivenNames x; clear_value x)
    | split
    | (rename_i hq; split at hq)
    | (rename_i hq; obtain ⟨_, rfl⟩ := Prod.mk.inj hq)

/-- May change: slot. -/
theorem State.removeTx_moves (z : State) (id : Nat) : Moves 128 z (State.removeTx z id) := by
  unfold State.removeTx
  repeat'
    first
    | with_reducible apply Moves.refl
    | with_reducible assumption
    | intro _
    | ((with_reducible apply Moves.by (State.with_slot_moves _ _)); case hs => exact rfl)
    | rw [State.with_slot_eq]
    | with_reducible apply ite_moves
    | (extract_lets +onlyGivenNames x; apply Moves.cut (m := 128) (z := z) x; (case' h => unfold x); (case' k => (clear_value x; intro _)))
    | (extract_lets +onlyGivenNames x; clear_value x)
    | split
    | (rename_i hq; split at hq)
    | (rename_i hq; obtain ⟨_, rfl⟩ := Prod.mk.inj hq)

/-- May change: slot. -/
theorem State.moveRx_moves (z : State) (u : RxUnit) : Moves 128 z (State.moveRx z u) := by
  unfold State.moveRx
  repeat'
    first
    | with_reducible apply Moves.refl
    | with_reducible assumption
    | intro _
    | ((with_reducible apply Moves.by (State.removeRx_moves _ _)); case hs => exact rfl)
    | ((with_reducible apply Moves.by (State.with_slot_moves _ _)); case hs => exact rfl)
    | rw [State.with_slot_eq]
    | with_reducible apply ite_moves
    | (extract_lets +onlyGivenNames x; apply Moves.cut (m := 128) (z := z) x; (case' h => unfold x); (case' k => (clear_value x; intro _)))
    | (extract_lets +onlyGivenNames x; clear_value x)
    | split
    | (rename_i hq; split at hq)
    | (rename_i hq; obtain ⟨_, rfl⟩ := Prod.mk.inj hq)

/-- May change: slot. -/
theorem State.moveTx_moves (z : State) (u : TxUnit) : Moves 128 z (State.moveTx z u) := by
  unfold State.moveTx
  repeat'
    first
    | with_reducible apply Moves.refl
    | with_reducible assumption
    | intro _
    | ((with_reducible apply Moves.by (State.removeTx_moves _ _)); case hs => exact rfl)
    | ((with_reducible apply Moves.by (State.with_slot_moves _ _)); case hs => exact rfl)
    | rw [State.with_slot_eq]
    | with_reducible apply ite_moves
    | (extract_lets +onlyGivenNames x; apply Moves.cut (m := 128) (z := z) x; (case' h => unfold x); (case' k => (clear_value x; intro _)))
    | (extract_lets +onlyGivenNames x; clear_value x)
    | split
    | (rename_i hq; split at hq)
    | (rename_i hq; obtain ⟨_, rfl⟩ := Prod.mk.inj hq)

/-- May change: slot. -/
theorem State.dropAckOf_moves (z : State) (id : Nat) : Moves 128 z (State.dropAckOf z id) := by
  unfold State.dropAckOf
  repeat'
    first
    | with_reducible apply Moves.refl
    | with_reducible assumption
    | intro _
    | ((with_reducible apply Moves.by (State.with_slot_moves _ _)); case hs => exact rfl)
    | rw [State.with_slot_eq]
    | with_reducible apply ite_moves
    | (extract_lets +onlyGivenNames x; apply Moves.cut (m := 128) (z := z) x; (case' h => unfold x); (case' k => (clear_value x; intro _)))
    | (extract_lets +onlyGivenNames x; clear_value x)
    | split
    | (rename_i hq; split at hq)
    | (rename_i hq; obtain ⟨_, rfl⟩ := Prod.mk.inj hq)

/-- May change: slot. -/
theorem State.endRx_moves (z : State) (u : RxUnit) : Moves 128 z (State.endRx z u) := by
  unfold State.endRx
  repeat'
    first
    | with_reducible apply Moves.refl
    | with_reducible assumption
    | intro _
    | ((with_reducible apply Moves.by (State.dropAckOf_moves _ _)); case hs => exact rfl)
    | ((with_reducible apply Moves.by (State.removeRx_moves _ _)); case hs => exact rfl)
    | ((with_reducible apply Moves.by (State.with_slot_moves _ _)); case hs => exact rfl)
    | rw [State.with_slot_eq]
    | with_reducible apply ite_moves
    | (extract_lets +onlyGivenNames x; apply Moves.cut (m := 128) (z := z) x; (case' h => unfold x); (case' k => (clear_value x; intro _)))
    | (extract_lets +onlyGivenNames x; clear_value x)
    | split
    | (rename_i hq; split at hq)
    | (rename_i hq; obtain ⟨_, rfl⟩ := Prod.mk.inj hq)

/-- May change: mem, power, slot, evr, core0, core1, registers of block 0 4 11. -/
theorem State.lateRx_moves (z : State) (u : RxUnit) (boundary : Bool) : Moves 277159710884 z (State.lateRx z u boundary) := by
  unfold State.lateRx
  repeat'
    first
    | with_reducible apply Moves.refl
    | with_reducible assumption
    | intro _
    | ((with_reducible apply Moves.by (State.ctxBump_moves _ _ _)); case hs => exact rfl)
    | ((with_reducible apply Moves.by (State.endRx_moves _ _)); case hs => exact rfl)
    | ((with_reducible apply Moves.by (State.drop_moves _ _)); case hs => exact rfl)
    | ((with_reducible apply Moves.by (State.raise_moves _ _)); case hs => exact rfl)
    | ((with_reducible apply Moves.bump); (case hf => (with_reducible apply SLE_SLATE_LATE_block)); case hm => exact rfl)
    | with_reducible apply ite_moves
    | (extract_lets +onlyGivenNames x; apply Moves.cut (m := 277159710884) (z := z) x; (case' h => unfold x); (case' k => (clear_value x; intro _)))
    | (extract_lets +onlyGivenNames x; clear_value x)
    | split
    | (rename_i hq; split at hq)
    | (rename_i hq; obtain ⟨_, rfl⟩ := Prod.mk.inj hq)

/-- May change: mem, power, slot, mac, evr, core0, core1, lgy, registers of block 0 5 11 15. -/
theorem State.endTx_moves (z : State) (u : TxUnit) (status : Nat) : Moves 4677353836964 z (State.endTx z u status) := by
  unfold State.endTx
  repeat'
    first
    | with_reducible apply Moves.refl
    | with_reducible assumption
    | intro _
    | ((with_reducible apply Moves.by (State.lgyEnded_moves _ _ _)); case hs => exact rfl)
    | ((with_reducible apply Moves.by (State.setDesc_moves _ _ _ _ _)); case hs => exact rfl)
    | ((with_reducible apply Moves.by (State.finishDesc_moves _ _ _)); case hs => exact rfl)
    | ((with_reducible apply Moves.by (State.removeTx_moves _ _)); case hs => exact rfl)
    | ((with_reducible apply Moves.by (State.with_mac_moves _ _)); case hs => exact rfl)
    | rw [State.with_mac_eq]
    | with_reducible apply ite_moves
    | (extract_lets +onlyGivenNames x; apply Moves.cut (m := 4677353836964) (z := z) x; (case' h => unfold x); (case' k => (clear_value x; intro _)))
    | (extract_lets +onlyGivenNames x; clear_value x)
    | split
    | (rename_i hq; split at hq)
    | (rename_i hq; obtain ⟨_, rfl⟩ := Prod.mk.inj hq)

/-- May change: mem, power, slot, mac, evr, core0, core1, lgy, registers of block 0 4 5 11 15. -/
theorem State.lateTx_moves (z : State) (u : TxUnit) (boundary : Bool) : Moves 4679501320612 z (State.lateTx z u boundary) := by
  unfold State.lateTx
  repeat'
    first
    | with_reducible apply Moves.refl
    | with_reducible assumption
    | intro _
    | ((with_reducible apply Moves.by (State.ctxBump_moves _ _ _)); case hs => exact rfl)
    | ((with_reducible apply Moves.by (State.drop_moves _ _)); case hs => exact rfl)
    | ((with_reducible apply Moves.by (State.endTx_moves _ _ _)); case hs => exact rfl)
    | ((with_reducible apply Moves.by (State.raise_moves _ _)); case hs => exact rfl)
    | ((with_reducible apply Moves.bump); (case hf => (with_reducible apply SLE_SLATE_LATE_block)); case hm => exact rfl)
    | with_reducible apply ite_moves
    | (extract_lets +onlyGivenNames x; apply Moves.cut (m := 4679501320612) (z := z) x; (case' h => unfold x); (case' k => (clear_value x; intro _)))
    | (extract_lets +onlyGivenNames x; clear_value x)
    | split
    | (rename_i hq; split at hq)
    | (rename_i hq; obtain ⟨_, rfl⟩ := Prod.mk.inj hq)

/-- May change: slot. -/
theorem State.setWindow_moves (z : State) (w : RxWindow) : Moves 128 z (State.setWindow z w) := by
  unfold State.setWindow
  repeat'
    first
    | with_reducible apply Moves.refl
    | with_reducible assumption
    | intro _
    | ((with_reducible apply Moves.by (State.with_slot_moves _ _)); case hs => exact rfl)
    | rw [State.with_slot_eq]
    | with_reducible apply ite_moves
    | (extract_lets +onlyGivenNames x; apply Moves.cut (m := 128) (z := z) x; (case' h => unfold x); (case' k => (clear_value x; intro _)))
    | (extract_lets +onlyGivenNames x; clear_value x)
    | split
    | (rename_i hq; split at hq)
    | (rename_i hq; obtain ⟨_, rfl⟩ := Prod.mk.inj hq)

end Sys2Proof.Machine
end

