-- ==== Sys2Proof/Laws/Chan.lean ====
section
/-! SUPPORT. What the operations of Machine/Chan.lean may change. -/
set_option linter.all false
namespace Sys2Proof.Machine

set_option linter.tactic.unusedName false

theorem leakSuppr_block (h : Nat) : (leakSuppr h).inBlock 2 := by unfold leakSuppr; split <;> rfl

theorem rxProfFields_block (p : Nat) : allIn (rxProfFields p) 2 := by
  simp only [allIn, rxProfFields, List.forall_mem_cons, CHZ_PROF_MOD_block, CHZ_PROF_RATE_block, CHZ_PROF_BT_block, CHZ_PROF_HIDX_block, CHZ_PROF_REP_block, CHZ_PROF_SFDG_block, CHZ_PROF_FEC_EN_block, CHZ_PROF_LEG_EN_block, CHZ_PROF_NAT_EN_block, CHZ_PROF_MAXLEN_block]; simp

/-- May change: radio. -/
theorem State.laneProfChanged_moves (z : State) (i : Nat) : Moves 64 z (State.laneProfChanged z i) := by
  unfold State.laneProfChanged
  repeat'
    first
    | with_reducible apply Moves.refl
    | with_reducible assumption
    | intro _
    | ((with_reducible apply Moves.by (State.setLane_moves _ _ _)); case hs => exact rfl)
    | ((with_reducible apply Moves.by (State.refreshProfile_moves _ _)); case hs => exact rfl)
    | with_reducible apply ite_moves
    | (extract_lets +onlyGivenNames x; apply Moves.cut (m := 64) (z := z) x; (case' h => unfold x); (case' k => (clear_value x; intro _)))
    | (extract_lets +onlyGivenNames x; clear_value x)
    | split
    | (rename_i hq; split at hq)
    | (rename_i hq; obtain ⟨_, rfl⟩ := Prod.mk.inj hq)

/-- May change: radio, registers of block 2. -/
theorem execRxProfileWrite_goes (index : Fin 4) (value : Word) (z : State) : Goes 536870976 z (execRxProfileWrite index value z) := by
  unfold execRxProfileWrite
  repeat'
    first
    | with_reducible apply Moves.refl
    | with_reducible assumption
    | intro _
    | with_reducible apply goOn_goes
    | with_reducible apply ite_goes
    | ((with_reducible apply Moves.by (State.laneProfChanged_moves _ _)); case hs => exact rfl)
    | ((with_reducible apply Moves.loadFields (rxProfFields_block _)); case hm => exact rfl)
    | ((with_reducible apply Moves.flag); (case hf => (with_reducible first | apply CHZ_PROF_BT_block | apply CHZ_PROF_FEC_EN_block | apply CHZ_PROF_HIDX_block | apply CHZ_PROF_LEG_EN_block | apply CHZ_PROF_MAXLEN_block | apply CHZ_PROF_MOD_block | apply CHZ_PROF_NAT_EN_block | apply CHZ_PROF_RATE_block | apply CHZ_PROF_REP_block | apply CHZ_PROF_SFDG_block | apply CHZ_STATUS_PROF_ERR_block)); case hm => exact rfl)
    | with_reducible apply ite_moves
    | with_reducible apply foldl_moves
    | (extract_lets +onlyGivenNames x; apply Moves.cut (m := 536870976) (z := z) x; (case' h => unfold x); (case' k => (clear_value x; intro _)))
    | (extract_lets +onlyGivenNames x; clear_value x)
    | split
    | (rename_i hq; split at hq)
    | (rename_i hq; obtain ⟨_, rfl⟩ := Prod.mk.inj hq)

/-- May change: radio, slot, registers of block 1 2. -/
theorem State.retune_moves (z : State) (h : Nat) : Moves 805306560 z (State.retune z h) := by
  unfold State.retune
  repeat'
    first
    | with_reducible apply Moves.refl
    | with_reducible assumption
    | intro _
    | ((with_reducible apply Moves.by (State.blankHalf_moves _ _ _)); case hs => exact rfl)
    | with_reducible apply ite_moves
    | (extract_lets +onlyGivenNames x; apply Moves.cut (m := 805306560) (z := z) x; (case' h => unfold x); (case' k => (clear_value x; intro _)))
    | (extract_lets +onlyGivenNames x; clear_value x)
    | split
    | (rename_i hq; split at hq)
    | (rename_i hq; obtain ⟨_, rfl⟩ := Prod.mk.inj hq)

/-- May change: radio, slot, registers of block 1 2. -/
theorem State.takeTwin_moves (z : State) (b : Bool) : Moves 805306560 z (State.takeTwin z b) := by
  unfold State.takeTwin
  repeat'
    first
    | with_reducible apply Moves.refl
    | with_reducible assumption
    | intro _
    | ((with_reducible apply Moves.by (State.mapChanged_moves _)); case hs => exact rfl)
    | ((with_reducible apply Moves.by (State.laneProfChanged_moves _ _)); case hs => exact rfl)
    | ((with_reducible apply Moves.by (State.retune_moves _ _)); case hs => exact rfl)
    | ((with_reducible apply Moves.flag); (case hf => (with_reducible apply CHZ_STATUS_TWIN_ACTIVE_block)); case hm => exact rfl)
    | with_reducible apply ite_moves
    | with_reducible apply foldl_moves
    | (extract_lets +onlyGivenNames x; apply Moves.cut (m := 805306560) (z := z) x; (case' h => unfold x); (case' k => (clear_value x; intro _)))
    | (extract_lets +onlyGivenNames x; clear_value x)
    | split
    | (rename_i hq; split at hq)
    | (rename_i hq; obtain ⟨_, rfl⟩ := Prod.mk.inj hq)

/-- May change: radio, slot, registers of block 1 2. -/
theorem State.writeTwin_moves (z : State) (en : Bool) : Moves 805306560 z (State.writeTwin z en) := by
  unfold State.writeTwin
  repeat'
    first
    | with_reducible apply Moves.refl
    | with_reducible assumption
    | intro _
    | ((with_reducible apply Moves.by (State.takeTwin_moves _ _)); case hs => exact rfl)
    | ((with_reducible apply Moves.by (State.with_radio_moves _ _)); case hs => exact rfl)
    | rw [State.with_radio_eq]
    | ((with_reducible apply Moves.flag); (case hf => (with_reducible first | apply CHZ_CTRL_TWIN_EN_block | apply CHZ_STATUS_TWIN_REJ_block)); case hm => exact rfl)
    | with_reducible apply ite_moves
    | (extract_lets +onlyGivenNames x; apply Moves.cut (m := 805306560) (z := z) x; (case' h => unfold x); (case' k => (clear_value x; intro _)))
    | (extract_lets +onlyGivenNames x; clear_value x)
    | split
    | (rename_i hq; split at hq)
    | (rename_i hq; obtain ⟨_, rfl⟩ := Prod.mk.inj hq)

/-- May change: radio, slot, registers of block 1 2. -/
theorem execTwinEnWrite_goes (en : Bool) (z : State) : Goes 805306560 z (execTwinEnWrite en z) := by
  unfold execTwinEnWrite
  repeat'
    first
    | with_reducible apply Moves.refl
    | with_reducible assumption
    | intro _
    | with_reducible apply goOn_goes
    | with_reducible apply ite_goes
    | ((with_reducible apply Moves.by (State.writeTwin_moves _ _)); case hs => exact rfl)
    | (extract_lets +onlyGivenNames x; apply Moves.cut (m := 805306560) (z := z) x; (case' h => unfold x); (case' k => (clear_value x; intro _)))
    | (extract_lets +onlyGivenNames x; clear_value x)
    | split
    | (rename_i hq; split at hq)
    | (rename_i hq; obtain ⟨_, rfl⟩ := Prod.mk.inj hq)

/-- May change: radio, registers of block 2. -/
theorem State.installMap_moves (z : State) : Moves 536870976 z (State.installMap z) := by
  unfold State.installMap
  repeat'
    first
    | with_reducible apply Moves.refl
    | with_reducible assumption
    | intro _
    | ((with_reducible apply Moves.by (State.setNcos_moves _ _)); case hs => exact rfl)
    | ((with_reducible apply Moves.by (State.with_radio_moves _ _)); case hs => exact rfl)
    | rw [State.with_radio_eq]
    | with_reducible apply ite_moves
    | (extract_lets +onlyGivenNames x; apply Moves.cut (m := 536870976) (z := z) x; (case' h => unfold x); (case' k => (clear_value x; intro _)))
    | (extract_lets +onlyGivenNames x; clear_value x)
    | split
    | (rename_i hq; split at hq)
    | (rename_i hq; obtain ⟨_, rfl⟩ := Prod.mk.inj hq)

/-- May change: radio, registers of block 2. -/
theorem execChannelMapRebuild_goes (z : State) : Goes 536870976 z (execChannelMapRebuild z) := by
  unfold execChannelMapRebuild
  repeat'
    first
    | with_reducible apply Moves.refl
    | with_reducible assumption
    | intro _
    | with_reducible apply goOn_goes
    | with_reducible apply ite_goes
    | ((with_reducible apply Moves.by (State.installMap_moves _)); case hs => exact rfl)
    | ((with_reducible apply Moves.by (State.with_radio_moves _ _)); case hs => exact rfl)
    | rw [State.with_radio_eq]
    | ((with_reducible apply Moves.flag); (case hf => (with_reducible apply CHZ_STATUS_MAP_BUSY_block)); case hm => exact rfl)
    | with_reducible apply ite_moves
    | (extract_lets +onlyGivenNames x; apply Moves.cut (m := 536870976) (z := z) x; (case' h => unfold x); (case' k => (clear_value x; intro _)))
    | (extract_lets +onlyGivenNames x; clear_value x)
    | split
    | (rename_i hq; split at hq)
    | (rename_i hq; obtain ⟨_, rfl⟩ := Prod.mk.inj hq)

/-- May change: radio, registers of block 2. -/
theorem State.openLane_moves (frames : Nat) (z : State) (i : Nat) : Moves 536870976 z (State.openLane frames z i) := by
  unfold State.openLane
  repeat'
    first
    | with_reducible apply Moves.refl
    | with_reducible assumption
    | intro _
    | ((with_reducible apply Moves.by (State.setLane_moves _ _ _)); case hs => exact rfl)
    | ((with_reducible apply Moves.by (State.refreshProfile_moves _ _)); case hs => exact rfl)
    | ((with_reducible apply Moves.put); (case hf => (with_reducible apply CHZ_LSTAT_STATE_block)); case hm => exact rfl)
    | with_reducible apply ite_moves
    | (extract_lets +onlyGivenNames x; apply Moves.cut (m := 536870976) (z := z) x; (case' h => unfold x); (case' k => (clear_value x; intro _)))
    | (extract_lets +onlyGivenNames x; clear_value x)
    | split
    | (rename_i hq; split at hq)
    | (rename_i hq; obtain ⟨_, rfl⟩ := Prod.mk.inj hq)

/-- May change: radio, slot, registers of block 2. -/
theorem execRxWindowOpen_goes (lane : Fin 128) (z : State) : Goes 536871104 z (execRxWindowOpen lane z) := by
  unfold execRxWindowOpen
  repeat'
    first
    | with_reducible apply Moves.refl
    | with_reducible assumption
    | intro _
    | with_reducible apply goOn_goes
    | with_reducible apply ite_goes
    | ((with_reducible apply Moves.by (State.setWindow_moves _ _)); case hs => exact rfl)
    | ((with_reducible apply Moves.by (State.openLane_moves _ _ _)); case hs => exact rfl)
    | ((with_reducible apply Moves.by (State.with_slot_moves _ _)); case hs => exact rfl)
    | rw [State.with_slot_eq]
    | ((with_reducible apply Moves.bump); (case hf => (with_reducible apply CHZ_STATUS_UNMAPPED_block)); case hm => exact rfl)
    | with_reducible apply ite_moves
    | with_reducible apply foldl_moves
    | (extract_lets +onlyGivenNames x; apply Moves.cut (m := 536871104) (z := z) x; (case' h => unfold x); (case' k => (clear_value x; intro _)))
    | (extract_lets +onlyGivenNames x; clear_value x)
    | split
    | (rename_i hq; split at hq)
    | (rename_i hq; obtain ⟨_, rfl⟩ := Prod.mk.inj hq)

/-- May change: radio, registers of block 2. -/
theorem State.closeLane_moves (z : State) (i : Nat) : Moves 536870976 z (State.closeLane z i) := by
  unfold State.closeLane
  repeat'
    first
    | with_reducible apply Moves.refl
    | with_reducible assumption
    | intro _
    | ((with_reducible apply Moves.by (State.setLane_moves _ _ _)); case hs => exact rfl)
    | ((with_reducible apply Moves.by (State.restLane_moves _ _)); case hs => exact rfl)
    | with_reducible apply ite_moves
    | (extract_lets +onlyGivenNames x; apply Moves.cut (m := 536870976) (z := z) x; (case' h => unfold x); (case' k => (clear_value x; intro _)))
    | (extract_lets +onlyGivenNames x; clear_value x)
    | split
    | (rename_i hq; split at hq)
    | (rename_i hq; obtain ⟨_, rfl⟩ := Prod.mk.inj hq)

/-- May change: radio. -/
theorem State.halfReturn_moves (z : State) (h : Nat) : Moves 64 z (State.halfReturn z h) := by
  unfold State.halfReturn
  repeat'
    first
    | with_reducible apply Moves.refl
    | with_reducible assumption
    | intro _
    | ((with_reducible apply Moves.by (State.setPath_moves _ _ _)); case hs => exact rfl)
    | with_reducible apply ite_moves
    | (extract_lets +onlyGivenNames x; apply Moves.cut (m := 64) (z := z) x; (case' h => unfold x); (case' k => (clear_value x; intro _)))
    | (extract_lets +onlyGivenNames x; clear_value x)
    | split
    | (rename_i hq; split at hq)
    | (rename_i hq; obtain ⟨_, rfl⟩ := Prod.mk.inj hq)

/-- May change: mem, power, evr, core0, core1, registers of block 0 11. -/
theorem State.emptyCell_moves (z : State) (ctx : Option Nat) (timekeep : Bool) : Moves 275012227108 z (State.emptyCell z ctx timekeep) := by
  unfold State.emptyCell
  repeat'
    first
    | with_reducible apply Moves.refl
    | with_reducible assumption
    | intro _
    | ((with_reducible apply Moves.by (State.raiseIf_moves _ _ _)); case hs => exact rfl)
    | ((with_reducible apply Moves.by (State.missMore_moves _ _)); case hs => exact rfl)
    | with_reducible apply ite_moves
    | (extract_lets +onlyGivenNames x; apply Moves.cut (m := 275012227108) (z := z) x; (case' h => unfold x); (case' k => (clear_value x; intro _)))
    | (extract_lets +onlyGivenNames x; clear_value x)
    | split
    | (rename_i hq; split at hq)
    | (rename_i hq; obtain ⟨_, rfl⟩ := Prod.mk.inj hq)

/-- May change: mem, power, evr, core0, core1, registers of block 0 11. -/
theorem State.emptyWindow_moves (z : State) (w : RxWindow) : Moves 275012227108 z (State.emptyWindow z w) := by
  unfold State.emptyWindow
  repeat'
    first
    | with_reducible apply Moves.refl
    | with_reducible assumption
    | intro _
    | ((with_reducible apply Moves.by (State.emptyCell_moves _ _ _)); case hs => exact rfl)
    | with_reducible apply ite_moves
    | with_reducible apply foldl_moves
    | (extract_lets +onlyGivenNames x; apply Moves.cut (m := 275012227108) (z := z) x; (case' h => unfold x); (case' k => (clear_value x; intro _)))
    | (extract_lets +onlyGivenNames x; clear_value x)
    | split
    | (rename_i hq; split at hq)
    | (rename_i hq; obtain ⟨_, rfl⟩ := Prod.mk.inj hq)

/-- May change: mem, power, radio, slot, evr, core0, core1, registers of block 0 2 11. -/
theorem execRxWindowClose_goes (lane : Fin 128) (z : State) : Goes 275549098212 z (execRxWindowClose lane z) := by
  unfold execRxWindowClose
  repeat'
    first
    | with_reducible apply Moves.refl
    | with_reducible assumption
    | intro _
    | with_reducible apply goOn_goes
    | with_reducible apply ite_goes
    | ((with_reducible apply Moves.by (State.setWindow_moves _ _)); case hs => exact rfl)
    | ((with_reducible apply Moves.by (State.emptyWindow_moves _ _)); case hs => exact rfl)
    | ((with_reducible apply Moves.by (State.closeLane_moves _ _)); case hs => exact rfl)
    | ((with_reducible apply Moves.by (State.halfReturn_moves _ _)); case hs => exact rfl)
    | with_reducible apply ite_moves
    | with_reducible apply foldl_moves
    | (extract_lets +onlyGivenNames x; apply Moves.cut (m := 275549098212) (z := z) x; (case' h => unfold x); (case' k => (clear_value x; intro _)))
    | (extract_lets +onlyGivenNames x; clear_value x)
    | split
    | (rename_i hq; split at hq)
    | (rename_i hq; obtain ⟨_, rfl⟩ := Prod.mk.inj hq)

/-- May change: radio. -/
theorem State.perCount_moves (z : State) (lane : Nat) (off : Nat) : Moves 64 z (State.perCount z lane off) := by
  unfold State.perCount
  repeat'
    first
    | with_reducible apply Moves.refl
    | with_reducible assumption
    | intro _
    | ((with_reducible apply Moves.by (State.with_radio_moves _ _)); case hs => exact rfl)
    | rw [State.with_radio_eq]
    | with_reducible apply ite_moves
    | (extract_lets +onlyGivenNames x; apply Moves.cut (m := 64) (z := z) x; (case' h => unfold x); (case' k => (clear_value x; intro _)))
    | (extract_lets +onlyGivenNames x; clear_value x)
    | split
    | (rename_i hq; split at hq)
    | (rename_i hq; obtain ⟨_, rfl⟩ := Prod.mk.inj hq)

/-- May change: power, radio, slot, evr, core0, core1, registers of block 0 2 11 15. -/
theorem execSyncMatch_goes (lane : Fin 128) (sync : SyncKind) (errs : Fin 7) (rssi : Int) (offset : Int) (dgain : Fin 43) (z : State) : Goes 4673595609312 z (execSyncMatch lane sync errs rssi offset dgain z) := by
  unfold execSyncMatch
  repeat'
    first
    | with_reducible apply Moves.refl
    | with_reducible assumption
    | intro _
    | with_reducible apply goOn_goes
    | with_reducible apply ite_goes
    | ((with_reducible apply Moves.by (State.setLane_moves _ _ _)); case hs => exact rfl)
    | ((with_reducible apply Moves.by (State.raiseIf_moves _ _ _)); case hs => exact rfl)
    | ((with_reducible apply Moves.by (State.lgyFlag_moves _ _)); case hs => exact rfl)
    | ((with_reducible apply Moves.by (State.setWindow_moves _ _)); case hs => exact rfl)
    | ((with_reducible apply Moves.by (State.perCount_moves _ _ _)); case hs => exact rfl)
    | ((with_reducible apply Moves.by (State.raise_moves _ _)); case hs => exact rfl)
    | ((with_reducible apply Moves.by (State.with_radio_moves _ _)); case hs => exact rfl)
    | rw [State.with_radio_eq]
    | ((with_reducible apply Moves.put); (case hf => (with_reducible first | apply CHZ_LCNT_DETECT_block | apply CHZ_LCNT_OVF_block | apply CHZ_LSTAT_DGAIN_block | apply CHZ_LSTAT_STATE_block)); case hm => exact rfl)
    | ((with_reducible apply Moves.bump); (case hf => (with_reducible first | apply CHZ_LCNT_DETECT_block | apply CHZ_LCNT_OVF_block | apply CHZ_LSTAT_DGAIN_block | apply CHZ_LSTAT_STATE_block)); case hm => exact rfl)
    | with_reducible apply ite_moves
    | (extract_lets +onlyGivenNames x; apply Moves.cut (m := 4673595609312) (z := z) x; (case' h => unfold x); (case' k => (clear_value x; intro _)))
    | (extract_lets +onlyGivenNames x; clear_value x)
    | split
    | (rename_i hq; split at hq)
    | (rename_i hq; obtain ⟨_, rfl⟩ := Prod.mk.inj hq)

/-- May change: radio, registers of block 2. -/
theorem State.leaveFrame_moves (z : State) (i : Nat) : Moves 536870976 z (State.leaveFrame z i) := by
  unfold State.leaveFrame
  repeat'
    first
    | with_reducible apply Moves.refl
    | with_reducible assumption
    | intro _
    | ((with_reducible apply Moves.by (State.restLane_moves _ _)); case hs => exact rfl)
    | with_reducible apply ite_moves
    | (extract_lets +onlyGivenNames x; apply Moves.cut (m := 536870976) (z := z) x; (case' h => unfold x); (case' k => (clear_value x; intro _)))
    | (extract_lets +onlyGivenNames x; clear_value x)
    | split
    | (rename_i hq; split at hq)
    | (rename_i hq; obtain ⟨_, rfl⟩ := Prod.mk.inj hq)

/-- May change: registers of block 1. -/
theorem State.agc_moves (z : State) (h : Nat) (gain : Nat) : Moves 268435456 z (State.agc z h gain) := by
  unfold State.agc
  repeat'
    first
    | with_reducible apply Moves.refl
    | with_reducible assumption
    | intro _
    | ((with_reducible apply Moves.put); (case hf => (with_reducible first | apply RFC_GAIN_A_GAIN_block | apply RFC_GAIN_B_GAIN_block)); case hm => exact rfl)
    | with_reducible apply ite_moves
    | (extract_lets +onlyGivenNames x; apply Moves.cut (m := 268435456) (z := z) x; (case' h => unfold x); (case' k => (clear_value x; intro _)))
    | (extract_lets +onlyGivenNames x; clear_value x)
    | split
    | (rename_i hq; split at hq)
    | (rename_i hq; obtain ⟨_, rfl⟩ := Prod.mk.inj hq)

/-- May change: radio, slot. -/
theorem State.endStatus_moves (z : State) (i : Nat) (blanked : Bool) : Moves 192 z (State.endStatus z i blanked) := by
  unfold State.endStatus
  repeat'
    first
    | with_reducible apply Moves.refl
    | with_reducible assumption
    | intro _
    | ((with_reducible apply Moves.by (State.with_radio_slot_moves _ _ _)); case hs => exact rfl)
    | rw [State.with_radio_slot_eq]
    | with_reducible apply ite_moves
    | (extract_lets +onlyGivenNames x; apply Moves.cut (m := 192) (z := z) x; (case' h => unfold x); (case' k => (clear_value x; intro _)))
    | (extract_lets +onlyGivenNames x; clear_value x)
    | split
    | (rename_i hq; split at hq)
    | (rename_i hq; obtain ⟨_, rfl⟩ := Prod.mk.inj hq)

/-- May change: radio, slot, registers of block 1 2. -/
theorem execLaneFrameEnd_goes (lane : Fin 128) (gain : Fin 16) (z : State) : Goes 805306560 z (execLaneFrameEnd lane gain z) := by
  unfold execLaneFrameEnd
  repeat'
    first
    | with_reducible apply Moves.refl
    | with_reducible assumption
    | intro _
    | with_reducible apply goOn_goes
    | with_reducible apply ite_goes
    | ((with_reducible apply Moves.by (State.endStatus_moves _ _ _)); case hs => exact rfl)
    | ((with_reducible apply Moves.by (State.leaveFrame_moves _ _)); case hs => exact rfl)
    | ((with_reducible apply Moves.by (State.halfReturn_moves _ _)); case hs => exact rfl)
    | ((with_reducible apply Moves.by (State.agc_moves _ _ _)); case hs => exact rfl)
    | ((with_reducible apply Moves.bump); (case hf => (with_reducible apply CHZ_LCNT_BLANKED_block)); case hm => exact rfl)
    | with_reducible apply ite_moves
    | (extract_lets +onlyGivenNames x; apply Moves.cut (m := 805306560) (z := z) x; (case' h => unfold x); (case' k => (clear_value x; intro _)))
    | (extract_lets +onlyGivenNames x; clear_value x)
    | split
    | (rename_i hq; split at hq)
    | (rename_i hq; obtain ⟨_, rfl⟩ := Prod.mk.inj hq)

/-- May change: radio, registers of block 1 2. -/
theorem execBlankingEnd_goes (z : State) : Goes 805306432 z (execBlankingEnd z) := by
  unfold execBlankingEnd
  repeat'
    first
    | with_reducible apply Moves.refl
    | with_reducible assumption
    | intro _
    | with_reducible apply goOn_goes
    | with_reducible apply ite_goes
    | ((with_reducible apply Moves.by (State.unblankHalf_moves _ _ _)); case hs => exact rfl)
    | ((with_reducible apply Moves.by (State.with_radio_moves _ _)); case hs => exact rfl)
    | rw [State.with_radio_eq]
    | with_reducible apply ite_moves
    | (extract_lets +onlyGivenNames x; apply Moves.cut (m := 805306432) (z := z) x; (case' h => unfold x); (case' k => (clear_value x; intro _)))
    | (extract_lets +onlyGivenNames x; clear_value x)
    | split
    | (rename_i hq; split at hq)
    | (rename_i hq; obtain ⟨_, rfl⟩ := Prod.mk.inj hq)

/-- May change: radio, registers of block 1 2. -/
theorem execRetuneBlankEnd_goes (half : Half) (z : State) : Goes 805306432 z (execRetuneBlankEnd half z) := by
  unfold execRetuneBlankEnd
  repeat'
    first
    | with_reducible apply Moves.refl
    | with_reducible assumption
    | intro _
    | with_reducible apply goOn_goes
    | with_reducible apply ite_goes
    | ((with_reducible apply Moves.by (State.unblankHalf_moves _ _ _)); case hs => exact rfl)
    | (extract_lets +onlyGivenNames x; apply Moves.cut (m := 805306432) (z := z) x; (case' h => unfold x); (case' k => (clear_value x; intro _)))
    | (extract_lets +onlyGivenNames x; clear_value x)
    | split
    | (rename_i hq; split at hq)
    | (rename_i hq; obtain ⟨_, rfl⟩ := Prod.mk.inj hq)

/-- May change: slot. -/
theorem State.afterCrc_moves (z : State) (u : RxUnit) : Moves 128 z (State.afterCrc z u) := by
  unfold State.afterCrc
  repeat'
    first
    | with_reducible apply Moves.refl
    | with_reducible assumption
    | intro _
    | ((with_reducible apply Moves.by (State.endRx_moves _ _)); case hs => exact rfl)
    | ((with_reducible apply Moves.by (State.moveRx_moves _ _)); case hs => exact rfl)
    | with_reducible apply ite_moves
    | (extract_lets +onlyGivenNames x; apply Moves.cut (m := 128) (z := z) x; (case' h => unfold x); (case' k => (clear_value x; intro _)))
    | (extract_lets +onlyGivenNames x; clear_value x)
    | split
    | (rename_i hq; split at hq)
    | (rename_i hq; obtain ⟨_, rfl⟩ := Prod.mk.inj hq)

/-- May change: slot. -/
theorem execTwinPairTimeout_goes (unit : Nat) (z : State) : Goes 128 z (execTwinPairTimeout unit z) := by
  unfold execTwinPairTimeout
  repeat'
    first
    | with_reducible apply Moves.refl
    | with_reducible assumption
    | intro _
    | with_reducible apply goOn_goes
    | with_reducible apply ite_goes
    | ((with_reducible apply Moves.by (State.setRx_moves _ _)); case hs => exact rfl)
    | ((with_reducible apply Moves.by (State.afterCrc_moves _ _)); case hs => exact rfl)
    | with_reducible apply ite_moves
    | (extract_lets +onlyGivenNames x; apply Moves.cut (m := 128) (z := z) x; (case' h => unfold x); (case' k => (clear_value x; intro _)))
    | (extract_lets +onlyGivenNames x; clear_value x)
    | split
    | (rename_i hq; split at hq)
    | (rename_i hq; obtain ⟨_, rfl⟩ := Prod.mk.inj hq)

/-- May change: radio. -/
theorem State.setLeak_moves (z : State) (h : Nat) (l : List LeakSet) : Moves 64 z (State.setLeak z h l) := by
  unfold State.setLeak
  repeat'
    first
    | with_reducible apply Moves.refl
    | with_reducible assumption
    | intro _
    | ((with_reducible apply Moves.by (State.with_radio_moves _ _)); case hs => exact rfl)
    | rw [State.with_radio_eq]
    | with_reducible apply ite_moves
    | (extract_lets +onlyGivenNames x; apply Moves.cut (m := 64) (z := z) x; (case' h => unfold x); (case' k => (clear_value x; intro _)))
    | (extract_lets +onlyGivenNames x; clear_value x)
    | split
    | (rename_i hq; split at hq)
    | (rename_i hq; obtain ⟨_, rfl⟩ := Prod.mk.inj hq)

/-- May change: radio. -/
theorem State.leakStart_moves (z : State) (h : Nat) : Moves 64 z (State.leakStart z h) := by
  unfold State.leakStart
  repeat'
    first
    | with_reducible apply Moves.refl
    | with_reducible assumption
    | intro _
    | ((with_reducible apply Moves.by (State.setLeak_moves _ _ _)); case hs => exact rfl)
    | with_reducible apply ite_moves
    | (extract_lets +onlyGivenNames x; apply Moves.cut (m := 64) (z := z) x; (case' h => unfold x); (case' k => (clear_value x; intro _)))
    | (extract_lets +onlyGivenNames x; clear_value x)
    | split
    | (rename_i hq; split at hq)
    | (rename_i hq; obtain ⟨_, rfl⟩ := Prod.mk.inj hq)

/-- May change: radio. -/
theorem State.markLeak_moves (z : State) (h : Nat) (b : Bool) : Moves 64 z (State.markLeak z h b) := by
  unfold State.markLeak
  repeat'
    first
    | with_reducible apply Moves.refl
    | with_reducible assumption
    | intro _
    | ((with_reducible apply Moves.by (State.setLeak_moves _ _ _)); case hs => exact rfl)
    | with_reducible apply ite_moves
    | (extract_lets +onlyGivenNames x; apply Moves.cut (m := 64) (z := z) x; (case' h => unfold x); (case' k => (clear_value x; intro _)))
    | (extract_lets +onlyGivenNames x; clear_value x)
    | split
    | (rename_i hq; split at hq)
    | (rename_i hq; obtain ⟨_, rfl⟩ := Prod.mk.inj hq)

/-- May change: power, radio, evr, core0, core1, registers of block 0 2 11. -/
theorem execLeakConverged_goes (half : Half) (suppr : Nat) (z : State) : Goes 275549098080 z (execLeakConverged half suppr z) := by
  unfold execLeakConverged
  repeat'
    first
    | with_reducible apply Moves.refl
    | with_reducible assumption
    | intro _
    | with_reducible apply goOn_goes
    | with_reducible apply ite_goes
    | ((with_reducible apply Moves.by (State.markLeak_moves _ _ _)); case hs => exact rfl)
    | ((with_reducible apply Moves.by (State.raise_moves _ _)); case hs => exact rfl)
    | ((with_reducible apply Moves.put); (case hf => (with_reducible first | apply leakSuppr_block | apply CHZ_LEAK_A_SUPPR_block | apply CHZ_LEAK_B_SUPPR_block)); case hm => exact rfl)
    | with_reducible apply ite_moves
    | (extract_lets +onlyGivenNames x; apply Moves.cut (m := 275549098080) (z := z) x; (case' h => unfold x); (case' k => (clear_value x; intro _)))
    | (extract_lets +onlyGivenNames x; clear_value x)
    | split
    | (rename_i hq; split at hq)
    | (rename_i hq; obtain ⟨_, rfl⟩ := Prod.mk.inj hq)

/-- May change: power, radio, evr, core0, core1, registers of block 0 2 11. -/
theorem execLeakResidualCheck_goes (half : Half) (suppr : Nat) (z : State) : Goes 275549098080 z (execLeakResidualCheck half suppr z) := by
  unfold execLeakResidualCheck
  repeat'
    first
    | with_reducible apply Moves.refl
    | with_reducible assumption
    | intro _
    | with_reducible apply goOn_goes
    | with_reducible apply ite_goes
    | ((with_reducible apply Moves.by (State.raiseIf_moves _ _ _)); case hs => exact rfl)
    | ((with_reducible apply Moves.by (State.markLeak_moves _ _ _)); case hs => exact rfl)
    | ((with_reducible apply Moves.by (State.with_radio_moves _ _)); case hs => exact rfl)
    | rw [State.with_radio_eq]
    | ((with_reducible apply Moves.put); (case hf => (with_reducible first | apply leakSuppr_block | apply CHZ_LEAK_A_SUPPR_block | apply CHZ_LEAK_B_SUPPR_block)); case hm => exact rfl)
    | with_reducible apply ite_moves
    | (extract_lets +onlyGivenNames x; apply Moves.cut (m := 275549098080) (z := z) x; (case' h => unfold x); (case' k => (clear_value x; intro _)))
    | (extract_lets +onlyGivenNames x; clear_value x)
    | split
    | (rename_i hq; split at hq)
    | (rename_i hq; obtain ⟨_, rfl⟩ := Prod.mk.inj hq)

/-- May change: faults, power, radio, slot, evr, core0, core1, registers of block 0 2 11 18. -/
theorem execDetectionRecordDequeue_goes (parityErr : Bool) (z : State) : Goes 35459921187056 z (execDetectionRecordDequeue parityErr z) := by
  unfold execDetectionRecordDequeue
  repeat'
    first
    | with_reducible apply Moves.refl
    | with_reducible assumption
    | intro _
    | with_reducible apply goOn_goes
    | with_reducible apply ite_goes
    | ((with_reducible apply Moves.by (State.report_moves _ _ _ _ _ _)); case hs => exact rfl)
    | ((with_reducible apply Moves.by (State.with_radio_moves _ _)); case hs => exact rfl)
    | rw [State.with_radio_eq]
    | ((with_reducible apply Moves.by (State.with_slot_moves _ _)); case hs => exact rfl)
    | rw [State.with_slot_eq]
    | ((with_reducible apply Moves.bump); (case hf => (with_reducible apply CHZ_LCNT_BLANKED_block)); case hm => exact rfl)
    | with_reducible apply ite_moves
    | (extract_lets +onlyGivenNames x; apply Moves.cut (m := 35459921187056) (z := z) x; (case' h => unfold x); (case' k => (clear_value x; intro _)))
    | (extract_lets +onlyGivenNames x; clear_value x)
    | split
    | (rename_i hq; split at hq)
    | (rename_i hq; obtain ⟨_, rfl⟩ := Prod.mk.inj hq)

end Sys2Proof.Machine
end

