-- ==== Sys2Proof/Laws/CipherOps.lean ====
section
/-! SUPPORT. What the operations of Machine/CipherOps.lean may change. -/
set_option linter.all false
namespace Sys2Proof.Machine

set_option linter.tactic.unusedName false

/-- May change: sec. -/
theorem State.setKey_moves (z : State) (i : Nat) (k : KeySlot) : Moves 512 z (State.setKey z i k) := by
  unfold State.setKey
  repeat'
    first
    | with_reducible apply Moves.refl
    | with_reducible assumption
    | intro _
    | ((with_reducible apply Moves.by (State.with_sec_moves _ _)); case hs => exact rfl)
    | rw [State.with_sec_eq]
    | with_reducible apply ite_moves
    | (extract_lets +onlyGivenNames x; apply Moves.cut (m := 512) (z := z) x; (case' h => unfold x); (case' k => (clear_value x; intro _)))
    | (extract_lets +onlyGivenNames x; clear_value x)
    | split
    | (rename_i hq; split at hq)
    | (rename_i hq; obtain ⟨_, rfl⟩ := Prod.mk.inj hq)

/-- May change: sec. -/
theorem State.setPage_moves (z : State) (p : Nat) (g : CipherPage) : Moves 512 z (State.setPage z p g) := by
  unfold State.setPage
  repeat'
    first
    | with_reducible apply Moves.refl
    | with_reducible assumption
    | intro _
    | ((with_reducible apply Moves.by (State.with_sec_moves _ _)); case hs => exact rfl)
    | rw [State.with_sec_eq]
    | with_reducible apply ite_moves
    | (extract_lets +onlyGivenNames x; apply Moves.cut (m := 512) (z := z) x; (case' h => unfold x); (case' k => (clear_value x; intro _)))
    | (extract_lets +onlyGivenNames x; clear_value x)
    | split
    | (rename_i hq; split at hq)
    | (rename_i hq; obtain ⟨_, rfl⟩ := Prod.mk.inj hq)

/-- May change: power, sec, evr, core0, core1, registers of block 0 11. -/
theorem State.exhaust_moves (z : State) (i : Nat) : Moves 275012227616 z (State.exhaust z i) := by
  unfold State.exhaust
  repeat'
    first
    | with_reducible apply Moves.refl
    | with_reducible assumption
    | intro _
    | ((with_reducible apply Moves.by (State.raise_moves _ _)); case hs => exact rfl)
    | ((with_reducible apply Moves.by (State.setKey_moves _ _ _)); case hs => exact rfl)
    | with_reducible apply ite_moves
    | (extract_lets +onlyGivenNames x; apply Moves.cut (m := 275012227616) (z := z) x; (case' h => unfold x); (case' k => (clear_value x; intro _)))
    | (extract_lets +onlyGivenNames x; clear_value x)
    | split
    | (rename_i hq; split at hq)
    | (rename_i hq; obtain ⟨_, rfl⟩ := Prod.mk.inj hq)

/-- May change: power, sec, evr, core0, core1, registers of block 0 11. -/
theorem State.charged_moves (z : State) (i : Nat) (b : Nat) (transmit : Bool) : Moves 275012227616 z (State.charged z i b transmit).2 := by
  unfold State.charged
  repeat'
    first
    | with_reducible apply Moves.refl
    | with_reducible assumption
    | intro _
    | ((with_reducible apply Moves.by (State.setKey_moves _ _ _)); case hs => exact rfl)
    | ((with_reducible apply Moves.by (State.exhaust_moves _ _)); case hs => exact rfl)
    | with_reducible apply ite_moves
    | with_reducible apply ite_snd_moves
    | (extract_lets +onlyGivenNames x; apply Moves.cut (m := 275012227616) (z := z) x; (case' h => unfold x); (case' k => (clear_value x; intro _)))
    | (extract_lets +onlyGivenNames x; clear_value x)
    | split
    | (rename_i hq; split at hq)
    | (rename_i hq; obtain ⟨_, rfl⟩ := Prod.mk.inj hq)

theorem State.charged_pair {z : State} {i : Nat} {b : Nat} {transmit : Bool} {b1 : Nat} {u0 : State} {m0 : Nat} {r0 : State} (hp : State.charged z i b transmit = (b1, u0)) (hs : sub 275012227616 m0 = true) (h : Moves m0 r0 z) : Moves m0 r0 u0 := by
  have g := State.charged_moves z i b transmit
  rw [hp] at g
  exact h.step g hs

/-- May change: power, evr, core0, core1, registers of block 0 6 11. -/
theorem State.seRefused_moves (z : State) (c : Nat) (i : Nat) : Moves 283602161696 z (State.seRefused z c i) := by
  unfold State.seRefused
  repeat'
    first
    | with_reducible apply Moves.refl
    | with_reducible assumption
    | intro _
    | ((with_reducible apply Moves.by (State.raise_moves _ _)); case hs => exact rfl)
    | ((with_reducible apply Moves.bump); (case hf => (with_reducible first | apply SEC_COUNT0_SE_KEYLIM_block | apply SEC_COUNT1_SE_FAULT_block | apply SEC_COUNT1_SE_PAGEV_block)); case hm => exact rfl)
    | with_reducible apply ite_moves
    | (extract_lets +onlyGivenNames x; apply Moves.cut (m := 283602161696) (z := z) x; (case' h => unfold x); (case' k => (clear_value x; intro _)))
    | (extract_lets +onlyGivenNames x; clear_value x)
    | split
    | (rename_i hq; split at hq)
    | (rename_i hq; obtain ⟨_, rfl⟩ := Prod.mk.inj hq)

/-- May change: sec. -/
theorem State.keyApply_moves (z : State) (i : Nat) (image : Option KeyImage) : Moves 512 z (State.keyApply z i image) := by
  unfold State.keyApply
  repeat'
    first
    | with_reducible apply Moves.refl
    | with_reducible assumption
    | intro _
    | ((with_reducible apply Moves.by (State.setKey_moves _ _ _)); case hs => exact rfl)
    | with_reducible apply ite_moves
    | (extract_lets +onlyGivenNames x; apply Moves.cut (m := 512) (z := z) x; (case' h => unfold x); (case' k => (clear_value x; intro _)))
    | (extract_lets +onlyGivenNames x; clear_value x)
    | split
    | (rename_i hq; split at hq)
    | (rename_i hq; obtain ⟨_, rfl⟩ := Prod.mk.inj hq)

/-- May change: sec. -/
theorem State.keyCommand_moves (z : State) (i : Nat) (image : Option KeyImage) : Moves 512 z (State.keyCommand z i image) := by
  unfold State.keyCommand
  repeat'
    first
    | with_reducible apply Moves.refl
    | with_reducible assumption
    | intro _
    | ((with_reducible apply Moves.by (State.keyApply_moves _ _ _)); case hs => exact rfl)
    | ((with_reducible apply Moves.by (State.setKey_moves _ _ _)); case hs => exact rfl)
    | with_reducible apply ite_moves
    | (extract_lets +onlyGivenNames x; apply Moves.cut (m := 512) (z := z) x; (case' h => unfold x); (case' k => (clear_value x; intro _)))
    | (extract_lets +onlyGivenNames x; clear_value x)
    | split
    | (rename_i hq; split at hq)
    | (rename_i hq; obtain ⟨_, rfl⟩ := Prod.mk.inj hq)

/-- May change: power, sec, evr, core0, core1, registers of block 0 11. -/
theorem State.reqCheck_moves (z : State) (p : Nat) (r : GenReq) : Moves 275012227616 z (State.reqCheck z p r).2 := by
  unfold State.reqCheck
  repeat'
    first
    | with_reducible apply Moves.refl
    | with_reducible assumption
    | intro _
    | ((with_reducible apply Moves.by (State.raise_moves _ _)); case hs => exact rfl)
    | ((with_reducible apply Moves.by (State.charged_moves _ _ _ _)); case hs => exact rfl)
    | ((with_reducible apply State.charged_pair); (case hp => assumption); case hs => exact rfl)
    | with_reducible apply ite_moves
    | with_reducible apply ite_snd_moves
    | (extract_lets +onlyGivenNames x; apply Moves.cut (m := 275012227616) (z := z) x; (case' h => unfold x); (case' k => (clear_value x; intro _)))
    | (extract_lets +onlyGivenNames x; clear_value x)
    | split
    | (rename_i hq; split at hq)
    | (rename_i hq; obtain ⟨_, rfl⟩ := Prod.mk.inj hq)

theorem State.reqCheck_pair {z : State} {p : Nat} {r : GenReq} {b1 : Nat} {u0 : State} {m0 : Nat} {r0 : State} (hp : State.reqCheck z p r = (b1, u0)) (hs : sub 275012227616 m0 = true) (h : Moves m0 r0 z) : Moves m0 r0 u0 := by
  have g := State.reqCheck_moves z p r
  rw [hp] at g
  exact h.step g hs

/-- May change: power, sec, evr, core0, core1, registers of block 0 11. -/
theorem State.serve_moves (z : State) (p : Nat) : Moves 275012227616 z (State.serve z p) := by
  unfold State.serve
  repeat'
    first
    | with_reducible apply Moves.refl
    | with_reducible assumption
    | intro _
    | ((with_reducible apply Moves.by (State.setPage_moves _ _ _)); case hs => exact rfl)
    | ((with_reducible apply Moves.by (State.reqCheck_moves _ _ _)); case hs => exact rfl)
    | ((with_reducible apply State.reqCheck_pair); (case hp => assumption); case hs => exact rfl)
    | ((with_reducible apply Moves.by (State.with_sec_moves _ _)); case hs => exact rfl)
    | rw [State.with_sec_eq]
    | with_reducible apply ite_moves
    | (extract_lets +onlyGivenNames x; apply Moves.cut (m := 275012227616) (z := z) x; (case' h => unfold x); (case' k => (clear_value x; intro _)))
    | (extract_lets +onlyGivenNames x; clear_value x)
    | split
    | (rename_i hq; split at hq)
    | (rename_i hq; obtain ⟨_, rfl⟩ := Prod.mk.inj hq)

/-- May change: power, sec, evr, core0, core1, registers of block 0 11. -/
theorem State.arbitrate_moves (z : State) : Moves 275012227616 z (State.arbitrate z) := by
  unfold State.arbitrate
  repeat'
    first
    | with_reducible apply Moves.refl
    | with_reducible assumption
    | intro _
    | ((with_reducible apply Moves.by (State.serve_moves _ _)); case hs => exact rfl)
    | with_reducible apply ite_moves
    | with_reducible apply foldl_moves
    | (extract_lets +onlyGivenNames x; apply Moves.cut (m := 275012227616) (z := z) x; (case' h => unfold x); (case' k => (clear_value x; intro _)))
    | (extract_lets +onlyGivenNames x; clear_value x)
    | split
    | (rename_i hq; split at hq)
    | (rename_i hq; obtain ⟨_, rfl⟩ := Prod.mk.inj hq)

/-- May change: power, sec, evr, core0, core1, registers of block 0 6 11. -/
theorem State.reqFinished_moves (z : State) (p : Nat) (status : Nat) : Moves 283602162208 z (State.reqFinished z p status) := by
  unfold State.reqFinished
  repeat'
    first
    | with_reducible apply Moves.refl
    | with_reducible assumption
    | intro _
    | ((with_reducible apply Moves.by (State.raise_moves _ _)); case hs => exact rfl)
    | ((with_reducible apply Moves.by (State.setPage_moves _ _ _)); case hs => exact rfl)
    | ((with_reducible apply Moves.put); (case hf => (with_reducible first | apply SEC_P_DONE_DONE_block | apply SEC_P_STAT_COMPLETED_block | apply SEC_P_STAT_LAST_block)); case hm => exact rfl)
    | ((with_reducible apply Moves.flag); (case hf => (with_reducible first | apply SEC_P_DONE_DONE_block | apply SEC_P_STAT_COMPLETED_block | apply SEC_P_STAT_LAST_block)); case hm => exact rfl)
    | ((with_reducible apply Moves.bumpWrap); (case hf => (with_reducible first | apply SEC_P_DONE_DONE_block | apply SEC_P_STAT_COMPLETED_block | apply SEC_P_STAT_LAST_block)); case hm => exact rfl)
    | with_reducible apply ite_moves
    | (extract_lets +onlyGivenNames x; apply Moves.cut (m := 283602162208) (z := z) x; (case' h => unfold x); (case' k => (clear_value x; intro _)))
    | (extract_lets +onlyGivenNames x; clear_value x)
    | split
    | (rename_i hq; split at hq)
    | (rename_i hq; obtain ⟨_, rfl⟩ := Prod.mk.inj hq)

/-- May change: mem, poison, sec. -/
theorem State.reqStatus_moves (z : State) (r : GenReq) (status : Nat) (used : Nat) (out : List Byte) : Moves 524 z (State.reqStatus z r status used out) := by
  unfold State.reqStatus
  repeat'
    first
    | with_reducible apply Moves.refl
    | with_reducible assumption
    | intro _
    | ((with_reducible apply Moves.by (State.devWrite_moves _ _ _)); case hs => exact rfl)
    | ((with_reducible apply Moves.by (State.with_sec_moves _ _)); case hs => exact rfl)
    | rw [State.with_sec_eq]
    | with_reducible apply ite_moves
    | (extract_lets +onlyGivenNames x; apply Moves.cut (m := 524) (z := z) x; (case' h => unfold x); (case' k => (clear_value x; intro _)))
    | (extract_lets +onlyGivenNames x; clear_value x)
    | split
    | (rename_i hq; split at hq)
    | (rename_i hq; obtain ⟨_, rfl⟩ := Prod.mk.inj hq)

/-- May change: mem, poison, faults, power, sec, evr, core0, core1, registers of block 0 6 11 18. -/
theorem State.reqComplete_moves (z : State) (p : Nat) (r : GenReq) : Moves 35467974251068 z (State.reqComplete z p r) := by
  unfold State.reqComplete
  repeat'
    first
    | with_reducible apply Moves.refl
    | with_reducible assumption
    | intro _
    | ((with_reducible apply Moves.by (State.raiseIf_moves _ _ _)); case hs => exact rfl)
    | ((with_reducible apply Moves.by (State.report_moves _ _ _ _ _ _)); case hs => exact rfl)
    | ((with_reducible apply Moves.by (State.reqStatus_moves _ _ _ _ _)); case hs => exact rfl)
    | ((with_reducible apply Moves.by (State.raise_moves _ _)); case hs => exact rfl)
    | ((with_reducible apply Moves.by (State.reqFinished_moves _ _ _)); case hs => exact rfl)
    | ((with_reducible apply Moves.by (State.devWrite_moves _ _ _)); case hs => exact rfl)
    | with_reducible apply ite_moves
    | (extract_lets +onlyGivenNames x; apply Moves.cut (m := 35467974251068) (z := z) x; (case' h => unfold x); (case' k => (clear_value x; intro _)))
    | (extract_lets +onlyGivenNames x; clear_value x)
    | split
    | (rename_i hq; split at hq)
    | (rename_i hq; obtain ⟨_, rfl⟩ := Prod.mk.inj hq)

end Sys2Proof.Machine
end

