-- ==== Sys2Proof/Laws/TxOps.lean ====
section
/-! SUPPORT. What the operations of Machine/TxOps.lean may change. -/
set_option linter.all false
namespace Sys2Proof.Machine

set_option linter.tactic.unusedName false

theorem txProfFields_block (p : Nat) : allIn (txProfFields p) 3 := by
  simp only [allIn, txProfFields, List.forall_mem_cons, TXP_PROF_MOD_block, TXP_PROF_RATE_block, TXP_PROF_BT_block, TXP_PROF_HIDX_block, TXP_PROF_REP_block, TXP_PROF_SFDG_block, TXP_PROF_FEC_block, TXP_PROF_ILV_block, TXP_PROF_DW_block, TXP_PROF_FCS_T_block, TXP_PROF_LEGACY_block, TXP_PROF_FIR_EN_block, TXP_PROF_PREAMBLE_block]; simp

/-- May change: mac. -/
theorem State.draw_moves (z : State) (be : Nat) : Moves 256 z (State.draw z be).2 := by
  unfold State.draw
  repeat'
    first
    | with_reducible apply Moves.refl
    | with_reducible assumption
    | intro _
    | ((with_reducible apply Moves.by (State.with_mac_moves _ _)); case hs => exact rfl)
    | rw [State.with_mac_eq]
    | with_reducible apply ite_moves
    | with_reducible apply ite_snd_moves
    | (extract_lets +onlyGivenNames x; apply Moves.cut (m := 256) (z := z) x; (case' h => unfold x); (case' k => (clear_value x; intro _)))
    | (extract_lets +onlyGivenNames x; clear_value x)
    | split
    | (rename_i hq; split at hq)
    | (rename_i hq; obtain ⟨_, rfl⟩ := Prod.mk.inj hq)

theorem State.draw_pair {z : State} {be : Nat} {b1 : Nat} {u0 : State} {m0 : Nat} {r0 : State} (hp : State.draw z be = (b1, u0)) (hs : sub 256 m0 = true) (h : Moves m0 r0 z) : Moves m0 r0 u0 := by
  have g := State.draw_moves z be
  rw [hp] at g
  exact h.step g hs

/-- May change: power, radio, evr, core0, core1, registers of block 0 1 11. -/
theorem State.tuneHalf_moves (z : State) (h : Nat) (c : Int) : Moves 275280662624 z (State.tuneHalf z h c) := by
  unfold State.tuneHalf
  dsimp only
  repeat'
    first
    | with_reducible apply Moves.refl
    | with_reducible assumption
    | intro _
    | ((with_reducible apply Moves.by (State.lock_moves _ _)); case hs => exact rfl)
    | ((with_reducible apply Moves.by (State.setPath_moves _ _ _)); case hs => exact rfl)
    | ((with_reducible apply Moves.put); (case hf => (with_reducible first | apply RFC_FREQ_A_FREQ_block | apply RFC_FREQ_B_FREQ_block)); case hm => exact rfl)
    | with_reducible apply ite_moves
    | (extract_lets +onlyGivenNames x; apply Moves.cut (m := 275280662624) (z := z) x; (case' h => unfold x); (case' k => (clear_value x; intro _)))
    | (extract_lets +onlyGivenNames x; clear_value x)
    | split
    | (rename_i hq; split at hq)
    | (rename_i hq; obtain ⟨_, rfl⟩ := Prod.mk.inj hq)

/-- May change: power, radio, slot, mac, evr, core0, core1, registers of block 0 1 2 11. -/
theorem State.scanStep_moves (z : State) (k : Nat) : Moves 275817533920 z (State.scanStep z k) := by
  unfold State.scanStep
  repeat'
    first
    | with_reducible apply Moves.refl
    | with_reducible assumption
    | intro _
    | ((with_reducible apply Moves.by (State.restLane_moves _ _)); case hs => exact rfl)
    | ((with_reducible apply Moves.by (State.retune_moves _ _)); case hs => exact rfl)
    | ((with_reducible apply Moves.by (State.tuneHalf_moves _ _ _)); case hs => exact rfl)
    | ((with_reducible apply Moves.by (State.with_mac_moves _ _)); case hs => exact rfl)
    | rw [State.with_mac_eq]
    | with_reducible apply ite_moves
    | with_reducible apply foldl_moves
    | (extract_lets +onlyGivenNames x; apply Moves.cut (m := 275817533920) (z := z) x; (case' h => unfold x); (case' k => (clear_value x; intro _)))
    | (extract_lets +onlyGivenNames x; clear_value x)
    | split
    | (rename_i hq; split at hq)
    | (rename_i hq; obtain ⟨_, rfl⟩ := Prod.mk.inj hq)

/-- May change: power, radio, slot, mac, evr, core0, core1, registers of block 0 1 2 5 11. -/
theorem State.enterScan_moves (z : State) : Moves 280112501216 z (State.enterScan z) := by
  unfold State.enterScan
  repeat'
    first
    | with_reducible apply Moves.refl
    | with_reducible assumption
    | intro _
    | ((with_reducible apply Moves.by (State.scanStep_moves _ _)); case hs => exact rfl)
    | ((with_reducible apply Moves.by (State.raise_moves _ _)); case hs => exact rfl)
    | ((with_reducible apply Moves.by (State.with_mac_moves _ _)); case hs => exact rfl)
    | rw [State.with_mac_eq]
    | ((with_reducible apply Moves.put); (case hf => (with_reducible first | apply MAC_STATUS_POLL_EXT_block | apply MAC_STATUS_SYNC_block)); case hm => exact rfl)
    | ((with_reducible apply Moves.flag); (case hf => (with_reducible first | apply MAC_STATUS_POLL_EXT_block | apply MAC_STATUS_SYNC_block)); case hm => exact rfl)
    | with_reducible apply ite_moves
    | (extract_lets +onlyGivenNames x; apply Moves.cut (m := 280112501216) (z := z) x; (case' h => unfold x); (case' k => (clear_value x; intro _)))
    | (extract_lets +onlyGivenNames x; clear_value x)
    | split
    | (rename_i hq; split at hq)
    | (rename_i hq; obtain ⟨_, rfl⟩ := Prod.mk.inj hq)

/-- May change: radio, registers of block 2 5. -/
theorem State.leaveScan_moves (z : State) (sync : Nat) : Moves 4831838272 z (State.leaveScan z sync) := by
  unfold State.leaveScan
  repeat'
    first
    | with_reducible apply Moves.refl
    | with_reducible assumption
    | intro _
    | ((with_reducible apply Moves.by (State.restLane_moves _ _)); case hs => exact rfl)
    | ((with_reducible apply Moves.put); (case hf => (with_reducible apply MAC_STATUS_SYNC_block)); case hm => exact rfl)
    | with_reducible apply ite_moves
    | with_reducible apply foldl_moves
    | (extract_lets +onlyGivenNames x; apply Moves.cut (m := 4831838272) (z := z) x; (case' h => unfold x); (case' k => (clear_value x; intro _)))
    | (extract_lets +onlyGivenNames x; clear_value x)
    | split
    | (rename_i hq; split at hq)
    | (rename_i hq; obtain ⟨_, rfl⟩ := Prod.mk.inj hq)

/-- May change: power, radio, slot, mac, evr, core0, core1, registers of block 0 1 2 5 11. -/
theorem State.pollUnanswered_moves (z : State) (extended : Bool) : Moves 280112501216 z (State.pollUnanswered z extended) := by
  unfold State.pollUnanswered
  repeat'
    first
    | with_reducible apply Moves.refl
    | with_reducible assumption
    | intro _
    | ((with_reducible apply Moves.by (State.enterScan_moves _)); case hs => exact rfl)
    | ((with_reducible apply Moves.by (State.with_mac_moves _ _)); case hs => exact rfl)
    | rw [State.with_mac_eq]
    | ((with_reducible apply Moves.flag); (case hf => (with_reducible apply MAC_STATUS_POLL_EXT_block)); case hm => exact rfl)
    | with_reducible apply ite_moves
    | (extract_lets +onlyGivenNames x; apply Moves.cut (m := 280112501216) (z := z) x; (case' h => unfold x); (case' k => (clear_value x; intro _)))
    | (extract_lets +onlyGivenNames x; clear_value x)
    | split
    | (rename_i hq; split at hq)
    | (rename_i hq; obtain ⟨_, rfl⟩ := Prod.mk.inj hq)

/-- May change: mem, power, radio, slot, mac, evr, core0, core1, lgy, registers of block 0 1 2 5 11 15. -/
theorem State.noAck_moves (z : State) (u : TxUnit) : Moves 4678159143396 z (State.noAck z u) := by
  unfold State.noAck
  repeat'
    first
    | with_reducible apply Moves.refl
    | with_reducible assumption
    | intro _
    | ((with_reducible apply Moves.by (State.draw_moves _ _)); case hs => exact rfl)
    | ((with_reducible apply State.draw_pair); (case hp => assumption); case hs => exact rfl)
    | ((with_reducible apply Moves.by (State.ctxBump_moves _ _ _)); case hs => exact rfl)
    | ((with_reducible apply Moves.by (State.pollUnanswered_moves _ _)); case hs => exact rfl)
    | ((with_reducible apply Moves.by (State.missMore_moves _ _)); case hs => exact rfl)
    | ((with_reducible apply Moves.by (State.endTx_moves _ _ _)); case hs => exact rfl)
    | ((with_reducible apply Moves.by (State.removeTx_moves _ _)); case hs => exact rfl)
    | ((with_reducible apply Moves.by (State.with_mac_moves _ _)); case hs => exact rfl)
    | rw [State.with_mac_eq]
    | with_reducible apply ite_moves
    | (extract_lets +onlyGivenNames x; apply Moves.cut (m := 4678159143396) (z := z) x; (case' h => unfold x); (case' k => (clear_value x; intro _)))
    | (extract_lets +onlyGivenNames x; clear_value x)
    | split
    | (rename_i hq; split at hq)
    | (rename_i hq; obtain ⟨_, rfl⟩ := Prod.mk.inj hq)

/-- May change: power, radio, slot, evr, core0, core1, registers of block 0 1 2 11. -/
theorem State.openTxWindow_moves (z : State) : Moves 275817533664 z (State.openTxWindow z) := by
  unfold State.openTxWindow
  repeat'
    first
    | with_reducible apply Moves.refl
    | with_reducible assumption
    | intro _
    | ((with_reducible apply Moves.by (State.setLane_moves _ _ _)); case hs => exact rfl)
    | ((with_reducible apply Moves.by (State.raiseIf_moves _ _ _)); case hs => exact rfl)
    | ((with_reducible apply Moves.by (State.blankLane_moves _ _ _)); case hs => exact rfl)
    | ((with_reducible apply Moves.by (State.with_radio_moves _ _)); case hs => exact rfl)
    | rw [State.with_radio_eq]
    | with_reducible apply ite_moves
    | with_reducible apply foldl_moves
    | (extract_lets +onlyGivenNames x; apply Moves.cut (m := 275817533664) (z := z) x; (case' h => unfold x); (case' k => (clear_value x; intro _)))
    | (extract_lets +onlyGivenNames x; clear_value x)
    | split
    | (rename_i hq; split at hq)
    | (rename_i hq; obtain ⟨_, rfl⟩ := Prod.mk.inj hq)

/-- May change: power, radio, evr, core0, core1, registers of block 0 1 11. -/
theorem State.txReturn_moves (z : State) : Moves 275280662624 z (State.txReturn z) := by
  unfold State.txReturn
  repeat'
    first
    | with_reducible apply Moves.refl
    | with_reducible assumption
    | intro _
    | ((with_reducible apply Moves.by (State.enter_moves _ _ _)); case hs => exact rfl)
    | ((with_reducible apply Moves.by (State.with_radio_moves _ _)); case hs => exact rfl)
    | rw [State.with_radio_eq]
    | ((with_reducible apply Moves.flag); (case hf => (with_reducible apply RFC_STATE_TRSW_block)); case hm => exact rfl)
    | with_reducible apply ite_moves
    | (extract_lets +onlyGivenNames x; apply Moves.cut (m := 275280662624) (z := z) x; (case' h => unfold x); (case' k => (clear_value x; intro _)))
    | (extract_lets +onlyGivenNames x; clear_value x)
    | split
    | (rename_i hq; split at hq)
    | (rename_i hq; obtain ⟨_, rfl⟩ := Prod.mk.inj hq)

/-- May change: radio. -/
theorem State.chargeActual_moves (z : State) (u : TxUnit) : Moves 64 z (State.chargeActual z u) := by
  unfold State.chargeActual
  repeat'
    first
    | with_reducible apply Moves.refl
    | with_reducible assumption
    | intro _
    | ((with_reducible apply Moves.by (State.refund_moves _ _ _ _)); case hs => exact rfl)
    | with_reducible apply ite_moves
    | (extract_lets +onlyGivenNames x; apply Moves.cut (m := 64) (z := z) x; (case' h => unfold x); (case' k => (clear_value x; intro _)))
    | (extract_lets +onlyGivenNames x; clear_value x)
    | split
    | (rename_i hq; split at hq)
    | (rename_i hq; obtain ⟨_, rfl⟩ := Prod.mk.inj hq)

/-- May change: power, radio, slot, evr, core0, core1, registers of block 0 1 11. -/
theorem State.forceRampDown_moves (z : State) (status : Nat) : Moves 275280662752 z (State.forceRampDown z status) := by
  unfold State.forceRampDown
  repeat'
    first
    | with_reducible apply Moves.refl
    | with_reducible assumption
    | intro _
    | ((with_reducible apply Moves.by (State.enter_moves _ _ _)); case hs => exact rfl)
    | ((with_reducible apply Moves.by (State.setTx_moves _ _)); case hs => exact rfl)
    | with_reducible apply ite_moves
    | (extract_lets +onlyGivenNames x; apply Moves.cut (m := 275280662752) (z := z) x; (case' h => unfold x); (case' k => (clear_value x; intro _)))
    | (extract_lets +onlyGivenNames x; clear_value x)
    | split
    | (rename_i hq; split at hq)
    | (rename_i hq; obtain ⟨_, rfl⟩ := Prod.mk.inj hq)

/-- May change: power, radio, evr, core0, core1, registers of block 0 1 2 11. -/
theorem State.placeChannel_moves (z : State) (n : Nat) (ctx : Option Nat) : Moves 275817533536 z (State.placeChannel z n ctx).2 := by
  unfold State.placeChannel
  repeat'
    first
    | with_reducible apply Moves.refl
    | with_reducible assumption
    | intro _
    | ((with_reducible apply Moves.by (State.tuneHalf_moves _ _ _)); case hs => exact rfl)
    | ((with_reducible apply Moves.by (State.with_radio_moves _ _)); case hs => exact rfl)
    | rw [State.with_radio_eq]
    | ((with_reducible apply Moves.put); (case hf => (with_reducible apply CHZ_LNCO_LNCO_block)); case hm => exact rfl)
    | with_reducible apply ite_moves
    | with_reducible apply ite_snd_moves
    | (extract_lets +onlyGivenNames x; apply Moves.cut (m := 275817533536) (z := z) x; (case' h => unfold x); (case' k => (clear_value x; intro _)))
    | (extract_lets +onlyGivenNames x; clear_value x)
    | split
    | (rename_i hq; split at hq)
    | (rename_i hq; obtain ⟨_, rfl⟩ := Prod.mk.inj hq)

theorem State.placeChannel_pair {z : State} {n : Nat} {ctx : Option Nat} {b1 : Option Nat} {u0 : State} {m0 : Nat} {r0 : State} (hp : State.placeChannel z n ctx = (b1, u0)) (hs : sub 275817533536 m0 = true) (h : Moves m0 r0 z) : Moves m0 r0 u0 := by
  have g := State.placeChannel_moves z n ctx
  rw [hp] at g
  exact h.step g hs

/-- May change: radio. -/
theorem State.setTest_moves (z : State) (t : TestOp) : Moves 64 z (State.setTest z t) := by
  unfold State.setTest
  repeat'
    first
    | with_reducible apply Moves.refl
    | with_reducible assumption
    | intro _
    | ((with_reducible apply Moves.by (State.with_radio_moves _ _)); case hs => exact rfl)
    | rw [State.with_radio_eq]
    | with_reducible apply ite_moves
    | (extract_lets +onlyGivenNames x; apply Moves.cut (m := 64) (z := z) x; (case' h => unfold x); (case' k => (clear_value x; intro _)))
    | (extract_lets +onlyGivenNames x; clear_value x)
    | split
    | (rename_i hq; split at hq)
    | (rename_i hq; obtain ⟨_, rfl⟩ := Prod.mk.inj hq)

/-- May change: power, radio, evr, core0, core1, registers of block 0 1 11. -/
theorem State.lockOn_moves (z : State) (carrier : Nat) : Moves 275280662624 z (State.lockOn z carrier) := by
  unfold State.lockOn
  repeat'
    first
    | with_reducible apply Moves.refl
    | with_reducible assumption
    | intro _
    | ((with_reducible apply Moves.by (State.lock_moves _ _)); case hs => exact rfl)
    | ((with_reducible apply Moves.by (State.enter_moves _ _ _)); case hs => exact rfl)
    | ((with_reducible apply Moves.by (State.setPath_moves _ _ _)); case hs => exact rfl)
    | ((with_reducible apply Moves.by (State.with_radio_moves _ _)); case hs => exact rfl)
    | rw [State.with_radio_eq]
    | ((with_reducible apply Moves.put); (case hf => (with_reducible apply RFC_FREQ_T_FREQ_block)); case hm => exact rfl)
    | with_reducible apply ite_moves
    | (extract_lets +onlyGivenNames x; apply Moves.cut (m := 275280662624) (z := z) x; (case' h => unfold x); (case' k => (clear_value x; intro _)))
    | (extract_lets +onlyGivenNames x; clear_value x)
    | split
    | (rename_i hq; split at hq)
    | (rename_i hq; obtain ⟨_, rfl⟩ := Prod.mk.inj hq)

/-- May change: power, radio, slot, evr, core0, core1, registers of block 0 1 2 11. -/
theorem State.testLaunch_moves (z : State) (planned : Nat) : Moves 275817533664 z (State.testLaunch z planned).2 := by
  unfold State.testLaunch
  repeat'
    first
    | with_reducible apply Moves.refl
    | with_reducible assumption
    | intro _
    | ((with_reducible apply Moves.by (State.openTxWindow_moves _)); case hs => exact rfl)
    | ((with_reducible apply Moves.by (State.regRefused_moves _ _)); case hs => exact rfl)
    | ((with_reducible apply Moves.by (State.lockOn_moves _ _)); case hs => exact rfl)
    | ((with_reducible apply Moves.by (State.with_slot_moves _ _)); case hs => exact rfl)
    | rw [State.with_slot_eq]
    | with_reducible apply ite_moves
    | with_reducible apply ite_snd_moves
    | (extract_lets +onlyGivenNames x; apply Moves.cut (m := 275817533664) (z := z) x; (case' h => unfold x); (case' k => (clear_value x; intro _)))
    | (extract_lets +onlyGivenNames x; clear_value x)
    | split
    | (rename_i hq; split at hq)
    | (rename_i hq; obtain ⟨_, rfl⟩ := Prod.mk.inj hq)

theorem State.testLaunch_pair {z : State} {planned : Nat} {b1 : Bool} {u0 : State} {m0 : Nat} {r0 : State} (hp : State.testLaunch z planned = (b1, u0)) (hs : sub 275817533664 m0 = true) (h : Moves m0 r0 z) : Moves m0 r0 u0 := by
  have g := State.testLaunch_moves z planned
  rw [hp] at g
  exact h.step g hs

/-- May change: power, radio, slot, evr, core0, core1, free, registers of block 0 1 2 11. -/
theorem State.perNext_moves (a0 : Nat) (z : State) : Moves 275834310880 z (State.perNext a0 z) := by
  induction a0 generalizing z with
  | zero =>
  unfold State.perNext
  repeat'
    first
    | with_reducible apply Moves.refl
    | with_reducible assumption
    | intro _
    | ((with_reducible apply Moves.by (State.setTest_moves _ _)); case hs => exact rfl)
    | ((with_reducible apply Moves.by (State.testLaunch_moves _ _)); case hs => exact rfl)
    | ((with_reducible apply State.testLaunch_pair); (case hp => assumption); case hs => exact rfl)
    | ((with_reducible apply Moves.by (State.with_free_moves _ _)); case hs => exact rfl)
    | rw [State.with_free_eq]
    | with_reducible apply ite_moves
    | (extract_lets +onlyGivenNames x; apply Moves.cut (m := 275834310880) (z := z) x; (case' h => unfold x); (case' k => (clear_value x; intro _)))
    | (extract_lets +onlyGivenNames x; clear_value x)
    | split
    | (rename_i hq; split at hq)
    | (rename_i hq; obtain ⟨_, rfl⟩ := Prod.mk.inj hq)
  | succ n ih =>
  unfold State.perNext
  repeat'
    first
    | ((with_reducible apply Moves.by (ih _)); case hs => exact rfl)
    | with_reducible apply Moves.refl
    | with_reducible assumption
    | intro _
    | ((with_reducible apply Moves.by (State.setTest_moves _ _)); case hs => exact rfl)
    | ((with_reducible apply Moves.by (State.testLaunch_moves _ _)); case hs => exact rfl)
    | ((with_reducible apply State.testLaunch_pair); (case hp => assumption); case hs => exact rfl)
    | ((with_reducible apply Moves.by (State.with_free_moves _ _)); case hs => exact rfl)
    | rw [State.with_free_eq]
    | with_reducible apply ite_moves
    | (extract_lets +onlyGivenNames x; apply Moves.cut (m := 275834310880) (z := z) x; (case' h => unfold x); (case' k => (clear_value x; intro _)))
    | (extract_lets +onlyGivenNames x; clear_value x)
    | split
    | (rename_i hq; split at hq)
    | (rename_i hq; obtain ⟨_, rfl⟩ := Prod.mk.inj hq)

/-- May change: power, radio, slot, evr, core0, core1, free, registers of block 0 1 2 11. -/
theorem State.testFrameEnded_moves (z : State) (u : TxUnit) : Moves 275834310880 z (State.testFrameEnded z u) := by
  unfold State.testFrameEnded
  repeat'
    first
    | with_reducible apply Moves.refl
    | with_reducible assumption
    | intro _
    | ((with_reducible apply Moves.by (State.perNext_moves _ _)); case hs => exact rfl)
    | ((with_reducible apply Moves.by (State.setTest_moves _ _)); case hs => exact rfl)
    | ((with_reducible apply Moves.by (State.removeTx_moves _ _)); case hs => exact rfl)
    | with_reducible apply ite_moves
    | (extract_lets +onlyGivenNames x; apply Moves.cut (m := 275834310880) (z := z) x; (case' h => unfold x); (case' k => (clear_value x; intro _)))
    | (extract_lets +onlyGivenNames x; clear_value x)
    | split
    | (rename_i hq; split at hq)
    | (rename_i hq; obtain ⟨_, rfl⟩ := Prod.mk.inj hq)

end Sys2Proof.Machine
end

