-- ==== Sys2Proof/Laws/SlotProg.lean ====
section
/-! SUPPORT. What the operations of Machine/SlotProg.lean may change. -/
set_option linter.all false
namespace Sys2Proof.Machine

set_option linter.tactic.unusedName false

/-- May change: registers of block 4. -/
theorem State.setStandbyState_moves (z : State) (x : Nat) : Moves 2147483648 z (State.setStandbyState z x) := by
  unfold State.setStandbyState
  repeat'
    first
    | with_reducible apply Moves.refl
    | with_reducible assumption
    | intro _
    | ((with_reducible apply Moves.put); (case hf => (with_reducible apply SLE_STATUS_STANDBY_block)); case hm => exact rfl)
    | with_reducible apply ite_moves
    | (extract_lets +onlyGivenNames x; apply Moves.cut (m := 2147483648) (z := z) x; (case' h => unfold x); (case' k => (clear_value x; intro _)))
    | (extract_lets +onlyGivenNames x; clear_value x)
    | split
    | (rename_i hq; split at hq)
    | (rename_i hq; obtain ⟨_, rfl⟩ := Prod.mk.inj hq)

/-- May change: registers of block 4. -/
theorem State.cmdOk_moves (z : State) : Moves 2147483648 z (State.cmdOk z) := by
  unfold State.cmdOk
  repeat'
    first
    | with_reducible apply Moves.refl
    | with_reducible assumption
    | intro _
    | ((with_reducible apply Moves.flag); (case hf => (with_reducible apply SLE_STATUS_CMD_REJ_block)); case hm => exact rfl)
    | with_reducible apply ite_moves
    | (extract_lets +onlyGivenNames x; apply Moves.cut (m := 2147483648) (z := z) x; (case' h => unfold x); (case' k => (clear_value x; intro _)))
    | (extract_lets +onlyGivenNames x; clear_value x)
    | split
    | (rename_i hq; split at hq)
    | (rename_i hq; obtain ⟨_, rfl⟩ := Prod.mk.inj hq)

/-- May change: registers of block 4. -/
theorem State.cmdRej_moves (z : State) : Moves 2147483648 z (State.cmdRej z) := by
  unfold State.cmdRej
  repeat'
    first
    | with_reducible apply Moves.refl
    | with_reducible assumption
    | intro _
    | ((with_reducible apply Moves.flag); (case hf => (with_reducible apply SLE_STATUS_CMD_REJ_block)); case hm => exact rfl)
    | with_reducible apply ite_moves
    | (extract_lets +onlyGivenNames x; apply Moves.cut (m := 2147483648) (z := z) x; (case' h => unfold x); (case' k => (clear_value x; intro _)))
    | (extract_lets +onlyGivenNames x; clear_value x)
    | split
    | (rename_i hq; split at hq)
    | (rename_i hq; obtain ⟨_, rfl⟩ := Prod.mk.inj hq)

/-- May change: tnet, clock, mac. -/
theorem State.advance_moves (z : State) (n : Nat) : Moves 259 z (State.advance z n) := by
  unfold State.advance
  repeat'
    first
    | with_reducible apply Moves.refl
    | with_reducible assumption
    | intro _
    | ((with_reducible apply Moves.by (State.with_clock_moves _ _)); case hs => exact rfl)
    | rw [State.with_clock_eq]
    | ((with_reducible apply Moves.by (State.with_tnet_clock_mac_moves _ _ _ _)); case hs => exact rfl)
    | rw [State.with_tnet_clock_mac_eq]
    | with_reducible apply ite_moves
    | (extract_lets +onlyGivenNames x; apply Moves.cut (m := 259) (z := z) x; (case' h => unfold x); (case' k => (clear_value x; intro _)))
    | (extract_lets +onlyGivenNames x; clear_value x)
    | split
    | (rename_i hq; split at hq)
    | (rename_i hq; obtain ⟨_, rfl⟩ := Prod.mk.inj hq)

/-- May change: tnet, clock, mac. -/
theorem State.advanceTo_moves (z : State) (t : Nat) : Moves 259 z (State.advanceTo z t) := by
  unfold State.advanceTo
  repeat'
    first
    | with_reducible apply Moves.refl
    | with_reducible assumption
    | intro _
    | ((with_reducible apply Moves.by (State.advance_moves _ _)); case hs => exact rfl)
    | with_reducible apply ite_moves
    | (extract_lets +onlyGivenNames x; apply Moves.cut (m := 259) (z := z) x; (case' h => unfold x); (case' k => (clear_value x; intro _)))
    | (extract_lets +onlyGivenNames x; clear_value x)
    | split
    | (rename_i hq; split at hq)
    | (rename_i hq; obtain ⟨_, rfl⟩ := Prod.mk.inj hq)

/-- May change: faults, power, radio, slot, evr, core0, core1, registers of block 0 1 11 18. -/
theorem State.lockUp_moves (z : State) : Moves 35459652751600 z (State.lockUp z) := by
  unfold State.lockUp
  repeat'
    first
    | with_reducible apply Moves.refl
    | with_reducible assumption
    | intro _
    | ((with_reducible apply Moves.by (State.requestReset_moves _ _)); case hs => exact rfl)
    | ((with_reducible apply Moves.by (State.forceRampDown_moves _ _)); case hs => exact rfl)
    | ((with_reducible apply Moves.by (State.report_moves _ _ _ _ _ _)); case hs => exact rfl)
    | ((with_reducible apply Moves.by (State.raise_moves _ _)); case hs => exact rfl)
    | with_reducible apply ite_moves
    | (extract_lets +onlyGivenNames x; apply Moves.cut (m := 35459652751600) (z := z) x; (case' h => unfold x); (case' k => (clear_value x; intro _)))
    | (extract_lets +onlyGivenNames x; clear_value x)
    | split
    | (rename_i hq; split at hq)
    | (rename_i hq; obtain ⟨_, rfl⟩ := Prod.mk.inj hq)

/-- May change: faults, power, radio, slot, evr, core0, core1, registers of block 0 1 4 11 18. -/
theorem State.mismatched_moves (z : State) (st : Nat) (r : DropRec) : Moves 35461800235248 z (State.mismatched z st r) := by
  unfold State.mismatched
  repeat'
    first
    | with_reducible apply Moves.refl
    | with_reducible assumption
    | intro _
    | ((with_reducible apply Moves.by (State.drop_moves _ _)); case hs => exact rfl)
    | ((with_reducible apply Moves.by (State.report_moves _ _ _ _ _ _)); case hs => exact rfl)
    | ((with_reducible apply Moves.by (State.raise_moves _ _)); case hs => exact rfl)
    | ((with_reducible apply Moves.by (State.lockUp_moves _)); case hs => exact rfl)
    | ((with_reducible apply Moves.by (State.with_slot_moves _ _)); case hs => exact rfl)
    | rw [State.with_slot_eq]
    | ((with_reducible apply Moves.put); (case hf => (with_reducible first | apply SLE_STWIN_TWIN_block | apply SLE_TWINSTAT_COUNT_block | apply SLE_TWINSTAT_LAST_ASN_block | apply SLE_TWINSTAT_LAST_STAGE_block)); case hm => exact rfl)
    | ((with_reducible apply Moves.bump); (case hf => (with_reducible first | apply SLE_STWIN_TWIN_block | apply SLE_TWINSTAT_COUNT_block | apply SLE_TWINSTAT_LAST_ASN_block | apply SLE_TWINSTAT_LAST_STAGE_block)); case hm => exact rfl)
    | with_reducible apply ite_moves
    | (extract_lets +onlyGivenNames x; apply Moves.cut (m := 35461800235248) (z := z) x; (case' h => unfold x); (case' k => (clear_value x; intro _)))
    | (extract_lets +onlyGivenNames x; clear_value x)
    | split
    | (rename_i hq; split at hq)
    | (rename_i hq; obtain ⟨_, rfl⟩ := Prod.mk.inj hq)

/-- May change: faults, power, radio, slot, evr, core0, core1, registers of block 0 1 4 11 18. -/
theorem State.mismatchRx_moves (z : State) (u : RxUnit) : Moves 35461800235248 z (State.mismatchRx z u) := by
  unfold State.mismatchRx
  repeat'
    first
    | with_reducible apply Moves.refl
    | with_reducible assumption
    | intro _
    | ((with_reducible apply Moves.by (State.endRx_moves _ _)); case hs => exact rfl)
    | ((with_reducible apply Moves.by (State.mismatched_moves _ _ _)); case hs => exact rfl)
    | with_reducible apply ite_moves
    | (extract_lets +onlyGivenNames x; apply Moves.cut (m := 35461800235248) (z := z) x; (case' h => unfold x); (case' k => (clear_value x; intro _)))
    | (extract_lets +onlyGivenNames x; clear_value x)
    | split
    | (rename_i hq; split at hq)
    | (rename_i hq; obtain ⟨_, rfl⟩ := Prod.mk.inj hq)

/-- May change: mem, faults, power, radio, slot, mac, evr, core0, core1, lgy, registers of block 0 1 4 5 11 15 18. -/
theorem State.mismatchTx_moves (z : State) (u : TxUnit) : Moves 39864141844980 z (State.mismatchTx z u) := by
  unfold State.mismatchTx
  repeat'
    first
    | with_reducible apply Moves.refl
    | with_reducible assumption
    | intro _
    | ((with_reducible apply Moves.by (State.forceRampDown_moves _ _)); case hs => exact rfl)
    | ((with_reducible apply Moves.by (State.txReturn_moves _)); case hs => exact rfl)
    | ((with_reducible apply Moves.by (State.endTx_moves _ _ _)); case hs => exact rfl)
    | ((with_reducible apply Moves.by (State.mismatched_moves _ _ _)); case hs => exact rfl)
    | with_reducible apply ite_moves
    | (extract_lets +onlyGivenNames x; apply Moves.cut (m := 39864141844980) (z := z) x; (case' h => unfold x); (case' k => (clear_value x; intro _)))
    | (extract_lets +onlyGivenNames x; clear_value x)
    | split
    | (rename_i hq; split at hq)
    | (rename_i hq; obtain ⟨_, rfl⟩ := Prod.mk.inj hq)

/-- May change: slot. -/
theorem State.injectionDone_moves (z : State) : Moves 128 z (State.injectionDone z) := by
  unfold State.injectionDone
  repeat'
    first
    | with_reducible apply Moves.refl
    | with_reducible assumption
    | intro _
    | ((with_reducible apply Moves.by (State.with_slot_moves _ _)); case hs => exact rfl)
    | rw [State.with_slot_eq]
    | with_reducible apply ite_moves
    | (extract_lets +onlyGivenNames x; apply Moves.cut (m := 128) (z := z) x; (case' h => unfold x); (case' k => (clear_value x; intro _)))
    | (extract_lets +onlyGivenNames x; clear_value x)
    | split
    | (rename_i hq; split at hq)
    | (rename_i hq; obtain ⟨_, rfl⟩ := Prod.mk.inj hq)

end Sys2Proof.Machine
end

