-- ==== Sys2Proof/Laws/RxOps.lean ====
section
/-! SUPPORT. What the operations of Machine/RxOps.lean may change. -/
set_option linter.all false
namespace Sys2Proof.Machine

set_option linter.tactic.unusedName false

/-- May change: faults, power, radio, slot, evr, core0, core1, registers of block 0 1 4 11 18. -/
theorem State.passRx_moves (z : State) (u : RxUnit) (charge : Nat) : Moves 35461800235248 z (State.passRx z u charge) := by
  unfold State.passRx
  repeat'
    first
    | with_reducible apply Moves.refl
    | with_reducible assumption
    | intro _
    | ((with_reducible apply Moves.by (State.mismatchRx_moves _ _)); case hs => exact rfl)
    | ((with_reducible apply Moves.by (State.accepted_moves _ _)); case hs => exact rfl)
    | ((with_reducible apply Moves.by (State.handedOn_moves _ _ _)); case hs => exact rfl)
    | ((with_reducible apply Moves.by (State.moveRx_moves _ _)); case hs => exact rfl)
    | ((with_reducible apply Moves.by (State.injectionDone_moves _)); case hs => exact rfl)
    | with_reducible apply ite_moves
    | (extract_lets +onlyGivenNames x; apply Moves.cut (m := 35461800235248) (z := z) x; (case' h => unfold x); (case' k => (clear_value x; intro _)))
    | (extract_lets +onlyGivenNames x; clear_value x)
    | split
    | (rename_i hq; split at hq)
    | (rename_i hq; obtain ⟨_, rfl⟩ := Prod.mk.inj hq)

/-- May change: mem. -/
theorem State.admitUpdates_moves (z : State) (c : Nat) (u : RxUnit) : Moves 4 z (State.admitUpdates z c u) := by
  unfold State.admitUpdates
  repeat'
    first
    | with_reducible apply Moves.refl
    | with_reducible assumption
    | intro _
    | ((with_reducible apply Moves.by (State.setCtxFlag_moves _ _ _)); case hs => exact rfl)
    | ((with_reducible apply Moves.by (State.setCtx_moves _ _ _ _ _)); case hs => exact rfl)
    | with_reducible apply ite_moves
    | (extract_lets +onlyGivenNames x; apply Moves.cut (m := 4) (z := z) x; (case' h => unfold x); (case' k => (clear_value x; intro _)))
    | (extract_lets +onlyGivenNames x; clear_value x)
    | split
    | (rename_i hq; split at hq)
    | (rename_i hq; obtain ⟨_, rfl⟩ := Prod.mk.inj hq)

/-- May change: mem. -/
theorem State.foldOffset_moves (z : State) (c : Nat) (m : Int) : Moves 4 z (State.foldOffset z c m) := by
  unfold State.foldOffset
  repeat'
    first
    | with_reducible apply Moves.refl
    | with_reducible assumption
    | intro _
    | ((with_reducible apply Moves.by (State.setCtxFlag_moves _ _ _)); case hs => exact rfl)
    | ((with_reducible apply Moves.by (State.setCtx_moves _ _ _ _ _)); case hs => exact rfl)
    | with_reducible apply ite_moves
    | (extract_lets +onlyGivenNames x; apply Moves.cut (m := 4) (z := z) x; (case' h => unfold x); (case' k => (clear_value x; intro _)))
    | (extract_lets +onlyGivenNames x; clear_value x)
    | split
    | (rename_i hq; split at hq)
    | (rename_i hq; obtain ⟨_, rfl⟩ := Prod.mk.inj hq)

/-- May change: mem. -/
theorem State.foldRssi_moves (z : State) (c : Nat) (r : Int) : Moves 4 z (State.foldRssi z c r) := by
  unfold State.foldRssi
  repeat'
    first
    | with_reducible apply Moves.refl
    | with_reducible assumption
    | intro _
    | ((with_reducible apply Moves.by (State.setCtxFlag_moves _ _ _)); case hs => exact rfl)
    | ((with_reducible apply Moves.by (State.setCtx_moves _ _ _ _ _)); case hs => exact rfl)
    | with_reducible apply ite_moves
    | (extract_lets +onlyGivenNames x; apply Moves.cut (m := 4) (z := z) x; (case' h => unfold x); (case' k => (clear_value x; intro _)))
    | (extract_lets +onlyGivenNames x; clear_value x)
    | split
    | (rename_i hq; split at hq)
    | (rename_i hq; obtain ⟨_, rfl⟩ := Prod.mk.inj hq)

/-- May change: mem, mac. -/
theorem State.timeSample_moves (z : State) (c : Nat) (t : Nat) (m : Int) (resync : Bool) (phase : Bool) : Moves 260 z (State.timeSample z c t m resync phase) := by
  unfold State.timeSample
  repeat'
    first
    | with_reducible apply Moves.refl
    | with_reducible assumption
    | intro _
    | ((with_reducible apply Moves.by (State.setCtxFlag_moves _ _ _)); case hs => exact rfl)
    | ((with_reducible apply Moves.by (State.setCtx_moves _ _ _ _ _)); case hs => exact rfl)
    | ((with_reducible apply Moves.by (State.with_mac_moves _ _)); case hs => exact rfl)
    | rw [State.with_mac_eq]
    | with_reducible apply ite_moves
    | (extract_lets +onlyGivenNames x; apply Moves.cut (m := 260) (z := z) x; (case' h => unfold x); (case' k => (clear_value x; intro _)))
    | (extract_lets +onlyGivenNames x; clear_value x)
    | split
    | (rename_i hq; split at hq)
    | (rename_i hq; obtain ⟨_, rfl⟩ := Prod.mk.inj hq)

/-- May change: power, radio, evr, core0, core1, registers of block 0 2 5 11. -/
theorem State.synced_moves (z : State) : Moves 279844065376 z (State.synced z) := by
  unfold State.synced
  repeat'
    first
    | with_reducible apply Moves.refl
    | with_reducible assumption
    | intro _
    | ((with_reducible apply Moves.by (State.leaveScan_moves _ _)); case hs => exact rfl)
    | ((with_reducible apply Moves.by (State.raise_moves _ _)); case hs => exact rfl)
    | with_reducible apply ite_moves
    | (extract_lets +onlyGivenNames x; apply Moves.cut (m := 279844065376) (z := z) x; (case' h => unfold x); (case' k => (clear_value x; intro _)))
    | (extract_lets +onlyGivenNames x; clear_value x)
    | split
    | (rename_i hq; split at hq)
    | (rename_i hq; obtain ⟨_, rfl⟩ := Prod.mk.inj hq)

/-- May change: tnet, mem, power, radio, slot, mac, evr, core0, core1, registers of block 0 2 5 11. -/
theorem State.scanResync_moves (z : State) (c : Nat) (asn : Nat) (tSfd : Nat) (profile : Nat) : Moves 279844065765 z (State.scanResync z c asn tSfd profile) := by
  unfold State.scanResync
  repeat'
    first
    | with_reducible apply Moves.refl
    | with_reducible assumption
    | intro _
    | ((with_reducible apply Moves.by (State.timeSample_moves _ _ _ _ _ _)); case hs => exact rfl)
    | ((with_reducible apply Moves.by (State.synced_moves _)); case hs => exact rfl)
    | ((with_reducible apply Moves.by (State.setMiss_moves _ _ _)); case hs => exact rfl)
    | ((with_reducible apply Moves.by (State.with_slot_moves _ _)); case hs => exact rfl)
    | rw [State.with_slot_eq]
    | ((with_reducible apply Moves.by (State.with_tnet_slot_moves _ _ _)); case hs => exact rfl)
    | rw [State.with_tnet_slot_eq]
    | with_reducible apply ite_moves
    | (extract_lets +onlyGivenNames x; apply Moves.cut (m := 279844065765) (z := z) x; (case' h => unfold x); (case' k => (clear_value x; intro _)))
    | (extract_lets +onlyGivenNames x; clear_value x)
    | split
    | (rename_i hq; split at hq)
    | (rename_i hq; obtain ⟨_, rfl⟩ := Prod.mk.inj hq)

/-- May change: power, evr, core0, core1, registers of block 0 6 11. -/
theorem State.authFailed_moves (z : State) : Moves 283602161696 z (State.authFailed z) := by
  unfold State.authFailed
  repeat'
    first
    | with_reducible apply Moves.refl
    | with_reducible assumption
    | intro _
    | ((with_reducible apply Moves.by (State.raise_moves _ _)); case hs => exact rfl)
    | ((with_reducible apply Moves.bump); (case hf => (with_reducible apply SEC_COUNT0_SE_AUTHF_block)); case hm => exact rfl)
    | with_reducible apply ite_moves
    | (extract_lets +onlyGivenNames x; apply Moves.cut (m := 283602161696) (z := z) x; (case' h => unfold x); (case' k => (clear_value x; intro _)))
    | (extract_lets +onlyGivenNames x; clear_value x)
    | split
    | (rename_i hq; split at hq)
    | (rename_i hq; obtain ⟨_, rfl⟩ := Prod.mk.inj hq)

/-- May change: power, sec, evr, core0, core1, registers of block 0 6 11. -/
theorem State.secureRx_moves (z : State) (c : Nat) (u : RxUnit) : Moves 283602162208 z (State.secureRx z c u).2 := by
  unfold State.secureRx
  repeat'
    first
    | with_reducible apply Moves.refl
    | with_reducible assumption
    | intro _
    | ((with_reducible apply Moves.by (State.authFailed_moves _)); case hs => exact rfl)
    | ((with_reducible apply Moves.by (State.charged_moves _ _ _ _)); case hs => exact rfl)
    | ((with_reducible apply State.charged_pair); (case hp => assumption); case hs => exact rfl)
    | ((with_reducible apply Moves.by (State.seRefused_moves _ _ _)); case hs => exact rfl)
    | ((with_reducible apply Moves.bump); (case hf => (with_reducible apply SEC_COUNT0_SE_KEYLIM_block)); case hm => exact rfl)
    | with_reducible apply ite_moves
    | with_reducible apply ite_snd_moves
    | (extract_lets +onlyGivenNames x; apply Moves.cut (m := 283602162208) (z := z) x; (case' h => unfold x); (case' k => (clear_value x; intro _)))
    | (extract_lets +onlyGivenNames x; clear_value x)
    | split
    | (rename_i hq; split at hq)
    | (rename_i hq; obtain ⟨_, rfl⟩ := Prod.mk.inj hq)

theorem State.secureRx_pair {z : State} {c : Nat} {u : RxUnit} {b1 : SecureResult} {u0 : State} {m0 : Nat} {r0 : State} (hp : State.secureRx z c u = (b1, u0)) (hs : sub 283602162208 m0 = true) (h : Moves m0 r0 z) : Moves m0 r0 u0 := by
  have g := State.secureRx_moves z c u
  rw [hp] at g
  exact h.step g hs

/-- May change: mac. -/
theorem State.scheduleFollowUp_moves (z : State) (c : Nat) (send : Bool) (choff : Nat) : Moves 256 z (State.scheduleFollowUp z c send choff) := by
  unfold State.scheduleFollowUp
  repeat'
    first
    | with_reducible apply Moves.refl
    | with_reducible assumption
    | intro _
    | ((with_reducible apply Moves.by (State.with_mac_moves _ _)); case hs => exact rfl)
    | rw [State.with_mac_eq]
    | with_reducible apply ite_moves
    | (extract_lets +onlyGivenNames x; apply Moves.cut (m := 256) (z := z) x; (case' h => unfold x); (case' k => (clear_value x; intro _)))
    | (extract_lets +onlyGivenNames x; clear_value x)
    | split
    | (rename_i hq; split at hq)
    | (rename_i hq; obtain ⟨_, rfl⟩ := Prod.mk.inj hq)

/-- May change: slot. -/
theorem State.markValid_moves (z : State) (place : Nat) (c : Nat) (asn : Nat) : Moves 128 z (State.markValid z place c asn) := by
  unfold State.markValid
  repeat'
    first
    | with_reducible apply Moves.refl
    | with_reducible assumption
    | intro _
    | ((with_reducible apply Moves.by (State.with_slot_moves _ _)); case hs => exact rfl)
    | rw [State.with_slot_eq]
    | with_reducible apply ite_moves
    | (extract_lets +onlyGivenNames x; apply Moves.cut (m := 128) (z := z) x; (case' h => unfold x); (case' k => (clear_value x; intro _)))
    | (extract_lets +onlyGivenNames x; clear_value x)
    | split
    | (rename_i hq; split at hq)
    | (rename_i hq; obtain ⟨_, rfl⟩ := Prod.mk.inj hq)

end Sys2Proof.Machine
end

