-- ==== Sys2Proof/Laws/SlotTx.lean ====
section
/-! SUPPORT. What the operations of Machine/SlotTx.lean may change. -/
set_option linter.all false
namespace Sys2Proof.Machine

set_option linter.tactic.unusedName false

/-- May change: mem, faults, power, radio, slot, mac, evr, core0, core1, lgy, registers of block 0 1 4 5 11 15 18. -/
theorem State.passTx_moves (z : State) (u : TxUnit) (charge : Nat) : Moves 39864141844980 z (State.passTx z u charge) := by
  unfold State.passTx
  repeat'
    first
    | with_reducible apply Moves.refl
    | with_reducible assumption
    | intro _
    | ((with_reducible apply Moves.by (State.moveTx_moves _ _)); case hs => exact rfl)
    | ((with_reducible apply Moves.by (State.mismatchTx_moves _ _)); case hs => exact rfl)
    | ((with_reducible apply Moves.by (State.accepted_moves _ _)); case hs => exact rfl)
    | ((with_reducible apply Moves.by (State.handedOn_moves _ _ _)); case hs => exact rfl)
    | ((with_reducible apply Moves.by (State.injectionDone_moves _)); case hs => exact rfl)
    | with_reducible apply ite_moves
    | (extract_lets +onlyGivenNames x; apply Moves.cut (m := 39864141844980) (z := z) x; (case' h => unfold x); (case' k => (clear_value x; intro _)))
    | (extract_lets +onlyGivenNames x; clear_value x)
    | split
    | (rename_i hq; split at hq)
    | (rename_i hq; obtain ⟨_, rfl⟩ := Prod.mk.inj hq)

/-- May change: mem, faults, power, radio, slot, mac, evr, core0, core1, lgy, registers of block 0 1 4 5 11 15 18. -/
theorem execDequeueStage_goes (charge : Nat) (z : State) : Goes 39864141844980 z (execDequeueStage charge z) := by
  unfold execDequeueStage
  repeat'
    first
    | with_reducible apply Moves.refl
    | with_reducible assumption
    | intro _
    | with_reducible apply goOn_goes
    | with_reducible apply ite_goes
    | ((with_reducible apply Moves.by (State.passTx_moves _ _ _)); case hs => exact rfl)
    | ((with_reducible apply Moves.by (State.finishDesc_moves _ _ _)); case hs => exact rfl)
    | ((with_reducible apply Moves.by (State.removeTx_moves _ _)); case hs => exact rfl)
    | ((with_reducible apply Moves.by (State.with_mac_moves _ _)); case hs => exact rfl)
    | rw [State.with_mac_eq]
    | with_reducible apply ite_moves
    | (extract_lets +onlyGivenNames x; apply Moves.cut (m := 39864141844980) (z := z) x; (case' h => unfold x); (case' k => (clear_value x; intro _)))
    | (extract_lets +onlyGivenNames x; clear_value x)
    | split
    | (rename_i hq; split at hq)
    | (rename_i hq; obtain ⟨_, rfl⟩ := Prod.mk.inj hq)

/-- May change: mac. -/
theorem State.takeSeq_moves (z : State) (kept : Option Nat) : Moves 256 z (State.takeSeq z kept).2 := by
  unfold State.takeSeq
  repeat'
    first
    | with_reducible apply Moves.refl
    | with_reducible assumption
    | intro _
    | ((with_reducible apply Moves.by (State.with_mac_moves _ _)); case hs => exact rfl)
    | rw [State.with_mac_eq]
    | with_reducible apply ite_moves
    | with_reducible apply ite_snd_moves
    | (extract_lets +onlyGivenNames x; apply Moves.cut (m := 256) (z := z) x; (case' h => unfold x); (case' k => (clear_value x; intro _)))
    | (extract_lets +onlyGivenNames x; clear_value x)
    | split
    | (rename_i hq; split at hq)
    | (rename_i hq; obtain ⟨_, rfl⟩ := Prod.mk.inj hq)

theorem State.takeSeq_pair {z : State} {kept : Option Nat} {b1 : Nat} {u0 : State} {m0 : Nat} {r0 : State} (hp : State.takeSeq z kept = (b1, u0)) (hs : sub 256 m0 = true) (h : Moves m0 r0 z) : Moves m0 r0 u0 := by
  have g := State.takeSeq_moves z kept
  rw [hp] at g
  exact h.step g hs

/-- May change: mac. -/
theorem State.keepSeq_moves (z : State) (u : TxUnit) (q : Nat) : Moves 256 z (State.keepSeq z u q) := by
  unfold State.keepSeq
  repeat'
    first
    | with_reducible apply Moves.refl
    | with_reducible assumption
    | intro _
    | ((with_reducible apply Moves.by (State.with_mac_moves _ _)); case hs => exact rfl)
    | rw [State.with_mac_eq]
    | with_reducible apply ite_moves
    | (extract_lets +onlyGivenNames x; apply Moves.cut (m := 256) (z := z) x; (case' h => unfold x); (case' k => (clear_value x; intro _)))
    | (extract_lets +onlyGivenNames x; clear_value x)
    | split
    | (rename_i hq; split at hq)
    | (rename_i hq; obtain ⟨_, rfl⟩ := Prod.mk.inj hq)

/-- May change: mac. -/
theorem State.keepFc_moves (z : State) (u : TxUnit) (q : Nat) : Moves 256 z (State.keepFc z u q) := by
  unfold State.keepFc
  repeat'
    first
    | with_reducible apply Moves.refl
    | with_reducible assumption
    | intro _
    | ((with_reducible apply Moves.by (State.with_mac_moves _ _)); case hs => exact rfl)
    | rw [State.with_mac_eq]
    | with_reducible apply ite_moves
    | (extract_lets +onlyGivenNames x; apply Moves.cut (m := 256) (z := z) x; (case' h => unfold x); (case' k => (clear_value x; intro _)))
    | (extract_lets +onlyGivenNames x; clear_value x)
    | split
    | (rename_i hq; split at hq)
    | (rename_i hq; obtain ⟨_, rfl⟩ := Prod.mk.inj hq)

/-- May change: mac. -/
theorem State.built_moves (z : State) (u : TxUnit) : Moves 256 z (State.built z u).2 := by
  unfold State.built
  repeat'
    first
    | with_reducible apply Moves.refl
    | with_reducible assumption
    | intro _
    | ((with_reducible apply Moves.by (State.takeSeq_moves _ _)); case hs => exact rfl)
    | ((with_reducible apply State.takeSeq_pair); (case hp => assumption); case hs => exact rfl)
    | ((with_reducible apply Moves.by (State.keepSeq_moves _ _ _)); case hs => exact rfl)
    | ((with_reducible apply Moves.by (State.with_mac_moves _ _)); case hs => exact rfl)
    | rw [State.with_mac_eq]
    | with_reducible apply ite_moves
    | with_reducible apply ite_snd_moves
    | (extract_lets +onlyGivenNames x; apply Moves.cut (m := 256) (z := z) x; (case' h => unfold x); (case' k => (clear_value x; intro _)))
    | (extract_lets +onlyGivenNames x; clear_value x)
    | split
    | (rename_i hq; split at hq)
    | (rename_i hq; obtain ⟨_, rfl⟩ := Prod.mk.inj hq)

theorem State.built_pair {z : State} {u : TxUnit} {b1 : TxUnit} {u0 : State} {m0 : Nat} {r0 : State} (hp : State.built z u = (b1, u0)) (hs : sub 256 m0 = true) (h : Moves m0 r0 z) : Moves m0 r0 u0 := by
  have g := State.built_moves z u
  rw [hp] at g
  exact h.step g hs

/-- May change: mem, faults, power, radio, slot, mac, evr, core0, core1, lgy, registers of block 0 1 4 5 11 15 18. -/
theorem execBuildStage_goes (unit : Nat) (charge : Nat) (z : State) : Goes 39864141844980 z (execBuildStage unit charge z) := by
  unfold execBuildStage
  repeat'
    first
    | with_reducible apply Moves.refl
    | with_reducible assumption
    | intro _
    | with_reducible apply goOn_goes
    | with_reducible apply ite_goes
    | ((with_reducible apply Moves.by (State.passTx_moves _ _ _)); case hs => exact rfl)
    | ((with_reducible apply Moves.by (State.endTx_moves _ _ _)); case hs => exact rfl)
    | ((with_reducible apply Moves.by (State.built_moves _ _)); case hs => exact rfl)
    | ((with_reducible apply State.built_pair); (case hp => assumption); case hs => exact rfl)
    | with_reducible apply ite_moves
    | (extract_lets +onlyGivenNames x; apply Moves.cut (m := 39864141844980) (z := z) x; (case' h => unfold x); (case' k => (clear_value x; intro _)))
    | (extract_lets +onlyGivenNames x; clear_value x)
    | split
    | (rename_i hq; split at hq)
    | (rename_i hq; obtain ⟨_, rfl⟩ := Prod.mk.inj hq)

/-- May change: mac, sec. -/
theorem State.takeFc_moves (z : State) (u : TxUnit) (k : Nat) : Moves 768 z (State.takeFc z u k).2 := by
  unfold State.takeFc
  repeat'
    first
    | with_reducible apply Moves.refl
    | with_reducible assumption
    | intro _
    | ((with_reducible apply Moves.by (State.keepFc_moves _ _ _)); case hs => exact rfl)
    | ((with_reducible apply Moves.by (State.setKey_moves _ _ _)); case hs => exact rfl)
    | with_reducible apply ite_moves
    | with_reducible apply ite_snd_moves
    | (extract_lets +onlyGivenNames x; apply Moves.cut (m := 768) (z := z) x; (case' h => unfold x); (case' k => (clear_value x; intro _)))
    | (extract_lets +onlyGivenNames x; clear_value x)
    | split
    | (rename_i hq; split at hq)
    | (rename_i hq; obtain ⟨_, rfl⟩ := Prod.mk.inj hq)

theorem State.takeFc_pair {z : State} {u : TxUnit} {k : Nat} {b1 : Nat} {u0 : State} {m0 : Nat} {r0 : State} (hp : State.takeFc z u k = (b1, u0)) (hs : sub 768 m0 = true) (h : Moves m0 r0 z) : Moves m0 r0 u0 := by
  have g := State.takeFc_moves z u k
  rw [hp] at g
  exact h.step g hs

/-- May change: mem, power, slot, mac, evr, core0, core1, lgy, registers of block 0 5 11 15. -/
theorem State.txSecureEnd_moves (z : State) (u : TxUnit) (status : Nat) : Moves 4677353836964 z (State.txSecureEnd z u status) := by
  unfold State.txSecureEnd
  repeat'
    first
    | with_reducible apply Moves.refl
    | with_reducible assumption
    | intro _
    | ((with_reducible apply Moves.by (State.endTx_moves _ _ _)); case hs => exact rfl)
    | with_reducible apply ite_moves
    | (extract_lets +onlyGivenNames x; apply Moves.cut (m := 4677353836964) (z := z) x; (case' h => unfold x); (case' k => (clear_value x; intro _)))
    | (extract_lets +onlyGivenNames x; clear_value x)
    | split
    | (rename_i hq; split at hq)
    | (rename_i hq; obtain ⟨_, rfl⟩ := Prod.mk.inj hq)

/-- May change: mem, power, slot, mac, sec, evr, core0, core1, lgy, registers of block 0 5 6 11 15. -/
theorem State.txSecureStart_moves (z : State) (u : TxUnit) : Moves 4685943772068 z (State.txSecureStart z u).2 := by
  unfold State.txSecureStart
  repeat'
    first
    | with_reducible apply Moves.refl
    | with_reducible assumption
    | intro _
    | ((with_reducible apply Moves.by (State.takeFc_moves _ _ _)); case hs => exact rfl)
    | ((with_reducible apply State.takeFc_pair); (case hp => assumption); case hs => exact rfl)
    | ((with_reducible apply Moves.by (State.txSecureEnd_moves _ _ _)); case hs => exact rfl)
    | ((with_reducible apply Moves.by (State.charged_moves _ _ _ _)); case hs => exact rfl)
    | ((with_reducible apply State.charged_pair); (case hp => assumption); case hs => exact rfl)
    | ((with_reducible apply Moves.by (State.seRefused_moves _ _ _)); case hs => exact rfl)
    | ((with_reducible apply Moves.bump); (case hf => (with_reducible apply SEC_COUNT0_SE_KEYLIM_block)); case hm => exact rfl)
    | with_reducible apply ite_moves
    | with_reducible apply ite_snd_moves
    | (extract_lets +onlyGivenNames x; apply Moves.cut (m := 4685943772068) (z := z) x; (case' h => unfold x); (case' k => (clear_value x; intro _)))
    | (extract_lets +onlyGivenNames x; clear_value x)
    | split
    | (rename_i hq; split at hq)
    | (rename_i hq; obtain ⟨_, rfl⟩ := Prod.mk.inj hq)

theorem State.txSecureStart_pair {z : State} {u : TxUnit} {b1 : Option (Nat × Nat)} {u0 : State} {m0 : Nat} {r0 : State} (hp : State.txSecureStart z u = (b1, u0)) (hs : sub 4685943772068 m0 = true) (h : Moves m0 r0 z) : Moves m0 r0 u0 := by
  have g := State.txSecureStart_moves z u
  rw [hp] at g
  exact h.step g hs

/-- May change: mem, faults, power, radio, slot, mac, sec, evr, core0, core1, lgy, registers of block 0 1 4 5 6 11 15 18. -/
theorem execSecureTxStage_goes (unit : Nat) (charge : Nat) (z : State) : Goes 39872731780084 z (execSecureTxStage unit charge z) := by
  unfold execSecureTxStage
  repeat'
    first
    | with_reducible apply Moves.refl
    | with_reducible assumption
    | intro _
    | with_reducible apply goOn_goes
    | with_reducible apply ite_goes
    | ((with_reducible apply Moves.by (State.txSecureStart_moves _ _)); case hs => exact rfl)
    | ((with_reducible apply State.txSecureStart_pair); (case hp => assumption); case hs => exact rfl)
    | ((with_reducible apply Moves.by (State.passTx_moves _ _ _)); case hs => exact rfl)
    | with_reducible apply ite_moves
    | (extract_lets +onlyGivenNames x; apply Moves.cut (m := 39872731780084) (z := z) x; (case' h => unfold x); (case' k => (clear_value x; intro _)))
    | (extract_lets +onlyGivenNames x; clear_value x)
    | split
    | (rename_i hq; split at hq)
    | (rename_i hq; obtain ⟨_, rfl⟩ := Prod.mk.inj hq)

/-- May change: slot, lgy, registers of block 15. -/
theorem State.lgyOctet_moves (z : State) (u : TxUnit) : Moves 4398046642304 z (State.lgyOctet z u) := by
  unfold State.lgyOctet
  repeat'
    first
    | with_reducible apply Moves.refl
    | with_reducible assumption
    | intro _
    | ((with_reducible apply Moves.by (State.lgyTake_moves _ _)); case hs => exact rfl)
    | ((with_reducible apply Moves.by (State.setTx_moves _ _)); case hs => exact rfl)
    | ((with_reducible apply Moves.by (State.with_lgy_moves _ _)); case hs => exact rfl)
    | rw [State.with_lgy_eq]
    | with_reducible apply ite_moves
    | (extract_lets +onlyGivenNames x; apply Moves.cut (m := 4398046642304) (z := z) x; (case' h => unfold x); (case' k => (clear_value x; intro _)))
    | (extract_lets +onlyGivenNames x; clear_value x)
    | split
    | (rename_i hq; split at hq)
    | (rename_i hq; obtain ⟨_, rfl⟩ := Prod.mk.inj hq)

/-- May change: slot, lgy, registers of block 15. -/
theorem State.lgyOpenFrame_moves (z : State) (u : TxUnit) : Moves 4398046642304 z (State.lgyOpenFrame z u).2 := by
  unfold State.lgyOpenFrame
  repeat'
    first
    | with_reducible apply Moves.refl
    | with_reducible assumption
    | intro _
    | ((with_reducible apply Moves.by (State.lgyFlag_moves _ _)); case hs => exact rfl)
    | ((with_reducible apply Moves.by (State.removeTx_moves _ _)); case hs => exact rfl)
    | ((with_reducible apply Moves.by (State.with_lgy_moves _ _)); case hs => exact rfl)
    | rw [State.with_lgy_eq]
    | with_reducible apply ite_moves
    | with_reducible apply ite_snd_moves
    | (extract_lets +onlyGivenNames x; apply Moves.cut (m := 4398046642304) (z := z) x; (case' h => unfold x); (case' k => (clear_value x; intro _)))
    | (extract_lets +onlyGivenNames x; clear_value x)
    | split
    | (rename_i hq; split at hq)
    | (rename_i hq; obtain ⟨_, rfl⟩ := Prod.mk.inj hq)

theorem State.lgyOpenFrame_pair {z : State} {u : TxUnit} {b1 : Option TxUnit} {u0 : State} {m0 : Nat} {r0 : State} (hp : State.lgyOpenFrame z u = (b1, u0)) (hs : sub 4398046642304 m0 = true) (h : Moves m0 r0 z) : Moves m0 r0 u0 := by
  have g := State.lgyOpenFrame_moves z u
  rw [hp] at g
  exact h.step g hs

/-- May change: mem, faults, power, radio, slot, mac, evr, core0, core1, lgy, registers of block 0 1 4 5 11 15 18. -/
theorem execEncodeStage_goes (unit : Nat) (charge : Nat) (z : State) : Goes 39864141844980 z (execEncodeStage unit charge z) := by
  unfold execEncodeStage
  repeat'
    first
    | with_reducible apply Moves.refl
    | with_reducible assumption
    | intro _
    | with_reducible apply goOn_goes
    | with_reducible apply ite_goes
    | ((with_reducible apply Moves.by (State.lgyOpenFrame_moves _ _)); case hs => exact rfl)
    | ((with_reducible apply State.lgyOpenFrame_pair); (case hp => assumption); case hs => exact rfl)
    | ((with_reducible apply Moves.by (State.passTx_moves _ _ _)); case hs => exact rfl)
    | ((with_reducible apply Moves.by (State.lgyOctet_moves _ _)); case hs => exact rfl)
    | ((with_reducible apply Moves.by (State.endTx_moves _ _ _)); case hs => exact rfl)
    | ((with_reducible apply Moves.by (State.with_mac_moves _ _)); case hs => exact rfl)
    | rw [State.with_mac_eq]
    | with_reducible apply ite_moves
    | (extract_lets +onlyGivenNames x; apply Moves.cut (m := 39864141844980) (z := z) x; (case' h => unfold x); (case' k => (clear_value x; intro _)))
    | (extract_lets +onlyGivenNames x; clear_value x)
    | split
    | (rename_i hq; split at hq)
    | (rename_i hq; obtain ⟨_, rfl⟩ := Prod.mk.inj hq)

/-- May change: mem, faults, power, radio, slot, mac, evr, core0, core1, lgy, registers of block 0 1 4 5 11 15 18. -/
theorem execModulateStage_goes (unit : Nat) (charge : Nat) (z : State) : Goes 39864141844980 z (execModulateStage unit charge z) := by
  unfold execModulateStage
  repeat'
    first
    | with_reducible apply Moves.refl
    | with_reducible assumption
    | intro _
    | with_reducible apply goOn_goes
    | with_reducible apply ite_goes
    | ((with_reducible apply Moves.by (State.passTx_moves _ _ _)); case hs => exact rfl)
    | with_reducible apply ite_moves
    | (extract_lets +onlyGivenNames x; apply Moves.cut (m := 39864141844980) (z := z) x; (case' h => unfold x); (case' k => (clear_value x; intro _)))
    | (extract_lets +onlyGivenNames x; clear_value x)
    | split
    | (rename_i hq; split at hq)
    | (rename_i hq; obtain ⟨_, rfl⟩ := Prod.mk.inj hq)

/-- May change: mem, faults, power, radio, slot, mac, evr, core0, core1, lgy, registers of block 0 1 3 4 5 11 15 18. -/
theorem execMaskStage_goes (unit : Nat) (charge : Nat) (z : State) : Goes 39865215586804 z (execMaskStage unit charge z) := by
  unfold execMaskStage
  repeat'
    first
    | with_reducible apply Moves.refl
    | with_reducible assumption
    | intro _
    | with_reducible apply goOn_goes
    | with_reducible apply ite_goes
    | ((with_reducible apply Moves.by (State.passTx_moves _ _ _)); case hs => exact rfl)
    | ((with_reducible apply Moves.flag); (case hf => (with_reducible apply TXP_STATUS_LAST_CLAMP_block)); case hm => exact rfl)
    | with_reducible apply ite_moves
    | (extract_lets +onlyGivenNames x; apply Moves.cut (m := 39865215586804) (z := z) x; (case' h => unfold x); (case' k => (clear_value x; intro _)))
    | (extract_lets +onlyGivenNames x; clear_value x)
    | split
    | (rename_i hq; split at hq)
    | (rename_i hq; obtain ⟨_, rfl⟩ := Prod.mk.inj hq)

/-- May change: radio, registers of block 1. -/
theorem State.sampleVsup_moves (z : State) (mv : Nat) : Moves 268435520 z (State.sampleVsup z mv) := by
  unfold State.sampleVsup
  repeat'
    first
    | with_reducible apply Moves.refl
    | with_reducible assumption
    | intro _
    | ((with_reducible apply Moves.by (State.with_radio_moves _ _)); case hs => exact rfl)
    | rw [State.with_radio_eq]
    | ((with_reducible apply Moves.flag); (case hf => (with_reducible apply RFC_STATE_VSUP_HI_block)); case hm => exact rfl)
    | with_reducible apply ite_moves
    | (extract_lets +onlyGivenNames x; apply Moves.cut (m := 268435520) (z := z) x; (case' h => unfold x); (case' k => (clear_value x; intro _)))
    | (extract_lets +onlyGivenNames x; clear_value x)
    | split
    | (rename_i hq; split at hq)
    | (rename_i hq; obtain ⟨_, rfl⟩ := Prod.mk.inj hq)

/-- May change: power, radio, slot, evr, core0, core1, registers of block 0 1 2 4 11. -/
theorem State.launched_moves (z : State) (u : TxUnit) (g : Nat) (charge : Nat) : Moves 277965017312 z (State.launched z u g charge) := by
  unfold State.launched
  repeat'
    first
    | with_reducible apply Moves.refl
    | with_reducible assumption
    | intro _
    | ((with_reducible apply Moves.by (State.openTxWindow_moves _)); case hs => exact rfl)
    | ((with_reducible apply Moves.by (State.lockOn_moves _ _)); case hs => exact rfl)
    | ((with_reducible apply Moves.by (State.handedOn_moves _ _ _)); case hs => exact rfl)
    | ((with_reducible apply Moves.by (State.setTx_moves _ _)); case hs => exact rfl)
    | with_reducible apply ite_moves
    | (extract_lets +onlyGivenNames x; apply Moves.cut (m := 277965017312) (z := z) x; (case' h => unfold x); (case' k => (clear_value x; intro _)))
    | (extract_lets +onlyGivenNames x; clear_value x)
    | split
    | (rename_i hq; split at hq)
    | (rename_i hq; obtain ⟨_, rfl⟩ := Prod.mk.inj hq)

/-- May change: mem, faults, power, radio, slot, mac, evr, core0, core1, lgy, registers of block 0 1 2 4 5 11 15 18. -/
theorem execLaunchStage_goes (unit : Nat) (charge : Nat) (vsup : Nat) (z : State) : Goes 39864678715892 z (execLaunchStage unit charge vsup z) := by
  unfold execLaunchStage
  repeat'
    first
    | with_reducible apply Moves.refl
    | with_reducible assumption
    | intro _
    | with_reducible apply goOn_goes
    | with_reducible apply ite_goes
    | ((with_reducible apply Moves.by (State.sampleVsup_moves _ _)); case hs => exact rfl)
    | ((with_reducible apply Moves.by (State.mismatchTx_moves _ _)); case hs => exact rfl)
    | ((with_reducible apply Moves.by (State.regRefused_moves _ _)); case hs => exact rfl)
    | ((with_reducible apply Moves.by (State.launched_moves _ _ _ _)); case hs => exact rfl)
    | ((with_reducible apply Moves.by (State.lateTx_moves _ _ _)); case hs => exact rfl)
    | ((with_reducible apply Moves.by (State.lock_moves _ _)); case hs => exact rfl)
    | ((with_reducible apply Moves.by (State.txReturn_moves _)); case hs => exact rfl)
    | ((with_reducible apply Moves.by (State.endTx_moves _ _ _)); case hs => exact rfl)
    | ((with_reducible apply Moves.by (State.injectionDone_moves _)); case hs => exact rfl)
    | with_reducible apply ite_moves
    | (extract_lets +onlyGivenNames x; apply Moves.cut (m := 39864678715892) (z := z) x; (case' h => unfold x); (case' k => (clear_value x; intro _)))
    | (extract_lets +onlyGivenNames x; clear_value x)
    | split
    | (rename_i hq; split at hq)
    | (rename_i hq; obtain ⟨_, rfl⟩ := Prod.mk.inj hq)

end Sys2Proof.Machine
end

