-- ==== Sys2Proof/Laws/SlotRx.lean ====
section
/-! SUPPORT. What the operations of Machine/SlotRx.lean may change. -/
set_option linter.all false
namespace Sys2Proof.Machine

set_option linter.tactic.unusedName false

/-- Changes what the end of the frame changes, and what the stage's own part changes. -/
theorem State.rxStage_moves {m : Nat} {r s : State} {st unit charge : Nat} {f : RxUnit → State} (hs : sub 128 m = true)
    (h : Moves m r s) (hf : ∀ u, Moves m r (f u)) : Moves m r (s.rxStage st unit charge f) := by
  unfold State.rxStage
  split
  · exact h
  · split
    · exact h.step (State.endRx_moves _ _) hs
    · exact hf _

/-- May change: faults, power, radio, slot, evr, core0, core1, registers of block 0 1 4 11 18. -/
theorem execCaptureStage_goes (unit : Nat) (charge : Nat) (z : State) : Goes 35461800235248 z (execCaptureStage unit charge z) := by
  unfold execCaptureStage
  repeat'
    first
    | with_reducible apply Moves.refl
    | with_reducible assumption
    | intro _
    | with_reducible apply goOn_goes
    | with_reducible apply ite_goes
    | ((with_reducible apply State.rxStage_moves); case hs => exact rfl)
    | ((with_reducible apply Moves.by (State.passRx_moves _ _ _)); case hs => exact rfl)
    | (extract_lets +onlyGivenNames x; apply Moves.cut (m := 35461800235248) (z := z) x; (case' h => unfold x); (case' k => (clear_value x; intro _)))
    | (extract_lets +onlyGivenNames x; clear_value x)
    | split
    | (rename_i hq; split at hq)
    | (rename_i hq; obtain ⟨_, rfl⟩ := Prod.mk.inj hq)

/-- May change: faults, power, radio, slot, evr, core0, core1, registers of block 0 1 2 4 11 15 18. -/
theorem execPhrStage_goes (unit : Nat) (charge : Nat) (ms : Bool) (fcsT : Bool) (dw : Bool) (length : Nat) (z : State) : Goes 39860383617264 z (execPhrStage unit charge ms fcsT dw length z) := by
  unfold execPhrStage
  repeat'
    first
    | with_reducible apply Moves.refl
    | with_reducible assumption
    | intro _
    | with_reducible apply goOn_goes
    | with_reducible apply ite_goes
    | ((with_reducible apply Moves.by (State.endRx_moves _ _)); case hs => exact rfl)
    | ((with_reducible apply Moves.by (State.lgyFlag_moves _ _)); case hs => exact rfl)
    | ((with_reducible apply State.rxStage_moves); case hs => exact rfl)
    | ((with_reducible apply Moves.by (State.perCount_moves _ _ _)); case hs => exact rfl)
    | ((with_reducible apply Moves.by (State.raise_moves _ _)); case hs => exact rfl)
    | ((with_reducible apply Moves.by (State.leaveFrame_moves _ _)); case hs => exact rfl)
    | ((with_reducible apply Moves.by (State.passRx_moves _ _ _)); case hs => exact rfl)
    | with_reducible apply ite_moves
    | (extract_lets +onlyGivenNames x; apply Moves.cut (m := 39860383617264) (z := z) x; (case' h => unfold x); (case' k => (clear_value x; intro _)))
    | (extract_lets +onlyGivenNames x; clear_value x)
    | split
    | (rename_i hq; split at hq)
    | (rename_i hq; obtain ⟨_, rfl⟩ := Prod.mk.inj hq)

/-- May change: faults, power, radio, slot, evr, core0, core1, registers of block 0 1 4 11 18. -/
theorem execDecodeStage_goes (unit : Nat) (charge : Nat) (soft : List Int) (z : State) : Goes 35461800235248 z (execDecodeStage unit charge soft z) := by
  unfold execDecodeStage
  repeat'
    first
    | with_reducible apply Moves.refl
    | with_reducible assumption
    | intro _
    | with_reducible apply goOn_goes
    | with_reducible apply ite_goes
    | ((with_reducible apply Moves.by (State.raiseIf_moves _ _ _)); case hs => exact rfl)
    | ((with_reducible apply State.rxStage_moves); case hs => exact rfl)
    | ((with_reducible apply Moves.by (State.passRx_moves _ _ _)); case hs => exact rfl)
    | with_reducible apply ite_moves
    | (extract_lets +onlyGivenNames x; apply Moves.cut (m := 35461800235248) (z := z) x; (case' h => unfold x); (case' k => (clear_value x; intro _)))
    | (extract_lets +onlyGivenNames x; clear_value x)
    | split
    | (rename_i hq; split at hq)
    | (rename_i hq; obtain ⟨_, rfl⟩ := Prod.mk.inj hq)

/-- May change: radio. -/
theorem State.perFrame_moves (z : State) (u : RxUnit) (good : Bool) : Moves 64 z (State.perFrame z u good) := by
  unfold State.perFrame
  repeat'
    first
    | with_reducible apply Moves.refl
    | with_reducible assumption
    | intro _
    | ((with_reducible apply Moves.by (State.setTest_moves _ _)); case hs => exact rfl)
    | with_reducible apply ite_moves
    | (extract_lets +onlyGivenNames x; apply Moves.cut (m := 64) (z := z) x; (case' h => unfold x); (case' k => (clear_value x; intro _)))
    | (extract_lets +onlyGivenNames x; clear_value x)
    | split
    | (rename_i hq; split at hq)
    | (rename_i hq; obtain ⟨_, rfl⟩ := Prod.mk.inj hq)

/-- May change: faults, power, radio, slot, evr, core0, core1, registers of block 0 1 4 11 15 18. -/
theorem execCrcCheck_goes (unit : Nat) (charge : Nat) (z : State) : Goes 39859846746352 z (execCrcCheck unit charge z) := by
  unfold execCrcCheck
  repeat'
    first
    | with_reducible apply Moves.refl
    | with_reducible assumption
    | intro _
    | with_reducible apply goOn_goes
    | with_reducible apply ite_goes
    | ((with_reducible apply Moves.by (State.setRx_moves _ _)); case hs => exact rfl)
    | ((with_reducible apply Moves.by (State.perFrame_moves _ _ _)); case hs => exact rfl)
    | ((with_reducible apply Moves.by (State.endRx_moves _ _)); case hs => exact rfl)
    | ((with_reducible apply Moves.by (State.lgyFlag_moves _ _)); case hs => exact rfl)
    | ((with_reducible apply State.rxStage_moves); case hs => exact rfl)
    | ((with_reducible apply Moves.by (State.passRx_moves _ _ _)); case hs => exact rfl)
    | ((with_reducible apply Moves.by (State.removeRx_moves _ _)); case hs => exact rfl)
    | with_reducible apply ite_moves
    | (extract_lets +onlyGivenNames x; apply Moves.cut (m := 39859846746352) (z := z) x; (case' h => unfold x); (case' k => (clear_value x; intro _)))
    | (extract_lets +onlyGivenNames x; clear_value x)
    | split
    | (rename_i hq; split at hq)
    | (rename_i hq; obtain ⟨_, rfl⟩ := Prod.mk.inj hq)

/-- May change: faults, power, radio, slot, evr, core0, core1, registers of block 0 1 4 5 11 18. -/
theorem execParseStage_goes (unit : Nat) (charge : Nat) (z : State) : Goes 35466095202544 z (execParseStage unit charge z) := by
  unfold execParseStage
  repeat'
    first
    | with_reducible apply Moves.refl
    | with_reducible assumption
    | intro _
    | with_reducible apply goOn_goes
    | with_reducible apply ite_goes
    | ((with_reducible apply Moves.by (State.endRx_moves _ _)); case hs => exact rfl)
    | ((with_reducible apply State.rxStage_moves); case hs => exact rfl)
    | ((with_reducible apply Moves.by (State.passRx_moves _ _ _)); case hs => exact rfl)
    | ((with_reducible apply Moves.bump); (case hf => (with_reducible first | apply MAC_RXDISC_BAD_FRAME_block | apply MAC_RXDISC_NOT_MINE_block)); case hm => exact rfl)
    | with_reducible apply ite_moves
    | (extract_lets +onlyGivenNames x; apply Moves.cut (m := 35466095202544) (z := z) x; (case' h => unfold x); (case' k => (clear_value x; intro _)))
    | (extract_lets +onlyGivenNames x; clear_value x)
    | split
    | (rename_i hq; split at hq)
    | (rename_i hq; obtain ⟨_, rfl⟩ := Prod.mk.inj hq)

/-- May change: faults, power, radio, slot, evr, core0, core1, registers of block 0 1 4 11 18. -/
theorem execLookupStage_goes (unit : Nat) (charge : Nat) (z : State) : Goes 35461800235248 z (execLookupStage unit charge z) := by
  unfold execLookupStage
  repeat'
    first
    | with_reducible apply Moves.refl
    | with_reducible assumption
    | intro _
    | with_reducible apply goOn_goes
    | with_reducible apply ite_goes
    | ((with_reducible apply State.rxStage_moves); case hs => exact rfl)
    | ((with_reducible apply Moves.by (State.passRx_moves _ _ _)); case hs => exact rfl)
    | with_reducible apply ite_moves
    | (extract_lets +onlyGivenNames x; apply Moves.cut (m := 35461800235248) (z := z) x; (case' h => unfold x); (case' k => (clear_value x; intro _)))
    | (extract_lets +onlyGivenNames x; clear_value x)
    | split
    | (rename_i hq; split at hq)
    | (rename_i hq; obtain ⟨_, rfl⟩ := Prod.mk.inj hq)

/-- May change: faults, power, radio, slot, sec, evr, core0, core1, registers of block 0 1 4 6 11 18. -/
theorem execSecureRxStage_goes (unit : Nat) (charge : Nat) (z : State) : Goes 35470390170352 z (execSecureRxStage unit charge z) := by
  unfold execSecureRxStage
  repeat'
    first
    | with_reducible apply Moves.refl
    | with_reducible assumption
    | intro _
    | with_reducible apply goOn_goes
    | with_reducible apply ite_goes
    | ((with_reducible apply Moves.by (State.endRx_moves _ _)); case hs => exact rfl)
    | ((with_reducible apply State.rxStage_moves); case hs => exact rfl)
    | ((with_reducible apply Moves.by (State.passRx_moves _ _ _)); case hs => exact rfl)
    | ((with_reducible apply Moves.by (State.secureRx_moves _ _ _)); case hs => exact rfl)
    | ((with_reducible apply State.secureRx_pair); (case hp => assumption); case hs => exact rfl)
    | with_reducible apply ite_moves
    | (extract_lets +onlyGivenNames x; apply Moves.cut (m := 35470390170352) (z := z) x; (case' h => unfold x); (case' k => (clear_value x; intro _)))
    | (extract_lets +onlyGivenNames x; clear_value x)
    | split
    | (rename_i hq; split at hq)
    | (rename_i hq; obtain ⟨_, rfl⟩ := Prod.mk.inj hq)

/-- May change: slot, registers of block 4. -/
theorem State.grantAck_moves (z : State) (u : RxUnit) : Moves 2147483776 z (State.grantAck z u) := by
  unfold State.grantAck
  repeat'
    first
    | with_reducible apply Moves.refl
    | with_reducible assumption
    | intro _
    | ((with_reducible apply Moves.by (State.accepted_moves _ _)); case hs => exact rfl)
    | ((with_reducible apply Moves.by (State.with_slot_moves _ _)); case hs => exact rfl)
    | rw [State.with_slot_eq]
    | with_reducible apply ite_moves
    | (extract_lets +onlyGivenNames x; apply Moves.cut (m := 2147483776) (z := z) x; (case' h => unfold x); (case' k => (clear_value x; intro _)))
    | (extract_lets +onlyGivenNames x; clear_value x)
    | split
    | (rename_i hq; split at hq)
    | (rename_i hq; obtain ⟨_, rfl⟩ := Prod.mk.inj hq)

/-- May change: faults, power, radio, slot, evr, core0, core1, registers of block 0 1 4 11 18. -/
theorem execAdmitStage_goes (unit : Nat) (charge : Nat) (z : State) : Goes 35461800235248 z (execAdmitStage unit charge z) := by
  unfold execAdmitStage
  repeat'
    first
    | with_reducible apply Moves.refl
    | with_reducible assumption
    | intro _
    | with_reducible apply goOn_goes
    | with_reducible apply ite_goes
    | ((with_reducible apply State.rxStage_moves); case hs => exact rfl)
    | ((with_reducible apply Moves.by (State.grantAck_moves _ _)); case hs => exact rfl)
    | ((with_reducible apply Moves.by (State.passRx_moves _ _ _)); case hs => exact rfl)
    | ((with_reducible apply Moves.bump); (case hf => (with_reducible apply SLE_ACKMISS_COUNT_block)); case hm => exact rfl)
    | with_reducible apply ite_moves
    | (extract_lets +onlyGivenNames x; apply Moves.cut (m := 35461800235248) (z := z) x; (case' h => unfold x); (case' k => (clear_value x; intro _)))
    | (extract_lets +onlyGivenNames x; clear_value x)
    | split
    | (rename_i hq; split at hq)
    | (rename_i hq; obtain ⟨_, rfl⟩ := Prod.mk.inj hq)

/-- May change: mem, poison, power, mac, evr, core0, core1, registers of block 0 5 11. -/
theorem State.enqueue_moves (z : State) (u : RxUnit) (b : Nat) : Moves 279307194668 z (State.enqueue z u b) := by
  unfold State.enqueue
  repeat'
    first
    | with_reducible apply Moves.refl
    | with_reducible assumption
    | intro _
    | ((with_reducible apply Moves.by (State.raiseIf_moves _ _ _)); case hs => exact rfl)
    | ((with_reducible apply Moves.by (State.devWrite_moves _ _ _)); case hs => exact rfl)
    | ((with_reducible apply Moves.by (State.with_mac_moves _ _)); case hs => exact rfl)
    | rw [State.with_mac_eq]
    | ((with_reducible apply Moves.put); (case hf => (with_reducible apply MAC_DQ_WR_block)); case hm => exact rfl)
    | with_reducible apply ite_moves
    | (extract_lets +onlyGivenNames x; apply Moves.cut (m := 279307194668) (z := z) x; (case' h => unfold x); (case' k => (clear_value x; intro _)))
    | (extract_lets +onlyGivenNames x; clear_value x)
    | split
    | (rename_i hq; split at hq)
    | (rename_i hq; obtain ⟨_, rfl⟩ := Prod.mk.inj hq)

/-- May change: tnet, mem, power, radio, slot, mac, evr, core0, core1, registers of block 0 2 5 11. -/
theorem State.commitCtx_moves (z : State) (c : Nat) (u : RxUnit) : Moves 279844065765 z (State.commitCtx z c u) := by
  unfold State.commitCtx
  repeat'
    first
    | with_reducible apply Moves.refl
    | with_reducible assumption
    | intro _
    | ((with_reducible apply Moves.by (State.admitUpdates_moves _ _ _)); case hs => exact rfl)
    | ((with_reducible apply Moves.by (State.timeSample_moves _ _ _ _ _ _)); case hs => exact rfl)
    | ((with_reducible apply Moves.by (State.synced_moves _)); case hs => exact rfl)
    | ((with_reducible apply Moves.by (State.ctxBump_moves _ _ _)); case hs => exact rfl)
    | ((with_reducible apply Moves.by (State.foldRssi_moves _ _ _)); case hs => exact rfl)
    | ((with_reducible apply Moves.by (State.markValid_moves _ _ _ _)); case hs => exact rfl)
    | ((with_reducible apply Moves.by (State.setMiss_moves _ _ _)); case hs => exact rfl)
    | ((with_reducible apply Moves.by (State.foldOffset_moves _ _ _)); case hs => exact rfl)
    | ((with_reducible apply Moves.by (State.setCtx_moves _ _ _ _ _)); case hs => exact rfl)
    | ((with_reducible apply Moves.by (State.scanResync_moves _ _ _ _ _)); case hs => exact rfl)
    | with_reducible apply ite_moves
    | (extract_lets +onlyGivenNames x; apply Moves.cut (m := 279844065765) (z := z) x; (case' h => unfold x); (case' k => (clear_value x; intro _)))
    | (extract_lets +onlyGivenNames x; clear_value x)
    | split
    | (rename_i hq; split at hq)
    | (rename_i hq; obtain ⟨_, rfl⟩ := Prod.mk.inj hq)

/-- May change: tnet, mem, power, radio, slot, mac, evr, core0, core1, registers of block 0 2 5 11. -/
theorem State.commitSender_moves (z : State) (u : RxUnit) : Moves 279844065765 z (State.commitSender z u) := by
  unfold State.commitSender
  repeat'
    first
    | with_reducible apply Moves.refl
    | with_reducible assumption
    | intro _
    | ((with_reducible apply Moves.by (State.raise_moves _ _)); case hs => exact rfl)
    | ((with_reducible apply Moves.by (State.commitCtx_moves _ _ _)); case hs => exact rfl)
    | ((with_reducible apply Moves.by (State.with_mac_moves _ _)); case hs => exact rfl)
    | rw [State.with_mac_eq]
    | with_reducible apply ite_moves
    | (extract_lets +onlyGivenNames x; apply Moves.cut (m := 279844065765) (z := z) x; (case' h => unfold x); (case' k => (clear_value x; intro _)))
    | (extract_lets +onlyGivenNames x; clear_value x)
    | split
    | (rename_i hq; split at hq)
    | (rename_i hq; obtain ⟨_, rfl⟩ := Prod.mk.inj hq)

/-- May change: mac. -/
theorem State.askFollowUp_moves (z : State) (u : RxUnit) : Moves 256 z (State.askFollowUp z u) := by
  unfold State.askFollowUp
  repeat'
    first
    | with_reducible apply Moves.refl
    | with_reducible assumption
    | intro _
    | ((with_reducible apply Moves.by (State.scheduleFollowUp_moves _ _ _ _)); case hs => exact rfl)
    | with_reducible apply ite_moves
    | (extract_lets +onlyGivenNames x; apply Moves.cut (m := 256) (z := z) x; (case' h => unfold x); (case' k => (clear_value x; intro _)))
    | (extract_lets +onlyGivenNames x; clear_value x)
    | split
    | (rename_i hq; split at hq)
    | (rename_i hq; obtain ⟨_, rfl⟩ := Prod.mk.inj hq)

/-- May change: slot. -/
theorem State.releaseAck_moves (z : State) (id : Nat) : Moves 128 z (State.releaseAck z id) := by
  unfold State.releaseAck
  repeat'
    first
    | with_reducible apply Moves.refl
    | with_reducible assumption
    | intro _
    | ((with_reducible apply Moves.by (State.with_slot_moves _ _)); case hs => exact rfl)
    | rw [State.with_slot_eq]
    | with_reducible apply ite_moves
    | (extract_lets +onlyGivenNames x; apply Moves.cut (m := 128) (z := z) x; (case' h => unfold x); (case' k => (clear_value x; intro _)))
    | (extract_lets +onlyGivenNames x; clear_value x)
    | split
    | (rename_i hq; split at hq)
    | (rename_i hq; obtain ⟨_, rfl⟩ := Prod.mk.inj hq)

/-- May change: tnet, mem, power, radio, slot, mac, evr, core0, core1, registers of block 0 2 5 11. -/
theorem State.commit_moves (z : State) (u : RxUnit) : Moves 279844065765 z (State.commit z u) := by
  unfold State.commit
  repeat'
    first
    | with_reducible apply Moves.refl
    | with_reducible assumption
    | intro _
    | ((with_reducible apply Moves.by (State.commitSender_moves _ _)); case hs => exact rfl)
    | ((with_reducible apply Moves.by (State.askFollowUp_moves _ _)); case hs => exact rfl)
    | ((with_reducible apply Moves.by (State.releaseAck_moves _ _)); case hs => exact rfl)
    | with_reducible apply ite_moves
    | (extract_lets +onlyGivenNames x; apply Moves.cut (m := 279844065765) (z := z) x; (case' h => unfold x); (case' k => (clear_value x; intro _)))
    | (extract_lets +onlyGivenNames x; clear_value x)
    | split
    | (rename_i hq; split at hq)
    | (rename_i hq; obtain ⟨_, rfl⟩ := Prod.mk.inj hq)

/-- May change: tnet, mem, poison, faults, power, radio, slot, mac, evr, core0, core1, registers of block 0 1 2 4 5 11 18. -/
theorem execDeliverStage_goes (unit : Nat) (charge : Nat) (z : State) : Goes 35466632073725 z (execDeliverStage unit charge z) := by
  unfold execDeliverStage
  refine goOn_goes (State.rxStage_moves rfl Moves.refl fun u => ?_)
  have h := (State.handedOn_moves z 8 charge).mono (b := 35466632073725) rfl
  refine ite_moves ?_ (ite_moves ?_ ?_)
  · exact ((State.injectionDone_moves z).mono rfl).step (State.mismatchRx_moves _ _) rfl
  · dsimp only
    generalize (if z.dqLevel + 1 = z.get MAC_FBCFG_DQ_SIZE then none else z.freeBlocks (max 1 (divUp (u.length - u.fcsLen) 64))) = o
    cases o with
    | none => exact (Moves.refl.bump MAC_DQSTAT_FULL_block rfl).step (State.endRx_moves _ _) rfl
    | some b => exact ((h.step (State.enqueue_moves _ _ _) rfl).step (State.commit_moves _ _) rfl).step (State.removeRx_moves _ _) rfl
  · exact (h.step (State.commit_moves _ _) rfl).step (State.removeRx_moves _ _) rfl

/-- May change: power, mac, sec, evr, core0, core1, registers of block 0 11. -/
theorem State.abandonSecure_moves (z : State) (id : Nat) : Moves 275012227872 z (State.abandonSecure z id) := by
  unfold State.abandonSecure
  repeat'
    first
    | with_reducible apply Moves.refl
    | with_reducible assumption
    | intro _
    | ((with_reducible apply Moves.by (State.takeFc_moves _ _ _)); case hs => exact rfl)
    | ((with_reducible apply State.takeFc_pair); (case hp => assumption); case hs => exact rfl)
    | ((with_reducible apply Moves.by (State.charged_moves _ _ _ _)); case hs => exact rfl)
    | ((with_reducible apply State.charged_pair); (case hp => assumption); case hs => exact rfl)
    | with_reducible apply ite_moves
    | (extract_lets +onlyGivenNames x; apply Moves.cut (m := 275012227872) (z := z) x; (case' h => unfold x); (case' k => (clear_value x; intro _)))
    | (extract_lets +onlyGivenNames x; clear_value x)
    | split
    | (rename_i hq; split at hq)
    | (rename_i hq; obtain ⟨_, rfl⟩ := Prod.mk.inj hq)

/-- May change: mem, power, radio, slot, mac, sec, evr, core0, core1, lgy, registers of block 0 1 4 5 11 15. -/
theorem execLateDrop_goes (unit : Nat) (z : State) : Goes 4679769756644 z (execLateDrop unit z) := by
  unfold execLateDrop
  repeat'
    first
    | with_reducible apply Moves.refl
    | with_reducible assumption
    | intro _
    | with_reducible apply goOn_goes
    | with_reducible apply ite_goes
    | ((with_reducible apply Moves.by (State.lateTx_moves _ _ _)); case hs => exact rfl)
    | ((with_reducible apply Moves.by (State.lateRx_moves _ _ _)); case hs => exact rfl)
    | ((with_reducible apply Moves.by (State.abandonSecure_moves _ _)); case hs => exact rfl)
    | ((with_reducible apply Moves.by (State.txReturn_moves _)); case hs => exact rfl)
    | with_reducible apply ite_moves
    | (extract_lets +onlyGivenNames x; apply Moves.cut (m := 4679769756644) (z := z) x; (case' h => unfold x); (case' k => (clear_value x; intro _)))
    | (extract_lets +onlyGivenNames x; clear_value x)
    | split
    | (rename_i hq; split at hq)
    | (rename_i hq; obtain ⟨_, rfl⟩ := Prod.mk.inj hq)

end Sys2Proof.Machine
end

