-- ==== Sys2Proof/Laws/SlotBoundary.lean ====
section
/-! SUPPORT. What the operations of Machine/SlotBoundary.lean may change. -/
set_option linter.all false
namespace Sys2Proof.Machine

set_option linter.tactic.unusedName false

/-- May change: radio, registers of block 2 5. -/
theorem State.parentLost_moves (z : State) (was : Option Nat) : Moves 4831838272 z (State.parentLost z was) := by
  unfold State.parentLost
  repeat'
    first
    | with_reducible apply Moves.refl
    | with_reducible assumption
    | intro _
    | ((with_reducible apply Moves.by (State.leaveScan_moves _ _)); case hs => exact rfl)
    | with_reducible apply ite_moves
    | (extract_lets +onlyGivenNames x; apply Moves.cut (m := 4831838272) (z := z) x; (case' h => unfold x); (case' k => (clear_value x; intro _)))
    | (extract_lets +onlyGivenNames x; clear_value x)
    | split
    | (rename_i hq; split at hq)
    | (rename_i hq; obtain ⟨_, rfl⟩ := Prod.mk.inj hq)

/-- May change: mem, power, mac, evr, core0, core1, registers of block 0 5 11. -/
theorem State.flushContext_moves (z : State) (i : Nat) : Moves 279307194660 z (State.flushContext z i) := by
  unfold State.flushContext
  repeat'
    first
    | with_reducible apply Moves.refl
    | with_reducible assumption
    | intro _
    | ((with_reducible apply Moves.by (State.finishDesc_moves _ _ _)); case hs => exact rfl)
    | with_reducible apply ite_moves
    | with_reducible apply foldl_moves
    | (extract_lets +onlyGivenNames x; apply Moves.cut (m := 279307194660) (z := z) x; (case' h => unfold x); (case' k => (clear_value x; intro _)))
    | (extract_lets +onlyGivenNames x; clear_value x)
    | split
    | (rename_i hq; split at hq)
    | (rename_i hq; obtain ⟨_, rfl⟩ := Prod.mk.inj hq)

/-- May change: mem, poison, power, radio, slot, mac, evr, core0, core1, registers of block 0 2 5 11. -/
theorem State.applyContext_moves (z : State) : Moves 279844065772 z (State.applyContext z) := by
  unfold State.applyContext
  repeat'
    first
    | with_reducible apply Moves.refl
    | with_reducible assumption
    | intro _
    | ((with_reducible apply Moves.by (State.parentLost_moves _ _)); case hs => exact rfl)
    | ((with_reducible apply Moves.by (State.flushContext_moves _ _)); case hs => exact rfl)
    | ((with_reducible apply Moves.by (State.setCtx_moves _ _ _ _ _)); case hs => exact rfl)
    | ((with_reducible apply Moves.by (State.devWrite_moves _ _ _)); case hs => exact rfl)
    | ((with_reducible apply Moves.by (State.with_mac_moves _ _)); case hs => exact rfl)
    | rw [State.with_mac_eq]
    | ((with_reducible apply Moves.by (State.with_slot_moves _ _)); case hs => exact rfl)
    | rw [State.with_slot_eq]
    | ((with_reducible apply Moves.flag); (case hf => (with_reducible apply MAC_CTXSTAT_BUSY_block)); case hm => exact rfl)
    | with_reducible apply ite_moves
    | (extract_lets +onlyGivenNames x; apply Moves.cut (m := 279844065772) (z := z) x; (case' h => unfold x); (case' k => (clear_value x; intro _)))
    | (extract_lets +onlyGivenNames x; clear_value x)
    | split
    | (rename_i hq; split at hq)
    | (rename_i hq; obtain ⟨_, rfl⟩ := Prod.mk.inj hq)

/-- May change: power, mac, evr, core0, core1, registers of block 0 5 11. -/
theorem State.reportEvict_moves (z : State) : Moves 279307194656 z (State.reportEvict z) := by
  unfold State.reportEvict
  dsimp only
  repeat'
    first
    | with_reducible apply Moves.refl
    | with_reducible assumption
    | intro _
    | ((with_reducible apply Moves.by (State.raise_moves _ _)); case hs => exact rfl)
    | ((with_reducible apply Moves.by (State.with_mac_moves _ _)); case hs => exact rfl)
    | rw [State.with_mac_eq]
    | ((with_reducible apply Moves.put); (case hf => (with_reducible first | apply MAC_EVICT0_CAND_A_block | apply MAC_EVICT0_CAND_B_block | apply MAC_EVICT0_VALID_A_block | apply MAC_EVICT0_VALID_B_block | apply MAC_EVICT1_CAND_A_block | apply MAC_EVICT1_CAND_B_block | apply MAC_EVICT1_VALID_A_block | apply MAC_EVICT1_VALID_B_block)); case hm => exact rfl)
    | ((with_reducible apply Moves.flag); (case hf => (with_reducible first | apply MAC_EVICT0_CAND_A_block | apply MAC_EVICT0_CAND_B_block | apply MAC_EVICT0_VALID_A_block | apply MAC_EVICT0_VALID_B_block | apply MAC_EVICT1_CAND_A_block | apply MAC_EVICT1_CAND_B_block | apply MAC_EVICT1_VALID_A_block | apply MAC_EVICT1_VALID_B_block)); case hm => exact rfl)
    | with_reducible apply ite_moves
    | (extract_lets +onlyGivenNames x; apply Moves.cut (m := 279307194656) (z := z) x; (case' h => unfold x); (case' k => (clear_value x; intro _)))
    | (extract_lets +onlyGivenNames x; clear_value x)
    | split
    | (rename_i hq; split at hq)
    | (rename_i hq; obtain ⟨_, rfl⟩ := Prod.mk.inj hq)

/-- May change: mem, power, mac, evr, core0, core1, registers of block 0 5 11. -/
theorem State.expirePending_moves (z : State) : Moves 279307194660 z (State.expirePending z) := by
  unfold State.expirePending
  repeat'
    first
    | with_reducible apply Moves.refl
    | with_reducible assumption
    | intro _
    | ((with_reducible apply Moves.by (State.finishDesc_moves _ _ _)); case hs => exact rfl)
    | ((with_reducible apply Moves.by (State.raise_moves _ _)); case hs => exact rfl)
    | with_reducible apply ite_moves
    | with_reducible apply foldl_moves
    | (extract_lets +onlyGivenNames x; apply Moves.cut (m := 279307194660) (z := z) x; (case' h => unfold x); (case' k => (clear_value x; intro _)))
    | (extract_lets +onlyGivenNames x; clear_value x)
    | split
    | (rename_i hq; split at hq)
    | (rename_i hq; obtain ⟨_, rfl⟩ := Prod.mk.inj hq)

/-- May change: mac. -/
theorem State.ageQueues_moves (z : State) : Moves 256 z (State.ageQueues z) := by
  unfold State.ageQueues
  repeat'
    first
    | with_reducible apply Moves.refl
    | with_reducible assumption
    | intro _
    | ((with_reducible apply Moves.by (State.with_mac_moves _ _)); case hs => exact rfl)
    | rw [State.with_mac_eq]
    | with_reducible apply ite_moves
    | (extract_lets +onlyGivenNames x; apply Moves.cut (m := 256) (z := z) x; (case' h => unfold x); (case' k => (clear_value x; intro _)))
    | (extract_lets +onlyGivenNames x; clear_value x)
    | split
    | (rename_i hq; split at hq)
    | (rename_i hq; obtain ⟨_, rfl⟩ := Prod.mk.inj hq)

/-- May change: mem, power, slot, mac, sec, evr, core0, core1, registers of block 0 4 11. -/
theorem State.endRxUnits_moves (a0 : Nat) (a1 : List Nat) (z : State) : Moves 277159711652 z (State.endRxUnits a0 a1 z) := by
  induction a1 generalizing z a0 with
  | nil =>
  unfold State.endRxUnits
  repeat'
    first
    | with_reducible apply Moves.refl
    | with_reducible assumption
    | intro _
    | ((with_reducible apply Moves.by (State.setRx_moves _ _)); case hs => exact rfl)
    | ((with_reducible apply Moves.by (State.endRx_moves _ _)); case hs => exact rfl)
    | ((with_reducible apply Moves.by (State.lateRx_moves _ _ _)); case hs => exact rfl)
    | ((with_reducible apply Moves.by (State.abandonSecure_moves _ _)); case hs => exact rfl)
    | with_reducible apply ite_moves
    | (extract_lets +onlyGivenNames x; apply Moves.cut (m := 277159711652) (z := z) x; (case' h => unfold x); (case' k => (clear_value x; intro _)))
    | (extract_lets +onlyGivenNames x; clear_value x)
    | split
    | (rename_i hq; split at hq)
    | (rename_i hq; obtain ⟨_, rfl⟩ := Prod.mk.inj hq)
  | cons b bs ih =>
  unfold State.endRxUnits
  repeat'
    first
    | ((with_reducible apply Moves.by (ih _ _)); case hs => exact rfl)
    | with_reducible apply Moves.refl
    | with_reducible assumption
    | intro _
    | ((with_reducible apply Moves.by (State.setRx_moves _ _)); case hs => exact rfl)
    | ((with_reducible apply Moves.by (State.endRx_moves _ _)); case hs => exact rfl)
    | ((with_reducible apply Moves.by (State.lateRx_moves _ _ _)); case hs => exact rfl)
    | ((with_reducible apply Moves.by (State.abandonSecure_moves _ _)); case hs => exact rfl)
    | with_reducible apply ite_moves
    | (extract_lets +onlyGivenNames x; apply Moves.cut (m := 277159711652) (z := z) x; (case' h => unfold x); (case' k => (clear_value x; intro _)))
    | (extract_lets +onlyGivenNames x; clear_value x)
    | split
    | (rename_i hq; split at hq)
    | (rename_i hq; obtain ⟨_, rfl⟩ := Prod.mk.inj hq)

/-- May change: mem, power, radio, slot, mac, sec, evr, core0, core1, lgy, registers of block 0 1 2 4 5 11 15. -/
theorem State.endTxUnit_moves (toMode : Bool) (z : State) (id : Nat) : Moves 4680306627556 z (State.endTxUnit toMode z id) := by
  unfold State.endTxUnit
  repeat'
    first
    | with_reducible apply Moves.refl
    | with_reducible assumption
    | intro _
    | ((with_reducible apply Moves.by (State.lateTx_moves _ _ _)); case hs => exact rfl)
    | ((with_reducible apply Moves.by (State.abandonSecure_moves _ _)); case hs => exact rfl)
    | ((with_reducible apply Moves.by (State.txReturn_moves _)); case hs => exact rfl)
    | ((with_reducible apply Moves.by (State.endTx_moves _ _ _)); case hs => exact rfl)
    | ((with_reducible apply Moves.by (State.noAck_moves _ _)); case hs => exact rfl)
    | with_reducible apply ite_moves
    | (extract_lets +onlyGivenNames x; apply Moves.cut (m := 4680306627556) (z := z) x; (case' h => unfold x); (case' k => (clear_value x; intro _)))
    | (extract_lets +onlyGivenNames x; clear_value x)
    | split
    | (rename_i hq; split at hq)
    | (rename_i hq; obtain ⟨_, rfl⟩ := Prod.mk.inj hq)

/-- May change: mem, power, radio, slot, evr, core0, core1, registers of block 0 2 11. -/
theorem State.endWindow_moves (z : State) (w : RxWindow) : Moves 275549098212 z (State.endWindow z w) := by
  unfold State.endWindow
  repeat'
    first
    | with_reducible apply Moves.refl
    | with_reducible assumption
    | intro _
    | ((with_reducible apply Moves.by (State.emptyWindow_moves _ _)); case hs => exact rfl)
    | ((with_reducible apply Moves.by (State.closeLane_moves _ _)); case hs => exact rfl)
    | ((with_reducible apply Moves.by (State.with_slot_moves _ _)); case hs => exact rfl)
    | rw [State.with_slot_eq]
    | with_reducible apply ite_moves
    | with_reducible apply foldl_moves
    | (extract_lets +onlyGivenNames x; apply Moves.cut (m := 275549098212) (z := z) x; (case' h => unfold x); (case' k => (clear_value x; intro _)))
    | (extract_lets +onlyGivenNames x; clear_value x)
    | split
    | (rename_i hq; split at hq)
    | (rename_i hq; obtain ⟨_, rfl⟩ := Prod.mk.inj hq)

/-- May change: mem, power, radio, slot, evr, core0, core1, registers of block 0 2 11. -/
theorem State.endWindows_moves (z : State) : Moves 275549098212 z (State.endWindows z) := by
  unfold State.endWindows
  repeat'
    first
    | with_reducible apply Moves.refl
    | with_reducible assumption
    | intro _
    | ((with_reducible apply Moves.by (State.endWindow_moves _ _)); case hs => exact rfl)
    | ((with_reducible apply Moves.by (State.with_slot_moves _ _)); case hs => exact rfl)
    | rw [State.with_slot_eq]
    | with_reducible apply ite_moves
    | with_reducible apply foldl_moves
    | (extract_lets +onlyGivenNames x; apply Moves.cut (m := 275549098212) (z := z) x; (case' h => unfold x); (case' k => (clear_value x; intro _)))
    | (extract_lets +onlyGivenNames x; clear_value x)
    | split
    | (rename_i hq; split at hq)
    | (rename_i hq; obtain ⟨_, rfl⟩ := Prod.mk.inj hq)

/-- May change: mem, power, radio, slot, mac, sec, evr, core0, core1, lgy, registers of block 0 1 2 4 5 11 15. -/
theorem State.endUnits_moves (z : State) (straddle : Nat) (toMode : Bool) : Moves 4680306627556 z (State.endUnits z straddle toMode) := by
  unfold State.endUnits
  repeat'
    first
    | with_reducible apply Moves.refl
    | with_reducible assumption
    | intro _
    | ((with_reducible apply Moves.by (State.endTxUnit_moves _ _ _)); case hs => exact rfl)
    | ((with_reducible apply Moves.by (State.endWindows_moves _)); case hs => exact rfl)
    | ((with_reducible apply Moves.by (State.endRxUnits_moves _ _ _)); case hs => exact rfl)
    | with_reducible apply ite_moves
    | with_reducible apply foldl_moves
    | (extract_lets +onlyGivenNames x; apply Moves.cut (m := 4680306627556) (z := z) x; (case' h => unfold x); (case' k => (clear_value x; intro _)))
    | (extract_lets +onlyGivenNames x; clear_value x)
    | split
    | (rename_i hq; split at hq)
    | (rename_i hq; obtain ⟨_, rfl⟩ := Prod.mk.inj hq)

/-- May change: power, sec, evr, core0, core1, registers of block 0 11. -/
theorem State.takeReserve_moves (z : State) (n : Nat) : Moves 275012227616 z (State.takeReserve z n) := by
  unfold State.takeReserve
  repeat'
    first
    | with_reducible apply Moves.refl
    | with_reducible assumption
    | intro _
    | ((with_reducible apply Moves.by (State.setPage_moves _ _ _)); case hs => exact rfl)
    | ((with_reducible apply Moves.by (State.arbitrate_moves _)); case hs => exact rfl)
    | ((with_reducible apply Moves.by (State.with_sec_moves _ _)); case hs => exact rfl)
    | rw [State.with_sec_eq]
    | with_reducible apply ite_moves
    | with_reducible apply foldl_moves
    | (extract_lets +onlyGivenNames x; apply Moves.cut (m := 275012227616) (z := z) x; (case' h => unfold x); (case' k => (clear_value x; intro _)))
    | (extract_lets +onlyGivenNames x; clear_value x)
    | split
    | (rename_i hq; split at hq)
    | (rename_i hq; obtain ⟨_, rfl⟩ := Prod.mk.inj hq)

/-- May change: power, radio, slot, sec, evr, core0, core1, boot, objs, registers of block 0 1 2 4 11. -/
theorem State.swapBuffers_moves (z : State) (st : Nat) : Moves 277974455008 z (State.swapBuffers z st) := by
  unfold State.swapBuffers
  repeat'
    first
    | with_reducible apply Moves.refl
    | with_reducible assumption
    | intro _
    | ((with_reducible apply Moves.by (State.takeTwin_moves _ _)); case hs => exact rfl)
    | ((with_reducible apply Moves.by (State.setStandbyState_moves _ _)); case hs => exact rfl)
    | ((with_reducible apply Moves.by (State.setObj_moves _ _ _)); case hs => exact rfl)
    | ((with_reducible apply Moves.by (State.takeReserve_moves _ _)); case hs => exact rfl)
    | ((with_reducible apply Moves.by (State.raise_moves _ _)); case hs => exact rfl)
    | ((with_reducible apply Moves.by (State.persist_moves _ _ _)); case hs => exact rfl)
    | ((with_reducible apply Moves.by (State.with_radio_moves _ _)); case hs => exact rfl)
    | rw [State.with_radio_eq]
    | ((with_reducible apply Moves.by (State.with_slot_moves _ _)); case hs => exact rfl)
    | rw [State.with_slot_eq]
    | ((with_reducible apply Moves.flag); (case hf => (with_reducible first | apply CHZ_CTRL_TWIN_EN_block | apply SLE_STATUS_ACTIVE_BUF_block)); case hm => exact rfl)
    | with_reducible apply ite_moves
    | (extract_lets +onlyGivenNames x; apply Moves.cut (m := 277974455008) (z := z) x; (case' h => unfold x); (case' k => (clear_value x; intro _)))
    | (extract_lets +onlyGivenNames x; clear_value x)
    | split
    | (rename_i hq; split at hq)
    | (rename_i hq; obtain ⟨_, rfl⟩ := Prod.mk.inj hq)

/-- May change: radio, slot, registers of block 1 2. -/
theorem State.takePlan_moves (z : State) (h : Nat) : Moves 805306560 z (State.takePlan z h) := by
  unfold State.takePlan
  repeat'
    first
    | with_reducible apply Moves.refl
    | with_reducible assumption
    | intro _
    | ((with_reducible apply Moves.by (State.retune_moves _ _)); case hs => exact rfl)
    | ((with_reducible apply Moves.by (State.with_radio_moves _ _)); case hs => exact rfl)
    | rw [State.with_radio_eq]
    | with_reducible apply ite_moves
    | (extract_lets +onlyGivenNames x; apply Moves.cut (m := 805306560) (z := z) x; (case' h => unfold x); (case' k => (clear_value x; intro _)))
    | (extract_lets +onlyGivenNames x; clear_value x)
    | split
    | (rename_i hq; split at hq)
    | (rename_i hq; obtain ⟨_, rfl⟩ := Prod.mk.inj hq)

/-- May change: radio, slot, registers of block 1 2. -/
theorem State.takeStaged_moves (z : State) : Moves 805306560 z (State.takeStaged z) := by
  unfold State.takeStaged
  repeat'
    first
    | with_reducible apply Moves.refl
    | with_reducible assumption
    | intro _
    | ((with_reducible apply Moves.by (State.installProfile_moves _ _)); case hs => exact rfl)
    | ((with_reducible apply Moves.by (State.takeTwin_moves _ _)); case hs => exact rfl)
    | ((with_reducible apply Moves.by (State.takePlan_moves _ _)); case hs => exact rfl)
    | ((with_reducible apply Moves.by (State.setNcos_moves _ _)); case hs => exact rfl)
    | ((with_reducible apply Moves.by (State.retune_moves _ _)); case hs => exact rfl)
    | ((with_reducible apply Moves.by (State.with_radio_moves _ _)); case hs => exact rfl)
    | rw [State.with_radio_eq]
    | with_reducible apply ite_moves
    | (extract_lets +onlyGivenNames x; apply Moves.cut (m := 805306560) (z := z) x; (case' h => unfold x); (case' k => (clear_value x; intro _)))
    | (extract_lets +onlyGivenNames x; clear_value x)
    | split
    | (rename_i hq; split at hq)
    | (rename_i hq; obtain ⟨_, rfl⟩ := Prod.mk.inj hq)

/-- May change: mem, poison, power, radio, slot, mac, evr, core0, core1, registers of block 0 2 5 11. -/
theorem State.stepThree_moves (z : State) : Moves 279844065772 z (State.stepThree z) := by
  unfold State.stepThree
  repeat'
    first
    | with_reducible apply Moves.refl
    | with_reducible assumption
    | intro _
    | ((with_reducible apply Moves.by (State.reportEvict_moves _)); case hs => exact rfl)
    | ((with_reducible apply Moves.by (State.expirePending_moves _)); case hs => exact rfl)
    | ((with_reducible apply Moves.by (State.applyContext_moves _)); case hs => exact rfl)
    | ((with_reducible apply Moves.by (State.raise_moves _ _)); case hs => exact rfl)
    | ((with_reducible apply Moves.by (State.ageQueues_moves _)); case hs => exact rfl)
    | ((with_reducible apply Moves.by (State.with_slot_moves _ _)); case hs => exact rfl)
    | rw [State.with_slot_eq]
    | with_reducible apply ite_moves
    | (extract_lets +onlyGivenNames x; apply Moves.cut (m := 279844065772) (z := z) x; (case' h => unfold x); (case' k => (clear_value x; intro _)))
    | (extract_lets +onlyGivenNames x; clear_value x)
    | split
    | (rename_i hq; split at hq)
    | (rename_i hq; obtain ⟨_, rfl⟩ := Prod.mk.inj hq)

/-- May change: tnet, clock, mac, registers of block 5. -/
theorem State.reachBoundary_moves (z : State) : Moves 4294967555 z (State.reachBoundary z) := by
  unfold State.reachBoundary
  repeat'
    first
    | with_reducible apply Moves.refl
    | with_reducible assumption
    | intro _
    | ((with_reducible apply Moves.by (State.advanceTo_moves _ _)); case hs => exact rfl)
    | ((with_reducible apply Moves.by (State.with_tnet_mac_moves _ _ _)); case hs => exact rfl)
    | rw [State.with_tnet_mac_eq]
    | ((with_reducible apply Moves.put); (case hf => (with_reducible apply MAC_CORR_LAST_block)); case hm => exact rfl)
    | with_reducible apply ite_moves
    | (extract_lets +onlyGivenNames x; apply Moves.cut (m := 4294967555) (z := z) x; (case' h => unfold x); (case' k => (clear_value x; intro _)))
    | (extract_lets +onlyGivenNames x; clear_value x)
    | split
    | (rename_i hq; split at hq)
    | (rename_i hq; obtain ⟨_, rfl⟩ := Prod.mk.inj hq)

/-- May change: slot. -/
theorem State.beginSlot_moves (z : State) (asn : Nat) : Moves 128 z (State.beginSlot z asn) := by
  unfold State.beginSlot
  repeat'
    first
    | with_reducible apply Moves.refl
    | with_reducible assumption
    | intro _
    | ((with_reducible apply Moves.by (State.with_slot_moves _ _)); case hs => exact rfl)
    | rw [State.with_slot_eq]
    | with_reducible apply ite_moves
    | (extract_lets +onlyGivenNames x; apply Moves.cut (m := 128) (z := z) x; (case' h => unfold x); (case' k => (clear_value x; intro _)))
    | (extract_lets +onlyGivenNames x; clear_value x)
    | split
    | (rename_i hq; split at hq)
    | (rename_i hq; obtain ⟨_, rfl⟩ := Prod.mk.inj hq)

/-- May change: tnet, slot, registers of block 8. -/
theorem State.takeCoarse_moves (z : State) : Moves 34359738497 z (State.takeCoarse z) := by
  unfold State.takeCoarse
  repeat'
    first
    | with_reducible apply Moves.refl
    | with_reducible assumption
    | intro _
    | ((with_reducible apply Moves.by (State.with_slot_moves _ _)); case hs => exact rfl)
    | rw [State.with_slot_eq]
    | ((with_reducible apply Moves.by (State.with_tnet_slot_moves _ _ _)); case hs => exact rfl)
    | rw [State.with_tnet_slot_eq]
    | ((with_reducible apply Moves.flag); (case hf => (with_reducible apply GNS_STATUS_COARSE_HOLD_block)); case hm => exact rfl)
    | with_reducible apply ite_moves
    | (extract_lets +onlyGivenNames x; apply Moves.cut (m := 34359738497) (z := z) x; (case' h => unfold x); (case' k => (clear_value x; intro _)))
    | (extract_lets +onlyGivenNames x; clear_value x)
    | split
    | (rename_i hq; split at hq)
    | (rename_i hq; obtain ⟨_, rfl⟩ := Prod.mk.inj hq)

/-- May change: radio, slot, registers of block 1 2. -/
theorem State.backgroundCal_moves (z : State) (path : Nat) : Moves 805306560 z (State.backgroundCal z path) := by
  unfold State.backgroundCal
  repeat'
    first
    | with_reducible apply Moves.refl
    | with_reducible assumption
    | intro _
    | ((with_reducible apply Moves.by (State.nextCal_moves _)); case hs => exact rfl)
    | ((with_reducible apply Moves.by (State.with_radio_moves _ _)); case hs => exact rfl)
    | rw [State.with_radio_eq]
    | with_reducible apply ite_moves
    | (extract_lets +onlyGivenNames x; apply Moves.cut (m := 805306560) (z := z) x; (case' h => unfold x); (case' k => (clear_value x; intro _)))
    | (extract_lets +onlyGivenNames x; clear_value x)
    | split
    | (rename_i hq; split at hq)
    | (rename_i hq; obtain ⟨_, rfl⟩ := Prod.mk.inj hq)

/-- May change: radio, slot, registers of block 1 2. -/
theorem State.calCell_moves (z : State) (path : Nat) : Moves 805306560 z (State.calCell z path) := by
  unfold State.calCell
  repeat'
    first
    | with_reducible apply Moves.refl
    | with_reducible assumption
    | intro _
    | ((with_reducible apply Moves.by (State.nextCal_moves _)); case hs => exact rfl)
    | ((with_reducible apply Moves.by (State.calibrated_moves _ _)); case hs => exact rfl)
    | ((with_reducible apply Moves.by (State.backgroundCal_moves _ _)); case hs => exact rfl)
    | ((with_reducible apply Moves.by (State.with_radio_moves _ _)); case hs => exact rfl)
    | rw [State.with_radio_eq]
    | with_reducible apply ite_moves
    | (extract_lets +onlyGivenNames x; apply Moves.cut (m := 805306560) (z := z) x; (case' h => unfold x); (case' k => (clear_value x; intro _)))
    | (extract_lets +onlyGivenNames x; clear_value x)
    | split
    | (rename_i hq; split at hq)
    | (rename_i hq; obtain ⟨_, rfl⟩ := Prod.mk.inj hq)

/-- May change: mac. -/
theorem State.sharedCell_moves (z : State) (c : Cell) (free : Bool) : Moves 256 z (State.sharedCell z c free) := by
  unfold State.sharedCell
  repeat'
    first
    | with_reducible apply Moves.refl
    | with_reducible assumption
    | intro _
    | ((with_reducible apply Moves.by (State.with_mac_moves _ _)); case hs => exact rfl)
    | rw [State.with_mac_eq]
    | with_reducible apply ite_moves
    | (extract_lets +onlyGivenNames x; apply Moves.cut (m := 256) (z := z) x; (case' h => unfold x); (case' k => (clear_value x; intro _)))
    | (extract_lets +onlyGivenNames x; clear_value x)
    | split
    | (rename_i hq; split at hq)
    | (rename_i hq; obtain ⟨_, rfl⟩ := Prod.mk.inj hq)

/-- May change: slot, registers of block 4. -/
theorem State.startTx_moves (z : State) (u : TxUnit) : Moves 2147483776 z (State.startTx z u) := by
  unfold State.startTx
  repeat'
    first
    | with_reducible apply Moves.refl
    | with_reducible assumption
    | intro _
    | ((with_reducible apply Moves.by (State.accepted_moves _ _)); case hs => exact rfl)
    | ((with_reducible apply Moves.by (State.with_slot_moves _ _)); case hs => exact rfl)
    | rw [State.with_slot_eq]
    | with_reducible apply ite_moves
    | (extract_lets +onlyGivenNames x; apply Moves.cut (m := 2147483776) (z := z) x; (case' h => unfold x); (case' k => (clear_value x; intro _)))
    | (extract_lets +onlyGivenNames x; clear_value x)
    | split
    | (rename_i hq; split at hq)
    | (rename_i hq; obtain ⟨_, rfl⟩ := Prod.mk.inj hq)

/-- May change: slot, mac, registers of block 4. -/
theorem State.selectTx_moves (a0 : Bool) (a1 : Option Nat) (a2 : List Cell) (z : State) : Moves 2147484032 z (State.selectTx a0 a1 a2 z).2 := by
  induction a2 generalizing z a0 a1 with
  | nil =>
  unfold State.selectTx
  repeat'
    first
    | with_reducible apply Moves.refl
    | with_reducible assumption
    | intro _
    | ((with_reducible apply Moves.by (State.sharedCell_moves _ _ _)); case hs => exact rfl)
    | ((with_reducible apply Moves.by (State.startTx_moves _ _)); case hs => exact rfl)
    | with_reducible apply ite_moves
    | with_reducible apply ite_snd_moves
    | (extract_lets +onlyGivenNames x; apply Moves.cut (m := 2147484032) (z := z) x; (case' h => unfold x); (case' k => (clear_value x; intro _)))
    | (extract_lets +onlyGivenNames x; clear_value x)
    | split
    | (rename_i hq; split at hq)
    | (rename_i hq; obtain ⟨_, rfl⟩ := Prod.mk.inj hq)
  | cons b bs ih =>
  unfold State.selectTx
  repeat'
    first
    | ((with_reducible apply Moves.by (ih _ _ _)); case hs => exact rfl)
    | with_reducible apply Moves.refl
    | with_reducible assumption
    | intro _
    | ((with_reducible apply Moves.by (State.sharedCell_moves _ _ _)); case hs => exact rfl)
    | ((with_reducible apply Moves.by (State.startTx_moves _ _)); case hs => exact rfl)
    | with_reducible apply ite_moves
    | with_reducible apply ite_snd_moves
    | (extract_lets +onlyGivenNames x; apply Moves.cut (m := 2147484032) (z := z) x; (case' h => unfold x); (case' k => (clear_value x; intro _)))
    | (extract_lets +onlyGivenNames x; clear_value x)
    | split
    | (rename_i hq; split at hq)
    | (rename_i hq; obtain ⟨_, rfl⟩ := Prod.mk.inj hq)

theorem State.selectTx_pair {a0 : Bool} {a1 : Option Nat} {a2 : List Cell} {z : State} {b1 : Option Nat} {u0 : State} {m0 : Nat} {r0 : State} (hp : State.selectTx a0 a1 a2 z = (b1, u0)) (hs : sub 2147484032 m0 = true) (h : Moves m0 r0 z) : Moves m0 r0 u0 := by
  have g := State.selectTx_moves a0 a1 a2 z
  rw [hp] at g
  exact h.step g hs

/-- May change: power, radio, slot, evr, core0, core1, registers of block 0 1 2 11. -/
theorem State.addWindow_moves (z : State) (ctx : Option Nat) (timekeep : Bool) (kind : Nat) (choff : Nat) (followUp : Bool) : Moves 275817533664 z (State.addWindow z ctx timekeep kind choff followUp) := by
  unfold State.addWindow
  repeat'
    first
    | with_reducible apply Moves.refl
    | with_reducible assumption
    | intro _
    | ((with_reducible apply Moves.by (State.placeChannel_moves _ _ _)); case hs => exact rfl)
    | ((with_reducible apply State.placeChannel_pair); (case hp => assumption); case hs => exact rfl)
    | ((with_reducible apply Moves.by (State.with_slot_moves _ _)); case hs => exact rfl)
    | rw [State.with_slot_eq]
    | ((with_reducible apply Moves.bump); (case hf => (with_reducible apply CHZ_STATUS_UNMAPPED_block)); case hm => exact rfl)
    | with_reducible apply ite_moves
    | (extract_lets +onlyGivenNames x; apply Moves.cut (m := 275817533664) (z := z) x; (case' h => unfold x); (case' k => (clear_value x; intro _)))
    | (extract_lets +onlyGivenNames x; clear_value x)
    | split
    | (rename_i hq; split at hq)
    | (rename_i hq; obtain ⟨_, rfl⟩ := Prod.mk.inj hq)

/-- May change: radio, registers of block 1. -/
theorem State.idleRecal_moves (z : State) (cells : List Cell) : Moves 268435520 z (State.idleRecal z cells) := by
  unfold State.idleRecal
  repeat'
    first
    | with_reducible apply Moves.refl
    | with_reducible assumption
    | intro _
    | ((with_reducible apply Moves.by (State.calibrated_moves _ _)); case hs => exact rfl)
    | with_reducible apply ite_moves
    | with_reducible apply foldl_moves
    | (extract_lets +onlyGivenNames x; apply Moves.cut (m := 268435520) (z := z) x; (case' h => unfold x); (case' k => (clear_value x; intro _)))
    | (extract_lets +onlyGivenNames x; clear_value x)
    | split
    | (rename_i hq; split at hq)
    | (rename_i hq; obtain ⟨_, rfl⟩ := Prod.mk.inj hq)

/-- May change: radio, registers of block 1 2. -/
theorem State.boundaryGain_moves (z : State) (h : Nat) (gain : Nat) : Moves 805306432 z (State.boundaryGain z h gain) := by
  unfold State.boundaryGain
  repeat'
    first
    | with_reducible apply Moves.refl
    | with_reducible assumption
    | intro _
    | ((with_reducible apply Moves.by (State.setLane_moves _ _ _)); case hs => exact rfl)
    | ((with_reducible apply Moves.by (State.agc_moves _ _ _)); case hs => exact rfl)
    | ((with_reducible apply Moves.put); (case hf => (with_reducible apply CHZ_LSTAT_DGAIN_block)); case hm => exact rfl)
    | with_reducible apply ite_moves
    | with_reducible apply foldl_moves
    | (extract_lets +onlyGivenNames x; apply Moves.cut (m := 805306432) (z := z) x; (case' h => unfold x); (case' k => (clear_value x; intro _)))
    | (extract_lets +onlyGivenNames x; clear_value x)
    | split
    | (rename_i hq; split at hq)
    | (rename_i hq; obtain ⟨_, rfl⟩ := Prod.mk.inj hq)

/-- May change: radio, slot, registers of block 1 2. -/
theorem State.startCalCells_moves (z : State) (cal : List Nat) : Moves 805306560 z (State.startCalCells z cal) := by
  unfold State.startCalCells
  repeat'
    first
    | with_reducible apply Moves.refl
    | with_reducible assumption
    | intro _
    | ((with_reducible apply Moves.by (State.calCell_moves _ _)); case hs => exact rfl)
    | ((with_reducible apply Moves.by (State.with_slot_moves _ _)); case hs => exact rfl)
    | rw [State.with_slot_eq]
    | with_reducible apply ite_moves
    | with_reducible apply foldl_moves
    | (extract_lets +onlyGivenNames x; apply Moves.cut (m := 805306560) (z := z) x; (case' h => unfold x); (case' k => (clear_value x; intro _)))
    | (extract_lets +onlyGivenNames x; clear_value x)
    | split
    | (rename_i hq; split at hq)
    | (rename_i hq; obtain ⟨_, rfl⟩ := Prod.mk.inj hq)

/-- May change: power, radio, slot, evr, core0, core1, registers of block 0 1 2 11. -/
theorem State.openWindows_moves (z : State) (child : Option Nat) (rx : List Cell) : Moves 275817533664 z (State.openWindows z child rx) := by
  unfold State.openWindows
  repeat'
    first
    | with_reducible apply Moves.refl
    | with_reducible assumption
    | intro _
    | ((with_reducible apply Moves.by (State.addWindow_moves _ _ _ _ _ _)); case hs => exact rfl)
    | with_reducible apply ite_moves
    | with_reducible apply foldl_moves
    | (extract_lets +onlyGivenNames x; apply Moves.cut (m := 275817533664) (z := z) x; (case' h => unfold x); (case' k => (clear_value x; intro _)))
    | (extract_lets +onlyGivenNames x; clear_value x)
    | split
    | (rename_i hq; split at hq)
    | (rename_i hq; obtain ⟨_, rfl⟩ := Prod.mk.inj hq)

/-- May change: power, radio, slot, mac, evr, core0, core1, registers of block 0 1 2 4 11. -/
theorem State.serveCells_moves (z : State) : Moves 277965017568 z (State.serveCells z) := by
  unfold State.serveCells
  repeat'
    first
    | with_reducible apply Moves.refl
    | with_reducible assumption
    | intro _
    | ((with_reducible apply Moves.by (State.idleRecal_moves _ _)); case hs => exact rfl)
    | ((with_reducible apply Moves.by (State.startCalCells_moves _ _)); case hs => exact rfl)
    | ((with_reducible apply Moves.by (State.startTx_moves _ _)); case hs => exact rfl)
    | ((with_reducible apply Moves.by (State.openWindows_moves _ _ _)); case hs => exact rfl)
    | ((with_reducible apply Moves.by (State.selectTx_moves _ _ _ _)); case hs => exact rfl)
    | ((with_reducible apply State.selectTx_pair); (case hp => assumption); case hs => exact rfl)
    | with_reducible apply ite_moves
    | (extract_lets +onlyGivenNames x; apply Moves.cut (m := 277965017568) (z := z) x; (case' h => unfold x); (case' k => (clear_value x; intro _)))
    | (extract_lets +onlyGivenNames x; clear_value x)
    | split
    | (rename_i hq; split at hq)
    | (rename_i hq; obtain ⟨_, rfl⟩ := Prod.mk.inj hq)

/-- May change: power, radio, slot, mac, evr, core0, core1, registers of block 0 1 2 4 11. -/
theorem State.selectCells_moves (z : State) : Moves 277965017568 z (State.selectCells z) := by
  unfold State.selectCells
  repeat'
    first
    | with_reducible apply Moves.refl
    | with_reducible assumption
    | intro _
    | ((with_reducible apply Moves.by (State.serveCells_moves _)); case hs => exact rfl)
    | ((with_reducible apply Moves.by (State.with_mac_moves _ _)); case hs => exact rfl)
    | rw [State.with_mac_eq]
    | ((with_reducible apply Moves.by (State.with_radio_moves _ _)); case hs => exact rfl)
    | rw [State.with_radio_eq]
    | ((with_reducible apply Moves.by (State.with_radio_slot_mac_moves _ _ _ _)); case hs => exact rfl)
    | rw [State.with_radio_slot_mac_eq]
    | with_reducible apply ite_moves
    | (extract_lets +onlyGivenNames x; apply Moves.cut (m := 277965017568) (z := z) x; (case' h => unfold x); (case' k => (clear_value x; intro _)))
    | (extract_lets +onlyGivenNames x; clear_value x)
    | split
    | (rename_i hq; split at hq)
    | (rename_i hq; obtain ⟨_, rfl⟩ := Prod.mk.inj hq)

/-- May change: slot, registers of block 4. -/
theorem State.disarm_moves (z : State) : Moves 2147483776 z (State.disarm z) := by
  unfold State.disarm
  repeat'
    first
    | with_reducible apply Moves.refl
    | with_reducible assumption
    | intro _
    | ((with_reducible apply Moves.by (State.setStandbyState_moves _ _)); case hs => exact rfl)
    | ((with_reducible apply Moves.by (State.with_slot_moves _ _)); case hs => exact rfl)
    | rw [State.with_slot_eq]
    | with_reducible apply ite_moves
    | (extract_lets +onlyGivenNames x; apply Moves.cut (m := 2147483776) (z := z) x; (case' h => unfold x); (case' k => (clear_value x; intro _)))
    | (extract_lets +onlyGivenNames x; clear_value x)
    | split
    | (rename_i hq; split at hq)
    | (rename_i hq; obtain ⟨_, rfl⟩ := Prod.mk.inj hq)

/-- May change: radio. -/
theorem State.pathReturn_moves (z : State) (p : Path) : Moves 64 z (State.pathReturn z p) := by
  unfold State.pathReturn
  repeat'
    first
    | with_reducible apply Moves.refl
    | with_reducible assumption
    | intro _
    | ((with_reducible apply Moves.by (State.setPath_moves _ _ _)); case hs => exact rfl)
    | with_reducible apply ite_moves
    | (extract_lets +onlyGivenNames x; apply Moves.cut (m := 64) (z := z) x; (case' h => unfold x); (case' k => (clear_value x; intro _)))
    | (extract_lets +onlyGivenNames x; clear_value x)
    | split
    | (rename_i hq; split at hq)
    | (rename_i hq; obtain ⟨_, rfl⟩ := Prod.mk.inj hq)

/-- May change: power, radio, slot, mac, sec, evr, core0, core1, registers of block 0 4 11. -/
theorem State.stopProgram_moves (z : State) : Moves 277159711712 z (State.stopProgram z) := by
  unfold State.stopProgram
  repeat'
    first
    | with_reducible apply Moves.refl
    | with_reducible assumption
    | intro _
    | ((with_reducible apply Moves.by (State.disarm_moves _)); case hs => exact rfl)
    | ((with_reducible apply Moves.by (State.takeReserve_moves _ _)); case hs => exact rfl)
    | ((with_reducible apply Moves.by (State.pathReturn_moves _ _)); case hs => exact rfl)
    | ((with_reducible apply Moves.by (State.with_mac_moves _ _)); case hs => exact rfl)
    | rw [State.with_mac_eq]
    | ((with_reducible apply Moves.by (State.with_slot_moves _ _)); case hs => exact rfl)
    | rw [State.with_slot_eq]
    | ((with_reducible apply Moves.flag); (case hf => (with_reducible first | apply SLE_STATUS_RUNNING_block | apply SLE_STATUS_STOP_PEND_block)); case hm => exact rfl)
    | with_reducible apply ite_moves
    | with_reducible apply foldl_moves
    | (extract_lets +onlyGivenNames x; apply Moves.cut (m := 277159711712) (z := z) x; (case' h => unfold x); (case' k => (clear_value x; intro _)))
    | (extract_lets +onlyGivenNames x; clear_value x)
    | split
    | (rename_i hq; split at hq)
    | (rename_i hq; obtain ⟨_, rfl⟩ := Prod.mk.inj hq)

/-- May change: power, evr, core0, core1, registers of block 0 8 11. -/
theorem State.steerOff_moves (z : State) : Moves 309371965472 z (State.steerOff z) := by
  unfold State.steerOff
  repeat'
    first
    | with_reducible apply Moves.refl
    | with_reducible assumption
    | intro _
    | ((with_reducible apply Moves.by (State.raiseIf_moves _ _ _)); case hs => exact rfl)
    | ((with_reducible apply Moves.flag); (case hf => (with_reducible apply GNS_STATUS_STEER_LOCK_block)); case hm => exact rfl)
    | with_reducible apply ite_moves
    | (extract_lets +onlyGivenNames x; apply Moves.cut (m := 309371965472) (z := z) x; (case' h => unfold x); (case' k => (clear_value x; intro _)))
    | (extract_lets +onlyGivenNames x; clear_value x)
    | split
    | (rename_i hq; split at hq)
    | (rename_i hq; obtain ⟨_, rfl⟩ := Prod.mk.inj hq)

/-- May change: radio, mac, registers of block 2 5. -/
theorem State.unfollow_moves (z : State) : Moves 4831838528 z (State.unfollow z) := by
  unfold State.unfollow
  repeat'
    first
    | with_reducible apply Moves.refl
    | with_reducible assumption
    | intro _
    | ((with_reducible apply Moves.by (State.leaveScan_moves _ _)); case hs => exact rfl)
    | ((with_reducible apply Moves.by (State.with_mac_moves _ _)); case hs => exact rfl)
    | rw [State.with_mac_eq]

/-- May change: mem, power, radio, slot, mac, evr, core0, core1, registers of block 0 1 2 4 5 8 11. -/
theorem State.enterMode_moves (z : State) (m : Nat) : Moves 316619723236 z (State.enterMode z m) := by
  unfold State.enterMode
  repeat'
    first
    | with_reducible apply Moves.refl
    | with_reducible assumption
    | intro _
    | ((with_reducible apply Moves.by (State.steerOff_moves _)); case hs => exact rfl)
    | ((with_reducible apply Moves.by (State.unfollow_moves _)); case hs => exact rfl)
    | ((with_reducible apply Moves.by (State.leaveScan_moves _ _)); case hs => exact rfl)
    | ((with_reducible apply Moves.by (State.disarm_moves _)); case hs => exact rfl)
    | ((with_reducible apply Moves.by (State.finishDesc_moves _ _ _)); case hs => exact rfl)
    | ((with_reducible apply Moves.by (State.raise_moves _ _)); case hs => exact rfl)
    | ((with_reducible apply Moves.by (State.enterScan_moves _)); case hs => exact rfl)
    | ((with_reducible apply Moves.by (State.abortCal_moves _)); case hs => exact rfl)
    | ((with_reducible apply Moves.by (State.with_slot_mac_moves _ _ _)); case hs => exact rfl)
    | rw [State.with_slot_mac_eq]
    | ((with_reducible apply Moves.put); (case hf => (with_reducible first | apply MAC_STATUS_POLL_EXT_block | apply PRC_MODE_MODE_block | apply PRC_MODE_PENDING_block | apply PRC_MODE_PREV_block)); case hm => exact rfl)
    | ((with_reducible apply Moves.flag); (case hf => (with_reducible first | apply MAC_STATUS_POLL_EXT_block | apply PRC_MODE_MODE_block | apply PRC_MODE_PENDING_block | apply PRC_MODE_PREV_block)); case hm => exact rfl)
    | with_reducible apply ite_moves
    | with_reducible apply foldl_moves
    | (extract_lets +onlyGivenNames x; apply Moves.cut (m := 316619723236) (z := z) x; (case' h => unfold x); (case' k => (clear_value x; intro _)))
    | (extract_lets +onlyGivenNames x; clear_value x)
    | split
    | (rename_i hq; split at hq)
    | (rename_i hq; obtain ⟨_, rfl⟩ := Prod.mk.inj hq)

/-- May change: power. -/
theorem State.markBoundary_moves (z : State) (b : Bool) : Moves 32 z (State.markBoundary z b) := by
  unfold State.markBoundary
  repeat'
    first
    | with_reducible apply Moves.refl
    | with_reducible assumption
    | intro _
    | ((with_reducible apply Moves.by (State.with_power_moves _ _)); case hs => exact rfl)
    | rw [State.with_power_eq]
    | with_reducible apply ite_moves
    | (extract_lets +onlyGivenNames x; apply Moves.cut (m := 32) (z := z) x; (case' h => unfold x); (case' k => (clear_value x; intro _)))
    | (extract_lets +onlyGivenNames x; clear_value x)
    | split
    | (rename_i hq; split at hq)
    | (rename_i hq; obtain ⟨_, rfl⟩ := Prod.mk.inj hq)

/-- May change: power, radio, slot, sec, evr, core0, core1, boot, objs, registers of block 0 1 2 4 11. -/
theorem State.swapIn_moves (z : State) (new : Nat) : Moves 277974455008 z (State.swapIn z new) := by
  unfold State.swapIn
  repeat'
    first
    | with_reducible apply Moves.refl
    | with_reducible assumption
    | intro _
    | ((with_reducible apply Moves.by (State.swapBuffers_moves _ _)); case hs => exact rfl)
    | ((with_reducible apply Moves.by (State.beginSlot_moves _ _)); case hs => exact rfl)
    | ((with_reducible apply Moves.by (State.setObj_moves _ _ _)); case hs => exact rfl)
    | ((with_reducible apply Moves.by (State.persist_moves _ _ _)); case hs => exact rfl)
    | with_reducible apply ite_moves
    | (extract_lets +onlyGivenNames x; apply Moves.cut (m := 277974455008) (z := z) x; (case' h => unfold x); (case' k => (clear_value x; intro _)))
    | (extract_lets +onlyGivenNames x; clear_value x)
    | split
    | (rename_i hq; split at hq)
    | (rename_i hq; obtain ⟨_, rfl⟩ := Prod.mk.inj hq)

/-- May change: tnet, clock, mem, poison, power, radio, slot, mac, sec, evr, core0, core1, lgy, boot, objs, registers of block 0 1 2 4 5 8 11 15. -/
theorem State.turnSlot_moves (z : State) (stop : Bool) (toMode : Bool) : Moves 4714675803119 z (State.turnSlot z stop toMode) := by
  unfold State.turnSlot
  repeat'
    first
    | with_reducible apply Moves.refl
    | with_reducible assumption
    | intro _
    | ((with_reducible apply Moves.by (State.takeStaged_moves _)); case hs => exact rfl)
    | ((with_reducible apply Moves.by (State.swapIn_moves _ _)); case hs => exact rfl)
    | ((with_reducible apply Moves.by (State.stepThree_moves _)); case hs => exact rfl)
    | ((with_reducible apply Moves.by (State.beginSlot_moves _ _)); case hs => exact rfl)
    | ((with_reducible apply Moves.by (State.reachBoundary_moves _)); case hs => exact rfl)
    | ((with_reducible apply Moves.by (State.takeCoarse_moves _)); case hs => exact rfl)
    | ((with_reducible apply Moves.by (State.endUnits_moves _ _ _)); case hs => exact rfl)
    | with_reducible apply ite_moves
    | (extract_lets +onlyGivenNames x; apply Moves.cut (m := 4714675803119) (z := z) x; (case' h => unfold x); (case' k => (clear_value x; intro _)))
    | (extract_lets +onlyGivenNames x; clear_value x)
    | split
    | (rename_i hq; split at hq)
    | (rename_i hq; obtain ⟨_, rfl⟩ := Prod.mk.inj hq)

/-- May change: mem, power, radio, slot, mac, sec, evr, core0, core1, registers of block 0 1 2 4 5 8 11. -/
theorem State.stopAt_moves (z : State) : Moves 316619723748 z (State.stopAt z) := by
  unfold State.stopAt
  repeat'
    first
    | with_reducible apply Moves.refl
    | with_reducible assumption
    | intro _
    | ((with_reducible apply Moves.by (State.stopProgram_moves _)); case hs => exact rfl)
    | ((with_reducible apply Moves.by (State.enterMode_moves _ _)); case hs => exact rfl)
    | with_reducible apply ite_moves
    | (extract_lets +onlyGivenNames x; apply Moves.cut (m := 316619723748) (z := z) x; (case' h => unfold x); (case' k => (clear_value x; intro _)))
    | (extract_lets +onlyGivenNames x; clear_value x)
    | split
    | (rename_i hq; split at hq)
    | (rename_i hq; obtain ⟨_, rfl⟩ := Prod.mk.inj hq)

/-- May change: power, radio, slot, mac, evr, core0, core1, registers of block 0 1 2 4 11. -/
theorem State.fillSlot_moves (z : State) (gainA : Nat) (gainB : Nat) : Moves 277965017568 z (State.fillSlot z gainA gainB) := by
  unfold State.fillSlot
  repeat'
    first
    | with_reducible apply Moves.refl
    | with_reducible assumption
    | intro _
    | ((with_reducible apply Moves.by (State.boundaryGain_moves _ _ _)); case hs => exact rfl)
    | ((with_reducible apply Moves.by (State.selectCells_moves _)); case hs => exact rfl)
    | with_reducible apply ite_moves
    | (extract_lets +onlyGivenNames x; apply Moves.cut (m := 277965017568) (z := z) x; (case' h => unfold x); (case' k => (clear_value x; intro _)))
    | (extract_lets +onlyGivenNames x; clear_value x)
    | split
    | (rename_i hq; split at hq)
    | (rename_i hq; obtain ⟨_, rfl⟩ := Prod.mk.inj hq)

/-- May change: tnet, clock, mem, poison, power, radio, slot, mac, sec, evr, core0, core1, lgy, boot, objs, registers of block 0 1 2 4 5 8 11 15. -/
theorem State.boundary_moves (z : State) (gainA : Nat) (gainB : Nat) : Moves 4714675803119 z (State.boundary z gainA gainB) := by
  unfold State.boundary
  repeat'
    first
    | with_reducible apply Moves.refl
    | with_reducible assumption
    | intro _
    | ((with_reducible apply Moves.by (State.markBoundary_moves _ _)); case hs => exact rfl)
    | ((with_reducible apply Moves.by (State.stopAt_moves _)); case hs => exact rfl)
    | ((with_reducible apply Moves.by (State.turnSlot_moves _ _ _)); case hs => exact rfl)
    | ((with_reducible apply Moves.by (State.fillSlot_moves _ _ _)); case hs => exact rfl)
    | with_reducible apply ite_moves
    | (extract_lets +onlyGivenNames x; apply Moves.cut (m := 4714675803119) (z := z) x; (case' h => unfold x); (case' k => (clear_value x; intro _)))
    | (extract_lets +onlyGivenNames x; clear_value x)
    | split
    | (rename_i hq; split at hq)
    | (rename_i hq; obtain ⟨_, rfl⟩ := Prod.mk.inj hq)

end Sys2Proof.Machine
end

