-- ==== Sys2Proof/Laws/Mac.lean ====
section
/-! SUPPORT. What the operations of Machine/Mac.lean may change. -/
set_option linter.all false
namespace Sys2Proof.Machine

set_option linter.tactic.unusedName false

/-- May change: mem, poison, power, radio, slot, mac, evr, core0, core1, registers of block 0 2 5 11. -/
theorem State.stageContext_moves (z : State) (c : CtxStage) : Moves 279844065772 z (State.stageContext z c) := by
  unfold State.stageContext
  repeat'
    first
    | with_reducible apply Moves.refl
    | with_reducible assumption
    | intro _
    | ((with_reducible apply Moves.by (State.applyContext_moves _)); case hs => exact rfl)
    | ((with_reducible apply Moves.by (State.with_mac_moves _ _)); case hs => exact rfl)
    | rw [State.with_mac_eq]
    | ((with_reducible apply Moves.flag); (case hf => (with_reducible first | apply MAC_CTXSTAT_BUSY_block | apply MAC_CTXSTAT_REJ_block)); case hm => exact rfl)
    | with_reducible apply ite_moves
    | (extract_lets +onlyGivenNames x; apply Moves.cut (m := 279844065772) (z := z) x; (case' h => unfold x); (case' k => (clear_value x; intro _)))
    | (extract_lets +onlyGivenNames x; clear_value x)
    | split
    | (rename_i hq; split at hq)
    | (rename_i hq; obtain ⟨_, rfl⟩ := Prod.mk.inj hq)

/-- May change: mem, poison, power, radio, slot, mac, evr, core0, core1, registers of block 0 2 5 11. -/
theorem execContextWrite_goes (index : Fin 1024) (z : State) : Goes 279844065772 z (execContextWrite index z) := by
  unfold execContextWrite
  repeat'
    first
    | with_reducible apply Moves.refl
    | with_reducible assumption
    | intro _
    | with_reducible apply goOn_goes
    | with_reducible apply ite_goes
    | ((with_reducible apply Moves.by (State.stageContext_moves _ _)); case hs => exact rfl)
    | (extract_lets +onlyGivenNames x; apply Moves.cut (m := 279844065772) (z := z) x; (case' h => unfold x); (case' k => (clear_value x; intro _)))
    | (extract_lets +onlyGivenNames x; clear_value x)
    | split
    | (rename_i hq; split at hq)
    | (rename_i hq; obtain ⟨_, rfl⟩ := Prod.mk.inj hq)

/-- May change: mac, registers of block 5. -/
theorem execContextRead_goes (index : Fin 1024) (z : State) : Goes 4294967552 z (execContextRead index z) := by
  unfold execContextRead
  repeat'
    first
    | with_reducible apply Moves.refl
    | with_reducible assumption
    | intro _
    | with_reducible apply goOn_goes
    | with_reducible apply ite_goes
    | ((with_reducible apply Moves.by (State.with_mac_moves _ _)); case hs => exact rfl)
    | rw [State.with_mac_eq]
    | ((with_reducible apply Moves.flag); (case hf => (with_reducible apply MAC_CTXSTAT_REJ_block)); case hm => exact rfl)
    | with_reducible apply ite_moves
    | (extract_lets +onlyGivenNames x; apply Moves.cut (m := 4294967552) (z := z) x; (case' h => unfold x); (case' k => (clear_value x; intro _)))
    | (extract_lets +onlyGivenNames x; clear_value x)
    | split
    | (rename_i hq; split at hq)
    | (rename_i hq; obtain ⟨_, rfl⟩ := Prod.mk.inj hq)

/-- May change: mem, poison, power, radio, slot, mac, evr, core0, core1, registers of block 0 2 5 11. -/
theorem execContextDelete_goes (index : Fin 1024) (z : State) : Goes 279844065772 z (execContextDelete index z) := by
  unfold execContextDelete
  repeat'
    first
    | with_reducible apply Moves.refl
    | with_reducible assumption
    | intro _
    | with_reducible apply goOn_goes
    | with_reducible apply ite_goes
    | ((with_reducible apply Moves.by (State.stageContext_moves _ _)); case hs => exact rfl)
    | (extract_lets +onlyGivenNames x; apply Moves.cut (m := 279844065772) (z := z) x; (case' h => unfold x); (case' k => (clear_value x; intro _)))
    | (extract_lets +onlyGivenNames x; clear_value x)
    | split
    | (rename_i hq; split at hq)
    | (rename_i hq; obtain ⟨_, rfl⟩ := Prod.mk.inj hq)

/-- May change: radio, slot, registers of block 2. -/
theorem State.dropAckWindow_moves (z : State) (w : RxWindow) : Moves 536871104 z (State.dropAckWindow z w) := by
  unfold State.dropAckWindow
  repeat'
    first
    | with_reducible apply Moves.refl
    | with_reducible assumption
    | intro _
    | ((with_reducible apply Moves.by (State.closeLane_moves _ _)); case hs => exact rfl)
    | ((with_reducible apply Moves.by (State.with_slot_moves _ _)); case hs => exact rfl)
    | rw [State.with_slot_eq]
    | with_reducible apply ite_moves
    | with_reducible apply foldl_moves
    | (extract_lets +onlyGivenNames x; apply Moves.cut (m := 536871104) (z := z) x; (case' h => unfold x); (case' k => (clear_value x; intro _)))
    | (extract_lets +onlyGivenNames x; clear_value x)
    | split
    | (rename_i hq; split at hq)
    | (rename_i hq; obtain ⟨_, rfl⟩ := Prod.mk.inj hq)

/-- May change: mem, power, radio, mac, evr, core0, core1, registers of block 0 2 5 11. -/
theorem State.ackUpdates_moves (z : State) (c : Nat) (r : RxUnit) : Moves 279844065636 z (State.ackUpdates z c r) := by
  unfold State.ackUpdates
  repeat'
    first
    | with_reducible apply Moves.refl
    | with_reducible assumption
    | intro _
    | ((with_reducible apply Moves.by (State.timeSample_moves _ _ _ _ _ _)); case hs => exact rfl)
    | ((with_reducible apply Moves.by (State.synced_moves _)); case hs => exact rfl)
    | ((with_reducible apply Moves.by (State.setMiss_moves _ _ _)); case hs => exact rfl)
    | ((with_reducible apply Moves.by (State.foldOffset_moves _ _ _)); case hs => exact rfl)
    | ((with_reducible apply Moves.by (State.setCtx_moves _ _ _ _ _)); case hs => exact rfl)
    | with_reducible apply ite_moves
    | (extract_lets +onlyGivenNames x; apply Moves.cut (m := 279844065636) (z := z) x; (case' h => unfold x); (case' k => (clear_value x; intro _)))
    | (extract_lets +onlyGivenNames x; clear_value x)
    | split
    | (rename_i hq; split at hq)
    | (rename_i hq; obtain ⟨_, rfl⟩ := Prod.mk.inj hq)

/-- May change: mem, power, slot, mac, evr, core0, core1, lgy, registers of block 0 5 11 15. -/
theorem State.acked_moves (z : State) (u : TxUnit) (h : MacHeader) : Moves 4677353836964 z (State.acked z u h) := by
  unfold State.acked
  repeat'
    first
    | with_reducible apply Moves.refl
    | with_reducible assumption
    | intro _
    | ((with_reducible apply Moves.by (State.setDesc_moves _ _ _ _ _)); case hs => exact rfl)
    | ((with_reducible apply Moves.by (State.scheduleFollowUp_moves _ _ _ _)); case hs => exact rfl)
    | ((with_reducible apply Moves.by (State.endTx_moves _ _ _)); case hs => exact rfl)
    | ((with_reducible apply Moves.by (State.removeTx_moves _ _)); case hs => exact rfl)
    | ((with_reducible apply Moves.by (State.with_mac_moves _ _)); case hs => exact rfl)
    | rw [State.with_mac_eq]
    | ((with_reducible apply Moves.flag); (case hf => (with_reducible apply MAC_STATUS_POLL_EXT_block)); case hm => exact rfl)
    | with_reducible apply ite_moves
    | (extract_lets +onlyGivenNames x; apply Moves.cut (m := 4677353836964) (z := z) x; (case' h => unfold x); (case' k => (clear_value x; intro _)))
    | (extract_lets +onlyGivenNames x; clear_value x)
    | split
    | (rename_i hq; split at hq)
    | (rename_i hq; obtain ⟨_, rfl⟩ := Prod.mk.inj hq)

/-- May change: mem, power, radio, slot, mac, evr, core0, core1, lgy, registers of block 0 2 5 11 15. -/
theorem State.lgyAcked_moves (z : State) (p : LgyPayload) : Moves 4677890707940 z (State.lgyAcked z p) := by
  unfold State.lgyAcked
  repeat'
    first
    | with_reducible apply Moves.refl
    | with_reducible assumption
    | intro _
    | ((with_reducible apply Moves.by (State.dropAckWindow_moves _ _)); case hs => exact rfl)
    | ((with_reducible apply Moves.by (State.lgyFlag_moves _ _)); case hs => exact rfl)
    | ((with_reducible apply Moves.by (State.endTx_moves _ _ _)); case hs => exact rfl)
    | with_reducible apply ite_moves
    | with_reducible apply foldl_moves
    | (extract_lets +onlyGivenNames x; apply Moves.cut (m := 4677890707940) (z := z) x; (case' h => unfold x); (case' k => (clear_value x; intro _)))
    | (extract_lets +onlyGivenNames x; clear_value x)
    | split
    | (rename_i hq; split at hq)
    | (rename_i hq; obtain ⟨_, rfl⟩ := Prod.mk.inj hq)

/-- May change: mem, power, radio, slot, mac, sec, evr, core0, core1, lgy, registers of block 0 2 5 6 11 15. -/
theorem execAckReceived_goes (lane : Fin 128) (frame : List Byte) (fcsOk : Bool) (tSfd : Nat) (rssi : Int) (offset : Int) (z : State) : Goes 4686480643044 z (execAckReceived lane frame fcsOk tSfd rssi offset z) := by
  unfold execAckReceived
  repeat'
    first
    | with_reducible apply Moves.refl
    | with_reducible assumption
    | intro _
    | with_reducible apply goOn_goes
    | with_reducible apply ite_goes
    | ((with_reducible apply Moves.by (State.dropAckWindow_moves _ _)); case hs => exact rfl)
    | ((with_reducible apply Moves.by (State.acked_moves _ _ _)); case hs => exact rfl)
    | ((with_reducible apply Moves.by (State.ackUpdates_moves _ _ _)); case hs => exact rfl)
    | ((with_reducible apply Moves.by (State.secureRx_moves _ _ _)); case hs => exact rfl)
    | ((with_reducible apply State.secureRx_pair); (case hp => assumption); case hs => exact rfl)
    | ((with_reducible apply Moves.by (State.lgyAcked_moves _ _)); case hs => exact rfl)
    | with_reducible apply ite_moves
    | (extract_lets +onlyGivenNames x; apply Moves.cut (m := 4686480643044) (z := z) x; (case' h => unfold x); (case' k => (clear_value x; intro _)))
    | (extract_lets +onlyGivenNames x; clear_value x)
    | split
    | (rename_i hq; split at hq)
    | (rename_i hq; obtain ⟨_, rfl⟩ := Prod.mk.inj hq)

/-- May change: mem, power, radio, slot, mac, evr, core0, core1, lgy, registers of block 0 1 2 5 11 15. -/
theorem execAckWindowClose_goes (lane : Fin 128) (z : State) : Goes 4678159143396 z (execAckWindowClose lane z) := by
  unfold execAckWindowClose
  repeat'
    first
    | with_reducible apply Moves.refl
    | with_reducible assumption
    | intro _
    | with_reducible apply goOn_goes
    | with_reducible apply ite_goes
    | ((with_reducible apply Moves.by (State.dropAckWindow_moves _ _)); case hs => exact rfl)
    | ((with_reducible apply Moves.by (State.noAck_moves _ _)); case hs => exact rfl)
    | (extract_lets +onlyGivenNames x; apply Moves.cut (m := 4678159143396) (z := z) x; (case' h => unfold x); (case' k => (clear_value x; intro _)))
    | (extract_lets +onlyGivenNames x; clear_value x)
    | split
    | (rename_i hq; split at hq)
    | (rename_i hq; obtain ⟨_, rfl⟩ := Prod.mk.inj hq)

/-- May change: power, evr, core0, core1, registers of block 0 5 11. -/
theorem execAdriftEntry_goes (z : State) : Goes 279307194400 z (execAdriftEntry z) := by
  unfold execAdriftEntry
  repeat'
    first
    | with_reducible apply Moves.refl
    | with_reducible assumption
    | intro _
    | with_reducible apply goOn_goes
    | with_reducible apply ite_goes
    | ((with_reducible apply Moves.by (State.raise_moves _ _)); case hs => exact rfl)
    | ((with_reducible apply Moves.put); (case hf => (with_reducible apply MAC_STATUS_SYNC_block)); case hm => exact rfl)
    | with_reducible apply ite_moves
    | (extract_lets +onlyGivenNames x; apply Moves.cut (m := 279307194400) (z := z) x; (case' h => unfold x); (case' k => (clear_value x; intro _)))
    | (extract_lets +onlyGivenNames x; clear_value x)
    | split
    | (rename_i hq; split at hq)
    | (rename_i hq; obtain ⟨_, rfl⟩ := Prod.mk.inj hq)

/-- May change: power, radio, slot, mac, evr, core0, core1, registers of block 0 1 2 5 11. -/
theorem execAdriftTimeout_goes (z : State) : Goes 280112501216 z (execAdriftTimeout z) := by
  unfold execAdriftTimeout
  repeat'
    first
    | with_reducible apply Moves.refl
    | with_reducible assumption
    | intro _
    | with_reducible apply goOn_goes
    | with_reducible apply ite_goes
    | ((with_reducible apply Moves.by (State.enterScan_moves _)); case hs => exact rfl)
    | with_reducible apply ite_moves
    | (extract_lets +onlyGivenNames x; apply Moves.cut (m := 280112501216) (z := z) x; (case' h => unfold x); (case' k => (clear_value x; intro _)))
    | (extract_lets +onlyGivenNames x; clear_value x)
    | split
    | (rename_i hq; split at hq)
    | (rename_i hq; obtain ⟨_, rfl⟩ := Prod.mk.inj hq)

/-- May change: power, radio, slot, mac, evr, core0, core1, registers of block 0 1 2 11. -/
theorem execScanDwellEnd_goes (z : State) : Goes 275817533920 z (execScanDwellEnd z) := by
  unfold execScanDwellEnd
  repeat'
    first
    | with_reducible apply Moves.refl
    | with_reducible assumption
    | intro _
    | with_reducible apply goOn_goes
    | with_reducible apply ite_goes
    | ((with_reducible apply Moves.by (State.scanStep_moves _ _)); case hs => exact rfl)
    | with_reducible apply ite_moves
    | (extract_lets +onlyGivenNames x; apply Moves.cut (m := 275817533920) (z := z) x; (case' h => unfold x); (case' k => (clear_value x; intro _)))
    | (extract_lets +onlyGivenNames x; clear_value x)
    | split
    | (rename_i hq; split at hq)
    | (rename_i hq; obtain ⟨_, rfl⟩ := Prod.mk.inj hq)

/-- May change: power, radio, slot, mac, evr, core0, core1, registers of block 0 1 2 5 11. -/
theorem execSyncScan_goes (z : State) : Goes 280112501216 z (execSyncScan z) := by
  unfold execSyncScan
  repeat'
    first
    | with_reducible apply Moves.refl
    | with_reducible assumption
    | intro _
    | with_reducible apply goOn_goes
    | with_reducible apply ite_goes
    | ((with_reducible apply Moves.by (State.enterScan_moves _)); case hs => exact rfl)
    | with_reducible apply ite_moves
    | (extract_lets +onlyGivenNames x; apply Moves.cut (m := 280112501216) (z := z) x; (case' h => unfold x); (case' k => (clear_value x; intro _)))
    | (extract_lets +onlyGivenNames x; clear_value x)
    | split
    | (rename_i hq; split at hq)
    | (rename_i hq; obtain ⟨_, rfl⟩ := Prod.mk.inj hq)

/-- May change: radio, registers of block 2 5. -/
theorem execSyncStop_goes (z : State) : Goes 4831838272 z (execSyncStop z) := by
  unfold execSyncStop
  repeat'
    first
    | with_reducible apply Moves.refl
    | with_reducible assumption
    | intro _
    | with_reducible apply goOn_goes
    | with_reducible apply ite_goes
    | ((with_reducible apply Moves.by (State.leaveScan_moves _ _)); case hs => exact rfl)
    | with_reducible apply ite_moves
    | (extract_lets +onlyGivenNames x; apply Moves.cut (m := 4831838272) (z := z) x; (case' h => unfold x); (case' k => (clear_value x; intro _)))
    | (extract_lets +onlyGivenNames x; clear_value x)
    | split
    | (rename_i hq; split at hq)
    | (rename_i hq; obtain ⟨_, rfl⟩ := Prod.mk.inj hq)

/-- May change: mac. -/
theorem State.wantPoll_moves (z : State) : Moves 256 z (State.wantPoll z) := by
  unfold State.wantPoll
  repeat'
    first
    | with_reducible apply Moves.refl
    | with_reducible assumption
    | intro _
    | ((with_reducible apply Moves.by (State.with_mac_moves _ _)); case hs => exact rfl)
    | rw [State.with_mac_eq]
    | with_reducible apply ite_moves
    | (extract_lets +onlyGivenNames x; apply Moves.cut (m := 256) (z := z) x; (case' h => unfold x); (case' k => (clear_value x; intro _)))
    | (extract_lets +onlyGivenNames x; clear_value x)
    | split
    | (rename_i hq; split at hq)
    | (rename_i hq; obtain ⟨_, rfl⟩ := Prod.mk.inj hq)

/-- May change: mac. -/
theorem execSyncPoll_goes (z : State) : Goes 256 z (execSyncPoll z) := by
  unfold execSyncPoll
  repeat'
    first
    | with_reducible apply Moves.refl
    | with_reducible assumption
    | intro _
    | with_reducible apply goOn_goes
    | with_reducible apply ite_goes
    | ((with_reducible apply Moves.by (State.wantPoll_moves _)); case hs => exact rfl)
    | (extract_lets +onlyGivenNames x; apply Moves.cut (m := 256) (z := z) x; (case' h => unfold x); (case' k => (clear_value x; intro _)))
    | (extract_lets +onlyGivenNames x; clear_value x)
    | split
    | (rename_i hq; split at hq)
    | (rename_i hq; obtain ⟨_, rfl⟩ := Prod.mk.inj hq)

/-- May change: mem, power, mac, evr, core0, core1, registers of block 0 5 11. -/
theorem execTxPush_goes (index : Fin 4096) (z : State) : Goes 279307194660 z (execTxPush index z) := by
  unfold execTxPush
  repeat'
    first
    | with_reducible apply Moves.refl
    | with_reducible assumption
    | intro _
    | with_reducible apply goOn_goes
    | with_reducible apply ite_goes
    | ((with_reducible apply Moves.by (State.setDesc_moves _ _ _ _ _)); case hs => exact rfl)
    | ((with_reducible apply Moves.by (State.setPending_moves _ _ _)); case hs => exact rfl)
    | ((with_reducible apply Moves.by (State.txDone_moves _ _ _)); case hs => exact rfl)
    | ((with_reducible apply Moves.by (State.with_mac_moves _ _)); case hs => exact rfl)
    | rw [State.with_mac_eq]
    | with_reducible apply ite_moves
    | (extract_lets +onlyGivenNames x; apply Moves.cut (m := 279307194660) (z := z) x; (case' h => unfold x); (case' k => (clear_value x; intro _)))
    | (extract_lets +onlyGivenNames x; clear_value x)
    | split
    | (rename_i hq; split at hq)
    | (rename_i hq; obtain ⟨_, rfl⟩ := Prod.mk.inj hq)

/-- May change: mac. -/
theorem execTxDonePop_goes (z : State) : Goes 256 z (execTxDonePop z) := by
  unfold execTxDonePop
  repeat'
    first
    | with_reducible apply Moves.refl
    | with_reducible assumption
    | intro _
    | with_reducible apply goOn_goes
    | with_reducible apply ite_goes
    | ((with_reducible apply Moves.by (State.with_mac_moves _ _)); case hs => exact rfl)
    | rw [State.with_mac_eq]
    | (extract_lets +onlyGivenNames x; apply Moves.cut (m := 256) (z := z) x; (case' h => unfold x); (case' k => (clear_value x; intro _)))
    | (extract_lets +onlyGivenNames x; clear_value x)
    | split
    | (rename_i hq; split at hq)
    | (rename_i hq; obtain ⟨_, rfl⟩ := Prod.mk.inj hq)

/-- May change: mem, power, mac, evr, core0, core1, registers of block 0 5 11. -/
theorem execQueueFlush_goes (queue : Fin 16) (z : State) : Goes 279307194660 z (execQueueFlush queue z) := by
  unfold execQueueFlush
  repeat'
    first
    | with_reducible apply Moves.refl
    | with_reducible assumption
    | intro _
    | with_reducible apply goOn_goes
    | with_reducible apply ite_goes
    | ((with_reducible apply Moves.by (State.finishDesc_moves _ _ _)); case hs => exact rfl)
    | with_reducible apply ite_moves
    | with_reducible apply foldl_moves
    | (extract_lets +onlyGivenNames x; apply Moves.cut (m := 279307194660) (z := z) x; (case' h => unfold x); (case' k => (clear_value x; intro _)))
    | (extract_lets +onlyGivenNames x; clear_value x)
    | split
    | (rename_i hq; split at hq)
    | (rename_i hq; obtain ⟨_, rfl⟩ := Prod.mk.inj hq)

/-- May change: mem, power, mac, evr, core0, core1, registers of block 0 5 11. -/
theorem execFlushPending_goes (z : State) : Goes 279307194660 z (execFlushPending z) := by
  unfold execFlushPending
  repeat'
    first
    | with_reducible apply Moves.refl
    | with_reducible assumption
    | intro _
    | with_reducible apply goOn_goes
    | with_reducible apply ite_goes
    | ((with_reducible apply Moves.by (State.finishDesc_moves _ _ _)); case hs => exact rfl)
    | with_reducible apply ite_moves
    | with_reducible apply foldl_moves
    | (extract_lets +onlyGivenNames x; apply Moves.cut (m := 279307194660) (z := z) x; (case' h => unfold x); (case' k => (clear_value x; intro _)))
    | (extract_lets +onlyGivenNames x; clear_value x)
    | split
    | (rename_i hq; split at hq)
    | (rename_i hq; obtain ⟨_, rfl⟩ := Prod.mk.inj hq)

/-- May change: mac, registers of block 5. -/
theorem execDqRelease_goes (rd : Nat) (z : State) : Goes 4294967552 z (execDqRelease rd z) := by
  unfold execDqRelease
  repeat'
    first
    | with_reducible apply Moves.refl
    | with_reducible assumption
    | intro _
    | with_reducible apply goOn_goes
    | with_reducible apply ite_goes
    | ((with_reducible apply Moves.by (State.with_mac_moves _ _)); case hs => exact rfl)
    | rw [State.with_mac_eq]
    | ((with_reducible apply Moves.put); (case hf => (with_reducible apply MAC_DQ_RD_block)); case hm => exact rfl)
    | with_reducible apply ite_moves
    | (extract_lets +onlyGivenNames x; apply Moves.cut (m := 4294967552) (z := z) x; (case' h => unfold x); (case' k => (clear_value x; intro _)))
    | (extract_lets +onlyGivenNames x; clear_value x)
    | split
    | (rename_i hq; split at hq)
    | (rename_i hq; obtain ⟨_, rfl⟩ := Prod.mk.inj hq)

/-- May change: mac, registers of block 5. -/
theorem execFbcfgWrite_goes (value : Word) (z : State) : Goes 4294967552 z (execFbcfgWrite value z) := by
  unfold execFbcfgWrite
  repeat'
    first
    | with_reducible apply Moves.refl
    | with_reducible assumption
    | intro _
    | with_reducible apply goOn_goes
    | with_reducible apply ite_goes
    | ((with_reducible apply Moves.by (State.with_mac_moves _ _)); case hs => exact rfl)
    | rw [State.with_mac_eq]
    | ((with_reducible apply Moves.put); (case hf => (with_reducible first | apply MAC_DQ_RD_block | apply MAC_DQ_WR_block | apply MAC_FBCFG_CFG_REJ_block | apply MAC_FBCFG_DQ_SIZE_block | apply MAC_FBCFG_RX_BLOCKS_block)); case hm => exact rfl)
    | with_reducible apply ite_moves
    | (extract_lets +onlyGivenNames x; apply Moves.cut (m := 4294967552) (z := z) x; (case' h => unfold x); (case' k => (clear_value x; intro _)))
    | (extract_lets +onlyGivenNames x; clear_value x)
    | split
    | (rename_i hq; split at hq)
    | (rename_i hq; obtain ⟨_, rfl⟩ := Prod.mk.inj hq)

end Sys2Proof.Machine
end

