-- ==== Sys2Proof/Laws/TxPath.lean ====
section
/-! SUPPORT. What the operations of Machine/TxPath.lean may change. -/
set_option linter.all false
namespace Sys2Proof.Machine

set_option linter.tactic.unusedName false

/-- May change: registers of block 3. -/
theorem execTxProfileWrite_goes (index : Fin 4) (value : Word) (z : State) : Goes 1073741824 z (execTxProfileWrite index value z) := by
  unfold execTxProfileWrite
  repeat'
    first
    | with_reducible apply Moves.refl
    | with_reducible assumption
    | intro _
    | with_reducible apply goOn_goes
    | with_reducible apply ite_goes
    | ((with_reducible apply Moves.loadFields (txProfFields_block _)); case hm => exact rfl)
    | ((with_reducible apply Moves.flag); (case hf => (with_reducible first | apply TXP_PROF_BT_block | apply TXP_PROF_DW_block | apply TXP_PROF_FCS_T_block | apply TXP_PROF_FEC_block | apply TXP_PROF_FIR_EN_block | apply TXP_PROF_HIDX_block | apply TXP_PROF_ILV_block | apply TXP_PROF_LEGACY_block | apply TXP_PROF_MOD_block | apply TXP_PROF_PREAMBLE_block | apply TXP_PROF_RATE_block | apply TXP_PROF_REP_block | apply TXP_PROF_SFDG_block | apply TXP_STATUS_PROF_ERR_block)); case hm => exact rfl)
    | with_reducible apply ite_moves
    | (extract_lets +onlyGivenNames x; apply Moves.cut (m := 1073741824) (z := z) x; (case' h => unfold x); (case' k => (clear_value x; intro _)))
    | (extract_lets +onlyGivenNames x; clear_value x)
    | split
    | (rename_i hq; split at hq)
    | (rename_i hq; obtain ⟨_, rfl⟩ := Prod.mk.inj hq)

/-- May change: power, radio, evr, core0, core1, registers of block 0 1 11. -/
theorem State.linesOut_moves (z : State) : Moves 275280662624 z (State.linesOut z) := by
  unfold State.linesOut
  repeat'
    first
    | with_reducible apply Moves.refl
    | with_reducible assumption
    | intro _
    | ((with_reducible apply Moves.by (State.enter_moves _ _ _)); case hs => exact rfl)
    | ((with_reducible apply Moves.by (State.with_radio_moves _ _)); case hs => exact rfl)
    | rw [State.with_radio_eq]
    | ((with_reducible apply Moves.flag); (case hf => (with_reducible apply RFC_STATE_TRSW_block)); case hm => exact rfl)
    | with_reducible apply ite_moves
    | (extract_lets +onlyGivenNames x; apply Moves.cut (m := 275280662624) (z := z) x; (case' h => unfold x); (case' k => (clear_value x; intro _)))
    | (extract_lets +onlyGivenNames x; clear_value x)
    | split
    | (rename_i hq; split at hq)
    | (rename_i hq; obtain ⟨_, rfl⟩ := Prod.mk.inj hq)

/-- May change: mem, radio, registers of block 3. -/
theorem State.rampCounts_moves (z : State) (u : TxUnit) : Moves 1073741892 z (State.rampCounts z u) := by
  unfold State.rampCounts
  repeat'
    first
    | with_reducible apply Moves.refl
    | with_reducible assumption
    | intro _
    | ((with_reducible apply Moves.by (State.setDesc_moves _ _ _ _ _)); case hs => exact rfl)
    | ((with_reducible apply Moves.by (State.setCtx_moves _ _ _ _ _)); case hs => exact rfl)
    | ((with_reducible apply Moves.by (State.with_radio_moves _ _)); case hs => exact rfl)
    | rw [State.with_radio_eq]
    | ((with_reducible apply Moves.put); (case hf => (with_reducible first | apply TXP_STATUS_LAST_MASK_block | apply TXP_STATUS_TXCOUNT_block)); case hm => exact rfl)
    | ((with_reducible apply Moves.bumpWrap); (case hf => (with_reducible first | apply TXP_STATUS_LAST_MASK_block | apply TXP_STATUS_TXCOUNT_block)); case hm => exact rfl)
    | with_reducible apply ite_moves
    | (extract_lets +onlyGivenNames x; apply Moves.cut (m := 1073741892) (z := z) x; (case' h => unfold x); (case' k => (clear_value x; intro _)))
    | (extract_lets +onlyGivenNames x; clear_value x)
    | split
    | (rename_i hq; split at hq)
    | (rename_i hq; obtain ⟨_, rfl⟩ := Prod.mk.inj hq)

/-- May change: mem, power, radio, slot, evr, core0, core1, registers of block 0 1 3 11. -/
theorem execTxRampStart_goes (z : State) : Goes 276354404580 z (execTxRampStart z) := by
  unfold execTxRampStart
  repeat'
    first
    | with_reducible apply Moves.refl
    | with_reducible assumption
    | intro _
    | with_reducible apply goOn_goes
    | with_reducible apply ite_goes
    | ((with_reducible apply Moves.by (State.rampCounts_moves _ _)); case hs => exact rfl)
    | ((with_reducible apply Moves.by (State.leakStart_moves _ _)); case hs => exact rfl)
    | ((with_reducible apply Moves.by (State.linesOut_moves _)); case hs => exact rfl)
    | ((with_reducible apply Moves.by (State.charge_moves _ _ _ _)); case hs => exact rfl)
    | ((with_reducible apply Moves.by (State.enter_moves _ _ _)); case hs => exact rfl)
    | ((with_reducible apply Moves.by (State.setTx_moves _ _)); case hs => exact rfl)
    | ((with_reducible apply Moves.flag); (case hf => (with_reducible apply TXP_STATUS_RAMP_ERR_block)); case hm => exact rfl)
    | with_reducible apply ite_moves
    | (extract_lets +onlyGivenNames x; apply Moves.cut (m := 276354404580) (z := z) x; (case' h => unfold x); (case' k => (clear_value x; intro _)))
    | (extract_lets +onlyGivenNames x; clear_value x)
    | split
    | (rename_i hq; split at hq)
    | (rename_i hq; obtain ⟨_, rfl⟩ := Prod.mk.inj hq)

/-- May change: mem, power, radio, slot, evr, core0, core1, lgy, registers of block 0 1 11 15. -/
theorem execTxFirstSymbol_goes (z : State) : Goes 4673327304932 z (execTxFirstSymbol z) := by
  unfold execTxFirstSymbol
  repeat'
    first
    | with_reducible apply Moves.refl
    | with_reducible assumption
    | intro _
    | with_reducible apply goOn_goes
    | with_reducible apply ite_goes
    | ((with_reducible apply Moves.by (State.setDesc_moves _ _ _ _ _)); case hs => exact rfl)
    | ((with_reducible apply Moves.by (State.raise_moves _ _)); case hs => exact rfl)
    | ((with_reducible apply Moves.by (State.enter_moves _ _ _)); case hs => exact rfl)
    | ((with_reducible apply Moves.by (State.lgyTake_moves _ _)); case hs => exact rfl)
    | ((with_reducible apply Moves.by (State.setTx_moves _ _)); case hs => exact rfl)
    | with_reducible apply ite_moves
    | (extract_lets +onlyGivenNames x; apply Moves.cut (m := 4673327304932) (z := z) x; (case' h => unfold x); (case' k => (clear_value x; intro _)))
    | (extract_lets +onlyGivenNames x; clear_value x)
    | split
    | (rename_i hq; split at hq)
    | (rename_i hq; obtain ⟨_, rfl⟩ := Prod.mk.inj hq)

/-- May change: power, radio, slot, evr, core0, core1, registers of block 0 1 11. -/
theorem execTxEnd_goes (z : State) : Goes 275280662752 z (execTxEnd z) := by
  unfold execTxEnd
  repeat'
    first
    | with_reducible apply Moves.refl
    | with_reducible assumption
    | intro _
    | with_reducible apply goOn_goes
    | with_reducible apply ite_goes
    | ((with_reducible apply Moves.by (State.enter_moves _ _ _)); case hs => exact rfl)
    | ((with_reducible apply Moves.by (State.setTx_moves _ _)); case hs => exact rfl)
    | with_reducible apply ite_moves
    | (extract_lets +onlyGivenNames x; apply Moves.cut (m := 275280662752) (z := z) x; (case' h => unfold x); (case' k => (clear_value x; intro _)))
    | (extract_lets +onlyGivenNames x; clear_value x)
    | split
    | (rename_i hq; split at hq)
    | (rename_i hq; obtain ⟨_, rfl⟩ := Prod.mk.inj hq)

/-- May change: mem, power, radio, slot, mac, evr, core0, core1, lgy, registers of block 0 1 2 5 11 15. -/
theorem State.awaitAck_moves (z : State) (u : TxUnit) : Moves 4678159143396 z (State.awaitAck z u) := by
  unfold State.awaitAck
  repeat'
    first
    | with_reducible apply Moves.refl
    | with_reducible assumption
    | intro _
    | ((with_reducible apply Moves.by (State.placeChannel_moves _ _ _)); case hs => exact rfl)
    | ((with_reducible apply State.placeChannel_pair); (case hp => assumption); case hs => exact rfl)
    | ((with_reducible apply Moves.by (State.openLane_moves _ _ _)); case hs => exact rfl)
    | ((with_reducible apply Moves.by (State.noAck_moves _ _)); case hs => exact rfl)
    | ((with_reducible apply Moves.by (State.setTx_moves _ _)); case hs => exact rfl)
    | ((with_reducible apply Moves.by (State.with_slot_moves _ _)); case hs => exact rfl)
    | rw [State.with_slot_eq]
    | ((with_reducible apply Moves.bump); (case hf => (with_reducible apply CHZ_STATUS_UNMAPPED_block)); case hm => exact rfl)
    | with_reducible apply ite_moves
    | with_reducible apply foldl_moves
    | (extract_lets +onlyGivenNames x; apply Moves.cut (m := 4678159143396) (z := z) x; (case' h => unfold x); (case' k => (clear_value x; intro _)))
    | (extract_lets +onlyGivenNames x; clear_value x)
    | split
    | (rename_i hq; split at hq)
    | (rename_i hq; obtain ⟨_, rfl⟩ := Prod.mk.inj hq)

/-- May change: radio, slot, registers of block 2. -/
theorem State.lgyAwaitAck_moves (z : State) (u : TxUnit) : Moves 536871104 z (State.lgyAwaitAck z u) := by
  unfold State.lgyAwaitAck
  repeat'
    first
    | with_reducible apply Moves.refl
    | with_reducible assumption
    | intro _
    | ((with_reducible apply Moves.by (State.openLane_moves _ _ _)); case hs => exact rfl)
    | ((with_reducible apply Moves.by (State.setTx_moves _ _)); case hs => exact rfl)
    | ((with_reducible apply Moves.by (State.with_slot_moves _ _)); case hs => exact rfl)
    | rw [State.with_slot_eq]
    | with_reducible apply ite_moves
    | (extract_lets +onlyGivenNames x; apply Moves.cut (m := 536871104) (z := z) x; (case' h => unfold x); (case' k => (clear_value x; intro _)))
    | (extract_lets +onlyGivenNames x; clear_value x)
    | split
    | (rename_i hq; split at hq)
    | (rename_i hq; obtain ⟨_, rfl⟩ := Prod.mk.inj hq)

/-- May change: mem, power, radio, slot, mac, evr, core0, core1, lgy, registers of block 0 1 2 5 11 15. -/
theorem State.afterAir_moves (z : State) (u : TxUnit) : Moves 4678159143396 z (State.afterAir z u) := by
  unfold State.afterAir
  repeat'
    first
    | with_reducible apply Moves.refl
    | with_reducible assumption
    | intro _
    | ((with_reducible apply Moves.by (State.lgyAwaitAck_moves _ _)); case hs => exact rfl)
    | ((with_reducible apply Moves.by (State.awaitAck_moves _ _)); case hs => exact rfl)
    | ((with_reducible apply Moves.by (State.endTx_moves _ _ _)); case hs => exact rfl)
    | ((with_reducible apply Moves.by (State.removeTx_moves _ _)); case hs => exact rfl)
    | ((with_reducible apply Moves.by (State.noAck_moves _ _)); case hs => exact rfl)
    | with_reducible apply ite_moves
    | (extract_lets +onlyGivenNames x; apply Moves.cut (m := 4678159143396) (z := z) x; (case' h => unfold x); (case' k => (clear_value x; intro _)))
    | (extract_lets +onlyGivenNames x; clear_value x)
    | split
    | (rename_i hq; split at hq)
    | (rename_i hq; obtain ⟨_, rfl⟩ := Prod.mk.inj hq)

/-- May change: mem, power, radio, slot, mac, evr, core0, core1, lgy, free, registers of block 0 1 2 5 11 15. -/
theorem execRampDownEnd_goes (z : State) : Goes 4678175920612 z (execRampDownEnd z) := by
  unfold execRampDownEnd
  repeat'
    first
    | with_reducible apply Moves.refl
    | with_reducible assumption
    | intro _
    | with_reducible apply goOn_goes
    | with_reducible apply ite_goes
    | ((with_reducible apply Moves.by (State.afterAir_moves _ _)); case hs => exact rfl)
    | ((with_reducible apply Moves.by (State.chargeActual_moves _ _)); case hs => exact rfl)
    | ((with_reducible apply Moves.by (State.txReturn_moves _)); case hs => exact rfl)
    | ((with_reducible apply Moves.by (State.endTx_moves _ _ _)); case hs => exact rfl)
    | ((with_reducible apply Moves.by (State.setDuty_moves _ _ _)); case hs => exact rfl)
    | ((with_reducible apply Moves.by (State.raise_moves _ _)); case hs => exact rfl)
    | ((with_reducible apply Moves.by (State.removeTx_moves _ _)); case hs => exact rfl)
    | ((with_reducible apply Moves.by (State.testFrameEnded_moves _ _)); case hs => exact rfl)
    | ((with_reducible apply Moves.by (State.enter_moves _ _ _)); case hs => exact rfl)
    | with_reducible apply ite_moves
    | (extract_lets +onlyGivenNames x; apply Moves.cut (m := 4678175920612) (z := z) x; (case' h => unfold x); (case' k => (clear_value x; intro _)))
    | (extract_lets +onlyGivenNames x; clear_value x)
    | split
    | (rename_i hq; split at hq)
    | (rename_i hq; obtain ⟨_, rfl⟩ := Prod.mk.inj hq)

/-- May change: power, radio, slot, evr, core0, core1, registers of block 0 1 3 11. -/
theorem execMaskPeriodogram_goes (levels : List Int) (z : State) : Goes 276354404576 z (execMaskPeriodogram levels z) := by
  unfold execMaskPeriodogram
  repeat'
    first
    | with_reducible apply Moves.refl
    | with_reducible assumption
    | intro _
    | with_reducible apply goOn_goes
    | with_reducible apply ite_goes
    | ((with_reducible apply Moves.by (State.forceRampDown_moves _ _)); case hs => exact rfl)
    | ((with_reducible apply Moves.by (State.raise_moves _ _)); case hs => exact rfl)
    | ((with_reducible apply Moves.by (State.setTx_moves _ _)); case hs => exact rfl)
    | ((with_reducible apply Moves.put); (case hf => (with_reducible first | apply TXP_STATUS_ABORTS_block | apply TXP_STATUS_LAST_MASK_block)); case hm => exact rfl)
    | ((with_reducible apply Moves.bump); (case hf => (with_reducible first | apply TXP_STATUS_ABORTS_block | apply TXP_STATUS_LAST_MASK_block)); case hm => exact rfl)
    | with_reducible apply ite_moves
    | (extract_lets +onlyGivenNames x; apply Moves.cut (m := 276354404576) (z := z) x; (case' h => unfold x); (case' k => (clear_value x; intro _)))
    | (extract_lets +onlyGivenNames x; clear_value x)
    | split
    | (rename_i hq; split at hq)
    | (rename_i hq; obtain ⟨_, rfl⟩ := Prod.mk.inj hq)

end Sys2Proof.Machine
end

