-- ==== Sys2Proof/Laws/Legacy.lean ====
section
/-! SUPPORT. What the operations of Machine/Legacy.lean may change. -/
set_option linter.all false
namespace Sys2Proof.Machine

set_option linter.tactic.unusedName false

theorem lgyTable_block : (lgyTable.all fun e => e.2.all fun f => f.key / 0x200000 == 0x400F) = true := by decide

theorem allIn_of_all {fs : List RegField} (h : (fs.all fun f => f.key / 0x200000 == 0x400F) = true) : allIn fs 15 := by
  intro f hf
  have := List.all_eq_true.mp h f hf
  exact eq_of_beq this

theorem lgyPlain_block (a : Nat) : allIn (lgyPlain a) 15 := by
  have one (f : RegField) (h : f.inBlock 15) : allIn [f] 15 := fun g hg => by rw [List.mem_singleton.mp hg]; exact h
  have two (f g : RegField) (h : f.inBlock 15) (h2 : g.inBlock 15) : allIn [f, g] 15 := fun x hx => by
    rcases List.mem_cons.mp hx with rfl | hx
    · exact h
    · rw [List.mem_singleton.mp hx]; exact h2
  unfold lgyPlain
  refine iteInduction (motive := fun l => allIn l 15) (fun _ => one _ (LGY_IRQF_FLAGS_block _)) (fun _ => ?_)
  refine iteInduction (motive := fun l => allIn l 15) (fun _ => one _ (LGY_IRQEN_EN_block _)) (fun _ => ?_)
  refine iteInduction (motive := fun l => allIn l 15) (fun _ => two _ _ (LGY_CHCFG_CHOFF_block _) (LGY_CHCFG_EN_block _)) (fun _ => ?_)
  refine iteInduction (motive := fun l => allIn l 15) (fun _ => one _ (LGY_CTXDAT_VALUE_block _)) (fun _ => ?_)
  refine iteInduction (motive := fun l => allIn l 15) (fun _ => one _ (LGY_OWNADDR_VALUE_block _)) (fun _ => ?_)
  refine iteInduction (motive := fun l => allIn l 15) (fun _ => one _ (LGY_NETID_VALUE_block _)) (fun _ => ?_)
  refine iteInduction (motive := fun l => allIn l 15) (fun _ => one _ (LGY_SYNCW_WORD_block _)) (fun _ => ?_)
  generalize hf : lgyTable.find? (fun e => e.1 == a) = o
  cases o with
  | none => exact fun f h => absurd h (by simp)
  | some e => exact allIn_of_all (List.all_eq_true.mp lgyTable_block e (List.mem_of_find?_eq_some hf))

/-- May change: lgy, registers of block 15. -/
theorem State.lgyClearAll_moves (z : State) : Moves 4398046642176 z (State.lgyClearAll z) := by
  unfold State.lgyClearAll
  repeat'
    first
    | with_reducible apply Moves.refl
    | with_reducible assumption
    | intro _
    | ((with_reducible apply Moves.by (State.settleNirq_moves _)); case hs => exact rfl)
    | ((with_reducible apply Moves.by (State.with_lgy_moves _ _)); case hs => exact rfl)
    | rw [State.with_lgy_eq]
    | ((with_reducible apply Moves.put); (case hf => (with_reducible apply LGY_IRQF_FLAGS_block)); case hm => exact rfl)
    | with_reducible apply ite_moves
    | with_reducible apply foldl_moves
    | (extract_lets +onlyGivenNames x; apply Moves.cut (m := 4398046642176) (z := z) x; (case' h => unfold x); (case' k => (clear_value x; intro _)))
    | (extract_lets +onlyGivenNames x; clear_value x)
    | split
    | (rename_i hq; split at hq)
    | (rename_i hq; obtain ⟨_, rfl⟩ := Prod.mk.inj hq)

/-- May change: lgy, registers of block 15. -/
theorem State.lgyReadEffect_moves (z : State) (a : Nat) : Moves 4398046642176 z (State.lgyReadEffect z a) := by
  unfold State.lgyReadEffect
  repeat'
    first
    | with_reducible apply Moves.refl
    | with_reducible assumption
    | intro _
    | ((with_reducible apply Moves.by (State.lgyClearAll_moves _)); case hs => exact rfl)
    | ((with_reducible apply Moves.by (State.with_lgy_moves _ _)); case hs => exact rfl)
    | rw [State.with_lgy_eq]
    | ((with_reducible apply Moves.put); (case hf => (with_reducible first | apply LGY_RXLEV_H_LEVEL_block | apply LGY_SLOTCNT_H_COUNT_block | apply LGY_TXLEV_H_LEVEL_block)); case hm => exact rfl)
    | with_reducible apply ite_moves
    | (extract_lets +onlyGivenNames x; apply Moves.cut (m := 4398046642176) (z := z) x; (case' h => unfold x); (case' k => (clear_value x; intro _)))
    | (extract_lets +onlyGivenNames x; clear_value x)
    | split
    | (rename_i hq; split at hq)
    | (rename_i hq; obtain ⟨_, rfl⟩ := Prod.mk.inj hq)

/-- May change: lgy, registers of block 15. -/
theorem State.lgyRead_moves (z : State) (a : Nat) : Moves 4398046642176 z (State.lgyRead z a).2 := by
  unfold State.lgyRead
  repeat'
    first
    | with_reducible apply Moves.refl
    | with_reducible assumption
    | intro _
    | ((with_reducible apply Moves.by (State.lgyReadEffect_moves _ _)); case hs => exact rfl)
    | with_reducible apply ite_moves
    | with_reducible apply ite_snd_moves
    | (extract_lets +onlyGivenNames x; apply Moves.cut (m := 4398046642176) (z := z) x; (case' h => unfold x); (case' k => (clear_value x; intro _)))
    | (extract_lets +onlyGivenNames x; clear_value x)
    | split
    | (rename_i hq; split at hq)
    | (rename_i hq; obtain ⟨_, rfl⟩ := Prod.mk.inj hq)

theorem State.lgyRead_pair {z : State} {a : Nat} {b1 : Nat} {u0 : State} {m0 : Nat} {r0 : State} (hp : State.lgyRead z a = (b1, u0)) (hs : sub 4398046642176 m0 = true) (h : Moves m0 r0 z) : Moves m0 r0 u0 := by
  have g := State.lgyRead_moves z a
  rw [hp] at g
  exact h.step g hs

/-- May change: lgy, host, registers of block 15. -/
theorem State.lgyReadOut_moves (z : State) (a : Nat) : Moves 4398047166464 z (State.lgyReadOut z a) := by
  unfold State.lgyReadOut
  repeat'
    first
    | with_reducible apply Moves.refl
    | with_reducible assumption
    | intro _
    | ((with_reducible apply Moves.by (State.lgyRead_moves _ _)); case hs => exact rfl)
    | ((with_reducible apply State.lgyRead_pair); (case hp => assumption); case hs => exact rfl)
    | ((with_reducible apply Moves.by (State.with_host_moves _ _)); case hs => exact rfl)
    | rw [State.with_host_eq]
    | with_reducible apply ite_moves
    | (extract_lets +onlyGivenNames x; apply Moves.cut (m := 4398047166464) (z := z) x; (case' h => unfold x); (case' k => (clear_value x; intro _)))
    | (extract_lets +onlyGivenNames x; clear_value x)
    | split
    | (rename_i hq; split at hq)
    | (rename_i hq; obtain ⟨_, rfl⟩ := Prod.mk.inj hq)

/-- May change: lgy, host, registers of block 15. -/
theorem execLgyStatusRead_goes (z : State) : Goes 4398047166464 z (execLgyStatusRead z) := by
  unfold execLgyStatusRead
  repeat'
    first
    | with_reducible apply Moves.refl
    | with_reducible assumption
    | intro _
    | with_reducible apply goOn_goes
    | with_reducible apply ite_goes
    | ((with_reducible apply Moves.by (State.lgyReadOut_moves _ _)); case hs => exact rfl)
    | (extract_lets +onlyGivenNames x; apply Moves.cut (m := 4398047166464) (z := z) x; (case' h => unfold x); (case' k => (clear_value x; intro _)))
    | (extract_lets +onlyGivenNames x; clear_value x)
    | split
    | (rename_i hq; split at hq)
    | (rename_i hq; obtain ⟨_, rfl⟩ := Prod.mk.inj hq)

/-- May change: lgy, host, registers of block 15. -/
theorem execRxfifoRead_goes (z : State) : Goes 4398047166464 z (execRxfifoRead z) := by
  unfold execRxfifoRead
  repeat'
    first
    | with_reducible apply Moves.refl
    | with_reducible assumption
    | intro _
    | with_reducible apply goOn_goes
    | with_reducible apply ite_goes
    | ((with_reducible apply Moves.by (State.lgyReadOut_moves _ _)); case hs => exact rfl)
    | (extract_lets +onlyGivenNames x; apply Moves.cut (m := 4398047166464) (z := z) x; (case' h => unfold x); (case' k => (clear_value x; intro _)))
    | (extract_lets +onlyGivenNames x; clear_value x)
    | split
    | (rename_i hq; split at hq)
    | (rename_i hq; obtain ⟨_, rfl⟩ := Prod.mk.inj hq)

/-- May change: lgy, host, registers of block 15. -/
theorem execRxlevLRead_goes (z : State) : Goes 4398047166464 z (execRxlevLRead z) := by
  unfold execRxlevLRead
  repeat'
    first
    | with_reducible apply Moves.refl
    | with_reducible assumption
    | intro _
    | with_reducible apply goOn_goes
    | with_reducible apply ite_goes
    | ((with_reducible apply Moves.by (State.lgyReadOut_moves _ _)); case hs => exact rfl)
    | (extract_lets +onlyGivenNames x; apply Moves.cut (m := 4398047166464) (z := z) x; (case' h => unfold x); (case' k => (clear_value x; intro _)))
    | (extract_lets +onlyGivenNames x; clear_value x)
    | split
    | (rename_i hq; split at hq)
    | (rename_i hq; obtain ⟨_, rfl⟩ := Prod.mk.inj hq)

/-- May change: lgy, host, registers of block 15. -/
theorem execTxlevLRead_goes (z : State) : Goes 4398047166464 z (execTxlevLRead z) := by
  unfold execTxlevLRead
  repeat'
    first
    | with_reducible apply Moves.refl
    | with_reducible assumption
    | intro _
    | with_reducible apply goOn_goes
    | with_reducible apply ite_goes
    | ((with_reducible apply Moves.by (State.lgyReadOut_moves _ _)); case hs => exact rfl)
    | (extract_lets +onlyGivenNames x; apply Moves.cut (m := 4398047166464) (z := z) x; (case' h => unfold x); (case' k => (clear_value x; intro _)))
    | (extract_lets +onlyGivenNames x; clear_value x)
    | split
    | (rename_i hq; split at hq)
    | (rename_i hq; obtain ⟨_, rfl⟩ := Prod.mk.inj hq)

/-- May change: lgy, host, registers of block 15. -/
theorem execSlotcntLRead_goes (z : State) : Goes 4398047166464 z (execSlotcntLRead z) := by
  unfold execSlotcntLRead
  repeat'
    first
    | with_reducible apply Moves.refl
    | with_reducible assumption
    | intro _
    | with_reducible apply goOn_goes
    | with_reducible apply ite_goes
    | ((with_reducible apply Moves.by (State.lgyReadOut_moves _ _)); case hs => exact rfl)
    | (extract_lets +onlyGivenNames x; apply Moves.cut (m := 4398047166464) (z := z) x; (case' h => unfold x); (case' k => (clear_value x; intro _)))
    | (extract_lets +onlyGivenNames x; clear_value x)
    | split
    | (rename_i hq; split at hq)
    | (rename_i hq; obtain ⟨_, rfl⟩ := Prod.mk.inj hq)

/-- May change: power, radio, slot, evr, core0, core1, registers of block 0 1 11. -/
theorem State.lgyUnlaunch_moves (z : State) (u : TxUnit) : Moves 275280662752 z (State.lgyUnlaunch z u) := by
  unfold State.lgyUnlaunch
  repeat'
    first
    | with_reducible apply Moves.refl
    | with_reducible assumption
    | intro _
    | ((with_reducible apply Moves.by (State.txReturn_moves _)); case hs => exact rfl)
    | ((with_reducible apply Moves.by (State.removeTx_moves _ _)); case hs => exact rfl)
    | with_reducible apply ite_moves
    | (extract_lets +onlyGivenNames x; apply Moves.cut (m := 275280662752) (z := z) x; (case' h => unfold x); (case' k => (clear_value x; intro _)))
    | (extract_lets +onlyGivenNames x; clear_value x)
    | split
    | (rename_i hq; split at hq)
    | (rename_i hq; obtain ⟨_, rfl⟩ := Prod.mk.inj hq)

/-- May change: power, radio, slot, evr, core0, core1, lgy, registers of block 0 1 11. -/
theorem State.lgyRecall_moves (z : State) : Moves 275280793824 z (State.lgyRecall z) := by
  unfold State.lgyRecall
  repeat'
    first
    | with_reducible apply Moves.refl
    | with_reducible assumption
    | intro _
    | ((with_reducible apply Moves.by (State.lgyBack_moves _ _)); case hs => exact rfl)
    | ((with_reducible apply Moves.by (State.lgyUnlaunch_moves _ _)); case hs => exact rfl)
    | with_reducible apply ite_moves
    | (extract_lets +onlyGivenNames x; apply Moves.cut (m := 275280793824) (z := z) x; (case' h => unfold x); (case' k => (clear_value x; intro _)))
    | (extract_lets +onlyGivenNames x; clear_value x)
    | split
    | (rename_i hq; split at hq)
    | (rename_i hq; obtain ⟨_, rfl⟩ := Prod.mk.inj hq)

/-- May change: lgy. -/
theorem State.lgyArm_moves (z : State) : Moves 131072 z (State.lgyArm z) := by
  unfold State.lgyArm
  repeat'
    first
    | with_reducible apply Moves.refl
    | with_reducible assumption
    | intro _
    | ((with_reducible apply Moves.by (State.with_lgy_moves _ _)); case hs => exact rfl)
    | rw [State.with_lgy_eq]
    | with_reducible apply ite_moves
    | (extract_lets +onlyGivenNames x; apply Moves.cut (m := 131072) (z := z) x; (case' h => unfold x); (case' k => (clear_value x; intro _)))
    | (extract_lets +onlyGivenNames x; clear_value x)
    | split
    | (rename_i hq; split at hq)
    | (rename_i hq; obtain ⟨_, rfl⟩ := Prod.mk.inj hq)

/-- May change: power, radio, slot, evr, core0, core1, lgy, registers of block 0 1 11. -/
theorem State.lgyAbort_moves (z : State) : Moves 275280793824 z (State.lgyAbort z) := by
  unfold State.lgyAbort
  repeat'
    first
    | with_reducible apply Moves.refl
    | with_reducible assumption
    | intro _
    | ((with_reducible apply Moves.by (State.lgyDrop_moves _)); case hs => exact rfl)
    | ((with_reducible apply Moves.by (State.lgyRecall_moves _)); case hs => exact rfl)
    | ((with_reducible apply Moves.by (State.with_lgy_moves _ _)); case hs => exact rfl)
    | rw [State.with_lgy_eq]
    | with_reducible apply ite_moves
    | (extract_lets +onlyGivenNames x; apply Moves.cut (m := 275280793824) (z := z) x; (case' h => unfold x); (case' k => (clear_value x; intro _)))
    | (extract_lets +onlyGivenNames x; clear_value x)
    | split
    | (rename_i hq; split at hq)
    | (rename_i hq; obtain ⟨_, rfl⟩ := Prod.mk.inj hq)

/-- May change: mem, registers of block 15. -/
theorem State.lgyCtxWrite_moves (z : State) : Moves 4398046511108 z (State.lgyCtxWrite z) := by
  unfold State.lgyCtxWrite
  repeat'
    first
    | with_reducible apply Moves.refl
    | with_reducible assumption
    | intro _
    | ((with_reducible apply Moves.by (State.lgyFlag_moves _ _)); case hs => exact rfl)
    | ((with_reducible apply Moves.by (State.zeroBytes_moves _ _ _)); case hs => exact rfl)
    | ((with_reducible apply Moves.by (State.setCtx_moves _ _ _ _ _)); case hs => exact rfl)
    | ((with_reducible apply Moves.by (State.setBytes_moves _ _ _)); case hs => exact rfl)
    | ((with_reducible apply Moves.put); (case hf => (with_reducible apply LGY_CTXDAT_VALUE_block)); case hm => exact rfl)
    | with_reducible apply ite_moves
    | with_reducible apply foldl_moves
    | (extract_lets +onlyGivenNames x; apply Moves.cut (m := 4398046511108) (z := z) x; (case' h => unfold x); (case' k => (clear_value x; intro _)))
    | (extract_lets +onlyGivenNames x; clear_value x)
    | split
    | (rename_i hq; split at hq)
    | (rename_i hq; obtain ⟨_, rfl⟩ := Prod.mk.inj hq)

/-- May change: registers of block 15. -/
theorem State.lgyCtxRead_moves (z : State) : Moves 4398046511104 z (State.lgyCtxRead z) := by
  unfold State.lgyCtxRead
  repeat'
    first
    | with_reducible apply Moves.refl
    | with_reducible assumption
    | intro _
    | ((with_reducible apply Moves.put); (case hf => (with_reducible apply LGY_CTXDAT_VALUE_block)); case hm => exact rfl)
    | with_reducible apply ite_moves
    | with_reducible apply foldl_moves
    | (extract_lets +onlyGivenNames x; apply Moves.cut (m := 4398046511104) (z := z) x; (case' h => unfold x); (case' k => (clear_value x; intro _)))
    | (extract_lets +onlyGivenNames x; clear_value x)
    | split
    | (rename_i hq; split at hq)
    | (rename_i hq; obtain ⟨_, rfl⟩ := Prod.mk.inj hq)

/-- May change: registers of block 15. -/
theorem State.lgyNextHop_moves (z : State) : Moves 4398046511104 z (State.lgyNextHop z) := by
  unfold State.lgyNextHop
  repeat'
    first
    | with_reducible apply Moves.refl
    | with_reducible assumption
    | intro _
    | ((with_reducible apply Moves.put); (case hf => (with_reducible apply LGY_HOPIDX_IDX_block)); case hm => exact rfl)
    | with_reducible apply ite_moves
    | (extract_lets +onlyGivenNames x; apply Moves.cut (m := 4398046511104) (z := z) x; (case' h => unfold x); (case' k => (clear_value x; intro _)))
    | (extract_lets +onlyGivenNames x; clear_value x)
    | split
    | (rename_i hq; split at hq)
    | (rename_i hq; obtain ⟨_, rfl⟩ := Prod.mk.inj hq)

/-- May change: lgy, registers of block 15. -/
theorem State.lgyHopWrite_moves (z : State) : Moves 4398046642176 z (State.lgyHopWrite z) := by
  unfold State.lgyHopWrite
  repeat'
    first
    | with_reducible apply Moves.refl
    | with_reducible assumption
    | intro _
    | ((with_reducible apply Moves.by (State.lgyNextHop_moves _)); case hs => exact rfl)
    | ((with_reducible apply Moves.by (State.with_lgy_moves _ _)); case hs => exact rfl)
    | rw [State.with_lgy_eq]
    | with_reducible apply ite_moves
    | (extract_lets +onlyGivenNames x; apply Moves.cut (m := 4398046642176) (z := z) x; (case' h => unfold x); (case' k => (clear_value x; intro _)))
    | (extract_lets +onlyGivenNames x; clear_value x)
    | split
    | (rename_i hq; split at hq)
    | (rename_i hq; obtain ⟨_, rfl⟩ := Prod.mk.inj hq)

/-- May change: registers of block 15. -/
theorem State.lgyHopRead_moves (z : State) : Moves 4398046511104 z (State.lgyHopRead z) := by
  unfold State.lgyHopRead
  repeat'
    first
    | with_reducible apply Moves.refl
    | with_reducible assumption
    | intro _
    | ((with_reducible apply Moves.by (State.lgyNextHop_moves _)); case hs => exact rfl)
    | ((with_reducible apply Moves.put); (case hf => (with_reducible apply LGY_HOPDAT_N_block)); case hm => exact rfl)
    | with_reducible apply ite_moves
    | (extract_lets +onlyGivenNames x; apply Moves.cut (m := 4398046511104) (z := z) x; (case' h => unfold x); (case' k => (clear_value x; intro _)))
    | (extract_lets +onlyGivenNames x; clear_value x)
    | split
    | (rename_i hq; split at hq)
    | (rename_i hq; obtain ⟨_, rfl⟩ := Prod.mk.inj hq)

/-- May change: radio, slot, registers of block 1 2. -/
theorem State.lgyCal_moves (z : State) : Moves 805306560 z (State.lgyCal z) := by
  unfold State.lgyCal
  repeat'
    first
    | with_reducible apply Moves.refl
    | with_reducible assumption
    | intro _
    | ((with_reducible apply Moves.by (State.nextCal_moves _)); case hs => exact rfl)
    | ((with_reducible apply Moves.by (State.with_radio_moves _ _)); case hs => exact rfl)
    | rw [State.with_radio_eq]
    | with_reducible apply ite_moves
    | (extract_lets +onlyGivenNames x; apply Moves.cut (m := 805306560) (z := z) x; (case' h => unfold x); (case' k => (clear_value x; intro _)))
    | (extract_lets +onlyGivenNames x; clear_value x)
    | split
    | (rename_i hq; split at hq)
    | (rename_i hq; obtain ⟨_, rfl⟩ := Prod.mk.inj hq)

/-- May change: power, radio, slot, evr, core0, core1, registers of block 0 1 11. -/
theorem State.lgyOrphans_moves (z : State) : Moves 275280662752 z (State.lgyOrphans z) := by
  unfold State.lgyOrphans
  repeat'
    first
    | with_reducible apply Moves.refl
    | with_reducible assumption
    | intro _
    | ((with_reducible apply Moves.by (State.lgyUnlaunch_moves _ _)); case hs => exact rfl)
    | ((with_reducible apply Moves.by (State.removeTx_moves _ _)); case hs => exact rfl)
    | ((with_reducible apply Moves.by (State.setTx_moves _ _)); case hs => exact rfl)
    | with_reducible apply ite_moves
    | with_reducible apply foldl_moves
    | (extract_lets +onlyGivenNames x; apply Moves.cut (m := 275280662752) (z := z) x; (case' h => unfold x); (case' k => (clear_value x; intro _)))
    | (extract_lets +onlyGivenNames x; clear_value x)
    | split
    | (rename_i hq; split at hq)
    | (rename_i hq; obtain ⟨_, rfl⟩ := Prod.mk.inj hq)

/-- May change: radio, slot, registers of block 2. -/
theorem State.lgyCloseWindows_moves (z : State) : Moves 536871104 z (State.lgyCloseWindows z) := by
  unfold State.lgyCloseWindows
  repeat'
    first
    | with_reducible apply Moves.refl
    | with_reducible assumption
    | intro _
    | ((with_reducible apply Moves.by (State.closeLane_moves _ _)); case hs => exact rfl)
    | ((with_reducible apply Moves.by (State.with_slot_moves _ _)); case hs => exact rfl)
    | rw [State.with_slot_eq]
    | with_reducible apply ite_moves
    | with_reducible apply foldl_moves
    | (extract_lets +onlyGivenNames x; apply Moves.cut (m := 536871104) (z := z) x; (case' h => unfold x); (case' k => (clear_value x; intro _)))
    | (extract_lets +onlyGivenNames x; clear_value x)
    | split
    | (rename_i hq; split at hq)
    | (rename_i hq; obtain ⟨_, rfl⟩ := Prod.mk.inj hq)

/-- May change: mem, power, radio, slot, evr, core0, core1, lgy, registers of block 0 1 2 11 15. -/
theorem State.lgySoftReset_moves (z : State) : Moves 4673864175844 z (State.lgySoftReset z) := by
  unfold State.lgySoftReset
  repeat'
    first
    | with_reducible apply Moves.refl
    | with_reducible assumption
    | intro _
    | ((with_reducible apply Moves.dropBlock (b := 15)); (case h0 => decide); (case h1 => decide); case hm => exact rfl)
    | ((with_reducible apply Moves.by (State.settleNirq_moves _)); case hs => exact rfl)
    | ((with_reducible apply Moves.by (State.zeroBytes_moves _ _ _)); case hs => exact rfl)
    | ((with_reducible apply Moves.by (State.lgyOrphans_moves _)); case hs => exact rfl)
    | ((with_reducible apply Moves.by (State.lgyCloseWindows_moves _)); case hs => exact rfl)
    | ((with_reducible apply Moves.by (State.with_lgy_moves _ _)); case hs => exact rfl)
    | rw [State.with_lgy_eq]
    | ((with_reducible apply Moves.put); (case hf => (with_reducible apply CHZ_LEGSYNC_WORD_block)); case hm => exact rfl)
    | with_reducible apply ite_moves
    | (extract_lets +onlyGivenNames x; apply Moves.cut (m := 4673864175844) (z := z) x; (case' h => unfold x); (case' k => (clear_value x; intro _)))
    | (extract_lets +onlyGivenNames x; clear_value x)
    | split
    | (rename_i hq; split at hq)
    | (rename_i hq; obtain ⟨_, rfl⟩ := Prod.mk.inj hq)

/-- May change: mem, power, radio, slot, evr, core0, core1, lgy, registers of block 0 1 2 11 15. -/
theorem State.lgyAction_moves (z : State) (code : Nat) : Moves 4673864175844 z (State.lgyAction z code) := by
  unfold State.lgyAction
  repeat'
    first
    | with_reducible apply Moves.refl
    | with_reducible assumption
    | intro _
    | ((with_reducible apply Moves.by (State.lgySoftReset_moves _)); case hs => exact rfl)
    | ((with_reducible apply Moves.by (State.lgyArm_moves _)); case hs => exact rfl)
    | ((with_reducible apply Moves.by (State.lgyCtxWrite_moves _)); case hs => exact rfl)
    | ((with_reducible apply Moves.by (State.lgyAbort_moves _)); case hs => exact rfl)
    | ((with_reducible apply Moves.by (State.lgyCal_moves _)); case hs => exact rfl)
    | ((with_reducible apply Moves.by (State.lgyRecall_moves _)); case hs => exact rfl)
    | ((with_reducible apply Moves.by (State.lgyCtxRead_moves _)); case hs => exact rfl)
    | ((with_reducible apply Moves.by (State.lgyHopRead_moves _)); case hs => exact rfl)
    | ((with_reducible apply Moves.by (State.setCtx_moves _ _ _ _ _)); case hs => exact rfl)
    | ((with_reducible apply Moves.by (State.lgyHopWrite_moves _)); case hs => exact rfl)
    | ((with_reducible apply Moves.by (State.with_lgy_moves _ _)); case hs => exact rfl)
    | rw [State.with_lgy_eq]
    | with_reducible apply ite_moves
    | (extract_lets +onlyGivenNames x; apply Moves.cut (m := 4673864175844) (z := z) x; (case' h => unfold x); (case' k => (clear_value x; intro _)))
    | (extract_lets +onlyGivenNames x; clear_value x)
    | split
    | (rename_i hq; split at hq)
    | (rename_i hq; obtain ⟨_, rfl⟩ := Prod.mk.inj hq)

/-- May change: mem, power, radio, slot, evr, core0, core1, lgy, registers of block 0 1 2 11 15. -/
theorem State.lgyCommand_moves (z : State) (code : Nat) : Moves 4673864175844 z (State.lgyCommand z code) := by
  unfold State.lgyCommand
  repeat'
    first
    | with_reducible apply Moves.refl
    | with_reducible assumption
    | intro _
    | ((with_reducible apply Moves.by (State.lgyFlag_moves _ _)); case hs => exact rfl)
    | ((with_reducible apply Moves.by (State.lgyAction_moves _ _)); case hs => exact rfl)
    | ((with_reducible apply Moves.by (State.with_lgy_moves _ _)); case hs => exact rfl)
    | rw [State.with_lgy_eq]
    | with_reducible apply ite_moves
    | (extract_lets +onlyGivenNames x; apply Moves.cut (m := 4673864175844) (z := z) x; (case' h => unfold x); (case' k => (clear_value x; intro _)))
    | (extract_lets +onlyGivenNames x; clear_value x)
    | split
    | (rename_i hq; split at hq)
    | (rename_i hq; obtain ⟨_, rfl⟩ := Prod.mk.inj hq)

/-- May change: mem, power, radio, slot, evr, core0, core1, lgy, registers of block 0 1 2 11 15. -/
theorem State.lgyRelease_moves (z : State) : Moves 4673864175844 z (State.lgyRelease z) := by
  unfold State.lgyRelease
  repeat'
    first
    | with_reducible apply Moves.refl
    | with_reducible assumption
    | intro _
    | ((with_reducible apply Moves.by (State.lgyAction_moves _ _)); case hs => exact rfl)
    | ((with_reducible apply Moves.by (State.with_lgy_moves _ _)); case hs => exact rfl)
    | rw [State.with_lgy_eq]
    | with_reducible apply ite_moves
    | (extract_lets +onlyGivenNames x; apply Moves.cut (m := 4673864175844) (z := z) x; (case' h => unfold x); (case' k => (clear_value x; intro _)))
    | (extract_lets +onlyGivenNames x; clear_value x)
    | split
    | (rename_i hq; split at hq)
    | (rename_i hq; obtain ⟨_, rfl⟩ := Prod.mk.inj hq)

/-- May change: mem, power, radio, slot, evr, core0, core1, lgy, registers of block 0 1 2 11 15. -/
theorem execFlushRx_goes (z : State) : Goes 4673864175844 z (execFlushRx z) := by
  unfold execFlushRx
  repeat'
    first
    | with_reducible apply Moves.refl
    | with_reducible assumption
    | intro _
    | with_reducible apply goOn_goes
    | with_reducible apply ite_goes
    | ((with_reducible apply Moves.by (State.lgyCommand_moves _ _)); case hs => exact rfl)
    | (extract_lets +onlyGivenNames x; apply Moves.cut (m := 4673864175844) (z := z) x; (case' h => unfold x); (case' k => (clear_value x; intro _)))
    | (extract_lets +onlyGivenNames x; clear_value x)
    | split
    | (rename_i hq; split at hq)
    | (rename_i hq; obtain ⟨_, rfl⟩ := Prod.mk.inj hq)

/-- May change: mem, power, radio, slot, evr, core0, core1, lgy, registers of block 0 1 2 11 15. -/
theorem execFlushTx_goes (z : State) : Goes 4673864175844 z (execFlushTx z) := by
  unfold execFlushTx
  repeat'
    first
    | with_reducible apply Moves.refl
    | with_reducible assumption
    | intro _
    | with_reducible apply goOn_goes
    | with_reducible apply ite_goes
    | ((with_reducible apply Moves.by (State.lgyCommand_moves _ _)); case hs => exact rfl)
    | (extract_lets +onlyGivenNames x; apply Moves.cut (m := 4673864175844) (z := z) x; (case' h => unfold x); (case' k => (clear_value x; intro _)))
    | (extract_lets +onlyGivenNames x; clear_value x)
    | split
    | (rename_i hq; split at hq)
    | (rename_i hq; obtain ⟨_, rfl⟩ := Prod.mk.inj hq)

/-- May change: mem, power, radio, slot, evr, core0, core1, lgy, registers of block 0 1 2 11 15. -/
theorem execTxStart_goes (z : State) : Goes 4673864175844 z (execTxStart z) := by
  unfold execTxStart
  repeat'
    first
    | with_reducible apply Moves.refl
    | with_reducible assumption
    | intro _
    | with_reducible apply goOn_goes
    | with_reducible apply ite_goes
    | ((with_reducible apply Moves.by (State.lgyCommand_moves _ _)); case hs => exact rfl)
    | (extract_lets +onlyGivenNames x; apply Moves.cut (m := 4673864175844) (z := z) x; (case' h => unfold x); (case' k => (clear_value x; intro _)))
    | (extract_lets +onlyGivenNames x; clear_value x)
    | split
    | (rename_i hq; split at hq)
    | (rename_i hq; obtain ⟨_, rfl⟩ := Prod.mk.inj hq)

/-- May change: mem, power, radio, slot, evr, core0, core1, lgy, registers of block 0 1 2 11 15. -/
theorem execTxAbort_goes (z : State) : Goes 4673864175844 z (execTxAbort z) := by
  unfold execTxAbort
  repeat'
    first
    | with_reducible apply Moves.refl
    | with_reducible assumption
    | intro _
    | with_reducible apply goOn_goes
    | with_reducible apply ite_goes
    | ((with_reducible apply Moves.by (State.lgyCommand_moves _ _)); case hs => exact rfl)
    | (extract_lets +onlyGivenNames x; apply Moves.cut (m := 4673864175844) (z := z) x; (case' h => unfold x); (case' k => (clear_value x; intro _)))
    | (extract_lets +onlyGivenNames x; clear_value x)
    | split
    | (rename_i hq; split at hq)
    | (rename_i hq; obtain ⟨_, rfl⟩ := Prod.mk.inj hq)

/-- May change: mem, power, radio, slot, evr, core0, core1, lgy, registers of block 0 1 2 11 15. -/
theorem execCtxWrite_goes (z : State) : Goes 4673864175844 z (execCtxWrite z) := by
  unfold execCtxWrite
  repeat'
    first
    | with_reducible apply Moves.refl
    | with_reducible assumption
    | intro _
    | with_reducible apply goOn_goes
    | with_reducible apply ite_goes
    | ((with_reducible apply Moves.by (State.lgyCommand_moves _ _)); case hs => exact rfl)
    | (extract_lets +onlyGivenNames x; apply Moves.cut (m := 4673864175844) (z := z) x; (case' h => unfold x); (case' k => (clear_value x; intro _)))
    | (extract_lets +onlyGivenNames x; clear_value x)
    | split
    | (rename_i hq; split at hq)
    | (rename_i hq; obtain ⟨_, rfl⟩ := Prod.mk.inj hq)

/-- May change: mem, power, radio, slot, evr, core0, core1, lgy, registers of block 0 1 2 11 15. -/
theorem execCtxRead_goes (z : State) : Goes 4673864175844 z (execCtxRead z) := by
  unfold execCtxRead
  repeat'
    first
    | with_reducible apply Moves.refl
    | with_reducible assumption
    | intro _
    | with_reducible apply goOn_goes
    | with_reducible apply ite_goes
    | ((with_reducible apply Moves.by (State.lgyCommand_moves _ _)); case hs => exact rfl)
    | (extract_lets +onlyGivenNames x; apply Moves.cut (m := 4673864175844) (z := z) x; (case' h => unfold x); (case' k => (clear_value x; intro _)))
    | (extract_lets +onlyGivenNames x; clear_value x)
    | split
    | (rename_i hq; split at hq)
    | (rename_i hq; obtain ⟨_, rfl⟩ := Prod.mk.inj hq)

/-- May change: mem, power, radio, slot, evr, core0, core1, lgy, registers of block 0 1 2 11 15. -/
theorem execCtxDelete_goes (z : State) : Goes 4673864175844 z (execCtxDelete z) := by
  unfold execCtxDelete
  repeat'
    first
    | with_reducible apply Moves.refl
    | with_reducible assumption
    | intro _
    | with_reducible apply goOn_goes
    | with_reducible apply ite_goes
    | ((with_reducible apply Moves.by (State.lgyCommand_moves _ _)); case hs => exact rfl)
    | (extract_lets +onlyGivenNames x; apply Moves.cut (m := 4673864175844) (z := z) x; (case' h => unfold x); (case' k => (clear_value x; intro _)))
    | (extract_lets +onlyGivenNames x; clear_value x)
    | split
    | (rename_i hq; split at hq)
    | (rename_i hq; obtain ⟨_, rfl⟩ := Prod.mk.inj hq)

/-- May change: mem, power, radio, slot, evr, core0, core1, lgy, registers of block 0 1 2 11 15. -/
theorem execHopWrite_goes (z : State) : Goes 4673864175844 z (execHopWrite z) := by
  unfold execHopWrite
  repeat'
    first
    | with_reducible apply Moves.refl
    | with_reducible assumption
    | intro _
    | with_reducible apply goOn_goes
    | with_reducible apply ite_goes
    | ((with_reducible apply Moves.by (State.lgyCommand_moves _ _)); case hs => exact rfl)
    | (extract_lets +onlyGivenNames x; apply Moves.cut (m := 4673864175844) (z := z) x; (case' h => unfold x); (case' k => (clear_value x; intro _)))
    | (extract_lets +onlyGivenNames x; clear_value x)
    | split
    | (rename_i hq; split at hq)
    | (rename_i hq; obtain ⟨_, rfl⟩ := Prod.mk.inj hq)

/-- May change: mem, power, radio, slot, evr, core0, core1, lgy, registers of block 0 1 2 11 15. -/
theorem execHopRead_goes (z : State) : Goes 4673864175844 z (execHopRead z) := by
  unfold execHopRead
  repeat'
    first
    | with_reducible apply Moves.refl
    | with_reducible assumption
    | intro _
    | with_reducible apply goOn_goes
    | with_reducible apply ite_goes
    | ((with_reducible apply Moves.by (State.lgyCommand_moves _ _)); case hs => exact rfl)
    | (extract_lets +onlyGivenNames x; apply Moves.cut (m := 4673864175844) (z := z) x; (case' h => unfold x); (case' k => (clear_value x; intro _)))
    | (extract_lets +onlyGivenNames x; clear_value x)
    | split
    | (rename_i hq; split at hq)
    | (rename_i hq; obtain ⟨_, rfl⟩ := Prod.mk.inj hq)

/-- May change: mem, power, radio, slot, evr, core0, core1, lgy, registers of block 0 1 2 11 15. -/
theorem execLgyCal_goes (z : State) : Goes 4673864175844 z (execLgyCal z) := by
  unfold execLgyCal
  repeat'
    first
    | with_reducible apply Moves.refl
    | with_reducible assumption
    | intro _
    | with_reducible apply goOn_goes
    | with_reducible apply ite_goes
    | ((with_reducible apply Moves.by (State.lgyCommand_moves _ _)); case hs => exact rfl)
    | (extract_lets +onlyGivenNames x; apply Moves.cut (m := 4673864175844) (z := z) x; (case' h => unfold x); (case' k => (clear_value x; intro _)))
    | (extract_lets +onlyGivenNames x; clear_value x)
    | split
    | (rename_i hq; split at hq)
    | (rename_i hq; obtain ⟨_, rfl⟩ := Prod.mk.inj hq)

/-- May change: mem, power, radio, slot, evr, core0, core1, lgy, registers of block 0 1 2 11 15. -/
theorem execSoftReset_goes (z : State) : Goes 4673864175844 z (execSoftReset z) := by
  unfold execSoftReset
  repeat'
    first
    | with_reducible apply Moves.refl
    | with_reducible assumption
    | intro _
    | with_reducible apply goOn_goes
    | with_reducible apply ite_goes
    | ((with_reducible apply Moves.by (State.lgyCommand_moves _ _)); case hs => exact rfl)
    | (extract_lets +onlyGivenNames x; apply Moves.cut (m := 4673864175844) (z := z) x; (case' h => unfold x); (case' k => (clear_value x; intro _)))
    | (extract_lets +onlyGivenNames x; clear_value x)
    | split
    | (rename_i hq; split at hq)
    | (rename_i hq; obtain ⟨_, rfl⟩ := Prod.mk.inj hq)

/-- May change: lgy, registers of block 15. -/
theorem execCmddone_goes (z : State) : Goes 4398046642176 z (execCmddone z) := by
  unfold execCmddone
  repeat'
    first
    | with_reducible apply Moves.refl
    | with_reducible assumption
    | intro _
    | with_reducible apply goOn_goes
    | with_reducible apply ite_goes
    | ((with_reducible apply Moves.by (State.lgyFlag_moves _ _)); case hs => exact rfl)
    | ((with_reducible apply Moves.by (State.with_lgy_moves _ _)); case hs => exact rfl)
    | rw [State.with_lgy_eq]
    | with_reducible apply ite_moves
    | (extract_lets +onlyGivenNames x; apply Moves.cut (m := 4398046642176) (z := z) x; (case' h => unfold x); (case' k => (clear_value x; intro _)))
    | (extract_lets +onlyGivenNames x; clear_value x)
    | split
    | (rename_i hq; split at hq)
    | (rename_i hq; obtain ⟨_, rfl⟩ := Prod.mk.inj hq)

/-- May change: lgy, registers of block 15. -/
theorem State.lgyClear_moves (z : State) (n : Nat) (v : Nat) : Moves 4398046642176 z (State.lgyClear z n v) := by
  unfold State.lgyClear
  dsimp only
  repeat'
    first
    | with_reducible apply Moves.refl
    | with_reducible assumption
    | intro _
    | ((with_reducible apply Moves.by (State.settleNirq_moves _)); case hs => exact rfl)
    | ((with_reducible apply Moves.put); (case hf => (with_reducible apply LGY_IRQF_FLAGS_block)); case hm => exact rfl)
    | with_reducible apply ite_moves
    | with_reducible apply foldl_moves
    | (extract_lets +onlyGivenNames x; apply Moves.cut (m := 4398046642176) (z := z) x; (case' h => unfold x); (case' k => (clear_value x; intro _)))
    | (extract_lets +onlyGivenNames x; clear_value x)
    | split
    | (rename_i hq; split at hq)
    | (rename_i hq; obtain ⟨_, rfl⟩ := Prod.mk.inj hq)

/-- May change: lgy, registers of block 15. -/
theorem State.lgyPushTx_moves (z : State) (v : Nat) : Moves 4398046642176 z (State.lgyPushTx z v) := by
  unfold State.lgyPushTx
  repeat'
    first
    | with_reducible apply Moves.refl
    | with_reducible assumption
    | intro _
    | ((with_reducible apply Moves.by (State.lgyFlag_moves _ _)); case hs => exact rfl)
    | ((with_reducible apply Moves.by (State.with_lgy_moves _ _)); case hs => exact rfl)
    | rw [State.with_lgy_eq]
    | with_reducible apply ite_moves
    | (extract_lets +onlyGivenNames x; apply Moves.cut (m := 4398046642176) (z := z) x; (case' h => unfold x); (case' k => (clear_value x; intro _)))
    | (extract_lets +onlyGivenNames x; clear_value x)
    | split
    | (rename_i hq; split at hq)
    | (rename_i hq; obtain ⟨_, rfl⟩ := Prod.mk.inj hq)

/-- May change: lgy, registers of block 15. -/
theorem State.lgyBase_moves (z : State) (v : Nat) : Moves 4398046642176 z (State.lgyBase z v) := by
  unfold State.lgyBase
  repeat'
    first
    | with_reducible apply Moves.refl
    | with_reducible assumption
    | intro _
    | ((with_reducible apply Moves.by (State.with_lgy_moves _ _)); case hs => exact rfl)
    | rw [State.with_lgy_eq]
    | ((with_reducible apply Moves.put); (case hf => (with_reducible apply LGY_BASEF2_F_block)); case hm => exact rfl)
    | with_reducible apply ite_moves
    | (extract_lets +onlyGivenNames x; apply Moves.cut (m := 4398046642176) (z := z) x; (case' h => unfold x); (case' k => (clear_value x; intro _)))
    | (extract_lets +onlyGivenNames x; clear_value x)
    | split
    | (rename_i hq; split at hq)
    | (rename_i hq; obtain ⟨_, rfl⟩ := Prod.mk.inj hq)

/-- May change: mem, power, radio, slot, evr, core0, core1, lgy, registers of block 0 1 2 11 15. -/
theorem State.lgyWrite_moves (z : State) (a : Nat) (v : Nat) : Moves 4673864175844 z (State.lgyWrite z a v) := by
  unfold State.lgyWrite
  repeat'
    first
    | with_reducible apply Moves.refl
    | with_reducible assumption
    | intro _
    | ((with_reducible apply Moves.by (State.lgyBase_moves _ _)); case hs => exact rfl)
    | ((with_reducible apply Moves.by (State.settleNirq_moves _)); case hs => exact rfl)
    | ((with_reducible apply Moves.by (State.lgyClear_moves _ _ _)); case hs => exact rfl)
    | ((with_reducible apply Moves.by (State.lgyPushTx_moves _ _)); case hs => exact rfl)
    | ((with_reducible apply Moves.by (State.lgyCommand_moves _ _)); case hs => exact rfl)
    | ((with_reducible apply Moves.loadFields (lgyPlain_block _)); case hm => exact rfl)
    | ((with_reducible apply Moves.put); (case hf => (with_reducible first | apply CHZ_LEGSYNC_WORD_block | apply LGY_CHCFG_CHOFF_block | apply LGY_CHCFG_EN_block | apply LGY_CTXDAT_VALUE_block | apply LGY_IRQEN_EN_block | apply LGY_IRQF_FLAGS_block | apply LGY_NETID_VALUE_block | apply LGY_OWNADDR_VALUE_block | apply LGY_SYNCW_WORD_block)); case hm => exact rfl)
    | with_reducible apply ite_moves
    | (extract_lets +onlyGivenNames x; apply Moves.cut (m := 4673864175844) (z := z) x; (case' h => unfold x); (case' k => (clear_value x; intro _)))
    | (extract_lets +onlyGivenNames x; clear_value x)
    | split
    | (rename_i hq; split at hq)
    | (rename_i hq; obtain ⟨_, rfl⟩ := Prod.mk.inj hq)

/-- May change: mem, power, radio, slot, evr, core0, core1, lgy, registers of block 0 1 2 11 15. -/
theorem execTxfifoWrite_goes (value : Fin 256) (z : State) : Goes 4673864175844 z (execTxfifoWrite value z) := by
  unfold execTxfifoWrite
  repeat'
    first
    | with_reducible apply Moves.refl
    | with_reducible assumption
    | intro _
    | with_reducible apply goOn_goes
    | with_reducible apply ite_goes
    | ((with_reducible apply Moves.by (State.lgyWrite_moves _ _ _)); case hs => exact rfl)
    | (extract_lets +onlyGivenNames x; apply Moves.cut (m := 4673864175844) (z := z) x; (case' h => unfold x); (case' k => (clear_value x; intro _)))
    | (extract_lets +onlyGivenNames x; clear_value x)
    | split
    | (rename_i hq; split at hq)
    | (rename_i hq; obtain ⟨_, rfl⟩ := Prod.mk.inj hq)

/-- May change: mem, power, radio, slot, evr, core0, core1, lgy, registers of block 0 1 2 11 15. -/
theorem execIrqFlagClear_goes (n : Fin 8) (value : Fin 256) (z : State) : Goes 4673864175844 z (execIrqFlagClear n value z) := by
  unfold execIrqFlagClear
  repeat'
    first
    | with_reducible apply Moves.refl
    | with_reducible assumption
    | intro _
    | with_reducible apply goOn_goes
    | with_reducible apply ite_goes
    | ((with_reducible apply Moves.by (State.lgyWrite_moves _ _ _)); case hs => exact rfl)
    | (extract_lets +onlyGivenNames x; apply Moves.cut (m := 4673864175844) (z := z) x; (case' h => unfold x); (case' k => (clear_value x; intro _)))
    | (extract_lets +onlyGivenNames x; clear_value x)
    | split
    | (rename_i hq; split at hq)
    | (rename_i hq; obtain ⟨_, rfl⟩ := Prod.mk.inj hq)

/-- May change: mem, power, radio, slot, evr, core0, core1, lgy, registers of block 0 1 2 11 15. -/
theorem execBasef2Write_goes (value : Fin 256) (z : State) : Goes 4673864175844 z (execBasef2Write value z) := by
  unfold execBasef2Write
  repeat'
    first
    | with_reducible apply Moves.refl
    | with_reducible assumption
    | intro _
    | with_reducible apply goOn_goes
    | with_reducible apply ite_goes
    | ((with_reducible apply Moves.by (State.lgyWrite_moves _ _ _)); case hs => exact rfl)
    | (extract_lets +onlyGivenNames x; apply Moves.cut (m := 4673864175844) (z := z) x; (case' h => unfold x); (case' k => (clear_value x; intro _)))
    | (extract_lets +onlyGivenNames x; clear_value x)
    | split
    | (rename_i hq; split at hq)
    | (rename_i hq; obtain ⟨_, rfl⟩ := Prod.mk.inj hq)

/-- May change: power, evr, core0, core1, lgy, registers of block 0 11. -/
theorem execNirqAssert_goes (z : State) : Goes 275012358176 z (execNirqAssert z) := by
  unfold execNirqAssert
  repeat'
    first
    | with_reducible apply Moves.refl
    | with_reducible assumption
    | intro _
    | with_reducible apply goOn_goes
    | with_reducible apply ite_goes
    | ((with_reducible apply Moves.by (State.raise_moves _ _)); case hs => exact rfl)
    | ((with_reducible apply Moves.by (State.with_lgy_moves _ _)); case hs => exact rfl)
    | rw [State.with_lgy_eq]
    | with_reducible apply ite_moves
    | (extract_lets +onlyGivenNames x; apply Moves.cut (m := 275012358176) (z := z) x; (case' h => unfold x); (case' k => (clear_value x; intro _)))
    | (extract_lets +onlyGivenNames x; clear_value x)
    | split
    | (rename_i hq; split at hq)
    | (rename_i hq; obtain ⟨_, rfl⟩ := Prod.mk.inj hq)

/-- May change: power, radio, slot, evr, core0, core1, lgy, objs, registers of block 0 1 2 11 15. -/
theorem State.lgyAccept_moves (z : State) : Moves 4673872564448 z (State.lgyAccept z) := by
  unfold State.lgyAccept
  repeat'
    first
    | with_reducible apply Moves.refl
    | with_reducible assumption
    | intro _
    | ((with_reducible apply Moves.by (State.objs_moves _ _ _)); case hs => exact rfl)
    | ((with_reducible apply Moves.by (State.lgyOrphans_moves _)); case hs => exact rfl)
    | ((with_reducible apply Moves.by (State.lgyCloseWindows_moves _)); case hs => exact rfl)
    | ((with_reducible apply Moves.by (State.lgyClearAll_moves _)); case hs => exact rfl)
    | ((with_reducible apply Moves.by (State.with_lgy_moves _ _)); case hs => exact rfl)
    | rw [State.with_lgy_eq]
    | ((with_reducible apply Moves.by (State.with_radio_slot_moves _ _ _)); case hs => exact rfl)
    | rw [State.with_radio_slot_eq]
    | with_reducible apply ite_moves
    | (extract_lets +onlyGivenNames x; apply Moves.cut (m := 4673872564448) (z := z) x; (case' h => unfold x); (case' k => (clear_value x; intro _)))
    | (extract_lets +onlyGivenNames x; clear_value x)
    | split
    | (rename_i hq; split at hq)
    | (rename_i hq; obtain ⟨_, rfl⟩ := Prod.mk.inj hq)

/-- May change: lgy. -/
theorem State.setUnlock_moves (z : State) (u : Unlock) : Moves 131072 z (State.setUnlock z u) := by
  unfold State.setUnlock
  repeat'
    first
    | with_reducible apply Moves.refl
    | with_reducible assumption
    | intro _
    | ((with_reducible apply Moves.by (State.with_lgy_moves _ _)); case hs => exact rfl)
    | rw [State.with_lgy_eq]
    | with_reducible apply ite_moves
    | (extract_lets +onlyGivenNames x; apply Moves.cut (m := 131072) (z := z) x; (case' h => unfold x); (case' k => (clear_value x; intro _)))
    | (extract_lets +onlyGivenNames x; clear_value x)
    | split
    | (rename_i hq; split at hq)
    | (rename_i hq; obtain ⟨_, rfl⟩ := Prod.mk.inj hq)

/-- May change: power, radio, slot, evr, core0, core1, lgy, objs, registers of block 0 1 2 11 15. -/
theorem State.unlockStep_moves (z : State) (v : Nat) : Moves 4673872564448 z (State.unlockStep z v) := by
  unfold State.unlockStep
  repeat'
    first
    | with_reducible apply Moves.refl
    | with_reducible assumption
    | intro _
    | ((with_reducible apply Moves.by (State.setUnlock_moves _ _)); case hs => exact rfl)
    | ((with_reducible apply Moves.by (State.lgyAccept_moves _)); case hs => exact rfl)
    | ((with_reducible apply Moves.by (State.with_lgy_moves _ _)); case hs => exact rfl)
    | rw [State.with_lgy_eq]
    | with_reducible apply ite_moves
    | (extract_lets +onlyGivenNames x; apply Moves.cut (m := 4673872564448) (z := z) x; (case' h => unfold x); (case' k => (clear_value x; intro _)))
    | (extract_lets +onlyGivenNames x; clear_value x)
    | split
    | (rename_i hq; split at hq)
    | (rename_i hq; obtain ⟨_, rfl⟩ := Prod.mk.inj hq)

/-- May change: power, radio, slot, evr, core0, core1, lgy, objs, registers of block 0 1 2 11 15. -/
theorem execUnlockWrite_goes (value : Fin 256) (z : State) : Goes 4673872564448 z (execUnlockWrite value z) := by
  unfold execUnlockWrite
  repeat'
    first
    | with_reducible apply Moves.refl
    | with_reducible assumption
    | intro _
    | with_reducible apply goOn_goes
    | with_reducible apply ite_goes
    | ((with_reducible apply Moves.by (State.unlockStep_moves _ _)); case hs => exact rfl)
    | (extract_lets +onlyGivenNames x; apply Moves.cut (m := 4673872564448) (z := z) x; (case' h => unfold x); (case' k => (clear_value x; intro _)))
    | (extract_lets +onlyGivenNames x; clear_value x)
    | split
    | (rename_i hq; split at hq)
    | (rename_i hq; obtain ⟨_, rfl⟩ := Prod.mk.inj hq)

/-- May change: lgy. -/
theorem execUnlockTimeout_goes (z : State) : Goes 131072 z (execUnlockTimeout z) := by
  unfold execUnlockTimeout
  repeat'
    first
    | with_reducible apply Moves.refl
    | with_reducible assumption
    | intro _
    | with_reducible apply goOn_goes
    | with_reducible apply ite_goes
    | ((with_reducible apply Moves.by (State.with_lgy_moves _ _)); case hs => exact rfl)
    | rw [State.with_lgy_eq]
    | (extract_lets +onlyGivenNames x; apply Moves.cut (m := 131072) (z := z) x; (case' h => unfold x); (case' k => (clear_value x; intro _)))
    | (extract_lets +onlyGivenNames x; clear_value x)
    | split
    | (rename_i hq; split at hq)
    | (rename_i hq; obtain ⟨_, rfl⟩ := Prod.mk.inj hq)

/-- Settings of a block's registers return to reset. -/
theorem Moves.resetSettings {b m : Nat} {x s : State} {regs : List RegRow} (hi : regsIn b regs) (hm : m.testBit (27 + b) = true)
    (h : Moves m x s) : Moves m x (s.resetSettings regs) := by
  unfold State.resetSettings
  induction regs generalizing s with
  | nil => exact h
  | cons r rs ih =>
    refine ih hi.2 (List.foldlRecOn (motive := fun (t : State) => Moves m x t) _ _ h fun t ht i _ => ?_)
    have hr := hi.1 i
    revert hr ht
    generalize r.rows i = l
    intro ht hr
    induction l generalizing t with
    | nil => exact ht
    | cons f fs ihf =>
      refine ihf _ ?_ hr.2
      dsimp only
      split
      · exact ht.put hr.1 hm
      · exact ht.put hr.1 hm
      · exact ht

/-- May change: mem, power, radio, evr, core0, core1, lgy, registers of block 0 1 2 11. -/
theorem State.lgyCleanup_moves (z : State) : Moves 275817664612 z (State.lgyCleanup z) := by
  unfold State.lgyCleanup
  repeat'
    first
    | with_reducible apply Moves.refl
    | with_reducible assumption
    | intro _
    | ((with_reducible apply Moves.resetSettings chzRegs_in); case hm => exact rfl)
    | ((with_reducible apply Moves.resetSettings rfcRegs_in); case hm => exact rfl)
    | ((with_reducible apply Moves.by (State.restLane_moves _ _)); case hs => exact rfl)
    | ((with_reducible apply Moves.by (State.installMap_moves _)); case hs => exact rfl)
    | ((with_reducible apply Moves.by (State.enter_moves _ _ _)); case hs => exact rfl)
    | ((with_reducible apply Moves.by (State.setCtx_moves _ _ _ _ _)); case hs => exact rfl)
    | ((with_reducible apply Moves.by (State.setPath_moves _ _ _)); case hs => exact rfl)
    | ((with_reducible apply Moves.by (State.with_lgy_moves _ _)); case hs => exact rfl)
    | rw [State.with_lgy_eq]
    | ((with_reducible apply Moves.by (State.with_radio_moves _ _)); case hs => exact rfl)
    | rw [State.with_radio_eq]
    | with_reducible apply ite_moves
    | with_reducible apply foldl_moves
    | (extract_lets +onlyGivenNames x; apply Moves.cut (m := 275817664612) (z := z) x; (case' h => unfold x); (case' k => (clear_value x; intro _)))
    | (extract_lets +onlyGivenNames x; clear_value x)
    | split
    | (rename_i hq; split at hq)
    | (rename_i hq; obtain ⟨_, rfl⟩ := Prod.mk.inj hq)

/-- May change: mem, power, radio, slot, mac, evr, core0, core1, lgy, boot, registers of block 0 1 2 4 5 8 11. -/
theorem execNativeSwitchover_goes (z : State) : Goes 316620902884 z (execNativeSwitchover z) := by
  unfold execNativeSwitchover
  repeat'
    first
    | with_reducible apply Moves.refl
    | with_reducible assumption
    | intro _
    | with_reducible apply goOn_goes
    | with_reducible apply ite_goes
    | ((with_reducible apply Moves.by (State.lgyCleanup_moves _)); case hs => exact rfl)
    | ((with_reducible apply Moves.by (State.enterMode_moves _ _)); case hs => exact rfl)
    | ((with_reducible apply Moves.by (State.with_boot_moves _ _)); case hs => exact rfl)
    | rw [State.with_boot_eq]
    | ((with_reducible apply Moves.by (State.with_lgy_moves _ _)); case hs => exact rfl)
    | rw [State.with_lgy_eq]
    | ((with_reducible apply Moves.flag); (case hf => (with_reducible apply PRC_MODE_UNLOCKED_block)); case hm => exact rfl)
    | with_reducible apply ite_moves
    | (extract_lets +onlyGivenNames x; apply Moves.cut (m := 316620902884) (z := z) x; (case' h => unfold x); (case' k => (clear_value x; intro _)))
    | (extract_lets +onlyGivenNames x; clear_value x)
    | split
    | (rename_i hq; split at hq)
    | (rename_i hq; obtain ⟨_, rfl⟩ := Prod.mk.inj hq)

/-- May change: mem, power, radio, slot, evr, core0, core1, lgy, registers of block 0 1 2 11 15. -/
theorem State.lgyWrites_moves (z : State) (a1 : Nat) (a2 : List Byte) : Moves 4673864175844 z (State.lgyWrites z a1 a2) := by
  induction a2 generalizing z a1 with
  | nil =>
  unfold State.lgyWrites
  repeat'
    first
    | with_reducible apply Moves.refl
    | with_reducible assumption
    | intro _
    | ((with_reducible apply Moves.by (State.lgyWrite_moves _ _ _)); case hs => exact rfl)
    | with_reducible apply ite_moves
    | (extract_lets +onlyGivenNames x; apply Moves.cut (m := 4673864175844) (z := z) x; (case' h => unfold x); (case' k => (clear_value x; intro _)))
    | (extract_lets +onlyGivenNames x; clear_value x)
    | split
    | (rename_i hq; split at hq)
    | (rename_i hq; obtain ⟨_, rfl⟩ := Prod.mk.inj hq)
  | cons b bs ih =>
  unfold State.lgyWrites
  repeat'
    first
    | ((with_reducible apply Moves.by (ih _ _)); case hs => exact rfl)
    | with_reducible apply Moves.refl
    | with_reducible assumption
    | intro _
    | ((with_reducible apply Moves.by (State.lgyWrite_moves _ _ _)); case hs => exact rfl)
    | with_reducible apply ite_moves
    | (extract_lets +onlyGivenNames x; apply Moves.cut (m := 4673864175844) (z := z) x; (case' h => unfold x); (case' k => (clear_value x; intro _)))
    | (extract_lets +onlyGivenNames x; clear_value x)
    | split
    | (rename_i hq; split at hq)
    | (rename_i hq; obtain ⟨_, rfl⟩ := Prod.mk.inj hq)

/-- May change: lgy, registers of block 15. -/
theorem State.lgyReads_moves (z : State) (a1 : Nat) (a2 : Nat) : Moves 4398046642176 z (State.lgyReads z a1 a2).2 := by
  induction a1 generalizing z a2 with
  | zero =>
  unfold State.lgyReads
  repeat'
    first
    | with_reducible apply Moves.refl
    | with_reducible assumption
    | intro _
    | ((with_reducible apply Moves.by (State.lgyRead_moves _ _)); case hs => exact rfl)
    | ((with_reducible apply State.lgyRead_pair); (case hp => assumption); case hs => exact rfl)
    | with_reducible apply ite_moves
    | with_reducible apply ite_snd_moves
    | (extract_lets +onlyGivenNames x; apply Moves.cut (m := 4398046642176) (z := z) x; (case' h => unfold x); (case' k => (clear_value x; intro _)))
    | (extract_lets +onlyGivenNames x; clear_value x)
    | split
    | (rename_i hq; split at hq)
    | (rename_i hq; obtain ⟨_, rfl⟩ := Prod.mk.inj hq)
  | succ n ih =>
  unfold State.lgyReads
  repeat'
    first
    | ((with_reducible apply Moves.by (ih _ _)); case hs => exact rfl)
    | with_reducible apply Moves.refl
    | with_reducible assumption
    | intro _
    | ((with_reducible apply Moves.by (State.lgyRead_moves _ _)); case hs => exact rfl)
    | ((with_reducible apply State.lgyRead_pair); (case hp => assumption); case hs => exact rfl)
    | with_reducible apply ite_moves
    | with_reducible apply ite_snd_moves
    | (extract_lets +onlyGivenNames x; apply Moves.cut (m := 4398046642176) (z := z) x; (case' h => unfold x); (case' k => (clear_value x; intro _)))
    | (extract_lets +onlyGivenNames x; clear_value x)
    | split
    | (rename_i hq; split at hq)
    | (rename_i hq; obtain ⟨_, rfl⟩ := Prod.mk.inj hq)

theorem State.lgyReads_pair {z : State} {a1 : Nat} {a2 : Nat} {b1 : List Byte} {u0 : State} {m0 : Nat} {r0 : State} (hp : State.lgyReads z a1 a2 = (b1, u0)) (hs : sub 4398046642176 m0 = true) (h : Moves m0 r0 z) : Moves m0 r0 u0 := by
  have g := State.lgyReads_moves z a1 a2
  rw [hp] at g
  exact h.step g hs

/-- May change: free. -/
theorem State.lgyFast_moves (z : State) (mosi : List Byte) : Moves 16777216 z (State.lgyFast z mosi).2 := by
  unfold State.lgyFast
  repeat'
    first
    | with_reducible apply Moves.refl
    | with_reducible assumption
    | intro _
    | ((with_reducible apply Moves.by (State.freeBytes_moves _ _)); case hs => exact rfl)
    | ((with_reducible apply State.freeBytes_pair); (case hp => assumption); case hs => exact rfl)
    | with_reducible apply ite_moves
    | with_reducible apply ite_snd_moves
    | (extract_lets +onlyGivenNames x; apply Moves.cut (m := 16777216) (z := z) x; (case' h => unfold x); (case' k => (clear_value x; intro _)))
    | (extract_lets +onlyGivenNames x; clear_value x)
    | split
    | (rename_i hq; split at hq)
    | (rename_i hq; obtain ⟨_, rfl⟩ := Prod.mk.inj hq)

theorem State.lgyFast_pair {z : State} {mosi : List Byte} {b1 : List Byte} {u0 : State} {m0 : Nat} {r0 : State} (hp : State.lgyFast z mosi = (b1, u0)) (hs : sub 16777216 m0 = true) (h : Moves m0 r0 z) : Moves m0 r0 u0 := by
  have g := State.lgyFast_moves z mosi
  rw [hp] at g
  exact h.step g hs

/-- May change: host. -/
theorem State.spiOut_moves (z : State) (bs : List Byte) : Moves 524288 z (State.spiOut z bs) := by
  unfold State.spiOut
  repeat'
    first
    | with_reducible apply Moves.refl
    | with_reducible assumption
    | intro _
    | ((with_reducible apply Moves.by (State.with_host_moves _ _)); case hs => exact rfl)
    | rw [State.with_host_eq]
    | with_reducible apply ite_moves
    | (extract_lets +onlyGivenNames x; apply Moves.cut (m := 524288) (z := z) x; (case' h => unfold x); (case' k => (clear_value x; intro _)))
    | (extract_lets +onlyGivenNames x; clear_value x)
    | split
    | (rename_i hq; split at hq)
    | (rename_i hq; obtain ⟨_, rfl⟩ := Prod.mk.inj hq)

/-- May change: mem, power, radio, slot, evr, core0, core1, lgy, host, registers of block 0 1 2 11 15. -/
theorem State.lgyBytes_moves (z : State) (a : Byte) (ds : List Byte) : Moves 4673864700132 z (State.lgyBytes z a ds) := by
  unfold State.lgyBytes
  repeat'
    first
    | with_reducible apply Moves.refl
    | with_reducible assumption
    | intro _
    | ((with_reducible apply Moves.by (State.spiOut_moves _ _)); case hs => exact rfl)
    | ((with_reducible apply Moves.by (State.lgyWrites_moves _ _ _)); case hs => exact rfl)
    | ((with_reducible apply Moves.by (State.lgyReads_moves _ _ _)); case hs => exact rfl)
    | ((with_reducible apply State.lgyReads_pair); (case hp => assumption); case hs => exact rfl)
    | with_reducible apply ite_moves
    | (extract_lets +onlyGivenNames x; apply Moves.cut (m := 4673864700132) (z := z) x; (case' h => unfold x); (case' k => (clear_value x; intro _)))
    | (extract_lets +onlyGivenNames x; clear_value x)
    | split
    | (rename_i hq; split at hq)
    | (rename_i hq; obtain ⟨_, rfl⟩ := Prod.mk.inj hq)

/-- May change: mem, power, radio, slot, evr, core0, core1, lgy, host, objs, free, registers of block 0 1 2 11 15. -/
theorem execLegacySpiTransaction_goes (mosi : List Byte) (cut : Bool) (fast : Bool) (early : Bool) (z : State) : Goes 4673889865956 z (execLegacySpiTransaction mosi cut fast early z) := by
  unfold execLegacySpiTransaction
  repeat'
    first
    | with_reducible apply Moves.refl
    | with_reducible assumption
    | intro _
    | with_reducible apply goOn_goes
    | with_reducible apply ite_goes
    | ((with_reducible apply Moves.by (State.lgyBytes_moves _ _ _)); case hs => exact rfl)
    | ((with_reducible apply Moves.by (State.setUnlock_moves _ _)); case hs => exact rfl)
    | ((with_reducible apply Moves.by (State.lgyFlag_moves _ _)); case hs => exact rfl)
    | ((with_reducible apply Moves.by (State.spiOut_moves _ _)); case hs => exact rfl)
    | ((with_reducible apply Moves.by (State.lgyFast_moves _ _)); case hs => exact rfl)
    | ((with_reducible apply State.lgyFast_pair); (case hp => assumption); case hs => exact rfl)
    | ((with_reducible apply Moves.by (State.unlockStep_moves _ _)); case hs => exact rfl)
    | with_reducible apply ite_moves
    | (extract_lets +onlyGivenNames x; apply Moves.cut (m := 4673889865956) (z := z) x; (case' h => unfold x); (case' k => (clear_value x; intro _)))
    | (extract_lets +onlyGivenNames x; clear_value x)
    | split
    | (rename_i hq; split at hq)
    | (rename_i hq; obtain ⟨_, rfl⟩ := Prod.mk.inj hq)

/-- May change: registers of block 2 3. -/
theorem State.lgyProfiles_moves (z : State) : Moves 1610612736 z (State.lgyProfiles z) := by
  unfold State.lgyProfiles
  repeat'
    first
    | with_reducible apply Moves.refl
    | with_reducible assumption
    | intro _
    | ((with_reducible apply Moves.put); (case hf => (with_reducible first | apply CHZ_PROF_LEG_EN_block | apply CHZ_PROF_MAXLEN_block | apply CHZ_PROF_MOD_block | apply CHZ_PROF_NAT_EN_block | apply CHZ_PROF_RATE_block | apply TXP_PROF_LEGACY_block | apply TXP_PROF_MOD_block | apply TXP_PROF_RATE_block)); case hm => exact rfl)
    | ((with_reducible apply Moves.flag); (case hf => (with_reducible first | apply CHZ_PROF_LEG_EN_block | apply CHZ_PROF_MAXLEN_block | apply CHZ_PROF_MOD_block | apply CHZ_PROF_NAT_EN_block | apply CHZ_PROF_RATE_block | apply TXP_PROF_LEGACY_block | apply TXP_PROF_MOD_block | apply TXP_PROF_RATE_block)); case hm => exact rfl)
    | with_reducible apply ite_moves
    | (extract_lets +onlyGivenNames x; apply Moves.cut (m := 1610612736) (z := z) x; (case' h => unfold x); (case' k => (clear_value x; intro _)))
    | (extract_lets +onlyGivenNames x; clear_value x)
    | split
    | (rename_i hq; split at hq)
    | (rename_i hq; obtain ⟨_, rfl⟩ := Prod.mk.inj hq)

/-- May change: slot. -/
theorem State.lgyWindow_moves (z : State) (c : Nat) : Moves 128 z (State.lgyWindow z c) := by
  unfold State.lgyWindow
  repeat'
    first
    | with_reducible apply Moves.refl
    | with_reducible assumption
    | intro _
    | ((with_reducible apply Moves.by (State.with_slot_moves _ _)); case hs => exact rfl)
    | rw [State.with_slot_eq]
    | with_reducible apply ite_moves
    | (extract_lets +onlyGivenNames x; apply Moves.cut (m := 128) (z := z) x; (case' h => unfold x); (case' k => (clear_value x; intro _)))
    | (extract_lets +onlyGivenNames x; clear_value x)
    | split
    | (rename_i hq; split at hq)
    | (rename_i hq; obtain ⟨_, rfl⟩ := Prod.mk.inj hq)

/-- May change: power, radio, slot, evr, core0, core1, lgy, registers of block 0 1 2 3 11. -/
theorem State.lgyTune_moves (z : State) : Moves 276891406560 z (State.lgyTune z) := by
  unfold State.lgyTune
  repeat'
    first
    | with_reducible apply Moves.refl
    | with_reducible assumption
    | intro _
    | ((with_reducible apply Moves.by (State.retune_moves _ _)); case hs => exact rfl)
    | ((with_reducible apply Moves.by (State.lgyProfiles_moves _)); case hs => exact rfl)
    | ((with_reducible apply Moves.by (State.tuneHalf_moves _ _ _)); case hs => exact rfl)
    | ((with_reducible apply Moves.by (State.with_lgy_moves _ _)); case hs => exact rfl)
    | rw [State.with_lgy_eq]
    | ((with_reducible apply Moves.put); (case hf => (with_reducible first | apply CHZ_LCFG_EN_block | apply CHZ_LCFG_PROFILE_block | apply CHZ_LNCO_LNCO_block)); case hm => exact rfl)
    | ((with_reducible apply Moves.flag); (case hf => (with_reducible first | apply CHZ_LCFG_EN_block | apply CHZ_LCFG_PROFILE_block | apply CHZ_LNCO_LNCO_block)); case hm => exact rfl)
    | with_reducible apply ite_moves
    | with_reducible apply foldl_moves
    | (extract_lets +onlyGivenNames x; apply Moves.cut (m := 276891406560) (z := z) x; (case' h => unfold x); (case' k => (clear_value x; intro _)))
    | (extract_lets +onlyGivenNames x; clear_value x)
    | split
    | (rename_i hq; split at hq)
    | (rename_i hq; obtain ⟨_, rfl⟩ := Prod.mk.inj hq)

/-- May change: slot. -/
theorem State.lgyLaunch_moves (z : State) (u : TxUnit) : Moves 128 z (State.lgyLaunch z u) := by
  unfold State.lgyLaunch
  repeat'
    first
    | with_reducible apply Moves.refl
    | with_reducible assumption
    | intro _
    | ((with_reducible apply Moves.by (State.with_slot_moves _ _)); case hs => exact rfl)
    | rw [State.with_slot_eq]
    | with_reducible apply ite_moves
    | (extract_lets +onlyGivenNames x; apply Moves.cut (m := 128) (z := z) x; (case' h => unfold x); (case' k => (clear_value x; intro _)))
    | (extract_lets +onlyGivenNames x; clear_value x)
    | split
    | (rename_i hq; split at hq)
    | (rename_i hq; obtain ⟨_, rfl⟩ := Prod.mk.inj hq)

/-- May change: slot, lgy. -/
theorem State.lgySend_moves (z : State) : Moves 131200 z (State.lgySend z) := by
  unfold State.lgySend
  repeat'
    first
    | with_reducible apply Moves.refl
    | with_reducible assumption
    | intro _
    | ((with_reducible apply Moves.by (State.lgyLaunch_moves _ _)); case hs => exact rfl)
    | ((with_reducible apply Moves.by (State.with_lgy_moves _ _)); case hs => exact rfl)
    | rw [State.with_lgy_eq]
    | with_reducible apply ite_moves
    | (extract_lets +onlyGivenNames x; apply Moves.cut (m := 131200) (z := z) x; (case' h => unfold x); (case' k => (clear_value x; intro _)))
    | (extract_lets +onlyGivenNames x; clear_value x)
    | split
    | (rename_i hq; split at hq)
    | (rename_i hq; obtain ⟨_, rfl⟩ := Prod.mk.inj hq)

/-- May change: power, radio, slot, evr, core0, core1, lgy, registers of block 0 1 2 11. -/
theorem State.lgyEndSlot_moves (z : State) : Moves 275817664736 z (State.lgyEndSlot z) := by
  unfold State.lgyEndSlot
  repeat'
    first
    | with_reducible apply Moves.refl
    | with_reducible assumption
    | intro _
    | ((with_reducible apply Moves.by (State.lgyBack_moves _ _)); case hs => exact rfl)
    | ((with_reducible apply Moves.by (State.lgyUnlaunch_moves _ _)); case hs => exact rfl)
    | ((with_reducible apply Moves.by (State.lgyCloseWindows_moves _)); case hs => exact rfl)
    | ((with_reducible apply Moves.by (State.with_slot_moves _ _)); case hs => exact rfl)
    | rw [State.with_slot_eq]
    | with_reducible apply ite_moves
    | with_reducible apply foldl_moves
    | (extract_lets +onlyGivenNames x; apply Moves.cut (m := 275817664736) (z := z) x; (case' h => unfold x); (case' k => (clear_value x; intro _)))
    | (extract_lets +onlyGivenNames x; clear_value x)
    | split
    | (rename_i hq; split at hq)
    | (rename_i hq; obtain ⟨_, rfl⟩ := Prod.mk.inj hq)

/-- May change: lgy, registers of block 15. -/
theorem State.lgyCount_moves (z : State) : Moves 4398046642176 z (State.lgyCount z) := by
  unfold State.lgyCount
  repeat'
    first
    | with_reducible apply Moves.refl
    | with_reducible assumption
    | intro _
    | ((with_reducible apply Moves.by (State.lgyFlag_moves _ _)); case hs => exact rfl)
    | ((with_reducible apply Moves.by (State.with_lgy_moves _ _)); case hs => exact rfl)
    | rw [State.with_lgy_eq]
    | with_reducible apply ite_moves
    | (extract_lets +onlyGivenNames x; apply Moves.cut (m := 4398046642176) (z := z) x; (case' h => unfold x); (case' k => (clear_value x; intro _)))
    | (extract_lets +onlyGivenNames x; clear_value x)
    | split
    | (rename_i hq; split at hq)
    | (rename_i hq; obtain ⟨_, rfl⟩ := Prod.mk.inj hq)

/-- May change: tnet, clock, power, radio, slot, mac, evr, core0, core1, lgy, registers of block 0 1 2 3 11 15. -/
theorem execLegacySlotBoundary_goes (z : State) : Goes 4674937917923 z (execLegacySlotBoundary z) := by
  unfold execLegacySlotBoundary
  repeat'
    first
    | with_reducible apply Moves.refl
    | with_reducible assumption
    | intro _
    | with_reducible apply goOn_goes
    | with_reducible apply ite_goes
    | ((with_reducible apply Moves.by (State.advanceTo_moves _ _)); case hs => exact rfl)
    | ((with_reducible apply Moves.by (State.lgyWindow_moves _ _)); case hs => exact rfl)
    | ((with_reducible apply Moves.by (State.lgyTune_moves _)); case hs => exact rfl)
    | ((with_reducible apply Moves.by (State.lgyCount_moves _)); case hs => exact rfl)
    | ((with_reducible apply Moves.by (State.lgyEndSlot_moves _)); case hs => exact rfl)
    | ((with_reducible apply Moves.by (State.lgySend_moves _)); case hs => exact rfl)
    | ((with_reducible apply Moves.by (State.with_lgy_moves _ _)); case hs => exact rfl)
    | rw [State.with_lgy_eq]
    | with_reducible apply ite_moves
    | with_reducible apply foldl_moves
    | (extract_lets +onlyGivenNames x; apply Moves.cut (m := 4674937917923) (z := z) x; (case' h => unfold x); (case' k => (clear_value x; intro _)))
    | (extract_lets +onlyGivenNames x; clear_value x)
    | split
    | (rename_i hq; split at hq)
    | (rename_i hq; obtain ⟨_, rfl⟩ := Prod.mk.inj hq)

/-- May change: slot. -/
theorem State.lgySendAck_moves (z : State) (p : LgyPayload) (c : Option Nat) (freq : Nat) (choff : Nat) : Moves 128 z (State.lgySendAck z p c freq choff) := by
  unfold State.lgySendAck
  repeat'
    first
    | with_reducible apply Moves.refl
    | with_reducible assumption
    | intro _
    | ((with_reducible apply Moves.by (State.lgyLaunch_moves _ _)); case hs => exact rfl)
    | with_reducible apply ite_moves
    | (extract_lets +onlyGivenNames x; apply Moves.cut (m := 128) (z := z) x; (case' h => unfold x); (case' k => (clear_value x; intro _)))
    | (extract_lets +onlyGivenNames x; clear_value x)
    | split
    | (rename_i hq; split at hq)
    | (rename_i hq; obtain ⟨_, rfl⟩ := Prod.mk.inj hq)

/-- May change: lgy, registers of block 15. -/
theorem State.lgyRecord_moves (z : State) (rec : List Byte) : Moves 4398046642176 z ((State.lgyRecord z rec).getD z) := by
  unfold State.lgyRecord
  repeat'
    first
    | with_reducible apply Moves.refl
    | with_reducible assumption
    | intro _
    | with_reducible apply some_moves
    | with_reducible apply none_moves
    | ((with_reducible apply Moves.by (State.lgyFlag_moves _ _)); case hs => exact rfl)
    | ((with_reducible apply Moves.by (State.with_lgy_moves _ _)); case hs => exact rfl)
    | rw [State.with_lgy_eq]
    | with_reducible apply ite_moves
    | (extract_lets +onlyGivenNames x; apply Moves.cut (m := 4398046642176) (z := z) x; (case' h => unfold x); (case' k => (clear_value x; intro _)))
    | (extract_lets +onlyGivenNames x; clear_value x)
    | split
    | (rename_i hq; split at hq)
    | (rename_i hq; obtain ⟨_, rfl⟩ := Prod.mk.inj hq)

theorem State.lgyRecord_pair {z : State} {rec : List Byte} {u0 : State} {m0 : Nat} {r0 : State} (hp : State.lgyRecord z rec = some u0) (hs : sub 4398046642176 m0 = true) (h : Moves m0 r0 z) : Moves m0 r0 u0 := by
  have g := State.lgyRecord_moves z rec
  rw [hp] at g
  exact h.step g hs

/-- May change: mem. -/
theorem State.lgyHeard_moves (z : State) (c : Nat) (p : LgyPayload) (rssi : Int) (offset : Int) : Moves 4 z (State.lgyHeard z c p rssi offset) := by
  unfold State.lgyHeard
  repeat'
    first
    | with_reducible apply Moves.refl
    | with_reducible assumption
    | intro _
    | ((with_reducible apply Moves.by (State.foldRssi_moves _ _ _)); case hs => exact rfl)
    | ((with_reducible apply Moves.by (State.setCtxFlag_moves _ _ _)); case hs => exact rfl)
    | ((with_reducible apply Moves.by (State.foldOffset_moves _ _ _)); case hs => exact rfl)
    | ((with_reducible apply Moves.by (State.setCtx_moves _ _ _ _ _)); case hs => exact rfl)
    | with_reducible apply ite_moves
    | (extract_lets +onlyGivenNames x; apply Moves.cut (m := 4) (z := z) x; (case' h => unfold x); (case' k => (clear_value x; intro _)))
    | (extract_lets +onlyGivenNames x; clear_value x)
    | split
    | (rename_i hq; split at hq)
    | (rename_i hq; obtain ⟨_, rfl⟩ := Prod.mk.inj hq)

/-- May change: mem, slot, lgy, registers of block 15. -/
theorem State.lgyStore_moves (z : State) (p : LgyPayload) (body : List Byte) (d : DetRec) : Moves 4398046642308 z (State.lgyStore z p body d) := by
  unfold State.lgyStore
  repeat'
    first
    | with_reducible apply Moves.refl
    | with_reducible assumption
    | intro _
    | ((with_reducible apply Moves.by (State.lgyRecord_moves _ _)); case hs => exact rfl)
    | ((with_reducible apply State.lgyRecord_pair); (case hp => assumption); case hs => exact rfl)
    | ((with_reducible apply Moves.by (State.lgyFlag_moves _ _)); case hs => exact rfl)
    | ((with_reducible apply Moves.by (State.lgyHeard_moves _ _ _ _ _)); case hs => exact rfl)
    | ((with_reducible apply Moves.by (State.lgySendAck_moves _ _ _ _ _)); case hs => exact rfl)
    | ((with_reducible apply Moves.by (State.with_lgy_moves _ _)); case hs => exact rfl)
    | rw [State.with_lgy_eq]
    | ((with_reducible apply Moves.put); (case hf => (with_reducible first | apply LGY_FOFF_FOFF_block | apply LGY_LASTCTX_VALUE_block | apply LGY_LASTSEQ_VALUE_block | apply LGY_RSSI_RSSI_block | apply LGY_RXINFO_ACKSENT_block | apply LGY_RXINFO_CH_block | apply LGY_RXINFO_NOCTX_block)); case hm => exact rfl)
    | ((with_reducible apply Moves.flag); (case hf => (with_reducible first | apply LGY_FOFF_FOFF_block | apply LGY_LASTCTX_VALUE_block | apply LGY_LASTSEQ_VALUE_block | apply LGY_RSSI_RSSI_block | apply LGY_RXINFO_ACKSENT_block | apply LGY_RXINFO_CH_block | apply LGY_RXINFO_NOCTX_block)); case hm => exact rfl)
    | with_reducible apply ite_moves
    | (extract_lets +onlyGivenNames x; apply Moves.cut (m := 4398046642308) (z := z) x; (case' h => unfold x); (case' k => (clear_value x; intro _)))
    | (extract_lets +onlyGivenNames x; clear_value x)
    | split
    | (rename_i hq; split at hq)
    | (rename_i hq; obtain ⟨_, rfl⟩ := Prod.mk.inj hq)

/-- May change: lgy, registers of block 15. -/
theorem State.lgyBeacon_moves (z : State) (p : LgyPayload) (d : DetRec) : Moves 4398046642176 z (State.lgyBeacon z p d) := by
  unfold State.lgyBeacon
  repeat'
    first
    | with_reducible apply Moves.refl
    | with_reducible assumption
    | intro _
    | ((with_reducible apply Moves.by (State.lgyFlag_moves _ _)); case hs => exact rfl)
    | ((with_reducible apply Moves.by (State.with_lgy_moves _ _)); case hs => exact rfl)
    | rw [State.with_lgy_eq]
    | with_reducible apply ite_moves
    | (extract_lets +onlyGivenNames x; apply Moves.cut (m := 4398046642176) (z := z) x; (case' h => unfold x); (case' k => (clear_value x; intro _)))
    | (extract_lets +onlyGivenNames x; clear_value x)
    | split
    | (rename_i hq; split at hq)
    | (rename_i hq; obtain ⟨_, rfl⟩ := Prod.mk.inj hq)

/-- May change: slot, lgy, registers of block 15. -/
theorem execLegacyBeaconRx_goes (unit : Nat) (z : State) : Goes 4398046642304 z (execLegacyBeaconRx unit z) := by
  unfold execLegacyBeaconRx
  repeat'
    first
    | with_reducible apply Moves.refl
    | with_reducible assumption
    | intro _
    | with_reducible apply goOn_goes
    | with_reducible apply ite_goes
    | ((with_reducible apply Moves.by (State.setRx_moves _ _)); case hs => exact rfl)
    | ((with_reducible apply Moves.by (State.lgyBeacon_moves _ _ _)); case hs => exact rfl)
    | with_reducible apply ite_moves
    | (extract_lets +onlyGivenNames x; apply Moves.cut (m := 4398046642304) (z := z) x; (case' h => unfold x); (case' k => (clear_value x; intro _)))
    | (extract_lets +onlyGivenNames x; clear_value x)
    | split
    | (rename_i hq; split at hq)
    | (rename_i hq; obtain ⟨_, rfl⟩ := Prod.mk.inj hq)

/-- May change: mem, power, radio, slot, mac, evr, core0, core1, lgy, registers of block 0 2 5 11 15. -/
theorem execLegacyFrameStored_goes (unit : Nat) (z : State) : Goes 4677890707940 z (execLegacyFrameStored unit z) := by
  unfold execLegacyFrameStored
  repeat'
    first
    | with_reducible apply Moves.refl
    | with_reducible assumption
    | intro _
    | with_reducible apply goOn_goes
    | with_reducible apply ite_goes
    | ((with_reducible apply Moves.by (State.lgyBeacon_moves _ _ _)); case hs => exact rfl)
    | ((with_reducible apply Moves.by (State.lgyStore_moves _ _ _ _)); case hs => exact rfl)
    | ((with_reducible apply Moves.by (State.removeRx_moves _ _)); case hs => exact rfl)
    | ((with_reducible apply Moves.by (State.lgyAcked_moves _ _)); case hs => exact rfl)
    | with_reducible apply ite_moves
    | (extract_lets +onlyGivenNames x; apply Moves.cut (m := 4677890707940) (z := z) x; (case' h => unfold x); (case' k => (clear_value x; intro _)))
    | (extract_lets +onlyGivenNames x; clear_value x)
    | split
    | (rename_i hq; split at hq)
    | (rename_i hq; obtain ⟨_, rfl⟩ := Prod.mk.inj hq)

/-- May change: lgy, registers of block 15. -/
theorem execBcnmiss_goes (z : State) : Goes 4398046642176 z (execBcnmiss z) := by
  unfold execBcnmiss
  repeat'
    first
    | with_reducible apply Moves.refl
    | with_reducible assumption
    | intro _
    | with_reducible apply goOn_goes
    | with_reducible apply ite_goes
    | ((with_reducible apply Moves.by (State.lgyFlag_moves _ _)); case hs => exact rfl)
    | ((with_reducible apply Moves.by (State.with_lgy_moves _ _)); case hs => exact rfl)
    | rw [State.with_lgy_eq]
    | with_reducible apply ite_moves
    | (extract_lets +onlyGivenNames x; apply Moves.cut (m := 4398046642176) (z := z) x; (case' h => unfold x); (case' k => (clear_value x; intro _)))
    | (extract_lets +onlyGivenNames x; clear_value x)
    | split
    | (rename_i hq; split at hq)
    | (rename_i hq; obtain ⟨_, rfl⟩ := Prod.mk.inj hq)

/-- May change: lgy, registers of block 15. -/
theorem execSynclost_goes (z : State) : Goes 4398046642176 z (execSynclost z) := by
  unfold execSynclost
  repeat'
    first
    | with_reducible apply Moves.refl
    | with_reducible assumption
    | intro _
    | with_reducible apply goOn_goes
    | with_reducible apply ite_goes
    | ((with_reducible apply Moves.by (State.lgyFlag_moves _ _)); case hs => exact rfl)
    | ((with_reducible apply Moves.by (State.with_lgy_moves _ _)); case hs => exact rfl)
    | rw [State.with_lgy_eq]
    | with_reducible apply ite_moves
    | (extract_lets +onlyGivenNames x; apply Moves.cut (m := 4398046642176) (z := z) x; (case' h => unfold x); (case' k => (clear_value x; intro _)))
    | (extract_lets +onlyGivenNames x; clear_value x)
    | split
    | (rename_i hq; split at hq)
    | (rename_i hq; obtain ⟨_, rfl⟩ := Prod.mk.inj hq)

/-- May change: radio, slot, lgy, registers of block 2 15. -/
theorem execLegacyAckWindowClose_goes (z : State) : Goes 4398583513280 z (execLegacyAckWindowClose z) := by
  unfold execLegacyAckWindowClose
  repeat'
    first
    | with_reducible apply Moves.refl
    | with_reducible assumption
    | intro _
    | with_reducible apply goOn_goes
    | with_reducible apply ite_goes
    | ((with_reducible apply Moves.by (State.dropAckWindow_moves _ _)); case hs => exact rfl)
    | ((with_reducible apply Moves.by (State.lgyDrop_moves _)); case hs => exact rfl)
    | ((with_reducible apply Moves.by (State.lgyFlag_moves _ _)); case hs => exact rfl)
    | ((with_reducible apply Moves.by (State.removeTx_moves _ _)); case hs => exact rfl)
    | ((with_reducible apply Moves.by (State.with_lgy_moves _ _)); case hs => exact rfl)
    | rw [State.with_lgy_eq]
    | with_reducible apply ite_moves
    | with_reducible apply foldl_moves
    | (extract_lets +onlyGivenNames x; apply Moves.cut (m := 4398583513280) (z := z) x; (case' h => unfold x); (case' k => (clear_value x; intro _)))
    | (extract_lets +onlyGivenNames x; clear_value x)
    | split
    | (rename_i hq; split at hq)
    | (rename_i hq; obtain ⟨_, rfl⟩ := Prod.mk.inj hq)

/-- May change: slot, lgy, registers of block 15. -/
theorem execTxUnderrun_goes (z : State) : Goes 4398046642304 z (execTxUnderrun z) := by
  unfold execTxUnderrun
  repeat'
    first
    | with_reducible apply Moves.refl
    | with_reducible assumption
    | intro _
    | with_reducible apply goOn_goes
    | with_reducible apply ite_goes
    | ((with_reducible apply Moves.by (State.lgyDrop_moves _)); case hs => exact rfl)
    | ((with_reducible apply Moves.by (State.lgyFlag_moves _ _)); case hs => exact rfl)
    | ((with_reducible apply Moves.by (State.setTx_moves _ _)); case hs => exact rfl)
    | with_reducible apply ite_moves
    | (extract_lets +onlyGivenNames x; apply Moves.cut (m := 4398046642304) (z := z) x; (case' h => unfold x); (case' k => (clear_value x; intro _)))
    | (extract_lets +onlyGivenNames x; clear_value x)
    | split
    | (rename_i hq; split at hq)
    | (rename_i hq; obtain ⟨_, rfl⟩ := Prod.mk.inj hq)

/-- May change: registers of block 1 15. -/
theorem execTemphi_goes (temp : Int) (z : State) : Goes 4398314946560 z (execTemphi temp z) := by
  unfold execTemphi
  repeat'
    first
    | with_reducible apply Moves.refl
    | with_reducible assumption
    | intro _
    | with_reducible apply goOn_goes
    | with_reducible apply ite_goes
    | ((with_reducible apply Moves.by (State.lgyFlag_moves _ _)); case hs => exact rfl)
    | ((with_reducible apply Moves.put); (case hf => (with_reducible apply RFC_TEMP_TEMP_block)); case hm => exact rfl)
    | with_reducible apply ite_moves
    | (extract_lets +onlyGivenNames x; apply Moves.cut (m := 4398314946560) (z := z) x; (case' h => unfold x); (case' k => (clear_value x; intro _)))
    | (extract_lets +onlyGivenNames x; clear_value x)
    | split
    | (rename_i hq; split at hq)
    | (rename_i hq; obtain ⟨_, rfl⟩ := Prod.mk.inj hq)

end Sys2Proof.Machine
end

