-- ==== Sys2Proof/Laws/FlashOps.lean ====
section
/-! SUPPORT. What the operations of Machine/FlashOps.lean may change. -/
set_option linter.all false
namespace Sys2Proof.Machine

set_option linter.tactic.unusedName false

theorem ecnt_block (k b : Nat) : (ecnt k b).inBlock 13 := FLC_ECNT_COUNT_block _

theorem jnlFree_block (k : Nat) : (jnlFree k).inBlock 13 := by unfold jnlFree; split <;> rfl

theorem jnlHalf_block (k : Nat) : (jnlHalf k).inBlock 13 := by unfold jnlHalf; split <;> rfl

/-- The state in a result. -/
def FlashLoad.state : FlashLoad → State
  | .data _ s => s
  | .poison s => s
  | .busError s => s
  | .stall s => s

theorem FlashLoad.data_moves {m : Nat} {r s : State} {a0 : List Byte} (h : Moves m r s) : Moves m r (FlashLoad.data a0 s).state := h

theorem FlashLoad.poison_moves {m : Nat} {r s : State} (h : Moves m r s) : Moves m r (FlashLoad.poison s).state := h

theorem FlashLoad.busError_moves {m : Nat} {r s : State} (h : Moves m r s) : Moves m r (FlashLoad.busError s).state := h

theorem FlashLoad.stall_moves {m : Nat} {r s : State} (h : Moves m r s) : Moves m r (FlashLoad.stall s).state := h

/-- The state in a result. -/
def StoreResult.state : StoreResult → State
  | .done s => s
  | .stall s => s
  | .busError s => s

theorem StoreResult.done_moves {m : Nat} {r s : State} (h : Moves m r s) : Moves m r (StoreResult.done s).state := h

theorem StoreResult.stall_moves {m : Nat} {r s : State} (h : Moves m r s) : Moves m r (StoreResult.stall s).state := h

theorem StoreResult.busError_moves {m : Nat} {r s : State} (h : Moves m r s) : Moves m r (StoreResult.busError s).state := h

/-- May change: registers of block 13. -/
theorem State.setSuspect_moves (z : State) (k : Nat) (b : Nat) (v : Bool) : Moves 1099511627776 z (State.setSuspect z k b v) := by
  unfold State.setSuspect
  dsimp only
  repeat'
    first
    | with_reducible apply Moves.refl
    | with_reducible assumption
    | intro _
    | ((with_reducible apply Moves.put); (case hf => (with_reducible first | apply FLC_SUSP_H_SUSPECT_block | apply FLC_SUSP_L_SUSPECT_block)); case hm => exact rfl)
    | with_reducible apply ite_moves
    | (extract_lets +onlyGivenNames x; apply Moves.cut (m := 1099511627776) (z := z) x; (case' h => unfold x); (case' k => (clear_value x; intro _)))
    | (extract_lets +onlyGivenNames x; clear_value x)
    | split
    | (rename_i hq; split at hq)
    | (rename_i hq; obtain ⟨_, rfl⟩ := Prod.mk.inj hq)

/-- May change: mem, flash, registers of block 13. -/
theorem State.jnlAppend_moves (z : State) (k : Nat) (type : Nat) (block : Nat) (count : Nat) : Moves 1099511644164 z (State.jnlAppend z k type block count) := by
  unfold State.jnlAppend
  repeat'
    first
    | with_reducible apply Moves.refl
    | with_reducible assumption
    | intro _
    | ((with_reducible apply Moves.by (State.setBank_moves _ _ _)); case hs => exact rfl)
    | ((with_reducible apply Moves.by (State.setBytes_moves _ _ _)); case hs => exact rfl)
    | ((with_reducible apply Moves.put); (case hf => (with_reducible first | apply jnlHalf_block | apply jnlFree_block | apply FLC_JNL_FREE_A_block | apply FLC_JNL_FREE_B_block)); case hm => exact rfl)
    | with_reducible apply ite_moves
    | (extract_lets +onlyGivenNames x; apply Moves.cut (m := 1099511644164) (z := z) x; (case' h => unfold x); (case' k => (clear_value x; intro _)))
    | (extract_lets +onlyGivenNames x; clear_value x)
    | split
    | (rename_i hq; split at hq)
    | (rename_i hq; obtain ⟨_, rfl⟩ := Prod.mk.inj hq)

/-- May change: mem, flash, registers of block 13. -/
theorem State.jnlSnapshot_moves (z : State) (k : Nat) (h : Nat) : Moves 1099511644164 z (State.jnlSnapshot z k h) := by
  unfold State.jnlSnapshot
  repeat'
    first
    | with_reducible apply Moves.refl
    | with_reducible assumption
    | intro _
    | ((with_reducible apply Moves.by (State.setBank_moves _ _ _)); case hs => exact rfl)
    | ((with_reducible apply Moves.by (State.setBytes_moves _ _ _)); case hs => exact rfl)
    | ((with_reducible apply Moves.put); (case hf => (with_reducible first | apply ecnt_block | apply jnlHalf_block | apply jnlFree_block | apply FLC_JNL_FREE_A_block | apply FLC_JNL_FREE_B_block | apply FLC_JNL_HALF_A_block | apply FLC_JNL_HALF_B_block)); case hm => exact rfl)
    | with_reducible apply ite_moves
    | (extract_lets +onlyGivenNames x; apply Moves.cut (m := 1099511644164) (z := z) x; (case' h => unfold x); (case' k => (clear_value x; intro _)))
    | (extract_lets +onlyGivenNames x; clear_value x)
    | split
    | (rename_i hq; split at hq)
    | (rename_i hq; obtain ⟨_, rfl⟩ := Prod.mk.inj hq)

/-- May change: mem. -/
theorem State.jnlErase_moves (z : State) (k : Nat) (h : Nat) : Moves 4 z (State.jnlErase z k h) := by
  unfold State.jnlErase
  repeat'
    first
    | with_reducible apply Moves.refl
    | with_reducible assumption
    | intro _
    | ((with_reducible apply Moves.by (State.zeroBytes_moves _ _ _)); case hs => exact rfl)
    | with_reducible apply ite_moves
    | (extract_lets +onlyGivenNames x; apply Moves.cut (m := 4) (z := z) x; (case' h => unfold x); (case' k => (clear_value x; intro _)))
    | (extract_lets +onlyGivenNames x; clear_value x)
    | split
    | (rename_i hq; split at hq)
    | (rename_i hq; obtain ⟨_, rfl⟩ := Prod.mk.inj hq)

/-- May change: flash. -/
theorem State.mergeTrigger_moves (z : State) (p : MergeEntry → Bool) : Moves 16384 z (State.mergeTrigger z p) := by
  unfold State.mergeTrigger
  repeat'
    first
    | with_reducible apply Moves.refl
    | with_reducible assumption
    | intro _
    | ((with_reducible apply Moves.by (State.setFlash_moves _ _)); case hs => exact rfl)
    | with_reducible apply ite_moves
    | (extract_lets +onlyGivenNames x; apply Moves.cut (m := 16384) (z := z) x; (case' h => unfold x); (case' k => (clear_value x; intro _)))
    | (extract_lets +onlyGivenNames x; clear_value x)
    | split
    | (rename_i hq; split at hq)
    | (rename_i hq; obtain ⟨_, rfl⟩ := Prod.mk.inj hq)

/-- May change: flash. -/
theorem State.mergePump_moves (z : State) : Moves 16384 z (State.mergePump z) := by
  unfold State.mergePump
  repeat'
    first
    | with_reducible apply Moves.refl
    | with_reducible assumption
    | intro _
    | ((with_reducible apply Moves.by (State.setFlash_moves _ _)); case hs => exact rfl)
    | with_reducible apply ite_moves
    | (extract_lets +onlyGivenNames x; apply Moves.cut (m := 16384) (z := z) x; (case' h => unfold x); (case' k => (clear_value x; intro _)))
    | (extract_lets +onlyGivenNames x; clear_value x)
    | split
    | (rename_i hq; split at hq)
    | (rename_i hq; obtain ⟨_, rfl⟩ := Prod.mk.inj hq)

/-- May change: faults, power, evr, flash, core0, core1, registers of block 0 11 18. -/
theorem State.mergeStore_moves (z : State) (a : Nat) (bs : List Byte) (rom : Bool) : Moves 35459384332336 z (State.mergeStore z a bs rom).state := by
  unfold State.mergeStore
  repeat'
    first
    | with_reducible apply Moves.refl
    | with_reducible assumption
    | intro _
    | with_reducible apply StoreResult.done_moves
    | with_reducible apply StoreResult.stall_moves
    | with_reducible apply StoreResult.busError_moves
    | ((with_reducible apply Moves.by (State.busInfo_moves _ _)); case hs => exact rfl)
    | ((with_reducible apply Moves.by (State.mergePump_moves _)); case hs => exact rfl)
    | ((with_reducible apply Moves.by (State.mergeTrigger_moves _ _)); case hs => exact rfl)
    | ((with_reducible apply Moves.by (State.setFlash_moves _ _)); case hs => exact rfl)
    | with_reducible apply ite_moves
    | with_reducible apply foldl_moves
    | (extract_lets +onlyGivenNames x; apply Moves.cut (m := 35459384332336) (z := z) x; (case' h => unfold x); (case' k => (clear_value x; intro _)))
    | (extract_lets +onlyGivenNames x; clear_value x)
    | split
    | (rename_i hq; split at hq)
    | (rename_i hq; obtain ⟨_, rfl⟩ := Prod.mk.inj hq)

theorem State.mergeStore_done_pair {z : State} {a : Nat} {bs : List Byte} {rom : Bool} {u0 : State} {m0 : Nat} {r0 : State} (hp : State.mergeStore z a bs rom = .done u0) (hs : sub 35459384332336 m0 = true) (h : Moves m0 r0 z) : Moves m0 r0 u0 := by
  have g := State.mergeStore_moves z a bs rom
  rw [hp] at g
  exact h.step g hs

theorem State.mergeStore_stall_pair {z : State} {a : Nat} {bs : List Byte} {rom : Bool} {u0 : State} {m0 : Nat} {r0 : State} (hp : State.mergeStore z a bs rom = .stall u0) (hs : sub 35459384332336 m0 = true) (h : Moves m0 r0 z) : Moves m0 r0 u0 := by
  have g := State.mergeStore_moves z a bs rom
  rw [hp] at g
  exact h.step g hs

theorem State.mergeStore_busError_pair {z : State} {a : Nat} {bs : List Byte} {rom : Bool} {u0 : State} {m0 : Nat} {r0 : State} (hp : State.mergeStore z a bs rom = .busError u0) (hs : sub 35459384332336 m0 = true) (h : Moves m0 r0 z) : Moves m0 r0 u0 := by
  have g := State.mergeStore_moves z a bs rom
  rw [hp] at g
  exact h.step g hs

/-- May change: flash, registers of block 13. -/
theorem State.startOp_moves (z : State) (k : Nat) (op : Nat) (block : Nat) : Moves 1099511644160 z (State.startOp z k op block) := by
  unfold State.startOp
  repeat'
    first
    | with_reducible apply Moves.refl
    | with_reducible assumption
    | intro _
    | ((with_reducible apply Moves.by (State.setBank_moves _ _ _)); case hs => exact rfl)
    | ((with_reducible apply Moves.put); (case hf => (with_reducible first | apply FLC_BANK_STAT_BLOCK_block | apply FLC_BANK_STAT_OP_block | apply FLC_BANK_STAT_PULSES_block | apply FLC_BANK_STAT_STARVED_block | apply FLC_BANK_STAT_STATE_block | apply FLC_BANK_STAT_SUSPENDS_block)); case hm => exact rfl)
    | with_reducible apply ite_moves
    | (extract_lets +onlyGivenNames x; apply Moves.cut (m := 1099511644160) (z := z) x; (case' h => unfold x); (case' k => (clear_value x; intro _)))
    | (extract_lets +onlyGivenNames x; clear_value x)
    | split
    | (rename_i hq; split at hq)
    | (rename_i hq; obtain ⟨_, rfl⟩ := Prod.mk.inj hq)

/-- May change: registers of block 13. -/
theorem State.endOp_moves (z : State) (k : Nat) : Moves 1099511627776 z (State.endOp z k) := by
  unfold State.endOp
  repeat'
    first
    | with_reducible apply Moves.refl
    | with_reducible assumption
    | intro _
    | ((with_reducible apply Moves.put); (case hf => (with_reducible first | apply FLC_BANK_STAT_BLOCK_block | apply FLC_BANK_STAT_OP_block | apply FLC_BANK_STAT_STATE_block)); case hm => exact rfl)
    | with_reducible apply ite_moves
    | (extract_lets +onlyGivenNames x; apply Moves.cut (m := 1099511627776) (z := z) x; (case' h => unfold x); (case' k => (clear_value x; intro _)))
    | (extract_lets +onlyGivenNames x; clear_value x)
    | split
    | (rename_i hq; split at hq)
    | (rename_i hq; obtain ⟨_, rfl⟩ := Prod.mk.inj hq)

/-- May change: registers of block 12. -/
theorem State.takeFlips_moves (z : State) : Moves 549755813888 z (State.takeFlips z).2 := by
  unfold State.takeFlips
  repeat'
    first
    | with_reducible apply Moves.refl
    | with_reducible assumption
    | intro _
    | ((with_reducible apply Moves.flag); (case hf => (with_reducible first | apply MEM_FLIPCFG_ARM_block | apply MEM_FLIPCFG_USED_block)); case hm => exact rfl)
    | with_reducible apply ite_moves
    | with_reducible apply ite_snd_moves
    | (extract_lets +onlyGivenNames x; apply Moves.cut (m := 549755813888) (z := z) x; (case' h => unfold x); (case' k => (clear_value x; intro _)))
    | (extract_lets +onlyGivenNames x; clear_value x)
    | split
    | (rename_i hq; split at hq)
    | (rename_i hq; obtain ⟨_, rfl⟩ := Prod.mk.inj hq)

theorem State.takeFlips_pair {z : State} {b1 : List Nat} {u0 : State} {m0 : Nat} {r0 : State} (hp : State.takeFlips z = (b1, u0)) (hs : sub 549755813888 m0 = true) (h : Moves m0 r0 z) : Moves m0 r0 u0 := by
  have g := State.takeFlips_moves z
  rw [hp] at g
  exact h.step g hs

/-- May change: flash. -/
theorem State.setRun_moves (z : State) (k : Nat) (r : Option FlashRun) : Moves 16384 z (State.setRun z k r) := by
  unfold State.setRun
  repeat'
    first
    | with_reducible apply Moves.refl
    | with_reducible assumption
    | intro _
    | ((with_reducible apply Moves.by (State.setBank_moves _ _ _)); case hs => exact rfl)
    | with_reducible apply ite_moves
    | (extract_lets +onlyGivenNames x; apply Moves.cut (m := 16384) (z := z) x; (case' h => unfold x); (case' k => (clear_value x; intro _)))
    | (extract_lets +onlyGivenNames x; clear_value x)
    | split
    | (rename_i hq; split at hq)
    | (rename_i hq; obtain ⟨_, rfl⟩ := Prod.mk.inj hq)

/-- May change: flash, registers of block 12 13. -/
theorem State.startProgram_moves (z : State) (k : Nat) (r : FlashRun) : Moves 1649267458048 z (State.startProgram z k r) := by
  unfold State.startProgram
  repeat'
    first
    | with_reducible apply Moves.refl
    | with_reducible assumption
    | intro _
    | ((with_reducible apply Moves.by (State.takeFlips_moves _)); case hs => exact rfl)
    | ((with_reducible apply State.takeFlips_pair); (case hp => assumption); case hs => exact rfl)
    | ((with_reducible apply Moves.by (State.startOp_moves _ _ _ _)); case hs => exact rfl)
    | ((with_reducible apply Moves.by (State.setRun_moves _ _ _)); case hs => exact rfl)
    | with_reducible apply ite_moves
    | (extract_lets +onlyGivenNames x; apply Moves.cut (m := 1649267458048) (z := z) x; (case' h => unfold x); (case' k => (clear_value x; intro _)))
    | (extract_lets +onlyGivenNames x; clear_value x)
    | split
    | (rename_i hq; split at hq)
    | (rename_i hq; obtain ⟨_, rfl⟩ := Prod.mk.inj hq)

/-- May change: mem, flash, registers of block 13. -/
theorem State.startErase_moves (z : State) (k : Nat) (r : FlashRun) : Moves 1099511644164 z (State.startErase z k r) := by
  unfold State.startErase
  repeat'
    first
    | with_reducible apply Moves.refl
    | with_reducible assumption
    | intro _
    | ((with_reducible apply Moves.by (State.startOp_moves _ _ _ _)); case hs => exact rfl)
    | ((with_reducible apply Moves.by (State.setRun_moves _ _ _)); case hs => exact rfl)
    | ((with_reducible apply Moves.by (State.jnlAppend_moves _ _ _ _ _)); case hs => exact rfl)
    | ((with_reducible apply Moves.put); (case hf => (with_reducible first | apply ecnt_block | apply FLC_ECNT_COUNT_block)); case hm => exact rfl)
    | with_reducible apply ite_moves
    | (extract_lets +onlyGivenNames x; apply Moves.cut (m := 1099511644164) (z := z) x; (case' h => unfold x); (case' k => (clear_value x; intro _)))
    | (extract_lets +onlyGivenNames x; clear_value x)
    | split
    | (rename_i hq; split at hq)
    | (rename_i hq; obtain ⟨_, rfl⟩ := Prod.mk.inj hq)

/-- May change: mem, faults, power, evr, flash, core0, core1, registers of block 0 11 12 13 18. -/
theorem State.beginDesc_moves (z : State) (k : Nat) (r : FlashRun) : Moves 37108651774004 z (State.beginDesc z k r) := by
  unfold State.beginDesc
  repeat'
    first
    | with_reducible apply Moves.refl
    | with_reducible assumption
    | intro _
    | ((with_reducible apply Moves.by (State.reportDecode_moves _ _ _)); case hs => exact rfl)
    | ((with_reducible apply Moves.by (State.startErase_moves _ _ _)); case hs => exact rfl)
    | ((with_reducible apply Moves.by (State.startOp_moves _ _ _ _)); case hs => exact rfl)
    | ((with_reducible apply Moves.by (State.setRun_moves _ _ _)); case hs => exact rfl)
    | ((with_reducible apply Moves.by (State.startProgram_moves _ _ _)); case hs => exact rfl)
    | with_reducible apply ite_moves
    | (extract_lets +onlyGivenNames x; apply Moves.cut (m := 37108651774004) (z := z) x; (case' h => unfold x); (case' k => (clear_value x; intro _)))
    | (extract_lets +onlyGivenNames x; clear_value x)
    | split
    | (rename_i hq; split at hq)
    | (rename_i hq; obtain ⟨_, rfl⟩ := Prod.mk.inj hq)

/-- May change: mem, faults, power, evr, flash, core0, core1, registers of block 0 11 12 13 18. -/
theorem State.kickBank_moves (z : State) (k : Nat) : Moves 37108651774004 z (State.kickBank z k) := by
  unfold State.kickBank
  repeat'
    first
    | with_reducible apply Moves.refl
    | with_reducible assumption
    | intro _
    | ((with_reducible apply Moves.by (State.setBank_moves _ _ _)); case hs => exact rfl)
    | ((with_reducible apply Moves.by (State.beginDesc_moves _ _ _)); case hs => exact rfl)
    | ((with_reducible apply Moves.by (State.mergeTrigger_moves _ _)); case hs => exact rfl)
    | ((with_reducible apply Moves.by (State.setRun_moves _ _ _)); case hs => exact rfl)
    | ((with_reducible apply Moves.by (State.setFlash_moves _ _)); case hs => exact rfl)
    | with_reducible apply ite_moves
    | with_reducible apply foldl_moves
    | (extract_lets +onlyGivenNames x; apply Moves.cut (m := 37108651774004) (z := z) x; (case' h => unfold x); (case' k => (clear_value x; intro _)))
    | (extract_lets +onlyGivenNames x; clear_value x)
    | split
    | (rename_i hq; split at hq)
    | (rename_i hq; obtain ⟨_, rfl⟩ := Prod.mk.inj hq)

/-- May change: flash. -/
theorem State.kickMerge_moves (z : State) : Moves 16384 z (State.kickMerge z) := by
  unfold State.kickMerge
  repeat'
    first
    | with_reducible apply Moves.refl
    | with_reducible assumption
    | intro _
    | ((with_reducible apply Moves.by (State.mergeTrigger_moves _ _)); case hs => exact rfl)
    | ((with_reducible apply Moves.by (State.setFlash_moves _ _)); case hs => exact rfl)
    | with_reducible apply ite_moves
    | (extract_lets +onlyGivenNames x; apply Moves.cut (m := 16384) (z := z) x; (case' h => unfold x); (case' k => (clear_value x; intro _)))
    | (extract_lets +onlyGivenNames x; clear_value x)
    | split
    | (rename_i hq; split at hq)
    | (rename_i hq; obtain ⟨_, rfl⟩ := Prod.mk.inj hq)

/-- May change: mem, faults, power, evr, flash, core0, core1, registers of block 0 11 12 13 18. -/
theorem State.kick_moves (z : State) : Moves 37108651774004 z (State.kick z) := by
  unfold State.kick
  repeat'
    first
    | with_reducible apply Moves.refl
    | with_reducible assumption
    | intro _
    | ((with_reducible apply Moves.by (State.mergePump_moves _)); case hs => exact rfl)
    | ((with_reducible apply Moves.by (State.kickMerge_moves _)); case hs => exact rfl)
    | ((with_reducible apply Moves.by (State.kickBank_moves _ _)); case hs => exact rfl)
    | with_reducible apply ite_moves
    | (extract_lets +onlyGivenNames x; apply Moves.cut (m := 37108651774004) (z := z) x; (case' h => unfold x); (case' k => (clear_value x; intro _)))
    | (extract_lets +onlyGivenNames x; clear_value x)
    | split
    | (rename_i hq; split at hq)
    | (rename_i hq; obtain ⟨_, rfl⟩ := Prod.mk.inj hq)

/-- May change: flash, registers of block 13. -/
theorem State.suspendOp_moves (z : State) (k : Nat) (st : Nat) : Moves 1099511644160 z (State.suspendOp z k st) := by
  unfold State.suspendOp
  repeat'
    first
    | with_reducible apply Moves.refl
    | with_reducible assumption
    | intro _
    | ((with_reducible apply Moves.by (State.setBank_moves _ _ _)); case hs => exact rfl)
    | ((with_reducible apply Moves.put); (case hf => (with_reducible first | apply FLC_BANK_STAT_STATE_block | apply FLC_BANK_STAT_SUSPENDS_block)); case hm => exact rfl)
    | ((with_reducible apply Moves.bump); (case hf => (with_reducible first | apply FLC_BANK_STAT_STATE_block | apply FLC_BANK_STAT_SUSPENDS_block)); case hm => exact rfl)
    | with_reducible apply ite_moves
    | (extract_lets +onlyGivenNames x; apply Moves.cut (m := 1099511644160) (z := z) x; (case' h => unfold x); (case' k => (clear_value x; intro _)))
    | (extract_lets +onlyGivenNames x; clear_value x)
    | split
    | (rename_i hq; split at hq)
    | (rename_i hq; obtain ⟨_, rfl⟩ := Prod.mk.inj hq)

/-- May change: power, evr, flash, core0, core1, registers of block 0 11. -/
theorem State.flashRecord_moves (z : State) (r : FlashRun) (st : Nat) (susp : Nat) : Moves 275012243488 z (State.flashRecord z r st susp) := by
  unfold State.flashRecord
  repeat'
    first
    | with_reducible apply Moves.refl
    | with_reducible assumption
    | intro _
    | ((with_reducible apply Moves.by (State.raiseIf_moves _ _ _)); case hs => exact rfl)
    | ((with_reducible apply Moves.by (State.raise_moves _ _)); case hs => exact rfl)
    | ((with_reducible apply Moves.by (State.setFlash_moves _ _)); case hs => exact rfl)
    | with_reducible apply ite_moves
    | (extract_lets +onlyGivenNames x; apply Moves.cut (m := 275012243488) (z := z) x; (case' h => unfold x); (case' k => (clear_value x; intro _)))
    | (extract_lets +onlyGivenNames x; clear_value x)
    | split
    | (rename_i hq; split at hq)
    | (rename_i hq; obtain ⟨_, rfl⟩ := Prod.mk.inj hq)

/-- May change: power, evr, flash, core0, core1, registers of block 0 11 13. -/
theorem State.suspendDesc_moves (z : State) (d : FlashDesc) : Moves 1374523871264 z (State.suspendDesc z d) := by
  unfold State.suspendDesc
  repeat'
    first
    | with_reducible apply Moves.refl
    | with_reducible assumption
    | intro _
    | ((with_reducible apply Moves.by (State.flashRecord_moves _ _ _ _)); case hs => exact rfl)
    | ((with_reducible apply Moves.by (State.suspendOp_moves _ _ _)); case hs => exact rfl)
    | ((with_reducible apply Moves.put); (case hf => (with_reducible apply FLC_BANK_STAT_STATE_block)); case hm => exact rfl)
    | with_reducible apply ite_moves
    | (extract_lets +onlyGivenNames x; apply Moves.cut (m := 1374523871264) (z := z) x; (case' h => unfold x); (case' k => (clear_value x; intro _)))
    | (extract_lets +onlyGivenNames x; clear_value x)
    | split
    | (rename_i hq; split at hq)
    | (rename_i hq; obtain ⟨_, rfl⟩ := Prod.mk.inj hq)

/-- May change: mem, faults, power, evr, flash, core0, core1, registers of block 0 11 12 13 18. -/
theorem State.flashPush_moves (z : State) (d : FlashDesc) : Moves 37108651774004 z (State.flashPush z d) := by
  unfold State.flashPush
  repeat'
    first
    | with_reducible apply Moves.refl
    | with_reducible assumption
    | intro _
    | ((with_reducible apply Moves.by (State.kick_moves _)); case hs => exact rfl)
    | ((with_reducible apply Moves.by (State.suspendDesc_moves _ _)); case hs => exact rfl)
    | ((with_reducible apply Moves.by (State.setFlash_moves _ _)); case hs => exact rfl)
    | ((with_reducible apply Moves.flag); (case hf => (with_reducible apply FLC_STATUS_PUSH_REJ_block)); case hm => exact rfl)
    | with_reducible apply ite_moves
    | (extract_lets +onlyGivenNames x; apply Moves.cut (m := 37108651774004) (z := z) x; (case' h => unfold x); (case' k => (clear_value x; intro _)))
    | (extract_lets +onlyGivenNames x; clear_value x)
    | split
    | (rename_i hq; split at hq)
    | (rename_i hq; obtain ⟨_, rfl⟩ := Prod.mk.inj hq)

/-- May change: mem, faults, power, evr, flash, core0, core1, registers of block 0 11 12 13 18. -/
theorem State.flashSubmit_moves (z : State) (d : FlashDesc) (rom : Bool) : Moves 37108651774004 z (State.flashSubmit z d rom) := by
  unfold State.flashSubmit
  repeat'
    first
    | with_reducible apply Moves.refl
    | with_reducible assumption
    | intro _
    | ((with_reducible apply Moves.by (State.busInfo_moves _ _)); case hs => exact rfl)
    | ((with_reducible apply Moves.by (State.flashPush_moves _ _)); case hs => exact rfl)
    | with_reducible apply ite_moves
    | (extract_lets +onlyGivenNames x; apply Moves.cut (m := 37108651774004) (z := z) x; (case' h => unfold x); (case' k => (clear_value x; intro _)))
    | (extract_lets +onlyGivenNames x; clear_value x)
    | split
    | (rename_i hq; split at hq)
    | (rename_i hq; obtain ⟨_, rfl⟩ := Prod.mk.inj hq)

/-- May change: flash. -/
theorem State.dropBufs_moves (z : State) (k : Nat) (hit : Nat → Bool) : Moves 16384 z (State.dropBufs z k hit) := by
  unfold State.dropBufs
  repeat'
    first
    | with_reducible apply Moves.refl
    | with_reducible assumption
    | intro _
    | ((with_reducible apply Moves.by (State.setBank_moves _ _ _)); case hs => exact rfl)
    | with_reducible apply ite_moves
    | (extract_lets +onlyGivenNames x; apply Moves.cut (m := 16384) (z := z) x; (case' h => unfold x); (case' k => (clear_value x; intro _)))
    | (extract_lets +onlyGivenNames x; clear_value x)
    | split
    | (rename_i hq; split at hq)
    | (rename_i hq; obtain ⟨_, rfl⟩ := Prod.mk.inj hq)

/-- May change: mem, poison, faults, power, evr, core0, core1, registers of block 0 11 18. -/
theorem State.bufWrite_moves (z : State) (a : Nat) (bs : List Byte) : Moves 35459384315964 z (State.bufWrite z a bs) := by
  unfold State.bufWrite
  repeat'
    first
    | with_reducible apply Moves.refl
    | with_reducible assumption
    | intro _
    | ((with_reducible apply Moves.by (State.busInfo_moves _ _)); case hs => exact rfl)
    | ((with_reducible apply Moves.by (State.devWrite_moves _ _ _)); case hs => exact rfl)
    | with_reducible apply ite_moves
    | (extract_lets +onlyGivenNames x; apply Moves.cut (m := 35459384315964) (z := z) x; (case' h => unfold x); (case' k => (clear_value x; intro _)))
    | (extract_lets +onlyGivenNames x; clear_value x)
    | split
    | (rename_i hq; split at hq)
    | (rename_i hq; obtain ⟨_, rfl⟩ := Prod.mk.inj hq)

/-- May change: free. -/
theorem State.halfPage_moves (z : State) (old : List Byte) (raw : List Byte) : Moves 16777216 z (State.halfPage z old raw).2 := by
  unfold State.halfPage
  repeat'
    first
    | with_reducible apply Moves.refl
    | with_reducible assumption
    | intro _
    | ((with_reducible apply Moves.by (State.with_free_moves _ _)); case hs => exact rfl)
    | rw [State.with_free_eq]
    | with_reducible apply ite_moves
    | with_reducible apply ite_snd_moves
    | (extract_lets +onlyGivenNames x; apply Moves.cut (m := 16777216) (z := z) x; (case' h => unfold x); (case' k => (clear_value x; intro _)))
    | (extract_lets +onlyGivenNames x; clear_value x)
    | split
    | (rename_i hq; split at hq)
    | (rename_i hq; obtain ⟨_, rfl⟩ := Prod.mk.inj hq)

theorem State.halfPage_pair {z : State} {old : List Byte} {raw : List Byte} {b1 : List Byte} {u0 : State} {m0 : Nat} {r0 : State} (hp : State.halfPage z old raw = (b1, u0)) (hs : sub 16777216 m0 = true) (h : Moves m0 r0 z) : Moves m0 r0 u0 := by
  have g := State.halfPage_moves z old raw
  rw [hp] at g
  exact h.step g hs

/-- May change: power, evr, flash, core0, core1, registers of block 0 11 12. -/
theorem State.mergeEnd_moves (z : State) (page : Nat) (failed : Bool) : Moves 824768057376 z (State.mergeEnd z page failed) := by
  unfold State.mergeEnd
  repeat'
    first
    | with_reducible apply Moves.refl
    | with_reducible assumption
    | intro _
    | ((with_reducible apply Moves.by (State.raiseIf_moves _ _ _)); case hs => exact rfl)
    | ((with_reducible apply Moves.by (State.setFlash_moves _ _)); case hs => exact rfl)
    | ((with_reducible apply Moves.flag); (case hf => (with_reducible apply MEM_MERGE_LAST_FAIL_block)); case hm => exact rfl)
    | with_reducible apply ite_moves
    | (extract_lets +onlyGivenNames x; apply Moves.cut (m := 824768057376) (z := z) x; (case' h => unfold x); (case' k => (clear_value x; intro _)))
    | (extract_lets +onlyGivenNames x; clear_value x)
    | split
    | (rename_i hq; split at hq)
    | (rename_i hq; obtain ⟨_, rfl⟩ := Prod.mk.inj hq)

/-- May change: mem, poison, faults, power, evr, flash, core0, core1, free, registers of block 0 11 12 13 18. -/
theorem State.finishRun_moves (z : State) (k : Nat) (r : FlashRun) (st : Nat) : Moves 37108668551228 z (State.finishRun z k r st) := by
  unfold State.finishRun
  repeat'
    first
    | with_reducible apply Moves.refl
    | with_reducible assumption
    | intro _
    | ((with_reducible apply Moves.by (State.halfPage_moves _ _ _)); case hs => exact rfl)
    | ((with_reducible apply State.halfPage_pair); (case hp => assumption); case hs => exact rfl)
    | ((with_reducible apply Moves.by (State.dropBufs_moves _ _ _)); case hs => exact rfl)
    | ((with_reducible apply Moves.by (State.mergeEnd_moves _ _ _)); case hs => exact rfl)
    | ((with_reducible apply Moves.by (State.bufWrite_moves _ _ _)); case hs => exact rfl)
    | ((with_reducible apply Moves.by (State.setPageRaw_moves _ _ _)); case hs => exact rfl)
    | ((with_reducible apply Moves.by (State.endOp_moves _ _)); case hs => exact rfl)
    | ((with_reducible apply Moves.by (State.zeroBytes_moves _ _ _)); case hs => exact rfl)
    | ((with_reducible apply Moves.by (State.setSuspect_moves _ _ _ _)); case hs => exact rfl)
    | ((with_reducible apply Moves.by (State.setFlash_moves _ _)); case hs => exact rfl)
    | ((with_reducible apply Moves.by (State.jnlAppend_moves _ _ _ _ _)); case hs => exact rfl)
    | with_reducible apply ite_moves
    | (extract_lets +onlyGivenNames x; apply Moves.cut (m := 37108668551228) (z := z) x; (case' h => unfold x); (case' k => (clear_value x; intro _)))
    | (extract_lets +onlyGivenNames x; clear_value x)
    | split
    | (rename_i hq; split at hq)
    | (rename_i hq; obtain ⟨_, rfl⟩ := Prod.mk.inj hq)

/-- May change: mem, poison, faults, power, evr, flash, core0, core1, free, registers of block 0 11 12 13 18. -/
theorem State.completeRun_moves (z : State) (k : Nat) (r : FlashRun) (st : Nat) (isSide : Bool) : Moves 37108668551228 z (State.completeRun z k r st isSide) := by
  unfold State.completeRun
  repeat'
    first
    | with_reducible apply Moves.refl
    | with_reducible assumption
    | intro _
    | ((with_reducible apply Moves.by (State.finishRun_moves _ _ _ _)); case hs => exact rfl)
    | ((with_reducible apply Moves.by (State.kick_moves _)); case hs => exact rfl)
    | ((with_reducible apply Moves.by (State.flashRecord_moves _ _ _ _)); case hs => exact rfl)
    | ((with_reducible apply Moves.by (State.setBank_moves _ _ _)); case hs => exact rfl)
    | ((with_reducible apply Moves.by (State.setRun_moves _ _ _)); case hs => exact rfl)
    | ((with_reducible apply Moves.by (State.setFlash_moves _ _)); case hs => exact rfl)
    | with_reducible apply ite_moves
    | (extract_lets +onlyGivenNames x; apply Moves.cut (m := 37108668551228) (z := z) x; (case' h => unfold x); (case' k => (clear_value x; intro _)))
    | (extract_lets +onlyGivenNames x; clear_value x)
    | split
    | (rename_i hq; split at hq)
    | (rename_i hq; obtain ⟨_, rfl⟩ := Prod.mk.inj hq)

/-- May change: faults, power, evr, flash, core0, core1, registers of block 0 11 12 18. -/
theorem State.fillBuffer_moves (z : State) (a : Nat) (p : Nat) : Moves 36009140146224 z (State.fillBuffer z a p) := by
  unfold State.fillBuffer
  repeat'
    first
    | with_reducible apply Moves.refl
    | with_reducible assumption
    | intro _
    | ((with_reducible apply Moves.by (State.reportDecode_moves _ _ _)); case hs => exact rfl)
    | ((with_reducible apply Moves.by (State.setBank_moves _ _ _)); case hs => exact rfl)
    | with_reducible apply ite_moves
    | (extract_lets +onlyGivenNames x; apply Moves.cut (m := 36009140146224) (z := z) x; (case' h => unfold x); (case' k => (clear_value x; intro _)))
    | (extract_lets +onlyGivenNames x; clear_value x)
    | split
    | (rename_i hq; split at hq)
    | (rename_i hq; obtain ⟨_, rfl⟩ := Prod.mk.inj hq)

/-- May change: faults, power, evr, flash, core0, core1, registers of block 0 11 12 13 18. -/
theorem State.pageMiss_moves (z : State) (a : Nat) : Moves 37108651774000 z ((State.pageMiss z a).getD z) := by
  unfold State.pageMiss
  repeat'
    first
    | with_reducible apply Moves.refl
    | with_reducible assumption
    | intro _
    | with_reducible apply some_moves
    | with_reducible apply none_moves
    | ((with_reducible apply Moves.by (State.suspendOp_moves _ _ _)); case hs => exact rfl)
    | ((with_reducible apply Moves.by (State.fillBuffer_moves _ _ _)); case hs => exact rfl)
    | with_reducible apply ite_moves
    | (extract_lets +onlyGivenNames x; apply Moves.cut (m := 37108651774000) (z := z) x; (case' h => unfold x); (case' k => (clear_value x; intro _)))
    | (extract_lets +onlyGivenNames x; clear_value x)
    | split
    | (rename_i hq; split at hq)
    | (rename_i hq; obtain ⟨_, rfl⟩ := Prod.mk.inj hq)

theorem State.pageMiss_pair {z : State} {a : Nat} {u0 : State} {m0 : Nat} {r0 : State} (hp : State.pageMiss z a = some u0) (hs : sub 37108651774000 m0 = true) (h : Moves m0 r0 z) : Moves m0 r0 u0 := by
  have g := State.pageMiss_moves z a
  rw [hp] at g
  exact h.step g hs

/-- May change: flash. -/
theorem State.touchBuf_moves (z : State) (p : Nat) : Moves 16384 z (State.touchBuf z p) := by
  unfold State.touchBuf
  repeat'
    first
    | with_reducible apply Moves.refl
    | with_reducible assumption
    | intro _
    | ((with_reducible apply Moves.by (State.setBank_moves _ _ _)); case hs => exact rfl)
    | with_reducible apply ite_moves
    | (extract_lets +onlyGivenNames x; apply Moves.cut (m := 16384) (z := z) x; (case' h => unfold x); (case' k => (clear_value x; intro _)))
    | (extract_lets +onlyGivenNames x; clear_value x)
    | split
    | (rename_i hq; split at hq)
    | (rename_i hq; obtain ⟨_, rfl⟩ := Prod.mk.inj hq)

/-- Changes what the answer to a miss changes. -/
theorem State.afterMiss_moves {m : Nat} {s : State} {miss : Option State} {serve : State → FlashLoad}
    (h : ∀ t, miss = some t → Moves m s (serve t).state) : Moves m s (s.afterMiss miss serve).state := by
  cases miss with
  | none => exact Moves.refl
  | some t => exact h t rfl

/-- May change: faults, power, evr, flash, core0, core1, registers of block 0 11 12 13 18. -/
theorem State.flashLoad_moves (z : State) (a n : Nat) : Moves 37108651774000 z (State.flashLoad z a n).state := by
  unfold State.flashLoad
  split
  · exact Moves.refl
  · extract_lets p k page serve
    have hs : ∀ s, Moves 37108651774000 z s → Moves 37108651774000 z (serve s).state := by
      intro s h
      unfold serve
      split
      · split
        · exact h
        · exact h.step (State.touchBuf_moves _ _) rfl
      · exact h
    clear_value serve p k page
    split
    · exact FlashLoad.busError_moves ((State.report_moves z 0 5 a 0 false).mono rfl)
    · split
      · exact FlashLoad.busError_moves ((State.report_moves z 0 5 page 0 false).mono rfl)
      · split
        · exact hs z Moves.refl
        · exact State.afterMiss_moves (fun t ht => hs t (State.pageMiss_pair ht rfl Moves.refl))

theorem State.flashLoad_data_pair {z : State} {a n : Nat} {b0 : List Byte} {u0 : State} {m0 : Nat} {r0 : State} (hp : State.flashLoad z a n = .data b0 u0) (hs : sub 37108651774000 m0 = true) (h : Moves m0 r0 z) : Moves m0 r0 u0 := by
  have g := State.flashLoad_moves z a n
  rw [hp] at g
  exact h.step g hs

theorem State.flashLoad_poison_pair {z : State} {a n : Nat} {u0 : State} {m0 : Nat} {r0 : State} (hp : State.flashLoad z a n = .poison u0) (hs : sub 37108651774000 m0 = true) (h : Moves m0 r0 z) : Moves m0 r0 u0 := by
  have g := State.flashLoad_moves z a n
  rw [hp] at g
  exact h.step g hs

theorem State.flashLoad_busError_pair {z : State} {a n : Nat} {u0 : State} {m0 : Nat} {r0 : State} (hp : State.flashLoad z a n = .busError u0) (hs : sub 37108651774000 m0 = true) (h : Moves m0 r0 z) : Moves m0 r0 u0 := by
  have g := State.flashLoad_moves z a n
  rw [hp] at g
  exact h.step g hs

theorem State.flashLoad_stall_pair {z : State} {a n : Nat} {u0 : State} {m0 : Nat} {r0 : State} (hp : State.flashLoad z a n = .stall u0) (hs : sub 37108651774000 m0 = true) (h : Moves m0 r0 z) : Moves m0 r0 u0 := by
  have g := State.flashLoad_moves z a n
  rw [hp] at g
  exact h.step g hs

end Sys2Proof.Machine
end

