-- ==== Sys2Proof/Laws/Pke.lean ====
section
/-! SUPPORT. What the operations of Machine/Pke.lean may change. -/
set_option linter.all false
namespace Sys2Proof.Machine

set_option linter.tactic.unusedName false

/-- May change: faults, power, evr, flash, core0, core1, registers of block 0 11 12 13 18. -/
theorem State.readFlash_moves (z : State) (a : Nat) (n : Nat) : Moves 37108651774000 z (State.readFlash z a n).2 := by
  unfold State.readFlash
  dsimp only
  refine List.foldlRecOn (motive := fun (r : Option (List Byte) × State) => Moves 37108651774000 z r.2) _ _ Moves.refl fun r h k _ => ?_
  split
  · exact h
  · split
    · rename_i heq; exact State.flashLoad_data_pair heq rfl h
    · rename_i heq; exact State.flashLoad_poison_pair heq rfl h
    · rename_i heq; exact State.flashLoad_busError_pair heq rfl h
    · rename_i heq; exact State.flashLoad_stall_pair heq rfl h

theorem State.readFlash_pair {z : State} {a : Nat} {n : Nat} {b1 : Option (List Byte)} {u0 : State} {m0 : Nat} {r0 : State} (hp : State.readFlash z a n = (b1, u0)) (hs : sub 37108651774000 m0 = true) (h : Moves m0 r0 z) : Moves m0 r0 u0 := by
  have g := State.readFlash_moves z a n
  rw [hp] at g
  exact h.step g hs

/-- May change: faults, power, evr, flash, core0, core1, registers of block 0 11 12 13 18. -/
theorem State.pkeRead_moves (z : State) (a : Nat) (n : Nat) : Moves 37108651774000 z (State.pkeRead z a n).2 := by
  unfold State.pkeRead
  repeat'
    first
    | with_reducible apply Moves.refl
    | with_reducible assumption
    | intro _
    | ((with_reducible apply Moves.by (State.readFlash_moves _ _ _)); case hs => exact rfl)
    | ((with_reducible apply State.readFlash_pair); (case hp => assumption); case hs => exact rfl)
    | with_reducible apply ite_moves
    | with_reducible apply ite_snd_moves
    | (extract_lets +onlyGivenNames x; apply Moves.cut (m := 37108651774000) (z := z) x; (case' h => unfold x); (case' k => (clear_value x; intro _)))
    | (extract_lets +onlyGivenNames x; clear_value x)
    | split
    | (rename_i hq; split at hq)
    | (rename_i hq; obtain ⟨_, rfl⟩ := Prod.mk.inj hq)

theorem State.pkeRead_pair {z : State} {a : Nat} {n : Nat} {b1 : Except Nat (List Byte)} {u0 : State} {m0 : Nat} {r0 : State} (hp : State.pkeRead z a n = (b1, u0)) (hs : sub 37108651774000 m0 = true) (h : Moves m0 r0 z) : Moves m0 r0 u0 := by
  have g := State.pkeRead_moves z a n
  rw [hp] at g
  exact h.step g hs

/-- May change: pke, registers of block 7. -/
theorem State.pkeStart_moves (z : State) (op : Nat) (cont : Bool) (fin : Bool) : Moves 17181966336 z (State.pkeStart z op cont fin) := by
  unfold State.pkeStart
  repeat'
    first
    | with_reducible apply Moves.refl
    | with_reducible assumption
    | intro _
    | ((with_reducible apply Moves.by (State.with_pke_moves _ _)); case hs => exact rfl)
    | rw [State.with_pke_eq]
    | ((with_reducible apply Moves.flag); (case hf => (with_reducible apply PKE_STATUS_BUSY_block)); case hm => exact rfl)
    | with_reducible apply ite_moves
    | (extract_lets +onlyGivenNames x; apply Moves.cut (m := 17181966336) (z := z) x; (case' h => unfold x); (case' k => (clear_value x; intro _)))
    | (extract_lets +onlyGivenNames x; clear_value x)
    | split
    | (rename_i hq; split at hq)
    | (rename_i hq; obtain ⟨_, rfl⟩ := Prod.mk.inj hq)

/-- May change: registers of block 7. -/
theorem State.rngRestart_moves (z : State) : Moves 17179869184 z (State.rngRestart z) := by
  unfold State.rngRestart
  repeat'
    first
    | with_reducible apply Moves.refl
    | with_reducible assumption
    | intro _
    | ((with_reducible apply Moves.flag); (case hf => (with_reducible first | apply PKE_RNGSTAT_HEALTH_FAIL_block | apply PKE_RNGSTAT_STARTUP_block | apply PKE_RNGSTAT_VALID_block)); case hm => exact rfl)
    | with_reducible apply ite_moves
    | (extract_lets +onlyGivenNames x; apply Moves.cut (m := 17179869184) (z := z) x; (case' h => unfold x); (case' k => (clear_value x; intro _)))
    | (extract_lets +onlyGivenNames x; clear_value x)
    | split
    | (rename_i hq; split at hq)
    | (rename_i hq; obtain ⟨_, rfl⟩ := Prod.mk.inj hq)

/-- May change: pke, registers of block 7. -/
theorem State.pkeCommand_moves (z : State) (op : Nat) (cont : Bool) (fin : Bool) (restart : Bool) : Moves 17181966336 z (State.pkeCommand z op cont fin restart) := by
  unfold State.pkeCommand
  repeat'
    first
    | with_reducible apply Moves.refl
    | with_reducible assumption
    | intro _
    | ((with_reducible apply Moves.by (State.pkeStart_moves _ _ _ _)); case hs => exact rfl)
    | ((with_reducible apply Moves.by (State.rngRestart_moves _)); case hs => exact rfl)
    | with_reducible apply ite_moves
    | (extract_lets +onlyGivenNames x; apply Moves.cut (m := 17181966336) (z := z) x; (case' h => unfold x); (case' k => (clear_value x; intro _)))
    | (extract_lets +onlyGivenNames x; clear_value x)
    | split
    | (rename_i hq; split at hq)
    | (rename_i hq; obtain ⟨_, rfl⟩ := Prod.mk.inj hq)

/-- May change: pke, registers of block 7. -/
theorem execPkeSm3_goes (cont : Bool) (fin : Bool) (z : State) : Goes 17181966336 z (execPkeSm3 cont fin z) := by
  unfold execPkeSm3
  repeat'
    first
    | with_reducible apply Moves.refl
    | with_reducible assumption
    | intro _
    | with_reducible apply goOn_goes
    | with_reducible apply ite_goes
    | ((with_reducible apply Moves.by (State.pkeCommand_moves _ _ _ _ _)); case hs => exact rfl)
    | (extract_lets +onlyGivenNames x; apply Moves.cut (m := 17181966336) (z := z) x; (case' h => unfold x); (case' k => (clear_value x; intro _)))
    | (extract_lets +onlyGivenNames x; clear_value x)
    | split
    | (rename_i hq; split at hq)
    | (rename_i hq; obtain ⟨_, rfl⟩ := Prod.mk.inj hq)

/-- May change: pke, registers of block 7. -/
theorem execPkeSm2Verify_goes (z : State) : Goes 17181966336 z (execPkeSm2Verify z) := by
  unfold execPkeSm2Verify
  repeat'
    first
    | with_reducible apply Moves.refl
    | with_reducible assumption
    | intro _
    | with_reducible apply goOn_goes
    | with_reducible apply ite_goes
    | ((with_reducible apply Moves.by (State.pkeCommand_moves _ _ _ _ _)); case hs => exact rfl)
    | (extract_lets +onlyGivenNames x; apply Moves.cut (m := 17181966336) (z := z) x; (case' h => unfold x); (case' k => (clear_value x; intro _)))
    | (extract_lets +onlyGivenNames x; clear_value x)
    | split
    | (rename_i hq; split at hq)
    | (rename_i hq; obtain ⟨_, rfl⟩ := Prod.mk.inj hq)

/-- May change: pke, registers of block 7. -/
theorem execPkeSm2Sign_goes (z : State) : Goes 17181966336 z (execPkeSm2Sign z) := by
  unfold execPkeSm2Sign
  repeat'
    first
    | with_reducible apply Moves.refl
    | with_reducible assumption
    | intro _
    | with_reducible apply goOn_goes
    | with_reducible apply ite_goes
    | ((with_reducible apply Moves.by (State.pkeCommand_moves _ _ _ _ _)); case hs => exact rfl)
    | (extract_lets +onlyGivenNames x; apply Moves.cut (m := 17181966336) (z := z) x; (case' h => unfold x); (case' k => (clear_value x; intro _)))
    | (extract_lets +onlyGivenNames x; clear_value x)
    | split
    | (rename_i hq; split at hq)
    | (rename_i hq; obtain ⟨_, rfl⟩ := Prod.mk.inj hq)

/-- May change: mem, poison, faults, power, evr, flash, core0, core1, pke, registers of block 0 11 12 13 18. -/
theorem State.sm3Run_moves (z : State) (r : PkeRun) : Moves 37108653871164 z (State.sm3Run z r).2 := by
  unfold State.sm3Run
  repeat'
    first
    | with_reducible apply Moves.refl
    | with_reducible assumption
    | intro _
    | ((with_reducible apply Moves.by (State.pkeRead_moves _ _ _)); case hs => exact rfl)
    | ((with_reducible apply State.pkeRead_pair); (case hp => assumption); case hs => exact rfl)
    | ((with_reducible apply Moves.by (State.devWrite_moves _ _ _)); case hs => exact rfl)
    | ((with_reducible apply Moves.by (State.with_pke_moves _ _)); case hs => exact rfl)
    | rw [State.with_pke_eq]
    | with_reducible apply ite_moves
    | with_reducible apply ite_snd_moves
    | (extract_lets +onlyGivenNames x; apply Moves.cut (m := 37108653871164) (z := z) x; (case' h => unfold x); (case' k => (clear_value x; intro _)))
    | (extract_lets +onlyGivenNames x; clear_value x)
    | split
    | (rename_i hq; split at hq)
    | (rename_i hq; obtain ⟨_, rfl⟩ := Prod.mk.inj hq)

theorem State.sm3Run_pair {z : State} {r : PkeRun} {b1 : Nat} {u0 : State} {m0 : Nat} {r0 : State} (hp : State.sm3Run z r = (b1, u0)) (hs : sub 37108653871164 m0 = true) (h : Moves m0 r0 z) : Moves m0 r0 u0 := by
  have g := State.sm3Run_moves z r
  rw [hp] at g
  exact h.step g hs

/-- May change: faults, power, evr, flash, core0, core1, registers of block 0 11 12 13 18. -/
theorem State.verifyRun_moves (z : State) (r : PkeRun) : Moves 37108651774000 z (State.verifyRun z r).2 := by
  unfold State.verifyRun
  repeat'
    first
    | with_reducible apply Moves.refl
    | with_reducible assumption
    | intro _
    | ((with_reducible apply Moves.by (State.pkeRead_moves _ _ _)); case hs => exact rfl)
    | ((with_reducible apply State.pkeRead_pair); (case hp => assumption); case hs => exact rfl)
    | with_reducible apply ite_moves
    | with_reducible apply ite_snd_moves
    | (extract_lets +onlyGivenNames x; apply Moves.cut (m := 37108651774000) (z := z) x; (case' h => unfold x); (case' k => (clear_value x; intro _)))
    | (extract_lets +onlyGivenNames x; clear_value x)
    | split
    | (rename_i hq; split at hq)
    | (rename_i hq; obtain ⟨_, rfl⟩ := Prod.mk.inj hq)

theorem State.verifyRun_pair {z : State} {r : PkeRun} {b1 : Nat} {u0 : State} {m0 : Nat} {r0 : State} (hp : State.verifyRun z r = (b1, u0)) (hs : sub 37108651774000 m0 = true) (h : Moves m0 r0 z) : Moves m0 r0 u0 := by
  have g := State.verifyRun_moves z r
  rw [hp] at g
  exact h.step g hs

/-- May change: mem, poison, faults, power, evr, flash, core0, core1, free, registers of block 0 11 12 13 18. -/
theorem State.signRun_moves (z : State) (r : PkeRun) : Moves 37108668551228 z (State.signRun z r).2 := by
  unfold State.signRun
  repeat'
    first
    | with_reducible apply Moves.refl
    | with_reducible assumption
    | intro _
    | ((with_reducible apply Moves.by (State.freeBytes_moves _ _)); case hs => exact rfl)
    | ((with_reducible apply State.freeBytes_pair); (case hp => assumption); case hs => exact rfl)
    | ((with_reducible apply Moves.by (State.pkeRead_moves _ _ _)); case hs => exact rfl)
    | ((with_reducible apply State.pkeRead_pair); (case hp => assumption); case hs => exact rfl)
    | ((with_reducible apply Moves.by (State.devWrite_moves _ _ _)); case hs => exact rfl)
    | with_reducible apply ite_moves
    | with_reducible apply ite_snd_moves
    | (extract_lets +onlyGivenNames x; apply Moves.cut (m := 37108668551228) (z := z) x; (case' h => unfold x); (case' k => (clear_value x; intro _)))
    | (extract_lets +onlyGivenNames x; clear_value x)
    | split
    | (rename_i hq; split at hq)
    | (rename_i hq; obtain ⟨_, rfl⟩ := Prod.mk.inj hq)

theorem State.signRun_pair {z : State} {r : PkeRun} {b1 : Nat} {u0 : State} {m0 : Nat} {r0 : State} (hp : State.signRun z r = (b1, u0)) (hs : sub 37108668551228 m0 = true) (h : Moves m0 r0 z) : Moves m0 r0 u0 := by
  have g := State.signRun_moves z r
  rw [hp] at g
  exact h.step g hs

/-- May change: mem, poison, faults, power, evr, flash, core0, core1, pke, free, registers of block 0 7 11 12 13 18. -/
theorem execPkeDone_goes (z : State) : Goes 37125850517564 z (execPkeDone z) := by
  unfold execPkeDone
  repeat'
    first
    | with_reducible apply Moves.refl
    | with_reducible assumption
    | intro _
    | with_reducible apply goOn_goes
    | with_reducible apply ite_goes
    | ((with_reducible apply Moves.by (State.verifyRun_moves _ _)); case hs => exact rfl)
    | ((with_reducible apply State.verifyRun_pair); (case hp => assumption); case hs => exact rfl)
    | ((with_reducible apply Moves.by (State.signRun_moves _ _)); case hs => exact rfl)
    | ((with_reducible apply State.signRun_pair); (case hp => assumption); case hs => exact rfl)
    | ((with_reducible apply Moves.by (State.raise_moves _ _)); case hs => exact rfl)
    | ((with_reducible apply Moves.by (State.sm3Run_moves _ _)); case hs => exact rfl)
    | ((with_reducible apply State.sm3Run_pair); (case hp => assumption); case hs => exact rfl)
    | ((with_reducible apply Moves.by (State.with_pke_moves _ _)); case hs => exact rfl)
    | rw [State.with_pke_eq]
    | ((with_reducible apply Moves.put); (case hf => (with_reducible first | apply PKE_STATUS_BUSY_block | apply PKE_STATUS_COUNT_block | apply PKE_STATUS_RESULT_block)); case hm => exact rfl)
    | ((with_reducible apply Moves.flag); (case hf => (with_reducible first | apply PKE_STATUS_BUSY_block | apply PKE_STATUS_COUNT_block | apply PKE_STATUS_RESULT_block)); case hm => exact rfl)
    | ((with_reducible apply Moves.bumpWrap); (case hf => (with_reducible first | apply PKE_STATUS_BUSY_block | apply PKE_STATUS_COUNT_block | apply PKE_STATUS_RESULT_block)); case hm => exact rfl)
    | with_reducible apply ite_moves
    | (extract_lets +onlyGivenNames x; apply Moves.cut (m := 37125850517564) (z := z) x; (case' h => unfold x); (case' k => (clear_value x; intro _)))
    | (extract_lets +onlyGivenNames x; clear_value x)
    | split
    | (rename_i hq; split at hq)
    | (rename_i hq; obtain ⟨_, rfl⟩ := Prod.mk.inj hq)

/-- May change: pke, registers of block 7. -/
theorem execRngRestart_goes (z : State) : Goes 17181966336 z (execRngRestart z) := by
  unfold execRngRestart
  repeat'
    first
    | with_reducible apply Moves.refl
    | with_reducible assumption
    | intro _
    | with_reducible apply goOn_goes
    | with_reducible apply ite_goes
    | ((with_reducible apply Moves.by (State.pkeCommand_moves _ _ _ _ _)); case hs => exact rfl)
    | (extract_lets +onlyGivenNames x; apply Moves.cut (m := 17181966336) (z := z) x; (case' h => unfold x); (case' k => (clear_value x; intro _)))
    | (extract_lets +onlyGivenNames x; clear_value x)
    | split
    | (rename_i hq; split at hq)
    | (rename_i hq; obtain ⟨_, rfl⟩ := Prod.mk.inj hq)

/-- May change: mac, free, registers of block 7. -/
theorem State.rngFresh_moves (z : State) : Moves 17196646656 z (State.rngFresh z) := by
  unfold State.rngFresh
  repeat'
    first
    | with_reducible apply Moves.refl
    | with_reducible assumption
    | intro _
    | ((with_reducible apply Moves.by (State.drawFree_moves _)); case hs => exact rfl)
    | ((with_reducible apply State.drawFree_pair); (case hp => assumption); case hs => exact rfl)
    | ((with_reducible apply Moves.by (State.with_mac_moves _ _)); case hs => exact rfl)
    | rw [State.with_mac_eq]
    | ((with_reducible apply Moves.put); (case hf => (with_reducible first | apply PKE_RNGSTAT_STARTUP_block | apply PKE_RNGSTAT_VALID_block | apply PKE_RNG_VALUE_block)); case hm => exact rfl)
    | ((with_reducible apply Moves.flag); (case hf => (with_reducible first | apply PKE_RNGSTAT_STARTUP_block | apply PKE_RNGSTAT_VALID_block | apply PKE_RNG_VALUE_block)); case hm => exact rfl)
    | with_reducible apply ite_moves
    | (extract_lets +onlyGivenNames x; apply Moves.cut (m := 17196646656) (z := z) x; (case' h => unfold x); (case' k => (clear_value x; intro _)))
    | (extract_lets +onlyGivenNames x; clear_value x)
    | split
    | (rename_i hq; split at hq)
    | (rename_i hq; obtain ⟨_, rfl⟩ := Prod.mk.inj hq)

/-- May change: mac, free, registers of block 7. -/
theorem execRngWord_goes (z : State) : Goes 17196646656 z (execRngWord z) := by
  unfold execRngWord
  repeat'
    first
    | with_reducible apply Moves.refl
    | with_reducible assumption
    | intro _
    | with_reducible apply goOn_goes
    | with_reducible apply ite_goes
    | ((with_reducible apply Moves.by (State.rngFresh_moves _)); case hs => exact rfl)
    | (extract_lets +onlyGivenNames x; apply Moves.cut (m := 17196646656) (z := z) x; (case' h => unfold x); (case' k => (clear_value x; intro _)))
    | (extract_lets +onlyGivenNames x; clear_value x)
    | split
    | (rename_i hq; split at hq)
    | (rename_i hq; obtain ⟨_, rfl⟩ := Prod.mk.inj hq)

/-- May change: mac, free, registers of block 7. -/
theorem State.rngRead_moves (z : State) : Moves 17196646656 z (State.rngRead z).2 := by
  unfold State.rngRead
  repeat'
    first
    | with_reducible apply Moves.refl
    | with_reducible assumption
    | intro _
    | ((with_reducible apply Moves.by (State.rngFresh_moves _)); case hs => exact rfl)
    | with_reducible apply ite_moves
    | with_reducible apply ite_snd_moves
    | (extract_lets +onlyGivenNames x; apply Moves.cut (m := 17196646656) (z := z) x; (case' h => unfold x); (case' k => (clear_value x; intro _)))
    | (extract_lets +onlyGivenNames x; clear_value x)
    | split
    | (rename_i hq; split at hq)
    | (rename_i hq; obtain ⟨_, rfl⟩ := Prod.mk.inj hq)

theorem State.rngRead_pair {z : State} {b1 : Nat} {u0 : State} {m0 : Nat} {r0 : State} (hp : State.rngRead z = (b1, u0)) (hs : sub 17196646656 m0 = true) (h : Moves m0 r0 z) : Moves m0 r0 u0 := by
  have g := State.rngRead_moves z
  rw [hp] at g
  exact h.step g hs

/-- May change: mac, host, free, registers of block 7. -/
theorem execRngRead_goes (z : State) : Goes 17197170944 z (execRngRead z) := by
  unfold execRngRead
  repeat'
    first
    | with_reducible apply Moves.refl
    | with_reducible assumption
    | intro _
    | with_reducible apply goOn_goes
    | with_reducible apply ite_goes
    | ((with_reducible apply Moves.by (State.rngRead_moves _)); case hs => exact rfl)
    | ((with_reducible apply State.rngRead_pair); (case hp => assumption); case hs => exact rfl)
    | ((with_reducible apply Moves.by (State.with_host_moves _ _)); case hs => exact rfl)
    | rw [State.with_host_eq]
    | (extract_lets +onlyGivenNames x; apply Moves.cut (m := 17197170944) (z := z) x; (case' h => unfold x); (case' k => (clear_value x; intro _)))
    | (extract_lets +onlyGivenNames x; clear_value x)
    | split
    | (rename_i hq; split at hq)
    | (rename_i hq; obtain ⟨_, rfl⟩ := Prod.mk.inj hq)

/-- May change: faults, power, evr, core0, core1, registers of block 0 7 11 18. -/
theorem execTrngHealth_goes (z : State) : Goes 35476564185136 z (execTrngHealth z) := by
  unfold execTrngHealth
  repeat'
    first
    | with_reducible apply Moves.refl
    | with_reducible assumption
    | intro _
    | with_reducible apply goOn_goes
    | with_reducible apply ite_goes
    | ((with_reducible apply Moves.by (State.report_moves _ _ _ _ _ _)); case hs => exact rfl)
    | ((with_reducible apply Moves.by (State.raise_moves _ _)); case hs => exact rfl)
    | ((with_reducible apply Moves.put); (case hf => (with_reducible first | apply PKE_RNGSTAT_FAILS_block | apply PKE_RNGSTAT_HEALTH_FAIL_block | apply PKE_RNGSTAT_STARTUP_block | apply PKE_RNGSTAT_VALID_block | apply PKE_RNG_VALUE_block)); case hm => exact rfl)
    | ((with_reducible apply Moves.flag); (case hf => (with_reducible first | apply PKE_RNGSTAT_FAILS_block | apply PKE_RNGSTAT_HEALTH_FAIL_block | apply PKE_RNGSTAT_STARTUP_block | apply PKE_RNGSTAT_VALID_block | apply PKE_RNG_VALUE_block)); case hm => exact rfl)
    | ((with_reducible apply Moves.bump); (case hf => (with_reducible first | apply PKE_RNGSTAT_FAILS_block | apply PKE_RNGSTAT_HEALTH_FAIL_block | apply PKE_RNGSTAT_STARTUP_block | apply PKE_RNGSTAT_VALID_block | apply PKE_RNG_VALUE_block)); case hm => exact rfl)
    | (extract_lets +onlyGivenNames x; apply Moves.cut (m := 35476564185136) (z := z) x; (case' h => unfold x); (case' k => (clear_value x; intro _)))
    | (extract_lets +onlyGivenNames x; clear_value x)
    | split
    | (rename_i hq; split at hq)
    | (rename_i hq; obtain ⟨_, rfl⟩ := Prod.mk.inj hq)

end Sys2Proof.Machine
end

