-- ==== Sys2Proof/Laws/Cipher.lean ====
section
/-! SUPPORT. What the operations of Machine/Cipher.lean may change. -/
set_option linter.all false
namespace Sys2Proof.Machine

set_option linter.tactic.unusedName false

/-- May change: power, sec, evr, core0, core1, registers of block 0 6 11. -/
theorem State.pageKeyCommand_moves (z : State) (p : Nat) (image : Option KeyImage) : Moves 283602162208 z (State.pageKeyCommand z p image) := by
  unfold State.pageKeyCommand
  repeat'
    first
    | with_reducible apply Moves.refl
    | with_reducible assumption
    | intro _
    | ((with_reducible apply Moves.by (State.keyCommand_moves _ _ _)); case hs => exact rfl)
    | ((with_reducible apply Moves.by (State.raise_moves _ _)); case hs => exact rfl)
    | ((with_reducible apply Moves.put); (case hf => (with_reducible first | apply SEC_P_KDATA0_KEY_block | apply SEC_P_KDATA1_KEY_block | apply SEC_P_KDATA2_KEY_block | apply SEC_P_KDATA3_KEY_block | apply SEC_P_KSTAT_KCMD_REJ_block)); case hm => exact rfl)
    | ((with_reducible apply Moves.flag); (case hf => (with_reducible first | apply SEC_P_KDATA0_KEY_block | apply SEC_P_KDATA1_KEY_block | apply SEC_P_KDATA2_KEY_block | apply SEC_P_KDATA3_KEY_block | apply SEC_P_KSTAT_KCMD_REJ_block)); case hm => exact rfl)
    | with_reducible apply ite_moves
    | (extract_lets +onlyGivenNames x; apply Moves.cut (m := 283602162208) (z := z) x; (case' h => unfold x); (case' k => (clear_value x; intro _)))
    | (extract_lets +onlyGivenNames x; clear_value x)
    | split
    | (rename_i hq; split at hq)
    | (rename_i hq; obtain ⟨_, rfl⟩ := Prod.mk.inj hq)

/-- May change: power, sec, evr, core0, core1, registers of block 0 6 11. -/
theorem execKeyLoad_goes (page : Fin 8) (z : State) : Goes 283602162208 z (execKeyLoad page z) := by
  unfold execKeyLoad
  repeat'
    first
    | with_reducible apply Moves.refl
    | with_reducible assumption
    | intro _
    | with_reducible apply goOn_goes
    | with_reducible apply ite_goes
    | ((with_reducible apply Moves.by (State.pageKeyCommand_moves _ _ _)); case hs => exact rfl)
    | (extract_lets +onlyGivenNames x; apply Moves.cut (m := 283602162208) (z := z) x; (case' h => unfold x); (case' k => (clear_value x; intro _)))
    | (extract_lets +onlyGivenNames x; clear_value x)
    | split
    | (rename_i hq; split at hq)
    | (rename_i hq; obtain ⟨_, rfl⟩ := Prod.mk.inj hq)

/-- May change: power, sec, evr, core0, core1, registers of block 0 6 11. -/
theorem execKeyClear_goes (page : Fin 8) (z : State) : Goes 283602162208 z (execKeyClear page z) := by
  unfold execKeyClear
  repeat'
    first
    | with_reducible apply Moves.refl
    | with_reducible assumption
    | intro _
    | with_reducible apply goOn_goes
    | with_reducible apply ite_goes
    | ((with_reducible apply Moves.by (State.pageKeyCommand_moves _ _ _)); case hs => exact rfl)
    | (extract_lets +onlyGivenNames x; apply Moves.cut (m := 283602162208) (z := z) x; (case' h => unfold x); (case' k => (clear_value x; intro _)))
    | (extract_lets +onlyGivenNames x; clear_value x)
    | split
    | (rename_i hq; split at hq)
    | (rename_i hq; obtain ⟨_, rfl⟩ := Prod.mk.inj hq)

/-- May change: power, sec, evr, core0, core1, registers of block 0 11. -/
theorem execKeyCommandApply_goes (slot : Fin 256) (z : State) : Goes 275012227616 z (execKeyCommandApply slot z) := by
  unfold execKeyCommandApply
  repeat'
    first
    | with_reducible apply Moves.refl
    | with_reducible assumption
    | intro _
    | with_reducible apply goOn_goes
    | with_reducible apply ite_goes
    | ((with_reducible apply Moves.by (State.keyApply_moves _ _ _)); case hs => exact rfl)
    | ((with_reducible apply Moves.by (State.arbitrate_moves _)); case hs => exact rfl)
    | with_reducible apply ite_moves
    | (extract_lets +onlyGivenNames x; apply Moves.cut (m := 275012227616) (z := z) x; (case' h => unfold x); (case' k => (clear_value x; intro _)))
    | (extract_lets +onlyGivenNames x; clear_value x)
    | split
    | (rename_i hq; split at hq)
    | (rename_i hq; obtain ⟨_, rfl⟩ := Prod.mk.inj hq)

/-- May change: sec. -/
theorem State.setOwner_moves (z : State) (i : Nat) (owner : Nat) : Moves 512 z (State.setOwner z i owner) := by
  unfold State.setOwner
  repeat'
    first
    | with_reducible apply Moves.refl
    | with_reducible assumption
    | intro _
    | ((with_reducible apply Moves.by (State.setKey_moves _ _ _)); case hs => exact rfl)
    | with_reducible apply ite_moves
    | (extract_lets +onlyGivenNames x; apply Moves.cut (m := 512) (z := z) x; (case' h => unfold x); (case' k => (clear_value x; intro _)))
    | (extract_lets +onlyGivenNames x; clear_value x)
    | split
    | (rename_i hq; split at hq)
    | (rename_i hq; obtain ⟨_, rfl⟩ := Prod.mk.inj hq)

/-- May change: sec. -/
theorem execKeyOwnerWrite_goes (value : Word) (z : State) : Goes 512 z (execKeyOwnerWrite value z) := by
  unfold execKeyOwnerWrite
  repeat'
    first
    | with_reducible apply Moves.refl
    | with_reducible assumption
    | intro _
    | with_reducible apply goOn_goes
    | with_reducible apply ite_goes
    | ((with_reducible apply Moves.by (State.setOwner_moves _ _ _)); case hs => exact rfl)
    | (extract_lets +onlyGivenNames x; apply Moves.cut (m := 512) (z := z) x; (case' h => unfold x); (case' k => (clear_value x; intro _)))
    | (extract_lets +onlyGivenNames x; clear_value x)
    | split
    | (rename_i hq; split at hq)
    | (rename_i hq; obtain ⟨_, rfl⟩ := Prod.mk.inj hq)

/-- May change: power, sec, evr, core0, core1, registers of block 0 11. -/
theorem execKeyExhausted_goes (slot : Fin 256) (blocks : Nat) (transmit : Bool) (z : State) : Goes 275012227616 z (execKeyExhausted slot blocks transmit z) := by
  unfold execKeyExhausted
  repeat'
    first
    | with_reducible apply Moves.refl
    | with_reducible assumption
    | intro _
    | with_reducible apply goOn_goes
    | with_reducible apply ite_goes
    | ((with_reducible apply Moves.by (State.exhaust_moves _ _)); case hs => exact rfl)
    | with_reducible apply ite_moves
    | (extract_lets +onlyGivenNames x; apply Moves.cut (m := 275012227616) (z := z) x; (case' h => unfold x); (case' k => (clear_value x; intro _)))
    | (extract_lets +onlyGivenNames x; clear_value x)
    | split
    | (rename_i hq; split at hq)
    | (rename_i hq; obtain ⟨_, rfl⟩ := Prod.mk.inj hq)

/-- May change: power, sec, evr, core0, core1, registers of block 0 6 11. -/
theorem State.submit_moves (z : State) (p : Nat) (r : GenReq) : Moves 283602162208 z (State.submit z p r) := by
  unfold State.submit
  repeat'
    first
    | with_reducible apply Moves.refl
    | with_reducible assumption
    | intro _
    | ((with_reducible apply Moves.by (State.setPage_moves _ _ _)); case hs => exact rfl)
    | ((with_reducible apply Moves.by (State.arbitrate_moves _)); case hs => exact rfl)
    | ((with_reducible apply Moves.flag); (case hf => (with_reducible apply SEC_P_STAT_SUB_REJ_block)); case hm => exact rfl)
    | with_reducible apply ite_moves
    | (extract_lets +onlyGivenNames x; apply Moves.cut (m := 283602162208) (z := z) x; (case' h => unfold x); (case' k => (clear_value x; intro _)))
    | (extract_lets +onlyGivenNames x; clear_value x)
    | split
    | (rename_i hq; split at hq)
    | (rename_i hq; obtain ⟨_, rfl⟩ := Prod.mk.inj hq)

/-- May change: power, sec, evr, core0, core1, registers of block 0 6 11. -/
theorem execCipherSubmit_goes (page : Fin 8) (addr : Word) (z : State) : Goes 283602162208 z (execCipherSubmit page addr z) := by
  unfold execCipherSubmit
  repeat'
    first
    | with_reducible apply Moves.refl
    | with_reducible assumption
    | intro _
    | with_reducible apply goOn_goes
    | with_reducible apply ite_goes
    | ((with_reducible apply Moves.by (State.submit_moves _ _ _)); case hs => exact rfl)
    | (extract_lets +onlyGivenNames x; apply Moves.cut (m := 283602162208) (z := z) x; (case' h => unfold x); (case' k => (clear_value x; intro _)))
    | (extract_lets +onlyGivenNames x; clear_value x)
    | split
    | (rename_i hq; split at hq)
    | (rename_i hq; obtain ⟨_, rfl⟩ := Prod.mk.inj hq)

/-- May change: power, sec, evr, core0, core1, registers of block 0 11. -/
theorem execCipherChunkEnd_goes (page : Fin 8) (z : State) : Goes 275012227616 z (execCipherChunkEnd page z) := by
  unfold execCipherChunkEnd
  repeat'
    first
    | with_reducible apply Moves.refl
    | with_reducible assumption
    | intro _
    | with_reducible apply goOn_goes
    | with_reducible apply ite_goes
    | ((with_reducible apply Moves.by (State.setPage_moves _ _ _)); case hs => exact rfl)
    | ((with_reducible apply Moves.by (State.arbitrate_moves _)); case hs => exact rfl)
    | with_reducible apply ite_moves
    | (extract_lets +onlyGivenNames x; apply Moves.cut (m := 275012227616) (z := z) x; (case' h => unfold x); (case' k => (clear_value x; intro _)))
    | (extract_lets +onlyGivenNames x; clear_value x)
    | split
    | (rename_i hq; split at hq)
    | (rename_i hq; obtain ⟨_, rfl⟩ := Prod.mk.inj hq)

/-- May change: mem, poison, faults, power, sec, evr, core0, core1, registers of block 0 6 11 18. -/
theorem execCipherDone_goes (page : Fin 8) (z : State) : Goes 35467974251068 z (execCipherDone page z) := by
  unfold execCipherDone
  repeat'
    first
    | with_reducible apply Moves.refl
    | with_reducible assumption
    | intro _
    | with_reducible apply goOn_goes
    | with_reducible apply ite_goes
    | ((with_reducible apply Moves.by (State.reqComplete_moves _ _ _)); case hs => exact rfl)
    | ((with_reducible apply Moves.by (State.arbitrate_moves _)); case hs => exact rfl)
    | with_reducible apply ite_moves
    | (extract_lets +onlyGivenNames x; apply Moves.cut (m := 35467974251068) (z := z) x; (case' h => unfold x); (case' k => (clear_value x; intro _)))
    | (extract_lets +onlyGivenNames x; clear_value x)
    | split
    | (rename_i hq; split at hq)
    | (rename_i hq; obtain ⟨_, rfl⟩ := Prod.mk.inj hq)

/-- May change: mem, poison, power, sec, evr, core0, core1, registers of block 0 6 11. -/
theorem State.abortPage_moves (z : State) (p : Nat) : Moves 283602162220 z (State.abortPage z p) := by
  unfold State.abortPage
  repeat'
    first
    | with_reducible apply Moves.refl
    | with_reducible assumption
    | intro _
    | ((with_reducible apply Moves.by (State.reqStatus_moves _ _ _ _ _)); case hs => exact rfl)
    | ((with_reducible apply Moves.by (State.reqFinished_moves _ _ _)); case hs => exact rfl)
    | with_reducible apply ite_moves
    | with_reducible apply foldl_moves
    | (extract_lets +onlyGivenNames x; apply Moves.cut (m := 283602162220) (z := z) x; (case' h => unfold x); (case' k => (clear_value x; intro _)))
    | (extract_lets +onlyGivenNames x; clear_value x)
    | split
    | (rename_i hq; split at hq)
    | (rename_i hq; obtain ⟨_, rfl⟩ := Prod.mk.inj hq)

/-- May change: mem, poison, power, sec, evr, core0, core1, registers of block 0 6 11. -/
theorem execPageAbort_goes (page : Fin 8) (z : State) : Goes 283602162220 z (execPageAbort page z) := by
  unfold execPageAbort
  repeat'
    first
    | with_reducible apply Moves.refl
    | with_reducible assumption
    | intro _
    | with_reducible apply goOn_goes
    | with_reducible apply ite_goes
    | ((with_reducible apply Moves.by (State.abortPage_moves _ _)); case hs => exact rfl)
    | ((with_reducible apply Moves.by (State.arbitrate_moves _)); case hs => exact rfl)
    | (extract_lets +onlyGivenNames x; apply Moves.cut (m := 283602162220) (z := z) x; (case' h => unfold x); (case' k => (clear_value x; intro _)))
    | (extract_lets +onlyGivenNames x; clear_value x)
    | split
    | (rename_i hq; split at hq)
    | (rename_i hq; obtain ⟨_, rfl⟩ := Prod.mk.inj hq)

/-- May change: mem, poison, faults, power, slot, mac, sec, evr, core0, core1, lgy, registers of block 0 5 6 11 15 18. -/
theorem execCipherFault_goes (lane : Fin 16) (keyWord : Bool) (z : State) : Goes 39870315860924 z (execCipherFault lane keyWord z) := by
  unfold execCipherFault
  dsimp only
  repeat'
    first
    | with_reducible apply Moves.refl
    | with_reducible assumption
    | intro _
    | with_reducible apply goOn_goes
    | with_reducible apply ite_goes
    | ((with_reducible apply Moves.by (State.endRx_moves _ _)); case hs => exact rfl)
    | ((with_reducible apply Moves.by (State.report_moves _ _ _ _ _ _)); case hs => exact rfl)
    | ((with_reducible apply Moves.by (State.reqStatus_moves _ _ _ _ _)); case hs => exact rfl)
    | ((with_reducible apply Moves.by (State.endTx_moves _ _ _)); case hs => exact rfl)
    | ((with_reducible apply Moves.by (State.raise_moves _ _)); case hs => exact rfl)
    | ((with_reducible apply Moves.by (State.reqFinished_moves _ _ _)); case hs => exact rfl)
    | ((with_reducible apply Moves.by (State.arbitrate_moves _)); case hs => exact rfl)
    | ((with_reducible apply Moves.by (State.charged_moves _ _ _ _)); case hs => exact rfl)
    | ((with_reducible apply State.charged_pair); (case hp => assumption); case hs => exact rfl)
    | ((with_reducible apply Moves.by (State.setKey_moves _ _ _)); case hs => exact rfl)
    | ((with_reducible apply Moves.by (State.devWrite_moves _ _ _)); case hs => exact rfl)
    | ((with_reducible apply Moves.bump); (case hf => (with_reducible apply SEC_COUNT1_SE_FAULT_block)); case hm => exact rfl)
    | with_reducible apply ite_moves
    | (extract_lets +onlyGivenNames x; apply Moves.cut (m := 39870315860924) (z := z) x; (case' h => unfold x); (case' k => (clear_value x; intro _)))
    | (extract_lets +onlyGivenNames x; clear_value x)
    | split
    | (rename_i hq; split at hq)
    | (rename_i hq; obtain ⟨_, rfl⟩ := Prod.mk.inj hq)

/-- May change: power, sec, evr, core0, core1, host, registers of block 0 6 11. -/
theorem execCipherRequestObject_goes (image : List Byte) (z : State) : Goes 283602686496 z (execCipherRequestObject image z) := by
  unfold execCipherRequestObject
  repeat'
    first
    | with_reducible apply Moves.refl
    | with_reducible assumption
    | intro _
    | with_reducible apply goOn_goes
    | with_reducible apply ite_goes
    | ((with_reducible apply Moves.by (State.answer_moves _ _)); case hs => exact rfl)
    | ((with_reducible apply Moves.by (State.submit_moves _ _ _)); case hs => exact rfl)
    | ((with_reducible apply Moves.by (State.with_sec_moves _ _)); case hs => exact rfl)
    | rw [State.with_sec_eq]
    | with_reducible apply ite_moves
    | (extract_lets +onlyGivenNames x; apply Moves.cut (m := 283602686496) (z := z) x; (case' h => unfold x); (case' k => (clear_value x; intro _)))
    | (extract_lets +onlyGivenNames x; clear_value x)
    | split
    | (rename_i hq; split at hq)
    | (rename_i hq; obtain ⟨_, rfl⟩ := Prod.mk.inj hq)

end Sys2Proof.Machine
end

