-- ==== Sys2Proof/Laws/ModeFam.lean ====
section
/-! SUPPORT. What the operations of Machine/ModeFam.lean may change. -/
set_option linter.all false
namespace Sys2Proof.Machine

set_option linter.tactic.unusedName false

/-- May change: power, slot, host, boot, registers of block 0 4. -/
theorem execModeWrite_goes (value : Nat) (z : State) : Goes 2283274400 z (execModeWrite value z) := by
  unfold execModeWrite
  repeat'
    first
    | with_reducible apply Moves.refl
    | with_reducible assumption
    | intro _
    | with_reducible apply goOn_goes
    | with_reducible apply ite_goes
    | ((with_reducible apply Moves.by (State.answer_moves _ _)); case hs => exact rfl)
    | ((with_reducible apply Moves.by (State.requestRecovery_moves _)); case hs => exact rfl)
    | ((with_reducible apply Moves.by (State.with_slot_moves _ _)); case hs => exact rfl)
    | rw [State.with_slot_eq]
    | ((with_reducible apply Moves.flag); (case hf => (with_reducible first | apply PRC_MODE_PENDING_block | apply SLE_STATUS_STOP_PEND_block)); case hm => exact rfl)
    | with_reducible apply ite_moves
    | (extract_lets +onlyGivenNames x; apply Moves.cut (m := 2283274400) (z := z) x; (case' h => unfold x); (case' k => (clear_value x; intro _)))
    | (extract_lets +onlyGivenNames x; clear_value x)
    | split
    | (rename_i hq; split at hq)
    | (rename_i hq; obtain ⟨_, rfl⟩ := Prod.mk.inj hq)

/-- May change: tnet, clock, mem, poison, power, radio, slot, mac, sec, evr, core0, core1, lgy, boot, objs, registers of block 0 1 2 4 5 8 11 15. -/
theorem execModeTransition_goes (z : State) : Goes 4714675803119 z (execModeTransition z) := by
  unfold execModeTransition
  repeat'
    first
    | with_reducible apply Moves.refl
    | with_reducible assumption
    | intro _
    | with_reducible apply goOn_goes
    | with_reducible apply ite_goes
    | ((with_reducible apply Moves.by (State.boundary_moves _ _ _)); case hs => exact rfl)
    | ((with_reducible apply Moves.by (State.enterMode_moves _ _)); case hs => exact rfl)
    | (extract_lets +onlyGivenNames x; apply Moves.cut (m := 4714675803119) (z := z) x; (case' h => unfold x); (case' k => (clear_value x; intro _)))
    | (extract_lets +onlyGivenNames x; clear_value x)
    | split
    | (rename_i hq; split at hq)
    | (rename_i hq; obtain ⟨_, rfl⟩ := Prod.mk.inj hq)

end Sys2Proof.Machine
end

