-- ==== Sys2Proof/Laws/CoreOps.lean ====
section
/-! SUPPORT. What the operations of Machine/CoreOps.lean may change. -/
set_option linter.all false
namespace Sys2Proof.Machine

set_option linter.tactic.unusedName false

/-- May change: core0, core1. -/
theorem State.setCore_moves (z : State) (c1 : Bool) (c : CoreState) : Moves 98304 z (State.setCore z c1 c) := by
  unfold State.setCore
  repeat'
    first
    | with_reducible apply Moves.refl
    | with_reducible assumption
    | intro _
    | ((with_reducible apply Moves.by (State.with_core0_moves _ _)); case hs => exact rfl)
    | rw [State.with_core0_eq]
    | ((with_reducible apply Moves.by (State.with_core1_moves _ _)); case hs => exact rfl)
    | rw [State.with_core1_eq]
    | with_reducible apply ite_moves
    | (extract_lets +onlyGivenNames x; apply Moves.cut (m := 98304) (z := z) x; (case' h => unfold x); (case' k => (clear_value x; intro _)))
    | (extract_lets +onlyGivenNames x; clear_value x)
    | split
    | (rename_i hq; split at hq)
    | (rename_i hq; obtain ⟨_, rfl⟩ := Prod.mk.inj hq)

/-- May change: core1. -/
theorem State.core1Start_moves (z : State) : Moves 65536 z (State.core1Start z) := by
  unfold State.core1Start
  repeat'
    first
    | with_reducible apply Moves.refl
    | with_reducible assumption
    | intro _
    | ((with_reducible apply Moves.by (State.with_core1_moves _ _)); case hs => exact rfl)
    | rw [State.with_core1_eq]
    | with_reducible apply ite_moves
    | (extract_lets +onlyGivenNames x; apply Moves.cut (m := 65536) (z := z) x; (case' h => unfold x); (case' k => (clear_value x; intro _)))
    | (extract_lets +onlyGivenNames x; clear_value x)
    | split
    | (rename_i hq; split at hq)
    | (rename_i hq; obtain ⟨_, rfl⟩ := Prod.mk.inj hq)

/-- May change: core1. -/
theorem State.core1Stop_moves (z : State) : Moves 65536 z (State.core1Stop z) := by
  unfold State.core1Stop
  repeat'
    first
    | with_reducible apply Moves.refl
    | with_reducible assumption
    | intro _
    | ((with_reducible apply Moves.by (State.with_core1_moves _ _)); case hs => exact rfl)
    | rw [State.with_core1_eq]
    | with_reducible apply ite_moves
    | (extract_lets +onlyGivenNames x; apply Moves.cut (m := 65536) (z := z) x; (case' h => unfold x); (case' k => (clear_value x; intro _)))
    | (extract_lets +onlyGivenNames x; clear_value x)
    | split
    | (rename_i hq; split at hq)
    | (rename_i hq; obtain ⟨_, rfl⟩ := Prod.mk.inj hq)

/-- May change: core1. -/
theorem State.writeWindow_moves (z : State) (k : Nat) (w : Nat × Nat × Nat) : Moves 65536 z (State.writeWindow z k w) := by
  unfold State.writeWindow
  repeat'
    first
    | with_reducible apply Moves.refl
    | with_reducible assumption
    | intro _
    | ((with_reducible apply Moves.by (State.with_core1_moves _ _)); case hs => exact rfl)
    | rw [State.with_core1_eq]
    | with_reducible apply ite_moves
    | (extract_lets +onlyGivenNames x; apply Moves.cut (m := 65536) (z := z) x; (case' h => unfold x); (case' k => (clear_value x; intro _)))
    | (extract_lets +onlyGivenNames x; clear_value x)
    | split
    | (rename_i hq; split at hq)
    | (rename_i hq; obtain ⟨_, rfl⟩ := Prod.mk.inj hq)

/-- May change: faults, power, evr, core0, core1, registers of block 0 11 18. -/
theorem State.coreLockUp_moves (z : State) (c1 : Bool) (cause : Nat) : Moves 35459384315952 z (State.coreLockUp z c1 cause) := by
  unfold State.coreLockUp
  repeat'
    first
    | with_reducible apply Moves.refl
    | with_reducible assumption
    | intro _
    | ((with_reducible apply Moves.by (State.fatal_moves _ _ _ _ _)); case hs => exact rfl)
    | ((with_reducible apply Moves.by (State.requestReset_moves _ _)); case hs => exact rfl)
    | ((with_reducible apply Moves.by (State.setCore_moves _ _ _)); case hs => exact rfl)
    | with_reducible apply ite_moves
    | (extract_lets +onlyGivenNames x; apply Moves.cut (m := 35459384315952) (z := z) x; (case' h => unfold x); (case' k => (clear_value x; intro _)))
    | (extract_lets +onlyGivenNames x; clear_value x)
    | split
    | (rename_i hq; split at hq)
    | (rename_i hq; obtain ⟨_, rfl⟩ := Prod.mk.inj hq)

end Sys2Proof.Machine
end

