-- ==== Sys2Proof/Laws/RtcOps.lean ====
section
/-! SUPPORT. What the operations of Machine/RtcOps.lean may change. -/
set_option linter.all false
namespace Sys2Proof.Machine

set_option linter.tactic.unusedName false

theorem almEn_block (i : Nat) : (almEn i).inBlock 9 := by unfold almEn; split <;> rfl

theorem almOneshot_block (i : Nat) : (almOneshot i).inBlock 9 := by unfold almOneshot; split <;> rfl

theorem almFlag_block (i : Nat) : (almFlag i).inBlock 9 := by unfold almFlag; split <;> rfl

theorem almSkipped_block (i : Nat) : (almSkipped i).inBlock 9 := by unfold almSkipped; split <;> rfl


/-- May change: rtc. -/
theorem State.setRtc_moves (z : State) (r : Rtc) : Moves 2048 z (State.setRtc z r) := by
  unfold State.setRtc
  repeat'
    first
    | with_reducible apply Moves.refl
    | with_reducible assumption
    | intro _
    | ((with_reducible apply Moves.by (State.with_rtc_moves _ _)); case hs => exact rfl)
    | rw [State.with_rtc_eq]
    | with_reducible apply ite_moves
    | (extract_lets +onlyGivenNames x; apply Moves.cut (m := 2048) (z := z) x; (case' h => unfold x); (case' k => (clear_value x; intro _)))
    | (extract_lets +onlyGivenNames x; clear_value x)
    | split
    | (rename_i hq; split at hq)
    | (rename_i hq; obtain ⟨_, rfl⟩ := Prod.mk.inj hq)

/-- May change: registers of block 9. -/
theorem State.setCal_moves (z : State) (t : CalTime) : Moves 68719476736 z (State.setCal z t) := by
  unfold State.setCal
  repeat'
    first
    | with_reducible apply Moves.refl
    | with_reducible assumption
    | intro _
    | ((with_reducible apply Moves.put); (case hf => (with_reducible first | apply RTC_DAY_DAY_block | apply RTC_DAY_WDAY_block | apply RTC_HOUR_HOUR_block | apply RTC_MIN_VALUE_block | apply RTC_MONTH_MONTH_block | apply RTC_SEC_VALUE_block | apply RTC_YEAR_YEAR_block)); case hm => exact rfl)
    | with_reducible apply ite_moves
    | (extract_lets +onlyGivenNames x; apply Moves.cut (m := 68719476736) (z := z) x; (case' h => unfold x); (case' k => (clear_value x; intro _)))
    | (extract_lets +onlyGivenNames x; clear_value x)
    | split
    | (rename_i hq; split at hq)
    | (rename_i hq; obtain ⟨_, rfl⟩ := Prod.mk.inj hq)

/-- May change: rtc, registers of block 9. -/
theorem State.calTick_moves (z : State) : Moves 68719478784 z (State.calTick z) := by
  unfold State.calTick
  repeat'
    first
    | with_reducible apply Moves.refl
    | with_reducible assumption
    | intro _
    | ((with_reducible apply Moves.by (State.setCal_moves _ _)); case hs => exact rfl)
    | ((with_reducible apply Moves.by (State.setRtc_moves _ _)); case hs => exact rfl)
    | ((with_reducible apply Moves.put); (case hf => (with_reducible first | apply RTC_STATUS_CENTURY_WRAP_block | apply RTC_SUBSEC_SUBSEC_block)); case hm => exact rfl)
    | ((with_reducible apply Moves.flag); (case hf => (with_reducible first | apply RTC_STATUS_CENTURY_WRAP_block | apply RTC_SUBSEC_SUBSEC_block)); case hm => exact rfl)
    | with_reducible apply ite_moves
    | (extract_lets +onlyGivenNames x; apply Moves.cut (m := 68719478784) (z := z) x; (case' h => unfold x); (case' k => (clear_value x; intro _)))
    | (extract_lets +onlyGivenNames x; clear_value x)
    | split
    | (rename_i hq; split at hq)
    | (rename_i hq; obtain ⟨_, rfl⟩ := Prod.mk.inj hq)

/-- May change: registers of block 9. -/
theorem State.almFire_moves (z : State) (i : Nat) (skipped : Bool) (disarm : Bool) : Moves 68719476736 z (State.almFire z i skipped disarm) := by
  unfold State.almFire
  repeat'
    first
    | with_reducible apply Moves.refl
    | with_reducible assumption
    | intro _
    | ((with_reducible apply Moves.flag); (case hf => (with_reducible first | apply almEn_block | apply almSkipped_block | apply almOneshot_block | apply almFlag_block | apply RTC_ALMCTRL_A_EN_block | apply RTC_ALMCTRL_B_EN_block | apply RTC_STATUS_ALMA_F_block | apply RTC_STATUS_ALMB_F_block | apply RTC_STATUS_SKIPPED_A_block | apply RTC_STATUS_SKIPPED_B_block)); case hm => exact rfl)
    | with_reducible apply ite_moves
    | (extract_lets +onlyGivenNames x; apply Moves.cut (m := 68719476736) (z := z) x; (case' h => unfold x); (case' k => (clear_value x; intro _)))
    | (extract_lets +onlyGivenNames x; clear_value x)
    | split
    | (rename_i hq; split at hq)
    | (rename_i hq; obtain ⟨_, rfl⟩ := Prod.mk.inj hq)

/-- May change: power, evr, core0, core1, registers of block 0 9 11. -/
theorem State.almFireAll_moves (z : State) (is : List Nat) (skipped : Bool) : Moves 343731703840 z (State.almFireAll z is skipped) := by
  unfold State.almFireAll
  repeat'
    first
    | with_reducible apply Moves.refl
    | with_reducible assumption
    | intro _
    | ((with_reducible apply Moves.by (State.raiseIf_moves _ _ _)); case hs => exact rfl)
    | ((with_reducible apply Moves.by (State.almFire_moves _ _ _ _)); case hs => exact rfl)
    | with_reducible apply ite_moves
    | with_reducible apply foldl_moves
    | (extract_lets +onlyGivenNames x; apply Moves.cut (m := 343731703840) (z := z) x; (case' h => unfold x); (case' k => (clear_value x; intro _)))
    | (extract_lets +onlyGivenNames x; clear_value x)
    | split
    | (rename_i hq; split at hq)
    | (rename_i hq; obtain ⟨_, rfl⟩ := Prod.mk.inj hq)

/-- May change: power, evr, core0, core1, registers of block 0 9 11. -/
theorem State.almArm_moves (z : State) (i : Nat) : Moves 343731703840 z (State.almArm z i) := by
  unfold State.almArm
  repeat'
    first
    | with_reducible apply Moves.refl
    | with_reducible assumption
    | intro _
    | ((with_reducible apply Moves.by (State.raise_moves _ _)); case hs => exact rfl)
    | ((with_reducible apply Moves.by (State.almFire_moves _ _ _ _)); case hs => exact rfl)
    | ((with_reducible apply Moves.flag); (case hf => (with_reducible first | apply almEn_block | apply RTC_ALMCTRL_A_EN_block | apply RTC_ALMCTRL_B_EN_block | apply RTC_STATUS_DATE_INVALID_block)); case hm => exact rfl)
    | with_reducible apply ite_moves
    | (extract_lets +onlyGivenNames x; apply Moves.cut (m := 343731703840) (z := z) x; (case' h => unfold x); (case' k => (clear_value x; intro _)))
    | (extract_lets +onlyGivenNames x; clear_value x)
    | split
    | (rename_i hq; split at hq)
    | (rename_i hq; obtain ⟨_, rfl⟩ := Prod.mk.inj hq)

/-- May change: power, rtc, evr, core0, core1, registers of block 0 9 11. -/
theorem State.takeSet_moves (z : State) (t : CalTime) (at_ : Bool) (due : Option Nat) : Moves 343731705888 z (State.takeSet z t at_ due) := by
  unfold State.takeSet
  repeat'
    first
    | with_reducible apply Moves.refl
    | with_reducible assumption
    | intro _
    | ((with_reducible apply Moves.by (State.raise_moves _ _)); case hs => exact rfl)
    | ((with_reducible apply Moves.by (State.setRtc_moves _ _)); case hs => exact rfl)
    | ((with_reducible apply Moves.flag); (case hf => (with_reducible first | apply RTC_STATUS_DATE_INVALID_block | apply RTC_STATUS_SET_PEND_block)); case hm => exact rfl)
    | with_reducible apply ite_moves
    | (extract_lets +onlyGivenNames x; apply Moves.cut (m := 343731705888) (z := z) x; (case' h => unfold x); (case' k => (clear_value x; intro _)))
    | (extract_lets +onlyGivenNames x; clear_value x)
    | split
    | (rename_i hq; split at hq)
    | (rename_i hq; obtain ⟨_, rfl⟩ := Prod.mk.inj hq)

/-- May change: power, rtc, evr, core0, core1, registers of block 0 9 11. -/
theorem State.loadSet_moves (z : State) (t : CalTime) : Moves 343731705888 z (State.loadSet z t) := by
  unfold State.loadSet
  repeat'
    first
    | with_reducible apply Moves.refl
    | with_reducible assumption
    | intro _
    | ((with_reducible apply Moves.by (State.almFireAll_moves _ _ _)); case hs => exact rfl)
    | ((with_reducible apply Moves.by (State.setCal_moves _ _)); case hs => exact rfl)
    | ((with_reducible apply Moves.by (State.setRtc_moves _ _)); case hs => exact rfl)
    | ((with_reducible apply Moves.put); (case hf => (with_reducible first | apply almEn_block | apply RTC_STATUS_OSC_STOP_block | apply RTC_STATUS_SET_PEND_block | apply RTC_SUBSEC_SUBSEC_block)); case hm => exact rfl)
    | ((with_reducible apply Moves.flag); (case hf => (with_reducible first | apply almEn_block | apply RTC_STATUS_OSC_STOP_block | apply RTC_STATUS_SET_PEND_block | apply RTC_SUBSEC_SUBSEC_block)); case hm => exact rfl)
    | with_reducible apply ite_moves
    | (extract_lets +onlyGivenNames x; apply Moves.cut (m := 343731705888) (z := z) x; (case' h => unfold x); (case' k => (clear_value x; intro _)))
    | (extract_lets +onlyGivenNames x; clear_value x)
    | split
    | (rename_i hq; split at hq)
    | (rename_i hq; obtain ⟨_, rfl⟩ := Prod.mk.inj hq)

/-- May change: power, rtc, evr, core0, core1, registers of block 0 9 11. -/
theorem State.oscCycle_moves (z : State) : Moves 343731705888 z (State.oscCycle z) := by
  unfold State.oscCycle
  repeat'
    first
    | with_reducible apply Moves.refl
    | with_reducible assumption
    | intro _
    | ((with_reducible apply Moves.by (State.loadSet_moves _ _)); case hs => exact rfl)
    | ((with_reducible apply Moves.by (State.calTick_moves _)); case hs => exact rfl)
    | ((with_reducible apply Moves.by (State.setRtc_moves _ _)); case hs => exact rfl)
    | with_reducible apply ite_moves
    | with_reducible apply foldl_moves
    | (extract_lets +onlyGivenNames x; apply Moves.cut (m := 343731705888) (z := z) x; (case' h => unfold x); (case' k => (clear_value x; intro _)))
    | (extract_lets +onlyGivenNames x; clear_value x)
    | split
    | (rename_i hq; split at hq)
    | (rename_i hq; obtain ⟨_, rfl⟩ := Prod.mk.inj hq)

/-- May change: registers of block 9. -/
theorem State.measureEnd_moves (z : State) (status : Nat) : Moves 68719476736 z (State.measureEnd z status) := by
  unfold State.measureEnd
  repeat'
    first
    | with_reducible apply Moves.refl
    | with_reducible assumption
    | intro _
    | ((with_reducible apply Moves.put); (case hf => (with_reducible first | apply RTC_STATUS_MEAS_BUSY_block | apply RTC_TRIMRES_STATUS_block)); case hm => exact rfl)
    | ((with_reducible apply Moves.flag); (case hf => (with_reducible first | apply RTC_STATUS_MEAS_BUSY_block | apply RTC_TRIMRES_STATUS_block)); case hm => exact rfl)
    | with_reducible apply ite_moves
    | (extract_lets +onlyGivenNames x; apply Moves.cut (m := 68719476736) (z := z) x; (case' h => unfold x); (case' k => (clear_value x; intro _)))
    | (extract_lets +onlyGivenNames x; clear_value x)
    | split
    | (rename_i hq; split at hq)
    | (rename_i hq; obtain ⟨_, rfl⟩ := Prod.mk.inj hq)

/-- May change: registers of block 9. -/
theorem State.measureNoTime_moves (z : State) : Moves 68719476736 z (State.measureNoTime z) := by
  unfold State.measureNoTime
  repeat'
    first
    | with_reducible apply Moves.refl
    | with_reducible assumption
    | intro _
    | ((with_reducible apply Moves.by (State.measureEnd_moves _ _)); case hs => exact rfl)
    | with_reducible apply ite_moves
    | (extract_lets +onlyGivenNames x; apply Moves.cut (m := 68719476736) (z := z) x; (case' h => unfold x); (case' k => (clear_value x; intro _)))
    | (extract_lets +onlyGivenNames x; clear_value x)
    | split
    | (rename_i hq; split at hq)
    | (rename_i hq; obtain ⟨_, rfl⟩ := Prod.mk.inj hq)

/-- May change: rtc, registers of block 9. -/
theorem State.trimWrite_moves (z : State) (e : Int) : Moves 68719478784 z (State.trimWrite z e) := by
  unfold State.trimWrite
  repeat'
    first
    | with_reducible apply Moves.refl
    | with_reducible assumption
    | intro _
    | ((with_reducible apply Moves.by (State.setRtc_moves _ _)); case hs => exact rfl)
    | ((with_reducible apply Moves.put); (case hf => (with_reducible apply RTC_TRIM_E_block)); case hm => exact rfl)
    | with_reducible apply ite_moves
    | (extract_lets +onlyGivenNames x; apply Moves.cut (m := 68719478784) (z := z) x; (case' h => unfold x); (case' k => (clear_value x; intro _)))
    | (extract_lets +onlyGivenNames x; clear_value x)
    | split
    | (rename_i hq; split at hq)
    | (rename_i hq; obtain ⟨_, rfl⟩ := Prod.mk.inj hq)

/-- May change: mem, registers of block 9. -/
theorem State.bkpErase_moves (z : State) : Moves 68719476740 z (State.bkpErase z) := by
  unfold State.bkpErase
  repeat'
    first
    | with_reducible apply Moves.refl
    | with_reducible assumption
    | intro _
    | ((with_reducible apply Moves.by (State.zeroBytes_moves _ _ _)); case hs => exact rfl)
    | ((with_reducible apply Moves.flag); (case hf => (with_reducible apply RTC_CMPSTAT_ERASED_block)); case hm => exact rfl)
    | with_reducible apply ite_moves
    | (extract_lets +onlyGivenNames x; apply Moves.cut (m := 68719476740) (z := z) x; (case' h => unfold x); (case' k => (clear_value x; intro _)))
    | (extract_lets +onlyGivenNames x; clear_value x)
    | split
    | (rename_i hq; split at hq)
    | (rename_i hq; obtain ⟨_, rfl⟩ := Prod.mk.inj hq)

end Sys2Proof.Machine
end

