-- ==== Sys2Proof/Laws/Gnss.lean ====
section
/-! SUPPORT. What the operations of Machine/Gnss.lean may change. -/
set_option linter.all false
namespace Sys2Proof.Machine

set_option linter.tactic.unusedName false

theorem corrField_block (c i : Nat) : (corrField c i).inBlock 8 :=
  getD_block (by simp only [allIn, List.forall_mem_cons, GNS_CCORR0_VALUE_block, GNS_CCORR1_VALUE_block, GNS_CCORR2_VALUE_block, GNS_CCORR3_VALUE_block, GNS_CCORR4_VALUE_block, GNS_CCORR5_VALUE_block, GNS_CCORR6_VALUE_block, GNS_CCORR7_VALUE_block, GNS_CCORR8_VALUE_block, GNS_CCORR9_VALUE_block, GNS_CCORR10_VALUE_block, GNS_CCORR11_VALUE_block, GNS_CCORR12_VALUE_block, GNS_CCORR13_VALUE_block]; simp) (GNS_CCORR0_VALUE_block c)

/-- May change: gnss. -/
theorem State.setGnss_moves (z : State) (g : Gnss) : Moves 1024 z (State.setGnss z g) := by
  unfold State.setGnss
  repeat'
    first
    | with_reducible apply Moves.refl
    | with_reducible assumption
    | intro _
    | ((with_reducible apply Moves.by (State.with_gnss_moves _ _)); case hs => exact rfl)
    | rw [State.with_gnss_eq]
    | with_reducible apply ite_moves
    | (extract_lets +onlyGivenNames x; apply Moves.cut (m := 1024) (z := z) x; (case' h => unfold x); (case' k => (clear_value x; intro _)))
    | (extract_lets +onlyGivenNames x; clear_value x)
    | split
    | (rename_i hq; split at hq)
    | (rename_i hq; obtain ⟨_, rfl⟩ := Prod.mk.inj hq)

/-- May change: gnss, registers of block 8. -/
theorem execAcqPush_goes (z : State) : Goes 34359739392 z (execAcqPush z) := by
  unfold execAcqPush
  repeat'
    first
    | with_reducible apply Moves.refl
    | with_reducible assumption
    | intro _
    | with_reducible apply goOn_goes
    | with_reducible apply ite_goes
    | ((with_reducible apply Moves.by (State.setGnss_moves _ _)); case hs => exact rfl)
    | ((with_reducible apply Moves.flag); (case hf => (with_reducible apply GNS_ACQSTAT_ACQ_REJ_block)); case hm => exact rfl)
    | with_reducible apply ite_moves
    | (extract_lets +onlyGivenNames x; apply Moves.cut (m := 34359739392) (z := z) x; (case' h => unfold x); (case' k => (clear_value x; intro _)))
    | (extract_lets +onlyGivenNames x; clear_value x)
    | split
    | (rename_i hq; split at hq)
    | (rename_i hq; obtain ⟨_, rfl⟩ := Prod.mk.inj hq)

/-- May change: power, gnss, evr, core0, core1, registers of block 0 11. -/
theorem State.acqFinish_moves (z : State) (r : List Byte) : Moves 275012228128 z (State.acqFinish z r) := by
  unfold State.acqFinish
  repeat'
    first
    | with_reducible apply Moves.refl
    | with_reducible assumption
    | intro _
    | ((with_reducible apply Moves.by (State.setGnss_moves _ _)); case hs => exact rfl)
    | ((with_reducible apply Moves.by (State.raise_moves _ _)); case hs => exact rfl)
    | with_reducible apply ite_moves
    | (extract_lets +onlyGivenNames x; apply Moves.cut (m := 275012228128) (z := z) x; (case' h => unfold x); (case' k => (clear_value x; intro _)))
    | (extract_lets +onlyGivenNames x; clear_value x)
    | split
    | (rename_i hq; split at hq)
    | (rename_i hq; obtain ⟨_, rfl⟩ := Prod.mk.inj hq)

/-- May change: power, gnss, evr, core0, core1, registers of block 0 11. -/
theorem State.acqAbort_moves (z : State) : Moves 275012228128 z (State.acqAbort z) := by
  unfold State.acqAbort
  repeat'
    first
    | with_reducible apply Moves.refl
    | with_reducible assumption
    | intro _
    | ((with_reducible apply Moves.by (State.acqFinish_moves _ _)); case hs => exact rfl)
    | with_reducible apply ite_moves
    | with_reducible apply foldl_moves
    | (extract_lets +onlyGivenNames x; apply Moves.cut (m := 275012228128) (z := z) x; (case' h => unfold x); (case' k => (clear_value x; intro _)))
    | (extract_lets +onlyGivenNames x; clear_value x)
    | split
    | (rename_i hq; split at hq)
    | (rename_i hq; obtain ⟨_, rfl⟩ := Prod.mk.inj hq)

/-- May change: power, gnss, evr, core0, core1, registers of block 0 11. -/
theorem execAcqAbort_goes (z : State) : Goes 275012228128 z (execAcqAbort z) := by
  unfold execAcqAbort
  repeat'
    first
    | with_reducible apply Moves.refl
    | with_reducible assumption
    | intro _
    | with_reducible apply goOn_goes
    | with_reducible apply ite_goes
    | ((with_reducible apply Moves.by (State.acqAbort_moves _)); case hs => exact rfl)
    | (extract_lets +onlyGivenNames x; apply Moves.cut (m := 275012228128) (z := z) x; (case' h => unfold x); (case' k => (clear_value x; intro _)))
    | (extract_lets +onlyGivenNames x; clear_value x)
    | split
    | (rename_i hq; split at hq)
    | (rename_i hq; obtain ⟨_, rfl⟩ := Prod.mk.inj hq)

/-- May change: gnss. -/
theorem State.setChan_moves (z : State) (c : Nat) (x : GnsChan) : Moves 1024 z (State.setChan z c x) := by
  unfold State.setChan
  repeat'
    first
    | with_reducible apply Moves.refl
    | with_reducible assumption
    | intro _
    | ((with_reducible apply Moves.by (State.setGnss_moves _ _)); case hs => exact rfl)
    | with_reducible apply ite_moves
    | (extract_lets +onlyGivenNames x; apply Moves.cut (m := 1024) (z := z) x; (case' h => unfold x); (case' k => (clear_value x; intro _)))
    | (extract_lets +onlyGivenNames x; clear_value x)
    | split
    | (rename_i hq; split at hq)
    | (rename_i hq; obtain ⟨_, rfl⟩ := Prod.mk.inj hq)

/-- May change: gnss, registers of block 8. -/
theorem State.startChan_moves (z : State) (c : Nat) : Moves 34359739392 z (State.startChan z c) := by
  unfold State.startChan
  repeat'
    first
    | with_reducible apply Moves.refl
    | with_reducible assumption
    | intro _
    | ((with_reducible apply Moves.by (State.setChan_moves _ _ _)); case hs => exact rfl)
    | ((with_reducible apply Moves.flag); (case hf => (with_reducible apply GNS_CCFG_EN_block)); case hm => exact rfl)
    | with_reducible apply ite_moves
    | (extract_lets +onlyGivenNames x; apply Moves.cut (m := 34359739392) (z := z) x; (case' h => unfold x); (case' k => (clear_value x; intro _)))
    | (extract_lets +onlyGivenNames x; clear_value x)
    | split
    | (rename_i hq; split at hq)
    | (rename_i hq; obtain ⟨_, rfl⟩ := Prod.mk.inj hq)

/-- May change: gnss, registers of block 8. -/
theorem State.stopChan_moves (z : State) (c : Nat) : Moves 34359739392 z (State.stopChan z c) := by
  unfold State.stopChan
  repeat'
    first
    | with_reducible apply Moves.refl
    | with_reducible assumption
    | intro _
    | ((with_reducible apply Moves.by (State.setChan_moves _ _ _)); case hs => exact rfl)
    | ((with_reducible apply Moves.put); (case hf => (with_reducible first | apply corrField_block | apply GNS_CCFG_EN_block | apply GNS_CCORR0_VALUE_block | apply GNS_CCORR10_VALUE_block | apply GNS_CCORR11_VALUE_block | apply GNS_CCORR12_VALUE_block | apply GNS_CCORR13_VALUE_block | apply GNS_CCORR1_VALUE_block | apply GNS_CCORR2_VALUE_block | apply GNS_CCORR3_VALUE_block | apply GNS_CCORR4_VALUE_block | apply GNS_CCORR5_VALUE_block | apply GNS_CCORR6_VALUE_block | apply GNS_CCORR7_VALUE_block | apply GNS_CCORR8_VALUE_block | apply GNS_CCORR9_VALUE_block | apply GNS_CDD_DD_block | apply GNS_CHIST_HIST_block | apply GNS_CPOW_POW_block | apply GNS_CSTAT_BLOCK_READY_block | apply GNS_CSTAT_OVR_block | apply GNS_CSTAT_SEQ_block)); case hm => exact rfl)
    | ((with_reducible apply Moves.flag); (case hf => (with_reducible first | apply corrField_block | apply GNS_CCFG_EN_block | apply GNS_CCORR0_VALUE_block | apply GNS_CCORR10_VALUE_block | apply GNS_CCORR11_VALUE_block | apply GNS_CCORR12_VALUE_block | apply GNS_CCORR13_VALUE_block | apply GNS_CCORR1_VALUE_block | apply GNS_CCORR2_VALUE_block | apply GNS_CCORR3_VALUE_block | apply GNS_CCORR4_VALUE_block | apply GNS_CCORR5_VALUE_block | apply GNS_CCORR6_VALUE_block | apply GNS_CCORR7_VALUE_block | apply GNS_CCORR8_VALUE_block | apply GNS_CCORR9_VALUE_block | apply GNS_CDD_DD_block | apply GNS_CHIST_HIST_block | apply GNS_CPOW_POW_block | apply GNS_CSTAT_BLOCK_READY_block | apply GNS_CSTAT_OVR_block | apply GNS_CSTAT_SEQ_block)); case hm => exact rfl)
    | with_reducible apply ite_moves
    | with_reducible apply foldl_moves
    | (extract_lets +onlyGivenNames x; apply Moves.cut (m := 34359739392) (z := z) x; (case' h => unfold x); (case' k => (clear_value x; intro _)))
    | (extract_lets +onlyGivenNames x; clear_value x)
    | split
    | (rename_i hq; split at hq)
    | (rename_i hq; obtain ⟨_, rfl⟩ := Prod.mk.inj hq)

/-- May change: gnss, registers of block 8. -/
theorem State.handOff_moves (z : State) (c : List Byte) (dopp : Int) (codeNow : Nat) : Moves 34359739392 z (State.handOff z c dopp codeNow).2 := by
  unfold State.handOff
  repeat'
    first
    | with_reducible apply Moves.refl
    | with_reducible assumption
    | intro _
    | ((with_reducible apply Moves.by (State.startChan_moves _ _)); case hs => exact rfl)
    | ((with_reducible apply Moves.put); (case hf => (with_reducible first | apply GNS_CCARR_CARR_block | apply GNS_CCFG_PRN_block | apply GNS_CCFG_SYS_block | apply GNS_CPH_PHASE_block)); case hm => exact rfl)
    | with_reducible apply ite_moves
    | with_reducible apply ite_snd_moves
    | (extract_lets +onlyGivenNames x; apply Moves.cut (m := 34359739392) (z := z) x; (case' h => unfold x); (case' k => (clear_value x; intro _)))
    | (extract_lets +onlyGivenNames x; clear_value x)
    | split
    | (rename_i hq; split at hq)
    | (rename_i hq; obtain ⟨_, rfl⟩ := Prod.mk.inj hq)

theorem State.handOff_pair {z : State} {c : List Byte} {dopp : Int} {codeNow : Nat} {b1 : Nat} {u0 : State} {m0 : Nat} {r0 : State} (hp : State.handOff z c dopp codeNow = (b1, u0)) (hs : sub 34359739392 m0 = true) (h : Moves m0 r0 z) : Moves m0 r0 u0 := by
  have g := State.handOff_moves z c dopp codeNow
  rw [hp] at g
  exact h.step g hs

/-- May change: power, gnss, evr, core0, core1, registers of block 0 8 11. -/
theorem execAcqDone_goes (code : Nat) (dopp : Int) (ratio : Nat) (tRef : Nat) (codeNow : Nat) (z : State) : Goes 309371966496 z (execAcqDone code dopp ratio tRef codeNow z) := by
  unfold execAcqDone
  repeat'
    first
    | with_reducible apply Moves.refl
    | with_reducible assumption
    | intro _
    | with_reducible apply goOn_goes
    | with_reducible apply ite_goes
    | ((with_reducible apply Moves.by (State.acqFinish_moves _ _)); case hs => exact rfl)
    | ((with_reducible apply Moves.by (State.handOff_moves _ _ _ _)); case hs => exact rfl)
    | ((with_reducible apply State.handOff_pair); (case hp => assumption); case hs => exact rfl)
    | with_reducible apply ite_moves
    | (extract_lets +onlyGivenNames x; apply Moves.cut (m := 309371966496) (z := z) x; (case' h => unfold x); (case' k => (clear_value x; intro _)))
    | (extract_lets +onlyGivenNames x; clear_value x)
    | split
    | (rename_i hq; split at hq)
    | (rename_i hq; obtain ⟨_, rfl⟩ := Prod.mk.inj hq)

/-- May change: gnss. -/
theorem execAcqPop_goes (z : State) : Goes 1024 z (execAcqPop z) := by
  unfold execAcqPop
  repeat'
    first
    | with_reducible apply Moves.refl
    | with_reducible assumption
    | intro _
    | with_reducible apply goOn_goes
    | with_reducible apply ite_goes
    | ((with_reducible apply Moves.by (State.setGnss_moves _ _)); case hs => exact rfl)
    | (extract_lets +onlyGivenNames x; apply Moves.cut (m := 1024) (z := z) x; (case' h => unfold x); (case' k => (clear_value x; intro _)))
    | (extract_lets +onlyGivenNames x; clear_value x)
    | split
    | (rename_i hq; split at hq)
    | (rename_i hq; obtain ⟨_, rfl⟩ := Prod.mk.inj hq)

/-- May change: gnss, registers of block 8. -/
theorem State.secondary_moves (z : State) (c : Nat) : Moves 34359739392 z (State.secondary z c) := by
  unfold State.secondary
  repeat'
    first
    | with_reducible apply Moves.refl
    | with_reducible assumption
    | intro _
    | ((with_reducible apply Moves.by (State.setChan_moves _ _ _)); case hs => exact rfl)
    | ((with_reducible apply Moves.put); (case hf => (with_reducible apply GNS_CSEC_SECPH_block)); case hm => exact rfl)
    | with_reducible apply ite_moves
    | (extract_lets +onlyGivenNames x; apply Moves.cut (m := 34359739392) (z := z) x; (case' h => unfold x); (case' k => (clear_value x; intro _)))
    | (extract_lets +onlyGivenNames x; clear_value x)
    | split
    | (rename_i hq; split at hq)
    | (rename_i hq; obtain ⟨_, rfl⟩ := Prod.mk.inj hq)

/-- May change: power, gnss, evr, core0, core1, registers of block 0 8 11. -/
theorem execBlockBoundary_goes (chan : Fin 96) (outs : List Int) (z : State) : Goes 309371966496 z (execBlockBoundary chan outs z) := by
  unfold execBlockBoundary
  repeat'
    first
    | with_reducible apply Moves.refl
    | with_reducible assumption
    | intro _
    | with_reducible apply goOn_goes
    | with_reducible apply ite_goes
    | ((with_reducible apply Moves.by (State.setGnss_moves _ _)); case hs => exact rfl)
    | ((with_reducible apply Moves.by (State.setChan_moves _ _ _)); case hs => exact rfl)
    | ((with_reducible apply Moves.by (State.raise_moves _ _)); case hs => exact rfl)
    | ((with_reducible apply Moves.by (State.secondary_moves _ _)); case hs => exact rfl)
    | ((with_reducible apply Moves.put); (case hf => (with_reducible first | apply corrField_block | apply GNS_CCORR0_VALUE_block | apply GNS_CCORR10_VALUE_block | apply GNS_CCORR11_VALUE_block | apply GNS_CCORR12_VALUE_block | apply GNS_CCORR13_VALUE_block | apply GNS_CCORR1_VALUE_block | apply GNS_CCORR2_VALUE_block | apply GNS_CCORR3_VALUE_block | apply GNS_CCORR4_VALUE_block | apply GNS_CCORR5_VALUE_block | apply GNS_CCORR6_VALUE_block | apply GNS_CCORR7_VALUE_block | apply GNS_CCORR8_VALUE_block | apply GNS_CCORR9_VALUE_block | apply GNS_CDD_DD_block | apply GNS_CHIST_HIST_block | apply GNS_CPH_PHASE_block | apply GNS_CSTAT_BLOCK_READY_block | apply GNS_CSTAT_OVR_block | apply GNS_CSTAT_SEQ_block)); case hm => exact rfl)
    | ((with_reducible apply Moves.flag); (case hf => (with_reducible first | apply corrField_block | apply GNS_CCORR0_VALUE_block | apply GNS_CCORR10_VALUE_block | apply GNS_CCORR11_VALUE_block | apply GNS_CCORR12_VALUE_block | apply GNS_CCORR13_VALUE_block | apply GNS_CCORR1_VALUE_block | apply GNS_CCORR2_VALUE_block | apply GNS_CCORR3_VALUE_block | apply GNS_CCORR4_VALUE_block | apply GNS_CCORR5_VALUE_block | apply GNS_CCORR6_VALUE_block | apply GNS_CCORR7_VALUE_block | apply GNS_CCORR8_VALUE_block | apply GNS_CCORR9_VALUE_block | apply GNS_CDD_DD_block | apply GNS_CHIST_HIST_block | apply GNS_CPH_PHASE_block | apply GNS_CSTAT_BLOCK_READY_block | apply GNS_CSTAT_OVR_block | apply GNS_CSTAT_SEQ_block)); case hm => exact rfl)
    | ((with_reducible apply Moves.bumpWrap); (case hf => (with_reducible first | apply corrField_block | apply GNS_CCORR0_VALUE_block | apply GNS_CCORR10_VALUE_block | apply GNS_CCORR11_VALUE_block | apply GNS_CCORR12_VALUE_block | apply GNS_CCORR13_VALUE_block | apply GNS_CCORR1_VALUE_block | apply GNS_CCORR2_VALUE_block | apply GNS_CCORR3_VALUE_block | apply GNS_CCORR4_VALUE_block | apply GNS_CCORR5_VALUE_block | apply GNS_CCORR6_VALUE_block | apply GNS_CCORR7_VALUE_block | apply GNS_CCORR8_VALUE_block | apply GNS_CCORR9_VALUE_block | apply GNS_CDD_DD_block | apply GNS_CHIST_HIST_block | apply GNS_CPH_PHASE_block | apply GNS_CSTAT_BLOCK_READY_block | apply GNS_CSTAT_OVR_block | apply GNS_CSTAT_SEQ_block)); case hm => exact rfl)
    | with_reducible apply ite_moves
    | with_reducible apply foldl_moves
    | (extract_lets +onlyGivenNames x; apply Moves.cut (m := 309371966496) (z := z) x; (case' h => unfold x); (case' k => (clear_value x; intro _)))
    | (extract_lets +onlyGivenNames x; clear_value x)
    | split
    | (rename_i hq; split at hq)
    | (rename_i hq; obtain ⟨_, rfl⟩ := Prod.mk.inj hq)

/-- May change: power, gnss, evr, core0, core1, registers of block 0 8 11. -/
theorem execLockMonitorWindow_goes (chan : Fin 96) (z : State) : Goes 309371966496 z (execLockMonitorWindow chan z) := by
  unfold execLockMonitorWindow
  repeat'
    first
    | with_reducible apply Moves.refl
    | with_reducible assumption
    | intro _
    | with_reducible apply goOn_goes
    | with_reducible apply ite_goes
    | ((with_reducible apply Moves.by (State.setChan_moves _ _ _)); case hs => exact rfl)
    | ((with_reducible apply Moves.by (State.raise_moves _ _)); case hs => exact rfl)
    | ((with_reducible apply Moves.put); (case hf => (with_reducible first | apply GNS_CCFG_LOST_block | apply GNS_CPOW_POW_block)); case hm => exact rfl)
    | ((with_reducible apply Moves.flag); (case hf => (with_reducible first | apply GNS_CCFG_LOST_block | apply GNS_CPOW_POW_block)); case hm => exact rfl)
    | with_reducible apply ite_moves
    | (extract_lets +onlyGivenNames x; apply Moves.cut (m := 309371966496) (z := z) x; (case' h => unfold x); (case' k => (clear_value x; intro _)))
    | (extract_lets +onlyGivenNames x; clear_value x)
    | split
    | (rename_i hq; split at hq)
    | (rename_i hq; obtain ⟨_, rfl⟩ := Prod.mk.inj hq)

/-- May change: power, gnss, evr, core0, core1, registers of block 0 8 11. -/
theorem State.notchStep_moves (cs : List (Nat × Int)) (z : State) (n : Nat) (track : Int) : Moves 309371966496 z (State.notchStep cs z n track) := by
  unfold State.notchStep
  repeat'
    first
    | with_reducible apply Moves.refl
    | with_reducible assumption
    | intro _
    | ((with_reducible apply Moves.by (State.setGnss_moves _ _)); case hs => exact rfl)
    | ((with_reducible apply Moves.by (State.raise_moves _ _)); case hs => exact rfl)
    | ((with_reducible apply Moves.put); (case hf => (with_reducible first | apply GNS_NOTCH_FREQ_block | apply GNS_NOTCH_LOCKED_block)); case hm => exact rfl)
    | ((with_reducible apply Moves.flag); (case hf => (with_reducible first | apply GNS_NOTCH_FREQ_block | apply GNS_NOTCH_LOCKED_block)); case hm => exact rfl)
    | with_reducible apply ite_moves
    | with_reducible apply foldl_moves
    | (extract_lets +onlyGivenNames x; apply Moves.cut (m := 309371966496) (z := z) x; (case' h => unfold x); (case' k => (clear_value x; intro _)))
    | (extract_lets +onlyGivenNames x; clear_value x)
    | split
    | (rename_i hq; split at hq)
    | (rename_i hq; obtain ⟨_, rfl⟩ := Prod.mk.inj hq)

/-- May change: power, gnss, evr, core0, core1, registers of block 0 8 11. -/
theorem execSpectrumUpdate_goes (levels : List Int) (tracks : List Int) (z : State) : Goes 309371966496 z (execSpectrumUpdate levels tracks z) := by
  unfold execSpectrumUpdate
  repeat'
    first
    | with_reducible apply Moves.refl
    | with_reducible assumption
    | intro _
    | with_reducible apply goOn_goes
    | with_reducible apply ite_goes
    | ((with_reducible apply Moves.by (State.notchStep_moves _ _ _ _)); case hs => exact rfl)
    | with_reducible apply ite_moves
    | with_reducible apply foldl_moves
    | (extract_lets +onlyGivenNames x; apply Moves.cut (m := 309371966496) (z := z) x; (case' h => unfold x); (case' k => (clear_value x; intro _)))
    | (extract_lets +onlyGivenNames x; clear_value x)
    | split
    | (rename_i hq; split at hq)
    | (rename_i hq; obtain ⟨_, rfl⟩ := Prod.mk.inj hq)

/-- May change: power, evr, core0, core1, registers of block 0 8 11. -/
theorem execJammingUpdate_goes (p8 : Int) (z : State) : Goes 309371965472 z (execJammingUpdate p8 z) := by
  unfold execJammingUpdate
  repeat'
    first
    | with_reducible apply Moves.refl
    | with_reducible assumption
    | intro _
    | with_reducible apply goOn_goes
    | with_reducible apply ite_goes
    | ((with_reducible apply Moves.by (State.raise_moves _ _)); case hs => exact rfl)
    | ((with_reducible apply Moves.put); (case hf => (with_reducible first | apply GNS_JAM_J_block | apply GNS_STATUS_JAM_block)); case hm => exact rfl)
    | ((with_reducible apply Moves.flag); (case hf => (with_reducible first | apply GNS_JAM_J_block | apply GNS_STATUS_JAM_block)); case hm => exact rfl)
    | with_reducible apply ite_moves
    | (extract_lets +onlyGivenNames x; apply Moves.cut (m := 309371965472) (z := z) x; (case' h => unfold x); (case' k => (clear_value x; intro _)))
    | (extract_lets +onlyGivenNames x; clear_value x)
    | split
    | (rename_i hq; split at hq)
    | (rename_i hq; obtain ⟨_, rfl⟩ := Prod.mk.inj hq)

/-- May change: registers of block 8. -/
theorem execGnssAgcStep_goes (rms : Nat) (z : State) : Goes 34359738368 z (execGnssAgcStep rms z) := by
  unfold execGnssAgcStep
  repeat'
    first
    | with_reducible apply Moves.refl
    | with_reducible assumption
    | intro _
    | with_reducible apply goOn_goes
    | with_reducible apply ite_goes
    | ((with_reducible apply Moves.put); (case hf => (with_reducible apply GNS_GAIN_GAIN_block)); case hm => exact rfl)
    | with_reducible apply ite_moves
    | (extract_lets +onlyGivenNames x; apply Moves.cut (m := 34359738368) (z := z) x; (case' h => unfold x); (case' k => (clear_value x; intro _)))
    | (extract_lets +onlyGivenNames x; clear_value x)
    | split
    | (rename_i hq; split at hq)
    | (rename_i hq; obtain ⟨_, rfl⟩ := Prod.mk.inj hq)

/-- May change: power, gnss, evr, core0, core1, registers of block 0 8 11. -/
theorem State.steerUnlock_moves (z : State) : Moves 309371966496 z (State.steerUnlock z) := by
  unfold State.steerUnlock
  repeat'
    first
    | with_reducible apply Moves.refl
    | with_reducible assumption
    | intro _
    | ((with_reducible apply Moves.by (State.setGnss_moves _ _)); case hs => exact rfl)
    | ((with_reducible apply Moves.by (State.raiseIf_moves _ _ _)); case hs => exact rfl)
    | ((with_reducible apply Moves.flag); (case hf => (with_reducible apply GNS_STATUS_STEER_LOCK_block)); case hm => exact rfl)
    | with_reducible apply ite_moves
    | (extract_lets +onlyGivenNames x; apply Moves.cut (m := 309371966496) (z := z) x; (case' h => unfold x); (case' k => (clear_value x; intro _)))
    | (extract_lets +onlyGivenNames x; clear_value x)
    | split
    | (rename_i hq; split at hq)
    | (rename_i hq; obtain ⟨_, rfl⟩ := Prod.mk.inj hq)

/-- May change: power, gnss, evr, core0, core1, registers of block 0 8 11. -/
theorem State.steerLockStep_moves (z : State) (e : Int) : Moves 309371966496 z (State.steerLockStep z e) := by
  unfold State.steerLockStep
  repeat'
    first
    | with_reducible apply Moves.refl
    | with_reducible assumption
    | intro _
    | ((with_reducible apply Moves.by (State.setGnss_moves _ _)); case hs => exact rfl)
    | ((with_reducible apply Moves.by (State.steerUnlock_moves _)); case hs => exact rfl)
    | ((with_reducible apply Moves.by (State.raise_moves _ _)); case hs => exact rfl)
    | ((with_reducible apply Moves.flag); (case hf => (with_reducible apply GNS_STATUS_STEER_LOCK_block)); case hm => exact rfl)
    | with_reducible apply ite_moves
    | (extract_lets +onlyGivenNames x; apply Moves.cut (m := 309371966496) (z := z) x; (case' h => unfold x); (case' k => (clear_value x; intro _)))
    | (extract_lets +onlyGivenNames x; clear_value x)
    | split
    | (rename_i hq; split at hq)
    | (rename_i hq; obtain ⟨_, rfl⟩ := Prod.mk.inj hq)

/-- May change: tnet, gnss. -/
theorem State.stepTnet_moves (z : State) (d : Int) : Moves 1025 z (State.stepTnet z d) := by
  unfold State.stepTnet
  repeat'
    first
    | with_reducible apply Moves.refl
    | with_reducible assumption
    | intro _
    | ((with_reducible apply Moves.by (State.setGnss_moves _ _)); case hs => exact rfl)
    | ((with_reducible apply Moves.by (State.with_tnet_moves _ _)); case hs => exact rfl)
    | rw [State.with_tnet_eq]
    | with_reducible apply ite_moves
    | (extract_lets +onlyGivenNames x; apply Moves.cut (m := 1025) (z := z) x; (case' h => unfold x); (case' k => (clear_value x; intro _)))
    | (extract_lets +onlyGivenNames x; clear_value x)
    | split
    | (rename_i hq; split at hq)
    | (rename_i hq; obtain ⟨_, rfl⟩ := Prod.mk.inj hq)

/-- May change: tnet, power, mac, gnss, evr, core0, core1, registers of block 0 5 8 11. -/
theorem State.steerStep_moves (z : State) (sec : Nat) (latePs : Nat) : Moves 313666934049 z (State.steerStep z sec latePs) := by
  unfold State.steerStep
  repeat'
    first
    | with_reducible apply Moves.refl
    | with_reducible assumption
    | intro _
    | ((with_reducible apply Moves.by (State.setGnss_moves _ _)); case hs => exact rfl)
    | ((with_reducible apply Moves.by (State.stepTnet_moves _ _)); case hs => exact rfl)
    | ((with_reducible apply Moves.by (State.steerUnlock_moves _)); case hs => exact rfl)
    | ((with_reducible apply Moves.by (State.steerLockStep_moves _ _)); case hs => exact rfl)
    | ((with_reducible apply Moves.by (State.with_mac_moves _ _)); case hs => exact rfl)
    | rw [State.with_mac_eq]
    | ((with_reducible apply Moves.put); (case hf => (with_reducible first | apply GNS_STATUS_COARSE_HOLD_block | apply GNS_STEERE_VALUE_block | apply GNS_STEERR_VALUE_block | apply MAC_CORR_LAST_block)); case hm => exact rfl)
    | ((with_reducible apply Moves.flag); (case hf => (with_reducible first | apply GNS_STATUS_COARSE_HOLD_block | apply GNS_STEERE_VALUE_block | apply GNS_STEERR_VALUE_block | apply MAC_CORR_LAST_block)); case hm => exact rfl)
    | with_reducible apply ite_moves
    | (extract_lets +onlyGivenNames x; apply Moves.cut (m := 313666934049) (z := z) x; (case' h => unfold x); (case' k => (clear_value x; intro _)))
    | (extract_lets +onlyGivenNames x; clear_value x)
    | split
    | (rename_i hq; split at hq)
    | (rename_i hq; obtain ⟨_, rfl⟩ := Prod.mk.inj hq)

/-- May change: gnss. -/
theorem State.takePulse_moves (z : State) : Moves 1024 z (State.takePulse z) := by
  unfold State.takePulse
  repeat'
    first
    | with_reducible apply Moves.refl
    | with_reducible assumption
    | intro _
    | ((with_reducible apply Moves.by (State.setGnss_moves _ _)); case hs => exact rfl)
    | with_reducible apply ite_moves
    | (extract_lets +onlyGivenNames x; apply Moves.cut (m := 1024) (z := z) x; (case' h => unfold x); (case' k => (clear_value x; intro _)))
    | (extract_lets +onlyGivenNames x; clear_value x)
    | split
    | (rename_i hq; split at hq)
    | (rename_i hq; obtain ⟨_, rfl⟩ := Prod.mk.inj hq)

/-- May change: tnet, power, mac, gnss, evr, core0, core1, registers of block 0 5 8 11. -/
theorem execSecondMark_goes (latePs : Fin 13021) (z : State) : Goes 313666934049 z (execSecondMark latePs z) := by
  unfold execSecondMark
  repeat'
    first
    | with_reducible apply Moves.refl
    | with_reducible assumption
    | intro _
    | with_reducible apply goOn_goes
    | with_reducible apply ite_goes
    | ((with_reducible apply Moves.by (State.setGnss_moves _ _)); case hs => exact rfl)
    | ((with_reducible apply Moves.by (State.steerStep_moves _ _ _)); case hs => exact rfl)
    | ((with_reducible apply Moves.by (State.takePulse_moves _)); case hs => exact rfl)
    | ((with_reducible apply Moves.put); (case hf => (with_reducible apply GNS_TPQERR_LATE_PS_block)); case hm => exact rfl)
    | with_reducible apply ite_moves
    | (extract_lets +onlyGivenNames x; apply Moves.cut (m := 313666934049) (z := z) x; (case' h => unfold x); (case' k => (clear_value x; intro _)))
    | (extract_lets +onlyGivenNames x; clear_value x)
    | split
    | (rename_i hq; split at hq)
    | (rename_i hq; obtain ⟨_, rfl⟩ := Prod.mk.inj hq)

/-- May change: power, gnss, evr, core0, core1, registers of block 0 8 11. -/
theorem execTimePulse_goes (latePs : Fin 13021) (z : State) : Goes 309371966496 z (execTimePulse latePs z) := by
  unfold execTimePulse
  repeat'
    first
    | with_reducible apply Moves.refl
    | with_reducible assumption
    | intro _
    | with_reducible apply goOn_goes
    | with_reducible apply ite_goes
    | ((with_reducible apply Moves.by (State.setGnss_moves _ _)); case hs => exact rfl)
    | ((with_reducible apply Moves.by (State.raise_moves _ _)); case hs => exact rfl)
    | ((with_reducible apply Moves.put); (case hf => (with_reducible apply GNS_TPQERR_LATE_PS_block)); case hm => exact rfl)
    | with_reducible apply ite_moves
    | (extract_lets +onlyGivenNames x; apply Moves.cut (m := 309371966496) (z := z) x; (case' h => unfold x); (case' k => (clear_value x; intro _)))
    | (extract_lets +onlyGivenNames x; clear_value x)
    | split
    | (rename_i hq; split at hq)
    | (rename_i hq; obtain ⟨_, rfl⟩ := Prod.mk.inj hq)

/-- May change: gnss. -/
theorem execTimePulseTrailingEdge_goes (z : State) : Goes 1024 z (execTimePulseTrailingEdge z) := by
  unfold execTimePulseTrailingEdge
  repeat'
    first
    | with_reducible apply Moves.refl
    | with_reducible assumption
    | intro _
    | with_reducible apply goOn_goes
    | with_reducible apply ite_goes
    | ((with_reducible apply Moves.by (State.setGnss_moves _ _)); case hs => exact rfl)
    | (extract_lets +onlyGivenNames x; apply Moves.cut (m := 1024) (z := z) x; (case' h => unfold x); (case' k => (clear_value x; intro _)))
    | (extract_lets +onlyGivenNames x; clear_value x)
    | split
    | (rename_i hq; split at hq)
    | (rename_i hq; obtain ⟨_, rfl⟩ := Prod.mk.inj hq)

/-- May change: gnss. -/
theorem execGtimeSet_goes (z : State) : Goes 1024 z (execGtimeSet z) := by
  unfold execGtimeSet
  repeat'
    first
    | with_reducible apply Moves.refl
    | with_reducible assumption
    | intro _
    | with_reducible apply goOn_goes
    | with_reducible apply ite_goes
    | ((with_reducible apply Moves.by (State.setGnss_moves _ _)); case hs => exact rfl)
    | with_reducible apply ite_moves
    | (extract_lets +onlyGivenNames x; apply Moves.cut (m := 1024) (z := z) x; (case' h => unfold x); (case' k => (clear_value x; intro _)))
    | (extract_lets +onlyGivenNames x; clear_value x)
    | split
    | (rename_i hq; split at hq)
    | (rename_i hq; obtain ⟨_, rfl⟩ := Prod.mk.inj hq)

/-- May change: gnss. -/
theorem execGtphaseTrim_goes (value : Word) (z : State) : Goes 1024 z (execGtphaseTrim value z) := by
  unfold execGtphaseTrim
  repeat'
    first
    | with_reducible apply Moves.refl
    | with_reducible assumption
    | intro _
    | with_reducible apply goOn_goes
    | with_reducible apply ite_goes
    | ((with_reducible apply Moves.by (State.setGnss_moves _ _)); case hs => exact rfl)
    | with_reducible apply ite_moves
    | (extract_lets +onlyGivenNames x; apply Moves.cut (m := 1024) (z := z) x; (case' h => unfold x); (case' k => (clear_value x; intro _)))
    | (extract_lets +onlyGivenNames x; clear_value x)
    | split
    | (rename_i hq; split at hq)
    | (rename_i hq; obtain ⟨_, rfl⟩ := Prod.mk.inj hq)

/-- May change: power, gnss, evr, core0, core1, registers of block 0 8 9 11. -/
theorem execTimeValidWrite_goes (valid : Bool) (z : State) : Goes 378091443232 z (execTimeValidWrite valid z) := by
  unfold execTimeValidWrite
  repeat'
    first
    | with_reducible apply Moves.refl
    | with_reducible assumption
    | intro _
    | with_reducible apply goOn_goes
    | with_reducible apply ite_goes
    | ((with_reducible apply Moves.by (State.steerUnlock_moves _)); case hs => exact rfl)
    | ((with_reducible apply Moves.by (State.measureNoTime_moves _)); case hs => exact rfl)
    | ((with_reducible apply Moves.by (State.raise_moves _ _)); case hs => exact rfl)
    | ((with_reducible apply Moves.flag); (case hf => (with_reducible first | apply GNS_GTCTRL_TIME_VALID_block | apply GNS_STATUS_HOLDOVER_block | apply GNS_STATUS_TIME_VALID_block)); case hm => exact rfl)
    | with_reducible apply ite_moves
    | (extract_lets +onlyGivenNames x; apply Moves.cut (m := 378091443232) (z := z) x; (case' h => unfold x); (case' k => (clear_value x; intro _)))
    | (extract_lets +onlyGivenNames x; clear_value x)
    | split
    | (rename_i hq; split at hq)
    | (rename_i hq; obtain ⟨_, rfl⟩ := Prod.mk.inj hq)

/-- May change: tnet, slot, gnss, registers of block 8. -/
theorem execSteerForce_goes (z : State) : Goes 34359739521 z (execSteerForce z) := by
  unfold execSteerForce
  repeat'
    first
    | with_reducible apply Moves.refl
    | with_reducible assumption
    | intro _
    | with_reducible apply goOn_goes
    | with_reducible apply ite_goes
    | ((with_reducible apply Moves.by (State.setGnss_moves _ _)); case hs => exact rfl)
    | ((with_reducible apply Moves.by (State.stepTnet_moves _ _)); case hs => exact rfl)
    | ((with_reducible apply Moves.by (State.with_slot_moves _ _)); case hs => exact rfl)
    | rw [State.with_slot_eq]
    | ((with_reducible apply Moves.flag); (case hf => (with_reducible apply GNS_STATUS_COARSE_HOLD_block)); case hm => exact rfl)
    | with_reducible apply ite_moves
    | (extract_lets +onlyGivenNames x; apply Moves.cut (m := 34359739521) (z := z) x; (case' h => unfold x); (case' k => (clear_value x; intro _)))
    | (extract_lets +onlyGivenNames x; clear_value x)
    | split
    | (rename_i hq; split at hq)
    | (rename_i hq; obtain ⟨_, rfl⟩ := Prod.mk.inj hq)

/-- May change: gnss, registers of block 8. -/
theorem execSteerResetI_goes (z : State) : Goes 34359739392 z (execSteerResetI z) := by
  unfold execSteerResetI
  repeat'
    first
    | with_reducible apply Moves.refl
    | with_reducible assumption
    | intro _
    | with_reducible apply goOn_goes
    | with_reducible apply ite_goes
    | ((with_reducible apply Moves.by (State.setGnss_moves _ _)); case hs => exact rfl)
    | ((with_reducible apply Moves.put); (case hf => (with_reducible apply GNS_STEERR_VALUE_block)); case hm => exact rfl)
    | (extract_lets +onlyGivenNames x; apply Moves.cut (m := 34359739392) (z := z) x; (case' h => unfold x); (case' k => (clear_value x; intro _)))
    | (extract_lets +onlyGivenNames x; clear_value x)
    | split
    | (rename_i hq; split at hq)
    | (rename_i hq; obtain ⟨_, rfl⟩ := Prod.mk.inj hq)

/-- May change: mem, power, gnss, evr, core0, core1, registers of block 0 8 11. -/
theorem execMeasLatch_goes (phases : List (Nat × Int × Nat)) (z : State) : Goes 309371966500 z (execMeasLatch phases z) := by
  unfold execMeasLatch
  repeat'
    first
    | with_reducible apply Moves.refl
    | with_reducible assumption
    | intro _
    | with_reducible apply goOn_goes
    | with_reducible apply ite_goes
    | ((with_reducible apply Moves.by (State.setGnss_moves _ _)); case hs => exact rfl)
    | ((with_reducible apply Moves.by (State.raise_moves _ _)); case hs => exact rfl)
    | ((with_reducible apply Moves.by (State.setBytes_moves _ _ _)); case hs => exact rfl)
    | ((with_reducible apply Moves.put); (case hf => (with_reducible first | apply GNS_MEASSTAT_BUF_block | apply GNS_MEASSTAT_EPOCH_block)); case hm => exact rfl)
    | with_reducible apply ite_moves
    | (extract_lets +onlyGivenNames x; apply Moves.cut (m := 309371966500) (z := z) x; (case' h => unfold x); (case' k => (clear_value x; intro _)))
    | (extract_lets +onlyGivenNames x; clear_value x)
    | split
    | (rename_i hq; split at hq)
    | (rename_i hq; obtain ⟨_, rfl⟩ := Prod.mk.inj hq)

/-- May change: gnss, host. -/
theorem execGnssRestart_goes (start : Nat) (z : State) : Goes 525312 z (execGnssRestart start z) := by
  unfold execGnssRestart
  repeat'
    first
    | with_reducible apply Moves.refl
    | with_reducible assumption
    | intro _
    | with_reducible apply goOn_goes
    | with_reducible apply ite_goes
    | ((with_reducible apply Moves.by (State.setGnss_moves _ _)); case hs => exact rfl)
    | ((with_reducible apply Moves.by (State.answer_moves _ _)); case hs => exact rfl)
    | with_reducible apply ite_moves
    | (extract_lets +onlyGivenNames x; apply Moves.cut (m := 525312) (z := z) x; (case' h => unfold x); (case' k => (clear_value x; intro _)))
    | (extract_lets +onlyGivenNames x; clear_value x)
    | split
    | (rename_i hq; split at hq)
    | (rename_i hq; obtain ⟨_, rfl⟩ := Prod.mk.inj hq)

end Sys2Proof.Machine
end

