-- ==== Sys2Proof/Laws/Memory.lean ====
section
/-! SUPPORT. What the operations of Machine/Memory.lean may change. -/
set_option linter.all false
namespace Sys2Proof.Machine

set_option linter.tactic.unusedName false

/-- May change: mem, poison, faults, power, evr, memctl, core0, core1, registers of block 0 11 12 18. -/
theorem execPatrolRead_goes (sysErr : Fin 32) (pktErr : Fin 16) (z : State) : Goes 36009140138044 z (execPatrolRead sysErr pktErr z) := by
  unfold execPatrolRead
  repeat'
    first
    | with_reducible apply Moves.refl
    | with_reducible assumption
    | intro _
    | with_reducible apply goOn_goes
    | with_reducible apply ite_goes
    | ((with_reducible apply Moves.by (State.poisonWord_moves _ _ _ _)); case hs => exact rfl)
    | ((with_reducible apply Moves.by (State.with_memctl_moves _ _)); case hs => exact rfl)
    | rw [State.with_memctl_eq]
    | ((with_reducible apply Moves.bump); (case hf => (with_reducible apply MEM_STATUS_SCRUB_FOUND_block)); case hm => exact rfl)
    | with_reducible apply ite_moves
    | (extract_lets +onlyGivenNames x; apply Moves.cut (m := 36009140138044) (z := z) x; (case' h => unfold x); (case' k => (clear_value x; intro _)))
    | (extract_lets +onlyGivenNames x; clear_value x)
    | split
    | (rename_i hq; split at hq)
    | (rename_i hq; obtain ⟨_, rfl⟩ := Prod.mk.inj hq)

/-- May change: registers of block 12. -/
theorem execFlipArm_goes (z : State) : Goes 549755813888 z (execFlipArm z) := by
  unfold execFlipArm
  repeat'
    first
    | with_reducible apply Moves.refl
    | with_reducible assumption
    | intro _
    | with_reducible apply goOn_goes
    | with_reducible apply ite_goes
    | ((with_reducible apply Moves.flag); (case hf => (with_reducible first | apply MEM_FLIPCFG_ARM_block | apply MEM_FLIPCFG_USED_block)); case hm => exact rfl)
    | with_reducible apply ite_moves
    | (extract_lets +onlyGivenNames x; apply Moves.cut (m := 549755813888) (z := z) x; (case' h => unfold x); (case' k => (clear_value x; intro _)))
    | (extract_lets +onlyGivenNames x; clear_value x)
    | split
    | (rename_i hq; split at hq)
    | (rename_i hq; obtain ⟨_, rfl⟩ := Prod.mk.inj hq)

/-- May change: mem, faults, power, evr, flash, core0, core1, registers of block 0 11 12 13 18. -/
theorem State.flushAll_moves (z : State) : Moves 37108651774004 z (State.flushAll z) := by
  unfold State.flushAll
  repeat'
    first
    | with_reducible apply Moves.refl
    | with_reducible assumption
    | intro _
    | ((with_reducible apply Moves.by (State.kick_moves _)); case hs => exact rfl)
    | ((with_reducible apply Moves.by (State.mergeTrigger_moves _ _)); case hs => exact rfl)
    | with_reducible apply ite_moves
    | (extract_lets +onlyGivenNames x; apply Moves.cut (m := 37108651774004) (z := z) x; (case' h => unfold x); (case' k => (clear_value x; intro _)))
    | (extract_lets +onlyGivenNames x; clear_value x)
    | split
    | (rename_i hq; split at hq)
    | (rename_i hq; obtain ⟨_, rfl⟩ := Prod.mk.inj hq)

/-- May change: mem, faults, power, evr, flash, core0, core1, registers of block 0 11 12 13 18. -/
theorem execMergeFlush_goes (z : State) : Goes 37108651774004 z (execMergeFlush z) := by
  unfold execMergeFlush
  repeat'
    first
    | with_reducible apply Moves.refl
    | with_reducible assumption
    | intro _
    | with_reducible apply goOn_goes
    | with_reducible apply ite_goes
    | ((with_reducible apply Moves.by (State.flushAll_moves _)); case hs => exact rfl)
    | (extract_lets +onlyGivenNames x; apply Moves.cut (m := 37108651774004) (z := z) x; (case' h => unfold x); (case' k => (clear_value x; intro _)))
    | (extract_lets +onlyGivenNames x; clear_value x)
    | split
    | (rename_i hq; split at hq)
    | (rename_i hq; obtain ⟨_, rfl⟩ := Prod.mk.inj hq)

/-- May change: mem, faults, power, evr, flash, core0, core1, registers of block 0 11 12 13 18. -/
theorem execMergeIdleFlush_goes (z : State) : Goes 37108651774004 z (execMergeIdleFlush z) := by
  unfold execMergeIdleFlush
  repeat'
    first
    | with_reducible apply Moves.refl
    | with_reducible assumption
    | intro _
    | with_reducible apply goOn_goes
    | with_reducible apply ite_goes
    | ((with_reducible apply Moves.by (State.flushAll_moves _)); case hs => exact rfl)
    | (extract_lets +onlyGivenNames x; apply Moves.cut (m := 37108651774004) (z := z) x; (case' h => unfold x); (case' k => (clear_value x; intro _)))
    | (extract_lets +onlyGivenNames x; clear_value x)
    | split
    | (rename_i hq; split at hq)
    | (rename_i hq; obtain ⟨_, rfl⟩ := Prod.mk.inj hq)

/-- May change: faults, power, evr, core0, core1, registers of block 0 11 18. -/
theorem execFaultReport_goes (cls : Fin 4) (src : Fin 64) (addr : Word) (detail : Fin 256) (z : State) : Goes 35459384315952 z (execFaultReport cls src addr detail z) := by
  unfold execFaultReport
  repeat'
    first
    | with_reducible apply Moves.refl
    | with_reducible assumption
    | intro _
    | with_reducible apply goOn_goes
    | with_reducible apply ite_goes
    | ((with_reducible apply Moves.by (State.report_moves _ _ _ _ _ _)); case hs => exact rfl)
    | (extract_lets +onlyGivenNames x; apply Moves.cut (m := 35459384315952) (z := z) x; (case' h => unfold x); (case' k => (clear_value x; intro _)))
    | (extract_lets +onlyGivenNames x; clear_value x)
    | split
    | (rename_i hq; split at hq)
    | (rename_i hq; obtain ⟨_, rfl⟩ := Prod.mk.inj hq)

/-- May change: faults. -/
theorem State.closeSource_moves (z : State) (src : Nat) : Moves 16 z (State.closeSource z src) := by
  unfold State.closeSource
  repeat'
    first
    | with_reducible apply Moves.refl
    | with_reducible assumption
    | intro _
    | ((with_reducible apply Moves.by (State.with_faults_moves _ _)); case hs => exact rfl)
    | rw [State.with_faults_eq]
    | with_reducible apply ite_moves
    | (extract_lets +onlyGivenNames x; apply Moves.cut (m := 16) (z := z) x; (case' h => unfold x); (case' k => (clear_value x; intro _)))
    | (extract_lets +onlyGivenNames x; clear_value x)
    | split
    | (rename_i hq; split at hq)
    | (rename_i hq; obtain ⟨_, rfl⟩ := Prod.mk.inj hq)

/-- May change: faults. -/
theorem State.closeFatal_moves (z : State) : Moves 16 z (State.closeFatal z) := by
  unfold State.closeFatal
  repeat'
    first
    | with_reducible apply Moves.refl
    | with_reducible assumption
    | intro _
    | ((with_reducible apply Moves.by (State.with_faults_moves _ _)); case hs => exact rfl)
    | rw [State.with_faults_eq]
    | with_reducible apply ite_moves
    | (extract_lets +onlyGivenNames x; apply Moves.cut (m := 16) (z := z) x; (case' h => unfold x); (case' k => (clear_value x; intro _)))
    | (extract_lets +onlyGivenNames x; clear_value x)
    | split
    | (rename_i hq; split at hq)
    | (rename_i hq; obtain ⟨_, rfl⟩ := Prod.mk.inj hq)

/-- May change: faults. -/
theorem execFaultClose_goes (src : Fin 256) (srcEn : Bool) (fatal : Bool) (z : State) : Goes 16 z (execFaultClose src srcEn fatal z) := by
  unfold execFaultClose
  repeat'
    first
    | with_reducible apply Moves.refl
    | with_reducible assumption
    | intro _
    | with_reducible apply goOn_goes
    | with_reducible apply ite_goes
    | ((with_reducible apply Moves.by (State.closeSource_moves _ _)); case hs => exact rfl)
    | ((with_reducible apply Moves.by (State.closeFatal_moves _)); case hs => exact rfl)
    | with_reducible apply ite_moves
    | (extract_lets +onlyGivenNames x; apply Moves.cut (m := 16) (z := z) x; (case' h => unfold x); (case' k => (clear_value x; intro _)))
    | (extract_lets +onlyGivenNames x; clear_value x)
    | split
    | (rename_i hq; split at hq)
    | (rename_i hq; obtain ⟨_, rfl⟩ := Prod.mk.inj hq)

/-- May change: faults, registers of block 18. -/
theorem execFaultPop_goes (z : State) : Goes 35184372088848 z (execFaultPop z) := by
  unfold execFaultPop
  repeat'
    first
    | with_reducible apply Moves.refl
    | with_reducible assumption
    | intro _
    | with_reducible apply goOn_goes
    | with_reducible apply ite_goes
    | ((with_reducible apply Moves.by (State.with_faults_moves _ _)); case hs => exact rfl)
    | rw [State.with_faults_eq]
    | ((with_reducible apply Moves.flag); (case hf => (with_reducible apply ERR_STATUS_POP_REJ_block)); case hm => exact rfl)
    | with_reducible apply ite_moves
    | (extract_lets +onlyGivenNames x; apply Moves.cut (m := 35184372088848) (z := z) x; (case' h => unfold x); (case' k => (clear_value x; intro _)))
    | (extract_lets +onlyGivenNames x; clear_value x)
    | split
    | (rename_i hq; split at hq)
    | (rename_i hq; obtain ⟨_, rfl⟩ := Prod.mk.inj hq)

/-- May change: faults, power, evr, core0, core1, registers of block 0 11 18. -/
theorem execFaultInject_goes (cls : Fin 4) (z : State) : Goes 35459384315952 z (execFaultInject cls z) := by
  unfold execFaultInject
  repeat'
    first
    | with_reducible apply Moves.refl
    | with_reducible assumption
    | intro _
    | with_reducible apply goOn_goes
    | with_reducible apply ite_goes
    | ((with_reducible apply Moves.by (State.report_moves _ _ _ _ _ _)); case hs => exact rfl)
    | with_reducible apply ite_moves
    | (extract_lets +onlyGivenNames x; apply Moves.cut (m := 35459384315952) (z := z) x; (case' h => unfold x); (case' k => (clear_value x; intro _)))
    | (extract_lets +onlyGivenNames x; clear_value x)
    | split
    | (rename_i hq; split at hq)
    | (rename_i hq; obtain ⟨_, rfl⟩ := Prod.mk.inj hq)

end Sys2Proof.Machine
end

