-- ==== Sys2Proof/Laws/Rtc.lean ====
section
/-! SUPPORT. What the operations of Machine/Rtc.lean may change. -/
set_option linter.all false
namespace Sys2Proof.Machine

set_option linter.tactic.unusedName false

/-- May change: power, rtc, evr, core0, core1, registers of block 0 9 11. -/
theorem execRtcTick_goes (z : State) : Goes 343731705888 z (execRtcTick z) := by
  unfold execRtcTick
  repeat'
    first
    | with_reducible apply Moves.refl
    | with_reducible assumption
    | intro _
    | with_reducible apply goOn_goes
    | with_reducible apply ite_goes
    | ((with_reducible apply Moves.by (State.oscCycle_moves _)); case hs => exact rfl)
    | with_reducible apply ite_moves
    | (extract_lets +onlyGivenNames x; apply Moves.cut (m := 343731705888) (z := z) x; (case' h => unfold x); (case' k => (clear_value x; intro _)))
    | (extract_lets +onlyGivenNames x; clear_value x)
    | split
    | (rename_i hq; split at hq)
    | (rename_i hq; obtain ⟨_, rfl⟩ := Prod.mk.inj hq)

/-- May change: power, rtc, evr, core0, core1, registers of block 0 9 11. -/
theorem execAlarmFire_goes (z : State) : Goes 343731705888 z (execAlarmFire z) := by
  unfold execAlarmFire
  repeat'
    first
    | with_reducible apply Moves.refl
    | with_reducible assumption
    | intro _
    | with_reducible apply goOn_goes
    | with_reducible apply ite_goes
    | ((with_reducible apply Moves.by (State.almFireAll_moves _ _ _)); case hs => exact rfl)
    | ((with_reducible apply Moves.by (State.setRtc_moves _ _)); case hs => exact rfl)
    | with_reducible apply ite_moves
    | (extract_lets +onlyGivenNames x; apply Moves.cut (m := 343731705888) (z := z) x; (case' h => unfold x); (case' k => (clear_value x; intro _)))
    | (extract_lets +onlyGivenNames x; clear_value x)
    | split
    | (rename_i hq; split at hq)
    | (rename_i hq; obtain ⟨_, rfl⟩ := Prod.mk.inj hq)

/-- May change: faults, power, rtc, evr, core0, core1, registers of block 0 9 11 18. -/
theorem execOscStop_goes (z : State) : Goes 35528103794736 z (execOscStop z) := by
  unfold execOscStop
  repeat'
    first
    | with_reducible apply Moves.refl
    | with_reducible assumption
    | intro _
    | with_reducible apply goOn_goes
    | with_reducible apply ite_goes
    | ((with_reducible apply Moves.by (State.measureEnd_moves _ _)); case hs => exact rfl)
    | ((with_reducible apply Moves.by (State.report_moves _ _ _ _ _ _)); case hs => exact rfl)
    | ((with_reducible apply Moves.by (State.raise_moves _ _)); case hs => exact rfl)
    | ((with_reducible apply Moves.by (State.setRtc_moves _ _)); case hs => exact rfl)
    | ((with_reducible apply Moves.flag); (case hf => (with_reducible apply RTC_STATUS_OSC_STOP_block)); case hm => exact rfl)
    | with_reducible apply ite_moves
    | (extract_lets +onlyGivenNames x; apply Moves.cut (m := 35528103794736) (z := z) x; (case' h => unfold x); (case' k => (clear_value x; intro _)))
    | (extract_lets +onlyGivenNames x; clear_value x)
    | split
    | (rename_i hq; split at hq)
    | (rename_i hq; obtain ⟨_, rfl⟩ := Prod.mk.inj hq)

/-- May change: rtc. -/
theorem execOscReturn_goes (z : State) : Goes 2048 z (execOscReturn z) := by
  unfold execOscReturn
  repeat'
    first
    | with_reducible apply Moves.refl
    | with_reducible assumption
    | intro _
    | with_reducible apply goOn_goes
    | with_reducible apply ite_goes
    | ((with_reducible apply Moves.by (State.setRtc_moves _ _)); case hs => exact rfl)
    | (extract_lets +onlyGivenNames x; apply Moves.cut (m := 2048) (z := z) x; (case' h => unfold x); (case' k => (clear_value x; intro _)))
    | (extract_lets +onlyGivenNames x; clear_value x)
    | split
    | (rename_i hq; split at hq)
    | (rename_i hq; obtain ⟨_, rfl⟩ := Prod.mk.inj hq)

/-- May change: power, rtc, evr, core0, core1, registers of block 0 9 11. -/
theorem execRtcSet_goes (z : State) : Goes 343731705888 z (execRtcSet z) := by
  unfold execRtcSet
  repeat'
    first
    | with_reducible apply Moves.refl
    | with_reducible assumption
    | intro _
    | with_reducible apply goOn_goes
    | with_reducible apply ite_goes
    | ((with_reducible apply Moves.by (State.takeSet_moves _ _ _ _)); case hs => exact rfl)
    | (extract_lets +onlyGivenNames x; apply Moves.cut (m := 343731705888) (z := z) x; (case' h => unfold x); (case' k => (clear_value x; intro _)))
    | (extract_lets +onlyGivenNames x; clear_value x)
    | split
    | (rename_i hq; split at hq)
    | (rename_i hq; obtain ⟨_, rfl⟩ := Prod.mk.inj hq)

/-- May change: power, rtc, evr, core0, core1, registers of block 0 9 11. -/
theorem execRtcSetAt_goes (z : State) : Goes 343731705888 z (execRtcSetAt z) := by
  unfold execRtcSetAt
  repeat'
    first
    | with_reducible apply Moves.refl
    | with_reducible assumption
    | intro _
    | with_reducible apply goOn_goes
    | with_reducible apply ite_goes
    | ((with_reducible apply Moves.by (State.takeSet_moves _ _ _ _)); case hs => exact rfl)
    | (extract_lets +onlyGivenNames x; apply Moves.cut (m := 343731705888) (z := z) x; (case' h => unfold x); (case' k => (clear_value x; intro _)))
    | (extract_lets +onlyGivenNames x; clear_value x)
    | split
    | (rename_i hq; split at hq)
    | (rename_i hq; obtain ⟨_, rfl⟩ := Prod.mk.inj hq)

/-- May change: rtc, registers of block 9. -/
theorem execRtcSetCancel_goes (z : State) : Goes 68719478784 z (execRtcSetCancel z) := by
  unfold execRtcSetCancel
  repeat'
    first
    | with_reducible apply Moves.refl
    | with_reducible assumption
    | intro _
    | with_reducible apply goOn_goes
    | with_reducible apply ite_goes
    | ((with_reducible apply Moves.by (State.setRtc_moves _ _)); case hs => exact rfl)
    | ((with_reducible apply Moves.flag); (case hf => (with_reducible apply RTC_STATUS_SET_PEND_block)); case hm => exact rfl)
    | (extract_lets +onlyGivenNames x; apply Moves.cut (m := 68719478784) (z := z) x; (case' h => unfold x); (case' k => (clear_value x; intro _)))
    | (extract_lets +onlyGivenNames x; clear_value x)
    | split
    | (rename_i hq; split at hq)
    | (rename_i hq; obtain ⟨_, rfl⟩ := Prod.mk.inj hq)

/-- May change: power, rtc, evr, core0, core1, registers of block 0 9 11. -/
theorem execRtcSetApply_goes (z : State) : Goes 343731705888 z (execRtcSetApply z) := by
  unfold execRtcSetApply
  repeat'
    first
    | with_reducible apply Moves.refl
    | with_reducible assumption
    | intro _
    | with_reducible apply goOn_goes
    | with_reducible apply ite_goes
    | ((with_reducible apply Moves.by (State.oscCycle_moves _)); case hs => exact rfl)
    | with_reducible apply ite_moves
    | (extract_lets +onlyGivenNames x; apply Moves.cut (m := 343731705888) (z := z) x; (case' h => unfold x); (case' k => (clear_value x; intro _)))
    | (extract_lets +onlyGivenNames x; clear_value x)
    | split
    | (rename_i hq; split at hq)
    | (rename_i hq; obtain ⟨_, rfl⟩ := Prod.mk.inj hq)

/-- May change: power, rtc, evr, core0, core1, host, registers of block 0 9 11. -/
theorem execSetFromNetworkTime_goes (value : Nat) (z : State) : Goes 343732230176 z (execSetFromNetworkTime value z) := by
  unfold execSetFromNetworkTime
  repeat'
    first
    | with_reducible apply Moves.refl
    | with_reducible assumption
    | intro _
    | with_reducible apply goOn_goes
    | with_reducible apply ite_goes
    | ((with_reducible apply Moves.by (State.answer_moves _ _)); case hs => exact rfl)
    | ((with_reducible apply Moves.by (State.takeSet_moves _ _ _ _)); case hs => exact rfl)
    | with_reducible apply ite_moves
    | (extract_lets +onlyGivenNames x; apply Moves.cut (m := 343732230176) (z := z) x; (case' h => unfold x); (case' k => (clear_value x; intro _)))
    | (extract_lets +onlyGivenNames x; clear_value x)
    | split
    | (rename_i hq; split at hq)
    | (rename_i hq; obtain ⟨_, rfl⟩ := Prod.mk.inj hq)

/-- May change: registers of block 9. -/
theorem execRtcMeasure_goes (z : State) : Goes 68719476736 z (execRtcMeasure z) := by
  unfold execRtcMeasure
  repeat'
    first
    | with_reducible apply Moves.refl
    | with_reducible assumption
    | intro _
    | with_reducible apply goOn_goes
    | with_reducible apply ite_goes
    | ((with_reducible apply Moves.by (State.measureNoTime_moves _)); case hs => exact rfl)
    | ((with_reducible apply Moves.flag); (case hf => (with_reducible apply RTC_STATUS_MEAS_BUSY_block)); case hm => exact rfl)
    | with_reducible apply ite_moves
    | (extract_lets +onlyGivenNames x; apply Moves.cut (m := 68719476736) (z := z) x; (case' h => unfold x); (case' k => (clear_value x; intro _)))
    | (extract_lets +onlyGivenNames x; clear_value x)
    | split
    | (rename_i hq; split at hq)
    | (rename_i hq; obtain ⟨_, rfl⟩ := Prod.mk.inj hq)

/-- May change: registers of block 9. -/
theorem execMeasAbort_goes (z : State) : Goes 68719476736 z (execMeasAbort z) := by
  unfold execMeasAbort
  repeat'
    first
    | with_reducible apply Moves.refl
    | with_reducible assumption
    | intro _
    | with_reducible apply goOn_goes
    | with_reducible apply ite_goes
    | ((with_reducible apply Moves.by (State.measureEnd_moves _ _)); case hs => exact rfl)
    | (extract_lets +onlyGivenNames x; apply Moves.cut (m := 68719476736) (z := z) x; (case' h => unfold x); (case' k => (clear_value x; intro _)))
    | (extract_lets +onlyGivenNames x; clear_value x)
    | split
    | (rename_i hq; split at hq)
    | (rename_i hq; obtain ⟨_, rfl⟩ := Prod.mk.inj hq)

/-- May change: rtc, registers of block 9. -/
theorem execMeasureDone_goes (count : Nat) (z : State) : Goes 68719478784 z (execMeasureDone count z) := by
  unfold execMeasureDone
  repeat'
    first
    | with_reducible apply Moves.refl
    | with_reducible assumption
    | intro _
    | with_reducible apply goOn_goes
    | with_reducible apply ite_goes
    | ((with_reducible apply Moves.by (State.measureEnd_moves _ _)); case hs => exact rfl)
    | ((with_reducible apply Moves.by (State.trimWrite_moves _ _)); case hs => exact rfl)
    | ((with_reducible apply Moves.put); (case hf => (with_reducible apply RTC_TRIMRES_RESULT_block)); case hm => exact rfl)
    | with_reducible apply ite_moves
    | (extract_lets +onlyGivenNames x; apply Moves.cut (m := 68719478784) (z := z) x; (case' h => unfold x); (case' k => (clear_value x; intro _)))
    | (extract_lets +onlyGivenNames x; clear_value x)
    | split
    | (rename_i hq; split at hq)
    | (rename_i hq; obtain ⟨_, rfl⟩ := Prod.mk.inj hq)

/-- May change: registers of block 9. -/
theorem execMeasureNoref_goes (z : State) : Goes 68719476736 z (execMeasureNoref z) := by
  unfold execMeasureNoref
  repeat'
    first
    | with_reducible apply Moves.refl
    | with_reducible assumption
    | intro _
    | with_reducible apply goOn_goes
    | with_reducible apply ite_goes
    | ((with_reducible apply Moves.by (State.measureEnd_moves _ _)); case hs => exact rfl)
    | (extract_lets +onlyGivenNames x; apply Moves.cut (m := 68719476736) (z := z) x; (case' h => unfold x); (case' k => (clear_value x; intro _)))
    | (extract_lets +onlyGivenNames x; clear_value x)
    | split
    | (rename_i hq; split at hq)
    | (rename_i hq; obtain ⟨_, rfl⟩ := Prod.mk.inj hq)

/-- May change: rtc, host, registers of block 9. -/
theorem State.timeRead_moves (z : State) (core1 : Bool) (i : Nat) : Moves 68720003072 z (State.timeRead z core1 i) := by
  unfold State.timeRead
  dsimp only
  repeat'
    first
    | with_reducible apply Moves.refl
    | with_reducible assumption
    | intro _
    | ((with_reducible apply Moves.by (State.setRtc_moves _ _)); case hs => exact rfl)
    | ((with_reducible apply Moves.by (State.with_host_moves _ _)); case hs => exact rfl)
    | rw [State.with_host_eq]
    | ((with_reducible apply Moves.flag); (case hf => (with_reducible first | apply RTC_STATUS_FROZEN0_block | apply RTC_STATUS_FROZEN1_block)); case hm => exact rfl)
    | with_reducible apply ite_moves
    | (extract_lets +onlyGivenNames x; apply Moves.cut (m := 68720003072) (z := z) x; (case' h => unfold x); (case' k => (clear_value x; intro _)))
    | (extract_lets +onlyGivenNames x; clear_value x)
    | split
    | (rename_i hq; split at hq)
    | (rename_i hq; obtain ⟨_, rfl⟩ := Prod.mk.inj hq)

/-- May change: rtc, host, registers of block 9. -/
theorem execTimeRegisterRead_goes (core1 : Bool) (reg : Fin 7) (z : State) : Goes 68720003072 z (execTimeRegisterRead core1 reg z) := by
  unfold execTimeRegisterRead
  repeat'
    first
    | with_reducible apply Moves.refl
    | with_reducible assumption
    | intro _
    | with_reducible apply goOn_goes
    | with_reducible apply ite_goes
    | ((with_reducible apply Moves.by (State.timeRead_moves _ _ _)); case hs => exact rfl)
    | (extract_lets +onlyGivenNames x; apply Moves.cut (m := 68720003072) (z := z) x; (case' h => unfold x); (case' k => (clear_value x; intro _)))
    | (extract_lets +onlyGivenNames x; clear_value x)
    | split
    | (rename_i hq; split at hq)
    | (rename_i hq; obtain ⟨_, rfl⟩ := Prod.mk.inj hq)

/-- May change: registers of block 9. -/
theorem execShadowTimeout_goes (core1 : Bool) (z : State) : Goes 68719476736 z (execShadowTimeout core1 z) := by
  unfold execShadowTimeout
  dsimp only
  repeat'
    first
    | with_reducible apply Moves.refl
    | with_reducible assumption
    | intro _
    | with_reducible apply goOn_goes
    | with_reducible apply ite_goes
    | ((with_reducible apply Moves.flag); (case hf => (with_reducible first | apply RTC_STATUS_FROZEN0_block | apply RTC_STATUS_FROZEN1_block | apply RTC_STATUS_SHADOW_TO_block)); case hm => exact rfl)
    | with_reducible apply ite_moves
    | (extract_lets +onlyGivenNames x; apply Moves.cut (m := 68719476736) (z := z) x; (case' h => unfold x); (case' k => (clear_value x; intro _)))
    | (extract_lets +onlyGivenNames x; clear_value x)
    | split
    | (rename_i hq; split at hq)
    | (rename_i hq; obtain ⟨_, rfl⟩ := Prod.mk.inj hq)

/-- May change: power, evr, core0, core1, registers of block 0 9 11. -/
theorem execAlarmArm_goes (alarmB : Bool) (oneshot : Bool) (z : State) : Goes 343731703840 z (execAlarmArm alarmB oneshot z) := by
  unfold execAlarmArm
  repeat'
    first
    | with_reducible apply Moves.refl
    | with_reducible assumption
    | intro _
    | with_reducible apply goOn_goes
    | with_reducible apply ite_goes
    | ((with_reducible apply Moves.by (State.almArm_moves _ _)); case hs => exact rfl)
    | ((with_reducible apply Moves.flag); (case hf => (with_reducible first | apply almOneshot_block | apply RTC_ALMCTRL_A_ONESHOT_block | apply RTC_ALMCTRL_B_ONESHOT_block)); case hm => exact rfl)
    | (extract_lets +onlyGivenNames x; apply Moves.cut (m := 343731703840) (z := z) x; (case' h => unfold x); (case' k => (clear_value x; intro _)))
    | (extract_lets +onlyGivenNames x; clear_value x)
    | split
    | (rename_i hq; split at hq)
    | (rename_i hq; obtain ⟨_, rfl⟩ := Prod.mk.inj hq)

/-- May change: rtc, registers of block 9. -/
theorem execRtcTrimWrite_goes (value : Word) (z : State) : Goes 68719478784 z (execRtcTrimWrite value z) := by
  unfold execRtcTrimWrite
  repeat'
    first
    | with_reducible apply Moves.refl
    | with_reducible assumption
    | intro _
    | with_reducible apply goOn_goes
    | with_reducible apply ite_goes
    | ((with_reducible apply Moves.by (State.trimWrite_moves _ _)); case hs => exact rfl)
    | with_reducible apply ite_moves
    | (extract_lets +onlyGivenNames x; apply Moves.cut (m := 68719478784) (z := z) x; (case' h => unfold x); (case' k => (clear_value x; intro _)))
    | (extract_lets +onlyGivenNames x; clear_value x)
    | split
    | (rename_i hq; split at hq)
    | (rename_i hq; obtain ⟨_, rfl⟩ := Prod.mk.inj hq)

/-- May change: faults, power, evr, core0, core1, registers of block 0 9 11 18. -/
theorem execSupplySwitch_goes (z : State) : Goes 35528103792688 z (execSupplySwitch z) := by
  unfold execSupplySwitch
  repeat'
    first
    | with_reducible apply Moves.refl
    | with_reducible assumption
    | intro _
    | with_reducible apply goOn_goes
    | with_reducible apply ite_goes
    | ((with_reducible apply Moves.by (State.report_moves _ _ _ _ _ _)); case hs => exact rfl)
    | ((with_reducible apply Moves.by (State.raise_moves _ _)); case hs => exact rfl)
    | ((with_reducible apply Moves.put); (case hf => (with_reducible first | apply RTC_SUPPLY_ON_VBAK_block | apply RTC_SUPPLY_STAMP_VALID_block | apply RTC_SUPPLY_SWCOUNT_block | apply RTC_SWSTAMP_D_DATE_block | apply RTC_SWSTAMP_T_SUBSEC_H_block | apply RTC_SWSTAMP_T_TIME_block)); case hm => exact rfl)
    | ((with_reducible apply Moves.flag); (case hf => (with_reducible first | apply RTC_SUPPLY_ON_VBAK_block | apply RTC_SUPPLY_STAMP_VALID_block | apply RTC_SUPPLY_SWCOUNT_block | apply RTC_SWSTAMP_D_DATE_block | apply RTC_SWSTAMP_T_SUBSEC_H_block | apply RTC_SWSTAMP_T_TIME_block)); case hm => exact rfl)
    | ((with_reducible apply Moves.bump); (case hf => (with_reducible first | apply RTC_SUPPLY_ON_VBAK_block | apply RTC_SUPPLY_STAMP_VALID_block | apply RTC_SUPPLY_SWCOUNT_block | apply RTC_SWSTAMP_D_DATE_block | apply RTC_SWSTAMP_T_SUBSEC_H_block | apply RTC_SWSTAMP_T_TIME_block)); case hm => exact rfl)
    | with_reducible apply ite_moves
    | (extract_lets +onlyGivenNames x; apply Moves.cut (m := 35528103792688) (z := z) x; (case' h => unfold x); (case' k => (clear_value x; intro _)))
    | (extract_lets +onlyGivenNames x; clear_value x)
    | split
    | (rename_i hq; split at hq)
    | (rename_i hq; obtain ⟨_, rfl⟩ := Prod.mk.inj hq)

/-- May change: registers of block 9. -/
theorem execSupplyReturn_goes (z : State) : Goes 68719476736 z (execSupplyReturn z) := by
  unfold execSupplyReturn
  repeat'
    first
    | with_reducible apply Moves.refl
    | with_reducible assumption
    | intro _
    | with_reducible apply goOn_goes
    | with_reducible apply ite_goes
    | ((with_reducible apply Moves.flag); (case hf => (with_reducible apply RTC_SUPPLY_ON_VBAK_block)); case hm => exact rfl)
    | (extract_lets +onlyGivenNames x; apply Moves.cut (m := 68719476736) (z := z) x; (case' h => unfold x); (case' k => (clear_value x; intro _)))
    | (extract_lets +onlyGivenNames x; clear_value x)
    | split
    | (rename_i hq; split at hq)
    | (rename_i hq; obtain ⟨_, rfl⟩ := Prod.mk.inj hq)

theorem dropRanges_read (l : List Nat) (fs : Sparse Nat) (f : RegField) (b : Nat) (hf : f.inBlock b) (hb : b ≠ 11) (d : Nat) :
    Sparse.read d (l.foldl (fun fs c => Sparse.dropRange fs ((0x400B0100 + 0x40 * (c % 4)) * 32) ((0x400B0120 + 0x40 * (c % 4)) * 32)) fs) f.key =
      Sparse.read d fs f.key := by
  induction l generalizing fs with
  | nil => rfl
  | cons c l ih =>
    rw [List.foldl_cons, ih]
    refine Sparse.read_filter _ _ _ _ fun _ => ?_
    unfold RegField.inBlock at hf
    simp only [Bool.or_eq_true, decide_eq_true_eq]
    omega

theorem dropRanges_sorted (l : List Nat) (fs : Sparse Nat) (h : Sparse.sortedFrom 0 fs = true) :
    Sparse.sortedFrom 0 (l.foldl (fun fs c => Sparse.dropRange fs ((0x400B0100 + 0x40 * (c % 4)) * 32) ((0x400B0120 + 0x40 * (c % 4)) * 32)) fs) = true := by
  induction l generalizing fs with
  | nil => exact h
  | cons c l ih => exact ih _ (Sparse.sortedFrom_filter _ h)

/-- May change: mem, rtc, registers of block 9 11. -/
theorem State.backupReset_moves (z : State) : Moves 343597385732 z z.backupReset := by
  refine Moves.step ?_ (State.zeroBytes_moves _ _ _) rfl
  refine ⟨fun p hp => ?_, fun g => ⟨g.1, dropRanges_sorted [0, 1, 2, 3] _ (Sparse.sortedFrom_filter _ g.2.1), g.2.2⟩⟩
  cases p with
  | regs b =>
    intro f hf
    have h9 : b.val ≠ 9 := fun h => absurd hp (by rw [show Part.code (.regs b) = 27 + b.val from rfl, h]; decide)
    have h11 : b.val ≠ 11 := fun h => absurd hp (by rw [show Part.code (.regs b) = 27 + b.val from rfl, h]; decide)
    refine (dropRanges_read [0, 1, 2, 3] _ f b hf h11 _).trans ?_
    refine Sparse.read_filter _ _ _ _ fun _ => ?_
    unfold RegField.inBlock at hf
    have h : f.key < 0x40090000 * 32 ∨ 0x40090080 * 32 ≤ f.key := by omega
    rcases h with h | h
    · simp only [decide_eq_true (show f.key < rtcKeys.1 from h), Bool.true_or]
    · simp only [decide_eq_true (show rtcKeys.2 ≤ f.key from h), Bool.or_true]
  | rtc => exact absurd hp (by decide)
  | mem => exact absurd hp (by decide)
  | _ => rfl

/-- May change: mem, rtc, registers of block 9 11. -/
theorem execBackupPowerOn_goes (z : State) : Goes 343597385732 z (execBackupPowerOn z) := by
  unfold execBackupPowerOn
  repeat'
    first
    | with_reducible apply Moves.refl
    | with_reducible assumption
    | intro _
    | with_reducible apply goOn_goes
    | with_reducible apply ite_goes
    | ((with_reducible apply Moves.by (State.backupReset_moves _)); case hs => exact rfl)
    | (extract_lets +onlyGivenNames x; apply Moves.cut (m := 343597385732) (z := z) x; (case' h => unfold x); (case' k => (clear_value x; intro _)))
    | (extract_lets +onlyGivenNames x; clear_value x)
    | split
    | (rename_i hq; split at hq)
    | (rename_i hq; obtain ⟨_, rfl⟩ := Prod.mk.inj hq)

/-- May change: mem, power, rtc, evr, core0, core1, registers of block 0 9 11. -/
theorem execComparatorSample_goes (n : Fin 4) (high : Bool) (z : State) : Goes 343731705892 z (execComparatorSample n high z) := by
  unfold execComparatorSample
  repeat'
    first
    | with_reducible apply Moves.refl
    | with_reducible assumption
    | intro _
    | with_reducible apply goOn_goes
    | with_reducible apply ite_goes
    | ((with_reducible apply Moves.by (State.raise_moves _ _)); case hs => exact rfl)
    | ((with_reducible apply Moves.by (State.bkpErase_moves _)); case hs => exact rfl)
    | ((with_reducible apply Moves.by (State.setRtc_moves _ _)); case hs => exact rfl)
    | ((with_reducible apply Moves.put); (case hf => (with_reducible first | apply RTC_CMPSTAT_HIT_block | apply RTC_CMPSTAT_LEVEL_block)); case hm => exact rfl)
    | with_reducible apply ite_moves
    | (extract_lets +onlyGivenNames x; apply Moves.cut (m := 343731705892) (z := z) x; (case' h => unfold x); (case' k => (clear_value x; intro _)))
    | (extract_lets +onlyGivenNames x; clear_value x)
    | split
    | (rename_i hq; split at hq)
    | (rename_i hq; obtain ⟨_, rfl⟩ := Prod.mk.inj hq)

end Sys2Proof.Machine
end

