-- ==== Sys2Proof/Laws/Tag.lean ====
section
/-! SUPPORT. What the operations of Machine/Tag.lean may change. -/
set_option linter.all false
namespace Sys2Proof.Machine

set_option linter.tactic.unusedName false

/-- May change: registers of block 5 14. -/
theorem State.otpDefaults_moves (z : State) : Moves 2203318222848 z (State.otpDefaults z) := by
  unfold State.otpDefaults
  repeat'
    first
    | with_reducible apply Moves.refl
    | with_reducible assumption
    | intro _
    | ((with_reducible apply Moves.put); (case hf => (with_reducible first | apply HDP_MAC_H_MAC_block | apply HDP_MAC_L_MAC_block | apply MAC_EXT_H_EXT_block | apply MAC_EXT_L_EXT_block)); case hm => exact rfl)
    | with_reducible apply ite_moves
    | (extract_lets +onlyGivenNames x; apply Moves.cut (m := 2203318222848) (z := z) x; (case' h => unfold x); (case' k => (clear_value x; intro _)))
    | (extract_lets +onlyGivenNames x; clear_value x)
    | split
    | (rename_i hq; split at hq)
    | (rename_i hq; obtain ⟨_, rfl⟩ := Prod.mk.inj hq)

/-- May change: mem. -/
theorem State.setTagBlock_moves (z : State) (b : Nat) (v : Nat) : Moves 4 z (State.setTagBlock z b v) := by
  unfold State.setTagBlock
  repeat'
    first
    | with_reducible apply Moves.refl
    | with_reducible assumption
    | intro _
    | ((with_reducible apply Moves.by (State.setNum_moves _ _ _ _)); case hs => exact rfl)
    | with_reducible apply ite_moves
    | (extract_lets +onlyGivenNames x; apply Moves.cut (m := 4) (z := z) x; (case' h => unfold x); (case' k => (clear_value x; intro _)))
    | (extract_lets +onlyGivenNames x; clear_value x)
    | split
    | (rename_i hq; split at hq)
    | (rename_i hq; obtain ⟨_, rfl⟩ := Prod.mk.inj hq)

/-- May change: tag. -/
theorem State.setTagPort_moves (z : State) (t : TagPort) : Moves 262144 z (State.setTagPort z t) := by
  unfold State.setTagPort
  repeat'
    first
    | with_reducible apply Moves.refl
    | with_reducible assumption
    | intro _
    | ((with_reducible apply Moves.by (State.with_tag_moves _ _)); case hs => exact rfl)
    | rw [State.with_tag_eq]
    | with_reducible apply ite_moves
    | (extract_lets +onlyGivenNames x; apply Moves.cut (m := 262144) (z := z) x; (case' h => unfold x); (case' k => (clear_value x; intro _)))
    | (extract_lets +onlyGivenNames x; clear_value x)
    | split
    | (rename_i hq; split at hq)
    | (rename_i hq; obtain ⟨_, rfl⟩ := Prod.mk.inj hq)

/-- May change: tag. -/
theorem State.tagTake_moves (z : State) (side : TagSide) (tie : Bool) : Moves 262144 z (State.tagTake z side tie).2 := by
  unfold State.tagTake
  repeat'
    first
    | with_reducible apply Moves.refl
    | with_reducible assumption
    | intro _
    | ((with_reducible apply Moves.by (State.setTagPort_moves _ _)); case hs => exact rfl)
    | with_reducible apply ite_moves
    | with_reducible apply ite_snd_moves
    | (extract_lets +onlyGivenNames x; apply Moves.cut (m := 262144) (z := z) x; (case' h => unfold x); (case' k => (clear_value x; intro _)))
    | (extract_lets +onlyGivenNames x; clear_value x)
    | split
    | (rename_i hq; split at hq)
    | (rename_i hq; obtain ⟨_, rfl⟩ := Prod.mk.inj hq)

theorem State.tagTake_pair {z : State} {side : TagSide} {tie : Bool} {b1 : Bool} {u0 : State} {m0 : Nat} {r0 : State} (hp : State.tagTake z side tie = (b1, u0)) (hs : sub 262144 m0 = true) (h : Moves m0 r0 z) : Moves m0 r0 u0 := by
  have g := State.tagTake_moves z side tie
  rw [hp] at g
  exact h.step g hs

/-- May change: tag. -/
theorem State.tagRelease_moves (z : State) : Moves 262144 z (State.tagRelease z) := by
  unfold State.tagRelease
  repeat'
    first
    | with_reducible apply Moves.refl
    | with_reducible assumption
    | intro _
    | ((with_reducible apply Moves.by (State.setTagPort_moves _ _)); case hs => exact rfl)
    | with_reducible apply ite_moves
    | (extract_lets +onlyGivenNames x; apply Moves.cut (m := 262144) (z := z) x; (case' h => unfold x); (case' k => (clear_value x; intro _)))
    | (extract_lets +onlyGivenNames x; clear_value x)
    | split
    | (rename_i hq; split at hq)
    | (rename_i hq; obtain ⟨_, rfl⟩ := Prod.mk.inj hq)

/-- May change: tag. -/
theorem State.tagAnswer_moves (z : State) (bs : List Byte) : Moves 262144 z (State.tagAnswer z bs) := by
  unfold State.tagAnswer
  repeat'
    first
    | with_reducible apply Moves.refl
    | with_reducible assumption
    | intro _
    | ((with_reducible apply Moves.by (State.setTagPort_moves _ _)); case hs => exact rfl)
    | with_reducible apply ite_moves
    | (extract_lets +onlyGivenNames x; apply Moves.cut (m := 262144) (z := z) x; (case' h => unfold x); (case' k => (clear_value x; intro _)))
    | (extract_lets +onlyGivenNames x; clear_value x)
    | split
    | (rename_i hq; split at hq)
    | (rename_i hq; obtain ⟨_, rfl⟩ := Prod.mk.inj hq)

/-- May change: tag. -/
theorem State.tagError_moves (z : State) (code : Nat) : Moves 262144 z (State.tagError z code) := by
  unfold State.tagError
  repeat'
    first
    | with_reducible apply Moves.refl
    | with_reducible assumption
    | intro _
    | ((with_reducible apply Moves.by (State.setTagPort_moves _ _)); case hs => exact rfl)
    | with_reducible apply ite_moves
    | (extract_lets +onlyGivenNames x; apply Moves.cut (m := 262144) (z := z) x; (case' h => unfold x); (case' k => (clear_value x; intro _)))
    | (extract_lets +onlyGivenNames x; clear_value x)
    | split
    | (rename_i hq; split at hq)
    | (rename_i hq; obtain ⟨_, rfl⟩ := Prod.mk.inj hq)

/-- May change: tag. -/
theorem State.tagReply_moves (z : State) (r : Except Nat (List Byte)) : Moves 262144 z (State.tagReply z r) := by
  unfold State.tagReply
  split
  · exact Moves.refl
  split
  · exact State.tagAnswer_moves _ _
  · exact State.tagError_moves _ _

/-- Changes the tag's answer, and what the served request changes. -/
theorem State.tagServe_moves {m : Nat} {r s : State} {q : TagReq} {f : State → State} (hs : sub 262144 m = true)
    (h : Moves m r s) (hf : ∀ t, Moves m r t → Moves m r (f t)) : Moves m r (s.tagServe q f) := by
  unfold State.tagServe
  dsimp only
  split
  · exact hf _ ((h.step (State.setTagPort_moves _ _) hs).step (State.setTagPort_moves _ _) hs)
  · exact h.step (State.setTagPort_moves _ _) hs

/-- May change: tag. -/
theorem State.tagRead_moves (z : State) (limit : Nat) (b : Nat) (n : Nat) (r : TagReq) : Moves 262144 z (State.tagRead z limit b n r) := by
  unfold State.tagRead
  repeat'
    first
    | with_reducible apply Moves.refl
    | with_reducible assumption
    | intro _
    | ((with_reducible apply Moves.by (State.tagTake_moves _ _ _)); case hs => exact rfl)
    | ((with_reducible apply State.tagTake_pair); (case hp => assumption); case hs => exact rfl)
    | ((with_reducible apply Moves.by (State.tagError_moves _ _)); case hs => exact rfl)
    | ((with_reducible apply Moves.by (State.tagAnswer_moves _ _)); case hs => exact rfl)
    | with_reducible apply ite_moves
    | (extract_lets +onlyGivenNames x; apply Moves.cut (m := 262144) (z := z) x; (case' h => unfold x); (case' k => (clear_value x; intro _)))
    | (extract_lets +onlyGivenNames x; clear_value x)
    | split
    | (rename_i hq; split at hq)
    | (rename_i hq; obtain ⟨_, rfl⟩ := Prod.mk.inj hq)

/-- May change: tag. -/
theorem execReadSingleBlock_goes (req : TagReq) (block : Fin 256) (z : State) : Goes 262144 z (execReadSingleBlock req block z) := by
  unfold execReadSingleBlock
  repeat'
    first
    | with_reducible apply Moves.refl
    | with_reducible assumption
    | intro _
    | with_reducible apply goOn_goes
    | with_reducible apply ite_goes
    | ((with_reducible apply State.tagServe_moves); case hs => exact rfl)
    | ((with_reducible apply Moves.by (State.tagRead_moves _ _ _ _ _)); case hs => exact rfl)
    | (extract_lets +onlyGivenNames x; apply Moves.cut (m := 262144) (z := z) x; (case' h => unfold x); (case' k => (clear_value x; intro _)))
    | (extract_lets +onlyGivenNames x; clear_value x)
    | split
    | (rename_i hq; split at hq)
    | (rename_i hq; obtain ⟨_, rfl⟩ := Prod.mk.inj hq)

/-- May change: tag. -/
theorem execReadMultipleBlocks_goes (req : TagReq) (block : Fin 256) (count : Fin 256) (z : State) : Goes 262144 z (execReadMultipleBlocks req block count z) := by
  unfold execReadMultipleBlocks
  repeat'
    first
    | with_reducible apply Moves.refl
    | with_reducible assumption
    | intro _
    | with_reducible apply goOn_goes
    | with_reducible apply ite_goes
    | ((with_reducible apply State.tagServe_moves); case hs => exact rfl)
    | ((with_reducible apply Moves.by (State.tagRead_moves _ _ _ _ _)); case hs => exact rfl)
    | (extract_lets +onlyGivenNames x; apply Moves.cut (m := 262144) (z := z) x; (case' h => unfold x); (case' k => (clear_value x; intro _)))
    | (extract_lets +onlyGivenNames x; clear_value x)
    | split
    | (rename_i hq; split at hq)
    | (rename_i hq; obtain ⟨_, rfl⟩ := Prod.mk.inj hq)

/-- May change: tag. -/
theorem execExtendedReadSingleBlock_goes (req : TagReq) (block : Fin 65536) (z : State) : Goes 262144 z (execExtendedReadSingleBlock req block z) := by
  unfold execExtendedReadSingleBlock
  repeat'
    first
    | with_reducible apply Moves.refl
    | with_reducible assumption
    | intro _
    | with_reducible apply goOn_goes
    | with_reducible apply ite_goes
    | ((with_reducible apply State.tagServe_moves); case hs => exact rfl)
    | ((with_reducible apply Moves.by (State.tagRead_moves _ _ _ _ _)); case hs => exact rfl)
    | (extract_lets +onlyGivenNames x; apply Moves.cut (m := 262144) (z := z) x; (case' h => unfold x); (case' k => (clear_value x; intro _)))
    | (extract_lets +onlyGivenNames x; clear_value x)
    | split
    | (rename_i hq; split at hq)
    | (rename_i hq; obtain ⟨_, rfl⟩ := Prod.mk.inj hq)

/-- May change: tag. -/
theorem execExtendedReadMultipleBlocks_goes (req : TagReq) (block : Fin 65536) (count : Fin 65536) (z : State) : Goes 262144 z (execExtendedReadMultipleBlocks req block count z) := by
  unfold execExtendedReadMultipleBlocks
  repeat'
    first
    | with_reducible apply Moves.refl
    | with_reducible assumption
    | intro _
    | with_reducible apply goOn_goes
    | with_reducible apply ite_goes
    | ((with_reducible apply State.tagServe_moves); case hs => exact rfl)
    | ((with_reducible apply Moves.by (State.tagRead_moves _ _ _ _ _)); case hs => exact rfl)
    | (extract_lets +onlyGivenNames x; apply Moves.cut (m := 262144) (z := z) x; (case' h => unfold x); (case' k => (clear_value x; intro _)))
    | (extract_lets +onlyGivenNames x; clear_value x)
    | split
    | (rename_i hq; split at hq)
    | (rename_i hq; obtain ⟨_, rfl⟩ := Prod.mk.inj hq)

/-- May change: tag. -/
theorem State.tagSecurity_moves (z : State) (limit : Nat) (b : Nat) (n : Nat) : Moves 262144 z (State.tagSecurity z limit b n) := by
  unfold State.tagSecurity
  repeat'
    first
    | with_reducible apply Moves.refl
    | with_reducible assumption
    | intro _
    | ((with_reducible apply Moves.by (State.tagError_moves _ _)); case hs => exact rfl)
    | ((with_reducible apply Moves.by (State.tagAnswer_moves _ _)); case hs => exact rfl)
    | with_reducible apply ite_moves
    | (extract_lets +onlyGivenNames x; apply Moves.cut (m := 262144) (z := z) x; (case' h => unfold x); (case' k => (clear_value x; intro _)))
    | (extract_lets +onlyGivenNames x; clear_value x)
    | split
    | (rename_i hq; split at hq)
    | (rename_i hq; obtain ⟨_, rfl⟩ := Prod.mk.inj hq)

/-- May change: tag. -/
theorem execGetMultipleBlockSecurityStatus_goes (req : TagReq) (block : Fin 256) (count : Fin 256) (z : State) : Goes 262144 z (execGetMultipleBlockSecurityStatus req block count z) := by
  unfold execGetMultipleBlockSecurityStatus
  repeat'
    first
    | with_reducible apply Moves.refl
    | with_reducible assumption
    | intro _
    | with_reducible apply goOn_goes
    | with_reducible apply ite_goes
    | ((with_reducible apply State.tagServe_moves); case hs => exact rfl)
    | ((with_reducible apply Moves.by (State.tagSecurity_moves _ _ _ _)); case hs => exact rfl)
    | (extract_lets +onlyGivenNames x; apply Moves.cut (m := 262144) (z := z) x; (case' h => unfold x); (case' k => (clear_value x; intro _)))
    | (extract_lets +onlyGivenNames x; clear_value x)
    | split
    | (rename_i hq; split at hq)
    | (rename_i hq; obtain ⟨_, rfl⟩ := Prod.mk.inj hq)

/-- May change: tag. -/
theorem execExtGetMultipleBlockSecurityStatus_goes (req : TagReq) (block : Fin 65536) (count : Fin 65536) (z : State) : Goes 262144 z (execExtGetMultipleBlockSecurityStatus req block count z) := by
  unfold execExtGetMultipleBlockSecurityStatus
  repeat'
    first
    | with_reducible apply Moves.refl
    | with_reducible assumption
    | intro _
    | with_reducible apply goOn_goes
    | with_reducible apply ite_goes
    | ((with_reducible apply State.tagServe_moves); case hs => exact rfl)
    | ((with_reducible apply Moves.by (State.tagSecurity_moves _ _ _ _)); case hs => exact rfl)
    | (extract_lets +onlyGivenNames x; apply Moves.cut (m := 262144) (z := z) x; (case' h => unfold x); (case' k => (clear_value x; intro _)))
    | (extract_lets +onlyGivenNames x; clear_value x)
    | split
    | (rename_i hq; split at hq)
    | (rename_i hq; obtain ⟨_, rfl⟩ := Prod.mk.inj hq)

/-- May change: tag. -/
theorem execTagInventory_goes (sub : Bool) (sixteen : Bool) (afi : Option (Fin 256)) (maskLen : Fin 65) (mask : Nat) (z : State) : Goes 262144 z (execTagInventory sub sixteen afi maskLen mask z) := by
  unfold execTagInventory
  repeat'
    first
    | with_reducible apply Moves.refl
    | with_reducible assumption
    | intro _
    | with_reducible apply goOn_goes
    | with_reducible apply ite_goes
    | ((with_reducible apply Moves.by (State.setTagPort_moves _ _)); case hs => exact rfl)
    | ((with_reducible apply Moves.by (State.tagAnswer_moves _ _)); case hs => exact rfl)
    | with_reducible apply ite_moves
    | (extract_lets +onlyGivenNames x; apply Moves.cut (m := 262144) (z := z) x; (case' h => unfold x); (case' k => (clear_value x; intro _)))
    | (extract_lets +onlyGivenNames x; clear_value x)
    | split
    | (rename_i hq; split at hq)
    | (rename_i hq; obtain ⟨_, rfl⟩ := Prod.mk.inj hq)

/-- May change: tag. -/
theorem execTagStayQuiet_goes (req : TagReq) (z : State) : Goes 262144 z (execTagStayQuiet req z) := by
  unfold execTagStayQuiet
  repeat'
    first
    | with_reducible apply Moves.refl
    | with_reducible assumption
    | intro _
    | with_reducible apply goOn_goes
    | with_reducible apply ite_goes
    | ((with_reducible apply Moves.by (State.setTagPort_moves _ _)); case hs => exact rfl)
    | ((with_reducible apply State.tagServe_moves); case hs => exact rfl)
    | with_reducible apply ite_moves
    | (extract_lets +onlyGivenNames x; apply Moves.cut (m := 262144) (z := z) x; (case' h => unfold x); (case' k => (clear_value x; intro _)))
    | (extract_lets +onlyGivenNames x; clear_value x)
    | split
    | (rename_i hq; split at hq)
    | (rename_i hq; obtain ⟨_, rfl⟩ := Prod.mk.inj hq)

/-- May change: tag. -/
theorem execTagSelect_goes (req : TagReq) (z : State) : Goes 262144 z (execTagSelect req z) := by
  unfold execTagSelect
  repeat'
    first
    | with_reducible apply Moves.refl
    | with_reducible assumption
    | intro _
    | with_reducible apply goOn_goes
    | with_reducible apply ite_goes
    | ((with_reducible apply Moves.by (State.setTagPort_moves _ _)); case hs => exact rfl)
    | ((with_reducible apply State.tagServe_moves); case hs => exact rfl)
    | ((with_reducible apply Moves.by (State.tagAnswer_moves _ _)); case hs => exact rfl)
    | with_reducible apply ite_moves
    | (extract_lets +onlyGivenNames x; apply Moves.cut (m := 262144) (z := z) x; (case' h => unfold x); (case' k => (clear_value x; intro _)))
    | (extract_lets +onlyGivenNames x; clear_value x)
    | split
    | (rename_i hq; split at hq)
    | (rename_i hq; obtain ⟨_, rfl⟩ := Prod.mk.inj hq)

/-- May change: tag. -/
theorem execResetToReady_goes (req : TagReq) (z : State) : Goes 262144 z (execResetToReady req z) := by
  unfold execResetToReady
  repeat'
    first
    | with_reducible apply Moves.refl
    | with_reducible assumption
    | intro _
    | with_reducible apply goOn_goes
    | with_reducible apply ite_goes
    | ((with_reducible apply Moves.by (State.setTagPort_moves _ _)); case hs => exact rfl)
    | ((with_reducible apply State.tagServe_moves); case hs => exact rfl)
    | ((with_reducible apply Moves.by (State.tagAnswer_moves _ _)); case hs => exact rfl)
    | (extract_lets +onlyGivenNames x; apply Moves.cut (m := 262144) (z := z) x; (case' h => unfold x); (case' k => (clear_value x; intro _)))
    | (extract_lets +onlyGivenNames x; clear_value x)
    | split
    | (rename_i hq; split at hq)
    | (rename_i hq; obtain ⟨_, rfl⟩ := Prod.mk.inj hq)

/-- May change: tag. -/
theorem execGetSystemInformation_goes (req : TagReq) (z : State) : Goes 262144 z (execGetSystemInformation req z) := by
  unfold execGetSystemInformation
  repeat'
    first
    | with_reducible apply Moves.refl
    | with_reducible assumption
    | intro _
    | with_reducible apply goOn_goes
    | with_reducible apply ite_goes
    | ((with_reducible apply State.tagServe_moves); case hs => exact rfl)
    | ((with_reducible apply Moves.by (State.tagAnswer_moves _ _)); case hs => exact rfl)
    | (extract_lets +onlyGivenNames x; apply Moves.cut (m := 262144) (z := z) x; (case' h => unfold x); (case' k => (clear_value x; intro _)))
    | (extract_lets +onlyGivenNames x; clear_value x)
    | split
    | (rename_i hq; split at hq)
    | (rename_i hq; obtain ⟨_, rfl⟩ := Prod.mk.inj hq)

/-- May change: tag. -/
theorem execExtendedGetSystemInformation_goes (req : TagReq) (z : State) : Goes 262144 z (execExtendedGetSystemInformation req z) := by
  unfold execExtendedGetSystemInformation
  repeat'
    first
    | with_reducible apply Moves.refl
    | with_reducible assumption
    | intro _
    | with_reducible apply goOn_goes
    | with_reducible apply ite_goes
    | ((with_reducible apply State.tagServe_moves); case hs => exact rfl)
    | ((with_reducible apply Moves.by (State.tagAnswer_moves _ _)); case hs => exact rfl)
    | (extract_lets +onlyGivenNames x; apply Moves.cut (m := 262144) (z := z) x; (case' h => unfold x); (case' k => (clear_value x; intro _)))
    | (extract_lets +onlyGivenNames x; clear_value x)
    | split
    | (rename_i hq; split at hq)
    | (rename_i hq; obtain ⟨_, rfl⟩ := Prod.mk.inj hq)

/-- May change: tag. -/
theorem execGetStatus_goes (req : TagReq) (z : State) : Goes 262144 z (execGetStatus req z) := by
  unfold execGetStatus
  repeat'
    first
    | with_reducible apply Moves.refl
    | with_reducible assumption
    | intro _
    | with_reducible apply goOn_goes
    | with_reducible apply ite_goes
    | ((with_reducible apply State.tagServe_moves); case hs => exact rfl)
    | ((with_reducible apply Moves.by (State.tagAnswer_moves _ _)); case hs => exact rfl)
    | (extract_lets +onlyGivenNames x; apply Moves.cut (m := 262144) (z := z) x; (case' h => unfold x); (case' k => (clear_value x; intro _)))
    | (extract_lets +onlyGivenNames x; clear_value x)
    | split
    | (rename_i hq; split at hq)
    | (rename_i hq; obtain ⟨_, rfl⟩ := Prod.mk.inj hq)

/-- May change: tag. -/
theorem execUnsupportedCommand_goes (req : TagReq) (z : State) : Goes 262144 z (execUnsupportedCommand req z) := by
  unfold execUnsupportedCommand
  repeat'
    first
    | with_reducible apply Moves.refl
    | with_reducible assumption
    | intro _
    | with_reducible apply goOn_goes
    | with_reducible apply ite_goes
    | ((with_reducible apply Moves.by (State.tagError_moves _ _)); case hs => exact rfl)
    | ((with_reducible apply State.tagServe_moves); case hs => exact rfl)
    | with_reducible apply ite_moves
    | (extract_lets +onlyGivenNames x; apply Moves.cut (m := 262144) (z := z) x; (case' h => unfold x); (case' k => (clear_value x; intro _)))
    | (extract_lets +onlyGivenNames x; clear_value x)
    | split
    | (rename_i hq; split at hq)
    | (rename_i hq; obtain ⟨_, rfl⟩ := Prod.mk.inj hq)

/-- May change: tag. -/
theorem State.tagBegin_moves (z : State) (w : TagWrite) : Moves 262144 z (State.tagBegin z w) := by
  unfold State.tagBegin
  repeat'
    first
    | with_reducible apply Moves.refl
    | with_reducible assumption
    | intro _
    | ((with_reducible apply Moves.by (State.setTagPort_moves _ _)); case hs => exact rfl)
    | with_reducible apply ite_moves
    | (extract_lets +onlyGivenNames x; apply Moves.cut (m := 262144) (z := z) x; (case' h => unfold x); (case' k => (clear_value x; intro _)))
    | (extract_lets +onlyGivenNames x; clear_value x)
    | split
    | (rename_i hq; split at hq)
    | (rename_i hq; obtain ⟨_, rfl⟩ := Prod.mk.inj hq)

/-- May change: tag. -/
theorem State.tagFieldWrite_moves (z : State) (r : TagReq) (w : TagWrite) : Moves 262144 z (State.tagFieldWrite z r w) := by
  unfold State.tagFieldWrite
  repeat'
    first
    | with_reducible apply Moves.refl
    | with_reducible assumption
    | intro _
    | ((with_reducible apply Moves.by (State.tagTake_moves _ _ _)); case hs => exact rfl)
    | ((with_reducible apply State.tagTake_pair); (case hp => assumption); case hs => exact rfl)
    | ((with_reducible apply Moves.by (State.tagBegin_moves _ _)); case hs => exact rfl)
    | ((with_reducible apply Moves.by (State.tagError_moves _ _)); case hs => exact rfl)
    | with_reducible apply ite_moves
    | (extract_lets +onlyGivenNames x; apply Moves.cut (m := 262144) (z := z) x; (case' h => unfold x); (case' k => (clear_value x; intro _)))
    | (extract_lets +onlyGivenNames x; clear_value x)
    | split
    | (rename_i hq; split at hq)
    | (rename_i hq; obtain ⟨_, rfl⟩ := Prod.mk.inj hq)

/-- May change: tag. -/
theorem State.tagWriteBlock_moves (z : State) (limit : Nat) (b : Nat) (data : Nat) (r : TagReq) : Moves 262144 z (State.tagWriteBlock z limit b data r) := by
  unfold State.tagWriteBlock
  repeat'
    first
    | with_reducible apply Moves.refl
    | with_reducible assumption
    | intro _
    | ((with_reducible apply Moves.by (State.tagError_moves _ _)); case hs => exact rfl)
    | ((with_reducible apply Moves.by (State.tagFieldWrite_moves _ _ _)); case hs => exact rfl)
    | with_reducible apply ite_moves
    | (extract_lets +onlyGivenNames x; apply Moves.cut (m := 262144) (z := z) x; (case' h => unfold x); (case' k => (clear_value x; intro _)))
    | (extract_lets +onlyGivenNames x; clear_value x)
    | split
    | (rename_i hq; split at hq)
    | (rename_i hq; obtain ⟨_, rfl⟩ := Prod.mk.inj hq)

/-- May change: tag. -/
theorem execWriteSingleBlock_goes (req : TagReq) (block : Fin 256) (data : Word) (z : State) : Goes 262144 z (execWriteSingleBlock req block data z) := by
  unfold execWriteSingleBlock
  repeat'
    first
    | with_reducible apply Moves.refl
    | with_reducible assumption
    | intro _
    | with_reducible apply goOn_goes
    | with_reducible apply ite_goes
    | ((with_reducible apply Moves.by (State.tagWriteBlock_moves _ _ _ _ _)); case hs => exact rfl)
    | ((with_reducible apply State.tagServe_moves); case hs => exact rfl)
    | (extract_lets +onlyGivenNames x; apply Moves.cut (m := 262144) (z := z) x; (case' h => unfold x); (case' k => (clear_value x; intro _)))
    | (extract_lets +onlyGivenNames x; clear_value x)
    | split
    | (rename_i hq; split at hq)
    | (rename_i hq; obtain ⟨_, rfl⟩ := Prod.mk.inj hq)

/-- May change: tag. -/
theorem execExtendedWriteSingleBlock_goes (req : TagReq) (block : Fin 65536) (data : Word) (z : State) : Goes 262144 z (execExtendedWriteSingleBlock req block data z) := by
  unfold execExtendedWriteSingleBlock
  repeat'
    first
    | with_reducible apply Moves.refl
    | with_reducible assumption
    | intro _
    | with_reducible apply goOn_goes
    | with_reducible apply ite_goes
    | ((with_reducible apply Moves.by (State.tagWriteBlock_moves _ _ _ _ _)); case hs => exact rfl)
    | ((with_reducible apply State.tagServe_moves); case hs => exact rfl)
    | (extract_lets +onlyGivenNames x; apply Moves.cut (m := 262144) (z := z) x; (case' h => unfold x); (case' k => (clear_value x; intro _)))
    | (extract_lets +onlyGivenNames x; clear_value x)
    | split
    | (rename_i hq; split at hq)
    | (rename_i hq; obtain ⟨_, rfl⟩ := Prod.mk.inj hq)

/-- May change: tag. -/
theorem State.tagWriteInfo_moves (z : State) (lo : Nat) (w : Nat) (v : Nat) (lockBit : Nat) (r : TagReq) : Moves 262144 z (State.tagWriteInfo z lo w v lockBit r) := by
  unfold State.tagWriteInfo
  repeat'
    first
    | with_reducible apply Moves.refl
    | with_reducible assumption
    | intro _
    | ((with_reducible apply Moves.by (State.tagError_moves _ _)); case hs => exact rfl)
    | ((with_reducible apply Moves.by (State.tagFieldWrite_moves _ _ _)); case hs => exact rfl)
    | with_reducible apply ite_moves
    | (extract_lets +onlyGivenNames x; apply Moves.cut (m := 262144) (z := z) x; (case' h => unfold x); (case' k => (clear_value x; intro _)))
    | (extract_lets +onlyGivenNames x; clear_value x)
    | split
    | (rename_i hq; split at hq)
    | (rename_i hq; obtain ⟨_, rfl⟩ := Prod.mk.inj hq)

/-- May change: tag. -/
theorem execWriteAfi_goes (req : TagReq) (value : Fin 256) (z : State) : Goes 262144 z (execWriteAfi req value z) := by
  unfold execWriteAfi
  repeat'
    first
    | with_reducible apply Moves.refl
    | with_reducible assumption
    | intro _
    | with_reducible apply goOn_goes
    | with_reducible apply ite_goes
    | ((with_reducible apply Moves.by (State.tagWriteInfo_moves _ _ _ _ _ _)); case hs => exact rfl)
    | ((with_reducible apply State.tagServe_moves); case hs => exact rfl)
    | (extract_lets +onlyGivenNames x; apply Moves.cut (m := 262144) (z := z) x; (case' h => unfold x); (case' k => (clear_value x; intro _)))
    | (extract_lets +onlyGivenNames x; clear_value x)
    | split
    | (rename_i hq; split at hq)
    | (rename_i hq; obtain ⟨_, rfl⟩ := Prod.mk.inj hq)

/-- May change: tag. -/
theorem execLockAfi_goes (req : TagReq) (z : State) : Goes 262144 z (execLockAfi req z) := by
  unfold execLockAfi
  repeat'
    first
    | with_reducible apply Moves.refl
    | with_reducible assumption
    | intro _
    | with_reducible apply goOn_goes
    | with_reducible apply ite_goes
    | ((with_reducible apply Moves.by (State.tagWriteInfo_moves _ _ _ _ _ _)); case hs => exact rfl)
    | ((with_reducible apply State.tagServe_moves); case hs => exact rfl)
    | (extract_lets +onlyGivenNames x; apply Moves.cut (m := 262144) (z := z) x; (case' h => unfold x); (case' k => (clear_value x; intro _)))
    | (extract_lets +onlyGivenNames x; clear_value x)
    | split
    | (rename_i hq; split at hq)
    | (rename_i hq; obtain ⟨_, rfl⟩ := Prod.mk.inj hq)

/-- May change: tag. -/
theorem execWriteDsfid_goes (req : TagReq) (value : Fin 256) (z : State) : Goes 262144 z (execWriteDsfid req value z) := by
  unfold execWriteDsfid
  repeat'
    first
    | with_reducible apply Moves.refl
    | with_reducible assumption
    | intro _
    | with_reducible apply goOn_goes
    | with_reducible apply ite_goes
    | ((with_reducible apply Moves.by (State.tagWriteInfo_moves _ _ _ _ _ _)); case hs => exact rfl)
    | ((with_reducible apply State.tagServe_moves); case hs => exact rfl)
    | (extract_lets +onlyGivenNames x; apply Moves.cut (m := 262144) (z := z) x; (case' h => unfold x); (case' k => (clear_value x; intro _)))
    | (extract_lets +onlyGivenNames x; clear_value x)
    | split
    | (rename_i hq; split at hq)
    | (rename_i hq; obtain ⟨_, rfl⟩ := Prod.mk.inj hq)

/-- May change: tag. -/
theorem execLockDsfid_goes (req : TagReq) (z : State) : Goes 262144 z (execLockDsfid req z) := by
  unfold execLockDsfid
  repeat'
    first
    | with_reducible apply Moves.refl
    | with_reducible assumption
    | intro _
    | with_reducible apply goOn_goes
    | with_reducible apply ite_goes
    | ((with_reducible apply Moves.by (State.tagWriteInfo_moves _ _ _ _ _ _)); case hs => exact rfl)
    | ((with_reducible apply State.tagServe_moves); case hs => exact rfl)
    | (extract_lets +onlyGivenNames x; apply Moves.cut (m := 262144) (z := z) x; (case' h => unfold x); (case' k => (clear_value x; intro _)))
    | (extract_lets +onlyGivenNames x; clear_value x)
    | split
    | (rename_i hq; split at hq)
    | (rename_i hq; obtain ⟨_, rfl⟩ := Prod.mk.inj hq)

/-- May change: tag. -/
theorem execPresentPassword_goes (req : TagReq) (area : Fin 256) (kind : Fin 256) (password : Word) (z : State) : Goes 262144 z (execPresentPassword req area kind password z) := by
  unfold execPresentPassword
  repeat'
    first
    | with_reducible apply Moves.refl
    | with_reducible assumption
    | intro _
    | with_reducible apply goOn_goes
    | with_reducible apply ite_goes
    | ((with_reducible apply Moves.by (State.tagError_moves _ _)); case hs => exact rfl)
    | ((with_reducible apply State.tagServe_moves); case hs => exact rfl)
    | ((with_reducible apply Moves.by (State.tagFieldWrite_moves _ _ _)); case hs => exact rfl)
    | with_reducible apply ite_moves
    | (extract_lets +onlyGivenNames x; apply Moves.cut (m := 262144) (z := z) x; (case' h => unfold x); (case' k => (clear_value x; intro _)))
    | (extract_lets +onlyGivenNames x; clear_value x)
    | split
    | (rename_i hq; split at hq)
    | (rename_i hq; obtain ⟨_, rfl⟩ := Prod.mk.inj hq)

/-- May change: tag. -/
theorem execChangePassword_goes (req : TagReq) (area : Fin 256) (kind : Fin 256) (new : Word) (z : State) : Goes 262144 z (execChangePassword req area kind new z) := by
  unfold execChangePassword
  repeat'
    first
    | with_reducible apply Moves.refl
    | with_reducible assumption
    | intro _
    | with_reducible apply goOn_goes
    | with_reducible apply ite_goes
    | ((with_reducible apply Moves.by (State.tagError_moves _ _)); case hs => exact rfl)
    | ((with_reducible apply State.tagServe_moves); case hs => exact rfl)
    | ((with_reducible apply Moves.by (State.tagFieldWrite_moves _ _ _)); case hs => exact rfl)
    | with_reducible apply ite_moves
    | (extract_lets +onlyGivenNames x; apply Moves.cut (m := 262144) (z := z) x; (case' h => unfold x); (case' k => (clear_value x; intro _)))
    | (extract_lets +onlyGivenNames x; clear_value x)
    | split
    | (rename_i hq; split at hq)
    | (rename_i hq; obtain ⟨_, rfl⟩ := Prod.mk.inj hq)

/-- May change: mem, tag. -/
theorem State.tagUp_moves (z : State) : Moves 262148 z (State.tagUp z) := by
  unfold State.tagUp
  repeat'
    first
    | with_reducible apply Moves.refl
    | with_reducible assumption
    | intro _
    | ((with_reducible apply Moves.by (State.setTagPort_moves _ _)); case hs => exact rfl)
    | ((with_reducible apply Moves.by (State.setTagBlock_moves _ _ _)); case hs => exact rfl)
    | with_reducible apply ite_moves
    | (extract_lets +onlyGivenNames x; apply Moves.cut (m := 262148) (z := z) x; (case' h => unfold x); (case' k => (clear_value x; intro _)))
    | (extract_lets +onlyGivenNames x; clear_value x)
    | split
    | (rename_i hq; split at hq)
    | (rename_i hq; obtain ⟨_, rfl⟩ := Prod.mk.inj hq)

/-- May change: mem, tag. -/
theorem execTagPowerUp_goes (z : State) : Goes 262148 z (execTagPowerUp z) := by
  unfold execTagPowerUp
  repeat'
    first
    | with_reducible apply Moves.refl
    | with_reducible assumption
    | intro _
    | with_reducible apply goOn_goes
    | with_reducible apply ite_goes
    | ((with_reducible apply Moves.by (State.tagUp_moves _)); case hs => exact rfl)
    | with_reducible apply ite_moves
    | (extract_lets +onlyGivenNames x; apply Moves.cut (m := 262148) (z := z) x; (case' h => unfold x); (case' k => (clear_value x; intro _)))
    | (extract_lets +onlyGivenNames x; clear_value x)
    | split
    | (rename_i hq; split at hq)
    | (rename_i hq; obtain ⟨_, rfl⟩ := Prod.mk.inj hq)

/-- May change: mem, free. -/
theorem State.tagTorn_moves (z : State) (b : Nat) : Moves 16777220 z (State.tagTorn z b) := by
  unfold State.tagTorn
  repeat'
    first
    | with_reducible apply Moves.refl
    | with_reducible assumption
    | intro _
    | ((with_reducible apply Moves.by (State.setTagBlock_moves _ _ _)); case hs => exact rfl)
    | ((with_reducible apply Moves.by (State.with_free_moves _ _)); case hs => exact rfl)
    | rw [State.with_free_eq]
    | with_reducible apply ite_moves
    | (extract_lets +onlyGivenNames x; apply Moves.cut (m := 16777220) (z := z) x; (case' h => unfold x); (case' k => (clear_value x; intro _)))
    | (extract_lets +onlyGivenNames x; clear_value x)
    | split
    | (rename_i hq; split at hq)
    | (rename_i hq; obtain ⟨_, rfl⟩ := Prod.mk.inj hq)

/-- May change: mem, free. -/
theorem State.tagTear_moves (z : State) (w : TagWrite) (step : Nat) : Moves 16777220 z (State.tagTear z w step) := by
  unfold State.tagTear
  repeat'
    first
    | with_reducible apply Moves.refl
    | with_reducible assumption
    | intro _
    | ((with_reducible apply Moves.by (State.tagTorn_moves _ _)); case hs => exact rfl)
    | ((with_reducible apply Moves.by (State.setTagBlock_moves _ _ _)); case hs => exact rfl)
    | ((with_reducible apply Moves.by (State.with_free_moves _ _)); case hs => exact rfl)
    | rw [State.with_free_eq]
    | with_reducible apply ite_moves
    | (extract_lets +onlyGivenNames x; apply Moves.cut (m := 16777220) (z := z) x; (case' h => unfold x); (case' k => (clear_value x; intro _)))
    | (extract_lets +onlyGivenNames x; clear_value x)
    | split
    | (rename_i hq; split at hq)
    | (rename_i hq; obtain ⟨_, rfl⟩ := Prod.mk.inj hq)

/-- May change: mem, tag, free. -/
theorem State.tagDown_moves (z : State) (step : Nat) : Moves 17039364 z (State.tagDown z step) := by
  unfold State.tagDown
  repeat'
    first
    | with_reducible apply Moves.refl
    | with_reducible assumption
    | intro _
    | ((with_reducible apply Moves.by (State.setTagPort_moves _ _)); case hs => exact rfl)
    | ((with_reducible apply Moves.by (State.tagTear_moves _ _ _)); case hs => exact rfl)
    | with_reducible apply ite_moves
    | (extract_lets +onlyGivenNames x; apply Moves.cut (m := 17039364) (z := z) x; (case' h => unfold x); (case' k => (clear_value x; intro _)))
    | (extract_lets +onlyGivenNames x; clear_value x)
    | split
    | (rename_i hq; split at hq)
    | (rename_i hq; obtain ⟨_, rfl⟩ := Prod.mk.inj hq)

/-- May change: faults, power, evr, core0, core1, registers of block 0 11 16 18. -/
theorem State.tagCoreDone_moves (z : State) (block : Nat) (good : Bool) : Moves 44255477338160 z (State.tagCoreDone z block good) := by
  unfold State.tagCoreDone
  repeat'
    first
    | with_reducible apply Moves.refl
    | with_reducible assumption
    | intro _
    | ((with_reducible apply Moves.by (State.report_moves _ _ _ _ _ _)); case hs => exact rfl)
    | ((with_reducible apply Moves.put); (case hf => (with_reducible first | apply TAG_WSTAT_COUNT_block | apply TAG_WSTAT_RUN_block | apply TAG_WSTAT_STATUS_block)); case hm => exact rfl)
    | ((with_reducible apply Moves.flag); (case hf => (with_reducible first | apply TAG_WSTAT_COUNT_block | apply TAG_WSTAT_RUN_block | apply TAG_WSTAT_STATUS_block)); case hm => exact rfl)
    | ((with_reducible apply Moves.bumpWrap); (case hf => (with_reducible first | apply TAG_WSTAT_COUNT_block | apply TAG_WSTAT_RUN_block | apply TAG_WSTAT_STATUS_block)); case hm => exact rfl)
    | with_reducible apply ite_moves
    | (extract_lets +onlyGivenNames x; apply Moves.cut (m := 44255477338160) (z := z) x; (case' h => unfold x); (case' k => (clear_value x; intro _)))
    | (extract_lets +onlyGivenNames x; clear_value x)
    | split
    | (rename_i hq; split at hq)
    | (rename_i hq; obtain ⟨_, rfl⟩ := Prod.mk.inj hq)

/-- May change: tag. -/
theorem State.tagCompare_moves (z : State) (area : Nat) (kind : Nat) (password : Nat) : Moves 262144 z (State.tagCompare z area kind password) := by
  unfold State.tagCompare
  repeat'
    first
    | with_reducible apply Moves.refl
    | with_reducible assumption
    | intro _
    | ((with_reducible apply Moves.by (State.tagReply_moves _ _)); case hs => exact rfl)
    | ((with_reducible apply Moves.by (State.tagRelease_moves _)); case hs => exact rfl)
    | ((with_reducible apply Moves.by (State.tagBegin_moves _ _)); case hs => exact rfl)
    | ((with_reducible apply Moves.by (State.tagError_moves _ _)); case hs => exact rfl)
    | ((with_reducible apply Moves.by (State.setTagPort_moves _ _)); case hs => exact rfl)
    | with_reducible apply ite_moves
    | (extract_lets +onlyGivenNames x; apply Moves.cut (m := 262144) (z := z) x; (case' h => unfold x); (case' k => (clear_value x; intro _)))
    | (extract_lets +onlyGivenNames x; clear_value x)
    | split
    | (rename_i hq; split at hq)
    | (rename_i hq; obtain ⟨_, rfl⟩ := Prod.mk.inj hq)

/-- May change: tag. -/
theorem State.tagOpen_moves (z : State) (area : Nat) (kind : Nat) : Moves 262144 z (State.tagOpen z area kind) := by
  unfold State.tagOpen
  repeat'
    first
    | with_reducible apply Moves.refl
    | with_reducible assumption
    | intro _
    | ((with_reducible apply Moves.by (State.setTagPort_moves _ _)); case hs => exact rfl)
    | with_reducible apply ite_moves
    | (extract_lets +onlyGivenNames x; apply Moves.cut (m := 262144) (z := z) x; (case' h => unfold x); (case' k => (clear_value x; intro _)))
    | (extract_lets +onlyGivenNames x; clear_value x)
    | split
    | (rename_i hq; split at hq)
    | (rename_i hq; obtain ⟨_, rfl⟩ := Prod.mk.inj hq)

/-- May change: mem, faults, power, evr, core0, core1, tag, free, registers of block 0 11 16 18. -/
theorem execTagWriteDone_goes (good : Bool) (z : State) : Goes 44255494377524 z (execTagWriteDone good z) := by
  unfold execTagWriteDone
  repeat'
    first
    | with_reducible apply Moves.refl
    | with_reducible assumption
    | intro _
    | ((with_reducible apply Moves.by (State.tagReply_moves _ _)); case hs => exact rfl)
    | with_reducible apply goOn_goes
    | with_reducible apply ite_goes
    | ((with_reducible apply Moves.by (State.tagOpen_moves _ _ _)); case hs => exact rfl)
    | ((with_reducible apply Moves.by (State.tagCoreDone_moves _ _ _)); case hs => exact rfl)
    | ((with_reducible apply Moves.by (State.tagRelease_moves _)); case hs => exact rfl)
    | ((with_reducible apply Moves.by (State.raiseIf_moves _ _ _)); case hs => exact rfl)
    | ((with_reducible apply Moves.by (State.tagTorn_moves _ _)); case hs => exact rfl)
    | ((with_reducible apply Moves.by (State.tagError_moves _ _)); case hs => exact rfl)
    | ((with_reducible apply Moves.by (State.tagCompare_moves _ _ _ _)); case hs => exact rfl)
    | ((with_reducible apply Moves.by (State.tagAnswer_moves _ _)); case hs => exact rfl)
    | ((with_reducible apply Moves.by (State.setTagBlock_moves _ _ _)); case hs => exact rfl)
    | with_reducible apply ite_moves
    | (extract_lets +onlyGivenNames x; apply Moves.cut (m := 44255494377524) (z := z) x; (case' h => unfold x); (case' k => (clear_value x; intro _)))
    | (extract_lets +onlyGivenNames x; clear_value x)
    | split
    | (rename_i hq; split at hq)
    | (rename_i hq; obtain ⟨_, rfl⟩ := Prod.mk.inj hq)

/-- May change: power, evr, core0, core1, tag, registers of block 0 11. -/
theorem execTagLockout_goes (area : Fin 8) (z : State) : Goes 275012489248 z (execTagLockout area z) := by
  unfold execTagLockout
  repeat'
    first
    | with_reducible apply Moves.refl
    | with_reducible assumption
    | intro _
    | with_reducible apply goOn_goes
    | with_reducible apply ite_goes
    | ((with_reducible apply Moves.by (State.raise_moves _ _)); case hs => exact rfl)
    | ((with_reducible apply Moves.by (State.setTagPort_moves _ _)); case hs => exact rfl)
    | with_reducible apply ite_moves
    | (extract_lets +onlyGivenNames x; apply Moves.cut (m := 275012489248) (z := z) x; (case' h => unfold x); (case' k => (clear_value x; intro _)))
    | (extract_lets +onlyGivenNames x; clear_value x)
    | split
    | (rename_i hq; split at hq)
    | (rename_i hq; obtain ⟨_, rfl⟩ := Prod.mk.inj hq)

/-- May change: tag, registers of block 16. -/
theorem State.tagCoreWrite_moves (z : State) (b : Nat) (data : Nat) (purpose : TagPurpose) (tie : Bool) : Moves 8796093284352 z (State.tagCoreWrite z b data purpose tie) := by
  unfold State.tagCoreWrite
  repeat'
    first
    | with_reducible apply Moves.refl
    | with_reducible assumption
    | intro _
    | ((with_reducible apply Moves.by (State.tagTake_moves _ _ _)); case hs => exact rfl)
    | ((with_reducible apply State.tagTake_pair); (case hp => assumption); case hs => exact rfl)
    | ((with_reducible apply Moves.by (State.tagBegin_moves _ _)); case hs => exact rfl)
    | ((with_reducible apply Moves.put); (case hf => (with_reducible first | apply TAG_WSTAT_RUN_block | apply TAG_WSTAT_STATUS_block)); case hm => exact rfl)
    | ((with_reducible apply Moves.flag); (case hf => (with_reducible first | apply TAG_WSTAT_RUN_block | apply TAG_WSTAT_STATUS_block)); case hm => exact rfl)
    | with_reducible apply ite_moves
    | (extract_lets +onlyGivenNames x; apply Moves.cut (m := 8796093284352) (z := z) x; (case' h => unfold x); (case' k => (clear_value x; intro _)))
    | (extract_lets +onlyGivenNames x; clear_value x)
    | split
    | (rename_i hq; split at hq)
    | (rename_i hq; obtain ⟨_, rfl⟩ := Prod.mk.inj hq)

/-- May change: tag, registers of block 16. -/
theorem execTagBlockWrite_goes (value : Word) (tie : Bool) (z : State) : Goes 8796093284352 z (execTagBlockWrite value tie z) := by
  unfold execTagBlockWrite
  repeat'
    first
    | with_reducible apply Moves.refl
    | with_reducible assumption
    | intro _
    | with_reducible apply goOn_goes
    | with_reducible apply ite_goes
    | ((with_reducible apply Moves.by (State.tagCoreWrite_moves _ _ _ _ _)); case hs => exact rfl)
    | with_reducible apply ite_moves
    | (extract_lets +onlyGivenNames x; apply Moves.cut (m := 8796093284352) (z := z) x; (case' h => unfold x); (case' k => (clear_value x; intro _)))
    | (extract_lets +onlyGivenNames x; clear_value x)
    | split
    | (rename_i hq; split at hq)
    | (rename_i hq; obtain ⟨_, rfl⟩ := Prod.mk.inj hq)

/-- May change: tag, registers of block 16. -/
theorem State.tagClear_moves (z : State) (area : Nat) (tie : Bool) : Moves 8796093284352 z (State.tagClear z area tie) := by
  unfold State.tagClear
  repeat'
    first
    | with_reducible apply Moves.refl
    | with_reducible assumption
    | intro _
    | ((with_reducible apply Moves.by (State.tagCoreWrite_moves _ _ _ _ _)); case hs => exact rfl)
    | with_reducible apply ite_moves
    | (extract_lets +onlyGivenNames x; apply Moves.cut (m := 8796093284352) (z := z) x; (case' h => unfold x); (case' k => (clear_value x; intro _)))
    | (extract_lets +onlyGivenNames x; clear_value x)
    | split
    | (rename_i hq; split at hq)
    | (rename_i hq; obtain ⟨_, rfl⟩ := Prod.mk.inj hq)

/-- May change: tag, registers of block 16. -/
theorem execClearAttempts_goes (area : Fin 8) (tie : Bool) (z : State) : Goes 8796093284352 z (execClearAttempts area tie z) := by
  unfold execClearAttempts
  repeat'
    first
    | with_reducible apply Moves.refl
    | with_reducible assumption
    | intro _
    | with_reducible apply goOn_goes
    | with_reducible apply ite_goes
    | ((with_reducible apply Moves.by (State.tagClear_moves _ _ _)); case hs => exact rfl)
    | (extract_lets +onlyGivenNames x; apply Moves.cut (m := 8796093284352) (z := z) x; (case' h => unfold x); (case' k => (clear_value x; intro _)))
    | (extract_lets +onlyGivenNames x; clear_value x)
    | split
    | (rename_i hq; split at hq)
    | (rename_i hq; obtain ⟨_, rfl⟩ := Prod.mk.inj hq)

/-- May change: power, evr, core0, core1, tag, registers of block 0 11. -/
theorem execFieldOn_goes (vrec : Fin 256) (z : State) : Goes 275012489248 z (execFieldOn vrec z) := by
  unfold execFieldOn
  repeat'
    first
    | with_reducible apply Moves.refl
    | with_reducible assumption
    | intro _
    | with_reducible apply goOn_goes
    | with_reducible apply ite_goes
    | ((with_reducible apply Moves.by (State.raiseIf_moves _ _ _)); case hs => exact rfl)
    | ((with_reducible apply Moves.by (State.setTagPort_moves _ _)); case hs => exact rfl)
    | ((with_reducible apply Moves.by (State.wakeRequest_moves _ _)); case hs => exact rfl)
    | with_reducible apply ite_moves
    | (extract_lets +onlyGivenNames x; apply Moves.cut (m := 275012489248) (z := z) x; (case' h => unfold x); (case' k => (clear_value x; intro _)))
    | (extract_lets +onlyGivenNames x; clear_value x)
    | split
    | (rename_i hq; split at hq)
    | (rename_i hq; obtain ⟨_, rfl⟩ := Prod.mk.inj hq)

/-- May change: mem, power, evr, core0, core1, tag, free, registers of block 0 11. -/
theorem execFieldOff_goes (step : Fin 6) (z : State) : Goes 275029266468 z (execFieldOff step z) := by
  unfold execFieldOff
  repeat'
    first
    | with_reducible apply Moves.refl
    | with_reducible assumption
    | intro _
    | ((with_reducible apply Moves.by (State.raise_moves _ _)); case hs => exact rfl)
    | with_reducible apply goOn_goes
    | with_reducible apply ite_goes
    | ((with_reducible apply Moves.by (State.tagDown_moves _ _)); case hs => exact rfl)
    | ((with_reducible apply Moves.by (State.raiseIf_moves _ _ _)); case hs => exact rfl)
    | ((with_reducible apply Moves.by (State.setTagPort_moves _ _)); case hs => exact rfl)
    | with_reducible apply ite_moves
    | (extract_lets +onlyGivenNames x; apply Moves.cut (m := 275029266468) (z := z) x; (case' h => unfold x); (case' k => (clear_value x; intro _)))
    | (extract_lets +onlyGivenNames x; clear_value x)
    | split
    | (rename_i hq; split at hq)
    | (rename_i hq; obtain ⟨_, rfl⟩ := Prod.mk.inj hq)

/-- May change: tag. -/
theorem execReservationEnd_goes (z : State) : Goes 262144 z (execReservationEnd z) := by
  unfold execReservationEnd
  repeat'
    first
    | with_reducible apply Moves.refl
    | with_reducible assumption
    | intro _
    | with_reducible apply goOn_goes
    | with_reducible apply ite_goes
    | ((with_reducible apply Moves.by (State.setTagPort_moves _ _)); case hs => exact rfl)
    | (extract_lets +onlyGivenNames x; apply Moves.cut (m := 262144) (z := z) x; (case' h => unfold x); (case' k => (clear_value x; intro _)))
    | (extract_lets +onlyGivenNames x; clear_value x)
    | split
    | (rename_i hq; split at hq)
    | (rename_i hq; obtain ⟨_, rfl⟩ := Prod.mk.inj hq)

/-- May change: mem, faults, power, evr, core0, core1, tag, free, registers of block 0 11 16 18. -/
theorem State.tagBlocks_moves (z : State) (busyAfter : Nat) (badAt : Option Nat) (n b : Nat) (bs : List Byte) : Moves 44255494377524 z (State.tagBlocks z busyAfter badAt n b bs).2 := by
  induction n generalizing z busyAfter b bs with
  | zero => exact Moves.refl
  | succ n ih =>
    unfold State.tagBlocks
    generalize ht : z.tagTake .core false = r
    obtain ⟨ok, s⟩ := r
    have h := State.tagTake_pair ht (m0 := 44255494377524) rfl Moves.refl
    have h2 (x y : Nat) : Moves 44255494377524 z ((s.setTagBlock 2040 x).setTagBlock 2041 y) :=
      (h.step (State.setTagBlock_moves _ _ _) rfl).step (State.setTagBlock_moves _ _ _) rfl
    dsimp only
    split
    · exact h
    · refine ((Moves.step ?_ (State.tagCoreDone_moves _ _ _) rfl)).step (ih _ _ _ _) rfl
      split
      · exact (h2 _ _).step (State.setTagBlock_moves _ _ _) rfl
      · exact (h2 _ _).step (State.tagTorn_moves _ _) rfl

theorem State.tagBlocks_pair {z : State} {busyAfter : Nat} {badAt : Option Nat} {n b : Nat} {bs : List Byte} {b1 : Option Nat} {u0 : State} {m0 : Nat} {r0 : State} (hp : State.tagBlocks z busyAfter badAt n b bs = (b1, u0)) (hs : sub 44255494377524 m0 = true) (h : Moves m0 r0 z) : Moves m0 r0 u0 := by
  have g := State.tagBlocks_moves z busyAfter badAt n b bs
  rw [hp] at g
  exact h.step g hs

/-- May change: mem, faults, power, evr, core0, core1, tag, host, objs, free, registers of block 0 11 16 18. -/
theorem State.tagDataWrite_moves (z : State) (bs : List Byte) (busyAfter : Nat) (badAt : Option Nat) : Moves 44255503290420 z (State.tagDataWrite z bs busyAfter badAt) := by
  unfold State.tagDataWrite
  repeat'
    first
    | with_reducible apply Moves.refl
    | with_reducible assumption
    | intro _
    | ((with_reducible apply Moves.by (State.objs_moves _ _ _)); case hs => exact rfl)
    | ((with_reducible apply Moves.by (State.answer_moves _ _)); case hs => exact rfl)
    | ((with_reducible apply Moves.by (State.tagBlocks_moves _ _ _ _ _ _)); case hs => exact rfl)
    | ((with_reducible apply State.tagBlocks_pair); (case hp => assumption); case hs => exact rfl)
    | with_reducible apply ite_moves
    | (extract_lets +onlyGivenNames x; apply Moves.cut (m := 44255503290420) (z := z) x; (case' h => unfold x); (case' k => (clear_value x; intro _)))
    | (extract_lets +onlyGivenNames x; clear_value x)
    | split
    | (rename_i hq; split at hq)
    | (rename_i hq; obtain ⟨_, rfl⟩ := Prod.mk.inj hq)

/-- May change: mem, faults, power, evr, core0, core1, tag, host, objs, free, registers of block 0 11 16 18. -/
theorem execTagMemoryDataWrite_goes (data : List Byte) (busyAfter : Nat) (badAt : Option Nat) (z : State) : Goes 44255503290420 z (execTagMemoryDataWrite data busyAfter badAt z) := by
  unfold execTagMemoryDataWrite
  repeat'
    first
    | with_reducible apply Moves.refl
    | with_reducible assumption
    | intro _
    | with_reducible apply goOn_goes
    | with_reducible apply ite_goes
    | ((with_reducible apply Moves.by (State.tagDataWrite_moves _ _ _ _)); case hs => exact rfl)
    | (extract_lets +onlyGivenNames x; apply Moves.cut (m := 44255503290420) (z := z) x; (case' h => unfold x); (case' k => (clear_value x; intro _)))
    | (extract_lets +onlyGivenNames x; clear_value x)
    | split
    | (rename_i hq; split at hq)
    | (rename_i hq; obtain ⟨_, rfl⟩ := Prod.mk.inj hq)

end Sys2Proof.Machine
end

