-- ==== Sys2Proof/Laws/Slot.lean ====
section
/-! SUPPORT. What the operations of Machine/Slot.lean may change. -/
set_option linter.all false
namespace Sys2Proof.Machine

set_option linter.tactic.unusedName false

/-- May change: slot, registers of block 4. -/
theorem execImageWrite_goes (offset : Nat) (bytes : List Byte) (z : State) : Goes 2147483776 z (execImageWrite offset bytes z) := by
  unfold execImageWrite
  repeat'
    first
    | with_reducible apply Moves.refl
    | with_reducible assumption
    | intro _
    | with_reducible apply goOn_goes
    | with_reducible apply ite_goes
    | ((with_reducible apply Moves.by (State.setStandbyState_moves _ _)); case hs => exact rfl)
    | ((with_reducible apply Moves.by (State.setStandby_moves _ _)); case hs => exact rfl)
    | ((with_reducible apply Moves.by (State.cmdRej_moves _)); case hs => exact rfl)
    | ((with_reducible apply Moves.flag); (case hf => (with_reducible apply SLE_STATUS_WR_REJ_block)); case hm => exact rfl)
    | with_reducible apply ite_moves
    | with_reducible apply foldl_moves
    | (extract_lets +onlyGivenNames x; apply Moves.cut (m := 2147483776) (z := z) x; (case' h => unfold x); (case' k => (clear_value x; intro _)))
    | (extract_lets +onlyGivenNames x; clear_value x)
    | split
    | (rename_i hq; split at hq)
    | (rename_i hq; obtain ⟨_, rfl⟩ := Prod.mk.inj hq)

/-- Changes the command's result, and what the accepted command changes. -/
theorem State.programCommand_moves {m : Nat} {r s : State} {ok : Bool} {f : State → State} (hs : sub 2147483648 m = true)
    (h : Moves m r s) (hf : ∀ t, Moves m r t → Moves m r (f t)) : Moves m r (s.programCommand ok f) := by
  unfold State.programCommand
  split
  · exact h
  split
  · exact h.step ((State.cmdRej_moves _).mono (b := 2147483648) rfl) hs
  · exact hf _ (h.step ((State.cmdOk_moves _).mono (b := 2147483648) rfl) hs)

/-- May change: slot, registers of block 4. -/
theorem execLoadProgram_goes (who : Master) (z : State) : Goes 2147483776 z (execLoadProgram who z) := by
  unfold execLoadProgram
  repeat'
    first
    | with_reducible apply Moves.refl
    | with_reducible assumption
    | intro _
    | with_reducible apply goOn_goes
    | with_reducible apply ite_goes
    | ((with_reducible apply State.programCommand_moves); case hs => exact rfl)
    | ((with_reducible apply Moves.by (State.setStandbyState_moves _ _)); case hs => exact rfl)
    | ((with_reducible apply Moves.by (State.with_slot_moves _ _)); case hs => exact rfl)
    | rw [State.with_slot_eq]
    | (extract_lets +onlyGivenNames x; apply Moves.cut (m := 2147483776) (z := z) x; (case' h => unfold x); (case' k => (clear_value x; intro _)))
    | (extract_lets +onlyGivenNames x; clear_value x)
    | split
    | (rename_i hq; split at hq)
    | (rename_i hq; obtain ⟨_, rfl⟩ := Prod.mk.inj hq)

/-- May change: power, evr, core0, core1, registers of block 0 4 11. -/
theorem execLoadCheckDone_goes (z : State) : Goes 277159710752 z (execLoadCheckDone z) := by
  unfold execLoadCheckDone
  repeat'
    first
    | with_reducible apply Moves.refl
    | with_reducible assumption
    | intro _
    | with_reducible apply goOn_goes
    | with_reducible apply ite_goes
    | ((with_reducible apply Moves.by (State.setStandbyState_moves _ _)); case hs => exact rfl)
    | ((with_reducible apply Moves.by (State.raise_moves _ _)); case hs => exact rfl)
    | ((with_reducible apply Moves.put); (case hf => (with_reducible first | apply SLE_LOADCHK_DETAIL_block | apply SLE_LOADCHK_RESULT_block | apply SLE_LOADCHK_STAGE_block)); case hm => exact rfl)
    | with_reducible apply ite_moves
    | (extract_lets +onlyGivenNames x; apply Moves.cut (m := 277159710752) (z := z) x; (case' h => unfold x); (case' k => (clear_value x; intro _)))
    | (extract_lets +onlyGivenNames x; clear_value x)
    | split
    | (rename_i hq; split at hq)
    | (rename_i hq; obtain ⟨_, rfl⟩ := Prod.mk.inj hq)

/-- May change: slot, registers of block 4. -/
theorem execArmSwap_goes (z : State) : Goes 2147483776 z (execArmSwap z) := by
  unfold execArmSwap
  repeat'
    first
    | with_reducible apply Moves.refl
    | with_reducible assumption
    | intro _
    | with_reducible apply goOn_goes
    | with_reducible apply ite_goes
    | ((with_reducible apply State.programCommand_moves); case hs => exact rfl)
    | ((with_reducible apply Moves.by (State.setStandbyState_moves _ _)); case hs => exact rfl)
    | ((with_reducible apply Moves.by (State.with_slot_moves _ _)); case hs => exact rfl)
    | rw [State.with_slot_eq]
    | (extract_lets +onlyGivenNames x; apply Moves.cut (m := 2147483776) (z := z) x; (case' h => unfold x); (case' k => (clear_value x; intro _)))
    | (extract_lets +onlyGivenNames x; clear_value x)
    | split
    | (rename_i hq; split at hq)
    | (rename_i hq; obtain ⟨_, rfl⟩ := Prod.mk.inj hq)

/-- May change: slot, registers of block 4. -/
theorem execProgramCancel_goes (z : State) : Goes 2147483776 z (execProgramCancel z) := by
  unfold execProgramCancel
  repeat'
    first
    | with_reducible apply Moves.refl
    | with_reducible assumption
    | intro _
    | with_reducible apply goOn_goes
    | with_reducible apply ite_goes
    | ((with_reducible apply State.programCommand_moves); case hs => exact rfl)
    | ((with_reducible apply Moves.by (State.disarm_moves _)); case hs => exact rfl)
    | (extract_lets +onlyGivenNames x; apply Moves.cut (m := 2147483776) (z := z) x; (case' h => unfold x); (case' k => (clear_value x; intro _)))
    | (extract_lets +onlyGivenNames x; clear_value x)
    | split
    | (rename_i hq; split at hq)
    | (rename_i hq; obtain ⟨_, rfl⟩ := Prod.mk.inj hq)

/-- May change: slot, registers of block 4. -/
theorem execProgramClear_goes (z : State) : Goes 2147483776 z (execProgramClear z) := by
  unfold execProgramClear
  repeat'
    first
    | with_reducible apply Moves.refl
    | with_reducible assumption
    | intro _
    | with_reducible apply goOn_goes
    | with_reducible apply ite_goes
    | ((with_reducible apply State.programCommand_moves); case hs => exact rfl)
    | ((with_reducible apply Moves.by (State.setStandbyState_moves _ _)); case hs => exact rfl)
    | ((with_reducible apply Moves.by (State.setStandby_moves _ _)); case hs => exact rfl)
    | ((with_reducible apply Moves.by (State.with_slot_moves _ _)); case hs => exact rfl)
    | rw [State.with_slot_eq]
    | (extract_lets +onlyGivenNames x; apply Moves.cut (m := 2147483776) (z := z) x; (case' h => unfold x); (case' k => (clear_value x; intro _)))
    | (extract_lets +onlyGivenNames x; clear_value x)
    | split
    | (rename_i hq; split at hq)
    | (rename_i hq; obtain ⟨_, rfl⟩ := Prod.mk.inj hq)

/-- May change: registers of block 4. -/
theorem execProgramStop_goes (z : State) : Goes 2147483648 z (execProgramStop z) := by
  unfold execProgramStop
  repeat'
    first
    | with_reducible apply Moves.refl
    | with_reducible assumption
    | intro _
    | with_reducible apply goOn_goes
    | with_reducible apply ite_goes
    | ((with_reducible apply State.programCommand_moves); case hs => exact rfl)
    | ((with_reducible apply Moves.flag); (case hf => (with_reducible apply SLE_STATUS_STOP_PEND_block)); case hm => exact rfl)
    | (extract_lets +onlyGivenNames x; apply Moves.cut (m := 2147483648) (z := z) x; (case' h => unfold x); (case' k => (clear_value x; intro _)))
    | (extract_lets +onlyGivenNames x; clear_value x)
    | split
    | (rename_i hq; split at hq)
    | (rename_i hq; obtain ⟨_, rfl⟩ := Prod.mk.inj hq)

/-- May change: tnet, clock, mem, poison, power, radio, slot, mac, sec, evr, core0, core1, boot, objs, registers of block 0 1 2 4 5 11. -/
theorem execFirstProgramStart_goes (z : State) : Goes 282269422575 z (execFirstProgramStart z) := by
  unfold execFirstProgramStart
  repeat'
    first
    | with_reducible apply Moves.refl
    | with_reducible assumption
    | intro _
    | with_reducible apply goOn_goes
    | with_reducible apply ite_goes
    | ((with_reducible apply Moves.by (State.advanceTo_moves _ _)); case hs => exact rfl)
    | ((with_reducible apply Moves.by (State.takeStaged_moves _)); case hs => exact rfl)
    | ((with_reducible apply Moves.by (State.swapBuffers_moves _ _)); case hs => exact rfl)
    | ((with_reducible apply Moves.by (State.stepThree_moves _)); case hs => exact rfl)
    | ((with_reducible apply Moves.by (State.beginSlot_moves _ _)); case hs => exact rfl)
    | ((with_reducible apply Moves.by (State.selectCells_moves _)); case hs => exact rfl)
    | ((with_reducible apply Moves.by (State.setPath_moves _ _ _)); case hs => exact rfl)
    | ((with_reducible apply Moves.flag); (case hf => (with_reducible apply SLE_STATUS_RUNNING_block)); case hm => exact rfl)
    | with_reducible apply ite_moves
    | (extract_lets +onlyGivenNames x; apply Moves.cut (m := 282269422575) (z := z) x; (case' h => unfold x); (case' k => (clear_value x; intro _)))
    | (extract_lets +onlyGivenNames x; clear_value x)
    | split
    | (rename_i hq; split at hq)
    | (rename_i hq; obtain ⟨_, rfl⟩ := Prod.mk.inj hq)

/-- May change: tnet, clock, mem, poison, power, radio, slot, mac, sec, evr, core0, core1, lgy, boot, objs, registers of block 0 1 2 4 5 8 11 15. -/
theorem execSlotBoundary_goes (gainA : Fin 16) (gainB : Fin 16) (z : State) : Goes 4714675803119 z (execSlotBoundary gainA gainB z) := by
  unfold execSlotBoundary
  repeat'
    first
    | with_reducible apply Moves.refl
    | with_reducible assumption
    | intro _
    | with_reducible apply goOn_goes
    | with_reducible apply ite_goes
    | ((with_reducible apply Moves.by (State.boundary_moves _ _ _)); case hs => exact rfl)
    | with_reducible apply ite_moves
    | (extract_lets +onlyGivenNames x; apply Moves.cut (m := 4714675803119) (z := z) x; (case' h => unfold x); (case' k => (clear_value x; intro _)))
    | (extract_lets +onlyGivenNames x; clear_value x)
    | split
    | (rename_i hq; split at hq)
    | (rename_i hq; obtain ⟨_, rfl⟩ := Prod.mk.inj hq)

/-- May change: mem, faults, power, radio, slot, mac, evr, core0, core1, lgy, registers of block 0 1 4 5 11 15 18. -/
theorem execTwinMismatch_goes (unit : Nat) (z : State) : Goes 39864141844980 z (execTwinMismatch unit z) := by
  unfold execTwinMismatch
  repeat'
    first
    | with_reducible apply Moves.refl
    | with_reducible assumption
    | intro _
    | with_reducible apply goOn_goes
    | with_reducible apply ite_goes
    | ((with_reducible apply Moves.by (State.mismatchRx_moves _ _)); case hs => exact rfl)
    | ((with_reducible apply Moves.by (State.mismatchTx_moves _ _)); case hs => exact rfl)
    | (extract_lets +onlyGivenNames x; apply Moves.cut (m := 39864141844980) (z := z) x; (case' h => unfold x); (case' k => (clear_value x; intro _)))
    | (extract_lets +onlyGivenNames x; clear_value x)
    | split
    | (rename_i hq; split at hq)
    | (rename_i hq; obtain ⟨_, rfl⟩ := Prod.mk.inj hq)

/-- May change: faults, power, radio, slot, evr, core0, core1, registers of block 0 1 11 18. -/
theorem execTwinLockup_goes (z : State) : Goes 35459652751600 z (execTwinLockup z) := by
  unfold execTwinLockup
  repeat'
    first
    | with_reducible apply Moves.refl
    | with_reducible assumption
    | intro _
    | with_reducible apply goOn_goes
    | with_reducible apply ite_goes
    | ((with_reducible apply Moves.by (State.lockUp_moves _)); case hs => exact rfl)
    | (extract_lets +onlyGivenNames x; apply Moves.cut (m := 35459652751600) (z := z) x; (case' h => unfold x); (case' k => (clear_value x; intro _)))
    | (extract_lets +onlyGivenNames x; clear_value x)
    | split
    | (rename_i hq; split at hq)
    | (rename_i hq; obtain ⟨_, rfl⟩ := Prod.mk.inj hq)

/-- May change: faults, power, radio, slot, evr, core0, core1, registers of block 0 1 11 18. -/
theorem execTwintestInject_goes (value : Word) (z : State) : Goes 35459652751600 z (execTwintestInject value z) := by
  unfold execTwintestInject
  repeat'
    first
    | with_reducible apply Moves.refl
    | with_reducible assumption
    | intro _
    | with_reducible apply goOn_goes
    | with_reducible apply ite_goes
    | ((with_reducible apply Moves.by (State.lockUp_moves _)); case hs => exact rfl)
    | ((with_reducible apply Moves.by (State.with_slot_moves _ _)); case hs => exact rfl)
    | rw [State.with_slot_eq]
    | with_reducible apply ite_moves
    | (extract_lets +onlyGivenNames x; apply Moves.cut (m := 35459652751600) (z := z) x; (case' h => unfold x); (case' k => (clear_value x; intro _)))
    | (extract_lets +onlyGivenNames x; clear_value x)
    | split
    | (rename_i hq; split at hq)
    | (rename_i hq; obtain ⟨_, rfl⟩ := Prod.mk.inj hq)

/-- May change: slot, registers of block 4. -/
theorem execDropPop_goes (z : State) : Goes 2147483776 z (execDropPop z) := by
  unfold execDropPop
  repeat'
    first
    | with_reducible apply Moves.refl
    | with_reducible assumption
    | intro _
    | with_reducible apply goOn_goes
    | with_reducible apply ite_goes
    | ((with_reducible apply Moves.by (State.with_slot_moves _ _)); case hs => exact rfl)
    | rw [State.with_slot_eq]
    | ((with_reducible apply Moves.put); (case hf => (with_reducible apply SLE_DROPSTAT_LOST_block)); case hm => exact rfl)
    | (extract_lets +onlyGivenNames x; apply Moves.cut (m := 2147483776) (z := z) x; (case' h => unfold x); (case' k => (clear_value x; intro _)))
    | (extract_lets +onlyGivenNames x; clear_value x)
    | split
    | (rename_i hq; split at hq)
    | (rename_i hq; obtain ⟨_, rfl⟩ := Prod.mk.inj hq)

/-- May change: registers of block 4. -/
theorem execAsnLRead_goes (z : State) : Goes 2147483648 z (execAsnLRead z) := by
  unfold execAsnLRead
  repeat'
    first
    | with_reducible apply Moves.refl
    | with_reducible assumption
    | intro _
    | with_reducible apply goOn_goes
    | with_reducible apply ite_goes
    | ((with_reducible apply Moves.put); (case hf => (with_reducible apply SLE_ASN_H_ASN_H_block)); case hm => exact rfl)
    | (extract_lets +onlyGivenNames x; apply Moves.cut (m := 2147483648) (z := z) x; (case' h => unfold x); (case' k => (clear_value x; intro _)))
    | (extract_lets +onlyGivenNames x; clear_value x)
    | split
    | (rename_i hq; split at hq)
    | (rename_i hq; obtain ⟨_, rfl⟩ := Prod.mk.inj hq)

/-- May change: tnet, mac. -/
theorem execRateAccumulatorOverflow_goes (z : State) : Goes 257 z (execRateAccumulatorOverflow z) := by
  unfold execRateAccumulatorOverflow
  repeat'
    first
    | with_reducible apply Moves.refl
    | with_reducible assumption
    | intro _
    | with_reducible apply goOn_goes
    | with_reducible apply ite_goes
    | ((with_reducible apply Moves.by (State.with_tnet_mac_moves _ _ _)); case hs => exact rfl)
    | rw [State.with_tnet_mac_eq]
    | with_reducible apply ite_moves
    | (extract_lets +onlyGivenNames x; apply Moves.cut (m := 257) (z := z) x; (case' h => unfold x); (case' k => (clear_value x; intro _)))
    | (extract_lets +onlyGivenNames x; clear_value x)
    | split
    | (rename_i hq; split at hq)
    | (rename_i hq; obtain ⟨_, rfl⟩ := Prod.mk.inj hq)

end Sys2Proof.Machine
end

