-- ==== Sys2Proof/Laws/Timers.lean ====
section
/-! SUPPORT. What the operations of Machine/Timers.lean may change. -/
set_option linter.all false
namespace Sys2Proof.Machine

set_option linter.tactic.unusedName false

/-- May change: evr. -/
theorem State.setEvr_moves (z : State) (e : Evr) : Moves 4096 z (State.setEvr z e) := by
  unfold State.setEvr
  repeat'
    first
    | with_reducible apply Moves.refl
    | with_reducible assumption
    | intro _
    | ((with_reducible apply Moves.by (State.with_evr_moves _ _)); case hs => exact rfl)
    | rw [State.with_evr_eq]
    | with_reducible apply ite_moves
    | (extract_lets +onlyGivenNames x; apply Moves.cut (m := 4096) (z := z) x; (case' h => unfold x); (case' k => (clear_value x; intro _)))
    | (extract_lets +onlyGivenNames x; clear_value x)
    | split
    | (rename_i hq; split at hq)
    | (rename_i hq; obtain ⟨_, rfl⟩ := Prod.mk.inj hq)

/-- May change: evr. -/
theorem State.setCmpDone_moves (z : State) (n : Nat) (b : Bool) : Moves 4096 z (State.setCmpDone z n b) := by
  unfold State.setCmpDone
  repeat'
    first
    | with_reducible apply Moves.refl
    | with_reducible assumption
    | intro _
    | ((with_reducible apply Moves.by (State.setEvr_moves _ _)); case hs => exact rfl)
    | with_reducible apply ite_moves
    | (extract_lets +onlyGivenNames x; apply Moves.cut (m := 4096) (z := z) x; (case' h => unfold x); (case' k => (clear_value x; intro _)))
    | (extract_lets +onlyGivenNames x; clear_value x)
    | split
    | (rename_i hq; split at hq)
    | (rename_i hq; obtain ⟨_, rfl⟩ := Prod.mk.inj hq)

/-- May change: power, evr, core0, core1, registers of block 0 10 11. -/
theorem State.timerTick_moves (z : State) (n : Nat) : Moves 412451180576 z (State.timerTick z n) := by
  unfold State.timerTick
  repeat'
    first
    | with_reducible apply Moves.refl
    | with_reducible assumption
    | intro _
    | ((with_reducible apply Moves.by (State.setCmpDone_moves _ _ _)); case hs => exact rfl)
    | ((with_reducible apply Moves.by (State.raiseIf_moves _ _ _)); case hs => exact rfl)
    | ((with_reducible apply Moves.put); (case hf => (with_reducible first | apply TMR_COUNT_COUNT_block | apply TMR_CTRL_EN_block | apply TMR_STAT_CMP_F_block | apply TMR_STAT_PER_F_block)); case hm => exact rfl)
    | ((with_reducible apply Moves.flag); (case hf => (with_reducible first | apply TMR_COUNT_COUNT_block | apply TMR_CTRL_EN_block | apply TMR_STAT_CMP_F_block | apply TMR_STAT_PER_F_block)); case hm => exact rfl)
    | with_reducible apply ite_moves
    | (extract_lets +onlyGivenNames x; apply Moves.cut (m := 412451180576) (z := z) x; (case' h => unfold x); (case' k => (clear_value x; intro _)))
    | (extract_lets +onlyGivenNames x; clear_value x)
    | split
    | (rename_i hq; split at hq)
    | (rename_i hq; obtain ⟨_, rfl⟩ := Prod.mk.inj hq)

/-- May change: power, evr, core0, core1, registers of block 0 10 11. -/
theorem execTimerTick_goes (n : Fin 8) (z : State) : Goes 412451180576 z (execTimerTick n z) := by
  unfold execTimerTick
  repeat'
    first
    | with_reducible apply Moves.refl
    | with_reducible assumption
    | intro _
    | with_reducible apply goOn_goes
    | with_reducible apply ite_goes
    | ((with_reducible apply Moves.by (State.timerTick_moves _ _)); case hs => exact rfl)
    | with_reducible apply ite_moves
    | (extract_lets +onlyGivenNames x; apply Moves.cut (m := 412451180576) (z := z) x; (case' h => unfold x); (case' k => (clear_value x; intro _)))
    | (extract_lets +onlyGivenNames x; clear_value x)
    | split
    | (rename_i hq; split at hq)
    | (rename_i hq; obtain ⟨_, rfl⟩ := Prod.mk.inj hq)

/-- May change: power, evr, core0, core1, registers of block 0 10 11. -/
theorem execTimerReload_goes (n : Fin 8) (z : State) : Goes 412451180576 z (execTimerReload n z) := by
  unfold execTimerReload
  repeat'
    first
    | with_reducible apply Moves.refl
    | with_reducible assumption
    | intro _
    | with_reducible apply goOn_goes
    | with_reducible apply ite_goes
    | ((with_reducible apply Moves.by (State.timerTick_moves _ _)); case hs => exact rfl)
    | with_reducible apply ite_moves
    | (extract_lets +onlyGivenNames x; apply Moves.cut (m := 412451180576) (z := z) x; (case' h => unfold x); (case' k => (clear_value x; intro _)))
    | (extract_lets +onlyGivenNames x; clear_value x)
    | split
    | (rename_i hq; split at hq)
    | (rename_i hq; obtain ⟨_, rfl⟩ := Prod.mk.inj hq)

/-- May change: evr, registers of block 10. -/
theorem State.timerStart_moves (z : State) (n : Nat) : Moves 137438957568 z (State.timerStart z n) := by
  unfold State.timerStart
  repeat'
    first
    | with_reducible apply Moves.refl
    | with_reducible assumption
    | intro _
    | ((with_reducible apply Moves.by (State.setCmpDone_moves _ _ _)); case hs => exact rfl)
    | ((with_reducible apply Moves.put); (case hf => (with_reducible first | apply TMR_COUNT_COUNT_block | apply TMR_CTRL_EN_block)); case hm => exact rfl)
    | ((with_reducible apply Moves.flag); (case hf => (with_reducible first | apply TMR_COUNT_COUNT_block | apply TMR_CTRL_EN_block)); case hm => exact rfl)
    | with_reducible apply ite_moves
    | (extract_lets +onlyGivenNames x; apply Moves.cut (m := 137438957568) (z := z) x; (case' h => unfold x); (case' k => (clear_value x; intro _)))
    | (extract_lets +onlyGivenNames x; clear_value x)
    | split
    | (rename_i hq; split at hq)
    | (rename_i hq; obtain ⟨_, rfl⟩ := Prod.mk.inj hq)

/-- May change: registers of block 10. -/
theorem State.timerStop_moves (z : State) (n : Nat) : Moves 137438953472 z (State.timerStop z n) := by
  unfold State.timerStop
  repeat'
    first
    | with_reducible apply Moves.refl
    | with_reducible assumption
    | intro _
    | ((with_reducible apply Moves.flag); (case hf => (with_reducible apply TMR_CTRL_EN_block)); case hm => exact rfl)
    | with_reducible apply ite_moves
    | (extract_lets +onlyGivenNames x; apply Moves.cut (m := 137438953472) (z := z) x; (case' h => unfold x); (case' k => (clear_value x; intro _)))
    | (extract_lets +onlyGivenNames x; clear_value x)
    | split
    | (rename_i hq; split at hq)
    | (rename_i hq; obtain ⟨_, rfl⟩ := Prod.mk.inj hq)

/-- May change: evr, registers of block 10. -/
theorem execTimerStart_goes (mask : Fin 256) (core1 : Bool) (z : State) : Goes 137438957568 z (execTimerStart mask core1 z) := by
  unfold execTimerStart
  repeat'
    first
    | with_reducible apply Moves.refl
    | with_reducible assumption
    | intro _
    | with_reducible apply goOn_goes
    | with_reducible apply ite_goes
    | ((with_reducible apply Moves.by (State.timerStart_moves _ _)); case hs => exact rfl)
    | with_reducible apply foldl_moves
    | (extract_lets +onlyGivenNames x; apply Moves.cut (m := 137438957568) (z := z) x; (case' h => unfold x); (case' k => (clear_value x; intro _)))
    | (extract_lets +onlyGivenNames x; clear_value x)
    | split
    | (rename_i hq; split at hq)
    | (rename_i hq; obtain ⟨_, rfl⟩ := Prod.mk.inj hq)

/-- May change: registers of block 10. -/
theorem execTimerStop_goes (mask : Fin 256) (core1 : Bool) (z : State) : Goes 137438953472 z (execTimerStop mask core1 z) := by
  unfold execTimerStop
  repeat'
    first
    | with_reducible apply Moves.refl
    | with_reducible assumption
    | intro _
    | with_reducible apply goOn_goes
    | with_reducible apply ite_goes
    | ((with_reducible apply Moves.by (State.timerStop_moves _ _)); case hs => exact rfl)
    | with_reducible apply foldl_moves
    | (extract_lets +onlyGivenNames x; apply Moves.cut (m := 137438953472) (z := z) x; (case' h => unfold x); (case' k => (clear_value x; intro _)))
    | (extract_lets +onlyGivenNames x; clear_value x)
    | split
    | (rename_i hq; split at hq)
    | (rename_i hq; obtain ⟨_, rfl⟩ := Prod.mk.inj hq)

/-- May change: evr. -/
theorem State.cmpArm_moves (z : State) (n : Nat) : Moves 4096 z (State.cmpArm z n) := by
  unfold State.cmpArm
  repeat'
    first
    | with_reducible apply Moves.refl
    | with_reducible assumption
    | intro _
    | ((with_reducible apply Moves.by (State.setCmpDone_moves _ _ _)); case hs => exact rfl)
    | ((with_reducible apply Moves.by (State.setEvr_moves _ _)); case hs => exact rfl)
    | with_reducible apply ite_moves
    | (extract_lets +onlyGivenNames x; apply Moves.cut (m := 4096) (z := z) x; (case' h => unfold x); (case' k => (clear_value x; intro _)))
    | (extract_lets +onlyGivenNames x; clear_value x)
    | split
    | (rename_i hq; split at hq)
    | (rename_i hq; obtain ⟨_, rfl⟩ := Prod.mk.inj hq)

/-- May change: evr, registers of block 10. -/
theorem execCmpWrite_goes (n : Fin 8) (value : Word) (core1 : Bool) (z : State) : Goes 137438957568 z (execCmpWrite n value core1 z) := by
  unfold execCmpWrite
  repeat'
    first
    | with_reducible apply Moves.refl
    | with_reducible assumption
    | intro _
    | with_reducible apply goOn_goes
    | with_reducible apply ite_goes
    | ((with_reducible apply Moves.by (State.cmpArm_moves _ _)); case hs => exact rfl)
    | ((with_reducible apply Moves.put); (case hf => (with_reducible apply TMR_CMP_CMP_block)); case hm => exact rfl)
    | with_reducible apply ite_moves
    | (extract_lets +onlyGivenNames x; apply Moves.cut (m := 137438957568) (z := z) x; (case' h => unfold x); (case' k => (clear_value x; intro _)))
    | (extract_lets +onlyGivenNames x; clear_value x)
    | split
    | (rename_i hq; split at hq)
    | (rename_i hq; obtain ⟨_, rfl⟩ := Prod.mk.inj hq)

/-- May change: power, evr, core0, core1, registers of block 0 10 11. -/
theorem execCompareImmediateFire_goes (n : Fin 8) (z : State) : Goes 412451180576 z (execCompareImmediateFire n z) := by
  unfold execCompareImmediateFire
  repeat'
    first
    | with_reducible apply Moves.refl
    | with_reducible assumption
    | intro _
    | with_reducible apply goOn_goes
    | with_reducible apply ite_goes
    | ((with_reducible apply Moves.by (State.setCmpDone_moves _ _ _)); case hs => exact rfl)
    | ((with_reducible apply Moves.by (State.raise_moves _ _)); case hs => exact rfl)
    | ((with_reducible apply Moves.flag); (case hf => (with_reducible apply TMR_STAT_CMP_F_block)); case hm => exact rfl)
    | with_reducible apply ite_moves
    | (extract_lets +onlyGivenNames x; apply Moves.cut (m := 412451180576) (z := z) x; (case' h => unfold x); (case' k => (clear_value x; intro _)))
    | (extract_lets +onlyGivenNames x; clear_value x)
    | split
    | (rename_i hq; split at hq)
    | (rename_i hq; obtain ⟨_, rfl⟩ := Prod.mk.inj hq)

/-- May change: host. -/
theorem execTnetRead_goes (z : State) : Goes 524288 z (execTnetRead z) := by
  unfold execTnetRead
  repeat'
    first
    | with_reducible apply Moves.refl
    | with_reducible assumption
    | intro _
    | with_reducible apply goOn_goes
    | with_reducible apply ite_goes
    | ((with_reducible apply Moves.by (State.with_host_moves _ _)); case hs => exact rfl)
    | rw [State.with_host_eq]
    | (extract_lets +onlyGivenNames x; apply Moves.cut (m := 524288) (z := z) x; (case' h => unfold x); (case' k => (clear_value x; intro _)))
    | (extract_lets +onlyGivenNames x; clear_value x)
    | split
    | (rename_i hq; split at hq)
    | (rename_i hq; obtain ⟨_, rfl⟩ := Prod.mk.inj hq)

/-- May change: evr, registers of block 11. -/
theorem State.stamp_moves (z : State) (c : Nat) (at_ : Nat) : Moves 274877911040 z (State.stamp z c at_) := by
  unfold State.stamp
  repeat'
    first
    | with_reducible apply Moves.refl
    | with_reducible assumption
    | intro _
    | ((with_reducible apply Moves.by (State.setEvr_moves _ _)); case hs => exact rfl)
    | ((with_reducible apply Moves.put); (case hf => (with_reducible first | apply EVR_STAT_TS_VALID_block | apply EVR_TSL_TS_L_block)); case hm => exact rfl)
    | ((with_reducible apply Moves.flag); (case hf => (with_reducible first | apply EVR_STAT_TS_VALID_block | apply EVR_TSL_TS_L_block)); case hm => exact rfl)
    | with_reducible apply ite_moves
    | (extract_lets +onlyGivenNames x; apply Moves.cut (m := 274877911040) (z := z) x; (case' h => unfold x); (case' k => (clear_value x; intro _)))
    | (extract_lets +onlyGivenNames x; clear_value x)
    | split
    | (rename_i hq; split at hq)
    | (rename_i hq; obtain ⟨_, rfl⟩ := Prod.mk.inj hq)

/-- May change: evr, registers of block 10. -/
theorem State.timerTasks_moves (z : State) (m : Nat) (n : Nat) : Moves 137438957568 z (State.timerTasks z m n) := by
  unfold State.timerTasks
  repeat'
    first
    | with_reducible apply Moves.refl
    | with_reducible assumption
    | intro _
    | ((with_reducible apply Moves.by (State.setCmpDone_moves _ _ _)); case hs => exact rfl)
    | ((with_reducible apply Moves.by (State.timerStart_moves _ _)); case hs => exact rfl)
    | ((with_reducible apply Moves.by (State.timerStop_moves _ _)); case hs => exact rfl)
    | ((with_reducible apply Moves.put); (case hf => (with_reducible first | apply TMR_CAPT_CAPT_block | apply TMR_COUNT_COUNT_block)); case hm => exact rfl)
    | with_reducible apply ite_moves
    | (extract_lets +onlyGivenNames x; apply Moves.cut (m := 137438957568) (z := z) x; (case' h => unfold x); (case' k => (clear_value x; intro _)))
    | (extract_lets +onlyGivenNames x; clear_value x)
    | split
    | (rename_i hq; split at hq)
    | (rename_i hq; obtain ⟨_, rfl⟩ := Prod.mk.inj hq)

/-- May change: registers of block 19. -/
theorem State.setPinOut_moves (z : State) (p : Nat) (b : Bool) : Moves 70368744177664 z (State.setPinOut z p b) := by
  unfold State.setPinOut
  dsimp only
  repeat'
    first
    | with_reducible apply Moves.refl
    | with_reducible assumption
    | intro _
    | ((with_reducible apply Moves.put); (case hf => (with_reducible first | apply PIN_OUT_H_LEVEL_block | apply PIN_OUT_L_LEVEL_block)); case hm => exact rfl)
    | with_reducible apply ite_moves
    | (extract_lets +onlyGivenNames x; apply Moves.cut (m := 70368744177664) (z := z) x; (case' h => unfold x); (case' k => (clear_value x; intro _)))
    | (extract_lets +onlyGivenNames x; clear_value x)
    | split
    | (rename_i hq; split at hq)
    | (rename_i hq; obtain ⟨_, rfl⟩ := Prod.mk.inj hq)

/-- May change: registers of block 19. -/
theorem State.gpoTasks_moves (z : State) (m : Nat) : Moves 70368744177664 z (State.gpoTasks z m) := by
  unfold State.gpoTasks
  repeat'
    first
    | with_reducible apply Moves.refl
    | with_reducible assumption
    | intro _
    | ((with_reducible apply Moves.by (State.setPinOut_moves _ _ _)); case hs => exact rfl)
    | with_reducible apply ite_moves
    | with_reducible apply foldl_moves
    | (extract_lets +onlyGivenNames x; apply Moves.cut (m := 70368744177664) (z := z) x; (case' h => unfold x); (case' k => (clear_value x; intro _)))
    | (extract_lets +onlyGivenNames x; clear_value x)
    | split
    | (rename_i hq; split at hq)
    | (rename_i hq; obtain ⟨_, rfl⟩ := Prod.mk.inj hq)

/-- May change: mem, power, radio, slot, mac, rtc, evr, core0, core1, registers of block 0 1 2 4 5 9 10 11 19. -/
theorem State.runTasks_moves (z : State) (m : Nat) : Moves 70857162594788 z (State.runTasks z m) := by
  unfold State.runTasks
  repeat'
    first
    | with_reducible apply Moves.refl
    | with_reducible assumption
    | intro _
    | ((with_reducible apply Moves.by (State.requestReset_moves _ _)); case hs => exact rfl)
    | ((with_reducible apply Moves.by (State.gpoTasks_moves _ _)); case hs => exact rfl)
    | ((with_reducible apply State.programCommand_moves); case hs => exact rfl)
    | ((with_reducible apply Moves.by (State.wantPoll_moves _)); case hs => exact rfl)
    | ((with_reducible apply Moves.by (State.timerTasks_moves _ _ _)); case hs => exact rfl)
    | ((with_reducible apply Moves.by (State.wakeRequest_moves _ _)); case hs => exact rfl)
    | ((with_reducible apply Moves.by (State.bkpErase_moves _)); case hs => exact rfl)
    | ((with_reducible apply Moves.by (State.enterScan_moves _)); case hs => exact rfl)
    | ((with_reducible apply Moves.by (State.setRtc_moves _ _)); case hs => exact rfl)
    | ((with_reducible apply Moves.flag); (case hf => (with_reducible apply SLE_STATUS_STOP_PEND_block)); case hm => exact rfl)
    | with_reducible apply ite_moves
    | with_reducible apply foldl_moves
    | (extract_lets +onlyGivenNames x; apply Moves.cut (m := 70857162594788) (z := z) x; (case' h => unfold x); (case' k => (clear_value x; intro _)))
    | (extract_lets +onlyGivenNames x; clear_value x)
    | split
    | (rename_i hq; split at hq)
    | (rename_i hq; obtain ⟨_, rfl⟩ := Prod.mk.inj hq)

/-- May change: mem, power, radio, slot, mac, rtc, evr, core0, core1, registers of block 0 1 2 4 5 9 10 11 19. -/
theorem execChannelPulse_goes (chan : Fin 32) (z : State) : Goes 70857162594788 z (execChannelPulse chan z) := by
  unfold execChannelPulse
  repeat'
    first
    | with_reducible apply Moves.refl
    | with_reducible assumption
    | intro _
    | with_reducible apply goOn_goes
    | with_reducible apply ite_goes
    | ((with_reducible apply Moves.by (State.stamp_moves _ _ _)); case hs => exact rfl)
    | ((with_reducible apply Moves.by (State.runTasks_moves _ _)); case hs => exact rfl)
    | ((with_reducible apply Moves.by (State.setEvr_moves _ _)); case hs => exact rfl)
    | ((with_reducible apply Moves.bump); (case hf => (with_reducible apply EVR_STAT_DROPPED_block)); case hm => exact rfl)
    | with_reducible apply ite_moves
    | (extract_lets +onlyGivenNames x; apply Moves.cut (m := 70857162594788) (z := z) x; (case' h => unfold x); (case' k => (clear_value x; intro _)))
    | (extract_lets +onlyGivenNames x; clear_value x)
    | split
    | (rename_i hq; split at hq)
    | (rename_i hq; obtain ⟨_, rfl⟩ := Prod.mk.inj hq)

/-- May change: evr, registers of block 11. -/
theorem execEvrFire_goes (value : Word) (core1 : Bool) (z : State) : Goes 274877911040 z (execEvrFire value core1 z) := by
  unfold execEvrFire
  repeat'
    first
    | with_reducible apply Moves.refl
    | with_reducible assumption
    | intro _
    | with_reducible apply goOn_goes
    | with_reducible apply ite_goes
    | ((with_reducible apply Moves.by (State.pulse_moves _ _ _)); case hs => exact rfl)
    | ((with_reducible apply Moves.flag); (case hf => (with_reducible apply EVR_STATUS_ACC_REJ_block)); case hm => exact rfl)
    | with_reducible apply foldl_moves
    | (extract_lets +onlyGivenNames x; apply Moves.cut (m := 274877911040) (z := z) x; (case' h => unfold x); (case' k => (clear_value x; intro _)))
    | (extract_lets +onlyGivenNames x; clear_value x)
    | split
    | (rename_i hq; split at hq)
    | (rename_i hq; obtain ⟨_, rfl⟩ := Prod.mk.inj hq)

/-- May change: power, evr, core0, core1, registers of block 0 11. -/
theorem execSoftwareEvent_goes (value : Word) (z : State) : Goes 275012227104 z (execSoftwareEvent value z) := by
  unfold execSoftwareEvent
  repeat'
    first
    | with_reducible apply Moves.refl
    | with_reducible assumption
    | intro _
    | with_reducible apply goOn_goes
    | with_reducible apply ite_goes
    | ((with_reducible apply Moves.by (State.raise_moves _ _)); case hs => exact rfl)
    | with_reducible apply foldl_moves
    | (extract_lets +onlyGivenNames x; apply Moves.cut (m := 275012227104) (z := z) x; (case' h => unfold x); (case' k => (clear_value x; intro _)))
    | (extract_lets +onlyGivenNames x; clear_value x)
    | split
    | (rename_i hq; split at hq)
    | (rename_i hq; obtain ⟨_, rfl⟩ := Prod.mk.inj hq)

/-- May change: evr, registers of block 11. -/
theorem execPinEdge_goes (chan : Fin 32) (high : Bool) (age : Nat) (z : State) : Goes 274877911040 z (execPinEdge chan high age z) := by
  unfold execPinEdge
  repeat'
    first
    | with_reducible apply Moves.refl
    | with_reducible assumption
    | intro _
    | with_reducible apply goOn_goes
    | with_reducible apply ite_goes
    | ((with_reducible apply Moves.by (State.pulse_moves _ _ _)); case hs => exact rfl)
    | ((with_reducible apply Moves.flag); (case hf => (with_reducible apply EVR_STAT_LEVEL_block)); case hm => exact rfl)
    | with_reducible apply ite_moves
    | (extract_lets +onlyGivenNames x; apply Moves.cut (m := 274877911040) (z := z) x; (case' h => unfold x); (case' k => (clear_value x; intro _)))
    | (extract_lets +onlyGivenNames x; clear_value x)
    | split
    | (rename_i hq; split at hq)
    | (rename_i hq; obtain ⟨_, rfl⟩ := Prod.mk.inj hq)

/-- May change: registers of block 11. -/
theorem State.setStuck_moves (z : State) (c : Nat) (b : Bool) : Moves 274877906944 z (State.setStuck z c b) := by
  unfold State.setStuck
  repeat'
    first
    | with_reducible apply Moves.refl
    | with_reducible assumption
    | intro _
    | ((with_reducible apply Moves.put); (case hf => (with_reducible first | apply EVR_STAT_STUCK_block | apply EVR_STUCKSUM_STUCK_block)); case hm => exact rfl)
    | ((with_reducible apply Moves.flag); (case hf => (with_reducible first | apply EVR_STAT_STUCK_block | apply EVR_STUCKSUM_STUCK_block)); case hm => exact rfl)
    | with_reducible apply ite_moves
    | (extract_lets +onlyGivenNames x; apply Moves.cut (m := 274877906944) (z := z) x; (case' h => unfold x); (case' k => (clear_value x; intro _)))
    | (extract_lets +onlyGivenNames x; clear_value x)
    | split
    | (rename_i hq; split at hq)
    | (rename_i hq; obtain ⟨_, rfl⟩ := Prod.mk.inj hq)

/-- May change: registers of block 11. -/
theorem execStuckDetect_goes (chan : Fin 32) (z : State) : Goes 274877906944 z (execStuckDetect chan z) := by
  unfold execStuckDetect
  repeat'
    first
    | with_reducible apply Moves.refl
    | with_reducible assumption
    | intro _
    | with_reducible apply goOn_goes
    | with_reducible apply ite_goes
    | ((with_reducible apply Moves.by (State.setStuck_moves _ _ _)); case hs => exact rfl)
    | with_reducible apply ite_moves
    | (extract_lets +onlyGivenNames x; apply Moves.cut (m := 274877906944) (z := z) x; (case' h => unfold x); (case' k => (clear_value x; intro _)))
    | (extract_lets +onlyGivenNames x; clear_value x)
    | split
    | (rename_i hq; split at hq)
    | (rename_i hq; obtain ⟨_, rfl⟩ := Prod.mk.inj hq)

/-- May change: registers of block 11. -/
theorem execStuckClear_goes (chan : Fin 32) (z : State) : Goes 274877906944 z (execStuckClear chan z) := by
  unfold execStuckClear
  repeat'
    first
    | with_reducible apply Moves.refl
    | with_reducible assumption
    | intro _
    | with_reducible apply goOn_goes
    | with_reducible apply ite_goes
    | ((with_reducible apply Moves.by (State.setStuck_moves _ _ _)); case hs => exact rfl)
    | (extract_lets +onlyGivenNames x; apply Moves.cut (m := 274877906944) (z := z) x; (case' h => unfold x); (case' k => (clear_value x; intro _)))
    | (extract_lets +onlyGivenNames x; clear_value x)
    | split
    | (rename_i hq; split at hq)
    | (rename_i hq; obtain ⟨_, rfl⟩ := Prod.mk.inj hq)

/-- May change: evr. -/
theorem execRateWindowEnd_goes (chan : Fin 32) (z : State) : Goes 4096 z (execRateWindowEnd chan z) := by
  unfold execRateWindowEnd
  repeat'
    first
    | with_reducible apply Moves.refl
    | with_reducible assumption
    | intro _
    | with_reducible apply goOn_goes
    | with_reducible apply ite_goes
    | ((with_reducible apply Moves.by (State.setEvr_moves _ _)); case hs => exact rfl)
    | (extract_lets +onlyGivenNames x; apply Moves.cut (m := 4096) (z := z) x; (case' h => unfold x); (case' k => (clear_value x; intro _)))
    | (extract_lets +onlyGivenNames x; clear_value x)
    | split
    | (rename_i hq; split at hq)
    | (rename_i hq; obtain ⟨_, rfl⟩ := Prod.mk.inj hq)

/-- May change: host, registers of block 11. -/
theorem execStampRead_goes (chan : Fin 32) (z : State) : Goes 274878431232 z (execStampRead chan z) := by
  unfold execStampRead
  repeat'
    first
    | with_reducible apply Moves.refl
    | with_reducible assumption
    | intro _
    | with_reducible apply goOn_goes
    | with_reducible apply ite_goes
    | ((with_reducible apply Moves.by (State.with_host_moves _ _)); case hs => exact rfl)
    | rw [State.with_host_eq]
    | ((with_reducible apply Moves.put); (case hf => (with_reducible apply EVR_TSH_TS_H_block)); case hm => exact rfl)
    | (extract_lets +onlyGivenNames x; apply Moves.cut (m := 274878431232) (z := z) x; (case' h => unfold x); (case' k => (clear_value x; intro _)))
    | (extract_lets +onlyGivenNames x; clear_value x)
    | split
    | (rename_i hq; split at hq)
    | (rename_i hq; obtain ⟨_, rfl⟩ := Prod.mk.inj hq)

end Sys2Proof.Machine
end

