-- ==== Sys2Proof/Laws/PowerOps.lean ====
section
/-! SUPPORT. What the operations of Machine/PowerOps.lean may change. -/
set_option linter.all false
namespace Sys2Proof.Machine

set_option linter.tactic.unusedName false

/-- May change: power. -/
theorem State.setPower_moves (z : State) (p : Power) : Moves 32 z (State.setPower z p) := by
  unfold State.setPower
  repeat'
    first
    | with_reducible apply Moves.refl
    | with_reducible assumption
    | intro _
    | ((with_reducible apply Moves.by (State.with_power_moves _ _)); case hs => exact rfl)
    | rw [State.with_power_eq]
    | with_reducible apply ite_moves
    | (extract_lets +onlyGivenNames x; apply Moves.cut (m := 32) (z := z) x; (case' h => unfold x); (case' k => (clear_value x; intro _)))
    | (extract_lets +onlyGivenNames x; clear_value x)
    | split
    | (rename_i hq; split at hq)
    | (rename_i hq; obtain ⟨_, rfl⟩ := Prod.mk.inj hq)

theorem Moves.resetBlock {m n : Nat} {r s : State} (hm : m.testBit (27 + n) = true) (h : Moves m r s) : Moves m r (s.resetBlock n) := by
  refine h.step (State.dropBlock_moves (b := n) (by omega) (by omega)) ?_
  rw [show (1 <<< (27 + n) : Nat) = 2 ^ (27 + n) by rw [Nat.shiftLeft_eq, Nat.one_mul]]
  have e : 2 ^ (27 + n) &&& m = 2 ^ (27 + n) := ?_
  · show Nat.beq (2 ^ (27 + n) &&& m) _ = true
    rw [e]
    exact Nat.beq_refl _
  refine Nat.eq_of_testBit_eq fun i => ?_
  rw [Nat.testBit_and, Nat.testBit_two_pow]
  by_cases hi : 27 + n = i
  · subst hi; simp [hm]
  · simp [hi]

theorem Moves.resetBlocks {m : Nat} {r s : State} {l : List Nat} (hm : ∀ n ∈ l, m.testBit (27 + n) = true) (h : Moves m r s) :
    Moves m r (l.foldl State.resetBlock s) := by
  induction l generalizing s with
  | nil => exact h
  | cons n l ih => exact ih (fun k hk => hm k (by simp [hk])) (Moves.resetBlock (hm n (by simp)) h)

/-- May change: registers of block 0. -/
theorem State.entryRefused_moves (z : State) (result : Nat) : Moves 134217728 z (State.entryRefused z result) := by
  unfold State.entryRefused
  repeat'
    first
    | with_reducible apply Moves.refl
    | with_reducible assumption
    | intro _
    | ((with_reducible apply Moves.put); (case hf => (with_reducible first | apply PRC_PWRSTAT_PENDING_block | apply PRC_PWRSTAT_RESULT_block)); case hm => exact rfl)
    | ((with_reducible apply Moves.flag); (case hf => (with_reducible first | apply PRC_PWRSTAT_PENDING_block | apply PRC_PWRSTAT_RESULT_block)); case hm => exact rfl)
    | with_reducible apply ite_moves
    | (extract_lets +onlyGivenNames x; apply Moves.cut (m := 134217728) (z := z) x; (case' h => unfold x); (case' k => (clear_value x; intro _)))
    | (extract_lets +onlyGivenNames x; clear_value x)
    | split
    | (rename_i hq; split at hq)
    | (rename_i hq; obtain ⟨_, rfl⟩ := Prod.mk.inj hq)

/-- May change: mem, faults, power, evr, flash, core0, core1, registers of block 0 4 11 12 13 18. -/
theorem State.powerCommand_moves (z : State) (code : Nat) : Moves 37110799257652 z (State.powerCommand z code) := by
  unfold State.powerCommand
  repeat'
    first
    | with_reducible apply Moves.refl
    | with_reducible assumption
    | intro _
    | ((with_reducible apply Moves.by (State.entryRefused_moves _ _)); case hs => exact rfl)
    | ((with_reducible apply Moves.by (State.flushAll_moves _)); case hs => exact rfl)
    | ((with_reducible apply Moves.by (State.setPower_moves _ _)); case hs => exact rfl)
    | ((with_reducible apply Moves.flag); (case hf => (with_reducible first | apply PRC_PWRSTAT_CMD_REJ_block | apply PRC_PWRSTAT_PENDING_block | apply SLE_STATUS_STOP_PEND_block)); case hm => exact rfl)
    | with_reducible apply ite_moves
    | (extract_lets +onlyGivenNames x; apply Moves.cut (m := 37110799257652) (z := z) x; (case' h => unfold x); (case' k => (clear_value x; intro _)))
    | (extract_lets +onlyGivenNames x; clear_value x)
    | split
    | (rename_i hq; split at hq)
    | (rename_i hq; obtain ⟨_, rfl⟩ := Prod.mk.inj hq)

/-- May change: mem, power, radio, slot, mac, evr, core0, core1, lgy, registers of block 0 5 11 15. -/
theorem State.txCut_moves (z : State) : Moves 4677353837028 z (State.txCut z) := by
  unfold State.txCut
  repeat'
    first
    | with_reducible apply Moves.refl
    | with_reducible assumption
    | intro _
    | ((with_reducible apply Moves.by (State.chargeActual_moves _ _)); case hs => exact rfl)
    | ((with_reducible apply Moves.by (State.endTx_moves _ _ _)); case hs => exact rfl)
    | ((with_reducible apply Moves.by (State.with_radio_slot_moves _ _ _)); case hs => exact rfl)
    | rw [State.with_radio_slot_eq]
    | with_reducible apply ite_moves
    | (extract_lets +onlyGivenNames x; apply Moves.cut (m := 4677353837028) (z := z) x; (case' h => unfold x); (case' k => (clear_value x; intro _)))
    | (extract_lets +onlyGivenNames x; clear_value x)
    | split
    | (rename_i hq; split at hq)
    | (rename_i hq; obtain ⟨_, rfl⟩ := Prod.mk.inj hq)

/-- May change: mem, power, radio, slot, mac, evr, core0, core1, lgy, registers of block 0 1 2 5 11 15. -/
theorem State.radioDown_moves (z : State) : Moves 4678159143396 z (State.radioDown z) := by
  unfold State.radioDown
  repeat'
    first
    | with_reducible apply Moves.refl
    | with_reducible assumption
    | intro _
    | ((with_reducible apply Moves.by (State.txCut_moves _)); case hs => exact rfl)
    | ((with_reducible apply Moves.by (State.cutFrame_moves _ _)); case hs => exact rfl)
    | ((with_reducible apply Moves.by (State.with_radio_moves _ _)); case hs => exact rfl)
    | rw [State.with_radio_eq]
    | ((with_reducible apply Moves.put); (case hf => (with_reducible first | apply CHZ_LSTAT_STATE_block | apply RFC_STATE_STATE_A_block | apply RFC_STATE_STATE_B_block | apply RFC_STATE_STATE_T_block)); case hm => exact rfl)
    | with_reducible apply ite_moves
    | with_reducible apply foldl_moves
    | (extract_lets +onlyGivenNames x; apply Moves.cut (m := 4678159143396) (z := z) x; (case' h => unfold x); (case' k => (clear_value x; intro _)))
    | (extract_lets +onlyGivenNames x; clear_value x)
    | split
    | (rename_i hq; split at hq)
    | (rename_i hq; obtain ⟨_, rfl⟩ := Prod.mk.inj hq)

/-- May change: pins. -/
theorem State.holdPads_moves (z : State) : Moves 4194304 z (State.holdPads z) := by
  unfold State.holdPads
  repeat'
    first
    | with_reducible apply Moves.refl
    | with_reducible assumption
    | intro _
    | ((with_reducible apply Moves.by (State.with_pins_moves _ _)); case hs => exact rfl)
    | rw [State.with_pins_eq]
    | with_reducible apply ite_moves
    | (extract_lets +onlyGivenNames x; apply Moves.cut (m := 4194304) (z := z) x; (case' h => unfold x); (case' k => (clear_value x; intro _)))
    | (extract_lets +onlyGivenNames x; clear_value x)
    | split
    | (rename_i hq; split at hq)
    | (rename_i hq; obtain ⟨_, rfl⟩ := Prod.mk.inj hq)

/-- May change: radio. -/
theorem State.precharge_moves (z : State) : Moves 64 z (State.precharge z) := by
  unfold State.precharge
  repeat'
    first
    | with_reducible apply Moves.refl
    | with_reducible assumption
    | intro _
    | ((with_reducible apply Moves.by (State.with_radio_moves _ _)); case hs => exact rfl)
    | rw [State.with_radio_eq]
    | with_reducible apply ite_moves
    | (extract_lets +onlyGivenNames x; apply Moves.cut (m := 64) (z := z) x; (case' h => unfold x); (case' k => (clear_value x; intro _)))
    | (extract_lets +onlyGivenNames x; clear_value x)
    | split
    | (rename_i hq; split at hq)
    | (rename_i hq; obtain ⟨_, rfl⟩ := Prod.mk.inj hq)

/-- May change: mem, radio, slot, mac, sec, gnss, lgy, tag, host, pke, free, registers of block 1 2 3 4 5 6 7 8 14 15 17. -/
theorem State.deepLoss_moves (z : State) : Moves 24257726646212 z (State.deepLoss z) := by
  unfold State.deepLoss
  repeat'
    first
    | with_reducible apply Moves.refl
    | with_reducible assumption
    | intro _
    | ((with_reducible apply Moves.resetBlocks); case hm => decide)
    | ((with_reducible apply Moves.resetBlock); case hm => exact rfl)
    | ((with_reducible apply Moves.by (State.tagDown_moves _ _)); case hs => exact rfl)
    | ((with_reducible apply Moves.by (State.otpDefaults_moves _)); case hs => exact rfl)
    | ((with_reducible apply Moves.by (State.with_radio_slot_mac_sec_gnss_lgy_host_pke_moves _ _ _ _ _ _ _ _ _)); case hs => exact rfl)
    | rw [State.with_radio_slot_mac_sec_gnss_lgy_host_pke_eq]
    | with_reducible apply ite_moves
    | with_reducible apply foldl_moves
    | (extract_lets +onlyGivenNames x; apply Moves.cut (m := 24257726646212) (z := z) x; (case' h => unfold x); (case' k => (clear_value x; intro _)))
    | (extract_lets +onlyGivenNames x; clear_value x)
    | split
    | (rename_i hq; split at hq)
    | (rename_i hq; obtain ⟨_, rfl⟩ := Prod.mk.inj hq)

/-- May change: mem, poison, memctl. -/
theorem State.initSram_moves (z : State) (keep : Nat → Bool) : Moves 8204 z (z.initSram keep) := by
  refine ⟨fun p hp => ?_, fun g => ⟨Sparse.wf_filter _ g.1, g.2.1, Poison.wf_filter _ g.2.2.1, g.2.2.2⟩⟩
  cases p with
  | mem => exact absurd hp (by decide)
  | poison => exact absurd hp (by decide)
  | memctl => exact absurd hp (by decide)
  | regs _ => exact fun _ _ => rfl
  | _ => rfl

/-- May change: mem, power, radio, slot, mac, sec, gnss, evr, core0, core1, lgy, tag, host, pke, pins, free, registers of block 0 1 2 3 4 5 6 7 8 11 14 15 17. -/
theorem State.enterLow_moves (z : State) : Moves 24532743067620 z (State.enterLow z) := by
  unfold State.enterLow
  repeat'
    first
    | with_reducible apply Moves.refl
    | with_reducible assumption
    | intro _
    | ((with_reducible apply Moves.by (State.radioDown_moves _)); case hs => exact rfl)
    | ((with_reducible apply Moves.by (State.holdPads_moves _)); case hs => exact rfl)
    | ((with_reducible apply Moves.by (State.tagDown_moves _ _)); case hs => exact rfl)
    | ((with_reducible apply Moves.by (State.deepLoss_moves _)); case hs => exact rfl)
    | ((with_reducible apply Moves.by (State.setPower_moves _ _)); case hs => exact rfl)
    | ((with_reducible apply Moves.put); (case hf => (with_reducible first | apply PRC_PWRSTAT_ENTRIES_block | apply PRC_PWRSTAT_PENDING_block | apply PRC_PWRSTAT_RESULT_block | apply PRC_PWRSTAT_TNET_RESTORED_block)); case hm => exact rfl)
    | ((with_reducible apply Moves.flag); (case hf => (with_reducible first | apply PRC_PWRSTAT_ENTRIES_block | apply PRC_PWRSTAT_PENDING_block | apply PRC_PWRSTAT_RESULT_block | apply PRC_PWRSTAT_TNET_RESTORED_block)); case hm => exact rfl)
    | ((with_reducible apply Moves.bumpWrap); (case hf => (with_reducible first | apply PRC_PWRSTAT_ENTRIES_block | apply PRC_PWRSTAT_PENDING_block | apply PRC_PWRSTAT_RESULT_block | apply PRC_PWRSTAT_TNET_RESTORED_block)); case hm => exact rfl)
    | with_reducible apply ite_moves
    | (extract_lets +onlyGivenNames x; apply Moves.cut (m := 24532743067620) (z := z) x; (case' h => unfold x); (case' k => (clear_value x; intro _)))
    | (extract_lets +onlyGivenNames x; clear_value x)
    | split
    | (rename_i hq; split at hq)
    | (rename_i hq; obtain ⟨_, rfl⟩ := Prod.mk.inj hq)

/-- May change: power. -/
theorem State.setWdt_moves (z : State) (n : Nat) (w : Watchdog) : Moves 32 z (State.setWdt z n w) := by
  unfold State.setWdt
  repeat'
    first
    | with_reducible apply Moves.refl
    | with_reducible assumption
    | intro _
    | ((with_reducible apply Moves.by (State.setPower_moves _ _)); case hs => exact rfl)
    | with_reducible apply ite_moves
    | (extract_lets +onlyGivenNames x; apply Moves.cut (m := 32) (z := z) x; (case' h => unfold x); (case' k => (clear_value x; intro _)))
    | (extract_lets +onlyGivenNames x; clear_value x)
    | split
    | (rename_i hq; split at hq)
    | (rename_i hq; obtain ⟨_, rfl⟩ := Prod.mk.inj hq)

/-- May change: power. -/
theorem State.wdtExpire_moves (z : State) (n : Nat) : Moves 32 z (State.wdtExpire z n) := by
  unfold State.wdtExpire
  repeat'
    first
    | with_reducible apply Moves.refl
    | with_reducible assumption
    | intro _
    | ((with_reducible apply Moves.by (State.requestReset_moves _ _)); case hs => exact rfl)
    | with_reducible apply ite_moves
    | (extract_lets +onlyGivenNames x; apply Moves.cut (m := 32) (z := z) x; (case' h => unfold x); (case' k => (clear_value x; intro _)))
    | (extract_lets +onlyGivenNames x; clear_value x)
    | split
    | (rename_i hq; split at hq)
    | (rename_i hq; obtain ⟨_, rfl⟩ := Prod.mk.inj hq)

/-- May change: power, registers of block 0. -/
theorem State.wdtEnable_moves (z : State) (n : Nat) : Moves 134217760 z (State.wdtEnable z n) := by
  unfold State.wdtEnable
  repeat'
    first
    | with_reducible apply Moves.refl
    | with_reducible assumption
    | intro _
    | ((with_reducible apply Moves.by (State.setWdt_moves _ _ _)); case hs => exact rfl)
    | ((with_reducible apply Moves.put); (case hf => (with_reducible first | apply PRC_WDT_CFG_EN_block | apply PRC_WDT_STAT_REMAIN_block | apply PRC_WDT_STAT_RUNNING_block)); case hm => exact rfl)
    | ((with_reducible apply Moves.flag); (case hf => (with_reducible first | apply PRC_WDT_CFG_EN_block | apply PRC_WDT_STAT_REMAIN_block | apply PRC_WDT_STAT_RUNNING_block)); case hm => exact rfl)
    | with_reducible apply ite_moves
    | (extract_lets +onlyGivenNames x; apply Moves.cut (m := 134217760) (z := z) x; (case' h => unfold x); (case' k => (clear_value x; intro _)))
    | (extract_lets +onlyGivenNames x; clear_value x)
    | split
    | (rename_i hq; split at hq)
    | (rename_i hq; obtain ⟨_, rfl⟩ := Prod.mk.inj hq)

/-- May change: power, registers of block 0. -/
theorem State.wdtReload_moves (z : State) (n : Nat) : Moves 134217760 z (State.wdtReload z n) := by
  unfold State.wdtReload
  repeat'
    first
    | with_reducible apply Moves.refl
    | with_reducible assumption
    | intro _
    | ((with_reducible apply Moves.by (State.wdtExpire_moves _ _)); case hs => exact rfl)
    | ((with_reducible apply Moves.by (State.setWdt_moves _ _ _)); case hs => exact rfl)
    | ((with_reducible apply Moves.put); (case hf => (with_reducible first | apply PRC_WDT_STAT_REMAIN_block | apply PRC_WDT_STAT_WARNED_block)); case hm => exact rfl)
    | ((with_reducible apply Moves.flag); (case hf => (with_reducible first | apply PRC_WDT_STAT_REMAIN_block | apply PRC_WDT_STAT_WARNED_block)); case hm => exact rfl)
    | with_reducible apply ite_moves
    | (extract_lets +onlyGivenNames x; apply Moves.cut (m := 134217760) (z := z) x; (case' h => unfold x); (case' k => (clear_value x; intro _)))
    | (extract_lets +onlyGivenNames x; clear_value x)
    | split
    | (rename_i hq; split at hq)
    | (rename_i hq; obtain ⟨_, rfl⟩ := Prod.mk.inj hq)

/-- May change: power, registers of block 0. -/
theorem State.wdtKick_moves (z : State) (n : Nat) (v : Nat) : Moves 134217760 z (State.wdtKick z n v) := by
  unfold State.wdtKick
  repeat'
    first
    | with_reducible apply Moves.refl
    | with_reducible assumption
    | intro _
    | ((with_reducible apply Moves.by (State.wdtExpire_moves _ _)); case hs => exact rfl)
    | ((with_reducible apply Moves.by (State.wdtReload_moves _ _)); case hs => exact rfl)
    | ((with_reducible apply Moves.by (State.setWdt_moves _ _ _)); case hs => exact rfl)
    | with_reducible apply ite_moves
    | (extract_lets +onlyGivenNames x; apply Moves.cut (m := 134217760) (z := z) x; (case' h => unfold x); (case' k => (clear_value x; intro _)))
    | (extract_lets +onlyGivenNames x; clear_value x)
    | split
    | (rename_i hq; split at hq)
    | (rename_i hq; obtain ⟨_, rfl⟩ := Prod.mk.inj hq)

/-- May change: power, evr, core0, core1, registers of block 0 11. -/
theorem State.wdtTick_moves (z : State) (n : Nat) : Moves 275012227104 z (State.wdtTick z n) := by
  unfold State.wdtTick
  repeat'
    first
    | with_reducible apply Moves.refl
    | with_reducible assumption
    | intro _
    | ((with_reducible apply Moves.by (State.setWdt_moves _ _ _)); case hs => exact rfl)
    | ((with_reducible apply Moves.by (State.raise_moves _ _)); case hs => exact rfl)
    | ((with_reducible apply Moves.put); (case hf => (with_reducible first | apply PRC_WDT_STAT_REMAIN_block | apply PRC_WDT_STAT_WARNED_block)); case hm => exact rfl)
    | ((with_reducible apply Moves.flag); (case hf => (with_reducible first | apply PRC_WDT_STAT_REMAIN_block | apply PRC_WDT_STAT_WARNED_block)); case hm => exact rfl)
    | with_reducible apply ite_moves
    | (extract_lets +onlyGivenNames x; apply Moves.cut (m := 275012227104) (z := z) x; (case' h => unfold x); (case' k => (clear_value x; intro _)))
    | (extract_lets +onlyGivenNames x; clear_value x)
    | split
    | (rename_i hq; split at hq)
    | (rename_i hq; obtain ⟨_, rfl⟩ := Prod.mk.inj hq)

/-- May change: faults, power, evr, core0, core1, registers of block 0 11 18. -/
theorem State.prcInfo_moves (z : State) (code : Nat) : Moves 35459384315952 z (State.prcInfo z code) := by
  unfold State.prcInfo
  repeat'
    first
    | with_reducible apply Moves.refl
    | with_reducible assumption
    | intro _
    | ((with_reducible apply Moves.by (State.report_moves _ _ _ _ _ _)); case hs => exact rfl)
    | with_reducible apply ite_moves
    | (extract_lets +onlyGivenNames x; apply Moves.cut (m := 35459384315952) (z := z) x; (case' h => unfold x); (case' k => (clear_value x; intro _)))
    | (extract_lets +onlyGivenNames x; clear_value x)
    | split
    | (rename_i hq; split at hq)
    | (rename_i hq; obtain ⟨_, rfl⟩ := Prod.mk.inj hq)

/-- May change: faults, power, evr, core0, core1, registers of block 0 11 18. -/
theorem State.resetCore1_moves (z : State) (codes : List Nat) : Moves 35459384315952 z (State.resetCore1 z codes) := by
  unfold State.resetCore1
  repeat'
    first
    | with_reducible apply Moves.refl
    | with_reducible assumption
    | intro _
    | ((with_reducible apply Moves.by (State.prcInfo_moves _ _)); case hs => exact rfl)
    | ((with_reducible apply Moves.by (State.with_core1_moves _ _)); case hs => exact rfl)
    | rw [State.with_core1_eq]
    | ((with_reducible apply Moves.put); (case hf => (with_reducible first | apply PRC_RSTCAUSE_C1_CAUSE_block | apply PRC_WDT_CFG_EN_block | apply PRC_WDT_STAT_RUNNING_block)); case hm => exact rfl)
    | ((with_reducible apply Moves.flag); (case hf => (with_reducible first | apply PRC_RSTCAUSE_C1_CAUSE_block | apply PRC_WDT_CFG_EN_block | apply PRC_WDT_STAT_RUNNING_block)); case hm => exact rfl)
    | with_reducible apply ite_moves
    | (extract_lets +onlyGivenNames x; apply Moves.cut (m := 35459384315952) (z := z) x; (case' h => unfold x); (case' k => (clear_value x; intro _)))
    | (extract_lets +onlyGivenNames x; clear_value x)
    | split
    | (rename_i hq; split at hq)
    | (rename_i hq; obtain ⟨_, rfl⟩ := Prod.mk.inj hq)

/-- May change: flash. -/
theorem State.flashLost_moves (z : State) : Moves 16384 z (State.flashLost z) := by
  unfold State.flashLost
  repeat'
    first
    | with_reducible apply Moves.refl
    | with_reducible assumption
    | intro _
    | ((with_reducible apply Moves.by (State.setFlash_moves _ _)); case hs => exact rfl)
    | with_reducible apply ite_moves
    | with_reducible apply foldl_moves
    | (extract_lets +onlyGivenNames x; apply Moves.cut (m := 16384) (z := z) x; (case' h => unfold x); (case' k => (clear_value x; intro _)))
    | (extract_lets +onlyGivenNames x; clear_value x)
    | split
    | (rename_i hq; split at hq)
    | (rename_i hq; obtain ⟨_, rfl⟩ := Prod.mk.inj hq)

/-- Changes anything but the clock, the queue and the part number. -/
theorem State.resetRest_moves (s : State) (cold clearLog : Bool) (codes : List Nat) (held : Option (Sparse Nat)) :
    Moves 140737387692029 s (s.resetRest cold clearLog codes held) :=
  remake_moves rfl rfl rfl rfl fun g => ⟨g.1, g.2.1, g.2.2.1, rfl⟩

theorem State.backupFields_sorted (s : State) (h : Sparse.sortedFrom 0 s.fields = true) : Sparse.sortedFrom 0 s.backupFields = true := by
  unfold State.backupFields
  have hp (t : State) (f : RegField) (v : Nat) (g : Sparse.sortedFrom 0 t.fields = true) : Sparse.sortedFrom 0 (t.put f v).fields = true :=
    Sparse.sortedFrom_write _ _ _ g
  dsimp only
  refine List.foldlRecOn (motive := fun (t : State) => Sparse.sortedFrom 0 t.fields = true) _ _ ?_ fun t g c _ => ?_
  · exact hp _ _ _ (Sparse.sortedFrom_filter _ h)
  · exact hp _ _ _ (hp _ _ _ (hp _ _ _ (hp _ _ _ (hp _ _ _ g))))

theorem State.backupFields_moves (s : State) : Moves 140737387692029 s { s with fields := s.backupFields } :=
  remake_moves rfl rfl rfl rfl fun g => ⟨g.1, s.backupFields_sorted g.2.1, g.2.2⟩

theorem warmFields_moves {r : State} (v : RegField → Nat) (s : State) (h : Moves 140737387692029 r s) :
    Moves 140737387692029 r (warmFields.foldl (fun (s : State) f => s.put f (v f)) s) :=
  List.foldlRecOn (motive := fun (t : State) => Moves 140737387692029 r t) _ _ h fun t ht f _ =>
    ht.trans (remake_moves rfl rfl rfl rfl fun g => ⟨g.1, Sparse.sortedFrom_write _ _ _ g.2.1, g.2.2⟩)

/-- May change: tnet, mem, poison, faults, power, radio, slot, mac, sec, gnss, rtc, evr, memctl, flash, core0, core1, lgy, tag, host, boot, pke, pins, objs, free, registers of block all. -/
theorem State.resetDevice_moves (z : State) (cold : Bool) (cause : Nat) (codes : List Nat) : Moves 140737387692029 z (State.resetDevice z cold cause codes) := by
  unfold State.resetDevice
  repeat'
    first
    | with_reducible apply Moves.refl
    | with_reducible assumption
    | intro _
    | ((with_reducible apply Moves.by (State.backupFields_moves _)); case hs => exact rfl)
    | (with_reducible apply warmFields_moves)
    | ((with_reducible apply Moves.by (State.holdPads_moves _)); case hs => exact rfl)
    | ((with_reducible apply Moves.by (State.tagDown_moves _ _)); case hs => exact rfl)
    | ((with_reducible apply Moves.by (State.flashLost_moves _)); case hs => exact rfl)
    | ((with_reducible apply Moves.by (State.measureEnd_moves _ _)); case hs => exact rfl)
    | ((with_reducible apply Moves.by (State.initSram_moves _ _)); case hs => exact rfl)
    | ((with_reducible apply Moves.by (State.resetRest_moves _ _ _ _ _)); case hs => exact rfl)
    | ((with_reducible apply Moves.put); (case hf => (with_reducible first | apply ERR_STATUS_DOUBLE_block | apply ERR_STATUS_LOG_LOST_block | apply ERR_STATUS_LOST_block | apply FLC_OWNER_SWAP_block | apply PRC_CTRL_PIN_HOLD_block | apply PRC_PWRSTAT_RESULT_block | apply PRC_RSTCAUSE_CAUSE_block | apply PRC_RSTCAUSE_FROM_STANDBY_block | apply PRC_RSTCAUSE_STEP_block | apply PRC_RSTSRC_SOURCES_block | apply PRC_STATUS_REF_FAIL_block)); case hm => exact rfl)
    | ((with_reducible apply Moves.flag); (case hf => (with_reducible first | apply ERR_STATUS_DOUBLE_block | apply ERR_STATUS_LOG_LOST_block | apply ERR_STATUS_LOST_block | apply FLC_OWNER_SWAP_block | apply PRC_CTRL_PIN_HOLD_block | apply PRC_PWRSTAT_RESULT_block | apply PRC_RSTCAUSE_CAUSE_block | apply PRC_RSTCAUSE_FROM_STANDBY_block | apply PRC_RSTCAUSE_STEP_block | apply PRC_RSTSRC_SOURCES_block | apply PRC_STATUS_REF_FAIL_block)); case hm => exact rfl)
    | with_reducible apply ite_moves
    | with_reducible apply foldl_moves
    | (extract_lets +onlyGivenNames x; apply Moves.cut (m := 140737387692029) (z := z) x; (case' h => unfold x); (case' k => (clear_value x; intro _)))
    | (extract_lets +onlyGivenNames x; clear_value x)
    | split
    | (rename_i hq; split at hq)
    | (rename_i hq; obtain ⟨_, rfl⟩ := Prod.mk.inj hq)

/-- May change: tnet, mem, power, radio, slot, mac, evr, core0, core1, lgy, registers of block 0 4 5 11 14 15. -/
theorem State.resetSlotEngine_moves (z : State) : Moves 6878524576229 z (State.resetSlotEngine z) := by
  unfold State.resetSlotEngine
  repeat'
    first
    | with_reducible apply Moves.refl
    | with_reducible assumption
    | intro _
    | ((with_reducible apply Moves.resetBlock); case hm => exact rfl)
    | ((with_reducible apply Moves.by (State.txCut_moves _)); case hs => exact rfl)
    | ((with_reducible apply Moves.by (State.otpDefaults_moves _)); case hs => exact rfl)
    | ((with_reducible apply Moves.by (State.finishDesc_moves _ _ _)); case hs => exact rfl)
    | ((with_reducible apply Moves.by (State.with_tnet_slot_mac_moves _ _ _ _)); case hs => exact rfl)
    | rw [State.with_tnet_slot_mac_eq]
    | with_reducible apply ite_moves
    | with_reducible apply foldl_moves
    | (extract_lets +onlyGivenNames x; apply Moves.cut (m := 6878524576229) (z := z) x; (case' h => unfold x); (case' k => (clear_value x; intro _)))
    | (extract_lets +onlyGivenNames x; clear_value x)
    | split
    | (rename_i hq; split at hq)
    | (rename_i hq; obtain ⟨_, rfl⟩ := Prod.mk.inj hq)

/-- May change: mem, poison, power, slot, mac, sec, evr, core0, core1, lgy, registers of block 0 4 5 6 11 15. -/
theorem State.resetCipher_moves (z : State) : Moves 4688091255724 z (State.resetCipher z) := by
  unfold State.resetCipher
  repeat'
    first
    | with_reducible apply Moves.refl
    | with_reducible assumption
    | intro _
    | ((with_reducible apply Moves.resetBlock); case hm => exact rfl)
    | ((with_reducible apply Moves.by (State.abortPage_moves _ _)); case hs => exact rfl)
    | ((with_reducible apply Moves.by (State.lateTx_moves _ _ _)); case hs => exact rfl)
    | ((with_reducible apply Moves.by (State.lateRx_moves _ _ _)); case hs => exact rfl)
    | ((with_reducible apply Moves.by (State.with_sec_moves _ _)); case hs => exact rfl)
    | rw [State.with_sec_eq]
    | with_reducible apply ite_moves
    | with_reducible apply foldl_moves
    | (extract_lets +onlyGivenNames x; apply Moves.cut (m := 4688091255724) (z := z) x; (case' h => unfold x); (case' k => (clear_value x; intro _)))
    | (extract_lets +onlyGivenNames x; clear_value x)
    | split
    | (rename_i hq; split at hq)
    | (rename_i hq; obtain ⟨_, rfl⟩ := Prod.mk.inj hq)

/-- May change: tnet, mem, poison, power, radio, slot, mac, sec, gnss, evr, core0, core1, lgy, host, pke, registers of block 0 1 2 3 4 5 6 7 8 11 14 15 16. -/
theorem State.blockReset_moves (z : State) (n : Nat) : Moves 15736628811757 z (State.blockReset z n) := by
  unfold State.blockReset
  repeat'
    first
    | with_reducible apply Moves.refl
    | with_reducible assumption
    | intro _
    | ((with_reducible apply Moves.resetBlock); case hm => exact rfl)
    | ((with_reducible apply Moves.by (State.radioDown_moves _)); case hs => exact rfl)
    | ((with_reducible apply Moves.by (State.steerOff_moves _)); case hs => exact rfl)
    | ((with_reducible apply Moves.by (State.txCut_moves _)); case hs => exact rfl)
    | ((with_reducible apply Moves.by (State.cutFrame_moves _ _)); case hs => exact rfl)
    | ((with_reducible apply Moves.by (State.otpDefaults_moves _)); case hs => exact rfl)
    | ((with_reducible apply Moves.by (State.acqAbort_moves _)); case hs => exact rfl)
    | ((with_reducible apply Moves.by (State.resetCipher_moves _)); case hs => exact rfl)
    | ((with_reducible apply Moves.by (State.resetSlotEngine_moves _)); case hs => exact rfl)
    | ((with_reducible apply Moves.by (State.with_gnss_moves _ _)); case hs => exact rfl)
    | rw [State.with_gnss_eq]
    | ((with_reducible apply Moves.by (State.with_host_moves _ _)); case hs => exact rfl)
    | rw [State.with_host_eq]
    | ((with_reducible apply Moves.by (State.with_pke_moves _ _)); case hs => exact rfl)
    | rw [State.with_pke_eq]
    | ((with_reducible apply Moves.by (State.with_radio_moves _ _)); case hs => exact rfl)
    | rw [State.with_radio_eq]
    | with_reducible apply ite_moves
    | with_reducible apply foldl_moves
    | (extract_lets +onlyGivenNames x; apply Moves.cut (m := 15736628811757) (z := z) x; (case' h => unfold x); (case' k => (clear_value x; intro _)))
    | (extract_lets +onlyGivenNames x; clear_value x)
    | split
    | (rename_i hq; split at hq)
    | (rename_i hq; obtain ⟨_, rfl⟩ := Prod.mk.inj hq)

/-- May change: tnet, mem, poison, power, radio, slot, mac, sec, gnss, evr, core0, core1, lgy, host, pke, registers of block 0 1 2 3 4 5 6 7 8 11 14 15 16. -/
theorem State.blockResetWrite_moves (z : State) (mask : Nat) : Moves 15736628811757 z (State.blockResetWrite z mask) := by
  unfold State.blockResetWrite
  repeat'
    first
    | with_reducible apply Moves.refl
    | with_reducible assumption
    | intro _
    | ((with_reducible apply Moves.by (State.blockReset_moves _ _)); case hs => exact rfl)
    | ((with_reducible apply Moves.put); (case hf => (with_reducible apply PRC_BLKRST_BLOCK_block)); case hm => exact rfl)
    | with_reducible apply ite_moves
    | with_reducible apply foldl_moves
    | (extract_lets +onlyGivenNames x; apply Moves.cut (m := 15736628811757) (z := z) x; (case' h => unfold x); (case' k => (clear_value x; intro _)))
    | (extract_lets +onlyGivenNames x; clear_value x)
    | split
    | (rename_i hq; split at hq)
    | (rename_i hq; obtain ⟨_, rfl⟩ := Prod.mk.inj hq)

/-- May change: pins, registers of block 0. -/
theorem State.holdRelease_moves (z : State) : Moves 138412032 z (State.holdRelease z) := by
  unfold State.holdRelease
  repeat'
    first
    | with_reducible apply Moves.refl
    | with_reducible assumption
    | intro _
    | ((with_reducible apply Moves.by (State.with_pins_moves _ _)); case hs => exact rfl)
    | rw [State.with_pins_eq]
    | ((with_reducible apply Moves.flag); (case hf => (with_reducible apply PRC_CTRL_PIN_HOLD_block)); case hm => exact rfl)
    | with_reducible apply ite_moves
    | (extract_lets +onlyGivenNames x; apply Moves.cut (m := 138412032) (z := z) x; (case' h => unfold x); (case' k => (clear_value x; intro _)))
    | (extract_lets +onlyGivenNames x; clear_value x)
    | split
    | (rename_i hq; split at hq)
    | (rename_i hq; obtain ⟨_, rfl⟩ := Prod.mk.inj hq)

end Sys2Proof.Machine
end

