-- ==== Sys2Proof/Laws/RegStore.lean ====
section
/-! SUPPORT. What the operations of Machine/RegStore.lean may change. -/
set_option linter.all false
namespace Sys2Proof.Machine

set_option linter.tactic.unusedName false

theorem State.after_moves {m : Nat} {r s : State} {f : State → Host.Outcome State Fault Refusal} (h : Moves m r s)
    (hf : ∀ u, Moves m r u → Goes m r (f u)) : Moves m r (s.after f) := by
  obtain ⟨t, ht, hm⟩ := hf s h
  unfold State.after
  rw [ht]
  exact hm

end Sys2Proof.Machine
end

