-- ==== Sys2Proof/Laws/RegWriteA.lean ====
section
/-! SUPPORT. What the operations of Machine/RegWriteA.lean may change. -/
set_option linter.all false
namespace Sys2Proof.Machine

set_option linter.tactic.unusedName false

/-- May change: tnet, mem, poison, faults, power, radio, slot, mac, sec, gnss, evr, flash, core0, core1, lgy, host, pke, pins, registers of block 0 1 2 3 4 5 6 7 8 11 12 13 14 15 16 18. -/
theorem State.prcWrite_moves (z : State) (w : RegStore) : Moves 52570272552957 z (State.prcWrite z w) := by
  unfold State.prcWrite
  repeat'
    first
    | with_reducible apply Moves.refl
    | with_reducible assumption
    | intro _
    | ((with_reducible apply Moves.by (State.powerCommand_moves _ _)); case hs => exact rfl)
    | ((with_reducible apply Moves.by (State.holdRelease_moves _)); case hs => exact rfl)
    | ((with_reducible apply Moves.by (State.resetCommand_moves _ _ _)); case hs => exact rfl)
    | ((with_reducible apply Moves.by (State.wdtEnable_moves _ _)); case hs => exact rfl)
    | ((with_reducible apply Moves.by (State.wdtKick_moves _ _ _)); case hs => exact rfl)
    | ((with_reducible apply Moves.by (State.blockResetWrite_moves _ _)); case hs => exact rfl)
    | ((with_reducible apply Moves.storeReg prcRegs_in); case hm => exact rfl)
    | ((with_reducible apply Moves.put); (case hf => (with_reducible apply PRC_WDT_CFG_WARN_block)); case hm => exact rfl)
    | with_reducible apply ite_moves
    | (extract_lets +onlyGivenNames x; apply Moves.cut (m := 52570272552957) (z := z) x; (case' h => unfold x); (case' k => (clear_value x; intro _)))
    | (extract_lets +onlyGivenNames x; clear_value x)
    | split
    | (rename_i hq; split at hq)
    | (rename_i hq; obtain ⟨_, rfl⟩ := Prod.mk.inj hq)

/-- May change: power, radio, slot, evr, core0, core1, free, registers of block 0 1 2 11. -/
theorem State.rfcWrite_moves (z : State) (w : RegStore) : Moves 275834310880 z (State.rfcWrite z w) := by
  unfold State.rfcWrite
  repeat'
    first
    | with_reducible apply Moves.refl
    | with_reducible assumption
    | intro _
    | ((with_reducible apply Goes.by (execTestCw_goes _)); case hs => exact rfl)
    | ((with_reducible apply Goes.by (execCalread_goes _)); case hs => exact rfl)
    | ((with_reducible apply Goes.by (execFreqWrite_goes _ _ _)); case hs => exact rfl)
    | ((with_reducible apply Goes.by (execRadioStateCommand_goes _ _)); case hs => exact rfl)
    | ((with_reducible apply Goes.by (execTestStop_goes _)); case hs => exact rfl)
    | ((with_reducible apply Goes.by (execModcarrier_goes _)); case hs => exact rfl)
    | ((with_reducible apply Goes.by (execPerRx_goes _)); case hs => exact rfl)
    | ((with_reducible apply Goes.by (execPerTx_goes _)); case hs => exact rfl)
    | (with_reducible apply State.after_moves)
    | ((with_reducible apply Goes.by (execCalibrationStart_goes _ _)); case hs => exact rfl)
    | ((with_reducible apply Moves.by (State.with_radio_moves _ _)); case hs => exact rfl)
    | rw [State.with_radio_eq]
    | ((with_reducible apply Moves.storeReg rfcRegs_in); case hm => exact rfl)
    | ((with_reducible apply Moves.put); (case hf => (with_reducible first | apply RFC_CTRL_ANT_CFG_block | apply RFC_GAIN_A_GAIN_block | apply RFC_GAIN_A_SAT_COUNT_block | apply RFC_GAIN_B_GAIN_block | apply RFC_GAIN_B_SAT_COUNT_block)); case hm => exact rfl)
    | with_reducible apply ite_moves
    | (extract_lets +onlyGivenNames x; apply Moves.cut (m := 275834310880) (z := z) x; (case' h => unfold x); (case' k => (clear_value x; intro _)))
    | (extract_lets +onlyGivenNames x; clear_value x)
    | split
    | (rename_i hq; split at hq)
    | (rename_i hq; obtain ⟨_, rfl⟩ := Prod.mk.inj hq)

/-- May change: radio, registers of block 2. -/
theorem State.laneCfgChanged_moves (z : State) (i : Nat) : Moves 536870976 z (State.laneCfgChanged z i) := by
  unfold State.laneCfgChanged
  repeat'
    first
    | with_reducible apply Moves.refl
    | with_reducible assumption
    | intro _
    | ((with_reducible apply Moves.by (State.restLane_moves _ _)); case hs => exact rfl)
    | ((with_reducible apply Moves.by (State.laneProfChanged_moves _ _)); case hs => exact rfl)
    | with_reducible apply ite_moves
    | with_reducible apply foldl_moves
    | (extract_lets +onlyGivenNames x; apply Moves.cut (m := 536870976) (z := z) x; (case' h => unfold x); (case' k => (clear_value x; intro _)))
    | (extract_lets +onlyGivenNames x; clear_value x)
    | split
    | (rename_i hq; split at hq)
    | (rename_i hq; obtain ⟨_, rfl⟩ := Prod.mk.inj hq)

/-- May change: radio, slot, registers of block 1 2. -/
theorem State.chzWrite_moves (z : State) (w : RegStore) : Moves 805306560 z (State.chzWrite z w) := by
  unfold State.chzWrite
  repeat'
    first
    | with_reducible apply Moves.refl
    | with_reducible assumption
    | intro _
    | ((with_reducible apply Moves.by (State.mapChanged_moves _)); case hs => exact rfl)
    | ((with_reducible apply Moves.by (State.writeTwin_moves _ _)); case hs => exact rfl)
    | ((with_reducible apply Goes.by (execRxProfileWrite_goes _ _ _)); case hs => exact rfl)
    | ((with_reducible apply Moves.by (State.takePlan_moves _ _)); case hs => exact rfl)
    | ((with_reducible apply Moves.by (State.laneCfgChanged_moves _ _)); case hs => exact rfl)
    | (with_reducible apply State.after_moves)
    | ((with_reducible apply Moves.storeReg chzRegs_in); case hm => exact rfl)
    | ((with_reducible apply Moves.put); (case hf => (with_reducible first | apply CHZ_CTRL_TWIN_EN_block | apply CHZ_LCNT_BLANKED_block | apply CHZ_LCNT_DETECT_block | apply CHZ_LCNT_OVF_block)); case hm => exact rfl)
    | with_reducible apply ite_moves
    | (extract_lets +onlyGivenNames x; apply Moves.cut (m := 805306560) (z := z) x; (case' h => unfold x); (case' k => (clear_value x; intro _)))
    | (extract_lets +onlyGivenNames x; clear_value x)
    | split
    | (rename_i hq; split at hq)
    | (rename_i hq; obtain ⟨_, rfl⟩ := Prod.mk.inj hq)

/-- May change: registers of block 3. -/
theorem State.txpWrite_moves (z : State) (w : RegStore) : Moves 1073741824 z (State.txpWrite z w) := by
  unfold State.txpWrite
  repeat'
    first
    | with_reducible apply Moves.refl
    | with_reducible assumption
    | intro _
    | ((with_reducible apply Goes.by (execTxProfileWrite_goes _ _ _)); case hs => exact rfl)
    | (with_reducible apply State.after_moves)
    | ((with_reducible apply Moves.storeReg txpRegs_in); case hm => exact rfl)
    | with_reducible apply ite_moves
    | (extract_lets +onlyGivenNames x; apply Moves.cut (m := 1073741824) (z := z) x; (case' h => unfold x); (case' k => (clear_value x; intro _)))
    | (extract_lets +onlyGivenNames x; clear_value x)
    | split
    | (rename_i hq; split at hq)
    | (rename_i hq; obtain ⟨_, rfl⟩ := Prod.mk.inj hq)

/-- May change: slot, registers of block 4. -/
theorem State.sleCommand_moves (z : State) (code : Nat) (who : Master) : Moves 2147483776 z (State.sleCommand z code who) := by
  unfold State.sleCommand
  repeat'
    first
    | with_reducible apply Moves.refl
    | with_reducible assumption
    | intro _
    | ((with_reducible apply Goes.by (execLoadProgram_goes _ _)); case hs => exact rfl)
    | ((with_reducible apply Goes.by (execProgramClear_goes _)); case hs => exact rfl)
    | ((with_reducible apply Goes.by (execProgramCancel_goes _)); case hs => exact rfl)
    | ((with_reducible apply Goes.by (execProgramStop_goes _)); case hs => exact rfl)
    | ((with_reducible apply Moves.by (State.cmdRej_moves _)); case hs => exact rfl)
    | ((with_reducible apply Goes.by (execArmSwap_goes _)); case hs => exact rfl)
    | (with_reducible apply State.after_moves)
    | with_reducible apply ite_moves
    | (extract_lets +onlyGivenNames x; apply Moves.cut (m := 2147483776) (z := z) x; (case' h => unfold x); (case' k => (clear_value x; intro _)))
    | (extract_lets +onlyGivenNames x; clear_value x)
    | split
    | (rename_i hq; split at hq)
    | (rename_i hq; obtain ⟨_, rfl⟩ := Prod.mk.inj hq)

/-- May change: faults, power, radio, slot, evr, core0, core1, registers of block 0 1 4 11 18. -/
theorem State.sleWrite_moves (z : State) (who : Master) (w : RegStore) : Moves 35461800235248 z (State.sleWrite z who w) := by
  unfold State.sleWrite
  repeat'
    first
    | with_reducible apply Moves.refl
    | with_reducible assumption
    | intro _
    | ((with_reducible apply Moves.by (State.sleCommand_moves _ _ _)); case hs => exact rfl)
    | ((with_reducible apply Goes.by (execTwintestInject_goes _ _)); case hs => exact rfl)
    | ((with_reducible apply Goes.by (execImageWrite_goes _ _ _)); case hs => exact rfl)
    | (with_reducible apply State.after_moves)
    | ((with_reducible apply Goes.by (execDropPop_goes _)); case hs => exact rfl)
    | ((with_reducible apply Moves.storeReg sleRegs_in); case hm => exact rfl)
    | ((with_reducible apply Moves.put); (case hf => (with_reducible first | apply SLE_ACKMISS_COUNT_block | apply SLE_SDONE_DONE_block | apply SLE_SLATE_LATE_block | apply SLE_SPEAK_PEAK_CHARGE_block | apply SLE_SPEAK_PEAK_UNITS_block | apply SLE_STWIN_TWIN_block)); case hm => exact rfl)
    | with_reducible apply ite_moves
    | (extract_lets +onlyGivenNames x; apply Moves.cut (m := 35461800235248) (z := z) x; (case' h => unfold x); (case' k => (clear_value x; intro _)))
    | (extract_lets +onlyGivenNames x; clear_value x)
    | split
    | (rename_i hq; split at hq)
    | (rename_i hq; obtain ⟨_, rfl⟩ := Prod.mk.inj hq)

/-- May change: mem, poison, power, radio, slot, mac, evr, core0, core1, registers of block 0 1 2 5 8 11. -/
theorem State.macWrite_moves (z : State) (w : RegStore) : Moves 314472239596 z (State.macWrite z w) := by
  unfold State.macWrite
  repeat'
    first
    | with_reducible apply Moves.refl
    | with_reducible assumption
    | intro _
    | ((with_reducible apply Goes.by (execFlushPending_goes _)); case hs => exact rfl)
    | ((with_reducible apply Goes.by (execTxPush_goes _ _)); case hs => exact rfl)
    | ((with_reducible apply Goes.by (execSyncScan_goes _)); case hs => exact rfl)
    | ((with_reducible apply Goes.by (execSyncStop_goes _)); case hs => exact rfl)
    | ((with_reducible apply Goes.by (execFbcfgWrite_goes _ _)); case hs => exact rfl)
    | ((with_reducible apply Moves.by (State.steerOff_moves _)); case hs => exact rfl)
    | ((with_reducible apply Moves.by (State.unfollow_moves _)); case hs => exact rfl)
    | ((with_reducible apply Goes.by (execContextRead_goes _ _)); case hs => exact rfl)
    | ((with_reducible apply Goes.by (execDqRelease_goes _ _)); case hs => exact rfl)
    | ((with_reducible apply Goes.by (execSyncPoll_goes _)); case hs => exact rfl)
    | ((with_reducible apply Goes.by (execQueueFlush_goes _ _)); case hs => exact rfl)
    | ((with_reducible apply Goes.by (execTxDonePop_goes _)); case hs => exact rfl)
    | ((with_reducible apply Goes.by (execContextWrite_goes _ _)); case hs => exact rfl)
    | (with_reducible apply State.after_moves)
    | ((with_reducible apply Goes.by (execContextDelete_goes _ _)); case hs => exact rfl)
    | ((with_reducible apply Moves.by (State.with_mac_moves _ _)); case hs => exact rfl)
    | rw [State.with_mac_eq]
    | ((with_reducible apply Moves.storeReg macRegs_in); case hm => exact rfl)
    | ((with_reducible apply Moves.put); (case hf => (with_reducible first | apply MAC_CTRL_DQ_THRESH_block | apply MAC_DQSTAT_FULL_block | apply MAC_EBCFG_EB_BLOCK_block | apply MAC_RXDISC_BAD_FRAME_block | apply MAC_RXDISC_NOT_MINE_block)); case hm => exact rfl)
    | with_reducible apply ite_moves
    | with_reducible apply foldl_moves
    | (extract_lets +onlyGivenNames x; apply Moves.cut (m := 314472239596) (z := z) x; (case' h => unfold x); (case' k => (clear_value x; intro _)))
    | (extract_lets +onlyGivenNames x; clear_value x)
    | split
    | (rename_i hq; split at hq)
    | (rename_i hq; obtain ⟨_, rfl⟩ := Prod.mk.inj hq)

/-- May change: mem, poison, power, sec, evr, core0, core1, registers of block 0 6 11. -/
theorem State.secPageWrite_moves (z : State) (p : Nat) (w : RegStore) : Moves 283602162220 z (State.secPageWrite z p w) := by
  unfold State.secPageWrite
  repeat'
    first
    | with_reducible apply Moves.refl
    | with_reducible assumption
    | intro _
    | ((with_reducible apply Goes.by (execPageAbort_goes _ _)); case hs => exact rfl)
    | ((with_reducible apply Goes.by (execCipherSubmit_goes _ _ _)); case hs => exact rfl)
    | ((with_reducible apply Goes.by (execKeyClear_goes _ _)); case hs => exact rfl)
    | ((with_reducible apply Goes.by (execKeyLoad_goes _ _)); case hs => exact rfl)
    | (with_reducible apply State.after_moves)
    | ((with_reducible apply Moves.storeReg secRegs_in); case hm => exact rfl)
    | ((with_reducible apply Moves.put); (case hf => (with_reducible first | apply SEC_P_KDATA0_KEY_block | apply SEC_P_KDATA1_KEY_block | apply SEC_P_KDATA2_KEY_block | apply SEC_P_KDATA3_KEY_block)); case hm => exact rfl)
    | with_reducible apply ite_moves
    | (extract_lets +onlyGivenNames x; apply Moves.cut (m := 283602162220) (z := z) x; (case' h => unfold x); (case' k => (clear_value x; intro _)))
    | (extract_lets +onlyGivenNames x; clear_value x)
    | split
    | (rename_i hq; split at hq)
    | (rename_i hq; obtain ⟨_, rfl⟩ := Prod.mk.inj hq)

/-- May change: mem, poison, power, sec, evr, core0, core1, registers of block 0 6 11. -/
theorem State.secWrite_moves (z : State) (core1 : Bool) (w : RegStore) : Moves 283602162220 z (State.secWrite z core1 w) := by
  unfold State.secWrite
  repeat'
    first
    | with_reducible apply Moves.refl
    | with_reducible assumption
    | intro _
    | ((with_reducible apply Goes.by (execKeyOwnerWrite_goes _ _)); case hs => exact rfl)
    | ((with_reducible apply Moves.by (State.secPageWrite_moves _ _ _)); case hs => exact rfl)
    | (with_reducible apply State.after_moves)
    | ((with_reducible apply Moves.storeReg secRegs_in); case hm => exact rfl)
    | ((with_reducible apply Moves.put); (case hf => (with_reducible first | apply SEC_COUNT0_SE_AUTHF_block | apply SEC_COUNT0_SE_KEYLIM_block | apply SEC_COUNT1_SE_FAULT_block | apply SEC_COUNT1_SE_PAGEV_block)); case hm => exact rfl)
    | with_reducible apply ite_moves
    | (extract_lets +onlyGivenNames x; apply Moves.cut (m := 283602162220) (z := z) x; (case' h => unfold x); (case' k => (clear_value x; intro _)))
    | (extract_lets +onlyGivenNames x; clear_value x)
    | split
    | (rename_i hq; split at hq)
    | (rename_i hq; obtain ⟨_, rfl⟩ := Prod.mk.inj hq)

/-- May change: pke, registers of block 7. -/
theorem State.pkeWrite_moves (z : State) (w : RegStore) : Moves 17181966336 z (State.pkeWrite z w) := by
  unfold State.pkeWrite
  repeat'
    first
    | with_reducible apply Moves.refl
    | with_reducible assumption
    | intro _
    | ((with_reducible apply Moves.by (State.pkeCommand_moves _ _ _ _ _)); case hs => exact rfl)
    | ((with_reducible apply Moves.storeReg pkeRegs_in); case hm => exact rfl)
    | with_reducible apply ite_moves
    | (extract_lets +onlyGivenNames x; apply Moves.cut (m := 17181966336) (z := z) x; (case' h => unfold x); (case' k => (clear_value x; intro _)))
    | (extract_lets +onlyGivenNames x; clear_value x)
    | split
    | (rename_i hq; split at hq)
    | (rename_i hq; obtain ⟨_, rfl⟩ := Prod.mk.inj hq)

end Sys2Proof.Machine
end

