-- ==== Sys2Proof/Laws/Flash.lean ====
section
/-! SUPPORT. What the operations of Machine/Flash.lean may change. -/
set_option linter.all false
namespace Sys2Proof.Machine

set_option linter.tactic.unusedName false

/-- May change: mem, faults, power, evr, flash, core0, core1, registers of block 0 11 12 13 18. -/
theorem execReadPage_goes (tag : Fin 65536) (faddr : Word) (buf : Word) (raw : Bool) (core1 : Bool) (rom : Bool) (z : State) : Goes 37108651774004 z (execReadPage tag faddr buf raw core1 rom z) := by
  unfold execReadPage
  repeat'
    first
    | with_reducible apply Moves.refl
    | with_reducible assumption
    | intro _
    | with_reducible apply goOn_goes
    | with_reducible apply ite_goes
    | ((with_reducible apply Moves.by (State.flashSubmit_moves _ _ _)); case hs => exact rfl)
    | (extract_lets +onlyGivenNames x; apply Moves.cut (m := 37108651774004) (z := z) x; (case' h => unfold x); (case' k => (clear_value x; intro _)))
    | (extract_lets +onlyGivenNames x; clear_value x)
    | split
    | (rename_i hq; split at hq)
    | (rename_i hq; obtain ⟨_, rfl⟩ := Prod.mk.inj hq)

/-- May change: mem, faults, power, evr, flash, core0, core1, registers of block 0 11 12 13 18. -/
theorem execProgramPage_goes (tag : Fin 65536) (faddr : Word) (buf : Word) (core1 : Bool) (rom : Bool) (z : State) : Goes 37108651774004 z (execProgramPage tag faddr buf core1 rom z) := by
  unfold execProgramPage
  repeat'
    first
    | with_reducible apply Moves.refl
    | with_reducible assumption
    | intro _
    | with_reducible apply goOn_goes
    | with_reducible apply ite_goes
    | ((with_reducible apply Moves.by (State.flashSubmit_moves _ _ _)); case hs => exact rfl)
    | (extract_lets +onlyGivenNames x; apply Moves.cut (m := 37108651774004) (z := z) x; (case' h => unfold x); (case' k => (clear_value x; intro _)))
    | (extract_lets +onlyGivenNames x; clear_value x)
    | split
    | (rename_i hq; split at hq)
    | (rename_i hq; obtain ⟨_, rfl⟩ := Prod.mk.inj hq)

/-- May change: mem, faults, power, evr, flash, core0, core1, registers of block 0 11 12 13 18. -/
theorem execEraseBlock_goes (tag : Fin 65536) (faddr : Word) (core1 : Bool) (rom : Bool) (z : State) : Goes 37108651774004 z (execEraseBlock tag faddr core1 rom z) := by
  unfold execEraseBlock
  repeat'
    first
    | with_reducible apply Moves.refl
    | with_reducible assumption
    | intro _
    | with_reducible apply goOn_goes
    | with_reducible apply ite_goes
    | ((with_reducible apply Moves.by (State.flashSubmit_moves _ _ _)); case hs => exact rfl)
    | (extract_lets +onlyGivenNames x; apply Moves.cut (m := 37108651774004) (z := z) x; (case' h => unfold x); (case' k => (clear_value x; intro _)))
    | (extract_lets +onlyGivenNames x; clear_value x)
    | split
    | (rename_i hq; split at hq)
    | (rename_i hq; obtain ⟨_, rfl⟩ := Prod.mk.inj hq)

/-- May change: mem, faults, power, evr, flash, core0, core1, registers of block 0 11 12 13 18. -/
theorem execReadCounter_goes (tag : Fin 65536) (faddr : Word) (core1 : Bool) (rom : Bool) (z : State) : Goes 37108651774004 z (execReadCounter tag faddr core1 rom z) := by
  unfold execReadCounter
  repeat'
    first
    | with_reducible apply Moves.refl
    | with_reducible assumption
    | intro _
    | with_reducible apply goOn_goes
    | with_reducible apply ite_goes
    | ((with_reducible apply Moves.by (State.flashSubmit_moves _ _ _)); case hs => exact rfl)
    | (extract_lets +onlyGivenNames x; apply Moves.cut (m := 37108651774004) (z := z) x; (case' h => unfold x); (case' k => (clear_value x; intro _)))
    | (extract_lets +onlyGivenNames x; clear_value x)
    | split
    | (rename_i hq; split at hq)
    | (rename_i hq; obtain ⟨_, rfl⟩ := Prod.mk.inj hq)

/-- May change: mem, faults, power, evr, flash, core0, core1, registers of block 0 11 12 13 18. -/
theorem execFlashSuspend_goes (tag : Fin 65536) (faddr : Word) (core1 : Bool) (rom : Bool) (z : State) : Goes 37108651774004 z (execFlashSuspend tag faddr core1 rom z) := by
  unfold execFlashSuspend
  repeat'
    first
    | with_reducible apply Moves.refl
    | with_reducible assumption
    | intro _
    | with_reducible apply goOn_goes
    | with_reducible apply ite_goes
    | ((with_reducible apply Moves.by (State.flashSubmit_moves _ _ _)); case hs => exact rfl)
    | (extract_lets +onlyGivenNames x; apply Moves.cut (m := 37108651774004) (z := z) x; (case' h => unfold x); (case' k => (clear_value x; intro _)))
    | (extract_lets +onlyGivenNames x; clear_value x)
    | split
    | (rename_i hq; split at hq)
    | (rename_i hq; obtain ⟨_, rfl⟩ := Prod.mk.inj hq)

/-- May change: mem, faults, power, evr, flash, core0, core1, registers of block 0 11 12 13 18. -/
theorem execResumeFlash_goes (tag : Fin 65536) (faddr : Word) (core1 : Bool) (rom : Bool) (z : State) : Goes 37108651774004 z (execResumeFlash tag faddr core1 rom z) := by
  unfold execResumeFlash
  repeat'
    first
    | with_reducible apply Moves.refl
    | with_reducible assumption
    | intro _
    | with_reducible apply goOn_goes
    | with_reducible apply ite_goes
    | ((with_reducible apply Moves.by (State.flashSubmit_moves _ _ _)); case hs => exact rfl)
    | (extract_lets +onlyGivenNames x; apply Moves.cut (m := 37108651774004) (z := z) x; (case' h => unfold x); (case' k => (clear_value x; intro _)))
    | (extract_lets +onlyGivenNames x; clear_value x)
    | split
    | (rename_i hq; split at hq)
    | (rename_i hq; obtain ⟨_, rfl⟩ := Prod.mk.inj hq)

/-- May change: mem, faults, power, evr, flash, core0, core1, registers of block 0 11 12 13 18. -/
theorem execFlushMerge_goes (tag : Fin 65536) (core1 : Bool) (rom : Bool) (z : State) : Goes 37108651774004 z (execFlushMerge tag core1 rom z) := by
  unfold execFlushMerge
  repeat'
    first
    | with_reducible apply Moves.refl
    | with_reducible assumption
    | intro _
    | with_reducible apply goOn_goes
    | with_reducible apply ite_goes
    | ((with_reducible apply Moves.by (State.flashSubmit_moves _ _ _)); case hs => exact rfl)
    | (extract_lets +onlyGivenNames x; apply Moves.cut (m := 37108651774004) (z := z) x; (case' h => unfold x); (case' k => (clear_value x; intro _)))
    | (extract_lets +onlyGivenNames x; clear_value x)
    | split
    | (rename_i hq; split at hq)
    | (rename_i hq; obtain ⟨_, rfl⟩ := Prod.mk.inj hq)

/-- May change: mem, flash, registers of block 13. -/
theorem State.pulseEnd_moves (z : State) (k : Nat) (complete : Bool) : Moves 1099511644164 z (State.pulseEnd z k complete) := by
  unfold State.pulseEnd
  repeat'
    first
    | with_reducible apply Moves.refl
    | with_reducible assumption
    | intro _
    | ((with_reducible apply Moves.by (State.jnlSnapshot_moves _ _ _)); case hs => exact rfl)
    | ((with_reducible apply Moves.by (State.startErase_moves _ _ _)); case hs => exact rfl)
    | ((with_reducible apply Moves.by (State.jnlErase_moves _ _ _)); case hs => exact rfl)
    | ((with_reducible apply Moves.by (State.setRun_moves _ _ _)); case hs => exact rfl)
    | ((with_reducible apply Moves.put); (case hf => (with_reducible first | apply ecnt_block | apply jnlHalf_block | apply FLC_BANK_STAT_PULSES_block | apply FLC_ECNT_COUNT_block)); case hm => exact rfl)
    | with_reducible apply ite_moves
    | (extract_lets +onlyGivenNames x; apply Moves.cut (m := 1099511644164) (z := z) x; (case' h => unfold x); (case' k => (clear_value x; intro _)))
    | (extract_lets +onlyGivenNames x; clear_value x)
    | split
    | (rename_i hq; split at hq)
    | (rename_i hq; obtain ⟨_, rfl⟩ := Prod.mk.inj hq)

/-- May change: mem, flash, registers of block 13. -/
theorem execFlashPulseEnd_goes (bankB : Bool) (complete : Bool) (z : State) : Goes 1099511644164 z (execFlashPulseEnd bankB complete z) := by
  unfold execFlashPulseEnd
  repeat'
    first
    | with_reducible apply Moves.refl
    | with_reducible assumption
    | intro _
    | with_reducible apply goOn_goes
    | with_reducible apply ite_goes
    | ((with_reducible apply Moves.by (State.pulseEnd_moves _ _ _)); case hs => exact rfl)
    | (extract_lets +onlyGivenNames x; apply Moves.cut (m := 1099511644164) (z := z) x; (case' h => unfold x); (case' k => (clear_value x; intro _)))
    | (extract_lets +onlyGivenNames x; clear_value x)
    | split
    | (rename_i hq; split at hq)
    | (rename_i hq; obtain ⟨_, rfl⟩ := Prod.mk.inj hq)

/-- May change: mem, poison, faults, power, evr, flash, core0, core1, free, registers of block 0 11 12 13 18. -/
theorem execFlashDone_goes (who : Fin 3) (z : State) : Goes 37108668551228 z (execFlashDone who z) := by
  unfold execFlashDone
  repeat'
    first
    | with_reducible apply Moves.refl
    | with_reducible assumption
    | intro _
    | with_reducible apply goOn_goes
    | with_reducible apply ite_goes
    | ((with_reducible apply Moves.by (State.kick_moves _)); case hs => exact rfl)
    | ((with_reducible apply Moves.by (State.flashRecord_moves _ _ _ _)); case hs => exact rfl)
    | ((with_reducible apply Moves.by (State.completeRun_moves _ _ _ _ _)); case hs => exact rfl)
    | ((with_reducible apply Moves.by (State.setFlash_moves _ _)); case hs => exact rfl)
    | with_reducible apply ite_moves
    | (extract_lets +onlyGivenNames x; apply Moves.cut (m := 37108668551228) (z := z) x; (case' h => unfold x); (case' k => (clear_value x; intro _)))
    | (extract_lets +onlyGivenNames x; clear_value x)
    | split
    | (rename_i hq; split at hq)
    | (rename_i hq; obtain ⟨_, rfl⟩ := Prod.mk.inj hq)

/-- May change: mem, faults, power, evr, flash, core0, core1, registers of block 0 11 12 13 18. -/
theorem execFlashDonePop_goes (z : State) : Goes 37108651774004 z (execFlashDonePop z) := by
  unfold execFlashDonePop
  repeat'
    first
    | with_reducible apply Moves.refl
    | with_reducible assumption
    | intro _
    | with_reducible apply goOn_goes
    | with_reducible apply ite_goes
    | ((with_reducible apply Moves.by (State.kick_moves _)); case hs => exact rfl)
    | ((with_reducible apply Moves.by (State.suspendDesc_moves _ _)); case hs => exact rfl)
    | ((with_reducible apply Moves.by (State.setFlash_moves _ _)); case hs => exact rfl)
    | ((with_reducible apply Moves.by (State.with_flash_moves _ _)); case hs => exact rfl)
    | rw [State.with_flash_eq]
    | (extract_lets +onlyGivenNames x; apply Moves.cut (m := 37108651774004) (z := z) x; (case' h => unfold x); (case' k => (clear_value x; intro _)))
    | (extract_lets +onlyGivenNames x; clear_value x)
    | split
    | (rename_i hq; split at hq)
    | (rename_i hq; obtain ⟨_, rfl⟩ := Prod.mk.inj hq)

/-- May change: faults, power, evr, flash, core0, core1, registers of block 0 11 12 13 18. -/
theorem execFlashPageMiss_goes (addr : Word) (z : State) : Goes 37108651774000 z (execFlashPageMiss addr z) := by
  unfold execFlashPageMiss
  repeat'
    first
    | with_reducible apply Moves.refl
    | with_reducible assumption
    | intro _
    | with_reducible apply goOn_goes
    | with_reducible apply ite_goes
    | ((with_reducible apply Moves.by (State.flashLoad_moves _ _ _)); case hs => exact rfl)
    | ((with_reducible apply State.flashLoad_data_pair); (case hp => assumption); case hs => exact rfl)
    | ((with_reducible apply State.flashLoad_poison_pair); (case hp => assumption); case hs => exact rfl)
    | ((with_reducible apply State.flashLoad_busError_pair); (case hp => assumption); case hs => exact rfl)
    | ((with_reducible apply State.flashLoad_stall_pair); (case hp => assumption); case hs => exact rfl)
    | with_reducible apply ite_moves
    | (extract_lets +onlyGivenNames x; apply Moves.cut (m := 37108651774000) (z := z) x; (case' h => unfold x); (case' k => (clear_value x; intro _)))
    | (extract_lets +onlyGivenNames x; clear_value x)
    | split
    | (rename_i hq; split at hq)
    | (rename_i hq; obtain ⟨_, rfl⟩ := Prod.mk.inj hq)

/-- May change: registers of block 13. -/
theorem execAutoResume_goes (bankB : Bool) (z : State) : Goes 1099511627776 z (execAutoResume bankB z) := by
  unfold execAutoResume
  repeat'
    first
    | with_reducible apply Moves.refl
    | with_reducible assumption
    | intro _
    | with_reducible apply goOn_goes
    | with_reducible apply ite_goes
    | ((with_reducible apply Moves.put); (case hf => (with_reducible apply FLC_BANK_STAT_STATE_block)); case hm => exact rfl)
    | with_reducible apply ite_moves
    | (extract_lets +onlyGivenNames x; apply Moves.cut (m := 1099511627776) (z := z) x; (case' h => unfold x); (case' k => (clear_value x; intro _)))
    | (extract_lets +onlyGivenNames x; clear_value x)
    | split
    | (rename_i hq; split at hq)
    | (rename_i hq; obtain ⟨_, rfl⟩ := Prod.mk.inj hq)

/-- May change: power, evr, core0, core1, registers of block 0 11 13. -/
theorem execEraseStarve_goes (bankB : Bool) (z : State) : Goes 1374523854880 z (execEraseStarve bankB z) := by
  unfold execEraseStarve
  repeat'
    first
    | with_reducible apply Moves.refl
    | with_reducible assumption
    | intro _
    | with_reducible apply goOn_goes
    | with_reducible apply ite_goes
    | ((with_reducible apply Moves.by (State.raise_moves _ _)); case hs => exact rfl)
    | ((with_reducible apply Moves.flag); (case hf => (with_reducible apply FLC_BANK_STAT_STARVED_block)); case hm => exact rfl)
    | with_reducible apply ite_moves
    | (extract_lets +onlyGivenNames x; apply Moves.cut (m := 1374523854880) (z := z) x; (case' h => unfold x); (case' k => (clear_value x; intro _)))
    | (extract_lets +onlyGivenNames x; clear_value x)
    | split
    | (rename_i hq; split at hq)
    | (rename_i hq; obtain ⟨_, rfl⟩ := Prod.mk.inj hq)

/-- May change: faults, power, evr, core0, core1, registers of block 0 11 13 18. -/
theorem execFlashOwnerWrite_goes (romOwn : Bool) (swap : Bool) (rom : Bool) (z : State) : Goes 36558895943728 z (execFlashOwnerWrite romOwn swap rom z) := by
  unfold execFlashOwnerWrite
  repeat'
    first
    | with_reducible apply Moves.refl
    | with_reducible assumption
    | intro _
    | with_reducible apply goOn_goes
    | with_reducible apply ite_goes
    | ((with_reducible apply Moves.by (State.busInfo_moves _ _)); case hs => exact rfl)
    | ((with_reducible apply Moves.by (State.raiseIf_moves _ _ _)); case hs => exact rfl)
    | ((with_reducible apply Moves.flag); (case hf => (with_reducible first | apply FLC_OWNER_ROM_OWN_block | apply FLC_OWNER_SWAP_block)); case hm => exact rfl)
    | with_reducible apply ite_moves
    | (extract_lets +onlyGivenNames x; apply Moves.cut (m := 36558895943728) (z := z) x; (case' h => unfold x); (case' k => (clear_value x; intro _)))
    | (extract_lets +onlyGivenNames x; clear_value x)
    | split
    | (rename_i hq; split at hq)
    | (rename_i hq; obtain ⟨_, rfl⟩ := Prod.mk.inj hq)

end Sys2Proof.Machine
end

