-- ==== Sys2Proof/Laws/RegWriteB.lean ====
section
/-! SUPPORT. What the operations of Machine/RegWriteB.lean may change. -/
set_option linter.all false
namespace Sys2Proof.Machine

set_option linter.tactic.unusedName false

theorem tmField_block (c i : Nat) : (tmField c i).inBlock 11 :=
  getD_block (by simp only [allIn, List.forall_mem_cons, EVR_TM0_MASK_block, EVR_TM1_MASK_block, EVR_TM2_MASK_block]; simp) (EVR_TM0_MASK_block c)

/-- May change: gnss, registers of block 8. -/
theorem State.gnsChanWrite_moves (z : State) (c : Nat) (w : RegStore) : Moves 34359739392 z (State.gnsChanWrite z c w) := by
  unfold State.gnsChanWrite
  repeat'
    first
    | with_reducible apply Moves.refl
    | with_reducible assumption
    | intro _
    | ((with_reducible apply Moves.by (State.stopChan_moves _ _)); case hs => exact rfl)
    | ((with_reducible apply Moves.by (State.startChan_moves _ _)); case hs => exact rfl)
    | ((with_reducible apply Moves.storeReg gnsRegs_in); case hm => exact rfl)
    | ((with_reducible apply Moves.put); (case hf => (with_reducible first | apply GNS_CCFG_EN_block | apply GNS_CCFG_PRN_block | apply GNS_CCFG_SYS_block)); case hm => exact rfl)
    | ((with_reducible apply Moves.flag); (case hf => (with_reducible first | apply GNS_CCFG_EN_block | apply GNS_CCFG_PRN_block | apply GNS_CCFG_SYS_block)); case hm => exact rfl)
    | with_reducible apply ite_moves
    | (extract_lets +onlyGivenNames x; apply Moves.cut (m := 34359739392) (z := z) x; (case' h => unfold x); (case' k => (clear_value x; intro _)))
    | (extract_lets +onlyGivenNames x; clear_value x)
    | split
    | (rename_i hq; split at hq)
    | (rename_i hq; obtain ⟨_, rfl⟩ := Prod.mk.inj hq)

/-- May change: registers of block 8. -/
theorem State.gnsSpacing_moves (z : State) (c : Nat) (w : RegStore) : Moves 34359738368 z (State.gnsSpacing z c w) := by
  unfold State.gnsSpacing
  repeat'
    first
    | with_reducible apply Moves.refl
    | with_reducible assumption
    | intro _
    | ((with_reducible apply Moves.storeReg gnsRegs_in); case hm => exact rfl)
    | ((with_reducible apply Moves.flag); (case hf => (with_reducible apply GNS_CSPC_SPC_REJ_block)); case hm => exact rfl)
    | with_reducible apply ite_moves
    | (extract_lets +onlyGivenNames x; apply Moves.cut (m := 34359738368) (z := z) x; (case' h => unfold x); (case' k => (clear_value x; intro _)))
    | (extract_lets +onlyGivenNames x; clear_value x)
    | split
    | (rename_i hq; split at hq)
    | (rename_i hq; obtain ⟨_, rfl⟩ := Prod.mk.inj hq)

/-- May change: gnss, registers of block 8. -/
theorem State.gnsChan_moves (z : State) (c : Nat) (w : RegStore) : Moves 34359739392 z (State.gnsChan z c w) := by
  unfold State.gnsChan
  repeat'
    first
    | with_reducible apply Moves.refl
    | with_reducible assumption
    | intro _
    | ((with_reducible apply Moves.by (State.gnsSpacing_moves _ _ _)); case hs => exact rfl)
    | ((with_reducible apply Moves.by (State.setChan_moves _ _ _)); case hs => exact rfl)
    | ((with_reducible apply Moves.by (State.gnsChanWrite_moves _ _ _)); case hs => exact rfl)
    | ((with_reducible apply Moves.storeReg gnsRegs_in); case hm => exact rfl)
    | ((with_reducible apply Moves.put); (case hf => (with_reducible apply GNS_CPH_PHASE_block)); case hm => exact rfl)
    | with_reducible apply ite_moves
    | (extract_lets +onlyGivenNames x; apply Moves.cut (m := 34359739392) (z := z) x; (case' h => unfold x); (case' k => (clear_value x; intro _)))
    | (extract_lets +onlyGivenNames x; clear_value x)
    | split
    | (rename_i hq; split at hq)
    | (rename_i hq; obtain ⟨_, rfl⟩ := Prod.mk.inj hq)

/-- May change: tnet, power, slot, gnss, evr, core0, core1, registers of block 0 8 9 11. -/
theorem State.gnsWrite_moves (z : State) (w : RegStore) : Moves 378091443361 z (State.gnsWrite z w) := by
  unfold State.gnsWrite
  repeat'
    first
    | with_reducible apply Moves.refl
    | with_reducible assumption
    | intro _
    | ((with_reducible apply Goes.by (execGtphaseTrim_goes _ _)); case hs => exact rfl)
    | ((with_reducible apply Goes.by (execSteerForce_goes _)); case hs => exact rfl)
    | ((with_reducible apply Goes.by (execTimeValidWrite_goes _ _)); case hs => exact rfl)
    | ((with_reducible apply Moves.by (State.steerOff_moves _)); case hs => exact rfl)
    | ((with_reducible apply Goes.by (execGtimeSet_goes _)); case hs => exact rfl)
    | ((with_reducible apply Moves.by (State.acqAbort_moves _)); case hs => exact rfl)
    | ((with_reducible apply Moves.by (State.gnsChan_moves _ _ _)); case hs => exact rfl)
    | ((with_reducible apply Goes.by (execAcqPush_goes _)); case hs => exact rfl)
    | ((with_reducible apply Goes.by (execAcqPop_goes _)); case hs => exact rfl)
    | ((with_reducible apply Goes.by (execSteerResetI_goes _)); case hs => exact rfl)
    | ((with_reducible apply Moves.by (State.stopChan_moves _ _)); case hs => exact rfl)
    | (with_reducible apply State.after_moves)
    | ((with_reducible apply Moves.storeReg gnsRegs_in); case hm => exact rfl)
    | ((with_reducible apply Moves.put); (case hf => (with_reducible first | apply GNS_JAM_JAM_HYST_block | apply GNS_STEERCFG_KI_SH_block)); case hm => exact rfl)
    | with_reducible apply ite_moves
    | with_reducible apply foldl_moves
    | (extract_lets +onlyGivenNames x; apply Moves.cut (m := 378091443361) (z := z) x; (case' h => unfold x); (case' k => (clear_value x; intro _)))
    | (extract_lets +onlyGivenNames x; clear_value x)
    | split
    | (rename_i hq; split at hq)
    | (rename_i hq; obtain ⟨_, rfl⟩ := Prod.mk.inj hq)

/-- May change: power, rtc, evr, core0, core1, registers of block 0 9 11. -/
theorem State.rtcWrite_moves (z : State) (w : RegStore) : Moves 343731705888 z (State.rtcWrite z w) := by
  unfold State.rtcWrite
  repeat'
    first
    | with_reducible apply Moves.refl
    | with_reducible assumption
    | intro _
    | ((with_reducible apply Goes.by (execMeasAbort_goes _)); case hs => exact rfl)
    | ((with_reducible apply Moves.by (State.almArm_moves _ _)); case hs => exact rfl)
    | ((with_reducible apply Goes.by (execRtcSet_goes _)); case hs => exact rfl)
    | ((with_reducible apply Goes.by (execRtcTrimWrite_goes _ _)); case hs => exact rfl)
    | ((with_reducible apply Goes.by (execRtcSetAt_goes _)); case hs => exact rfl)
    | ((with_reducible apply Goes.by (execRtcMeasure_goes _)); case hs => exact rfl)
    | (with_reducible apply State.after_moves)
    | ((with_reducible apply Goes.by (execRtcSetCancel_goes _)); case hs => exact rfl)
    | ((with_reducible apply Moves.storeReg rtcRegs_in); case hm => exact rfl)
    | ((with_reducible apply Moves.flag); (case hf => (with_reducible apply almEn_block)); case hm => exact rfl)
    | with_reducible apply ite_moves
    | with_reducible apply foldl_moves
    | (extract_lets +onlyGivenNames x; apply Moves.cut (m := 343731705888) (z := z) x; (case' h => unfold x); (case' k => (clear_value x; intro _)))
    | (extract_lets +onlyGivenNames x; clear_value x)
    | split
    | (rename_i hq; split at hq)
    | (rename_i hq; obtain ⟨_, rfl⟩ := Prod.mk.inj hq)

/-- May change: evr, registers of block 10. -/
theorem State.tmrWrite_moves (z : State) (core1 : Bool) (w : RegStore) : Moves 137438957568 z (State.tmrWrite z core1 w) := by
  unfold State.tmrWrite
  repeat'
    first
    | with_reducible apply Moves.refl
    | with_reducible assumption
    | intro _
    | ((with_reducible apply Moves.by (State.timerStart_moves _ _)); case hs => exact rfl)
    | ((with_reducible apply Goes.by (execTimerStart_goes _ _ _)); case hs => exact rfl)
    | ((with_reducible apply Goes.by (execTimerStop_goes _ _ _)); case hs => exact rfl)
    | ((with_reducible apply Moves.by (State.cmpArm_moves _ _)); case hs => exact rfl)
    | (with_reducible apply State.after_moves)
    | ((with_reducible apply Moves.storeReg tmrRegs_in); case hm => exact rfl)
    | ((with_reducible apply Moves.put); (case hf => (with_reducible first | apply TMR_CTRL_CLKSEL_block | apply TMR_CTRL_PRE_block)); case hm => exact rfl)
    | with_reducible apply ite_moves
    | (extract_lets +onlyGivenNames x; apply Moves.cut (m := 137438957568) (z := z) x; (case' h => unfold x); (case' k => (clear_value x; intro _)))
    | (extract_lets +onlyGivenNames x; clear_value x)
    | split
    | (rename_i hq; split at hq)
    | (rename_i hq; obtain ⟨_, rfl⟩ := Prod.mk.inj hq)

/-- May change: evr, registers of block 11. -/
theorem State.evrConfig_moves (z : State) (c : Nat) (core1 : Bool) (w : RegStore) : Moves 274877911040 z (State.evrConfig z c core1 w) := by
  unfold State.evrConfig
  repeat'
    first
    | with_reducible apply Moves.refl
    | with_reducible assumption
    | intro _
    | ((with_reducible apply Moves.by (State.setEvr_moves _ _)); case hs => exact rfl)
    | ((with_reducible apply Moves.storeReg evrRegs_in); case hm => exact rfl)
    | ((with_reducible apply Moves.put); (case hf => (with_reducible apply EVR_TM1_MASK_block)); case hm => exact rfl)
    | with_reducible apply ite_moves
    | (extract_lets +onlyGivenNames x; apply Moves.cut (m := 274877911040) (z := z) x; (case' h => unfold x); (case' k => (clear_value x; intro _)))
    | (extract_lets +onlyGivenNames x; clear_value x)
    | split
    | (rename_i hq; split at hq)
    | (rename_i hq; obtain ⟨_, rfl⟩ := Prod.mk.inj hq)

/-- May change: evr, registers of block 11. -/
theorem State.evrChan_moves (z : State) (c : Nat) (core1 : Bool) (w : RegStore) : Moves 274877911040 z (State.evrChan z c core1 w) := by
  unfold State.evrChan
  repeat'
    first
    | with_reducible apply Moves.refl
    | with_reducible assumption
    | intro _
    | ((with_reducible apply Moves.by (State.evrConfig_moves _ _ _ _)); case hs => exact rfl)
    | ((with_reducible apply Moves.by (State.setStuck_moves _ _ _)); case hs => exact rfl)
    | ((with_reducible apply Moves.storeReg evrRegs_in); case hm => exact rfl)
    | ((with_reducible apply Moves.put); (case hf => (with_reducible first | apply tmField_block | apply evrPm_block | apply EVR_PM0_MASK_block | apply EVR_PM1_MASK_block | apply EVR_PM2_MASK_block | apply EVR_PM3_MASK_block | apply EVR_STATUS_ACC_REJ_block | apply EVR_STAT_DROPPED_block | apply EVR_TM0_MASK_block | apply EVR_TM1_MASK_block | apply EVR_TM2_MASK_block)); case hm => exact rfl)
    | ((with_reducible apply Moves.flag); (case hf => (with_reducible first | apply tmField_block | apply evrPm_block | apply EVR_PM0_MASK_block | apply EVR_PM1_MASK_block | apply EVR_PM2_MASK_block | apply EVR_PM3_MASK_block | apply EVR_STATUS_ACC_REJ_block | apply EVR_STAT_DROPPED_block | apply EVR_TM0_MASK_block | apply EVR_TM1_MASK_block | apply EVR_TM2_MASK_block)); case hm => exact rfl)
    | with_reducible apply ite_moves
    | (extract_lets +onlyGivenNames x; apply Moves.cut (m := 274877911040) (z := z) x; (case' h => unfold x); (case' k => (clear_value x; intro _)))
    | (extract_lets +onlyGivenNames x; clear_value x)
    | split
    | (rename_i hq; split at hq)
    | (rename_i hq; obtain ⟨_, rfl⟩ := Prod.mk.inj hq)

/-- May change: power, evr, core0, core1, registers of block 0 11. -/
theorem State.evrWrite_moves (z : State) (core1 : Bool) (w : RegStore) : Moves 275012227104 z (State.evrWrite z core1 w) := by
  unfold State.evrWrite
  repeat'
    first
    | with_reducible apply Moves.refl
    | with_reducible assumption
    | intro _
    | ((with_reducible apply Goes.by (execEvrFire_goes _ _ _)); case hs => exact rfl)
    | ((with_reducible apply Goes.by (execSoftwareEvent_goes _ _)); case hs => exact rfl)
    | ((with_reducible apply Moves.by (State.evrChan_moves _ _ _ _)); case hs => exact rfl)
    | (with_reducible apply State.after_moves)
    | ((with_reducible apply Moves.storeReg evrRegs_in); case hm => exact rfl)
    | with_reducible apply ite_moves
    | (extract_lets +onlyGivenNames x; apply Moves.cut (m := 275012227104) (z := z) x; (case' h => unfold x); (case' k => (clear_value x; intro _)))
    | (extract_lets +onlyGivenNames x; clear_value x)
    | split
    | (rename_i hq; split at hq)
    | (rename_i hq; obtain ⟨_, rfl⟩ := Prod.mk.inj hq)

/-- May change: mem, faults, power, evr, flash, core0, core1, registers of block 0 11 12 13 18. -/
theorem State.memWrite_moves (z : State) (w : RegStore) : Moves 37108651774004 z (State.memWrite z w) := by
  unfold State.memWrite
  repeat'
    first
    | with_reducible apply Moves.refl
    | with_reducible assumption
    | intro _
    | ((with_reducible apply Goes.by (execFlipArm_goes _)); case hs => exact rfl)
    | ((with_reducible apply Goes.by (execMergeFlush_goes _)); case hs => exact rfl)
    | (with_reducible apply State.after_moves)
    | ((with_reducible apply Moves.storeReg memRegs_in); case hm => exact rfl)
    | ((with_reducible apply Moves.put); (case hf => (with_reducible first | apply MEM_ECCCNT_ECC_CORR_block | apply MEM_ECCCNT_ECC_UNCORR_block | apply MEM_FLIPCFG_ARM_block | apply MEM_STATUS_POISON_CNT_block | apply MEM_STATUS_SCRUB_FOUND_block)); case hm => exact rfl)
    | with_reducible apply ite_moves
    | (extract_lets +onlyGivenNames x; apply Moves.cut (m := 37108651774004) (z := z) x; (case' h => unfold x); (case' k => (clear_value x; intro _)))
    | (extract_lets +onlyGivenNames x; clear_value x)
    | split
    | (rename_i hq; split at hq)
    | (rename_i hq; obtain ⟨_, rfl⟩ := Prod.mk.inj hq)

/-- May change: mem, faults, power, evr, flash, core0, core1, registers of block 0 11 12 13 18. -/
theorem State.flcWrite_moves (z : State) (core1 : Bool) (rom : Bool) (w : RegStore) : Moves 37108651774004 z (State.flcWrite z core1 rom w).1 := by
  unfold State.flcWrite
  repeat'
    first
    | with_reducible apply Moves.refl
    | with_reducible assumption
    | intro _
    | ((with_reducible apply Moves.by (State.busInfo_moves _ _)); case hs => exact rfl)
    | ((with_reducible apply Moves.by (State.flashPush_moves _ _)); case hs => exact rfl)
    | ((with_reducible apply Goes.by (execFlashDonePop_goes _)); case hs => exact rfl)
    | ((with_reducible apply Goes.by (execFlashOwnerWrite_goes _ _ _ _)); case hs => exact rfl)
    | (with_reducible apply State.after_moves)
    | ((with_reducible apply Moves.storeReg flcRegs_in); case hm => exact rfl)
    | with_reducible apply ite_moves
    | (extract_lets +onlyGivenNames x; apply Moves.cut (m := 37108651774004) (z := z) x; (case' h => unfold x); (case' k => (clear_value x; intro _)))
    | (extract_lets +onlyGivenNames x; clear_value x)
    | split
    | (rename_i hq; split at hq)
    | (rename_i hq; obtain ⟨_, rfl⟩ := Prod.mk.inj hq)

theorem State.flcWrite_pair {z : State} {core1 : Bool} {rom : Bool} {w : RegStore} {b1 : Bool} {u0 : State} {m0 : Nat} {r0 : State} (hp : State.flcWrite z core1 rom w = (u0, b1)) (hs : sub 37108651774004 m0 = true) (h : Moves m0 r0 z) : Moves m0 r0 u0 := by
  have g := State.flcWrite_moves z core1 rom w
  rw [hp] at g
  exact h.step g hs

/-- May change: registers of block 14. -/
theorem State.hdpWrite_moves (z : State) (w : RegStore) : Moves 2199023255552 z (State.hdpWrite z w) := by
  unfold State.hdpWrite
  repeat'
    first
    | with_reducible apply Moves.refl
    | with_reducible assumption
    | intro _
    | ((with_reducible apply Moves.storeReg hdpRegs_in); case hm => exact rfl)
    | ((with_reducible apply Moves.put); (case hf => (with_reducible first | apply HDP_CNT0_ACCEPTED_block | apply HDP_CNT0_CRC_ERR_block | apply HDP_CNT1_BUSY_block | apply HDP_CNT1_DISCARD_block)); case hm => exact rfl)
    | with_reducible apply ite_moves
    | (extract_lets +onlyGivenNames x; apply Moves.cut (m := 2199023255552) (z := z) x; (case' h => unfold x); (case' k => (clear_value x; intro _)))
    | (extract_lets +onlyGivenNames x; clear_value x)
    | split
    | (rename_i hq; split at hq)
    | (rename_i hq; obtain ⟨_, rfl⟩ := Prod.mk.inj hq)

/-- May change: tag, registers of block 16. -/
theorem State.tagRegWrite_moves (z : State) (w : RegStore) : Moves 8796093284352 z (State.tagRegWrite z w) := by
  unfold State.tagRegWrite
  repeat'
    first
    | with_reducible apply Moves.refl
    | with_reducible assumption
    | intro _
    | ((with_reducible apply Moves.by (State.setTagPort_moves _ _)); case hs => exact rfl)
    | ((with_reducible apply Goes.by (execClearAttempts_goes _ _ _)); case hs => exact rfl)
    | ((with_reducible apply Goes.by (execTagBlockWrite_goes _ _ _)); case hs => exact rfl)
    | (with_reducible apply State.after_moves)
    | ((with_reducible apply Moves.storeReg tagRegs_in); case hm => exact rfl)
    | with_reducible apply ite_moves
    | (extract_lets +onlyGivenNames x; apply Moves.cut (m := 8796093284352) (z := z) x; (case' h => unfold x); (case' k => (clear_value x; intro _)))
    | (extract_lets +onlyGivenNames x; clear_value x)
    | split
    | (rename_i hq; split at hq)
    | (rename_i hq; obtain ⟨_, rfl⟩ := Prod.mk.inj hq)

/-- May change: registers of block 17. -/
theorem State.swapRequest_moves (z : State) : Moves 17592186044416 z (State.swapRequest z) := by
  unfold State.swapRequest
  repeat'
    first
    | with_reducible apply Moves.refl
    | with_reducible assumption
    | intro _
    | ((with_reducible apply Moves.flag); (case hf => (with_reducible apply BTU_SWAP_REQ_block)); case hm => exact rfl)
    | with_reducible apply ite_moves
    | (extract_lets +onlyGivenNames x; apply Moves.cut (m := 17592186044416) (z := z) x; (case' h => unfold x); (case' k => (clear_value x; intro _)))
    | (extract_lets +onlyGivenNames x; clear_value x)
    | split
    | (rename_i hq; split at hq)
    | (rename_i hq; obtain ⟨_, rfl⟩ := Prod.mk.inj hq)

/-- May change: registers of block 17. -/
theorem State.btuWrite_moves (z : State) (w : RegStore) : Moves 17592186044416 z (State.btuWrite z w) := by
  unfold State.btuWrite
  repeat'
    first
    | with_reducible apply Moves.refl
    | with_reducible assumption
    | intro _
    | ((with_reducible apply Moves.by (State.swapRequest_moves _)); case hs => exact rfl)
    | ((with_reducible apply Moves.storeReg btuRegs_in); case hm => exact rfl)
    | with_reducible apply ite_moves
    | (extract_lets +onlyGivenNames x; apply Moves.cut (m := 17592186044416) (z := z) x; (case' h => unfold x); (case' k => (clear_value x; intro _)))
    | (extract_lets +onlyGivenNames x; clear_value x)
    | split
    | (rename_i hq; split at hq)
    | (rename_i hq; obtain ⟨_, rfl⟩ := Prod.mk.inj hq)

/-- May change: faults, power, evr, core0, core1, registers of block 0 11 18. -/
theorem State.errWrite_moves (z : State) (w : RegStore) : Moves 35459384315952 z (State.errWrite z w) := by
  unfold State.errWrite
  repeat'
    first
    | with_reducible apply Moves.refl
    | with_reducible assumption
    | intro _
    | ((with_reducible apply Goes.by (execFaultInject_goes _ _)); case hs => exact rfl)
    | ((with_reducible apply Goes.by (execFaultClose_goes _ _ _ _)); case hs => exact rfl)
    | (with_reducible apply State.after_moves)
    | ((with_reducible apply Goes.by (execFaultPop_goes _)); case hs => exact rfl)
    | ((with_reducible apply Moves.storeReg errRegs_in); case hm => exact rfl)
    | ((with_reducible apply Moves.put); (case hf => (with_reducible apply ERR_STATUS_LOST_block)); case hm => exact rfl)
    | with_reducible apply ite_moves
    | (extract_lets +onlyGivenNames x; apply Moves.cut (m := 35459384315952) (z := z) x; (case' h => unfold x); (case' k => (clear_value x; intro _)))
    | (extract_lets +onlyGivenNames x; clear_value x)
    | split
    | (rename_i hq; split at hq)
    | (rename_i hq; obtain ⟨_, rfl⟩ := Prod.mk.inj hq)

/-- May change: registers of block 19. -/
theorem State.pinWrite_moves (z : State) (w : RegStore) : Moves 70368744177664 z (State.pinWrite z w) := by
  unfold State.pinWrite
  repeat'
    first
    | with_reducible apply Moves.refl
    | with_reducible assumption
    | intro _
    | ((with_reducible apply Moves.storeReg pinRegs_in); case hm => exact rfl)
    | with_reducible apply ite_moves
    | (extract_lets +onlyGivenNames x; apply Moves.cut (m := 70368744177664) (z := z) x; (case' h => unfold x); (case' k => (clear_value x; intro _)))
    | (extract_lets +onlyGivenNames x; clear_value x)
    | split
    | (rename_i hq; split at hq)
    | (rename_i hq; obtain ⟨_, rfl⟩ := Prod.mk.inj hq)

end Sys2Proof.Machine
end

