-- ==== Sys2Proof/Laws/RegView.lean ====
section
/-! SUPPORT. What the operations of Machine/RegView.lean may change. -/
set_option linter.all false
namespace Sys2Proof.Machine

set_option linter.tactic.unusedName false

/-- May change: registers of block 4 11. -/
theorem State.readLatch_moves (z : State) (a : Nat) : Moves 277025390592 z (State.readLatch z a) := by
  unfold State.readLatch
  repeat'
    first
    | with_reducible apply Moves.refl
    | with_reducible assumption
    | intro _
    | ((with_reducible apply Goes.by (execAsnLRead_goes _)); case hs => exact rfl)
    | (with_reducible apply State.after_moves)
    | ((with_reducible apply Moves.put); (case hf => (with_reducible apply EVR_TSH_TS_H_block)); case hm => exact rfl)
    | with_reducible apply ite_moves
    | (extract_lets +onlyGivenNames x; apply Moves.cut (m := 277025390592) (z := z) x; (case' h => unfold x); (case' k => (clear_value x; intro _)))
    | (extract_lets +onlyGivenNames x; clear_value x)
    | split
    | (rename_i hq; split at hq)
    | (rename_i hq; obtain ⟨_, rfl⟩ := Prod.mk.inj hq)

/-- May change: rtc, host, registers of block 9. -/
theorem State.timeReadBy_moves (z : State) (core1 : Bool) (i : Nat) : Moves 68720003072 z (State.timeReadBy z core1 i).2 := by
  unfold State.timeReadBy
  repeat'
    first
    | with_reducible apply Moves.refl
    | with_reducible assumption
    | intro _
    | ((with_reducible apply Moves.by (State.timeRead_moves _ _ _)); case hs => exact rfl)
    | ((with_reducible apply Moves.by (State.with_host_moves _ _)); case hs => exact rfl)
    | rw [State.with_host_eq]
    | with_reducible apply ite_moves
    | with_reducible apply ite_snd_moves
    | (extract_lets +onlyGivenNames x; apply Moves.cut (m := 68720003072) (z := z) x; (case' h => unfold x); (case' k => (clear_value x; intro _)))
    | (extract_lets +onlyGivenNames x; clear_value x)
    | split
    | (rename_i hq; split at hq)
    | (rename_i hq; obtain ⟨_, rfl⟩ := Prod.mk.inj hq)

theorem State.timeReadBy_pair {z : State} {core1 : Bool} {i : Nat} {b1 : Nat} {u0 : State} {m0 : Nat} {r0 : State} (hp : State.timeReadBy z core1 i = (b1, u0)) (hs : sub 68720003072 m0 = true) (h : Moves m0 r0 z) : Moves m0 r0 u0 := by
  have g := State.timeReadBy_moves z core1 i
  rw [hp] at g
  exact h.step g hs

/-- May change: faults, power, mac, rtc, evr, core0, core1, host, free, registers of block 0 4 7 9 11 18. -/
theorem State.regRead_moves (z : State) (core1 rom : Bool) (a : Nat) : Moves 35547448449328 z (State.regRead z core1 rom a).2.1 := by
  unfold State.regRead
  extract_lets n off
  clear_value n off
  have two {c : Prop} [Decidable c] {x y : Nat × State × Bool} (hx : Moves 35547448449328 z x.2.1) (hy : Moves 35547448449328 z y.2.1) :
      Moves 35547448449328 z (if c then x else y).2.1 := by split <;> assumption
  refine two ((State.busInfo_moves _ _).mono rfl) (two Moves.refl (two ?_ (two ?_ ?_)))
  · exact (State.timeReadBy_moves _ _ _).mono rfl
  · exact (State.rngRead_moves _).mono rfl
  · exact (State.readLatch_moves _ _).mono rfl

theorem State.regRead_pair {z : State} {core1 rom : Bool} {a : Nat} {b1 : Nat} {b2 : Bool} {u0 : State} {m0 : Nat} {r0 : State} (hp : State.regRead z core1 rom a = (b1, u0, b2)) (hs : sub 35547448449328 m0 = true) (h : Moves m0 r0 z) : Moves m0 r0 u0 := by
  have g := State.regRead_moves z core1 rom a
  rw [hp] at g
  exact h.step g hs

/-- May change: tnet, mem, poison, faults, power, radio, slot, mac, sec, gnss, rtc, evr, flash, core0, core1, lgy, tag, host, pke, pins, free, registers of block all. -/
theorem State.regWrite_moves (z : State) (core1 : Bool) (rom : Bool) (w : RegStore) : Moves 140737378246653 z (State.regWrite z core1 rom w).1 := by
  unfold State.regWrite
  repeat'
    first
    | with_reducible apply Moves.refl
    | with_reducible assumption
    | intro _
    | ((with_reducible apply Moves.by (State.pinWrite_moves _ _)); case hs => exact rfl)
    | ((with_reducible apply Moves.by (State.btuWrite_moves _ _)); case hs => exact rfl)
    | ((with_reducible apply Moves.by (State.pkeWrite_moves _ _)); case hs => exact rfl)
    | ((with_reducible apply Moves.by (State.busInfo_moves _ _)); case hs => exact rfl)
    | ((with_reducible apply Moves.by (State.errWrite_moves _ _)); case hs => exact rfl)
    | ((with_reducible apply Moves.by (State.txpWrite_moves _ _)); case hs => exact rfl)
    | ((with_reducible apply Moves.by (State.sleWrite_moves _ _ _)); case hs => exact rfl)
    | ((with_reducible apply Moves.by (State.rfcWrite_moves _ _)); case hs => exact rfl)
    | ((with_reducible apply Moves.by (State.gnsWrite_moves _ _)); case hs => exact rfl)
    | ((with_reducible apply Moves.by (State.secWrite_moves _ _ _)); case hs => exact rfl)
    | ((with_reducible apply Moves.by (State.hdpWrite_moves _ _)); case hs => exact rfl)
    | ((with_reducible apply Moves.by (State.flcWrite_moves _ _ _ _)); case hs => exact rfl)
    | ((with_reducible apply State.flcWrite_pair); (case hp => assumption); case hs => exact rfl)
    | ((with_reducible apply Moves.by (State.tmrWrite_moves _ _ _)); case hs => exact rfl)
    | ((with_reducible apply Moves.by (State.evrWrite_moves _ _ _)); case hs => exact rfl)
    | ((with_reducible apply Moves.by (State.prcWrite_moves _ _)); case hs => exact rfl)
    | ((with_reducible apply Moves.by (State.memWrite_moves _ _)); case hs => exact rfl)
    | ((with_reducible apply Moves.by (State.chzWrite_moves _ _)); case hs => exact rfl)
    | ((with_reducible apply Moves.by (State.rtcWrite_moves _ _)); case hs => exact rfl)
    | ((with_reducible apply Moves.by (State.tagRegWrite_moves _ _)); case hs => exact rfl)
    | ((with_reducible apply Moves.by (State.macWrite_moves _ _)); case hs => exact rfl)
    | with_reducible apply ite_moves
    | (extract_lets +onlyGivenNames x; apply Moves.cut (m := 140737378246653) (z := z) x; (case' h => unfold x); (case' k => (clear_value x; intro _)))
    | (extract_lets +onlyGivenNames x; clear_value x)
    | split
    | (rename_i hq; split at hq)
    | (rename_i hq; obtain ⟨_, rfl⟩ := Prod.mk.inj hq)

theorem State.regWrite_pair {z : State} {core1 : Bool} {rom : Bool} {w : RegStore} {b1 : Bool} {u0 : State} {m0 : Nat} {r0 : State} (hp : State.regWrite z core1 rom w = (u0, b1)) (hs : sub 140737378246653 m0 = true) (h : Moves m0 r0 z) : Moves m0 r0 u0 := by
  have g := State.regWrite_moves z core1 rom w
  rw [hp] at g
  exact h.step g hs

/-- May change: tnet, mem, poison, faults, power, radio, slot, mac, sec, gnss, rtc, evr, flash, core0, core1, lgy, tag, host, pke, pins, free, registers of block all. -/
theorem execRegisterWrite_goes (addr : Fin 1310720) (value : Word) (core1 : Bool) (rom : Bool) (z : State) : Goes 140737378246653 z (execRegisterWrite addr value core1 rom z) := by
  unfold execRegisterWrite
  repeat'
    first
    | with_reducible apply Moves.refl
    | with_reducible assumption
    | intro _
    | with_reducible apply goOn_goes
    | with_reducible apply ite_goes
    | ((with_reducible apply Moves.by (State.regWrite_moves _ _ _ _)); case hs => exact rfl)
    | ((with_reducible apply State.regWrite_pair); (case hp => assumption); case hs => exact rfl)
    | (extract_lets +onlyGivenNames x; apply Moves.cut (m := 140737378246653) (z := z) x; (case' h => unfold x); (case' k => (clear_value x; intro _)))
    | (extract_lets +onlyGivenNames x; clear_value x)
    | split
    | (rename_i hq; split at hq)
    | (rename_i hq; obtain ⟨_, rfl⟩ := Prod.mk.inj hq)

end Sys2Proof.Machine
end

