-- ==== Sys2Proof/Laws/BootOps.lean ====
section
/-! SUPPORT. What the operations of Machine/BootOps.lean may change. -/
set_option linter.all false
namespace Sys2Proof.Machine

set_option linter.tactic.unusedName false

/-- May change: registers of block 17. -/
theorem State.loadCounters_moves (z : State) : Moves 17592186044416 z (State.loadCounters z) := by
  unfold State.loadCounters
  repeat'
    first
    | with_reducible apply Moves.refl
    | with_reducible assumption
    | intro _
    | ((with_reducible apply Moves.put); (case hf => (with_reducible first | apply BTU_CNT0_C1_block | apply BTU_CNT0_C2_block | apply BTU_CNT0_C3_block | apply BTU_CNT0_C4_block | apply BTU_CNT1_CNT_block)); case hm => exact rfl)
    | with_reducible apply ite_moves
    | (extract_lets +onlyGivenNames x; apply Moves.cut (m := 17592186044416) (z := z) x; (case' h => unfold x); (case' k => (clear_value x; intro _)))
    | (extract_lets +onlyGivenNames x; clear_value x)
    | split
    | (rename_i hq; split at hq)
    | (rename_i hq; obtain ⟨_, rfl⟩ := Prod.mk.inj hq)

/-- May change: mem, power, evr, flash, core0, core1, registers of block 0 11 13. -/
theorem State.agentErase_moves (z : State) (k : Nat) (b : Nat) : Moves 1374523871268 z (State.agentErase z k b) := by
  unfold State.agentErase
  repeat'
    first
    | with_reducible apply Moves.refl
    | with_reducible assumption
    | intro _
    | ((with_reducible apply Moves.by (State.jnlSnapshot_moves _ _ _)); case hs => exact rfl)
    | ((with_reducible apply Moves.by (State.dropBufs_moves _ _ _)); case hs => exact rfl)
    | ((with_reducible apply Moves.by (State.zeroBytes_moves _ _ _)); case hs => exact rfl)
    | ((with_reducible apply Moves.by (State.raise_moves _ _)); case hs => exact rfl)
    | ((with_reducible apply Moves.by (State.jnlErase_moves _ _ _)); case hs => exact rfl)
    | ((with_reducible apply Moves.by (State.setSuspect_moves _ _ _ _)); case hs => exact rfl)
    | ((with_reducible apply Moves.by (State.setFlash_moves _ _)); case hs => exact rfl)
    | ((with_reducible apply Moves.by (State.jnlAppend_moves _ _ _ _ _)); case hs => exact rfl)
    | ((with_reducible apply Moves.put); (case hf => (with_reducible first | apply ecnt_block | apply jnlHalf_block | apply jnlFree_block | apply FLC_ECNT_COUNT_block)); case hm => exact rfl)
    | with_reducible apply ite_moves
    | (extract_lets +onlyGivenNames x; apply Moves.cut (m := 1374523871268) (z := z) x; (case' h => unfold x); (case' k => (clear_value x; intro _)))
    | (extract_lets +onlyGivenNames x; clear_value x)
    | split
    | (rename_i hq; split at hq)
    | (rename_i hq; obtain ⟨_, rfl⟩ := Prod.mk.inj hq)

/-- May change: mem, power, evr, flash, core0, core1, registers of block 0 11. -/
theorem State.agentProgram_moves (z : State) (p : Nat) (data : List Byte) : Moves 275012243492 z (State.agentProgram z p data) := by
  unfold State.agentProgram
  repeat'
    first
    | with_reducible apply Moves.refl
    | with_reducible assumption
    | intro _
    | ((with_reducible apply Moves.by (State.dropBufs_moves _ _ _)); case hs => exact rfl)
    | ((with_reducible apply Moves.by (State.setPageRaw_moves _ _ _)); case hs => exact rfl)
    | ((with_reducible apply Moves.by (State.raise_moves _ _)); case hs => exact rfl)
    | with_reducible apply ite_moves
    | (extract_lets +onlyGivenNames x; apply Moves.cut (m := 275012243492) (z := z) x; (case' h => unfold x); (case' k => (clear_value x; intro _)))
    | (extract_lets +onlyGivenNames x; clear_value x)
    | split
    | (rename_i hq; split at hq)
    | (rename_i hq; obtain ⟨_, rfl⟩ := Prod.mk.inj hq)

/-- May change: mem, power, evr, flash, core0, core1, registers of block 0 11. -/
theorem State.agentPages_moves (z : State) (p : Nat) (data : List Byte) : Moves 275012243492 z (State.agentPages z p data) := by
  unfold State.agentPages
  repeat'
    first
    | with_reducible apply Moves.refl
    | with_reducible assumption
    | intro _
    | ((with_reducible apply Moves.by (State.agentProgram_moves _ _ _)); case hs => exact rfl)
    | with_reducible apply ite_moves
    | with_reducible apply foldl_moves
    | (extract_lets +onlyGivenNames x; apply Moves.cut (m := 275012243492) (z := z) x; (case' h => unfold x); (case' k => (clear_value x; intro _)))
    | (extract_lets +onlyGivenNames x; clear_value x)
    | split
    | (rename_i hq; split at hq)
    | (rename_i hq; obtain ⟨_, rfl⟩ := Prod.mk.inj hq)

/-- May change: mem, power, evr, flash, core0, core1, registers of block 0 11. -/
theorem State.writeMarker_moves (z : State) (k : Nat) (magic : Nat) (seq : Nat) : Moves 275012243492 z (State.writeMarker z k magic seq) := by
  unfold State.writeMarker
  repeat'
    first
    | with_reducible apply Moves.refl
    | with_reducible assumption
    | intro _
    | ((with_reducible apply Moves.by (State.agentProgram_moves _ _ _)); case hs => exact rfl)
    | with_reducible apply ite_moves
    | (extract_lets +onlyGivenNames x; apply Moves.cut (m := 275012243492) (z := z) x; (case' h => unfold x); (case' k => (clear_value x; intro _)))
    | (extract_lets +onlyGivenNames x; clear_value x)
    | split
    | (rename_i hq; split at hq)
    | (rename_i hq; obtain ⟨_, rfl⟩ := Prod.mk.inj hq)

/-- May change: boot. -/
theorem State.setUpd_moves (z : State) (u : Update) : Moves 1048576 z (State.setUpd z u) := by
  unfold State.setUpd
  repeat'
    first
    | with_reducible apply Moves.refl
    | with_reducible assumption
    | intro _
    | ((with_reducible apply Moves.by (State.with_boot_moves _ _)); case hs => exact rfl)
    | rw [State.with_boot_eq]
    | with_reducible apply ite_moves
    | (extract_lets +onlyGivenNames x; apply Moves.cut (m := 1048576) (z := z) x; (case' h => unfold x); (case' k => (clear_value x; intro _)))
    | (extract_lets +onlyGivenNames x; clear_value x)
    | split
    | (rename_i hq; split at hq)
    | (rename_i hq; obtain ⟨_, rfl⟩ := Prod.mk.inj hq)

/-- May change: boot. -/
theorem State.updRefuse_moves (z : State) (reason : Nat) : Moves 1048576 z (State.updRefuse z reason) := by
  unfold State.updRefuse
  repeat'
    first
    | with_reducible apply Moves.refl
    | with_reducible assumption
    | intro _
    | ((with_reducible apply Moves.by (State.setUpd_moves _ _)); case hs => exact rfl)
    | with_reducible apply ite_moves
    | (extract_lets +onlyGivenNames x; apply Moves.cut (m := 1048576) (z := z) x; (case' h => unfold x); (case' k => (clear_value x; intro _)))
    | (extract_lets +onlyGivenNames x; clear_value x)
    | split
    | (rename_i hq; split at hq)
    | (rename_i hq; obtain ⟨_, rfl⟩ := Prod.mk.inj hq)

/-- May change: mem, power, evr, flash, core0, core1, registers of block 0 11. -/
theorem State.copyPage_moves (z : State) (k : Nat) (n : Nat) : Moves 275012243492 z ((State.copyPage z k n).getD z) := by
  unfold State.copyPage
  repeat'
    first
    | with_reducible apply Moves.refl
    | with_reducible assumption
    | intro _
    | with_reducible apply some_moves
    | with_reducible apply none_moves
    | ((with_reducible apply Moves.by (State.agentProgram_moves _ _ _)); case hs => exact rfl)
    | with_reducible apply ite_moves
    | (extract_lets +onlyGivenNames x; apply Moves.cut (m := 275012243492) (z := z) x; (case' h => unfold x); (case' k => (clear_value x; intro _)))
    | (extract_lets +onlyGivenNames x; clear_value x)
    | split
    | (rename_i hq; split at hq)
    | (rename_i hq; obtain ⟨_, rfl⟩ := Prod.mk.inj hq)

theorem State.copyPage_pair {z : State} {k : Nat} {n : Nat} {u0 : State} {m0 : Nat} {r0 : State} (hp : State.copyPage z k n = some u0) (hs : sub 275012243492 m0 = true) (h : Moves m0 r0 z) : Moves m0 r0 u0 := by
  have g := State.copyPage_moves z k n
  rw [hp] at g
  exact h.step g hs

theorem State.copyPages_some {k : Nat} {ns : List Nat} {z t : State} (h : z.copyPages k ns = some t) : Moves 275012243492 z t := by
  induction ns generalizing z with
  | nil => cases h; exact Moves.refl
  | cons n ns ih =>
    unfold State.copyPages at h
    generalize hq : z.copyPage k n = o at h
    cases o with
    | none => cases h
    | some u => exact (State.copyPage_pair hq (m0 := 275012243492) rfl Moves.refl).trans (ih h)

/-- May change: mem, power, evr, flash, core0, core1, registers of block 0 11. -/
theorem State.copyPages_moves (z : State) (k : Nat) (ns : List Nat) : Moves 275012243492 z ((z.copyPages k ns).getD z) := by
  generalize h : z.copyPages k ns = o
  cases o with
  | none => exact Moves.refl
  | some t => exact State.copyPages_some h

theorem State.copyPages_pair {z : State} {k : Nat} {ns : List Nat} {u0 : State} {m0 : Nat} {r0 : State} (hp : State.copyPages z k ns = some u0) (hs : sub 275012243492 m0 = true) (h : Moves m0 r0 z) : Moves m0 r0 u0 :=
  h.step (State.copyPages_some hp) hs

/-- May change: boot. -/
theorem State.mirrorStore_moves (z : State) (k : Nat) (cs : List Nat) : Moves 1048576 z (State.mirrorStore z k cs) := by
  unfold State.mirrorStore
  repeat'
    first
    | with_reducible apply Moves.refl
    | with_reducible assumption
    | intro _
    | ((with_reducible apply Moves.by (State.with_boot_moves _ _)); case hs => exact rfl)
    | rw [State.with_boot_eq]
    | with_reducible apply ite_moves
    | (extract_lets +onlyGivenNames x; apply Moves.cut (m := 1048576) (z := z) x; (case' h => unfold x); (case' k => (clear_value x; intro _)))
    | (extract_lets +onlyGivenNames x; clear_value x)
    | split
    | (rename_i hq; split at hq)
    | (rename_i hq; obtain ⟨_, rfl⟩ := Prod.mk.inj hq)

/-- May change: mem, power, evr, flash, core0, core1, boot, registers of block 0 11 13. -/
theorem State.stageBegin_moves (z : State) (p : List Byte) : Moves 1374524919844 z (State.stageBegin z p) := by
  unfold State.stageBegin
  repeat'
    first
    | with_reducible apply Moves.refl
    | with_reducible assumption
    | intro _
    | ((with_reducible apply Moves.by (State.mirrorStore_moves _ _ _)); case hs => exact rfl)
    | ((with_reducible apply Moves.by (State.updRefuse_moves _ _)); case hs => exact rfl)
    | ((with_reducible apply Moves.by (State.agentErase_moves _ _ _)); case hs => exact rfl)
    | ((with_reducible apply State.copyPages_pair); (case hp => assumption); case hs => exact rfl)
    | ((with_reducible apply Moves.by (State.setUpd_moves _ _)); case hs => exact rfl)
    | with_reducible apply ite_moves
    | with_reducible apply foldl_moves
    | (extract_lets +onlyGivenNames x; apply Moves.cut (m := 1374524919844) (z := z) x; (case' h => unfold x); (case' k => (clear_value x; intro _)))
    | (extract_lets +onlyGivenNames x; clear_value x)
    | split
    | (rename_i hq; split at hq)
    | (rename_i hq; obtain ⟨_, rfl⟩ := Prod.mk.inj hq)

/-- May change: mem, power, evr, flash, core0, core1, boot, registers of block 0 11. -/
theorem State.stageBody_moves (z : State) (p : List Byte) (i : Nat) (flashFail : Bool) : Moves 275013292068 z (State.stageBody z p i flashFail) := by
  unfold State.stageBody
  repeat'
    first
    | with_reducible apply Moves.refl
    | with_reducible assumption
    | intro _
    | ((with_reducible apply Moves.by (State.updRefuse_moves _ _)); case hs => exact rfl)
    | ((with_reducible apply Moves.by (State.storeIn_moves _ _ _ _)); case hs => exact rfl)
    | ((with_reducible apply Moves.by (State.agentProgram_moves _ _ _)); case hs => exact rfl)
    | ((with_reducible apply Moves.by (State.setUpd_moves _ _)); case hs => exact rfl)
    | ((with_reducible apply Moves.by (State.agentPages_moves _ _ _)); case hs => exact rfl)
    | with_reducible apply ite_moves
    | (extract_lets +onlyGivenNames x; apply Moves.cut (m := 275013292068) (z := z) x; (case' h => unfold x); (case' k => (clear_value x; intro _)))
    | (extract_lets +onlyGivenNames x; clear_value x)
    | split
    | (rename_i hq; split at hq)
    | (rename_i hq; obtain ⟨_, rfl⟩ := Prod.mk.inj hq)

/-- May change: mem, power, evr, flash, core0, core1, boot, registers of block 0 11. -/
theorem State.stageBodies_moves (a0 : Nat) (z : State) (a2 : Bool) : Moves 275013292068 z (State.stageBodies a0 z a2) := by
  induction a0 generalizing z a2 with
  | zero =>
  unfold State.stageBodies
  repeat'
    first
    | with_reducible apply Moves.refl
    | with_reducible assumption
    | intro _
    | ((with_reducible apply Moves.by (State.stageBody_moves _ _ _ _)); case hs => exact rfl)
    | with_reducible apply ite_moves
    | (extract_lets +onlyGivenNames x; apply Moves.cut (m := 275013292068) (z := z) x; (case' h => unfold x); (case' k => (clear_value x; intro _)))
    | (extract_lets +onlyGivenNames x; clear_value x)
    | split
    | (rename_i hq; split at hq)
    | (rename_i hq; obtain ⟨_, rfl⟩ := Prod.mk.inj hq)
  | succ n ih =>
  unfold State.stageBodies
  repeat'
    first
    | ((with_reducible apply Moves.by (ih _ _)); case hs => exact rfl)
    | with_reducible apply Moves.refl
    | with_reducible assumption
    | intro _
    | ((with_reducible apply Moves.by (State.stageBody_moves _ _ _ _)); case hs => exact rfl)
    | with_reducible apply ite_moves
    | (extract_lets +onlyGivenNames x; apply Moves.cut (m := 275013292068) (z := z) x; (case' h => unfold x); (case' k => (clear_value x; intro _)))
    | (extract_lets +onlyGivenNames x; clear_value x)
    | split
    | (rename_i hq; split at hq)
    | (rename_i hq; obtain ⟨_, rfl⟩ := Prod.mk.inj hq)

/-- May change: mem, power, evr, flash, core0, core1, boot, registers of block 0 11 13. -/
theorem State.pkgAdvance_moves (z : State) (full : Bool) (flashFail : Bool) : Moves 1374524919844 z (State.pkgAdvance z full flashFail) := by
  unfold State.pkgAdvance
  repeat'
    first
    | with_reducible apply Moves.refl
    | with_reducible assumption
    | intro _
    | ((with_reducible apply Moves.by (State.stageBodies_moves _ _ _)); case hs => exact rfl)
    | ((with_reducible apply Moves.by (State.updRefuse_moves _ _)); case hs => exact rfl)
    | ((with_reducible apply Moves.by (State.stageBegin_moves _ _)); case hs => exact rfl)
    | with_reducible apply ite_moves
    | (extract_lets +onlyGivenNames x; apply Moves.cut (m := 1374524919844) (z := z) x; (case' h => unfold x); (case' k => (clear_value x; intro _)))
    | (extract_lets +onlyGivenNames x; clear_value x)
    | split
    | (rename_i hq; split at hq)
    | (rename_i hq; obtain ⟨_, rfl⟩ := Prod.mk.inj hq)

/-- May change: mem, power, evr, flash, core0, core1, boot, registers of block 0 11. -/
theorem State.stageEnd_moves (z : State) : Moves 275013292068 z (State.stageEnd z) := by
  unfold State.stageEnd
  repeat'
    first
    | with_reducible apply Moves.refl
    | with_reducible assumption
    | intro _
    | ((with_reducible apply Moves.by (State.writeMarker_moves _ _ _ _)); case hs => exact rfl)
    | ((with_reducible apply Moves.by (State.setUpd_moves _ _)); case hs => exact rfl)
    | with_reducible apply ite_moves
    | (extract_lets +onlyGivenNames x; apply Moves.cut (m := 275013292068) (z := z) x; (case' h => unfold x); (case' k => (clear_value x; intro _)))
    | (extract_lets +onlyGivenNames x; clear_value x)
    | split
    | (rename_i hq; split at hq)
    | (rename_i hq; obtain ⟨_, rfl⟩ := Prod.mk.inj hq)

/-- May change: boot. -/
theorem State.updBegin_moves (z : State) : Moves 1048576 z (State.updBegin z) := by
  unfold State.updBegin
  repeat'
    first
    | with_reducible apply Moves.refl
    | with_reducible assumption
    | intro _
    | ((with_reducible apply Moves.by (State.setUpd_moves _ _)); case hs => exact rfl)
    | with_reducible apply ite_moves
    | (extract_lets +onlyGivenNames x; apply Moves.cut (m := 1048576) (z := z) x; (case' h => unfold x); (case' k => (clear_value x; intro _)))
    | (extract_lets +onlyGivenNames x; clear_value x)
    | split
    | (rename_i hq; split at hq)
    | (rename_i hq; obtain ⟨_, rfl⟩ := Prod.mk.inj hq)

/-- May change: mem, power, evr, flash, core0, core1, boot, registers of block 0 11 13. -/
theorem State.updData_moves (z : State) (off : Nat) (data : List Byte) (flashFail : Bool) : Moves 1374524919844 z (State.updData z off data flashFail) := by
  unfold State.updData
  repeat'
    first
    | with_reducible apply Moves.refl
    | with_reducible assumption
    | intro _
    | ((with_reducible apply Moves.by (State.updRefuse_moves _ _)); case hs => exact rfl)
    | ((with_reducible apply Moves.by (State.pkgAdvance_moves _ _ _)); case hs => exact rfl)
    | ((with_reducible apply Moves.by (State.setUpd_moves _ _)); case hs => exact rfl)
    | with_reducible apply ite_moves
    | (extract_lets +onlyGivenNames x; apply Moves.cut (m := 1374524919844) (z := z) x; (case' h => unfold x); (case' k => (clear_value x; intro _)))
    | (extract_lets +onlyGivenNames x; clear_value x)
    | split
    | (rename_i hq; split at hq)
    | (rename_i hq; obtain ⟨_, rfl⟩ := Prod.mk.inj hq)

/-- May change: boot. -/
theorem State.updAbort_moves (z : State) : Moves 1048576 z (State.updAbort z) := by
  unfold State.updAbort
  repeat'
    first
    | with_reducible apply Moves.refl
    | with_reducible assumption
    | intro _
    | ((with_reducible apply Moves.by (State.setUpd_moves _ _)); case hs => exact rfl)
    | with_reducible apply ite_moves
    | (extract_lets +onlyGivenNames x; apply Moves.cut (m := 1048576) (z := z) x; (case' h => unfold x); (case' k => (clear_value x; intro _)))
    | (extract_lets +onlyGivenNames x; clear_value x)
    | split
    | (rename_i hq; split at hq)
    | (rename_i hq; obtain ⟨_, rfl⟩ := Prod.mk.inj hq)

/-- May change: mem, faults, power, evr, core0, core1, registers of block 0 11 18. -/
theorem State.raiseCounter_moves (z : State) (c : Nat) (v : Nat) (otpFail : Bool) : Moves 35459384315956 z (State.raiseCounter z c v otpFail) := by
  unfold State.raiseCounter
  repeat'
    first
    | with_reducible apply Moves.refl
    | with_reducible assumption
    | intro _
    | ((with_reducible apply Moves.by (State.setNum_moves _ _ _ _)); case hs => exact rfl)
    | ((with_reducible apply Moves.by (State.report_moves _ _ _ _ _ _)); case hs => exact rfl)
    | with_reducible apply ite_moves
    | (extract_lets +onlyGivenNames x; apply Moves.cut (m := 35459384315956) (z := z) x; (case' h => unfold x); (case' k => (clear_value x; intro _)))
    | (extract_lets +onlyGivenNames x; clear_value x)
    | split
    | (rename_i hq; split at hq)
    | (rename_i hq; obtain ⟨_, rfl⟩ := Prod.mk.inj hq)

/-- May change: mem, faults, power, evr, flash, core0, core1, boot, registers of block 0 11 17 18. -/
theorem State.confirm_moves (z : State) (otpFail : Bool) : Moves 53051571425332 z (State.confirm z otpFail) := by
  unfold State.confirm
  repeat'
    first
    | with_reducible apply Moves.refl
    | with_reducible assumption
    | intro _
    | ((with_reducible apply Moves.by (State.writeMarker_moves _ _ _ _)); case hs => exact rfl)
    | ((with_reducible apply Moves.by (State.setUpd_moves _ _)); case hs => exact rfl)
    | ((with_reducible apply Moves.by (State.raiseCounter_moves _ _ _ _)); case hs => exact rfl)
    | ((with_reducible apply Moves.by (State.loadCounters_moves _)); case hs => exact rfl)
    | with_reducible apply ite_moves
    | with_reducible apply foldl_moves
    | (extract_lets +onlyGivenNames x; apply Moves.cut (m := 53051571425332) (z := z) x; (case' h => unfold x); (case' k => (clear_value x; intro _)))
    | (extract_lets +onlyGivenNames x; clear_value x)
    | split
    | (rename_i hq; split at hq)
    | (rename_i hq; obtain ⟨_, rfl⟩ := Prod.mk.inj hq)

/-- May change: boot, free. -/
theorem State.attest_moves (z : State) (nonce : List Byte) : Moves 17825792 z (State.attest z nonce) := by
  unfold State.attest
  repeat'
    first
    | with_reducible apply Moves.refl
    | with_reducible assumption
    | intro _
    | ((with_reducible apply Moves.by (State.freeBytes_moves _ _)); case hs => exact rfl)
    | ((with_reducible apply State.freeBytes_pair); (case hp => assumption); case hs => exact rfl)
    | ((with_reducible apply Moves.by (State.with_boot_moves _ _)); case hs => exact rfl)
    | rw [State.with_boot_eq]
    | with_reducible apply ite_moves
    | (extract_lets +onlyGivenNames x; apply Moves.cut (m := 17825792) (z := z) x; (case' h => unfold x); (case' k => (clear_value x; intro _)))
    | (extract_lets +onlyGivenNames x; clear_value x)
    | split
    | (rename_i hq; split at hq)
    | (rename_i hq; obtain ⟨_, rfl⟩ := Prod.mk.inj hq)

/-- May change: mem, power, radio, evr, core0, core1, boot, registers of block 0 1 11. -/
theorem State.regCert_moves (z : State) (bs : List Byte) : Moves 275281711204 z (State.regCert z bs).2 := by
  unfold State.regCert
  repeat'
    first
    | with_reducible apply Moves.refl
    | with_reducible assumption
    | intro _
    | ((with_reducible apply Moves.by (State.setBytes_moves _ _ _)); case hs => exact rfl)
    | ((with_reducible apply Moves.by (State.acceptProfile_moves _ _)); case hs => exact rfl)
    | with_reducible apply ite_moves
    | with_reducible apply ite_snd_moves
    | (extract_lets +onlyGivenNames x; apply Moves.cut (m := 275281711204) (z := z) x; (case' h => unfold x); (case' k => (clear_value x; intro _)))
    | (extract_lets +onlyGivenNames x; clear_value x)
    | split
    | (rename_i hq; split at hq)
    | (rename_i hq; obtain ⟨_, rfl⟩ := Prod.mk.inj hq)

theorem State.regCert_pair {z : State} {bs : List Byte} {b1 : OdpStatus} {u0 : State} {m0 : Nat} {r0 : State} (hp : State.regCert z bs = (b1, u0)) (hs : sub 275281711204 m0 = true) (h : Moves m0 r0 z) : Moves m0 r0 u0 := by
  have g := State.regCert_moves z bs
  rw [hp] at g
  exact h.step g hs

end Sys2Proof.Machine
end

