-- ==== Sys2Proof/Laws/DictTypes.lean ====
section
/-! SUPPORT. What the operations of Machine/DictTypes.lean may change. -/
set_option linter.all false
namespace Sys2Proof.Machine

set_option linter.tactic.unusedName false

/-- May change: tnet, mem, poison, faults, power, radio, slot, mac, sec, gnss, rtc, evr, flash, core0, core1, lgy, tag, host, pke, pins, free, registers of block all. -/
theorem State.storeRegs_moves (z : State) (regs : List (Nat × Nat)) (value : List Byte) : Moves 140737378246653 z (State.storeRegs z regs value).2 := by
  unfold State.storeRegs
  repeat'
    first
    | with_reducible apply Moves.refl
    | with_reducible assumption
    | intro _
    | ((with_reducible apply Moves.by (State.regWrite_moves _ _ _ _)); case hs => exact rfl)
    | ((with_reducible apply State.regWrite_pair); (case hp => assumption); case hs => exact rfl)
    | with_reducible apply ite_moves
    | with_reducible apply ite_snd_moves
    | with_reducible apply foldl_moves
    | (extract_lets +onlyGivenNames x; apply Moves.cut (m := 140737378246653) (z := z) x; (case' h => unfold x); (case' k => (clear_value x; intro _)))
    | (extract_lets +onlyGivenNames x; clear_value x)
    | split
    | (rename_i hq; split at hq)
    | (rename_i hq; obtain ⟨_, rfl⟩ := Prod.mk.inj hq)

theorem State.storeRegs_pair {z : State} {regs : List (Nat × Nat)} {value : List Byte} {b1 : OdpStatus} {u0 : State} {m0 : Nat} {r0 : State} (hp : State.storeRegs z regs value = (b1, u0)) (hs : sub 140737378246653 m0 = true) (h : Moves m0 r0 z) : Moves m0 r0 u0 := by
  have g := State.storeRegs_moves z regs value
  rw [hp] at g
  exact h.step g hs

theorem State.tookField_moves {m : Nat} {s t : State} {f : RegField} {n : Nat} (h : Moves m s t) : Moves m s (s.tookField t f n).2 :=
  ite_snd_moves h Moves.refl

/-- May change: tnet, mem, poison, faults, power, radio, slot, mac, sec, gnss, rtc, evr, flash, core0, core1, lgy, tag, host, pke, pins, free, registers of block all. -/
theorem State.storeField_moves (z : State) (f : RegField) (n : Nat) : Moves 140737378246653 z (z.storeField f n).2 :=
  State.tookField_moves ((z.regWrite_moves _ _ _).mono rfl)

theorem State.answered_moves {m : Nat} {r s : State} {f : State → Host.Outcome State Fault Refusal} (hm : sub 524288 m = true) (h : Moves m r s)
    (hf : ∀ u, Moves m r u → Goes m r (f u)) : Moves m r (s.answered f).2 :=
  (State.after_moves h hf).step (State.answer_moves _ _) hm

theorem State.done_moves {m : Nat} {r s : State} {f : State → Host.Outcome State Fault Refusal} (h : Moves m r s)
    (hf : ∀ u, Moves m r u → Goes m r (f u)) : Moves m r (s.done f).2 := State.after_moves h hf

end Sys2Proof.Machine
end

