-- ==== Sys2Proof/Laws/DictNet.lean ====
section
/-! SUPPORT. What the operations of Machine/DictNet.lean may change. -/
set_option linter.all false
namespace Sys2Proof.Machine

set_option linter.tactic.unusedName false

/-- May change: power, sec, evr, core0, core1, registers of block 0 6 11. -/
theorem State.keyObject_moves (z : State) (i : Nat) (g : Option KeyImage) : Moves 283602162208 z (State.keyObject z i g).2 := by
  unfold State.keyObject
  repeat'
    first
    | with_reducible apply Moves.refl
    | with_reducible assumption
    | intro _
    | ((with_reducible apply Moves.by (State.pageKeyCommand_moves _ _ _)); case hs => exact rfl)
    | ((with_reducible apply Moves.put); (case hf => (with_reducible apply SEC_P_KSEL_SLOT_block)); case hm => exact rfl)
    | with_reducible apply ite_moves
    | with_reducible apply ite_snd_moves
    | (extract_lets +onlyGivenNames x; apply Moves.cut (m := 283602162208) (z := z) x; (case' h => unfold x); (case' k => (clear_value x; intro _)))
    | (extract_lets +onlyGivenNames x; clear_value x)
    | split
    | (rename_i hq; split at hq)
    | (rename_i hq; obtain ⟨_, rfl⟩ := Prod.mk.inj hq)

theorem State.keyObject_pair {z : State} {i : Nat} {g : Option KeyImage} {b1 : OdpStatus} {u0 : State} {m0 : Nat} {r0 : State} (hp : State.keyObject z i g = (b1, u0)) (hs : sub 283602162208 m0 = true) (h : Moves m0 r0 z) : Moves m0 r0 u0 := by
  have g := State.keyObject_moves z i g
  rw [hp] at g
  exact h.step g hs

end Sys2Proof.Machine
end

