-- ==== Sys2Proof/Laws/DictRadio.lean ====
section
/-! SUPPORT. What the operations of Machine/DictRadio.lean may change. -/
set_option linter.all false
namespace Sys2Proof.Machine

set_option linter.tactic.unusedName false

/-- May change: power, radio, slot, evr, core0, core1, free, registers of block 0 1 2 11. -/
theorem testCommand_moves (op : Nat) (z : State) : Moves 275834310880 z (testCommand op z).2 := by
  unfold testCommand
  repeat'
    first
    | with_reducible apply Moves.refl
    | with_reducible assumption
    | intro _
    | ((with_reducible apply Goes.by (execTestCw_goes _)); case hs => exact rfl)
    | ((with_reducible apply Goes.by (execCalread_goes _)); case hs => exact rfl)
    | ((with_reducible apply Goes.by (execTestStop_goes _)); case hs => exact rfl)
    | ((with_reducible apply Goes.by (execModcarrier_goes _)); case hs => exact rfl)
    | ((with_reducible apply Goes.by (execPerRx_goes _)); case hs => exact rfl)
    | (with_reducible apply State.done_moves)
    | ((with_reducible apply Goes.by (execPerTx_goes _)); case hs => exact rfl)
    | with_reducible apply ite_moves
    | with_reducible apply ite_snd_moves
    | (extract_lets +onlyGivenNames x; apply Moves.cut (m := 275834310880) (z := z) x; (case' h => unfold x); (case' k => (clear_value x; intro _)))
    | (extract_lets +onlyGivenNames x; clear_value x)
    | split
    | (rename_i hq; split at hq)
    | (rename_i hq; obtain ⟨_, rfl⟩ := Prod.mk.inj hq)

theorem testCommand_pair {op : Nat} {z : State} {b1 : OdpStatus} {u0 : State} {m0 : Nat} {r0 : State} (hp : testCommand op z = (b1, u0)) (hs : sub 275834310880 m0 = true) (h : Moves m0 r0 z) : Moves m0 r0 u0 := by
  have g := testCommand_moves op z
  rw [hp] at g
  exact h.step g hs

/-- May change: radio, slot, registers of block 1 2. -/
theorem calCommand_moves (v : Nat) (z : State) : Moves 805306560 z (calCommand v z).2 := by
  unfold calCommand
  repeat'
    first
    | with_reducible apply Moves.refl
    | with_reducible assumption
    | intro _
    | (with_reducible apply State.done_moves)
    | ((with_reducible apply Goes.by (execCalibrationStart_goes _ _)); case hs => exact rfl)
    | with_reducible apply ite_moves
    | with_reducible apply ite_snd_moves
    | (extract_lets +onlyGivenNames x; apply Moves.cut (m := 805306560) (z := z) x; (case' h => unfold x); (case' k => (clear_value x; intro _)))
    | (extract_lets +onlyGivenNames x; clear_value x)
    | split
    | (rename_i hq; split at hq)
    | (rename_i hq; obtain ⟨_, rfl⟩ := Prod.mk.inj hq)

theorem calCommand_pair {v : Nat} {z : State} {b1 : OdpStatus} {u0 : State} {m0 : Nat} {r0 : State} (hp : calCommand v z = (b1, u0)) (hs : sub 805306560 m0 = true) (h : Moves m0 r0 z) : Moves m0 r0 u0 := by
  have g := calCommand_moves v z
  rw [hp] at g
  exact h.step g hs

end Sys2Proof.Machine
end

