-- ==== Sys2Proof/Laws/DictSys.lean ====
section
/-! SUPPORT. What the operations of Machine/DictSys.lean may change. -/
set_option linter.all false
namespace Sys2Proof.Machine

set_option linter.tactic.unusedName false

/-- May change: mem, faults, power, evr, flash, core0, core1, boot, registers of block 0 11 17 18. -/
theorem State.updCommand_moves (z : State) (code : Nat) (e : DictEnv) : Moves 53051571425332 z (State.updCommand z code e).2 := by
  unfold State.updCommand
  repeat'
    first
    | with_reducible apply Moves.refl
    | with_reducible assumption
    | intro _
    | ((with_reducible apply Moves.by (State.updAbort_moves _)); case hs => exact rfl)
    | ((with_reducible apply Moves.by (State.requestReset_moves _ _)); case hs => exact rfl)
    | ((with_reducible apply Moves.by (State.swapRequest_moves _)); case hs => exact rfl)
    | ((with_reducible apply Moves.by (State.confirm_moves _ _)); case hs => exact rfl)
    | ((with_reducible apply Moves.by (State.updBegin_moves _)); case hs => exact rfl)
    | with_reducible apply ite_moves
    | with_reducible apply ite_snd_moves
    | (extract_lets +onlyGivenNames x; apply Moves.cut (m := 53051571425332) (z := z) x; (case' h => unfold x); (case' k => (clear_value x; intro _)))
    | (extract_lets +onlyGivenNames x; clear_value x)
    | split
    | (rename_i hq; split at hq)
    | (rename_i hq; obtain ⟨_, rfl⟩ := Prod.mk.inj hq)

theorem State.updCommand_pair {z : State} {code : Nat} {e : DictEnv} {b1 : OdpStatus} {u0 : State} {m0 : Nat} {r0 : State} (hp : State.updCommand z code e = (b1, u0)) (hs : sub 53051571425332 m0 = true) (h : Moves m0 r0 z) : Moves m0 r0 u0 := by
  have g := State.updCommand_moves z code e
  rw [hp] at g
  exact h.step g hs

/-- May change: mem, power, evr, flash, core0, core1, boot, registers of block 0 11 13. -/
theorem State.updChunk_moves (z : State) (v : List Byte) (e : DictEnv) : Moves 1374524919844 z (State.updChunk z v e).2 := by
  unfold State.updChunk
  repeat'
    first
    | with_reducible apply Moves.refl
    | with_reducible assumption
    | intro _
    | ((with_reducible apply Moves.by (State.updData_moves _ _ _ _)); case hs => exact rfl)
    | with_reducible apply ite_moves
    | with_reducible apply ite_snd_moves
    | (extract_lets +onlyGivenNames x; apply Moves.cut (m := 1374524919844) (z := z) x; (case' h => unfold x); (case' k => (clear_value x; intro _)))
    | (extract_lets +onlyGivenNames x; clear_value x)
    | split
    | (rename_i hq; split at hq)
    | (rename_i hq; obtain ⟨_, rfl⟩ := Prod.mk.inj hq)

theorem State.updChunk_pair {z : State} {v : List Byte} {e : DictEnv} {b1 : OdpStatus} {u0 : State} {m0 : Nat} {r0 : State} (hp : State.updChunk z v e = (b1, u0)) (hs : sub 1374524919844 m0 = true) (h : Moves m0 r0 z) : Moves m0 r0 u0 := by
  have g := State.updChunk_moves z v e
  rw [hp] at g
  exact h.step g hs

/-- May change: boot, free. -/
theorem State.nonceWrite_moves (z : State) (v : List Byte) : Moves 17825792 z (State.nonceWrite z v).2 := by
  unfold State.nonceWrite
  repeat'
    first
    | with_reducible apply Moves.refl
    | with_reducible assumption
    | intro _
    | ((with_reducible apply Moves.by (State.attest_moves _ _)); case hs => exact rfl)
    | with_reducible apply ite_moves
    | with_reducible apply ite_snd_moves
    | (extract_lets +onlyGivenNames x; apply Moves.cut (m := 17825792) (z := z) x; (case' h => unfold x); (case' k => (clear_value x; intro _)))
    | (extract_lets +onlyGivenNames x; clear_value x)
    | split
    | (rename_i hq; split at hq)
    | (rename_i hq; obtain ⟨_, rfl⟩ := Prod.mk.inj hq)

theorem State.nonceWrite_pair {z : State} {v : List Byte} {b1 : OdpStatus} {u0 : State} {m0 : Nat} {r0 : State} (hp : State.nonceWrite z v = (b1, u0)) (hs : sub 17825792 m0 = true) (h : Moves m0 r0 z) : Moves m0 r0 u0 := by
  have g := State.nonceWrite_moves z v
  rw [hp] at g
  exact h.step g hs

/-- May change: mem. -/
theorem State.rootKeyWrite_moves (z : State) (v : List Byte) (e : DictEnv) : Moves 4 z (State.rootKeyWrite z v e).2 := by
  unfold State.rootKeyWrite
  repeat'
    first
    | with_reducible apply Moves.refl
    | with_reducible assumption
    | intro _
    | ((with_reducible apply Moves.by (State.setBytes_moves _ _ _)); case hs => exact rfl)
    | with_reducible apply ite_moves
    | with_reducible apply ite_snd_moves
    | (extract_lets +onlyGivenNames x; apply Moves.cut (m := 4) (z := z) x; (case' h => unfold x); (case' k => (clear_value x; intro _)))
    | (extract_lets +onlyGivenNames x; clear_value x)
    | split
    | (rename_i hq; split at hq)
    | (rename_i hq; obtain ⟨_, rfl⟩ := Prod.mk.inj hq)

theorem State.rootKeyWrite_pair {z : State} {v : List Byte} {e : DictEnv} {b1 : OdpStatus} {u0 : State} {m0 : Nat} {r0 : State} (hp : State.rootKeyWrite z v e = (b1, u0)) (hs : sub 4 m0 = true) (h : Moves m0 r0 z) : Moves m0 r0 u0 := by
  have g := State.rootKeyWrite_moves z v e
  rw [hp] at g
  exact h.step g hs

/-- May change: mem, faults, power, evr, flash, core0, core1, registers of block 0 4 11 12 13 18. -/
theorem State.powerObject_moves (z : State) (code : Nat) : Moves 37110799257652 z (State.powerObject z code).2 := by
  unfold State.powerObject
  repeat'
    first
    | with_reducible apply Moves.refl
    | with_reducible assumption
    | intro _
    | ((with_reducible apply Moves.by (State.powerCommand_moves _ _)); case hs => exact rfl)
    | with_reducible apply ite_moves
    | with_reducible apply ite_snd_moves
    | (extract_lets +onlyGivenNames x; apply Moves.cut (m := 37110799257652) (z := z) x; (case' h => unfold x); (case' k => (clear_value x; intro _)))
    | (extract_lets +onlyGivenNames x; clear_value x)
    | split
    | (rename_i hq; split at hq)
    | (rename_i hq; obtain ⟨_, rfl⟩ := Prod.mk.inj hq)

theorem State.powerObject_pair {z : State} {code : Nat} {b1 : OdpStatus} {u0 : State} {m0 : Nat} {r0 : State} (hp : State.powerObject z code = (b1, u0)) (hs : sub 37110799257652 m0 = true) (h : Moves m0 r0 z) : Moves m0 r0 u0 := by
  have g := State.powerObject_moves z code
  rw [hp] at g
  exact h.step g hs

/-- May change: mem, faults, power, evr, core0, core1, tag, free, registers of block 0 11 16 18. -/
theorem State.tagObject_moves (z : State) (b : Nat) (v : List Byte) (e : DictEnv) : Moves 44255494377524 z (State.tagObject z b v e).2 := by
  unfold State.tagObject
  repeat'
    first
    | with_reducible apply Moves.refl
    | with_reducible assumption
    | intro _
    | ((with_reducible apply Moves.by (State.tagBlocks_moves _ _ _ _ _ _)); case hs => exact rfl)
    | ((with_reducible apply State.tagBlocks_pair); (case hp => assumption); case hs => exact rfl)
    | with_reducible apply ite_moves
    | with_reducible apply ite_snd_moves
    | (extract_lets +onlyGivenNames x; apply Moves.cut (m := 44255494377524) (z := z) x; (case' h => unfold x); (case' k => (clear_value x; intro _)))
    | (extract_lets +onlyGivenNames x; clear_value x)
    | split
    | (rename_i hq; split at hq)
    | (rename_i hq; obtain ⟨_, rfl⟩ := Prod.mk.inj hq)

theorem State.tagObject_pair {z : State} {b : Nat} {v : List Byte} {e : DictEnv} {b1 : OdpStatus} {u0 : State} {m0 : Nat} {r0 : State} (hp : State.tagObject z b v e = (b1, u0)) (hs : sub 44255494377524 m0 = true) (h : Moves m0 r0 z) : Moves m0 r0 u0 := by
  have g := State.tagObject_moves z b v e
  rw [hp] at g
  exact h.step g hs

end Sys2Proof.Machine
end

