-- ==== Sys2Proof/Laws/DictTime.lean ====
section
/-! SUPPORT. What the operations of Machine/DictTime.lean may change. -/
set_option linter.all false
namespace Sys2Proof.Machine

set_option linter.tactic.unusedName false

/-- May change: free. -/
theorem channelStatus_moves (z : State) : Moves 16777216 z (channelStatus z).2 := by
  unfold channelStatus
  repeat'
    first
    | with_reducible apply Moves.refl
    | with_reducible assumption
    | intro _
    | ((with_reducible apply Moves.by (State.freeBytes_moves _ _)); case hs => exact rfl)
    | ((with_reducible apply State.freeBytes_pair); (case hp => assumption); case hs => exact rfl)
    | with_reducible apply ite_moves
    | with_reducible apply ite_snd_moves
    | (extract_lets +onlyGivenNames x; apply Moves.cut (m := 16777216) (z := z) x; (case' h => unfold x); (case' k => (clear_value x; intro _)))
    | (extract_lets +onlyGivenNames x; clear_value x)
    | split
    | (rename_i hq; split at hq)
    | (rename_i hq; obtain ⟨_, rfl⟩ := Prod.mk.inj hq)

theorem channelStatus_pair {z : State} {b1 : List Byte} {u0 : State} {m0 : Nat} {r0 : State} (hp : channelStatus z = (b1, u0)) (hs : sub 16777216 m0 = true) (h : Moves m0 r0 z) : Moves m0 r0 u0 := by
  have g := channelStatus_moves z
  rw [hp] at g
  exact h.step g hs

end Sys2Proof.Machine
end

