-- ==== Sys2Proof/Laws/DictRows.lean ====
section
/-! SUPPORT. No object of the dictionary touches the clock, the queue or the part number: the common forms first, then each
table. -/
set_option linter.all false
namespace Sys2Proof.Machine

/-- Neither reading nor writing the object touches the clock, the queue or the part number. -/
def RowMoves (r : ObjRow) : Prop :=
  (∀ i s, Moves 140737387692029 s (r.read i s).2) ∧ ∀ i v e s, Moves 140737387692029 s (r.write i v e s).2

theorem RowMoves.read {r : ObjRow} (h : RowMoves r) (i : Nat) (s : State) : Moves 140737387692029 s (r.read i s).2 := h.1 i s

theorem RowMoves.write {r : ObjRow} (h : RowMoves r) (i : Nat) (v : List Byte) (e : DictEnv) (s : State) :
    Moves 140737387692029 s (r.write i v e s).2 := h.2 i v e s

def RowsMove : List ObjRow → Prop
  | [] => True
  | r :: rs => RowMoves r ∧ RowsMove rs

theorem RowsMove.mem {l : List ObjRow} (h : RowsMove l) {r : ObjRow} (hr : r ∈ l) : RowMoves r := by
  induction l with
  | nil => cases hr
  | cons x l ih =>
    rcases List.mem_cons.mp hr with rfl | hr
    · exact h.1
    · exact ih h.2 hr

theorem RowsMove.append {a b : List ObjRow} (ha : RowsMove a) (hb : RowsMove b) : RowsMove (a ++ b) := by
  induction a with
  | nil => exact hb
  | cons x l ih => exact ⟨ha.1, ih ha.2⟩

/-- The same state beside another answer. -/
theorem same_moves {α : Type} {m : Nat} {s : State} {a : α} : Moves m s (a, s).2 := Moves.refl

theorem pair_moves {α : Type} {m : Nat} {s t : State} {a : α} (h : Moves m s t) : Moves m s (a, t).2 := h

theorem noWrite_moves (i : Nat) (v : List Byte) (e : DictEnv) (s : State) : Moves 140737387692029 s (noWrite i v e s).2 := Moves.refl

theorem State.kept_moves (s : State) (key : Nat) (v : List Byte) : Moves 140737387692029 s (s.setObj key v) := (s.setObj_moves key v).mono rfl

theorem roObj_moves {key size : Nat} {type : ObjType} {f : State → List Byte} {access : ObjAccess} : RowMoves (roObj key type size f access) :=
  ⟨fun _ _ => same_moves, noWrite_moves⟩

theorem roRegs_moves {key size : Nat} {type : ObjType} {as : List Nat} : RowMoves (roRegs key type size as) := roObj_moves

theorem regArr_moves {key count size : Nat} {type : ObjType} {regs : Nat → List Nat} {persist : Bool} :
    RowMoves (regArr key count type size regs persist) :=
  ⟨fun _ _ => same_moves, fun _ _ _ s => (s.storeRegs_moves _ _).mono rfl⟩

theorem regObj_moves {key size : Nat} {type : ObjType} {regs : List Nat} {persist : Bool} :
    RowMoves (regObj key type size regs persist) := regArr_moves

theorem fieldObj_moves {key : Nat} {type : ObjType} {f : RegField} {lo hi : Int} {persist : Bool} {scale : Nat} :
    RowMoves (fieldObj key type f lo hi persist scale) := by
  refine ⟨fun _ _ => same_moves, fun i v e s => ?_⟩
  exact ite_snd_moves Moves.refl ((s.storeField_moves _ _).mono rfl)

theorem keptObj_moves {key : Nat} {type : ObjType} {dflt : List Byte} {lo hi : Int} {persist : Bool} :
    RowMoves (keptObj key type dflt lo hi persist) :=
  ⟨fun _ _ => same_moves, fun _ _ _ s => ite_snd_moves (s.kept_moves _ _) Moves.refl⟩

theorem keptOctets_moves {key size : Nat} {dflt : List Byte} {ok : List Byte → State → Bool} {persist : Bool} :
    RowMoves (keptOctets key size dflt ok persist) :=
  ⟨fun _ _ => same_moves, fun _ _ _ s => ite_snd_moves (s.kept_moves _ _) Moves.refl⟩

theorem keptWord_moves {key dflt : Nat} {ok : Nat → Bool} : RowMoves (keptWord key dflt ok) :=
  ⟨fun _ _ => same_moves, fun _ _ _ s => ite_snd_moves (s.kept_moves _ _) Moves.refl⟩

theorem cmdObj_moves {key : Nat} {type : ObjType} {lo hi : Nat} {f : Nat → DictEnv → State → Written}
    (h : ∀ v e s, Moves 140737387692029 s (f v e s).2) : RowMoves (cmdObj key type lo hi f) :=
  ⟨fun _ _ => same_moves, fun _ _ e s => ite_snd_moves (h _ e s) Moves.refl⟩

theorem aggregated_moves {key size : Nat} {f : State → List Byte} : RowMoves (aggregated key size f) :=
  ⟨fun _ s => ite_snd_moves ((s.freeBytes_moves _).mono rfl) Moves.refl, noWrite_moves⟩

theorem navObj_moves {key size : Nat} {type : ObjType} : RowMoves (navObj key type size) :=
  ⟨fun _ s => (s.freeBytes_moves _).mono rfl, noWrite_moves⟩

/-- A command's own footprint, as the effect of a write. -/
theorem done_of {m : Nat} {s : State} {f : State → Host.Outcome State Fault Refusal} (h : ∀ u, Goes m u (f u)) (hm : sub m 140737387692029 = true) :
    Moves 140737387692029 s (s.done f).2 := State.done_moves Moves.refl fun u hu => (h u).by hm hu

theorem answered_of {m : Nat} {s : State} {f : State → Host.Outcome State Fault Refusal} (h : ∀ u, Goes m u (f u)) (hm : sub m 140737387692029 = true) :
    Moves 140737387692029 s (s.answered f).2 := State.answered_moves rfl Moves.refl fun u hu => (h u).by hm hu

theorem macRow_moves : RowMoves macRow := ⟨fun _ _ => same_moves, fun _ _ _ s => ite_snd_moves (s.kept_moves _ _) Moves.refl⟩

theorem deviceObjs_moves : RowsMove deviceObjs := by
  refine ⟨⟨fun _ _ => same_moves, noWrite_moves⟩, roObj_moves, roObj_moves, roObj_moves, roObj_moves,
    cmdObj_moves fun _ _ s => (s.with_boot_moves _).mono rfl, keptObj_moves, ⟨fun _ _ => same_moves, fun _ v _ _ => answered_of (execModeWrite_goes (leNat v)) rfl⟩,
    keptObj_moves, keptWord_moves, keptWord_moves, keptWord_moves, keptWord_moves, keptWord_moves, macRow_moves, keptWord_moves,
    keptObj_moves, roObj_moves, trivial⟩

theorem returnRow_moves : RowMoves returnRow :=
  ⟨fun _ _ => same_moves, fun _ _ _ s => ite_snd_moves Moves.refl ((s.storeRegs_moves _ _).mono rfl)⟩

theorem radioObjs_moves : RowsMove radioObjs := by
  refine ⟨fieldObj_moves, fieldObj_moves, fieldObj_moves, fieldObj_moves, fieldObj_moves, fieldObj_moves, fieldObj_moves, returnRow_moves,
    regObj_moves, ⟨fun _ _ => same_moves, fun _ v _ _ => answered_of (execProfileWrite_goes v) rfl⟩,
    ⟨fun _ _ => same_moves, fun _ v _ _ => answered_of (execReglockSet_goes (leNat v)) rfl⟩, ⟨fun _ _ => same_moves, noWrite_moves⟩,
    ⟨fun _ _ => same_moves, fun _ v _ s => (s.regCert_moves v).mono rfl⟩, roObj_moves,
    cmdObj_moves fun v _ s => (calCommand_moves v s).mono rfl, roRegs_moves,
    cmdObj_moves fun v _ s => (testCommand_moves v s).mono rfl, keptObj_moves, roObj_moves, regObj_moves, trivial⟩

theorem twinRow_moves : RowMoves twinRow := by
  refine ⟨fun _ _ => same_moves, fun i v e s => ?_⟩
  exact ite_snd_moves Moves.refl (ite_snd_moves ((s.regWrite_moves _ _ _).mono rfl) ((s.regWrite_moves _ _ _).mono rfl))

theorem laneRow_moves : RowMoves laneRow := by
  refine ⟨fun _ _ => same_moves, fun i v e s => ?_⟩
  exact ite_snd_moves Moves.refl (foldl_moves Moves.refl fun t b h => h.step ((t.regWrite_moves _ _ _)) rfl)

theorem channelObjs_moves : RowsMove channelObjs :=
  ⟨fieldObj_moves, fieldObj_moves, fieldObj_moves, fieldObj_moves, fieldObj_moves, roObj_moves, regArr_moves, regObj_moves, regObj_moves,
    twinRow_moves, fieldObj_moves, fieldObj_moves, fieldObj_moves, fieldObj_moves, fieldObj_moves, laneRow_moves, aggregated_moves, trivial⟩

theorem transmitObjs_moves : RowsMove transmitObjs :=
  ⟨fieldObj_moves, regArr_moves, regObj_moves, fieldObj_moves, regObj_moves, fieldObj_moves, regObj_moves, regObj_moves, regObj_moves,
    fieldObj_moves, fieldObj_moves, trivial⟩

theorem imageRow_moves : RowMoves imageRow := ⟨fun _ _ => same_moves, fun _ v _ _ => done_of (execImageWrite_goes 0 v) rfl⟩

theorem dropRow_moves : RowMoves dropRow :=
  ⟨fun _ s => pair_moves (((s.with_slot_moves _).mono rfl).put (SLE_DROPSTAT_LOST_block) rfl), noWrite_moves⟩

theorem slotObjs_moves : RowsMove slotObjs :=
  ⟨imageRow_moves, cmdObj_moves fun v _ s => (s.sleCommand_moves v .host).mono rfl, regObj_moves, regObj_moves, roRegs_moves, roRegs_moves,
    roObj_moves, roObj_moves, roRegs_moves, dropRow_moves, roRegs_moves,
    ⟨fun _ _ => same_moves, fun _ _ _ s => ite_snd_moves (s.kept_moves _ _) Moves.refl⟩, trivial⟩

theorem contextRow_moves : RowMoves contextRow := by
  refine ⟨fun _ _ => same_moves, fun i v e s => ?_⟩
  unfold contextRow
  dsimp only
  split
  · rename_i h
    refine ite_snd_moves Moves.refl (State.done_moves ((s.with_mac_moves _).mono rfl) fun u hu => (execContextWrite_goes ⟨_, h⟩ u).by rfl hu)
  · exact Moves.refl

theorem deleteRow_moves : RowMoves deleteRow := by
  refine ⟨fun _ _ => same_moves, fun i v e s => ?_⟩
  unfold deleteRow
  dsimp only
  split
  · rename_i h
    exact ite_snd_moves Moves.refl (done_of (execContextDelete_goes ⟨_, h⟩) rfl)
  · exact Moves.refl

theorem beaconRow_moves : RowMoves beaconRow :=
  ⟨fun _ _ => same_moves, fun _ _ _ s => pair_moves (((s.devWrite_moves _ _).mono rfl).put MAC_EBCFG_EB_LEN_block rfl)⟩

theorem accessObjs_moves : RowsMove accessObjs :=
  ⟨fieldObj_moves, fieldObj_moves, regObj_moves, regObj_moves, contextRow_moves, keptObj_moves, roObj_moves, deleteRow_moves, roObj_moves,
    regObj_moves, roRegs_moves, cmdObj_moves fun _ _ s => (s.regWrite_moves _ _ _).mono rfl, fieldObj_moves, regObj_moves, regObj_moves,
    regObj_moves, fieldObj_moves, beaconRow_moves, fieldObj_moves, fieldObj_moves, keptObj_moves, keptOctets_moves,
    ⟨fun _ _ => same_moves, fun _ _ _ s => ite_snd_moves (s.kept_moves _ _) Moves.refl⟩, trivial⟩

theorem keyLoadRow_moves : RowMoves keyLoadRow := by
  refine ⟨fun _ _ => same_moves, fun i v e s => ?_⟩
  unfold keyLoadRow
  refine ite_snd_moves Moves.refl ?_
  have h := (s.keyObject_moves (leAt v 0 1) (some (loadKeyImage v))).mono (b := 140737387692029) rfl
  generalize s.keyObject (leAt v 0 1) (some (loadKeyImage v)) = r at h ⊢
  obtain ⟨st, t⟩ := r
  cases st
  case ok => exact h.step (State.with_sec_moves _ _) rfl
  all_goals exact h

theorem keyOwnersRow_moves : RowMoves keyOwnersRow :=
  ⟨fun _ _ => same_moves, fun _ _ _ s => ite_snd_moves Moves.refl (foldl_moves Moves.refl fun t b h => h.step (t.setOwner_moves _ _) rfl)⟩

theorem cipherObjs_moves : RowsMove cipherObjs :=
  ⟨keyLoadRow_moves, cmdObj_moves fun v _ s => (s.keyObject_moves v none).mono rfl, fieldObj_moves, roRegs_moves, roRegs_moves,
    keyOwnersRow_moves, ⟨fun _ _ => same_moves, fun _ v _ _ => answered_of (execCipherRequestObject_goes v) rfl⟩,
    ⟨fun _ _ => same_moves, noWrite_moves⟩, roRegs_moves, trivial⟩

theorem gnssRow_moves : RowMoves gnssRow :=
  have h := fieldObj_moves (key := 0x600100) (type := .bool) (f := GNS_CTRL_EN) (lo := 0) (hi := 1) (persist := true) (scale := 1)
  ⟨h.read, fun _ _ _ _ => ite_snd_moves Moves.refl (h.write _ _ _ _)⟩

theorem pulseRow_moves : RowMoves pulseRow := by
  refine ⟨fun _ _ => same_moves, fun i v e s => ite_snd_moves Moves.refl (pair_moves ?_)⟩
  exact ((((Moves.refl.put GNS_TPPER_VALUE_block rfl).put GNS_TPWID_VALUE_block rfl).put GNS_TPOFF_OFFSET_block rfl).put
    GNS_TPCFG_TP_MODE_block rfl).put GNS_TPCFG_POL_block rfl

theorem gnssObjs_moves : RowsMove gnssObjs := by
  refine ⟨gnssRow_moves, keptObj_moves, keptObj_moves, navObj_moves, keptOctets_moves, fieldObj_moves, roObj_moves, pulseRow_moves,
    roRegs_moves, fieldObj_moves, roRegs_moves, cmdObj_moves fun v _ s => ?_, roObj_moves, regObj_moves, regObj_moves,
    cmdObj_moves fun v _ _ => answered_of (execGnssRestart_goes v) rfl, navObj_moves,
    ⟨fun _ s => (channelStatus_moves s).mono rfl, noWrite_moves⟩, trivial⟩
  exact ite_snd_moves (done_of execSteerForce_goes rfl) (done_of execSteerResetI_goes rfl)

theorem calendarRow_moves : RowMoves calendarRow :=
  ⟨fun _ _ => same_moves, fun _ _ _ s => pair_moves ((s.takeSet_moves _ _ _).mono rfl)⟩

theorem alarmRow_moves : RowMoves alarmRow := by
  refine ⟨fun _ _ => same_moves, fun i v e s => ?_⟩
  unfold alarmRow
  dsimp only
  split
  · rename_i t hq
    have h : Moves 140737387692029 s t := State.storeRegs_pair hq rfl (Moves.refl.flag (almEn_block i) rfl)
    refine ite_snd_moves Moves.refl (ite_snd_moves (h.flag (almOneshot_block i) rfl) (ite_snd_moves ?_ ?_))
    · exact (Moves.refl.flag RTC_STATUS_DATE_INVALID_block rfl).step (State.raise_moves _ _) rfl
    · exact (h.flag (almOneshot_block i) rfl).step (State.almArm_moves _ _) rfl
  · exact Moves.refl

theorem measureRow_moves : RowMoves measureRow := by
  have h0 := regObj_moves (key := 0x700301) (size := 4) (type := .u32) (regs := [RTC_TRIMCFG_SRC.addr]) (persist := false)
  refine ⟨h0.read, fun i v e s => ?_⟩
  have h := h0.write i v e s
  unfold measureRow
  dsimp only
  generalize (regObj 0x700301 .u32 4 [RTC_TRIMCFG_SRC.addr] false).write i v e s = r at h ⊢
  obtain ⟨st, t⟩ := r
  cases st
  case ok => exact State.after_moves h fun u hu => (execRtcMeasure_goes u).by rfl hu
  all_goals exact h

theorem clockObjs_moves : RowsMove clockObjs :=
  ⟨calendarRow_moves, regObj_moves, cmdObj_moves fun v _ _ => answered_of (execSetFromNetworkTime_goes v) rfl, alarmRow_moves,
    fieldObj_moves, measureRow_moves, roRegs_moves, roRegs_moves, regObj_moves,
    ⟨fun _ _ => same_moves, fun _ _ _ s => pair_moves ((s.setBytes_moves _ _).mono rfl)⟩, roRegs_moves, trivial⟩

theorem channelRow_moves : RowMoves channelRow :=
  ⟨fun _ _ => same_moves, fun _ _ _ s => ite_snd_moves Moves.refl (ite_snd_moves Moves.refl ((s.storeRegs_moves _ _).mono rfl))⟩

theorem fireRow_moves : RowMoves fireRow :=
  ⟨fun _ _ => same_moves, fun _ v _ _ => ite_snd_moves Moves.refl (done_of (execEvrFire_goes (BitVec.ofNat 32 (leNat v)) false) rfl)⟩

theorem eventObjs_moves : RowsMove eventObjs := ⟨roObj_moves, channelRow_moves, fireRow_moves, roRegs_moves, trivial⟩

theorem bootObjs_moves : RowsMove bootObjs :=
  ⟨roObj_moves, roObj_moves, roObj_moves, roObj_moves, roObj_moves,
    ⟨fun _ _ => same_moves, fun _ v _ s => (s.nonceWrite_moves v).mono rfl⟩, ⟨fun _ _ => same_moves, noWrite_moves⟩,
    ⟨fun _ _ => same_moves, fun _ v e s => (s.rootKeyWrite_moves v e).mono rfl⟩, keptOctets_moves,
    cmdObj_moves fun v e s => (s.updCommand_moves v e).mono rfl,
    ⟨fun _ _ => same_moves, fun _ v e s => (s.updChunk_moves v e).mono rfl⟩, roObj_moves, keptObj_moves, trivial⟩

theorem strengthRow_moves : RowMoves strengthRow :=
  ⟨fun _ _ => same_moves, fun _ _ _ s => ite_snd_moves Moves.refl ((s.storeRegs_moves _ _).mono rfl)⟩

theorem coreObjs_moves : RowsMove coreObjs :=
  ⟨⟨fun _ _ => same_moves, noWrite_moves⟩, roRegs_moves, cmdObj_moves fun v _ _ => done_of (execFaultClose_goes (Fin.ofNat 256 v) (bit v 8) (bit v 9)) rfl,
    cmdObj_moves fun _ _ _ => done_of execFaultPop_goes rfl,
    ⟨fun _ _ => same_moves, fun _ _ _ s => ite_snd_moves Moves.refl (ite_snd_moves Moves.refl (s.kept_moves _ _))⟩, roObj_moves,
    strengthRow_moves, fieldObj_moves, roRegs_moves, regObj_moves, regObj_moves, roRegs_moves, roRegs_moves, roRegs_moves, trivial⟩

theorem pinOutRow_moves : RowMoves pinOutRow :=
  ⟨fun _ _ => same_moves, fun _ _ _ s => ite_snd_moves Moves.refl ((s.storeRegs_moves _ _).mono rfl)⟩

theorem powerObjs_moves : RowsMove powerObjs :=
  ⟨cmdObj_moves fun v _ s => (s.powerObject_moves v).mono rfl, regObj_moves, roRegs_moves, roRegs_moves, roRegs_moves,
    cmdObj_moves fun _ _ s => pair_moves ((s.requestReset_moves _).mono rfl), regObj_moves, roRegs_moves, fieldObj_moves, roRegs_moves,
    regObj_moves, pinOutRow_moves, roRegs_moves, trivial⟩

theorem protectRow_moves : RowMoves protectRow :=
  ⟨fun _ _ => same_moves, fun _ _ _ s => ite_snd_moves Moves.refl ((s.tagObject_moves _ _ _).mono rfl)⟩

theorem passwordRow_moves : RowMoves passwordRow := by
  refine ⟨fun _ _ => same_moves, fun k v e s => ?_⟩
  unfold passwordRow
  dsimp only
  have h := (s.tagObject_moves (1984 + k) (v.take 4) e).mono (b := 140737387692029) rfl
  generalize s.tagObject (1984 + k) (v.take 4) e = r at h ⊢
  obtain ⟨st, t⟩ := r
  cases st
  case ok => exact h.step (State.tagObject_moves _ _ _ _) rfl
  all_goals exact h

theorem tagDataRow_moves : RowMoves tagDataRow :=
  ⟨fun _ _ => same_moves, fun _ _ _ s => pair_moves (((s.tagDataWrite_moves _ _ _).mono rfl).step (State.answer_moves _ _) rfl)⟩

theorem tagObjs_moves : RowsMove tagObjs :=
  ⟨regObj_moves, protectRow_moves, passwordRow_moves, cmdObj_moves fun _ _ s => (s.tagObject_moves _ _ _).mono rfl, roRegs_moves,
    roRegs_moves, keptObj_moves, tagDataRow_moves,
    ⟨fun _ _ => same_moves, fun _ _ _ s => (s.tagObject_moves _ _ _).mono rfl⟩, roObj_moves, trivial⟩

theorem objTable_moves : RowsMove objTable :=
  (((((((((((((deviceObjs_moves.append radioObjs_moves).append channelObjs_moves).append transmitObjs_moves).append slotObjs_moves).append
    accessObjs_moves).append cipherObjs_moves).append gnssObjs_moves).append clockObjs_moves).append eventObjs_moves).append
    coreObjs_moves).append powerObjs_moves).append bootObjs_moves).append tagObjs_moves).append ⟨roObj_moves, trivial⟩

theorem findObj_moves {key i : Nat} {r : ObjRow} (h : findObj key = some (r, i)) : RowMoves r := by
  unfold findObj at h
  generalize hf : objTable.find? (fun r => decide (r.key ≤ key) && decide (key < r.key + r.count)) = o at h
  cases o with
  | none => cases h
  | some q =>
    cases h
    exact objTable_moves.mem (List.mem_of_find?_eq_some hf)

end Sys2Proof.Machine
end

