-- ==== Sys2Proof/Laws/Dict.lean ====
section
/-! SUPPORT. What the operations of Machine/Dict.lean may change. -/
set_option linter.all false
namespace Sys2Proof.Machine

set_option linter.tactic.unusedName false

theorem cmpFields_block (i : Nat) : allIn [RTC_CMP_COND i, RTC_CMP_RATE i, RTC_CMP_DEBOUNCE i, RTC_CMP_ERASE i, RTC_CMP_THR i] 9 := by
  simp only [allIn, List.forall_mem_cons, RTC_CMP_COND_block, RTC_CMP_RATE_block, RTC_CMP_DEBOUNCE_block, RTC_CMP_ERASE_block, RTC_CMP_THR_block]; simp

/-- Changes anything but the clock, the queue and the part number. -/
theorem State.objRead_moves (z : State) (key : Nat) : Moves 140737387692029 z (z.objRead key).2.2 := by
  unfold State.objRead
  split
  · exact Moves.refl
  · rename_i h
    split
    · exact Moves.refl
    · split
      · exact Moves.refl
      · exact (findObj_moves h).read _ _

theorem State.objRead_pair {z : State} {key : Nat} {b1 : OdpStatus} {b2 : List Byte} {u0 : State} {m0 : Nat} {r0 : State} (hp : z.objRead key = (b1, b2, u0)) (hs : sub 140737387692029 m0 = true) (h : Moves m0 r0 z) : Moves m0 r0 u0 := by
  have g := State.objRead_moves z key
  rw [hp] at g
  exact h.step g hs

/-- Changes anything but the clock, the queue and the part number. -/
theorem State.objWrite_moves (z : State) (key : Nat) (v : List Byte) (owner free : Bool) (e : DictEnv) : Moves 140737387692029 z (z.objWrite key v owner free e).2 := by
  unfold State.objWrite
  split
  · exact Moves.refl
  · rename_i r i h
    have g := (findObj_moves h).write i v e z
    dsimp only
    generalize r.write i v e z = q at g ⊢
    obtain ⟨st, t⟩ := q
    refine ite_snd_moves Moves.refl (ite_snd_moves Moves.refl (ite_snd_moves Moves.refl (ite_snd_moves Moves.refl ?_)))
    cases st
    case ok =>
      refine ite_snd_moves g (ite_snd_moves ?_ ?_)
      · exact Moves.step g (State.with_boot_moves _ _) rfl
      · exact Moves.step g (State.persist_moves _ _ _) rfl
    all_goals exact g

theorem State.objWrite_pair {z : State} {key : Nat} {v : List Byte} {owner free : Bool} {e : DictEnv} {b1 : OdpStatus} {u0 : State} {m0 : Nat} {r0 : State} (hp : z.objWrite key v owner free e = (b1, u0)) (hs : sub 140737387692029 m0 = true) (h : Moves m0 r0 z) : Moves m0 r0 u0 := by
  have g := State.objWrite_moves z key v owner free e
  rw [hp] at g
  exact h.step g hs

/-- May change: rtc, boot, registers of block 9. -/
theorem State.restoreDefaults_moves (z : State) : Moves 68720527360 z (State.restoreDefaults z) := by
  unfold State.restoreDefaults
  repeat'
    first
    | with_reducible apply Moves.refl
    | with_reducible assumption
    | intro _
    | ((with_reducible apply Moves.loadFields (cmpFields_block _)); case hm => exact rfl)
    | ((with_reducible apply Moves.by (State.trimWrite_moves _ _)); case hs => exact rfl)
    | ((with_reducible apply Moves.by (State.with_boot_moves _ _)); case hs => exact rfl)
    | rw [State.with_boot_eq]
    | ((with_reducible apply Moves.put); (case hf => (with_reducible first | apply RTC_CMP_COND_block | apply RTC_CMP_DEBOUNCE_block | apply RTC_CMP_ERASE_block | apply RTC_CMP_RATE_block | apply RTC_CMP_THR_block | apply RTC_UTCOFF_LEAP_block | apply RTC_UTCOFF_OFFSET_block)); case hm => exact rfl)
    | with_reducible apply ite_moves
    | with_reducible apply foldl_moves
    | (extract_lets +onlyGivenNames x; apply Moves.cut (m := 68720527360) (z := z) x; (case' h => unfold x); (case' k => (clear_value x; intro _)))
    | (extract_lets +onlyGivenNames x; clear_value x)
    | split
    | (rename_i hq; split at hq)
    | (rename_i hq; obtain ⟨_, rfl⟩ := Prod.mk.inj hq)

/-- Changes anything but the clock, the queue and the part number. -/
theorem State.applyObject_moves (z : State) (key : Nat) (v : List Byte) : Moves 140737387692029 z (z.applyObject key v) := by
  unfold State.applyObject
  split
  · exact Moves.refl
  · rename_i r i h
    extract_lets s
    have hs : Moves 140737387692029 z s := by
      unfold s
      split
      · exact Moves.refl.put (EVR_CFG_OWNER_block _) rfl
      · exact Moves.refl
    exact ite_moves (hs.step ((findObj_moves h).write i v {} s) rfl) hs

/-- May change: tnet, mem, poison, faults, power, radio, slot, mac, sec, gnss, rtc, evr, flash, core0, core1, lgy, tag, host, pke, pins, free, registers of block all. -/
theorem State.applyPorts_moves (z : State) : Moves 140737378246653 z (State.applyPorts z) := by
  unfold State.applyPorts
  repeat'
    first
    | with_reducible apply Moves.refl
    | with_reducible assumption
    | intro _
    | ((with_reducible apply Moves.by (State.regWrite_moves _ _ _ _)); case hs => exact rfl)
    | ((with_reducible apply State.regWrite_pair); (case hp => assumption); case hs => exact rfl)
    | with_reducible apply ite_moves
    | (extract_lets +onlyGivenNames x; apply Moves.cut (m := 140737378246653) (z := z) x; (case' h => unfold x); (case' k => (clear_value x; intro _)))
    | (extract_lets +onlyGivenNames x; clear_value x)
    | split
    | (rename_i hq; split at hq)
    | (rename_i hq; obtain ⟨_, rfl⟩ := Prod.mk.inj hq)

/-- May change: tnet, mem, poison, faults, power, radio, slot, mac, sec, gnss, rtc, evr, memctl, flash, core0, core1, lgy, tag, host, boot, pke, pins, objs, free, registers of block all. -/
theorem State.applyStored_moves (z : State) : Moves 140737387692029 z (State.applyStored z) := by
  unfold State.applyStored
  repeat'
    first
    | with_reducible apply Moves.refl
    | with_reducible assumption
    | intro _
    | ((with_reducible apply Moves.by (State.applyObject_moves _ _ _)); case hs => exact rfl)
    | ((with_reducible apply Moves.by (State.applyPorts_moves _)); case hs => exact rfl)
    | ((with_reducible apply Moves.put); (case hf => (with_reducible first | apply GNS_CTRL_EN_block | apply GNS_CTRL_STEER_EN_block | apply PRC_MODE_MODE_block)); case hm => exact rfl)
    | ((with_reducible apply Moves.flag); (case hf => (with_reducible first | apply GNS_CTRL_EN_block | apply GNS_CTRL_STEER_EN_block | apply PRC_MODE_MODE_block)); case hm => exact rfl)
    | with_reducible apply ite_moves
    | with_reducible apply foldl_moves
    | (extract_lets +onlyGivenNames x; apply Moves.cut (m := 140737387692029) (z := z) x; (case' h => unfold x); (case' k => (clear_value x; intro _)))
    | (extract_lets +onlyGivenNames x; clear_value x)
    | split
    | (rename_i hq; split at hq)
    | (rename_i hq; obtain ⟨_, rfl⟩ := Prod.mk.inj hq)

end Sys2Proof.Machine
end

