-- ==== Sys2Proof/Laws/HostOps.lean ====
section
/-! SUPPORT. What the operations of Machine/HostOps.lean may change. -/
set_option linter.all false
namespace Sys2Proof.Machine

set_option linter.tactic.unusedName false

/-- May change: host. -/
theorem State.setHost_moves (z : State) (h : HostPorts) : Moves 524288 z (State.setHost z h) := by
  unfold State.setHost
  repeat'
    first
    | with_reducible apply Moves.refl
    | with_reducible assumption
    | intro _
    | ((with_reducible apply Moves.by (State.with_host_moves _ _)); case hs => exact rfl)
    | rw [State.with_host_eq]
    | with_reducible apply ite_moves
    | (extract_lets +onlyGivenNames x; apply Moves.cut (m := 524288) (z := z) x; (case' h => unfold x); (case' k => (clear_value x; intro _)))
    | (extract_lets +onlyGivenNames x; clear_value x)
    | split
    | (rename_i hq; split at hq)
    | (rename_i hq; obtain ⟨_, rfl⟩ := Prod.mk.inj hq)

/-- May change: host. -/
theorem State.hostStart_moves (z : State) : Moves 524288 z (State.hostStart z) := by
  unfold State.hostStart
  repeat'
    first
    | with_reducible apply Moves.refl
    | with_reducible assumption
    | intro _
    | ((with_reducible apply Moves.by (State.setHost_moves _ _)); case hs => exact rfl)
    | with_reducible apply ite_moves
    | (extract_lets +onlyGivenNames x; apply Moves.cut (m := 524288) (z := z) x; (case' h => unfold x); (case' k => (clear_value x; intro _)))
    | (extract_lets +onlyGivenNames x; clear_value x)
    | split
    | (rename_i hq; split at hq)
    | (rename_i hq; obtain ⟨_, rfl⟩ := Prod.mk.inj hq)

/-- May change: power, registers of block 0. -/
theorem State.portWake_moves (z : State) (t : Nat) : Moves 134217760 z (State.portWake z t) := by
  unfold State.portWake
  repeat'
    first
    | with_reducible apply Moves.refl
    | with_reducible assumption
    | intro _
    | ((with_reducible apply Moves.by (State.wakeRequest_moves _ _)); case hs => exact rfl)
    | with_reducible apply ite_moves
    | (extract_lets +onlyGivenNames x; apply Moves.cut (m := 134217760) (z := z) x; (case' h => unfold x); (case' k => (clear_value x; intro _)))
    | (extract_lets +onlyGivenNames x; clear_value x)
    | split
    | (rename_i hq; split at hq)
    | (rename_i hq; obtain ⟨_, rfl⟩ := Prod.mk.inj hq)

/-- May change: host. -/
theorem State.sendFrame_moves (z : State) (who : HostId) (f : List Byte) : Moves 524288 z (State.sendFrame z who f) := by
  unfold State.sendFrame
  repeat'
    first
    | with_reducible apply Moves.refl
    | with_reducible assumption
    | intro _
    | ((with_reducible apply Moves.by (State.setHost_moves _ _)); case hs => exact rfl)
    | with_reducible apply ite_moves
    | (extract_lets +onlyGivenNames x; apply Moves.cut (m := 524288) (z := z) x; (case' h => unfold x); (case' k => (clear_value x; intro _)))
    | (extract_lets +onlyGivenNames x; clear_value x)
    | split
    | (rename_i hq; split at hq)
    | (rename_i hq; obtain ⟨_, rfl⟩ := Prod.mk.inj hq)

/-- May change: host. -/
theorem State.respond_moves (z : State) (who : HostId) (opc : Nat) (tid : Nat) (st : OdpStatus) (payload : List Byte) : Moves 524288 z (State.respond z who opc tid st payload) := by
  unfold State.respond
  repeat'
    first
    | with_reducible apply Moves.refl
    | with_reducible assumption
    | intro _
    | ((with_reducible apply Moves.by (State.setHost_moves _ _)); case hs => exact rfl)
    | ((with_reducible apply Moves.by (State.sendFrame_moves _ _ _)); case hs => exact rfl)
    | with_reducible apply ite_moves
    | (extract_lets +onlyGivenNames x; apply Moves.cut (m := 524288) (z := z) x; (case' h => unfold x); (case' k => (clear_value x; intro _)))
    | (extract_lets +onlyGivenNames x; clear_value x)
    | split
    | (rename_i hq; split at hq)
    | (rename_i hq; obtain ⟨_, rfl⟩ := Prod.mk.inj hq)

/-- May change: host, free, registers of block 14. -/
theorem State.busyHint_moves (z : State) : Moves 2199040557056 z (State.busyHint z).2 := by
  unfold State.busyHint
  repeat'
    first
    | with_reducible apply Moves.refl
    | with_reducible assumption
    | intro _
    | ((with_reducible apply Moves.by (State.setHost_moves _ _)); case hs => exact rfl)
    | ((with_reducible apply Moves.by (State.drawFree_moves _)); case hs => exact rfl)
    | ((with_reducible apply State.drawFree_pair); (case hp => assumption); case hs => exact rfl)
    | ((with_reducible apply Moves.bump); (case hf => (with_reducible apply HDP_CNT1_BUSY_block)); case hm => exact rfl)
    | with_reducible apply ite_moves
    | with_reducible apply ite_snd_moves
    | (extract_lets +onlyGivenNames x; apply Moves.cut (m := 2199040557056) (z := z) x; (case' h => unfold x); (case' k => (clear_value x; intro _)))
    | (extract_lets +onlyGivenNames x; clear_value x)
    | split
    | (rename_i hq; split at hq)
    | (rename_i hq; obtain ⟨_, rfl⟩ := Prod.mk.inj hq)

theorem State.busyHint_pair {z : State} {b1 : Nat} {u0 : State} {m0 : Nat} {r0 : State} (hp : State.busyHint z = (b1, u0)) (hs : sub 2199040557056 m0 = true) (h : Moves m0 r0 z) : Moves m0 r0 u0 := by
  have g := State.busyHint_moves z
  rw [hp] at g
  exact h.step g hs

end Sys2Proof.Machine
end

