-- ==== Sys2Proof/Laws/BootRom.lean ====
section
/-! SUPPORT. What the operations of Machine/BootRom.lean may change. -/
set_option linter.all false
namespace Sys2Proof.Machine

set_option linter.tactic.unusedName false

/-- May change: boot. -/
theorem State.setBoot_moves (z : State) (b : Boot) : Moves 1048576 z (State.setBoot z b) := by
  unfold State.setBoot
  repeat'
    first
    | with_reducible apply Moves.refl
    | with_reducible assumption
    | intro _
    | ((with_reducible apply Moves.by (State.with_boot_moves _ _)); case hs => exact rfl)
    | rw [State.with_boot_eq]
    | with_reducible apply ite_moves
    | (extract_lets +onlyGivenNames x; apply Moves.cut (m := 1048576) (z := z) x; (case' h => unfold x); (case' k => (clear_value x; intro _)))
    | (extract_lets +onlyGivenNames x; clear_value x)
    | split
    | (rename_i hq; split at hq)
    | (rename_i hq; obtain ⟨_, rfl⟩ := Prod.mk.inj hq)

/-- May change: registers of block 13. -/
theorem State.scanRecord_moves (z : State) (k : Nat) (r : List Byte) : Moves 1099511627776 z (State.scanRecord z k r) := by
  unfold State.scanRecord
  repeat'
    first
    | with_reducible apply Moves.refl
    | with_reducible assumption
    | intro _
    | ((with_reducible apply Moves.by (State.setSuspect_moves _ _ _ _)); case hs => exact rfl)
    | ((with_reducible apply Moves.put); (case hf => (with_reducible first | apply ecnt_block | apply FLC_ECNT_COUNT_block)); case hm => exact rfl)
    | with_reducible apply ite_moves
    | (extract_lets +onlyGivenNames x; apply Moves.cut (m := 1099511627776) (z := z) x; (case' h => unfold x); (case' k => (clear_value x; intro _)))
    | (extract_lets +onlyGivenNames x; clear_value x)
    | split
    | (rename_i hq; split at hq)
    | (rename_i hq; obtain ⟨_, rfl⟩ := Prod.mk.inj hq)

/-- May change: flash, registers of block 13. -/
theorem State.scanHalf_moves (z : State) (k : Nat) (h : Nat) (half : List Byte) : Moves 1099511644160 z (State.scanHalf z k h half) := by
  unfold State.scanHalf
  repeat'
    first
    | with_reducible apply Moves.refl
    | with_reducible assumption
    | intro _
    | ((with_reducible apply Moves.by (State.setBank_moves _ _ _)); case hs => exact rfl)
    | ((with_reducible apply Moves.by (State.scanRecord_moves _ _ _)); case hs => exact rfl)
    | ((with_reducible apply Moves.by (State.setSuspect_moves _ _ _ _)); case hs => exact rfl)
    | ((with_reducible apply Moves.put); (case hf => (with_reducible first | apply ecnt_block | apply jnlHalf_block | apply jnlFree_block | apply FLC_ECNT_COUNT_block | apply FLC_JNL_FREE_A_block | apply FLC_JNL_FREE_B_block | apply FLC_JNL_HALF_A_block | apply FLC_JNL_HALF_B_block)); case hm => exact rfl)
    | with_reducible apply ite_moves
    | with_reducible apply foldl_moves
    | (extract_lets +onlyGivenNames x; apply Moves.cut (m := 1099511644160) (z := z) x; (case' h => unfold x); (case' k => (clear_value x; intro _)))
    | (extract_lets +onlyGivenNames x; clear_value x)
    | split
    | (rename_i hq; split at hq)
    | (rename_i hq; obtain ⟨_, rfl⟩ := Prod.mk.inj hq)

/-- May change: mem, flash, registers of block 13. -/
theorem State.scanBank_moves (z : State) (k : Nat) : Moves 1099511644164 z (State.scanBank z k) := by
  unfold State.scanBank
  repeat'
    first
    | with_reducible apply Moves.refl
    | with_reducible assumption
    | intro _
    | ((with_reducible apply Moves.by (State.jnlSnapshot_moves _ _ _)); case hs => exact rfl)
    | ((with_reducible apply Moves.by (State.jnlErase_moves _ _ _)); case hs => exact rfl)
    | ((with_reducible apply Moves.by (State.scanHalf_moves _ _ _ _)); case hs => exact rfl)
    | ((with_reducible apply Moves.flag); (case hf => (with_reducible apply FLC_STATUS_JNL_RESET_block)); case hm => exact rfl)
    | with_reducible apply ite_moves
    | (extract_lets +onlyGivenNames x; apply Moves.cut (m := 1099511644164) (z := z) x; (case' h => unfold x); (case' k => (clear_value x; intro _)))
    | (extract_lets +onlyGivenNames x; clear_value x)
    | split
    | (rename_i hq; split at hq)
    | (rename_i hq; obtain ⟨_, rfl⟩ := Prod.mk.inj hq)

/-- May change: registers of block 13. -/
theorem State.toggleSwap_moves (z : State) : Moves 1099511627776 z (State.toggleSwap z) := by
  unfold State.toggleSwap
  repeat'
    first
    | with_reducible apply Moves.refl
    | with_reducible assumption
    | intro _
    | ((with_reducible apply Moves.put); (case hf => (with_reducible apply FLC_OWNER_SWAP_block)); case hm => exact rfl)
    | with_reducible apply ite_moves
    | (extract_lets +onlyGivenNames x; apply Moves.cut (m := 1099511627776) (z := z) x; (case' h => unfold x); (case' k => (clear_value x; intro _)))
    | (extract_lets +onlyGivenNames x; clear_value x)
    | split
    | (rename_i hq; split at hq)
    | (rename_i hq; obtain ⟨_, rfl⟩ := Prod.mk.inj hq)

/-- May change: registers of block 13 17. -/
theorem State.revert_moves (z : State) : Moves 18691697672192 z (State.revert z) := by
  unfold State.revert
  repeat'
    first
    | with_reducible apply Moves.refl
    | with_reducible assumption
    | intro _
    | ((with_reducible apply Moves.by (State.toggleSwap_moves _)); case hs => exact rfl)
    | ((with_reducible apply Moves.flag); (case hf => (with_reducible first | apply BTU_BOOTSTAT_REVERTED_block | apply BTU_BOOTSTAT_REVERT_FAIL_block)); case hm => exact rfl)
    | with_reducible apply ite_moves
    | (extract_lets +onlyGivenNames x; apply Moves.cut (m := 18691697672192) (z := z) x; (case' h => unfold x); (case' k => (clear_value x; intro _)))
    | (extract_lets +onlyGivenNames x; clear_value x)
    | split
    | (rename_i hq; split at hq)
    | (rename_i hq; obtain ⟨_, rfl⟩ := Prod.mk.inj hq)

/-- May change: registers of block 13 17. -/
theorem State.mapBanks_moves (z : State) : Moves 18691697672192 z (State.mapBanks z) := by
  unfold State.mapBanks
  repeat'
    first
    | with_reducible apply Moves.refl
    | with_reducible assumption
    | intro _
    | ((with_reducible apply Moves.by (State.toggleSwap_moves _)); case hs => exact rfl)
    | ((with_reducible apply Moves.by (State.revert_moves _)); case hs => exact rfl)
    | ((with_reducible apply Moves.put); (case hf => (with_reducible first | apply BTU_BOOTSTAT_REVERTED_block | apply BTU_SWAP_FIRST_block | apply BTU_SWAP_REQ_block | apply FLC_OWNER_SWAP_block)); case hm => exact rfl)
    | ((with_reducible apply Moves.flag); (case hf => (with_reducible first | apply BTU_BOOTSTAT_REVERTED_block | apply BTU_SWAP_FIRST_block | apply BTU_SWAP_REQ_block | apply FLC_OWNER_SWAP_block)); case hm => exact rfl)
    | with_reducible apply ite_moves
    | (extract_lets +onlyGivenNames x; apply Moves.cut (m := 18691697672192) (z := z) x; (case' h => unfold x); (case' k => (clear_value x; intro _)))
    | (extract_lets +onlyGivenNames x; clear_value x)
    | split
    | (rename_i hq; split at hq)
    | (rename_i hq; obtain ⟨_, rfl⟩ := Prod.mk.inj hq)

/-- May change: registers of block 13 17. -/
theorem State.chooseBank_moves (z : State) : Moves 18691697672192 z ((State.chooseBank z).getD z) := by
  unfold State.chooseBank
  repeat'
    first
    | with_reducible apply Moves.refl
    | with_reducible assumption
    | intro _
    | with_reducible apply some_moves
    | with_reducible apply none_moves
    | ((with_reducible apply Moves.by (State.toggleSwap_moves _)); case hs => exact rfl)
    | ((with_reducible apply Moves.put); (case hf => (with_reducible first | apply BTU_BOOTSTAT_ALT_BANK_block | apply BTU_BOOTSTAT_REASON_A_block | apply BTU_BOOTSTAT_REVERT_FAIL_block | apply BTU_BOOTSTAT_TRIAL_block | apply BTU_SWAP_FIRST_block)); case hm => exact rfl)
    | ((with_reducible apply Moves.flag); (case hf => (with_reducible first | apply BTU_BOOTSTAT_ALT_BANK_block | apply BTU_BOOTSTAT_REASON_A_block | apply BTU_BOOTSTAT_REVERT_FAIL_block | apply BTU_BOOTSTAT_TRIAL_block | apply BTU_SWAP_FIRST_block)); case hm => exact rfl)
    | with_reducible apply ite_moves
    | (extract_lets +onlyGivenNames x; apply Moves.cut (m := 18691697672192) (z := z) x; (case' h => unfold x); (case' k => (clear_value x; intro _)))
    | (extract_lets +onlyGivenNames x; clear_value x)
    | split
    | (rename_i hq; split at hq)
    | (rename_i hq; obtain ⟨_, rfl⟩ := Prod.mk.inj hq)

theorem State.chooseBank_pair {z : State} {u0 : State} {m0 : Nat} {r0 : State} (hp : State.chooseBank z = some u0) (hs : sub 18691697672192 m0 = true) (h : Moves m0 r0 z) : Moves m0 r0 u0 := by
  have g := State.chooseBank_moves z
  rw [hp] at g
  exact h.step g hs

/-- May change: faults, power, radio, evr, core0, core1, registers of block 0 1 11 18. -/
theorem State.bootProfile_moves (z : State) : Moves 35459652751472 z (State.bootProfile z) := by
  unfold State.bootProfile
  repeat'
    first
    | with_reducible apply Moves.refl
    | with_reducible assumption
    | intro _
    | ((with_reducible apply Moves.by (State.installProfile_moves _ _)); case hs => exact rfl)
    | ((with_reducible apply Moves.by (State.report_moves _ _ _ _ _ _)); case hs => exact rfl)
    | ((with_reducible apply Moves.by (State.with_radio_moves _ _)); case hs => exact rfl)
    | rw [State.with_radio_eq]
    | ((with_reducible apply Moves.flag); (case hf => (with_reducible apply RFC_REGSTAT_PROFILE_VALID_block)); case hm => exact rfl)
    | with_reducible apply ite_moves
    | (extract_lets +onlyGivenNames x; apply Moves.cut (m := 35459652751472) (z := z) x; (case' h => unfold x); (case' k => (clear_value x; intro _)))
    | (extract_lets +onlyGivenNames x; clear_value x)
    | split
    | (rename_i hq; split at hq)
    | (rename_i hq; obtain ⟨_, rfl⟩ := Prod.mk.inj hq)

/-- May change: power, evr, core0, core1, boot, registers of block 0 11. -/
theorem State.enterRecovery_moves (z : State) : Moves 275013275680 z (State.enterRecovery z) := by
  unfold State.enterRecovery
  repeat'
    first
    | with_reducible apply Moves.refl
    | with_reducible assumption
    | intro _
    | ((with_reducible apply Moves.by (State.raise_moves _ _)); case hs => exact rfl)
    | ((with_reducible apply Moves.by (State.setBoot_moves _ _)); case hs => exact rfl)
    | ((with_reducible apply Moves.put); (case hf => (with_reducible first | apply PRC_MODE_MODE_block | apply PRC_MODE_PREV_block)); case hm => exact rfl)
    | with_reducible apply ite_moves
    | (extract_lets +onlyGivenNames x; apply Moves.cut (m := 275013275680) (z := z) x; (case' h => unfold x); (case' k => (clear_value x; intro _)))
    | (extract_lets +onlyGivenNames x; clear_value x)
    | split
    | (rename_i hq; split at hq)
    | (rename_i hq; obtain ⟨_, rfl⟩ := Prod.mk.inj hq)

/-- May change: power, evr, core0, core1, registers of block 0 11 13. -/
theorem State.handOver_moves (z : State) (m : List Byte) : Moves 1374523854880 z (State.handOver z m) := by
  unfold State.handOver
  repeat'
    first
    | with_reducible apply Moves.refl
    | with_reducible assumption
    | intro _
    | ((with_reducible apply Moves.by (State.raiseIf_moves _ _ _)); case hs => exact rfl)
    | ((with_reducible apply Moves.by (State.wdtEnable_moves _ _)); case hs => exact rfl)
    | ((with_reducible apply Moves.by (State.raise_moves _ _)); case hs => exact rfl)
    | ((with_reducible apply Moves.by (State.with_core0_moves _ _)); case hs => exact rfl)
    | rw [State.with_core0_eq]
    | ((with_reducible apply Moves.flag); (case hf => (with_reducible apply FLC_OWNER_ROM_OWN_block)); case hm => exact rfl)
    | with_reducible apply ite_moves
    | (extract_lets +onlyGivenNames x; apply Moves.cut (m := 1374523854880) (z := z) x; (case' h => unfold x); (case' k => (clear_value x; intro _)))
    | (extract_lets +onlyGivenNames x; clear_value x)
    | split
    | (rename_i hq; split at hq)
    | (rename_i hq; obtain ⟨_, rfl⟩ := Prod.mk.inj hq)

/-- May change: mem, power, radio, evr, core0, core1, registers of block 0 1 11. -/
theorem State.applyRegcert_moves (z : State) : Moves 275280662628 z (State.applyRegcert z) := by
  unfold State.applyRegcert
  repeat'
    first
    | with_reducible apply Moves.refl
    | with_reducible assumption
    | intro _
    | ((with_reducible apply Moves.by (State.installProfile_moves _ _)); case hs => exact rfl)
    | ((with_reducible apply Moves.by (State.raise_moves _ _)); case hs => exact rfl)
    | ((with_reducible apply Moves.by (State.setBytes_moves _ _ _)); case hs => exact rfl)
    | with_reducible apply ite_moves
    | (extract_lets +onlyGivenNames x; apply Moves.cut (m := 275280662628) (z := z) x; (case' h => unfold x); (case' k => (clear_value x; intro _)))
    | (extract_lets +onlyGivenNames x; clear_value x)
    | split
    | (rename_i hq; split at hq)
    | (rename_i hq; obtain ⟨_, rfl⟩ := Prod.mk.inj hq)

/-- May change: core1, boot. -/
theorem State.startApp_moves (z : State) : Moves 1114112 z (State.startApp z) := by
  unfold State.startApp
  repeat'
    first
    | with_reducible apply Moves.refl
    | with_reducible assumption
    | intro _
    | ((with_reducible apply Moves.by (State.core1Start_moves _)); case hs => exact rfl)
    | ((with_reducible apply Moves.by (State.setBoot_moves _ _)); case hs => exact rfl)
    | ((with_reducible apply Moves.by (State.with_core1_moves _ _)); case hs => exact rfl)
    | rw [State.with_core1_eq]
    | with_reducible apply ite_moves
    | (extract_lets +onlyGivenNames x; apply Moves.cut (m := 1114112) (z := z) x; (case' h => unfold x); (case' k => (clear_value x; intro _)))
    | (extract_lets +onlyGivenNames x; clear_value x)
    | split
    | (rename_i hq; split at hq)
    | (rename_i hq; obtain ⟨_, rfl⟩ := Prod.mk.inj hq)

/-- May change: radio, registers of block 2. -/
theorem State.radioUp_moves (z : State) : Moves 536870976 z (State.radioUp z) := by
  unfold State.radioUp
  repeat'
    first
    | with_reducible apply Moves.refl
    | with_reducible assumption
    | intro _
    | ((with_reducible apply Moves.by (State.restLane_moves _ _)); case hs => exact rfl)
    | ((with_reducible apply Moves.by (State.setPath_moves _ _ _)); case hs => exact rfl)
    | with_reducible apply ite_moves
    | with_reducible apply foldl_moves
    | (extract_lets +onlyGivenNames x; apply Moves.cut (m := 536870976) (z := z) x; (case' h => unfold x); (case' k => (clear_value x; intro _)))
    | (extract_lets +onlyGivenNames x; clear_value x)
    | split
    | (rename_i hq; split at hq)
    | (rename_i hq; obtain ⟨_, rfl⟩ := Prod.mk.inj hq)

/-- May change: mem, power, radio, slot, mac, evr, core0, core1, lgy, boot, registers of block 0 1 2 4 5 8 11. -/
theorem State.applyStartMode_moves (z : State) : Moves 316620902884 z (State.applyStartMode z) := by
  unfold State.applyStartMode
  repeat'
    first
    | with_reducible apply Moves.refl
    | with_reducible assumption
    | intro _
    | ((with_reducible apply Moves.by (State.lgyCleanup_moves _)); case hs => exact rfl)
    | ((with_reducible apply Moves.by (State.enterMode_moves _ _)); case hs => exact rfl)
    | ((with_reducible apply Moves.by (State.setBoot_moves _ _)); case hs => exact rfl)
    | with_reducible apply ite_moves
    | (extract_lets +onlyGivenNames x; apply Moves.cut (m := 316620902884) (z := z) x; (case' h => unfold x); (case' k => (clear_value x; intro _)))
    | (extract_lets +onlyGivenNames x; clear_value x)
    | split
    | (rename_i hq; split at hq)
    | (rename_i hq; obtain ⟨_, rfl⟩ := Prod.mk.inj hq)

/-- May change: power, slot, evr, core0, core1, registers of block 0 4 11. -/
theorem State.loadStoredProgram_moves (z : State) : Moves 277159710880 z (State.loadStoredProgram z) := by
  unfold State.loadStoredProgram
  repeat'
    first
    | with_reducible apply Moves.refl
    | with_reducible assumption
    | intro _
    | ((with_reducible apply Goes.by (execLoadProgram_goes _ _)); case hs => exact rfl)
    | ((with_reducible apply Goes.by (execImageWrite_goes _ _ _)); case hs => exact rfl)
    | ((with_reducible apply Goes.by (execArmSwap_goes _)); case hs => exact rfl)
    | (with_reducible apply State.after_moves)
    | ((with_reducible apply Goes.by (execLoadCheckDone_goes _)); case hs => exact rfl)
    | with_reducible apply ite_moves
    | (extract_lets +onlyGivenNames x; apply Moves.cut (m := 277159710880) (z := z) x; (case' h => unfold x); (case' k => (clear_value x; intro _)))
    | (extract_lets +onlyGivenNames x; clear_value x)
    | split
    | (rename_i hq; split at hq)
    | (rename_i hq; obtain ⟨_, rfl⟩ := Prod.mk.inj hq)

/-- May change: mem, faults, power, evr, flash, core0, core1, boot, registers of block 0 11 17 18. -/
theorem State.startTrial_moves (z : State) (otpFail : Bool) : Moves 53051571425332 z (State.startTrial z otpFail) := by
  unfold State.startTrial
  repeat'
    first
    | with_reducible apply Moves.refl
    | with_reducible assumption
    | intro _
    | ((with_reducible apply Moves.by (State.confirm_moves _ _)); case hs => exact rfl)
    | ((with_reducible apply Moves.by (State.setUpd_moves _ _)); case hs => exact rfl)
    | with_reducible apply ite_moves
    | (extract_lets +onlyGivenNames x; apply Moves.cut (m := 53051571425332) (z := z) x; (case' h => unfold x); (case' k => (clear_value x; intro _)))
    | (extract_lets +onlyGivenNames x; clear_value x)
    | split
    | (rename_i hq; split at hq)
    | (rename_i hq; obtain ⟨_, rfl⟩ := Prod.mk.inj hq)

/-- May change: tnet, mem, poison, faults, power, radio, slot, mac, sec, gnss, rtc, evr, memctl, flash, core0, core1, lgy, tag, host, boot, pke, pins, objs, free, registers of block all. -/
theorem State.startFirmware_moves (z : State) (otpFail : Bool) : Moves 140737387692029 z (State.startFirmware z otpFail) := by
  unfold State.startFirmware
  repeat'
    first
    | with_reducible apply Moves.refl
    | with_reducible assumption
    | intro _
    | ((with_reducible apply Moves.by (State.holdRelease_moves _)); case hs => exact rfl)
    | ((with_reducible apply Moves.by (State.restoreDefaults_moves _)); case hs => exact rfl)
    | ((with_reducible apply Moves.by (State.startTrial_moves _ _)); case hs => exact rfl)
    | ((with_reducible apply Moves.by (State.lgyRelease_moves _)); case hs => exact rfl)
    | ((with_reducible apply Moves.by (State.startApp_moves _)); case hs => exact rfl)
    | ((with_reducible apply Moves.by (State.radioUp_moves _)); case hs => exact rfl)
    | ((with_reducible apply Moves.by (State.applyRegcert_moves _)); case hs => exact rfl)
    | ((with_reducible apply Moves.by (State.applyStartMode_moves _)); case hs => exact rfl)
    | ((with_reducible apply Moves.by (State.applyStored_moves _)); case hs => exact rfl)
    | ((with_reducible apply Moves.by (State.setBoot_moves _ _)); case hs => exact rfl)
    | ((with_reducible apply Moves.by (State.loadStoredProgram_moves _)); case hs => exact rfl)
    | with_reducible apply ite_moves
    | (extract_lets +onlyGivenNames x; apply Moves.cut (m := 140737387692029) (z := z) x; (case' h => unfold x); (case' k => (clear_value x; intro _)))
    | (extract_lets +onlyGivenNames x; clear_value x)
    | split
    | (rename_i hq; split at hq)
    | (rename_i hq; obtain ⟨_, rfl⟩ := Prod.mk.inj hq)

/-- May change: mem, faults, power, evr, flash, core0, core1, boot, registers of block 0 1 5 11 13 14 15 17 18. -/
theorem State.romStart_moves (z : State) : Moves 60752716222516 z (State.romStart z) := by
  unfold State.romStart
  repeat'
    first
    | with_reducible apply Moves.refl
    | with_reducible assumption
    | intro _
    | ((with_reducible apply Moves.by (State.lgyFlag_moves _ _)); case hs => exact rfl)
    | ((with_reducible apply Moves.by (State.scanBank_moves _ _)); case hs => exact rfl)
    | ((with_reducible apply Moves.by (State.otpDefaults_moves _)); case hs => exact rfl)
    | ((with_reducible apply Moves.by (State.report_moves _ _ _ _ _ _)); case hs => exact rfl)
    | ((with_reducible apply Moves.by (State.setBoot_moves _ _)); case hs => exact rfl)
    | ((with_reducible apply Moves.by (State.loadCounters_moves _)); case hs => exact rfl)
    | ((with_reducible apply Moves.flag); (case hf => (with_reducible apply RFC_REGSTAT_REGLOCK_block)); case hm => exact rfl)
    | with_reducible apply ite_moves
    | (extract_lets +onlyGivenNames x; apply Moves.cut (m := 60752716222516) (z := z) x; (case' h => unfold x); (case' k => (clear_value x; intro _)))
    | (extract_lets +onlyGivenNames x; clear_value x)
    | split
    | (rename_i hq; split at hq)
    | (rename_i hq; obtain ⟨_, rfl⟩ := Prod.mk.inj hq)

/-- May change: tnet, mem, poison, faults, power, radio, slot, mac, sec, gnss, rtc, evr, memctl, flash, core0, core1, lgy, tag, host, boot, pke, pins, objs, free, registers of block all. -/
theorem State.romBoot_moves (z : State) (otpFail : Bool) : Moves 140737387692029 z (State.romBoot z otpFail) := by
  have hr (u : State) (h : Moves 140737387692029 z u) : Moves 140737387692029 z u.enterRecovery := h.step u.enterRecovery_moves rfl
  have h0 : Moves 140737387692029 z z.mapBanks := z.mapBanks_moves.mono rfl
  unfold State.romBoot
  dsimp only
  generalize z.mapBanks = s at h0 ⊢
  refine ite_moves (hr _ (h0.flag BTU_BOOTSTAT_OTP_FAULT_block rfl)) ?_
  generalize hq : s.chooseBank = o
  cases o with
  | none => exact hr _ h0
  | some t =>
    have h1 : Moves 140737387692029 z t.bootProfile := (State.chooseBank_pair hq rfl h0).step t.bootProfile_moves rfl
    dsimp only
    generalize t.bootProfile = u at h1 ⊢
    refine ite_moves (hr _ h1) ?_
    generalize u.manifest 1 false = o
    cases o with
    | none => exact hr _ h1
    | some b => exact (h1.step (u.handOver_moves b) rfl).step (State.startFirmware_moves _ otpFail) rfl

end Sys2Proof.Machine
end

