-- ==== Sys2Proof/Laws/HostServe.lean ====
section
/-! SUPPORT. What the operations of Machine/HostServe.lean may change. -/
set_option linter.all false
namespace Sys2Proof.Machine

set_option linter.tactic.unusedName false

/-- May change: host, free, registers of block 14. -/
theorem State.odpAnswer_moves (z : State) (who : HostId) (opc : Nat) (tid : Nat) (st : OdpStatus) (body : optParam (List Byte) okBody) : Moves 2199040557056 z (State.odpAnswer z who opc tid st body) := by
  unfold State.odpAnswer
  repeat'
    first
    | with_reducible apply Moves.refl
    | with_reducible assumption
    | intro _
    | ((with_reducible apply Moves.by (State.busyHint_moves _)); case hs => exact rfl)
    | ((with_reducible apply State.busyHint_pair); (case hp => assumption); case hs => exact rfl)
    | ((with_reducible apply Moves.by (State.respond_moves _ _ _ _ _ _)); case hs => exact rfl)
    | with_reducible apply ite_moves
    | (extract_lets +onlyGivenNames x; apply Moves.cut (m := 2199040557056) (z := z) x; (case' h => unfold x); (case' k => (clear_value x; intro _)))
    | (extract_lets +onlyGivenNames x; clear_value x)
    | split
    | (rename_i hq; split at hq)
    | (rename_i hq; obtain ⟨_, rfl⟩ := Prod.mk.inj hq)

/-- May change: boot. -/
theorem State.setSession_moves (z : State) (r : Option RecSession) : Moves 1048576 z (State.setSession z r) := by
  unfold State.setSession
  repeat'
    first
    | with_reducible apply Moves.refl
    | with_reducible assumption
    | intro _
    | ((with_reducible apply Moves.by (State.setBoot_moves _ _)); case hs => exact rfl)
    | with_reducible apply ite_moves
    | (extract_lets +onlyGivenNames x; apply Moves.cut (m := 1048576) (z := z) x; (case' h => unfold x); (case' k => (clear_value x; intro _)))
    | (extract_lets +onlyGivenNames x; clear_value x)
    | split
    | (rename_i hq; split at hq)
    | (rename_i hq; obtain ⟨_, rfl⟩ := Prod.mk.inj hq)

/-- May change: mem, power, evr, flash, core0, core1, boot, registers of block 0 11 13 17. -/
theorem State.recEnd_moves (z : State) (r : RecSession) (flashFail : Bool) : Moves 18966710964260 z (State.recEnd z r flashFail).2 := by
  unfold State.recEnd
  repeat'
    first
    | with_reducible apply Moves.refl
    | with_reducible assumption
    | intro _
    | ((with_reducible apply Moves.by (State.pkgAdvance_moves _ _ _)); case hs => exact rfl)
    | ((with_reducible apply Moves.by (State.stageEnd_moves _)); case hs => exact rfl)
    | ((with_reducible apply Moves.by (State.swapRequest_moves _)); case hs => exact rfl)
    | ((with_reducible apply Moves.by (State.setUpd_moves _ _)); case hs => exact rfl)
    | with_reducible apply ite_moves
    | with_reducible apply ite_snd_moves
    | (extract_lets +onlyGivenNames x; apply Moves.cut (m := 18966710964260) (z := z) x; (case' h => unfold x); (case' k => (clear_value x; intro _)))
    | (extract_lets +onlyGivenNames x; clear_value x)
    | split
    | (rename_i hq; split at hq)
    | (rename_i hq; obtain ⟨_, rfl⟩ := Prod.mk.inj hq)

theorem State.recEnd_pair {z : State} {r : RecSession} {flashFail : Bool} {b1 : Nat} {u0 : State} {m0 : Nat} {r0 : State} (hp : State.recEnd z r flashFail = (b1, u0)) (hs : sub 18966710964260 m0 = true) (h : Moves m0 r0 z) : Moves m0 r0 u0 := by
  have g := State.recEnd_moves z r flashFail
  rw [hp] at g
  exact h.step g hs

/-- May change: mem, power, evr, flash, core0, core1, boot, registers of block 0 11 13 17. -/
theorem State.recServe_moves (z : State) (who : Option HostId) (opc : Nat) (p : List Byte) (e : HostEnv) : Moves 18966710964260 z (State.recServe z who opc p e).2 := by
  unfold State.recServe
  repeat'
    first
    | with_reducible apply Moves.refl
    | with_reducible assumption
    | intro _
    | ((with_reducible apply Moves.by (State.requestReset_moves _ _)); case hs => exact rfl)
    | ((with_reducible apply Moves.by (State.setSession_moves _ _)); case hs => exact rfl)
    | ((with_reducible apply Moves.by (State.recEnd_moves _ _ _)); case hs => exact rfl)
    | ((with_reducible apply State.recEnd_pair); (case hp => assumption); case hs => exact rfl)
    | with_reducible apply ite_moves
    | with_reducible apply ite_snd_moves
    | (extract_lets +onlyGivenNames x; apply Moves.cut (m := 18966710964260) (z := z) x; (case' h => unfold x); (case' k => (clear_value x; intro _)))
    | (extract_lets +onlyGivenNames x; clear_value x)
    | split
    | (rename_i hq; split at hq)
    | (rename_i hq; obtain ⟨_, rfl⟩ := Prod.mk.inj hq)

theorem State.recServe_pair {z : State} {who : Option HostId} {opc : Nat} {p : List Byte} {e : HostEnv} {b1 : RecAnswer} {u0 : State} {m0 : Nat} {r0 : State} (hp : State.recServe z who opc p e = (b1, u0)) (hs : sub 18966710964260 m0 = true) (h : Moves m0 r0 z) : Moves m0 r0 u0 := by
  have g := State.recServe_moves z who opc p e
  rw [hp] at g
  exact h.step g hs

/-- May change: host, free, registers of block 14. -/
theorem State.recPayload_moves (z : State) (a : RecAnswer) : Moves 2199040557056 z (State.recPayload z a).2 := by
  unfold State.recPayload
  repeat'
    first
    | with_reducible apply Moves.refl
    | with_reducible assumption
    | intro _
    | ((with_reducible apply Moves.by (State.busyHint_moves _)); case hs => exact rfl)
    | ((with_reducible apply State.busyHint_pair); (case hp => assumption); case hs => exact rfl)
    | with_reducible apply ite_moves
    | with_reducible apply ite_snd_moves
    | (extract_lets +onlyGivenNames x; apply Moves.cut (m := 2199040557056) (z := z) x; (case' h => unfold x); (case' k => (clear_value x; intro _)))
    | (extract_lets +onlyGivenNames x; clear_value x)
    | split
    | (rename_i hq; split at hq)
    | (rename_i hq; obtain ⟨_, rfl⟩ := Prod.mk.inj hq)

theorem State.recPayload_pair {z : State} {a : RecAnswer} {b1 : List Byte} {u0 : State} {m0 : Nat} {r0 : State} (hp : State.recPayload z a = (b1, u0)) (hs : sub 2199040557056 m0 = true) (h : Moves m0 r0 z) : Moves m0 r0 u0 := by
  have g := State.recPayload_moves z a
  rw [hp] at g
  exact h.step g hs

/-- May change: mem, power, evr, flash, core0, core1, host, boot, free, registers of block 0 11 13 14 17. -/
theorem State.recRequest_moves (z : State) (who : HostId) (opc : Nat) (tid : Nat) (p : List Byte) (e : HostEnv) : Moves 21165751521316 z (State.recRequest z who opc tid p e) := by
  unfold State.recRequest
  repeat'
    first
    | with_reducible apply Moves.refl
    | with_reducible assumption
    | intro _
    | ((with_reducible apply Moves.by (State.recPayload_moves _ _)); case hs => exact rfl)
    | ((with_reducible apply State.recPayload_pair); (case hp => assumption); case hs => exact rfl)
    | ((with_reducible apply Moves.by (State.recServe_moves _ _ _ _ _)); case hs => exact rfl)
    | ((with_reducible apply State.recServe_pair); (case hp => assumption); case hs => exact rfl)
    | ((with_reducible apply Moves.by (State.respond_moves _ _ _ _ _ _)); case hs => exact rfl)
    | with_reducible apply ite_moves
    | (extract_lets +onlyGivenNames x; apply Moves.cut (m := 21165751521316) (z := z) x; (case' h => unfold x); (case' k => (clear_value x; intro _)))
    | (extract_lets +onlyGivenNames x; clear_value x)
    | split
    | (rename_i hq; split at hq)
    | (rename_i hq; obtain ⟨_, rfl⟩ := Prod.mk.inj hq)

/-- May change: host. -/
theorem State.setOwnership_moves (z : State) (o : Ownership) : Moves 524288 z (State.setOwnership z o) := by
  unfold State.setOwnership
  repeat'
    first
    | with_reducible apply Moves.refl
    | with_reducible assumption
    | intro _
    | ((with_reducible apply Moves.by (State.setHost_moves _ _)); case hs => exact rfl)
    | with_reducible apply ite_moves
    | (extract_lets +onlyGivenNames x; apply Moves.cut (m := 524288) (z := z) x; (case' h => unfold x); (case' k => (clear_value x; intro _)))
    | (extract_lets +onlyGivenNames x; clear_value x)
    | split
    | (rename_i hq; split at hq)
    | (rename_i hq; obtain ⟨_, rfl⟩ := Prod.mk.inj hq)

/-- May change: power, evr, core0, core1, host, boot, registers of block 0 11. -/
theorem State.passOwner_moves (z : State) (c : Option Claim) : Moves 275013799968 z (State.passOwner z c) := by
  unfold State.passOwner
  repeat'
    first
    | with_reducible apply Moves.refl
    | with_reducible assumption
    | intro _
    | ((with_reducible apply Moves.by (State.updAbort_moves _)); case hs => exact rfl)
    | ((with_reducible apply Moves.by (State.setHost_moves _ _)); case hs => exact rfl)
    | ((with_reducible apply Moves.by (State.raise_moves _ _)); case hs => exact rfl)
    | with_reducible apply ite_moves
    | (extract_lets +onlyGivenNames x; apply Moves.cut (m := 275013799968) (z := z) x; (case' h => unfold x); (case' k => (clear_value x; intro _)))
    | (extract_lets +onlyGivenNames x; clear_value x)
    | split
    | (rename_i hq; split at hq)
    | (rename_i hq; obtain ⟨_, rfl⟩ := Prod.mk.inj hq)

/-- May change: power, evr, core0, core1, host, boot, free, registers of block 0 11 14. -/
theorem State.claim_moves (z : State) (c : Claim) : Moves 2474053832736 z (State.claim z c) := by
  unfold State.claim
  repeat'
    first
    | with_reducible apply Moves.refl
    | with_reducible assumption
    | intro _
    | ((with_reducible apply Moves.by (State.setHost_moves _ _)); case hs => exact rfl)
    | ((with_reducible apply Moves.by (State.odpAnswer_moves _ _ _ _ _ _)); case hs => exact rfl)
    | ((with_reducible apply Moves.by (State.setOwnership_moves _ _)); case hs => exact rfl)
    | ((with_reducible apply Moves.by (State.passOwner_moves _ _)); case hs => exact rfl)
    | with_reducible apply ite_moves
    | (extract_lets +onlyGivenNames x; apply Moves.cut (m := 2474053832736) (z := z) x; (case' h => unfold x); (case' k => (clear_value x; intro _)))
    | (extract_lets +onlyGivenNames x; clear_value x)
    | split
    | (rename_i hq; split at hq)
    | (rename_i hq; obtain ⟨_, rfl⟩ := Prod.mk.inj hq)

/-- May change: power, evr, core0, core1, host, boot, free, registers of block 0 11 14. -/
theorem State.ownership_moves (z : State) (who : HostId) (opc : Nat) (tid : Nat) (p : List Byte) : Moves 2474053832736 z (State.ownership z who opc tid p) := by
  unfold State.ownership
  repeat'
    first
    | with_reducible apply Moves.refl
    | with_reducible assumption
    | intro _
    | ((with_reducible apply Moves.by (State.setHost_moves _ _)); case hs => exact rfl)
    | ((with_reducible apply Moves.by (State.odpAnswer_moves _ _ _ _ _ _)); case hs => exact rfl)
    | ((with_reducible apply Moves.by (State.setOwnership_moves _ _)); case hs => exact rfl)
    | ((with_reducible apply Moves.by (State.claim_moves _ _)); case hs => exact rfl)
    | ((with_reducible apply Moves.by (State.passOwner_moves _ _)); case hs => exact rfl)
    | with_reducible apply ite_moves
    | (extract_lets +onlyGivenNames x; apply Moves.cut (m := 2474053832736) (z := z) x; (case' h => unfold x); (case' k => (clear_value x; intro _)))
    | (extract_lets +onlyGivenNames x; clear_value x)
    | split
    | (rename_i hq; split at hq)
    | (rename_i hq; obtain ⟨_, rfl⟩ := Prod.mk.inj hq)

/-- May change: host. -/
theorem State.dropSnapshot_moves (z : State) (who : HostId) (key : Nat) : Moves 524288 z (State.dropSnapshot z who key) := by
  unfold State.dropSnapshot
  repeat'
    first
    | with_reducible apply Moves.refl
    | with_reducible assumption
    | intro _
    | ((with_reducible apply Moves.by (State.setHost_moves _ _)); case hs => exact rfl)
    | with_reducible apply ite_moves
    | (extract_lets +onlyGivenNames x; apply Moves.cut (m := 524288) (z := z) x; (case' h => unfold x); (case' k => (clear_value x; intro _)))
    | (extract_lets +onlyGivenNames x; clear_value x)
    | split
    | (rename_i hq; split at hq)
    | (rename_i hq; obtain ⟨_, rfl⟩ := Prod.mk.inj hq)

/-- May change: host. -/
theorem State.dropStaging_moves (z : State) (who : HostId) (key : Nat) : Moves 524288 z (State.dropStaging z who key) := by
  unfold State.dropStaging
  repeat'
    first
    | with_reducible apply Moves.refl
    | with_reducible assumption
    | intro _
    | ((with_reducible apply Moves.by (State.setHost_moves _ _)); case hs => exact rfl)
    | with_reducible apply ite_moves
    | (extract_lets +onlyGivenNames x; apply Moves.cut (m := 524288) (z := z) x; (case' h => unfold x); (case' k => (clear_value x; intro _)))
    | (extract_lets +onlyGivenNames x; clear_value x)
    | split
    | (rename_i hq; split at hq)
    | (rename_i hq; obtain ⟨_, rfl⟩ := Prod.mk.inj hq)

/-- May change: tnet, mem, poison, faults, power, radio, slot, mac, sec, gnss, rtc, evr, memctl, flash, core0, core1, lgy, tag, host, boot, pke, pins, objs, free, registers of block all. -/
theorem State.odpReadObj_moves (z : State) (who : HostId) (tid : Nat) (key : Nat) : Moves 140737387692029 z (State.odpReadObj z who tid key) := by
  unfold State.odpReadObj
  repeat'
    first
    | with_reducible apply Moves.refl
    | with_reducible assumption
    | intro _
    | ((with_reducible apply Moves.by (State.setHost_moves _ _)); case hs => exact rfl)
    | ((with_reducible apply Moves.by (State.odpAnswer_moves _ _ _ _ _ _)); case hs => exact rfl)
    | ((with_reducible apply Moves.by (State.objRead_moves _ _)); case hs => exact rfl)
    | ((with_reducible apply State.objRead_pair); (case hp => assumption); case hs => exact rfl)
    | ((with_reducible apply Moves.by (State.dropSnapshot_moves _ _ _)); case hs => exact rfl)
    | with_reducible apply ite_moves
    | (extract_lets +onlyGivenNames x; apply Moves.cut (m := 140737387692029) (z := z) x; (case' h => unfold x); (case' k => (clear_value x; intro _)))
    | (extract_lets +onlyGivenNames x; clear_value x)
    | split
    | (rename_i hq; split at hq)
    | (rename_i hq; obtain ⟨_, rfl⟩ := Prod.mk.inj hq)

/-- May change: host, free, registers of block 14. -/
theorem State.odpReadSegObj_moves (z : State) (who : HostId) (tid : Nat) (key : Nat) (off : Nat) : Moves 2199040557056 z (State.odpReadSegObj z who tid key off) := by
  unfold State.odpReadSegObj
  repeat'
    first
    | with_reducible apply Moves.refl
    | with_reducible assumption
    | intro _
    | ((with_reducible apply Moves.by (State.odpAnswer_moves _ _ _ _ _ _)); case hs => exact rfl)
    | ((with_reducible apply Moves.by (State.dropSnapshot_moves _ _ _)); case hs => exact rfl)
    | with_reducible apply ite_moves
    | (extract_lets +onlyGivenNames x; apply Moves.cut (m := 2199040557056) (z := z) x; (case' h => unfold x); (case' k => (clear_value x; intro _)))
    | (extract_lets +onlyGivenNames x; clear_value x)
    | split
    | (rename_i hq; split at hq)
    | (rename_i hq; obtain ⟨_, rfl⟩ := Prod.mk.inj hq)

/-- May change: tnet, mem, poison, faults, power, radio, slot, mac, sec, gnss, rtc, evr, memctl, flash, core0, core1, lgy, tag, host, boot, pke, pins, objs, free, registers of block all. -/
theorem State.odpWriteObj_moves (z : State) (who : HostId) (opc : Nat) (tid : Nat) (key : Nat) (v : List Byte) (e : HostEnv) : Moves 140737387692029 z (State.odpWriteObj z who opc tid key v e) := by
  unfold State.odpWriteObj
  repeat'
    first
    | with_reducible apply Moves.refl
    | with_reducible assumption
    | intro _
    | ((with_reducible apply Moves.by (State.odpAnswer_moves _ _ _ _ _ _)); case hs => exact rfl)
    | ((with_reducible apply Moves.by (State.objWrite_moves _ _ _ _ _ _)); case hs => exact rfl)
    | ((with_reducible apply State.objWrite_pair); (case hp => assumption); case hs => exact rfl)
    | with_reducible apply ite_moves
    | (extract_lets +onlyGivenNames x; apply Moves.cut (m := 140737387692029) (z := z) x; (case' h => unfold x); (case' k => (clear_value x; intro _)))
    | (extract_lets +onlyGivenNames x; clear_value x)
    | split
    | (rename_i hq; split at hq)
    | (rename_i hq; obtain ⟨_, rfl⟩ := Prod.mk.inj hq)

/-- May change: host, free, registers of block 14. -/
theorem State.segFail_moves (z : State) (who : HostId) (tid : Nat) (key : Nat) : Moves 2199040557056 z (State.segFail z who tid key) := by
  unfold State.segFail
  repeat'
    first
    | with_reducible apply Moves.refl
    | with_reducible assumption
    | intro _
    | ((with_reducible apply Moves.by (State.odpAnswer_moves _ _ _ _ _ _)); case hs => exact rfl)
    | ((with_reducible apply Moves.by (State.dropStaging_moves _ _ _)); case hs => exact rfl)
    | with_reducible apply ite_moves
    | (extract_lets +onlyGivenNames x; apply Moves.cut (m := 2199040557056) (z := z) x; (case' h => unfold x); (case' k => (clear_value x; intro _)))
    | (extract_lets +onlyGivenNames x; clear_value x)
    | split
    | (rename_i hq; split at hq)
    | (rename_i hq; obtain ⟨_, rfl⟩ := Prod.mk.inj hq)

/-- May change: tnet, mem, poison, faults, power, radio, slot, mac, sec, gnss, rtc, evr, memctl, flash, core0, core1, lgy, tag, host, boot, pke, pins, objs, free, registers of block all. -/
theorem State.segJoined_moves (z : State) (who : HostId) (tid : Nat) (key : Nat) (off : Nat) (total : Nat) (last : Bool) (d : List Byte) (v : List Byte) (e : HostEnv) : Moves 140737387692029 z (State.segJoined z who tid key off total last d v e) := by
  unfold State.segJoined
  repeat'
    first
    | with_reducible apply Moves.refl
    | with_reducible assumption
    | intro _
    | ((with_reducible apply Moves.by (State.odpWriteObj_moves _ _ _ _ _ _ _)); case hs => exact rfl)
    | ((with_reducible apply Moves.by (State.segFail_moves _ _ _ _)); case hs => exact rfl)
    | ((with_reducible apply Moves.by (State.setHost_moves _ _)); case hs => exact rfl)
    | ((with_reducible apply Moves.by (State.odpAnswer_moves _ _ _ _ _ _)); case hs => exact rfl)
    | ((with_reducible apply Moves.by (State.dropStaging_moves _ _ _)); case hs => exact rfl)
    | with_reducible apply ite_moves
    | (extract_lets +onlyGivenNames x; apply Moves.cut (m := 140737387692029) (z := z) x; (case' h => unfold x); (case' k => (clear_value x; intro _)))
    | (extract_lets +onlyGivenNames x; clear_value x)
    | split
    | (rename_i hq; split at hq)
    | (rename_i hq; obtain ⟨_, rfl⟩ := Prod.mk.inj hq)

/-- May change: tnet, mem, poison, faults, power, radio, slot, mac, sec, gnss, rtc, evr, memctl, flash, core0, core1, lgy, tag, host, boot, pke, pins, objs, free, registers of block all. -/
theorem State.odpWriteSegObj_moves (z : State) (who : HostId) (tid : Nat) (key : Nat) (sflags : Nat) (off : Nat) (total : Nat) (data : List Byte) (e : HostEnv) : Moves 140737387692029 z (State.odpWriteSegObj z who tid key sflags off total data e) := by
  unfold State.odpWriteSegObj
  repeat'
    first
    | with_reducible apply Moves.refl
    | with_reducible assumption
    | intro _
    | ((with_reducible apply Moves.by (State.segFail_moves _ _ _ _)); case hs => exact rfl)
    | ((with_reducible apply Moves.by (State.odpAnswer_moves _ _ _ _ _ _)); case hs => exact rfl)
    | ((with_reducible apply Moves.by (State.segJoined_moves _ _ _ _ _ _ _ _ _ _)); case hs => exact rfl)
    | with_reducible apply ite_moves
    | (extract_lets +onlyGivenNames x; apply Moves.cut (m := 140737387692029) (z := z) x; (case' h => unfold x); (case' k => (clear_value x; intro _)))
    | (extract_lets +onlyGivenNames x; clear_value x)
    | split
    | (rename_i hq; split at hq)
    | (rename_i hq; obtain ⟨_, rfl⟩ := Prod.mk.inj hq)

/-- May change: host, free, registers of block 14. -/
theorem State.appRequest_moves (z : State) (who : HostId) (opc : Nat) (tid : Nat) (f : List Byte) : Moves 2199040557056 z (State.appRequest z who opc tid f) := by
  unfold State.appRequest
  repeat'
    first
    | with_reducible apply Moves.refl
    | with_reducible assumption
    | intro _
    | ((with_reducible apply Moves.by (State.setHost_moves _ _)); case hs => exact rfl)
    | ((with_reducible apply Moves.by (State.odpAnswer_moves _ _ _ _ _ _)); case hs => exact rfl)
    | with_reducible apply ite_moves
    | (extract_lets +onlyGivenNames x; apply Moves.cut (m := 2199040557056) (z := z) x; (case' h => unfold x); (case' k => (clear_value x; intro _)))
    | (extract_lets +onlyGivenNames x; clear_value x)
    | split
    | (rename_i hq; split at hq)
    | (rename_i hq; obtain ⟨_, rfl⟩ := Prod.mk.inj hq)

/-- May change: tnet, mem, poison, faults, power, radio, slot, mac, sec, gnss, rtc, evr, memctl, flash, core0, core1, lgy, tag, host, boot, pke, pins, objs, free, registers of block all. -/
theorem State.odpServe_moves (z : State) (who : HostId) (opc : Nat) (tid : Nat) (p : List Byte) (f : List Byte) (e : HostEnv) : Moves 140737387692029 z (State.odpServe z who opc tid p f e) := by
  unfold State.odpServe
  repeat'
    first
    | with_reducible apply Moves.refl
    | with_reducible assumption
    | intro _
    | ((with_reducible apply Moves.by (State.odpWriteObj_moves _ _ _ _ _ _ _)); case hs => exact rfl)
    | ((with_reducible apply Moves.by (State.requestRecovery_moves _)); case hs => exact rfl)
    | ((with_reducible apply Moves.by (State.odpReadSegObj_moves _ _ _ _ _)); case hs => exact rfl)
    | ((with_reducible apply Moves.by (State.odpAnswer_moves _ _ _ _ _ _)); case hs => exact rfl)
    | ((with_reducible apply Moves.by (State.appRequest_moves _ _ _ _ _)); case hs => exact rfl)
    | ((with_reducible apply Moves.by (State.odpWriteSegObj_moves _ _ _ _ _ _ _ _ _)); case hs => exact rfl)
    | ((with_reducible apply Moves.by (State.odpReadObj_moves _ _ _ _)); case hs => exact rfl)
    | with_reducible apply ite_moves
    | (extract_lets +onlyGivenNames x; apply Moves.cut (m := 140737387692029) (z := z) x; (case' h => unfold x); (case' k => (clear_value x; intro _)))
    | (extract_lets +onlyGivenNames x; clear_value x)
    | split
    | (rename_i hq; split at hq)
    | (rename_i hq; obtain ⟨_, rfl⟩ := Prod.mk.inj hq)

/-- May change: tnet, mem, poison, faults, power, radio, slot, mac, sec, gnss, rtc, evr, memctl, flash, core0, core1, lgy, tag, host, boot, pke, pins, objs, free, registers of block all. -/
theorem State.odpRequest_moves (z : State) (who : HostId) (opc : Nat) (tid : Nat) (p : List Byte) (f : List Byte) (e : HostEnv) : Moves 140737387692029 z (State.odpRequest z who opc tid p f e) := by
  unfold State.odpRequest
  repeat'
    first
    | with_reducible apply Moves.refl
    | with_reducible assumption
    | intro _
    | ((with_reducible apply Moves.by (State.recRequest_moves _ _ _ _ _ _)); case hs => exact rfl)
    | ((with_reducible apply Moves.by (State.odpAnswer_moves _ _ _ _ _ _)); case hs => exact rfl)
    | ((with_reducible apply Moves.by (State.raise_moves _ _)); case hs => exact rfl)
    | ((with_reducible apply Moves.by (State.odpServe_moves _ _ _ _ _ _ _)); case hs => exact rfl)
    | ((with_reducible apply Moves.by (State.ownership_moves _ _ _ _ _)); case hs => exact rfl)
    | ((with_reducible apply Moves.put); (case hf => (with_reducible apply HDP_STATUS_QLEVEL_block)); case hm => exact rfl)
    | with_reducible apply ite_moves
    | (extract_lets +onlyGivenNames x; apply Moves.cut (m := 140737387692029) (z := z) x; (case' h => unfold x); (case' k => (clear_value x; intro _)))
    | (extract_lets +onlyGivenNames x; clear_value x)
    | split
    | (rename_i hq; split at hq)
    | (rename_i hq; obtain ⟨_, rfl⟩ := Prod.mk.inj hq)

/-- May change: tnet, mem, poison, faults, power, radio, slot, mac, sec, gnss, rtc, evr, memctl, flash, core0, core1, lgy, tag, host, boot, pke, pins, objs, free, registers of block all. -/
theorem State.frameIn_moves (z : State) (who : HostId) (f : List Byte) (e : HostEnv) : Moves 140737387692029 z (State.frameIn z who f e) := by
  unfold State.frameIn
  repeat'
    first
    | with_reducible apply Moves.refl
    | with_reducible assumption
    | intro _
    | ((with_reducible apply Moves.by (State.odpRequest_moves _ _ _ _ _ _ _)); case hs => exact rfl)
    | ((with_reducible apply Moves.bump); (case hf => (with_reducible first | apply HDP_CNT0_ACCEPTED_block | apply HDP_CNT0_CRC_ERR_block)); case hm => exact rfl)
    | with_reducible apply ite_moves
    | (extract_lets +onlyGivenNames x; apply Moves.cut (m := 140737387692029) (z := z) x; (case' h => unfold x); (case' k => (clear_value x; intro _)))
    | (extract_lets +onlyGivenNames x; clear_value x)
    | split
    | (rename_i hq; split at hq)
    | (rename_i hq; obtain ⟨_, rfl⟩ := Prod.mk.inj hq)

/-- May change: tnet, mem, poison, faults, power, radio, slot, mac, sec, gnss, rtc, evr, memctl, flash, core0, core1, lgy, tag, host, boot, pke, pins, objs, free, registers of block all. -/
theorem State.odpFrom_moves (z : State) (who : HostId) (opc : Nat) (tid : Nat) (p : List Byte) (e : HostEnv) : Moves 140737387692029 z (State.odpFrom z who opc tid p e) := by
  unfold State.odpFrom
  repeat'
    first
    | with_reducible apply Moves.refl
    | with_reducible assumption
    | intro _
    | ((with_reducible apply Moves.by (State.odpRequest_moves _ _ _ _ _ _ _)); case hs => exact rfl)
    | ((with_reducible apply Moves.by (State.portWake_moves _ _)); case hs => exact rfl)
    | ((with_reducible apply Moves.by (State.hostStart_moves _)); case hs => exact rfl)
    | ((with_reducible apply Moves.bump); (case hf => (with_reducible apply HDP_CNT0_ACCEPTED_block)); case hm => exact rfl)
    | with_reducible apply ite_moves
    | (extract_lets +onlyGivenNames x; apply Moves.cut (m := 140737387692029) (z := z) x; (case' h => unfold x); (case' k => (clear_value x; intro _)))
    | (extract_lets +onlyGivenNames x; clear_value x)
    | split
    | (rename_i hq; split at hq)
    | (rename_i hq; obtain ⟨_, rfl⟩ := Prod.mk.inj hq)

end Sys2Proof.Machine
end

