-- ==== Sys2Proof/Laws/Boot.lean ====
section
/-! SUPPORT. What the operations of Machine/Boot.lean may change. -/
set_option linter.all false
namespace Sys2Proof.Machine

set_option linter.tactic.unusedName false

theorem State.answerWritten_moves {m : Nat} {r : State} {w : Written} (hm : sub 524288 m = true) (h : Moves m r w.2) :
    Moves m r (State.answerWritten w) := Moves.step h (State.answer_moves _ _) hm

/-- May change: tnet, mem, poison, faults, power, radio, slot, mac, sec, gnss, rtc, evr, memctl, flash, core0, core1, lgy, tag, host, boot, pke, pins, objs, free, registers of block all. -/
theorem execBootRom_goes (otpFail : Bool) (z : State) : Goes 140737387692029 z (execBootRom otpFail z) := by
  unfold execBootRom
  repeat'
    first
    | with_reducible apply Moves.refl
    | with_reducible assumption
    | intro _
    | with_reducible apply goOn_goes
    | with_reducible apply ite_goes
    | ((with_reducible apply Moves.by (State.romStart_moves _)); case hs => exact rfl)
    | ((with_reducible apply Moves.by (State.romBoot_moves _ _)); case hs => exact rfl)
    | (extract_lets +onlyGivenNames x; apply Moves.cut (m := 140737387692029) (z := z) x; (case' h => unfold x); (case' k => (clear_value x; intro _)))
    | (extract_lets +onlyGivenNames x; clear_value x)
    | split
    | (rename_i hq; split at hq)
    | (rename_i hq; obtain ⟨_, rfl⟩ := Prod.mk.inj hq)

/-- May change: mem, power, radio, evr, core0, core1, host, boot, registers of block 0 1 11. -/
theorem execRegCertWrite_goes (cert : List Byte) (z : State) : Goes 275282235492 z (execRegCertWrite cert z) := by
  unfold execRegCertWrite
  repeat'
    first
    | with_reducible apply Moves.refl
    | with_reducible assumption
    | intro _
    | with_reducible apply goOn_goes
    | with_reducible apply ite_goes
    | ((with_reducible apply Moves.by (State.regCert_moves _ _)); case hs => exact rfl)
    | ((with_reducible apply State.regCert_pair); (case hp => assumption); case hs => exact rfl)
    | ((with_reducible apply State.answerWritten_moves); case hm => exact rfl)
    | (extract_lets +onlyGivenNames x; apply Moves.cut (m := 275282235492) (z := z) x; (case' h => unfold x); (case' k => (clear_value x; intro _)))
    | (extract_lets +onlyGivenNames x; clear_value x)
    | split
    | (rename_i hq; split at hq)
    | (rename_i hq; obtain ⟨_, rfl⟩ := Prod.mk.inj hq)

/-- May change: mem, faults, power, evr, flash, core0, core1, host, boot, registers of block 0 11 17 18. -/
theorem execUpdBegin_goes (env : DictEnv) (z : State) : Goes 53051571949620 z (execUpdBegin env z) := by
  unfold execUpdBegin
  repeat'
    first
    | with_reducible apply Moves.refl
    | with_reducible assumption
    | intro _
    | with_reducible apply goOn_goes
    | with_reducible apply ite_goes
    | ((with_reducible apply Moves.by (State.updCommand_moves _ _ _)); case hs => exact rfl)
    | ((with_reducible apply State.updCommand_pair); (case hp => assumption); case hs => exact rfl)
    | ((with_reducible apply State.answerWritten_moves); case hm => exact rfl)
    | (extract_lets +onlyGivenNames x; apply Moves.cut (m := 53051571949620) (z := z) x; (case' h => unfold x); (case' k => (clear_value x; intro _)))
    | (extract_lets +onlyGivenNames x; clear_value x)
    | split
    | (rename_i hq; split at hq)
    | (rename_i hq; obtain ⟨_, rfl⟩ := Prod.mk.inj hq)

/-- May change: mem, power, evr, flash, core0, core1, host, boot, registers of block 0 11 13. -/
theorem execUpdateData_goes (offset : Word) (data : List Byte) (env : DictEnv) (z : State) : Goes 1374525444132 z (execUpdateData offset data env z) := by
  unfold execUpdateData
  repeat'
    first
    | with_reducible apply Moves.refl
    | with_reducible assumption
    | intro _
    | with_reducible apply goOn_goes
    | with_reducible apply ite_goes
    | ((with_reducible apply Moves.by (State.answer_moves _ _)); case hs => exact rfl)
    | ((with_reducible apply Moves.by (State.updChunk_moves _ _ _)); case hs => exact rfl)
    | ((with_reducible apply State.updChunk_pair); (case hp => assumption); case hs => exact rfl)
    | ((with_reducible apply State.answerWritten_moves); case hm => exact rfl)
    | (extract_lets +onlyGivenNames x; apply Moves.cut (m := 1374525444132) (z := z) x; (case' h => unfold x); (case' k => (clear_value x; intro _)))
    | (extract_lets +onlyGivenNames x; clear_value x)
    | split
    | (rename_i hq; split at hq)
    | (rename_i hq; obtain ⟨_, rfl⟩ := Prod.mk.inj hq)

/-- May change: mem, power, evr, flash, core0, core1, boot, registers of block 0 11. -/
theorem execUpdateStaged_goes (z : State) : Goes 275013292068 z (execUpdateStaged z) := by
  unfold execUpdateStaged
  repeat'
    first
    | with_reducible apply Moves.refl
    | with_reducible assumption
    | intro _
    | with_reducible apply goOn_goes
    | with_reducible apply ite_goes
    | ((with_reducible apply Moves.by (State.stageEnd_moves _)); case hs => exact rfl)
    | (extract_lets +onlyGivenNames x; apply Moves.cut (m := 275013292068) (z := z) x; (case' h => unfold x); (case' k => (clear_value x; intro _)))
    | (extract_lets +onlyGivenNames x; clear_value x)
    | split
    | (rename_i hq; split at hq)
    | (rename_i hq; obtain ⟨_, rfl⟩ := Prod.mk.inj hq)

/-- May change: mem, faults, power, evr, flash, core0, core1, host, boot, registers of block 0 11 17 18. -/
theorem execUpdCommit_goes (env : DictEnv) (z : State) : Goes 53051571949620 z (execUpdCommit env z) := by
  unfold execUpdCommit
  repeat'
    first
    | with_reducible apply Moves.refl
    | with_reducible assumption
    | intro _
    | with_reducible apply goOn_goes
    | with_reducible apply ite_goes
    | ((with_reducible apply Moves.by (State.updCommand_moves _ _ _)); case hs => exact rfl)
    | ((with_reducible apply State.updCommand_pair); (case hp => assumption); case hs => exact rfl)
    | ((with_reducible apply State.answerWritten_moves); case hm => exact rfl)
    | (extract_lets +onlyGivenNames x; apply Moves.cut (m := 53051571949620) (z := z) x; (case' h => unfold x); (case' k => (clear_value x; intro _)))
    | (extract_lets +onlyGivenNames x; clear_value x)
    | split
    | (rename_i hq; split at hq)
    | (rename_i hq; obtain ⟨_, rfl⟩ := Prod.mk.inj hq)

/-- May change: mem, faults, power, evr, flash, core0, core1, host, boot, registers of block 0 11 17 18. -/
theorem execUpdateAbort_goes (env : DictEnv) (z : State) : Goes 53051571949620 z (execUpdateAbort env z) := by
  unfold execUpdateAbort
  repeat'
    first
    | with_reducible apply Moves.refl
    | with_reducible assumption
    | intro _
    | with_reducible apply goOn_goes
    | with_reducible apply ite_goes
    | ((with_reducible apply Moves.by (State.updCommand_moves _ _ _)); case hs => exact rfl)
    | ((with_reducible apply State.updCommand_pair); (case hp => assumption); case hs => exact rfl)
    | ((with_reducible apply State.answerWritten_moves); case hm => exact rfl)
    | (extract_lets +onlyGivenNames x; apply Moves.cut (m := 53051571949620) (z := z) x; (case' h => unfold x); (case' k => (clear_value x; intro _)))
    | (extract_lets +onlyGivenNames x; clear_value x)
    | split
    | (rename_i hq; split at hq)
    | (rename_i hq; obtain ⟨_, rfl⟩ := Prod.mk.inj hq)

/-- May change: mem, faults, power, evr, flash, core0, core1, host, boot, registers of block 0 11 17 18. -/
theorem execUpdConfirm_goes (env : DictEnv) (z : State) : Goes 53051571949620 z (execUpdConfirm env z) := by
  unfold execUpdConfirm
  repeat'
    first
    | with_reducible apply Moves.refl
    | with_reducible assumption
    | intro _
    | with_reducible apply goOn_goes
    | with_reducible apply ite_goes
    | ((with_reducible apply Moves.by (State.updCommand_moves _ _ _)); case hs => exact rfl)
    | ((with_reducible apply State.updCommand_pair); (case hp => assumption); case hs => exact rfl)
    | ((with_reducible apply State.answerWritten_moves); case hm => exact rfl)
    | (extract_lets +onlyGivenNames x; apply Moves.cut (m := 53051571949620) (z := z) x; (case' h => unfold x); (case' k => (clear_value x; intro _)))
    | (extract_lets +onlyGivenNames x; clear_value x)
    | split
    | (rename_i hq; split at hq)
    | (rename_i hq; obtain ⟨_, rfl⟩ := Prod.mk.inj hq)

/-- May change: power. -/
theorem execTrialTimeout_goes (z : State) : Goes 32 z (execTrialTimeout z) := by
  unfold execTrialTimeout
  repeat'
    first
    | with_reducible apply Moves.refl
    | with_reducible assumption
    | intro _
    | with_reducible apply goOn_goes
    | with_reducible apply ite_goes
    | ((with_reducible apply Moves.by (State.requestReset_moves _ _)); case hs => exact rfl)
    | (extract_lets +onlyGivenNames x; apply Moves.cut (m := 32) (z := z) x; (case' h => unfold x); (case' k => (clear_value x; intro _)))
    | (extract_lets +onlyGivenNames x; clear_value x)
    | split
    | (rename_i hq; split at hq)
    | (rename_i hq; obtain ⟨_, rfl⟩ := Prod.mk.inj hq)

/-- May change: registers of block 17. -/
theorem execSwapRequest_goes (z : State) : Goes 17592186044416 z (execSwapRequest z) := by
  unfold execSwapRequest
  repeat'
    first
    | with_reducible apply Moves.refl
    | with_reducible assumption
    | intro _
    | with_reducible apply goOn_goes
    | with_reducible apply ite_goes
    | ((with_reducible apply Moves.by (State.swapRequest_moves _)); case hs => exact rfl)
    | (extract_lets +onlyGivenNames x; apply Moves.cut (m := 17592186044416) (z := z) x; (case' h => unfold x); (case' k => (clear_value x; intro _)))
    | (extract_lets +onlyGivenNames x; clear_value x)
    | split
    | (rename_i hq; split at hq)
    | (rename_i hq; obtain ⟨_, rfl⟩ := Prod.mk.inj hq)

/-- May change: host, boot, free. -/
theorem execAttestationNonce_goes (nonce : List Byte) (z : State) : Goes 18350080 z (execAttestationNonce nonce z) := by
  unfold execAttestationNonce
  repeat'
    first
    | with_reducible apply Moves.refl
    | with_reducible assumption
    | intro _
    | with_reducible apply goOn_goes
    | with_reducible apply ite_goes
    | ((with_reducible apply Moves.by (State.answer_moves _ _)); case hs => exact rfl)
    | ((with_reducible apply Moves.by (State.nonceWrite_moves _ _)); case hs => exact rfl)
    | ((with_reducible apply State.nonceWrite_pair); (case hp => assumption); case hs => exact rfl)
    | ((with_reducible apply State.answerWritten_moves); case hm => exact rfl)
    | (extract_lets +onlyGivenNames x; apply Moves.cut (m := 18350080) (z := z) x; (case' h => unfold x); (case' k => (clear_value x; intro _)))
    | (extract_lets +onlyGivenNames x; clear_value x)
    | split
    | (rename_i hq; split at hq)
    | (rename_i hq; obtain ⟨_, rfl⟩ := Prod.mk.inj hq)

/-- May change: mem, host. -/
theorem execCustomerRootKeyWrite_goes (key : List Byte) (env : DictEnv) (z : State) : Goes 524292 z (execCustomerRootKeyWrite key env z) := by
  unfold execCustomerRootKeyWrite
  repeat'
    first
    | with_reducible apply Moves.refl
    | with_reducible assumption
    | intro _
    | with_reducible apply goOn_goes
    | with_reducible apply ite_goes
    | ((with_reducible apply Moves.by (State.answer_moves _ _)); case hs => exact rfl)
    | ((with_reducible apply Moves.by (State.rootKeyWrite_moves _ _ _)); case hs => exact rfl)
    | ((with_reducible apply State.rootKeyWrite_pair); (case hp => assumption); case hs => exact rfl)
    | ((with_reducible apply State.answerWritten_moves); case hm => exact rfl)
    | (extract_lets +onlyGivenNames x; apply Moves.cut (m := 524292) (z := z) x; (case' h => unfold x); (case' k => (clear_value x; intro _)))
    | (extract_lets +onlyGivenNames x; clear_value x)
    | split
    | (rename_i hq; split at hq)
    | (rename_i hq; obtain ⟨_, rfl⟩ := Prod.mk.inj hq)

/-- May change: tnet, mem, poison, faults, power, radio, slot, mac, sec, gnss, rtc, evr, memctl, flash, core0, core1, lgy, tag, host, boot, pke, pins, objs, free, registers of block all. -/
theorem State.recFrom_moves (z : State) (who : Peer) (opc : Nat) (p : List Byte) (e : HostEnv) : Moves 140737387692029 z (State.recFrom z who opc p e) := by
  unfold State.recFrom
  repeat'
    first
    | with_reducible apply Moves.refl
    | with_reducible assumption
    | intro _
    | ((with_reducible apply Moves.by (State.recPayload_moves _ _)); case hs => exact rfl)
    | ((with_reducible apply State.recPayload_pair); (case hp => assumption); case hs => exact rfl)
    | ((with_reducible apply Moves.by (State.recServe_moves _ _ _ _ _)); case hs => exact rfl)
    | ((with_reducible apply State.recServe_pair); (case hp => assumption); case hs => exact rfl)
    | ((with_reducible apply Moves.by (State.tagError_moves _ _)); case hs => exact rfl)
    | ((with_reducible apply State.tagServe_moves); case hs => exact rfl)
    | ((with_reducible apply Moves.by (State.odpFrom_moves _ _ _ _ _ _)); case hs => exact rfl)
    | ((with_reducible apply Moves.by (State.tagAnswer_moves _ _)); case hs => exact rfl)
    | with_reducible apply ite_moves
    | (extract_lets +onlyGivenNames x; apply Moves.cut (m := 140737387692029) (z := z) x; (case' h => unfold x); (case' k => (clear_value x; intro _)))
    | (extract_lets +onlyGivenNames x; clear_value x)
    | split
    | (rename_i hq; split at hq)
    | (rename_i hq; obtain ⟨_, rfl⟩ := Prod.mk.inj hq)

/-- May change: tnet, mem, poison, faults, power, radio, slot, mac, sec, gnss, rtc, evr, memctl, flash, core0, core1, lgy, tag, host, boot, pke, pins, objs, free, registers of block all. -/
theorem execRInfo_goes (who : Peer) (env : HostEnv) (z : State) : Goes 140737387692029 z (execRInfo who env z) := by
  unfold execRInfo
  repeat'
    first
    | with_reducible apply Moves.refl
    | with_reducible assumption
    | intro _
    | with_reducible apply goOn_goes
    | with_reducible apply ite_goes
    | ((with_reducible apply Moves.by (State.recFrom_moves _ _ _ _ _)); case hs => exact rfl)
    | (extract_lets +onlyGivenNames x; apply Moves.cut (m := 140737387692029) (z := z) x; (case' h => unfold x); (case' k => (clear_value x; intro _)))
    | (extract_lets +onlyGivenNames x; clear_value x)
    | split
    | (rename_i hq; split at hq)
    | (rename_i hq; obtain ⟨_, rfl⟩ := Prod.mk.inj hq)

/-- May change: tnet, mem, poison, faults, power, radio, slot, mac, sec, gnss, rtc, evr, memctl, flash, core0, core1, lgy, tag, host, boot, pke, pins, objs, free, registers of block all. -/
theorem execRBegin_goes (who : Peer) (total : Word) (env : HostEnv) (z : State) : Goes 140737387692029 z (execRBegin who total env z) := by
  unfold execRBegin
  repeat'
    first
    | with_reducible apply Moves.refl
    | with_reducible assumption
    | intro _
    | with_reducible apply goOn_goes
    | with_reducible apply ite_goes
    | ((with_reducible apply Moves.by (State.recFrom_moves _ _ _ _ _)); case hs => exact rfl)
    | (extract_lets +onlyGivenNames x; apply Moves.cut (m := 140737387692029) (z := z) x; (case' h => unfold x); (case' k => (clear_value x; intro _)))
    | (extract_lets +onlyGivenNames x; clear_value x)
    | split
    | (rename_i hq; split at hq)
    | (rename_i hq; obtain ⟨_, rfl⟩ := Prod.mk.inj hq)

/-- May change: tnet, mem, poison, faults, power, radio, slot, mac, sec, gnss, rtc, evr, memctl, flash, core0, core1, lgy, tag, host, boot, pke, pins, objs, free, registers of block all. -/
theorem execRData_goes (who : Peer) (offset : Word) (data : List Byte) (env : HostEnv) (z : State) : Goes 140737387692029 z (execRData who offset data env z) := by
  unfold execRData
  repeat'
    first
    | with_reducible apply Moves.refl
    | with_reducible assumption
    | intro _
    | with_reducible apply goOn_goes
    | with_reducible apply ite_goes
    | ((with_reducible apply Moves.by (State.recFrom_moves _ _ _ _ _)); case hs => exact rfl)
    | (extract_lets +onlyGivenNames x; apply Moves.cut (m := 140737387692029) (z := z) x; (case' h => unfold x); (case' k => (clear_value x; intro _)))
    | (extract_lets +onlyGivenNames x; clear_value x)
    | split
    | (rename_i hq; split at hq)
    | (rename_i hq; obtain ⟨_, rfl⟩ := Prod.mk.inj hq)

/-- May change: tnet, mem, poison, faults, power, radio, slot, mac, sec, gnss, rtc, evr, memctl, flash, core0, core1, lgy, tag, host, boot, pke, pins, objs, free, registers of block all. -/
theorem execREnd_goes (who : Peer) (env : HostEnv) (z : State) : Goes 140737387692029 z (execREnd who env z) := by
  unfold execREnd
  repeat'
    first
    | with_reducible apply Moves.refl
    | with_reducible assumption
    | intro _
    | with_reducible apply goOn_goes
    | with_reducible apply ite_goes
    | ((with_reducible apply Moves.by (State.recFrom_moves _ _ _ _ _)); case hs => exact rfl)
    | (extract_lets +onlyGivenNames x; apply Moves.cut (m := 140737387692029) (z := z) x; (case' h => unfold x); (case' k => (clear_value x; intro _)))
    | (extract_lets +onlyGivenNames x; clear_value x)
    | split
    | (rename_i hq; split at hq)
    | (rename_i hq; obtain ⟨_, rfl⟩ := Prod.mk.inj hq)

/-- May change: tnet, mem, poison, faults, power, radio, slot, mac, sec, gnss, rtc, evr, memctl, flash, core0, core1, lgy, tag, host, boot, pke, pins, objs, free, registers of block all. -/
theorem execRBoot_goes (who : Peer) (env : HostEnv) (z : State) : Goes 140737387692029 z (execRBoot who env z) := by
  unfold execRBoot
  repeat'
    first
    | with_reducible apply Moves.refl
    | with_reducible assumption
    | intro _
    | with_reducible apply goOn_goes
    | with_reducible apply ite_goes
    | ((with_reducible apply Moves.by (State.recFrom_moves _ _ _ _ _)); case hs => exact rfl)
    | (extract_lets +onlyGivenNames x; apply Moves.cut (m := 140737387692029) (z := z) x; (case' h => unfold x); (case' k => (clear_value x; intro _)))
    | (extract_lets +onlyGivenNames x; clear_value x)
    | split
    | (rename_i hq; split at hq)
    | (rename_i hq; obtain ⟨_, rfl⟩ := Prod.mk.inj hq)

/-- May change: boot. -/
theorem execRecoverySessionTimeout_goes (z : State) : Goes 1048576 z (execRecoverySessionTimeout z) := by
  unfold execRecoverySessionTimeout
  repeat'
    first
    | with_reducible apply Moves.refl
    | with_reducible assumption
    | intro _
    | with_reducible apply goOn_goes
    | with_reducible apply ite_goes
    | ((with_reducible apply Moves.by (State.setSession_moves _ _)); case hs => exact rfl)
    | (extract_lets +onlyGivenNames x; apply Moves.cut (m := 1048576) (z := z) x; (case' h => unfold x); (case' k => (clear_value x; intro _)))
    | (extract_lets +onlyGivenNames x; clear_value x)
    | split
    | (rename_i hq; split at hq)
    | (rename_i hq; obtain ⟨_, rfl⟩ := Prod.mk.inj hq)

end Sys2Proof.Machine
end

