-- ==== Sys2Proof/Laws/HostPlane.lean ====
section
/-! SUPPORT. What the operations of Machine/HostPlane.lean may change. -/
set_option linter.all false
namespace Sys2Proof.Machine

set_option linter.tactic.unusedName false

/-- May change: host. -/
theorem State.planeSend_moves (z : State) (who : HostId) (kind : Nat) (body : List Byte) : Moves 524288 z (State.planeSend z who kind body) := by
  unfold State.planeSend
  repeat'
    first
    | with_reducible apply Moves.refl
    | with_reducible assumption
    | intro _
    | ((with_reducible apply Moves.by (State.setHost_moves _ _)); case hs => exact rfl)
    | with_reducible apply ite_moves
    | (extract_lets +onlyGivenNames x; apply Moves.cut (m := 524288) (z := z) x; (case' h => unfold x); (case' k => (clear_value x; intro _)))
    | (extract_lets +onlyGivenNames x; clear_value x)
    | split
    | (rename_i hq; split at hq)
    | (rename_i hq; obtain ⟨_, rfl⟩ := Prod.mk.inj hq)

/-- May change: host. -/
theorem State.planeError_moves (z : State) (who : HostId) (handle : Nat) (st : OdpStatus) : Moves 524288 z (State.planeError z who handle st) := by
  unfold State.planeError
  repeat'
    first
    | with_reducible apply Moves.refl
    | with_reducible assumption
    | intro _
    | ((with_reducible apply Moves.by (State.setHost_moves _ _)); case hs => exact rfl)
    | ((with_reducible apply Moves.by (State.planeSend_moves _ _ _ _)); case hs => exact rfl)
    | with_reducible apply ite_moves
    | (extract_lets +onlyGivenNames x; apply Moves.cut (m := 524288) (z := z) x; (case' h => unfold x); (case' k => (clear_value x; intro _)))
    | (extract_lets +onlyGivenNames x; clear_value x)
    | split
    | (rename_i hq; split at hq)
    | (rename_i hq; obtain ⟨_, rfl⟩ := Prod.mk.inj hq)

/-- May change: power, evr, core0, core1, host, registers of block 0 11. -/
theorem State.planeStall_moves (z : State) : Moves 275012751392 z (State.planeStall z) := by
  unfold State.planeStall
  repeat'
    first
    | with_reducible apply Moves.refl
    | with_reducible assumption
    | intro _
    | ((with_reducible apply Moves.by (State.setHost_moves _ _)); case hs => exact rfl)
    | ((with_reducible apply Moves.by (State.raise_moves _ _)); case hs => exact rfl)
    | with_reducible apply ite_moves
    | (extract_lets +onlyGivenNames x; apply Moves.cut (m := 275012751392) (z := z) x; (case' h => unfold x); (case' k => (clear_value x; intro _)))
    | (extract_lets +onlyGivenNames x; clear_value x)
    | split
    | (rename_i hq; split at hq)
    | (rename_i hq; obtain ⟨_, rfl⟩ := Prod.mk.inj hq)

/-- May change: power, mac, evr, core0, core1, host, registers of block 0 5 11. -/
theorem State.planeDeliver_moves (z : State) : Moves 279307718944 z (State.planeDeliver z) := by
  unfold State.planeDeliver
  repeat'
    first
    | with_reducible apply Moves.refl
    | with_reducible assumption
    | intro _
    | ((with_reducible apply Moves.by (State.planeStall_moves _)); case hs => exact rfl)
    | ((with_reducible apply Moves.by (State.planeError_moves _ _ _ _)); case hs => exact rfl)
    | ((with_reducible apply Moves.by (State.setHost_moves _ _)); case hs => exact rfl)
    | ((with_reducible apply Goes.by (execDqRelease_goes _ _)); case hs => exact rfl)
    | ((with_reducible apply Moves.by (State.planeSend_moves _ _ _ _)); case hs => exact rfl)
    | (with_reducible apply State.after_moves)
    | with_reducible apply ite_moves
    | (extract_lets +onlyGivenNames x; apply Moves.cut (m := 279307718944) (z := z) x; (case' h => unfold x); (case' k => (clear_value x; intro _)))
    | (extract_lets +onlyGivenNames x; clear_value x)
    | split
    | (rename_i hq; split at hq)
    | (rename_i hq; obtain ⟨_, rfl⟩ := Prod.mk.inj hq)

/-- May change: mem, poison, power, mac, evr, core0, core1, host, free, registers of block 0 5 11 14. -/
theorem State.planeSubmit_moves (z : State) (who : HostId) (b : List Byte) : Moves 2478347751724 z (State.planeSubmit z who b) := by
  unfold State.planeSubmit
  repeat'
    first
    | with_reducible apply Moves.refl
    | with_reducible assumption
    | intro _
    | ((with_reducible apply Moves.by (State.busyHint_moves _)); case hs => exact rfl)
    | ((with_reducible apply State.busyHint_pair); (case hp => assumption); case hs => exact rfl)
    | ((with_reducible apply Goes.by (execTxPush_goes _ _)); case hs => exact rfl)
    | ((with_reducible apply Moves.by (State.planeError_moves _ _ _ _)); case hs => exact rfl)
    | ((with_reducible apply Moves.by (State.setHost_moves _ _)); case hs => exact rfl)
    | (with_reducible apply State.after_moves)
    | ((with_reducible apply Moves.by (State.devWrite_moves _ _ _)); case hs => exact rfl)
    | with_reducible apply ite_moves
    | (extract_lets +onlyGivenNames x; apply Moves.cut (m := 2478347751724) (z := z) x; (case' h => unfold x); (case' k => (clear_value x; intro _)))
    | (extract_lets +onlyGivenNames x; clear_value x)
    | split
    | (rename_i hq; split at hq)
    | (rename_i hq; obtain ⟨_, rfl⟩ := Prod.mk.inj hq)

/-- May change: power, mac, evr, core0, core1, host, registers of block 0 11. -/
theorem State.planeComplete_moves (z : State) : Moves 275012751648 z (State.planeComplete z) := by
  unfold State.planeComplete
  repeat'
    first
    | with_reducible apply Moves.refl
    | with_reducible assumption
    | intro _
    | ((with_reducible apply Moves.by (State.planeStall_moves _)); case hs => exact rfl)
    | ((with_reducible apply Moves.by (State.setHost_moves _ _)); case hs => exact rfl)
    | ((with_reducible apply Moves.by (State.planeSend_moves _ _ _ _)); case hs => exact rfl)
    | ((with_reducible apply Goes.by (execTxDonePop_goes _)); case hs => exact rfl)
    | (with_reducible apply State.after_moves)
    | with_reducible apply ite_moves
    | (extract_lets +onlyGivenNames x; apply Moves.cut (m := 275012751648) (z := z) x; (case' h => unfold x); (case' k => (clear_value x; intro _)))
    | (extract_lets +onlyGivenNames x; clear_value x)
    | split
    | (rename_i hq; split at hq)
    | (rename_i hq; obtain ⟨_, rfl⟩ := Prod.mk.inj hq)

/-- May change: mem, poison, power, mac, evr, core0, core1, host, free, registers of block 0 5 11 14. -/
theorem State.planeIn_moves (z : State) (who : HostId) (f : List Byte) : Moves 2478347751724 z (State.planeIn z who f) := by
  unfold State.planeIn
  repeat'
    first
    | with_reducible apply Moves.refl
    | with_reducible assumption
    | intro _
    | ((with_reducible apply Moves.by (State.planeSubmit_moves _ _ _)); case hs => exact rfl)
    | ((with_reducible apply Moves.bump); (case hf => (with_reducible first | apply HDP_CNT0_ACCEPTED_block | apply HDP_CNT0_CRC_ERR_block | apply HDP_CNT1_DISCARD_block)); case hm => exact rfl)
    | with_reducible apply ite_moves
    | (extract_lets +onlyGivenNames x; apply Moves.cut (m := 2478347751724) (z := z) x; (case' h => unfold x); (case' k => (clear_value x; intro _)))
    | (extract_lets +onlyGivenNames x; clear_value x)
    | split
    | (rename_i hq; split at hq)
    | (rename_i hq; obtain ⟨_, rfl⟩ := Prod.mk.inj hq)

end Sys2Proof.Machine
end

