-- ==== Sys2Proof/Laws/SloeOps.lean ====
section
/-! SUPPORT. What the operations of Machine/SloeOps.lean may change. -/
set_option linter.all false
namespace Sys2Proof.Machine

set_option linter.tactic.unusedName false

/-- The state in a result. -/
def BusRead.state : BusRead → State
  | .data _ _ s => s
  | .poison s => s
  | .error s => s
  | .stall s => s

theorem BusRead.data_moves {m : Nat} {r s : State} {a0 : List Byte} {a1 : Tag} (h : Moves m r s) : Moves m r (BusRead.data a0 a1 s).state := h

theorem BusRead.poison_moves {m : Nat} {r s : State} (h : Moves m r s) : Moves m r (BusRead.poison s).state := h

theorem BusRead.error_moves {m : Nat} {r s : State} (h : Moves m r s) : Moves m r (BusRead.error s).state := h

theorem BusRead.stall_moves {m : Nat} {r s : State} (h : Moves m r s) : Moves m r (BusRead.stall s).state := h

/-- The state in a result. -/
def BusWrite.state : BusWrite → State
  | .done s => s
  | .error s => s
  | .stall s => s

theorem BusWrite.done_moves {m : Nat} {r s : State} (h : Moves m r s) : Moves m r (BusWrite.done s).state := h

theorem BusWrite.error_moves {m : Nat} {r s : State} (h : Moves m r s) : Moves m r (BusWrite.error s).state := h

theorem BusWrite.stall_moves {m : Nat} {r s : State} (h : Moves m r s) : Moves m r (BusWrite.stall s).state := h

/-- The state in a result. -/
def Res.state : Res → State
  | .done s _ _ => s
  | .fail s _ => s
  | .wait s => s

theorem Res.done_moves {m : Nat} {r s : State} {a1 : Option Word} {a2 : List (Word × Bool)} (h : Moves m r s) : Moves m r (Res.done s a1 a2).state := h

theorem Res.fail_moves {m : Nat} {r s : State} {a1 : List Trap} (h : Moves m r s) : Moves m r (Res.fail s a1).state := h

theorem Res.wait_moves {m : Nat} {r s : State} (h : Moves m r s) : Moves m r (Res.wait s).state := h

/-- The state in a result. -/
def Loaded.state : Loaded → State
  | .data _ s => s
  | .fail s _ => s
  | .wait s => s

theorem Loaded.data_moves {m : Nat} {r s : State} {a0 : TWord} (h : Moves m r s) : Moves m r (Loaded.data a0 s).state := h

theorem Loaded.fail_moves {m : Nat} {r s : State} {a1 : List Trap} (h : Moves m r s) : Moves m r (Loaded.fail s a1).state := h

theorem Loaded.wait_moves {m : Nat} {r s : State} (h : Moves m r s) : Moves m r (Loaded.wait s).state := h

/-- The state in a result. -/
def Stored.state : Stored → State
  | .done s => s
  | .fail s _ => s
  | .wait s => s

theorem Stored.done_moves {m : Nat} {r s : State} (h : Moves m r s) : Moves m r (Stored.done s).state := h

theorem Stored.fail_moves {m : Nat} {r s : State} {a1 : List Trap} (h : Moves m r s) : Moves m r (Stored.fail s a1).state := h

theorem Stored.wait_moves {m : Nat} {r s : State} (h : Moves m r s) : Moves m r (Stored.wait s).state := h

/-- The state in a result. -/
def Fetched.state : Fetched → State
  | .ok s => s
  | .fail s _ => s
  | .wait s => s

theorem Fetched.ok_moves {m : Nat} {r s : State} (h : Moves m r s) : Moves m r (Fetched.ok s).state := h

theorem Fetched.fail_moves {m : Nat} {r s : State} {a1 : Trap} (h : Moves m r s) : Moves m r (Fetched.fail s a1).state := h

theorem Fetched.wait_moves {m : Nat} {r s : State} (h : Moves m r s) : Moves m r (Fetched.wait s).state := h

/-- May change: mem, poison, faults, power, mac, rtc, evr, memctl, flash, core0, core1, host, free, registers of block 0 4 7 9 11 12 13 18. -/
theorem State.coreRead_moves (z : State) (core1 rom : Bool) (a : Nat) (n : Nat) (parity : Nat) : Moves 37196715915580 z (State.coreRead z core1 rom a n parity).state := by
  unfold State.coreRead
  repeat'
    first
    | with_reducible apply Moves.refl
    | with_reducible assumption
    | intro _
    | with_reducible apply BusRead.data_moves
    | with_reducible apply BusRead.poison_moves
    | with_reducible apply BusRead.error_moves
    | with_reducible apply BusRead.stall_moves
    | ((with_reducible apply Moves.by (State.busInfo_moves _ _)); case hs => exact rfl)
    | ((with_reducible apply Moves.by (State.flashLoad_moves _ _ _)); case hs => exact rfl)
    | ((with_reducible apply State.flashLoad_data_pair); (case hp => assumption); case hs => exact rfl)
    | ((with_reducible apply State.flashLoad_poison_pair); (case hp => assumption); case hs => exact rfl)
    | ((with_reducible apply State.flashLoad_busError_pair); (case hp => assumption); case hs => exact rfl)
    | ((with_reducible apply State.flashLoad_stall_pair); (case hp => assumption); case hs => exact rfl)
    | ((with_reducible apply Moves.by (State.parityCheck_moves _ _ _)); case hs => exact rfl)
    | ((with_reducible apply Moves.by (State.regRead_moves _ _ _ _)); case hs => exact rfl)
    | ((with_reducible apply State.regRead_pair); (case hp => assumption); case hs => exact rfl)
    | with_reducible apply ite_moves
    | (extract_lets +onlyGivenNames x; apply Moves.cut (m := 37196715915580) (z := z) x; (case' h => unfold x); (case' k => (clear_value x; intro _)))
    | (extract_lets +onlyGivenNames x; clear_value x)
    | split
    | (rename_i hq; split at hq)
    | (rename_i hq; obtain ⟨_, rfl⟩ := Prod.mk.inj hq)

theorem State.coreRead_data_pair {z : State} {core1 rom : Bool} {a : Nat} {n : Nat} {parity : Nat} {b0 : List Byte} {b1 : Tag} {u0 : State} {m0 : Nat} {r0 : State} (hp : State.coreRead z core1 rom a n parity = .data b0 b1 u0) (hs : sub 37196715915580 m0 = true) (h : Moves m0 r0 z) : Moves m0 r0 u0 := by
  have g := State.coreRead_moves z core1 rom a n parity
  rw [hp] at g
  exact h.step g hs

theorem State.coreRead_poison_pair {z : State} {core1 rom : Bool} {a : Nat} {n : Nat} {parity : Nat} {u0 : State} {m0 : Nat} {r0 : State} (hp : State.coreRead z core1 rom a n parity = .poison u0) (hs : sub 37196715915580 m0 = true) (h : Moves m0 r0 z) : Moves m0 r0 u0 := by
  have g := State.coreRead_moves z core1 rom a n parity
  rw [hp] at g
  exact h.step g hs

theorem State.coreRead_error_pair {z : State} {core1 rom : Bool} {a : Nat} {n : Nat} {parity : Nat} {u0 : State} {m0 : Nat} {r0 : State} (hp : State.coreRead z core1 rom a n parity = .error u0) (hs : sub 37196715915580 m0 = true) (h : Moves m0 r0 z) : Moves m0 r0 u0 := by
  have g := State.coreRead_moves z core1 rom a n parity
  rw [hp] at g
  exact h.step g hs

theorem State.coreRead_stall_pair {z : State} {core1 rom : Bool} {a : Nat} {n : Nat} {parity : Nat} {u0 : State} {m0 : Nat} {r0 : State} (hp : State.coreRead z core1 rom a n parity = .stall u0) (hs : sub 37196715915580 m0 = true) (h : Moves m0 r0 z) : Moves m0 r0 u0 := by
  have g := State.coreRead_moves z core1 rom a n parity
  rw [hp] at g
  exact h.step g hs

/-- May change: tnet, mem, poison, faults, power, radio, slot, mac, sec, gnss, rtc, evr, memctl, flash, core0, core1, lgy, tag, host, pke, pins, free, registers of block all. -/
theorem State.coreWrite_moves (z : State) (core1 : Bool) (rom : Bool) (a : Nat) (bs : List Byte) (tag : Tag) : Moves 140737378254845 z (State.coreWrite z core1 rom a bs tag).state := by
  unfold State.coreWrite
  repeat'
    first
    | with_reducible apply Moves.refl
    | with_reducible assumption
    | intro _
    | with_reducible apply BusWrite.done_moves
    | with_reducible apply BusWrite.error_moves
    | with_reducible apply BusWrite.stall_moves
    | ((with_reducible apply Moves.by (State.busInfo_moves _ _)); case hs => exact rfl)
    | ((with_reducible apply Moves.by (State.setTag_moves _ _ _)); case hs => exact rfl)
    | ((with_reducible apply Moves.by (State.report_moves _ _ _ _ _ _)); case hs => exact rfl)
    | ((with_reducible apply Moves.by (State.regWrite_moves _ _ _ _)); case hs => exact rfl)
    | ((with_reducible apply State.regWrite_pair); (case hp => assumption); case hs => exact rfl)
    | ((with_reducible apply Moves.by (State.setBytes_moves _ _ _)); case hs => exact rfl)
    | ((with_reducible apply Moves.by (State.devWrite_moves _ _ _)); case hs => exact rfl)
    | ((with_reducible apply Moves.by (State.mergeStore_moves _ _ _ _)); case hs => exact rfl)
    | ((with_reducible apply State.mergeStore_done_pair); (case hp => assumption); case hs => exact rfl)
    | ((with_reducible apply State.mergeStore_stall_pair); (case hp => assumption); case hs => exact rfl)
    | ((with_reducible apply State.mergeStore_busError_pair); (case hp => assumption); case hs => exact rfl)
    | with_reducible apply ite_moves
    | (extract_lets +onlyGivenNames x; apply Moves.cut (m := 140737378254845) (z := z) x; (case' h => unfold x); (case' k => (clear_value x; intro _)))
    | (extract_lets +onlyGivenNames x; clear_value x)
    | split
    | (rename_i hq; split at hq)
    | (rename_i hq; obtain ⟨_, rfl⟩ := Prod.mk.inj hq)

theorem State.coreWrite_done_pair {z : State} {core1 : Bool} {rom : Bool} {a : Nat} {bs : List Byte} {tag : Tag} {u0 : State} {m0 : Nat} {r0 : State} (hp : State.coreWrite z core1 rom a bs tag = .done u0) (hs : sub 140737378254845 m0 = true) (h : Moves m0 r0 z) : Moves m0 r0 u0 := by
  have g := State.coreWrite_moves z core1 rom a bs tag
  rw [hp] at g
  exact h.step g hs

theorem State.coreWrite_error_pair {z : State} {core1 : Bool} {rom : Bool} {a : Nat} {bs : List Byte} {tag : Tag} {u0 : State} {m0 : Nat} {r0 : State} (hp : State.coreWrite z core1 rom a bs tag = .error u0) (hs : sub 140737378254845 m0 = true) (h : Moves m0 r0 z) : Moves m0 r0 u0 := by
  have g := State.coreWrite_moves z core1 rom a bs tag
  rw [hp] at g
  exact h.step g hs

theorem State.coreWrite_stall_pair {z : State} {core1 : Bool} {rom : Bool} {a : Nat} {bs : List Byte} {tag : Tag} {u0 : State} {m0 : Nat} {r0 : State} (hp : State.coreWrite z core1 rom a bs tag = .stall u0) (hs : sub 140737378254845 m0 = true) (h : Moves m0 r0 z) : Moves m0 r0 u0 := by
  have g := State.coreWrite_moves z core1 rom a bs tag
  rw [hp] at g
  exact h.step g hs

/-- May change: core0, core1. -/
theorem State.ok_moves (z : State) (c1 : Bool) (c : CoreState) : Moves 98304 z (State.ok z c1 c).state := by
  unfold State.ok
  repeat'
    first
    | with_reducible apply Moves.refl
    | with_reducible assumption
    | intro _
    | with_reducible apply Res.done_moves
    | with_reducible apply Res.fail_moves
    | with_reducible apply Res.wait_moves
    | ((with_reducible apply Moves.by (State.setCore_moves _ _ _)); case hs => exact rfl)
    | with_reducible apply ite_moves
    | (extract_lets +onlyGivenNames x; apply Moves.cut (m := 98304) (z := z) x; (case' h => unfold x); (case' k => (clear_value x; intro _)))
    | (extract_lets +onlyGivenNames x; clear_value x)
    | split
    | (rename_i hq; split at hq)
    | (rename_i hq; obtain ⟨_, rfl⟩ := Prod.mk.inj hq)

theorem State.ok_done_pair {z : State} {c1 : Bool} {c : CoreState} {b1 : Option Word} {b2 : List (Word × Bool)} {u0 : State} {m0 : Nat} {r0 : State} (hp : State.ok z c1 c = .done u0 b1 b2) (hs : sub 98304 m0 = true) (h : Moves m0 r0 z) : Moves m0 r0 u0 := by
  have g := State.ok_moves z c1 c
  rw [hp] at g
  exact h.step g hs

theorem State.ok_fail_pair {z : State} {c1 : Bool} {c : CoreState} {b1 : List Trap} {u0 : State} {m0 : Nat} {r0 : State} (hp : State.ok z c1 c = .fail u0 b1) (hs : sub 98304 m0 = true) (h : Moves m0 r0 z) : Moves m0 r0 u0 := by
  have g := State.ok_moves z c1 c
  rw [hp] at g
  exact h.step g hs

theorem State.ok_wait_pair {z : State} {c1 : Bool} {c : CoreState} {u0 : State} {m0 : Nat} {r0 : State} (hp : State.ok z c1 c = .wait u0) (hs : sub 98304 m0 = true) (h : Moves m0 r0 z) : Moves m0 r0 u0 := by
  have g := State.ok_moves z c1 c
  rw [hp] at g
  exact h.step g hs

/-- May change: core0, core1. -/
theorem State.okIf_moves (z : State) (c1 : Bool) (ts : List Trap) (c : CoreState) : Moves 98304 z (State.okIf z c1 ts c).state := by
  unfold State.okIf
  repeat'
    first
    | with_reducible apply Moves.refl
    | with_reducible assumption
    | intro _
    | with_reducible apply Res.done_moves
    | with_reducible apply Res.fail_moves
    | with_reducible apply Res.wait_moves
    | ((with_reducible apply Moves.by (State.ok_moves _ _ _)); case hs => exact rfl)
    | ((with_reducible apply State.ok_done_pair); (case hp => assumption); case hs => exact rfl)
    | ((with_reducible apply State.ok_fail_pair); (case hp => assumption); case hs => exact rfl)
    | ((with_reducible apply State.ok_wait_pair); (case hp => assumption); case hs => exact rfl)
    | with_reducible apply ite_moves
    | (extract_lets +onlyGivenNames x; apply Moves.cut (m := 98304) (z := z) x; (case' h => unfold x); (case' k => (clear_value x; intro _)))
    | (extract_lets +onlyGivenNames x; clear_value x)
    | split
    | (rename_i hq; split at hq)
    | (rename_i hq; obtain ⟨_, rfl⟩ := Prod.mk.inj hq)

theorem State.okIf_done_pair {z : State} {c1 : Bool} {ts : List Trap} {c : CoreState} {b1 : Option Word} {b2 : List (Word × Bool)} {u0 : State} {m0 : Nat} {r0 : State} (hp : State.okIf z c1 ts c = .done u0 b1 b2) (hs : sub 98304 m0 = true) (h : Moves m0 r0 z) : Moves m0 r0 u0 := by
  have g := State.okIf_moves z c1 ts c
  rw [hp] at g
  exact h.step g hs

theorem State.okIf_fail_pair {z : State} {c1 : Bool} {ts : List Trap} {c : CoreState} {b1 : List Trap} {u0 : State} {m0 : Nat} {r0 : State} (hp : State.okIf z c1 ts c = .fail u0 b1) (hs : sub 98304 m0 = true) (h : Moves m0 r0 z) : Moves m0 r0 u0 := by
  have g := State.okIf_moves z c1 ts c
  rw [hp] at g
  exact h.step g hs

theorem State.okIf_wait_pair {z : State} {c1 : Bool} {ts : List Trap} {c : CoreState} {u0 : State} {m0 : Nat} {r0 : State} (hp : State.okIf z c1 ts c = .wait u0) (hs : sub 98304 m0 = true) (h : Moves m0 r0 z) : Moves m0 r0 u0 := by
  have g := State.okIf_moves z c1 ts c
  rw [hp] at g
  exact h.step g hs

/-- May change: mem, poison, faults, power, mac, rtc, evr, memctl, flash, core0, core1, host, free, registers of block 0 4 7 9 11 12 13 18. -/
theorem State.load_moves (z : State) (c1 : Bool) (p : Word) (n : Nat) (parity : Nat) : Moves 37196715915580 z (State.load z c1 p n parity).state := by
  unfold State.load
  repeat'
    first
    | with_reducible apply Moves.refl
    | with_reducible assumption
    | intro _
    | with_reducible apply Loaded.data_moves
    | with_reducible apply Loaded.fail_moves
    | with_reducible apply Loaded.wait_moves
    | ((with_reducible apply Moves.by (State.coreRead_moves _ _ _ _ _ _)); case hs => exact rfl)
    | ((with_reducible apply State.coreRead_data_pair); (case hp => assumption); case hs => exact rfl)
    | ((with_reducible apply State.coreRead_poison_pair); (case hp => assumption); case hs => exact rfl)
    | ((with_reducible apply State.coreRead_error_pair); (case hp => assumption); case hs => exact rfl)
    | ((with_reducible apply State.coreRead_stall_pair); (case hp => assumption); case hs => exact rfl)
    | with_reducible apply ite_moves
    | (extract_lets +onlyGivenNames x; apply Moves.cut (m := 37196715915580) (z := z) x; (case' h => unfold x); (case' k => (clear_value x; intro _)))
    | (extract_lets +onlyGivenNames x; clear_value x)
    | split
    | (rename_i hq; split at hq)
    | (rename_i hq; obtain ⟨_, rfl⟩ := Prod.mk.inj hq)

theorem State.load_data_pair {z : State} {c1 : Bool} {p : Word} {n : Nat} {parity : Nat} {b0 : TWord} {u0 : State} {m0 : Nat} {r0 : State} (hp : State.load z c1 p n parity = .data b0 u0) (hs : sub 37196715915580 m0 = true) (h : Moves m0 r0 z) : Moves m0 r0 u0 := by
  have g := State.load_moves z c1 p n parity
  rw [hp] at g
  exact h.step g hs

theorem State.load_fail_pair {z : State} {c1 : Bool} {p : Word} {n : Nat} {parity : Nat} {b1 : List Trap} {u0 : State} {m0 : Nat} {r0 : State} (hp : State.load z c1 p n parity = .fail u0 b1) (hs : sub 37196715915580 m0 = true) (h : Moves m0 r0 z) : Moves m0 r0 u0 := by
  have g := State.load_moves z c1 p n parity
  rw [hp] at g
  exact h.step g hs

theorem State.load_wait_pair {z : State} {c1 : Bool} {p : Word} {n : Nat} {parity : Nat} {u0 : State} {m0 : Nat} {r0 : State} (hp : State.load z c1 p n parity = .wait u0) (hs : sub 37196715915580 m0 = true) (h : Moves m0 r0 z) : Moves m0 r0 u0 := by
  have g := State.load_moves z c1 p n parity
  rw [hp] at g
  exact h.step g hs

/-- May change: core0, core1. -/
theorem State.holdStoreErr_moves (z : State) (c1 : Bool) (a : Nat) : Moves 98304 z (State.holdStoreErr z c1 a) := by
  unfold State.holdStoreErr
  repeat'
    first
    | with_reducible apply Moves.refl
    | with_reducible assumption
    | intro _
    | ((with_reducible apply Moves.by (State.setCore_moves _ _ _)); case hs => exact rfl)
    | with_reducible apply ite_moves
    | (extract_lets +onlyGivenNames x; apply Moves.cut (m := 98304) (z := z) x; (case' h => unfold x); (case' k => (clear_value x; intro _)))
    | (extract_lets +onlyGivenNames x; clear_value x)
    | split
    | (rename_i hq; split at hq)
    | (rename_i hq; obtain ⟨_, rfl⟩ := Prod.mk.inj hq)

/-- May change: tnet, mem, poison, faults, power, radio, slot, mac, sec, gnss, rtc, evr, memctl, flash, core0, core1, lgy, tag, host, pke, pins, free, registers of block all. -/
theorem State.storeRaw_moves (z : State) (c1 : Bool) (p : Word) (n : Nat) (v : TWord) (parity : Nat) : Moves 140737378254845 z (State.storeRaw z c1 p n v parity).state := by
  unfold State.storeRaw
  repeat'
    first
    | with_reducible apply Moves.refl
    | with_reducible assumption
    | intro _
    | with_reducible apply Stored.done_moves
    | with_reducible apply Stored.fail_moves
    | with_reducible apply Stored.wait_moves
    | ((with_reducible apply Moves.by (State.parityCheck_moves _ _ _)); case hs => exact rfl)
    | ((with_reducible apply Moves.by (State.holdStoreErr_moves _ _ _)); case hs => exact rfl)
    | ((with_reducible apply Moves.by (State.coreWrite_moves _ _ _ _ _ _)); case hs => exact rfl)
    | ((with_reducible apply State.coreWrite_done_pair); (case hp => assumption); case hs => exact rfl)
    | ((with_reducible apply State.coreWrite_error_pair); (case hp => assumption); case hs => exact rfl)
    | ((with_reducible apply State.coreWrite_stall_pair); (case hp => assumption); case hs => exact rfl)
    | with_reducible apply ite_moves
    | (extract_lets +onlyGivenNames x; apply Moves.cut (m := 140737378254845) (z := z) x; (case' h => unfold x); (case' k => (clear_value x; intro _)))
    | (extract_lets +onlyGivenNames x; clear_value x)
    | split
    | (rename_i hq; split at hq)
    | (rename_i hq; obtain ⟨_, rfl⟩ := Prod.mk.inj hq)

theorem State.storeRaw_done_pair {z : State} {c1 : Bool} {p : Word} {n : Nat} {v : TWord} {parity : Nat} {u0 : State} {m0 : Nat} {r0 : State} (hp : State.storeRaw z c1 p n v parity = .done u0) (hs : sub 140737378254845 m0 = true) (h : Moves m0 r0 z) : Moves m0 r0 u0 := by
  have g := State.storeRaw_moves z c1 p n v parity
  rw [hp] at g
  exact h.step g hs

theorem State.storeRaw_fail_pair {z : State} {c1 : Bool} {p : Word} {n : Nat} {v : TWord} {parity : Nat} {b1 : List Trap} {u0 : State} {m0 : Nat} {r0 : State} (hp : State.storeRaw z c1 p n v parity = .fail u0 b1) (hs : sub 140737378254845 m0 = true) (h : Moves m0 r0 z) : Moves m0 r0 u0 := by
  have g := State.storeRaw_moves z c1 p n v parity
  rw [hp] at g
  exact h.step g hs

theorem State.storeRaw_wait_pair {z : State} {c1 : Bool} {p : Word} {n : Nat} {v : TWord} {parity : Nat} {u0 : State} {m0 : Nat} {r0 : State} (hp : State.storeRaw z c1 p n v parity = .wait u0) (hs : sub 140737378254845 m0 = true) (h : Moves m0 r0 z) : Moves m0 r0 u0 := by
  have g := State.storeRaw_moves z c1 p n v parity
  rw [hp] at g
  exact h.step g hs

/-- May change: tnet, mem, poison, faults, power, radio, slot, mac, sec, gnss, rtc, evr, memctl, flash, core0, core1, lgy, tag, host, pke, pins, free, registers of block all. -/
theorem State.store_moves (z : State) (c1 : Bool) (p : Word) (n : Nat) (v : TWord) (k : Nat) (parity : Nat) : Moves 140737378254845 z (State.store z c1 p n v k parity).state := by
  unfold State.store
  repeat'
    first
    | with_reducible apply Moves.refl
    | with_reducible assumption
    | intro _
    | with_reducible apply Stored.done_moves
    | with_reducible apply Stored.fail_moves
    | with_reducible apply Stored.wait_moves
    | ((with_reducible apply Moves.by (State.storeRaw_moves _ _ _ _ _ _)); case hs => exact rfl)
    | ((with_reducible apply State.storeRaw_done_pair); (case hp => assumption); case hs => exact rfl)
    | ((with_reducible apply State.storeRaw_fail_pair); (case hp => assumption); case hs => exact rfl)
    | ((with_reducible apply State.storeRaw_wait_pair); (case hp => assumption); case hs => exact rfl)
    | with_reducible apply ite_moves
    | (extract_lets +onlyGivenNames x; apply Moves.cut (m := 140737378254845) (z := z) x; (case' h => unfold x); (case' k => (clear_value x; intro _)))
    | (extract_lets +onlyGivenNames x; clear_value x)
    | split
    | (rename_i hq; split at hq)
    | (rename_i hq; obtain ⟨_, rfl⟩ := Prod.mk.inj hq)

theorem State.store_done_pair {z : State} {c1 : Bool} {p : Word} {n : Nat} {v : TWord} {k : Nat} {parity : Nat} {u0 : State} {m0 : Nat} {r0 : State} (hp : State.store z c1 p n v k parity = .done u0) (hs : sub 140737378254845 m0 = true) (h : Moves m0 r0 z) : Moves m0 r0 u0 := by
  have g := State.store_moves z c1 p n v k parity
  rw [hp] at g
  exact h.step g hs

theorem State.store_fail_pair {z : State} {c1 : Bool} {p : Word} {n : Nat} {v : TWord} {k : Nat} {parity : Nat} {b1 : List Trap} {u0 : State} {m0 : Nat} {r0 : State} (hp : State.store z c1 p n v k parity = .fail u0 b1) (hs : sub 140737378254845 m0 = true) (h : Moves m0 r0 z) : Moves m0 r0 u0 := by
  have g := State.store_moves z c1 p n v k parity
  rw [hp] at g
  exact h.step g hs

theorem State.store_wait_pair {z : State} {c1 : Bool} {p : Word} {n : Nat} {v : TWord} {k : Nat} {parity : Nat} {u0 : State} {m0 : Nat} {r0 : State} (hp : State.store z c1 p n v k parity = .wait u0) (hs : sub 140737378254845 m0 = true) (h : Moves m0 r0 z) : Moves m0 r0 u0 := by
  have g := State.store_moves z c1 p n v k parity
  rw [hp] at g
  exact h.step g hs

/-- May change: mem, poison, faults, power, mac, rtc, evr, memctl, flash, core0, core1, host, free, registers of block 0 4 7 9 11 12 13 18. -/
theorem State.vector_moves (z : State) (c1 : Bool) (index : Nat) : Moves 37196715915580 z (State.vector z c1 index).2 := by
  unfold State.vector
  repeat'
    first
    | with_reducible apply Moves.refl
    | with_reducible assumption
    | intro _
    | ((with_reducible apply Moves.by (State.load_moves _ _ _ _ _)); case hs => exact rfl)
    | ((with_reducible apply State.load_data_pair); (case hp => assumption); case hs => exact rfl)
    | ((with_reducible apply State.load_fail_pair); (case hp => assumption); case hs => exact rfl)
    | ((with_reducible apply State.load_wait_pair); (case hp => assumption); case hs => exact rfl)
    | with_reducible apply ite_moves
    | with_reducible apply ite_snd_moves
    | (extract_lets +onlyGivenNames x; apply Moves.cut (m := 37196715915580) (z := z) x; (case' h => unfold x); (case' k => (clear_value x; intro _)))
    | (extract_lets +onlyGivenNames x; clear_value x)
    | split
    | (rename_i hq; split at hq)
    | (rename_i hq; obtain ⟨_, rfl⟩ := Prod.mk.inj hq)

theorem State.vector_pair {z : State} {c1 : Bool} {index : Nat} {b1 : Option Word} {u0 : State} {m0 : Nat} {r0 : State} (hp : State.vector z c1 index = (b1, u0)) (hs : sub 37196715915580 m0 = true) (h : Moves m0 r0 z) : Moves m0 r0 u0 := by
  have g := State.vector_moves z c1 index
  rw [hp] at g
  exact h.step g hs

/-- May change: mem, poison, faults, power, mac, rtc, evr, memctl, flash, core0, core1, host, free, registers of block 0 4 7 9 11 12 13 18. -/
theorem State.coreEnter_moves (z : State) (c1 : Bool) (epc : Word) (ecause : Nat) (eaddr : Nat) (index : Nat) (ipl : Option Nat) : Moves 37196715915580 z (State.coreEnter z c1 epc ecause eaddr index ipl) := by
  unfold State.coreEnter
  repeat'
    first
    | with_reducible apply Moves.refl
    | with_reducible assumption
    | intro _
    | ((with_reducible apply Moves.by (State.coreLockUp_moves _ _ _)); case hs => exact rfl)
    | ((with_reducible apply Moves.by (State.setCore_moves _ _ _)); case hs => exact rfl)
    | ((with_reducible apply Moves.by (State.vector_moves _ _ _)); case hs => exact rfl)
    | ((with_reducible apply State.vector_pair); (case hp => assumption); case hs => exact rfl)
    | with_reducible apply ite_moves
    | (extract_lets +onlyGivenNames x; apply Moves.cut (m := 37196715915580) (z := z) x; (case' h => unfold x); (case' k => (clear_value x; intro _)))
    | (extract_lets +onlyGivenNames x; clear_value x)
    | split
    | (rename_i hq; split at hq)
    | (rename_i hq; obtain ⟨_, rfl⟩ := Prod.mk.inj hq)

/-- May change: mem, poison, faults, power, mac, rtc, evr, memctl, flash, core0, core1, host, free, registers of block 0 4 7 9 11 12 13 18. -/
theorem State.trapEntry_moves (z : State) (c1 : Bool) (epc : Word) (t : Trap) : Moves 37196715915580 z (State.trapEntry z c1 epc t) := by
  unfold State.trapEntry
  repeat'
    first
    | with_reducible apply Moves.refl
    | with_reducible assumption
    | intro _
    | ((with_reducible apply Moves.by (State.coreLockUp_moves _ _ _)); case hs => exact rfl)
    | ((with_reducible apply Moves.by (State.coreEnter_moves _ _ _ _ _ _ _)); case hs => exact rfl)
    | with_reducible apply ite_moves
    | (extract_lets +onlyGivenNames x; apply Moves.cut (m := 37196715915580) (z := z) x; (case' h => unfold x); (case' k => (clear_value x; intro _)))
    | (extract_lets +onlyGivenNames x; clear_value x)
    | split
    | (rename_i hq; split at hq)
    | (rename_i hq; obtain ⟨_, rfl⟩ := Prod.mk.inj hq)

/-- May change: power, evr, core0, core1, registers of block 0 11. -/
theorem State.coreHalt_moves (z : State) (c1 : Bool) (condition : Option Nat) : Moves 275012227104 z (State.coreHalt z c1 condition) := by
  unfold State.coreHalt
  repeat'
    first
    | with_reducible apply Moves.refl
    | with_reducible assumption
    | intro _
    | ((with_reducible apply Moves.by (State.raise_moves _ _)); case hs => exact rfl)
    | ((with_reducible apply Moves.by (State.setCore_moves _ _ _)); case hs => exact rfl)
    | with_reducible apply ite_moves
    | (extract_lets +onlyGivenNames x; apply Moves.cut (m := 275012227104) (z := z) x; (case' h => unfold x); (case' k => (clear_value x; intro _)))
    | (extract_lets +onlyGivenNames x; clear_value x)
    | split
    | (rename_i hq; split at hq)
    | (rename_i hq; obtain ⟨_, rfl⟩ := Prod.mk.inj hq)

/-- May change: mem, poison, faults, power, mac, rtc, evr, memctl, flash, core0, core1, host, free, registers of block 0 4 7 9 11 12 13 18. -/
theorem State.takeLine_moves (z : State) (c1 : Bool) (n : Nat) : Moves 37196715915580 z (State.takeLine z c1 n) := by
  unfold State.takeLine
  repeat'
    first
    | with_reducible apply Moves.refl
    | with_reducible assumption
    | intro _
    | ((with_reducible apply Moves.by (State.setCore_moves _ _ _)); case hs => exact rfl)
    | ((with_reducible apply Moves.by (State.coreEnter_moves _ _ _ _ _ _ _)); case hs => exact rfl)
    | with_reducible apply ite_moves
    | (extract_lets +onlyGivenNames x; apply Moves.cut (m := 37196715915580) (z := z) x; (case' h => unfold x); (case' k => (clear_value x; intro _)))
    | (extract_lets +onlyGivenNames x; clear_value x)
    | split
    | (rename_i hq; split at hq)
    | (rename_i hq; obtain ⟨_, rfl⟩ := Prod.mk.inj hq)

/-- May change: mem, poison, faults, power, mac, rtc, evr, memctl, flash, core0, core1, host, free, registers of block 0 4 7 9 11 12 13 18. -/
theorem State.reportStore_moves (z : State) (c1 : Bool) (a : Nat) : Moves 37196715915580 z (State.reportStore z c1 a) := by
  unfold State.reportStore
  repeat'
    first
    | with_reducible apply Moves.refl
    | with_reducible assumption
    | intro _
    | ((with_reducible apply Moves.by (State.setCore_moves _ _ _)); case hs => exact rfl)
    | ((with_reducible apply Moves.by (State.coreEnter_moves _ _ _ _ _ _ _)); case hs => exact rfl)
    | with_reducible apply ite_moves
    | (extract_lets +onlyGivenNames x; apply Moves.cut (m := 37196715915580) (z := z) x; (case' h => unfold x); (case' k => (clear_value x; intro _)))
    | (extract_lets +onlyGivenNames x; clear_value x)
    | split
    | (rename_i hq; split at hq)
    | (rename_i hq; obtain ⟨_, rfl⟩ := Prod.mk.inj hq)

/-- May change: mem, poison, faults, power, mac, rtc, evr, memctl, flash, core0, core1, host, free, registers of block 0 4 7 9 11 12 13 18. -/
theorem State.coreBoundary_moves (z : State) (c1 : Bool) : Moves 37196715915580 z ((State.coreBoundary z c1).getD z) := by
  unfold State.coreBoundary
  repeat'
    first
    | with_reducible apply Moves.refl
    | with_reducible assumption
    | intro _
    | with_reducible apply some_moves
    | with_reducible apply none_moves
    | ((with_reducible apply Moves.by (State.coreHalt_moves _ _ _)); case hs => exact rfl)
    | ((with_reducible apply Moves.by (State.reportStore_moves _ _ _)); case hs => exact rfl)
    | ((with_reducible apply Moves.by (State.takeLine_moves _ _ _)); case hs => exact rfl)
    | with_reducible apply ite_moves
    | (extract_lets +onlyGivenNames x; apply Moves.cut (m := 37196715915580) (z := z) x; (case' h => unfold x); (case' k => (clear_value x; intro _)))
    | (extract_lets +onlyGivenNames x; clear_value x)
    | split
    | (rename_i hq; split at hq)
    | (rename_i hq; obtain ⟨_, rfl⟩ := Prod.mk.inj hq)

theorem State.coreBoundary_pair {z : State} {c1 : Bool} {u0 : State} {m0 : Nat} {r0 : State} (hp : State.coreBoundary z c1 = some u0) (hs : sub 37196715915580 m0 = true) (h : Moves m0 r0 z) : Moves m0 r0 u0 := by
  have g := State.coreBoundary_moves z c1
  rw [hp] at g
  exact h.step g hs

/-- May change: mem, poison, faults, power, mac, rtc, evr, memctl, flash, core0, core1, host, free, registers of block 0 4 7 9 11 12 13 18. -/
theorem State.debugStop_moves (z : State) (c1 : Bool) (condition : Nat) (eaddr : Nat) : Moves 37196715915580 z (State.debugStop z c1 condition eaddr) := by
  unfold State.debugStop
  repeat'
    first
    | with_reducible apply Moves.refl
    | with_reducible assumption
    | intro _
    | ((with_reducible apply Moves.by (State.trapEntry_moves _ _ _ _)); case hs => exact rfl)
    | ((with_reducible apply Moves.by (State.coreHalt_moves _ _ _)); case hs => exact rfl)
    | with_reducible apply ite_moves
    | (extract_lets +onlyGivenNames x; apply Moves.cut (m := 37196715915580) (z := z) x; (case' h => unfold x); (case' k => (clear_value x; intro _)))
    | (extract_lets +onlyGivenNames x; clear_value x)
    | split
    | (rename_i hq; split at hq)
    | (rename_i hq; obtain ⟨_, rfl⟩ := Prod.mk.inj hq)

/-- May change: mem, poison, faults, power, mac, rtc, evr, memctl, flash, core0, core1, host, free, registers of block 0 4 7 9 11 12 13 18. -/
theorem State.fetch_moves (z : State) (c1 : Bool) : Moves 37196715915580 z (State.fetch z c1).state := by
  unfold State.fetch
  repeat'
    first
    | with_reducible apply Moves.refl
    | with_reducible assumption
    | intro _
    | with_reducible apply Fetched.ok_moves
    | with_reducible apply Fetched.fail_moves
    | with_reducible apply Fetched.wait_moves
    | ((with_reducible apply Moves.by (State.busInfo_moves _ _)); case hs => exact rfl)
    | ((with_reducible apply Moves.by (State.coreRead_moves _ _ _ _ _ _)); case hs => exact rfl)
    | ((with_reducible apply State.coreRead_data_pair); (case hp => assumption); case hs => exact rfl)
    | ((with_reducible apply State.coreRead_poison_pair); (case hp => assumption); case hs => exact rfl)
    | ((with_reducible apply State.coreRead_error_pair); (case hp => assumption); case hs => exact rfl)
    | ((with_reducible apply State.coreRead_stall_pair); (case hp => assumption); case hs => exact rfl)
    | with_reducible apply ite_moves
    | (extract_lets +onlyGivenNames x; apply Moves.cut (m := 37196715915580) (z := z) x; (case' h => unfold x); (case' k => (clear_value x; intro _)))
    | (extract_lets +onlyGivenNames x; clear_value x)
    | split
    | (rename_i hq; split at hq)
    | (rename_i hq; obtain ⟨_, rfl⟩ := Prod.mk.inj hq)

theorem State.fetch_ok_pair {z : State} {c1 : Bool} {u0 : State} {m0 : Nat} {r0 : State} (hp : State.fetch z c1 = .ok u0) (hs : sub 37196715915580 m0 = true) (h : Moves m0 r0 z) : Moves m0 r0 u0 := by
  have g := State.fetch_moves z c1
  rw [hp] at g
  exact h.step g hs

theorem State.fetch_fail_pair {z : State} {c1 : Bool} {b1 : Trap} {u0 : State} {m0 : Nat} {r0 : State} (hp : State.fetch z c1 = .fail u0 b1) (hs : sub 37196715915580 m0 = true) (h : Moves m0 r0 z) : Moves m0 r0 u0 := by
  have g := State.fetch_moves z c1
  rw [hp] at g
  exact h.step g hs

theorem State.fetch_wait_pair {z : State} {c1 : Bool} {u0 : State} {m0 : Nat} {r0 : State} (hp : State.fetch z c1 = .wait u0) (hs : sub 37196715915580 m0 = true) (h : Moves m0 r0 z) : Moves m0 r0 u0 := by
  have g := State.fetch_moves z c1
  rw [hp] at g
  exact h.step g hs

/-- May change: mem, poison, faults, power, mac, rtc, evr, memctl, flash, core0, core1, host, free, registers of block 0 4 7 9 11 12 13 18. -/
theorem State.takeTrap_moves (z : State) (c1 : Bool) (t : Trap) : Moves 37196715915580 z (State.takeTrap z c1 t) := by
  unfold State.takeTrap
  repeat'
    first
    | with_reducible apply Moves.refl
    | with_reducible assumption
    | intro _
    | ((with_reducible apply Moves.by (State.debugStop_moves _ _ _ _)); case hs => exact rfl)
    | ((with_reducible apply Moves.by (State.trapEntry_moves _ _ _ _)); case hs => exact rfl)
    | ((with_reducible apply Moves.by (State.setCore_moves _ _ _)); case hs => exact rfl)
    | with_reducible apply ite_moves
    | (extract_lets +onlyGivenNames x; apply Moves.cut (m := 37196715915580) (z := z) x; (case' h => unfold x); (case' k => (clear_value x; intro _)))
    | (extract_lets +onlyGivenNames x; clear_value x)
    | split
    | (rename_i hq; split at hq)
    | (rename_i hq; obtain ⟨_, rfl⟩ := Prod.mk.inj hq)

/-- Changes what the instruction changes, and what its completion or its exception changes. -/
theorem State.retire_moves {m : Nat} {x s : State} {c1 : Bool} {k : Kind} {r : Res} (hm : sub 37196715915580 m = true) (h0 : Moves m x s)
    (h : Moves m x r.state) : Moves m x (s.retire c1 k r) := by
  have ht {u : State} (g : Moves m x u) (t : Trap) : Moves m x (u.takeTrap c1 t) :=
    g.step ((State.takeTrap_moves _ _ _).mono (b := 37196715915580) rfl) hm
  have hd {u : State} (g : Moves m x u) (n e : Nat) : Moves m x (u.debugStop c1 n e) :=
    g.step ((State.debugStop_moves _ _ _ _).mono (b := 37196715915580) rfl) hm
  cases r with
  | wait s1 => exact h
  | fail s1 ts =>
    have h : Moves m x s1 := h
    unfold State.retire
    dsimp only
    split
    · exact ht h _
    · exact h
  | done s1 target touched =>
    have h : Moves m x s1 := h
    have hc : ∀ c, Moves m x (s1.setCore c1 c) := fun c => h.step ((State.setCore_moves _ _ _).mono (b := 37196715915580) rfl) hm
    unfold State.retire
    dsimp only
    split
    · exact ht h0 _
    · generalize (s1.core c1).advance k target = c
      split
      · exact hd (hc c) _ _
      · exact ite_moves (hd (hc c) _ _) (hc c)

/-- Changes what the boundary, the fetch, the instruction and its completion change. -/
theorem State.issue_moves {m : Nat} {x s : State} {c1 : Bool} {k : Kind} {body : State → CoreState → Res} (hm : sub 37196715915580 m = true)
    (h : Moves m x s) (hb : ∀ u c, Moves m x u → Moves m x (body u c).state) : Moves m x (s.issue c1 k body) := by
  unfold State.issue
  split
  · exact h
  · generalize hq : s.coreBoundary c1 = o
    cases o with
    | some u => exact (State.coreBoundary_pair hq (m0 := 37196715915580) rfl Moves.refl).mono' h hm
    | none =>
      dsimp only
      split
      · exact h.step ((State.debugStop_moves _ _ _ _).mono (b := 37196715915580) rfl) hm
      · generalize hf : s.fetch c1 = o
        cases o with
        | wait u => exact (State.fetch_wait_pair hf (m0 := 37196715915580) rfl Moves.refl).mono' h hm
        | fail u t =>
          exact ((State.fetch_fail_pair hf (m0 := 37196715915580) rfl Moves.refl).mono' h hm).step ((State.takeTrap_moves _ _ _).mono (b := 37196715915580) rfl) hm
        | ok u =>
          have hu : Moves m x u := (State.fetch_ok_pair hf (m0 := 37196715915580) rfl Moves.refl).mono' h hm
          exact State.retire_moves (sub_trans (b := 37196715915580) rfl hm) hu (hb _ _ hu)

theorem State.plain_goes {m : Nat} {x s : State} {c1 : Bool} {body : State → CoreState → Res} (hs : sub 37196715915580 m = true)
    (h : Moves m x s) (hb : ∀ u c, Moves m x u → Moves m x (body u c).state) : Goes m x (s.plain c1 body) :=
  goOn_goes (State.issue_moves hs h hb)

theorem State.branch_goes {m : Nat} {x s : State} {c1 : Bool} {body : State → CoreState → Res} (hs : sub 37196715915580 m = true)
    (h : Moves m x s) (hb : ∀ u c, Moves m x u → Moves m x (body u c).state) : Goes m x (s.branch c1 body) :=
  goOn_goes (State.issue_moves hs h hb)

end Sys2Proof.Machine
end

