-- ==== Sys2Proof/Laws/SloeAlu.lean ====
section
/-! SUPPORT. What the operations of Machine/SloeAlu.lean may change. -/
set_option linter.all false
namespace Sys2Proof.Machine

set_option linter.tactic.unusedName false

/-- May change: mem, poison, faults, power, mac, rtc, evr, memctl, flash, core0, core1, host, free, registers of block 0 4 7 9 11 12 13 18. -/
theorem State.intPair_goes (z : State) (c1 : Bool) (ga : Nat) (gb : Nat) (f : CoreState → Word → Word → CoreState) : Goes 37196715915580 z (State.intPair z c1 ga gb f) := by
  unfold State.intPair
  repeat'
    first
    | with_reducible apply Moves.refl
    | with_reducible assumption
    | intro _
    | with_reducible apply goOn_goes
    | with_reducible apply ite_goes
    | ((with_reducible apply Moves.by (State.okIf_moves _ _ _ _)); case hs => exact rfl)
    | ((with_reducible apply State.okIf_done_pair); (case hp => assumption); case hs => exact rfl)
    | ((with_reducible apply State.okIf_fail_pair); (case hp => assumption); case hs => exact rfl)
    | ((with_reducible apply State.okIf_wait_pair); (case hp => assumption); case hs => exact rfl)
    | ((with_reducible apply State.plain_goes); case hs => exact rfl)
    | (extract_lets +onlyGivenNames x; apply Moves.cut (m := 37196715915580) (z := z) x; (case' h => unfold x); (case' k => (clear_value x; intro _)))
    | (extract_lets +onlyGivenNames x; clear_value x)
    | split
    | (rename_i hq; split at hq)
    | (rename_i hq; obtain ⟨_, rfl⟩ := Prod.mk.inj hq)

/-- May change: mem, poison, faults, power, mac, rtc, evr, memctl, flash, core0, core1, host, free, registers of block 0 4 7 9 11 12 13 18. -/
theorem State.intOp_goes (z : State) (c1 : Bool) (gd : Nat) (ga : Nat) (gb : Nat) (f : Word → Word → Word) : Goes 37196715915580 z (State.intOp z c1 gd ga gb f) := by
  unfold State.intOp
  repeat'
    first
    | with_reducible apply Moves.refl
    | with_reducible assumption
    | intro _
    | with_reducible apply goOn_goes
    | with_reducible apply ite_goes
    | ((with_reducible apply Goes.by (State.intPair_goes _ _ _ _ _)); case hs => exact rfl)
    | (extract_lets +onlyGivenNames x; apply Moves.cut (m := 37196715915580) (z := z) x; (case' h => unfold x); (case' k => (clear_value x; intro _)))
    | (extract_lets +onlyGivenNames x; clear_value x)
    | split
    | (rename_i hq; split at hq)
    | (rename_i hq; obtain ⟨_, rfl⟩ := Prod.mk.inj hq)

/-- May change: mem, poison, faults, power, mac, rtc, evr, memctl, flash, core0, core1, host, free, registers of block 0 4 7 9 11 12 13 18. -/
theorem State.divOp_goes (z : State) (c1 : Bool) (gd : Nat) (ga : Nat) (gb : Nat) (f : Word → Word → Word) (v : Word → Word → Bool) : Goes 37196715915580 z (State.divOp z c1 gd ga gb f v) := by
  unfold State.divOp
  repeat'
    first
    | with_reducible apply Moves.refl
    | with_reducible assumption
    | intro _
    | with_reducible apply goOn_goes
    | with_reducible apply ite_goes
    | ((with_reducible apply Moves.by (State.okIf_moves _ _ _ _)); case hs => exact rfl)
    | ((with_reducible apply State.okIf_done_pair); (case hp => assumption); case hs => exact rfl)
    | ((with_reducible apply State.okIf_fail_pair); (case hp => assumption); case hs => exact rfl)
    | ((with_reducible apply State.okIf_wait_pair); (case hp => assumption); case hs => exact rfl)
    | ((with_reducible apply State.plain_goes); case hs => exact rfl)
    | (extract_lets +onlyGivenNames x; apply Moves.cut (m := 37196715915580) (z := z) x; (case' h => unfold x); (case' k => (clear_value x; intro _)))
    | (extract_lets +onlyGivenNames x; clear_value x)
    | split
    | (rename_i hq; split at hq)
    | (rename_i hq; obtain ⟨_, rfl⟩ := Prod.mk.inj hq)

/-- May change: mem, poison, faults, power, mac, rtc, evr, memctl, flash, core0, core1, host, free, registers of block 0 4 7 9 11 12 13 18. -/
theorem State.logicOp_goes (z : State) (c1 : Bool) (gd : Nat) (ga : Nat) (gb : Nat) (mask : Bool) (f : Word → Word → Word) : Goes 37196715915580 z (State.logicOp z c1 gd ga gb mask f) := by
  unfold State.logicOp
  repeat'
    first
    | with_reducible apply Moves.refl
    | with_reducible assumption
    | intro _
    | with_reducible apply goOn_goes
    | with_reducible apply ite_goes
    | ((with_reducible apply Moves.by (State.okIf_moves _ _ _ _)); case hs => exact rfl)
    | ((with_reducible apply State.okIf_done_pair); (case hp => assumption); case hs => exact rfl)
    | ((with_reducible apply State.okIf_fail_pair); (case hp => assumption); case hs => exact rfl)
    | ((with_reducible apply State.okIf_wait_pair); (case hp => assumption); case hs => exact rfl)
    | ((with_reducible apply State.plain_goes); case hs => exact rfl)
    | with_reducible apply ite_moves
    | (extract_lets +onlyGivenNames x; apply Moves.cut (m := 37196715915580) (z := z) x; (case' h => unfold x); (case' k => (clear_value x; intro _)))
    | (extract_lets +onlyGivenNames x; clear_value x)
    | split
    | (rename_i hq; split at hq)
    | (rename_i hq; obtain ⟨_, rfl⟩ := Prod.mk.inj hq)

/-- May change: mem, poison, faults, power, mac, rtc, evr, memctl, flash, core0, core1, host, free, registers of block 0 4 7 9 11 12 13 18. -/
theorem State.logicImm_goes (z : State) (c1 : Bool) (gd : Nat) (ga : Nat) (imm : Nat) (f : Word → Word → Word) : Goes 37196715915580 z (State.logicImm z c1 gd ga imm f) := by
  unfold State.logicImm
  repeat'
    first
    | with_reducible apply Moves.refl
    | with_reducible assumption
    | intro _
    | with_reducible apply goOn_goes
    | with_reducible apply ite_goes
    | ((with_reducible apply Moves.by (State.okIf_moves _ _ _ _)); case hs => exact rfl)
    | ((with_reducible apply State.okIf_done_pair); (case hp => assumption); case hs => exact rfl)
    | ((with_reducible apply State.okIf_fail_pair); (case hp => assumption); case hs => exact rfl)
    | ((with_reducible apply State.okIf_wait_pair); (case hp => assumption); case hs => exact rfl)
    | ((with_reducible apply State.plain_goes); case hs => exact rfl)
    | (extract_lets +onlyGivenNames x; apply Moves.cut (m := 37196715915580) (z := z) x; (case' h => unfold x); (case' k => (clear_value x; intro _)))
    | (extract_lets +onlyGivenNames x; clear_value x)
    | split
    | (rename_i hq; split at hq)
    | (rename_i hq; obtain ⟨_, rfl⟩ := Prod.mk.inj hq)

/-- May change: mem, poison, faults, power, mac, rtc, evr, memctl, flash, core0, core1, host, free, registers of block 0 4 7 9 11 12 13 18. -/
theorem State.shiftOp_goes (z : State) (c1 : Bool) (gd : Nat) (ga : Nat) (gb : Nat) (kind : Nat) : Goes 37196715915580 z (State.shiftOp z c1 gd ga gb kind) := by
  unfold State.shiftOp
  repeat'
    first
    | with_reducible apply Moves.refl
    | with_reducible assumption
    | intro _
    | with_reducible apply goOn_goes
    | with_reducible apply ite_goes
    | ((with_reducible apply Moves.by (State.okIf_moves _ _ _ _)); case hs => exact rfl)
    | ((with_reducible apply State.okIf_done_pair); (case hp => assumption); case hs => exact rfl)
    | ((with_reducible apply State.okIf_fail_pair); (case hp => assumption); case hs => exact rfl)
    | ((with_reducible apply State.okIf_wait_pair); (case hp => assumption); case hs => exact rfl)
    | ((with_reducible apply State.plain_goes); case hs => exact rfl)
    | (extract_lets +onlyGivenNames x; apply Moves.cut (m := 37196715915580) (z := z) x; (case' h => unfold x); (case' k => (clear_value x; intro _)))
    | (extract_lets +onlyGivenNames x; clear_value x)
    | split
    | (rename_i hq; split at hq)
    | (rename_i hq; obtain ⟨_, rfl⟩ := Prod.mk.inj hq)

/-- May change: core0, core1. -/
theorem State.moveOp_moves (z : State) (c1 : Bool) (gd : Nat) (ga : Nat) (ts : List Trap) (d : Int) : Moves 98304 z (State.moveOp z c1 gd ga ts d).state := by
  unfold State.moveOp
  repeat'
    first
    | with_reducible apply Moves.refl
    | with_reducible assumption
    | intro _
    | with_reducible apply Res.done_moves
    | with_reducible apply Res.fail_moves
    | with_reducible apply Res.wait_moves
    | ((with_reducible apply Moves.by (State.okIf_moves _ _ _ _)); case hs => exact rfl)
    | ((with_reducible apply State.okIf_done_pair); (case hp => assumption); case hs => exact rfl)
    | ((with_reducible apply State.okIf_fail_pair); (case hp => assumption); case hs => exact rfl)
    | ((with_reducible apply State.okIf_wait_pair); (case hp => assumption); case hs => exact rfl)
    | with_reducible apply ite_moves
    | (extract_lets +onlyGivenNames x; apply Moves.cut (m := 98304) (z := z) x; (case' h => unfold x); (case' k => (clear_value x; intro _)))
    | (extract_lets +onlyGivenNames x; clear_value x)
    | split
    | (rename_i hq; split at hq)
    | (rename_i hq; obtain ⟨_, rfl⟩ := Prod.mk.inj hq)

theorem State.moveOp_done_pair {z : State} {c1 : Bool} {gd : Nat} {ga : Nat} {ts : List Trap} {d : Int} {b1 : Option Word} {b2 : List (Word × Bool)} {u0 : State} {m0 : Nat} {r0 : State} (hp : State.moveOp z c1 gd ga ts d = .done u0 b1 b2) (hs : sub 98304 m0 = true) (h : Moves m0 r0 z) : Moves m0 r0 u0 := by
  have g := State.moveOp_moves z c1 gd ga ts d
  rw [hp] at g
  exact h.step g hs

theorem State.moveOp_fail_pair {z : State} {c1 : Bool} {gd : Nat} {ga : Nat} {ts : List Trap} {d : Int} {b1 : List Trap} {u0 : State} {m0 : Nat} {r0 : State} (hp : State.moveOp z c1 gd ga ts d = .fail u0 b1) (hs : sub 98304 m0 = true) (h : Moves m0 r0 z) : Moves m0 r0 u0 := by
  have g := State.moveOp_moves z c1 gd ga ts d
  rw [hp] at g
  exact h.step g hs

theorem State.moveOp_wait_pair {z : State} {c1 : Bool} {gd : Nat} {ga : Nat} {ts : List Trap} {d : Int} {u0 : State} {m0 : Nat} {r0 : State} (hp : State.moveOp z c1 gd ga ts d = .wait u0) (hs : sub 98304 m0 = true) (h : Moves m0 r0 z) : Moves m0 r0 u0 := by
  have g := State.moveOp_moves z c1 gd ga ts d
  rw [hp] at g
  exact h.step g hs

/-- May change: core0, core1, free. -/
theorem State.sysRead_moves (z : State) (c1 : Bool) (arg : Nat) : Moves 16875520 z (State.sysRead z c1 arg).2 := by
  unfold State.sysRead
  dsimp only
  repeat'
    first
    | with_reducible apply Moves.refl
    | with_reducible assumption
    | intro _
    | ((with_reducible apply Moves.by (State.setCore_moves _ _ _)); case hs => exact rfl)
    | ((with_reducible apply Moves.by (State.drawFree_moves _)); case hs => exact rfl)
    | ((with_reducible apply State.drawFree_pair); (case hp => assumption); case hs => exact rfl)
    | with_reducible apply ite_moves
    | with_reducible apply ite_snd_moves
    | (extract_lets +onlyGivenNames x; apply Moves.cut (m := 16875520) (z := z) x; (case' h => unfold x); (case' k => (clear_value x; intro _)))
    | (extract_lets +onlyGivenNames x; clear_value x)
    | split
    | (rename_i hq; split at hq)
    | (rename_i hq; obtain ⟨_, rfl⟩ := Prod.mk.inj hq)

theorem State.sysRead_pair {z : State} {c1 : Bool} {arg : Nat} {b1 : TWord} {u0 : State} {m0 : Nat} {r0 : State} (hp : State.sysRead z c1 arg = (b1, u0)) (hs : sub 16875520 m0 = true) (h : Moves m0 r0 z) : Moves m0 r0 u0 := by
  have g := State.sysRead_moves z c1 arg
  rw [hp] at g
  exact h.step g hs

/-- May change: core1. -/
theorem State.windowReg_moves (z : State) (i : Nat) (v : Nat) : Moves 65536 z (State.windowReg z i v) := by
  unfold State.windowReg
  repeat'
    first
    | with_reducible apply Moves.refl
    | with_reducible assumption
    | intro _
    | ((with_reducible apply Moves.by (State.writeWindow_moves _ _ _)); case hs => exact rfl)
    | with_reducible apply ite_moves
    | (extract_lets +onlyGivenNames x; apply Moves.cut (m := 65536) (z := z) x; (case' h => unfold x); (case' k => (clear_value x; intro _)))
    | (extract_lets +onlyGivenNames x; clear_value x)
    | split
    | (rename_i hq; split at hq)
    | (rename_i hq; obtain ⟨_, rfl⟩ := Prod.mk.inj hq)

/-- May change: core1. -/
theorem State.coreCtrl_moves (z : State) (v : Nat) : Moves 65536 z (State.coreCtrl z v) := by
  unfold State.coreCtrl
  repeat'
    first
    | with_reducible apply Moves.refl
    | with_reducible assumption
    | intro _
    | ((with_reducible apply Moves.by (State.core1Stop_moves _)); case hs => exact rfl)
    | ((with_reducible apply Moves.by (State.core1Start_moves _)); case hs => exact rfl)
    | ((with_reducible apply Moves.by (State.with_core1_moves _ _)); case hs => exact rfl)
    | rw [State.with_core1_eq]
    | with_reducible apply ite_moves
    | (extract_lets +onlyGivenNames x; apply Moves.cut (m := 65536) (z := z) x; (case' h => unfold x); (case' k => (clear_value x; intro _)))
    | (extract_lets +onlyGivenNames x; clear_value x)
    | split
    | (rename_i hq; split at hq)
    | (rename_i hq; obtain ⟨_, rfl⟩ := Prod.mk.inj hq)

/-- May change: core0, core1. -/
theorem State.sysWrite_moves (z : State) (c1 : Bool) (arg : Nat) (x : TWord) : Moves 98304 z (State.sysWrite z c1 arg x) := by
  unfold State.sysWrite
  repeat'
    first
    | with_reducible apply Moves.refl
    | with_reducible assumption
    | intro _
    | ((with_reducible apply Moves.by (State.windowReg_moves _ _ _)); case hs => exact rfl)
    | ((with_reducible apply Moves.by (State.setCore_moves _ _ _)); case hs => exact rfl)
    | ((with_reducible apply Moves.by (State.coreCtrl_moves _ _)); case hs => exact rfl)
    | ((with_reducible apply Moves.by (State.with_core1_moves _ _)); case hs => exact rfl)
    | rw [State.with_core1_eq]
    | with_reducible apply ite_moves
    | (extract_lets +onlyGivenNames x; apply Moves.cut (m := 98304) (z := z) x; (case' h => unfold x); (case' k => (clear_value x; intro _)))
    | (extract_lets +onlyGivenNames x; clear_value x)
    | split
    | (rename_i hq; split at hq)
    | (rename_i hq; obtain ⟨_, rfl⟩ := Prod.mk.inj hq)

/-- May change: power, core0, core1. -/
theorem State.coreWait_moves (z : State) (c1 : Bool) : Moves 98336 z (State.coreWait z c1) := by
  unfold State.coreWait
  repeat'
    first
    | with_reducible apply Moves.refl
    | with_reducible assumption
    | intro _
    | ((with_reducible apply Moves.by (State.setCore_moves _ _ _)); case hs => exact rfl)
    | ((with_reducible apply Moves.by (State.with_power_moves _ _)); case hs => exact rfl)
    | rw [State.with_power_eq]
    | with_reducible apply ite_moves
    | (extract_lets +onlyGivenNames x; apply Moves.cut (m := 98336) (z := z) x; (case' h => unfold x); (case' k => (clear_value x; intro _)))
    | (extract_lets +onlyGivenNames x; clear_value x)
    | split
    | (rename_i hq; split at hq)
    | (rename_i hq; obtain ⟨_, rfl⟩ := Prod.mk.inj hq)

end Sys2Proof.Machine
end

