-- ==== Sys2Proof/Laws/Sloe.lean ====
section
/-! SUPPORT. What the operations of Machine/Sloe.lean may change. -/
set_option linter.all false
namespace Sys2Proof.Machine

set_option linter.tactic.unusedName false

/-- May change: mem, poison, faults, power, mac, rtc, evr, memctl, flash, core0, core1, host, free, registers of block 0 4 7 9 11 12 13 18. -/
theorem State.loadOp_goes (z : State) (c1 : Bool) (gd : Nat) (ga : Nat) (imm : Nat) (n : Nat) (sext : Bool) (parity : Nat) : Goes 37196715915580 z (State.loadOp z c1 gd ga imm n sext parity) := by
  unfold State.loadOp
  repeat'
    first
    | with_reducible apply Moves.refl
    | with_reducible assumption
    | intro _
    | with_reducible apply goOn_goes
    | with_reducible apply ite_goes
    | with_reducible apply Res.done_moves
    | with_reducible apply Res.fail_moves
    | with_reducible apply Res.wait_moves
    | ((with_reducible apply Moves.by (State.load_moves _ _ _ _ _)); case hs => exact rfl)
    | ((with_reducible apply State.load_data_pair); (case hp => assumption); case hs => exact rfl)
    | ((with_reducible apply State.load_fail_pair); (case hp => assumption); case hs => exact rfl)
    | ((with_reducible apply State.load_wait_pair); (case hp => assumption); case hs => exact rfl)
    | ((with_reducible apply Moves.by (State.setCore_moves _ _ _)); case hs => exact rfl)
    | ((with_reducible apply State.plain_goes); case hs => exact rfl)
    | with_reducible apply ite_moves
    | (extract_lets +onlyGivenNames x; apply Moves.cut (m := 37196715915580) (z := z) x; (case' h => unfold x); (case' k => (clear_value x; intro _)))
    | (extract_lets +onlyGivenNames x; clear_value x)
    | split
    | (rename_i hq; split at hq)
    | (rename_i hq; obtain ⟨_, rfl⟩ := Prod.mk.inj hq)

/-- May change: tnet, mem, poison, faults, power, radio, slot, mac, sec, gnss, rtc, evr, memctl, flash, core0, core1, lgy, tag, host, pke, pins, free, registers of block all. -/
theorem State.storeOp_goes (z : State) (c1 : Bool) (gd : Nat) (ga : Nat) (imm : Nat) (n : Nat) (parity : Nat) : Goes 140737378254845 z (State.storeOp z c1 gd ga imm n parity) := by
  unfold State.storeOp
  repeat'
    first
    | with_reducible apply Moves.refl
    | with_reducible assumption
    | intro _
    | with_reducible apply goOn_goes
    | with_reducible apply ite_goes
    | with_reducible apply Res.done_moves
    | with_reducible apply Res.fail_moves
    | with_reducible apply Res.wait_moves
    | ((with_reducible apply Moves.by (State.store_moves _ _ _ _ _ _ _)); case hs => exact rfl)
    | ((with_reducible apply State.store_done_pair); (case hp => assumption); case hs => exact rfl)
    | ((with_reducible apply State.store_fail_pair); (case hp => assumption); case hs => exact rfl)
    | ((with_reducible apply State.store_wait_pair); (case hp => assumption); case hs => exact rfl)
    | ((with_reducible apply State.plain_goes); case hs => exact rfl)
    | with_reducible apply ite_moves
    | (extract_lets +onlyGivenNames x; apply Moves.cut (m := 140737378254845) (z := z) x; (case' h => unfold x); (case' k => (clear_value x; intro _)))
    | (extract_lets +onlyGivenNames x; clear_value x)
    | split
    | (rename_i hq; split at hq)
    | (rename_i hq; obtain ⟨_, rfl⟩ := Prod.mk.inj hq)

theorem State.pushFrom_moves {m : Nat} {x s : State} {c1 : Bool} {p : Word} {ws : List TWord} {touched : List (Word × Bool)}
    {k : State → Word → List (Word × Bool) → Res} (hm : sub 140737378254845 m = true) (h : Moves m x s)
    (hk : ∀ u p t, Moves m x u → Moves m x (k u p t).state) : Moves m x (s.pushFrom c1 p ws touched k).state := by
  induction ws generalizing s p touched with
  | nil => exact hk _ _ _ h
  | cons w ws ih =>
    unfold State.pushFrom
    dsimp only
    generalize hq : (if offOf p < 4 then Stored.fail s ((s.core c1).reach p (-4) 4) else s.store c1 (moveBy p (-4)) 4 w 3 0) = o
    have ho : Moves m x o.state := by
      rw [← hq]
      split
      · exact h
      · exact h.step (State.store_moves _ _ _ _ _ _ _) hm
    cases o with
    | fail u ts => exact ho
    | wait u => exact ho
    | done u => exact ih ho

theorem State.pushWords_moves {m : Nat} {x s : State} {c1 : Bool} {ws : List TWord} {k : State → CoreState → Res}
    (hm : sub 140737378254845 m = true) (h : Moves m x s) (hk : ∀ u c, Moves m x u → Moves m x (k u c).state) :
    Moves m x (s.pushWords c1 ws k).state := by
  unfold State.pushWords
  dsimp only
  split
  · refine State.pushFrom_moves hm h fun u p t hu => ?_
    have hr := hk u ((u.core c1).setReg 15 ⟨.ptr, p⟩) hu
    generalize k u ((u.core c1).setReg 15 ⟨.ptr, p⟩) = r at hr ⊢
    cases r <;> exact hr
  · exact h

theorem State.popFrom_moves {m : Nat} {x s : State} {c1 : Bool} {n : Nat} {p : Word} {parity : List Nat} {ws : List TWord}
    {touched : List (Word × Bool)} {k : State → Word → List TWord → List (Word × Bool) → Res} (hm : sub 37196715915580 m = true)
    (h : Moves m x s) (hk : ∀ u p ws t, Moves m x u → Moves m x (k u p ws t).state) :
    Moves m x (s.popFrom c1 n p parity ws touched k).state := by
  induction n generalizing s p parity ws touched with
  | zero => exact hk _ _ _ _ h
  | succ n ih =>
    unfold State.popFrom
    dsimp only
    generalize hq : (if offOf p = 0 ∧ (!ws.isEmpty) = true then Loaded.fail s ((s.core c1).reach (moveBy p (-4)) 4 2)
      else s.load c1 p 4 (parity.headD 0)) = o
    have ho : Moves m x o.state := by
      rw [← hq]
      split
      · exact h
      · exact h.step (State.load_moves _ _ _ _ _) hm
    cases o with
    | fail u ts => exact ho
    | wait u => exact ho
    | data w u => exact ih ho

theorem State.popRegs_moves {m : Nat} {x s : State} {c1 : Bool} {mk : Nat} {p : Word} {parity : List Nat}
    {k : State → Word → List TWord → List (Word × Bool) → Res} (hm : sub 37196715915580 m = true)
    (h : Moves m x s) (hk : ∀ u p ws t, Moves m x u → Moves m x (k u p ws t).state) :
    Moves m x (s.popRegs c1 mk p parity k).state := State.popFrom_moves hm h hk

/-- May change: mem, poison, faults, power, mac, rtc, evr, memctl, flash, core0, core1, host, free, registers of block 0 4 7 9 11 12 13 18. -/
theorem State.branchIf_goes (z : State) (c1 : Bool) (ga : Nat) (v : Nat) (off : Nat) : Goes 37196715915580 z (State.branchIf z c1 ga v off) := by
  unfold State.branchIf
  repeat'
    first
    | with_reducible apply Moves.refl
    | with_reducible assumption
    | intro _
    | with_reducible apply goOn_goes
    | with_reducible apply ite_goes
    | with_reducible apply Res.done_moves
    | with_reducible apply Res.fail_moves
    | with_reducible apply Res.wait_moves
    | ((with_reducible apply State.branch_goes); case hs => exact rfl)
    | with_reducible apply ite_moves
    | (extract_lets +onlyGivenNames x; apply Moves.cut (m := 37196715915580) (z := z) x; (case' h => unfold x); (case' k => (clear_value x; intro _)))
    | (extract_lets +onlyGivenNames x; clear_value x)
    | split
    | (rename_i hq; split at hq)
    | (rename_i hq; obtain ⟨_, rfl⟩ := Prod.mk.inj hq)

/-- May change: host. -/
theorem State.debugData_moves (z : State) (w : Word) : Moves 524288 z (State.debugData z w) := by
  unfold State.debugData
  repeat'
    first
    | with_reducible apply Moves.refl
    | with_reducible assumption
    | intro _
    | with_reducible apply Res.done_moves
    | with_reducible apply Res.fail_moves
    | with_reducible apply Res.wait_moves
    | ((with_reducible apply Moves.by (State.with_host_moves _ _)); case hs => exact rfl)
    | rw [State.with_host_eq]
    | with_reducible apply ite_moves
    | (extract_lets +onlyGivenNames x; apply Moves.cut (m := 524288) (z := z) x; (case' h => unfold x); (case' k => (clear_value x; intro _)))
    | (extract_lets +onlyGivenNames x; clear_value x)
    | split
    | (rename_i hq; split at hq)
    | (rename_i hq; obtain ⟨_, rfl⟩ := Prod.mk.inj hq)

/-- May change: tnet, mem, poison, faults, power, radio, slot, mac, sec, gnss, rtc, evr, memctl, flash, core0, core1, lgy, tag, host, pke, pins, free, registers of block all. -/
theorem State.debugPort_moves (z : State) (c1 : Bool) (op : DebugOp) : Moves 140737378254845 z (State.debugPort z c1 op) := by
  unfold State.debugPort
  repeat'
    first
    | with_reducible apply Moves.refl
    | with_reducible assumption
    | intro _
    | with_reducible apply Res.done_moves
    | with_reducible apply Res.fail_moves
    | with_reducible apply Res.wait_moves
    | ((with_reducible apply Moves.by (State.sysRead_moves _ _ _)); case hs => exact rfl)
    | ((with_reducible apply State.sysRead_pair); (case hp => assumption); case hs => exact rfl)
    | ((with_reducible apply Moves.by (State.load_moves _ _ _ _ _)); case hs => exact rfl)
    | ((with_reducible apply State.load_data_pair); (case hp => assumption); case hs => exact rfl)
    | ((with_reducible apply State.load_fail_pair); (case hp => assumption); case hs => exact rfl)
    | ((with_reducible apply State.load_wait_pair); (case hp => assumption); case hs => exact rfl)
    | ((with_reducible apply Moves.by (State.coreHalt_moves _ _ _)); case hs => exact rfl)
    | ((with_reducible apply Moves.by (State.store_moves _ _ _ _ _ _ _)); case hs => exact rfl)
    | ((with_reducible apply State.store_done_pair); (case hp => assumption); case hs => exact rfl)
    | ((with_reducible apply State.store_fail_pair); (case hp => assumption); case hs => exact rfl)
    | ((with_reducible apply State.store_wait_pair); (case hp => assumption); case hs => exact rfl)
    | ((with_reducible apply Moves.by (State.setCore_moves _ _ _)); case hs => exact rfl)
    | ((with_reducible apply Moves.by (State.sysWrite_moves _ _ _ _)); case hs => exact rfl)
    | ((with_reducible apply Moves.by (State.debugData_moves _ _)); case hs => exact rfl)
    | ((with_reducible apply Moves.by (State.with_power_moves _ _)); case hs => exact rfl)
    | rw [State.with_power_eq]
    | with_reducible apply ite_moves
    | (extract_lets +onlyGivenNames x; apply Moves.cut (m := 140737378254845) (z := z) x; (case' h => unfold x); (case' k => (clear_value x; intro _)))
    | (extract_lets +onlyGivenNames x; clear_value x)
    | split
    | (rename_i hq; split at hq)
    | (rename_i hq; obtain ⟨_, rfl⟩ := Prod.mk.inj hq)

/-- May change: mem, poison, faults, power, mac, rtc, evr, memctl, flash, core0, core1, host, free, registers of block 0 4 7 9 11 12 13 18. -/
theorem execAdd_goes (core1 : Bool) (gd : Fin 16) (ga : Fin 16) (gb : Fin 16) (z : State) : Goes 37196715915580 z (execAdd core1 gd ga gb z) := by
  unfold execAdd
  repeat'
    first
    | with_reducible apply Moves.refl
    | with_reducible assumption
    | intro _
    | with_reducible apply goOn_goes
    | with_reducible apply ite_goes
    | with_reducible apply Res.done_moves
    | with_reducible apply Res.fail_moves
    | with_reducible apply Res.wait_moves
    | ((with_reducible apply Goes.by (State.intPair_goes _ _ _ _ _)); case hs => exact rfl)
    | (extract_lets +onlyGivenNames x; apply Moves.cut (m := 37196715915580) (z := z) x; (case' h => unfold x); (case' k => (clear_value x; intro _)))
    | (extract_lets +onlyGivenNames x; clear_value x)
    | split
    | (rename_i hq; split at hq)
    | (rename_i hq; obtain ⟨_, rfl⟩ := Prod.mk.inj hq)

/-- May change: mem, poison, faults, power, mac, rtc, evr, memctl, flash, core0, core1, host, free, registers of block 0 4 7 9 11 12 13 18. -/
theorem execSub_goes (core1 : Bool) (gd : Fin 16) (ga : Fin 16) (gb : Fin 16) (z : State) : Goes 37196715915580 z (execSub core1 gd ga gb z) := by
  unfold execSub
  repeat'
    first
    | with_reducible apply Moves.refl
    | with_reducible assumption
    | intro _
    | with_reducible apply goOn_goes
    | with_reducible apply ite_goes
    | with_reducible apply Res.done_moves
    | with_reducible apply Res.fail_moves
    | with_reducible apply Res.wait_moves
    | ((with_reducible apply Goes.by (State.intPair_goes _ _ _ _ _)); case hs => exact rfl)
    | (extract_lets +onlyGivenNames x; apply Moves.cut (m := 37196715915580) (z := z) x; (case' h => unfold x); (case' k => (clear_value x; intro _)))
    | (extract_lets +onlyGivenNames x; clear_value x)
    | split
    | (rename_i hq; split at hq)
    | (rename_i hq; obtain ⟨_, rfl⟩ := Prod.mk.inj hq)

/-- May change: mem, poison, faults, power, mac, rtc, evr, memctl, flash, core0, core1, host, free, registers of block 0 4 7 9 11 12 13 18. -/
theorem execAddc_goes (core1 : Bool) (gd : Fin 16) (ga : Fin 16) (gb : Fin 16) (z : State) : Goes 37196715915580 z (execAddc core1 gd ga gb z) := by
  unfold execAddc
  repeat'
    first
    | with_reducible apply Moves.refl
    | with_reducible assumption
    | intro _
    | with_reducible apply goOn_goes
    | with_reducible apply ite_goes
    | with_reducible apply Res.done_moves
    | with_reducible apply Res.fail_moves
    | with_reducible apply Res.wait_moves
    | ((with_reducible apply Goes.by (State.intPair_goes _ _ _ _ _)); case hs => exact rfl)
    | (extract_lets +onlyGivenNames x; apply Moves.cut (m := 37196715915580) (z := z) x; (case' h => unfold x); (case' k => (clear_value x; intro _)))
    | (extract_lets +onlyGivenNames x; clear_value x)
    | split
    | (rename_i hq; split at hq)
    | (rename_i hq; obtain ⟨_, rfl⟩ := Prod.mk.inj hq)

/-- May change: mem, poison, faults, power, mac, rtc, evr, memctl, flash, core0, core1, host, free, registers of block 0 4 7 9 11 12 13 18. -/
theorem execSubc_goes (core1 : Bool) (gd : Fin 16) (ga : Fin 16) (gb : Fin 16) (z : State) : Goes 37196715915580 z (execSubc core1 gd ga gb z) := by
  unfold execSubc
  repeat'
    first
    | with_reducible apply Moves.refl
    | with_reducible assumption
    | intro _
    | with_reducible apply goOn_goes
    | with_reducible apply ite_goes
    | with_reducible apply Res.done_moves
    | with_reducible apply Res.fail_moves
    | with_reducible apply Res.wait_moves
    | ((with_reducible apply Goes.by (State.intPair_goes _ _ _ _ _)); case hs => exact rfl)
    | (extract_lets +onlyGivenNames x; apply Moves.cut (m := 37196715915580) (z := z) x; (case' h => unfold x); (case' k => (clear_value x; intro _)))
    | (extract_lets +onlyGivenNames x; clear_value x)
    | split
    | (rename_i hq; split at hq)
    | (rename_i hq; obtain ⟨_, rfl⟩ := Prod.mk.inj hq)

/-- May change: mem, poison, faults, power, mac, rtc, evr, memctl, flash, core0, core1, host, free, registers of block 0 4 7 9 11 12 13 18. -/
theorem execAnd_goes (core1 : Bool) (gd : Fin 16) (ga : Fin 16) (gb : Fin 16) (z : State) : Goes 37196715915580 z (execAnd core1 gd ga gb z) := by
  unfold execAnd
  repeat'
    first
    | with_reducible apply Moves.refl
    | with_reducible assumption
    | intro _
    | with_reducible apply goOn_goes
    | with_reducible apply ite_goes
    | with_reducible apply Res.done_moves
    | with_reducible apply Res.fail_moves
    | with_reducible apply Res.wait_moves
    | ((with_reducible apply Goes.by (State.logicOp_goes _ _ _ _ _ _ _)); case hs => exact rfl)
    | (extract_lets +onlyGivenNames x; apply Moves.cut (m := 37196715915580) (z := z) x; (case' h => unfold x); (case' k => (clear_value x; intro _)))
    | (extract_lets +onlyGivenNames x; clear_value x)
    | split
    | (rename_i hq; split at hq)
    | (rename_i hq; obtain ⟨_, rfl⟩ := Prod.mk.inj hq)

/-- May change: mem, poison, faults, power, mac, rtc, evr, memctl, flash, core0, core1, host, free, registers of block 0 4 7 9 11 12 13 18. -/
theorem execOr_goes (core1 : Bool) (gd : Fin 16) (ga : Fin 16) (gb : Fin 16) (z : State) : Goes 37196715915580 z (execOr core1 gd ga gb z) := by
  unfold execOr
  repeat'
    first
    | with_reducible apply Moves.refl
    | with_reducible assumption
    | intro _
    | with_reducible apply goOn_goes
    | with_reducible apply ite_goes
    | with_reducible apply Res.done_moves
    | with_reducible apply Res.fail_moves
    | with_reducible apply Res.wait_moves
    | ((with_reducible apply Goes.by (State.logicOp_goes _ _ _ _ _ _ _)); case hs => exact rfl)
    | (extract_lets +onlyGivenNames x; apply Moves.cut (m := 37196715915580) (z := z) x; (case' h => unfold x); (case' k => (clear_value x; intro _)))
    | (extract_lets +onlyGivenNames x; clear_value x)
    | split
    | (rename_i hq; split at hq)
    | (rename_i hq; obtain ⟨_, rfl⟩ := Prod.mk.inj hq)

/-- May change: mem, poison, faults, power, mac, rtc, evr, memctl, flash, core0, core1, host, free, registers of block 0 4 7 9 11 12 13 18. -/
theorem execXor_goes (core1 : Bool) (gd : Fin 16) (ga : Fin 16) (gb : Fin 16) (z : State) : Goes 37196715915580 z (execXor core1 gd ga gb z) := by
  unfold execXor
  repeat'
    first
    | with_reducible apply Moves.refl
    | with_reducible assumption
    | intro _
    | with_reducible apply goOn_goes
    | with_reducible apply ite_goes
    | with_reducible apply Res.done_moves
    | with_reducible apply Res.fail_moves
    | with_reducible apply Res.wait_moves
    | ((with_reducible apply Goes.by (State.logicOp_goes _ _ _ _ _ _ _)); case hs => exact rfl)
    | (extract_lets +onlyGivenNames x; apply Moves.cut (m := 37196715915580) (z := z) x; (case' h => unfold x); (case' k => (clear_value x; intro _)))
    | (extract_lets +onlyGivenNames x; clear_value x)
    | split
    | (rename_i hq; split at hq)
    | (rename_i hq; obtain ⟨_, rfl⟩ := Prod.mk.inj hq)

/-- May change: mem, poison, faults, power, mac, rtc, evr, memctl, flash, core0, core1, host, free, registers of block 0 4 7 9 11 12 13 18. -/
theorem execAndn_goes (core1 : Bool) (gd : Fin 16) (ga : Fin 16) (gb : Fin 16) (z : State) : Goes 37196715915580 z (execAndn core1 gd ga gb z) := by
  unfold execAndn
  repeat'
    first
    | with_reducible apply Moves.refl
    | with_reducible assumption
    | intro _
    | with_reducible apply goOn_goes
    | with_reducible apply ite_goes
    | with_reducible apply Res.done_moves
    | with_reducible apply Res.fail_moves
    | with_reducible apply Res.wait_moves
    | ((with_reducible apply Goes.by (State.logicOp_goes _ _ _ _ _ _ _)); case hs => exact rfl)
    | (extract_lets +onlyGivenNames x; apply Moves.cut (m := 37196715915580) (z := z) x; (case' h => unfold x); (case' k => (clear_value x; intro _)))
    | (extract_lets +onlyGivenNames x; clear_value x)
    | split
    | (rename_i hq; split at hq)
    | (rename_i hq; obtain ⟨_, rfl⟩ := Prod.mk.inj hq)

/-- May change: mem, poison, faults, power, mac, rtc, evr, memctl, flash, core0, core1, host, free, registers of block 0 4 7 9 11 12 13 18. -/
theorem execShl_goes (core1 : Bool) (gd : Fin 16) (ga : Fin 16) (gb : Fin 16) (z : State) : Goes 37196715915580 z (execShl core1 gd ga gb z) := by
  unfold execShl
  repeat'
    first
    | with_reducible apply Moves.refl
    | with_reducible assumption
    | intro _
    | with_reducible apply goOn_goes
    | with_reducible apply ite_goes
    | with_reducible apply Res.done_moves
    | with_reducible apply Res.fail_moves
    | with_reducible apply Res.wait_moves
    | ((with_reducible apply Goes.by (State.shiftOp_goes _ _ _ _ _ _)); case hs => exact rfl)
    | (extract_lets +onlyGivenNames x; apply Moves.cut (m := 37196715915580) (z := z) x; (case' h => unfold x); (case' k => (clear_value x; intro _)))
    | (extract_lets +onlyGivenNames x; clear_value x)
    | split
    | (rename_i hq; split at hq)
    | (rename_i hq; obtain ⟨_, rfl⟩ := Prod.mk.inj hq)

/-- May change: mem, poison, faults, power, mac, rtc, evr, memctl, flash, core0, core1, host, free, registers of block 0 4 7 9 11 12 13 18. -/
theorem execShr_goes (core1 : Bool) (gd : Fin 16) (ga : Fin 16) (gb : Fin 16) (z : State) : Goes 37196715915580 z (execShr core1 gd ga gb z) := by
  unfold execShr
  repeat'
    first
    | with_reducible apply Moves.refl
    | with_reducible assumption
    | intro _
    | with_reducible apply goOn_goes
    | with_reducible apply ite_goes
    | with_reducible apply Res.done_moves
    | with_reducible apply Res.fail_moves
    | with_reducible apply Res.wait_moves
    | ((with_reducible apply Goes.by (State.shiftOp_goes _ _ _ _ _ _)); case hs => exact rfl)
    | (extract_lets +onlyGivenNames x; apply Moves.cut (m := 37196715915580) (z := z) x; (case' h => unfold x); (case' k => (clear_value x; intro _)))
    | (extract_lets +onlyGivenNames x; clear_value x)
    | split
    | (rename_i hq; split at hq)
    | (rename_i hq; obtain ⟨_, rfl⟩ := Prod.mk.inj hq)

/-- May change: mem, poison, faults, power, mac, rtc, evr, memctl, flash, core0, core1, host, free, registers of block 0 4 7 9 11 12 13 18. -/
theorem execSar_goes (core1 : Bool) (gd : Fin 16) (ga : Fin 16) (gb : Fin 16) (z : State) : Goes 37196715915580 z (execSar core1 gd ga gb z) := by
  unfold execSar
  repeat'
    first
    | with_reducible apply Moves.refl
    | with_reducible assumption
    | intro _
    | with_reducible apply goOn_goes
    | with_reducible apply ite_goes
    | with_reducible apply Res.done_moves
    | with_reducible apply Res.fail_moves
    | with_reducible apply Res.wait_moves
    | ((with_reducible apply Goes.by (State.shiftOp_goes _ _ _ _ _ _)); case hs => exact rfl)
    | (extract_lets +onlyGivenNames x; apply Moves.cut (m := 37196715915580) (z := z) x; (case' h => unfold x); (case' k => (clear_value x; intro _)))
    | (extract_lets +onlyGivenNames x; clear_value x)
    | split
    | (rename_i hq; split at hq)
    | (rename_i hq; obtain ⟨_, rfl⟩ := Prod.mk.inj hq)

/-- May change: mem, poison, faults, power, mac, rtc, evr, memctl, flash, core0, core1, host, free, registers of block 0 4 7 9 11 12 13 18. -/
theorem execRol_goes (core1 : Bool) (gd : Fin 16) (ga : Fin 16) (gb : Fin 16) (z : State) : Goes 37196715915580 z (execRol core1 gd ga gb z) := by
  unfold execRol
  repeat'
    first
    | with_reducible apply Moves.refl
    | with_reducible assumption
    | intro _
    | with_reducible apply goOn_goes
    | with_reducible apply ite_goes
    | with_reducible apply Res.done_moves
    | with_reducible apply Res.fail_moves
    | with_reducible apply Res.wait_moves
    | ((with_reducible apply Goes.by (State.shiftOp_goes _ _ _ _ _ _)); case hs => exact rfl)
    | (extract_lets +onlyGivenNames x; apply Moves.cut (m := 37196715915580) (z := z) x; (case' h => unfold x); (case' k => (clear_value x; intro _)))
    | (extract_lets +onlyGivenNames x; clear_value x)
    | split
    | (rename_i hq; split at hq)
    | (rename_i hq; obtain ⟨_, rfl⟩ := Prod.mk.inj hq)

/-- May change: mem, poison, faults, power, mac, rtc, evr, memctl, flash, core0, core1, host, free, registers of block 0 4 7 9 11 12 13 18. -/
theorem execMul_goes (core1 : Bool) (gd : Fin 16) (ga : Fin 16) (gb : Fin 16) (z : State) : Goes 37196715915580 z (execMul core1 gd ga gb z) := by
  unfold execMul
  repeat'
    first
    | with_reducible apply Moves.refl
    | with_reducible assumption
    | intro _
    | with_reducible apply goOn_goes
    | with_reducible apply ite_goes
    | with_reducible apply Res.done_moves
    | with_reducible apply Res.fail_moves
    | with_reducible apply Res.wait_moves
    | ((with_reducible apply Goes.by (State.intOp_goes _ _ _ _ _ _)); case hs => exact rfl)
    | (extract_lets +onlyGivenNames x; apply Moves.cut (m := 37196715915580) (z := z) x; (case' h => unfold x); (case' k => (clear_value x; intro _)))
    | (extract_lets +onlyGivenNames x; clear_value x)
    | split
    | (rename_i hq; split at hq)
    | (rename_i hq; obtain ⟨_, rfl⟩ := Prod.mk.inj hq)

/-- May change: mem, poison, faults, power, mac, rtc, evr, memctl, flash, core0, core1, host, free, registers of block 0 4 7 9 11 12 13 18. -/
theorem execMulhs_goes (core1 : Bool) (gd : Fin 16) (ga : Fin 16) (gb : Fin 16) (z : State) : Goes 37196715915580 z (execMulhs core1 gd ga gb z) := by
  unfold execMulhs
  repeat'
    first
    | with_reducible apply Moves.refl
    | with_reducible assumption
    | intro _
    | with_reducible apply goOn_goes
    | with_reducible apply ite_goes
    | with_reducible apply Res.done_moves
    | with_reducible apply Res.fail_moves
    | with_reducible apply Res.wait_moves
    | ((with_reducible apply Goes.by (State.intOp_goes _ _ _ _ _ _)); case hs => exact rfl)
    | (extract_lets +onlyGivenNames x; apply Moves.cut (m := 37196715915580) (z := z) x; (case' h => unfold x); (case' k => (clear_value x; intro _)))
    | (extract_lets +onlyGivenNames x; clear_value x)
    | split
    | (rename_i hq; split at hq)
    | (rename_i hq; obtain ⟨_, rfl⟩ := Prod.mk.inj hq)

/-- May change: mem, poison, faults, power, mac, rtc, evr, memctl, flash, core0, core1, host, free, registers of block 0 4 7 9 11 12 13 18. -/
theorem execMulhu_goes (core1 : Bool) (gd : Fin 16) (ga : Fin 16) (gb : Fin 16) (z : State) : Goes 37196715915580 z (execMulhu core1 gd ga gb z) := by
  unfold execMulhu
  repeat'
    first
    | with_reducible apply Moves.refl
    | with_reducible assumption
    | intro _
    | with_reducible apply goOn_goes
    | with_reducible apply ite_goes
    | with_reducible apply Res.done_moves
    | with_reducible apply Res.fail_moves
    | with_reducible apply Res.wait_moves
    | ((with_reducible apply Goes.by (State.intOp_goes _ _ _ _ _ _)); case hs => exact rfl)
    | (extract_lets +onlyGivenNames x; apply Moves.cut (m := 37196715915580) (z := z) x; (case' h => unfold x); (case' k => (clear_value x; intro _)))
    | (extract_lets +onlyGivenNames x; clear_value x)
    | split
    | (rename_i hq; split at hq)
    | (rename_i hq; obtain ⟨_, rfl⟩ := Prod.mk.inj hq)

/-- May change: mem, poison, faults, power, mac, rtc, evr, memctl, flash, core0, core1, host, free, registers of block 0 4 7 9 11 12 13 18. -/
theorem execDivs_goes (core1 : Bool) (gd : Fin 16) (ga : Fin 16) (gb : Fin 16) (z : State) : Goes 37196715915580 z (execDivs core1 gd ga gb z) := by
  unfold execDivs
  repeat'
    first
    | with_reducible apply Moves.refl
    | with_reducible assumption
    | intro _
    | with_reducible apply goOn_goes
    | with_reducible apply ite_goes
    | with_reducible apply Res.done_moves
    | with_reducible apply Res.fail_moves
    | with_reducible apply Res.wait_moves
    | ((with_reducible apply Goes.by (State.divOp_goes _ _ _ _ _ _ _)); case hs => exact rfl)
    | (extract_lets +onlyGivenNames x; apply Moves.cut (m := 37196715915580) (z := z) x; (case' h => unfold x); (case' k => (clear_value x; intro _)))
    | (extract_lets +onlyGivenNames x; clear_value x)
    | split
    | (rename_i hq; split at hq)
    | (rename_i hq; obtain ⟨_, rfl⟩ := Prod.mk.inj hq)

/-- May change: mem, poison, faults, power, mac, rtc, evr, memctl, flash, core0, core1, host, free, registers of block 0 4 7 9 11 12 13 18. -/
theorem execDivu_goes (core1 : Bool) (gd : Fin 16) (ga : Fin 16) (gb : Fin 16) (z : State) : Goes 37196715915580 z (execDivu core1 gd ga gb z) := by
  unfold execDivu
  repeat'
    first
    | with_reducible apply Moves.refl
    | with_reducible assumption
    | intro _
    | with_reducible apply goOn_goes
    | with_reducible apply ite_goes
    | with_reducible apply Res.done_moves
    | with_reducible apply Res.fail_moves
    | with_reducible apply Res.wait_moves
    | ((with_reducible apply Goes.by (State.divOp_goes _ _ _ _ _ _ _)); case hs => exact rfl)
    | (extract_lets +onlyGivenNames x; apply Moves.cut (m := 37196715915580) (z := z) x; (case' h => unfold x); (case' k => (clear_value x; intro _)))
    | (extract_lets +onlyGivenNames x; clear_value x)
    | split
    | (rename_i hq; split at hq)
    | (rename_i hq; obtain ⟨_, rfl⟩ := Prod.mk.inj hq)

/-- May change: mem, poison, faults, power, mac, rtc, evr, memctl, flash, core0, core1, host, free, registers of block 0 4 7 9 11 12 13 18. -/
theorem execRems_goes (core1 : Bool) (gd : Fin 16) (ga : Fin 16) (gb : Fin 16) (z : State) : Goes 37196715915580 z (execRems core1 gd ga gb z) := by
  unfold execRems
  repeat'
    first
    | with_reducible apply Moves.refl
    | with_reducible assumption
    | intro _
    | with_reducible apply goOn_goes
    | with_reducible apply ite_goes
    | with_reducible apply Res.done_moves
    | with_reducible apply Res.fail_moves
    | with_reducible apply Res.wait_moves
    | ((with_reducible apply Goes.by (State.divOp_goes _ _ _ _ _ _ _)); case hs => exact rfl)
    | (extract_lets +onlyGivenNames x; apply Moves.cut (m := 37196715915580) (z := z) x; (case' h => unfold x); (case' k => (clear_value x; intro _)))
    | (extract_lets +onlyGivenNames x; clear_value x)
    | split
    | (rename_i hq; split at hq)
    | (rename_i hq; obtain ⟨_, rfl⟩ := Prod.mk.inj hq)

/-- May change: mem, poison, faults, power, mac, rtc, evr, memctl, flash, core0, core1, host, free, registers of block 0 4 7 9 11 12 13 18. -/
theorem execRemu_goes (core1 : Bool) (gd : Fin 16) (ga : Fin 16) (gb : Fin 16) (z : State) : Goes 37196715915580 z (execRemu core1 gd ga gb z) := by
  unfold execRemu
  repeat'
    first
    | with_reducible apply Moves.refl
    | with_reducible assumption
    | intro _
    | with_reducible apply goOn_goes
    | with_reducible apply ite_goes
    | with_reducible apply Res.done_moves
    | with_reducible apply Res.fail_moves
    | with_reducible apply Res.wait_moves
    | ((with_reducible apply Goes.by (State.divOp_goes _ _ _ _ _ _ _)); case hs => exact rfl)
    | (extract_lets +onlyGivenNames x; apply Moves.cut (m := 37196715915580) (z := z) x; (case' h => unfold x); (case' k => (clear_value x; intro _)))
    | (extract_lets +onlyGivenNames x; clear_value x)
    | split
    | (rename_i hq; split at hq)
    | (rename_i hq; obtain ⟨_, rfl⟩ := Prod.mk.inj hq)

/-- May change: mem, poison, faults, power, mac, rtc, evr, memctl, flash, core0, core1, host, free, registers of block 0 4 7 9 11 12 13 18. -/
theorem execMins_goes (core1 : Bool) (gd : Fin 16) (ga : Fin 16) (gb : Fin 16) (z : State) : Goes 37196715915580 z (execMins core1 gd ga gb z) := by
  unfold execMins
  repeat'
    first
    | with_reducible apply Moves.refl
    | with_reducible assumption
    | intro _
    | with_reducible apply goOn_goes
    | with_reducible apply ite_goes
    | with_reducible apply Res.done_moves
    | with_reducible apply Res.fail_moves
    | with_reducible apply Res.wait_moves
    | ((with_reducible apply Goes.by (State.intOp_goes _ _ _ _ _ _)); case hs => exact rfl)
    | with_reducible apply ite_moves
    | (extract_lets +onlyGivenNames x; apply Moves.cut (m := 37196715915580) (z := z) x; (case' h => unfold x); (case' k => (clear_value x; intro _)))
    | (extract_lets +onlyGivenNames x; clear_value x)
    | split
    | (rename_i hq; split at hq)
    | (rename_i hq; obtain ⟨_, rfl⟩ := Prod.mk.inj hq)

/-- May change: mem, poison, faults, power, mac, rtc, evr, memctl, flash, core0, core1, host, free, registers of block 0 4 7 9 11 12 13 18. -/
theorem execMaxs_goes (core1 : Bool) (gd : Fin 16) (ga : Fin 16) (gb : Fin 16) (z : State) : Goes 37196715915580 z (execMaxs core1 gd ga gb z) := by
  unfold execMaxs
  repeat'
    first
    | with_reducible apply Moves.refl
    | with_reducible assumption
    | intro _
    | with_reducible apply goOn_goes
    | with_reducible apply ite_goes
    | with_reducible apply Res.done_moves
    | with_reducible apply Res.fail_moves
    | with_reducible apply Res.wait_moves
    | ((with_reducible apply Goes.by (State.intOp_goes _ _ _ _ _ _)); case hs => exact rfl)
    | with_reducible apply ite_moves
    | (extract_lets +onlyGivenNames x; apply Moves.cut (m := 37196715915580) (z := z) x; (case' h => unfold x); (case' k => (clear_value x; intro _)))
    | (extract_lets +onlyGivenNames x; clear_value x)
    | split
    | (rename_i hq; split at hq)
    | (rename_i hq; obtain ⟨_, rfl⟩ := Prod.mk.inj hq)

/-- May change: mem, poison, faults, power, mac, rtc, evr, memctl, flash, core0, core1, host, free, registers of block 0 4 7 9 11 12 13 18. -/
theorem execAddi_goes (core1 : Bool) (gd : Fin 16) (ga : Fin 16) (imm : Fin 262144) (z : State) : Goes 37196715915580 z (execAddi core1 gd ga imm z) := by
  unfold execAddi
  repeat'
    first
    | with_reducible apply Moves.refl
    | with_reducible assumption
    | intro _
    | with_reducible apply goOn_goes
    | with_reducible apply ite_goes
    | with_reducible apply Res.done_moves
    | with_reducible apply Res.fail_moves
    | with_reducible apply Res.wait_moves
    | ((with_reducible apply Moves.by (State.okIf_moves _ _ _ _)); case hs => exact rfl)
    | ((with_reducible apply State.okIf_done_pair); (case hp => assumption); case hs => exact rfl)
    | ((with_reducible apply State.okIf_fail_pair); (case hp => assumption); case hs => exact rfl)
    | ((with_reducible apply State.okIf_wait_pair); (case hp => assumption); case hs => exact rfl)
    | ((with_reducible apply State.plain_goes); case hs => exact rfl)
    | (extract_lets +onlyGivenNames x; apply Moves.cut (m := 37196715915580) (z := z) x; (case' h => unfold x); (case' k => (clear_value x; intro _)))
    | (extract_lets +onlyGivenNames x; clear_value x)
    | split
    | (rename_i hq; split at hq)
    | (rename_i hq; obtain ⟨_, rfl⟩ := Prod.mk.inj hq)

/-- May change: mem, poison, faults, power, mac, rtc, evr, memctl, flash, core0, core1, host, free, registers of block 0 4 7 9 11 12 13 18. -/
theorem execAndi_goes (core1 : Bool) (gd : Fin 16) (ga : Fin 16) (imm : Fin 262144) (z : State) : Goes 37196715915580 z (execAndi core1 gd ga imm z) := by
  unfold execAndi
  repeat'
    first
    | with_reducible apply Moves.refl
    | with_reducible assumption
    | intro _
    | with_reducible apply goOn_goes
    | with_reducible apply ite_goes
    | with_reducible apply Res.done_moves
    | with_reducible apply Res.fail_moves
    | with_reducible apply Res.wait_moves
    | ((with_reducible apply Goes.by (State.logicImm_goes _ _ _ _ _ _)); case hs => exact rfl)
    | (extract_lets +onlyGivenNames x; apply Moves.cut (m := 37196715915580) (z := z) x; (case' h => unfold x); (case' k => (clear_value x; intro _)))
    | (extract_lets +onlyGivenNames x; clear_value x)
    | split
    | (rename_i hq; split at hq)
    | (rename_i hq; obtain ⟨_, rfl⟩ := Prod.mk.inj hq)

/-- May change: mem, poison, faults, power, mac, rtc, evr, memctl, flash, core0, core1, host, free, registers of block 0 4 7 9 11 12 13 18. -/
theorem execOri_goes (core1 : Bool) (gd : Fin 16) (ga : Fin 16) (imm : Fin 262144) (z : State) : Goes 37196715915580 z (execOri core1 gd ga imm z) := by
  unfold execOri
  repeat'
    first
    | with_reducible apply Moves.refl
    | with_reducible assumption
    | intro _
    | with_reducible apply goOn_goes
    | with_reducible apply ite_goes
    | with_reducible apply Res.done_moves
    | with_reducible apply Res.fail_moves
    | with_reducible apply Res.wait_moves
    | ((with_reducible apply Goes.by (State.logicImm_goes _ _ _ _ _ _)); case hs => exact rfl)
    | (extract_lets +onlyGivenNames x; apply Moves.cut (m := 37196715915580) (z := z) x; (case' h => unfold x); (case' k => (clear_value x; intro _)))
    | (extract_lets +onlyGivenNames x; clear_value x)
    | split
    | (rename_i hq; split at hq)
    | (rename_i hq; obtain ⟨_, rfl⟩ := Prod.mk.inj hq)

/-- May change: mem, poison, faults, power, mac, rtc, evr, memctl, flash, core0, core1, host, free, registers of block 0 4 7 9 11 12 13 18. -/
theorem execXori_goes (core1 : Bool) (gd : Fin 16) (ga : Fin 16) (imm : Fin 262144) (z : State) : Goes 37196715915580 z (execXori core1 gd ga imm z) := by
  unfold execXori
  repeat'
    first
    | with_reducible apply Moves.refl
    | with_reducible assumption
    | intro _
    | with_reducible apply goOn_goes
    | with_reducible apply ite_goes
    | with_reducible apply Res.done_moves
    | with_reducible apply Res.fail_moves
    | with_reducible apply Res.wait_moves
    | ((with_reducible apply Goes.by (State.logicImm_goes _ _ _ _ _ _)); case hs => exact rfl)
    | (extract_lets +onlyGivenNames x; apply Moves.cut (m := 37196715915580) (z := z) x; (case' h => unfold x); (case' k => (clear_value x; intro _)))
    | (extract_lets +onlyGivenNames x; clear_value x)
    | split
    | (rename_i hq; split at hq)
    | (rename_i hq; obtain ⟨_, rfl⟩ := Prod.mk.inj hq)

/-- May change: mem, poison, faults, power, mac, rtc, evr, memctl, flash, core0, core1, host, free, registers of block 0 4 7 9 11 12 13 18. -/
theorem execShi_goes (core1 : Bool) (gd : Fin 16) (ga : Fin 16) (kind : Fin 4) (amt : Fin 32) (z : State) : Goes 37196715915580 z (execShi core1 gd ga kind amt z) := by
  unfold execShi
  repeat'
    first
    | with_reducible apply Moves.refl
    | with_reducible assumption
    | intro _
    | with_reducible apply goOn_goes
    | with_reducible apply ite_goes
    | with_reducible apply Res.done_moves
    | with_reducible apply Res.fail_moves
    | with_reducible apply Res.wait_moves
    | ((with_reducible apply Moves.by (State.okIf_moves _ _ _ _)); case hs => exact rfl)
    | ((with_reducible apply State.okIf_done_pair); (case hp => assumption); case hs => exact rfl)
    | ((with_reducible apply State.okIf_fail_pair); (case hp => assumption); case hs => exact rfl)
    | ((with_reducible apply State.okIf_wait_pair); (case hp => assumption); case hs => exact rfl)
    | ((with_reducible apply State.plain_goes); case hs => exact rfl)
    | (extract_lets +onlyGivenNames x; apply Moves.cut (m := 37196715915580) (z := z) x; (case' h => unfold x); (case' k => (clear_value x; intro _)))
    | (extract_lets +onlyGivenNames x; clear_value x)
    | split
    | (rename_i hq; split at hq)
    | (rename_i hq; obtain ⟨_, rfl⟩ := Prod.mk.inj hq)

/-- May change: mem, poison, faults, power, mac, rtc, evr, memctl, flash, core0, core1, host, free, registers of block 0 4 7 9 11 12 13 18. -/
theorem execLui_goes (core1 : Bool) (gd : Fin 16) (imm : Fin 262144) (z : State) : Goes 37196715915580 z (execLui core1 gd imm z) := by
  unfold execLui
  repeat'
    first
    | with_reducible apply Moves.refl
    | with_reducible assumption
    | intro _
    | with_reducible apply goOn_goes
    | with_reducible apply ite_goes
    | with_reducible apply Res.done_moves
    | with_reducible apply Res.fail_moves
    | with_reducible apply Res.wait_moves
    | ((with_reducible apply State.plain_goes); case hs => exact rfl)
    | ((with_reducible apply Moves.by (State.ok_moves _ _ _)); case hs => exact rfl)
    | ((with_reducible apply State.ok_done_pair); (case hp => assumption); case hs => exact rfl)
    | ((with_reducible apply State.ok_fail_pair); (case hp => assumption); case hs => exact rfl)
    | ((with_reducible apply State.ok_wait_pair); (case hp => assumption); case hs => exact rfl)
    | (extract_lets +onlyGivenNames x; apply Moves.cut (m := 37196715915580) (z := z) x; (case' h => unfold x); (case' k => (clear_value x; intro _)))
    | (extract_lets +onlyGivenNames x; clear_value x)
    | split
    | (rename_i hq; split at hq)
    | (rename_i hq; obtain ⟨_, rfl⟩ := Prod.mk.inj hq)

/-- May change: mem, poison, faults, power, mac, rtc, evr, memctl, flash, core0, core1, host, free, registers of block 0 4 7 9 11 12 13 18. -/
theorem execCmp_goes (core1 : Bool) (gd : Fin 16) (ga : Fin 16) (gb : Fin 16) (cond : Fin 8) (z : State) : Goes 37196715915580 z (execCmp core1 gd ga gb cond z) := by
  unfold execCmp
  repeat'
    first
    | with_reducible apply Moves.refl
    | with_reducible assumption
    | intro _
    | with_reducible apply goOn_goes
    | with_reducible apply ite_goes
    | with_reducible apply Res.done_moves
    | with_reducible apply Res.fail_moves
    | with_reducible apply Res.wait_moves
    | ((with_reducible apply Moves.by (State.okIf_moves _ _ _ _)); case hs => exact rfl)
    | ((with_reducible apply State.okIf_done_pair); (case hp => assumption); case hs => exact rfl)
    | ((with_reducible apply State.okIf_fail_pair); (case hp => assumption); case hs => exact rfl)
    | ((with_reducible apply State.okIf_wait_pair); (case hp => assumption); case hs => exact rfl)
    | ((with_reducible apply State.plain_goes); case hs => exact rfl)
    | (extract_lets +onlyGivenNames x; apply Moves.cut (m := 37196715915580) (z := z) x; (case' h => unfold x); (case' k => (clear_value x; intro _)))
    | (extract_lets +onlyGivenNames x; clear_value x)
    | split
    | (rename_i hq; split at hq)
    | (rename_i hq; obtain ⟨_, rfl⟩ := Prod.mk.inj hq)

/-- May change: mem, poison, faults, power, mac, rtc, evr, memctl, flash, core0, core1, host, free, registers of block 0 4 7 9 11 12 13 18. -/
theorem execCmpi_goes (core1 : Bool) (gd : Fin 16) (ga : Fin 16) (cond : Fin 8) (imm : Fin 32768) (z : State) : Goes 37196715915580 z (execCmpi core1 gd ga cond imm z) := by
  unfold execCmpi
  repeat'
    first
    | with_reducible apply Moves.refl
    | with_reducible assumption
    | intro _
    | with_reducible apply goOn_goes
    | with_reducible apply ite_goes
    | with_reducible apply Res.done_moves
    | with_reducible apply Res.fail_moves
    | with_reducible apply Res.wait_moves
    | ((with_reducible apply Moves.by (State.okIf_moves _ _ _ _)); case hs => exact rfl)
    | ((with_reducible apply State.okIf_done_pair); (case hp => assumption); case hs => exact rfl)
    | ((with_reducible apply State.okIf_fail_pair); (case hp => assumption); case hs => exact rfl)
    | ((with_reducible apply State.okIf_wait_pair); (case hp => assumption); case hs => exact rfl)
    | ((with_reducible apply State.plain_goes); case hs => exact rfl)
    | (extract_lets +onlyGivenNames x; apply Moves.cut (m := 37196715915580) (z := z) x; (case' h => unfold x); (case' k => (clear_value x; intro _)))
    | (extract_lets +onlyGivenNames x; clear_value x)
    | split
    | (rename_i hq; split at hq)
    | (rename_i hq; obtain ⟨_, rfl⟩ := Prod.mk.inj hq)

/-- May change: mem, poison, faults, power, mac, rtc, evr, memctl, flash, core0, core1, host, free, registers of block 0 4 7 9 11 12 13 18. -/
theorem execMov_goes (core1 : Bool) (gd : Fin 16) (ga : Fin 16) (z : State) : Goes 37196715915580 z (execMov core1 gd ga z) := by
  unfold execMov
  repeat'
    first
    | with_reducible apply Moves.refl
    | with_reducible assumption
    | intro _
    | with_reducible apply goOn_goes
    | with_reducible apply ite_goes
    | with_reducible apply Res.done_moves
    | with_reducible apply Res.fail_moves
    | with_reducible apply Res.wait_moves
    | ((with_reducible apply State.plain_goes); case hs => exact rfl)
    | ((with_reducible apply Moves.by (State.ok_moves _ _ _)); case hs => exact rfl)
    | ((with_reducible apply State.ok_done_pair); (case hp => assumption); case hs => exact rfl)
    | ((with_reducible apply State.ok_fail_pair); (case hp => assumption); case hs => exact rfl)
    | ((with_reducible apply State.ok_wait_pair); (case hp => assumption); case hs => exact rfl)
    | (extract_lets +onlyGivenNames x; apply Moves.cut (m := 37196715915580) (z := z) x; (case' h => unfold x); (case' k => (clear_value x; intro _)))
    | (extract_lets +onlyGivenNames x; clear_value x)
    | split
    | (rename_i hq; split at hq)
    | (rename_i hq; obtain ⟨_, rfl⟩ := Prod.mk.inj hq)

/-- May change: mem, poison, faults, power, mac, rtc, evr, memctl, flash, core0, core1, host, free, registers of block 0 4 7 9 11 12 13 18. -/
theorem execTagof_goes (core1 : Bool) (gd : Fin 16) (ga : Fin 16) (z : State) : Goes 37196715915580 z (execTagof core1 gd ga z) := by
  unfold execTagof
  repeat'
    first
    | with_reducible apply Moves.refl
    | with_reducible assumption
    | intro _
    | with_reducible apply goOn_goes
    | with_reducible apply ite_goes
    | with_reducible apply Res.done_moves
    | with_reducible apply Res.fail_moves
    | with_reducible apply Res.wait_moves
    | ((with_reducible apply State.plain_goes); case hs => exact rfl)
    | ((with_reducible apply Moves.by (State.ok_moves _ _ _)); case hs => exact rfl)
    | ((with_reducible apply State.ok_done_pair); (case hp => assumption); case hs => exact rfl)
    | ((with_reducible apply State.ok_fail_pair); (case hp => assumption); case hs => exact rfl)
    | ((with_reducible apply State.ok_wait_pair); (case hp => assumption); case hs => exact rfl)
    | (extract_lets +onlyGivenNames x; apply Moves.cut (m := 37196715915580) (z := z) x; (case' h => unfold x); (case' k => (clear_value x; intro _)))
    | (extract_lets +onlyGivenNames x; clear_value x)
    | split
    | (rename_i hq; split at hq)
    | (rename_i hq; obtain ⟨_, rfl⟩ := Prod.mk.inj hq)

/-- May change: mem, poison, faults, power, mac, rtc, evr, memctl, flash, core0, core1, host, free, registers of block 0 4 7 9 11 12 13 18. -/
theorem execRetag_goes (core1 : Bool) (gd : Fin 16) (ga : Fin 16) (tag : Fin 8) (z : State) : Goes 37196715915580 z (execRetag core1 gd ga tag z) := by
  unfold execRetag
  repeat'
    first
    | with_reducible apply Moves.refl
    | with_reducible assumption
    | intro _
    | with_reducible apply goOn_goes
    | with_reducible apply ite_goes
    | with_reducible apply Res.done_moves
    | with_reducible apply Res.fail_moves
    | with_reducible apply Res.wait_moves
    | ((with_reducible apply Moves.by (State.okIf_moves _ _ _ _)); case hs => exact rfl)
    | ((with_reducible apply State.okIf_done_pair); (case hp => assumption); case hs => exact rfl)
    | ((with_reducible apply State.okIf_fail_pair); (case hp => assumption); case hs => exact rfl)
    | ((with_reducible apply State.okIf_wait_pair); (case hp => assumption); case hs => exact rfl)
    | ((with_reducible apply State.plain_goes); case hs => exact rfl)
    | (extract_lets +onlyGivenNames x; apply Moves.cut (m := 37196715915580) (z := z) x; (case' h => unfold x); (case' k => (clear_value x; intro _)))
    | (extract_lets +onlyGivenNames x; clear_value x)
    | split
    | (rename_i hq; split at hq)
    | (rename_i hq; obtain ⟨_, rfl⟩ := Prod.mk.inj hq)

/-- May change: mem, poison, faults, power, mac, rtc, evr, memctl, flash, core0, core1, host, free, registers of block 0 4 7 9 11 12 13 18. -/
theorem execChktag_goes (core1 : Bool) (ga : Fin 16) (tag : Fin 8) (z : State) : Goes 37196715915580 z (execChktag core1 ga tag z) := by
  unfold execChktag
  repeat'
    first
    | with_reducible apply Moves.refl
    | with_reducible assumption
    | intro _
    | with_reducible apply goOn_goes
    | with_reducible apply ite_goes
    | with_reducible apply Res.done_moves
    | with_reducible apply Res.fail_moves
    | with_reducible apply Res.wait_moves
    | ((with_reducible apply Moves.by (State.okIf_moves _ _ _ _)); case hs => exact rfl)
    | ((with_reducible apply State.okIf_done_pair); (case hp => assumption); case hs => exact rfl)
    | ((with_reducible apply State.okIf_fail_pair); (case hp => assumption); case hs => exact rfl)
    | ((with_reducible apply State.okIf_wait_pair); (case hp => assumption); case hs => exact rfl)
    | ((with_reducible apply State.plain_goes); case hs => exact rfl)
    | (extract_lets +onlyGivenNames x; apply Moves.cut (m := 37196715915580) (z := z) x; (case' h => unfold x); (case' k => (clear_value x; intro _)))
    | (extract_lets +onlyGivenNames x; clear_value x)
    | split
    | (rename_i hq; split at hq)
    | (rename_i hq; obtain ⟨_, rfl⟩ := Prod.mk.inj hq)

/-- May change: mem, poison, faults, power, mac, rtc, evr, memctl, flash, core0, core1, host, free, registers of block 0 4 7 9 11 12 13 18. -/
theorem execLdw_goes (core1 : Bool) (gd : Fin 16) (ga : Fin 16) (imm : Fin 262144) (parity : Fin 32) (z : State) : Goes 37196715915580 z (execLdw core1 gd ga imm parity z) := by
  unfold execLdw
  repeat'
    first
    | with_reducible apply Moves.refl
    | with_reducible assumption
    | intro _
    | with_reducible apply goOn_goes
    | with_reducible apply ite_goes
    | with_reducible apply Res.done_moves
    | with_reducible apply Res.fail_moves
    | with_reducible apply Res.wait_moves
    | ((with_reducible apply Goes.by (State.loadOp_goes _ _ _ _ _ _ _ _)); case hs => exact rfl)
    | (extract_lets +onlyGivenNames x; apply Moves.cut (m := 37196715915580) (z := z) x; (case' h => unfold x); (case' k => (clear_value x; intro _)))
    | (extract_lets +onlyGivenNames x; clear_value x)
    | split
    | (rename_i hq; split at hq)
    | (rename_i hq; obtain ⟨_, rfl⟩ := Prod.mk.inj hq)

/-- May change: mem, poison, faults, power, mac, rtc, evr, memctl, flash, core0, core1, host, free, registers of block 0 4 7 9 11 12 13 18. -/
theorem execLdh_goes (core1 : Bool) (gd : Fin 16) (ga : Fin 16) (imm : Fin 262144) (parity : Fin 32) (z : State) : Goes 37196715915580 z (execLdh core1 gd ga imm parity z) := by
  unfold execLdh
  repeat'
    first
    | with_reducible apply Moves.refl
    | with_reducible assumption
    | intro _
    | with_reducible apply goOn_goes
    | with_reducible apply ite_goes
    | with_reducible apply Res.done_moves
    | with_reducible apply Res.fail_moves
    | with_reducible apply Res.wait_moves
    | ((with_reducible apply Goes.by (State.loadOp_goes _ _ _ _ _ _ _ _)); case hs => exact rfl)
    | (extract_lets +onlyGivenNames x; apply Moves.cut (m := 37196715915580) (z := z) x; (case' h => unfold x); (case' k => (clear_value x; intro _)))
    | (extract_lets +onlyGivenNames x; clear_value x)
    | split
    | (rename_i hq; split at hq)
    | (rename_i hq; obtain ⟨_, rfl⟩ := Prod.mk.inj hq)

/-- May change: mem, poison, faults, power, mac, rtc, evr, memctl, flash, core0, core1, host, free, registers of block 0 4 7 9 11 12 13 18. -/
theorem execLdhu_goes (core1 : Bool) (gd : Fin 16) (ga : Fin 16) (imm : Fin 262144) (parity : Fin 32) (z : State) : Goes 37196715915580 z (execLdhu core1 gd ga imm parity z) := by
  unfold execLdhu
  repeat'
    first
    | with_reducible apply Moves.refl
    | with_reducible assumption
    | intro _
    | with_reducible apply goOn_goes
    | with_reducible apply ite_goes
    | with_reducible apply Res.done_moves
    | with_reducible apply Res.fail_moves
    | with_reducible apply Res.wait_moves
    | ((with_reducible apply Goes.by (State.loadOp_goes _ _ _ _ _ _ _ _)); case hs => exact rfl)
    | (extract_lets +onlyGivenNames x; apply Moves.cut (m := 37196715915580) (z := z) x; (case' h => unfold x); (case' k => (clear_value x; intro _)))
    | (extract_lets +onlyGivenNames x; clear_value x)
    | split
    | (rename_i hq; split at hq)
    | (rename_i hq; obtain ⟨_, rfl⟩ := Prod.mk.inj hq)

/-- May change: mem, poison, faults, power, mac, rtc, evr, memctl, flash, core0, core1, host, free, registers of block 0 4 7 9 11 12 13 18. -/
theorem execLdb_goes (core1 : Bool) (gd : Fin 16) (ga : Fin 16) (imm : Fin 262144) (parity : Fin 32) (z : State) : Goes 37196715915580 z (execLdb core1 gd ga imm parity z) := by
  unfold execLdb
  repeat'
    first
    | with_reducible apply Moves.refl
    | with_reducible assumption
    | intro _
    | with_reducible apply goOn_goes
    | with_reducible apply ite_goes
    | with_reducible apply Res.done_moves
    | with_reducible apply Res.fail_moves
    | with_reducible apply Res.wait_moves
    | ((with_reducible apply Goes.by (State.loadOp_goes _ _ _ _ _ _ _ _)); case hs => exact rfl)
    | (extract_lets +onlyGivenNames x; apply Moves.cut (m := 37196715915580) (z := z) x; (case' h => unfold x); (case' k => (clear_value x; intro _)))
    | (extract_lets +onlyGivenNames x; clear_value x)
    | split
    | (rename_i hq; split at hq)
    | (rename_i hq; obtain ⟨_, rfl⟩ := Prod.mk.inj hq)

/-- May change: mem, poison, faults, power, mac, rtc, evr, memctl, flash, core0, core1, host, free, registers of block 0 4 7 9 11 12 13 18. -/
theorem execLdbu_goes (core1 : Bool) (gd : Fin 16) (ga : Fin 16) (imm : Fin 262144) (parity : Fin 32) (z : State) : Goes 37196715915580 z (execLdbu core1 gd ga imm parity z) := by
  unfold execLdbu
  repeat'
    first
    | with_reducible apply Moves.refl
    | with_reducible assumption
    | intro _
    | with_reducible apply goOn_goes
    | with_reducible apply ite_goes
    | with_reducible apply Res.done_moves
    | with_reducible apply Res.fail_moves
    | with_reducible apply Res.wait_moves
    | ((with_reducible apply Goes.by (State.loadOp_goes _ _ _ _ _ _ _ _)); case hs => exact rfl)
    | (extract_lets +onlyGivenNames x; apply Moves.cut (m := 37196715915580) (z := z) x; (case' h => unfold x); (case' k => (clear_value x; intro _)))
    | (extract_lets +onlyGivenNames x; clear_value x)
    | split
    | (rename_i hq; split at hq)
    | (rename_i hq; obtain ⟨_, rfl⟩ := Prod.mk.inj hq)

/-- May change: tnet, mem, poison, faults, power, radio, slot, mac, sec, gnss, rtc, evr, memctl, flash, core0, core1, lgy, tag, host, pke, pins, free, registers of block all. -/
theorem execStw_goes (core1 : Bool) (gd : Fin 16) (ga : Fin 16) (imm : Fin 262144) (z : State) : Goes 140737378254845 z (execStw core1 gd ga imm z) := by
  unfold execStw
  repeat'
    first
    | with_reducible apply Moves.refl
    | with_reducible assumption
    | intro _
    | with_reducible apply goOn_goes
    | with_reducible apply ite_goes
    | with_reducible apply Res.done_moves
    | with_reducible apply Res.fail_moves
    | with_reducible apply Res.wait_moves
    | ((with_reducible apply Goes.by (State.storeOp_goes _ _ _ _ _ _ _)); case hs => exact rfl)
    | (extract_lets +onlyGivenNames x; apply Moves.cut (m := 140737378254845) (z := z) x; (case' h => unfold x); (case' k => (clear_value x; intro _)))
    | (extract_lets +onlyGivenNames x; clear_value x)
    | split
    | (rename_i hq; split at hq)
    | (rename_i hq; obtain ⟨_, rfl⟩ := Prod.mk.inj hq)

/-- May change: tnet, mem, poison, faults, power, radio, slot, mac, sec, gnss, rtc, evr, memctl, flash, core0, core1, lgy, tag, host, pke, pins, free, registers of block all. -/
theorem execSth_goes (core1 : Bool) (gd : Fin 16) (ga : Fin 16) (imm : Fin 262144) (parity : Fin 32) (z : State) : Goes 140737378254845 z (execSth core1 gd ga imm parity z) := by
  unfold execSth
  repeat'
    first
    | with_reducible apply Moves.refl
    | with_reducible assumption
    | intro _
    | with_reducible apply goOn_goes
    | with_reducible apply ite_goes
    | with_reducible apply Res.done_moves
    | with_reducible apply Res.fail_moves
    | with_reducible apply Res.wait_moves
    | ((with_reducible apply Goes.by (State.storeOp_goes _ _ _ _ _ _ _)); case hs => exact rfl)
    | (extract_lets +onlyGivenNames x; apply Moves.cut (m := 140737378254845) (z := z) x; (case' h => unfold x); (case' k => (clear_value x; intro _)))
    | (extract_lets +onlyGivenNames x; clear_value x)
    | split
    | (rename_i hq; split at hq)
    | (rename_i hq; obtain ⟨_, rfl⟩ := Prod.mk.inj hq)

/-- May change: tnet, mem, poison, faults, power, radio, slot, mac, sec, gnss, rtc, evr, memctl, flash, core0, core1, lgy, tag, host, pke, pins, free, registers of block all. -/
theorem execStb_goes (core1 : Bool) (gd : Fin 16) (ga : Fin 16) (imm : Fin 262144) (parity : Fin 32) (z : State) : Goes 140737378254845 z (execStb core1 gd ga imm parity z) := by
  unfold execStb
  repeat'
    first
    | with_reducible apply Moves.refl
    | with_reducible assumption
    | intro _
    | with_reducible apply goOn_goes
    | with_reducible apply ite_goes
    | with_reducible apply Res.done_moves
    | with_reducible apply Res.fail_moves
    | with_reducible apply Res.wait_moves
    | ((with_reducible apply Goes.by (State.storeOp_goes _ _ _ _ _ _ _)); case hs => exact rfl)
    | (extract_lets +onlyGivenNames x; apply Moves.cut (m := 140737378254845) (z := z) x; (case' h => unfold x); (case' k => (clear_value x; intro _)))
    | (extract_lets +onlyGivenNames x; clear_value x)
    | split
    | (rename_i hq; split at hq)
    | (rename_i hq; obtain ⟨_, rfl⟩ := Prod.mk.inj hq)

/-- May change: mem, poison, faults, power, mac, rtc, evr, memctl, flash, core0, core1, host, free, registers of block 0 4 7 9 11 12 13 18. -/
theorem execAddp_goes (core1 : Bool) (gd : Fin 16) (ga : Fin 16) (gb : Fin 16) (z : State) : Goes 37196715915580 z (execAddp core1 gd ga gb z) := by
  unfold execAddp
  repeat'
    first
    | with_reducible apply Moves.refl
    | with_reducible assumption
    | intro _
    | with_reducible apply goOn_goes
    | with_reducible apply ite_goes
    | with_reducible apply Res.done_moves
    | with_reducible apply Res.fail_moves
    | with_reducible apply Res.wait_moves
    | ((with_reducible apply Moves.by (State.moveOp_moves _ _ _ _ _ _)); case hs => exact rfl)
    | ((with_reducible apply State.moveOp_done_pair); (case hp => assumption); case hs => exact rfl)
    | ((with_reducible apply State.moveOp_fail_pair); (case hp => assumption); case hs => exact rfl)
    | ((with_reducible apply State.moveOp_wait_pair); (case hp => assumption); case hs => exact rfl)
    | ((with_reducible apply State.plain_goes); case hs => exact rfl)
    | (extract_lets +onlyGivenNames x; apply Moves.cut (m := 37196715915580) (z := z) x; (case' h => unfold x); (case' k => (clear_value x; intro _)))
    | (extract_lets +onlyGivenNames x; clear_value x)
    | split
    | (rename_i hq; split at hq)
    | (rename_i hq; obtain ⟨_, rfl⟩ := Prod.mk.inj hq)

/-- May change: mem, poison, faults, power, mac, rtc, evr, memctl, flash, core0, core1, host, free, registers of block 0 4 7 9 11 12 13 18. -/
theorem execAddpi_goes (core1 : Bool) (gd : Fin 16) (ga : Fin 16) (imm : Fin 262144) (z : State) : Goes 37196715915580 z (execAddpi core1 gd ga imm z) := by
  unfold execAddpi
  repeat'
    first
    | with_reducible apply Moves.refl
    | with_reducible assumption
    | intro _
    | with_reducible apply goOn_goes
    | with_reducible apply ite_goes
    | with_reducible apply Res.done_moves
    | with_reducible apply Res.fail_moves
    | with_reducible apply Res.wait_moves
    | ((with_reducible apply Moves.by (State.moveOp_moves _ _ _ _ _ _)); case hs => exact rfl)
    | ((with_reducible apply State.moveOp_done_pair); (case hp => assumption); case hs => exact rfl)
    | ((with_reducible apply State.moveOp_fail_pair); (case hp => assumption); case hs => exact rfl)
    | ((with_reducible apply State.moveOp_wait_pair); (case hp => assumption); case hs => exact rfl)
    | ((with_reducible apply State.plain_goes); case hs => exact rfl)
    | (extract_lets +onlyGivenNames x; apply Moves.cut (m := 37196715915580) (z := z) x; (case' h => unfold x); (case' k => (clear_value x; intro _)))
    | (extract_lets +onlyGivenNames x; clear_value x)
    | split
    | (rename_i hq; split at hq)
    | (rename_i hq; obtain ⟨_, rfl⟩ := Prod.mk.inj hq)

/-- May change: mem, poison, faults, power, mac, rtc, evr, memctl, flash, core0, core1, host, free, registers of block 0 4 7 9 11 12 13 18. -/
theorem execSubp_goes (core1 : Bool) (gd : Fin 16) (ga : Fin 16) (gb : Fin 16) (z : State) : Goes 37196715915580 z (execSubp core1 gd ga gb z) := by
  unfold execSubp
  repeat'
    first
    | with_reducible apply Moves.refl
    | with_reducible assumption
    | intro _
    | with_reducible apply goOn_goes
    | with_reducible apply ite_goes
    | with_reducible apply Res.done_moves
    | with_reducible apply Res.fail_moves
    | with_reducible apply Res.wait_moves
    | ((with_reducible apply Moves.by (State.okIf_moves _ _ _ _)); case hs => exact rfl)
    | ((with_reducible apply State.okIf_done_pair); (case hp => assumption); case hs => exact rfl)
    | ((with_reducible apply State.okIf_fail_pair); (case hp => assumption); case hs => exact rfl)
    | ((with_reducible apply State.okIf_wait_pair); (case hp => assumption); case hs => exact rfl)
    | ((with_reducible apply State.plain_goes); case hs => exact rfl)
    | (extract_lets +onlyGivenNames x; apply Moves.cut (m := 37196715915580) (z := z) x; (case' h => unfold x); (case' k => (clear_value x; intro _)))
    | (extract_lets +onlyGivenNames x; clear_value x)
    | split
    | (rename_i hq; split at hq)
    | (rename_i hq; obtain ⟨_, rfl⟩ := Prod.mk.inj hq)

/-- May change: mem, poison, faults, power, mac, rtc, evr, memctl, flash, core0, core1, host, free, registers of block 0 4 7 9 11 12 13 18. -/
theorem execLea_goes (core1 : Bool) (gd : Fin 16) (seg : Fin 16) (imm : Fin 262144) (z : State) : Goes 37196715915580 z (execLea core1 gd seg imm z) := by
  unfold execLea
  repeat'
    first
    | with_reducible apply Moves.refl
    | with_reducible assumption
    | intro _
    | with_reducible apply goOn_goes
    | with_reducible apply ite_goes
    | with_reducible apply Res.done_moves
    | with_reducible apply Res.fail_moves
    | with_reducible apply Res.wait_moves
    | ((with_reducible apply State.plain_goes); case hs => exact rfl)
    | ((with_reducible apply Moves.by (State.ok_moves _ _ _)); case hs => exact rfl)
    | ((with_reducible apply State.ok_done_pair); (case hp => assumption); case hs => exact rfl)
    | ((with_reducible apply State.ok_fail_pair); (case hp => assumption); case hs => exact rfl)
    | ((with_reducible apply State.ok_wait_pair); (case hp => assumption); case hs => exact rfl)
    | (extract_lets +onlyGivenNames x; apply Moves.cut (m := 37196715915580) (z := z) x; (case' h => unfold x); (case' k => (clear_value x; intro _)))
    | (extract_lets +onlyGivenNames x; clear_value x)
    | split
    | (rename_i hq; split at hq)
    | (rename_i hq; obtain ⟨_, rfl⟩ := Prod.mk.inj hq)

/-- May change: mem, poison, faults, power, mac, rtc, evr, memctl, flash, core0, core1, host, free, registers of block 0 4 7 9 11 12 13 18. -/
theorem execLeac_goes (core1 : Bool) (gd : Fin 16) (off : Fin 4194304) (z : State) : Goes 37196715915580 z (execLeac core1 gd off z) := by
  unfold execLeac
  repeat'
    first
    | with_reducible apply Moves.refl
    | with_reducible assumption
    | intro _
    | with_reducible apply goOn_goes
    | with_reducible apply ite_goes
    | with_reducible apply Res.done_moves
    | with_reducible apply Res.fail_moves
    | with_reducible apply Res.wait_moves
    | ((with_reducible apply State.plain_goes); case hs => exact rfl)
    | ((with_reducible apply Moves.by (State.ok_moves _ _ _)); case hs => exact rfl)
    | ((with_reducible apply State.ok_done_pair); (case hp => assumption); case hs => exact rfl)
    | ((with_reducible apply State.ok_fail_pair); (case hp => assumption); case hs => exact rfl)
    | ((with_reducible apply State.ok_wait_pair); (case hp => assumption); case hs => exact rfl)
    | (extract_lets +onlyGivenNames x; apply Moves.cut (m := 37196715915580) (z := z) x; (case' h => unfold x); (case' k => (clear_value x; intro _)))
    | (extract_lets +onlyGivenNames x; clear_value x)
    | split
    | (rename_i hq; split at hq)
    | (rename_i hq; obtain ⟨_, rfl⟩ := Prod.mk.inj hq)

/-- May change: tnet, mem, poison, faults, power, radio, slot, mac, sec, gnss, rtc, evr, memctl, flash, core0, core1, lgy, tag, host, pke, pins, free, registers of block all. -/
theorem execPushm_goes (core1 : Bool) (mask : Fin 32768) (z : State) : Goes 140737378254845 z (execPushm core1 mask z) := by
  unfold execPushm
  repeat'
    first
    | with_reducible apply Moves.refl
    | with_reducible assumption
    | intro _
    | with_reducible apply goOn_goes
    | with_reducible apply ite_goes
    | with_reducible apply Res.done_moves
    | with_reducible apply Res.fail_moves
    | with_reducible apply Res.wait_moves
    | ((with_reducible apply State.plain_goes); case hs => exact rfl)
    | ((with_reducible apply Moves.by (State.ok_moves _ _ _)); case hs => exact rfl)
    | ((with_reducible apply State.ok_done_pair); (case hp => assumption); case hs => exact rfl)
    | ((with_reducible apply State.ok_fail_pair); (case hp => assumption); case hs => exact rfl)
    | ((with_reducible apply State.ok_wait_pair); (case hp => assumption); case hs => exact rfl)
    | ((with_reducible apply State.pushWords_moves); case hm => exact rfl)
    | (extract_lets +onlyGivenNames x; apply Moves.cut (m := 140737378254845) (z := z) x; (case' h => unfold x); (case' k => (clear_value x; intro _)))
    | (extract_lets +onlyGivenNames x; clear_value x)
    | split
    | (rename_i hq; split at hq)
    | (rename_i hq; obtain ⟨_, rfl⟩ := Prod.mk.inj hq)

/-- May change: mem, poison, faults, power, mac, rtc, evr, memctl, flash, core0, core1, host, free, registers of block 0 4 7 9 11 12 13 18. -/
theorem execPopm_goes (core1 : Bool) (mask : Fin 32768) (parity : List Nat) (z : State) : Goes 37196715915580 z (execPopm core1 mask parity z) := by
  unfold execPopm
  repeat'
    first
    | with_reducible apply Moves.refl
    | with_reducible assumption
    | intro _
    | with_reducible apply goOn_goes
    | with_reducible apply ite_goes
    | with_reducible apply Res.done_moves
    | with_reducible apply Res.fail_moves
    | with_reducible apply Res.wait_moves
    | ((with_reducible apply State.popRegs_moves); case hm => exact rfl)
    | ((with_reducible apply Moves.by (State.setCore_moves _ _ _)); case hs => exact rfl)
    | ((with_reducible apply State.plain_goes); case hs => exact rfl)
    | (extract_lets +onlyGivenNames x; apply Moves.cut (m := 37196715915580) (z := z) x; (case' h => unfold x); (case' k => (clear_value x; intro _)))
    | (extract_lets +onlyGivenNames x; clear_value x)
    | split
    | (rename_i hq; split at hq)
    | (rename_i hq; obtain ⟨_, rfl⟩ := Prod.mk.inj hq)

/-- May change: tnet, mem, poison, faults, power, radio, slot, mac, sec, gnss, rtc, evr, memctl, flash, core0, core1, lgy, tag, host, pke, pins, free, registers of block all. -/
theorem execCas_goes (core1 : Bool) (gd : Fin 16) (ga : Fin 16) (gb : Fin 16) (parity : Fin 32) (z : State) : Goes 140737378254845 z (execCas core1 gd ga gb parity z) := by
  unfold execCas
  repeat'
    first
    | with_reducible apply Moves.refl
    | with_reducible assumption
    | intro _
    | with_reducible apply goOn_goes
    | with_reducible apply ite_goes
    | with_reducible apply Res.done_moves
    | with_reducible apply Res.fail_moves
    | with_reducible apply Res.wait_moves
    | ((with_reducible apply Moves.by (State.load_moves _ _ _ _ _)); case hs => exact rfl)
    | ((with_reducible apply State.load_data_pair); (case hp => assumption); case hs => exact rfl)
    | ((with_reducible apply State.load_fail_pair); (case hp => assumption); case hs => exact rfl)
    | ((with_reducible apply State.load_wait_pair); (case hp => assumption); case hs => exact rfl)
    | ((with_reducible apply Moves.by (State.store_moves _ _ _ _ _ _ _)); case hs => exact rfl)
    | ((with_reducible apply State.store_done_pair); (case hp => assumption); case hs => exact rfl)
    | ((with_reducible apply State.store_fail_pair); (case hp => assumption); case hs => exact rfl)
    | ((with_reducible apply State.store_wait_pair); (case hp => assumption); case hs => exact rfl)
    | ((with_reducible apply Moves.by (State.setCore_moves _ _ _)); case hs => exact rfl)
    | ((with_reducible apply State.plain_goes); case hs => exact rfl)
    | with_reducible apply ite_moves
    | (extract_lets +onlyGivenNames x; apply Moves.cut (m := 140737378254845) (z := z) x; (case' h => unfold x); (case' k => (clear_value x; intro _)))
    | (extract_lets +onlyGivenNames x; clear_value x)
    | split
    | (rename_i hq; split at hq)
    | (rename_i hq; obtain ⟨_, rfl⟩ := Prod.mk.inj hq)

/-- May change: mem, poison, faults, power, mac, rtc, evr, memctl, flash, core0, core1, host, free, registers of block 0 4 7 9 11 12 13 18. -/
theorem execBr_goes (core1 : Bool) (off : Fin 67108864) (z : State) : Goes 37196715915580 z (execBr core1 off z) := by
  unfold execBr
  repeat'
    first
    | with_reducible apply Moves.refl
    | with_reducible assumption
    | intro _
    | with_reducible apply goOn_goes
    | with_reducible apply ite_goes
    | with_reducible apply Res.done_moves
    | with_reducible apply Res.fail_moves
    | with_reducible apply Res.wait_moves
    | ((with_reducible apply State.branch_goes); case hs => exact rfl)
    | (extract_lets +onlyGivenNames x; apply Moves.cut (m := 37196715915580) (z := z) x; (case' h => unfold x); (case' k => (clear_value x; intro _)))
    | (extract_lets +onlyGivenNames x; clear_value x)
    | split
    | (rename_i hq; split at hq)
    | (rename_i hq; obtain ⟨_, rfl⟩ := Prod.mk.inj hq)

/-- May change: mem, poison, faults, power, mac, rtc, evr, memctl, flash, core0, core1, host, free, registers of block 0 4 7 9 11 12 13 18. -/
theorem execBt_goes (core1 : Bool) (ga : Fin 16) (off : Fin 4194304) (z : State) : Goes 37196715915580 z (execBt core1 ga off z) := by
  unfold execBt
  repeat'
    first
    | with_reducible apply Moves.refl
    | with_reducible assumption
    | intro _
    | with_reducible apply goOn_goes
    | with_reducible apply ite_goes
    | with_reducible apply Res.done_moves
    | with_reducible apply Res.fail_moves
    | with_reducible apply Res.wait_moves
    | ((with_reducible apply Goes.by (State.branchIf_goes _ _ _ _ _)); case hs => exact rfl)
    | with_reducible apply ite_moves
    | (extract_lets +onlyGivenNames x; apply Moves.cut (m := 37196715915580) (z := z) x; (case' h => unfold x); (case' k => (clear_value x; intro _)))
    | (extract_lets +onlyGivenNames x; clear_value x)
    | split
    | (rename_i hq; split at hq)
    | (rename_i hq; obtain ⟨_, rfl⟩ := Prod.mk.inj hq)

/-- May change: mem, poison, faults, power, mac, rtc, evr, memctl, flash, core0, core1, host, free, registers of block 0 4 7 9 11 12 13 18. -/
theorem execBf_goes (core1 : Bool) (ga : Fin 16) (off : Fin 4194304) (z : State) : Goes 37196715915580 z (execBf core1 ga off z) := by
  unfold execBf
  repeat'
    first
    | with_reducible apply Moves.refl
    | with_reducible assumption
    | intro _
    | with_reducible apply goOn_goes
    | with_reducible apply ite_goes
    | with_reducible apply Res.done_moves
    | with_reducible apply Res.fail_moves
    | with_reducible apply Res.wait_moves
    | ((with_reducible apply Goes.by (State.branchIf_goes _ _ _ _ _)); case hs => exact rfl)
    | with_reducible apply ite_moves
    | (extract_lets +onlyGivenNames x; apply Moves.cut (m := 37196715915580) (z := z) x; (case' h => unfold x); (case' k => (clear_value x; intro _)))
    | (extract_lets +onlyGivenNames x; clear_value x)
    | split
    | (rename_i hq; split at hq)
    | (rename_i hq; obtain ⟨_, rfl⟩ := Prod.mk.inj hq)

/-- May change: mem, poison, faults, power, mac, rtc, evr, memctl, flash, core0, core1, host, free, registers of block 0 4 7 9 11 12 13 18. -/
theorem execJmp_goes (core1 : Bool) (ga : Fin 16) (z : State) : Goes 37196715915580 z (execJmp core1 ga z) := by
  unfold execJmp
  repeat'
    first
    | with_reducible apply Moves.refl
    | with_reducible assumption
    | intro _
    | with_reducible apply goOn_goes
    | with_reducible apply ite_goes
    | with_reducible apply Res.done_moves
    | with_reducible apply Res.fail_moves
    | with_reducible apply Res.wait_moves
    | ((with_reducible apply State.branch_goes); case hs => exact rfl)
    | with_reducible apply ite_moves
    | (extract_lets +onlyGivenNames x; apply Moves.cut (m := 37196715915580) (z := z) x; (case' h => unfold x); (case' k => (clear_value x; intro _)))
    | (extract_lets +onlyGivenNames x; clear_value x)
    | split
    | (rename_i hq; split at hq)
    | (rename_i hq; obtain ⟨_, rfl⟩ := Prod.mk.inj hq)

/-- May change: tnet, mem, poison, faults, power, radio, slot, mac, sec, gnss, rtc, evr, memctl, flash, core0, core1, lgy, tag, host, pke, pins, free, registers of block all. -/
theorem execCall_goes (core1 : Bool) (gt : Fin 16) (mask : Fin 32768) (z : State) : Goes 140737378254845 z (execCall core1 gt mask z) := by
  unfold execCall
  repeat'
    first
    | with_reducible apply Moves.refl
    | with_reducible assumption
    | intro _
    | with_reducible apply goOn_goes
    | with_reducible apply ite_goes
    | with_reducible apply Res.done_moves
    | with_reducible apply Res.fail_moves
    | with_reducible apply Res.wait_moves
    | ((with_reducible apply Moves.by (State.setCore_moves _ _ _)); case hs => exact rfl)
    | ((with_reducible apply State.pushWords_moves); case hm => exact rfl)
    | ((with_reducible apply State.branch_goes); case hs => exact rfl)
    | with_reducible apply ite_moves
    | (extract_lets +onlyGivenNames x; apply Moves.cut (m := 140737378254845) (z := z) x; (case' h => unfold x); (case' k => (clear_value x; intro _)))
    | (extract_lets +onlyGivenNames x; clear_value x)
    | split
    | (rename_i hq; split at hq)
    | (rename_i hq; obtain ⟨_, rfl⟩ := Prod.mk.inj hq)

/-- May change: mem, poison, faults, power, mac, rtc, evr, memctl, flash, core0, core1, host, free, registers of block 0 4 7 9 11 12 13 18. -/
theorem execRet_goes (core1 : Bool) (parity : List Nat) (z : State) : Goes 37196715915580 z (execRet core1 parity z) := by
  unfold execRet
  repeat'
    first
    | with_reducible apply Moves.refl
    | with_reducible assumption
    | intro _
    | with_reducible apply goOn_goes
    | with_reducible apply ite_goes
    | with_reducible apply Res.done_moves
    | with_reducible apply Res.fail_moves
    | with_reducible apply Res.wait_moves
    | ((with_reducible apply State.popRegs_moves); case hm => exact rfl)
    | ((with_reducible apply Moves.by (State.load_moves _ _ _ _ _)); case hs => exact rfl)
    | ((with_reducible apply State.load_data_pair); (case hp => assumption); case hs => exact rfl)
    | ((with_reducible apply State.load_fail_pair); (case hp => assumption); case hs => exact rfl)
    | ((with_reducible apply State.load_wait_pair); (case hp => assumption); case hs => exact rfl)
    | ((with_reducible apply Moves.by (State.setCore_moves _ _ _)); case hs => exact rfl)
    | ((with_reducible apply State.branch_goes); case hs => exact rfl)
    | with_reducible apply ite_moves
    | (extract_lets +onlyGivenNames x; apply Moves.cut (m := 37196715915580) (z := z) x; (case' h => unfold x); (case' k => (clear_value x; intro _)))
    | (extract_lets +onlyGivenNames x; clear_value x)
    | split
    | (rename_i hq; split at hq)
    | (rename_i hq; obtain ⟨_, rfl⟩ := Prod.mk.inj hq)

/-- May change: mem, poison, faults, power, mac, rtc, evr, memctl, flash, core0, core1, host, free, registers of block 0 4 7 9 11 12 13 18. -/
theorem execTrap_goes (core1 : Bool) (arg : Fin 256) (z : State) : Goes 37196715915580 z (execTrap core1 arg z) := by
  unfold execTrap
  repeat'
    first
    | with_reducible apply Moves.refl
    | with_reducible assumption
    | intro _
    | with_reducible apply goOn_goes
    | with_reducible apply ite_goes
    | with_reducible apply Res.done_moves
    | with_reducible apply Res.fail_moves
    | with_reducible apply Res.wait_moves
    | ((with_reducible apply State.branch_goes); case hs => exact rfl)
    | (extract_lets +onlyGivenNames x; apply Moves.cut (m := 37196715915580) (z := z) x; (case' h => unfold x); (case' k => (clear_value x; intro _)))
    | (extract_lets +onlyGivenNames x; clear_value x)
    | split
    | (rename_i hq; split at hq)
    | (rename_i hq; obtain ⟨_, rfl⟩ := Prod.mk.inj hq)

/-- May change: mem, poison, faults, power, mac, rtc, evr, memctl, flash, core0, core1, host, free, registers of block 0 4 7 9 11 12 13 18. -/
theorem execBkpt_goes (core1 : Bool) (z : State) : Goes 37196715915580 z (execBkpt core1 z) := by
  unfold execBkpt
  repeat'
    first
    | with_reducible apply Moves.refl
    | with_reducible assumption
    | intro _
    | with_reducible apply goOn_goes
    | with_reducible apply ite_goes
    | with_reducible apply Res.done_moves
    | with_reducible apply Res.fail_moves
    | with_reducible apply Res.wait_moves
    | ((with_reducible apply State.plain_goes); case hs => exact rfl)
    | (extract_lets +onlyGivenNames x; apply Moves.cut (m := 37196715915580) (z := z) x; (case' h => unfold x); (case' k => (clear_value x; intro _)))
    | (extract_lets +onlyGivenNames x; clear_value x)
    | split
    | (rename_i hq; split at hq)
    | (rename_i hq; obtain ⟨_, rfl⟩ := Prod.mk.inj hq)

/-- May change: mem, poison, faults, power, mac, rtc, evr, memctl, flash, core0, core1, host, free, registers of block 0 4 7 9 11 12 13 18. -/
theorem execWait_goes (core1 : Bool) (z : State) : Goes 37196715915580 z (execWait core1 z) := by
  unfold execWait
  repeat'
    first
    | with_reducible apply Moves.refl
    | with_reducible assumption
    | intro _
    | with_reducible apply goOn_goes
    | with_reducible apply ite_goes
    | with_reducible apply Res.done_moves
    | with_reducible apply Res.fail_moves
    | with_reducible apply Res.wait_moves
    | ((with_reducible apply Moves.by (State.coreWait_moves _ _)); case hs => exact rfl)
    | ((with_reducible apply State.plain_goes); case hs => exact rfl)
    | (extract_lets +onlyGivenNames x; apply Moves.cut (m := 37196715915580) (z := z) x; (case' h => unfold x); (case' k => (clear_value x; intro _)))
    | (extract_lets +onlyGivenNames x; clear_value x)
    | split
    | (rename_i hq; split at hq)
    | (rename_i hq; obtain ⟨_, rfl⟩ := Prod.mk.inj hq)

/-- May change: mem, poison, faults, power, mac, rtc, evr, memctl, flash, core0, core1, host, free, registers of block 0 4 7 9 11 12 13 18. -/
theorem execWaitWake_goes (core1 : Bool) (z : State) : Goes 37196715915580 z (execWaitWake core1 z) := by
  unfold execWaitWake
  repeat'
    first
    | with_reducible apply Moves.refl
    | with_reducible assumption
    | intro _
    | with_reducible apply goOn_goes
    | with_reducible apply ite_goes
    | with_reducible apply Res.done_moves
    | with_reducible apply Res.fail_moves
    | with_reducible apply Res.wait_moves
    | ((with_reducible apply Moves.by (State.coreBoundary_moves _ _)); case hs => exact rfl)
    | ((with_reducible apply State.coreBoundary_pair); (case hp => assumption); case hs => exact rfl)
    | ((with_reducible apply Moves.by (State.setCore_moves _ _ _)); case hs => exact rfl)
    | ((with_reducible apply Moves.by (State.with_power_moves _ _)); case hs => exact rfl)
    | rw [State.with_power_eq]
    | with_reducible apply ite_moves
    | (extract_lets +onlyGivenNames x; apply Moves.cut (m := 37196715915580) (z := z) x; (case' h => unfold x); (case' k => (clear_value x; intro _)))
    | (extract_lets +onlyGivenNames x; clear_value x)
    | split
    | (rename_i hq; split at hq)
    | (rename_i hq; obtain ⟨_, rfl⟩ := Prod.mk.inj hq)

/-- May change: mem, poison, faults, power, mac, rtc, evr, memctl, flash, core0, core1, host, free, registers of block 0 4 7 9 11 12 13 18. -/
theorem execFence_goes (core1 : Bool) (z : State) : Goes 37196715915580 z (execFence core1 z) := by
  unfold execFence
  repeat'
    first
    | with_reducible apply Moves.refl
    | with_reducible assumption
    | intro _
    | with_reducible apply goOn_goes
    | with_reducible apply ite_goes
    | with_reducible apply Res.done_moves
    | with_reducible apply Res.fail_moves
    | with_reducible apply Res.wait_moves
    | ((with_reducible apply State.plain_goes); case hs => exact rfl)
    | (extract_lets +onlyGivenNames x; apply Moves.cut (m := 37196715915580) (z := z) x; (case' h => unfold x); (case' k => (clear_value x; intro _)))
    | (extract_lets +onlyGivenNames x; clear_value x)
    | split
    | (rename_i hq; split at hq)
    | (rename_i hq; obtain ⟨_, rfl⟩ := Prod.mk.inj hq)

/-- May change: mem, poison, faults, power, mac, rtc, evr, memctl, flash, core0, core1, host, free, registers of block 0 4 7 9 11 12 13 18. -/
theorem execEret_goes (core1 : Bool) (z : State) : Goes 37196715915580 z (execEret core1 z) := by
  unfold execEret
  repeat'
    first
    | with_reducible apply Moves.refl
    | with_reducible assumption
    | intro _
    | with_reducible apply goOn_goes
    | with_reducible apply ite_goes
    | with_reducible apply Res.done_moves
    | with_reducible apply Res.fail_moves
    | with_reducible apply Res.wait_moves
    | ((with_reducible apply Moves.by (State.setCore_moves _ _ _)); case hs => exact rfl)
    | ((with_reducible apply State.branch_goes); case hs => exact rfl)
    | with_reducible apply ite_moves
    | (extract_lets +onlyGivenNames x; apply Moves.cut (m := 37196715915580) (z := z) x; (case' h => unfold x); (case' k => (clear_value x; intro _)))
    | (extract_lets +onlyGivenNames x; clear_value x)
    | split
    | (rename_i hq; split at hq)
    | (rename_i hq; obtain ⟨_, rfl⟩ := Prod.mk.inj hq)

/-- May change: mem, poison, faults, power, mac, rtc, evr, memctl, flash, core0, core1, host, free, registers of block 0 4 7 9 11 12 13 18. -/
theorem execMfs_goes (core1 : Bool) (gd : Fin 16) (arg : Fin 256) (z : State) : Goes 37196715915580 z (execMfs core1 gd arg z) := by
  unfold execMfs
  repeat'
    first
    | with_reducible apply Moves.refl
    | with_reducible assumption
    | intro _
    | with_reducible apply goOn_goes
    | with_reducible apply ite_goes
    | with_reducible apply Res.done_moves
    | with_reducible apply Res.fail_moves
    | with_reducible apply Res.wait_moves
    | ((with_reducible apply Moves.by (State.sysRead_moves _ _ _)); case hs => exact rfl)
    | ((with_reducible apply State.sysRead_pair); (case hp => assumption); case hs => exact rfl)
    | ((with_reducible apply State.plain_goes); case hs => exact rfl)
    | ((with_reducible apply Moves.by (State.ok_moves _ _ _)); case hs => exact rfl)
    | ((with_reducible apply State.ok_done_pair); (case hp => assumption); case hs => exact rfl)
    | ((with_reducible apply State.ok_fail_pair); (case hp => assumption); case hs => exact rfl)
    | ((with_reducible apply State.ok_wait_pair); (case hp => assumption); case hs => exact rfl)
    | with_reducible apply ite_moves
    | (extract_lets +onlyGivenNames x; apply Moves.cut (m := 37196715915580) (z := z) x; (case' h => unfold x); (case' k => (clear_value x; intro _)))
    | (extract_lets +onlyGivenNames x; clear_value x)
    | split
    | (rename_i hq; split at hq)
    | (rename_i hq; obtain ⟨_, rfl⟩ := Prod.mk.inj hq)

/-- May change: mem, poison, faults, power, mac, rtc, evr, memctl, flash, core0, core1, host, free, registers of block 0 4 7 9 11 12 13 18. -/
theorem execMts_goes (core1 : Bool) (ga : Fin 16) (arg : Fin 256) (z : State) : Goes 37196715915580 z (execMts core1 ga arg z) := by
  unfold execMts
  repeat'
    first
    | with_reducible apply Moves.refl
    | with_reducible assumption
    | intro _
    | with_reducible apply goOn_goes
    | with_reducible apply ite_goes
    | with_reducible apply Res.done_moves
    | with_reducible apply Res.fail_moves
    | with_reducible apply Res.wait_moves
    | ((with_reducible apply State.plain_goes); case hs => exact rfl)
    | ((with_reducible apply Moves.by (State.sysWrite_moves _ _ _ _)); case hs => exact rfl)
    | with_reducible apply ite_moves
    | (extract_lets +onlyGivenNames x; apply Moves.cut (m := 37196715915580) (z := z) x; (case' h => unfold x); (case' k => (clear_value x; intro _)))
    | (extract_lets +onlyGivenNames x; clear_value x)
    | split
    | (rename_i hq; split at hq)
    | (rename_i hq; obtain ⟨_, rfl⟩ := Prod.mk.inj hq)

/-- May change: mem, poison, faults, power, mac, rtc, evr, memctl, flash, core0, core1, host, free, registers of block 0 4 7 9 11 12 13 18. -/
theorem execSegw_goes (core1 : Bool) (gd : Fin 16) (ga : Fin 16) (gb : Fin 16) (seg : Fin 16) (z : State) : Goes 37196715915580 z (execSegw core1 gd ga gb seg z) := by
  unfold execSegw
  repeat'
    first
    | with_reducible apply Moves.refl
    | with_reducible assumption
    | intro _
    | with_reducible apply goOn_goes
    | with_reducible apply ite_goes
    | with_reducible apply Res.done_moves
    | with_reducible apply Res.fail_moves
    | with_reducible apply Res.wait_moves
    | ((with_reducible apply Moves.by (State.okIf_moves _ _ _ _)); case hs => exact rfl)
    | ((with_reducible apply State.okIf_done_pair); (case hp => assumption); case hs => exact rfl)
    | ((with_reducible apply State.okIf_fail_pair); (case hp => assumption); case hs => exact rfl)
    | ((with_reducible apply State.okIf_wait_pair); (case hp => assumption); case hs => exact rfl)
    | ((with_reducible apply State.plain_goes); case hs => exact rfl)
    | (extract_lets +onlyGivenNames x; apply Moves.cut (m := 37196715915580) (z := z) x; (case' h => unfold x); (case' k => (clear_value x; intro _)))
    | (extract_lets +onlyGivenNames x; clear_value x)
    | split
    | (rename_i hq; split at hq)
    | (rename_i hq; obtain ⟨_, rfl⟩ := Prod.mk.inj hq)

/-- May change: mem, poison, faults, power, mac, rtc, evr, memctl, flash, core0, core1, host, free, registers of block 0 4 7 9 11 12 13 18. -/
theorem execSegr_goes (core1 : Bool) (gd : Fin 16) (seg : Fin 16) (part : Fin 3) (z : State) : Goes 37196715915580 z (execSegr core1 gd seg part z) := by
  unfold execSegr
  repeat'
    first
    | with_reducible apply Moves.refl
    | with_reducible assumption
    | intro _
    | with_reducible apply goOn_goes
    | with_reducible apply ite_goes
    | with_reducible apply Res.done_moves
    | with_reducible apply Res.fail_moves
    | with_reducible apply Res.wait_moves
    | ((with_reducible apply Moves.by (State.okIf_moves _ _ _ _)); case hs => exact rfl)
    | ((with_reducible apply State.okIf_done_pair); (case hp => assumption); case hs => exact rfl)
    | ((with_reducible apply State.okIf_fail_pair); (case hp => assumption); case hs => exact rfl)
    | ((with_reducible apply State.okIf_wait_pair); (case hp => assumption); case hs => exact rfl)
    | ((with_reducible apply State.plain_goes); case hs => exact rfl)
    | (extract_lets +onlyGivenNames x; apply Moves.cut (m := 37196715915580) (z := z) x; (case' h => unfold x); (case' k => (clear_value x; intro _)))
    | (extract_lets +onlyGivenNames x; clear_value x)
    | split
    | (rename_i hq; split at hq)
    | (rename_i hq; obtain ⟨_, rfl⟩ := Prod.mk.inj hq)

/-- May change: mem, poison, faults, power, mac, rtc, evr, memctl, flash, core0, core1, host, free, registers of block 0 4 7 9 11 12 13 18. -/
theorem execIena_goes (core1 : Bool) (z : State) : Goes 37196715915580 z (execIena core1 z) := by
  unfold execIena
  repeat'
    first
    | with_reducible apply Moves.refl
    | with_reducible assumption
    | intro _
    | with_reducible apply goOn_goes
    | with_reducible apply ite_goes
    | with_reducible apply Res.done_moves
    | with_reducible apply Res.fail_moves
    | with_reducible apply Res.wait_moves
    | ((with_reducible apply Moves.by (State.okIf_moves _ _ _ _)); case hs => exact rfl)
    | ((with_reducible apply State.okIf_done_pair); (case hp => assumption); case hs => exact rfl)
    | ((with_reducible apply State.okIf_fail_pair); (case hp => assumption); case hs => exact rfl)
    | ((with_reducible apply State.okIf_wait_pair); (case hp => assumption); case hs => exact rfl)
    | ((with_reducible apply State.plain_goes); case hs => exact rfl)
    | (extract_lets +onlyGivenNames x; apply Moves.cut (m := 37196715915580) (z := z) x; (case' h => unfold x); (case' k => (clear_value x; intro _)))
    | (extract_lets +onlyGivenNames x; clear_value x)
    | split
    | (rename_i hq; split at hq)
    | (rename_i hq; obtain ⟨_, rfl⟩ := Prod.mk.inj hq)

/-- May change: mem, poison, faults, power, mac, rtc, evr, memctl, flash, core0, core1, host, free, registers of block 0 4 7 9 11 12 13 18. -/
theorem execIdis_goes (core1 : Bool) (z : State) : Goes 37196715915580 z (execIdis core1 z) := by
  unfold execIdis
  repeat'
    first
    | with_reducible apply Moves.refl
    | with_reducible assumption
    | intro _
    | with_reducible apply goOn_goes
    | with_reducible apply ite_goes
    | with_reducible apply Res.done_moves
    | with_reducible apply Res.fail_moves
    | with_reducible apply Res.wait_moves
    | ((with_reducible apply Moves.by (State.okIf_moves _ _ _ _)); case hs => exact rfl)
    | ((with_reducible apply State.okIf_done_pair); (case hp => assumption); case hs => exact rfl)
    | ((with_reducible apply State.okIf_fail_pair); (case hp => assumption); case hs => exact rfl)
    | ((with_reducible apply State.okIf_wait_pair); (case hp => assumption); case hs => exact rfl)
    | ((with_reducible apply State.plain_goes); case hs => exact rfl)
    | (extract_lets +onlyGivenNames x; apply Moves.cut (m := 37196715915580) (z := z) x; (case' h => unfold x); (case' k => (clear_value x; intro _)))
    | (extract_lets +onlyGivenNames x; clear_value x)
    | split
    | (rename_i hq; split at hq)
    | (rename_i hq; obtain ⟨_, rfl⟩ := Prod.mk.inj hq)

/-- May change: mem, poison, faults, power, mac, rtc, evr, memctl, flash, core0, core1, host, free, registers of block 0 4 7 9 11 12 13 18. -/
theorem execIllegal_goes (core1 : Bool) (z : State) : Goes 37196715915580 z (execIllegal core1 z) := by
  unfold execIllegal
  repeat'
    first
    | with_reducible apply Moves.refl
    | with_reducible assumption
    | intro _
    | with_reducible apply goOn_goes
    | with_reducible apply ite_goes
    | with_reducible apply Res.done_moves
    | with_reducible apply Res.fail_moves
    | with_reducible apply Res.wait_moves
    | ((with_reducible apply State.plain_goes); case hs => exact rfl)
    | (extract_lets +onlyGivenNames x; apply Moves.cut (m := 37196715915580) (z := z) x; (case' h => unfold x); (case' k => (clear_value x; intro _)))
    | (extract_lets +onlyGivenNames x; clear_value x)
    | split
    | (rename_i hq; split at hq)
    | (rename_i hq; obtain ⟨_, rfl⟩ := Prod.mk.inj hq)

/-- May change: mem, poison, faults, power, mac, rtc, evr, memctl, flash, core0, core1, host, free, registers of block 0 4 7 9 11 12 13 18. -/
theorem execInterruptEntry_goes (core1 : Bool) (z : State) : Goes 37196715915580 z (execInterruptEntry core1 z) := by
  unfold execInterruptEntry
  repeat'
    first
    | with_reducible apply Moves.refl
    | with_reducible assumption
    | intro _
    | with_reducible apply goOn_goes
    | with_reducible apply ite_goes
    | with_reducible apply Res.done_moves
    | with_reducible apply Res.fail_moves
    | with_reducible apply Res.wait_moves
    | ((with_reducible apply Moves.by (State.coreBoundary_moves _ _)); case hs => exact rfl)
    | ((with_reducible apply State.coreBoundary_pair); (case hp => assumption); case hs => exact rfl)
    | (extract_lets +onlyGivenNames x; apply Moves.cut (m := 37196715915580) (z := z) x; (case' h => unfold x); (case' k => (clear_value x; intro _)))
    | (extract_lets +onlyGivenNames x; clear_value x)
    | split
    | (rename_i hq; split at hq)
    | (rename_i hq; obtain ⟨_, rfl⟩ := Prod.mk.inj hq)

/-- May change: mem, poison, faults, power, mac, rtc, evr, memctl, flash, core0, core1, host, free, registers of block 0 4 7 9 11 12 13 18. -/
theorem execImpreciseBusError_goes (core1 : Bool) (z : State) : Goes 37196715915580 z (execImpreciseBusError core1 z) := by
  unfold execImpreciseBusError
  repeat'
    first
    | with_reducible apply Moves.refl
    | with_reducible assumption
    | intro _
    | with_reducible apply goOn_goes
    | with_reducible apply ite_goes
    | with_reducible apply Res.done_moves
    | with_reducible apply Res.fail_moves
    | with_reducible apply Res.wait_moves
    | ((with_reducible apply Moves.by (State.reportStore_moves _ _ _)); case hs => exact rfl)
    | (extract_lets +onlyGivenNames x; apply Moves.cut (m := 37196715915580) (z := z) x; (case' h => unfold x); (case' k => (clear_value x; intro _)))
    | (extract_lets +onlyGivenNames x; clear_value x)
    | split
    | (rename_i hq; split at hq)
    | (rename_i hq; obtain ⟨_, rfl⟩ := Prod.mk.inj hq)

/-- May change: tnet, mem, poison, faults, power, radio, slot, mac, sec, gnss, rtc, evr, memctl, flash, core0, core1, lgy, tag, host, pke, pins, free, registers of block all. -/
theorem execDebugHalt_goes (core1 : Bool) (op : DebugOp) (z : State) : Goes 140737378254845 z (execDebugHalt core1 op z) := by
  unfold execDebugHalt
  repeat'
    first
    | with_reducible apply Moves.refl
    | with_reducible assumption
    | intro _
    | with_reducible apply goOn_goes
    | with_reducible apply ite_goes
    | with_reducible apply Res.done_moves
    | with_reducible apply Res.fail_moves
    | with_reducible apply Res.wait_moves
    | ((with_reducible apply Moves.by (State.debugPort_moves _ _ _)); case hs => exact rfl)
    | (extract_lets +onlyGivenNames x; apply Moves.cut (m := 140737378254845) (z := z) x; (case' h => unfold x); (case' k => (clear_value x; intro _)))
    | (extract_lets +onlyGivenNames x; clear_value x)
    | split
    | (rename_i hq; split at hq)
    | (rename_i hq; obtain ⟨_, rfl⟩ := Prod.mk.inj hq)

/-- May change: core0, core1. -/
theorem execDebugResume_goes (core1 : Bool) (z : State) : Goes 98304 z (execDebugResume core1 z) := by
  unfold execDebugResume
  repeat'
    first
    | with_reducible apply Moves.refl
    | with_reducible assumption
    | intro _
    | with_reducible apply goOn_goes
    | with_reducible apply ite_goes
    | with_reducible apply Res.done_moves
    | with_reducible apply Res.fail_moves
    | with_reducible apply Res.wait_moves
    | ((with_reducible apply Moves.by (State.setCore_moves _ _ _)); case hs => exact rfl)
    | (extract_lets +onlyGivenNames x; apply Moves.cut (m := 98304) (z := z) x; (case' h => unfold x); (case' k => (clear_value x; intro _)))
    | (extract_lets +onlyGivenNames x; clear_value x)
    | split
    | (rename_i hq; split at hq)
    | (rename_i hq; obtain ⟨_, rfl⟩ := Prod.mk.inj hq)

/-- May change: core1. -/
theorem execCore1Run_goes (z : State) : Goes 65536 z (execCore1Run z) := by
  unfold execCore1Run
  repeat'
    first
    | with_reducible apply Moves.refl
    | with_reducible assumption
    | intro _
    | with_reducible apply goOn_goes
    | with_reducible apply ite_goes
    | with_reducible apply Res.done_moves
    | with_reducible apply Res.fail_moves
    | with_reducible apply Res.wait_moves
    | ((with_reducible apply Moves.by (State.coreCtrl_moves _ _)); case hs => exact rfl)
    | (extract_lets +onlyGivenNames x; apply Moves.cut (m := 65536) (z := z) x; (case' h => unfold x); (case' k => (clear_value x; intro _)))
    | (extract_lets +onlyGivenNames x; clear_value x)
    | split
    | (rename_i hq; split at hq)
    | (rename_i hq; obtain ⟨_, rfl⟩ := Prod.mk.inj hq)

/-- May change: core1. -/
theorem execCore1Stop_goes (z : State) : Goes 65536 z (execCore1Stop z) := by
  unfold execCore1Stop
  repeat'
    first
    | with_reducible apply Moves.refl
    | with_reducible assumption
    | intro _
    | with_reducible apply goOn_goes
    | with_reducible apply ite_goes
    | with_reducible apply Res.done_moves
    | with_reducible apply Res.fail_moves
    | with_reducible apply Res.wait_moves
    | ((with_reducible apply Moves.by (State.coreCtrl_moves _ _)); case hs => exact rfl)
    | (extract_lets +onlyGivenNames x; apply Moves.cut (m := 65536) (z := z) x; (case' h => unfold x); (case' k => (clear_value x; intro _)))
    | (extract_lets +onlyGivenNames x; clear_value x)
    | split
    | (rename_i hq; split at hq)
    | (rename_i hq; obtain ⟨_, rfl⟩ := Prod.mk.inj hq)

/-- May change: core1. -/
theorem execGrantWindowWrite_goes (reg : Fin 24) (value : Word) (z : State) : Goes 65536 z (execGrantWindowWrite reg value z) := by
  unfold execGrantWindowWrite
  repeat'
    first
    | with_reducible apply Moves.refl
    | with_reducible assumption
    | intro _
    | with_reducible apply goOn_goes
    | with_reducible apply ite_goes
    | with_reducible apply Res.done_moves
    | with_reducible apply Res.fail_moves
    | with_reducible apply Res.wait_moves
    | ((with_reducible apply Moves.by (State.windowReg_moves _ _ _)); case hs => exact rfl)
    | (extract_lets +onlyGivenNames x; apply Moves.cut (m := 65536) (z := z) x; (case' h => unfold x); (case' k => (clear_value x; intro _)))
    | (extract_lets +onlyGivenNames x; clear_value x)
    | split
    | (rename_i hq; split at hq)
    | (rename_i hq; obtain ⟨_, rfl⟩ := Prod.mk.inj hq)

/-- May change: faults, power, evr, core0, core1, registers of block 0 11 18. -/
theorem execCheckerMismatch_goes (z : State) : Goes 35459384315952 z (execCheckerMismatch z) := by
  unfold execCheckerMismatch
  repeat'
    first
    | with_reducible apply Moves.refl
    | with_reducible assumption
    | intro _
    | with_reducible apply goOn_goes
    | with_reducible apply ite_goes
    | with_reducible apply Res.done_moves
    | with_reducible apply Res.fail_moves
    | with_reducible apply Res.wait_moves
    | ((with_reducible apply Moves.by (State.fatal_moves _ _ _ _ _)); case hs => exact rfl)
    | ((with_reducible apply Moves.by (State.requestReset_moves _ _)); case hs => exact rfl)
    | with_reducible apply ite_moves
    | (extract_lets +onlyGivenNames x; apply Moves.cut (m := 35459384315952) (z := z) x; (case' h => unfold x); (case' k => (clear_value x; intro _)))
    | (extract_lets +onlyGivenNames x; clear_value x)
    | split
    | (rename_i hq; split at hq)
    | (rename_i hq; obtain ⟨_, rfl⟩ := Prod.mk.inj hq)

end Sys2Proof.Machine
end

