-- ==== Sys2Proof/Laws/SloeSignal.lean ====
section
/-! SUPPORT. What the operations of Machine/SloeSignal.lean may change. -/
set_option linter.all false
namespace Sys2Proof.Machine

set_option linter.tactic.unusedName false

/-- May change: core0, core1. -/
theorem State.toAcc_moves (z : State) (c1 : Bool) (ts : List Trap) (an : Nat) (v : Int) : Moves 98304 z (State.toAcc z c1 ts an v).state := by
  unfold State.toAcc
  repeat'
    first
    | with_reducible apply Moves.refl
    | with_reducible assumption
    | intro _
    | with_reducible apply Res.done_moves
    | with_reducible apply Res.fail_moves
    | with_reducible apply Res.wait_moves
    | ((with_reducible apply Moves.by (State.okIf_moves _ _ _ _)); case hs => exact rfl)
    | ((with_reducible apply State.okIf_done_pair); (case hp => assumption); case hs => exact rfl)
    | ((with_reducible apply State.okIf_fail_pair); (case hp => assumption); case hs => exact rfl)
    | ((with_reducible apply State.okIf_wait_pair); (case hp => assumption); case hs => exact rfl)
    | with_reducible apply ite_moves
    | (extract_lets +onlyGivenNames x; apply Moves.cut (m := 98304) (z := z) x; (case' h => unfold x); (case' k => (clear_value x; intro _)))
    | (extract_lets +onlyGivenNames x; clear_value x)
    | split
    | (rename_i hq; split at hq)
    | (rename_i hq; obtain ⟨_, rfl⟩ := Prod.mk.inj hq)

theorem State.toAcc_done_pair {z : State} {c1 : Bool} {ts : List Trap} {an : Nat} {v : Int} {b1 : Option Word} {b2 : List (Word × Bool)} {u0 : State} {m0 : Nat} {r0 : State} (hp : State.toAcc z c1 ts an v = .done u0 b1 b2) (hs : sub 98304 m0 = true) (h : Moves m0 r0 z) : Moves m0 r0 u0 := by
  have g := State.toAcc_moves z c1 ts an v
  rw [hp] at g
  exact h.step g hs

theorem State.toAcc_fail_pair {z : State} {c1 : Bool} {ts : List Trap} {an : Nat} {v : Int} {b1 : List Trap} {u0 : State} {m0 : Nat} {r0 : State} (hp : State.toAcc z c1 ts an v = .fail u0 b1) (hs : sub 98304 m0 = true) (h : Moves m0 r0 z) : Moves m0 r0 u0 := by
  have g := State.toAcc_moves z c1 ts an v
  rw [hp] at g
  exact h.step g hs

theorem State.toAcc_wait_pair {z : State} {c1 : Bool} {ts : List Trap} {an : Nat} {v : Int} {u0 : State} {m0 : Nat} {r0 : State} (hp : State.toAcc z c1 ts an v = .wait u0) (hs : sub 98304 m0 = true) (h : Moves m0 r0 z) : Moves m0 r0 u0 := by
  have g := State.toAcc_moves z c1 ts an v
  rw [hp] at g
  exact h.step g hs

/-- May change: core0, core1. -/
theorem State.toReg_moves (z : State) (c1 : Bool) (ts : List Trap) (gd : Nat) (v : Int) : Moves 98304 z (State.toReg z c1 ts gd v).state := by
  unfold State.toReg
  repeat'
    first
    | with_reducible apply Moves.refl
    | with_reducible assumption
    | intro _
    | with_reducible apply Res.done_moves
    | with_reducible apply Res.fail_moves
    | with_reducible apply Res.wait_moves
    | ((with_reducible apply Moves.by (State.okIf_moves _ _ _ _)); case hs => exact rfl)
    | ((with_reducible apply State.okIf_done_pair); (case hp => assumption); case hs => exact rfl)
    | ((with_reducible apply State.okIf_fail_pair); (case hp => assumption); case hs => exact rfl)
    | ((with_reducible apply State.okIf_wait_pair); (case hp => assumption); case hs => exact rfl)
    | with_reducible apply ite_moves
    | (extract_lets +onlyGivenNames x; apply Moves.cut (m := 98304) (z := z) x; (case' h => unfold x); (case' k => (clear_value x; intro _)))
    | (extract_lets +onlyGivenNames x; clear_value x)
    | split
    | (rename_i hq; split at hq)
    | (rename_i hq; obtain ⟨_, rfl⟩ := Prod.mk.inj hq)

theorem State.toReg_done_pair {z : State} {c1 : Bool} {ts : List Trap} {gd : Nat} {v : Int} {b1 : Option Word} {b2 : List (Word × Bool)} {u0 : State} {m0 : Nat} {r0 : State} (hp : State.toReg z c1 ts gd v = .done u0 b1 b2) (hs : sub 98304 m0 = true) (h : Moves m0 r0 z) : Moves m0 r0 u0 := by
  have g := State.toReg_moves z c1 ts gd v
  rw [hp] at g
  exact h.step g hs

theorem State.toReg_fail_pair {z : State} {c1 : Bool} {ts : List Trap} {gd : Nat} {v : Int} {b1 : List Trap} {u0 : State} {m0 : Nat} {r0 : State} (hp : State.toReg z c1 ts gd v = .fail u0 b1) (hs : sub 98304 m0 = true) (h : Moves m0 r0 z) : Moves m0 r0 u0 := by
  have g := State.toReg_moves z c1 ts gd v
  rw [hp] at g
  exact h.step g hs

theorem State.toReg_wait_pair {z : State} {c1 : Bool} {ts : List Trap} {gd : Nat} {v : Int} {u0 : State} {m0 : Nat} {r0 : State} (hp : State.toReg z c1 ts gd v = .wait u0) (hs : sub 98304 m0 = true) (h : Moves m0 r0 z) : Moves m0 r0 u0 := by
  have g := State.toReg_moves z c1 ts gd v
  rw [hp] at g
  exact h.step g hs

/-- May change: mem, poison, faults, power, mac, rtc, evr, memctl, flash, core0, core1, host, free, registers of block 0 4 7 9 11 12 13 18. -/
theorem State.productOp_goes (z : State) (c1 : Bool) (an : Nat) (ga : Nat) (gb : Nat) (f : Int → Int → Int) : Goes 37196715915580 z (State.productOp z c1 an ga gb f) := by
  unfold State.productOp
  repeat'
    first
    | with_reducible apply Moves.refl
    | with_reducible assumption
    | intro _
    | with_reducible apply goOn_goes
    | with_reducible apply ite_goes
    | with_reducible apply Res.done_moves
    | with_reducible apply Res.fail_moves
    | with_reducible apply Res.wait_moves
    | ((with_reducible apply State.plain_goes); case hs => exact rfl)
    | ((with_reducible apply Moves.by (State.toAcc_moves _ _ _ _ _)); case hs => exact rfl)
    | ((with_reducible apply State.toAcc_done_pair); (case hp => assumption); case hs => exact rfl)
    | ((with_reducible apply State.toAcc_fail_pair); (case hp => assumption); case hs => exact rfl)
    | ((with_reducible apply State.toAcc_wait_pair); (case hp => assumption); case hs => exact rfl)
    | (extract_lets +onlyGivenNames x; apply Moves.cut (m := 37196715915580) (z := z) x; (case' h => unfold x); (case' k => (clear_value x; intro _)))
    | (extract_lets +onlyGivenNames x; clear_value x)
    | split
    | (rename_i hq; split at hq)
    | (rename_i hq; obtain ⟨_, rfl⟩ := Prod.mk.inj hq)

/-- May change: mem, poison, faults, power, mac, rtc, evr, memctl, flash, core0, core1, host, free, registers of block 0 4 7 9 11 12 13 18. -/
theorem State.fracOp_goes (z : State) (c1 : Bool) (gd : Nat) (ga : Nat) (gb : Nat) (f : Nat → Int → Int → Int) : Goes 37196715915580 z (State.fracOp z c1 gd ga gb f) := by
  unfold State.fracOp
  repeat'
    first
    | with_reducible apply Moves.refl
    | with_reducible assumption
    | intro _
    | with_reducible apply goOn_goes
    | with_reducible apply ite_goes
    | with_reducible apply Res.done_moves
    | with_reducible apply Res.fail_moves
    | with_reducible apply Res.wait_moves
    | ((with_reducible apply Moves.by (State.toReg_moves _ _ _ _ _)); case hs => exact rfl)
    | ((with_reducible apply State.toReg_done_pair); (case hp => assumption); case hs => exact rfl)
    | ((with_reducible apply State.toReg_fail_pair); (case hp => assumption); case hs => exact rfl)
    | ((with_reducible apply State.toReg_wait_pair); (case hp => assumption); case hs => exact rfl)
    | ((with_reducible apply State.plain_goes); case hs => exact rfl)
    | (extract_lets +onlyGivenNames x; apply Moves.cut (m := 37196715915580) (z := z) x; (case' h => unfold x); (case' k => (clear_value x; intro _)))
    | (extract_lets +onlyGivenNames x; clear_value x)
    | split
    | (rename_i hq; split at hq)
    | (rename_i hq; obtain ⟨_, rfl⟩ := Prod.mk.inj hq)

/-- May change: mem, poison, faults, power, mac, rtc, evr, memctl, flash, core0, core1, host, free, registers of block 0 4 7 9 11 12 13 18. -/
theorem State.accOp_goes (z : State) (c1 : Bool) (an : Nat) (am : Nat) (f : Nat → Int → Int → Int) : Goes 37196715915580 z (State.accOp z c1 an am f) := by
  unfold State.accOp
  repeat'
    first
    | with_reducible apply Moves.refl
    | with_reducible assumption
    | intro _
    | with_reducible apply goOn_goes
    | with_reducible apply ite_goes
    | with_reducible apply Res.done_moves
    | with_reducible apply Res.fail_moves
    | with_reducible apply Res.wait_moves
    | ((with_reducible apply State.plain_goes); case hs => exact rfl)
    | ((with_reducible apply Moves.by (State.toAcc_moves _ _ _ _ _)); case hs => exact rfl)
    | ((with_reducible apply State.toAcc_done_pair); (case hp => assumption); case hs => exact rfl)
    | ((with_reducible apply State.toAcc_fail_pair); (case hp => assumption); case hs => exact rfl)
    | ((with_reducible apply State.toAcc_wait_pair); (case hp => assumption); case hs => exact rfl)
    | (extract_lets +onlyGivenNames x; apply Moves.cut (m := 37196715915580) (z := z) x; (case' h => unfold x); (case' k => (clear_value x; intro _)))
    | (extract_lets +onlyGivenNames x; clear_value x)
    | split
    | (rename_i hq; split at hq)
    | (rename_i hq; obtain ⟨_, rfl⟩ := Prod.mk.inj hq)

/-- May change: tnet, mem, poison, faults, power, radio, slot, mac, sec, gnss, rtc, evr, memctl, flash, core0, core1, lgy, tag, host, pke, pins, free, registers of block all. -/
theorem State.storeAll_moves (z : State) (c1 : Bool) (p : Word) (a3 : List TWord) : Moves 140737378254845 z (State.storeAll z c1 p a3).state := by
  induction a3 generalizing z p with
  | nil =>
  unfold State.storeAll
  repeat'
    first
    | with_reducible apply Moves.refl
    | with_reducible assumption
    | intro _
    | with_reducible apply Res.done_moves
    | with_reducible apply Res.fail_moves
    | with_reducible apply Res.wait_moves
    | with_reducible apply Stored.done_moves
    | with_reducible apply Stored.fail_moves
    | with_reducible apply Stored.wait_moves
    | ((with_reducible apply Moves.by (State.storeRaw_moves _ _ _ _ _ _)); case hs => exact rfl)
    | ((with_reducible apply State.storeRaw_done_pair); (case hp => assumption); case hs => exact rfl)
    | ((with_reducible apply State.storeRaw_fail_pair); (case hp => assumption); case hs => exact rfl)
    | ((with_reducible apply State.storeRaw_wait_pair); (case hp => assumption); case hs => exact rfl)
    | with_reducible apply ite_moves
    | (extract_lets +onlyGivenNames x; apply Moves.cut (m := 140737378254845) (z := z) x; (case' h => unfold x); (case' k => (clear_value x; intro _)))
    | (extract_lets +onlyGivenNames x; clear_value x)
    | split
    | (rename_i hq; split at hq)
    | (rename_i hq; obtain ⟨_, rfl⟩ := Prod.mk.inj hq)
  | cons b bs ih =>
  unfold State.storeAll
  repeat'
    first
    | ((with_reducible apply Moves.by (ih _ _)); case hs => exact rfl)
    | with_reducible apply Moves.refl
    | with_reducible assumption
    | intro _
    | with_reducible apply Res.done_moves
    | with_reducible apply Res.fail_moves
    | with_reducible apply Res.wait_moves
    | with_reducible apply Stored.done_moves
    | with_reducible apply Stored.fail_moves
    | with_reducible apply Stored.wait_moves
    | ((with_reducible apply Moves.by (State.storeRaw_moves _ _ _ _ _ _)); case hs => exact rfl)
    | ((with_reducible apply State.storeRaw_done_pair); (case hp => assumption); case hs => exact rfl)
    | ((with_reducible apply State.storeRaw_fail_pair); (case hp => assumption); case hs => exact rfl)
    | ((with_reducible apply State.storeRaw_wait_pair); (case hp => assumption); case hs => exact rfl)
    | with_reducible apply ite_moves
    | (extract_lets +onlyGivenNames x; apply Moves.cut (m := 140737378254845) (z := z) x; (case' h => unfold x); (case' k => (clear_value x; intro _)))
    | (extract_lets +onlyGivenNames x; clear_value x)
    | split
    | (rename_i hq; split at hq)
    | (rename_i hq; obtain ⟨_, rfl⟩ := Prod.mk.inj hq)

theorem State.storeAll_done_pair {z : State} {c1 : Bool} {p : Word} {a3 : List TWord} {u0 : State} {m0 : Nat} {r0 : State} (hp : State.storeAll z c1 p a3 = .done u0) (hs : sub 140737378254845 m0 = true) (h : Moves m0 r0 z) : Moves m0 r0 u0 := by
  have g := State.storeAll_moves z c1 p a3
  rw [hp] at g
  exact h.step g hs

theorem State.storeAll_fail_pair {z : State} {c1 : Bool} {p : Word} {a3 : List TWord} {b1 : List Trap} {u0 : State} {m0 : Nat} {r0 : State} (hp : State.storeAll z c1 p a3 = .fail u0 b1) (hs : sub 140737378254845 m0 = true) (h : Moves m0 r0 z) : Moves m0 r0 u0 := by
  have g := State.storeAll_moves z c1 p a3
  rw [hp] at g
  exact h.step g hs

theorem State.storeAll_wait_pair {z : State} {c1 : Bool} {p : Word} {a3 : List TWord} {u0 : State} {m0 : Nat} {r0 : State} (hp : State.storeAll z c1 p a3 = .wait u0) (hs : sub 140737378254845 m0 = true) (h : Moves m0 r0 z) : Moves m0 r0 u0 := by
  have g := State.storeAll_moves z c1 p a3
  rw [hp] at g
  exact h.step g hs

/-- May change: mem, poison, faults, power, mac, rtc, evr, memctl, flash, core0, core1, host, free, registers of block 0 4 7 9 11 12 13 18. -/
theorem execMpy_goes (core1 : Bool) (an : Fin 4) (ga : Fin 16) (gb : Fin 16) (z : State) : Goes 37196715915580 z (execMpy core1 an ga gb z) := by
  unfold execMpy
  repeat'
    first
    | with_reducible apply Moves.refl
    | with_reducible assumption
    | intro _
    | with_reducible apply goOn_goes
    | with_reducible apply ite_goes
    | with_reducible apply Res.done_moves
    | with_reducible apply Res.fail_moves
    | with_reducible apply Res.wait_moves
    | ((with_reducible apply Goes.by (State.productOp_goes _ _ _ _ _ _)); case hs => exact rfl)
    | (extract_lets +onlyGivenNames x; apply Moves.cut (m := 37196715915580) (z := z) x; (case' h => unfold x); (case' k => (clear_value x; intro _)))
    | (extract_lets +onlyGivenNames x; clear_value x)
    | split
    | (rename_i hq; split at hq)
    | (rename_i hq; obtain ⟨_, rfl⟩ := Prod.mk.inj hq)

/-- May change: mem, poison, faults, power, mac, rtc, evr, memctl, flash, core0, core1, host, free, registers of block 0 4 7 9 11 12 13 18. -/
theorem execMac_goes (core1 : Bool) (an : Fin 4) (ga : Fin 16) (gb : Fin 16) (z : State) : Goes 37196715915580 z (execMac core1 an ga gb z) := by
  unfold execMac
  repeat'
    first
    | with_reducible apply Moves.refl
    | with_reducible assumption
    | intro _
    | with_reducible apply goOn_goes
    | with_reducible apply ite_goes
    | with_reducible apply Res.done_moves
    | with_reducible apply Res.fail_moves
    | with_reducible apply Res.wait_moves
    | ((with_reducible apply Goes.by (State.productOp_goes _ _ _ _ _ _)); case hs => exact rfl)
    | (extract_lets +onlyGivenNames x; apply Moves.cut (m := 37196715915580) (z := z) x; (case' h => unfold x); (case' k => (clear_value x; intro _)))
    | (extract_lets +onlyGivenNames x; clear_value x)
    | split
    | (rename_i hq; split at hq)
    | (rename_i hq; obtain ⟨_, rfl⟩ := Prod.mk.inj hq)

/-- May change: mem, poison, faults, power, mac, rtc, evr, memctl, flash, core0, core1, host, free, registers of block 0 4 7 9 11 12 13 18. -/
theorem execMsu_goes (core1 : Bool) (an : Fin 4) (ga : Fin 16) (gb : Fin 16) (z : State) : Goes 37196715915580 z (execMsu core1 an ga gb z) := by
  unfold execMsu
  repeat'
    first
    | with_reducible apply Moves.refl
    | with_reducible assumption
    | intro _
    | with_reducible apply goOn_goes
    | with_reducible apply ite_goes
    | with_reducible apply Res.done_moves
    | with_reducible apply Res.fail_moves
    | with_reducible apply Res.wait_moves
    | ((with_reducible apply Goes.by (State.productOp_goes _ _ _ _ _ _)); case hs => exact rfl)
    | (extract_lets +onlyGivenNames x; apply Moves.cut (m := 37196715915580) (z := z) x; (case' h => unfold x); (case' k => (clear_value x; intro _)))
    | (extract_lets +onlyGivenNames x; clear_value x)
    | split
    | (rename_i hq; split at hq)
    | (rename_i hq; obtain ⟨_, rfl⟩ := Prod.mk.inj hq)

/-- May change: mem, poison, faults, power, mac, rtc, evr, memctl, flash, core0, core1, host, free, registers of block 0 4 7 9 11 12 13 18. -/
theorem execFadds_goes (core1 : Bool) (gd : Fin 16) (ga : Fin 16) (gb : Fin 16) (z : State) : Goes 37196715915580 z (execFadds core1 gd ga gb z) := by
  unfold execFadds
  repeat'
    first
    | with_reducible apply Moves.refl
    | with_reducible assumption
    | intro _
    | with_reducible apply goOn_goes
    | with_reducible apply ite_goes
    | with_reducible apply Res.done_moves
    | with_reducible apply Res.fail_moves
    | with_reducible apply Res.wait_moves
    | ((with_reducible apply Goes.by (State.fracOp_goes _ _ _ _ _ _)); case hs => exact rfl)
    | (extract_lets +onlyGivenNames x; apply Moves.cut (m := 37196715915580) (z := z) x; (case' h => unfold x); (case' k => (clear_value x; intro _)))
    | (extract_lets +onlyGivenNames x; clear_value x)
    | split
    | (rename_i hq; split at hq)
    | (rename_i hq; obtain ⟨_, rfl⟩ := Prod.mk.inj hq)

/-- May change: mem, poison, faults, power, mac, rtc, evr, memctl, flash, core0, core1, host, free, registers of block 0 4 7 9 11 12 13 18. -/
theorem execFsubs_goes (core1 : Bool) (gd : Fin 16) (ga : Fin 16) (gb : Fin 16) (z : State) : Goes 37196715915580 z (execFsubs core1 gd ga gb z) := by
  unfold execFsubs
  repeat'
    first
    | with_reducible apply Moves.refl
    | with_reducible assumption
    | intro _
    | with_reducible apply goOn_goes
    | with_reducible apply ite_goes
    | with_reducible apply Res.done_moves
    | with_reducible apply Res.fail_moves
    | with_reducible apply Res.wait_moves
    | ((with_reducible apply Goes.by (State.fracOp_goes _ _ _ _ _ _)); case hs => exact rfl)
    | (extract_lets +onlyGivenNames x; apply Moves.cut (m := 37196715915580) (z := z) x; (case' h => unfold x); (case' k => (clear_value x; intro _)))
    | (extract_lets +onlyGivenNames x; clear_value x)
    | split
    | (rename_i hq; split at hq)
    | (rename_i hq; obtain ⟨_, rfl⟩ := Prod.mk.inj hq)

/-- May change: mem, poison, faults, power, mac, rtc, evr, memctl, flash, core0, core1, host, free, registers of block 0 4 7 9 11 12 13 18. -/
theorem execFmulr_goes (core1 : Bool) (gd : Fin 16) (ga : Fin 16) (gb : Fin 16) (z : State) : Goes 37196715915580 z (execFmulr core1 gd ga gb z) := by
  unfold execFmulr
  repeat'
    first
    | with_reducible apply Moves.refl
    | with_reducible assumption
    | intro _
    | with_reducible apply goOn_goes
    | with_reducible apply ite_goes
    | with_reducible apply Res.done_moves
    | with_reducible apply Res.fail_moves
    | with_reducible apply Res.wait_moves
    | ((with_reducible apply Goes.by (State.fracOp_goes _ _ _ _ _ _)); case hs => exact rfl)
    | (extract_lets +onlyGivenNames x; apply Moves.cut (m := 37196715915580) (z := z) x; (case' h => unfold x); (case' k => (clear_value x; intro _)))
    | (extract_lets +onlyGivenNames x; clear_value x)
    | split
    | (rename_i hq; split at hq)
    | (rename_i hq; obtain ⟨_, rfl⟩ := Prod.mk.inj hq)

/-- May change: mem, poison, faults, power, mac, rtc, evr, memctl, flash, core0, core1, host, free, registers of block 0 4 7 9 11 12 13 18. -/
theorem execAclr_goes (core1 : Bool) (an : Fin 4) (z : State) : Goes 37196715915580 z (execAclr core1 an z) := by
  unfold execAclr
  repeat'
    first
    | with_reducible apply Moves.refl
    | with_reducible assumption
    | intro _
    | with_reducible apply goOn_goes
    | with_reducible apply ite_goes
    | with_reducible apply Res.done_moves
    | with_reducible apply Res.fail_moves
    | with_reducible apply Res.wait_moves
    | ((with_reducible apply State.plain_goes); case hs => exact rfl)
    | ((with_reducible apply Moves.by (State.ok_moves _ _ _)); case hs => exact rfl)
    | ((with_reducible apply State.ok_done_pair); (case hp => assumption); case hs => exact rfl)
    | ((with_reducible apply State.ok_fail_pair); (case hp => assumption); case hs => exact rfl)
    | ((with_reducible apply State.ok_wait_pair); (case hp => assumption); case hs => exact rfl)
    | (extract_lets +onlyGivenNames x; apply Moves.cut (m := 37196715915580) (z := z) x; (case' h => unfold x); (case' k => (clear_value x; intro _)))
    | (extract_lets +onlyGivenNames x; clear_value x)
    | split
    | (rename_i hq; split at hq)
    | (rename_i hq; obtain ⟨_, rfl⟩ := Prod.mk.inj hq)

/-- May change: mem, poison, faults, power, mac, rtc, evr, memctl, flash, core0, core1, host, free, registers of block 0 4 7 9 11 12 13 18. -/
theorem execAmov_goes (core1 : Bool) (an : Fin 4) (am : Fin 4) (z : State) : Goes 37196715915580 z (execAmov core1 an am z) := by
  unfold execAmov
  repeat'
    first
    | with_reducible apply Moves.refl
    | with_reducible assumption
    | intro _
    | with_reducible apply goOn_goes
    | with_reducible apply ite_goes
    | with_reducible apply Res.done_moves
    | with_reducible apply Res.fail_moves
    | with_reducible apply Res.wait_moves
    | ((with_reducible apply Goes.by (State.accOp_goes _ _ _ _ _)); case hs => exact rfl)
    | (extract_lets +onlyGivenNames x; apply Moves.cut (m := 37196715915580) (z := z) x; (case' h => unfold x); (case' k => (clear_value x; intro _)))
    | (extract_lets +onlyGivenNames x; clear_value x)
    | split
    | (rename_i hq; split at hq)
    | (rename_i hq; obtain ⟨_, rfl⟩ := Prod.mk.inj hq)

/-- May change: mem, poison, faults, power, mac, rtc, evr, memctl, flash, core0, core1, host, free, registers of block 0 4 7 9 11 12 13 18. -/
theorem execAadd_goes (core1 : Bool) (an : Fin 4) (am : Fin 4) (z : State) : Goes 37196715915580 z (execAadd core1 an am z) := by
  unfold execAadd
  repeat'
    first
    | with_reducible apply Moves.refl
    | with_reducible assumption
    | intro _
    | with_reducible apply goOn_goes
    | with_reducible apply ite_goes
    | with_reducible apply Res.done_moves
    | with_reducible apply Res.fail_moves
    | with_reducible apply Res.wait_moves
    | ((with_reducible apply Goes.by (State.accOp_goes _ _ _ _ _)); case hs => exact rfl)
    | (extract_lets +onlyGivenNames x; apply Moves.cut (m := 37196715915580) (z := z) x; (case' h => unfold x); (case' k => (clear_value x; intro _)))
    | (extract_lets +onlyGivenNames x; clear_value x)
    | split
    | (rename_i hq; split at hq)
    | (rename_i hq; obtain ⟨_, rfl⟩ := Prod.mk.inj hq)

/-- May change: mem, poison, faults, power, mac, rtc, evr, memctl, flash, core0, core1, host, free, registers of block 0 4 7 9 11 12 13 18. -/
theorem execAsub_goes (core1 : Bool) (an : Fin 4) (am : Fin 4) (z : State) : Goes 37196715915580 z (execAsub core1 an am z) := by
  unfold execAsub
  repeat'
    first
    | with_reducible apply Moves.refl
    | with_reducible assumption
    | intro _
    | with_reducible apply goOn_goes
    | with_reducible apply ite_goes
    | with_reducible apply Res.done_moves
    | with_reducible apply Res.fail_moves
    | with_reducible apply Res.wait_moves
    | ((with_reducible apply Goes.by (State.accOp_goes _ _ _ _ _)); case hs => exact rfl)
    | (extract_lets +onlyGivenNames x; apply Moves.cut (m := 37196715915580) (z := z) x; (case' h => unfold x); (case' k => (clear_value x; intro _)))
    | (extract_lets +onlyGivenNames x; clear_value x)
    | split
    | (rename_i hq; split at hq)
    | (rename_i hq; obtain ⟨_, rfl⟩ := Prod.mk.inj hq)

/-- May change: mem, poison, faults, power, mac, rtc, evr, memctl, flash, core0, core1, host, free, registers of block 0 4 7 9 11 12 13 18. -/
theorem execAneg_goes (core1 : Bool) (an : Fin 4) (am : Fin 4) (z : State) : Goes 37196715915580 z (execAneg core1 an am z) := by
  unfold execAneg
  repeat'
    first
    | with_reducible apply Moves.refl
    | with_reducible assumption
    | intro _
    | with_reducible apply goOn_goes
    | with_reducible apply ite_goes
    | with_reducible apply Res.done_moves
    | with_reducible apply Res.fail_moves
    | with_reducible apply Res.wait_moves
    | ((with_reducible apply Goes.by (State.accOp_goes _ _ _ _ _)); case hs => exact rfl)
    | (extract_lets +onlyGivenNames x; apply Moves.cut (m := 37196715915580) (z := z) x; (case' h => unfold x); (case' k => (clear_value x; intro _)))
    | (extract_lets +onlyGivenNames x; clear_value x)
    | split
    | (rename_i hq; split at hq)
    | (rename_i hq; obtain ⟨_, rfl⟩ := Prod.mk.inj hq)

/-- May change: mem, poison, faults, power, mac, rtc, evr, memctl, flash, core0, core1, host, free, registers of block 0 4 7 9 11 12 13 18. -/
theorem execAabs_goes (core1 : Bool) (an : Fin 4) (am : Fin 4) (z : State) : Goes 37196715915580 z (execAabs core1 an am z) := by
  unfold execAabs
  repeat'
    first
    | with_reducible apply Moves.refl
    | with_reducible assumption
    | intro _
    | with_reducible apply goOn_goes
    | with_reducible apply ite_goes
    | with_reducible apply Res.done_moves
    | with_reducible apply Res.fail_moves
    | with_reducible apply Res.wait_moves
    | ((with_reducible apply Goes.by (State.accOp_goes _ _ _ _ _)); case hs => exact rfl)
    | with_reducible apply ite_moves
    | (extract_lets +onlyGivenNames x; apply Moves.cut (m := 37196715915580) (z := z) x; (case' h => unfold x); (case' k => (clear_value x; intro _)))
    | (extract_lets +onlyGivenNames x; clear_value x)
    | split
    | (rename_i hq; split at hq)
    | (rename_i hq; obtain ⟨_, rfl⟩ := Prod.mk.inj hq)

/-- May change: mem, poison, faults, power, mac, rtc, evr, memctl, flash, core0, core1, host, free, registers of block 0 4 7 9 11 12 13 18. -/
theorem execAshl_goes (core1 : Bool) (an : Fin 4) (am : Fin 4) (k : Fin 32) (z : State) : Goes 37196715915580 z (execAshl core1 an am k z) := by
  unfold execAshl
  repeat'
    first
    | with_reducible apply Moves.refl
    | with_reducible assumption
    | intro _
    | with_reducible apply goOn_goes
    | with_reducible apply ite_goes
    | with_reducible apply Res.done_moves
    | with_reducible apply Res.fail_moves
    | with_reducible apply Res.wait_moves
    | ((with_reducible apply Goes.by (State.accOp_goes _ _ _ _ _)); case hs => exact rfl)
    | (extract_lets +onlyGivenNames x; apply Moves.cut (m := 37196715915580) (z := z) x; (case' h => unfold x); (case' k => (clear_value x; intro _)))
    | (extract_lets +onlyGivenNames x; clear_value x)
    | split
    | (rename_i hq; split at hq)
    | (rename_i hq; obtain ⟨_, rfl⟩ := Prod.mk.inj hq)

/-- May change: mem, poison, faults, power, mac, rtc, evr, memctl, flash, core0, core1, host, free, registers of block 0 4 7 9 11 12 13 18. -/
theorem execAshr_goes (core1 : Bool) (an : Fin 4) (am : Fin 4) (k : Fin 32) (z : State) : Goes 37196715915580 z (execAshr core1 an am k z) := by
  unfold execAshr
  repeat'
    first
    | with_reducible apply Moves.refl
    | with_reducible assumption
    | intro _
    | with_reducible apply goOn_goes
    | with_reducible apply ite_goes
    | with_reducible apply Res.done_moves
    | with_reducible apply Res.fail_moves
    | with_reducible apply Res.wait_moves
    | ((with_reducible apply Goes.by (State.accOp_goes _ _ _ _ _)); case hs => exact rfl)
    | (extract_lets +onlyGivenNames x; apply Moves.cut (m := 37196715915580) (z := z) x; (case' h => unfold x); (case' k => (clear_value x; intro _)))
    | (extract_lets +onlyGivenNames x; clear_value x)
    | split
    | (rename_i hq; split at hq)
    | (rename_i hq; obtain ⟨_, rfl⟩ := Prod.mk.inj hq)

/-- May change: mem, poison, faults, power, mac, rtc, evr, memctl, flash, core0, core1, host, free, registers of block 0 4 7 9 11 12 13 18. -/
theorem execMvaf_goes (core1 : Bool) (gd : Fin 16) (am : Fin 4) (k : Fin 32) (z : State) : Goes 37196715915580 z (execMvaf core1 gd am k z) := by
  unfold execMvaf
  repeat'
    first
    | with_reducible apply Moves.refl
    | with_reducible assumption
    | intro _
    | with_reducible apply goOn_goes
    | with_reducible apply ite_goes
    | with_reducible apply Res.done_moves
    | with_reducible apply Res.fail_moves
    | with_reducible apply Res.wait_moves
    | ((with_reducible apply Moves.by (State.toReg_moves _ _ _ _ _)); case hs => exact rfl)
    | ((with_reducible apply State.toReg_done_pair); (case hp => assumption); case hs => exact rfl)
    | ((with_reducible apply State.toReg_fail_pair); (case hp => assumption); case hs => exact rfl)
    | ((with_reducible apply State.toReg_wait_pair); (case hp => assumption); case hs => exact rfl)
    | ((with_reducible apply State.plain_goes); case hs => exact rfl)
    | (extract_lets +onlyGivenNames x; apply Moves.cut (m := 37196715915580) (z := z) x; (case' h => unfold x); (case' k => (clear_value x; intro _)))
    | (extract_lets +onlyGivenNames x; clear_value x)
    | split
    | (rename_i hq; split at hq)
    | (rename_i hq; obtain ⟨_, rfl⟩ := Prod.mk.inj hq)

/-- May change: mem, poison, faults, power, mac, rtc, evr, memctl, flash, core0, core1, host, free, registers of block 0 4 7 9 11 12 13 18. -/
theorem execMvfa_goes (core1 : Bool) (an : Fin 4) (ga : Fin 16) (z : State) : Goes 37196715915580 z (execMvfa core1 an ga z) := by
  unfold execMvfa
  repeat'
    first
    | with_reducible apply Moves.refl
    | with_reducible assumption
    | intro _
    | with_reducible apply goOn_goes
    | with_reducible apply ite_goes
    | with_reducible apply Res.done_moves
    | with_reducible apply Res.fail_moves
    | with_reducible apply Res.wait_moves
    | ((with_reducible apply Moves.by (State.okIf_moves _ _ _ _)); case hs => exact rfl)
    | ((with_reducible apply State.okIf_done_pair); (case hp => assumption); case hs => exact rfl)
    | ((with_reducible apply State.okIf_fail_pair); (case hp => assumption); case hs => exact rfl)
    | ((with_reducible apply State.okIf_wait_pair); (case hp => assumption); case hs => exact rfl)
    | ((with_reducible apply State.plain_goes); case hs => exact rfl)
    | (extract_lets +onlyGivenNames x; apply Moves.cut (m := 37196715915580) (z := z) x; (case' h => unfold x); (case' k => (clear_value x; intro _)))
    | (extract_lets +onlyGivenNames x; clear_value x)
    | split
    | (rename_i hq; split at hq)
    | (rename_i hq; obtain ⟨_, rfl⟩ := Prod.mk.inj hq)

/-- May change: mem, poison, faults, power, mac, rtc, evr, memctl, flash, core0, core1, host, free, registers of block 0 4 7 9 11 12 13 18. -/
theorem execMvah_goes (core1 : Bool) (gd : Fin 16) (am : Fin 4) (z : State) : Goes 37196715915580 z (execMvah core1 gd am z) := by
  unfold execMvah
  repeat'
    first
    | with_reducible apply Moves.refl
    | with_reducible assumption
    | intro _
    | with_reducible apply goOn_goes
    | with_reducible apply ite_goes
    | with_reducible apply Res.done_moves
    | with_reducible apply Res.fail_moves
    | with_reducible apply Res.wait_moves
    | ((with_reducible apply State.plain_goes); case hs => exact rfl)
    | ((with_reducible apply Moves.by (State.ok_moves _ _ _)); case hs => exact rfl)
    | ((with_reducible apply State.ok_done_pair); (case hp => assumption); case hs => exact rfl)
    | ((with_reducible apply State.ok_fail_pair); (case hp => assumption); case hs => exact rfl)
    | ((with_reducible apply State.ok_wait_pair); (case hp => assumption); case hs => exact rfl)
    | (extract_lets +onlyGivenNames x; apply Moves.cut (m := 37196715915580) (z := z) x; (case' h => unfold x); (case' k => (clear_value x; intro _)))
    | (extract_lets +onlyGivenNames x; clear_value x)
    | split
    | (rename_i hq; split at hq)
    | (rename_i hq; obtain ⟨_, rfl⟩ := Prod.mk.inj hq)

/-- May change: mem, poison, faults, power, mac, rtc, evr, memctl, flash, core0, core1, host, free, registers of block 0 4 7 9 11 12 13 18. -/
theorem execMval_goes (core1 : Bool) (gd : Fin 16) (am : Fin 4) (z : State) : Goes 37196715915580 z (execMval core1 gd am z) := by
  unfold execMval
  repeat'
    first
    | with_reducible apply Moves.refl
    | with_reducible assumption
    | intro _
    | with_reducible apply goOn_goes
    | with_reducible apply ite_goes
    | with_reducible apply Res.done_moves
    | with_reducible apply Res.fail_moves
    | with_reducible apply Res.wait_moves
    | ((with_reducible apply State.plain_goes); case hs => exact rfl)
    | ((with_reducible apply Moves.by (State.ok_moves _ _ _)); case hs => exact rfl)
    | ((with_reducible apply State.ok_done_pair); (case hp => assumption); case hs => exact rfl)
    | ((with_reducible apply State.ok_fail_pair); (case hp => assumption); case hs => exact rfl)
    | ((with_reducible apply State.ok_wait_pair); (case hp => assumption); case hs => exact rfl)
    | (extract_lets +onlyGivenNames x; apply Moves.cut (m := 37196715915580) (z := z) x; (case' h => unfold x); (case' k => (clear_value x; intro _)))
    | (extract_lets +onlyGivenNames x; clear_value x)
    | split
    | (rename_i hq; split at hq)
    | (rename_i hq; obtain ⟨_, rfl⟩ := Prod.mk.inj hq)

/-- May change: mem, poison, faults, power, mac, rtc, evr, memctl, flash, core0, core1, host, free, registers of block 0 4 7 9 11 12 13 18. -/
theorem execMvga_goes (core1 : Bool) (an : Fin 4) (ga : Fin 16) (gb : Fin 16) (z : State) : Goes 37196715915580 z (execMvga core1 an ga gb z) := by
  unfold execMvga
  repeat'
    first
    | with_reducible apply Moves.refl
    | with_reducible assumption
    | intro _
    | with_reducible apply goOn_goes
    | with_reducible apply ite_goes
    | with_reducible apply Res.done_moves
    | with_reducible apply Res.fail_moves
    | with_reducible apply Res.wait_moves
    | ((with_reducible apply Moves.by (State.okIf_moves _ _ _ _)); case hs => exact rfl)
    | ((with_reducible apply State.okIf_done_pair); (case hp => assumption); case hs => exact rfl)
    | ((with_reducible apply State.okIf_fail_pair); (case hp => assumption); case hs => exact rfl)
    | ((with_reducible apply State.okIf_wait_pair); (case hp => assumption); case hs => exact rfl)
    | ((with_reducible apply State.plain_goes); case hs => exact rfl)
    | (extract_lets +onlyGivenNames x; apply Moves.cut (m := 37196715915580) (z := z) x; (case' h => unfold x); (case' k => (clear_value x; intro _)))
    | (extract_lets +onlyGivenNames x; clear_value x)
    | split
    | (rename_i hq; split at hq)
    | (rename_i hq; obtain ⟨_, rfl⟩ := Prod.mk.inj hq)

/-- May change: mem, poison, faults, power, mac, rtc, evr, memctl, flash, core0, core1, host, free, registers of block 0 4 7 9 11 12 13 18. -/
theorem execSxset_goes (core1 : Bool) (arg : Fin 32) (z : State) : Goes 37196715915580 z (execSxset core1 arg z) := by
  unfold execSxset
  repeat'
    first
    | with_reducible apply Moves.refl
    | with_reducible assumption
    | intro _
    | with_reducible apply goOn_goes
    | with_reducible apply ite_goes
    | with_reducible apply Res.done_moves
    | with_reducible apply Res.fail_moves
    | with_reducible apply Res.wait_moves
    | ((with_reducible apply Moves.by (State.okIf_moves _ _ _ _)); case hs => exact rfl)
    | ((with_reducible apply State.okIf_done_pair); (case hp => assumption); case hs => exact rfl)
    | ((with_reducible apply State.okIf_fail_pair); (case hp => assumption); case hs => exact rfl)
    | ((with_reducible apply State.okIf_wait_pair); (case hp => assumption); case hs => exact rfl)
    | ((with_reducible apply State.plain_goes); case hs => exact rfl)
    | with_reducible apply ite_moves
    | (extract_lets +onlyGivenNames x; apply Moves.cut (m := 37196715915580) (z := z) x; (case' h => unfold x); (case' k => (clear_value x; intro _)))
    | (extract_lets +onlyGivenNames x; clear_value x)
    | split
    | (rename_i hq; split at hq)
    | (rename_i hq; obtain ⟨_, rfl⟩ := Prod.mk.inj hq)

/-- May change: core0, core1. -/
theorem State.tapFinish_moves (z : State) (c1 : Bool) (an : Fin 4) (v : Int) (gx : Nat) (px : Word) (gy : Nat) (py : Word) : Moves 98304 z (State.tapFinish z c1 an v gx px gy py) := by
  unfold State.tapFinish
  repeat'
    first
    | with_reducible apply Moves.refl
    | with_reducible assumption
    | intro _
    | with_reducible apply Res.done_moves
    | with_reducible apply Res.fail_moves
    | with_reducible apply Res.wait_moves
    | ((with_reducible apply Moves.by (State.setCore_moves _ _ _)); case hs => exact rfl)
    | with_reducible apply ite_moves
    | (extract_lets +onlyGivenNames x; apply Moves.cut (m := 98304) (z := z) x; (case' h => unfold x); (case' k => (clear_value x; intro _)))
    | (extract_lets +onlyGivenNames x; clear_value x)
    | split
    | (rename_i hq; split at hq)
    | (rename_i hq; obtain ⟨_, rfl⟩ := Prod.mk.inj hq)

/-- May change: tnet, mem, poison, faults, power, radio, slot, mac, sec, gnss, rtc, evr, memctl, flash, core0, core1, lgy, tag, host, pke, pins, free, registers of block all. -/
theorem execTap_goes (core1 : Bool) (an : Fin 4) (gx : Fin 16) (gy : Fin 16) (xmod : Fin 5) (ymod : Fin 5) (sub : Bool) (move : Bool) (parX : Fin 32) (parY : Fin 32) (z : State) : Goes 140737378254845 z (execTap core1 an gx gy xmod ymod sub move parX parY z) := by
  unfold execTap
  repeat'
    first
    | with_reducible apply Moves.refl
    | with_reducible assumption
    | intro _
    | with_reducible apply goOn_goes
    | with_reducible apply ite_goes
    | with_reducible apply Res.done_moves
    | with_reducible apply Res.fail_moves
    | with_reducible apply Res.wait_moves
    | ((with_reducible apply Moves.by (State.storeRaw_moves _ _ _ _ _ _)); case hs => exact rfl)
    | ((with_reducible apply State.storeRaw_done_pair); (case hp => assumption); case hs => exact rfl)
    | ((with_reducible apply State.storeRaw_fail_pair); (case hp => assumption); case hs => exact rfl)
    | ((with_reducible apply State.storeRaw_wait_pair); (case hp => assumption); case hs => exact rfl)
    | ((with_reducible apply Moves.by (State.load_moves _ _ _ _ _)); case hs => exact rfl)
    | ((with_reducible apply State.load_data_pair); (case hp => assumption); case hs => exact rfl)
    | ((with_reducible apply State.load_fail_pair); (case hp => assumption); case hs => exact rfl)
    | ((with_reducible apply State.load_wait_pair); (case hp => assumption); case hs => exact rfl)
    | ((with_reducible apply State.plain_goes); case hs => exact rfl)
    | ((with_reducible apply Moves.by (State.tapFinish_moves _ _ _ _ _ _ _ _)); case hs => exact rfl)
    | with_reducible apply ite_moves
    | (extract_lets +onlyGivenNames x; apply Moves.cut (m := 140737378254845) (z := z) x; (case' h => unfold x); (case' k => (clear_value x; intro _)))
    | (extract_lets +onlyGivenNames x; clear_value x)
    | split
    | (rename_i hq; split at hq)
    | (rename_i hq; obtain ⟨_, rfl⟩ := Prod.mk.inj hq)

/-- May change: mem, poison, faults, power, mac, rtc, evr, memctl, flash, core0, core1, host, free, registers of block 0 4 7 9 11 12 13 18. -/
theorem execRep_goes (core1 : Bool) (len : Fin 32) (count : RepCount) (z : State) : Goes 37196715915580 z (execRep core1 len count z) := by
  unfold execRep
  repeat'
    first
    | with_reducible apply Moves.refl
    | with_reducible assumption
    | intro _
    | with_reducible apply goOn_goes
    | with_reducible apply ite_goes
    | with_reducible apply Res.done_moves
    | with_reducible apply Res.fail_moves
    | with_reducible apply Res.wait_moves
    | ((with_reducible apply Moves.by (State.setCore_moves _ _ _)); case hs => exact rfl)
    | ((with_reducible apply State.plain_goes); case hs => exact rfl)
    | with_reducible apply ite_moves
    | (extract_lets +onlyGivenNames x; apply Moves.cut (m := 37196715915580) (z := z) x; (case' h => unfold x); (case' k => (clear_value x; intro _)))
    | (extract_lets +onlyGivenNames x; clear_value x)
    | split
    | (rename_i hq; split at hq)
    | (rename_i hq; obtain ⟨_, rfl⟩ := Prod.mk.inj hq)

/-- May change: mem, poison, faults, power, mac, rtc, evr, memctl, flash, core0, core1, host, free, registers of block 0 4 7 9 11 12 13 18. -/
theorem execEndrep_goes (core1 : Bool) (z : State) : Goes 37196715915580 z (execEndrep core1 z) := by
  unfold execEndrep
  repeat'
    first
    | with_reducible apply Moves.refl
    | with_reducible assumption
    | intro _
    | with_reducible apply goOn_goes
    | with_reducible apply ite_goes
    | with_reducible apply Res.done_moves
    | with_reducible apply Res.fail_moves
    | with_reducible apply Res.wait_moves
    | ((with_reducible apply State.issue_moves); case hm => exact rfl)
    | (extract_lets +onlyGivenNames x; apply Moves.cut (m := 37196715915580) (z := z) x; (case' h => unfold x); (case' k => (clear_value x; intro _)))
    | (extract_lets +onlyGivenNames x; clear_value x)
    | split
    | (rename_i hq; split at hq)
    | (rename_i hq; obtain ⟨_, rfl⟩ := Prod.mk.inj hq)

/-- May change: tnet, mem, poison, faults, power, radio, slot, mac, sec, gnss, rtc, evr, memctl, flash, core0, core1, lgy, tag, host, pke, pins, free, registers of block all. -/
theorem execRsave_goes (core1 : Bool) (ga : Fin 16) (z : State) : Goes 140737378254845 z (execRsave core1 ga z) := by
  unfold execRsave
  repeat'
    first
    | with_reducible apply Moves.refl
    | with_reducible assumption
    | intro _
    | with_reducible apply goOn_goes
    | with_reducible apply ite_goes
    | with_reducible apply Res.done_moves
    | with_reducible apply Res.fail_moves
    | with_reducible apply Res.wait_moves
    | ((with_reducible apply Moves.by (State.setCore_moves _ _ _)); case hs => exact rfl)
    | ((with_reducible apply State.plain_goes); case hs => exact rfl)
    | ((with_reducible apply Moves.by (State.storeAll_moves _ _ _ _)); case hs => exact rfl)
    | ((with_reducible apply State.storeAll_done_pair); (case hp => assumption); case hs => exact rfl)
    | ((with_reducible apply State.storeAll_fail_pair); (case hp => assumption); case hs => exact rfl)
    | ((with_reducible apply State.storeAll_wait_pair); (case hp => assumption); case hs => exact rfl)
    | with_reducible apply ite_moves
    | (extract_lets +onlyGivenNames x; apply Moves.cut (m := 140737378254845) (z := z) x; (case' h => unfold x); (case' k => (clear_value x; intro _)))
    | (extract_lets +onlyGivenNames x; clear_value x)
    | split
    | (rename_i hq; split at hq)
    | (rename_i hq; obtain ⟨_, rfl⟩ := Prod.mk.inj hq)

/-- May change: mem, poison, faults, power, mac, rtc, evr, memctl, flash, core0, core1, host, free, registers of block 0 4 7 9 11 12 13 18. -/
theorem execRrest_goes (core1 : Bool) (ga : Fin 16) (parity : List Nat) (z : State) : Goes 37196715915580 z (execRrest core1 ga parity z) := by
  unfold execRrest
  repeat'
    first
    | with_reducible apply Moves.refl
    | with_reducible assumption
    | intro _
    | with_reducible apply goOn_goes
    | with_reducible apply ite_goes
    | with_reducible apply Res.done_moves
    | with_reducible apply Res.fail_moves
    | with_reducible apply Res.wait_moves
    | ((with_reducible apply State.popFrom_moves); case hm => exact rfl)
    | ((with_reducible apply Moves.by (State.setCore_moves _ _ _)); case hs => exact rfl)
    | ((with_reducible apply State.plain_goes); case hs => exact rfl)
    | with_reducible apply ite_moves
    | (extract_lets +onlyGivenNames x; apply Moves.cut (m := 37196715915580) (z := z) x; (case' h => unfold x); (case' k => (clear_value x; intro _)))
    | (extract_lets +onlyGivenNames x; clear_value x)
    | split
    | (rename_i hq; split at hq)
    | (rename_i hq; obtain ⟨_, rfl⟩ := Prod.mk.inj hq)

end Sys2Proof.Machine
end

