-- ==== Sys2Proof/Laws/State.lean ====
section
/-! SUPPORT. The small lemmas of State: what each named update leaves, field by field, what a field or a byte reads after a
write, and that every operation over memory keeps its canonical form. -/
set_option linter.all false
namespace Sys2Proof.Machine

/-! What an update of one component leaves. -/

@[simp] theorem State.put_partT (s : State) (f : RegField) (v : Nat) : (s.put f v).partT = s.partT := rfl
@[simp] theorem State.put_tnet (s : State) (f : RegField) (v : Nat) : (s.put f v).tnet = s.tnet := rfl
@[simp] theorem State.put_clock (s : State) (f : RegField) (v : Nat) : (s.put f v).clock = s.clock := rfl
@[simp] theorem State.put_mem (s : State) (f : RegField) (v : Nat) : (s.put f v).mem = s.mem := rfl
@[simp] theorem State.put_poison (s : State) (f : RegField) (v : Nat) : (s.put f v).poison = s.poison := rfl
@[simp] theorem State.put_faults (s : State) (f : RegField) (v : Nat) : (s.put f v).faults = s.faults := rfl
@[simp] theorem State.put_power (s : State) (f : RegField) (v : Nat) : (s.put f v).power = s.power := rfl
@[simp] theorem State.put_radio (s : State) (f : RegField) (v : Nat) : (s.put f v).radio = s.radio := rfl
@[simp] theorem State.put_slot (s : State) (f : RegField) (v : Nat) : (s.put f v).slot = s.slot := rfl
@[simp] theorem State.put_mac (s : State) (f : RegField) (v : Nat) : (s.put f v).mac = s.mac := rfl
@[simp] theorem State.put_sec (s : State) (f : RegField) (v : Nat) : (s.put f v).sec = s.sec := rfl
@[simp] theorem State.put_gnss (s : State) (f : RegField) (v : Nat) : (s.put f v).gnss = s.gnss := rfl
@[simp] theorem State.put_rtc (s : State) (f : RegField) (v : Nat) : (s.put f v).rtc = s.rtc := rfl
@[simp] theorem State.put_evr (s : State) (f : RegField) (v : Nat) : (s.put f v).evr = s.evr := rfl
@[simp] theorem State.put_memctl (s : State) (f : RegField) (v : Nat) : (s.put f v).memctl = s.memctl := rfl
@[simp] theorem State.put_flash (s : State) (f : RegField) (v : Nat) : (s.put f v).flash = s.flash := rfl
@[simp] theorem State.put_core0 (s : State) (f : RegField) (v : Nat) : (s.put f v).core0 = s.core0 := rfl
@[simp] theorem State.put_core1 (s : State) (f : RegField) (v : Nat) : (s.put f v).core1 = s.core1 := rfl
@[simp] theorem State.put_lgy (s : State) (f : RegField) (v : Nat) : (s.put f v).lgy = s.lgy := rfl
@[simp] theorem State.put_tag (s : State) (f : RegField) (v : Nat) : (s.put f v).tag = s.tag := rfl
@[simp] theorem State.put_host (s : State) (f : RegField) (v : Nat) : (s.put f v).host = s.host := rfl
@[simp] theorem State.put_boot (s : State) (f : RegField) (v : Nat) : (s.put f v).boot = s.boot := rfl
@[simp] theorem State.put_pke (s : State) (f : RegField) (v : Nat) : (s.put f v).pke = s.pke := rfl
@[simp] theorem State.put_pins (s : State) (f : RegField) (v : Nat) : (s.put f v).pins = s.pins := rfl
@[simp] theorem State.put_objs (s : State) (f : RegField) (v : Nat) : (s.put f v).objs = s.objs := rfl
@[simp] theorem State.put_free (s : State) (f : RegField) (v : Nat) : (s.put f v).free = s.free := rfl
@[simp] theorem State.put_pending (s : State) (f : RegField) (v : Nat) : (s.put f v).pending = s.pending := rfl
@[simp] theorem State.byte_put (s : State) (f : RegField) (v : Nat) (k : Nat) : (s.put f v).byte k = s.byte k := rfl
@[simp] theorem State.flag_partT (s : State) (f : RegField) (v : Bool) : (s.flag f v).partT = s.partT := rfl
@[simp] theorem State.flag_tnet (s : State) (f : RegField) (v : Bool) : (s.flag f v).tnet = s.tnet := rfl
@[simp] theorem State.flag_clock (s : State) (f : RegField) (v : Bool) : (s.flag f v).clock = s.clock := rfl
@[simp] theorem State.flag_mem (s : State) (f : RegField) (v : Bool) : (s.flag f v).mem = s.mem := rfl
@[simp] theorem State.flag_poison (s : State) (f : RegField) (v : Bool) : (s.flag f v).poison = s.poison := rfl
@[simp] theorem State.flag_faults (s : State) (f : RegField) (v : Bool) : (s.flag f v).faults = s.faults := rfl
@[simp] theorem State.flag_power (s : State) (f : RegField) (v : Bool) : (s.flag f v).power = s.power := rfl
@[simp] theorem State.flag_radio (s : State) (f : RegField) (v : Bool) : (s.flag f v).radio = s.radio := rfl
@[simp] theorem State.flag_slot (s : State) (f : RegField) (v : Bool) : (s.flag f v).slot = s.slot := rfl
@[simp] theorem State.flag_mac (s : State) (f : RegField) (v : Bool) : (s.flag f v).mac = s.mac := rfl
@[simp] theorem State.flag_sec (s : State) (f : RegField) (v : Bool) : (s.flag f v).sec = s.sec := rfl
@[simp] theorem State.flag_gnss (s : State) (f : RegField) (v : Bool) : (s.flag f v).gnss = s.gnss := rfl
@[simp] theorem State.flag_rtc (s : State) (f : RegField) (v : Bool) : (s.flag f v).rtc = s.rtc := rfl
@[simp] theorem State.flag_evr (s : State) (f : RegField) (v : Bool) : (s.flag f v).evr = s.evr := rfl
@[simp] theorem State.flag_memctl (s : State) (f : RegField) (v : Bool) : (s.flag f v).memctl = s.memctl := rfl
@[simp] theorem State.flag_flash (s : State) (f : RegField) (v : Bool) : (s.flag f v).flash = s.flash := rfl
@[simp] theorem State.flag_core0 (s : State) (f : RegField) (v : Bool) : (s.flag f v).core0 = s.core0 := rfl
@[simp] theorem State.flag_core1 (s : State) (f : RegField) (v : Bool) : (s.flag f v).core1 = s.core1 := rfl
@[simp] theorem State.flag_lgy (s : State) (f : RegField) (v : Bool) : (s.flag f v).lgy = s.lgy := rfl
@[simp] theorem State.flag_tag (s : State) (f : RegField) (v : Bool) : (s.flag f v).tag = s.tag := rfl
@[simp] theorem State.flag_host (s : State) (f : RegField) (v : Bool) : (s.flag f v).host = s.host := rfl
@[simp] theorem State.flag_boot (s : State) (f : RegField) (v : Bool) : (s.flag f v).boot = s.boot := rfl
@[simp] theorem State.flag_pke (s : State) (f : RegField) (v : Bool) : (s.flag f v).pke = s.pke := rfl
@[simp] theorem State.flag_pins (s : State) (f : RegField) (v : Bool) : (s.flag f v).pins = s.pins := rfl
@[simp] theorem State.flag_objs (s : State) (f : RegField) (v : Bool) : (s.flag f v).objs = s.objs := rfl
@[simp] theorem State.flag_free (s : State) (f : RegField) (v : Bool) : (s.flag f v).free = s.free := rfl
@[simp] theorem State.flag_pending (s : State) (f : RegField) (v : Bool) : (s.flag f v).pending = s.pending := rfl
@[simp] theorem State.byte_flag (s : State) (f : RegField) (v : Bool) (k : Nat) : (s.flag f v).byte k = s.byte k := rfl
@[simp] theorem State.bump_partT (s : State) (f : RegField) : (s.bump f).partT = s.partT := rfl
@[simp] theorem State.bump_tnet (s : State) (f : RegField) : (s.bump f).tnet = s.tnet := rfl
@[simp] theorem State.bump_clock (s : State) (f : RegField) : (s.bump f).clock = s.clock := rfl
@[simp] theorem State.bump_mem (s : State) (f : RegField) : (s.bump f).mem = s.mem := rfl
@[simp] theorem State.bump_poison (s : State) (f : RegField) : (s.bump f).poison = s.poison := rfl
@[simp] theorem State.bump_faults (s : State) (f : RegField) : (s.bump f).faults = s.faults := rfl
@[simp] theorem State.bump_power (s : State) (f : RegField) : (s.bump f).power = s.power := rfl
@[simp] theorem State.bump_radio (s : State) (f : RegField) : (s.bump f).radio = s.radio := rfl
@[simp] theorem State.bump_slot (s : State) (f : RegField) : (s.bump f).slot = s.slot := rfl
@[simp] theorem State.bump_mac (s : State) (f : RegField) : (s.bump f).mac = s.mac := rfl
@[simp] theorem State.bump_sec (s : State) (f : RegField) : (s.bump f).sec = s.sec := rfl
@[simp] theorem State.bump_gnss (s : State) (f : RegField) : (s.bump f).gnss = s.gnss := rfl
@[simp] theorem State.bump_rtc (s : State) (f : RegField) : (s.bump f).rtc = s.rtc := rfl
@[simp] theorem State.bump_evr (s : State) (f : RegField) : (s.bump f).evr = s.evr := rfl
@[simp] theorem State.bump_memctl (s : State) (f : RegField) : (s.bump f).memctl = s.memctl := rfl
@[simp] theorem State.bump_flash (s : State) (f : RegField) : (s.bump f).flash = s.flash := rfl
@[simp] theorem State.bump_core0 (s : State) (f : RegField) : (s.bump f).core0 = s.core0 := rfl
@[simp] theorem State.bump_core1 (s : State) (f : RegField) : (s.bump f).core1 = s.core1 := rfl
@[simp] theorem State.bump_lgy (s : State) (f : RegField) : (s.bump f).lgy = s.lgy := rfl
@[simp] theorem State.bump_tag (s : State) (f : RegField) : (s.bump f).tag = s.tag := rfl
@[simp] theorem State.bump_host (s : State) (f : RegField) : (s.bump f).host = s.host := rfl
@[simp] theorem State.bump_boot (s : State) (f : RegField) : (s.bump f).boot = s.boot := rfl
@[simp] theorem State.bump_pke (s : State) (f : RegField) : (s.bump f).pke = s.pke := rfl
@[simp] theorem State.bump_pins (s : State) (f : RegField) : (s.bump f).pins = s.pins := rfl
@[simp] theorem State.bump_objs (s : State) (f : RegField) : (s.bump f).objs = s.objs := rfl
@[simp] theorem State.bump_free (s : State) (f : RegField) : (s.bump f).free = s.free := rfl
@[simp] theorem State.bump_pending (s : State) (f : RegField) : (s.bump f).pending = s.pending := rfl
@[simp] theorem State.byte_bump (s : State) (f : RegField) (k : Nat) : (s.bump f).byte k = s.byte k := rfl
@[simp] theorem State.bumpWrap_partT (s : State) (f : RegField) : (s.bumpWrap f).partT = s.partT := rfl
@[simp] theorem State.bumpWrap_tnet (s : State) (f : RegField) : (s.bumpWrap f).tnet = s.tnet := rfl
@[simp] theorem State.bumpWrap_clock (s : State) (f : RegField) : (s.bumpWrap f).clock = s.clock := rfl
@[simp] theorem State.bumpWrap_mem (s : State) (f : RegField) : (s.bumpWrap f).mem = s.mem := rfl
@[simp] theorem State.bumpWrap_poison (s : State) (f : RegField) : (s.bumpWrap f).poison = s.poison := rfl
@[simp] theorem State.bumpWrap_faults (s : State) (f : RegField) : (s.bumpWrap f).faults = s.faults := rfl
@[simp] theorem State.bumpWrap_power (s : State) (f : RegField) : (s.bumpWrap f).power = s.power := rfl
@[simp] theorem State.bumpWrap_radio (s : State) (f : RegField) : (s.bumpWrap f).radio = s.radio := rfl
@[simp] theorem State.bumpWrap_slot (s : State) (f : RegField) : (s.bumpWrap f).slot = s.slot := rfl
@[simp] theorem State.bumpWrap_mac (s : State) (f : RegField) : (s.bumpWrap f).mac = s.mac := rfl
@[simp] theorem State.bumpWrap_sec (s : State) (f : RegField) : (s.bumpWrap f).sec = s.sec := rfl
@[simp] theorem State.bumpWrap_gnss (s : State) (f : RegField) : (s.bumpWrap f).gnss = s.gnss := rfl
@[simp] theorem State.bumpWrap_rtc (s : State) (f : RegField) : (s.bumpWrap f).rtc = s.rtc := rfl
@[simp] theorem State.bumpWrap_evr (s : State) (f : RegField) : (s.bumpWrap f).evr = s.evr := rfl
@[simp] theorem State.bumpWrap_memctl (s : State) (f : RegField) : (s.bumpWrap f).memctl = s.memctl := rfl
@[simp] theorem State.bumpWrap_flash (s : State) (f : RegField) : (s.bumpWrap f).flash = s.flash := rfl
@[simp] theorem State.bumpWrap_core0 (s : State) (f : RegField) : (s.bumpWrap f).core0 = s.core0 := rfl
@[simp] theorem State.bumpWrap_core1 (s : State) (f : RegField) : (s.bumpWrap f).core1 = s.core1 := rfl
@[simp] theorem State.bumpWrap_lgy (s : State) (f : RegField) : (s.bumpWrap f).lgy = s.lgy := rfl
@[simp] theorem State.bumpWrap_tag (s : State) (f : RegField) : (s.bumpWrap f).tag = s.tag := rfl
@[simp] theorem State.bumpWrap_host (s : State) (f : RegField) : (s.bumpWrap f).host = s.host := rfl
@[simp] theorem State.bumpWrap_boot (s : State) (f : RegField) : (s.bumpWrap f).boot = s.boot := rfl
@[simp] theorem State.bumpWrap_pke (s : State) (f : RegField) : (s.bumpWrap f).pke = s.pke := rfl
@[simp] theorem State.bumpWrap_pins (s : State) (f : RegField) : (s.bumpWrap f).pins = s.pins := rfl
@[simp] theorem State.bumpWrap_objs (s : State) (f : RegField) : (s.bumpWrap f).objs = s.objs := rfl
@[simp] theorem State.bumpWrap_free (s : State) (f : RegField) : (s.bumpWrap f).free = s.free := rfl
@[simp] theorem State.bumpWrap_pending (s : State) (f : RegField) : (s.bumpWrap f).pending = s.pending := rfl
@[simp] theorem State.byte_bumpWrap (s : State) (f : RegField) (k : Nat) : (s.bumpWrap f).byte k = s.byte k := rfl
@[simp] theorem State.setByte_partT (s : State) (a : Nat) (b : Byte) : (s.setByte a b).partT = s.partT := rfl
@[simp] theorem State.setByte_tnet (s : State) (a : Nat) (b : Byte) : (s.setByte a b).tnet = s.tnet := rfl
@[simp] theorem State.setByte_clock (s : State) (a : Nat) (b : Byte) : (s.setByte a b).clock = s.clock := rfl
@[simp] theorem State.setByte_fields (s : State) (a : Nat) (b : Byte) : (s.setByte a b).fields = s.fields := rfl
@[simp] theorem State.setByte_poison (s : State) (a : Nat) (b : Byte) : (s.setByte a b).poison = s.poison := rfl
@[simp] theorem State.setByte_faults (s : State) (a : Nat) (b : Byte) : (s.setByte a b).faults = s.faults := rfl
@[simp] theorem State.setByte_power (s : State) (a : Nat) (b : Byte) : (s.setByte a b).power = s.power := rfl
@[simp] theorem State.setByte_radio (s : State) (a : Nat) (b : Byte) : (s.setByte a b).radio = s.radio := rfl
@[simp] theorem State.setByte_slot (s : State) (a : Nat) (b : Byte) : (s.setByte a b).slot = s.slot := rfl
@[simp] theorem State.setByte_mac (s : State) (a : Nat) (b : Byte) : (s.setByte a b).mac = s.mac := rfl
@[simp] theorem State.setByte_sec (s : State) (a : Nat) (b : Byte) : (s.setByte a b).sec = s.sec := rfl
@[simp] theorem State.setByte_gnss (s : State) (a : Nat) (b : Byte) : (s.setByte a b).gnss = s.gnss := rfl
@[simp] theorem State.setByte_rtc (s : State) (a : Nat) (b : Byte) : (s.setByte a b).rtc = s.rtc := rfl
@[simp] theorem State.setByte_evr (s : State) (a : Nat) (b : Byte) : (s.setByte a b).evr = s.evr := rfl
@[simp] theorem State.setByte_memctl (s : State) (a : Nat) (b : Byte) : (s.setByte a b).memctl = s.memctl := rfl
@[simp] theorem State.setByte_flash (s : State) (a : Nat) (b : Byte) : (s.setByte a b).flash = s.flash := rfl
@[simp] theorem State.setByte_core0 (s : State) (a : Nat) (b : Byte) : (s.setByte a b).core0 = s.core0 := rfl
@[simp] theorem State.setByte_core1 (s : State) (a : Nat) (b : Byte) : (s.setByte a b).core1 = s.core1 := rfl
@[simp] theorem State.setByte_lgy (s : State) (a : Nat) (b : Byte) : (s.setByte a b).lgy = s.lgy := rfl
@[simp] theorem State.setByte_tag (s : State) (a : Nat) (b : Byte) : (s.setByte a b).tag = s.tag := rfl
@[simp] theorem State.setByte_host (s : State) (a : Nat) (b : Byte) : (s.setByte a b).host = s.host := rfl
@[simp] theorem State.setByte_boot (s : State) (a : Nat) (b : Byte) : (s.setByte a b).boot = s.boot := rfl
@[simp] theorem State.setByte_pke (s : State) (a : Nat) (b : Byte) : (s.setByte a b).pke = s.pke := rfl
@[simp] theorem State.setByte_pins (s : State) (a : Nat) (b : Byte) : (s.setByte a b).pins = s.pins := rfl
@[simp] theorem State.setByte_objs (s : State) (a : Nat) (b : Byte) : (s.setByte a b).objs = s.objs := rfl
@[simp] theorem State.setByte_free (s : State) (a : Nat) (b : Byte) : (s.setByte a b).free = s.free := rfl
@[simp] theorem State.setByte_pending (s : State) (a : Nat) (b : Byte) : (s.setByte a b).pending = s.pending := rfl
@[simp] theorem State.get_setByte (s : State) (a : Nat) (b : Byte) (f : RegField) : (s.setByte a b).get f = s.get f := rfl
@[simp] theorem State.setObj_partT (s : State) (key : Nat) (v : List Byte) : (s.setObj key v).partT = s.partT := rfl
@[simp] theorem State.setObj_tnet (s : State) (key : Nat) (v : List Byte) : (s.setObj key v).tnet = s.tnet := rfl
@[simp] theorem State.setObj_clock (s : State) (key : Nat) (v : List Byte) : (s.setObj key v).clock = s.clock := rfl
@[simp] theorem State.setObj_fields (s : State) (key : Nat) (v : List Byte) : (s.setObj key v).fields = s.fields := rfl
@[simp] theorem State.setObj_mem (s : State) (key : Nat) (v : List Byte) : (s.setObj key v).mem = s.mem := rfl
@[simp] theorem State.setObj_poison (s : State) (key : Nat) (v : List Byte) : (s.setObj key v).poison = s.poison := rfl
@[simp] theorem State.setObj_faults (s : State) (key : Nat) (v : List Byte) : (s.setObj key v).faults = s.faults := rfl
@[simp] theorem State.setObj_power (s : State) (key : Nat) (v : List Byte) : (s.setObj key v).power = s.power := rfl
@[simp] theorem State.setObj_radio (s : State) (key : Nat) (v : List Byte) : (s.setObj key v).radio = s.radio := rfl
@[simp] theorem State.setObj_slot (s : State) (key : Nat) (v : List Byte) : (s.setObj key v).slot = s.slot := rfl
@[simp] theorem State.setObj_mac (s : State) (key : Nat) (v : List Byte) : (s.setObj key v).mac = s.mac := rfl
@[simp] theorem State.setObj_sec (s : State) (key : Nat) (v : List Byte) : (s.setObj key v).sec = s.sec := rfl
@[simp] theorem State.setObj_gnss (s : State) (key : Nat) (v : List Byte) : (s.setObj key v).gnss = s.gnss := rfl
@[simp] theorem State.setObj_rtc (s : State) (key : Nat) (v : List Byte) : (s.setObj key v).rtc = s.rtc := rfl
@[simp] theorem State.setObj_evr (s : State) (key : Nat) (v : List Byte) : (s.setObj key v).evr = s.evr := rfl
@[simp] theorem State.setObj_memctl (s : State) (key : Nat) (v : List Byte) : (s.setObj key v).memctl = s.memctl := rfl
@[simp] theorem State.setObj_flash (s : State) (key : Nat) (v : List Byte) : (s.setObj key v).flash = s.flash := rfl
@[simp] theorem State.setObj_core0 (s : State) (key : Nat) (v : List Byte) : (s.setObj key v).core0 = s.core0 := rfl
@[simp] theorem State.setObj_core1 (s : State) (key : Nat) (v : List Byte) : (s.setObj key v).core1 = s.core1 := rfl
@[simp] theorem State.setObj_lgy (s : State) (key : Nat) (v : List Byte) : (s.setObj key v).lgy = s.lgy := rfl
@[simp] theorem State.setObj_tag (s : State) (key : Nat) (v : List Byte) : (s.setObj key v).tag = s.tag := rfl
@[simp] theorem State.setObj_host (s : State) (key : Nat) (v : List Byte) : (s.setObj key v).host = s.host := rfl
@[simp] theorem State.setObj_boot (s : State) (key : Nat) (v : List Byte) : (s.setObj key v).boot = s.boot := rfl
@[simp] theorem State.setObj_pke (s : State) (key : Nat) (v : List Byte) : (s.setObj key v).pke = s.pke := rfl
@[simp] theorem State.setObj_pins (s : State) (key : Nat) (v : List Byte) : (s.setObj key v).pins = s.pins := rfl
@[simp] theorem State.setObj_free (s : State) (key : Nat) (v : List Byte) : (s.setObj key v).free = s.free := rfl
@[simp] theorem State.setObj_pending (s : State) (key : Nat) (v : List Byte) : (s.setObj key v).pending = s.pending := rfl
@[simp] theorem State.get_setObj (s : State) (key : Nat) (v : List Byte) (f : RegField) : (s.setObj key v).get f = s.get f := rfl
@[simp] theorem State.byte_setObj (s : State) (key : Nat) (v : List Byte) (k : Nat) : (s.setObj key v).byte k = s.byte k := rfl
@[simp] theorem State.answer_partT (s : State) (r : OdpStatus) : (s.answer r).partT = s.partT := rfl
@[simp] theorem State.answer_tnet (s : State) (r : OdpStatus) : (s.answer r).tnet = s.tnet := rfl
@[simp] theorem State.answer_clock (s : State) (r : OdpStatus) : (s.answer r).clock = s.clock := rfl
@[simp] theorem State.answer_fields (s : State) (r : OdpStatus) : (s.answer r).fields = s.fields := rfl
@[simp] theorem State.answer_mem (s : State) (r : OdpStatus) : (s.answer r).mem = s.mem := rfl
@[simp] theorem State.answer_poison (s : State) (r : OdpStatus) : (s.answer r).poison = s.poison := rfl
@[simp] theorem State.answer_faults (s : State) (r : OdpStatus) : (s.answer r).faults = s.faults := rfl
@[simp] theorem State.answer_power (s : State) (r : OdpStatus) : (s.answer r).power = s.power := rfl
@[simp] theorem State.answer_radio (s : State) (r : OdpStatus) : (s.answer r).radio = s.radio := rfl
@[simp] theorem State.answer_slot (s : State) (r : OdpStatus) : (s.answer r).slot = s.slot := rfl
@[simp] theorem State.answer_mac (s : State) (r : OdpStatus) : (s.answer r).mac = s.mac := rfl
@[simp] theorem State.answer_sec (s : State) (r : OdpStatus) : (s.answer r).sec = s.sec := rfl
@[simp] theorem State.answer_gnss (s : State) (r : OdpStatus) : (s.answer r).gnss = s.gnss := rfl
@[simp] theorem State.answer_rtc (s : State) (r : OdpStatus) : (s.answer r).rtc = s.rtc := rfl
@[simp] theorem State.answer_evr (s : State) (r : OdpStatus) : (s.answer r).evr = s.evr := rfl
@[simp] theorem State.answer_memctl (s : State) (r : OdpStatus) : (s.answer r).memctl = s.memctl := rfl
@[simp] theorem State.answer_flash (s : State) (r : OdpStatus) : (s.answer r).flash = s.flash := rfl
@[simp] theorem State.answer_core0 (s : State) (r : OdpStatus) : (s.answer r).core0 = s.core0 := rfl
@[simp] theorem State.answer_core1 (s : State) (r : OdpStatus) : (s.answer r).core1 = s.core1 := rfl
@[simp] theorem State.answer_lgy (s : State) (r : OdpStatus) : (s.answer r).lgy = s.lgy := rfl
@[simp] theorem State.answer_tag (s : State) (r : OdpStatus) : (s.answer r).tag = s.tag := rfl
@[simp] theorem State.answer_boot (s : State) (r : OdpStatus) : (s.answer r).boot = s.boot := rfl
@[simp] theorem State.answer_pke (s : State) (r : OdpStatus) : (s.answer r).pke = s.pke := rfl
@[simp] theorem State.answer_pins (s : State) (r : OdpStatus) : (s.answer r).pins = s.pins := rfl
@[simp] theorem State.answer_objs (s : State) (r : OdpStatus) : (s.answer r).objs = s.objs := rfl
@[simp] theorem State.answer_free (s : State) (r : OdpStatus) : (s.answer r).free = s.free := rfl
@[simp] theorem State.answer_pending (s : State) (r : OdpStatus) : (s.answer r).pending = s.pending := rfl
@[simp] theorem State.answer_host (s : State) (r : OdpStatus) : (s.answer r).host = { s.host with result := r } := rfl
@[simp] theorem State.get_answer (s : State) (r : OdpStatus) (f : RegField) : (s.answer r).get f = s.get f := rfl
@[simp] theorem State.byte_answer (s : State) (r : OdpStatus) (k : Nat) : (s.answer r).byte k = s.byte k := rfl
@[simp] theorem State.setHost_partT (s : State) (h : HostPorts) : (s.setHost h).partT = s.partT := rfl
@[simp] theorem State.setHost_tnet (s : State) (h : HostPorts) : (s.setHost h).tnet = s.tnet := rfl
@[simp] theorem State.setHost_clock (s : State) (h : HostPorts) : (s.setHost h).clock = s.clock := rfl
@[simp] theorem State.setHost_fields (s : State) (h : HostPorts) : (s.setHost h).fields = s.fields := rfl
@[simp] theorem State.setHost_mem (s : State) (h : HostPorts) : (s.setHost h).mem = s.mem := rfl
@[simp] theorem State.setHost_poison (s : State) (h : HostPorts) : (s.setHost h).poison = s.poison := rfl
@[simp] theorem State.setHost_faults (s : State) (h : HostPorts) : (s.setHost h).faults = s.faults := rfl
@[simp] theorem State.setHost_power (s : State) (h : HostPorts) : (s.setHost h).power = s.power := rfl
@[simp] theorem State.setHost_radio (s : State) (h : HostPorts) : (s.setHost h).radio = s.radio := rfl
@[simp] theorem State.setHost_slot (s : State) (h : HostPorts) : (s.setHost h).slot = s.slot := rfl
@[simp] theorem State.setHost_mac (s : State) (h : HostPorts) : (s.setHost h).mac = s.mac := rfl
@[simp] theorem State.setHost_sec (s : State) (h : HostPorts) : (s.setHost h).sec = s.sec := rfl
@[simp] theorem State.setHost_gnss (s : State) (h : HostPorts) : (s.setHost h).gnss = s.gnss := rfl
@[simp] theorem State.setHost_rtc (s : State) (h : HostPorts) : (s.setHost h).rtc = s.rtc := rfl
@[simp] theorem State.setHost_evr (s : State) (h : HostPorts) : (s.setHost h).evr = s.evr := rfl
@[simp] theorem State.setHost_memctl (s : State) (h : HostPorts) : (s.setHost h).memctl = s.memctl := rfl
@[simp] theorem State.setHost_flash (s : State) (h : HostPorts) : (s.setHost h).flash = s.flash := rfl
@[simp] theorem State.setHost_core0 (s : State) (h : HostPorts) : (s.setHost h).core0 = s.core0 := rfl
@[simp] theorem State.setHost_core1 (s : State) (h : HostPorts) : (s.setHost h).core1 = s.core1 := rfl
@[simp] theorem State.setHost_lgy (s : State) (h : HostPorts) : (s.setHost h).lgy = s.lgy := rfl
@[simp] theorem State.setHost_tag (s : State) (h : HostPorts) : (s.setHost h).tag = s.tag := rfl
@[simp] theorem State.setHost_boot (s : State) (h : HostPorts) : (s.setHost h).boot = s.boot := rfl
@[simp] theorem State.setHost_pke (s : State) (h : HostPorts) : (s.setHost h).pke = s.pke := rfl
@[simp] theorem State.setHost_pins (s : State) (h : HostPorts) : (s.setHost h).pins = s.pins := rfl
@[simp] theorem State.setHost_objs (s : State) (h : HostPorts) : (s.setHost h).objs = s.objs := rfl
@[simp] theorem State.setHost_free (s : State) (h : HostPorts) : (s.setHost h).free = s.free := rfl
@[simp] theorem State.setHost_pending (s : State) (h : HostPorts) : (s.setHost h).pending = s.pending := rfl
@[simp] theorem State.setHost_host (s : State) (h : HostPorts) : (s.setHost h).host = h := rfl
@[simp] theorem State.get_setHost (s : State) (h : HostPorts) (f : RegField) : (s.setHost h).get f = s.get f := rfl
@[simp] theorem State.byte_setHost (s : State) (h : HostPorts) (k : Nat) : (s.setHost h).byte k = s.byte k := rfl
@[simp] theorem State.setOwnership_partT (s : State) (o : Ownership) : (s.setOwnership o).partT = s.partT := rfl
@[simp] theorem State.setOwnership_tnet (s : State) (o : Ownership) : (s.setOwnership o).tnet = s.tnet := rfl
@[simp] theorem State.setOwnership_clock (s : State) (o : Ownership) : (s.setOwnership o).clock = s.clock := rfl
@[simp] theorem State.setOwnership_fields (s : State) (o : Ownership) : (s.setOwnership o).fields = s.fields := rfl
@[simp] theorem State.setOwnership_mem (s : State) (o : Ownership) : (s.setOwnership o).mem = s.mem := rfl
@[simp] theorem State.setOwnership_poison (s : State) (o : Ownership) : (s.setOwnership o).poison = s.poison := rfl
@[simp] theorem State.setOwnership_faults (s : State) (o : Ownership) : (s.setOwnership o).faults = s.faults := rfl
@[simp] theorem State.setOwnership_power (s : State) (o : Ownership) : (s.setOwnership o).power = s.power := rfl
@[simp] theorem State.setOwnership_radio (s : State) (o : Ownership) : (s.setOwnership o).radio = s.radio := rfl
@[simp] theorem State.setOwnership_slot (s : State) (o : Ownership) : (s.setOwnership o).slot = s.slot := rfl
@[simp] theorem State.setOwnership_mac (s : State) (o : Ownership) : (s.setOwnership o).mac = s.mac := rfl
@[simp] theorem State.setOwnership_sec (s : State) (o : Ownership) : (s.setOwnership o).sec = s.sec := rfl
@[simp] theorem State.setOwnership_gnss (s : State) (o : Ownership) : (s.setOwnership o).gnss = s.gnss := rfl
@[simp] theorem State.setOwnership_rtc (s : State) (o : Ownership) : (s.setOwnership o).rtc = s.rtc := rfl
@[simp] theorem State.setOwnership_evr (s : State) (o : Ownership) : (s.setOwnership o).evr = s.evr := rfl
@[simp] theorem State.setOwnership_memctl (s : State) (o : Ownership) : (s.setOwnership o).memctl = s.memctl := rfl
@[simp] theorem State.setOwnership_flash (s : State) (o : Ownership) : (s.setOwnership o).flash = s.flash := rfl
@[simp] theorem State.setOwnership_core0 (s : State) (o : Ownership) : (s.setOwnership o).core0 = s.core0 := rfl
@[simp] theorem State.setOwnership_core1 (s : State) (o : Ownership) : (s.setOwnership o).core1 = s.core1 := rfl
@[simp] theorem State.setOwnership_lgy (s : State) (o : Ownership) : (s.setOwnership o).lgy = s.lgy := rfl
@[simp] theorem State.setOwnership_tag (s : State) (o : Ownership) : (s.setOwnership o).tag = s.tag := rfl
@[simp] theorem State.setOwnership_boot (s : State) (o : Ownership) : (s.setOwnership o).boot = s.boot := rfl
@[simp] theorem State.setOwnership_pke (s : State) (o : Ownership) : (s.setOwnership o).pke = s.pke := rfl
@[simp] theorem State.setOwnership_pins (s : State) (o : Ownership) : (s.setOwnership o).pins = s.pins := rfl
@[simp] theorem State.setOwnership_objs (s : State) (o : Ownership) : (s.setOwnership o).objs = s.objs := rfl
@[simp] theorem State.setOwnership_free (s : State) (o : Ownership) : (s.setOwnership o).free = s.free := rfl
@[simp] theorem State.setOwnership_pending (s : State) (o : Ownership) : (s.setOwnership o).pending = s.pending := rfl
@[simp] theorem State.setOwnership_host (s : State) (o : Ownership) : (s.setOwnership o).host = { s.host with owner := o } := rfl
@[simp] theorem State.get_setOwnership (s : State) (o : Ownership) (f : RegField) : (s.setOwnership o).get f = s.get f := rfl
@[simp] theorem State.byte_setOwnership (s : State) (o : Ownership) (k : Nat) : (s.setOwnership o).byte k = s.byte k := rfl
@[simp] theorem State.setPower_partT (s : State) (p : Power) : (s.setPower p).partT = s.partT := rfl
@[simp] theorem State.setPower_tnet (s : State) (p : Power) : (s.setPower p).tnet = s.tnet := rfl
@[simp] theorem State.setPower_clock (s : State) (p : Power) : (s.setPower p).clock = s.clock := rfl
@[simp] theorem State.setPower_fields (s : State) (p : Power) : (s.setPower p).fields = s.fields := rfl
@[simp] theorem State.setPower_mem (s : State) (p : Power) : (s.setPower p).mem = s.mem := rfl
@[simp] theorem State.setPower_poison (s : State) (p : Power) : (s.setPower p).poison = s.poison := rfl
@[simp] theorem State.setPower_faults (s : State) (p : Power) : (s.setPower p).faults = s.faults := rfl
@[simp] theorem State.setPower_radio (s : State) (p : Power) : (s.setPower p).radio = s.radio := rfl
@[simp] theorem State.setPower_slot (s : State) (p : Power) : (s.setPower p).slot = s.slot := rfl
@[simp] theorem State.setPower_mac (s : State) (p : Power) : (s.setPower p).mac = s.mac := rfl
@[simp] theorem State.setPower_sec (s : State) (p : Power) : (s.setPower p).sec = s.sec := rfl
@[simp] theorem State.setPower_gnss (s : State) (p : Power) : (s.setPower p).gnss = s.gnss := rfl
@[simp] theorem State.setPower_rtc (s : State) (p : Power) : (s.setPower p).rtc = s.rtc := rfl
@[simp] theorem State.setPower_evr (s : State) (p : Power) : (s.setPower p).evr = s.evr := rfl
@[simp] theorem State.setPower_memctl (s : State) (p : Power) : (s.setPower p).memctl = s.memctl := rfl
@[simp] theorem State.setPower_flash (s : State) (p : Power) : (s.setPower p).flash = s.flash := rfl
@[simp] theorem State.setPower_core0 (s : State) (p : Power) : (s.setPower p).core0 = s.core0 := rfl
@[simp] theorem State.setPower_core1 (s : State) (p : Power) : (s.setPower p).core1 = s.core1 := rfl
@[simp] theorem State.setPower_lgy (s : State) (p : Power) : (s.setPower p).lgy = s.lgy := rfl
@[simp] theorem State.setPower_tag (s : State) (p : Power) : (s.setPower p).tag = s.tag := rfl
@[simp] theorem State.setPower_host (s : State) (p : Power) : (s.setPower p).host = s.host := rfl
@[simp] theorem State.setPower_boot (s : State) (p : Power) : (s.setPower p).boot = s.boot := rfl
@[simp] theorem State.setPower_pke (s : State) (p : Power) : (s.setPower p).pke = s.pke := rfl
@[simp] theorem State.setPower_pins (s : State) (p : Power) : (s.setPower p).pins = s.pins := rfl
@[simp] theorem State.setPower_objs (s : State) (p : Power) : (s.setPower p).objs = s.objs := rfl
@[simp] theorem State.setPower_free (s : State) (p : Power) : (s.setPower p).free = s.free := rfl
@[simp] theorem State.setPower_pending (s : State) (p : Power) : (s.setPower p).pending = s.pending := rfl
@[simp] theorem State.setPower_power (s : State) (p : Power) : (s.setPower p).power = p := rfl
@[simp] theorem State.get_setPower (s : State) (p : Power) (f : RegField) : (s.setPower p).get f = s.get f := rfl
@[simp] theorem State.byte_setPower (s : State) (p : Power) (k : Nat) : (s.setPower p).byte k = s.byte k := rfl
@[simp] theorem State.setRtc_partT (s : State) (r : Rtc) : (s.setRtc r).partT = s.partT := rfl
@[simp] theorem State.setRtc_tnet (s : State) (r : Rtc) : (s.setRtc r).tnet = s.tnet := rfl
@[simp] theorem State.setRtc_clock (s : State) (r : Rtc) : (s.setRtc r).clock = s.clock := rfl
@[simp] theorem State.setRtc_fields (s : State) (r : Rtc) : (s.setRtc r).fields = s.fields := rfl
@[simp] theorem State.setRtc_mem (s : State) (r : Rtc) : (s.setRtc r).mem = s.mem := rfl
@[simp] theorem State.setRtc_poison (s : State) (r : Rtc) : (s.setRtc r).poison = s.poison := rfl
@[simp] theorem State.setRtc_faults (s : State) (r : Rtc) : (s.setRtc r).faults = s.faults := rfl
@[simp] theorem State.setRtc_power (s : State) (r : Rtc) : (s.setRtc r).power = s.power := rfl
@[simp] theorem State.setRtc_radio (s : State) (r : Rtc) : (s.setRtc r).radio = s.radio := rfl
@[simp] theorem State.setRtc_slot (s : State) (r : Rtc) : (s.setRtc r).slot = s.slot := rfl
@[simp] theorem State.setRtc_mac (s : State) (r : Rtc) : (s.setRtc r).mac = s.mac := rfl
@[simp] theorem State.setRtc_sec (s : State) (r : Rtc) : (s.setRtc r).sec = s.sec := rfl
@[simp] theorem State.setRtc_gnss (s : State) (r : Rtc) : (s.setRtc r).gnss = s.gnss := rfl
@[simp] theorem State.setRtc_evr (s : State) (r : Rtc) : (s.setRtc r).evr = s.evr := rfl
@[simp] theorem State.setRtc_memctl (s : State) (r : Rtc) : (s.setRtc r).memctl = s.memctl := rfl
@[simp] theorem State.setRtc_flash (s : State) (r : Rtc) : (s.setRtc r).flash = s.flash := rfl
@[simp] theorem State.setRtc_core0 (s : State) (r : Rtc) : (s.setRtc r).core0 = s.core0 := rfl
@[simp] theorem State.setRtc_core1 (s : State) (r : Rtc) : (s.setRtc r).core1 = s.core1 := rfl
@[simp] theorem State.setRtc_lgy (s : State) (r : Rtc) : (s.setRtc r).lgy = s.lgy := rfl
@[simp] theorem State.setRtc_tag (s : State) (r : Rtc) : (s.setRtc r).tag = s.tag := rfl
@[simp] theorem State.setRtc_host (s : State) (r : Rtc) : (s.setRtc r).host = s.host := rfl
@[simp] theorem State.setRtc_boot (s : State) (r : Rtc) : (s.setRtc r).boot = s.boot := rfl
@[simp] theorem State.setRtc_pke (s : State) (r : Rtc) : (s.setRtc r).pke = s.pke := rfl
@[simp] theorem State.setRtc_pins (s : State) (r : Rtc) : (s.setRtc r).pins = s.pins := rfl
@[simp] theorem State.setRtc_objs (s : State) (r : Rtc) : (s.setRtc r).objs = s.objs := rfl
@[simp] theorem State.setRtc_free (s : State) (r : Rtc) : (s.setRtc r).free = s.free := rfl
@[simp] theorem State.setRtc_pending (s : State) (r : Rtc) : (s.setRtc r).pending = s.pending := rfl
@[simp] theorem State.setRtc_rtc (s : State) (r : Rtc) : (s.setRtc r).rtc = r := rfl
@[simp] theorem State.get_setRtc (s : State) (r : Rtc) (f : RegField) : (s.setRtc r).get f = s.get f := rfl
@[simp] theorem State.byte_setRtc (s : State) (r : Rtc) (k : Nat) : (s.setRtc r).byte k = s.byte k := rfl
@[simp] theorem State.setEvr_partT (s : State) (e : Evr) : (s.setEvr e).partT = s.partT := rfl
@[simp] theorem State.setEvr_tnet (s : State) (e : Evr) : (s.setEvr e).tnet = s.tnet := rfl
@[simp] theorem State.setEvr_clock (s : State) (e : Evr) : (s.setEvr e).clock = s.clock := rfl
@[simp] theorem State.setEvr_fields (s : State) (e : Evr) : (s.setEvr e).fields = s.fields := rfl
@[simp] theorem State.setEvr_mem (s : State) (e : Evr) : (s.setEvr e).mem = s.mem := rfl
@[simp] theorem State.setEvr_poison (s : State) (e : Evr) : (s.setEvr e).poison = s.poison := rfl
@[simp] theorem State.setEvr_faults (s : State) (e : Evr) : (s.setEvr e).faults = s.faults := rfl
@[simp] theorem State.setEvr_power (s : State) (e : Evr) : (s.setEvr e).power = s.power := rfl
@[simp] theorem State.setEvr_radio (s : State) (e : Evr) : (s.setEvr e).radio = s.radio := rfl
@[simp] theorem State.setEvr_slot (s : State) (e : Evr) : (s.setEvr e).slot = s.slot := rfl
@[simp] theorem State.setEvr_mac (s : State) (e : Evr) : (s.setEvr e).mac = s.mac := rfl
@[simp] theorem State.setEvr_sec (s : State) (e : Evr) : (s.setEvr e).sec = s.sec := rfl
@[simp] theorem State.setEvr_gnss (s : State) (e : Evr) : (s.setEvr e).gnss = s.gnss := rfl
@[simp] theorem State.setEvr_rtc (s : State) (e : Evr) : (s.setEvr e).rtc = s.rtc := rfl
@[simp] theorem State.setEvr_memctl (s : State) (e : Evr) : (s.setEvr e).memctl = s.memctl := rfl
@[simp] theorem State.setEvr_flash (s : State) (e : Evr) : (s.setEvr e).flash = s.flash := rfl
@[simp] theorem State.setEvr_core0 (s : State) (e : Evr) : (s.setEvr e).core0 = s.core0 := rfl
@[simp] theorem State.setEvr_core1 (s : State) (e : Evr) : (s.setEvr e).core1 = s.core1 := rfl
@[simp] theorem State.setEvr_lgy (s : State) (e : Evr) : (s.setEvr e).lgy = s.lgy := rfl
@[simp] theorem State.setEvr_tag (s : State) (e : Evr) : (s.setEvr e).tag = s.tag := rfl
@[simp] theorem State.setEvr_host (s : State) (e : Evr) : (s.setEvr e).host = s.host := rfl
@[simp] theorem State.setEvr_boot (s : State) (e : Evr) : (s.setEvr e).boot = s.boot := rfl
@[simp] theorem State.setEvr_pke (s : State) (e : Evr) : (s.setEvr e).pke = s.pke := rfl
@[simp] theorem State.setEvr_pins (s : State) (e : Evr) : (s.setEvr e).pins = s.pins := rfl
@[simp] theorem State.setEvr_objs (s : State) (e : Evr) : (s.setEvr e).objs = s.objs := rfl
@[simp] theorem State.setEvr_free (s : State) (e : Evr) : (s.setEvr e).free = s.free := rfl
@[simp] theorem State.setEvr_pending (s : State) (e : Evr) : (s.setEvr e).pending = s.pending := rfl
@[simp] theorem State.setEvr_evr (s : State) (e : Evr) : (s.setEvr e).evr = e := rfl
@[simp] theorem State.get_setEvr (s : State) (e : Evr) (f : RegField) : (s.setEvr e).get f = s.get f := rfl
@[simp] theorem State.byte_setEvr (s : State) (e : Evr) (k : Nat) : (s.setEvr e).byte k = s.byte k := rfl
@[simp] theorem State.setFlash_partT (s : State) (f : Flash) : (s.setFlash f).partT = s.partT := rfl
@[simp] theorem State.setFlash_tnet (s : State) (f : Flash) : (s.setFlash f).tnet = s.tnet := rfl
@[simp] theorem State.setFlash_clock (s : State) (f : Flash) : (s.setFlash f).clock = s.clock := rfl
@[simp] theorem State.setFlash_fields (s : State) (f : Flash) : (s.setFlash f).fields = s.fields := rfl
@[simp] theorem State.setFlash_mem (s : State) (f : Flash) : (s.setFlash f).mem = s.mem := rfl
@[simp] theorem State.setFlash_poison (s : State) (f : Flash) : (s.setFlash f).poison = s.poison := rfl
@[simp] theorem State.setFlash_faults (s : State) (f : Flash) : (s.setFlash f).faults = s.faults := rfl
@[simp] theorem State.setFlash_power (s : State) (f : Flash) : (s.setFlash f).power = s.power := rfl
@[simp] theorem State.setFlash_radio (s : State) (f : Flash) : (s.setFlash f).radio = s.radio := rfl
@[simp] theorem State.setFlash_slot (s : State) (f : Flash) : (s.setFlash f).slot = s.slot := rfl
@[simp] theorem State.setFlash_mac (s : State) (f : Flash) : (s.setFlash f).mac = s.mac := rfl
@[simp] theorem State.setFlash_sec (s : State) (f : Flash) : (s.setFlash f).sec = s.sec := rfl
@[simp] theorem State.setFlash_gnss (s : State) (f : Flash) : (s.setFlash f).gnss = s.gnss := rfl
@[simp] theorem State.setFlash_rtc (s : State) (f : Flash) : (s.setFlash f).rtc = s.rtc := rfl
@[simp] theorem State.setFlash_evr (s : State) (f : Flash) : (s.setFlash f).evr = s.evr := rfl
@[simp] theorem State.setFlash_memctl (s : State) (f : Flash) : (s.setFlash f).memctl = s.memctl := rfl
@[simp] theorem State.setFlash_core0 (s : State) (f : Flash) : (s.setFlash f).core0 = s.core0 := rfl
@[simp] theorem State.setFlash_core1 (s : State) (f : Flash) : (s.setFlash f).core1 = s.core1 := rfl
@[simp] theorem State.setFlash_lgy (s : State) (f : Flash) : (s.setFlash f).lgy = s.lgy := rfl
@[simp] theorem State.setFlash_tag (s : State) (f : Flash) : (s.setFlash f).tag = s.tag := rfl
@[simp] theorem State.setFlash_host (s : State) (f : Flash) : (s.setFlash f).host = s.host := rfl
@[simp] theorem State.setFlash_boot (s : State) (f : Flash) : (s.setFlash f).boot = s.boot := rfl
@[simp] theorem State.setFlash_pke (s : State) (f : Flash) : (s.setFlash f).pke = s.pke := rfl
@[simp] theorem State.setFlash_pins (s : State) (f : Flash) : (s.setFlash f).pins = s.pins := rfl
@[simp] theorem State.setFlash_objs (s : State) (f : Flash) : (s.setFlash f).objs = s.objs := rfl
@[simp] theorem State.setFlash_free (s : State) (f : Flash) : (s.setFlash f).free = s.free := rfl
@[simp] theorem State.setFlash_pending (s : State) (f : Flash) : (s.setFlash f).pending = s.pending := rfl
@[simp] theorem State.setFlash_flash (s : State) (f : Flash) : (s.setFlash f).flash = f := rfl
@[simp] theorem State.get_setFlash (s : State) (x : Flash) (f : RegField) : (s.setFlash x).get f = s.get f := rfl
@[simp] theorem State.byte_setFlash (s : State) (f : Flash) (k : Nat) : (s.setFlash f).byte k = s.byte k := rfl
@[simp] theorem State.setBoot_partT (s : State) (b : Boot) : (s.setBoot b).partT = s.partT := rfl
@[simp] theorem State.setBoot_tnet (s : State) (b : Boot) : (s.setBoot b).tnet = s.tnet := rfl
@[simp] theorem State.setBoot_clock (s : State) (b : Boot) : (s.setBoot b).clock = s.clock := rfl
@[simp] theorem State.setBoot_fields (s : State) (b : Boot) : (s.setBoot b).fields = s.fields := rfl
@[simp] theorem State.setBoot_mem (s : State) (b : Boot) : (s.setBoot b).mem = s.mem := rfl
@[simp] theorem State.setBoot_poison (s : State) (b : Boot) : (s.setBoot b).poison = s.poison := rfl
@[simp] theorem State.setBoot_faults (s : State) (b : Boot) : (s.setBoot b).faults = s.faults := rfl
@[simp] theorem State.setBoot_power (s : State) (b : Boot) : (s.setBoot b).power = s.power := rfl
@[simp] theorem State.setBoot_radio (s : State) (b : Boot) : (s.setBoot b).radio = s.radio := rfl
@[simp] theorem State.setBoot_slot (s : State) (b : Boot) : (s.setBoot b).slot = s.slot := rfl
@[simp] theorem State.setBoot_mac (s : State) (b : Boot) : (s.setBoot b).mac = s.mac := rfl
@[simp] theorem State.setBoot_sec (s : State) (b : Boot) : (s.setBoot b).sec = s.sec := rfl
@[simp] theorem State.setBoot_gnss (s : State) (b : Boot) : (s.setBoot b).gnss = s.gnss := rfl
@[simp] theorem State.setBoot_rtc (s : State) (b : Boot) : (s.setBoot b).rtc = s.rtc := rfl
@[simp] theorem State.setBoot_evr (s : State) (b : Boot) : (s.setBoot b).evr = s.evr := rfl
@[simp] theorem State.setBoot_memctl (s : State) (b : Boot) : (s.setBoot b).memctl = s.memctl := rfl
@[simp] theorem State.setBoot_flash (s : State) (b : Boot) : (s.setBoot b).flash = s.flash := rfl
@[simp] theorem State.setBoot_core0 (s : State) (b : Boot) : (s.setBoot b).core0 = s.core0 := rfl
@[simp] theorem State.setBoot_core1 (s : State) (b : Boot) : (s.setBoot b).core1 = s.core1 := rfl
@[simp] theorem State.setBoot_lgy (s : State) (b : Boot) : (s.setBoot b).lgy = s.lgy := rfl
@[simp] theorem State.setBoot_tag (s : State) (b : Boot) : (s.setBoot b).tag = s.tag := rfl
@[simp] theorem State.setBoot_host (s : State) (b : Boot) : (s.setBoot b).host = s.host := rfl
@[simp] theorem State.setBoot_pke (s : State) (b : Boot) : (s.setBoot b).pke = s.pke := rfl
@[simp] theorem State.setBoot_pins (s : State) (b : Boot) : (s.setBoot b).pins = s.pins := rfl
@[simp] theorem State.setBoot_objs (s : State) (b : Boot) : (s.setBoot b).objs = s.objs := rfl
@[simp] theorem State.setBoot_free (s : State) (b : Boot) : (s.setBoot b).free = s.free := rfl
@[simp] theorem State.setBoot_pending (s : State) (b : Boot) : (s.setBoot b).pending = s.pending := rfl
@[simp] theorem State.setBoot_boot (s : State) (b : Boot) : (s.setBoot b).boot = b := rfl
@[simp] theorem State.get_setBoot (s : State) (b : Boot) (f : RegField) : (s.setBoot b).get f = s.get f := rfl
@[simp] theorem State.byte_setBoot (s : State) (b : Boot) (k : Nat) : (s.setBoot b).byte k = s.byte k := rfl
@[simp] theorem State.setUpd_partT (s : State) (u : Update) : (s.setUpd u).partT = s.partT := rfl
@[simp] theorem State.setUpd_tnet (s : State) (u : Update) : (s.setUpd u).tnet = s.tnet := rfl
@[simp] theorem State.setUpd_clock (s : State) (u : Update) : (s.setUpd u).clock = s.clock := rfl
@[simp] theorem State.setUpd_fields (s : State) (u : Update) : (s.setUpd u).fields = s.fields := rfl
@[simp] theorem State.setUpd_mem (s : State) (u : Update) : (s.setUpd u).mem = s.mem := rfl
@[simp] theorem State.setUpd_poison (s : State) (u : Update) : (s.setUpd u).poison = s.poison := rfl
@[simp] theorem State.setUpd_faults (s : State) (u : Update) : (s.setUpd u).faults = s.faults := rfl
@[simp] theorem State.setUpd_power (s : State) (u : Update) : (s.setUpd u).power = s.power := rfl
@[simp] theorem State.setUpd_radio (s : State) (u : Update) : (s.setUpd u).radio = s.radio := rfl
@[simp] theorem State.setUpd_slot (s : State) (u : Update) : (s.setUpd u).slot = s.slot := rfl
@[simp] theorem State.setUpd_mac (s : State) (u : Update) : (s.setUpd u).mac = s.mac := rfl
@[simp] theorem State.setUpd_sec (s : State) (u : Update) : (s.setUpd u).sec = s.sec := rfl
@[simp] theorem State.setUpd_gnss (s : State) (u : Update) : (s.setUpd u).gnss = s.gnss := rfl
@[simp] theorem State.setUpd_rtc (s : State) (u : Update) : (s.setUpd u).rtc = s.rtc := rfl
@[simp] theorem State.setUpd_evr (s : State) (u : Update) : (s.setUpd u).evr = s.evr := rfl
@[simp] theorem State.setUpd_memctl (s : State) (u : Update) : (s.setUpd u).memctl = s.memctl := rfl
@[simp] theorem State.setUpd_flash (s : State) (u : Update) : (s.setUpd u).flash = s.flash := rfl
@[simp] theorem State.setUpd_core0 (s : State) (u : Update) : (s.setUpd u).core0 = s.core0 := rfl
@[simp] theorem State.setUpd_core1 (s : State) (u : Update) : (s.setUpd u).core1 = s.core1 := rfl
@[simp] theorem State.setUpd_lgy (s : State) (u : Update) : (s.setUpd u).lgy = s.lgy := rfl
@[simp] theorem State.setUpd_tag (s : State) (u : Update) : (s.setUpd u).tag = s.tag := rfl
@[simp] theorem State.setUpd_host (s : State) (u : Update) : (s.setUpd u).host = s.host := rfl
@[simp] theorem State.setUpd_pke (s : State) (u : Update) : (s.setUpd u).pke = s.pke := rfl
@[simp] theorem State.setUpd_pins (s : State) (u : Update) : (s.setUpd u).pins = s.pins := rfl
@[simp] theorem State.setUpd_objs (s : State) (u : Update) : (s.setUpd u).objs = s.objs := rfl
@[simp] theorem State.setUpd_free (s : State) (u : Update) : (s.setUpd u).free = s.free := rfl
@[simp] theorem State.setUpd_pending (s : State) (u : Update) : (s.setUpd u).pending = s.pending := rfl
@[simp] theorem State.setUpd_boot (s : State) (u : Update) : (s.setUpd u).boot = { s.boot with upd := u } := rfl
@[simp] theorem State.get_setUpd (s : State) (u : Update) (f : RegField) : (s.setUpd u).get f = s.get f := rfl
@[simp] theorem State.byte_setUpd (s : State) (u : Update) (k : Nat) : (s.setUpd u).byte k = s.byte k := rfl
@[simp] theorem State.setSession_partT (s : State) (r : Option RecSession) : (s.setSession r).partT = s.partT := rfl
@[simp] theorem State.setSession_tnet (s : State) (r : Option RecSession) : (s.setSession r).tnet = s.tnet := rfl
@[simp] theorem State.setSession_clock (s : State) (r : Option RecSession) : (s.setSession r).clock = s.clock := rfl
@[simp] theorem State.setSession_fields (s : State) (r : Option RecSession) : (s.setSession r).fields = s.fields := rfl
@[simp] theorem State.setSession_mem (s : State) (r : Option RecSession) : (s.setSession r).mem = s.mem := rfl
@[simp] theorem State.setSession_poison (s : State) (r : Option RecSession) : (s.setSession r).poison = s.poison := rfl
@[simp] theorem State.setSession_faults (s : State) (r : Option RecSession) : (s.setSession r).faults = s.faults := rfl
@[simp] theorem State.setSession_power (s : State) (r : Option RecSession) : (s.setSession r).power = s.power := rfl
@[simp] theorem State.setSession_radio (s : State) (r : Option RecSession) : (s.setSession r).radio = s.radio := rfl
@[simp] theorem State.setSession_slot (s : State) (r : Option RecSession) : (s.setSession r).slot = s.slot := rfl
@[simp] theorem State.setSession_mac (s : State) (r : Option RecSession) : (s.setSession r).mac = s.mac := rfl
@[simp] theorem State.setSession_sec (s : State) (r : Option RecSession) : (s.setSession r).sec = s.sec := rfl
@[simp] theorem State.setSession_gnss (s : State) (r : Option RecSession) : (s.setSession r).gnss = s.gnss := rfl
@[simp] theorem State.setSession_rtc (s : State) (r : Option RecSession) : (s.setSession r).rtc = s.rtc := rfl
@[simp] theorem State.setSession_evr (s : State) (r : Option RecSession) : (s.setSession r).evr = s.evr := rfl
@[simp] theorem State.setSession_memctl (s : State) (r : Option RecSession) : (s.setSession r).memctl = s.memctl := rfl
@[simp] theorem State.setSession_flash (s : State) (r : Option RecSession) : (s.setSession r).flash = s.flash := rfl
@[simp] theorem State.setSession_core0 (s : State) (r : Option RecSession) : (s.setSession r).core0 = s.core0 := rfl
@[simp] theorem State.setSession_core1 (s : State) (r : Option RecSession) : (s.setSession r).core1 = s.core1 := rfl
@[simp] theorem State.setSession_lgy (s : State) (r : Option RecSession) : (s.setSession r).lgy = s.lgy := rfl
@[simp] theorem State.setSession_tag (s : State) (r : Option RecSession) : (s.setSession r).tag = s.tag := rfl
@[simp] theorem State.setSession_host (s : State) (r : Option RecSession) : (s.setSession r).host = s.host := rfl
@[simp] theorem State.setSession_pke (s : State) (r : Option RecSession) : (s.setSession r).pke = s.pke := rfl
@[simp] theorem State.setSession_pins (s : State) (r : Option RecSession) : (s.setSession r).pins = s.pins := rfl
@[simp] theorem State.setSession_objs (s : State) (r : Option RecSession) : (s.setSession r).objs = s.objs := rfl
@[simp] theorem State.setSession_free (s : State) (r : Option RecSession) : (s.setSession r).free = s.free := rfl
@[simp] theorem State.setSession_pending (s : State) (r : Option RecSession) : (s.setSession r).pending = s.pending := rfl
@[simp] theorem State.setSession_boot (s : State) (r : Option RecSession) : (s.setSession r).boot = { s.boot with session := r } := rfl
@[simp] theorem State.get_setSession (s : State) (r : Option RecSession) (f : RegField) : (s.setSession r).get f = s.get f := rfl
@[simp] theorem State.byte_setSession (s : State) (r : Option RecSession) (k : Nat) : (s.setSession r).byte k = s.byte k := rfl
@[simp] theorem State.setGnss_partT (s : State) (g : Gnss) : (s.setGnss g).partT = s.partT := rfl
@[simp] theorem State.setGnss_tnet (s : State) (g : Gnss) : (s.setGnss g).tnet = s.tnet := rfl
@[simp] theorem State.setGnss_clock (s : State) (g : Gnss) : (s.setGnss g).clock = s.clock := rfl
@[simp] theorem State.setGnss_fields (s : State) (g : Gnss) : (s.setGnss g).fields = s.fields := rfl
@[simp] theorem State.setGnss_mem (s : State) (g : Gnss) : (s.setGnss g).mem = s.mem := rfl
@[simp] theorem State.setGnss_poison (s : State) (g : Gnss) : (s.setGnss g).poison = s.poison := rfl
@[simp] theorem State.setGnss_faults (s : State) (g : Gnss) : (s.setGnss g).faults = s.faults := rfl
@[simp] theorem State.setGnss_power (s : State) (g : Gnss) : (s.setGnss g).power = s.power := rfl
@[simp] theorem State.setGnss_radio (s : State) (g : Gnss) : (s.setGnss g).radio = s.radio := rfl
@[simp] theorem State.setGnss_slot (s : State) (g : Gnss) : (s.setGnss g).slot = s.slot := rfl
@[simp] theorem State.setGnss_mac (s : State) (g : Gnss) : (s.setGnss g).mac = s.mac := rfl
@[simp] theorem State.setGnss_sec (s : State) (g : Gnss) : (s.setGnss g).sec = s.sec := rfl
@[simp] theorem State.setGnss_rtc (s : State) (g : Gnss) : (s.setGnss g).rtc = s.rtc := rfl
@[simp] theorem State.setGnss_evr (s : State) (g : Gnss) : (s.setGnss g).evr = s.evr := rfl
@[simp] theorem State.setGnss_memctl (s : State) (g : Gnss) : (s.setGnss g).memctl = s.memctl := rfl
@[simp] theorem State.setGnss_flash (s : State) (g : Gnss) : (s.setGnss g).flash = s.flash := rfl
@[simp] theorem State.setGnss_core0 (s : State) (g : Gnss) : (s.setGnss g).core0 = s.core0 := rfl
@[simp] theorem State.setGnss_core1 (s : State) (g : Gnss) : (s.setGnss g).core1 = s.core1 := rfl
@[simp] theorem State.setGnss_lgy (s : State) (g : Gnss) : (s.setGnss g).lgy = s.lgy := rfl
@[simp] theorem State.setGnss_tag (s : State) (g : Gnss) : (s.setGnss g).tag = s.tag := rfl
@[simp] theorem State.setGnss_host (s : State) (g : Gnss) : (s.setGnss g).host = s.host := rfl
@[simp] theorem State.setGnss_boot (s : State) (g : Gnss) : (s.setGnss g).boot = s.boot := rfl
@[simp] theorem State.setGnss_pke (s : State) (g : Gnss) : (s.setGnss g).pke = s.pke := rfl
@[simp] theorem State.setGnss_pins (s : State) (g : Gnss) : (s.setGnss g).pins = s.pins := rfl
@[simp] theorem State.setGnss_objs (s : State) (g : Gnss) : (s.setGnss g).objs = s.objs := rfl
@[simp] theorem State.setGnss_free (s : State) (g : Gnss) : (s.setGnss g).free = s.free := rfl
@[simp] theorem State.setGnss_pending (s : State) (g : Gnss) : (s.setGnss g).pending = s.pending := rfl
@[simp] theorem State.setGnss_gnss (s : State) (g : Gnss) : (s.setGnss g).gnss = g := rfl
@[simp] theorem State.get_setGnss (s : State) (g : Gnss) (f : RegField) : (s.setGnss g).get f = s.get f := rfl
@[simp] theorem State.byte_setGnss (s : State) (g : Gnss) (k : Nat) : (s.setGnss g).byte k = s.byte k := rfl
@[simp] theorem State.setTagPort_partT (s : State) (t : TagPort) : (s.setTagPort t).partT = s.partT := rfl
@[simp] theorem State.setTagPort_tnet (s : State) (t : TagPort) : (s.setTagPort t).tnet = s.tnet := rfl
@[simp] theorem State.setTagPort_clock (s : State) (t : TagPort) : (s.setTagPort t).clock = s.clock := rfl
@[simp] theorem State.setTagPort_fields (s : State) (t : TagPort) : (s.setTagPort t).fields = s.fields := rfl
@[simp] theorem State.setTagPort_mem (s : State) (t : TagPort) : (s.setTagPort t).mem = s.mem := rfl
@[simp] theorem State.setTagPort_poison (s : State) (t : TagPort) : (s.setTagPort t).poison = s.poison := rfl
@[simp] theorem State.setTagPort_faults (s : State) (t : TagPort) : (s.setTagPort t).faults = s.faults := rfl
@[simp] theorem State.setTagPort_power (s : State) (t : TagPort) : (s.setTagPort t).power = s.power := rfl
@[simp] theorem State.setTagPort_radio (s : State) (t : TagPort) : (s.setTagPort t).radio = s.radio := rfl
@[simp] theorem State.setTagPort_slot (s : State) (t : TagPort) : (s.setTagPort t).slot = s.slot := rfl
@[simp] theorem State.setTagPort_mac (s : State) (t : TagPort) : (s.setTagPort t).mac = s.mac := rfl
@[simp] theorem State.setTagPort_sec (s : State) (t : TagPort) : (s.setTagPort t).sec = s.sec := rfl
@[simp] theorem State.setTagPort_gnss (s : State) (t : TagPort) : (s.setTagPort t).gnss = s.gnss := rfl
@[simp] theorem State.setTagPort_rtc (s : State) (t : TagPort) : (s.setTagPort t).rtc = s.rtc := rfl
@[simp] theorem State.setTagPort_evr (s : State) (t : TagPort) : (s.setTagPort t).evr = s.evr := rfl
@[simp] theorem State.setTagPort_memctl (s : State) (t : TagPort) : (s.setTagPort t).memctl = s.memctl := rfl
@[simp] theorem State.setTagPort_flash (s : State) (t : TagPort) : (s.setTagPort t).flash = s.flash := rfl
@[simp] theorem State.setTagPort_core0 (s : State) (t : TagPort) : (s.setTagPort t).core0 = s.core0 := rfl
@[simp] theorem State.setTagPort_core1 (s : State) (t : TagPort) : (s.setTagPort t).core1 = s.core1 := rfl
@[simp] theorem State.setTagPort_lgy (s : State) (t : TagPort) : (s.setTagPort t).lgy = s.lgy := rfl
@[simp] theorem State.setTagPort_host (s : State) (t : TagPort) : (s.setTagPort t).host = s.host := rfl
@[simp] theorem State.setTagPort_boot (s : State) (t : TagPort) : (s.setTagPort t).boot = s.boot := rfl
@[simp] theorem State.setTagPort_pke (s : State) (t : TagPort) : (s.setTagPort t).pke = s.pke := rfl
@[simp] theorem State.setTagPort_pins (s : State) (t : TagPort) : (s.setTagPort t).pins = s.pins := rfl
@[simp] theorem State.setTagPort_objs (s : State) (t : TagPort) : (s.setTagPort t).objs = s.objs := rfl
@[simp] theorem State.setTagPort_free (s : State) (t : TagPort) : (s.setTagPort t).free = s.free := rfl
@[simp] theorem State.setTagPort_pending (s : State) (t : TagPort) : (s.setTagPort t).pending = s.pending := rfl
@[simp] theorem State.setTagPort_tag (s : State) (t : TagPort) : (s.setTagPort t).tag = t := rfl
@[simp] theorem State.get_setTagPort (s : State) (t : TagPort) (f : RegField) : (s.setTagPort t).get f = s.get f := rfl
@[simp] theorem State.byte_setTagPort (s : State) (t : TagPort) (k : Nat) : (s.setTagPort t).byte k = s.byte k := rfl
@[simp] theorem State.setTag_partT (s : State) (a : Nat) (t : Tag) : (s.setTag a t).partT = s.partT := rfl
@[simp] theorem State.setTag_tnet (s : State) (a : Nat) (t : Tag) : (s.setTag a t).tnet = s.tnet := rfl
@[simp] theorem State.setTag_clock (s : State) (a : Nat) (t : Tag) : (s.setTag a t).clock = s.clock := rfl
@[simp] theorem State.setTag_fields (s : State) (a : Nat) (t : Tag) : (s.setTag a t).fields = s.fields := rfl
@[simp] theorem State.setTag_mem (s : State) (a : Nat) (t : Tag) : (s.setTag a t).mem = s.mem := rfl
@[simp] theorem State.setTag_poison (s : State) (a : Nat) (t : Tag) : (s.setTag a t).poison = s.poison := rfl
@[simp] theorem State.setTag_faults (s : State) (a : Nat) (t : Tag) : (s.setTag a t).faults = s.faults := rfl
@[simp] theorem State.setTag_power (s : State) (a : Nat) (t : Tag) : (s.setTag a t).power = s.power := rfl
@[simp] theorem State.setTag_radio (s : State) (a : Nat) (t : Tag) : (s.setTag a t).radio = s.radio := rfl
@[simp] theorem State.setTag_slot (s : State) (a : Nat) (t : Tag) : (s.setTag a t).slot = s.slot := rfl
@[simp] theorem State.setTag_mac (s : State) (a : Nat) (t : Tag) : (s.setTag a t).mac = s.mac := rfl
@[simp] theorem State.setTag_sec (s : State) (a : Nat) (t : Tag) : (s.setTag a t).sec = s.sec := rfl
@[simp] theorem State.setTag_gnss (s : State) (a : Nat) (t : Tag) : (s.setTag a t).gnss = s.gnss := rfl
@[simp] theorem State.setTag_rtc (s : State) (a : Nat) (t : Tag) : (s.setTag a t).rtc = s.rtc := rfl
@[simp] theorem State.setTag_evr (s : State) (a : Nat) (t : Tag) : (s.setTag a t).evr = s.evr := rfl
@[simp] theorem State.setTag_flash (s : State) (a : Nat) (t : Tag) : (s.setTag a t).flash = s.flash := rfl
@[simp] theorem State.setTag_core0 (s : State) (a : Nat) (t : Tag) : (s.setTag a t).core0 = s.core0 := rfl
@[simp] theorem State.setTag_core1 (s : State) (a : Nat) (t : Tag) : (s.setTag a t).core1 = s.core1 := rfl
@[simp] theorem State.setTag_lgy (s : State) (a : Nat) (t : Tag) : (s.setTag a t).lgy = s.lgy := rfl
@[simp] theorem State.setTag_tag (s : State) (a : Nat) (t : Tag) : (s.setTag a t).tag = s.tag := rfl
@[simp] theorem State.setTag_host (s : State) (a : Nat) (t : Tag) : (s.setTag a t).host = s.host := rfl
@[simp] theorem State.setTag_boot (s : State) (a : Nat) (t : Tag) : (s.setTag a t).boot = s.boot := rfl
@[simp] theorem State.setTag_pke (s : State) (a : Nat) (t : Tag) : (s.setTag a t).pke = s.pke := rfl
@[simp] theorem State.setTag_pins (s : State) (a : Nat) (t : Tag) : (s.setTag a t).pins = s.pins := rfl
@[simp] theorem State.setTag_objs (s : State) (a : Nat) (t : Tag) : (s.setTag a t).objs = s.objs := rfl
@[simp] theorem State.setTag_free (s : State) (a : Nat) (t : Tag) : (s.setTag a t).free = s.free := rfl
@[simp] theorem State.setTag_pending (s : State) (a : Nat) (t : Tag) : (s.setTag a t).pending = s.pending := rfl
@[simp] theorem State.get_setTag (s : State) (a : Nat) (t : Tag) (f : RegField) : (s.setTag a t).get f = s.get f := rfl
@[simp] theorem State.byte_setTag (s : State) (a : Nat) (t : Tag) (k : Nat) : (s.setTag a t).byte k = s.byte k := rfl
@[simp] theorem State.setDuty_partT (s : State) (g : Nat) (d : DutyGroup) : (s.setDuty g d).partT = s.partT := rfl
@[simp] theorem State.setDuty_tnet (s : State) (g : Nat) (d : DutyGroup) : (s.setDuty g d).tnet = s.tnet := rfl
@[simp] theorem State.setDuty_clock (s : State) (g : Nat) (d : DutyGroup) : (s.setDuty g d).clock = s.clock := rfl
@[simp] theorem State.setDuty_fields (s : State) (g : Nat) (d : DutyGroup) : (s.setDuty g d).fields = s.fields := rfl
@[simp] theorem State.setDuty_mem (s : State) (g : Nat) (d : DutyGroup) : (s.setDuty g d).mem = s.mem := rfl
@[simp] theorem State.setDuty_poison (s : State) (g : Nat) (d : DutyGroup) : (s.setDuty g d).poison = s.poison := rfl
@[simp] theorem State.setDuty_faults (s : State) (g : Nat) (d : DutyGroup) : (s.setDuty g d).faults = s.faults := rfl
@[simp] theorem State.setDuty_power (s : State) (g : Nat) (d : DutyGroup) : (s.setDuty g d).power = s.power := rfl
@[simp] theorem State.setDuty_slot (s : State) (g : Nat) (d : DutyGroup) : (s.setDuty g d).slot = s.slot := rfl
@[simp] theorem State.setDuty_mac (s : State) (g : Nat) (d : DutyGroup) : (s.setDuty g d).mac = s.mac := rfl
@[simp] theorem State.setDuty_sec (s : State) (g : Nat) (d : DutyGroup) : (s.setDuty g d).sec = s.sec := rfl
@[simp] theorem State.setDuty_gnss (s : State) (g : Nat) (d : DutyGroup) : (s.setDuty g d).gnss = s.gnss := rfl
@[simp] theorem State.setDuty_rtc (s : State) (g : Nat) (d : DutyGroup) : (s.setDuty g d).rtc = s.rtc := rfl
@[simp] theorem State.setDuty_evr (s : State) (g : Nat) (d : DutyGroup) : (s.setDuty g d).evr = s.evr := rfl
@[simp] theorem State.setDuty_memctl (s : State) (g : Nat) (d : DutyGroup) : (s.setDuty g d).memctl = s.memctl := rfl
@[simp] theorem State.setDuty_flash (s : State) (g : Nat) (d : DutyGroup) : (s.setDuty g d).flash = s.flash := rfl
@[simp] theorem State.setDuty_core0 (s : State) (g : Nat) (d : DutyGroup) : (s.setDuty g d).core0 = s.core0 := rfl
@[simp] theorem State.setDuty_core1 (s : State) (g : Nat) (d : DutyGroup) : (s.setDuty g d).core1 = s.core1 := rfl
@[simp] theorem State.setDuty_lgy (s : State) (g : Nat) (d : DutyGroup) : (s.setDuty g d).lgy = s.lgy := rfl
@[simp] theorem State.setDuty_tag (s : State) (g : Nat) (d : DutyGroup) : (s.setDuty g d).tag = s.tag := rfl
@[simp] theorem State.setDuty_host (s : State) (g : Nat) (d : DutyGroup) : (s.setDuty g d).host = s.host := rfl
@[simp] theorem State.setDuty_boot (s : State) (g : Nat) (d : DutyGroup) : (s.setDuty g d).boot = s.boot := rfl
@[simp] theorem State.setDuty_pke (s : State) (g : Nat) (d : DutyGroup) : (s.setDuty g d).pke = s.pke := rfl
@[simp] theorem State.setDuty_pins (s : State) (g : Nat) (d : DutyGroup) : (s.setDuty g d).pins = s.pins := rfl
@[simp] theorem State.setDuty_objs (s : State) (g : Nat) (d : DutyGroup) : (s.setDuty g d).objs = s.objs := rfl
@[simp] theorem State.setDuty_free (s : State) (g : Nat) (d : DutyGroup) : (s.setDuty g d).free = s.free := rfl
@[simp] theorem State.setDuty_pending (s : State) (g : Nat) (d : DutyGroup) : (s.setDuty g d).pending = s.pending := rfl
@[simp] theorem State.get_setDuty (s : State) (g : Nat) (d : DutyGroup) (f : RegField) : (s.setDuty g d).get f = s.get f := rfl
@[simp] theorem State.byte_setDuty (s : State) (g : Nat) (d : DutyGroup) (k : Nat) : (s.setDuty g d).byte k = s.byte k := rfl
@[simp] theorem State.setTest_partT (s : State) (t : TestOp) : (s.setTest t).partT = s.partT := rfl
@[simp] theorem State.setTest_tnet (s : State) (t : TestOp) : (s.setTest t).tnet = s.tnet := rfl
@[simp] theorem State.setTest_clock (s : State) (t : TestOp) : (s.setTest t).clock = s.clock := rfl
@[simp] theorem State.setTest_fields (s : State) (t : TestOp) : (s.setTest t).fields = s.fields := rfl
@[simp] theorem State.setTest_mem (s : State) (t : TestOp) : (s.setTest t).mem = s.mem := rfl
@[simp] theorem State.setTest_poison (s : State) (t : TestOp) : (s.setTest t).poison = s.poison := rfl
@[simp] theorem State.setTest_faults (s : State) (t : TestOp) : (s.setTest t).faults = s.faults := rfl
@[simp] theorem State.setTest_power (s : State) (t : TestOp) : (s.setTest t).power = s.power := rfl
@[simp] theorem State.setTest_slot (s : State) (t : TestOp) : (s.setTest t).slot = s.slot := rfl
@[simp] theorem State.setTest_mac (s : State) (t : TestOp) : (s.setTest t).mac = s.mac := rfl
@[simp] theorem State.setTest_sec (s : State) (t : TestOp) : (s.setTest t).sec = s.sec := rfl
@[simp] theorem State.setTest_gnss (s : State) (t : TestOp) : (s.setTest t).gnss = s.gnss := rfl
@[simp] theorem State.setTest_rtc (s : State) (t : TestOp) : (s.setTest t).rtc = s.rtc := rfl
@[simp] theorem State.setTest_evr (s : State) (t : TestOp) : (s.setTest t).evr = s.evr := rfl
@[simp] theorem State.setTest_memctl (s : State) (t : TestOp) : (s.setTest t).memctl = s.memctl := rfl
@[simp] theorem State.setTest_flash (s : State) (t : TestOp) : (s.setTest t).flash = s.flash := rfl
@[simp] theorem State.setTest_core0 (s : State) (t : TestOp) : (s.setTest t).core0 = s.core0 := rfl
@[simp] theorem State.setTest_core1 (s : State) (t : TestOp) : (s.setTest t).core1 = s.core1 := rfl
@[simp] theorem State.setTest_lgy (s : State) (t : TestOp) : (s.setTest t).lgy = s.lgy := rfl
@[simp] theorem State.setTest_tag (s : State) (t : TestOp) : (s.setTest t).tag = s.tag := rfl
@[simp] theorem State.setTest_host (s : State) (t : TestOp) : (s.setTest t).host = s.host := rfl
@[simp] theorem State.setTest_boot (s : State) (t : TestOp) : (s.setTest t).boot = s.boot := rfl
@[simp] theorem State.setTest_pke (s : State) (t : TestOp) : (s.setTest t).pke = s.pke := rfl
@[simp] theorem State.setTest_pins (s : State) (t : TestOp) : (s.setTest t).pins = s.pins := rfl
@[simp] theorem State.setTest_objs (s : State) (t : TestOp) : (s.setTest t).objs = s.objs := rfl
@[simp] theorem State.setTest_free (s : State) (t : TestOp) : (s.setTest t).free = s.free := rfl
@[simp] theorem State.setTest_pending (s : State) (t : TestOp) : (s.setTest t).pending = s.pending := rfl
@[simp] theorem State.setTest_radio (s : State) (t : TestOp) : (s.setTest t).radio = { s.radio with test := t } := rfl
@[simp] theorem State.get_setTest (s : State) (t : TestOp) (f : RegField) : (s.setTest t).get f = s.get f := rfl
@[simp] theorem State.byte_setTest (s : State) (t : TestOp) (k : Nat) : (s.setTest t).byte k = s.byte k := rfl
@[simp] theorem State.setUnlock_partT (s : State) (u : Unlock) : (s.setUnlock u).partT = s.partT := rfl
@[simp] theorem State.setUnlock_tnet (s : State) (u : Unlock) : (s.setUnlock u).tnet = s.tnet := rfl
@[simp] theorem State.setUnlock_clock (s : State) (u : Unlock) : (s.setUnlock u).clock = s.clock := rfl
@[simp] theorem State.setUnlock_fields (s : State) (u : Unlock) : (s.setUnlock u).fields = s.fields := rfl
@[simp] theorem State.setUnlock_mem (s : State) (u : Unlock) : (s.setUnlock u).mem = s.mem := rfl
@[simp] theorem State.setUnlock_poison (s : State) (u : Unlock) : (s.setUnlock u).poison = s.poison := rfl
@[simp] theorem State.setUnlock_faults (s : State) (u : Unlock) : (s.setUnlock u).faults = s.faults := rfl
@[simp] theorem State.setUnlock_power (s : State) (u : Unlock) : (s.setUnlock u).power = s.power := rfl
@[simp] theorem State.setUnlock_radio (s : State) (u : Unlock) : (s.setUnlock u).radio = s.radio := rfl
@[simp] theorem State.setUnlock_slot (s : State) (u : Unlock) : (s.setUnlock u).slot = s.slot := rfl
@[simp] theorem State.setUnlock_mac (s : State) (u : Unlock) : (s.setUnlock u).mac = s.mac := rfl
@[simp] theorem State.setUnlock_sec (s : State) (u : Unlock) : (s.setUnlock u).sec = s.sec := rfl
@[simp] theorem State.setUnlock_gnss (s : State) (u : Unlock) : (s.setUnlock u).gnss = s.gnss := rfl
@[simp] theorem State.setUnlock_rtc (s : State) (u : Unlock) : (s.setUnlock u).rtc = s.rtc := rfl
@[simp] theorem State.setUnlock_evr (s : State) (u : Unlock) : (s.setUnlock u).evr = s.evr := rfl
@[simp] theorem State.setUnlock_memctl (s : State) (u : Unlock) : (s.setUnlock u).memctl = s.memctl := rfl
@[simp] theorem State.setUnlock_flash (s : State) (u : Unlock) : (s.setUnlock u).flash = s.flash := rfl
@[simp] theorem State.setUnlock_core0 (s : State) (u : Unlock) : (s.setUnlock u).core0 = s.core0 := rfl
@[simp] theorem State.setUnlock_core1 (s : State) (u : Unlock) : (s.setUnlock u).core1 = s.core1 := rfl
@[simp] theorem State.setUnlock_tag (s : State) (u : Unlock) : (s.setUnlock u).tag = s.tag := rfl
@[simp] theorem State.setUnlock_host (s : State) (u : Unlock) : (s.setUnlock u).host = s.host := rfl
@[simp] theorem State.setUnlock_boot (s : State) (u : Unlock) : (s.setUnlock u).boot = s.boot := rfl
@[simp] theorem State.setUnlock_pke (s : State) (u : Unlock) : (s.setUnlock u).pke = s.pke := rfl
@[simp] theorem State.setUnlock_pins (s : State) (u : Unlock) : (s.setUnlock u).pins = s.pins := rfl
@[simp] theorem State.setUnlock_objs (s : State) (u : Unlock) : (s.setUnlock u).objs = s.objs := rfl
@[simp] theorem State.setUnlock_free (s : State) (u : Unlock) : (s.setUnlock u).free = s.free := rfl
@[simp] theorem State.setUnlock_pending (s : State) (u : Unlock) : (s.setUnlock u).pending = s.pending := rfl
@[simp] theorem State.setUnlock_lgy (s : State) (u : Unlock) : (s.setUnlock u).lgy = { s.lgy with unlock := u } := rfl
@[simp] theorem State.get_setUnlock (s : State) (u : Unlock) (f : RegField) : (s.setUnlock u).get f = s.get f := rfl
@[simp] theorem State.byte_setUnlock (s : State) (u : Unlock) (k : Nat) : (s.setUnlock u).byte k = s.byte k := rfl
@[simp] theorem State.setLane_partT (s : State) (i : Nat) (l : Lane) : (s.setLane i l).partT = s.partT := rfl
@[simp] theorem State.setLane_tnet (s : State) (i : Nat) (l : Lane) : (s.setLane i l).tnet = s.tnet := rfl
@[simp] theorem State.setLane_clock (s : State) (i : Nat) (l : Lane) : (s.setLane i l).clock = s.clock := rfl
@[simp] theorem State.setLane_fields (s : State) (i : Nat) (l : Lane) : (s.setLane i l).fields = s.fields := rfl
@[simp] theorem State.setLane_mem (s : State) (i : Nat) (l : Lane) : (s.setLane i l).mem = s.mem := rfl
@[simp] theorem State.setLane_poison (s : State) (i : Nat) (l : Lane) : (s.setLane i l).poison = s.poison := rfl
@[simp] theorem State.setLane_faults (s : State) (i : Nat) (l : Lane) : (s.setLane i l).faults = s.faults := rfl
@[simp] theorem State.setLane_power (s : State) (i : Nat) (l : Lane) : (s.setLane i l).power = s.power := rfl
@[simp] theorem State.setLane_slot (s : State) (i : Nat) (l : Lane) : (s.setLane i l).slot = s.slot := rfl
@[simp] theorem State.setLane_mac (s : State) (i : Nat) (l : Lane) : (s.setLane i l).mac = s.mac := rfl
@[simp] theorem State.setLane_sec (s : State) (i : Nat) (l : Lane) : (s.setLane i l).sec = s.sec := rfl
@[simp] theorem State.setLane_gnss (s : State) (i : Nat) (l : Lane) : (s.setLane i l).gnss = s.gnss := rfl
@[simp] theorem State.setLane_rtc (s : State) (i : Nat) (l : Lane) : (s.setLane i l).rtc = s.rtc := rfl
@[simp] theorem State.setLane_evr (s : State) (i : Nat) (l : Lane) : (s.setLane i l).evr = s.evr := rfl
@[simp] theorem State.setLane_memctl (s : State) (i : Nat) (l : Lane) : (s.setLane i l).memctl = s.memctl := rfl
@[simp] theorem State.setLane_flash (s : State) (i : Nat) (l : Lane) : (s.setLane i l).flash = s.flash := rfl
@[simp] theorem State.setLane_core0 (s : State) (i : Nat) (l : Lane) : (s.setLane i l).core0 = s.core0 := rfl
@[simp] theorem State.setLane_core1 (s : State) (i : Nat) (l : Lane) : (s.setLane i l).core1 = s.core1 := rfl
@[simp] theorem State.setLane_lgy (s : State) (i : Nat) (l : Lane) : (s.setLane i l).lgy = s.lgy := rfl
@[simp] theorem State.setLane_tag (s : State) (i : Nat) (l : Lane) : (s.setLane i l).tag = s.tag := rfl
@[simp] theorem State.setLane_host (s : State) (i : Nat) (l : Lane) : (s.setLane i l).host = s.host := rfl
@[simp] theorem State.setLane_boot (s : State) (i : Nat) (l : Lane) : (s.setLane i l).boot = s.boot := rfl
@[simp] theorem State.setLane_pke (s : State) (i : Nat) (l : Lane) : (s.setLane i l).pke = s.pke := rfl
@[simp] theorem State.setLane_pins (s : State) (i : Nat) (l : Lane) : (s.setLane i l).pins = s.pins := rfl
@[simp] theorem State.setLane_objs (s : State) (i : Nat) (l : Lane) : (s.setLane i l).objs = s.objs := rfl
@[simp] theorem State.setLane_free (s : State) (i : Nat) (l : Lane) : (s.setLane i l).free = s.free := rfl
@[simp] theorem State.setLane_pending (s : State) (i : Nat) (l : Lane) : (s.setLane i l).pending = s.pending := rfl
@[simp] theorem State.get_setLane (s : State) (i : Nat) (l : Lane) (f : RegField) : (s.setLane i l).get f = s.get f := rfl
@[simp] theorem State.byte_setLane (s : State) (i : Nat) (l : Lane) (k : Nat) : (s.setLane i l).byte k = s.byte k := rfl

/-! What the shared operations leave. -/

@[simp] theorem State.setBytes_tnet (s : State) (a : Nat) (bs : List Byte) : (s.setBytes a bs).tnet = s.tnet :=
  (s.setBytes_moves a bs).1 .tnet rfl
@[simp] theorem State.setBytes_clock (s : State) (a : Nat) (bs : List Byte) : (s.setBytes a bs).clock = s.clock :=
  (s.setBytes_moves a bs).1 .clock rfl
@[simp] theorem State.setBytes_poison (s : State) (a : Nat) (bs : List Byte) : (s.setBytes a bs).poison = s.poison :=
  (s.setBytes_moves a bs).1 .poison rfl
@[simp] theorem State.setBytes_faults (s : State) (a : Nat) (bs : List Byte) : (s.setBytes a bs).faults = s.faults :=
  (s.setBytes_moves a bs).1 .faults rfl
@[simp] theorem State.setBytes_power (s : State) (a : Nat) (bs : List Byte) : (s.setBytes a bs).power = s.power :=
  (s.setBytes_moves a bs).1 .power rfl
@[simp] theorem State.setBytes_radio (s : State) (a : Nat) (bs : List Byte) : (s.setBytes a bs).radio = s.radio :=
  (s.setBytes_moves a bs).1 .radio rfl
@[simp] theorem State.setBytes_slot (s : State) (a : Nat) (bs : List Byte) : (s.setBytes a bs).slot = s.slot :=
  (s.setBytes_moves a bs).1 .slot rfl
@[simp] theorem State.setBytes_mac (s : State) (a : Nat) (bs : List Byte) : (s.setBytes a bs).mac = s.mac :=
  (s.setBytes_moves a bs).1 .mac rfl
@[simp] theorem State.setBytes_sec (s : State) (a : Nat) (bs : List Byte) : (s.setBytes a bs).sec = s.sec :=
  (s.setBytes_moves a bs).1 .sec rfl
@[simp] theorem State.setBytes_gnss (s : State) (a : Nat) (bs : List Byte) : (s.setBytes a bs).gnss = s.gnss :=
  (s.setBytes_moves a bs).1 .gnss rfl
@[simp] theorem State.setBytes_rtc (s : State) (a : Nat) (bs : List Byte) : (s.setBytes a bs).rtc = s.rtc :=
  (s.setBytes_moves a bs).1 .rtc rfl
@[simp] theorem State.setBytes_evr (s : State) (a : Nat) (bs : List Byte) : (s.setBytes a bs).evr = s.evr :=
  (s.setBytes_moves a bs).1 .evr rfl
@[simp] theorem State.setBytes_memctl (s : State) (a : Nat) (bs : List Byte) : (s.setBytes a bs).memctl = s.memctl :=
  (s.setBytes_moves a bs).1 .memctl rfl
@[simp] theorem State.setBytes_flash (s : State) (a : Nat) (bs : List Byte) : (s.setBytes a bs).flash = s.flash :=
  (s.setBytes_moves a bs).1 .flash rfl
@[simp] theorem State.setBytes_core0 (s : State) (a : Nat) (bs : List Byte) : (s.setBytes a bs).core0 = s.core0 :=
  (s.setBytes_moves a bs).1 .core0 rfl
@[simp] theorem State.setBytes_core1 (s : State) (a : Nat) (bs : List Byte) : (s.setBytes a bs).core1 = s.core1 :=
  (s.setBytes_moves a bs).1 .core1 rfl
@[simp] theorem State.setBytes_lgy (s : State) (a : Nat) (bs : List Byte) : (s.setBytes a bs).lgy = s.lgy :=
  (s.setBytes_moves a bs).1 .lgy rfl
@[simp] theorem State.setBytes_tag (s : State) (a : Nat) (bs : List Byte) : (s.setBytes a bs).tag = s.tag :=
  (s.setBytes_moves a bs).1 .tag rfl
@[simp] theorem State.setBytes_host (s : State) (a : Nat) (bs : List Byte) : (s.setBytes a bs).host = s.host :=
  (s.setBytes_moves a bs).1 .host rfl
@[simp] theorem State.setBytes_boot (s : State) (a : Nat) (bs : List Byte) : (s.setBytes a bs).boot = s.boot :=
  (s.setBytes_moves a bs).1 .boot rfl
@[simp] theorem State.setBytes_pke (s : State) (a : Nat) (bs : List Byte) : (s.setBytes a bs).pke = s.pke :=
  (s.setBytes_moves a bs).1 .pke rfl
@[simp] theorem State.setBytes_pins (s : State) (a : Nat) (bs : List Byte) : (s.setBytes a bs).pins = s.pins :=
  (s.setBytes_moves a bs).1 .pins rfl
@[simp] theorem State.setBytes_objs (s : State) (a : Nat) (bs : List Byte) : (s.setBytes a bs).objs = s.objs :=
  (s.setBytes_moves a bs).1 .objs rfl
@[simp] theorem State.setBytes_free (s : State) (a : Nat) (bs : List Byte) : (s.setBytes a bs).free = s.free :=
  (s.setBytes_moves a bs).1 .free rfl
@[simp] theorem State.setBytes_pending (s : State) (a : Nat) (bs : List Byte) : (s.setBytes a bs).pending = s.pending :=
  (s.setBytes_moves a bs).1 .pending rfl
@[simp] theorem State.setBytes_partT (s : State) (a : Nat) (bs : List Byte) : (s.setBytes a bs).partT = s.partT :=
  (s.setBytes_moves a bs).1 .partT rfl
@[simp] theorem State.setNum_tnet (s : State) (a n v : Nat) : (s.setNum a n v).tnet = s.tnet :=
  (s.setNum_moves a n v).1 .tnet rfl
@[simp] theorem State.setNum_clock (s : State) (a n v : Nat) : (s.setNum a n v).clock = s.clock :=
  (s.setNum_moves a n v).1 .clock rfl
@[simp] theorem State.setNum_poison (s : State) (a n v : Nat) : (s.setNum a n v).poison = s.poison :=
  (s.setNum_moves a n v).1 .poison rfl
@[simp] theorem State.setNum_faults (s : State) (a n v : Nat) : (s.setNum a n v).faults = s.faults :=
  (s.setNum_moves a n v).1 .faults rfl
@[simp] theorem State.setNum_power (s : State) (a n v : Nat) : (s.setNum a n v).power = s.power :=
  (s.setNum_moves a n v).1 .power rfl
@[simp] theorem State.setNum_radio (s : State) (a n v : Nat) : (s.setNum a n v).radio = s.radio :=
  (s.setNum_moves a n v).1 .radio rfl
@[simp] theorem State.setNum_slot (s : State) (a n v : Nat) : (s.setNum a n v).slot = s.slot :=
  (s.setNum_moves a n v).1 .slot rfl
@[simp] theorem State.setNum_mac (s : State) (a n v : Nat) : (s.setNum a n v).mac = s.mac :=
  (s.setNum_moves a n v).1 .mac rfl
@[simp] theorem State.setNum_sec (s : State) (a n v : Nat) : (s.setNum a n v).sec = s.sec :=
  (s.setNum_moves a n v).1 .sec rfl
@[simp] theorem State.setNum_gnss (s : State) (a n v : Nat) : (s.setNum a n v).gnss = s.gnss :=
  (s.setNum_moves a n v).1 .gnss rfl
@[simp] theorem State.setNum_rtc (s : State) (a n v : Nat) : (s.setNum a n v).rtc = s.rtc :=
  (s.setNum_moves a n v).1 .rtc rfl
@[simp] theorem State.setNum_evr (s : State) (a n v : Nat) : (s.setNum a n v).evr = s.evr :=
  (s.setNum_moves a n v).1 .evr rfl
@[simp] theorem State.setNum_memctl (s : State) (a n v : Nat) : (s.setNum a n v).memctl = s.memctl :=
  (s.setNum_moves a n v).1 .memctl rfl
@[simp] theorem State.setNum_flash (s : State) (a n v : Nat) : (s.setNum a n v).flash = s.flash :=
  (s.setNum_moves a n v).1 .flash rfl
@[simp] theorem State.setNum_core0 (s : State) (a n v : Nat) : (s.setNum a n v).core0 = s.core0 :=
  (s.setNum_moves a n v).1 .core0 rfl
@[simp] theorem State.setNum_core1 (s : State) (a n v : Nat) : (s.setNum a n v).core1 = s.core1 :=
  (s.setNum_moves a n v).1 .core1 rfl
@[simp] theorem State.setNum_lgy (s : State) (a n v : Nat) : (s.setNum a n v).lgy = s.lgy :=
  (s.setNum_moves a n v).1 .lgy rfl
@[simp] theorem State.setNum_tag (s : State) (a n v : Nat) : (s.setNum a n v).tag = s.tag :=
  (s.setNum_moves a n v).1 .tag rfl
@[simp] theorem State.setNum_host (s : State) (a n v : Nat) : (s.setNum a n v).host = s.host :=
  (s.setNum_moves a n v).1 .host rfl
@[simp] theorem State.setNum_boot (s : State) (a n v : Nat) : (s.setNum a n v).boot = s.boot :=
  (s.setNum_moves a n v).1 .boot rfl
@[simp] theorem State.setNum_pke (s : State) (a n v : Nat) : (s.setNum a n v).pke = s.pke :=
  (s.setNum_moves a n v).1 .pke rfl
@[simp] theorem State.setNum_pins (s : State) (a n v : Nat) : (s.setNum a n v).pins = s.pins :=
  (s.setNum_moves a n v).1 .pins rfl
@[simp] theorem State.setNum_objs (s : State) (a n v : Nat) : (s.setNum a n v).objs = s.objs :=
  (s.setNum_moves a n v).1 .objs rfl
@[simp] theorem State.setNum_free (s : State) (a n v : Nat) : (s.setNum a n v).free = s.free :=
  (s.setNum_moves a n v).1 .free rfl
@[simp] theorem State.setNum_pending (s : State) (a n v : Nat) : (s.setNum a n v).pending = s.pending :=
  (s.setNum_moves a n v).1 .pending rfl
@[simp] theorem State.setNum_partT (s : State) (a n v : Nat) : (s.setNum a n v).partT = s.partT :=
  (s.setNum_moves a n v).1 .partT rfl
@[simp] theorem State.devWrite_tnet (s : State) (a : Nat) (bs : List Byte) : (s.devWrite a bs).tnet = s.tnet :=
  (s.devWrite_moves a bs).1 .tnet rfl
@[simp] theorem State.devWrite_clock (s : State) (a : Nat) (bs : List Byte) : (s.devWrite a bs).clock = s.clock :=
  (s.devWrite_moves a bs).1 .clock rfl
@[simp] theorem State.devWrite_faults (s : State) (a : Nat) (bs : List Byte) : (s.devWrite a bs).faults = s.faults :=
  (s.devWrite_moves a bs).1 .faults rfl
@[simp] theorem State.devWrite_power (s : State) (a : Nat) (bs : List Byte) : (s.devWrite a bs).power = s.power :=
  (s.devWrite_moves a bs).1 .power rfl
@[simp] theorem State.devWrite_radio (s : State) (a : Nat) (bs : List Byte) : (s.devWrite a bs).radio = s.radio :=
  (s.devWrite_moves a bs).1 .radio rfl
@[simp] theorem State.devWrite_slot (s : State) (a : Nat) (bs : List Byte) : (s.devWrite a bs).slot = s.slot :=
  (s.devWrite_moves a bs).1 .slot rfl
@[simp] theorem State.devWrite_mac (s : State) (a : Nat) (bs : List Byte) : (s.devWrite a bs).mac = s.mac :=
  (s.devWrite_moves a bs).1 .mac rfl
@[simp] theorem State.devWrite_sec (s : State) (a : Nat) (bs : List Byte) : (s.devWrite a bs).sec = s.sec :=
  (s.devWrite_moves a bs).1 .sec rfl
@[simp] theorem State.devWrite_gnss (s : State) (a : Nat) (bs : List Byte) : (s.devWrite a bs).gnss = s.gnss :=
  (s.devWrite_moves a bs).1 .gnss rfl
@[simp] theorem State.devWrite_rtc (s : State) (a : Nat) (bs : List Byte) : (s.devWrite a bs).rtc = s.rtc :=
  (s.devWrite_moves a bs).1 .rtc rfl
@[simp] theorem State.devWrite_evr (s : State) (a : Nat) (bs : List Byte) : (s.devWrite a bs).evr = s.evr :=
  (s.devWrite_moves a bs).1 .evr rfl
@[simp] theorem State.devWrite_memctl (s : State) (a : Nat) (bs : List Byte) : (s.devWrite a bs).memctl = s.memctl :=
  (s.devWrite_moves a bs).1 .memctl rfl
@[simp] theorem State.devWrite_flash (s : State) (a : Nat) (bs : List Byte) : (s.devWrite a bs).flash = s.flash :=
  (s.devWrite_moves a bs).1 .flash rfl
@[simp] theorem State.devWrite_core0 (s : State) (a : Nat) (bs : List Byte) : (s.devWrite a bs).core0 = s.core0 :=
  (s.devWrite_moves a bs).1 .core0 rfl
@[simp] theorem State.devWrite_core1 (s : State) (a : Nat) (bs : List Byte) : (s.devWrite a bs).core1 = s.core1 :=
  (s.devWrite_moves a bs).1 .core1 rfl
@[simp] theorem State.devWrite_lgy (s : State) (a : Nat) (bs : List Byte) : (s.devWrite a bs).lgy = s.lgy :=
  (s.devWrite_moves a bs).1 .lgy rfl
@[simp] theorem State.devWrite_tag (s : State) (a : Nat) (bs : List Byte) : (s.devWrite a bs).tag = s.tag :=
  (s.devWrite_moves a bs).1 .tag rfl
@[simp] theorem State.devWrite_host (s : State) (a : Nat) (bs : List Byte) : (s.devWrite a bs).host = s.host :=
  (s.devWrite_moves a bs).1 .host rfl
@[simp] theorem State.devWrite_boot (s : State) (a : Nat) (bs : List Byte) : (s.devWrite a bs).boot = s.boot :=
  (s.devWrite_moves a bs).1 .boot rfl
@[simp] theorem State.devWrite_pke (s : State) (a : Nat) (bs : List Byte) : (s.devWrite a bs).pke = s.pke :=
  (s.devWrite_moves a bs).1 .pke rfl
@[simp] theorem State.devWrite_pins (s : State) (a : Nat) (bs : List Byte) : (s.devWrite a bs).pins = s.pins :=
  (s.devWrite_moves a bs).1 .pins rfl
@[simp] theorem State.devWrite_objs (s : State) (a : Nat) (bs : List Byte) : (s.devWrite a bs).objs = s.objs :=
  (s.devWrite_moves a bs).1 .objs rfl
@[simp] theorem State.devWrite_free (s : State) (a : Nat) (bs : List Byte) : (s.devWrite a bs).free = s.free :=
  (s.devWrite_moves a bs).1 .free rfl
@[simp] theorem State.devWrite_pending (s : State) (a : Nat) (bs : List Byte) : (s.devWrite a bs).pending = s.pending :=
  (s.devWrite_moves a bs).1 .pending rfl
@[simp] theorem State.devWrite_partT (s : State) (a : Nat) (bs : List Byte) : (s.devWrite a bs).partT = s.partT :=
  (s.devWrite_moves a bs).1 .partT rfl
@[simp] theorem State.requestReset_tnet (s : State) (code : Nat) : (s.requestReset code).tnet = s.tnet :=
  (s.requestReset_moves code).1 .tnet rfl
@[simp] theorem State.requestReset_clock (s : State) (code : Nat) : (s.requestReset code).clock = s.clock :=
  (s.requestReset_moves code).1 .clock rfl
@[simp] theorem State.requestReset_poison (s : State) (code : Nat) : (s.requestReset code).poison = s.poison :=
  (s.requestReset_moves code).1 .poison rfl
@[simp] theorem State.requestReset_faults (s : State) (code : Nat) : (s.requestReset code).faults = s.faults :=
  (s.requestReset_moves code).1 .faults rfl
@[simp] theorem State.requestReset_radio (s : State) (code : Nat) : (s.requestReset code).radio = s.radio :=
  (s.requestReset_moves code).1 .radio rfl
@[simp] theorem State.requestReset_slot (s : State) (code : Nat) : (s.requestReset code).slot = s.slot :=
  (s.requestReset_moves code).1 .slot rfl
@[simp] theorem State.requestReset_mac (s : State) (code : Nat) : (s.requestReset code).mac = s.mac :=
  (s.requestReset_moves code).1 .mac rfl
@[simp] theorem State.requestReset_sec (s : State) (code : Nat) : (s.requestReset code).sec = s.sec :=
  (s.requestReset_moves code).1 .sec rfl
@[simp] theorem State.requestReset_gnss (s : State) (code : Nat) : (s.requestReset code).gnss = s.gnss :=
  (s.requestReset_moves code).1 .gnss rfl
@[simp] theorem State.requestReset_rtc (s : State) (code : Nat) : (s.requestReset code).rtc = s.rtc :=
  (s.requestReset_moves code).1 .rtc rfl
@[simp] theorem State.requestReset_evr (s : State) (code : Nat) : (s.requestReset code).evr = s.evr :=
  (s.requestReset_moves code).1 .evr rfl
@[simp] theorem State.requestReset_memctl (s : State) (code : Nat) : (s.requestReset code).memctl = s.memctl :=
  (s.requestReset_moves code).1 .memctl rfl
@[simp] theorem State.requestReset_flash (s : State) (code : Nat) : (s.requestReset code).flash = s.flash :=
  (s.requestReset_moves code).1 .flash rfl
@[simp] theorem State.requestReset_core0 (s : State) (code : Nat) : (s.requestReset code).core0 = s.core0 :=
  (s.requestReset_moves code).1 .core0 rfl
@[simp] theorem State.requestReset_core1 (s : State) (code : Nat) : (s.requestReset code).core1 = s.core1 :=
  (s.requestReset_moves code).1 .core1 rfl
@[simp] theorem State.requestReset_lgy (s : State) (code : Nat) : (s.requestReset code).lgy = s.lgy :=
  (s.requestReset_moves code).1 .lgy rfl
@[simp] theorem State.requestReset_tag (s : State) (code : Nat) : (s.requestReset code).tag = s.tag :=
  (s.requestReset_moves code).1 .tag rfl
@[simp] theorem State.requestReset_host (s : State) (code : Nat) : (s.requestReset code).host = s.host :=
  (s.requestReset_moves code).1 .host rfl
@[simp] theorem State.requestReset_boot (s : State) (code : Nat) : (s.requestReset code).boot = s.boot :=
  (s.requestReset_moves code).1 .boot rfl
@[simp] theorem State.requestReset_pke (s : State) (code : Nat) : (s.requestReset code).pke = s.pke :=
  (s.requestReset_moves code).1 .pke rfl
@[simp] theorem State.requestReset_pins (s : State) (code : Nat) : (s.requestReset code).pins = s.pins :=
  (s.requestReset_moves code).1 .pins rfl
@[simp] theorem State.requestReset_objs (s : State) (code : Nat) : (s.requestReset code).objs = s.objs :=
  (s.requestReset_moves code).1 .objs rfl
@[simp] theorem State.requestReset_free (s : State) (code : Nat) : (s.requestReset code).free = s.free :=
  (s.requestReset_moves code).1 .free rfl
@[simp] theorem State.requestReset_pending (s : State) (code : Nat) : (s.requestReset code).pending = s.pending :=
  (s.requestReset_moves code).1 .pending rfl
@[simp] theorem State.requestReset_partT (s : State) (code : Nat) : (s.requestReset code).partT = s.partT :=
  (s.requestReset_moves code).1 .partT rfl
@[simp] theorem State.byte_requestReset (s : State) (code : Nat) (k : Nat) : (s.requestReset code).byte k = s.byte k :=
  (s.requestReset_moves code).1 .mem rfl k
@[simp] theorem State.wakeRequest_tnet (s : State) (n : Nat) : (s.wakeRequest n).tnet = s.tnet :=
  (s.wakeRequest_moves n).1 .tnet rfl
@[simp] theorem State.wakeRequest_clock (s : State) (n : Nat) : (s.wakeRequest n).clock = s.clock :=
  (s.wakeRequest_moves n).1 .clock rfl
@[simp] theorem State.wakeRequest_poison (s : State) (n : Nat) : (s.wakeRequest n).poison = s.poison :=
  (s.wakeRequest_moves n).1 .poison rfl
@[simp] theorem State.wakeRequest_faults (s : State) (n : Nat) : (s.wakeRequest n).faults = s.faults :=
  (s.wakeRequest_moves n).1 .faults rfl
@[simp] theorem State.wakeRequest_radio (s : State) (n : Nat) : (s.wakeRequest n).radio = s.radio :=
  (s.wakeRequest_moves n).1 .radio rfl
@[simp] theorem State.wakeRequest_slot (s : State) (n : Nat) : (s.wakeRequest n).slot = s.slot :=
  (s.wakeRequest_moves n).1 .slot rfl
@[simp] theorem State.wakeRequest_mac (s : State) (n : Nat) : (s.wakeRequest n).mac = s.mac :=
  (s.wakeRequest_moves n).1 .mac rfl
@[simp] theorem State.wakeRequest_sec (s : State) (n : Nat) : (s.wakeRequest n).sec = s.sec :=
  (s.wakeRequest_moves n).1 .sec rfl
@[simp] theorem State.wakeRequest_gnss (s : State) (n : Nat) : (s.wakeRequest n).gnss = s.gnss :=
  (s.wakeRequest_moves n).1 .gnss rfl
@[simp] theorem State.wakeRequest_rtc (s : State) (n : Nat) : (s.wakeRequest n).rtc = s.rtc :=
  (s.wakeRequest_moves n).1 .rtc rfl
@[simp] theorem State.wakeRequest_evr (s : State) (n : Nat) : (s.wakeRequest n).evr = s.evr :=
  (s.wakeRequest_moves n).1 .evr rfl
@[simp] theorem State.wakeRequest_memctl (s : State) (n : Nat) : (s.wakeRequest n).memctl = s.memctl :=
  (s.wakeRequest_moves n).1 .memctl rfl
@[simp] theorem State.wakeRequest_flash (s : State) (n : Nat) : (s.wakeRequest n).flash = s.flash :=
  (s.wakeRequest_moves n).1 .flash rfl
@[simp] theorem State.wakeRequest_core0 (s : State) (n : Nat) : (s.wakeRequest n).core0 = s.core0 :=
  (s.wakeRequest_moves n).1 .core0 rfl
@[simp] theorem State.wakeRequest_core1 (s : State) (n : Nat) : (s.wakeRequest n).core1 = s.core1 :=
  (s.wakeRequest_moves n).1 .core1 rfl
@[simp] theorem State.wakeRequest_lgy (s : State) (n : Nat) : (s.wakeRequest n).lgy = s.lgy :=
  (s.wakeRequest_moves n).1 .lgy rfl
@[simp] theorem State.wakeRequest_tag (s : State) (n : Nat) : (s.wakeRequest n).tag = s.tag :=
  (s.wakeRequest_moves n).1 .tag rfl
@[simp] theorem State.wakeRequest_host (s : State) (n : Nat) : (s.wakeRequest n).host = s.host :=
  (s.wakeRequest_moves n).1 .host rfl
@[simp] theorem State.wakeRequest_boot (s : State) (n : Nat) : (s.wakeRequest n).boot = s.boot :=
  (s.wakeRequest_moves n).1 .boot rfl
@[simp] theorem State.wakeRequest_pke (s : State) (n : Nat) : (s.wakeRequest n).pke = s.pke :=
  (s.wakeRequest_moves n).1 .pke rfl
@[simp] theorem State.wakeRequest_pins (s : State) (n : Nat) : (s.wakeRequest n).pins = s.pins :=
  (s.wakeRequest_moves n).1 .pins rfl
@[simp] theorem State.wakeRequest_objs (s : State) (n : Nat) : (s.wakeRequest n).objs = s.objs :=
  (s.wakeRequest_moves n).1 .objs rfl
@[simp] theorem State.wakeRequest_free (s : State) (n : Nat) : (s.wakeRequest n).free = s.free :=
  (s.wakeRequest_moves n).1 .free rfl
@[simp] theorem State.wakeRequest_pending (s : State) (n : Nat) : (s.wakeRequest n).pending = s.pending :=
  (s.wakeRequest_moves n).1 .pending rfl
@[simp] theorem State.wakeRequest_partT (s : State) (n : Nat) : (s.wakeRequest n).partT = s.partT :=
  (s.wakeRequest_moves n).1 .partT rfl
@[simp] theorem State.byte_wakeRequest (s : State) (n : Nat) (k : Nat) : (s.wakeRequest n).byte k = s.byte k :=
  (s.wakeRequest_moves n).1 .mem rfl k
@[simp] theorem State.pulse_tnet (s : State) (c at_ : Nat) : (s.pulse c at_).tnet = s.tnet :=
  (s.pulse_moves c at_).1 .tnet rfl
@[simp] theorem State.pulse_clock (s : State) (c at_ : Nat) : (s.pulse c at_).clock = s.clock :=
  (s.pulse_moves c at_).1 .clock rfl
@[simp] theorem State.pulse_poison (s : State) (c at_ : Nat) : (s.pulse c at_).poison = s.poison :=
  (s.pulse_moves c at_).1 .poison rfl
@[simp] theorem State.pulse_faults (s : State) (c at_ : Nat) : (s.pulse c at_).faults = s.faults :=
  (s.pulse_moves c at_).1 .faults rfl
@[simp] theorem State.pulse_power (s : State) (c at_ : Nat) : (s.pulse c at_).power = s.power :=
  (s.pulse_moves c at_).1 .power rfl
@[simp] theorem State.pulse_radio (s : State) (c at_ : Nat) : (s.pulse c at_).radio = s.radio :=
  (s.pulse_moves c at_).1 .radio rfl
@[simp] theorem State.pulse_slot (s : State) (c at_ : Nat) : (s.pulse c at_).slot = s.slot :=
  (s.pulse_moves c at_).1 .slot rfl
@[simp] theorem State.pulse_mac (s : State) (c at_ : Nat) : (s.pulse c at_).mac = s.mac :=
  (s.pulse_moves c at_).1 .mac rfl
@[simp] theorem State.pulse_sec (s : State) (c at_ : Nat) : (s.pulse c at_).sec = s.sec :=
  (s.pulse_moves c at_).1 .sec rfl
@[simp] theorem State.pulse_gnss (s : State) (c at_ : Nat) : (s.pulse c at_).gnss = s.gnss :=
  (s.pulse_moves c at_).1 .gnss rfl
@[simp] theorem State.pulse_rtc (s : State) (c at_ : Nat) : (s.pulse c at_).rtc = s.rtc :=
  (s.pulse_moves c at_).1 .rtc rfl
@[simp] theorem State.pulse_memctl (s : State) (c at_ : Nat) : (s.pulse c at_).memctl = s.memctl :=
  (s.pulse_moves c at_).1 .memctl rfl
@[simp] theorem State.pulse_flash (s : State) (c at_ : Nat) : (s.pulse c at_).flash = s.flash :=
  (s.pulse_moves c at_).1 .flash rfl
@[simp] theorem State.pulse_core0 (s : State) (c at_ : Nat) : (s.pulse c at_).core0 = s.core0 :=
  (s.pulse_moves c at_).1 .core0 rfl
@[simp] theorem State.pulse_core1 (s : State) (c at_ : Nat) : (s.pulse c at_).core1 = s.core1 :=
  (s.pulse_moves c at_).1 .core1 rfl
@[simp] theorem State.pulse_lgy (s : State) (c at_ : Nat) : (s.pulse c at_).lgy = s.lgy :=
  (s.pulse_moves c at_).1 .lgy rfl
@[simp] theorem State.pulse_tag (s : State) (c at_ : Nat) : (s.pulse c at_).tag = s.tag :=
  (s.pulse_moves c at_).1 .tag rfl
@[simp] theorem State.pulse_host (s : State) (c at_ : Nat) : (s.pulse c at_).host = s.host :=
  (s.pulse_moves c at_).1 .host rfl
@[simp] theorem State.pulse_boot (s : State) (c at_ : Nat) : (s.pulse c at_).boot = s.boot :=
  (s.pulse_moves c at_).1 .boot rfl
@[simp] theorem State.pulse_pke (s : State) (c at_ : Nat) : (s.pulse c at_).pke = s.pke :=
  (s.pulse_moves c at_).1 .pke rfl
@[simp] theorem State.pulse_pins (s : State) (c at_ : Nat) : (s.pulse c at_).pins = s.pins :=
  (s.pulse_moves c at_).1 .pins rfl
@[simp] theorem State.pulse_objs (s : State) (c at_ : Nat) : (s.pulse c at_).objs = s.objs :=
  (s.pulse_moves c at_).1 .objs rfl
@[simp] theorem State.pulse_free (s : State) (c at_ : Nat) : (s.pulse c at_).free = s.free :=
  (s.pulse_moves c at_).1 .free rfl
@[simp] theorem State.pulse_pending (s : State) (c at_ : Nat) : (s.pulse c at_).pending = s.pending :=
  (s.pulse_moves c at_).1 .pending rfl
@[simp] theorem State.pulse_partT (s : State) (c at_ : Nat) : (s.pulse c at_).partT = s.partT :=
  (s.pulse_moves c at_).1 .partT rfl
@[simp] theorem State.byte_pulse (s : State) (c at_ : Nat) (k : Nat) : (s.pulse c at_).byte k = s.byte k :=
  (s.pulse_moves c at_).1 .mem rfl k
@[simp] theorem State.raise_tnet (s : State) (n : Nat) : (s.raise n).tnet = s.tnet :=
  (s.raise_moves n).1 .tnet rfl
@[simp] theorem State.raise_clock (s : State) (n : Nat) : (s.raise n).clock = s.clock :=
  (s.raise_moves n).1 .clock rfl
@[simp] theorem State.raise_poison (s : State) (n : Nat) : (s.raise n).poison = s.poison :=
  (s.raise_moves n).1 .poison rfl
@[simp] theorem State.raise_faults (s : State) (n : Nat) : (s.raise n).faults = s.faults :=
  (s.raise_moves n).1 .faults rfl
@[simp] theorem State.raise_radio (s : State) (n : Nat) : (s.raise n).radio = s.radio :=
  (s.raise_moves n).1 .radio rfl
@[simp] theorem State.raise_slot (s : State) (n : Nat) : (s.raise n).slot = s.slot :=
  (s.raise_moves n).1 .slot rfl
@[simp] theorem State.raise_mac (s : State) (n : Nat) : (s.raise n).mac = s.mac :=
  (s.raise_moves n).1 .mac rfl
@[simp] theorem State.raise_sec (s : State) (n : Nat) : (s.raise n).sec = s.sec :=
  (s.raise_moves n).1 .sec rfl
@[simp] theorem State.raise_gnss (s : State) (n : Nat) : (s.raise n).gnss = s.gnss :=
  (s.raise_moves n).1 .gnss rfl
@[simp] theorem State.raise_rtc (s : State) (n : Nat) : (s.raise n).rtc = s.rtc :=
  (s.raise_moves n).1 .rtc rfl
@[simp] theorem State.raise_memctl (s : State) (n : Nat) : (s.raise n).memctl = s.memctl :=
  (s.raise_moves n).1 .memctl rfl
@[simp] theorem State.raise_flash (s : State) (n : Nat) : (s.raise n).flash = s.flash :=
  (s.raise_moves n).1 .flash rfl
@[simp] theorem State.raise_lgy (s : State) (n : Nat) : (s.raise n).lgy = s.lgy :=
  (s.raise_moves n).1 .lgy rfl
@[simp] theorem State.raise_tag (s : State) (n : Nat) : (s.raise n).tag = s.tag :=
  (s.raise_moves n).1 .tag rfl
@[simp] theorem State.raise_host (s : State) (n : Nat) : (s.raise n).host = s.host :=
  (s.raise_moves n).1 .host rfl
@[simp] theorem State.raise_boot (s : State) (n : Nat) : (s.raise n).boot = s.boot :=
  (s.raise_moves n).1 .boot rfl
@[simp] theorem State.raise_pke (s : State) (n : Nat) : (s.raise n).pke = s.pke :=
  (s.raise_moves n).1 .pke rfl
@[simp] theorem State.raise_pins (s : State) (n : Nat) : (s.raise n).pins = s.pins :=
  (s.raise_moves n).1 .pins rfl
@[simp] theorem State.raise_objs (s : State) (n : Nat) : (s.raise n).objs = s.objs :=
  (s.raise_moves n).1 .objs rfl
@[simp] theorem State.raise_free (s : State) (n : Nat) : (s.raise n).free = s.free :=
  (s.raise_moves n).1 .free rfl
@[simp] theorem State.raise_pending (s : State) (n : Nat) : (s.raise n).pending = s.pending :=
  (s.raise_moves n).1 .pending rfl
@[simp] theorem State.raise_partT (s : State) (n : Nat) : (s.raise n).partT = s.partT :=
  (s.raise_moves n).1 .partT rfl
@[simp] theorem State.byte_raise (s : State) (n : Nat) (k : Nat) : (s.raise n).byte k = s.byte k :=
  (s.raise_moves n).1 .mem rfl k
@[simp] theorem State.raiseIf_tnet (s : State) (b : Bool) (n : Nat) : (s.raiseIf b n).tnet = s.tnet :=
  (s.raiseIf_moves b n).1 .tnet rfl
@[simp] theorem State.raiseIf_clock (s : State) (b : Bool) (n : Nat) : (s.raiseIf b n).clock = s.clock :=
  (s.raiseIf_moves b n).1 .clock rfl
@[simp] theorem State.raiseIf_poison (s : State) (b : Bool) (n : Nat) : (s.raiseIf b n).poison = s.poison :=
  (s.raiseIf_moves b n).1 .poison rfl
@[simp] theorem State.raiseIf_faults (s : State) (b : Bool) (n : Nat) : (s.raiseIf b n).faults = s.faults :=
  (s.raiseIf_moves b n).1 .faults rfl
@[simp] theorem State.raiseIf_radio (s : State) (b : Bool) (n : Nat) : (s.raiseIf b n).radio = s.radio :=
  (s.raiseIf_moves b n).1 .radio rfl
@[simp] theorem State.raiseIf_slot (s : State) (b : Bool) (n : Nat) : (s.raiseIf b n).slot = s.slot :=
  (s.raiseIf_moves b n).1 .slot rfl
@[simp] theorem State.raiseIf_mac (s : State) (b : Bool) (n : Nat) : (s.raiseIf b n).mac = s.mac :=
  (s.raiseIf_moves b n).1 .mac rfl
@[simp] theorem State.raiseIf_sec (s : State) (b : Bool) (n : Nat) : (s.raiseIf b n).sec = s.sec :=
  (s.raiseIf_moves b n).1 .sec rfl
@[simp] theorem State.raiseIf_gnss (s : State) (b : Bool) (n : Nat) : (s.raiseIf b n).gnss = s.gnss :=
  (s.raiseIf_moves b n).1 .gnss rfl
@[simp] theorem State.raiseIf_rtc (s : State) (b : Bool) (n : Nat) : (s.raiseIf b n).rtc = s.rtc :=
  (s.raiseIf_moves b n).1 .rtc rfl
@[simp] theorem State.raiseIf_memctl (s : State) (b : Bool) (n : Nat) : (s.raiseIf b n).memctl = s.memctl :=
  (s.raiseIf_moves b n).1 .memctl rfl
@[simp] theorem State.raiseIf_flash (s : State) (b : Bool) (n : Nat) : (s.raiseIf b n).flash = s.flash :=
  (s.raiseIf_moves b n).1 .flash rfl
@[simp] theorem State.raiseIf_lgy (s : State) (b : Bool) (n : Nat) : (s.raiseIf b n).lgy = s.lgy :=
  (s.raiseIf_moves b n).1 .lgy rfl
@[simp] theorem State.raiseIf_tag (s : State) (b : Bool) (n : Nat) : (s.raiseIf b n).tag = s.tag :=
  (s.raiseIf_moves b n).1 .tag rfl
@[simp] theorem State.raiseIf_host (s : State) (b : Bool) (n : Nat) : (s.raiseIf b n).host = s.host :=
  (s.raiseIf_moves b n).1 .host rfl
@[simp] theorem State.raiseIf_boot (s : State) (b : Bool) (n : Nat) : (s.raiseIf b n).boot = s.boot :=
  (s.raiseIf_moves b n).1 .boot rfl
@[simp] theorem State.raiseIf_pke (s : State) (b : Bool) (n : Nat) : (s.raiseIf b n).pke = s.pke :=
  (s.raiseIf_moves b n).1 .pke rfl
@[simp] theorem State.raiseIf_pins (s : State) (b : Bool) (n : Nat) : (s.raiseIf b n).pins = s.pins :=
  (s.raiseIf_moves b n).1 .pins rfl
@[simp] theorem State.raiseIf_objs (s : State) (b : Bool) (n : Nat) : (s.raiseIf b n).objs = s.objs :=
  (s.raiseIf_moves b n).1 .objs rfl
@[simp] theorem State.raiseIf_free (s : State) (b : Bool) (n : Nat) : (s.raiseIf b n).free = s.free :=
  (s.raiseIf_moves b n).1 .free rfl
@[simp] theorem State.raiseIf_pending (s : State) (b : Bool) (n : Nat) : (s.raiseIf b n).pending = s.pending :=
  (s.raiseIf_moves b n).1 .pending rfl
@[simp] theorem State.raiseIf_partT (s : State) (b : Bool) (n : Nat) : (s.raiseIf b n).partT = s.partT :=
  (s.raiseIf_moves b n).1 .partT rfl
@[simp] theorem State.byte_raiseIf (s : State) (b : Bool) (n : Nat) (k : Nat) : (s.raiseIf b n).byte k = s.byte k :=
  (s.raiseIf_moves b n).1 .mem rfl k
@[simp] theorem State.report_tnet (s : State) (cls src addr detail : Nat) (scrub : Bool) : (s.report cls src addr detail scrub).tnet = s.tnet :=
  (s.report_moves cls src addr detail scrub).1 .tnet rfl
@[simp] theorem State.report_clock (s : State) (cls src addr detail : Nat) (scrub : Bool) : (s.report cls src addr detail scrub).clock = s.clock :=
  (s.report_moves cls src addr detail scrub).1 .clock rfl
@[simp] theorem State.report_poison (s : State) (cls src addr detail : Nat) (scrub : Bool) : (s.report cls src addr detail scrub).poison = s.poison :=
  (s.report_moves cls src addr detail scrub).1 .poison rfl
@[simp] theorem State.report_radio (s : State) (cls src addr detail : Nat) (scrub : Bool) : (s.report cls src addr detail scrub).radio = s.radio :=
  (s.report_moves cls src addr detail scrub).1 .radio rfl
@[simp] theorem State.report_slot (s : State) (cls src addr detail : Nat) (scrub : Bool) : (s.report cls src addr detail scrub).slot = s.slot :=
  (s.report_moves cls src addr detail scrub).1 .slot rfl
@[simp] theorem State.report_mac (s : State) (cls src addr detail : Nat) (scrub : Bool) : (s.report cls src addr detail scrub).mac = s.mac :=
  (s.report_moves cls src addr detail scrub).1 .mac rfl
@[simp] theorem State.report_sec (s : State) (cls src addr detail : Nat) (scrub : Bool) : (s.report cls src addr detail scrub).sec = s.sec :=
  (s.report_moves cls src addr detail scrub).1 .sec rfl
@[simp] theorem State.report_gnss (s : State) (cls src addr detail : Nat) (scrub : Bool) : (s.report cls src addr detail scrub).gnss = s.gnss :=
  (s.report_moves cls src addr detail scrub).1 .gnss rfl
@[simp] theorem State.report_rtc (s : State) (cls src addr detail : Nat) (scrub : Bool) : (s.report cls src addr detail scrub).rtc = s.rtc :=
  (s.report_moves cls src addr detail scrub).1 .rtc rfl
@[simp] theorem State.report_memctl (s : State) (cls src addr detail : Nat) (scrub : Bool) : (s.report cls src addr detail scrub).memctl = s.memctl :=
  (s.report_moves cls src addr detail scrub).1 .memctl rfl
@[simp] theorem State.report_flash (s : State) (cls src addr detail : Nat) (scrub : Bool) : (s.report cls src addr detail scrub).flash = s.flash :=
  (s.report_moves cls src addr detail scrub).1 .flash rfl
@[simp] theorem State.report_lgy (s : State) (cls src addr detail : Nat) (scrub : Bool) : (s.report cls src addr detail scrub).lgy = s.lgy :=
  (s.report_moves cls src addr detail scrub).1 .lgy rfl
@[simp] theorem State.report_tag (s : State) (cls src addr detail : Nat) (scrub : Bool) : (s.report cls src addr detail scrub).tag = s.tag :=
  (s.report_moves cls src addr detail scrub).1 .tag rfl
@[simp] theorem State.report_host (s : State) (cls src addr detail : Nat) (scrub : Bool) : (s.report cls src addr detail scrub).host = s.host :=
  (s.report_moves cls src addr detail scrub).1 .host rfl
@[simp] theorem State.report_boot (s : State) (cls src addr detail : Nat) (scrub : Bool) : (s.report cls src addr detail scrub).boot = s.boot :=
  (s.report_moves cls src addr detail scrub).1 .boot rfl
@[simp] theorem State.report_pke (s : State) (cls src addr detail : Nat) (scrub : Bool) : (s.report cls src addr detail scrub).pke = s.pke :=
  (s.report_moves cls src addr detail scrub).1 .pke rfl
@[simp] theorem State.report_pins (s : State) (cls src addr detail : Nat) (scrub : Bool) : (s.report cls src addr detail scrub).pins = s.pins :=
  (s.report_moves cls src addr detail scrub).1 .pins rfl
@[simp] theorem State.report_objs (s : State) (cls src addr detail : Nat) (scrub : Bool) : (s.report cls src addr detail scrub).objs = s.objs :=
  (s.report_moves cls src addr detail scrub).1 .objs rfl
@[simp] theorem State.report_free (s : State) (cls src addr detail : Nat) (scrub : Bool) : (s.report cls src addr detail scrub).free = s.free :=
  (s.report_moves cls src addr detail scrub).1 .free rfl
@[simp] theorem State.report_pending (s : State) (cls src addr detail : Nat) (scrub : Bool) : (s.report cls src addr detail scrub).pending = s.pending :=
  (s.report_moves cls src addr detail scrub).1 .pending rfl
@[simp] theorem State.report_partT (s : State) (cls src addr detail : Nat) (scrub : Bool) : (s.report cls src addr detail scrub).partT = s.partT :=
  (s.report_moves cls src addr detail scrub).1 .partT rfl
@[simp] theorem State.byte_report (s : State) (cls src addr detail : Nat) (scrub : Bool) (k : Nat) : (s.report cls src addr detail scrub).byte k = s.byte k :=
  (s.report_moves cls src addr detail scrub).1 .mem rfl k
@[simp] theorem State.prcInfo_tnet (s : State) (code : Nat) : (s.prcInfo code).tnet = s.tnet :=
  (s.prcInfo_moves code).1 .tnet rfl
@[simp] theorem State.prcInfo_clock (s : State) (code : Nat) : (s.prcInfo code).clock = s.clock :=
  (s.prcInfo_moves code).1 .clock rfl
@[simp] theorem State.prcInfo_poison (s : State) (code : Nat) : (s.prcInfo code).poison = s.poison :=
  (s.prcInfo_moves code).1 .poison rfl
@[simp] theorem State.prcInfo_radio (s : State) (code : Nat) : (s.prcInfo code).radio = s.radio :=
  (s.prcInfo_moves code).1 .radio rfl
@[simp] theorem State.prcInfo_slot (s : State) (code : Nat) : (s.prcInfo code).slot = s.slot :=
  (s.prcInfo_moves code).1 .slot rfl
@[simp] theorem State.prcInfo_mac (s : State) (code : Nat) : (s.prcInfo code).mac = s.mac :=
  (s.prcInfo_moves code).1 .mac rfl
@[simp] theorem State.prcInfo_sec (s : State) (code : Nat) : (s.prcInfo code).sec = s.sec :=
  (s.prcInfo_moves code).1 .sec rfl
@[simp] theorem State.prcInfo_gnss (s : State) (code : Nat) : (s.prcInfo code).gnss = s.gnss :=
  (s.prcInfo_moves code).1 .gnss rfl
@[simp] theorem State.prcInfo_rtc (s : State) (code : Nat) : (s.prcInfo code).rtc = s.rtc :=
  (s.prcInfo_moves code).1 .rtc rfl
@[simp] theorem State.prcInfo_memctl (s : State) (code : Nat) : (s.prcInfo code).memctl = s.memctl :=
  (s.prcInfo_moves code).1 .memctl rfl
@[simp] theorem State.prcInfo_flash (s : State) (code : Nat) : (s.prcInfo code).flash = s.flash :=
  (s.prcInfo_moves code).1 .flash rfl
@[simp] theorem State.prcInfo_lgy (s : State) (code : Nat) : (s.prcInfo code).lgy = s.lgy :=
  (s.prcInfo_moves code).1 .lgy rfl
@[simp] theorem State.prcInfo_tag (s : State) (code : Nat) : (s.prcInfo code).tag = s.tag :=
  (s.prcInfo_moves code).1 .tag rfl
@[simp] theorem State.prcInfo_host (s : State) (code : Nat) : (s.prcInfo code).host = s.host :=
  (s.prcInfo_moves code).1 .host rfl
@[simp] theorem State.prcInfo_boot (s : State) (code : Nat) : (s.prcInfo code).boot = s.boot :=
  (s.prcInfo_moves code).1 .boot rfl
@[simp] theorem State.prcInfo_pke (s : State) (code : Nat) : (s.prcInfo code).pke = s.pke :=
  (s.prcInfo_moves code).1 .pke rfl
@[simp] theorem State.prcInfo_pins (s : State) (code : Nat) : (s.prcInfo code).pins = s.pins :=
  (s.prcInfo_moves code).1 .pins rfl
@[simp] theorem State.prcInfo_objs (s : State) (code : Nat) : (s.prcInfo code).objs = s.objs :=
  (s.prcInfo_moves code).1 .objs rfl
@[simp] theorem State.prcInfo_free (s : State) (code : Nat) : (s.prcInfo code).free = s.free :=
  (s.prcInfo_moves code).1 .free rfl
@[simp] theorem State.prcInfo_pending (s : State) (code : Nat) : (s.prcInfo code).pending = s.pending :=
  (s.prcInfo_moves code).1 .pending rfl
@[simp] theorem State.prcInfo_partT (s : State) (code : Nat) : (s.prcInfo code).partT = s.partT :=
  (s.prcInfo_moves code).1 .partT rfl
@[simp] theorem State.byte_prcInfo (s : State) (code : Nat) (k : Nat) : (s.prcInfo code).byte k = s.byte k :=
  (s.prcInfo_moves code).1 .mem rfl k
@[simp] theorem State.busInfo_tnet (s : State) (a : Nat) : (s.busInfo a).tnet = s.tnet :=
  (s.busInfo_moves a).1 .tnet rfl
@[simp] theorem State.busInfo_clock (s : State) (a : Nat) : (s.busInfo a).clock = s.clock :=
  (s.busInfo_moves a).1 .clock rfl
@[simp] theorem State.busInfo_poison (s : State) (a : Nat) : (s.busInfo a).poison = s.poison :=
  (s.busInfo_moves a).1 .poison rfl
@[simp] theorem State.busInfo_radio (s : State) (a : Nat) : (s.busInfo a).radio = s.radio :=
  (s.busInfo_moves a).1 .radio rfl
@[simp] theorem State.busInfo_slot (s : State) (a : Nat) : (s.busInfo a).slot = s.slot :=
  (s.busInfo_moves a).1 .slot rfl
@[simp] theorem State.busInfo_mac (s : State) (a : Nat) : (s.busInfo a).mac = s.mac :=
  (s.busInfo_moves a).1 .mac rfl
@[simp] theorem State.busInfo_sec (s : State) (a : Nat) : (s.busInfo a).sec = s.sec :=
  (s.busInfo_moves a).1 .sec rfl
@[simp] theorem State.busInfo_gnss (s : State) (a : Nat) : (s.busInfo a).gnss = s.gnss :=
  (s.busInfo_moves a).1 .gnss rfl
@[simp] theorem State.busInfo_rtc (s : State) (a : Nat) : (s.busInfo a).rtc = s.rtc :=
  (s.busInfo_moves a).1 .rtc rfl
@[simp] theorem State.busInfo_memctl (s : State) (a : Nat) : (s.busInfo a).memctl = s.memctl :=
  (s.busInfo_moves a).1 .memctl rfl
@[simp] theorem State.busInfo_flash (s : State) (a : Nat) : (s.busInfo a).flash = s.flash :=
  (s.busInfo_moves a).1 .flash rfl
@[simp] theorem State.busInfo_lgy (s : State) (a : Nat) : (s.busInfo a).lgy = s.lgy :=
  (s.busInfo_moves a).1 .lgy rfl
@[simp] theorem State.busInfo_tag (s : State) (a : Nat) : (s.busInfo a).tag = s.tag :=
  (s.busInfo_moves a).1 .tag rfl
@[simp] theorem State.busInfo_host (s : State) (a : Nat) : (s.busInfo a).host = s.host :=
  (s.busInfo_moves a).1 .host rfl
@[simp] theorem State.busInfo_boot (s : State) (a : Nat) : (s.busInfo a).boot = s.boot :=
  (s.busInfo_moves a).1 .boot rfl
@[simp] theorem State.busInfo_pke (s : State) (a : Nat) : (s.busInfo a).pke = s.pke :=
  (s.busInfo_moves a).1 .pke rfl
@[simp] theorem State.busInfo_pins (s : State) (a : Nat) : (s.busInfo a).pins = s.pins :=
  (s.busInfo_moves a).1 .pins rfl
@[simp] theorem State.busInfo_objs (s : State) (a : Nat) : (s.busInfo a).objs = s.objs :=
  (s.busInfo_moves a).1 .objs rfl
@[simp] theorem State.busInfo_free (s : State) (a : Nat) : (s.busInfo a).free = s.free :=
  (s.busInfo_moves a).1 .free rfl
@[simp] theorem State.busInfo_pending (s : State) (a : Nat) : (s.busInfo a).pending = s.pending :=
  (s.busInfo_moves a).1 .pending rfl
@[simp] theorem State.busInfo_partT (s : State) (a : Nat) : (s.busInfo a).partT = s.partT :=
  (s.busInfo_moves a).1 .partT rfl
@[simp] theorem State.byte_busInfo (s : State) (a : Nat) (k : Nat) : (s.busInfo a).byte k = s.byte k :=
  (s.busInfo_moves a).1 .mem rfl k
@[simp] theorem State.advance_poison (s : State) (n : Nat) : (s.advance n).poison = s.poison :=
  (s.advance_moves n).1 .poison rfl
@[simp] theorem State.advance_faults (s : State) (n : Nat) : (s.advance n).faults = s.faults :=
  (s.advance_moves n).1 .faults rfl
@[simp] theorem State.advance_power (s : State) (n : Nat) : (s.advance n).power = s.power :=
  (s.advance_moves n).1 .power rfl
@[simp] theorem State.advance_radio (s : State) (n : Nat) : (s.advance n).radio = s.radio :=
  (s.advance_moves n).1 .radio rfl
@[simp] theorem State.advance_slot (s : State) (n : Nat) : (s.advance n).slot = s.slot :=
  (s.advance_moves n).1 .slot rfl
@[simp] theorem State.advance_sec (s : State) (n : Nat) : (s.advance n).sec = s.sec :=
  (s.advance_moves n).1 .sec rfl
@[simp] theorem State.advance_gnss (s : State) (n : Nat) : (s.advance n).gnss = s.gnss :=
  (s.advance_moves n).1 .gnss rfl
@[simp] theorem State.advance_rtc (s : State) (n : Nat) : (s.advance n).rtc = s.rtc :=
  (s.advance_moves n).1 .rtc rfl
@[simp] theorem State.advance_evr (s : State) (n : Nat) : (s.advance n).evr = s.evr :=
  (s.advance_moves n).1 .evr rfl
@[simp] theorem State.advance_memctl (s : State) (n : Nat) : (s.advance n).memctl = s.memctl :=
  (s.advance_moves n).1 .memctl rfl
@[simp] theorem State.advance_flash (s : State) (n : Nat) : (s.advance n).flash = s.flash :=
  (s.advance_moves n).1 .flash rfl
@[simp] theorem State.advance_core0 (s : State) (n : Nat) : (s.advance n).core0 = s.core0 :=
  (s.advance_moves n).1 .core0 rfl
@[simp] theorem State.advance_core1 (s : State) (n : Nat) : (s.advance n).core1 = s.core1 :=
  (s.advance_moves n).1 .core1 rfl
@[simp] theorem State.advance_lgy (s : State) (n : Nat) : (s.advance n).lgy = s.lgy :=
  (s.advance_moves n).1 .lgy rfl
@[simp] theorem State.advance_tag (s : State) (n : Nat) : (s.advance n).tag = s.tag :=
  (s.advance_moves n).1 .tag rfl
@[simp] theorem State.advance_host (s : State) (n : Nat) : (s.advance n).host = s.host :=
  (s.advance_moves n).1 .host rfl
@[simp] theorem State.advance_boot (s : State) (n : Nat) : (s.advance n).boot = s.boot :=
  (s.advance_moves n).1 .boot rfl
@[simp] theorem State.advance_pke (s : State) (n : Nat) : (s.advance n).pke = s.pke :=
  (s.advance_moves n).1 .pke rfl
@[simp] theorem State.advance_pins (s : State) (n : Nat) : (s.advance n).pins = s.pins :=
  (s.advance_moves n).1 .pins rfl
@[simp] theorem State.advance_objs (s : State) (n : Nat) : (s.advance n).objs = s.objs :=
  (s.advance_moves n).1 .objs rfl
@[simp] theorem State.advance_free (s : State) (n : Nat) : (s.advance n).free = s.free :=
  (s.advance_moves n).1 .free rfl
@[simp] theorem State.advance_pending (s : State) (n : Nat) : (s.advance n).pending = s.pending :=
  (s.advance_moves n).1 .pending rfl
@[simp] theorem State.advance_partT (s : State) (n : Nat) : (s.advance n).partT = s.partT :=
  (s.advance_moves n).1 .partT rfl
@[simp] theorem State.byte_advance (s : State) (n : Nat) (k : Nat) : (s.advance n).byte k = s.byte k :=
  (s.advance_moves n).1 .mem rfl k

/-! Register fields. -/

@[simp] theorem State.get_put_self (s : State) (f : RegField) (v : Nat) : (s.put f v).get f = v % 2 ^ f.width := by
  unfold State.get State.put
  rw [Sparse.read_write, if_pos rfl]

theorem State.get_put_ne (s : State) {f g : RegField} (v : Nat) (h : g.key ≠ f.key) : (s.put f v).get g = s.get g :=
  Sparse.read_write_ne _ _ _ _ _ _ h

@[simp] theorem State.get_flag_self (s : State) (f : RegField) (v : Bool) : (s.flag f v).get f = ofBool v % 2 ^ f.width :=
  s.get_put_self f _

theorem State.get_flag_ne (s : State) {f g : RegField} (v : Bool) (h : g.key ≠ f.key) : (s.flag f v).get g = s.get g :=
  s.get_put_ne _ h

theorem State.get_bump_ne (s : State) {f g : RegField} (h : g.key ≠ f.key) : (s.bump f).get g = s.get g := s.get_put_ne _ h

theorem State.get_bumpWrap_ne (s : State) {f g : RegField} (h : g.key ≠ f.key) : (s.bumpWrap f).get g = s.get g := s.get_put_ne _ h

/-! Memory. -/

theorem State.byte_setByte (s : State) (a k : Nat) (b : Byte) : (s.setByte a b).byte k = if k = a then b else s.byte k := by
  unfold State.byte State.setByte
  by_cases h : k = a
  · subst h
    rw [if_pos rfl, Sparse.read_write, if_pos rfl]
  · rw [if_neg h]
    exact Sparse.read_write_ne _ _ _ _ _ _ h

/-- Bytes outside the stored range read as before. -/
theorem State.byte_setBytes_ne (s : State) (a : Nat) (bs : List Byte) (k : Nat) (h : k < a ∨ a + bs.length ≤ k) :
    (s.setBytes a bs).byte k = s.byte k := by
  induction bs generalizing s a with
  | nil => rfl
  | cons b bs ih =>
    simp only [List.length_cons] at h
    show ((s.setByte a b).setBytes (a + 1) bs).byte k = _
    rw [ih _ _ (by omega), State.byte_setByte, if_neg (by omega)]

/-- A stored byte reads back. -/
theorem State.byte_setBytes (s : State) (a : Nat) (bs : List Byte) (k : Nat) (h : k < bs.length) :
    (s.setBytes a bs).byte (a + k) = bs[k] := by
  induction bs generalizing s a k with
  | nil => exact absurd h (by simp)
  | cons b bs ih =>
    show ((s.setByte a b).setBytes (a + 1) bs).byte (a + k) = _
    cases k with
    | zero => rw [State.byte_setBytes_ne _ _ _ _ (.inl (by omega)), State.byte_setByte, if_pos (by omega)]; rfl
    | succ k =>
      have e : a + (k + 1) = a + 1 + k := by omega
      rw [e, ih _ _ _ (by simpa using h)]
      rfl

/-! The canonical form (`Memory.wf`) under every operation over memory. -/

theorem State.reset_memory_wf : Memory.wf State.reset.mem = true := rfl

theorem State.setByte_memory_wf (s : State) (a : Nat) (b : Byte) (h : Memory.wf s.mem = true) :
    Memory.wf (s.setByte a b).mem = true := Sparse.wf_write _ _ h

theorem State.setBytes_memory_wf (s : State) (a : Nat) (bs : List Byte) (h : Memory.wf s.mem = true) :
    Memory.wf (s.setBytes a bs).mem = true := by
  induction bs generalizing s a with
  | nil => exact h
  | cons b bs ih => exact ih _ _ (s.setByte_memory_wf a b h)

theorem State.setNum_memory_wf (s : State) (a n v : Nat) (h : Memory.wf s.mem = true) : Memory.wf (s.setNum a n v).mem = true :=
  s.setBytes_memory_wf _ _ h

theorem State.devWrite_memory_wf (s : State) (a : Nat) (bs : List Byte) (h : s.wf) : Memory.wf (s.devWrite a bs).mem = true :=
  ((s.devWrite_moves a bs).2 h).1

theorem State.zeroBytes_memory_wf (s : State) (a n : Nat) (h : s.wf) : Memory.wf (s.zeroBytes a n).mem = true :=
  ((s.zeroBytes_moves a n).2 h).1

theorem State.initSram_memory_wf (s : State) (keep : Nat → Bool) (h : s.wf) : Memory.wf (s.initSram keep).mem = true :=
  ((s.initSram_moves keep).2 h).1

/-! Register fields under the operations that write none. -/

@[simp] theorem State.setBytes_fields (s : State) (a : Nat) (bs : List Byte) : (s.setBytes a bs).fields = s.fields := by
  induction bs generalizing s a with
  | nil => rfl
  | cons b bs ih => exact ih _ _

@[simp] theorem State.setNum_fields (s : State) (a n v : Nat) : (s.setNum a n v).fields = s.fields := s.setBytes_fields _ _

@[simp] theorem State.requestReset_fields (s : State) (code : Nat) : (s.requestReset code).fields = s.fields := by
  unfold State.requestReset
  split <;> rfl

@[simp] theorem State.pulse_fields (s : State) (c at_ : Nat) : (s.pulse c at_).fields = s.fields := by
  unfold State.pulse
  split <;> rfl

@[simp] theorem State.advance_fields (s : State) (n : Nat) : (s.advance n).fields = s.fields := by
  unfold State.advance
  split <;> rfl

/-- A field reads alike where the fields are the same. -/
theorem State.get_congr {s t : State} (h : t.fields = s.fields) (f : RegField) : t.get f = s.get f := by
  unfold State.get
  rw [h]

/-! Bits. -/

theorem bit_setBit (v n : Nat) : bit (setBit v n) n = true := by
  unfold setBit
  split
  · assumption
  · rename_i h
    unfold bit at h ⊢
    have p : 0 < 2 ^ n := Nat.two_pow_pos n
    rw [Nat.add_div_right _ p]
    simp only [beq_iff_eq] at h ⊢
    omega


end Sys2Proof.Machine
end

