-- ==== Sys2Proof/Tests/States.lean ====
section
/-! SUPPORT. Small states from which the tests and the witnesses of the statements start. -/
set_option linter.all false
namespace Sys2Proof.Tests

open Sys2Proof.Machine

/-- The block after reset in mode `m` of R25. -/
def inMode (m : Nat) : State := State.reset.put PRC_MODE_MODE m

def conc : State := inMode modeConc
def node : State := inMode modeNode
def timing : State := inMode modeTiming
def recovery : State := inMode modeRecovery
def testMode : State := inMode modeTest

/-- A mode in which the factory profile's band is in force. -/
def licensed (m : Nat) : State :=
  let s := (inMode m).put RFC_REGSTAT_PROFILE_VALID 1
  { s with radio := { s.radio with profile := factoryBody } }

/-- An image's fields with 4 units in every stage and a slot of `l` SE cycles in mode `m`, as a sparse buffer. -/
def image (m l : Nat) : Sparse Byte :=
  let put (b : Sparse Byte) (off n v : Nat) : Sparse Byte :=
    (List.range n).foldl (fun (b : Sparse Byte) k => Sparse.write 0 b (off + k) (BitVec.ofNat 8 (v / 256 ^ k))) b
  let b := put (put (put (put [] 16 4 l) 20 1 m) 25 1 2) 27 1 1
  (List.range 16).foldl (fun (b : Sparse Byte) st => put (put b (128 + 8 * st) 2 1000) (128 + 8 * st + 4) 1 4) b

/-- Concentrator mode with a program of 1,000,000-cycle slots and no cells running. -/
def running : State :=
  let s := conc.put SLE_STATUS_RUNNING 1
  { s with slot := { s.slot with buf0 := image 1 1000000 } }

/-- Mode `m` with system firmware running, the ports served and the UART on its balls. -/
def served (m : Nat) : State :=
  let s := ((inMode m).put (PIN_CFG_FUNC 14) 2).put (PIN_CFG_FUNC 15) 2
  { s with power := { s.power with stretch := [] }, boot := { s.boot with firmware := true, due := false } }

/-- Concentrator mode, owned by the master on SPI with nonce 7. -/
def owned : State := { served modeConc with host := { owner := .owned { who := { transport := 0 }, prio := 1, nonce := 7 } } }

/-- Core 0 in the ROM after reset, with its registers, segments and flags changed by `f`. -/
def sloe (f : CoreState → CoreState) : State := { conc with core0 := f conc.core0, power := { conc.power with stretch := [] } }

/-- Core 0 with words in registers 1, 2 and 3. -/
def sloeRegs (a b c : TWord) : State := sloe fun x => ((x.setReg 1 a).setReg 2 b).setReg 3 c

/-- `s` with VTAB at 0x2000_1000 through S1 and the vector `index` naming the ROM word at 0x40. -/
def vecd (index : Nat) (s : State) : State :=
  let s := { s with core0 := { s.core0 with vtab := ⟨.ptr, 0x10001000#32⟩ } }
  (s.setNum (0x20001000 + 4 * index) 4 0x40).setTag (0x20001000 + 4 * index) .code

end Sys2Proof.Tests
end

