-- ==== Sys2Proof/Tests/Slice0.lean ====
section
/-! SUPPORT. Tests: ill-formed commands that the check refuses, the spec's worked examples, and for every statement with
hypotheses a state that meets them. -/
set_option linter.all false
set_option Elab.async false
namespace Sys2Proof.Tests

open Sys2Proof Sys2Proof.Machine

/-- The state after an outcome, where it is one. -/
def after (o : Host.Outcome State Fault Refusal) : State := match o with
  | .next t => t
  | _ => State.reset

/-! Well-formed commands. -/

def badHost : HostId := { transport := 5 }
def badEnv : HostEnv := { load := 33 }
def badDict : DictEnv := { badAt := some 2048 }
def goodHost : HostId := { transport := 1, addr := 3 }

theorem test_wf_numbers :
    [Instr.modeWrite 256, .tempDelta 2048, .reglockSet 256, .leakConverged .a 256, .leakResidualCheck .b 256,
     .phrStage 0 0 false false false 2048, .launchStage 0 0 4096, .dqRelease 65536, .keyExhausted 0 65536 true,
     .acqDone 0 0 65536 0 0, .acqDone 0 0 0 (2 ^ 64) 0, .gnssAgcStep 65536, .setFromNetworkTime 256, .measureDone (2 ^ 32),
     .pinEdge 0 true (2 ^ 32), .restoreDefaults 256, .returnToRun (2 ^ 64) 0, .returnToRun 0 (2 ^ 64), .thermalWarn (-2049),
     .clkDeviate (2 ^ 32), .gnssRestart 256, .thermHotClear 2048, .temphi 2048, .arpRequest (2 ^ 48) 0 0].all
      (fun c => !c.wf) = true := by decide +kernel

theorem test_wf_sizes :
    [Instr.profileWrite [], .regCertWrite [], .syncMatch 0 .legacy 0 32768 0 0, .syncMatch 0 .legacy 0 0 (-32769) 0,
     .decodeStage 0 0 [40000], .maskPeriodogram [], .imageWrite 0 [], .imageWrite 73728 [1],
     .ackReceived 0 (List.replicate 2048 0) true 0 0 0, .ackReceived 0 [] true (2 ^ 64) 0 0, .ackReceived 0 [] true 0 32768 0,
     .ackReceived 0 [] true 0 0 32768, .cipherRequestObject [], .blockBoundary 0 [], .spectrumUpdate [] [0, 0, 0, 0],
     .spectrumUpdate (List.replicate 512 0) [], .measLatch [], .popm false 0 (List.replicate 16 0), .popm false 0 [32],
     .ret false (List.replicate 18 0), .rrest false 0 (List.replicate 14 0)].all (fun c => !c.wf) = true := by decide +kernel

theorem test_wf_frames :
    [Instr.spiTransaction [] false true {}, .spiTransaction [1] false true badEnv, .canSegment 0 (List.replicate 65 0) {},
     .canSegment 0 [] badEnv, .udpDatagram 0 0 0 (List.replicate 1473 0) {}, .udpDatagram 0 0 0 [] badEnv, .uartFrame [] badEnv,
     .meshRequest badEnv, .txSubmit badHost [], .txSubmit goodHost (List.replicate 4097 0), .legacySpiTransaction [] false false false,
     .tagInventory false true none 61 0, .tagInventory false false none 3 8, .tagMemoryDataWrite [1, 2, 3] 0 none,
     .tagMemoryDataWrite [1, 2, 3, 4, 5] 0 none, .icmpEchoRequest 0 (List.replicate 1481 0)].all (fun c => !c.wf) = true := by
  decide +kernel

theorem test_wf_requests :
    [Instr.odpRead badHost 0 0 0 {}, .odpRead goodHost 0 0 0 badEnv, .odpWrite badHost 0 0 0 [] {},
     .odpWrite goodHost 0 0 0 (List.replicate 1025 0) {}, .odpWrite goodHost 0 0 0 [] badEnv, .odpReadSeg badHost 0 0 0 0 {},
     .odpReadSeg goodHost 0 0 0 0 badEnv, .odpWriteSeg badHost 0 0 0 0 0 0 [] {},
     .odpWriteSeg goodHost 0 0 0 0 0 0 (List.replicate 1025 0) {}, .odpWriteSeg goodHost 0 0 0 0 0 0 [] badEnv,
     .odpInfo badHost 0 0 0 {}, .odpInfo goodHost 0 0 0 badEnv, .odpClaim badHost 0 0 0 {}, .odpClaim goodHost 0 0 0 badEnv,
     .odpKeepalive badHost 0 0 {}, .odpKeepalive goodHost 0 0 badEnv, .odpRelease badHost 0 0 {},
     .odpRelease goodHost 0 0 badEnv, .odpHandover badHost 0 0 goodHost 0 {}, .odpHandover goodHost 0 0 badHost 0 {},
     .odpHandover goodHost 0 0 goodHost 0 badEnv, .odpOwner badHost 0 {}, .odpOwner goodHost 0 badEnv,
     .odpRecovery badHost 0 {}, .odpRecovery goodHost 0 badEnv, .stagingTimeout badHost 0 0, .snapshotTimeout badHost 0 0].all
      (fun c => !c.wf) = true := by decide +kernel

theorem test_wf_update :
    [Instr.updBegin badDict, .updateData 0 [] {}, .updateData 0 [1] badDict, .updCommit badDict, .updConfirm badDict,
     .attestationNonce [], .customerRootKeyWrite [] {}, .customerRootKeyWrite (List.replicate 64 0) badDict,
     .rInfo (.host badHost 0) {}, .rInfo (.host goodHost 65536) {}, .rInfo (.field {}) badEnv, .rBegin (.host badHost 0) 0 {},
     .rBegin (.field {}) 0 badEnv, .rData (.host badHost 0) 0 [1] {}, .rData (.field {}) 0 [] {}, .rData (.field {}) 0 [1] badEnv,
     .rEnd (.host badHost 0) {}, .rEnd (.field {}) badEnv, .rBoot (.host badHost 0) {}, .rBoot (.field {}) badEnv].all
      (fun c => !c.wf) = true := by decide +kernel

/-- The same kinds of commands with operands in range are well formed. -/
theorem test_wf_accepts :
    [Instr.modeWrite 2, .phrStage 0 0 false false false 2047, .imageWrite 73727 [1], .odpRead goodHost 0 0 0 {},
     .tagMemoryDataWrite [1, 2, 3, 4] 0 none, .updateData 0 [1] {}, .rInfo (.field {}) {}].all Instr.wf = true := by decide +kernel

/-! The table gives no word any bits. -/

theorem test_no_word_spells_a_command : decodeTableWord 32 0 = none ∧ conc.withFetchWord 32 0 = conc := ⟨rfl, rfl⟩

/-! Worked examples of the spec. -/

/-- The plan of R71's example. -/
def plan470 : MapParams :=
  { f0 := 470200000, spacing := 200000, count := 128, centreA := 476500000, centreB := 489300000, planA := 0, planB := 0, twin := false }

theorem test_r71_channels : mapChannel false plan470 0 = some (0, 0, 0) ∧ mapChannel false plan470 63 = some (0, 63, 0) ∧
    mapChannel false plan470 64 = some (1, 0, 0) ∧ mapChannel false plan470 77 = some (1, 13, 0) ∧
    mapChannel false plan470 5 = some (0, 5, 0) := by decide +kernel

theorem test_r71_oscillators : ncoValue 476500000 0 = 64 ∧ ncoValue 489300000 0 = 0 ∧ ncoValue 867500000 0 = -64 := by decide +kernel

theorem test_r188_example : ccmBlocks true 23 25 = 8 ∧
    ccmNonce 0xA4C13802000719F5 0x2A17 6 = [0xA4, 0xC1, 0x38, 0x02, 0x00, 0x07, 0x19, 0xF5, 0x00, 0x00, 0x2A, 0x17, 0x06] := by
  decide +kernel

/-- Drift tracking, step 2: a rate sample of the active time parent. -/
def child : State :=
  ((((((node.put MAC_SYNCCFG_BETA 3).setCtxFlag 5 0).setCtxFlag 5 1).setCtxFlag 5 11).setCtx 5 28 4 96000).setCtx 5 60 4 250)

theorem test_r162_rate_sample :
    let t := child.timeSample 5 500039680 150 false true
    t.ctx 5 28 4 = 97599 ∧ t.ctx 5 60 4 = 0 ∧ t.mac.pendCorr = -150 := by decide +kernel

/-- Trimming against GNSS, steps 1 and 2. -/
def measuring : State := ((timing.put RTC_TRIMCFG_WINDOW 600).put RTC_TRIMCFG_AUTO 1).put RTC_STATUS_MEAS_BUSY 1

theorem test_r243_result : (after (execMeasureDone 19661153 measuring)).get RTC_TRIMRES_RESULT = 17955 := by decide +kernel

/-- A period change of a running timer, step 3. -/
def timer3 : State := ((conc.put (TMR_PERIOD_PERIOD 3) 9600).put (TMR_COUNT_COUNT 3) 33600).put (TMR_CTRL_EN 3) 1

theorem test_r250_reload :
    let t := after (execTimerTick 3 timer3)
    t.get (TMR_COUNT_COUNT 3) = 0 ∧ t.event 99 = true := by decide +kernel

/-- Core 0 before the call of the example of R287. -/
def caller : State := sloe fun c =>
  { ((((((c.setReg 4 ⟨.int, 7⟩).setReg 5 ⟨.ptr, 0x20000004⟩).setReg 6 ⟨.frac, 9⟩).setReg 7 ⟨.empty, 0⟩).setReg 9
      ⟨.code, 0x300008FC⟩).setReg 15 ⟨.ptr, 0x20001000⟩) with
    pc := 0x30000800
    segs := [c.segs.getD 0 {}, c.segs.getD 1 {}, ⟨0x20010000, 0xFFFF, 7⟩, ⟨0x20040000, 0xFFFF, 0xB⟩] ++ List.replicate 12 {} }

theorem test_r287_call :
    let t := after (execCall false 9 0xF0 caller)
    t.core0.pc = 0x300008FC ∧ t.core0.reg 15 = ⟨.ptr, 0x20000FE8⟩ ∧
    ([0xFFC, 0xFF8, 0xFF4, 0xFF0, 0xFEC, 0xFE8].map fun k => (t.num (0x20010000 + k) 4, t.tagOf (0x20010000 + k))) =
      [(0x30000804, .code), (7, .int), (0x20000004, .ptr), (9, .frac), (0, .empty), (0xCA1100F0, .handle)] := by decide +kernel

theorem test_r287_ret :
    let u := after (execCall false 9 0xF0 caller)
    let t := after (execRet false [] { u with core0 := u.core0.setReg 4 ⟨.int, 1⟩ })
    t.core0.pc = 0x30000804 ∧ t.core0.reg 15 = ⟨.ptr, 0x20001000⟩ ∧ t.core0.reg 4 = ⟨.int, 7⟩ ∧ t.core0.reg 7 = ⟨.empty, 0⟩ := by
  decide +kernel

/-- Core 0 before the first tap of the example of R306, with an empty accumulator. -/
def fir : State :=
  let s := sloe fun c => { ((c.setReg 1 ⟨.ptr, 0x40000010⟩).setReg 2 ⟨.ptr, 0x50000010⟩) with
    pc := 0x30000004
    segs := [c.segs.getD 0 {}, c.segs.getD 1 {}, {}, ⟨0x20040000, 0xFFFF, 0xB⟩, ⟨0x20010000, 0x17, 7⟩, ⟨0x20020000, 0x1F, 0x43⟩] ++
      List.replicate 10 {} }
  ((s.setNum 0x20010010 4 0x60000000).setTag 0x20010010 .frac).setNum 0x20020010 4 0x10000000

theorem test_r306_first_tap :
    let t := after (execTap false 0 1 2 2 2 false true 0 0 fir)
    t.core0.acc.getD 0 0 = 0x0C000000 ∧ t.num 0x20010014 4 = 0x60000000 ∧ t.core0.reg 1 = ⟨.ptr, 0x4000000C⟩ ∧
    t.core0.reg 2 = ⟨.ptr, 0x5000000C⟩ := by decide +kernel

/-- The log of the example of R333: 10 CORRECTED and 4 closed UNCORRECTED entries. -/
def log14 : State :=
  let e (c : Nat) : FaultEntry := { cls := c, src := 3, addr := 0, detail := 0, tnet := 0 }
  { conc with faults := { entries := List.replicate 10 (e 1) ++ List.replicate 4 (e 2) } }

theorem test_r332_open :
    let t := after (execFaultReport 2 0x0B 0 0 log14)
    t.faults.entries.length = 15 ∧ bit t.faults.openMask 0x0B = true ∧ t.event 9 = true := by decide +kernel

theorem test_r332_escalated :
    let t := after (execFaultReport 2 0x0B 0 0 (after (execFaultReport 2 0x0B 0 0 log14)))
    t.faults.entries.length = 16 ∧ t.faults.fatals = 1 ∧ t.event 10 = true := by decide +kernel

/-- The three-way race, step 2: an equal priority and a lower nonce. -/
def racing : State :=
  ({ served modeConc with host := { owner := .claiming { who := { transport := 2, addr := 9 }, prio := 0x20, nonce := 0x1234 } } } :
    State).put HDP_CTRL_ETH_EN 1

theorem test_r375_better_claim :
    let t := after (execOdpClaim { transport := 0 } 3 0x20 0xFFF {} racing)
    t.host.owner = .claiming { who := { transport := 0 }, prio := 0x20, nonce := 0xFFF, tid := 3 } ∧ t.host.result = .claimLost := by
  decide +kernel

/-- A field write torn at the copy home, step 4. -/
def torn : State :=
  (({ conc with power := { conc.power with supply := false }, tag := { field := true } } : State).setTagBlock 2040
    0x11223344).setTagBlock 2041 (commitOf 300 0x11223344)

theorem test_r415_recovery :
    let t := after (execTagPowerUp torn)
    t.tagBlock 300 = 0x11223344 ∧ t.tagBlock 2041 = 0 ∧ t.tag.recovered = true := by decide +kernel

/-- The delta of R437's example: four bytes added, then a fill. -/
theorem test_r437_delta :
    deltaRun 9 [0x12, 0x34, 0x56, 0x78] ([2] ++ leBytes 4 0 ++ leBytes 4 4 ++ [1, 0, 0xFF, 0x10] ++ [3, 0xFF] ++ leBytes 4 24) 28 [] =
      some ([0x13, 0x34, 0x55, 0x88] ++ List.replicate 24 0xFF) := by decide +kernel

/-- A Deep sleep of 45 s, step 5. -/
def slept : State := { node with power := { node.power with state := .deep, wakes := [6], savedTnet := 22517998200000000 } }

theorem test_r449_restored :
    let t := after (execReturnToRun 1474596 4937 slept)
    t.tnet = 22518002700114800 ∧ t.event 1 = true ∧ t.get PRC_PWRSTAT_LAST = 2 ∧ t.get PRC_WAKESRC_FIRST = 6 := by decide +kernel

/-! For every statement, states and operands that meet its hypotheses. -/

/-- The factory profile without its hash, with serial 1. -/
def newerBody : List Byte := factoryBody.take 8 ++ [1] ++ factoryBody.drop 9

theorem sm3_length (m : List Byte) : (Config.sm3 m).length = 32 := by simp [Config.sm3]

theorem newer_take : (newerBody ++ Config.sm3 newerBody).take 80 = newerBody := List.take_left' (by decide)

theorem newer_drop : (newerBody ++ Config.sm3 newerBody).drop 80 = Config.sm3 newerBody := List.drop_left' (by decide)

/-- A profile image that meets R53 whatever SM3 gives. -/
theorem newer_ok : profileOk (newerBody ++ Config.sm3 newerBody) conc.serialInForce = true := by
  have n : profBands (newerBody ++ Config.sm3 newerBody) = 1 := by decide +kernel
  unfold profileOk
  rw [n]
  simp only [Bool.and_eq_true]
  refine ⟨⟨⟨⟨⟨⟨⟨⟨⟨⟨⟨⟨⟨?_, ?_⟩, ?_⟩, ?_⟩, ?_⟩, ?_⟩, ?_⟩, ?_⟩, ?_⟩, ?_⟩, ?_⟩, ?_⟩, ?_⟩, ?_⟩
  case refine_7 => simp [sm3_length, show newerBody.length = 80 by decide]
  case refine_14 => exact decide_eq_true (by rw [newer_take, newer_drop])
  all_goals decide +kernel

/-- The hypotheses of `FieldWritesAreCheckedInOrder`, each clause on a state that meets them. -/
theorem witness_FieldWritesAreCheckedInOrder :
    (let s : State := ({ conc with tag := { conc.tag with field := true, ready := true } } : State).setTagBlock 2000 0x800
     let req : TagReq := { addr := .own, vrec := 120 }
     let bk : Fin 256 := 3
     let code : Nat := 0xA2
     (s.tagHears req = true) ∧ (s.writeError req 256 bk = some code)) ∧
    (let s : State := ({ conc with tag := { conc.tag with field := true, ready := true } } : State)
     let req : TagReq := { addr := .own, vrec := 120 }
     let bk : Fin 256 := 3
     (s.tagHears req = true) ∧ (s.writeError req 256 bk = none)) ∧
    (let s : State := ({ conc with tag := { conc.tag with field := true, ready := true } } : State)
     let req : TagReq := { addr := .own, vrec := 120 }
     let bk : Fin 65536 := 1984
     let code : Nat := 0x10
     (s.tagHears req = true) ∧ (s.writeError req 1984 bk = some code)) ∧
    (let s : State := ({ conc with tag := { conc.tag with field := true, ready := true } } : State)
     let req : TagReq := { addr := .own, vrec := 120 }
     let bk : Fin 65536 := 3
     (s.tagHears req = true) ∧ (s.writeError req 1984 bk = none)) ∧
    (let s : State := ({ conc with tag := { conc.tag with field := true, ready := true } } : State).setTagBlock 2008 65536
     let req : TagReq := { addr := .own, vrec := 120 }
     let code : Nat := 0x12
     (s.tagHears req = true) ∧ (s.infoError req 16 = some code)) ∧
    (let s : State := ({ conc with tag := { conc.tag with field := true, ready := true } } : State)
     let req : TagReq := { addr := .own, vrec := 120 }
     (s.tagHears req = true) ∧ (s.infoError req 16 = none)) ∧
    (let s : State := ({ conc with tag := { conc.tag with field := true, ready := true } } : State).setTagBlock 2008 65536
     let req : TagReq := { addr := .own, vrec := 120 }
     let code : Nat := 0x12
     (s.tagHears req = true) ∧ (s.infoError req 16 = some code)) ∧
    (let s : State := ({ conc with tag := { conc.tag with field := true, ready := true } } : State)
     let req : TagReq := { addr := .own, vrec := 120 }
     (s.tagHears req = true) ∧ (s.infoError req 16 = none)) ∧
    (let s : State := ({ conc with tag := { conc.tag with field := true, ready := true } } : State).setTagBlock 2008 131072
     let req : TagReq := { addr := .own, vrec := 120 }
     let code : Nat := 0x12
     (s.tagHears req = true) ∧ (s.infoError req 17 = some code)) ∧
    (let s : State := ({ conc with tag := { conc.tag with field := true, ready := true } } : State)
     let req : TagReq := { addr := .own, vrec := 120 }
     (s.tagHears req = true) ∧ (s.infoError req 17 = none)) ∧
    (let s : State := ({ conc with tag := { conc.tag with field := true, ready := true } } : State).setTagBlock 2008 131072
     let req : TagReq := { addr := .own, vrec := 120 }
     let code : Nat := 0x12
     (s.tagHears req = true) ∧ (s.infoError req 17 = some code)) ∧
    (let s : State := ({ conc with tag := { conc.tag with field := true, ready := true } } : State)
     let req : TagReq := { addr := .own, vrec := 120 }
     (s.tagHears req = true) ∧ (s.infoError req 17 = none)) := by
  refine ⟨?_, ?_, ?_, ?_, ?_, ?_, ?_, ?_, ?_, ?_, ?_, ?_⟩ <;> decide +kernel

/-- The hypotheses of `TheCommitRecord`, each clause on a state that meets them. -/
theorem witness_TheCommitRecord :
    ((5 < 2048) ∧ (9 < 2 ^ 32)) ∧
    (let s : State := (({ conc with tag := { conc.tag with field := true } } : State).setTagBlock 2040 9).setTagBlock 2041 (commitOf 5 9)
     let c : Nat := commitOf 5 9
     ((s.tagPowered = true ∨ s.tag.field = true)) ∧ (s.tag.ready = false) ∧ (c = s.tagBlock 2041) ∧
     (slice c 11 5 = 0b10100) ∧ (c / 2 ^ 16 = crc16 (leBytes 2 (c % 2 ^ 16) ++ leBytes 4 (s.tagBlock 2040))) ∧
     (slice c 0 11 < 2040)) ∧
    (let s : State := ({ conc with tag := { conc.tag with field := true } } : State)
     let c : Nat := 0
     ((s.tagPowered = true ∨ s.tag.field = true)) ∧ (s.tag.ready = false) ∧ (c = s.tagBlock 2041) ∧
     ((slice c 11 5 ≠ 0b10100 ∨ c / 2 ^ 16 ≠ crc16 (leBytes 2 (c % 2 ^ 16) ++ leBytes 4 (s.tagBlock 2040))))) := by
  refine ⟨?_, ?_, ?_⟩ <;> decide +kernel

/-- The hypotheses of `ModeWriteDuringATransition`, each clause on a state that meets them. -/
theorem witness_ModeWriteDuringATransition :
    (let s : State := conc.put PRC_MODE_PENDING 1
     (s.get PRC_MODE_PENDING = 1)) ∧
    (let s : State := ((({ conc with slot := { conc.slot with modeReq := some 2 } } : State).put PRC_MODE_PENDING 1).answer .busy)
     let m : Nat := 2
     (s.get PRC_MODE_PENDING = 1) ∧ (s.slot.modeReq = some m) ∧ (m < 16) ∧ (s.mode < 16) ∧ (s.running = false)) := by
  refine ⟨?_, ?_⟩ <;> decide +kernel

/-- The hypotheses of `RadioPathsFollowCommandsAndFrequencies`, each clause on a state that meets them. -/
theorem witness_RadioPathsFollowCommandsAndFrequencies :
    (let p : Path := Path.a
     let v : Word := 0x10#32
     let s : State := conc
     (s.hasPath p = true) ∧ (slice v.toNat 0 2 = pathCode p) ∧ (slice v.toNat 4 3 ≤ 3) ∧
     (¬(slice v.toNat 4 3 = 3 ∧ p = .t)) ∧ (s.owned p = false)) ∧
    (let p : Path := Path.t
     let v : Word := 0x12#32
     let s : State := conc.put SLE_STATUS_RUNNING 1
     (s.hasPath p = true) ∧ (slice v.toNat 0 2 = pathCode p) ∧ (slice v.toNat 4 3 ≤ 3) ∧
     (¬(slice v.toNat 4 3 = 3 ∧ p = .t)) ∧ (s.owned p = true)) ∧
    (let p : Path := Path.b
     let g : Nat := 3
     let s : State := conc.setPath .b { (conc.path .b) with goal := some 3 }
     (s.refFailed = false) ∧ ((s.path p).goal = some g) ∧ (s.get (pathField p) ≠ g)) ∧
    (let p : Path := Path.a
     let s : State := conc.put RFC_STATE_STATE_A 3
     (2 ≤ s.get (pathField p))) ∧
    (let p : Path := Path.t
     let v : Word := 470000000#32
     let s : State := conc
     (s.hasPath p = true) ∧ (s.owned p = false) ∧ (freqOk p (slice v.toNat 0 30) = true)) ∧
    (let p : Path := Path.a
     let v : Word := 0#32
     let s : State := conc
     (s.hasPath p = true) ∧ (s.owned p = false) ∧ (freqOk p (slice v.toNat 0 30) = false)) := by
  refine ⟨?_, ?_, ?_, ?_, ?_, ?_⟩ <;> decide +kernel

/-- The hypotheses of `CalibrationsRunStoreAndReport`, each clause on a state that meets them. -/
theorem witness_CalibrationsRunStoreAndReport :
    (let p : Path := Path.b
     let v : Word := 0x12#32
     let s : State := conc
     (s.hasPath p = true) ∧ (slice v.toNat 4 2 = pathCode p) ∧ (slice v.toNat 0 3 ≠ 4) ∧
     (calTypeOk (slice v.toNat 0 3) p = true) ∧ (s.get RFC_CALSTAT_BUSY = 0) ∧ (s.owned p = false) ∧
     (s.get (pathField p) < 3)) ∧
    (let v : Word := 0x4#32
     let s : State := conc
     (slice v.toNat 0 3 = 4) ∧ (s.get RFC_CALSTAT_BUSY = 0)) ∧
    (let c : Calibration := ({ type := 2, target := 0, slots := 0, background := false } : Calibration)
     let s : State := ({ conc with radio := { conc.radio with calib := some { type := 2, target := 0, slots := 0, background := false } } } : State)
     (s.radio.calib = some c) ∧ (c.type < 4)) ∧
    (let c : Calibration := ({ type := 2, target := 0, slots := 0, background := false } : Calibration)
     let s : State := ({ conc with radio := { conc.radio with calib := some { type := 2, target := 0, slots := 0, background := false } } } : State)
     (s.radio.calib = some c) ∧ (c.type < 4)) ∧
    (let c : Calibration := ({ type := 1, target := 2, slots := 65535, background := false } : Calibration)
     let s : State := ({ conc with radio := { conc.radio with calHeld := some { type := 1, target := 2, slots := 65535, background := false } } } : State)
     (s.radio.calHeld = some c) ∧ (65535 ≤ c.slots)) ∧
    (let h : Half := Half.b
     let s : State := conc
     (s.hasPath (halfPath h) = true)) := by
  refine ⟨?_, ?_, ?_, ?_, ?_, ?_⟩ <;> decide +kernel

/-- The hypotheses of `RegulatoryProfileAndDutyAccounts`, each clause on a state that meets them. -/
theorem witness_RegulatoryProfileAndDutyAccounts :
    ((conc.get RFC_REGSTAT_REGLOCK = 0) ∧ (profileOk (newerBody ++ Config.sm3 newerBody) conc.serialInForce = true)) ∧
    (let s : State := conc.put RFC_REGSTAT_REGLOCK 1
     (s.get RFC_REGSTAT_REGLOCK ≠ 0)) ∧
    (let img : List Byte := []
     let s : State := conc
     (s.get RFC_REGSTAT_REGLOCK = 0) ∧ (profileOk img s.serialInForce = false)) ∧
    (let s : State := conc
     (s.get RFC_REGSTAT_REGLOCK = 0)) ∧
    (let v : Nat := 0
     (v ≠ 1)) := by
  refine ⟨?_, ?_, ?_, ?_, ?_⟩
  · exact ⟨by decide +kernel, newer_ok⟩
  · decide +kernel
  · decide +kernel
  · decide +kernel
  · decide +kernel

/-- The hypotheses of `ReceiveProfilesTwinMapAndWindows`, each clause on a state that meets them. -/
theorem witness_ReceiveProfilesTwinMapAndWindows :
    (let v : Word := 0x7FF70800#32
     let s : State := conc
     (s.mode ≠ modeCompat) ∧ (rxProfOk v.toNat = true)) ∧
    (let v : Word := 0#32
     let s : State := conc
     (s.mode ≠ modeCompat) ∧ (rxProfOk v.toNat = false)) ∧
    (let s : State := conc
     (s.partT = false) ∧ (s.mode = modeConc) ∧ (s.running = false)) ∧
    (let s : State := node
     (s.partT = false) ∧ (s.mode = modeNode)) ∧
    (let s : State := conc.put CHZ_STATUS_MAP_BUSY 1
     (s.on CHZ_STATUS_MAP_BUSY = true) ∧ (s.running = false)) ∧
    (((({ ((conc.put (CHZ_LCFG_EN 3) 1).put (CHZ_LSTAT_STATE 3) 1) with slot := { ((conc.put (CHZ_LCFG_EN 3) 1).put (CHZ_LSTAT_STATE 3) 1).slot with windows := [({ lane := 3, ctx := none, timekeep := false, kind := 0, gEff := 0 } : RxWindow)] } } : State)).slot.windows.find? (fun v => v.lane == ((3 : Fin 128)).val && !v.isOpen && !v.closed) = some (({ lane := 3, ctx := none, timekeep := false, kind := 0, gEff := 0 } : RxWindow))) ∧
     ((({ ((conc.put (CHZ_LCFG_EN 3) 1).put (CHZ_LSTAT_STATE 3) 1) with slot := { ((conc.put (CHZ_LCFG_EN 3) 1).put (CHZ_LSTAT_STATE 3) 1).slot with windows := [({ lane := 3, ctx := none, timekeep := false, kind := 0, gEff := 0 } : RxWindow)] } } : State)).laneEn ((3 : Fin 128)) = true) ∧
     (((({ ((conc.put (CHZ_LCFG_EN 3) 1).put (CHZ_LSTAT_STATE 3) 1) with slot := { ((conc.put (CHZ_LCFG_EN 3) 1).put (CHZ_LSTAT_STATE 3) 1).slot with windows := [({ lane := 3, ctx := none, timekeep := false, kind := 0, gEff := 0 } : RxWindow)] } } : State)).lane ((3 : Fin 128))).blanked = false) ∧
     ((({ ((conc.put (CHZ_LCFG_EN 3) 1).put (CHZ_LSTAT_STATE 3) 1) with slot := { ((conc.put (CHZ_LCFG_EN 3) 1).put (CHZ_LSTAT_STATE 3) 1).slot with windows := [({ lane := 3, ctx := none, timekeep := false, kind := 0, gEff := 0 } : RxWindow)] } } : State)).laneState ((3 : Fin 128)) ≠ laneFrame)) ∧
    ((((({ ((conc.put (CHZ_LCFG_EN 3) 1).put (CHZ_LSTAT_STATE 3) 1) with slot := { ((conc.put (CHZ_LCFG_EN 3) 1).put (CHZ_LSTAT_STATE 3) 1).slot with windows := [({ lane := 3, ctx := none, timekeep := false, kind := 0, gEff := 0, isOpen := true } : RxWindow)] } } : State).put (CHZ_LSTAT_STATE 3) 2)).slot.windows.find? (fun v => v.lane == ((3 : Fin 128)).val && v.isOpen && !v.closed && v.ackOf.isNone) = some (({ lane := 3, ctx := none, timekeep := false, kind := 0, gEff := 0, isOpen := true } : RxWindow))) ∧
     (((({ ((conc.put (CHZ_LCFG_EN 3) 1).put (CHZ_LSTAT_STATE 3) 1) with slot := { ((conc.put (CHZ_LCFG_EN 3) 1).put (CHZ_LSTAT_STATE 3) 1).slot with windows := [({ lane := 3, ctx := none, timekeep := false, kind := 0, gEff := 0, isOpen := true } : RxWindow)] } } : State).put (CHZ_LSTAT_STATE 3) 2)).laneEn ((3 : Fin 128)) = true) ∧
     ((((({ ((conc.put (CHZ_LCFG_EN 3) 1).put (CHZ_LSTAT_STATE 3) 1) with slot := { ((conc.put (CHZ_LCFG_EN 3) 1).put (CHZ_LSTAT_STATE 3) 1).slot with windows := [({ lane := 3, ctx := none, timekeep := false, kind := 0, gEff := 0, isOpen := true } : RxWindow)] } } : State).put (CHZ_LSTAT_STATE 3) 2)).lane ((3 : Fin 128))).blanked = false) ∧
     (((({ ((conc.put (CHZ_LCFG_EN 3) 1).put (CHZ_LSTAT_STATE 3) 1) with slot := { ((conc.put (CHZ_LCFG_EN 3) 1).put (CHZ_LSTAT_STATE 3) 1).slot with windows := [({ lane := 3, ctx := none, timekeep := false, kind := 0, gEff := 0, isOpen := true } : RxWindow)] } } : State).put (CHZ_LSTAT_STATE 3) 2)).laneState ((3 : Fin 128)) = laneSearch) ∧
     (((({ ((conc.put (CHZ_LCFG_EN 3) 1).put (CHZ_LSTAT_STATE 3) 1) with slot := { ((conc.put (CHZ_LCFG_EN 3) 1).put (CHZ_LSTAT_STATE 3) 1).slot with windows := [({ lane := 3, ctx := none, timekeep := false, kind := 0, gEff := 0, isOpen := true } : RxWindow)] } } : State).put (CHZ_LSTAT_STATE 3) 2)).scanning ((3 : Fin 128)) = false)) := by
  refine ⟨?_, ?_, ?_, ?_, ?_, ?_, ?_⟩ <;> decide +kernel

/-- The hypotheses of `LanesTakeFramesAndHandThemOn`, each clause on a state that meets them. -/
theorem witness_LanesTakeFramesAndHandThemOn :
    ((((({ ((conc.put (CHZ_LCFG_EN 3) 1).put (CHZ_LSTAT_STATE 3) 1) with slot := { ((conc.put (CHZ_LCFG_EN 3) 1).put (CHZ_LSTAT_STATE 3) 1).slot with windows := [({ lane := 3, ctx := none, timekeep := false, kind := 0, gEff := 0, isOpen := true } : RxWindow)] } } : State).put (CHZ_LSTAT_STATE 3) 2)).laneState ((3 : Fin 128)) = laneSearch) ∧
     (((({ ((conc.put (CHZ_LCFG_EN 3) 1).put (CHZ_LSTAT_STATE 3) 1) with slot := { ((conc.put (CHZ_LCFG_EN 3) 1).put (CHZ_LSTAT_STATE 3) 1).slot with windows := [({ lane := 3, ctx := none, timekeep := false, kind := 0, gEff := 0, isOpen := true } : RxWindow)] } } : State).put (CHZ_LSTAT_STATE 3) 2)).syncLive ((3 : Fin 128)) ((SyncKind.nativeUncoded : SyncKind)) ((0 : Fin 7)) = true) ∧
     (((-100 : Int)).natAbs ≤ 2500) ∧
     (((({ ((conc.put (CHZ_LCFG_EN 3) 1).put (CHZ_LSTAT_STATE 3) 1) with slot := { ((conc.put (CHZ_LCFG_EN 3) 1).put (CHZ_LSTAT_STATE 3) 1).slot with windows := [({ lane := 3, ctx := none, timekeep := false, kind := 0, gEff := 0, isOpen := true } : RxWindow)] } } : State).put (CHZ_LSTAT_STATE 3) 2)).radio.detFifo.length < 64)) ∧
    (((({ (({ ((conc.put (CHZ_LCFG_EN 3) 1).put (CHZ_LSTAT_STATE 3) 1) with slot := { ((conc.put (CHZ_LCFG_EN 3) 1).put (CHZ_LSTAT_STATE 3) 1).slot with windows := [({ lane := 3, ctx := none, timekeep := false, kind := 0, gEff := 0, isOpen := true } : RxWindow)] } } : State).put (CHZ_LSTAT_STATE 3) 2) with radio := { (({ ((conc.put (CHZ_LCFG_EN 3) 1).put (CHZ_LSTAT_STATE 3) 1) with slot := { ((conc.put (CHZ_LCFG_EN 3) 1).put (CHZ_LSTAT_STATE 3) 1).slot with windows := [({ lane := 3, ctx := none, timekeep := false, kind := 0, gEff := 0, isOpen := true } : RxWindow)] } } : State).put (CHZ_LSTAT_STATE 3) 2).radio with detFifo := List.replicate 64 ({ place := 3, profile := 0, sync := .nativeUncoded, errs := 0, tSfd := 5, rssi := 0, offset := 0, dgain := 0, fdx := false, profWord := 0, scan := false } : DetRec) } } : State)).laneState ((3 : Fin 128)) = laneSearch) ∧
     ((({ (({ ((conc.put (CHZ_LCFG_EN 3) 1).put (CHZ_LSTAT_STATE 3) 1) with slot := { ((conc.put (CHZ_LCFG_EN 3) 1).put (CHZ_LSTAT_STATE 3) 1).slot with windows := [({ lane := 3, ctx := none, timekeep := false, kind := 0, gEff := 0, isOpen := true } : RxWindow)] } } : State).put (CHZ_LSTAT_STATE 3) 2) with radio := { (({ ((conc.put (CHZ_LCFG_EN 3) 1).put (CHZ_LSTAT_STATE 3) 1) with slot := { ((conc.put (CHZ_LCFG_EN 3) 1).put (CHZ_LSTAT_STATE 3) 1).slot with windows := [({ lane := 3, ctx := none, timekeep := false, kind := 0, gEff := 0, isOpen := true } : RxWindow)] } } : State).put (CHZ_LSTAT_STATE 3) 2).radio with detFifo := List.replicate 64 ({ place := 3, profile := 0, sync := .nativeUncoded, errs := 0, tSfd := 5, rssi := 0, offset := 0, dgain := 0, fdx := false, profWord := 0, scan := false } : DetRec) } } : State)).syncLive ((3 : Fin 128)) ((SyncKind.nativeUncoded : SyncKind)) ((0 : Fin 7)) = true) ∧
     (((-100 : Int)).natAbs ≤ 2500) ∧
     (64 ≤ (({ (({ ((conc.put (CHZ_LCFG_EN 3) 1).put (CHZ_LSTAT_STATE 3) 1) with slot := { ((conc.put (CHZ_LCFG_EN 3) 1).put (CHZ_LSTAT_STATE 3) 1).slot with windows := [({ lane := 3, ctx := none, timekeep := false, kind := 0, gEff := 0, isOpen := true } : RxWindow)] } } : State).put (CHZ_LSTAT_STATE 3) 2) with radio := { (({ ((conc.put (CHZ_LCFG_EN 3) 1).put (CHZ_LSTAT_STATE 3) 1) with slot := { ((conc.put (CHZ_LCFG_EN 3) 1).put (CHZ_LSTAT_STATE 3) 1).slot with windows := [({ lane := 3, ctx := none, timekeep := false, kind := 0, gEff := 0, isOpen := true } : RxWindow)] } } : State).put (CHZ_LSTAT_STATE 3) 2).radio with detFifo := List.replicate 64 ({ place := 3, profile := 0, sync := .nativeUncoded, errs := 0, tSfd := 5, rssi := 0, offset := 0, dgain := 0, fdx := false, profWord := 0, scan := false } : DetRec) } } : State)).radio.detFifo.length)) ∧
    (let lane : Fin 128 := 3
     let s : State := conc.put (CHZ_LSTAT_STATE 3) 3
     (s.laneState lane = laneFrame)) ∧
    (let s : State := ({ conc with radio := { conc.radio with txWindow := true } } : State)
     (s.radio.txWindow = true) ∧ (s.get RFC_STATE_STATE_T < 4)) ∧
    (let d : DetRec := ({ place := 3, profile := 0, sync := .nativeUncoded, errs := 0, tSfd := 5, rssi := 0, offset := 0, dgain := 0, fdx := false, profWord := 0, scan := false } : DetRec)
     let ds : List DetRec := []
     let s : State := ({ conc with radio := { conc.radio with detFifo := [({ place := 3, profile := 0, sync := .nativeUncoded, errs := 0, tSfd := 5, rssi := 0, offset := 0, dgain := 0, fdx := false, profWord := 0, scan := false } : DetRec)] } } : State)
     (s.radio.detFifo = d :: ds) ∧ ((s.atStage 0).length - s.stagePar 0 < 16)) ∧
    (let n : Nat := 7
     let u : RxUnit := ({ id := 7, det := ({ place := 3, profile := 0, sync := .nativeUncoded, errs := 0, tSfd := 5, rssi := 0, offset := 0, dgain := 0, fdx := false, profWord := 0, scan := false } : DetRec), twin := .waiting } : RxUnit)
     let s : State := ({ conc with slot := { conc.slot with rx := [({ id := 7, det := ({ place := 3, profile := 0, sync := .nativeUncoded, errs := 0, tSfd := 5, rssi := 0, offset := 0, dgain := 0, fdx := false, profWord := 0, scan := false } : DetRec), twin := .waiting } : RxUnit)] } } : State)
     (s.rxUnit n = some u) ∧ (u.twin = .waiting) ∧ (s.slot.rx.any (twinPair u) = false) ∧ (u.crcDone = false)) := by
  refine ⟨?_, ?_, ?_, ?_, ?_, ?_⟩ <;> decide +kernel

/-- The hypotheses of `LeakageCancellerAndTestOperations`, each clause on a state that meets them. -/
theorem witness_LeakageCancellerAndTestOperations :
    (let h : Half := Half.a
     let n : Nat := 60
     let s : State := ({ ((((conc.put CHZ_CTRL_LEAK_EN 1).put RFC_STATE_STATE_T 5).put RFC_CTRL_ANT_CFG 1)) with radio := { ((((conc.put CHZ_CTRL_LEAK_EN 1).put RFC_STATE_STATE_T 5).put RFC_CTRL_ANT_CFG 1)).radio with leakA := [{ carrier := 470000000, antCfg := 1, converged := false }] } } : State)
     (s.leakActive (halfNo h) = true) ∧ (s.get CHZ_LEAKCFG_TARGET ≤ n) ∧
     ((s.leakSets (halfNo h)).head?.map LeakSet.converged = some false)) ∧
    (let h : Half := Half.a
     let n : Nat := 3
     let s : State := ({ ((((conc.put CHZ_CTRL_LEAK_EN 1).put RFC_STATE_STATE_T 5).put RFC_CTRL_ANT_CFG 1)) with radio := { ((((conc.put CHZ_CTRL_LEAK_EN 1).put RFC_STATE_STATE_T 5).put RFC_CTRL_ANT_CFG 1)).radio with leakA := [{ carrier := 470000000, antCfg := 1, converged := true }] } } : State)
     (s.leakActive (halfNo h) = true) ∧ (n < s.get CHZ_LEAKCFG_MIN) ∧
     ((s.leakSets (halfNo h)).head?.map LeakSet.converged = some true) ∧ (s.radio.leakCheckedA = false) ∧
     (s.radio.leakCheckedB = false)) ∧
    (let g : Nat := 0
     let s : State := licensed modeTest
     (s.testIdle = true) ∧ (s.regCheck (s.get RFC_FREQ_T_FREQ) s.txPower (s.get RFC_TESTDUR_DURATION * 100000) = .pass g)) ∧
    (let g : Nat := 0
     let s : State := licensed modeTest
     (s.testIdle = true) ∧ (s.regCheck (s.get RFC_FREQ_T_FREQ) s.txPower (s.get RFC_TESTDUR_DURATION * 100000) = .pass g)) ∧
    (let s : State := testMode
     (s.testIdle = true)) ∧
    (let lane : Nat := 0
     let s : State := testMode
     (s.testIdle = true) ∧ (s.running = false) ∧ (s.perLane = some lane)) ∧
    (let s : State := testMode
     (s.mode = modeTest) ∧ (s.radio.test.running = false)) ∧
    (let s : State := ({ testMode with radio := { testMode.radio with test := { op := 4, running := true } } } : State)
     (s.mode = modeTest) ∧ (s.radio.test.running = true)) ∧
    (let u : TxUnit := ({ id := 4, kind := .test, phase := .tx } : TxUnit)
     let s : State := ({ testMode with radio := { testMode.radio with test := { op := 1, running := true } }, slot := { testMode.slot with tx := [{ id := 4, kind := .test, phase := .tx }] } } : State)
     (s.radio.test.running = true) ∧ (s.radio.test.op = 1 ∨ s.radio.test.op = 2) ∧ (s.airUnit = some u) ∧
     (u.kind = .test) ∧ (u.phase = .tx)) := by
  refine ⟨?_, ?_, ?_, ?_, ?_, ?_, ?_, ?_, ?_⟩ <;> decide +kernel

/-- The hypotheses of `ReceiveStagesHandFramesOn`, each clause on a state that meets them. -/
theorem witness_ReceiveStagesHandFramesOn :
    (let unit : Nat := 7
     let charge : Nat := 20
     let u : RxUnit := ({ id := 7, stage := 0, det := ({ place := 3, profile := 0, sync := .nativeUncoded, errs := 0, tSfd := 5, rssi := 0, offset := 0, dgain := 0, fdx := false, profWord := 0x7FF00000, scan := false } : DetRec) } : RxUnit)
     let s : State := ({ conc with slot := { conc.slot with rx := [({ id := 7, stage := 0, det := ({ place := 3, profile := 0, sync := .nativeUncoded, errs := 0, tSfd := 5, rssi := 0, offset := 0, dgain := 0, fdx := false, profWord := 0x7FF00000, scan := false } : DetRec) } : RxUnit)] } } : State)
     (s.rxReady 0 unit charge = some u) ∧ (u.blanked = false) ∧ (s.injected 0 = false)) ∧
    (let unit : Nat := 7
     let charge : Nat := 90
     let u : RxUnit := ({ id := 7, stage := 1, det := ({ place := 3, profile := 0, sync := .nativeUncoded, errs := 0, tSfd := 5, rssi := 0, offset := 0, dgain := 0, fdx := false, profWord := 0x7FF00000, scan := false } : DetRec) } : RxUnit)
     let ms : Bool := false
     let f16 : Bool := true
     let n : Nat := 40
     let s : State := ({ conc with slot := { conc.slot with rx := [({ id := 7, stage := 1, det := ({ place := 3, profile := 0, sync := .nativeUncoded, errs := 0, tSfd := 5, rssi := 0, offset := 0, dgain := 0, fdx := false, profWord := 0x7FF00000, scan := false } : DetRec) } : RxUnit)] } } : State)
     (s.rxReady 1 unit charge = some u) ∧ (u.blanked = false) ∧ (s.injected 1 = false) ∧ (u.legacy = false) ∧
     (u.headerBad ms (if f16 then 2 else 4) (n % 2048) = false)) ∧
    (let unit : Nat := 7
     let charge : Nat := 90
     let u : RxUnit := ({ id := 7, stage := 1, det := ({ place := 3, profile := 0, sync := .nativeUncoded, errs := 0, tSfd := 5, rssi := 0, offset := 0, dgain := 0, fdx := false, profWord := 0x7FF00000, scan := false } : DetRec) } : RxUnit)
     let ms : Bool := true
     let f16 : Bool := true
     let n : Nat := 40
     let s : State := ({ conc with slot := { conc.slot with rx := [({ id := 7, stage := 1, det := ({ place := 3, profile := 0, sync := .nativeUncoded, errs := 0, tSfd := 5, rssi := 0, offset := 0, dgain := 0, fdx := false, profWord := 0x7FF00000, scan := false } : DetRec) } : RxUnit)] } } : State)
     (s.rxReady 1 unit charge = some u) ∧ (u.blanked = false) ∧ (u.legacy = false) ∧
     (u.headerBad ms (if f16 then 2 else 4) (n % 2048) = true)) ∧
    (let unit : Nat := 7
     let charge : Nat := 9
     let u : RxUnit := ({ id := 7, stage := 2, det := ({ place := 3, profile := 0, sync := .nativeUncoded, errs := 0, tSfd := 5, rssi := 0, offset := 0, dgain := 0, fdx := false, profWord := 0x7FF00000, scan := false } : DetRec), length := 1, ended := true } : RxUnit)
     let s : State := ({ conc with slot := { conc.slot with rx := [({ id := 7, stage := 2, det := ({ place := 3, profile := 0, sync := .nativeUncoded, errs := 0, tSfd := 5, rssi := 0, offset := 0, dgain := 0, fdx := false, profWord := 0x7FF00000, scan := false } : DetRec), length := 1, ended := true } : RxUnit)] } } : State)
     (s.rxReady 2 unit charge = some u) ∧ (u.blanked = false) ∧ (s.injected 2 = false) ∧ (u.ended = true)) ∧
    (let unit : Nat := 7
     let charge : Nat := 9
     let u : RxUnit := ({ id := 7, stage := 3, det := ({ place := 3, profile := 0, sync := .nativeUncoded, errs := 0, tSfd := 5, rssi := 0, offset := 0, dgain := 0, fdx := false, profWord := 0x7FF00000, scan := false } : DetRec), length := 6, fcsLen := 4, psdu := [0x40, 0x00] ++ fcs32 [0x40, 0x00] } : RxUnit)
     let s : State := ({ conc with slot := { conc.slot with rx := [({ id := 7, stage := 3, det := ({ place := 3, profile := 0, sync := .nativeUncoded, errs := 0, tSfd := 5, rssi := 0, offset := 0, dgain := 0, fdx := false, profWord := 0x7FF00000, scan := false } : DetRec), length := 6, fcsLen := 4, psdu := [0x40, 0x00] ++ fcs32 [0x40, 0x00] } : RxUnit)] } } : State)
     (s.rxReady 3 unit charge = some u) ∧ (u.blanked = false) ∧ (s.injected 3 = false) ∧ (u.crcDone = false) ∧
     (u.twin = .single) ∧ (u.checkOk = true)) ∧
    (let unit : Nat := 7
     let charge : Nat := 9
     let u : RxUnit := ({ id := 7, stage := 3, det := ({ place := 3, profile := 0, sync := .nativeUncoded, errs := 0, tSfd := 5, rssi := 0, offset := 0, dgain := 0, fdx := false, profWord := 0x7FF00000, scan := false } : DetRec), length := 6, psdu := [1, 2, 3, 4, 5, 6] } : RxUnit)
     let s : State := ({ conc with slot := { conc.slot with rx := [({ id := 7, stage := 3, det := ({ place := 3, profile := 0, sync := .nativeUncoded, errs := 0, tSfd := 5, rssi := 0, offset := 0, dgain := 0, fdx := false, profWord := 0x7FF00000, scan := false } : DetRec), length := 6, psdu := [1, 2, 3, 4, 5, 6] } : RxUnit)] } } : State)
     (s.rxReady 3 unit charge = some u) ∧ (u.blanked = false) ∧ (u.crcDone = false) ∧ (u.twin = .single) ∧
     (u.checkOk = false)) ∧
    (let unit : Nat := 7
     let charge : Nat := 9
     let h : MacHeader := ((parseHeader [0x01, 0x20, 0x05]).getD {})
     let u : RxUnit := ({ id := 7, stage := 4, det := ({ place := 3, profile := 0, sync := .nativeUncoded, errs := 0, tSfd := 5, rssi := 0, offset := 0, dgain := 0, fdx := false, profWord := 0x7FF00000, scan := false } : DetRec), psdu := [0x01, 0x20, 0x05, 0, 0, 0, 0] } : RxUnit)
     let s : State := ({ conc with slot := { conc.slot with rx := [({ id := 7, stage := 4, det := ({ place := 3, profile := 0, sync := .nativeUncoded, errs := 0, tSfd := 5, rssi := 0, offset := 0, dgain := 0, fdx := false, profWord := 0x7FF00000, scan := false } : DetRec), psdu := [0x01, 0x20, 0x05, 0, 0, 0, 0] } : RxUnit)] } } : State)
     (s.rxReady 4 unit charge = some u) ∧ (u.blanked = false) ∧ (s.injected 4 = false) ∧ (s.mode ≠ modeCompat) ∧
     (u.legacy = false) ∧ (parseHeader (u.psdu.take (u.psdu.length - u.fcsLen)) = some h) ∧ (h.version ≠ 3) ∧
     (h.frameType ≤ 3) ∧ (h.frameType ≠ 2) ∧ (h.iesBad = false) ∧ (u.scanReject h = false) ∧ (s.isMine h = true)) ∧
    (let unit : Nat := 7
     let charge : Nat := 9
     let u : RxUnit := ({ id := 7, stage := 4, det := ({ place := 3, profile := 0, sync := .nativeUncoded, errs := 0, tSfd := 5, rssi := 0, offset := 0, dgain := 0, fdx := false, profWord := 0x7FF00000, scan := false } : DetRec), psdu := [0x01] } : RxUnit)
     let s : State := ({ conc with slot := { conc.slot with rx := [({ id := 7, stage := 4, det := ({ place := 3, profile := 0, sync := .nativeUncoded, errs := 0, tSfd := 5, rssi := 0, offset := 0, dgain := 0, fdx := false, profWord := 0x7FF00000, scan := false } : DetRec), psdu := [0x01] } : RxUnit)] } } : State)
     (s.rxReady 4 unit charge = some u) ∧ (u.blanked = false) ∧ (s.mode ≠ modeCompat) ∧ (u.legacy = false) ∧
     (parseHeader (u.psdu.take (u.psdu.length - u.fcsLen)) = none)) ∧
    (let unit : Nat := 7
     let charge : Nat := 9
     let h : MacHeader := ((parseHeader [0x01, 0x28, 0x05, 0x34, 0x12, 0x78, 0x56]).getD {})
     let u : RxUnit := ({ id := 7, stage := 4, det := ({ place := 3, profile := 0, sync := .nativeUncoded, errs := 0, tSfd := 5, rssi := 0, offset := 0, dgain := 0, fdx := false, profWord := 0x7FF00000, scan := false } : DetRec), psdu := [0x01, 0x28, 0x05, 0x34, 0x12, 0x78, 0x56, 0, 0, 0, 0] } : RxUnit)
     let s : State := ({ conc with slot := { conc.slot with rx := [({ id := 7, stage := 4, det := ({ place := 3, profile := 0, sync := .nativeUncoded, errs := 0, tSfd := 5, rssi := 0, offset := 0, dgain := 0, fdx := false, profWord := 0x7FF00000, scan := false } : DetRec), psdu := [0x01, 0x28, 0x05, 0x34, 0x12, 0x78, 0x56, 0, 0, 0, 0] } : RxUnit)] } } : State)
     (s.rxReady 4 unit charge = some u) ∧ (u.blanked = false) ∧ (s.mode ≠ modeCompat) ∧ (u.legacy = false) ∧
     (parseHeader (u.psdu.take (u.psdu.length - u.fcsLen)) = some h) ∧ (h.version ≠ 3) ∧ (h.frameType ≤ 3) ∧
     (h.iesBad = false) ∧ (s.isMine h = false) ∧ (s.on MAC_CTRL_PROMISC = false)) := by
  refine ⟨?_, ?_, ?_, ?_, ?_, ?_, ?_, ?_, ?_⟩ <;> decide +kernel

/-- The hypotheses of `ReceiveStagesDecideAndCommit`, each clause on a state that meets them. -/
theorem witness_ReceiveStagesDecideAndCommit :
    (let unit : Nat := 7
     let charge : Nat := 9
     let u : RxUnit := ({ id := 7, stage := 5, det := ({ place := 3, profile := 0, sync := .nativeUncoded, errs := 0, tSfd := 5, rssi := 0, offset := 0, dgain := 0, fdx := false, profWord := 0x7FF00000, scan := false } : DetRec) } : RxUnit)
     let s : State := ({ conc with slot := { conc.slot with rx := [({ id := 7, stage := 5, det := ({ place := 3, profile := 0, sync := .nativeUncoded, errs := 0, tSfd := 5, rssi := 0, offset := 0, dgain := 0, fdx := false, profWord := 0x7FF00000, scan := false } : DetRec) } : RxUnit)] } } : State)
     (s.rxReady 5 unit charge = some u) ∧ (u.blanked = false) ∧ (s.injected 5 = false) ∧ (u.legacy = false)) ∧
    (let unit : Nat := 7
     let charge : Nat := 9
     let u : RxUnit := ({ id := 7, stage := 6, det := ({ place := 3, profile := 0, sync := .nativeUncoded, errs := 0, tSfd := 5, rssi := 0, offset := 0, dgain := 0, fdx := false, profWord := 0x7FF00000, scan := false } : DetRec) } : RxUnit)
     let s : State := ({ conc with slot := { conc.slot with rx := [({ id := 7, stage := 6, det := ({ place := 3, profile := 0, sync := .nativeUncoded, errs := 0, tSfd := 5, rssi := 0, offset := 0, dgain := 0, fdx := false, profWord := 0x7FF00000, scan := false } : DetRec) } : RxUnit)] } } : State)
     (s.rxReady 6 unit charge = some u) ∧ (u.blanked = false) ∧ (s.injected 6 = false) ∧ (u.ctx = none)) ∧
    (let unit : Nat := 7
     let charge : Nat := 9
     let c : Nat := 3
     let u : RxUnit := ({ id := 7, stage := 6, det := ({ place := 3, profile := 0, sync := .nativeUncoded, errs := 0, tSfd := 5, rssi := 0, offset := 0, dgain := 0, fdx := false, profWord := 0x7FF00000, scan := false } : DetRec), ctx := some 3 } : RxUnit)
     let s : State := ({ conc with slot := { conc.slot with rx := [({ id := 7, stage := 6, det := ({ place := 3, profile := 0, sync := .nativeUncoded, errs := 0, tSfd := 5, rssi := 0, offset := 0, dgain := 0, fdx := false, profWord := 0x7FF00000, scan := false } : DetRec), ctx := some 3 } : RxUnit)] } } : State)
     (s.rxReady 6 unit charge = some u) ∧ (u.blanked = false) ∧ (s.injected 6 = false) ∧ (u.ctx = some c) ∧
     (u.hdr.secured = false)) ∧
    (let unit : Nat := 7
     let charge : Nat := 9
     let c : Nat := 3
     let v : RxUnit := { ({ id := 7, stage := 6, det := ({ place := 3, profile := 0, sync := .nativeUncoded, errs := 0, tSfd := 5, rssi := 0, offset := 0, dgain := 0, fdx := false, profWord := 0x7FF00000, scan := false } : DetRec), ctx := some 3, hdr := { secured := true, level := 5, kidm := 1, keyIndex := 9 } } : RxUnit) with key := none }
     let u : RxUnit := ({ id := 7, stage := 6, det := ({ place := 3, profile := 0, sync := .nativeUncoded, errs := 0, tSfd := 5, rssi := 0, offset := 0, dgain := 0, fdx := false, profWord := 0x7FF00000, scan := false } : DetRec), ctx := some 3, hdr := { secured := true, level := 5, kidm := 1, keyIndex := 9 } } : RxUnit)
     let s : State := ({ conc with slot := { conc.slot with rx := [({ id := 7, stage := 6, det := ({ place := 3, profile := 0, sync := .nativeUncoded, errs := 0, tSfd := 5, rssi := 0, offset := 0, dgain := 0, fdx := false, profWord := 0x7FF00000, scan := false } : DetRec), ctx := some 3, hdr := { secured := true, level := 5, kidm := 1, keyIndex := 9 } } : RxUnit)] } } : State)
     (s.rxReady 6 unit charge = some u) ∧ (u.blanked = false) ∧ (s.injected 6 = false) ∧ (u.ctx = some c) ∧
     (u.hdr.secured = true) ∧ ((s.selectKey c u.hdr).all (fun k => !s.keyWaits k (some unit) none) = true) ∧
     ((s.secureRx c u).1 = .pass v)) ∧
    (let unit : Nat := 7
     let charge : Nat := 9
     let u : RxUnit := ({ id := 7, stage := 7, det := ({ place := 3, profile := 0, sync := .nativeUncoded, errs := 0, tSfd := 5, rssi := 0, offset := 0, dgain := 0, fdx := false, profWord := 0x7FF00000, scan := false } : DetRec) } : RxUnit)
     let s : State := ({ conc with slot := { conc.slot with rx := [({ id := 7, stage := 7, det := ({ place := 3, profile := 0, sync := .nativeUncoded, errs := 0, tSfd := 5, rssi := 0, offset := 0, dgain := 0, fdx := false, profWord := 0x7FF00000, scan := false } : DetRec) } : RxUnit)] } } : State)
     (s.rxReady 7 unit charge = some u) ∧ (u.blanked = false) ∧ (s.injected 7 = false) ∧ (u.ctx = none) ∧
     (s.wantsAck { u with outcome := .noContext } = false)) ∧
    (let unit : Nat := 7
     let charge : Nat := 9
     let c : Nat := 3
     let u : RxUnit := ({ id := 7, stage := 7, det := ({ place := 3, profile := 0, sync := .nativeUncoded, errs := 0, tSfd := 5, rssi := 0, offset := 0, dgain := 0, fdx := false, profWord := 0x7FF00000, scan := false } : DetRec), ctx := some 3 } : RxUnit)
     let s : State := ({ conc with slot := { conc.slot with rx := [({ id := 7, stage := 7, det := ({ place := 3, profile := 0, sync := .nativeUncoded, errs := 0, tSfd := 5, rssi := 0, offset := 0, dgain := 0, fdx := false, profWord := 0x7FF00000, scan := false } : DetRec), ctx := some 3 } : RxUnit)] } } : State)
     (s.rxReady 7 unit charge = some u) ∧ (u.blanked = false) ∧ (s.injected 7 = false) ∧ (u.ctx = some c) ∧
     (s.poisonedIn (ctxAddr c) 64 = false) ∧ (s.wantsAck { u with outcome := s.classify c u } = false)) ∧
    (let unit : Nat := 7
     let charge : Nat := 9
     let u : RxUnit := ({ id := 7, stage := 7, det := ({ place := 3, profile := 0, sync := .nativeUncoded, errs := 0, tSfd := 5, rssi := 0, offset := 0, dgain := 0, fdx := false, profWord := 0x7FF00000, scan := false } : DetRec), hdr := { ar := true, dest := .ext 0 } } : RxUnit)
     let s : State := ({ (conc.put MAC_CTRL_ACK_NOCTX 1) with slot := { (conc.put MAC_CTRL_ACK_NOCTX 1).slot with rx := [({ id := 7, stage := 7, det := ({ place := 3, profile := 0, sync := .nativeUncoded, errs := 0, tSfd := 5, rssi := 0, offset := 0, dgain := 0, fdx := false, profWord := 0x7FF00000, scan := false } : DetRec), hdr := { ar := true, dest := .ext 0 } } : RxUnit)] } } : State)
     (s.rxReady 7 unit charge = some u) ∧ (u.blanked = false) ∧ (s.injected 7 = false) ∧ (u.ctx = none) ∧
     (s.wantsAck { u with outcome := .noContext } = true) ∧ (s.ackGrant { u with outcome := .noContext } = false)) ∧
    (let unit : Nat := 7
     let charge : Nat := 9
     let b : Nat := 0
     let u : RxUnit := ({ id := 7, stage := 8, det := ({ place := 3, profile := 0, sync := .nativeUncoded, errs := 0, tSfd := 5, rssi := 0, offset := 0, dgain := 0, fdx := false, profWord := 0x7FF00000, scan := false } : DetRec), outcome := .noContext, length := 6, psdu := [1, 2, 3, 4, 5, 6] } : RxUnit)
     let s : State := ({ conc with slot := { conc.slot with rx := [({ id := 7, stage := 8, det := ({ place := 3, profile := 0, sync := .nativeUncoded, errs := 0, tSfd := 5, rssi := 0, offset := 0, dgain := 0, fdx := false, profWord := 0x7FF00000, scan := false } : DetRec), outcome := .noContext, length := 6, psdu := [1, 2, 3, 4, 5, 6] } : RxUnit)] } } : State)
     (s.rxReady 8 unit charge = some u) ∧ (u.blanked = false) ∧ (s.injected 8 = false) ∧ (s.hasEntry u = true) ∧
     (s.dqLevel + 1 ≠ s.get MAC_FBCFG_DQ_SIZE) ∧ (s.freeBlocks (max 1 (divUp (u.length - u.fcsLen) 64)) = some b) ∧
     (u.psdu.length = u.length)) ∧
    (let unit : Nat := 7
     let charge : Nat := 9
     let u : RxUnit := ({ id := 7, stage := 8, det := ({ place := 3, profile := 0, sync := .nativeUncoded, errs := 0, tSfd := 5, rssi := 0, offset := 0, dgain := 0, fdx := false, profWord := 0x7FF00000, scan := false } : DetRec), outcome := .noContext } : RxUnit)
     let s : State := ({ ((conc.put MAC_FBCFG_DQ_SIZE 4).put MAC_DQ_WR 3) with slot := { ((conc.put MAC_FBCFG_DQ_SIZE 4).put MAC_DQ_WR 3).slot with rx := [({ id := 7, stage := 8, det := ({ place := 3, profile := 0, sync := .nativeUncoded, errs := 0, tSfd := 5, rssi := 0, offset := 0, dgain := 0, fdx := false, profWord := 0x7FF00000, scan := false } : DetRec), outcome := .noContext } : RxUnit)] } } : State)
     (s.rxReady 8 unit charge = some u) ∧ (u.blanked = false) ∧ (s.injected 8 = false) ∧ (s.hasEntry u = true) ∧
     (s.dqLevel + 1 = s.get MAC_FBCFG_DQ_SIZE)) ∧
    (let unit : Nat := 7
     let u : RxUnit := ({ id := 7, stage := 2, det := ({ place := 3, profile := 0, sync := .nativeUncoded, errs := 0, tSfd := 5, rssi := 0, offset := 0, dgain := 0, fdx := false, profWord := 0x7FF00000, scan := false } : DetRec) } : RxUnit)
     let s : State := ({ running with slot := { running.slot with rx := [({ id := 7, stage := 2, det := ({ place := 3, profile := 0, sync := .nativeUncoded, errs := 0, tSfd := 5, rssi := 0, offset := 0, dgain := 0, fdx := false, profWord := 0x7FF00000, scan := false } : DetRec) } : RxUnit)] } } : State)
     (s.slotLen ≠ 0) ∧ (s.rxUnit unit = some u) ∧ (s.served u.stage unit = true)) := by
  refine ⟨?_, ?_, ?_, ?_, ?_, ?_, ?_, ?_, ?_, ?_⟩ <;> decide +kernel

/-- The hypotheses of `TransmitStagesFormAFrame`, each clause on a state that meets them. -/
theorem witness_TransmitStagesFormAFrame :
    (let charge : Nat := 3
     let u : TxUnit := ({ id := 7, stage := 9, kind := .data } : TxUnit)
     let e : QEntry := ({ desc := 5, ctx := 3, queue := 0, cls := 0 } : QEntry)
     let s : State := ({ conc with slot := { conc.slot with tx := [({ id := 7, stage := 9, kind := .data } : TxUnit)] }, mac := { conc.mac with queue := [({ desc := 5, ctx := 3, queue := 0, cls := 0 } : QEntry)] } } : State)
     ((s.atStage 9).head?.bind (fun id => s.txReady 9 id charge) = some u) ∧ (u.kind = .data) ∧ (s.injected 9 = false) ∧
     (bestEntry u.queue u.ctx u.shared s.mac.queue = some e) ∧ (s.poisonedIn (descAddr e.desc) 32 = false)) ∧
    (let charge : Nat := 3
     let u : TxUnit := ({ id := 7, stage := 9, kind := .data } : TxUnit)
     let s : State := ({ conc with slot := { conc.slot with tx := [({ id := 7, stage := 9, kind := .data } : TxUnit)] } } : State)
     ((s.atStage 9).head?.bind (fun id => s.txReady 9 id charge) = some u) ∧ (u.kind = .data) ∧
     (bestEntry u.queue u.ctx u.shared s.mac.queue = none)) ∧
    (let unit : Nat := 7
     let charge : Nat := 4
     let u : TxUnit := ({ id := 7, stage := 10, kind := .data, desc := some 5, ctx := some 3 } : TxUnit)
     let s : State := ({ conc with slot := { conc.slot with tx := [({ id := 7, stage := 10, kind := .data, desc := some 5, ctx := some 3 } : TxUnit)] } } : State)
     (s.txReady 10 unit charge = some u) ∧ (s.injected 10 = false) ∧ (u.desc.all (fun d => !s.descPoisoned d) = true)) ∧
    (let unit : Nat := 7
     let charge : Nat := 4
     let d : Nat := 5
     let u : TxUnit := ({ id := 7, stage := 10, kind := .data, desc := some 5, ctx := some 3 } : TxUnit)
     let s : State := ({ ({ conc with slot := { conc.slot with tx := [({ id := 7, stage := 10, kind := .data, desc := some 5, ctx := some 3 } : TxUnit)] } } : State) with poison := [(descAddr 5, true)] } : State)
     (s.txReady 10 unit charge = some u) ∧ (u.kind = .data) ∧ (u.desc = some d) ∧ (s.descPoisoned d = true)) ∧
    (let unit : Nat := 7
     let charge : Nat := 4
     let u : TxUnit := ({ id := 7, stage := 11, kind := .data } : TxUnit)
     let s : State := ({ conc with slot := { conc.slot with tx := [({ id := 7, stage := 11, kind := .data } : TxUnit)] } } : State)
     (s.txReady 11 unit charge = some u) ∧ (s.injected 11 = false) ∧ (u.secure = false)) ∧
    (let unit : Nat := 7
     let charge : Nat := 4
     let k : Nat := 0
     let fc : Nat := 0
     let u : TxUnit := ({ id := 7, stage := 11, kind := .data, ctx := some 3, secure := true, level := 5, octets := [1, 0x28, 5, 0, 0, 0, 0, 0xD, 0, 0, 0, 0, 0xAA], hdrLen := 12 } : TxUnit)
     let s : State := (({ ({ conc with slot := { conc.slot with tx := [({ id := 7, stage := 11, kind := .data, ctx := some 3, secure := true, level := 5, octets := [1, 0x28, 5, 0, 0, 0, 0, 0xD, 0, 0, 0, 0, 0xAA], hdrLen := 12 } : TxUnit)] } } : State) with sec := { ({ conc with slot := { conc.slot with tx := [({ id := 7, stage := 11, kind := .data, ctx := some 3, secure := true, level := 5, octets := [1, 0x28, 5, 0, 0, 0, 0, 0xD, 0, 0, 0, 0, 0xAA], hdrLen := 12 } : TxUnit)] } } : State).sec with keys := [(0, ({ state := .ready, image := { key := List.replicate 16 0, useSe := true } } : KeySlot))] } } : State).setCtx 3 10 2 1)
     (s.txReady 11 unit charge = some u) ∧ (s.injected 11 = false) ∧ (u.secure = true) ∧ (s.txKey u = some k) ∧
     (s.keyWaits k (some unit) none = false) ∧ ((s.txSecureStart u).1 = some (k, fc))) ∧
    (let unit : Nat := 7
     let charge : Nat := 4
     let u : TxUnit := ({ id := 7, stage := 12, kind := .data, octets := [1, 2, 3] } : TxUnit)
     let s : State := ({ conc with slot := { conc.slot with tx := [({ id := 7, stage := 12, kind := .data, octets := [1, 2, 3] } : TxUnit)] } } : State)
     (s.txReady 12 unit charge = some u) ∧ (s.injected 12 = false) ∧ (u.kind ≠ .legacy) ∧
     ((s.encoded u).tooLong = false) ∧ (u.extended = false)) ∧
    (let unit : Nat := 7
     let charge : Nat := 4
     let u : TxUnit := ({ id := 7, stage := 12, kind := .data, octets := [1, 2, 3], lenLimit := 2 } : TxUnit)
     let s : State := ({ conc with slot := { conc.slot with tx := [({ id := 7, stage := 12, kind := .data, octets := [1, 2, 3], lenLimit := 2 } : TxUnit)] } } : State)
     (s.txReady 12 unit charge = some u) ∧ (u.kind ≠ .legacy) ∧ ((s.encoded u).tooLong = true)) := by
  refine ⟨?_, ?_, ?_, ?_, ?_, ?_, ?_, ?_⟩ <;> decide +kernel

/-- The hypotheses of `TransmissionsModulateLaunchAndRampDown`, each clause on a state that meets them. -/
theorem witness_TransmissionsModulateLaunchAndRampDown :
    (let unit : Nat := 7
     let charge : Nat := 4
     let u : TxUnit := ({ id := 7, stage := 13, kind := .data, bits := [true, false] } : TxUnit)
     let s : State := ({ conc with slot := { conc.slot with tx := [({ id := 7, stage := 13, kind := .data, bits := [true, false] } : TxUnit)] } } : State)
     (s.txReady 13 unit charge = some u) ∧ (s.injected 13 = false)) ∧
    (let unit : Nat := 7
     let charge : Nat := 4
     let e : Int := 0
     let u : TxUnit := ({ id := 7, stage := 14, kind := .data } : TxUnit)
     let s : State := ({ conc with slot := { conc.slot with tx := [({ id := 7, stage := 14, kind := .data } : TxUnit)] } } : State)
     (s.txReady 14 unit charge = some u) ∧ (s.injected 14 = false) ∧
     (e = (if s.on TXP_CTRL_PRECOR_EN && u.kind != .beacon && u.kind != .test then s.offsetHz u.ctx / 10 else 0))) ∧
    (let unit : Nat := 7
     let charge : Nat := 4
     let mv : Nat := 3300
     let g : Nat := 0
     let u : TxUnit := ({ id := 7, stage := 15, kind := .data, freq := 470000000, carrier := 470000000 } : TxUnit)
     let s : State := ({ (licensed modeConc) with slot := { (licensed modeConc).slot with tx := [({ id := 7, stage := 15, kind := .data, freq := 470000000, carrier := 470000000 } : TxUnit)] } } : State)
     (s.txReady 15 unit charge = some u) ∧ (s.injected 15 = false) ∧ (u.released = true) ∧ (s.airUnit = none) ∧
     (s.mode ≠ modeNode ∨ s.get MAC_STATUS_SYNC ≠ syncScan) ∧ (s.slotLen = 0 ∨ u.ordinal ≤ s.prog 25 1) ∧
     (s.slot.policy ≠ 1) ∧ ((s.sampleVsup mv).regCheck u.freq u.power u.plan = .pass g)) ∧
    (let unit : Nat := 7
     let charge : Nat := 4
     let mv : Nat := 3300
     let u : TxUnit := ({ id := 7, stage := 15, kind := .data, freq := 470000000 } : TxUnit)
     let s : State := ({ conc with slot := { conc.slot with tx := [({ id := 7, stage := 15, kind := .data, freq := 470000000 } : TxUnit)] } } : State)
     (s.txReady 15 unit charge = some u) ∧ (s.injected 15 = false) ∧ (u.released = true) ∧ (s.airUnit = none) ∧
     (s.mode ≠ modeNode ∨ s.get MAC_STATUS_SYNC ≠ syncScan) ∧ (s.slotLen = 0 ∨ u.ordinal ≤ s.prog 25 1) ∧
     ((s.sampleVsup mv).regCheck u.freq u.power u.plan = .channel none)) ∧
    (let v : Word := 0x04000800#32
     let s : State := conc
     (s.mode ≠ modeCompat) ∧ (txProfOk v.toNat = true)) ∧
    (let v : Word := 0#32
     let s : State := conc
     (s.mode ≠ modeCompat) ∧ (txProfOk v.toNat = false)) ∧
    (let u : TxUnit := ({ id := 7, stage := 15, kind := .data, phase := .locked } : TxUnit)
     let s : State := ({ conc with slot := { conc.slot with tx := [({ id := 7, stage := 15, kind := .data, phase := .locked } : TxUnit)] } } : State)
     (s.airUnit = some u) ∧ (u.phase = .locked)) ∧
    (let u : TxUnit := ({ id := 7, stage := 15, kind := .data, phase := .ramp, desc := some 5 } : TxUnit)
     let s : State := ({ conc with slot := { conc.slot with tx := [({ id := 7, stage := 15, kind := .data, phase := .ramp, desc := some 5 } : TxUnit)] } } : State)
     (s.airUnit = some u) ∧ (u.phase = .ramp)) ∧
    (let u : TxUnit := ({ id := 7, stage := 15, kind := .data, phase := .tx } : TxUnit)
     let s : State := ({ conc with slot := { conc.slot with tx := [({ id := 7, stage := 15, kind := .data, phase := .tx } : TxUnit)] } } : State)
     (s.airUnit = some u) ∧ (u.phase = .tx) ∧ (u.owed = 0)) ∧
    (let u : TxUnit := ({ id := 7, stage := 15, kind := .data, phase := .rampDown, desc := some 5 } : TxUnit)
     let s : State := ({ conc with slot := { conc.slot with tx := [({ id := 7, stage := 15, kind := .data, phase := .rampDown, desc := some 5 } : TxUnit)] } } : State)
     (s.airUnit = some u) ∧ (u.phase = .rampDown) ∧ (u.kind = .data) ∧ (u.aborted = false) ∧ (u.noAr = true)) ∧
    (let levels : List Int := (List.replicate 256 (10 : Int))
     let u : TxUnit := ({ id := 7, stage := 15, kind := .data, phase := .tx, mask := [(100, 40), (200, 80)] } : TxUnit)
     let s : State := ({ conc with slot := { conc.slot with tx := [({ id := 7, stage := 15, kind := .data, phase := .tx, mask := [(100, 40), (200, 80)] } : TxUnit)] } } : State)
     (s.airUnit = some u) ∧ (u.phase = .tx) ∧ (u.aborted = false) ∧ (maskExceeded u.mask levels = true)) := by
  refine ⟨?_, ?_, ?_, ?_, ?_, ?_, ?_, ?_, ?_, ?_, ?_⟩ <;> decide +kernel

/-- The hypotheses of `ProgramStoreCommands`, each clause on a state that meets them. -/
theorem witness_ProgramStoreCommands :
    (let s : State := conc
     (s.mode ≠ modeCompat) ∧ (s.refFailed = false) ∧ (s.standby ≠ sbChecking) ∧ (s.standby ≠ sbArmed)) ∧
    (let s : State := (conc.put SLE_STATUS_STANDBY 4)
     (s.mode ≠ modeCompat) ∧ (s.refFailed = false) ∧ (s.standby = sbChecking ∨ s.standby = sbArmed)) ∧
    (let s : State := (conc.put SLE_STATUS_STANDBY 1)
     (s.mode ≠ modeCompat) ∧ (s.refFailed = false) ∧ (s.standby = sbWritten)) ∧
    (let s : State := conc
     (s.mode ≠ modeCompat) ∧ (s.refFailed = false) ∧ (s.standby ≠ sbWritten)) ∧
    (let r : Option LoadResult := (some { code := 1 } : Option LoadResult)
     let s : State := (conc.put SLE_STATUS_STANDBY 2)
     (s.standby = sbChecking) ∧ (s.loadCheck s.standbyBuf = r)) ∧
    (let s : State := ({ (conc.put SLE_STATUS_STANDBY 3) with slot := { (conc.put SLE_STATUS_STANDBY 3).slot with buf1 := image 1 1000000 } } : State)
     (s.mode ≠ modeCompat) ∧ (s.refFailed = false) ∧ (s.standby = sbChecked) ∧ (s.mayArm = true)) ∧
    (let s : State := conc
     (s.mode ≠ modeCompat) ∧ (s.refFailed = false) ∧ (s.standby ≠ sbChecked)) ∧
    (let s : State := ({ (conc.put SLE_STATUS_STANDBY 4) with slot := { (conc.put SLE_STATUS_STANDBY 4).slot with armed := some (9, 2) } } : State)
     (s.mode ≠ modeCompat) ∧ (s.refFailed = false) ∧ (s.standby = sbArmed)) ∧
    (let s : State := ({ (conc.put SLE_STATUS_STANDBY 3) with slot := { (conc.put SLE_STATUS_STANDBY 3).slot with buf1 := image 1 1000000 } } : State)
     (s.mode ≠ modeCompat) ∧ (s.refFailed = false) ∧ (s.standby ≠ sbChecking)) ∧
    (let s : State := running
     (s.mode ≠ modeCompat) ∧ (s.refFailed = false) ∧ (s.running = true)) := by
  refine ⟨?_, ?_, ?_, ?_, ?_, ?_, ?_, ?_, ?_, ?_⟩ <;> decide +kernel

/-- The hypotheses of `SlotBoundariesAndLockstep`, each clause on a state that meets them. -/
theorem witness_SlotBoundariesAndLockstep :
    (let s : State := ({ running with tnet := 1000000, slot := { running.slot with boundary := 1000000 } } : State)
     (s.running = true) ∧ (s.slotLen ≠ 0) ∧ (s.slot.coarse = none) ∧ (s.on SLE_STATUS_STOP_PEND = false) ∧
     (s.dueSwap ((s.slot.slotAsn + 1) % 2 ^ 40) false = none)) ∧
    (let s : State := (({ running with tnet := 1000000, slot := { running.slot with boundary := 1000000 } } : State)).put SLE_STATUS_STOP_PEND 1
     (s.running = true) ∧ (s.slotLen ≠ 0) ∧ (s.on SLE_STATUS_STOP_PEND = true)) ∧
    (let s : State := ({ ({ (conc.put SLE_STATUS_STANDBY 4) with slot := { (conc.put SLE_STATUS_STANDBY 4).slot with buf1 := image 1 1000000 } } : State) with slot := { ({ (conc.put SLE_STATUS_STANDBY 4) with slot := { (conc.put SLE_STATUS_STANDBY 4).slot with buf1 := image 1 1000000 } } : State).slot with armed := some (0, 0) } } : State)
     (s.running = false) ∧ (s.standby = sbArmed)) ∧
    (let n : Nat := 7
     let u : RxUnit := ({ id := 7, stage := 2, det := ({ place := 3, profile := 0, sync := .nativeUncoded, errs := 0, tSfd := 5, rssi := 0, offset := 0, dgain := 0, fdx := false, profWord := 0x7FF00000, scan := false } : DetRec) } : RxUnit)
     let s : State := ({ running with slot := { running.slot with rx := [({ id := 7, stage := 2, det := ({ place := 3, profile := 0, sync := .nativeUncoded, errs := 0, tSfd := 5, rssi := 0, offset := 0, dgain := 0, fdx := false, profWord := 0x7FF00000, scan := false } : DetRec) } : RxUnit)] } } : State)
     (s.rxUnit n = some u)) ∧
    (let n : Nat := 7
     let u : TxUnit := ({ id := 7, stage := 11, kind := .data, desc := some 5 } : TxUnit)
     let s : State := ({ running with slot := { running.slot with tx := [({ id := 7, stage := 11, kind := .data, desc := some 5 } : TxUnit)] } } : State)
     (s.rxUnit n = none) ∧ (s.txUnit n = some u) ∧ (u.phase = .pipeline) ∧ (u.kind = .data)) ∧
    (let v : Word := 0x200#32
     let s : State := testMode
     (s.mode = modeTest) ∧ (bit v.toNat 9 = true)) ∧
    (let v : Word := 0x35#32
     let s : State := testMode
     (s.mode = modeTest) ∧ (bit v.toNat 9 = false)) ∧
    (let s : State := ({ conc with mac := { conc.mac with rateAcc := 16000000001 } } : State)
     ((16000000000 : Int) ≤ s.mac.rateAcc)) ∧
    (let s : State := ({ conc with mac := { conc.mac with rateAcc := -16000000001 } } : State)
     (s.mac.rateAcc ≤ -(16000000000 : Int))) := by
  refine ⟨?_, ?_, ?_, ?_, ?_, ?_, ?_, ?_, ?_⟩ <;> decide +kernel

/-- The hypotheses of `ContextsQueuesAndTheDeliveryRing`, each clause on a state that meets them. -/
theorem witness_ContextsQueuesAndTheDeliveryRing :
    (let s : State := running
     (s.on MAC_CTXSTAT_BUSY = false) ∧ (s.running = true)) ∧
    (let s : State := ({ conc with mac := { conc.mac with ctxBuf := List.replicate 64 0xFF } } : State)
     (s.on MAC_CTXSTAT_BUSY = false) ∧ (s.running = false)) ∧
    (let s : State := (conc.put MAC_CTXSTAT_BUSY 1)
     (s.on MAC_CTXSTAT_BUSY = true)) ∧
    (let s : State := conc
     (s.on MAC_CTXSTAT_BUSY = false)) ∧
    (let s : State := running
     (s.on MAC_CTXSTAT_BUSY = false) ∧ (s.running = true)) ∧
    (let s : State := ({ (conc.setCtx 3 10 2 5) with mac := { conc.mac with pending := [({ desc := 5, ctx := 3, since := 0 } : PendEntry)] } } : State)
     (s.on MAC_CTXSTAT_BUSY = false) ∧ (s.running = false)) ∧
    (let i : Fin 4096 := 3000
     let s : State := (((conc.setDesc 3000 4 4 0x24080000).setDesc 3000 0 2 20).setDesc 3000 2 2 3)
     (s.pushInvalid i = false) ∧ (s.desc i 8 1 ≠ 0xFE)) ∧
    (let i : Fin 4096 := 3000
     let s : State := ((((conc.setDesc 3000 4 4 0x24080000).setDesc 3000 0 2 20).setDesc 3000 2 2 3).setDesc 3000 8 1 0xFE).setCtx 3 10 2 5
     (s.pushInvalid i = false) ∧ (s.desc i 8 1 = 0xFE) ∧ (s.desc i 2 2 < 1024) ∧ (s.ctxFlag (s.desc i 2 2) 2 = true) ∧
     ((s.mac.pending.filter (fun e => e.ctx == s.desc i 2 2)).length < 4) ∧ (s.mac.pending.length < 2048)) ∧
    (let i : Fin 4096 := 1
     let s : State := conc
     (s.pushInvalid i = true)) ∧
    (let rd : Nat := 2
     let s : State := (conc.put MAC_DQ_WR 5)
     (rd < s.get MAC_FBCFG_DQ_SIZE) ∧
     ((rd + s.get MAC_FBCFG_DQ_SIZE - s.get MAC_DQ_RD) % s.get MAC_FBCFG_DQ_SIZE ≤ s.dqLevel)) ∧
    (let s : State := conc
     (s.on MAC_LOCK_LOCK = false) ∧ (s.running = false) ∧ (s.dqLevel = 0) ∧ (s.mac.queue = []) ∧ (s.mac.pending = []) ∧
     (s.slot.tx.any (fun u => u.desc.isSome) = false)) ∧
    (let s : State := running
     (s.on MAC_LOCK_LOCK = false) ∧ (s.running = true)) := by
  refine ⟨?_, ?_, ?_, ?_, ?_, ?_, ?_, ?_, ?_, ?_, ?_, ?_⟩ <;> decide +kernel

/-- The hypotheses of `AcknowledgementsSynchronisationAndModes`, each clause on a state that meets them. -/
theorem witness_AcknowledgementsSynchronisationAndModes :
    ((((({ conc with slot := { conc.slot with tx := [({ id := 7, stage := 15, kind := .data, phase := .ackWait, desc := some 5, ctx := some 3, seq := 5 } : TxUnit)], windows := [({ lane := 3, ctx := some 3, timekeep := false, kind := 6, gEff := 0, isOpen := true, ackOf := some 7 } : RxWindow)] } } : State).setMiss 3 4)).mode ≠ modeCompat) ∧
     (((({ conc with slot := { conc.slot with tx := [({ id := 7, stage := 15, kind := .data, phase := .ackWait, desc := some 5, ctx := some 3, seq := 5 } : TxUnit)], windows := [({ lane := 3, ctx := some 3, timekeep := false, kind := 6, gEff := 0, isOpen := true, ackOf := some 7 } : RxWindow)] } } : State).setMiss 3 4)).ackWindow ((3 : Fin 128)) = some ((({ lane := 3, ctx := some 3, timekeep := false, kind := 6, gEff := 0, isOpen := true, ackOf := some 7 } : RxWindow)), (({ id := 7, stage := 15, kind := .data, phase := .ackWait, desc := some 5, ctx := some 3, seq := 5 } : TxUnit)))) ∧
     (parseHeader (([0x02, 0x20, 0x05] : List Byte)) = some ((((parseHeader [0x02, 0x20, 0x05]).getD {}) : MacHeader))) ∧
     (((((parseHeader [0x02, 0x20, 0x05]).getD {}) : MacHeader)).frameType = 2) ∧
     (((((parseHeader [0x02, 0x20, 0x05]).getD {}) : MacHeader)).iesBad = false) ∧
     (((((parseHeader [0x02, 0x20, 0x05]).getD {}) : MacHeader)).seq = some (({ id := 7, stage := 15, kind := .data, phase := .ackWait, desc := some 5, ctx := some 3, seq := 5 } : TxUnit)).seq) ∧
     (((((parseHeader [0x02, 0x20, 0x05]).getD {}) : MacHeader)).secured = false) ∧
     ((({ id := 7, stage := 15, kind := .data, phase := .ackWait, desc := some 5, ctx := some 3, seq := 5 } : TxUnit)).kind = .data) ∧
     ((({ id := 7, stage := 15, kind := .data, phase := .ackWait, desc := some 5, ctx := some 3, seq := 5 } : TxUnit)).desc = some ((5 : Nat))) ∧
     ((({ id := 7, stage := 15, kind := .data, phase := .ackWait, desc := some 5, ctx := some 3, seq := 5 } : TxUnit)).ctx = some ((3 : Nat))) ∧
     (((3 : Nat)) < 1024)) ∧
    (((({ conc with slot := { conc.slot with tx := [({ id := 7, stage := 15, kind := .data, phase := .ackWait, desc := some 5, ctx := some 3, seq := 5 } : TxUnit)], windows := [({ lane := 3, ctx := some 3, timekeep := false, kind := 6, gEff := 0, isOpen := true, ackOf := some 7 } : RxWindow)] } } : State)).mode ≠ modeCompat)) ∧
    ((((({ conc with slot := { conc.slot with tx := [({ id := 7, stage := 15, kind := .data, phase := .ackWait, desc := some 5, ctx := some 3, seq := 5 } : TxUnit)], windows := [({ lane := 3, ctx := some 3, timekeep := false, kind := 6, gEff := 0, isOpen := true, ackOf := some 7 } : RxWindow)] } } : State).setDesc 5 17 1 1)).ackWindow ((3 : Fin 128)) = some ((({ lane := 3, ctx := some 3, timekeep := false, kind := 6, gEff := 0, isOpen := true, ackOf := some 7 } : RxWindow)), (({ id := 7, stage := 15, kind := .data, phase := .ackWait, desc := some 5, ctx := some 3, seq := 5 } : TxUnit)))) ∧
     ((({ id := 7, stage := 15, kind := .data, phase := .ackWait, desc := some 5, ctx := some 3, seq := 5 } : TxUnit)).kind = .data) ∧
     ((({ id := 7, stage := 15, kind := .data, phase := .ackWait, desc := some 5, ctx := some 3, seq := 5 } : TxUnit)).desc = some ((5 : Nat))) ∧
     ((({ id := 7, stage := 15, kind := .data, phase := .ackWait, desc := some 5, ctx := some 3, seq := 5 } : TxUnit)).ctx.all (fun c => decide (c < 1024)) = true)) ∧
    (let c : Nat := 3
     let s : State := (((node.setCtx 3 10 2 3).put MAC_STATUS_SYNC 1)).setMiss 3 3
     (s.follows = true) ∧ (s.parent = some c) ∧ (s.get MAC_STATUS_SYNC = syncSynced) ∧ (3 ≤ s.ctxMiss c)) ∧
    (let s : State := ((node.setCtx 3 10 2 3).put MAC_STATUS_SYNC 2)
     (s.follows = true) ∧ (s.get MAC_STATUS_SYNC = syncAdrift)) ∧
    (let s : State := ((node.setCtx 3 10 2 3).put MAC_STATUS_SYNC 3)
     (s.mode = modeNode) ∧ (s.get MAC_STATUS_SYNC = syncScan)) ∧
    (let s : State := ((node.setCtx 3 10 2 3).put MAC_STATUS_SYNC 1)
     (s.follows = true)) ∧
    (let s : State := ((node.setCtx 3 10 2 3).put MAC_STATUS_SYNC 1)
     (s.follows = true)) ∧
    (let s : State := ((node.setCtx 3 10 2 3).put MAC_STATUS_SYNC 1)
     (s.mode = modeNode) ∧ (s.parent.isSome = true)) ∧
    (let s : State := conc.put PRC_MODE_PENDING 1
     (s.on PRC_MODE_PENDING = true)) ∧
    (let v : Nat := 6
     let s : State := conc
     (s.on PRC_MODE_PENDING = false) ∧ (v = 0 ∨ 5 < v)) ∧
    (let v : Nat := 2
     let s : State := inMode 0
     (s.on PRC_MODE_PENDING = false) ∧ (1 ≤ v) ∧ (v ≤ 5) ∧ (s.mode = modeCompat)) ∧
    (let s : State := conc
     (s.on PRC_MODE_PENDING = false) ∧ (s.mode ≠ modeCompat) ∧ (s.mode ≠ modeRecovery)) ∧
    (let v : Nat := 2
     let s : State := running
     (s.on PRC_MODE_PENDING = false) ∧ (1 ≤ v) ∧ (v ≤ 5) ∧ (v ≠ modeRecovery) ∧ (s.mode ≠ modeCompat) ∧
     (s.mode ≠ modeRecovery)) ∧
    (let m : Nat := 2
     let s : State := ({ conc with slot := { conc.slot with modeReq := some 2 } } : State)
     (s.slot.modeReq = some m) ∧ (s.running = false)) := by
  refine ⟨?_, ?_, ?_, ?_, ?_, ?_, ?_, ?_, ?_, ?_, ?_, ?_, ?_, ?_, ?_⟩ <;> decide +kernel

/-- The hypotheses of `KeyCommandsAndGeneralRequests`, each clause on a state that meets them. -/
theorem witness_KeyCommandsAndGeneralRequests :
    (let p : Fin 8 := 1
     let s : State := ({ (conc.put (SEC_P_KCFG_TXLVL 1) 5) with sec := { (conc.put (SEC_P_KCFG_TXLVL 1) 5).sec with keys := [(0, ({ state := .ready, owner := 1, image := { key := List.replicate 16 0, useGen := true } } : KeySlot))] } } : State)
     (s.refFailed = false) ∧ ((s.key (s.get (SEC_P_KSEL_SLOT p))).owner = p.val) ∧ (keyLegal (s.stagedKey p) p = true) ∧
     ((s.keyUnits (s.get (SEC_P_KSEL_SLOT p))).isEmpty = true) ∧
     ((s.keyPages (s.get (SEC_P_KSEL_SLOT p))).isEmpty = true) ∧ ((s.key (s.get (SEC_P_KSEL_SLOT p))).pend = none)) ∧
    (let p : Fin 8 := 2
     let s : State := conc
     (s.refFailed = false) ∧ ((s.key (s.get (SEC_P_KSEL_SLOT p))).owner ≠ p.val)) ∧
    (let p : Fin 8 := 1
     let s : State := ({ conc with sec := { conc.sec with keys := [(0, ({ state := .ready, owner := 1, image := { key := List.replicate 16 0, useGen := true } } : KeySlot))] } } : State)
     (s.refFailed = false) ∧ ((s.key (s.get (SEC_P_KSEL_SLOT p))).owner = p.val) ∧
     ((s.keyUnits (s.get (SEC_P_KSEL_SLOT p))).isEmpty = true) ∧
     ((s.keyPages (s.get (SEC_P_KSEL_SLOT p))).isEmpty = true) ∧ ((s.key (s.get (SEC_P_KSEL_SLOT p))).pend = none)) ∧
    (let i : Fin 256 := 0
     let w : KeyPend := ({ image := none, units := [], pages := [1] } : KeyPend)
     let s : State := ({ conc with sec := { conc.sec with keys := [(0, { ({ state := .ready, owner := 1, image := { key := List.replicate 16 0, useGen := true } } : KeySlot) with pend := some ({ image := none, units := [], pages := [1] } : KeyPend) })] } } : State)
     ((s.key i).pend = some w) ∧ (w.image = none) ∧ ((s.keyUnits i).any w.units.contains = false) ∧
     ((s.keyPages i).any w.pages.contains = false)) ∧
    (let v : Word := 2#32
     let s : State := ({ conc with sec := { conc.sec with keys := [(0, ({ state := .ready, owner := 1, image := { key := List.replicate 16 0, useGen := true } } : KeySlot))] } } : State)
     ((s.key (s.get SEC_KSEL_SLOT)).owner ≠ slice v.toNat 0 3)) ∧
    (let i : Fin 256 := 0
     let b : Nat := 11
     let tx : Bool := false
     let s : State := ({ conc with sec := { conc.sec with keys := [(0, ({ state := .ready, owner := 1, image := { limit := 100 }, count := 90 } : KeySlot))] } } : State)
     ((s.key i).state = .ready) ∧
     ((s.key i).image.limit < (s.key i).count + b ∨ (s.key i).count = (s.key i).image.limit ∨ (tx = true ∧
     (s.key i).txfc = 0xFFFFFFFF))) ∧
    (let p : Fin 8 := 1
     let s : State := ({ conc with sec := { conc.sec with keys := [(0, ({ state := .ready, owner := 1, image := { key := List.replicate 16 0, useGen := true } } : KeySlot))], pages := [(1, { reqs := [({ addr := 0x24095000, started := true, verdict := 1, blocks := 40 } : GenReq)], lane := some 15 })] } } : State)
     (s.refFailed = false) ∧ ((s.page p).reqs.length < 4)) ∧
    (let p : Fin 8 := 1
     let s : State := ({ conc with sec := { conc.sec with keys := [(0, ({ state := .ready, owner := 1, image := { key := List.replicate 16 0, useGen := true } } : KeySlot))], pages := [(1, { reqs := List.replicate 4 ({ addr := 0x24095000, started := true, verdict := 1, blocks := 40 } : GenReq), lane := some 15 })] } } : State)
     (s.refFailed = false) ∧ (4 ≤ (s.page p).reqs.length)) ∧
    (let p : Fin 8 := 1
     let r : GenReq := ({ addr := 0x24095000, started := true, verdict := 1, blocks := 40 } : GenReq)
     let rs : List GenReq := []
     let l : Nat := 15
     let s : State := ({ conc with sec := { conc.sec with keys := [(0, ({ state := .ready, owner := 1, image := { key := List.replicate 16 0, useGen := true } } : KeySlot))], pages := [(1, { reqs := [({ addr := 0x24095000, started := true, verdict := 1, blocks := 40 } : GenReq)], lane := some 15 })] } } : State)
     ((s.page p).reqs = r :: rs) ∧ ((s.page p).lane = some l) ∧ (r.started = true) ∧ (r.verdict = cipherOk) ∧
     (16 * (r.chunks + 1) < r.blocks)) ∧
    (let p : Fin 8 := 1
     let r : GenReq := ({ addr := 0x24095000, started := true, verdict := 8, blocks := 4 } : GenReq)
     let rs : List GenReq := []
     let l : Nat := 15
     let s : State := ({ conc with sec := { conc.sec with keys := [(0, ({ state := .ready, owner := 1, image := { key := List.replicate 16 0, useGen := true } } : KeySlot))], pages := [(1, { reqs := [({ addr := 0x24095000, started := true, verdict := 8, blocks := 4 } : GenReq)], lane := some 15 })] } } : State)
     ((s.page p).reqs = r :: rs) ∧ ((s.page p).lane = some l) ∧ (r.verdict ≠ cipherOk)) ∧
    (let p : Fin 8 := 1
     let r : GenReq := ({ addr := 0x24095000, started := true, verdict := 1, blocks := 4 } : GenReq)
     let rs : List GenReq := []
     let l : Nat := 15
     let s : State := ({ conc with sec := { conc.sec with keys := [(0, ({ state := .ready, owner := 1, image := { key := List.replicate 16 0, useGen := true } } : KeySlot))], pages := [(1, { reqs := [({ addr := 0x24095000, started := true, verdict := 1, blocks := 4 } : GenReq)], lane := some 15 })] } } : State)
     ((s.page p).reqs = r :: rs) ∧ ((s.page p).lane = some l) ∧ (r.verdict = cipherOk) ∧
     (r.blocks ≤ 16 * (r.chunks + 1)) ∧ (r.host = false) ∧
     (s.poisonedIn (leAt (s.reqImage r) 8 4) (reqSrcLen (s.reqImage r)) = false)) ∧
    (let p : Fin 8 := 1
     let s : State := ({ conc with sec := { conc.sec with keys := [(0, ({ state := .ready, owner := 1, image := { key := List.replicate 16 0, useGen := true } } : KeySlot))], pages := [(1, { reqs := [({ addr := 0x24095000, started := true, verdict := 1, blocks := 40 } : GenReq)], lane := some 15 })] } } : State)
     ((s.page p).reqs ≠ [])) ∧
    (let l : Fin 16 := 15
     let p : Nat := 1
     let r : GenReq := ({ addr := 0x24095000, started := true, verdict := 1, blocks := 40 } : GenReq)
     let rs : List GenReq := []
     let s : State := ({ conc with sec := { conc.sec with keys := [(0, ({ state := .ready, owner := 1, image := { key := List.replicate 16 0, useGen := true } } : KeySlot))], pages := [(1, { reqs := [({ addr := 0x24095000, started := true, verdict := 1, blocks := 40 } : GenReq)], lane := some 15 })] } } : State)
     (s.laneUnit l = none) ∧ ((List.range 8).find? (fun q => (s.page q).lane == some l.val) = some p) ∧
     ((s.page p).reqs = r :: rs)) ∧
    (((({ ({ conc with slot := { conc.slot with rx := [({ id := 7, stage := 6, det := ({ place := 3, profile := 0, sync := .nativeUncoded, errs := 0, tSfd := 5, rssi := 0, offset := 0, dgain := 0, fdx := false, profWord := 0x7FF00000, scan := false } : DetRec), ctx := some 3, hdr := { secured := true, level := 5 } } : RxUnit)] } } : State) with sec := { ({ conc with slot := { conc.slot with rx := [({ id := 7, stage := 6, det := ({ place := 3, profile := 0, sync := .nativeUncoded, errs := 0, tSfd := 5, rssi := 0, offset := 0, dgain := 0, fdx := false, profWord := 0x7FF00000, scan := false } : DetRec), ctx := some 3, hdr := { secured := true, level := 5 } } : RxUnit)] } } : State).sec with reserve := 8 } } : State)).laneUnit ((0 : Fin 16)) = some ((7 : Nat))) ∧
     ((({ ({ conc with slot := { conc.slot with rx := [({ id := 7, stage := 6, det := ({ place := 3, profile := 0, sync := .nativeUncoded, errs := 0, tSfd := 5, rssi := 0, offset := 0, dgain := 0, fdx := false, profWord := 0x7FF00000, scan := false } : DetRec), ctx := some 3, hdr := { secured := true, level := 5 } } : RxUnit)] } } : State) with sec := { ({ conc with slot := { conc.slot with rx := [({ id := 7, stage := 6, det := ({ place := 3, profile := 0, sync := .nativeUncoded, errs := 0, tSfd := 5, rssi := 0, offset := 0, dgain := 0, fdx := false, profWord := 0x7FF00000, scan := false } : DetRec), ctx := some 3, hdr := { secured := true, level := 5 } } : RxUnit)] } } : State).sec with reserve := 8 } } : State)).rxUnit ((7 : Nat)) = some (({ id := 7, stage := 6, det := ({ place := 3, profile := 0, sync := .nativeUncoded, errs := 0, tSfd := 5, rssi := 0, offset := 0, dgain := 0, fdx := false, profWord := 0x7FF00000, scan := false } : DetRec), ctx := some 3, hdr := { secured := true, level := 5 } } : RxUnit))) ∧
     ((({ id := 7, stage := 6, det := ({ place := 3, profile := 0, sync := .nativeUncoded, errs := 0, tSfd := 5, rssi := 0, offset := 0, dgain := 0, fdx := false, profWord := 0x7FF00000, scan := false } : DetRec), ctx := some 3, hdr := { secured := true, level := 5 } } : RxUnit)).hdr.secured = true) ∧
     ((({ id := 7, stage := 6, det := ({ place := 3, profile := 0, sync := .nativeUncoded, errs := 0, tSfd := 5, rssi := 0, offset := 0, dgain := 0, fdx := false, profWord := 0x7FF00000, scan := false } : DetRec), ctx := some 3, hdr := { secured := true, level := 5 } } : RxUnit)).ctx.bind (fun c => (({ ({ conc with slot := { conc.slot with rx := [({ id := 7, stage := 6, det := ({ place := 3, profile := 0, sync := .nativeUncoded, errs := 0, tSfd := 5, rssi := 0, offset := 0, dgain := 0, fdx := false, profWord := 0x7FF00000, scan := false } : DetRec), ctx := some 3, hdr := { secured := true, level := 5 } } : RxUnit)] } } : State) with sec := { ({ conc with slot := { conc.slot with rx := [({ id := 7, stage := 6, det := ({ place := 3, profile := 0, sync := .nativeUncoded, errs := 0, tSfd := 5, rssi := 0, offset := 0, dgain := 0, fdx := false, profWord := 0x7FF00000, scan := false } : DetRec), ctx := some 3, hdr := { secured := true, level := 5 } } : RxUnit)] } } : State).sec with reserve := 8 } } : State)).selectKey c (({ id := 7, stage := 6, det := ({ place := 3, profile := 0, sync := .nativeUncoded, errs := 0, tSfd := 5, rssi := 0, offset := 0, dgain := 0, fdx := false, profWord := 0x7FF00000, scan := false } : DetRec), ctx := some 3, hdr := { secured := true, level := 5 } } : RxUnit)).hdr) = some ((0 : Nat)))) ∧
    (let d : List Byte := []
     (d.length < 40 ∨ reqIsCcm d = false ∨ leAt d 8 8 ≠ 0 ∨ d.length ≠ 40 + reqSrcLen d)) ∧
    (let d : List Byte := ([1, 0, 5, 0, 0, 0, 4, 0] ++ List.replicate 32 0 ++ [1, 2, 3, 4] : List Byte)
     let s : State := conc
     (s.refFailed = false) ∧ (40 ≤ d.length) ∧ (reqIsCcm d = true) ∧ (leAt d 8 8 = 0) ∧ (d.length = 40 + reqSrcLen d) ∧
     ((s.page 3).reqs.length < 4) ∧ ((s.page 3).reqs.any GenReq.host = false)) ∧
    (let d : List Byte := ([1, 0, 5, 0, 0, 0, 4, 0] ++ List.replicate 32 0 ++ [1, 2, 3, 4] : List Byte)
     let s : State := ({ conc with sec := { conc.sec with keys := [(0, ({ state := .ready, owner := 1, image := { key := List.replicate 16 0, useGen := true } } : KeySlot))], pages := [(3, { reqs := [{ addr := 0, host := true }], lane := some 15 })] } } : State)
     (40 ≤ d.length) ∧ (reqIsCcm d = true) ∧ (leAt d 8 8 = 0) ∧ (d.length = 40 + reqSrcLen d) ∧
     ((s.page 3).reqs.any GenReq.host = true)) := by
  refine ⟨?_, ?_, ?_, ?_, ?_, ?_, ?_, ?_, ?_, ?_, ?_, ?_, ?_, ?_, ?_, ?_, ?_⟩ <;> decide +kernel

/-- The hypotheses of `AcquisitionTrackingAndFrontEndMonitors`, each clause on a state that meets them. -/
theorem witness_AcquisitionTrackingAndFrontEndMonitors :
    (let s : State := conc.put GNS_CTRL_EN 1
     (s.on GNS_CTRL_EN = true) ∧ (s.gnss.acqCmds.length < 8)) ∧
    (let s : State := ({ (conc.put GNS_CTRL_EN 1) with gnss := { (conc.put GNS_CTRL_EN 1).gnss with acqCmds := List.replicate 8 [] } } : State)
     (s.on GNS_CTRL_EN = true) ∧ (8 ≤ s.gnss.acqCmds.length)) ∧
    (let s : State := ({ (conc.put GNS_CTRL_EN 1) with gnss := { (conc.put GNS_CTRL_EN 1).gnss with acqCmds := [[], []] } } : State)
     (s.gnss.acqCmds ≠ [])) ∧
    (let c : List Byte := (List.replicate 16 0 : List Byte)
     let s : State := ({ (conc.put GNS_CTRL_EN 1) with gnss := { (conc.put GNS_CTRL_EN 1).gnss with acqCmds := [(List.replicate 16 0 : List Byte)] } } : State)
     let cs : List (List Byte) := []
     (s.gnss.acqCmds = c :: cs) ∧ (s.gnss.acqResults.length < 8) ∧ (acqOk c = false)) ∧
    (let c : List Byte := ([0, 1, 1, 1, 0, 0, 100, 0, 0, 0, 255, 3, 10, 0, 0, 0] : List Byte)
     let s : State := ({ (conc.put GNS_CTRL_EN 1) with gnss := { (conc.put GNS_CTRL_EN 1).gnss with acqCmds := [([0, 1, 1, 1, 0, 0, 100, 0, 0, 0, 255, 3, 10, 0, 0, 0] : List Byte)] } } : State)
     let ratio : Nat := 9
     let cs : List (List Byte) := []
     (s.gnss.acqCmds = c :: cs) ∧ (s.gnss.acqResults.length < 8) ∧ (acqOk c = true) ∧ (ratio < leAt c 12 1)) ∧
    (let c : List Byte := ([0, 1, 1, 1, 0, 0, 100, 0, 0, 0, 255, 3, 10, 1, 5, 0] : List Byte)
     let s : State := ({ (conc.put GNS_CTRL_EN 1) with gnss := { (conc.put GNS_CTRL_EN 1).gnss with acqCmds := [([0, 1, 1, 1, 0, 0, 100, 0, 0, 0, 255, 3, 10, 1, 5, 0] : List Byte)] } } : State)
     let ratio : Nat := 12
     let cs : List (List Byte) := []
     (s.gnss.acqCmds = c :: cs) ∧ (s.gnss.acqResults.length < 8) ∧ (acqOk c = true) ∧ (leAt c 12 1 ≤ ratio) ∧
     (bit (leAt c 13 1) 0 = true) ∧ (s.on (GNS_CCFG_EN (leAt c 14 1)) = false)) ∧
    (let n : Fin 96 := 5
     let s : State := (((conc.put GNS_CTRL_EN 1).put (GNS_CCFG_EN 5) 1))
     (s.on GNS_CTRL_EN = true) ∧ (s.on (GNS_CCFG_EN n) = true)) ∧
    (let n : Fin 96 := 5
     let s : State := ({ (((conc.put GNS_CTRL_EN 1).put (GNS_CCFG_EN 5) 1)) with gnss := { (((conc.put GNS_CTRL_EN 1).put (GNS_CCFG_EN 5) 1)).gnss with chans := [(5, { windowSum := 2000000000, windowBlocks := 20, losses := 2 })] } } : State)
     (s.on (GNS_CCFG_EN n) = true) ∧ (20 ≤ (s.chan n).windowBlocks) ∧
     (s.get GNS_LOCKCFG_LOSS_THR ≤ ((s.chan n).windowSum / (s.chan n).windowBlocks / 65536))) ∧
    (let n : Fin 96 := 5
     let s : State := ({ (((conc.put GNS_CTRL_EN 1).put (GNS_CCFG_EN 5) 1)) with gnss := { (((conc.put GNS_CTRL_EN 1).put (GNS_CCFG_EN 5) 1)).gnss with chans := [(5, { windowSum := 20, windowBlocks := 20, losses := 2 })] } } : State)
     (s.on (GNS_CCFG_EN n) = true) ∧ (20 ≤ (s.chan n).windowBlocks) ∧
     (((s.chan n).windowSum / (s.chan n).windowBlocks / 65536) < s.get GNS_LOCKCFG_LOSS_THR) ∧
     (s.get GNS_LOCKCFG_LOSS_N ≤ (s.chan n).losses + 1) ∧ (s.on (GNS_CCFG_LOST n) = false)) ∧
    (let s : State := (((conc.put GNS_CTRL_EN 1).put (GNS_CCFG_EN 5) 1))
     (s.on GNS_CTRL_EN = true)) ∧
    (let levels : List Int := (List.replicate 3 0 ++ [90])
     let c : Nat × Int := (3, 90)
     let s : State := ((((((conc.put GNS_CTRL_EN 1).put (GNS_CCFG_EN 5) 1)).put (GNS_NOTCH_EN 0) 1).put (GNS_NOTCH_AUTO 0) 1).put (GNS_NOTCH_NOTCH_THR 0) 10)
     (s.on GNS_CTRL_EN = true) ∧ (s.on (GNS_NOTCH_EN 0) = true) ∧ (s.on (GNS_NOTCH_AUTO 0) = true) ∧
     ((s.gnss.notches.getD 0 {}).holds = false) ∧ (candidates levels (s.get (GNS_NOTCH_NOTCH_THR 0)) = [c])) ∧
    ((((((conc.put GNS_CTRL_EN 1).put (GNS_CCFG_EN 5) 1))).on GNS_CTRL_EN = true) ∧
     (((200 : Nat)) = (if (((Config.p8Ref + 200) : Int)) - Config.p8Ref < 0 then 0 else if 255 < (((Config.p8Ref + 200) : Int)) - Config.p8Ref then 255 else ((((Config.p8Ref + 200) : Int)) - Config.p8Ref).toNat))) ∧
    (let s : State := (((conc.put GNS_CTRL_EN 1).put (GNS_CCFG_EN 5) 1))
     (s.on GNS_CTRL_EN = true) ∧ (s.on GNS_CTRL_AGC_AUTO = true) ∧ (s.get GNS_GAIN_GAIN < 64)) ∧
    (let per : Nat := 100000000
     let s : State := ({ (((conc.put GNS_CTRL_EN 1).put (GNS_CCFG_EN 5) 1)) with tnet := 250000000 } : State)
     (s.on GNS_CTRL_EN = true) ∧ (per = s.get GNS_MEASCFG_PERIOD * 10000000) ∧ (per ≠ 0) ∧
     (s.gnss.lastEpoch.all (fun e => decide (e < s.tnet / per * per)) = true)) := by
  refine ⟨?_, ?_, ?_, ?_, ?_, ?_, ?_, ?_, ?_, ?_, ?_, ?_, ?_, ?_⟩
  · decide +kernel
  · decide +kernel
  · decide +kernel
  · decide +kernel
  · decide +kernel
  · decide +kernel
  · decide +kernel
  · decide +kernel
  · decide +kernel
  · decide +kernel
  · decide +kernel
  · exact ⟨by decide +kernel, by rw [show Config.p8Ref + 200 - Config.p8Ref = (200 : Int) by omega]; decide⟩
  · decide +kernel
  · decide +kernel

/-- The hypotheses of `GtimeSteeringAndTheTimePulse`, each clause on a state that meets them. -/
theorem witness_GtimeSteeringAndTheTimePulse :
    (let s : State := ((timing.put GNS_CTRL_EN 1).put GNS_GTCTRL_TIME_VALID 1)
     (s.on GNS_CTRL_EN = true)) ∧
    (let s : State := ((timing.put GNS_CTRL_EN 1).put GNS_GTCTRL_TIME_VALID 1)
     (s.on GNS_CTRL_EN = true) ∧ (s.on GNS_GTCTRL_TIME_VALID = true) ∧ (s.mac.pendCorr = 0) ∧ (s.steering = true) ∧
     (s.gnss.tnetSet = false) ∧ (s.running = false)) ∧
    (let late : Fin 13021 := 0
     let e : Int := 50
     let i : Int := 25
     let s : State := ({ ((timing.put GNS_CTRL_EN 1).put GNS_GTCTRL_TIME_VALID 1) with tnet := 1000000005, gnss := { ((timing.put GNS_CTRL_EN 1).put GNS_GTCTRL_TIME_VALID 1).gnss with tnetSet := true, gtSec := 9 } } : State)
     (s.on GNS_CTRL_EN = true) ∧ (s.on GNS_GTCTRL_TIME_VALID = true) ∧ (s.mac.pendCorr = 0) ∧ (s.steering = true) ∧
     (s.gnss.tnetSet = true) ∧
     (e = (10 * ((s.tnet : Int) - (((s.gnss.gtSec + 1) * 100000000 : Nat) : Int)) - (((late.val + 500) / 1000 : Nat) : Int))) ∧
     (e.natAbs ≤ s.get GNS_STEERCFG_SLEW_LIM) ∧
     (i = clampInt steerMax (s.gnss.integ + Int.tdiv (16 * e) (2 ^ s.get GNS_STEERCFG_KI_SH)))) ∧
    (let s : State := ((timing.put GNS_CTRL_EN 1).put GNS_GTCTRL_TIME_VALID 1)
     (s.on GNS_CTRL_EN = true) ∧ (s.gnss.pulse.mode ≠ 0) ∧ (s.gnss.pulse.mode ≠ 1 ∨ s.on GNS_GTCTRL_TIME_VALID = true)) ∧
    (let s : State := ((timing.put GNS_CTRL_EN 1).put GNS_GTCTRL_TIME_VALID 1)
     (s.on GNS_CTRL_EN = true)) ∧
    (let v : Word := 50000#32
     ((signed 32 v.toNat).natAbs ≤ 50000)) ∧
    (let v : Word := 50001#32
     (50000 < (signed 32 v.toNat).natAbs)) ∧
    (let s : State := conc
     (s.on GNS_GTCTRL_TIME_VALID = false)) ∧
    (let s : State := ((timing.put GNS_CTRL_EN 1).put GNS_GTCTRL_TIME_VALID 1)
     (s.on GNS_GTCTRL_TIME_VALID = true) ∧ (s.steering = true)) ∧
    (let s : State := ({ (timing.put GNS_STATUS_COARSE_HOLD 1) with gnss := { (timing.put GNS_STATUS_COARSE_HOLD 1).gnss with heldStep := 500 } } : State)
     (s.on GNS_STATUS_COARSE_HOLD = true) ∧ (s.running = false)) ∧
    (let s : State := ({ (running.put GNS_STATUS_COARSE_HOLD 1) with gnss := { (running.put GNS_STATUS_COARSE_HOLD 1).gnss with heldStep := 500 } } : State)
     (s.on GNS_STATUS_COARSE_HOLD = true) ∧ (s.running = true)) ∧
    (let k : Nat := 3
     (1 ≤ k) ∧ (k ≤ 3)) ∧
    (let k : Nat := 4
     (k = 0 ∨ 3 < k)) := by
  refine ⟨?_, ?_, ?_, ?_, ?_, ?_, ?_, ?_, ?_, ?_, ?_, ?_, ?_⟩ <;> decide +kernel

/-- The hypotheses of `TheCalendarItsSettingAndItsAlarms`, each clause on a state that meets them. -/
theorem witness_TheCalendarItsSettingAndItsAlarms :
    (let s : State := conc
     (s.rtc.oscRuns = true) ∧ (s.setReady = none) ∧ (-1000000000 < s.rtc.acc + signed 20 (s.get RTC_TRIM_E)) ∧
     (s.rtc.acc + signed 20 (s.get RTC_TRIM_E) < 1000000000) ∧ (s.get RTC_SUBSEC_SUBSEC + 1 < 32768)) ∧
    (let s : State := (conc.put RTC_SUBSEC_SUBSEC 32767)
     (s.rtc.oscRuns = true) ∧ (s.setReady = none) ∧ (-1000000000 < s.rtc.acc + signed 20 (s.get RTC_TRIM_E)) ∧
     (s.rtc.acc + signed 20 (s.get RTC_TRIM_E) < 1000000000) ∧ (s.get RTC_SUBSEC_SUBSEC = 32767) ∧ (s.calTime.ok = true)) ∧
    (let v : CalTime := ({ year := 2024, month := 2, day := 29, hour := 1, min := 2, sec := 3 } : CalTime)
     let s : State := ({ conc with rtc := { conc.rtc with dueSet := some ({ year := 2024, month := 2, day := 29, hour := 1, min := 2, sec := 3 } : CalTime) } } : State)
     (s.rtc.oscRuns = true) ∧ (s.setReady = some v) ∧ (v.ok = true)) ∧
    (let s : State := ((((conc.put RTC_SETDATE_YEAR 2024).put RTC_SETDATE_MONTH 2).put RTC_SETDATE_DAY 29).put RTC_SETTIME_HOUR 5)
     (s.stagedSet.ok = true) ∧ (s.rtc.heldSet = none)) ∧
    (let s : State := ((conc.put RTC_SETDATE_MONTH 2).put RTC_SETDATE_DAY 30)
     (s.stagedSet.ok = false)) ∧
    (let s : State := ((((conc.put RTC_SETDATE_YEAR 2024).put RTC_SETDATE_MONTH 2).put RTC_SETDATE_DAY 29).put RTC_SETTIME_HOUR 5)
     (s.stagedSet.ok = true)) ∧
    (let v : Nat := 0
     (v ≠ 1)) ∧
    (let s : State := ({ conc with tnet := 140000000000000000 } : State)
     ((networkCal (s.tnet / 100000000 + 1) (s.get RTC_UTCOFF_LEAP) (signed 8 (s.get RTC_UTCOFF_OFFSET))).ok = true)) ∧
    (let s : State := ({ (((conc.put (RTC_ALM_D_YEAR 0) 2000).put RTC_ALMCTRL_A_EN 1).put RTC_ALMCTRL_A_ONESHOT 1) with rtc := { (((conc.put (RTC_ALM_D_YEAR 0) 2000).put RTC_ALMCTRL_A_EN 1).put RTC_ALMCTRL_A_ONESHOT 1).rtc with secondTick := true } } : State)
     (s.rtc.secondTick = true) ∧ (s.on RTC_ALMCTRL_A_EN = true) ∧ (s.almHit 0 s.calTime = true)) ∧
    (let s : State := ((((conc.put (RTC_ALM_D_YEAR 0) 2001).put (RTC_ALM_D_MONTH 0) 2).put (RTC_ALM_D_DAY 0) 2))
     (s.on RTC_ALMCTRL_A_EN = false) ∧ ((s.almDates 0).isEmpty = false) ∧ ((s.almTimes 0).isEmpty = false) ∧
     (s.almWithin 0 s.calTime none = true)) ∧
    (let s : State := ((conc.put (RTC_ALM_D_MONTH 1) 2).put (RTC_ALM_D_DAY 1) 30)
     (s.on RTC_ALMCTRL_B_EN = false) ∧ ((s.almDates 1).isEmpty = true)) ∧
    (let c : Bool := true
     let s : State := conc
     (s.on (if c then RTC_STATUS_FROZEN1 else RTC_STATUS_FROZEN0) = false)) ∧
    (let c : Bool := false
     let s : State := conc.put RTC_STATUS_FROZEN0 1
     (s.on (if c then RTC_STATUS_FROZEN1 else RTC_STATUS_FROZEN0) = true)) ∧
    (let c : Bool := false
     let s : State := conc.put RTC_STATUS_FROZEN0 1
     (s.on (if c then RTC_STATUS_FROZEN1 else RTC_STATUS_FROZEN0) = true)) ∧
    (let s : State := conc
     (s.rtc.oscRuns = true)) := by
  refine ⟨?_, ?_, ?_, ?_, ?_, ?_, ?_, ?_, ?_, ?_, ?_, ?_, ?_, ?_, ?_⟩ <;> decide +kernel

/-- The hypotheses of `TrimSupplyComparatorsAndTheBackupDomain`, each clause on a state that meets them. -/
theorem witness_TrimSupplyComparatorsAndTheBackupDomain :
    (let s : State := (conc.put RTC_TRIMCFG_SRC 1)
     (s.on RTC_STATUS_MEAS_BUSY = false) ∧ (s.on GNS_GTCTRL_TIME_VALID = true ∨ s.get RTC_TRIMCFG_SRC ≠ 0)) ∧
    (let s : State := conc
     (s.on RTC_STATUS_MEAS_BUSY = false) ∧ (s.on GNS_GTCTRL_TIME_VALID = false) ∧ (s.get RTC_TRIMCFG_SRC = 0)) ∧
    (let s : State := (conc.put RTC_STATUS_MEAS_BUSY 1)
     (s.on RTC_STATUS_MEAS_BUSY = true)) ∧
    (let s : State := ((conc.put RTC_STATUS_MEAS_BUSY 1).put RTC_TRIMCFG_SRC 1)
     (s.on RTC_STATUS_MEAS_BUSY = true) ∧ (s.get RTC_TRIMCFG_SRC = 1)) ∧
    (let n : Nat := 0
     let s : State := (conc.put RTC_STATUS_MEAS_BUSY 1)
     (s.on RTC_STATUS_MEAS_BUSY = true) ∧
     (500000 < (roundDiv (((n : Int) - ((s.get RTC_TRIMCFG_WINDOW * 32768 : Nat) : Int)) * 1000000000) (s.get RTC_TRIMCFG_WINDOW * 32768)).natAbs)) ∧
    (let n : Nat := 19660900
     let s : State := ((conc.put RTC_STATUS_MEAS_BUSY 1).put RTC_TRIMCFG_AUTO 1)
     (s.on RTC_STATUS_MEAS_BUSY = true) ∧
     ((roundDiv (((n : Int) - ((s.get RTC_TRIMCFG_WINDOW * 32768 : Nat) : Int)) * 1000000000) (s.get RTC_TRIMCFG_WINDOW * 32768)).natAbs ≤ 500000)) ∧
    (let v : Word := 0xFFFF0#32
     let s : State := ({ conc with rtc := { conc.rtc with acc := 500 } } : State)
     (s.on RTC_LOCK_LOCK = false) ∧ ((signed 20 v.toNat).natAbs ≤ 500000)) ∧
    (let s : State := conc
     (s.on RTC_SUPPLY_ON_VBAK = false) ∧ (s.on RTC_SUPPLY_STAMP_VALID = false)) ∧
    (let f : RegField := RTC_YEAR_YEAR
     (rtcKeys.1 ≤ f.key) ∧ (f.key < rtcKeys.2)) ∧
    (let n : Fin 4 := 2
     let high : Bool := true
     let s : State := (((conc.put (RTC_CMP_COND 2) 1).put (RTC_CMP_ERASE 2) 1).put (RTC_CMP_DEBOUNCE 2) 1)
     (s.rtc.oscRuns = true) ∧ (s.get (RTC_CMP_COND n) ≠ 0) ∧ (bit (s.get RTC_CMPSTAT_LEVEL) n ≠ high) ∧
     (s.rtc.cmpRuns.length = 4) ∧ (s.rtc.cmpRuns.getD n 0 + 1 ≤ s.get (RTC_CMP_DEBOUNCE n))) ∧
    (let n : Fin 4 := 2
     let s : State := (((conc.put (RTC_CMP_COND 2) 1).put (RTC_CMP_ERASE 2) 1).setByte 0x27000003 7)
     (s.rtc.oscRuns = true) ∧ (s.get (RTC_CMP_COND n) = 1) ∧ (bit (s.get RTC_CMPSTAT_LEVEL) n = false) ∧
     (s.get (RTC_CMP_DEBOUNCE n) < s.rtc.cmpRuns.getD n 0 + 1)) := by
  refine ⟨?_, ?_, ?_, ?_, ?_, ?_, ?_, ?_, ?_, ?_, ?_⟩ <;> decide +kernel

/-- The hypotheses of `TimersCountReloadCompareStartAndStop`, each clause on a state that meets them. -/
theorem witness_TimersCountReloadCompareStartAndStop :
    (let n : Fin 8 := 2
     let s : State := (((conc.put (TMR_CTRL_EN 2) 1).put (TMR_PERIOD_PERIOD 2) 1).put (TMR_CTRL_ONESHOT 2) 1)
     (s.timerCounts n = true) ∧ (s.reloads n = true)) ∧
    (let n : Fin 8 := 2
     let s : State := (((conc.put (TMR_CTRL_EN 2) 1).put (TMR_PERIOD_PERIOD 2) 1).put (TMR_CTRL_ONESHOT 2) 1)
     (s.timerCounts n = true) ∧ (s.reloads n = true)) ∧
    (let n : Fin 8 := 2
     let s : State := (((conc.put (TMR_CTRL_EN 2) 1).put (TMR_CTRL_CMP_EN 2) 1).put (TMR_CMP_CMP 2) 1)
     (s.timerCounts n = true) ∧ (s.reloads n = false) ∧ (s.get (TMR_COUNT_COUNT n) + 1 < 2 ^ 32)) ∧
    (let n : Fin 8 := 2
     let c : Bool := false
     let s : State := (((conc.put (TMR_CTRL_EN 2) 1).put (TMR_CTRL_CMP_EN 2) 1).put (TMR_CMP_CMP 2) 1)
     (c = false ∨ bit (s.get TMR_OWNER_OWNER) n = true)) ∧
    (let n : Fin 8 := 2
     let s : State := (((conc.put (TMR_CTRL_EN 2) 1).put (TMR_CTRL_CMP_EN 2) 1).put (TMR_CMP_CMP 2) 1)
     (bit (s.get TMR_OWNER_OWNER) n = false)) ∧
    (let n : Fin 8 := 2
     let s : State := ({ conc with evr := { conc.evr with cmpDue := 4 } } : State)
     (bit s.evr.cmpDue n = true) ∧ (s.timerFrozen n = false) ∧ (s.timerPowered n = true)) := by
  refine ⟨?_, ?_, ?_, ?_, ?_, ?_⟩ <;> decide +kernel

/-- The hypotheses of `RouterChannelsPinsAndStamps`, each clause on a state that meets them. -/
theorem witness_RouterChannelsPinsAndStamps :
    (let c : Fin 32 := 4
     let at_ : Nat := 900
     let s : State := ({ (((((conc.put (EVR_CFG_EN 4) 1).put (EVR_CFG_STAMP 4) 1).put (EVR_TM1_MASK 4) 10)).setByte 0x27000003 7) with evr := { (((((conc.put (EVR_CFG_EN 4) 1).put (EVR_CFG_STAMP 4) 1).put (EVR_TM1_MASK 4) 10)).setByte 0x27000003 7).evr with pulses := [(4, some 900)] } } : State)
     (Sparse.read none s.evr.pulses c = some at_) ∧ (s.ratePasses c = true)) ∧
    (let c : Fin 32 := 4
     let at_ : Nat := 900
     let s : State := ({ (((conc.put (EVR_CFG_EN 4) 1).put (EVR_COND_RMAX 4) 3).put (EVR_COND_RWIN 4) 1) with evr := { (((conc.put (EVR_CFG_EN 4) 1).put (EVR_COND_RMAX 4) 3).put (EVR_COND_RWIN 4) 1).evr with pulses := [(4, some 900)], passed := [(4, 3)] } } : State)
     (Sparse.read none s.evr.pulses c = some at_) ∧ (s.ratePasses c = false)) ∧
    (let v : Word := 0x10#32
     let c : Fin 32 := 4
     let s : State := (conc.put (EVR_CFG_EN 4) 1)
     (bit v.toNat c = true) ∧ (s.get (EVR_CFG_OWNER c) ≠ 1) ∧ (Sparse.read none s.evr.pulses c = none)) ∧
    (let c : Fin 32 := 4
     let high : Bool := true
     let s : State := ({ ((((conc.put (EVR_CFG_EN 4) 1).put (EVR_CFG_PIN_EN 4) 1).put (EVR_CFG_EDGE 4) 2).put (PIN_CFG_FUNC 0) 1) with tnet := 10 } : State)
     (s.pinTaken c = true) ∧ (s.on (EVR_STAT_LEVEL c) ≠ high) ∧ (s.on (EVR_STAT_STUCK c) = false) ∧
     ((if high then s.get (EVR_CFG_EDGE c) ≠ 1 else s.get (EVR_CFG_EDGE c) ≠ 0)) ∧ (s.chanLive c = true) ∧
     (Sparse.read none s.evr.pulses c = none)) ∧
    (let c : Fin 32 := 4
     let s : State := ((((((conc.put (EVR_CFG_EN 4) 1).put (EVR_CFG_PIN_EN 4) 1).put (EVR_CFG_EDGE 4) 2).put (PIN_CFG_FUNC 0) 1).put (EVR_COND_STUCK_T 4) 9).put (EVR_STAT_LEVEL 4) 1)
     (s.get (EVR_COND_STUCK_T c) ≠ 0) ∧ (s.pinTaken c = true) ∧ (s.on (EVR_STAT_LEVEL c) = true) ∧
     (s.get (EVR_CFG_EDGE c) ≠ 1)) := by
  refine ⟨?_, ?_, ?_, ?_, ?_⟩ <;> decide +kernel

/-- The hypotheses of `CoreIntegerArithmetic`, each clause on a state that meets them. -/
theorem witness_CoreIntegerArithmetic :
    (let k : Bool := false
     let s : State := (sloeRegs ⟨.int, 0x80000001#32⟩ ⟨.int, 0x80000002#32⟩ {})
     let z : State := (sloeRegs ⟨.int, 0x80000001#32⟩ ⟨.int, 0x80000002#32⟩ {})
     let c : CoreState := ((sloeRegs ⟨.int, 0x80000001#32⟩ ⟨.int, 0x80000002#32⟩ {})).core0
     let a : Word := 0x80000001#32
     let b : Word := 0x80000002#32
     let ga : Fin 16 := 1
     let gb : Fin 16 := 2
     (s.begins k = some z) ∧ (z.core k = c) ∧ (c.quiet = true) ∧ (c.reg ga = ⟨.int, a⟩) ∧ (c.reg gb = ⟨.int, b⟩)) ∧
    (let k : Bool := false
     let s : State := (sloeRegs ⟨.int, 3#32⟩ {} {})
     let z : State := (sloeRegs ⟨.int, 3#32⟩ {} {})
     let c : CoreState := ((sloeRegs ⟨.int, 3#32⟩ {} {})).core0
     let a : Word := 3#32
     let ga : Fin 16 := 1
     (s.begins k = some z) ∧ (z.core k = c) ∧ (c.quiet = true) ∧ (c.reg ga = ⟨.int, a⟩)) ∧
    (let k : Bool := false
     let s : State := (sloeRegs ⟨.int, 0x80000001#32⟩ ⟨.int, 7#32⟩ {})
     let z : State := (sloeRegs ⟨.int, 0x80000001#32⟩ ⟨.int, 7#32⟩ {})
     let c : CoreState := ((sloeRegs ⟨.int, 0x80000001#32⟩ ⟨.int, 7#32⟩ {})).core0
     let a : Word := 0x80000001#32
     let b : Word := 7#32
     let ga : Fin 16 := 1
     let gb : Fin 16 := 2
     (s.begins k = some z) ∧ (z.core k = c) ∧ (c.quiet = true) ∧ (c.reg ga = ⟨.int, a⟩) ∧ (c.reg gb = ⟨.int, b⟩) ∧
     (b ≠ 0#32)) ∧
    (let k : Bool := false
     let s : State := (vecd 6 (sloeRegs ⟨.int, 5#32⟩ ⟨.int, 0#32⟩ {}))
     let z : State := (vecd 6 (sloeRegs ⟨.int, 5#32⟩ ⟨.int, 0#32⟩ {}))
     let c : CoreState := ((vecd 6 (sloeRegs ⟨.int, 5#32⟩ ⟨.int, 0#32⟩ {}))).core0
     let a : Word := 5#32
     let b : Word := 0#32
     let v : Word := 0x40#32
     let ga : Fin 16 := 1
     let gb : Fin 16 := 2
     (s.begins k = some z) ∧ (z.core k = c) ∧ (c.quiet = true) ∧ (c.reg ga = ⟨.int, a⟩) ∧ (c.reg gb = ⟨.int, b⟩) ∧
     (b = 0#32) ∧ (bit c.st 2 = false) ∧ (z.vectorWord k 6 = some v)) := by
  refine ⟨?_, ?_, ?_, ?_⟩ <;> decide +kernel

/-- The hypotheses of `CoreLogicShiftsTagsAndPointers`, each clause on a state that meets them. -/
theorem witness_CoreLogicShiftsTagsAndPointers :
    (let k : Bool := false
     let s : State := (sloeRegs ⟨.int, 12#32⟩ ⟨.raw, 10#32⟩ {})
     let z : State := (sloeRegs ⟨.int, 12#32⟩ ⟨.raw, 10#32⟩ {})
     let c : CoreState := ((sloeRegs ⟨.int, 12#32⟩ ⟨.raw, 10#32⟩ {})).core0
     let a : Word := 12#32
     let b : Word := 10#32
     let t : Tag := Tag.int
     let u : Tag := Tag.raw
     let ga : Fin 16 := 1
     let gb : Fin 16 := 2
     (s.begins k = some z) ∧ (z.core k = c) ∧ (c.quiet = true) ∧ (c.reg ga = ⟨t, a⟩) ∧ (c.reg gb = ⟨u, b⟩) ∧
     (t = .int ∨ t = .raw) ∧ (u = .int ∨ u = .raw)) ∧
    (let k : Bool := false
     let s : State := (sloeRegs ⟨.bool, 1#32⟩ ⟨.bool, 1#32⟩ {})
     let z : State := (sloeRegs ⟨.bool, 1#32⟩ ⟨.bool, 1#32⟩ {})
     let c : CoreState := ((sloeRegs ⟨.bool, 1#32⟩ ⟨.bool, 1#32⟩ {})).core0
     let a : Word := 1#32
     let b : Word := 1#32
     let ga : Fin 16 := 1
     let gb : Fin 16 := 2
     (s.begins k = some z) ∧ (z.core k = c) ∧ (c.quiet = true) ∧ (c.reg ga = ⟨.bool, a⟩) ∧ (c.reg gb = ⟨.bool, b⟩)) ∧
    (let k : Bool := false
     let s : State := (sloeRegs ⟨.int, 12#32⟩ {} {})
     let z : State := (sloeRegs ⟨.int, 12#32⟩ {} {})
     let c : CoreState := ((sloeRegs ⟨.int, 12#32⟩ {} {})).core0
     let a : Word := 12#32
     let t : Tag := Tag.int
     let ga : Fin 16 := 1
     (s.begins k = some z) ∧ (z.core k = c) ∧ (c.quiet = true) ∧ (c.reg ga = ⟨t, a⟩) ∧ (t = .int ∨ t = .raw)) ∧
    (let k : Bool := false
     let s : State := (sloeRegs ⟨.int, 0x80000001#32⟩ ⟨.int, 33#32⟩ {})
     let z : State := (sloeRegs ⟨.int, 0x80000001#32⟩ ⟨.int, 33#32⟩ {})
     let c : CoreState := ((sloeRegs ⟨.int, 0x80000001#32⟩ ⟨.int, 33#32⟩ {})).core0
     let a : Word := 0x80000001#32
     let b : Word := 33#32
     let t : Tag := Tag.int
     let ga : Fin 16 := 1
     let gb : Fin 16 := 2
     (s.begins k = some z) ∧ (z.core k = c) ∧ (c.quiet = true) ∧ (c.reg ga = ⟨t, a⟩) ∧ (t = .int ∨ t = .raw) ∧
     (c.reg gb = ⟨.int, b⟩)) ∧
    (let k : Bool := false
     let s : State := (sloeRegs ⟨.int, 0x80000001#32⟩ {} {})
     let z : State := (sloeRegs ⟨.int, 0x80000001#32⟩ {} {})
     let c : CoreState := ((sloeRegs ⟨.int, 0x80000001#32⟩ {} {})).core0
     let a : Word := 0x80000001#32
     let t : Tag := Tag.int
     let ga : Fin 16 := 1
     (s.begins k = some z) ∧ (z.core k = c) ∧ (c.quiet = true) ∧ (c.reg ga = ⟨t, a⟩) ∧ (t = .int ∨ t = .raw)) ∧
    (let k : Bool := false
     let s : State := (sloeRegs ⟨.int, 3#32⟩ {} {})
     let z : State := (sloeRegs ⟨.int, 3#32⟩ {} {})
     let c : CoreState := ((sloeRegs ⟨.int, 3#32⟩ {} {})).core0
     (s.begins k = some z) ∧ (z.core k = c) ∧ (c.quiet = true)) ∧
    (let k : Bool := false
     let s : State := (sloeRegs ⟨.int, 3#32⟩ {} {})
     let z : State := (sloeRegs ⟨.int, 3#32⟩ {} {})
     let c : CoreState := ((sloeRegs ⟨.int, 3#32⟩ {} {})).core0
     (s.begins k = some z) ∧ (z.core k = c) ∧ (c.quiet = true)) ∧
    (let k : Bool := false
     let s : State := (sloeRegs ⟨.int, 0x80000001#32⟩ ⟨.int, 3#32⟩ {})
     let z : State := (sloeRegs ⟨.int, 0x80000001#32⟩ ⟨.int, 3#32⟩ {})
     let c : CoreState := ((sloeRegs ⟨.int, 0x80000001#32⟩ ⟨.int, 3#32⟩ {})).core0
     let a : Word := 0x80000001#32
     let b : Word := 3#32
     let ga : Fin 16 := 1
     let gb : Fin 16 := 2
     (s.begins k = some z) ∧ (z.core k = c) ∧ (c.quiet = true) ∧ (c.reg ga = ⟨.int, a⟩) ∧ (c.reg gb = ⟨.int, b⟩)) ∧
    (let k : Bool := false
     let s : State := (sloeRegs ⟨.int, 3#32⟩ {} {})
     let z : State := (sloeRegs ⟨.int, 3#32⟩ {} {})
     let c : CoreState := ((sloeRegs ⟨.int, 3#32⟩ {} {})).core0
     let a : Word := 3#32
     let b : Word := 0xFFFFFFFF#32
     let imm : Fin 32768 := 32767
     let ga : Fin 16 := 1
     (s.begins k = some z) ∧ (z.core k = c) ∧ (c.quiet = true) ∧ (c.reg ga = ⟨.int, a⟩) ∧
     (b = BitVec.ofInt 32 (signed 15 imm))) ∧
    (let k : Bool := false
     let s : State := (sloeRegs ⟨.int, 3#32⟩ {} {})
     let z : State := (sloeRegs ⟨.int, 3#32⟩ {} {})
     let c : CoreState := ((sloeRegs ⟨.int, 3#32⟩ {} {})).core0
     let x : TWord := ⟨.int, 3#32⟩
     let t : Fin 8 := 4
     let ga : Fin 16 := 1
     (s.begins k = some z) ∧ (z.core k = c) ∧ (c.quiet = true) ∧ (c.reg ga = x) ∧
     (retagAllowed c.system x.tag (Tag.ofCode t) = true)) ∧
    (let k : Bool := false
     let s : State := (sloeRegs ⟨.raw, 3#32⟩ {} {})
     let z : State := (sloeRegs ⟨.raw, 3#32⟩ {} {})
     let c : CoreState := ((sloeRegs ⟨.raw, 3#32⟩ {} {})).core0
     let t : Fin 8 := 5
     let ga : Fin 16 := 1
     (s.begins k = some z) ∧ (z.core k = c) ∧ (c.quiet = true) ∧ ((c.reg ga).tag.num = t.val)) ∧
    (let k : Bool := false
     let s : State := (vecd 3 (sloeRegs ⟨.int, 3#32⟩ {} {}))
     let z : State := (vecd 3 (sloeRegs ⟨.int, 3#32⟩ {} {}))
     let c : CoreState := ((vecd 3 (sloeRegs ⟨.int, 3#32⟩ {} {}))).core0
     let t : Fin 8 := 5
     let ga : Fin 16 := 1
     let v : Word := 0x40#32
     (s.begins k = some z) ∧ (z.core k = c) ∧ (c.quiet = true) ∧ ((c.reg ga).tag.num ≠ t.val) ∧ (bit c.st 2 = false) ∧
     (z.vectorWord k 3 = some v)) ∧
    (let k : Bool := false
     let s : State := (sloeRegs ⟨.ptr, 0x10000010#32⟩ ⟨.int, 0xFFFFFFFF#32⟩ {})
     let z : State := (sloeRegs ⟨.ptr, 0x10000010#32⟩ ⟨.int, 0xFFFFFFFF#32⟩ {})
     let c : CoreState := ((sloeRegs ⟨.ptr, 0x10000010#32⟩ ⟨.int, 0xFFFFFFFF#32⟩ {})).core0
     let a : Word := 0x10000010#32
     let b : Word := 0xFFFFFFFF#32
     let t : Tag := Tag.ptr
     let ga : Fin 16 := 1
     let gb : Fin 16 := 2
     (s.begins k = some z) ∧ (z.core k = c) ∧ (c.quiet = true) ∧ (c.reg ga = ⟨t, a⟩) ∧ ((t = .ptr ∨ t = .code)) ∧
     (c.reg gb = ⟨.int, b⟩) ∧ (0 ≤ (offOf a : Int) + b.toInt) ∧ ((offOf a : Int) + b.toInt < 2 ^ 28)) ∧
    (let k : Bool := false
     let s : State := (sloeRegs ⟨.ptr, 0x10000010#32⟩ {} {})
     let z : State := (sloeRegs ⟨.ptr, 0x10000010#32⟩ {} {})
     let c : CoreState := ((sloeRegs ⟨.ptr, 0x10000010#32⟩ {} {})).core0
     let a : Word := 0x10000010#32
     let t : Tag := Tag.ptr
     let ga : Fin 16 := 1
     let imm : Fin 262144 := 262143
     (s.begins k = some z) ∧ (z.core k = c) ∧ (c.quiet = true) ∧ (c.reg ga = ⟨t, a⟩) ∧ ((t = .ptr ∨ t = .code)) ∧
     (0 ≤ (offOf a : Int) + signed 18 imm) ∧ ((offOf a : Int) + signed 18 imm < 2 ^ 28)) ∧
    (let k : Bool := false
     let s : State := (sloeRegs ⟨.ptr, 0x10000010#32⟩ ⟨.ptr, 0x10000014#32⟩ {})
     let z : State := (sloeRegs ⟨.ptr, 0x10000010#32⟩ ⟨.ptr, 0x10000014#32⟩ {})
     let c : CoreState := ((sloeRegs ⟨.ptr, 0x10000010#32⟩ ⟨.ptr, 0x10000014#32⟩ {})).core0
     let a : Word := 0x10000010#32
     let b : Word := 0x10000014#32
     let t : Tag := Tag.ptr
     let ga : Fin 16 := 1
     let gb : Fin 16 := 2
     (s.begins k = some z) ∧ (z.core k = c) ∧ (c.quiet = true) ∧ (c.reg ga = ⟨t, a⟩) ∧ ((t = .ptr ∨ t = .code)) ∧
     (c.reg gb = ⟨t, b⟩) ∧ (segOf a = segOf b)) := by
  refine ⟨?_, ?_, ?_, ?_, ?_, ?_, ?_, ?_, ?_, ?_, ?_, ?_, ?_, ?_, ?_⟩ <;> decide +kernel

/-- The hypotheses of `CoreLoads`, each clause on a state that meets them. -/
theorem witness_CoreLoads :
    (let k : Bool := false
     let s : State := ((sloeRegs ⟨.ptr, 0x10000104#32⟩ {} {}).setNum 0x20000100 4 0x8181F5F3)
     let z : State := ((sloeRegs ⟨.ptr, 0x10000104#32⟩ {} {}).setNum 0x20000100 4 0x8181F5F3)
     let c : CoreState := (((sloeRegs ⟨.ptr, 0x10000104#32⟩ {} {}).setNum 0x20000100 4 0x8181F5F3)).core0
     let ga : Fin 16 := 1
     let imm : Fin 262144 := 262140
     let a : Word := 0x10000104#32
     let p : Word := 0x10000100#32
     (s.begins k = some z) ∧ (z.core k = c) ∧ (c.quiet = true) ∧ (c.reg ga = ⟨.ptr, a⟩) ∧
     (0 ≤ (offOf a : Int) + signed 18 imm) ∧ ((offOf a : Int) + signed 18 imm < 2 ^ 28) ∧ (moveBy a (signed 18 imm) = p) ∧
     (c.canLoad z p 4 = true)) ∧
    (let k : Bool := false
     let s : State := ((sloeRegs ⟨.ptr, 0x10000104#32⟩ {} {}).setNum 0x20000100 4 0x8181F5F3)
     let z : State := ((sloeRegs ⟨.ptr, 0x10000104#32⟩ {} {}).setNum 0x20000100 4 0x8181F5F3)
     let c : CoreState := (((sloeRegs ⟨.ptr, 0x10000104#32⟩ {} {}).setNum 0x20000100 4 0x8181F5F3)).core0
     let ga : Fin 16 := 1
     let imm : Fin 262144 := 262140
     let a : Word := 0x10000104#32
     let p : Word := 0x10000100#32
     (s.begins k = some z) ∧ (z.core k = c) ∧ (c.quiet = true) ∧ (c.reg ga = ⟨.ptr, a⟩) ∧
     (0 ≤ (offOf a : Int) + signed 18 imm) ∧ ((offOf a : Int) + signed 18 imm < 2 ^ 28) ∧ (moveBy a (signed 18 imm) = p) ∧
     (c.canLoad z p 2 = true)) ∧
    (let k : Bool := false
     let s : State := ((sloeRegs ⟨.ptr, 0x10000104#32⟩ {} {}).setNum 0x20000100 4 0x8181F5F3)
     let z : State := ((sloeRegs ⟨.ptr, 0x10000104#32⟩ {} {}).setNum 0x20000100 4 0x8181F5F3)
     let c : CoreState := (((sloeRegs ⟨.ptr, 0x10000104#32⟩ {} {}).setNum 0x20000100 4 0x8181F5F3)).core0
     let ga : Fin 16 := 1
     let imm : Fin 262144 := 262140
     let a : Word := 0x10000104#32
     let p : Word := 0x10000100#32
     (s.begins k = some z) ∧ (z.core k = c) ∧ (c.quiet = true) ∧ (c.reg ga = ⟨.ptr, a⟩) ∧
     (0 ≤ (offOf a : Int) + signed 18 imm) ∧ ((offOf a : Int) + signed 18 imm < 2 ^ 28) ∧ (moveBy a (signed 18 imm) = p) ∧
     (c.canLoad z p 1 = true)) ∧
    (let k : Bool := false
     let s : State := (vecd 8 ((sloeRegs ⟨.ptr, 0x10000104#32⟩ {} {}).poisonWord 0x20000100 1 false))
     let z : State := (vecd 8 ((sloeRegs ⟨.ptr, 0x10000104#32⟩ {} {}).poisonWord 0x20000100 1 false))
     let c : CoreState := ((vecd 8 ((sloeRegs ⟨.ptr, 0x10000104#32⟩ {} {}).poisonWord 0x20000100 1 false))).core0
     let ga : Fin 16 := 1
     let imm : Fin 262144 := 262140
     let a : Word := 0x10000104#32
     let p : Word := 0x10000100#32
     let v : Word := 0x40#32
     (s.begins k = some z) ∧ (z.core k = c) ∧ (c.quiet = true) ∧ (c.reg ga = ⟨.ptr, a⟩) ∧
     (0 ≤ (offOf a : Int) + signed 18 imm) ∧ ((offOf a : Int) + signed 18 imm < 2 ^ 28) ∧ (moveBy a (signed 18 imm) = p) ∧
     (c.access p 4 2 = []) ∧ (inSys (c.phys p) = true) ∧ (z.poisoned (c.phys p) = true) ∧ (bit c.st 2 = false) ∧
     (z.vectorWord k 8 = some v)) := by
  refine ⟨?_, ?_, ?_, ?_⟩ <;> decide +kernel

/-- The hypotheses of `CoreStoresAndCompareAndSwap`, each clause on a state that meets them. -/
theorem witness_CoreStoresAndCompareAndSwap :
    (let k : Bool := false
     let s : State := ((sloeRegs ⟨.ptr, 0x10000104#32⟩ ⟨.int, 0x80818283#32⟩ {}).setNum 0x20000100 4 0x8181F5F3)
     let z : State := ((sloeRegs ⟨.ptr, 0x10000104#32⟩ ⟨.int, 0x80818283#32⟩ {}).setNum 0x20000100 4 0x8181F5F3)
     let c : CoreState := (((sloeRegs ⟨.ptr, 0x10000104#32⟩ ⟨.int, 0x80818283#32⟩ {}).setNum 0x20000100 4 0x8181F5F3)).core0
     let gd : Fin 16 := 2
     let ga : Fin 16 := 1
     let imm : Fin 262144 := 262140
     let a : Word := 0x10000104#32
     let p : Word := 0x10000100#32
     let x : TWord := (⟨.int, 0x80818283#32⟩ : TWord)
     let b : Nat := 0x20000104
     (s.begins k = some z) ∧ (z.core k = c) ∧ (c.quiet = true) ∧ (c.reg ga = ⟨.ptr, a⟩) ∧ (c.reg gd = x) ∧
     (0 ≤ (offOf a : Int) + signed 18 imm) ∧ ((offOf a : Int) + signed 18 imm < 2 ^ 28) ∧ (moveBy a (signed 18 imm) = p) ∧
     (c.canStore z p 4 = true) ∧ (Poison.wf z.poison = true) ∧ (b < c.phys p ∨ c.phys p + 4 ≤ b) ∧
     (c.policy p = 0 ∨ (x.tag ≠ .ptr ∧ x.tag ≠ .code ∧ x.tag ≠ .handle ∧ x.tag ≠ .empty))) ∧
    (let k : Bool := false
     let s : State := ((sloeRegs ⟨.ptr, 0x10000104#32⟩ ⟨.int, 0x80818283#32⟩ {}).setNum 0x20000100 4 0x8181F5F3)
     let z : State := ((sloeRegs ⟨.ptr, 0x10000104#32⟩ ⟨.int, 0x80818283#32⟩ {}).setNum 0x20000100 4 0x8181F5F3)
     let c : CoreState := (((sloeRegs ⟨.ptr, 0x10000104#32⟩ ⟨.int, 0x80818283#32⟩ {}).setNum 0x20000100 4 0x8181F5F3)).core0
     let gd : Fin 16 := 2
     let ga : Fin 16 := 1
     let imm : Fin 262144 := 262140
     let a : Word := 0x10000104#32
     let p : Word := 0x10000100#32
     let x : TWord := (⟨.int, 0x80818283#32⟩ : TWord)
     let b : Nat := 0x20000104
     (s.begins k = some z) ∧ (z.core k = c) ∧ (c.quiet = true) ∧ (c.reg ga = ⟨.ptr, a⟩) ∧ (c.reg gd = x) ∧
     (0 ≤ (offOf a : Int) + signed 18 imm) ∧ ((offOf a : Int) + signed 18 imm < 2 ^ 28) ∧ (moveBy a (signed 18 imm) = p) ∧
     (c.canStore z p 2 = true) ∧ (Poison.wf z.poison = true) ∧ (b < c.phys p ∨ c.phys p + 2 ≤ b) ∧
     (x.tag = .int ∨ x.tag = .raw)) ∧
    (let k : Bool := false
     let s : State := ((sloeRegs ⟨.ptr, 0x10000104#32⟩ ⟨.int, 0x80818283#32⟩ {}).setNum 0x20000100 4 0x8181F5F3)
     let z : State := ((sloeRegs ⟨.ptr, 0x10000104#32⟩ ⟨.int, 0x80818283#32⟩ {}).setNum 0x20000100 4 0x8181F5F3)
     let c : CoreState := (((sloeRegs ⟨.ptr, 0x10000104#32⟩ ⟨.int, 0x80818283#32⟩ {}).setNum 0x20000100 4 0x8181F5F3)).core0
     let gd : Fin 16 := 2
     let ga : Fin 16 := 1
     let imm : Fin 262144 := 262140
     let a : Word := 0x10000104#32
     let p : Word := 0x10000100#32
     let x : TWord := (⟨.int, 0x80818283#32⟩ : TWord)
     let b : Nat := 0x20000104
     (s.begins k = some z) ∧ (z.core k = c) ∧ (c.quiet = true) ∧ (c.reg ga = ⟨.ptr, a⟩) ∧ (c.reg gd = x) ∧
     (0 ≤ (offOf a : Int) + signed 18 imm) ∧ ((offOf a : Int) + signed 18 imm < 2 ^ 28) ∧ (moveBy a (signed 18 imm) = p) ∧
     (c.canStore z p 1 = true) ∧ (Poison.wf z.poison = true) ∧ (b < c.phys p ∨ c.phys p + 1 ≤ b) ∧
     (x.tag = .int ∨ x.tag = .raw)) ∧
    (let k : Bool := false
     let s : State := (((sloeRegs ⟨.ptr, 0x10000100#32⟩ ⟨.int, 9#32⟩ ⟨.int, 7#32⟩).setNum 0x20000100 4 7).setTag 0x20000100 .int)
     let z : State := (((sloeRegs ⟨.ptr, 0x10000100#32⟩ ⟨.int, 9#32⟩ ⟨.int, 7#32⟩).setNum 0x20000100 4 7).setTag 0x20000100 .int)
     let c : CoreState := ((((sloeRegs ⟨.ptr, 0x10000100#32⟩ ⟨.int, 9#32⟩ ⟨.int, 7#32⟩).setNum 0x20000100 4 7).setTag 0x20000100 .int)).core0
     let old : TWord := ⟨.int, 7#32⟩
     let b : Nat := 0x200000FF
     let gd : Fin 16 := 3
     let ga : Fin 16 := 1
     let gb : Fin 16 := 2
     let p : Word := 0x10000100#32
     let x : TWord := ⟨.int, 7#32⟩
     let v : TWord := ⟨.int, 9#32⟩
     (s.begins k = some z) ∧ (z.core k = c) ∧ (c.quiet = true) ∧ (c.reg ga = ⟨.ptr, p⟩) ∧ (c.reg gd = x) ∧
     (c.reg gb = v) ∧ (x.tag ≠ .empty) ∧ (v.tag ≠ .empty) ∧ (c.access p 4 6 = []) ∧ (c.canLoad z p 4 = true) ∧
     (inSys (c.phys p) = true) ∧ (old = ⟨loadedTag z c p, BitVec.ofNat 32 (z.num (c.phys p) 4)⟩) ∧ (old = x) ∧
     (c.phys p % 4 = 0) ∧ (Poison.wf z.poison = true) ∧ (b < c.phys p ∨ c.phys p + 4 ≤ b) ∧
     (c.policy p = 0 ∨ (v.tag ≠ .ptr ∧ v.tag ≠ .code ∧ v.tag ≠ .handle))) ∧
    (let k : Bool := false
     let s : State := (((sloeRegs ⟨.ptr, 0x10000100#32⟩ ⟨.int, 9#32⟩ ⟨.int, 7#32⟩).setNum 0x20000100 4 8).setTag 0x20000100 .int)
     let z : State := (((sloeRegs ⟨.ptr, 0x10000100#32⟩ ⟨.int, 9#32⟩ ⟨.int, 7#32⟩).setNum 0x20000100 4 8).setTag 0x20000100 .int)
     let c : CoreState := ((((sloeRegs ⟨.ptr, 0x10000100#32⟩ ⟨.int, 9#32⟩ ⟨.int, 7#32⟩).setNum 0x20000100 4 8).setTag 0x20000100 .int)).core0
     let old : TWord := ⟨.int, 8#32⟩
     let gd : Fin 16 := 3
     let ga : Fin 16 := 1
     let gb : Fin 16 := 2
     let p : Word := 0x10000100#32
     let x : TWord := ⟨.int, 7#32⟩
     let v : TWord := ⟨.int, 9#32⟩
     (s.begins k = some z) ∧ (z.core k = c) ∧ (c.quiet = true) ∧ (c.reg ga = ⟨.ptr, p⟩) ∧ (c.reg gd = x) ∧
     (c.reg gb = v) ∧ (x.tag ≠ .empty) ∧ (v.tag ≠ .empty) ∧ (c.access p 4 6 = []) ∧ (c.canLoad z p 4 = true) ∧
     (inSys (c.phys p) = true) ∧ (old = ⟨loadedTag z c p, BitVec.ofNat 32 (z.num (c.phys p) 4)⟩) ∧ (old ≠ x)) := by
  refine ⟨?_, ?_, ?_, ?_, ?_⟩ <;> decide +kernel

/-- The hypotheses of `CoreStackInstructions`, each clause on a state that meets them. -/
theorem witness_CoreStackInstructions :
    (let k : Bool := false
     let s : State := (sloe fun y => ((((y.setReg 1 ⟨.int, 11#32⟩).setReg 2 ⟨.ptr, 0x10000004#32⟩).setReg 3 ⟨.code, 0x40#32⟩).setReg 15 ⟨.ptr, 0x10000100#32⟩))
     let z : State := (sloe fun y => ((((y.setReg 1 ⟨.int, 11#32⟩).setReg 2 ⟨.ptr, 0x10000004#32⟩).setReg 3 ⟨.code, 0x40#32⟩).setReg 15 ⟨.ptr, 0x10000100#32⟩))
     let c : CoreState := ((sloe fun y => ((((y.setReg 1 ⟨.int, 11#32⟩).setReg 2 ⟨.ptr, 0x10000004#32⟩).setReg 3 ⟨.code, 0x40#32⟩).setReg 15 ⟨.ptr, 0x10000100#32⟩))).core0
     let mask : Fin 32768 := 6
     let p : Word := 0x10000100#32
     let ws : List TWord := [⟨.int, 11#32⟩, ⟨.ptr, 0x10000004#32⟩]
     let b : Nat := 0x20000100
     (s.begins k = some z) ∧ (z.core k = c) ∧ (c.quiet = true) ∧ (c.reg 15 = ⟨.ptr, p⟩) ∧ (offOf p % 4 = 0) ∧
     (ws = (maskRegs mask).map c.reg) ∧ (4 * ws.length ≤ offOf p) ∧
     (∀ j : Fin 17, j < ws.length → c.canStore z (moveBy p (-4 * (j.val + 1))) 4 = true ∧ c.policy (moveBy p (-4 * (j.val + 1))) = 0) ∧
     (Poison.wf z.poison = true) ∧
     (∀ j : Fin 17, j < ws.length → (b < c.phys (moveBy p (-4 * (j.val + 1))) ∨ c.phys (moveBy p (-4 * (j.val + 1))) + 4 ≤ b))) ∧
    (let k : Bool := false
     let s : State := (sloe fun y => ((((y.setReg 1 ⟨.int, 11#32⟩).setReg 2 ⟨.ptr, 0x10000004#32⟩).setReg 3 ⟨.code, 0x40#32⟩).setReg 15 ⟨.ptr, 0x10000100#32⟩))
     let z : State := (sloe fun y => ((((y.setReg 1 ⟨.int, 11#32⟩).setReg 2 ⟨.ptr, 0x10000004#32⟩).setReg 3 ⟨.code, 0x40#32⟩).setReg 15 ⟨.ptr, 0x10000100#32⟩))
     let c : CoreState := ((sloe fun y => ((((y.setReg 1 ⟨.int, 11#32⟩).setReg 2 ⟨.ptr, 0x10000004#32⟩).setReg 3 ⟨.code, 0x40#32⟩).setReg 15 ⟨.ptr, 0x10000100#32⟩))).core0
     let gt : Fin 16 := 3
     let x : Word := 0x40#32
     let mask : Fin 32768 := 2
     let p : Word := 0x10000100#32
     let ws : List TWord := [⟨.code, 4#32⟩, ⟨.int, 11#32⟩, ⟨.handle, 0xCA110002#32⟩]
     let b : Nat := 0x20000100
     (s.begins k = some z) ∧ (z.core k = c) ∧ (c.quiet = true) ∧ (c.reg 15 = ⟨.ptr, p⟩) ∧ (offOf p % 4 = 0) ∧
     (c.reg gt = ⟨.code, x⟩) ∧ (c.access x 4 8 = []) ∧ (ws = c.callWords mask) ∧ (4 * ws.length ≤ offOf p) ∧
     (∀ j : Fin 17, j < ws.length → c.canStore z (moveBy p (-4 * (j.val + 1))) 4 = true ∧ c.policy (moveBy p (-4 * (j.val + 1))) = 0) ∧
     (Poison.wf z.poison = true) ∧
     (∀ j : Fin 17, j < ws.length → (b < c.phys (moveBy p (-4 * (j.val + 1))) ∨ c.phys (moveBy p (-4 * (j.val + 1))) + 4 ≤ b))) ∧
    (let k : Bool := false
     let s : State := ((sloe fun y => ((((y.setReg 1 ⟨.int, 11#32⟩).setReg 2 ⟨.ptr, 0x10000004#32⟩).setReg 3 ⟨.code, 0x40#32⟩).setReg 15 ⟨.ptr, 0x10000100#32⟩)).setNum 0x20000100 8 0x0000000800000007).setTag 0x20000100 .int |>.setTag 0x20000104 .raw
     let z : State := ((sloe fun y => ((((y.setReg 1 ⟨.int, 11#32⟩).setReg 2 ⟨.ptr, 0x10000004#32⟩).setReg 3 ⟨.code, 0x40#32⟩).setReg 15 ⟨.ptr, 0x10000100#32⟩)).setNum 0x20000100 8 0x0000000800000007).setTag 0x20000100 .int |>.setTag 0x20000104 .raw
     let c : CoreState := (((sloe fun y => ((((y.setReg 1 ⟨.int, 11#32⟩).setReg 2 ⟨.ptr, 0x10000004#32⟩).setReg 3 ⟨.code, 0x40#32⟩).setReg 15 ⟨.ptr, 0x10000100#32⟩)).setNum 0x20000100 8 0x0000000800000007).setTag 0x20000100 .int |>.setTag 0x20000104 .raw).core0
     let mask : Fin 32768 := 6
     let p : Word := 0x10000100#32
     let ws : List TWord := [⟨.int, 7#32⟩, ⟨.raw, 8#32⟩]
     let parity : List Nat := []
     (s.begins k = some z) ∧ (z.core k = c) ∧ (c.quiet = true) ∧ (c.reg 15 = ⟨.ptr, p⟩) ∧ (offOf p % 4 = 0) ∧
     (ws.length = (maskRegs mask).length) ∧ (offOf p + 4 * ws.length ≤ 2 ^ 28) ∧ (c.g.length = 16) ∧ (parity = []) ∧
     (∀ j : Fin 17, j < ws.length → c.canLoad z (moveBy p (4 * j.val)) 4 = true ∧ loadedTag z c (moveBy p (4 * j.val)) = (ws.getD j {}).tag ∧ z.num (c.phys (moveBy p (4 * j.val))) 4 = (ws.getD j {}).data.toNat)) ∧
    (let k : Bool := false
     let s : State := (((sloe fun y => ((((y.setReg 1 ⟨.int, 11#32⟩).setReg 2 ⟨.ptr, 0x10000004#32⟩).setReg 3 ⟨.code, 0x40#32⟩).setReg 15 ⟨.ptr, 0x10000100#32⟩)).setNum 0x20000100 8 0x00000007CA110002).setNum 0x20000108 4 0x40).setTag 0x20000100 .handle |>.setTag 0x20000104 .raw |>.setTag 0x20000108 .code
     let z : State := (((sloe fun y => ((((y.setReg 1 ⟨.int, 11#32⟩).setReg 2 ⟨.ptr, 0x10000004#32⟩).setReg 3 ⟨.code, 0x40#32⟩).setReg 15 ⟨.ptr, 0x10000100#32⟩)).setNum 0x20000100 8 0x00000007CA110002).setNum 0x20000108 4 0x40).setTag 0x20000100 .handle |>.setTag 0x20000104 .raw |>.setTag 0x20000108 .code
     let c : CoreState := ((((sloe fun y => ((((y.setReg 1 ⟨.int, 11#32⟩).setReg 2 ⟨.ptr, 0x10000004#32⟩).setReg 3 ⟨.code, 0x40#32⟩).setReg 15 ⟨.ptr, 0x10000100#32⟩)).setNum 0x20000100 8 0x00000007CA110002).setNum 0x20000108 4 0x40).setTag 0x20000100 .handle |>.setTag 0x20000104 .raw |>.setTag 0x20000108 .code).core0
     let mask : Fin 32768 := 2
     let x : Word := 0x40#32
     let p : Word := 0x10000100#32
     let ws : List TWord := [⟨.handle, 0xCA110002#32⟩, ⟨.raw, 7#32⟩, ⟨.code, 0x40#32⟩]
     let parity : List Nat := []
     (s.begins k = some z) ∧ (z.core k = c) ∧ (c.quiet = true) ∧ (c.reg 15 = ⟨.ptr, p⟩) ∧ (offOf p % 4 = 0) ∧
     (ws.length = (maskRegs mask).length + 2) ∧ (offOf p + 4 * ws.length ≤ 2 ^ 28) ∧ (c.g.length = 16) ∧ (parity = []) ∧
     (ws.getD 0 {} = ⟨.handle, BitVec.ofNat 32 (0xCA110000 + mask)⟩) ∧ (ws.getD (ws.length - 1) {} = ⟨.code, x⟩) ∧
     (∀ j : Fin 17, j < ws.length → c.canLoad z (moveBy p (4 * j.val)) 4 = true ∧ loadedTag z c (moveBy p (4 * j.val)) = (ws.getD j {}).tag ∧ z.num (c.phys (moveBy p (4 * j.val))) 4 = (ws.getD j {}).data.toNat)) := by
  refine ⟨?_, ?_, ?_, ?_⟩ <;> decide +kernel

/-- The hypotheses of `CoreControlFlow`, each clause on a state that meets them. -/
theorem witness_CoreControlFlow :
    (let k : Bool := false
     let s : State := (sloeRegs ⟨.int, 3#32⟩ {} {})
     let z : State := (sloeRegs ⟨.int, 3#32⟩ {} {})
     let c : CoreState := ((sloeRegs ⟨.int, 3#32⟩ {} {})).core0
     (s.begins k = some z) ∧ (z.core k = c) ∧ (c.quiet = true)) ∧
    (let k : Bool := false
     let s : State := (sloeRegs ⟨.bool, 1#32⟩ {} {})
     let z : State := (sloeRegs ⟨.bool, 1#32⟩ {} {})
     let c : CoreState := ((sloeRegs ⟨.bool, 1#32⟩ {} {})).core0
     let ga : Fin 16 := 1
     let a : Word := 1#32
     (s.begins k = some z) ∧ (z.core k = c) ∧ (c.quiet = true) ∧ (c.reg ga = ⟨.bool, a⟩)) ∧
    (let k : Bool := false
     let s : State := (sloeRegs ⟨.code, 0x80#32⟩ {} {})
     let z : State := (sloeRegs ⟨.code, 0x80#32⟩ {} {})
     let c : CoreState := ((sloeRegs ⟨.code, 0x80#32⟩ {} {})).core0
     let ga : Fin 16 := 1
     let a : Word := 0x80#32
     (s.begins k = some z) ∧ (z.core k = c) ∧ (c.quiet = true) ∧ (c.reg ga = ⟨.code, a⟩) ∧ (c.access a 4 8 = [])) ∧
    (let k : Bool := false
     let s : State := (vecd 10 (sloeRegs ⟨.int, 3#32⟩ {} {}))
     let z : State := (vecd 10 (sloeRegs ⟨.int, 3#32⟩ {} {}))
     let c : CoreState := ((vecd 10 (sloeRegs ⟨.int, 3#32⟩ {} {}))).core0
     let v : Word := 0x40#32
     (s.begins k = some z) ∧ (z.core k = c) ∧ (c.quiet = true) ∧ (bit c.st 2 = false) ∧ (z.vectorWord k 10 = some v)) ∧
    (let k : Bool := false
     let s : State := (vecd 11 (sloeRegs ⟨.int, 3#32⟩ {} {}))
     let z : State := (vecd 11 (sloeRegs ⟨.int, 3#32⟩ {} {}))
     let c : CoreState := ((vecd 11 (sloeRegs ⟨.int, 3#32⟩ {} {}))).core0
     let v : Word := 0x40#32
     (s.begins k = some z) ∧ (z.core k = c) ∧ (c.quiet = true) ∧ (bit c.st 2 = false) ∧ (z.vectorWord k 11 = some v) ∧
     (c.debugs k = false)) ∧
    (let k : Bool := false
     let s : State := (vecd 1 (sloeRegs ⟨.int, 3#32⟩ {} {}))
     let z : State := (vecd 1 (sloeRegs ⟨.int, 3#32⟩ {} {}))
     let c : CoreState := ((vecd 1 (sloeRegs ⟨.int, 3#32⟩ {} {}))).core0
     let v : Word := 0x40#32
     (s.begins k = some z) ∧ (z.core k = c) ∧ (c.quiet = true) ∧ (bit c.st 2 = false) ∧ (z.vectorWord k 1 = some v)) ∧
    (let k : Bool := false
     let s : State := (vecd 2 (sloe fun y => { y with st := 0, segs := y.segs.set 0 ⟨0, 0x3FFFF, 0x2B⟩ }))
     let z : State := (vecd 2 (sloe fun y => { y with st := 0, segs := y.segs.set 0 ⟨0, 0x3FFFF, 0x2B⟩ }))
     let c : CoreState := ((vecd 2 (sloe fun y => { y with st := 0, segs := y.segs.set 0 ⟨0, 0x3FFFF, 0x2B⟩ }))).core0
     let v : Word := 0x40#32
     (s.begins k = some z) ∧ (z.core k = c) ∧ (c.quiet = true) ∧ (bit c.st 2 = false) ∧ (z.vectorWord k 2 = some v) ∧
     (c.system = false)) ∧
    (let k : Bool := false
     let s : State := (sloe fun y => { y with ipend := 8, ien := 8 })
     let z : State := (sloe fun y => { y with ipend := 8, ien := 8 })
     let c : CoreState := ((sloe fun y => { y with ipend := 8, ien := 8 })).core0
     (s.begins k = some z) ∧ (z.core k = c) ∧ (c.quiet = true) ∧ (Nat.land c.ipend c.ien ≠ 0)) ∧
    (let k : Bool := false
     let s : State := ((sloe fun y => { y with ipend := 8, ien := 4 }).put PRC_CTRL_DOZE_EN 0)
     let z : State := ((sloe fun y => { y with ipend := 8, ien := 4 }).put PRC_CTRL_DOZE_EN 0)
     let c : CoreState := (((sloe fun y => { y with ipend := 8, ien := 4 }).put PRC_CTRL_DOZE_EN 0)).core0
     (s.begins k = some z) ∧ (z.core k = c) ∧ (c.quiet = true) ∧ (Nat.land c.ipend c.ien = 0) ∧
     (z.get PRC_CTRL_DOZE_EN = 0)) ∧
    (let s : State := (sloe fun y => { y with ien := 4 })
     let z : State := (sloe fun y => { y with ien := 4 })
     let c : CoreState := (sloe fun y => { y with ien := 4 }).core0
     (s.begins false = some z) ∧ (z.core0 = c) ∧ (c.quiet = true) ∧ (Nat.land c.ipend c.ien = 0) ∧
     (z.get PRC_CTRL_DOZE_EN = 1) ∧ (z.core1.run = .stopped ∨ z.core1.run = .waiting) ∧ (z.power.state = .run)) ∧
    (let k : Bool := false
     let s : State := (sloeRegs ⟨.int, 3#32⟩ {} {})
     let z : State := (sloeRegs ⟨.int, 3#32⟩ {} {})
     let c : CoreState := ((sloeRegs ⟨.int, 3#32⟩ {} {})).core0
     (s.begins k = some z) ∧ (z.core k = c) ∧ (c.quiet = true)) ∧
    (let k : Bool := false
     let s : State := (sloe fun y => { y with st := 3 })
     let z : State := (sloe fun y => { y with st := 3 })
     let c : CoreState := ((sloe fun y => { y with st := 3 })).core0
     (s.begins k = some z) ∧ (z.core k = c) ∧ (c.quiet = true) ∧ (c.system = true)) ∧
    (let k : Bool := false
     let s : State := (sloe fun y => { y with epc := ⟨.code, 0x80#32⟩, st := 7, est := 3 })
     let z : State := (sloe fun y => { y with epc := ⟨.code, 0x80#32⟩, st := 7, est := 3 })
     let c : CoreState := ((sloe fun y => { y with epc := ⟨.code, 0x80#32⟩, st := 7, est := 3 })).core0
     let a : Word := 0x80#32
     (s.begins k = some z) ∧ (z.core k = c) ∧ (c.quiet = true) ∧ (c.system = true) ∧ (c.epc = ⟨.code, a⟩) ∧ (c.est < 256)) := by
  refine ⟨?_, ?_, ?_, ?_, ?_, ?_, ?_, ?_, ?_, ?_, ?_, ?_, ?_⟩ <;> decide +kernel

/-- The hypotheses of `CoreSystemRegisters`, each clause on a state that meets them. -/
theorem witness_CoreSystemRegisters :
    (let k : Bool := false
     let s : State := (sloe fun y => { (y.setReg 1 ⟨.int, 5#32⟩) with ipend := 2 ^ 33, ien := 2 ^ 34, iprio := 2 ^ 65, gw := List.replicate 8 (1, 2, 3), epc := ⟨.code, 0x44#32⟩ })
     let z : State := (sloe fun y => { (y.setReg 1 ⟨.int, 5#32⟩) with ipend := 2 ^ 33, ien := 2 ^ 34, iprio := 2 ^ 65, gw := List.replicate 8 (1, 2, 3), epc := ⟨.code, 0x44#32⟩ })
     let c : CoreState := ((sloe fun y => { (y.setReg 1 ⟨.int, 5#32⟩) with ipend := 2 ^ 33, ien := 2 ^ 34, iprio := 2 ^ 65, gw := List.replicate 8 (1, 2, 3), epc := ⟨.code, 0x44#32⟩ })).core0
     (s.begins k = some z) ∧ (z.core k = c) ∧ (c.quiet = true)) ∧
    (let k : Bool := false
     let s : State := (sloe fun y => { (y.setReg 1 ⟨.int, 5#32⟩) with ipend := 2 ^ 33, ien := 2 ^ 34, iprio := 2 ^ 65, gw := List.replicate 8 (1, 2, 3), epc := ⟨.code, 0x44#32⟩ })
     let z : State := (sloe fun y => { (y.setReg 1 ⟨.int, 5#32⟩) with ipend := 2 ^ 33, ien := 2 ^ 34, iprio := 2 ^ 65, gw := List.replicate 8 (1, 2, 3), epc := ⟨.code, 0x44#32⟩ })
     let c : CoreState := ((sloe fun y => { (y.setReg 1 ⟨.int, 5#32⟩) with ipend := 2 ^ 33, ien := 2 ^ 34, iprio := 2 ^ 65, gw := List.replicate 8 (1, 2, 3), epc := ⟨.code, 0x44#32⟩ })).core0
     (s.begins k = some z) ∧ (z.core k = c) ∧ (c.quiet = true) ∧ (c.system = true)) ∧
    (let k : Bool := false
     let s : State := (sloe fun y => { (y.setReg 1 ⟨.int, 5#32⟩) with ipend := 2 ^ 33, ien := 2 ^ 34, iprio := 2 ^ 65, gw := List.replicate 8 (1, 2, 3), epc := ⟨.code, 0x44#32⟩ })
     let z : State := (sloe fun y => { (y.setReg 1 ⟨.int, 5#32⟩) with ipend := 2 ^ 33, ien := 2 ^ 34, iprio := 2 ^ 65, gw := List.replicate 8 (1, 2, 3), epc := ⟨.code, 0x44#32⟩ })
     let c : CoreState := ((sloe fun y => { (y.setReg 1 ⟨.int, 5#32⟩) with ipend := 2 ^ 33, ien := 2 ^ 34, iprio := 2 ^ 65, gw := List.replicate 8 (1, 2, 3), epc := ⟨.code, 0x44#32⟩ })).core0
     (s.begins k = some z) ∧ (z.core k = c) ∧ (c.quiet = true)) ∧
    (let k : Bool := false
     let s : State := (sloe fun y => { (y.setReg 1 ⟨.int, 5#32⟩) with ipend := 2 ^ 33, ien := 2 ^ 34, iprio := 2 ^ 65, gw := List.replicate 8 (1, 2, 3), epc := ⟨.code, 0x44#32⟩ })
     let z : State := (sloe fun y => { (y.setReg 1 ⟨.int, 5#32⟩) with ipend := 2 ^ 33, ien := 2 ^ 34, iprio := 2 ^ 65, gw := List.replicate 8 (1, 2, 3), epc := ⟨.code, 0x44#32⟩ })
     let c : CoreState := ((sloe fun y => { (y.setReg 1 ⟨.int, 5#32⟩) with ipend := 2 ^ 33, ien := 2 ^ 34, iprio := 2 ^ 65, gw := List.replicate 8 (1, 2, 3), epc := ⟨.code, 0x44#32⟩ })).core0
     let j : Fin 4 := 1
     let arg : Fin 256 := 17
     (s.begins k = some z) ∧ (z.core k = c) ∧ (c.quiet = true) ∧ (c.system = true) ∧ (arg.val = 0x10 + j.val)) ∧
    (let k : Bool := false
     let s : State := (sloe fun y => { (y.setReg 1 ⟨.int, 5#32⟩) with ipend := 2 ^ 33, ien := 2 ^ 34, iprio := 2 ^ 65, gw := List.replicate 8 (1, 2, 3), epc := ⟨.code, 0x44#32⟩ })
     let z : State := (sloe fun y => { (y.setReg 1 ⟨.int, 5#32⟩) with ipend := 2 ^ 33, ien := 2 ^ 34, iprio := 2 ^ 65, gw := List.replicate 8 (1, 2, 3), epc := ⟨.code, 0x44#32⟩ })
     let c : CoreState := ((sloe fun y => { (y.setReg 1 ⟨.int, 5#32⟩) with ipend := 2 ^ 33, ien := 2 ^ 34, iprio := 2 ^ 65, gw := List.replicate 8 (1, 2, 3), epc := ⟨.code, 0x44#32⟩ })).core0
     let j : Fin 4 := 1
     let arg : Fin 256 := 21
     (s.begins k = some z) ∧ (z.core k = c) ∧ (c.quiet = true) ∧ (c.system = true) ∧ (arg.val = 0x14 + j.val)) ∧
    (let k : Bool := false
     let s : State := (sloe fun y => { (y.setReg 1 ⟨.int, 5#32⟩) with ipend := 2 ^ 33, ien := 2 ^ 34, iprio := 2 ^ 65, gw := List.replicate 8 (1, 2, 3), epc := ⟨.code, 0x44#32⟩ })
     let z : State := (sloe fun y => { (y.setReg 1 ⟨.int, 5#32⟩) with ipend := 2 ^ 33, ien := 2 ^ 34, iprio := 2 ^ 65, gw := List.replicate 8 (1, 2, 3), epc := ⟨.code, 0x44#32⟩ })
     let c : CoreState := ((sloe fun y => { (y.setReg 1 ⟨.int, 5#32⟩) with ipend := 2 ^ 33, ien := 2 ^ 34, iprio := 2 ^ 65, gw := List.replicate 8 (1, 2, 3), epc := ⟨.code, 0x44#32⟩ })).core0
     let j : Fin 8 := 1
     let arg : Fin 256 := 25
     (s.begins k = some z) ∧ (z.core k = c) ∧ (c.quiet = true) ∧ (c.system = true) ∧ (arg.val = 0x18 + j.val)) ∧
    (let k : Bool := false
     let s : State := (sloe fun y => { (y.setReg 1 ⟨.int, 5#32⟩) with ipend := 2 ^ 33, ien := 2 ^ 34, iprio := 2 ^ 65, gw := List.replicate 8 (1, 2, 3), epc := ⟨.code, 0x44#32⟩ })
     let z : State := (sloe fun y => { (y.setReg 1 ⟨.int, 5#32⟩) with ipend := 2 ^ 33, ien := 2 ^ 34, iprio := 2 ^ 65, gw := List.replicate 8 (1, 2, 3), epc := ⟨.code, 0x44#32⟩ })
     let c : CoreState := ((sloe fun y => { (y.setReg 1 ⟨.int, 5#32⟩) with ipend := 2 ^ 33, ien := 2 ^ 34, iprio := 2 ^ 65, gw := List.replicate 8 (1, 2, 3), epc := ⟨.code, 0x44#32⟩ })).core0
     let j : Fin 4 := 1
     let arg : Fin 256 := 33
     (s.begins k = some z) ∧ (z.core k = c) ∧ (c.quiet = true) ∧ (c.system = true) ∧ (arg.val = 0x20 + j.val)) ∧
    (let k : Bool := false
     let s : State := (sloe fun y => { (y.setReg 1 ⟨.int, 5#32⟩) with ipend := 2 ^ 33, ien := 2 ^ 34, iprio := 2 ^ 65, gw := List.replicate 8 (1, 2, 3), epc := ⟨.code, 0x44#32⟩ })
     let z : State := (sloe fun y => { (y.setReg 1 ⟨.int, 5#32⟩) with ipend := 2 ^ 33, ien := 2 ^ 34, iprio := 2 ^ 65, gw := List.replicate 8 (1, 2, 3), epc := ⟨.code, 0x44#32⟩ })
     let c : CoreState := ((sloe fun y => { (y.setReg 1 ⟨.int, 5#32⟩) with ipend := 2 ^ 33, ien := 2 ^ 34, iprio := 2 ^ 65, gw := List.replicate 8 (1, 2, 3), epc := ⟨.code, 0x44#32⟩ })).core0
     let j : Fin 2 := 1
     let arg : Fin 256 := 37
     (s.begins k = some z) ∧ (z.core k = c) ∧ (c.quiet = true) ∧ (c.system = true) ∧ (arg.val = 0x24 + j.val)) ∧
    (let k : Bool := false
     let s : State := (sloe fun y => { (y.setReg 1 ⟨.int, 5#32⟩) with ipend := 2 ^ 33, ien := 2 ^ 34, iprio := 2 ^ 65, gw := List.replicate 8 (1, 2, 3), epc := ⟨.code, 0x44#32⟩ })
     let z : State := (sloe fun y => { (y.setReg 1 ⟨.int, 5#32⟩) with ipend := 2 ^ 33, ien := 2 ^ 34, iprio := 2 ^ 65, gw := List.replicate 8 (1, 2, 3), epc := ⟨.code, 0x44#32⟩ })
     let c : CoreState := ((sloe fun y => { (y.setReg 1 ⟨.int, 5#32⟩) with ipend := 2 ^ 33, ien := 2 ^ 34, iprio := 2 ^ 65, gw := List.replicate 8 (1, 2, 3), epc := ⟨.code, 0x44#32⟩ })).core0
     let j : Fin 24 := 1
     let arg : Fin 256 := 65
     (s.begins k = some z) ∧ (z.core k = c) ∧ (c.quiet = true) ∧ (c.system = true) ∧ (arg.val = 0x40 + j.val)) ∧
    (let k : Bool := false
     let s : State := (sloe fun y => { (y.setReg 1 ⟨.int, 5#32⟩) with ipend := 2 ^ 33, ien := 2 ^ 34, iprio := 2 ^ 65, gw := List.replicate 8 (1, 2, 3), epc := ⟨.code, 0x44#32⟩ })
     let z : State := (sloe fun y => { (y.setReg 1 ⟨.int, 5#32⟩) with ipend := 2 ^ 33, ien := 2 ^ 34, iprio := 2 ^ 65, gw := List.replicate 8 (1, 2, 3), epc := ⟨.code, 0x44#32⟩ })
     let c : CoreState := ((sloe fun y => { (y.setReg 1 ⟨.int, 5#32⟩) with ipend := 2 ^ 33, ien := 2 ^ 34, iprio := 2 ^ 65, gw := List.replicate 8 (1, 2, 3), epc := ⟨.code, 0x44#32⟩ })).core0
     let arg : Fin 256 := 0x5A
     (s.begins k = some z) ∧ (z.core k = c) ∧ (c.quiet = true) ∧ (c.system = true) ∧
     ((0xA < arg.val ∧ arg.val < 0x10) ∨ (0x27 < arg.val ∧ arg.val < 0x40) ∨ 0x59 < arg.val)) ∧
    (let k : Bool := false
     let s : State := (sloe fun y => { (y.setReg 1 ⟨.int, 5#32⟩) with ipend := 2 ^ 33, ien := 2 ^ 34, iprio := 2 ^ 65, gw := List.replicate 8 (1, 2, 3), epc := ⟨.code, 0x44#32⟩ })
     let z : State := (sloe fun y => { (y.setReg 1 ⟨.int, 5#32⟩) with ipend := 2 ^ 33, ien := 2 ^ 34, iprio := 2 ^ 65, gw := List.replicate 8 (1, 2, 3), epc := ⟨.code, 0x44#32⟩ })
     let c : CoreState := ((sloe fun y => { (y.setReg 1 ⟨.int, 5#32⟩) with ipend := 2 ^ 33, ien := 2 ^ 34, iprio := 2 ^ 65, gw := List.replicate 8 (1, 2, 3), epc := ⟨.code, 0x44#32⟩ })).core0
     let ga : Fin 16 := 1
     let a : Word := 5#32
     let t : Tag := Tag.int
     (s.begins k = some z) ∧ (z.core k = c) ∧ (c.quiet = true) ∧ (c.system = true) ∧ (c.reg ga = ⟨t, a⟩) ∧
     (t = .int ∨ t = .raw)) ∧
    (let k : Bool := false
     let s : State := (sloeRegs ⟨.code, 0x44#32⟩ {} {})
     let z : State := (sloeRegs ⟨.code, 0x44#32⟩ {} {})
     let c : CoreState := ((sloeRegs ⟨.code, 0x44#32⟩ {} {})).core0
     let ga : Fin 16 := 1
     let a : Word := 0x44#32
     (s.begins k = some z) ∧ (z.core k = c) ∧ (c.quiet = true) ∧ (c.system = true) ∧ (c.reg ga = ⟨.code, a⟩)) ∧
    (let k : Bool := false
     let s : State := (sloeRegs ⟨.ptr, 0x10000044#32⟩ {} {})
     let z : State := (sloeRegs ⟨.ptr, 0x10000044#32⟩ {} {})
     let c : CoreState := ((sloeRegs ⟨.ptr, 0x10000044#32⟩ {} {})).core0
     let ga : Fin 16 := 1
     let a : Word := 0x10000044#32
     (s.begins k = some z) ∧ (z.core k = c) ∧ (c.quiet = true) ∧ (c.system = true) ∧ (c.reg ga = ⟨.ptr, a⟩)) ∧
    (let k : Bool := false
     let s : State := (sloeRegs ⟨.int, 3#32⟩ {} {})
     let z : State := (sloeRegs ⟨.int, 3#32⟩ {} {})
     let c : CoreState := ((sloeRegs ⟨.int, 3#32⟩ {} {})).core0
     let ga : Fin 16 := 1
     let x : TWord := ⟨.int, 3#32⟩
     (s.begins k = some z) ∧ (z.core k = c) ∧ (c.quiet = true) ∧ (c.system = true) ∧ (c.reg ga = x)) ∧
    (let k : Bool := false
     let s : State := (sloe fun y => { (y.setReg 1 ⟨.int, 5#32⟩) with ipend := 2 ^ 33, ien := 2 ^ 34, iprio := 2 ^ 65, gw := List.replicate 8 (1, 2, 3), epc := ⟨.code, 0x44#32⟩ })
     let z : State := (sloe fun y => { (y.setReg 1 ⟨.int, 5#32⟩) with ipend := 2 ^ 33, ien := 2 ^ 34, iprio := 2 ^ 65, gw := List.replicate 8 (1, 2, 3), epc := ⟨.code, 0x44#32⟩ })
     let c : CoreState := ((sloe fun y => { (y.setReg 1 ⟨.int, 5#32⟩) with ipend := 2 ^ 33, ien := 2 ^ 34, iprio := 2 ^ 65, gw := List.replicate 8 (1, 2, 3), epc := ⟨.code, 0x44#32⟩ })).core0
     let ga : Fin 16 := 1
     let a : Word := 5#32
     let j : Fin 4 := 1
     let arg : Fin 256 := 17
     (s.begins k = some z) ∧ (z.core k = c) ∧ (c.quiet = true) ∧ (c.system = true) ∧ (c.reg ga = ⟨.int, a⟩) ∧
     (arg.val = 0x10 + j.val)) ∧
    (let k : Bool := false
     let s : State := (sloe fun y => { (y.setReg 1 ⟨.int, 5#32⟩) with ipend := 2 ^ 33, ien := 2 ^ 34, iprio := 2 ^ 65, gw := List.replicate 8 (1, 2, 3), epc := ⟨.code, 0x44#32⟩ })
     let z : State := (sloe fun y => { (y.setReg 1 ⟨.int, 5#32⟩) with ipend := 2 ^ 33, ien := 2 ^ 34, iprio := 2 ^ 65, gw := List.replicate 8 (1, 2, 3), epc := ⟨.code, 0x44#32⟩ })
     let c : CoreState := ((sloe fun y => { (y.setReg 1 ⟨.int, 5#32⟩) with ipend := 2 ^ 33, ien := 2 ^ 34, iprio := 2 ^ 65, gw := List.replicate 8 (1, 2, 3), epc := ⟨.code, 0x44#32⟩ })).core0
     let ga : Fin 16 := 1
     let a : Word := 5#32
     let j : Fin 4 := 1
     let arg : Fin 256 := 21
     (s.begins k = some z) ∧ (z.core k = c) ∧ (c.quiet = true) ∧ (c.system = true) ∧ (c.reg ga = ⟨.int, a⟩) ∧
     (arg.val = 0x14 + j.val)) ∧
    (let k : Bool := false
     let s : State := (sloe fun y => { (y.setReg 1 ⟨.int, 5#32⟩) with ipend := 2 ^ 33, ien := 2 ^ 34, iprio := 2 ^ 65, gw := List.replicate 8 (1, 2, 3), epc := ⟨.code, 0x44#32⟩ })
     let z : State := (sloe fun y => { (y.setReg 1 ⟨.int, 5#32⟩) with ipend := 2 ^ 33, ien := 2 ^ 34, iprio := 2 ^ 65, gw := List.replicate 8 (1, 2, 3), epc := ⟨.code, 0x44#32⟩ })
     let c : CoreState := ((sloe fun y => { (y.setReg 1 ⟨.int, 5#32⟩) with ipend := 2 ^ 33, ien := 2 ^ 34, iprio := 2 ^ 65, gw := List.replicate 8 (1, 2, 3), epc := ⟨.code, 0x44#32⟩ })).core0
     let ga : Fin 16 := 1
     let a : Word := 5#32
     let j : Fin 8 := 1
     let arg : Fin 256 := 25
     (s.begins k = some z) ∧ (z.core k = c) ∧ (c.quiet = true) ∧ (c.system = true) ∧ (c.reg ga = ⟨.int, a⟩) ∧
     (arg.val = 0x18 + j.val)) ∧
    (let k : Bool := false
     let s : State := (sloeRegs ⟨.code, 0x44#32⟩ {} {})
     let z : State := (sloeRegs ⟨.code, 0x44#32⟩ {} {})
     let c : CoreState := ((sloeRegs ⟨.code, 0x44#32⟩ {} {})).core0
     let ga : Fin 16 := 1
     let a : Word := 0x44#32
     let j : Fin 4 := 1
     let arg : Fin 256 := 33
     (s.begins k = some z) ∧ (z.core k = c) ∧ (c.quiet = true) ∧ (c.system = true) ∧ (c.reg ga = ⟨.code, a⟩) ∧
     (arg.val = 0x20 + j.val)) ∧
    (let k : Bool := false
     let s : State := (sloeRegs ⟨.ptr, 0x10000044#32⟩ {} {})
     let z : State := (sloeRegs ⟨.ptr, 0x10000044#32⟩ {} {})
     let c : CoreState := ((sloeRegs ⟨.ptr, 0x10000044#32⟩ {} {})).core0
     let ga : Fin 16 := 1
     let a : Word := 0x10000044#32
     let j : Fin 2 := 1
     let arg : Fin 256 := 37
     (s.begins k = some z) ∧ (z.core k = c) ∧ (c.quiet = true) ∧ (c.system = true) ∧ (c.reg ga = ⟨.ptr, a⟩) ∧
     (arg.val = 0x24 + j.val)) ∧
    (let k : Bool := false
     let s : State := (sloe fun y => { (y.setReg 1 ⟨.int, 5#32⟩) with ipend := 2 ^ 33, ien := 2 ^ 34, iprio := 2 ^ 65, gw := List.replicate 8 (1, 2, 3), epc := ⟨.code, 0x44#32⟩ })
     let z : State := (sloe fun y => { (y.setReg 1 ⟨.int, 5#32⟩) with ipend := 2 ^ 33, ien := 2 ^ 34, iprio := 2 ^ 65, gw := List.replicate 8 (1, 2, 3), epc := ⟨.code, 0x44#32⟩ })
     let c : CoreState := ((sloe fun y => { (y.setReg 1 ⟨.int, 5#32⟩) with ipend := 2 ^ 33, ien := 2 ^ 34, iprio := 2 ^ 65, gw := List.replicate 8 (1, 2, 3), epc := ⟨.code, 0x44#32⟩ })).core0
     let ga : Fin 16 := 1
     let a : Word := 5#32
     let j : Fin 24 := 1
     let arg : Fin 256 := 65
     (s.begins k = some z) ∧ (z.core k = c) ∧ (c.quiet = true) ∧ (c.system = true) ∧ (k = false) ∧
     (c.reg ga = ⟨.int, a⟩) ∧ (arg.val = 0x40 + j.val)) ∧
    (let k : Bool := false
     let s : State := (sloeRegs ⟨.code, 0x44#32⟩ {} {})
     let z : State := (sloeRegs ⟨.code, 0x44#32⟩ {} {})
     let c : CoreState := ((sloeRegs ⟨.code, 0x44#32⟩ {} {})).core0
     let ga : Fin 16 := 1
     let a : Word := 0x44#32
     (s.begins k = some z) ∧ (z.core k = c) ∧ (c.quiet = true) ∧ (c.system = true) ∧ (k = false) ∧ (c.reg ga = ⟨.code, a⟩)) ∧
    (let k : Bool := false
     let s : State := (sloeRegs ⟨.int, 0x20000000#32⟩ ⟨.int, 0xFFF#32⟩ ⟨.int, 7#32⟩)
     let z : State := (sloeRegs ⟨.int, 0x20000000#32⟩ ⟨.int, 0xFFF#32⟩ ⟨.int, 7#32⟩)
     let c : CoreState := ((sloeRegs ⟨.int, 0x20000000#32⟩ ⟨.int, 0xFFF#32⟩ ⟨.int, 7#32⟩)).core0
     let gd : Fin 16 := 3
     let ga : Fin 16 := 1
     let gb : Fin 16 := 2
     let base : Word := 0x20000000#32
     let lim : Word := 0xFFF#32
     let attr : Word := 7#32
     (s.begins k = some z) ∧ (z.core k = c) ∧ (c.quiet = true) ∧ (c.system = true) ∧ (c.reg ga = ⟨.int, base⟩) ∧
     (c.reg gb = ⟨.int, lim⟩) ∧ (c.reg gd = ⟨.int, attr⟩) ∧ (attr.toNat < 128) ∧ (slice attr.toNat 5 2 ≠ 3) ∧
     (lim.toNat < 2 ^ 28) ∧ (base.toNat + lim.toNat < 2 ^ 32) ∧
     (slice attr.toNat 5 2 = 0 → inSys base.toNat = true ∧ inSys (base.toNat + lim.toNat) = true) ∧
     (k = true → z.core1.granted ⟨base.toNat, lim.toNat, attr.toNat⟩ = true)) ∧
    (let k : Bool := false
     let s : State := (sloeRegs ⟨.int, 3#32⟩ {} {})
     let z : State := (sloeRegs ⟨.int, 3#32⟩ {} {})
     let c : CoreState := ((sloeRegs ⟨.int, 3#32⟩ {} {})).core0
     (s.begins k = some z) ∧ (z.core k = c) ∧ (c.quiet = true) ∧ (c.system = true)) := by
  refine ⟨?_, ?_, ?_, ?_, ?_, ?_, ?_, ?_, ?_, ?_, ?_, ?_, ?_, ?_, ?_, ?_, ?_, ?_, ?_, ?_, ?_, ?_, ?_⟩ <;> decide +kernel

/-- The hypotheses of `CoreInterruptsDebugAndStart`, each clause on a state that meets them. -/
theorem witness_CoreInterruptsDebugAndStart :
    (let k : Bool := false
     let s : State := (vecd 17 (sloe fun y => { y with ipend := 6, ien := 6, iprio := 0x18, st := 3 }))
     let c : CoreState := ((vecd 17 (sloe fun y => { y with ipend := 6, ien := 6, iprio := 0x18, st := 3 }))).core0
     let n : Fin 128 := 1
     let v : Word := 0x40#32
     (s.issues k = true) ∧ (s.core k = c) ∧ (bit c.dctrl 9 = false) ∧ (c.storeErr = none) ∧ (c.eligible n = true) ∧
     (∀ m : Fin 128, c.eligible m = true → (c.linePrio m < c.linePrio n ∨ (c.linePrio m = c.linePrio n ∧ n.val ≤ m.val))) ∧
     (s.vectorWord k (16 + n.val) = some v)) ∧
    (let k : Bool := false
     let s : State := (vecd 9 (sloe fun y => { y with storeErr := some 0x50000000 }))
     let c : CoreState := (vecd 9 (sloe fun y => { y with storeErr := some 0x50000000 })).core0
     let a : Nat := 0x50000000
     let v : Word := 0x40#32
     (s.issues k = true) ∧ (s.core k = c) ∧ (bit c.dctrl 9 = false) ∧ (c.storeErr = some a) ∧ (s.vectorWord k 9 = some v)) ∧
    (let k : Bool := false
     let s : State := (sloe fun y => { y with ipend := 8, ien := 8, run := .waiting })
     let c : CoreState := (sloe fun y => { y with ipend := 8, ien := 8, run := .waiting }).core0
     (s.core k = c) ∧ (c.run = .waiting) ∧ (c.halted = false) ∧ (Nat.land c.ipend c.ien ≠ 0) ∧ (c.bestLine = none) ∧
     (bit c.dctrl 9 = false) ∧ (c.storeErr = none)) ∧
    (let k : Bool := false
     let s : State := (sloe fun y => { y with dctrl := 512 })
     let c : CoreState := (sloe fun y => { y with dctrl := 512 }).core0
     (s.core k = c) ∧ (c.run = .running ∨ c.run = .waiting) ∧ (c.halted = false) ∧ (bit c.dctrl 9 = true)) ∧
    (let s : State := { conc with core1 := { conc.core1 with halted := true, dctrl := 1 } }
     (s.core1.halted = true) ∧ (bit s.core1.dctrl 0 = true)) ∧
    (let k : Bool := true
     let s : State := { conc with core1 := { conc.core1 with halted := true, dctrl := 1 } }
     let c : CoreState := { conc.core1 with halted := true, dctrl := 1 }
     (s.core k = c)) ∧
    (let s : State := { conc with core1 := { conc.core1 with entry := ⟨.code, 0x40#32⟩ } }
     let a : Word := 0x40#32
     (s.core1.run = .stopped) ∧ (s.core1.entry = ⟨.code, a⟩)) ∧
    (let s : State := { conc with core1 := { conc.core1 with run := .running } }
     (s.core1.run = .running ∨ s.core1.run = .waiting)) ∧
    (let s : State := { conc with core1 := { conc.core1 with segs := List.replicate 16 ⟨0x20000000, 0xFF, 7⟩ } }
     let j : Fin 16 := 3
     let d : Desc := ⟨0x20000000, 0xFF, 7⟩
     (s.core1.gw.length = 8) ∧ (s.core1.segs.length = 16) ∧ (s.core1.segs.getD j {} = d)) ∧
    (let s : State := { conc with core1 := { conc.core1 with run := .running, checker := true } }
     (s.core1.checker = true) ∧ (s.core1.run = .running) ∧ (s.faults.fatals = 0)) := by
  refine ⟨?_, ?_, ?_, ?_, ?_, ?_, ?_, ?_, ?_, ?_⟩ <;> decide +kernel

/-- The hypotheses of `CoreMultiplyAccumulate`, each clause on a state that meets them. -/
theorem witness_CoreMultiplyAccumulate :
    (let k : Bool := false
     let s : State := (sloe fun y => { ((y.setReg 1 ⟨.frac, 0x60000000#32⟩).setReg 2 ⟨.frac, 0x40000001#32⟩) with acc := [5, -3, 549755813887, 0], st := 0x10001 })
     let z : State := (sloe fun y => { ((y.setReg 1 ⟨.frac, 0x60000000#32⟩).setReg 2 ⟨.frac, 0x40000001#32⟩) with acc := [5, -3, 549755813887, 0], st := 0x10001 })
     let c : CoreState := ((sloe fun y => { ((y.setReg 1 ⟨.frac, 0x60000000#32⟩).setReg 2 ⟨.frac, 0x40000001#32⟩) with acc := [5, -3, 549755813887, 0], st := 0x10001 })).core0
     let an : Fin 4 := 2
     let m : Int := 549755813887
     let r : Int := 805306369
     let ga : Fin 16 := 1
     let gb : Fin 16 := 2
     let a : Word := 0x60000000#32
     let b : Word := 0x40000001#32
     (s.begins k = some z) ∧ (z.core k = c) ∧ (c.quiet = true) ∧ (c.reg ga = ⟨.frac, a⟩) ∧ (c.reg gb = ⟨.frac, b⟩) ∧
     (bit c.st 19 = false) ∧ (c.acc.getD an 0 = m) ∧ (roundedTo (c.st / 2 ^ 16 % 4) (a.toInt * b.toInt) r 31 = true)) ∧
    (let k : Bool := false
     let s : State := (sloe fun y => { ((y.setReg 1 ⟨.frac, 0x60000000#32⟩).setReg 2 ⟨.frac, 0x40000001#32⟩) with acc := [5, -3, 549755813887, 0], st := 0x10001 })
     let z : State := (sloe fun y => { ((y.setReg 1 ⟨.frac, 0x60000000#32⟩).setReg 2 ⟨.frac, 0x40000001#32⟩) with acc := [5, -3, 549755813887, 0], st := 0x10001 })
     let c : CoreState := ((sloe fun y => { ((y.setReg 1 ⟨.frac, 0x60000000#32⟩).setReg 2 ⟨.frac, 0x40000001#32⟩) with acc := [5, -3, 549755813887, 0], st := 0x10001 })).core0
     let ga : Fin 16 := 1
     let gb : Fin 16 := 2
     let a : Word := 0x60000000#32
     let b : Word := 0x40000001#32
     (s.begins k = some z) ∧ (z.core k = c) ∧ (c.quiet = true) ∧ (c.reg ga = ⟨.frac, a⟩) ∧ (c.reg gb = ⟨.frac, b⟩) ∧
     (bit c.st 19 = false)) ∧
    (let k : Bool := false
     let s : State := (sloe fun y => { ((y.setReg 1 ⟨.frac, 0x60000000#32⟩).setReg 2 ⟨.frac, 0x40000001#32⟩) with acc := [5, -3, 549755813887, 0], st := 0x10001 })
     let z : State := (sloe fun y => { ((y.setReg 1 ⟨.frac, 0x60000000#32⟩).setReg 2 ⟨.frac, 0x40000001#32⟩) with acc := [5, -3, 549755813887, 0], st := 0x10001 })
     let c : CoreState := ((sloe fun y => { ((y.setReg 1 ⟨.frac, 0x60000000#32⟩).setReg 2 ⟨.frac, 0x40000001#32⟩) with acc := [5, -3, 549755813887, 0], st := 0x10001 })).core0
     let r : Int := 805306369
     let ga : Fin 16 := 1
     let gb : Fin 16 := 2
     let a : Word := 0x60000000#32
     let b : Word := 0x40000001#32
     (s.begins k = some z) ∧ (z.core k = c) ∧ (c.quiet = true) ∧ (c.reg ga = ⟨.frac, a⟩) ∧ (c.reg gb = ⟨.frac, b⟩) ∧
     (bit c.st 19 = false) ∧ (roundedTo (c.st / 2 ^ 16 % 4) (a.toInt * b.toInt) r 31 = true)) ∧
    (let k : Bool := false
     let s : State := (sloe fun y => { ((y.setReg 1 ⟨.frac, 0x60000000#32⟩).setReg 2 ⟨.frac, 0x40000001#32⟩) with acc := [5, -3, 549755813887, 0], st := 0x10001 })
     let z : State := (sloe fun y => { ((y.setReg 1 ⟨.frac, 0x60000000#32⟩).setReg 2 ⟨.frac, 0x40000001#32⟩) with acc := [5, -3, 549755813887, 0], st := 0x10001 })
     let c : CoreState := ((sloe fun y => { ((y.setReg 1 ⟨.frac, 0x60000000#32⟩).setReg 2 ⟨.frac, 0x40000001#32⟩) with acc := [5, -3, 549755813887, 0], st := 0x10001 })).core0
     let an : Fin 4 := 0
     let am : Fin 4 := 2
     let a : Int := 5
     let m : Int := 549755813887
     (s.begins k = some z) ∧ (z.core k = c) ∧ (c.quiet = true) ∧ (bit c.st 19 = false) ∧ (c.acc.getD an 0 = a) ∧
     (c.acc.getD am 0 = m)) ∧
    (let k : Bool := false
     let s : State := (sloe fun y => { ((y.setReg 1 ⟨.frac, 0x60000000#32⟩).setReg 2 ⟨.frac, 0x40000001#32⟩) with acc := [5, -3, 549755813887, 0], st := 0x10001 })
     let z : State := (sloe fun y => { ((y.setReg 1 ⟨.frac, 0x60000000#32⟩).setReg 2 ⟨.frac, 0x40000001#32⟩) with acc := [5, -3, 549755813887, 0], st := 0x10001 })
     let c : CoreState := ((sloe fun y => { ((y.setReg 1 ⟨.frac, 0x60000000#32⟩).setReg 2 ⟨.frac, 0x40000001#32⟩) with acc := [5, -3, 549755813887, 0], st := 0x10001 })).core0
     let am : Fin 4 := 1
     let m : Int := -3
     let r : Int := -1
     let j : Fin 32 := 1
     (s.begins k = some z) ∧ (z.core k = c) ∧ (c.quiet = true) ∧ (bit c.st 19 = false) ∧ (c.acc.getD am 0 = m) ∧
     (roundedTo (c.st / 2 ^ 16 % 4) m r j = true)) ∧
    (let k : Bool := false
     let s : State := (sloe fun y => { ((y.setReg 1 ⟨.frac, 0x60000000#32⟩).setReg 2 ⟨.frac, 0x40000001#32⟩) with acc := [5, -3, 549755813887, 0], st := 0x10001 })
     let z : State := (sloe fun y => { ((y.setReg 1 ⟨.frac, 0x60000000#32⟩).setReg 2 ⟨.frac, 0x40000001#32⟩) with acc := [5, -3, 549755813887, 0], st := 0x10001 })
     let c : CoreState := ((sloe fun y => { ((y.setReg 1 ⟨.frac, 0x60000000#32⟩).setReg 2 ⟨.frac, 0x40000001#32⟩) with acc := [5, -3, 549755813887, 0], st := 0x10001 })).core0
     (s.begins k = some z) ∧ (z.core k = c) ∧ (c.quiet = true)) ∧
    (let k : Bool := false
     let s : State := (sloe fun y => { ((y.setReg 1 ⟨.frac, 0x60000000#32⟩).setReg 2 ⟨.frac, 0x40000001#32⟩) with acc := [5, -3, 549755813887, 0], st := 0x10001 })
     let z : State := (sloe fun y => { ((y.setReg 1 ⟨.frac, 0x60000000#32⟩).setReg 2 ⟨.frac, 0x40000001#32⟩) with acc := [5, -3, 549755813887, 0], st := 0x10001 })
     let c : CoreState := ((sloe fun y => { ((y.setReg 1 ⟨.frac, 0x60000000#32⟩).setReg 2 ⟨.frac, 0x40000001#32⟩) with acc := [5, -3, 549755813887, 0], st := 0x10001 })).core0
     let arg : Fin 32 := 18
     let n : Nat := 0x20001
     (s.begins k = some z) ∧ (z.core k = c) ∧ (c.quiet = true) ∧ (arg.val % 4 ≠ 3) ∧
     (n = c.st % 2 ^ 16 + 2 ^ 16 * (arg.val % 16) + 2 ^ 20 * (c.st / 2 ^ 20))) ∧
    (let k : Bool := false
     let s : State := (sloe fun y => { ((y.setReg 1 ⟨.frac, 0x60000000#32⟩).setReg 2 ⟨.frac, 0x40000001#32⟩) with acc := [5, -3, 549755813887, 0], st := 0x10001 })
     let z : State := (sloe fun y => { ((y.setReg 1 ⟨.frac, 0x60000000#32⟩).setReg 2 ⟨.frac, 0x40000001#32⟩) with acc := [5, -3, 549755813887, 0], st := 0x10001 })
     let c : CoreState := ((sloe fun y => { ((y.setReg 1 ⟨.frac, 0x60000000#32⟩).setReg 2 ⟨.frac, 0x40000001#32⟩) with acc := [5, -3, 549755813887, 0], st := 0x10001 })).core0
     let ga : Fin 16 := 1
     let a : Word := 0x60000000#32
     (s.begins k = some z) ∧ (z.core k = c) ∧ (c.quiet = true) ∧ (c.reg ga = ⟨.frac, a⟩)) ∧
    (let k : Bool := false
     let s : State := (sloeRegs ⟨.int, 0xFF#32⟩ ⟨.int, 9#32⟩ {})
     let z : State := (sloeRegs ⟨.int, 0xFF#32⟩ ⟨.int, 9#32⟩ {})
     let c : CoreState := ((sloeRegs ⟨.int, 0xFF#32⟩ ⟨.int, 9#32⟩ {})).core0
     let ga : Fin 16 := 1
     let gb : Fin 16 := 2
     let a : Word := 0xFF#32
     let b : Word := 9#32
     let t : Tag := .int
     (s.begins k = some z) ∧ (z.core k = c) ∧ (c.quiet = true) ∧ (c.reg ga = ⟨.int, a⟩) ∧ (c.reg gb = ⟨t, b⟩) ∧
     (t = .int ∨ t = .raw)) := by
  refine ⟨?_, ?_, ?_, ?_, ?_, ?_, ?_, ?_, ?_⟩ <;> decide +kernel

/-- The hypotheses of `CoreTapsAndRepeats`, each clause on a state that meets them. -/
theorem witness_CoreTapsAndRepeats :
    (let k : Bool := false
     let s : State := (((((sloe fun y => (y.setReg 1 ⟨.ptr, 0x10000100#32⟩).setReg 2 ⟨.ptr, 0x10000200#32⟩).setNum 0x20000100 4 0x40000000).setNum 0x20000200 4 0x40000000).setTag 0x20000100 .frac).setTag 0x20000200 .raw)
     let z : State := (((((sloe fun y => (y.setReg 1 ⟨.ptr, 0x10000100#32⟩).setReg 2 ⟨.ptr, 0x10000200#32⟩).setNum 0x20000100 4 0x40000000).setNum 0x20000200 4 0x40000000).setTag 0x20000100 .frac).setTag 0x20000200 .raw)
     let c : CoreState := ((((((sloe fun y => (y.setReg 1 ⟨.ptr, 0x10000100#32⟩).setReg 2 ⟨.ptr, 0x10000200#32⟩).setNum 0x20000100 4 0x40000000).setNum 0x20000200 4 0x40000000).setTag 0x20000100 .frac).setTag 0x20000200 .raw)).core0
     let gx : Fin 16 := 1
     let gy : Fin 16 := 2
     let xmod : Fin 5 := 1
     let ymod : Fin 5 := 4
     let p : Word := 0x10000100#32
     let q : Word := 0x10000200#32
     let h : Word := 0x40000000#32
     let x : Word := 0x40000000#32
     let r : Int := 536870912
     (s.begins k = some z) ∧ (z.core k = c) ∧ (c.quiet = true) ∧ (c.reg gx = ⟨.ptr, p⟩) ∧ (c.reg gy = ⟨.ptr, q⟩) ∧
     (gx ≠ gy) ∧ (bit c.st 19 = false) ∧ (c.canLoad z p 4 = true) ∧ (c.canLoad z q 4 = true) ∧
     (x = BitVec.ofNat 32 (z.num (c.phys p) 4)) ∧ (h = BitVec.ofNat 32 (z.num (c.phys q) 4)) ∧
     (loadedTag z c p = .frac ∨ loadedTag z c p = .raw) ∧ (loadedTag z c q = .frac ∨ loadedTag z c q = .raw) ∧
     (roundedTo (c.st / 2 ^ 16 % 4) (x.toInt * h.toInt) r 31 = true) ∧ (c.moves p xmod = true) ∧ (c.moves q ymod = true)) ∧
    (let k : Bool := false
     let s : State := (sloeRegs ⟨.int, 3#32⟩ {} {})
     let z : State := (sloeRegs ⟨.int, 3#32⟩ {} {})
     let c : CoreState := ((sloeRegs ⟨.int, 3#32⟩ {} {})).core0
     let len : Fin 32 := 4
     let n : Fin 65536 := 9
     (s.begins k = some z) ∧ (z.core k = c) ∧ (c.quiet = true) ∧ (len.val ≠ 0) ∧ (n.val ≠ 0)) ∧
    (let k : Bool := false
     let s : State := (sloeRegs ⟨.int, 3#32⟩ {} {})
     let z : State := (sloeRegs ⟨.int, 3#32⟩ {} {})
     let c : CoreState := ((sloeRegs ⟨.int, 3#32⟩ {} {})).core0
     let len : Fin 32 := 4
     let ga : Fin 16 := 1
     let a : Word := 3#32
     (s.begins k = some z) ∧ (z.core k = c) ∧ (c.quiet = true) ∧ (len.val ≠ 0) ∧ (c.reg ga = ⟨.int, a⟩)) ∧
    (let k : Bool := false
     let s : State := (sloe fun y => { y with pc := 0x40#32, reps := [⟨0x20#32, 0x40#32, 3, false⟩] })
     let z : State := (sloe fun y => { y with pc := 0x40#32, reps := [⟨0x20#32, 0x40#32, 3, false⟩] })
     let c : CoreState := ((sloe fun y => { y with pc := 0x40#32, reps := [⟨0x20#32, 0x40#32, 3, false⟩] })).core0
     let e : RepEntry := ⟨0x20#32, 0x40#32, 3, false⟩
     (s.begins k = some z) ∧ (z.core k = c) ∧ (c.reps = [e]) ∧ (e.stop = c.pc) ∧ (slice c.dctrl 5 4 = 0) ∧
     (bit c.st 7 = false) ∧ (1 < e.count) ∧ (e.start ≠ c.pc)) ∧
    (let k : Bool := false
     let s : State := (sloe fun y => { y with pc := 0x40#32, reps := [⟨0x20#32, 0x40#32, 1, false⟩] })
     let z : State := (sloe fun y => { y with pc := 0x40#32, reps := [⟨0x20#32, 0x40#32, 1, false⟩] })
     let c : CoreState := ((sloe fun y => { y with pc := 0x40#32, reps := [⟨0x20#32, 0x40#32, 1, false⟩] })).core0
     let e : RepEntry := ⟨0x20#32, 0x40#32, 1, false⟩
     (s.begins k = some z) ∧ (z.core k = c) ∧ (c.reps = [e]) ∧ (e.stop = c.pc) ∧ (slice c.dctrl 5 4 = 0) ∧
     (bit c.st 7 = false) ∧ (e.count ≤ 1)) ∧
    (let k : Bool := false
     let s : State := (sloe fun y => (y.setReg 1 ⟨.ptr, 0x10000100#32⟩).setReg 2 ⟨.ptr, 0x10000200#32⟩)
     let z : State := (sloe fun y => (y.setReg 1 ⟨.ptr, 0x10000100#32⟩).setReg 2 ⟨.ptr, 0x10000200#32⟩)
     let c : CoreState := ((sloe fun y => (y.setReg 1 ⟨.ptr, 0x10000100#32⟩).setReg 2 ⟨.ptr, 0x10000200#32⟩)).core0
     let ga : Fin 16 := 1
     let p : Word := 0x10000100#32
     let b : Nat := 0x20000134
     (s.begins k = some z) ∧ (z.core k = c) ∧ (c.quiet = true) ∧ (c.reg ga = ⟨.ptr, p⟩) ∧ (offOf p + 52 ≤ 2 ^ 28) ∧
     (∀ i : Fin 13, c.canStore z (moveBy p (4 * i.val)) 4 = true) ∧ (c.policy p = 0) ∧ (Poison.wf z.poison = true) ∧
     (∀ i : Fin 13, b < c.phys (moveBy p (4 * i.val)) ∨ c.phys (moveBy p (4 * i.val)) + 4 ≤ b)) ∧
    (let k : Bool := false
     let s : State := ((sloe fun y => (y.setReg 1 ⟨.ptr, 0x10000100#32⟩).setReg 2 ⟨.ptr, 0x10000200#32⟩).setNum 0x20000100 16 0x00000003000000800000007000000001 |>.setTag 0x20000100 .int |>.setTag 0x20000104 .code |>.setTag 0x20000108 .code |>.setTag 0x2000010C .int)
     let z : State := ((sloe fun y => (y.setReg 1 ⟨.ptr, 0x10000100#32⟩).setReg 2 ⟨.ptr, 0x10000200#32⟩).setNum 0x20000100 16 0x00000003000000800000007000000001 |>.setTag 0x20000100 .int |>.setTag 0x20000104 .code |>.setTag 0x20000108 .code |>.setTag 0x2000010C .int)
     let c : CoreState := (((sloe fun y => (y.setReg 1 ⟨.ptr, 0x10000100#32⟩).setReg 2 ⟨.ptr, 0x10000200#32⟩).setNum 0x20000100 16 0x00000003000000800000007000000001 |>.setTag 0x20000100 .int |>.setTag 0x20000104 .code |>.setTag 0x20000108 .code |>.setTag 0x2000010C .int)).core0
     let ga : Fin 16 := 1
     let p : Word := 0x10000100#32
     let lo : Word := 0x70#32
     let hi : Word := 0x80#32
     let n : Word := 3#32
     (s.begins k = some z) ∧ (z.core k = c) ∧ (c.quiet = true) ∧ (c.reg ga = ⟨.ptr, p⟩) ∧ (offOf p + 52 ≤ 2 ^ 28) ∧
     (∀ i : Fin 13, c.canLoad z (moveBy p (4 * i.val)) 4 = true) ∧ (loadedTag z c p = .int) ∧ (z.num (c.phys p) 4 = 1) ∧
     (loadedTag z c (moveBy p 4) = .code) ∧ (loadedTag z c (moveBy p 8) = .code) ∧ (loadedTag z c (moveBy p 12) = .int) ∧
     (z.num (c.phys (moveBy p 4)) 4 = lo.toNat) ∧ (z.num (c.phys (moveBy p 8)) 4 = hi.toNat) ∧
     (z.num (c.phys (moveBy p 12)) 4 = n.toNat)) := by
  refine ⟨?_, ?_, ?_, ?_, ?_, ?_, ?_⟩ <;> decide +kernel

/-- The hypotheses of `PatrolPoisonsAndFlipsArm`, each clause on a state that meets them. -/
theorem witness_PatrolPoisonsAndFlipsArm :
    (let s : State := conc.put MEM_CTRL_SCRUB_EN 1
     (s.get MEM_CTRL_SCRUB_EN ≠ 0)) ∧
    (let s : State := conc.put MEM_CTRL_SCRUB_EN 1
     let a : Nat := 0x20000000
     let m : Fin 32 := 3
     (s.get MEM_CTRL_SCRUB_EN ≠ 0) ∧ (s.memctl.patrolSys = a) ∧ (inSys a = true) ∧ (a % 4 = 0) ∧ (s.poisoned a = false) ∧
     (m ≠ 0)) ∧
    (let s : State := conc.put MEM_CTRL_SCRUB_EN 0
     (s.get MEM_CTRL_SCRUB_EN = 0)) ∧
    (let s : State := testMode
     (s.mode = modeTest)) ∧
    (let s : State := conc
     (s.mode ≠ modeTest)) := by
  refine ⟨?_, ?_, ?_, ?_, ?_⟩ <;> decide +kernel

/-- The hypotheses of `FaultCollectorReports`, each clause on a state that meets them. -/
theorem witness_FaultCollectorReports :
    (let s : State := conc
     (s.faults.entries.length < 16)) ∧
    (let s : State := { conc with faults := { conc.faults with entries := [⟨1, 5, 16, 1, 7, false, false, false, false, false⟩] } }
     let e : FaultEntry := ⟨1, 5, 16, 1, 7, false, false, false, false, false⟩
     let es : List FaultEntry := []
     (s.faults.entries = e :: es) ∧ (e.isOpen = false)) ∧
    (let s : State := { conc with faults := { conc.faults with entries := [⟨2, 5, 16, 1, 7, true, false, false, false, false⟩] } }
     let e : FaultEntry := ⟨2, 5, 16, 1, 7, true, false, false, false, false⟩
     let es : List FaultEntry := []
     (s.faults.entries = e :: es) ∧ (e.isOpen = true)) ∧
    (let s : State := testMode
     (s.mode = modeTest) ∧ (s.faults.entries.length < 16)) ∧
    (let s : State := conc
     (s.mode ≠ modeTest)) := by
  refine ⟨?_, ?_, ?_, ?_, ?_⟩ <;> decide +kernel

/-- The hypotheses of `FlashDescriptorsStart`, each clause on a state that meets them. -/
theorem witness_FlashDescriptorsStart :
    (let s : State := conc
     let bf : Word := 0x20001000#32
     let d : FlashDesc := { op := 1, tag := 7, faddr := 0x08000800, buf := 0x20001000 }
     let tg : Fin 65536 := 7
     let fa : Word := 0x08000800#32
     let c1 : Bool := false
     let rom : Bool := true
     (s.flashFree rom = true) ∧ (d = { op := 1, tag := tg, faddr := fa.toNat, buf := bf.toNat, core1 := c1 }) ∧
     (s.flashCheck d = none)) ∧
    (let s : State := conc
     let bf : Word := 0x20001000#32
     let d : FlashDesc := { op := 2, tag := 7, faddr := 0x08000800, buf := 0x20001000 }
     let tg : Fin 65536 := 7
     let fa : Word := 0x08000800#32
     let c1 : Bool := false
     let rom : Bool := true
     (s.flashFree rom = true) ∧ (d = { op := 2, tag := tg, faddr := fa.toNat, buf := bf.toNat, core1 := c1 }) ∧
     (s.flashCheck d = none) ∧ (s.poisonedIn d.buf 2048 = false) ∧ (s.get MEM_FLIPCFG_ARM = 0)) ∧
    (let s : State := conc.put FLC_JNL_FREE_A 9
     let d : FlashDesc := { op := 3, tag := 7, faddr := 0x08010000 }
     let n : Nat := 1
     let tg : Fin 65536 := 7
     let fa : Word := 0x08010000#32
     let c1 : Bool := false
     let rom : Bool := true
     (s.flashFree rom = true) ∧ (d = { op := 3, tag := tg, faddr := fa.toNat, core1 := c1 }) ∧ (s.flashCheck d = none) ∧
     (2 ≤ s.get (jnlFree (s.descBank d))) ∧
     (n = min (s.get (ecnt (s.descBank d) (pageBlock (physPage (s.flashPhys d.faddr)))) + 1) 0xFFFFFFFF)) ∧
    (let s : State := conc
     let d : FlashDesc := { op := 4, tag := 7, faddr := 0x08010000 }
     let tg : Fin 65536 := 7
     let fa : Word := 0x08010000#32
     let c1 : Bool := false
     let rom : Bool := true
     (s.flashFree rom = true) ∧ (d = { op := 4, tag := tg, faddr := fa.toNat, core1 := c1 }) ∧ (s.flashCheck d = none)) ∧
    (let s : State := conc
     let d : FlashDesc := { op := 4, tag := 7, faddr := 0x08010001 }
     let n : Nat := 1
     let tg : Fin 65536 := 7
     let fa : Word := 0x08010001#32
     let c1 : Bool := false
     let rom : Bool := true
     (s.flashFree rom = true) ∧ (d = { op := 4, tag := tg, faddr := fa.toNat, core1 := c1 }) ∧ (s.flashCheck d = some n)) ∧
    (let s : State := { conc with flash := { conc.flash with queue := List.replicate 16 { op := 3 } } }
     let rom : Bool := true
     (s.get FLC_OWNER_ROM_OWN = 0 ∨ rom = true) ∧ (16 ≤ s.flash.queue.length)) := by
  refine ⟨?_, ?_, ?_, ?_, ?_, ?_⟩ <;> decide +kernel

/-- The hypotheses of `FlashOperationsRunAndSuspend`, each clause on a state that meets them. -/
theorem witness_FlashOperationsRunAndSuspend :
    (let s : State := (({ conc with flash := { conc.flash with bank0 := { conc.flash.bank0 with run := some { desc := { op := 2, tag := 7, faddr := 0x08000800, buf := 0x20001000 }, status := none, data := [] } }, queue := [{ op := 2, tag := 7, faddr := 0x08000800, buf := 0x20001000 }] } } : State).put (FLC_BANK_STAT_STATE 0) 1).put (FLC_BANK_STAT_OP 0) 1
     let b : Bool := false
     let k : Nat := 0
     let r : FlashRun := { desc := { op := 2, tag := 7, faddr := 0x08000800, buf := 0x20001000 }, status := none, data := [] }
     let n : Nat := 1
     (k = ofBool b) ∧ ((s.bank k).run = some r) ∧ (r.status = none) ∧ (s.get (FLC_BANK_STAT_STATE k) = 1) ∧
     (s.get (FLC_BANK_STAT_OP k) = 1 ∨ s.get (FLC_BANK_STAT_OP k) = 2) ∧ (n = s.get (FLC_BANK_STAT_PULSES k) + 1) ∧
     (n < 256)) ∧
    (let d : FlashDesc := { op := 5, tag := 7, faddr := 0x08010000 }
     let s : State := (({ conc with flash := { conc.flash with bank0 := { conc.flash.bank0 with run := some { desc := { op := 3, tag := 7, faddr := 0x08010000, buf := 0x20001000 }, status := none, data := [] } }, queue := [{ op := 3, tag := 7, faddr := 0x08010000, buf := 0x20001000 }] } } : State).put (FLC_BANK_STAT_STATE 0) 1).put (FLC_BANK_STAT_OP 0) 2
     let tg : Fin 65536 := 7
     let fa : Word := 0x08010000#32
     let c1 : Bool := false
     let rom : Bool := true
     (d.op = 5) ∧ ((s.get FLC_OWNER_ROM_OWN = 0 ∨ rom = true)) ∧ (s.flash.queue.length < 16) ∧
     (s.flash.done.length < 16) ∧ (d.tag = tg.val ∧ d.faddr = fa.toNat ∧ d.core1 = c1) ∧ (s.flashCheck d = none) ∧
     ((s.bank (s.descBank d)).run.isSome = true) ∧ (s.get (FLC_BANK_STAT_STATE (s.descBank d)) = 1) ∧
     (d = { op := 5, tag := tg, faddr := fa.toNat, core1 := c1 })) ∧
    (let d : FlashDesc := { op := 6, tag := 7, faddr := 0x08010000 }
     let s : State := (({ conc with flash := { conc.flash with bank0 := { conc.flash.bank0 with run := some { desc := { op := 3, tag := 7, faddr := 0x08010000, buf := 0x20001000 }, status := none, data := [] } }, queue := [{ op := 3, tag := 7, faddr := 0x08010000, buf := 0x20001000 }] } } : State).put (FLC_BANK_STAT_STATE 0) 2).put (FLC_BANK_STAT_OP 0) 2
     let tg : Fin 65536 := 7
     let fa : Word := 0x08010000#32
     let c1 : Bool := false
     let rom : Bool := true
     (d = { op := 6, tag := tg, faddr := fa.toNat, core1 := c1 }) ∧ ((s.get FLC_OWNER_ROM_OWN = 0 ∨ rom = true)) ∧
     (s.flash.queue.length < 16) ∧ (s.flash.done.length < 16) ∧ (d.tag = tg.val ∧ d.faddr = fa.toNat ∧ d.core1 = c1) ∧
     (s.flashCheck d = none) ∧ ((s.bank (s.descBank d)).run.isSome = true) ∧
     (s.get (FLC_BANK_STAT_STATE (s.descBank d)) = 2 ∨ s.get (FLC_BANK_STAT_STATE (s.descBank d)) = 3)) ∧
    (let s : State := conc.put (FLC_BANK_STAT_STATE 1) 2
     let b : Bool := true
     (s.get (FLC_BANK_STAT_STATE (ofBool b)) = 2)) ∧
    (let s : State := (conc.put (FLC_BANK_STAT_OP 1) 2).put (FLC_BANK_STAT_SUSPENDS 1) 8000
     let b : Bool := true
     let k : Nat := 1
     (k = ofBool b) ∧ (s.get (FLC_BANK_STAT_OP k) ≠ 0) ∧ (s.get (FLC_BANK_STAT_STARVED k) = 0) ∧
     (s.get FLC_CTRL_STARVE_N ≤ s.get (FLC_BANK_STAT_SUSPENDS k))) ∧
    (let s : State := { conc with flash := { conc.flash with merge := [{ slot := 0, page := 0x08000800 }] } }
     let rom : Bool := true
     (s.get FLC_OWNER_ROM_OWN = 0 ∨ rom = true) ∧ (s.flash.queue = []) ∧ (s.flash.done.length < 16) ∧
     (s.flash.mergeRun = none)) ∧
    (let s : State := conc
     let addr : Word := 0x08000804#32
     let p : Nat := 1
     (inFlash addr.toNat = true) ∧ (s.mergeAt addr.toNat = none) ∧ (p = physPage (s.flashPhys addr.toNat)) ∧
     (s.inOperation p = false) ∧ (s.suspect (pageBank p) (pageBlock p) = false) ∧
     (((s.bank (pageBank p)).bufs.any fun b => b.page == p) = false) ∧ (s.get (FLC_BANK_STAT_STATE (pageBank p)) ≠ 1)) := by
  refine ⟨?_, ?_, ?_, ?_, ?_, ?_, ?_⟩ <;> decide +kernel

/-- The hypotheses of `FlashDescriptorsComplete`, each clause on a state that meets them. -/
theorem witness_FlashDescriptorsComplete :
    (let s : State := (({ conc with flash := { conc.flash with bank0 := { conc.flash.bank0 with run := some { desc := { op := 1, tag := 7, faddr := 0x08000800, buf := 0x20001000 }, status := some 0, data := List.replicate 2048 7 } }, queue := [{ op := 1, tag := 7, faddr := 0x08000800, buf := 0x20001000 }] } } : State).put (FLC_BANK_STAT_STATE 0) 0).put (FLC_BANK_STAT_OP 0) 0
     let b : Bool := false
     let k : Nat := 0
     let r : FlashRun := { desc := { op := 1, tag := 7, faddr := 0x08000800, buf := 0x20001000 }, status := some 0, data := List.replicate 2048 7 }
     let st : Nat := 0
     let who : Fin 3 := 0
     (who.val = k) ∧ (k = ofBool b) ∧ ((s.bank k).run = some r) ∧ (r.status = some st) ∧ ((s.bank k).side = none) ∧
     (r.desc.op = 1) ∧ (r.desc.merge = false) ∧ (st = 0) ∧ (inSys r.desc.buf = true) ∧
     (inSys (r.desc.buf + 2047) = true) ∧ (r.desc.buf % 4 = 0) ∧ (r.data.length = 2048) ∧ (Poison.wf s.poison = true) ∧
     (s.get (jnlHalf 0) ≤ 1) ∧ (s.get (jnlHalf 1) ≤ 1)) ∧
    (let s : State := (({ conc with flash := { conc.flash with bank0 := { conc.flash.bank0 with run := some { desc := { op := 3, tag := 7, faddr := 0x08010000, buf := 0x20001000 }, status := some 0, data := [] } }, queue := [{ op := 3, tag := 7, faddr := 0x08010000, buf := 0x20001000 }] } } : State).put (FLC_BANK_STAT_STATE 0) 1).put (FLC_BANK_STAT_OP 0) 2 |>.put FLC_JNL_FREE_A 9
     let b : Bool := false
     let k : Nat := 0
     let r : FlashRun := { desc := { op := 3, tag := 7, faddr := 0x08010000, buf := 0x20001000 }, status := some 0, data := [] }
     let st : Nat := 0
     let a : Nat := 0x08010007
     let p : Nat := 32
     let who : Fin 3 := 0
     (who.val = k) ∧ (k = ofBool b) ∧ ((s.bank k).run = some r) ∧ (r.status = some st) ∧ ((s.bank k).side = none) ∧
     (r.desc.op = 3) ∧ (r.desc.merge = false) ∧ (st = 0) ∧ (s.get (FLC_BANK_STAT_OP k) = 2) ∧
     (p = physPage (s.flashPhys r.desc.faddr)) ∧ (pageBlock p < 63) ∧
     (0x08000000 + 0x400000 * k + 65536 * pageBlock p ≤ a) ∧ (a < 0x08000000 + 0x400000 * k + 65536 * (pageBlock p + 1)) ∧
     (s.get (jnlHalf 0) ≤ 1) ∧ (s.get (jnlHalf 1) ≤ 1)) ∧
    (let s : State := (({ conc with flash := { conc.flash with bank0 := { conc.flash.bank0 with run := some { desc := { op := 2, tag := 7, faddr := 0x08000800, buf := 0x20001000 }, status := some 0, data := List.replicate 2112 0x5A } }, queue := [{ op := 2, tag := 7, faddr := 0x08000800, buf := 0x20001000 }] } } : State).put (FLC_BANK_STAT_STATE 0) 1).put (FLC_BANK_STAT_OP 0) 1
     let b : Bool := false
     let k : Nat := 0
     let r : FlashRun := { desc := { op := 2, tag := 7, faddr := 0x08000800, buf := 0x20001000 }, status := some 0, data := List.replicate 2112 0x5A }
     let st : Nat := 0
     let p : Nat := 1
     let who : Fin 3 := 0
     (who.val = k) ∧ (k = ofBool b) ∧ ((s.bank k).run = some r) ∧ (r.status = some st) ∧ ((s.bank k).side = none) ∧
     (r.desc.op = 2) ∧ (r.desc.merge = false) ∧ (st = 0) ∧ (s.get (FLC_BANK_STAT_OP k) = 1) ∧
     (p = physPage (s.flashPhys r.desc.faddr)) ∧ (r.data.length = 2112) ∧ (pageBlock p < 63) ∧ (s.get (jnlHalf 0) ≤ 1) ∧
     (s.get (jnlHalf 1) ≤ 1)) ∧
    (let s : State := { conc with flash := { conc.flash with mergeRun := some { desc := { op := 7, tag := 9 } }, queue := [{ op := 7, tag := 9 }] } }
     let r : FlashRun := { desc := { op := 7, tag := 9 } }
     (s.flash.mergeRun = some r) ∧ (r.status = none) ∧ (s.flash.merge = []) ∧ (r.desc.op = 7)) ∧
    (let s : State := { conc with flash := { conc.flash with done := [[1], [2]] } }
     (s.flash.queue.all (fun d => d.op != 5 && d.op != 6) = true)) ∧
    (let s : State := conc
     (s.flashIdle = true ∨ s.get FLC_OWNER_ROM_OWN ≠ 0)) ∧
    (let s : State := conc.put FLC_OWNER_ROM_OWN 0
     (s.get FLC_OWNER_ROM_OWN = 0)) := by
  refine ⟨?_, ?_, ?_, ?_, ?_, ?_, ?_⟩ <;> decide +kernel

/-- The hypotheses of `ObjectRequestsAreServed`, each clause on a state that meets them. -/
theorem witness_ObjectRequestsAreServed :
    (let index : Fin 65536 := 0x1024
     let sub : Fin 256 := 0
     let key : Nat := 0x102400
     let u : State := owned.admitted 0
     let v : List Byte := leBytes 2 1000
     let s : State := owned
     let z : State := (owned).admitted 0
     let m : HostId := { transport := 0 }
     let env : HostEnv := {}
     (s.serves m env = true) ∧ (s.admitted env.load = z) ∧ (key = 256 * index.val + sub.val) ∧
     (index.val < 0xC000 ∨ 0xD000 ≤ index.val) ∧ ((z.objRead key).1 = .ok) ∧ ((z.objRead key).2.1 = v) ∧
     ((z.objRead key).2.2 = u) ∧ (v.length ≤ maxSeg m) ∧ ((z.dropSnapshot m key).host.snapshots.length < 4)) ∧
    (let index : Fin 65536 := 0x4002
     let sub : Fin 256 := 0
     let key : Nat := 0x400200
     let v : List Byte := ((served 1).objRead 0x400200).2.1
     let s : State := (served modeConc).put HDP_CTRL_MESH_EN 1
     let z : State := ((served modeConc).put HDP_CTRL_MESH_EN 1).admitted 0
     let m : HostId := { transport := 4, addr := 9 }
     let env : HostEnv := {}
     let u : State := (((served modeConc).put HDP_CTRL_MESH_EN 1).admitted 0)
     (s.serves m env = true) ∧ (s.admitted env.load = z) ∧ (key = 256 * index.val + sub.val) ∧
     (index.val < 0xC000 ∨ 0xD000 ≤ index.val) ∧ ((z.objRead key).1 = .ok) ∧ ((z.objRead key).2.1 = v) ∧
     ((z.objRead key).2.2 = u) ∧ (maxSeg m < v.length) ∧ ((z.dropSnapshot m key).host.snapshots.length < 4)) ∧
    (let index : Fin 65536 := 0x1024
     let sub : Fin 256 := 0
     let key : Nat := 0x102400
     let x : Snapshot := ⟨{ transport := 0 }, 0x102400, leBytes 2 1000⟩
     let off : Word := 1#32
     let s : State := { owned with host := { owned.host with snapshots := [⟨{ transport := 0 }, 0x102400, leBytes 2 1000⟩] } }
     let z : State := ({ owned with host := { owned.host with snapshots := [⟨{ transport := 0 }, 0x102400, leBytes 2 1000⟩] } }).admitted 0
     let m : HostId := { transport := 0 }
     let env : HostEnv := {}
     (s.serves m env = true) ∧ (s.admitted env.load = z) ∧ (key = 256 * index.val + sub.val) ∧
     (index.val < 0xC000 ∨ 0xD000 ≤ index.val) ∧
     ((z.host.snapshots.find? fun y => decide (y.who = m) && y.key == key) = some x) ∧ (off.toNat < x.data.length)) ∧
    (let index : Fin 65536 := 0x1024
     let sub : Fin 256 := 0
     let key : Nat := 0x102400
     let u : State := ((owned.admitted 0).objWrite 0x102400 [200, 0] true false {}).2
     let v : List Byte := [200, 0]
     let st : OdpStatus := .ok
     let s : State := owned
     let z : State := (owned).admitted 0
     let m : HostId := { transport := 0 }
     let env : HostEnv := {}
     (s.serves m env = true) ∧ (s.admitted env.load = z) ∧ (key = 256 * index.val + sub.val) ∧
     (index.val < 0xC000 ∨ 0xD000 ≤ index.val) ∧ (v.length ≤ maxSeg m) ∧
     ((z.objWrite key v (z.owns m) z.ownerFree env.dict).1 = st) ∧
     ((z.objWrite key v (z.owns m) z.ownerFree env.dict).2 = u) ∧ (st ≠ .busy)) ∧
    (let index : Fin 65536 := 0x1024
     let sub : Fin 256 := 0
     let key : Nat := 0x102400
     let v : List Byte := [200]
     let n : Word := 2#32
     let s : State := owned
     let z : State := (owned).admitted 0
     let m : HostId := { transport := 0 }
     let env : HostEnv := {}
     (s.serves m env = true) ∧ (s.admitted env.load = z) ∧ (key = 256 * index.val + sub.val) ∧
     (index.val < 0xC000 ∨ 0xD000 ≤ index.val) ∧
     (((findObj key).any fun (r : ObjRow × Nat) => decide (n.toNat ≤ r.1.sizes.2)) = true) ∧ (v.length ≤ n.toNat) ∧
     (v.length ≤ maxSeg m)) ∧
    (let index : Fin 65536 := 0x1024
     let sub : Fin 256 := 0
     let key : Nat := 0x102400
     let v : List Byte := [0]
     let w : List Byte := [200, 0]
     let n : Word := 2#32
     let off : Word := 1#32
     let st : OdpStatus := .ok
     let g : Staging := ⟨{ transport := 0 }, 0x102400, 2, [200], (0, 1)⟩
     let u : State := ((({ owned with host := { owned.host with stagings := [⟨{ transport := 0 }, 0x102400, 2, [200], (0, 1)⟩] } } : State).admitted 0).dropStaging { transport := 0 } 0x102400 |>.objWrite 0x102400 [200, 0] true false {}).2
     let s : State := { owned with host := { owned.host with stagings := [⟨{ transport := 0 }, 0x102400, 2, [200], (0, 1)⟩] } }
     let z : State := ({ owned with host := { owned.host with stagings := [⟨{ transport := 0 }, 0x102400, 2, [200], (0, 1)⟩] } }).admitted 0
     let m : HostId := { transport := 0 }
     let env : HostEnv := {}
     (s.serves m env = true) ∧ (s.admitted env.load = z) ∧ (key = 256 * index.val + sub.val) ∧
     (index.val < 0xC000 ∨ 0xD000 ≤ index.val) ∧ ((findObj key).isSome = true) ∧
     ((z.host.stagings.find? fun y => decide (y.who = m) && y.key == key) = some g) ∧ (g.total = n.toNat) ∧
     (off.toNat = g.data.length) ∧ (v.length ≤ maxSeg m) ∧ (w = g.data ++ v) ∧ (w.length = n.toNat) ∧
     (((z.dropStaging m key).objWrite key w (z.owns m) z.ownerFree env.dict).1 = st) ∧
     (((z.dropStaging m key).objWrite key w (z.owns m) z.ownerFree env.dict).2 = u) ∧ (st ≠ .busy)) ∧
    (let index : Fin 65536 := 0x1024
     let sub : Fin 256 := 0
     let key : Nat := 0x102400
     let s : State := owned
     let z : State := (owned).admitted 0
     let m : HostId := { transport := 0 }
     let env : HostEnv := {}
     (s.serves m env = true) ∧ (s.admitted env.load = z) ∧ (key = 256 * index.val + sub.val) ∧
     (index.val < 0xC000 ∨ 0xD000 ≤ index.val) ∧ ((findObj key).isSome = true)) ∧
    (let index : Fin 65536 := 0x1FFF
     let sub : Fin 256 := 0
     let key : Nat := 0x1FFF00
     let s : State := owned
     let z : State := (owned).admitted 0
     let m : HostId := { transport := 0 }
     let env : HostEnv := {}
     (s.serves m env = true) ∧ (s.admitted env.load = z) ∧ (key = 256 * index.val + sub.val) ∧
     (index.val < 0xC000 ∨ 0xD000 ≤ index.val) ∧ ((findObj key).isNone = true)) ∧
    (let v : Nat := 200
     let s : State := owned
     let z : State := (owned).admitted 0
     let m : HostId := { transport := 0 }
     let env : HostEnv := {}
     (s.serves m env = true) ∧ (s.admitted env.load = z) ∧ (s.owns m = true) ∧ (v < 65536) ∧ (env.dict.storeFail = false)) := by
  refine ⟨?_, ?_, ?_, ?_, ?_, ?_, ?_, ?_, ?_⟩ <;> decide +kernel

/-- The hypotheses of `OwnershipElection`, each clause on a state that meets them. -/
theorem witness_OwnershipElection :
    (let s : State := served modeConc
     let z : State := (served modeConc).admitted 0
     let m : HostId := { transport := 0 }
     let env : HostEnv := {}
     (s.serves m env = true) ∧ (s.admitted env.load = z) ∧ (s.host.owner = .free)) ∧
    (let c : Claim := { who := { transport := 0 }, prio := 1, nonce := 7 }
     let s : State := ({ served modeConc with host := { owner := .claiming { who := { transport := 0 }, prio := 1, nonce := 7 } } } : State).put HDP_CTRL_ETH_EN 1
     let z : State := (({ served modeConc with host := { owner := .claiming { who := { transport := 0 }, prio := 1, nonce := 7 } } } : State).put HDP_CTRL_ETH_EN 1).admitted 0
     let m : HostId := { transport := 2, addr := 9 }
     let env : HostEnv := {}
     (s.serves m env = true) ∧ (s.admitted env.load = z) ∧ (s.host.owner = .claiming c) ∧ (c.who ≠ m)) ∧
    (let c : Claim := { who := { transport := 0 }, prio := 1, nonce := 7 }
     let s : State := owned.put HDP_CTRL_ETH_EN 1
     let z : State := (owned.put HDP_CTRL_ETH_EN 1).admitted 0
     let m : HostId := { transport := 2, addr := 9 }
     let env : HostEnv := {}
     (s.serves m env = true) ∧ (s.admitted env.load = z) ∧ (s.host.owner = .owned c) ∧ (c.who ≠ m)) ∧
    (let n : Nat := 6
     let next : HostId := { transport := 0 }
     let c : Claim := { who := { transport := 0 }, prio := 1, nonce := 7 }
     let s : State := { served modeConc with host := { owner := .handover { who := { transport := 0 }, prio := 1, nonce := 7 } { transport := 0 } 6 } }
     let z : State := ({ served modeConc with host := { owner := .handover { who := { transport := 0 }, prio := 1, nonce := 7 } { transport := 0 } 6 } }).admitted 0
     let m : HostId := { transport := 0 }
     let env : HostEnv := {}
     (s.serves m env = true) ∧ (s.admitted env.load = z) ∧ (s.host.owner = .handover c next n)) ∧
    (let s : State := { served modeConc with host := { owner := .claiming { who := { transport := 0 }, prio := 1, nonce := 7 } } }
     let c : Claim := { who := { transport := 0 }, prio := 1, nonce := 7 }
     (s.host.owner = .claiming c)) ∧
    (let s : State := owned
     let z : State := (owned).admitted 0
     let m : HostId := { transport := 0 }
     let env : HostEnv := {}
     (s.serves m env = true) ∧ (s.admitted env.load = z)) ∧
    (let nn : Word := 7#32
     let s : State := owned
     let z : State := (owned).admitted 0
     let m : HostId := { transport := 0 }
     let env : HostEnv := {}
     (s.serves m env = true) ∧ (s.admitted env.load = z) ∧ (s.isOwner m nn.toNat = true) ∧ (s.boot.upd.state ≠ 1) ∧
     (s.boot.upd.state ≠ 2)) ∧
    (let nn : Word := 8#32
     let s : State := owned
     let z : State := (owned).admitted 0
     let m : HostId := { transport := 0 }
     let env : HostEnv := {}
     (s.serves m env = true) ∧ (s.admitted env.load = z) ∧ (s.isOwner m nn.toNat = false)) ∧
    (let nn : Word := 7#32
     let next : HostId := { transport := 2, addr := 9 }
     let c : Claim := { who := { transport := 0 }, prio := 1, nonce := 7 }
     let s : State := owned
     let z : State := (owned).admitted 0
     let m : HostId := { transport := 0 }
     let env : HostEnv := {}
     (s.serves m env = true) ∧ (s.admitted env.load = z) ∧ (s.isOwner m nn.toNat = true) ∧
     (s.host.owner.owner? = some c) ∧ (next.transport ≤ 4) ∧ (next.addr < 2 ^ 64)) ∧
    (let s : State := owned
     let z : State := (owned).admitted 0
     let m : HostId := { transport := 0 }
     let env : HostEnv := {}
     (s.serves m env = true) ∧ (s.admitted env.load = z)) ∧
    (let s : State := owned
     (s.host.owner.owner?.isSome = true) ∧ (s.boot.upd.state ≠ 1) ∧ (s.boot.upd.state ≠ 2)) ∧
    (let s : State := { served modeConc with host := { owner := .handover { who := { transport := 0 }, prio := 1, nonce := 7 } { transport := 0 } 6 } }
     let c : Claim := { who := { transport := 0 }, prio := 1, nonce := 7 }
     let next : HostId := { transport := 0 }
     let n : Nat := 6
     (s.host.owner = .handover c next n)) := by
  refine ⟨?_, ?_, ?_, ?_, ?_, ?_, ?_, ?_, ?_, ?_, ?_, ?_⟩ <;> decide +kernel

/-- The hypotheses of `HostTransportsFrameRequests`, each clause on a state that meets them. -/
theorem witness_HostTransportsFrameRequests :
    (let s : State := (served modeConc).put HDP_CTRL_UART_EN 1
     let opc : Fin 256 := 20
     let ti : Fin 65536 := 5
     let p : List Byte := []
     let data : List Byte := odpFrame 20 5 []
     (s.portLive 3 = true) ∧ (p.length < 65536) ∧ (uartPlain data = some (odpFrame opc ti p))) ∧
    (let s : State := (served modeConc).put HDP_CTRL_UART_EN 1
     let f : List Byte := [1, 20, 5, 0, 0, 0, 9, 9]
     let data : List Byte := [1, 20, 5, 0, 0, 0, 9, 9]
     (s.portLive 3 = true) ∧ (uartPlain data = some f) ∧ (8 ≤ f.length) ∧ (f.length = odpLength f) ∧ (odpSound f = false)) ∧
    (let s : State := (served modeConc).put HDP_CTRL_ETH_EN 1
     let dst : Fin 65536 := { val := (served modeConc).get HDP_UDPPORT_ODP_PORT % 65536, isLt := Nat.mod_lt _ (by decide) }
     let p : List Byte := []
     (s.portLive 2 = true) ∧ (p.length < 65536) ∧ (dst.val = s.get HDP_UDPPORT_ODP_PORT)) ∧
    (let s : State := (((served modeConc).put HDP_CTRL_CAN_EN 1).put HDP_CANCFG_FD_EN 1).setCanPart 3 ⟨1, (odpFrame 20 5 []).take 3⟩
     let n : Fin 16 := 3
     let opc : Fin 256 := 20
     let ti : Fin 65536 := 5
     let p : List Byte := []
     let d : List Byte := (odpFrame 20 5 []).drop 3
     let x : CanPart := ⟨1, (odpFrame 20 5 []).take 3⟩
     (s.portLive 1 = true) ∧ (s.get HDP_STATUS_CAN_STATE ≠ 2) ∧ (s.get HDP_CANCFG_FD_EN ≠ 0) ∧ (p.length < 65536) ∧
     (s.canPart n = x) ∧ (x.next ≠ 0) ∧ (d.length ≤ 63) ∧ (x.bytes ++ d = odpFrame opc ti p)) ∧
    (let s : State := (served modeConc).put HDP_CTRL_CAN_EN 1
     let n : Fin 16 := 3
     let d : List Byte := [1, 2]
     (s.portLive 1 = true) ∧ (s.get HDP_STATUS_CAN_STATE ≠ 2) ∧
     (d.length ≤ 7 ∨ (s.get HDP_CANCFG_FD_EN ≠ 0 ∧ d.length ≤ 63)) ∧ ((s.canPart n).next = 0 → (s.canPart n).bytes = [])) ∧
    (let s : State := owned
     let env : HostEnv := {}
     let opc : Fin 256 := 20
     let ti : Fin 65536 := 5
     let p : List Byte := []
     let u : State := owned.hostStart
     let v : State := ((({ owned.hostStart with host := { owned.hostStart.host with dictOut := [], lastDiscard := false } } : State).bump HDP_CNT0_ACCEPTED).odpRequest { transport := 0 } 20 5 [] (odpFrame 20 5 []) {})
     (s.portLive 0 = true) ∧ (p.length ≤ 1400) ∧ (s.host.dictIn = []) ∧ (u = s.hostStart) ∧
     (v = (({ u with host := { u.host with dictOut := u.host.dictOut.drop (min (min 4096 u.host.dictOut.length) (8 + p.length)), lastDiscard := false } } : State).bump HDP_CNT0_ACCEPTED).odpRequest { transport := 0 } opc ti p (odpFrame opc ti p) env)) ∧
    (let s : State := { (served modeConc) with host := { dictOut := [1, 2, 3] } }
     (s.portLive 0 = true) ∧ (s.host.dictIn = []) ∧ (s.host.dictOut.length ≤ 4096)) ∧
    (let s : State := (served modeConc).put HDP_CTRL_CAN_EN 1
     (s.portLive 1 = true)) ∧
    (let s : State := (served modeConc).put HDP_STATUS_CAN_STATE 2
     (s.get HDP_STATUS_CAN_STATE = 2)) ∧
    (let s : State := (served modeConc).put HDP_CTRL_ETH_EN 1
     (s.portLive 2 = true)) ∧
    (let s : State := (served modeConc).put HDP_CTRL_ETH_EN 1
     let dst : Word := (BitVec.ofNat 32 ((served modeConc).get HDP_IPADDR_ADDR))
     (s.portLive 2 = true) ∧ (dst.toNat = s.get HDP_IPADDR_ADDR)) ∧
    (let s : State := (served modeConc).put HDP_CTRL_ETH_EN 1
     (s.portLive 2 = true)) ∧
    (let s : State := conc
     (s.portLive 3 = false) ∧ (s.power.state = .run)) := by
  refine ⟨?_, ?_, ?_, ?_, ?_, ?_, ?_, ?_, ?_, ?_, ?_, ?_, ?_⟩ <;> decide +kernel

/-- The hypotheses of `HostMailboxAndPlane`, each clause on a state that meets them. -/
theorem witness_HostMailboxAndPlane :
    (let s : State := { ({ (served modeConc) with core1 := { (served modeConc).core1 with gw := (served modeConc).core1.gw.set 7 (0x20010000, 0xFFF, 1) } }) with host := { apps := [⟨{ transport := 0 }, 5, 1, [1, 1, 5, 0, 4, 0, 0, 0, 192, 0, 9, 9]⟩] } }
     let a : AppRequest := ⟨{ transport := 0 }, 5, 1, [1, 1, 5, 0, 4, 0, 0, 0, 192, 0, 9, 9]⟩
     let rest : List AppRequest := []
     let base : Nat := 0x20010000
     (s.host.apps = a :: rest) ∧ (s.host.asked = false) ∧ (s.mailbox = some base) ∧ (a.frame.length ≤ 2040) ∧
     (s.poison = [])) ∧
    (let s : State := ({ ({ (served modeConc) with core1 := { (served modeConc).core1 with gw := (served modeConc).core1.gw.set 7 (0x20010000, 0xFFF, 1) } }) with host := { apps := [⟨{ transport := 0 }, 5, 1, [1, 1, 5, 0, 4, 0, 0, 0, 192, 0, 9, 9]⟩], asked := true } } : State).setBytes 0x20010800 ([3, 0, 2, 0, 0, 0, 0, 0] ++ [7, 8, 9])
     let a : AppRequest := ⟨{ transport := 0 }, 5, 1, [1, 1, 5, 0, 4, 0, 0, 0, 192, 0, 9, 9]⟩
     let rest : List AppRequest := []
     let base : Nat := 0x20010000
     let n : Nat := 3
     let f : List Byte := [7, 8, 9]
     (s.host.apps = a :: rest) ∧ (s.host.asked = true) ∧ (s.mailbox = some base) ∧ (s.num (base + 2048) 2 = n) ∧
     (n ≤ 2040) ∧ (s.num (base + 2050) 1 = 2) ∧ (s.bytes (base + 2056) n = f) ∧ (a.who.transport = 0)) ∧
    (let s : State := { (served modeConc) with host := { apps := [⟨{ transport := 0 }, 5, 1, [1, 1, 5, 0, 4, 0, 0, 0, 192, 0, 9, 9]⟩], asked := true } }
     let a : AppRequest := ⟨{ transport := 0 }, 5, 1, [1, 1, 5, 0, 4, 0, 0, 0, 192, 0, 9, 9]⟩
     let rest : List AppRequest := []
     (s.host.apps = a :: rest) ∧ (s.host.asked = true)) ∧
    (let s : State := (({ (served modeConc) with core1 := { (served modeConc).core1 with gw := (served modeConc).core1.gw.set 7 (0x20010000, 0xFFF, 1) } } : State).put HDP_CTRL_MESH_EN 1).setBytes 0x20010800 ([8, 0, 3, 0, 6, 0, 0, 0] ++ odpFrame 20 5 [])
     let base : Nat := 0x20010000
     let opc : Fin 256 := 20
     let ti : Fin 65536 := 5
     let p : List Byte := []
     (s.mailbox = some base) ∧ (s.portLive 4 = true) ∧ (p.length ≤ 1400) ∧ (s.num (base + 2048) 2 = 8 + p.length) ∧
     (s.num (base + 2050) 1 = 3) ∧ (s.bytes (base + 2056) (8 + p.length) = odpFrame opc ti p)) ∧
    (let s : State := { ({ (served modeConc) with core1 := { (served modeConc).core1 with gw := (served modeConc).core1.gw.set 7 (0x20010000, 0xFFF, 1) } }) with host := { replies := [(3, [1, 2])] } }
     let base : Nat := 0x20010000
     let ctx : Nat := 3
     let f : List Byte := [1, 2]
     let rest : List (Nat × List Byte) := []
     (s.host.replies = (ctx, f) :: rest) ∧ (s.mailbox = some base) ∧ (f.length ≤ 2040) ∧ (s.poison = [])) ∧
    (let s : State := (served modeConc)
     (s.boot.firmware = true) ∧ (s.get HDP_STATUS_LOAD ≤ 3)) ∧
    (let s : State := owned
     let z : State := (owned).admitted 0
     let m : HostId := { transport := 0 }
     let env : HostEnv := {}
     (s.serves m env = true) ∧ (s.admitted env.load = z)) ∧
    (let s : State := (((((served modeConc).put MAC_CTRL_DELIVER_TO 1).put MAC_FBCFG_DQ_SIZE 8).put MAC_DQ_WR 1).setObj 0x403000 [1]).setBytes 0x24010000 [3, 0, 0, 0, 0, 0, 3, 0x24]
     let rd : Nat := 0
     let a : Nat := 0x24030000
     let n : Nat := 3
     (s.deliverable = true) ∧ (s.objNumD 0x403000 0 = 1) ∧ (rd = s.get MAC_DQ_RD) ∧ (s.desc rd 4 4 = a) ∧
     (s.desc rd 0 2 = n) ∧ (s.portLive 0 = true) ∧ (s.host.planeOut.length + n + 42 ≤ 32768) ∧ (s.poisonedIn a n = false)) ∧
    (let s : State := owned
     let m : HostId := { transport := 0 }
     let b : List Byte := [2, 0, 0, 0, 0, 0, 0, 0, 0, 0, 0, 0, 0, 0, 0, 0, 7, 8]
     let n : Nat := 32
     let k : Nat := 0
     (s.portLive m.transport = true) ∧ (m.transport = 0 ∨ m.transport = 2) ∧ (s.mode ≠ modeRecovery) ∧
     (s.planeOwns m = true) ∧ (b.length = 16 + leAt b 0 2) ∧ (leAt b 0 2 ≤ 2048) ∧ (n = s.objNumD 0x403002 32) ∧ (k < n) ∧
     (s.planeUsed (4096 - n + k) = false) ∧ (∀ j ∈ List.range k, s.planeUsed (4096 - n + j) = true)) ∧
    (let s : State := { (served modeConc) with mac := { (served modeConc).mac with txDone := [4090] }, host := { submits := [(4090, some { transport := 0 })] } }
     let i : Nat := 4090
     let rest : List Nat := []
     let m : HostId := { transport := 0 }
     (s.mac.txDone = i :: rest) ∧ (Sparse.read none s.host.submits i = some m) ∧ (m.transport = 0) ∧
     (s.portLive 0 = true) ∧ (s.host.planeOut.length + 30 ≤ 32768)) := by
  refine ⟨?_, ?_, ?_, ?_, ?_, ?_, ?_, ?_, ?_, ?_⟩ <;> decide +kernel

/-- The hypotheses of `LegacyReadsAndWrites`, each clause on a state that meets them. -/
theorem witness_LegacyReadsAndWrites :
    (let s : State := (served modeCompat).lgyFlag 30
     (s.lgyLive = true)) ∧
    (let s : State := ({ served modeCompat with lgy := { (served modeCompat).lgy with rx := [7, 8] } } : State)
     (s.lgyLive = true)) ∧
    (let s : State := ({ served modeCompat with lgy := { (served modeCompat).lgy with rx := [7, 8] } } : State)
     (s.lgyLive = true) ∧ (s.lgy.rx.length ≤ 4096)) ∧
    (let s : State := ({ served modeCompat with lgy := { (served modeCompat).lgy with tx := [7, 8] } } : State)
     (s.lgyLive = true) ∧ (s.lgy.tx.length ≤ 1024)) ∧
    (let s : State := ({ served modeCompat with lgy := { (served modeCompat).lgy with count := 300 } } : State)
     (s.lgyLive = true) ∧ (s.lgy.count < 65536)) ∧
    (let s : State := ({ served modeCompat with lgy := { (served modeCompat).lgy with gone := true } } : State)
     (s.mode = modeCompat) ∧ (s.lgy.gone = true)) ∧
    (let s : State := ({ served modeCompat with lgy := { (served modeCompat).lgy with tx := [7, 8] } } : State)
     (s.lgyLive = true) ∧ (s.lgy.tx.length < 1024)) ∧
    (let s : State := ({ served modeCompat with lgy := { (served modeCompat).lgy with tx := List.replicate 1024 1 } } : State)
     (s.lgyLive = true) ∧ (1024 ≤ s.lgy.tx.length)) ∧
    (let s : State := (served modeCompat).lgyFlag 30
     (s.lgyLive = true)) ∧
    (let s : State := (served modeCompat)
     let v : Fin 256 := 9
     let f : Nat := ((served modeCompat).get LGY_BASEF0_F + 256 * (served modeCompat).get LGY_BASEF1_F + 65536 * 9)
     (s.lgyLive = true) ∧ (f = s.get LGY_BASEF0_F + 256 * s.get LGY_BASEF1_F + 65536 * v.val)) ∧
    (let s : State := ((served modeCompat).lgyFlag 30).put (LGY_IRQEN_EN 3) 255
     (s.lgyLive = true) ∧ (s.lgyIrq = true) ∧ (s.lgy.nirq = false)) := by
  refine ⟨?_, ?_, ?_, ?_, ?_, ?_, ?_, ?_, ?_, ?_, ?_⟩ <;> decide +kernel

/-- The hypotheses of `LegacyCommands`, each clause on a state that meets them. -/
theorem witness_LegacyCommands :
    (let s : State := ({ served modeCompat with lgy := { (served modeCompat).lgy with rx := [1] } } : State)
     (s.lgyFree = true)) ∧
    (let s : State := ({ served modeCompat with lgy := { (served modeCompat).lgy with tx := [1] } } : State)
     (s.lgyFree = true) ∧ (s.lgyUnit .data = none)) ∧
    (let s : State := ({ served modeCompat with lgy := { (served modeCompat).lgy with tx := [1] } } : State)
     (s.lgyFree = true) ∧ (s.lgy.frame = none)) ∧
    (let s : State := ({ served modeCompat with lgy := { (served modeCompat).lgy with frame := some { armedAt := 5 } } } : State)
     (s.lgyFree = true) ∧ (s.lgyUnit .data = none)) ∧
    (let s : State := (served modeCompat).put (LGY_CTXDAT_VALUE 4) 1
     let i : Nat := 0
     let b : Nat := 5
     (s.lgyFree = true) ∧ (s.get LGY_CTXIDX_IDX = i) ∧ (i < 250) ∧ (b < ctxAddr i ∨ ctxAddr i + 64 ≤ b)) ∧
    (let s : State := (served modeCompat).setCtx 0 0 4 77
     let i : Nat := 0
     (s.lgyFree = true) ∧ (s.get LGY_CTXIDX_IDX = i) ∧ (i < 250)) ∧
    (let s : State := (served modeCompat).setCtx 0 10 2 1
     let i : Nat := 0
     let b : Nat := 5
     (s.lgyFree = true) ∧ (s.get LGY_CTXIDX_IDX = i) ∧ (i < 250) ∧ (b < ctxAddr i + 10 ∨ ctxAddr i + 12 ≤ b)) ∧
    (let s : State := (served modeCompat).put LGY_HOPIDX_IDX 63
     let i : Nat := 63
     (s.lgyFree = true) ∧ (s.get LGY_HOPIDX_IDX = i) ∧ (i < 64) ∧ (s.lgy.hop.length = 64)) ∧
    (let s : State := (served modeCompat).put LGY_HOPIDX_IDX 63
     let i : Nat := 63
     (s.lgyFree = true) ∧ (s.get LGY_HOPIDX_IDX = i) ∧ (i < 64) ∧ (s.lgy.hop.getD i 0 < 256)) ∧
    (let s : State := (served modeCompat)
     (s.lgyFree = true) ∧ (s.get LGY_SLOTCTL_RUN = 0) ∧ (s.radio.calib = none) ∧ (s.radio.calWait = [])) ∧
    (let s : State := ({ served modeCompat with lgy := { (served modeCompat).lgy with rx := [1], run := true, count := 9 } } : State)
     (s.lgyFree = true)) ∧
    (let s : State := ({ served modeCompat with lgy := { (served modeCompat).lgy with cmd := some 3 } } : State)
     let c : Nat := 3
     (s.lgyLive = true) ∧ (s.lgy.cmd = some c)) ∧
    (let s : State := ({ served modeCompat with lgy := { (served modeCompat).lgy with cmd := some 10 } } : State)
     let c : Nat := 10
     (s.lgyLive = true) ∧ (s.lgy.cmd = some c) ∧ (s.lgy.held = false)) := by
  refine ⟨?_, ?_, ?_, ?_, ?_, ?_, ?_, ?_, ?_, ?_, ?_, ?_, ?_⟩ <;> decide +kernel

/-- The hypotheses of `LegacySlotsAndFrames`, each clause on a state that meets them. -/
theorem witness_LegacySlotsAndFrames :
    (let s : State := ({ inMode modeCompat |>.put LGY_SLOTCTL_RUN 1 with lgy := { (inMode modeCompat |>.put LGY_SLOTCTL_RUN 1).lgy with run := true, count := 9 } } : State)
     (s.lgyLive = true) ∧ (s.get LGY_SLOTCTL_RUN ≠ 0) ∧ (s.lgy.run = true) ∧ (s.boot.firmware = false) ∧
     (s.lgy.count ≤ 65535)) ∧
    (let s : State := ({ served modeCompat with lgy := { (served modeCompat).lgy with run := true, count := 9 } } : State)
     (s.lgyLive = true) ∧ (s.get LGY_SLOTCTL_RUN = 0) ∧ (s.lgy.run = true)) ∧
    (let s : State := ({ (served modeCompat) with slot := { (served modeCompat).slot with rx := [({ id := 7, stage := 4, det := ({ place := 3, profile := 0, sync := .legacy, errs := 0, tSfd := 5, rssi := 0, offset := 0, dgain := 0, fdx := false, profWord := 0x7FF00000, scan := false } : DetRec), psdu := [0, 0, 0, 0, 255, 255, 255, 255, 9, 0, 0, 0, 5] ++ [1, 2], fcsLen := 2 } : RxUnit)] } } : State)
     let n : Nat := 7
     let u : RxUnit := ({ id := 7, stage := 4, det := ({ place := 3, profile := 0, sync := .legacy, errs := 0, tSfd := 5, rssi := 0, offset := 0, dgain := 0, fdx := false, profWord := 0x7FF00000, scan := false } : DetRec), psdu := [0, 0, 0, 0, 255, 255, 255, 255, 9, 0, 0, 0, 5] ++ [1, 2], fcsLen := 2 } : RxUnit)
     let p : LgyPayload := ⟨0, false, 0, 0, 0xFFFFFFFF, 9, [5]⟩
     (s.lgyUnitAt n = some u) ∧ (parseLegacy u.payload = some p) ∧ (p.netid = s.lgyNetid) ∧ (p.dst = 0xFFFFFFFF) ∧
     (p.type = 0) ∧ (s.lgyCtxOf p.src = none) ∧ (s.lgy.rx.length + u.payload.length + 4 ≤ 4096) ∧ (u.payload.length < 256)) ∧
    (let s : State := ({ (served modeCompat) with slot := { (served modeCompat).slot with rx := [({ id := 7, stage := 4, det := ({ place := 3, profile := 0, sync := .legacy, errs := 0, tSfd := 5, rssi := 0, offset := 0, dgain := 0, fdx := false, profWord := 0x7FF00000, scan := false } : DetRec), psdu := [0, 0, 9, 9, 255, 255, 255, 255, 9, 0, 0, 0] ++ [1, 2], fcsLen := 2 } : RxUnit)] } } : State)
     let n : Nat := 7
     let u : RxUnit := ({ id := 7, stage := 4, det := ({ place := 3, profile := 0, sync := .legacy, errs := 0, tSfd := 5, rssi := 0, offset := 0, dgain := 0, fdx := false, profWord := 0x7FF00000, scan := false } : DetRec), psdu := [0, 0, 9, 9, 255, 255, 255, 255, 9, 0, 0, 0] ++ [1, 2], fcsLen := 2 } : RxUnit)
     let p : LgyPayload := ⟨0, false, 0, 0x909, 0xFFFFFFFF, 9, []⟩
     (s.lgyUnitAt n = some u) ∧ (parseLegacy u.payload = some p) ∧ (p.netid ≠ s.lgyNetid)) ∧
    (let s : State := ({ (served modeCompat) with slot := { (served modeCompat).slot with rx := [({ id := 7, stage := 4, det := ({ place := 3, profile := 0, sync := .legacy, errs := 0, tSfd := 5, rssi := 0, offset := 0, dgain := 0, fdx := false, profWord := 0x7FF00000, scan := false } : DetRec), psdu := [2, 0, 0, 0, 255, 255, 255, 255, 9, 0, 0, 0, 5, 0] ++ [1, 2], fcsLen := 2 } : RxUnit)] } } : State)
     let n : Nat := 7
     let u : RxUnit := ({ id := 7, stage := 4, det := ({ place := 3, profile := 0, sync := .legacy, errs := 0, tSfd := 5, rssi := 0, offset := 0, dgain := 0, fdx := false, profWord := 0x7FF00000, scan := false } : DetRec), psdu := [2, 0, 0, 0, 255, 255, 255, 255, 9, 0, 0, 0, 5, 0] ++ [1, 2], fcsLen := 2 } : RxUnit)
     let p : LgyPayload := ⟨2, false, 0, 0, 0xFFFFFFFF, 9, [5, 0]⟩
     (s.lgyUnitAt n = some u) ∧ (parseLegacy u.payload = some p) ∧ (p.netid = s.lgyNetid) ∧ (p.type = 2) ∧
     (u.stale = false) ∧ (s.get LGY_SLOTCTL_MASTER = 0) ∧ (u.det.choff % 8 = 0) ∧ (2 ≤ p.data.length) ∧
     (leAt p.data 0 2 ≠ 0)) ∧
    (let s : State := ({ served modeCompat |>.put LGY_BCNPER_PER 4 with lgy := { (served modeCompat |>.put LGY_BCNPER_PER 4).lgy with synced := true, since := some 9 } } : State)
     (s.lgyLive = true) ∧ (s.lgyMissDue = true)) ∧
    (let s : State := ({ served modeCompat with lgy := { (served modeCompat).lgy with synced := true, missed := 8 } } : State)
     (s.lgyLive = true) ∧ (s.lgy.synced = true) ∧ (8 ≤ s.lgy.missed)) ∧
    (let s : State := ({ ({ served modeCompat with lgy := { (served modeCompat).lgy with frame := some { armedAt := 5 } } } : State) with slot := { conc.slot with tx := [{ id := 3, kind := .legacy, phase := .ackWait }] } } : State)
     let u : TxUnit := { id := 3, kind := .legacy, phase := .ackWait }
     let f : LgyFrame := { armedAt := 5 }
     (s.lgyLive = true) ∧ (s.lgyUnit .data = some u) ∧ (s.lgy.frame = some f) ∧ (u.phase = .ackWait) ∧ (f.aborted = false)) ∧
    (let s : State := ({ served modeCompat with slot := { conc.slot with tx := [{ id := 3, kind := .legacy, phase := .tx, fresh := true, dlen := 5 }] } } : State)
     let u : TxUnit := { id := 3, kind := .legacy, phase := .tx, fresh := true, dlen := 5 }
     (s.mode = modeCompat) ∧ (s.lgyUnit .data = some u) ∧ (u.phase = .tx) ∧ (u.owed ≠ 0) ∧ (s.lgy.tx = [])) ∧
    (let s : State := (served modeCompat)
     let v : Int := 341
     (s.mode = modeCompat) ∧ (340 < v)) := by
  refine ⟨?_, ?_, ?_, ?_, ?_, ?_, ?_, ?_, ?_, ?_⟩ <;> decide +kernel

/-- The hypotheses of `LegacyPortAndNativeUnlock`, each clause on a state that meets them. -/
theorem witness_LegacyPortAndNativeUnlock :
    (let s : State := (served modeCompat)
     let a : Nat := 0x17
     (s.lgyLive = true) ∧ (a < 0x7E) ∧ (1 ≤ a)) ∧
    (let s : State := (served modeCompat)
     let a : Nat := 0x7C
     (s.lgyLive = true) ∧ (a < 128)) ∧
    (let s : State := ({ served modeCompat with lgy := { (served modeCompat).lgy with rx := [7, 8, 9] } } : State)
     (s.lgyLive = true)) ∧
    (let s : State := (served modeCompat)
     let bs : List Byte := []
     (s.lgyLive = true) ∧ (bs = [] ∨ (bs.headD 0).toNat < 128)) ∧
    (let s : State := (served modeCompat)
     (s.lgyLive = true)) ∧
    (let s : State := (served modeCompat)
     (s.lgyLive = true)) ∧
    (let s : State := ({ served modeCompat with lgy := { (served modeCompat).lgy with unlock := .step1 } } : State)
     (s.lgyLive = true) ∧ (s.lgy.unlock = .step1)) ∧
    (let s : State := ({ served modeCompat with lgy := { (served modeCompat).lgy with unlock := .step2 } } : State)
     (s.lgyLive = true) ∧ (s.lgy.unlock = .step2) ∧ (s.clock ≤ s.lgy.unlockAt + 100000)) ∧
    (let s : State := ({ served modeCompat with lgy := { (served modeCompat).lgy with unlock := .step1 } } : State)
     let v : Fin 256 := 9
     (s.lgyLive = true) ∧ (v ≠ 0x4B) ∧
     (s.lgy.unlock = .idle ∨ (s.lgy.unlock = .step1 ∧ v ≠ 0x57) ∨ (s.lgy.unlock = .step2 ∧
     (v ≠ 0x72 ∨ s.lgy.unlockAt + 100000 < s.clock)))) ∧
    (let s : State := ({ served modeCompat with lgy := { (served modeCompat).lgy with gone := true } } : State)
     (s.mode = modeCompat) ∧ (s.lgy.gone = true) ∧ (s.airUnit = none) ∧ (s.boot.startMode = none)) := by
  refine ⟨?_, ?_, ?_, ?_, ?_, ?_, ?_, ?_, ?_, ?_⟩ <;> decide +kernel

/-- The hypotheses of `TagReadsAndIdentification`, each clause on a state that meets them. -/
theorem witness_TagReadsAndIdentification :
    (let block : Fin 256 := 3
     let s : State := ({ conc with tag := { conc.tag with field := true, ready := true } } : State)
     let req : TagReq := { addr := .own, vrec := 120 }
     (s.tagHears req = true) ∧ (s.tagFree req = true) ∧ (s.tagReadError 256 block (1) = none)) ∧
    (let block : Fin 256 := 3
     let s : State := ({ conc with tag := { conc.tag with field := true, ready := true } } : State)
     let req : TagReq := { addr := .own, vrec := 120 }
     let count : Fin 256 := 1
     (s.tagHears req = true) ∧ (s.tagFree req = true) ∧ (s.tagReadError 256 block (count.val + 1) = none)) ∧
    (let block : Fin 65536 := 3
     let s : State := ({ conc with tag := { conc.tag with field := true, ready := true } } : State)
     let req : TagReq := { addr := .own, vrec := 120 }
     (s.tagHears req = true) ∧ (s.tagFree req = true) ∧ (s.tagReadError 1984 block (1) = none)) ∧
    (let block : Fin 65536 := 3
     let s : State := ({ conc with tag := { conc.tag with field := true, ready := true } } : State)
     let req : TagReq := { addr := .own, vrec := 120 }
     let count : Fin 65536 := 1
     (s.tagHears req = true) ∧ (s.tagFree req = true) ∧ (s.tagReadError 1984 block (count.val + 1) = none)) ∧
    (let block : Fin 65536 := 1984
     let code : Nat := 16
     let s : State := ({ conc with tag := { conc.tag with field := true, ready := true } } : State)
     let req : TagReq := { addr := .own, vrec := 120 }
     (s.tagHears req = true) ∧ (s.tagReadError 1984 block 1 = some code)) ∧
    (let block : Fin 256 := 3
     let count : Fin 256 := 1
     let s : State := ({ conc with tag := { conc.tag with field := true, ready := true } } : State)
     let req : TagReq := { addr := .own, vrec := 120 }
     (s.tagHears req = true) ∧ (block.val + (count.val + 1) ≤ 256)) ∧
    (let block : Fin 65536 := 3
     let count : Fin 65536 := 1
     let s : State := ({ conc with tag := { conc.tag with field := true, ready := true } } : State)
     let req : TagReq := { addr := .own, vrec := 120 }
     (s.tagHears req = true) ∧ (block.val + (count.val + 1) ≤ 1984)) ∧
    (let s : State := ({ conc with tag := { conc.tag with field := true, ready := true } } : State)
     let req : TagReq := { addr := .own, vrec := 120 }
     (s.tagHears req = true)) ∧
    (let s : State := ({ conc with tag := { conc.tag with field := true, ready := true } } : State)
     let req : TagReq := { addr := .own, vrec := 120 }
     (s.tagHears req = true) ∧ (req.addr = .own)) ∧
    (let s : State := ({ conc with tag := { conc.tag with field := true, ready := true, state := .selected } } : State)
     let req : TagReq := { addr := .other }
     (s.tag.field = true) ∧ (s.tag.ready = true) ∧ (req.sub = false) ∧ (req.addr = .other) ∧ (s.tag.state = .selected)) ∧
    (let s : State := conc
     let req : TagReq := { addr := .own, vrec := 120 }
     (s.tagHears req = false)) ∧
    (((({ conc with tag := { conc.tag with field := true, ready := true } } : State)).tag.field = true) ∧
     ((({ conc with tag := { conc.tag with field := true, ready := true } } : State)).tag.ready = true) ∧
     ((({ conc with tag := { conc.tag with field := true, ready := true } } : State)).tag.state ≠ .quiet) ∧
     ((({ conc with tag := { conc.tag with field := true, ready := true } } : State)).afiMatches ((none : Option (Fin 256))) = true) ∧
     (leNat (({ conc with tag := { conc.tag with field := true, ready := true } } : State)).tagUid % 2 ^ ((3 : Fin 65)).val = ((leNat ({ conc with tag := { conc.tag with field := true, ready := true } } : State).tagUid : Nat)) % 2 ^ ((3 : Fin 65)).val)) := by
  refine ⟨?_, ?_, ?_, ?_, ?_, ?_, ?_, ?_, ?_, ?_, ?_, ?_⟩
  · decide +kernel
  · decide +kernel
  · decide +kernel
  · decide +kernel
  · decide +kernel
  · decide +kernel
  · decide +kernel
  · decide +kernel
  · decide +kernel
  · decide +kernel
  · decide +kernel
  · refine ⟨?_, ?_, ?_, ?_, ?_⟩ <;> first | with_reducible rfl | decide +kernel

/-- The hypotheses of `TagProtectedWrites`, each clause on a state that meets them. -/
theorem witness_TagProtectedWrites :
    (let s : State := ({ conc with tag := { conc.tag with field := true, ready := true } } : State)
     let req : TagReq := { addr := .own, vrec := 120 }
     let bk : Fin 256 := 3
     (s.tagHears req = true) ∧ (s.tagFree req = true) ∧ (96 ≤ req.vrec.val) ∧ (bk.val < 256) ∧
     (∀ k ∈ tagAreas bk 1, s.tagLocked k = false ∧ (s.tagWp k = false ∨ bit s.tag.writeSessions k = true))) ∧
    (let s : State := ({ conc with tag := { conc.tag with field := true, ready := true } } : State)
     let req : TagReq := { addr := .own, vrec := 120 }
     let bk : Fin 65536 := 3
     (s.tagHears req = true) ∧ (s.tagFree req = true) ∧ (96 ≤ req.vrec.val) ∧ (bk.val < 1984) ∧
     (∀ k ∈ tagAreas bk 1, s.tagLocked k = false ∧ (s.tagWp k = false ∨ bit s.tag.writeSessions k = true))) ∧
    (let s : State := ({ conc with tag := { conc.tag with field := true, ready := true } } : State)
     let req : TagReq := { addr := .own, vrec := 120 }
     (s.tagHears req = true) ∧ (s.tagFree req = true) ∧ (96 ≤ req.vrec.val) ∧ (bit (s.tagBlock 2008) 16 = false)) ∧
    (let s : State := ({ conc with tag := { conc.tag with field := true, ready := true } } : State)
     let req : TagReq := { addr := .own, vrec := 120 }
     (s.tagHears req = true) ∧ (s.tagFree req = true) ∧ (96 ≤ req.vrec.val) ∧ (bit (s.tagBlock 2008) 17 = false)) ∧
    (let s : State := ({ conc with tag := { conc.tag with field := true, ready := true } } : State).setTagBlock 2008 0x10000
     let req : TagReq := { addr := .own, vrec := 120 }
     (s.tagHears req = true) ∧ (bit (s.tagBlock 2008) 16 = true)) ∧
    (let a : Fin 256 := 2
     let q : Fin 256 := 1
     let s : State := ({ conc with tag := { conc.tag with field := true, ready := true } } : State)
     let req : TagReq := { addr := .own, vrec := 120 }
     (s.tagHears req = true) ∧ (s.tagFree req = true) ∧ (96 ≤ req.vrec.val) ∧ (a.val < 8) ∧ (q.val < 2) ∧
     (s.tagLocked a = false)) ∧
    (let a : Fin 256 := 2
     let q : Fin 256 := 1
     let s : State := ({ conc with tag := { conc.tag with field := true, ready := true } } : State).setTagBlock 2002 0x800
     let req : TagReq := { addr := .own, vrec := 120 }
     (s.tagHears req = true) ∧ (a.val < 8) ∧ (q.val < 2) ∧ (s.tagLocked a = true)) ∧
    (let a : Fin 256 := 2
     let q : Fin 256 := 1
     let s : State := ({ conc with tag := { conc.tag with field := true, ready := true, writeSessions := 4 } } : State)
     let req : TagReq := { addr := .own, vrec := 120 }
     (s.tagHears req = true) ∧ (s.tagFree req = true) ∧ (96 ≤ req.vrec.val) ∧ (a.val < 8) ∧ (q.val < 2) ∧
     (s.tagLocked a = false) ∧ (bit (if q.val = 0 then s.tag.readSessions else s.tag.writeSessions) a = true)) ∧
    (let s : State := ({ conc with tag := { conc.tag with field := true, ready := true, write := some { side := .field, block := 3, data := 9 } } } : State)
     let w : TagWrite := { side := .field, block := 3, data := 9 }
     let b : Nat := 5
     (s.tag.write = some w) ∧ (s.tag.field = true) ∧ (w.purpose = .data) ∧ (w.side = .field) ∧ (w.block < 2040) ∧
     (w.data < 2 ^ 32) ∧ (b < tagAddr w.block ∨ tagAddr w.block + 4 ≤ b) ∧ (b < tagAddr 2040 ∨ tagAddr 2042 ≤ b)) ∧
    (let s : State := ({ conc with tag := { conc.tag with field := true, ready := true, write := some { side := .field, block := 2002, data := 0x100, purpose := .attempt 2 1 0 } } } : State)
     let w : TagWrite := { side := .field, block := 2002, data := 0x100, purpose := .attempt 2 1 0 }
     let a : Nat := 2
     let q : Nat := 1
     let n : Nat := 0
     (s.tag.write = some w) ∧ (s.tag.field = true) ∧ (w.purpose = .attempt a q n) ∧ (a < 8) ∧ (w.block = 2000 + a) ∧
     (w.data < 2 ^ 32) ∧ (s.tagBlock ((if q = 0 then 1984 else 1992) + a) = n)) ∧
    (let s : State := ({ conc with tag := { conc.tag with field := true, ready := true, write := some { side := .field, block := 2002, data := 0x100, purpose := .attempt 2 1 5 } } } : State)
     let w : TagWrite := { side := .field, block := 2002, data := 0x100, purpose := .attempt 2 1 5 }
     let a : Nat := 2
     let q : Nat := 1
     let n : Nat := 5
     (s.tag.write = some w) ∧ (s.tag.field = true) ∧ (w.purpose = .attempt a q n) ∧ (a < 8) ∧ (w.block = 2000 + a) ∧
     (w.data < 2 ^ 32) ∧ (s.tagBlock ((if q = 0 then 1984 else 1992) + a) ≠ n)) ∧
    (let s : State := ({ conc with tag := { conc.tag with field := true, ready := true, write := some { side := .field, block := 2002, data := 0, purpose := .opened 2 1 } } } : State)
     let w : TagWrite := { side := .field, block := 2002, data := 0, purpose := .opened 2 1 }
     let a : Nat := 2
     let q : Nat := 1
     (s.tag.write = some w) ∧ (s.tag.field = true) ∧ (w.purpose = .opened a q)) ∧
    (let s : State := ({ conc with tag := { conc.tag with field := true, ready := true, lockouts := [3] } } : State)
     let area : Fin 8 := 3
     (s.tag.lockouts.contains area.val = true)) ∧
    (let s : State := ({ conc with tag := { conc.tag with field := true, ready := true } } : State)
     let value : Word := 0x10003#32
     let b : Nat := 3
     (bit value.toNat 16 = true) ∧ (b = slice value.toNat 0 11) ∧ (b < 2000) ∧ (s.get TAG_WSTAT_RUN = 0) ∧
     (s.tag.ready = true) ∧ (s.tag.write = none) ∧ (s.tag.reserved = none)) ∧
    (let s : State := ({ conc with tag := { conc.tag with field := true, ready := true } } : State)
     (s.get TAG_WSTAT_RUN = 0) ∧ (s.tag.ready = true) ∧ (s.tag.write = none) ∧ (s.tag.reserved = none)) ∧
    (let s : State := ({ conc with tag := { conc.tag with field := true } } : State)
     (s.tagPowered = true ∨ s.tag.field = true) ∧ (s.tag.ready = false)) ∧
    (let s : State := conc
     (s.tag.field = false) ∧ (s.tagPowered = true) ∧ (s.power.state ≠ .sleep)) ∧
    (let s : State := ({ conc with tag := { conc.tag with field := true, ready := true, readSessions := 3 } } : State)
     (s.tag.field = true) ∧ (s.tagPowered = true)) ∧
    (let s : State := ({ conc with tag := { conc.tag with field := true, ready := true } } : State)
     (s.tag.write = none) ∧ (s.tag.reserved = none) ∧ (s.tag.ready = true) ∧ (s.tagSelect < 1984)) := by
  refine ⟨?_, ?_, ?_, ?_, ?_, ?_, ?_, ?_, ?_, ?_, ?_, ?_, ?_, ?_, ?_, ?_, ?_, ?_, ?_⟩ <;> decide +kernel

/-- The hypotheses of `PowerStateEntryAndReturn`, each clause on a state that meets them. -/
theorem witness_PowerStateEntryAndReturn :
    (let s : State := conc.put PRC_WAKEEN_EN 16
     ((s.power.state = .run ∨ s.power.state = .doze)) ∧ (s.get PRC_PWRSTAT_PENDING = 0) ∧ (s.mode ≠ modeCompat) ∧
     (s.mode ≠ modeRecovery) ∧ (s.core0.halted = false) ∧ (s.core1.halted = false) ∧ (s.wakeable .sleep = true)) ∧
    (let s : State := conc.put PRC_WAKEEN_EN 16
     ((s.power.state = .run ∨ s.power.state = .doze)) ∧ (s.get PRC_PWRSTAT_PENDING = 0) ∧ (s.mode ≠ modeCompat) ∧
     (s.mode ≠ modeRecovery) ∧ (s.core0.halted = false) ∧ (s.core1.halted = false) ∧ (s.wakeable .deep = true)) ∧
    (let s : State := conc.put PRC_WAKEEN_EN 16
     ((s.power.state = .run ∨ s.power.state = .doze)) ∧ (s.get PRC_PWRSTAT_PENDING = 0) ∧ (s.mode ≠ modeCompat) ∧
     (s.mode ≠ modeRecovery) ∧ (s.core0.halted = false) ∧ (s.core1.halted = false) ∧ (s.wakeable .standby = true)) ∧
    (let s : State := conc
     ((s.power.state = .run ∨ s.power.state = .doze)) ∧ (s.get PRC_PWRSTAT_PENDING = 0) ∧ (s.mode ≠ modeCompat) ∧
     (s.mode ≠ modeRecovery) ∧ (s.core0.halted = false) ∧ (s.core1.halted = false)) ∧
    (let s : State := recovery
     ((s.power.state = .run ∨ s.power.state = .doze)) ∧ (s.get PRC_PWRSTAT_PENDING = 0) ∧
     ((s.mode = modeCompat ∨ s.mode = modeRecovery))) ∧
    (let s : State := ({ conc with core1 := { conc.core1 with halted := true } } : State)
     ((s.power.state = .run ∨ s.power.state = .doze)) ∧ (s.get PRC_PWRSTAT_PENDING = 0) ∧ (s.mode ≠ modeCompat) ∧
     (s.mode ≠ modeRecovery) ∧ ((s.core0.halted = true ∨ s.core1.halted = true))) ∧
    (let s : State := (conc.put PRC_WAKEEN_EN 0).put TAG_CTRL_WAKE_EN 0
     ((s.power.state = .run ∨ s.power.state = .doze)) ∧ (s.get PRC_PWRSTAT_PENDING = 0) ∧ (s.mode ≠ modeCompat) ∧
     (s.mode ≠ modeRecovery) ∧ (s.core0.halted = false) ∧ (s.core1.halted = false) ∧ (s.wakeable .sleep = false) ∧
     (s.wakeable .deep = false) ∧ (s.wakeable .standby = false)) ∧
    (let s : State := ((conc).flag PRC_PWRSTAT_PENDING true).setPower { (conc).power with target := .sleep }
     ((s.power.state = .run ∨ s.power.state = .doze)) ∧ (s.get PRC_PWRSTAT_PENDING = 1)) ∧
    (let s : State := ((conc).flag PRC_PWRSTAT_PENDING true).setPower { (conc).power with target := .deep }
     (s.get PRC_PWRSTAT_PENDING = 1) ∧ (s.entryReady = true) ∧
     ((s.power.target = .sleep ∨ s.power.target = .deep ∨ s.power.target = .standby ∨ s.power.target = .off))) ∧
    (let s : State := ({ conc with power := { conc.power with state := .doze }, core0 := { conc.core0 with run := .waiting, ipend := 4, ien := 4 } } : State)
     (s.power.state = .doze) ∧ ((s.core0.wakes = true ∨ s.core1.wakes = true))) ∧
    (let s : State := ({ conc with power := { conc.power with state := .sleep, wakes := [] } } : State).put PRC_WAKEEN_EN 16
     let n : Fin 10 := 4
     (s.wakeEnabled n = true) ∧ (s.get PRC_PWRSTAT_PENDING = 0) ∧ (wakeLive s.power.state n = true)) ∧
    (let s : State := (((conc).flag PRC_PWRSTAT_PENDING true).setPower { (conc).power with target := .sleep }).put PRC_WAKEEN_EN 16
     let n : Fin 10 := 4
     (s.wakeEnabled n = true) ∧ (s.get PRC_PWRSTAT_PENDING = 1)) ∧
    (let s : State := conc
     let n : Fin 10 := 4
     (s.wakeEnabled n = false ∨ (s.get PRC_PWRSTAT_PENDING = 0 ∧ wakeLive s.power.state n = false))) ∧
    (let s : State := ({ conc with power := { conc.power with state := .sleep, wakes := [2] } } : State)
     let w : Nat := 2
     let ws : List Nat := []
     (s.power.state = .sleep) ∧ (s.power.wakes = w :: ws) ∧ (w < 10)) ∧
    (let s : State := ({ conc with power := { conc.power with state := .deep, wakes := [4] } } : State)
     let w : Nat := 4
     let ws : List Nat := []
     (s.power.state = .deep) ∧ (s.power.wakes = w :: ws) ∧ (w < 10)) ∧
    (let s : State := ({ conc with power := { conc.power with state := .deep, wakes := [4] } } : State)
     let st : Fin 5 := 3
     ((s.power.state = .sleep ∨ s.power.state = .deep)) ∧ (s.power.wakes ≠ []) ∧ (st ≠ 0)) ∧
    (let s : State := ((({ conc with power := { conc.power with state := .sleep, wakes := [] } } : State).put PRC_WAKEEN_EN 256).put PRC_SLPWAKE_L_TNET 1000).put PRC_SLPWAKE_H_TNET 0
     (s.power.state = .sleep) ∧ (s.get PRC_PWRSTAT_PENDING = 0) ∧ (s.wakeEnabled 8 = true) ∧
     (s.tnet ≤ s.get PRC_SLPWAKE_L_TNET + s.get PRC_SLPWAKE_H_TNET * 2 ^ 32)) := by
  refine ⟨?_, ?_, ?_, ?_, ?_, ?_, ?_, ?_, ?_, ?_, ?_, ?_, ?_, ?_, ?_, ?_, ?_⟩ <;> decide +kernel

/-- The hypotheses of `SupplyClockAndWatchdogs`, each clause on a state that meets them. -/
theorem witness_SupplyClockAndWatchdogs :
    (let s : State := conc
     (s.power.state ≠ .standby) ∧ (s.power.state ≠ .off)) ∧
    (let s : State := conc
     let x : Int := 444
     (4 * (s.get PRC_SUPCFG_THERM : Int) < x) ∧ (s.get PRC_STATUS_THERM_HOT = 0)) ∧
    (let s : State := conc.flag PRC_STATUS_THERM_HOT true
     let x : Int := 420
     (x ≤ 4 * (s.get PRC_SUPCFG_THERM : Int) - 20)) ∧
    (let s : State := conc
     let n : Nat := 4800480
     let d : Nat := 4800
     ((s.power.state = .run ∨ s.power.state = .doze ∨ s.power.state = .sleep)) ∧ (d = (10 * ((n : Int) - 4800000)).natAbs)) ∧
    (let s : State := conc
     (s.get PRC_STATUS_REF_FAIL = 0) ∧ (s.power.state ≠ .standby) ∧ (s.power.state ≠ .off)) ∧
    (let s : State := conc.flag PRC_STATUS_REF_FAIL true
     (s.get PRC_STATUS_REF_FAIL = 1) ∧ (s.get PRC_STATUS_REF_OK = 0)) ∧
    (let s : State := conc
     ((∀ w ∈ s.tag.write.toList, w.block < 2048))) ∧
    (let s : State := conc
     let c1 : Bool := true
     (s.get (PRC_WDT_CFG_EN (ofBool c1)) = 0)) ∧
    (let s : State := ((conc.flag (PRC_WDT_CFG_EN 0) true).put (PRC_WDT_STAT_REMAIN 0) 101)
     let c1 : Bool := false
     let r : Nat := 100
     (s.get (PRC_WDT_CFG_EN (ofBool c1)) = 1) ∧ (s.wdtPaused (ofBool c1) = false) ∧
     (r = s.get (PRC_WDT_STAT_REMAIN (ofBool c1)) - 1) ∧ (r < 65536)) ∧
    (let s : State := conc
     let c1 : Bool := true
     ((s.get (PRC_WDT_CFG_EN (ofBool c1)) = 0 ∨ s.wdtPaused (ofBool c1) = true))) ∧
    (let s : State := conc.flag (PRC_WDT_CFG_EN 0) true
     let c1 : Bool := false
     (s.get (PRC_WDT_CFG_EN (ofBool c1)) = 1) ∧ (s.wdtPaused (ofBool c1) = false) ∧
     (s.get (PRC_WDT_STAT_REMAIN (ofBool c1)) = 0)) ∧
    (let v : Word := 0xA5A5#32
     (v.toNat = 0xA5A5)) ∧
    (let s : State := ((conc.flag (PRC_WDT_CFG_EN 0) true).setWdt 0 { half := true, since := some 50 })
     let c1 : Bool := false
     let v : Word := 0x5A5A#32
     (v.toNat = 0x5A5A) ∧ ((s.wdt (ofBool c1)).half = true) ∧ (s.get (PRC_WDT_CFG_EN (ofBool c1)) = 1) ∧
     ((∀ n ∈ (s.wdt (ofBool c1)).since.toList, s.get (PRC_WDT_CFG_WINDOW (ofBool c1)) ≤ n))) ∧
    (let s : State := (((conc.flag (PRC_WDT_CFG_EN 0) true).put (PRC_WDT_CFG_WINDOW 0) 100).setWdt 0 { half := true, since := some 50 })
     let c1 : Bool := false
     let v : Word := 0x5A5A#32
     let n : Nat := 50
     (v.toNat = 0x5A5A) ∧ ((s.wdt (ofBool c1)).half = true) ∧ (s.get (PRC_WDT_CFG_EN (ofBool c1)) = 1) ∧
     ((s.wdt (ofBool c1)).since = some n) ∧ (n < s.get (PRC_WDT_CFG_WINDOW (ofBool c1)))) ∧
    (let s : State := conc.flag (PRC_WDT_CFG_EN 0) true
     let c1 : Bool := false
     let v : Word := 1#32
     (v.toNat ≠ 0xA5A5) ∧ (v.toNat ≠ 0x5A5A) ∧ (s.get (PRC_WDT_CFG_EN (ofBool c1)) = 1)) := by
  refine ⟨?_, ?_, ?_, ?_, ?_, ?_, ?_, ?_, ?_, ?_, ?_, ?_, ?_, ?_, ?_⟩ <;> decide +kernel

/-- The hypotheses of `ResetsAndBlockResets`, each clause on a state that meets them. -/
theorem witness_ResetsAndBlockResets :
    (let v : Fin 65536 := 0x5253
     (v.val = 0x5253)) ∧
    (let v : Fin 65536 := 0x5253
     (v.val = 0x5253)) ∧
    (let v : Fin 65536 := 7
     (v.val ≠ 0x5253)) ∧
    (let s : State := { conc with power := { conc.power with stretch := [] } }
     let n : Nat := 32
     (32 ≤ n) ∧ ((∀ c ∈ s.power.stretch, c = 3))) ∧
    (let n : Nat := 31
     (n < 32)) ∧
    (let s : State := ({ conc with power := { conc.power with state := .off, wakes := [] } } : State)
     ((s.power.supply = false ∨ s.power.state = .off ∨ (s.power.state = .standby ∧ s.power.wakes ≠ [])))) ∧
    (let s : State := { conc with power := { conc.power with stretch := [], resetReq := [2, 6] } }
     (s.power.resetReq.any (fun c => decide (resetReach s.power.state c = Reach.cold)) = true) ∧ (s.power.stretch = []) ∧
     (s.power.state ≠ .sleep) ∧ (s.power.state ≠ .deep)) ∧
    (let s : State := { conc with power := { conc.power with stretch := [], resetReq := [6, 7] } }
     (s.codesOf .cold = []) ∧ (s.codesOf .warm ≠ []) ∧ (s.power.stretch = []) ∧ (s.power.state ≠ .sleep) ∧
     (s.power.state ≠ .deep)) ∧
    (let s : State := { conc with power := { conc.power with stretch := [], resetReq := [7] } }
     (s.power.resetReq ≠ []) ∧ (s.codesOf .cold = []) ∧ (s.codesOf .warm = []) ∧ (s.power.stretch = []) ∧
     (s.power.state ≠ .sleep) ∧ (s.power.state ≠ .deep) ∧ (s.mode ≠ modeTest) ∧ (s.faults.entries.length < 16)) ∧
    (let s : State := { conc with power := { conc.power with stretch := [6], resetReq := [7] } }
     (s.power.resetReq ≠ []) ∧ (s.codesOf .cold = []) ∧ (s.power.stretch ≠ []) ∧ (s.power.state ≠ .sleep) ∧
     (s.power.state ≠ .deep)) ∧
    (let s : State := { conc with power := { conc.power with stretch := [], resetReq := [] } }
     ((s.power.resetReq = [] ∨ ((s.power.state = .sleep ∨ s.power.state = .deep) ∧ s.power.resetReq.contains 0x0E = false ∧ s.power.resetReq.contains 9 = false)))) ∧
    (let s : State := { conc with power := { conc.power with stretch := [6] } }
     (s.power.stretch ≠ [])) ∧
    (let s : State := conc.put PKE_LEN_LEN 5
     let f : RegField := PKE_LEN_LEN
     (f.key / 0x200000 = 0x4007) ∧ (s.get PRC_BLKRST_BLOCK = 0)) ∧
    (let s : State := conc.put TXP_CTRL_MASK_EN 1
     let f : RegField := TXP_CTRL_MASK_EN
     (f.key / 0x200000 = 0x4003) ∧ (s.get PRC_BLKRST_BLOCK = 0) ∧ (s.mode ≠ modeCompat)) ∧
    (let s : State := inMode modeCompat
     (s.mode = modeCompat) ∧ (s.get PRC_BLKRST_BLOCK = 0)) ∧
    (let s : State := conc.put PRC_BLKRST_BLOCK 32
     let n : Fin 9 := 5
     (bit (s.get PRC_BLKRST_BLOCK) n = true) ∧ ((n = 8 → s.tag.write = none)) ∧ (1 < n.val)) ∧
    (let s : State := conc.put PRC_BLKRST_BLOCK 1
     (bit (s.get PRC_BLKRST_BLOCK) 0 = true)) := by
  refine ⟨?_, ?_, ?_, ?_, ?_, ?_, ?_, ?_, ?_, ?_, ?_, ?_, ?_, ?_, ?_, ?_, ?_⟩ <;> decide +kernel

/-- The hypotheses of `BootUpdateAndSwap`, each clause on a state that meets them. -/
theorem witness_BootUpdateAndSwap :
    (let s : State := { conc with boot := { conc.boot with due := true } }
     (s.boot.due = true)) ∧
    (let s : State := { conc with boot := { conc.boot with due := true } }
     (s.boot.due = true) ∧ (s.rootBlank = true)) ∧
    (let s : State := owned
     (s.boot.due = false)) ∧
    (let s : State := owned
     let env : DictEnv := {}
     (s.boot.upd.state ≠ 4) ∧ ((s.boot.upd.state ≠ 2 ∨ env.writing = false))) ∧
    (let s : State := (owned.setUpd { state := 4 })
     (s.boot.upd.state = 4)) ∧
    (let s : State := (owned.setUpd { state := 2 })
     let env : DictEnv := { writing := true }
     (s.boot.upd.state = 2) ∧ (env.writing = true)) ∧
    (let s : State := (owned.setUpd { state := 1, bytes := [1, 2] })
     let off : Word := 2#32
     let bs : List Byte := [3]
     (0 < bs.length) ∧ (bs.length ≤ 1020) ∧ (s.boot.upd.state = 1) ∧ (off.toNat = s.boot.upd.bytes.length) ∧
     (off.toNat + bs.length < 16)) ∧
    (let s : State := (owned.setUpd { state := 1 })
     let off : Word := 0#32
     let bs : List Byte := List.replicate 16 0
     let p : List Byte := List.replicate 16 0
     (0 < bs.length) ∧ (bs.length ≤ 1020) ∧ (s.boot.upd.state = 1) ∧ (off.toNat = s.boot.upd.bytes.length) ∧
     (p = s.boot.upd.bytes ++ bs) ∧ (16 ≤ p.length) ∧
     ((pkgHeaderOk p = false ∨ (pkgHead p ≤ p.length ∧ pkgFormed p false = false)))) ∧
    (let s : State := (owned.setUpd { state := 1 })
     let off : Word := 0#32
     let bs : List Byte := leBytes 4 0x7250504B ++ [1, 0, 1, 0] ++ List.replicate 476 0
     let p : List Byte := leBytes 4 0x7250504B ++ [1, 0, 1, 0] ++ List.replicate 476 0
     let r : Nat := 1
     (0 < bs.length) ∧ (bs.length ≤ 1020) ∧ (s.boot.upd.state = 1) ∧ (off.toNat = s.boot.upd.bytes.length) ∧
     (p = s.boot.upd.bytes ++ bs) ∧ (pkgHeaderOk p = true) ∧ (pkgHead p ≤ p.length) ∧ (s.pkgCheck p false = some r)) ∧
    (let s : State := (owned.setUpd { state := 1, bytes := [1, 2] })
     let off : Word := 3#32
     let bs : List Byte := [3]
     let env : DictEnv := {}
     (0 < bs.length) ∧ (bs.length ≤ 1020) ∧ ((s.boot.upd.state = 1 ∨ (s.boot.upd.state = 2 ∧ env.writing = false))) ∧
     (off.toNat ≠ s.boot.upd.bytes.length)) ∧
    (let s : State := owned
     let bs : List Byte := [3]
     (0 < bs.length) ∧ (bs.length ≤ 1020) ∧ (s.boot.upd.state ≠ 1) ∧ (s.boot.upd.state ≠ 2)) ∧
    (let s : State := (owned.setUpd { state := 2, staged := 0 })
     (s.boot.upd.state = 2) ∧ (s.boot.upd.staged = pkgCount s.boot.upd.bytes)) ∧
    (let s : State := owned
     ((s.boot.upd.state ≠ 2 ∨ s.boot.upd.staged ≠ pkgCount s.boot.upd.bytes))) ∧
    (let s : State := (owned.setUpd { state := 3 })
     (s.boot.upd.state = 3) ∧ (s.get BTU_LOCK_LOCK = 0)) ∧
    (let s : State := owned
     (s.boot.upd.state ≠ 3) ∧ (s.boot.upd.state ≠ 4)) ∧
    (let s : State := (owned.setUpd { state := 2 })
     ((s.boot.upd.state = 1 ∨ s.boot.upd.state = 2))) ∧
    (let s : State := (owned.setUpd { state := 5 })
     ((s.boot.upd.state = 3 ∨ s.boot.upd.state = 5))) ∧
    (let s : State := (owned.setUpd { state := 4 })
     let env : DictEnv := {}
     (s.boot.upd.state = 4) ∧ (env.otpFail = false)) ∧
    (let s : State := (owned.setUpd { state := 4 })
     (s.boot.upd.state = 4)) ∧
    (let s : State := conc
     (s.get BTU_LOCK_LOCK = 0)) ∧
    (let s : State := conc.flag BTU_LOCK_LOCK true
     (s.get BTU_LOCK_LOCK ≠ 0)) := by
  refine ⟨?_, ?_, ?_, ?_, ?_, ?_, ?_, ?_, ?_, ?_, ?_, ?_, ?_, ?_, ?_, ?_, ?_, ?_, ?_, ?_, ?_⟩ <;> decide +kernel

/-- The hypotheses of `RecoveryProtocol`, each clause on a state that meets them. -/
theorem witness_RecoveryProtocol :
    (let s : State := ({ recovery with power := { recovery.power with stretch := [] }, boot := { recovery.boot with due := false, session := none } } : State)
     let z : State := ((({ recovery with power := { recovery.power with stretch := [] }, boot := { recovery.boot with due := false, session := none } } : State)).hostStart.bump HDP_CNT0_ACCEPTED)
     let id : HostId := { transport := 0 }
     (s.recovers id = some z) ∧ ((∀ x ∈ s.boot.session.toList, x.holder = some id))) ∧
    (let s : State := ({ recovery with power := { recovery.power with stretch := [] }, boot := { recovery.boot with due := false, session := none } } : State)
     let z : State := ((({ recovery with power := { recovery.power with stretch := [] }, boot := { recovery.boot with due := false, session := none } } : State)).hostStart.bump HDP_CNT0_ACCEPTED)
     let id : HostId := { transport := 0 }
     (s.recovers id = some z) ∧ ((∀ x ∈ s.boot.session.toList, x.holder = some id)) ∧ (s.get BTU_BOOTSTAT_OTP_FAULT = 0)) ∧
    (let s : State := ({ recovery with power := { recovery.power with stretch := [] }, boot := { recovery.boot with due := false, session := none } } : State).put BTU_BOOTSTAT_OTP_FAULT 1
     let z : State := ({ recovery with power := { recovery.power with stretch := [] }, boot := { recovery.boot with due := false, session := none } } : State).put BTU_BOOTSTAT_OTP_FAULT 1 |>.hostStart |>.bump HDP_CNT0_ACCEPTED
     let id : HostId := { transport := 0 }
     (s.recovers id = some z) ∧ ((∀ x ∈ s.boot.session.toList, x.holder = some id)) ∧ (s.get BTU_BOOTSTAT_OTP_FAULT ≠ 0)) ∧
    (let off : Word := 2#32
     let bs : List Byte := [9]
     let r : RecSession := { holder := some { transport := 0 }, total := 3, bytes := [7, 8] }
     let s : State := ({ recovery with power := { recovery.power with stretch := [] }, boot := { recovery.boot with due := false, session := some { holder := some { transport := 0 }, total := 3, bytes := [7, 8] } } } : State)
     let z : State := ((({ recovery with power := { recovery.power with stretch := [] }, boot := { recovery.boot with due := false, session := some { holder := some { transport := 0 }, total := 3, bytes := [7, 8] } } } : State)).hostStart.bump HDP_CNT0_ACCEPTED)
     let id : HostId := { transport := 0 }
     let env : HostEnv := {}
     (s.recovers id = some z) ∧ ((∀ x ∈ s.boot.session.toList, x.holder = some id)) ∧ (s.boot.session = some r) ∧
     (0 < bs.length) ∧ (bs.length ≤ 1020) ∧ (env.dict.writing = false) ∧ (off.toNat = r.bytes.length) ∧
     (r.bytes.length + bs.length ≤ r.total)) ∧
    (let off : Word := 1#32
     let bs : List Byte := [9]
     let r : RecSession := { holder := some { transport := 0 }, total := 3, bytes := [7, 8] }
     let s : State := ({ recovery with power := { recovery.power with stretch := [] }, boot := { recovery.boot with due := false, session := some { holder := some { transport := 0 }, total := 3, bytes := [7, 8] } } } : State)
     let z : State := ((({ recovery with power := { recovery.power with stretch := [] }, boot := { recovery.boot with due := false, session := some { holder := some { transport := 0 }, total := 3, bytes := [7, 8] } } } : State)).hostStart.bump HDP_CNT0_ACCEPTED)
     let id : HostId := { transport := 0 }
     let env : HostEnv := {}
     (s.recovers id = some z) ∧ ((∀ x ∈ s.boot.session.toList, x.holder = some id)) ∧ (s.boot.session = some r) ∧
     (0 < bs.length) ∧ (bs.length ≤ 1020) ∧ (env.dict.writing = false) ∧
     ((off.toNat ≠ r.bytes.length ∨ r.total < r.bytes.length + bs.length))) ∧
    (let r : RecSession := { holder := some { transport := 0 }, total := 3, bytes := [7, 8] }
     let s : State := ({ recovery with power := { recovery.power with stretch := [] }, boot := { recovery.boot with due := false, session := some { holder := some { transport := 0 }, total := 3, bytes := [7, 8] } } } : State)
     let z : State := ((({ recovery with power := { recovery.power with stretch := [] }, boot := { recovery.boot with due := false, session := some { holder := some { transport := 0 }, total := 3, bytes := [7, 8] } } } : State)).hostStart.bump HDP_CNT0_ACCEPTED)
     let id : HostId := { transport := 0 }
     (s.recovers id = some z) ∧ ((∀ x ∈ s.boot.session.toList, x.holder = some id)) ∧ (s.boot.session = some r) ∧
     (r.bytes.length ≠ r.total)) ∧
    (let s : State := ({ recovery with power := { recovery.power with stretch := [] }, boot := { recovery.boot with due := false, session := none } } : State)
     let z : State := ((({ recovery with power := { recovery.power with stretch := [] }, boot := { recovery.boot with due := false, session := none } } : State)).hostStart.bump HDP_CNT0_ACCEPTED)
     let id : HostId := { transport := 0 }
     (s.recovers id = some z) ∧ ((∀ x ∈ s.boot.session.toList, x.holder = some id)) ∧ (s.boot.session = none)) ∧
    (let s : State := ({ recovery with power := { recovery.power with stretch := [] }, boot := { recovery.boot with due := false, session := none } } : State)
     let z : State := ((({ recovery with power := { recovery.power with stretch := [] }, boot := { recovery.boot with due := false, session := none } } : State)).hostStart.bump HDP_CNT0_ACCEPTED)
     let id : HostId := { transport := 0 }
     (s.recovers id = some z) ∧ ((∀ x ∈ s.boot.session.toList, x.holder = some id))) ∧
    (let r : RecSession := { holder := none, total := 3 }
     let s : State := ({ recovery with power := { recovery.power with stretch := [] }, boot := { recovery.boot with due := false, session := some { holder := none, total := 3 } } } : State)
     let z : State := ((({ recovery with power := { recovery.power with stretch := [] }, boot := { recovery.boot with due := false, session := some { holder := none, total := 3 } } } : State)).hostStart.bump HDP_CNT0_ACCEPTED)
     let id : HostId := { transport := 0 }
     (s.recovers id = some z) ∧ (s.boot.session = some r) ∧ (r.holder ≠ some id)) ∧
    (let s : State := ({ ({ recovery with power := { recovery.power with stretch := [] }, boot := { recovery.boot with due := false, session := none } } : State) with tag := { field := true, ready := true } } : State)
     let req : TagReq := { addr := .own, vrec := 120 }
     (s.mode = modeRecovery) ∧ (s.portsServed = true) ∧ (s.tagPowered = true) ∧ (s.tagHears req = true) ∧
     ((∀ x ∈ s.boot.session.toList, x.holder = none)) ∧ (s.get BTU_BOOTSTAT_OTP_FAULT = 0)) := by
  refine ⟨?_, ?_, ?_, ?_, ?_, ?_, ?_, ?_, ?_, ?_⟩ <;> decide +kernel

/-- The hypotheses of `PublicKeyHashAndRandom`, each clause on a state that meets them. -/
theorem witness_PublicKeyHashAndRandom :
    (let s : State := conc
     (s.get PKE_STATUS_BUSY = 0)) ∧
    (let s : State := conc.flag PKE_STATUS_BUSY true
     (s.get PKE_STATUS_BUSY ≠ 0)) ∧
    (let s : State := ({ conc with poison := [], pke := { run := some { op := 1, fin := true, src := 0x20001000, len := 8, opaddr := 0x20002000 } } } : State)
     let r : PkeRun := { op := 1, fin := true, src := 0x20001000, len := 8, opaddr := 0x20002000 }
     (s.pke.run = some r) ∧ (r.op = 1) ∧ (r.cont = false) ∧ (r.fin = true) ∧ (opBlockOk r.opaddr true = true) ∧
     (spanSys r.src r.len = true) ∧ (s.poisonedIn r.src r.len = false) ∧ (s.poison = [])) ∧
    (let s : State := ({ conc with poison := [], pke := { run := some { op := 1, cont := true, src := 0x20001000, len := 64 }, chain := some [5] } } : State)
     let r : PkeRun := { op := 1, cont := true, src := 0x20001000, len := 64 }
     let c : List Byte := [5]
     (s.pke.run = some r) ∧ (r.op = 1) ∧ (r.fin = false) ∧ (r.len % 64 = 0) ∧
     ((if r.cont = true then s.pke.chain = some c else c = [])) ∧ (spanSys r.src r.len = true) ∧
     (s.poisonedIn r.src r.len = false)) ∧
    (let s : State := ({ conc with pke := { run := some ({ op := 1, len := 5 }) } } : State)
     let r : PkeRun := { op := 1, len := 5 }
     (s.pke.run = some r) ∧ (r.op = 1) ∧ (((r.cont = true ∧ s.pke.chain = none) ∨ (r.fin = false ∧ r.len % 64 ≠ 0)))) ∧
    (let s : State := ({ conc with pke := { run := some ({ op := 1, src := 0x40000000 }) } } : State)
     let r : PkeRun := { op := 1, src := 0x40000000 }
     (s.pke.run = some r) ∧ (r.op = 1) ∧ ((r.cont = false ∨ s.pke.chain.isSome = true)) ∧ (r.fin = false) ∧
     (r.len % 64 = 0) ∧ (spanSys r.src r.len = false) ∧ (spanFlash r.src r.len = false)) ∧
    (let s : State := ({ conc with poison := [(0x20001000, true)], pke := { run := some { op := 1, src := 0x20001000, len := 64 } } } : State)
     let r : PkeRun := { op := 1, src := 0x20001000, len := 64 }
     (s.pke.run = some r) ∧ (r.op = 1) ∧ ((r.cont = false ∨ s.pke.chain.isSome = true)) ∧ (r.fin = false) ∧
     (r.len % 64 = 0) ∧ (spanSys r.src r.len = true) ∧ (s.poisonedIn r.src r.len = true)) ∧
    (let s : State := ({ conc with poison := [], pke := { run := some { op := 2, opaddr := 0x20002000 } } } : State)
     let r : PkeRun := { op := 2, opaddr := 0x20002000 }
     (s.pke.run = some r) ∧ (r.op = 2) ∧ (r.opaddr % 4 = 0) ∧ (spanSys r.opaddr 160 = true) ∧
     (s.poisonedIn r.opaddr 160 = false)) ∧
    (let s : State := ({ conc with poison := [], pke := { run := some { op := 3, opaddr := 0x20002000 } } } : State).flag PKE_RNGSTAT_STARTUP false
     let r : PkeRun := { op := 3, opaddr := 0x20002000 }
     (s.pke.run = some r) ∧ (r.op = 3) ∧ (s.get PKE_RNGSTAT_STARTUP = 0) ∧ (s.get PKE_RNGSTAT_HEALTH_FAIL = 0) ∧
     (opBlockOk r.opaddr true = true) ∧ (s.poison = [])) ∧
    (let s : State := ((({ conc with pke := { run := some ({ op := 3 }) } } : State)).flag PKE_RNGSTAT_STARTUP false).flag PKE_RNGSTAT_HEALTH_FAIL true
     let r : PkeRun := { op := 3 }
     (s.pke.run = some r) ∧ (r.op = 3) ∧ (s.get PKE_RNGSTAT_STARTUP = 0) ∧ (s.get PKE_RNGSTAT_HEALTH_FAIL ≠ 0)) ∧
    (let s : State := conc
     (s.get PKE_RNGSTAT_HEALTH_FAIL = 0)) ∧
    (let s : State := conc
     (s.get PKE_RNGSTAT_HEALTH_FAIL = 0)) ∧
    (let s : State := conc.flag PKE_RNGSTAT_HEALTH_FAIL true
     (s.get PKE_RNGSTAT_HEALTH_FAIL ≠ 0)) ∧
    (let s : State := conc
     (bit s.faults.openMask 0x19 = false)) ∧
    (let s : State := owned
     let n : List Byte := [1, 2]
     (0 < n.length) ∧ (n.length ≤ 32) ∧ (s.get PKE_RNGSTAT_HEALTH_FAIL = 0)) ∧
    (let s : State := owned.flag PKE_RNGSTAT_HEALTH_FAIL true
     let n : List Byte := [1, 2]
     (0 < n.length) ∧ (n.length ≤ 32) ∧ (s.get PKE_RNGSTAT_HEALTH_FAIL ≠ 0)) ∧
    (let s : State := owned
     let ky : List Byte := List.replicate 64 7
     let env : DictEnv := {}
     (ky.length = 64) ∧ (s.otpNum 0x230 4 ≠ 0x5A5A5A5A) ∧ (env.otpFail = false)) ∧
    (let s : State := owned.setNum 0x28000230 4 0x5A5A5A5A
     let ky : List Byte := List.replicate 64 7
     (ky.length = 64) ∧ (s.otpNum 0x230 4 = 0x5A5A5A5A)) ∧
    (let s : State := owned
     let ky : List Byte := List.replicate 64 7
     let env : DictEnv := { otpFail := true }
     (ky.length = 64) ∧ (s.otpNum 0x230 4 ≠ 0x5A5A5A5A) ∧ (env.otpFail = true)) := by
  refine ⟨?_, ?_, ?_, ?_, ?_, ?_, ?_, ?_, ?_, ?_, ?_, ?_, ?_, ?_, ?_, ?_, ?_, ?_, ?_⟩ <;> decide +kernel

/-- The hypotheses of `RegisterWritesByAccessCode`, each clause on a state that meets them. -/
theorem witness_RegisterWritesByAccessCode :
    (let s : State := conc
     let v : Word := 0x00320002#32
     (bit v.toNat 9 = false) ∧ (s.get PRC_CTRL_CORE_CLK < 4) ∧ (s.get PRC_CTRL_ENTRY_TO < 256)) ∧
    (let s : State := conc.flag PRC_STATUS_CLK_DEV true
     (s.get PRC_STATUS_CLK_DEV < 2)) ∧
    (let s : State := conc
     (bit (s.get PRC_BLKRST_BLOCK) 5 = false) ∧ (s.get PKE_LOCK_LOCK = 0) ∧ (s.get PKE_SRC_ADDR < 2 ^ 32) ∧
     (s.get PKE_OPADDR_ADDR < 2 ^ 32) ∧ (s.get PKE_LEN_LEN < 2 ^ 24)) ∧
    (let s : State := conc.flag PKE_LOCK_LOCK true
     (bit (s.get PRC_BLKRST_BLOCK) 5 = false) ∧ (s.get PKE_LOCK_LOCK = 1)) ∧
    (let s : State := conc
     (bit (s.get PRC_BLKRST_BLOCK) 5 = false) ∧ (s.get PKE_LOCK_LOCK < 2)) ∧
    (let a : Fin 1310720 := 0xF0004
     (a.val / 0x10000 = 15)) ∧
    (let a : Fin 1310720 := 0x138000
     (a.val / 0x10000 = 19) ∧ ((findReg pinRegs (0x40000000 + a.val / 4 * 4)).isNone = true)) ∧
    (let a : Fin 1310720 := 0x80000
     (answers true (0x40000000 + a.val / 4 * 4) = false)) ∧
    (let s : State := conc.put PRC_BLKRST_BLOCK 32
     let a : Fin 1310720 := 0x70008
     let k : Nat := 5
     (resetBit (a.val / 0x10000) = some k) ∧ (bit (s.get PRC_BLKRST_BLOCK) k = true)) := by
  refine ⟨?_, ?_, ?_, ?_, ?_, ?_, ?_, ?_, ?_⟩ <;> decide +kernel

/-- The hypotheses of `StepTakesTheFrontCommand`, each clause on a state that meets them. -/
theorem witness_StepTakesTheFrontCommand :
    (({ conc with pending := [.syncPoll] } : State).pending = .syncPoll :: []) ∧
    (conc.pending = []) := by
  refine ⟨?_, ?_⟩ <;> decide +kernel

/-- The hypotheses of `EveryStepKeepsTheCanonicalForm`, each clause on a state that meets them. -/
theorem witness_EveryStepKeepsTheCanonicalForm :
    (Memory.wf conc.mem = true ∧ Sparse.sortedFrom 0 conc.fields = true ∧ Poison.wf conc.poison = true ∧ Sparse.wf (fun _ => ([] : List Byte)) conc.objs = true) := by
  decide +kernel

end Sys2Proof.Tests
end

/-! ## Registers and events through a footprint

What a register field or an event reads after an operation whose footprint is known, and the one operation that sets
events, `State.raise`. -/
namespace Sys2Proof.Machine

/-- A field of a register block outside the footprint reads as before. -/
theorem Moves.get_eq {m b : Nat} {s t : State} {f : RegField} (h : Moves m s t) (hf : f.inBlock b) (hb : b < 20)
    (hm : m.testBit (27 + b) = false) : t.get f = s.get f := h.1 (.regs ⟨b, hb⟩) hm f hf

/-- A change outside the event router's block leaves every event as it was. -/
theorem Moves.event_eq {m : Nat} {s t : State} (h : Moves m s t) (n : Nat) (hm : m.testBit 38 = false) :
    t.event n = s.event n := by
  unfold State.event
  rw [h.get_eq (EVR_ESTAT_STAT_block _) (by decide) hm]

/-- A command that goes on to `t` completes with what holds of `t`. -/
theorem completes_of_goOn {c : Instr} {s t : State} {P : State → Prop} (h : exec c s = goOn t) (hP : P t) : completes c s P :=
  ⟨t, h, hP⟩

theorem bit_mod_two_pow {v k w : Nat} (h : k < w) : bit (v % 2 ^ w) k = bit v k := by
  have hbit : ∀ x, bit x k = x.testBit k := fun x => Nat.testBit_eq_decide_div_mod_eq.symm
  rw [hbit, hbit, Nat.testBit_mod_two_pow, decide_eq_true h, Bool.true_and]

/-- Setting a bit clears no other one. -/
theorem bit_setBit_of_bit {v k : Nat} (n : Nat) (h : bit v k = true) : bit (setBit v n) k = true := by
  unfold setBit
  split
  · exact h
  · rename_i hn
    unfold bit at h hn ⊢
    simp only [beq_iff_eq] at h hn ⊢
    have hpos : 0 < 2 ^ n := Nat.two_pow_pos n
    rcases Nat.lt_trichotomy k n with hlt | heq | hgt
    · obtain ⟨j, rfl⟩ := Nat.exists_eq_add_of_lt hlt
      have hsplit : v + 2 ^ (k + j + 1) = v + 2 ^ k * (2 * 2 ^ j) := by
        rw [Nat.pow_succ, Nat.pow_add, Nat.mul_assoc, Nat.mul_comm (2 ^ j)]
      rw [hsplit, Nat.add_mul_div_left _ _ (Nat.two_pow_pos k)]
      omega
    · exact absurd (heq ▸ h) hn
    · obtain ⟨j, rfl⟩ := Nat.exists_eq_add_of_lt hgt
      have hdiv : ∀ x, x / 2 ^ (n + j + 1) = x / 2 ^ n / 2 / 2 ^ j := fun x => by
        rw [Nat.div_div_eq_div_mul, Nat.div_div_eq_div_mul, Nat.pow_succ, Nat.pow_add, Nat.mul_right_comm, Nat.mul_assoc]
      have hhalf : (v / 2 ^ n + 1) / 2 = v / 2 ^ n / 2 := by omega
      rw [hdiv, Nat.add_div_right _ hpos, hhalf, ← hdiv, h]

/-- A field that no wake condition writes. -/
def RegField.offWake (f : RegField) : Prop :=
  f.key ≠ PRC_PWRSTAT_PENDING.key ∧ f.key ≠ PRC_PWRSTAT_RESULT.key ∧ f.key ≠ PRC_WAKESRC_SRC.key

theorem State.get_wakeRequest (s : State) (n : Nat) {f : RegField} (hf : f.offWake) : (s.wakeRequest n).get f = s.get f := by
  obtain ⟨hpend, hres, hsrc⟩ := hf
  unfold State.wakeRequest
  split
  · rfl
  split
  · rw [State.get_put_ne _ _ hsrc, State.get_put_ne _ _ hres, State.get_flag_ne _ _ hpend]
  split
  · dsimp only
    split
    · exact s.get_put_ne _ hsrc
    · exact s.get_put_ne _ hsrc
  · rfl

theorem foldl_fields {α : Type} {l : List α} {g : State → α → State} (hg : ∀ s x, (g s x).fields = s.fields) (s : State) :
    (l.foldl g s).fields = s.fields := by
  induction l generalizing s with
  | nil => rfl
  | cons x l ih => exact (ih _).trans (hg s x)

/-- Of the fields that no wake condition writes, `raise` writes the one sticky status register. -/
theorem State.get_raise (s : State) (n : Nat) {f : RegField} (hf : f.offWake) : (s.raise n).get f =
    (s.put (EVR_ESTAT_STAT (n / 32)) (setBit (s.get (EVR_ESTAT_STAT (n / 32))) (n % 32))).get f := by
  have hpulses : ∀ z : State, ((List.range 32).foldl (fun (s : State) c =>
      if bit (s.get (evrPm c (n / 32))) (n % 32) then s.pulse c s.tnet else s) z).get f = z.get f := fun z =>
    State.get_congr (foldl_fields (fun s c => by split <;> simp) z) f
  unfold State.raise
  extract_lets sticky core0 core1 lines woken
  have hwoken : woken.get f = sticky.get f := by
    unfold woken
    split
    · exact State.get_wakeRequest _ _ hf
    · rfl
  split
  · exact (hpulses woken).trans hwoken
  · exact hwoken

theorem EVR_ESTAT_STAT_offWake (i : Nat) : (EVR_ESTAT_STAT i).offWake := by
  unfold RegField.offWake
  simp only [RegField.key, EVR_ESTAT_STAT, PRC_PWRSTAT_PENDING, PRC_PWRSTAT_RESULT, PRC_WAKESRC_SRC]
  omega

theorem EVR_ESTAT_STAT_width (i : Nat) : (EVR_ESTAT_STAT i).width = 32 := rfl

/-- The event raised has occurred (R22). -/
theorem State.event_raise (s : State) (n : Nat) : (s.raise n).event n = true := by
  unfold State.event
  rw [s.get_raise n (EVR_ESTAT_STAT_offWake _), State.get_put_self, EVR_ESTAT_STAT_width,
    bit_mod_two_pow (Nat.mod_lt _ (by decide)), bit_setBit]

/-- An event stays when another one occurs (R22: the status bits are sticky). -/
theorem State.event_raise_of_event (s : State) (n : Nat) {k : Nat} (h : s.event k = true) : (s.raise n).event k = true := by
  unfold State.event at h ⊢
  rw [s.get_raise n (EVR_ESTAT_STAT_offWake _)]
  by_cases hkey : (EVR_ESTAT_STAT (k / 32)).key = (EVR_ESTAT_STAT (n / 32)).key
  · have hsame : EVR_ESTAT_STAT (k / 32) = EVR_ESTAT_STAT (n / 32) := by
      simp only [RegField.key, EVR_ESTAT_STAT] at hkey ⊢
      congr 1
      omega
    rw [hsame] at h ⊢
    rw [State.get_put_self, EVR_ESTAT_STAT_width, bit_mod_two_pow (Nat.mod_lt _ (by decide))]
    exact bit_setBit_of_bit _ h
  · rwa [State.get_put_ne _ _ hkey]

/-! What every part of a command keeps: the events that have occurred and, but for the mode transition itself, the mode
registers. -/

/-- The fields of PRC_MODE that a mode transition writes (R26, R28). -/
def modeFields : List RegField := [PRC_MODE_MODE, PRC_MODE_PREV, PRC_MODE_PENDING]

theorem modeFields_block {f : RegField} (hf : f ∈ modeFields) : f.inBlock 0 := by
  simp only [modeFields, List.mem_cons, List.not_mem_nil, or_false] at hf
  obtain rfl | rfl | rfl := hf <;> rfl

theorem modeFields_offWake {f : RegField} (hf : f ∈ modeFields) : f.offWake := by
  simp only [modeFields, List.mem_cons, List.not_mem_nil, or_false] at hf
  obtain rfl | rfl | rfl := hf <;> (unfold RegField.offWake; decide)

theorem State.get_raise_modeFields (s : State) (n : Nat) {f : RegField} (hf : f ∈ modeFields) : (s.raise n).get f = s.get f := by
  rw [s.get_raise n (modeFields_offWake hf)]
  refine s.get_put_ne _ fun hkey => ?_
  have hblock := modeFields_block hf
  have hother := EVR_ESTAT_STAT_block (n / 32)
  unfold RegField.inBlock at hblock hother
  omega

/-- From `s` to `t` no event is lost and the mode fields stay. -/
structure Steady (s t : State) : Prop where
  event : ∀ n, s.event n = true → t.event n = true
  get : ∀ f ∈ modeFields, t.get f = s.get f

theorem Steady.refl (s : State) : Steady s s := ⟨fun _ h => h, fun _ _ => rfl⟩

theorem Steady.trans {r s t : State} (h : Steady r s) (g : Steady s t) : Steady r t :=
  ⟨fun n hn => g.event n (h.event n hn), fun f hf => (g.get f hf).trans (h.get f hf)⟩

/-- An operation that writes neither the reset controller's nor the event router's registers. -/
theorem Moves.steady {m : Nat} {s t : State} (h : Moves m s t) (hprc : m.testBit 27 = false) (hevr : m.testBit 38 = false) :
    Steady s t :=
  ⟨fun n hn => by rw [h.event_eq n hevr, hn], fun _ hf => h.get_eq (modeFields_block hf) (by decide) hprc⟩

theorem State.raise_steady (s : State) (n : Nat) : Steady s (s.raise n) :=
  ⟨fun _ h => s.event_raise_of_event n h, fun _ hf => s.get_raise_modeFields n hf⟩

theorem State.raiseIf_steady (s : State) (b : Bool) (n : Nat) : Steady s (s.raiseIf b n) := by
  unfold State.raiseIf
  split
  · exact s.raise_steady n
  · exact Steady.refl s

theorem Steady.foldl {α : Type} {g : State → α → State} (hg : ∀ s x, Steady s (g s x)) (l : List α) (s : State) :
    Steady s (l.foldl g s) := by
  induction l generalizing s with
  | nil => exact Steady.refl s
  | cons x l ih => exact (hg s x).trans (ih _)

theorem Steady.mode {s t : State} (h : Steady s t) : t.mode = s.mode := h.get PRC_MODE_MODE (by simp [modeFields])

end Sys2Proof.Machine

/-! ## The reset state, and changes of mode -/
namespace Sys2Proof.Machine

theorem State.get_reset (f : RegField) (hcause : f.key ≠ PRC_RSTCAUSE_CAUSE.key) (hsources : f.key ≠ PRC_RSTSRC_SOURCES.key) :
    State.reset.get f = f.reset := by
  show Sparse.read f.reset [(PRC_RSTCAUSE_CAUSE.key, 1), (PRC_RSTSRC_SOURCES.key, 1)] f.key = f.reset
  rw [Sparse.read, if_neg hcause.symm, Sparse.read, if_neg hsources.symm, Sparse.read]

theorem State.reset_wf : State.reset.wf :=
  ⟨State.reset_memory_wf, by decide, rfl, rfl⟩

/-- Settles O59: the maps of the reset state are empty or list two keys in rising order (R25, R462). What the
reset leaves in memory and in the fields without a stated reset value is the model's choice (log entries 3, 4, 10 and 11). -/
theorem theResetStateIsCanonical : Obligations.TheResetStateIsCanonical := by
  unfold Obligations.TheResetStateIsCanonical
  exact ⟨State.reset_wf, rfl, rfl, by decide, State.get_reset, State.get_reset _ (by decide) (by decide), rfl⟩

/-! The parts of a transition are steady. -/

theorem State.put_steady {f : RegField} {b : Nat} (s : State) (v : Nat) (hf : f.inBlock b) (hprc : b ≠ 0) (hevr : b ≠ 11) :
    Steady s (s.put f v) := by
  have hne : ∀ {g : RegField} {c : Nat}, g.inBlock c → b ≠ c → g.key ≠ f.key := fun hg hbc hkey => by
    unfold RegField.inBlock at hf hg
    omega
  refine ⟨fun n hn => ?_, fun g hg => s.get_put_ne v (hne (modeFields_block hg) hprc)⟩
  unfold State.event
  rwa [s.get_put_ne v (hne (EVR_ESTAT_STAT_block _) hevr)]

theorem State.flag_steady {f : RegField} {b : Nat} (s : State) (v : Bool) (hf : f.inBlock b) (hprc : b ≠ 0) (hevr : b ≠ 11) :
    Steady s (s.flag f v) := s.put_steady _ hf hprc hevr

/-- A completion ends with E56; before it, STATUS is stored and the completion FIFO or its lost count grows (R177). -/
theorem State.txDone_eq_raise (s : State) (d status : Nat) : ∃ z, Moves 4294967556 s z ∧
    (∀ k, z.byte k = (s.setDesc d 16 1 status).byte k) ∧ s.txDone d status = z.raise 56 := by
  have hdesc : Moves 4294967556 s (s.setDesc d 16 1 status) := (s.setDesc_moves d 16 1 status).mono rfl
  unfold State.txDone
  extract_lets stored mac queued
  refine ⟨queued, ?_, fun k => ?_, rfl⟩ <;> unfold queued <;> split
  · exact hdesc.step (stored.with_mac_moves _) rfl
  · exact hdesc.bump MAC_TXDONE_LOST_block rfl
  · rfl
  · rfl

theorem State.finishDesc_steady (s : State) (d status : Nat) : Steady s (s.finishDesc d status) := by
  have hwait : Steady s ((s.dequeueEntry d).dropPending d) :=
    ((s.dequeueEntry_moves d).steady rfl rfl).trans ((State.dropPending_moves _ d).steady rfl rfl)
  obtain ⟨z, hmoves, -, hraise⟩ := State.txDone_eq_raise ((s.dequeueEntry d).dropPending d) d status
  unfold State.finishDesc
  rw [hraise]
  exact hwait.trans ((hmoves.steady rfl rfl).trans (z.raise_steady 56))

/-- A completion raises E56 (R177). -/
theorem State.event_finishDesc (s : State) (d status : Nat) : (s.finishDesc d status).event 56 = true := by
  obtain ⟨z, -, -, hraise⟩ := State.txDone_eq_raise ((s.dequeueEntry d).dropPending d) d status
  unfold State.finishDesc
  rw [hraise, State.event_raise]

theorem State.lock_steady (s : State) (p : Path) : Steady s (s.lock p) := by
  unfold State.lock
  dsimp only
  split
  · exact ((s.calibrated_moves p).steady rfl rfl).trans (State.raise_steady _ 17)
  · exact s.raise_steady 17

theorem State.tuneHalf_steady (s : State) (h : Nat) (c : Int) : Steady s (s.tuneHalf h c) := by
  unfold State.tuneHalf
  extract_lets f p centre tuned path marked
  split
  · exact Steady.refl s
  have hfreq : f.inBlock 1 := by unfold f; split <;> rfl
  have htuned : Steady s tuned := s.put_steady _ hfreq (by decide) (by decide)
  have hmarked : Steady tuned marked := by
    unfold marked
    split
    · exact Steady.refl tuned
    · exact (tuned.setPath_moves _ _).steady rfl rfl
  exact htuned.trans (hmarked.trans (marked.lock_steady p))

/-- The lanes of a half that are in `from` rest. -/
def State.restFrom (s : State) (h st : Nat) : State :=
  (s.halfLanes h).foldl (fun (s : State) i => if s.laneState i = st then s.restLane i else s) s

theorem State.restFrom_moves (s : State) (h st : Nat) : Moves 536870976 s (s.restFrom h st) :=
  foldl_moves Moves.refl fun z i hz => ite_moves (hz.trans (z.restLane_moves i)) hz

theorem State.scanStep_eq (s : State) (k : Nat) : s.scanStep k =
    (((({ s with mac := { s.mac with scanK := k } } : State).restFrom s.mac.nodeHalf laneIdle).tuneHalf s.mac.nodeHalf
      ((({ s with mac := { s.mac with scanK := k } } : State).restFrom s.mac.nodeHalf laneIdle).scanCentre k)).retune
        s.mac.nodeHalf) := rfl

theorem State.leaveScan_eq (s : State) (sync : Nat) :
    s.leaveScan sync = (s.put MAC_STATUS_SYNC sync).restFrom s.mac.nodeHalf laneSearch := rfl

theorem State.scanStep_steady (s : State) (k : Nat) : Steady s (s.scanStep k) := by
  rw [State.scanStep_eq]
  refine Steady.trans ?_ ((State.retune_moves _ _).steady rfl rfl)
  refine Steady.trans ?_ (State.tuneHalf_steady _ _ _)
  exact ((s.with_mac_moves _).steady rfl rfl).trans ((State.restFrom_moves _ _ _).steady rfl rfl)

theorem State.enterScan_steady (s : State) : Steady s s.enterScan := by
  unfold State.enterScan
  refine Steady.trans ?_ (State.scanStep_steady _ 0)
  refine Steady.trans ?_ (State.raise_steady _ 61)
  refine Steady.trans ?_ (State.flag_steady _ _ MAC_STATUS_POLL_EXT_block (by decide) (by decide))
  exact ((s.with_mac_moves _).steady rfl rfl).trans (State.put_steady _ _ MAC_STATUS_SYNC_block (by decide) (by decide))

theorem State.steerOff_steady (s : State) : Steady s s.steerOff := by
  unfold State.steerOff
  split
  · exact Steady.refl s
  · exact (s.flag_steady _ GNS_STATUS_STEER_LOCK_block (by decide) (by decide)).trans (State.raiseIf_steady _ _ _)

/-- A transition into mode `m`: it writes PREV, MODE and PENDING once, raises E7 last, and all else in it is steady (R28). -/
theorem State.enterMode_eq_raise (s : State) (m : Nat) : ∃ a b, Steady s a ∧
    Steady (((a.put PRC_MODE_PREV a.mode).put PRC_MODE_MODE m).flag PRC_MODE_PENDING false) b ∧ s.enterMode m = b.raise 7 := by
  unfold State.enterMode
  extract_lets ds flushed ended slot mac cleared unpolled left turned scanned
  refine ⟨left, scanned.disarm.steerOff, ?_, ?_, rfl⟩
  · have hflushed : Steady s flushed := Steady.foldl (fun z d => z.finishDesc_steady d 0xA) ds s
    have hended : Steady flushed ended := flushed.abortCal_moves.steady rfl rfl
    have hcleared : Steady ended cleared := ⟨fun _ h => h, fun _ _ => rfl⟩
    have hunpolled : Steady cleared unpolled := cleared.flag_steady _ MAC_STATUS_POLL_EXT_block (by decide) (by decide)
    have hleft : Steady unpolled left := by
      unfold left
      split
      · exact unpolled.unfollow_moves.steady rfl rfl
      · exact (unpolled.leaveScan_moves _).steady rfl rfl
    exact hflushed.trans (hended.trans (hcleared.trans (hunpolled.trans hleft)))
  · have hscanned : Steady turned scanned := by
      unfold scanned
      split
      · exact turned.enterScan_steady
      · exact Steady.refl turned
    exact hscanned.trans ((scanned.disarm_moves.steady rfl rfl).trans scanned.disarm.steerOff_steady)

/-- R26, R28: what the mode registers show after the transition, and E7. -/
theorem State.enterMode_effect (s : State) (m : Nat) :
    (s.enterMode m).mode = m % 2 ^ PRC_MODE_MODE.width ∧
    (s.enterMode m).get PRC_MODE_PREV = s.mode % 2 ^ PRC_MODE_PREV.width ∧
    (s.enterMode m).get PRC_MODE_PENDING = 0 ∧ (s.enterMode m).event 7 = true := by
  obtain ⟨a, b, hbefore, hafter, hraise⟩ := s.enterMode_eq_raise m
  have hfinal : ∀ f ∈ modeFields, (s.enterMode m).get f =
      (((a.put PRC_MODE_PREV a.mode).put PRC_MODE_MODE m).flag PRC_MODE_PENDING false).get f := fun f hf => by
    rw [hraise, b.get_raise_modeFields 7 hf, hafter.get f hf]
  refine ⟨?_, ?_, ?_, ?_⟩
  · rw [State.mode, hfinal _ (by simp [modeFields]), State.get_flag_ne _ _ (by decide), State.get_put_self]
  · rw [hfinal _ (by simp [modeFields]), State.get_flag_ne _ _ (by decide), State.get_put_ne _ _ (by decide),
      State.get_put_self, hbefore.mode]
  · rw [hfinal _ (by simp [modeFields]), State.get_flag_self]
    rfl
  · rw [hraise, b.event_raise]

theorem execModeTransition_idle {s : State} {m : Nat} (hreq : s.slot.modeReq = some m) (hidle : s.running = false) :
    execModeTransition s = goOn (s.enterMode m) := by
  unfold execModeTransition
  rw [hreq]
  simp [hidle]

theorem execModeWrite_pending {s : State} (v : Nat) (h : s.on PRC_MODE_PENDING = true) : execModeWrite v s = goOn (s.answer .busy) := by
  unfold execModeWrite
  exact if_pos h

/-- Settles O3: the write is answered before it reads anything but PENDING, and a transition keeps its target (R32). -/
theorem modeWriteDuringATransition : Obligations.ModeWriteDuringATransition := by
  unfold Obligations.ModeWriteDuringATransition
  refine ⟨fun s v hpending => execModeWrite_pending v (by simp [State.on, hpending]), fun s m _ hreq hm hmode hidle => ?_⟩
  obtain ⟨hnew, hprev, hdone, hevent⟩ := s.enterMode_effect m
  refine completes_of_goOn (execModeTransition_idle hreq hidle) ⟨?_, ?_, hdone, hevent⟩
  · rw [hnew]
    exact Nat.mod_eq_of_lt hm
  · rw [hprev]
    exact Nat.mod_eq_of_lt hmode

end Sys2Proof.Machine

/-! ## Lanes: what a lane keeps, what its status shows, and the crossing to the slot engine -/
namespace Sys2Proof.Machine

/-- What a lane keeps after lane `i` was written. -/
theorem State.lane_setLane (s : State) (i j : Nat) (l : Lane) : (s.setLane i l).lane j = if j = i then l else s.lane j := by
  unfold State.lane State.setLane
  exact Sparse.read_write _ _ _ _ _

/-- The lane is blanked for reason `r` (R50). -/
def Lane.blankedFor (l : Lane) : BlankReason → Bool
  | .tx => l.blankTx
  | .cal => l.blankCal
  | .retune => l.blankRetune

@[simp] theorem Lane.blankedFor_setBlank (l : Lane) (r : BlankReason) (b : Bool) : (l.setBlank r b).blankedFor r = b := by
  cases r <;> rfl

/-- Resting blanks and unblanks no lane. -/
theorem State.blankedFor_restLane (s : State) (i j : Nat) (r : BlankReason) :
    ((s.restLane i).lane j).blankedFor r = (s.lane j).blankedFor r := by
  unfold State.restLane
  extract_lets rested
  split
  · unfold State.refreshProfile
    rw [State.lane_setLane]
    split
    · rename_i hij
      subst hij
      cases r <;> rfl
    · rfl
  · rfl

theorem State.blankedFor_unblankLane (s : State) (i j : Nat) (r : BlankReason) :
    ((State.unblankLane r s i).lane j).blankedFor r = if j = i then false else (s.lane j).blankedFor r := by
  have hset : ((s.setLane i ((s.lane i).setBlank r false)).lane j).blankedFor r =
      if j = i then false else (s.lane j).blankedFor r := by
    rw [State.lane_setLane]
    split <;> simp
  unfold State.unblankLane
  extract_lets cleared shown
  split
  · exact hset
  split
  · exact (State.blankedFor_restLane _ i j r).trans hset
  · exact hset

/-- Lanes unblanked for `r`, and lanes that were not blanked for it, are not blanked for it afterwards. -/
theorem State.blankedFor_foldl_unblankLane (r : BlankReason) (l : List Nat) (s : State) {j : Nat}
    (h : j ∈ l ∨ (s.lane j).blankedFor r = false) : ((l.foldl (State.unblankLane r) s).lane j).blankedFor r = false := by
  induction l generalizing s with
  | nil => simpa using h
  | cons i l ih =>
    refine ih _ ?_
    rw [State.blankedFor_unblankLane]
    rcases h with h | h
    · rcases List.mem_cons.mp h with rfl | h
      · exact .inr (if_pos rfl)
      · exact .inl h
    · exact .inr (by rw [h, ite_self])

theorem State.blankedFor_unblankHalf (r : BlankReason) (s : State) (h : Nat) {j : Nat}
    (hj : j ∈ s.halfLanes h ∨ (s.lane j).blankedFor r = false) : ((s.unblankHalf r h).lane j).blankedFor r = false :=
  State.blankedFor_foldl_unblankLane r _ s hj

theorem State.halfLanes_congr {s t : State} (h : t.partT = s.partT) (i : Nat) : t.halfLanes i = s.halfLanes i := by
  unfold State.halfLanes
  rw [h]

/-! The status of a lane. -/

theorem State.restState_lt (s : State) (i : Nat) : s.restState i < laneFrame := by
  unfold State.restState
  dsimp only
  split
  · decide
  split <;> decide

/-- A lane that rests is in no frame (R79). -/
theorem State.laneState_restLane_ne (s : State) (i : Nat) : (s.restLane i).laneState i ≠ laneFrame := by
  have hrest := s.restState_lt i
  have hshown : (s.restLane i).laneState i = (if (s.lane i).blanked then laneBlanked else s.restState i) % 2 ^ 3 := by
    unfold State.restLane State.laneState
    extract_lets rested
    split <;> exact s.get_put_self (CHZ_LSTAT_STATE i) _
  rw [hshown]
  unfold laneFrame at hrest ⊢
  unfold laneBlanked
  split <;> omega

theorem State.restLane_detFifo (s : State) (i : Nat) : (s.restLane i).radio.detFifo = s.radio.detFifo := by
  unfold State.restLane
  extract_lets rested
  split <;> rfl

theorem State.unblankLane_txWindow (r : BlankReason) (s : State) (i : Nat) :
    (State.unblankLane r s i).radio.txWindow = s.radio.txWindow := by
  have hrest : ∀ z : State, (z.restLane i).radio.txWindow = z.radio.txWindow := fun z => by
    unfold State.restLane
    extract_lets rested
    split <;> rfl
  unfold State.unblankLane
  extract_lets cleared shown
  split
  · rfl
  split
  · exact hrest _
  · rfl

theorem State.unblankHalf_txWindow (r : BlankReason) (s : State) (h : Nat) : (s.unblankHalf r h).radio.txWindow = s.radio.txWindow := by
  unfold State.unblankHalf
  generalize s.halfLanes h = l
  induction l generalizing s with
  | nil => rfl
  | cons i l ih => exact (ih _).trans (s.unblankLane_txWindow r i)

/-! The clauses of O8. -/

/-- R40: the end of RETUNE blanking. -/
theorem retuneBlankEnd_effect (h : Half) (s : State) : completes (.retuneBlankEnd h) s fun t =>
    ∀ i ∈ s.halfLanes (halfNo h), (t.lane i).blankRetune = false := by
  cases h <;> exact completes_of_goOn rfl fun i hi => State.blankedFor_unblankHalf .retune s _ (.inl hi)

/-- R50: the end of a transmission's blanking window. -/
theorem blankingEnd_effect {s : State} (hwin : s.radio.txWindow = true) (hramp : s.get RFC_STATE_STATE_T < 4) :
    completes .blankingEnd s fun t => t.radio.txWindow = false ∧
      ∀ i ∈ s.halfLanes 0 ++ s.halfLanes 1, (t.lane i).blankTx = false := by
  have hexec : execBlankingEnd s =
      goOn ((({ s with radio := { s.radio with txWindow := false } } : State).unblankHalf .tx 0).unblankHalf .tx 1) := by
    unfold execBlankingEnd
    exact if_neg fun h => h.elim (fun hshut => by simp [hwin] at hshut) (Nat.not_le.mpr hramp)
  refine completes_of_goOn hexec ⟨?_, fun i hi => ?_⟩
  · rw [State.unblankHalf_txWindow, State.unblankHalf_txWindow]
  · refine State.blankedFor_unblankHalf .tx _ 1 ?_
    rcases List.mem_append.mp hi with hi | hi
    · exact .inr (State.blankedFor_unblankHalf .tx _ 0 (.inl hi))
    · exact .inl ((State.halfLanes_congr ((State.unblankHalf_moves .tx _ 0).1 .partT rfl) 1).symm ▸ hi)

theorem State.endStatus_ended (s : State) (i : Nat) (blanked : Bool) :
    ∀ d ∈ (s.endStatus i blanked).radio.detFifo, d.place = i → d.ended = true := by
  intro d hd hplace
  obtain ⟨d₀, -, rfl⟩ := List.mem_map.mp hd
  split at hplace <;> rename_i hlane
  · rw [if_pos hlane]
  · exact absurd hplace hlane

theorem State.leaveFrame_detFifo (s : State) (i : Nat) : (s.leaveFrame i).radio.detFifo = s.radio.detFifo := by
  unfold State.leaveFrame
  split
  · exact s.restLane_detFifo i
  · rfl

theorem State.laneState_leaveFrame_ne (s : State) (i : Nat) : (s.leaveFrame i).laneState i ≠ laneFrame := by
  unfold State.leaveFrame
  split
  · exact s.laneState_restLane_ne i
  · assumption

theorem State.setPath_detFifo (s : State) (p : Path) (c : PathCal) : (s.setPath p c).radio.detFifo = s.radio.detFifo := by
  cases p <;> rfl

theorem State.halfReturn_detFifo (s : State) (h : Nat) : (s.halfReturn h).radio.detFifo = s.radio.detFifo := by
  unfold State.halfReturn
  extract_lets mode
  split
  · split
    · exact s.setPath_detFifo _ _
    split
    · rfl
    · exact s.setPath_detFifo _ _
  · rfl

/-- R79, R80: the end of a lane's frame. -/
theorem laneFrameEnd_effect {lane : Fin 128} (g : Fin 16) {s : State} (hframe : s.laneState lane = laneFrame) :
    completes (.laneFrameEnd lane g) s fun t => t.laneState lane ≠ laneFrame ∧
      ∀ d ∈ t.radio.detFifo, d.place = lane.val → d.ended = true := by
  show ∃ t, execLaneFrameEnd lane g s = .next t ∧ _
  unfold execLaneFrameEnd
  extract_lets i clamped ended left between gained
  rw [if_neg fun hne => hne hframe]
  have hgained : gained.radio = left.radio ∧ gained.laneState i = left.laneState i := by
    unfold gained
    split
    · exact ⟨(left.agc_moves _ _).1 .radio rfl, (left.agc_moves _ _).get_eq (CHZ_LSTAT_STATE_block i) (by decide) rfl⟩
    · exact ⟨rfl, rfl⟩
  have hstate : (gained.halfReturn (i / 64)).laneState i = left.laneState i :=
    ((gained.halfReturn_moves _).get_eq (CHZ_LSTAT_STATE_block i) (by decide) rfl).trans hgained.2
  have hfifo : (gained.halfReturn (i / 64)).radio.detFifo = ended.radio.detFifo := by
    rw [State.halfReturn_detFifo, hgained.1, State.leaveFrame_detFifo]
  refine ⟨_, rfl, ?_, ?_⟩
  · exact hstate ▸ ended.laneState_leaveFrame_ne i
  · rw [hfifo]
    exact State.endStatus_ended _ i clamped

/-- R12: a record with room in CAPTURE becomes a unit there. -/
theorem detectionRecordDequeue_effect {d : DetRec} {ds : List DetRec} {s : State} (hfifo : s.radio.detFifo = d :: ds)
    (hroom : (s.atStage 0).length - s.stagePar 0 < 16) :
    completes (.detectionRecordDequeue false) s fun t => t.radio.detFifo = ds ∧ ∃ u ∈ t.slot.rx, u.det = d ∧ u.stage = 0 ∧
      u.id = s.slot.nextId := by
  show ∃ t, execDetectionRecordDequeue false s = .next t ∧ _
  unfold execDetectionRecordDequeue
  simp only [hfifo, if_neg (Nat.not_le.mpr hroom)]
  exact ⟨_, rfl, rfl, _, List.mem_append_right _ (List.mem_singleton_self _), rfl, rfl, rfl⟩

/-- A unit in the pipeline that was replaced reads as its replacement. -/
theorem State.rxUnit_setRx {s : State} {n : Nat} {u v : RxUnit} (h : s.rxUnit n = some u) (hv : v.id = n) :
    (s.setRx v).rxUnit n = some v := by
  have hpred : ((fun w : RxUnit => w.id == n) ∘ fun w : RxUnit => if w.id = v.id then v else w) = fun w => w.id == n := by
    funext w
    dsimp only [Function.comp]
    split
    · rename_i hw
      rw [hw]
    · rfl
  unfold State.rxUnit at h
  have hid : u.id = n := by simpa using List.find?_some h
  show List.find? _ (List.map _ s.slot.rx) = _
  rw [List.find?_map, hpred, h, Option.map_some, if_pos (hid.trans hv.symm)]

/-- R91: a copy without its partner becomes a single copy. -/
theorem twinPairTimeout_effect {n : Nat} {u : RxUnit} {s : State} (hunit : s.rxUnit n = some u) (hwait : u.twin = .waiting)
    (hpair : s.slot.rx.any (twinPair u) = false) (hcrc : u.crcDone = false) :
    completes (.twinPairTimeout n) s fun t => t.rxUnit n = some { u with twin := .single } := by
  have hid : u.id = n := by simpa using List.find?_some hunit
  have hexec : execTwinPairTimeout n s = goOn (s.setRx { u with twin := .single }) := by
    unfold execTwinPairTimeout
    simp [hunit, hwait, hpair, hcrc]
  exact completes_of_goOn hexec (State.rxUnit_setRx hunit hid)

/-! A sync match. -/

theorem State.perCount_detFifo (s : State) (lane off : Nat) : (s.perCount lane off).radio.detFifo = s.radio.detFifo := by
  unfold State.perCount
  split <;> rfl

/-- What every sync match does first (R78): DETECT counts, and the half's event with those of a legacy match and of a large
offset. -/
def State.syncSeen (s : State) (i : Nat) (k : SyncKind) (offset : Int) : State :=
  ((((s.bump (CHZ_LCNT_DETECT i)).raise (32 + i / 64)).raiseIf (k == .legacy) 34).raiseIf
    (decide (s.get CHZ_OFFCFG_OFF_LIM < offset.natAbs)) 41).perCount i 16

theorem State.syncSeen_detFifo (s : State) (i : Nat) (k : SyncKind) (offset : Int) :
    (s.syncSeen i k offset).radio.detFifo = s.radio.detFifo := by
  unfold State.syncSeen
  rw [State.perCount_detFifo]
  simp

theorem State.syncSeen_tnet (s : State) (i : Nat) (k : SyncKind) (offset : Int) : (s.syncSeen i k offset).tnet = s.tnet := by
  unfold State.syncSeen
  rw [show ∀ z : State, (z.perCount i 16).tnet = z.tnet from fun z => (z.perCount_moves i 16).1 .tnet rfl]
  simp

theorem State.event_syncSeen (s : State) (i : Nat) (k : SyncKind) (offset : Int) :
    (s.syncSeen i k offset).event (32 + i / 64) = true := by
  unfold State.syncSeen
  rw [(State.perCount_moves _ i 16).event_eq _ rfl]
  exact (State.raiseIf_steady _ _ _).event _ ((State.raiseIf_steady _ _ _).event _ (State.event_raise _ _))

theorem State.ovf_syncSeen (s : State) (i : Nat) (k : SyncKind) (offset : Int) :
    (s.syncSeen i k offset).get (CHZ_LCNT_OVF i) = s.get (CHZ_LCNT_OVF i) := by
  have hne : (CHZ_LCNT_OVF i).key ≠ (CHZ_LCNT_DETECT i).key := by
    simp only [RegField.key, CHZ_LCNT_OVF, CHZ_LCNT_DETECT]
    omega
  have hblock := CHZ_LCNT_OVF_block i
  unfold State.syncSeen
  rw [(State.perCount_moves _ i 16).get_eq hblock (by decide) rfl, (State.raiseIf_moves _ _ _).get_eq hblock (by decide) rfl,
    (State.raiseIf_moves _ _ _).get_eq hblock (by decide) rfl, (State.raise_moves _ _).get_eq hblock (by decide) rfl,
    State.get_bump_ne _ hne]

/-- A match that the lane's profile allows is taken up (R78); from here the crossing decides (R12). -/
theorem syncMatch_taken {lane : Fin 128} {k : SyncKind} {errs : Fin 7} {offset : Int} {s : State}
    (hsearch : s.laneState lane = laneSearch) (hlive : s.syncLive lane k errs = true) (hoff : offset.natAbs ≤ 2500) :
    ¬(s.laneState lane ≠ laneSearch ∨ (!s.syncLive lane k errs) = true ∨
      (if s.plan (lane.val / 64) = 0 then 2500 else 5000) < offset.natAbs) := by
  have hrange : offset.natAbs ≤ if s.plan (lane.val / 64) = 0 then 2500 else 5000 := by split <;> omega
  simp [hsearch, hlive, hrange]

/-- R12: with the crossing full the record is lost and counted. -/
theorem syncMatch_full {lane : Fin 128} {k : SyncKind} {errs : Fin 7} {offset : Int} {s : State} (rssi : Int) (g : Fin 43)
    (hsearch : s.laneState lane = laneSearch) (hlive : s.syncLive lane k errs = true) (hoff : offset.natAbs ≤ 2500)
    (hfull : 64 ≤ s.radio.detFifo.length) : completes (.syncMatch lane k errs rssi offset g) s fun t =>
      t.event 40 = true ∧ t.radio.detFifo = s.radio.detFifo ∧
      t.get (CHZ_LCNT_OVF lane) = satInc (CHZ_LCNT_OVF lane).width (s.get (CHZ_LCNT_OVF lane)) := by
  have hexec : execSyncMatch lane k errs rssi offset g s =
      goOn (((s.syncSeen lane k offset).bump (CHZ_LCNT_OVF lane)).raise 40) := by
    unfold execSyncMatch
    rw [if_neg (syncMatch_taken hsearch hlive hoff)]
    exact if_pos ((s.syncSeen_detFifo lane k offset).symm ▸ hfull)
  refine completes_of_goOn hexec ⟨State.event_raise _ _, ?_, ?_⟩
  · rw [State.raise_radio, State.bump_radio, State.syncSeen_detFifo]
  · rw [(State.raise_moves _ 40).get_eq (CHZ_LCNT_OVF_block lane) (by decide) rfl, State.bump, State.get_put_self,
      State.ovf_syncSeen]
    refine Nat.mod_eq_of_lt ?_
    unfold satInc
    split
    · assumption
    · exact Nat.sub_lt (Nat.two_pow_pos _) (by decide)

/-- A detection record joins the crossing (R80). -/
def State.pushDet (s : State) (d : DetRec) : State := { s with radio := { s.radio with detFifo := s.radio.detFifo ++ [d] } }

theorem State.pushDet_detFifo (s : State) (d : DetRec) : (s.pushDet d).radio.detFifo = s.radio.detFifo ++ [d] := rfl

theorem State.pushDet_fields (s : State) (d : DetRec) : (s.pushDet d).fields = s.fields := rfl

/-- R78, R80: with room in the crossing the lane is in the frame and its record follows the others. -/
theorem syncMatch_room {lane : Fin 128} {k : SyncKind} {errs : Fin 7} {offset : Int} {s : State} (rssi : Int) (g : Fin 43)
    (hsearch : s.laneState lane = laneSearch) (hlive : s.syncLive lane k errs = true) (hoff : offset.natAbs ≤ 2500)
    (hroom : s.radio.detFifo.length < 64) : completes (.syncMatch lane k errs rssi offset g) s fun t =>
      t.laneState lane = laneFrame ∧ t.event (32 + lane.val / 64) = true ∧ t.radio.detFifo.dropLast = s.radio.detFifo ∧
      t.radio.detFifo.getLast?.map (fun d => (d.place, d.tSfd, d.sync, d.offset)) = some (lane.val, s.tnet, k, offset) := by
  show ∃ t, execSyncMatch lane k errs rssi offset g s = .next t ∧ _
  unfold execSyncMatch
  extract_lets i h raised seen window kept record counted flagged lowered framed radio
  have hseen : seen.radio.detFifo = s.radio.detFifo := s.syncSeen_detFifo lane k offset
  have hopen : ¬ 64 ≤ seen.radio.detFifo.length := by rw [hseen]; omega
  rw [if_neg (syncMatch_taken hsearch hlive hoff), if_neg hopen]
  have hcounted : Moves 128 seen counted := by
    unfold counted
    generalize window = w
    cases w with
    | some w => exact seen.setWindow_moves _
    | none => exact Moves.refl
  have hflagged : Moves 4398046511104 counted flagged := counted.lgyFlag_moves _
  have hfifo : framed.radio.detFifo = s.radio.detFifo := calc
    flagged.radio.detFifo = counted.radio.detFifo := by rw [hflagged.1 .radio rfl]
    _ = seen.radio.detFifo := by rw [hcounted.1 .radio rfl]
    _ = s.radio.detFifo := hseen
  have hlowered : Steady seen lowered := (hcounted.steady rfl rfl).trans <| (hflagged.steady rfl rfl).trans <|
    (flagged.setLane_moves lane _).steady rfl rfl
  have hsteady : Steady seen framed := hlowered.trans <|
    (lowered.put_steady _ (CHZ_LSTAT_STATE_block lane) (by decide) (by decide)).trans <|
      State.put_steady _ _ (CHZ_LSTAT_DGAIN_block lane) (by decide) (by decide)
  have hstatus : (CHZ_LSTAT_STATE i).key ≠ (CHZ_LSTAT_DGAIN i).key := by
    simp only [RegField.key, CHZ_LSTAT_STATE, CHZ_LSTAT_DGAIN]
    omega
  refine ⟨framed.pushDet record, rfl, ?_, ?_, ?_, ?_⟩
  · rw [State.laneState, State.get_congr (framed.pushDet_fields record)]
    exact (State.get_put_ne _ _ hstatus).trans (State.get_put_self _ _ _)
  · rw [State.event, State.get_congr (framed.pushDet_fields record)]
    exact hsteady.event _ (s.event_syncSeen lane k offset)
  · rw [State.pushDet_detFifo, List.dropLast_concat, hfifo]
  · have htnet : record.tSfd = s.tnet := s.syncSeen_tnet lane k offset
    rw [State.pushDet_detFifo, List.getLast?_concat, Option.map_some, htnet]

/-- Settles O8: each event of a lane's frame from its sync to the record in CAPTURE, and the pairing of twin copies. -/
theorem lanesTakeFramesAndHandThemOn : Obligations.LanesTakeFramesAndHandThemOn := by
  unfold Obligations.LanesTakeFramesAndHandThemOn
  exact ⟨fun _ _ _ rssi _ g _ => syncMatch_room rssi g, fun _ _ _ rssi _ g _ => syncMatch_full rssi g,
    fun _ g _ => laneFrameEnd_effect g, fun _ => blankingEnd_effect, retuneBlankEnd_effect,
    fun _ _ _ => detectionRecordDequeue_effect, fun _ _ _ => twinPairTimeout_effect⟩

end Sys2Proof.Machine

/-! ## Contexts and descriptors in memory, and the end of a transmission -/
namespace Sys2Proof.Machine

/-! Numbers in memory. -/

theorem State.num_congr {s t : State} {a n : Nat} (h : ∀ k, k < n → t.byte (a + k) = s.byte (a + k)) : t.num a n = s.num a n := by
  unfold State.num State.bytes
  rw [List.map_congr_left fun k hk => h k (List.mem_range.mp hk)]

/-- A change outside memory leaves every number in memory. -/
theorem Moves.num_eq {m : Nat} {s t : State} (h : Moves m s t) (hm : m.testBit 2 = false) (a n : Nat) : t.num a n = s.num a n :=
  State.num_congr fun _ _ => h.1 .mem hm _

@[simp] theorem leBytes_length (n v : Nat) : (leBytes n v).length = n := by
  induction n generalizing v with
  | zero => rfl
  | succ n ih => simp [leBytes, ih]

theorem State.byte_setNum_ne (s : State) (a n v : Nat) {k : Nat} (h : k < a ∨ a + n ≤ k) : (s.setNum a n v).byte k = s.byte k :=
  s.byte_setBytes_ne a _ k (by rwa [leBytes_length])

/-- A number reads as before after a write that does not overlap it. -/
theorem State.num_setNum_ne (s : State) {a n b k : Nat} (v : Nat) (h : b + k ≤ a ∨ a + n ≤ b) :
    (s.setNum a n v).num b k = s.num b k :=
  State.num_congr fun j hj => s.byte_setNum_ne a n v (by omega)

/-- A stored octet reads back. -/
theorem State.num_setNum_octet (s : State) (a v : Nat) : (s.setNum a 1 v).num a 1 = v % 2 ^ 8 := by
  show leNat [(s.setByte a (BitVec.ofNat 8 v)).byte a] = _
  rw [State.byte_setByte, if_pos rfl]
  simp [leNat]

/-! MISS of a context (R154), and what leaves it. -/

theorem Moves.ctxMiss_eq {m : Nat} {s t : State} (h : Moves m s t) (hm : m.testBit 2 = false) (c : Nat) : t.ctxMiss c = s.ctxMiss c := by
  unfold State.ctxMiss State.ctx
  rw [h.num_eq hm]

theorem State.ctxMiss_setNum (s : State) (c : Nat) {a n : Nat} (v : Nat) (h : ctxAddr c + 60 ≤ a ∨ a + n ≤ ctxAddr c + 59) :
    (s.setNum a n v).ctxMiss c = s.ctxMiss c := by
  unfold State.ctxMiss State.ctx
  rw [State.num_setNum_ne _ _ (by omega)]

theorem State.ctxMiss_setCtx (s : State) (c : Nat) {off n : Nat} (v : Nat) (h : off + n ≤ 59 ∨ 60 ≤ off) :
    (s.setCtx c off n v).ctxMiss c = s.ctxMiss c := s.ctxMiss_setNum c v (by omega)

theorem State.ctxMiss_setCtxFlag (s : State) (c b : Nat) : (s.setCtxFlag c b).ctxMiss c = s.ctxMiss c :=
  s.ctxMiss_setCtx c _ (by decide)

theorem State.ctxMiss_setMiss (s : State) (c v : Nat) : (s.setMiss c v).ctxMiss c = v % 2 ^ 5 := by
  unfold State.setMiss State.ctxMiss State.ctx State.setCtx
  rw [State.num_setNum_octet]
  unfold slice splice
  unfold slice
  omega

theorem State.ctxMiss_foldOffset (s : State) (c : Nat) (m : Int) : (s.foldOffset c m).ctxMiss c = s.ctxMiss c := by
  unfold State.foldOffset
  split
  · rw [State.ctxMiss_setCtxFlag, State.ctxMiss_setCtx _ _ _ (by decide)]
  · exact s.ctxMiss_setCtx c _ (by decide)

theorem State.ctxMiss_timeSample (s : State) (c a : Nat) (m : Int) (resync phase : Bool) :
    (s.timeSample c a m resync phase).ctxMiss c = s.ctxMiss c := by
  have hrestart : ∀ (z : State) (v w : Nat), ((z.setCtx c 36 4 v).setCtx c 60 4 w).ctxMiss c = z.ctxMiss c := fun z v w => by
    rw [State.ctxMiss_setCtx _ _ _ (by decide), State.ctxMiss_setCtx _ _ _ (by decide)]
  have hstore : ∀ (z : State) (v : Nat), ((z.setCtx c 32 4 v).setCtxFlag c 11).ctxMiss c = z.ctxMiss c := fun z v => by
    rw [State.ctxMiss_setCtxFlag, State.ctxMiss_setCtx _ _ _ (by decide)]
  unfold State.timeSample
  extract_lets par dt tref drift restart x r beta d sampled stored mac
  have hsampled : sampled.ctxMiss c = s.ctxMiss c := by
    unfold sampled restart
    split
    · exact hrestart s _ _
    split
    · rw [hrestart, State.ctxMiss_setCtxFlag, State.ctxMiss_setCtx _ _ _ (by decide)]
    split
    · exact s.ctxMiss_setCtx c _ (by decide)
    · rfl
  have hstored : stored.ctxMiss c = s.ctxMiss c := (hstore sampled _).trans hsampled
  split
  · exact ((stored.with_mac_moves _).ctxMiss_eq rfl c).trans hstored
  · exact hstored

/-! Contexts 0 to 1023 lie below the descriptors (R154, R177). -/

theorem State.ctxMiss_setDesc (s : State) {c : Nat} (hc : c < 1024) (d off n v : Nat) : (s.setDesc d off n v).ctxMiss c = s.ctxMiss c := by
  unfold State.setDesc
  split
  · rfl
  · exact s.ctxMiss_setNum c v (.inl (by unfold ctxAddr descAddr; omega))

theorem State.ctxMiss_setPending (s : State) (c p n : Nat) : (s.setPending p n).ctxMiss c = s.ctxMiss c :=
  s.ctxMiss_setNum c _ (by unfold ctxAddr; omega)

theorem State.ctxMiss_dropPending (s : State) (c d : Nat) : (s.dropPending d).ctxMiss c = s.ctxMiss c := by
  unfold State.dropPending
  split
  · rfl
  · exact (State.ctxMiss_setPending _ c _ _).trans ((s.with_mac_moves _).ctxMiss_eq rfl c)

theorem State.ctxMiss_finishDesc (s : State) {c : Nat} (hc : c < 1024) (d status : Nat) :
    (s.finishDesc d status).ctxMiss c = s.ctxMiss c := by
  obtain ⟨z, -, hbytes, hraise⟩ := State.txDone_eq_raise ((s.dequeueEntry d).dropPending d) d status
  unfold State.finishDesc
  rw [hraise, (z.raise_moves 56).ctxMiss_eq rfl]
  calc z.ctxMiss c = (((s.dequeueEntry d).dropPending d).setDesc d 16 1 status).ctxMiss c := by
        unfold State.ctxMiss State.ctx
        rw [State.num_congr fun k _ => hbytes _]
    _ = s.ctxMiss c := by
        rw [State.ctxMiss_setDesc _ hc, State.ctxMiss_dropPending, (s.dequeueEntry_moves d).ctxMiss_eq rfl]

/-- A descriptor reads as before after a write to a context. -/
theorem State.desc_setCtx (s : State) {c off n : Nat} (hc : c < 1024) (hn : off + n ≤ 64) (v d o k : Nat) :
    (s.setCtx c off n v).desc d o k = s.desc d o k :=
  s.num_setNum_ne v (.inr (by unfold ctxAddr descAddr; omega))

theorem Moves.desc_eq {m : Nat} {s t : State} (h : Moves m s t) (hm : m.testBit 2 = false) (d off n : Nat) :
    t.desc d off n = s.desc d off n := h.num_eq hm _ _

/-! A transmission leaves the pipeline. -/

theorem State.txUnit_congr {s t : State} (h : t.slot.tx = s.slot.tx) (id : Nat) : t.txUnit id = s.txUnit id := by
  unfold State.txUnit
  rw [h]

theorem State.txUnit_removeTx (s : State) (id : Nat) : (s.removeTx id).txUnit id = none := by
  show List.find? _ (s.slot.tx.filter fun u => u.id != id) = none
  rw [List.find?_eq_none]
  intro u hu
  simpa using (List.mem_filter.mp hu).2

/-- A data transmission of descriptor `d` ends with its status (R173). -/
theorem State.endTx_data (s : State) {u : TxUnit} {d : Nat} (hkind : u.kind = .data) (hdesc : u.desc = some d) (status : Nat) :
    s.endTx u status = (s.removeTx u.id).finishDesc d status := by
  unfold State.endTx
  simp only [hkind, hdesc]

theorem State.txUnit_finishDesc (s : State) (d status id : Nat) : (s.finishDesc d status).txUnit id = s.txUnit id :=
  State.txUnit_congr (by rw [(s.finishDesc_moves d status).1 .slot rfl]) id

/-- An acknowledged data frame stores the time correction in its descriptor at most, and ends OK (R173). -/
theorem State.acked_data (s : State) {u : TxUnit} {d : Nat} (hkind : u.kind = .data) (hdesc : u.desc = some d) (h : MacHeader) :
    ∃ z : State, (∀ c < 1024, z.ctxMiss c = s.ctxMiss c) ∧ s.acked u h = (z.removeTx u.id).finishDesc d 1 := by
  unfold State.acked
  simp only [hkind, hdesc]
  cases h.timeCorr with
  | none => exact ⟨s, fun _ _ => rfl, s.endTx_data hkind hdesc 1⟩
  | some v => exact ⟨_, fun c hc => s.ctxMiss_setDesc hc d 14 2 _, State.endTx_data _ hkind hdesc 1⟩

/-- The window is taken away; of the slot engine nothing else changes but what is on the air. -/
theorem State.dropAckWindow_slot (s : State) (w : RxWindow) : (s.dropAckWindow w).slot =
    { s.slot with windows := s.slot.windows.filter (· != w), onAir := none } := by
  have hclose : ∀ (l : List Nat) (z : State), Moves 536870976 z (l.foldl State.closeLane z) := fun l z =>
    foldl_moves Moves.refl fun y i hy => hy.trans (y.closeLane_moves i)
  unfold State.dropAckWindow
  extract_lets slot dropped
  exact (hclose _ dropped).1 .slot rfl

/-- The acknowledgement brings MISS of its context to 0, whatever else it updates there (R493). -/
theorem State.ctxMiss_ackUpdates (s : State) (c : Nat) (r : RxUnit) : (s.ackUpdates c r).ctxMiss c = 0 := by
  unfold State.ackUpdates
  extract_lets adrift folded sampled
  have hfolded : folded.ctxMiss c = 0 := by
    unfold folded
    rw [State.ctxMiss_foldOffset, State.ctxMiss_setCtx _ _ _ (by decide), State.ctxMiss_setMiss, Nat.zero_mod]
  have hsampled : sampled.ctxMiss c = 0 := by
    unfold sampled
    split
    · rw [State.ctxMiss_timeSample, hfolded]
    · exact hfolded
  split
  · rw [sampled.synced_moves.ctxMiss_eq rfl, hsampled]
  · exact hsampled

/-- NOACK and MISS of the context count before the attempt is judged (R173). -/
def State.missed (s : State) (ctx : Option Nat) : State :=
  match ctx with
  | some c => (s.ctxBump c 54).missMore c
  | none => s

theorem State.missed_slot (s : State) (ctx : Option Nat) : (s.missed ctx).slot = s.slot := by
  cases ctx with
  | none => rfl
  | some c => exact (((s.ctxBump_moves c 54).trans (State.missMore_moves _ c)).1 .slot rfl)

theorem State.desc_missed (s : State) {ctx : Option Nat} (hctx : ctx.all (fun c => decide (c < 1024)) = true) (d o k : Nat) :
    (s.missed ctx).desc d o k = s.desc d o k := by
  cases ctx with
  | none => rfl
  | some c =>
    have hc : c < 1024 := by simpa using hctx
    exact (State.desc_setCtx _ hc (by decide) _ d o k).trans (s.desc_setCtx hc (by decide) _ d o k)

theorem State.removeTx_slot_congr {s z : State} (h : z.slot = s.slot) (id : Nat) : (z.removeTx id).slot = (s.removeTx id).slot := by
  unfold State.removeTx
  simp only [h]

/-- An unacknowledged data frame leaves the pipeline; past RETRIES its descriptor completes, else its entry waits again
(R173). -/
theorem State.noAck_data (s : State) {u : TxUnit} {d : Nat} (hkind : u.kind = .data) (hdesc : u.desc = some d) :
    ∃ waits : State, waits.slot = (s.removeTx u.id).slot ∧ s.noAck u =
      if slice ((s.missed u.ctx).desc d 10 1) 0 3 < (s.missed u.ctx).desc d 17 1 then
        ((s.missed u.ctx).removeTx u.id).finishDesc d 2
      else waits := by
  unfold State.noAck
  extract_lets missed
  have hmissed : missed = s.missed u.ctx := by unfold missed State.missed; cases u.ctx <;> rfl
  have hslot : missed.slot = s.slot := hmissed ▸ s.missed_slot u.ctx
  rw [← hmissed]
  simp only [hkind, hdesc, State.endTx_data _ hkind hdesc]
  refine ⟨_, ?_, rfl⟩
  refine State.removeTx_slot_congr ?_ _
  split
  · exact hslot
  · exact hslot

theorem State.noAck_data_slot (s : State) {u : TxUnit} {d : Nat} (hkind : u.kind = .data) (hdesc : u.desc = some d) :
    (s.noAck u).slot = (s.removeTx u.id).slot := by
  obtain ⟨waits, hwaits, hnoAck⟩ := s.noAck_data hkind hdesc
  rw [hnoAck]
  split
  · rw [(State.finishDesc_moves _ d 2).1 .slot rfl]
    exact State.removeTx_slot_congr (s.missed_slot _) _
  · exact hwaits

theorem State.event_noAck_data (s : State) {u : TxUnit} {d : Nat} (hkind : u.kind = .data) (hdesc : u.desc = some d)
    (hpast : slice ((s.missed u.ctx).desc d 10 1) 0 3 < (s.missed u.ctx).desc d 17 1) : (s.noAck u).event 56 = true := by
  obtain ⟨waits, -, hnoAck⟩ := s.noAck_data hkind hdesc
  rw [hnoAck, if_pos hpast, State.event_finishDesc]

end Sys2Proof.Machine

/-! ## Acknowledgements, synchronisation and mode writes -/
namespace Sys2Proof.Machine

/-- R493: what an acknowledgement with the right sequence number, unsecured and with a good FCS, does to its data frame. -/
theorem ackReceived_data {lane : Fin 128} {frame : List Byte} {tSfd : Nat} {rssi offset : Int} {w : RxWindow} {u : TxUnit}
    {h : MacHeader} {d c : Nat} {s : State} (hmode : s.mode ≠ modeCompat) (hwin : s.ackWindow lane = some (w, u))
    (hparse : parseHeader frame = some h) (htype : h.frameType = 2) (hies : h.iesBad = false) (hseq : h.seq = some u.seq)
    (hplain : h.secured = false) (hkind : u.kind = .data) (hdesc : u.desc = some d) (hctx : u.ctx = some c) (hc : c < 1024) :
    completes (.ackReceived lane frame true tSfd rssi offset) s fun t => t.txUnit u.id = none ∧ t.event 56 = true ∧
      t.ctxMiss c = 0 := by
  have hexec : execAckReceived lane frame true tSfd rssi offset s =
      goOn (((s.dropAckWindow w).ackUpdates c (ackUnit u lane h frame tSfd rssi offset)).acked u h) := by
    unfold execAckReceived
    simp [hmode, hwin, hparse, htype, hies, hseq, hplain, hctx]
  obtain ⟨z, hmiss, hacked⟩ :=
    State.acked_data ((s.dropAckWindow w).ackUpdates c (ackUnit u lane h frame tSfd rssi offset)) hkind hdesc h
  rw [hacked] at hexec
  refine completes_of_goOn hexec ⟨?_, State.event_finishDesc _ _ _, ?_⟩
  · rw [State.txUnit_finishDesc, State.txUnit_removeTx]
  · rw [State.ctxMiss_finishDesc _ hc, (z.removeTx_moves u.id).ctxMiss_eq rfl, hmiss c hc, State.ctxMiss_ackUpdates]

/-- R493: an acknowledgement whose FCS failed is as not received. -/
theorem ackReceived_badFcs (lane : Fin 128) (frame : List Byte) (tSfd : Nat) (rssi offset : Int) {s : State}
    (hmode : s.mode ≠ modeCompat) : exec (.ackReceived lane frame false tSfd rssi offset) s = .next s := by
  show execAckReceived lane frame false tSfd rssi offset s = goOn s
  unfold execAckReceived
  rw [if_neg hmode]
  split
  · exact if_pos (.inl rfl)
  · rfl

/-- R173: the window of a data frame closes empty. -/
theorem ackWindowClose_data {lane : Fin 128} {w : RxWindow} {u : TxUnit} {d : Nat} {s : State}
    (hwin : s.ackWindow lane = some (w, u)) (hkind : u.kind = .data) (hdesc : u.desc = some d)
    (hctx : u.ctx.all (fun c => decide (c < 1024)) = true) :
    completes (.ackWindowClose lane) s fun t => t.txUnit u.id = none ∧ w ∉ t.slot.windows ∧
      (slice (s.desc d 10 1) 0 3 < s.desc d 17 1 → t.event 56 = true) := by
  have hexec : execAckWindowClose lane s = goOn ((s.dropAckWindow w).noAck u) := by
    unfold execAckWindowClose
    simp only [hwin]
  have hslot := (s.dropAckWindow w).noAck_data_slot hkind hdesc
  have hkept : ∀ o k, ((s.dropAckWindow w).missed u.ctx).desc d o k = s.desc d o k := fun o k => by
    rw [State.desc_missed _ hctx, (s.dropAckWindow_moves w).desc_eq rfl]
  refine completes_of_goOn hexec ⟨?_, ?_, fun hpast => ?_⟩
  · rw [State.txUnit_congr (congrArg SlotEngine.tx hslot), State.txUnit_removeTx]
  · rw [hslot]
    show w ∉ (s.dropAckWindow w).slot.windows
    rw [State.dropAckWindow_slot]
    simp
  · exact State.event_noAck_data _ hkind hdesc (by rwa [hkept, hkept])

/-! Synchronisation (R165, R166, R167). -/

theorem State.get_raise_sync (s : State) (n : Nat) : (s.raise n).get MAC_STATUS_SYNC = s.get MAC_STATUS_SYNC :=
  (s.raise_moves n).get_eq MAC_STATUS_SYNC_block (by decide) rfl

theorem State.scanStep_scanK (s : State) (k : Nat) : (s.scanStep k).mac.scanK = k := by
  rw [State.scanStep_eq, (State.retune_moves _ _).1 .mac rfl, (State.tuneHalf_moves _ _ _).1 .mac rfl,
    (State.restFrom_moves _ _ _).1 .mac rfl]

/-- R165: entering SCAN; that it raises E61 is the model's choice (log entry 32). -/
theorem State.enterScan_effect (s : State) : s.enterScan.get MAC_STATUS_SYNC = syncScan ∧ s.enterScan.event 61 = true := by
  unfold State.enterScan
  refine ⟨?_, (State.scanStep_steady _ 0).event _ (State.event_raise _ 61)⟩
  rw [(State.scanStep_moves _ 0).get_eq MAC_STATUS_SYNC_block (by decide) rfl, State.get_raise_sync,
    State.get_flag_ne _ _ (by decide), State.get_put_self]
  rfl

theorem State.leaveScan_sync (s : State) (sync : Nat) : (s.leaveScan sync).get MAC_STATUS_SYNC = sync % 2 ^ 2 := by
  rw [State.leaveScan_eq, (State.restFrom_moves _ _ _).get_eq MAC_STATUS_SYNC_block (by decide) rfl, State.get_put_self]
  rfl

/-- R165: three misses of the parent in SYNCED. -/
theorem adriftEntry_effect {c : Nat} {s : State} (hfollows : s.follows = true) (hparent : s.parent = some c)
    (hsync : s.get MAC_STATUS_SYNC = syncSynced) (hmiss : 3 ≤ s.ctxMiss c) :
    completes .adriftEntry s fun t => t.get MAC_STATUS_SYNC = syncAdrift ∧ t.event 60 = true := by
  have hexec : execAdriftEntry s = goOn ((s.put MAC_STATUS_SYNC syncAdrift).raise 60) := by
    unfold execAdriftEntry
    simp only [hparent]
    exact if_pos ⟨hfollows, hsync, hmiss⟩
  refine completes_of_goOn hexec ⟨?_, State.event_raise _ 60⟩
  rw [State.get_raise_sync, State.get_put_self]
  rfl

theorem adriftTimeout_effect {s : State} (hfollows : s.follows = true) (hsync : s.get MAC_STATUS_SYNC = syncAdrift) :
    completes .adriftTimeout s fun t => t.get MAC_STATUS_SYNC = syncScan ∧ t.event 61 = true :=
  completes_of_goOn (if_pos ⟨hfollows, hsync⟩) s.enterScan_effect

theorem scanDwellEnd_effect {s : State} (hmode : s.mode = modeNode) (hsync : s.get MAC_STATUS_SYNC = syncScan) :
    completes .scanDwellEnd s fun t => t.mac.scanK = if s.mac.scanK < s.scanLast then s.mac.scanK + 1 else 0 :=
  completes_of_goOn (if_neg (by simp [hmode, hsync])) (s.scanStep_scanK _)

theorem syncScan_effect {s : State} (hfollows : s.follows = true) :
    completes .syncScan s fun t => t.get MAC_STATUS_SYNC = syncScan ∧ t.event 61 = true :=
  completes_of_goOn (if_pos hfollows) s.enterScan_effect

theorem syncStop_effect {s : State} (hfollows : s.follows = true) :
    completes .syncStop s fun t => t.get MAC_STATUS_SYNC = syncUnsynced :=
  completes_of_goOn (if_pos hfollows) (s.leaveScan_sync syncUnsynced)

theorem syncPoll_effect {s : State} (hmode : s.mode = modeNode) (hparent : s.parent.isSome = true) :
    completes .syncPoll s fun t => t.mac.pollWanted = true := by
  refine completes_of_goOn rfl ?_
  rw [State.wantPoll, if_pos ⟨hmode, hparent⟩]

/-! The answers to a mode write (R29, R32). -/

theorem modeWrite_pending {s : State} (v : Nat) (hpending : s.on PRC_MODE_PENDING = true) :
    completes (.modeWrite v) s fun t => t.host.result = .busy ∧ t.mode = s.mode :=
  completes_of_goOn (execModeWrite_pending v hpending) ⟨rfl, rfl⟩

/-- A transition to mode `v` is asked for: PENDING and the answer OK (R28). -/
def State.askMode (s : State) (v : Nat) : State :=
  let s := (s.flag PRC_MODE_PENDING true).answer .ok
  { s with slot := { s.slot with modeReq := some v } }

/-- With no transition pending the target and the present mode decide (R29). -/
theorem execModeWrite_idle {s : State} (v : Nat) (hidle : s.on PRC_MODE_PENDING = false) : execModeWrite v s =
    if v = 0 ∨ 5 < v then goOn (s.answer .range)
    else if s.mode = modeCompat ∨ s.mode = modeRecovery then goOn (s.answer .mode)
    else if v = modeRecovery then goOn (s.requestRecovery.answer .ok)
    else goOn (if (s.askMode v).running then (s.askMode v).flag SLE_STATUS_STOP_PEND true else s.askMode v) := by
  unfold execModeWrite
  rw [if_neg (by simp [hidle])]
  rfl

theorem State.askMode_running (s : State) (v : Nat) : (s.askMode v).running = s.running := by
  show ((s.flag PRC_MODE_PENDING true).get SLE_STATUS_RUNNING != 0) = _
  rw [State.get_flag_ne _ _ (by decide)]
  rfl

theorem State.askMode_pending (s : State) (v : Nat) : (s.askMode v).get PRC_MODE_PENDING = 1 :=
  s.get_flag_self PRC_MODE_PENDING true

theorem State.requestReset_contains (s : State) (code : Nat) : (s.requestReset code).power.resetReq.contains code = true := by
  unfold State.requestReset
  split
  · assumption
  · simp

theorem modeWrite_outOfRange {v : Nat} {s : State} (hidle : s.on PRC_MODE_PENDING = false) (hv : v = 0 ∨ 5 < v) :
    completes (.modeWrite v) s fun t => t.host.result = .range ∧ t.mode = s.mode :=
  completes_of_goOn ((execModeWrite_idle v hidle).trans (if_pos hv)) ⟨rfl, rfl⟩

/-- R29; the mode error in Compatibility mode is the model's choice (log entry 33). -/
theorem modeWrite_compat {v : Nat} {s : State} (hidle : s.on PRC_MODE_PENDING = false) (hlo : 1 ≤ v) (hhi : v ≤ 5)
    (hmode : s.mode = modeCompat) : completes (.modeWrite v) s fun t => t.host.result = .mode ∧ t.mode = s.mode := by
  have hexec : execModeWrite v s = goOn (s.answer .mode) := by
    rw [execModeWrite_idle v hidle, if_neg (by omega), if_pos (.inl hmode)]
  exact completes_of_goOn hexec ⟨rfl, rfl⟩

/-- R28: mode 4 is reached by a warm reset; that the request keeps code 0x06 is the model's choice (log entry 95). -/
theorem modeWrite_recovery {s : State} (hidle : s.on PRC_MODE_PENDING = false) (hcompat : s.mode ≠ modeCompat)
    (hrecovery : s.mode ≠ modeRecovery) : completes (.modeWrite modeRecovery) s fun t =>
      t.host.result = .ok ∧ t.boot.recoveryReq = true ∧ t.power.resetReq.contains 0x06 = true := by
  have hexec : execModeWrite modeRecovery s = goOn (s.requestRecovery.answer .ok) := by
    rw [execModeWrite_idle _ hidle, if_neg (by decide), if_neg (by simp [hcompat, hrecovery]), if_pos rfl]
  refine completes_of_goOn hexec ⟨rfl, ?_, State.requestReset_contains _ 0x06⟩
  show s.requestRecovery.boot.recoveryReq = true
  rw [State.requestRecovery, State.requestReset_boot]

/-- R28: another native mode is entered at the boundary, for which a running program stops. -/
theorem modeWrite_native {v : Nat} {s : State} (hidle : s.on PRC_MODE_PENDING = false) (hlo : 1 ≤ v) (hhi : v ≤ 5)
    (htarget : v ≠ modeRecovery) (hcompat : s.mode ≠ modeCompat) (hrecovery : s.mode ≠ modeRecovery) :
    completes (.modeWrite v) s fun t => t.host.result = .ok ∧ t.slot.modeReq = some v ∧ t.get PRC_MODE_PENDING = 1 ∧
      (s.running = true → t.get SLE_STATUS_STOP_PEND = 1) := by
  have hexec := execModeWrite_idle v hidle
  rw [if_neg (by omega), if_neg (by simp [hcompat, hrecovery]), if_neg htarget, State.askMode_running] at hexec
  refine completes_of_goOn hexec ?_
  split
  · refine ⟨rfl, rfl, ?_, fun _ => State.get_flag_self _ SLE_STATUS_STOP_PEND true⟩
    rw [State.get_flag_ne _ _ (by decide), State.askMode_pending]
  · rename_i hstopped
    exact ⟨rfl, rfl, s.askMode_pending v, fun hrunning => absurd hrunning hstopped⟩

theorem modeTransition_idle {m : Nat} {s : State} (hreq : s.slot.modeReq = some m) (hidle : s.running = false) :
    completes .modeTransition s fun t => t.mode = m % 2 ^ PRC_MODE_MODE.width ∧
      t.get PRC_MODE_PREV = s.mode % 2 ^ PRC_MODE_PREV.width ∧ t.get PRC_MODE_PENDING = 0 ∧ t.event 7 = true :=
  completes_of_goOn (execModeTransition_idle hreq hidle) (s.enterMode_effect m)

/-- Settles O17: acknowledgements and their windows, the synchronisation commands and timeouts, and the answers and the
transition of a mode write, each by its own lemma. -/
theorem acknowledgementsSynchronisationAndModes : Obligations.AcknowledgementsSynchronisationAndModes := by
  unfold Obligations.AcknowledgementsSynchronisationAndModes
  exact ⟨fun _ _ _ _ _ _ _ _ _ _ _ => ackReceived_data,
    fun lane frame tSfd rssi offset _ => ackReceived_badFcs lane frame tSfd rssi offset,
    fun _ _ _ _ _ => ackWindowClose_data, fun _ _ => adriftEntry_effect, fun _ => adriftTimeout_effect,
    fun _ => scanDwellEnd_effect, fun _ => syncScan_effect, fun _ => syncStop_effect, fun _ => syncPoll_effect,
    fun v _ => modeWrite_pending v, fun _ _ => modeWrite_outOfRange, fun _ _ => modeWrite_compat,
    fun _ => modeWrite_recovery, fun _ _ => modeWrite_native, fun _ _ => modeTransition_idle⟩

end Sys2Proof.Machine

/-! ## The receive pipeline: a unit that a stage completes is handed on or ends -/
namespace Sys2Proof.Machine

theorem satInc_lt (w v : Nat) : satInc w v < 2 ^ w := by
  unfold satInc
  split
  · assumption
  · exact Nat.sub_lt (Nat.two_pow_pos _) (by decide)

theorem State.get_bump_self (s : State) (f : RegField) : (s.bump f).get f = satInc f.width (s.get f) := by
  rw [State.bump, State.get_put_self, Nat.mod_eq_of_lt (satInc_lt _ _)]

/-! Units under the operations of a stage. -/

theorem State.rxUnit_congr {s t : State} (h : t.slot.rx = s.slot.rx) (id : Nat) : t.rxUnit id = s.rxUnit id := by
  unfold State.rxUnit
  rw [h]

theorem State.rxUnit_removeRx (s : State) (id : Nat) : (s.removeRx id).rxUnit id = none := by
  simp [State.rxUnit, State.removeRx]

theorem State.rxUnit_moveRx (s : State) (u : RxUnit) : (s.moveRx u).rxUnit u.id = some u := by
  have hgone : (s.removeRx u.id).slot.rx.find? (fun v => v.id == u.id) = none := s.rxUnit_removeRx u.id
  show List.find? _ ((s.removeRx u.id).slot.rx ++ [u]) = some u
  rw [List.find?_append, hgone]
  simp

theorem State.rxUnit_accepted (s : State) (st id : Nat) : (s.accepted st).rxUnit id = s.rxUnit id := by
  unfold State.accepted
  extract_lets n slot counted
  split <;> rfl

/-- A unit that ends is in the pipeline no more; freeing its twin's pairing brings none back. -/
theorem State.rxUnit_endRx (s : State) (u : RxUnit) : (s.endRx u).rxUnit u.id = none := by
  have hgone : ∀ v ∈ ((s.removeRx u.id).dropAckOf u.id).slot.rx, v.id ≠ u.id := fun v hv => by
    simpa using (List.mem_filter.mp hv).2
  unfold State.rxUnit State.endRx
  rw [List.find?_eq_none]
  intro v hv
  obtain ⟨v₀, hv₀, rfl⟩ := List.mem_map.mp hv
  have hid := hgone v₀ hv₀
  split <;> simpa using hid

/-- What a test injection corrupts depends on the slot engine and the mode alone (R142). -/
theorem State.injected_congr {s t : State} (hslot : t.slot = s.slot) (hmode : t.mode = s.mode) (st : Nat) :
    t.injected st = s.injected st := by
  unfold State.injected
  rw [hslot, hmode]

theorem State.passRx_eq {s : State} {u : RxUnit} (hinj : s.injected u.stage = false) (charge : Nat) :
    s.passRx u charge =
      ((s.handedOn u.stage charge).moveRx { u with stage := u.stage + 1 }).accepted (u.stage + 1) := by
  unfold State.passRx
  rw [hinj]
  rfl

/-- A unit handed on is at the next stage (R130). -/
theorem State.rxUnit_passRx {s : State} {u : RxUnit} {st unit : Nat} (charge : Nat) (hid : u.id = unit) (hstage : u.stage = st)
    (hinj : s.injected st = false) : (s.passRx u charge).rxUnit unit = some { u with stage := st + 1 } := by
  subst hid hstage
  rw [State.passRx_eq hinj, State.rxUnit_accepted]
  exact State.rxUnit_moveRx _ { u with stage := u.stage + 1 }

theorem State.passRx_steady {s : State} {u : RxUnit} {st : Nat} (charge : Nat) (hstage : u.stage = st)
    (hinj : s.injected st = false) : Steady s (s.passRx u charge) := by
  subst hstage
  rw [State.passRx_eq hinj]
  exact ((s.handedOn_moves _ _).steady rfl rfl).trans
    (((State.moveRx_moves _ _).steady rfl rfl).trans ((State.accepted_moves _ _).steady rfl rfl))

/-- The unit that a stage can complete is the one named, and stands at that stage. -/
theorem State.of_rxReady {s : State} {st unit charge : Nat} {u : RxUnit} (h : s.rxReady st unit charge = some u) :
    u.id = unit ∧ u.stage = st := by
  unfold State.rxReady at h
  split at h
  · cases h
  rename_i v hunit
  obtain ⟨⟨hstage, -⟩, hsame⟩ := Option.ite_none_right_eq_some.mp h
  cases hsame
  exact ⟨by simpa using List.find?_some hunit, hstage⟩

/-- A stage that can complete its unit, the frame not having ended BLANKED, does to it what is the stage's own. -/
theorem completes_rxStage {c : Instr} {st unit charge : Nat} {u : RxUnit} {f : RxUnit → State} {s : State} {P : State → Prop}
    (hexec : exec c s = goOn (s.rxStage st unit charge f)) (hready : s.rxReady st unit charge = some u)
    (hblank : u.blanked = false) (hP : P (f u)) : completes c s P := by
  have hstage : s.rxStage st unit charge f = f u := by
    unfold State.rxStage
    simp [hready, hblank]
  exact completes_of_goOn hexec (hstage.symm ▸ hP)

section stage
variable {unit charge : Nat} {u : RxUnit} {s : State}

/-! CAPTURE and PHR. -/

theorem captureStage_hands (hready : s.rxReady 0 unit charge = some u) (hblank : u.blanked = false)
    (hinj : s.injected 0 = false) :
    completes (.captureStage unit charge) s fun t => t.rxUnit unit = some { u with stage := 1 } := by
  obtain ⟨hid, hstage⟩ := State.of_rxReady hready
  exact completes_rxStage rfl hready hblank (State.rxUnit_passRx charge hid hstage hinj)

/-- R82: a legal header is kept in the unit. -/
theorem phrStage_legal {ms f16 wh : Bool} {n : Nat} (hready : s.rxReady 1 unit charge = some u) (hblank : u.blanked = false)
    (hinj : s.injected 1 = false) (hnative : u.legacy = false)
    (hlegal : u.headerBad ms (if f16 then 2 else 4) (n % 2048) = false) :
    completes (.phrStage unit charge ms f16 wh n) s fun t => t.rxUnit unit =
      some { u with length := n % 2048, fcsLen := if f16 then 2 else 4, dw := wh, stage := 2 } := by
  obtain ⟨hid, hstage⟩ := State.of_rxReady hready
  refine completes_rxStage rfl hready hblank ?_
  simp only [hnative, Bool.false_or, Bool.false_eq_true, if_false, hlegal, Bool.not_false, Bool.and_true]
  exact State.rxUnit_passRx charge hid hstage hinj

/-- R82: an illegal header ends the unit and raises E35. -/
theorem phrStage_illegal {ms f16 : Bool} (wh : Bool) {n : Nat} (hready : s.rxReady 1 unit charge = some u)
    (hblank : u.blanked = false) (hnative : u.legacy = false)
    (hbad : u.headerBad ms (if f16 then 2 else 4) (n % 2048) = true) :
    completes (.phrStage unit charge ms f16 wh n) s fun t => t.rxUnit unit = none ∧ t.event 35 = true := by
  obtain ⟨hid, -⟩ := State.of_rxReady hready
  refine completes_rxStage rfl hready hblank ?_
  simp only [hnative, Bool.false_or, Bool.false_eq_true, if_false, hbad, if_true]
  constructor
  · have hslot : ((((s.endRx u).leaveFrame u.det.place).raise 35).perCount u.det.place 12).slot = (s.endRx u).slot := calc
      _ = (((s.endRx u).leaveFrame u.det.place).raise 35).slot := (State.perCount_moves _ _ _).1 .slot rfl
      _ = ((s.endRx u).leaveFrame u.det.place).slot := State.raise_slot _ _
      _ = (s.endRx u).slot := (State.leaveFrame_moves _ _).1 .slot rfl
    rw [State.rxUnit_congr (congrArg SlotEngine.rx hslot), ← hid, State.rxUnit_endRx]
  · rw [(State.perCount_moves _ _ _).event_eq _ rfl, State.event_raise]

/-! DECODE and CRC. -/

/-- R81, R85: the decoded PSDU is stored; a wrong final state marks the frame and raises E36. -/
theorem decodeStage_hands (soft : List Int) (hready : s.rxReady 2 unit charge = some u) (hblank : u.blanked = false)
    (hinj : s.injected 2 = false) (hended : u.ended = true) :
    completes (.decodeStage unit charge soft) s fun t =>
      t.rxUnit unit = some { u with psdu := (u.decoded soft).1, decodeFail := !(u.decoded soft).2, stage := 3 } ∧
      ((u.decoded soft).2 = false → t.event 36 = true) := by
  obtain ⟨hid, hstage⟩ := State.of_rxReady hready
  have hinjRaised : ∀ b, (s.raiseIf b 36).injected 2 = false := fun b => by
    rw [State.injected_congr (s.raiseIf_slot b 36) (s.raiseIf_steady b 36).mode, hinj]
  refine completes_rxStage rfl hready hblank ?_
  simp only [hended, Bool.not_true, Bool.false_eq_true, if_false]
  refine ⟨State.rxUnit_passRx charge hid hstage (hinjRaised _), fun hfail => ?_⟩
  refine (State.passRx_steady charge (by exact hstage) (hinjRaised _)).event 36 ?_
  rw [hfail]
  exact s.event_raise 36

/-- R86: a single copy whose FCS holds goes on. -/
theorem crcCheck_good (hready : s.rxReady 3 unit charge = some u) (hblank : u.blanked = false) (hinj : s.injected 3 = false)
    (hopen : u.crcDone = false) (hsingle : u.twin = .single) (hok : u.checkOk = true) :
    completes (.crcCheck unit charge) s fun t => t.rxUnit unit = some { u with fcsOk := true, crcDone := true, stage := 4 } := by
  obtain ⟨hid, hstage⟩ := State.of_rxReady hready
  have hmoves : ∀ v, Moves 64 s (s.perFrame v true) := fun v => s.perFrame_moves v true
  refine completes_rxStage rfl hready hblank ?_
  simp only [hopen, hsingle, hok, Bool.false_eq_true, if_false, Bool.not_true, Bool.and_false, if_true]
  refine State.rxUnit_passRx charge hid hstage ?_
  rw [State.injected_congr ((hmoves _).1 .slot rfl) ((hmoves _).steady rfl rfl).mode, hinj]

/-- R86; that a failed FCS ends the unit at this stage is the model's choice (log entry 22). -/
theorem crcCheck_bad (hready : s.rxReady 3 unit charge = some u) (hblank : u.blanked = false)
    (hopen : u.crcDone = false) (hsingle : u.twin = .single) (hbad : u.checkOk = false) :
    completes (.crcCheck unit charge) s fun t => t.rxUnit unit = none := by
  obtain ⟨rfl, -⟩ := State.of_rxReady hready
  refine completes_rxStage rfl hready hblank ?_
  simp only [hopen, hsingle, hbad, Bool.false_eq_true, if_false]
  exact State.rxUnit_endRx _ { u with fcsOk := false, crcDone := true }

/-! PARSE. -/

/-- A frame discarded at PARSE is counted and its unit ends (R156). -/
theorem State.discarded {f : RegField} (hf : f.inBlock 5) (hid : u.id = unit) :
    ((s.bump f).endRx u).rxUnit unit = none ∧ ((s.bump f).endRx u).get f = satInc f.width (s.get f) := by
  subst hid
  exact ⟨State.rxUnit_endRx _ u, ((State.endRx_moves _ u).get_eq hf (by decide) rfl).trans (s.get_bump_self f)⟩

variable {h : MacHeader}

/-- R156: a well-formed frame for this device. -/
theorem parseStage_mine (hready : s.rxReady 4 unit charge = some u) (hblank : u.blanked = false) (hinj : s.injected 4 = false)
    (hmode : s.mode ≠ modeCompat) (hnative : u.legacy = false)
    (hparse : parseHeader (u.psdu.take (u.psdu.length - u.fcsLen)) = some h) (hversion : h.version ≠ 3)
    (htype : h.frameType ≤ 3) (hnoAck : h.frameType ≠ 2) (hies : h.iesBad = false) (hscan : u.scanReject h = false)
    (hmine : s.isMine h = true) :
    completes (.parseStage unit charge) s fun t => t.rxUnit unit = some { u with hdr := h, stage := 5 } := by
  obtain ⟨hid, hstage⟩ := State.of_rxReady hready
  refine completes_rxStage rfl hready hblank ?_
  simp only [hmode, hnative, hparse, hversion, Nat.not_lt.mpr htype, hies, hscan, hmine, hnoAck, Bool.false_eq_true, or_self,
    false_and, if_false, Bool.not_true, Bool.and_false]
  exact State.rxUnit_passRx charge hid hstage hinj

/-- R156; that a header which does not fit its octets is malformed as a whole is the model's choice (log entry 31). -/
theorem parseStage_malformed (hready : s.rxReady 4 unit charge = some u) (hblank : u.blanked = false)
    (hmode : s.mode ≠ modeCompat) (hnative : u.legacy = false)
    (hparse : parseHeader (u.psdu.take (u.psdu.length - u.fcsLen)) = none) :
    completes (.parseStage unit charge) s fun t => t.rxUnit unit = none ∧
      t.get MAC_RXDISC_BAD_FRAME = satInc MAC_RXDISC_BAD_FRAME.width (s.get MAC_RXDISC_BAD_FRAME) := by
  obtain ⟨hid, -⟩ := State.of_rxReady hready
  refine completes_rxStage rfl hready hblank ?_
  simp only [hmode, hnative, hparse, Bool.false_eq_true, if_false]
  exact State.discarded MAC_RXDISC_BAD_FRAME_block hid

/-- R156: a frame for another device, whether SCAN discards it first (R165) or its destination. -/
theorem parseStage_notMine (hready : s.rxReady 4 unit charge = some u) (hblank : u.blanked = false)
    (hmode : s.mode ≠ modeCompat) (hnative : u.legacy = false)
    (hparse : parseHeader (u.psdu.take (u.psdu.length - u.fcsLen)) = some h) (hversion : h.version ≠ 3)
    (htype : h.frameType ≤ 3) (hies : h.iesBad = false) (hother : s.isMine h = false)
    (hpromisc : s.on MAC_CTRL_PROMISC = false) :
    completes (.parseStage unit charge) s fun t => t.rxUnit unit = none ∧
      t.get MAC_RXDISC_NOT_MINE = satInc MAC_RXDISC_NOT_MINE.width (s.get MAC_RXDISC_NOT_MINE) := by
  obtain ⟨hid, -⟩ := State.of_rxReady hready
  refine completes_rxStage rfl hready hblank ?_
  simp only [hmode, hnative, hparse, hversion, Nat.not_lt.mpr htype, hies, hother, hpromisc, Bool.false_eq_true, or_self,
    if_false, Bool.not_false, Bool.and_self, if_true, ite_self]
  exact State.discarded MAC_RXDISC_NOT_MINE_block hid

end stage

/-- Settles O10: stages 0 to 4, each way that a stage can complete its unit by its own lemma. -/
theorem receiveStagesHandFramesOn : Obligations.ReceiveStagesHandFramesOn := by
  unfold Obligations.ReceiveStagesHandFramesOn
  exact ⟨fun _ _ _ _ => captureStage_hands, fun _ _ _ _ _ _ _ _ => phrStage_legal,
    fun _ _ _ _ _ wh _ _ => phrStage_illegal wh, fun _ _ _ soft _ => decodeStage_hands soft,
    fun _ _ _ _ => crcCheck_good, fun _ _ _ _ => crcCheck_bad, fun _ _ _ _ _ => parseStage_mine,
    fun _ _ _ _ => parseStage_malformed, fun _ _ _ _ _ => parseStage_notMine⟩

end Sys2Proof.Machine

/-! ## Receive profiles, twin receive, the channel map and the windows of lanes -/
namespace Sys2Proof.Machine

/-! Fields loaded from a written word, and fields that an iteration leaves. -/

theorem State.get_loadFields_ne (s : State) {fs : List RegField} (w : Nat) {g : RegField} (h : ∀ f ∈ fs, g.key ≠ f.key) :
    (s.loadFields fs w).get g = s.get g := by
  induction fs generalizing s with
  | nil => rfl
  | cons f fs ih =>
    obtain ⟨hf, hfs⟩ := List.forall_mem_cons.mp h
    exact (ih (s.put f _) hfs).trans (s.get_put_ne _ hf)

/-- Each field of a register takes its own bits of the written word. -/
theorem State.get_loadFields (s : State) {fs : List RegField} (w : Nat) (hfs : fs.Pairwise fun f g => f.key ≠ g.key) {g : RegField}
    (hg : g ∈ fs) : (s.loadFields fs w).get g = slice w g.lsb g.width := by
  induction fs generalizing s with
  | nil => cases hg
  | cons f fs ih =>
    obtain ⟨hf, hrest⟩ := List.pairwise_cons.mp hfs
    rcases List.mem_cons.mp hg with rfl | hg
    · refine (State.get_loadFields_ne _ w hf).trans ?_
      rw [State.get_put_self, slice, Nat.mod_mod]
    · exact ih _ hrest hg

theorem foldl_get {α : Type} {l : List α} {g : State → α → State} {f : RegField} (hg : ∀ s x, (g s x).get f = s.get f) (s : State) :
    (l.foldl g s).get f = s.get f := by
  induction l generalizing s with
  | nil => rfl
  | cons x l ih => exact (ih _).trans (hg s x)

/-! Receive profiles. -/

theorem rxProfFields_pairwise (p : Nat) : (rxProfFields p).Pairwise fun f g => f.key ≠ g.key := by
  simp [rxProfFields, RegField.key, CHZ_PROF_MOD, CHZ_PROF_RATE, CHZ_PROF_BT, CHZ_PROF_HIDX, CHZ_PROF_REP, CHZ_PROF_SFDG,
    CHZ_PROF_FEC_EN, CHZ_PROF_LEG_EN, CHZ_PROF_NAT_EN, CHZ_PROF_MAXLEN]

theorem rxProfFields_ne_profErr (p : Nat) : ∀ f ∈ rxProfFields p, CHZ_STATUS_PROF_ERR.key ≠ f.key := by
  simp only [rxProfFields, List.forall_mem_cons, RegField.key, CHZ_STATUS_PROF_ERR, CHZ_PROF_MOD, CHZ_PROF_RATE, CHZ_PROF_BT,
    CHZ_PROF_HIDX, CHZ_PROF_REP, CHZ_PROF_SFDG, CHZ_PROF_FEC_EN, CHZ_PROF_LEG_EN, CHZ_PROF_NAT_EN, CHZ_PROF_MAXLEN,
    List.not_mem_nil, false_imp_iff, implies_true, and_true]
  omega

/-- The lanes that use receive profile `p` take up its change (R76). -/
def State.profTaken (s : State) (p : Nat) : State :=
  (List.range 128).foldl (fun (s : State) i =>
    if s.get (CHZ_LCFG_PROFILE (s.laneSrc i)) = p then s.laneProfChanged i else s) s

theorem State.profTaken_moves (s : State) (p : Nat) : Moves 64 s (s.profTaken p) :=
  foldl_moves Moves.refl fun z i hz => ite_moves (hz.trans (z.laneProfChanged_moves i)) hz

/-- R76: a legal word is stored; the lanes that take it up keep every register as it is. -/
theorem rxProfileWrite_legal {i : Fin 4} {v : Word} {s : State} (hmode : s.mode ≠ modeCompat) (hok : rxProfOk v.toNat = true) :
    completes (.rxProfileWrite i v) s fun t => t.get CHZ_STATUS_PROF_ERR = 0 ∧
      ∀ f ∈ rxProfFields i, t.get f = slice v.toNat f.lsb f.width := by
  have hexec : execRxProfileWrite i v s =
      goOn (((s.flag CHZ_STATUS_PROF_ERR false).loadFields (rxProfFields i) v.toNat).profTaken i) := by
    unfold execRxProfileWrite
    rw [if_neg hmode, if_neg (by simp [hok])]
    rfl
  refine completes_of_goOn hexec ⟨?_, fun f hf => ?_⟩
  · rw [(State.profTaken_moves _ i).get_eq CHZ_STATUS_PROF_ERR_block (by decide) rfl,
      State.get_loadFields_ne _ _ (rxProfFields_ne_profErr i), State.get_flag_self]
    rfl
  · rw [(State.profTaken_moves _ i).get_eq (rxProfFields_block i f hf) (by decide) rfl,
      State.get_loadFields _ _ (rxProfFields_pairwise i) hf]

/-- R76: an illegal word leaves the profile. -/
theorem rxProfileWrite_illegal {i : Fin 4} {v : Word} {s : State} (hmode : s.mode ≠ modeCompat) (hbad : rxProfOk v.toNat = false) :
    completes (.rxProfileWrite i v) s fun t => t.get CHZ_STATUS_PROF_ERR = 1 ∧ ∀ f ∈ rxProfFields i, t.get f = s.get f := by
  have hexec : execRxProfileWrite i v s = goOn (s.flag CHZ_STATUS_PROF_ERR true) := by
    unfold execRxProfileWrite
    rw [if_neg hmode, if_pos (by simp [hbad])]
  exact completes_of_goOn hexec
    ⟨s.get_flag_self _ true, fun f hf => s.get_flag_ne true (rxProfFields_ne_profErr i f hf).symm⟩

/-! Fields of the channelizer that belong to no lane stay under the blanking of lanes and the setting of their oscillators. -/

/-- A field of the channelizer below the lanes' registers. -/
def RegField.offLanes (f : RegField) : Prop := f.inBlock 2 ∧ f.key < 32 * 0x40021000

theorem State.get_blankLane (r : BlankReason) (s : State) (i : Nat) {f : RegField} (hf : f.offLanes) :
    (State.blankLane r s i).get f = s.get f := by
  obtain ⟨hblock, hlow⟩ := hf
  have hstate : f.key ≠ (CHZ_LSTAT_STATE i).key := by
    simp only [RegField.key, CHZ_LSTAT_STATE] at hlow ⊢
    omega
  have hcount : f.key ≠ (CHZ_LCNT_BLANKED i).key := by
    simp only [RegField.key, CHZ_LCNT_BLANKED] at hlow ⊢
    omega
  have hshown : f.key ≠ (blankField i).key := fun hkey => by
    have hother := blankField_block i
    unfold RegField.inBlock at hblock hother
    omega
  unfold State.blankLane
  extract_lets st cut marked shown
  have hcut : cut.get f = s.get f := by
    unfold cut
    split
    · exact s.get_bump_ne hcount
    · rfl
  have hmarked : shown.get f = s.get f := (marked.get_put_ne _ hshown).trans hcut
  split
  · exact hmarked
  · exact (shown.get_put_ne _ hstate).trans hmarked

theorem State.get_retune (s : State) (h : Nat) {f : RegField} (hf : f.offLanes) : (s.retune h).get f = s.get f :=
  foldl_get (fun z i => State.get_blankLane .retune z i hf) s

theorem State.get_setNcos (s : State) (m : MapParams) {f : RegField} (hf : f.offLanes) : (s.setNcos m).get f = s.get f := by
  have hnco : ∀ i, f.key ≠ (CHZ_LNCO_LNCO i).key := fun i => by
    have hlow := hf.2
    simp only [RegField.key, CHZ_LNCO_LNCO] at hlow ⊢
    omega
  unfold State.setNcos
  extract_lets zeroed
  have hzeroed : zeroed.get f = s.get f := foldl_get (fun z i => z.get_put_ne _ (hnco i)) s
  refine (foldl_get (fun z n => ?_) zeroed).trans hzeroed
  split
  · exact z.get_put_ne _ (hnco _)
  · rfl

/-! Twin receive. -/

/-- R90: twin receive comes into force or ends as asked, and TWIN_EN stays. -/
theorem State.takeTwin_effect (s : State) (b : Bool) :
    (s.takeTwin b).get CHZ_CTRL_TWIN_EN = s.get CHZ_CTRL_TWIN_EN ∧ (s.takeTwin b).on CHZ_STATUS_TWIN_ACTIVE = b := by
  unfold State.takeTwin
  split
  · rename_i hsame
    exact ⟨rfl, hsame⟩
  extract_lets retuned renewed
  have hget : ∀ {f : RegField}, f.offLanes → f.key ≠ CHZ_STATUS_MAP_BUSY.key →
      renewed.mapChanged.get f = (s.flag CHZ_STATUS_TWIN_ACTIVE b).get f := fun {f} hf hbusy => calc
    renewed.mapChanged.get f = renewed.get f := renewed.get_flag_ne true hbusy
    _ = retuned.get f := by
      have hlanes : Moves 64 retuned renewed :=
        foldl_moves Moves.refl fun z i hz => hz.trans (z.laneProfChanged_moves i)
      exact hlanes.get_eq hf.1 (by decide) rfl
    _ = (s.flag CHZ_STATUS_TWIN_ACTIVE b).get f := State.get_retune _ 1 hf
  refine ⟨?_, ?_⟩
  · rw [hget ⟨CHZ_CTRL_TWIN_EN_block, by decide⟩ (by decide), State.get_flag_ne _ _ (by decide)]
  · rw [State.on, hget ⟨CHZ_STATUS_TWIN_ACTIVE_block, by decide⟩ (by decide), State.get_flag_self]
    cases b <;> rfl

/-- R90; that the write is in force at once with no program running is the model's choice (log entry 23). -/
theorem twinEnWrite_conc {en : Bool} {s : State} (hpart : s.partT = false) (hmode : s.mode = modeConc)
    (hidle : s.running = false) : completes (.twinEnWrite en) s fun t =>
      t.get CHZ_CTRL_TWIN_EN = ofBool en ∧ t.on CHZ_STATUS_TWIN_ACTIVE = en := by
  have hexec : execTwinEnWrite en s =
      goOn (((s.flag CHZ_STATUS_TWIN_REJ false).flag CHZ_CTRL_TWIN_EN en).takeTwin en) := by
    have hstill : ((s.flag CHZ_STATUS_TWIN_REJ false).flag CHZ_CTRL_TWIN_EN en).running = false := by
      rw [← hidle, State.running, State.running, State.on, State.on, State.get_flag_ne _ _ (by decide),
        State.get_flag_ne _ _ (by decide)]
    unfold execTwinEnWrite State.writeTwin
    simp [hpart, hmode, hidle, hstill, modeConc, modeCompat]
  obtain ⟨hkept, hforce⟩ := ((s.flag CHZ_STATUS_TWIN_REJ false).flag CHZ_CTRL_TWIN_EN en).takeTwin_effect en
  refine completes_of_goOn hexec ⟨?_, hforce⟩
  rw [hkept, State.get_flag_self]
  cases en <;> rfl

/-- R90: Node mode has no twin receive. -/
theorem twinEnWrite_node {s : State} (hpart : s.partT = false) (hmode : s.mode = modeNode) :
    completes (.twinEnWrite true) s fun t => t.get CHZ_STATUS_TWIN_REJ = 1 ∧
      t.get CHZ_CTRL_TWIN_EN = s.get CHZ_CTRL_TWIN_EN := by
  have hexec : execTwinEnWrite true s = goOn (s.flag CHZ_STATUS_TWIN_REJ true) := by
    unfold execTwinEnWrite State.writeTwin
    simp [hpart, hmode, modeNode, modeCompat, modeConc, modeTest]
  exact completes_of_goOn hexec ⟨s.get_flag_self _ true, s.get_flag_ne true (by decide)⟩

/-! The channel map. -/

/-- R69: the map put in force is that of the registers as they stand. -/
theorem State.installMap_mapCur (s : State) : s.installMap.radio.mapCur = s.mapParams (s.on CHZ_STATUS_TWIN_ACTIVE) := by
  unfold State.installMap
  extract_lets m radio z
  rw [(z.setNcos_moves m).1 .radio rfl]

theorem State.get_installMap (s : State) {f : RegField} (hf : f.offLanes) : s.installMap.get f = s.get f := by
  unfold State.installMap
  extract_lets m radio z
  exact z.get_setNcos m hf

/-- MAP_BUSY is no parameter of the map. -/
theorem State.mapParams_flag_mapBusy (s : State) (b twin : Bool) :
    (s.flag CHZ_STATUS_MAP_BUSY b).mapParams twin = s.mapParams twin := by
  unfold State.mapParams
  simp only [State.get_flag_ne s b (show CHZ_CHF0_F0.key ≠ CHZ_STATUS_MAP_BUSY.key by decide),
    State.get_flag_ne s b (show CHZ_CHSPACE_S.key ≠ CHZ_STATUS_MAP_BUSY.key by decide),
    State.get_flag_ne s b (show CHZ_CHCOUNT_N.key ≠ CHZ_STATUS_MAP_BUSY.key by decide),
    State.get_flag_ne s b (show RFC_FREQ_A_FREQ.key ≠ CHZ_STATUS_MAP_BUSY.key by decide),
    State.get_flag_ne s b (show RFC_FREQ_B_FREQ.key ≠ CHZ_STATUS_MAP_BUSY.key by decide),
    State.get_flag_ne s b (show CHZ_CTRL_PLAN_A.key ≠ CHZ_STATUS_MAP_BUSY.key by decide),
    State.get_flag_ne s b (show CHZ_CTRL_PLAN_B.key ≠ CHZ_STATUS_MAP_BUSY.key by decide)]

/-- R69; that the new map is in force at once with no program running is the model's choice (log entry 23). -/
theorem channelMapRebuild_idle {s : State} (hbusy : s.on CHZ_STATUS_MAP_BUSY = true) (hidle : s.running = false) :
    completes (.channelMapRebuild) s fun t => t.get CHZ_STATUS_MAP_BUSY = 0 ∧
      t.radio.mapCur = s.mapParams (s.on CHZ_STATUS_TWIN_ACTIVE) := by
  have hexec : execChannelMapRebuild s = goOn (s.flag CHZ_STATUS_MAP_BUSY false).installMap := by
    have hstill : (s.flag CHZ_STATUS_MAP_BUSY false).running = false := by
      rw [← hidle, State.running, State.running, State.on, State.on, State.get_flag_ne _ _ (by decide)]
    unfold execChannelMapRebuild
    simp [hbusy, hstill]
  refine completes_of_goOn hexec ⟨?_, ?_⟩
  · rw [State.get_installMap _ ⟨CHZ_STATUS_MAP_BUSY_block, by decide⟩, State.get_flag_self]
    rfl
  · rw [State.installMap_mapCur, State.mapParams_flag_mapBusy, State.on, State.get_flag_ne _ _ (by decide), State.on]

/-! Windows: what an operation on one lane leaves of another. -/

/-- Lane `i` shows and keeps in `t` what it did in `s`. -/
structure LaneKept (i : Nat) (s t : State) : Prop where
  state : t.laneState i = s.laneState i
  lane : t.lane i = s.lane i

theorem LaneKept.refl (i : Nat) (s : State) : LaneKept i s s := ⟨rfl, rfl⟩

theorem LaneKept.trans {i : Nat} {r s t : State} (h : LaneKept i r s) (g : LaneKept i s t) : LaneKept i r t :=
  ⟨g.state.trans h.state, g.lane.trans h.lane⟩

/-- An operation that changes neither the radio nor the channelizer's registers. -/
theorem Moves.laneKept {m : Nat} {s t : State} (h : Moves m s t) (hradio : m.testBit 6 = false) (hchz : m.testBit 29 = false)
    (i : Nat) : LaneKept i s t :=
  ⟨h.get_eq (CHZ_LSTAT_STATE_block i) (by decide) hchz, by rw [State.lane, State.lane, h.1 .radio hradio]⟩

theorem State.setLane_laneKept (s : State) {i j : Nat} (l : Lane) (hij : i ≠ j) : LaneKept i s (s.setLane j l) :=
  ⟨rfl, (s.lane_setLane j i l).trans (if_neg hij)⟩

theorem State.refreshProfile_laneKept (s : State) {i j : Nat} (hij : i ≠ j) : LaneKept i s (s.refreshProfile j) :=
  s.setLane_laneKept _ hij

/-- Lane Bj is another lane than Aj (R90). -/
theorem State.put_partner_laneKept (s : State) {i : Nat} (v : Nat) (hi : i < 64) :
    LaneKept i s (s.put (CHZ_LSTAT_STATE (i + 64)) v) := by
  have hown : i % 128 = i := Nat.mod_eq_of_lt (Nat.lt_trans hi (by decide))
  refine ⟨s.get_put_ne v ?_, rfl⟩
  simp only [RegField.key, CHZ_LSTAT_STATE]
  omega

theorem State.restLane_partner_laneKept (s : State) {i : Nat} (hi : i < 64) : LaneKept i s (s.restLane (i + 64)) := by
  unfold State.restLane
  extract_lets rested
  have hrested : LaneKept i s rested := s.put_partner_laneKept _ hi
  split
  · exact hrested.trans (rested.refreshProfile_laneKept (by omega))
  · exact hrested

theorem State.openLane_partner_laneKept (s : State) (frames : Nat) {i : Nat} (hi : i < 64) :
    LaneKept i s (State.openLane frames s (i + 64)) := by
  unfold State.openLane
  extract_lets l opened st
  have hopened : LaneKept i s opened := s.setLane_laneKept _ (by omega)
  split
  · exact hopened
  split
  · exact hopened.trans (opened.put_partner_laneKept _ hi)
  · exact (hopened.trans (opened.put_partner_laneKept _ hi)).trans (State.refreshProfile_laneKept _ (by omega))

theorem State.closeLane_partner_laneKept (s : State) {i : Nat} (hi : i < 64) : LaneKept i s (s.closeLane (i + 64)) := by
  unfold State.closeLane
  extract_lets l closed
  have hclosed : LaneKept i s closed := s.setLane_laneKept _ (by omega)
  split
  · exact hclosed.trans (closed.restLane_partner_laneKept hi)
  · exact hclosed

/-- Over the lanes of a window its own lane is served first, and the partner leaves it alone (R90). -/
theorem State.foldl_windowLanes_laneKept {g : State → Nat → State} (s : State) (i : Nat)
    (hg : i < 64 → ∀ z, LaneKept i z (g z (i + 64))) (z : State) : LaneKept i (g z i) ((s.windowLanes i).foldl g z) := by
  unfold State.windowLanes
  split
  · rename_i htwin
    obtain ⟨-, hi⟩ := (Bool.and_eq_true _ _).mp htwin
    exact hg (of_decide_eq_true hi) _
  · exact LaneKept.refl i _

/-! Windows open and close. -/

/-- R79: an unblanked lane in no frame searches once its window opens. -/
theorem State.openLane_searches (frames : Nat) {s : State} {i : Nat} (hclear : (s.lane i).blanked = false)
    (hfree : s.laneState i ≠ laneFrame) : (State.openLane frames s i).laneState i = laneSearch ∧
      ((State.openLane frames s i).lane i).window = true := by
  unfold State.openLane
  extract_lets l opened st
  have hlane : opened.lane i = { s.lane i with window := true, framesLeft := frames } :=
    (s.lane_setLane i i _).trans (if_pos rfl)
  rw [if_neg (show ¬ st = laneFrame from hfree), if_neg (by rw [hlane]; simpa [Lane.blanked] using hclear)]
  refine ⟨opened.get_put_self (CHZ_LSTAT_STATE i) laneSearch, ?_⟩
  rw [State.refreshProfile, State.lane_setLane, if_pos rfl]
  show (opened.lane i).window = true
  rw [hlane]

/-- The lanes of a window open, and its own lane searches whatever its partner does (R90). -/
theorem State.openLanes_search (frames : Nat) {s : State} {i : Nat} (hclear : (s.lane i).blanked = false)
    (hfree : s.laneState i ≠ laneFrame) : ((s.windowLanes i).foldl (State.openLane frames) s).laneState i = laneSearch ∧
      (((s.windowLanes i).foldl (State.openLane frames) s).lane i).window = true := by
  have hkept := s.foldl_windowLanes_laneKept i (fun hi z => z.openLane_partner_laneKept frames hi) s
  rw [hkept.state, hkept.lane]
  exact State.openLane_searches frames hclear hfree

theorem State.laneState_restLane (s : State) (i : Nat) :
    (s.restLane i).laneState i = (if (s.lane i).blanked then laneBlanked else s.restState i) % 2 ^ 3 := by
  unfold State.restLane State.laneState
  extract_lets rested
  split <;> exact s.get_put_self (CHZ_LSTAT_STATE i) _

theorem State.window_restLane (s : State) (i : Nat) : ((s.restLane i).lane i).window = (s.lane i).window := by
  unfold State.restLane
  extract_lets rested
  split
  · rw [State.refreshProfile, State.lane_setLane, if_pos rfl]
    rfl
  · rfl

/-- R79: a searching, enabled lane outside SCAN goes idle when its window closes. -/
theorem State.closeLane_idles {s : State} {i : Nat} (hen : s.laneEn i = true) (hclear : (s.lane i).blanked = false)
    (hsearch : s.laneState i = laneSearch) (hscan : s.scanning i = false) :
    (s.closeLane i).laneState i = laneIdle ∧ ((s.closeLane i).lane i).window = false := by
  unfold State.closeLane
  extract_lets l closed
  have hlane : closed.lane i = { s.lane i with window := false, framesLeft := 0 } :=
    (s.lane_setLane i i _).trans (if_pos rfl)
  have hrest : closed.restState i = laneIdle := by
    have henClosed : closed.laneEn i = true := hen
    have hscanClosed : closed.scanning i = false := hscan
    simp [State.restState, henClosed, hscanClosed, hlane]
  have hclearClosed : (closed.lane i).blanked = false := by
    rw [hlane]
    exact hclear
  rw [if_pos (show closed.laneState i = laneSearch from hsearch)]
  constructor
  · rw [State.laneState_restLane, hclearClosed, hrest]
    rfl
  · rw [State.window_restLane, hlane]

/-- R79, R149: a waiting window opens on its lane. -/
theorem rxWindowOpen_opens {lane : Fin 128} {w : RxWindow} {s : State}
    (hwin : s.slot.windows.find? (fun v => v.lane == lane.val && !v.isOpen && !v.closed) = some w)
    (hen : s.laneEn lane = true) (hclear : (s.lane lane).blanked = false) (hfree : s.laneState lane ≠ laneFrame) :
    completes (.rxWindowOpen lane) s fun t => t.laneState lane = laneSearch ∧ (t.lane lane).window = true := by
  have hexec : execRxWindowOpen lane s =
      goOn (((s.setWindow { w with isOpen := true }).windowLanes lane).foldl
        (State.openLane (s.setWindow { w with isOpen := true }).winFrames) (s.setWindow { w with isOpen := true })) := by
    unfold execRxWindowOpen
    simp [hwin, hen]
  have hset := (s.setWindow_moves { w with isOpen := true }).laneKept rfl rfl lane
  refine completes_of_goOn hexec (State.openLanes_search _ ?_ ?_)
  · rw [hset.lane, hclear]
  · rw [hset.state]
    exact hfree

theorem State.halfReturn_laneKept (s : State) (h i : Nat) : LaneKept i s (s.halfReturn h) := by
  have hpath : ∀ p c, LaneKept i s (s.setPath p c) := fun p c => by cases p <;> exact ⟨rfl, rfl⟩
  unfold State.halfReturn
  extract_lets mode
  split
  · split
    · exact hpath _ _
    split
    · exact LaneKept.refl i s
    · exact hpath _ _
  · exact LaneKept.refl i s

/-- R79, R149; that the window closes in this step, its frames still in the pipeline or not, is the model's choice (log
entry 21). -/
theorem rxWindowClose_closes {lane : Fin 128} {w : RxWindow} {s : State}
    (hwin : s.slot.windows.find? (fun v => v.lane == lane.val && v.isOpen && !v.closed && v.ackOf.isNone) = some w)
    (hen : s.laneEn lane = true) (hclear : (s.lane lane).blanked = false) (hsearch : s.laneState lane = laneSearch)
    (hscan : s.scanning lane = false) :
    completes (.rxWindowClose lane) s fun t => t.laneState lane = laneIdle ∧ (t.lane lane).window = false := by
  show ∃ t, execRxWindowClose lane s = .next t ∧ _
  unfold execRxWindowClose
  simp -zeta only [hwin]
  extract_lets closed busy shut v judged
  have hjudged : LaneKept lane shut judged := by
    unfold judged
    split
    · exact LaneKept.refl _ _
    · exact ((shut.emptyWindow_moves w).laneKept rfl rfl lane).trans ((State.setWindow_moves _ _).laneKept rfl rfl lane)
  have hshut : LaneKept lane (s.closeLane lane) shut :=
    (s.foldl_windowLanes_laneKept lane (fun hi z => z.closeLane_partner_laneKept hi) s).trans
      ((closed.setWindow_moves _).laneKept rfl rfl lane)
  obtain ⟨hstate, hwindow⟩ := State.closeLane_idles hen hclear hsearch hscan
  have hkept : LaneKept lane (s.closeLane lane) (if w.detected = 0 then judged.halfReturn (lane.val / 64) else judged) := by
    split
    · exact (hshut.trans hjudged).trans (judged.halfReturn_laneKept _ _)
    · exact hshut.trans hjudged
  exact ⟨_, rfl, hkept.state.trans hstate, by rw [hkept.lane, hwindow]⟩

/-- Settles O7: a profile write, a write of TWIN_EN, a rebuilt map and a lane's window, each by its own lemma. What follows
with no program running and when a window closes is the model's choice (log entries 23 and 21). -/
theorem receiveProfilesTwinMapAndWindows : Obligations.ReceiveProfilesTwinMapAndWindows := by
  unfold Obligations.ReceiveProfilesTwinMapAndWindows
  exact ⟨fun _ _ _ => rxProfileWrite_legal, fun _ _ _ => rxProfileWrite_illegal, fun _ _ => twinEnWrite_conc,
    fun _ => twinEnWrite_node, fun _ => channelMapRebuild_idle, fun _ _ _ => rxWindowOpen_opens,
    fun _ _ _ => rxWindowClose_closes⟩

end Sys2Proof.Machine

/-! ## The transmit pipeline: stages 9 to 12 form a frame -/
namespace Sys2Proof.Machine

/-! A transmission under the operations of a stage. -/

theorem State.txUnit_moveTx (s : State) (u : TxUnit) : (s.moveTx u).txUnit u.id = some u := by
  have hgone : (s.removeTx u.id).slot.tx.find? (fun v => v.id == u.id) = none := s.txUnit_removeTx u.id
  show List.find? _ ((s.removeTx u.id).slot.tx ++ [u]) = some u
  rw [List.find?_append, hgone]
  simp

theorem State.txUnit_accepted (s : State) (st id : Nat) : (s.accepted st).txUnit id = s.txUnit id := by
  unfold State.accepted
  extract_lets n slot counted
  split <;> rfl

theorem State.passTx_eq {s : State} {u : TxUnit} (hinj : s.injected u.stage = false) (charge : Nat) :
    s.passTx u charge =
      ((s.handedOn u.stage charge).moveTx { u with stage := u.stage + 1 }).accepted (u.stage + 1) := by
  unfold State.passTx
  rw [hinj]
  rfl

/-- A transmission handed on is at the next stage (R130). -/
theorem State.txUnit_passTx {s : State} {u : TxUnit} {st unit : Nat} (charge : Nat) (hid : u.id = unit) (hstage : u.stage = st)
    (hinj : s.injected st = false) : (s.passTx u charge).txUnit unit = some { u with stage := st + 1 } := by
  subst hid hstage
  rw [State.passTx_eq hinj, State.txUnit_accepted]
  exact State.txUnit_moveTx _ { u with stage := u.stage + 1 }

theorem State.passTx_mac {s : State} {u : TxUnit} {st : Nat} (charge : Nat) (hstage : u.stage = st)
    (hinj : s.injected st = false) : (s.passTx u charge).mac = s.mac := by
  subst hstage
  rw [State.passTx_eq hinj, (State.accepted_moves _ _).1 .mac rfl, (State.moveTx_moves _ _).1 .mac rfl,
    (State.handedOn_moves _ _ _).1 .mac rfl]

/-- The transmission that a stage can complete is the one named, and stands at that stage. -/
theorem State.of_txReady {s : State} {st unit charge : Nat} {u : TxUnit} (h : s.txReady st unit charge = some u) :
    u.id = unit ∧ u.stage = st := by
  unfold State.txReady at h
  split at h
  · cases h
  rename_i v hunit
  obtain ⟨⟨hstage, -⟩, hsame⟩ := Option.ite_none_right_eq_some.mp h
  cases hsame
  exact ⟨by simpa using List.find?_some hunit, hstage⟩

/-- A transmission that ends is in the pipeline no more, its descriptor completed or waiting again. -/
theorem State.txUnit_endTx (s : State) {u : TxUnit} (hkind : u.kind ≠ .legacy) (status : Nat) :
    (s.endTx u status).txUnit u.id = none := by
  have hgone := s.txUnit_removeTx u.id
  have hstored : ∀ d v, ((s.removeTx u.id).setDesc d 17 1 v).txUnit u.id = none := fun d v =>
    (State.txUnit_congr (congrArg SlotEngine.tx ((State.setDesc_moves _ _ _ _ _).1 .slot rfl)) _).trans hgone
  unfold State.endTx
  extract_lets removed
  split
  · rw [State.txUnit_finishDesc, hgone]
  · split
    · exact hstored _ _
    · rw [State.txUnit_finishDesc, hgone]
  · rename_i hlegacy
    exact absurd hlegacy hkind
  · exact hgone

/-! The entry that DEQUEUE takes (R171). -/

theorem mem_of_bestEntry {queue : Nat} {ctx : Option Nat} {shared : Bool} {q : List QEntry} {e : QEntry}
    (h : bestEntry queue ctx shared q = some e) : e ∈ q := by
  unfold bestEntry at h
  refine List.foldlRecOn (motive := fun best => ∀ x, best = some x → x ∈ q) _ _ (by simp) (fun best hbest y hy x hx => ?_) e h
  have hyq : y ∈ q := (List.mem_filter.mp hy).1
  cases best with
  | none =>
    cases hx
    exact hyq
  | some b =>
    have hx : (if y.cls < b.cls then some y else some b) = some x := hx
    split at hx
    · cases hx
      exact hyq
    · exact hbest x hx

/-- Where the replacement keeps what is looked for, the element found is the one replaced. -/
theorem find?_updateFirst {α : Type} {p : α → Bool} {f : α → α} (hf : ∀ x, p (f x) = p x) (l : List α) :
    (updateFirst p f l).find? p = (l.find? p).map f := by
  induction l with
  | nil => rfl
  | cons x l ih =>
    unfold updateFirst
    cases hp : p x with
    | true => simp [hp, hf]
    | false => simp [hp, ih]

/-- An entry whose frame is on its way (R171). -/
def QEntry.marked (e : QEntry) : QEntry := { e with busy := true }

/-- The entry of descriptor `d` is busy (R171). -/
def State.markBusy (s : State) (d : Nat) : State :=
  { s with mac := { s.mac with queue := updateFirst (fun x => x.desc == d) QEntry.marked s.mac.queue } }

theorem State.busy_markBusy {s : State} {e : QEntry} (he : e ∈ s.mac.queue) :
    ((s.markBusy e.desc).mac.queue.find? fun x => x.desc == e.desc).map QEntry.busy = some true := by
  obtain ⟨x, hx⟩ := Option.isSome_iff_exists.mp
    (List.find?_isSome.mpr ⟨e, he, beq_self_eq_true e.desc⟩ : (s.mac.queue.find? fun x => x.desc == e.desc).isSome)
  show ((updateFirst (fun x => x.desc == e.desc) QEntry.marked s.mac.queue).find? _).map _ = _
  rw [find?_updateFirst (f := QEntry.marked) (fun _ => rfl), hx]
  rfl

/-! BUILD and ENCODE fill in fields of a unit (R177, R97) and leave those that tell it apart. -/

/-- `v` is the unit `u` at the same stage, of the same kind, and extended where `u` is. -/
structure SameUnit (u v : TxUnit) : Prop where
  id : v.id = u.id
  stage : v.stage = u.stage
  kind : v.kind = u.kind
  extended : v.extended = u.extended

theorem State.built_sameUnit (s : State) (u : TxUnit) : SameUnit u (s.built u).1 := by
  unfold State.built
  split <;> exact ⟨rfl, rfl, rfl, rfl⟩

/-- `State.encoded` is unfolded as a function, without its arguments: compared with its body at `s` and `u`, the kernel would
evaluate the profile word of `s`; `dsimp -zeta -iota only` applies the function to them and does nothing else. -/
theorem State.encoded_sameUnit (s : State) (u : TxUnit) : SameUnit u (s.encoded u) := by
  generalize hf : State.encoded = f
  delta State.encoded at hf
  subst hf
  dsimp -zeta -iota only
  extract_lets w octets
  split
  exact ⟨rfl, rfl, rfl, rfl⟩

/-! What SECURE reads of the state to form the frame and hand it on (R188, R189) stays while it charges the key (R194) and
takes the frame counter (R191). -/

/-- In `t` a unit is secured under each key and handed on as in `s`. -/
structure SecuresAs (s t : State) : Prop where
  slot : t.slot = s.slot
  mode : t.mode = s.mode
  image : ∀ k, (t.key k).image = (s.key k).image
  ownExt : t.ownExt = s.ownExt

theorem SecuresAs.refl (s : State) : SecuresAs s s := ⟨rfl, rfl, fun _ => rfl, rfl⟩

theorem SecuresAs.trans {r s t : State} (h : SecuresAs r s) (g : SecuresAs s t) : SecuresAs r t :=
  ⟨g.slot.trans h.slot, g.mode.trans h.mode, fun k => (g.image k).trans (h.image k), g.ownExt.trans h.ownExt⟩

theorem SecuresAs.injected {s t : State} (h : SecuresAs s t) (st : Nat) : t.injected st = s.injected st :=
  State.injected_congr h.slot h.mode st

theorem Moves.ownExt_eq {m : Nat} {s t : State} (h : Moves m s t) (hm : m.testBit 32 = false) : t.ownExt = s.ownExt := by
  unfold State.ownExt
  rw [h.get_eq MAC_EXT_L_EXT_block (by decide) hm, h.get_eq MAC_EXT_H_EXT_block (by decide) hm]

theorem State.key_congr {s t : State} (h : t.sec = s.sec) (k : Nat) : t.key k = s.key k := by
  unfold State.key
  rw [h]

/-- Charging a key and changing its state leave its image. -/
theorem State.setKey_securesAs (s : State) {i : Nat} {k : KeySlot} (himage : k.image = (s.key i).image) :
    SecuresAs s (s.setKey i k) := by
  refine ⟨rfl, rfl, fun j => ?_, rfl⟩
  have hread : (s.setKey i k).key j = if j = i then k else s.key j := Sparse.read_write _ _ _ _ _
  rw [hread]
  split
  · rename_i hj
    rw [hj, himage]
  · rfl

theorem State.raise_securesAs (s : State) (n : Nat) : SecuresAs s (s.raise n) :=
  ⟨s.raise_slot n, (s.raise_steady n).mode, fun k => by rw [State.key_congr ((s.raise_moves n).1 .sec rfl)],
    (s.raise_moves n).ownExt_eq rfl⟩

theorem State.exhaust_securesAs (s : State) (i : Nat) : SecuresAs s (s.exhaust i) := by
  have hkey : SecuresAs s (s.setKey i { s.key i with state := .exhausted }) := s.setKey_securesAs rfl
  unfold State.exhaust
  exact hkey.trans (State.raise_securesAs _ 66)

theorem State.charged_securesAs (s : State) (i b : Nat) (transmit : Bool) : SecuresAs s (s.charged i b transmit).2 := by
  have hcount : SecuresAs s (s.setKey i { s.key i with count := (s.key i).count + b }) := s.setKey_securesAs rfl
  unfold State.charged
  extract_lets k counted
  split
  · exact SecuresAs.refl s
  · exact SecuresAs.refl s
  · exact SecuresAs.refl s
  split
  · exact s.exhaust_securesAs i
  · dsimp only
    split
    · exact hcount.trans (State.exhaust_securesAs _ i)
    · exact hcount

theorem State.takeFc_securesAs (s : State) (u : TxUnit) (k : Nat) : SecuresAs s (s.takeFc u k).2 := by
  have hkey : SecuresAs s (s.setKey k { s.key k with txfc := (s.key k).txfc + 1 }) := s.setKey_securesAs rfl
  unfold State.takeFc
  split
  · exact SecuresAs.refl s
  · exact hkey.trans ⟨rfl, rfl, fun _ => rfl, rfl⟩

/-- A transmission whose checks pass has been charged and its counter taken (R494). -/
theorem State.txSecureStart_securesAs {s : State} {u : TxUnit} {k fc : Nat} (h : (s.txSecureStart u).1 = some (k, fc)) :
    SecuresAs s (s.txSecureStart u).2 := by
  generalize hstart : s.txSecureStart u = r at h ⊢
  unfold State.txSecureStart at hstart
  split at hstart
  case h_2 =>
    subst hstart
    cases h
  rename_i c k' _ _
  split at hstart
  · subst hstart
    cases h
  split at hstart
  · subst hstart
    cases h
  split at hstart
  rename_i st charged hcharged
  split at hstart
  · subst hstart
    cases h
  subst hstart
  have hcharge := s.charged_securesAs k' (ccmBlocks (decide (4 < u.level)) u.hdrLen (u.octets.length - u.hdrLen)) true
  rw [hcharged] at hcharge
  exact hcharge.trans (charged.takeFc_securesAs u k')

section stage
variable {unit charge : Nat} {u : TxUnit} {s : State}

/-! DEQUEUE. -/

/-- R171: the eligible entry of lowest class goes on, busy, with the fields of its descriptor. -/
theorem dequeueStage_takes {e : QEntry} (hready : (s.atStage 9).head?.bind (fun id => s.txReady 9 id charge) = some u)
    (hkind : u.kind = .data) (hinj : s.injected 9 = false) (hbest : bestEntry u.queue u.ctx u.shared s.mac.queue = some e)
    (hclean : s.poisonedIn (descAddr e.desc) 32 = false) :
    completes (.dequeueStage charge) s fun t => t.txUnit u.id = some { s.withDesc u e.desc with stage := 10 } ∧
      (t.mac.queue.find? (fun x => x.desc == e.desc)).map QEntry.busy = some true := by
  obtain ⟨id, -, hid⟩ := Option.bind_eq_some_iff.mp hready
  obtain ⟨-, hstage⟩ := State.of_txReady hid
  have hexec : execDequeueStage charge s = goOn ((s.markBusy e.desc).passTx (s.withDesc u e.desc) charge) := by
    unfold execDequeueStage
    simp only [hready, hkind, hbest, hclean, Bool.false_eq_true, if_false]
    rfl
  refine completes_of_goOn hexec ⟨State.txUnit_passTx charge rfl hstage hinj, ?_⟩
  rw [State.passTx_mac (s := s.markBusy e.desc) (u := s.withDesc u e.desc) charge hstage hinj]
  exact State.busy_markBusy (mem_of_bestEntry hbest)

theorem dequeueStage_empty (hready : (s.atStage 9).head?.bind (fun id => s.txReady 9 id charge) = some u)
    (hkind : u.kind = .data) (hbest : bestEntry u.queue u.ctx u.shared s.mac.queue = none) :
    completes (.dequeueStage charge) s fun t => t.txUnit u.id = none := by
  have hexec : execDequeueStage charge s = goOn (s.removeTx u.id) := by
    unfold execDequeueStage
    simp only [hready, hkind, hbest]
  exact completes_of_goOn hexec (s.txUnit_removeTx u.id)

/-! BUILD. -/

/-- R177: a unit with no poisoned descriptor or data gets its frame. -/
theorem buildStage_forms (hready : s.txReady 10 unit charge = some u) (hinj : s.injected 10 = false)
    (hclean : u.desc.all (fun d => !s.descPoisoned d) = true) :
    completes (.buildStage unit charge) s fun t => t.txUnit unit = some { (s.built u).1 with stage := 11 } := by
  obtain ⟨hid, hstage⟩ := State.of_txReady hready
  have hexec : execBuildStage unit charge s = goOn ((s.built u).2.passTx (s.built u).1 charge) := by
    unfold execBuildStage
    simp only [hready]
    cases hdesc : u.desc with
    | none => rfl
    | some d =>
      have hd : s.descPoisoned d = false := by simpa [hdesc] using hclean
      simp only [hd, Bool.false_eq_true, if_false]
  have hsame := s.built_sameUnit u
  have hinjBuilt : (s.built u).2.injected 10 = false := by
    have hmoves := s.built_moves u
    rw [State.injected_congr (hmoves.1 .slot rfl) (hmoves.steady rfl rfl).mode, hinj]
  exact completes_of_goOn hexec (State.txUnit_passTx charge (hsame.id.trans hid) (hsame.stage.trans hstage) hinjBuilt)

/-- R317: a poisoned descriptor or data word completes the descriptor INVALID. -/
theorem buildStage_poisoned {d : Nat} (hready : s.txReady 10 unit charge = some u) (hkind : u.kind = .data)
    (hdesc : u.desc = some d) (hpoisoned : s.descPoisoned d = true) :
    completes (.buildStage unit charge) s fun t => t.txUnit unit = none ∧ t.event 56 = true := by
  obtain ⟨rfl, -⟩ := State.of_txReady hready
  have hexec : execBuildStage u.id charge s = goOn (s.endTx u 0xF) := by
    unfold execBuildStage
    simp only [hready, hdesc, hpoisoned, if_true]
  refine completes_of_goOn hexec ⟨s.txUnit_endTx (by simp [hkind]) _, ?_⟩
  rw [s.endTx_data hkind hdesc, State.event_finishDesc]

/-! SECURE. -/

theorem secureTxStage_unsecured (hready : s.txReady 11 unit charge = some u) (hinj : s.injected 11 = false)
    (hplain : u.secure = false) :
    completes (.secureTxStage unit charge) s fun t => t.txUnit unit = some { u with stage := 12 } := by
  obtain ⟨hid, hstage⟩ := State.of_txReady hready
  have hexec : execSecureTxStage unit charge s = goOn (s.passTx u charge) := by
    unfold execSecureTxStage
    simp only [hready, hplain, Bool.not_false, if_true]
  exact completes_of_goOn hexec (State.txUnit_passTx charge hid hstage hinj)

/-- R188, R191: the octets are secured under the frame counter taken, with the key's image and the address from before. -/
theorem secureTxStage_secures {k fc : Nat} (hready : s.txReady 11 unit charge = some u) (hinj : s.injected 11 = false)
    (hsecure : u.secure = true) (hkey : s.txKey u = some k) (hfree : s.keyWaits k (some unit) none = false)
    (hstart : (s.txSecureStart u).1 = some (k, fc)) :
    completes (.secureTxStage unit charge) s fun t =>
      t.txUnit unit = some { u with octets := secureOctets (s.key k).image s.ownExt u fc, stage := 12 } := by
  obtain ⟨hid, hstage⟩ := State.of_txReady hready
  obtain ⟨started, hstarted⟩ : ∃ t, s.txSecureStart u = (some (k, fc), t) := ⟨_, Prod.ext hstart rfl⟩
  have hsame := State.txSecureStart_securesAs hstart
  rw [hstarted] at hsame
  have hexec : execSecureTxStage unit charge s =
      goOn (started.passTx { u with octets := secureOctets (s.key k).image s.ownExt u fc } charge) := by
    rw [← hsame.image k, ← hsame.ownExt]
    unfold execSecureTxStage
    simp only [hready, hsecure, hkey, hfree, hstarted, Bool.not_true, Bool.false_eq_true, if_false]
  exact completes_of_goOn hexec (State.txUnit_passTx charge hid hstage (by rw [hsame.injected, hinj]))

/-! ENCODE. -/

/-- R97: a native unit is encoded; R100, R101: one that is too long completes LENGTH. -/
theorem execEncodeStage_native (hready : s.txReady 12 unit charge = some u) (hkind : u.kind ≠ .legacy)
    (hshort : u.extended = false ∨ (s.encoded u).tooLong = true) :
    execEncodeStage unit charge s =
      goOn (if (s.encoded u).tooLong then s.endTx (s.encoded u) 9 else s.passTx (s.encoded u) charge) := by
  unfold execEncodeStage
  simp only [hready, hkind, false_and, if_false]
  rcases hshort with hplain | hlong
  · simp only [(s.encoded_sameUnit u).extended, hplain, Bool.false_and, Bool.false_eq_true, if_false]
    split <;> rfl
  · simp only [hlong, if_true]

theorem encodeStage_encodes (hready : s.txReady 12 unit charge = some u) (hinj : s.injected 12 = false)
    (hkind : u.kind ≠ .legacy) (hfits : (s.encoded u).tooLong = false) (hplain : u.extended = false) :
    completes (.encodeStage unit charge) s fun t => t.txUnit unit = some { s.encoded u with stage := 13 } := by
  obtain ⟨hid, hstage⟩ := State.of_txReady hready
  have hsame := s.encoded_sameUnit u
  refine completes_of_goOn (execEncodeStage_native hready hkind (.inl hplain)) ?_
  simp only [hfits, Bool.false_eq_true, if_false]
  exact State.txUnit_passTx charge (hsame.id.trans hid) (hsame.stage.trans hstage) hinj

theorem encodeStage_tooLong (hready : s.txReady 12 unit charge = some u) (hkind : u.kind ≠ .legacy)
    (hlong : (s.encoded u).tooLong = true) :
    completes (.encodeStage unit charge) s fun t => t.txUnit unit = none := by
  obtain ⟨rfl, -⟩ := State.of_txReady hready
  have hsame := s.encoded_sameUnit u
  refine completes_of_goOn (execEncodeStage_native hready hkind (.inr hlong)) ?_
  simp only [hlong, if_true]
  rw [← hsame.id]
  exact s.txUnit_endTx (by rwa [hsame.kind]) 9

end stage

/-- Settles O12: stages 9 to 12, each way that a stage can complete its unit by its own lemma. -/
theorem transmitStagesFormAFrame : Obligations.TransmitStagesFormAFrame := by
  unfold Obligations.TransmitStagesFormAFrame
  exact ⟨fun _ _ _ _ => dequeueStage_takes, fun _ _ _ => dequeueStage_empty, fun _ _ _ _ => buildStage_forms,
    fun _ _ _ _ _ => buildStage_poisoned, fun _ _ _ _ => secureTxStage_unsecured,
    fun _ _ _ _ _ _ => secureTxStage_secures, fun _ _ _ _ => encodeStage_encodes, fun _ _ _ _ => encodeStage_tooLong⟩

end Sys2Proof.Machine

/-! ## The program store: image writes and program commands -/
namespace Sys2Proof.Machine

/-! The buffers. -/

theorem State.standbyBuf_setStandby (s : State) (b : Sparse Byte) : (s.setStandby b).standbyBuf = b := by
  unfold State.standbyBuf State.setStandby
  by_cases hactive : s.on SLE_STATUS_ACTIVE_BUF = true
  · rw [if_pos hactive]
    exact if_pos hactive
  · rw [if_neg hactive]
    exact if_neg hactive

theorem State.standbyBuf_put (s : State) {f : RegField} (v : Nat) (hf : SLE_STATUS_ACTIVE_BUF.key ≠ f.key) :
    (s.put f v).standbyBuf = s.standbyBuf := by
  unfold State.standbyBuf State.on
  rw [s.get_put_ne v hf]
  rfl

theorem State.setStandby_fields (s : State) (b : Sparse Byte) : (s.setStandby b).fields = s.fields := by
  unfold State.setStandby
  split <;> rfl

theorem State.setStandby_armed (s : State) (b : Sparse Byte) : (s.setStandby b).slot.armed = s.slot.armed := by
  unfold State.setStandby
  split <;> rfl

theorem State.standby_setStandbyState (s : State) (x : Nat) : (s.setStandbyState x).standby = x % 2 ^ 3 :=
  s.get_put_self SLE_STATUS_STANDBY x

theorem State.standby_put (s : State) {f : RegField} (v : Nat) (hf : SLE_STATUS_STANDBY.key ≠ f.key) :
    (s.put f v).standby = s.standby := s.get_put_ne v hf

/-! Image writes. -/

/-- One octet of an image write, with its place in the write: beyond the buffer it is ignored (SLE_IMAGE). -/
def storeOctet (off : Nat) (b : Sparse Byte) (x : Byte × Nat) : Sparse Byte :=
  if off + x.2 < 73728 then Sparse.write 0 b (off + x.2) x.1 else b

/-- What the buffer holds after octets numbered from `n` were written. -/
theorem read_foldl_storeOctet (off : Nat) (bs : List Byte) (n : Nat) (b : Sparse Byte) {j : Nat} (hj : j < 73728) :
    Sparse.read 0 ((bs.zipIdx n).foldl (storeOctet off) b) j =
      if off + n ≤ j ∧ j < off + n + bs.length then bs.getD (j - (off + n)) 0 else Sparse.read 0 b j := by
  induction bs generalizing n b with
  | nil => rw [if_neg (by simp)]; rfl
  | cons c bs ih =>
    have hstore : Sparse.read 0 (storeOctet off b (c, n)) j = if j = off + n then c else Sparse.read 0 b j := by
      unfold storeOctet
      dsimp only
      split
      · exact Sparse.read_write _ _ _ _ _
      · rw [if_neg (by omega)]
    rw [List.zipIdx_cons, List.foldl_cons, ih, hstore, List.length_cons]
    rcases Nat.lt_trichotomy j (off + n) with hlt | heq | hgt
    · rw [if_neg (by omega), if_neg (by omega), if_neg (by omega)]
    · rw [if_neg (by omega), if_pos heq, if_pos (by omega), heq, Nat.sub_self]
      rfl
    · obtain ⟨k, rfl⟩ := Nat.exists_eq_add_of_lt hgt
      have hnext : off + n + k + 1 - (off + (n + 1)) = k := by omega
      have hthis : off + n + k + 1 - (off + n) = k + 1 := by omega
      rw [if_neg (by omega : off + n + k + 1 ≠ off + n), hnext, hthis, List.getD_cons_succ]
      exact ite_congr (propext (by omega)) (fun _ => rfl) (fun _ => rfl)

/-- R118: what an accepted image write leaves. -/
theorem imageWrite_taken (off : Nat) (bs : List Byte) {s : State} (hmode : s.mode ≠ modeCompat) (href : s.refFailed = false)
    (hchecking : s.standby ≠ sbChecking) (harmed : s.standby ≠ sbArmed) :
    completes (.imageWrite off bs) s fun t => t.standby = sbWritten ∧ t.get SLE_STATUS_WR_REJ = 0 ∧
      ∀ j : Fin 73728, Sparse.read 0 t.standbyBuf j =
        if off ≤ j.val ∧ j.val < off + bs.length then bs.getD (j.val - off) 0 else Sparse.read 0 s.standbyBuf j := by
  have hexec : execImageWrite off bs s = goOn
      (((s.setStandby (bs.zipIdx.foldl (storeOctet off) s.standbyBuf)).setStandbyState sbWritten).flag
        SLE_STATUS_WR_REJ false) := by
    unfold execImageWrite
    simp only [href, hmode, hchecking, harmed, Bool.false_eq_true, or_self, if_false]
    rfl
  refine completes_of_goOn hexec ⟨?_, State.get_flag_self _ _ _, fun j => ?_⟩
  · exact (State.standby_put _ _ (by decide)).trans (State.standby_setStandbyState _ _)
  · rw [State.flag, State.standbyBuf_put _ _ (by decide), State.setStandbyState, State.standbyBuf_put _ _ (by decide),
      State.standbyBuf_setStandby, read_foldl_storeOctet off bs 0 _ j.isLt]
    rfl

/-- R118: a write while STANDBY is CHECKING or ARMED. -/
theorem imageWrite_rejected (off : Nat) (bs : List Byte) {s : State} (hmode : s.mode ≠ modeCompat) (href : s.refFailed = false)
    (hbusy : s.standby = sbChecking ∨ s.standby = sbArmed) :
    completes (.imageWrite off bs) s fun t => t.get SLE_STATUS_WR_REJ = 1 ∧ t.standby = s.standby ∧
      t.standbyBuf = s.standbyBuf := by
  have hexec : execImageWrite off bs s = goOn (s.flag SLE_STATUS_WR_REJ true) := by
    unfold execImageWrite
    simp only [href, hmode, hbusy, Bool.false_eq_true, if_false, if_true]
  exact completes_of_goOn hexec ⟨State.get_flag_self _ _ _, s.standby_put _ (by decide), s.standbyBuf_put _ (by decide)⟩

/-! Program commands (R118). -/

theorem State.programCommand_taken {s : State} {ok : Bool} (f : State → State) (hmode : s.mode ≠ modeCompat)
    (href : s.refFailed = false) (hok : ok = true) : s.programCommand ok f = f s.cmdOk := by
  simp [State.programCommand, hmode, href, hok]

theorem State.programCommand_rejected {s : State} {ok : Bool} (f : State → State) (href : s.refFailed = false)
    (hok : ok = false) : s.programCommand ok f = s.cmdRej := by
  simp [State.programCommand, href, hok]

theorem State.get_cmdOk (s : State) {f : RegField} (hf : f.key ≠ SLE_STATUS_CMD_REJ.key) : s.cmdOk.get f = s.get f :=
  s.get_flag_ne false hf

/-- A rejected command sets CMD_REJ and leaves STANDBY. -/
theorem State.cmdRej_effect (s : State) : s.cmdRej.get SLE_STATUS_CMD_REJ = 1 ∧ s.cmdRej.standby = s.standby :=
  ⟨State.get_flag_self _ _ _, s.standby_put _ (by decide)⟩

/-- CMD_REJ stays as the command set it when STANDBY changes its state afterwards. -/
theorem State.cmdRej_setStandbyState {s z : State} (hz : z.fields = s.cmdOk.fields) (x : Nat) :
    (z.setStandbyState x).get SLE_STATUS_CMD_REJ = 0 := by
  rw [State.setStandbyState, State.get_put_ne _ _ (by decide), State.get_congr hz]
  exact State.get_flag_self _ _ _

section command
variable {s : State} (hmode : s.mode ≠ modeCompat) (href : s.refFailed = false)
include href

section taken
include hmode

/-- R118, R126, R144: LOAD. -/
theorem loadProgram_taken (who : Master) (hwritten : s.standby = sbWritten) :
    completes (.loadProgram who) s fun t => t.standby = sbChecking ∧ t.get SLE_STATUS_CMD_REJ = 0 ∧ t.slot.loadBy = who ∧
      t.slot.policy = s.get RFC_CALCFG_POLICY :=
  completes_of_goOn (congrArg goOn (State.programCommand_taken _ hmode href (beq_iff_eq.mpr hwritten)))
    ⟨State.standby_setStandbyState _ _, State.cmdRej_setStandbyState rfl _, rfl, s.get_cmdOk (by decide)⟩

/-- R143: ARM_SWAP takes the registers as they are at the command. -/
theorem armSwap_taken (hchecked : s.standby = sbChecked) (hmay : s.mayArm = true) :
    completes (.armSwap) s fun t => t.standby = sbArmed ∧ t.slot.armed = some (s.swapAsn, s.newAsn) ∧
      t.get SLE_STATUS_CMD_REJ = 0 := by
  refine completes_of_goOn (congrArg goOn (State.programCommand_taken _ hmode href (by simp [hchecked, hmay])))
    ⟨State.standby_setStandbyState _ _, ?_, State.cmdRej_setStandbyState rfl _⟩
  have hswap : s.cmdOk.swapAsn = s.swapAsn := by
    unfold State.swapAsn
    rw [s.get_cmdOk (by decide), s.get_cmdOk (by decide)]
  have hnew : s.cmdOk.newAsn = s.newAsn := by
    unfold State.newAsn
    rw [s.get_cmdOk (by decide), s.get_cmdOk (by decide)]
  rw [← hswap, ← hnew]
  rfl

theorem programCancel_taken (harmed : s.standby = sbArmed) :
    completes (.programCancel) s fun t => t.standby = sbChecked ∧ t.slot.armed = none := by
  have hdisarm : s.cmdOk.disarm = ({ s.cmdOk with slot := { s.cmdOk.slot with armed := none } }).setStandbyState sbChecked := by
    unfold State.disarm
    exact if_pos ((s.get_cmdOk (by decide)).trans harmed)
  refine completes_of_goOn (congrArg goOn (State.programCommand_taken _ hmode href (beq_iff_eq.mpr harmed))) ?_
  rw [hdisarm]
  exact ⟨State.standby_setStandbyState _ _, rfl⟩

theorem programClear_taken (hidle : s.standby ≠ sbChecking) :
    completes (.programClear) s fun t => t.standby = sbEmpty ∧ t.standbyBuf = [] ∧ t.slot.armed = none := by
  refine completes_of_goOn (congrArg goOn (State.programCommand_taken _ hmode href (bne_iff_ne.mpr hidle)))
    ⟨State.standby_setStandbyState _ _, ?_, State.setStandby_armed _ _⟩
  exact (State.standbyBuf_put _ _ (by decide)).trans (State.standbyBuf_setStandby _ _)

theorem programStop_taken (hrunning : s.running = true) :
    completes (.programStop) s fun t => t.get SLE_STATUS_STOP_PEND = 1 :=
  completes_of_goOn (congrArg goOn (State.programCommand_taken _ hmode href hrunning)) (State.get_flag_self _ _ _)

end taken

theorem loadProgram_rejected (who : Master) (hother : s.standby ≠ sbWritten) :
    completes (.loadProgram who) s fun t => t.get SLE_STATUS_CMD_REJ = 1 ∧ t.standby = s.standby :=
  completes_of_goOn (congrArg goOn (State.programCommand_rejected _ href (beq_eq_false_iff_ne.mpr hother))) s.cmdRej_effect

theorem armSwap_rejected (hother : s.standby ≠ sbChecked) :
    completes (.armSwap) s fun t => t.get SLE_STATUS_CMD_REJ = 1 ∧ t.standby = s.standby :=
  completes_of_goOn (congrArg goOn (State.programCommand_rejected _ href (by simp [hother]))) s.cmdRej_effect

end command

/-! The end of the checks (R132). -/

/-- LOAD_CHECK ends with a result, its stage and detail, a state of STANDBY and an event. -/
def State.checkEnds (s : State) (result stage detail x n : Nat) : State :=
  ((((s.put SLE_LOADCHK_RESULT result).put SLE_LOADCHK_STAGE stage).put SLE_LOADCHK_DETAIL detail).setStandbyState x).raise n

theorem State.checkEnds_effect (s : State) (result stage detail x n : Nat) :
    (s.checkEnds result stage detail x n).standby = x % 2 ^ 3 ∧ (s.checkEnds result stage detail x n).event n = true ∧
    (s.checkEnds result stage detail x n).get SLE_LOADCHK_RESULT = result % 256 := by
  refine ⟨?_, State.event_raise _ _, ?_⟩
  · exact ((State.raise_moves _ n).get_eq SLE_STATUS_STANDBY_block (by decide) rfl).trans (State.standby_setStandbyState _ _)
  · rw [State.checkEnds, (State.raise_moves _ n).get_eq SLE_LOADCHK_RESULT_block (by decide) rfl, State.setStandbyState,
      State.get_put_ne _ _ (by decide), State.get_put_ne _ _ (by decide), State.get_put_ne _ _ (by decide), State.get_put_self]
    rfl

theorem loadCheckDone_effect {r : Option LoadResult} {s : State} (hchecking : s.standby = sbChecking)
    (hcheck : s.loadCheck s.standbyBuf = r) :
    completes (.loadCheckDone) s fun t => t.standby = (if r.isNone then sbChecked else sbRefused) ∧
      t.event (if r.isNone then 49 else 50) = true ∧ t.get SLE_LOADCHK_RESULT = (r.map LoadResult.code).getD 0 % 256 := by
  cases r with
  | none =>
    refine completes_of_goOn ?_ (s.checkEnds_effect 0 0 0 sbChecked 49)
    show execLoadCheckDone s = _
    unfold execLoadCheckDone
    simp only [hchecking, hcheck, ne_eq, not_true_eq_false, if_false]
    rfl
  | some r =>
    refine completes_of_goOn ?_ (s.checkEnds_effect r.code r.stage r.detail sbRefused 50)
    show execLoadCheckDone s = _
    unfold execLoadCheckDone
    simp only [hchecking, hcheck, ne_eq, not_true_eq_false, if_false]
    rfl

/-! Reads with an effect (R146). -/

theorem dropPop_effect (s : State) : completes (.dropPop) s fun t => t.slot.dropLog = s.slot.dropLog.drop 1 ∧
    (t.slot.dropLog = [] → t.get SLE_DROPSTAT_LOST = 0) := by
  refine ⟨_, rfl, ?_⟩
  dsimp only
  split
  · exact ⟨rfl, fun _ => State.get_put_self _ _ _⟩
  · rename_i hleft
    exact ⟨rfl, fun hempty => absurd (List.isEmpty_iff.mpr hempty) hleft⟩

theorem State.asn_lt (s : State) : s.asn < 2 ^ 40 := by
  unfold State.asn
  split
  · decide
  · exact Nat.mod_lt _ (by decide)

theorem asnLRead_effect (s : State) : completes (.asnLRead) s fun t => t.get SLE_ASN_H_ASN_H = s.asn / 2 ^ 32 := by
  refine ⟨_, rfl, (State.get_put_self _ _ _).trans (Nat.mod_eq_of_lt ?_)⟩
  have hasn := s.asn_lt
  show s.asn / 2 ^ 32 < 2 ^ 8
  omega

/-- Settles O14: each command of the program store by its own lemmas, taken and rejected. -/
theorem programStoreCommands : Obligations.ProgramStoreCommands := by
  unfold Obligations.ProgramStoreCommands
  exact ⟨fun off bs _ => imageWrite_taken off bs, fun off bs _ => imageWrite_rejected off bs,
    fun who _ hmode href => loadProgram_taken hmode href who, fun who _ _ href => loadProgram_rejected href who,
    fun _ _ => loadCheckDone_effect, fun _ => armSwap_taken, fun _ _ => armSwap_rejected, fun _ => programCancel_taken,
    fun _ => programClear_taken, fun _ => programStop_taken, dropPop_effect, asnLRead_effect⟩

end Sys2Proof.Machine

/-! ## The receive pipeline: stages 5 to 8 decide about a frame and commit it, and LATE drops a unit -/
namespace Sys2Proof.Machine

/-! What a test injection at a stage depends on (R142), under the operations of a stage. -/

theorem State.injected_bump (s : State) {f : RegField} (hf : PRC_MODE_MODE.key ≠ f.key) (st : Nat) :
    (s.bump f).injected st = s.injected st := State.injected_congr (s := s) (t := s.bump f) rfl (s.get_bump_ne hf) st

theorem State.authFailed_mode (s : State) : s.authFailed.mode = s.mode := by
  unfold State.authFailed
  rw [(State.raise_steady _ 65).mode]
  exact s.get_bump_ne (by decide)

/-- A frame that the security checks pass on is the same unit at the same stage; the mode stays (R494). -/
theorem State.secureRx_pass {s : State} {c : Nat} {u v : RxUnit} (h : (s.secureRx c u).1 = .pass v) :
    v.id = u.id ∧ v.stage = u.stage ∧ (s.secureRx c u).2.mode = s.mode := by
  generalize hchecked : s.secureRx c u = r at h ⊢
  unfold State.secureRx at hchecked
  split at hchecked
  · subst hchecked
    cases h
    exact ⟨rfl, rfl, rfl⟩
  rename_i k _
  split at hchecked
  · subst hchecked
    cases h
  extract_lets keyed at hchecked
  split at hchecked
  · subst hchecked
    cases h
    exact ⟨rfl, rfl, s.authFailed_mode⟩
  split at hchecked
  rename_i st charged hcharged
  have hmode : charged.mode = s.mode := by
    have hcharge := (s.charged_securesAs k keyed.blocks false).mode
    rwa [hcharged] at hcharge
  split at hchecked
  · subst hchecked
    cases h
  split at hchecked
  subst hchecked
  cases h
  refine ⟨rfl, rfl, ?_⟩
  dsimp only
  split
  · exact hmode
  · exact charged.authFailed_mode.trans hmode

theorem State.secureRx_injected {s : State} {c : Nat} {u v : RxUnit} (h : (s.secureRx c u).1 = .pass v) (st : Nat) :
    (s.secureRx c u).2.injected st = s.injected st := by
  obtain ⟨-, -, hmode⟩ := State.secureRx_pass h
  exact State.injected_congr ((s.secureRx_moves c u).1 .slot rfl) hmode st

/-! Register fields under a hand-off. -/

theorem State.get_handedOn (s : State) (st charge : Nat) {f : RegField} (hdone : f.key ≠ (SLE_SDONE_DONE st).key)
    (hpeak : f.key ≠ (SLE_SPEAK_PEAK_CHARGE st).key) : (s.handedOn st charge).get f = s.get f := by
  unfold State.handedOn
  extract_lets counted
  split
  · exact (counted.get_put_ne _ hpeak).trans (s.get_bumpWrap_ne hdone)
  · exact s.get_bumpWrap_ne hdone

theorem State.get_accepted (s : State) (st : Nat) {f : RegField} (hpeak : f.key ≠ (SLE_SPEAK_PEAK_UNITS st).key) :
    (s.accepted st).get f = s.get f := by
  unfold State.accepted
  extract_lets n slot counted
  split
  · exact counted.get_put_ne _ hpeak
  · rfl

theorem State.get_passRx {s : State} {u : RxUnit} {st : Nat} (charge : Nat) (hstage : u.stage = st)
    (hinj : s.injected st = false) {f : RegField} (hdone : f.key ≠ (SLE_SDONE_DONE st).key)
    (hcharge : f.key ≠ (SLE_SPEAK_PEAK_CHARGE st).key) (hunits : f.key ≠ (SLE_SPEAK_PEAK_UNITS (st + 1)).key) :
    (s.passRx u charge).get f = s.get f := by
  subst hstage
  rw [State.passRx_eq hinj, State.get_accepted _ _ hunits]
  exact s.get_handedOn _ charge hdone hcharge

/-! What the commit of a unit leaves of the delivery ring. -/

/-- WR and the blocks of the delivery ring are in `t` as in `s`. -/
structure RingKept (s t : State) : Prop where
  wr : t.get MAC_DQ_WR = s.get MAC_DQ_WR
  blocks : t.mac.dqBlocks = s.mac.dqBlocks

theorem RingKept.refl (s : State) : RingKept s s := ⟨rfl, rfl⟩

theorem RingKept.trans {r s t : State} (h : RingKept r s) (g : RingKept s t) : RingKept r t :=
  ⟨g.wr.trans h.wr, g.blocks.trans h.blocks⟩

/-- An operation that changes neither the medium access block nor what it keeps beside its registers. -/
theorem Moves.ringKept {m : Nat} {s t : State} (h : Moves m s t) (hregs : m.testBit 32 = false) (hmac : m.testBit 8 = false) :
    RingKept s t :=
  ⟨h.get_eq MAC_DQ_WR_block (by decide) hregs, congrArg Mac.dqBlocks (h.1 .mac hmac)⟩

theorem State.put_ringKept (s : State) {f : RegField} (v : Nat) (hf : MAC_DQ_WR.key ≠ f.key) : RingKept s (s.put f v) :=
  ⟨s.get_put_ne v hf, rfl⟩

theorem State.synced_ringKept (s : State) : RingKept s s.synced := by
  unfold State.synced
  rw [State.leaveScan_eq]
  exact (s.put_ringKept _ (by decide)).trans (((State.restFrom_moves _ _ _).ringKept rfl rfl).trans
    ((State.raise_moves _ 62).ringKept rfl rfl))

theorem State.setCtx_ringKept (s : State) (c off n v : Nat) : RingKept s (s.setCtx c off n v) :=
  (s.setCtx_moves c off n v).ringKept rfl rfl

/-- A time sample writes its context, and of what the medium access functions keep the pending correction at most (R162). -/
theorem State.timeSample_ringKept (s : State) (c t : Nat) (m : Int) (resync phase : Bool) :
    RingKept s (s.timeSample c t m resync phase) := by
  have hflag : ∀ (z : State) (b : Nat), RingKept z (z.setCtxFlag c b) := fun z b => (z.setCtxFlag_moves c b).ringKept rfl rfl
  unfold State.timeSample
  extract_lets par dt tref drift restart x r beta d sampled stored mac
  have hrestart : ∀ z : State, RingKept z (restart z) := fun z =>
    (z.setCtx_ringKept _ _ _ _).trans (State.setCtx_ringKept _ _ _ _ _)
  clear_value restart d
  have hsampled : RingKept s sampled := by
    unfold sampled
    split
    · exact hrestart s
    split
    · exact ((s.setCtx_ringKept c 28 4 _).trans (hflag _ 4)).trans (hrestart _)
    split
    · exact s.setCtx_ringKept c 60 4 _
    · exact RingKept.refl s
  have hstored : RingKept s stored := hsampled.trans ((sampled.setCtx_ringKept c 32 4 _).trans (hflag _ 11))
  clear_value sampled stored
  split
  · exact hstored.trans ⟨rfl, rfl⟩
  · exact hstored

theorem State.scanResync_ringKept (s : State) (c asn tSfd profile : Nat) : RingKept s (s.scanResync c asn tSfd profile) := by
  unfold State.scanResync
  extract_lets target m t b slot moved slot' counted
  have hcounted : RingKept s counted := ⟨rfl, rfl⟩
  exact hcounted.trans ((counted.timeSample_ringKept _ _ _ _ _).trans
    (((State.setMiss_moves _ _ _).ringKept rfl rfl).trans (State.synced_ringKept _)))

theorem State.commitCtx_ringKept (s : State) (c : Nat) (u : RxUnit) : RingKept s (s.commitCtx c u) := by
  have hbump : ∀ off, RingKept s (s.ctxBump c off) := fun off => (s.ctxBump_moves c off).ringKept rfl rfl
  unfold State.commitCtx
  extract_lets adrift scan updated committed marked sampled
  have hcommitted : RingKept s committed := by
    unfold committed
    split
    · exact ((s.admitUpdates_moves c u).ringKept rfl rfl).trans
        (((State.foldRssi_moves _ _ _).ringKept rfl rfl).trans (State.setCtx_ringKept _ _ _ _ _))
    · exact hbump 56
  have hmarked : RingKept s marked :=
    hcommitted.trans ((State.setCtx_ringKept _ _ _ _ _).trans (((State.setMiss_moves _ _ _).ringKept rfl rfl).trans
      (((State.foldOffset_moves _ _ _).ringKept rfl rfl).trans ((State.markValid_moves _ _ _ _).ringKept rfl rfl))))
  have hsampled : RingKept s sampled := by
    unfold sampled
    split
    · exact hmarked.trans (marked.timeSample_ringKept _ _ _ _ _)
    · exact hmarked
  have hlast : RingKept s (match scan, u.hdr.asn with
      | true, some a => if marked.slotLen = 0 then marked else marked.scanResync c a u.det.tSfd u.det.profile
      | _, _ => if adrift then sampled.synced else sampled) := by
    split
    · split
      · exact hmarked
      · exact hmarked.trans (marked.scanResync_ringKept _ _ _ _)
    · split
      · exact hsampled.trans sampled.synced_ringKept
      · exact hsampled
  split
  · exact hbump 57
  · exact hbump 58
  · exact hlast
  · exact hlast
  · exact RingKept.refl s

theorem State.commit_ringKept (s : State) (u : RxUnit) : RingKept s (s.commit u) := by
  have hsender : RingKept s (s.commitSender u) := by
    unfold State.commitSender
    split
    · have hraise := (s.raise_moves 57).ringKept rfl rfl
      extract_lets raised
      split
      · exact hraise.trans ⟨rfl, rfl⟩
      · exact hraise
    · split
      · exact RingKept.refl s
      · exact s.commitCtx_ringKept _ u
  have hask : RingKept (s.commitSender u) ((s.commitSender u).askFollowUp u) := by
    unfold State.askFollowUp
    split
    · split
      · exact ⟨rfl, rfl⟩
      split
      · exact ⟨rfl, rfl⟩
      · exact RingKept.refl _
    · exact RingKept.refl _
  exact hsender.trans (hask.trans ((State.releaseAck_moves _ _).ringKept rfl rfl))

/-- One entry is written at WR, with its frame in the blocks from `b` (R175). -/
theorem State.enqueue_ring (s : State) (u : RxUnit) (b : Nat) (hlen : u.psdu.length = u.length) :
    (s.enqueue u b).get MAC_DQ_WR = (s.get MAC_DQ_WR + 1) % s.get MAC_FBCFG_DQ_SIZE % 4096 ∧
    (s.enqueue u b).mac.dqBlocks = s.mac.dqBlocks ++ [(b, max 1 (divUp (u.length - u.fcsLen) 64))] := by
  unfold State.enqueue
  extract_lets frame data wr written k mac taken moved
  have hwritten : Moves 12 s written := (s.devWrite_moves _ _).trans (State.devWrite_moves _ _ _)
  have hsize : taken.get MAC_FBCFG_DQ_SIZE = s.get MAC_FBCFG_DQ_SIZE :=
    hwritten.get_eq MAC_FBCFG_DQ_SIZE_block (by decide) rfl
  have hframe : frame.length = u.length - u.fcsLen := by
    unfold frame
    rw [List.length_take, hlen, Nat.min_eq_left (Nat.sub_le _ _)]
  have hraise : RingKept moved (moved.raiseIf (decide (moved.get MAC_CTRL_DQ_THRESH ≤ moved.dqLevel)) 55) :=
    (State.raiseIf_moves _ _ _).ringKept rfl rfl
  refine ⟨hraise.wr.trans ?_, hraise.blocks.trans ?_⟩
  · rw [← hsize]
    exact State.get_put_self _ _ _
  · show written.mac.dqBlocks ++ [(b, k)] = _
    unfold k
    rw [hframe, hwritten.1 .mac rfl]

/-- A stage's own work on its unit, where that comes to state `t`. -/
theorem completes_rxStage_of_eq {c : Instr} {st unit charge : Nat} {u : RxUnit} {f : RxUnit → State} {s t : State}
    {P : State → Prop} (hexec : exec c s = goOn (s.rxStage st unit charge f)) (hready : s.rxReady st unit charge = some u)
    (hblank : u.blanked = false) (hf : f u = t) (hP : P t) : completes c s P :=
  completes_rxStage hexec hready hblank (hf.symm ▸ hP)

section stage
variable {unit charge : Nat} {u : RxUnit} {s : State}

/-! LOOKUP. -/

theorem lookupStage_looksUp (hready : s.rxReady 5 unit charge = some u) (hblank : u.blanked = false)
    (hinj : s.injected 5 = false) (hnative : u.legacy = false) :
    completes (.lookupStage unit charge) s fun t => t.rxUnit unit = some { u with ctx := s.lookup u.hdr.src, stage := 6 } := by
  obtain ⟨hid, hstage⟩ := State.of_rxReady hready
  refine completes_rxStage rfl hready hblank ?_
  simp only [hnative, Bool.false_eq_true, if_false]
  exact State.rxUnit_passRx charge hid hstage hinj

/-! SECURE. -/

theorem secureRxStage_noContext (hready : s.rxReady 6 unit charge = some u) (hblank : u.blanked = false)
    (hinj : s.injected 6 = false) (hctx : u.ctx = none) :
    completes (.secureRxStage unit charge) s fun t => t.rxUnit unit = some { u with unchecked := u.hdr.secured, stage := 7 } := by
  obtain ⟨hid, hstage⟩ := State.of_rxReady hready
  refine completes_rxStage_of_eq (t := s.passRx { u with unchecked := u.hdr.secured } charge) rfl hready hblank ?_
    (State.rxUnit_passRx charge hid hstage hinj)
  simp only [hctx]

theorem secureRxStage_unsecured {c : Nat} (hready : s.rxReady 6 unit charge = some u) (hblank : u.blanked = false)
    (hinj : s.injected 6 = false) (hctx : u.ctx = some c) (hplain : u.hdr.secured = false) :
    completes (.secureRxStage unit charge) s fun t => t.rxUnit unit = some { u with stage := 7 } := by
  obtain ⟨hid, hstage⟩ := State.of_rxReady hready
  refine completes_rxStage_of_eq (t := s.passRx u charge) rfl hready hblank ?_ (State.rxUnit_passRx charge hid hstage hinj)
  simp only [hctx, hplain, Bool.not_false, if_true]

/-- R494: a unit that the checks pass on, marked AUTH_FAIL or not, no key command holding it (R193). -/
theorem secureRxStage_checked {c : Nat} {v : RxUnit} (hready : s.rxReady 6 unit charge = some u) (hblank : u.blanked = false)
    (hinj : s.injected 6 = false) (hctx : u.ctx = some c) (hsecured : u.hdr.secured = true)
    (hfree : (s.selectKey c u.hdr).all (fun k => !s.keyWaits k (some unit) none) = true)
    (hpass : (s.secureRx c u).1 = .pass v) :
    completes (.secureRxStage unit charge) s fun t => t.rxUnit unit = some { v with stage := 7 } := by
  obtain ⟨hid, hstage⟩ := State.of_rxReady hready
  obtain ⟨hsameId, hsameStage, -⟩ := State.secureRx_pass hpass
  have hinjected := (State.secureRx_injected hpass 6).trans hinj
  obtain ⟨checked, hchecked⟩ : ∃ t, s.secureRx c u = (.pass v, t) := ⟨_, Prod.ext hpass rfl⟩
  rw [hchecked] at hinjected
  refine completes_rxStage_of_eq (t := checked.passRx v charge) rfl hready hblank ?_
    (State.rxUnit_passRx charge (hsameId.trans hid) (hsameStage.trans hstage) hinjected)
  cases hkey : s.selectKey c u.hdr with
  | none => simp only [hctx, hsecured, hkey, hchecked, Bool.not_true, Bool.false_eq_true, if_false]
  | some k =>
    have hnow : s.keyWaits k (some unit) none = false := by simpa [hkey] using hfree
    simp only [hctx, hsecured, hkey, hnow, hchecked, Bool.not_true, Bool.false_eq_true, if_false]

/-! ADMIT. -/

/-- R157: a frame without a context. -/
theorem admitStage_noContext (hready : s.rxReady 7 unit charge = some u) (hblank : u.blanked = false)
    (hinj : s.injected 7 = false) (hctx : u.ctx = none) (hack : s.wantsAck { u with outcome := .noContext } = false) :
    completes (.admitStage unit charge) s fun t => t.rxUnit unit = some { u with outcome := .noContext, stage := 8 } := by
  obtain ⟨hid, hstage⟩ := State.of_rxReady hready
  refine completes_rxStage_of_eq (t := s.passRx { u with outcome := .noContext } charge) rfl hready hblank ?_
    (State.rxUnit_passRx charge hid hstage hinj)
  simp only [hctx] at hack ⊢
  simp only [hack, Bool.not_false, if_true]

/-- R158: a frame of a known context. -/
theorem admitStage_classifies {c : Nat} (hready : s.rxReady 7 unit charge = some u) (hblank : u.blanked = false)
    (hinj : s.injected 7 = false) (hctx : u.ctx = some c) (hclean : s.poisonedIn (ctxAddr c) 64 = false)
    (hack : s.wantsAck { u with outcome := s.classify c u } = false) :
    completes (.admitStage unit charge) s fun t => t.rxUnit unit = some { u with outcome := s.classify c u, stage := 8 } := by
  obtain ⟨hid, hstage⟩ := State.of_rxReady hready
  refine completes_rxStage_of_eq (t := s.passRx { u with outcome := s.classify c u } charge) rfl hready hblank ?_
    (State.rxUnit_passRx charge hid hstage hinj)
  simp only [hctx] at hack ⊢
  simp only [hclean, hack, Bool.false_eq_true, if_false, Bool.not_false, if_true]

/-- R139: an acknowledgement that cannot be granted is counted. -/
theorem admitStage_ackMiss (hready : s.rxReady 7 unit charge = some u) (hblank : u.blanked = false)
    (hinj : s.injected 7 = false) (hctx : u.ctx = none) (hack : s.wantsAck { u with outcome := .noContext } = true)
    (hgrant : s.ackGrant { u with outcome := .noContext } = false) :
    completes (.admitStage unit charge) s fun t => t.rxUnit unit = some { u with outcome := .noContext, stage := 8 } ∧
      t.get SLE_ACKMISS_COUNT = satInc SLE_ACKMISS_COUNT.width (s.get SLE_ACKMISS_COUNT) := by
  obtain ⟨hid, hstage⟩ := State.of_rxReady hready
  have hbumped : (s.bump SLE_ACKMISS_COUNT).injected 7 = false := (s.injected_bump (by decide) 7).trans hinj
  refine completes_rxStage_of_eq (t := (s.bump SLE_ACKMISS_COUNT).passRx { u with outcome := .noContext } charge) rfl hready
    hblank ?_ ⟨State.rxUnit_passRx charge hid hstage hbumped, ?_⟩
  · simp only [hctx] at hack hgrant ⊢
    simp only [hack, hgrant, Bool.not_true, Bool.false_eq_true, if_false]
  · have hpassed := State.get_passRx (u := { u with outcome := .noContext }) (f := SLE_ACKMISS_COUNT) charge hstage hbumped
      (by decide) (by decide) (by decide)
    exact hpassed.trans (s.get_bump_self _)

/-! DELIVER. -/

/-- R175: a unit with an entry, the ring and its blocks having room. -/
theorem deliverStage_room {b : Nat} (hready : s.rxReady 8 unit charge = some u) (hblank : u.blanked = false)
    (hinj : s.injected 8 = false) (hentry : s.hasEntry u = true) (hring : s.dqLevel + 1 ≠ s.get MAC_FBCFG_DQ_SIZE)
    (hblocks : s.freeBlocks (max 1 (divUp (u.length - u.fcsLen) 64)) = some b) (hlen : u.psdu.length = u.length) :
    completes (.deliverStage unit charge) s fun t => t.rxUnit unit = none ∧
      t.get MAC_DQ_WR = (s.get MAC_DQ_WR + 1) % s.get MAC_FBCFG_DQ_SIZE % 4096 ∧
      t.mac.dqBlocks = s.mac.dqBlocks ++ [(b, max 1 (divUp (u.length - u.fcsLen) 64))] := by
  obtain ⟨rfl, -⟩ := State.of_rxReady hready
  refine completes_rxStage rfl hready hblank ?_
  simp only [hinj, hentry, hring, hblocks, Bool.false_eq_true, if_false, if_true]
  have hhanded : Moves 2147483648 s (s.handedOn 8 charge) := s.handedOn_moves 8 charge
  obtain ⟨hwr, hdq⟩ := (s.handedOn 8 charge).enqueue_ring u b hlen
  have hcommit : RingKept ((s.handedOn 8 charge).enqueue u b) ((((s.handedOn 8 charge).enqueue u b).commit u).removeRx u.id) :=
    (State.commit_ringKept _ u).trans ⟨rfl, rfl⟩
  refine ⟨State.rxUnit_removeRx _ u.id, ?_, ?_⟩
  · rw [hcommit.wr, hwr, hhanded.get_eq MAC_DQ_WR_block (by decide) rfl,
      hhanded.get_eq MAC_FBCFG_DQ_SIZE_block (by decide) rfl]
  · rw [hcommit.blocks, hdq, hhanded.1 .mac rfl]

/-- R175: a full ring drops the unit before its commit. -/
theorem deliverStage_full (hready : s.rxReady 8 unit charge = some u) (hblank : u.blanked = false)
    (hinj : s.injected 8 = false) (hentry : s.hasEntry u = true) (hring : s.dqLevel + 1 = s.get MAC_FBCFG_DQ_SIZE) :
    completes (.deliverStage unit charge) s fun t => t.rxUnit unit = none ∧
      t.get MAC_DQSTAT_FULL = satInc MAC_DQSTAT_FULL.width (s.get MAC_DQSTAT_FULL) := by
  obtain ⟨hid, -⟩ := State.of_rxReady hready
  refine completes_rxStage rfl hready hblank ?_
  simp only [hinj, hentry, hring, Bool.false_eq_true, if_false, if_true]
  exact State.discarded MAC_DQSTAT_FULL_block hid

/-! LATE. -/

/-- A unit dropped LATE is gone, and E52 raised (R131). -/
theorem State.lateRx_effect (s : State) (u : RxUnit) (boundary : Bool) :
    (s.lateRx u boundary).rxUnit u.id = none ∧ (s.lateRx u boundary).event 52 = true := by
  obtain ⟨z, hz⟩ : ∃ z : State, s.lateRx u boundary = (z.raise 52).endRx u := ⟨_, rfl⟩
  rw [hz]
  exact ⟨State.rxUnit_endRx _ u, ((State.endRx_moves _ u).event_eq 52 rfl).trans (z.event_raise 52)⟩

theorem lateDrop_rx (hprogram : s.slotLen ≠ 0) (hunit : s.rxUnit unit = some u) (hserved : s.served u.stage unit = true) :
    completes (.lateDrop unit) s fun t => t.rxUnit unit = none ∧ t.event 52 = true := by
  have hid : u.id = unit := by simpa using List.find?_some hunit
  have hexec : execLateDrop unit s = goOn ((s.abandonSecure unit).lateRx u false) := by
    unfold execLateDrop
    rw [if_neg hprogram, hunit]
    exact if_pos hserved
  refine completes_of_goOn hexec ?_
  rw [← hid]
  exact State.lateRx_effect _ u false

end stage

/-- Settles O11: stages 5 to 8, each way that a stage can complete its unit by its own lemma, and LATE. -/
theorem receiveStagesDecideAndCommit : Obligations.ReceiveStagesDecideAndCommit := by
  unfold Obligations.ReceiveStagesDecideAndCommit
  exact ⟨fun _ _ _ _ => lookupStage_looksUp, fun _ _ _ _ => secureRxStage_noContext,
    fun _ _ _ _ _ => secureRxStage_unsecured, fun _ _ _ _ _ _ => secureRxStage_checked,
    fun _ _ _ _ => admitStage_noContext, fun _ _ _ _ _ => admitStage_classifies, fun _ _ _ _ => admitStage_ackMiss,
    fun _ _ _ _ _ => deliverStage_room, fun _ _ _ _ => deliverStage_full, fun _ _ _ => lateDrop_rx⟩

end Sys2Proof.Machine

/-! ## The running program and its time base under the operations of a slot boundary -/
namespace Sys2Proof.Machine

/-- Of the slot engine: the slot, a coarse step held for the next boundary, and the two program buffers. -/
def SlotEngine.program (e : SlotEngine) : Nat × Option Int × Sparse Byte × Sparse Byte := (e.slotAsn, e.coarse, e.buf0, e.buf1)

/-- TNET, the slot, a held coarse step, the program buffers, ACTIVE_BUF and RUNNING are in `t` as in `s`. -/
structure ProgramKept (s t : State) : Prop where
  tnet : t.tnet = s.tnet
  slot : t.slot.program = s.slot.program
  activeField : t.get SLE_STATUS_ACTIVE_BUF = s.get SLE_STATUS_ACTIVE_BUF
  runningField : t.get SLE_STATUS_RUNNING = s.get SLE_STATUS_RUNNING

namespace ProgramKept

theorem refl (s : State) : ProgramKept s s := ⟨rfl, rfl, rfl, rfl⟩

theorem trans {r s t : State} (h : ProgramKept r s) (g : ProgramKept s t) : ProgramKept r t :=
  ⟨g.tnet.trans h.tnet, g.slot.trans h.slot, g.activeField.trans h.activeField, g.runningField.trans h.runningField⟩

theorem slotAsn {s t : State} (h : ProgramKept s t) : t.slot.slotAsn = s.slot.slotAsn := congrArg (·.1) h.slot

theorem coarse {s t : State} (h : ProgramKept s t) : t.slot.coarse = s.slot.coarse := congrArg (·.2.1) h.slot

theorem running {s t : State} (h : ProgramKept s t) : t.running = s.running := congrArg (· != 0) h.runningField

theorem activeBuf {s t : State} (h : ProgramKept s t) : t.activeBuf = s.activeBuf := by
  have hbuf0 : t.slot.buf0 = s.slot.buf0 := congrArg (·.2.2.1) h.slot
  have hbuf1 : t.slot.buf1 = s.slot.buf1 := congrArg (·.2.2.2) h.slot
  unfold State.activeBuf State.on
  rw [h.activeField, hbuf0, hbuf1]

theorem foldl {α : Type} {g : State → α → State} (hg : ∀ s x, ProgramKept s (g s x)) (l : List α) (s : State) :
    ProgramKept s (l.foldl g s) := by
  induction l generalizing s with
  | nil => exact refl s
  | cons x l ih => exact (hg s x).trans (ih _)

end ProgramKept

/-- An operation that changes neither TNET nor the slot engine, its registers included. -/
theorem Moves.programKept {m : Nat} {s t : State} (h : Moves m s t) (htnet : m.testBit 0 = false) (hslot : m.testBit 7 = false)
    (hregs : m.testBit 31 = false) : ProgramKept s t :=
  ⟨h.1 .tnet htnet, congrArg SlotEngine.program (h.1 .slot hslot), h.get_eq SLE_STATUS_ACTIVE_BUF_block (by decide) hregs,
    h.get_eq SLE_STATUS_RUNNING_block (by decide) hregs⟩

theorem State.put_programKept (s : State) {f : RegField} (v : Nat) (hactive : SLE_STATUS_ACTIVE_BUF.key ≠ f.key)
    (hrunning : SLE_STATUS_RUNNING.key ≠ f.key) : ProgramKept s (s.put f v) :=
  ⟨rfl, rfl, s.get_put_ne v hactive, s.get_put_ne v hrunning⟩

/-- A field of the slot engine's registers after SLE_STATUS. -/
theorem State.put_programKept_of_le (s : State) {f : RegField} (v : Nat) (hf : 32 * 0x40040008 ≤ f.key) :
    ProgramKept s (s.put f v) := by
  refine s.put_programKept v ?_ ?_ <;> simp only [RegField.key, SLE_STATUS_ACTIVE_BUF, SLE_STATUS_RUNNING] at hf ⊢ <;> omega

/-- A field of another register block. -/
theorem State.put_programKept_of_block (s : State) {f : RegField} {b : Nat} (v : Nat) (hf : f.inBlock b) (hb : b ≠ 4) :
    ProgramKept s (s.put f v) := by
  have hactive := SLE_STATUS_ACTIVE_BUF_block
  have hrunning := SLE_STATUS_RUNNING_block
  unfold RegField.inBlock at hf hactive hrunning
  exact s.put_programKept v (by omega) (by omega)

theorem State.raise_programKept (s : State) (n : Nat) : ProgramKept s (s.raise n) := (s.raise_moves n).programKept rfl rfl rfl

/-! Units of work. -/

theorem State.endRx_programKept (s : State) (u : RxUnit) : ProgramKept s (s.endRx u) := ⟨rfl, rfl, rfl, rfl⟩

theorem State.drop_programKept (s : State) (r : DropRec) : ProgramKept s (s.drop r) := by
  unfold State.drop
  split
  · exact ⟨rfl, rfl, rfl, rfl⟩
  · exact s.put_programKept_of_le _ (by decide)

theorem State.bumpLate_programKept (s : State) (st : Nat) : ProgramKept s (s.bump (SLE_SLATE_LATE st)) :=
  s.put_programKept_of_le _ (by simp only [RegField.key, SLE_SLATE_LATE]; omega)

theorem State.lateRx_programKept (s : State) (u : RxUnit) (boundary : Bool) : ProgramKept s (s.lateRx u boundary) := by
  unfold State.lateRx
  extract_lets late counted dropped
  have hcounted : ProgramKept late counted := by
    unfold counted
    split
    · split
      · exact (late.ctxBump_moves _ _).programKept rfl rfl rfl
      · exact ProgramKept.refl late
    · exact ProgramKept.refl late
  exact (s.bumpLate_programKept u.stage).trans (hcounted.trans ((counted.drop_programKept _).trans
    ((dropped.raise_programKept 52).trans (State.endRx_programKept _ u))))

theorem State.endTx_programKept (s : State) (u : TxUnit) (status : Nat) : ProgramKept s (s.endTx u status) := by
  have hremoved : ProgramKept s (s.removeTx u.id) := ⟨rfl, rfl, rfl, rfl⟩
  have hfinish : ∀ d, ProgramKept s ((s.removeTx u.id).finishDesc d status) := fun d =>
    hremoved.trans ((State.finishDesc_moves _ d status).programKept rfl rfl rfl)
  unfold State.endTx
  split
  · exact hfinish _
  · split
    · exact hremoved.trans (((State.setDesc_moves _ _ _ _ _).programKept rfl rfl rfl).trans ⟨rfl, rfl, rfl, rfl⟩)
    · exact hfinish _
  · exact hremoved.trans ((State.lgyEnded_moves _ u status).programKept rfl rfl rfl)
  · exact hremoved

theorem State.lateTx_programKept (s : State) (u : TxUnit) (boundary : Bool) : ProgramKept s (s.lateTx u boundary) := by
  unfold State.lateTx
  extract_lets late counted dropped
  have hcounted : ProgramKept late counted := by
    unfold counted
    split
    · exact (late.ctxBump_moves _ _).programKept rfl rfl rfl
    · exact ProgramKept.refl late
  exact (s.bumpLate_programKept u.stage).trans (hcounted.trans ((counted.drop_programKept _).trans
    ((dropped.raise_programKept 52).trans (State.endTx_programKept _ u 3))))

/-! Blanking, twin receive and scanning. -/

theorem State.blankLane_programKept (r : BlankReason) (s : State) (i : Nat) : ProgramKept s (State.blankLane r s i) := by
  unfold State.blankLane
  extract_lets st cut marked shown
  have hcut : ProgramKept s cut := by
    unfold cut
    split
    · exact (s.put_programKept_of_block _ (CHZ_LCNT_BLANKED_block i) (by decide)).trans ⟨rfl, rfl, rfl, rfl⟩
    · exact ProgramKept.refl s
  have hmarked : ProgramKept cut marked := ⟨rfl, rfl, rfl, rfl⟩
  have hshown : ProgramKept s shown :=
    hcut.trans (hmarked.trans (marked.put_programKept_of_block _ (blankField_block i) (by decide)))
  split
  · exact hshown
  · exact hshown.trans (shown.put_programKept_of_block _ (CHZ_LSTAT_STATE_block i) (by decide))

theorem State.blankHalf_programKept (r : BlankReason) (s : State) (h : Nat) : ProgramKept s (State.blankHalf r s h) :=
  ProgramKept.foldl (State.blankLane_programKept r) _ s

theorem State.retune_programKept (s : State) (h : Nat) : ProgramKept s (s.retune h) := s.blankHalf_programKept .retune h

theorem State.takeTwin_programKept (s : State) (b : Bool) : ProgramKept s (s.takeTwin b) := by
  unfold State.takeTwin
  split
  · exact ProgramKept.refl s
  · refine ProgramKept.trans ?_ ((State.mapChanged_moves _).programKept rfl rfl rfl)
    refine ProgramKept.trans ?_ (ProgramKept.foldl (fun z i => (z.laneProfChanged_moves i).programKept rfl rfl rfl) _ _)
    exact (s.put_programKept_of_block _ CHZ_STATUS_TWIN_ACTIVE_block (by decide)).trans (State.retune_programKept _ 1)

theorem State.scanStep_programKept (s : State) (k : Nat) : ProgramKept s (s.scanStep k) := by
  rw [State.scanStep_eq]
  refine ProgramKept.trans ?_ (State.retune_programKept _ _)
  refine ProgramKept.trans ?_ ((State.tuneHalf_moves _ _ _).programKept rfl rfl rfl)
  exact ((s.with_mac_moves _).programKept rfl rfl rfl).trans ((State.restFrom_moves _ _ _).programKept rfl rfl rfl)

theorem State.enterScan_programKept (s : State) : ProgramKept s s.enterScan := by
  unfold State.enterScan
  refine ProgramKept.trans ?_ (State.scanStep_programKept _ 0)
  refine ProgramKept.trans ?_ (State.raise_programKept _ 61)
  refine ProgramKept.trans ?_ (State.put_programKept_of_block _ _ MAC_STATUS_POLL_EXT_block (by decide))
  exact ((s.with_mac_moves _).programKept rfl rfl rfl).trans
    (State.put_programKept_of_block _ _ MAC_STATUS_SYNC_block (by decide))

theorem State.pollUnanswered_programKept (s : State) (extended : Bool) : ProgramKept s (s.pollUnanswered extended) := by
  unfold State.pollUnanswered
  split
  · exact s.enterScan_programKept
  split
  · exact (s.with_mac_moves _).programKept rfl rfl rfl
  · split
    · exact s.put_programKept_of_block _ MAC_STATUS_POLL_EXT_block (by decide)
    · exact ProgramKept.refl s

theorem State.drawIf_programKept (s : State) (b : Bool) (be : Nat) :
    ProgramKept s (if b then s.draw be else (0, s)).2 := by
  split <;> exact ⟨rfl, rfl, rfl, rfl⟩

theorem State.noAck_programKept (s : State) (u : TxUnit) : ProgramKept s (s.noAck u) := by
  unfold State.noAck
  extract_lets missed
  have hmissed : ProgramKept s missed := by
    unfold missed
    split
    · exact ((s.ctxBump_moves _ 54).programKept rfl rfl rfl).trans ((State.missMore_moves _ _).programKept rfl rfl rfl)
    · exact ProgramKept.refl s
  have hremoved : ProgramKept s (missed.removeTx u.id) := hmissed.trans ⟨rfl, rfl, rfl, rfl⟩
  split
  · exact hremoved.trans (State.pollUnanswered_programKept _ _)
  · extract_lets att
    split
    · exact hmissed.trans (missed.endTx_programKept u 2)
    · refine hmissed.trans ?_
      have hdrawn := missed.drawIf_programKept u.shared (min (missed.get MAC_CSMA_MIN_BE + att - 1) (missed.get MAC_CSMA_MAX_BE))
      split
      rename_i hdraw
      rw [hdraw] at hdrawn
      exact hdrawn.trans ⟨rfl, rfl, rfl, rfl⟩
  · exact hmissed.trans (missed.endTx_programKept u 2)
  · exact hremoved

/-! The units and windows of the slot just ended (R138). -/

theorem State.endRxUnits_programKept (room : Nat) (ids : List Nat) (s : State) : ProgramKept s (State.endRxUnits room ids s) := by
  induction ids generalizing room s with
  | nil =>
    rw [State.endRxUnits]
    exact ProgramKept.refl s
  | cons id ids ih =>
    rw [State.endRxUnits]
    split
    · exact ih room s
    · rename_i u _
      split
      · exact (s.endRx_programKept u).trans (ih _ _)
      split
      · have hstraddles : ProgramKept s (s.setRx { u with straddled := true }) := ⟨rfl, rfl, rfl, rfl⟩
        exact hstraddles.trans (ih _ _)
      · exact ((s.abandonSecure_moves id).programKept rfl rfl rfl).trans ((State.lateRx_programKept _ u true).trans (ih _ _))

theorem State.endTxUnit_programKept (toMode : Bool) (s : State) (id : Nat) : ProgramKept s (State.endTxUnit toMode s id) := by
  unfold State.endTxUnit
  split
  · exact ProgramKept.refl s
  rename_i u _
  split
  · exact ProgramKept.refl s
  split
  · exact ((s.abandonSecure_moves id).programKept rfl rfl rfl).trans (State.lateTx_programKept _ u true)
  · exact (s.txReturn_moves.programKept rfl rfl rfl).trans (State.lateTx_programKept _ u true)
  · split
    · exact s.endTx_programKept u 0xA
    · exact s.noAck_programKept u
  · exact ProgramKept.refl s

theorem State.endWindow_programKept (s : State) (w : RxWindow) : ProgramKept s (s.endWindow w) := by
  unfold State.endWindow
  extract_lets closed
  have hclosed : ProgramKept s closed := by
    unfold closed
    split
    · exact ProgramKept.foldl (fun z i => (z.closeLane_moves i).programKept rfl rfl rfl) _ s
    · exact ProgramKept.refl s
  split
  · exact hclosed
  split
  · exact hclosed.trans ⟨rfl, rfl, rfl, rfl⟩
  · exact hclosed.trans ((closed.emptyWindow_moves w).programKept rfl rfl rfl)

theorem State.endUnits_programKept (s : State) (straddle : Nat) (toMode : Bool) : ProgramKept s (s.endUnits straddle toMode) := by
  have hwindows : ∀ z : State, ProgramKept z z.endWindows := fun z => by
    have hcleared : ProgramKept z { z with slot := { z.slot with windows := [] } } := ⟨rfl, rfl, rfl, rfl⟩
    exact hcleared.trans (ProgramKept.foldl State.endWindow_programKept _ _)
  unfold State.endUnits
  exact (State.endRxUnits_programKept straddle _ s).trans
    ((ProgramKept.foldl (State.endTxUnit_programKept toMode) _ _).trans (hwindows _))

/-! Staged settings, contexts and queues. -/

theorem State.takePlan_programKept (s : State) (h : Nat) : ProgramKept s (s.takePlan h) := by
  unfold State.takePlan
  extract_lets v radio planned retuned
  have hplanned : ProgramKept s planned := by
    unfold planned
    split <;> exact ⟨rfl, rfl, rfl, rfl⟩
  have hretuned : ProgramKept s retuned := hplanned.trans (planned.retune_programKept h)
  by_cases hsame : (if h = 0 then s.radio.planA else s.radio.planB) = v
  · rw [if_pos hsame]
    exact ProgramKept.refl s
  rw [if_neg hsame]
  split
  · exact hretuned.trans (retuned.retune_programKept 1)
  · exact hretuned

theorem State.takeStaged_programKept (s : State) : ProgramKept s s.takeStaged := by
  have hcentre : ∀ (z : State) (r : Radio) (h : Nat), ProgramKept z (State.retune { z with radio := r } h) := fun z r h =>
    ((z.with_radio_moves r).programKept rfl rfl rfl).trans (State.retune_programKept _ h)
  unfold State.takeStaged
  extract_lets profiled radioA centredA radioB centredB planned radioT twinned radioM
  have hprofiled : ProgramKept s profiled := by
    unfold profiled
    split
    · exact (s.installProfile_moves _).programKept rfl rfl rfl
    · exact ProgramKept.refl s
  have hcentredA : ProgramKept profiled centredA := by
    unfold centredA
    split
    · exact hcentre profiled _ 0
    · exact ProgramKept.refl profiled
  have hcentredB : ProgramKept centredA centredB := by
    unfold centredB
    split
    · exact hcentre centredA _ 1
    · exact ProgramKept.refl centredA
  have hplanned : ProgramKept centredB planned := (centredB.takePlan_programKept 0).trans (State.takePlan_programKept _ 1)
  have htwinned : ProgramKept planned twinned := by
    unfold twinned
    split
    · exact ((planned.with_radio_moves _).programKept rfl rfl rfl).trans (State.takeTwin_programKept _ _)
    · exact ProgramKept.refl planned
  have hsettings : ProgramKept s twinned := hprofiled.trans (hcentredA.trans (hcentredB.trans (hplanned.trans htwinned)))
  split
  · exact hsettings.trans (((twinned.with_radio_moves _).programKept rfl rfl rfl).trans
      ((State.setNcos_moves _ _).programKept rfl rfl rfl))
  · exact hsettings

theorem State.applyContext_programKept (s : State) : ProgramKept s s.applyContext := by
  unfold State.applyContext
  split
  · exact ProgramKept.refl s
  extract_lets was mac taken idle slot stale applied
  have hstale : ProgramKept s stale :=
    ((s.with_mac_moves _).programKept rfl rfl rfl : ProgramKept s taken).trans
      ((taken.put_programKept_of_block _ MAC_CTXSTAT_BUSY_block (by decide)).trans ⟨rfl, rfl, rfl, rfl⟩)
  have happlied : ProgramKept stale applied := by
    unfold applied
    split
    · exact ((stale.setCtx_moves _ _ _ _).programKept rfl rfl rfl).trans
        ((State.flushContext_moves _ _).programKept rfl rfl rfl)
    · exact (stale.devWrite_moves _ _).programKept rfl rfl rfl
  exact hstale.trans (happlied.trans ((applied.parentLost_moves was).programKept rfl rfl rfl))

theorem State.stepThree_programKept (s : State) : ProgramKept s s.stepThree := by
  unfold State.stepThree
  extract_lets slot counted
  have hcounted : ProgramKept s counted := ⟨rfl, rfl, rfl, rfl⟩
  refine hcounted.trans (counted.applyContext_programKept.trans ?_)
  refine ((State.expirePending_moves _).programKept rfl rfl rfl).trans ?_
  refine ((State.reportEvict_moves _).programKept rfl rfl rfl).trans ?_
  exact ((State.ageQueues_moves _).programKept rfl rfl rfl).trans (State.raise_programKept _ 48)

/-! The cells of the slot that begins (R127). -/

theorem State.beginCal_programKept (s : State) (c : Calibration) : ProgramKept s (s.beginCal c) := by
  unfold State.beginCal
  extract_lets radio calibrating
  have hbusy : ProgramKept s calibrating :=
    ((s.with_radio_moves _).programKept rfl rfl rfl).trans
      (State.put_programKept_of_block _ _ RFC_CALSTAT_BUSY_block (by decide))
  split
  · exact hbusy.trans (calibrating.blankHalf_programKept .cal _)
  · exact hbusy

theorem State.nextCal_programKept (s : State) : ProgramKept s s.nextCal := by
  unfold State.nextCal
  split
  · exact ((s.with_radio_moves _).programKept rfl rfl rfl).trans (State.beginCal_programKept _ _)
  · exact ProgramKept.refl s

theorem State.backgroundCal_programKept (s : State) (path : Nat) : ProgramKept s (s.backgroundCal path) := by
  unfold State.backgroundCal
  split
  · exact ProgramKept.refl s
  · exact ((s.with_radio_moves _).programKept rfl rfl rfl).trans (State.nextCal_programKept _)

theorem State.calCell_programKept (s : State) (path : Nat) : ProgramKept s (s.calCell path) := by
  unfold State.calCell
  extract_lets marked
  have hmarked : ProgramKept s marked := by
    unfold marked
    split
    · split
      · exact (s.calibrated_moves _).programKept rfl rfl rfl
      · exact ProgramKept.refl s
    · exact ProgramKept.refl s
  split
  · split
    · exact hmarked.trans (((marked.with_radio_moves _).programKept rfl rfl rfl).trans (State.nextCal_programKept _))
    · exact hmarked.trans (marked.backgroundCal_programKept path)
  · exact hmarked.trans (marked.backgroundCal_programKept path)

theorem State.startCalCells_programKept (s : State) (cal : List Nat) : ProgramKept s (s.startCalCells cal) := by
  have hset : ProgramKept s { s with slot := { s.slot with calCells := cal } } := ⟨rfl, rfl, rfl, rfl⟩
  exact hset.trans (ProgramKept.foldl State.calCell_programKept _ _)

theorem State.accepted_programKept (s : State) (st : Nat) : ProgramKept s (s.accepted st) := by
  unfold State.accepted
  extract_lets n slot counted
  have hcounted : ProgramKept s counted := ⟨rfl, rfl, rfl, rfl⟩
  split
  · exact hcounted.trans (counted.put_programKept_of_le _ (by simp only [RegField.key, SLE_SPEAK_PEAK_UNITS]; omega))
  · exact hcounted

theorem State.startTx_programKept (s : State) (u : TxUnit) : ProgramKept s (s.startTx u) := by
  have hjoined : ProgramKept s { s with slot := { s.slot with
      tx := s.slot.tx ++ [u], nextId := s.slot.nextId + 1, txUsed := s.slot.txUsed + 1 } } := ⟨rfl, rfl, rfl, rfl⟩
  exact hjoined.trans (State.accepted_programKept _ 9)

theorem State.selectTx_programKept (busy : Bool) (which : Option Nat) (cells : List Cell) (s : State) :
    ProgramKept s (State.selectTx busy which cells s).2 := by
  induction cells generalizing busy which s with
  | nil =>
    rw [State.selectTx]
    exact ProgramKept.refl s
  | cons c cells ih =>
    rw [State.selectTx]
    have hshared : ProgramKept s (if c.kind = 3 then s.sharedCell c (!busy) else s) := by
      split
      · exact (s.sharedCell_moves c _).programKept rfl rfl rfl
      · exact ProgramKept.refl s
    generalize (if c.kind = 3 then s.sharedCell c (!busy) else s) = shared at hshared ⊢
    split
    · exact hshared.trans ((shared.startTx_programKept _).trans (ih _ _ _))
    · exact hshared.trans (ih _ _ _)

theorem State.addWindow_programKept (s : State) (ctx : Option Nat) (timekeep : Bool) (kind choff : Nat) (followUp : Bool) :
    ProgramKept s (s.addWindow ctx timekeep kind choff followUp) := by
  unfold State.addWindow
  split
  · exact ProgramKept.refl s
  extract_lets n
  have hplaced : ProgramKept s (s.placeChannel n ctx).2 := (s.placeChannel_moves n ctx).programKept rfl rfl rfl
  split
  · rename_i placed hplace
    rw [hplace] at hplaced
    exact hplaced.trans (placed.put_programKept_of_block _ CHZ_STATUS_UNMAPPED_block (by decide))
  · rename_i lane placed hplace
    rw [hplace] at hplaced
    split
    · exact hplaced
    · refine hplaced.trans ?_
      dsimp only
      split <;> exact ⟨rfl, rfl, rfl, rfl⟩

theorem State.openWindows_programKept (s : State) (child : Option Nat) (rx : List Cell) :
    ProgramKept s (s.openWindows child rx) := by
  unfold State.openWindows
  split
  · exact s.addWindow_programKept _ _ _ _ _
  · refine ProgramKept.foldl (fun z c => ?_) _ s
    exact z.addWindow_programKept _ _ _ _ _

theorem State.serveCells_programKept (s : State) : ProgramKept s s.serveCells := by
  unfold State.serveCells
  extract_lets cells cal calibrating fu child sending
  clear_value fu
  have hcalibrating : ProgramKept s calibrating := s.startCalCells_programKept cal
  have hsending : ProgramKept s sending := by
    unfold sending
    split
    · exact hcalibrating.trans (calibrating.startTx_programKept _)
    · exact hcalibrating
  have hselected := sending.selectTx_programKept (fu.isSome || cal.contains 2) none cells
  split
  rename_i which selected hselect
  rw [hselect] at hselected
  exact hsending.trans (hselected.trans ((selected.openWindows_programKept _ _).trans
    ((State.idleRecal_moves _ _).programKept rfl rfl rfl)))

theorem State.selectCells_programKept (s : State) : ProgramKept s s.selectCells := by
  unfold State.selectCells
  extract_lets held radio slot mac cleared served mac' ended radio'
  have hcleared : ProgramKept s cleared := ⟨rfl, rfl, rfl, rfl⟩
  have hserved : ProgramKept cleared served := by
    unfold served
    split
    · exact ProgramKept.refl cleared
    · exact cleared.serveCells_programKept
  have hended : ProgramKept s ended := hcleared.trans (hserved.trans ((served.with_mac_moves _).programKept rfl rfl rfl))
  split
  · exact hended.trans ((ended.with_radio_moves _).programKept rfl rfl rfl)
  · exact hended

theorem State.fillSlot_programKept (s : State) (gainA gainB : Nat) : ProgramKept s (s.fillSlot gainA gainB) := by
  unfold State.fillSlot
  refine ProgramKept.trans ?_ (State.selectCells_programKept _)
  split
  · exact ((s.boundaryGain_moves 0 gainA).programKept rfl rfl rfl).trans
      ((State.boundaryGain_moves _ 1 gainB).programKept rfl rfl rfl)
  · exact ProgramKept.refl s

end Sys2Proof.Machine

/-! ## Slot boundaries: the next slot, the stop and the first start of a program -/
namespace Sys2Proof.Machine

/-! The next slot of the running program (R137). -/

theorem State.reachBoundary_tnet (s : State) : s.reachBoundary.tnet = (s.slot.boundary + s.slotLen) % 2 ^ 64 := by
  unfold State.reachBoundary
  dsimp only
  split <;> rfl

/-- Reaching the boundary changes nothing that a due swap depends on (R143). -/
theorem State.dueSwap_reachBoundary (s : State) (asn : Nat) (stop : Bool) :
    s.reachBoundary.dueSwap asn stop = s.dueSwap asn stop := by
  unfold State.dueSwap State.standby
  rw [s.reachBoundary_moves.1 .slot rfl, s.reachBoundary_moves.get_eq SLE_STATUS_STANDBY_block (by decide) rfl]

theorem State.beginSlot_tnet (s : State) (asn : Nat) : (s.beginSlot asn).tnet = s.tnet := rfl

theorem State.beginSlot_coarse (s : State) (asn : Nat) : (s.beginSlot asn).slot.coarse = s.slot.coarse := rfl

theorem State.beginSlot_slotAsn (s : State) (asn : Nat) : (s.beginSlot asn).slot.slotAsn = asn % 2 ^ 40 := rfl

theorem State.takeCoarse_none {s : State} (h : s.slot.coarse = none) : s.takeCoarse = s := by
  unfold State.takeCoarse
  rw [h]

/-- Into the next slot of the same program, with no coarse step: TNET is the boundary, and the slot number counts. -/
theorem State.turnSlot_next {s : State} (toMode : Bool) (hcoarse : s.slot.coarse = none)
    (hswap : s.dueSwap ((s.slot.slotAsn + 1) % 2 ^ 40) false = none) :
    (s.turnSlot false toMode).tnet = (s.slot.boundary + s.slotLen) % 2 ^ 64 ∧
    (s.turnSlot false toMode).slot.slotAsn = (s.slot.slotAsn + 1) % 2 ^ 40 := by
  have hslot : s.reachBoundary.slot = s.slot := s.reachBoundary_moves.1 .slot rfl
  unfold State.turnSlot
  extract_lets reached asn swap straddle ended turned
  have hasn : asn = (s.slot.slotAsn + 1) % 2 ^ 40 := by
    unfold asn reached
    rw [hslot]
  have hnone : swap = none := by
    unfold swap reached
    rw [State.dueSwap_reachBoundary, hasn, hswap]
  have hreached : reached.tnet = (s.slot.boundary + s.slotLen) % 2 ^ 64 := s.reachBoundary_tnet
  have hcoarse' : reached.slot.coarse = none := (congrArg SlotEngine.coarse hslot).trans hcoarse
  have hended : ProgramKept reached ended := reached.endUnits_programKept straddle toMode
  have hturned : turned = ended.beginSlot asn := by
    unfold turned
    rw [hnone]
  clear_value reached asn ended turned
  have hbegun : turned.slot.coarse = none := by rw [hturned, State.beginSlot_coarse, hended.coarse, hcoarse']
  have hstaged : ProgramKept turned turned.takeStaged.stepThree :=
    turned.takeStaged_programKept.trans (State.stepThree_programKept _)
  rw [State.takeCoarse_none hbegun, hstaged.tnet, hstaged.slotAsn, hturned, State.beginSlot_tnet, State.beginSlot_slotAsn,
    hended.tnet, hreached, hasn, Nat.mod_mod]
  exact ⟨rfl, rfl⟩

/-- With no stop pending, what follows the turn of the slot leaves the program and its time base (R137, R450). -/
theorem State.boundary_programKept {s : State} (gainA gainB : Nat) (hstop : s.on SLE_STATUS_STOP_PEND = false) :
    ProgramKept (s.turnSlot false false) (s.boundary gainA gainB) := by
  unfold State.boundary
  simp only [hstop, Bool.and_false, Bool.false_eq_true, if_false]
  have hmark : ∀ (z : State) (b : Bool), ProgramKept z (z.markBoundary b) := fun z b =>
    (z.markBoundary_moves b).programKept rfl rfl rfl
  split
  · exact ProgramKept.refl _
  split
  · exact hmark _ true
  · exact (hmark _ false).trans (State.fillSlot_programKept _ gainA gainB)

theorem execSlotBoundary_running {s : State} (a b : Fin 16) (hrunning : s.running = true) (hlen : s.slotLen ≠ 0) :
    execSlotBoundary a b s = goOn (s.boundary a b) := by
  unfold execSlotBoundary
  simp [hrunning, hlen]

theorem slotBoundary_next (a b : Fin 16) {s : State} (hrunning : s.running = true) (hlen : s.slotLen ≠ 0)
    (hcoarse : s.slot.coarse = none) (hstop : s.on SLE_STATUS_STOP_PEND = false)
    (hswap : s.dueSwap ((s.slot.slotAsn + 1) % 2 ^ 40) false = none) :
    completes (.slotBoundary a b) s fun t => t.tnet = (s.slot.boundary + s.slotLen) % 2 ^ 64 ∧
      t.slot.slotAsn = (s.slot.slotAsn + 1) % 2 ^ 40 := by
  obtain ⟨htnet, hasn⟩ := State.turnSlot_next false hcoarse hswap
  have hkept := State.boundary_programKept a b hstop
  exact completes_of_goOn (execSlotBoundary_running a b hrunning hlen) ⟨hkept.tnet.trans htnet, hkept.slotAsn.trans hasn⟩

/-! The stop (R118), and the mode transition that asks for it (R28). -/

theorem State.disarm_programKept (s : State) : ProgramKept s s.disarm := by
  unfold State.disarm
  split
  · refine ProgramKept.trans ?_ (State.put_programKept (f := SLE_STATUS_STANDBY) _ _ (by decide) (by decide))
    exact ⟨rfl, rfl, rfl, rfl⟩
  · exact ProgramKept.refl s

theorem State.stopProgram_running (s : State) : s.stopProgram.running = false := by
  unfold State.stopProgram
  extract_lets owned mac kept returned slot emptied stopped slot'
  have hstopped : stopped.running = false := by
    unfold State.running State.on
    rw [State.get_flag_ne _ _ (by decide), State.get_flag_self]
    rfl
  clear_value stopped
  refine (ProgramKept.running ?_).trans hstopped
  refine ProgramKept.trans ?_ ((State.takeReserve_moves _ 0).programKept rfl rfl rfl)
  refine ProgramKept.trans ?_ (State.disarm_programKept _)
  exact ⟨rfl, rfl, rfl, rfl⟩

theorem State.enterMode_programKept (s : State) (m : Nat) : ProgramKept s (s.enterMode m) := by
  have hprc : ∀ (z : State) {f : RegField} (v : Nat), f.inBlock 0 → ProgramKept z (z.put f v) := fun z _ v hf =>
    z.put_programKept_of_block v hf (by decide)
  unfold State.enterMode
  extract_lets ds flushed ended slot mac cleared unpolled left turned scanned
  have hflushed : ProgramKept s flushed := ProgramKept.foldl (fun z d => (z.finishDesc_moves d 0xA).programKept rfl rfl rfl) ds s
  have hcleared : ProgramKept flushed cleared := (flushed.abortCal_moves.programKept rfl rfl rfl).trans ⟨rfl, rfl, rfl, rfl⟩
  have hunpolled : ProgramKept cleared unpolled := cleared.put_programKept_of_block _ MAC_STATUS_POLL_EXT_block (by decide)
  have hleft : ProgramKept unpolled left := by
    unfold left
    split
    · exact unpolled.unfollow_moves.programKept rfl rfl rfl
    · exact (unpolled.leaveScan_moves _).programKept rfl rfl rfl
  have hturned : ProgramKept left turned :=
    (hprc left _ PRC_MODE_PREV_block).trans ((hprc _ _ PRC_MODE_MODE_block).trans (hprc _ _ PRC_MODE_PENDING_block))
  have hscanned : ProgramKept turned scanned := by
    unfold scanned
    split
    · exact turned.enterScan_programKept
    · exact ProgramKept.refl turned
  have hlast : ProgramKept scanned (scanned.disarm.steerOff.raise 7) :=
    scanned.disarm_programKept.trans (((State.steerOff_moves _).programKept rfl rfl rfl).trans (State.raise_programKept _ 7))
  exact hflushed.trans (hcleared.trans (hunpolled.trans (hleft.trans (hturned.trans (hscanned.trans hlast)))))

theorem State.stopAt_running (s : State) : s.stopAt.running = false := by
  unfold State.stopAt
  split
  · exact (State.enterMode_programKept _ _).running.trans s.stopProgram_running
  · exact s.stopProgram_running

/-- R118; that the stop goes before a swap due at the same boundary is the model's choice (log entry 26). -/
theorem slotBoundary_stops (a b : Fin 16) {s : State} (hrunning : s.running = true) (hlen : s.slotLen ≠ 0)
    (hstop : s.on SLE_STATUS_STOP_PEND = true) : completes (.slotBoundary a b) s fun t => t.running = false := by
  refine completes_of_goOn (execSlotBoundary_running a b hrunning hlen) ?_
  unfold State.boundary
  simp only [hstop, if_true]
  exact State.stopAt_running _

/-! The first start of a program (R143). -/

theorem State.on_flag_bit (s : State) {f : RegField} (b : Bool) (hf : f.width = 1) : (s.flag f b).on f = b := by
  unfold State.on
  rw [State.get_flag_self, hf]
  cases b <;> rfl

/-- STANDBY's image is the ACTIVE one after the exchange. -/
theorem State.swapBuffers_activeBuf (s : State) (st : Nat) : (s.swapBuffers st).activeBuf = s.standbyBuf := by
  unfold State.swapBuffers
  extract_lets flipped b img slot stored reserved twinless radio settled
  have hflipped : flipped.activeBuf = s.standbyBuf := by
    have hside : flipped.on SLE_STATUS_ACTIVE_BUF = !s.on SLE_STATUS_ACTIVE_BUF := by
      have hflag := s.on_flag_bit (f := SLE_STATUS_ACTIVE_BUF) (!s.on SLE_STATUS_ACTIVE_BUF) rfl
      exact (congrArg (· != 0) (State.get_put_ne _ _ (by decide))).trans hflag
    unfold State.activeBuf State.standbyBuf
    rw [hside]
    cases s.on SLE_STATUS_ACTIVE_BUF <;> rfl
  have hstored : ProgramKept flipped stored := by
    refine ProgramKept.trans ?_ ((State.persist_moves _ 0x400100 img).programKept rfl rfl rfl)
    refine ProgramKept.trans ?_ ((State.setObj_moves _ 0x400100 img).programKept rfl rfl rfl)
    exact ⟨rfl, rfl, rfl, rfl⟩
  have hreserved : ProgramKept stored reserved := (stored.takeReserve_moves _).programKept rfl rfl rfl
  have hsettled : ProgramKept reserved settled := by
    unfold settled
    split
    · exact (reserved.put_programKept_of_block _ CHZ_CTRL_TWIN_EN_block (by decide)).trans
        ((State.takeTwin_programKept _ false).trans ((twinless.with_radio_moves _).programKept rfl rfl rfl))
    · exact ProgramKept.refl reserved
  exact (hstored.trans (hreserved.trans (hsettled.trans (settled.raise_programKept 51)))).activeBuf.trans hflipped

/-- In Concentrator mode the halves of the part go to RX at the first start (R38). -/
def State.halvesToRx (s : State) : State :=
  if s.mode = modeConc then
    let s := s.setPath .a { s.path .a with goal := some 3 }
    if s.partT then s else s.setPath .b { s.path .b with goal := some 3 }
  else s

theorem State.halvesToRx_programKept (s : State) : ProgramKept s s.halvesToRx := by
  have hpath : ∀ (z : State) (p : Path) (c : PathCal), ProgramKept z (z.setPath p c) := fun z p c =>
    (z.setPath_moves p c).programKept rfl rfl rfl
  unfold State.halvesToRx
  extract_lets halfA
  split
  · split
    · exact hpath s _ _
    · exact (hpath s _ _).trans (hpath _ _ _)
  · exact ProgramKept.refl s

/-- The program whose buffer is ACTIVE runs from the present TNET on, its first slot filled as any other (R143). -/
def State.startActive (s : State) : State :=
  let started := (s.flag SLE_STATUS_RUNNING true).halvesToRx
  (started.beginSlot started.asn).takeStaged.stepThree.selectCells

theorem State.startActive_effect (s : State) : s.startActive.running = true ∧ s.startActive.activeBuf = s.activeBuf := by
  unfold State.startActive
  extract_lets started
  have hstarted : ProgramKept (s.flag SLE_STATUS_RUNNING true) started := State.halvesToRx_programKept _
  have hflag : (s.flag SLE_STATUS_RUNNING true).activeBuf = s.activeBuf := by
    unfold State.activeBuf State.on
    rw [State.get_flag_ne _ _ (by decide)]
    rfl
  clear_value started
  have hfilled : ProgramKept (started.beginSlot started.asn) (started.beginSlot started.asn).takeStaged.stepThree.selectCells :=
    (State.takeStaged_programKept _).trans ((State.stepThree_programKept _).trans (State.selectCells_programKept _))
  refine ⟨hfilled.running.trans ?_, hfilled.activeBuf.trans ?_⟩
  · exact hstarted.running.trans (s.on_flag_bit true rfl)
  · exact hstarted.activeBuf.trans hflag

theorem firstProgramStart_starts {s : State} (hidle : s.running = false) (harmed : s.standby = sbArmed) :
    completes (.firstProgramStart) s fun t => t.running = true ∧ t.activeBuf = s.standbyBuf := by
  have hexec : execFirstProgramStart s = goOn ((s.advanceTo s.firstBoundary).swapBuffers sbEmpty).startActive := by
    unfold execFirstProgramStart
    rw [if_neg (by simp [hidle, harmed])]
    rfl
  obtain ⟨hrunning, hactive⟩ := ((s.advanceTo s.firstBoundary).swapBuffers sbEmpty).startActive_effect
  have hadvance : Moves 259 s (s.advanceTo s.firstBoundary) := s.advanceTo_moves _
  have hstandby : (s.advanceTo s.firstBoundary).standbyBuf = s.standbyBuf := by
    unfold State.standbyBuf State.on
    rw [hadvance.get_eq SLE_STATUS_ACTIVE_BUF_block (by decide) rfl, hadvance.1 .slot rfl]
  exact completes_of_goOn hexec ⟨hrunning, hactive.trans ((State.swapBuffers_activeBuf _ _).trans hstandby)⟩

end Sys2Proof.Machine

/-! ## Lockstep: mismatches, the lock-up condition and its test, and the rate accumulator of TNET -/
namespace Sys2Proof.Machine

/-! A report to the fault collector is steady. -/

theorem State.logEntry_steady (s : State) (e : FaultEntry) : Steady s (s.logEntry e) := by
  unfold State.logEntry
  extract_lets entry es
  split
  · exact (s.with_faults_moves _).steady rfl rfl
  split
  · exact (s.with_faults_moves _).steady rfl rfl
  · exact (s.flag_steady true ERR_STATUS_LOG_LOST_block (by decide) (by decide)).trans
      ((State.put_steady _ _ ERR_STATUS_LOST_block (by decide) (by decide)).trans (State.raise_steady _ 11))

theorem State.fatal_steady (s : State) (src addr detail : Nat) (escalated : Bool) :
    Steady s (s.fatal src addr detail escalated) := by
  unfold State.fatal
  extract_lets e f logged faults opened faults'
  have hopened : Steady s opened := (s.logEntry_steady e).trans ((logged.with_faults_moves _).steady rfl rfl)
  split
  · exact hopened.trans (opened.raise_steady 10)
  · exact hopened.trans (((opened.with_faults_moves _).steady rfl rfl).trans ((State.requestReset_moves _ _).steady rfl rfl))

theorem State.report_steady (s : State) (cls src addr detail : Nat) (scrub : Bool) :
    Steady s (s.report cls src addr detail scrub) := by
  unfold State.report
  extract_lets e
  split
  · exact s.logEntry_steady e
  · exact (s.logEntry_steady e).trans (State.raise_steady _ 8)
  · split
    · exact s.fatal_steady src addr detail true
    · exact ((s.with_faults_moves _).steady rfl rfl).trans ((State.logEntry_steady _ _).trans (State.raise_steady _ 9))
  · exact s.fatal_steady src addr detail false

/-! The lock-up condition (R141). -/

theorem State.enter_steady (s : State) (p : Path) (st : Nat) : Steady s (s.enter p st) := by
  unfold State.enter
  extract_lets entered
  have hentered : Steady s entered :=
    (s.put_steady st (pathField_block p) (by decide) (by decide)).trans (State.raiseIf_steady _ _ 16)
  split
  · exact hentered.trans ((entered.with_radio_moves _).steady rfl rfl)
  · exact hentered.trans ((entered.with_radio_moves _).steady rfl rfl)
  · exact hentered

theorem State.forceRampDown_steady (s : State) (status : Nat) : Steady s (s.forceRampDown status) := by
  unfold State.forceRampDown
  split
  · split
    · exact (s.enter_steady .t 6).trans ((State.setTx_moves _ _).steady rfl rfl)
    · exact Steady.refl s
  · exact Steady.refl s

theorem State.lockUp_steady (s : State) : Steady (s.raise 54) s.lockUp :=
  (State.report_steady _ 3 7 0 0 false).trans ((State.forceRampDown_steady _ 8).trans
    ((State.requestReset_moves _ _).steady rfl rfl))

theorem State.lockUp_effect (s : State) : s.lockUp.event 54 = true ∧ s.lockUp.power.resetReq.contains 0x0A = true :=
  ⟨s.lockUp_steady.event 54 (s.event_raise 54), State.requestReset_contains _ 0x0A⟩

/-- A transmission that is gone does not come back when the one on the air ramps down. -/
theorem State.txUnit_setTx_none {s : State} {n : Nat} (h : s.txUnit n = none) (u : TxUnit) : (s.setTx u).txUnit n = none := by
  unfold State.txUnit State.setTx at *
  rw [List.find?_eq_none] at h ⊢
  intro v hv
  obtain ⟨v₀, hv₀, rfl⟩ := List.mem_map.mp hv
  have hid := h v₀ hv₀
  split
  · rename_i hsame
    rwa [← hsame]
  · exact hid

/-- The ramp-down leaves the receive units, and brings no transmission back. -/
theorem State.forceRampDown_units (s : State) (status : Nat) : (s.forceRampDown status).slot.rx = s.slot.rx ∧
    ∀ n, s.txUnit n = none → (s.forceRampDown status).txUnit n = none := by
  unfold State.forceRampDown
  split
  · split
    · have hslot : (s.enter .t 6).slot = s.slot := (s.enter_moves .t 6).1 .slot rfl
      refine ⟨(congrArg SlotEngine.rx hslot :), fun n hn => State.txUnit_setTx_none ?_ _⟩
      rwa [State.txUnit_congr (congrArg SlotEngine.tx hslot)]
    · exact ⟨rfl, fun _ hn => hn⟩
  · exact ⟨rfl, fun _ hn => hn⟩

theorem State.lockUp_units (s : State) : s.lockUp.slot.rx = s.slot.rx ∧
    ∀ n, s.txUnit n = none → s.lockUp.txUnit n = none := by
  obtain ⟨hrx, htx⟩ := ((s.raise 54).report 3 7 0 0).forceRampDown_units 8
  have hslot : ((s.raise 54).report 3 7 0 0).slot = s.slot := by simp
  unfold State.lockUp
  refine ⟨?_, fun n hn => ?_⟩
  · rw [State.requestReset_slot, hrx, hslot]
  · rw [State.txUnit_congr (congrArg SlotEngine.tx (State.requestReset_slot _ _))]
    refine htx n ?_
    rwa [State.txUnit_congr (congrArg SlotEngine.tx hslot)]

/-! A mismatch of a unit (R141). -/

theorem State.drop_units (s : State) (r : DropRec) : (s.drop r).slot.rx = s.slot.rx ∧ (s.drop r).slot.tx = s.slot.tx := by
  unfold State.drop
  split <;> exact ⟨rfl, rfl⟩

/-- A mismatch is recorded with E53, the units as they were; a third one within W slots locks up (log entry 25). -/
theorem State.mismatched_cases (s : State) (st : Nat) (r : DropRec) : ∃ z : State, z.slot.rx = s.slot.rx ∧
    z.slot.tx = s.slot.tx ∧ z.event 53 = true ∧ (s.mismatched st r = z ∨ s.mismatched st r = z.lockUp) := by
  unfold State.mismatched
  extract_lets counted reported raised now old slot recorded
  obtain ⟨hrx, htx⟩ := (counted.put SLE_TWINSTAT_LAST_ASN (r.asn % 65536)).drop_units r
  have hslot : raised.slot = ((counted.put SLE_TWINSTAT_LAST_ASN (r.asn % 65536)).drop r).slot := by simp [raised, reported]
  refine ⟨recorded, ?_, ?_, (State.event_raise reported 53 :), ?_⟩
  · exact (congrArg SlotEngine.rx hslot).trans hrx
  · exact (congrArg SlotEngine.tx hslot).trans htx
  · clear_value old now
    split
    · split
      · exact .inr rfl
      · exact .inl rfl
    · exact .inl rfl

/-- Of units gone before it, a mismatch brings none back; E53 is raised. -/
theorem State.mismatched_effect (s : State) (st : Nat) (r : DropRec) : (s.mismatched st r).event 53 = true ∧
    (∀ n, s.rxUnit n = none → (s.mismatched st r).rxUnit n = none) ∧
    ∀ n, s.txUnit n = none → (s.mismatched st r).txUnit n = none := by
  obtain ⟨z, hrx, htx, hevent, hsame | hlock⟩ := s.mismatched_cases st r
  · rw [hsame]
    exact ⟨hevent, fun n hn => (State.rxUnit_congr hrx n).trans hn, fun n hn => (State.txUnit_congr htx n).trans hn⟩
  · obtain ⟨hrxLock, htxLock⟩ := z.lockUp_units
    rw [hlock]
    refine ⟨z.lockUp_steady.event 53 (z.event_raise_of_event 54 hevent), fun n hn => ?_, fun n hn => htxLock n ?_⟩
    · exact (State.rxUnit_congr (hrxLock.trans hrx) n).trans hn
    · exact (State.txUnit_congr htx n).trans hn

theorem twinMismatch_rx {n : Nat} {u : RxUnit} {s : State} (hunit : s.rxUnit n = some u) :
    completes (.twinMismatch n) s fun t => t.rxUnit n = none ∧ t.event 53 = true := by
  have hid : u.id = n := by simpa using List.find?_some hunit
  obtain ⟨r, hr⟩ : ∃ r, s.mismatchRx u = (s.endRx u).mismatched u.stage r := ⟨_, rfl⟩
  have hexec : execTwinMismatch n s = goOn ((s.endRx u).mismatched u.stage r) := by
    unfold execTwinMismatch
    rw [hunit, ← hr]
  obtain ⟨hevent, hrx, -⟩ := (s.endRx u).mismatched_effect u.stage r
  exact completes_of_goOn hexec ⟨hrx n (hid ▸ s.rxUnit_endRx u), hevent⟩

/-- A data transmission in the pipeline: its descriptor completes with TWIN. -/
theorem twinMismatch_tx {n : Nat} {u : TxUnit} {s : State} (hrx : s.rxUnit n = none) (hunit : s.txUnit n = some u)
    (hphase : u.phase = .pipeline) (hkind : u.kind = .data) :
    completes (.twinMismatch n) s fun t => t.txUnit n = none ∧ t.event 53 = true := by
  have hid : u.id = n := by simpa using List.find?_some hunit
  obtain ⟨r, hr⟩ : ∃ r, s.mismatchTx u = (s.endTx u 8).mismatched u.stage r := by
    unfold State.mismatchTx
    simp only [hphase]
    exact ⟨_, rfl⟩
  have hexec : execTwinMismatch n s = goOn ((s.endTx u 8).mismatched u.stage r) := by
    unfold execTwinMismatch
    rw [hrx, hunit, ← hr]
  obtain ⟨hevent, -, htx⟩ := (s.endTx u 8).mismatched_effect u.stage r
  exact completes_of_goOn hexec ⟨htx n (hid ▸ s.txUnit_endTx (by simp [hkind]) 8), hevent⟩

theorem twintestInject_sequencer {v : Word} {s : State} (hmode : s.mode = modeTest) (hseq : bit v.toNat 9 = true) :
    completes (.twintestInject v) s fun t => t.event 54 = true ∧ t.power.resetReq.contains 0x0A = true := by
  have hexec : execTwintestInject v s = goOn s.lockUp := by
    unfold execTwintestInject
    rw [if_neg (not_not_intro hmode), if_pos hseq]
  exact completes_of_goOn hexec s.lockUp_effect

/-- R142: the stage and the bit of the next output that is corrupted. -/
theorem twintestInject_unit {v : Word} {s : State} (hmode : s.mode = modeTest) (hseq : bit v.toNat 9 = false) :
    completes (.twintestInject v) s fun t => t.slot.twinTest = some (slice v.toNat 0 4, slice v.toNat 4 5) := by
  have hexec : execTwintestInject v s =
      goOn { s with slot := { s.slot with twinTest := some (slice v.toNat 0 4, slice v.toNat 4 5) } } := by
    unfold execTwintestInject
    rw [if_neg (not_not_intro hmode), if_neg (Bool.eq_false_iff.mp hseq)]
  exact completes_of_goOn hexec rfl

/-! The rate accumulator of TNET (R163). -/

theorem rateAccumulatorOverflow_high {s : State} (h : (16000000000 : Int) ≤ s.mac.rateAcc) :
    completes (.rateAccumulatorOverflow) s fun t => t.tnet = (s.tnet + 2 ^ 64 - 1) % 2 ^ 64 ∧
      t.mac.rateAcc = s.mac.rateAcc - 16000000000 := by
  have hexec : execRateAccumulatorOverflow s = goOn { s with
      tnet := (s.tnet + 2 ^ 64 - 1) % 2 ^ 64, mac := { s.mac with rateAcc := s.mac.rateAcc - 16000000000 } } := by
    unfold execRateAccumulatorOverflow
    exact if_pos h
  exact completes_of_goOn hexec ⟨rfl, rfl⟩

theorem rateAccumulatorOverflow_low {s : State} (h : s.mac.rateAcc ≤ -(16000000000 : Int)) :
    completes (.rateAccumulatorOverflow) s fun t => t.tnet = (s.tnet + 1) % 2 ^ 64 ∧
      t.mac.rateAcc = s.mac.rateAcc + 16000000000 := by
  have hexec : execRateAccumulatorOverflow s = goOn { s with
      tnet := (s.tnet + 1) % 2 ^ 64, mac := { s.mac with rateAcc := s.mac.rateAcc + 16000000000 } } := by
    unfold execRateAccumulatorOverflow
    exact (if_neg (by omega)).trans (if_pos h)
  exact completes_of_goOn hexec ⟨rfl, rfl⟩

/-- Settles O15: each case of a boundary, of a mismatch and of the rate accumulator by its own lemma. That a stop goes before a
due swap and that the rate is carried per SE cycle is the model's choice (log entries 26 and 102). -/
theorem slotBoundariesAndLockstep : Obligations.SlotBoundariesAndLockstep := by
  unfold Obligations.SlotBoundariesAndLockstep
  exact ⟨fun a b _ => slotBoundary_next a b, fun a b _ => slotBoundary_stops a b, fun _ => firstProgramStart_starts,
    fun _ _ _ => twinMismatch_rx, fun _ _ _ => twinMismatch_tx, fun s => ⟨s.lockUp, rfl, s.lockUp_effect⟩,
    fun _ _ => twintestInject_sequencer, fun _ _ => twintestInject_unit, fun _ => rateAccumulatorOverflow_high,
    fun _ => rateAccumulatorOverflow_low⟩

end Sys2Proof.Machine

/-! ## Context commands, transmit queues, the completion FIFO and the delivery ring -/
namespace Sys2Proof.Machine

/-! Numbers and images in memory. -/

/-- What was stored reads back. -/
theorem State.bytes_setBytes (s : State) (a : Nat) (bs : List Byte) : (s.setBytes a bs).bytes a bs.length = bs :=
  List.ext_getElem (by simp [State.bytes]) fun k hk _ => by
    have hk : k < bs.length := by simpa [State.bytes] using hk
    simpa [State.bytes] using s.byte_setBytes a bs k hk

theorem leNat_leBytes (n v : Nat) : leNat (leBytes n v) = v % 256 ^ n := by
  induction n generalizing v with
  | zero => simp [leBytes, leNat, Nat.mod_one]
  | succ n ih =>
    rw [leBytes, leNat, ih, BitVec.toNat_ofNat, Nat.pow_succ' (n := n)]
    exact Nat.mod_mul.symm

theorem State.num_setNum (s : State) (a n v : Nat) : (s.setNum a n v).num a n = v % 256 ^ n := by
  have hread := s.bytes_setBytes a (leBytes n v)
  rw [leBytes_length] at hread
  unfold State.num State.setNum
  rw [hread, leNat_leBytes]

theorem State.bytes_congr {s t : State} {a n : Nat} (h : ∀ k < n, t.byte (a + k) = s.byte (a + k)) : t.bytes a n = s.bytes a n :=
  List.map_congr_left fun k hk => h k (List.mem_range.mp hk)

/-- R317: whole words written over word-aligned poison entries end their poison and hold what was written. -/
theorem State.bytes_devWrite (s : State) {a : Nat} {bs : List Byte} (hpoison : ∀ e ∈ s.poison, e.1 % 4 = 0) (ha : a % 4 = 0)
    (hlen : bs.length % 4 = 0) : (s.devWrite a bs).bytes a bs.length = bs := by
  have huncut : (s.poison.filter fun e => decide (a < e.1 + 4) && decide (e.1 < a + bs.length) &&
      !(decide (a ≤ e.1) && decide (e.1 + 4 ≤ a + bs.length))) = [] := by
    refine List.filter_eq_nil_iff.mpr fun e he => ?_
    have hword := hpoison e he
    simp only [Bool.and_eq_true, Bool.not_eq_true', Bool.and_eq_false_iff, decide_eq_true_eq, decide_eq_false_iff_not]
    omega
  unfold State.devWrite
  simp only [huncut, List.isEmpty_nil, if_true]
  exact State.bytes_setBytes _ a bs

theorem contextImage_length (img : List Byte) : (contextImage img).length = 64 := by
  simp only [contextImage, setAt, bytesAt, List.length_set, List.length_append, List.length_take, List.length_drop,
    List.length_replicate]
  omega

theorem bit_clearBit (v n : Nat) : bit (clearBit v n) n = false := by
  unfold clearBit
  split
  · rename_i hset
    unfold bit at hset ⊢
    have hle : 2 ^ n ≤ v := Nat.le_of_not_lt fun hlt => by
      rw [Nat.div_eq_of_lt hlt] at hset
      exact absurd hset (by decide)
    obtain ⟨w, rfl⟩ := Nat.exists_eq_add_of_le hle
    rw [Nat.add_comm, Nat.add_div_right _ (Nat.two_pow_pos n)] at hset
    simp only [Nat.add_sub_cancel_left, beq_iff_eq, beq_eq_false_iff_ne] at hset ⊢
    omega
  · rename_i hclear
    exact Bool.eq_false_iff.mpr hclear

/-! A context's flags and the MAC's registers under the completion of descriptors (R155, R177). -/

theorem State.ctxFlag_setDesc (s : State) {c : Nat} (hc : c < 1024) (d off n v b : Nat) :
    (s.setDesc d off n v).ctxFlag c b = s.ctxFlag c b := by
  unfold State.setDesc
  split
  · rfl
  · unfold State.ctxFlag State.ctx
    rw [State.num_setNum_ne _ _ (.inl (by unfold ctxAddr descAddr; omega))]

/-- Dropping a pending frame writes at most the PENDING of some context (R170). -/
theorem State.ctxFlag_dropPending (s : State) (d i b : Nat) : (s.dropPending d).ctxFlag i b = s.ctxFlag i b := by
  unfold State.dropPending
  split
  · rfl
  · unfold State.ctxFlag State.ctx
    exact congrArg (bit · b) (State.num_setNum_ne _ _ (by unfold ctxAddr; omega))

theorem State.ctxFlag_finishDesc (s : State) {i : Nat} (hi : i < 1024) (d status b : Nat) :
    (s.finishDesc d status).ctxFlag i b = s.ctxFlag i b := by
  obtain ⟨z, -, hbytes, hraise⟩ := State.txDone_eq_raise ((s.dequeueEntry d).dropPending d) d status
  unfold State.finishDesc
  calc (((s.dequeueEntry d).dropPending d).txDone d status).ctxFlag i b
      = (((s.dequeueEntry d).dropPending d).setDesc d 16 1 status).ctxFlag i b := by
        unfold State.ctxFlag State.ctx
        rw [hraise, (z.raise_moves 56).num_eq rfl, State.num_congr fun k _ => hbytes _]
    _ = ((s.dequeueEntry d).dropPending d).ctxFlag i b := State.ctxFlag_setDesc _ hi d 16 1 status b
    _ = s.ctxFlag i b := (s.dequeueEntry d).ctxFlag_dropPending d i b

theorem State.ctxFlag_flushContext (s : State) {i : Nat} (hi : i < 1024) (c b : Nat) :
    (s.flushContext c).ctxFlag i b = s.ctxFlag i b := by
  unfold State.flushContext
  extract_lets ds
  clear_value ds
  induction ds generalizing s with
  | nil => rfl
  | cons d ds ih => exact (ih _).trans (s.ctxFlag_finishDesc hi d 0x10 b)

/-- Of the MAC's registers a completion writes the lost count alone. -/
theorem State.get_txDone (s : State) (d status : Nat) {f : RegField} (hf : f.inBlock 5) (hlost : f.key ≠ MAC_TXDONE_LOST.key) :
    (s.txDone d status).get f = s.get f := by
  unfold State.txDone
  extract_lets stored mac queued
  rw [(queued.raise_moves 56).get_eq hf (by decide) rfl]
  unfold queued
  split
  · exact (s.setDesc_moves d 16 1 status).get_eq hf (by decide) rfl
  · rw [State.get_bump_ne _ hlost]
    exact (s.setDesc_moves d 16 1 status).get_eq hf (by decide) rfl

theorem State.get_finishDesc (s : State) (d status : Nat) {f : RegField} (hf : f.inBlock 5)
    (hlost : f.key ≠ MAC_TXDONE_LOST.key) : (s.finishDesc d status).get f = s.get f := by
  unfold State.finishDesc
  rw [State.get_txDone _ d status hf hlost, (State.dropPending_moves _ d).get_eq hf (by decide) rfl]
  rfl

theorem State.get_flushContext (s : State) (c : Nat) {f : RegField} (hf : f.inBlock 5) (hlost : f.key ≠ MAC_TXDONE_LOST.key) :
    (s.flushContext c).get f = s.get f := by
  unfold State.flushContext
  extract_lets ds
  clear_value ds
  induction ds generalizing s with
  | nil => rfl
  | cons d ds ih => exact (ih _).trans (s.get_finishDesc d 0x10 hf hlost)

theorem State.get_parentLost (s : State) (was : Option Nat) {f : RegField} (hf : f.inBlock 5)
    (hsync : f.key ≠ MAC_STATUS_SYNC.key) : (s.parentLost was).get f = s.get f := by
  unfold State.parentLost
  split
  · rfl
  split
  · rw [State.leaveScan_eq, (State.restFrom_moves _ _ _).get_eq hf (by decide) rfl, State.get_put_ne _ _ hsync]
  · rfl

/-! Context commands (R155, R180). -/

theorem State.stageContext_rejected {s : State} (c : CtxStage) (hbusy : s.on MAC_CTXSTAT_BUSY = true) :
    s.stageContext c = s.flag MAC_CTXSTAT_REJ true := by
  unfold State.stageContext
  exact if_pos hbusy

/-- R155: a WRITE while another command waits. -/
theorem contextWrite_rejected (i : Fin 1024) {s : State} (hbusy : s.on MAC_CTXSTAT_BUSY = true) :
    completes (.contextWrite i) s fun t => t.get MAC_CTXSTAT_REJ = 1 ∧ t.mac = s.mac ∧
      t.bytes (ctxAddr i) 64 = s.bytes (ctxAddr i) 64 :=
  completes_of_goOn (congrArg goOn (State.stageContext_rejected _ hbusy)) ⟨State.get_flag_self _ _ _, rfl, rfl⟩

section idle
variable {s : State} (hbusy : s.on MAC_CTXSTAT_BUSY = false)
include hbusy

/-- R155: with a program running the image or the deletion waits for the next boundary. -/
theorem State.stageContext_waits (c : CtxStage) (hrunning : s.running = true) :
    (s.stageContext c).mac.staged = some c ∧ (s.stageContext c).get MAC_CTXSTAT_BUSY = 1 ∧
      (s.stageContext c).get MAC_CTXSTAT_REJ = 0 := by
  have hstaged : s.stageContext c =
      (({ s with mac := { s.mac with staged := some c } }).flag MAC_CTXSTAT_REJ false).flag MAC_CTXSTAT_BUSY true := by
    unfold State.stageContext
    rw [if_neg (Bool.eq_false_iff.mp hbusy)]
    refine if_pos ?_
    unfold State.running State.on
    rw [State.get_flag_ne _ _ (by decide), State.get_flag_ne _ _ (by decide)]
    exact hrunning
  rw [hstaged]
  exact ⟨rfl, State.get_flag_self _ _ _, (State.get_flag_ne _ _ (by decide)).trans (State.get_flag_self _ _ _)⟩

theorem contextWrite_waits (i : Fin 1024) (hrunning : s.running = true) :
    completes (.contextWrite i) s fun t => t.mac.staged = some { index := i, delete := false, image := s.mac.ctxBuf } ∧
      t.get MAC_CTXSTAT_BUSY = 1 ∧ t.get MAC_CTXSTAT_REJ = 0 := ⟨_, rfl, State.stageContext_waits hbusy _ hrunning⟩

theorem contextDelete_waits (i : Fin 1024) (hrunning : s.running = true) :
    completes (.contextDelete i) s fun t => t.mac.staged = some { index := i, delete := true, image := [] } ∧
      t.get MAC_CTXSTAT_BUSY = 1 ∧ t.get MAC_CTXSTAT_REJ = 0 := ⟨_, rfl, State.stageContext_waits hbusy _ hrunning⟩

/-- R155: with no program running it takes effect at once, on a state `z` of which only BUSY and REJ, the staged image and the
units have changed. -/
theorem State.stageContext_applies (c : CtxStage) (hidle : s.running = false) : ∃ (z : State) (was : Option Nat),
    Moves 4294967680 s z ∧ z.get MAC_CTXSTAT_BUSY = 0 ∧ z.get MAC_CTXSTAT_REJ = 0 ∧ s.stageContext c =
      (if c.delete then (z.setCtx c.index 10 2 (clearBit (z.ctx c.index 10 2) 0)).flushContext c.index
        else z.devWrite (ctxAddr c.index) (contextImage c.image)).parentLost was := by
  have hidle' : (({ s with mac := { s.mac with staged := some c } }.flag MAC_CTXSTAT_REJ false).flag
      MAC_CTXSTAT_BUSY true).running = false := by
    unfold State.running State.on
    rw [State.get_flag_ne _ _ (by decide), State.get_flag_ne _ _ (by decide)]
    exact hidle
  unfold State.stageContext
  simp only [hbusy, hidle', Bool.false_eq_true, if_false]
  unfold State.applyContext
  refine ⟨_, _, ?_, ?_, ?_, rfl⟩
  · exact ((((((s.with_mac_moves _).mono rfl).flag MAC_CTXSTAT_REJ_block rfl).flag MAC_CTXSTAT_BUSY_block rfl).step
      (State.with_mac_moves _ _) rfl).flag MAC_CTXSTAT_BUSY_block rfl).step (State.with_slot_moves _ _) rfl
  · exact State.get_flag_self _ MAC_CTXSTAT_BUSY false
  · refine (State.get_flag_ne _ (f := MAC_CTXSTAT_BUSY) false (by decide)).trans ?_
    exact (State.get_flag_ne _ (f := MAC_CTXSTAT_BUSY) true (by decide)).trans (State.get_flag_self _ MAC_CTXSTAT_REJ false)

/-- R155: a WRITE with no program running, where the poison entries stand at words: the context holds the image. -/
theorem contextWrite_applied (i : Fin 1024) (hidle : s.running = false) (hpoison : Poison.wf s.poison = true) :
    completes (.contextWrite i) s fun t => t.bytes (ctxAddr i) 64 = contextImage s.mac.ctxBuf ∧
      t.get MAC_CTXSTAT_BUSY = 0 ∧ t.get MAC_CTXSTAT_REJ = 0 := by
  obtain ⟨z, was, hmoves, hnotBusy, htaken, happlied⟩ :=
    State.stageContext_applies hbusy { index := i, delete := false, image := s.mac.ctxBuf } hidle
  refine completes_of_goOn (congrArg goOn happlied) ⟨?_, ?_, ?_⟩
  · have hwords : ∀ e ∈ z.poison, e.1 % 4 = 0 := fun e he => by
      rw [hmoves.1 .poison rfl] at he
      unfold Poison.wf at hpoison
      simp only [Bool.and_eq_true, List.all_eq_true, beq_iff_eq] at hpoison
      exact hpoison.2 e he
    have hwritten := z.bytes_devWrite (a := ctxAddr i) (bs := contextImage s.mac.ctxBuf) hwords (by unfold ctxAddr; omega)
      (by rw [contextImage_length])
    rw [contextImage_length] at hwritten
    exact (State.bytes_congr fun k _ => (State.parentLost_moves _ was).1 .mem rfl _).trans hwritten
  · rw [State.get_parentLost _ _ MAC_CTXSTAT_BUSY_block (by decide)]
    exact ((z.devWrite_moves _ _).get_eq MAC_CTXSTAT_BUSY_block (by decide) rfl).trans hnotBusy
  · rw [State.get_parentLost _ _ MAC_CTXSTAT_REJ_block (by decide)]
    exact ((z.devWrite_moves _ _).get_eq MAC_CTXSTAT_REJ_block (by decide) rfl).trans htaken

/-- R155: a DELETE with no program running. -/
theorem contextDelete_applied (i : Fin 1024) (hidle : s.running = false) :
    completes (.contextDelete i) s fun t => t.ctxFlag i 0 = false ∧ t.get MAC_CTXSTAT_BUSY = 0 := by
  obtain ⟨z, was, -, hnotBusy, -, happlied⟩ :=
    State.stageContext_applies hbusy { index := i, delete := true, image := [] } hidle
  refine completes_of_goOn (congrArg goOn happlied) ⟨?_, ?_⟩
  · calc _ = (State.flushContext (z.setCtx i 10 2 (clearBit (z.ctx i 10 2) 0)) i).ctxFlag i 0 := by
          unfold State.ctxFlag State.ctx
          rw [(State.parentLost_moves _ was).num_eq rfl]
          rfl
      _ = (z.setCtx i 10 2 (clearBit (z.ctx i 10 2) 0)).ctxFlag i 0 := State.ctxFlag_flushContext _ i.isLt i 0
      _ = false := by
          unfold State.ctxFlag State.ctx State.setCtx
          rw [State.num_setNum, show 256 ^ 2 = 2 ^ 16 from rfl, bit_mod_two_pow (by decide), bit_clearBit]
  · rw [State.get_parentLost _ _ MAC_CTXSTAT_BUSY_block (by decide)]
    refine (State.get_flushContext _ _ MAC_CTXSTAT_BUSY_block (by decide)).trans ?_
    exact ((z.setCtx_moves _ _ _ _).get_eq MAC_CTXSTAT_BUSY_block (by decide) rfl).trans hnotBusy

theorem contextRead_copies (i : Fin 1024) :
    completes (.contextRead i) s fun t => t.mac.ctxBuf = s.bytes (ctxAddr i) 64 ∧ t.get MAC_CTXSTAT_REJ = 0 := by
  refine completes_of_goOn (t := ({ s with mac := { s.mac with ctxBuf := s.bytes (ctxAddr i) 64 } }.flag
    MAC_CTXSTAT_REJ false)) ?_ ⟨rfl, State.get_flag_self _ _ _⟩
  show execContextRead i s = _
  unfold execContextRead
  exact if_neg (Bool.eq_false_iff.mp hbusy)

end idle

/-! Queues and the completion FIFO (R170, R177, R180). -/

/-- A descriptor reads as before after a write to octets of it that do not overlap. -/
theorem State.desc_setDesc (s : State) (d v : Nat) {off n o k : Nat} (h : o + k ≤ off ∨ off + n ≤ o) :
    (s.setDesc d off n v).desc d o k = s.desc d o k := by
  unfold State.setDesc
  split
  · rfl
  · exact s.num_setNum_ne v (by omega)

/-- A push clears STATUS, the retry count and the time correction of its descriptor (R177). -/
def State.pushed (s : State) (i : Nat) : State := ((s.setDesc i 16 1 0).setDesc i 17 1 0).setDesc i 14 2 0x8000

theorem State.pushed_moves (s : State) (i : Nat) : Moves 4 s (s.pushed i) :=
  ((s.setDesc_moves _ _ _ _).trans (State.setDesc_moves _ _ _ _ _)).trans (State.setDesc_moves _ _ _ _ _)

theorem State.desc_pushed (s : State) (i : Nat) {o k : Nat} (h : o + k ≤ 14) : (s.pushed i).desc i o k = s.desc i o k := by
  unfold State.pushed
  rw [State.desc_setDesc _ _ _ (.inl (by omega)), State.desc_setDesc _ _ _ (.inl (by omega)),
    State.desc_setDesc _ _ _ (.inl (by omega))]

theorem State.ctxFlag_pushed (s : State) {c : Nat} (hc : c < 1024) (i b : Nat) : (s.pushed i).ctxFlag c b = s.ctxFlag c b := by
  unfold State.pushed
  rw [State.ctxFlag_setDesc _ hc, State.ctxFlag_setDesc _ hc, State.ctxFlag_setDesc _ hc]

/-- R177: the descriptor joins its queue. -/
theorem txPush_queues (i : Fin 4096) {s : State} (hvalid : s.pushInvalid i = false) (hqueue : s.desc i 8 1 ≠ 0xFE) :
    completes (.txPush i) s fun t => t.mac.queue = s.mac.queue ++
      [{ desc := i, ctx := s.desc i 2 2, queue := s.desc i 8 1, cls := slice (s.desc i 9 1) 0 2 }] := by
  have hexec : execTxPush i s = goOn { s.pushed i with mac := { (s.pushed i).mac with queue := (s.pushed i).mac.queue ++
      [{ desc := i, ctx := s.desc i 2 2, queue := (s.pushed i).desc i 8 1, cls := slice ((s.pushed i).desc i 9 1) 0 2 }] } } := by
    unfold execTxPush
    refine (if_neg (Bool.eq_false_iff.mp hvalid)).trans (if_neg ?_)
    rwa [← s.desc_pushed i (o := 8) (k := 1) (by decide)] at hqueue
  refine completes_of_goOn hexec ?_
  show (s.pushed i).mac.queue ++ _ = _
  rw [(s.pushed_moves i).1 .mac rfl, s.desc_pushed i (by decide), s.desc_pushed i (by decide)]

/-- R170: queue 0xFE puts the frame into the indirect store of its context, which has room for it. -/
theorem txPush_pends (i : Fin 4096) {s : State} (hvalid : s.pushInvalid i = false) (hqueue : s.desc i 8 1 = 0xFE)
    (hctx : s.desc i 2 2 < 1024) (hindirect : s.ctxFlag (s.desc i 2 2) 2 = true)
    (hmine : (s.mac.pending.filter (fun e => e.ctx == s.desc i 2 2)).length < 4) (hall : s.mac.pending.length < 2048) :
    completes (.txPush i) s fun t =>
      t.mac.pending = s.mac.pending ++ [{ desc := i, ctx := s.desc i 2 2, since := s.clock }] := by
  have hmac : (s.pushed i).mac = s.mac := (s.pushed_moves i).1 .mac rfl
  have hclock : (s.pushed i).clock = s.clock := (s.pushed_moves i).1 .clock rfl
  obtain ⟨n, hexec⟩ : ∃ n, execTxPush i s = goOn (State.setPending { s.pushed i with mac := { (s.pushed i).mac with
      pending := (s.pushed i).mac.pending ++ [{ desc := i, ctx := s.desc i 2 2, since := (s.pushed i).clock }] } }
        (s.desc i 2 2) n) := by
    unfold execTxPush
    refine ⟨_, (if_neg (Bool.eq_false_iff.mp hvalid)).trans ((if_pos ?_).trans ((if_neg ?_).trans (if_neg ?_)))⟩
    · exact (s.desc_pushed i (by decide)).trans hqueue
    · show ¬(_ ∨ (!(s.pushed i).ctxFlag (s.desc i 2 2) 2) = true)
      rw [s.ctxFlag_pushed hctx, hindirect]
      rintro (hbroadcast | hdirect)
      · omega
      · exact absurd hdirect (by decide)
    · show ¬(4 ≤ ((s.pushed i).mac.pending.filter fun e => e.ctx == s.desc i 2 2).length ∨
        2048 ≤ (s.pushed i).mac.pending.length)
      rw [hmac]
      omega
  refine completes_of_goOn hexec ?_
  rw [(State.setPending_moves _ _ n).1 .mac rfl]
  show (s.pushed i).mac.pending ++ _ = _
  rw [hmac, hclock]

/-- A completion moves no entry of a queue or of the indirect store. -/
theorem State.txDone_waiting (s : State) (d status : Nat) :
    (s.txDone d status).mac.queue = s.mac.queue ∧ (s.txDone d status).mac.pending = s.mac.pending := by
  have hmac : (s.setDesc d 16 1 status).mac = s.mac := (s.setDesc_moves d 16 1 status).1 .mac rfl
  have hwaiting : (s.setDesc d 16 1 status).mac.queue = s.mac.queue ∧ (s.setDesc d 16 1 status).mac.pending = s.mac.pending :=
    ⟨congrArg Mac.queue hmac, congrArg Mac.pending hmac⟩
  unfold State.txDone
  extract_lets stored mac queued
  rw [State.raise_mac]
  unfold queued
  split
  · exact hwaiting
  · exact hwaiting

/-- R177: an invalid push completes at once. -/
theorem txPush_invalid (i : Fin 4096) {s : State} (hinvalid : s.pushInvalid i = true) :
    completes (.txPush i) s fun t => t.event 56 = true ∧ t.mac.queue = s.mac.queue ∧ t.mac.pending = s.mac.pending := by
  have hexec : execTxPush i s = goOn (s.txDone i 0xF) := by
    unfold execTxPush
    exact if_pos hinvalid
  refine completes_of_goOn hexec ⟨?_, s.txDone_waiting i 0xF⟩
  obtain ⟨z, -, -, hraise⟩ := s.txDone_eq_raise i 0xF
  rw [hraise, State.event_raise]

theorem txDonePop_drops (s : State) : completes (.txDonePop) s fun t => t.mac.txDone = s.mac.txDone.drop 1 := ⟨_, rfl, rfl⟩

theorem State.dropPending_waiting (s : State) (d : Nat) : (s.dropPending d).mac.queue = s.mac.queue ∧
    (s.dropPending d).mac.pending = s.mac.pending.filter (fun e => e.desc != d) := by
  unfold State.dropPending
  split
  · rename_i hnone
    refine ⟨rfl, (List.filter_eq_self.mpr fun e he => ?_).symm⟩
    simpa using List.find?_eq_none.mp hnone e he
  · dsimp only
    rw [(State.setPending_moves _ _ _).1 .mac rfl]
    exact ⟨rfl, rfl⟩

/-- Completing a descriptor takes all its entries out of the queues and the indirect store, and no other. -/
theorem State.finishDesc_waiting (s : State) (d status : Nat) :
    (s.finishDesc d status).mac.queue = s.mac.queue.filter (fun e => e.desc != d) ∧
    (s.finishDesc d status).mac.pending = s.mac.pending.filter (fun e => e.desc != d) := by
  obtain ⟨hqueue, hpending⟩ := (s.dequeueEntry d).dropPending_waiting d
  obtain ⟨hqueue', hpending'⟩ := ((s.dequeueEntry d).dropPending d).txDone_waiting d status
  exact ⟨hqueue'.trans hqueue, hpending'.trans hpending⟩

theorem State.finishDescs_waiting (ds : List Nat) (status : Nat) (s : State) :
    (ds.foldl (fun (s : State) d => s.finishDesc d status) s).mac.queue = s.mac.queue.filter (fun e => e.desc ∉ ds) ∧
    (ds.foldl (fun (s : State) d => s.finishDesc d status) s).mac.pending = s.mac.pending.filter (fun e => e.desc ∉ ds) := by
  induction ds generalizing s with
  | nil =>
    exact ⟨(List.filter_eq_self.mpr fun _ _ => decide_eq_true List.not_mem_nil).symm,
      (List.filter_eq_self.mpr fun _ _ => decide_eq_true List.not_mem_nil).symm⟩
  | cons d ds ih =>
    have hkept : ∀ x, (decide (x ∉ ds) && x != d) = decide (x ∉ d :: ds) := fun x => by
      rw [Bool.eq_iff_iff]
      simp only [Bool.and_eq_true, decide_eq_true_eq, bne_iff_ne, ne_eq, List.mem_cons, not_or]
      exact And.comm
    obtain ⟨hqueue, hpending⟩ := s.finishDesc_waiting d status
    obtain ⟨hqueues, hpendings⟩ := ih (s.finishDesc d status)
    rw [List.foldl_cons, hqueues, hpendings, hqueue, hpending, List.filter_filter, List.filter_filter]
    exact ⟨List.filter_congr fun e _ => hkept e.desc, List.filter_congr fun e _ => hkept e.desc⟩

/-- R180: what stays in the queue is under way. -/
theorem queueFlush_effect (q : Fin 16) (s : State) :
    completes (.queueFlush q) s fun t => ∀ e ∈ t.mac.queue, e.queue = q.val → e.busy = true := by
  refine ⟨_, rfl, fun e he hq => ?_⟩
  rw [(State.finishDescs_waiting _ 0x10 s).1] at he
  obtain ⟨hwaits, hkept⟩ := List.mem_filter.mp he
  refine Decidable.byContradiction fun hbusy => ?_
  exact of_decide_eq_true hkept (List.mem_filterMap.mpr ⟨e, hwaits, if_pos ⟨hq, congrArg (!·) (Bool.eq_false_iff.mpr hbusy)⟩⟩)

/-- R170: what stays in the indirect store is under way. -/
theorem flushPending_effect (s : State) : completes (.flushPending) s fun t => ∀ e ∈ t.mac.pending, e.busy = true := by
  refine ⟨_, rfl, fun e he => ?_⟩
  rw [(State.finishDescs_waiting _ 0x10 s).2] at he
  obtain ⟨hwaits, hkept⟩ := List.mem_filter.mp he
  refine Decidable.byContradiction fun hbusy => ?_
  exact of_decide_eq_true hkept (List.mem_filterMap.mpr ⟨e, hwaits, if_neg hbusy⟩)

/-! The delivery ring (R174, R175). -/

/-- R175: a write of RD inside the occupied entries. -/
theorem dqRelease_releases {rd : Nat} {s : State} (hrd : rd < s.get MAC_FBCFG_DQ_SIZE)
    (hinside : (rd + s.get MAC_FBCFG_DQ_SIZE - s.get MAC_DQ_RD) % s.get MAC_FBCFG_DQ_SIZE ≤ s.dqLevel) :
    completes (.dqRelease rd) s fun t => t.get MAC_DQ_RD = rd % 4096 ∧ t.mac.dqBlocks =
      s.mac.dqBlocks.drop ((rd + s.get MAC_FBCFG_DQ_SIZE - s.get MAC_DQ_RD) % s.get MAC_FBCFG_DQ_SIZE) := by
  refine ⟨_, if_neg (by omega), ?_, rfl⟩
  exact State.get_put_self _ MAC_DQ_RD rd

/-- A size of MAC_FBCFG takes a legal value and keeps its own otherwise (R174). -/
def State.resize (s : State) (f : RegField) (lo hi v : Nat) : State := if lo ≤ v ∧ v ≤ hi then s.put f v else s

theorem State.get_resize_self (s : State) (f : RegField) {lo hi : Nat} (v : Nat) (hhi : hi < 2 ^ f.width) :
    (s.resize f lo hi v).get f = if lo ≤ v ∧ v ≤ hi then v else s.get f := by
  unfold State.resize
  split
  · rw [State.get_put_self, Nat.mod_eq_of_lt (by omega)]
  · rfl

theorem State.get_resize_ne (s : State) {f g : RegField} (lo hi v : Nat) (h : g.key ≠ f.key) :
    (s.resize f lo hi v).get g = s.get g := by
  unfold State.resize
  split
  · exact s.get_put_ne v h
  · rfl

/-- R174: an unlocked, idle device takes the sizes. -/
theorem fbcfgWrite_taken (v : Word) {s : State} (hunlocked : s.on MAC_LOCK_LOCK = false) (hidle : s.running = false)
    (hempty : s.dqLevel = 0) (hqueue : s.mac.queue = []) (hpending : s.mac.pending = [])
    (hair : s.slot.tx.any (fun u => u.desc.isSome) = false) :
    completes (.fbcfgWrite v) s fun t => t.get MAC_FBCFG_DQ_SIZE = (if 64 ≤ slice v.toNat 0 13 ∧
      slice v.toNat 0 13 ≤ 4032 then slice v.toNat 0 13 else s.get MAC_FBCFG_DQ_SIZE) ∧
      t.get MAC_FBCFG_RX_BLOCKS = (if 512 ≤ slice v.toNat 16 13 ∧
        slice v.toNat 16 13 ≤ 5632 then slice v.toNat 16 13 else s.get MAC_FBCFG_RX_BLOCKS) ∧
      t.get MAC_FBCFG_CFG_REJ = 0 ∧ t.get MAC_DQ_RD = 0 ∧ t.get MAC_DQ_WR = 0 := by
  obtain ⟨z, hz, hexec⟩ : ∃ z : State, z.fields = ((s.resize MAC_FBCFG_DQ_SIZE 64 4032 (slice v.toNat 0 13)).resize
      MAC_FBCFG_RX_BLOCKS 512 5632 (slice v.toNat 16 13)).fields ∧
      execFbcfgWrite v s = goOn (((z.put MAC_FBCFG_CFG_REJ 0).put MAC_DQ_RD 0).put MAC_DQ_WR 0) := by
    unfold execFbcfgWrite
    refine ⟨_, ?_, (if_neg (Bool.eq_false_iff.mp hunlocked)).trans (if_neg ?_)⟩
    · rfl
    · simp [hidle, hempty, hqueue, hpending, hair]
  refine completes_of_goOn hexec ⟨?_, ?_, ?_, ?_, State.get_put_self _ _ _⟩
  · rw [State.get_put_ne _ _ (by decide), State.get_put_ne _ _ (by decide), State.get_put_ne _ _ (by decide), State.get_congr hz,
      State.get_resize_ne _ _ _ _ (by decide), State.get_resize_self _ _ _ (by decide)]
  · rw [State.get_put_ne _ _ (by decide), State.get_put_ne _ _ (by decide), State.get_put_ne _ _ (by decide), State.get_congr hz,
      State.get_resize_self _ _ _ (by decide), State.get_resize_ne _ _ _ _ (by decide)]
  · rw [State.get_put_ne _ _ (by decide), State.get_put_ne _ _ (by decide)]
    exact State.get_put_self _ _ _
  · rw [State.get_put_ne _ _ (by decide)]
    exact State.get_put_self _ _ _

/-- R174: with a program running the sizes stay. -/
theorem fbcfgWrite_rejected (v : Word) {s : State} (hunlocked : s.on MAC_LOCK_LOCK = false) (hrunning : s.running = true) :
    completes (.fbcfgWrite v) s fun t => t.get MAC_FBCFG_CFG_REJ = 1 ∧ t.get MAC_FBCFG_DQ_SIZE = s.get MAC_FBCFG_DQ_SIZE ∧
      t.get MAC_FBCFG_RX_BLOCKS = s.get MAC_FBCFG_RX_BLOCKS := by
  have hexec : execFbcfgWrite v s = goOn (s.put MAC_FBCFG_CFG_REJ 1) := by
    unfold execFbcfgWrite
    exact (if_neg (Bool.eq_false_iff.mp hunlocked)).trans (if_pos (.inl hrunning))
  exact completes_of_goOn hexec ⟨State.get_put_self _ _ _, s.get_put_ne _ (by decide), s.get_put_ne _ (by decide)⟩

/-! A WRITE across a poison entry that stands at no word. -/

/-- After reset, with an image of ones in MAC_CTXBUF and a poison entry that begins two octets before the end of context 0. -/
def crossingPoison : State :=
  { State.reset with poison := [(ctxAddr 0 + 62, true)], mac := { State.reset.mac with ctxBuf := List.replicate 64 0xFF } }

/-- The write covers the entry only in part, so the last two octets of the context keep their zeros (R317). -/
theorem stageContext_crossingPoison :
    (crossingPoison.stageContext { index := 0, delete := false, image := crossingPoison.mac.ctxBuf }).bytes (ctxAddr 0) 64 ≠
      contextImage crossingPoison.mac.ctxBuf := by
  decide +kernel

/-- All clauses of O16 but one hold in every state, so it says no more than that one: a context WRITE that applies at once. -/
theorem contextsQueuesAndTheDeliveryRing_iff : Obligations.ContextsQueuesAndTheDeliveryRing ↔
    ∀ (i : Fin 1024) (s : State), s.on MAC_CTXSTAT_BUSY = false → s.running = false →
      completes (.contextWrite i) s fun t => t.bytes (ctxAddr i) 64 = contextImage s.mac.ctxBuf ∧
        t.get MAC_CTXSTAT_BUSY = 0 ∧ t.get MAC_CTXSTAT_REJ = 0 := by
  unfold Obligations.ContextsQueuesAndTheDeliveryRing
  refine ⟨fun h => h.2.1, fun happlied => ?_⟩
  exact ⟨fun i _ hbusy => contextWrite_waits hbusy i, happlied, fun i _ => contextWrite_rejected i,
    fun i _ hbusy => contextRead_copies hbusy i, fun i _ hbusy => contextDelete_waits hbusy i,
    fun i _ hbusy => contextDelete_applied hbusy i, fun i _ => txPush_queues i, fun i _ => txPush_pends i,
    fun i _ => txPush_invalid i, txDonePop_drops, queueFlush_effect, flushPending_effect, fun _ _ => dqRelease_releases,
    fun v _ => fbcfgWrite_taken v, fun v _ => fbcfgWrite_rejected v⟩

/-- Refutes O16: a context WRITE that applies at once does not ask that the poison entries stand at words. Where one crosses the
end of the context, the octets under it keep their old values. No canonical state has such an entry: with `Poison.wf` the clause
is `contextWrite_applied`. -/
theorem not_contextsQueuesAndTheDeliveryRing : ¬ Obligations.ContextsQueuesAndTheDeliveryRing := by
  rw [contextsQueuesAndTheDeliveryRing_iff]
  intro happlied
  obtain ⟨t, hexec, hbytes, -⟩ := happlied 0 crossingPoison rfl rfl
  obtain rfl := Host.Outcome.next.inj hexec
  exact stageContext_crossingPoison hbytes

end Sys2Proof.Machine

/-! ## Key slots, the requests of the cipher pages and the host's cipher request -/
namespace Sys2Proof.Machine

/-! The key table and the pages. -/

theorem State.key_setKey (s : State) (i j : Nat) (k : KeySlot) : (s.setKey i k).key j = if j = i then k else s.key j :=
  Sparse.read_write _ _ _ _ _

theorem State.key_setKey_self (s : State) (i : Nat) (k : KeySlot) : (s.setKey i k).key i = k :=
  (s.key_setKey i i k).trans (if_pos rfl)

theorem State.page_setPage (s : State) (p q : Nat) (g : CipherPage) : (s.setPage p g).page q = if q = p then g else s.page q :=
  Sparse.read_write _ _ _ _ _

theorem State.page_congr {s t : State} (h : t.sec = s.sec) (p : Nat) : t.page p = s.page p := by
  unfold State.page
  rw [h]

/-! Key commands (R193). -/

theorem State.get_keyApply (s : State) (i : Nat) (image : Option KeyImage) (f : RegField) :
    (s.keyApply i image).get f = s.get f := by
  cases image <;> rfl

theorem State.key_keyApply_load (s : State) (i : Nat) (g : KeyImage) :
    (s.keyApply i (some g)).key i = { s.key i with state := .ready, image := g, count := 0, txfc := g.txfc, pend := none } :=
  s.key_setKey_self i _

theorem State.key_keyApply_clear (s : State) (i : Nat) : (s.keyApply i none).key i =
    { s.key i with state := .empty, image := { (s.key i).image with key := [] }, count := 0, txfc := 0, pend := none } :=
  s.key_setKey_self i _

theorem State.activeBuf_flag_kcmdRej (s : State) (p : Nat) (b : Bool) :
    (s.flag (SEC_P_KSTAT_KCMD_REJ p) b).activeBuf = s.activeBuf := by
  have hne : SLE_STATUS_ACTIVE_BUF.key ≠ (SEC_P_KSTAT_KCMD_REJ p).key := by
    simp only [RegField.key, SLE_STATUS_ACTIVE_BUF, SEC_P_KSTAT_KCMD_REJ]
    omega
  unfold State.activeBuf State.on
  rw [State.get_flag_ne _ _ hne]
  rfl

/-- The flag of a refused key command does not say which units run under a key. -/
theorem State.keyUnits_flag_kcmdRej (s : State) (p i : Nat) (b : Bool) :
    (s.flag (SEC_P_KSTAT_KCMD_REJ p) b).keyUnits i = s.keyUnits i := by
  have hserved : ∀ st id, (s.flag (SEC_P_KSTAT_KCMD_REJ p) b).served st id = s.served st id := fun st id => by
    unfold State.served State.stagePar State.slotLen State.prog
    rw [s.activeBuf_flag_kcmdRej p b]
    rfl
  unfold State.keyUnits
  simp only [hserved]
  rfl

/-- The staged key of page `p` is wiped (R193). -/
def State.wipeStaged (s : State) (p : Nat) : State :=
  (((s.put (SEC_P_KDATA0_KEY p) 0).put (SEC_P_KDATA1_KEY p) 0).put (SEC_P_KDATA2_KEY p) 0).put (SEC_P_KDATA3_KEY p) 0

theorem State.get_wipeStaged (s : State) (p : Nat) : (s.wipeStaged p).get (SEC_P_KDATA0_KEY p) = 0 ∧
    (s.wipeStaged p).get (SEC_P_KSTAT_KCMD_REJ p) = s.get (SEC_P_KSTAT_KCMD_REJ p) := by
  have hdata : (SEC_P_KDATA0_KEY p).key ≠ (SEC_P_KDATA1_KEY p).key ∧ (SEC_P_KDATA0_KEY p).key ≠ (SEC_P_KDATA2_KEY p).key ∧
      (SEC_P_KDATA0_KEY p).key ≠ (SEC_P_KDATA3_KEY p).key := by
    simp only [RegField.key, SEC_P_KDATA0_KEY, SEC_P_KDATA1_KEY, SEC_P_KDATA2_KEY, SEC_P_KDATA3_KEY]
    omega
  have hrej : (SEC_P_KSTAT_KCMD_REJ p).key ≠ (SEC_P_KDATA0_KEY p).key ∧
      (SEC_P_KSTAT_KCMD_REJ p).key ≠ (SEC_P_KDATA1_KEY p).key ∧ (SEC_P_KSTAT_KCMD_REJ p).key ≠ (SEC_P_KDATA2_KEY p).key ∧
      (SEC_P_KSTAT_KCMD_REJ p).key ≠ (SEC_P_KDATA3_KEY p).key := by
    simp only [RegField.key, SEC_P_KSTAT_KCMD_REJ, SEC_P_KDATA0_KEY, SEC_P_KDATA1_KEY, SEC_P_KDATA2_KEY, SEC_P_KDATA3_KEY]
    omega
  obtain ⟨h01, h02, h03⟩ := hdata
  obtain ⟨hr0, hr1, hr2, hr3⟩ := hrej
  unfold State.wipeStaged
  constructor
  · rw [State.get_put_ne _ _ h03, State.get_put_ne _ _ h02, State.get_put_ne _ _ h01, State.get_put_self, Nat.zero_mod]
  · rw [State.get_put_ne _ _ hr3, State.get_put_ne _ _ hr2, State.get_put_ne _ _ hr1, State.get_put_ne _ _ hr0]

/-- A command of a page on a slot of another page. -/
theorem State.pageKeyCommand_foreign {s : State} {p : Nat} (howner : (s.key (s.get (SEC_P_KSEL_SLOT p))).owner ≠ p)
    (image : Option KeyImage) : s.pageKeyCommand p image = (s.flag (SEC_P_KSTAT_KCMD_REJ p) true).raise 70 := by
  unfold State.pageKeyCommand
  exact if_pos howner

section owned
variable {s : State} {p : Nat} (howner : (s.key (s.get (SEC_P_KSEL_SLOT p))).owner = p)
  (hunits : (s.keyUnits (s.get (SEC_P_KSEL_SLOT p))).isEmpty = true)
  (hpages : (s.keyPages (s.get (SEC_P_KSEL_SLOT p))).isEmpty = true)
  (hpend : (s.key (s.get (SEC_P_KSEL_SLOT p))).pend = none)
include hunits hpages hpend

/-- On a slot that nothing uses a key command takes effect at once. -/
theorem State.keyCommand_unused (image : Option KeyImage) :
    (s.flag (SEC_P_KSTAT_KCMD_REJ p) false).keyCommand (s.get (SEC_P_KSEL_SLOT p)) image =
      (s.flag (SEC_P_KSTAT_KCMD_REJ p) false).keyApply (s.get (SEC_P_KSEL_SLOT p)) image := by
  have hnone : ((s.flag (SEC_P_KSTAT_KCMD_REJ p) false).key (s.get (SEC_P_KSEL_SLOT p))).pend.isNone = true :=
    Option.isNone_iff_eq_none.mpr hpend
  unfold State.keyCommand
  rw [s.keyUnits_flag_kcmdRej]
  exact if_pos ⟨hunits, hpages, hnone⟩

include howner

theorem State.pageKeyCommand_load {g : KeyImage} (hlegal : keyLegal g p = true) : s.pageKeyCommand p (some g) =
    ((s.flag (SEC_P_KSTAT_KCMD_REJ p) false).keyApply (s.get (SEC_P_KSEL_SLOT p)) (some g)).wipeStaged p := by
  unfold State.pageKeyCommand
  simp only [howner, hlegal, State.keyCommand_unused hunits hpages hpend, ne_eq, not_true_eq_false, if_false, Bool.not_true,
    Bool.false_eq_true, Option.isNone_some]
  rfl

theorem State.pageKeyCommand_clear : s.pageKeyCommand p none =
    (s.flag (SEC_P_KSTAT_KCMD_REJ p) false).keyApply (s.get (SEC_P_KSEL_SLOT p)) none := by
  unfold State.pageKeyCommand
  simp only [howner, State.keyCommand_unused hunits hpages hpend, ne_eq, not_true_eq_false, if_false, Bool.not_true,
    Bool.false_eq_true, Option.isNone_none, if_true]

end owned

/-- R193: a LOAD of a legal image on a slot that the page owns and nothing uses. -/
theorem keyLoad_loads {p : Fin 8} {s : State} (href : s.refFailed = false)
    (howner : (s.key (s.get (SEC_P_KSEL_SLOT p))).owner = p.val) (hlegal : keyLegal (s.stagedKey p) p = true)
    (hunits : (s.keyUnits (s.get (SEC_P_KSEL_SLOT p))).isEmpty = true)
    (hpages : (s.keyPages (s.get (SEC_P_KSEL_SLOT p))).isEmpty = true)
    (hpend : (s.key (s.get (SEC_P_KSEL_SLOT p))).pend = none) :
    completes (.keyLoad p) s fun t => (t.key (s.get (SEC_P_KSEL_SLOT p))).state = .ready ∧
      (t.key (s.get (SEC_P_KSEL_SLOT p))).image = s.stagedKey p ∧ (t.key (s.get (SEC_P_KSEL_SLOT p))).count = 0 ∧
      (t.key (s.get (SEC_P_KSEL_SLOT p))).txfc = (s.stagedKey p).txfc ∧ t.get (SEC_P_KSTAT_KCMD_REJ p) = 0 ∧
      t.get (SEC_P_KDATA0_KEY p) = 0 := by
  have hexec : execKeyLoad p s = goOn (((s.flag (SEC_P_KSTAT_KCMD_REJ p) false).keyApply (s.get (SEC_P_KSEL_SLOT p))
      (some (s.stagedKey p))).wipeStaged p) := by
    unfold execKeyLoad
    rw [if_neg (Bool.eq_false_iff.mp href), State.pageKeyCommand_load howner hunits hpages hpend hlegal]
  have hkey := (s.flag (SEC_P_KSTAT_KCMD_REJ p) false).key_keyApply_load (s.get (SEC_P_KSEL_SLOT p)) (s.stagedKey p)
  obtain ⟨hdata, hrej⟩ := ((s.flag (SEC_P_KSTAT_KCMD_REJ p) false).keyApply (s.get (SEC_P_KSEL_SLOT p))
    (some (s.stagedKey p))).get_wipeStaged p
  refine completes_of_goOn hexec ⟨congrArg KeySlot.state hkey, congrArg KeySlot.image hkey, congrArg KeySlot.count hkey,
    congrArg KeySlot.txfc hkey, ?_, hdata⟩
  rw [hrej, State.get_keyApply]
  exact State.get_flag_self _ _ _

/-- R193, R195: on a slot of another page. -/
theorem keyLoad_foreign {p : Fin 8} {s : State} (href : s.refFailed = false)
    (howner : (s.key (s.get (SEC_P_KSEL_SLOT p))).owner ≠ p.val) :
    completes (.keyLoad p) s fun t => t.get (SEC_P_KSTAT_KCMD_REJ p) = 1 ∧ t.event 70 = true ∧ t.sec = s.sec := by
  have hexec : execKeyLoad p s = goOn ((s.flag (SEC_P_KSTAT_KCMD_REJ p) true).raise 70) := by
    unfold execKeyLoad
    rw [if_neg (Bool.eq_false_iff.mp href), State.pageKeyCommand_foreign howner]
  refine completes_of_goOn hexec ⟨?_, State.event_raise _ 70, State.raise_sec _ 70⟩
  rw [(State.raise_moves _ _).get_eq (SEC_P_KSTAT_KCMD_REJ_block p) (by decide) rfl]
  exact State.get_flag_self _ _ _

/-- R193: a CLEAR of a slot that the page owns and nothing uses. -/
theorem keyClear_clears {p : Fin 8} {s : State} (href : s.refFailed = false)
    (howner : (s.key (s.get (SEC_P_KSEL_SLOT p))).owner = p.val)
    (hunits : (s.keyUnits (s.get (SEC_P_KSEL_SLOT p))).isEmpty = true)
    (hpages : (s.keyPages (s.get (SEC_P_KSEL_SLOT p))).isEmpty = true)
    (hpend : (s.key (s.get (SEC_P_KSEL_SLOT p))).pend = none) :
    completes (.keyClear p) s fun t => (t.key (s.get (SEC_P_KSEL_SLOT p))).state = .empty ∧
      (t.key (s.get (SEC_P_KSEL_SLOT p))).image.key = [] ∧ t.get (SEC_P_KSTAT_KCMD_REJ p) = 0 := by
  have hexec : execKeyClear p s =
      goOn ((s.flag (SEC_P_KSTAT_KCMD_REJ p) false).keyApply (s.get (SEC_P_KSEL_SLOT p)) none) := by
    unfold execKeyClear
    rw [if_neg (Bool.eq_false_iff.mp href), State.pageKeyCommand_clear howner hunits hpages hpend]
  have hkey := (s.flag (SEC_P_KSTAT_KCMD_REJ p) false).key_keyApply_clear (s.get (SEC_P_KSEL_SLOT p))
  refine completes_of_goOn hexec ⟨congrArg KeySlot.state hkey, congrArg (fun k => k.image.key) hkey, ?_⟩
  rw [State.get_keyApply]
  exact State.get_flag_self _ _ _

/-- R193: a new owner zeroises the slot. -/
theorem keyOwnerWrite_zeroises (v : Word) {s : State} (howner : (s.key (s.get SEC_KSEL_SLOT)).owner ≠ slice v.toNat 0 3) :
    completes (.keyOwnerWrite v) s fun t => t.key (s.get SEC_KSEL_SLOT) = { owner := slice v.toNat 0 3 } := by
  have hexec : execKeyOwnerWrite v s = goOn (s.setKey (s.get SEC_KSEL_SLOT) { owner := slice v.toNat 0 3 }) := by
    unfold execKeyOwnerWrite State.setOwner
    rw [if_neg howner]
  exact completes_of_goOn hexec (s.key_setKey_self _ _)

theorem State.key_exhaust (s : State) (i j : Nat) :
    (s.exhaust i).key j = if j = i then { s.key i with state := .exhausted } else s.key j := by
  unfold State.exhaust
  rw [State.key_congr (State.raise_sec _ 66), State.key_setKey]

/-- R194: a slot that cannot carry an operation. -/
theorem keyExhausted_exhausts {i : Fin 256} {b : Nat} {tx : Bool} {s : State} (hready : (s.key i).state = .ready)
    (hspent : (s.key i).image.limit < (s.key i).count + b ∨ (s.key i).count = (s.key i).image.limit ∨
      (tx = true ∧ (s.key i).txfc = 0xFFFFFFFF)) :
    completes (.keyExhausted i b tx) s fun t => (t.key i).state = .exhausted ∧ t.event 66 = true := by
  have hexec : execKeyExhausted i b tx s = goOn (s.exhaust i) := by
    unfold execKeyExhausted
    exact if_pos ⟨hready, hspent⟩
  refine completes_of_goOn hexec ⟨?_, State.event_raise _ 66⟩
  rw [State.key_exhaust, if_pos rfl]

/-! The arbiter (R185). -/

/-- The second queue of a page is the first, or its oldest request has met the checks of its start (R198). -/
inductive QueueServed : List GenReq → List GenReq → Prop
  | kept (rs : List GenReq) : QueueServed rs rs
  | started {r : GenReq} (v b k : Nat) (rs : List GenReq) (h : r.started = false) :
    QueueServed (r :: rs) ({ r with started := true, verdict := v, blocks := b, slot := k } :: rs)

theorem QueueServed.trans {as bs cs : List GenReq} (h : QueueServed as bs) (g : QueueServed bs cs) : QueueServed as cs := by
  cases h with
  | kept => exact g
  | started v b k rs h =>
    cases g with
    | kept => exact .started v b k rs h
    | started _ _ _ _ hnot => cases hnot

theorem QueueServed.addrs {as bs : List GenReq} (h : QueueServed as bs) : bs.map GenReq.addr = as.map GenReq.addr := by
  cases h <;> rfl

theorem QueueServed.host {as bs : List GenReq} (h : QueueServed as bs) : bs.any GenReq.host = as.any GenReq.host := by
  cases h <;> rfl

theorem QueueServed.eq_nil {bs : List GenReq} (h : QueueServed [] bs) : bs = [] := by
  cases h
  rfl

/-- A queue whose oldest request has started stays as it is. -/
theorem QueueServed.eq_of_started {r : GenReq} {rs bs : List GenReq} (h : QueueServed (r :: rs) bs) (hr : r.started = true) :
    bs = r :: rs := by
  cases h with
  | kept => rfl
  | started v b k _ hnot => exact absurd hr (by simp [hnot])

/-- What the checks of a request keep from `s` to `t`: events, the pages, keys that are not READY, and the host's image. -/
structure Checked (s t : State) : Prop where
  steady : Steady s t
  page : ∀ q, t.page q = s.page q
  key : ∀ i, (s.key i).state ≠ .ready → t.key i = s.key i
  hostReq : t.sec.hostReq = s.sec.hostReq

theorem Checked.refl (s : State) : Checked s s := ⟨Steady.refl s, fun _ => rfl, fun _ _ => rfl, rfl⟩

theorem Checked.trans {r s t : State} (h : Checked r s) (g : Checked s t) : Checked r t where
  steady := h.steady.trans g.steady
  page q := (g.page q).trans (h.page q)
  key i hi := (g.key i (h.key i hi ▸ hi)).trans (h.key i hi)
  hostReq := g.hostReq.trans h.hostReq

theorem State.raise_checked (s : State) (n : Nat) : Checked s (s.raise n) where
  steady := s.raise_steady n
  page := State.page_congr (s.raise_sec n)
  key i _ := State.key_congr (s.raise_sec n) i
  hostReq := congrArg Sec.hostReq (s.raise_sec n)

theorem State.setKey_checked {s : State} {i : Nat} (hready : (s.key i).state = .ready) (k : KeySlot) :
    Checked s (s.setKey i k) where
  steady := (s.setKey_moves i k).steady rfl rfl
  page _ := rfl
  key j hj := (s.key_setKey i j k).trans (if_neg fun (hji : j = i) => hj (hji ▸ hready))
  hostReq := rfl

theorem State.exhaust_checked {s : State} {i : Nat} (hready : (s.key i).state = .ready) : Checked s (s.exhaust i) :=
  (State.setKey_checked hready _).trans (State.raise_checked _ 66)

/-- R194: only a READY key is charged or exhausted. -/
theorem State.charged_checked (s : State) (i b : Nat) (tx : Bool) : Checked s (s.charged i b tx).2 := by
  unfold State.charged
  extract_lets k counted
  split
  case h_1 | h_2 | h_3 => exact .refl s
  case h_4 hready =>
    have hcounted : Checked s counted := State.setKey_checked hready _
    split
    · exact State.exhaust_checked hready
    dsimp only
    split
    · refine hcounted.trans (State.exhaust_checked ?_)
      exact (congrArg KeySlot.state (s.key_setKey_self i _)).trans hready
    · exact hcounted

theorem ite_snd_checked {α : Type} {s : State} {c : Prop} [Decidable c] {a b : α × State} (ha : Checked s a.2)
    (hb : Checked s b.2) : Checked s (if c then a else b).2 := by
  split
  · exact ha
  · exact hb

/-- R198: of the checks one raises E70, and the last charges the key. -/
theorem State.reqCheck_checked (s : State) (p : Nat) (r : GenReq) : Checked s (s.reqCheck p r).2 := by
  have hsame : ∀ v : Nat, Checked s (v, s).2 := fun _ => .refl s
  unfold State.reqCheck
  exact ite_snd_checked (hsame _) <| ite_snd_checked (hsame _) <| ite_snd_checked (hsame _) <|
    ite_snd_checked (s.raise_checked 70) <| ite_snd_checked (hsame _) <| ite_snd_checked (hsame _) <|
    s.charged_checked _ _ _

/-- What the arbiter keeps from `s` to `t`: as the checks do, but that queues may have been served. -/
structure Arbitrated (s t : State) : Prop where
  steady : Steady s t
  queue : ∀ q, QueueServed (s.page q).reqs (t.page q).reqs
  key : ∀ i, (s.key i).state ≠ .ready → t.key i = s.key i
  hostReq : t.sec.hostReq = s.sec.hostReq

theorem Arbitrated.trans {r s t : State} (h : Arbitrated r s) (g : Arbitrated s t) : Arbitrated r t where
  steady := h.steady.trans g.steady
  queue q := (h.queue q).trans (g.queue q)
  key i hi := (g.key i (h.key i hi ▸ hi)).trans (h.key i hi)
  hostReq := g.hostReq.trans h.hostReq

theorem Checked.arbitrated {s t : State} (h : Checked s t) : Arbitrated s t where
  steady := h.steady
  queue q := h.page q ▸ .kept _
  key := h.key
  hostReq := h.hostReq

theorem Arbitrated.foldl {α : Type} {g : State → α → State} (hg : ∀ s x, Arbitrated s (g s x)) (l : List α) (s : State) :
    Arbitrated s (l.foldl g s) := by
  induction l generalizing s with
  | nil => exact (Checked.refl s).arbitrated
  | cons x l ih => exact (hg s x).trans (ih _)

/-- Page `p`, served with the queue `rs`, holds a lane. -/
theorem State.servePage_arbitrated (s : State) {p : Nat} {rs : List GenReq} (lane : Option Nat)
    (h : QueueServed (s.page p).reqs rs) :
    Arbitrated s (({ s with sec := { s.sec with lastPage := p } }).setPage p { reqs := rs, lane := lane }) where
  steady := ((s.with_sec_moves _).steady rfl rfl).trans ((State.setPage_moves _ p _).steady rfl rfl)
  queue q := by
    rw [State.page_setPage]
    split
    · rename_i hq
      exact hq ▸ h
    · exact .kept _
  key _ _ := rfl
  hostReq := rfl

theorem State.serve_arbitrated (s : State) (p : Nat) : Arbitrated s (s.serve p) := by
  unfold State.serve
  extract_lets g
  split
  case h_2 => exact (Checked.refl s).arbitrated
  rename_i r rs l hreqs _ _
  extract_lets d
  split
  · exact (Checked.refl s).arbitrated
  split
  · exact s.servePage_arbitrated (some l) (.kept _)
  · rename_i hnew
    have hchecked := s.reqCheck_checked p r
    generalize s.reqCheck p r = checked at hchecked ⊢
    obtain ⟨v, z⟩ := checked
    refine hchecked.arbitrated.trans (z.servePage_arbitrated (some l) ?_)
    rw [hchecked.page p]
    exact hreqs ▸ .started v _ _ rs (Bool.eq_false_iff.mpr hnew)

theorem State.arbitrate_arbitrated (s : State) : Arbitrated s s.arbitrate := by
  unfold State.arbitrate
  exact Arbitrated.foldl (fun z k => z.serve_arbitrated _) _ s

/-- The arbiter writes no register of the cipher island. -/
theorem State.get_arbitrate (s : State) {f : RegField} (hf : f.inBlock 6) : s.arbitrate.get f = s.get f :=
  s.arbitrate_moves.get_eq hf (by decide) rfl

/-- R193: a CLEAR that was held takes effect once its users are gone; the arbiter leaves the EMPTY slot. -/
theorem keyCommandApply_clears {i : Fin 256} {w : KeyPend} {s : State} (hpend : (s.key i).pend = some w)
    (hclear : w.image = none) (hunits : (s.keyUnits i).any w.units.contains = false)
    (hpages : (s.keyPages i).any w.pages.contains = false) :
    completes (.keyCommandApply i) s fun t => (t.key i).pend = none ∧ (t.key i).state = .empty := by
  have hexec : execKeyCommandApply i s = goOn (s.keyApply i none).arbitrate := by
    unfold execKeyCommandApply
    simp only [hpend, hclear, hunits, hpages, Bool.false_eq_true, or_self, if_false]
  have hcleared := s.key_keyApply_clear i
  have hempty : ((s.keyApply i none).key i).state ≠ .ready := by
    rw [hcleared]
    exact KeyState.noConfusion
  have hkept := (s.keyApply i none).arbitrate_arbitrated.key i hempty
  exact completes_of_goOn hexec ⟨congrArg KeySlot.pend (hkept.trans hcleared), congrArg KeySlot.state (hkept.trans hcleared)⟩

/-! Submissions (R197, R198). -/

theorem State.submit_room {s : State} {p : Nat} (hroom : (s.page p).reqs.length < 4) (r : GenReq) : s.submit p r =
    ((s.flag (SEC_P_STAT_SUB_REJ p) false).setPage p { s.page p with reqs := (s.page p).reqs ++ [r] }).arbitrate := by
  unfold State.submit
  exact if_neg (Nat.not_le.mpr hroom)

theorem State.queue_submit {s : State} {p : Nat} (hroom : (s.page p).reqs.length < 4) (r : GenReq) :
    QueueServed ((s.page p).reqs ++ [r]) ((s.submit p r).page p).reqs := by
  have hjoined : ((s.flag (SEC_P_STAT_SUB_REJ p) false).setPage p { s.page p with reqs := (s.page p).reqs ++ [r] }).page p =
      { s.page p with reqs := (s.page p).reqs ++ [r] } := (State.page_setPage _ _ _ _).trans (if_pos rfl)
  have hserved := (State.arbitrate_arbitrated ((s.flag (SEC_P_STAT_SUB_REJ p) false).setPage p
    { s.page p with reqs := (s.page p).reqs ++ [r] })).queue p
  rwa [hjoined, ← State.submit_room hroom] at hserved

theorem cipherSubmit_joins {p : Fin 8} (a : Word) {s : State} (href : s.refFailed = false)
    (hroom : (s.page p).reqs.length < 4) :
    completes (.cipherSubmit p a) s fun t =>
      (t.page p).reqs.map GenReq.addr = (s.page p).reqs.map GenReq.addr ++ [a.toNat] ∧ t.get (SEC_P_STAT_SUB_REJ p) = 0 := by
  have hexec : execCipherSubmit p a s = goOn (s.submit p { addr := a.toNat }) := by
    unfold execCipherSubmit
    rw [if_neg (Bool.eq_false_iff.mp href)]
  refine completes_of_goOn hexec ⟨?_, ?_⟩
  · rw [(State.queue_submit hroom _).addrs, List.map_append]
    rfl
  · rw [State.submit_room hroom, State.get_arbitrate _ (SEC_P_STAT_SUB_REJ_block p)]
    exact s.get_flag_self (SEC_P_STAT_SUB_REJ p) false

theorem cipherSubmit_rejected {p : Fin 8} (a : Word) {s : State} (href : s.refFailed = false)
    (hfull : 4 ≤ (s.page p).reqs.length) :
    completes (.cipherSubmit p a) s fun t => t.get (SEC_P_STAT_SUB_REJ p) = 1 ∧ t.sec = s.sec := by
  have hexec : execCipherSubmit p a s = goOn (s.flag (SEC_P_STAT_SUB_REJ p) true) := by
    unfold execCipherSubmit State.submit
    rw [if_neg (Bool.eq_false_iff.mp href)]
    exact congrArg goOn (if_pos hfull)
  exact completes_of_goOn hexec ⟨State.get_flag_self _ _ _, rfl⟩

/-- R185: after a chunk that is not its last the request is the first in its page again. -/
theorem cipherChunkEnd_returns {p : Fin 8} {r : GenReq} {rs : List GenReq} {l : Nat} {s : State}
    (hreqs : (s.page p).reqs = r :: rs) (hlane : (s.page p).lane = some l) (hstarted : r.started = true)
    (hok : r.verdict = cipherOk) (hmore : 16 * (r.chunks + 1) < r.blocks) :
    completes (.cipherChunkEnd p) s fun t => (t.page p).reqs = { r with chunks := r.chunks + 1 } :: rs := by
  have hexec : execCipherChunkEnd p s =
      goOn (s.setPage p { reqs := { r with chunks := r.chunks + 1 } :: rs, lane := none }).arbitrate := by
    unfold execCipherChunkEnd
    simp only [hreqs, hlane, hok, hmore, and_self, if_true]
  have hserved := (s.setPage p { reqs := { r with chunks := r.chunks + 1 } :: rs, lane := none }).arbitrate_arbitrated.queue p
  rw [State.page_setPage, if_pos rfl] at hserved
  exact completes_of_goOn hexec (hserved.eq_of_started hstarted)

/-! The end of a request (R197). -/

theorem State.page_reqStatus (s : State) (r : GenReq) (status used : Nat) (out : List Byte) (p : Nat) :
    (s.reqStatus r status used out).page p = s.page p := by
  unfold State.reqStatus
  split
  · rfl
  · refine State.page_congr ?_ p
    simp only [State.devWrite_sec]

theorem State.reqs_reqFinished (s : State) (p status : Nat) :
    ((s.reqFinished p status).page p).reqs = (s.page p).reqs.drop 1 := by
  unfold State.reqFinished
  rw [State.page_congr (State.raise_sec _ 64)]
  exact congrArg CipherPage.reqs ((s.page_setPage p p _).trans (if_pos rfl))

theorem State.reqFinished_steady (s : State) (p status : Nat) : Steady s (s.reqFinished p status) := by
  unfold State.reqFinished
  exact ((s.setPage_moves p _).steady rfl rfl).trans <|
    (State.put_steady _ _ (SEC_P_STAT_LAST_block p) (by decide) (by decide)).trans <|
    (State.put_steady _ _ (SEC_P_STAT_COMPLETED_block p) (by decide) (by decide)).trans <|
    (State.flag_steady _ _ (SEC_P_DONE_DONE_block p) (by decide) (by decide)).trans (State.raise_steady _ 64)

/-- Page `p` reports a completion with a status: DONE, LAST and E64. -/
structure Completed (s : State) (p status : Nat) : Prop where
  done : s.get (SEC_P_DONE_DONE p) = 1
  last : s.get (SEC_P_STAT_LAST p) = status % 256
  event : s.event 64 = true

theorem State.reqFinished_completed (s : State) (p status : Nat) : Completed (s.reqFinished p status) p status := by
  have hcompleted : (SEC_P_STAT_LAST p).key ≠ (SEC_P_STAT_COMPLETED p).key := by
    simp only [RegField.key, SEC_P_STAT_LAST, SEC_P_STAT_COMPLETED]
    omega
  have hdone : (SEC_P_STAT_LAST p).key ≠ (SEC_P_DONE_DONE p).key := by
    simp only [RegField.key, SEC_P_STAT_LAST, SEC_P_DONE_DONE]
    omega
  unfold State.reqFinished
  refine ⟨?_, ?_, State.event_raise _ 64⟩
  · rw [(State.raise_moves _ 64).get_eq (SEC_P_DONE_DONE_block p) (by decide) rfl]
    exact State.get_flag_self _ _ _
  · rw [(State.raise_moves _ 64).get_eq (SEC_P_STAT_LAST_block p) (by decide) rfl, State.get_flag_ne _ _ hdone,
      State.get_bumpWrap_ne _ hcompleted]
    exact State.get_put_self _ _ _

theorem Completed.arbitrate {s : State} {p status : Nat} (h : Completed s p status) : Completed s.arbitrate p status where
  done := (s.get_arbitrate (SEC_P_DONE_DONE_block p)).trans h.done
  last := (s.get_arbitrate (SEC_P_STAT_LAST_block p)).trans h.last
  event := s.arbitrate_arbitrated.steady.event 64 h.event

/-- The oldest request of a page completes and the arbiter goes on: the others stay, in their order. -/
theorem State.addrs_arbitrate_reqFinished {s : State} {p : Nat} {r : GenReq} {rs : List GenReq}
    (hreqs : (s.page p).reqs = r :: rs) (status : Nat) :
    ((s.reqFinished p status).arbitrate.page p).reqs.map GenReq.addr = rs.map GenReq.addr := by
  rw [((s.reqFinished p status).arbitrate_arbitrated.queue p).addrs, State.reqs_reqFinished, hreqs]
  rfl

/-- What a request in memory computes on its source octets (R197). -/
def State.reqRun (s : State) (r : GenReq) : List Byte × List Byte × Bool :=
  reqCompute (s.key r.slot).image (s.reqImage r) (s.bytes (leAt (s.reqImage r) 8 4) (reqSrcLen (s.reqImage r)))

/-- The status of a request that ran to its end: what its MIC says (R199). -/
def State.runStatus (s : State) (r : GenReq) : Nat := if (s.reqRun r).2.2 then cipherAuthFail else cipherOk

/-- The output, the chaining value, the status and E65 of a request that ran to its end (R197). -/
def State.reqWritten (s : State) (r : GenReq) : State :=
  (((s.devWrite (leAt (s.reqImage r) 12 4) (s.reqRun r).1).devWrite (r.addr + 16) (s.reqRun r).2.1).reqStatus r (s.runStatus r)
    r.blocks (s.reqRun r).1).raiseIf (s.reqRun r).2.2 65

theorem State.page_reqWritten (s : State) (r : GenReq) (p : Nat) : (s.reqWritten r).page p = s.page p := by
  unfold State.reqWritten
  rw [State.page_congr (State.raiseIf_sec _ _ _), State.page_reqStatus]
  refine State.page_congr ?_ p
  simp only [State.devWrite_sec]

theorem State.reqComplete_ran {s : State} (p : Nat) {r : GenReq} (hok : r.verdict = cipherOk) (hmem : r.host = false)
    (hclean : s.poisonedIn (leAt (s.reqImage r) 8 4) (reqSrcLen (s.reqImage r)) = false) :
    s.reqComplete p r = (s.reqWritten r).reqFinished p (s.runStatus r) := by
  unfold State.reqComplete
  simp only [hok, hmem, hclean, ne_eq, not_true_eq_false, if_false, Bool.not_false, Bool.and_false, Bool.false_eq_true]
  rfl

section done
variable {p : Fin 8} {r : GenReq} {rs : List GenReq} {l : Nat} {s : State} (hreqs : (s.page p).reqs = r :: rs)
  (hlane : (s.page p).lane = some l)
include hreqs hlane

theorem execCipherDone_last (hlast : r.verdict ≠ cipherOk ∨ r.blocks ≤ 16 * (r.chunks + 1)) :
    execCipherDone p s = goOn (s.reqComplete p r).arbitrate := by
  unfold execCipherDone
  simp only [hreqs, hlane]
  exact if_neg fun h => hlast.elim (fun hbad => hbad h.1) (Nat.not_le.mpr h.2)

/-- Where completing the request finishes it with a status, the page reports that status. -/
theorem cipherDone_of_finished {z : State} {status : Nat} (hlast : r.verdict ≠ cipherOk ∨ r.blocks ≤ 16 * (r.chunks + 1))
    (hcomplete : s.reqComplete p r = z.reqFinished p status) (hpage : z.page p = s.page p) :
    completes (.cipherDone p) s fun t => (t.page p).reqs.map GenReq.addr = rs.map GenReq.addr ∧
      t.get (SEC_P_DONE_DONE p) = 1 ∧ t.event 64 = true ∧ t.get (SEC_P_STAT_LAST p) = status % 256 := by
  have hend := (z.reqFinished_completed p status).arbitrate
  refine completes_of_goOn ((execCipherDone_last hreqs hlane hlast).trans (by rw [hcomplete])) ?_
  exact ⟨State.addrs_arbitrate_reqFinished (hpage ▸ hreqs) status, hend.done, hend.event, hend.last⟩

/-- R198: a request that failed its checks completes with their status. -/
theorem cipherDone_failed (hbad : r.verdict ≠ cipherOk) :
    completes (.cipherDone p) s fun t => (t.page p).reqs.map GenReq.addr = rs.map GenReq.addr ∧
      t.get (SEC_P_DONE_DONE p) = 1 ∧ t.event 64 = true ∧ t.get (SEC_P_STAT_LAST p) = r.verdict % 256 := by
  have hcomplete : s.reqComplete p r = (s.reqStatus r r.verdict 0 []).reqFinished p r.verdict := by
    unfold State.reqComplete
    exact if_pos hbad
  exact cipherDone_of_finished hreqs hlane (.inl hbad) hcomplete (s.page_reqStatus _ _ _ _ _)

/-- R197, R199: a request that ran to its end completes with what its MIC says. -/
theorem cipherDone_ran (hok : r.verdict = cipherOk) (hlast : r.blocks ≤ 16 * (r.chunks + 1)) (hmem : r.host = false)
    (hclean : s.poisonedIn (leAt (s.reqImage r) 8 4) (reqSrcLen (s.reqImage r)) = false) :
    completes (.cipherDone p) s fun t => (t.page p).reqs.map GenReq.addr = rs.map GenReq.addr ∧
      t.get (SEC_P_DONE_DONE p) = 1 ∧ t.event 64 = true ∧ t.get (SEC_P_STAT_LAST p) = s.runStatus r := by
  have hbyte : s.runStatus r % 256 = s.runStatus r := by
    unfold State.runStatus
    split <;> rfl
  have hdone := cipherDone_of_finished hreqs hlane (.inr hlast) (State.reqComplete_ran p hok hmem hclean)
    (s.page_reqWritten r p)
  rwa [hbyte] at hdone

end done

/-! ABORT (R198). -/

/-- Request `r` of page `p` completes with ABORTED. -/
def State.abortReq (p : Nat) (s : State) (r : GenReq) : State :=
  (s.reqStatus r cipherAborted (if r.started then r.blocks else 0) []).reqFinished p cipherAborted

theorem State.abort_all (p : Nat) (rs : List GenReq) {s : State} (hreqs : (s.page p).reqs = rs)
    (hnil : rs = [] → Completed s p cipherAborted) :
    ((rs.foldl (State.abortReq p) s).page p).reqs = [] ∧ Completed (rs.foldl (State.abortReq p) s) p cipherAborted := by
  induction rs generalizing s with
  | nil => exact ⟨hreqs, hnil rfl⟩
  | cons r rs ih =>
    refine ih ?_ fun _ => State.reqFinished_completed _ p cipherAborted
    unfold State.abortReq
    rw [State.reqs_reqFinished, State.page_reqStatus, hreqs]
    rfl

theorem pageAbort_empties {p : Fin 8} {s : State} (hreqs : (s.page p).reqs ≠ []) :
    completes (.pageAbort p) s fun t => (t.page p).reqs = [] ∧ t.event 64 = true ∧
      t.get (SEC_P_STAT_LAST p) = cipherAborted := by
  obtain ⟨hempty, haborted⟩ := State.abort_all p (s.page p).reqs rfl fun hnil => absurd hnil hreqs
  have hserved := (s.abortPage p).arbitrate_arbitrated.queue p
  have hend := haborted.arbitrate
  refine completes_of_goOn (t := (s.abortPage p).arbitrate) rfl ⟨?_, hend.event, hend.last⟩
  exact QueueServed.eq_nil (hempty ▸ hserved)

/-! A parity error of a lane (R200). -/

/-- What a parity error of lane `l` reports: the key slot's or the lane's entry in the fault log, and E67. -/
def State.laneFault (s : State) (l : Nat) (keyWord : Bool) (slot : Nat) : State :=
  if keyWord then ((s.setKey slot { s.key slot with state := .fault }).report 2 0x18 slot 0).raise 67
  else (s.report 2 (8 + l) 0 0).raise 67

theorem State.event_laneFault (s : State) (l : Nat) (kw : Bool) (slot : Nat) : (s.laneFault l kw slot).event 67 = true := by
  unfold State.laneFault
  split <;> exact State.event_raise _ 67

theorem State.page_laneFault (s : State) (l : Nat) (kw : Bool) (slot p : Nat) : (s.laneFault l kw slot).page p = s.page p := by
  unfold State.laneFault
  split
  · refine State.page_congr (s := s.setKey slot { s.key slot with state := .fault }) ?_ p
    simp only [State.raise_sec, State.report_sec]
  · refine State.page_congr ?_ p
    simp only [State.raise_sec, State.report_sec]

/-- A request's DST in memory is zeroed. -/
def State.zeroDst (s : State) (r : GenReq) : State :=
  if r.host then s else s.devWrite (leAt (s.reqImage r) 12 4) (List.replicate (reqDstLen (s.reqImage r)) 0)

theorem State.page_zeroDst (s : State) (r : GenReq) (p : Nat) : (s.zeroDst r).page p = s.page p := by
  unfold State.zeroDst
  split
  · rfl
  · exact State.page_congr (State.devWrite_sec _ _ _) p

/-- A general request ends with FAULT, its DST zeroed. -/
theorem cipherFault_request {l : Fin 16} {kw : Bool} {p : Nat} {r : GenReq} {rs : List GenReq} {s : State}
    (hunit : s.laneUnit l = none) (hpage : (List.range 8).find? (fun q => (s.page q).lane == some l.val) = some p)
    (hreqs : (s.page p).reqs = r :: rs) :
    completes (.cipherFault l kw) s fun t => (t.page p).reqs.map GenReq.addr = rs.map GenReq.addr ∧ t.event 67 = true ∧
      t.get (SEC_P_STAT_LAST p) = cipherFault := by
  obtain ⟨z, hz, hexec⟩ : ∃ z, z = ((s.zeroDst r).laneFault l kw r.slot).reqStatus r cipherFault r.blocks
      (List.replicate (if r.host then reqDstLen (s.reqImage r) else 0) 0) ∧
      execCipherFault l kw s = goOn (z.reqFinished p cipherFault).arbitrate := by
    refine ⟨_, rfl, ?_⟩
    unfold execCipherFault
    simp only [hunit, hpage, hreqs]
    rfl
  have hpages : (z.page p).reqs = r :: rs := by
    rw [hz, State.page_reqStatus, State.page_laneFault, State.page_zeroDst, hreqs]
  have hevent : z.event 67 = true := by
    rw [hz, (State.reqStatus_moves _ _ _ _ _).event_eq 67 rfl]
    exact State.event_laneFault _ _ _ _
  have hlater := (z.reqFinished_steady p cipherFault).trans (State.arbitrate_arbitrated _).steady
  exact completes_of_goOn hexec ⟨State.addrs_arbitrate_reqFinished hpages _, hlater.event 67 hevent,
    (z.reqFinished_completed p cipherFault).arbitrate.last⟩

/-- A receive unit of the slot engine ends without commit. -/
theorem cipherFault_unit {l : Fin 16} {kw : Bool} {id k : Nat} {u : RxUnit} {s : State} (hlane : s.laneUnit l = some id)
    (hunit : s.rxUnit id = some u) (hsecured : u.hdr.secured = true)
    (hkey : u.ctx.bind (fun c => s.selectKey c u.hdr) = some k) :
    completes (.cipherFault l kw) s fun t => t.rxUnit id = none ∧ t.event 67 = true := by
  have hid : u.id = id := by simpa using List.find?_some hunit
  obtain ⟨z, hz, hexec⟩ : ∃ z, z = ((s.charged k u.blocks false).2.laneFault l kw k).bump SEC_COUNT1_SE_FAULT ∧
      execCipherFault l kw s = goOn (z.endRx u) := by
    refine ⟨_, rfl, ?_⟩
    unfold execCipherFault
    simp only [hlane, hunit, hkey, hsecured, if_true]
    rfl
  refine completes_of_goOn hexec ⟨hid ▸ z.rxUnit_endRx u, ?_⟩
  rw [(z.endRx_moves u).event_eq 67 rfl, hz]
  exact (State.put_steady _ _ SEC_COUNT1_SE_FAULT_block (by decide) (by decide)).event 67 (State.event_laneFault _ _ _ _)

/-! The host's cipher request, object 0x5003.00 (R201). -/

theorem cipherRequestObject_range {d : List Byte} {s : State}
    (hbad : d.length < 40 ∨ reqIsCcm d = false ∨ leAt d 8 8 ≠ 0 ∨ d.length ≠ 40 + reqSrcLen d) :
    completes (.cipherRequestObject d) s fun t => t.host.result = .range ∧ t.sec = s.sec := by
  have hexec : execCipherRequestObject d s = goOn (s.answer .range) := by
    unfold execCipherRequestObject
    rw [if_pos (by simpa using hbad)]
  exact completes_of_goOn hexec ⟨rfl, rfl⟩

section object
variable {d : List Byte} {s : State} (hlen : 40 ≤ d.length) (hccm : reqIsCcm d = true) (haddr : leAt d 8 8 = 0)
  (hdata : d.length = 40 + reqSrcLen d)
include hlen hccm haddr hdata

theorem cipherRequest_inRange :
    ¬(d.length < 40 ∨ (!reqIsCcm d) = true ∨ leAt d 8 8 ≠ 0 ∨ d.length ≠ 40 + reqSrcLen d) := by
  simp [hccm, haddr, ← hdata, hlen]

theorem cipherRequestObject_taken (href : s.refFailed = false) (hroom : (s.page 3).reqs.length < 4)
    (hfree : (s.page 3).reqs.any GenReq.host = false) :
    completes (.cipherRequestObject d) s fun t => t.host.result = .ok ∧ t.sec.hostReq = d ∧
      (t.page 3).reqs.any GenReq.host = true := by
  obtain ⟨z, hz⟩ : ∃ z : State, z = { s with sec := { s.sec with hostReq := d } } := ⟨_, rfl⟩
  have hpage : z.page 3 = s.page 3 := by
    rw [hz]
    rfl
  have hexec : execCipherRequestObject d s = goOn ((z.submit 3 { addr := 0, host := true }).answer .ok) := by
    unfold execCipherRequestObject
    rw [if_neg (cipherRequest_inRange hlen hccm haddr hdata), if_neg (by simp [href, hroom, hfree]), hz]
  have hzroom : (z.page 3).reqs.length < 4 := hpage ▸ hroom
  refine completes_of_goOn hexec ⟨rfl, ?_, ?_⟩
  · rw [State.answer_sec, State.submit_room hzroom, (State.arbitrate_arbitrated _).hostReq, hz]
    rfl
  · rw [State.page_congr (State.answer_sec _ _), (State.queue_submit hzroom _).host, List.any_append]
    simp

theorem cipherRequestObject_busy (hhost : (s.page 3).reqs.any GenReq.host = true) :
    completes (.cipherRequestObject d) s fun t => t.host.result = .busy ∧ t.sec = s.sec := by
  have hexec : execCipherRequestObject d s = goOn (s.answer .busy) := by
    unfold execCipherRequestObject
    rw [if_neg (cipherRequest_inRange hlen hccm haddr hdata), if_pos (.inr (.inr hhost))]
  exact completes_of_goOn hexec ⟨rfl, rfl⟩

end object

/-- Settles O18: each key command, submission and end of a request by its own lemma. -/
theorem keyCommandsAndGeneralRequests : Obligations.KeyCommandsAndGeneralRequests := by
  unfold Obligations.KeyCommandsAndGeneralRequests
  exact ⟨fun _ _ => keyLoad_loads, fun _ _ => keyLoad_foreign, fun _ _ => keyClear_clears,
    fun _ _ _ => keyCommandApply_clears, fun v _ => keyOwnerWrite_zeroises v, fun _ _ _ _ => keyExhausted_exhausts,
    fun _ a _ => cipherSubmit_joins a, fun _ a _ => cipherSubmit_rejected a, fun _ _ _ _ _ => cipherChunkEnd_returns,
    fun _ _ _ _ _ => cipherDone_failed, fun _ _ _ _ _ => cipherDone_ran, fun _ _ => pageAbort_empties,
    fun _ _ _ _ _ _ => cipherFault_request, fun _ _ _ _ _ _ => cipherFault_unit, fun _ _ => cipherRequestObject_range,
    fun _ _ href hlen hccm haddr hdata => cipherRequestObject_taken hlen hccm haddr hdata href,
    fun _ _ => cipherRequestObject_busy⟩

end Sys2Proof.Machine

/-! ## Acquisition commands of the GNSS island and their results -/
namespace Sys2Proof.Machine

/-! Fields of the GNSS block. -/

theorem State.on_congr {s t : State} {f : RegField} (h : t.get f = s.get f) : t.on f = s.on f := congrArg (· != 0) h

/-- An event writes no field of the GNSS block. -/
theorem State.get_raise_gnss (s : State) (n : Nat) {f : RegField} (hf : f.inBlock 8) : (s.raise n).get f = s.get f :=
  (s.raise_moves n).get_eq hf (by decide) rfl

/-- Fields written one after another: what none of them is reads as before. -/
theorem State.get_foldl_put_ne (s : State) {ι : Type} {l : List ι} (field : ι → RegField) (v : ι → Nat) {g : RegField}
    (h : ∀ i ∈ l, g.key ≠ (field i).key) : (l.foldl (fun (s : State) i => s.put (field i) (v i)) s).get g = s.get g := by
  induction l generalizing s with
  | nil => rfl
  | cons i l ih =>
    obtain ⟨hi, hl⟩ := List.forall_mem_cons.mp h
    exact (ih (s.put (field i) (v i)) hl).trans (s.get_put_ne _ hi)

/-- Fields written one after another: each holds what was written to it. -/
theorem State.get_foldl_put (s : State) {ι : Type} {l : List ι} (field : ι → RegField) (v : ι → Nat)
    (hl : l.Pairwise fun i j => (field i).key ≠ (field j).key) {i : ι} (hi : i ∈ l) :
    (l.foldl (fun (s : State) i => s.put (field i) (v i)) s).get (field i) = v i % 2 ^ (field i).width := by
  induction l generalizing s with
  | nil => cases hi
  | cons j l ih =>
    obtain ⟨hj, hrest⟩ := List.pairwise_cons.mp hl
    rcases List.mem_cons.mp hi with rfl | hi
    · exact (State.get_foldl_put_ne _ field v hj).trans (State.get_put_self _ _ _)
    · exact ih _ hrest hi

/-! Acquisition commands and their results (R206 to R208). -/

/-- R208: PUSH with room in the command FIFO. -/
theorem acqPush_queues {s : State} (hen : s.on GNS_CTRL_EN = true) (hroom : s.gnss.acqCmds.length < 8) :
    completes .acqPush s fun t => t.gnss.acqCmds = s.gnss.acqCmds ++ [s.acqStaged] ∧ t.get GNS_ACQSTAT_ACQ_REJ = 0 := by
  have hexec : execAcqPush s =
      goOn ((s.setGnss { s.gnss with acqCmds := s.gnss.acqCmds ++ [s.acqStaged] }).flag GNS_ACQSTAT_ACQ_REJ false) := by
    simp only [execAcqPush, hen, Bool.not_true, Bool.false_eq_true, if_false, if_neg (Nat.not_le.mpr hroom)]
  exact completes_of_goOn hexec ⟨rfl, State.get_flag_self _ _ _⟩

/-- R208: PUSH with eight commands queued. -/
theorem acqPush_rejected {s : State} (hen : s.on GNS_CTRL_EN = true) (hfull : 8 ≤ s.gnss.acqCmds.length) :
    completes .acqPush s fun t => t.gnss = s.gnss ∧ t.get GNS_ACQSTAT_ACQ_REJ = 1 := by
  have hexec : execAcqPush s = goOn (s.flag GNS_ACQSTAT_ACQ_REJ true) := by
    simp only [execAcqPush, hen, Bool.not_true, Bool.false_eq_true, if_false, if_pos hfull]
  exact completes_of_goOn hexec ⟨rfl, State.get_flag_self _ _ _⟩

theorem State.acqFinish_gnss (s : State) (r : List Byte) : (s.acqFinish r).gnss =
    { s.gnss with acqCmds := s.gnss.acqCmds.drop 1, acqResults := s.gnss.acqResults ++ [r] } := State.raise_gnss _ 72

theorem State.event_acqFinish (s : State) (r : List Byte) : (s.acqFinish r).event 72 = true := State.event_raise _ 72

theorem State.acqFinish_steady (s : State) (r : List Byte) : Steady s (s.acqFinish r) :=
  ((s.setGnss_moves _).steady rfl rfl).trans (State.raise_steady _ 72)

/-- The commands `cs` end ABORTED, one after another. -/
def State.acqAborted (s : State) (cs : List (List Byte)) : State :=
  cs.foldl (fun (s : State) c => s.acqFinish (acqResult c 3 0 0 0 0 0)) s

theorem State.acqAborted_gnss (s : State) (cs : List (List Byte)) :
    (s.acqAborted cs).gnss.acqCmds = s.gnss.acqCmds.drop cs.length ∧
      (s.acqAborted cs).gnss.acqResults = s.gnss.acqResults ++ cs.map fun c => acqResult c 3 0 0 0 0 0 := by
  induction cs generalizing s with
  | nil => simp [State.acqAborted]
  | cons c cs ih =>
    obtain ⟨hcmds, hresults⟩ := ih (s.acqFinish (acqResult c 3 0 0 0 0 0))
    refine ⟨hcmds.trans ?_, hresults.trans ?_⟩
    · simp [State.acqFinish_gnss, Nat.add_comm]
    · simp [State.acqFinish_gnss]

theorem State.event_acqAborted (s : State) {cs : List (List Byte)} (h : cs ≠ []) : (s.acqAborted cs).event 72 = true := by
  obtain ⟨c, cs, rfl⟩ := List.exists_cons_of_ne_nil h
  exact (Steady.foldl (fun s c => s.acqFinish_steady _) cs _).event 72 (s.event_acqFinish _)

/-- R208: ABORT ends every command. That their results are kept beyond eight is the model's choice (log entry 36). -/
theorem acqAbort_aborts {s : State} (hcmds : s.gnss.acqCmds ≠ []) :
    completes .acqAbort s fun t => t.gnss.acqCmds = [] ∧ t.event 72 = true ∧
      t.gnss.acqResults = s.gnss.acqResults ++ s.gnss.acqCmds.map (fun c => acqResult c 3 0 0 0 0 0) := by
  have hexec : execAcqAbort s = goOn (s.acqAborted s.gnss.acqCmds) := rfl
  obtain ⟨hnone, hresults⟩ := s.acqAborted_gnss s.gnss.acqCmds
  exact completes_of_goOn hexec ⟨hnone.trans List.drop_length, s.event_acqAborted hcmds, hresults⟩

/-- R208: HANDOFF to a free channel loads and starts it, and leaves the FIFOs. -/
theorem State.handOff_free (s : State) {c : List Byte} (dopp : Int) (now : Nat) (hwanted : bit (leAt c 13 1) 0 = true)
    (hfree : s.on (GNS_CCFG_EN (leAt c 14 1)) = false) : ∃ z : State, s.handOff c dopp now = (1, z) ∧
      z.gnss.acqCmds = s.gnss.acqCmds ∧ z.gnss.acqResults = s.gnss.acqResults ∧ z.on (GNS_CCFG_EN (leAt c 14 1)) = true := by
  unfold State.handOff
  simp only [hwanted, hfree, Bool.not_true, Bool.false_eq_true, if_false]
  exact ⟨_, rfl, rfl, rfl, State.on_flag_bit _ true rfl⟩

section running
variable {c : List Byte} {cs : List (List Byte)} {s : State} (hcmds : s.gnss.acqCmds = c :: cs)
include hcmds

/-- The running command leaves its FIFO, and its result joins the other. -/
theorem State.acqFinish_ends (r : List Byte) : (s.acqFinish r).gnss.acqCmds = cs ∧ (s.acqFinish r).event 72 = true ∧
    (s.acqFinish r).gnss.acqResults = s.gnss.acqResults ++ [r] := by
  rw [s.acqFinish_gnss r]
  exact ⟨by rw [hcmds]; rfl, s.event_acqFinish r, rfl⟩

variable (hroom : s.gnss.acqResults.length < 8)
include hroom

/-- R207: a command with a field outside its range runs nothing. -/
theorem acqDone_bad (code : Nat) (dopp : Int) (ratio tRef now : Nat) (hbad : acqOk c = false) :
    completes (.acqDone code dopp ratio tRef now) s fun t => t.gnss.acqCmds = cs ∧ t.event 72 = true ∧
      t.gnss.acqResults = s.gnss.acqResults ++ [acqResult c 2 0 0 0 0 0] := by
  have hexec : execAcqDone code dopp ratio tRef now s = goOn (s.acqFinish (acqResult c 2 0 0 0 0 0)) := by
    simp only [execAcqDone, hcmds, if_neg (Nat.not_le.mpr hroom), hbad, Bool.not_false, if_true]
  exact completes_of_goOn hexec (State.acqFinish_ends hcmds _)

variable (hok : acqOk c = true)
include hok

/-- R206: the best peak stays below the command's threshold. -/
theorem acqDone_notFound (code : Nat) (dopp : Int) (ratio tRef now : Nat) (hbelow : ratio < leAt c 12 1) :
    completes (.acqDone code dopp ratio tRef now) s fun t => t.gnss.acqCmds = cs ∧ t.event 72 = true ∧
      t.gnss.acqResults = s.gnss.acqResults ++
        [acqResult c 1 0 (code % (codeLength (leAt c 0 1) * 65536)) dopp (min ratio 65535) tRef] := by
  have hexec : execAcqDone code dopp ratio tRef now s =
      goOn (s.acqFinish (acqResult c 1 0 (code % (codeLength (leAt c 0 1) * 65536)) dopp (min ratio 65535) tRef)) := by
    simp only [execAcqDone, hcmds, if_neg (Nat.not_le.mpr hroom), hok, Bool.not_true, Bool.false_eq_true, if_false,
      if_neg (Nat.not_le.mpr hbelow)]
  exact completes_of_goOn hexec (State.acqFinish_ends hcmds _)

/-- R206, R208: the best peak reaches the threshold of a command with HANDOFF, whose channel is free. -/
theorem acqDone_found (code : Nat) (dopp : Int) (ratio tRef now : Nat) (hreached : leAt c 12 1 ≤ ratio)
    (hwanted : bit (leAt c 13 1) 0 = true) (hfree : s.on (GNS_CCFG_EN (leAt c 14 1)) = false) :
    completes (.acqDone code dopp ratio tRef now) s fun t => t.gnss.acqCmds = cs ∧ t.event 72 = true ∧
      t.on (GNS_CCFG_EN (leAt c 14 1)) = true ∧ t.gnss.acqResults = s.gnss.acqResults ++
        [acqResult c 0 1 (code % (codeLength (leAt c 0 1) * 65536)) dopp (min ratio 65535) tRef] := by
  obtain ⟨z, hz, hzcmds, hzresults, hon⟩ := s.handOff_free dopp now hwanted hfree
  have hexec : execAcqDone code dopp ratio tRef now s =
      goOn (z.acqFinish (acqResult c 0 1 (code % (codeLength (leAt c 0 1) * 65536)) dopp (min ratio 65535) tRef)) := by
    simp only [execAcqDone, hcmds, if_neg (Nat.not_le.mpr hroom), hok, Bool.not_true, Bool.false_eq_true, if_false,
      if_pos hreached, hz]
  obtain ⟨hnext, hevent, hresult⟩ := State.acqFinish_ends (hzcmds.trans hcmds)
    (acqResult c 0 1 (code % (codeLength (leAt c 0 1) * 65536)) dopp (min ratio 65535) tRef)
  refine completes_of_goOn hexec ⟨hnext, hevent, ?_, hresult.trans (by rw [hzresults])⟩
  exact (State.on_congr (State.get_raise_gnss _ 72 (GNS_CCFG_EN_block _))).trans hon

end running

/-- R208: POP removes the oldest result. -/
theorem acqPop_drops (s : State) : completes .acqPop s fun t => t.gnss.acqResults = s.gnss.acqResults.drop 1 :=
  completes_of_goOn (t := s.setGnss { s.gnss with acqResults := s.gnss.acqResults.drop 1 }) rfl rfl

end Sys2Proof.Machine

/-! ## Tracking channels at a block boundary and their lock monitor -/
namespace Sys2Proof.Machine

/-! The outputs of a block (R210 to R215). -/

/-- The outputs of a channel stand one after another (GNS_CCORR0_c to GNS_CCORR13_c). -/
theorem corrField_eq (c : Nat) {i : Nat} (hi : i < 14) :
    corrField c i = ⟨0x40081020 + 4 * i + 0x80 * (c % 96), 0, 32, 0⟩ := by
  match i, hi with
  | 0, _ | 1, _ | 2, _ | 3, _ | 4, _ | 5, _ | 6, _ | 7, _ | 8, _ | 9, _ | 10, _ | 11, _ | 12, _ | 13, _ => rfl

theorem corrField_pairwise (c : Nat) : (List.range 14).Pairwise fun i j => (corrField c i).key ≠ (corrField c j).key :=
  List.pairwise_lt_range.imp_of_mem fun {i j} hi hj hij => by
    rw [corrField_eq c (List.mem_range.mp hi), corrField_eq c (List.mem_range.mp hj)]
    simp only [RegField.key]
    omega

/-- A block boundary up to the outputs, their flags and the next block's start; what follows counts the block. -/
def State.showBlock (s : State) (c : Nat) (outs : List Int) : State :=
  let s := (List.range 14).foldl (fun (s : State) i => s.put (corrField c i) (unsigned 32 (outs.getD i 0))) s
  let s := s.put (GNS_CDD_DD c) (unsigned 32 (doubleDelta outs))
  let s := s.bumpWrap (GNS_CSTAT_SEQ c)
  let s := s.put (GNS_CHIST_HIST c) (2 * s.get (GNS_CHIST_HIST c) + ofBool (decide (0 < outs.getD 6 0)))
  let s := if s.on (GNS_CSTAT_BLOCK_READY c) then s.flag (GNS_CSTAT_OVR c) true else s
  (s.flag (GNS_CSTAT_BLOCK_READY c) true).put (GNS_CPH_PHASE c) 0

/-- The secondary chip index is one field. -/
theorem State.get_secondary (s : State) (c : Nat) {f : RegField} (hf : f.key ≠ (GNS_CSEC_SECPH c).key) :
    (s.secondary c).get f = s.get f := by
  unfold State.secondary
  extract_lets x sys n len s'
  have hs' : s'.get f = s.get f := by
    unfold s'
    split
    · rfl
    · exact s.get_put_ne _ hf
  split
  · rfl
  · exact hs'

/-- Once the outputs are shown, a boundary writes no other register of the island but the secondary chip index. -/
theorem execBlockBoundary_shows {n : Fin 96} {s : State} (hen : s.on GNS_CTRL_EN = true) (hchan : s.on (GNS_CCFG_EN n) = true)
    (outs : List Int) : ∃ z, execBlockBoundary n outs s = goOn z ∧
      ∀ f : RegField, f.inBlock 8 → f.key ≠ (GNS_CSEC_SECPH n).key → z.get f = (s.showBlock n outs).get f := by
  generalize ho : execBlockBoundary n outs s = o
  unfold execBlockBoundary at ho
  extract_lets c corr dd seq hist ovr shown indexed x p m counted ms z at ho
  rw [if_neg (by simp [c, hen, hchan])] at ho
  have hz : ∀ f : RegField, f.key ≠ (GNS_CSEC_SECPH n).key → z.get f = (s.showBlock n outs).get f := fun f hf => by
    have hshown : s.showBlock n outs = shown := rfl
    rw [hshown]
    calc z.get f = indexed.get f := indexed.get_setGnss _ f
      _ = shown.get f := shown.get_secondary c hf
  subst ho
  split
  · exact ⟨z, rfl, fun f _ hf => hz f hf⟩
  · exact ⟨_, rfl, fun f hblock hf => ((State.get_raise_gnss _ 83 hblock).trans (z.get_setGnss _ f)).trans (hz f hf)⟩


theorem unsigned_lt (w : Nat) (i : Int) : unsigned w i < 2 ^ w := by
  have hpos : (0 : Int) < ((2 ^ w : Nat) : Int) := Int.natCast_pos.mpr (Nat.two_pow_pos w)
  have hlt : i % ((2 ^ w : Nat) : Int) < ((2 ^ w : Nat) : Int) := Int.emod_lt_of_pos i hpos
  unfold unsigned
  omega

/-- An output is at no place of the flags and of the other values that a boundary shows. -/
theorem corrField_key_ne (c : Nat) {i : Nat} (hi : i < 14) {f : RegField}
    (hf : f ∈ [GNS_CDD_DD c, GNS_CSTAT_SEQ c, GNS_CHIST_HIST c, GNS_CSTAT_OVR c, GNS_CSTAT_BLOCK_READY c, GNS_CPH_PHASE c,
      GNS_CSEC_SECPH c]) : (corrField c i).key ≠ f.key := by
  rw [corrField_eq c hi]
  simp only [List.mem_cons, List.not_mem_nil, or_false] at hf
  rcases hf with rfl | rfl | rfl | rfl | rfl | rfl | rfl <;>
    (simp only [RegField.key, GNS_CDD_DD, GNS_CSTAT_SEQ, GNS_CHIST_HIST, GNS_CSTAT_OVR, GNS_CSTAT_BLOCK_READY, GNS_CPH_PHASE,
      GNS_CSEC_SECPH]; omega)

/-- What the fields read that a boundary shows, BLOCK_READY set and OVR set over a block not yet taken. -/
theorem State.get_showBlock (s : State) (c : Nat) (outs : List Int) :
    (∀ i < 14, (s.showBlock c outs).get (corrField c i) = unsigned 32 (outs.getD i 0)) ∧
      (s.showBlock c outs).get (GNS_CSTAT_BLOCK_READY c) = 1 ∧
      (s.on (GNS_CSTAT_BLOCK_READY c) = true → (s.showBlock c outs).get (GNS_CSTAT_OVR c) = 1) ∧
      (s.showBlock c outs).get (GNS_CDD_DD c) = unsigned 32 (doubleDelta outs) := by
  have hready : (GNS_CSTAT_BLOCK_READY c).key ≠ (GNS_CPH_PHASE c).key ∧
      (GNS_CSTAT_BLOCK_READY c).key ≠ (GNS_CHIST_HIST c).key ∧ (GNS_CSTAT_BLOCK_READY c).key ≠ (GNS_CSTAT_SEQ c).key ∧
      (GNS_CSTAT_BLOCK_READY c).key ≠ (GNS_CDD_DD c).key := by
    simp only [RegField.key, GNS_CSTAT_BLOCK_READY, GNS_CPH_PHASE, GNS_CHIST_HIST, GNS_CSTAT_SEQ, GNS_CDD_DD]
    omega
  have hovr : (GNS_CSTAT_OVR c).key ≠ (GNS_CPH_PHASE c).key ∧ (GNS_CSTAT_OVR c).key ≠ (GNS_CSTAT_BLOCK_READY c).key := by
    simp only [RegField.key, GNS_CSTAT_OVR, GNS_CPH_PHASE, GNS_CSTAT_BLOCK_READY]
    omega
  obtain ⟨hphase, hhist, hseq, hdd⟩ := hready
  unfold State.showBlock
  extract_lets corr dd seq hist late
  -- the fields that the flags and the history leave
  have hkept : ∀ f : RegField, f.key ≠ (GNS_CPH_PHASE c).key → f.key ≠ (GNS_CSTAT_BLOCK_READY c).key →
      f.key ≠ (GNS_CSTAT_OVR c).key → f.key ≠ (GNS_CHIST_HIST c).key → f.key ≠ (GNS_CSTAT_SEQ c).key →
      ((late.flag (GNS_CSTAT_BLOCK_READY c) true).put (GNS_CPH_PHASE c) 0).get f = dd.get f := fun f h1 h2 h3 h4 h5 => by
    have hlate : late.get f = hist.get f := by
      unfold late
      split
      · exact State.get_flag_ne _ _ h3
      · rfl
    rw [State.get_put_ne _ _ h1, State.get_flag_ne _ _ h2, hlate]
    exact (State.get_put_ne _ _ h4).trans (State.get_bumpWrap_ne _ h5)
  refine ⟨fun i hi => ?_, ?_, fun hon => ?_, ?_⟩
  · have hne := fun f hf => corrField_key_ne c hi (f := f) hf
    rw [hkept _ (hne _ (by simp)) (hne _ (by simp)) (hne _ (by simp)) (hne _ (by simp)) (hne _ (by simp))]
    have hread : dd.get (corrField c i) = unsigned 32 (outs.getD i 0) % 2 ^ (corrField c i).width :=
      (State.get_put_ne _ _ (hne _ (by simp))).trans
        (s.get_foldl_put (corrField c) _ (corrField_pairwise c) (List.mem_range.mpr hi))
    rw [hread, corrField_eq c hi]
    exact Nat.mod_eq_of_lt (unsigned_lt 32 _)
  · rw [State.get_put_ne _ _ hphase]
    exact State.get_flag_self _ _ _
  · have hcorr : corr.get (GNS_CSTAT_BLOCK_READY c) = s.get (GNS_CSTAT_BLOCK_READY c) :=
      s.get_foldl_put_ne (corrField c) _ fun i hi => (corrField_key_ne c (List.mem_range.mp hi) (by simp)).symm
    have hhistory : hist.on (GNS_CSTAT_BLOCK_READY c) = true := by
      refine (State.on_congr ?_).trans hon
      exact (State.get_put_ne _ _ hhist).trans ((State.get_bumpWrap_ne _ hseq).trans ((State.get_put_ne _ _ hdd).trans hcorr))
    have hlate : late = hist.flag (GNS_CSTAT_OVR c) true := if_pos hhistory
    rw [State.get_put_ne _ _ hovr.1, State.get_flag_ne _ _ hovr.2, hlate]
    exact State.get_flag_self _ _ _
  · have hne : (GNS_CDD_DD c).key ≠ (GNS_CPH_PHASE c).key ∧ (GNS_CDD_DD c).key ≠ (GNS_CSTAT_OVR c).key ∧
        (GNS_CDD_DD c).key ≠ (GNS_CHIST_HIST c).key ∧ (GNS_CDD_DD c).key ≠ (GNS_CSTAT_SEQ c).key := by
      simp only [RegField.key, GNS_CDD_DD, GNS_CPH_PHASE, GNS_CSTAT_OVR, GNS_CHIST_HIST, GNS_CSTAT_SEQ]
      omega
    obtain ⟨h1, h3, h4, h5⟩ := hne
    rw [hkept _ h1 hdd.symm h3 h4 h5]
    exact (State.get_put_self _ _ _).trans (Nat.mod_eq_of_lt (unsigned_lt 32 _))

/-- R210, R213, R215: an enabled channel reaches a block boundary. -/
theorem blockBoundary_shows {n : Fin 96} {s : State} (hen : s.on GNS_CTRL_EN = true) (hchan : s.on (GNS_CCFG_EN n) = true)
    (outs : List Int) : completes (.blockBoundary n outs) s fun t =>
      (∀ i : Fin 14, t.get (corrField n i) = unsigned 32 (outs.getD i 0)) ∧ t.get (GNS_CSTAT_BLOCK_READY n) = 1 ∧
      (s.on (GNS_CSTAT_BLOCK_READY n) = true → t.get (GNS_CSTAT_OVR n) = 1) ∧
      t.get (GNS_CDD_DD n) = unsigned 32 (doubleDelta outs) := by
  have hsec : (GNS_CSTAT_BLOCK_READY n).key ≠ (GNS_CSEC_SECPH n).key ∧ (GNS_CSTAT_OVR n).key ≠ (GNS_CSEC_SECPH n).key ∧
      (GNS_CDD_DD n).key ≠ (GNS_CSEC_SECPH n).key := by
    simp only [RegField.key, GNS_CSTAT_BLOCK_READY, GNS_CSTAT_OVR, GNS_CDD_DD, GNS_CSEC_SECPH]
    omega
  obtain ⟨hready, hovr, hdd⟩ := hsec
  obtain ⟨z, hexec, hget⟩ := execBlockBoundary_shows hen hchan outs
  obtain ⟨hcorr, hset, hlate, hdelta⟩ := s.get_showBlock n outs
  refine completes_of_goOn hexec ⟨fun i => ?_, ?_, fun hon => ?_, ?_⟩
  · exact (hget _ (corrField_block n i) (corrField_key_ne n i.isLt (by simp))).trans (hcorr i i.isLt)
  · exact (hget _ (GNS_CSTAT_BLOCK_READY_block n) hready).trans hset
  · exact (hget _ (GNS_CSTAT_OVR_block n) hovr).trans (hlate hon)
  · exact (hget _ (GNS_CDD_DD_block n) hdd).trans hdelta

/-! The lock monitor (R216). -/

/-- A window closes: its power is shown, and the next one begins after `losses` windows below LOSS_THR. -/
def State.closeWindow (s : State) (c losses : Nat) : State :=
  (s.put (GNS_CPOW_POW c) ((s.chan c).windowSum / (s.chan c).windowBlocks / 65536 % 2 ^ 32)).setChan c
    { s.chan c with windowSum := 0, windowBlocks := 0, losses := losses }

theorem State.get_closeWindow_ne (s : State) (c losses : Nat) {f : RegField} (h : f.key ≠ (GNS_CPOW_POW c).key) :
    (s.closeWindow c losses).get f = s.get f := s.get_put_ne _ h

section lock
variable {n : Fin 96} {s : State} (hchan : s.on (GNS_CCFG_EN n) = true) (hwindow : 20 ≤ (s.chan n).windowBlocks)
include hchan hwindow

/-- R216: the window's mean reaches LOSS_THR. -/
theorem lockMonitorWindow_holds
    (hpow : s.get GNS_LOCKCFG_LOSS_THR ≤ (s.chan n).windowSum / (s.chan n).windowBlocks / 65536) :
    completes (.lockMonitorWindow n) s fun t => t.get (GNS_CCFG_LOST n) = 0 ∧
      t.get (GNS_CPOW_POW n) = ((s.chan n).windowSum / (s.chan n).windowBlocks / 65536) % 2 ^ 32 := by
  have hne : GNS_LOCKCFG_LOSS_THR.key ≠ (GNS_CPOW_POW n).key ∧ (GNS_CPOW_POW n).key ≠ (GNS_CCFG_LOST n).key := by
    simp only [RegField.key, GNS_LOCKCFG_LOSS_THR, GNS_CPOW_POW, GNS_CCFG_LOST]
    omega
  obtain ⟨hthr, hlost⟩ := hne
  have hexec : execLockMonitorWindow n s = goOn ((s.closeWindow n 0).flag (GNS_CCFG_LOST n) false) := by
    unfold execLockMonitorWindow
    rw [if_neg (by simp [hchan, hwindow])]
    dsimp only
    rw [State.get_put_ne _ _ hthr, if_pos hpow]
    rfl
  refine completes_of_goOn hexec ⟨State.get_flag_self _ _ _, ?_⟩
  rw [State.get_flag_ne _ _ hlost]
  exact (State.get_put_self _ _ _).trans (Nat.mod_mod _ _)

/-- R216: the LOSS_N-th window below LOSS_THR. -/
theorem lockMonitorWindow_loses
    (hpow : (s.chan n).windowSum / (s.chan n).windowBlocks / 65536 < s.get GNS_LOCKCFG_LOSS_THR)
    (hcount : s.get GNS_LOCKCFG_LOSS_N ≤ (s.chan n).losses + 1) (hlocked : s.on (GNS_CCFG_LOST n) = false) :
    completes (.lockMonitorWindow n) s fun t => t.get (GNS_CCFG_LOST n) = 1 ∧ t.event 73 = true := by
  have hne : GNS_LOCKCFG_LOSS_THR.key ≠ (GNS_CPOW_POW n).key ∧ GNS_LOCKCFG_LOSS_N.key ≠ (GNS_CPOW_POW n).key ∧
      (GNS_CCFG_LOST n).key ≠ (GNS_CPOW_POW n).key := by
    simp only [RegField.key, GNS_LOCKCFG_LOSS_THR, GNS_LOCKCFG_LOSS_N, GNS_CCFG_LOST, GNS_CPOW_POW]
    omega
  obtain ⟨hthr, hlossN, hlost⟩ := hne
  have hloses : (s.closeWindow n ((s.chan n).losses + 1)).get GNS_LOCKCFG_LOSS_N ≤ (s.chan n).losses + 1 ∧
      (!(s.closeWindow n ((s.chan n).losses + 1)).on (GNS_CCFG_LOST n)) = true := by
    rw [s.get_closeWindow_ne _ _ hlossN, State.on_congr (s.get_closeWindow_ne _ _ hlost), hlocked]
    exact ⟨hcount, rfl⟩
  have hexec : execLockMonitorWindow n s =
      goOn (((s.closeWindow n ((s.chan n).losses + 1)).flag (GNS_CCFG_LOST n) true).raise 73) := by
    unfold execLockMonitorWindow
    rw [if_neg (by simp [hchan, hwindow])]
    dsimp only
    rw [State.get_put_ne _ _ hthr, if_neg (Nat.not_le.mpr hpow)]
    exact if_pos hloses
  refine completes_of_goOn hexec ⟨?_, State.event_raise _ 73⟩
  rw [State.get_raise_gnss _ 73 (GNS_CCFG_LOST_block n)]
  exact State.get_flag_self _ _ _

end lock

end Sys2Proof.Machine

/-! ## Notches, jamming, gain and the measurement latch -/
namespace Sys2Proof.Machine

/-! Notches (R217). -/

/-- Of the island's registers the step of a notch writes its LOCKED and its FREQ. -/
theorem State.get_notchStep_ne (s : State) (cs : List (Nat × Int)) (n : Nat) (track : Int) {f : RegField} (hblock : f.inBlock 8)
    (hlocked : f.key ≠ (GNS_NOTCH_LOCKED n).key) (hfreq : f.key ≠ (GNS_NOTCH_FREQ n).key) :
    (s.notchStep cs n track).get f = s.get f := by
  unfold State.notchStep
  extract_lets x set taken tracked absent still x' held
  split
  · exact (State.get_setGnss _ _ f).trans (s.get_flag_ne _ hlocked)
  split
  · split
    · rfl
    · exact (State.get_setGnss _ _ f).trans (s.get_put_ne _ hfreq)
  have htracked : tracked.get f = s.get f := s.get_put_ne _ hfreq
  split
  · exact (State.get_setGnss _ _ f).trans ((tracked.get_flag_ne _ hlocked).trans htracked)
  have hheld : held.get f = s.get f := (tracked.get_setGnss _ f).trans htracked
  split
  · exact ((State.get_raise_gnss _ 81 hblock).trans (held.get_flag_ne _ hlocked)).trans hheld
  · exact hheld

/-- The notch is off or set by hand. -/
def State.notchManual (s : State) (n : Nat) : Prop := s.on (GNS_NOTCH_EN n) = false ∨ s.on (GNS_NOTCH_AUTO n) = false

theorem State.notchManual_notchStep {s : State} {n : Nat} (h : s.notchManual n) (cs : List (Nat × Int)) (m : Nat) (track : Int) :
    (s.notchStep cs m track).notchManual n := by
  have hne : ((GNS_NOTCH_EN n).key ≠ (GNS_NOTCH_LOCKED m).key ∧ (GNS_NOTCH_EN n).key ≠ (GNS_NOTCH_FREQ m).key) ∧
      (GNS_NOTCH_AUTO n).key ≠ (GNS_NOTCH_LOCKED m).key ∧ (GNS_NOTCH_AUTO n).key ≠ (GNS_NOTCH_FREQ m).key := by
    simp only [RegField.key, GNS_NOTCH_EN, GNS_NOTCH_AUTO, GNS_NOTCH_LOCKED, GNS_NOTCH_FREQ]
    omega
  obtain ⟨⟨henl, henf⟩, hautol, hautof⟩ := hne
  unfold State.notchManual
  rwa [State.on_congr (s.get_notchStep_ne cs m track (GNS_NOTCH_EN_block n) henl henf),
    State.on_congr (s.get_notchStep_ne cs m track (GNS_NOTCH_AUTO_block n) hautol hautof)]

theorem State.locked_notchStep_manual {s : State} {n : Nat} (h : s.notchManual n) (cs : List (Nat × Int)) (track : Int) :
    (s.notchStep cs n track).get (GNS_NOTCH_LOCKED n) = 0 := by
  have hoff : (!s.on (GNS_NOTCH_EN n)) = true ∨ (!s.on (GNS_NOTCH_AUTO n)) = true := by
    simpa [State.notchManual] using h
  unfold State.notchStep
  dsimp only
  rw [if_pos hoff, State.get_setGnss]
  exact State.get_flag_self _ _ _

/-- Steps of the notches `l`, notch `n` among them or not LOCKED before: it is not LOCKED afterwards. -/
theorem State.locked_notchSteps_manual (cs : List (Nat × Int)) (tracks : List Int) {n : Nat} (hn : n < 4) {l : List Nat}
    (hl : ∀ m ∈ l, m < 4) {s : State} (h : s.notchManual n) (hstart : n ∈ l ∨ s.get (GNS_NOTCH_LOCKED n) = 0) :
    (l.foldl (fun (s : State) m => s.notchStep cs m (tracks.getD m 0)) s).get (GNS_NOTCH_LOCKED n) = 0 := by
  induction l generalizing s with
  | nil => exact hstart.resolve_left List.not_mem_nil
  | cons m l ih =>
    obtain ⟨hm, hrest⟩ := List.forall_mem_cons.mp hl
    refine ih hrest (State.notchManual_notchStep h cs m _) ?_
    by_cases hmn : n = m
    · exact .inr (hmn ▸ State.locked_notchStep_manual h cs _)
    · have hne : (GNS_NOTCH_LOCKED n).key ≠ (GNS_NOTCH_LOCKED m).key ∧
          (GNS_NOTCH_LOCKED n).key ≠ (GNS_NOTCH_FREQ m).key := by
        simp only [RegField.key, GNS_NOTCH_LOCKED, GNS_NOTCH_FREQ]
        omega
      rw [s.get_notchStep_ne cs m _ (GNS_NOTCH_LOCKED_block n) hne.1 hne.2]
      exact hstart.imp_left fun hmem => (List.mem_cons.mp hmem).resolve_left hmn

/-! Measurement buffers (R222). -/

theorem State.measHeader_length (s : State) (t per : Nat) : (s.measHeader t per).length = 32 := by
  simp [State.measHeader]

/-- The first part of what was stored reads back. -/
theorem State.bytes_setBytes_append (s : State) (a : Nat) (bs cs : List Byte) :
    (s.setBytes a (bs ++ cs)).bytes a bs.length = bs :=
  List.ext_getElem (by simp [State.bytes]) fun k hk _ => by
    have hk : k < bs.length := by simpa [State.bytes] using hk
    have hread := s.byte_setBytes a (bs ++ cs) k (by rw [List.length_append]; omega)
    rw [List.getElem_append_left hk] at hread
    simpa [State.bytes] using hread

/-! The commands of the monitors and of the latch, with the island on. -/

section on
variable {s : State} (hen : s.on GNS_CTRL_EN = true)
include hen

theorem execSpectrumUpdate_on (levels tracks : List Int) : execSpectrumUpdate levels tracks s =
    goOn ((List.range 4).foldl (fun (z : State) n =>
      z.notchStep (candidates levels (s.get (GNS_NOTCH_NOTCH_THR 0))) n (tracks.getD n 0)) s) := by
  unfold execSpectrumUpdate
  exact if_neg (by simp [hen])

/-- R217: a notch that is off or set by hand is not LOCKED. -/
theorem spectrumUpdate_manual (levels tracks : List Int) : completes (.spectrumUpdate levels tracks) s fun t =>
    ∀ n : Fin 4, s.on (GNS_NOTCH_EN n) = false ∨ s.on (GNS_NOTCH_AUTO n) = false → t.get (GNS_NOTCH_LOCKED n) = 0 := by
  refine completes_of_goOn (execSpectrumUpdate_on hen levels tracks) fun n h => ?_
  exact State.locked_notchSteps_manual _ tracks n.isLt (fun _ => List.mem_range.mp) h (.inl (List.mem_range.mpr n.isLt))

/-- R217: notch 0 takes the only candidate; the notches after it leave its frequency. -/
theorem spectrumUpdate_takes (levels tracks : List Int) {c : Nat × Int} (hnotch : s.on (GNS_NOTCH_EN 0) = true)
    (hauto : s.on (GNS_NOTCH_AUTO 0) = true) (hfree : (s.gnss.notches.getD 0 {}).holds = false)
    (hcand : candidates levels (s.get (GNS_NOTCH_NOTCH_THR 0)) = [c]) : completes (.spectrumUpdate levels tracks) s fun t =>
    t.get (GNS_NOTCH_FREQ 0) = unsigned 16 (binKhz c.1) := by
  refine completes_of_goOn (execSpectrumUpdate_on hen levels tracks) ?_
  have htakes : (s.notchStep [c] 0 (tracks.getD 0 0)).get (GNS_NOTCH_FREQ 0) = unsigned 16 (binKhz c.1) := by
    unfold State.notchStep
    simp only [hnotch, hauto, hfree, Bool.not_true, Bool.not_false, Bool.false_eq_true, or_self, if_false, if_true,
      List.range_zero, List.any_nil, List.filter_cons, List.filter_nil, List.foldl_cons, List.foldl_nil, State.get_setGnss,
      State.get_put_self]
    exact Nat.mod_eq_of_lt (unsigned_lt 16 _)
  have hrange : List.range 4 = [0, 1, 2, 3] := rfl
  rw [hcand, hrange]
  simp only [List.foldl_cons, List.foldl_nil]
  rw [State.get_notchStep_ne _ _ 3 _ (GNS_NOTCH_FREQ_block 0) (by decide) (by decide),
    State.get_notchStep_ne _ _ 2 _ (GNS_NOTCH_FREQ_block 0) (by decide) (by decide),
    State.get_notchStep_ne _ _ 1 _ (GNS_NOTCH_FREQ_block 0) (by decide) (by decide), htakes]

/-! Jamming and gain (R205, R218). -/

/-- R218: J follows the power, and JAM is set at JAM_THR and cleared below it by JAM_HYST. -/
theorem jammingUpdate_follows {p8 : Int} {j : Nat} (hj : j = if p8 - Config.p8Ref < 0 then 0
      else if 255 < p8 - Config.p8Ref then 255 else (p8 - Config.p8Ref).toNat) :
    completes (.jammingUpdate p8) s fun t => t.get GNS_JAM_J = j ∧
      (s.on GNS_STATUS_JAM = false → s.get GNS_JAM_JAM_THR ≤ j → t.on GNS_STATUS_JAM = true ∧ t.event 80 = true) ∧
      (s.on GNS_STATUS_JAM = true → j + s.get GNS_JAM_JAM_HYST < s.get GNS_JAM_JAM_THR →
        t.on GNS_STATUS_JAM = false ∧ t.event 80 = true) := by
  have hsmall : j < 2 ^ GNS_JAM_J.width := by
    show j < 256
    rw [hj]
    split
    · decide
    split <;> omega
  have hthr : (s.put GNS_JAM_J j).get GNS_JAM_JAM_THR = s.get GNS_JAM_JAM_THR := s.get_put_ne _ (by decide)
  have hhyst : (s.put GNS_JAM_J j).get GNS_JAM_JAM_HYST = s.get GNS_JAM_JAM_HYST := s.get_put_ne _ (by decide)
  have hwas : (s.put GNS_JAM_J j).on GNS_STATUS_JAM = s.on GNS_STATUS_JAM := State.on_congr (s.get_put_ne _ (by decide))
  have hshown : (s.put GNS_JAM_J j).get GNS_JAM_J = j := (State.get_put_self _ _ _).trans (Nat.mod_eq_of_lt hsmall)
  -- a crossing sets or clears JAM with E80 and leaves J
  have hcrossed : ∀ b : Bool, (((s.put GNS_JAM_J j).flag GNS_STATUS_JAM b).raise 80).get GNS_JAM_J = j ∧
      (((s.put GNS_JAM_J j).flag GNS_STATUS_JAM b).raise 80).on GNS_STATUS_JAM = b ∧
      (((s.put GNS_JAM_J j).flag GNS_STATUS_JAM b).raise 80).event 80 = true := fun b => by
    refine ⟨?_, ?_, State.event_raise _ 80⟩
    · rw [State.get_raise_gnss _ 80 GNS_JAM_J_block, State.get_flag_ne _ _ (by decide), hshown]
    · exact (State.on_congr (State.get_raise_gnss _ 80 GNS_STATUS_JAM_block)).trans (State.on_flag_bit _ b rfl)
  have hexec : execJammingUpdate p8 s =
      if (!s.on GNS_STATUS_JAM) = true ∧ s.get GNS_JAM_JAM_THR ≤ j then
        goOn (((s.put GNS_JAM_J j).flag GNS_STATUS_JAM true).raise 80)
      else if s.on GNS_STATUS_JAM = true ∧ j + s.get GNS_JAM_JAM_HYST ≤ s.get GNS_JAM_JAM_THR then
        goOn (((s.put GNS_JAM_J j).flag GNS_STATUS_JAM false).raise 80)
      else goOn (s.put GNS_JAM_J j) := by
    unfold execJammingUpdate
    rw [if_neg (by simp [hen])]
    dsimp only
    rw [← hj, hthr, hhyst, hwas]
  by_cases hset : (!s.on GNS_STATUS_JAM) = true ∧ s.get GNS_JAM_JAM_THR ≤ j
  · rw [if_pos hset] at hexec
    obtain ⟨hkept, hon, hevent⟩ := hcrossed true
    exact completes_of_goOn hexec ⟨hkept, fun _ _ => ⟨hon, hevent⟩, fun hjam _ => by simp [hjam] at hset⟩
  rw [if_neg hset] at hexec
  by_cases hclear : s.on GNS_STATUS_JAM = true ∧ j + s.get GNS_JAM_JAM_HYST ≤ s.get GNS_JAM_JAM_THR
  · rw [if_pos hclear] at hexec
    obtain ⟨hkept, hoff, hevent⟩ := hcrossed false
    exact completes_of_goOn hexec ⟨hkept, fun hjam _ => by simp [hjam] at hclear, fun _ _ => ⟨hoff, hevent⟩⟩
  · rw [if_neg hclear] at hexec
    exact completes_of_goOn hexec ⟨hshown, fun hjam hreach => absurd ⟨by rw [hjam]; rfl, hreach⟩ hset,
      fun hjam hbelow => absurd ⟨hjam, Nat.le_of_lt hbelow⟩ hclear⟩

/-- R205: the gain moves by at most 1 dB. -/
theorem gnssAgcStep_moves (rms : Nat) (hauto : s.on GNS_CTRL_AGC_AUTO = true) (hgain : s.get GNS_GAIN_GAIN < 64) :
    completes (.gnssAgcStep rms) s fun t => t.get GNS_GAIN_GAIN =
      if 55 < rms then s.get GNS_GAIN_GAIN - 1
      else if rms < 45 then min 63 (s.get GNS_GAIN_GAIN + 1) else s.get GNS_GAIN_GAIN := by
  have hwrite : ∀ v < 64, (s.put GNS_GAIN_GAIN v).get GNS_GAIN_GAIN = v := fun v hv =>
    (State.get_put_self _ _ _).trans (Nat.mod_eq_of_lt hv)
  have hexec : execGnssAgcStep rms s = if 55 < rms then goOn (s.put GNS_GAIN_GAIN (s.get GNS_GAIN_GAIN - 1))
      else if rms < 45 then goOn (s.put GNS_GAIN_GAIN (min 63 (s.get GNS_GAIN_GAIN + 1))) else goOn s := by
    unfold execGnssAgcStep
    exact if_neg (by simp [hen, hauto])
  by_cases hhigh : 55 < rms
  · rw [if_pos hhigh] at hexec ⊢
    exact completes_of_goOn hexec (hwrite _ (by omega))
  rw [if_neg hhigh] at hexec ⊢
  by_cases hlow : rms < 45
  · rw [if_pos hlow] at hexec ⊢
    exact completes_of_goOn hexec (hwrite _ (by omega))
  · rw [if_neg hlow] at hexec ⊢
    exact completes_of_goOn hexec rfl

/-! The measurement latch (R221, R222). -/

/-- R221, R222: an epoch later than the last one latched goes to the buffer not written last, its header first. -/
theorem measLatch_latches (phases : List (Nat × Int × Nat)) {per : Nat} (hper : per = s.get GNS_MEASCFG_PERIOD * 10000000)
    (hon : per ≠ 0) (hnew : s.gnss.lastEpoch.all (fun e => decide (e < s.tnet / per * per)) = true) :
    completes (.measLatch phases) s fun t => t.get GNS_MEASSTAT_BUF = 1 - s.get GNS_MEASSTAT_BUF ∧
      t.get GNS_MEASSTAT_EPOCH = s.tnet / per * per / per % 2 ^ 31 ∧ t.event 74 = true ∧
      t.gnss.lastEpoch = some (s.tnet / per * per) ∧
      t.bytes (0x40088000 + 0x1000 * (1 - s.get GNS_MEASSTAT_BUF)) 32 = s.measHeader (s.tnet / per * per) per := by
  have hlater : ∀ e, s.gnss.lastEpoch = some e → e < s.tnet / per * per := fun e he => by
    rw [he] at hnew
    simpa using hnew
  let stored := s.setBytes (0x40088000 + 0x1000 * (1 - s.get GNS_MEASSTAT_BUF))
    (s.measHeader (s.tnet / per * per) per ++ ((List.range 96).map (s.measRecord phases)).flatten)
  let shown := (stored.put GNS_MEASSTAT_BUF (1 - s.get GNS_MEASSTAT_BUF)).put GNS_MEASSTAT_EPOCH (s.tnet / per * per / per)
  have hexec : execMeasLatch phases s =
      goOn ((shown.setGnss { shown.gnss with lastEpoch := some (s.tnet / per * per), stepped := false }).raise 74) := by
    unfold execMeasLatch
    dsimp only
    rw [← hper]
    cases hlast : s.gnss.lastEpoch with
    | none => exact if_neg (by simp [hen, hon])
    | some e => exact if_neg (by simp [hen, hon, hlater e hlast])
  refine completes_of_goOn hexec ⟨?_, ?_, State.event_raise _ 74, ?_, ?_⟩
  · rw [State.get_raise_gnss _ 74 GNS_MEASSTAT_BUF_block, State.get_setGnss]
    refine (State.get_put_ne _ _ (by decide)).trans ((State.get_put_self _ _ _).trans (Nat.mod_eq_of_lt ?_))
    show 1 - s.get GNS_MEASSTAT_BUF < 2
    omega
  · rw [State.get_raise_gnss _ 74 GNS_MEASSTAT_EPOCH_block, State.get_setGnss]
    exact State.get_put_self _ _ _
  · rw [State.raise_gnss]
    rfl
  · have hread := s.bytes_setBytes_append (0x40088000 + 0x1000 * (1 - s.get GNS_MEASSTAT_BUF))
      (s.measHeader (s.tnet / per * per) per) ((List.range 96).map (s.measRecord phases)).flatten
    rw [State.measHeader_length] at hread
    refine (State.bytes_congr (s := stored) fun k _ => ?_).trans hread
    rw [State.byte_raise, State.byte_setGnss]
    exact (State.byte_put _ _ _ _).trans (State.byte_put _ _ _ _)

end on

/-- Settles O19: each command of acquisition, tracking and the monitors by its own lemma. That results of an ABORT are kept beyond
eight is the model's choice (log entry 36). -/
theorem acquisitionTrackingAndFrontEndMonitors : Obligations.AcquisitionTrackingAndFrontEndMonitors := by
  unfold Obligations.AcquisitionTrackingAndFrontEndMonitors
  exact ⟨fun _ => acqPush_queues, fun _ => acqPush_rejected, fun _ => acqAbort_aborts,
    fun code dopp ratio tRef now _ _ _ hcmds hroom => acqDone_bad hcmds hroom code dopp ratio tRef now,
    fun code dopp ratio tRef now _ _ _ hcmds hroom hok => acqDone_notFound hcmds hroom hok code dopp ratio tRef now,
    fun code dopp ratio tRef now _ _ _ hcmds hroom hok => acqDone_found hcmds hroom hok code dopp ratio tRef now,
    acqPop_drops, fun _ outs _ hen hchan => blockBoundary_shows hen hchan outs, fun _ _ => lockMonitorWindow_holds,
    fun _ _ => lockMonitorWindow_loses, fun levels tracks _ hen => spectrumUpdate_manual hen levels tracks,
    fun levels tracks _ _ hen => spectrumUpdate_takes hen levels tracks, fun _ _ _ hen => jammingUpdate_follows hen,
    fun rms _ hen => gnssAgcStep_moves hen rms, fun phases _ _ hen => measLatch_latches hen phases⟩

end Sys2Proof.Machine

/-! ## What the steering of TNET keeps -/
namespace Sys2Proof.Machine

/-! The lock of the steering (R226). -/

theorem State.steerUnlock_gnss (s : State) : s.steerUnlock.gnss = { s.gnss with goodRun := 0 } := State.raiseIf_gnss _ _ 79

theorem State.steerUnlock_tnet (s : State) : s.steerUnlock.tnet = s.tnet := State.raiseIf_tnet _ _ 79

theorem State.get_raiseIf_gnss (s : State) (b : Bool) (n : Nat) {f : RegField} (hf : f.inBlock 8) :
    (s.raiseIf b n).get f = s.get f := (s.raiseIf_moves b n).get_eq hf (by decide) rfl

theorem State.get_steerUnlock_ne (s : State) {f : RegField} (hblock : f.inBlock 8) (hf : f.key ≠ GNS_STATUS_STEER_LOCK.key) :
    s.steerUnlock.get f = s.get f :=
  (State.get_raiseIf_gnss _ _ 79 hblock).trans ((State.get_flag_ne _ _ hf).trans (s.get_setGnss _ f))

theorem State.on_steerUnlock (s : State) : s.steerUnlock.on GNS_STATUS_STEER_LOCK = false :=
  (State.on_congr (State.get_raiseIf_gnss _ _ 79 GNS_STATUS_STEER_LOCK_block)).trans (State.on_flag_bit _ false rfl)

theorem State.steerUnlock_steady (s : State) : Steady s s.steerUnlock :=
  (((s.setGnss_moves _).steady rfl rfl).trans
    (State.flag_steady _ false GNS_STATUS_STEER_LOCK_block (by decide) (by decide))).trans (State.raiseIf_steady _ _ 79)

/-- A sample moves the lock, and neither the integrator nor TNET nor another register of the island. -/
theorem State.steerLockStep_keeps (s : State) (e : Int) : (s.steerLockStep e).gnss.integ = s.gnss.integ ∧
    (s.steerLockStep e).gnss.gtTrim = s.gnss.gtTrim ∧ (s.steerLockStep e).tnet = s.tnet ∧
    ∀ f : RegField, f.inBlock 8 → f.key ≠ GNS_STATUS_STEER_LOCK.key → (s.steerLockStep e).get f = s.get f := by
  unfold State.steerLockStep
  extract_lets n counted
  split
  · rw [s.steerUnlock_gnss]
    exact ⟨rfl, rfl, s.steerUnlock_tnet, fun _ => s.get_steerUnlock_ne⟩
  split
  · rw [State.raise_gnss]
    exact ⟨rfl, rfl, State.raise_tnet _ 78, fun f hblock hf => (State.get_raise_gnss _ 78 hblock).trans
      ((State.get_flag_ne _ _ hf).trans (s.get_setGnss _ f))⟩
  · exact ⟨rfl, rfl, rfl, fun f _ _ => s.get_setGnss _ f⟩

/-! What a steering step leaves for the second mark around it. -/

/-- The registers of the time pulse (R220). -/
def pulseFields : List RegField := [GNS_TPCFG_TP_MODE, GNS_TPPER_VALUE, GNS_TPWID_VALUE, GNS_TPOFF_OFFSET]

theorem pulseFields_block {f : RegField} (hf : f ∈ pulseFields) : f.inBlock 8 := by
  simp only [pulseFields, List.mem_cons, List.not_mem_nil, or_false] at hf
  obtain rfl | rfl | rfl | rfl := hf <;> rfl

theorem pulseFields_ne_steerLock : ∀ f ∈ pulseFields, f.key ≠ GNS_STATUS_STEER_LOCK.key := by decide

theorem pulseFields_ne_late : ∀ f ∈ pulseFields, f.key ≠ GNS_TPQERR_LATE_PS.key := by decide

/-- From `s` to `t` the settings of the time pulse and the waiting phase trim stay. -/
structure PulseKept (s t : State) : Prop where
  trim : t.gnss.gtTrim = s.gnss.gtTrim
  get : ∀ f ∈ pulseFields, t.get f = s.get f

theorem PulseKept.refl (s : State) : PulseKept s s := ⟨rfl, fun _ _ => rfl⟩

section kept
variable {r s : State} (h : PulseKept r s)
include h

theorem PulseKept.put {f : RegField} {v : Nat} (hf : ∀ g ∈ pulseFields, g.key ≠ f.key) : PulseKept r (s.put f v) :=
  ⟨h.trim, fun g hg => (s.get_put_ne v (hf g hg)).trans (h.get g hg)⟩

theorem PulseKept.setGnss {g : Gnss} (hg : g.gtTrim = s.gnss.gtTrim) : PulseKept r (s.setGnss g) := ⟨hg.trans h.trim, h.get⟩

theorem PulseKept.setMac {m : Mac} : PulseKept r { s with mac := m } := ⟨h.trim, h.get⟩

theorem PulseKept.stepTnet {d : Int} : PulseKept r (s.stepTnet d) := ⟨h.trim, h.get⟩

theorem PulseKept.steerUnlock : PulseKept r s.steerUnlock := by
  refine ⟨?_, fun f hf => (s.get_steerUnlock_ne (pulseFields_block hf) (pulseFields_ne_steerLock f hf)).trans (h.get f hf)⟩
  rw [s.steerUnlock_gnss]
  exact h.trim

theorem PulseKept.steerLockStep {e : Int} : PulseKept r (s.steerLockStep e) := by
  obtain ⟨-, htrim, -, hget⟩ := s.steerLockStep_keeps e
  exact ⟨htrim.trans h.trim, fun f hf => (hget f (pulseFields_block hf) (pulseFields_ne_steerLock f hf)).trans (h.get f hf)⟩

end kept

/-- Whatever it does to TNET and to the lock, a steering step leaves the time pulse and the trim. -/
theorem State.steerStep_pulseKept (s : State) (sec late : Nat) : PulseKept s (s.steerStep sec late) := by
  have hstart := PulseKept.refl s
  have herr : ∀ {z : State} {v : Nat}, PulseKept s z → PulseKept s (z.put GNS_STEERE_VALUE v) := fun h => h.put (by decide)
  have hrate : ∀ {z : State} {v : Nat}, PulseKept s z → PulseKept s (z.put GNS_STEERR_VALUE v) := fun h => h.put (by decide)
  have hcorr : ∀ {z : State} {v : Nat}, PulseKept s z → PulseKept s (z.put MAC_CORR_LAST v) := fun h => h.put (by decide)
  have hhold : ∀ {z : State} {b : Bool}, PulseKept s z → PulseKept s (z.flag GNS_STATUS_COARSE_HOLD b) := fun h =>
    h.put (by decide)
  unfold State.steerStep
  dsimp only
  split
  · exact hstart
  split
  · split
    · exact hstart
    · exact hcorr hstart.setMac.stepTnet
  split
  · split
    · exact (hhold ((herr hstart).setGnss (by rfl))).steerUnlock
    · exact (hhold (herr hstart).steerUnlock).stepTnet
  have hfine : ∀ {v : Nat}, PulseKept s ((s.put GNS_STEERE_VALUE v).flag GNS_STATUS_COARSE_HOLD false) := hhold (herr hstart)
  split
  · split
    · exact hfine.steerUnlock.setMac
    · exact hcorr hfine.steerUnlock.stepTnet
  · exact (hrate (hfine.setGnss (by rfl))).steerLockStep

end Sys2Proof.Machine

/-! ## Steering steps and second marks -/
namespace Sys2Proof.Machine

/-- An error of less than a second is shown as it is. -/
theorem clampInt_of_natAbs_lt {e : Int} (h : e.natAbs < 1000000000) : clampInt (2 ^ 31 - 1) e = e := by
  unfold clampInt
  rw [if_neg (by omega), if_neg (by omega)]

/-! A steering step at the mark of second `sec` (R223 to R225). -/

/-- How far TNET is past the second, in ticks of 10 ns. -/
def State.steerOffset (s : State) (sec : Nat) : Int := (s.tnet : Int) - ((sec * 100000000 : Nat) : Int)

/-- The error of the sample in ns, LATE_PS rounded to whole ones. -/
def State.steerError (s : State) (sec late : Nat) : Int := 10 * s.steerOffset sec - (((late + 500) / 1000 : Nat) : Int)

/-- `s` showing the error of the sample. -/
def State.showError (s : State) (sec late : Nat) : State :=
  s.put GNS_STEERE_VALUE (unsigned 32 (clampInt (2 ^ 31 - 1) (s.steerError sec late)))

/-- The integrator and the rate follow an error `e` (R224). -/
def State.steerRate (z : State) (e : Int) : State :=
  let i := clampInt steerMax (z.gnss.integ + Int.tdiv (16 * e) (2 ^ z.get GNS_STEERCFG_KI_SH))
  (z.setGnss { z.gnss with integ := i }).put GNS_STEERR_VALUE
    (unsigned 32 (clampInt steerMax (i + Int.tdiv (16 * e) (2 ^ z.get GNS_STEERCFG_KP_SH))))

theorem State.steerRate_tnet (z : State) (e : Int) : (z.steerRate e).tnet = z.tnet := rfl

theorem State.steerRate_integ (z : State) (e : Int) : (z.steerRate e).gnss.integ =
    clampInt steerMax (z.gnss.integ + Int.tdiv (16 * e) (2 ^ z.get GNS_STEERCFG_KI_SH)) := rfl

theorem State.get_steerRate_ne (z : State) (e : Int) {f : RegField} (hf : f.key ≠ GNS_STEERR_VALUE.key) :
    (z.steerRate e).get f = z.get f := (State.get_put_ne _ _ hf).trans (z.get_setGnss _ f)

theorem State.get_steerRate (z : State) (e : Int) : (z.steerRate e).get GNS_STEERR_VALUE = unsigned 32 (clampInt steerMax
    (clampInt steerMax (z.gnss.integ + Int.tdiv (16 * e) (2 ^ z.get GNS_STEERCFG_KI_SH)) +
      Int.tdiv (16 * e) (2 ^ z.get GNS_STEERCFG_KP_SH))) :=
  (State.get_put_self _ _ _).trans (Nat.mod_eq_of_lt (unsigned_lt 32 _))

section sample
variable {s : State} {sec late : Nat} (hvalid : s.on GNS_GTCTRL_TIME_VALID = true) (hsteer : s.steering = true)
  (hcorr : s.mac.pendCorr = 0)
include hvalid hsteer hcorr

/-- R225: the first sample, and one of a second or more, steps TNET whole where no program runs. -/
theorem State.steerStep_coarse (hcoarse : s.gnss.tnetSet = false ∨ 1000000000 ≤ (s.steerError sec late).natAbs)
    (hidle : s.running = false) : s.steerStep sec late =
      ((s.showError sec late).steerUnlock.flag GNS_STATUS_COARSE_HOLD false).stepTnet (-s.steerOffset sec) := by
  have hstill : (s.showError sec late).running = false := (State.on_congr (s.get_put_ne _ (by decide))).trans hidle
  have hwhole : (!(s.showError sec late).gnss.tnetSet) = true ∨ 1000000000 ≤ (s.steerError sec late).natAbs :=
    hcoarse.imp_left fun h => by rw [State.showError, State.put_gnss, h, Bool.not_false]
  unfold State.steerStep
  dsimp only
  rw [if_neg (by simp [hvalid, hsteer]), if_neg (by simp [hcorr])]
  unfold State.showError State.steerError State.steerOffset at *
  rw [if_pos hwhole, if_neg (Bool.eq_false_iff.mp hstill)]

/-- R224: a sample inside SLEW_LIM once TNET is set. -/
theorem State.steerStep_rate (hset : s.gnss.tnetSet = true) (hsecond : (s.steerError sec late).natAbs < 1000000000)
    (hslew : (s.steerError sec late).natAbs ≤ s.get GNS_STEERCFG_SLEW_LIM) : s.steerStep sec late =
      (((s.showError sec late).flag GNS_STATUS_COARSE_HOLD false).steerRate (s.steerError sec late)).steerLockStep
        (s.steerError sec late) := by
  have hfine : ¬((!(s.showError sec late).gnss.tnetSet) = true ∨ 1000000000 ≤ (s.steerError sec late).natAbs) := by
    rw [State.showError, State.put_gnss, hset]
    simpa using hsecond
  have hlimit : ¬((s.showError sec late).flag GNS_STATUS_COARSE_HOLD false).get GNS_STEERCFG_SLEW_LIM <
      (s.steerError sec late).natAbs := by
    rw [State.get_flag_ne _ _ (by decide), State.showError, s.get_put_ne _ (by decide)]
    exact Nat.not_lt.mpr hslew
  unfold State.steerStep
  dsimp only
  rw [if_neg (by simp [hvalid, hsteer]), if_neg (by simp [hcorr])]
  unfold State.steerRate
  unfold State.showError State.steerError State.steerOffset at *
  rw [if_neg hfine, if_neg hlimit]

end sample

/-! Second marks (R220, R224). -/

theorem State.stepTnet_tnet (s : State) (d : Int) : (s.stepTnet d).tnet = ((s.tnet : Int) + d).toNat % 2 ^ 64 := rfl

theorem State.stepTnet_tnetSet (s : State) (d : Int) : (s.stepTnet d).gnss.tnetSet = true := rfl

/-- The settings that the registers of the time pulse hold. -/
def State.pulseSettings (s : State) : PulseCfg :=
  { mode := s.get GNS_TPCFG_TP_MODE, period := s.get GNS_TPPER_VALUE, width := s.get GNS_TPWID_VALUE,
    offset := signed 32 (s.get GNS_TPOFF_OFFSET) }

theorem State.pulseSettings_congr {s t : State} (h : ∀ f ∈ pulseFields, t.get f = s.get f) :
    t.pulseSettings = s.pulseSettings := by
  unfold State.pulseSettings
  rw [h _ (by simp [pulseFields]), h _ (by simp [pulseFields]), h _ (by simp [pulseFields]), h _ (by simp [pulseFields])]

/-- What a second mark does after its steering step (R219, R220). -/
def State.closeSecond (z : State) (sec late : Nat) : State :=
  ((z.setGnss { z.gnss with gtSec := sec, gtCycles := z.gnss.gtTrim.getD 0, gtTrim := none }).put
    GNS_TPQERR_LATE_PS late).takePulse

theorem State.get_closeSecond_ne (z : State) (sec late : Nat) {f : RegField} (hf : f.key ≠ GNS_TPQERR_LATE_PS.key) :
    (z.closeSecond sec late).get f = z.get f :=
  (State.get_setGnss _ _ f).trans ((State.get_put_ne _ _ hf).trans (State.get_setGnss _ _ f))

theorem State.closeSecond_tnet (z : State) (sec late : Nat) : (z.closeSecond sec late).tnet = z.tnet := rfl

theorem State.closeSecond_tnetSet (z : State) (sec late : Nat) : (z.closeSecond sec late).gnss.tnetSet = z.gnss.tnetSet := rfl

theorem State.closeSecond_integ (z : State) (sec late : Nat) : (z.closeSecond sec late).gnss.integ = z.gnss.integ := rfl

theorem State.closeSecond_gnss (z : State) (sec late : Nat) : (z.closeSecond sec late).gnss =
    { z.gnss with gtSec := sec, gtCycles := z.gnss.gtTrim.getD 0, gtTrim := none,
                  pulse := (z.closeSecond sec late).pulseSettings } := rfl

section on
variable {s : State} (hen : s.on GNS_CTRL_EN = true)
include hen

theorem execSecondMark_on (late : Fin 13021) : execSecondMark late s =
    goOn ((s.steerStep (s.gnss.gtSec + 1) late).closeSecond (s.gnss.gtSec + 1) late) := by
  unfold execSecondMark
  exact if_neg (by simp [hen])

/-- R219, R220: the mark counts the second, uses up the trim and brings the pulse settings into force. -/
theorem secondMark_counts (late : Fin 13021) : completes (.secondMark late) s fun t => t.gnss.gtSec = s.gnss.gtSec + 1 ∧
    t.gnss.gtCycles = s.gnss.gtTrim.getD 0 ∧ t.gnss.gtTrim = none ∧ t.get GNS_TPQERR_LATE_PS = late.val ∧
    t.gnss.pulse = s.pulseSettings := by
  obtain ⟨htrim, hget⟩ := s.steerStep_pulseKept (s.gnss.gtSec + 1) late
  have hlate : late.val % 2 ^ GNS_TPQERR_LATE_PS.width = late.val := Nat.mod_eq_of_lt (Nat.lt_trans late.isLt (by decide))
  have hread : ∀ f ∈ pulseFields,
      ((s.steerStep (s.gnss.gtSec + 1) late).closeSecond (s.gnss.gtSec + 1) late).get f = s.get f := fun f hf =>
    (State.get_closeSecond_ne _ _ _ (pulseFields_ne_late f hf)).trans (hget f hf)
  refine completes_of_goOn (execSecondMark_on hen late) ?_
  rw [State.closeSecond_gnss, htrim, State.pulseSettings_congr hread]
  exact ⟨rfl, rfl, rfl, (State.get_setGnss _ _ _).trans ((State.get_put_self _ _ _).trans hlate), rfl⟩

section sample
variable (hvalid : s.on GNS_GTCTRL_TIME_VALID = true) (hcorr : s.mac.pendCorr = 0) (hsteer : s.steering = true)
include hvalid hcorr hsteer

/-- R225: the whole offset is stepped. -/
theorem secondMark_steps (late : Fin 13021)
    (hcoarse : s.gnss.tnetSet = false ∨ 1000000000 ≤ (s.steerError (s.gnss.gtSec + 1) late).natAbs)
    (hidle : s.running = false) : completes (.secondMark late) s fun t =>
      t.tnet = ((s.tnet : Int) + -s.steerOffset (s.gnss.gtSec + 1)).toNat % 2 ^ 64 ∧ t.gnss.tnetSet = true := by
  have hstep := State.steerStep_coarse hvalid hsteer hcorr hcoarse hidle
  have htnet : ((s.showError (s.gnss.gtSec + 1) late).steerUnlock.flag GNS_STATUS_COARSE_HOLD false).tnet = s.tnet := by
    rw [State.flag_tnet, State.steerUnlock_tnet, State.showError, State.put_tnet]
  refine completes_of_goOn (execSecondMark_on hen late) ?_
  rw [State.closeSecond_tnet, State.closeSecond_tnetSet, hstep, State.stepTnet_tnet, State.stepTnet_tnetSet, htnet]
  exact ⟨rfl, rfl⟩

/-- R224: the error is shown, and the integrator and the rate follow it. SLEW_LIM is below a second in any value that its 16 bits
hold. -/
theorem secondMark_steers (late : Fin 13021) {e i : Int} (hset : s.gnss.tnetSet = true)
    (herror : e = 10 * ((s.tnet : Int) - (((s.gnss.gtSec + 1) * 100000000 : Nat) : Int)) - (((late.val + 500) / 1000 : Nat) : Int))
    (hslew : e.natAbs ≤ s.get GNS_STEERCFG_SLEW_LIM) (hlimit : s.get GNS_STEERCFG_SLEW_LIM < 1000000000)
    (hi : i = clampInt steerMax (s.gnss.integ + Int.tdiv (16 * e) (2 ^ s.get GNS_STEERCFG_KI_SH))) :
    completes (.secondMark late) s fun t => t.get GNS_STEERE_VALUE = unsigned 32 e ∧ t.gnss.integ = i ∧
      t.get GNS_STEERR_VALUE = unsigned 32 (clampInt steerMax (i + Int.tdiv (16 * e) (2 ^ s.get GNS_STEERCFG_KP_SH))) ∧
      t.tnet = s.tnet := by
  have he : s.steerError (s.gnss.gtSec + 1) late = e := by
    rw [herror, State.steerError, State.steerOffset]
  have hsmall : e.natAbs < 1000000000 := Nat.lt_of_le_of_lt hslew hlimit
  have hstep := State.steerStep_rate (sec := s.gnss.gtSec + 1) (late := late) hvalid hsteer hcorr hset
    (he ▸ hsmall) (he ▸ hslew)
  rw [he] at hstep
  generalize hz : (s.showError (s.gnss.gtSec + 1) late).flag GNS_STATUS_COARSE_HOLD false = z at hstep
  have hgnss : z.gnss = s.gnss := by rw [← hz, State.flag_gnss, State.showError, State.put_gnss]
  have htick : z.tnet = s.tnet := by rw [← hz, State.flag_tnet, State.showError, State.put_tnet]
  have hshown : z.get GNS_STEERE_VALUE = unsigned 32 e := by
    rw [← hz, State.get_flag_ne _ _ (by decide), State.showError, State.get_put_self, he, clampInt_of_natAbs_lt hsmall]
    exact Nat.mod_eq_of_lt (unsigned_lt 32 e)
  have hcfg : ∀ f : RegField, f.key ≠ GNS_STATUS_COARSE_HOLD.key → f.key ≠ GNS_STEERE_VALUE.key → z.get f = s.get f :=
    fun f hhold hvalue => by rw [← hz, State.get_flag_ne _ _ hhold, State.showError, State.get_put_ne _ _ hvalue]
  obtain ⟨hlockInteg, -, hlockTnet, hlockGet⟩ := (z.steerRate e).steerLockStep_keeps e
  have hinteg : clampInt steerMax (z.gnss.integ + Int.tdiv (16 * e) (2 ^ z.get GNS_STEERCFG_KI_SH)) = i := by
    rw [hgnss, hcfg _ (by decide) (by decide), hi]
  have hread : ∀ f : RegField, f.inBlock 8 → f.key ≠ GNS_STATUS_STEER_LOCK.key → f.key ≠ GNS_TPQERR_LATE_PS.key →
      ((s.steerStep (s.gnss.gtSec + 1) late).closeSecond (s.gnss.gtSec + 1) late).get f = (z.steerRate e).get f :=
    fun f hblock hlock hlate => by rw [State.get_closeSecond_ne _ _ _ hlate, hstep, hlockGet f hblock hlock]
  refine completes_of_goOn (execSecondMark_on hen late) ⟨?_, ?_, ?_, ?_⟩
  · rw [hread _ GNS_STEERE_VALUE_block (by decide) (by decide), ← hshown]
    exact z.get_steerRate_ne e (by decide)
  · rw [State.closeSecond_integ, hstep, hlockInteg, z.steerRate_integ, hinteg]
  · rw [hread _ GNS_STEERR_VALUE_block (by decide) (by decide), z.get_steerRate, hinteg, hcfg _ (by decide) (by decide)]
  · rw [State.closeSecond_tnet, hstep, hlockTnet, z.steerRate_tnet, htick]

end sample
end on
end Sys2Proof.Machine

/-! ## GTIME commands, TIME_VALID, FORCE and a restart -/
namespace Sys2Proof.Machine

/-! The time pulse and GTIME (R219, R220). -/

section on
variable {s : State} (hen : s.on GNS_CTRL_EN = true)
include hen

/-- R220: a leading edge in a mode that lets it out. -/
theorem timePulse_rises (late : Fin 13021) (hmode : s.gnss.pulse.mode ≠ 0)
    (hvalid : s.gnss.pulse.mode ≠ 1 ∨ s.on GNS_GTCTRL_TIME_VALID = true) : completes (.timePulse late) s fun t =>
    t.gnss.pulseOn = true ∧ t.event 75 = true ∧ t.get GNS_TPQERR_LATE_PS = late.val := by
  have hout : ¬((!s.on GNS_CTRL_EN) = true ∨ s.gnss.pulse.mode = 0 ∨
      (s.gnss.pulse.mode = 1 ∧ (!s.on GNS_GTCTRL_TIME_VALID) = true)) := by
    rintro (hoff | hzero | ⟨hone, hnever⟩)
    · simp [hen] at hoff
    · exact hmode hzero
    · rcases hvalid with h | h
      · exact h hone
      · simp [h] at hnever
  have hexec : execTimePulse late s =
      goOn (((s.setGnss { s.gnss with pulseOn := true }).put GNS_TPQERR_LATE_PS late).raise 75) := by
    unfold execTimePulse
    exact if_neg hout
  refine completes_of_goOn hexec ⟨?_, State.event_raise _ 75, ?_⟩
  · rw [State.raise_gnss]
    rfl
  · rw [State.get_raise_gnss _ 75 GNS_TPQERR_LATE_PS_block, State.get_put_self]
    exact Nat.mod_eq_of_lt (Nat.lt_trans late.isLt (by decide))

/-- R219: SET loads GTIME from its registers. -/
theorem gtimeSet_loads : completes .gtimeSet s fun t => t.gnss.gtSec = s.get GNS_GTSEC_SEC ∧
    t.gnss.gtCycles = nsCycles (s.get GNS_GTNS_NS) := by
  have hexec : execGtimeSet s =
      goOn (s.setGnss { s.gnss with gtSec := s.get GNS_GTSEC_SEC, gtCycles := nsCycles (s.get GNS_GTNS_NS) }) := by
    unfold execGtimeSet
    exact if_neg (by simp [hen])
  exact completes_of_goOn hexec ⟨rfl, rfl⟩

end on

/-- R220: the trailing edge ends the pulse. -/
theorem timePulseTrailingEdge_ends (s : State) : completes .timePulseTrailingEdge s fun t => t.gnss.pulseOn = false :=
  completes_of_goOn (t := s.setGnss { s.gnss with pulseOn := false }) rfl rfl

/-- R219: a trim within 50 000 ns waits for the next second mark. -/
theorem gtphaseTrim_waits {v : Word} (s : State) (hsmall : (signed 32 v.toNat).natAbs ≤ 50000) :
    completes (.gtphaseTrim v) s fun t => t.gnss.gtTrim = some (nsCycles (signed 32 v.toNat)) := by
  have hexec : execGtphaseTrim v s = goOn (s.setGnss { s.gnss with gtTrim := some (nsCycles (signed 32 v.toNat)) }) :=
    if_neg (Nat.not_lt.mpr hsmall)
  exact completes_of_goOn hexec rfl

/-- R219: a larger one is ignored. -/
theorem gtphaseTrim_ignored {v : Word} (s : State) (hlarge : 50000 < (signed 32 v.toNat).natAbs) :
    exec (.gtphaseTrim v) s = .next s := if_pos hlarge

/-! TIME_VALID (R219, R225, R226). -/

/-- TIME_VALID is written, and shown by GNS_STATUS. -/
def State.showTimeValid (s : State) (valid : Bool) : State :=
  (s.flag GNS_GTCTRL_TIME_VALID valid).flag GNS_STATUS_TIME_VALID valid

theorem State.on_showTimeValid (s : State) (valid : Bool) : (s.showTimeValid valid).on GNS_GTCTRL_TIME_VALID = valid ∧
    (s.showTimeValid valid).on GNS_STATUS_TIME_VALID = valid :=
  ⟨(State.on_congr (State.get_flag_ne _ _ (by decide))).trans (State.on_flag_bit _ valid rfl), State.on_flag_bit _ valid rfl⟩

/-- R226: TIME_VALID goes 1. -/
theorem timeValidWrite_rises {s : State} (hwas : s.on GNS_GTCTRL_TIME_VALID = false) :
    completes (.timeValidWrite true) s fun t => t.on GNS_GTCTRL_TIME_VALID = true ∧ t.on GNS_STATUS_TIME_VALID = true ∧
      t.on GNS_STATUS_HOLDOVER = false ∧ t.event 76 = true := by
  obtain ⟨hvalid, hshown⟩ := s.on_showTimeValid true
  have hexec : execTimeValidWrite true s = goOn (((s.showTimeValid true).flag GNS_STATUS_HOLDOVER false).raise 76) := by
    unfold execTimeValidWrite
    dsimp only
    rw [hwas]
    rfl
  have hread : ∀ f : RegField, f.inBlock 8 → (((s.showTimeValid true).flag GNS_STATUS_HOLDOVER false).raise 76).on f =
      ((s.showTimeValid true).flag GNS_STATUS_HOLDOVER false).on f := fun f hf => State.on_congr (State.get_raise_gnss _ 76 hf)
  refine completes_of_goOn hexec ⟨?_, ?_, ?_, State.event_raise _ 76⟩
  · rw [hread _ GNS_GTCTRL_TIME_VALID_block, State.on_congr (State.get_flag_ne _ _ (by decide)), hvalid]
  · rw [hread _ GNS_STATUS_TIME_VALID_block, State.on_congr (State.get_flag_ne _ _ (by decide)), hshown]
  · rw [hread _ GNS_STATUS_HOLDOVER_block]
    exact State.on_flag_bit _ false rfl

theorem State.steering_congr {s t : State} (hmode : t.mode = s.mode) (hen : t.get GNS_CTRL_STEER_EN = s.get GNS_CTRL_STEER_EN)
    (hsrc : t.get MAC_CTRL_TSRC = s.get MAC_CTRL_TSRC) : t.steering = s.steering := by
  unfold State.steering
  rw [hmode, State.on_congr hen, State.on_congr hsrc]

/-- Without TIME_VALID, E77 and the end of a measurement against the second marks. -/
def State.loseTime (s : State) : State := ((s.showTimeValid false).raise 77).measureNoTime

theorem State.get_loseTime (s : State) {f : RegField} (hf : f.inBlock 8) : s.loseTime.get f = (s.showTimeValid false).get f :=
  ((State.measureNoTime_moves _).get_eq hf (by decide) rfl).trans (State.get_raise_gnss _ 77 hf)

theorem State.event_loseTime (s : State) : s.loseTime.event 77 = true :=
  ((State.measureNoTime_moves _).event_eq 77 rfl).trans (State.event_raise _ 77)

theorem State.steering_loseTime (s : State) : s.loseTime.steering = s.steering := by
  have hshown : Steady s (s.showTimeValid false) := (s.flag_steady _ GNS_GTCTRL_TIME_VALID_block (by decide) (by decide)).trans
    (State.flag_steady _ _ GNS_STATUS_TIME_VALID_block (by decide) (by decide))
  have hlost : Steady (s.showTimeValid false) s.loseTime :=
    (State.raise_steady _ 77).trans ((State.measureNoTime_moves _).steady rfl rfl)
  refine State.steering_congr (hshown.trans hlost).mode ?_ ?_
  · exact (s.get_loseTime GNS_CTRL_STEER_EN_block).trans
      ((State.get_flag_ne _ _ (by decide)).trans (State.get_flag_ne _ _ (by decide)))
  · have hkept : s.loseTime.get MAC_CTRL_TSRC = (s.showTimeValid false).get MAC_CTRL_TSRC :=
      ((State.measureNoTime_moves _).get_eq MAC_CTRL_TSRC_block (by decide) rfl).trans
        ((State.raise_moves _ 77).get_eq MAC_CTRL_TSRC_block (by decide) rfl)
    exact hkept.trans ((State.get_flag_ne _ _ (by decide)).trans (State.get_flag_ne _ _ (by decide)))

/-- R225, R226: TIME_VALID goes 0 while steering is active. -/
theorem timeValidWrite_falls {s : State} (hwas : s.on GNS_GTCTRL_TIME_VALID = true) (hsteer : s.steering = true) :
    completes (.timeValidWrite false) s fun t => t.on GNS_GTCTRL_TIME_VALID = false ∧ t.on GNS_STATUS_TIME_VALID = false ∧
      t.on GNS_STATUS_HOLDOVER = true ∧ t.event 77 = true ∧ t.on GNS_STATUS_STEER_LOCK = false := by
  obtain ⟨hvalid, hshown⟩ := s.on_showTimeValid false
  have hexec : execTimeValidWrite false s = goOn (s.loseTime.flag GNS_STATUS_HOLDOVER true).steerUnlock := by
    have hheld : (if s.loseTime.steering = true then (s.loseTime.flag GNS_STATUS_HOLDOVER true).steerUnlock else s.loseTime) =
        (s.loseTime.flag GNS_STATUS_HOLDOVER true).steerUnlock := if_pos (s.steering_loseTime.trans hsteer)
    unfold execTimeValidWrite
    dsimp only
    rw [hwas]
    exact congrArg goOn hheld
  have hread : ∀ f : RegField, f.inBlock 8 → f.key ≠ GNS_STATUS_STEER_LOCK.key →
      (s.loseTime.flag GNS_STATUS_HOLDOVER true).steerUnlock.on f = (s.loseTime.flag GNS_STATUS_HOLDOVER true).on f :=
    fun f hf hne => State.on_congr (State.get_steerUnlock_ne _ hf hne)
  refine completes_of_goOn hexec ⟨?_, ?_, ?_, ?_, State.on_steerUnlock _⟩
  · rw [hread _ GNS_GTCTRL_TIME_VALID_block (by decide), State.on_congr (State.get_flag_ne _ _ (by decide)),
      State.on_congr (s.get_loseTime GNS_GTCTRL_TIME_VALID_block), hvalid]
  · rw [hread _ GNS_STATUS_TIME_VALID_block (by decide), State.on_congr (State.get_flag_ne _ _ (by decide)),
      State.on_congr (s.get_loseTime GNS_STATUS_TIME_VALID_block), hshown]
  · rw [hread _ GNS_STATUS_HOLDOVER_block (by decide)]
    exact State.on_flag_bit _ true rfl
  · have hheld := s.loseTime.flag_steady true GNS_STATUS_HOLDOVER_block (by decide) (by decide)
    exact (hheld.trans (State.steerUnlock_steady _)).event 77 s.event_loseTime

/-! FORCE and RESET_I (R225). -/

section force
variable {s : State} (hheld : s.on GNS_STATUS_COARSE_HOLD = true)
include hheld

/-- R225: with no program running the held step applies at once. -/
theorem steerForce_steps (hidle : s.running = false) : completes .steerForce s fun t =>
    t.tnet = ((s.tnet : Int) + s.gnss.heldStep).toNat % 2 ^ 64 ∧ t.on GNS_STATUS_COARSE_HOLD = false := by
  have hexec : execSteerForce s = goOn ((s.flag GNS_STATUS_COARSE_HOLD false).stepTnet s.gnss.heldStep) := by
    unfold execSteerForce
    rw [if_neg (by simp [hheld]), if_neg (Bool.eq_false_iff.mp hidle)]
  exact completes_of_goOn hexec ⟨rfl, State.on_flag_bit _ false rfl⟩

/-- R225: with one running it waits for the next boundary. -/
theorem steerForce_waits (hrunning : s.running = true) : completes .steerForce s fun t =>
    t.slot.coarse = some s.gnss.heldStep ∧ t.tnet = s.tnet := by
  have hexec : execSteerForce s = goOn ({ s with slot := { s.slot with coarse := some s.gnss.heldStep } }.setGnss
      { s.gnss with tnetSet := true, stepped := true }) := by
    unfold execSteerForce
    rw [if_neg (by simp [hheld]), if_pos hrunning]
  exact completes_of_goOn hexec ⟨rfl, rfl⟩

end force

/-- R225: RESET_I. -/
theorem steerResetI_clears (s : State) : completes .steerResetI s fun t => t.gnss.integ = 0 ∧ t.get GNS_STEERR_VALUE = 0 :=
  completes_of_goOn (t := (s.setGnss { s.gnss with integ := 0 }).put GNS_STEERR_VALUE 0) rfl ⟨rfl, State.get_put_self _ _ _⟩

/-! A restart (R227). -/

/-- R227: hot, warm or cold. -/
theorem gnssRestart_taken {k : Nat} (s : State) (hlow : 1 ≤ k) (hhigh : k ≤ 3) : completes (.gnssRestart k) s fun t =>
    t.host.result = .ok ∧ t.gnss.startClass = k ∧ (k = 3 → t.gnss.stored = []) := by
  have hexec : execGnssRestart k s =
      goOn ((s.setGnss { s.gnss with startClass := k, stored := if k = 3 then [] else s.gnss.stored }).answer .ok) := by
    unfold execGnssRestart
    exact if_neg (by omega)
  exact completes_of_goOn hexec ⟨rfl, rfl, fun hcold => if_pos hcold⟩

theorem gnssRestart_range {k : Nat} (s : State) (hclass : k = 0 ∨ 3 < k) : completes (.gnssRestart k) s fun t =>
    t.host.result = .range ∧ t.gnss = s.gnss := by
  have hexec : execGnssRestart k s = goOn (s.answer .range) := if_pos hclass
  exact completes_of_goOn hexec ⟨rfl, rfl⟩

/-! A limit past its 16 bits. -/

/-- After reset and in Timing mode, the island on and TNET set, TNET is a second past the mark to come and SLEW_LIM holds a second
of nanoseconds. -/
def slewPastASecond : State :=
  { State.reset with
    tnet := 200000000
    gnss := { tnetSet := true }
    fields := [(PRC_MODE_MODE.key, modeTiming), (GNS_CTRL_EN.key, 1), (GNS_STEERCFG_SLEW_LIM.key, 1000000000),
      (GNS_GTCTRL_TIME_VALID.key, 1)] }

/-- The error of a second is stepped whole (R225), though it is inside that limit. -/
theorem secondMark_slewPastASecond : completes (.secondMark 0) slewPastASecond fun t => t.tnet = 100000000 := by
  have hoffset : slewPastASecond.steerOffset 1 = 100000000 := by decide
  have hcoarse : 1000000000 ≤ (slewPastASecond.steerError 1 0).natAbs := by decide
  obtain ⟨t, hexec, htnet, -⟩ := secondMark_steps (s := slewPastASecond) (by decide) (by decide) (by decide) (by decide) 0
    (.inr hcoarse) (by decide)
  exact ⟨t, hexec, htnet.trans (by decide)⟩

/-- The clause of O20 on a sample inside SLEW_LIM. -/
def SteersInsideSlewLim : Prop :=
  ∀ (late : Fin 13021) (e i : Int) (s : State), s.on GNS_CTRL_EN = true → s.on GNS_GTCTRL_TIME_VALID = true →
    s.mac.pendCorr = 0 → s.steering = true → s.gnss.tnetSet = true →
    e = 10 * ((s.tnet : Int) - (((s.gnss.gtSec + 1) * 100000000 : Nat) : Int)) - (((late.val + 500) / 1000 : Nat) : Int) →
    e.natAbs ≤ s.get GNS_STEERCFG_SLEW_LIM →
    i = clampInt steerMax (s.gnss.integ + Int.tdiv (16 * e) (2 ^ s.get GNS_STEERCFG_KI_SH)) →
    completes (.secondMark late) s fun t => t.get GNS_STEERE_VALUE = unsigned 32 e ∧ t.gnss.integ = i ∧
      t.get GNS_STEERR_VALUE = unsigned 32 (clampInt steerMax (i + Int.tdiv (16 * e) (2 ^ s.get GNS_STEERCFG_KP_SH))) ∧
      t.tnet = s.tnet

/-- All clauses of O20 but one hold in every state, so it says no more than that one. -/
theorem gtimeSteeringAndTheTimePulse_iff : Obligations.GtimeSteeringAndTheTimePulse ↔ SteersInsideSlewLim := by
  unfold Obligations.GtimeSteeringAndTheTimePulse
  constructor
  · rintro ⟨-, -, hsteers, -⟩
    exact hsteers
  · intro hsteers
    exact ⟨fun late _ hen => secondMark_counts hen late,
      fun late _ hen hvalid hcorr hsteer hunset hidle => secondMark_steps hen hvalid hcorr hsteer late (.inl hunset) hidle,
      hsteers, fun late _ hen => timePulse_rises hen late, timePulseTrailingEdge_ends, fun _ => gtimeSet_loads,
      fun _ s => gtphaseTrim_waits s, fun _ s => gtphaseTrim_ignored s, fun _ => timeValidWrite_rises,
      fun _ => timeValidWrite_falls, fun _ => steerForce_steps, fun _ => steerForce_waits, steerResetI_clears,
      fun _ s => gnssRestart_taken s, fun _ s => gnssRestart_range s⟩

/-- Refutes O20: the clause on a sample inside SLEW_LIM does not ask that SLEW_LIM be a value of its 16 bits. Where the field
holds a second or more, R225 steps TNET by an error of a second that is inside the limit. No register write gives the field such
a value: with SLEW_LIM below a second the clause is `secondMark_steers`. -/
theorem not_gtimeSteeringAndTheTimePulse : ¬ Obligations.GtimeSteeringAndTheTimePulse := by
  rw [gtimeSteeringAndTheTimePulse_iff]
  intro hsteers
  obtain ⟨t, hexec, -, -, -, hstays⟩ := hsteers 0 1000000000 _ slewPastASecond (by decide) (by decide) (by decide) (by decide)
    (by decide) (by decide) (by decide) rfl
  obtain ⟨u, hsteps, hstepped⟩ := secondMark_slewPastASecond
  obtain rfl := Host.Outcome.next.inj (hexec.symm.trans hsteps)
  exact absurd (hstays.symm.trans hstepped) (by decide)

end Sys2Proof.Machine

/-! ## Registers of the backup domain -/
namespace Sys2Proof.Machine

/-! What events and reports leave of the RTC block. -/

/-- An event writes no field of the RTC block. -/
theorem State.get_raise_rtc (s : State) (n : Nat) {f : RegField} (hf : f.inBlock 9) : (s.raise n).get f = s.get f :=
  (s.raise_moves n).get_eq hf (by decide) rfl

theorem State.get_raiseIf_rtc (s : State) (b : Bool) (n : Nat) {f : RegField} (hf : f.inBlock 9) :
    (s.raiseIf b n).get f = s.get f := (s.raiseIf_moves b n).get_eq hf (by decide) rfl

/-- A fault report writes no field of the RTC block. -/
theorem State.get_report_rtc (s : State) (cls src addr detail : Nat) {f : RegField} (hf : f.inBlock 9) :
    (s.report cls src addr detail).get f = s.get f := (s.report_moves cls src addr detail).get_eq hf (by decide) rfl

theorem State.get_flag_bit (s : State) {f : RegField} (b : Bool) (hf : f.width = 1) : (s.flag f b).get f = ofBool b := by
  rw [State.get_flag_self, hf]
  cases b <;> rfl

theorem State.on_flag_ne (s : State) {f g : RegField} (b : Bool) (h : g.key ≠ f.key) : (s.flag f b).on g = s.on g :=
  State.on_congr (s.get_flag_ne b h)

theorem State.on_setRtc (s : State) (r : Rtc) (f : RegField) : (s.setRtc r).on f = s.on f := rfl

/-! The calendar's counters (R236). -/

def calFields : List RegField :=
  [RTC_YEAR_YEAR, RTC_MONTH_MONTH, RTC_DAY_DAY, RTC_HOUR_HOUR, RTC_MIN_VALUE, RTC_SEC_VALUE]

theorem calFields_block {f : RegField} (hf : f ∈ calFields) : f.inBlock 9 := by
  simp only [calFields, List.mem_cons, List.not_mem_nil, or_false] at hf
  obtain rfl | rfl | rfl | rfl | rfl | rfl := hf <;> rfl

theorem State.calTime_congr {s t : State} (h : ∀ f ∈ calFields, t.get f = s.get f) : t.calTime = s.calTime := by
  unfold State.calTime
  rw [h _ (by simp [calFields]), h _ (by simp [calFields]), h _ (by simp [calFields]), h _ (by simp [calFields]),
    h _ (by simp [calFields]), h _ (by simp [calFields])]

theorem Moves.calTime_eq {m : Nat} {s t : State} (h : Moves m s t) (hm : m.testBit 36 = false) : t.calTime = s.calTime :=
  State.calTime_congr fun _ hf => h.get_eq (calFields_block hf) (by decide) hm

theorem State.calTime_put (s : State) {f : RegField} (v : Nat) (hf : ∀ g ∈ calFields, g.key ≠ f.key) :
    (s.put f v).calTime = s.calTime := State.calTime_congr fun g hg => s.get_put_ne v (hf g hg)

theorem State.calTime_flag (s : State) {f : RegField} (b : Bool) (hf : ∀ g ∈ calFields, g.key ≠ f.key) :
    (s.flag f b).calTime = s.calTime := s.calTime_put _ hf

theorem State.calTime_setRtc (s : State) (r : Rtc) : (s.setRtc r).calTime = s.calTime := rfl

/-- A time that R238 accepts. -/
theorem CalTime.ok_iff (t : CalTime) : t.ok = true ↔
    2000 ≤ t.year ∧ t.year ≤ 2199 ∧ 1 ≤ t.month ∧ t.month ≤ 12 ∧ 1 ≤ t.day ∧
      t.day ≤ monthDays t.year t.month ∧ t.hour ≤ 23 ∧ t.min ≤ 59 ∧ t.sec ≤ 59 := by
  simp [CalTime.ok, dateOk, and_assoc]

theorem monthDays_bounds (y m : Nat) : 28 ≤ monthDays y m ∧ monthDays y m ≤ 31 := by
  unfold monthDays
  repeat' split
  all_goals omega

/-- The next second of a legal time is legal: the rollovers follow the calendar. -/
theorem CalTime.ok_next {t : CalTime} (h : t.ok = true) : t.next.1.ok = true := by
  have hdays := monthDays_bounds t.year (t.month + 1)
  rw [CalTime.ok_iff] at h ⊢
  unfold CalTime.next
  split
  · dsimp only; omega
  split
  · dsimp only; omega
  split
  · dsimp only; omega
  split
  · dsimp only; omega
  split
  · dsimp only; omega
  split
  · have hjanuary := monthDays_bounds (t.year + 1) 1
    dsimp only; omega
  · decide

/-- The calendar holds a legal time that is set. -/
theorem State.calTime_setCal (s : State) {t : CalTime} (ht : t.ok = true) : (s.setCal t).calTime = t := by
  have hdays := monthDays_bounds t.year t.month
  obtain ⟨-, hyear, -, hmonth, -, hday, hhour, hmin, hsec⟩ := t.ok_iff.mp ht
  have hwidths : t.year % 2 ^ RTC_YEAR_YEAR.width = t.year ∧ t.month % 2 ^ RTC_MONTH_MONTH.width = t.month ∧
      t.day % 2 ^ RTC_DAY_DAY.width = t.day ∧ t.hour % 2 ^ RTC_HOUR_HOUR.width = t.hour ∧
      t.min % 2 ^ RTC_MIN_VALUE.width = t.min ∧ t.sec % 2 ^ RTC_SEC_VALUE.width = t.sec := by
    refine ⟨Nat.mod_eq_of_lt ?_, Nat.mod_eq_of_lt ?_, Nat.mod_eq_of_lt ?_, Nat.mod_eq_of_lt ?_, Nat.mod_eq_of_lt ?_,
      Nat.mod_eq_of_lt ?_⟩ <;>
    simp only [RTC_YEAR_YEAR, RTC_MONTH_MONTH, RTC_DAY_DAY, RTC_HOUR_HOUR, RTC_MIN_VALUE, RTC_SEC_VALUE] <;> omega
  unfold State.calTime State.setCal
  simp (disch := decide) only [State.get_put_self, State.get_put_ne, hwidths]

/-- Setting the calendar writes its counters and the weekday. -/
theorem State.get_setCal_ne (s : State) (t : CalTime) {f : RegField} (hf : ∀ g ∈ RTC_DAY_WDAY :: calFields, f.key ≠ g.key) :
    (s.setCal t).get f = s.get f := by
  simp only [calFields, List.forall_mem_cons] at hf
  obtain ⟨hwday, hyear, hmonth, hday, hhour, hmin, hsec, -⟩ := hf
  unfold State.setCal
  dsimp only
  rw [State.get_put_ne _ _ hsec, State.get_put_ne _ _ hmin, State.get_put_ne _ _ hhour, State.get_put_ne _ _ hwday,
    State.get_put_ne _ _ hday, State.get_put_ne _ _ hmonth, State.get_put_ne _ _ hyear]

end Sys2Proof.Machine

/-! ## Oscillator cycles and SET -/
namespace Sys2Proof.Machine

/-! One corrected tick (R236). -/

theorem State.calTick_within {s : State} (h : s.get RTC_SUBSEC_SUBSEC + 1 < 32768) :
    s.calTick = s.put RTC_SUBSEC_SUBSEC (s.get RTC_SUBSEC_SUBSEC + 1) := if_pos h

/-- The tick that ends a second. -/
theorem State.calTick_second {s : State} (h : s.get RTC_SUBSEC_SUBSEC = 32767) (hok : s.calTime.ok = true) :
    s.calTick.get RTC_SUBSEC_SUBSEC = 0 ∧ s.calTick.calTime = s.calTime.next.1 ∧ s.calTick.rtc.secondTick = true := by
  have hsubsec : ((s.put RTC_SUBSEC_SUBSEC 0).setCal s.calTime.next.1).get RTC_SUBSEC_SUBSEC = 0 :=
    (State.get_setCal_ne _ _ (by decide)).trans (State.get_put_self _ _ _)
  have hcal : ((s.put RTC_SUBSEC_SUBSEC 0).setCal s.calTime.next.1).calTime = s.calTime.next.1 :=
    State.calTime_setCal _ (CalTime.ok_next hok)
  unfold State.calTick
  rw [h]
  dsimp only
  rw [if_neg (by decide)]
  split
  · rw [State.get_flag_ne _ _ (by decide), State.calTime_flag _ _ (by decide), State.get_setRtc, State.calTime_setRtc,
      State.flag_rtc, State.setRtc_rtc]
    exact ⟨hsubsec, hcal, rfl⟩
  · rw [State.get_setRtc, State.calTime_setRtc, State.setRtc_rtc]
    exact ⟨hsubsec, hcal, rfl⟩

/-! An oscillator cycle (R242). -/

/-- `s` with the trim added to the accumulator. -/
def State.accumulate (s : State) : State :=
  s.setRtc { s.rtc with acc := s.rtc.acc + signed 20 (s.get RTC_TRIM_E), secondTick := false }

/-- With no load due and the accumulator inside its bounds, one tick is counted. -/
theorem State.oscCycle_counts {s : State} (hready : s.setReady = none)
    (hlow : -1000000000 < s.rtc.acc + signed 20 (s.get RTC_TRIM_E))
    (hhigh : s.rtc.acc + signed 20 (s.get RTC_TRIM_E) < 1000000000) : s.oscCycle = s.accumulate.calTick := by
  have hnone : s.accumulate.setReady = none := hready
  unfold State.accumulate at hnone ⊢
  unfold State.oscCycle
  dsimp only at hnone ⊢
  rw [if_neg (Int.not_le.mpr hhigh), if_neg (Int.not_le.mpr hlow)]
  dsimp only
  rw [hnone]
  rfl

/-- A load that is due goes before the count. -/
theorem State.oscCycle_loads {s : State} {v : CalTime} (hready : s.setReady = some v) :
    ∃ r : Rtc, s.oscCycle = (s.setRtc r).loadSet v := by
  have hsome : ∀ (a : Int) (b : Bool), (s.setRtc { s.rtc with acc := a, secondTick := b }).setReady = some v := fun _ _ => hready
  unfold State.oscCycle
  dsimp only
  rw [hsome]
  exact ⟨_, rfl⟩

theorem execRtcTick_runs {s : State} (hrun : s.rtc.oscRuns = true) : execRtcTick s = goOn s.oscCycle := by
  unfold execRtcTick
  exact if_neg (by simp [hrun])

section tick
variable {s : State} (hrun : s.rtc.oscRuns = true) (hready : s.setReady = none)
  (hlow : -1000000000 < s.rtc.acc + signed 20 (s.get RTC_TRIM_E))
  (hhigh : s.rtc.acc + signed 20 (s.get RTC_TRIM_E) < 1000000000)
include hrun hready hlow hhigh

/-- R236, R242: a tick within a second. -/
theorem rtcTick_counts (hsubsec : s.get RTC_SUBSEC_SUBSEC + 1 < 32768) : completes .rtcTick s fun t =>
    t.get RTC_SUBSEC_SUBSEC = s.get RTC_SUBSEC_SUBSEC + 1 ∧ t.calTime = s.calTime ∧
      t.rtc.acc = s.rtc.acc + signed 20 (s.get RTC_TRIM_E) := by
  have hexec : execRtcTick s = goOn (s.accumulate.put RTC_SUBSEC_SUBSEC (s.get RTC_SUBSEC_SUBSEC + 1)) := by
    rw [execRtcTick_runs hrun, State.oscCycle_counts hready hlow hhigh]
    exact congrArg goOn (State.calTick_within (s := s.accumulate) hsubsec)
  exact completes_of_goOn hexec ⟨(State.get_put_self _ _ _).trans (Nat.mod_eq_of_lt hsubsec),
    State.calTime_put _ _ (by decide), rfl⟩

/-- R236: the tick that ends a second. -/
theorem rtcTick_second (hsubsec : s.get RTC_SUBSEC_SUBSEC = 32767) (hok : s.calTime.ok = true) : completes .rtcTick s fun t =>
    t.get RTC_SUBSEC_SUBSEC = 0 ∧ t.calTime = s.calTime.next.1 ∧ t.rtc.secondTick = true := by
  have hexec : execRtcTick s = goOn s.accumulate.calTick := by
    rw [execRtcTick_runs hrun, State.oscCycle_counts hready hlow hhigh]
  exact completes_of_goOn hexec (State.calTick_second (s := s.accumulate) hsubsec hok)

end tick

/-! The fields that alarms write (R240). -/

/-- The field is none of those that the firing of alarm `i` writes. -/
abbrev RegField.offAlarm (f : RegField) (i : Nat) : Prop :=
  f.key ≠ (almFlag i).key ∧ f.key ≠ (almSkipped i).key ∧ f.key ≠ (almEn i).key

/-- There are two alarms: any other number stands for alarm B. -/
theorem RegField.offAlarm_of_both {f : RegField} (hA : f.offAlarm 0) (hB : f.offAlarm 1) (i : Nat) : f.offAlarm i := by
  cases i with
  | zero => exact hA
  | succ i => exact hB

theorem State.get_almFire_ne (s : State) {i : Nat} (skipped disarm : Bool) {f : RegField} (hf : f.offAlarm i) :
    (s.almFire i skipped disarm).get f = s.get f := by
  obtain ⟨hflag, hskipped, hen⟩ := hf
  unfold State.almFire
  extract_lets flagged marked
  have hmarked : marked.get f = s.get f := by
    unfold marked
    split
    · exact (State.get_flag_ne _ _ hskipped).trans (s.get_flag_ne _ hflag)
    · exact s.get_flag_ne _ hflag
  split
  · exact (State.get_flag_ne _ _ hen).trans hmarked
  · exact hmarked

theorem State.get_foldl_almFire_ne {is : List Nat} (skipped : Bool) {f : RegField} (hf : ∀ i ∈ is, f.offAlarm i) (s : State) :
    (is.foldl (fun (s : State) i => s.almFire i skipped false) s).get f = s.get f := by
  induction is generalizing s with
  | nil => rfl
  | cons i is ih =>
    rw [List.forall_mem_cons] at hf
    exact (ih hf.2 _).trans (s.get_almFire_ne skipped false hf.1)

theorem State.get_almFireAll_ne (s : State) {is : List Nat} (skipped : Bool) {f : RegField} (hblock : f.inBlock 9)
    (hf : ∀ i ∈ is, f.offAlarm i) : (s.almFireAll is skipped).get f = s.get f :=
  (State.get_raiseIf_rtc _ _ 88 hblock).trans (State.get_foldl_almFire_ne skipped hf s)

theorem calFields_offAlarm {f : RegField} (hf : f ∈ calFields) (i : Nat) : f.offAlarm i := by
  have hboth : ∀ g ∈ calFields, g.offAlarm 0 ∧ g.offAlarm 1 := by decide
  exact RegField.offAlarm_of_both (hboth f hf).1 (hboth f hf).2 i

theorem State.calTime_almFireAll (s : State) (is : List Nat) (skipped : Bool) : (s.almFireAll is skipped).calTime = s.calTime :=
  State.calTime_congr fun _ hf => s.get_almFireAll_ne skipped (calFields_block hf) fun i _ => calFields_offAlarm hf i

/-! Loads (R238). -/

/-- R235, R238: whatever alarms the load fires, the calendar holds the loaded time. -/
theorem State.loadSet_effect (s : State) {v : CalTime} (hv : v.ok = true) : (s.loadSet v).calTime = v ∧
    (s.loadSet v).get RTC_SUBSEC_SUBSEC = 0 ∧ (s.loadSet v).on RTC_STATUS_OSC_STOP = false := by
  unfold State.loadSet
  extract_lets old fired loaded held settled
  refine ⟨?_, ?_, ?_⟩
  · rw [State.calTime_almFireAll, State.calTime_flag _ _ (by decide), State.calTime_setRtc,
      State.calTime_flag _ _ (by decide), State.calTime_put _ _ (by decide), State.calTime_setCal _ hv]
  · rw [State.get_almFireAll_ne _ _ RTC_SUBSEC_SUBSEC_block
        fun i _ => RegField.offAlarm_of_both (by decide) (by decide) i,
      State.get_flag_ne _ _ (by decide), State.get_setRtc, State.get_flag_ne _ _ (by decide)]
    exact State.get_put_self _ _ _
  · rw [State.on_congr (State.get_almFireAll_ne _ _ RTC_STATUS_OSC_STOP_block
        fun i _ => RegField.offAlarm_of_both (by decide) (by decide) i), State.on_flag_ne _ _ (by decide), State.on_setRtc]
    exact State.on_flag_bit _ false rfl

theorem rtcSetApply_loads {v : CalTime} {s : State} (hrun : s.rtc.oscRuns = true) (hready : s.setReady = some v)
    (hv : v.ok = true) : completes .rtcSetApply s fun t => t.calTime = v ∧ t.get RTC_SUBSEC_SUBSEC = 0 ∧
      t.on RTC_STATUS_OSC_STOP = false := by
  obtain ⟨r, hcycle⟩ := State.oscCycle_loads hready
  have hexec : execRtcSetApply s = goOn ((s.setRtc r).loadSet v) := by
    unfold execRtcSetApply
    rw [if_neg (by simp [hrun, hready]), hcycle]
  exact completes_of_goOn hexec (State.loadSet_effect _ hv)

/-! A value that is offered (R238). -/

/-- `s` with the held value `h`. -/
def State.holdSet (s : State) (h : HeldSet) : State :=
  (s.setRtc { s.rtc with heldSet := some h }).flag RTC_STATUS_SET_PEND true

theorem State.takeSet_rejected (s : State) {v : CalTime} (at_ : Bool) (due : Option Nat) (hv : v.ok = false) :
    s.takeSet v at_ due = (s.flag RTC_STATUS_DATE_INVALID true).raise 95 := by
  unfold State.takeSet
  exact if_pos (by simp [hv])

theorem State.takeSet_held (s : State) {v : CalTime} (due : Option Nat) (hv : v.ok = true) :
    s.takeSet v true due = s.holdSet { time := v, due := due } := by
  unfold State.takeSet
  rw [if_neg (by simp [hv]), if_pos (.inl rfl)]
  rfl

theorem State.takeSet_due {s : State} {v : CalTime} (due : Option Nat) (hv : v.ok = true) (hnone : s.rtc.heldSet = none) :
    s.takeSet v false due = s.setRtc { s.rtc with dueSet := some v } := by
  unfold State.takeSet
  rw [if_neg (by simp [hv]), if_neg (by simp [hnone])]

theorem rtcSet_due {s : State} (hv : s.stagedSet.ok = true) (hnone : s.rtc.heldSet = none) :
    completes .rtcSet s fun t => t.rtc.dueSet = some s.stagedSet :=
  completes_of_goOn (congrArg goOn (State.takeSet_due none hv hnone)) rfl

theorem State.dateInvalid_effect (s : State) :
    ((s.flag RTC_STATUS_DATE_INVALID true).raise 95).get RTC_STATUS_DATE_INVALID = 1 ∧
    ((s.flag RTC_STATUS_DATE_INVALID true).raise 95).event 95 = true :=
  ⟨(State.get_raise_rtc _ 95 RTC_STATUS_DATE_INVALID_block).trans (State.get_flag_bit _ true rfl), State.event_raise _ 95⟩

theorem rtcSet_rejected {s : State} (hv : s.stagedSet.ok = false) : completes .rtcSet s fun t =>
    t.get RTC_STATUS_DATE_INVALID = 1 ∧ t.event 95 = true ∧ t.rtc = s.rtc ∧ t.calTime = s.calTime := by
  obtain ⟨hinvalid, hevent⟩ := s.dateInvalid_effect
  exact completes_of_goOn (congrArg goOn (s.takeSet_rejected false none hv)) ⟨hinvalid, hevent, State.raise_rtc _ 95,
    ((State.raise_moves _ 95).calTime_eq rfl).trans (s.calTime_flag true (by decide))⟩

theorem rtcSetAt_held {s : State} (hv : s.stagedSet.ok = true) : completes .rtcSetAt s fun t =>
    t.rtc.heldSet = some { time := s.stagedSet } ∧ t.get RTC_STATUS_SET_PEND = 1 :=
  completes_of_goOn (congrArg goOn (s.takeSet_held none hv)) ⟨rfl, State.get_flag_bit _ true rfl⟩

theorem rtcSetCancel_drops (s : State) : completes .rtcSetCancel s fun t =>
    t.rtc.heldSet = none ∧ t.get RTC_STATUS_SET_PEND = 0 :=
  completes_of_goOn (t := (s.setRtc { s.rtc with heldSet := none }).flag RTC_STATUS_SET_PEND false) rfl
    ⟨rfl, State.get_flag_bit _ false rfl⟩

/-! Object 0x7001.02 (R239). -/

theorem setFromNetworkTime_range {v : Nat} (s : State) (hv : v ≠ 1) : completes (.setFromNetworkTime v) s fun t =>
    t.host.result = .range ∧ t.rtc = s.rtc :=
  completes_of_goOn (t := s.answer .range) (if_pos hv) ⟨rfl, rfl⟩

/-- The calendar time of the next whole TNET second. -/
def State.networkNext (s : State) : CalTime :=
  networkCal (s.tnet / 100000000 + 1) (s.get RTC_UTCOFF_LEAP) (signed 8 (s.get RTC_UTCOFF_OFFSET))

theorem setFromNetworkTime_held {s : State} (hv : s.networkNext.ok = true) : completes (.setFromNetworkTime 1) s fun t =>
    t.host.result = .ok ∧
      t.rtc.heldSet = some { time := s.networkNext, due := some ((s.tnet / 100000000 + 1) * 100000000) } := by
  have hexec : execSetFromNetworkTime 1 s = goOn ((s.holdSet
      { time := s.networkNext, due := some ((s.tnet / 100000000 + 1) * 100000000) }).answer .ok) := by
    rw [← s.takeSet_held _ hv]
    rfl
  exact completes_of_goOn hexec ⟨rfl, rfl⟩

end Sys2Proof.Machine

/-! ## Alarms, shadows and the oscillator -/
namespace Sys2Proof.Machine

/-! Alarms that fire (R240). -/

theorem State.get_almFlag_almFire (s : State) (i : Nat) (skipped disarm : Bool) :
    (s.almFire i skipped disarm).get (almFlag i) = 1 := by
  have hskipped : (almFlag i).key ≠ (almSkipped i).key := by unfold almFlag almSkipped; split <;> decide
  have hen : (almFlag i).key ≠ (almEn i).key := by unfold almFlag almEn; split <;> decide
  have hwidth : (almFlag i).width = 1 := by unfold almFlag; split <;> rfl
  have hflag := s.get_flag_bit true hwidth
  unfold State.almFire
  extract_lets flagged marked
  have hmarked : marked.get (almFlag i) = 1 := by
    unfold marked
    split
    · exact (State.get_flag_ne _ _ hskipped).trans hflag
    · exact hflag
  split
  · exact (State.get_flag_ne _ _ hen).trans hmarked
  · exact hmarked

/-- A one-shot alarm that fires disarms. -/
theorem State.on_almEn_almFire {s : State} {i : Nat} (skipped disarm : Bool) (honce : s.on (almOneshot i) = true) :
    (s.almFire i skipped disarm).on (almEn i) = false := by
  have hflag : (almOneshot i).key ≠ (almFlag i).key := by unfold almOneshot almFlag; split <;> decide
  have hskipped : (almOneshot i).key ≠ (almSkipped i).key := by unfold almOneshot almSkipped; split <;> decide
  have hwidth : (almEn i).width = 1 := by unfold almEn; split <;> rfl
  unfold State.almFire
  extract_lets flagged marked
  have hmarked : marked.on (almOneshot i) = true := by
    unfold marked
    split
    · exact ((State.on_flag_ne _ _ hskipped).trans (s.on_flag_ne _ hflag)).trans honce
    · exact (s.on_flag_ne _ hflag).trans honce
  rw [if_pos (.inr hmarked)]
  exact State.on_flag_bit _ false hwidth

/-- Alarm A fires, and with it alarm B where `is` names it. -/
theorem State.almFireAll_alarmA (s : State) {is : List Nat} (his : ∀ i ∈ is, i = 1) (skipped : Bool) :
    (s.almFireAll (0 :: is) skipped).get RTC_STATUS_ALMA_F = 1 ∧ (s.almFireAll (0 :: is) skipped).event 88 = true ∧
      (s.on RTC_ALMCTRL_A_ONESHOT = true → (s.almFireAll (0 :: is) skipped).on RTC_ALMCTRL_A_EN = false) := by
  have hkeeps : ∀ {f : RegField}, f.inBlock 9 → f.offAlarm 1 →
      (s.almFireAll (0 :: is) skipped).get f = (s.almFire 0 skipped false).get f := fun hblock hf =>
    (State.get_raiseIf_rtc _ _ 88 hblock).trans (State.get_foldl_almFire_ne skipped (fun i hi => his i hi ▸ hf) _)
  refine ⟨?_, State.event_raise _ 88, fun honce => ?_⟩
  · exact (hkeeps RTC_STATUS_ALMA_F_block (by decide)).trans (s.get_almFlag_almFire 0 skipped false)
  · exact (State.on_congr (hkeeps RTC_ALMCTRL_A_EN_block (by decide))).trans
      (State.on_almEn_almFire (i := 0) skipped false honce)

theorem State.almFireAll_rtc (s : State) (is : List Nat) (skipped : Bool) : (s.almFireAll is skipped).rtc = s.rtc :=
  (s.almFireAll_moves is skipped).1 .rtc rfl

theorem alarmFire_alarmA {s : State} (htick : s.rtc.secondTick = true) (hen : s.on RTC_ALMCTRL_A_EN = true)
    (hhit : s.almHit 0 s.calTime = true) : completes .alarmFire s fun t => t.get RTC_STATUS_ALMA_F = 1 ∧ t.event 88 = true ∧
      t.rtc.secondTick = false ∧ (s.on RTC_ALMCTRL_A_ONESHOT = true → t.on RTC_ALMCTRL_A_EN = false) := by
  have harmed : s.on (almEn 0) = true := hen
  have hexec : execAlarmFire s = goOn ((s.setRtc { s.rtc with secondTick := false }).almFireAll
      (0 :: ([1] : List Nat).filter fun i => s.on (almEn i) && s.almHit i s.calTime) false) := by
    unfold execAlarmFire
    rw [if_neg (by simp [htick]), List.filter_cons_of_pos (by simp [harmed, hhit])]
  obtain ⟨hflag, hevent, honce⟩ := State.almFireAll_alarmA (s.setRtc { s.rtc with secondTick := false })
    (fun i hi => List.mem_singleton.mp (List.mem_filter.mp hi).1) false
  refine completes_of_goOn hexec ⟨hflag, hevent, ?_, honce⟩
  rw [State.almFireAll_rtc]
  rfl

/-! Alarms that are armed (R240, R241). -/

/-- The fields that hold the time and the masks of alarm `i`. -/
def almSettings (i : Nat) : List RegField :=
  [RTC_ALM_D_M_YEAR i, RTC_ALM_D_YEAR i, RTC_ALM_D_M_MONTH i, RTC_ALM_D_MONTH i, RTC_ALM_D_M_DAY i, RTC_ALM_D_DAY i,
    RTC_ALM_T_M_HOUR i, RTC_ALM_T_HOUR i, RTC_ALM_T_M_MIN i, RTC_ALM_T_MIN i, RTC_ALM_T_M_SEC i, RTC_ALM_T_SEC i]

section settings
variable {s t : State} {i : Nat} (h : ∀ f ∈ almSettings i, t.get f = s.get f)
include h

theorem State.almDates_congr : t.almDates i = s.almDates i := by
  unfold almSettings at h
  simp only [List.forall_mem_cons] at h
  obtain ⟨hmy, hy, hmm, hm, hmd, hd, -⟩ := h
  unfold State.almDates
  rw [State.on_congr hmy, hy, State.on_congr hmm, hm, State.on_congr hmd, hd]

theorem State.almTimes_congr : t.almTimes i = s.almTimes i := by
  unfold almSettings at h
  simp only [List.forall_mem_cons] at h
  obtain ⟨-, -, -, -, -, -, hmh, hh, hmm, hm, hms, hs, -⟩ := h
  unfold State.almTimes
  rw [State.on_congr hmh, hh, State.on_congr hmm, hm, State.on_congr hms, hs]

theorem State.almWithin_congr (old : CalTime) (new : Option CalTime) : t.almWithin i old new = s.almWithin i old new := by
  unfold State.almWithin
  rw [State.almDates_congr h, State.almTimes_congr h]

end settings

theorem almSettings_ne_oneshot (b : Bool) : ∀ f ∈ almSettings (ofBool b), f.key ≠ (almOneshot (ofBool b)).key := by
  cases b <;> decide

/-- An alarm with an occurrence to come is armed. -/
theorem State.almArm_arms {s : State} {i : Nat} (hoff : s.on (almEn i) = false) (hdates : (s.almDates i).isEmpty = false)
    (htimes : (s.almTimes i).isEmpty = false) (hwithin : s.almWithin i s.calTime none = true) :
    s.almArm i = s.flag (almEn i) true := by
  unfold State.almArm
  rw [if_neg (by simp [hoff]), if_neg (by simp [hdates, htimes]), if_pos hwithin]

/-- An alarm whose date never comes is refused. -/
theorem State.almArm_rejected {s : State} {i : Nat} (hoff : s.on (almEn i) = false) (hdates : (s.almDates i).isEmpty = true) :
    s.almArm i = (s.flag RTC_STATUS_DATE_INVALID true).raise 95 := by
  unfold State.almArm
  rw [if_neg (by simp [hoff]), if_pos (.inl hdates)]

theorem alarmArm_arms (one : Bool) {s : State} (hoff : s.on RTC_ALMCTRL_A_EN = false) (hdates : (s.almDates 0).isEmpty = false)
    (htimes : (s.almTimes 0).isEmpty = false) (hwithin : s.almWithin 0 s.calTime none = true) :
    completes (.alarmArm false one) s fun t => t.get RTC_ALMCTRL_A_EN = 1 ∧ t.on RTC_ALMCTRL_A_ONESHOT = one := by
  have hkept : ∀ f ∈ almSettings 0, (s.flag RTC_ALMCTRL_A_ONESHOT one).get f = s.get f := fun f hf =>
    s.get_flag_ne one (almSettings_ne_oneshot false f hf)
  have harm : (s.flag RTC_ALMCTRL_A_ONESHOT one).almArm 0 =
      (s.flag RTC_ALMCTRL_A_ONESHOT one).flag RTC_ALMCTRL_A_EN true := by
    refine State.almArm_arms ((s.on_flag_ne one (by decide)).trans hoff) ?_ ?_ ?_
    · rw [State.almDates_congr (s := s) hkept, hdates]
    · rw [State.almTimes_congr (s := s) hkept, htimes]
    · rw [State.almWithin_congr (s := s) hkept, s.calTime_flag one (by decide), hwithin]
  exact completes_of_goOn (congrArg goOn harm) ⟨State.get_flag_bit _ true rfl,
    (State.on_flag_ne _ true (by decide)).trans (s.on_flag_bit one rfl)⟩

theorem alarmArm_rejected (one : Bool) {s : State} (hoff : s.on RTC_ALMCTRL_B_EN = false)
    (hdates : (s.almDates 1).isEmpty = true) : completes (.alarmArm true one) s fun t => t.on RTC_ALMCTRL_B_EN = false ∧
      t.get RTC_STATUS_DATE_INVALID = 1 ∧ t.event 95 = true := by
  have hkept : ∀ f ∈ almSettings 1, (s.flag RTC_ALMCTRL_B_ONESHOT one).get f = s.get f := fun f hf =>
    s.get_flag_ne one (almSettings_ne_oneshot true f hf)
  have hstill : (s.flag RTC_ALMCTRL_B_ONESHOT one).on RTC_ALMCTRL_B_EN = false := (s.on_flag_ne one (by decide)).trans hoff
  have harm : (s.flag RTC_ALMCTRL_B_ONESHOT one).almArm 1 =
      ((s.flag RTC_ALMCTRL_B_ONESHOT one).flag RTC_STATUS_DATE_INVALID true).raise 95 := by
    refine State.almArm_rejected hstill ?_
    rw [State.almDates_congr (s := s) hkept, hdates]
  obtain ⟨hinvalid, hevent⟩ := (s.flag RTC_ALMCTRL_B_ONESHOT one).dateInvalid_effect
  refine completes_of_goOn (congrArg goOn harm) ⟨?_, hinvalid, hevent⟩
  rw [State.on_congr (State.get_raise_rtc _ 95 RTC_ALMCTRL_B_EN_block), State.on_flag_ne _ _ (by decide), hstill]

/-! Shadows (R237). -/

/-- The flag that says that a core's shadow is frozen. -/
def frozenField (core1 : Bool) : RegField := if core1 then RTC_STATUS_FROZEN1 else RTC_STATUS_FROZEN0

theorem frozenField_width (core1 : Bool) : (frozenField core1).width = 1 := by cases core1 <;> rfl

/-- What a core's time register read shows. -/
def State.shownTime (s : State) (core1 : Bool) : Shadow :=
  if s.on (frozenField core1) then (if core1 then s.rtc.shadow1 else s.rtc.shadow0)
  else { time := s.calTime, wday := s.get RTC_DAY_WDAY, subsec := s.get RTC_SUBSEC_SUBSEC }

/-- R237: a read shows the shadow, and freezes it unless it is of RTC_YEAR. -/
theorem timeRegisterRead_shows (core1 : Bool) (i : Fin 7) (s : State) : completes (.timeRegisterRead core1 i) s fun t =>
    t.host.readData = (s.shownTime core1).reg i ∧ t.on (frozenField core1) = decide (i.val ≠ 6) :=
  completes_of_goOn (t := s.timeRead core1 i) rfl ⟨rfl, State.on_flag_bit _ (decide (i.val ≠ 6)) (frozenField_width core1)⟩

theorem timeRegisterRead_thawed {core1 : Bool} (i : Fin 7) {s : State} (hfree : s.on (frozenField core1) = false) :
    completes (.timeRegisterRead core1 i) s fun t =>
      t.host.readData = ({ time := s.calTime, wday := s.get RTC_DAY_WDAY, subsec := s.get RTC_SUBSEC_SUBSEC } : Shadow).reg i ∧
        t.on (frozenField core1) = decide (i.val ≠ 6) := by
  have hshown : s.shownTime core1 = { time := s.calTime, wday := s.get RTC_DAY_WDAY, subsec := s.get RTC_SUBSEC_SUBSEC } :=
    if_neg (Bool.eq_false_iff.mp hfree)
  rw [← hshown]
  exact timeRegisterRead_shows core1 i s

theorem timeRegisterRead_frozen {core1 : Bool} (i : Fin 7) {s : State} (hfrozen : s.on (frozenField core1) = true) :
    completes (.timeRegisterRead core1 i) s fun t =>
      t.host.readData = (if core1 then s.rtc.shadow1 else s.rtc.shadow0).reg i ∧
        t.on (frozenField core1) = decide (i.val ≠ 6) := by
  have hshown : s.shownTime core1 = if core1 then s.rtc.shadow1 else s.rtc.shadow0 := if_pos hfrozen
  rw [← hshown]
  exact timeRegisterRead_shows core1 i s

theorem shadowTimeout_releases {core1 : Bool} {s : State} (hfrozen : s.on (frozenField core1) = true) :
    completes (.shadowTimeout core1) s fun t => t.on (frozenField core1) = false ∧ t.get RTC_STATUS_SHADOW_TO = 1 := by
  have hexec : execShadowTimeout core1 s = goOn ((s.flag (frozenField core1) false).flag RTC_STATUS_SHADOW_TO true) := by
    unfold execShadowTimeout
    unfold frozenField at hfrozen ⊢
    exact if_neg (by simp [hfrozen])
  have hne : (frozenField core1).key ≠ RTC_STATUS_SHADOW_TO.key := by cases core1 <;> decide
  exact completes_of_goOn hexec ⟨(State.on_flag_ne _ true hne).trans (s.on_flag_bit false (frozenField_width core1)),
    State.get_flag_bit _ true rfl⟩

/-! The oscillator (R235). -/

/-- The status of a measurement is all that its end writes beside MEAS_BUSY. -/
theorem State.get_measureEnd_ne (s : State) (status : Nat) {f : RegField} (hbusy : f.key ≠ RTC_STATUS_MEAS_BUSY.key)
    (hstatus : f.key ≠ RTC_TRIMRES_STATUS.key) : (s.measureEnd status).get f = s.get f := by
  unfold State.measureEnd
  split
  · exact (State.get_put_ne _ _ hstatus).trans (s.get_flag_ne _ hbusy)
  · rfl

theorem State.measureEnd_rtc (s : State) (status : Nat) : (s.measureEnd status).rtc = s.rtc :=
  (s.measureEnd_moves status).1 .rtc rfl

/-- What the loss of the oscillator leaves before it is reported. -/
def State.oscLost (s : State) : State :=
  (((s.setRtc { s.rtc with oscRuns := false }).flag RTC_STATUS_OSC_STOP true).measureEnd 2).raise 94

theorem State.oscLost_effect (s : State) : s.oscLost.rtc.oscRuns = false ∧ s.oscLost.get RTC_STATUS_OSC_STOP = 1 ∧
    s.oscLost.event 94 = true := by
  refine ⟨?_, ?_, State.event_raise _ 94⟩
  · unfold State.oscLost
    rw [State.raise_rtc, State.measureEnd_rtc]
    rfl
  · unfold State.oscLost
    rw [State.get_raise_rtc _ 94 RTC_STATUS_OSC_STOP_block, State.get_measureEnd_ne _ 2 (by decide) (by decide)]
    exact State.get_flag_bit _ true rfl

theorem oscStop_stops {s : State} (hrun : s.rtc.oscRuns = true) : completes .oscStop s fun t => t.rtc.oscRuns = false ∧
    t.get RTC_STATUS_OSC_STOP = 1 ∧ t.event 94 = true := by
  have hexec : execOscStop s = goOn (if s.oscLost.mainOn then s.oscLost.report 0 0x1D 0 0x14 else s.oscLost) := by
    unfold execOscStop
    exact if_neg (by simp [hrun])
  obtain ⟨hstopped, hflag, hevent⟩ := s.oscLost_effect
  refine completes_of_goOn hexec ?_
  split
  · exact ⟨(congrArg Rtc.oscRuns (State.report_rtc _ _ _ _ _ _)).trans hstopped,
      (State.get_report_rtc _ _ _ _ _ RTC_STATUS_OSC_STOP_block).trans hflag, (State.report_steady _ _ _ _ _ _).event 94 hevent⟩
  · exact ⟨hstopped, hflag, hevent⟩

theorem oscReturn_runs (s : State) : completes .oscReturn s fun t => t.rtc.oscRuns = true :=
  completes_of_goOn (t := s.setRtc { s.rtc with oscRuns := true }) rfl rfl

/-- Settles O21: each clause is the effect of one command, on the states that its rule of R235 to R242 speaks of. That
one oscillator edge loads a due SET and counts, that alarms fire after the tick, and that object 0x7001.02 loads at the next
whole TNET second are the model's choice (log entry 40). -/
theorem theCalendarItsSettingAndItsAlarms : Obligations.TheCalendarItsSettingAndItsAlarms := by
  unfold Obligations.TheCalendarItsSettingAndItsAlarms
  exact ⟨fun _ => rtcTick_counts, fun _ => rtcTick_second, fun _ _ => rtcSetApply_loads, fun _ => rtcSet_due,
    fun _ => rtcSet_rejected, fun _ => rtcSetAt_held, rtcSetCancel_drops, fun _ s => setFromNetworkTime_range s,
    fun _ => setFromNetworkTime_held, fun _ => alarmFire_alarmA, fun one _ => alarmArm_arms one,
    fun one _ => alarmArm_rejected one, fun _ i _ => timeRegisterRead_thawed i, fun _ i _ => timeRegisterRead_frozen i,
    fun _ _ => shadowTimeout_releases, fun _ => oscStop_stops, oscReturn_runs⟩

end Sys2Proof.Machine

/-! ## Trim measurements and the trim -/
namespace Sys2Proof.Machine

/-! Signed fields. -/

theorem signed_unsigned_twenty {e : Int} (h : e.natAbs ≤ 500000) : signed 20 (unsigned 20 e) = e := by
  unfold signed unsigned
  dsimp only
  split <;> omega

theorem clampInt_of_natAbs_le {m e : Int} (h : (e.natAbs : Int) ≤ m) : clampInt m e = e := by
  unfold clampInt
  rw [if_neg (by omega), if_neg (by omega)]

/-! The end of a measurement (R243). -/

/-- A running measurement ends with its status, of two bits. -/
theorem State.measureEnd_effect {s : State} (hbusy : s.on RTC_STATUS_MEAS_BUSY = true) (status : Nat) :
    (s.measureEnd status).get RTC_STATUS_MEAS_BUSY = 0 ∧ (s.measureEnd status).get RTC_TRIMRES_STATUS = status % 2 ^ 2 := by
  unfold State.measureEnd
  rw [if_pos hbusy]
  exact ⟨(State.get_put_ne _ _ (by decide)).trans (s.get_flag_bit false rfl), State.get_put_self _ _ _⟩

section idle
variable {s : State} (hidle : s.on RTC_STATUS_MEAS_BUSY = false)
include hidle

theorem execRtcMeasure_idle : execRtcMeasure s =
    goOn (if (s.flag RTC_STATUS_MEAS_BUSY true).on GNS_GTCTRL_TIME_VALID then s.flag RTC_STATUS_MEAS_BUSY true
      else (s.flag RTC_STATUS_MEAS_BUSY true).measureNoTime) := by
  unfold execRtcMeasure
  exact if_neg (by simp [hidle])

/-- R243: a measurement that has its reference runs. -/
theorem rtcMeasure_starts (href : s.on GNS_GTCTRL_TIME_VALID = true ∨ s.get RTC_TRIMCFG_SRC ≠ 0) :
    completes .rtcMeasure s fun t => t.get RTC_STATUS_MEAS_BUSY = 1 := by
  have hbusy : (s.flag RTC_STATUS_MEAS_BUSY true).get RTC_STATUS_MEAS_BUSY = 1 := s.get_flag_bit true rfl
  refine completes_of_goOn (execRtcMeasure_idle hidle) ?_
  split
  · exact hbusy
  · rename_i hinvalid
    rw [State.on_flag_ne _ _ (by decide)] at hinvalid
    have hsrc : (s.flag RTC_STATUS_MEAS_BUSY true).get RTC_TRIMCFG_SRC ≠ 0 := by
      rw [State.get_flag_ne _ _ (by decide)]
      exact href.resolve_left hinvalid
    unfold State.measureNoTime
    rwa [if_neg hsrc]

/-- R243: one against the second marks ends at once while GNSS time is not valid. -/
theorem rtcMeasure_noReference (hinvalid : s.on GNS_GTCTRL_TIME_VALID = false) (hsrc : s.get RTC_TRIMCFG_SRC = 0) :
    completes .rtcMeasure s fun t => t.get RTC_STATUS_MEAS_BUSY = 0 ∧ t.get RTC_TRIMRES_STATUS = 1 := by
  have htime : ¬(s.flag RTC_STATUS_MEAS_BUSY true).on GNS_GTCTRL_TIME_VALID = true := by
    rw [State.on_flag_ne _ _ (by decide), hinvalid]
    decide
  have hmarks : (s.flag RTC_STATUS_MEAS_BUSY true).get RTC_TRIMCFG_SRC = 0 := (s.get_flag_ne _ (by decide)).trans hsrc
  refine completes_of_goOn (execRtcMeasure_idle hidle) ?_
  rw [if_neg htime, State.measureNoTime, if_pos hmarks]
  exact State.measureEnd_effect (s.on_flag_bit true rfl) 1

end idle

/-- What `n` cycles counted in the window say of the oscillator, in ppb (R243). -/
def State.trimError (s : State) (n : Nat) : Int :=
  roundDiv (((n : Int) - ((s.get RTC_TRIMCFG_WINDOW * 32768 : Nat) : Int)) * 1000000000) (s.get RTC_TRIMCFG_WINDOW * 32768)

/-- `s` with the clamped result of a measurement. -/
def State.showTrim (s : State) (n : Nat) : State := s.put RTC_TRIMRES_RESULT (unsigned 20 (clampInt 500000 (s.trimError n)))

/-- A legal trim is written (R242). -/
theorem State.trimWrite_effect (s : State) {e : Int} (he : e.natAbs ≤ 500000) :
    (s.trimWrite e).get RTC_TRIM_E = unsigned 20 e ∧ (s.trimWrite e).rtc.acc = 0 := by
  unfold State.trimWrite
  rw [if_neg (Nat.not_lt.mpr he), State.get_setRtc, State.setRtc_rtc, State.get_put_self]
  exact ⟨Nat.mod_eq_of_lt (unsigned_lt 20 e), rfl⟩

theorem State.get_trimWrite_ne (s : State) (e : Int) {f : RegField} (hf : f.key ≠ RTC_TRIM_E.key) :
    (s.trimWrite e).get f = s.get f := by
  unfold State.trimWrite
  split
  · rfl
  · rw [State.get_setRtc, State.get_put_ne _ _ hf]

section busy
variable {s : State} (hbusy : s.on RTC_STATUS_MEAS_BUSY = true)
include hbusy

theorem measAbort_ends : completes .measAbort s fun t => t.get RTC_STATUS_MEAS_BUSY = 0 ∧ t.get RTC_TRIMRES_STATUS = 2 :=
  completes_of_goOn (t := s.measureEnd 2) rfl (State.measureEnd_effect hbusy 2)

theorem measureNoref_ends (hmains : s.get RTC_TRIMCFG_SRC = 1) : completes .measureNoref s fun t =>
    t.get RTC_STATUS_MEAS_BUSY = 0 ∧ t.get RTC_TRIMRES_STATUS = 1 := by
  have hexec : execMeasureNoref s = goOn (s.measureEnd 1) := by
    unfold execMeasureNoref
    rw [if_pos hmains]
  exact completes_of_goOn hexec (State.measureEnd_effect hbusy 1)

theorem State.on_busy_showTrim (n : Nat) : (s.showTrim n).on RTC_STATUS_MEAS_BUSY = true :=
  (State.on_congr (s.get_put_ne _ (by decide))).trans hbusy

theorem execMeasureDone_busy (n : Nat) : execMeasureDone n s =
    if 500000 < (s.trimError n).natAbs then goOn ((s.showTrim n).measureEnd 3)
    else goOn (if (s.showTrim n).on RTC_TRIMCFG_AUTO then ((s.showTrim n).measureEnd 0).trimWrite (s.trimError n)
      else (s.showTrim n).measureEnd 0) := by
  unfold execMeasureDone
  exact if_neg (by simp [hbusy])

/-- R243: a result out of range leaves the trim. -/
theorem measureDone_range {n : Nat} (hlarge : 500000 < (s.trimError n).natAbs) : completes (.measureDone n) s fun t =>
    t.get RTC_STATUS_MEAS_BUSY = 0 ∧ t.get RTC_TRIMRES_STATUS = 3 ∧ t.get RTC_TRIM_E = s.get RTC_TRIM_E := by
  obtain ⟨hidle, hstatus⟩ := State.measureEnd_effect (State.on_busy_showTrim hbusy n) 3
  have htrim : ((s.showTrim n).measureEnd 3).get RTC_TRIM_E = s.get RTC_TRIM_E :=
    (State.get_measureEnd_ne _ 3 (by decide) (by decide)).trans (s.get_put_ne _ (by decide))
  exact completes_of_goOn ((execMeasureDone_busy hbusy n).trans (if_pos hlarge)) ⟨hidle, hstatus, htrim⟩

/-- R243: a result in range is stored, and under AUTO applied. -/
theorem measureDone_ok {n : Nat} (hsmall : (s.trimError n).natAbs ≤ 500000) : completes (.measureDone n) s fun t =>
    t.get RTC_STATUS_MEAS_BUSY = 0 ∧ t.get RTC_TRIMRES_STATUS = 0 ∧ t.get RTC_TRIMRES_RESULT = unsigned 20 (s.trimError n) ∧
      t.get RTC_TRIM_E = if s.on RTC_TRIMCFG_AUTO then unsigned 20 (s.trimError n) else s.get RTC_TRIM_E := by
  obtain ⟨hidle, hstatus⟩ := State.measureEnd_effect (State.on_busy_showTrim hbusy n) 0
  have hresult : ((s.showTrim n).measureEnd 0).get RTC_TRIMRES_RESULT = unsigned 20 (s.trimError n) := by
    rw [State.get_measureEnd_ne _ 0 (by decide) (by decide), State.showTrim, State.get_put_self,
      clampInt_of_natAbs_le (by omega)]
    exact Nat.mod_eq_of_lt (unsigned_lt 20 _)
  have hauto : (s.showTrim n).on RTC_TRIMCFG_AUTO = s.on RTC_TRIMCFG_AUTO := State.on_congr (s.get_put_ne _ (by decide))
  refine completes_of_goOn ((execMeasureDone_busy hbusy n).trans (if_neg (Nat.not_lt.mpr hsmall))) ?_
  rw [hauto]
  split
  · refine ⟨?_, ?_, ?_, (State.trimWrite_effect _ hsmall).1⟩
    · rw [State.get_trimWrite_ne _ _ (by decide), hidle]
    · rw [State.get_trimWrite_ne _ _ (by decide), hstatus, Nat.zero_mod]
    · rw [State.get_trimWrite_ne _ _ (by decide), hresult]
  · exact ⟨hidle, hstatus, hresult,
      (State.get_measureEnd_ne _ 0 (by decide) (by decide)).trans (s.get_put_ne _ (by decide))⟩

end busy

/-- R242: a legal write of the unlocked trim takes effect and clears the accumulator. -/
theorem rtcTrimWrite_taken {v : Word} {s : State} (hunlocked : s.on RTC_LOCK_LOCK = false)
    (hsmall : (signed 20 v.toNat).natAbs ≤ 500000) : completes (.rtcTrimWrite v) s fun t =>
      signed 20 (t.get RTC_TRIM_E) = signed 20 v.toNat ∧ t.rtc.acc = 0 := by
  have hexec : execRtcTrimWrite v s = goOn (s.trimWrite (signed 20 v.toNat)) := by
    unfold execRtcTrimWrite
    exact if_neg (by simp [hunlocked])
  obtain ⟨htrim, hacc⟩ := s.trimWrite_effect hsmall
  refine completes_of_goOn hexec ⟨?_, hacc⟩
  rw [htrim, signed_unsigned_twenty hsmall]

end Sys2Proof.Machine

/-! ## Supply, comparators and the power-on of the backup domain -/
namespace Sys2Proof.Machine

/-! The supply switch (R234). -/

/-- The domain runs from VBAK: the switch is counted, and reported while the main domain is powered. -/
def State.onBackup (s : State) : State :=
  let z := (s.flag RTC_SUPPLY_ON_VBAK true).bump RTC_SUPPLY_SWCOUNT
  if z.mainOn then z.report 0 0x1D 0 0x15 else z

/-- The report writes nothing of the block. -/
theorem State.get_onBackup (s : State) {f : RegField} (hf : f.inBlock 9) :
    s.onBackup.get f = ((s.flag RTC_SUPPLY_ON_VBAK true).bump RTC_SUPPLY_SWCOUNT).get f := by
  unfold State.onBackup
  dsimp only
  split
  · exact State.get_report_rtc _ 0 0x1D 0 0x15 hf
  · rfl

theorem State.get_onBackup_ne (s : State) {f : RegField} (hblock : f.inBlock 9) (hvbak : f.key ≠ RTC_SUPPLY_ON_VBAK.key)
    (hcount : f.key ≠ RTC_SUPPLY_SWCOUNT.key) : s.onBackup.get f = s.get f :=
  (s.get_onBackup hblock).trans ((State.get_bump_ne _ hcount).trans (s.get_flag_ne _ hvbak))

/-- The time of the switch is written (R234). -/
def State.stampSwitch (z : State) : State :=
  (((z.put RTC_SWSTAMP_T_TIME (z.calTime.sec + 256 * z.calTime.min + 65536 * z.calTime.hour)).put RTC_SWSTAMP_T_SUBSEC_H
    (z.get RTC_SUBSEC_SUBSEC / 128)).put RTC_SWSTAMP_D_DATE
      (z.calTime.day + 256 * z.calTime.month + 65536 * z.calTime.year)).flag RTC_SUPPLY_STAMP_VALID true

theorem State.get_stampSwitch_supply (z : State) {f : RegField} (hf : f = RTC_SUPPLY_ON_VBAK ∨ f = RTC_SUPPLY_SWCOUNT) :
    z.stampSwitch.get f = z.get f := by
  unfold State.stampSwitch
  rcases hf with rfl | rfl <;> simp (disch := decide) only [State.get_flag_ne, State.get_put_ne]

theorem State.get_stampSwitch_time (z : State) : z.stampSwitch.get RTC_SWSTAMP_T_TIME =
    (z.get RTC_SEC_VALUE + 256 * z.get RTC_MIN_VALUE + 65536 * z.get RTC_HOUR_HOUR) % 2 ^ 21 := by
  unfold State.stampSwitch
  rw [State.get_flag_ne _ _ (by decide), State.get_put_ne _ _ (by decide), State.get_put_ne _ _ (by decide), State.get_put_self]
  rfl

theorem execSupplySwitch_stamps {s : State} (hmain : s.on RTC_SUPPLY_ON_VBAK = false)
    (hfirst : s.on RTC_SUPPLY_STAMP_VALID = false) : execSupplySwitch s = goOn (s.onBackup.stampSwitch.raise 93) := by
  have hunset : s.onBackup.on RTC_SUPPLY_STAMP_VALID = false :=
    (State.on_congr (s.get_onBackup_ne RTC_SUPPLY_STAMP_VALID_block (by decide) (by decide))).trans hfirst
  have hsubsec : ∀ v : Nat, (s.onBackup.put RTC_SWSTAMP_T_TIME v).get RTC_SUBSEC_SUBSEC = s.onBackup.get RTC_SUBSEC_SUBSEC :=
    fun v => State.get_put_ne _ v (by decide)
  unfold State.onBackup at hunset hsubsec
  unfold execSupplySwitch State.stampSwitch State.onBackup
  dsimp only at hunset hsubsec ⊢
  rw [if_neg (by simp [hmain]), if_neg (by simp [hunset]), hsubsec]

/-- R234: the first switch to VBAK stamps its time. -/
theorem supplySwitch_stamps {s : State} (hmain : s.on RTC_SUPPLY_ON_VBAK = false)
    (hfirst : s.on RTC_SUPPLY_STAMP_VALID = false) : completes .supplySwitch s fun t =>
      t.get RTC_SUPPLY_ON_VBAK = 1 ∧ t.get RTC_SUPPLY_STAMP_VALID = 1 ∧ t.event 93 = true ∧
        t.get RTC_SUPPLY_SWCOUNT = satInc 8 (s.get RTC_SUPPLY_SWCOUNT) ∧
        t.get RTC_SWSTAMP_T_TIME = (s.get RTC_SEC_VALUE + 256 * s.get RTC_MIN_VALUE + 65536 * s.get RTC_HOUR_HOUR) % 2 ^ 21 := by
  have hkept : ∀ f ∈ calFields, s.onBackup.get f = s.get f := fun f hf =>
    have hne : ∀ g ∈ calFields, g.key ≠ RTC_SUPPLY_ON_VBAK.key ∧ g.key ≠ RTC_SUPPLY_SWCOUNT.key := by decide
    s.get_onBackup_ne (calFields_block hf) (hne f hf).1 (hne f hf).2
  refine completes_of_goOn (execSupplySwitch_stamps hmain hfirst) ⟨?_, ?_, State.event_raise _ 93, ?_, ?_⟩
  · rw [State.get_raise_rtc _ 93 RTC_SUPPLY_ON_VBAK_block, State.get_stampSwitch_supply _ (.inl rfl),
      s.get_onBackup RTC_SUPPLY_ON_VBAK_block, State.get_bump_ne _ (by decide)]
    exact s.get_flag_bit true rfl
  · rw [State.get_raise_rtc _ 93 RTC_SUPPLY_STAMP_VALID_block]
    exact State.get_flag_bit _ true rfl
  · rw [State.get_raise_rtc _ 93 RTC_SUPPLY_SWCOUNT_block, State.get_stampSwitch_supply _ (.inr rfl),
      s.get_onBackup RTC_SUPPLY_SWCOUNT_block, State.get_bump_self, s.get_flag_ne _ (by decide)]
    rfl
  · rw [State.get_raise_rtc _ 93 RTC_SWSTAMP_T_TIME_block, State.get_stampSwitch_time, hkept RTC_SEC_VALUE (by simp [calFields]),
      hkept RTC_MIN_VALUE (by simp [calFields]), hkept RTC_HOUR_HOUR (by simp [calFields])]

theorem supplyReturn_ends (s : State) : completes .supplyReturn s fun t => t.get RTC_SUPPLY_ON_VBAK = 0 :=
  completes_of_goOn (t := s.flag RTC_SUPPLY_ON_VBAK false) rfl (s.get_flag_bit false rfl)

/-! Backup RAM and the power-on of the domain (R233, R245). -/

/-- A key of the dropped range reads its default. -/
theorem Sparse.read_dropRange {α : Type} (d : α) (m : Sparse α) {lo hi k : Nat} (hlo : lo ≤ k) (hhi : k < hi) :
    Sparse.read d (m.dropRange lo hi) k = d := by
  induction m with
  | nil => rfl
  | cons e m ih =>
    unfold Sparse.dropRange at ih ⊢
    rw [List.filter_cons]
    split
    · rename_i hout
      have hne : e.1 ≠ k := by
        simp only [Bool.or_eq_true, decide_eq_true_eq] at hout
        omega
      simp only [Sparse.read, if_neg hne, ih]
    · exact ih

theorem State.byte_zeroBytes (s : State) (a n : Nat) {k : Nat} (hlo : a ≤ k) (hhi : k < a + n) :
    (s.zeroBytes a n).byte k = memDefault k := Sparse.read_dropRange _ _ hlo hhi

/-- Zeroised backup RAM reads 0. -/
theorem State.backupRam_zeroBytes (s : State) (k : Fin 64) : (s.zeroBytes backupRam 64).byte (backupRam + k) = 0 := by
  have hk := k.isLt
  rw [s.byte_zeroBytes backupRam 64 (Nat.le_add_right _ _) (Nat.add_lt_add_left hk _), memDefault, backupRam]
  exact if_neg (by omega)

/-- The RTC block lies outside the router's configuration, which the domain holds as well. -/
theorem State.get_backupReset (s : State) {f : RegField} (hlo : rtcKeys.1 ≤ f.key) (hhi : f.key < rtcKeys.2) :
    s.backupReset.get f = f.reset := by
  have hblock : f.inBlock 9 := by
    unfold RegField.inBlock
    unfold rtcKeys at hlo hhi
    omega
  exact (dropRanges_read [0, 1, 2, 3] _ f 9 hblock (by decide) _).trans (Sparse.read_dropRange _ _ hlo hhi)

theorem backupPowerOn_resets {f : RegField} (s : State) (hlo : rtcKeys.1 ≤ f.key) (hhi : f.key < rtcKeys.2) :
    completes .backupPowerOn s fun t => t.get f = f.reset ∧ t.rtc = {} ∧ ∀ k : Fin 64, t.byte (backupRam + k) = 0 :=
  completes_of_goOn (t := s.backupReset) rfl ⟨s.get_backupReset hlo hhi, rfl, State.backupRam_zeroBytes _⟩

theorem State.bkpErase_effect (s : State) : s.bkpErase.get RTC_CMPSTAT_ERASED = 1 ∧
    ∀ k : Fin 64, s.bkpErase.byte (backupRam + k) = 0 :=
  ⟨State.get_flag_bit _ true rfl, s.backupRam_zeroBytes⟩

theorem State.get_bkpErase_ne (s : State) {f : RegField} (hf : f.key ≠ RTC_CMPSTAT_ERASED.key) :
    s.bkpErase.get f = s.get f := State.get_flag_ne _ _ hf

theorem State.event_bkpErase (s : State) (n : Nat) : s.bkpErase.event n = s.event n := s.bkpErase_moves.event_eq n rfl

/-! Comparators (R244). -/

/-- Comparator `n` has gone high. -/
def State.comparatorHigh (s : State) (n : Nat) : State :=
  (s.setRtc { s.rtc with cmpRuns := s.rtc.cmpRuns.set n 0 }).put RTC_CMPSTAT_LEVEL (setBit (s.get RTC_CMPSTAT_LEVEL) n)

/-- Comparator `n` fires (R244). -/
def State.comparatorHit (z : State) (n : Nat) : State :=
  (z.put RTC_CMPSTAT_HIT (setBit (z.get RTC_CMPSTAT_HIT) n)).raise (89 + n)

/-- A hit shows in LEVEL and HIT, with its event. -/
theorem State.comparatorHit_effect (s : State) (n : Fin 4) :
    bit (((s.comparatorHigh n).comparatorHit n).get RTC_CMPSTAT_LEVEL) n = true ∧
      bit (((s.comparatorHigh n).comparatorHit n).get RTC_CMPSTAT_HIT) n = true ∧
      ((s.comparatorHigh n).comparatorHit n).event (89 + n) = true ∧
      ((s.comparatorHigh n).comparatorHit n).on (RTC_CMP_ERASE n) = s.on (RTC_CMP_ERASE n) := by
  have herase : ∀ n : Fin 4, (RTC_CMP_ERASE n).key ≠ RTC_CMPSTAT_LEVEL.key ∧ (RTC_CMP_ERASE n).key ≠ RTC_CMPSTAT_HIT.key := by
    decide
  have hset : ∀ v : Nat, bit (setBit v n % 2 ^ 4) n = true := fun v => by rw [bit_mod_two_pow n.isLt, bit_setBit]
  unfold State.comparatorHit
  refine ⟨?_, ?_, State.event_raise _ _, ?_⟩
  · rw [State.get_raise_rtc _ _ RTC_CMPSTAT_LEVEL_block, State.get_put_ne _ _ (by decide), State.comparatorHigh,
      State.get_put_self]
    exact hset _
  · rw [State.get_raise_rtc _ _ RTC_CMPSTAT_HIT_block, State.get_put_self]
    exact hset _
  · rw [State.on_congr (State.get_raise_rtc _ _ (RTC_CMP_ERASE_block n)),
      State.on_congr (State.get_put_ne _ _ (herase n).2), State.comparatorHigh,
      State.on_congr (State.get_put_ne _ _ (herase n).1), State.on_setRtc]

section sample
variable {n : Fin 4} {s : State} (hrun : s.rtc.oscRuns = true)
include hrun

/-- R244: a sample that differs is counted until there are enough. -/
theorem comparatorSample_counts {high : Bool} (hcond : s.get (RTC_CMP_COND n) ≠ 0)
    (hdiff : bit (s.get RTC_CMPSTAT_LEVEL) n ≠ high) (hlen : s.rtc.cmpRuns.length = 4)
    (hfew : s.rtc.cmpRuns.getD n 0 + 1 ≤ s.get (RTC_CMP_DEBOUNCE n)) : completes (.comparatorSample n high) s fun t =>
      t.rtc.cmpRuns.getD n 0 = s.rtc.cmpRuns.getD n 0 + 1 ∧ t.get RTC_CMPSTAT_LEVEL = s.get RTC_CMPSTAT_LEVEL := by
  have hexec : execComparatorSample n high s =
      goOn (s.setRtc { s.rtc with cmpRuns := s.rtc.cmpRuns.set n (s.rtc.cmpRuns.getD n 0 + 1) }) := by
    unfold execComparatorSample
    dsimp only
    rw [if_neg (by simp [hcond, hrun]), if_neg hdiff, if_pos hfew]
  have hn : n.val < s.rtc.cmpRuns.length := by
    rw [hlen]
    exact n.isLt
  refine completes_of_goOn hexec ⟨?_, State.get_setRtc _ _ _⟩
  rw [State.setRtc_rtc]
  simp [List.getD_eq_getElem?_getD, hn]

theorem execComparatorSample_hits (hcond : s.get (RTC_CMP_COND n) = 1) (hlow : bit (s.get RTC_CMPSTAT_LEVEL) n = false)
    (henough : s.get (RTC_CMP_DEBOUNCE n) < s.rtc.cmpRuns.getD n 0 + 1) : execComparatorSample n true s =
      goOn (if ((s.comparatorHigh n).comparatorHit n).on (RTC_CMP_ERASE n) then ((s.comparatorHigh n).comparatorHit n).bkpErase
        else (s.comparatorHigh n).comparatorHit n) := by
  unfold execComparatorSample
  dsimp only
  rw [if_neg (by simp [hcond, hrun]), if_neg (by simp [hlow]), if_neg (Nat.not_le.mpr henough),
    if_pos (.inr (.inl ⟨hcond, rfl⟩))]
  rfl

/-- R244: enough high samples on a comparator that fires when its level goes high. -/
theorem comparatorSample_hits (hcond : s.get (RTC_CMP_COND n) = 1) (hlow : bit (s.get RTC_CMPSTAT_LEVEL) n = false)
    (henough : s.get (RTC_CMP_DEBOUNCE n) < s.rtc.cmpRuns.getD n 0 + 1) : completes (.comparatorSample n true) s fun t =>
      bit (t.get RTC_CMPSTAT_LEVEL) n = true ∧ bit (t.get RTC_CMPSTAT_HIT) n = true ∧ t.event (89 + n) = true ∧
        (s.on (RTC_CMP_ERASE n) = true → t.get RTC_CMPSTAT_ERASED = 1 ∧ ∀ k : Fin 64, t.byte (backupRam + k) = 0) := by
  obtain ⟨hlevel, hhit, hevent, herase⟩ := s.comparatorHit_effect n
  refine completes_of_goOn (execComparatorSample_hits hrun hcond hlow henough) ?_
  split
  · refine ⟨?_, ?_, (State.event_bkpErase _ _).trans hevent, fun _ => State.bkpErase_effect _⟩
    · rw [State.get_bkpErase_ne _ (by decide), hlevel]
    · rw [State.get_bkpErase_ne _ (by decide), hhit]
  · rename_i hkeep
    exact ⟨hlevel, hhit, hevent, fun hon => absurd (herase.trans hon) hkeep⟩

end sample

/-- Settles O22: each clause is the effect of one command, on the states that its rule of R233, R234 and R242 to R245 speaks
of. -/
theorem trimSupplyComparatorsAndTheBackupDomain : Obligations.TrimSupplyComparatorsAndTheBackupDomain := by
  unfold Obligations.TrimSupplyComparatorsAndTheBackupDomain
  exact ⟨fun _ => rtcMeasure_starts, fun _ => rtcMeasure_noReference, fun _ => measAbort_ends, fun _ => measureNoref_ends,
    fun _ _ hbusy => measureDone_range hbusy, fun _ _ hbusy => measureDone_ok hbusy, fun _ _ => rtcTrimWrite_taken,
    fun _ => supplySwitch_stamps, supplyReturn_ends, fun _ s => backupPowerOn_resets s,
    fun _ _ _ hrun => comparatorSample_counts hrun, fun _ _ hrun => comparatorSample_hits hrun⟩

end Sys2Proof.Machine

/-! ## Timers -/
namespace Sys2Proof.Machine

/-! What an event leaves of the timers: it writes none of their registers, and of the router only the pulses on their way. -/

theorem State.get_raise_tmr (s : State) (n : Nat) {f : RegField} (hf : f.inBlock 10) : (s.raise n).get f = s.get f :=
  (s.raise_moves n).get_eq hf (by decide) rfl

theorem State.get_raiseIf_tmr (s : State) (b : Bool) (n : Nat) {f : RegField} (hf : f.inBlock 10) :
    (s.raiseIf b n).get f = s.get f := (s.raiseIf_moves b n).get_eq hf (by decide) rfl

/-- Between `s` and `t` nothing of the router beside its registers has changed but the pulses on their way. -/
def EvrButPulses (s t : State) : Prop := ∃ p, t.evr = { s.evr with pulses := p }

theorem EvrButPulses.refl (s : State) : EvrButPulses s s := ⟨s.evr.pulses, rfl⟩

theorem EvrButPulses.trans {r s t : State} (h : EvrButPulses r s) (g : EvrButPulses s t) : EvrButPulses r t := by
  obtain ⟨p, hp⟩ := h
  obtain ⟨q, hq⟩ := g
  exact ⟨q, by rw [hq, hp]⟩

theorem EvrButPulses.foldl {α : Type} {g : State → α → State} (hg : ∀ s x, EvrButPulses s (g s x)) (l : List α) (s : State) :
    EvrButPulses s (l.foldl g s) := by
  induction l generalizing s with
  | nil => exact refl s
  | cons x l ih => exact (hg s x).trans (ih _)

theorem Moves.evrButPulses {m : Nat} {s t : State} (h : Moves m s t) (hm : m.testBit 12 = false) : EvrButPulses s t :=
  ⟨s.evr.pulses, h.1 .evr hm⟩

theorem State.pulse_evrButPulses (s : State) (c at_ : Nat) : EvrButPulses s (s.pulse c at_) := by
  unfold State.pulse
  split
  · exact ⟨_, rfl⟩
  · exact EvrButPulses.refl s

theorem State.raise_evrButPulses (s : State) (n : Nat) : EvrButPulses s (s.raise n) := by
  unfold State.raise
  extract_lets sticky core0 core1 lines woken
  have hwoken : EvrButPulses s woken := by
    unfold woken
    split
    · exact (lines.wakeRequest_moves _).evrButPulses rfl
    · exact EvrButPulses.refl s
  split
  · refine hwoken.trans (EvrButPulses.foldl (fun z c => ?_) _ woken)
    split
    · exact z.pulse_evrButPulses c _
    · exact EvrButPulses.refl z
  · exact hwoken

theorem State.raiseIf_evrButPulses (s : State) (b : Bool) (n : Nat) : EvrButPulses s (s.raiseIf b n) := by
  unfold State.raiseIf
  split
  · exact s.raise_evrButPulses n
  · exact EvrButPulses.refl s

theorem EvrButPulses.cmpDone_eq {s t : State} (h : EvrButPulses s t) (n : Nat) : t.cmpDone n = s.cmpDone n := by
  obtain ⟨p, hp⟩ := h
  rw [State.cmpDone, hp]
  rfl

theorem EvrButPulses.cmpDue_eq {s t : State} (h : EvrButPulses s t) : t.evr.cmpDue = s.evr.cmpDue := by
  obtain ⟨p, hp⟩ := h
  rw [hp]

theorem EvrButPulses.passed_eq {s t : State} (h : EvrButPulses s t) : t.evr.passed = s.evr.passed := by
  obtain ⟨p, hp⟩ := h
  rw [hp]

/-! Compare states (R250, R252). -/

@[simp] theorem State.get_setCmpDone (s : State) (n : Nat) (b : Bool) (f : RegField) : (s.setCmpDone n b).get f = s.get f := rfl

@[simp] theorem State.on_setCmpDone (s : State) (n : Nat) (b : Bool) (f : RegField) : (s.setCmpDone n b).on f = s.on f := rfl

theorem State.cmpDone_setCmpDone (s : State) (n : Nat) (b : Bool) : (s.setCmpDone n b).cmpDone n = b := by
  cases b
  · exact bit_clearBit _ n
  · exact bit_setBit _ n

/-- Clearing a bit sets no other one. -/
theorem bit_clearBit_of_bit {v k : Nat} (n : Nat) (h : bit v k = false) : bit (clearBit v n) k = false := by
  by_cases hn : bit v n = true
  · have hle : 2 ^ n ≤ v := Nat.le_of_not_lt fun hlt => by simp [bit, Nat.div_eq_of_lt hlt] at hn
    have hback : setBit (clearBit v n) n = v := by
      rw [setBit, if_neg (by simp [bit_clearBit]), clearBit, if_pos hn, Nat.sub_add_cancel hle]
    refine Bool.eq_false_iff.mpr fun hk => ?_
    have hset := bit_setBit_of_bit n hk
    rw [hback, h] at hset
    exact absurd hset (by decide)
  · rwa [clearBit, if_neg hn]

/-! The tick (R250). -/

/-- The reload of R250. -/
def State.timerReload (s : State) (n : Nat) : State :=
  let z := ((s.put (TMR_COUNT_COUNT n) 0).flag (TMR_STAT_PER_F n) true).setCmpDone n false
  if z.on (TMR_CTRL_ONESHOT n) then z.flag (TMR_CTRL_EN n) false else z

/-- COUNT goes up by one. -/
def State.timerCount (s : State) (n : Nat) : State := s.put (TMR_COUNT_COUNT n) (s.get (TMR_COUNT_COUNT n) + 1)

/-- The compare that R250 makes at the end of a tick. -/
def State.compareHits (s : State) (n : Nat) : Bool :=
  s.on (TMR_CTRL_CMP_EN n) && !s.cmpDone n && decide (s.get (TMR_CMP_CMP n) ≤ s.get (TMR_COUNT_COUNT n))

/-- The compare of timer `n` fires. -/
def State.compareFire (s : State) (n : Nat) : State := (s.flag (TMR_STAT_CMP_F n) true).setCmpDone n true

/-- The end of a tick: a compare that COUNT has reached fires. -/
def State.compare (s : State) (n : Nat) : State := if s.compareHits n then s.compareFire n else s

theorem State.timerTick_reload {s : State} {n : Nat} (h : s.reloads n = true) :
    s.timerTick n = ((s.timerReload n).compare n).raise (96 + n) := by
  unfold State.timerTick
  simp only [h, if_true, Bool.true_or]
  rfl

theorem State.timerTick_count {s : State} {n : Nat} (h : s.reloads n = false) :
    s.timerTick n = ((s.timerCount n).compare n).raiseIf ((s.timerCount n).compareHits n) (96 + n) := by
  unfold State.timerTick
  simp only [h, Bool.false_eq_true, if_false, Bool.false_or]
  rfl

theorem State.compareFire_effect (s : State) (n : Nat) :
    (s.compareFire n).get (TMR_STAT_CMP_F n) = 1 ∧ (s.compareFire n).cmpDone n = true :=
  ⟨s.get_flag_bit true rfl, State.cmpDone_setCmpDone _ n true⟩

/-- A compare writes CMP_F alone. -/
theorem State.get_compare_ne (s : State) {n : Nat} {f : RegField} (hf : f.key ≠ (TMR_STAT_CMP_F n).key) :
    (s.compare n).get f = s.get f := by
  unfold State.compare
  split
  · exact s.get_flag_ne true hf
  · rfl

theorem State.timerReload_effect (s : State) (n : Nat) : (s.timerReload n).get (TMR_COUNT_COUNT n) = 0 ∧
    (s.timerReload n).get (TMR_STAT_PER_F n) = 1 ∧
      (s.on (TMR_CTRL_ONESHOT n) = true → (s.timerReload n).on (TMR_CTRL_EN n) = false) := by
  have hkeys : (TMR_COUNT_COUNT n).key ≠ (TMR_STAT_PER_F n).key ∧ (TMR_COUNT_COUNT n).key ≠ (TMR_CTRL_EN n).key ∧
      (TMR_STAT_PER_F n).key ≠ (TMR_CTRL_EN n).key ∧ (TMR_CTRL_ONESHOT n).key ≠ (TMR_STAT_PER_F n).key ∧
        (TMR_CTRL_ONESHOT n).key ≠ (TMR_COUNT_COUNT n).key := by
    simp only [RegField.key, TMR_COUNT_COUNT, TMR_STAT_PER_F, TMR_CTRL_EN, TMR_CTRL_ONESHOT]
    omega
  obtain ⟨hcountPer, hcountEn, hperEn, honePer, honeCount⟩ := hkeys
  have hcount : ((s.put (TMR_COUNT_COUNT n) 0).flag (TMR_STAT_PER_F n) true).get (TMR_COUNT_COUNT n) = 0 := by
    rw [State.get_flag_ne _ _ hcountPer, State.get_put_self, Nat.zero_mod]
  have hper : ((s.put (TMR_COUNT_COUNT n) 0).flag (TMR_STAT_PER_F n) true).get (TMR_STAT_PER_F n) = 1 :=
    State.get_flag_bit _ true rfl
  unfold State.timerReload
  dsimp only
  split
  · refine ⟨?_, ?_, fun _ => State.on_flag_bit _ false rfl⟩
    · rw [State.get_flag_ne _ _ hcountEn, State.get_setCmpDone, hcount]
    · rw [State.get_flag_ne _ _ hperEn, State.get_setCmpDone, hper]
  · rename_i hrepeat
    refine ⟨hcount, hper, fun hone => absurd ?_ hrepeat⟩
    rw [State.on_setCmpDone, State.on_flag_ne _ _ honePer, State.on_congr (s.get_put_ne _ honeCount), hone]

/-- R250: the tick that reaches PERIOD. -/
theorem State.timerTick_reload_effect {s : State} {n : Nat} (h : s.reloads n = true) :
    (s.timerTick n).get (TMR_COUNT_COUNT n) = 0 ∧ (s.timerTick n).get (TMR_STAT_PER_F n) = 1 ∧
      (s.timerTick n).event (96 + n) = true ∧
        (s.on (TMR_CTRL_ONESHOT n) = true → (s.timerTick n).on (TMR_CTRL_EN n) = false) := by
  obtain ⟨hcount, hper, hen⟩ := s.timerReload_effect n
  have hkept : ∀ {f : RegField}, f.inBlock 10 → f.key ≠ (TMR_STAT_CMP_F n).key →
      (((s.timerReload n).compare n).raise (96 + n)).get f = (s.timerReload n).get f := fun hf hne =>
    (State.get_raise_tmr _ _ hf).trans (State.get_compare_ne _ hne)
  rw [State.timerTick_reload h]
  refine ⟨?_, ?_, State.event_raise _ _, fun hone => ?_⟩
  · rw [hkept (TMR_COUNT_COUNT_block n) (by simp only [RegField.key, TMR_COUNT_COUNT, TMR_STAT_CMP_F]; omega), hcount]
  · rw [hkept (TMR_STAT_PER_F_block n) (by simp only [RegField.key, TMR_STAT_PER_F, TMR_STAT_CMP_F]; omega), hper]
  · rw [State.on_congr (hkept (TMR_CTRL_EN_block n) (by simp only [RegField.key, TMR_CTRL_EN, TMR_STAT_CMP_F]; omega)), hen hone]

/-- R250: a tick short of PERIOD, and the compare that COUNT reaches with it. -/
theorem State.timerTick_count_effect {s : State} {n : Nat} (h : s.reloads n = false)
    (hroom : s.get (TMR_COUNT_COUNT n) + 1 < 2 ^ 32) :
    (s.timerTick n).get (TMR_COUNT_COUNT n) = s.get (TMR_COUNT_COUNT n) + 1 ∧
      (s.on (TMR_CTRL_CMP_EN n) = true → s.cmpDone n = false → s.get (TMR_CMP_CMP n) ≤ s.get (TMR_COUNT_COUNT n) + 1 →
        (s.timerTick n).get (TMR_STAT_CMP_F n) = 1 ∧ (s.timerTick n).cmpDone n = true ∧
          (s.timerTick n).event (96 + n) = true) := by
  have hcount : (s.timerCount n).get (TMR_COUNT_COUNT n) = s.get (TMR_COUNT_COUNT n) + 1 :=
    (s.get_put_self _ _).trans (Nat.mod_eq_of_lt hroom)
  rw [State.timerTick_count h]
  refine ⟨?_, fun hen hdone hreach => ?_⟩
  · rw [State.get_raiseIf_tmr _ _ _ (TMR_COUNT_COUNT_block n),
      State.get_compare_ne _ (by simp only [RegField.key, TMR_COUNT_COUNT, TMR_STAT_CMP_F]; omega), hcount]
  · have henKept : (s.timerCount n).on (TMR_CTRL_CMP_EN n) = true :=
      (State.on_congr (s.get_put_ne _ (by simp only [RegField.key, TMR_CTRL_CMP_EN, TMR_COUNT_COUNT]; omega))).trans hen
    have hcmpKept : (s.timerCount n).get (TMR_CMP_CMP n) = s.get (TMR_CMP_CMP n) :=
      s.get_put_ne _ (by simp only [RegField.key, TMR_CMP_CMP, TMR_COUNT_COUNT]; omega)
    have hdoneKept : (s.timerCount n).cmpDone n = false := hdone
    have hhits : (s.timerCount n).compareHits n = true := by
      rw [State.compareHits, henKept, hdoneKept, hcmpKept, hcount]
      simpa using hreach
    obtain ⟨hflag, hfired⟩ := (s.timerCount n).compareFire_effect n
    rw [hhits, State.compare, if_pos hhits]
    refine ⟨?_, ?_, State.event_raise _ _⟩
    · rw [State.get_raiseIf_tmr _ _ _ (TMR_STAT_CMP_F_block n), hflag]
    · rw [(State.raiseIf_evrButPulses _ _ _).cmpDone_eq, hfired]

/-! Start and stop (R253). -/

/-- A walk along a list ends with what the step at one of its members sets up, under an invariant, and the other steps keep. -/
theorem foldl_of_mem {σ α : Type} {g : σ → α → σ} {I P : σ → Prop} {x : α} {l : List α} (hinv : ∀ z y, I z → I (g z y))
    (hset : ∀ z, I z → P (g z x)) (hkeep : ∀ z y, y ∈ l → y ≠ x → P z → P (g z y)) {s : σ} (hI : I s) (h : P s ∨ x ∈ l) :
    P (l.foldl g s) := by
  induction l generalizing s with
  | nil => exact h.resolve_right List.not_mem_nil
  | cons y l ih =>
    refine ih (fun z w hw => hkeep z w (List.mem_cons_of_mem y hw)) (hinv s y hI) ?_
    by_cases hy : y = x
    · exact .inl (hy ▸ hset s hI)
    · exact h.imp (hkeep s y List.mem_cons_self hy) fun hmem => (List.mem_cons.mp hmem).resolve_left (Ne.symm hy)

theorem State.mem_timersOf {s : State} {m n : Nat} {c : Bool} :
    n ∈ s.timersOf m c ↔ n < 8 ∧ bit m n = true ∧ (c = true → bit (s.get TMR_OWNER_OWNER) n = true) := by
  cases c <;> simp [State.timersOf]

/-- Timer `n` runs, its COUNT at phase `p` and its compare armed. -/
def State.startedAt (t : State) (n p : Nat) : Prop :=
  t.on (TMR_CTRL_EN n) = true ∧ t.get (TMR_COUNT_COUNT n) = p % 2 ^ 32 ∧ t.cmpDone n = false

theorem State.timerStart_startedAt (s : State) (n : Nat) : (s.timerStart n).startedAt n (s.get (TMR_PHASE_PHASE n)) := by
  refine ⟨?_, State.get_put_self _ _ _, State.cmpDone_setCmpDone _ n false⟩
  rw [State.timerStart, State.on_setCmpDone,
    State.on_congr (State.get_put_ne _ _ (by simp only [RegField.key, TMR_CTRL_EN, TMR_COUNT_COUNT]; omega)),
    State.on_flag_bit _ true rfl]

theorem State.get_phase_timerStart (s : State) (k n : Nat) :
    (s.timerStart k).get (TMR_PHASE_PHASE n) = s.get (TMR_PHASE_PHASE n) := by
  have hen : (TMR_PHASE_PHASE n).key ≠ (TMR_CTRL_EN k).key := by simp only [RegField.key, TMR_PHASE_PHASE, TMR_CTRL_EN]; omega
  have hcount : (TMR_PHASE_PHASE n).key ≠ (TMR_COUNT_COUNT k).key := by
    simp only [RegField.key, TMR_PHASE_PHASE, TMR_COUNT_COUNT]; omega
  rw [State.timerStart, State.get_setCmpDone, State.get_put_ne _ _ hcount, State.get_flag_ne _ _ hen]

/-- Another timer's start leaves a started one as it is. -/
theorem State.startedAt_timerStart {s : State} {k n p : Nat} (hk : k < 8) (hn : n < 8) (hne : k ≠ n) (h : s.startedAt n p) :
    (s.timerStart k).startedAt n p := by
  have hkeys : (TMR_CTRL_EN n).key ≠ (TMR_CTRL_EN k).key ∧ (TMR_CTRL_EN n).key ≠ (TMR_COUNT_COUNT k).key ∧
      (TMR_COUNT_COUNT n).key ≠ (TMR_CTRL_EN k).key ∧ (TMR_COUNT_COUNT n).key ≠ (TMR_COUNT_COUNT k).key := by
    simp only [RegField.key, TMR_CTRL_EN, TMR_COUNT_COUNT]
    omega
  obtain ⟨henEn, henCount, hcountEn, hcountCount⟩ := hkeys
  obtain ⟨hen, hcount, hdone⟩ := h
  refine ⟨?_, ?_, bit_clearBit_of_bit k hdone⟩
  · rw [State.timerStart, State.on_setCmpDone, State.on_congr (State.get_put_ne _ _ henCount), State.on_flag_ne _ _ henEn, hen]
  · rw [State.timerStart, State.get_setCmpDone, State.get_put_ne _ _ hcountCount, State.get_flag_ne _ _ hcountEn, hcount]

theorem timerStart_starts (m : Fin 256) (c : Bool) (s : State) : completes (.timerStart m c) s fun t =>
    ∀ n : Fin 8, bit m n = true → (c = true → bit (s.get TMR_OWNER_OWNER) n = true) →
      t.startedAt n (s.get (TMR_PHASE_PHASE n)) := by
  refine completes_of_goOn rfl fun n hnamed hmay => ?_
  refine foldl_of_mem (I := fun z : State => z.get (TMR_PHASE_PHASE n) = s.get (TMR_PHASE_PHASE n))
    (P := fun z => z.startedAt n (s.get (TMR_PHASE_PHASE n))) (x := n.val) (fun z k hz => (z.get_phase_timerStart k n).trans hz)
    (fun z hz => hz ▸ z.timerStart_startedAt n) (fun z k hk hne hz => ?_) rfl
    (.inr (State.mem_timersOf.mpr ⟨n.isLt, hnamed, hmay⟩))
  exact State.startedAt_timerStart (State.mem_timersOf.mp hk).1 n.isLt hne hz

theorem State.get_en_timerStop {s : State} {k n : Nat} (hk : k < 8) (hn : n < 8) (hne : k ≠ n) :
    (s.timerStop k).get (TMR_CTRL_EN n) = s.get (TMR_CTRL_EN n) :=
  s.get_flag_ne false (by simp only [RegField.key, TMR_CTRL_EN]; omega)

theorem timerStop_stops (m : Fin 256) (c : Bool) (s : State) : completes (.timerStop m c) s fun t => ∀ n : Fin 8,
    (bit m n = true → (c = true → bit (s.get TMR_OWNER_OWNER) n = true) → t.on (TMR_CTRL_EN n) = false) ∧
      (bit m n = false ∨ (c = true ∧ bit (s.get TMR_OWNER_OWNER) n = false) →
        t.get (TMR_CTRL_EN n) = s.get (TMR_CTRL_EN n)) := by
  refine completes_of_goOn rfl fun n => ⟨fun hnamed hmay => ?_, fun hspared => ?_⟩
  · refine foldl_of_mem (I := fun _ => True) (P := fun z : State => z.on (TMR_CTRL_EN n) = false) (x := n.val)
      (fun _ _ _ => trivial) (fun z _ => z.on_flag_bit false rfl) (fun z k hk hne hz => ?_) trivial
      (.inr (State.mem_timersOf.mpr ⟨n.isLt, hnamed, hmay⟩))
    rw [State.on_congr (State.get_en_timerStop (State.mem_timersOf.mp hk).1 n.isLt hne), hz]
  · refine List.foldlRecOn _ _ (motive := fun z : State => z.get (TMR_CTRL_EN n) = s.get (TMR_CTRL_EN n)) rfl fun z hz k hk => ?_
    obtain ⟨hlt, hnamed, hmay⟩ := State.mem_timersOf.mp hk
    have hne : k ≠ n := by
      rintro rfl
      rcases hspared with hspared | ⟨hc, hspared⟩
      · simp [hspared] at hnamed
      · simp [hspared, hc] at hmay
    rw [State.get_en_timerStop hlt n.isLt hne, hz]

/-! Compare writes (R252, R255). -/

theorem State.get_cmpArm (s : State) (n : Nat) {f : RegField} (hf : f.inBlock 10) : (s.cmpArm n).get f = s.get f :=
  (s.cmpArm_moves n).get_eq hf (by decide) rfl

theorem State.cmpDone_cmpArm (s : State) (n : Nat) : (s.cmpArm n).cmpDone n = false := by
  unfold State.cmpArm
  dsimp only
  split
  · exact s.cmpDone_setCmpDone n false
  · exact s.cmpDone_setCmpDone n false

theorem State.cmpDue_cmpArm {s : State} {n : Nat} (hen : s.on (TMR_CTRL_CMP_EN n) = true)
    (hreach : s.get (TMR_CMP_CMP n) ≤ s.get (TMR_COUNT_COUNT n)) : bit (s.cmpArm n).evr.cmpDue n = true := by
  unfold State.cmpArm
  dsimp only
  rw [if_pos ⟨hen, hreach⟩]
  exact bit_setBit _ n

theorem cmpWrite_stores {n : Fin 8} (v : Word) {c : Bool} {s : State}
    (hmay : c = false ∨ bit (s.get TMR_OWNER_OWNER) n = true) : completes (.cmpWrite n v c) s fun t => t.get (TMR_CMP_CMP n) = v.toNat ∧ t.cmpDone n = false ∧
      (s.on (TMR_CTRL_CMP_EN n) = true → v.toNat ≤ s.get (TMR_COUNT_COUNT n) → bit t.evr.cmpDue n = true) := by
  have hexec : execCmpWrite n v c s = goOn ((s.put (TMR_CMP_CMP n) v.toNat).cmpArm n) :=
    if_neg fun ⟨hc, hother⟩ => by rcases hmay with hmay | hmay <;> simp [hmay] at hc hother
  have hcmp : (s.put (TMR_CMP_CMP n) v.toNat).get (TMR_CMP_CMP n) = v.toNat :=
    (s.get_put_self _ _).trans (Nat.mod_eq_of_lt v.isLt)
  refine completes_of_goOn hexec ⟨?_, State.cmpDone_cmpArm _ _, fun hen hreach => State.cmpDue_cmpArm ?_ ?_⟩
  · rw [State.get_cmpArm _ _ (TMR_CMP_CMP_block n), hcmp]
  · rw [State.on_congr (s.get_put_ne _ (by simp only [RegField.key, TMR_CTRL_CMP_EN, TMR_CMP_CMP]; omega)), hen]
  · rwa [hcmp, s.get_put_ne _ (by simp only [RegField.key, TMR_COUNT_COUNT, TMR_CMP_CMP]; omega)]

/-- R267: core 1 writes no other timer's compare. -/
theorem cmpWrite_ignored {n : Fin 8} (v : Word) {s : State} (hother : bit (s.get TMR_OWNER_OWNER) n = false) :
    exec (.cmpWrite n v true) s = .next s := if_pos ⟨rfl, by simp [hother]⟩

/-- R252, R255; that a due compare fires whatever EN is, is the model's choice (log entry 42). -/
theorem compareImmediateFire_fires {n : Fin 8} {s : State} (hdue : bit s.evr.cmpDue n = true)
    (hfree : s.timerFrozen n = false) (hpower : s.timerPowered n = true) :
    completes (.compareImmediateFire n) s fun t => t.get (TMR_STAT_CMP_F n) = 1 ∧ t.cmpDone n = true ∧
      bit t.evr.cmpDue n = false ∧ t.event (96 + n) = true := by
  have hexec : execCompareImmediateFire n s = goOn ((s.compareFire n).raise (96 + n)) :=
    if_pos ⟨hdue, by simp [hfree], hpower⟩
  obtain ⟨hflag, hdone⟩ := s.compareFire_effect n
  refine completes_of_goOn hexec ⟨?_, ?_, ?_, State.event_raise _ _⟩
  · rw [State.get_raise_tmr _ _ (TMR_STAT_CMP_F_block n), hflag]
  · rw [(State.raise_evrButPulses _ _).cmpDone_eq, hdone]
  · rw [(State.raise_evrButPulses _ _).cmpDue_eq]
    exact bit_clearBit _ n

/-- Settles O23: the two commands that tick a timer share the effect of a reload; a walk over the named timers starts and stops
them. That the immediate compare asks nothing of EN, and that a reload command is the tick of a running timer at its top, is the
model's choice (log entry 42). -/
theorem timersCountReloadCompareStartAndStop : Obligations.TimersCountReloadCompareStartAndStop := by
  unfold Obligations.TimersCountReloadCompareStartAndStop
  exact ⟨fun _ _ hcounts hreload => completes_of_goOn (if_pos hcounts) (State.timerTick_reload_effect hreload),
    fun _ _ hcounts hreload => completes_of_goOn (if_pos ⟨hcounts, hreload⟩) (State.timerTick_reload_effect hreload),
    fun _ _ hcounts hshort hroom => completes_of_goOn (if_pos hcounts) (State.timerTick_count_effect hshort hroom),
    timerStart_starts, timerStop_stops, fun _ v _ _ hmay => cmpWrite_stores v hmay, fun _ v _ hother => cmpWrite_ignored v hother,
    fun _ _ hdue hfree hpower => compareImmediateFire_fires hdue hfree hpower, fun _ => completes_of_goOn rfl ⟨rfl, rfl⟩⟩

end Sys2Proof.Machine

/-! ## What the tasks of a channel keep -/
namespace Sys2Proof.Machine

/-- A field of a channel's own registers. -/
def RegField.ofChannel (f : RegField) : Prop := f.inBlock 11 ∧ 0x400B0100 * 32 ≤ f.key

theorem RegField.ofChannel.ne_status {f : RegField} (h : f.ofChannel) (i : Nat) : f.key ≠ (EVR_ESTAT_STAT i).key := by
  have hlo := h.2
  simp only [RegField.key, EVR_ESTAT_STAT] at hlo ⊢
  omega

theorem RegField.ofChannel.offWake {f : RegField} (h : f.ofChannel) : f.offWake := by
  have hlo := h.2
  unfold RegField.offWake
  simp only [RegField.key, PRC_PWRSTAT_PENDING, PRC_PWRSTAT_RESULT, PRC_WAKESRC_SRC] at hlo ⊢
  omega

/-- From `s` to `t` the rate windows and the registers of the channels stay, no reset request is lost, and backup RAM that is
zeroised stays so. -/
structure ForkKept (s t : State) : Prop where
  passed : t.evr.passed = s.evr.passed
  get : ∀ f : RegField, f.ofChannel → t.get f = s.get f
  requests : ∀ code, s.power.resetReq.contains code = true → t.power.resetReq.contains code = true
  erased : (∀ k : Fin 64, s.byte (backupRam + k) = 0) → ∀ k : Fin 64, t.byte (backupRam + k) = 0

theorem ForkKept.refl (s : State) : ForkKept s s := ⟨rfl, fun _ _ => rfl, fun _ h => h, fun h => h⟩

theorem ForkKept.trans {r s t : State} (h : ForkKept r s) (g : ForkKept s t) : ForkKept r t :=
  ⟨g.passed.trans h.passed, fun f hf => (g.get f hf).trans (h.get f hf), fun _ hc => g.requests _ (h.requests _ hc),
    fun hz => g.erased (h.erased hz)⟩

theorem ForkKept.ite {s t : State} {c : Prop} [Decidable c] (h : ForkKept s t) : ForkKept s (if c then t else s) := by
  split
  · exact h
  · exact refl s

theorem ForkKept.foldl {α : Type} {g : State → α → State} (hg : ∀ s x, ForkKept s (g s x)) (l : List α) (s : State) :
    ForkKept s (l.foldl g s) := by
  induction l generalizing s with
  | nil => exact refl s
  | cons x l ih => exact (hg s x).trans (ih _)

/-- An operation that changes neither memory nor the power controller nor the router's registers nor the rate windows. -/
theorem Moves.forkKept_of_passed {m : Nat} {s t : State} (h : Moves m s t) (hpassed : t.evr.passed = s.evr.passed)
    (hmem : m.testBit 2 = false) (hpower : m.testBit 5 = false) (hregs : m.testBit 38 = false) : ForkKept s t := by
  refine ⟨hpassed, fun f hf => h.get_eq hf.1 (by decide) hregs, fun code hc => ?_, fun hz k => ?_⟩
  · rwa [h.1 .power hpower]
  · rw [h.1 .mem hmem, hz]

theorem Moves.forkKept {m : Nat} {s t : State} (h : Moves m s t) (hevr : m.testBit 12 = false) (hmem : m.testBit 2 = false)
    (hpower : m.testBit 5 = false) (hregs : m.testBit 38 = false) : ForkKept s t :=
  h.forkKept_of_passed (congrArg Evr.passed (h.1 .evr hevr)) hmem hpower hregs

/-! Wake conditions, reset requests and events. -/

theorem State.wakeRequest_resetReq (s : State) (n : Nat) : (s.wakeRequest n).power.resetReq = s.power.resetReq := by
  unfold State.wakeRequest
  split
  · rfl
  split
  · rfl
  split
  · dsimp only
    split <;> rfl
  · rfl

theorem State.wakeRequest_forkKept (s : State) (n : Nat) : ForkKept s (s.wakeRequest n) := by
  have hmoves := s.wakeRequest_moves n
  refine ⟨congrArg Evr.passed (hmoves.1 .evr rfl), fun f hf => s.get_wakeRequest n hf.offWake, fun code hc => ?_, fun hz k => ?_⟩
  · rwa [State.wakeRequest_resetReq]
  · rw [hmoves.1 .mem rfl, hz]

theorem State.requestReset_forkKept (s : State) (code : Nat) : ForkKept s (s.requestReset code) := by
  refine ⟨congrArg Evr.passed (s.requestReset_evr code), fun f _ => State.get_congr (s.requestReset_fields code) f,
    fun other hc => ?_, fun hz k => by rw [State.byte_requestReset, hz]⟩
  unfold State.requestReset
  split
  · exact hc
  · rw [List.contains_iff_mem] at hc ⊢
    exact List.mem_append_left _ hc

theorem State.raise_resetReq (s : State) (n : Nat) : (s.raise n).power.resetReq = s.power.resetReq := by
  unfold State.raise
  extract_lets sticky core0 core1 lines woken
  have hwoken : woken.power.resetReq = s.power.resetReq := by
    unfold woken
    split
    · exact State.wakeRequest_resetReq _ _
    · rfl
  split
  · rw [(foldl_moves (m := 4096) Moves.refl fun z c hz => ite_moves (hz.trans (z.pulse_moves c _)) hz).1 .power rfl, hwoken]
  · exact hwoken

theorem State.raise_forkKept (s : State) (n : Nat) : ForkKept s (s.raise n) := by
  refine ⟨(s.raise_evrButPulses n).passed_eq, fun f hf => ?_, fun code hc => ?_, fun hz k => ?_⟩
  · rw [s.get_raise n hf.offWake, State.get_put_ne _ _ (hf.ne_status _)]
  · rwa [State.raise_resetReq]
  · rw [(s.raise_moves n).1 .mem rfl, hz]

/-! The tasks (R259). -/

theorem State.timerTasks_passed (s : State) (m n : Nat) : (s.timerTasks m n).evr.passed = s.evr.passed := by
  unfold State.timerTasks
  extract_lets captured cleared
  have hcaptured : captured.evr = s.evr := by
    unfold captured
    split <;> rfl
  have hcleared : cleared.evr.passed = s.evr.passed := by
    rw [← hcaptured]
    unfold cleared
    split <;> rfl
  rw [← hcleared]
  split
  · rfl
  · split <;> rfl

theorem State.bkpErase_forkKept (s : State) : ForkKept s s.bkpErase :=
  ⟨rfl, fun _ hf => s.bkpErase_moves.get_eq hf.1 (by decide) rfl, fun _ h => h, fun _ => s.bkpErase_effect.2⟩

theorem State.lock_forkKept (s : State) (p : Path) : ForkKept s (s.lock p) := by
  unfold State.lock
  dsimp only
  split
  · exact ((s.calibrated_moves p).forkKept rfl rfl rfl rfl).trans (State.raise_forkKept _ 17)
  · exact s.raise_forkKept 17

theorem State.tuneHalf_forkKept (s : State) (h : Nat) (c : Int) : ForkKept s (s.tuneHalf h c) := by
  unfold State.tuneHalf
  extract_lets f p centre tuned path marked
  have htuned : Moves 268435456 s tuned := by
    refine Moves.put (b := 1) Moves.refl ?_ rfl
    unfold f
    split <;> rfl
  have hmarked : ForkKept tuned marked := by
    unfold marked
    split
    · exact ForkKept.refl tuned
    · exact (tuned.setPath_moves _ _).forkKept rfl rfl rfl rfl
  split
  · exact ForkKept.refl s
  · exact (htuned.forkKept rfl rfl rfl rfl).trans (hmarked.trans (marked.lock_forkKept p))

theorem State.scanStep_forkKept (s : State) (k : Nat) : ForkKept s (s.scanStep k) := by
  rw [State.scanStep_eq]
  refine ForkKept.trans ?_ ((State.retune_moves _ _).forkKept rfl rfl rfl rfl)
  refine ForkKept.trans ?_ (State.tuneHalf_forkKept _ _ _)
  exact ((s.with_mac_moves _).forkKept rfl rfl rfl rfl).trans ((State.restFrom_moves _ _ _).forkKept rfl rfl rfl rfl)

theorem State.enterScan_forkKept (s : State) : ForkKept s s.enterScan := by
  have hsync : Moves 4294967552 s ((({ s with mac := { s.mac with pollWanted := false } } : State).put MAC_STATUS_SYNC
      syncScan).flag MAC_STATUS_POLL_EXT false) :=
    (((s.with_mac_moves _).mono rfl).put MAC_STATUS_SYNC_block rfl).flag MAC_STATUS_POLL_EXT_block rfl
  unfold State.enterScan
  exact (hsync.forkKept rfl rfl rfl rfl).trans ((State.raise_forkKept _ 61).trans (State.scanStep_forkKept _ 0))

theorem State.stopCommand_forkKept (s : State) (ok : Bool) :
    ForkKept s (s.programCommand ok fun z => z.flag SLE_STATUS_STOP_PEND true) := by
  have hmoves : Moves 2147483648 s (s.programCommand ok fun z => z.flag SLE_STATUS_STOP_PEND true) :=
    State.programCommand_moves rfl Moves.refl fun _ ht => ht.flag SLE_STATUS_STOP_PEND_block rfl
  exact hmoves.forkKept rfl rfl rfl rfl

/-- R259: what the tasks of a mask keep, and what T33 and T35 do among them. -/
theorem State.runTasks_effect (s : State) (m : Nat) : ForkKept s (s.runTasks m) ∧
    (bit m 33 = true → ∀ k : Fin 64, (s.runTasks m).byte (backupRam + k) = 0) ∧
      (bit m 35 = true → (s.runTasks m).power.resetReq.contains 0x06 = true) := by
  unfold State.runTasks
  extract_lets timed rtc held erased woken asked driven polled scanned
  have htimed : ForkKept s timed := ForkKept.foldl (fun z n =>
    (z.timerTasks_moves m n).forkKept_of_passed (z.timerTasks_passed m n) rfl rfl rfl) _ s
  have hheld : ForkKept timed held := by
    unfold held
    split
    · exact (timed.setRtc_moves _).forkKept rfl rfl rfl rfl
    · exact ForkKept.refl timed
  have herased : ForkKept held erased := held.bkpErase_forkKept.ite
  have hwoken : ForkKept erased woken := (erased.wakeRequest_forkKept 7).ite
  have hasked : ForkKept woken asked := (woken.requestReset_forkKept 0x06).ite
  have hdriven : ForkKept asked driven := (asked.gpoTasks_moves m).forkKept rfl rfl rfl rfl
  have hpolled : ForkKept driven polled := (driven.wantPoll_moves.forkKept rfl rfl rfl rfl).ite
  have hscanned : ForkKept polled scanned := polled.enterScan_forkKept.ite
  have hstopped := (scanned.stopCommand_forkKept scanned.running).ite (c := bit m 46)
  have hrest := hdriven.trans (hpolled.trans (hscanned.trans hstopped))
  refine ⟨htimed.trans (hheld.trans (herased.trans (hwoken.trans (hasked.trans hrest)))), fun h33 => ?_, fun h35 => ?_⟩
  · refine (hwoken.trans (hasked.trans hrest)).erased ?_
    unfold erased
    rw [if_pos h33]
    exact held.bkpErase_effect.2
  · refine hrest.requests 0x06 ?_
    unfold asked
    rw [if_pos h35]
    exact woken.requestReset_contains 0x06

end Sys2Proof.Machine

/-! ## The event router -/
namespace Sys2Proof.Machine

/-! A pulse that meets the limiter (R257, R259, R261, R264). -/

/-- The pulse of channel `c` has been taken up. -/
def State.pulseTaken (s : State) (c : Nat) : State := s.setEvr { s.evr with pulses := s.evr.pulses.erase c }

/-- A pulse that has passed counts in the rate window. -/
def State.countPulse (s : State) (c : Nat) : State :=
  s.setEvr { s.evr with passed := Sparse.write 0 s.evr.passed c (Sparse.read 0 s.evr.passed c + 1) }

/-- A pulse of TNET `at_` on channel `c` is counted, and stamped where STAMP is set. -/
def State.passPulse (s : State) (c at_ : Nat) : State :=
  if (s.countPulse c).on (EVR_CFG_STAMP c) then (s.countPulse c).stamp c at_ else s.countPulse c

theorem execChannelPulse_passes {c : Fin 32} {at_ : Nat} {s : State} (hpulse : Sparse.read none s.evr.pulses c = some at_)
    (hpass : s.ratePasses c = true) : execChannelPulse c s =
      goOn (((s.pulseTaken c).passPulse c at_).runTasks (((s.pulseTaken c).passPulse c at_).chanTasks c)) := by
  have hpassed : (s.pulseTaken c).ratePasses c = true := hpass
  unfold State.pulseTaken at hpassed
  unfold execChannelPulse
  simp only [hpulse, hpassed, Bool.not_true, Bool.false_eq_true, if_false]
  rfl

theorem State.passed_countPulse (s : State) (c : Nat) :
    Sparse.read 0 (s.countPulse c).evr.passed c = Sparse.read 0 s.evr.passed c + 1 :=
  (Sparse.read_write 0 s.evr.passed c c (Sparse.read 0 s.evr.passed c + 1)).trans (if_pos rfl)

theorem State.passPulse_passed (s : State) (c at_ : Nat) : (s.passPulse c at_).evr.passed = (s.countPulse c).evr.passed := by
  unfold State.passPulse
  split <;> rfl

theorem State.passPulse_power (s : State) (c at_ : Nat) : (s.passPulse c at_).power = s.power := by
  unfold State.passPulse
  split <;> rfl

/-- The stamp writes TS_L and TS_VALID of the channel. -/
theorem State.get_passPulse_ne (s : State) {c : Nat} (at_ : Nat) {f : RegField} (hlow : f.key ≠ (EVR_TSL_TS_L c).key)
    (hvalid : f.key ≠ (EVR_STAT_TS_VALID c).key) : (s.passPulse c at_).get f = s.get f := by
  unfold State.passPulse
  split
  · rw [State.stamp, State.get_setEvr, State.get_flag_ne _ _ hvalid, State.get_put_ne _ _ hlow]
    rfl
  · rfl

theorem State.passPulse_stamps {s : State} {c : Nat} (at_ : Nat) (hstamp : s.on (EVR_CFG_STAMP c) = true)
    (hruns : s.power.tnetRuns = true) : (s.passPulse c at_).get (EVR_TSL_TS_L c) = at_ % 2 ^ 32 ∧
      (s.passPulse c at_).get (EVR_STAT_TS_VALID c) = 1 := by
  have hcounted : (s.countPulse c).on (EVR_CFG_STAMP c) = true := hstamp
  have hcountedRuns : (s.countPulse c).power.tnetRuns = true := hruns
  have hkey : (EVR_TSL_TS_L c).key ≠ (EVR_STAT_TS_VALID c).key := by
    simp only [RegField.key, EVR_TSL_TS_L, EVR_STAT_TS_VALID]
    omega
  rw [State.passPulse, if_pos hcounted]
  simp only [State.stamp, hcountedRuns, if_true, State.get_setEvr]
  refine ⟨?_, State.get_flag_bit _ true rfl⟩
  rw [State.get_flag_ne _ _ hkey, State.get_put_self]
  rfl

theorem State.chanTasks_passPulse (s : State) (c at_ : Nat) : (s.passPulse c at_).chanTasks c = s.chanTasks c := by
  have hkeys : ∀ f ∈ [EVR_TM0_MASK c, EVR_TM1_MASK c, EVR_TM2_MASK c],
      f.key ≠ (EVR_TSL_TS_L c).key ∧ f.key ≠ (EVR_STAT_TS_VALID c).key := by
    simp only [List.forall_mem_cons, List.not_mem_nil, RegField.key, EVR_TM0_MASK, EVR_TM1_MASK, EVR_TM2_MASK, EVR_TSL_TS_L,
      EVR_STAT_TS_VALID, false_imp_iff, implies_true, and_true]
    omega
  have hkept : ∀ f ∈ [EVR_TM0_MASK c, EVR_TM1_MASK c, EVR_TM2_MASK c], (s.passPulse c at_).get f = s.get f := fun f hf =>
    s.get_passPulse_ne at_ (hkeys f hf).1 (hkeys f hf).2
  unfold State.chanTasks
  rw [hkept _ (by simp), hkept _ (by simp), hkept _ (by simp), State.passPulse_power]

theorem EVR_TSL_TS_L_ofChannel (c : Nat) : (EVR_TSL_TS_L c).ofChannel :=
  ⟨EVR_TSL_TS_L_block c, by simp only [RegField.key, EVR_TSL_TS_L]; omega⟩

theorem EVR_STAT_TS_VALID_ofChannel (c : Nat) : (EVR_STAT_TS_VALID c).ofChannel :=
  ⟨EVR_STAT_TS_VALID_block c, by simp only [RegField.key, EVR_STAT_TS_VALID]; omega⟩

theorem channelPulse_passes {c : Fin 32} {at_ : Nat} {s : State} (hpulse : Sparse.read none s.evr.pulses c = some at_)
    (hpass : s.ratePasses c = true) : completes (.channelPulse c) s fun t =>
      Sparse.read 0 t.evr.passed c = Sparse.read 0 s.evr.passed c + 1 ∧
        (s.on (EVR_CFG_STAMP c) = true → s.power.tnetRuns = true → t.get (EVR_TSL_TS_L c) = at_ % 2 ^ 32 ∧
          t.get (EVR_STAT_TS_VALID c) = 1) ∧
        (bit (s.chanTasks c) 33 = true → ∀ k : Fin 64, t.byte (backupRam + k) = 0) ∧
        (bit (s.chanTasks c) 35 = true → t.power.resetReq.contains 0x06 = true) := by
  have htasks : ((s.pulseTaken c).passPulse c at_).chanTasks c = s.chanTasks c := State.chanTasks_passPulse _ c at_
  have hexec := execChannelPulse_passes hpulse hpass
  rw [htasks] at hexec
  obtain ⟨hkept, herases, hasks⟩ := ((s.pulseTaken c).passPulse c at_).runTasks_effect (s.chanTasks c)
  refine completes_of_goOn hexec ⟨?_, fun hstamp hruns => ?_, herases, hasks⟩
  · rw [hkept.passed, State.passPulse_passed]
    exact State.passed_countPulse _ c
  · rw [hkept.get _ (EVR_TSL_TS_L_ofChannel c), hkept.get _ (EVR_STAT_TS_VALID_ofChannel c)]
    exact State.passPulse_stamps (s := s.pulseTaken c) at_ hstamp hruns

/-- R261: a pulse beyond the limit of its window. -/
theorem channelPulse_dropped {c : Fin 32} {at_ : Nat} {s : State} (hpulse : Sparse.read none s.evr.pulses c = some at_)
    (hstop : s.ratePasses c = false) : completes (.channelPulse c) s fun t =>
      t.get (EVR_STAT_DROPPED c) = satInc 16 (s.get (EVR_STAT_DROPPED c)) ∧ Sparse.read none t.evr.pulses c = none ∧
        t.get (EVR_TSL_TS_L c) = s.get (EVR_TSL_TS_L c) := by
  have hstopped : (s.pulseTaken c).ratePasses c = false := hstop
  unfold State.pulseTaken at hstopped
  have hexec : execChannelPulse c s = goOn ((s.pulseTaken c).bump (EVR_STAT_DROPPED c)) := by
    unfold execChannelPulse
    simp only [hpulse, hstopped, Bool.not_false, if_true]
    rfl
  have hkey : (EVR_TSL_TS_L c).key ≠ (EVR_STAT_DROPPED c).key := by
    simp only [RegField.key, EVR_TSL_TS_L, EVR_STAT_DROPPED]
    omega
  exact completes_of_goOn hexec ⟨State.get_bump_self _ _, Sparse.read_erase_self _ _ _,
    (s.pulseTaken c).get_bump_ne hkey⟩

/-! Pulses on their way (R257, R260, R262, R268). -/

theorem State.chanLive_congr {s t : State} {c : Nat} (hen : t.get (EVR_CFG_EN c) = s.get (EVR_CFG_EN c))
    (hpower : t.power = s.power) : t.chanLive c = s.chanLive c := by
  unfold State.chanLive
  rw [State.on_congr hen, hpower]

theorem State.chanLive_pulse (s : State) (k at_ c : Nat) : (s.pulse k at_).chanLive c = s.chanLive c :=
  State.chanLive_congr (State.get_congr (s.pulse_fields k at_) _) ((s.pulse_moves k at_).1 .power rfl)

/-- A live channel takes a pulse where none is on its way. -/
theorem State.pulses_pulse_self {s : State} {c : Nat} (at_ : Nat) (hlive : s.chanLive c = true)
    (hnone : Sparse.read none s.evr.pulses c = none) : Sparse.read none (s.pulse c at_).evr.pulses c = some at_ := by
  rw [State.pulse, if_pos ⟨hlive, hnone⟩]
  exact (Sparse.read_write none s.evr.pulses c c (some at_)).trans (if_pos rfl)

theorem State.pulses_pulse_isSome {s : State} {c : Nat} (at_ : Nat) (hlive : s.chanLive c = true) :
    (Sparse.read none (s.pulse c at_).evr.pulses c).isSome = true := by
  by_cases hnone : Sparse.read none s.evr.pulses c = none
  · rw [State.pulses_pulse_self at_ hlive hnone]
    rfl
  · rw [State.pulse, if_neg fun h => hnone h.2]
    exact Option.isSome_iff_ne_none.mpr hnone

theorem State.pulses_pulse_ne (s : State) {k c : Nat} (at_ : Nat) (hne : k ≠ c) :
    Sparse.read none (s.pulse k at_).evr.pulses c = Sparse.read none s.evr.pulses c := by
  unfold State.pulse
  split
  · exact Sparse.read_write_ne none none s.evr.pulses k c (some at_) (Ne.symm hne)
  · rfl

/-- The channels that EVR_FIRE names, and those among them that the writer may fire (R260). -/
def firedNamed (v : Word) : List Nat := (List.range 32).filter fun c => bit v.toNat c

def State.firedMay (s : State) (v : Word) (core1 : Bool) : List Nat :=
  (firedNamed v).filter fun c => !core1 || s.get (EVR_CFG_OWNER c) == 1

theorem mem_firedNamed {v : Word} {c : Fin 32} (h : bit v.toNat c = true) : c.val ∈ firedNamed v :=
  List.mem_filter.mpr ⟨List.mem_range.mpr c.isLt, h⟩

/-- The channels `l` get a pulse each. -/
def State.pulseAll (s : State) (l : List Nat) : State := l.foldl (fun (s : State) c => s.pulse c s.tnet) s

theorem execEvrFire_eq (v : Word) (core1 : Bool) (s : State) : execEvrFire v core1 s = goOn
    ((s.flag EVR_STATUS_ACC_REJ ((s.firedMay v core1).length != (firedNamed v).length)).pulseAll (s.firedMay v core1)) := rfl

theorem State.get_pulseAll (s : State) (l : List Nat) (f : RegField) : (s.pulseAll l).get f = s.get f :=
  foldl_get (fun z c => State.get_congr (z.pulse_fields c _) f) s

theorem evrFire_core0 (v : Word) (s : State) : completes (.evrFire v false) s fun t => t.get EVR_STATUS_ACC_REJ = 0 ∧
    ∀ c : Fin 32, bit v.toNat c = true → s.chanLive c = true → (Sparse.read none t.evr.pulses c).isSome = true := by
  have hall : s.firedMay v false = firedNamed v := List.filter_eq_self.mpr fun _ _ => rfl
  refine completes_of_goOn (execEvrFire_eq v false s) ⟨?_, fun c hnamed hlive => ?_⟩
  · rw [State.get_pulseAll, hall, bne_self_eq_false]
    exact s.get_flag_bit false rfl
  · refine foldl_of_mem (I := fun z : State => z.chanLive c = true) (P := fun z => (Sparse.read none z.evr.pulses c).isSome = true)
      (x := c.val) (fun z k hz => (z.chanLive_pulse k _ c).trans hz) (fun z hz => State.pulses_pulse_isSome _ hz)
      (fun z k _ hne hz => by rwa [State.pulses_pulse_ne z _ hne]) ?_ (.inr (hall ▸ mem_firedNamed hnamed))
    exact (State.chanLive_congr (s.get_flag_ne _ (by simp only [RegField.key, EVR_CFG_EN, EVR_STATUS_ACC_REJ]; omega))
      rfl).trans hlive

/-- R260: core 1 fires no channel of another owner. -/
theorem evrFire_rejected {v : Word} {c : Fin 32} {s : State} (hnamed : bit v.toNat c = true)
    (howner : s.get (EVR_CFG_OWNER c) ≠ 1) (hnone : Sparse.read none s.evr.pulses c = none) : completes (.evrFire v true) s fun t =>
      t.get EVR_STATUS_ACC_REJ = 1 ∧ Sparse.read none t.evr.pulses c = none := by
  have hfewer : (s.firedMay v true).length < (firedNamed v).length :=
    List.length_filter_lt_length_iff_exists.mpr ⟨c.val, mem_firedNamed hnamed, by simpa using howner⟩
  refine completes_of_goOn (execEvrFire_eq v true s) ⟨?_, ?_⟩
  · rw [State.get_pulseAll, bne_iff_ne.mpr hfewer.ne]
    exact s.get_flag_bit true rfl
  · refine List.foldlRecOn _ _ (motive := fun z : State => Sparse.read none z.evr.pulses c = none) hnone fun z hz k hk => ?_
    have hne : k ≠ c.val := by
      rintro rfl
      have hown := (List.mem_filter.mp hk).2
      exact howner (by simpa using hown)
    rw [State.pulses_pulse_ne z _ hne, hz]

theorem softwareEvent_raises (v : Word) (s : State) : completes (.softwareEvent v) s fun t =>
    ∀ k : Fin 4, bit v.toNat k = true → t.event (124 + k) = true := by
  refine completes_of_goOn rfl fun k hnamed => ?_
  exact foldl_of_mem (I := fun _ => True) (P := fun z : State => z.event (124 + k) = true) (x := k.val) (fun _ _ _ => trivial)
    (fun z _ => z.event_raise _) (fun z _ _ _ hz => z.event_raise_of_event _ hz) trivial
    (.inr (List.mem_filter.mpr ⟨List.mem_range.mpr k.isLt, hnamed⟩))

/-- R262, R264: an accepted edge that EDGE selects. -/
theorem pinEdge_fires {c : Fin 32} {high : Bool} (age : Nat) {s : State} (htaken : s.pinTaken c = true)
    (hedge : s.on (EVR_STAT_LEVEL c) ≠ high) (hfree : s.on (EVR_STAT_STUCK c) = false)
    (hselected : if high then s.get (EVR_CFG_EDGE c) ≠ 1 else s.get (EVR_CFG_EDGE c) ≠ 0) (hlive : s.chanLive c = true)
    (hnone : Sparse.read none s.evr.pulses c = none) : completes (.pinEdge c high age) s fun t =>
      t.on (EVR_STAT_LEVEL c) = high ∧ Sparse.read none t.evr.pulses c = some (s.tnet - age) := by
  have hstuck : (s.flag (EVR_STAT_LEVEL c) high).on (EVR_STAT_STUCK c) = false :=
    (s.on_flag_ne high (by simp only [RegField.key, EVR_STAT_STUCK, EVR_STAT_LEVEL]; omega)).trans hfree
  have hexec : execPinEdge c high age s = goOn ((s.flag (EVR_STAT_LEVEL c) high).pulse c (s.tnet - age)) := by
    unfold execPinEdge
    dsimp only
    rw [if_neg (by simp [htaken, hedge]), if_neg]
    · rfl
    · rw [hstuck]
      cases high <;> simpa using hselected
  refine completes_of_goOn hexec ⟨?_, State.pulses_pulse_self _ ?_ hnone⟩
  · rw [State.on_congr (State.get_congr (State.pulse_fields _ _ _) _), State.on_flag_bit _ high rfl]
  · exact (State.chanLive_congr (s.get_flag_ne high (by simp only [RegField.key, EVR_CFG_EN, EVR_STAT_LEVEL]; omega)) rfl).trans
      hlive

/-! The stuck monitor (R263). -/

theorem State.setStuck_effect (s : State) (c : Fin 32) (b : Bool) : (s.setStuck c b).get (EVR_STAT_STUCK c) = ofBool b ∧
    bit ((s.setStuck c b).get EVR_STUCKSUM_STUCK) c = b := by
  have hkey : (EVR_STAT_STUCK c).key ≠ EVR_STUCKSUM_STUCK.key := by
    simp only [RegField.key, EVR_STAT_STUCK, EVR_STUCKSUM_STUCK]
    omega
  have hwidth : ∀ v, bit (v % 2 ^ EVR_STUCKSUM_STUCK.width) c = bit v c := fun v => bit_mod_two_pow c.isLt
  unfold State.setStuck
  refine ⟨?_, ?_⟩
  · rw [State.get_put_ne _ _ hkey, State.get_flag_bit _ b rfl]
  · rw [State.get_put_self, hwidth]
    cases b
    · exact bit_clearBit _ c
    · exact bit_setBit _ c

theorem stuckDetect_sets {c : Fin 32} {s : State} (hset : s.get (EVR_COND_STUCK_T c) ≠ 0) (htaken : s.pinTaken c = true)
    (hhigh : s.on (EVR_STAT_LEVEL c) = true) (hedge : s.get (EVR_CFG_EDGE c) ≠ 1) : completes (.stuckDetect c) s fun t =>
      t.get (EVR_STAT_STUCK c) = 1 ∧ bit (t.get EVR_STUCKSUM_STUCK) c = true :=
  completes_of_goOn (if_neg (by simp [hset, htaken, hhigh, hedge])) (s.setStuck_effect c true)

/-! Stamps (R264). -/

theorem stampRead_latches (c : Fin 32) (s : State) : completes (.stampRead c) s fun t =>
    t.host.readData = s.get (EVR_TSL_TS_L c) ∧ t.get (EVR_TSH_TS_H c) = Sparse.read 0 s.evr.stampHigh c % 2 ^ 32 :=
  completes_of_goOn rfl ⟨s.get_put_ne _ (by simp only [RegField.key, EVR_TSL_TS_L, EVR_TSH_TS_H]; omega),
    s.get_put_self (EVR_TSH_TS_H c) _⟩

/-- Settles O24: each clause is the effect of one command; a pulse that passes keeps its count and its stamp through whatever its
tasks do. That a channel's pulses which meet make one, and that an edge carries its age, is the model's choice (log entry 43). -/
theorem routerChannelsPinsAndStamps : Obligations.RouterChannelsPinsAndStamps := by
  unfold Obligations.RouterChannelsPinsAndStamps
  exact ⟨fun _ _ _ hpulse hpass => channelPulse_passes hpulse hpass, fun _ _ _ hpulse hstop => channelPulse_dropped hpulse hstop,
    evrFire_core0, fun _ _ _ hnamed howner hnone => evrFire_rejected hnamed howner hnone, softwareEvent_raises,
    fun _ _ age _ htaken hedge hfree hselected hlive hnone => pinEdge_fires age htaken hedge hfree hselected hlive hnone,
    fun _ _ hset htaken hhigh hedge => stuckDetect_sets hset htaken hhigh hedge,
    fun c s => completes_of_goOn rfl (s.setStuck_effect c false),
    fun c s => completes_of_goOn rfl (Sparse.read_erase_self 0 s.evr.passed c), stampRead_latches⟩

end Sys2Proof.Machine

/-! ## A core's instruction: its begin, its retirement and the entry of its exception -/
namespace Sys2Proof.Machine

/-! The cores of a state. -/

@[simp] theorem State.core_setCore (s : State) (k : Bool) (c : CoreState) : (s.setCore k c).core k = c := by
  cases k <;> rfl

@[simp] theorem State.setCore_setCore (s : State) (k : Bool) (c d : CoreState) : (s.setCore k c).setCore k d = s.setCore k d := by
  cases k <;> rfl

@[simp] theorem State.byte_setCore (s : State) (k : Bool) (c : CoreState) (a : Nat) : (s.setCore k c).byte a = s.byte a := by
  cases k <;> rfl

@[simp] theorem State.get_setCore (s : State) (k : Bool) (c : CoreState) (f : RegField) : (s.setCore k c).get f = s.get f := by
  cases k <;> rfl

@[simp] theorem State.num_setCore (s : State) (k : Bool) (c : CoreState) (a n : Nat) : (s.setCore k c).num a n = s.num a n :=
  State.num_congr fun _ _ => s.byte_setCore k c _

@[simp] theorem State.tagOf_setCore (s : State) (k : Bool) (c : CoreState) (a : Nat) : (s.setCore k c).tagOf a = s.tagOf a := by
  cases k <;> rfl

@[simp] theorem State.poisoned_setCore (s : State) (k : Bool) (c : CoreState) (a : Nat) :
    (s.setCore k c).poisoned a = s.poisoned a := by
  cases k <;> rfl

/-! What a core without an open repeat body, an enabled watchpoint or a single step adds to an instruction (R296, R308). -/

theorem CoreState.quiet_iff {c : CoreState} :
    c.quiet = true ↔ c.reps = [] ∧ slice c.dctrl 5 4 = 0 ∧ bit c.st 7 = false := by
  simp [CoreState.quiet, and_assoc]

theorem CoreState.repeatCheck_of_reps {c : CoreState} (h : c.reps = []) {kind : Kind} (hkind : kind ≠ .endrep) :
    c.repeatCheck kind = [] := by
  unfold CoreState.repeatCheck CoreState.topRep
  rw [h]
  cases kind with
  | plain => rfl
  | branch => rfl
  | endrep => exact absurd rfl hkind

theorem CoreState.advance_of_reps {c : CoreState} (h : c.reps = []) {kind : Kind} (hkind : kind ≠ .endrep)
    (target : Option Word) : c.advance kind target = { c with pc := target.getD (moveBy c.pc 4) } := by
  simp only [CoreState.advance, if_neg hkind, CoreState.fold, CoreState.topRep, h, List.getLast?_nil]

theorem CoreState.watched_of_dctrl {c : CoreState} (h : slice c.dctrl 5 4 = 0) (touched : List (Word × Bool)) :
    c.watched touched = none := by
  have hoff : ∀ n, 5 ≤ n → n < 9 → bit c.dctrl n = false := fun n hlo hhi => by
    unfold slice at h
    unfold bit
    have : n = 5 ∨ n = 6 ∨ n = 7 ∨ n = 8 := by omega
    rcases this with rfl | rfl | rfl | rfl <;> (simp only [beq_eq_false_iff_ne]; omega)
  unfold CoreState.watched
  rw [List.find?_eq_none.mpr, Option.map_none]
  rintro ⟨w, stored⟩ - hany
  obtain ⟨j, hj, hset⟩ := List.any_eq_true.mp hany
  have hj := List.mem_range.mp hj
  have hbit : bit c.dctrl ((if stored then 7 else 5) + j) = false := hoff _ (by split <;> omega) (by split <;> omega)
  simp [hbit] at hset

/-! From the begin of an instruction to its answer. -/

/-- An instruction that begins is the meaning's answer, retired (R278, R290). -/
theorem State.issue_of_begins {s z : State} {k : Bool} (h : s.begins k = some z) (kind : Kind)
    (body : State → CoreState → Res) : s.issue k kind body = z.retire k kind (body z (z.core k)) := by
  unfold State.begins at h
  split at h
  · contradiction
  rename_i hready
  simp only [not_or, Bool.not_eq_true, Bool.not_eq_false', Option.isSome_eq_false_iff, Option.isNone_iff_eq_none] at hready
  obtain ⟨hissues, hboundary, hbreak⟩ := hready
  split at h
  · rename_i hfetch
    obtain rfl := Option.some.inj h
    simp [State.issue, hissues, hboundary, hbreak, hfetch]
  · contradiction

/-- Core `k` of `s` executes an instruction in `z`, from core state `c`, and nothing else acts: the premise that the
statements about instructions share. -/
structure Executes (s : State) (k : Bool) (z : State) (c : CoreState) : Prop where
  begins : s.begins k = some z
  core : z.core k = c
  quiet : c.quiet = true

section
variable {s z t : State} {k : Bool} {c d : CoreState} {kind : Kind} {body : State → CoreState → Res} {ts : List Trap}

theorem Executes.reps (h : Executes s k z c) : c.reps = [] := (CoreState.quiet_iff.mp h.quiet).1

theorem Executes.issue (h : Executes s k z c) : s.issue k kind body = z.retire k kind (body z c) := by
  rw [State.issue_of_begins h.begins, h.core]

/-- A completed instruction goes on at its target or at the next word. -/
theorem Executes.issue_done (h : Executes s k z c) (hkind : kind ≠ .endrep) {target : Option Word}
    {touched : List (Word × Bool)} (hbody : body z c = .done t target touched) (hcore : t.core k = d) (hreps : d.reps = c.reps)
    (hdctrl : d.dctrl = c.dctrl) :
    s.issue k kind body = t.setCore k { d with pc := target.getD (moveBy d.pc 4) } := by
  obtain ⟨hempty, hwatch, hstep⟩ := CoreState.quiet_iff.mp h.quiet
  have hadvance := CoreState.advance_of_reps (hreps.trans hempty) hkind target
  have hnone : CoreState.watched { d with pc := target.getD (moveBy d.pc 4) } touched = none :=
    CoreState.watched_of_dctrl ((congrArg (slice · 5 4) hdctrl).trans hwatch) touched
  rw [h.issue, hbody]
  simp only [State.retire, h.core, CoreState.repeatCheck_of_reps hempty hkind, reported, hcore, hadvance, hnone, hstep,
    Bool.false_eq_true, if_false]

/-- An instruction that meets exceptions takes the first of them by priority (R290). -/
theorem Executes.issue_fail (h : Executes s k z c) (hkind : kind ≠ .endrep) {x : Trap} (hbody : body z c = .fail t ts)
    (hfirst : reported ts = some x) : s.issue k kind body = t.takeTrap k x := by
  rw [h.issue, hbody]
  simp only [State.retire, h.core, CoreState.repeatCheck_of_reps h.reps hkind, List.append_nil, hfirst]

/-- A completed instruction that is no transfer. -/
theorem Executes.plain_done (h : Executes s k z c) {touched : List (Word × Bool)} (hbody : body z c = .done t none touched)
    (hcore : t.core k = d) (hreps : d.reps = c.reps) (hdctrl : d.dctrl = c.dctrl) :
    s.plain k body = .next (t.setCore k { d with pc := moveBy d.pc 4 }) :=
  congrArg goOn (h.issue_done (by decide) hbody hcore hreps hdctrl)

/-- A completed instruction that replaces the core. -/
theorem Executes.plain_setCore (h : Executes s k z c) {touched : List (Word × Bool)}
    (hbody : body z c = .done (z.setCore k d) none touched) (hreps : d.reps = c.reps) (hdctrl : d.dctrl = c.dctrl) :
    s.plain k body = .next (z.setCore k { d with pc := moveBy d.pc 4 }) :=
  (h.plain_done hbody (z.core_setCore k d) hreps hdctrl).trans (congrArg _ (z.setCore_setCore k _ _))

theorem State.okIf_nil (z : State) (k : Bool) {ts : List Trap} (hts : ts = []) (d : CoreState) :
    z.okIf k ts d = .done (z.setCore k d) := by
  subst hts
  rfl

/-- An instruction of registers alone: no check fails, and the core goes on as `d` at the next word. -/
theorem Executes.plain_ok (h : Executes s k z c) (hbody : body z c = z.okIf k ts d) (hts : ts = []) (hreps : d.reps = c.reps)
    (hdctrl : d.dctrl = c.dctrl) (hpc : d.pc = c.pc) : s.plain k body = .next (z.stepTo k d) := by
  rw [h.plain_setCore (hbody.trans (z.okIf_nil k hts d)) hreps hdctrl, State.stepTo, h.core, hpc]

/-- An instruction that writes one register. -/
theorem Executes.plain_setReg (h : Executes s k z c) {gd : Nat} {w v : TWord} (hbody : body z c = z.okIf k ts (c.setReg gd w))
    (hts : ts = []) (hw : w = v) : s.plain k body = .next (z.stepTo k (c.setReg gd v)) :=
  hw ▸ h.plain_ok hbody hts rfl rfl rfl

end

/-! Reads of SRAM (R278, R279, R316). -/

@[simp] theorem State.parityCheck_zero (z : State) (a : Nat) : z.parityCheck a 0 = z := if_pos (.inl rfl)

/-- A read of SRAM that finds its parity right. -/
theorem State.coreRead_sram (z : State) (k rom : Bool) {a : Nat} (n : Nat) (h : (inSys a || inPacket a) = true) :
    z.coreRead k rom a n 0 =
      if z.poisoned a then .poison z else .data (z.bytes a n) (if inSys a then z.tagOf a else .raw) z := by
  rw [State.coreRead, if_pos (by simpa using h)]
  simp only [Nat.zero_mod, ite_self, State.parityCheck_zero]

theorem State.load_sram {z : State} {k : Bool} {c : CoreState} {p : Word} {n : Nat} (hcore : z.core k = c)
    (haccess : c.access p n 2 = []) (hsram : (inSys (c.phys p) || inPacket (c.phys p)) = true)
    (hpoison : z.poisoned (c.phys p) = false) :
    z.load k p n 0 = .data ⟨if n < 4 then .int else loadedTag z c p, BitVec.ofNat 32 (z.num (c.phys p) n)⟩ z := by
  simp only [State.load, hcore, haccess, State.coreRead_sram z k _ n hsram, hpoison, loadedTag, State.num]
  by_cases hn : n < 4 <;> simp [hn]

/-! The entry of an exception (R292). -/

/-- The checks of an access look at the segments and the mode of a core alone. -/
theorem CoreState.access_congr {c d : CoreState} (hsegs : d.segs = c.segs) (hsystem : d.system = c.system) (w : Word)
    (n need : Nat) : d.access w n need = c.access w n need := by
  unfold CoreState.access CoreState.segCheck CoreState.seg
  rw [hsegs, hsystem]

/-- The vector that a state holds is read in system mode, whatever else of the core has changed. -/
theorem State.vector_setCore {z : State} {k : Bool} {index : Nat} {v : Word} {d : CoreState}
    (hv : z.vectorWord k index = some v) (hvtab : d.vtab = (z.core k).vtab) (hsegs : d.segs = (z.core k).segs)
    (hsystem : d.system = true) : (z.setCore k d).vector k index = (some v, z.setCore k d) := by
  unfold State.vectorWord at hv
  dsimp only at hv
  split at hv
  · rename_i hword
    obtain ⟨hptr, hoff, haccess, hsys, hpolicy, hpoison, htag⟩ := hword
    obtain rfl := Option.some.inj hv
    have hseg : ∀ w, d.seg w = (z.core k).seg w := fun w => by simp only [CoreState.seg, hsegs]
    have hphys : ∀ w, d.phys w = (z.core k).phys w := fun w => by simp only [CoreState.phys, hseg]
    have hread : d.access (moveBy (z.core k).vtab.data (4 * index)) 4 2 = [] :=
      (CoreState.access_congr (c := { z.core k with st := setBit (z.core k).st 0 }) hsegs
        (hsystem.trans (bit_setBit _ 0).symm) _ 4 2).trans haccess
    have hload := State.load_sram (State.core_setCore z k d) hread (by simp [hphys, hsys]) (by simpa [hphys] using hpoison)
    have htagged : d.policy (moveBy (z.core k).vtab.data (4 * index)) = 0 := by
      rw [CoreState.policy, hseg]
      exact hpolicy
    have hcode : loadedTag (z.setCore k d) d (moveBy (z.core k).vtab.data (4 * index)) = .code := by
      simp [loadedTag, htagged, hphys, hsys, htag]
    have hinside : ¬2 ^ 28 ≤ offOf (z.core k).vtab.data + 4 * index := Nat.not_le.mpr hoff
    simp [State.vector, -Nat.reducePow, hvtab, hptr, hinside, hload, hcode, hphys]
  · contradiction

/-- Clearing IE leaves the mode. -/
theorem bit_zero_clearBit_one {v : Nat} (h : bit v 0 = true) : bit (clearBit v 1) 0 = true := by
  unfold clearBit
  split
  · rename_i hset
    unfold bit at h hset ⊢
    simp only [beq_iff_eq] at h hset ⊢
    omega
  · exact h

/-- Steps 2 to 4 of R292 where the core holds the vector. -/
theorem State.coreEnter_of_vectorWord {z : State} {k : Bool} {index : Nat} {v : Word} (hv : z.vectorWord k index = some v)
    (epc : Word) (ecause eaddr : Nat) :
    z.coreEnter k epc ecause eaddr index none = z.setCore k ((z.core k).entered epc ecause eaddr v) := by
  unfold State.coreEnter
  extract_lets c st st' d
  have hsystem : d.system = true := bit_setBit_of_bit 2 (bit_zero_clearBit_one (bit_setBit c.st 0))
  rw [State.vector_setCore (d := d) hv rfl rfl hsystem]
  simp only [State.core_setCore, State.setCore_setCore]
  rfl

/-- A synchronous exception outside of an entry (R292, R293). -/
theorem State.trapEntry_of_vectorWord {z : State} {k : Bool} {c : CoreState} {x : Trap} {v : Word} (hcore : z.core k = c)
    (hexl : bit c.st 2 = false) (hv : z.vectorWord k x.cause = some v) (epc : Word) :
    z.trapEntry k epc x = z.setCore k (c.entered epc (x.word false) x.eaddr v) := by
  subst hcore
  rw [State.trapEntry, if_neg (by simp [hexl]), State.coreEnter_of_vectorWord hv]

/-- An instruction that meets a precise exception of its own (all but SYSCALL and BKPT) enters it, with EPC its address. -/
theorem Executes.enters {s z : State} {k : Bool} {c : CoreState} {kind : Kind} {body : State → CoreState → Res}
    {ts : List Trap} {x : Trap} {v : Word} (h : Executes s k z c) (hkind : kind ≠ .endrep) (hbody : body z c = .fail z ts)
    (hfirst : reported ts = some x) (hcause : x.cause ≠ 0xA ∧ x.cause ≠ 0xB) (hexl : bit c.st 2 = false)
    (hv : z.vectorWord k x.cause = some v) :
    s.issue k kind body = z.setCore k (c.entered c.pc (x.word false) x.eaddr v) := by
  rw [h.issue_fail hkind hbody hfirst, State.takeTrap, if_neg hcause.1, if_neg hcause.2, h.core,
    State.trapEntry_of_vectorWord h.core hexl hv]

end Sys2Proof.Machine

/-! ## Logic, shifts, comparisons, moves, tag conversions and pointer arithmetic of a core -/
namespace Sys2Proof.Machine

/-! What the instructions compute, in the operations of words. -/

theorem logicTag_of_intRaw {t u : Tag} (ht : t = .int ∨ t = .raw) :
    logicTag t u = if t = .raw ∨ u = .raw then .raw else .int := by
  unfold logicTag
  obtain rfl | rfl := ht <;> simp

/-- The kinds of a shift, in the order of their codes (R284). -/
theorem shifted_eq_getD (q : Fin 4) (a : Word) (n : Nat) :
    shifted q a n = [a <<< n, a >>> n, a.sshiftRight n, a.rotateLeft n].getD q 0 := by
  obtain ⟨q, hq⟩ := q
  obtain rfl | rfl | rfl | rfl : q = 0 ∨ q = 1 ∨ q = 2 ∨ q = 3 := by omega
  all_goals rfl

/-- The conditions of a comparison, in the order of their codes (R284). -/
theorem condHolds_eq_getD (q : Fin 8) (a b : Word) : condHolds q a b =
    [a == b, a != b, a.slt b, b.sle a, a.ult b, b.ule a, a.sle b, b.slt a].getD q false := by
  obtain ⟨q, hq⟩ := q
  obtain rfl | rfl | rfl | rfl | rfl | rfl | rfl | rfl :
    q = 0 ∨ q = 1 ∨ q = 2 ∨ q = 3 ∨ q = 4 ∨ q = 5 ∨ q = 6 ∨ q = 7 := by omega
  all_goals rfl

/-- Every condition accepts two INT operands (R274). -/
theorem condCheck_int (cond : Nat) (a b : Word) : condCheck cond ⟨.int, a⟩ ⟨.int, b⟩ = [] := by
  simp only [condCheck, checkTag, isPtrCode]
  split
  · simp
  · split <;> simp

/-- A moved offset that stays in range does not wrap (R278). -/
theorem moveBy_of_inRange {w : Word} {d : Int} (hlo : 0 ≤ (offOf w : Int) + d) (hhi : (offOf w : Int) + d < 2 ^ 28) :
    moveBy w d = BitVec.ofNat 32 (segOf w * 2 ^ 28 + ((offOf w : Int) + d).toNat) := by
  have hoff : unsigned 28 ((offOf w : Int) + d) = ((offOf w : Int) + d).toNat := by
    unfold unsigned
    rw [Int.emod_eq_of_lt hlo (by simpa using hhi)]
  rw [moveBy, segWord, hoff, Nat.mod_eq_of_lt (by omega)]

/-- The word of LUI (R282). -/
theorem lui_word (imm : Nat) : BitVec.ofNat 32 (imm * 16384) = BitVec.ofNat 32 imm <<< 14 := by
  refine BitVec.eq_of_toNat_eq ?_
  simp only [BitVec.toNat_shiftLeft, BitVec.toNat_ofNat, Nat.shiftLeft_eq]
  omega

/-- The difference of two offsets as a word. -/
theorem ofNat_offset_sub (a b : Word) :
    BitVec.ofNat 32 (2 ^ 32 + offOf a - offOf b) = BitVec.ofInt 32 ((offOf a : Int) - offOf b) := by
  have hb : offOf b < 2 ^ 28 := Nat.mod_lt _ (by decide)
  refine BitVec.eq_of_toNat_eq ?_
  rw [BitVec.toNat_ofNat, BitVec.toNat_ofInt]
  omega

section
variable {s z : State} {k : Bool} {c : CoreState} {ga gb : Nat} {a b : Word} {t u : Tag}

/-! The instructions by their operand checks. -/

theorem Executes.logicOp (h : Executes s k z c) (gd : Nat) (hga : c.reg ga = ⟨t, a⟩) (hgb : c.reg gb = ⟨u, b⟩)
    (ht : t = .int ∨ t = .raw) (hu : u = .int ∨ u = .raw) (mask : Bool) (f : Word → Word → Word) :
    s.logicOp k gd ga gb mask f = .next (z.stepTo k (c.setReg gd ⟨if t = .raw ∨ u = .raw then .raw else .int, f a b⟩)) := by
  have hbool : t ≠ .bool := by rintro rfl; simp at ht
  refine h.plain_setReg rfl ?_ ?_
  · obtain rfl | rfl := ht <;> obtain rfl | rfl := hu <;> simp [hga, hgb, checkTag, isIntRaw]
  · simp [hga, hgb, logicTag_of_intRaw ht, hbool]

theorem Executes.logicOp_bool (h : Executes s k z c) (gd : Nat) (hga : c.reg ga = ⟨.bool, a⟩)
    (hgb : c.reg gb = ⟨.bool, b⟩) (f : Word → Word → Word) :
    s.logicOp k gd ga gb true f = .next (z.stepTo k (c.setReg gd ⟨.bool, f a b &&& 1#32⟩)) :=
  h.plain_setReg rfl (by simp [hga, hgb]) (by simp [hga, hgb, logicTag])

theorem Executes.logicImm (h : Executes s k z c) (gd : Nat) (hga : c.reg ga = ⟨t, a⟩) (ht : t = .int ∨ t = .raw) (imm : Nat)
    (f : Word → Word → Word) :
    s.logicImm k gd ga imm f = .next (z.stepTo k (c.setReg gd ⟨t, f a (BitVec.ofNat 32 imm)⟩)) :=
  h.plain_setReg rfl (by simp [hga, checkTag, isIntRaw, ht]) (by simp [hga])

theorem Executes.shiftOp (h : Executes s k z c) (gd : Nat) (hga : c.reg ga = ⟨t, a⟩) (ht : t = .int ∨ t = .raw)
    (hgb : c.reg gb = ⟨.int, b⟩) (kind : Nat) :
    s.shiftOp k gd ga gb kind = .next (z.stepTo k (c.setReg gd ⟨t, shifted kind a (b.toNat % 32)⟩)) :=
  h.plain_setReg rfl (by simp [hga, hgb, checkTag, isIntRaw, isInt, ht]) (by simp [hga, hgb])

/-- A pointer moved within its segment's offsets (R274, R278); `ts` are the checks of the other operand. -/
theorem Executes.moveOp (h : Executes s k z c) (gd : Nat) (hga : c.reg ga = ⟨t, a⟩) (ht : t = .ptr ∨ t = .code)
    {body : State → CoreState → Res} {ts : List Trap} {d : Int} (hbody : body z c = z.moveOp k gd ga ts d) (hts : ts = [])
    (hlo : 0 ≤ (offOf a : Int) + d) (hhi : (offOf a : Int) + d < 2 ^ 28) :
    s.plain k body =
      .next (z.stepTo k (c.setReg gd ⟨t, BitVec.ofNat 32 (segOf a * 2 ^ 28 + ((offOf a : Int) + d).toNat)⟩)) := by
  have hmove : z.moveOp k gd ga ts d = z.okIf k (checkTag 1 (c.reg ga) isPtrCode ++ ts ++
      (if 0 ≤ (offOf (c.reg ga).data : Int) + d ∧ (offOf (c.reg ga).data : Int) + d < 2 ^ 28 then []
        else [trapSeg 4 (c.reg ga).data]))
      (c.setReg gd ⟨(c.reg ga).tag, moveBy (c.reg ga).data d⟩) := by rw [← h.core]; rfl
  refine h.plain_setReg (hbody.trans hmove) ?_ ?_
  · rw [hga, hts, if_pos ⟨hlo, hhi⟩]
    simp [checkTag, isPtrCode, ht]
  · rw [hga, moveBy_of_inRange hlo hhi]

/-- SUBP of two pointers of one tag and one segment (R274). -/
theorem execSubp_subtracts (h : Executes s k z c) (gd : Fin 16) {ga gb : Fin 16} (hga : c.reg ga = ⟨t, a⟩)
    (ht : t = .ptr ∨ t = .code) (hgb : c.reg gb = ⟨t, b⟩) (hseg : segOf a = segOf b) : exec (.subp k gd ga gb) s =
      .next (z.stepTo k (c.setReg gd ⟨.int, BitVec.ofInt 32 ((offOf a : Int) - offOf b)⟩)) :=
  h.plain_setReg rfl (by simp [hga, hgb, checkTag, isPtrCode, ht, sameSeg, hseg])
    (by simp only [hga, hgb, intNat, ofNat_offset_sub])

/-- CHKTAG of a register with another tag enters TAG_TRAP with what it saw (R284, R291). -/
theorem execChktag_enters (h : Executes s k z c) {ga : Fin 16} {tag : Fin 8} {v : Word} (htag : (c.reg ga).tag.num ≠ tag.val)
    (hexl : bit c.st 2 = false) (hv : z.vectorWord k 3 = some v) : exec (.chktag k ga tag) s =
      .next (z.setCore k (c.entered c.pc (3 + 2 ^ 8 * 4 + 2 ^ 16 * (c.reg ga).tag.num + 2 ^ 19) 0 v)) := by
  refine congrArg goOn ((h.enters (x := trapTag 4 (c.reg ga).tag 1) (by decide)
    (by simp only [if_neg htag]; rfl) rfl (by simp [trapTag]) hexl hv).trans ?_)
  simp [trapTag, Trap.word, ofBool]

end

/-- Settles O26: an instruction of registers passes its operand checks and writes one register; CHKTAG alone can trap. -/
theorem coreLogicShiftsTagsAndPointers : Obligations.CoreLogicShiftsTagsAndPointers := by
  unfold Obligations.CoreLogicShiftsTagsAndPointers
  refine ⟨?logic, ?bools, ?immediate, ?shifts, ?shi, ?moves, ?leac, ?cmp, ?cmpi, ?retag, ?chktag,
    ?tagTrap, ?addp, ?addpi, ?subp⟩
  case logic =>
    intro k s z c gd ga gb a b t u hb hc hq hga hgb ht hu
    have hop := Executes.logicOp ⟨hb, hc, hq⟩ gd hga hgb ht hu
    exact ⟨hop true fun a b => a &&& b, hop true fun a b => a ||| b, hop true fun a b => a ^^^ b,
      hop false fun a b => a &&& ~~~b⟩
  case bools =>
    intro k s z c gd ga gb a b hb hc hq hga hgb
    have hop := Executes.logicOp_bool ⟨hb, hc, hq⟩ gd hga hgb
    exact ⟨hop fun a b => a &&& b, hop fun a b => a ||| b, hop fun a b => a ^^^ b⟩
  case immediate =>
    intro k s z c gd ga a t imm hb hc hq hga ht
    have hop := Executes.logicImm ⟨hb, hc, hq⟩ gd hga ht imm
    exact ⟨hop fun a b => a &&& b, hop fun a b => a ||| b, hop fun a b => a ^^^ b⟩
  case shifts =>
    intro k s z c gd ga gb a b t hb hc hq hga ht hgb
    have hop := Executes.shiftOp ⟨hb, hc, hq⟩ gd hga ht hgb
    exact ⟨hop 0, hop 1, hop 2, hop 3⟩
  case shi =>
    intro k s z c gd ga a t q n hb hc hq hga ht
    exact Executes.plain_setReg ⟨hb, hc, hq⟩ rfl (by simp [hga, checkTag, isIntRaw, ht])
      (by rw [hga, shifted_eq_getD q])
  case moves =>
    intro k s z c gd ga imm hb hc hq
    have h : Executes s k z c := ⟨hb, hc, hq⟩
    refine ⟨h.plain_setReg (ts := []) rfl rfl ?_, h.plain_setReg (ts := []) rfl rfl rfl,
      h.plain_setReg (ts := []) rfl rfl rfl, h.plain_setReg (ts := []) rfl rfl ?_⟩
    · rw [intNat, lui_word]
    · rw [segWord, Nat.mod_eq_of_lt (by omega)]
  case leac => exact fun k s z c gd off hb hc hq => Executes.plain_setReg ⟨hb, hc, hq⟩ (ts := []) rfl rfl rfl
  case cmp =>
    intro k s z c gd ga gb a b q hb hc hq hga hgb
    exact Executes.plain_setReg ⟨hb, hc, hq⟩ rfl (by rw [hga, hgb, condCheck_int])
      (by rw [hga, hgb, condHolds_eq_getD])
  case cmpi =>
    intro k s z c gd ga a b q imm hb hc hq hga himm
    exact Executes.plain_setReg ⟨hb, hc, hq⟩ rfl (by simp [hga, checkTag, isInt]) (by rw [hga, himm, condHolds_eq_getD])
  case retag =>
    intro k s z c gd ga x t hb hc hq hga hallowed
    subst hga
    exact Executes.plain_setReg ⟨hb, hc, hq⟩ rfl (if_pos hallowed) rfl
  case chktag =>
    exact fun k s z c ga t hb hc hq htag => Executes.plain_ok ⟨hb, hc, hq⟩ rfl (if_pos htag) rfl rfl rfl
  case tagTrap => exact fun k s z c ga t v hb hc hq htag hexl hv => execChktag_enters ⟨hb, hc, hq⟩ htag hexl hv
  case addp =>
    intro k s z c gd ga gb a b t hb hc hq hga ht hgb hlo hhi
    exact Executes.moveOp ⟨hb, hc, hq⟩ gd hga ht (ts := checkTag 2 (c.reg gb) isInt) (by simp only [hgb])
      (by simp [hgb, checkTag, isInt]) hlo hhi
  case addpi =>
    intro k s z c gd ga a t imm hb hc hq hga ht hlo hhi
    exact Executes.moveOp ⟨hb, hc, hq⟩ gd hga ht (ts := []) rfl rfl hlo hhi
  case subp =>
    exact fun k s z c gd ga gb a b t hb hc hq hga ht hgb hseg => execSubp_subtracts ⟨hb, hc, hq⟩ gd hga ht hgb hseg

end Sys2Proof.Machine

/-! ## Loads of a core from SRAM -/
namespace Sys2Proof.Machine

/-- A PTR whose offset stays in range fails no check of its own (R274, R278). -/
theorem CoreState.pointer_checks {c : CoreState} {ga imm : Nat} {a : Word} (hga : c.reg ga = ⟨.ptr, a⟩)
    (hlo : 0 ≤ (offOf a : Int) + signed 18 imm) (hhi : (offOf a : Int) + signed 18 imm < 2 ^ 28) (need : Nat) :
    checkTag 1 (c.reg ga) isPtr ++ c.reach (c.reg ga).data (simm18 imm) need = [] := by
  rw [hga]
  exact if_pos ⟨hlo, hhi⟩

theorem CoreState.canLoad_iff {c : CoreState} {z : State} {p : Word} {n : Nat} : c.canLoad z p n = true ↔
    c.access p n 2 = [] ∧ (inSys (c.phys p) || inPacket (c.phys p)) = true ∧ z.poisoned (c.phys p) = false := by
  simp [CoreState.canLoad, and_assoc]

/-- A load of poisoned SRAM meets POISON with the physical address (R290, R316). -/
theorem State.load_poisoned {z : State} {k : Bool} {c : CoreState} {p : Word} {n : Nat} (hcore : z.core k = c)
    (haccess : c.access p n 2 = []) (hsram : (inSys (c.phys p) || inPacket (c.phys p)) = true)
    (hpoison : z.poisoned (c.phys p) = true) : z.load k p n 0 = .fail z [trapPoison (c.phys p)] := by
  simp only [State.load, hcore, haccess, State.coreRead_sram z k _ n hsram, hpoison, if_true]

/-- Sign extension looks at the low bits alone. -/
theorem signed_mod_word {w : Nat} (hw : w ≤ 32) (v : Nat) : signed w (v % 2 ^ 32) = signed w v := by
  unfold signed
  rw [Nat.mod_mod_of_dvd v (Nat.pow_dvd_pow 2 hw)]

section
variable {s z : State} {k : Bool} {c : CoreState} {ga imm n : Nat} {a p : Word}

/-- A load through a PTR from SRAM that may be read (R279, R285). -/
theorem Executes.loadOp (h : Executes s k z c) (gd : Nat) (hga : c.reg ga = ⟨.ptr, a⟩)
    (hlo : 0 ≤ (offOf a : Int) + signed 18 imm) (hhi : (offOf a : Int) + signed 18 imm < 2 ^ 28)
    (hp : moveBy a (signed 18 imm) = p) (hn : n ≤ 4) (hcan : c.canLoad z p n = true) (sext : Bool) :
    s.loadOp k gd ga imm n sext 0 = .next (z.stepTo k (c.setReg gd ⟨if n < 4 then .int else loadedTag z c p,
      if sext then BitVec.ofInt 32 (signed (8 * n) (z.num (c.phys p) n)) else BitVec.ofNat 32 (z.num (c.phys p) n)⟩)) := by
  obtain ⟨haccess, hsram, hpoison⟩ := CoreState.canLoad_iff.mp hcan
  have hload := State.load_sram h.core haccess hsram hpoison
  have hchecks := CoreState.pointer_checks hga hlo hhi 2
  have haddr : moveBy (c.reg ga).data (simm18 imm) = p := by rw [hga]; exact hp
  have hsext := signed_mod_word (w := 8 * n) (by omega) (z.num (c.phys p) n)
  refine (h.plain_setCore (touched := [(p, false)]) (d := c.setReg gd _) ?_ rfl rfl).trans (by rw [State.stepTo, h.core]; rfl)
  simp only [hchecks, List.isEmpty_nil, Bool.not_true, Bool.false_eq_true, if_false, haddr, hload, h.core]
  cases sext with
  | false => rfl
  | true => simp only [if_true, BitVec.toNat_ofNat, hsext]

/-- A load of a poisoned word enters POISON (R290, R316). -/
theorem Executes.loadOp_poisoned (h : Executes s k z c) (gd : Nat) (hga : c.reg ga = ⟨.ptr, a⟩)
    (hlo : 0 ≤ (offOf a : Int) + signed 18 imm) (hhi : (offOf a : Int) + signed 18 imm < 2 ^ 28)
    (hp : moveBy a (signed 18 imm) = p) (haccess : c.access p n 2 = []) (hsys : inSys (c.phys p) = true)
    (hpoison : z.poisoned (c.phys p) = true) (hexl : bit c.st 2 = false) {v : Word} (hv : z.vectorWord k 8 = some v)
    (sext : Bool) : s.loadOp k gd ga imm n sext 0 = .next (z.setCore k (c.entered c.pc 8 (c.phys p) v)) := by
  have hload := State.load_poisoned h.core haccess (by simp [hsys]) hpoison
  have hchecks := CoreState.pointer_checks hga hlo hhi 2
  have haddr : moveBy (c.reg ga).data (simm18 imm) = p := by rw [hga]; exact hp
  refine congrArg goOn (h.enters (x := trapPoison (c.phys p)) (ts := [trapPoison (c.phys p)]) (by decide) ?_ rfl
    (by simp [trapPoison]) hexl hv)
  simp only [hchecks, List.isEmpty_nil, Bool.not_true, Bool.false_eq_true, if_false, haddr, hload]

end

/-- Settles O27: the loads differ in their width and their extension alone. -/
theorem coreLoads : Obligations.CoreLoads := by
  unfold Obligations.CoreLoads
  refine ⟨?word, ?half, ?byte, ?poisoned⟩
  case word =>
    intro k s z c gd ga imm a p hb hc hq hga hlo hhi hp hcan
    exact Executes.loadOp ⟨hb, hc, hq⟩ gd hga hlo hhi hp (by decide) hcan false
  case half =>
    intro k s z c gd ga imm a p hb hc hq hga hlo hhi hp hcan
    have hload := Executes.loadOp ⟨hb, hc, hq⟩ gd hga hlo hhi hp (by decide) hcan
    exact ⟨hload true, hload false⟩
  case byte =>
    intro k s z c gd ga imm a p hb hc hq hga hlo hhi hp hcan
    have hload := Executes.loadOp ⟨hb, hc, hq⟩ gd hga hlo hhi hp (by decide) hcan
    exact ⟨hload true, hload false⟩
  case poisoned =>
    intro k s z c gd ga imm a p v hb hc hq hga hlo hhi hp haccess hsys hpoison hexl hv
    exact Executes.loadOp_poisoned ⟨hb, hc, hq⟩ gd hga hlo hhi hp haccess hsys hpoison hexl hv false

end Sys2Proof.Machine

/-! ## Stores and compare-and-swap of a core in system SRAM -/
namespace Sys2Proof.Machine

/-! A write within one word that is not poisoned (R315, R317). -/

/-- A sorted map reads each entry that it lists. -/
theorem Sparse.read_of_mem {α : Type} (d : α) {m : Sparse α} {lo : Nat} (hsorted : Sparse.sortedFrom lo m = true)
    {e : Nat × α} (he : e ∈ m) : lo ≤ e.1 ∧ Sparse.read d m e.1 = e.2 := by
  induction m generalizing lo with
  | nil => simp at he
  | cons x m ih =>
    simp only [Sparse.sortedFrom, Bool.and_eq_true, decide_eq_true_eq] at hsorted
    obtain ⟨hlo, hrest⟩ := hsorted
    obtain rfl | he := List.mem_cons.mp he
    · exact ⟨hlo, if_pos rfl⟩
    · obtain ⟨hle, hread⟩ := ih hrest he
      exact ⟨by omega, (if_neg (by omega)).trans hread⟩

/-- The listed poison entries are the poisoned words (R316). -/
theorem State.poisoned_of_mem {z : State} (hpoison : Poison.wf z.poison = true) {e : Nat × Bool} (he : e ∈ z.poison) :
    e.1 % 4 = 0 ∧ z.poisoned e.1 = true := by
  simp only [Poison.wf, Sparse.wf, Bool.and_eq_true, List.all_eq_true, decide_eq_true_eq, beq_iff_eq] at hpoison
  obtain ⟨⟨hsorted, hlisted⟩, hwords⟩ := hpoison
  have hword := hwords e he
  refine ⟨hword, ?_⟩
  unfold State.poisoned
  rw [hword, Nat.sub_zero, (Sparse.read_of_mem false hsorted he).2]
  simpa using hlisted e he

/-- A write within one word that is not poisoned stores its bytes, and of the poison entries at most that word's own ends. -/
theorem State.devWrite_within_word {z : State} {a : Nat} {bs : List Byte} (hpoison : Poison.wf z.poison = true)
    (hfree : z.poisoned a = false) (hword : a % 4 + bs.length ≤ 4) :
    ∃ ps, z.devWrite a bs = ({ z with poison := ps } : State).setBytes a bs := by
  have huncut : (z.poison.filter fun e => decide (a < e.1 + 4) && decide (e.1 < a + bs.length) &&
      !(decide (a ≤ e.1) && decide (e.1 + 4 ≤ a + bs.length))) = [] := by
    refine List.filter_eq_nil_iff.mpr fun e he htouched => ?_
    obtain ⟨haligned, hset⟩ := State.poisoned_of_mem hpoison he
    simp only [Bool.and_eq_true, decide_eq_true_eq] at htouched
    have hsame : e.1 - e.1 % 4 = a - a % 4 := by omega
    unfold State.poisoned at hset hfree
    rw [hsame, hfree] at hset
    contradiction
  unfold State.devWrite
  simp only [huncut, List.isEmpty_nil, if_true]
  exact ⟨_, rfl⟩

@[simp] theorem State.num_setTag (s : State) (a : Nat) (t : Tag) (b n : Nat) : (s.setTag a t).num b n = s.num b n := rfl

@[simp] theorem State.tagOf_setTag_self (s : State) (a : Nat) (t : Tag) : (s.setTag a t).tagOf a = t := by
  unfold State.tagOf State.setTag
  rw [Sparse.read_write, if_pos rfl]

/-! The store itself (R279, R285). -/

theorem CoreState.canStore_iff {c : CoreState} {z : State} {p : Word} {n : Nat} : c.canStore z p n = true ↔
    c.access p n 4 = [] ∧ inSys (c.phys p) = true ∧ c.phys p % n = 0 ∧ z.poisoned (c.phys p) = false := by
  simp [CoreState.canStore, and_assoc]

/-- System SRAM after core state `c` has stored the low `n` bytes of `v` through `p`. -/
def State.afterStore (z : State) (c : CoreState) (p : Word) (n : Nat) (v : TWord) : State :=
  (z.devWrite (c.phys p) (leBytes n v.data.toNat)).setTag (c.phys p)
    (storedTag (c.policy p) n (z.tagOf (c.phys p)) v.tag)

theorem State.core_afterStore (z : State) (k : Bool) (c : CoreState) (p : Word) (n : Nat) (v : TWord) :
    (z.afterStore c p n v).core k = z.core k := by
  unfold State.afterStore State.core
  cases k <;> simp

theorem State.tagOf_afterStore (z : State) (c : CoreState) (p : Word) (n : Nat) (v : TWord) :
    (z.afterStore c p n v).tagOf (c.phys p) = storedTag (c.policy p) n (z.tagOf (c.phys p)) v.tag :=
  State.tagOf_setTag_self _ _ _

theorem State.num_afterStore {z : State} {c : CoreState} {p : Word} {n : Nat} (v : TWord) (hpoison : Poison.wf z.poison = true)
    (hfree : z.poisoned (c.phys p) = false) (hword : c.phys p % 4 + n ≤ 4) :
    (z.afterStore c p n v).num (c.phys p) n = v.data.toNat % 256 ^ n := by
  obtain ⟨ps, hwrite⟩ := State.devWrite_within_word (bs := leBytes n v.data.toNat) hpoison hfree (by simpa using hword)
  unfold State.afterStore
  rw [hwrite, State.num_setTag]
  exact State.num_setNum _ _ _ _

theorem State.byte_afterStore {z : State} {c : CoreState} {p : Word} {n b : Nat} (v : TWord) (hpoison : Poison.wf z.poison = true)
    (hfree : z.poisoned (c.phys p) = false) (hword : c.phys p % 4 + n ≤ 4) (hb : b < c.phys p ∨ c.phys p + n ≤ b) :
    (z.afterStore c p n v).byte b = z.byte b := by
  obtain ⟨ps, hwrite⟩ := State.devWrite_within_word (bs := leBytes n v.data.toNat) hpoison hfree (by simpa using hword)
  unfold State.afterStore
  rw [hwrite, State.byte_setTag]
  exact State.byte_setNum_ne _ _ _ _ hb

/-- A store whose checks pass, in system SRAM that is not poisoned. -/
theorem State.store_sys {z : State} {k : Bool} {c : CoreState} {p : Word} {n : Nat} {v : TWord} {pos : Nat}
    (hcore : z.core k = c) (haccess : c.access p n 4 = []) (hsys : inSys (c.phys p) = true)
    (hfree : z.poisoned (c.phys p) = false) (hvalue : c.storeCheck p n v pos = []) :
    z.store k p n v pos 0 = .done (z.afterStore c p n v) := by
  simp [State.store, State.storeRaw, State.coreWrite, hcore, haccess, hvalue, hsys, hfree, State.afterStore]

theorem CoreState.storeCheck_word {c : CoreState} {p : Word} {x : TWord} (pos : Nat) (h : c.policy p = 0 ∨ (x.tag ≠ .ptr ∧
    x.tag ≠ .code ∧ x.tag ≠ .handle ∧ x.tag ≠ .empty)) : c.storeCheck p 4 x pos = [] := by
  unfold CoreState.storeCheck
  rw [if_neg (by decide), if_neg]
  rintro ⟨hpolicy, htag⟩
  obtain h | ⟨hptr, hcode, hhandle, hempty⟩ := h
  · exact hpolicy h
  · simp [hptr, hcode, hhandle, hempty] at htag

theorem CoreState.storeCheck_narrow (c : CoreState) (p : Word) {n : Nat} {x : TWord} (pos : Nat) (hn : n < 4)
    (h : x.tag = .int ∨ x.tag = .raw) : c.storeCheck p n x pos = [] := by
  unfold CoreState.storeCheck
  rw [if_pos hn]
  simp [checkTag, h]

/-- Rights that an access needs together, a part of them needs alone (R278). -/
theorem CoreState.access_nil_of_rights {c : CoreState} {p : Word} {n need part : Nat} (hpart : Nat.land need part = part)
    (h : c.access p n need = []) : c.access p n part = [] := by
  have hland : ∀ x, Nat.land x need = need → Nat.land x part = part := fun x hx => by
    rw [← hpart]
    exact (Nat.and_assoc x need part).symm.trans (congrArg (Nat.land · part) hx)
  unfold CoreState.access CoreState.segCheck at h ⊢
  simp only [List.append_eq_nil_iff] at h ⊢
  refine ⟨?_, h.2⟩
  have h := h.1
  split_ifs at h with hvalid huser hrights hlimit
  rw [if_neg hvalid, if_neg huser, if_neg (not_not_intro (hland _ (not_not.mp hrights))), if_neg hlimit]

section
variable {s z : State} {k : Bool} {c : CoreState} {ga gd imm n : Nat} {a p : Word} {x : TWord}

/-- A store of Gd through a PTR into system SRAM that may be written (R279, R285). -/
theorem Executes.storeOp (h : Executes s k z c) (hga : c.reg ga = ⟨.ptr, a⟩) (hgd : c.reg gd = x)
    (hlo : 0 ≤ (offOf a : Int) + signed 18 imm) (hhi : (offOf a : Int) + signed 18 imm < 2 ^ 28)
    (hp : moveBy a (signed 18 imm) = p) (hcan : c.canStore z p n = true) (hvalue : c.storeCheck p n x 3 = []) :
    s.storeOp k gd ga imm n 0 = .next ((z.afterStore c p n x).setCore k { c with pc := moveBy c.pc 4 }) := by
  obtain ⟨haccess, hsys, -, hfree⟩ := CoreState.canStore_iff.mp hcan
  have hchecks := CoreState.pointer_checks hga hlo hhi 4
  have haddr : moveBy (c.reg ga).data (simm18 imm) = p := by rw [hga]; exact hp
  have hstore := State.store_sys (pos := 3) h.core haccess hsys hfree hvalue
  refine h.plain_done (touched := [(p, true)]) ?_ ((z.core_afterStore k c p n x).trans h.core) rfl rfl
  simp only [hchecks, List.isEmpty_nil, Bool.not_true, Bool.false_eq_true, if_false, haddr, hgd, hstore]

/-- What a store leaves: the core at the next word, the value and its tag at `p`, and every other byte (R279, R315). -/
theorem State.afterStore_effect {z : State} (k : Bool) {c : CoreState} (d : CoreState) {p : Word} {n b : Nat} (v : TWord)
    (hpoison : Poison.wf z.poison = true) (hfree : z.poisoned (c.phys p) = false) (hword : c.phys p % 4 + n ≤ 4)
    (hb : b < c.phys p ∨ c.phys p + n ≤ b) :
    ((z.afterStore c p n v).setCore k d).core k = d ∧
      ((z.afterStore c p n v).setCore k d).num (c.phys p) n = v.data.toNat % 256 ^ n ∧
      ((z.afterStore c p n v).setCore k d).tagOf (c.phys p) = storedTag (c.policy p) n (z.tagOf (c.phys p)) v.tag ∧
      ((z.afterStore c p n v).setCore k d).byte b = z.byte b := by
  rw [State.core_setCore, State.num_setCore, State.tagOf_setCore, State.byte_setCore]
  exact ⟨rfl, State.num_afterStore v hpoison hfree hword, z.tagOf_afterStore c p n v,
    State.byte_afterStore v hpoison hfree hword hb⟩

/-- A store of Gd completes with its effect. -/
theorem Executes.storeOp_completes {i : Instr} (h : Executes s k z c) {b : Nat} (hi : exec i s = s.storeOp k gd ga imm n 0)
    (hga : c.reg ga = ⟨.ptr, a⟩) (hgd : c.reg gd = x) (hlo : 0 ≤ (offOf a : Int) + signed 18 imm)
    (hhi : (offOf a : Int) + signed 18 imm < 2 ^ 28) (hp : moveBy a (signed 18 imm) = p)
    (hfits : c.phys p % n = 0 → c.phys p % 4 + n ≤ 4) (hcan : c.canStore z p n = true)
    (hpoison : Poison.wf z.poison = true) (hb : b < c.phys p ∨ c.phys p + n ≤ b) (hvalue : c.storeCheck p n x 3 = []) :
    completes i s fun t => t.core k = { c with pc := moveBy c.pc 4 } ∧ t.num (c.phys p) n = x.data.toNat % 256 ^ n ∧
      t.tagOf (c.phys p) = storedTag (c.policy p) n (z.tagOf (c.phys p)) x.tag ∧ t.byte b = z.byte b := by
  obtain ⟨-, -, haligned, hfree⟩ := CoreState.canStore_iff.mp hcan
  exact completes_of_goOn (hi.trans (h.storeOp hga hgd hlo hhi hp hcan hvalue))
    (State.afterStore_effect k _ x hpoison hfree (hfits haligned) hb)

/-! Compare and swap (R285). -/

/-- What CAS compares is the word as LDW would load it (R279). -/
theorem State.load_word {old : TWord} (hcore : z.core k = c) (hcan : c.canLoad z p 4 = true)
    (hold : old = ⟨loadedTag z c p, BitVec.ofNat 32 (z.num (c.phys p) 4)⟩) : z.load k p 4 0 = .data old z := by
  obtain ⟨haccess, hsram, hfree⟩ := CoreState.canLoad_iff.mp hcan
  rw [State.load_sram hcore haccess hsram hfree, hold]
  rfl

/-- CAS where the word equals Gd: Gb is stored, and Gd takes the old word. -/
theorem execCas_swaps (h : Executes s k z c) {gd ga gb : Fin 16} {v old : TWord} {b : Nat} (hga : c.reg ga = ⟨.ptr, p⟩)
    (hgd : c.reg gd = x) (hgb : c.reg gb = v) (hx : x.tag ≠ .empty) (hv : v.tag ≠ .empty) (haccess : c.access p 4 6 = [])
    (hcan : c.canLoad z p 4 = true) (hsys : inSys (c.phys p) = true)
    (hold : old = ⟨loadedTag z c p, BitVec.ofNat 32 (z.num (c.phys p) 4)⟩) (hequal : old = x) (haligned : c.phys p % 4 = 0)
    (hpoison : Poison.wf z.poison = true) (hb : b < c.phys p ∨ c.phys p + 4 ≤ b)
    (hvalue : c.policy p = 0 ∨ (v.tag ≠ .ptr ∧ v.tag ≠ .code ∧ v.tag ≠ .handle)) :
    completes (.cas k gd ga gb 0) s fun t => t.core k = { c.setReg gd old with pc := moveBy c.pc 4 } ∧
      t.num (c.phys p) 4 = v.data.toNat ∧ t.tagOf (c.phys p) = storedTag (c.policy p) 4 (z.tagOf (c.phys p)) v.tag ∧
      t.byte b = z.byte b := by
  obtain ⟨-, -, hfree⟩ := CoreState.canLoad_iff.mp hcan
  have hload := State.load_word h.core hcan hold
  have hstore : z.store k p 4 v 2 0 = .done (z.afterStore c p 4 v) :=
    State.store_sys h.core (CoreState.access_nil_of_rights (by decide) haccess) hsys hfree
      (CoreState.storeCheck_word 2 (hvalue.imp_right fun ⟨hptr, hcode, hhandle⟩ => ⟨hptr, hcode, hhandle, hv⟩))
  have hcore : (z.afterStore c p 4 v).core k = c := (z.core_afterStore k c p 4 v).trans h.core
  have hstep : exec (.cas k gd ga gb 0) s = _ := h.plain_done (t := (z.afterStore c p 4 v).setCore k (c.setReg gd old))
    (touched := [(p, false), (p, true)])
    (by simp [hga, hgd, hgb, hx, hv, haccess, checkTag, isPtr, hsys, hload, hequal, hstore, hcore])
    (State.core_setCore _ _ _) rfl rfl
  obtain ⟨hreg, hnum, htag, hbyte⟩ := State.afterStore_effect (n := 4) k { c.setReg gd old with pc := moveBy c.pc 4 } v
    hpoison hfree (by omega) hb
  refine completes_of_goOn (hstep.trans (congrArg _ (State.setCore_setCore _ _ _ _))) ⟨hreg, hnum.trans ?_, htag, hbyte⟩
  exact Nat.mod_eq_of_lt v.data.isLt

/-- CAS where the word differs from Gd: Gd takes the old word, and memory stays. -/
theorem execCas_keeps (h : Executes s k z c) {gd ga gb : Fin 16} {v old : TWord} (hga : c.reg ga = ⟨.ptr, p⟩)
    (hgd : c.reg gd = x) (hgb : c.reg gb = v) (hx : x.tag ≠ .empty) (hv : v.tag ≠ .empty) (haccess : c.access p 4 6 = [])
    (hcan : c.canLoad z p 4 = true) (hsys : inSys (c.phys p) = true)
    (hold : old = ⟨loadedTag z c p, BitVec.ofNat 32 (z.num (c.phys p) 4)⟩) (hdiffers : old ≠ x) :
    exec (.cas k gd ga gb 0) s = .next (z.stepTo k (c.setReg gd old)) := by
  have hload := State.load_word h.core hcan hold
  refine (h.plain_setCore (touched := [(p, false)]) (d := c.setReg gd old) ?_ rfl rfl).trans (by rw [State.stepTo, h.core]; rfl)
  simp [hga, hgd, hgb, hx, hv, haccess, checkTag, isPtr, hsys, hload, hdiffers, h.core]

end

/-- Settles O28: a store within a word that is not poisoned writes its bytes and its tag alone; CAS stores as STW does. -/
theorem coreStoresAndCompareAndSwap : Obligations.CoreStoresAndCompareAndSwap := by
  unfold Obligations.CoreStoresAndCompareAndSwap
  refine ⟨?word, ?half, ?byte, ?swap, ?keep⟩
  case word =>
    intro k s z c gd ga imm a p x b hb hc hq hga hgd hlo hhi hp hcan hpoison hout hvalue
    exact Executes.storeOp_completes ⟨hb, hc, hq⟩ rfl hga hgd hlo hhi hp (by omega) hcan hpoison hout
      (CoreState.storeCheck_word 3 hvalue)
  case half =>
    intro k s z c gd ga imm a p x b hb hc hq hga hgd hlo hhi hp hcan hpoison hout htag
    exact Executes.storeOp_completes ⟨hb, hc, hq⟩ rfl hga hgd hlo hhi hp (by omega) hcan hpoison hout
      (c.storeCheck_narrow p 3 (by decide) htag)
  case byte =>
    intro k s z c gd ga imm a p x b hb hc hq hga hgd hlo hhi hp hcan hpoison hout htag
    exact Executes.storeOp_completes ⟨hb, hc, hq⟩ rfl hga hgd hlo hhi hp (by omega) hcan hpoison hout
      (c.storeCheck_narrow p 3 (by decide) htag)
  case swap =>
    intro k s z c gd ga gb p x v old b hb hc hq hga hgd hgb hx hv haccess hcan hsys hold hequal haligned hpoison hout hvalue
    exact execCas_swaps ⟨hb, hc, hq⟩ hga hgd hgb hx hv haccess hcan hsys hold hequal haligned hpoison hout hvalue
  case keep =>
    intro k s z c gd ga gb p x v old hb hc hq hga hgd hgb hx hv haccess hcan hsys hold hdiffers
    exact execCas_keeps ⟨hb, hc, hq⟩ hga hgd hgb hx hv haccess hcan hsys hold hdiffers

end Sys2Proof.Machine

/-! ## Branches, traps and the control of a core -/
namespace Sys2Proof.Machine

/-- SYSCALL returns to the next instruction (R292). -/
theorem State.takeTrap_syscall (z : State) (k : Bool) (arg : Nat) :
    z.takeTrap k (trapSyscall arg) = z.trapEntry k (moveBy (z.core k).pc 4) (trapSyscall arg) := rfl

/-- BKPT stops the core at the next instruction (R292, R296). -/
theorem State.takeTrap_bkpt (z : State) (k : Bool) (sub eaddr : Nat) :
    z.takeTrap k (trapBkpt sub eaddr) = (z.setCore k ((z.core k).advance .plain none)).debugStop k sub eaddr := rfl

/-- A core that is not under debug enters BKPT, with EPC the PC at which it stands (R296). -/
theorem State.debugStop_enters {z : State} {k : Bool} {c : CoreState} {v : Word} (hcore : z.core k = c)
    (hdebug : c.debugs k = false) (hexl : bit c.st 2 = false) (hv : z.vectorWord k 11 = some v) (pc : Word) :
    (z.setCore k { c with pc := pc }).debugStop k 0 0 = z.setCore k (c.entered pc 11 0 v) := by
  have hvector : (z.setCore k { c with pc := pc }).vectorWord k 11 = some v := by
    subst hcore
    rw [← hv]
    cases k <;> rfl
  have hclosed : CoreState.debugs { c with pc := pc } k = false := hdebug
  unfold State.debugStop
  rw [State.core_setCore, if_neg (by simp [hclosed]), State.trapEntry_of_vectorWord (z.core_setCore k _) (by exact hexl) hvector,
    State.setCore_setCore]
  rfl

section
variable {s z : State} {k : Bool} {c : CoreState}

/-! Transfers (R286). -/

/-- A transfer that leaves the state as it is goes on at its target, or at the next word where it has none. -/
theorem Executes.branch_to (h : Executes s k z c) {body : State → CoreState → Res} {target : Option Word}
    (hbody : body z c = .done z target) :
    s.branch k body = .next (z.setCore k { c with pc := target.getD (moveBy c.pc 4) }) :=
  congrArg goOn (h.issue_done (by decide) hbody h.core rfl rfl)

theorem Executes.branchIf (h : Executes s k z c) {ga : Nat} {a : Word} (hga : c.reg ga = ⟨.bool, a⟩) (v off : Nat) :
    s.branchIf k ga v off =
      .next (z.setCore k { c with pc := if a.toNat = v then moveBy c.pc (4 * signed 22 off) else moveBy c.pc 4 }) := by
  unfold State.branchIf
  rw [h.branch_to (target := if a.toNat = v then some (moveBy c.pc (4 * signed 22 off)) else none) (by simp [hga]),
    apply_ite (Option.getD · _)]
  rfl

theorem execJmp_jumps (h : Executes s k z c) {ga : Fin 16} {a : Word} (hga : c.reg ga = ⟨.code, a⟩)
    (hfetch : c.access a 4 8 = []) : exec (.jmp k ga) s = .next (z.setCore k { c with pc := a }) :=
  h.branch_to (target := some a) (by simp [hga, hfetch, checkTag, isCode])

/-! Traps (R284, R290, R292). -/

theorem execTrap_enters (h : Executes s k z c) (arg : Fin 256) {v : Word} (hexl : bit c.st 2 = false)
    (hv : z.vectorWord k 10 = some v) : exec (.trap k arg) s = .next (z.setCore k (c.entered (moveBy c.pc 4) 10 arg v)) := by
  refine congrArg goOn ((h.issue_fail (by decide) rfl rfl).trans ?_)
  rw [State.takeTrap_syscall, State.trapEntry_of_vectorWord h.core hexl hv, h.core]
  rfl

theorem execBkpt_enters (h : Executes s k z c) {v : Word} (hexl : bit c.st 2 = false) (hv : z.vectorWord k 11 = some v)
    (hdebug : c.debugs k = false) : exec (.bkpt k) s = .next (z.setCore k (c.entered (moveBy c.pc 4) 11 0 v)) := by
  refine congrArg goOn ((h.issue_fail (by decide) rfl rfl).trans ?_)
  rw [State.takeTrap_bkpt, h.core, CoreState.advance_of_reps h.reps (by decide), Option.getD_none]
  exact State.debugStop_enters h.core hdebug hexl hv _

theorem execIllegal_enters (h : Executes s k z c) {v : Word} (hexl : bit c.st 2 = false) (hv : z.vectorWord k 1 = some v) :
    exec (.illegal k) s = .next (z.setCore k (c.entered c.pc 1 0 v)) :=
  congrArg goOn (h.enters (x := trapIllegal) (by decide) rfl rfl (by decide) hexl hv)

/-- In user mode an instruction whose first check is for system mode enters PRIV, whatever of lower priority it meets too. -/
theorem Executes.enters_priv (h : Executes s k z c) {kind : Kind} {body : State → CoreState → Res} {ts : List Trap} {v : Word}
    (hkind : kind ≠ .endrep) (hbody : body z c = .fail z (trapPriv :: ts)) (hlater : reported (trapPriv :: ts) = some trapPriv)
    (hexl : bit c.st 2 = false) (hv : z.vectorWord k 2 = some v) :
    s.issue k kind body = z.setCore k (c.entered c.pc 2 0 v) :=
  h.enters (x := trapPriv) hkind hbody hlater (by decide) hexl hv

theorem CoreState.privCheck_user (h : c.system = false) : c.privCheck = [trapPriv] := by simp [CoreState.privCheck, h]

theorem CoreState.privCheck_system (h : c.system = true) : c.privCheck = [] := by simp [CoreState.privCheck, h]

theorem execIena_user (h : Executes s k z c) {v : Word} (hexl : bit c.st 2 = false) (hv : z.vectorWord k 2 = some v)
    (huser : c.system = false) : exec (.iena k) s = .next (z.setCore k (c.entered c.pc 2 0 v)) :=
  congrArg goOn (h.enters_priv (ts := []) (by decide) (by simp [State.okIf, CoreState.privCheck_user huser]) rfl hexl hv)

theorem execIdis_user (h : Executes s k z c) {v : Word} (hexl : bit c.st 2 = false) (hv : z.vectorWord k 2 = some v)
    (huser : c.system = false) : exec (.idis k) s = .next (z.setCore k (c.entered c.pc 2 0 v)) :=
  congrArg goOn (h.enters_priv (ts := []) (by decide) (by simp [State.okIf, CoreState.privCheck_user huser]) rfl hexl hv)

/-- PRIV comes before the tag of EPC (R290). -/
theorem execEret_user (h : Executes s k z c) {v : Word} (hexl : bit c.st 2 = false) (hv : z.vectorWord k 2 = some v)
    (huser : c.system = false) : exec (.eret k) s = .next (z.setCore k (c.entered c.pc 2 0 v)) := by
  refine congrArg goOn (h.enters_priv (ts := if c.epc.tag = .code then [] else
    [trapTag (if c.epc.tag = .empty then 1 else 0) c.epc.tag 0]) (by decide) ?_ ?_ hexl hv)
  · simp [CoreState.privCheck_user huser]
  · split <;> rfl

/-! WAIT, FENCE, the interrupt enable and ERET (R284, R292, R447). -/

theorem execWait_passes (h : Executes s k z c) (hpending : Nat.land c.ipend c.ien ≠ 0) :
    exec (.wait k) s = .next (z.setCore k { c with pc := moveBy c.pc 4 }) := by
  have hstays : z.coreWait k = z := by
    unfold State.coreWait
    rw [h.core, if_pos hpending]
  exact h.plain_done (congrArg (Res.done ·) hstays) h.core rfl rfl

theorem execWait_waits (h : Executes s k z c) (hpending : Nat.land c.ipend c.ien = 0) (hdoze : z.get PRC_CTRL_DOZE_EN = 0) :
    exec (.wait k) s = .next (z.setCore k { { c with run := .waiting } with pc := moveBy c.pc 4 }) := by
  have hwaits : z.coreWait k = z.setCore k { c with run := .waiting } := by
    unfold State.coreWait
    rw [h.core, if_neg (not_not_intro hpending)]
    exact if_neg fun hdozes => by simp [State.on, hdoze] at hdozes
  exact h.plain_setCore (congrArg (Res.done ·) hwaits) rfl rfl

/-- R447: core 0 waits last, and its WAIT begins a Doze. -/
theorem execWait_dozes (h : Executes s false z c) (hpending : Nat.land c.ipend c.ien = 0) (hdoze : z.get PRC_CTRL_DOZE_EN = 1)
    (hother : z.core1.run = .stopped ∨ z.core1.run = .waiting) (hrun : z.power.state = .run) :
    exec (.wait false) s = .next { z with core0 := { c with run := .waiting, pc := moveBy c.pc 4 },
                                          power := { z.power with state := .doze } } := by
  have hwaits : z.coreWait false = { z with core0 := { c with run := .waiting }, power := { z.power with state := .doze } } := by
    unfold State.coreWait
    rw [h.core, if_neg (not_not_intro hpending)]
    exact if_pos ⟨by simp [State.on, hdoze], rfl, hother.symm, hrun⟩
  have hcore : (z.coreWait false).core false = { c with run := .waiting } := congrArg (State.core · false) hwaits
  exact (h.plain_done rfl hcore rfl rfl).trans (by rw [hwaits]; rfl)

theorem execFence_passes (h : Executes s k z c) : exec (.fence k) s = .next (z.setCore k { c with pc := moveBy c.pc 4 }) :=
  h.plain_done rfl h.core rfl rfl

/-- A change of ST that user mode may not make. -/
theorem Executes.plain_setSt (h : Executes s k z c) (hsystem : c.system = true) (f : Nat → Nat) :
    s.plain k (fun s c => s.okIf k c.privCheck { c with st := f c.st }) =
      .next (z.setCore k { { c with st := f c.st } with pc := moveBy c.pc 4 }) :=
  h.plain_setCore (z.okIf_nil k (CoreState.privCheck_system hsystem) _) rfl rfl

/-- A value without bits of the signal extension is written to ST as it is (R288, R303). -/
theorem stWrite_of_lt (old : Nat) {v : Nat} (h : v < 256) : stWrite old v = v := by
  have hlow : slice v 0 8 = v := by unfold slice; omega
  have hhigh : slice v 16 6 = 0 := by unfold slice; omega
  have hrnd : slice v 16 2 = 0 := by unfold slice; omega
  simp [stWrite, hlow, hhigh, hrnd]

theorem execEret_returns (h : Executes s k z c) (hsystem : c.system = true) {a : Word} (hepc : c.epc = ⟨.code, a⟩)
    (hest : c.est < 256) : exec (.eret k) s = .next (z.setCore k { { c with st := c.est } with pc := a }) := by
  refine congrArg goOn ((h.issue_done (t := z.setCore k { c with st := c.est }) (target := some a) (touched := []) (by decide) ?_
    (z.core_setCore k _) rfl rfl).trans (z.setCore_setCore k _ _))
  simp [CoreState.privCheck_system hsystem, hepc, stWrite_of_lt c.st hest]

end

/-- Settles O30: every clause is one instruction that begins with nothing else acting, retired; the entries read their vector in
system mode. -/
theorem coreControlFlow : Obligations.CoreControlFlow := by
  unfold Obligations.CoreControlFlow
  refine ⟨?br, ?conditional, ?jmp, ?trap, ?bkpt, ?illegal, ?user, ?pending, ?waits, ?dozes, ?fence, ?enable, ?eret⟩
  case br =>
    intro k s z c off hb hc hq
    exact Executes.branch_to ⟨hb, hc, hq⟩ (target := some (moveBy c.pc (4 * signed 26 off))) rfl
  case conditional =>
    intro k s z c ga off a hb hc hq hga
    have htruth : ∀ n : Nat, n < 2 ^ 32 → (a.toNat = n ↔ a = BitVec.ofNat 32 n) := fun n hn => by
      rw [BitVec.toNat_eq, BitVec.toNat_ofNat, Nat.mod_eq_of_lt hn]
    have hbranch := Executes.branchIf ⟨hb, hc, hq⟩ hga
    simp only [← htruth 1 (by decide), ← htruth 0 (by decide)]
    exact ⟨hbranch 1 off, hbranch 0 off⟩
  case jmp => exact fun k s z c ga a hb hc hq hga hfetch => execJmp_jumps ⟨hb, hc, hq⟩ hga hfetch
  case trap => exact fun k s z c arg v hb hc hq hexl hv => execTrap_enters ⟨hb, hc, hq⟩ arg hexl hv
  case bkpt => exact fun k s z c v hb hc hq hexl hv hdebug => execBkpt_enters ⟨hb, hc, hq⟩ hexl hv hdebug
  case illegal => exact fun k s z c v hb hc hq hexl hv => execIllegal_enters ⟨hb, hc, hq⟩ hexl hv
  case user =>
    intro k s z c v hb hc hq hexl hv huser
    have h : Executes s k z c := ⟨hb, hc, hq⟩
    exact ⟨execEret_user h hexl hv huser, execIena_user h hexl hv huser, execIdis_user h hexl hv huser⟩
  case pending => exact fun k s z c hb hc hq hpending => execWait_passes ⟨hb, hc, hq⟩ hpending
  case waits => exact fun k s z c hb hc hq hpending hdoze => execWait_waits ⟨hb, hc, hq⟩ hpending hdoze
  case dozes =>
    exact fun s z c hb hc hq hpending hdoze hother hrun => execWait_dozes ⟨hb, hc, hq⟩ hpending hdoze hother hrun
  case fence => exact fun k s z c hb hc hq => execFence_passes ⟨hb, hc, hq⟩
  case enable =>
    intro k s z c hb hc hq hsystem
    have hset := Executes.plain_setSt ⟨hb, hc, hq⟩ hsystem
    exact ⟨hset (setBit · 1), hset (clearBit · 1)⟩
  case eret => exact fun k s z c a hb hc hq hsystem hepc hest => execEret_returns ⟨hb, hc, hq⟩ hsystem hepc hest

end Sys2Proof.Machine

/-! ## Every command and every step: what they change, and the canonical form -/
namespace Sys2Proof.Machine

/-- The footprint of a list of parts. -/
def footprint : List Part → Nat
  | [] => 0
  | p :: ps => 1 <<< p.code ||| footprint ps

/-- The part of a bit of a footprint. -/
def Part.ofCode (n : Nat) : Part :=
  [.tnet, .clock, .mem, .poison, .faults, .power, .radio, .slot, .mac, .sec, .gnss, .rtc, .evr, .memctl, .flash, .core0, .core1,
    .lgy, .tag, .host, .boot, .pke, .pins, .objs, .free, .pending, .partT].getD n (.regs (Fin.ofNat 20 (n - 27)))

theorem Part.ofCode_code (p : Part) : Part.ofCode p.code = p := by
  cases p with
  | regs b => simp [Part.ofCode, Part.code]
  | _ => rfl

theorem Part.code_inj {p q : Part} (h : p.code = q.code) : p = q := by
  rw [← p.ofCode_code, h, q.ofCode_code]

theorem testBit_footprint {ps : List Part} {p : Part} (h : p ∉ ps) : (footprint ps).testBit p.code = false := by
  induction ps with
  | nil => exact Nat.zero_testBit _
  | cons q ps ih =>
    have hcode : p.code ≠ q.code := fun he => h (Part.code_inj he ▸ List.mem_cons_self)
    have hrest := ih fun hp => h (List.mem_cons_of_mem _ hp)
    rw [footprint, Nat.testBit_or, hrest, Bool.or_false, Nat.one_shiftLeft, Nat.testBit_two_pow_of_ne hcode.symm]

theorem Moves.only {ps : List Part} {s t : State} (h : Moves (footprint ps) s t) : only ps s t :=
  fun p hp => h.1 p (testBit_footprint hp)

/-- Footprint `a` lies within the parts of a list and the footprint `acc` of those before it. -/
def coveredBy (a acc : Nat) : List Part → Bool
  | [] => sub a acc
  | p :: ps => coveredBy a (acc ||| 1 <<< p.code) ps

theorem coveredBy_eq_sub (a acc : Nat) (ps : List Part) : coveredBy a acc ps = sub a (acc ||| footprint ps) := by
  induction ps generalizing acc with
  | nil => rw [footprint, Nat.or_zero, coveredBy]
  | cons p ps ih => rw [coveredBy, ih, footprint, Nat.or_assoc]

/-- A command that changes footprint `a` stays within a list of parts that covers it. -/
theorem Goes.within {a : Nat} {ps : List Part} {s : State} {o : Host.Outcome State Fault Refusal} (h : Goes a s o)
    (hs : coveredBy a 0 ps = true) : Goes (footprint ps) s o :=
  Goes.step Moves.refl h (by rwa [coveredBy_eq_sub, Nat.zero_or] at hs)

/-- Every command goes on and changes only the parts that `mayChange` gives it: each meaning by its own law. -/
theorem exec_goes (c : Instr) (s : State) : Goes (footprint (mayChange c)) s (exec c s) :=
  match c with
  | .registerWrite .. => (execRegisterWrite_goes ..).within rfl
  | .detectionRecordDequeue .. => (execDetectionRecordDequeue_goes ..).within rfl
  | .modeWrite .. => (execModeWrite_goes ..).within rfl
  | .modeTransition => (execModeTransition_goes ..).within rfl
  | .radioStateCommand .. => (execRadioStateCommand_goes ..).within rfl
  | .radioStateReached .. => (execRadioStateReached_goes ..).within rfl
  | .synthUnlock .. => (execSynthUnlock_goes ..).within rfl
  | .freqWrite .. => (execFreqWrite_goes ..).within rfl
  | .tempDelta .. => (execTempDelta_goes ..).within rfl
  | .calibrationStart .. => (execCalibrationStart_goes ..).within rfl
  | .calibrationDone .. => (execCalibrationDone_goes ..).within rfl
  | .calHoldExpired => (execCalHoldExpired_goes ..).within rfl
  | .adcSaturation .. => (execAdcSaturation_goes ..).within rfl
  | .profileWrite .. => (execProfileWrite_goes ..).within rfl
  | .reglockSet .. => (execReglockSet_goes ..).within rfl
  | .regCertWrite .. => (execRegCertWrite_goes ..).within rfl
  | .dutySecondTick => (execDutySecondTick_goes ..).within rfl
  | .programStop => (execProgramStop_goes ..).within rfl
  | .testStop => (execTestStop_goes ..).within rfl
  | .testCw => (execTestCw_goes ..).within rfl
  | .modcarrier => (execModcarrier_goes ..).within rfl
  | .perTx => (execPerTx_goes ..).within rfl
  | .perRx => (execPerRx_goes ..).within rfl
  | .calread => (execCalread_goes ..).within rfl
  | .testDurationEnd => (execTestDurationEnd_goes ..).within rfl
  | .rxProfileWrite .. => (execRxProfileWrite_goes ..).within rfl
  | .twinEnWrite .. => (execTwinEnWrite_goes ..).within rfl
  | .channelMapRebuild => (execChannelMapRebuild_goes ..).within rfl
  | .rxWindowOpen .. => (execRxWindowOpen_goes ..).within rfl
  | .rxWindowClose .. => (execRxWindowClose_goes ..).within rfl
  | .syncMatch .. => (execSyncMatch_goes ..).within rfl
  | .laneFrameEnd .. => (execLaneFrameEnd_goes ..).within rfl
  | .blankingEnd => (execBlankingEnd_goes ..).within rfl
  | .twinPairTimeout .. => (execTwinPairTimeout_goes ..).within rfl
  | .leakConverged .. => (execLeakConverged_goes ..).within rfl
  | .leakResidualCheck .. => (execLeakResidualCheck_goes ..).within rfl
  | .txProfileWrite .. => (execTxProfileWrite_goes ..).within rfl
  | .captureStage .. => (execCaptureStage_goes ..).within rfl
  | .phrStage .. => (execPhrStage_goes ..).within rfl
  | .decodeStage .. => (execDecodeStage_goes ..).within rfl
  | .crcCheck .. => (execCrcCheck_goes ..).within rfl
  | .parseStage .. => (execParseStage_goes ..).within rfl
  | .lookupStage .. => (execLookupStage_goes ..).within rfl
  | .secureRxStage .. => (execSecureRxStage_goes ..).within rfl
  | .admitStage .. => (execAdmitStage_goes ..).within rfl
  | .deliverStage .. => (execDeliverStage_goes ..).within rfl
  | .dequeueStage .. => (execDequeueStage_goes ..).within rfl
  | .buildStage .. => (execBuildStage_goes ..).within rfl
  | .secureTxStage .. => (execSecureTxStage_goes ..).within rfl
  | .encodeStage .. => (execEncodeStage_goes ..).within rfl
  | .modulateStage .. => (execModulateStage_goes ..).within rfl
  | .maskStage .. => (execMaskStage_goes ..).within rfl
  | .launchStage .. => (execLaunchStage_goes ..).within rfl
  | .lateDrop .. => (execLateDrop_goes ..).within rfl
  | .txRampStart => (execTxRampStart_goes ..).within rfl
  | .txFirstSymbol => (execTxFirstSymbol_goes ..).within rfl
  | .txEnd => (execTxEnd_goes ..).within rfl
  | .rampDownEnd => (execRampDownEnd_goes ..).within rfl
  | .maskPeriodogram .. => (execMaskPeriodogram_goes ..).within rfl
  | .imageWrite .. => (execImageWrite_goes ..).within rfl
  | .loadProgram .. => (execLoadProgram_goes ..).within rfl
  | .loadCheckDone => (execLoadCheckDone_goes ..).within rfl
  | .armSwap => (execArmSwap_goes ..).within rfl
  | .programCancel => (execProgramCancel_goes ..).within rfl
  | .programClear => (execProgramClear_goes ..).within rfl
  | .firstProgramStart => (execFirstProgramStart_goes ..).within rfl
  | .slotBoundary .. => (execSlotBoundary_goes ..).within rfl
  | .twinMismatch .. => (execTwinMismatch_goes ..).within rfl
  | .twinLockup => (execTwinLockup_goes ..).within rfl
  | .twintestInject .. => (execTwintestInject_goes ..).within rfl
  | .dropPop => (execDropPop_goes ..).within rfl
  | .asnLRead => (execAsnLRead_goes ..).within rfl
  | .rateAccumulatorOverflow => (execRateAccumulatorOverflow_goes ..).within rfl
  | .contextWrite .. => (execContextWrite_goes ..).within rfl
  | .contextRead .. => (execContextRead_goes ..).within rfl
  | .contextDelete .. => (execContextDelete_goes ..).within rfl
  | .ackReceived .. => (execAckReceived_goes ..).within rfl
  | .ackWindowClose .. => (execAckWindowClose_goes ..).within rfl
  | .adriftEntry => (execAdriftEntry_goes ..).within rfl
  | .adriftTimeout => (execAdriftTimeout_goes ..).within rfl
  | .scanDwellEnd => (execScanDwellEnd_goes ..).within rfl
  | .syncScan => (execSyncScan_goes ..).within rfl
  | .syncStop => (execSyncStop_goes ..).within rfl
  | .syncPoll => (execSyncPoll_goes ..).within rfl
  | .txPush .. => (execTxPush_goes ..).within rfl
  | .txDonePop => (execTxDonePop_goes ..).within rfl
  | .queueFlush .. => (execQueueFlush_goes ..).within rfl
  | .flushPending => (execFlushPending_goes ..).within rfl
  | .dqRelease .. => (execDqRelease_goes ..).within rfl
  | .fbcfgWrite .. => (execFbcfgWrite_goes ..).within rfl
  | .keyLoad .. => (execKeyLoad_goes ..).within rfl
  | .keyClear .. => (execKeyClear_goes ..).within rfl
  | .keyCommandApply .. => (execKeyCommandApply_goes ..).within rfl
  | .keyOwnerWrite .. => (execKeyOwnerWrite_goes ..).within rfl
  | .keyExhausted .. => (execKeyExhausted_goes ..).within rfl
  | .cipherSubmit .. => (execCipherSubmit_goes ..).within rfl
  | .cipherChunkEnd .. => (execCipherChunkEnd_goes ..).within rfl
  | .cipherDone .. => (execCipherDone_goes ..).within rfl
  | .pageAbort .. => (execPageAbort_goes ..).within rfl
  | .cipherFault .. => (execCipherFault_goes ..).within rfl
  | .cipherRequestObject .. => (execCipherRequestObject_goes ..).within rfl
  | .acqPush => (execAcqPush_goes ..).within rfl
  | .acqAbort => (execAcqAbort_goes ..).within rfl
  | .acqDone .. => (execAcqDone_goes ..).within rfl
  | .acqPop => (execAcqPop_goes ..).within rfl
  | .blockBoundary .. => (execBlockBoundary_goes ..).within rfl
  | .lockMonitorWindow .. => (execLockMonitorWindow_goes ..).within rfl
  | .spectrumUpdate .. => (execSpectrumUpdate_goes ..).within rfl
  | .jammingUpdate .. => (execJammingUpdate_goes ..).within rfl
  | .gnssAgcStep .. => (execGnssAgcStep_goes ..).within rfl
  | .secondMark .. => (execSecondMark_goes ..).within rfl
  | .timePulse .. => (execTimePulse_goes ..).within rfl
  | .measLatch .. => (execMeasLatch_goes ..).within rfl
  | .gtimeSet => (execGtimeSet_goes ..).within rfl
  | .gtphaseTrim .. => (execGtphaseTrim_goes ..).within rfl
  | .timeValidWrite .. => (execTimeValidWrite_goes ..).within rfl
  | .steerForce => (execSteerForce_goes ..).within rfl
  | .steerResetI => (execSteerResetI_goes ..).within rfl
  | .rtcTick => (execRtcTick_goes ..).within rfl
  | .alarmFire => (execAlarmFire_goes ..).within rfl
  | .oscStop => (execOscStop_goes ..).within rfl
  | .oscReturn => (execOscReturn_goes ..).within rfl
  | .rtcSet => (execRtcSet_goes ..).within rfl
  | .rtcSetAt => (execRtcSetAt_goes ..).within rfl
  | .rtcSetCancel => (execRtcSetCancel_goes ..).within rfl
  | .rtcSetApply => (execRtcSetApply_goes ..).within rfl
  | .setFromNetworkTime .. => (execSetFromNetworkTime_goes ..).within rfl
  | .rtcMeasure => (execRtcMeasure_goes ..).within rfl
  | .measAbort => (execMeasAbort_goes ..).within rfl
  | .measureDone .. => (execMeasureDone_goes ..).within rfl
  | .timeRegisterRead .. => (execTimeRegisterRead_goes ..).within rfl
  | .shadowTimeout .. => (execShadowTimeout_goes ..).within rfl
  | .alarmArm .. => (execAlarmArm_goes ..).within rfl
  | .rtcTrimWrite .. => (execRtcTrimWrite_goes ..).within rfl
  | .supplySwitch => (execSupplySwitch_goes ..).within rfl
  | .supplyReturn => (execSupplyReturn_goes ..).within rfl
  | .backupPowerOn => (execBackupPowerOn_goes ..).within rfl
  | .comparatorSample .. => (execComparatorSample_goes ..).within rfl
  | .timerTick .. => (execTimerTick_goes ..).within rfl
  | .timerReload .. => (execTimerReload_goes ..).within rfl
  | .timerStart .. => (execTimerStart_goes ..).within rfl
  | .timerStop .. => (execTimerStop_goes ..).within rfl
  | .cmpWrite .. => (execCmpWrite_goes ..).within rfl
  | .compareImmediateFire .. => (execCompareImmediateFire_goes ..).within rfl
  | .tnetRead => (execTnetRead_goes ..).within rfl
  | .channelPulse .. => (execChannelPulse_goes ..).within rfl
  | .evrFire .. => (execEvrFire_goes ..).within rfl
  | .softwareEvent .. => (execSoftwareEvent_goes ..).within rfl
  | .pinEdge .. => (execPinEdge_goes ..).within rfl
  | .stuckDetect .. => (execStuckDetect_goes ..).within rfl
  | .stuckClear .. => (execStuckClear_goes ..).within rfl
  | .rateWindowEnd .. => (execRateWindowEnd_goes ..).within rfl
  | .stampRead .. => (execStampRead_goes ..).within rfl
  | .add .. => (execAdd_goes ..).within rfl
  | .sub .. => (execSub_goes ..).within rfl
  | .addc .. => (execAddc_goes ..).within rfl
  | .subc .. => (execSubc_goes ..).within rfl
  | .and .. => (execAnd_goes ..).within rfl
  | .or .. => (execOr_goes ..).within rfl
  | .xor .. => (execXor_goes ..).within rfl
  | .andn .. => (execAndn_goes ..).within rfl
  | .shl .. => (execShl_goes ..).within rfl
  | .shr .. => (execShr_goes ..).within rfl
  | .sar .. => (execSar_goes ..).within rfl
  | .rol .. => (execRol_goes ..).within rfl
  | .mul .. => (execMul_goes ..).within rfl
  | .mulhs .. => (execMulhs_goes ..).within rfl
  | .mulhu .. => (execMulhu_goes ..).within rfl
  | .divs .. => (execDivs_goes ..).within rfl
  | .divu .. => (execDivu_goes ..).within rfl
  | .rems .. => (execRems_goes ..).within rfl
  | .remu .. => (execRemu_goes ..).within rfl
  | .mins .. => (execMins_goes ..).within rfl
  | .maxs .. => (execMaxs_goes ..).within rfl
  | .addi .. => (execAddi_goes ..).within rfl
  | .andi .. => (execAndi_goes ..).within rfl
  | .ori .. => (execOri_goes ..).within rfl
  | .xori .. => (execXori_goes ..).within rfl
  | .shi .. => (execShi_goes ..).within rfl
  | .lui .. => (execLui_goes ..).within rfl
  | .cmp .. => (execCmp_goes ..).within rfl
  | .cmpi .. => (execCmpi_goes ..).within rfl
  | .mov .. => (execMov_goes ..).within rfl
  | .tagof .. => (execTagof_goes ..).within rfl
  | .retag .. => (execRetag_goes ..).within rfl
  | .chktag .. => (execChktag_goes ..).within rfl
  | .ldw .. => (execLdw_goes ..).within rfl
  | .ldh .. => (execLdh_goes ..).within rfl
  | .ldhu .. => (execLdhu_goes ..).within rfl
  | .ldb .. => (execLdb_goes ..).within rfl
  | .ldbu .. => (execLdbu_goes ..).within rfl
  | .stw .. => (execStw_goes ..).within rfl
  | .sth .. => (execSth_goes ..).within rfl
  | .stb .. => (execStb_goes ..).within rfl
  | .addp .. => (execAddp_goes ..).within rfl
  | .addpi .. => (execAddpi_goes ..).within rfl
  | .subp .. => (execSubp_goes ..).within rfl
  | .lea .. => (execLea_goes ..).within rfl
  | .leac .. => (execLeac_goes ..).within rfl
  | .pushm .. => (execPushm_goes ..).within rfl
  | .popm .. => (execPopm_goes ..).within rfl
  | .cas .. => (execCas_goes ..).within rfl
  | .br .. => (execBr_goes ..).within rfl
  | .bt .. => (execBt_goes ..).within rfl
  | .bf .. => (execBf_goes ..).within rfl
  | .jmp .. => (execJmp_goes ..).within rfl
  | .call .. => (execCall_goes ..).within rfl
  | .ret .. => (execRet_goes ..).within rfl
  | .trap .. => (execTrap_goes ..).within rfl
  | .bkpt .. => (execBkpt_goes ..).within rfl
  | .wait .. => (execWait_goes ..).within rfl
  | .waitWake .. => (execWaitWake_goes ..).within rfl
  | .fence .. => (execFence_goes ..).within rfl
  | .eret .. => (execEret_goes ..).within rfl
  | .mfs .. => (execMfs_goes ..).within rfl
  | .mts .. => (execMts_goes ..).within rfl
  | .segw .. => (execSegw_goes ..).within rfl
  | .segr .. => (execSegr_goes ..).within rfl
  | .iena .. => (execIena_goes ..).within rfl
  | .idis .. => (execIdis_goes ..).within rfl
  | .illegal .. => (execIllegal_goes ..).within rfl
  | .interruptEntry .. => (execInterruptEntry_goes ..).within rfl
  | .impreciseBusError .. => (execImpreciseBusError_goes ..).within rfl
  | .debugHalt .. => (execDebugHalt_goes ..).within rfl
  | .debugResume .. => (execDebugResume_goes ..).within rfl
  | .core1Run => (execCore1Run_goes ..).within rfl
  | .core1Stop => (execCore1Stop_goes ..).within rfl
  | .grantWindowWrite .. => (execGrantWindowWrite_goes ..).within rfl
  | .checkerMismatch => (execCheckerMismatch_goes ..).within rfl
  | .mpy .. => (execMpy_goes ..).within rfl
  | .mac .. => (execMac_goes ..).within rfl
  | .msu .. => (execMsu_goes ..).within rfl
  | .fadds .. => (execFadds_goes ..).within rfl
  | .fsubs .. => (execFsubs_goes ..).within rfl
  | .fmulr .. => (execFmulr_goes ..).within rfl
  | .aclr .. => (execAclr_goes ..).within rfl
  | .amov .. => (execAmov_goes ..).within rfl
  | .aadd .. => (execAadd_goes ..).within rfl
  | .asub .. => (execAsub_goes ..).within rfl
  | .aneg .. => (execAneg_goes ..).within rfl
  | .aabs .. => (execAabs_goes ..).within rfl
  | .ashl .. => (execAshl_goes ..).within rfl
  | .ashr .. => (execAshr_goes ..).within rfl
  | .mvaf .. => (execMvaf_goes ..).within rfl
  | .mvfa .. => (execMvfa_goes ..).within rfl
  | .mvah .. => (execMvah_goes ..).within rfl
  | .mval .. => (execMval_goes ..).within rfl
  | .mvga .. => (execMvga_goes ..).within rfl
  | .sxset .. => (execSxset_goes ..).within rfl
  | .tap .. => (execTap_goes ..).within rfl
  | .rep .. => (execRep_goes ..).within rfl
  | .endrep .. => (execEndrep_goes ..).within rfl
  | .rsave .. => (execRsave_goes ..).within rfl
  | .rrest .. => (execRrest_goes ..).within rfl
  | .patrolRead .. => (execPatrolRead_goes ..).within rfl
  | .flipArm => (execFlipArm_goes ..).within rfl
  | .mergeFlush => (execMergeFlush_goes ..).within rfl
  | .mergeIdleFlush => (execMergeIdleFlush_goes ..).within rfl
  | .faultReport .. => (execFaultReport_goes ..).within rfl
  | .faultClose .. => (execFaultClose_goes ..).within rfl
  | .faultPop => (execFaultPop_goes ..).within rfl
  | .faultInject .. => (execFaultInject_goes ..).within rfl
  | .readPage .. => (execReadPage_goes ..).within rfl
  | .programPage .. => (execProgramPage_goes ..).within rfl
  | .eraseBlock .. => (execEraseBlock_goes ..).within rfl
  | .readCounter .. => (execReadCounter_goes ..).within rfl
  | .flashSuspend .. => (execFlashSuspend_goes ..).within rfl
  | .resumeFlash .. => (execResumeFlash_goes ..).within rfl
  | .flushMerge .. => (execFlushMerge_goes ..).within rfl
  | .flashPulseEnd .. => (execFlashPulseEnd_goes ..).within rfl
  | .flashDone .. => (execFlashDone_goes ..).within rfl
  | .flashDonePop => (execFlashDonePop_goes ..).within rfl
  | .flashPageMiss .. => (execFlashPageMiss_goes ..).within rfl
  | .autoResume .. => (execAutoResume_goes ..).within rfl
  | .eraseStarve .. => (execEraseStarve_goes ..).within rfl
  | .flashOwnerWrite .. => (execFlashOwnerWrite_goes ..).within rfl
  | .spiTransaction .. => (execSpiTransaction_goes ..).within rfl
  | .canSegment .. => (execCanSegment_goes ..).within rfl
  | .canBusoff => (execCanBusoff_goes ..).within rfl
  | .udpDatagram .. => (execUdpDatagram_goes ..).within rfl
  | .ethLink .. => (execEthLink_goes ..).within rfl
  | .uartFrame .. => (execUartFrame_goes ..).within rfl
  | .objectRequest => (execObjectRequest_goes ..).within rfl
  | .objectResponse => (execObjectResponse_goes ..).within rfl
  | .meshRequest .. => (execMeshRequest_goes ..).within rfl
  | .meshReply => (execMeshReply_goes ..).within rfl
  | .appTimeout => (execAppTimeout_goes ..).within rfl
  | .odpRead .. => (execOdpRead_goes ..).within rfl
  | .odpWrite .. => (execOdpWrite_goes ..).within rfl
  | .odpReadSeg .. => (execOdpReadSeg_goes ..).within rfl
  | .odpWriteSeg .. => (execOdpWriteSeg_goes ..).within rfl
  | .odpInfo .. => (execOdpInfo_goes ..).within rfl
  | .odpClaim .. => (execOdpClaim_goes ..).within rfl
  | .odpKeepalive .. => (execOdpKeepalive_goes ..).within rfl
  | .odpRelease .. => (execOdpRelease_goes ..).within rfl
  | .odpHandover .. => (execOdpHandover_goes ..).within rfl
  | .odpOwner .. => (execOdpOwner_goes ..).within rfl
  | .odpRecovery .. => (execOdpRecovery_goes ..).within rfl
  | .claimWindowClose => (execClaimWindowClose_goes ..).within rfl
  | .ownerLost => (execOwnerLost_goes ..).within rfl
  | .handoverTimeout => (execHandoverTimeout_goes ..).within rfl
  | .stagingTimeout .. => (execStagingTimeout_goes ..).within rfl
  | .snapshotTimeout .. => (execSnapshotTimeout_goes ..).within rfl
  | .loadLevel .. => (execLoadLevel_goes ..).within rfl
  | .restoreDefaults .. => (execRestoreDefaults_goes ..).within rfl
  | .delivery => (execDelivery_goes ..).within rfl
  | .txSubmit .. => (execTxSubmit_goes ..).within rfl
  | .txComplete => (execTxComplete_goes ..).within rfl
  | .legacySpiTransaction .. => (execLegacySpiTransaction_goes ..).within rfl
  | .lgyStatusRead => (execLgyStatusRead_goes ..).within rfl
  | .rxfifoRead => (execRxfifoRead_goes ..).within rfl
  | .txfifoWrite .. => (execTxfifoWrite_goes ..).within rfl
  | .rxlevLRead => (execRxlevLRead_goes ..).within rfl
  | .txlevLRead => (execTxlevLRead_goes ..).within rfl
  | .slotcntLRead => (execSlotcntLRead_goes ..).within rfl
  | .irqFlagClear .. => (execIrqFlagClear_goes ..).within rfl
  | .nirqAssert => (execNirqAssert_goes ..).within rfl
  | .basef2Write .. => (execBasef2Write_goes ..).within rfl
  | .flushRx => (execFlushRx_goes ..).within rfl
  | .flushTx => (execFlushTx_goes ..).within rfl
  | .txStart => (execTxStart_goes ..).within rfl
  | .txAbort => (execTxAbort_goes ..).within rfl
  | .ctxWrite => (execCtxWrite_goes ..).within rfl
  | .ctxRead => (execCtxRead_goes ..).within rfl
  | .ctxDelete => (execCtxDelete_goes ..).within rfl
  | .hopWrite => (execHopWrite_goes ..).within rfl
  | .hopRead => (execHopRead_goes ..).within rfl
  | .lgyCal => (execLgyCal_goes ..).within rfl
  | .softReset => (execSoftReset_goes ..).within rfl
  | .cmddone => (execCmddone_goes ..).within rfl
  | .legacySlotBoundary => (execLegacySlotBoundary_goes ..).within rfl
  | .legacyFrameStored .. => (execLegacyFrameStored_goes ..).within rfl
  | .legacyBeaconRx .. => (execLegacyBeaconRx_goes ..).within rfl
  | .bcnmiss => (execBcnmiss_goes ..).within rfl
  | .synclost => (execSynclost_goes ..).within rfl
  | .legacyAckWindowClose => (execLegacyAckWindowClose_goes ..).within rfl
  | .txUnderrun => (execTxUnderrun_goes ..).within rfl
  | .unlockWrite .. => (execUnlockWrite_goes ..).within rfl
  | .unlockTimeout => (execUnlockTimeout_goes ..).within rfl
  | .nativeSwitchover => (execNativeSwitchover_goes ..).within rfl
  | .tagInventory .. => (execTagInventory_goes ..).within rfl
  | .tagStayQuiet .. => (execTagStayQuiet_goes ..).within rfl
  | .readSingleBlock .. => (execReadSingleBlock_goes ..).within rfl
  | .readMultipleBlocks .. => (execReadMultipleBlocks_goes ..).within rfl
  | .writeSingleBlock .. => (execWriteSingleBlock_goes ..).within rfl
  | .tagSelect .. => (execTagSelect_goes ..).within rfl
  | .resetToReady .. => (execResetToReady_goes ..).within rfl
  | .writeAfi .. => (execWriteAfi_goes ..).within rfl
  | .lockAfi .. => (execLockAfi_goes ..).within rfl
  | .writeDsfid .. => (execWriteDsfid_goes ..).within rfl
  | .lockDsfid .. => (execLockDsfid_goes ..).within rfl
  | .getSystemInformation .. => (execGetSystemInformation_goes ..).within rfl
  | .getMultipleBlockSecurityStatus .. => (execGetMultipleBlockSecurityStatus_goes ..).within rfl
  | .extendedReadSingleBlock .. => (execExtendedReadSingleBlock_goes ..).within rfl
  | .extendedWriteSingleBlock .. => (execExtendedWriteSingleBlock_goes ..).within rfl
  | .extendedReadMultipleBlocks .. => (execExtendedReadMultipleBlocks_goes ..).within rfl
  | .extendedGetSystemInformation .. => (execExtendedGetSystemInformation_goes ..).within rfl
  | .extGetMultipleBlockSecurityStatus .. => (execExtGetMultipleBlockSecurityStatus_goes ..).within rfl
  | .getStatus .. => (execGetStatus_goes ..).within rfl
  | .presentPassword .. => (execPresentPassword_goes ..).within rfl
  | .changePassword .. => (execChangePassword_goes ..).within rfl
  | .unsupportedCommand .. => (execUnsupportedCommand_goes ..).within rfl
  | .tagLockout .. => (execTagLockout_goes ..).within rfl
  | .tagBlockWrite .. => (execTagBlockWrite_goes ..).within rfl
  | .clearAttempts .. => (execClearAttempts_goes ..).within rfl
  | .tagWriteDone .. => (execTagWriteDone_goes ..).within rfl
  | .tagPowerUp => (execTagPowerUp_goes ..).within rfl
  | .fieldOn .. => (execFieldOn_goes ..).within rfl
  | .fieldOff .. => (execFieldOff_goes ..).within rfl
  | .reservationEnd => (execReservationEnd_goes ..).within rfl
  | .tagMemoryDataWrite .. => (execTagMemoryDataWrite_goes ..).within rfl
  | .bootRom .. => (execBootRom_goes ..).within rfl
  | .updBegin .. => (execUpdBegin_goes ..).within rfl
  | .updateData .. => (execUpdateData_goes ..).within rfl
  | .updateStaged => (execUpdateStaged_goes ..).within rfl
  | .updCommit .. => (execUpdCommit_goes ..).within rfl
  | .updateAbort .. => (execUpdateAbort_goes ..).within rfl
  | .updConfirm .. => (execUpdConfirm_goes ..).within rfl
  | .trialTimeout => (execTrialTimeout_goes ..).within rfl
  | .swapRequest => (execSwapRequest_goes ..).within rfl
  | .attestationNonce .. => (execAttestationNonce_goes ..).within rfl
  | .customerRootKeyWrite .. => (execCustomerRootKeyWrite_goes ..).within rfl
  | .rInfo .. => (execRInfo_goes ..).within rfl
  | .rBegin .. => (execRBegin_goes ..).within rfl
  | .rData .. => (execRData_goes ..).within rfl
  | .rEnd .. => (execREnd_goes ..).within rfl
  | .rBoot .. => (execRBoot_goes ..).within rfl
  | .recoverySessionTimeout => (execRecoverySessionTimeout_goes ..).within rfl
  | .pkeSm3 .. => (execPkeSm3_goes ..).within rfl
  | .pkeSm2Verify => (execPkeSm2Verify_goes ..).within rfl
  | .pkeSm2Sign => (execPkeSm2Sign_goes ..).within rfl
  | .pkeDone => (execPkeDone_goes ..).within rfl
  | .rngRestart => (execRngRestart_goes ..).within rfl
  | .rngRead => (execRngRead_goes ..).within rfl
  | .rngWord => (execRngWord_goes ..).within rfl
  | .trngHealth => (execTrngHealth_goes ..).within rfl
  | .sleepEnter => (execSleepEnter_goes ..).within rfl
  | .deepSleep => (execDeepSleep_goes ..).within rfl
  | .standbyEnter => (execStandbyEnter_goes ..).within rfl
  | .powerOff => (execPowerOff_goes ..).within rfl
  | .powerEntryComplete => (execPowerEntryComplete_goes ..).within rfl
  | .entryTimeout => (execEntryTimeout_goes ..).within rfl
  | .dozeExit => (execDozeExit_goes ..).within rfl
  | .powerWake .. => (execPowerWake_goes ..).within rfl
  | .returnToRun .. => (execReturnToRun_goes ..).within rfl
  | .wakeStepTimeout .. => (execWakeStepTimeout_goes ..).within rfl
  | .sleepTimer => (execSleepTimer_goes ..).within rfl
  | .vsupSample .. => (execVsupSample_goes ..).within rfl
  | .thermalWarn .. => (execThermalWarn_goes ..).within rfl
  | .clkDeviate .. => (execClkDeviate_goes ..).within rfl
  | .clockFail => (execClockFail_goes ..).within rfl
  | .refOk => (execRefOk_goes ..).within rfl
  | .watchdogTick .. => (execWatchdogTick_goes ..).within rfl
  | .watchdogExpiry .. => (execWatchdogExpiry_goes ..).within rfl
  | .watchdogKick .. => (execWatchdogKick_goes ..).within rfl
  | .watchdogEnable .. => (execWatchdogEnable_goes ..).within rfl
  | .deviceResetCommand .. => (execDeviceResetCommand_goes ..).within rfl
  | .core1ResetCommand .. => (execCore1ResetCommand_goes ..).within rfl
  | .pinReset .. => (execPinReset_goes ..).within rfl
  | .powerOn => (execPowerOn_goes ..).within rfl
  | .deviceReset => (execDeviceReset_goes ..).within rfl
  | .resetRelease .. => (execResetRelease_goes ..).within rfl
  | .holdRelease => (execHoldRelease_goes ..).within rfl
  | .blockReset .. => (execBlockReset_goes ..).within rfl
  | .blockResetRelease .. => (execBlockResetRelease_goes ..).within rfl
  | .gnssRestart .. => (execGnssRestart_goes ..).within rfl
  | .retuneBlankEnd .. => (execRetuneBlankEnd_goes ..).within rfl
  | .thermHotClear .. => (execThermHotClear_goes ..).within rfl
  | .temphi .. => (execTemphi_goes ..).within rfl
  | .backupDomainLost => (execBackupDomainLost_goes ..).within rfl
  | .vioLow => (execVioLow_goes ..).within rfl
  | .vioRestored => (execVioRestored_goes ..).within rfl
  | .busOffRecovery => (execBusOffRecovery_goes ..).within rfl
  | .arpRequest .. => (execArpRequest_goes ..).within rfl
  | .icmpEchoRequest .. => (execIcmpEchoRequest_goes ..).within rfl
  | .debugResetRequest .. => (execDebugResetRequest_goes ..).within rfl
  | .timePulseTrailingEdge => (execTimePulseTrailingEdge_goes ..).within rfl
  | .measureNoref => (execMeasureNoref_goes ..).within rfl

/-- No command may change the queue or the part number. -/
theorem queue_and_part_not_mem_mayChange (c : Instr) : Part.pending ∉ mayChange c ∧ Part.partT ∉ mayChange c := by
  cases c <;> exact of_decide_eq_true rfl

/-- A command completes within its frame, keeps the queue and the part number, and keeps the canonical form. -/
theorem exec_completes (c : Instr) (s : State) : completes c s fun t =>
    (only (mayChange c) s t ∧ t.pending = s.pending ∧ t.partT = s.partT) ∧ (s.wf → t.wf) := by
  obtain ⟨t, ht, hmoves⟩ := exec_goes c s
  obtain ⟨hpending, hpart⟩ := queue_and_part_not_mem_mayChange c
  exact ⟨t, ht, ⟨hmoves.only, hmoves.only _ hpending, hmoves.only _ hpart⟩, hmoves.2⟩

theorem step_of_cons {s : State} {c : Instr} {cs : List Instr} (h : s.pending = c :: cs) :
    step s = exec c { s with pending := cs } := by
  unfold step
  rw [h]

theorem step_of_empty {s : State} (h : s.pending = []) : step s = .next (s.advance 1) := by
  unfold step
  rw [h]

/-- Settles O60: every meaning keeps the maps canonical, and `advance` writes none of them. -/
theorem everyStepKeepsTheCanonicalForm : Obligations.EveryStepKeepsTheCanonicalForm := by
  unfold Obligations.EveryStepKeepsTheCanonicalForm
  intro s hs
  cases hq : s.pending with
  | nil => exact ⟨s.advance 1, step_of_empty hq, (s.advance_moves 1).2 hs, by rw [State.advance_pending, hq]; rfl,
      s.advance_partT 1⟩
  | cons c cs =>
    obtain ⟨t, ht, ⟨-, hpending, hpart⟩, hwf⟩ := exec_completes c { s with pending := cs }
    exact ⟨t, (step_of_cons hq).trans ht, hwf hs, hpending, hpart⟩

/-- Settles O57: the law of each meaning, with the list of `mayChange` as its footprint. -/
theorem everyCommandCompletesWithinItsFrame : Obligations.EveryCommandCompletesWithinItsFrame := by
  unfold Obligations.EveryCommandCompletesWithinItsFrame
  intro c s
  obtain ⟨t, ht, hframe, -⟩ := exec_completes c s
  exact ⟨t, ht, hframe⟩

/-- Settles O58: both branches of `step`. That an empty queue lets one cycle pass is the model's choice (log entry 1). -/
theorem stepTakesTheFrontCommand : Obligations.StepTakesTheFrontCommand := by
  unfold Obligations.StepTakesTheFrontCommand
  refine ⟨fun c cs s h => step_of_cons h, fun s h => ⟨s.advance 1, step_of_empty h, ?_, Moves.only ((s.advance_moves 1).mono rfl), ?_⟩⟩
  all_goals
    unfold State.advance
    split <;> rfl

end Sys2Proof.Machine

/-! ## Multiplication, accumulators and fractions of a core -/
namespace Sys2Proof.Machine

/-! Rounding and saturation (R302, R303). -/

/-- A quotient by 2h with remainder `t`, and a value within h of it. -/
theorem near_quotient {h q t r : Int} (hh : 0 < h) (ht : 0 ≤ t) (hth : t < 2 * h) (hlo : (2 * r - 1) * h ≤ q * (2 * h) + t)
    (hhi : q * (2 * h) + t ≤ (2 * r + 1) * h) : r = q ∨ r = q + 1 := by
  by_contra hne
  rcases (by omega : r ≤ q - 1 ∨ q + 2 ≤ r) with hr | hr
  · have := Int.mul_le_mul_of_nonneg_right (show 2 * r + 1 ≤ 2 * q - 1 by omega) hh.le
    linarith
  · have := Int.mul_le_mul_of_nonneg_right (show 2 * q + 3 ≤ 2 * r - 1 by omega) hh.le
    linarith

/-- R302 determines the rounded value. -/
theorem rounded_of_roundedTo {rnd n : Nat} {v r : Int} (hr : roundedTo rnd v r n = true) : rounded rnd v n = r := by
  cases n with
  | zero =>
    simp only [roundedTo, rounded, if_true, beq_iff_eq] at hr ⊢
    exact hr.symm
  | succ n =>
    have hpow : (2 : Int) ^ (n + 1) = 2 * 2 ^ n := by ring
    have hh : (0 : Int) < 2 ^ n := by positivity
    have hsplit : v / (2 * 2 ^ n) * (2 * 2 ^ n) + v % (2 * 2 ^ n) = v := Int.ediv_mul_add_emod _ _
    have ht := Int.emod_nonneg v (show (2 * 2 ^ n : Int) ≠ 0 by positivity)
    have hlt := Int.emod_lt_of_pos v (show (0 : Int) < 2 * 2 ^ n by positivity)
    unfold roundedTo at hr
    unfold rounded
    rw [if_neg (Nat.succ_ne_zero n)] at hr ⊢
    rw [Nat.add_sub_cancel, hpow] at hr ⊢
    by_cases hdown : rnd = 0
    · subst hdown
      simp only [if_true, Bool.and_eq_true, decide_eq_true_eq] at hr
      have hpos : (0 : Int) < 2 * 2 ^ n := by positivity
      exact le_antisymm (Int.lt_add_one_iff.mp (Int.ediv_lt_of_lt_mul hpos hr.2)) (Int.le_ediv_of_mul_le hpos hr.1)
    generalize (2 : Int) ^ n = h at *
    generalize v / (2 * h) = q at *
    generalize v % (2 * h) = t at *
    subst hsplit
    have hrest : q * (2 * h) + t - q * (2 * h) = t := by ring
    match rnd with
    | 0 => exact absurd rfl hdown
    | 1 =>
      simp only [one_ne_zero, if_true, if_false, Bool.and_eq_true, decide_eq_true_eq] at hr
      dsimp only
      rw [hrest]
      rcases near_quotient hh ht hlt hr.1 hr.2.le with rfl | rfl
      · exact if_neg (by linarith [hr.2])
      · exact if_pos (by linarith [hr.1])
    | rnd + 2 =>
      simp only [Nat.add_eq_zero_iff, OfNat.ofNat_ne_zero, and_false, if_false, Nat.reduceEqDiff, Bool.and_eq_true,
        Bool.or_eq_true, decide_eq_true_eq, beq_iff_eq, bne_iff_ne, ne_eq] at hr
      obtain ⟨⟨hlo, hhi⟩, htie⟩ := hr
      dsimp only
      rw [hrest]
      rcases near_quotient hh ht hlt hlo hhi with rfl | rfl
      · refine if_neg ?_
        rintro (hgt | ⟨rfl, hodd⟩)
        · linarith
        · rcases htie with heven | ⟨-, hne⟩
          · exact hodd heven
          · exact hne (by ring)
      · refine if_pos ?_
        rcases (show h ≤ t by linarith).lt_or_eq with hgt | rfl
        · exact .inl hgt
        · refine .inr ⟨rfl, ?_⟩
          rcases htie with heven | ⟨hne, -⟩
          · omega
          · exact absurd (by ring) hne

theorem product_of_roundedTo {rnd : Nat} {a b r : Int} (hr : roundedTo rnd (a * b) r 31 = true) : product rnd a b = r :=
  rounded_of_roundedTo hr

theorem CoreState.fits_iff {n : Nat} {v : Int} : CoreState.fits n v = true ↔ -(2 ^ (n - 1)) ≤ v ∧ v < 2 ^ (n - 1) := by
  simp [CoreState.fits]

theorem CoreState.overflow_of_noTrap {c : CoreState} (hov : bit c.st 19 = false) (k : Nat) :
    c.overflow k = ([], { c with st := setBit c.st (20 + k) }) := by
  rw [CoreState.overflow, if_neg (by simp [hov])]

/-- The 40-bit pattern of a value, read back. -/
theorem signed_unsigned_40 (v : Int) : signed 40 (unsigned 40 v) = (v + 2 ^ 39) % 2 ^ 40 - 2 ^ 39 := by
  unfold signed unsigned
  dsimp only
  split <;> omega

/-- The accumulator's value of R302 and R303 where an overflow does not trap. -/
theorem State.toAcc_accumulated {z : State} {k : Bool} {c : CoreState} (hcore : z.core k = c) (hov : bit c.st 19 = false)
    (ts : List Trap) (an : Nat) (v : Int) : z.toAcc k ts an v = z.okIf k ts (c.accumulated an v) := by
  subst hcore
  by_cases hfits : CoreState.fits 40 v = true
  · have hrange := CoreState.fits_iff.mp hfits
    simp only [State.toAcc, CoreState.sat40, CoreState.accumulated, if_pos hfits,
      if_pos (show -549755813888 ≤ v ∧ v ≤ 549755813887 by omega), List.append_nil]
  · have hrange := mt CoreState.fits_iff.mpr hfits
    simp only [State.toAcc, CoreState.sat40, CoreState.accumulated, if_neg hfits,
      if_neg (show ¬(-549755813888 ≤ v ∧ v ≤ 549755813887) by omega), CoreState.overflow_of_noTrap hov, List.append_nil,
      signed_unsigned_40]
    rfl

/-- The fraction of R302 and R303 where an overflow does not trap. -/
theorem State.toReg_fraction {z : State} {k : Bool} {c : CoreState} (hcore : z.core k = c) (hov : bit c.st 19 = false)
    (ts : List Trap) (gd : Nat) (v : Int) : z.toReg k ts gd v = z.okIf k ts (c.fraction gd v) := by
  subst hcore
  by_cases hfits : CoreState.fits 32 v = true
  · have hrange := CoreState.fits_iff.mp hfits
    simp only [State.toReg, CoreState.sat32, CoreState.fraction, if_pos hfits,
      if_pos (show -2147483648 ≤ v ∧ v ≤ 2147483647 by omega), List.append_nil]
  · have hrange := mt CoreState.fits_iff.mpr hfits
    simp only [State.toReg, CoreState.sat32, CoreState.fraction, if_neg hfits,
      if_neg (show ¬(-2147483648 ≤ v ∧ v ≤ 2147483647) by omega), CoreState.overflow_of_noTrap hov, List.append_nil]
    rfl

theorem CoreState.accumulated_kept (c : CoreState) (an : Nat) (v : Int) : (c.accumulated an v).reps = c.reps ∧
    (c.accumulated an v).dctrl = c.dctrl ∧ (c.accumulated an v).pc = c.pc := by
  unfold CoreState.accumulated
  split <;> exact ⟨rfl, rfl, rfl⟩

theorem CoreState.fraction_kept (c : CoreState) (gd : Nat) (v : Int) : (c.fraction gd v).reps = c.reps ∧
    (c.fraction gd v).dctrl = c.dctrl ∧ (c.fraction gd v).pc = c.pc := by
  unfold CoreState.fraction
  split <;> exact ⟨rfl, rfl, rfl⟩

/-! The instructions by what they put into an accumulator or a register (R304). -/

section
variable {s z : State} {k : Bool} {c : CoreState} {ga gb : Nat} {a b : Word} {ts : List Trap} {v w : Int}

theorem Executes.plain_toAcc (h : Executes s k z c) (hov : bit c.st 19 = false) {body : State → CoreState → Res} {an : Nat}
    (hbody : body z c = z.toAcc k ts an v) (hts : ts = []) (hv : v = w) :
    s.plain k body = .next (z.stepTo k (c.accumulated an w)) := by
  subst hv
  obtain ⟨hreps, hdctrl, hpc⟩ := c.accumulated_kept an v
  exact h.plain_ok (hbody.trans (State.toAcc_accumulated h.core hov ts an v)) hts hreps hdctrl hpc

theorem Executes.plain_toReg (h : Executes s k z c) (hov : bit c.st 19 = false) {body : State → CoreState → Res} {gd : Nat}
    (hbody : body z c = z.toReg k ts gd v) (hts : ts = []) (hv : v = w) :
    s.plain k body = .next (z.stepTo k (c.fraction gd w)) := by
  subst hv
  obtain ⟨hreps, hdctrl, hpc⟩ := c.fraction_kept gd v
  exact h.plain_ok (hbody.trans (State.toReg_fraction h.core hov ts gd v)) hts hreps hdctrl hpc

theorem checkTag_two_frac (x y : Word) : checkTag 1 ⟨.frac, x⟩ isFrac ++ checkTag 2 ⟨.frac, y⟩ isFrac = [] := rfl

theorem Executes.productOp (h : Executes s k z c) (hov : bit c.st 19 = false) (hga : c.reg ga = ⟨.frac, a⟩)
    (hgb : c.reg gb = ⟨.frac, b⟩) {an : Nat} {m r : Int} (hm : c.acc.getD an 0 = m)
    (hr : roundedTo (c.st / 2 ^ 16 % 4) (a.toInt * b.toInt) r 31 = true) (f : Int → Int → Int) :
    s.productOp k an ga gb f = .next (z.stepTo k (c.accumulated an (f m r))) := by
  refine h.plain_toAcc hov rfl (by rw [hga, hgb, checkTag_two_frac]) ?_
  rw [hga, hgb, CoreState.accum, hm]
  exact congrArg (f m) (product_of_roundedTo hr)

theorem Executes.fracOp (h : Executes s k z c) (hov : bit c.st 19 = false) (gd : Nat) (hga : c.reg ga = ⟨.frac, a⟩)
    (hgb : c.reg gb = ⟨.frac, b⟩) (f : Nat → Int → Int → Int) :
    s.fracOp k gd ga gb f = .next (z.stepTo k (c.fraction gd (f c.rounding a.toInt b.toInt))) :=
  h.plain_toReg hov rfl (by rw [hga, hgb, checkTag_two_frac]) (by rw [hga, hgb])

theorem Executes.accOp (h : Executes s k z c) (hov : bit c.st 19 = false) (an am : Nat) (f : Nat → Int → Int → Int)
    (hf : f c.rounding (c.acc.getD an 0) (c.acc.getD am 0) = w) :
    s.accOp k an am f = .next (z.stepTo k (c.accumulated an w)) :=
  h.plain_toAcc hov rfl rfl hf

/-- SXSET writes the four bits of ARG, and clears AOV and SOV where ARG has bit 4 (R304). -/
theorem sxset_st {st arg n : Nat} (harg : arg < 32) (hn : n = st % 2 ^ 16 + 2 ^ 16 * (arg % 16) + 2 ^ 20 * (st / 2 ^ 20)) :
    (if bit arg 4 then splice (splice st 16 4 arg) 20 2 0 else splice st 16 4 arg) =
      if arg < 16 then n else n - 2 ^ 20 * (st / 2 ^ 20 % 4) := by
  have hset : splice st 16 4 arg = n := by
    unfold splice slice
    omega
  have hbit : bit arg 4 = decide (16 ≤ arg) := by
    unfold bit
    rw [Bool.eq_iff_iff, beq_iff_eq, decide_eq_true_eq]
    omega
  rw [hset, hbit]
  by_cases h : arg < 16
  · rw [if_pos h, if_neg (by simp [h])]
  · rw [if_neg h, if_pos (by simpa using h)]
    unfold splice slice
    omega

/-- The 40 bits that MVGA puts together (R304). -/
theorem mvga_value (a b : Word) : signed 40 (a.toNat % 256 * 2 ^ 32 + b.toNat) = (a.setWidth 8 ++ b : BitVec 40).toInt := by
  have happ : (a.setWidth 8 ++ b : BitVec 40).toNat = a.toNat % 256 * 2 ^ 32 + b.toNat := by
    rw [BitVec.toNat_append, ← Nat.shiftLeft_add_eq_or_of_lt b.isLt, BitVec.toNat_setWidth, Nat.shiftLeft_eq]
  have hlt := (a.setWidth 8 ++ b : BitVec 40).isLt
  rw [BitVec.toInt_eq_toNat_cond, happ]
  rw [happ] at hlt
  unfold signed
  rw [Nat.mod_eq_of_lt hlt]

end

/-- Settles O33: each instruction puts a value of R302 into an accumulator or a register, once its operands are checked. -/
theorem coreMultiplyAccumulate : Obligations.CoreMultiplyAccumulate := by
  unfold Obligations.CoreMultiplyAccumulate
  refine ⟨?products, ?sums, ?fmulr, ?accumulators, ?shifts, ?parts, ?sxset, ?mvfa, ?mvga⟩
  case products =>
    intro k s z c an ga gb a b m r hb hc hq hga hgb hov hm hr
    have hop := Executes.productOp ⟨hb, hc, hq⟩ hov hga hgb hm hr
    exact ⟨hop fun _ p => p, hop fun a p => a + p, hop fun a p => a - p⟩
  case sums =>
    intro k s z c gd ga gb a b hb hc hq hga hgb hov
    have hop := Executes.fracOp ⟨hb, hc, hq⟩ hov gd hga hgb
    exact ⟨hop fun _ a b => a + b, hop fun _ a b => a - b⟩
  case fmulr =>
    intro k s z c gd ga gb a b r hb hc hq hga hgb hov hr
    obtain rfl := product_of_roundedTo hr
    exact Executes.fracOp ⟨hb, hc, hq⟩ hov gd hga hgb fun rnd a b => product rnd a b
  case accumulators =>
    intro k s z c an am a m j hb hc hq hov ha hm
    subst ha hm
    have hexec : Executes s k z c := ⟨hb, hc, hq⟩
    have habs : ∀ m : Int, (if m < 0 then -m else m) = m.natAbs := fun m => by split <;> omega
    exact ⟨hexec.accOp hov an am (fun _ _ m => m) rfl, hexec.accOp hov an am (fun _ a m => a + m) rfl,
      hexec.accOp hov an am (fun _ a m => a - m) rfl, hexec.accOp hov an am (fun _ _ m => -m) rfl,
      hexec.accOp hov an am (fun _ _ m => if m < 0 then -m else m) (habs _),
      hexec.accOp hov an am (fun _ _ m => m * 2 ^ j.val) rfl⟩
  case shifts =>
    intro k s z c an am gd m r j hb hc hq hov hm hr
    subst hm
    have hexec : Executes s k z c := ⟨hb, hc, hq⟩
    exact ⟨hexec.accOp hov an am (fun rnd _ m => rounded rnd m j) (rounded_of_roundedTo hr),
      hexec.plain_toReg hov rfl rfl (rounded_of_roundedTo hr)⟩
  case parts =>
    intro k s z c an am gd hb hc hq
    have hexec : Executes s k z c := ⟨hb, hc, hq⟩
    exact ⟨hexec.plain_ok (ts := []) rfl rfl rfl rfl rfl, hexec.plain_setReg (ts := []) rfl rfl rfl,
      hexec.plain_setReg (ts := []) rfl rfl rfl⟩
  case sxset =>
    intro k s z c arg n hb hc hq hrnd hn
    rw [← sxset_st arg.isLt hn]
    exact Executes.plain_ok ⟨hb, hc, hq⟩ rfl (if_neg hrnd) rfl rfl rfl
  case mvfa =>
    intro k s z c an ga a hb hc hq hga
    refine Executes.plain_ok (ts := checkTag 1 (c.reg ga) isFrac) ⟨hb, hc, hq⟩ ?_ (by rw [hga]; rfl) rfl rfl rfl
    simp only [hga]
  case mvga =>
    intro k s z c an ga gb a b t hb hc hq hga hgb ht
    refine Executes.plain_ok (ts := checkTag 1 (c.reg ga) isInt ++ checkTag 2 (c.reg gb) isIntRaw) ⟨hb, hc, hq⟩ ?_ ?_ rfl rfl rfl
    · simp only [hga, hgb, mvga_value]
    · rw [hga, hgb]
      simp [checkTag, isInt, isIntRaw, ht]

end Sys2Proof.Machine

/-! ## The patrol and the fault collector -/
namespace Sys2Proof.Machine

/-! The patrol (R316, R319). -/

/-- The word at `a` with its marker: zeroed, in system SRAM tagged EMPTY, and poisoned. -/
def State.markPoison (s : State) (a : Nat) : State :=
  let z := s.setBytes a [0, 0, 0, 0]
  let z := if inSys a then z.setTag a .empty else z
  { z with poison := Sparse.write false z.poison a true }

theorem State.poisonWord_eq (s : State) {a : Nat} (ha : a % 4 = 0) (mask : Nat) (scrub : Bool) :
    s.poisonWord a mask scrub = (((s.markPoison a).bump MEM_STATUS_POISON_CNT).report (if scrub then 0 else 2)
      (if inSys a then 3 else 4) a mask scrub).raise 109 := by
  simp only [State.poisonWord, ha, Nat.sub_zero]
  rfl

theorem State.get_markPoison (s : State) (a : Nat) (f : RegField) : (s.markPoison a).get f = s.get f := by
  refine State.get_congr ?_ f
  unfold State.markPoison
  dsimp only
  split <;> exact s.setBytes_fields _ _

theorem State.byte_markPoison (s : State) (a k : Nat) : (s.markPoison a).byte k = (s.setBytes a [0, 0, 0, 0]).byte k := by
  unfold State.markPoison
  dsimp only
  split <;> rfl

/-- R316: a word of system SRAM that becomes poisoned. -/
theorem State.poisonWord_effect (s : State) {a : Nat} (ha : a % 4 = 0) (hsys : inSys a = true) (mask : Nat) (scrub : Bool) :
    (s.poisonWord a mask scrub).poisoned a = true ∧ (s.poisonWord a mask scrub).num a 4 = 0 ∧
      (s.poisonWord a mask scrub).tagOf a = .empty ∧ (s.poisonWord a mask scrub).event 109 = true := by
  rw [s.poisonWord_eq ha]
  refine ⟨?_, ?_, ?_, State.event_raise _ _⟩
  · simp only [State.poisoned, State.raise_poison, State.report_poison, State.bump_poison, ha, Nat.sub_zero, State.markPoison]
    exact (Sparse.read_write false _ _ _ _).trans (if_pos rfl)
  · have hbytes : ∀ k, k < 4 → ((((s.markPoison a).bump MEM_STATUS_POISON_CNT).report (if scrub then 0 else 2)
        (if inSys a then 3 else 4) a mask scrub).raise 109).byte (a + k) = (s.setBytes a [0, 0, 0, 0]).byte (a + k) := fun k _ => by
      rw [State.byte_raise, State.byte_report, State.byte_bump, State.byte_markPoison]
    rw [State.num_congr hbytes, State.num]
    exact congrArg leNat (s.bytes_setBytes a [0, 0, 0, 0])
  · simp only [State.tagOf, State.raise_memctl, State.report_memctl, State.bump_memctl, State.markPoison, hsys, if_true,
      State.setTag, ha, Nat.sub_zero]
    exact (Sparse.read_write Tag.empty _ _ _ _).trans (if_pos rfl)

theorem State.get_poisonWord (s : State) {a : Nat} (ha : a % 4 = 0) (mask : Nat) (scrub : Bool) {f : RegField}
    (hf : f.inBlock 12) (hcount : f.key ≠ MEM_STATUS_POISON_CNT.key) : (s.poisonWord a mask scrub).get f = s.get f := by
  rw [s.poisonWord_eq ha, (State.raise_moves _ _).get_eq hf (by decide) rfl, (State.report_moves _ _ _ _ _ _).get_eq hf
    (by decide) rfl, State.get_bump_ne _ hcount, State.get_markPoison]

/-- The patrol moves on by one word of each SRAM. -/
def State.patrolled (s : State) : State :=
  { s with memctl := { s.memctl with patrolSys := patrolNext s.memctl.patrolSys 0x20000000 0x200000,
                                     patrolPkt := patrolNext s.memctl.patrolPkt 0x24000000 0x90000 } }

/-- Counting a found word and moving on leave the words and their tags. -/
theorem State.patrolled_bump (z : State) (f : RegField) (a n : Nat) : (z.bump f).patrolled.poisoned a = z.poisoned a ∧
    (z.bump f).patrolled.num a n = z.num a n ∧ (z.bump f).patrolled.tagOf a = z.tagOf a ∧
    (∀ k, (z.bump f).patrolled.event k = (z.bump f).event k) ∧ ∀ g, (z.bump f).patrolled.get g = (z.bump f).get g :=
  ⟨rfl, rfl, rfl, fun _ => rfl, fun _ => rfl⟩

theorem execPatrolRead_clean {s : State} (hen : s.get MEM_CTRL_SCRUB_EN ≠ 0) : execPatrolRead 0 0 s = goOn s.patrolled := by
  unfold execPatrolRead
  rw [if_neg (by simp [State.on, hen])]
  rfl

/-- A failing word of system SRAM that was not poisoned is poisoned and counted (R319). -/
theorem execPatrolRead_finds {s : State} {m : Fin 32} (hen : s.get MEM_CTRL_SCRUB_EN ≠ 0)
    (hclean : s.poisoned s.memctl.patrolSys = false) (hm : m ≠ 0) :
    execPatrolRead m 0 s = goOn ((s.poisonWord s.memctl.patrolSys m true).bump MEM_STATUS_SCRUB_FOUND).patrolled := by
  have hfound : ¬(m.val = 0 ∨ s.poisoned s.memctl.patrolSys = true) := by
    rintro (hzero | hpoisoned)
    · exact hm (Fin.ext hzero)
    · exact absurd (hclean.symm.trans hpoisoned) (by decide)
  unfold execPatrolRead
  rw [if_neg (by simp [State.on, hen])]
  dsimp only
  rw [if_neg hfound, if_pos (.inl rfl)]
  rfl

theorem execPatrolRead_off {s : State} (m : Fin 32) (n : Fin 16) (hoff : s.get MEM_CTRL_SCRUB_EN = 0) :
    execPatrolRead m n s = goOn s := by
  unfold execPatrolRead
  exact if_pos (by simp [State.on, hoff])

theorem execFlipArm_ignored {s : State} (hmode : s.mode ≠ modeTest) : execFlipArm s = goOn s := by
  unfold execFlipArm
  exact if_pos hmode

theorem execFlipArm_test {s : State} (hmode : s.mode = modeTest) :
    execFlipArm s = goOn ((s.flag MEM_FLIPCFG_ARM true).flag MEM_FLIPCFG_USED false) := by
  unfold execFlipArm
  exact if_neg (not_not_intro hmode)

/-- Settles O35: the patrol's one check of a clean and of a failing word, and FLIP_ARM in and outside Test mode. -/
theorem patrolPoisonsAndFlipsArm : Obligations.PatrolPoisonsAndFlipsArm := by
  unfold Obligations.PatrolPoisonsAndFlipsArm
  refine ⟨?clean, ?finds, ?off, ?arms, ?ignored⟩
  case clean => exact fun s hen => completes_of_goOn (execPatrolRead_clean hen) rfl
  case finds =>
    intro s a m hen ha hsys hword hclean hm
    subst ha
    obtain ⟨hpoison, hnum, htag, hevent⟩ := s.poisonWord_effect hword hsys m true
    obtain ⟨hpoison', hnum', htag', hevent', hget⟩ :=
      (s.poisonWord s.memctl.patrolSys m true).patrolled_bump MEM_STATUS_SCRUB_FOUND s.memctl.patrolSys 4
    refine completes_of_goOn (execPatrolRead_finds hen hclean hm) ⟨hpoison'.trans hpoison, hnum'.trans hnum, htag'.trans htag, ?_, ?_⟩
    · rw [hevent']
      exact (State.put_steady _ _ MEM_STATUS_SCRUB_FOUND_block (by decide) (by decide)).event 109 hevent
    · rw [hget, State.bump, State.get_put_self, s.get_poisonWord hword m true MEM_STATUS_SCRUB_FOUND_block (by decide)]
  case off => exact fun s m n hoff => execPatrolRead_off m n hoff
  case arms => exact fun s hmode => execFlipArm_test hmode
  case ignored => exact fun s hmode => execFlipArm_ignored hmode

/-! The fault collector (R329 to R334). -/

/-- An entry as the log keeps it: with the time of its report. -/
def State.dated (s : State) (e : FaultEntry) : FaultEntry := { e with tnet := if s.power.tnetRuns then s.tnet else 0 }

theorem State.entries_logEntry {s : State} (hroom : s.faults.entries.length < 16) (e : FaultEntry) :
    (s.logEntry e).faults.entries = s.faults.entries ++ [s.dated e] := by
  unfold State.logEntry
  dsimp only
  rw [if_pos hroom]
  rfl

theorem State.openMask_logEntry (s : State) (e : FaultEntry) : (s.logEntry e).faults.openMask = s.faults.openMask := by
  unfold State.logEntry
  dsimp only
  split
  · rfl
  · split
    · rfl
    · rw [State.raise_faults, State.bump_faults, State.flag_faults]

theorem State.resetReq_logEntry (s : State) (e : FaultEntry) : (s.logEntry e).power.resetReq = s.power.resetReq := by
  unfold State.logEntry
  dsimp only
  split
  · rfl
  · split
    · rfl
    · rw [State.raise_resetReq, State.bump_power, State.flag_power]

/-- The entry of a FATAL report. -/
def State.fatalEntry (s : State) (src addr detail : Nat) (escalated : Bool) : FaultEntry :=
  { cls := 3, src := src, addr := addr, detail := detail, tnet := 0, isOpen := true, escalated := escalated,
    double := s.faults.fatals != 0 }

/-- The log with one FATAL entry more. -/
def State.fatalLogged (s : State) (src addr detail : Nat) (escalated : Bool) : State :=
  (s.logEntry (s.fatalEntry src addr detail escalated)).with_faults
    { (s.logEntry (s.fatalEntry src addr detail escalated)).faults with fatals := s.faults.fatals + 1 }

theorem State.fatal_eq (s : State) (src addr detail : Nat) (escalated : Bool) : s.fatal src addr detail escalated =
    if s.faults.fatals = 0 then (s.fatalLogged src addr detail escalated).raise 10
    else ((s.fatalLogged src addr detail escalated).with_faults
      { (s.fatalLogged src addr detail escalated).faults with doubled := true }).requestReset 0x0B := rfl

/-- The entry of an UNCORRECTED report that opens its source. -/
theorem State.report_opens {s : State} {src : Nat} (hclosed : bit s.faults.openMask src = false) (addr detail : Nat) :
    s.report 2 src addr detail = ((s.with_faults { s.faults with openMask := setBit s.faults.openMask src }).logEntry
      { cls := 2, src := src, addr := addr, detail := detail, tnet := 0, isOpen := true }).raise 9 := by
  unfold State.report
  exact if_neg (by simp [hclosed])

theorem State.report_escalates {s : State} {src : Nat} (hopen : bit s.faults.openMask src = true) (addr detail : Nat) :
    s.report 2 src addr detail = s.fatal src addr detail true := by
  unfold State.report
  exact if_pos hopen

/-- What a fault log shows of its last entry. -/
def lastFault (es : List FaultEntry) : Option (Nat × Nat × Nat) := es.getLast?.map fun e => (e.src, e.addr, e.detail)

/-- The log `f` has one entry more than `es`, and what the last shows. -/
structure LogGrew (es : List FaultEntry) (f : FaultLog) (cls src addr detail : Nat) : Prop where
  length : f.entries.length = es.length + 1
  last : lastFault f.entries = some (src, addr, detail)
  cls : (f.entries.getLast?.map fun e => e.cls) = some cls

theorem LogGrew.of_append {es : List FaultEntry} {f : FaultLog} {e : FaultEntry} (h : f.entries = es ++ [e]) :
    LogGrew es f e.cls e.src e.addr e.detail := by
  constructor <;> simp [h, lastFault]

section
variable {s : State} (src addr detail : Nat) (hroom : s.faults.entries.length < 16)
include hroom

/-- The first FATAL report raises E10, a further one requests the lock-up reset (R332). -/
theorem State.fatal_effect (escalated : Bool) :
    LogGrew s.faults.entries (s.fatal src addr detail escalated).faults 3 src addr detail ∧
    (s.faults.fatals = 0 → (s.fatal src addr detail escalated).event 10 = true ∧
      (s.fatal src addr detail escalated).power.resetReq = s.power.resetReq) ∧
    (s.faults.fatals ≠ 0 → (s.fatal src addr detail escalated).power.resetReq.contains 0x0B = true ∧
      (s.fatal src addr detail escalated).faults.doubled = true) := by
  have hentries : (s.fatalLogged src addr detail escalated).faults.entries = _ := State.entries_logEntry hroom _
  have hpower : (s.fatalLogged src addr detail escalated).power.resetReq = s.power.resetReq := s.resetReq_logEntry _
  rw [State.fatal_eq]
  by_cases hfirst : s.faults.fatals = 0
  · rw [if_pos hfirst]
    refine ⟨LogGrew.of_append (e := s.dated (s.fatalEntry src addr detail escalated)) ?_,
      fun _ => ⟨State.event_raise _ _, (State.raise_resetReq _ _).trans hpower⟩,
      fun h => absurd hfirst h⟩
    rw [State.raise_faults, hentries]
  · rw [if_neg hfirst]
    refine ⟨LogGrew.of_append (e := s.dated (s.fatalEntry src addr detail escalated)) ?_, fun h => absurd h hfirst,
      fun _ => ⟨State.requestReset_contains _ _, ?_⟩⟩
    · rw [State.requestReset_faults]
      exact hentries
    · rw [State.requestReset_faults]
      rfl

theorem State.report_info : LogGrew s.faults.entries (s.report 0 src addr detail).faults 0 src addr detail :=
  LogGrew.of_append (State.entries_logEntry hroom _)

theorem State.report_corrected : LogGrew s.faults.entries (s.report 1 src addr detail).faults 1 src addr detail ∧
    (s.report 1 src addr detail).event 8 = true := by
  refine ⟨LogGrew.of_append (e := s.dated { cls := 1, src := src, addr := addr, detail := detail, tnet := 0 }) ?_, State.event_raise _ _⟩
  exact (congrArg FaultLog.entries (State.raise_faults _ _)).trans (State.entries_logEntry hroom _)

/-- An UNCORRECTED report opens its source, or escalates where the source is open (R332). -/
theorem State.report_uncorrected : LogGrew s.faults.entries (s.report 2 src addr detail).faults
      (if bit s.faults.openMask src = true then 3 else 2) src addr detail ∧
    (bit s.faults.openMask src = false → bit (s.report 2 src addr detail).faults.openMask src = true ∧
      (s.report 2 src addr detail).event 9 = true) := by
  cases hopen : bit s.faults.openMask src with
  | true =>
    rw [State.report_escalates hopen]
    exact ⟨(State.fatal_effect src addr detail hroom true).1, fun h => absurd h (by decide)⟩
  | false =>
    rw [State.report_opens hopen]
    refine ⟨LogGrew.of_append (e := s.dated { cls := 2, src := src, addr := addr, detail := detail, tnet := 0, isOpen := true }) ?_,
      fun _ => ⟨?_, State.event_raise _ _⟩⟩
    · rw [State.raise_faults]
      exact State.entries_logEntry (s := s.with_faults { s.faults with openMask := setBit s.faults.openMask src }) hroom _
    · rw [State.raise_faults, State.openMask_logEntry]
      exact bit_setBit _ _

end

/-- Both closings of ERR_CLOSE map over the entries (R331). -/
theorem execFaultClose_closes (s : State) (src : Fin 256) (en fatal : Bool) :
    completes (.faultClose src en fatal) s fun t => t.faults.entries = s.faults.entries.map (fun (e : FaultEntry) =>
        if (en = true ∧ e.cls = 2 ∧ e.src = src.val) ∨ (fatal = true ∧ e.cls = 3) then { e with isOpen := false } else e) ∧
      t.faults.openMask = (if en = true then clearBit s.faults.openMask src else s.faults.openMask) ∧
      t.faults.fatals = (if fatal = true then 0 else s.faults.fatals) ∧ t = { s with faults := t.faults } := by
  refine completes_of_goOn rfl ⟨?_, ?_, ?_, ?_⟩
  all_goals cases en <;> cases fatal
  all_goals simp only [State.closeSource, State.closeFatal, if_true, if_false, Bool.false_eq_true, List.map_map, true_and,
    false_and, or_false, false_or, List.map_id']
  refine List.map_congr_left fun e _ => ?_
  by_cases hsrc : e.cls = 2 ∧ e.src = src.val
  · simp [hsrc]
  · simp [hsrc]

theorem LogGrew.shown {es : List FaultEntry} {f : FaultLog} {cls src addr detail : Nat} (h : LogGrew es f cls src addr detail) :
    f.entries.length = es.length + 1 ∧
      (f.entries.getLast?.map fun e => (e.src, e.addr, e.detail)) = some (src, addr, detail) ∧
      (f.entries.getLast?.map fun e => e.cls) = some cls := ⟨h.length, h.last, h.cls⟩

theorem faultReport_logs {s : State} (q : Fin 4) (src : Fin 64) (a : Word) (d : Fin 256) (hroom : s.faults.entries.length < 16) :
    completes (.faultReport q src a d) s fun t => LogGrew s.faults.entries t.faults
        (if q = 2 ∧ bit s.faults.openMask src = true then 3 else q.val) src a.toNat d ∧
      (q = 1 → t.event 8 = true) ∧
      (q = 2 → bit s.faults.openMask src = false → bit t.faults.openMask src = true ∧ t.event 9 = true) ∧
      (q = 3 → s.faults.fatals = 0 → t.event 10 = true ∧ t.power.resetReq = s.power.resetReq) ∧
      (q = 3 → s.faults.fatals ≠ 0 → t.power.resetReq.contains 0x0B = true ∧ t.faults.doubled = true) := by
  have hne {p : Prop} {i j : Fin 4} (h : i ≠ j) (e : i = j) : p := absurd e h
  refine completes_of_goOn rfl ?_
  match q with
  | 0 => exact ⟨State.report_info _ _ _ hroom, hne (by decide), hne (by decide), hne (by decide), hne (by decide)⟩
  | 1 =>
    obtain ⟨hlog, hevent⟩ := State.report_corrected src a.toNat d hroom
    exact ⟨hlog, fun _ => hevent, hne (by decide), hne (by decide), hne (by decide)⟩
  | 2 =>
    obtain ⟨hlog, hopens⟩ := State.report_uncorrected src a.toNat d hroom
    refine ⟨?_, hne (by decide), fun _ => hopens, hne (by decide), hne (by decide)⟩
    simpa only [true_and, Fin.isValue, Fin.val_two] using hlog
  | 3 =>
    obtain ⟨hlog, hfirst, hagain⟩ := State.fatal_effect src a.toNat d hroom false
    exact ⟨hlog, hne (by decide), hne (by decide), fun _ => hfirst, fun _ => hagain⟩

theorem execFaultPop_removes {s : State} {e : FaultEntry} {es : List FaultEntry} (hes : s.faults.entries = e :: es)
    (hclosed : e.isOpen = false) : execFaultPop s =
      goOn ((s.with_faults { s.faults with entries := es }).flag ERR_STATUS_POP_REJ false) := by
  unfold execFaultPop
  rw [hes]
  exact if_neg (by simp [hclosed])

theorem execFaultPop_refused {s : State} {e : FaultEntry} {es : List FaultEntry} (hes : s.faults.entries = e :: es)
    (hopen : e.isOpen = true) : execFaultPop s = goOn (s.flag ERR_STATUS_POP_REJ true) := by
  unfold execFaultPop
  rw [hes]
  exact if_pos hopen

/-- Settles O36: a report by its class, and each command of the collector. -/
theorem faultCollectorReports : Obligations.FaultCollectorReports := by
  unfold Obligations.FaultCollectorReports
  refine ⟨?reports, execFaultClose_closes, ?pops, ?refused, ?injects, ?ignored⟩
  case reports =>
    intro s q src a d hroom
    obtain ⟨t, ht, hlog, hrest⟩ := faultReport_logs q src a d hroom
    exact ⟨t, ht, hlog.length, hlog.last, hlog.cls, hrest⟩
  case pops =>
    intro s e es hes hclosed
    exact completes_of_goOn (execFaultPop_removes hes hclosed) ⟨rfl, State.get_flag_bit _ _ rfl, rfl⟩
  case refused => exact fun s e es hes hopen => execFaultPop_refused hes hopen
  case injects =>
    intro s q hmode hroom
    obtain ⟨t, ht, hlog, -⟩ := faultReport_logs q 0x20 0 0 hroom
    refine ⟨t, (if_neg (not_not_intro hmode)).trans ht, hlog.last, fun hq => hlog.cls.trans ?_⟩
    rw [if_neg (by rintro ⟨rfl, -⟩; exact absurd hq (by decide))]
  case ignored => exact fun s q hmode => if_pos hmode

end Sys2Proof.Machine

/-! ## What work on one bank of the flash, and the start of everything that can start, leave -/
namespace Sys2Proof.Machine

/-! Work on bank `j` (R344, R345, R351). -/

/-- The addresses of the journal block of bank `j` (R350). -/
def inJournal (j a : Nat) : Prop := 0x083F0000 + 0x400000 * j ≤ a ∧ a < 0x08400000 + 0x400000 * j

/-- A field of the flash block that work on bank `j` leaves: not of its status, no erase count, not its free records. -/
def RegField.offBank (f : RegField) (j : Nat) : Prop := f.inBlock 13 ∧ f.key < 0x400D0100 * 32 ∧
  (f.key < (0x400D000C + 0x4 * (j % 2)) * 32 ∨ (0x400D000C + 0x4 * (j % 2)) * 32 + 32 ≤ f.key) ∧ f.key ≠ (jnlFree j).key

/-- A field that work on bank `j` writes. -/
def RegField.ofBank (f : RegField) (j : Nat) : Prop := f.inBlock 12 ∨ f.key = (jnlFree j).key ∨ 0x400D0100 * 32 ≤ f.key ∨
  ((0x400D000C + 0x4 * (j % 2)) * 32 ≤ f.key ∧ f.key < (0x400D000C + 0x4 * (j % 2)) * 32 + 32)

theorem RegField.offBank.ne_ofBank {f g : RegField} {j : Nat} (hf : f.offBank j) (hg : g.ofBank j) : f.key ≠ g.key := by
  obtain ⟨hblock, hlow, hstat, hfree⟩ := hf
  unfold RegField.inBlock at hblock
  rcases hg with hg | hg | hg | hg
  · unfold RegField.inBlock at hg
    omega
  · exact hg ▸ hfree
  all_goals omega

theorem ecnt_ofBank (k b j : Nat) : (ecnt k b).ofBank j := by
  refine .inr (.inr (.inl ?_))
  simp only [ecnt, FLC_ECNT_COUNT, RegField.key]
  omega

theorem jnlFree_ofBank (j : Nat) : (jnlFree j).ofBank j := .inr (.inl rfl)

/-- The fields of the status of bank `j` (R348). -/
def bankStatus (j : Nat) : List RegField := [FLC_BANK_STAT_OP j, FLC_BANK_STAT_STATE j, FLC_BANK_STAT_BLOCK j,
  FLC_BANK_STAT_PULSES j, FLC_BANK_STAT_SUSPENDS j, FLC_BANK_STAT_STARVED j]

theorem bankStatus_key {f : RegField} {j : Nat} (hf : f ∈ bankStatus j) :
    (0x400D000C + 0x4 * (j % 2)) * 32 ≤ f.key ∧ f.key < (0x400D000C + 0x4 * (j % 2)) * 32 + 32 := by
  revert f
  simp only [bankStatus, List.forall_mem_cons, List.not_mem_nil, RegField.key, FLC_BANK_STAT_OP, FLC_BANK_STAT_STATE,
    FLC_BANK_STAT_BLOCK, FLC_BANK_STAT_PULSES, FLC_BANK_STAT_SUSPENDS, FLC_BANK_STAT_STARVED, false_imp_iff, implies_true, and_true]
  omega

theorem bankStatus_ofBank {f : RegField} {j : Nat} (hf : f ∈ bankStatus j) : f.ofBank j := .inr (.inr (.inr (bankStatus_key hf)))

theorem bankStatus_block {f : RegField} {j : Nat} (hf : f ∈ bankStatus j) : f.inBlock 13 := by
  have := bankStatus_key hf
  unfold RegField.inBlock
  omega

theorem jnlFree_key (j : Nat) : (jnlFree j).key = 0x400D0050 * 32 + if j = 0 then 0 else 16 := by
  unfold jnlFree
  split <;> rfl

theorem bankStatus_offBank {f : RegField} {j k : Nat} (hf : f ∈ bankStatus k) (hj : j < 2) (hk : k < 2) (hne : k ≠ j) :
    f.offBank j := by
  have hkey := bankStatus_key hf
  have hfree := jnlFree_key j
  refine ⟨bankStatus_block hf, by omega, by omega, ?_⟩
  rw [hfree]
  split <;> omega

theorem jnlHalf_offBank (j k : Nat) : (jnlHalf k).offBank j := by
  have hfree := jnlFree_key j
  have hhalf : (jnlHalf k).key = 0x400D0050 * 32 + if k = 0 then 11 else 27 := by
    unfold jnlHalf
    split <;> rfl
  refine ⟨jnlHalf_block k, ?_, ?_, ?_⟩
  · split at hhalf <;> omega
  · split at hhalf <;> omega
  · split at hhalf <;> split at hfree <;> omega

theorem FLC_OWNER_SWAP_offBank (j : Nat) : FLC_OWNER_SWAP.offBank j := by
  refine ⟨rfl, by decide, .inl ?_, ?_⟩
  · simp only [RegField.key, FLC_OWNER_SWAP]
    omega
  · rw [jnlFree_key]
    simp only [RegField.key, FLC_OWNER_SWAP]
    split <;> omega

/-- Bank `j` and its status alone have changed in the flash controller, no event is lost, and of the memory its journal. -/
structure BankWork (j : Nat) (s t : State) : Prop where
  queue : t.flash.queue = s.flash.queue
  done : t.flash.done = s.flash.done
  merge : t.flash.merge = s.flash.merge
  mergeRun : t.flash.mergeRun = s.flash.mergeRun
  bank : ∀ k < 2, k ≠ j → t.bank k = s.bank k
  get : ∀ f : RegField, f.offBank j → t.get f = s.get f
  steady : Steady s t
  byte : s.get (jnlHalf j) ≤ 1 → ∀ a, ¬inJournal j a → t.byte a = s.byte a

theorem BankWork.refl (j : Nat) (s : State) : BankWork j s s :=
  ⟨rfl, rfl, rfl, rfl, fun _ _ _ => rfl, fun _ _ => rfl, Steady.refl s, fun _ _ _ => rfl⟩

theorem BankWork.trans {j : Nat} {r s t : State} (h : BankWork j r s) (g : BankWork j s t) : BankWork j r t :=
  ⟨g.queue.trans h.queue, g.done.trans h.done, g.merge.trans h.merge, g.mergeRun.trans h.mergeRun,
    fun k hk hne => (g.bank k hk hne).trans (h.bank k hk hne), fun f hf => (g.get f hf).trans (h.get f hf),
    h.steady.trans g.steady, fun hhalf a ha =>
      (g.byte (by rwa [h.get _ (jnlHalf_offBank j j)]) a ha).trans (h.byte hhalf a ha)⟩

theorem State.bank_congr {s t : State} (h : t.flash = s.flash) (k : Nat) : t.bank k = s.bank k := by
  unfold State.bank
  rw [h]

/-- An operation that leaves the flash controller and the memory. -/
theorem Moves.bankWork {m j : Nat} {s t : State} (h : Moves m s t) (hsteady : Steady s t) (hflash : m.testBit 14 = false)
    (hregs : m.testBit 40 = false) (hmem : m.testBit 2 = false) : BankWork j s t := by
  have hf : t.flash = s.flash := h.1 .flash hflash
  exact ⟨by rw [hf], by rw [hf], by rw [hf], by rw [hf], fun k _ _ => State.bank_congr hf k,
    fun f hoff => h.get_eq hoff.1 (by decide) hregs, hsteady, fun _ a _ => h.1 .mem hmem a⟩

theorem State.put_bankWork {f : RegField} {j : Nat} (s : State) (v : Nat) (hf : f.ofBank j) : BankWork j s (s.put f v) := by
  have hkey : 0x400C0000 * 32 ≤ f.key := by
    rcases hf with hf | hf | hf | hf
    · unfold RegField.inBlock at hf
      omega
    · rw [hf, jnlFree_key]
      omega
    all_goals omega
  have hne : ∀ {g : RegField}, g.key < 0x400C0000 * 32 → g.key ≠ f.key := fun hg => by omega
  refine ⟨rfl, rfl, rfl, rfl, fun _ _ _ => rfl, fun g hg => s.get_put_ne v (hg.ne_ofBank hf), ⟨fun n hn => ?_, fun g hg => ?_⟩,
    fun _ _ _ => rfl⟩
  · unfold State.event at hn ⊢
    rwa [s.get_put_ne v]
    have := EVR_ESTAT_STAT_block (n / 32)
    unfold RegField.inBlock at this
    omega
  · refine s.get_put_ne v ?_
    have := modeFields_block hg
    unfold RegField.inBlock at this
    omega

theorem State.flag_bankWork {f : RegField} {j : Nat} (s : State) (v : Bool) (hf : f.ofBank j) : BankWork j s (s.flag f v) :=
  s.put_bankWork _ hf

theorem State.bank_setBank_ne (s : State) {j k : Nat} (b : FlashBank) (hj : j < 2) (hk : k < 2) (hne : k ≠ j) :
    (s.setBank j b).bank k = s.bank k := by
  unfold State.setBank State.bank
  rw [State.setFlash_flash]
  by_cases hzero : k = 0
  · rw [if_pos hzero, if_pos hzero, if_neg (by omega)]
  · rw [if_neg hzero, if_neg hzero, if_pos (by omega)]

@[simp] theorem State.bank_setBank (s : State) (j : Nat) (b : FlashBank) : (s.setBank j b).bank j = b := by
  unfold State.setBank State.bank
  rw [State.setFlash_flash]
  split <;> rfl

@[simp] theorem State.get_setBank (s : State) (j : Nat) (b : FlashBank) (f : RegField) : (s.setBank j b).get f = s.get f := rfl

@[simp] theorem State.get_setRun (s : State) (j : Nat) (r : Option FlashRun) (f : RegField) : (s.setRun j r).get f = s.get f := rfl

@[simp] theorem State.bank_setRun (s : State) (j : Nat) (r : Option FlashRun) : (s.setRun j r).bank j = { s.bank j with run := r } :=
  s.bank_setBank j _

theorem State.setBank_flash (s : State) (j : Nat) (b : FlashBank) : (s.setBank j b).flash.queue = s.flash.queue ∧
    (s.setBank j b).flash.done = s.flash.done ∧ (s.setBank j b).flash.merge = s.flash.merge ∧
    (s.setBank j b).flash.mergeRun = s.flash.mergeRun := by
  unfold State.setBank
  rw [State.setFlash_flash]
  split <;> exact ⟨rfl, rfl, rfl, rfl⟩

theorem State.setBank_bankWork {j : Nat} (hj : j < 2) (s : State) (b : FlashBank) : BankWork j s (s.setBank j b) := by
  obtain ⟨hqueue, hdone, hmerge, hrun⟩ := s.setBank_flash j b
  exact ⟨hqueue, hdone, hmerge, hrun, fun _ hk hne => s.bank_setBank_ne b hj hk hne, fun _ _ => rfl,
    ⟨fun _ h => h, fun _ _ => rfl⟩, fun _ _ _ => rfl⟩

theorem State.setRun_bankWork {j : Nat} (hj : j < 2) (s : State) (r : Option FlashRun) : BankWork j s (s.setRun j r) :=
  s.setBank_bankWork hj _

theorem State.reportDecode_steady (s : State) (a : Nat) (d : PageDecode) : Steady s (s.reportDecode a d) := by
  unfold State.reportDecode
  extract_lets page shown paged
  have hshown : Steady s shown := (s.put_steady _ MEM_ECCSTAT_RESULT_block (by decide) (by decide)).trans
    ((State.put_steady _ _ MEM_ECCSTAT_BITS_block (by decide) (by decide)).trans
      (State.flag_steady _ _ MEM_ECCSTAT_REASON_block (by decide) (by decide)))
  have hpaged : Steady s paged := hshown.trans (shown.put_steady _ MEM_ECCSTAT_PAGE_block (by decide) (by decide))
  split
  · have hcounted : Steady s ((paged.bump MEM_ECCCNT_ECC_CORR).raise 108) :=
      hpaged.trans ((paged.put_steady _ MEM_ECCCNT_ECC_CORR_block (by decide) (by decide)).trans (State.raise_steady _ 108))
    split
    · exact hcounted.trans (State.report_steady _ _ _ _ _ _)
    · exact hcounted
  · exact hpaged.trans ((paged.put_steady _ MEM_ECCCNT_ECC_UNCORR_block (by decide) (by decide)).trans
      (State.report_steady _ _ _ _ _ _))
  · exact hpaged

theorem State.reportDecode_bankWork (s : State) (a : Nat) (d : PageDecode) (j : Nat) : BankWork j s (s.reportDecode a d) :=
  (s.reportDecode_moves a d).bankWork (s.reportDecode_steady a d) rfl rfl rfl

theorem State.takeFlips_bankWork (s : State) (j : Nat) : BankWork j s s.takeFlips.2 := by
  unfold State.takeFlips
  split
  · exact (s.flag_bankWork _ (.inl MEM_FLIPCFG_ARM_block)).trans (State.flag_bankWork _ _ (.inl MEM_FLIPCFG_USED_block))
  · exact BankWork.refl j s

theorem State.startOp_bankWork {j : Nat} (hj : j < 2) (s : State) (op block : Nat) : BankWork j s (s.startOp j op block) := by
  have hput : ∀ (z : State) (f : RegField) (v : Nat), f ∈ bankStatus j → BankWork j z (z.put f v) := fun z f v hf =>
    z.put_bankWork v (bankStatus_ofBank hf)
  unfold State.startOp
  refine BankWork.trans ?_ (State.setBank_bankWork hj _ _)
  refine (((((hput s _ op ?_).trans (hput _ _ 1 ?_)).trans (hput _ _ block ?_)).trans (hput _ _ 0 ?_)).trans
    (hput _ _ 0 ?_)).trans (hput _ _ 0 ?_)
  all_goals simp [bankStatus]

/-- A record goes into the journal block where a slot of the half is free (R350). -/
theorem State.jnlAppend_bankWork {j : Nat} (hj : j < 2) (s : State) (type block count : Nat) (hfree : 1 ≤ s.get (jnlFree j)) :
    BankWork j s (s.jnlAppend j type block count) := by
  have hstored : BankWork j s (s.setBytes (jnlAddr j (s.get (jnlHalf j)) (2048 - s.get (jnlFree j)))
      (jnlRecord type block 0 count (s.bank j).seq)) := by
    have hmoves := s.setBytes_moves (jnlAddr j (s.get (jnlHalf j)) (2048 - s.get (jnlFree j)))
      (jnlRecord type block 0 count (s.bank j).seq)
    have hflash := hmoves.1 .flash rfl
    refine ⟨congrArg Flash.queue hflash, congrArg Flash.done hflash, congrArg Flash.merge hflash, congrArg Flash.mergeRun hflash,
      fun k _ _ => State.bank_congr hflash k, fun f hf => hmoves.get_eq hf.1 (by decide) rfl,
      hmoves.steady rfl rfl, fun hhalf a ha => State.byte_setBytes_ne _ _ _ _ ?_⟩
    have hlen : (jnlRecord type block 0 count (s.bank j).seq).length = 16 := by simp [jnlRecord, fcs32]
    rw [hlen]
    unfold inJournal at ha
    unfold jnlAddr
    omega
  unfold State.jnlAppend
  exact hstored.trans ((State.put_bankWork _ _ (jnlFree_ofBank j)).trans (State.setBank_bankWork hj _ _))

theorem State.startErase_bankWork {j : Nat} (hj : j < 2) (s : State) (r : FlashRun) (hfree : 1 ≤ s.get (jnlFree j)) :
    BankWork j s (s.startErase j r) := by
  unfold State.startErase
  exact (s.jnlAppend_bankWork hj _ _ _ hfree).trans ((State.put_bankWork _ _ (ecnt_ofBank _ _ _)).trans
    ((State.setRun_bankWork hj _ _).trans (State.startOp_bankWork hj _ _ _)))

theorem State.startProgram_bankWork {j : Nat} (hj : j < 2) (s : State) (r : FlashRun) : BankWork j s (s.startProgram j r) := by
  unfold State.startProgram
  dsimp only
  split
  · exact s.setRun_bankWork hj _
  · exact (s.takeFlips_bankWork j).trans ((State.setRun_bankWork hj _ _).trans (State.startOp_bankWork hj _ _ _))

/-- A descriptor that reads a page or a counter sets the run alone, after a report of what the decoder found (R345). -/
theorem State.beginDesc_reads (s : State) (j : Nat) {r : FlashRun} (hop : r.desc.op = 1 ∨ r.desc.op = 4) :
    ∃ (x : State) (run : Option FlashRun), (x = s ∨ ∃ a d, x = s.reportDecode a d) ∧ s.beginDesc j r = x.setRun j run := by
  unfold State.beginDesc
  extract_lets d phys dec reported run
  split
  · split
    · exact ⟨s, _, .inl rfl, rfl⟩
    · refine ⟨reported, _, ?_, rfl⟩
      unfold reported
      split
      · exact .inl rfl
      · exact .inr ⟨_, _, rfl⟩
  next h => exact absurd (show r.desc.op = 2 from h) (by omega)
  next h => exact absurd (show r.desc.op = 3 from h) (by omega)
  · exact ⟨s, _, .inl rfl, rfl⟩
  next _ h₁ _ _ h₄ => exact absurd hop (not_or.mpr ⟨h₁, h₄⟩)

theorem State.beginDesc_bankWork {j : Nat} (hj : j < 2) (s : State) (r : FlashRun) : BankWork j s (s.beginDesc j r) := by
  by_cases hreads : r.desc.op = 1 ∨ r.desc.op = 4
  · obtain ⟨x, run, hx, heq⟩ := s.beginDesc_reads j hreads
    rw [heq]
    refine BankWork.trans ?_ (x.setRun_bankWork hj run)
    rcases hx with rfl | ⟨a, d, rfl⟩
    · exact BankWork.refl j _
    · exact s.reportDecode_bankWork a d j
  · rw [not_or] at hreads
    unfold State.beginDesc
    extract_lets d phys dec reported run
    split
    next h => exact absurd h hreads.1
    · exact s.startProgram_bankWork hj r
    · split
      · exact (s.setRun_bankWork hj _).trans (State.startOp_bankWork hj _ _ _)
      next h => exact s.startErase_bankWork hj r (by omega)
    next h => exact absurd h hreads.2
    · exact s.setRun_bankWork hj _

/-- The run of a descriptor that a bank takes. -/
def State.taken (s : State) (d : FlashDesc) : FlashRun := { desc := d, start := s.clock }

/-- Bank `j` takes descriptor `d`: what a failing check answers, or the descriptor's begin (R345). -/
def State.startDesc (s : State) (j : Nat) (d : FlashDesc) : State :=
  match s.flashCheck d with
  | some st => s.setRun j (some { s.taken d with status := some st })
  | none => s.beginDesc j (s.taken d)

theorem State.startDesc_bankWork {j : Nat} (hj : j < 2) (s : State) (d : FlashDesc) : BankWork j s (s.startDesc j d) := by
  unfold State.startDesc
  split
  · exact s.setRun_bankWork hj _
  · exact s.beginDesc_bankWork hj _


/-! The start of everything that can start (R344). -/

theorem State.setFlash_flash_self (s : State) : s.setFlash s.flash = s := rfl

theorem State.mergePump_of_noMerge {s : State} (hmerge : s.flash.merge = []) : s.mergePump = s := by
  have hnone : s.mergeWaiting = [] := by
    unfold State.mergeWaiting
    rw [hmerge]
    rfl
  unfold State.mergePump
  rw [hnone]
  simp only [List.take_nil, List.map_nil, List.append_nil]
  exact s.setFlash_flash_self

theorem foldl_erase_sublist (l q : List FlashDesc) : List.Sublist (l.foldl (fun q d => q.erase d) q) q := by
  induction l generalizing q with
  | nil => exact List.Sublist.refl q
  | cons d l ih => exact (ih _).trans List.erase_sublist

/-- A bank on which no descriptor of the queue acts starts none. -/
theorem State.waiting_eq_nil {s : State} {k : Nat} (h : ∀ d ∈ s.flash.queue, s.descBank d ≠ k) : s.waiting k = [] := by
  refine List.filter_eq_nil_iff.mpr fun d hd => ?_
  have := h d ((foldl_erase_sublist _ _).subset hd)
  simp [this]

theorem State.kickBank_of_waiting_nil {s : State} {k : Nat} (hwait : s.waiting k = []) : s.kickBank k = s := by
  unfold State.kickBank
  split
  · rfl
  · split
    · rw [hwait]
    · rw [hwait]
      split <;> rfl

theorem State.descBank_congr {s t : State} (h : t.get FLC_OWNER_SWAP = s.get FLC_OWNER_SWAP) (d : FlashDesc) :
    t.descBank d = s.descBank d := by
  unfold State.descBank State.flashPhys
  rw [State.on_congr h]

theorem State.descBank_lt (s : State) (d : FlashDesc) : s.descBank d < 2 := by
  unfold State.descBank
  split
  case isFalse => decide
  case isTrue h =>
    have hphys : s.flashPhys d.faddr < 0x08800000 := by
      unfold inFlash at h
      unfold State.flashPhys
      simp only [Bool.and_eq_true, decide_eq_true_eq] at h
      split
      · split <;> omega
      · exact h.2
    unfold pageBank physPage
    omega

/-- One descriptor `d` is queued, and nothing else is at hand in the flash controller. -/
structure Single (s : State) (d : FlashDesc) : Prop where
  queue : s.flash.queue = [d]
  done : s.flash.done.length < 16
  merge : s.flash.merge = []
  mergeRun : s.flash.mergeRun = none
  run0 : s.flash.bank0.run = none
  side0 : s.flash.bank0.side = none
  run1 : s.flash.bank1.run = none
  side1 : s.flash.bank1.side = none
  op : d.op ≠ 7

theorem Single.kickMerge {s : State} {d : FlashDesc} (h : Single s d) : s.kickMerge = s := by
  unfold State.kickMerge
  rw [h.mergeRun, h.queue, List.find?_cons_of_neg (by simpa using h.op), List.find?_nil]

theorem Single.run {s : State} {d : FlashDesc} (h : Single s d) (k : Nat) : (s.bank k).run = none := by
  unfold State.bank
  split
  · exact h.run0
  · exact h.run1

theorem Single.waiting {s : State} {d : FlashDesc} (h : Single s d) : s.waiting (s.descBank d) = [d] := by
  have hstarted : s.startedDescs = [] := by
    unfold State.startedDescs
    rw [h.run0, h.side0, h.run1, h.side1, h.mergeRun]
    rfl
  unfold State.waiting
  rw [hstarted, h.queue, List.foldl_nil, List.filter_cons_of_pos (by simpa using h.op), List.filter_nil]

theorem Single.kickBank {s : State} {d : FlashDesc} (h : Single s d) :
    s.kickBank (s.descBank d) = s.startDesc (s.descBank d) d := by
  have hbefore : s.mergeBefore d = [] := by
    unfold State.mergeBefore
    rw [h.merge]
    split <;> rfl
  unfold State.kickBank
  rw [if_neg (by have := h.done; omega), h.run, h.waiting]
  dsimp only
  rw [hbefore]
  rfl

theorem Single.kick {s : State} {d : FlashDesc} (h : Single s d) : s.kick = s.startDesc (s.descBank d) d := by
  have hbank := s.descBank_lt d
  have hidle : ∀ (t : State) (k : Nat), t.flash.queue = [d] → t.descBank d ≠ k → t.kickBank k = t := fun t k hqueue hne => by
    refine State.kickBank_of_waiting_nil (State.waiting_eq_nil fun x hx => ?_)
    rw [hqueue, List.mem_singleton] at hx
    rwa [hx]
  unfold State.kick
  rw [h.kickMerge, State.mergePump_of_noMerge h.merge]
  by_cases hzero : s.descBank d = 0
  · have hwork := s.startDesc_bankWork (j := 0) (by decide) d
    have hstart := h.kickBank
    rw [hzero] at hstart ⊢
    rw [hstart]
    refine hidle _ 1 (hwork.queue.trans h.queue) ?_
    rw [State.descBank_congr (hwork.get _ (FLC_OWNER_SWAP_offBank 0)), hzero]
    decide
  · have hone : s.descBank d = 1 := by omega
    have hstart := h.kickBank
    rw [hone] at hstart
    rw [hidle s 0 h.queue hzero, hone, hstart]


/-! A push to an idle controller (R344, R345). -/

/-- `s` with descriptor `d` behind the others. -/
def State.withPushed (s : State) (d : FlashDesc) : State :=
  (s.flag FLC_STATUS_PUSH_REJ false).setFlash { s.flash with queue := s.flash.queue ++ [d] }

theorem State.readPage_withPushed (s : State) (d : FlashDesc) (p : Nat) : (s.withPushed d).readPage p = s.readPage p := rfl

theorem State.get_withPushed (s : State) (d : FlashDesc) {f : RegField} (hf : f.key ≠ FLC_STATUS_PUSH_REJ.key) :
    (s.withPushed d).get f = s.get f := by
  exact (s.get_put_ne (ofBool false) hf : (s.flag FLC_STATUS_PUSH_REJ false).get f = s.get f)

theorem State.flashPhys_congr {s t : State} (h : t.get FLC_OWNER_SWAP = s.get FLC_OWNER_SWAP) (a : Nat) :
    t.flashPhys a = s.flashPhys a := by
  unfold State.flashPhys
  rw [State.on_congr h]

/-- The checks of a descriptor read the banks, core 1's grants and registers other than the queue's own flag (R345). -/
theorem State.flashCheck_congr {s t : State} (hbank : ∀ k, t.bank k = s.bank k) (hcore : t.core1 = s.core1)
    (hget : ∀ f : RegField, f.key ≠ FLC_STATUS_PUSH_REJ.key → t.get f = s.get f) (d : FlashDesc) :
    t.flashCheck d = s.flashCheck d := by
  have hphys : t.flashPhys = s.flashPhys := funext (State.flashPhys_congr (hget _ (by decide)))
  have hstate : ∀ k, t.get (FLC_BANK_STAT_STATE k) = s.get (FLC_BANK_STAT_STATE k) := fun k => hget _ (by
    simp only [RegField.key, FLC_BANK_STAT_STATE, FLC_STATUS_PUSH_REJ]
    omega)
  have hmode : t.mode = s.mode := hget _ (by decide)
  have hsuspect : t.suspect = s.suspect := funext fun k => funext fun b => by
    unfold State.suspect
    rw [hget (FLC_SUSP_L_SUSPECT k), hget (FLC_SUSP_H_SUSPECT k)]
    · simp only [RegField.key, FLC_SUSP_H_SUSPECT, FLC_STATUS_PUSH_REJ]
      omega
    · simp only [RegField.key, FLC_SUSP_L_SUSPECT, FLC_STATUS_PUSH_REJ]
      omega
  have hgranted : t.granted = s.granted := funext fun a => funext fun n => funext fun need => by
    unfold State.granted
    refine congrArg (List.any _) (funext fun k => ?_)
    unfold State.grantHolds
    rw [hcore]
  unfold State.flashCheck
  rw [hphys, hsuspect, hgranted, hmode, funext hbank]
  extract_lets p k b unit bk sus held sus'
  have hsus : sus = sus' := congrArg (· == 3) (hstate k)
  rw [hsus]

theorem State.flashCheck_withPushed (s : State) (d e : FlashDesc) : (s.withPushed d).flashCheck e = s.flashCheck e :=
  State.flashCheck_congr (s := s) (t := s.withPushed d) (fun _ => rfl) rfl (fun _ hf => s.get_withPushed d hf) e

theorem State.flashSubmit_push {s : State} {d : FlashDesc} {rom : Bool} (hown : s.get FLC_OWNER_ROM_OWN = 0 ∨ rom = true)
    (hroom : s.flash.queue.length < 16) (hop : d.op ≠ 5 ∧ d.op ≠ 6) : s.flashSubmit d rom = (s.withPushed d).kick := by
  unfold State.flashSubmit State.flashPush
  rw [if_neg, if_neg (by omega), if_neg (by omega)]
  · rfl
  · rcases hown with hown | rfl
    · simp [State.on, hown]
    · simp

theorem State.flashSubmit_free {s : State} {d : FlashDesc} {rom : Bool} (hfree : s.flashFree rom = true)
    (hop : d.op ≠ 5 ∧ d.op ≠ 6 ∧ d.op ≠ 7) : s.flashSubmit d rom = (s.withPushed d).startDesc (s.descBank d) d := by
  unfold State.flashFree at hfree
  simp only [Bool.and_eq_true, Bool.or_eq_true, beq_iff_eq, List.isEmpty_iff, decide_eq_true_eq, Option.isNone_iff_eq_none] at hfree
  obtain ⟨⟨⟨⟨⟨⟨⟨⟨hown, hqueue⟩, hdone⟩, hmerge⟩, hmergeRun⟩, hrun0⟩, hside0⟩, hrun1⟩, hside1⟩ := hfree
  have hsingle : Single (s.withPushed d) d :=
    ⟨(congrArg (· ++ [d]) hqueue : (s.withPushed d).flash.queue = [] ++ [d]), hdone, hmerge, hmergeRun, hrun0, hside0, hrun1, hside1, hop.2.2⟩
  rw [State.flashSubmit_push hown (by rw [hqueue]; decide) ⟨hop.1, hop.2.1⟩, hsingle.kick,
    State.descBank_congr (s.get_withPushed d (by decide))]

/-- A descriptor that a check refuses is done with that status. -/
theorem State.startDesc_refused {s : State} {d : FlashDesc} {n : Nat} (hcheck : s.flashCheck d = some n) (k : Nat) :
    s.startDesc k d = s.setRun k (some { s.taken d with status := some n }) := by
  unfold State.startDesc
  rw [hcheck]

theorem State.startDesc_passed {s : State} {d : FlashDesc} (hcheck : s.flashCheck d = none) (k : Nat) :
    s.startDesc k d = s.beginDesc k (s.taken d) := by
  unfold State.startDesc
  rw [hcheck]

theorem State.beginDesc_program (s : State) (k : Nat) {r : FlashRun} (hop : r.desc.op = 2) : s.beginDesc k r = s.startProgram k r := by
  obtain ⟨⟨op, flags, tag, faddr, buf, rsv, core1, merge⟩, status, result, bits, value, data, start, pages⟩ := r
  cases hop
  rfl

theorem State.beginDesc_erase (s : State) (k : Nat) {r : FlashRun} (hop : r.desc.op = 3) (hfree : 2 ≤ s.get (jnlFree k)) :
    s.beginDesc k r = s.startErase k r := by
  obtain ⟨⟨op, flags, tag, faddr, buf, rsv, core1, merge⟩, status, result, bits, value, data, start, pages⟩ := r
  cases hop
  exact if_neg (by omega)

theorem State.beginDesc_counter (s : State) (k : Nat) {r : FlashRun} (hop : r.desc.op = 4) : s.beginDesc k r =
    s.setRun k (some { r with status := some 0, value := s.get (ecnt k (pageBlock (physPage (s.flashPhys r.desc.faddr)))) }) := by
  obtain ⟨⟨op, flags, tag, faddr, buf, rsv, core1, merge⟩, status, result, bits, value, data, start, pages⟩ := r
  cases hop
  rfl

/-- A page read has its decoded page, or the decoder's failure (R345). -/
theorem State.beginDesc_read (s : State) (k : Nat) {r : FlashRun} (hop : r.desc.op = 1) (hflags : r.desc.flags = 0) {p : Nat}
    {dec : PageDecode} (hp : physPage (s.flashPhys r.desc.faddr) = p) (hdec : s.readPage p = dec) : ((s.beginDesc k r).bank k).run = some
      (if dec.result = 3 then { r with result := dec.result, bits := dec.bits, status := some 5 }
       else { r with result := dec.result, bits := dec.bits, status := some 0, data := dec.data }) := by
  have heq : s.beginDesc k r = (if pageBlock p = 63 then s else s.reportDecode r.desc.faddr dec).setRun k (some
      (if dec.result = 3 then { r with result := dec.result, bits := dec.bits, status := some 5 }
       else { r with result := dec.result, bits := dec.bits, status := some 0, data := dec.data })) := by
    unfold State.beginDesc
    extract_lets d phys decoded reported run
    have hdecoded : decoded = dec := (congrArg s.readPage hp).trans hdec
    have hreported : reported = if pageBlock p = 63 then s else s.reportDecode r.desc.faddr dec := by
      unfold reported
      rw [hdecoded, show physPage phys = p from hp]
    split
    · rw [if_neg (by rw [show d.flags = 0 from hflags]; decide), hreported, hdecoded]
      unfold run
      rw [hdecoded]
    next h => exact absurd (show r.desc.op = 2 from h) (by omega)
    next h => exact absurd (show r.desc.op = 3 from h) (by omega)
    next h => exact absurd (show r.desc.op = 4 from h) (by omega)
    next h _ _ _ => exact absurd hop h
  rw [heq, State.bank_setRun]

theorem State.bank_startOp (s : State) (k op block : Nat) : (s.startOp k op block).bank k = { s.bank k with susp := 0 } := by
  unfold State.startOp
  rw [State.bank_setBank]
  rfl

/-- The fields of a bank's status are distinct. -/
theorem bankStatus_distinct (k : Nat) : (bankStatus k).Pairwise fun f g => f.key ≠ g.key := by
  simp only [bankStatus, List.pairwise_cons, List.forall_mem_cons, List.not_mem_nil, RegField.key, FLC_BANK_STAT_OP,
    FLC_BANK_STAT_STATE, FLC_BANK_STAT_BLOCK, FLC_BANK_STAT_PULSES, FLC_BANK_STAT_SUSPENDS, FLC_BANK_STAT_STARVED,
    false_imp_iff, implies_true, and_true, List.Pairwise.nil]
  omega

theorem State.get_startOp (s : State) (k op block : Nat) : (s.startOp k op block).get (FLC_BANK_STAT_OP k) = op % 4 ∧
    (s.startOp k op block).get (FLC_BANK_STAT_STATE k) = 1 ∧ (s.startOp k op block).get (FLC_BANK_STAT_BLOCK k) = block % 64 := by
  have hdistinct := bankStatus_distinct k
  simp only [bankStatus, List.pairwise_cons, List.forall_mem_cons] at hdistinct
  obtain ⟨⟨hop1, hop2, hop3, hop4, hop5, -⟩, ⟨hst2, hst3, hst4, hst5, -⟩, ⟨hbl3, hbl4, hbl5, -⟩, -⟩ := hdistinct
  unfold State.startOp
  dsimp only
  rw [State.get_setBank, State.get_setBank, State.get_setBank]
  refine ⟨?_, ?_, ?_⟩
  · rw [State.get_put_ne _ _ hop5, State.get_put_ne _ _ hop4, State.get_put_ne _ _ hop3, State.get_put_ne _ _ hop2,
      State.get_put_ne _ _ hop1, State.get_put_self]
    rfl
  · rw [State.get_put_ne _ _ hst5, State.get_put_ne _ _ hst4, State.get_put_ne _ _ hst3, State.get_put_ne _ _ hst2,
      State.get_put_self]
    rfl
  · rw [State.get_put_ne _ _ hbl5, State.get_put_ne _ _ hbl4, State.get_put_ne _ _ hbl3, State.get_put_self]
    rfl

theorem State.get_startOp_ne (s : State) (k op block : Nat) {f : RegField} (hf : ∀ g ∈ bankStatus k, f.key ≠ g.key) :
    (s.startOp k op block).get f = s.get f := by
  simp only [bankStatus, List.forall_mem_cons] at hf
  obtain ⟨hop, hstate, hblock, hpulses, hsuspends, hstarved, -⟩ := hf
  unfold State.startOp
  dsimp only
  rw [State.get_setBank, State.get_put_ne _ _ hstarved, State.get_put_ne _ _ hsuspends, State.get_put_ne _ _ hpulses,
    State.get_put_ne _ _ hblock, State.get_put_ne _ _ hstate, State.get_put_ne _ _ hop]

theorem pageBlock_lt (p : Nat) : pageBlock p < 64 := by
  unfold pageBlock
  omega

theorem ecnt_ne_bankStatus (j b k : Nat) {g : RegField} (hg : g ∈ bankStatus k) : (ecnt j b).key ≠ g.key := by
  have hkey := bankStatus_key hg
  simp only [ecnt, FLC_ECNT_COUNT, RegField.key] at hkey ⊢
  omega

/-- The program of a page that is not poisoned, with no flip armed, runs with the page encoded (R345). -/
theorem State.startProgram_runs (s : State) (k : Nat) {r : FlashRun} (hmerge : r.desc.merge = false)
    (hclean : s.poisonedIn r.desc.buf 2048 = false) (harm : s.get MEM_FLIPCFG_ARM = 0) :
    s.startProgram k r = (s.setRun k (some { r with
      data := encodePage (s.strengthAt r.desc.faddr) (s.bytes r.desc.buf 2048) [] })).startOp k 1
        (pageBlock (physPage (s.flashPhys r.desc.faddr))) := by
  have hflips : s.takeFlips = ([], s) := if_neg (by simp [State.on, harm])
  unfold State.startProgram
  dsimp only
  rw [if_neg (by simp [hclean]), hflips, if_neg (by simp [hmerge])]
  rfl

theorem State.bank_startErase (s : State) (k : Nat) (r : FlashRun) : ((s.startErase k r).bank k).run = some { r with
    value := min (s.get (ecnt k (pageBlock (physPage (s.flashPhys r.desc.faddr)))) + 1) 0xFFFFFFFF } := by
  unfold State.startErase
  dsimp only
  rw [State.bank_startOp, State.bank_setRun]

theorem State.get_startErase (s : State) (k : Nat) (r : FlashRun) {b c : Nat}
    (hb : pageBlock (physPage (s.flashPhys r.desc.faddr)) = b) (hc : min (s.get (ecnt k b) + 1) 0xFFFFFFFF = c) :
    (s.startErase k r).get (ecnt k b) = c ∧ (s.startErase k r).get (FLC_BANK_STAT_OP k) = 2 ∧
      (s.startErase k r).get (FLC_BANK_STAT_STATE k) = 1 ∧ (s.startErase k r).get (FLC_BANK_STAT_BLOCK k) = b := by
  have heq : s.startErase k r =
      (((s.jnlAppend k 0x5A01 b c).put (ecnt k b) c).setRun k (some { r with value := c })).startOp k 2 b := by
    subst hb hc
    rfl
  rw [heq]
  obtain ⟨hop, hstate, hblock⟩ := State.get_startOp
    ((((s.jnlAppend k 0x5A01 b c).put (ecnt k b) c).setRun k (some { r with value := c }))) k 2 b
  refine ⟨?_, hop, hstate, hblock.trans (Nat.mod_eq_of_lt (hb ▸ pageBlock_lt _))⟩
  rw [State.get_startOp_ne _ _ _ _ fun g hg => ecnt_ne_bankStatus k b k hg, State.get_setRun, State.get_put_self]
  refine Nat.mod_eq_of_lt (show c < 2 ^ 32 from ?_)
  omega

theorem State.fieldsWord_congr {s t : State} {fs : List RegField} (hget : ∀ f ∈ fs, t.get f = s.get f) :
    t.fieldsWord fs = s.fieldsWord fs :=
  List.foldl_ext _ _ _ fun w f hf => by rw [hget f hf]

theorem State.strengthAt_withPushed (s : State) (d : FlashDesc) (a : Nat) : (s.withPushed d).strengthAt a = s.strengthAt a := by
  have hfields : ∀ i, ∀ f ∈ State.strengthAt.strengthFields i, f.key ≠ FLC_STATUS_PUSH_REJ.key := fun i => by
    unfold State.strengthAt.strengthFields
    split <;> decide
  unfold State.strengthAt
  extract_lets n
  rw [State.fieldsWord_congr fun f hf => s.get_withPushed d (hfields _ f hf)]

theorem State.get_ecnt_withPushed (s : State) (d : FlashDesc) (k b : Nat) : (s.withPushed d).get (ecnt k b) = s.get (ecnt k b) :=
  s.get_withPushed d (by
    simp only [ecnt, FLC_ECNT_COUNT, RegField.key, FLC_STATUS_PUSH_REJ]
    omega)

theorem State.flashPhys_withPushed (s : State) (d : FlashDesc) (a : Nat) : (s.withPushed d).flashPhys a = s.flashPhys a :=
  State.flashPhys_congr (s.get_withPushed d (by decide)) a

/-- What a page read on bank `k` shows of the decoder's answer. -/
theorem readRun_shows {t : State} {k : Nat} {r : FlashRun} {d : FlashDesc} (dec : PageDecode) (hdesc : r.desc = d) (hvalue : r.value = 0)
    (hrun : (t.bank k).run = some (if dec.result = 3 then { r with result := dec.result, bits := dec.bits, status := some 5 }
      else { r with result := dec.result, bits := dec.bits, status := some 0, data := dec.data })) :
    ((t.bank k).run.map fun r => (r.desc, r.result, r.bits, r.value)) = some (d, dec.result, dec.bits, 0) ∧
      ((t.bank k).run.map fun r => r.status) = some (some (if dec.result = 3 then 5 else 0)) ∧
      (dec.result ≠ 3 → ((t.bank k).run.map fun r => r.data) = some dec.data) := by
  subst hdesc
  rw [hrun]
  by_cases hfail : dec.result = 3
  · rw [if_pos hfail, if_pos hfail]
    exact ⟨congrArg (fun v => some (r.desc, dec.result, dec.bits, v)) hvalue, rfl, fun hne => absurd hfail hne⟩
  · rw [if_neg hfail, if_neg hfail]
    exact ⟨congrArg (fun v => some (r.desc, dec.result, dec.bits, v)) hvalue, rfl, fun _ => rfl⟩

/-- Settles O37: on an idle controller the queue, the merge buffer and the other bank start nothing beside the descriptor. -/
theorem flashDescriptorsStart : Obligations.FlashDescriptorsStart := by
  unfold Obligations.FlashDescriptorsStart
  refine ⟨?read, ?program, ?erase, ?counter, ?refused, ?full⟩
  case read =>
    intro s tg fa bf c1 rom d hfree hd hcheck
    have hop : d.op = 1 := congrArg FlashDesc.op hd
    have hsubmit := s.flashSubmit_free (d := d) hfree (by omega)
    rw [State.startDesc_passed ((s.flashCheck_withPushed d d).trans hcheck)] at hsubmit
    have hrun := (s.withPushed d).beginDesc_read (s.descBank d) (r := (s.withPushed d).taken d)
      hop (congrArg FlashDesc.flags hd) (congrArg physPage (s.flashPhys_withPushed d d.faddr)) (s.readPage_withPushed d _)
    have hexec : exec (.readPage tg fa bf false c1 rom) s = goOn (s.flashSubmit d rom) := by rw [hd]; rfl
    exact completes_of_goOn (hexec.trans (congrArg goOn hsubmit)) (readRun_shows _ rfl rfl hrun)
  case program =>
    intro s tg fa bf c1 rom d hfree hd hcheck hclean harm
    have hop : d.op = 2 := congrArg FlashDesc.op hd
    have hsubmit := s.flashSubmit_free (d := d) hfree (by omega)
    rw [State.startDesc_passed ((s.flashCheck_withPushed d d).trans hcheck), State.beginDesc_program _ _ hop,
      State.startProgram_runs _ _ (congrArg FlashDesc.merge hd) hclean ((s.get_withPushed d (by decide)).trans harm)] at hsubmit
    have hexec : exec (.programPage tg fa bf c1 rom) s = goOn (s.flashSubmit d rom) := by rw [hd]; rfl
    refine completes_of_goOn (hexec.trans (congrArg goOn hsubmit)) ?_
    have hphys : (s.withPushed d).flashPhys ((s.withPushed d).taken d).desc.faddr = s.flashPhys d.faddr :=
      s.flashPhys_withPushed d d.faddr
    have hstrength : (s.withPushed d).strengthAt ((s.withPushed d).taken d).desc.faddr = s.strengthAt d.faddr :=
      s.strengthAt_withPushed d d.faddr
    rw [State.bank_startOp, State.bank_setRun, hphys, hstrength]
    obtain ⟨hkind, hstate, hblock⟩ := State.get_startOp _ _ _ _
    exact ⟨rfl, hkind, hstate, hblock.trans (Nat.mod_eq_of_lt (pageBlock_lt _))⟩
  case erase =>
    intro s tg fa c1 rom d n hfree hd hcheck hroom hn
    have hop : d.op = 3 := congrArg FlashDesc.op hd
    have hsubmit := s.flashSubmit_free (d := d) hfree (by omega)
    have hroom' : (s.withPushed d).get (jnlFree (s.descBank d)) = s.get (jnlFree (s.descBank d)) := s.get_withPushed d (by
      rw [jnlFree_key]
      split <;> decide)
    rw [State.startDesc_passed ((s.flashCheck_withPushed d d).trans hcheck), State.beginDesc_erase _ _ hop
      (by rw [hroom']; exact hroom)] at hsubmit
    have hexec : exec (.eraseBlock tg fa c1 rom) s = goOn (s.flashSubmit d rom) := by rw [hd]; rfl
    refine completes_of_goOn (hexec.trans (congrArg goOn hsubmit)) ?_
    have hblock : pageBlock (physPage ((s.withPushed d).flashPhys d.faddr)) = pageBlock (physPage (s.flashPhys d.faddr)) := by
      rw [s.flashPhys_withPushed d]
    have hcount := hn.symm
    rw [← s.get_ecnt_withPushed d] at hcount
    obtain ⟨hecnt, hkind, hstate, hblk⟩ :=
      (s.withPushed d).get_startErase (s.descBank d) ((s.withPushed d).taken d) hblock hcount
    refine ⟨?_, hecnt, hkind, hstate, hblk⟩
    rw [State.bank_startErase, show pageBlock (physPage ((s.withPushed d).flashPhys ((s.withPushed d).taken d).desc.faddr)) = _
      from hblock, hcount]
    rfl
  case counter =>
    intro s tg fa c1 rom d hfree hd hcheck
    have hop : d.op = 4 := congrArg FlashDesc.op hd
    have hsubmit := s.flashSubmit_free (d := d) hfree (by omega)
    rw [State.startDesc_passed ((s.flashCheck_withPushed d d).trans hcheck), State.beginDesc_counter _ _ hop,
      s.get_ecnt_withPushed d, s.flashPhys_withPushed d] at hsubmit
    have hexec : exec (.readCounter tg fa c1 rom) s = goOn (s.flashSubmit d rom) := by rw [hd]; rfl
    refine completes_of_goOn (hexec.trans (congrArg goOn hsubmit)) ?_
    rw [State.bank_setRun]
    rfl
  case refused =>
    intro s tg fa c1 rom d n hfree hd hcheck
    have hop : d.op = 4 := congrArg FlashDesc.op hd
    have hsubmit := s.flashSubmit_free (d := d) hfree (by omega)
    rw [State.startDesc_refused ((s.flashCheck_withPushed d d).trans hcheck)] at hsubmit
    have hexec : exec (.readCounter tg fa c1 rom) s = goOn (s.flashSubmit d rom) := by rw [hd]; rfl
    refine completes_of_goOn (hexec.trans (congrArg goOn hsubmit)) ?_
    rw [State.bank_setRun]
    rfl
  case full =>
    intro s tg fa c1 rom hown hfull
    refine completes_of_goOn (congrArg goOn ?_) rfl
    unfold State.flashSubmit State.flashPush
    rw [if_neg, if_pos hfull]
    · rfl
    · rcases hown with hown | rfl
      · simp [State.on, hown]
      · simp

end Sys2Proof.Machine

/-! ## What the start of everything that can start leaves, and the completion of descriptors (O38, O39) -/
namespace Sys2Proof.Machine

/-- What a start of descriptors leaves: records, events, a FLUSH_MERGE at work, a merge buffer all of which is to be flushed,
the memory outside the journals, and on a bank at work its descriptor, state and suspensions (R344). -/
structure KickKept (s t : State) : Prop where
  done : t.flash.done = s.flash.done
  steady : Steady s t
  mergeRun : s.flash.mergeRun ≠ none → t.flash.mergeRun = s.flash.mergeRun
  merge : (∀ e ∈ s.flash.merge, e.flushing = true) → t.flash.merge = s.flash.merge
  half : ∀ k, t.get (jnlHalf k) = s.get (jnlHalf k)
  byte : s.get (jnlHalf 0) ≤ 1 → s.get (jnlHalf 1) ≤ 1 → ∀ a, ¬inJournal 0 a → ¬inJournal 1 a → t.byte a = s.byte a
  running : ∀ k < 2, (s.bank k).run ≠ none → (t.bank k).run ≠ none ∧
    t.get (FLC_BANK_STAT_STATE k) = s.get (FLC_BANK_STAT_STATE k) ∧
    t.get (FLC_BANK_STAT_SUSPENDS k) = s.get (FLC_BANK_STAT_SUSPENDS k)

theorem KickKept.refl (s : State) : KickKept s s :=
  ⟨rfl, Steady.refl s, fun _ => rfl, fun _ => rfl, fun _ => rfl, fun _ _ _ _ _ => rfl, fun _ _ h => ⟨h, rfl, rfl⟩⟩

theorem KickKept.trans {r s t : State} (h : KickKept r s) (g : KickKept s t) : KickKept r t := by
  refine ⟨g.done.trans h.done, h.steady.trans g.steady, fun hr => ?_, fun hm => ?_, fun k => (g.half k).trans (h.half k),
    fun h0 h1 a ha hb => ?_, fun k hk hr => ?_⟩
  · have heq := h.mergeRun hr
    exact (g.mergeRun (heq ▸ hr)).trans heq
  · have heq := h.merge hm
    exact (g.merge (heq ▸ hm)).trans heq
  · exact (g.byte (by rwa [h.half]) (by rwa [h.half]) a ha hb).trans (h.byte h0 h1 a ha hb)
  · obtain ⟨hrun, hstate, hsusp⟩ := h.running k hk hr
    obtain ⟨grun, gstate, gsusp⟩ := g.running k hk hrun
    exact ⟨grun, gstate.trans hstate, gsusp.trans hsusp⟩

theorem FLC_BANK_STAT_STATE_mem (k : Nat) : FLC_BANK_STAT_STATE k ∈ bankStatus k := by simp [bankStatus]

theorem FLC_BANK_STAT_SUSPENDS_mem (k : Nat) : FLC_BANK_STAT_SUSPENDS k ∈ bankStatus k := by simp [bankStatus]

/-- Work on bank `j` leaves what a start leaves, where a descriptor at work on it stays so. -/
theorem BankWork.kickKept {j : Nat} {s t : State} (h : BankWork j s t) (hj : j < 2)
    (hrun : (s.bank j).run ≠ none → (t.bank j).run ≠ none ∧ t.get (FLC_BANK_STAT_STATE j) = s.get (FLC_BANK_STAT_STATE j) ∧
      t.get (FLC_BANK_STAT_SUSPENDS j) = s.get (FLC_BANK_STAT_SUSPENDS j)) : KickKept s t := by
  refine ⟨h.done, h.steady, fun _ => h.mergeRun, fun _ => h.merge, fun k => h.get _ (jnlHalf_offBank j k),
    fun h0 h1 a ha hb => ?_, fun k hk hr => ?_⟩
  · rcases (by omega : j = 0 ∨ j = 1) with rfl | rfl
    · exact h.byte h0 a ha
    · exact h.byte h1 a hb
  · by_cases hkj : k = j
    · subst hkj
      exact hrun hr
    · exact ⟨by rwa [h.bank k hk hkj], h.get _ (bankStatus_offBank (FLC_BANK_STAT_STATE_mem k) hj hk hkj),
        h.get _ (bankStatus_offBank (FLC_BANK_STAT_SUSPENDS_mem k) hj hk hkj)⟩

theorem BankWork.kickKept_of_idle {j : Nat} {s t : State} (h : BankWork j s t) (hj : j < 2) (hidle : (s.bank j).run = none) :
    KickKept s t :=
  h.kickKept hj fun hr => absurd hidle hr

/-- Another queue in the flash controller. -/
theorem State.setQueue_kickKept (s : State) (q : List FlashDesc) : KickKept s (s.setFlash { s.flash with queue := q }) :=
  ⟨rfl, ⟨fun _ h => h, fun _ _ => rfl⟩, fun _ => rfl, fun _ => rfl, fun _ => rfl, fun _ _ _ _ _ => rfl, fun _ _ h => ⟨h, rfl, rfl⟩⟩

theorem State.mergePump_kickKept (s : State) : KickKept s s.mergePump := s.setQueue_kickKept _

theorem State.mergeTrigger_merge_of_flushing {s : State} (p : MergeEntry → Bool) (h : ∀ e ∈ s.flash.merge, e.flushing = true) :
    (s.mergeTrigger p).flash.merge = s.flash.merge := by
  unfold State.mergeTrigger
  extract_lets want pages es
  show es = s.flash.merge
  refine (List.map_congr_left fun e he => ?_).trans (List.map_id _)
  rw [if_neg (by simp [want, h e he])]
  rfl

theorem State.mergeTrigger_kickKept (s : State) (p : MergeEntry → Bool) : KickKept s (s.mergeTrigger p) :=
  ⟨rfl, ⟨fun _ h => h, fun _ _ => rfl⟩, fun _ => rfl, State.mergeTrigger_merge_of_flushing p, fun _ => rfl,
    fun _ _ _ _ _ => rfl, fun _ _ h => ⟨h, rfl, rfl⟩⟩

theorem State.kickMerge_kickKept (s : State) : KickKept s s.kickMerge := by
  unfold State.kickMerge
  split
  · exact KickKept.refl s
  next hnone =>
    split
    · exact KickKept.refl s
    · split
      · exact KickKept.refl s
      · extract_lets pages st triggered
        have htriggered : KickKept s triggered := by
          unfold triggered
          split
          · exact KickKept.refl s
          · exact s.mergeTrigger_kickKept _
        refine ⟨htriggered.done, htriggered.steady.trans ⟨fun _ h => h, fun _ _ => rfl⟩, fun hr => absurd hnone hr, htriggered.merge, htriggered.half, htriggered.byte,
          htriggered.running⟩

/-- A read beside a suspended operation leaves the operation (R344). -/
theorem State.beside_kickKept {j : Nat} (hj : j < 2) {s t : State} {run : FlashRun} (hread : ∃ (x : State) (r : Option FlashRun),
      (x = s ∨ ∃ a d, x = s.reportDecode a d) ∧ t = x.setRun j r) :
    KickKept s (t.setBank j { t.bank j with side := (t.bank j).run, run := some run }) := by
  obtain ⟨x, r, hx, rfl⟩ := hread
  have hleft : ∀ i, BankWork i s x := fun i => by
    rcases hx with rfl | ⟨a, d, rfl⟩
    · exact BankWork.refl i _
    · exact s.reportDecode_bankWork a d i
  have hstat : ∀ f ∈ bankStatus j, x.get f = s.get f := fun f hf =>
    (hleft (1 - j)).get f (bankStatus_offBank hf (by omega) hj (by omega))
  refine (((hleft j).trans (x.setRun_bankWork hj r)).trans (State.setBank_bankWork hj _ _)).kickKept hj fun _ => ?_
  rw [State.bank_setBank, State.get_setBank, State.get_setBank, State.get_setRun, State.get_setRun,
    hstat _ (FLC_BANK_STAT_STATE_mem j), hstat _ (FLC_BANK_STAT_SUSPENDS_mem j)]
  exact ⟨Option.some_ne_none _, rfl, rfl⟩

theorem State.kickBank_kickKept {j : Nat} (hj : j < 2) (s : State) : KickKept s (s.kickBank j) := by
  unfold State.kickBank
  split
  · exact KickKept.refl s
  · split
    next hidle =>
      split
      · exact KickKept.refl s
      · extract_lets r
        split
        · exact (s.setRun_bankWork hj _).kickKept_of_idle hj hidle
        · split
          · exact (s.beginDesc_bankWork hj _).kickKept_of_idle hj hidle
          · extract_lets triggered md rest i src ahead
            have hahead : KickKept s ahead := (s.mergeTrigger_kickKept _).trans (State.setQueue_kickKept _ _)
            have hrun : (ahead.bank j).run = none := hidle
            clear_value ahead md
            split
            · exact hahead
            · extract_lets r'
              split
              · exact hahead.trans ((State.setRun_bankWork hj _ _).kickKept_of_idle hj hrun)
              · exact hahead.trans ((State.beginDesc_bankWork hj _ _).kickKept_of_idle hj hrun)
    · split
      · split
        · exact KickKept.refl s
        next d hd =>
          extract_lets side t
          refine State.beside_kickKept hj ?_
          have hop : d.op = 1 ∨ d.op = 4 := by
            have := List.find?_some hd
            simpa using this
          unfold t
          split
          · exact ⟨s, _, .inl rfl, rfl⟩
          · exact s.beginDesc_reads j hop
      · exact KickKept.refl s

theorem State.kick_kickKept (s : State) : KickKept s s.kick :=
  ((s.kickMerge_kickKept.trans (State.mergePump_kickKept _)).trans (State.kickBank_kickKept (by decide) _)).trans
    (State.kickBank_kickKept (by decide) _)

/-! The completion record (R346). -/

/-- The record of a run that ends. -/
def State.doneRecord (s : State) (r : FlashRun) (st susp : Nat) : List Byte :=
  leBytes 1 st ++ leBytes 1 r.result ++ leBytes 1 r.bits ++ leBytes 1 r.desc.op ++ leBytes 2 r.desc.tag ++ leBytes 2 susp ++
    leBytes 4 r.value ++ leBytes 4 (min ((s.clock - r.start) / 100) 0xFFFFFFFF)

theorem State.flashRecord_eq (s : State) (r : FlashRun) (st susp : Nat) : s.flashRecord r st susp =
    ((s.setFlash { s.flash with done := s.flash.done ++ [s.doneRecord r st susp] }).raise 104).raiseIf (st != 0 && st != 9) 105 := rfl

theorem State.flashRecord_flash (s : State) (r : FlashRun) (st susp : Nat) :
    (s.flashRecord r st susp).flash = { s.flash with done := s.flash.done ++ [s.doneRecord r st susp] } := by
  rw [State.flashRecord_eq, State.raiseIf_flash, State.raise_flash, State.setFlash_flash]

theorem State.flashRecord_event (s : State) (r : FlashRun) (st susp : Nat) : (s.flashRecord r st susp).event 104 = true :=
  (State.raiseIf_steady _ _ 105).event _ (State.event_raise _ 104)

theorem State.flashRecord_failed (s : State) (r : FlashRun) {st : Nat} (susp : Nat) (hok : st ≠ 0) (hactive : st ≠ 9) :
    (s.flashRecord r st susp).event 105 = true := by
  rw [State.flashRecord_eq, show (st != 0 && st != 9) = true by simp [hok, hactive]]
  exact State.event_raise _ 105

theorem leAt_field (a : List Byte) {off n : Nat} (v : Nat) (b : List Byte) (hoff : a.length = off) :
    leAt (a ++ (leBytes n v ++ b)) off n = v % 256 ^ n := by
  subst hoff
  have htake : (leBytes n v ++ b).take n = leBytes n v := List.take_left' (by simp)
  unfold leAt bytesAt
  rw [List.drop_left, htake]
  simp [leNat_leBytes]

theorem State.doneRecord_status (s : State) (r : FlashRun) (st susp : Nat) : leAt (s.doneRecord r st susp) 0 1 = st % 256 ∧
    leAt (s.doneRecord r st susp) 3 1 = r.desc.op % 256 ∧ leAt (s.doneRecord r st susp) 4 2 = r.desc.tag % 65536 := by
  unfold State.doneRecord
  simp only [List.append_assoc]
  refine ⟨leAt_field [] st _ rfl, ?_, ?_⟩
  · rw [← List.append_assoc, ← List.append_assoc]
    exact leAt_field _ r.desc.op _ (by simp)
  · rw [← List.append_assoc, ← List.append_assoc, ← List.append_assoc]
    exact leAt_field _ r.desc.tag _ (by simp)

/-! Operations at work (R340, R344, R348). -/

theorem State.get_flashRecord (s : State) (r : FlashRun) (st susp : Nat) {f : RegField} (hf : f.inBlock 13) :
    (s.flashRecord r st susp).get f = s.get f := (s.flashRecord_moves r st susp).get_eq hf (by decide) rfl

/-- What pulse `n` of a program or erase ends it with (R340). -/
def State.pulseStatus (s : State) (k : Nat) (complete : Bool) (n : Nat) : Option Nat :=
  if complete = true then some 0 else if s.get (FLC_BANK_STAT_OP k) = 1 ∧ 12 ≤ n then some 7 else if 80 ≤ n then some 8 else none

/-- A pulse of a running program or erase ends (R340). -/
theorem State.pulseEnd_runs {s : State} {k n : Nat} {r : FlashRun} (complete : Bool) (hrun : (s.bank k).run = some r)
    (hstatus : r.status = none) (hstate : s.get (FLC_BANK_STAT_STATE k) = 1)
    (hop : s.get (FLC_BANK_STAT_OP k) = 1 ∨ s.get (FLC_BANK_STAT_OP k) = 2) (hn : n = s.get (FLC_BANK_STAT_PULSES k) + 1) :
    ∃ u : State, u = s.put (FLC_BANK_STAT_PULSES k) n ∧ (s.pulseEnd k complete = u ∨ ∃ q, s.pulseEnd k complete = u.setRun k (some q)) ∧
      ((s.pulseEnd k complete).bank k).run = some { r with status := s.pulseStatus k complete n } := by
  refine ⟨_, rfl, ?_⟩
  have hsame : { r with status := none } = r := by rw [← hstatus]
  subst hn
  unfold State.pulseEnd State.pulseStatus
  rw [hrun]
  dsimp only
  rw [if_neg (by rw [hstate, hstatus]; simp; omega)]
  by_cases hcomplete : complete = true
  · rw [if_pos hcomplete, if_pos hcomplete, if_neg (by omega), State.bank_setRun]
    exact ⟨.inr ⟨_, rfl⟩, rfl⟩
  · rw [if_neg hcomplete, if_neg hcomplete]
    by_cases hprogram : s.get (FLC_BANK_STAT_OP k) = 1 ∧ 12 ≤ s.get (FLC_BANK_STAT_PULSES k) + 1
    · rw [if_pos hprogram, if_pos hprogram, State.bank_setRun]
      exact ⟨.inr ⟨_, rfl⟩, rfl⟩
    · rw [if_neg hprogram, if_neg hprogram]
      by_cases herase : 80 ≤ s.get (FLC_BANK_STAT_PULSES k) + 1
      · rw [if_pos herase, if_pos herase, State.bank_setRun]
        exact ⟨.inr ⟨_, rfl⟩, rfl⟩
      · rw [if_neg herase, if_neg herase, hsame]
        exact ⟨.inl rfl, hrun⟩

theorem flashPulseEnd_counts {s : State} {b complete : Bool} {k n : Nat} {r : FlashRun} (hk : k = ofBool b)
    (hrun : (s.bank k).run = some r) (hstatus : r.status = none) (hstate : s.get (FLC_BANK_STAT_STATE k) = 1)
    (hop : s.get (FLC_BANK_STAT_OP k) = 1 ∨ s.get (FLC_BANK_STAT_OP k) = 2) (hn : n = s.get (FLC_BANK_STAT_PULSES k) + 1)
    (hlt : n < 256) : completes (.flashPulseEnd b complete) s fun t => t.get (FLC_BANK_STAT_PULSES k) = n ∧
      (t.bank k).run = some { r with status := s.pulseStatus k complete n } := by
  subst hk
  obtain ⟨u, hu, hends, hbank⟩ := State.pulseEnd_runs complete hrun hstatus hstate hop hn
  have hcount : u.get (FLC_BANK_STAT_PULSES (ofBool b)) = n := by
    rw [hu, State.get_put_self]
    exact Nat.mod_eq_of_lt hlt
  refine ⟨_, rfl, ?_, hbank⟩
  rcases hends with heq | ⟨q, heq⟩
  · rw [heq, hcount]
  · rw [heq, State.get_setRun, hcount]

/-- A SUSPEND or RESUME that is taken acts at once (R344). -/
theorem State.flashSubmit_acts {s : State} {d : FlashDesc} {rom : Bool} (hop : d.op = 5 ∨ d.op = 6)
    (hown : s.get FLC_OWNER_ROM_OWN = 0 ∨ rom = true) (hroom : s.flash.queue.length < 16) (hdone : s.flash.done.length < 16) :
    s.flashSubmit d rom = ((s.flag FLC_STATUS_PUSH_REJ false).suspendDesc d).kick := by
  unfold State.flashSubmit State.flashPush
  rw [if_neg, if_neg (by omega), if_pos ⟨hop, hdone⟩]
  rcases hown with hown | rfl
  · simp [State.on, hown]
  · simp

theorem State.flashCheck_unrejected (s : State) (d : FlashDesc) : (s.flag FLC_STATUS_PUSH_REJ false).flashCheck d = s.flashCheck d :=
  State.flashCheck_congr (s := s) (t := s.flag FLC_STATUS_PUSH_REJ false) (fun _ => rfl) rfl (fun _ hf => s.get_put_ne _ hf) d

theorem bankStatus_ne_PUSH_REJ {f : RegField} {k : Nat} (hf : f ∈ bankStatus k) : f.key ≠ FLC_STATUS_PUSH_REJ.key := by
  have hkey := bankStatus_key hf
  have : FLC_STATUS_PUSH_REJ.key = 0x400D0004 * 32 + 5 := rfl
  omega

theorem STATE_ne_SUSPENDS (k : Nat) : (FLC_BANK_STAT_STATE k).key ≠ (FLC_BANK_STAT_SUSPENDS k).key := by
  simp only [RegField.key, FLC_BANK_STAT_STATE, FLC_BANK_STAT_SUSPENDS]
  omega

/-- What a SUSPEND or RESUME shows once everything that can start has started. -/
theorem State.kick_shows {x : State} {k st susp n : Nat} {r : FlashRun} (hk : k < 2) (hrun : (x.bank k).run ≠ none)
    (hstate : x.get (FLC_BANK_STAT_STATE k) = st) (hsusp : x.get (FLC_BANK_STAT_SUSPENDS k) = susp)
    (hdone : x.flash.done.length = n) : (x.flashRecord r 0 0).kick.get (FLC_BANK_STAT_STATE k) = st ∧
      (x.flashRecord r 0 0).kick.get (FLC_BANK_STAT_SUSPENDS k) = susp ∧ (x.flashRecord r 0 0).kick.flash.done.length = n + 1 ∧
      (x.flashRecord r 0 0).kick.event 104 = true := by
  have hkick := (x.flashRecord r 0 0).kick_kickKept
  have hflash := x.flashRecord_flash r 0 0
  have hbank : ((x.flashRecord r 0 0).bank k).run = (x.bank k).run := by
    unfold State.bank
    rw [hflash]
  obtain ⟨-, hkstate, hksusp⟩ := hkick.running k hk (by rwa [hbank])
  refine ⟨?_, ?_, ?_, hkick.steady.event _ (x.flashRecord_event r 0 0)⟩
  · rw [hkstate, State.get_flashRecord _ _ _ _ (bankStatus_block (FLC_BANK_STAT_STATE_mem k)), hstate]
  · rw [hksusp, State.get_flashRecord _ _ _ _ (bankStatus_block (FLC_BANK_STAT_SUSPENDS_mem k)), hsusp]
  · rw [hkick.done, hflash, List.length_append, hdone]
    rfl

theorem State.flashSubmit_suspends {s : State} {d : FlashDesc} {rom : Bool} {k : Nat} (hop : d.op = 5)
    (hown : s.get FLC_OWNER_ROM_OWN = 0 ∨ rom = true) (hroom : s.flash.queue.length < 16) (hdone : s.flash.done.length < 16)
    (hcheck : s.flashCheck d = none) (hk : k = s.descBank d) (hrun : (s.bank k).run.isSome = true)
    (hstate : s.get (FLC_BANK_STAT_STATE k) = 1) : (s.flashSubmit d rom).get (FLC_BANK_STAT_STATE k) = 3 ∧
      (s.flashSubmit d rom).get (FLC_BANK_STAT_SUSPENDS k) = satInc 13 (s.get (FLC_BANK_STAT_SUSPENDS k)) % 8192 ∧
      (s.flashSubmit d rom).flash.done.length = s.flash.done.length + 1 ∧ (s.flashSubmit d rom).event 104 = true := by
  have hkept : ∀ f ∈ bankStatus k, (s.flag FLC_STATUS_PUSH_REJ false).get f = s.get f := fun f hf =>
    s.get_put_ne _ (bankStatus_ne_PUSH_REJ hf)
  have hbank : (s.flag FLC_STATUS_PUSH_REJ false).descBank d = k := by
    rw [hk]
    exact State.descBank_congr (s.get_put_ne _ (by decide)) d
  rw [State.flashSubmit_acts (.inl hop) hown hroom hdone]
  unfold State.suspendDesc
  rw [s.flashCheck_unrejected d]
  simp only [hcheck, hbank]
  rw [if_pos hop, hkept _ (FLC_BANK_STAT_STATE_mem k), if_pos hstate]
  refine State.kick_shows (hk ▸ s.descBank_lt d) ?_ ?_ ?_ ?_
  · unfold State.suspendOp
    rw [State.bank_setBank]
    exact Option.isSome_iff_ne_none.mp hrun
  · unfold State.suspendOp
    rw [State.get_setBank]
    exact (State.get_put_ne _ _ (STATE_ne_SUSPENDS k)).trans (State.get_put_self _ _ _)
  · unfold State.suspendOp State.bump
    rw [State.get_setBank, State.get_put_self, State.get_put_ne _ _ (STATE_ne_SUSPENDS k).symm,
      hkept _ (FLC_BANK_STAT_SUSPENDS_mem k)]
    rfl
  · unfold State.suspendOp
    rw [(State.setBank_flash _ _ _).2.1]
    rfl

theorem State.flashSubmit_resumes {s : State} {d : FlashDesc} {rom : Bool} {k : Nat} (hop : d.op = 6)
    (hown : s.get FLC_OWNER_ROM_OWN = 0 ∨ rom = true) (hroom : s.flash.queue.length < 16) (hdone : s.flash.done.length < 16)
    (hcheck : s.flashCheck d = none) (hk : k = s.descBank d) (hrun : (s.bank k).run.isSome = true)
    (hstate : s.get (FLC_BANK_STAT_STATE k) = 2 ∨ s.get (FLC_BANK_STAT_STATE k) = 3) :
    (s.flashSubmit d rom).get (FLC_BANK_STAT_STATE k) = 1 ∧
      (s.flashSubmit d rom).flash.done.length = s.flash.done.length + 1 ∧ (s.flashSubmit d rom).event 104 = true := by
  have hkept : ∀ f ∈ bankStatus k, (s.flag FLC_STATUS_PUSH_REJ false).get f = s.get f := fun f hf =>
    s.get_put_ne _ (bankStatus_ne_PUSH_REJ hf)
  have hbank : (s.flag FLC_STATUS_PUSH_REJ false).descBank d = k := by
    rw [hk]
    exact State.descBank_congr (s.get_put_ne _ (by decide)) d
  rw [State.flashSubmit_acts (.inr hop) hown hroom hdone]
  unfold State.suspendDesc
  rw [s.flashCheck_unrejected d]
  simp only [hcheck, hbank]
  rw [if_neg (by omega), hkept _ (FLC_BANK_STAT_STATE_mem k), if_pos hstate]
  obtain ⟨hst, -, hlen, hevent⟩ := State.kick_shows (x := (s.flag FLC_STATUS_PUSH_REJ false).put (FLC_BANK_STAT_STATE k) 1)
    (r := { desc := d, start := (s.flag FLC_STATUS_PUSH_REJ false).clock }) (hk ▸ s.descBank_lt d) (Option.isSome_iff_ne_none.mp hrun)
    (State.get_put_self _ _ _) rfl rfl
  exact ⟨hst, hlen, hevent⟩

/-- Every merge entry is to be flushed (R327). -/
theorem State.mergeTrigger_all (s : State) : (∀ e ∈ (s.mergeTrigger fun _ => true).flash.merge, e.flushing = true) ∧
    (s.mergeTrigger fun _ => true).flash.merge.map (fun (e : MergeEntry) => (e.slot, e.page, e.image, e.flushing)) =
      s.flash.merge.map fun (e : MergeEntry) => (e.slot, e.page, e.image, true) := by
  unfold State.mergeTrigger
  extract_lets want pages es
  have hwant : ∀ e, want e = !e.flushing := fun e => Bool.true_and _
  constructor
  · intro e he
    obtain ⟨x, -, rfl⟩ := List.mem_map.mp (show e ∈ es from he)
    by_cases hx : x.flushing = true
    · rw [if_neg (by rw [hwant, hx]; decide)]
      exact hx
    · rw [if_pos (by rw [hwant]; simpa using hx)]
  · show es.map _ = _
    rw [List.map_map]
    refine List.map_congr_left fun x _ => ?_
    by_cases hx : x.flushing = true
    · rw [Function.comp_apply, if_neg (by rw [hwant, hx]; decide), hx]
    · rw [Function.comp_apply, if_pos (by rw [hwant]; simpa using hx)]

theorem State.flushAll_merge (s : State) :
    s.flushAll.flash.merge.map (fun (e : MergeEntry) => (e.slot, e.page, e.image, e.flushing)) =
      s.flash.merge.map fun (e : MergeEntry) => (e.slot, e.page, e.image, true) := by
  obtain ⟨hall, hmap⟩ := s.mergeTrigger_all
  unfold State.flushAll
  rw [(State.kick_kickKept _).merge hall, hmap]

theorem State.flashCheck_flushMerge (s : State) (tag : Nat) (c1 : Bool) : s.flashCheck { op := 7, tag := tag, core1 := c1 } = none := by
  unfold State.flashCheck
  extract_lets p k b unit bk sus held
  rw [if_neg (by simp [bit]), if_neg (by simp), if_neg (by simp), if_neg (by simp), if_neg (by simp), if_neg (by simp),
    if_neg (by simp)]

/-- A FLUSH_MERGE on an empty queue is at work, and every merge entry is to be flushed (R344). -/
theorem State.kickMerge_flush {z : State} {d : FlashDesc} (hqueue : z.flash.queue = [d]) (hop : d.op = 7)
    (hidle : z.flash.mergeRun = none) (hdone : z.flash.done.length < 16) (hcheck : z.flashCheck d = none) :
    z.kickMerge.flash.mergeRun = some { z.taken d with pages := z.flash.merge.map fun e => e.page } ∧
      z.kickMerge.flash.merge = (z.mergeTrigger fun _ => true).flash.merge := by
  unfold State.kickMerge
  rw [hidle, hqueue, List.find?_cons_of_pos (by simpa using hop)]
  dsimp only
  rw [if_neg (by omega), hcheck]
  exact ⟨rfl, rfl⟩

theorem flushMerge_works {s : State} {tg : Fin 65536} {c1 rom : Bool} (hown : s.get FLC_OWNER_ROM_OWN = 0 ∨ rom = true)
    (hqueue : s.flash.queue = []) (hdone : s.flash.done.length < 16) (hidle : s.flash.mergeRun = none) :
    completes (.flushMerge tg c1 rom) s fun t => (t.flash.mergeRun.map fun r => (r.desc, r.status, r.pages)) =
        some ({ op := 7, tag := tg, core1 := c1 }, none, s.flash.merge.map fun (e : MergeEntry) => e.page) ∧
      t.flash.merge.map (fun (e : MergeEntry) => (e.slot, e.page, e.image, e.flushing)) =
        s.flash.merge.map fun (e : MergeEntry) => (e.slot, e.page, e.image, true) := by
  have hsubmit := State.flashSubmit_push (d := { op := 7, tag := tg, core1 := c1 }) hown (by rw [hqueue]; decide)
    ⟨(by decide : (7 : Nat) ≠ 5), (by decide : (7 : Nat) ≠ 6)⟩
  refine completes_of_goOn (congrArg goOn hsubmit) ?_
  generalize hz : s.withPushed { op := 7, tag := tg, core1 := c1 } = z
  have hmerge : z.flash.merge = s.flash.merge := hz ▸ rfl
  obtain ⟨hrun, hall⟩ := State.kickMerge_flush (z := z) (d := { op := 7, tag := tg, core1 := c1 })
    (hz ▸ (congrArg (· ++ [_]) hqueue : (s.withPushed _).flash.queue = [] ++ [_])) rfl (hz ▸ hidle) (hz ▸ hdone)
    (z.flashCheck_flushMerge tg c1)
  have hrest : KickKept z.kickMerge z.kick := ((State.mergePump_kickKept _).trans (State.kickBank_kickKept (by decide) _)).trans
    (State.kickBank_kickKept (by decide) _)
  obtain ⟨hflushing, hmap⟩ := z.mergeTrigger_all
  rw [hrest.mergeRun (by rw [hrun]; exact Option.some_ne_none _), hrest.merge (by rwa [hall]), hrun, hall, hmap, hmerge]
  exact ⟨rfl, rfl⟩

/-- A page read into the first buffer of its bank (R341). -/
theorem State.bank_fillBuffer (s : State) (a p : Nat) : ((s.fillBuffer a p).bank (pageBank p)).bufs.head? =
    some { page := p, data := (s.readPage p).data, poisoned := (s.readPage p).result == 3 } := by
  unfold State.fillBuffer
  rw [State.bank_setBank]
  rfl

theorem State.touchBuf_head {s : State} {p : Nat} {x : PageBuf} (hhead : (s.bank (pageBank p)).bufs.head? = some x) (hpage : x.page = p) :
    ((s.touchBuf p).bank (pageBank p)).bufs.head? = some x := by
  obtain ⟨xs, hxs⟩ := List.head?_eq_some_iff.mp hhead
  unfold State.touchBuf
  rw [State.bank_setBank]
  dsimp only
  rw [hxs, List.filter_cons_of_pos (by simp [hpage])]
  rfl

theorem flashPageMiss_fills {s : State} {addr : Word} {p : Nat} (hflash : inFlash addr.toNat = true) (hmerge : s.mergeAt addr.toNat = none)
    (hp : p = physPage (s.flashPhys addr.toNat)) (hidle : s.inOperation p = false)
    (hsound : s.suspect (pageBank p) (pageBlock p) = false) (hmiss : ((s.bank (pageBank p)).bufs.any fun b => b.page == p) = false)
    (hstate : s.get (FLC_BANK_STAT_STATE (pageBank p)) ≠ 1) :
    completes (.flashPageMiss addr) s fun t => ((t.bank (pageBank p)).bufs.head?.map fun b => (b.page, b.data, b.poisoned)) =
      some (p, (s.readPage p).data, (s.readPage p).result == 3) := by
  have hfirst := s.bank_fillBuffer addr.toNat p
  have hpageMiss : s.pageMiss addr.toNat = some (s.fillBuffer addr.toNat p) := by
    unfold State.pageMiss
    extract_lets q k st
    have hq : q = p := hp.symm
    have hst : st ≠ 1 := by
      unfold st k
      rwa [hq]
    rw [if_neg (fun h => hst h.1), if_neg hst, hq]
  have hfind : ((s.fillBuffer addr.toNat p).bank (pageBank p)).bufs.find? (fun b => b.page == p) =
      some { page := p, data := (s.readPage p).data, poisoned := (s.readPage p).result == 3 } := by
    obtain ⟨xs, hxs⟩ := List.head?_eq_some_iff.mp hfirst
    rw [hxs, List.find?_cons_of_pos (by simp)]
  have hload : s.flashLoad addr.toNat 1 = (if ((s.readPage p).result == 3) = true then .poison (s.fillBuffer addr.toNat p)
      else .data (bytesAt (s.readPage p).data (addr.toNat % 2048) 1) ((s.fillBuffer addr.toNat p).touchBuf p)) := by
    unfold State.flashLoad
    rw [hmerge]
    dsimp only
    rw [← hp, hidle, hsound, hmiss, hpageMiss]
    unfold State.afterMiss
    dsimp only
    rw [hfind]
    rfl
  have hexec : execFlashPageMiss addr s = goOn (if ((s.readPage p).result == 3) = true then s.fillBuffer addr.toNat p
      else (s.fillBuffer addr.toNat p).touchBuf p) := by
    unfold execFlashPageMiss
    extract_lets a
    rw [if_neg (by simpa using hflash), hload]
    by_cases hfail : ((s.readPage p).result == 3) = true
    · rw [if_pos hfail, if_pos hfail]
    · rw [if_neg hfail, if_neg hfail]
  refine completes_of_goOn hexec ?_
  by_cases hfail : ((s.readPage p).result == 3) = true
  · rw [if_pos hfail, hfirst]
    rfl
  · rw [if_neg hfail, State.touchBuf_head hfirst rfl]
    rfl

/-- Settles O38: what starts beside an operation at work leaves its state and its suspensions, and a merge buffer all of
which is to be flushed. -/
theorem flashOperationsRunAndSuspend : Obligations.FlashOperationsRunAndSuspend := by
  unfold Obligations.FlashOperationsRunAndSuspend
  refine ⟨?pulse, ?suspend, ?resume, ?auto, ?starve, fun s => completes_of_goOn rfl s.flushAll_merge,
    fun s => completes_of_goOn rfl s.flushAll_merge, fun s tg c1 rom => flushMerge_works, fun s addr p => flashPageMiss_fills⟩
  case pulse => exact fun s b k r complete n => flashPulseEnd_counts
  case suspend =>
    intro s tg fa c1 rom d hop hown hroom hdone _ hcheck hrun hstate hd
    have hexec : exec (.flashSuspend tg fa c1 rom) s = goOn (s.flashSubmit d rom) := by rw [hd]; rfl
    exact completes_of_goOn hexec (State.flashSubmit_suspends hop hown hroom hdone hcheck rfl hrun hstate)
  case resume =>
    intro s tg fa c1 rom d hd hown hroom hdone _ hcheck hrun hstate
    have hexec : exec (.resumeFlash tg fa c1 rom) s = goOn (s.flashSubmit d rom) := by rw [hd]; rfl
    exact completes_of_goOn hexec
      (State.flashSubmit_resumes (congrArg FlashDesc.op hd) hown hroom hdone hcheck rfl hrun hstate)
  case auto => exact fun s b hstate => if_pos hstate
  case starve =>
    rintro s b k rfl hop hstarved hreached
    have hon : s.on (FLC_BANK_STAT_OP (ofBool b)) = true := by simpa [State.on] using hop
    have hfirst : (!s.on (FLC_BANK_STAT_STARVED (ofBool b))) = true := by simp [State.on, hstarved]
    refine completes_of_goOn (if_pos ⟨hon, hfirst, hreached⟩) ⟨?_, State.event_raise _ 106⟩
    rw [(State.raise_moves _ 106).get_eq (FLC_BANK_STAT_STARVED_block _) (by decide) rfl]
    exact State.get_flag_bit s true rfl

/-! The completion of a descriptor on a bank (R346). -/

theorem not_inJournal_of_lt {j a : Nat} (ha : 0x08800000 ≤ a) (hj : j < 2) : ¬inJournal j a := by
  unfold inJournal
  omega

/-- What the completion of run `r` of bank `k` shows: its record, its events, and of the memory what the run left. -/
theorem State.completeRun_shows {s : State} {k st : Nat} {r : FlashRun} (hmerge : r.desc.merge = false) :
    ((s.completeRun k r st false).flash.done.getLast?.map fun x => (leAt x 0 1, leAt x 3 1, leAt x 4 2)) =
        some (st % 256, r.desc.op % 256, r.desc.tag % 65536) ∧
      (s.completeRun k r st false).event 104 = true ∧
      (st ≠ 0 → st ≠ 9 → (s.completeRun k r st false).event 105 = true) ∧
      ((s.finishRun k r st).get (jnlHalf 0) ≤ 1 → (s.finishRun k r st).get (jnlHalf 1) ≤ 1 → ∀ a, ¬inJournal 0 a → ¬inJournal 1 a →
        (s.completeRun k r st false).byte a = (s.finishRun k r st).byte a) := by
  unfold State.completeRun
  extract_lets susp z src queued bsrc idle recorded
  have hidle : ∀ f, idle.get f = z.get f := fun _ => rfl
  have hbyte : ∀ a, idle.byte a = z.byte a := fun _ => rfl
  have hrecorded : recorded = idle.flashRecord r st (if r.desc.op = 2 ∨ r.desc.op = 3 then susp else 0) :=
    if_neg (by rw [hmerge]; decide)
  rw [hrecorded]
  clear_value idle
  generalize (if r.desc.op = 2 ∨ r.desc.op = 3 then susp else 0) = n
  have hkick := (idle.flashRecord r st n).kick_kickKept
  obtain ⟨hst, hop, htag⟩ := idle.doneRecord_status r st n
  refine ⟨?_, hkick.steady.event _ (idle.flashRecord_event r st n),
    fun h0 h9 => hkick.steady.event _ (idle.flashRecord_failed r n h0 h9), fun h0 h1 a ha hb => ?_⟩
  · rw [hkick.done, State.flashRecord_flash, List.getLast?_append, List.getLast?_singleton]
    exact congrArg some (Prod.ext hst (Prod.ext hop htag))
  · rw [hkick.byte ?_ ?_ a ha hb, (idle.flashRecord_moves r st n).1 .mem rfl a]
    · exact hbyte a
    · rwa [State.get_flashRecord _ _ _ _ (jnlHalf_block 0), hidle]
    · rwa [State.get_flashRecord _ _ _ _ (jnlHalf_block 1), hidle]

theorem flashDone_ended {s : State} {k st : Nat} {r : FlashRun} {who : Fin 3} (hwho : who.val = k) (hk : k < 2)
    (hrun : (s.bank k).run = some r) (hstatus : r.status = some st) (hside : (s.bank k).side = none) :
    exec (.flashDone who) s = goOn (s.completeRun k r st false) := by
  subst hwho
  show execFlashDone who s = _
  unfold execFlashDone
  rw [if_neg (by omega)]
  dsimp only
  rw [hside, hrun]
  dsimp only
  rw [hstatus]

/-- A page that was read has been stored at its buffer (R346). -/
theorem State.finishRun_read {s : State} {k : Nat} {r : FlashRun} (hop : r.desc.op = 1) (hlo : inSys r.desc.buf = true)
    (halign : r.desc.buf % 4 = 0) (hdata : r.data.length = 2048) (hpoison : Poison.wf s.poison = true) (i : Fin 2048) :
    (s.finishRun k r 0).byte (r.desc.buf + i) = r.data.getD i 0 ∧ ∀ j, (s.finishRun k r 0).get (jnlHalf j) = s.get (jnlHalf j) := by
  have hrange : 0x20000000 ≤ r.desc.buf ∧ r.desc.buf < 0x20200000 := by
    simpa only [inSys, Bool.and_eq_true, decide_eq_true_eq] using hlo
  have hfinish : s.finishRun k r 0 = s.bufWrite r.desc.buf r.data := by
    unfold State.finishRun
    simp only [hop]
    exact if_pos trivial
  have hwrite : s.bufWrite r.desc.buf r.data = s.devWrite r.desc.buf r.data := if_neg (by omega)
  have hstored := s.bytes_devWrite (a := r.desc.buf) (bs := r.data) (fun e he => (State.poisoned_of_mem hpoison he).1) halign (by omega)
  rw [hfinish, hwrite]
  refine ⟨?_, fun j => (s.devWrite_moves _ _).get_eq (jnlHalf_block j) (by decide) rfl⟩
  have hread := congrArg (fun bs => bs.getD i 0) hstored
  rw [← hread, hdata]
  simp [State.bytes]

/-- What an erase that ended has done to the journal, the block and its spare bytes (R351). -/
def State.erased (s : State) (k b v : Nat) : State :=
  let s := ((s.jnlAppend k 0x5A02 b v).setSuspect k b false).zeroBytes (0x08000000 + 0x400000 * k + 65536 * b) 65536
  let q := 2048 * k + 32 * b
  s.setFlash { s.flash with spare := s.flash.spare.dropRange (64 * q) (64 * (q + 32)), undef := s.flash.undef.dropRange q (q + 32) }

theorem State.finishRun_erase {s : State} {k : Nat} {r : FlashRun} (hop : r.desc.op = 3) (hran : s.get (FLC_BANK_STAT_OP k) = 2) {b : Nat}
    (hb : pageBlock (physPage (s.flashPhys r.desc.faddr)) = b) :
    s.finishRun k r 0 = ((s.erased k b r.value).dropBufs k fun x => pageBlock x == b).endOp k := by
  unfold State.finishRun
  simp only [hop, hb]
  rw [if_neg (by omega), if_pos ⟨hran, trivial⟩]
  rfl

theorem State.byte_erased (s : State) (k b v : Nat) {a : Nat} (hlo : 0x08000000 + 0x400000 * k + 65536 * b ≤ a)
    (hhi : a < 0x08000000 + 0x400000 * k + 65536 * (b + 1)) (hk : k < 2) (hb : b < 63) : (s.erased k b v).byte a = 0xFF := by
  have hin : a < 0x08000000 + 0x400000 * k + 65536 * b + 65536 := by rwa [Nat.mul_add, Nat.mul_one, ← Nat.add_assoc] at hhi
  have hflash : 0x08000000 ≤ a ∧ a < 0x08800000 := by omega
  unfold State.erased
  extract_lets z q src
  rw [State.byte_setFlash]
  exact (State.byte_zeroBytes _ _ _ hlo hin).trans (if_pos hflash)

theorem State.get_endOp_half (s : State) (k j : Nat) : (s.endOp k).get (jnlHalf j) = s.get (jnlHalf j) := by
  have hne : ∀ f ∈ bankStatus k, (jnlHalf j).key ≠ f.key := fun f hf =>
    (jnlHalf_offBank k j).ne_ofBank (bankStatus_ofBank hf)
  unfold State.endOp
  rw [State.get_put_ne _ _ (hne _ (by simp [bankStatus])), State.get_put_ne _ _ (hne _ (by simp [bankStatus])),
    State.get_put_ne _ _ (hne _ (by simp [bankStatus]))]

theorem State.get_setSuspect_half (s : State) (k b : Nat) (v : Bool) (j : Nat) :
    (s.setSuspect k b v).get (jnlHalf j) = s.get (jnlHalf j) := by
  have hhalf : (jnlHalf j).key < 0x400D0050 * 32 + 32 ∧ 0x400D0050 * 32 ≤ (jnlHalf j).key := by
    unfold jnlHalf
    split <;> decide
  unfold State.setSuspect
  extract_lets f
  split
  · rfl
  · refine State.get_put_ne _ _ ?_
    unfold f
    split
    · simp only [FLC_SUSP_L_SUSPECT, RegField.key] at hhalf ⊢
      omega
    · simp only [FLC_SUSP_H_SUSPECT, RegField.key] at hhalf ⊢
      omega

theorem State.get_jnlAppend_half (s : State) (k type block count j : Nat) :
    (s.jnlAppend k type block count).get (jnlHalf j) = s.get (jnlHalf j) := by
  unfold State.jnlAppend
  dsimp only
  rw [State.get_setBank, State.get_put_ne _ _ ((jnlHalf_offBank k j).ne_ofBank (jnlFree_ofBank k))]
  exact (State.setBytes_moves _ _ _).get_eq (jnlHalf_block j) (by decide) rfl

theorem State.get_erased_half (s : State) (k b v j : Nat) : (s.erased k b v).get (jnlHalf j) = s.get (jnlHalf j) :=
  (State.get_setSuspect_half _ k b false j).trans (s.get_jnlAppend_half k 0x5A02 b v j)

/-- The bytes of a page that a program left (R346). -/
def State.programmed (s : State) (p : Nat) (data : List Byte) : State :=
  s.setPageRaw p (((s.pageRaw p).zip data).map fun x => x.1 &&& x.2)

theorem State.finishRun_program {s : State} {k : Nat} {r : FlashRun} (hop : r.desc.op = 2) (hran : s.get (FLC_BANK_STAT_OP k) = 1)
    (hmerge : r.desc.merge = false) {p : Nat} (hp : physPage (s.flashPhys r.desc.faddr) = p) :
    s.finishRun k r 0 = ((s.programmed p r.data).dropBufs k (· == p)).endOp k := by
  unfold State.finishRun
  simp only [hop, hp, hmerge]
  rw [if_neg Bool.false_ne_true, if_pos (by rw [hran]; decide), if_neg (by rw [hran]; decide), if_pos trivial]
  rfl

theorem State.pageRaw_length (s : State) (p : Nat) : (s.pageRaw p).length = 2112 := by simp [State.pageRaw, State.bytes]

theorem State.byte_programmed (s : State) (p : Nat) {data : List Byte} (hdata : data.length = 2112) (i : Fin 2048) :
    (s.programmed p data).byte (0x08000000 + 2048 * p + i) = s.byte (0x08000000 + 2048 * p + i) &&& data.getD i 0 := by
  have hold := s.pageRaw_length p
  have hlen : i.val < (((s.pageRaw p).zip data).map fun x => x.1 &&& x.2).length := by
    simp [hold, hdata]
    omega
  have hbyte : (s.programmed p data).byte (0x08000000 + 2048 * p + i) = (s.setBytes (0x08000000 + 2048 * p)
      ((((s.pageRaw p).zip data).map fun x => x.1 &&& x.2).take 2048)).byte (0x08000000 + 2048 * p + i) := by
    unfold State.programmed State.setPageRaw
    rw [State.byte_setFlash]
  rw [hbyte, State.byte_setBytes _ _ _ _ (by rw [List.length_take]; omega), List.getElem_take, List.getElem_map, List.getElem_zip]
  have hfirst : (s.pageRaw p)[i.val]'(by omega) = s.byte (0x08000000 + 2048 * p + i) := by
    simp [State.pageRaw, State.bytes]
  rw [hfirst, List.getD_eq_getElem _ _ (by omega)]

theorem State.get_finishRun_erase_half (s : State) (k b v j : Nat) :
    (((s.erased k b v).dropBufs k fun x => pageBlock x == b).endOp k).get (jnlHalf j) = s.get (jnlHalf j) :=
  (State.get_endOp_half _ k j).trans (s.get_erased_half k b v j)

theorem State.get_programmed (s : State) (p : Nat) (data : List Byte) {f : RegField} (hf : f.inBlock 13) :
    (s.programmed p data).get f = s.get f := by
  unfold State.programmed
  exact (s.setPageRaw_moves p _).get_eq hf (by decide) rfl

theorem State.get_dropBufs (s : State) (k : Nat) (hit : Nat → Bool) (f : RegField) : (s.dropBufs k hit).get f = s.get f := rfl

theorem State.get_finishRun_program_half (s : State) (k p : Nat) (data : List Byte) (j : Nat) :
    (((s.programmed p data).dropBufs k (· == p)).endOp k).get (jnlHalf j) = s.get (jnlHalf j) := by
  rw [State.get_endOp_half, State.get_dropBufs, State.get_programmed _ _ _ (jnlHalf_block j)]

theorem not_inJournal_of_block {j k b a : Nat} (hb : b < 63)
    (hlo : 0x08000000 + 0x400000 * k + 65536 * b ≤ a) (hhi : a < 0x08000000 + 0x400000 * k + 65536 * (b + 1)) : ¬inJournal j a := by
  unfold inJournal
  omega

theorem not_inJournal_of_page {j p : Nat} (hblock : pageBlock p < 63) (i : Fin 2048) :
    ¬inJournal j (0x08000000 + 2048 * p + i) := by
  unfold pageBlock at hblock
  unfold inJournal
  omega

theorem State.byte_endOp_dropBufs (s : State) (k : Nat) (hit : Nat → Bool) (a : Nat) : ((s.dropBufs k hit).endOp k).byte a = s.byte a := rfl

/-- A FLUSH_MERGE whose pages are gone completes (R344). -/
theorem flashDone_merge {s : State} {r : FlashRun} (hrun : s.flash.mergeRun = some r) (hstatus : r.status = none)
    (hmerge : s.flash.merge = []) (hop : r.desc.op = 7) : completes (.flashDone 2) s fun t =>
      (t.flash.done.getLast?.map fun x => (leAt x 0 1, leAt x 3 1, leAt x 4 2)) = some (0, 7, r.desc.tag % 65536) ∧
      t.event 104 = true := by
  have hexec : execFlashDone 2 s = goOn (((s.setFlash { s.flash with
      mergeRun := none, queue := s.flash.queue.erase r.desc }).flashRecord r 0 0).kick) := by
    have hgone : (r.pages.any fun a => s.flash.merge.any fun e => e.page == a && e.flushing) = false := by
      rw [hmerge]
      exact List.any_eq_false.mpr fun _ _ => Bool.false_ne_true
    unfold execFlashDone
    rw [if_pos (show (2 : Fin 3).val = 2 from rfl), hrun]
    dsimp only
    rw [hgone, if_neg (fun h => Bool.false_ne_true h.1), hstatus]
    rfl
  refine completes_of_goOn hexec ?_
  generalize s.setFlash { s.flash with mergeRun := none, queue := s.flash.queue.erase r.desc } = z
  have hkick := (z.flashRecord r 0 0).kick_kickKept
  obtain ⟨hst, hopc, htag⟩ := z.doneRecord_status r 0 0
  refine ⟨?_, hkick.steady.event _ (z.flashRecord_event r 0 0)⟩
  rw [hkick.done, State.flashRecord_flash, List.getLast?_append, List.getLast?_singleton]
  exact congrArg some (Prod.ext hst (Prod.ext (hopc.trans (by rw [hop])) htag))

theorem flashDonePop_removes {s : State} (hq : s.flash.queue.all (fun d => d.op != 5 && d.op != 6) = true) :
    completes (.flashDonePop) s fun t => t.flash.done = s.flash.done.drop 1 := by
  have hnone : s.flash.queue.find? (fun d => d.op == 5 || d.op == 6) = none := by
    refine List.find?_eq_none.mpr fun d hd => ?_
    have := List.all_eq_true.mp hq d hd
    simpa using this
  have hexec : execFlashDonePop s = goOn (s.setFlash { s.flash with done := s.flash.done.drop 1 }).kick := by
    unfold execFlashDonePop
    extract_lets src z
    rw [show z.flash.queue.find? (fun d => d.op == 5 || d.op == 6) = none from hnone]
  exact completes_of_goOn hexec (State.kick_kickKept _).done

/-- Settles O39: what ends on a bank starts only what leaves the record, the events and the memory outside the journals. That a
program of a page that is not erased leaves the AND of its old and new contents is the model's choice (log entry 56). -/
theorem flashDescriptorsComplete : Obligations.FlashDescriptorsComplete := by
  unfold Obligations.FlashDescriptorsComplete
  refine ⟨?read, ?erase, ?program, fun s r => flashDone_merge, fun s => flashDonePop_removes, ?own, ?release, ?other⟩
  case read =>
    rintro s b k r st i who hwho rfl hrun hstatus hside hop hmerge rfl hlo hhi halign hdata hpoison h0 h1
    obtain ⟨hdone, hevent, hfailed, hbyte⟩ := State.completeRun_shows (s := s) (k := ofBool b) (st := 0) hmerge
    obtain ⟨hstored, hhalf⟩ := State.finishRun_read (s := s) (k := ofBool b) hop hlo halign hdata hpoison i
    have hflash : ∀ j < 2, ¬inJournal j (r.desc.buf + i) := fun j => not_inJournal_of_lt (by
      simp only [inSys, Bool.and_eq_true, decide_eq_true_eq] at hlo
      omega)
    refine completes_of_goOn (flashDone_ended hwho (by cases b <;> decide) hrun hstatus hside) ⟨?_, hevent, hfailed, ?_⟩
    · rw [hdone, hop]
    · rw [hbyte (by rwa [hhalf]) (by rwa [hhalf]) _ (hflash 0 (by decide)) (hflash 1 (by decide)), hstored]
  case erase =>
    rintro s b k r st a p who hwho rfl hrun hstatus hside hop hmerge rfl hran rfl hblock hlo hhi h0 h1
    have hk : ofBool b < 2 := by cases b <;> decide
    obtain ⟨hdone, hevent, hfailed, hbyte⟩ := State.completeRun_shows (s := s) (k := ofBool b) (st := 0) hmerge
    rw [State.finishRun_erase hop hran rfl] at hbyte
    refine completes_of_goOn (flashDone_ended hwho hk hrun hstatus hside) ⟨?_, hevent, hfailed, ?_⟩
    · rw [hdone, hop]
    · rw [hbyte ?_ ?_ a ?_ ?_, State.byte_endOp_dropBufs, State.byte_erased _ _ _ _ hlo hhi hk hblock]
      · rwa [State.get_finishRun_erase_half]
      · rwa [State.get_finishRun_erase_half]
      · exact not_inJournal_of_block hblock hlo hhi
      · exact not_inJournal_of_block hblock hlo hhi
  case program =>
    rintro s b k r st i p who hwho rfl hrun hstatus hside hop hmerge rfl hran hp hdata hblock h0 h1
    have hk : ofBool b < 2 := by cases b <;> decide
    obtain ⟨hdone, hevent, hfailed, hbyte⟩ := State.completeRun_shows (s := s) (k := ofBool b) (st := 0) hmerge
    rw [State.finishRun_program hop hran hmerge hp.symm] at hbyte
    refine completes_of_goOn (flashDone_ended hwho hk hrun hstatus hside) ⟨?_, hevent, hfailed, ?_⟩
    · rw [hdone, hop]
    · rw [hbyte ?_ ?_ _ ?_ ?_, State.byte_endOp_dropBufs, State.byte_programmed _ _ hdata]
      · rwa [State.get_finishRun_program_half]
      · rwa [State.get_finishRun_program_half]
      · exact not_inJournal_of_page hblock i
      · exact not_inJournal_of_page hblock i
  case own =>
    intro s swap hidle
    have hgranted : (s.on FLC_OWNER_ROM_OWN || (s.flag FLC_OWNER_SWAP swap).flashIdle) = true := by
      have hsame : (s.flag FLC_OWNER_SWAP swap).flashIdle = s.flashIdle := by
        unfold State.flashIdle
        rw [State.get_flag_ne _ _ (by decide), State.get_flag_ne _ _ (by decide)]
        rfl
      rw [hsame]
      rcases hidle with hidle | hown
      · rw [hidle, Bool.or_true]
      · simp [State.on, hown]
    show execFlashOwnerWrite true swap true s = _
    unfold execFlashOwnerWrite
    rw [if_neg (by decide), if_pos rfl, if_pos hgranted]
    rfl
  case release =>
    intro s swap
    have hraise : ∀ (z : State) (v : Bool) (f : RegField), f.inBlock 13 → (z.raiseIf v 107).get f = z.get f := fun z v f hf =>
      (z.raiseIf_moves v 107).get_eq hf (by decide) rfl
    refine completes_of_goOn rfl ⟨?_, ?_, fun hown hsuspect => ?_⟩
    · rw [hraise _ _ _ FLC_OWNER_SWAP_block, State.get_flag_ne _ _ (by decide), State.get_flag_bit _ _ rfl]
    · rw [hraise _ _ _ FLC_OWNER_ROM_OWN_block, State.get_flag_bit _ _ rfl]
      rfl
    · have hon : s.on FLC_OWNER_ROM_OWN = true := by simpa [State.on] using hown
      have hkept : (s.flag FLC_OWNER_SWAP swap).anySuspect = s.anySuspect := by
        have hget : ∀ f ∈ [FLC_SUSP_L_SUSPECT 0, FLC_SUSP_H_SUSPECT 0, FLC_SUSP_L_SUSPECT 1, FLC_SUSP_H_SUSPECT 1],
            (s.flag FLC_OWNER_SWAP swap).on f = s.on f := by
          simp only [List.forall_mem_cons, List.not_mem_nil, false_imp_iff, implies_true, and_true]
          exact ⟨State.on_congr (State.get_flag_ne _ _ (by decide)), State.on_congr (State.get_flag_ne _ _ (by decide)),
            State.on_congr (State.get_flag_ne _ _ (by decide)), State.on_congr (State.get_flag_ne _ _ (by decide))⟩
        unfold State.anySuspect
        simp only [List.range_succ, List.range_zero, List.nil_append, List.cons_append, List.any_cons, List.any_nil]
        rw [hget _ (by simp), hget _ (by simp), hget _ (by simp), hget _ (by simp)]
      rw [hon, hkept, hsuspect]
      exact State.event_raise _ 107
  case other =>
    intro s own swap hown
    have hoff : s.on FLC_OWNER_ROM_OWN = false := by simp [State.on, hown]
    show execFlashOwnerWrite own swap false s = _
    unfold execFlashOwnerWrite
    rw [if_pos (by decide), hoff]
    rfl

end Sys2Proof.Machine

/-! ## The tag: what it hears, its field writes and its commit record (O1, O2, O48, O49) -/
namespace Sys2Proof.Machine

/-! Requests and the semaphore (R402, R416). -/

theorem State.tagServe_heard {s : State} {r : TagReq} (h : s.tagHears r = true) (f : State → State) : s.tagServe r f = f (s.heard r) :=
  if_pos (show (s.setTagPort { s.tag with answer := none }).tagHears r = true from h)

theorem State.tagServe_unheard {s : State} {r : TagReq} (h : s.tagHears r = false) (f : State → State) :
    s.tagServe r f = { s with tag := { s.tag with answer := none } } :=
  if_neg (show ¬(s.setTagPort { s.tag with answer := none }).tagHears r = true by
    rw [show (s.setTagPort { s.tag with answer := none }).tagHears r = false from h]
    decide)

theorem State.tagTake_heard (s : State) (r : TagReq) (side : TagSide) (tie : Bool) :
    ((s.heard r).tagTake side tie).1 = (s.tagTake side tie).1 := by
  unfold State.tagTake
  rw [show (s.heard r).tag.write = s.tag.write from rfl, show (s.heard r).tag.reserved = s.tag.reserved from rfl]
  cases s.tag.write with
  | some w => rfl
  | none =>
    cases s.tag.reserved with
    | none => rfl
    | some x =>
      dsimp only
      split <;> rfl

/-- Asking for the semaphore changes nothing but who waits for it. -/
theorem State.tagTake_keeps (s : State) (side : TagSide) (tie : Bool) : (s.tagTake side tie).2.tag.write = s.tag.write ∧
    (s.tagTake side tie).2.tag.answer = s.tag.answer ∧ (s.tagTake side tie).2.tag.vrec = s.tag.vrec ∧
    (s.tagTake side tie).2.mem = s.mem := by
  unfold State.tagTake
  split
  · dsimp only
    split <;> exact ⟨rfl, rfl, rfl, rfl⟩
  · split
    · split <;> exact ⟨rfl, rfl, rfl, rfl⟩
    · exact ⟨rfl, rfl, rfl, rfl⟩

theorem State.tagTake_free {s : State} {r : TagReq} (h : s.tagFree r = true) : (s.heard r).tagTake .field r.tie = (true, s.heard r) := by
  unfold State.tagFree at h
  simp only [Bool.and_eq_true, Option.isNone_iff_eq_none, Bool.not_eq_true'] at h
  obtain ⟨⟨hwrite, hreserved⟩, htie⟩ := h
  unfold State.tagTake
  rw [show (s.heard r).tag.write = none from hwrite, show (s.heard r).tag.reserved = none from hreserved, htie]
  rfl

theorem State.tagTake_core {s : State} (hwrite : s.tag.write = none) (hreserved : s.tag.reserved = none) :
    s.tagTake .core false = (true, s) := by
  unfold State.tagTake
  rw [hwrite, hreserved]
  rfl

/-! Field writes (R411). -/

/-- The last two checks of a field write: the semaphore, then the field strength (R411). -/
def State.fieldError (s : State) (r : TagReq) : Option Nat :=
  if (s.tagTake .field r.tie).1 = false then some 0xA3 else if r.vrec.val < 96 then some 0xA1 else none

/-- A request answered with an error: nothing is written and no write begins. -/
def TagRefused (s : State) (code : Nat) (t : State) : Prop :=
  t.tag.answer = some [1, BitVec.ofNat 8 code] ∧ t.mem = s.mem ∧ t.tag.write = s.tag.write

/-- A write that begins, its answer still to come. -/
def TagBegun (s : State) (w : TagWrite) (t : State) : Prop := t.tag.write = some w ∧ t.tag.answer = none ∧ t.mem = s.mem

theorem State.tagError_refused (s : State) (r : TagReq) (code : Nat) : TagRefused s code ((s.heard r).tagError code) := ⟨rfl, rfl, rfl⟩

theorem State.tagFieldWrite_refused {s : State} {r : TagReq} {code : Nat} (w : TagWrite) (h : s.fieldError r = some code) :
    TagRefused s code ((s.heard r).tagFieldWrite r w) := by
  obtain ⟨hwrite, -, hvrec, hmem⟩ := (s.heard r).tagTake_keeps .field r.tie
  unfold State.fieldError at h
  unfold State.tagFieldWrite
  dsimp only
  rw [State.tagTake_heard]
  by_cases htake : (s.tagTake .field r.tie).1 = false
  · rw [if_pos htake, Option.some.injEq] at h
    subst h
    rw [htake]
    exact ⟨rfl, hmem, hwrite⟩
  · rw [if_neg htake] at h
    by_cases hfield : r.vrec.val < 96
    · rw [if_pos hfield, Option.some.injEq] at h
      subst h
      rw [if_neg (by simpa using htake), if_pos (show ((s.heard r).tagTake .field r.tie).2.tag.vrec < 96 from hvrec ▸ hfield)]
      exact ⟨rfl, hmem, hwrite⟩
    · rw [if_neg hfield] at h
      exact absurd h (Option.some_ne_none code).symm

theorem State.tagFieldWrite_begins {s : State} {r : TagReq} (w : TagWrite) (h : s.fieldError r = none) :
    TagBegun s w ((s.heard r).tagFieldWrite r w) := by
  obtain ⟨-, hanswer, hvrec, hmem⟩ := (s.heard r).tagTake_keeps .field r.tie
  unfold State.fieldError at h
  unfold State.tagFieldWrite
  dsimp only
  rw [State.tagTake_heard]
  by_cases htake : (s.tagTake .field r.tie).1 = false
  · rw [if_pos htake] at h
    exact absurd h (Option.some_ne_none _)
  · rw [if_neg htake] at h
    by_cases hfield : r.vrec.val < 96
    · rw [if_pos hfield] at h
      exact absurd h (Option.some_ne_none _)
    · rw [if_neg (by simpa using htake), if_neg (show ¬((s.heard r).tagTake .field r.tie).2.tag.vrec < 96 from hvrec ▸ hfield)]
      exact ⟨rfl, hanswer, hmem⟩

theorem State.writeError_eq (s : State) (r : TagReq) (limit b : Nat) : s.writeError r limit b = if limit ≤ b then some 0x10
    else if (tagAreas b 1).any s.tagLocked = true then some 0xA2
    else if (tagAreas b 1).any (fun k => s.tagWp k && !bit s.tag.writeSessions k) = true then some 0xA4
    else s.fieldError r := rfl

theorem State.infoError_eq (s : State) (r : TagReq) (k : Nat) :
    s.infoError r k = if bit (s.tagBlock 2008) k = true then some 0x12 else s.fieldError r := rfl

theorem State.tagWriteBlock_heard (s : State) (r q : TagReq) (limit b d : Nat) : (s.heard r).tagWriteBlock limit b d q =
    if limit ≤ b then (s.heard r).tagError 0x10
    else if (tagAreas b 1).any s.tagLocked = true then (s.heard r).tagError 0xA2
    else if (tagAreas b 1).any (fun k => s.tagWp k && !bit s.tag.writeSessions k) = true then (s.heard r).tagError 0xA4
    else (s.heard r).tagFieldWrite q { side := .field, block := b, data := d } := rfl

theorem State.tagWriteInfo_heard (s : State) (r q : TagReq) (lo w v k : Nat) : (s.heard r).tagWriteInfo lo w v k q =
    if bit (s.tagBlock 2008) (16 + k) = true then (s.heard r).tagError 0x12
    else (s.heard r).tagFieldWrite q { side := .field, block := 2008, data := splice (s.tagBlock 2008) lo w v } := rfl

theorem State.tagWriteBlock_refused {s : State} {r : TagReq} {limit b code : Nat} (d : Nat) (h : s.writeError r limit b = some code) :
    TagRefused s code ((s.heard r).tagWriteBlock limit b d r) := by
  rw [State.writeError_eq] at h
  rw [State.tagWriteBlock_heard]
  split at h
  case isTrue hrange => cases h; rw [if_pos hrange]; exact s.tagError_refused r _
  case isFalse hrange =>
    rw [if_neg hrange]
    split at h
    case isTrue hlock => cases h; rw [if_pos hlock]; exact s.tagError_refused r _
    case isFalse hlock =>
      rw [if_neg hlock]
      split at h
      case isTrue hwp => cases h; rw [if_pos hwp]; exact s.tagError_refused r _
      case isFalse hwp => rw [if_neg hwp]; exact State.tagFieldWrite_refused _ h

theorem State.tagWriteBlock_begins {s : State} {r : TagReq} {limit b : Nat} (d : Nat) (h : s.writeError r limit b = none) :
    TagBegun s { side := .field, block := b, data := d } ((s.heard r).tagWriteBlock limit b d r) := by
  rw [State.writeError_eq] at h
  rw [State.tagWriteBlock_heard]
  split at h
  case isTrue => cases h
  case isFalse hrange =>
    split at h
    case isTrue => cases h
    case isFalse hlock =>
      split at h
      case isTrue => cases h
      case isFalse hwp =>
        rw [if_neg hrange, if_neg hlock, if_neg hwp]
        exact State.tagFieldWrite_begins _ h

theorem State.tagWriteInfo_refused {s : State} {r : TagReq} {k code : Nat} (lo w v : Nat) (h : s.infoError r (16 + k) = some code) :
    TagRefused s code ((s.heard r).tagWriteInfo lo w v k r) := by
  rw [State.infoError_eq] at h
  rw [State.tagWriteInfo_heard]
  split at h
  case isTrue hlock => cases h; rw [if_pos hlock]; exact s.tagError_refused r _
  case isFalse hlock => rw [if_neg hlock]; exact State.tagFieldWrite_refused _ h

theorem State.tagWriteInfo_begins {s : State} {r : TagReq} {k : Nat} (lo w v : Nat) (h : s.infoError r (16 + k) = none) :
    TagBegun s { side := .field, block := 2008, data := splice (s.tagBlock 2008) lo w v } ((s.heard r).tagWriteInfo lo w v k r) := by
  rw [State.infoError_eq] at h
  rw [State.tagWriteInfo_heard]
  split at h
  case isTrue => cases h
  case isFalse hlock => rw [if_neg hlock]; exact State.tagFieldWrite_begins _ h

/-- A request that the tag hears completes with what serving it gives. -/
theorem completes_tagServe {c : Instr} {s : State} {r : TagReq} {f : State → State} {P : State → Prop}
    (hexec : exec c s = goOn (s.tagServe r f)) (hears : s.tagHears r = true) (hP : P (f (s.heard r))) : completes c s P :=
  completes_of_goOn (hexec.trans (congrArg goOn (State.tagServe_heard hears f))) hP

/-- Settles O1: the tag's checks stand in the order of R411, and the semaphore and the field strength come last. -/
theorem fieldWritesAreCheckedInOrder : Obligations.FieldWritesAreCheckedInOrder := by
  unfold Obligations.FieldWritesAreCheckedInOrder
  refine ⟨?_, ?_, ?_, ?_, ?_, ?_, ?_, ?_, ?_, ?_, ?_, ?_⟩
  · exact fun s req bk w code hears h => completes_tagServe rfl hears (State.tagWriteBlock_refused w.toNat h)
  · exact fun s req bk w hears h => completes_tagServe rfl hears (State.tagWriteBlock_begins w.toNat h)
  · exact fun s req bk w code hears h => completes_tagServe rfl hears (State.tagWriteBlock_refused w.toNat h)
  · exact fun s req bk w hears h => completes_tagServe rfl hears (State.tagWriteBlock_begins w.toNat h)
  · exact fun s req v code hears h => completes_tagServe rfl hears (State.tagWriteInfo_refused (k := 0) 0 8 v h)
  · exact fun s req v hears h => completes_tagServe rfl hears (State.tagWriteInfo_begins (k := 0) 0 8 v h)
  · exact fun s req code hears h => completes_tagServe rfl hears (State.tagWriteInfo_refused (k := 0) 16 1 1 h)
  · exact fun s req hears h => completes_tagServe rfl hears (State.tagWriteInfo_begins (k := 0) 16 1 1 h)
  · exact fun s req v code hears h => completes_tagServe rfl hears (State.tagWriteInfo_refused (k := 1) 8 8 v h)
  · exact fun s req v hears h => completes_tagServe rfl hears (State.tagWriteInfo_begins (k := 1) 8 8 v h)
  · exact fun s req code hears h => completes_tagServe rfl hears (State.tagWriteInfo_refused (k := 1) 17 1 1 h)
  · exact fun s req hears h => completes_tagServe rfl hears (State.tagWriteInfo_begins (k := 1) 17 1 1 h)

/-! Blocks of the tag's memory, and the commit record (R413). -/

@[simp] theorem State.tagBlock_setTagBlock (s : State) (b : Nat) {v : Nat} (h : v < 2 ^ 32) : (s.setTagBlock b v).tagBlock b = v :=
  (s.num_setNum _ 4 v).trans (Nat.mod_eq_of_lt h)

theorem State.tagBlock_setTagBlock_ne (s : State) {b c : Nat} (v : Nat) (h : c ≠ b) : (s.setTagBlock b v).tagBlock c = s.tagBlock c :=
  s.num_setNum_ne v (by unfold tagAddr; omega)

theorem State.byte_setTagBlock_ne (s : State) {b a : Nat} (v : Nat) (h : a < tagAddr b ∨ tagAddr b + 4 ≤ a) :
    (s.setTagBlock b v).byte a = s.byte a := s.byte_setNum_ne _ 4 v h

theorem leNat_lt (bs : List Byte) : leNat bs < 256 ^ bs.length := by
  induction bs with
  | nil => decide
  | cons b bs ih =>
    have hb : b.toNat < 256 := b.isLt
    show b.toNat + 256 * leNat bs < 256 ^ (bs.length + 1)
    rw [Nat.pow_succ]
    omega

theorem State.tagBlock_lt (s : State) (b : Nat) : s.tagBlock b < 2 ^ 32 := by
  refine Nat.lt_of_lt_of_eq (leNat_lt _) ?_
  norm_num [State.bytes]

theorem crcStepMsb_lt (c : Nat) (b : Bool) : crcStepMsb 0x1021 16 c b < 2 ^ 16 := by
  have hshift : 2 * c % 2 ^ 16 < 2 ^ 16 := Nat.mod_lt _ (by decide)
  unfold crcStepMsb
  extract_lets top d
  split
  · rw [BitVec.toNat_xor, BitVec.toNat_ofNat, BitVec.toNat_ofNat]
    refine Nat.xor_lt_two_pow (Nat.lt_of_le_of_lt (Nat.mod_le _ _) hshift) (by decide)
  · exact hshift

theorem crc16_lt (bs : List Byte) : crc16 bs < 2 ^ 16 := by
  unfold crc16
  generalize (bs.map octetBitsMsb).flatten = l
  have hfold : ∀ (l : List Bool) (c : Nat), c < 2 ^ 16 → l.foldl (crcStepMsb 0x1021 16) c < 2 ^ 16 := fun l => by
    induction l with
    | nil => exact fun c hc => hc
    | cons b l ih => exact fun c _ => ih _ (crcStepMsb_lt c b)
  exact hfold l _ (by decide)

theorem slice_commitOf {b d : Nat} (hb : b < 2048) : slice (commitOf b d) 0 11 = b ∧ slice (commitOf b d) 11 5 = 0b10100 ∧
    slice (commitOf b d) 16 16 = crc16 (leBytes 2 (commitOf b d % 2 ^ 16) ++ leBytes 4 d) ∧ commitOf b d < 2 ^ 32 := by
  have hcrc := crc16_lt (leBytes 2 (b % 2048 + 2048 * 0b10100) ++ leBytes 4 d)
  have heq : commitOf b d = b % 2048 + 2048 * 0b10100 + 65536 * crc16 (leBytes 2 (b % 2048 + 2048 * 0b10100) ++ leBytes 4 d) := rfl
  have hlow : commitOf b d % 2 ^ 16 = b % 2048 + 2048 * 0b10100 := by omega
  rw [hlow, heq]
  unfold slice
  generalize crc16 (leBytes 2 (b % 2048 + 2048 * 0b10100) ++ leBytes 4 d) = n at hcrc ⊢
  omega

/-- A record whose marker or CRC does not match counts as clear (R413). -/
theorem State.commitBlock_none {s : State} (h : slice (s.tagBlock 2041) 11 5 ≠ 0b10100 ∨ s.tagBlock 2041 / 2 ^ 16 ≠
    crc16 (leBytes 2 (s.tagBlock 2041 % 2 ^ 16) ++ leBytes 4 (s.tagBlock 2040))) : s.commitBlock = none := by
  unfold State.commitBlock
  extract_lets c low
  exact if_neg fun hboth => h.elim (absurd hboth.1) (absurd hboth.2)

theorem State.commitBlock_some {s : State} (hmark : slice (s.tagBlock 2041) 11 5 = 0b10100) (hcrc : s.tagBlock 2041 / 2 ^ 16 =
    crc16 (leBytes 2 (s.tagBlock 2041 % 2 ^ 16) ++ leBytes 4 (s.tagBlock 2040))) :
    s.commitBlock = some (slice (s.tagBlock 2041) 0 11) := by
  have hslice : slice (s.tagBlock 2041) 0 11 = s.tagBlock 2041 % 2048 := by
    unfold slice
    omega
  rw [hslice]
  unfold State.commitBlock
  extract_lets c low
  exact if_pos ⟨hmark, hcrc⟩

/-- At power-up a valid record is completed (R415). -/
theorem State.tagUp_completes {s : State} (hready : s.tag.ready = false) {b : Nat} (hcommit : s.commitBlock = some b) (hb : b < 2040) :
    s.tagUp.tagBlock b = s.tagBlock 2040 ∧ s.tagUp.tagBlock 2041 = 0 ∧ s.tagUp.tag.recovered = true := by
  unfold State.tagUp
  rw [if_neg (by rw [hready]; decide), hcommit]
  dsimp only
  have hkept : ∀ (z : State) (p : TagPort) (c : Nat), (z.setTagPort p).tagBlock c = z.tagBlock c := fun _ _ _ => rfl
  simp only [hkept]
  refine ⟨?_, State.tagBlock_setTagBlock _ _ (by decide), rfl⟩
  rw [State.tagBlock_setTagBlock_ne _ _ (by omega), State.tagBlock_setTagBlock _ _ (s.tagBlock_lt 2040)]

theorem State.tagUp_clear {s : State} (hready : s.tag.ready = false) (hcommit : s.commitBlock = none) : s.tagUp.mem = s.mem := by
  unfold State.tagUp
  rw [if_neg (by rw [hready]; decide), hcommit]
  rfl

theorem State.tagUp_ready (s : State) : s.tagUp.tag.ready = true := by
  unfold State.tagUp
  split
  · assumption
  · rfl

/-- Settles O2: the record's low half is below 2^16, and so is a CRC-16. -/
theorem theCommitRecord : Obligations.TheCommitRecord := by
  unfold Obligations.TheCommitRecord
  refine ⟨fun b d hb _ => slice_commitOf hb, ?_, ?_⟩
  · rintro s c hpower hready rfl hmark hcrc hb
    obtain ⟨hblock, hclear, -⟩ := State.tagUp_completes hready (State.commitBlock_some hmark hcrc) hb
    exact completes_of_goOn (if_pos hpower) ⟨hblock, hclear, s.tagUp_ready⟩
  · rintro s c hpower hready rfl hbad
    exact completes_of_goOn (if_pos hpower) ⟨State.tagUp_clear hready (State.commitBlock_none hbad), s.tagUp_ready⟩

/-! Reads and identification (R404). -/

/-- The answer of a read of `n` blocks from `b`, each behind its security status under Option_flag. -/
def State.readAnswer (s : State) (r : TagReq) (b n : Nat) : List Byte :=
  ((List.range n).map fun k =>
    (if r.option = true then leBytes 1 (ofBool (s.tagSecured (b + k))) else []) ++ s.bytes (tagAddr (b + k)) 4).flatten

theorem State.tagRead_heard {s : State} {r : TagReq} {limit b n : Nat} (hfree : s.tagFree r = true)
    (hsound : s.tagReadError limit b n = none) : (s.heard r).tagRead limit b n r = (s.heard r).answers (s.readAnswer r b n) := by
  unfold State.tagRead
  rw [show (s.heard r).tagReadError limit b n = none from hsound]
  dsimp only
  rw [State.tagTake_free hfree]
  rfl

theorem State.tagRead_refused {s : State} {r : TagReq} {limit b n code : Nat} (hbad : s.tagReadError limit b n = some code) :
    (s.heard r).tagRead limit b n r = (s.heard r).refuses (BitVec.ofNat 8 code) := by
  unfold State.tagRead
  rw [show (s.heard r).tagReadError limit b n = some code from hbad]
  rfl

theorem State.tagSecurity_heard {s : State} {r : TagReq} {limit b n : Nat} (hrange : b + n ≤ limit) : (s.heard r).tagSecurity limit b n =
    (s.heard r).answers ((List.range n).map fun k => BitVec.ofNat 8 (ofBool (s.tagSecured (b + k)))) := if_neg (by omega)

/-- What a request that the tag hears leads to. -/
theorem exec_tagServe {c : Instr} {s t : State} {r : TagReq} {f : State → State} (hexec : exec c s = goOn (s.tagServe r f))
    (hears : s.tagHears r = true) (ht : f (s.heard r) = t) : exec c s = .next t :=
  hexec.trans (congrArg goOn ((State.tagServe_heard hears f).trans ht))

/-- A request that the tag does not hear is not answered. -/
theorem exec_tagServe_unheard {c : Instr} {s : State} {r : TagReq} {f : State → State} (hexec : exec c s = goOn (s.tagServe r f))
    (hdeaf : s.tagHears r = false) : exec c s = .next { s with tag := { s.tag with answer := none } } :=
  hexec.trans (congrArg goOn (State.tagServe_unheard hdeaf f))

/-- A Select of this tag is not a Select of another. -/
theorem tagSelect_own {s : State} {r : TagReq} (hears : s.tagHears r = true) (haddr : r.addr = .own) : exec (.tagSelect r) s =
    .next (({ s.heard r with tag := { (s.heard r).tag with state := .selected } } : State).answers []) := by
  show execTagSelect r s = _
  unfold execTagSelect
  extract_lets out
  have hout : out = false := by simp [out, haddr]
  rw [hout, if_neg Bool.false_ne_true, State.tagServe_heard hears, if_pos haddr]
  rfl

theorem tagSelect_other {s : State} {r : TagReq} (hfield : s.tag.field = true) (hready : s.tag.ready = true) (hsub : r.sub = false)
    (haddr : r.addr = .other) (hstate : s.tag.state = .selected) :
    completes (.tagSelect r) s fun t => t.tag.state = .ready ∧ t.tag.answer = none := by
  have hout : (s.tag.field && s.tag.ready && !r.sub && r.addr == .other && s.tag.state == .selected) = true := by
    rw [hfield, hready, hsub, haddr, hstate]
    rfl
  exact completes_of_goOn (congrArg goOn (if_pos hout)) ⟨rfl, rfl⟩

theorem tagInventory_answers {s : State} {sixteen : Bool} {afi : Option (Fin 256)} {n : Fin 65} {m : Nat} (hfield : s.tag.field = true)
    (hready : s.tag.ready = true) (hquiet : s.tag.state ≠ .quiet) (hafi : s.afiMatches afi = true)
    (hmask : leNat s.tagUid % 2 ^ n.val = m % 2 ^ n.val) : completes (.tagInventory false sixteen afi n m) s fun t =>
      t = ({ s with tag := { s.tag with slot := if sixteen = true then leNat s.tagUid / 2 ^ n.val % 16 else 0 } } : State).answers
        (leBytes 1 s.tagDsfid ++ s.tagUid) := by
  have hstate : (s.tag.state == .quiet) = false := by simpa using hquiet
  have hsame : (leNat s.tagUid % 2 ^ n.val != m % 2 ^ n.val) = false := by simpa using hmask
  have hmine : ¬(!s.tag.field || !s.tag.ready || false || s.tag.state == .quiet || !s.afiMatches afi ||
      leNat s.tagUid % 2 ^ n.val != m % 2 ^ n.val) = true := by
    rw [hfield, hready, hstate, hafi, hsame]
    decide
  exact completes_of_goOn (if_neg hmine) rfl

/-- Settles O48: with the semaphore free only the checks of a request stand before its answer. Addressing, the
flags byte, inventory masks and slots, the bytes of Option_flag and AFI matching follow ISO/IEC 15693-3: the model's choice (log
entry 78). -/
theorem tagReadsAndIdentification : Obligations.TagReadsAndIdentification := by
  unfold Obligations.TagReadsAndIdentification
  refine ⟨?_, ?_, ?_, ?_, ?_, ?_, ?_, ?information, ?states, ?other, ?unheard, ?inventory⟩
  case information =>
    intro s req hears
    refine ⟨exec_tagServe rfl hears rfl, exec_tagServe rfl hears ?_, exec_tagServe rfl hears rfl, exec_tagServe rfl hears rfl,
      exec_tagServe rfl hears rfl⟩
    refine congrArg (State.answers (s.heard req)) ?_
    show _ ++ leBytes 2 1983 ++ leBytes 1 3 = _
    rw [List.append_assoc, show leBytes 2 1983 ++ leBytes 1 3 = [0xBF, 0x07, 0x03] by decide]
    rfl
  case states =>
    exact fun s req hears haddr => ⟨exec_tagServe rfl hears (if_pos haddr), tagSelect_own hears haddr⟩
  case other => exact fun s req hfield hready hsub haddr hstate => tagSelect_other hfield hready hsub haddr hstate
  case unheard =>
    exact fun s req hdeaf => ⟨exec_tagServe_unheard rfl hdeaf, exec_tagServe_unheard rfl hdeaf, exec_tagServe_unheard rfl hdeaf,
      exec_tagServe_unheard rfl hdeaf, exec_tagServe_unheard rfl hdeaf⟩
  case inventory =>
    exact fun s sixteen afi n m hfield hready hquiet hafi hmask => tagInventory_answers hfield hready hquiet hafi hmask
  · exact fun s req block hears hfree h => exec_tagServe rfl hears (State.tagRead_heard hfree h)
  · exact fun s req block count hears hfree h => exec_tagServe rfl hears (State.tagRead_heard hfree h)
  · exact fun s req block hears hfree h => exec_tagServe rfl hears (State.tagRead_heard hfree h)
  · exact fun s req block count hears hfree h => exec_tagServe rfl hears (State.tagRead_heard hfree h)
  · exact fun s req block code hears h => completes_tagServe rfl hears (State.tagRead_refused h)
  · exact fun s req block count hears h => exec_tagServe rfl hears (State.tagSecurity_heard h)
  · exact fun s req block count hears h => exec_tagServe rfl hears (State.tagSecurity_heard h)

/-! Protected writes, sessions and the field (R406 to R420). -/

/-- A block lies in one area alone (R406). -/
theorem mem_tagAreas {b k : Nat} : k ∈ tagAreas b 1 ↔ k < 8 ∧ b / 248 = k := by
  unfold tagAreas
  simp only [List.mem_filter, List.mem_range, Bool.and_eq_true, decide_eq_true_eq]
  omega

theorem State.tagFieldWrite_free {s : State} {r : TagReq} (w : TagWrite) (hfree : s.tagFree r = true) (hfield : 96 ≤ r.vrec.val) :
    (s.heard r).tagFieldWrite r w = { s.heard r with tag := { (s.heard r).tag with write := some w } } := by
  unfold State.tagFieldWrite
  rw [State.tagTake_free hfree]
  dsimp only
  rw [if_neg (by decide), if_neg (show ¬(s.heard r).tag.vrec < 96 from by
    show ¬r.vrec.val < 96
    omega)]
  rfl

theorem State.tagWriteBlock_free {s : State} {r : TagReq} {limit b k : Nat} (d : Nat) (hfree : s.tagFree r = true)
    (hfield : 96 ≤ r.vrec.val) (hb : b < limit) (hk : k ∈ tagAreas b 1) (hopen : s.tagLocked k = false ∧
      (s.tagWp k = false ∨ bit s.tag.writeSessions k = true)) : (s.heard r).tagWriteBlock limit b d r =
      { s.heard r with tag := { (s.heard r).tag with write := some { side := .field, block := b, data := d } } } := by
  have honly : ∀ j ∈ tagAreas b 1, j = k := fun j hj => (mem_tagAreas.mp hj).2.symm.trans (mem_tagAreas.mp hk).2
  have hlocked : ¬(tagAreas b 1).any s.tagLocked = true := by
    simp only [List.any_eq_true, not_exists, not_and, Bool.not_eq_true]
    exact fun j hj => honly j hj ▸ hopen.1
  have hprotected : ¬(tagAreas b 1).any (fun k => s.tagWp k && !bit s.tag.writeSessions k) = true := by
    simp only [List.any_eq_true, not_exists, not_and, Bool.not_eq_true]
    intro j hj
    rw [honly j hj]
    rcases hopen.2 with hwp | hsession
    · rw [hwp, Bool.false_and]
    · rw [hsession, Bool.not_true, Bool.and_false]
  rw [State.tagWriteBlock_heard, if_neg (by omega), if_neg hlocked, if_neg hprotected, State.tagFieldWrite_free _ hfree hfield]

theorem State.tagWriteInfo_free {s : State} {r : TagReq} {k : Nat} (lo w v : Nat) (hfree : s.tagFree r = true)
    (hfield : 96 ≤ r.vrec.val) (hopen : bit (s.tagBlock 2008) (16 + k) = false) : (s.heard r).tagWriteInfo lo w v k r =
      { s.heard r with tag := { (s.heard r).tag with
        write := some { side := .field, block := 2008, data := splice (s.tagBlock 2008) lo w v } } } := by
  rw [State.tagWriteInfo_heard, if_neg (by rw [hopen]; decide), State.tagFieldWrite_free _ hfree hfield]

theorem State.tagWriteInfo_locked {s : State} {r : TagReq} {k : Nat} (lo w v : Nat) (hlock : bit (s.tagBlock 2008) (16 + k) = true) :
    (s.heard r).tagWriteInfo lo w v k r = (s.heard r).refuses 0x12 := by
  rw [State.tagWriteInfo_heard, if_pos hlock]
  rfl

theorem presentPassword_counts {s : State} {r : TagReq} {a q : Fin 256} {w : Word} (hears : s.tagHears r = true)
    (hfree : s.tagFree r = true) (hfield : 96 ≤ r.vrec.val) (ha : a.val < 8) (hq : q.val < 2) (hopen : s.tagLocked a = false) :
    completes (.presentPassword r a q w) s fun t => t.tag.write = some
      { side := .field, block := 2000 + a.val, data := s.tagCounted a (s.tagAttempts a + 1), purpose := .attempt a q w.toNat } ∧
      t.tag.answer = none := by
  refine completes_tagServe rfl hears ?_
  rw [if_neg (by omega), if_neg (show ¬(s.heard r).tagLocked a = true by
    rw [show (s.heard r).tagLocked a = false from hopen]
    decide), State.tagFieldWrite_free _ hfree hfield]
  exact ⟨rfl, rfl⟩

theorem presentPassword_locked {s : State} {r : TagReq} {a q : Fin 256} {w : Word} (hears : s.tagHears r = true)
    (ha : a.val < 8) (hq : q.val < 2) (hlocked : s.tagLocked a = true) :
    completes (.presentPassword r a q w) s fun t => t = (s.heard r).refuses 0xA2 := by
  refine completes_tagServe rfl hears ?_
  rw [if_neg (by omega), if_pos (show (s.heard r).tagLocked a = true from hlocked)]
  rfl

theorem changePassword_begins {s : State} {r : TagReq} {a q : Fin 256} {w : Word} (hears : s.tagHears r = true)
    (hfree : s.tagFree r = true) (hfield : 96 ≤ r.vrec.val) (ha : a.val < 8) (hq : q.val < 2) (hopen : s.tagLocked a = false)
    (hsession : bit (if q.val = 0 then s.tag.readSessions else s.tag.writeSessions) a = true) :
    completes (.changePassword r a q w) s fun t => t.tag.write =
      some { side := .field, block := (if q.val = 0 then 1984 else 1992) + a.val, data := w.toNat } := by
  refine completes_tagServe rfl hears ?_
  rw [if_neg (by omega), if_neg (show ¬(s.heard r).tagLocked a = true by
    rw [show (s.heard r).tagLocked a = false from hopen]
    decide), if_neg (show ¬(!bit (if q.val = 0 then (s.heard r).tag.readSessions else (s.heard r).tag.writeSessions) a.val) = true by
    rw [show bit (if q.val = 0 then (s.heard r).tag.readSessions else (s.heard r).tag.writeSessions) a.val = true from hsession]
    decide), State.tagFieldWrite_free _ hfree hfield]

/-! The end of a protected write (R412). -/

/-- The state in which a write that ended well has stored its word and cleared COMMIT. -/
def State.tagStored (s : State) (w : TagWrite) : State :=
  ((s.setTagBlock 2040 w.data).setTagBlock 2041 0).setTagBlock w.block w.data

theorem State.tagStored_tag (s : State) (w : TagWrite) : (s.tagStored w).tag = s.tag :=
  (((s.setTagBlock_moves _ _).trans (State.setTagBlock_moves _ _ _)).trans (State.setTagBlock_moves _ _ _)).1 .tag rfl

theorem State.tagStored_power (s : State) (w : TagWrite) : (s.tagStored w).power = s.power :=
  (((s.setTagBlock_moves _ _).trans (State.setTagBlock_moves _ _ _)).trans (State.setTagBlock_moves _ _ _)).1 .power rfl

theorem State.tagStored_block {s : State} {w : TagWrite} (hdata : w.data < 2 ^ 32) : (s.tagStored w).tagBlock w.block = w.data :=
  State.tagBlock_setTagBlock _ _ hdata

theorem State.tagStored_commit {s : State} {w : TagWrite} (hblock : w.block < 2040) : (s.tagStored w).tagBlock 2041 = 0 :=
  (State.tagBlock_setTagBlock_ne _ _ (by omega)).trans (State.tagBlock_setTagBlock _ _ (by decide))

theorem State.tagStored_other {s : State} {w : TagWrite} {b : Nat} (hne : b ≠ w.block) (hb : b < 2040) :
    (s.tagStored w).tagBlock b = s.tagBlock b :=
  (State.tagBlock_setTagBlock_ne _ _ hne).trans ((State.tagBlock_setTagBlock_ne _ _ (by omega)).trans
    (State.tagBlock_setTagBlock_ne _ _ (by omega)))

theorem State.tagStored_byte {s : State} {w : TagWrite} {a : Nat} (hblock : a < tagAddr w.block ∨ tagAddr w.block + 4 ≤ a)
    (hshadow : a < tagAddr 2040 ∨ tagAddr 2042 ≤ a) : (s.tagStored w).byte a = s.byte a := by
  have haddr : tagAddr 2042 = tagAddr 2041 + 4 ∧ tagAddr 2041 = tagAddr 2040 + 4 := by decide
  exact (State.byte_setTagBlock_ne _ _ hblock).trans ((State.byte_setTagBlock_ne _ _ (by omega)).trans
    (State.byte_setTagBlock_ne _ _ (by omega)))

theorem State.tagReply_ok {s : State} (hfield : s.tag.field = true) (bs : List Byte) : s.tagReply (.ok bs) = s.tagAnswer bs :=
  if_neg (by rw [hfield]; decide)

theorem State.tagReply_error {s : State} (hfield : s.tag.field = true) (code : Nat) : s.tagReply (.error code) = s.tagError code :=
  if_neg (by rw [hfield]; decide)

theorem State.tagRelease_tag (s : State) :
    s.tagRelease.tag = { s.tag with write := none, reserved := s.tag.refused, refused := none } := rfl

theorem State.tagRelease_mem (s : State) : s.tagRelease.mem = s.mem := rfl

theorem State.tagRelease_power (s : State) : s.tagRelease.power = s.power := rfl

theorem State.tagAnswer_tag (s : State) (bs : List Byte) : (s.tagAnswer bs).tag = { s.tag with answer := some (0 :: bs) } := rfl

theorem State.tagAnswer_mem (s : State) (bs : List Byte) : (s.tagAnswer bs).mem = s.mem := rfl

theorem State.tagAnswer_power (s : State) (bs : List Byte) : (s.tagAnswer bs).power = s.power := rfl

theorem tagWriteDone_data {s : State} {w : TagWrite} {b : Nat} (hwrite : s.tag.write = some w) (hfield : s.tag.field = true)
    (hpurpose : w.purpose = .data) (hside : w.side = .field) (hblock : w.block < 2040) (hdata : w.data < 2 ^ 32)
    (hb : b < tagAddr w.block ∨ tagAddr w.block + 4 ≤ b) (hshadow : b < tagAddr 2040 ∨ tagAddr 2042 ≤ b) :
    completes (.tagWriteDone true) s fun t => t.tagBlock w.block = w.data ∧ t.tagBlock 2041 = 0 ∧ t.tag.write = none ∧
      t.tag.reserved = s.tag.refused ∧ t.tag.answer = some [0] ∧ (s.tagPowered = true → t.event 122 = true) ∧ t.byte b = s.byte b := by
  have hexec : exec (.tagWriteDone true) s =
      goOn (((s.tagStored w).tagRelease.tagReply (.ok [])).raiseIf ((s.tagStored w).tagRelease.tagReply (.ok [])).tagPowered 122) := by
    show execTagWriteDone true s = _
    unfold execTagWriteDone
    rw [hwrite]
    dsimp only
    rw [hpurpose, hside]
    rfl
  have htag := s.tagStored_tag w
  have hreleased : (s.tagStored w).tagRelease.tag.field = true := by rw [State.tagRelease_tag, htag, hfield]
  rw [State.tagReply_ok hreleased] at hexec
  refine completes_of_goOn hexec ?_
  generalize hx : (s.tagStored w).tagRelease.tagAnswer [] = x
  have hxtag : x.tag = { s.tag with write := none, reserved := s.tag.refused, refused := none, answer := some [0] } := by
    rw [← hx, State.tagAnswer_tag, State.tagRelease_tag, htag]
  have hxmem : x.mem = (s.tagStored w).mem := by rw [← hx, State.tagAnswer_mem, State.tagRelease_mem]
  have hpowered : x.tagPowered = s.tagPowered := by
    unfold State.tagPowered
    rw [← hx, State.tagAnswer_power, State.tagRelease_power, s.tagStored_power w]
  have hraise : ∀ v a, (x.raiseIf v 122).byte a = (s.tagStored w).byte a := fun v a => by
    rw [(x.raiseIf_moves v 122).1 .mem rfl a]
    unfold State.byte
    rw [hxmem]
  have hblocks : ∀ v c, (x.raiseIf v 122).tagBlock c = (s.tagStored w).tagBlock c := fun v c => State.num_congr fun k _ => hraise v _
  rw [State.raiseIf_tag, hxtag, hblocks, hblocks, hraise, State.tagStored_block hdata, State.tagStored_commit hblock,
    State.tagStored_byte hb hshadow]
  refine ⟨rfl, rfl, rfl, rfl, rfl, fun hpower => ?_, rfl⟩
  rw [hpowered, hpower]
  exact State.event_raise x 122

/-- An attempt that has been counted: the password is compared (R409). -/
theorem exec_tagWriteDone_attempt {s : State} {w : TagWrite} {a q n : Nat} (hwrite : s.tag.write = some w)
    (hpurpose : w.purpose = .attempt a q n) : exec (.tagWriteDone true) s = goOn ((s.tagStored w).tagCompare a q n) := by
  show execTagWriteDone true s = _
  unfold execTagWriteDone
  rw [hwrite]
  dsimp only
  rw [hpurpose]
  rfl

theorem State.tagStored_password {s : State} {w : TagWrite} {a : Nat} (q : Nat) (ha : a < 8) (hblock : w.block = 2000 + a) :
    (s.tagStored w).tagBlock ((if q = 0 then 1984 else 1992) + a) = s.tagBlock ((if q = 0 then 1984 else 1992) + a) :=
  State.tagStored_other (by split <;> omega) (by split <;> omega)

theorem tagWriteDone_right {s : State} {w : TagWrite} {a q n : Nat} (hwrite : s.tag.write = some w) (hfield : s.tag.field = true)
    (hpurpose : w.purpose = .attempt a q n) (ha : a < 8) (hblock : w.block = 2000 + a) (hdata : w.data < 2 ^ 32)
    (hright : s.tagBlock ((if q = 0 then 1984 else 1992) + a) = n) : completes (.tagWriteDone true) s fun t =>
      t.tag.write = some { side := .field, block := 2000 + a, data := splice w.data 8 8 0, purpose := .opened a q } ∧
      t.tag.answer = s.tag.answer := by
  have htag := s.tagStored_tag w
  have hstored : (s.tagStored w).tagBlock (2000 + a) = w.data := hblock ▸ State.tagStored_block hdata
  refine completes_of_goOn (exec_tagWriteDone_attempt hwrite hpurpose) ?_
  unfold State.tagCompare
  rw [if_pos ⟨by rw [htag, hfield], by rw [State.tagStored_password q ha hblock, hright]⟩]
  unfold State.tagCounted
  rw [hstored]
  generalize s.tagStored w = z at htag
  exact ⟨rfl, show z.tag.answer = s.tag.answer from congrArg TagPort.answer htag⟩

theorem tagWriteDone_wrong {s : State} {w : TagWrite} {a q n : Nat} (hwrite : s.tag.write = some w) (hfield : s.tag.field = true)
    (hpurpose : w.purpose = .attempt a q n) (ha : a < 8) (hblock : w.block = 2000 + a)
    (hwrong : s.tagBlock ((if q = 0 then 1984 else 1992) + a) ≠ n) : completes (.tagWriteDone true) s fun t =>
      t.tag.write = none ∧ t.tag.answer = some [1, 0xA5] ∧ t.tag.readSessions = s.tag.readSessions ∧
      t.tag.writeSessions = s.tag.writeSessions := by
  have htag := s.tagStored_tag w
  refine completes_of_goOn (exec_tagWriteDone_attempt hwrite hpurpose) ?_
  unfold State.tagCompare
  rw [if_neg (by rw [State.tagStored_password q ha hblock]; exact fun h => hwrong h.2)]
  generalize s.tagStored w = z at htag
  rw [State.tagReply_error (by rw [State.tagRelease_tag, htag, hfield])]
  have hread : z.tag.readSessions = s.tag.readSessions := congrArg TagPort.readSessions htag
  have hwriteSessions : z.tag.writeSessions = s.tag.writeSessions := congrArg TagPort.writeSessions htag
  dsimp only
  split <;> exact ⟨rfl, rfl, hread, hwriteSessions⟩

theorem tagWriteDone_opened {s : State} {w : TagWrite} {a q : Nat} (hwrite : s.tag.write = some w) (hfield : s.tag.field = true)
    (hpurpose : w.purpose = .opened a q) : completes (.tagWriteDone true) s fun t =>
      t.tag.write = none ∧ t.tag.answer = some [0] ∧ bit (if q = 0 then t.tag.readSessions else t.tag.writeSessions) a = true := by
  have hexec : exec (.tagWriteDone true) s = goOn (((s.tagStored w).tagRelease.tagOpen a q).tagReply (.ok [])) := by
    show execTagWriteDone true s = _
    unfold execTagWriteDone
    rw [hwrite]
    dsimp only
    rw [hpurpose]
    rfl
  have htag : (s.tagStored w).tagRelease.tag.field = true := by rw [State.tagRelease_tag, s.tagStored_tag, hfield]
  have hnone : (s.tagStored w).tagRelease.tag.write = none := by rw [State.tagRelease_tag]
  generalize (s.tagStored w).tagRelease = z at hexec htag hnone
  have hopened : (z.tagOpen a q).tag.field = true ∧ (z.tagOpen a q).tag.write = none ∧
      bit (if q = 0 then (z.tagOpen a q).tag.readSessions else (z.tagOpen a q).tag.writeSessions) a = true := by
    unfold State.tagOpen
    rw [if_neg (by rw [htag]; decide)]
    by_cases hkind : q = 0
    · rw [if_pos hkind, if_pos hkind]
      exact ⟨htag, hnone, bit_setBit _ _⟩
    · rw [if_neg hkind, if_neg hkind]
      exact ⟨htag, hnone, bit_setBit _ _⟩
  obtain ⟨hfieldOpen, hwriteOpen, hbit⟩ := hopened
  rw [State.tagReply_ok hfieldOpen] at hexec
  refine completes_of_goOn hexec ?_
  rw [State.tagAnswer_tag]
  exact ⟨hwriteOpen, rfl, hbit⟩

/-! The core side, the field and the lockout (R410, R418, R419, R420). -/

theorem State.tagCoreWrite_begins {s : State} {b v d : Nat} {p : TagPurpose} (hidle : s.get TAG_WSTAT_RUN = 0) (hready : s.tag.ready = true)
    (hwrite : s.tag.write = none) (hreserved : s.tag.reserved = none)
    (hdata : (if p = .clear then some v else s.tagCoreData b v) = some d) :
    (s.tagCoreWrite b v p false).tag.write = some { side := .core, block := b, data := d, purpose := p } ∧
      (s.tagCoreWrite b v p false).get TAG_WSTAT_RUN = 1 := by
  unfold State.tagCoreWrite
  rw [if_neg (by simp [State.on, hidle]), hdata]
  dsimp only
  rw [State.tagTake_core hwrite hreserved]
  dsimp only
  rw [if_neg (by rw [hready]; decide)]
  exact ⟨rfl, State.get_flag_bit s true rfl⟩

theorem tagLockout_reports {s : State} {area : Fin 8} (h : s.tag.lockouts.contains area.val = true) :
    completes (.tagLockout area) s fun t => t.event 123 = true ∧ t.tag.lockouts.contains area.val = false := by
  refine completes_of_goOn (if_pos h) ⟨State.event_raise _ 123, ?_⟩
  rw [State.raise_tag]
  show (s.tag.lockouts.filter (· != area.val)).contains area.val = false
  simp

theorem fieldOn_seen {s : State} {v : Fin 256} (hoff : s.tag.field = false) (hpower : s.tagPowered = true)
    (hawake : s.power.state ≠ .sleep) : completes (.fieldOn v) s fun t =>
      t.tag.field = true ∧ t.tag.vrec = v.val ∧ t.tag.state = .ready ∧ t.event 120 = true := by
  have hup : ¬(s.power.state = .sleep ∨ s.power.state = .deep ∨ s.power.state = .standby) := by
    unfold State.tagPowered at hpower
    revert hpower hawake
    cases s.power.state <;> simp
  have hexec : exec (.fieldOn v) s =
      goOn ((s.setTagPort { s.tag with field := true, vrec := v, state := .ready }).raise 120) := by
    show execFieldOn v s = _
    unfold execFieldOn
    rw [if_neg (by rw [hoff]; decide)]
    extract_lets src z low
    rw [if_neg (fun h => hup h.1), show z.tagPowered = true from hpower]
    rfl
  refine completes_of_goOn hexec ?_
  rw [State.raise_tag]
  exact ⟨rfl, rfl, rfl, State.event_raise _ 120⟩

theorem fieldOff_seen {s : State} {n : Fin 6} (hon : s.tag.field = true) (hpower : s.tagPowered = true) :
    completes (.fieldOff n) s fun t => t.tag.field = false ∧ t.tag.readSessions = 0 ∧ t.tag.writeSessions = 0 ∧
      t.tag.write = s.tag.write ∧ t.event 121 = true := by
  have hexec : exec (.fieldOff n) s = goOn ((s.setTagPort
      { s.tag with field := false, vrec := 0, readSessions := 0, writeSessions := 0, state := .ready }).raise 121) := by
    show execFieldOff n s = _
    unfold execFieldOff
    rw [if_neg (by rw [hon]; decide)]
    extract_lets src z
    rw [if_pos (show z.tagPowered = true from hpower)]
  refine completes_of_goOn hexec ?_
  rw [State.raise_tag]
  exact ⟨rfl, rfl, rfl, rfl, State.event_raise _ 121⟩

theorem State.tagBlock_answer (s : State) (st : OdpStatus) (c : Nat) : (s.answer st).tagBlock c = s.tagBlock c := rfl

theorem State.tagBlock_tagCoreDone (s : State) (b c : Nat) : (s.tagCoreDone b true).tagBlock c = s.tagBlock c := rfl

/-- Object 0xB006.01 with one word writes the block that object 0xB006.00 selects (R420). -/
theorem tagMemoryDataWrite_word {s : State} {w : Word} (hwrite : s.tag.write = none) (hreserved : s.tag.reserved = none)
    (hready : s.tag.ready = true) (hsel : s.tagSelect < 1984) :
    completes (.tagMemoryDataWrite (leBytes 4 w.toNat) 1024 none) s fun t =>
      t.tagBlock s.tagSelect = w.toNat ∧ t.host.result = .ok := by
  have hword : leAt (leBytes 4 w.toNat) 0 4 = w.toNat := by
    have := leAt_field [] (n := 4) w.toNat [] rfl
    rw [List.nil_append, List.append_nil] at this
    exact this.trans (Nat.mod_eq_of_lt w.isLt)
  have hblocks : s.tagBlocks 1024 none 1 s.tagSelect (leBytes 4 w.toNat) = (none, (((s.setTagBlock 2040 w.toNat).setTagBlock 2041 0).setTagBlock
      s.tagSelect w.toNat).tagCoreDone s.tagSelect true) := by
    unfold State.tagBlocks
    rw [State.tagTake_core hwrite hreserved, hword]
    dsimp only
    rw [if_neg (by rw [hready]; decide)]
    rfl
  have hexec : exec (.tagMemoryDataWrite (leBytes 4 w.toNat) 1024 none) s = goOn (((((s.setTagBlock 2040 w.toNat).setTagBlock 2041
      0).setTagBlock s.tagSelect w.toNat).tagCoreDone s.tagSelect true).answer .ok) := by
    show goOn (s.tagDataWrite _ _ _) = _
    unfold State.tagDataWrite
    extract_lets n b
    have hlen : (leBytes 4 w.toNat).length = 4 := leBytes_length 4 _
    have hn : n = 1 := by rw [show n = (leBytes 4 w.toNat).length / 4 from rfl, hlen]
    rw [if_neg (by omega), if_neg (show ¬1984 < b + n from by rw [hn]; exact Nat.not_lt.mpr hsel), hn, hblocks]
  refine completes_of_goOn hexec ⟨?_, rfl⟩
  rw [State.tagBlock_answer, State.tagBlock_tagCoreDone, State.tagBlock_setTagBlock _ _ w.isLt]

/-- Settles O49: the word, SHADOW and COMMIT stand in blocks of their own, and no block lies in two areas. That a lockout is tested
before the access rights and that its E123 comes with TAG_LOCKOUT is the model's choice (log entry 79), and so is that FIELD_OFF
carries the step of the write under way (log entry 80). -/
theorem tagProtectedWrites : Obligations.TagProtectedWrites := by
  unfold Obligations.TagProtectedWrites
  refine ⟨?_, ?_, ?_, ?_, ?_, ?_, ?_, ?_, ?_, ?_, ?_, ?_, ?_, ?_, ?_, ?_, ?_, ?_, ?_, ?_⟩
  · exact fun s req bk w hears hfree hfield hb k hk hopen =>
      exec_tagServe rfl hears (State.tagWriteBlock_free w.toNat hfree hfield hb hk hopen)
  · exact fun s req bk w hears hfree hfield hb k hk hopen =>
      exec_tagServe rfl hears (State.tagWriteBlock_free w.toNat hfree hfield hb hk hopen)
  · exact fun s req v hears hfree hfield hopen => ⟨exec_tagServe rfl hears (State.tagWriteInfo_free (k := 0) 0 8 v hfree hfield hopen),
      exec_tagServe rfl hears (State.tagWriteInfo_free (k := 0) 16 1 1 hfree hfield hopen)⟩
  · exact fun s req v hears hfree hfield hopen => ⟨exec_tagServe rfl hears (State.tagWriteInfo_free (k := 1) 8 8 v hfree hfield hopen),
      exec_tagServe rfl hears (State.tagWriteInfo_free (k := 1) 17 1 1 hfree hfield hopen)⟩
  · exact fun s req v hears hlock => ⟨exec_tagServe rfl hears (State.tagWriteInfo_locked (k := 0) 0 8 v hlock),
      exec_tagServe rfl hears (State.tagWriteInfo_locked (k := 0) 16 1 1 hlock)⟩
  · exact fun s req a q w => presentPassword_counts
  · exact fun s req a q w => presentPassword_locked
  · exact fun s req a q w => changePassword_begins
  · exact fun s w b => tagWriteDone_data
  · exact fun s w a q n => tagWriteDone_right
  · exact fun s w a q n hwrite hfield hpurpose ha hblock _ => tagWriteDone_wrong hwrite hfield hpurpose ha hblock
  · exact fun s w a q => tagWriteDone_opened
  · exact fun s area => tagLockout_reports
  · rintro s value b hgo rfl hb hidle hready hwrite hreserved
    refine completes_of_goOn (if_pos hgo) (State.tagCoreWrite_begins hidle hready hwrite hreserved ?_)
    exact (if_neg (by decide)).trans (if_pos hb)
  · exact fun s area hidle hready hwrite hreserved =>
      completes_of_goOn rfl (State.tagCoreWrite_begins hidle hready hwrite hreserved (if_pos rfl))
  · intro s hpower hready
    refine completes_of_goOn (if_pos hpower) ⟨s.tagUp_ready, fun b hb hlt => ?_, State.tagUp_clear hready⟩
    exact State.tagUp_completes hready (Option.mem_toList.mp hb) hlt
  · exact fun s v => fieldOn_seen
  · exact fun s n => fieldOff_seen
  · exact fun s => rfl
  · exact fun s w => tagMemoryDataWrite_word

end Sys2Proof.Machine

/-! ## The ER-418 map: reads, writes, commands, the SPI port and the native unlock (O44, O45, O47) -/
namespace Sys2Proof.Machine

/-! Flags and reads (R388, R389). -/

theorem State.mode_of_lgyLive {s : State} (h : s.lgyLive = true) : s.mode = modeCompat ∧ s.lgy.gone = false := by
  unfold State.lgyLive at h
  simpa using h

theorem LGY_IRQF_FLAGS_key (i : Nat) : (LGY_IRQF_FLAGS i).key = (0x400F0004 + 0x4 * (i % 8)) * 32 := rfl

theorem State.get_settleNirq (s : State) (f : RegField) : s.settleNirq.get f = s.get f := by
  unfold State.settleNirq
  split <;> rfl

theorem State.lgyHas_lgyFlag {s : State} (hmode : s.mode = modeCompat) (n : Nat) : (s.lgyFlag n).lgyHas n = true := by
  unfold State.lgyFlag State.lgyHas
  rw [if_pos hmode, State.get_put_self]
  exact (bit_mod_two_pow (by show n % 8 < 8; omega)).trans (bit_setBit _ _)

theorem State.mode_lgyFlag (s : State) (n : Nat) : (s.lgyFlag n).mode = s.mode :=
  (s.lgyFlag_moves n).get_eq PRC_MODE_MODE_block (by decide) rfl

/-- A flag that is set stays set when another is. -/
theorem State.lgyHas_lgyFlag_of_has {s : State} {n k : Nat} (hn : n < 64) (hk : k < 64) (h : s.lgyHas k = true) : (s.lgyFlag n).lgyHas k = true := by
  unfold State.lgyFlag
  split
  · unfold State.lgyHas at h ⊢
    by_cases hsame : (LGY_IRQF_FLAGS (k / 8)).key = (LGY_IRQF_FLAGS (n / 8)).key
    · have hrow : k / 8 = n / 8 := by
        rw [LGY_IRQF_FLAGS_key, LGY_IRQF_FLAGS_key] at hsame
        omega
      rw [hrow] at h ⊢
      rw [State.get_put_self]
      exact (bit_mod_two_pow (by show k % 8 < 8; omega)).trans (bit_setBit_of_bit _ h)
    · rwa [State.get_put_ne _ _ hsame]
  · exact h

theorem State.get_clearFlags (l : List Nat) (s : State) {i : Nat} (hi : i < 8) (hl : ∀ n ∈ l, n < 8)
    (h : i ∈ l ∨ s.get (LGY_IRQF_FLAGS i) = 0) :
    (l.foldl (fun (s : State) n => s.put (LGY_IRQF_FLAGS n) 0) s).get (LGY_IRQF_FLAGS i) = 0 := by
  induction l generalizing s with
  | nil => exact h.resolve_left List.not_mem_nil
  | cons n l ih =>
    have hn := hl n List.mem_cons_self
    refine ih _ (fun m hm => hl m (List.mem_cons_of_mem n hm)) ?_
    by_cases hin : i = n
    · subst hin
      exact .inr (s.get_put_self _ 0)
    · rw [State.get_put_ne _ _ (by rw [LGY_IRQF_FLAGS_key, LGY_IRQF_FLAGS_key]; omega)]
      exact h.imp_left fun hmem => (List.mem_cons.mp hmem).resolve_left hin

theorem State.get_setLgy (s : State) (g : Lgy) (f : RegField) : ({ s with lgy := g } : State).get f = s.get f := rfl

theorem State.lgyHas_lgyClearAll (s : State) (n : Fin 64) : s.lgyClearAll.lgyHas n = false := by
  have hzero := State.get_clearFlags (List.range 8) s (i := n.val / 8) (by omega) (fun m hm => List.mem_range.mp hm)
    (.inl (List.mem_range.mpr (by omega)))
  unfold State.lgyHas State.lgyClearAll
  extract_lets z src
  rw [State.get_settleNirq]
  rw [State.get_setLgy, show z.get (LGY_IRQF_FLAGS (n.val / 8)) = 0 from hzero]
  simp [bit]

theorem State.settleNirq_rxOvf (s : State) : s.settleNirq.lgy.rxOvf = s.lgy.rxOvf := by
  unfold State.settleNirq
  split <;> rfl

theorem State.lgyClearAll_rxOvf (s : State) : s.lgyClearAll.lgy.rxOvf = false := by
  unfold State.lgyClearAll
  exact State.settleNirq_rxOvf _

/-- An SPI read of the map, while the engine works. -/
theorem State.lgyReadOut_live {s : State} (h : s.lgyLive = true) (a : Nat) : s.lgyReadOut a =
    { s.lgyReadEffect a with host := { (s.lgyReadEffect a).host with readData := s.lgyView a, output := leBytes 1 (s.lgyView a) } } := by
  unfold State.lgyReadOut State.lgyRead
  rw [if_pos h]

theorem State.lgyReadOut_gone {s : State} (h : s.lgy.gone = true) (a : Nat) : s.lgyReadOut a =
    { s with host := { s.host with readData := 0, output := leBytes 1 0 } } := by
  unfold State.lgyReadOut State.lgyRead State.lgyLive
  rw [if_neg (by simp [h])]

theorem State.lgyView_status {s : State} (h : s.lgyLive = true) : s.lgyView 0x00 = s.lgyStatus := if_neg (by rw [h]; decide)

theorem State.lgyView_rxfifo {s : State} (h : s.lgyLive = true) : s.lgyView 0x13 = (s.lgy.rx.head?.map BitVec.toNat).getD 0 :=
  if_neg (by rw [h]; decide)

theorem State.lgyView_rxlev {s : State} (h : s.lgyLive = true) : s.lgyView 0x14 = s.lgy.rx.length % 256 := if_neg (by rw [h]; decide)

theorem State.lgyView_txlev {s : State} (h : s.lgyLive = true) : s.lgyView 0x18 = s.lgy.tx.length % 256 := if_neg (by rw [h]; decide)

theorem State.lgyView_slotcnt {s : State} (h : s.lgyLive = true) : s.lgyView 0x30 = s.lgy.count % 256 := if_neg (by rw [h]; decide)

/-! Writes (R387). -/

theorem State.lgyWrite_live {s : State} (h : s.lgyLive = true) (a v : Nat) : s.lgyWrite a v =
    if 0x01 ≤ a ∧ a ≤ 0x08 then s.lgyClear (a - 1) v
    else if a = 0x11 then s.lgyCommand v
    else if a = 0x17 then s.lgyPushTx v
    else if a = 0x2D then s.lgyBase v
    else if lgyWritable a ∧ lgyLegal a v then
      let v := if a = 0x3E then v % 2 else v
      let s := s.loadFields (lgyPlain a) v
      if 0x09 ≤ a ∧ a ≤ 0x10 then s.settleNirq
      else if 0x4B ≤ a ∧ a ≤ 0x4E then
        s.put CHZ_LEGSYNC_WORD (splice (s.get CHZ_LEGSYNC_WORD) (8 * (a - 0x4B)) 8 v)
      else s
    else s := if_neg (by rw [h]; decide)

theorem bit_eq_testBit (v n : Nat) : bit v n = v.testBit n := (Nat.testBit_eq_decide_div_mod_eq).symm

/-- Clearing a bit leaves the others. -/
theorem bit_clearBit_ne {v n k : Nat} (h : k ≠ n) : bit (clearBit v n) k = bit v k := by
  unfold clearBit
  split
  case isFalse => rfl
  case isTrue hset =>
    obtain ⟨q, r, hv, hodd, hr⟩ : ∃ q r, v = 2 ^ n * q + r ∧ q % 2 = 1 ∧ r < 2 ^ n :=
      ⟨v / 2 ^ n, v % 2 ^ n, (Nat.div_add_mod v _).symm, by simpa [bit] using hset, Nat.mod_lt _ (Nat.two_pow_pos n)⟩
    have hclear : v - 2 ^ n = 2 ^ n * (q - 1) + r := by
      have hle : 2 ^ n * 1 ≤ 2 ^ n * q := Nat.mul_le_mul_left _ (by omega)
      rw [hv, Nat.mul_sub]
      omega
    rw [bit_eq_testBit, bit_eq_testBit, hclear, hv, Nat.testBit_two_pow_mul_add _ hr, Nat.testBit_two_pow_mul_add _ hr]
    split
    · rfl
    · obtain ⟨m, hm⟩ : ∃ m, k - n = m + 1 := ⟨k - n - 1, by omega⟩
      rw [hm, Nat.testBit_succ, Nat.testBit_succ, show (q - 1) / 2 = q / 2 by omega]

/-- The flags of one register after a write of ones to some of them. -/
theorem State.bit_clearBits (l : List Nat) (f : RegField) (hwidth : f.width = 8) (v : Nat) (s : State) {k : Nat} (hk : k < 8) :
    bit ((l.foldl (fun (s : State) k => if bit v k then s.put f (clearBit (s.get f) k) else s) s).get f) k =
      (bit (s.get f) k && !(decide (k ∈ l) && bit v k)) := by
  induction l generalizing s with
  | nil => simp
  | cons j l ih =>
    rw [List.foldl_cons, ih]
    by_cases hj : bit v j = true
    · rw [if_pos hj, State.get_put_self, hwidth, bit_mod_two_pow hk]
      by_cases hkj : k = j
      · subst hkj
        rw [bit_clearBit]
        simp [hj]
      · rw [bit_clearBit_ne hkj]
        simp [hkj]
    · rw [if_neg hj]
      by_cases hkj : k = j
      · subst hkj
        simp [hj]
      · simp [hkj]

theorem irqFlagClear_clears {s : State} (h : s.lgyLive = true) (v : Fin 256) (k i : Fin 8) : completes (.irqFlagClear i v) s fun t =>
    bit (t.get (LGY_IRQF_FLAGS i)) k = (bit (s.get (LGY_IRQF_FLAGS i)) k && !bit v k) := by
  have hclear : s.lgyWrite (0x01 + i.val) v = s.lgyClear i v := by
    rw [State.lgyWrite_live h, if_pos (by omega), show 0x01 + i.val - 1 = i.val by omega]
  refine completes_of_goOn (congrArg goOn hclear) ?_
  unfold State.lgyClear
  rw [State.get_settleNirq, State.bit_clearBits _ _ rfl _ _ k.isLt]
  simp

theorem basef2Write_applies {s : State} (h : s.lgyLive = true) {v : Fin 256} {f : Nat}
    (hf : f = s.get LGY_BASEF0_F + 256 * s.get LGY_BASEF1_F + 65536 * v.val) : completes (.basef2Write v) s fun t =>
      t.lgy.base = (if 410000 ≤ f ∧ f ≤ 960000 then f else s.lgy.base) ∧ t.get LGY_BASEF2_F = v.val := by
  have hbase : s.lgyWrite 0x2D v = s.lgyBase v := by
    rw [State.lgyWrite_live h, if_neg (by omega), if_neg (by omega), if_neg (by omega), if_pos rfl]
  have hput : ((s.put LGY_BASEF2_F v).get LGY_BASEF0_F + 256 * (s.put LGY_BASEF2_F v).get LGY_BASEF1_F + 65536 * v.val) = f := by
    rw [State.get_put_ne _ _ (by decide), State.get_put_ne _ _ (by decide), hf]
  have hstored : (s.put LGY_BASEF2_F v).get LGY_BASEF2_F = v.val := (State.get_put_self _ _ _).trans (Nat.mod_eq_of_lt v.isLt)
  refine completes_of_goOn (congrArg goOn hbase) ?_
  unfold State.lgyBase
  extract_lets z g
  rw [show g = f from hput]
  by_cases hrange : 410000 ≤ f ∧ f ≤ 960000
  · rw [if_pos hrange, if_pos hrange]
    exact ⟨rfl, hstored⟩
  · rw [if_neg hrange, if_neg hrange]
    exact ⟨rfl, hstored⟩

/-- Settles O44: a read latches or clears beside its answer only what its register names. -/
theorem legacyReadsAndWrites : Obligations.LegacyReadsAndWrites := by
  unfold Obligations.LegacyReadsAndWrites
  refine ⟨?status, ?rxfifo, ?rxlev, ?txlev, ?slotcnt, ?gone, ?push, ?full, ?clear, ?base, ?nirq⟩
  case status =>
    intro s n h
    refine completes_of_goOn (congrArg goOn (State.lgyReadOut_live h _)) ?_
    rw [State.lgyView_status h]
    exact ⟨rfl, rfl, s.lgyHas_lgyClearAll n, s.lgyClearAll_rxOvf⟩
  case rxfifo =>
    intro s h
    refine completes_of_goOn (congrArg goOn (State.lgyReadOut_live h _)) ?_
    rw [State.lgyView_rxfifo h]
    exact ⟨rfl, rfl, rfl⟩
  case rxlev =>
    intro s h hlen
    refine completes_of_goOn (congrArg goOn (State.lgyReadOut_live h _)) ?_
    rw [State.lgyView_rxlev h]
    exact ⟨rfl, rfl, (State.get_put_self s LGY_RXLEV_H_LEVEL _).trans (Nat.mod_eq_of_lt (show _ < 32 by omega))⟩
  case txlev =>
    intro s h hlen
    refine completes_of_goOn (congrArg goOn (State.lgyReadOut_live h _)) ?_
    rw [State.lgyView_txlev h]
    exact ⟨rfl, rfl, (State.get_put_self s LGY_TXLEV_H_LEVEL _).trans (Nat.mod_eq_of_lt (show _ < 8 by omega))⟩
  case slotcnt =>
    intro s h hlt
    refine completes_of_goOn (congrArg goOn (State.lgyReadOut_live h _)) ?_
    rw [State.lgyView_slotcnt h]
    exact ⟨rfl, rfl, (State.get_put_self s LGY_SLOTCNT_H_COUNT _).trans (Nat.mod_eq_of_lt (show _ < 256 by omega))⟩
  case gone => exact fun s _ hgone => completes_of_goOn (congrArg goOn (State.lgyReadOut_gone hgone _)) ⟨rfl, rfl, rfl⟩
  case push =>
    intro s v h hroom
    have hjoins : s.lgyWrite 0x17 v = { s with lgy := { s.lgy with tx := s.lgy.tx ++ [BitVec.ofNat 8 v] } } := by
      rw [State.lgyWrite_live h, if_neg (by omega), if_neg (by omega), if_pos rfl]
      exact if_neg (by omega)
    exact completes_of_goOn (congrArg goOn hjoins) rfl
  case full =>
    intro s v h hfull
    have hflag : s.lgyWrite 0x17 v = s.lgyFlag 37 := by
      rw [State.lgyWrite_live h, if_neg (by omega), if_neg (by omega), if_pos rfl]
      exact if_pos hfull
    refine completes_of_goOn (congrArg goOn hflag) ⟨State.lgyHas_lgyFlag (State.mode_of_lgyLive h).1 37, ?_⟩
    exact (s.lgyFlag_moves 37).1 .lgy rfl
  case clear => exact fun s v k i h => irqFlagClear_clears h v k i
  case base => exact fun s v f h hf => basef2Write_applies h hf
  case nirq =>
    intro s h hirq hhigh
    have hfalls : ¬((!s.lgyLive) = true ∨ (!s.lgyIrq) = true ∨ s.lgy.nirq = true) := by
      rw [h, hirq, hhigh]
      decide
    refine completes_of_goOn (if_neg hfalls) ⟨?_, State.event_raise _ 119⟩
    rw [State.raise_lgy]

/-! Commands (R391). -/

/-- Command `code` has been taken and runs at once. -/
def State.lgyTaken (s : State) (code : Nat) : State := { s with lgy := { s.lgy with cmd := some code, held := false } }

theorem State.of_lgyFree {s : State} (h : s.lgyFree = true) : s.lgyLive = true ∧ s.lgy.cmd = none ∧ s.boot.firmware = true := by
  unfold State.lgyFree at h
  simp only [Bool.and_eq_true, Option.isNone_iff_eq_none] at h
  exact ⟨h.1.1, h.1.2, h.2⟩

theorem State.lgyCommand_runs {s : State} (h : s.lgyFree = true) {code : Nat} (hlo : 1 ≤ code) (hhi : code ≤ 0x0B)
    (hflush : code = 2 → s.lgyFrameOnAir = false) (hcal : code = 0x0A → s.on LGY_SLOTCTL_RUN = false) :
    s.lgyCommand code = (s.lgyTaken code).lgyAction code := by
  obtain ⟨hlive, hcmd, hfirmware⟩ := State.of_lgyFree h
  unfold State.lgyCommand
  rw [if_neg (by rw [hlive]; decide), if_neg]
  · rw [hfirmware, Bool.not_true, Bool.and_false]
    rfl
  · rintro (hbusy | hzero | hhigh | ⟨htwo, hair⟩ | ⟨hten, hrun⟩)
    · rw [hcmd] at hbusy
      exact absurd hbusy (by decide)
    · omega
    · omega
    · rw [hflush htwo] at hair
      exact absurd hair (by decide)
    · rw [hcal hten] at hrun
      exact absurd hrun (by decide)

theorem State.lgyCommand_busy {s : State} {c : Nat} (hlive : s.lgyLive = true) (hcmd : s.lgy.cmd = some c) (code : Nat) :
    s.lgyCommand code = s.lgyFlag 30 := by
  unfold State.lgyCommand
  rw [if_neg (by rw [hlive]; decide), if_pos (.inl (by rw [hcmd]; rfl))]

/-- A command other than FLUSH_TX and CAL completes with its action. -/
theorem completes_lgyCommand {c : Instr} {s : State} {code : Nat} {P : State → Prop} (hexec : exec c s = goOn (s.lgyCommand code))
    (h : s.lgyFree = true) (hcode : 1 ≤ code ∧ code ≤ 0x0B ∧ code ≠ 2 ∧ code ≠ 0x0A) (hP : P ((s.lgyTaken code).lgyAction code)) :
    completes c s P :=
  completes_of_goOn (hexec.trans (congrArg goOn (State.lgyCommand_runs h hcode.1 hcode.2.1 (fun h2 => absurd h2 hcode.2.2.1)
    fun h10 => absurd h10 hcode.2.2.2))) hP

theorem flushTx_empties {s : State} (h : s.lgyFree = true) (hnone : s.lgyUnit .data = none) : completes .flushTx s fun t =>
    t.lgy.cmd = some 2 ∧ t = { s with lgy := { s.lgy with tx := [], cmd := some 2, held := false } } := by
  have hair : s.lgyFrameOnAir = false := by
    unfold State.lgyFrameOnAir
    rw [hnone]
    rfl
  have hrecall : (s.lgyTaken 2).lgyRecall = s.lgyTaken 2 := by
    unfold State.lgyRecall
    rw [show (s.lgyTaken 2).lgyUnit .data = none from hnone]
  have haction : (s.lgyTaken 2).lgyAction 2 = { s with lgy := { s.lgy with tx := [], cmd := some 2, held := false } } := by
    show ({ (s.lgyTaken 2).lgyRecall with lgy := { (s.lgyTaken 2).lgyRecall.lgy with tx := [] } } : State) = _
    rw [hrecall]
    rfl
  refine completes_of_goOn (congrArg goOn ((State.lgyCommand_runs h (by decide) (by decide) (fun _ => hair)
    fun h10 => absurd h10 (by decide)).trans haction)) ⟨rfl, rfl⟩

theorem txStart_arms {s : State} (h : s.lgyFree = true) (hnone : s.lgy.frame = none) : completes .txStart s fun t =>
    t.lgy.cmd = some 3 ∧ t = { s with lgy := { s.lgy with frame := some { armedAt := s.tnet }, cmd := some 3, held := false } } := by
  refine completes_lgyCommand rfl h (by decide) ?_
  show (s.lgyTaken 3).lgyArm.lgy.cmd = some 3 ∧ (s.lgyTaken 3).lgyArm = _
  unfold State.lgyArm
  rw [show (s.lgyTaken 3).lgy.frame = none from hnone]
  exact ⟨rfl, rfl⟩

theorem txAbort_drops {s : State} (h : s.lgyFree = true) (hnone : s.lgyUnit .data = none) : completes .txAbort s fun t =>
    t.lgy.cmd = some 4 ∧ t.lgy.frame = none := by
  refine completes_lgyCommand rfl h (by decide) ?_
  have hunit : (s.lgyTaken 4).lgyUnit .data = none := hnone
  show (s.lgyTaken 4).lgyAbort.lgy.cmd = some 4 ∧ (s.lgyTaken 4).lgyAbort.lgy.frame = none
  unfold State.lgyAbort
  split
  next hframe => exact ⟨rfl, hframe⟩
  · rw [hunit, if_neg (by simp)]
    unfold State.lgyRecall
    rw [hunit]
    exact ⟨rfl, rfl⟩

theorem cmddone_ends {s : State} {c : Nat} (hlive : s.lgyLive = true) (hcmd : s.lgy.cmd = some c) (hheld : s.lgy.held = false) :
    completes .cmddone s fun t => t.lgy.cmd = none ∧ t.lgyHas 29 = true ∧ (c = 10 → t.lgyHas 31 = true) := by
  have hexec : exec .cmddone s = goOn (if c = 0x0A then (({ s with lgy := { s.lgy with cmd := none } } : State).lgyFlag 29).lgyFlag 31
      else ({ s with lgy := { s.lgy with cmd := none } } : State).lgyFlag 29) := by
    show execCmddone s = _
    unfold execCmddone
    rw [hcmd]
    dsimp only
    rw [if_neg (by rw [hlive, hheld]; decide)]
  refine completes_of_goOn hexec ?_
  generalize hz : ({ s with lgy := { s.lgy with cmd := none } } : State) = z
  have hnone : z.lgy.cmd = none := hz ▸ rfl
  have hmode : z.mode = modeCompat := hz ▸ (State.mode_of_lgyLive hlive).1
  have hlgy : ∀ (x : State) (n : Nat), (x.lgyFlag n).lgy = x.lgy := fun x n => (x.lgyFlag_moves n).1 .lgy rfl
  have hdone : (z.lgyFlag 29).lgyHas 29 = true := State.lgyHas_lgyFlag hmode 29
  by_cases hten : c = 0x0A
  · rw [if_pos hten, hlgy, hlgy]
    exact ⟨hnone, State.lgyHas_lgyFlag_of_has (by decide) (by decide) hdone,
      fun _ => State.lgyHas_lgyFlag ((z.mode_lgyFlag 29).trans hmode) 31⟩
  · rw [if_neg hten, hlgy]
    exact ⟨hnone, hdone, fun h10 => absurd h10 hten⟩

theorem hopWrite_moves_on {s : State} {i : Nat} (h : s.lgyFree = true) (hidx : s.get LGY_HOPIDX_IDX = i) (hi : i < 64)
    (hlen : s.lgy.hop.length = 64) : completes .hopWrite s fun t => t.lgy.cmd = some 8 ∧ t.lgy.hop.getD i 0 = s.get LGY_HOPDAT_N ∧
      t.get LGY_HOPIDX_IDX = (i + 1) % 64 ∧ t.lgy.hop.length = 64 := by
  subst hidx
  refine completes_lgyCommand rfl h (by decide) ⟨rfl, ?_, ?_, ?_⟩
  · show (s.lgy.hop.set (s.get LGY_HOPIDX_IDX) (s.get LGY_HOPDAT_N)).getD (s.get LGY_HOPIDX_IDX) 0 = _
    rw [List.getD_eq_getElem _ _ (by rw [List.length_set]; omega), List.getElem_set_self]
  · exact (State.get_put_self _ _ _).trans (Nat.mod_eq_of_lt (Nat.mod_lt _ (by decide)))
  · show (s.lgy.hop.set (s.get LGY_HOPIDX_IDX) (s.get LGY_HOPDAT_N)).length = 64
    rw [List.length_set, hlen]

theorem hopRead_moves_on {s : State} {i : Nat} (h : s.lgyFree = true) (hidx : s.get LGY_HOPIDX_IDX = i)
    (hlt : s.lgy.hop.getD i 0 < 256) : completes .hopRead s fun t => t.lgy.cmd = some 9 ∧
      t.get LGY_HOPDAT_N = s.lgy.hop.getD i 0 ∧ t.get LGY_HOPIDX_IDX = (i + 1) % 64 := by
  subst hidx
  refine completes_lgyCommand rfl h (by decide) ⟨rfl, ?_, ?_⟩
  · show (((s.lgyTaken 9).put LGY_HOPDAT_N (s.lgy.hop.getD (s.get LGY_HOPIDX_IDX) 0)).lgyNextHop).get LGY_HOPDAT_N = _
    unfold State.lgyNextHop
    rw [State.get_put_ne _ _ (by decide), State.get_put_self]
    exact Nat.mod_eq_of_lt hlt
  · show (((s.lgyTaken 9).put LGY_HOPDAT_N (s.lgy.hop.getD (s.get LGY_HOPIDX_IDX) 0)).lgyNextHop).get LGY_HOPIDX_IDX = _
    unfold State.lgyNextHop
    rw [State.get_put_self, State.get_put_ne _ _ (by decide)]
    exact Nat.mod_eq_of_lt (Nat.mod_lt _ (by decide))

/-! Contexts by command (R391). -/

theorem Sparse.read_dropRange_ne {α : Type} (d : α) (m : Sparse α) {lo hi k : Nat} (h : k < lo ∨ hi ≤ k) :
    Sparse.read d (m.dropRange lo hi) k = Sparse.read d m k := by
  induction m with
  | nil => rfl
  | cons e m ih =>
    obtain ⟨j, v⟩ := e
    unfold Sparse.dropRange at ih ⊢
    rw [List.filter_cons]
    split
    case isTrue =>
      unfold Sparse.read
      rw [ih]
    case isFalse hout =>
      simp only [Bool.or_eq_true, decide_eq_true_eq, not_or, not_lt] at hout
      rw [ih]
      conv_rhs => unfold Sparse.read
      rw [if_neg (by omega)]

theorem State.byte_zeroBytes_ne (s : State) (a n : Nat) {k : Nat} (h : k < a ∨ a + n ≤ k) : (s.zeroBytes a n).byte k = s.byte k :=
  Sparse.read_dropRange_ne _ _ h

theorem State.num_one (s : State) (a : Nat) : s.num a 1 = (s.byte a).toNat := by
  simp [State.num, State.bytes, leNat]

theorem State.ctx_one_lt (s : State) (i off : Nat) : s.ctx i off 1 < 256 := by
  unfold State.ctx
  rw [State.num_one]
  exact (s.byte _).isLt

theorem ctxDelete_clears {s : State} {i b : Nat} (h : s.lgyFree = true) (hidx : s.get LGY_CTXIDX_IDX = i)
    (hb : b < ctxAddr i + 10 ∨ ctxAddr i + 12 ≤ b) : completes .ctxDelete s fun t =>
      t.lgy.cmd = some 7 ∧ t.ctxFlag i 0 = false ∧ t.byte b = s.byte b := by
  subst hidx
  generalize hi : s.get LGY_CTXIDX_IDX = i at hb
  have haction : (s.lgyTaken 7).lgyAction 7 = (s.lgyTaken 7).setCtx i 10 2 (clearBit (s.ctx i 10 2) 0) := by
    subst hi
    rfl
  refine completes_lgyCommand rfl h (by decide) ?_
  rw [haction]
  refine ⟨?_, ?_, ?_⟩
  · exact congrArg Lgy.cmd (((s.lgyTaken 7).setBytes_moves _ _).1 .lgy rfl)
  · unfold State.ctxFlag State.ctx State.setCtx
    rw [State.num_setNum]
    exact (bit_mod_two_pow (w := 16) (by decide)).trans (bit_clearBit _ 0)
  · exact State.byte_setNum_ne _ _ _ _ (by omega)

/-- The context that CTX_WRITE stores (R391). -/
def State.ctxWritten (s : State) (i : Nat) : State :=
  (((s.zeroBytes (ctxAddr i) 64).setBytes (ctxAddr i) ((List.range 4).map fun k => BitVec.ofNat 8 (s.get (LGY_CTXDAT_VALUE k))))).setCtx
    i 10 2 (s.get (LGY_CTXDAT_VALUE 4) % 2)

theorem State.ctxWritten_ctx (s : State) (i : Nat) (k : Fin 4) : (s.ctxWritten i).ctx i k 1 = s.get (LGY_CTXDAT_VALUE k) % 256 := by
  unfold State.ctxWritten State.ctx State.setCtx
  rw [State.num_setNum_ne _ _ (by omega), State.num_one, State.byte_setBytes _ _ _ _ (by simp)]
  simp

theorem State.ctxWritten_valid (s : State) (i : Nat) : (s.ctxWritten i).ctxFlag i 0 = bit (s.get (LGY_CTXDAT_VALUE 4)) 0 := by
  unfold State.ctxWritten State.ctxFlag State.ctx State.setCtx
  rw [State.num_setNum]
  simp [bit]

theorem State.ctxWritten_byte (s : State) {i b : Nat} (hb : b < ctxAddr i ∨ ctxAddr i + 64 ≤ b) : (s.ctxWritten i).byte b = s.byte b := by
  unfold State.ctxWritten State.setCtx
  rw [State.byte_setNum_ne _ _ _ _ (by omega), State.byte_setBytes_ne _ _ _ _ (by simp; omega), State.byte_zeroBytes_ne _ _ _ hb]

theorem State.lgyCtxWrite_eq {s : State} {i : Nat} (hidx : s.get LGY_CTXIDX_IDX = i) : ∃ u : State, (u = s ∨ u = s.lgyFlag 40) ∧
    s.lgyCtxWrite = (((u.ctxWritten i).put (LGY_CTXDAT_VALUE 5) 0).put (LGY_CTXDAT_VALUE 6) 0).put (LGY_CTXDAT_VALUE 7) 0 := by
  subst hidx
  unfold State.lgyCtxWrite
  by_cases hfull : s.lgyContexts = 250
  · exact ⟨_, .inr rfl, by rw [if_pos hfull]; rfl⟩
  · exact ⟨_, .inl rfl, by rw [if_neg hfull]; rfl⟩

theorem ctxWrite_stores {s : State} {i b : Nat} (k : Fin 4) (h : s.lgyFree = true) (hidx : s.get LGY_CTXIDX_IDX = i)
    (hb : b < ctxAddr i ∨ ctxAddr i + 64 ≤ b) : completes .ctxWrite s fun t => t.lgy.cmd = some 5 ∧
      t.ctx i k 1 = s.get (LGY_CTXDAT_VALUE k) % 256 ∧ t.ctxFlag i 0 = bit (s.get (LGY_CTXDAT_VALUE 4)) 0 ∧ t.byte b = s.byte b := by
  obtain ⟨u, hu, haction⟩ := State.lgyCtxWrite_eq (s := s.lgyTaken 5) hidx
  have hkept : Moves 4398046511104 (s.lgyTaken 5) u := by
    rcases hu with rfl | rfl
    · exact Moves.refl
    · exact (s.lgyTaken 5).lgyFlag_moves 40
  have hdat : ∀ n < 8, u.get (LGY_CTXDAT_VALUE n) = s.get (LGY_CTXDAT_VALUE n) := fun n hn => by
    rcases hu with rfl | rfl
    · rfl
    · unfold State.lgyFlag
      split
      · refine State.get_put_ne _ _ ?_
        simp only [RegField.key, LGY_CTXDAT_VALUE, LGY_IRQF_FLAGS]
        omega
      · rfl
  refine completes_lgyCommand rfl h (by decide) ?_
  show (s.lgyTaken 5).lgyCtxWrite.lgy.cmd = some 5 ∧ (s.lgyTaken 5).lgyCtxWrite.ctx i k 1 = _ ∧
    (s.lgyTaken 5).lgyCtxWrite.ctxFlag i 0 = _ ∧ (s.lgyTaken 5).lgyCtxWrite.byte b = _
  have hlgy := (s.lgyTaken 5).lgyCtxWrite_moves.1 .lgy rfl
  have hput : ∀ (z : State) (f : RegField) (v off n : Nat), (z.put f v).ctx i off n = z.ctx i off n := fun _ _ _ _ _ => rfl
  have hflag : ∀ (z : State) (f : RegField) (v n : Nat), (z.put f v).ctxFlag i n = z.ctxFlag i n := fun _ _ _ _ => rfl
  refine ⟨congrArg Lgy.cmd hlgy, ?_⟩
  rw [haction, hput, hput, hput, hflag, hflag, hflag, State.byte_put, State.byte_put, State.byte_put, State.ctxWritten_ctx,
    State.ctxWritten_valid, State.ctxWritten_byte _ hb, hdat _ (by omega), hdat _ (by decide)]
  exact ⟨rfl, rfl, hkept.1 .mem rfl b⟩

theorem State.get_ctxDat (l : List Nat) (s : State) (i : Nat) {j : Nat} (hj : j < 8) (hl : ∀ n ∈ l, n < 8) :
    (l.foldl (fun (s : State) k => s.put (LGY_CTXDAT_VALUE k) (s.ctx i k 1)) s).get (LGY_CTXDAT_VALUE j) =
      if j ∈ l then s.ctx i j 1 else s.get (LGY_CTXDAT_VALUE j) := by
  induction l generalizing s with
  | nil => simp
  | cons n l ih =>
    have hn := hl n List.mem_cons_self
    rw [List.foldl_cons, ih _ fun m hm => hl m (List.mem_cons_of_mem n hm),
      show (s.put (LGY_CTXDAT_VALUE n) (s.ctx i n 1)).ctx i j 1 = s.ctx i j 1 from rfl]
    by_cases hmem : j ∈ l
    · rw [if_pos hmem, if_pos (List.mem_cons_of_mem n hmem)]
    · rw [if_neg hmem]
      by_cases hjn : j = n
      · subst hjn
        rw [if_pos List.mem_cons_self, State.get_put_self]
        exact Nat.mod_eq_of_lt (s.ctx_one_lt i j)
      · rw [if_neg fun h => (List.mem_cons.mp h).elim hjn hmem, State.get_put_ne _ _ (by
          simp only [RegField.key, LGY_CTXDAT_VALUE]
          omega)]

theorem State.ctx_ctxDat (l : List Nat) (s : State) (i off n : Nat) :
    (l.foldl (fun (s : State) k => s.put (LGY_CTXDAT_VALUE k) (s.ctx i k 1)) s).ctx i off n = s.ctx i off n := by
  induction l generalizing s with
  | nil => rfl
  | cons k l ih => exact ih _

theorem State.lgyCtxRead_shows {s : State} {i : Nat} (hidx : s.get LGY_CTXIDX_IDX = i) (k : Fin 4) :
    s.lgyCtxRead.get (LGY_CTXDAT_VALUE k) = s.ctx i k 1 ∧ s.lgyCtxRead.get (LGY_CTXDAT_VALUE 4) = ofBool (s.ctxFlag i 0) ∧
      s.lgyCtxRead.get (LGY_CTXDAT_VALUE 5) = s.ctx i 15 1 := by
  subst hidx
  have hne : ∀ {m n : Nat}, m < 8 → n < 8 → m ≠ n → (LGY_CTXDAT_VALUE m).key ≠ (LGY_CTXDAT_VALUE n).key := fun hm hn hmn => by
    simp only [RegField.key, LGY_CTXDAT_VALUE]
    omega
  unfold State.lgyCtxRead
  extract_lets i z x y
  have hz : ∀ off n, z.ctx i off n = s.ctx i off n := s.ctx_ctxDat _ i
  have haddr : z.get (LGY_CTXDAT_VALUE k) = s.ctx i k 1 :=
    (s.get_ctxDat (List.range 4) i (by omega) fun n hn => (List.mem_range.mp hn).trans (by decide)).trans
      (if_pos (List.mem_range.mpr k.isLt))
  have hvalid : z.ctxFlag i 0 = s.ctxFlag i 0 := congrArg (bit · 0) (hz 10 2)
  have hone : ofBool (s.ctxFlag i 0) < 2 ^ 8 := by
    cases s.ctxFlag i 0 <;> decide
  clear_value z
  refine ⟨?_, ?_, ?_⟩
  · rw [State.get_put_ne _ _ (hne (by omega) (by decide) (by omega)), State.get_put_ne _ _ (hne (by omega) (by decide) (by omega)),
      State.get_put_ne _ _ (hne (by omega) (by decide) (by omega)), State.get_put_ne _ _ (hne (by omega) (by decide) (by omega)), haddr]
  · rw [State.get_put_ne _ _ (hne (by decide) (by decide) (by decide)), State.get_put_ne _ _ (hne (by decide) (by decide) (by decide)),
      State.get_put_ne _ _ (hne (by decide) (by decide) (by decide)), State.get_put_self, hvalid]
    exact Nat.mod_eq_of_lt hone
  · rw [State.get_put_ne _ _ (hne (by decide) (by decide) (by decide)), State.get_put_ne _ _ (hne (by decide) (by decide) (by decide)),
      State.get_put_self, hz]
    exact Nat.mod_eq_of_lt (s.ctx_one_lt i 15)

/-! Calibrations by command (R391, R44). -/

theorem State.blankLane_calib (r : BlankReason) (s : State) (i : Nat) : (State.blankLane r s i).radio.calib = s.radio.calib ∧
    (State.blankLane r s i).radio.calWait = s.radio.calWait := by
  unfold State.blankLane
  extract_lets st cut marked shown
  have hcut : cut.radio.calib = s.radio.calib ∧ cut.radio.calWait = s.radio.calWait := by
    unfold cut
    split <;> exact ⟨rfl, rfl⟩
  have hshown : shown.radio.calib = s.radio.calib ∧ shown.radio.calWait = s.radio.calWait := hcut
  split <;> exact hshown

theorem State.blankLanes_calib (r : BlankReason) (l : List Nat) (s : State) :
    (l.foldl (State.blankLane r) s).radio.calib = s.radio.calib ∧ (l.foldl (State.blankLane r) s).radio.calWait = s.radio.calWait := by
  induction l generalizing s with
  | nil => exact ⟨rfl, rfl⟩
  | cons i l ih =>
    obtain ⟨hcalib, hwait⟩ := s.blankLane_calib r i
    exact ⟨(ih _).1.trans hcalib, (ih _).2.trans hwait⟩

theorem State.beginCal_calib (s : State) (c : Calibration) : (s.beginCal c).radio.calib = some c ∧
    (s.beginCal c).radio.calWait = s.radio.calWait := by
  unfold State.beginCal
  split
  · exact State.blankLanes_calib .cal _ _
  · exact ⟨rfl, rfl⟩

/-- A calibration of TYPE and TARGET as the CAL command asks for it. -/
def calOf (type target : Nat) : Calibration := { type := type, target := target, slots := 0, background := false }

theorem State.nextCal_takes {s : State} {c : Calibration} {cs : List Calibration} (hnone : s.radio.calib = none)
    (hwait : s.radio.calWait = c :: cs) : s.nextCal.radio.calib = some c ∧ s.nextCal.radio.calWait = cs := by
  unfold State.nextCal
  rw [hnone, hwait]
  exact State.beginCal_calib _ c

theorem lgyCal_starts {s : State} (h : s.lgyFree = true) (hrun : s.get LGY_SLOTCTL_RUN = 0) (hnone : s.radio.calib = none)
    (hwait : s.radio.calWait = []) : completes .lgyCal s fun t => t.lgy.cmd = some 10 ∧
      (t.radio.calib.map fun c => (c.type, c.target)) = some (1, 0) ∧
      t.radio.calWait.map (fun (c : Calibration) => (c.type, c.target)) = [(5, 0), (1, 2)] := by
  have hoff : s.on LGY_SLOTCTL_RUN = false := by
    unfold State.on
    rw [hrun]
    rfl
  refine completes_of_goOn (congrArg goOn (State.lgyCommand_runs h (by decide) (by decide) (fun h2 => absurd h2 (by decide))
    fun _ => hoff)) ?_
  show (s.lgyTaken 10).lgyCal.lgy.cmd = some 10 ∧ _
  have hlgy : (s.lgyTaken 10).lgyCal.lgy = (s.lgyTaken 10).lgy := (s.lgyTaken 10).lgyCal_moves.1 .lgy rfl
  obtain ⟨hcalib, hrest⟩ := State.nextCal_takes
    (s := { s.lgyTaken 10 with radio := { (s.lgyTaken 10).radio with calWait := [calOf 1 0, calOf 5 0, calOf 1 2] } })
    (c := calOf 1 0) (cs := [calOf 5 0, calOf 1 2]) hnone rfl
  have hcal : (s.lgyTaken 10).lgyCal =
      ({ s.lgyTaken 10 with radio := { (s.lgyTaken 10).radio with calWait := [calOf 1 0, calOf 5 0, calOf 1 2] } } : State).nextCal := by
    unfold State.lgyCal
    rw [show (s.lgyTaken 10).radio.calWait = [] from hwait]
    rfl
  refine ⟨congrArg Lgy.cmd hlgy, ?_⟩
  show ((s.lgyTaken 10).lgyCal.radio.calib.map fun c => (c.type, c.target)) = some (1, 0) ∧
    (s.lgyTaken 10).lgyCal.radio.calWait.map (fun (c : Calibration) => (c.type, c.target)) = [(5, 0), (1, 2)]
  rw [hcal, hcalib, hrest]
  exact ⟨rfl, rfl⟩

/-! SOFT_RESET (R391). -/

/-- The engine at reset, but for the running command, the unlock matcher, SEQ and nIRQ. -/
def Lgy.softReset (old : Lgy) : Lgy :=
  { seq := old.seq, cmd := old.cmd, unlock := old.unlock, unlockAt := old.unlockAt, nirq := old.nirq }

/-- The registers and contexts of the engine at reset. -/
def State.lgyErased (s : State) : State :=
  (({ s with fields := Sparse.dropRange s.fields (0x400F0000 * 32) (0x400F0200 * 32) } : State).zeroBytes (ctxAddr 0)
    (64 * 250)).put CHZ_LEGSYNC_WORD CHZ_LEGSYNC_WORD.reset

theorem State.lgySoftReset_eq (s : State) : s.lgySoftReset =
    ({ s.lgyOrphans.lgyCloseWindows.lgyErased with lgy := s.lgyOrphans.lgyCloseWindows.lgyErased.lgy.softReset } : State).settleNirq := rfl

theorem State.get_lgyErased {s : State} {f : RegField} (hlo : 0x400F0000 * 32 ≤ f.key) (hhi : f.key < 0x400F0200 * 32) :
    s.lgyErased.get f = f.reset := by
  unfold State.lgyErased
  rw [State.get_put_ne _ _ (by
    have hkey : CHZ_LEGSYNC_WORD.key = 0x4002001C * 32 := rfl
    omega)]
  exact Sparse.read_dropRange _ _ hlo hhi

theorem State.ctxFlag_lgyErased (s : State) (i : Fin 250) : s.lgyErased.ctxFlag i 0 = false := by
  have hbyte : ∀ k, k < 2 → s.lgyErased.byte (ctxAddr i + 10 + k) = 0 := fun k hk => by
    unfold State.lgyErased
    rw [State.byte_put, State.byte_zeroBytes _ _ _ (by unfold ctxAddr; omega) (by unfold ctxAddr; omega)]
    unfold memDefault ctxAddr
    rw [if_neg (by omega)]
  have hnum : s.lgyErased.ctx i 10 2 = 0 := by
    unfold State.ctx State.num State.bytes
    rw [show List.range 2 = [0, 1] from rfl, List.map_cons, List.map_cons, List.map_nil, hbyte 0 (by decide), hbyte 1 (by decide)]
    rfl
  unfold State.ctxFlag
  rw [hnum]
  rfl

/-- The engine is at reset but for what SOFT_RESET keeps. -/
theorem State.settleNirq_lgy (s : State) : s.settleNirq.lgy = s.lgy ∨ s.settleNirq.lgy = { s.lgy with nirq := false } := by
  unfold State.settleNirq
  split
  · exact .inl rfl
  · exact .inr rfl

/-- The engine's registers, FIFOs, schedule and context `i` as after SOFT_RESET. -/
def State.LegacyAtReset (i : Nat) (t : State) : Prop :=
  t.lgy.rx = [] ∧ t.lgy.tx = [] ∧ t.lgy.frame = none ∧ t.lgy.run = false ∧ t.lgy.count = 1 ∧ t.lgy.hop = List.replicate 64 0 ∧
    t.lgy.base = 863000 ∧ t.ctxFlag i 0 = false ∧ t.get LGY_SLOTCTL_RUN = 0 ∧ t.get LGY_HOPLEN_LEN = 1

theorem State.settleNirq_atReset {i : Nat} {old : Lgy} {x : State} (hlgy : x.lgy = old.softReset) (hflag : x.ctxFlag i 0 = false)
    (hrun : x.get LGY_SLOTCTL_RUN = 0) (hlen : x.get LGY_HOPLEN_LEN = 1) : x.settleNirq.LegacyAtReset i := by
  have hctx : x.settleNirq.ctxFlag i 0 = x.ctxFlag i 0 := by
    unfold State.settleNirq
    split <;> rfl
  unfold State.LegacyAtReset
  rw [State.get_settleNirq, State.get_settleNirq, hctx]
  rcases x.settleNirq_lgy with hsettled | hsettled <;> rw [hsettled, hlgy] <;>
    exact ⟨rfl, rfl, rfl, rfl, rfl, rfl, rfl, hflag, hrun, hlen⟩

theorem softReset_resets {s : State} (i : Fin 250) (h : s.lgyFree = true) : completes .softReset s (State.LegacyAtReset i) := by
  refine completes_lgyCommand rfl h (by decide) ?_
  generalize hz : (s.lgyTaken 11).lgyOrphans.lgyCloseWindows = z
  have haction : (s.lgyTaken 11).lgyAction 11 = ({ z.lgyErased with lgy := z.lgyErased.lgy.softReset } : State).settleNirq :=
    hz ▸ State.lgySoftReset_eq _
  have hflag := z.ctxFlag_lgyErased i
  have hrun : z.lgyErased.get LGY_SLOTCTL_RUN = 0 := State.get_lgyErased (by decide) (by decide)
  have hlen : z.lgyErased.get LGY_HOPLEN_LEN = 1 := State.get_lgyErased (by decide) (by decide)
  rw [haction]
  generalize z.lgyErased = y at hflag hrun hlen
  exact State.settleNirq_atReset rfl hflag hrun hlen

theorem flushRx_empties {s : State} (h : s.lgyFree = true) : completes .flushRx s fun t => t.lgy.cmd = some 1 ∧
    t = { s with lgy := { s.lgy with rx := [], cmd := some 1, held := false } } :=
  completes_lgyCommand rfl h (by decide) ⟨rfl, rfl⟩

theorem ctxRead_shows {s : State} {i : Nat} (k : Fin 4) (h : s.lgyFree = true) (hidx : s.get LGY_CTXIDX_IDX = i) :
    completes .ctxRead s fun t => t.lgy.cmd = some 6 ∧ t.get (LGY_CTXDAT_VALUE k) = s.ctx i k 1 ∧
      t.get (LGY_CTXDAT_VALUE 4) = ofBool (s.ctxFlag i 0) ∧ t.get (LGY_CTXDAT_VALUE 5) = s.ctx i 15 1 := by
  refine completes_lgyCommand rfl h (by decide) ⟨?_, (s.lgyTaken 6).lgyCtxRead_shows hidx k⟩
  exact congrArg Lgy.cmd ((s.lgyTaken 6).lgyCtxRead_moves.1 .lgy rfl)

/-- Settles O45: the effects of a command on the map fall at its write, and CAL sets its calibrations through the waiting
list, both the model's choice (log entry 61). -/
theorem legacyCommands : Obligations.LegacyCommands := by
  unfold Obligations.LegacyCommands
  exact ⟨fun _ h => flushRx_empties h, fun _ h hnone => flushTx_empties h hnone, fun _ h hnone => txStart_arms h hnone,
    fun _ h hnone => txAbort_drops h hnone, fun _ _ k _ h hidx _ hb => ctxWrite_stores k h hidx hb,
    fun _ _ k h hidx _ => ctxRead_shows k h hidx, fun _ _ _ h hidx _ hb => ctxDelete_clears h hidx hb,
    fun _ _ h hidx hi hlen => hopWrite_moves_on h hidx hi hlen, fun _ _ h hidx _ hlt => hopRead_moves_on h hidx hlt,
    fun _ h hrun hnone hwait => lgyCal_starts h hrun hnone hwait, fun _ i h => softReset_resets i h,
    fun s c hlive hcmd => by
      have hbusy : ∀ code, goOn (s.lgyCommand code) = .next (s.lgyFlag 30) := fun code =>
        congrArg goOn (State.lgyCommand_busy hlive hcmd code)
      exact ⟨hbusy 1, hbusy 2, hbusy 3, hbusy 4, hbusy 5, hbusy 6, hbusy 7, hbusy 8, hbusy 9, hbusy 10, hbusy 11⟩,
    fun _ _ hlive hcmd hheld => cmddone_ends hlive hcmd hheld⟩

/-! SPI transactions (R384, R385). -/

/-- A whole transaction of the working port at up to 10 MHz. -/
theorem legacySpi_whole {s : State} (h : s.lgyLive = true) (a : Byte) (ds : List Byte) :
    exec (.legacySpiTransaction (a :: ds) false false false) s = goOn (if a = 0xFE ∧ ds.length = 1 ∧ !false then
      (s.lgyBytes a ds).unlockStep (ds.headD 0).toNat else (s.lgyBytes a ds).setUnlock .idle) := by
  show execLegacySpiTransaction (a :: ds) false false false s = _
  unfold execLegacySpiTransaction
  rw [if_neg (by rw [h]; decide)]
  rfl

theorem legacySpi_notUnlock {s : State} (h : s.lgyLive = true) {a : Byte} (ds : List Byte) (ha : a ≠ 0xFE) :
    exec (.legacySpiTransaction (a :: ds) false false false) s = goOn ((s.lgyBytes a ds).setUnlock .idle) :=
  (legacySpi_whole h a ds).trans (congrArg goOn (if_neg fun hunlock => ha hunlock.1))

theorem State.lgyBytes_write (s : State) {a : Byte} {ds : List Byte} (ha : 128 ≤ a.toNat) : s.lgyBytes a ds =
    (s.lgyWrites (a.toNat % 128) ds).spiOut (BitVec.ofNat 8 s.lgyStatus :: List.replicate ds.length 0) := if_pos ha

theorem State.lgyBytes_read (s : State) {a : Byte} {ds : List Byte} (ha : a.toNat < 128) : s.lgyBytes a ds =
    (s.lgyReads ds.length (a.toNat % 128)).2.spiOut (BitVec.ofNat 8 s.lgyStatus :: (s.lgyReads ds.length (a.toNat % 128)).1) :=
  if_neg (by omega)

theorem State.lgyReads_one {s : State} (h : s.lgyLive = true) (a : Nat) :
    s.lgyReads 1 a = ([BitVec.ofNat 8 (s.lgyView a)], s.lgyReadEffect a) := by
  show (BitVec.ofNat 8 (s.lgyRead a).1 :: [], (s.lgyRead a).2) = _
  unfold State.lgyRead
  rw [if_pos h]

theorem State.lgyReads_two {s : State} (h : s.lgyLive = true) (a : Nat) : s.lgyReads 2 a =
    (BitVec.ofNat 8 (s.lgyView a) :: ((s.lgyReadEffect a).lgyReads 1 (lgyNext a)).1,
      ((s.lgyReadEffect a).lgyReads 1 (lgyNext a)).2) := by
  show (BitVec.ofNat 8 (s.lgyRead a).1 :: ((s.lgyRead a).2.lgyReads 1 (lgyNext a)).1, ((s.lgyRead a).2.lgyReads 1 (lgyNext a)).2) = _
  unfold State.lgyRead
  rw [if_pos h]

theorem State.setUnlock_unlock (s : State) (u : Unlock) : (s.setUnlock u).lgy.unlock = u := rfl

theorem State.setUnlock_output (s : State) (u : Unlock) : (s.setUnlock u).host.output = s.host.output := rfl

theorem State.setUnlock_rx (s : State) (u : Unlock) : (s.setUnlock u).lgy.rx = s.lgy.rx := rfl

theorem State.spiOut_output (s : State) (bs : List Byte) : (s.spiOut bs).host.output = bs := rfl

theorem State.spiOut_lgy (s : State) (bs : List Byte) : (s.spiOut bs).lgy = s.lgy := rfl

theorem legacySpi_writes {s : State} (h : s.lgyLive = true) {a : Nat} (v : Byte) (hlt : a < 0x7E) :
    completes (.legacySpiTransaction [BitVec.ofNat 8 (128 + a), v] false false false) s fun t =>
      t = ((s.lgyWrite a v.toNat).spiOut [BitVec.ofNat 8 s.lgyStatus, 0]).setUnlock .idle := by
  have haddr : (BitVec.ofNat 8 (128 + a)).toNat = 128 + a := by
    rw [BitVec.toNat_ofNat]
    omega
  refine completes_of_goOn (legacySpi_notUnlock h [v] fun he => ?_) ?_
  · have hnat : (128 + a) = (0xFE : Byte).toNat := haddr.symm.trans (congrArg BitVec.toNat he)
    simp at hnat
    omega
  · rw [State.lgyBytes_write s (by omega), haddr, show (128 + a) % 128 = a by omega]
    rfl

theorem legacySpi_reads {s : State} (h : s.lgyLive = true) {a : Nat} (hlt : a < 128) :
    completes (.legacySpiTransaction [BitVec.ofNat 8 a, 0] false false false) s fun t =>
      t.host.output = [BitVec.ofNat 8 s.lgyStatus, BitVec.ofNat 8 (s.lgyView a)] ∧ t.lgy.unlock = .idle := by
  have haddr : (BitVec.ofNat 8 a).toNat = a := by
    rw [BitVec.toNat_ofNat]
    omega
  refine completes_of_goOn (legacySpi_notUnlock h [0] fun he => ?_) ?_
  · have hnat : a = (0xFE : Byte).toNat := haddr.symm.trans (congrArg BitVec.toNat he)
    simp at hnat
    omega
  · rw [State.lgyBytes_read s (by omega), haddr, Nat.mod_eq_of_lt hlt, List.length_singleton, State.lgyReads_one h,
      State.setUnlock_unlock, State.setUnlock_output, State.spiOut_output]
    exact ⟨rfl, rfl⟩

/-- A read at the receive FIFO takes its first byte. -/
def State.rxTaken (s : State) : State := { s with lgy := { s.lgy with rx := s.lgy.rx.drop 1 } }

theorem legacySpi_readsFifo {s : State} (h : s.lgyLive = true) (x y : Byte) :
    completes (.legacySpiTransaction [0x13, x, y] false false false) s fun t =>
      t.host.output = [BitVec.ofNat 8 s.lgyStatus, s.lgy.rx.getD 0 0, s.lgy.rx.getD 1 0] ∧ t.lgy.rx = s.lgy.rx.drop 2 := by
  have hlive : s.rxTaken.lgyLive = true := h
  have hview : ∀ {z : State}, z.lgyLive = true → BitVec.ofNat 8 (z.lgyView 0x13) = z.lgy.rx.getD 0 0 := fun {z} hz => by
    rw [State.lgyView_rxfifo hz]
    cases z.lgy.rx <;> simp
  refine completes_of_goOn (legacySpi_notUnlock h [x, y] (by decide)) ?_
  rw [State.lgyBytes_read s (by decide), show ([x, y] : List Byte).length = 2 from rfl, show (0x13 : Byte).toNat % 128 = 0x13 from rfl,
    State.lgyReads_two h, show s.lgyReadEffect 0x13 = s.rxTaken from rfl, show lgyNext 0x13 = 0x13 from rfl,
    State.lgyReads_one hlive, hview h, hview hlive, State.setUnlock_output, State.setUnlock_rx, State.spiOut_output, State.spiOut_lgy]
  constructor
  · show _ = [_, _, _]
    rw [show s.rxTaken.lgy.rx = s.lgy.rx.drop 1 from rfl]
    simp
  · show (s.lgy.rx.drop 1).drop 1 = _
    simp

theorem State.lgyHas_setUnlock (s : State) (u : Unlock) (n : Nat) : (s.setUnlock u).lgyHas n = s.lgyHas n := rfl

theorem State.mode_spiOut (s : State) (bs : List Byte) : (s.spiOut bs).mode = s.mode := rfl

/-- nCS rises within a byte of a read. -/
theorem legacySpi_cut {s : State} (h : s.lgyLive = true) (bs : List Byte) (hread : bs = [] ∨ (bs.headD 0).toNat < 128) :
    completes (.legacySpiTransaction bs true false false) s fun t => t.lgyHas 47 = true ∧ t.lgy.unlock = .idle := by
  have hmode := (State.mode_of_lgyLive h).1
  cases bs with
  | nil =>
    have hexec : exec (.legacySpiTransaction [] true false false) s = goOn (((s.spiOut []).setUnlock .idle).lgyFlag 47) := by
      show execLegacySpiTransaction [] true false false s = _
      unfold execLegacySpiTransaction
      rw [if_neg (by rw [h]; decide)]
      rfl
    refine completes_of_goOn hexec ⟨State.lgyHas_lgyFlag (s := (s.spiOut []).setUnlock .idle) hmode 47, ?_⟩
    exact congrArg Lgy.unlock ((((s.spiOut []).setUnlock .idle).lgyFlag_moves 47).1 .lgy rfl)
  | cons a ds =>
    have hexec : exec (.legacySpiTransaction (a :: ds) true false false) s = goOn (((s.lgyBytes a ds).lgyFlag 47).setUnlock .idle) := by
      show execLegacySpiTransaction (a :: ds) true false false s = _
      unfold execLegacySpiTransaction
      rw [if_neg (by rw [h]; decide)]
      exact congrArg goOn (if_neg fun hunlock => absurd hunlock.2.2 (by decide))
    have hlow : a.toNat < 128 := hread.resolve_left (List.cons_ne_nil a ds)
    have hkept : (s.lgyBytes a ds).mode = modeCompat := by
      rw [State.lgyBytes_read s hlow, State.mode_spiOut]
      exact ((s.lgyReads_moves _ _).get_eq PRC_MODE_MODE_block (by decide) rfl).trans hmode
    refine completes_of_goOn hexec ⟨?_, rfl⟩
    rw [State.lgyHas_setUnlock]
    exact State.lgyHas_lgyFlag hkept 47

/-- A write to the map address of the unlock matcher writes no register. -/
theorem State.lgyWrite_unlockAddress {s : State} (h : s.lgyLive = true) (v : Nat) : s.lgyWrite 0x7E v = s := by
  rw [State.lgyWrite_live h, if_neg (by decide), if_neg (by decide), if_neg (by decide), if_neg (by decide),
    if_neg fun hw => absurd hw.1 (by decide)]

theorem legacySpi_unlock {s : State} (h : s.lgyLive = true) (v : Byte) :
    completes (.legacySpiTransaction [0xFE, v] false false false) s fun t =>
      t = (s.spiOut [BitVec.ofNat 8 s.lgyStatus, 0]).unlockStep v.toNat := by
  refine completes_of_goOn ((legacySpi_whole h 0xFE [v]).trans (congrArg goOn (if_pos ⟨rfl, rfl, rfl⟩))) ?_
  have hbytes : s.lgyBytes 0xFE [v] = s.spiOut [BitVec.ofNat 8 s.lgyStatus, 0] := by
    rw [State.lgyBytes_write s (by decide)]
    show (s.lgyWrite 0x7E v.toNat).spiOut _ = _
    rw [State.lgyWrite_unlockAddress h]
    rfl
  rw [hbytes]
  rfl

/-! The native unlock (R398, R399). -/

theorem State.unlockStep_idle {s : State} (h : s.lgyLive = true) (hstep : s.lgy.unlock = .idle) {v : Nat} (hv : v ≠ 0x4B) :
    s.unlockStep v = s.setUnlock .idle := by
  unfold State.unlockStep
  rw [if_neg (by rw [h]; decide), if_neg hv, hstep]

theorem State.unlockStep_step1 {s : State} (h : s.lgyLive = true) (hstep : s.lgy.unlock = .step1) {v : Nat} (hv : v ≠ 0x4B) :
    s.unlockStep v = if v = 0x57 then s.setUnlock .step2 else s.setUnlock .idle := by
  unfold State.unlockStep
  rw [if_neg (by rw [h]; decide), if_neg hv, hstep]

theorem State.unlockStep_step2 {s : State} (h : s.lgyLive = true) (hstep : s.lgy.unlock = .step2) {v : Nat} (hv : v ≠ 0x4B) :
    s.unlockStep v = if v = 0x72 ∧ s.clock ≤ s.lgy.unlockAt + 100000 then s.lgyAccept else s.setUnlock .idle := by
  unfold State.unlockStep
  rw [if_neg (by rw [h]; decide), if_neg hv, hstep]

theorem unlockWrite_first {s : State} (h : s.lgyLive = true) : exec (.unlockWrite 0x4B) s =
    .next ({ s with lgy := { s.lgy with unlock := .step1, unlockAt := s.clock } }) := by
  show goOn (s.unlockStep 0x4B) = _
  unfold State.unlockStep
  rw [if_neg (by rw [h]; decide), if_pos rfl]
  rfl

theorem unlockWrite_second {s : State} (h : s.lgyLive = true) (hstep : s.lgy.unlock = .step1) : exec (.unlockWrite 0x57) s =
    .next ({ s with lgy := { s.lgy with unlock := .step2 } }) := by
  show goOn (s.unlockStep 0x57) = _
  rw [State.unlockStep_step1 h hstep (by decide), if_pos rfl]
  rfl

theorem unlockWrite_wrong {s : State} {v : Fin 256} (h : s.lgyLive = true) (hv : v ≠ 0x4B)
    (hwrong : s.lgy.unlock = .idle ∨ (s.lgy.unlock = .step1 ∧ v ≠ 0x57) ∨
      (s.lgy.unlock = .step2 ∧ (v ≠ 0x72 ∨ s.lgy.unlockAt + 100000 < s.clock))) :
    exec (.unlockWrite v) s = .next ({ s with lgy := { s.lgy with unlock := .idle } }) := by
  have hne : ∀ {k : Fin 256}, v ≠ k → v.val ≠ k.val := fun hvk he => hvk (Fin.ext he)
  show goOn (s.unlockStep v) = goOn (s.setUnlock .idle)
  rcases hwrong with hidle | ⟨hstep, hv57⟩ | ⟨hstep, hlate⟩
  · rw [State.unlockStep_idle h hidle (hne hv)]
  · rw [State.unlockStep_step1 h hstep (hne hv)]
    exact congrArg goOn (if_neg (hne hv57))
  · rw [State.unlockStep_step2 h hstep (hne hv)]
    refine congrArg goOn (if_neg ?_)
    rintro ⟨h72, hintime⟩
    rcases hlate with hv72 | hlate
    · exact hne hv72 h72
    · omega

/-- The engine after an accepted unlock: FIFOs and the armed frame are gone. -/
theorem State.lgyAccept_stops (s : State) (n : Fin 64) : s.lgyAccept.lgy.gone = true ∧ s.lgyAccept.lgy.rx = [] ∧
    s.lgyAccept.lgy.tx = [] ∧ s.lgyAccept.lgy.frame = none ∧ s.lgyAccept.slot.rx = [] ∧ s.lgyAccept.lgyHas n = false ∧
    s.lgyAccept.lgy.nirq = false ∧ Sparse.read [] s.lgyAccept.objs 0x103000 = (List.range 128).map (fun a => BitVec.ofNat 8 (s.lgyView a)) := by
  unfold State.lgyAccept
  extract_lets img saved closed radio slot discarded cleared stopped
  have hslot : cleared.slot = discarded.slot := discarded.lgyClearAll_moves.1 .slot rfl
  have hobjs : cleared.objs = saved.objs :=
    (discarded.lgyClearAll_moves.1 .objs rfl).trans (show closed.objs = saved.objs from
      (saved.lgyOrphans.lgyCloseWindows_moves.1 .objs rfl).trans (saved.lgyOrphans_moves.1 .objs rfl))
  have hflags : cleared.lgyHas n = false := discarded.lgyHas_lgyClearAll n
  refine ⟨rfl, rfl, rfl, rfl, congrArg SlotEngine.rx hslot, hflags, rfl, ?_⟩
  show Sparse.read [] cleared.objs 0x103000 = img
  rw [hobjs]
  exact (Sparse.read_write [] s.objs 0x103000 0x103000 img).trans (if_pos rfl)

/-! The switch-over (R399). -/

theorem State.foldl_lgy {α : Type} {f : State → α → State} (hf : ∀ s x, (f s x).lgy = s.lgy) (l : List α) (s : State) :
    (l.foldl f s).lgy = s.lgy := by
  induction l generalizing s with
  | nil => rfl
  | cons x l ih => exact (ih _).trans (hf s x)

theorem State.resetSettings_lgy (s : State) (regs : List RegRow) : (s.resetSettings regs).lgy = s.lgy := by
  unfold State.resetSettings
  refine State.foldl_lgy (fun s r => State.foldl_lgy (fun s i => State.foldl_lgy (fun s f => ?_) _ s) _ s) _ s
  split <;> rfl

theorem State.goalDropped_lgy (z : State) (p : Path) : (if (z.setPath p { z.path p with goal := none }).hasPath p &&
      1 < (z.setPath p { z.path p with goal := none }).get (pathField p) then (z.setPath p { z.path p with goal := none }).enter p 1
    else z.setPath p { z.path p with goal := none }).lgy = z.lgy := by
  have hset : (z.setPath p { z.path p with goal := none }).lgy = z.lgy := (z.setPath_moves p _).1 .lgy rfl
  generalize z.setPath p { z.path p with goal := none } = y at hset
  split
  · exact ((y.enter_moves p 1).1 .lgy rfl).trans hset
  · exact hset

theorem State.lgyCleanup_hop (s : State) : s.lgyCleanup.lgy.hop = List.replicate 64 0 := by
  unfold State.lgyCleanup
  extract_lets invalid old discarded reset radio plans rested
  have hrested : rested.lgy = plans.lgy :=
    (State.foldl_lgy (fun z i => (z.restLane_moves i).1 .lgy rfl) _ _).trans (plans.installMap_moves.1 .lgy rfl)
  have hdiscarded : discarded.lgy.hop = List.replicate 64 0 := rfl
  have hreset : reset.lgy.hop = List.replicate 64 0 := by
    rw [← hdiscarded]
    exact congrArg Lgy.hop (((discarded.resetSettings chzRegs).resetSettings_lgy rfcRegs).trans (discarded.resetSettings_lgy chzRegs))
  rw [State.foldl_lgy State.goalDropped_lgy, hrested]
  clear_value reset
  exact hreset

theorem State.event_setLgy (s : State) (g : Lgy) (n : Nat) : ({ s with lgy := g } : State).event n = s.event n := rfl

theorem nativeSwitchover_enters {s : State} (hmode : s.mode = modeCompat) (hgone : s.lgy.gone = true) (hair : s.airUnit = none)
    (hstart : s.boot.startMode = none) : completes .nativeSwitchover s fun t => t.mode = modeConc ∧ t.event 7 = true ∧
      t.get PRC_MODE_UNLOCKED = 1 ∧ t.lgy.gone = false ∧ t.lgy.hop = List.replicate 64 0 := by
  generalize hz : s.lgyCleanup.enterMode modeConc = z
  obtain ⟨hconc, -, -, hevent⟩ := s.lgyCleanup.enterMode_effect modeConc
  rw [hz] at hconc hevent
  have hhop : z.lgy.hop = List.replicate 64 0 :=
    (congrArg Lgy.hop (hz ▸ (s.lgyCleanup.enterMode_moves modeConc).1 .lgy rfl)).trans s.lgyCleanup_hop
  have hboot : z.boot.startMode = none :=
    (congrArg Boot.startMode (hz ▸ ((s.lgyCleanup.enterMode_moves modeConc).1 .boot rfl).trans (s.lgyCleanup_moves.1 .boot rfl))).trans hstart
  have hexec : exec .nativeSwitchover s =
      goOn { z.flag PRC_MODE_UNLOCKED true with lgy := { (z.flag PRC_MODE_UNLOCKED true).lgy with gone := false } } := by
    show execNativeSwitchover s = _
    unfold execNativeSwitchover
    rw [if_neg (by rw [hgone, hair]; simp [hmode]), hz]
    extract_lets y old x
    rw [show x.boot.startMode = none from hboot]
  have hmodeKept : (z.flag PRC_MODE_UNLOCKED true).mode = z.mode := State.get_flag_ne z true (by decide)
  have hunlocked : (z.flag PRC_MODE_UNLOCKED true).get PRC_MODE_UNLOCKED = 1 := State.get_flag_self _ _ _
  have heventKept : (z.flag PRC_MODE_UNLOCKED true).event 7 = z.event 7 :=
    congrArg (bit · (7 % 32)) (State.get_flag_ne z true (by decide))
  have hhopKept : (z.flag PRC_MODE_UNLOCKED true).lgy.hop = List.replicate 64 0 := hhop
  generalize z.flag PRC_MODE_UNLOCKED true = y at hexec hmodeKept hunlocked heventKept hhopKept
  refine completes_of_goOn hexec ⟨hmodeKept.trans hconc, ?_, hunlocked, rfl, hhopKept⟩
  rw [State.event_setLgy, heventKept, hevent]

/-- Settles O47: a transaction leaves the unlock matcher idle unless it is an unlock write, and the three values in time stop
the engine; the switch-over follows. -/
theorem legacyPortAndNativeUnlock : Obligations.LegacyPortAndNativeUnlock := by
  unfold Obligations.LegacyPortAndNativeUnlock
  refine ⟨fun _ _ v h hlt _ => legacySpi_writes h v hlt, fun _ _ h hlt => legacySpi_reads h hlt,
    fun _ x y h => legacySpi_readsFifo h x y, fun _ bs h hread => legacySpi_cut h bs hread, fun _ v h => legacySpi_unlock h v,
    fun _ h => unlockWrite_first h, fun _ h hstep => unlockWrite_second h hstep, fun s n h hstep hintime => ?_,
    fun _ _ h hv hwrong => unlockWrite_wrong h hv hwrong, fun _ => rfl,
    fun _ hmode hgone hair hstart => nativeSwitchover_enters hmode hgone hair hstart⟩
  have haccept : s.unlockStep 0x72 = s.lgyAccept :=
    (State.unlockStep_step2 h hstep (by decide)).trans (if_pos ⟨rfl, hintime⟩)
  exact completes_of_goOn (congrArg goOn haccept) (s.lgyAccept_stops n)

end Sys2Proof.Machine

/-! ## The dictionary service and the ownership election (O41) -/
namespace Sys2Proof.Machine

/-! How an answer leaves (R360, R370). -/

/-- `y` has the outputs of `z`, and its CAN settings. -/
def OutputsAs (z y : State) : Prop :=
  y.host.sent = z.host.sent ∧ y.host.dictOut = z.host.dictOut ∧ y.host.replies = z.host.replies ∧
    y.get HDP_CANCFG_FD_EN = z.get HDP_CANCFG_FD_EN

theorem OutputsAs.refl (z : State) : OutputsAs z z := ⟨rfl, rfl, rfl, rfl⟩

theorem OutputsAs.trans {x y z : State} (h : OutputsAs x y) (g : OutputsAs y z) : OutputsAs x z :=
  ⟨g.1.trans h.1, g.2.1.trans h.2.1, g.2.2.1.trans h.2.2.1, g.2.2.2.trans h.2.2.2⟩

/-- What touches neither the ports nor their registers leaves the outputs. -/
theorem Moves.outputs {m : Nat} {z y : State} (h : Moves m z y) (hhost : m.testBit 19 = false) (hregs : m.testBit 41 = false) :
    OutputsAs z y := by
  have heq := h.1 .host hhost
  exact ⟨congrArg HostPorts.sent heq, congrArg HostPorts.dictOut heq, congrArg HostPorts.replies heq,
    h.1 (.regs 14) hregs _ HDP_CANCFG_FD_EN_block⟩

theorem State.respond_result (y : State) (who : HostId) (opc tid : Nat) (st : OdpStatus) (body : List Byte) :
    (y.respond who opc tid st body).host.result = st ∧ (y.respond who opc tid st body).host.output = body := by
  unfold State.respond State.sendFrame
  dsimp only [State.setHost]
  split <;> exact ⟨rfl, rfl⟩

/-- An answer changes nothing of the ports but the outputs and what the last answer was. -/
theorem State.respond_kept (y : State) (who : HostId) (opc tid : Nat) (st : OdpStatus) (body : List Byte) :
    (y.respond who opc tid st body).host.owner = y.host.owner ∧ (y.respond who opc tid st body).host.alive = y.host.alive ∧
      (y.respond who opc tid st body).host.stagings = y.host.stagings ∧
      (y.respond who opc tid st body).host.snapshots = y.host.snapshots := by
  unfold State.respond State.sendFrame
  dsimp only [State.setHost]
  split <;> exact ⟨rfl, rfl, rfl, rfl⟩

/-- The answer has left on the transport of its master. -/
theorem State.told_respond {z y : State} (h : OutputsAs z y) (who : HostId) {opc : Nat} (hopc : opc < 128) (tid : Nat)
    (st : OdpStatus) (body : List Byte) : z.told (y.respond who opc tid st body) who opc tid st body = true := by
  obtain ⟨hsent, hout, hreplies, hfd⟩ := h
  obtain ⟨hresult, houtput⟩ := y.respond_result who opc tid st body
  have hon : y.on HDP_CANCFG_FD_EN = z.on HDP_CANCFG_FD_EN := congrArg (· != 0) hfd
  unfold State.told
  rw [hresult, houtput]
  unfold State.respond State.sendFrame
  rw [Nat.mod_eq_of_lt hopc]
  simp only [decide_true, beq_self_eq_true, Bool.true_and]
  obtain ⟨transport, addr⟩ := who
  match transport with
  | 0 => exact beq_of_eq (congrArg (· ++ _) hout)
  | 1 =>
    refine decide_eq_true ?_
    rw [← hsent, ← hon]
    rfl
  | 2 => exact decide_eq_true (congrArg (· ++ _) hsent)
  | 3 =>
    refine decide_eq_true ?_
    rw [← hsent]
    rfl
  | n + 4 =>
    refine decide_eq_true ?_
    rw [← hreplies]
    rfl

theorem State.odpAnswer_ok (y : State) (who : HostId) (opc tid : Nat) (body : List Byte) :
    y.odpAnswer who opc tid .ok body = y.respond who opc tid .ok body := rfl

theorem State.odpAnswer_refused (y : State) (who : HostId) (opc tid : Nat) {st : OdpStatus} (body : List Byte) (hok : st ≠ .ok)
    (hbusy : st ≠ .busy) : y.odpAnswer who opc tid st body = y.respond who opc tid st (leBytes 1 st.code ++ [0, 0, 0]) := by
  unfold State.odpAnswer
  split
  · exact absurd rfl hok
  · exact absurd rfl hbusy
  · rfl

/-! How a request reaches its service (R366, R373). -/

theorem State.of_serves {s : State} {who : HostId} {env : HostEnv} (h : s.serves who env = true) :
    s.portLive who.transport = true ∧ s.mode ≠ modeRecovery ∧ env.load < 32 := by
  unfold State.serves at h
  simpa [and_assoc] using h

theorem State.odpFrom_native {s : State} {who : HostId} {env : HostEnv} (h : s.serves who env = true) (opc tid : Nat)
    (p : List Byte) : s.odpFrom who opc tid p env =
      if 0x10 ≤ opc ∧ opc ≤ 0x14 then (s.admitted env.load).ownership who opc tid p
      else if 32 ≤ env.load then ((s.admitted env.load).raise 114).odpAnswer who opc tid .busy
      else if 1400 < p.length then (s.admitted env.load).odpAnswer who opc tid .opcode
      else (s.admitted env.load).odpServe who opc tid p (odpFrame opc tid p) env := by
  obtain ⟨hlive, hmode, -⟩ := State.of_serves h
  have hlive' : s.hostStart.portLive who.transport = true := hlive
  have hmode' : (s.hostStart.bump HDP_CNT0_ACCEPTED).mode ≠ modeRecovery := by
    rw [show (s.hostStart.bump HDP_CNT0_ACCEPTED).mode = s.mode from State.get_bump_ne _ (by decide)]
    exact hmode
  unfold State.odpFrom
  rw [if_pos hlive']
  unfold State.odpRequest
  rw [if_neg hmode']
  rfl

theorem State.odpFrom_ownership {s : State} {who : HostId} {env : HostEnv} (h : s.serves who env = true) {opc : Nat}
    (hopc : 0x10 ≤ opc ∧ opc ≤ 0x14) (tid : Nat) (p : List Byte) :
    s.odpFrom who opc tid p env = (s.admitted env.load).ownership who opc tid p :=
  (State.odpFrom_native h opc tid p).trans (if_pos hopc)

/-! The payloads of the ownership opcodes (R375). -/

theorem leAt_start (n v : Nat) (b : List Byte) : leAt (leBytes n v ++ b) 0 n = v % 256 ^ n := leAt_field [] v b rfl

theorem leAt_end (a : List Byte) {off : Nat} (n v : Nat) (hoff : a.length = off) : leAt (a ++ leBytes n v) off n = v % 256 ^ n := by
  rw [← List.append_nil (leBytes n v)]
  exact leAt_field a v [] hoff

theorem leNat_word (n : Word) : leNat (leBytes 4 n.toNat) = n.toNat := by
  rw [leNat_leBytes]
  exact Nat.mod_eq_of_lt n.isLt

theorem State.ownership_claim (z : State) (who : HostId) (tid : Nat) (pr : Fin 256) (nn : Word) :
    z.ownership who 0x10 tid (leBytes 1 pr ++ [0, 0, 0] ++ leBytes 4 nn.toNat) =
      z.claim { who := who, prio := pr.val, nonce := nn.toNat, tid := tid } := by
  have hprio : leAt (leBytes 1 pr ++ [0, 0, 0] ++ leBytes 4 nn.toNat) 0 1 = pr.val := by
    rw [List.append_assoc, leAt_start]
    exact Nat.mod_eq_of_lt pr.isLt
  have hnonce : leAt (leBytes 1 pr ++ [0, 0, 0] ++ leBytes 4 nn.toNat) 4 4 = nn.toNat :=
    (leAt_end _ 4 nn.toNat rfl).trans (Nat.mod_eq_of_lt nn.isLt)
  have hlen : (leBytes 1 pr ++ [0, 0, 0] ++ leBytes 4 nn.toNat).length = 8 := rfl
  have hzero : zeroAt (leBytes 1 pr ++ [0, 0, 0] ++ leBytes 4 nn.toNat) 1 3 = true := rfl
  generalize leBytes 1 pr ++ [0, 0, 0] ++ leBytes 4 nn.toNat = p at *
  show (if p.length ≠ 8 ∨ !zeroAt p 1 3 then z.odpAnswer who 0x10 tid .opcode else
    z.claim { who := who, prio := leAt p 0 1, nonce := leAt p 4 4, tid := tid }) = _
  rw [hprio, hnonce, hlen, hzero, if_neg (by decide)]

theorem State.ownership_keepalive (z : State) (who : HostId) (tid : Nat) (nn : Word) :
    z.ownership who 0x11 tid (leBytes 4 nn.toNat) = if z.isOwner who nn.toNat then
      (z.setHost { z.host with alive := z.clock }).odpAnswer who 0x11 tid .ok else z.odpAnswer who 0x11 tid .access := by
  have hlen : (leBytes 4 nn.toNat).length = 4 := rfl
  show (if (leBytes 4 nn.toNat).length ≠ 4 then z.odpAnswer who 0x11 tid .opcode else if z.isOwner who (leNat (leBytes 4 nn.toNat)) then
    (z.setHost { z.host with alive := z.clock }).odpAnswer who 0x11 tid .ok else z.odpAnswer who 0x11 tid .access) = _
  rw [hlen, if_neg (by decide), leNat_word]

theorem State.ownership_release (z : State) (who : HostId) (tid : Nat) (nn : Word) :
    z.ownership who 0x12 tid (leBytes 4 nn.toNat) = if z.isOwner who nn.toNat then
      (z.passOwner none).odpAnswer who 0x12 tid .ok else z.odpAnswer who 0x12 tid .access := by
  have hlen : (leBytes 4 nn.toNat).length = 4 := rfl
  show (if (leBytes 4 nn.toNat).length ≠ 4 then z.odpAnswer who 0x12 tid .opcode else if z.isOwner who (leNat (leBytes 4 nn.toNat)) then
    (z.passOwner none).odpAnswer who 0x12 tid .ok else z.odpAnswer who 0x12 tid .access) = _
  rw [hlen, if_neg (by decide), leNat_word]

/-- The payload of a HANDOVER to `next` with its nonce. -/
def handoverPayload (nn sn : Word) (next : HostId) : List Byte :=
  leBytes 4 nn.toNat ++ leBytes 1 next.transport ++ [0, 0, 0] ++ leBytes 8 next.addr ++ leBytes 4 sn.toNat

theorem leAt_handoverPayload (nn sn : Word) {next : HostId} (htransport : next.transport ≤ 4) (haddr : next.addr < 2 ^ 64) :
    leAt (handoverPayload nn sn next) 0 4 = nn.toNat ∧ leAt (handoverPayload nn sn next) 4 1 = next.transport ∧
      leAt (handoverPayload nn sn next) 8 8 = next.addr ∧ leAt (handoverPayload nn sn next) 16 4 = sn.toNat := by
  unfold handoverPayload
  refine ⟨?_, ?_, ?_, ?_⟩
  · rw [List.append_assoc, List.append_assoc, List.append_assoc, leAt_start]
    exact Nat.mod_eq_of_lt nn.isLt
  · rw [List.append_assoc, List.append_assoc, List.append_assoc]
    exact (leAt_field (leBytes 4 _) _ _ rfl).trans (Nat.mod_eq_of_lt (by omega))
  · rw [List.append_assoc]
    exact (leAt_field (leBytes 4 _ ++ leBytes 1 _ ++ [0, 0, 0]) _ _ rfl).trans (Nat.mod_eq_of_lt haddr)
  · exact (leAt_end _ 4 _ rfl).trans (Nat.mod_eq_of_lt sn.isLt)

theorem State.ownership_handover {z : State} {who next : HostId} {nn sn : Word} {c : Claim} (tid : Nat)
    (howner : z.isOwner who nn.toNat = true) (hc : z.host.owner.owner? = some c) (htransport : next.transport ≤ 4)
    (haddr : next.addr < 2 ^ 64) : z.ownership who 0x13 tid (handoverPayload nn sn next) =
      (z.setOwnership (.handover c next sn.toNat)).odpAnswer who 0x13 tid .ok := by
  obtain ⟨hnonce, htr, hadr, hsn⟩ := leAt_handoverPayload nn sn htransport haddr
  have hlen : (handoverPayload nn sn next).length = 20 := rfl
  have hzero : zeroAt (handoverPayload nn sn next) 5 3 = true := rfl
  generalize handoverPayload nn sn next = p at *
  show (if p.length ≠ 20 ∨ !zeroAt p 5 3 then z.odpAnswer who 0x13 tid .opcode
    else if !z.isOwner who (leAt p 0 4) then z.odpAnswer who 0x13 tid .access
    else if 4 < leAt p 4 1 then z.odpAnswer who 0x13 tid .range
    else match z.host.owner.owner? with
      | some c => (z.setOwnership (.handover c { transport := leAt p 4 1, addr := leAt p 8 8 } (leAt p 16 4))).odpAnswer who 0x13 tid .ok
      | none => z.odpAnswer who 0x13 tid .access) = _
  rw [hnonce, htr, hadr, hsn, hlen, hzero, if_neg (by decide), if_neg (by rw [howner]; decide), if_neg (by omega), hc]

/-! The passing of the ownership (R375). -/

/-- The ports once the ownership has passed to `c`. -/
def State.passed (s : State) (c : Option Claim) : State :=
  s.setHost { s.host with
    stagings := s.host.stagings.filter fun g => decide (some g.who ≠ s.host.owner.owner?.map Claim.who)
    alive := s.clock
    owner := match c with
      | some c => .owned c
      | none => .free }

theorem State.passOwner_eq {s : State} {c : Option Claim} (hkept : c = none → s.boot.upd.state ≠ 1 ∧ s.boot.upd.state ≠ 2) :
    s.passOwner c = (s.passed c).raise 112 := by
  have hupd : ((s.passed c).raise 112).boot = s.boot := (s.passed c).raise_boot 112
  show (if c.isNone = true ∧ (((s.passed c).raise 112).boot.upd.state = 1 ∨ ((s.passed c).raise 112).boot.upd.state = 2) then
    ((s.passed c).raise 112).updAbort else (s.passed c).raise 112) = _
  rw [hupd, if_neg]
  rintro ⟨hnone, hbusy⟩
  obtain ⟨hone, htwo⟩ := hkept (Option.isNone_iff_eq_none.mp hnone)
  exact hbusy.elim hone htwo

theorem OutputsAs.passed (s : State) (c : Option Claim) : OutputsAs s (s.passed c) := ⟨rfl, rfl, rfl, rfl⟩

theorem OutputsAs.raise (s : State) (n : Nat) : OutputsAs s (s.raise n) := (s.raise_moves n).outputs rfl rfl

theorem State.owner_raise_passed (s : State) (c : Option Claim) : ((s.passed c).raise 112).host.owner = (match c with
    | some c => .owned c
    | none => .free) := congrArg HostPorts.owner ((s.passed c).raise_host 112)

theorem State.isOwner_iff {s : State} {who : HostId} {n : Nat} (h : s.isOwner who n = true) :
    ∃ c, s.host.owner.owner? = some c ∧ c.who = who := by
  unfold State.isOwner at h
  cases hc : s.host.owner.owner? with
  | none => simp [hc] at h
  | some c =>
    simp only [hc, Option.any_some, Bool.and_eq_true, decide_eq_true_eq] at h
    exact ⟨c, rfl, h.1⟩

/-! The ownership opcodes (R375). -/

section
variable {s z : State} {m : HostId} {env : HostEnv} (h : s.serves m env = true) (hz : s.admitted env.load = z)
include h hz

theorem completes_ownership {c : Instr} {opc tid : Nat} {p : List Byte} {t : State} {P : State → Prop} (hopc : 0x10 ≤ opc ∧ opc ≤ 0x14)
    (hexec : exec c s = goOn (s.odpFrom m opc tid p env)) (hserve : z.ownership m opc tid p = t) (hP : P t) : completes c s P := by
  refine completes_of_goOn (hexec.trans (congrArg goOn (State.odpFrom_ownership h hopc tid p))) ?_
  rw [hz, hserve]
  exact hP

omit h in
theorem State.owner_of_admitted : z.host.owner = s.host.owner := by
  rw [← hz]
  rfl

theorem odpClaim_free (ti : Fin 65536) (pr : Fin 256) (nn : Word) (hfree : s.host.owner = .free) :
    completes (.odpClaim m ti pr nn env) s fun t =>
      t = z.setOwnership (.claiming { who := m, prio := pr.val, nonce := nn.toNat, tid := ti.val }) := by
  refine completes_ownership h hz (by decide) rfl (z.ownership_claim m ti pr nn) ?_
  unfold State.claim
  rw [State.owner_of_admitted hz, hfree]

/-- The better of two claims of different masters is the candidate, and the other is told so. -/
theorem odpClaim_claiming (ti : Fin 65536) (pr : Fin 256) (nn : Word) {c : Claim} (hclaiming : s.host.owner = .claiming c)
    (hne : c.who ≠ m) : completes (.odpClaim m ti pr nn env) s fun t =>
      t.host.owner = (if pr.val < c.prio ∨ (pr.val = c.prio ∧ nn.toNat < c.nonce) then
        .claiming { who := m, prio := pr.val, nonce := nn.toNat, tid := ti.val } else .claiming c) ∧
      z.told t (if pr.val < c.prio ∨ (pr.val = c.prio ∧ nn.toNat < c.nonce) then c.who else m) 16
        (if pr.val < c.prio ∨ (pr.val = c.prio ∧ nn.toNat < c.nonce) then c.tid else ti.val) .claimLost [11, 0, 0, 0] = true := by
  have howner : z.host.owner = .claiming c := (State.owner_of_admitted hz).trans hclaiming
  have hbetter : better { who := m, prio := pr.val, nonce := nn.toNat, tid := ti.val } c =
      decide (pr.val < c.prio ∨ (pr.val = c.prio ∧ nn.toNat < c.nonce)) := by
    simp [better]
  refine completes_ownership h hz (by decide) rfl (z.ownership_claim m ti pr nn) ?_
  unfold State.claim
  rw [howner]
  dsimp only
  rw [if_neg hne, hbetter]
  by_cases hwin : pr.val < c.prio ∨ (pr.val = c.prio ∧ nn.toNat < c.nonce)
  · rw [if_pos hwin, if_pos hwin, if_pos hwin, if_pos (decide_eq_true hwin),
      State.odpAnswer_refused _ _ _ _ _ (by decide) (by decide)]
    exact ⟨(State.respond_kept _ _ _ _ _ _).1, State.told_respond ⟨rfl, rfl, rfl, rfl⟩ _ (by decide) _ _ _⟩
  · rw [if_neg hwin, if_neg hwin, if_neg hwin, if_neg (by simpa using hwin),
      State.odpAnswer_refused _ _ _ _ _ (by decide) (by decide)]
    exact ⟨(State.respond_kept _ _ _ _ _ _).1.trans howner, State.told_respond (.refl z) _ (by decide) _ _ _⟩

theorem odpClaim_owned (ti : Fin 65536) (pr : Fin 256) (nn : Word) {c : Claim} (howned : s.host.owner = .owned c)
    (hne : c.who ≠ m) : completes (.odpClaim m ti pr nn env) s fun t =>
      t.host.owner = .owned c ∧ z.told t m 16 ti .claimLost [11, 0, 0, 0] = true := by
  have howner : z.host.owner = .owned c := (State.owner_of_admitted hz).trans howned
  refine completes_ownership h hz (by decide) rfl (z.ownership_claim m ti pr nn) ?_
  unfold State.claim
  rw [howner]
  dsimp only
  rw [if_neg hne, State.odpAnswer_refused _ _ _ _ _ (by decide) (by decide)]
  exact ⟨(State.respond_kept _ _ _ _ _ _).1.trans howner, State.told_respond (.refl z) _ (by decide) _ _ _⟩

theorem odpClaim_handover (ti : Fin 65536) (pr : Fin 256) (nn : Word) {c : Claim} {n : Nat} {next : HostId}
    (hhandover : s.host.owner = .handover c next n) : completes (.odpClaim m ti pr nn env) s fun t =>
      t.host.owner = (if m = next ∧ nn.toNat = n then .owned { who := m, prio := pr.val, nonce := nn.toNat, tid := ti.val }
        else .handover c next n) ∧
      t.host.result = (if m = next ∧ nn.toNat = n then .ok else .notSuccessor) ∧ (m = next → nn.toNat = n → t.event 112 = true) := by
  have howner : z.host.owner = .handover c next n := (State.owner_of_admitted hz).trans hhandover
  refine completes_ownership h hz (by decide) rfl (z.ownership_claim m ti pr nn) ?_
  unfold State.claim
  rw [howner]
  dsimp only
  by_cases hnext : m = next ∧ nn.toNat = n
  · rw [if_pos hnext, if_pos hnext, if_pos hnext, State.odpAnswer_ok, State.passOwner_eq fun hnone => absurd hnone (by simp)]
    exact ⟨(State.respond_kept _ _ _ _ _ _).1.trans (z.owner_raise_passed _), (State.respond_result _ _ _ _ _ _).1,
      fun _ _ => State.event_raise _ 112⟩
  · rw [if_neg hnext, if_neg hnext, if_neg hnext, State.odpAnswer_refused _ _ _ _ _ (by decide) (by decide)]
    exact ⟨(State.respond_kept _ _ _ _ _ _).1.trans howner, (State.respond_result _ _ _ _ _ _).1,
      fun hm hn => absurd ⟨hm, hn⟩ hnext⟩

omit h in
theorem State.isOwner_of_admitted (who : HostId) (n : Nat) : z.isOwner who n = s.isOwner who n := by
  unfold State.isOwner
  rw [State.owner_of_admitted hz]

theorem odpKeepalive_renews (ti : Fin 65536) (nn : Word) : completes (.odpKeepalive m ti nn env) s fun t =>
    z.told t m 17 ti (if s.isOwner m nn.toNat = true then .ok else .access) [if s.isOwner m nn.toNat = true then 0 else 3, 0, 0, 0] = true ∧
      (s.isOwner m nn.toNat = true → t.host.alive = s.clock) ∧ t.host.owner = s.host.owner := by
  have howner := State.owner_of_admitted hz
  have hclock : z.clock = s.clock := hz ▸ rfl
  refine completes_ownership h hz (by decide) rfl (z.ownership_keepalive m ti nn) ?_
  rw [State.isOwner_of_admitted hz]
  by_cases hown : s.isOwner m nn.toNat = true
  · rw [if_pos hown, if_pos hown, if_pos hown, State.odpAnswer_ok]
    exact ⟨State.told_respond ⟨rfl, rfl, rfl, rfl⟩ _ (by decide) _ _ _,
      fun _ => (State.respond_kept _ _ _ _ _ _).2.1.trans hclock, (State.respond_kept _ _ _ _ _ _).1.trans howner⟩
  · rw [if_neg hown, if_neg hown, if_neg hown, State.odpAnswer_refused _ _ _ _ _ (by decide) (by decide)]
    exact ⟨State.told_respond (.refl z) _ (by decide) _ _ _, fun hyes => absurd hyes hown,
      (State.respond_kept _ _ _ _ _ _).1.trans howner⟩

theorem odpRelease_frees (ti : Fin 65536) (nn : Word) (hown : s.isOwner m nn.toNat = true) (hone : s.boot.upd.state ≠ 1)
    (htwo : s.boot.upd.state ≠ 2) : completes (.odpRelease m ti nn env) s fun t =>
      t.host.owner = .free ∧ t.event 112 = true ∧ z.told t m 18 ti .ok [0, 0, 0, 0] = true ∧
        ((∀ x ∈ s.host.stagings, x.who = m) → t.host.stagings = []) := by
  have hboot : z.boot = s.boot := hz ▸ rfl
  refine completes_ownership h hz (by decide) rfl (z.ownership_release m ti nn) ?_
  rw [State.isOwner_of_admitted hz, if_pos hown, State.odpAnswer_ok, State.passOwner_eq fun _ => by rw [hboot]; exact ⟨hone, htwo⟩]
  obtain ⟨howner, -, hstagings, -⟩ := ((z.passed none).raise 112).respond_kept m 18 ti .ok okBody
  refine ⟨howner.trans (z.owner_raise_passed none), State.event_raise _ 112,
    State.told_respond ((OutputsAs.passed z none).trans (.raise _ 112)) _ (by decide) _ _ _, fun hall => hstagings.trans ?_⟩
  obtain ⟨c, hc, hwho⟩ := State.isOwner_iff ((State.isOwner_of_admitted hz m nn.toNat).trans hown)
  have hpassed : ((z.passed none).raise 112).host.stagings = z.host.stagings.filter fun g => decide (some g.who ≠ z.host.owner.owner?.map Claim.who) :=
    congrArg HostPorts.stagings ((z.passed none).raise_host 112)
  rw [hpassed, hc, List.filter_eq_nil_iff]
  intro x hx
  have hx' : x ∈ s.host.stagings := by
    rw [← hz] at hx
    exact hx
  rw [hall x hx', ← hwho]
  simp

theorem odpRelease_refused (ti : Fin 65536) (nn : Word) (hown : s.isOwner m nn.toNat = false) :
    completes (.odpRelease m ti nn env) s fun t => t.host.owner = s.host.owner ∧ z.told t m 18 ti .access [3, 0, 0, 0] = true := by
  refine completes_ownership h hz (by decide) rfl (z.ownership_release m ti nn) ?_
  rw [State.isOwner_of_admitted hz, hown, if_neg (by decide), State.odpAnswer_refused _ _ _ _ _ (by decide) (by decide)]
  exact ⟨(State.respond_kept _ _ _ _ _ _).1.trans (State.owner_of_admitted hz), State.told_respond (.refl z) _ (by decide) _ _ _⟩

theorem odpHandover_names (ti : Fin 65536) (nn sn : Word) {next : HostId} {c : Claim} (hown : s.isOwner m nn.toNat = true)
    (hc : s.host.owner.owner? = some c) (htransport : next.transport ≤ 4) (haddr : next.addr < 2 ^ 64) :
    completes (.odpHandover m ti nn next sn env) s fun t =>
      t.host.owner = .handover c next sn.toNat ∧ z.told t m 19 ti .ok [0, 0, 0, 0] = true := by
  have hserve := State.ownership_handover (z := z) (sn := sn) ti ((State.isOwner_of_admitted hz m nn.toNat).trans hown)
    ((congrArg Ownership.owner? (State.owner_of_admitted hz)).trans hc) htransport haddr
  refine completes_ownership h hz (by decide) rfl hserve ?_
  rw [State.odpAnswer_ok]
  exact ⟨(State.respond_kept _ _ _ _ _ _).1, State.told_respond ⟨rfl, rfl, rfl, rfl⟩ _ (by decide) _ _ _⟩

theorem odpOwner_answers (ti : Fin 65536) : completes (.odpOwner m ti env) s fun t =>
    z.told t m 20 ti .ok z.ownerBody = true ∧ t.host.owner = s.host.owner := by
  refine completes_ownership h hz (by decide) rfl (rfl : _ = z.respond m 20 ti .ok z.ownerBody) ?_
  exact ⟨State.told_respond (.refl z) _ (by decide) _ _ _, (State.respond_kept _ _ _ _ _ _).1.trans (State.owner_of_admitted hz)⟩
end

/-! The election in time (R375). -/

theorem claimWindowClose_elects {s : State} {c : Claim} (hclaiming : s.host.owner = .claiming c) :
    completes .claimWindowClose s fun t => t.host.owner = .owned c ∧ t.host.alive = s.clock ∧ t.event 112 = true ∧
      s.hostStart.told t c.who 16 c.tid .ok [0, 0, 0, 0] = true := by
  have hexec : exec .claimWindowClose s = goOn (((s.hostStart.passed (some c)).raise 112).respond c.who 16 c.tid .ok okBody) := by
    show execClaimWindowClose s = _
    unfold execClaimWindowClose
    extract_lets z
    rw [show z.host.owner = .claiming c from hclaiming, ← State.passOwner_eq fun hnone => absurd hnone (by simp)]
    rfl
  obtain ⟨howner, halive, -⟩ := ((s.hostStart.passed (some c)).raise 112).respond_kept c.who 16 c.tid .ok okBody
  refine completes_of_goOn hexec ⟨howner.trans (s.hostStart.owner_raise_passed _), halive.trans ?_, State.event_raise _ 112,
    State.told_respond ((OutputsAs.passed s.hostStart _).trans (.raise _ 112)) _ (by decide) _ _ _⟩
  exact congrArg HostPorts.alive ((s.hostStart.passed (some c)).raise_host 112)

theorem ownerLost_frees {s : State} (howned : s.host.owner.owner?.isSome = true) (hone : s.boot.upd.state ≠ 1)
    (htwo : s.boot.upd.state ≠ 2) : completes .ownerLost s fun t => t.host.owner = .free ∧ t.event 113 = true ∧ t.event 112 = true := by
  have hupd : (s.raise 113).boot = s.boot := s.raise_boot 113
  have hexec : exec .ownerLost s = goOn (((s.raise 113).passed none).raise 112) := by
    rw [← State.passOwner_eq fun _ => by rw [hupd]; exact ⟨hone, htwo⟩]
    exact congrArg goOn (if_pos howned)
  refine completes_of_goOn hexec ⟨(s.raise 113).owner_raise_passed none, ?_, State.event_raise _ 112⟩
  exact State.event_raise_of_event _ 112 (show ((s.raise 113).passed none).event 113 = true from s.event_raise 113)

theorem handoverTimeout_keeps {s : State} {c : Claim} {next : HostId} {n : Nat} (hhandover : s.host.owner = .handover c next n) :
    exec .handoverTimeout s = .next ({ s with host := { s.host with owner := .owned c } }) := by
  show execHandoverTimeout s = _
  unfold execHandoverTimeout
  rw [hhandover]
  rfl

/-- Settles O41. What log entry 70 leaves to the model is its choice: nothing of it answers a claim of the owner here, and
OWNER reads its view as the port register shows it; so are the open answers of log entry 116, ACCESS to a KEEPALIVE without
ownership and a new successor by a second HANDOVER. -/
theorem ownershipElection : Obligations.OwnershipElection := by
  unfold Obligations.OwnershipElection
  exact ⟨fun _ _ _ ti _ pr nn h hz hfree => odpClaim_free h hz ti pr nn hfree,
    fun _ _ _ ti _ pr nn _ h hz hclaiming hne => odpClaim_claiming h hz ti pr nn hclaiming hne,
    fun _ _ _ ti _ pr nn _ h hz howned hne => odpClaim_owned h hz ti pr nn howned hne,
    fun _ _ _ ti _ pr nn _ _ _ h hz hhandover => odpClaim_handover h hz ti pr nn hhandover,
    fun _ _ hclaiming => claimWindowClose_elects hclaiming, fun _ _ _ ti _ nn h hz => odpKeepalive_renews h hz ti nn,
    fun _ _ _ ti _ nn h hz hown hone htwo => odpRelease_frees h hz ti nn hown hone htwo,
    fun _ _ _ ti _ nn h hz hown => odpRelease_refused h hz ti nn hown,
    fun _ _ _ ti _ nn sn _ _ h hz hown hc htransport haddr => odpHandover_names h hz ti nn sn hown hc htransport haddr,
    fun _ _ _ ti _ h hz => odpOwner_answers h hz ti, fun _ howned hone htwo => ownerLost_frees howned hone htwo,
    fun _ _ _ _ hhandover => handoverTimeout_keeps hhandover⟩

end Sys2Proof.Machine

/-! ## Supply, clock and watchdog supervision (O51) -/
namespace Sys2Proof.Machine

/-! What an event and an INFO entry leave of the registers. -/

/-- A field that no event, wake condition or log entry writes. -/
structure RegField.Aside (f : RegField) : Prop where
  offWake : f.offWake
  notRouter : f.key / 0x200000 ≠ 0x400B
  notLog : f.key / 0x200000 ≠ 0x4012

/-- From `s` to `t` such fields and the reset requests stay, and no event is lost. -/
structure Supervised (s t : State) : Prop where
  get : ∀ f : RegField, f.Aside → t.get f = s.get f
  event : ∀ n, s.event n = true → t.event n = true
  resetReq : t.power.resetReq = s.power.resetReq

theorem Supervised.trans {r s t : State} (h : Supervised r s) (g : Supervised s t) : Supervised r t :=
  ⟨fun f hf => (g.get f hf).trans (h.get f hf), fun n hn => g.event n (h.event n hn), g.resetReq.trans h.resetReq⟩

theorem State.raise_supervised (s : State) (n : Nat) : Supervised s (s.raise n) := by
  refine ⟨fun f hf => ?_, fun k hk => State.event_raise_of_event s n hk, s.raise_resetReq n⟩
  rw [State.get_raise s n hf.offWake, State.get_put_ne]
  intro hkey
  exact hf.notRouter ((congrArg (· / 0x200000) hkey).trans (EVR_ESTAT_STAT_block _))

theorem State.logEntry_supervised (s : State) (e : FaultEntry) : Supervised s (s.logEntry e) := by
  refine ⟨fun f hf => ?_, (s.logEntry_steady e).event, s.resetReq_logEntry e⟩
  unfold State.logEntry
  extract_lets entry es
  split
  · rfl
  split
  · rfl
  · rw [(State.raise_supervised _ 11).get f hf, State.bump, State.get_put_ne _ _ fun hkey => hf.notLog (congrArg (· / 0x200000) hkey),
      State.get_flag_ne _ _ fun hkey => hf.notLog (congrArg (· / 0x200000) hkey)]

theorem State.prcInfo_supervised (s : State) (code : Nat) : Supervised s (s.prcInfo code) := s.logEntry_supervised _

theorem State.event_flag {f : RegField} (s : State) (b : Bool) (n : Nat) (hf : f.key / 0x200000 ≠ 0x400B) :
    (s.flag f b).event n = s.event n := by
  unfold State.event
  rw [State.get_flag_ne]
  intro hkey
  exact hf ((congrArg (· / 0x200000) hkey).symm.trans (EVR_ESTAT_STAT_block _))

theorem State.requestReset_get (s : State) (code : Nat) (f : RegField) : (s.requestReset code).get f = s.get f := by
  unfold State.requestReset
  split <;> rfl

theorem State.event_requestReset (s : State) (code n : Nat) : (s.requestReset code).event n = s.event n :=
  congrArg (bit · (n % 32)) (s.requestReset_get code _)

theorem PRC_STATUS_VSUP_LOW_aside : PRC_STATUS_VSUP_LOW.Aside := ⟨⟨by decide, by decide, by decide⟩, by decide, by decide⟩
theorem PRC_SUPMEAS_VSUP_aside : PRC_SUPMEAS_VSUP.Aside := ⟨⟨by decide, by decide, by decide⟩, by decide, by decide⟩
theorem PRC_SUPMEAS_DEV_LAST_aside : PRC_SUPMEAS_DEV_LAST.Aside := ⟨⟨by decide, by decide, by decide⟩, by decide, by decide⟩
theorem PRC_STATUS_THERM_HOT_aside : PRC_STATUS_THERM_HOT.Aside := ⟨⟨by decide, by decide, by decide⟩, by decide, by decide⟩
theorem PRC_STATUS_CLK_DEV_aside : PRC_STATUS_CLK_DEV.Aside := ⟨⟨by decide, by decide, by decide⟩, by decide, by decide⟩
theorem PRC_STATUS_REF_OK_aside : PRC_STATUS_REF_OK.Aside := ⟨⟨by decide, by decide, by decide⟩, by decide, by decide⟩
theorem RFC_TEMP_TEMP_aside : RFC_TEMP_TEMP.Aside := ⟨⟨by decide, by decide, by decide⟩, by decide, by decide⟩

/-! The supply (R456). -/

theorem State.on_of_get_zero {s : State} {f : RegField} (h : s.get f = 0) : s.on f = false := by
  unfold State.on
  rw [h]
  rfl

theorem State.on_of_get_one {s : State} {f : RegField} (h : s.get f = 1) : s.on f = true := by
  unfold State.on
  rw [h]
  rfl

theorem State.on_of_get_ne_zero {s : State} {f : RegField} (h : s.get f ≠ 0) : s.on f = true := by
  unfold State.on
  simpa using h

/-- The supply warning after a sample of `mv`. -/
def State.supplyJudged (s : State) (mv : Nat) : State :=
  if mv < 1800 + 100 * s.get PRC_SUPCFG_WARN ∧ !s.on PRC_STATUS_VSUP_LOW then ((s.flag PRC_STATUS_VSUP_LOW true).raise 2).prcInfo 0x11
  else if 1800 + 100 * s.get PRC_SUPCFG_WARN + 50 ≤ mv then s.flag PRC_STATUS_VSUP_LOW false
  else s

/-- The warning at its level, its end 50 mV above it, and what a judgement leaves. -/
theorem State.supplyJudged_effect (s : State) (mv : Nat) : (s.supplyJudged mv).get PRC_SUPMEAS_VSUP = s.get PRC_SUPMEAS_VSUP ∧
    (s.supplyJudged mv).get PRC_STATUS_VSUP_LOW % 2 = (if mv < 1800 + 100 * s.get PRC_SUPCFG_WARN then
        (if s.get PRC_STATUS_VSUP_LOW = 0 then 1 else s.get PRC_STATUS_VSUP_LOW % 2)
      else if 1850 + 100 * s.get PRC_SUPCFG_WARN ≤ mv then 0 else s.get PRC_STATUS_VSUP_LOW % 2) ∧
    (mv < 1800 + 100 * s.get PRC_SUPCFG_WARN → s.get PRC_STATUS_VSUP_LOW = 0 → (s.supplyJudged mv).event 2 = true) ∧
    (s.supplyJudged mv).power.resetReq = s.power.resetReq := by
  unfold State.supplyJudged
  by_cases hlow : mv < 1800 + 100 * s.get PRC_SUPCFG_WARN
  · rw [if_pos hlow]
    by_cases hwarned : s.get PRC_STATUS_VSUP_LOW = 0
    · have hsup : Supervised (s.flag PRC_STATUS_VSUP_LOW true) (((s.flag PRC_STATUS_VSUP_LOW true).raise 2).prcInfo 0x11) :=
        (State.raise_supervised _ 2).trans (State.prcInfo_supervised _ 0x11)
      rw [if_pos ⟨hlow, by rw [State.on_of_get_zero hwarned]; rfl⟩, if_pos hwarned, hsup.get _ PRC_SUPMEAS_VSUP_aside,
        hsup.get _ PRC_STATUS_VSUP_LOW_aside, State.get_flag_bit _ _ rfl, State.get_flag_ne _ _ (by decide)]
      exact ⟨rfl, rfl, fun _ _ => (State.prcInfo_supervised _ 0x11).event 2 (State.event_raise _ 2), hsup.resetReq⟩
    · rw [if_neg (by rw [State.on_of_get_ne_zero hwarned]; simp), if_neg (by omega), if_neg hwarned]
      exact ⟨rfl, rfl, fun _ hzero => absurd hzero hwarned, rfl⟩
  · rw [if_neg hlow, if_neg fun h => hlow h.1]
    by_cases hover : 1850 + 100 * s.get PRC_SUPCFG_WARN ≤ mv
    · rw [if_pos hover, if_pos (by omega), State.get_flag_bit _ _ rfl, State.get_flag_ne _ _ (by decide)]
      exact ⟨rfl, rfl, fun h => absurd h hlow, rfl⟩
    · rw [if_neg hover, if_neg (by omega)]
      exact ⟨rfl, rfl, fun h => absurd h hlow, rfl⟩

theorem State.sampling_of_run {s : State} (hstandby : s.power.state ≠ .standby) (hoff : s.power.state ≠ .off) : s.sampling = true := by
  unfold State.sampling
  simp [hstandby, hoff]

theorem vsupSample_judges {s : State} (mv : Fin 4096) (hstandby : s.power.state ≠ .standby) (hoff : s.power.state ≠ .off) :
    completes (.vsupSample mv) s fun t => t.get PRC_SUPMEAS_VSUP = mv.val ∧
      t.get PRC_STATUS_VSUP_LOW % 2 = (if mv.val < 1800 + 100 * s.get PRC_SUPCFG_WARN then
          (if s.get PRC_STATUS_VSUP_LOW = 0 then 1 else s.get PRC_STATUS_VSUP_LOW % 2)
        else if 1850 + 100 * s.get PRC_SUPCFG_WARN ≤ mv.val then 0 else s.get PRC_STATUS_VSUP_LOW % 2) ∧
      (mv.val < 1800 + 100 * s.get PRC_SUPCFG_WARN → s.get PRC_STATUS_VSUP_LOW = 0 → t.event 2 = true) ∧
      (mv.val < 1640 → t.power.resetReq.contains 2 = true) ∧ (1640 ≤ mv.val → t.power.resetReq = s.power.resetReq) := by
  have hexec : exec (.vsupSample mv) s = goOn (if mv.val < 1640 then ((s.put PRC_SUPMEAS_VSUP mv).supplyJudged mv).requestReset 0x02
      else (s.put PRC_SUPMEAS_VSUP mv).supplyJudged mv) := by
    show execVsupSample mv s = _
    unfold execVsupSample
    rw [if_neg (by rw [State.sampling_of_run hstandby hoff]; decide)]
    rfl
  obtain ⟨hmeas, hlow, hevent, hreq⟩ := (s.put PRC_SUPMEAS_VSUP mv).supplyJudged_effect mv
  rw [State.get_put_ne _ _ (by decide), State.get_put_ne _ _ (by decide)] at hlow hevent
  replace hmeas := hmeas.trans ((State.get_put_self _ _ _).trans (Nat.mod_eq_of_lt mv.isLt))
  refine completes_of_goOn hexec ?_
  generalize (s.put PRC_SUPMEAS_VSUP mv).supplyJudged mv = z at *
  by_cases hbrown : mv.val < 1640
  · rw [if_pos hbrown, State.requestReset_get, State.requestReset_get, State.event_requestReset]
    exact ⟨hmeas, hlow, hevent, fun _ => State.requestReset_contains z 2, fun h => absurd hbrown (by omega)⟩
  · rw [if_neg hbrown]
    exact ⟨hmeas, hlow, hevent, fun h => absurd h hbrown, fun _ => hreq⟩

/-! Temperature and clock (R457 to R459). -/

theorem thermalWarn_warns {s : State} {x : Int} (hover : 4 * (s.get PRC_SUPCFG_THERM : Int) < x) (hcold : s.get PRC_STATUS_THERM_HOT = 0) :
    completes (.thermalWarn x) s fun t => t.get PRC_STATUS_THERM_HOT = 1 ∧ t.event 6 = true ∧
      t.get RFC_TEMP_TEMP = unsigned 12 x % 2 ^ 12 := by
  have htherm : (s.put RFC_TEMP_TEMP (unsigned 12 x)).get PRC_SUPCFG_THERM = s.get PRC_SUPCFG_THERM := State.get_put_ne _ _ (by decide)
  have hhot : (s.put RFC_TEMP_TEMP (unsigned 12 x)).get PRC_STATUS_THERM_HOT = 0 := (State.get_put_ne _ _ (by decide)).trans hcold
  have htemp : (s.put RFC_TEMP_TEMP (unsigned 12 x)).get RFC_TEMP_TEMP = unsigned 12 x % 2 ^ 12 := State.get_put_self _ _ _
  have hexec : exec (.thermalWarn x) s =
      goOn ((((s.put RFC_TEMP_TEMP (unsigned 12 x)).flag PRC_STATUS_THERM_HOT true).raise 6).prcInfo 0x12) := by
    show execThermalWarn x s = _
    unfold execThermalWarn
    exact if_pos ⟨by rw [htherm]; exact hover, by rw [State.on_of_get_zero hhot]; rfl⟩
  generalize s.put RFC_TEMP_TEMP (unsigned 12 x) = z at *
  have hsup := (State.raise_supervised (z.flag PRC_STATUS_THERM_HOT true) 6).trans (State.prcInfo_supervised _ 0x12)
  refine completes_of_goOn hexec ⟨?_, (State.prcInfo_supervised _ 0x12).event 6 (State.event_raise _ 6), ?_⟩
  · rw [hsup.get _ PRC_STATUS_THERM_HOT_aside]
    exact State.get_flag_bit _ _ rfl
  · rw [hsup.get _ RFC_TEMP_TEMP_aside, State.get_flag_ne _ _ (by decide), htemp]

theorem thermHotClear_clears {s : State} {x : Int} (hbelow : x ≤ 4 * (s.get PRC_SUPCFG_THERM : Int) - 20) :
    completes (.thermHotClear x) s fun t => t.get PRC_STATUS_THERM_HOT = 0 ∧ t.get RFC_TEMP_TEMP = unsigned 12 x % 2 ^ 12 := by
  have htherm : (s.put RFC_TEMP_TEMP (unsigned 12 x)).get PRC_SUPCFG_THERM = s.get PRC_SUPCFG_THERM := State.get_put_ne _ _ (by decide)
  have hexec : exec (.thermHotClear x) s = goOn ((s.put RFC_TEMP_TEMP (unsigned 12 x)).flag PRC_STATUS_THERM_HOT false) := by
    show execThermHotClear x s = _
    unfold execThermHotClear
    exact if_pos (by rw [htherm]; exact hbelow)
  refine completes_of_goOn hexec ⟨State.get_flag_bit _ _ rfl, ?_⟩
  rw [State.get_flag_ne _ _ (by decide), State.get_put_self]
  rfl

/-- DEV_LAST as a count of reference cycles leaves it. -/
def State.deviated (s : State) (n : Nat) : State :=
  s.put PRC_SUPMEAS_DEV_LAST (unsigned 16 (Int.tdiv (10 * ((n : Int) - 4800000)) 48))

theorem clkDeviate_judges {s : State} {n d : Nat} (hstate : s.power.state = .run ∨ s.power.state = .doze ∨ s.power.state = .sleep)
    (hd : d = (10 * ((n : Int) - 4800000)).natAbs) : completes (.clkDeviate n) s fun t =>
      (s.get PRC_SUPCFG_DEV * 480 < d → t.get PRC_STATUS_CLK_DEV = 1 ∧ t.event 3 = true) ∧
      (d ≤ s.get PRC_SUPCFG_DEV * 480 → t.get PRC_STATUS_CLK_DEV = s.get PRC_STATUS_CLK_DEV) ∧
      (n = 4800480 → t.get PRC_SUPMEAS_DEV_LAST = 100) := by
  have hdev : (s.deviated n).get PRC_SUPCFG_DEV = s.get PRC_SUPCFG_DEV := State.get_put_ne _ _ (by decide)
  have hkept : (s.deviated n).get PRC_STATUS_CLK_DEV = s.get PRC_STATUS_CLK_DEV := State.get_put_ne _ _ (by decide)
  have hlast : n = 4800480 → (s.deviated n).get PRC_SUPMEAS_DEV_LAST = 100 := fun hn => by
    subst hn
    exact State.get_put_self _ _ _
  have hexec : exec (.clkDeviate n) s = (if (s.deviated n).get PRC_SUPCFG_DEV * 480 < (10 * ((n : Int) - 4800000)).natAbs then
      goOn ((((s.deviated n).raise 3).flag PRC_STATUS_CLK_DEV true).prcInfo 0x10) else goOn (s.deviated n)) := by
    show execClkDeviate n s = _
    unfold execClkDeviate
    rw [if_neg (by rcases hstate with h | h | h <;> rw [h] <;> decide)]
    rfl
  rw [hdev, ← hd] at hexec
  generalize s.deviated n = z at *
  by_cases hover : s.get PRC_SUPCFG_DEV * 480 < d
  · rw [if_pos hover] at hexec
    have hinfo := State.prcInfo_supervised ((z.raise 3).flag PRC_STATUS_CLK_DEV true) 0x10
    refine completes_of_goOn hexec ⟨fun _ => ⟨?_, hinfo.event 3 ?_⟩, fun h => absurd hover (by omega), fun hn => ?_⟩
    · rw [hinfo.get _ PRC_STATUS_CLK_DEV_aside]
      exact State.get_flag_bit _ _ rfl
    · rw [State.event_flag _ _ _ (by decide)]
      exact State.event_raise z 3
    · rw [hinfo.get _ PRC_SUPMEAS_DEV_LAST_aside, State.get_flag_ne _ _ (by decide),
        (State.raise_supervised z 3).get _ PRC_SUPMEAS_DEV_LAST_aside, hlast hn]
  · rw [if_neg hover] at hexec
    exact completes_of_goOn hexec ⟨fun h => absurd h hover, fun _ => hkept, hlast⟩

theorem State.endTx_radio (s : State) (u : TxUnit) (status : Nat) : (s.endTx u status).radio = s.radio :=
  (s.endTx_moves u status).1 .radio rfl

/-- A transmission that is cut leaves the transmit window closed. -/
theorem State.txCut_window {s : State} {u : TxUnit} (hair : s.airUnit = some u) (hwait : u.phase ≠ .ackWait) :
    s.txCut.radio.txWindow = false := by
  unfold State.txCut
  rw [hair]
  dsimp only
  rw [if_neg hwait, State.endTx_radio]

theorem clockFail_stops {s : State} (hok : s.get PRC_STATUS_REF_FAIL = 0) (hstandby : s.power.state ≠ .standby)
    (hoff : s.power.state ≠ .off) : completes .clockFail s fun t => t.power.resetReq.contains 9 = true ∧
      (∀ u ∈ s.airUnit.toList, u.phase ≠ .ackWait → t.radio.txWindow = false) := by
  have hexec : exec .clockFail s = goOn (s.txCut.requestReset 0x09) :=
    if_neg (by rw [State.on_of_get_zero hok, State.sampling_of_run hstandby hoff]; decide)
  refine completes_of_goOn hexec ⟨State.requestReset_contains _ 9, fun u hu hwait => ?_⟩
  rw [(s.txCut.requestReset_moves 9).1 .radio rfl]
  exact State.txCut_window (Option.mem_toList.mp hu) hwait

theorem refOk_sets {s : State} (hfail : s.get PRC_STATUS_REF_FAIL = 1) (hnot : s.get PRC_STATUS_REF_OK = 0) :
    completes .refOk s fun t => t.get PRC_STATUS_REF_OK = 1 ∧ t.event 3 = true := by
  have hexec : exec .refOk s = goOn (((s.flag PRC_STATUS_REF_OK true).raise 3).prcInfo 0x13) :=
    if_pos (by rw [State.on_of_get_one hfail, State.on_of_get_zero hnot]; decide)
  have hsup := (State.raise_supervised (s.flag PRC_STATUS_REF_OK true) 3).trans (State.prcInfo_supervised _ 0x13)
  refine completes_of_goOn hexec ⟨?_, (State.prcInfo_supervised _ 0x13).event 3 (State.event_raise _ 3)⟩
  rw [hsup.get _ PRC_STATUS_REF_OK_aside]
  exact State.get_flag_bit _ _ rfl

/-! The loss of the backup domain (R234). -/

theorem State.byte_setTagBlock_beyond (s : State) {b : Nat} (v : Nat) {k : Nat} (hb : b < 2048) (hk : tagAddr 2048 ≤ k) :
    (s.setTagBlock b v).byte k = s.byte k :=
  State.byte_setNum_ne _ _ _ _ (by unfold tagAddr at *; omega)

theorem State.byte_tagTorn_beyond (s : State) {b k : Nat} (hb : b < 2048) (hk : tagAddr 2048 ≤ k) : (s.tagTorn b).byte k = s.byte k :=
  State.byte_setTagBlock_beyond _ _ hb hk

/-- A write that is cut as it clears COMMIT: it has ended, or COMMIT is torn. -/
def State.tagEndCut (s : State) : State :=
  if Config.freeValue s.free % 2 = 0 then { s with free := s.free + 1 } else ({ s with free := s.free + 1 }).tagTorn 2041

theorem State.byte_tagEndCut_beyond (s : State) {k : Nat} (hk : tagAddr 2048 ≤ k) : s.tagEndCut.byte k = s.byte k := by
  unfold State.tagEndCut
  split
  · rfl
  · exact State.byte_tagTorn_beyond _ (by decide) hk

theorem State.tagTear_zero (s : State) (w : TagWrite) : s.tagTear w 0 =
    (((s.setTagBlock 2040 w.data).setTagBlock 2041 (commitOf w.block w.data)).setTagBlock w.block w.data).tagEndCut := rfl

/-- A torn write leaves everything beyond the tag's memory. -/
theorem State.byte_tagTear_beyond (s : State) {w : TagWrite} (hw : w.block < 2048) {k : Nat} (hk : tagAddr 2048 ≤ k) :
    (s.tagTear w 0).byte k = s.byte k := by
  rw [State.tagTear_zero, State.byte_tagEndCut_beyond _ hk, State.byte_setTagBlock_beyond _ _ hw hk,
    State.byte_setTagBlock_beyond _ _ (by decide) hk, State.byte_setTagBlock_beyond _ _ (by decide) hk]

theorem State.byte_tagDown_beyond {s : State} (hw : ∀ w ∈ s.tag.write.toList, w.block < 2048) {k : Nat} (hk : tagAddr 2048 ≤ k) :
    (s.tagDown 0).byte k = s.byte k := by
  unfold State.tagDown
  cases hwrite : s.tag.write with
  | none => rfl
  | some w => exact s.byte_tagTear_beyond (hw w (by rw [hwrite]; exact List.mem_singleton_self w)) hk

/-- The tag's island after the loss of the supplies. -/
def State.tagUnpowered (s : State) : State := if s.tag.field then s else s.tagDown 0

theorem State.get_tagUnpowered (s : State) {f : RegField} (hf : f.inBlock 9) : s.tagUnpowered.get f = s.get f := by
  unfold State.tagUnpowered
  split
  · rfl
  · exact (s.tagDown_moves 0).get_eq hf (by decide) rfl

theorem State.byte_tagUnpowered {s : State} (hw : ∀ w ∈ s.tag.write.toList, w.block < 2048) {k : Nat} (hk : tagAddr 2048 ≤ k) :
    s.tagUnpowered.byte k = s.byte k := by
  unfold State.tagUnpowered
  split
  · rfl
  · exact State.byte_tagDown_beyond hw hk

theorem backupDomainLost_loses {s : State} (hw : ∀ w ∈ s.tag.write.toList, w.block < 2048) : completes .backupDomainLost s fun t =>
    t.power.state = .off ∧ t.power.supply = false ∧ t.power.tnetRuns = false ∧ t.rtc.oscRuns = false ∧
      t.get RTC_YEAR_YEAR = RTC_YEAR_YEAR.reset % 4096 ∧ (∀ k : Fin 64, t.byte (backupRam + k.val) = 0) := by
  have hyear : s.backupReset.tagUnpowered.get RTC_YEAR_YEAR = RTC_YEAR_YEAR.reset :=
    (State.get_tagUnpowered _ RTC_YEAR_YEAR_block).trans (s.get_backupReset (by decide) (by decide))
  have hram : ∀ k : Fin 64, s.backupReset.tagUnpowered.byte (backupRam + k) = 0 := fun k =>
    (State.byte_tagUnpowered (s := s.backupReset) hw (by unfold tagAddr backupRam; omega)).trans (State.backupRam_zeroBytes _ k)
  have hexec : exec .backupDomainLost s = goOn ((s.backupReset.tagUnpowered.setRtc { s.backupReset.tagUnpowered.rtc with oscRuns := false }).setPower
      { s.backupReset.tagUnpowered.power with state := .off, supply := false, tnetRuns := false }) := rfl
  generalize s.backupReset.tagUnpowered = z at *
  exact completes_of_goOn hexec ⟨rfl, rfl, rfl, rfl, hyear, hram⟩

/-! The watchdogs (R460). -/

theorem State.setWdt_wdt (s : State) (n : Nat) (w : Watchdog) : (s.setWdt n w).wdt n = w := by
  unfold State.setWdt State.wdt
  split <;> rfl

theorem State.get_setWdt (s : State) (n : Nat) (w : Watchdog) (f : RegField) : (s.setWdt n w).get f = s.get f := rfl

theorem State.resetReq_setWdt (s : State) (n : Nat) (w : Watchdog) : (s.setWdt n w).power.resetReq = s.power.resetReq := by
  unfold State.setWdt
  split <;> rfl

theorem State.wdt_requestReset (s : State) (code n : Nat) : (s.requestReset code).wdt n = s.wdt n := by
  unfold State.requestReset
  split <;> rfl

theorem State.wdtExpire_requests (s : State) (c1 : Bool) :
    (s.wdtExpire (ofBool c1)).power.resetReq.contains (if c1 = true then 5 else 4) = true := by
  cases c1
  · exact State.requestReset_contains s 4
  · exact State.requestReset_contains s 5

theorem watchdogEnable_starts {s : State} {c1 : Bool} (hoff : s.get (PRC_WDT_CFG_EN (ofBool c1)) = 0) :
    completes (.watchdogEnable c1) s fun t => t.get (PRC_WDT_CFG_EN (ofBool c1)) = 1 ∧
      t.get (PRC_WDT_STAT_REMAIN (ofBool c1)) = s.get (PRC_WDT_CFG_TIMEOUT (ofBool c1)) % 2 ^ 16 ∧
      t.get (PRC_WDT_STAT_RUNNING (ofBool c1)) = 1 ∧ t.get (PRC_WDT_CFG_EN (ofBool !c1)) = s.get (PRC_WDT_CFG_EN (ofBool !c1)) := by
  have hexec : exec (.watchdogEnable c1) s = goOn (s.wdtEnable (ofBool c1)) := rfl
  unfold State.wdtEnable at hexec
  rw [if_neg (by rw [State.on_of_get_zero hoff]; decide)] at hexec
  refine completes_of_goOn hexec ?_
  rw [State.get_setWdt, State.get_setWdt, State.get_setWdt, State.get_setWdt]
  cases c1 <;> refine ⟨?_, ?_, State.get_flag_bit _ _ rfl, ?_⟩
  all_goals rw [State.get_flag_ne _ _ (by decide)]
  · rw [State.get_put_ne _ _ (by decide)]
    exact State.get_flag_bit _ _ rfl
  · exact State.get_put_self _ _ _
  · rw [State.get_put_ne _ _ (by decide), State.get_flag_ne _ _ (by decide)]
  · rw [State.get_put_ne _ _ (by decide)]
    exact State.get_flag_bit _ _ rfl
  · exact State.get_put_self _ _ _
  · rw [State.get_put_ne _ _ (by decide), State.get_flag_ne _ _ (by decide)]

theorem PRC_WDT_STAT_aside (c1 : Bool) : (PRC_WDT_STAT_REMAIN (ofBool c1)).Aside ∧ (PRC_WDT_STAT_WARNED (ofBool c1)).Aside := by
  cases c1 <;> exact ⟨⟨⟨by decide, by decide, by decide⟩, by decide, by decide⟩, ⟨by decide, by decide, by decide⟩, by decide, by decide⟩

theorem watchdogTick_counts {s : State} {c1 : Bool} {r : Nat} (hon : s.get (PRC_WDT_CFG_EN (ofBool c1)) = 1)
    (hlive : s.wdtPaused (ofBool c1) = false) (hr : r = s.get (PRC_WDT_STAT_REMAIN (ofBool c1)) - 1) (hlt : r < 65536) :
    completes (.watchdogTick c1) s fun t => t.get (PRC_WDT_STAT_REMAIN (ofBool c1)) = r ∧
      ((s.get (PRC_WDT_CFG_WARN (ofBool c1)) = r ∧ r ≠ 0) → t.get (PRC_WDT_STAT_WARNED (ofBool c1)) = 1 ∧
        t.event (4 + ofBool c1) = true) := by
  have hexec : exec (.watchdogTick c1) s = goOn (s.wdtTick (ofBool c1)) := rfl
  unfold State.wdtTick at hexec
  rw [if_neg (by rw [State.on_of_get_one hon, hlive]; decide), ← hr] at hexec
  extract_lets rest w z warn at hexec
  have hwarn : warn = s.get (PRC_WDT_CFG_WARN (ofBool c1)) := by
    cases c1 <;> exact State.get_put_ne _ _ (by decide)
  have hremain : z.get (PRC_WDT_STAT_REMAIN (ofBool c1)) = r := (State.get_put_self _ _ _).trans (Nat.mod_eq_of_lt hlt)
  have hrest : r = rest := rfl
  clear_value z warn rest
  subst hwarn hrest
  by_cases hdue : s.get (PRC_WDT_CFG_WARN (ofBool c1)) ≠ 0 ∧ r = s.get (PRC_WDT_CFG_WARN (ofBool c1))
  · rw [if_pos hdue] at hexec
    have hsup := State.raise_supervised (z.flag (PRC_WDT_STAT_WARNED (ofBool c1)) true) (4 + ofBool c1)
    obtain ⟨hremainAside, hwarnedAside⟩ := PRC_WDT_STAT_aside c1
    refine completes_of_goOn hexec ⟨?_, fun _ => ⟨?_, State.event_raise _ _⟩⟩
    · rw [hsup.get _ hremainAside, State.get_flag_ne _ _ (by cases c1 <;> decide), hremain]
    · rw [hsup.get _ hwarnedAside]
      exact State.get_flag_bit _ _ rfl
  · rw [if_neg hdue] at hexec
    exact completes_of_goOn hexec ⟨hremain, fun h => absurd ⟨h.1.symm ▸ h.2, h.1.symm⟩ hdue⟩

theorem watchdogTick_holds {s : State} {c1 : Bool} (hstill : s.get (PRC_WDT_CFG_EN (ofBool c1)) = 0 ∨ s.wdtPaused (ofBool c1) = true) :
    exec (.watchdogTick c1) s = .next s := by
  refine congrArg goOn (if_pos ?_)
  rcases hstill with hoff | hpaused
  · exact .inl (by rw [State.on_of_get_zero hoff]; rfl)
  · exact .inr hpaused

theorem watchdogExpiry_resets {s : State} {c1 : Bool} (hon : s.get (PRC_WDT_CFG_EN (ofBool c1)) = 1)
    (hlive : s.wdtPaused (ofBool c1) = false) (hzero : s.get (PRC_WDT_STAT_REMAIN (ofBool c1)) = 0) :
    completes (.watchdogExpiry c1) s fun t => t.power.resetReq.contains (if c1 = true then 5 else 4) = true :=
  completes_of_goOn (congrArg goOn (if_pos ⟨State.on_of_get_one hon, hzero, by rw [hlive]; rfl⟩)) (s.wdtExpire_requests c1)

/-- The second half of a kick, where the watchdog is on. -/
theorem State.wdtKick_second {s : State} {n : Nat} (hhalf : (s.wdt n).half = true) : s.wdtKick n 0x5A5A = s.wdtReload n := by
  unfold State.wdtKick
  rw [if_neg (by decide), if_pos rfl, if_pos hhalf]

/-- The count after a whole kick in time. -/
def State.wdtRestarted (s : State) (n : Nat) : State :=
  ((s.setWdt n { half := false, since := some 0 }).put (PRC_WDT_STAT_REMAIN n) (s.get (PRC_WDT_CFG_TIMEOUT n))).flag
    (PRC_WDT_STAT_WARNED n) false

theorem State.wdtReload_inTime {s : State} {n : Nat} (hon : s.get (PRC_WDT_CFG_EN n) = 1)
    (hwindow : ∀ k ∈ (s.wdt n).since.toList, s.get (PRC_WDT_CFG_WINDOW n) ≤ k) : s.wdtReload n = s.wdtRestarted n := by
  unfold State.wdtReload
  extract_lets restarted
  rw [if_neg (by rw [State.on_of_get_one hon]; decide)]
  cases hsince : (s.wdt n).since with
  | none => rfl
  | some k => exact if_neg (by have := hwindow k (by rw [hsince]; exact List.mem_singleton_self k); omega)

theorem State.wdtReload_early {s : State} {n k : Nat} (hon : s.get (PRC_WDT_CFG_EN n) = 1) (hsince : (s.wdt n).since = some k)
    (hearly : k < s.get (PRC_WDT_CFG_WINDOW n)) : s.wdtReload n = s.wdtExpire n := by
  unfold State.wdtReload
  extract_lets restarted
  rw [if_neg (by rw [State.on_of_get_one hon]; decide), hsince]
  exact if_pos hearly

theorem watchdogKick_reloads {s : State} {c1 : Bool} {v : Word} (hv : v.toNat = 0x5A5A) (hhalf : (s.wdt (ofBool c1)).half = true)
    (hon : s.get (PRC_WDT_CFG_EN (ofBool c1)) = 1)
    (hwindow : ∀ n ∈ (s.wdt (ofBool c1)).since.toList, s.get (PRC_WDT_CFG_WINDOW (ofBool c1)) ≤ n) :
    completes (.watchdogKick c1 v) s fun t =>
      t.get (PRC_WDT_STAT_REMAIN (ofBool c1)) = s.get (PRC_WDT_CFG_TIMEOUT (ofBool c1)) % 2 ^ 16 ∧
      t.get (PRC_WDT_STAT_WARNED (ofBool c1)) = 0 ∧ t.power.resetReq = s.power.resetReq ∧
      t.wdt (ofBool c1) = { half := false, since := some 0 } := by
  have hexec : exec (.watchdogKick c1 v) s = goOn (s.wdtRestarted (ofBool c1)) := by
    show goOn (s.wdtKick (ofBool c1) v.toNat) = _
    rw [hv, State.wdtKick_second hhalf, State.wdtReload_inTime hon hwindow]
  refine completes_of_goOn hexec ⟨?_, State.get_flag_bit _ _ rfl, s.resetReq_setWdt _ _, s.setWdt_wdt _ _⟩
  unfold State.wdtRestarted
  rw [State.get_flag_ne _ _ (by cases c1 <;> decide), State.get_put_self]
  rfl

theorem watchdogKick_early {s : State} {c1 : Bool} {v : Word} {n : Nat} (hv : v.toNat = 0x5A5A)
    (hhalf : (s.wdt (ofBool c1)).half = true) (hon : s.get (PRC_WDT_CFG_EN (ofBool c1)) = 1)
    (hsince : (s.wdt (ofBool c1)).since = some n) (hearly : n < s.get (PRC_WDT_CFG_WINDOW (ofBool c1))) :
    completes (.watchdogKick c1 v) s fun t => t.power.resetReq.contains (if c1 = true then 5 else 4) = true := by
  have hexec : exec (.watchdogKick c1 v) s = goOn (s.wdtExpire (ofBool c1)) := by
    show goOn (s.wdtKick (ofBool c1) v.toNat) = _
    rw [hv, State.wdtKick_second hhalf, State.wdtReload_early hon hsince hearly]
  exact completes_of_goOn hexec (s.wdtExpire_requests c1)

theorem watchdogKick_other {s : State} {c1 : Bool} {v : Word} (hfirst : v.toNat ≠ 0xA5A5) (hsecond : v.toNat ≠ 0x5A5A)
    (hon : s.get (PRC_WDT_CFG_EN (ofBool c1)) = 1) : completes (.watchdogKick c1 v) s fun t =>
      t.power.resetReq.contains (if c1 = true then 5 else 4) = true ∧ (t.wdt (ofBool c1)).half = false := by
  have hexec : exec (.watchdogKick c1 v) s =
      goOn ((s.setWdt (ofBool c1) { s.wdt (ofBool c1) with half := false }).wdtExpire (ofBool c1)) := by
    show goOn (s.wdtKick (ofBool c1) v.toNat) = _
    unfold State.wdtKick
    rw [if_neg hfirst, if_neg hsecond]
    exact congrArg goOn (if_pos (State.on_of_get_one hon))
  refine completes_of_goOn hexec ⟨State.wdtExpire_requests _ c1, ?_⟩
  unfold State.wdtExpire
  rw [State.wdt_requestReset, State.setWdt_wdt]

/-- Settles O51. Of log entry 91 it states, as the model's choice, the brown-out below 1640 mV, the truncation of DEV_LAST,
REF_FAIL until REF_OK, and that a lost backup domain leaves the part off. -/
theorem supplyClockAndWatchdogs : Obligations.SupplyClockAndWatchdogs := by
  unfold Obligations.SupplyClockAndWatchdogs
  exact ⟨fun _ mv hstandby hoff => vsupSample_judges mv hstandby hoff, fun _ _ hover hcold => thermalWarn_warns hover hcold,
    fun _ _ hbelow => thermHotClear_clears hbelow, fun _ _ _ hstate hd => clkDeviate_judges hstate hd,
    fun _ hok hstandby hoff => clockFail_stops hok hstandby hoff, fun _ hfail hnot => refOk_sets hfail hnot,
    fun _ => ⟨rfl, rfl⟩, fun _ hw => backupDomainLost_loses hw, fun _ _ hoff => watchdogEnable_starts hoff,
    fun _ _ _ hon hlive hr hlt => watchdogTick_counts hon hlive hr hlt, fun _ _ hstill => watchdogTick_holds hstill,
    fun _ _ hon hlive hzero => watchdogExpiry_resets hon hlive hzero,
    fun _ _ v hv => congrArg goOn (if_pos hv),
    fun _ _ _ hv hhalf hon hwindow => watchdogKick_reloads hv hhalf hon hwindow,
    fun _ _ _ _ hv hhalf hon hsince hearly => watchdogKick_early hv hhalf hon hsince hearly,
    fun _ _ _ hfirst hsecond hon => watchdogKick_other hfirst hsecond hon⟩

end Sys2Proof.Machine

/-! ## The Recovery protocol (O54) -/
namespace Sys2Proof.Machine

/-! What R_INFO reads (R440, R444). -/

theorem State.showFields_congr {b : Nat} {s t : State} (h : ∀ f : RegField, f.inBlock b → t.get f = s.get f) {rows : List FieldRow}
    (hrows : rowsIn b rows) (v : View) : t.showFields rows v = s.showFields rows v := by
  unfold State.showFields
  generalize 0 = n
  induction rows generalizing n with
  | nil => rfl
  | cons r rows ih =>
    rw [List.foldl_cons, List.foldl_cons, h _ hrows.1]
    exact ih hrows.2 _

/-- The boot status shows fields of its own block alone. -/
theorem State.bootStatus_congr {s t : State} (h : ∀ f : RegField, f.inBlock 17 → t.get f = s.get f) :
    t.regWord BTU_BOOTSTAT_TRIAL.addr = s.regWord BTU_BOOTSTAT_TRIAL.addr := by
  have hblock : (BTU_BOOTSTAT_TRIAL.addr - 0x40000000) / 0x10000 = 17 := by decide
  unfold State.regWord
  rw [hblock, if_neg (by decide), if_neg (by decide), if_neg (by decide), if_neg (by decide), show blockRegs 17 = btuRegs from rfl]
  cases hfind : findReg btuRegs BTU_BOOTSTAT_TRIAL.addr with
  | none => rfl
  | some found => exact State.showFields_congr h (findReg_in btuRegs_in hfind) []

/-! How a Recovery request is served (R440). -/

theorem State.of_recovers {s z : State} {id : HostId} (h : s.recovers id = some z) :
    s.mode = modeRecovery ∧ s.portLive id.transport = true ∧ s.hostStart.bump HDP_CNT0_ACCEPTED = z := by
  unfold State.recovers at h
  split at h
  next hlive => exact ⟨hlive.1, hlive.2, Option.some.inj h⟩
  · exact absurd h (by simp)

theorem State.odpFrom_recovery {s z : State} {id : HostId} (h : s.recovers id = some z) (opc tid : Nat) (p : List Byte) (env : HostEnv) :
    s.odpFrom id opc tid p env = z.recRequest id opc tid p env := by
  obtain ⟨hmode, hlive, hz⟩ := State.of_recovers h
  have hlive' : s.hostStart.portLive id.transport = true := hlive
  have hmode' : z.mode = modeRecovery := by
    rw [← hz]
    exact (State.get_bump_ne _ (by decide)).trans hmode
  unfold State.odpFrom State.odpRequest
  rw [if_pos hlive', hz, if_pos hmode']

/-- The payload of an answer that is not BUSY. -/
def RecAnswer.body (a : RecAnswer) : List Byte := leBytes 1 a.status.code ++ leBytes 1 a.reason ++ leBytes 2 0 ++ a.extra

theorem State.recPayload_idle (y : State) {a : RecAnswer} (hbusy : a.status ≠ .busy) : y.recPayload a = (a.body, y) := by
  unfold State.recPayload
  rw [if_neg hbusy]
  rfl

theorem State.recRequest_eq {z y : State} {who : HostId} {opc : Nat} {p : List Byte} {e : HostEnv} {a : RecAnswer} (tid : Nat)
    (hserve : z.recServe (some who) opc p e = (a, y)) (hbusy : a.status ≠ .busy) :
    z.recRequest who opc tid p e = y.respond who opc tid a.status a.body := by
  unfold State.recRequest
  rw [hserve]
  dsimp only
  rw [State.recPayload_idle y hbusy]

/-- A request of a host that nobody's session hinders, with the state that its service leaves. -/
theorem completes_recovery {c : Instr} {s z y : State} {id : HostId} {opc : Nat} {ti : Fin 65536} {p : List Byte} {env : HostEnv}
    {a : RecAnswer} {P : State → Prop} (h : s.recovers id = some z) (hexec : exec c s = goOn (s.recFrom (.host id ti) opc p env))
    (hserve : z.recServe (some id) opc p env = (a, y)) (hbusy : a.status ≠ .busy)
    (hP : P (y.respond id opc ti a.status a.body)) : completes c s P := by
  refine completes_of_goOn (hexec.trans (congrArg goOn ?_)) hP
  exact (State.odpFrom_recovery h opc ti p env).trans (State.recRequest_eq ti hserve hbusy)

/-- What R_INFO answers beside its status. -/
def State.infoBytes (s : State) : List Byte :=
  leBytes 4 (s.regWord BTU_BOOTSTAT_TRIAL.addr) ++ (counterRegs.flatMap fun f => leBytes 1 (s.get f)) ++ s.otp 0x230 4 ++ s.serial

/-- No session of another holder. -/
def State.unhindered (s : State) (who : Option HostId) : Prop := ∀ x ∈ s.boot.session.toList, x.holder = who

theorem State.session_unhindered {s : State} {who : Option HostId} (h : s.unhindered who) :
    (s.boot.session.any fun r => decide (r.holder ≠ who)) = false := by
  cases hs : s.boot.session with
  | none => rfl
  | some r =>
    have hr : r.holder = who := h r (by rw [hs]; exact List.mem_singleton_self r)
    simp [hr]

section
variable {s : State} {who : Option HostId} (h : s.unhindered who)
include h

theorem State.recServe_info (e : HostEnv) : s.recServe who 0x40 [] e = ({ status := .ok, extra := s.infoBytes }, s) := by
  unfold State.recServe
  rw [State.session_unhindered h, if_neg (by decide)]
  exact if_neg (by simp)

theorem State.recServe_begin (n : Word) (e : HostEnv) : s.recServe who 0x41 (leBytes 4 n.toNat) e =
    if s.on BTU_BOOTSTAT_OTP_FAULT then ({ status := .access, reason := updSignature }, s)
    else ({ status := .ok }, s.setSession (some { holder := who, total := n.toNat })) := by
  unfold State.recServe
  rw [State.session_unhindered h, if_neg (by decide)]
  refine (if_neg (by simp)).trans ?_
  rw [leNat_word]

theorem State.recServe_end_incomplete {r : RecSession} (hs : s.boot.session = some r) (hpart : r.bytes.length ≠ r.total) (e : HostEnv) :
    s.recServe who 0x43 [] e = ({ status := .range, reason := updFormat }, s) := by
  have hend : s.recEnd r e.dict.flashFail = (updFormat, s) := if_pos hpart
  unfold State.recServe
  rw [State.session_unhindered h, if_neg (by decide)]
  refine (if_neg (by simp)).trans ?_
  rw [hs]
  dsimp only
  rw [hend]
  rfl

theorem State.recServe_end_without (hs : s.boot.session = none) (e : HostEnv) :
    s.recServe who 0x43 [] e = ({ status := .access }, s) := by
  unfold State.recServe
  rw [State.session_unhindered h, if_neg (by decide)]
  refine (if_neg (by simp)).trans ?_
  rw [hs]

theorem State.recServe_boot (e : HostEnv) : s.recServe who 0x44 [] e = ({ status := .ok }, (s.setSession none).requestReset 0x06) := by
  unfold State.recServe
  rw [State.session_unhindered h, if_neg (by decide)]
  exact if_neg (by simp)

theorem State.recServe_data {r : RecSession} {off : Word} {bs : List Byte} {e : HostEnv} (hs : s.boot.session = some r)
    (hne : 0 < bs.length) (hlen : bs.length ≤ 1020) (hwriting : e.dict.writing = false) :
    s.recServe who 0x42 (leBytes 4 off.toNat ++ bs) e =
      if off.toNat ≠ r.bytes.length then ({ status := .range, reason := updSequence }, s)
      else if r.total < r.bytes.length + bs.length then ({ status := .range, reason := updSize }, s)
      else ({ status := .ok }, s.setSession (some { r with bytes := r.bytes ++ bs })) := by
  have hlength : (leBytes 4 off.toNat ++ bs).length = 4 + bs.length := by
    rw [List.length_append, leBytes_length]
  have hoff : leAt (leBytes 4 off.toNat ++ bs) 0 4 = off.toNat := (leAt_start 4 _ bs).trans (Nat.mod_eq_of_lt off.isLt)
  have hdrop : (leBytes 4 off.toNat ++ bs).drop 4 = bs := rfl
  unfold State.recServe
  rw [State.session_unhindered h, if_neg (by decide)]
  refine (if_neg (by rw [hlength]; omega)).trans ?_
  rw [hs]
  dsimp only
  rw [if_neg (by rw [hwriting]; decide), hoff, hdrop, hlength, Nat.add_sub_cancel_left]
end

theorem State.recServe_hindered {s : State} {r : RecSession} {who : Option HostId} (hs : s.boot.session = some r) (hr : r.holder ≠ who)
    (opc : Nat) (p : List Byte) (e : HostEnv) : s.recServe who opc p e = ({ status := .busy }, s) := by
  unfold State.recServe
  exact if_pos (by rw [hs]; simp [hr])

theorem State.boot_respond (y : State) (who : HostId) (opc tid : Nat) (st : OdpStatus) (body : List Byte) :
    (y.respond who opc tid st body).boot = y.boot := rfl

theorem State.power_respond (y : State) (who : HostId) (opc tid : Nat) (st : OdpStatus) (body : List Byte) :
    (y.respond who opc tid st body).power = y.power := rfl

/-! The requests of a host (R440). -/

section
variable {s z : State} {id : HostId} (h : s.recovers id = some z)
include h

theorem State.boot_of_recovers : z.boot = s.boot := by
  rw [← (State.of_recovers h).2.2]
  rfl

theorem State.get_of_recovers {f : RegField} (hf : f.inBlock 17) : z.get f = s.get f := by
  rw [← (State.of_recovers h).2.2, State.get_bump_ne]
  · rfl
  · intro hkey
    have := (congrArg (· / 0x200000) hkey).symm.trans hf
    exact absurd this (by decide)

theorem State.unhindered_of_recovers {who : Option HostId} (hfree : s.unhindered who) : z.unhindered who := by
  unfold State.unhindered at hfree ⊢
  rwa [State.boot_of_recovers h]

theorem rInfo_answers (hfree : s.unhindered (some id)) (ti : Fin 65536) (env : HostEnv) : completes (.rInfo (.host id ti) env) s fun t =>
    z.told t id 0x40 ti .ok ([0, 0, 0, 0] ++ leBytes 4 (s.regWord BTU_BOOTSTAT_TRIAL.addr) ++
      (counterRegs.flatMap fun (f : RegField) => leBytes 1 (s.get f)) ++ s.otp 0x230 4 ++ s.serial) = true := by
  have hstatus : z.regWord BTU_BOOTSTAT_TRIAL.addr = s.regWord BTU_BOOTSTAT_TRIAL.addr :=
    State.bootStatus_congr fun f hf => State.get_of_recovers h hf
  have hcounters : (counterRegs.flatMap fun f => leBytes 1 (z.get f)) = counterRegs.flatMap fun f => leBytes 1 (s.get f) := by
    simp only [counterRegs, List.flatMap_cons, List.flatMap_nil]
    rw [State.get_of_recovers h BTU_CNT0_C1_block, State.get_of_recovers h BTU_CNT0_C2_block, State.get_of_recovers h BTU_CNT0_C3_block,
      State.get_of_recovers h BTU_CNT0_C4_block, State.get_of_recovers h BTU_CNT1_CNT_block]
  have hotp : z.otp 0x230 4 = s.otp 0x230 4 ∧ z.serial = s.serial := by
    rw [← (State.of_recovers h).2.2]
    exact ⟨rfl, rfl⟩
  refine completes_recovery h rfl (State.recServe_info (State.unhindered_of_recovers h hfree) env) (by simp) ?_
  have hbody : RecAnswer.body { status := .ok, extra := z.infoBytes } = [0, 0, 0, 0] ++ leBytes 4 (s.regWord BTU_BOOTSTAT_TRIAL.addr) ++
      (counterRegs.flatMap fun (f : RegField) => leBytes 1 (s.get f)) ++ s.otp 0x230 4 ++ s.serial := by
    rw [← hstatus, ← hcounters, ← hotp.1, ← hotp.2]
    show [0, 0, 0, 0] ++ z.infoBytes = _
    unfold State.infoBytes
    simp only [List.append_assoc]
  rw [hbody]
  exact State.told_respond (.refl z) id (by decide) ti .ok _

theorem rBegin_opens (hfree : s.unhindered (some id)) (ti : Fin 65536) (env : HostEnv) (n : Word)
    (hok : s.get BTU_BOOTSTAT_OTP_FAULT = 0) : completes (.rBegin (.host id ti) n env) s fun t =>
      t.boot.session = some { holder := some id, total := n.toNat } ∧ z.told t id 0x41 ti .ok [0, 0, 0, 0] = true := by
  have hfault : z.on BTU_BOOTSTAT_OTP_FAULT = false :=
    State.on_of_get_zero ((State.get_of_recovers h BTU_BOOTSTAT_OTP_FAULT_block).trans hok)
  refine completes_recovery h rfl ((State.recServe_begin (State.unhindered_of_recovers h hfree) n env).trans
    (if_neg (by rw [hfault]; decide))) (by simp) ⟨rfl, ?_⟩
  exact State.told_respond ⟨rfl, rfl, rfl, rfl⟩ id (by decide) ti .ok _

theorem rBegin_refused (hfree : s.unhindered (some id)) (ti : Fin 65536) (env : HostEnv) (n : Word)
    (hbad : s.get BTU_BOOTSTAT_OTP_FAULT ≠ 0) : completes (.rBegin (.host id ti) n env) s fun t =>
      t.boot = s.boot ∧ z.told t id 0x41 ti .access [3, 3, 0, 0] = true := by
  have hfault : z.on BTU_BOOTSTAT_OTP_FAULT = true :=
    State.on_of_get_ne_zero (by rwa [State.get_of_recovers h BTU_BOOTSTAT_OTP_FAULT_block])
  refine completes_recovery h rfl ((State.recServe_begin (State.unhindered_of_recovers h hfree) n env).trans
    (if_pos hfault)) (by simp) ⟨(State.boot_respond _ _ _ _ _ _).trans (State.boot_of_recovers h), ?_⟩
  exact State.told_respond (.refl z) id (by decide) ti .access _

theorem rData_appends (hfree : s.unhindered (some id)) (ti : Fin 65536) {env : HostEnv} {off : Word} {bs : List Byte} {r : RecSession}
    (hs : s.boot.session = some r) (hne : 0 < bs.length) (hlen : bs.length ≤ 1020) (hwriting : env.dict.writing = false)
    (hoff : off.toNat = r.bytes.length) (hroom : r.bytes.length + bs.length ≤ r.total) :
    completes (.rData (.host id ti) off bs env) s fun t =>
      t.boot.session = some { r with bytes := r.bytes ++ bs } ∧ z.told t id 0x42 ti .ok [0, 0, 0, 0] = true := by
  have hsession : z.boot.session = some r := by rw [State.boot_of_recovers h, hs]
  refine completes_recovery h rfl ((State.recServe_data (State.unhindered_of_recovers h hfree) hsession hne hlen hwriting).trans
    ((if_neg (by omega)).trans (if_neg (by omega)))) (by simp) ⟨rfl, ?_⟩
  exact State.told_respond ⟨rfl, rfl, rfl, rfl⟩ id (by decide) ti .ok _

theorem rData_refused (hfree : s.unhindered (some id)) (ti : Fin 65536) {env : HostEnv} {off : Word} {bs : List Byte} {r : RecSession}
    (hs : s.boot.session = some r) (hne : 0 < bs.length) (hlen : bs.length ≤ 1020) (hwriting : env.dict.writing = false)
    (hbad : off.toNat ≠ r.bytes.length ∨ r.total < r.bytes.length + bs.length) :
    completes (.rData (.host id ti) off bs env) s fun t => t.boot = s.boot ∧
      z.told t id 0x42 ti .range [BitVec.ofNat 8 OdpStatus.range.code, if off.toNat = r.bytes.length then 7 else 11, 0, 0] = true := by
  have hsession : z.boot.session = some r := by rw [State.boot_of_recovers h, hs]
  have hserve := State.recServe_data (off := off) (State.unhindered_of_recovers h hfree) hsession hne hlen hwriting
  by_cases hoff : off.toNat = r.bytes.length
  · rw [if_pos hoff]
    refine completes_recovery h rfl (hserve.trans ((if_neg (by omega)).trans (if_pos (by omega)))) (by simp)
      ⟨(State.boot_respond _ _ _ _ _ _).trans (State.boot_of_recovers h), ?_⟩
    exact State.told_respond (.refl z) id (by decide) ti .range _
  · rw [if_neg hoff]
    refine completes_recovery h rfl (hserve.trans (if_pos hoff)) (by simp) ⟨(State.boot_respond _ _ _ _ _ _).trans (State.boot_of_recovers h), ?_⟩
    exact State.told_respond (.refl z) id (by decide) ti .range _

theorem rData_busy (ti : Fin 65536) (env : HostEnv) (off : Word) (bs : List Byte) {r : RecSession} (hs : s.boot.session = some r)
    (hr : r.holder ≠ some id) : completes (.rData (.host id ti) off bs env) s fun t => t.boot = s.boot ∧ t.host.result = .busy := by
  have hserve : z.recServe (some id) 0x42 (leBytes 4 off.toNat ++ bs) env = ({ status := .busy }, z) :=
    State.recServe_hindered (by rw [State.boot_of_recovers h, hs]) hr _ _ _
  have hreq : s.recFrom (.host id ti) 0x42 (leBytes 4 off.toNat ++ bs) env =
      (z.recPayload { status := .busy }).2.respond id 0x42 ti .busy (z.recPayload { status := .busy }).1 := by
    refine (State.odpFrom_recovery h 0x42 ti _ env).trans ?_
    unfold State.recRequest
    rw [hserve]
  refine completes_of_goOn (congrArg goOn hreq) ⟨?_, (State.respond_result _ _ _ _ _ _).1⟩
  rw [State.boot_respond, (z.recPayload_moves _).1 .boot rfl, State.boot_of_recovers h]

theorem rEnd_incomplete (hfree : s.unhindered (some id)) (ti : Fin 65536) (env : HostEnv) {r : RecSession}
    (hs : s.boot.session = some r) (hpart : r.bytes.length ≠ r.total) : completes (.rEnd (.host id ti) env) s fun t => t.boot = s.boot ∧
      z.told t id 0x43 ti .range [BitVec.ofNat 8 OdpStatus.range.code, 1, 0, 0] = true := by
  refine completes_recovery h rfl (State.recServe_end_incomplete (State.unhindered_of_recovers h hfree)
    (by rw [State.boot_of_recovers h, hs]) hpart env) (by simp) ⟨(State.boot_respond _ _ _ _ _ _).trans (State.boot_of_recovers h), ?_⟩
  exact State.told_respond (.refl z) id (by decide) ti .range _

theorem rEnd_without (hfree : s.unhindered (some id)) (ti : Fin 65536) (env : HostEnv) (hs : s.boot.session = none) :
    completes (.rEnd (.host id ti) env) s fun t => t.boot = s.boot ∧ z.told t id 0x43 ti .access [3, 0, 0, 0] = true := by
  refine completes_recovery h rfl (State.recServe_end_without (State.unhindered_of_recovers h hfree)
    (by rw [State.boot_of_recovers h, hs]) env) (by simp) ⟨(State.boot_respond _ _ _ _ _ _).trans (State.boot_of_recovers h), ?_⟩
  exact State.told_respond (.refl z) id (by decide) ti .access _

theorem rBoot_resets (hfree : s.unhindered (some id)) (ti : Fin 65536) (env : HostEnv) : completes (.rBoot (.host id ti) env) s fun t =>
    t.boot.session = none ∧ t.power.resetReq.contains 6 = true ∧ z.told t id 0x44 ti .ok [0, 0, 0, 0] = true := by
  have hkept := (z.setSession none).requestReset_moves 0x06
  refine completes_recovery h rfl (State.recServe_boot (State.unhindered_of_recovers h hfree) env) (by simp) ⟨?_, ?_, ?_⟩
  · rw [State.boot_respond, hkept.1 .boot rfl]
    rfl
  · rw [State.power_respond]
    exact State.requestReset_contains _ 6
  · exact State.told_respond (OutputsAs.trans ⟨rfl, rfl, rfl, rfl⟩ (hkept.outputs rfl rfl)) id (by decide) ti .ok _
end

/-! The requests of a reader in the field (R440, R404). -/

/-- A Recovery request of a reader that the tag hears. -/
def State.recField (opc : Nat) (p : List Byte) (e : HostEnv) (s : State) : State :=
  if s.mode ≠ modeRecovery ∨ !s.portsServed ∨ !s.tagPowered then s.tagError 0x01
  else if opc = 0x42 ∧ 132 < p.length then s.tagError 0x02
  else if opc = 0x42 ∧ e.dict.writing = true then s.tagError 0xA3
  else
    let (a, s) := s.recServe none opc p e
    let (b, s) := s.recPayload a
    s.tagAnswer b

theorem State.recFrom_field (s : State) (req : TagReq) (opc : Nat) (p : List Byte) (e : HostEnv) :
    s.recFrom (.field req) opc p e = s.tagServe req (State.recField opc p e) := rfl

theorem rBegin_field {s : State} {req : TagReq} (env : HostEnv) (n : Word) (hmode : s.mode = modeRecovery) (hserved : s.portsServed = true)
    (hpowered : s.tagPowered = true) (hears : s.tagHears req = true) (hfree : s.unhindered none)
    (hok : s.get BTU_BOOTSTAT_OTP_FAULT = 0) : completes (.rBegin (.field req) n env) s fun t =>
      t.boot.session = some { holder := none, total := n.toNat } ∧ t.tag.answer = some [0, 0, 0, 0, 0] := by
  refine completes_tagServe (congrArg goOn (s.recFrom_field req _ _ env)) hears ?_
  unfold State.recField
  have hserve : (s.heard req).recServe none 0x41 (leBytes 4 n.toNat) env =
      ({ status := .ok }, (s.heard req).setSession (some { holder := none, total := n.toNat })) :=
    (State.recServe_begin (s := s.heard req) hfree n env).trans (if_neg (by
      rw [show (s.heard req).on BTU_BOOTSTAT_OTP_FAULT = s.on BTU_BOOTSTAT_OTP_FAULT from rfl, State.on_of_get_zero hok]
      decide))
  rw [if_neg, if_neg (by simp), if_neg (by simp), hserve]
  · dsimp only
    rw [State.recPayload_idle _ (by simp)]
    exact ⟨rfl, rfl⟩
  · rintro (hother | hunserved | hunpowered)
    · exact hother hmode
    · rw [show (s.heard req).portsServed = s.portsServed from rfl, hserved] at hunserved
      exact absurd hunserved (by decide)
    · rw [show (s.heard req).tagPowered = s.tagPowered from rfl, hpowered] at hunpowered
      exact absurd hunpowered (by decide)

/-- Settles O54. The layout of an answer (STATUS, REASON, HINT) is the model's choice by log entry 100, INSTALLED as OTP word
0x230 that of log entry 88. -/
theorem recoveryProtocol : Obligations.RecoveryProtocol := by
  unfold Obligations.RecoveryProtocol
  exact ⟨fun _ _ _ ti env h hfree => rInfo_answers h hfree ti env, fun _ _ _ ti env n h hfree hok => rBegin_opens h hfree ti env n hok,
    fun _ _ _ ti env n h hfree hbad => rBegin_refused h hfree ti env n hbad,
    fun _ _ _ ti _ _ _ _ h hfree hs hne hlen hwriting hoff hroom => rData_appends h hfree ti hs hne hlen hwriting hoff hroom,
    fun _ _ _ ti _ _ _ _ h hfree hs hne hlen hwriting hbad => rData_refused h hfree ti hs hne hlen hwriting hbad,
    fun _ _ _ ti env _ h hfree hs hpart => rEnd_incomplete h hfree ti env hs hpart,
    fun _ _ _ ti env h hfree hs => rEnd_without h hfree ti env hs, fun _ _ _ ti env h hfree => rBoot_resets h hfree ti env,
    fun _ _ _ ti env off bs _ h hs hr => rData_busy h ti env off bs hs hr,
    fun _ _ env n hmode hserved hpowered hears hfree hok => rBegin_field env n hmode hserved hpowered hears hfree hok, fun _ => rfl⟩

end Sys2Proof.Machine

/-! ## The public key, hash and random engine (O55) -/
namespace Sys2Proof.Machine

/-! What an event leaves of memory. -/

theorem State.foldl_keeps {α β : Type} {proj : State → β} {g : State → α → State} (hg : ∀ s x, proj (g s x) = proj s) (l : List α)
    (s : State) : proj (l.foldl g s) = proj s := by
  induction l generalizing s with
  | nil => rfl
  | cons x l ih => exact (ih _).trans (hg s x)

theorem State.wakeRequest_mem (s : State) (n : Nat) : (s.wakeRequest n).mem = s.mem := by
  unfold State.wakeRequest
  split
  · rfl
  split
  · rfl
  split
  · extract_lets z
    split <;> rfl
  · rfl

theorem State.pulse_mem (s : State) (c t : Nat) : (s.pulse c t).mem = s.mem := by
  unfold State.pulse
  split <;> rfl

theorem State.raise_mem (s : State) (n : Nat) : (s.raise n).mem = s.mem := by
  unfold State.raise
  extract_lets sticky core0 core1 lines woken
  have hwoken : woken.mem = s.mem := by
    unfold woken
    split
    · exact State.wakeRequest_mem _ _
    · rfl
  split
  · refine (State.foldl_keeps (proj := State.mem) (fun z c => ?_) _ _).trans hwoken
    split
    · exact z.pulse_mem c _
    · rfl
  · exact hwoken

/-! The end of an operation (R441). -/

theorem PKE_STATUS_aside : PKE_STATUS_BUSY.Aside ∧ PKE_STATUS_RESULT.Aside ∧ PKE_STATUS_COUNT.Aside :=
  ⟨⟨⟨by decide, by decide, by decide⟩, by decide, by decide⟩, ⟨⟨by decide, by decide, by decide⟩, by decide, by decide⟩,
    ⟨by decide, by decide, by decide⟩, by decide, by decide⟩

/-- The engine after an operation that ends with RESULT `res` on state `z`. -/
def State.pkeEnded (z : State) (res : Nat) : State :=
  (((({ z with pke := { z.pke with run := none } } : State).flag PKE_STATUS_BUSY false).put PKE_STATUS_RESULT res).bumpWrap
    PKE_STATUS_COUNT).raise 68

/-- `t` shows an operation that ended with `res`, where COUNT was `n`. -/
structure PkeShown (n res : Nat) (t : State) : Prop where
  run : t.pke.run = none
  busy : t.get PKE_STATUS_BUSY = 0
  count : t.get PKE_STATUS_COUNT = (n + 1) % 2 ^ 16
  event : t.event 68 = true
  result : t.get PKE_STATUS_RESULT = res

theorem State.pkeEnded_shown {z : State} {n res : Nat} (hcount : z.get PKE_STATUS_COUNT = n) (hres : res < 8) :
    PkeShown n res (z.pkeEnded res) := by
  obtain ⟨hbusy, hresult, hcounted⟩ := PKE_STATUS_aside
  unfold State.pkeEnded
  generalize hy : ({ z with pke := { z.pke with run := none } } : State) = y
  have hrun : y.pke.run = none := hy ▸ rfl
  have hget : y.get PKE_STATUS_COUNT = n := hy ▸ hcount
  have hsup := State.raise_supervised (((y.flag PKE_STATUS_BUSY false).put PKE_STATUS_RESULT res).bumpWrap PKE_STATUS_COUNT) 68
  refine ⟨?_, ?_, ?_, State.event_raise _ 68, ?_⟩
  · rw [State.raise_pke]
    exact hrun
  · rw [hsup.get _ hbusy, State.get_bumpWrap_ne _ (by decide), State.get_put_ne _ _ (by decide)]
    exact State.get_flag_bit _ _ rfl
  · rw [hsup.get _ hcounted, State.bumpWrap, State.get_put_self, State.get_put_ne _ _ (by decide), State.get_flag_ne _ _ (by decide), hget]
    rfl
  · rw [hsup.get _ hresult, State.get_bumpWrap_ne _ (by decide), State.get_put_self]
    exact Nat.mod_eq_of_lt hres

theorem State.pkeEnded_mem (z : State) (res : Nat) : (z.pkeEnded res).mem = z.mem := State.raise_mem _ _

theorem State.pkeEnded_chain (z : State) (res : Nat) : (z.pkeEnded res).pke.chain = z.pke.chain := by
  unfold State.pkeEnded
  rw [State.raise_pke]
  rfl

/-- The operation of `r`: its result and what it leaves. -/
def State.pkeResult (s : State) (r : PkeRun) : Nat × State :=
  if r.op = 1 then s.sm3Run r else if r.op = 2 then s.verifyRun r else s.signRun r

theorem pkeDone_eq {s z : State} {r : PkeRun} {res : Nat} (hrun : s.pke.run = some r)
    (hready : ¬(r.op = 3 ∧ s.on PKE_RNGSTAT_STARTUP = true)) (hres : s.pkeResult r = (res, z)) :
    exec .pkeDone s = goOn (z.pkeEnded res) := by
  show execPkeDone s = _
  unfold execPkeDone
  rw [hrun]
  dsimp only
  unfold State.pkeResult at hres
  rw [if_neg hready, hres]
  rfl

/-- An operation of `r` that ends with RESULT `res` and leaves COUNT to its end. -/
theorem completes_pkeDone {s z : State} {r : PkeRun} {res : Nat} {P : State → Prop} (hrun : s.pke.run = some r)
    (hready : ¬(r.op = 3 ∧ s.on PKE_RNGSTAT_STARTUP = true)) (hres : s.pkeResult r = (res, z))
    (hcount : z.get PKE_STATUS_COUNT = s.get PKE_STATUS_COUNT) (hlt : res < 8)
    (hP : PkeShown (s.get PKE_STATUS_COUNT) res (z.pkeEnded res) → P (z.pkeEnded res)) : completes .pkeDone s P :=
  completes_of_goOn (pkeDone_eq hrun hready hres) (hP (State.pkeEnded_shown hcount hlt))

/-! Reads of the operands. -/

theorem State.pkeRead_sys {s : State} {a n : Nat} (hspan : spanSys a n = true) (hclean : s.poisonedIn a n = false) :
    s.pkeRead a n = (.ok (s.bytes a n), s) := by
  unfold State.pkeRead
  rw [if_pos hspan, hclean, if_neg (by decide)]

theorem State.pkeRead_poisoned {s : State} {a n : Nat} (hspan : spanSys a n = true) (hpoison : s.poisonedIn a n = true) :
    s.pkeRead a n = (.error 4, s) := by
  unfold State.pkeRead
  rw [if_pos hspan, if_pos hpoison]

theorem State.pkeRead_outside {s : State} {a n : Nat} (hsys : spanSys a n = false) (hflash : spanFlash a n = false) :
    s.pkeRead a n = (.error 2, s) := by
  unfold State.pkeRead
  rw [hsys, hflash, if_neg (by decide), if_neg (by decide)]

theorem spanSys_within {a n k : Nat} (h : spanSys a n = true) (hk : k ≤ n) : spanSys a k = true := by
  unfold spanSys at h ⊢
  simp only [Bool.and_eq_true, decide_eq_true_eq] at h ⊢
  exact ⟨h.1, by omega⟩

theorem opBlockOk_writes {a : Nat} (h : opBlockOk a true = true) : a % 4 = 0 ∧ spanSys a 160 = true := by
  unfold opBlockOk at h
  simpa using h

theorem State.poisonedIn_nil {s : State} (h : s.poison = []) (a n : Nat) : s.poisonedIn a n = false := by
  unfold State.poisonedIn
  rw [h]
  rfl

/-- A part of some bytes of memory. -/
theorem State.bytesAt_bytes (s : State) (a : Nat) {n off k : Nat} (h : off + k ≤ n) : bytesAt (s.bytes a n) off k = s.bytes (a + off) k := by
  have hlen : (s.bytes a n).length = n := by simp [State.bytes]
  have hpart : ((s.bytes a n).drop off).take k = s.bytes (a + off) k := by
    refine List.ext_getElem (by simp [State.bytes]; omega) fun i hi hj => ?_
    simp [State.bytes, Nat.add_assoc]
  unfold bytesAt
  rw [hpart]
  simp [State.bytes]

/-! SM3 (R441). -/

theorem sm3_octets (m : List Byte) : (Config.sm3 m).length = 32 := by
  unfold Config.sm3
  simp

section
variable {s : State} {r : PkeRun} (hrun : s.pke.run = some r) (hop : r.op = 1)
include hrun hop

/-- An SM3 operation with its result. -/
theorem completes_sm3 {z : State} {res : Nat} {P : State → Prop} (hres : s.sm3Run r = (res, z))
    (hcount : z.get PKE_STATUS_COUNT = s.get PKE_STATUS_COUNT) (hlt : res < 8)
    (hP : PkeShown (s.get PKE_STATUS_COUNT) res (z.pkeEnded res) → P (z.pkeEnded res)) : completes .pkeDone s P :=
  completes_pkeDone hrun (fun h => absurd (hop.symm.trans h.1) (by decide)) ((if_pos hop).trans hres) hcount hlt hP

theorem pkeDone_digest (hcont : r.cont = false) (hfin : r.fin = true) (hblock : opBlockOk r.opaddr true = true)
    (hspan : spanSys r.src r.len = true) (hclean : s.poisonedIn r.src r.len = false) (hpoison : s.poison = []) :
    completes .pkeDone s fun t => t.pke.run = none ∧ t.get PKE_STATUS_BUSY = 0 ∧
      t.get PKE_STATUS_COUNT = (s.get PKE_STATUS_COUNT + 1) % 2 ^ 16 ∧ t.event 68 = true ∧ t.get PKE_STATUS_RESULT = 0 ∧
      t.bytes r.opaddr 32 = Config.sm3 (s.bytes r.src r.len) ∧ t.pke.chain = none := by
  have hres : s.sm3Run r = (0, ({ s with pke := { s.pke with chain := none } } : State).devWrite r.opaddr (Config.sm3 (s.bytes r.src r.len))) := by
    unfold State.sm3Run
    rw [hcont, hfin, hblock, State.pkeRead_sys hspan hclean, if_neg (by simp), if_neg (by decide)]
    rfl
  generalize hz : ({ s with pke := { s.pke with chain := none } } : State) = z at hres
  have hchain : z.pke.chain = none := hz ▸ rfl
  have hcount : z.get PKE_STATUS_COUNT = s.get PKE_STATUS_COUNT := hz ▸ rfl
  have hnone : z.poison = [] := hz ▸ hpoison
  refine completes_sm3 hrun hop hres (((State.devWrite_moves _ _ _).get_eq PKE_STATUS_COUNT_block (by decide) rfl).trans hcount) (by decide) fun hshown =>
    ⟨hshown.run, hshown.busy, hshown.count, hshown.event, hshown.result, ?_, ?_⟩
  · rw [State.bytes_congr (s := z.devWrite r.opaddr (Config.sm3 (s.bytes r.src r.len))) fun k _ => by
      unfold State.byte
      rw [State.pkeEnded_mem]]
    have hstored := State.bytes_devWrite z (bs := Config.sm3 (s.bytes r.src r.len)) (by rw [hnone]; simp)
      (opBlockOk_writes hblock).1 (by rw [sm3_octets])
    rwa [sm3_octets] at hstored
  · rw [State.pkeEnded_chain, State.devWrite_pke, hchain]

theorem pkeDone_chains {c : List Byte} (hfin : r.fin = false) (hlen : r.len % 64 = 0)
    (hchain : if r.cont = true then s.pke.chain = some c else c = []) (hspan : spanSys r.src r.len = true)
    (hclean : s.poisonedIn r.src r.len = false) : completes .pkeDone s fun t => t.pke.run = none ∧ t.get PKE_STATUS_BUSY = 0 ∧
      t.get PKE_STATUS_COUNT = (s.get PKE_STATUS_COUNT + 1) % 2 ^ 16 ∧ t.event 68 = true ∧ t.get PKE_STATUS_RESULT = 0 ∧
      t.pke.chain = some (c ++ s.bytes r.src r.len) ∧ t.mem = s.mem := by
  have hcarried : (if r.cont then s.pke.chain.getD [] else []) = c ∧ ¬(r.cont = true ∧ s.pke.chain = none) := by
    by_cases hcont : r.cont = true
    · rw [if_pos hcont] at hchain
      rw [if_pos hcont, hchain]
      exact ⟨rfl, by simp⟩
    · rw [if_neg hcont] at hchain
      rw [if_neg hcont]
      exact ⟨hchain.symm, fun h => hcont h.1⟩
  have hres : s.sm3Run r = (0, { s with pke := { s.pke with chain := some (c ++ s.bytes r.src r.len) } }) := by
    unfold State.sm3Run
    rw [if_neg (fun h => h.elim hcarried.2 fun hl => hl.2 hlen), hfin, State.pkeRead_sys hspan hclean, if_neg (by simp)]
    dsimp only
    rw [hcarried.1]
    rfl
  refine completes_sm3 hrun hop hres rfl (by decide) fun hshown =>
    ⟨hshown.run, hshown.busy, hshown.count, hshown.event, hshown.result, State.pkeEnded_chain _ _, State.pkeEnded_mem _ _⟩

/-- An SM3 operation that fails leaves memory. -/
theorem pkeDone_sm3Fails {res : Nat} (hres : s.sm3Run r = (res, s)) (hlt : res < 8) : completes .pkeDone s fun t =>
    t.pke.run = none ∧ t.get PKE_STATUS_BUSY = 0 ∧ t.get PKE_STATUS_COUNT = (s.get PKE_STATUS_COUNT + 1) % 2 ^ 16 ∧
      t.event 68 = true ∧ t.get PKE_STATUS_RESULT = res ∧ t.mem = s.mem :=
  completes_sm3 hrun hop hres rfl hlt fun hshown =>
    ⟨hshown.run, hshown.busy, hshown.count, hshown.event, hshown.result, State.pkeEnded_mem _ _⟩
end

theorem State.sm3Run_invalid {s : State} {r : PkeRun} (h : (r.cont = true ∧ s.pke.chain = none) ∨ (r.fin = false ∧ r.len % 64 ≠ 0)) :
    s.sm3Run r = (5, s) := if_pos h

theorem State.sm3Run_unread {s : State} {r : PkeRun} {e : Nat} (hchain : r.cont = false ∨ s.pke.chain.isSome = true)
    (hfin : r.fin = false) (hlen : r.len % 64 = 0) (hread : s.pkeRead r.src r.len = (.error e, s)) : s.sm3Run r = (e, s) := by
  unfold State.sm3Run
  rw [if_neg, hfin, if_neg (by simp), hread]
  rintro (⟨hcont, hnone⟩ | ⟨-, hpart⟩)
  · rw [hcont, hnone] at hchain
    simp at hchain
  · exact hpart hlen

/-! SM2 (R441). -/

theorem pkeDone_verifies {s : State} {r : PkeRun} (hrun : s.pke.run = some r) (hop : r.op = 2) (halign : r.opaddr % 4 = 0)
    (hspan : spanSys r.opaddr 160 = true) (hclean : s.poisonedIn r.opaddr 160 = false) : completes .pkeDone s fun t =>
      t.pke.run = none ∧ t.get PKE_STATUS_BUSY = 0 ∧ t.get PKE_STATUS_COUNT = (s.get PKE_STATUS_COUNT + 1) % 2 ^ 16 ∧
      t.event 68 = true ∧ t.get PKE_STATUS_RESULT = (if Config.sm2Verify (s.bytes (r.opaddr + 32) 64) (s.bytes r.opaddr 32)
        (s.bytes (r.opaddr + 96) 64) = true then 0 else 1) ∧ t.mem = s.mem := by
  have hres : s.verifyRun r = (if Config.sm2Verify (s.bytes (r.opaddr + 32) 64) (s.bytes r.opaddr 32)
      (s.bytes (r.opaddr + 96) 64) = true then 0 else 1, s) := by
    unfold State.verifyRun
    rw [if_neg (by unfold opBlockOk; rw [halign, hspan]; simp), State.pkeRead_sys hspan hclean]
    dsimp only
    rw [State.bytesAt_bytes s _ (by decide), State.bytesAt_bytes s _ (by decide), State.bytesAt_bytes s _ (by decide)]
    rfl
  refine completes_pkeDone hrun (fun h => absurd (hop.symm.trans h.1) (by decide))
    ((if_neg (by rw [hop]; decide)).trans ((if_pos hop).trans hres)) rfl (by split <;> decide) fun hshown =>
      ⟨hshown.run, hshown.busy, hshown.count, hshown.event, hshown.result, State.pkeEnded_mem _ _⟩

theorem sm2Sign_length (k h n : List Byte) : (Config.sm2Sign k h n).length = 64 := by
  unfold Config.sm2Sign
  simp

section
variable {s : State} {r : PkeRun} (hrun : s.pke.run = some r) (hop : r.op = 3) (hstarted : s.get PKE_RNGSTAT_STARTUP = 0)
include hrun hop hstarted

/-- A signature with its result. -/
theorem completes_sign {z : State} {res : Nat} {P : State → Prop} (hres : s.signRun r = (res, z))
    (hcount : z.get PKE_STATUS_COUNT = s.get PKE_STATUS_COUNT) (hlt : res < 8)
    (hP : PkeShown (s.get PKE_STATUS_COUNT) res (z.pkeEnded res) → P (z.pkeEnded res)) : completes .pkeDone s P :=
  completes_pkeDone hrun (fun h => absurd h.2 (by rw [State.on_of_get_zero hstarted]; decide))
    ((if_neg (by rw [hop]; decide)).trans ((if_neg (by rw [hop]; decide)).trans hres)) hcount hlt hP

theorem pkeDone_signs (hhealthy : s.get PKE_RNGSTAT_HEALTH_FAIL = 0) (hblock : opBlockOk r.opaddr true = true) (hpoison : s.poison = []) :
    completes .pkeDone s fun t => t.pke.run = none ∧ t.get PKE_STATUS_BUSY = 0 ∧
      t.get PKE_STATUS_COUNT = (s.get PKE_STATUS_COUNT + 1) % 2 ^ 16 ∧ t.event 68 = true ∧ t.get PKE_STATUS_RESULT = 0 ∧
      t.bytes (r.opaddr + 96) 64 = Config.sm2Sign (s.otp 0x060 32) (s.bytes r.opaddr 32) (s.freeBytes 32).1 := by
  obtain ⟨halign, hspan⟩ := opBlockOk_writes hblock
  generalize hsig : Config.sm2Sign (s.otp 0x060 32) (s.bytes r.opaddr 32) (s.freeBytes 32).1 = sig
  have hlen : sig.length = 64 := hsig ▸ sm2Sign_length _ _ _
  have hres : s.signRun r = (0, ({ s with free := s.free + 32 } : State).devWrite (r.opaddr + 96) sig) := by
    unfold State.signRun
    rw [if_neg (by rw [State.on_of_get_zero hhealthy]; decide), hblock, if_neg (by decide),
      State.pkeRead_sys (spanSys_within hspan (by decide)) (State.poisonedIn_nil hpoison _ _)]
    subst hsig
    rfl
  refine completes_sign hrun hop hstarted hres ((State.devWrite_moves _ _ _).get_eq PKE_STATUS_COUNT_block (by decide) rfl) (by decide) fun hshown =>
    ⟨hshown.run, hshown.busy, hshown.count, hshown.event, hshown.result, ?_⟩
  rw [State.bytes_congr (s := ({ s with free := s.free + 32 } : State).devWrite (r.opaddr + 96) sig) fun k _ => by
    unfold State.byte
    rw [State.pkeEnded_mem]]
  have hstored := State.bytes_devWrite { s with free := s.free + 32 } (a := r.opaddr + 96) (bs := sig) (by
    rw [show ({ s with free := s.free + 32 } : State).poison = [] from hpoison]
    simp) (by omega) (by rw [hlen])
  rwa [hlen] at hstored

theorem pkeDone_unhealthy (hfail : s.get PKE_RNGSTAT_HEALTH_FAIL ≠ 0) : completes .pkeDone s fun t =>
    t.pke.run = none ∧ t.get PKE_STATUS_BUSY = 0 ∧ t.get PKE_STATUS_COUNT = (s.get PKE_STATUS_COUNT + 1) % 2 ^ 16 ∧
      t.event 68 = true ∧ t.get PKE_STATUS_RESULT = 3 ∧ t.mem = s.mem :=
  completes_sign hrun hop hstarted (if_pos (State.on_of_get_ne_zero hfail)) rfl (by decide) fun hshown =>
    ⟨hshown.run, hshown.busy, hshown.count, hshown.event, hshown.result, State.pkeEnded_mem _ _⟩
end

/-! Commands (R443) and random words (R442). -/

theorem State.pkeCommand_idle {s : State} (h : s.get PKE_STATUS_BUSY = 0) {op : Nat} (hop : 1 ≤ op ∧ op ≤ 3) (cont fin : Bool) :
    s.pkeCommand op cont fin false = s.pkeStart op cont fin := by
  unfold State.pkeCommand
  rw [State.on_of_get_zero h]
  exact if_pos hop

theorem State.pkeStart_idle {s : State} (h : s.get PKE_STATUS_BUSY = 0) (op : Nat) (cont fin : Bool) : s.pkeStart op cont fin =
    ({ s with pke := { s.pke with run := some { op := op, cont := cont, fin := fin, src := s.get PKE_SRC_ADDR, len := s.get PKE_LEN_LEN, opaddr := s.get PKE_OPADDR_ADDR } } } : State).flag PKE_STATUS_BUSY true := by
  unfold State.pkeStart
  rw [State.on_of_get_zero h]
  rfl

theorem State.pkeCommand_restart {s : State} (h : s.get PKE_STATUS_BUSY = 0) : s.pkeCommand 0 false false true = s.rngRestart := by
  unfold State.pkeCommand
  rw [State.on_of_get_zero h]
  rfl

theorem State.pkeCommand_busy {s : State} (h : s.get PKE_STATUS_BUSY ≠ 0) (op : Nat) (cont fin restart : Bool) :
    s.pkeCommand op cont fin restart = s := if_pos (State.on_of_get_ne_zero h)

/-- What a fresh word leaves. -/
theorem State.rngFresh_shown (s : State) : s.rngFresh.get PKE_RNGSTAT_VALID = 1 ∧ s.rngFresh.get PKE_RNGSTAT_STARTUP = 0 ∧
    s.rngFresh.mac.lfsr = s.rngFresh.get PKE_RNG_VALUE ∧ s.rngFresh.free = s.free + 1 ∧ s.rngFresh.host = s.host := by
  unfold State.rngFresh State.drawFree
  dsimp only
  generalize hz : ({ s with free := s.free + 1 } : State) = z
  have hfree : z.free = s.free + 1 := hz ▸ rfl
  have hhost : z.host = s.host := hz ▸ rfl
  refine ⟨?_, ?_, (State.get_put_self _ PKE_RNG_VALUE _).symm, hfree, hhost⟩
  · exact (State.get_put_ne _ _ (by decide)).trans (State.get_flag_bit _ _ rfl)
  · exact (State.get_put_ne _ _ (by decide)).trans ((State.get_flag_ne _ _ (by decide)).trans (State.get_flag_bit _ _ rfl))

/-- `s` where a core's read answers `w`. -/
def State.readAnswered (s : State) (w : Nat) : State := { s with host := { s.host with readData := w } }

theorem rngRead_eq {s z : State} {w : Nat} (hread : s.rngRead = (w, z)) : exec .rngRead s = goOn (z.readAnswered w) := by
  show execRngRead s = _
  unfold execRngRead
  rw [hread]
  rfl

theorem rngRead_fresh {s : State} (h : s.get PKE_RNGSTAT_HEALTH_FAIL = 0) : completes .rngRead s fun t =>
    t.host.readData = t.get PKE_RNG_VALUE ∧ t.get PKE_RNGSTAT_VALID = 1 ∧ t.get PKE_RNGSTAT_STARTUP = 0 ∧
      t.mac.lfsr = t.get PKE_RNG_VALUE ∧ t.free = s.free + 1 := by
  have hread : s.rngRead = (s.rngFresh.get PKE_RNG_VALUE, s.rngFresh) := if_neg (by rw [State.on_of_get_zero h]; decide)
  obtain ⟨hvalid, hstarted, hlfsr, hfree, -⟩ := s.rngFresh_shown
  exact completes_of_goOn (rngRead_eq hread) ⟨rfl, hvalid, hstarted, hlfsr, hfree⟩

theorem rngWord_fresh {s : State} (h : s.get PKE_RNGSTAT_HEALTH_FAIL = 0) : completes .rngWord s fun t =>
    t.get PKE_RNGSTAT_VALID = 1 ∧ t.get PKE_RNGSTAT_STARTUP = 0 ∧ t.mac.lfsr = t.get PKE_RNG_VALUE ∧ t.host = s.host := by
  obtain ⟨hvalid, hstarted, hlfsr, -, hhost⟩ := s.rngFresh_shown
  exact completes_of_goOn (congrArg goOn (if_neg (by rw [State.on_of_get_zero h]; decide))) ⟨hvalid, hstarted, hlfsr, hhost⟩

theorem State.rngRead_failed {s : State} (h : s.get PKE_RNGSTAT_HEALTH_FAIL ≠ 0) : s.rngRead = (0, s) :=
  if_pos (State.on_of_get_ne_zero h)

theorem PKE_RNGSTAT_aside : PKE_RNGSTAT_HEALTH_FAIL.Aside ∧ PKE_RNGSTAT_VALID.Aside ∧ PKE_RNG_VALUE.Aside ∧ PKE_RNGSTAT_FAILS.Aside :=
  ⟨⟨⟨by decide, by decide, by decide⟩, by decide, by decide⟩, ⟨⟨by decide, by decide, by decide⟩, by decide, by decide⟩,
    ⟨⟨by decide, by decide, by decide⟩, by decide, by decide⟩, ⟨by decide, by decide, by decide⟩, by decide, by decide⟩

/-- The registers after a health failure, before its event. -/
def State.rngFailed (s : State) : State :=
  ((((s.flag PKE_RNGSTAT_HEALTH_FAIL true).flag PKE_RNGSTAT_VALID false).flag PKE_RNGSTAT_STARTUP false).put PKE_RNG_VALUE 0).bump PKE_RNGSTAT_FAILS

theorem State.rngFailed_shown (s : State) : s.rngFailed.get PKE_RNGSTAT_HEALTH_FAIL = 1 ∧ s.rngFailed.get PKE_RNGSTAT_VALID = 0 ∧
    s.rngFailed.get PKE_RNG_VALUE = 0 ∧ s.rngFailed.get PKE_RNGSTAT_FAILS = satInc 8 (s.get PKE_RNGSTAT_FAILS) % 2 ^ 8 := by
  unfold State.rngFailed
  refine ⟨?_, ?_, ?_, ?_⟩
  · rw [State.get_bump_ne _ (by decide), State.get_put_ne _ _ (by decide), State.get_flag_ne _ _ (by decide), State.get_flag_ne _ _ (by decide)]
    exact State.get_flag_bit _ _ rfl
  · rw [State.get_bump_ne _ (by decide), State.get_put_ne _ _ (by decide), State.get_flag_ne _ _ (by decide)]
    exact State.get_flag_bit _ _ rfl
  · rw [State.get_bump_ne _ (by decide), State.get_put_self]
    rfl
  · rw [State.bump, State.get_put_self, State.get_put_ne _ _ (by decide), State.get_flag_ne _ _ (by decide),
      State.get_flag_ne _ _ (by decide), State.get_flag_ne _ _ (by decide)]
    rfl

theorem trngHealth_fails {s : State} (hclosed : bit s.faults.openMask 0x19 = false) : completes .trngHealth s fun t =>
    t.get PKE_RNGSTAT_HEALTH_FAIL = 1 ∧ t.get PKE_RNGSTAT_VALID = 0 ∧ t.get PKE_RNG_VALUE = 0 ∧
      t.get PKE_RNGSTAT_FAILS = satInc 8 (s.get PKE_RNGSTAT_FAILS) % 2 ^ 8 ∧ t.event 69 = true ∧ t.event 9 = true ∧
      bit t.faults.openMask 0x19 = true := by
  obtain ⟨hfail, hvalid, hvalue, hfails⟩ := s.rngFailed_shown
  obtain ⟨afail, avalid, avalue, afails⟩ := PKE_RNGSTAT_aside
  have hfaults : (s.rngFailed.raise 69).faults = s.faults := State.raise_faults _ _
  have hopens := State.report_opens (s := s.rngFailed.raise 69) (src := 0x19) (by rwa [hfaults]) 0 0
  generalize hentry : ({ cls := 2, src := 0x19, addr := 0, detail := 0, tnet := 0, isOpen := true } : FaultEntry) = entry at hopens
  generalize hm : (s.rngFailed.raise 69).with_faults { (s.rngFailed.raise 69).faults with openMask := setBit (s.rngFailed.raise 69).faults.openMask 0x19 } = m at hopens
  have hget : ∀ f : RegField, m.get f = (s.rngFailed.raise 69).get f := fun f => hm ▸ rfl
  have hmask : bit m.faults.openMask 0x19 = true := by
    rw [← hm]
    exact bit_setBit _ _
  have hreported := (m.logEntry_supervised entry).trans (State.raise_supervised _ 9)
  have hkept : ∀ f : RegField, f.Aside → ((m.logEntry entry).raise 9).get f = s.rngFailed.get f := fun f hf =>
    (hreported.get f hf).trans ((hget f).trans ((State.raise_supervised _ 69).get f hf))
  have hevent : m.event 69 = true := by
    rw [← hm]
    exact State.event_raise _ 69
  refine completes_of_goOn (congrArg goOn hopens) ⟨(hkept _ afail).trans hfail, (hkept _ avalid).trans hvalid,
    (hkept _ avalue).trans hvalue, (hkept _ afails).trans hfails, hreported.event 69 hevent, State.event_raise _ 9, ?_⟩
  rw [State.raise_faults, State.openMask_logEntry, hmask]

/-! Attestation (R439) and the customer root key (R445). -/

theorem attestationNonce_eq {s : State} {n : List Byte} (hpos : 0 < n.length) (hle : n.length ≤ 32) :
    exec (.attestationNonce n) s = goOn (State.answerWritten (s.nonceWrite n)) :=
  congrArg goOn (if_neg (by omega))

theorem attestationNonce_signs {s : State} {n : List Byte} (hpos : 0 < n.length) (hle : n.length ≤ 32)
    (h : s.get PKE_RNGSTAT_HEALTH_FAIL = 0) : completes (.attestationNonce n) s fun t =>
      t.boot.report = s.attBody n ++ Config.sm2Sign (s.otp 0x060 32) (Config.sm3 (Config.sm2Za (s.otp 0x020 64) ++ s.attBody n)) (s.freeBytes 32).1 ∧
        t.host.result = .ok ∧ t.mem = s.mem := by
  have hwrite : s.nonceWrite n = (.ok, s.attest n) := if_neg (by rw [State.on_of_get_zero h]; decide)
  exact completes_of_goOn (attestationNonce_eq hpos hle) (by rw [hwrite]; exact ⟨rfl, rfl, rfl⟩)

theorem attestationNonce_unhealthy {s : State} {n : List Byte} (hpos : 0 < n.length) (hle : n.length ≤ 32)
    (h : s.get PKE_RNGSTAT_HEALTH_FAIL ≠ 0) : exec (.attestationNonce n) s = .next (s.answer .busy) := by
  have hwrite : s.nonceWrite n = (.busy, s) := if_pos (State.on_of_get_ne_zero h)
  rw [attestationNonce_eq hpos hle, hwrite]
  rfl

theorem customerRootKeyWrite_eq {s : State} {ky : List Byte} (env : DictEnv) (hlen : ky.length = 64) :
    exec (.customerRootKeyWrite ky env) s = goOn (State.answerWritten (s.rootKeyWrite ky env)) :=
  congrArg goOn (if_neg (by omega))

theorem State.customerRoot_installed {s : State} (h : s.otpNum 0x230 4 = 0x5A5A5A5A) : s.customerRoot = some (s.otp 0x1F0 64) := if_pos h

theorem State.customerRoot_blank {s : State} (h : s.otpNum 0x230 4 ≠ 0x5A5A5A5A) : s.customerRoot = none := if_neg h

/-- Of two byte strings stored as one, the second. -/
theorem State.bytes_setBytes_behind (s : State) (a : Nat) (bs cs : List Byte) :
    (s.setBytes a (bs ++ cs)).bytes (a + bs.length) cs.length = cs := by
  refine List.ext_getElem (by simp [State.bytes]) fun i hi hj => ?_
  have hbyte := s.byte_setBytes a (bs ++ cs) (bs.length + i) (by simp; omega)
  simpa [State.bytes, Nat.add_assoc, List.getElem_append_right] using hbyte

theorem customerRootKeyWrite_installs {s : State} {ky : List Byte} {env : DictEnv} (hlen : ky.length = 64)
    (hblank : s.otpNum 0x230 4 ≠ 0x5A5A5A5A) (hotp : env.otpFail = false) : completes (.customerRootKeyWrite ky env) s fun t =>
      t.customerRoot = some ky ∧ t.host.result = .ok ∧ t.auquerenRoot = s.auquerenRoot := by
  have hwrite : s.rootKeyWrite ky env = (.ok, s.setBytes 0x280001F0 (ky ++ leBytes 4 0x5A5A5A5A)) := by
    unfold State.rootKeyWrite
    rw [State.customerRoot_blank hblank, hotp]
    rfl
  generalize hz : s.setBytes 0x280001F0 (ky ++ leBytes 4 0x5A5A5A5A) = z at hwrite
  have hkey : z.otp 0x1F0 64 = ky := by
    have hfirst := s.bytes_setBytes_append 0x280001F0 ky (leBytes 4 0x5A5A5A5A)
    rwa [hlen, hz] at hfirst
  have hinstalled : z.otpNum 0x230 4 = 0x5A5A5A5A := by
    have hsecond := s.bytes_setBytes_behind 0x280001F0 ky (leBytes 4 0x5A5A5A5A)
    rw [hlen, leBytes_length, hz] at hsecond
    exact (congrArg leNat hsecond).trans (leNat_leBytes 4 _)
  have hroot : z.auquerenRoot = s.auquerenRoot := State.bytes_congr fun k hk => by
    rw [← hz]
    exact s.byte_setBytes_ne _ _ _ (.inl (by omega))
  exact completes_of_goOn (t := z.answer .ok) ((customerRootKeyWrite_eq env hlen).trans (by rw [hwrite]; rfl))
    ⟨(State.customerRoot_installed hinstalled).trans (congrArg some hkey), rfl, hroot⟩

theorem customerRootKeyWrite_installed {s : State} {ky : List Byte} (env : DictEnv) (hlen : ky.length = 64)
    (hinstalled : s.otpNum 0x230 4 = 0x5A5A5A5A) : exec (.customerRootKeyWrite ky env) s = .next (s.answer .access) := by
  have hwrite : s.rootKeyWrite ky env = (.access, s) := if_pos (by rw [State.customerRoot_installed hinstalled]; rfl)
  rw [customerRootKeyWrite_eq env hlen, hwrite]
  rfl

theorem customerRootKeyWrite_fails {s : State} {ky : List Byte} {env : DictEnv} (hlen : ky.length = 64)
    (hblank : s.otpNum 0x230 4 ≠ 0x5A5A5A5A) (hotp : env.otpFail = true) :
    exec (.customerRootKeyWrite ky env) s = .next (s.answer .persistFail) := by
  have hwrite : s.rootKeyWrite ky env = (.persistFail, s) := by
    unfold State.rootKeyWrite
    rw [State.customerRoot_blank hblank, hotp]
    rfl
  rw [customerRootKeyWrite_eq env hlen, hwrite]
  rfl

/-- Settles O55. That INVALID (5) is found before ACCESS (2) and FAULT (4), that the operand block lies word-aligned in system
SRAM, and that the first word ends the start-up test, is the model's choice by log entry 83. -/
theorem publicKeyHashAndRandom : Obligations.PublicKeyHashAndRandom := by
  unfold Obligations.PublicKeyHashAndRandom
  refine ⟨fun s ct fn h => ⟨?_, ?_, ?_, congrArg goOn (State.pkeCommand_restart h)⟩, fun s ct fn h => ⟨?_, ?_, ?_, ?_⟩,
    fun _ _ hrun hop hcont hfin hblock hspan hclean hpoison => pkeDone_digest hrun hop hcont hfin hblock hspan hclean hpoison,
    fun _ _ _ hrun hop hfin hlen hchain hspan hclean => pkeDone_chains hrun hop hfin hlen hchain hspan hclean,
    fun _ _ hrun hop hbad => pkeDone_sm3Fails hrun hop (State.sm3Run_invalid hbad) (by decide),
    fun _ _ hrun hop hchain hfin hlen hsys hflash => pkeDone_sm3Fails hrun hop
      (State.sm3Run_unread hchain hfin hlen (State.pkeRead_outside hsys hflash)) (by decide),
    fun _ _ hrun hop hchain hfin hlen hspan hpoison => pkeDone_sm3Fails hrun hop
      (State.sm3Run_unread hchain hfin hlen (State.pkeRead_poisoned hspan hpoison)) (by decide),
    fun _ _ hrun hop halign hspan hclean => pkeDone_verifies hrun hop halign hspan hclean,
    fun _ _ hrun hop hstarted hhealthy hblock hpoison => pkeDone_signs hrun hop hstarted hhealthy hblock hpoison,
    fun _ _ hrun hop hstarted hfail => pkeDone_unhealthy hrun hop hstarted hfail, fun _ h => rngRead_fresh h,
    fun _ h => rngWord_fresh h, fun s h => ⟨?_, congrArg goOn (if_pos (State.on_of_get_ne_zero h))⟩,
    fun _ hclosed => trngHealth_fails hclosed, fun _ _ hpos hle h => attestationNonce_signs hpos hle h,
    fun _ _ hpos hle h => attestationNonce_unhealthy hpos hle h,
    fun _ _ _ hlen hblank hotp => customerRootKeyWrite_installs hlen hblank hotp,
    fun _ _ env hlen hinstalled => customerRootKeyWrite_installed env hlen hinstalled,
    fun _ _ _ hlen hblank hotp => customerRootKeyWrite_fails hlen hblank hotp⟩
  · exact congrArg goOn ((State.pkeCommand_idle h (by decide) ct fn).trans (State.pkeStart_idle h 1 ct fn))
  · exact congrArg goOn ((State.pkeCommand_idle h (by decide) false false).trans (State.pkeStart_idle h 2 false false))
  · exact congrArg goOn ((State.pkeCommand_idle h (by decide) false false).trans (State.pkeStart_idle h 3 false false))
  · exact congrArg goOn (State.pkeCommand_busy h 1 ct fn false)
  · exact congrArg goOn (State.pkeCommand_busy h 2 false false false)
  · exact congrArg goOn (State.pkeCommand_busy h 3 false false false)
  · exact congrArg goOn (State.pkeCommand_busy h 0 false false true)
  · exact rngRead_eq (State.rngRead_failed h)

end Sys2Proof.Machine

/-! ## The object requests (O40) -/
namespace Sys2Proof.Machine

/-! The payload of an object request (R366). -/

section
variable (index : Fin 65536) (sub b : Fin 256) (rest : List Byte)

theorem reqKey_objAddress : reqKey (objAddress index sub b ++ rest) = 256 * index.val + sub.val := by
  have hindex : leAt (objAddress index sub b ++ rest) 0 2 = index.val := by
    rw [objAddress, List.append_assoc, List.append_assoc, leAt_start]
    exact Nat.mod_eq_of_lt index.isLt
  have hsub : leAt (objAddress index sub b ++ rest) 2 1 = sub.val := by
    rw [objAddress, List.append_assoc, List.append_assoc]
    exact (leAt_field (leBytes 2 index) _ _ rfl).trans (Nat.mod_eq_of_lt sub.isLt)
  unfold reqKey
  rw [hindex, hsub]

theorem leAt_objAddress_last : leAt (objAddress index sub b ++ rest) 3 1 = b.val := by
  rw [objAddress, List.append_assoc]
  exact (leAt_field (leBytes 2 index ++ leBytes 1 sub) _ _ rfl).trans (Nat.mod_eq_of_lt b.isLt)

theorem length_objAddress : (objAddress index sub b ++ rest).length = 4 + rest.length := by
  rw [List.length_append]
  rfl

theorem zeroAt_objAddress : zeroAt (objAddress index sub 0 ++ rest) 3 1 = true := rfl

end

/-! How a formed request for an object outside 0xC000 to 0xCFFF is served. -/

/-- The key is none of an application object. -/
def apart (key : Nat) : Prop := ¬(0xC00000 ≤ key ∧ key < 0xD00000)

theorem apart_of_index {index : Fin 65536} (h : index.val < 0xC000 ∨ 0xD000 ≤ index.val) (sub : Fin 256) :
    apart (256 * index.val + sub.val) := by
  unfold apart
  omega

section
variable {z : State} {who : HostId} {p : List Byte} (tid : Nat) (f : List Byte) (e : HostEnv) (hkey : apart (reqKey p))
include hkey

theorem State.odpServe_read (hformed : objFormed who 1 p = true) : z.odpServe who 1 tid p f e = z.odpReadObj who tid (reqKey p) :=
  (if_neg (by rw [hformed]; decide)).trans (if_neg fun h => hkey h.2)

theorem State.odpServe_write (hformed : objFormed who 2 p = true) :
    z.odpServe who 2 tid p f e = z.odpWriteObj who 2 tid (reqKey p) (p.drop 4) e :=
  (if_neg (by rw [hformed]; decide)).trans (if_neg fun h => hkey h.2)

theorem State.odpServe_readSeg (hformed : objFormed who 3 p = true) :
    z.odpServe who 3 tid p f e = z.odpReadSegObj who tid (reqKey p) (leAt p 4 4) :=
  (if_neg (by rw [hformed]; decide)).trans (if_neg fun h => hkey h.2)

theorem State.odpServe_writeSeg (hformed : objFormed who 4 p = true) : z.odpServe who 4 tid p f e =
    z.odpWriteSegObj who tid (reqKey p) (leAt p 3 1) (leAt p 4 4) (leAt p 8 4) (p.drop 12) e :=
  (if_neg (by rw [hformed]; decide)).trans (if_neg fun h => hkey h.2)

theorem State.odpServe_info {r : ObjRow} {i : Nat} (hformed : objFormed who 5 p = true) (hfound : findObj (reqKey p) = some (r, i)) :
    z.odpServe who 5 tid p f e = z.odpAnswer who 5 tid .ok (infoBody r) := by
  unfold State.odpServe
  dsimp only
  rw [if_neg (by rw [hformed]; decide), if_neg fun h => hkey h.2]
  simp only [hfound]

theorem State.odpServe_infoNone (hformed : objFormed who 5 p = true) (hnone : findObj (reqKey p) = none) :
    z.odpServe who 5 tid p f e = z.odpAnswer who 5 tid .noObject := by
  unfold State.odpServe
  dsimp only
  rw [if_neg (by rw [hformed]; decide), if_neg fun h => hkey h.2]
  simp only [hnone]
end

/-- The answer of a request that is not BUSY has left; only OK carries data. -/
theorem State.told_odpAnswer {z y : State} (h : OutputsAs z y) (who : HostId) {opc : Nat} (hopc : opc < 128) (tid : Nat)
    {st : OdpStatus} (hbusy : st ≠ .busy) : z.told (y.odpAnswer who opc tid st) who opc tid st (leBytes 1 st.code ++ [0, 0, 0]) = true := by
  by_cases hok : st = .ok
  · subst hok
    exact State.told_respond h who hopc tid .ok _
  · rw [State.odpAnswer_refused y who opc tid _ hok hbusy]
    exact State.told_respond h who hopc tid st _

theorem OutputsAs.dropSnapshot (y : State) (who : HostId) (key : Nat) : OutputsAs y (y.dropSnapshot who key) := ⟨rfl, rfl, rfl, rfl⟩

/-- The snapshot `x` joins the others. -/
def State.keepSnapshot (s : State) (x : Snapshot) : State := s.setHost { s.host with snapshots := s.host.snapshots ++ [x] }

theorem OutputsAs.keepSnapshot (y : State) (x : Snapshot) : OutputsAs y (y.keepSnapshot x) := ⟨rfl, rfl, rfl, rfl⟩

theorem State.odpReadObj_first {z u : State} {who : HostId} {key : Nat} {v : List Byte} (tid : Nat) (hread : z.objRead key = (.ok, v, u))
    (hlen : maxSeg who < v.length) (hroom : (z.dropSnapshot who key).host.snapshots.length < 4) : z.odpReadObj who tid key =
      ((u.dropSnapshot who key).keepSnapshot ⟨who, key, v⟩).respond who 1 tid .ok (readBody who key 0 v) := by
  unfold State.odpReadObj
  rw [hread]
  dsimp only
  rw [if_neg (by omega), if_pos hlen]
  rfl

theorem State.any_dropSnapshot (y : State) (who : HostId) (key : Nat) :
    (y.dropSnapshot who key).host.snapshots.any (fun x => decide (x.who = who) && x.key == key) = false := by
  refine List.any_eq_false.mpr fun x hx hmine => ?_
  have hother := (List.mem_filter.mp hx).2
  rw [hmine] at hother
  exact absurd hother (by decide)

/-- What a read's answer carries from `off` on. -/
theorem readBody_eq (who : HostId) (key : Nat) {off : Nat} {data : List Byte} (hoff : off ≤ data.length) : readBody who key off data =
    [0] ++ leBytes 1 (((findObj key).map fun (r : ObjRow × Nat) => r.1.type.code).getD 0) ++
      leBytes 1 (ofBool (decide (off + maxSeg who < data.length))) ++ [0] ++ leBytes 4 data.length ++ (data.drop off).take (maxSeg who) := by
  have hmore : decide (off + ((data.drop off).take (maxSeg who)).length < data.length) = decide (off + maxSeg who < data.length) := by
    refine decide_eq_decide.mpr ?_
    rw [List.length_take, List.length_drop]
    omega
  unfold readBody
  dsimp only
  rw [hmore]

/-! The services (R371, R372). -/

theorem findObj_sized {key n : Nat} (h : ((findObj key).any fun (r : ObjRow × Nat) => decide (n ≤ r.1.sizes.2)) = true) :
    ∃ r i, findObj key = some (r, i) ∧ n ≤ r.sizes.2 := by
  cases hrow : findObj key with
  | none =>
    rw [hrow] at h
    exact absurd h Bool.false_ne_true
  | some x =>
    rw [hrow] at h
    exact ⟨x.1, x.2, rfl, of_decide_eq_true h⟩

theorem maxSeg_le (who : HostId) : maxSeg who ≤ 1024 := by
  unfold maxSeg
  split <;> omega

section
variable {s z : State} {m : HostId} {env : HostEnv} (h : s.serves m env = true) (hz : s.admitted env.load = z)
include h hz

/-- An object request that is served. -/
theorem completes_object {c : Instr} {opc tid : Nat} {p : List Byte} {t : State} {P : State → Prop} (hopc : opc ≤ 5)
    (hexec : exec c s = goOn (s.odpFrom m opc tid p env)) (hlen : p.length ≤ 1400)
    (hserve : z.odpServe m opc tid p (odpFrame opc tid p) env = t) (hP : P t) : completes c s P := by
  obtain ⟨-, -, hload⟩ := State.of_serves h
  have hfrom := State.odpFrom_native h opc tid p
  rw [if_neg (by omega), if_neg (by omega), if_neg (by omega), hz, hserve] at hfrom
  exact completes_of_goOn (hexec.trans (congrArg goOn hfrom)) hP

section
variable {index : Fin 65536} {sub : Fin 256} {key : Nat} (ti : Fin 65536) (hkey : key = 256 * index.val + sub.val)
  (hrange : index.val < 0xC000 ∨ 0xD000 ≤ index.val)
include hkey hrange

theorem completes_read {P : State → Prop} (hP : P (z.odpReadObj m ti key)) : completes (.odpRead m ti index sub env) s P := by
  have hreq : reqKey (objAddress index sub 0) = key := (reqKey_objAddress index sub 0 []).trans hkey.symm
  refine completes_object h hz (by decide) rfl (show 4 ≤ 1400 by decide) ((State.odpServe_read _ _ _ ?_ ?_).trans (by rw [hreq])) hP
  · rw [hreq, hkey]
    exact apart_of_index hrange sub
  · exact zeroAt_objAddress index sub []

theorem odpRead_whole {u : State} {v : List Byte} (hok : (z.objRead key).1 = .ok) (hv : (z.objRead key).2.1 = v)
    (hu : (z.objRead key).2.2 = u) (hlen : v.length ≤ maxSeg m) (hroom : (z.dropSnapshot m key).host.snapshots.length < 4) :
    completes (.odpRead m ti index sub env) s fun t => u.told t m 1 ti .ok ([0] ++
      leBytes 1 (((findObj key).map fun (r : ObjRow × Nat) => r.1.type.code).getD 0) ++ [0, 0] ++ leBytes 4 v.length ++ v) = true := by
  have hread : z.objRead key = (.ok, v, u) := Prod.ext hok (Prod.ext hv hu)
  have hbody : readBody m key 0 v = [0] ++ leBytes 1 (((findObj key).map fun (r : ObjRow × Nat) => r.1.type.code).getD 0) ++ [0, 0] ++
      leBytes 4 v.length ++ v := by
    rw [readBody_eq m key (Nat.zero_le _), decide_eq_false (by omega), List.drop_zero, List.take_of_length_le hlen]
    rfl
  refine completes_read h hz ti hkey hrange ?_
  unfold State.odpReadObj
  rw [hread]
  dsimp only
  rw [if_neg (by omega), if_neg (by omega), State.odpAnswer_ok, hbody]
  exact State.told_respond (.dropSnapshot u m key) m (by decide) _ _ _

theorem odpRead_first {u : State} {v : List Byte} (hok : (z.objRead key).1 = .ok) (hv : (z.objRead key).2.1 = v)
    (hu : (z.objRead key).2.2 = u) (hlen : maxSeg m < v.length) (hroom : (z.dropSnapshot m key).host.snapshots.length < 4) :
    completes (.odpRead m ti index sub env) s fun t => u.told t m 1 ti .ok ([0] ++
      leBytes 1 (((findObj key).map fun (r : ObjRow × Nat) => r.1.type.code).getD 0) ++ [1, 0] ++ leBytes 4 v.length ++
      v.take (maxSeg m)) = true ∧ t.host.snapshots.getLast? = some ⟨m, key, v⟩ := by
  have hread : z.objRead key = (.ok, v, u) := Prod.ext hok (Prod.ext hv hu)
  have hbody : readBody m key 0 v = [0] ++ leBytes 1 (((findObj key).map fun (r : ObjRow × Nat) => r.1.type.code).getD 0) ++ [1, 0] ++
      leBytes 4 v.length ++ v.take (maxSeg m) := by
    rw [readBody_eq m key (Nat.zero_le _), decide_eq_true (by omega), List.drop_zero]
    rfl
  refine completes_read h hz ti hkey hrange ?_
  rw [State.odpReadObj_first ti hread hlen hroom, hbody]
  refine ⟨State.told_respond ((OutputsAs.dropSnapshot u m key).trans (.keepSnapshot _ _)) m (by decide) _ _ _, ?_⟩
  rw [(State.respond_kept _ _ _ _ _ _).2.2.2]
  exact List.getLast?_concat

theorem odpReadSeg_part {x : Snapshot} {off : Word}
    (hfound : (z.host.snapshots.find? fun y => decide (y.who = m) && y.key == key) = some x) (hoff : off.toNat < x.data.length) :
    completes (.odpReadSeg m ti index sub off env) s fun t => z.told t m 3 ti .ok ([0] ++
      leBytes 1 (((findObj key).map fun (r : ObjRow × Nat) => r.1.type.code).getD 0) ++
      leBytes 1 (ofBool (decide (off.toNat + maxSeg m < x.data.length))) ++ [0] ++ leBytes 4 x.data.length ++
      (x.data.drop off.toNat).take (maxSeg m)) = true ∧
      t.host.snapshots.any (fun y => decide (y.who = m) && y.key == key) = decide (off.toNat + maxSeg m < x.data.length) := by
  have hreq : reqKey (objAddress index sub 0 ++ leBytes 4 off.toNat) = key := (reqKey_objAddress index sub 0 _).trans hkey.symm
  have hat : leAt (objAddress index sub 0 ++ leBytes 4 off.toNat) 4 4 = off.toNat :=
    (leAt_end _ 4 _ rfl).trans (Nat.mod_eq_of_lt off.isLt)
  have hserve : z.odpServe m 3 ti (objAddress index sub 0 ++ leBytes 4 off.toNat)
      (odpFrame 3 ti (objAddress index sub 0 ++ leBytes 4 off.toNat)) env = z.odpReadSegObj m ti key off.toNat := by
    refine (State.odpServe_readSeg _ _ _ ?_ ?_).trans (by rw [hreq, hat])
    · rw [hreq, hkey]
      exact apart_of_index hrange sub
    · exact zeroAt_objAddress index sub (leBytes 4 off.toNat)
  refine completes_object h hz (by decide) rfl (show 8 ≤ 1400 by decide) hserve ?_
  unfold State.odpReadSegObj
  rw [hfound]
  dsimp only
  rw [if_neg (by omega), State.odpAnswer_ok, readBody_eq m key (by omega)]
  by_cases hlast : x.data.length ≤ off.toNat + maxSeg m
  · rw [if_pos hlast, decide_eq_false (by omega)]
    refine ⟨State.told_respond (.dropSnapshot z m key) m (by decide) _ _ _, ?_⟩
    rw [(State.respond_kept _ _ _ _ _ _).2.2.2]
    exact State.any_dropSnapshot z m key
  · rw [if_neg hlast, decide_eq_true (by omega)]
    refine ⟨State.told_respond (.refl z) m (by decide) _ _ _, ?_⟩
    rw [(State.respond_kept _ _ _ _ _ _).2.2.2]
    have hmine := List.find?_some hfound
    exact List.any_eq_true.mpr ⟨x, List.mem_of_find?_eq_some hfound, hmine⟩

theorem completes_write {v : List Byte} {P : State → Prop} (hlen : v.length ≤ maxSeg m) (hP : P (z.odpWriteObj m 2 ti key v env)) :
    completes (.odpWrite m ti index sub v env) s P := by
  have hreq : reqKey (objAddress index sub 0 ++ v) = key := (reqKey_objAddress index sub 0 v).trans hkey.symm
  have hbound := maxSeg_le m
  refine completes_object h hz (by decide) rfl (by rw [show (objAddress index sub 0 ++ v).length = _ from length_objAddress index sub 0 v]; omega)
    ((State.odpServe_write _ _ _ ?_ ?_).trans (by rw [hreq]; rfl)) hP
  · rw [hreq, hkey]
    exact apart_of_index hrange sub
  · show (decide (4 ≤ (objAddress index sub 0 ++ v).length) && decide ((objAddress index sub 0 ++ v).length ≤ 4 + maxSeg m) &&
      zeroAt (objAddress index sub 0 ++ v) 3 1) = true
    rw [zeroAt_objAddress, show (objAddress index sub 0 ++ v).length = _ from length_objAddress index sub 0 v]
    simpa using hlen

omit h hz hrange hkey in
theorem State.odpWriteObj_eq {y u : State} {st : OdpStatus} {v : List Byte} (opc tid : Nat)
    (hst : (y.objWrite key v (y.owns m) y.ownerFree env.dict).1 = st) (hu : (y.objWrite key v (y.owns m) y.ownerFree env.dict).2 = u) :
    y.odpWriteObj m opc tid key v env = u.odpAnswer m opc tid st := by
  unfold State.odpWriteObj
  rw [show y.objWrite key v (y.owns m) y.ownerFree env.dict = (st, u) from Prod.ext hst hu]

theorem odpWrite_answers {u : State} {v : List Byte} {st : OdpStatus} (hlen : v.length ≤ maxSeg m)
    (hst : (z.objWrite key v (z.owns m) z.ownerFree env.dict).1 = st) (hu : (z.objWrite key v (z.owns m) z.ownerFree env.dict).2 = u)
    (hbusy : st ≠ .busy) : completes (.odpWrite m ti index sub v env) s fun t =>
      u.told t m 2 ti st (leBytes 1 st.code ++ [0, 0, 0]) = true := by
  refine completes_write h hz ti hkey hrange hlen ?_
  rw [State.odpWriteObj_eq 2 ti hst hu]
  exact State.told_odpAnswer (.refl u) m (by decide) _ hbusy

theorem completes_writeSeg {flags : Fin 256} (hflags : flags.val < 4) {off n : Word} {v : List Byte} {P : State → Prop}
    (hlen : v.length ≤ maxSeg m) (hP : P (z.odpWriteSegObj m ti key flags off.toNat n.toNat v env)) :
    completes (.odpWriteSeg m ti index sub flags off n v env) s P := by
  have hbound := maxSeg_le m
  have hassoc : objAddress index sub flags ++ leBytes 4 off.toNat ++ leBytes 4 n.toNat ++ v =
      objAddress index sub flags ++ (leBytes 4 off.toNat ++ (leBytes 4 n.toNat ++ v)) := by simp
  have hflag := leAt_objAddress_last index sub flags (leBytes 4 off.toNat ++ (leBytes 4 n.toNat ++ v))
  have hreq := (reqKey_objAddress index sub flags (leBytes 4 off.toNat ++ (leBytes 4 n.toNat ++ v))).trans hkey.symm
  have hat : leAt (objAddress index sub flags ++ (leBytes 4 off.toNat ++ (leBytes 4 n.toNat ++ v))) 4 4 = off.toNat :=
    (leAt_field _ _ _ rfl).trans (Nat.mod_eq_of_lt off.isLt)
  have htotal : leAt (objAddress index sub flags ++ (leBytes 4 off.toNat ++ (leBytes 4 n.toNat ++ v))) 8 4 = n.toNat := by
    rw [← List.append_assoc]
    exact (leAt_field _ _ _ rfl).trans (Nat.mod_eq_of_lt n.isLt)
  have hdata : (objAddress index sub flags ++ (leBytes 4 off.toNat ++ (leBytes 4 n.toNat ++ v))).drop 12 = v := rfl
  have hlength : (objAddress index sub flags ++ (leBytes 4 off.toNat ++ (leBytes 4 n.toNat ++ v))).length = 12 + v.length := by
    rw [length_objAddress]
    simp
    omega
  rw [← hassoc] at hflag hreq hat htotal hdata hlength
  have hexec : exec (.odpWriteSeg m ti index sub flags off n v env) s =
      goOn (s.odpFrom m 4 ti (objAddress index sub flags ++ leBytes 4 off.toNat ++ leBytes 4 n.toNat ++ v) env) := rfl
  generalize objAddress index sub flags ++ leBytes 4 off.toNat ++ leBytes 4 n.toNat ++ v = p at *
  refine completes_object h hz (by decide) hexec (by omega) ((State.odpServe_writeSeg _ _ _ ?_ ?_).trans
    (by rw [hreq, hflag, hat, htotal, hdata])) hP
  · rw [hreq, hkey]
    exact apart_of_index hrange sub
  · show (decide (12 ≤ p.length) && decide (p.length ≤ 12 + maxSeg m) && decide (leAt p 3 1 < 4)) = true
    rw [hlength, hflag]
    simpa using ⟨hlen, hflags⟩

theorem odpWriteSeg_opens {v : List Byte} {n : Word} (hfound : ((findObj key).any fun (r : ObjRow × Nat) => decide (n.toNat ≤ r.1.sizes.2)) = true)
    (hfits : v.length ≤ n.toNat) (hlen : v.length ≤ maxSeg m) : completes (.odpWriteSeg m ti index sub 1 0 n v env) s fun t =>
      t.host.stagings.getLast? = some ⟨m, key, n.toNat, v, (0, v.length)⟩ ∧ t.host.result = .ok ∧ t.host.output = [0, 0, 0, 0] := by
  refine completes_writeSeg h hz ti hkey hrange (by decide) hlen ?_
  obtain ⟨r, i, hrow, hroom⟩ := findObj_sized hfound
  unfold State.odpWriteSegObj
  rw [hrow]
  dsimp only
  rw [if_pos (by decide), if_neg (by simp), if_neg (by omega)]
  unfold State.segJoined
  rw [if_neg (by rw [show bit (1 : Fin 256).val 1 = false from rfl]; simp; omega), if_neg (by decide)]
  dsimp only
  rw [State.odpAnswer_ok]
  obtain ⟨hresult, houtput⟩ := State.respond_result _ m 4 ti .ok okBody
  refine ⟨?_, hresult, houtput⟩
  rw [(State.respond_kept _ _ _ _ _ _).2.2.1]
  exact List.getLast?_concat

theorem odpWriteSeg_ends {u : State} {v w : List Byte} {n off : Word} {g : Staging} {st : OdpStatus}
    (hfound : (findObj key).isSome = true) (hstaged : (z.host.stagings.find? fun y => decide (y.who = m) && y.key == key) = some g)
    (htotal : g.total = n.toNat) (hoff : off.toNat = g.data.length) (hlen : v.length ≤ maxSeg m) (hw : w = g.data ++ v)
    (hwhole : w.length = n.toNat) (hst : ((z.dropStaging m key).objWrite key w (z.owns m) z.ownerFree env.dict).1 = st)
    (hu : ((z.dropStaging m key).objWrite key w (z.owns m) z.ownerFree env.dict).2 = u) (hbusy : st ≠ .busy) :
    completes (.odpWriteSeg m ti index sub 2 off n v env) s fun t => u.told t m 4 ti st (leBytes 1 st.code ++ [0, 0, 0]) = true := by
  refine completes_writeSeg h hz ti hkey hrange (by decide) hlen ?_
  obtain ⟨⟨r, i⟩, hrow⟩ := Option.isSome_iff_exists.mp hfound
  unfold State.odpWriteSegObj
  rw [hrow]
  dsimp only
  rw [if_neg (by decide), hstaged]
  dsimp only
  rw [if_neg (by omega), if_pos hoff, ← hw]
  unfold State.segJoined
  rw [if_neg (by rw [hwhole, htotal]; simp), if_pos (by decide),
    State.odpWriteObj_eq (y := z.dropStaging m key) 4 ti hst hu]
  exact State.told_odpAnswer (.refl u) m (by decide) _ hbusy

theorem completes_info {t : State} {P : State → Prop} (hserve : reqKey (objAddress index sub 0) = key → apart (reqKey (objAddress index sub 0)) →
      z.odpServe m 5 ti (objAddress index sub 0) (odpFrame 5 ti (objAddress index sub 0)) env = t) (hP : P t) :
    completes (.odpInfo m ti index sub env) s P := by
  have hreq : reqKey (objAddress index sub 0) = key := (reqKey_objAddress index sub 0 []).trans hkey.symm
  refine completes_object h hz (by decide) rfl (show 4 ≤ 1400 by decide) (hserve hreq ?_) hP
  rw [hreq, hkey]
  exact apart_of_index hrange sub

theorem odpInfo_answers (hfound : (findObj key).isSome = true) : completes (.odpInfo m ti index sub env) s fun t =>
    z.told t m 5 ti .ok (((findObj key).map fun (r : ObjRow × Nat) => [0] ++ leBytes 1 r.1.type.code ++ leBytes 1 r.1.access.code ++
      leBytes 1 (ofBool r.1.persist) ++ leBytes 4 r.1.sizes.2).getD []) = true := by
  obtain ⟨⟨r, i⟩, hrow⟩ := Option.isSome_iff_exists.mp hfound
  refine completes_info h hz ti hkey hrange (fun hreq hapart => State.odpServe_info _ _ _ hapart (zeroAt_objAddress index sub [])
    (by rw [hreq]; exact hrow)) ?_
  rw [State.odpAnswer_ok, hrow]
  exact State.told_respond (.refl z) m (by decide) _ _ _

theorem odpInfo_none (hnone : (findObj key).isNone = true) : completes (.odpInfo m ti index sub env) s fun t =>
    z.told t m 5 ti .noObject [2, 0, 0, 0] = true :=
  completes_info h hz ti hkey hrange (fun hreq hapart => State.odpServe_infoNone _ _ _ hapart (zeroAt_objAddress index sub [])
    (by rw [hreq]; exact Option.isNone_iff_eq_none.mp hnone)) (State.told_odpAnswer (.refl z) m (by decide) _ (by decide))
end
end

/-! Object 0x1024.00, the time of the keep-alive (R375). -/

/-- The row of object 0x1024.00. -/
def keepaliveRow : ObjRow := keptObj 0x102400 .u16 (leBytes 2 1000) 100 10000

theorem findObj_keepalive : findObj 0x102400 = some (keepaliveRow, 0) := rfl

theorem objRead_keepalive {s : State} {v : List Byte} (h : Sparse.read [] s.objs 0x102400 = v) (hne : v ≠ []) :
    (s.objRead 0x102400).2.1 = v := by
  have hread : (s.objRead 0x102400).2.1 = s.kept 0x102400 (leBytes 2 1000) := by
    unfold State.objRead
    rw [findObj_keepalive]
    rfl
  rw [hread]
  unfold State.kept
  rw [h]
  cases v with
  | nil => exact absurd rfl hne
  | cons b bs => rfl

theorem keepaliveRow_write {v : Nat} (hv : v < 65536) (e : DictEnv) (s : State) : keepaliveRow.write 0 (leBytes 2 v) e s =
    if 100 ≤ v ∧ v ≤ 10000 then (.ok, s.setObj 0x102400 (leBytes 2 v)) else (.range, s) := by
  have hrange : (inRange 100 10000 (objInt .u16 (leBytes 2 v)) = true) = (100 ≤ v ∧ v ≤ 10000) := by
    have hint : objInt .u16 (leBytes 2 v) = (v : Int) := by
      show ((leNat (leBytes 2 v) : Nat) : Int) = v
      rw [leNat_leBytes, Nat.mod_eq_of_lt (show v < 256 ^ 2 by omega)]
    rw [hint]
    simp [inRange]
  show (if inRange 100 10000 (objInt .u16 (leBytes 2 v)) = true then (_, _) else (_, _)) = _
  simp only [hrange]

/-- A write of the owner of the object, which is stored. -/
theorem objWrite_keepalive {s : State} {v : Nat} {e : DictEnv} (free : Bool) (hv : v < 65536) (hstore : e.storeFail = false) :
    s.objWrite 0x102400 (leBytes 2 v) true free e = if 100 ≤ v ∧ v ≤ 10000 then
      (.ok, (s.setObj 0x102400 (leBytes 2 v)).persist 0x102400 (leBytes 2 v)) else (.range, s) := by
  have hwrite := keepaliveRow_write hv e s
  unfold State.objWrite
  rw [findObj_keepalive]
  dsimp only
  rw [hwrite]
  by_cases hin : 100 ≤ v ∧ v ≤ 10000
  · rw [if_pos hin, if_pos hin]
    dsimp only
    rw [hstore]
    simp [keepaliveRow, keptObj, halfBKey, ObjRow.fits, within, ObjType.size]
  · rw [if_neg hin, if_neg hin]
    simp [keepaliveRow, keptObj, halfBKey, ObjRow.fits, within, ObjType.size]

theorem objs_respond (y : State) (who : HostId) (opc tid : Nat) (st : OdpStatus) (body : List Byte) :
    (y.respond who opc tid st body).objs = y.objs := rfl

theorem odpWrite_keepalive {s z : State} {m : HostId} {env : HostEnv} (ti : Fin 65536) {v : Nat} (h : s.serves m env = true)
    (hz : s.admitted env.load = z) (howns : s.owns m = true) (hv : v < 65536) (hstore : env.dict.storeFail = false) :
    completes (.odpWrite m ti 0x1024 0 (leBytes 2 v) env) s fun t =>
      t.host.result = (if 100 ≤ v ∧ v ≤ 10000 then .ok else .range) ∧
        ((100 ≤ v ∧ v ≤ 10000) → (t.objRead 0x102400).2.1 = leBytes 2 v) ∧ (v < 100 ∨ 10000 < v → t.objs = s.objs) := by
  have hzowns : z.owns m = true := hz ▸ howns
  have hobjs : z.objs = s.objs := hz ▸ rfl
  have hwrite := objWrite_keepalive (s := z) z.ownerFree hv hstore
  rw [← hzowns] at hwrite
  refine completes_write h hz ti (key := 0x102400) rfl (.inl (by decide)) (by unfold maxSeg; split <;> simp) ?_
  by_cases hin : 100 ≤ v ∧ v ≤ 10000
  · rw [if_pos hin] at hwrite ⊢
    rw [State.odpWriteObj_eq 2 ti (congrArg Prod.fst hwrite) (congrArg Prod.snd hwrite), State.odpAnswer_ok]
    refine ⟨(State.respond_result _ _ _ _ _ _).1, fun _ => objRead_keepalive ?_ (by simp [leBytes]), fun hout => by omega⟩
    rw [objs_respond, (State.persist_moves _ _ _).1 .objs rfl]
    exact (Sparse.read_write ([] : List Byte) z.objs 0x102400 0x102400 (leBytes 2 v)).trans (if_pos rfl)
  · rw [if_neg hin] at hwrite ⊢
    rw [State.odpWriteObj_eq 2 ti (congrArg Prod.fst hwrite) (congrArg Prod.snd hwrite),
      State.odpAnswer_refused _ _ _ _ _ (by simp) (by simp)]
    exact ⟨(State.respond_result _ _ _ _ _ _).1, fun hyes => absurd hyes hin, fun _ => hobjs⟩

/-- Settles O40. -/
theorem objectRequestsAreServed : Obligations.ObjectRequestsAreServed := by
  unfold Obligations.ObjectRequestsAreServed
  exact ⟨fun _ _ _ ti _ _ _ _ _ _ h hz hkey hrange hok hv hu hlen hroom => odpRead_whole h hz ti hkey hrange hok hv hu hlen hroom,
    fun _ _ _ ti _ _ _ _ _ _ h hz hkey hrange hok hv hu hlen hroom => odpRead_first h hz ti hkey hrange hok hv hu hlen hroom,
    fun _ _ _ ti _ _ _ _ _ _ h hz hkey hrange hfound hoff => odpReadSeg_part h hz ti hkey hrange hfound hoff,
    fun _ _ _ ti _ _ _ _ _ _ _ h hz hkey hrange hlen hst hu hbusy => odpWrite_answers h hz ti hkey hrange hlen hst hu hbusy,
    fun _ _ _ ti _ _ _ _ _ _ h hz hkey hrange hfound hfits hlen => odpWriteSeg_opens h hz ti hkey hrange hfound hfits hlen,
    fun _ _ _ ti _ _ _ _ _ _ _ _ _ _ _ h hz hkey hrange hfound hstaged htotal hoff hlen hw hwhole hst hu hbusy =>
      odpWriteSeg_ends h hz ti hkey hrange hfound hstaged htotal hoff hlen hw hwhole hst hu hbusy,
    fun _ _ _ ti _ _ _ _ h hz hkey hrange hfound => odpInfo_answers h hz ti hkey hrange hfound,
    fun _ _ _ ti _ _ _ _ h hz hkey hrange hnone => odpInfo_none h hz ti hkey hrange hnone,
    fun _ _ _ ti _ _ h hz howns hv hstore => odpWrite_keepalive ti h hz howns hv hstore⟩

end Sys2Proof.Machine

/-! ## Boot, update and swap (O53) -/
namespace Sys2Proof.Machine

/-! Memory beyond the flash. -/

/-- From `s` to `t` the bytes beyond the flash stay. -/
def BeyondFlash (s t : State) : Prop := ∀ a, 0x20000000 ≤ a → t.byte a = s.byte a

theorem BeyondFlash.trans {r s t : State} (h : BeyondFlash r s) (g : BeyondFlash s t) : BeyondFlash r t :=
  fun a ha => (g a ha).trans (h a ha)

theorem Moves.beyondFlash {m : Nat} {s t : State} (h : Moves m s t) (hm : m.testBit 2 = false) : BeyondFlash s t :=
  fun a _ => (h.1 .mem hm a : t.byte a = s.byte a)

theorem BeyondFlash.ite {r s t : State} {p : Prop} [Decidable p] (hs : BeyondFlash r s) (ht : BeyondFlash r t) :
    BeyondFlash r (if p then s else t) := by
  split
  · exact hs
  · exact ht

theorem State.setPageRaw_beyondFlash (s : State) {p : Nat} (hp : p < 4096) (raw : List Byte) : BeyondFlash s (s.setPageRaw p raw) := by
  intro a ha
  have hlen : (raw.take 2048).length ≤ 2048 := List.length_take_le _ _
  exact s.byte_setBytes_ne _ _ a (.inr (by omega))

theorem State.agentProgram_beyondFlash (s : State) {p : Nat} (hp : p < 4096) (data : List Byte) : BeyondFlash s (s.agentProgram p data) := by
  unfold State.agentProgram
  exact ((s.setPageRaw_beyondFlash hp _).trans ((State.dropBufs_moves _ _ _).beyondFlash rfl)).trans
    ((State.raise_moves _ _).beyondFlash rfl)

theorem markPage_lt {k : Nat} (hk : k ≤ 1) (magic : Nat) : markPage k magic < 4096 := by
  unfold markPage
  split <;> omega

theorem State.jnlErase_beyondFlash (s : State) {k h : Nat} (hk : k ≤ 1) (hh : h ≤ 1) : BeyondFlash s (s.jnlErase k h) := by
  intro a ha
  refine s.byte_zeroBytes_ne _ _ (.inr ?_)
  unfold jnlAddr
  omega

theorem jnlRecord_length (type block flags count seq : Nat) : (jnlRecord type block flags count seq).length = 16 := by
  unfold jnlRecord
  simp [fcs32]

/-- The bytes of `n` records of one length. -/
theorem length_flatten_range {α : Type} {f : Nat → List α} {k : Nat} (h : ∀ b, (f b).length = k) (n : Nat) :
    ((List.range n).map f).flatten.length = n * k := by
  simp [List.length_flatten, Function.comp_def, h]

theorem State.byte_setBank (s : State) (k : Nat) (b : FlashBank) (a : Nat) : (s.setBank k b).byte a = s.byte a :=
  (s.setBank_moves k b).1 .mem rfl a

theorem State.jnlSnapshot_beyondFlash (s : State) {k h : Nat} (hk : k ≤ 1) (hh : h ≤ 1) : BeyondFlash s (s.jnlSnapshot k h) := by
  intro a ha
  unfold State.jnlSnapshot
  extract_lets seq recs z
  have hlen : (recs.flatten ++ jnlRecord 0x5A04 0xFF 0 64 (seq + 64)).length = 1040 := by
    rw [List.length_append, jnlRecord_length, length_flatten_range fun b => jnlRecord_length _ _ _ _ _]
  rw [State.byte_setBank, State.byte_put, State.byte_put]
  refine s.byte_setBytes_ne (jnlAddr k h 0) (recs.flatten ++ jnlRecord 0x5A04 0xFF 0 64 (seq + 64)) a (.inr ?_)
  rw [hlen]
  unfold jnlAddr
  omega

theorem State.scanBank_beyondFlash (s : State) {k : Nat} (hk : k ≤ 1) : BeyondFlash s (s.scanBank k) := by
  unfold State.scanBank
  extract_lets h0 h1 use1
  refine .ite ((State.scanHalf_moves _ _ _ _).beyondFlash rfl) (.ite ((State.scanHalf_moves _ _ _ _).beyondFlash rfl) ?_)
  exact (((s.jnlErase_beyondFlash hk (by decide)).trans (State.jnlErase_beyondFlash _ hk (by decide))).trans
    (State.jnlSnapshot_beyondFlash _ hk (by decide))).trans
    ((State.flag_moves (m := 1099511627776) _ _ FLC_STATUS_JNL_RESET_block rfl).beyondFlash rfl)

/-! The boot (R430, R431). -/

/-- The boot is no longer due. -/
def State.bootTaken (s : State) : State := s.setBoot { s.boot with due := false }

/-- An OTP that does not read sound is reported (R423). -/
def State.otpReported (s : State) : State := if s.identityOk then s else s.report 2 0x1F 0x28000000 0

/-- The registers that show the OTP, and the release of the compatibility engine. -/
def State.otpShown (s : State) : State := ((s.flag RFC_REGSTAT_REGLOCK s.regLocked).lgyFlag 44).loadCounters

theorem State.romStart_eq (s : State) : s.romStart = (s.bootTaken.otpDefaults.otpReported.otpShown.scanBank 0).scanBank 1 := rfl

theorem State.otpReported_moves (s : State) : Moves 35459384315952 s s.otpReported := by
  unfold State.otpReported
  split
  · exact Moves.refl
  · exact s.report_moves _ _ _ _

theorem State.otpShown_moves (s : State) : Moves 21990500990976 s s.otpShown :=
  ((State.flag_moves (m := 268435456) _ _ RFC_REGSTAT_REGLOCK_block rfl).mono rfl).trans
    (((State.lgyFlag_moves _ _).mono rfl).trans ((State.loadCounters_moves _).mono rfl))

theorem State.romRead_kept (s : State) : s.bootTaken.otpDefaults.otpReported.otpShown.boot = { s.boot with due := false } ∧
    BeyondFlash s s.bootTaken.otpDefaults.otpReported.otpShown := by
  have hdefaults := s.bootTaken.otpDefaults_moves
  have hreported := s.bootTaken.otpDefaults.otpReported_moves
  have hshown := s.bootTaken.otpDefaults.otpReported.otpShown_moves
  exact ⟨(hshown.1 .boot rfl).trans ((hreported.1 .boot rfl).trans (hdefaults.1 .boot rfl)),
    (hdefaults.beyondFlash rfl).trans ((hreported.beyondFlash rfl).trans (hshown.beyondFlash rfl))⟩

theorem State.romStart_kept (s : State) : s.romStart.boot = { s.boot with due := false } ∧ BeyondFlash s s.romStart := by
  obtain ⟨hboot, hbytes⟩ := s.romRead_kept
  rw [State.romStart_eq]
  refine ⟨((State.scanBank_moves _ 1).1 .boot rfl).trans (((State.scanBank_moves _ 0).1 .boot rfl).trans hboot), ?_⟩
  exact (hbytes.trans (State.scanBank_beyondFlash _ (by decide))).trans (State.scanBank_beyondFlash _ (by decide))

theorem State.rootBlank_congr {s t : State} (h : BeyondFlash s t) : t.rootBlank = s.rootBlank := by
  have hroot : t.auquerenRoot = s.auquerenRoot := State.bytes_congr fun k _ => h _ (by omega)
  unfold State.rootBlank
  rw [hroot]

/-- The ROM stays, before E0. -/
def State.romStays (s : State) : State :=
  let s := s.setBoot { s.boot with recoveryReq := false, firmware := false }
  (s.put PRC_MODE_PREV s.mode).put PRC_MODE_MODE modeRecovery

theorem State.enterRecovery_eq (s : State) : s.enterRecovery = s.romStays.raise 0 := rfl

theorem PRC_MODE_MODE_aside : PRC_MODE_MODE.Aside := ⟨⟨by decide, by decide, by decide⟩, by decide, by decide⟩

theorem BTU_BOOTSTAT_OTP_FAULT_aside : BTU_BOOTSTAT_OTP_FAULT.Aside := ⟨⟨by decide, by decide, by decide⟩, by decide, by decide⟩

/-- What the entry into Recovery shows. -/
theorem State.enterRecovery_shown (s : State) : s.enterRecovery.mode = modeRecovery ∧ s.enterRecovery.event 0 = true ∧
    s.enterRecovery.boot = { s.boot with recoveryReq := false, firmware := false } ∧
    s.enterRecovery.get BTU_BOOTSTAT_OTP_FAULT = s.get BTU_BOOTSTAT_OTP_FAULT := by
  rw [State.enterRecovery_eq]
  refine ⟨?_, State.event_raise _ 0, State.raise_boot _ 0, ?_⟩
  · exact ((State.raise_supervised _ 0).get _ PRC_MODE_MODE_aside).trans (State.get_put_self _ _ _)
  · refine ((State.raise_supervised _ 0).get _ BTU_BOOTSTAT_OTP_FAULT_aside).trans ?_
    exact (State.get_put_ne _ _ (by decide)).trans (State.get_put_ne _ _ (by decide))

/-! The confirmation of a trial (R432, R433). -/

/-- The counters of the installed components are raised. -/
def State.counted (s : State) (otpFail : Bool) : State :=
  [1, 2, 3, 4, 5].foldl (fun (s : State) c => match s.installed c with
    | some m => s.raiseCounter c (manSvn m) otpFail
    | none => s) s

theorem State.confirm_eq (s : State) (otpFail : Bool) : s.confirm otpFail =
    ((s.writeMarker s.mappedBank markConfirm ((s.marker s.mappedBank markTrial).getD 0)).counted otpFail).loadCounters.setUpd {} := rfl

theorem State.counted_moves (s : State) (otpFail : Bool) : Moves 35459384315956 s (s.counted otpFail) := by
  refine foldl_moves Moves.refl fun z c hz => ?_
  split
  · exact hz.trans (State.raiseCounter_moves _ _ _ _)
  · exact hz

/-- A program of the OTP that does not fail writes memory alone. -/
theorem State.raiseCounter_sound (s : State) (c v : Nat) : Moves 4 s (s.raiseCounter c v false) := by
  unfold State.raiseCounter
  split
  · exact Moves.refl
  · exact s.setNum_moves _ _ _

theorem State.counted_sound (s : State) : Moves 4 s (s.counted false) := by
  refine foldl_moves Moves.refl fun z c hz => ?_
  split
  · exact hz.trans (State.raiseCounter_sound _ _ _)
  · exact hz

theorem State.raise_power_of_unwaking (s : State) {n : Nat} (h : eventWake n = none) : (s.raise n).power = s.power := by
  unfold State.raise
  extract_lets sticky core0 core1 lines woken
  have hwoken : woken.power = s.power := by
    unfold woken
    split
    · next w hw => exact absurd (h.symm.trans hw) (by simp)
    · rfl
  split
  · refine (State.foldl_keeps (proj := State.power) (fun z c => ?_) _ _).trans hwoken
    split
    · exact z.pulse_power c _
    · rfl
  · exact hwoken

theorem State.agentProgram_power (s : State) (p : Nat) (data : List Byte) : (s.agentProgram p data).power = s.power := by
  unfold State.agentProgram
  refine (State.raise_power_of_unwaking _ (by decide)).trans ?_
  exact ((State.dropBufs_moves _ _ _).1 .power rfl).trans ((State.setPageRaw_moves _ _ _).1 .power rfl)

theorem State.agentProgram_event (s : State) (p : Nat) (data : List Byte) : (s.agentProgram p data).event 104 = true := by
  unfold State.agentProgram
  exact State.event_raise _ 104

theorem State.setUpd_firmware (s : State) (u : Update) : (s.setUpd u).boot.firmware = s.boot.firmware := rfl

theorem State.confirm_firmware (s : State) (otpFail : Bool) : (s.confirm otpFail).boot.firmware = s.boot.firmware := by
  have hwritten := s.writeMarker_moves s.mappedBank markConfirm ((s.marker s.mappedBank markTrial).getD 0)
  rw [State.confirm_eq]
  generalize s.writeMarker s.mappedBank markConfirm ((s.marker s.mappedBank markTrial).getD 0) = z at *
  rw [State.setUpd_firmware, (State.loadCounters_moves _).1 .boot rfl, (State.counted_moves _ _).1 .boot rfl, hwritten.1 .boot rfl]

theorem State.rollback_congr {s t : State} (h : BeyondFlash s t) (c : Nat) : t.rollback c = s.rollback c := by
  have hword : t.otpNum (0x25C + 8 * (c - 1)) 8 = s.otpNum (0x25C + 8 * (c - 1)) 8 :=
    congrArg leNat (State.bytes_congr fun k _ => h _ (by omega))
  unfold State.rollback
  rw [hword]

/-- The counter registers show the counters. -/
theorem State.loadCounters_shown (s : State) : s.loadCounters.get BTU_CNT0_C1 = s.rollback 1 % 256 ∧
    s.loadCounters.get BTU_CNT1_CNT = s.rollback 5 % 256 := by
  unfold State.loadCounters
  refine ⟨?_, State.get_put_self _ _ _⟩
  rw [State.get_put_ne _ _ (by decide), State.get_put_ne _ _ (by decide), State.get_put_ne _ _ (by decide),
    State.get_put_ne _ _ (by decide), State.get_put_self]
  rfl

/-- What a confirmation leaves where the OTP takes its program. -/
theorem State.confirm_shown (s : State) : (s.confirm false).boot.upd = {} ∧ (s.confirm false).event 104 = true ∧
    (s.confirm false).get BTU_CNT0_C1 = (s.confirm false).rollback 1 % 256 ∧
    (s.confirm false).get BTU_CNT1_CNT = (s.confirm false).rollback 5 % 256 ∧ (s.confirm false).power = s.power := by
  have hevent : (s.writeMarker s.mappedBank markConfirm ((s.marker s.mappedBank markTrial).getD 0)).event 104 = true :=
    s.agentProgram_event _ _
  have hpower : (s.writeMarker s.mappedBank markConfirm ((s.marker s.mappedBank markTrial).getD 0)).power = s.power :=
    s.agentProgram_power _ _
  rw [State.confirm_eq]
  generalize s.writeMarker s.mappedBank markConfirm ((s.marker s.mappedBank markTrial).getD 0) = z at *
  have hcounted := z.counted_sound
  generalize z.counted false = y at *
  have hloaded := y.loadCounters_moves
  obtain ⟨hfirst, hfifth⟩ := y.loadCounters_shown
  generalize y.loadCounters = x at *
  have hrollback : ∀ c, (x.setUpd {}).rollback c = y.rollback c := State.rollback_congr (hloaded.beyondFlash rfl)
  rw [hrollback, hrollback]
  exact ⟨rfl, ((hloaded.event_eq 104 rfl).trans (hcounted.event_eq 104 rfl)).trans hevent, hfirst, hfifth,
    (hloaded.1 .power rfl).trans ((hcounted.1 .power rfl).trans hpower)⟩

theorem updConfirm_ends {s : State} {env : DictEnv} (htrial : s.boot.upd.state = 4) (hotp : env.otpFail = false) :
    completes (.updConfirm env) s fun t => t.boot.upd = {} ∧ t.host.result = .ok ∧ t.event 104 = true ∧
      t.get BTU_CNT0_C1 = t.rollback 1 % 256 ∧ t.get BTU_CNT1_CNT = t.rollback 5 % 256 ∧ t.power = s.power := by
  obtain ⟨hupd, hevent, hfirst, hfifth, hpower⟩ := s.confirm_shown
  have hcommand : s.updCommand 4 env = (.ok, s.confirm env.otpFail) := if_pos htrial
  rw [hotp] at hcommand
  generalize s.confirm false = z at *
  refine completes_of_goOn (congrArg (fun w => goOn (State.answerWritten w)) hcommand) ⟨hupd, rfl, hevent, ?_, ?_, hpower⟩
  · exact hfirst.trans (congrArg (· % 256) (State.rollback_congr (t := z.answer .ok) (fun _ _ => rfl) 1).symm)
  · exact hfifth.trans (congrArg (· % 256) (State.rollback_congr (t := z.answer .ok) (fun _ _ => rfl) 5).symm)

/-! The firmware's start (R430). -/

theorem State.startTrial_firmware (s : State) (otpFail : Bool) : (s.startTrial otpFail).boot.firmware = s.boot.firmware := by
  unfold State.startTrial
  split
  · rfl
  extract_lets z
  split
  · exact z.confirm_firmware otpFail
  · rfl

theorem State.applyStartMode_firmware (s : State) : s.applyStartMode.boot.firmware = s.boot.firmware := by
  unfold State.applyStartMode
  extract_lets m
  split
  · rfl
  split
  · rfl
  split
  · exact congrArg Boot.firmware (((State.enterMode_moves _ _).1 .boot rfl).trans (s.lgyCleanup_moves.1 .boot rfl))
  split
  · rfl
  · exact congrArg Boot.firmware ((State.enterMode_moves _ _).1 .boot rfl)

/-- After the hand-over system firmware runs. -/
theorem State.startFirmware_firmware (s : State) (otpFail : Bool) : (s.startFirmware otpFail).boot.firmware = true := by
  unfold State.startFirmware
  extract_lets a restored b c measured d e
  have hd : d.boot.firmware = true := rfl
  have he : e.boot = d.boot := (State.lgyRelease_moves _).1 .boot rfl |>.trans
    (((State.radioUp_moves _).1 .boot rfl).trans ((State.holdRelease_moves _).1 .boot rfl))
  calc ((e.applyStartMode.loadStoredProgram).startTrial otpFail).boot.firmware
    _ = e.applyStartMode.loadStoredProgram.boot.firmware := State.startTrial_firmware _ _
    _ = e.applyStartMode.boot.firmware := congrArg Boot.firmware ((State.loadStoredProgram_moves _).1 .boot rfl)
    _ = e.boot.firmware := e.applyStartMode_firmware
    _ = true := (congrArg Boot.firmware he).trans hd

theorem State.romBoot_outcome (s : State) (otpFail : Bool) : (s.romBoot otpFail).boot.firmware = true ∨
    ((s.romBoot otpFail).mode = modeRecovery ∧ (s.romBoot otpFail).boot.firmware = false) := by
  have hrecovery : ∀ z : State, z.enterRecovery.mode = modeRecovery ∧ z.enterRecovery.boot.firmware = false := fun z =>
    ⟨z.enterRecovery_shown.1, congrArg Boot.firmware z.enterRecovery_shown.2.2.1⟩
  unfold State.romBoot
  extract_lets z
  split
  · exact .inr (hrecovery _)
  split
  · exact .inr (hrecovery _)
  extract_lets y
  split
  · exact .inr (hrecovery _)
  split
  · exact .inr (hrecovery _)
  · exact .inl (State.startFirmware_firmware _ _)

theorem State.romBoot_blank {s : State} (otpFail : Bool) (h : s.mapBanks.rootBlank = true) :
    s.romBoot otpFail = (s.mapBanks.flag BTU_BOOTSTAT_OTP_FAULT true).enterRecovery := by
  unfold State.romBoot
  dsimp only
  rw [if_pos h]

theorem bootRom_due {s : State} (otpFail : Bool) (h : s.boot.due = true) :
    exec (.bootRom otpFail) s = goOn (s.romStart.romBoot otpFail) := congrArg goOn (if_pos h)

theorem bootRom_blank {s : State} (otpFail : Bool) (h : s.boot.due = true) (hblank : s.rootBlank = true) :
    completes (.bootRom otpFail) s fun t => t.mode = modeRecovery ∧ t.get BTU_BOOTSTAT_OTP_FAULT = 1 ∧ t.event 0 = true ∧
      t.boot.firmware = false ∧ t.boot.due = false := by
  obtain ⟨hboot, hbytes⟩ := s.romStart_kept
  have hmapped := s.romStart.mapBanks_moves
  have hroot : s.romStart.mapBanks.rootBlank = true :=
    (State.rootBlank_congr (hbytes.trans (hmapped.beyondFlash rfl))).trans hblank
  have hromBoot : s.romStart.romBoot otpFail = (s.romStart.mapBanks.flag BTU_BOOTSTAT_OTP_FAULT true).enterRecovery :=
    State.romBoot_blank otpFail hroot
  obtain ⟨hmode, hevent, hrecovered, hfault⟩ := (s.romStart.mapBanks.flag BTU_BOOTSTAT_OTP_FAULT true).enterRecovery_shown
  refine completes_of_goOn ((bootRom_due otpFail h).trans (congrArg goOn hromBoot))
    ⟨hmode, hfault.trans (State.get_flag_bit _ _ rfl), hevent, congrArg Boot.firmware hrecovered, ?_⟩
  rw [hrecovered, State.flag_boot, hmapped.1 .boot rfl, hboot]

/-! The update commands (R433, R438). -/

section
variable {s : State} {off : Word} {bs : List Byte} (env : DictEnv) (hpos : 0 < bs.length) (hle : bs.length ≤ 1020)
include hpos hle

theorem updateData_eq : exec (.updateData off bs env) s =
    goOn (State.answerWritten (s.updChunk (leBytes 4 off.toNat ++ bs) env)) := congrArg goOn (if_neg (by omega))

theorem updateData_refused (hone : s.boot.upd.state ≠ 1) (htwo : s.boot.upd.state ≠ 2) :
    exec (.updateData off bs env) s = .next (s.answer .access) := by
  have hchunk : s.updChunk (leBytes 4 off.toNat ++ bs) env = (.access, s) := if_pos ⟨hone, htwo⟩
  rw [updateData_eq env hpos hle, hchunk]
  rfl

/-- Data that is taken. -/
theorem updateData_taken (hstate : s.boot.upd.state = 1 ∨ (s.boot.upd.state = 2 ∧ env.writing = false)) :
    exec (.updateData off bs env) s = .next ((s.updData off.toNat bs env.flashFail).answer .ok) := by
  have hoff : leAt (leBytes 4 off.toNat ++ bs) 0 4 = off.toNat := (leAt_start 4 _ bs).trans (Nat.mod_eq_of_lt off.isLt)
  have hdata : (leBytes 4 off.toNat ++ bs).drop 4 = bs := rfl
  have hchunk : s.updChunk (leBytes 4 off.toNat ++ bs) env = (.ok, s.updData off.toNat bs env.flashFail) := by
    unfold State.updChunk
    extract_lets st
    rw [hoff, hdata, if_neg (by omega), if_neg]
    rintro ⟨htwo, hwriting⟩
    rcases hstate with hone | ⟨-, hidle⟩
    · omega
    · rw [hidle] at hwriting
      exact absurd hwriting Bool.false_ne_true
  rw [updateData_eq env hpos hle, hchunk]
  rfl

theorem updateData_sequence (hstate : s.boot.upd.state = 1 ∨ (s.boot.upd.state = 2 ∧ env.writing = false))
    (hoff : off.toNat ≠ s.boot.upd.bytes.length) : exec (.updateData off bs env) s = .next ((s.updRefuse 11).answer .ok) := by
  have hdata : s.updData off.toNat bs env.flashFail = s.updRefuse 11 := if_pos hoff
  rw [updateData_taken env hpos hle hstate, hdata]

section
variable {p : List Byte} (hstate : s.boot.upd.state = 1) (hoff : off.toNat = s.boot.upd.bytes.length) (hp : p = s.boot.upd.bytes ++ bs)
include hstate hoff hp

/-- Data in RECEIVING at the right OFFSET. -/
theorem updateData_receives {z : State} (hz : (s.setUpd { s.boot.upd with bytes := p }).pkgAdvance false env.flashFail = z) :
    exec (.updateData off bs env) s = .next (z.answer .ok) := by
  have hdata : s.updData off.toNat bs env.flashFail = z := by
    rw [← hz, hp]
    exact if_neg (not_not.mpr hoff)
  rw [updateData_taken env hpos hle (.inl hstate), hdata]

end
end

section
variable {s : State} (full fail : Bool)

theorem State.pkgAdvance_header (hstate : s.boot.upd.state = 1) (hlen : s.boot.upd.bytes.length < 16) : s.pkgAdvance full fail = s :=
  (if_pos hstate).trans (if_pos hlen)

theorem State.pkgAdvance_badHeader (hstate : s.boot.upd.state = 1) (hlen : 16 ≤ s.boot.upd.bytes.length)
    (hbad : pkgHeaderOk s.boot.upd.bytes = false) : s.pkgAdvance full fail = s.updRefuse 1 :=
  (if_pos hstate).trans ((if_neg (by omega)).trans (if_pos (by rw [hbad]; rfl)))

theorem State.pkgAdvance_refused (hstate : s.boot.upd.state = 1) (hok : pkgHeaderOk s.boot.upd.bytes = true)
    (hhead : pkgHead s.boot.upd.bytes ≤ s.boot.upd.bytes.length) {r : Nat} (hcheck : s.pkgCheck s.boot.upd.bytes full = some r) :
    s.pkgAdvance full fail = s.updRefuse r := by
  have hlong : 16 ≤ s.boot.upd.bytes.length := (show 16 ≤ pkgHead s.boot.upd.bytes from Nat.le_add_right _ _).trans hhead
  unfold State.pkgAdvance
  dsimp only
  rw [if_pos hstate, if_neg (by omega), if_neg (by rw [hok]; decide), if_neg (by omega), hcheck]

end

/-! A package's check does not depend on what has been received. -/

theorem State.flashView_setUpd (s : State) (u : Update) (a n : Nat) : (s.setUpd u).flashView a n = s.flashView a n := rfl

theorem State.manCheck_setUpd (s : State) (u : Update) (m : List Byte) (c : Nat) : (s.setUpd u).manCheck m c = s.manCheck m c := rfl

theorem State.imageCheck_setUpd (s : State) (u : Update) (c : Nat) (other : Bool) :
    (s.setUpd u).imageCheck c other = s.imageCheck c other := by
  unfold State.imageCheck State.manifest State.image
  simp only [State.flashView_setUpd, State.manCheck_setUpd]

theorem State.installed_setUpd (s : State) (u : Update) : (s.setUpd u).installed = s.installed := by
  funext c
  unfold State.installed State.manifest
  simp only [State.imageCheck_setUpd, State.flashView_setUpd]

theorem State.manSigned_setUpd (s : State) (u : Update) : (s.setUpd u).manSigned = s.manSigned := rfl

theorem State.rollback_setUpd (s : State) (u : Update) : (s.setUpd u).rollback = s.rollback := rfl

theorem State.pkgCheck_setUpd (s : State) (u : Update) (p : List Byte) (full : Bool) :
    (s.setUpd u).pkgCheck p full = s.pkgCheck p full := by
  unfold State.pkgCheck
  rw [State.installed_setUpd, State.manSigned_setUpd, State.rollback_setUpd]

theorem State.pkgCheck_malformed (s : State) {p : List Byte} {full : Bool} (h : pkgFormed p full = false) : s.pkgCheck p full = some 1 :=
  if_pos (by rw [h]; rfl)

theorem updateStaged_marks {s : State} (hstate : s.boot.upd.state = 2) (hall : s.boot.upd.staged = pkgCount s.boot.upd.bytes) :
    completes .updateStaged s fun t => t.boot.upd = { s.boot.upd with state := 3 } ∧ t.event 104 = true ∧ t.host = s.host ∧
      (∀ b : Fin 2048, t.byte (0x20000000 + b.val) = s.byte (0x20000000 + b.val)) := by
  have hend : s.stageEnd = (s.writeMarker (1 - s.mappedBank) markTrial s.nextSeq).setUpd { s.boot.upd with state := 3 } :=
    if_pos ⟨hstate, hall⟩
  have hevent : (s.writeMarker (1 - s.mappedBank) markTrial s.nextSeq).event 104 = true := s.agentProgram_event _ _
  have hhost := (s.writeMarker_moves (1 - s.mappedBank) markTrial s.nextSeq).1 .host rfl
  have hbytes : BeyondFlash s (s.writeMarker (1 - s.mappedBank) markTrial s.nextSeq) :=
    s.agentProgram_beyondFlash (markPage_lt (Nat.sub_le _ _) _) _
  generalize s.writeMarker (1 - s.mappedBank) markTrial s.nextSeq = z at *
  exact completes_of_goOn (congrArg goOn hend) ⟨rfl, hevent, hhost, fun b => hbytes _ (Nat.le_add_right _ _)⟩

theorem State.swapRequest_open {s : State} (h : s.get BTU_LOCK_LOCK = 0) : s.swapRequest = s.flag BTU_SWAP_REQ true :=
  if_neg (by rw [State.on_of_get_zero h]; decide)

/-- Settles O53. The corners of the update package that log entry 85 decides are the model's choice. -/
theorem bootUpdateAndSwap : Obligations.BootUpdateAndSwap := by
  unfold Obligations.BootUpdateAndSwap
  refine ⟨fun s o h => completes_of_goOn (bootRom_due o h) (s.romStart.romBoot_outcome o), fun _ o h hblank => bootRom_blank o h hblank,
    fun s o h => ?_, fun s env hfour htwo => ?_, fun s env hfour => ?_, fun s env htwo hwriting => ?_,
    fun s off bs env hpos hle hstate hoff hlen => ?_, fun s off bs p env hpos hle hstate hoff hp hlen hbad => ?_,
    fun s off bs p r env hpos hle hstate hoff hp hok hhead hcheck => ?_,
    fun _ _ _ env hpos hle hstate hoff => updateData_sequence env hpos hle hstate hoff,
    fun _ _ _ env hpos hle hone htwo => updateData_refused env hpos hle hone htwo,
    fun _ hstate hall => updateStaged_marks hstate hall, fun s h => ?_, fun s env hstate hlock => ?_,
    fun s env hthree hfour => ⟨?_, ?_, congrArg goOn (if_neg hfour)⟩, fun s env hstate => ?_, fun s env hstate => ?_,
    fun _ _ htrial hotp => updConfirm_ends htrial hotp, fun s h => congrArg goOn (if_pos h), fun s h => ?_, fun s h => ?_⟩
  · exact congrArg goOn (if_neg (by rw [h]; decide))
  · have hcommand : s.updCommand 1 env = (.ok, s.updBegin) :=
      (if_neg fun h => htwo.elim (· h.1) fun hidle => Bool.false_ne_true (hidle.symm.trans h.2)).trans (if_neg hfour)
    exact congrArg (fun w => goOn (State.answerWritten w)) hcommand
  · have hcommand : s.updCommand 1 env = (.access, s) := (if_neg (by rw [hfour]; simp)).trans (if_pos hfour)
    exact congrArg (fun w => goOn (State.answerWritten w)) hcommand
  · have hcommand : s.updCommand 1 env = (.busy, s) := if_pos ⟨htwo, hwriting⟩
    exact congrArg (fun w => goOn (State.answerWritten w)) hcommand
  · exact updateData_receives env hpos hle hstate hoff rfl (State.pkgAdvance_header _ _ hstate (by
      show (s.boot.upd.bytes ++ bs).length < 16
      rw [List.length_append]
      omega))
  · refine updateData_receives env hpos hle hstate hoff hp ?_
    cases hheader : pkgHeaderOk p with
    | false => exact State.pkgAdvance_badHeader _ _ hstate hlen hheader
    | true =>
      rcases hbad with hno | ⟨hhead, hformed⟩
      · exact absurd (hheader.symm.trans hno) (by decide)
      · exact State.pkgAdvance_refused (s := s.setUpd { s.boot.upd with bytes := p }) _ _ hstate hheader hhead (State.pkgCheck_malformed _ hformed)
  · exact updateData_receives env hpos hle hstate hoff hp
      (State.pkgAdvance_refused (s := s.setUpd { s.boot.upd with bytes := p }) _ _ hstate hok hhead ((s.pkgCheck_setUpd _ p false).trans hcheck))
  · exact congrArg goOn (if_neg fun hboth => h.elim (· hboth.1) (· hboth.2))
  · have hcommand : s.updCommand 2 env = (.ok, s.swapRequest.requestReset 6) := if_pos hstate
    rw [State.swapRequest_open hlock] at hcommand
    exact congrArg (fun w => goOn (State.answerWritten w)) hcommand
  · have hcommand : s.updCommand 2 env = (.access, s) := if_neg hthree
    exact congrArg (fun w => goOn (State.answerWritten w)) hcommand
  · have hcommand : s.updCommand 4 env = (.access, s) := if_neg hfour
    exact congrArg (fun w => goOn (State.answerWritten w)) hcommand
  · have habort : s.updAbort = s.setUpd { state := 5, reason := 12 } := if_pos hstate
    exact congrArg (fun z => goOn (State.answerWritten (.ok, z))) habort
  · have habort : s.updAbort = s.setUpd {} := (if_neg (by omega)).trans (if_pos hstate)
    exact congrArg (fun z => goOn (State.answerWritten (.ok, z))) habort
  · exact congrArg goOn (State.swapRequest_open h)
  · exact congrArg goOn (if_pos (State.on_of_get_ne_zero h))

end Sys2Proof.Machine

/-! ## Resets and block resets (O52) -/
namespace Sys2Proof.Machine

/-! What leaves the power controller alone. -/

/-- From `s` to `t` the power controller stays, with its registers. -/
def Calm (s t : State) : Prop := t.power = s.power ∧ ∀ f : RegField, f.inBlock 0 → t.get f = s.get f

theorem Calm.refl (s : State) : Calm s s := ⟨rfl, fun _ _ => rfl⟩

theorem Calm.trans {r s t : State} (h : Calm r s) (g : Calm s t) : Calm r t :=
  ⟨g.1.trans h.1, fun f hf => (g.2 f hf).trans (h.2 f hf)⟩

theorem Moves.calm {m : Nat} {s t : State} (h : Moves m s t) (hpower : m.testBit 5 = false) (hregs : m.testBit 27 = false) : Calm s t :=
  ⟨h.1 .power hpower, fun _ hf => h.get_eq hf (by decide) hregs⟩

theorem Calm.put {f : RegField} {b : Nat} (s : State) (v : Nat) (hf : f.inBlock b) (hb : b ≠ 0) : Calm s (s.put f v) := by
  refine ⟨rfl, fun g hg => s.get_put_ne v fun hkey => hb ?_⟩
  have hboth : 0x4000 + 0 = 0x4000 + b := hg.symm.trans ((congrArg (· / 0x200000) hkey).trans hf)
  omega

theorem Calm.foldl {α : Type} {g : State → α → State} (hg : ∀ s x, Calm s (g s x)) (l : List α) (s : State) : Calm s (l.foldl g s) := by
  induction l generalizing s with
  | nil => exact .refl s
  | cons x l ih => exact (hg s x).trans (ih _)

/-- An event that is no wake source leaves the power controller alone. -/
theorem State.raise_calm (s : State) {n : Nat} (h : eventWake n = none) : Calm s (s.raise n) := by
  refine ⟨s.raise_power_of_unwaking h, fun f hf => ?_⟩
  have hpulses : ∀ z : State, ((List.range 32).foldl (fun (s : State) c =>
      if bit (s.get (evrPm c (n / 32))) (n % 32) then s.pulse c s.tnet else s) z).get f = z.get f := fun z =>
    State.get_congr (foldl_fields (fun s c => by split <;> simp) z) f
  unfold State.raise
  extract_lets sticky core0 core1 lines woken
  have hsticky : sticky.get f = s.get f := (Calm.put s _ (EVR_ESTAT_STAT_block _) (by decide)).2 f hf
  have hwoken : woken.get f = sticky.get f := by
    unfold woken
    split
    · next w hw => exact absurd (h.symm.trans hw) (by simp)
    · rfl
  split
  · exact (hpulses woken).trans (hwoken.trans hsticky)
  · exact hwoken.trans hsticky

theorem State.txDone_calm (s : State) (i status : Nat) : Calm s (s.txDone i status) := by
  unfold State.txDone
  extract_lets z mac y
  refine (((s.setDesc_moves i 16 1 status).calm rfl rfl).trans (?_ : Calm z y)).trans (State.raise_calm _ (by decide))
  unfold y
  split
  · exact ⟨rfl, fun _ _ => rfl⟩
  · exact Calm.put _ _ MAC_TXDONE_LOST_block (by decide)

theorem State.finishDesc_calm (s : State) (i status : Nat) : Calm s (s.finishDesc i status) :=
  (((s.dequeueEntry_moves i).calm rfl rfl).trans ((State.dropPending_moves _ i).calm rfl rfl)).trans (State.txDone_calm _ i status)

theorem State.endTx_calm (s : State) (u : TxUnit) (status : Nat) : Calm s (s.endTx u status) := by
  unfold State.endTx
  extract_lets z
  refine ((s.removeTx_moves u.id).calm rfl rfl).trans (?_ : Calm z _)
  split
  · exact z.finishDesc_calm _ _
  · split
    · exact (z.setDesc_moves _ 17 1 _).calm rfl rfl
    · exact z.finishDesc_calm _ _
  · exact (z.lgyEnded_moves u status).calm rfl rfl
  · exact .refl z

theorem State.txCut_calm (s : State) : Calm s s.txCut := by
  unfold State.txCut
  split
  · exact .refl s
  split
  · exact .refl s
  extract_lets charged slot radio cut
  have hcharged : Calm s charged := by
    unfold charged
    split
    · exact (s.chargeActual_moves _).calm rfl rfl
    · exact .refl s
  exact hcharged.trans (Calm.trans (s := cut) ⟨rfl, fun _ _ => rfl⟩ (cut.endTx_calm _ _))

/-! Register blocks (R20, R467). -/

theorem State.get_resetBlock {n : Nat} (s : State) {f : RegField} (hf : f.inBlock n) : (s.resetBlock n).get f = f.reset := by
  unfold RegField.inBlock at hf
  unfold State.get State.resetBlock
  exact Sparse.read_dropRange _ _ (by omega) (by omega)

theorem State.get_resetBlock_ne {n b : Nat} (s : State) {f : RegField} (hf : f.inBlock b) (hne : b ≠ n) :
    (s.resetBlock n).get f = s.get f := by
  unfold RegField.inBlock at hf
  unfold State.get State.resetBlock
  exact Sparse.read_dropRange_ne _ _ (by omega)

/-- What a write of PRC_BLKRST does to block `n`. -/
def State.blockStep (mask : Nat) (s : State) (n : Nat) : State :=
  if bit mask n ∧ !(s.mode = modeCompat ∧ n < 4) ∧ !bit (s.get PRC_BLKRST_BLOCK) n then
    let s := s.blockReset n
    s.put PRC_BLKRST_BLOCK (setBit (s.get PRC_BLKRST_BLOCK) n)
  else s

theorem State.blockResetWrite_eq (s : State) (mask : Nat) : s.blockResetWrite mask = (List.range 9).foldl (State.blockStep mask) s := rfl

theorem State.blockSteps_skip {mask : Nat} {s : State} {l : List Nat}
    (h : ∀ n ∈ l, bit mask n = false ∨ (s.mode = modeCompat ∧ n < 4)) : l.foldl (State.blockStep mask) s = s := by
  induction l with
  | nil => rfl
  | cons n l ih =>
    have hstep : s.blockStep mask n = s := if_neg fun hyes => by
      rcases h n (by simp) with hbit | hcompat
      · exact Bool.false_ne_true (hbit.symm.trans hyes.1)
      · simp [hcompat] at hyes
    rw [List.foldl_cons, hstep]
    exact ih fun k hk => h k (List.mem_cons_of_mem n hk)

/-- A write that names one block resets it. -/
theorem State.blockResetWrite_one {s : State} {mask n : Nat} {l₁ l₂ : List Nat} (hsplit : List.range 9 = l₁ ++ n :: l₂)
    (hbefore : ∀ k ∈ l₁, bit mask k = false) (hnamed : bit mask n = true) (hafter : ∀ k ∈ l₂, bit mask k = false)
    (hmode : s.mode ≠ modeCompat ∨ 4 ≤ n) (hfree : s.get PRC_BLKRST_BLOCK = 0) : s.blockResetWrite mask =
      (s.blockReset n).put PRC_BLKRST_BLOCK (setBit ((s.blockReset n).get PRC_BLKRST_BLOCK) n) := by
  have hstep : s.blockStep mask n = (s.blockReset n).put PRC_BLKRST_BLOCK (setBit ((s.blockReset n).get PRC_BLKRST_BLOCK) n) := by
    refine if_pos ⟨hnamed, ?_, ?_⟩
    · rcases hmode with hmode | hn
      · simp [hmode]
      · simp [Nat.not_lt.mpr hn]
    · rw [hfree]
      simp [bit]
  rw [State.blockResetWrite_eq, hsplit, List.foldl_append, State.blockSteps_skip fun k hk => .inl (hbefore k hk), List.foldl_cons, hstep]
  exact State.blockSteps_skip fun k hk => .inl (hafter k hk)

theorem blockReset_pke {s : State} {f : RegField} (hf : f.key / 0x200000 = 0x4007) (hfree : s.get PRC_BLKRST_BLOCK = 0) :
    completes (.blockReset 32) s fun t => t.pke = {} ∧ t.get f = f.reset ∧ t.get PRC_BLKRST_BLOCK = 32 ∧ t.mem = s.mem ∧
      t.mac = s.mac := by
  have hwrite := State.blockResetWrite_one (s := s) (mask := 32) (n := 5) (l₁ := [0, 1, 2, 3, 4]) (l₂ := [6, 7, 8]) rfl (by decide)
    (by decide) (by decide) (.inr (by decide)) hfree
  have hblock : (s.blockReset 5).get PRC_BLKRST_BLOCK = 0 :=
    (s.get_resetBlock_ne (n := 7) PRC_BLKRST_BLOCK_block (by decide)).trans hfree
  rw [hblock] at hwrite
  refine completes_of_goOn (congrArg goOn hwrite) ⟨rfl, ?_, State.get_put_self _ _ _, rfl, rfl⟩
  rw [State.get_put_ne]
  · exact s.get_resetBlock (n := 7) hf
  · intro hkey
    rw [hkey] at hf
    exact absurd hf (by decide)

theorem blockReset_txp {s : State} {f : RegField} (hf : f.key / 0x200000 = 0x4003) (hfree : s.get PRC_BLKRST_BLOCK = 0)
    (hmode : s.mode ≠ modeCompat) : completes (.blockReset 4) s fun t => t.get f = f.reset ∧ t.get PRC_BLKRST_BLOCK = 4 := by
  have hwrite := State.blockResetWrite_one (s := s) (mask := 4) (n := 2) (l₁ := [0, 1]) (l₂ := [3, 4, 5, 6, 7, 8]) rfl (by decide)
    (by decide) (by decide) (.inl hmode) hfree
  have hblock : (s.blockReset 2).get PRC_BLKRST_BLOCK = 0 :=
    (State.get_resetBlock_ne (n := 3) _ PRC_BLKRST_BLOCK_block (by decide)).trans ((s.txCut_calm.2 _ PRC_BLKRST_BLOCK_block).trans hfree)
  rw [hblock] at hwrite
  refine completes_of_goOn (congrArg goOn hwrite) ⟨?_, State.get_put_self _ _ _⟩
  rw [State.get_put_ne]
  · exact State.get_resetBlock (n := 3) _ hf
  · intro hkey
    rw [hkey] at hf
    exact absurd hf (by decide)

theorem blockReset_compat {s : State} (hmode : s.mode = modeCompat) : exec (.blockReset 15) s = .next s := by
  have hnone : s.blockResetWrite 15 = s := by
    rw [State.blockResetWrite_eq, show List.range 9 = [0, 1, 2, 3] ++ [4, 5, 6, 7, 8] from rfl, List.foldl_append,
      State.blockSteps_skip fun n hn => .inr ⟨hmode, by simp at hn; omega⟩]
    exact State.blockSteps_skip fun n hn => .inl (by revert n; decide)
  exact congrArg goOn hnone

/-! The release of a block (R467, R492). -/

theorem blockResetRelease_above {s : State} {n : Fin 9} (hheld : bit (s.get PRC_BLKRST_BLOCK) n = true) (htag : n = 8 → s.tag.write = none)
    (hn : 1 < n.val) : completes (.blockResetRelease n) s fun t =>
      t.get PRC_BLKRST_BLOCK = clearBit (s.get PRC_BLKRST_BLOCK) n % 2 ^ PRC_BLKRST_BLOCK.width ∧ t.mem = s.mem := by
  have hgo : ¬((!bit (s.get PRC_BLKRST_BLOCK) n) = true ∨ (n = 8 ∧ s.tag.write.isSome = true)) := by
    rintro (hfree | ⟨height, hwrite⟩)
    · rw [hheld] at hfree
      exact absurd hfree (by decide)
    · rw [htag height] at hwrite
      exact absurd hwrite (by decide)
  have hexec : exec (.blockResetRelease n) s =
      goOn (if n = 8 then (s.put PRC_BLKRST_BLOCK (clearBit (s.get PRC_BLKRST_BLOCK) n)).resetBlock 16
        else s.put PRC_BLKRST_BLOCK (clearBit (s.get PRC_BLKRST_BLOCK) n)) := by
    show execBlockResetRelease n s = _
    unfold execBlockResetRelease
    extract_lets b z
    rw [if_neg hgo]
    by_cases height : n = 8
    · rw [if_pos height, if_pos height]
    · rw [if_neg height, if_neg height, if_neg (by omega), if_neg (by omega)]
  refine completes_of_goOn hexec ?_
  split
  · exact ⟨(State.get_resetBlock_ne (n := 16) _ PRC_BLKRST_BLOCK_block (by decide)).trans (State.get_put_self _ _ _), rfl⟩
  · exact ⟨State.get_put_self _ _ _, rfl⟩

/-- Path `p` is to go to IDLE. -/
def State.pathUp (s : State) (p : Path) : State := s.setPath p { s.path p with goal := some 1 }

theorem State.path_setPath (s : State) (p q : Path) (c : PathCal) : (s.setPath p c).path q = if q = p then c else s.path q := by
  cases p <;> cases q <;> rfl

theorem State.goal_pathUp (s : State) (p q : Path) (h : q = p ∨ (s.path q).goal = some 1) : ((s.pathUp p).path q).goal = some 1 := by
  unfold State.pathUp
  rw [State.path_setPath]
  split
  · rfl
  · next hne => exact h.resolve_left hne

theorem blockResetRelease_rf {s : State} (hheld : bit (s.get PRC_BLKRST_BLOCK) 0 = true) : completes (.blockResetRelease 0) s fun t =>
    bit (t.get PRC_BLKRST_BLOCK) 0 = false ∧ (t.path .t).goal = some 1 ∧ (t.path .a).goal = some 1 := by
  generalize hz : s.put PRC_BLKRST_BLOCK (clearBit (s.get PRC_BLKRST_BLOCK) 0) = z
  have hexec : exec (.blockResetRelease 0) s =
      goOn (if z.partT then (z.pathUp .t).pathUp .a else ((z.pathUp .t).pathUp .a).pathUp .b) := by
    subst hz
    exact if_neg (by rw [show ((0 : Fin 9) : Nat) = 0 from rfl, hheld]; simp)
  have hblock : bit (z.get PRC_BLKRST_BLOCK) 0 = false := by
    rw [← hz, State.get_put_self, bit_mod_two_pow (by decide), bit_clearBit]
  have ht : (((z.pathUp .t).pathUp .a).path .t).goal = some 1 := State.goal_pathUp _ _ _ (.inr (State.goal_pathUp _ _ _ (.inl rfl)))
  have ha : (((z.pathUp .t).pathUp .a).path .a).goal = some 1 := State.goal_pathUp _ _ _ (.inl rfl)
  refine completes_of_goOn hexec ?_
  split
  · exact ⟨hblock, ht, ha⟩
  · exact ⟨hblock, State.goal_pathUp _ _ _ (.inr ht), State.goal_pathUp _ _ _ (.inr ha)⟩

/-! An INFO entry leaves memory. -/

theorem State.logEntry_mem (s : State) (e : FaultEntry) : (s.logEntry e).mem = s.mem := by
  unfold State.logEntry
  extract_lets dated es
  split
  · rfl
  split
  · rfl
  · exact State.raise_mem _ _

theorem State.prcInfo_mem (s : State) (code : Nat) : (s.prcInfo code).mem = s.mem := s.logEntry_mem _

/-! The release of the reset (R463, R466). -/

/-- The islands have left reset: the boot is due. -/
def State.outOfReset (s : State) : State :=
  { s with power := { s.power with stretch := [], tnetRuns := !s.on PRC_STATUS_REF_FAIL }, boot := { s.boot with due := true } }

theorem PRC_reset_aside : PRC_RSTCAUSE_PIN_HELD.Aside ∧ PRC_STATUS_REF_FAIL.Aside :=
  ⟨⟨⟨by decide, by decide, by decide⟩, by decide, by decide⟩, ⟨by decide, by decide, by decide⟩, by decide, by decide⟩

theorem resetRelease_boots {s : State} (b : Bool) (h : s.power.stretch ≠ []) : completes (.resetRelease b) s fun t =>
    t.power.stretch = [] ∧ t.boot.due = true ∧
      t.get PRC_RSTCAUSE_PIN_HELD = (if b = true ∧ s.get PRC_RSTCAUSE_CAUSE ≠ 3 then 1 else 0) ∧
      (s.get PRC_STATUS_REF_FAIL = 0 → t.power.tnetRuns = true) ∧ t.mem = s.mem := by
  obtain ⟨hheld, hfail⟩ := PRC_reset_aside
  generalize hz : s.flag PRC_RSTCAUSE_PIN_HELD (b && s.get PRC_RSTCAUSE_CAUSE != 3) = z
  have hexec : exec (.resetRelease b) s = goOn (z.prcInfo (s.get PRC_RSTCAUSE_CAUSE)).outOfReset := by
    subst hz
    exact if_neg (by simpa using h)
  have hsup := z.prcInfo_supervised (s.get PRC_RSTCAUSE_CAUSE)
  have hmem : (z.prcInfo (s.get PRC_RSTCAUSE_CAUSE)).mem = s.mem := by
    rw [State.prcInfo_mem, ← hz, State.flag_mem]
  generalize z.prcInfo (s.get PRC_RSTCAUSE_CAUSE) = y at *
  refine completes_of_goOn hexec ⟨rfl, rfl, (hsup.get _ hheld).trans ?_, fun hok => ?_, hmem⟩
  · rw [← hz]
    refine (State.get_flag_bit _ _ rfl).trans ?_
    cases b <;> simp [ofBool]
  · have hyok : y.get PRC_STATUS_REF_FAIL = 0 := by
      rw [hsup.get _ hfail, ← hz, State.get_flag_ne _ _ (by decide), hok]
    show (!y.on PRC_STATUS_REF_FAIL) = true
    rw [State.on_of_get_zero hyok]
    rfl

/-! Reset requests (R461). -/

theorem pinReset_requests {s : State} {n : Nat} (hn : 32 ≤ n) (hself : ∀ c ∈ s.power.stretch, c = 3) :
    completes (.pinReset n) s fun t => t.power.resetReq.contains 3 = true := by
  have hexec : exec (.pinReset n) s = goOn (s.requestReset 3) := by
    refine if_neg ?_
    rintro (hshort | hdriven)
    · omega
    · obtain ⟨c, hc, hne⟩ := List.any_eq_true.mp hdriven
      rw [hself c hc] at hne
      exact absurd hne (by decide)
  exact completes_of_goOn hexec (s.requestReset_contains 3)

theorem powerOn_requests {s : State} (h : s.power.supply = false ∨ s.power.state = .off ∨ (s.power.state = .standby ∧ s.power.wakes ≠ [])) :
    completes .powerOn s fun t => t.power.resetReq.contains 1 = true ∧ (s.power.state ≠ .standby → t.power.supply = true) := by
  have hsupply : ∀ z : State, (z.requestReset 1).power.supply = z.power.supply := fun z => by
    unfold State.requestReset
    split <;> rfl
  by_cases hfirst : (!s.power.supply) = true ∨ s.power.state = .off
  · exact completes_of_goOn (if_pos hfirst) ⟨State.requestReset_contains _ 1, fun _ => hsupply _⟩
  · obtain ⟨hstandby, hwakes⟩ : s.power.state = .standby ∧ s.power.wakes ≠ [] := by
      rcases h with hoff | hoff | hwoken
      · exact absurd (.inl (by rw [hoff]; rfl)) hfirst
      · exact absurd (.inr hoff) hfirst
      · exact hwoken
    have hexec : exec .powerOn s = goOn (s.requestReset 1) := (if_neg hfirst).trans (if_pos ⟨hstandby, by simpa using hwakes⟩)
    exact completes_of_goOn hexec ⟨s.requestReset_contains 1, fun hnot => absurd hstandby hnot⟩

/-! A reset of the device (R462, R464). -/

/-- The cause registers after a reset: `cause`, every source of `codes`, and what else the ROM reads. -/
def State.causesPut (s : State) (cause : Nat) (codes : List Nat) (standby : Bool) (step : Nat) (held : Bool) (aborted : Nat) (refFail : Bool) :
    State :=
  let s := ((s.put PRC_RSTCAUSE_CAUSE cause).put PRC_RSTSRC_SOURCES (sourceBits codes)).flag PRC_RSTCAUSE_FROM_STANDBY standby
  let s := (s.put PRC_RSTCAUSE_STEP step).flag PRC_CTRL_PIN_HOLD held
  (s.put PRC_PWRSTAT_RESULT aborted).flag PRC_STATUS_REF_FAIL refFail

theorem State.causesPut_shown (s : State) (cause : Nat) (codes : List Nat) (standby : Bool) (step : Nat) (held : Bool) (aborted : Nat)
    (refFail : Bool) : (s.causesPut cause codes standby step held aborted refFail).get PRC_RSTCAUSE_CAUSE = cause % 256 ∧
      (s.causesPut cause codes standby step held aborted refFail).get PRC_RSTSRC_SOURCES = sourceBits codes % 2 ^ 14 ∧
      (s.causesPut cause codes standby step held aborted refFail).get PRC_CTRL_PIN_HOLD = ofBool held := by
  unfold State.causesPut
  refine ⟨?_, ?_, ?_⟩
  · rw [State.get_flag_ne _ _ (by decide), State.get_put_ne _ _ (by decide), State.get_flag_ne _ _ (by decide),
      State.get_put_ne _ _ (by decide), State.get_flag_ne _ _ (by decide), State.get_put_ne _ _ (by decide), State.get_put_self]
    rfl
  · rw [State.get_flag_ne _ _ (by decide), State.get_put_ne _ _ (by decide), State.get_flag_ne _ _ (by decide),
      State.get_put_ne _ _ (by decide), State.get_flag_ne _ _ (by decide), State.get_put_self]
    rfl
  · rw [State.get_flag_ne _ _ (by decide), State.get_put_ne _ _ (by decide)]
    exact State.get_flag_bit _ _ rfl

/-- The memories and the island's parts that a reset takes. -/
def State.resetMemories (s : State) (cold : Bool) : State :=
  let s := s.measureEnd 2
  let s := if s.tag.field ∨ !cold then s else s.tagDown 0
  let s := if cold then s.flashLost else s
  if cold then s.initSram fun _ => false else s

/-- The registers that survive, of `old`. -/
def State.resetFields (s old : State) (cold clearLog : Bool) : State :=
  let s := { s with fields := s.backupFields }
  let s := if cold then s else warmFields.foldl (fun (s : State) f => s.put f (old.get f)) s
  if clearLog then s else
    (((s.put ERR_STATUS_LOST (old.get ERR_STATUS_LOST)).put ERR_STATUS_LOG_LOST (old.get ERR_STATUS_LOG_LOST)).flag
      ERR_STATUS_DOUBLE (old.on ERR_STATUS_DOUBLE || old.faults.doubled))

/-- What the pads hold through a reset. -/
def State.heldThrough (s : State) (cold : Bool) : Option (Sparse Nat) := if cold then none else s.holdPads.pins.held

/-- The cause registers after the reset of `s`. -/
def State.causesOf (z s : State) (cold : Bool) (cause : Nat) (codes : List Nat) : State :=
  z.causesPut cause codes (s.power.state == .standby && (cause == 1 || cause == 3)) (if cause = 0x0E then s.get PRC_RSTCAUSE_STEP else 0)
    (s.heldThrough cold).isSome (ofBool (s.on PRC_PWRSTAT_PENDING))
    (codes.contains 0x09 || (s.on PRC_STATUS_REF_FAIL && !s.on PRC_STATUS_REF_OK && !cold))

theorem State.causesOf_kept (z s : State) (cold : Bool) (cause : Nat) (codes : List Nat) :
    (z.causesOf s cold cause codes).boot = z.boot ∧ (z.causesOf s cold cause codes).mem = z.mem := by
  unfold State.causesOf State.causesPut
  simp

theorem State.resetDevice_eq (s : State) (cold : Bool) (cause : Nat) (codes : List Nat) : s.resetDevice cold cause codes =
    (((s.resetMemories cold).resetFields s cold (logCleared cold cause)).causesOf s cold cause codes).resetRest cold (logCleared cold cause)
      codes (s.heldThrough cold) := rfl

theorem State.resetMemories_boot (s : State) (cold : Bool) : (s.resetMemories cold).boot = s.boot := by
  unfold State.resetMemories
  extract_lets a b c
  have ha : a.boot = s.boot := (s.measureEnd_moves 2).1 .boot rfl
  have hb : b.boot = a.boot := by
    unfold b
    split
    · rfl
    · exact (a.tagDown_moves 0).1 .boot rfl
  have hc : c.boot = b.boot := by
    unfold c
    split
    · exact b.flashLost_moves.1 .boot rfl
    · rfl
  refine Eq.trans ?_ (hc.trans (hb.trans ha))
  split <;> rfl

theorem State.foldl_put_kept (old : State) (l : List RegField) (s : State) :
    (l.foldl (fun (s : State) f => s.put f (old.get f)) s).boot = s.boot ∧
      (l.foldl (fun (s : State) f => s.put f (old.get f)) s).mem = s.mem := by
  induction l generalizing s with
  | nil => exact ⟨rfl, rfl⟩
  | cons f l ih => exact ih (s.put f (old.get f))

theorem State.resetFields_kept (s old : State) (cold clearLog : Bool) : (s.resetFields old cold clearLog).boot = s.boot ∧
    (s.resetFields old cold clearLog).mem = s.mem := by
  unfold State.resetFields
  extract_lets a b
  have hb : b.boot = s.boot ∧ b.mem = s.mem := by
    unfold b
    split
    · exact ⟨rfl, rfl⟩
    · exact State.foldl_put_kept old warmFields a
  clear_value b
  split
  · exact hb
  · exact hb

/-- What the initialiser does not keep reads 0. -/
theorem Sparse.read_filter_lost {α : Type} (d : α) (m : Sparse α) (p : Nat × α → Bool) (k : Nat) (h : ∀ v, p (k, v) = false) :
    Sparse.read d (m.filter p) k = d := by
  induction m with
  | nil => rfl
  | cons e m ih =>
    obtain ⟨j, v⟩ := e
    rw [List.filter_cons]
    split
    · next hp =>
      have hne : j ≠ k := fun heq => by
        rw [heq, h v] at hp
        exact Bool.false_ne_true hp
      exact (if_neg hne).trans ih
    · exact ih

theorem State.byte_initSram_lost (s : State) {a : Nat} (ha : inSys a = true) : (s.initSram fun _ => false).byte a = 0 := by
  have hblank : memDefault a = 0 := by
    unfold inSys at ha
    simp only [Bool.and_eq_true, decide_eq_true_eq] at ha
    exact if_neg (by omega)
  have hlost := Sparse.read_filter_lost (memDefault a) s.mem (fun e => !((inSys e.1 || inPacket e.1) && !false)) a fun v => by rw [ha]; rfl
  exact hlost.trans hblank

theorem State.byte_resetMemories_cold (s : State) {a : Nat} (ha : inSys a = true) : (s.resetMemories true).byte a = 0 := by
  unfold State.resetMemories
  extract_lets b c d
  rw [if_pos rfl]
  exact d.byte_initSram_lost ha

theorem deviceReset_cold {s : State} (hreq : s.power.resetReq.any (fun c => decide (resetReach s.power.state c = Reach.cold)) = true)
    (hstretch : s.power.stretch = []) (hsleep : s.power.state ≠ .sleep) (hdeep : s.power.state ≠ .deep) :
    exec .deviceReset s = goOn (s.resetDevice true (minCode (s.codesOf .cold)) s.power.resetReq) := by
  obtain ⟨c, hc, hreach⟩ := List.any_eq_true.mp hreq
  have hcold : s.codesOf .cold ≠ [] := List.ne_nil_of_mem (List.mem_filter.mpr ⟨hc, by simpa using hreach⟩)
  show execDeviceReset s = _
  unfold execDeviceReset
  extract_lets st req old oldCold cold warm
  rw [if_neg (by simpa using List.ne_nil_of_mem hc), if_neg (fun h => h.1.elim hsleep hdeep),
    if_pos ⟨by simpa using hcold, .inl (by simpa using hstretch)⟩, show old = [] from hstretch]
  rfl

theorem deviceReset_warm {s : State} (hcold : s.codesOf .cold = []) (hwarm : s.codesOf .warm ≠ []) (hstretch : s.power.stretch = [])
    (hsleep : s.power.state ≠ .sleep) (hdeep : s.power.state ≠ .deep) :
    exec .deviceReset s = goOn (s.resetDevice false (minCode (s.codesOf .warm)) s.power.resetReq) := by
  obtain ⟨c, hc⟩ := List.exists_mem_of_ne_nil _ hwarm
  show execDeviceReset s = _
  unfold execDeviceReset
  extract_lets st req old oldCold cold warm
  rw [if_neg (by simpa using List.ne_nil_of_mem (List.mem_of_mem_filter hc)), if_neg (fun h => h.1.elim hsleep hdeep),
    if_neg (by rw [show cold = [] from hcold]; simp), if_neg (by rw [show old = [] from hstretch]; simp), if_pos (by simpa using hwarm)]

theorem deviceReset_core1 {s : State} (hreq : s.power.resetReq ≠ []) (hcold : s.codesOf .cold = []) (hwarm : s.codesOf .warm = [])
    (hstretch : s.power.stretch = []) (hsleep : s.power.state ≠ .sleep) (hdeep : s.power.state ≠ .deep) :
    exec .deviceReset s = goOn ((s.resetCore1 s.power.resetReq).setPower { s.power with resetReq := [] }) := by
  show execDeviceReset s = _
  unfold execDeviceReset
  extract_lets st req old oldCold cold warm
  rw [if_neg (by simpa using hreq), if_neg (fun h => h.1.elim hsleep hdeep), if_neg (by rw [show cold = [] from hcold]; simp),
    if_neg (by rw [show old = [] from hstretch]; simp), if_neg (by rw [show warm = [] from hwarm]; simp)]

theorem deviceReset_stretched {s : State} (hreq : s.power.resetReq ≠ []) (hcold : s.codesOf .cold = []) (hstretch : s.power.stretch ≠ [])
    (hsleep : s.power.state ≠ .sleep) (hdeep : s.power.state ≠ .deep) : completes .deviceReset s fun t => t.power.resetReq = [] ∧
      t.power.stretch = s.power.stretch ++ s.power.resetReq ∧ t.get PRC_RSTCAUSE_CAUSE = s.get PRC_RSTCAUSE_CAUSE ∧ t.mem = s.mem ∧
      t.core0 = s.core0 := by
  have hexec : exec .deviceReset s = goOn ((s.put PRC_RSTSRC_SOURCES (sourceBits (s.power.stretch ++ s.power.resetReq))).setPower
      { s.power with resetReq := [], stretch := s.power.stretch ++ s.power.resetReq }) := by
    show execDeviceReset s = _
    unfold execDeviceReset
    extract_lets st req old oldCold cold warm
    rw [if_neg (by simpa using hreq), if_neg (fun h => h.1.elim hsleep hdeep), if_neg (by rw [show cold = [] from hcold]; simp),
      if_pos (by simpa using hstretch)]
  exact completes_of_goOn hexec ⟨rfl, rfl, State.get_put_ne _ _ (by decide), rfl, rfl⟩

theorem deviceReset_waits {s : State} (h : s.power.resetReq = [] ∨ ((s.power.state = .sleep ∨ s.power.state = .deep) ∧
    s.power.resetReq.contains 0x0E = false ∧ s.power.resetReq.contains 9 = false)) : exec .deviceReset s = .next s := by
  show execDeviceReset s = _
  unfold execDeviceReset
  extract_lets st req old oldCold cold warm
  by_cases hnone : s.power.resetReq = []
  · exact if_pos (by simpa using hnone)
  · obtain ⟨hlow, hret, hclock⟩ := h.resolve_left hnone
    refine (if_neg (by simpa using hnone)).trans (if_pos ⟨hlow, ?_, ?_⟩)
    · rw [show req.contains 0x0E = false from hret]
      rfl
    · rw [show req.contains 9 = false from hclock]
      rfl

/-- What a reset of the device leaves of its registers and memories, in `y`. -/
theorem State.resetDevice_shape (s : State) (cold : Bool) (cause : Nat) (codes : List Nat) : ∃ y : State,
    s.resetDevice cold cause codes = y.resetRest cold (logCleared cold cause) codes (s.heldThrough cold) ∧
      y.get PRC_RSTCAUSE_CAUSE = cause % 256 ∧ y.get PRC_RSTSRC_SOURCES = sourceBits codes % 2 ^ 14 ∧
      y.get PRC_CTRL_PIN_HOLD = ofBool (s.heldThrough cold).isSome ∧ y.boot = s.boot ∧ y.mem = (s.resetMemories cold).mem := by
  obtain ⟨hboot, hmem⟩ := (s.resetMemories cold).resetFields_kept s cold (logCleared cold cause)
  obtain ⟨hshownBoot, hshownMem⟩ := ((s.resetMemories cold).resetFields s cold (logCleared cold cause)).causesOf_kept s cold cause codes
  obtain ⟨hcause, hsources, hhold⟩ := ((s.resetMemories cold).resetFields s cold (logCleared cold cause)).causesPut_shown cause codes
    (s.power.state == .standby && (cause == 1 || cause == 3))
    (if cause = 0x0E then s.get PRC_RSTCAUSE_STEP else 0) (s.heldThrough cold).isSome (ofBool (s.on PRC_PWRSTAT_PENDING))
    (codes.contains 0x09 || (s.on PRC_STATUS_REF_FAIL && !s.on PRC_STATUS_REF_OK && !cold))
  exact ⟨_, s.resetDevice_eq cold cause codes, hcause, hsources, hhold, hshownBoot.trans (hboot.trans (s.resetMemories_boot cold)),
    hshownMem.trans hmem⟩

theorem deviceReset_clears {s : State} (hreq : s.power.resetReq.any (fun c => decide (resetReach s.power.state c = Reach.cold)) = true)
    (hstretch : s.power.stretch = []) (hsleep : s.power.state ≠ .sleep) (hdeep : s.power.state ≠ .deep) :
    completes .deviceReset s fun t => t.power.state = .run ∧ t.power.resetReq = [] ∧ t.power.stretch = s.power.resetReq ∧
      t.boot.cold = true ∧ t.tnet = 0 ∧ (∀ k : Fin 8, t.byte (0x20000000 + 512 * k.val) = 0) ∧ t.mac = {} ∧ t.core1 = {} ∧
      t.radio.duty = [] ∧ t.pins.held = none ∧ t.get PRC_RSTCAUSE_CAUSE = minCode (s.codesOf .cold) % 256 ∧
      t.get PRC_RSTSRC_SOURCES = sourceBits s.power.resetReq % 2 ^ 14 := by
  obtain ⟨y, heq, hcause, hsources, -, -, hmem⟩ := s.resetDevice_shape true (minCode (s.codesOf .cold)) s.power.resetReq
  refine completes_of_goOn ((deviceReset_cold hreq hstretch hsleep hdeep).trans (congrArg goOn heq))
    ⟨rfl, rfl, rfl, rfl, rfl, fun k => ?_, rfl, rfl, rfl, rfl, hcause, hsources⟩
  have hbyte := s.byte_resetMemories_cold (a := 0x20000000 + 512 * k.val) (by
    unfold inSys
    simp only [Bool.and_eq_true, decide_eq_true_eq]
    omega)
  exact (congrArg (fun m => Sparse.read (memDefault (0x20000000 + 512 * k.val)) m (0x20000000 + 512 * k.val)) hmem).trans hbyte

theorem deviceReset_keeps {s : State} (hcold : s.codesOf .cold = []) (hwarm : s.codesOf .warm ≠ []) (hstretch : s.power.stretch = [])
    (hsleep : s.power.state ≠ .sleep) (hdeep : s.power.state ≠ .deep) : completes .deviceReset s fun t => t.power.state = .run ∧
      t.power.resetReq = [] ∧ t.power.stretch = s.power.resetReq ∧ t.boot.cold = false ∧ t.tnet = 0 ∧ t.mac = {} ∧ t.core1 = {} ∧
      t.pins.held.isSome = true ∧ t.get PRC_CTRL_PIN_HOLD = 1 ∧ t.get PRC_RSTCAUSE_CAUSE = minCode (s.codesOf .warm) % 256 ∧
      t.get PRC_RSTSRC_SOURCES = sourceBits s.power.resetReq % 2 ^ 14 ∧ t.boot.recoveryReq = s.boot.recoveryReq := by
  obtain ⟨y, heq, hcause, hsources, hhold, hboot, -⟩ := s.resetDevice_shape false (minCode (s.codesOf .warm)) s.power.resetReq
  have hrecovery : y.boot.recoveryReq = s.boot.recoveryReq := congrArg Boot.recoveryReq hboot
  exact completes_of_goOn ((deviceReset_warm hcold hwarm hstretch hsleep hdeep).trans (congrArg goOn heq))
    ⟨rfl, rfl, rfl, rfl, rfl, rfl, rfl, rfl, hhold, hcause, hsources, hrecovery⟩

/-! A reset of core 1 alone (R462). -/

/-- An entry that finds room changes the log alone. -/
theorem State.logEntry_room {s : State} (hroom : s.faults.entries.length < 16) (e : FaultEntry) : ∃ f, s.logEntry e = s.with_faults f :=
  ⟨_, if_pos hroom⟩

/-- Core 1 with its watchdog after a reset of its own by `code`. -/
def State.core1Off (s : State) (code : Nat) : State :=
  ((({ s with core1 := s.core1.resetOwn } : State).flag (PRC_WDT_CFG_EN 1) false).flag (PRC_WDT_STAT_RUNNING 1) false).put
    PRC_RSTCAUSE_C1_CAUSE code

theorem State.resetCore1_eq {s : State} (codes : List Nat) (htest : s.mode ≠ modeTest) :
    s.resetCore1 codes = (s.core1Off (minCode codes)).prcInfo (minCode codes) := by
  have hcheck : (s.mode == modeTest && leNat (Sparse.read [] s.objs 0x803000) == 1) = false := by simp [htest]
  unfold State.resetCore1
  dsimp only
  rw [hcheck]
  rfl

theorem State.core1Off_shown (s : State) (code : Nat) : (s.core1Off code).get (PRC_WDT_CFG_EN 1) = 0 ∧
    (s.core1Off code).get PRC_RSTCAUSE_C1_CAUSE = code % 256 := by
  unfold State.core1Off
  refine ⟨?_, State.get_put_self _ _ _⟩
  rw [State.get_put_ne _ _ (by decide), State.get_flag_ne _ _ (by decide)]
  exact State.get_flag_bit _ _ rfl

theorem deviceReset_resetsCore1 {s : State} (hreq : s.power.resetReq ≠ []) (hcold : s.codesOf .cold = []) (hwarm : s.codesOf .warm = [])
    (hstretch : s.power.stretch = []) (hsleep : s.power.state ≠ .sleep) (hdeep : s.power.state ≠ .deep) (htest : s.mode ≠ modeTest)
    (hroom : s.faults.entries.length < 16) : completes .deviceReset s fun t => t.power.resetReq = [] ∧ t.core1 = s.core1.resetOwn ∧
      t.get (PRC_WDT_CFG_EN 1) = 0 ∧ t.get PRC_RSTCAUSE_C1_CAUSE = minCode s.power.resetReq % 256 ∧ t.core0 = s.core0 ∧ t.mem = s.mem := by
  obtain ⟨hwdt, hcause⟩ := s.core1Off_shown (minCode s.power.resetReq)
  obtain ⟨f, hf⟩ := State.logEntry_room (s := s.core1Off (minCode s.power.resetReq)) hroom
    { cls := 0, src := 0x1E, addr := 0, detail := minCode s.power.resetReq, tnet := 0, scrub := false }
  have hreset : s.resetCore1 s.power.resetReq = (s.core1Off (minCode s.power.resetReq)).with_faults f :=
    (State.resetCore1_eq _ htest).trans hf
  exact completes_of_goOn ((deviceReset_core1 hreq hcold hwarm hstretch hsleep hdeep).trans
    (congrArg (fun z : State => goOn (z.setPower { s.power with resetReq := [] })) hreset)) ⟨rfl, rfl, hwdt, hcause, rfl, rfl⟩

/-- Settles O52. That a block reset acts at the write of PRC_BLKRST, and that a request of the same or a narrower reach during
the stretch is only recorded, is the model's choice by log entry 93. -/
theorem resetsAndBlockResets : Obligations.ResetsAndBlockResets := by
  unfold Obligations.ResetsAndBlockResets
  refine ⟨fun s v h => congrArg goOn ((if_neg (not_not.mpr h)).trans (if_pos rfl)),
    fun s v h => congrArg goOn ((if_neg (not_not.mpr h)).trans ((if_neg (by decide)).trans (if_pos rfl))),
    fun s v h => ⟨congrArg goOn (if_pos h), congrArg goOn (if_pos h)⟩, fun s c1 => completes_of_goOn rfl (State.requestReset_contains _ _),
    fun _ _ hn hself => pinReset_requests hn hself, fun s n hn => if_pos (.inl hn), fun _ h => powerOn_requests h,
    fun _ hreq hstretch hsleep hdeep => deviceReset_clears hreq hstretch hsleep hdeep,
    fun _ hcold hwarm hstretch hsleep hdeep => deviceReset_keeps hcold hwarm hstretch hsleep hdeep,
    fun _ hreq hcold hwarm hstretch hsleep hdeep htest hroom => deviceReset_resetsCore1 hreq hcold hwarm hstretch hsleep hdeep htest hroom,
    fun _ hreq hcold hstretch hsleep hdeep => deviceReset_stretched hreq hcold hstretch hsleep hdeep, fun _ h => deviceReset_waits h,
    fun _ b h => resetRelease_boots b h, fun _ => rfl, fun _ _ hf hfree => blockReset_pke hf hfree,
    fun _ _ hf hfree hmode => blockReset_txp hf hfree hmode, fun _ hmode _ => blockReset_compat hmode,
    fun _ _ hheld htag hn => blockResetRelease_above hheld htag hn, fun _ hheld => blockResetRelease_rf hheld⟩

end Sys2Proof.Machine

/-! ## Power states (O50) -/
namespace Sys2Proof.Machine

/-! What at most requests a reset. -/

/-- From `s` to `t` the power controller stays, with its registers, but for new reset requests. -/
def Undisturbed (s t : State) : Prop :=
  t.power = { s.power with resetReq := t.power.resetReq } ∧ ∀ f : RegField, f.inBlock 0 → t.get f = s.get f

theorem Undisturbed.refl (s : State) : Undisturbed s s := ⟨rfl, fun _ _ => rfl⟩

theorem Undisturbed.trans {r s t : State} (h : Undisturbed r s) (g : Undisturbed s t) : Undisturbed r t := by
  refine ⟨?_, fun f hf => (g.2 f hf).trans (h.2 f hf)⟩
  rw [g.1, h.1]

theorem Calm.undisturbed {s t : State} (h : Calm s t) : Undisturbed s t := by
  refine ⟨?_, h.2⟩
  rw [h.1]

theorem State.requestReset_undisturbed (s : State) (code : Nat) : Undisturbed s (s.requestReset code) := by
  unfold State.requestReset
  split
  · exact .refl s
  · exact ⟨rfl, fun _ _ => rfl⟩

theorem State.logEntry_calm (s : State) (e : FaultEntry) : Calm s (s.logEntry e) := by
  unfold State.logEntry
  extract_lets dated es
  split
  · exact ⟨rfl, fun _ _ => rfl⟩
  split
  · exact ⟨rfl, fun _ _ => rfl⟩
  · exact ((Calm.put s _ ERR_STATUS_LOG_LOST_block (by decide)).trans (Calm.put _ _ ERR_STATUS_LOST_block (by decide))).trans
      (State.raise_calm _ (by decide))

theorem State.fatal_undisturbed (s : State) (src addr detail : Nat) (escalated : Bool) :
    Undisturbed s (s.fatal src addr detail escalated) := by
  unfold State.fatal
  extract_lets e f logged log counted
  have hcounted : Calm s counted := (s.logEntry_calm e).trans ⟨rfl, fun _ _ => rfl⟩
  split
  · exact (hcounted.trans (State.raise_calm _ (by decide))).undisturbed
  · exact (hcounted.trans (t := { counted with faults := { counted.faults with doubled := true } }) ⟨rfl, fun _ _ => rfl⟩).undisturbed.trans
      (State.requestReset_undisturbed _ _)

theorem State.report_undisturbed (s : State) (cls src addr detail : Nat) : Undisturbed s (s.report cls src addr detail) := by
  unfold State.report
  extract_lets e log opened
  split
  · exact (s.logEntry_calm e).undisturbed
  · exact ((s.logEntry_calm e).trans (State.raise_calm _ (by decide))).undisturbed
  · split
    · exact s.fatal_undisturbed _ _ _ _
    · exact (Calm.trans (s := opened) ⟨rfl, fun _ _ => rfl⟩ ((opened.logEntry_calm _).trans (State.raise_calm _ (by decide)))).undisturbed
  · exact s.fatal_undisturbed _ _ _ _

/-! The flash controller takes up its queue. -/

theorem State.reportDecode_undisturbed (s : State) (a : Nat) (d : PageDecode) : Undisturbed s (s.reportDecode a d) := by
  unfold State.reportDecode
  extract_lets page shown located counted
  have hlocated : Calm s located :=
    (((Calm.put s _ MEM_ECCSTAT_RESULT_block (by decide)).trans (Calm.put _ _ MEM_ECCSTAT_BITS_block (by decide))).trans
      (Calm.put _ _ MEM_ECCSTAT_REASON_block (by decide))).trans (Calm.put _ _ MEM_ECCSTAT_PAGE_block (by decide))
  split
  · have hcounted : Calm s counted := (hlocated.trans (Calm.put _ _ MEM_ECCCNT_ECC_CORR_block (by decide))).trans (State.raise_calm _ (by decide))
    split
    · exact hcounted.undisturbed.trans (State.report_undisturbed _ _ _ _ _)
    · exact hcounted.undisturbed
  · exact (hlocated.trans (Calm.put _ _ MEM_ECCCNT_ECC_UNCORR_block (by decide))).undisturbed.trans (State.report_undisturbed _ _ _ _ _)
  · exact hlocated.undisturbed

theorem State.setRun_calm (s : State) (k : Nat) (r : Option FlashRun) : Calm s (s.setRun k r) := (s.setRun_moves k r).calm rfl rfl

theorem State.beginDesc_undisturbed (s : State) (k : Nat) (r : FlashRun) : Undisturbed s (s.beginDesc k r) := by
  unfold State.beginDesc
  extract_lets d phys dec reported run
  split
  · split
    · exact (s.setRun_calm k _).undisturbed
    · have hreported : Undisturbed s reported := by
        unfold reported
        split
        · exact .refl s
        · exact s.reportDecode_undisturbed _ _
      exact hreported.trans (State.setRun_calm _ _ _).undisturbed
  · exact ((s.startProgram_moves k r).calm rfl rfl).undisturbed
  · split
    · exact ((s.setRun_calm k _).trans ((State.startOp_moves _ _ _ _).calm rfl rfl)).undisturbed
    · exact ((s.startErase_moves k r).calm rfl rfl).undisturbed
  · exact (s.setRun_calm k _).undisturbed
  · exact (s.setRun_calm k _).undisturbed

theorem State.kickBank_undisturbed (s : State) (k : Nat) : Undisturbed s (s.kickBank k) := by
  unfold State.kickBank
  split
  · exact .refl s
  split
  · split
    · exact .refl s
    · extract_lets r
      split
      · exact (s.setRun_calm k _).undisturbed
      · split
        · exact s.beginDesc_undisturbed k r
        · extract_lets triggered md rest i flash ahead
          have hahead : Undisturbed s ahead := Calm.undisturbed ⟨rfl, fun _ _ => rfl⟩
          clear_value ahead md
          split
          · exact hahead
          · extract_lets r'
            split
            · exact hahead.trans (State.setRun_calm _ _ _).undisturbed
            · exact hahead.trans (State.beginDesc_undisturbed _ _ _)
  · split
    · split
      · exact .refl s
      · extract_lets side t
        have ht : Undisturbed s t := by
          unfold t
          split
          · exact (s.setRun_calm k _).undisturbed
          · exact s.beginDesc_undisturbed k _
        exact ht.trans ((State.setBank_moves _ _ _).calm rfl rfl).undisturbed
    · exact .refl s

theorem State.flushAll_undisturbed (s : State) : Undisturbed s s.flushAll := by
  unfold State.flushAll State.kick
  have htriggered := ((s.mergeTrigger_moves fun _ => true).calm rfl rfl).undisturbed
  have hmerge := ((s.mergeTrigger fun _ => true).kickMerge_moves.calm rfl rfl).undisturbed
  have hpump := ((s.mergeTrigger fun _ => true).kickMerge.mergePump_moves.calm rfl rfl).undisturbed
  exact (((htriggered.trans hmerge).trans hpump).trans (State.kickBank_undisturbed _ 0)).trans (State.kickBank_undisturbed _ 1)

/-! A power state command (R452, R453). -/

theorem State.powerRow_eq {s : State} (hrun : s.power.state = .run ∨ s.power.state = .doze) (code : Nat) :
    s.powerRow code = goOn (s.powerCommand code) := congrArg goOn (if_pos hrun)

/-- `s` where the command is not rejected. -/
def State.cmdTaken (s : State) : State := s.flag PRC_PWRSTAT_CMD_REJ false

theorem State.get_cmdTaken (s : State) {f : RegField} (hf : f.key ≠ PRC_PWRSTAT_CMD_REJ.key) : s.cmdTaken.get f = s.get f :=
  s.get_flag_ne false hf

theorem State.mode_cmdTaken (s : State) : s.cmdTaken.mode = s.mode := s.get_cmdTaken (by decide)

theorem State.running_cmdTaken (s : State) : s.cmdTaken.running = s.running := congrArg (· != 0) (s.get_cmdTaken (by decide))

theorem State.wakeable_cmdTaken (s : State) (t : PowerState) : s.cmdTaken.wakeable t = s.wakeable t := by
  have henabled : ∀ n, s.cmdTaken.wakeEnabled n = s.wakeEnabled n := fun n => by
    unfold State.wakeEnabled State.on
    rw [s.get_cmdTaken (by decide), s.get_cmdTaken (by decide)]
    rfl
  have hclock : ∀ k, s.cmdTaken.get (TMR_CTRL_CLKSEL k) = s.get (TMR_CTRL_CLKSEL k) := fun k => s.get_cmdTaken fun hkey =>
    absurd ((TMR_CTRL_CLKSEL_block k).symm.trans (congrArg (· / 0x200000) hkey)) (by decide)
  unfold State.wakeable
  simp only [henabled, hclock]

/-- The entry into `t` is pending. -/
def State.entering (s : State) (t : PowerState) : State :=
  (s.cmdTaken.flag PRC_PWRSTAT_PENDING true).setPower { s.power with target := t }

theorem State.entering_shown (s : State) (t : PowerState) : (s.entering t).get PRC_PWRSTAT_PENDING = 1 ∧ (s.entering t).power.target = t :=
  ⟨s.cmdTaken.get_flag_bit (f := PRC_PWRSTAT_PENDING) true rfl, rfl⟩

theorem State.powerCommand_busy {s : State} (hpending : s.get PRC_PWRSTAT_PENDING = 1) (code : Nat) :
    s.powerCommand code = s.flag PRC_PWRSTAT_CMD_REJ true :=
  if_pos (.inl (State.on_of_get_one hpending))

section
variable {s : State} {code : Nat} (hcode : 1 ≤ code ∧ code ≤ 4) (hidle : s.get PRC_PWRSTAT_PENDING = 0)
include hcode hidle

theorem State.powerCommand_idle : ¬(s.on PRC_PWRSTAT_PENDING ∨ code = 0 ∨ 4 < code) := by
  rw [State.on_of_get_zero hidle]
  simp
  omega

theorem State.powerCommand_moded (hmode : s.mode = modeCompat ∨ s.mode = modeRecovery) :
    s.powerCommand code = s.cmdTaken.entryRefused 5 :=
  (if_neg (State.powerCommand_idle hcode hidle)).trans (if_pos (by
    show s.cmdTaken.mode = modeCompat ∨ s.cmdTaken.mode = modeRecovery
    rwa [State.mode_cmdTaken]))

section
variable (hcompat : s.mode ≠ modeCompat) (hrecovery : s.mode ≠ modeRecovery)
include hcompat hrecovery

theorem State.powerCommand_native : s.powerCommand code = if s.core0.halted ∨ s.core1.halted then s.cmdTaken.entryRefused 4
    else if powerTarget code ≠ .off ∧ !s.wakeable (powerTarget code) then s.cmdTaken.entryRefused 3
    else
      let z := if powerTarget code = .deep ∧ s.running then (s.entering (powerTarget code)).flag SLE_STATUS_STOP_PEND true
        else s.entering (powerTarget code)
      if powerTarget code = .sleep then z else z.flushAll := by
  have hmode : ¬(s.cmdTaken.mode = modeCompat ∨ s.cmdTaken.mode = modeRecovery) := by
    rw [State.mode_cmdTaken]
    exact fun h => h.elim hcompat hrecovery
  have hrunning : (s.entering (powerTarget code)).running = s.running := by
    refine Eq.trans ?_ s.running_cmdTaken
    exact congrArg (· != 0) (s.cmdTaken.get_flag_ne (f := PRC_PWRSTAT_PENDING) true (by decide))
  rw [← s.wakeable_cmdTaken, ← hrunning]
  exact (if_neg (State.powerCommand_idle hcode hidle)).trans (if_neg hmode)

theorem State.powerCommand_halted (hhalted : s.core0.halted = true ∨ s.core1.halted = true) :
    s.powerCommand code = s.cmdTaken.entryRefused 4 :=
  (State.powerCommand_native hcode hidle hcompat hrecovery).trans (if_pos hhalted)

section
variable (hcore0 : s.core0.halted = false) (hcore1 : s.core1.halted = false)
include hcore0 hcore1

theorem State.powerCommand_sleepless (hoff : powerTarget code ≠ .off) (hwake : s.wakeable (powerTarget code) = false) :
    s.powerCommand code = s.cmdTaken.entryRefused 3 := by
  rw [State.powerCommand_native hcode hidle hcompat hrecovery, if_neg (by simp [hcore0, hcore1]),
    if_pos ⟨hoff, by rw [hwake]; rfl⟩]

/-- A command that is taken leaves its entry pending. -/
theorem State.powerCommand_enters (hwake : powerTarget code = .off ∨ s.wakeable (powerTarget code) = true) : s.powerCommand code =
    let z := if powerTarget code = .deep ∧ s.running then (s.entering (powerTarget code)).flag SLE_STATUS_STOP_PEND true
      else s.entering (powerTarget code)
    if powerTarget code = .sleep then z else z.flushAll := by
  rw [State.powerCommand_native hcode hidle hcompat hrecovery, if_neg (by simp [hcore0, hcore1]),
    if_neg]
  rintro ⟨hoff, hnot⟩
  rw [hwake.resolve_left hoff] at hnot
  exact absurd hnot (by decide)

end
end
end

/-- After a flush the entry is pending still. -/
theorem State.flushAll_pending {z : State} {t : PowerState} (hpending : z.get PRC_PWRSTAT_PENDING = 1) (htarget : z.power.target = t) :
    z.flushAll.get PRC_PWRSTAT_PENDING = 1 ∧ z.flushAll.power.target = t := by
  obtain ⟨hpower, hget⟩ := z.flushAll_undisturbed
  exact ⟨(hget _ PRC_PWRSTAT_PENDING_block).trans hpending, by rw [hpower]; exact htarget⟩

section
variable {s : State} (hrun : s.power.state = .run ∨ s.power.state = .doze) (hidle : s.get PRC_PWRSTAT_PENDING = 0)
  (hcompat : s.mode ≠ modeCompat) (hrecovery : s.mode ≠ modeRecovery) (hcore0 : s.core0.halted = false) (hcore1 : s.core1.halted = false)
include hrun hidle hcompat hrecovery hcore0 hcore1

theorem sleepEnter_enters (hwake : s.wakeable .sleep = true) : exec .sleepEnter s = .next (s.entering .sleep) :=
  (State.powerRow_eq hrun 1).trans (congrArg goOn
    (State.powerCommand_enters (by decide) hidle hcompat hrecovery hcore0 hcore1 (.inr hwake)))

theorem deepSleep_enters (hwake : s.wakeable .deep = true) : completes .deepSleep s fun t =>
    t.get PRC_PWRSTAT_PENDING = 1 ∧ t.power.target = .deep ∧ (s.running = true → t.get SLE_STATUS_STOP_PEND = 1) := by
  generalize hz : (if PowerState.deep = .deep ∧ s.running then (s.entering .deep).flag SLE_STATUS_STOP_PEND true else s.entering .deep) = z
  have hexec : exec .deepSleep s = goOn z.flushAll := by
    rw [← hz]
    exact (State.powerRow_eq hrun 2).trans (congrArg goOn
      (State.powerCommand_enters (by decide) hidle hcompat hrecovery hcore0 hcore1 (.inr hwake)))
  obtain ⟨hpending, htarget⟩ := s.entering_shown .deep
  have hshown : z.get PRC_PWRSTAT_PENDING = 1 ∧ z.power.target = .deep := by
    rw [← hz]
    split
    · exact ⟨(State.get_flag_ne _ _ (by decide)).trans hpending, htarget⟩
    · exact ⟨hpending, htarget⟩
  obtain ⟨hflushed, hflushedTarget⟩ := State.flushAll_pending hshown.1 hshown.2
  refine completes_of_goOn hexec ⟨hflushed, hflushedTarget, fun hrunning => ?_⟩
  rw [z.flushAll_moves.get_eq SLE_STATUS_STOP_PEND_block (by decide) rfl, ← hz, if_pos ⟨rfl, hrunning⟩]
  exact State.get_flag_bit _ _ rfl

theorem standbyEnter_enters (hwake : s.wakeable .standby = true) : completes .standbyEnter s fun t =>
    t.get PRC_PWRSTAT_PENDING = 1 ∧ t.power.target = .standby := by
  obtain ⟨hpending, htarget⟩ := s.entering_shown .standby
  exact completes_of_goOn ((State.powerRow_eq hrun 3).trans (congrArg goOn
    (State.powerCommand_enters (by decide) hidle hcompat hrecovery hcore0 hcore1 (.inr hwake)))) (State.flushAll_pending hpending htarget)

theorem powerOff_enters : completes .powerOff s fun t => t.get PRC_PWRSTAT_PENDING = 1 ∧ t.power.target = .off := by
  obtain ⟨hpending, htarget⟩ := s.entering_shown .off
  exact completes_of_goOn ((State.powerRow_eq hrun 4).trans (congrArg goOn
    (State.powerCommand_enters (by decide) hidle hcompat hrecovery hcore0 hcore1 (.inl rfl)))) (State.flushAll_pending hpending htarget)
end

/-! Refusals of a power state command (R453). -/

theorem powerCommands_eq {s u : State} (hrun : s.power.state = .run ∨ s.power.state = .doze)
    (h : ∀ code, 1 ≤ code ∧ code ≤ 4 → s.powerCommand code = u) :
    exec .sleepEnter s = .next u ∧ exec .deepSleep s = .next u ∧ exec .standbyEnter s = .next u ∧ exec .powerOff s = .next u :=
  have hrow : ∀ code, 1 ≤ code ∧ code ≤ 4 → s.powerRow code = .next u := fun code hcode =>
    (State.powerRow_eq hrun code).trans (congrArg goOn (h code hcode))
  ⟨hrow 1 (by decide), hrow 2 (by decide), hrow 3 (by decide), hrow 4 (by decide)⟩

/-! The entry into a low-power state (R452). -/

theorem State.radioDown_calm (s : State) : Calm s s.radioDown := by
  unfold State.radioDown
  extract_lets cut rested radio
  have hcut : Calm s cut := s.txCut_calm
  have hrested : Calm cut rested := Calm.foldl (fun z i => by
    split
    · exact ((z.cutFrame_moves i).calm rfl rfl).trans (Calm.put _ _ (CHZ_LSTAT_STATE_block i) (by decide))
    · exact Calm.put _ _ (CHZ_LSTAT_STATE_block i) (by decide)) _ cut
  clear_value cut rested radio
  have hquiet : Calm cut { rested with radio := radio } := hrested.trans ⟨rfl, fun _ _ => rfl⟩
  exact (((hcut.trans hquiet).trans (Calm.put _ _ RFC_STATE_STATE_A_block (by decide))).trans
    (Calm.put _ _ RFC_STATE_STATE_B_block (by decide))).trans (Calm.put _ _ RFC_STATE_STATE_T_block (by decide))

/-- The transmit path is OFF and no transmission is under way. -/
def State.Silent (s : State) : Prop := s.get RFC_STATE_STATE_T = 0 ∧ s.radio.txWindow = false

theorem State.radioDown_silent (s : State) : s.radioDown.Silent := ⟨State.get_put_self _ _ 0, rfl⟩

theorem State.holdPads_held (s : State) : s.holdPads.pins.held.isSome = true := rfl

theorem State.holdPads_silent {s : State} (h : s.Silent) : s.holdPads.Silent := h

theorem State.deepLoss_silent (s : State) : s.deepLoss.Silent := by
  refine ⟨?_, rfl⟩
  have hreset : ([1, 2, 3, 4, 5, 6, 7, 8, 14, 15, 17].foldl State.resetBlock s).get RFC_STATE_STATE_T = 0 := by
    simp only [List.foldl_cons, List.foldl_nil]
    iterate 10 rw [State.get_resetBlock_ne _ RFC_STATE_STATE_T_block (by decide)]
    exact s.get_resetBlock RFC_STATE_STATE_T_block
  unfold State.deepLoss
  extract_lets reset lost
  have hlost : lost.get RFC_STATE_STATE_T = reset.get RFC_STATE_STATE_T := by
    unfold lost
    split
    · rfl
    · exact (reset.tagDown_moves 0).get_eq RFC_STATE_STATE_T_block (by decide) rfl
  exact hlost.trans (((State.otpDefaults_moves _).get_eq RFC_STATE_STATE_T_block (by decide) rfl).trans hreset)

/-- `s` with the entry shown as complete. -/
def State.lowShown (s : State) : State :=
  ((((s.flag PRC_PWRSTAT_PENDING false).put PRC_PWRSTAT_RESULT 0).bumpWrap PRC_PWRSTAT_ENTRIES).flag PRC_PWRSTAT_TNET_RESTORED false).setPower
    { s.power with state := s.power.target, wakes := [], atBoundary := false }

/-- `t` stands in the target of `s`, silent, with the entry shown as complete. -/
def State.EntersLow (s t : State) : Prop :=
  t.power.state = s.power.target ∧ t.get PRC_PWRSTAT_PENDING = 0 ∧ t.get PRC_PWRSTAT_RESULT = 0 ∧
    t.get PRC_PWRSTAT_ENTRIES = (s.get PRC_PWRSTAT_ENTRIES + 1) % 2 ^ 16 ∧ t.Silent

theorem State.lowShown_get (s : State) : s.lowShown.get PRC_PWRSTAT_PENDING = 0 ∧ s.lowShown.get PRC_PWRSTAT_RESULT = 0 ∧
    s.lowShown.get PRC_PWRSTAT_ENTRIES = (s.get PRC_PWRSTAT_ENTRIES + 1) % 2 ^ 16 := by
  have hflag : ∀ f : RegField, f.key ≠ PRC_PWRSTAT_TNET_RESTORED.key → s.lowShown.get f =
      (((s.flag PRC_PWRSTAT_PENDING false).put PRC_PWRSTAT_RESULT 0).bumpWrap PRC_PWRSTAT_ENTRIES).get f :=
    fun f hf => (State.get_setPower _ _ f).trans (State.get_flag_ne _ _ hf)
  refine ⟨?_, ?_, ?_⟩
  · rw [hflag _ (by decide), State.get_bumpWrap_ne _ (by decide), State.get_put_ne _ _ (by decide), State.get_flag_bit _ _ rfl]
    rfl
  · rw [hflag _ (by decide), State.get_bumpWrap_ne _ (by decide), State.get_put_self]
    rfl
  · rw [hflag _ (by decide)]
    unfold State.bumpWrap
    rw [State.get_put_self, State.get_put_ne _ _ (by decide), State.get_flag_ne _ _ (by decide)]
    rfl

/-- What keeps the registers of the controller and ends silent in the target completes the entry. -/
theorem State.entersLow_of_shown {s t : State} (hstate : t.power.state = s.power.target)
    (hget : ∀ f : RegField, f.inBlock 0 → t.get f = s.lowShown.get f) (hsilent : t.Silent) : s.EntersLow t := by
  obtain ⟨hpending, hresult, hentries⟩ := s.lowShown_get
  exact ⟨hstate, (hget _ PRC_PWRSTAT_PENDING_block).trans hpending, (hget _ PRC_PWRSTAT_RESULT_block).trans hresult,
    (hget _ PRC_PWRSTAT_ENTRIES_block).trans hentries, hsilent⟩

theorem State.enterLow_sleep {s : State} (h : s.power.target = .sleep) : s.enterLow = s.lowShown.radioDown := by
  unfold State.enterLow
  extract_lets t shown power low
  have hlow : low = s.lowShown := rfl
  have ht : t = .sleep := h
  rw [← hlow]
  clear_value t low
  subst ht
  rfl

/-- `s` with its calendar read and TNET stopped. -/
def State.deepShown (s : State) : State := s.lowShown.setPower { s.lowShown.power with savedTnet := s.lowShown.tnet, tnetRuns := false }

theorem State.enterLow_deep {s : State} (h : s.power.target = .deep) : s.enterLow = s.deepShown.radioDown.holdPads.deepLoss := by
  unfold State.enterLow
  rw [h]
  unfold State.deepShown State.lowShown
  rw [h]
  rfl

/-- `s` with TNET stopped. -/
def State.tnetStopped (s : State) : State := s.setPower { s.power with tnetRuns := false }

/-- `s` with the enables of the wake sources copied for Standby. -/
def State.wakesCopied (s : State) : State := s.setPower { s.power with standbyWake := s.get PRC_WAKEEN_EN }

/-- The tag island loses its power unless the field feeds it. -/
def State.tagUnfed (s : State) : State := if s.tag.field then s else s.tagDown 0

theorem State.tagUnfed_calm (s : State) : Calm s s.tagUnfed := by
  unfold State.tagUnfed
  split
  · exact .refl s
  · exact (s.tagDown_moves 0).calm rfl rfl

/-- What Standby and Off make of the state. -/
def State.halted (s : State) : State := s.tnetStopped.tagUnfed.radioDown.holdPads

theorem State.enterLow_standby {s : State} (h : s.power.target = .standby) : s.enterLow = s.lowShown.wakesCopied.halted := by
  unfold State.enterLow
  extract_lets t shown power low
  have hlow : low = s.lowShown := rfl
  have ht : t = .standby := h
  rw [← hlow]
  clear_value t low
  subst ht
  rfl

theorem State.enterLow_off {s : State} (h : s.power.target = .off) : s.enterLow = s.lowShown.halted := by
  unfold State.enterLow
  extract_lets t shown power low
  have hlow : low = s.lowShown := rfl
  have ht : t = .off := h
  rw [← hlow]
  clear_value t low
  subst ht
  rfl

theorem State.enterLow_enters_sleep {s : State} (h : s.power.target = .sleep) : s.EntersLow s.enterLow := by
  rw [s.enterLow_sleep h]
  obtain ⟨hpower, hget⟩ := s.lowShown.radioDown_calm
  exact State.entersLow_of_shown (congrArg Power.state hpower) hget (State.radioDown_silent _)

theorem State.enterLow_enters_deep {s : State} (h : s.power.target = .deep) : s.EntersLow s.enterLow ∧
    s.enterLow.power.tnetRuns = false ∧ s.enterLow.pins.held.isSome = true ∧ s.enterLow.power.savedTnet = s.tnet ∧
    s.enterLow.mac = {} ∧ s.enterLow.sec = {} := by
  rw [s.enterLow_deep h]
  generalize hz : s.deepShown.radioDown.holdPads = z
  have hheld : Calm s.deepShown z := by
    rw [← hz]
    exact s.deepShown.radioDown_calm.trans ((State.holdPads_moves _).calm rfl rfl)
  obtain ⟨hpower, hget⟩ := hheld.trans (z.deepLoss_moves.calm rfl rfl)
  have hpins : z.deepLoss.pins.held.isSome = true := by
    rw [z.deepLoss_moves.1 .pins rfl, ← hz]
    exact State.holdPads_held _
  exact ⟨State.entersLow_of_shown (congrArg Power.state hpower) (fun f hf => (hget f hf).trans (State.get_setPower _ _ f))
    z.deepLoss_silent, congrArg Power.tnetRuns hpower, hpins,
    congrArg Power.savedTnet hpower, rfl, rfl⟩

theorem State.halted_enters {s z : State} (hstate : z.power.state = s.power.target)
    (hget : ∀ f : RegField, f.inBlock 0 → z.get f = s.lowShown.get f) : s.EntersLow z.halted ∧
      z.halted.power.tnetRuns = false ∧ z.halted.pins.held.isSome = true ∧ z.halted.power.standbyWake = z.power.standbyWake := by
  obtain ⟨hpower, hkept⟩ := (z.tnetStopped.tagUnfed_calm.trans (State.radioDown_calm _)).trans ((State.holdPads_moves _).calm rfl rfl)
  exact ⟨State.entersLow_of_shown ((congrArg Power.state hpower).trans hstate) (fun f hf => (hkept f hf).trans (hget f hf))
    (State.holdPads_silent (State.radioDown_silent _)), congrArg Power.tnetRuns hpower, State.holdPads_held _,
    (congrArg Power.standbyWake hpower :)⟩

theorem State.lowShown_wakeen (s : State) : s.lowShown.get PRC_WAKEEN_EN = s.get PRC_WAKEEN_EN := by
  unfold State.lowShown
  rw [State.get_setPower, State.get_flag_ne _ _ (by decide), State.get_bumpWrap_ne _ (by decide), State.get_put_ne _ _ (by decide),
    State.get_flag_ne _ _ (by decide)]

theorem powerEntryComplete_enters {s : State} (hpending : s.get PRC_PWRSTAT_PENDING = 1) (hready : s.entryReady = true)
    (htarget : s.power.target = .sleep ∨ s.power.target = .deep ∨ s.power.target = .standby ∨ s.power.target = .off) :
    completes .powerEntryComplete s fun t => s.EntersLow t ∧
      (s.power.target ≠ .sleep → t.power.tnetRuns = false ∧ t.pins.held.isSome = true) ∧
      (s.power.target = .deep → t.power.savedTnet = s.tnet ∧ t.mac = {} ∧ t.sec = {}) ∧
      (s.power.target = .standby → t.power.standbyWake = s.get PRC_WAKEEN_EN) := by
  refine completes_of_goOn (congrArg goOn (if_pos ⟨State.on_of_get_one hpending, hready⟩)) ?_
  obtain h | h | h | h := htarget
  · exact ⟨State.enterLow_enters_sleep h, fun hne => absurd h hne, by simp [h], by simp [h]⟩
  · obtain ⟨henters, hruns, hheld, hlost⟩ := State.enterLow_enters_deep h
    exact ⟨henters, fun _ => ⟨hruns, hheld⟩, fun _ => hlost, by simp [h]⟩
  · rw [State.enterLow_standby h]
    obtain ⟨henters, hruns, hheld, hwake⟩ := State.halted_enters (s := s) (z := s.lowShown.wakesCopied) rfl
      fun f _ => State.get_setPower _ _ f
    exact ⟨henters, fun _ => ⟨hruns, hheld⟩, by simp [h], fun _ => hwake.trans s.lowShown_wakeen⟩
  · rw [State.enterLow_off h]
    obtain ⟨henters, hruns, hheld, _⟩ := State.halted_enters (s := s) (z := s.lowShown) rfl fun _ _ => rfl
    exact ⟨henters, fun _ => ⟨hruns, hheld⟩, by simp [h], by simp [h]⟩

/-! Doze ends (R451). -/

theorem CoreState.leaveWait_run (c : CoreState) : c.leaveWait.run = if c.wakes = true then .running else c.run := by
  unfold CoreState.leaveWait
  split <;> rfl

theorem dozeExit_ends {s : State} (hdoze : s.power.state = .doze) (hwakes : s.core0.wakes = true ∨ s.core1.wakes = true) :
    completes .dozeExit s fun t => t.power.state = .run ∧ t.core0.run = (if s.core0.wakes = true then .running else s.core0.run) ∧
      t.core1.run = (if s.core1.wakes = true then .running else s.core1.run) :=
  completes_of_goOn (if_pos ⟨hdoze, hwakes⟩) ⟨rfl, s.core0.leaveWait_run, s.core1.leaveWait_run⟩

/-! A wake source fires (R454). -/

/-- `s` with wake source `n` noted in PRC_WAKESRC. -/
def State.wakeSeen (s : State) (n : Nat) : State := s.put PRC_WAKESRC_SRC (setBit (s.get PRC_WAKESRC_SRC) n)

section
variable {s : State} {n : Nat}

theorem State.wakeRequest_unheard (h : s.wakeEnabled n = false ∨ (s.get PRC_PWRSTAT_PENDING = 0 ∧ wakeLive s.power.state n = false)) :
    s.wakeRequest n = s := by
  unfold State.wakeRequest
  obtain h | ⟨hidle, hdead⟩ := h
  · rw [if_pos (by rw [h]; rfl)]
  · rw [State.on_of_get_zero hidle, hdead]
    simp

theorem State.wakeRequest_abandons (henabled : s.wakeEnabled n = true) (hpending : s.get PRC_PWRSTAT_PENDING = 1) :
    s.wakeRequest n = (s.entryRefused 1).put PRC_WAKESRC_SRC (setBit (s.get PRC_WAKESRC_SRC) n) := by
  unfold State.wakeRequest
  rw [if_neg (by rw [henabled]; decide), if_pos (State.on_of_get_one hpending)]
  rfl

/-- A live source that is enabled asks for the return. -/
theorem State.wakeRequest_asks (henabled : s.wakeEnabled n = true) (hidle : s.get PRC_PWRSTAT_PENDING = 0)
    (hlive : wakeLive s.power.state n = true) : let t := s.wakeRequest n
    t.get PRC_WAKESRC_SRC = setBit (s.get PRC_WAKESRC_SRC) n % 2 ^ 10 ∧ t.power.wakes.contains n = true ∧
      t.power.state = s.power.state := by
  have hseen : s.wakeRequest n = if s.power.wakes.contains n then s.wakeSeen n
      else { s.wakeSeen n with power := { s.power with wakes := s.power.wakes ++ [n] } } := by
    unfold State.wakeRequest
    rw [if_neg (by rw [henabled]; decide), if_neg (by rw [State.on_of_get_zero hidle]; decide), if_pos hlive]
    rfl
  have hsrc : (s.wakeSeen n).get PRC_WAKESRC_SRC = setBit (s.get PRC_WAKESRC_SRC) n % 2 ^ 10 := State.get_put_self _ _ _
  rw [hseen]
  split
  · next hknown => exact ⟨hsrc, hknown, rfl⟩
  · exact ⟨hsrc, by simp, rfl⟩

end

theorem powerWake_abandons {s : State} {n : Fin 10} (henabled : s.wakeEnabled n = true) (hpending : s.get PRC_PWRSTAT_PENDING = 1) :
    completes (.powerWake n) s fun t => t.get PRC_PWRSTAT_PENDING = 0 ∧ t.get PRC_PWRSTAT_RESULT = 1 ∧ t.power = s.power := by
  refine completes_of_goOn (congrArg goOn (State.wakeRequest_abandons henabled hpending)) ⟨?_, ?_, rfl⟩
  · rw [State.get_put_ne _ _ (by decide)]
    unfold State.entryRefused
    rw [State.get_put_ne _ _ (by decide), State.get_flag_bit _ _ rfl]
    rfl
  · rw [State.get_put_ne _ _ (by decide)]
    exact State.get_put_self _ _ 1

theorem State.advanceTo_mem (s : State) (target : Nat) : (s.advanceTo target).mem = s.mem := by
  unfold State.advanceTo State.advance
  split
  · split <;> rfl
  · rfl

theorem sleepTimer_due {s : State} {target : Nat} (hsleep : s.power.state = .sleep)
    (htarget : s.get PRC_SLPWAKE_L_TNET + s.get PRC_SLPWAKE_H_TNET * 2 ^ 32 = target) (hdue : s.tnet ≤ target) :
    exec .sleepTimer s = goOn ((s.advanceTo target).wakeRequest 8) := by
  show execSleepTimer s = _
  unfold execSleepTimer
  rw [htarget]
  exact if_neg fun h => h.elim (fun hne => hne hsleep) fun hpast => absurd hdue (Nat.not_le.mpr hpast)

/-- TNET reaches PRC_SLPWAKE in Sleep. -/
theorem sleepTimer_wakes {s : State} (hsleep : s.power.state = .sleep) (hidle : s.get PRC_PWRSTAT_PENDING = 0)
    (henabled : s.wakeEnabled 8 = true) (hdue : s.tnet ≤ s.get PRC_SLPWAKE_L_TNET + s.get PRC_SLPWAKE_H_TNET * 2 ^ 32) :
    completes .sleepTimer s fun t => t.power.wakes.contains 8 = true ∧ bit (t.get PRC_WAKESRC_SRC) 8 = true ∧ t.mem = s.mem := by
  generalize htarget : s.get PRC_SLPWAKE_L_TNET + s.get PRC_SLPWAKE_H_TNET * 2 ^ 32 = target at hdue
  have hmoves := s.advanceTo_moves target
  have hget : ∀ f : RegField, f.inBlock 0 → (s.advanceTo target).get f = s.get f := fun _ hf => hmoves.get_eq hf (by decide) rfl
  have hpower : (s.advanceTo target).power = s.power := hmoves.1 .power rfl
  have henabled' : (s.advanceTo target).wakeEnabled 8 = true := by
    unfold State.wakeEnabled at henabled ⊢
    rw [if_neg (by decide)] at henabled ⊢
    rwa [hpower, hget _ PRC_WAKEEN_EN_block]
  obtain ⟨hsrc, hwakes, _⟩ := State.wakeRequest_asks henabled' ((hget _ PRC_PWRSTAT_PENDING_block).trans hidle)
    (by rw [hpower, hsleep]; rfl)
  refine completes_of_goOn (sleepTimer_due hsleep htarget hdue) ⟨hwakes, ?_, (State.wakeRequest_mem _ 8).trans (s.advanceTo_mem target)⟩
  rw [hsrc, bit_mod_two_pow, bit_setBit]
  decide

/-! The return to Run (R455). -/

/-- `s` in Run again, from power state `p` by wake source `w`. -/
def State.inRun (s : State) (p : PowerState) (w : Nat) : State :=
  ((s.put PRC_PWRSTAT_LAST (powerCode p)).put PRC_WAKESRC_FIRST w).setPower { s.power with state := .run, wakes := [] }

/-- `s` with the return by the wakes `ws` announced. -/
def State.returnTold (s : State) (ws : List Nat) : State :=
  let called := (s.raise 1).raiseIf (ws.any fun w => decide (w < 4)) 115
  let seen := (called.raiseIf called.tag.event 120).setTagPort { called.tag with event := false }
  if seen.on MAC_CTRL_AUTO_POLL then seen.wantPoll else seen

theorem State.raiseIf_calm (s : State) (b : Bool) {n : Nat} (h : eventWake n = none) : Calm s (s.raiseIf b n) := by
  unfold State.raiseIf
  split
  · exact s.raise_calm h
  · exact .refl s

theorem State.event_raiseIf_of_event (s : State) (b : Bool) (n : Nat) {k : Nat} (h : s.event k = true) : (s.raiseIf b n).event k = true := by
  unfold State.raiseIf
  split
  · exact s.event_raise_of_event n h
  · exact h

/-- What an announcement keeps beside the registers of the controller. -/
def State.TimeKept (s t : State) : Prop := t.tnet = s.tnet ∧ t.mem = s.mem

theorem State.raiseIf_timeKept (s : State) (b : Bool) (n : Nat) : s.TimeKept (s.raiseIf b n) := by
  unfold State.raiseIf
  split
  · exact ⟨s.raise_tnet n, s.raise_mem n⟩
  · exact ⟨rfl, rfl⟩

section
variable (s : State) (ws : List Nat)

/-- The last part of the announcement, once E1 and E115 are raised. -/
def State.fieldTold (s : State) : State := (s.raiseIf s.tag.event 120).setTagPort { s.tag with event := false }

theorem State.returnTold_eq : s.returnTold ws =
    let seen := ((s.raise 1).raiseIf (ws.any fun w => decide (w < 4)) 115).fieldTold
    if seen.on MAC_CTRL_AUTO_POLL then seen.wantPoll else seen := rfl

theorem State.fieldTold_calm : Calm s s.fieldTold := (s.raiseIf_calm _ (by decide)).trans ((State.setTagPort_moves _ _).calm rfl rfl)

theorem State.event_fieldTold {k : Nat} (h : s.event k = true) : s.fieldTold.event k = true :=
  ((State.setTagPort_moves _ _).event_eq k rfl).trans (s.event_raiseIf_of_event _ 120 h)

theorem State.fieldTold_timeKept : s.TimeKept s.fieldTold := s.raiseIf_timeKept _ 120

theorem State.returnTold_calm : Calm s (s.returnTold ws) := by
  rw [State.returnTold_eq]
  extract_lets seen
  have hseen : Calm s seen := ((s.raise_calm (by decide)).trans (State.raiseIf_calm _ _ (by decide))).trans (State.fieldTold_calm _)
  split
  · exact hseen.trans (seen.wantPoll_moves.calm rfl rfl)
  · exact hseen

theorem State.wantPoll_mem : s.wantPoll.mem = s.mem := by
  unfold State.wantPoll
  split <;> rfl

theorem State.returnTold_timeKept : s.TimeKept (s.returnTold ws) := by
  rw [State.returnTold_eq]
  extract_lets seen
  obtain ⟨htnet, hmem⟩ := ((s.raise 1).raiseIf (ws.any fun w => decide (w < 4)) 115).fieldTold_timeKept
  obtain ⟨hcalledTnet, hcalledMem⟩ := (s.raise 1).raiseIf_timeKept (ws.any fun w => decide (w < 4)) 115
  have hseen : s.TimeKept seen := ⟨htnet.trans (hcalledTnet.trans (s.raise_tnet 1)), hmem.trans (hcalledMem.trans (s.raise_mem 1))⟩
  split
  · exact ⟨(seen.wantPoll_moves.1 .tnet rfl).trans hseen.1, seen.wantPoll_mem.trans hseen.2⟩
  · exact hseen

theorem State.event_returnTold {k : Nat} (h : ((s.raise 1).raiseIf (ws.any fun w => decide (w < 4)) 115).event k = true) :
    (s.returnTold ws).event k = true := by
  rw [State.returnTold_eq]
  extract_lets seen
  have hseen : seen.event k = true := State.event_fieldTold _ h
  split
  · exact (seen.wantPoll_moves.event_eq k rfl).trans hseen
  · exact hseen

theorem State.returnTold_up : (s.returnTold ws).event 1 = true :=
  s.event_returnTold ws (State.event_raiseIf_of_event _ _ _ (s.event_raise 1))

theorem State.returnTold_called {w : Nat} (hw : w < 4) : (s.returnTold (w :: ws)).event 115 = true := by
  apply s.event_returnTold
  unfold State.raiseIf
  rw [if_pos (by simp [hw])]
  exact State.event_raise _ 115

end

/-- The device is back in Run from power state `p` by wake source `w`. -/
def State.BackFrom (t : State) (p : PowerState) (w : Nat) : Prop :=
  t.power.state = .run ∧ t.power.wakes = [] ∧ t.get PRC_PWRSTAT_LAST = powerCode p ∧ t.get PRC_WAKESRC_FIRST = w ∧ t.event 1 = true

theorem State.inRun_back (s : State) {p : PowerState} {w : Nat} (hw : w < 10) (ws : List Nat) :
    ((s.inRun p w).returnTold ws).BackFrom p w := by
  obtain ⟨hpower, hget⟩ := (s.inRun p w).returnTold_calm ws
  refine ⟨congrArg Power.state hpower, congrArg Power.wakes hpower, ?_, ?_, State.returnTold_up _ ws⟩
  · rw [hget _ PRC_PWRSTAT_LAST_block]
    unfold State.inRun
    rw [State.get_setPower, State.get_put_ne _ _ (by decide), State.get_put_self]
    cases p <;> rfl
  · rw [hget _ PRC_WAKESRC_FIRST_block]
    unfold State.inRun
    rw [State.get_setPower, State.get_put_self]
    exact Nat.mod_eq_of_lt (hw.trans (by decide))

theorem State.deepReturn_shown (s : State) (n m : Nat) :
    (s.deepReturn n m).get PRC_PWRSTAT_TNET_RESTORED = 1 ∧ (s.deepReturn n m).get PRC_CTRL_PIN_HOLD = 1 := by
  generalize hz : (((s.initSram fun a => inSys a && s.granules.contains ((a - 0x20000000) / 0x4000)).resetBlock 16).resetBlock 19).precharge = z
  have hget : ∀ f : RegField, (s.deepReturn n m).get f =
      ((z.flag PRC_CTRL_PIN_HOLD true).flag PRC_PWRSTAT_TNET_RESTORED true).get f := by
    rw [← hz]
    exact fun _ => rfl
  rw [hget, hget]
  exact ⟨State.get_flag_bit _ _ rfl, (State.get_flag_ne _ _ (by decide)).trans (State.get_flag_bit _ _ rfl)⟩

section
variable {s : State} {w : Nat} {ws : List Nat} (n m : Nat) (hwakes : s.power.wakes = w :: ws)
include hwakes

theorem returnToRun_sleep (hsleep : s.power.state = .sleep) :
    exec (.returnToRun n m) s = goOn ((s.inRun .sleep w).returnTold (w :: ws)) := by
  show execReturnToRun n m s = _
  unfold execReturnToRun
  rw [if_neg (by simp [State.returning, hsleep, hwakes]), hwakes, hsleep]
  rfl

theorem returnToRun_deep (hdeep : s.power.state = .deep) :
    exec (.returnToRun n m) s = goOn (((s.deepReturn n m).inRun .deep w).returnTold (w :: ws)) := by
  show execReturnToRun n m s = _
  unfold execReturnToRun
  rw [if_neg (by simp [State.returning, hdeep, hwakes]), hwakes, hdeep]
  rfl

theorem returnToRun_fromSleep (hsleep : s.power.state = .sleep) (hw : w < 10) : completes (.returnToRun n m) s fun t =>
    t.BackFrom .sleep w ∧ (w < 4 → t.event 115 = true) ∧ t.tnet = s.tnet ∧ t.mem = s.mem := by
  obtain ⟨htnet, hmem⟩ := (s.inRun .sleep w).returnTold_timeKept (w :: ws)
  exact completes_of_goOn (returnToRun_sleep n m hwakes hsleep)
    ⟨s.inRun_back hw _, fun hport => State.returnTold_called _ ws hport, htnet, hmem⟩

/-- Deep returns with TNET restored from the calendar and the pads held. -/
theorem returnToRun_fromDeep (hdeep : s.power.state = .deep) (hw : w < 10) : completes (.returnToRun n m) s fun t =>
    t.BackFrom .deep w ∧ t.tnet = (s.power.savedTnet + n * 390625 / 128 + m) % 2 ^ 64 ∧ t.power.tnetRuns = true ∧
      t.get PRC_PWRSTAT_TNET_RESTORED = 1 ∧ t.get PRC_CTRL_PIN_HOLD = 1 := by
  obtain ⟨hpower, hget⟩ := ((s.deepReturn n m).inRun .deep w).returnTold_calm (w :: ws)
  obtain ⟨htnet, _⟩ := ((s.deepReturn n m).inRun .deep w).returnTold_timeKept (w :: ws)
  have hinRun : ∀ f : RegField, f.key ≠ PRC_PWRSTAT_LAST.key → f.key ≠ PRC_WAKESRC_FIRST.key →
      ((s.deepReturn n m).inRun .deep w).get f = (s.deepReturn n m).get f := fun f hlast hfirst =>
    (State.get_setPower _ _ f).trans ((State.get_put_ne _ _ hfirst).trans (State.get_put_ne _ _ hlast))
  obtain ⟨hrestored, hheld⟩ := s.deepReturn_shown n m
  refine completes_of_goOn (returnToRun_deep n m hwakes hdeep)
    ⟨State.inRun_back _ hw _, htnet.trans rfl, (congrArg Power.tnetRuns hpower).trans rfl, ?_, ?_⟩
  · rw [hget _ PRC_PWRSTAT_TNET_RESTORED_block, hinRun _ (by decide) (by decide), hrestored]
  · rw [hget _ PRC_CTRL_PIN_HOLD_block, hinRun _ (by decide) (by decide), hheld]

end

/-- A step of the return misses its timeout: CLOCK_FAIL for the clock, WAKE_TIMEOUT with the step for the others. -/
theorem wakeStepTimeout_requests {s : State} {st : Fin 5} (hstate : s.power.state = .sleep ∨ s.power.state = .deep)
    (hwakes : s.power.wakes ≠ []) (hst : st ≠ 0) : completes (.wakeStepTimeout st) s fun t =>
      t.power.resetReq.contains (if st = 2 then 0x09 else 0x0E) = true ∧
        (st ≠ 2 → t.get PRC_RSTCAUSE_STEP = if st = 1 then 1 else if st = 3 then 3 else 0) := by
  have hreturning : s.returning = true := by
    unfold State.returning
    obtain h | h := hstate <;> simp [h, hwakes]
  have hstarted : ¬((!s.returning) = true ∨ st = 0) := by simp [hreturning, hst]
  by_cases hclock : st = 2
  · subst hclock
    exact completes_of_goOn ((if_neg hstarted).trans (if_pos rfl)) ⟨State.requestReset_contains _ _, fun hne => absurd rfl hne⟩
  · refine completes_of_goOn ((if_neg hstarted).trans (if_neg hclock)) ⟨?_, fun _ => ?_⟩
    · rw [if_neg hclock]
      exact State.requestReset_contains _ _
    · rw [State.requestReset_get, State.get_put_self]
      split
      · rfl
      · split <;> rfl

/-- Settles O50. That TNET_RESTORED clears at entry, that what Deep does not retain is lost at entry, and that leaving
Standby is a POWER_ON reset are the model's choice (log entry 92). -/
theorem powerStateEntryAndReturn : Obligations.PowerStateEntryAndReturn := by
  unfold Obligations.PowerStateEntryAndReturn
  refine ⟨?_, ?_, ?_, ?_, ?_, ?_, ?_, ?_, ?_, ?_, ?_, ?_, ?_, ?_, ?_, ?_, ?_⟩
  · intro s hrun hidle hcompat hrecovery hcore0 hcore1 hwake
    exact sleepEnter_enters hrun hidle hcompat hrecovery hcore0 hcore1 hwake
  · intro s hrun hidle hcompat hrecovery hcore0 hcore1 hwake
    exact deepSleep_enters hrun hidle hcompat hrecovery hcore0 hcore1 hwake
  · intro s hrun hidle hcompat hrecovery hcore0 hcore1 hwake
    exact standbyEnter_enters hrun hidle hcompat hrecovery hcore0 hcore1 hwake
  · intro s hrun hidle hcompat hrecovery hcore0 hcore1
    exact powerOff_enters hrun hidle hcompat hrecovery hcore0 hcore1
  · intro s hrun hidle hmode
    exact powerCommands_eq hrun fun code hcode => State.powerCommand_moded hcode hidle hmode
  · intro s hrun hidle hcompat hrecovery hhalted
    exact powerCommands_eq hrun fun code hcode => State.powerCommand_halted hcode hidle hcompat hrecovery hhalted
  · intro s hrun hidle hcompat hrecovery hcore0 hcore1 hsleep hdeep hstandby
    have hrow : ∀ code, 1 ≤ code ∧ code ≤ 4 → powerTarget code ≠ .off → s.wakeable (powerTarget code) = false →
        s.powerRow code = .next (s.cmdTaken.entryRefused 3) := fun code hcode hoff hwake =>
      (State.powerRow_eq hrun code).trans
        (congrArg goOn (State.powerCommand_sleepless hcode hidle hcompat hrecovery hcore0 hcore1 hoff hwake))
    exact ⟨hrow 1 (by decide) (by decide) hsleep, hrow 2 (by decide) (by decide) hdeep, hrow 3 (by decide) (by decide) hstandby⟩
  · intro s hrun hpending
    obtain ⟨hsleep, hdeep, hstandby, hoff⟩ := powerCommands_eq hrun fun code _ => State.powerCommand_busy hpending code
    exact ⟨hsleep, hdeep, hstandby, hoff, congrArg goOn (if_pos (State.on_of_get_one hpending))⟩
  · intro s hpending hready htarget
    refine (powerEntryComplete_enters hpending hready htarget).imp ?_
    rintro t ⟨hexec, ⟨hstate, hidle, hresult, hentries, hoff, hwindow⟩, hlow, hdeep, hstandby⟩
    exact ⟨hexec, hstate, hidle, hresult, hentries, hoff, hwindow, hlow, hdeep, hstandby⟩
  · intro s hdoze hwakes
    exact dozeExit_ends hdoze hwakes
  · intro s n henabled hidle hlive
    exact completes_of_goOn rfl (State.wakeRequest_asks henabled hidle hlive)
  · intro s n henabled hpending
    exact powerWake_abandons henabled hpending
  · intro s n hunheard
    exact completes_of_goOn rfl (State.wakeRequest_unheard hunheard)
  · intro s n m w ws hsleep hwakes hw
    refine (returnToRun_fromSleep n m hwakes hsleep hw).imp ?_
    rintro t ⟨hexec, ⟨hrun, hnone, hlast, hfirst, hup⟩, hport, htnet, hmem⟩
    exact ⟨hexec, hrun, hnone, hlast, hfirst, hup, hport, htnet, hmem⟩
  · intro s n m w ws hdeep hwakes hw
    refine (returnToRun_fromDeep n m hwakes hdeep hw).imp ?_
    rintro t ⟨hexec, ⟨hrun, _, hlast, hfirst, hup⟩, htnet, hruns, hrestored, hheld⟩
    exact ⟨hexec, hrun, hlast, hfirst, hup, htnet, hruns, hrestored, hheld⟩
  · intro s st hstate hwakes hst
    exact wakeStepTimeout_requests hstate hwakes hst
  · intro s hsleep hidle henabled hdue
    exact sleepTimer_wakes hsleep hidle henabled hdue

end Sys2Proof.Machine

/-! ## Transports of the host (O42) -/
namespace Sys2Proof.Machine

/-! What a frame holds (R360). -/

theorem crcHolds_withCrc (b : List Byte) : crcHolds (withCrc b) = true := by
  have hlength : (withCrc b).length - 2 = b.length := by simp [withCrc]
  unfold crcHolds
  rw [hlength, withCrc, leAt_end b 2 _ rfl, List.take_left, Nat.mod_eq_of_lt (show crc16 b < 256 ^ 2 from crc16_lt b)]
  exact beq_self_eq_true _

section
variable (opc : Fin 256) (tid : Fin 65536) (p : List Byte)

/-- What follows the header of the frame of a request. -/
def odpTrail : List Byte := p ++ leBytes 2 (crc16 (leBytes 1 1 ++ leBytes 1 opc ++ leBytes 2 tid ++ leBytes 2 p.length ++ p))

theorem odpFrame_eq : odpFrame opc tid p =
    leBytes 1 1 ++ (leBytes 1 opc ++ (leBytes 2 tid ++ (leBytes 2 p.length ++ odpTrail opc tid p))) := by
  unfold odpFrame withCrc odpTrail
  simp only [List.append_assoc]

theorem odpFrame_length : (odpFrame opc tid p).length = 8 + p.length := by
  rw [odpFrame_eq]
  simp [odpTrail]
  omega

theorem odpSound_odpFrame : odpSound (odpFrame opc tid p) = true := by
  have hver : leAt (odpFrame opc tid p) 0 1 = 1 := by
    rw [odpFrame_eq]
    exact leAt_start 1 1 _
  unfold odpSound
  rw [hver]
  exact Bool.and_eq_true_iff.mpr ⟨crcHolds_withCrc _, rfl⟩

theorem odpOpc_odpFrame : odpOpc (odpFrame opc tid p) = opc := by
  unfold odpOpc
  rw [odpFrame_eq]
  exact (leAt_field (leBytes 1 1) _ _ rfl).trans (Nat.mod_eq_of_lt opc.isLt)

theorem odpTid_odpFrame : odpTid (odpFrame opc tid p) = tid := by
  unfold odpTid
  rw [odpFrame_eq, ← List.append_assoc]
  exact (leAt_field (leBytes 1 1 ++ leBytes 1 opc) _ _ rfl).trans (Nat.mod_eq_of_lt tid.isLt)

variable {p} (hp : p.length < 65536)
include hp

theorem leAt_odpFrame_length : leAt (odpFrame opc tid p) 4 2 = p.length := by
  rw [odpFrame_eq, ← List.append_assoc, ← List.append_assoc]
  exact (leAt_field (leBytes 1 1 ++ leBytes 1 opc ++ leBytes 2 tid) _ _ rfl).trans (Nat.mod_eq_of_lt hp)

theorem odpLength_odpFrame : odpLength (odpFrame opc tid p) = (odpFrame opc tid p).length := by
  unfold odpLength
  rw [leAt_odpFrame_length opc tid hp, odpFrame_length]

theorem odpPayload_odpFrame : odpPayload (odpFrame opc tid p) = p := by
  unfold odpPayload
  rw [leAt_odpFrame_length opc tid hp, odpFrame_eq, ← List.append_assoc, ← List.append_assoc, ← List.append_assoc,
    List.drop_left' (by simp)]
  exact List.take_left' rfl

/-- A sound frame of a request is counted and served. -/
theorem State.frameIn_odpFrame (s : State) (who : HostId) (e : HostEnv) : s.frameIn who (odpFrame opc tid p) e =
    (s.bump HDP_CNT0_ACCEPTED).odpRequest who opc tid p (odpFrame opc tid p) e := by
  unfold State.frameIn
  rw [odpSound_odpFrame, odpOpc_odpFrame, odpTid_odpFrame, odpPayload_odpFrame opc tid hp]
  rfl

theorem odpFrame_whole : ¬((odpFrame opc tid p).length < 8 ∨ (odpFrame opc tid p).length < odpLength (odpFrame opc tid p)) := by
  rw [odpLength_odpFrame opc tid hp, odpFrame_length]
  omega

end

/-! The UART (R364). -/

section
variable {s : State} {env : HostEnv} {data f : List Byte} (hlive : s.portLive 3 = true) (hplain : uartPlain data = some f)
include hlive hplain

/-- A frame of the length that its header gives is taken in. -/
theorem uartFrame_takes (hlong : 8 ≤ f.length) (hlength : f.length = odpLength f) :
    exec (.uartFrame data env) s = goOn (s.hostStart.frameIn { transport := 3 } f env) := by
  have hdata : data ≠ [] := fun h => by
    rw [h] at hplain
    have hempty : f = [] := (Option.some.inj hplain).symm
    rw [hempty] at hlong
    exact absurd hlong (by decide)
  show execUartFrame data env s = _
  unfold execUartFrame
  extract_lets start
  have hstart : start.portLive 3 = true := hlive
  rw [hstart, if_neg (by decide), if_neg hdata, hplain]
  exact if_neg fun h => h.elim (fun hshort => absurd hlong (by omega)) fun hne => hne hlength

end

theorem State.odpFrom_live {s : State} {who : HostId} (h : s.portLive who.transport = true) (opc tid : Nat) (p : List Byte) (e : HostEnv) :
    s.odpFrom who opc tid p e = (s.hostStart.bump HDP_CNT0_ACCEPTED).odpRequest who opc tid p (odpFrame opc tid p) e :=
  if_pos h

theorem uartFrame_serves {s : State} {env : HostEnv} {opc : Fin 256} {tid : Fin 65536} {p data : List Byte}
    (hlive : s.portLive 3 = true) (hp : p.length < 65536) (hplain : uartPlain data = some (odpFrame opc tid p)) :
    exec (.uartFrame data env) s = goOn (s.odpFrom { transport := 3 } opc tid p env) := by
  rw [uartFrame_takes hlive hplain (by rw [odpFrame_length]; omega) (odpLength_odpFrame opc tid hp).symm,
    State.frameIn_odpFrame opc tid hp, State.odpFrom_live hlive]

theorem State.frameIn_unsound {f : List Byte} (h : odpSound f = false) (s : State) (who : HostId) (e : HostEnv) :
    s.frameIn who f e = s.bump HDP_CNT0_CRC_ERR :=
  if_pos (by rw [h]; rfl)

/-- A frame on a port that is not live is lost; in Run it wakes nothing. -/
theorem uartFrame_lost {s : State} (hdead : s.portLive 3 = false) (hrun : s.power.state = .run) (data : List Byte) (env : HostEnv) :
    exec (.uartFrame data env) s = .next s.hostStart := by
  have hwake : s.hostStart.portWake 3 = s.hostStart := if_neg fun h => by
    have hstate : s.hostStart.power.state = .run := hrun
    rw [hstate] at h
    exact absurd h.1 (by decide)
  have hexec : exec (.uartFrame data env) s = goOn (s.hostStart.portWake 3) := if_pos (by
    show (!s.portLive 3) = true
    rw [hdead]
    rfl)
  rw [hexec, hwake]
  rfl

/-! Datagrams (R363). -/

theorem udpDatagram_serves {s : State} {dst : Fin 65536} (ip : Word) (src : Fin 65536) (env : HostEnv) (opc : Fin 256) (tid : Fin 65536)
    {p : List Byte} (hlive : s.portLive 2 = true) (hp : p.length < 65536) (hport : dst.val = s.get HDP_UDPPORT_ODP_PORT) :
    exec (.udpDatagram ip src dst (odpFrame opc tid p) env) s =
      goOn (s.odpFrom { transport := 2, addr := ip.toNat + src.val * 2 ^ 32 } opc tid p env) := by
  have hwho : withPort ip.toNat src = ip.toNat + src.val * 2 ^ 32 := by
    unfold withPort
    rw [Nat.mod_eq_of_lt ip.isLt]
  rw [State.odpFrom_live hlive, ← State.frameIn_odpFrame opc tid hp, ← hwho]
  show execUdpDatagram ip src dst (odpFrame opc tid p) env s = _
  unfold execUdpDatagram
  extract_lets start who
  have hstart : start.portLive 2 = true := hlive
  have hstartPort : dst.val = start.get HDP_UDPPORT_ODP_PORT := hport
  rw [hstart, if_neg (by decide), if_pos hstartPort, if_pos ⟨by rw [odpFrame_length]; omega, (odpLength_odpFrame opc tid hp).symm⟩]

/-! Segments on the CAN bus (R362). -/

section
variable {s : State} {env : HostEnv} (hlive : s.portLive 1 = true) (hbus : s.get HDP_STATUS_CAN_STATE ≠ 2)
include hlive hbus

theorem canSegment_taken {n : Fin 16} {b : Byte} {d : List Byte} (hroom : d.length ≤ 7 ∨ (s.get HDP_CANCFG_FD_EN ≠ 0 ∧ d.length ≤ 63)) :
    exec (.canSegment n (b :: d) env) s = goOn (s.hostStart.canSegment n b.toNat d env) := by
  have htaken : ¬(s.hostStart.get HDP_STATUS_CAN_STATE = 2 ∨ 64 < (b :: d).length ∨
      (8 < (b :: d).length ∧ (!s.hostStart.on HDP_CANCFG_FD_EN) = true)) := by
    have hstart : s.hostStart.get HDP_STATUS_CAN_STATE ≠ 2 := hbus
    have hfd : s.get HDP_CANCFG_FD_EN ≠ 0 → s.hostStart.on HDP_CANCFG_FD_EN = true := fun h => s.hostStart.on_of_get_ne_zero h
    rw [List.length_cons]
    rintro (h | h | ⟨hlong, hclassic⟩)
    · exact hstart h
    · omega
    · obtain hshort | ⟨hon, _⟩ := hroom
      · omega
      · rw [hfd hon] at hclassic
        exact absurd hclassic (by decide)
  show execCanSegment n (b :: d) env s = _
  unfold execCanSegment
  extract_lets start
  have hstart : start.portLive 1 = true := hlive
  rw [hstart, if_neg (by decide)]
  exact if_neg htaken

end

/-- A FIRST segment with nothing held is kept. -/
theorem State.canSegment_first {s : State} {m : Nat} (hnext : (s.canPart m).next = 0) (hbytes : (s.canPart m).bytes = [])
    (d : List Byte) (e : HostEnv) : (s.canSegment m 0x80 d e).canPart m = ⟨1, d⟩ := by
  have hkept : s.canSegment m 0x80 d e = s.setCanPart m ⟨1, d⟩ := by
    unfold State.canSegment
    extract_lets part held first seq cleared part' b
    have hheld : held = false := by simp [held, part, hnext]
    have hcleared : cleared = s := if_neg (by simp [hheld])
    have hpart' : part' = s.canPart m := congrArg (·.canPart m) hcleared
    have hfirst : first = true := by decide
    have hb : b = d := by
      show part'.bytes ++ d = d
      rw [hpart', hbytes, List.nil_append]
    rw [hb, hpart', hnext, hcleared, hfirst, if_neg (by simp [seq]), if_pos (by decide)]
  rw [hkept]
  exact (Sparse.read_write (⟨0, []⟩ : CanPart) s.host.can m m ⟨1, d⟩).trans (if_pos rfl)

/-- The last segment completes the frame of a request. -/
theorem State.canSegment_last {s : State} {m : Nat} {d : List Byte} {opc : Fin 256} {tid : Fin 65536} {p : List Byte}
    (hp : p.length < 65536) (hnext : (s.canPart m).next ≠ 0) (hframe : (s.canPart m).bytes ++ d = odpFrame opc tid p) (e : HostEnv) :
    s.canSegment m (64 + (s.canPart m).next % 64) d e =
      ((s.setCanPart m ⟨0, []⟩).bump HDP_CNT0_ACCEPTED).odpRequest { transport := 1, addr := m } opc tid p (odpFrame opc tid p) e := by
  generalize hhead : 64 + (s.canPart m).next % 64 = head
  have hseq : head % 64 = (s.canPart m).next % 64 := by omega
  have hfirstBit : bit head 7 = false := by simp [bit]; omega
  have hlastBit : bit head 6 = true := by simp [bit]; omega
  unfold State.canSegment
  extract_lets part held first seq cleared part' b ended
  have hfirst : first = false := hfirstBit
  have hcleared : cleared = s := if_neg (by simp [hfirst]; exact fun _ => hseq)
  have hpart' : part' = s.canPart m := congrArg (·.canPart m) hcleared
  have hb : b = odpFrame opc tid p := by
    show part'.bytes ++ d = _
    rw [hpart', hframe]
  have hended : ended = s.setCanPart m ⟨0, []⟩ := congrArg (·.setCanPart m ⟨0, []⟩) hcleared
  rw [hb, hended, hpart', hfirst, hlastBit, if_neg (by simp [hnext]), if_neg (by decide), if_neg (odpFrame_whole opc tid hp),
    odpLength_odpFrame opc tid hp, List.take_length, State.frameIn_odpFrame opc tid hp]

/-! Transactions on the SPI (R361). -/

theorem takeFrames_nil {head : Nat} (h : 0 < head) (len : List Byte → Nat) (fuel : Nat) : takeFrames head len fuel [] = ([], []) := by
  cases fuel with
  | zero => rfl
  | succ fuel => exact if_pos (.inl h)

/-- One whole frame is taken from a stream that holds it. -/
theorem takeFrames_whole {head : Nat} {len : List Byte → Nat} {f : List Byte} (h : 0 < head) (hhead : head ≤ f.length)
    (hlen : len f = f.length) : takeFrames head len f.length f = ([f], []) := by
  obtain ⟨fuel, hfuel⟩ : ∃ fuel, f.length = fuel + 1 := ⟨f.length - 1, by omega⟩
  have hstep : takeFrames head len (fuel + 1) f =
      (f.take (len f) :: (takeFrames head len fuel (f.drop (len f))).1, (takeFrames head len fuel (f.drop (len f))).2) :=
    if_neg (by omega)
  rw [hfuel, hstep, hlen, List.drop_length, List.take_length, takeFrames_nil h]

theorem State.spiServe_frame {s : State} {f : List Byte} (hin : s.host.dictIn = f) (hlong : 6 ≤ f.length) (hlen : odpLength f = f.length)
    (e : HostEnv) : s.spiServe false e = (s.spiInput false []).frameIn { transport := 0 } f e := by
  have htake : takeFrames 6 odpLength s.host.dictIn.length s.host.dictIn = ([f], []) := by
    rw [hin]
    exact takeFrames_whole (by decide) hlong hlen
  show (takeFrames 6 odpLength s.host.dictIn.length s.host.dictIn).1.foldl _
    (s.spiInput false (takeFrames 6 odpLength s.host.dictIn.length s.host.dictIn).2) = _
  rw [htake]
  rfl

theorem State.spiServe_nothing {s : State} (hin : s.host.dictIn = []) (e : HostEnv) : s.spiServe false e = s := by
  have htake : takeFrames 6 odpLength s.host.dictIn.length s.host.dictIn = ([], []) := by
    rw [hin]
    rfl
  have hkept : s.spiInput false [] = s := by
    unfold State.spiInput State.setHost
    rw [← hin]
    rfl
  show (takeFrames 6 odpLength s.host.dictIn.length s.host.dictIn).1.foldl _
    (s.spiInput false (takeFrames 6 odpLength s.host.dictIn.length s.host.dictIn).2) = _
  rw [htake]
  exact hkept

/-- `s` with `n` bytes gone from the output of channel 0. -/
def State.spiRead (s : State) (n : Nat) : State :=
  s.setHost { s.host with dictOut := s.host.dictOut.drop n, lastDiscard := false }

/-- A stream into an empty input is taken whole. -/
theorem State.spiStream_empty {s : State} (hin : s.host.dictIn = []) {len : Nat} (hlen : len ≤ 4096) (n : Nat) (data : List Byte)
    (e : HostEnv) : s.spiStream false false len n data e = ((s.spiRead n).spiInput false (data.take len)).spiServe false e := by
  have hroom : ¬4096 < s.host.dictIn.length + len := by
    rw [hin]
    simp
    omega
  have hread : (s.spiTake false n).setHost { (s.spiTake false n).host with lastDiscard := decide (4096 < s.host.dictIn.length + len) } =
      s.spiRead n := by
    rw [decide_eq_false hroom]
    rfl
  have hheld : s.host.dictIn ++ data.take len = data.take len := by rw [hin, List.nil_append]
  unfold State.spiStream
  extract_lets taken flushed held host noted
  have hnoted : noted = s.spiRead n := hread
  rw [hnoted]
  show (if 4096 < s.host.dictIn.length + len then _ else ((s.spiRead n).spiInput false (s.host.dictIn ++ data.take len)).spiServe false e) = _
  rw [if_neg hroom, hheld]

/-- The bytes that come back for `n` bytes after the header. -/
def State.spiAnswer (s : State) (n : Nat) : List Byte :=
  [0x5A] ++ leBytes 1 s.spiFlags ++ leBytes 2 (s.spiAvail false) ++ bytesAt (s.host.dictOut.take (s.spiAvail false)) 0 n

theorem State.spiAnswer_length (s : State) (n : Nat) : (s.spiAnswer n).length = n + 4 := by
  unfold State.spiAnswer bytesAt
  simp
  omega

/-- `s` with `bytes` put on the output of its port. -/
def State.spiTold (s : State) (bytes : List Byte) : State := s.setHost { s.host with output := bytes }

/-- A transaction on channel 0 whose header gives `len` bytes. -/
theorem spiTransaction_streams {s : State} (hlive : s.portLive 0 = true) {len : Nat} (hlen : len < 65536) (data : List Byte) (env : HostEnv) :
    let t := s.hostStart.spiStream false false len (min (s.hostStart.spiAvail false) data.length) data env
    exec (.spiTransaction ([0xA5, 0] ++ leBytes 2 len ++ data) false true env) s =
      goOn (t.spiTold (s.hostStart.spiAnswer data.length)) := by
  generalize hmosi : [0xA5, 0] ++ leBytes 2 len ++ data = mosi
  have hbytes : mosi.length = data.length + 4 := by
    rw [← hmosi]
    simp
    omega
  have hchannel : leAt mosi 1 1 = 0 := by
    rw [← hmosi]
    rfl
  have hcount : leAt mosi 2 2 = len := by
    rw [← hmosi, List.append_assoc]
    exact (leAt_field [0xA5, 0] len data rfl).trans (Nat.mod_eq_of_lt hlen)
  have hvalid : mosi.head? = some 0xA5 := by
    rw [← hmosi]
    rfl
  have hdata : mosi.drop 4 = data := by
    rw [← hmosi]
    exact List.drop_left' (by simp)
  have hrest : mosi.length - 4 = data.length := by omega
  show execSpiTransaction mosi false true env s = _
  unfold execSpiTransaction
  extract_lets start host plane avail out n head valid miso streamed
  have hstart : start.portLive 0 = true := hlive
  have hplane : plane = false := congrArg (bit · 0) hchannel
  have hvalid' : valid = true := decide_eq_true hvalid
  have hn : n = data.length := hrest
  have havail : avail = s.hostStart.spiAvail false := congrArg s.hostStart.spiAvail hplane
  have hstreamed : streamed = s.hostStart.spiStream false false len (min (s.hostStart.spiAvail false) data.length) data env := by
    unfold streamed
    rw [if_pos ⟨hvalid', by omega⟩, hplane, hchannel, hcount, hdata, havail, hn]
    rfl
  have hmiso : miso = s.hostStart.spiAnswer data.length := by
    unfold miso head out
    rw [if_pos hvalid', hplane, havail, hn]
    rfl
  rw [hstart, if_neg (by decide), if_neg (by decide)]
  show goOn (streamed.spiTold (miso.take mosi.length)) = _
  rw [hstreamed, hmiso, hbytes, List.take_of_length_le (by rw [State.spiAnswer_length])]

section
variable {s : State} (hlive : s.portLive 0 = true) (hin : s.host.dictIn = [])
include hlive hin

/-- A transaction that brings the frame of a request serves it. -/
theorem spiTransaction_serves {p : List Byte} (hp : p.length ≤ 1400) (opc : Fin 256) (tid : Fin 65536) (env : HostEnv) :
    let z := s.hostStart.spiRead (min (min 4096 s.hostStart.host.dictOut.length) (8 + p.length))
    exec (.spiTransaction ([0xA5, 0] ++ leBytes 2 (8 + p.length) ++ odpFrame opc tid p) false true env) s =
      goOn (((z.bump HDP_CNT0_ACCEPTED).odpRequest { transport := 0 } opc tid p (odpFrame opc tid p) env).spiTold
        (s.hostStart.spiAnswer (8 + p.length))) := by
  intro z
  have hlong : p.length < 65536 := by omega
  have hz : (z.spiInput false (odpFrame opc tid p)).spiInput false [] = z := by
    have hempty : z.host.dictIn = [] := hin
    rw [← hempty]
    rfl
  have hstream : s.hostStart.spiStream false false (8 + p.length) (min (s.hostStart.spiAvail false) (odpFrame opc tid p).length)
      (odpFrame opc tid p) env = (z.bump HDP_CNT0_ACCEPTED).odpRequest { transport := 0 } opc tid p (odpFrame opc tid p) env := by
    rw [State.spiStream_empty (s := s.hostStart) hin (by omega), List.take_of_length_le (by rw [odpFrame_length]), odpFrame_length,
      State.spiServe_frame (f := odpFrame opc tid p) rfl (by rw [odpFrame_length]; omega) (odpLength_odpFrame opc tid hlong),
      ← State.frameIn_odpFrame opc tid hlong]
    exact congrArg (·.frameIn { transport := 0 } (odpFrame opc tid p) env) hz
  rw [spiTransaction_streams hlive (by omega), hstream, odpFrame_length]

/-- A transaction that writes nothing reads the output. -/
theorem spiTransaction_reads (n : Nat) :
    exec (.spiTransaction ([0xA5, 0, 0, 0] ++ List.replicate n 0) false true {}) s =
      goOn (((s.hostStart.spiRead (min (s.hostStart.spiAvail false) n)).spiInput false []).spiTold (s.hostStart.spiAnswer n)) := by
  have hstream : s.hostStart.spiStream false false 0 (min (s.hostStart.spiAvail false) (List.replicate n (0 : Byte)).length)
      (List.replicate n 0) {} = (s.hostStart.spiRead (min (s.hostStart.spiAvail false) n)).spiInput false [] := by
    rw [State.spiStream_empty (s := s.hostStart) hin (by decide), List.length_replicate]
    exact State.spiServe_nothing rfl _
  have hexec := spiTransaction_streams hlive (len := 0) (by decide) (List.replicate n 0) {}
  rw [hstream, List.length_replicate] at hexec
  exact hexec

end

theorem State.spiAnswer_avail (s : State) (n : Nat) : leAt (s.spiAnswer n) 2 2 = s.spiAvail false % 2 ^ 16 := by
  unfold State.spiAnswer
  rw [List.append_assoc]
  exact leAt_field ([0x5A] ++ leBytes 1 s.spiFlags) _ _ rfl

/-- After the header come the bytes of the output. -/
theorem State.spiAnswer_bytes {s : State} (h : s.host.dictOut.length ≤ 4096) (n : Nat) :
    ((s.spiAnswer n).drop 4).take (min n s.host.dictOut.length) = s.host.dictOut.take n := by
  have havail : s.spiAvail false = s.host.dictOut.length := Nat.min_eq_right h
  have hbytes : (s.spiAnswer n).drop 4 = bytesAt s.host.dictOut 0 n := by
    unfold State.spiAnswer
    rw [havail, List.take_length]
    exact List.drop_left' (by simp)
  rw [hbytes]
  exact List.take_left' (by simp)

/-! Bus-off and the link (R362, R359). -/

theorem canBusoff_shown {s : State} (hlive : s.portLive 1 = true) : completes .canBusoff s fun t =>
    t.get HDP_STATUS_CAN_STATE = 2 ∧ t.event 117 = true :=
  completes_of_goOn (congrArg goOn (if_pos hlive))
    ⟨((State.raise_moves _ 117).get_eq HDP_STATUS_CAN_STATE_block (by decide) rfl).trans (State.get_put_self _ _ 2), State.event_raise _ 117⟩

theorem ethLink_shown {s : State} (link m100 fdx : Bool) (hlive : s.portLive 2 = true) : completes (.ethLink link m100 fdx) s fun t =>
    t.get HDP_STATUS_ETH_LINK = ofBool link ∧ t.get HDP_STATUS_ETH_100 = ofBool (link && m100) ∧
      t.get HDP_STATUS_ETH_FDX = ofBool (link && fdx) ∧ (s.get HDP_STATUS_ETH_LINK = 0 → link = true → t.event 116 = true) := by
  generalize hz : ((s.flag HDP_STATUS_ETH_LINK link).flag HDP_STATUS_ETH_100 (link && m100)).flag HDP_STATUS_ETH_FDX (link && fdx) = z
  have hexec : exec (.ethLink link m100 fdx) s = goOn (z.raiseIf (s.on HDP_STATUS_ETH_LINK != link) 116) := by
    rw [← hz]
    exact if_neg (by rw [hlive]; decide)
  have hkept : ∀ f : RegField, f.inBlock 14 → (z.raiseIf (s.on HDP_STATUS_ETH_LINK != link) 116).get f = z.get f := fun _ hf =>
    (State.raiseIf_moves _ _ _).get_eq hf (by decide) rfl
  refine completes_of_goOn hexec ⟨?_, ?_, ?_, fun hdown hlink => ?_⟩
  · rw [hkept _ HDP_STATUS_ETH_LINK_block, ← hz, State.get_flag_ne _ _ (by decide), State.get_flag_ne _ _ (by decide)]
    exact State.get_flag_bit _ _ rfl
  · rw [hkept _ HDP_STATUS_ETH_100_block, ← hz, State.get_flag_ne _ _ (by decide)]
    exact State.get_flag_bit _ _ rfl
  · rw [hkept _ HDP_STATUS_ETH_FDX_block, ← hz]
    exact State.get_flag_bit _ _ rfl
  · unfold State.raiseIf
    rw [if_pos (by rw [State.on_of_get_zero hdown, hlink]; rfl)]
    exact State.event_raise _ 116

/-! ARP and ICMP (R359). -/

/-- `s` with frame `f` sent to a host on Ethernet. -/
def State.ethSent (s : State) (ip : Word) (f : List Byte) : State :=
  s.hostStart.setHost { s.hostStart.host with sent := [({ transport := 2, addr := ip.toNat }, f)] }

/-- What follows the first eight octets of an ARP reply. -/
def State.arpBody (s : State) (mac : Nat) (ip dst : Word) : List Byte :=
  s.ethMac ++ (leBytes 4 dst.toNat).reverse ++ leBytes 6 mac ++ (leBytes 4 ip.toNat).reverse

theorem arpRequest_answered {s : State} {dst : Word} (mac : Nat) (ip : Word) (hlive : s.portLive 2 = true)
    (hdst : dst.toNat = s.get HDP_IPADDR_ADDR) :
    exec (.arpRequest mac ip dst) s = goOn (s.ethSent ip ([0, 1, 8, 0, 6, 4, 0, 2] ++ s.arpBody mac ip dst)) := by
  have hdst' : ¬dst.toNat ≠ s.hostStart.get HDP_IPADDR_ADDR := not_not_intro hdst
  have hreply : beBytes 2 1 ++ beBytes 2 0x0800 ++ [6, 4] ++ beBytes 2 2 ++ s.hostStart.ethMac ++ beBytes 4 dst.toNat ++
      leBytes 6 mac ++ beBytes 4 ip.toNat = [0, 1, 8, 0, 6, 4, 0, 2] ++ s.arpBody mac ip dst := by
    unfold State.arpBody
    rw [← List.append_assoc, ← List.append_assoc, ← List.append_assoc]
    rfl
  show execArpRequest mac ip dst s = _
  unfold execArpRequest
  extract_lets start
  have hstart : start.portLive 2 = true := hlive
  rw [hstart, if_neg (by decide), if_neg hdst', ← hreply]
  rfl

theorem icmpEchoRequest_answered {s : State} (ip : Word) {data : List Byte} (hlive : s.portLive 2 = true) (hlong : 8 ≤ data.length)
    (hecho : leAt data 0 2 = 8) : exec (.icmpEchoRequest ip data) s =
      goOn (s.ethSent ip ([0, 0] ++ beBytes 2 (inetSum ([0, 0, 0, 0] ++ data.drop 4)) ++ data.drop 4)) := by
  show execIcmpEchoRequest ip data s = _
  unfold execIcmpEchoRequest
  extract_lets start
  have hstart : start.portLive 2 = true := hlive
  rw [hstart, if_neg (by decide), if_neg (by omega)]
  rfl

/-- Settles O42. That the octets of ARP, IPv4 and ICMP follow the standards named there and that the link is served while the
port is live (log entry 73), and what the ports do in the corner cases (log entry 67), is the model's choice. -/
theorem hostTransportsFrameRequests : Obligations.HostTransportsFrameRequests := by
  unfold Obligations.HostTransportsFrameRequests
  refine ⟨?_, ?_, ?_, ?_, ?_, ?_, ?_, ?_, ?_, ?_, ?_, ?_, ?_⟩
  · intro s env opc tid p data hlive hp hplain
    exact completes_of_goOn (uartFrame_serves hlive hp hplain) rfl
  · intro s env data f hlive hplain hlong hlength hunsound
    exact completes_of_goOn (uartFrame_takes hlive hplain hlong hlength) (State.frameIn_unsound hunsound _ _ _)
  · intro s ip src dst env opc tid p hlive hp hport
    exact completes_of_goOn (udpDatagram_serves ip src env opc tid hlive hp hport) rfl
  · intro s n env opc tid p d x hlive hbus hfd hp hpart hnext hd hframe
    subst hpart
    have hhead : (BitVec.ofNat 8 (64 + (s.canPart n).next % 64)).toNat = 64 + (s.canPart n).next % 64 := by
      rw [BitVec.toNat_ofNat]
      omega
    have hexec := canSegment_taken (env := env) (n := n) (b := BitVec.ofNat 8 (64 + (s.canPart n).next % 64)) hlive hbus (.inr ⟨hfd, hd⟩)
    rw [hhead] at hexec
    exact completes_of_goOn hexec (State.canSegment_last (s := s.hostStart) hp hnext hframe env)
  · intro s n env d hlive hbus hroom hnext hbytes
    exact completes_of_goOn (canSegment_taken hlive hbus hroom) (State.canSegment_first (s := s.hostStart) hnext hbytes d env)
  · intro s env opc tid p u v hlive hp hin hu hv
    subst hu hv
    exact completes_of_goOn (spiTransaction_serves hlive hin hp opc tid env) rfl
  · intro s n hlive hin hout
    have hout' : s.hostStart.host.dictOut.length ≤ 4096 := hout
    have havail : s.hostStart.spiAvail false = s.host.dictOut.length := Nat.min_eq_right hout
    refine completes_of_goOn (spiTransaction_reads hlive hin n)
      ⟨s.hostStart.spiAnswer_length n, rfl, ?_, State.spiAnswer_bytes hout' n, ?_⟩
    · refine (s.hostStart.spiAnswer_avail n).trans ?_
      rw [havail]
      exact Nat.mod_eq_of_lt (by omega)
    · show s.host.dictOut.drop (min (s.hostStart.spiAvail false) n) = s.host.dictOut.drop n
      rw [havail, List.drop_eq_drop_iff]
      omega
  · intro s hlive
    exact canBusoff_shown hlive
  · intro s hoff
    exact congrArg goOn (if_pos hoff)
  · intro s link m100 fdx hlive
    exact ethLink_shown link m100 fdx hlive
  · intro s mac ip dst hlive hdst
    have hbody : (s.arpBody mac ip dst).length = 20 := by simp [State.arpBody, State.ethMac]
    have htaken : (s.arpBody mac ip dst).take 10 = s.ethMac ++ (leBytes 4 dst.toNat).reverse := by
      unfold State.arpBody
      rw [List.append_assoc _ (leBytes 6 mac)]
      exact List.take_left' (by simp [State.ethMac])
    refine completes_of_goOn (arpRequest_answered mac ip hlive hdst) ⟨?_, ?_⟩
    · simp [State.ethSent, State.setHost, hbody]
    · simp [State.ethSent, State.setHost, htaken]
  · intro s ip a b c d rest hlive
    exact completes_of_goOn (icmpEchoRequest_answered ip hlive (by simp) rfl) rfl
  · intro s env data hdead hrun
    exact uartFrame_lost hdead hrun data env

end Sys2Proof.Machine
